-- ==== Sys2Proof/Syntax.lean ====
section
/-! DEFINITION. The commands the block takes: one constructor of `Instr` for each row of spec/opcode_table.json, with the
operands that come with the command, and the operand types. -/

namespace Sys2Proof

/-- What a motor's observer and model give for a period (R235), whose gains and models the manual does not state: the speed (0.1 rpm, for a
carousel 0.001 rpm), the electrical angle, the angle predicted for the centre of the period after next and the PLL error (1/65,536 turn),
the residual in mA, whether the PLL is locked, and the currents I_d and I_q (mA) that the model predicts. -/
structure Observed where
  speed   : Int
  angle   : Nat
  next    : Nat
  pllErr  : Int
  resid   : Nat
  locked  : Bool
  predD   : Int
  predQ   : Int
  deriving DecidableEq, Repr

/-- A character of the bay link: data, or a control character named by its 8b/10b name (R85). -/
inductive BayChar where
  | data (b : Nat)
  | k28_5
  | k28_0
  | k27_7
  | k29_7
  | k28_1
  | k28_2
  | k28_3
  deriving DecidableEq, Repr

/-- An address unit as read (R31). -/
structure AddrUnit where
  unit  : Nat
  turn  : Nat
  layer : Nat
  side  : Nat
  fmt   : Nat
  mid   : Nat
  deriving DecidableEq, Repr

/-- The samples of a beam over a codeword, from 48 bits before it to 48 bits after it (R99 to R104): the beam, its gain loop's reference,
where its clock puts the first channel bit, in 1/65,536 sample period after the second sample, and the samples with offset and gain removed (none where
erased), in 1/16,384 of the normalised amplitude. -/
structure BeamSignal where
  beam    : Nat
  ref     : Nat
  start   : Nat
  samples : List (Option Int)
  deriving DecidableEq, Repr

/-- One descriptor generation of a disc (R51). -/
structure Descriptor where
  gen       : Nat
  state     : Nat
  member    : Nat
  width     : Nat
  arbour    : Nat
  setId     : Nat
  rows      : Nat
  ckptNext  : Nat
  mediaId   : Nat
  former    : Nat
  deriving DecidableEq, Repr

/-- What reading one slot of a record area gives (R51): blank, written but unreadable, or the user bytes of a record sector whose
codewords converged and whose CRC-64 passed. -/
inductive SlotRead where
  | blank
  | unreadable
  | record (bytes : List Nat)
  deriving DecidableEq, Repr

/-- What reading one spare slot gives (R54): blank, or written, with the HOME_ADDR of its sector where it could be read. -/
inductive SpareRead where
  | blank
  | written (home : Option Nat)
  deriving DecidableEq, Repr

/-- A host block that a row on disc carries: namespace, LBA, acceptance stamp and value. -/
structure FoundBlock where
  nsid  : Nat
  lba   : Nat
  stamp : Nat
  value : Nat
  deriving DecidableEq, Repr

/-- A row that a scan of the discs found (R331): set, ordinal, WRITE_STAMP and the host blocks that could be recovered, and of a row that is
not recoverable at some index the blocks lost (namespace, LBA). -/
structure FoundRow where
  set    : Nat
  ord    : Nat
  wstamp : Nat
  blocks : List FoundBlock
  lost   : Bool
  gone   : List (Nat × Nat)
  deriving DecidableEq, Repr

/-- What the vault port learns of an SSD whose link is up (R420, R422): the version it complies with in the layout of NVMe's VS register
(0x10400 for 1.4), the LBA size of namespace 1 and its capacity in GiB, the rate of the 1 GiB test in MB/s, and whether a header can be
read or written. -/
structure VaultSeen where
  version : Nat
  lba     : Nat
  gib     : Nat
  rate    : Nat
  header  : Bool
  deriving DecidableEq, Repr

/-- A change at the vault at run time (R422): its link is lost, a write has failed and has been retried so often, the SSD reports a
critical warning, or the port has trained and tested it again. -/
inductive VaultEvent where
  | linkLost
  | writeFailed (retries : Nat)
  | critical
  | tested (seen : VaultSeen)
  deriving DecidableEq, Repr

/-- What the first steps of a calibration procedure read (R454, R458): CALREF in µV; the two points of each link die's DAC in µV, as the reference
converter measures them; the codes of the hold-up sense converter at two points of DAC 0. -/
structure CalSeen where
  ref  : Nat
  dacs : List (Nat × Nat)
  hu   : Nat × Nat
  deriving DecidableEq, Repr

/-- What a start-up meets outside the chip (R340, R341, R371, R422, R453, R524): the capacity of each DDR5 channel in GiB, 0 where
no module stands, and the channels whose module is of a kind that is not supported, with the modules' ranks, density in Gbit and
speed in MT/s; what the vault port meets; what the first calibration procedure reads; whether the settings can be read; the host
links that train, each with its speed and width. -/
structure StartConditions where
  caps    : List Nat
  refused : List Nat
  ranks   : Nat
  density : Nat
  speed   : Nat
  vault   : Option VaultSeen
  cal     : CalSeen
  reads   : Bool
  links   : List (Nat × Nat × Nat)
  deriving DecidableEq, Repr

/-- The width of a window access: 1, 2, 4 or 8 bytes (R3). -/
inductive AccessSize where
  | byte | half | word | dword
  deriving DecidableEq, Repr

def AccessSize.bytes : AccessSize → Nat
  | .byte => 1
  | .half => 2
  | .word => 4
  | .dword => 8

/-- The boundaries of RWB fields (R10, and the chapter of each field). -/
inductive Boundary where
  | pwmPeriod | superframe | servoSample | sensorSample | huSense | slotStart | codeword | attempt | extent | chopper | idle
  deriving DecidableEq, Repr

/-- The commands of the block, in the order of spec/opcode_table.json. -/
inductive Instr where
  /-- REGISTER_WRITE (R2): A write to a window register that has no row of its own is applied under its access code. -/
  | registerWrite (rq : Nat) (off : Nat) (sz : AccessSize) (v : Nat)
  /-- ACCESS_ERROR (R3): A narrow, unaligned, reserved, uninstantiated or sealed-RWL access is discarded or reads zero, and is recorded in GLB.ACC_ERR with source 193 raised. -/
  | accessError (rq : Nat) (off : Nat) (sz : AccessSize) (write : Bool) (v : Nat)
  /-- LOW_HALF_READ (R4): A read of the low half of a 64-bit register latches the high half into the requester's shadow. -/
  | lowHalfRead (rq : Nat) (reg : Nat)
  /-- HIGH_HALF_READ (R4): A read of the high half returns and consumes the requester's shadow, or the current high half. -/
  | highHalfRead (rq : Nat) (reg : Nat)
  /-- LOW_HALF_WRITE (R4): A write of the low half of a 64-bit register is held for the requester. -/
  | lowHalfWrite (rq : Nat) (reg : Nat) (v : Nat)
  /-- HIGH_HALF_WRITE (R4): A write of the high half takes effect together with the held or current low half. -/
  | highHalfWrite (rq : Nat) (reg : Nat) (v : Nat)
  /-- FULL_64_BIT_ACCESS (R4): A 64-bit access acts on the whole register at once and discards the requester's shadow and held half. -/
  | full64BitAccess (rq : Nat) (reg : Nat) (write : Bool) (v : Nat)
  /-- DEBUG_PORT_WINDOW_ACCESS (R5): A window access from the debug port without full access is refused by the port without recording. -/
  | debugPortWindowAccess (off : Nat) (sz : AccessSize) (write : Bool) (v : Nat)
  /-- ACC_ERR_CLEAR (R27): Writing 1 to GLB.ACC_ERR.VALID clears VALID and OVERFLOW and lowers source 193. -/
  | accErrClear
  /-- RWB_BOUNDARY (R10): At the unit's boundary the last value written to an RWB field comes into force. -/
  | rwbBoundary (k : Boundary) (unit : Nat)
  /-- BARRIER (R16): A control-tree barrier is issued across a subtree. -/
  | barrier (a : Nat)
  /-- BARRIER_COMPLETE (R17): A barrier completes, or participants receive a reset status when a subtree reset overtakes it. -/
  | barrierComplete (a : Nat)
  /-- BROADCAST (R16): A control-tree broadcast is issued and delivered within its bound. -/
  | broadcast (a : Nat)
  /-- SNAPSHOT_EPOCH_SWITCH (R17): A snapshot epoch switch moves a subtree to a new epoch with no part left in the old one. -/
  | snapshotEpochSwitch (a : Nat)
  /-- SUBTREE_RESET (R17): An electrical subtree reset resets the units below an arbour and ends barriers pending for them. -/
  | subtreeReset (a : Nat)
  /-- SUBTREE_RESET_MECHANICAL (R16): A mechanical subtree reset resets electrically and parks the mechanism within 4 s. -/
  | subtreeResetMechanical (a : Nat)
  /-- SERVO_TICK (R516): The 409.6 kHz servo tick accumulator wraps and starts a superframe period. -/
  | servoTick (ncos : List (Nat × Nat))
  /-- UPSTREAM_SUPERFRAME (R59): An upstream superframe arrives on a lane and its codewords are corrected and descrambled. -/
  | upstreamSuperframe (h : Nat) (lane : Nat) (syms : List Nat)
  /-- MARKER_LOSS (R60): A lane misses its marker 4 consecutive times and declares marker loss. -/
  | markerLoss (h : Nat) (lane : Nat)
  /-- SERVO_BLOCK (R66): The first decoded copy of upstream codeword 0 is delivered to the SV block and loop engine. -/
  | servoBlock (h : Nat) (times : List Nat)
  /-- SERVO_MISS (R186): A superframe without a decoded servo block holds the cells for one sample. -/
  | servoMiss (h : Nat)
  /-- SAMPLE_CODEWORD (R64): A sample codeword is unpacked into beam samples for the resamplers. -/
  | sampleCodeword (h : Nat) (lane : Nat) (k : Nat)
  /-- MESSAGE_CODEWORD (R71): A message codeword is split into messages in lane, codeword and position order. -/
  | messageCodeword (h : Nat) (lane : Nat) (k : Nat)
  /-- ACK (R72): An ACK advances the sender's acknowledged sequence. -/
  | ack (h : Nat)
  /-- IDENT (R74): An IDENT message from the head is checked against the stated limits. -/
  | ident (h : Nat)
  /-- EVENT (R78): A head EVENT message is recorded in HL.HEAD_EVT and acted on by code. -/
  | event (h : Nat)
  /-- PONG (R73): A PONG message returns the token of a PING. -/
  | pong (h : Nat)
  /-- FIRMWARE_MESSAGE (R81): A firmware-type upstream message is accepted into the receive queue, or refused when the queue is full. -/
  | firmwareMessage (h : Nat)
  /-- UNKNOWN_MESSAGE (R72): A message of unknown TYPE is acknowledged and counted without action. -/
  | unknownMessage (h : Nat)
  /-- MESSAGE_RETRANSMIT (R72): After 8 superframes without progress the sender retransmits all unacknowledged messages. -/
  | messageRetransmit (h : Nat)
  /-- MSG_FAIL (R72): After the fourth retransmission without progress the controller raises MSG_FAIL and retrains. -/
  | msgFail (h : Nat)
  /-- LANE_FAULT (R77): Marker loss or 8 uncorrectable codewords in 16 superframes declare an upstream lane fault. -/
  | laneFault (h : Nat) (lane : Nat)
  /-- LANE_MAP_SWITCH (R62): Both ends switch beam-to-lane map at the superframe named in LANE_CFG. -/
  | laneMapSwitch (h : Nat)
  /-- HL_ENABLE (R82): A write of HL.CTRL.EN permits training or returns the link to OFF at once. -/
  | hlEnable (h : Nat) (en : Nat)
  /-- HL_TRAIN (R82): HL.CTRL.TRAIN starts or restarts link training while EN is 1. -/
  | hlTrain (h : Nat)
  /-- LASER_PERMIT (R76): HL.CTRL.LASER_PERMIT at 0 forces LASER_MODE 0. -/
  | laserPermit (h : Nat) (v : Nat)
  /-- HL_CLR_CNT (R82): HL.CTRL.CLR_CNT clears the link counters and the latency peak. -/
  | hlClrCnt (h : Nat)
  /-- DEGR_GROUP (R82): A DEGR_GROUP write in the degraded map sends LANE_CFG for the new suppressed group. -/
  | degrGroup (h : Nat) (group : Nat)
  /-- HL_ADC_WRITE (R80): A write of HL.ADC sends ADC_CFG naming a superframe 24 ahead. -/
  | hlAdcWrite (h : Nat) (rate : Nat) (fmt : Nat)
  /-- PRBS_SEEN (R75): PRBS31 on any upstream lane moves training from DS_TRAIN to US_TRAIN. -/
  | prbsSeen (h : Nat) (bits : List Bool)
  /-- LANES_QUALIFIED (R75): Four lanes qualify, or three after the timeout, and training enters ALIGN. -/
  | lanesQualified (h : Nat) (errs : List Nat)
  /-- ALIGN_LOCKED (R75): All qualified lanes lock markers within 16 ns of skew and training enters IDENT. -/
  | alignLocked (h : Nat) (skews : List Nat)
  /-- IDENT_CONFIG_IN_FORCE (R75): A valid IDENT with every configuration message in force moves the link to ACTIVE. -/
  | identConfigInForce (h : Nat)
  /-- TRAINING_TIMEOUT (R75): A training state timeout returns the link to DS_TRAIN, or FAILED on the third failure. -/
  | trainingTimeout (h : Nat)
  /-- MBOX_SEND (R80): HL.MBOX_CTRL.SEND queues the message in HL.MBOX_TX for transmission. -/
  | mboxSend (h : Nat)
  /-- MBOX_RX_CLEAR (R81): Clearing RX_FULL lets the next queued message be delivered. -/
  | mboxRxClear (h : Nat)
  /-- MBOX_STALL (R81): The receive queue has stayed full for 8 ms and MBOX_STALL is set. -/
  | mboxStall (h : Nat)
  /-- PWM_PERIOD (R86): A 40 kHz PWM period starts and K28.5 and the period's packets are sent on every bay and carousel link. -/
  | pwmPeriod
  /-- BAY_HEADER (R89): An upstream HEADER packet delivers inputs, toggles, encoders, gates and flags. -/
  | bayHeader (l : Nat) (chars : List BayChar) (viol : Nat) (rtt : Nat)
  /-- BAY_SAMPLE (R90): An upstream SAMPLE packet delivers conversions for current control, the observer and bus checks. -/
  | baySample (l : Nat) (chars : List BayChar) (viol : Nat) (late : Nat) (m : Observed)
  /-- BAY_IDENT (R94): An expander IDENT packet is checked for role and turnaround and CONFIG is sent. -/
  | bayIdent (l : Nat) (chars : List BayChar) (viol : Nat)
  /-- BAY_LINK_UP (R94): After 16 valid HEADER superframes both ways the bay link is up. -/
  | bayLinkUp (l : Nat)
  /-- BAY_LINK_DOWN (R95): After 3 superframes without a valid HEADER the link is down and the expander goes safe. -/
  | bayLinkDown (l : Nat)
  /-- BAY_TRAINING_RESTART (R94): A training step not completed in 10 ms restarts training every 100 ms. -/
  | bayTrainingRestart (l : Nat)
  /-- BL_ENABLE (R97): BL.CTRL.EN permits the bay link to train. -/
  | blEnable (l : Nat) (en : Nat)
  /-- BL_RETRAIN (R97): BL.CTRL.RETRAIN restarts bay-link training. -/
  | blRetrain (l : Nat)
  /-- BL_CLR_CNT (R97): BL.CTRL.CLR_CNT clears the bay-link counters. -/
  | blClrCnt (l : Nat)
  /-- COMPARATOR_TRIP (R257): A K28.1 comparator trip ends a drive interval and the controller sends fast decay. -/
  | comparatorTrip (b : Nat) (d : Nat) (nd : Nat) (ns : Nat)
  /-- OVERCURRENT (R91): A K28.1 overcurrent code reports the expander's driver switch-off and faults the spindle. -/
  | overcurrent (l : Nat) (d : Nat) (nd : Nat)
  /-- INPUT_EDGE (R91): A K28.3 immediate input edge reports a raw input change. -/
  | inputEdge (l : Nat) (d : Nat) (nd : Nat)
  /-- ADDRESS_UNIT (R32): A wobble address unit is decoded and accepted or counted by USYNC and UCRC. -/
  | addressUnit (h : Nat) (w : Nat) (rms : Nat) (worst : Nat)
  /-- WPLL_ACQUIRE (R105): The wobble PLL starts acquisition at nominal frequency. -/
  | wpllAcquire (h : Nat) (a0 : Nat) (a1 : Nat)
  /-- WPLL_LOCK (R105): After 256 wobble periods of low phase error the PLL enters LOCKED. -/
  | wpllLock (h : Nat) (rms : Nat)
  /-- WPLL_HOLD (R105): Both beam amplitudes fall below AMP_MIN and the PLL enters HOLD. -/
  | wpllHold (h : Nat) (a0 : Nat) (a1 : Nat)
  /-- WPLL_HOLD_RETURN (R105): Amplitude returns with small phase error and the PLL returns to LOCKED. -/
  | wpllHoldReturn (h : Nat) (a0 : Nat) (a1 : Nat) (err : Nat)
  /-- WPLL_LOST (R105): Lock failure, excess error or HOLD_MAX moves the PLL to LOST and clears confirmation. -/
  | wpllLost (h : Nat) (periods : Nat) (rms : Nat)
  /-- SEAM (R108): A beam passes its seam and its band number, and at a fret boundary its fret, advance. -/
  | seam (h : Nat) (beam : Nat)
  /-- SLOT_OPEN (R109): At predicted bit 64 of a slot with read permit the beam begins acquisition. -/
  | slotOpen (h : Nat) (beam : Nat)
  /-- SLOT_BLANK (R111): An envelope below BLANK_THR over bits 16 to 1,039 reports the slot Blank. -/
  | slotBlank (h : Nat) (beam : Nat) (envelope : Nat)
  /-- SM_WINDOW_CLOSE (R112): The sync-mark search window closes with a match or into FLYWHEEL. -/
  | smWindowClose (h : Nat) (beam : Nat) (phase : Int) (trim : Int) (decs : List (Option Bool))
  /-- RESYNC_MARK (R113): A resync mark window is evaluated and the frame corrected by the offset found. -/
  | resyncMark (h : Nat) (beam : Nat) (j : Nat) (phase : Int) (trim : Int) (decs : List (Option Bool))
  /-- POSTAMBLE_END (R115): At postamble end codeword 8 is released and the framer returns to WAIT. -/
  | postambleEnd (h : Nat) (beam : Nat)
  /-- FRET_CROSSING_ADC_CFG (R117): Ahead of a fret crossing or first confirmation the controller sends ADC_CFG with the new N_f. -/
  | fretCrossingAdcCfg (h : Nat)
  /-- ADC_CFG_IN_FORCE (R117): The new sample rate and format take effect at the named superframe. -/
  | adcCfgInForce (h : Nat)
  /-- CH_ENABLE (R121): CH.CTRL.EN starts or stops the wobble PLL and sample path. -/
  | chEnable (h : Nat) (en : Nat)
  /-- CH_READ_EN (R119): CH.CTRL.READ_EN permits or stops the opening of new slots. -/
  | chReadEn (h : Nat) (en : Nat)
  /-- CH_CLR_CNT (R121): CH.CTRL.CLR_CNT clears the acquisition counters and WPLL_ERR peak. -/
  | chClrCnt (h : Nat)
  /-- CODEWORD_DETECT (R124): Once neighbours are released a codeword is equalized, jointly detected, erasure-masked and converted to LLRs. -/
  | codewordDetect (h : Nat) (addr : Nat) (i : Nat) (sigs : List BeamSignal)
  /-- DECODE_ATTEMPT_START (R135): A free engine takes the next attempt by priority and weighted round robin. -/
  | decodeAttemptStart (q : Nat) (e : Nat)
  /-- DECODE_ATTEMPT_END (R133): An LDPC attempt stops on convergence, stall, limit or preemption and unloads. -/
  | decodeAttemptEnd (q : Nat) (e : Nat) (ran : Nat)
  /-- ENGINE_FAULT (R137): A parity error fences a decoder engine and requeues its attempt. -/
  | engineFault (q : Nat) (e : Nat)
  /-- POOL_FENCE_WRITE (R137): A write of CH.POOL_FENCE fences engines after their current attempt. -/
  | poolFenceWrite (h : Nat) (v : Nat)
  /-- LADDER_START (R143): After the extent or MAX_BANDS the head starts the retry ladder band by band. -/
  | ladderStart (h : Nat) (cls : Nat) (ended : Bool)
  /-- RETRY_REVOLUTION (R144): A retry revolution is budget-tested, taken at the current rung and counted. -/
  | retryRevolution (h : Nat)
  /-- DET_CLR_CNT (R150): DET_CTRL.CLR_CNT clears the detection counters, POOL_PEAK and ITER_HIST. -/
  | detClrCnt (h : Nat)
  /-- EXTENT_REQUEST (R153): Placement requests an extent, which starts, calibrates first, or is refused. -/
  | extentRequest (h : Nat) (hd : Nat) (layer : Nat) (fret : Nat) (first : Nat) (bands : Nat)
  /-- CALIBRATION_PASS_END (R163): A two-revolution calibration pass ends with a chosen factor or a discarded result. -/
  | calibrationPassEnd (h : Nat) (mses : List (List Nat))
  /-- EXTENT_BANDS_WRITTEN (R152): After the last band the gate closes and the head jumps back to verify. -/
  | extentBandsWritten (h : Nat)
  /-- VERIFY_DONE (R166): The verify revolutions end and failed chunks go to spare writing or the session idles. -/
  | verifyDone (h : Nat)
  /-- SPARE_WRITE_REVOLUTION (R167): One revolution writes failed chunks into a spare band. -/
  | spareWriteRevolution (h : Nat)
  /-- SPARE_VERIFY_DONE (R167): The spare band's verify passes or sends failed spares to the next slot. -/
  | spareVerifyDone (h : Nat)
  /-- GATE_CLOSURE (R168): Off-track, focus, position, laser or permit loss closes the write gate and spares touched chunks. -/
  | gateClosure (h : Nat)
  /-- GATE_REOPEN (R168): After 16 clear superframes the gate reopens at the next slot boundary. -/
  | gateReopen (h : Nat)
  /-- WRITE_HALTED (R168): Failure to reopen within RESUME_REVS enters HALTED. -/
  | writeHalted (h : Nat)
  /-- UNDERRUN (R157): A codeword not in staging when due is written as zeros and its chunk spared. -/
  | underrun (h : Nat) (addr : Nat) (cw : Nat)
  /-- CAL_FORCE (R162): WRP.CTRL.CAL_FORCE requests calibration before the next extent. -/
  | calForce (h : Nat)
  /-- WRP_CLR_CNT (R172): WRP.CTRL.CLR_CNT clears the write counters and POS_ERR peak. -/
  | wrpClrCnt (h : Nat)
  /-- DEFECT_HOLD (R184): Both servo beams invalid puts the servo in DEFECT_HOLD with cells held. -/
  | defectHold (h : Nat)
  /-- DEFECT_HOLD_END (R184): A beam becomes valid and the held cells resume. -/
  | defectHoldEnd (h : Nat)
  /-- DEFECT_LONG (R185): A defect hold longer than DEF_MAX resumes or declares focus lost. -/
  | defectLong (h : Nat)
  /-- FOCUS_LOST (R185): |FE| above FOCUS_ERR_LIM for 8 samples declares focus lost and retracts. -/
  | focusLost (h : Nat)
  /-- OFFTRACK_EPISODE (R179): Four samples with |TE| above OFFTRACK_LIM begin an off-track episode. -/
  | offtrackEpisode (h : Nat)
  /-- OFFTRACK_EPISODE_END (R179): Sixty-four samples below half the limit end the episode. -/
  | offtrackEpisodeEnd (h : Nat)
  /-- MISS_LIMIT (R186): MISS_MAX consecutive missing servo samples retract the head. -/
  | missLimit (h : Nat)
  /-- SEEK (R187): A SEEK command moves the head by jump, fine or coarse seek to a band and layer. -/
  | seek (h : Nat) (band : Nat) (layer : Nat)
  /-- LAYER_JUMP_FOCUS_CLOSE (R191): Focus closes at the target layer's crossing and tracking is pulled in again. -/
  | layerJumpFocusClose (h : Nat)
  /-- SEEK_TARGET_CROSSING (R187): The target crossing is reached, tracking closes and settling begins. -/
  | seekTargetCrossing (h : Nat)
  /-- SEEK_FAIL (R187): After 3 corrective seeks or 50 ms the seek stops in TRACKING with result 1. -/
  | seekFail (h : Nat)
  /-- HOLD_BAND (R189): HOLD_BAND keeps the head on one band with a seam jump each revolution. -/
  | holdBand (h : Nat) (band : Nat) (layer : Nat) (slots : List Nat)
  /-- SEAM_JUMP (R189): A one-band jump is placed in the longest free interval or over an alternate slot. -/
  | seamJump (h : Nat)
  /-- ENTER (R190): ENTER lands on band target−1 so the head crosses the seam onto the target. -/
  | enter (h : Nat) (band : Nat) (layer : Nat)
  /-- SV_FOLLOW (R189): OP FOLLOW ends a band hold and the head follows the spiral. -/
  | svFollow (h : Nat)
  /-- PULLIN (R180): PULLIN starts a focus sweep, with an optional calibration sweep, or is refused. -/
  | pullin (h : Nat) (layer : Nat) (cal : Bool)
  /-- FOCUS_CAPTURE (R180): A focus capture on the target layer closes the focus cell. -/
  | focusCapture (h : Nat)
  /-- PULL_TIMEOUT (R180): No capture within PULL_TIMEOUT retracts and repeats once, then FAILED. -/
  | pullTimeout (h : Nat)
  /-- TRACKING_CAPTURE (R182): A slow enough TE zero crossing closes tracking and tilt and enters TRACKING. -/
  | trackingCapture (h : Nat)
  /-- RETRACT (R195): A RETRACT command ramps the lens to park and switches the laser off. -/
  | retract (h : Nat)
  /-- RETRACT_COMPLETE (R195): At T_FOCUS the laser goes off and the servo enters RETRACTED. -/
  | retractComplete (h : Nat)
  /-- SV_CMD_ERR (R199): A reserved OP is refused with CMD_ERR. -/
  | svCmdErr (h : Nat) (op : Nat)
  /-- LENS_RANGE (R193): Lens offset beyond SLED_WARN sets LENS_RANGE; beyond LENS_MAX tracking opens. -/
  | lensRange (h : Nat)
  /-- SV_ENABLE (R199): SV.CTRL.EN lets the servo run, or retracts it into OFF. -/
  | svEnable (h : Nat) (en : Nat)
  /-- SV_CLR_CNT (R199): SV.CTRL.CLR_CNT clears the servo counters and SV.ERR. -/
  | svClrCnt (h : Nat)
  /-- CELL_BOUNDARY (R215): At a cell boundary the Capo set, one queued write and the Capo clear come into force. -/
  | cellBoundary (n : Nat)
  /-- CELL_EVALUATE (R205): A cell whose inputs are present computes its filter and PID output. -/
  | cellEvaluate (n : Nat)
  /-- CELL_MISS (R209): A cell that does not complete in time counts a miss and is treated as held. -/
  | cellMiss (n : Nat)
  /-- COEFFICIENT_WRITE (R214): A coefficient write enters the tile queue, or lands at once for a disabled cell. -/
  | coefficientWrite (n : Nat) (coef : Nat) (v : Nat)
  /-- STATE_WRITE (R216): A state register write applies under the Capo or EN 0, else is rejected. -/
  | stateWrite (n : Nat) (reg : Nat) (v : Nat)
  /-- CAPO_SET (R215): CAPO_SET latches a Capo set request and cancels a pending clear. -/
  | capoSet (n : Nat)
  /-- CAPO_CLR (R215): CAPO_CLR latches a Capo release request. -/
  | capoClr (n : Nat)
  /-- CLR_STATE (R216): CLR_STATE zeroes filter state and sets the integrator to the present output. -/
  | clrState (n : Nat)
  /-- CELL_CLR_CNT (R226): CELL.CTRL.CLR_CNT clears the cell counters. -/
  | cellClrCnt (n : Nat)
  /-- CELL_ENABLE (R216): A write of CELL.CTRL.EN starts or stops the cell. -/
  | cellEnable (n : Nat) (en : Nat)
  /-- CELL_CONFIG_WRITE (R216): A MODE, RATE, PHASE or NBQ write is applied with EN 0 or rejected with CFG_REJ. -/
  | cellConfigWrite (n : Nat) (ctrl : Nat)
  /-- CELL_SRC_WRITE (R216): A SRC or SP_SRC write applies with EN 0 or is discarded. -/
  | cellSrcWrite (n : Nat) (sp : Bool) (code : Nat)
  /-- TILE_FAULT (R219): A parity, residue, clock or supply fault takes a tile out of service. -/
  | tileFault (t : Nat) (cause : Nat) (cell : Nat)
  /-- TILE_RESET (R219): LE.TILE_CTRL.RESET resets a tile and starts its self-test. -/
  | tileReset (t : Nat)
  /-- TILE_SELF_TEST_PASS (R219): A passed self-test returns the tile to service with free cleared cells. -/
  | tileSelfTestPass (t : Nat)
  /-- LE_CLR_CNT (R223): LE.TILE_CTRL.CLR_CNT clears the tile counters. -/
  | leClrCnt (t : Nat)
  /-- OBSERVER_LOSS (R236): A residual, unlock, wobble, reconstruction or link condition declares observer loss and enters CATCH. -/
  | observerLoss (b : Nat) (cause : Nat)
  /-- RECAPTURE (R238): Twelve consistent crossings re-initialise the observer and enter CONFIRM. -/
  | recapture (b : Nat)
  /-- CONFIRM_END (R238): CATCH.CONFIRM without loss moves the spindle to RUN. -/
  | confirmEnd (b : Nat)
  /-- CATCH_FAIL (R238): CATCH_MAX without recapture moves the spindle to COAST. -/
  | catchFail (b : Nat)
  /-- COAST_END (R238): Speed at BRAKE_RPM or COAST_MAX moves the spindle to BRAKE. -/
  | coastEnd (b : Nat)
  /-- BRAKE_END (R238): 500 ms without a crossing moves the spindle to OFF. -/
  | brakeEnd (b : Nat)
  /-- ALIGN_END (R239): T_ALIGN ends and the spindle enters RAMP. -/
  | alignEnd (b : Nat)
  /-- SPINDLE_HANDOVER (R239): A locked PLL near the ramp angle hands the spindle over to RUN. -/
  | spindleHandover (b : Nat)
  /-- RAMP_FAIL (R239): One second without hand-over restarts ALIGN, then FAULT. -/
  | rampFail (b : Nat)
  /-- SPEED_LOCK (R240): Speed within ±3 % for 100 periods sets SPEED_LOCK. -/
  | speedLock (b : Nat)
  /-- STOP_DECEL_END (R239): A STOP deceleration reaches BRAKE_RPM and the spindle brakes. -/
  | stopDecelEnd (b : Nat)
  /-- SET_SPEED (R240): SET_SPEED starts the spindle or ramps it to a new target. -/
  | setSpeed (b : Nat)
  /-- SPINDLE_STOP (R239): STOP decelerates the spindle to brake, or coasts with no regeneration. -/
  | spindleStop (b : Nat)
  /-- SPINDLE_COAST (R239): COAST switches the inverter off and lets the spindle run down. -/
  | spindleCoast (b : Nat)
  /-- MOT_CLEAR_FAULT (R239): CLEAR_FAULT returns a stopped faulted spindle to OFF. -/
  | motClearFault (b : Nat)
  /-- MOT_CMD_REFUSED (R250): A reserved spindle OP is refused with result 2. -/
  | motCmdRefused (b : Nat) (op : Nat)
  /-- MOT_ENABLE (R250): MOT.CTRL.EN permits commands, and writing 0 acts as COAST. -/
  | motEnable (b : Nat) (en : Nat)
  /-- MOT_CLR_CNT (R250): MOT.CTRL.CLR_CNT clears the spindle counters and residual peak. -/
  | motClrCnt (b : Nat)
  /-- CHOPPER_FAULT (R242): A chopper fault zeroes the leaf regeneration floor and coasts its spindles. -/
  | chopperFault (c : Nat)
  /-- CHOP_FAULT_CLR (R242): CHOP_FAULT_CLR with the bus below 50 V clears the latched chopper fault. -/
  | chopFaultClr (c : Nat)
  /-- OV_CLR (R243): OV_CLR with the bus below 54 V clears the latched overvoltage. -/
  | ovClr (c : Nat)
  /-- CAROUSEL_ENABLE (R244): CMOT.CTRL.EN enables the carousel and runs the offset alignment. -/
  | carouselEnable (c : Nat) (en : Nat)
  /-- CAROUSEL_ALIGN_DONE (R244): The 200 ms alignment ends with the electrical offset measured. -/
  | carouselAlignDone (c : Nat)
  /-- CAROUSEL_MOVE (R245): MOVE runs a trapezoid profile to a target slot. -/
  | carouselMove (c : Nat)
  /-- CAROUSEL_STOP (R246): STOP decelerates the carousel to rest. -/
  | carouselStop (c : Nat)
  /-- CAROUSEL_HOME (R244): HOME turns forward to the home edge. -/
  | carouselHome (c : Nat)
  /-- CAROUSEL_RELEASE (R252): RELEASE switches the carousel inverter off at rest. -/
  | carouselRelease (c : Nat)
  /-- CAROUSEL_CMD_REFUSED (R252): A reserved carousel OP or DIR is refused. -/
  | carouselCmdRefused (c : Nat) (op : Nat) (dir : Nat)
  /-- HOME_EDGE (R244): The home input edge sets the position to HOME_OFS. -/
  | homeEdge (c : Nat)
  /-- HOME_FAIL (R244): No home edge within 1.1 revolutions enters FAULT. -/
  | homeFail (c : Nat)
  /-- MOVE_DONE (R245): The carousel reaches its target and enters HOLD. -/
  | moveDone (c : Nat)
  /-- FOLLOW_ERR (R245): A deviation beyond 2,000 counts faults the carousel. -/
  | followErr (c : Nat)
  /-- REVERSAL_START (R246): Speed below 0.5 rpm for 10 periods starts the pending reversed move. -/
  | reversalStart (c : Nat)
  /-- INTERLOCK (R247): The access interlock stops the carousel and refuses motion. -/
  | interlock (c : Nat)
  /-- INTERLOCK_CLEAR (R247): The interlock clears and the carousel stays in HOLD. -/
  | interlockClear (c : Nat)
  /-- CMOT_CLR_CNT (R252): CMOT.CTRL.CLR_CNT clears the carousel counters and BUS_PEAK. -/
  | cmotClrCnt (c : Nat)
  /-- STEP_INSTANT (R255): The step timer expires, the axis advances a microstep and the next interval is loaded. -/
  | stepInstant (b : Nat) (ax : Nat)
  /-- OFF_TIME_END (R257): T_OFF after a trip the phase is driven again by reference sign. -/
  | offTimeEnd (b : Nat) (ax : Nat) (phB : Bool)
  /-- FAST_DECAY_END (R257): After the FAST fraction of T_OFF the phase goes to slow decay. -/
  | fastDecayEnd (b : Nat) (ax : Nat) (phB : Bool)
  /-- T_ON_MAX_EXPIRY (R257): No trip within T_ON_MAX forces the off-time. -/
  | tOnMaxExpiry (b : Nat) (ax : Nat) (phB : Bool)
  /-- HOLD_CURRENT (R258): An axis at rest for HOLD_DELAY switches to I_HOLD. -/
  | holdCurrent (b : Nat) (ax : Nat)
  /-- AXIS_MOVE (R259): MOVE runs a trapezoid to a target within the soft limits, or retargets. -/
  | axisMove (b : Nat) (ax : Nat)
  /-- AXIS_STOP (R272): STOP decelerates the axis at DEC. -/
  | axisStop (b : Nat) (ax : Nat)
  /-- AXIS_HOME (R268): HOME seeks the inner limit and zeroes the position at its release. -/
  | axisHome (b : Nat) (ax : Nat)
  /-- AXIS_FOLLOW (R262): FOLLOW makes the sled track its follow cell's targets. -/
  | axisFollow (b : Nat) (ax : Nat)
  /-- AXIS_RELEASE (R269): RELEASE puts the axis into OFF. -/
  | axisRelease (b : Nat) (ax : Nat)
  /-- AXIS_CLEAR_FAULT (R269): CLEAR_FAULT returns a faulted axis to IDLE with no stuck input. -/
  | axisClearFault (b : Nat) (ax : Nat)
  /-- AXIS_CMD_REFUSED (R275): A reserved axis OP is refused with result 2. -/
  | axisCmdRefused (b : Nat) (ax : Nat) (op : Nat)
  /-- AXIS_ENABLE (R269): AX.CTRL.EN lets the axis leave OFF. -/
  | axisEnable (b : Nat) (ax : Nat) (en : Nat)
  /-- SOFT_LIMIT_WRITE (R259): A SOFT_MIN or SOFT_MAX write takes effect at once and may retarget. -/
  | softLimitWrite (b : Nat) (ax : Nat) (upper : Bool) (value : Nat)
  /-- ACC_DEC_WRITE (R261): An ACC or DEC write takes effect at the next step. -/
  | accDecWrite (b : Nat) (ax : Nat) (acc : Nat) (dec : Nat)
  /-- VMAX_WRITE (R261): A VMAX write below present speed decelerates the axis. -/
  | vmaxWrite (b : Nat) (ax : Nat) (v : Nat)
  /-- MOV_CLR_CNT (R273): MOV.CTRL.CLR_CNT clears the axis counters. -/
  | movClrCnt (b : Nat)
  /-- INPUT_DEBOUNCED (R263): An input level held for DB is accepted as its debounced level. -/
  | inputDebounced (l : Nat) (i : Nat)
  /-- CHATTER (R264): Toggles above CHATTER_LIM put an input in chatter, treated as active. -/
  | chatter (b : Nat) (i : Nat)
  /-- CHATTER_END (R264): CHATTER_CLR without changes ends chatter. -/
  | chatterEnd (b : Nat) (i : Nat)
  /-- STUCK_INPUT (R266): A limit still active after STUCK_TRAVEL, or both limits active, faults the axis. -/
  | stuckInput (b : Nat) (i : Nat)
  /-- STALL (R267): Encoder and commanded position apart beyond WIN stops the sled and resynchronises it. -/
  | stall (b : Nat) (ax : Nat)
  /-- HOMING_FAIL (R268): No limit within travel plus 2 mm faults the axis. -/
  | homingFail (b : Nat) (ax : Nat)
  /-- MOUNT (R271): The mount scheduler starts the carousel, loader, spin-up and calibration phases for a disc. -/
  | mount (d : Nat)
  /-- MOUNT_PHASE_END (R271): A mount phase ends and the next starts. -/
  | mountPhaseEnd (b : Nat) (ok : Bool) (areas : List (Nat × List SlotRead))
  /-- DISMOUNT (R271): Dismount runs the mount phases in reverse after BRAKE ends in OFF. -/
  | dismount (b : Nat)
  /-- MOUNT_HOLD_EXPIRY (R297): A higher-priority waiter ends a mount batch after MOUNT_HOLD_MAX. -/
  | mountHoldExpiry (b : Nat)
  /-- REMAP_TABLE_BUILD (R54): On first access to a layer its remap table is built from batches and spares. -/
  | remapTableBuild (d : Nat) (layer : Nat) (spares : List (Nat × List SpareRead))
  /-- DESCRIPTOR_GENERATION (R51): A descriptor generation is written twice at a disc state change. -/
  | descriptorGeneration (d : Nat)
  /-- SET_FORMATION (R279): A stripe domain forms a new set from blank discs or refuses. -/
  | setFormation (a : Nat) (slot : Nat)
  /-- ROW_SEAL (R283): A filling row is sealed and takes its ordinal and WRITE_STAMP. -/
  | rowSeal (stream : Nat) (hd : Nat) (cause : Nat)
  /-- WRITE_SESSION_DUE (R298): An open set's write session becomes due. -/
  | writeSessionDue (hd : Nat)
  /-- WRITE_SESSION_END (R298): A write session ends when no complete slot group remains or on WRITE_HOLD_MAX. -/
  | writeSessionEnd (hd : Nat)
  /-- MAP_CHECKPOINT (R293): An epoch closes every ROWS sealed rows and changed map pages are written. -/
  | mapCheckpoint
  /-- CHECKPOINT_WRITTEN (R293): The closed epoch's checkpoint sectors are written and CKPT_DONE set. -/
  | checkpointWritten (d1 : Nat) (d2 : Nat)
  /-- DRAIN_CREDIT_GRANT (R302): Every 10 µs drain credits are granted per arbour budget in priority order. -/
  | drainCreditGrant
  /-- CONSOLIDATION_START (R305): A sealed set below CONS_LIVE starts being consolidated. -/
  | consolidationStart (hd : Nat)
  /-- SET_RETIRE (R306): A set with no live blocks and no reads is retired and its handle freed. -/
  | setRetire (hd : Nat)
  /-- ARB_ENABLE (R310): ARB.CTRL.EN starts or stops placement. -/
  | arbEnable (v : Bool)
  /-- ARB_CLR_CNT (R310): ARB.CTRL.CLR_CNT clears the placement counters. -/
  | arbClrCnt
  /-- ARBOUR_DRAIN (R276): AR.CTRL.DRAIN puts an arbour into DRAINING. -/
  | arbourDrain (a : Nat) (v : Bool)
  /-- ARBOUR_OFFLINE (R276): AR.CTRL.OFFLINE puts an arbour OFFLINE. -/
  | arbourOffline (a : Nat) (v : Bool)
  /-- RECONSTRUCTION (R317): With survivors read the engine reconstructs a lost sector from P and Q. -/
  | reconstruction (hd : Nat) (r : Nat) (m : Nat)
  /-- MEMBER_FAILED (R321): A member is declared failed and its set's recovery begins. -/
  | memberFailed (hd : Nat) (m : Nat) (kind : Nat)
  /-- REBUILD_SLOT_GROUP (R324): A rebuild context writes one slot group to the spare and advances its cursor. -/
  | rebuildSlotGroup (i : Nat)
  /-- REBUILD_MEMBER_DONE (R324): A member's rebuild completes, its descriptor is written and the old disc retired. -/
  | rebuildMemberDone (i : Nat)
  /-- RESHAPE_CURSOR_ADVANCE (R333): A reshape copies one source slot group and records its cursor. -/
  | reshapeCursorAdvance (j : Nat)
  /-- RESHAPE_DONE (R333): The source set empties and is retired. -/
  | reshapeDone (j : Nat)
  /-- FAIL_MEMBER (R321): PAR.CMD FAIL_MEMBER declares a member failed. -/
  | failMember (hd : Nat) (m : Nat)
  /-- RESHAPE (R333): PAR.CMD RESHAPE starts a reshape context for a set. -/
  | reshape (hd : Nat)
  /-- CANCEL_RESHAPE (R339): PAR.CMD CANCEL_RESHAPE stops a reshape and leaves copies in place. -/
  | cancelReshape (ctx : Nat)
  /-- PAR_CMD_REFUSED (R337): A reserved PAR OP is refused with result 2. -/
  | parCmdRefused (op : Nat)
  /-- PAR_ENABLE (R337): PAR.CTRL.EN runs or pauses rebuild and reshape contexts. -/
  | parEnable (v : Bool)
  /-- PAR_CLR_CNT (R337): PAR.CTRL.CLR_CNT clears the parity counters. -/
  | parClrCnt
  /-- BUFFER_READ (R344): A requester reads a buffer word through the valid bits, ECC and mirror. -/
  | bufferRead (req : Nat) (pair : Nat) (ba : Nat) (alt : Bool) (errP : Nat) (errM : Nat)
  /-- BUFFER_WRITE (R349): A 64-byte write sets its valid bit and writes the whole word to both copies. -/
  | bufferWrite (req : Nat) (pair : Nat) (ba : Nat) (data : Nat) (errP : Nat) (errM : Nat)
  /-- CHANNEL_FAULT (R354): A DDR5 channel fault takes the channel out of service within 500 µs. -/
  | channelFault (ch : Nat) (cause : Nat)
  /-- CHANNEL_OFFLINE (R367): CH.CTRL.OFFLINE declares a channel fault. -/
  | channelOffline (ch : Nat)
  /-- CHANNEL_RETRAIN (R355): CH.CTRL.RETRAIN retrains a channel, clears its bitmap and starts RESYNC. -/
  | channelRetrain (ch : Nat)
  /-- RESYNC_DONE (R355): RESYNC copy ends and the pair is no longer degraded. -/
  | resyncDone (ch : Nat)
  /-- SCRUB_READ (R353): Patrol scrub reads and corrects a valid word at lowest priority. -/
  | scrubRead (errP : Nat) (errM : Nat)
  /-- CLEAR_DONE (R350): The valid bitmap clear finishes. -/
  | clearDone
  /-- RELEASE (R349): BUF.CMD RELEASE clears the valid bits of a 4 KiB page. -/
  | release (page : Nat)
  /-- BUF_CMD_REFUSED (R364): A reserved BUF.CMD OP is refused. -/
  | bufCmdRefused (page : Nat) (op : Nat)
  /-- WRITE_RAW (R347): DIAG WRITE_RAW writes a word's data and check bytes as given. -/
  | writeRaw
  /-- READ_RAW (R347): DIAG READ_RAW returns stored bytes uncorrected. -/
  | readRaw
  /-- DIAG_READ (R347): DIAG READ returns corrected data and the decoder verdict. -/
  | diagRead
  /-- DIAG_RESERVED (R365): A reserved DIAG OP is refused. -/
  | diagReserved
  /-- BUF_CLR_CNT (R365): BUF.CTRL.CLR_CNT clears every channel's counters. -/
  | bufClrCnt
  /-- MAP_CACHE_ACCESS (R356): An access to the mirrored range hits, hits the side buffer, or misses the map cache. -/
  | mapCacheAccess (req : Nat) (pair : Nat) (ba : Nat) (write : Option Nat) (alt : Bool) (errP : Nat) (errM : Nat)
  /-- MAP_CACHE_FILL (R357): A miss fill completes and the line enters at age 0. -/
  | mapCacheFill (slice : Nat) (alt : Bool) (errP : Nat) (errM : Nat)
  /-- MAP_CACHE_ENABLE (R360): MAP.CTRL.EN written 1 enables the cache. -/
  | mapCacheEnable
  /-- MAP_CACHE_DISABLE (R360): MAP.CTRL.EN written 0 starts DRAINING. -/
  | mapCacheDisable
  /-- DRAIN_DONE (R360): No dirty line remains and the cache becomes DISABLED. -/
  | drainDone
  /-- MAINT_CLEAN (R361): MAINT CLEAN writes back the line at MAINT_ADDR. -/
  | maintClean
  /-- MAINT_INVALIDATE (R361): MAINT INVALIDATE writes back and invalidates the line. -/
  | maintInvalidate
  /-- MAINT_CLEAN_ALL (R361): MAINT CLEAN_ALL cleans every line. -/
  | maintCleanAll
  /-- MAINT_RESERVED (R361): MAINT OP 3 is refused with MAINT_ERR. -/
  | maintReserved
  /-- MAINT_DONE (R361): A maintenance operation ends and BUSY clears. -/
  | maintDone
  /-- SRAM_ERROR (R362): A map-cache SRAM or tag error is corrected, refilled or rebuilt. -/
  | sramError (slice : Nat) (la : Nat) (kind : Nat)
  /-- MAP_CLR_CNT (R369): MAP.CTRL.CLR_CNT clears the map cache counters. -/
  | mapClrCnt
  /-- SUBMISSION_DOORBELL (R376): A submission doorbell write is accepted for a queue. -/
  | submissionDoorbell (fn : Nat) (qid : Nat) (tail : Nat)
  /-- COMMAND_FETCH (R378): The fetch engine arbitrates and fetches commands into free slots. -/
  | commandFetch
  /-- SUBMISSION_ENTRY_ARRIVAL (R379): A submission entry arrives and receives its acceptance stamp. -/
  | submissionEntryArrival (fn : Nat) (qid : Nat) (cid : Nat) (opc : Nat) (nsid : Nat) (cdw10 : Nat) (cdw11 : Nat) (cdw12 : Nat) (cdw13 : Nat)
  /-- READ (R381): A Read waits for overlapping modifications, resolves its entries and transfers. -/
  | read (stamp : Nat)
  /-- READ_RESOLVE (R381): A reading command resolves its map entries at one point in stamp order and pins them. -/
  | readResolve (stamp : Nat)
  /-- READ_TRANSFER_DONE (R382): The last data leaves, pins are released and the read completes. -/
  | readTransferDone (stamp : Nat)
  /-- WRITE (R385): A Write reads its data into mirrored pages and waits for admission. -/
  | write (stamp : Nat)
  /-- WRITE_DATA_RECEIVED (R385): A write's data is in both mirrored copies and it proceeds to admission. -/
  | writeDataReceived (stamp : Nat) (data : List Nat)
  /-- WRITE_ADMISSION (R386): A write passes the admission check, changes its map entries and enters a row. -/
  | writeAdmission (stamp : Nat)
  /-- WRITE_ZEROES (R385): Write Zeroes deallocates its blocks at the map change. -/
  | writeZeroes (stamp : Nat)
  /-- DATASET_MANAGEMENT (R290): Dataset Management deallocation sets blocks UNMAPPED. -/
  | datasetManagement (stamp : Nat) (ranges : List (Nat × Nat))
  /-- FLUSH (R387): Flush waits for earlier modifying commands of the namespace. -/
  | flush (stamp : Nat)
  /-- FLUSH_COMPLETE (R387): Every earlier modifying command has completed and Flush completes. -/
  | flushComplete (stamp : Nat)
  /-- VERIFY (R395): Verify reads and checks blocks through the ladder without transfer. -/
  | verify (stamp : Nat)
  /-- RECALL (R411): Recall stages disc-bound blocks of its ranges within the quota. -/
  | recall (stamp : Nat) (ranges : List (Nat × Nat))
  /-- STAGED_BLOCK_RELEASE (R412): A staged block's hold time ends and it is released. -/
  | stagedBlockRelease (hd : Nat) (lbk : Nat)
  /-- INVALID_OPCODE (R393): An unsupported opcode completes with Invalid Command Opcode. -/
  | invalidOpcode (fn : Nat) (qid : Nat) (cid : Nat) (opc : Nat)
  /-- DATA_TRANSFER_ERROR (R393): A host memory read returning UR, CA or poison fails the command. -/
  | dataTransferError (stamp : Nat)
  /-- CREATE_IO_SQ (R377): Create I/O Submission Queue allocates a context with its class. -/
  | createIoSq (fn : Nat) (cid : Nat) (qid : Nat) (size : Nat) (cqid : Nat) (prio : Nat)
  /-- CREATE_IO_CQ (R375): Create I/O Completion Queue allocates a context. -/
  | createIoCq (fn : Nat) (cid : Nat) (qid : Nat) (size : Nat) (vector : Option Nat)
  /-- DELETE_IO_SQ (R396): Delete I/O SQ aborts undecided commands and frees the queue. -/
  | deleteIoSq (fn : Nat) (cid : Nat) (qid : Nat)
  /-- DELETE_IO_CQ (R396): Delete I/O CQ frees the queue or fails with a bound SQ. -/
  | deleteIoCq (fn : Nat) (cid : Nat) (qid : Nat)
  /-- IDENTIFY (R400): Identify returns controller or namespace data. -/
  | identify (fn : Nat) (cid : Nat) (cns : Nat) (nsid : Nat) (cntid : Nat)
  /-- GET_LOG_PAGE (R403): Get Log Page returns a consistent snapshot of a log page range. -/
  | getLogPage (fn : Nat) (cid : Nat) (lid : Nat) (lpo : Nat) (dwords : Nat) (rae : Bool)
  /-- GET_LOG_PAGE_DUMP_CLEAR (R546): Get Log Page 0xc4 with LSP bit 0 clears the flash dump after transfer. -/
  | getLogPageDumpClear (fn : Nat) (cid : Nat) (lpo : Nat) (dwords : Nat)
  /-- ABORT (R389): Abort withdraws a command before its decision point or reports it not aborted. -/
  | abort (fn : Nat) (cid : Nat) (sqid : Nat) (acid : Nat)
  /-- SET_FEATURES (R409): Set Features sets a standard feature value. -/
  | setFeatures (fn : Nat) (cid : Nat) (fid : Nat) (v : Nat) (save : Bool)
  /-- SET_FEATURES_STAMP_REPORTING (R383): Feature 0xc1 turns stamp reporting on or off. -/
  | setFeaturesStampReporting (fn : Nat) (cid : Nat) (on : Bool)
  /-- SET_FEATURES_POWER_LOSS (R425): Feature 0xc2 sets P_dump and E_reserve, refusing P_dump 0. -/
  | setFeaturesPowerLoss (fn : Nat) (cid : Nat) (pDump : Nat) (eReserve : Nat)
  /-- SET_FEATURES_THERMAL_GRACE (R450): Feature 0xc3 sets the thermal grace time, acting at once on a running grace. -/
  | setFeaturesThermalGrace (fn : Nat) (cid : Nat) (ms : Nat)
  /-- SET_FEATURES_RECALL_QUOTA (R412): Feature 0xc4 sets a function's Recall quota. -/
  | setFeaturesRecallQuota (fn : Nat) (cid : Nat) (gib : Nat)
  /-- SET_FEATURES_HCTM (R445): Feature 0x10 sets TMT1 and TMT2. -/
  | setFeaturesHctm (fn : Nat) (cid : Nat) (tmt1 : Nat) (tmt2 : Nat)
  /-- GET_FEATURES (R409): Get Features returns a feature value. -/
  | getFeatures (fn : Nat) (cid : Nat) (fid : Nat) (sel : Nat)
  /-- ASYNCHRONOUS_EVENT_REQUEST (R410): An Asynchronous Event Request is held for a later event. -/
  | asynchronousEventRequest (fn : Nat) (cid : Nat)
  /-- NAMESPACE_MANAGEMENT (R402): Namespace Management creates or deletes a namespace in whole grains. -/
  | namespaceManagement (fn : Nat) (cid : Nat) (create : Bool) (nsze : Nat) (nsid : Nat)
  /-- NAMESPACE_ATTACHMENT (R402): Namespace Attachment attaches or detaches a namespace. -/
  | namespaceAttachment (fn : Nat) (cid : Nat) (nsid : Nat) (attach : Bool) (ctrls : List Nat)
  /-- DIRECTIVE_SEND (R294): Directive Send allocates streams, which map onto placement streams. -/
  | directiveSend (fn : Nat) (cid : Nat) (nsid : Nat) (op : Nat) (sid : Nat)
  /-- DIRECTIVE_RECEIVE (R395): Directive Receive returns directive parameters. -/
  | directiveReceive (fn : Nat) (cid : Nat) (nsid : Nat) (dtype : Nat)
  /-- VIRTUALIZATION_MANAGEMENT (R375): Virtualization Management moves flexible queue contexts to VFs. -/
  | virtualizationManagement (fn : Nat) (cid : Nat) (act : Nat) (cntlid : Nat) (rt : Nat) (n : Nat)
  /-- NVME_MI_SEND (R418): NVMe-MI Send tunnels a management request in band. -/
  | nvmeMiSend (fn : Nat) (cid : Nat)
  /-- NVME_MI_RECEIVE (R418): NVMe-MI Receive returns a management response in band. -/
  | nvmeMiReceive (fn : Nat) (cid : Nat) (len : Nat)
  /-- GET_LBA_STATUS (R394): Get LBA Status reports UNAVAILABLE ranges. -/
  | getLbaStatus (fn : Nat) (cid : Nat) (nsid : Nat) (slba : Nat) (range : Nat) (action : Nat) (most : Nat)
  /-- TABLATURE_DOWNLOAD (R415): Tablature Download stages image dwords and opens or checks the session. -/
  | tablatureDownload (fn : Nat) (cid : Nat) (ofs : Nat) (data : List Nat)
  /-- TABLATURE_COMMIT_VALIDATE (R416): Tablature Commit action 0 validates the staged image. -/
  | tablatureCommitValidate (fn : Nat) (cid : Nat)
  /-- TABLATURE_COMMIT_WRITE (R416): Tablature Commit action 1 validates, writes and reads back the unselected copy. -/
  | tablatureCommitWrite (fn : Nat) (cid : Nat) (readOk : Bool)
  /-- TABLATURE_SESSION_TIMEOUT (R415): A tablature session closes after 60 s without a Download. -/
  | tablatureSessionTimeout
  /-- TAB_SESSION_ABORT (R495): TAB.CTRL.SESSION_ABORT closes the tablature session. -/
  | tabSessionAbort
  /-- INVENTORY_IMPORT (R413): Inventory Import marks slots for identification. -/
  | inventoryImport (fn : Nat) (cid : Nat) (c : Nat) (first : Nat) (n : Nat)
  /-- INVENTORY_SLOT_IDENTIFY (R413): One slot's disc is mounted read-only and classified. -/
  | inventorySlotIdentify (d : Nat) (common : Option (List Nat))
  /-- INVENTORY_EXPORT (R414): Inventory Export releases removable discs or reports Disc In Use. -/
  | inventoryExport (fn : Nat) (cid : Nat) (c : Nat) (first : Nat) (n : Nat)
  /-- CALIBRATE_FULL (R417): Calibrate action 0 runs the full calibration procedure. -/
  | calibrateFull (fn : Nat) (cid : Nat) (seen : CalSeen)
  /-- CALIBRATE_EXPANDERS (R417): Calibrate action 1 calibrates the named expanders. -/
  | calibrateExpanders (fn : Nat) (cid : Nat) (bays : Nat) (cars : Nat) (seen : CalSeen)
  /-- CALIBRATE_RESTORE (R462): Calibrate action 2 restores a checked calibration image. -/
  | calibrateRestore (fn : Nat) (cid : Nat) (image : List Nat)
  /-- CALIBRATE_REFUSED (R417): Calibrate action 3 is refused with Invalid Field. -/
  | calibrateRefused (fn : Nat) (cid : Nat)
  /-- FIRMWARE_IMAGE_DOWNLOAD (R498): Firmware Image Download stages package bytes in the firmware session. -/
  | firmwareImageDownload (fn : Nat) (cid : Nat) (ofs : Nat) (data : List Nat)
  /-- FIRMWARE_COMMIT_WRITE (R504): Firmware Commit CA 000 validates and writes the inactive letter. -/
  | firmwareCommitWrite (fn : Nat) (cid : Nat) (fs : Nat) (readOk : Bool)
  /-- FIRMWARE_COMMIT_ARM (R505): Firmware Commit CA 001 writes and arms the letter for the next start-up. -/
  | firmwareCommitArm (fn : Nat) (cid : Nat) (fs : Nat) (readOk : Bool)
  /-- FIRMWARE_COMMIT_ARM_WRITTEN (R505): Firmware Commit CA 010 arms an already written letter, or falls back in probation. -/
  | firmwareCommitArmWritten (fn : Nat) (cid : Nat) (fs : Nat)
  /-- FIRMWARE_COMMIT_ACTIVATE (R506): Firmware Commit CA 011 writes if staged and activates at once. -/
  | firmwareCommitActivate (fn : Nat) (cid : Nat) (fs : Nat) (readOk : Bool)
  /-- FW_SESSION_TIMEOUT (R498): A firmware session without a Download for 60 s closes and discards the package. -/
  | fwSessionTimeout
  /-- FWU_SESSION_ABORT (R514): FWU.CTRL.SESSION_ABORT closes the firmware session. -/
  | fwuSessionAbort
  /-- ACTIVATION_STEP (R506): An activation step switches one component and the next step begins. -/
  | activationStep (reads : Bool)
  /-- PROBATION_END (R509): The first settings commit after 10 minutes ends probation and records COMMITTED. -/
  | probationEnd
  /-- FALLBACK (R510): A probation failure returns all components to the old letter. -/
  | fallback
  /-- SETTINGS_COMMIT (R511): Firmware writes the next settings generation to the other copy. -/
  | settingsCommit (fmt : Nat) (keys : List Nat) (readOk : Bool)
  /-- SIDEBAND_REQUEST (R418): An NVMe-MI request over I3C is served, answered Busy, or wakes the controller. -/
  | sidebandRequest (id : Nat) (kind : Nat)
  /-- HOST_LANE_FAULT (R372): A host lane or PHY fault retrains the link at a narrower width. -/
  | hostLaneFault (link : Nat) (lanes : Nat)
  /-- HOST_LINK_LOSS (R372): A host-caused hot reset or link disable resets the link's functions. -/
  | hostLinkLoss (link : Nat) (speed : Nat) (up : Bool)
  /-- PERST (R522): PERST# of a port resets that link and its functions. -/
  | perst (port : Nat)
  /-- FLR (R396): A Function Level Reset withdraws undecided commands of one function. -/
  | flr (fn : Nat)
  /-- CC_EN_CLEAR (R396): Clearing CC.EN withdraws undecided commands and clears CSTS.RDY when empty. -/
  | ccEnClear (fn : Nat)
  /-- CC_EN_SET (R524): Setting CC.EN sets CSTS.RDY once start-up allows. -/
  | ccEnSet (fn : Nat) (ams : Nat)
  /-- STAMP_ERR (R398): A parity error in the stamp sequencer or overlap tracker enters the fatal state. -/
  | stampErr
  /-- HST_CLR_CNT (R398): HST.CTRL.CLR_CNT clears the host counters. -/
  | hstClrCnt
  /-- HU_SENSE_SAMPLE (R423): HU_SENSE is sampled and V_bank and E_usable updated. -/
  | huSenseSample (code : Nat)
  /-- ADMISSION_LIMIT_UPDATE (R425): Every 100 µs D_max is computed from energy, vault rate and journal. -/
  | admissionLimitUpdate
  /-- CAP_TEST (R437): PLP.CTRL.CAP_TEST starts the capacitance test now. -/
  | capTest
  /-- CAP_TEST_START (R424): The 24-hour timer starts a capacitance test. -/
  | capTestStart
  /-- CAP_TEST_END (R424): After 20 ms the capacitance is computed or recorded as 0. -/
  | capTestEnd
  /-- JOURNAL_SEGMENT_WRITE (R421): A journal segment is written to the vault ring after its energy check. -/
  | journalSegmentWrite
  /-- VAULT_CHANGE (R422): The vault becomes unusable or usable again. -/
  | vaultChange (ev : VaultEvent)
  /-- POWER_LOSS_DECLARE (R429): PFAIL_N low for 2 µs or low V_bank declares power loss. -/
  | powerLossDeclare (bank : Bool)
  /-- DUMP_END (R430): The last unit is written and flushed and the controller is held in reset. -/
  | dumpEnd (units : Nat)
  /-- POWER_LOSS_HOLD_RELEASE (R430): Stable power for 10 ms or a RESET_N pulse releases the post-dump hold. -/
  | powerLossHoldRelease (pin : Bool) (us : Nat)
  /-- LOSS_ACK (R437): PLP.CTRL.LOSS_ACK clears the lost-data warning. -/
  | lossAck (req : Nat)
  /-- P_DUMP_WRITE (R425): A write of PLP.P_DUMP takes effect, or is discarded when 0. -/
  | pDumpWrite (v : Nat)
  /-- PLP_CLR_CNT (R437): PLP.CTRL.CLR_CNT clears the power-loss counters. -/
  | plpClrCnt
  /-- THERMAL_SAMPLE (R442): The die grid and NTCs are sampled and thresholds evaluated. -/
  | thermalSample (die : List Int) (kept : Nat)
  /-- GRACE_EXPIRY (R444): The grace ends with the throttle set and enforcement step 1 begins. -/
  | graceExpiry
  /-- ENFORCEMENT_STEP (R444): Each STEP_T with the throttle set advances enforcement one step. -/
  | enforcementStep
  /-- ENFORCEMENT_REMOVE (R446): Ten seconds after the throttle clears one enforcement step is removed. -/
  | enforcementRemove
  /-- ORDERLY_MAX_EXPIRY (R448): ORDERLY_MAX ends before the dump and the core is held in reset. -/
  | orderlyMaxExpiry (kept : Nat)
  /-- THERMAL_RESTART (R449): Sensor AO below 105 °C for 10 s restarts the controller. -/
  | thermalRestart (ao : Int) (ms : Nat)
  /-- THRESHOLD_WRITE (R441): A threshold write above the fused bound is clamped. -/
  | thresholdWrite (laser : Bool) (v : Nat)
  /-- THM_CLR_CNT (R451): THM.CTRL.CLR_CNT clears the thermal counters. -/
  | thmClrCnt
  /-- CAL_START (R458): CAL.CTRL.START runs the full calibration procedure. -/
  | calStart (seen : CalSeen)
  /-- CAL_EXP_START (R458): CAL.CTRL.EXP_START calibrates the expanders in EXP_SEL. -/
  | calExpStart (seen : CalSeen)
  /-- CALIBRATION_PROCEDURE_END (R459): The procedure ends and its values come into force at their boundaries. -/
  | calibrationProcedureEnd (seen : CalSeen)
  /-- CAL_AUTO (R461): Every AUTO hours steps 1 and 4 are repeated. -/
  | calAuto (seen : CalSeen)
  /-- CAL_VALUE_WRITE (R460): A software write of a calibration value is clamped to the fused bounds. -/
  | calValueWrite (item : Nat) (gain : Nat) (offset : Int)
  /-- FUSE_PROGRAM (R473): FUS.PROG_CTRL.GO blows the masked bits of a fuse word. -/
  | fuseProgram
  /-- FUSE_PROGRAM_DONE (R473): Programming ends with a tightened-margin read-back. -/
  | fuseProgramDone (failed : Nat)
  /-- AUTH_GO (R475): AUTH_GO verifies an authorisation block and renews the nonce. -/
  | authGo
  /-- DEBUG_CLOSE (R474): FUS.PROG_CTRL.DEBUG_CLOSE closes the debug port permanently. -/
  | debugClose
  /-- REFERENCE_LOSS (R518): A reference clock is declared lost and its consumers respond. -/
  | referenceLoss (ref : Nat)
  /-- PLL_UNLOCK (R518): A PLL leaves lock and its consumers fault. -/
  | pllUnlock (pll : Nat)
  /-- POWER_STATE_REQUEST (R521): PWR.CTRL.GO acts on the requested power state. -/
  | powerStateRequest (req : Nat)
  /-- IDLE_POISE (R521): No disc-bound work for POISE moves Run to Poised. -/
  | idlePoise
  /-- IDLE_PARK (R521): No command for PARK, or all PFs in D3hot, starts Parked entry. -/
  | idlePark
  /-- POISED_TO_RUN (R521): Disc-bound work in Poised pulls in the heads and returns to Run. -/
  | poisedToRun
  /-- PARKED_ENTRY_DONE (R521): Parked entry completes with DDR5 in self-refresh and links in L1. -/
  | parkedEntryDone
  /-- DORMANT_ENTRY (R521): PERST# on every link for 100 ms in Parked enters Dormant. -/
  | dormantEntry
  /-- WAKE_N (R521): WAKE_N low wakes the controller from Dormant. -/
  | wakeN
  /-- WAKE_TIMER_MATCH (R521): The wake timer reaches its compare value and wakes the controller. -/
  | wakeTimerMatch
  /-- CHIP_RESET (R522): PWR.CTRL.CHIP_RESET resets all but the always-on domain. -/
  | chipReset
  /-- RESET_N (R522): RESET_N low resets the chip, or releases a fatal or post-dump hold. -/
  | resetN
  /-- ALWAYS_ON_RESET (R522): VAON applied resets everything and starts rail sequencing. -/
  | alwaysOnReset
  /-- START_UP (R524): RESET_N high starts fuse load, tablature selection, training, calibration and recovery. -/
  | startUp (x : StartConditions)
  /-- MAP_REBUILD (R525): Placement rebuilds the map from directory, checkpoints, journal and units. -/
  | mapRebuild (rows : List FoundRow)
  /-- MAP_READY (R525): The rebuild ends, namespaces become ready and a header of state 1 is written. -/
  | mapReady
  /-- SW_SET (R532): A write of EVT.SW_SET sets software event flags. -/
  | swSet (hi : Bool) (v : Nat)
  /-- LOG_CLR (R549): EVT.CTRL.LOG_CLR zeroes the event log and LOG_HEAD. -/
  | logClr
  /-- LOCKSTEP_MISMATCH (R539): A lockstep comparison failure fences the pair and moves its duties. -/
  | lockstepMismatch (p : Nat)
  /-- STACK_UE (R539): An uncorrectable error in a pair's stack fences the pair. -/
  | stackUe (p : Nat)
  /-- PAIR_RESTORE (R539): RESTORE self-tests a fenced pair and returns it to service. -/
  | pairRestore (p : Nat) (pass : Bool)
  /-- WATCHDOG_EXPIRY (R540): A pair's watchdog expires and a management reset follows. -/
  | watchdogExpiry (p : Nat)
  /-- WDOG_KICK (R540): A write of WDOG_KICK restarts the pair's watchdog. -/
  | wdogKick (p : Nat)
  /-- FATAL_DECLARE (R541): A fatal cause enters the fatal state and stops the mechanism. -/
  | fatalDeclare (cause : Nat) (detail : Nat)
  /-- DMP_FATAL (R551): A write of DMP.FATAL declares fatal cause 0x07. -/
  | dmpFatal (req : Nat) (v : Nat)
  /-- DUMP_COPY_TO_FLASH (R542): The fatal dump is copied to the boot-flash dump area. -/
  | dumpCopyToFlash
  /-- FATAL_RELEASE (R543): DMP.CTRL.RELEASE releases the fatal hold into a chip reset. -/
  | fatalRelease
  /-- FATAL_HOLD_EXPIRY (R543): DMP.HOLD seconds pass and the fatal hold is released. -/
  | fatalHoldExpiry
  /-- DMP_CLEAR (R546): DMP.CTRL.CLEAR clears the flash dump copy. -/
  | dmpClear
  /-- RAIL_OUT_OF_TOLERANCE (R556): A rail monitor out of tolerance holds reset or declares power loss. -/
  | railOutOfTolerance (rail : Nat) (good : Bool)
  /-- VAON_LOW (R563): VAON below 3.0 V for 10 µs declares power loss. -/
  | vaonLow
  /-- PERST_DEASSERT (R521): PERST# deasserted on a port ends its port reset and, in Dormant, starts the Dormant exit to a full start-up. -/
  | perstDeassert (port : Nat) (speed : Nat) (width : Nat)
  /-- D0_TRANSITION (R521): A host moves a function between D3hot and D0, which can start Parked entry or, in Parked, bring the controller back to Run. -/
  | d0Transition (fn : Nat) (toD0 : Bool)
  deriving DecidableEq, Repr

end Sys2Proof
end

