-- ==== Sys2Proof/Config.lean ====
section
/-! DEFINITION. What the manual leaves open: free values (constants with no body, so that no proof can see what they
are). `fresh` stands for a new value each time; the state's counter `fresh` is its argument (log entry 4). -/

namespace Sys2Proof.Config

/-- A free value, a new one for each argument (the state's counter). Used where a rule leaves a value open. -/
opaque freeValue : Nat → Nat

/-- Whether a value that lies strictly between two neighbouring whole numbers is taken as the upper one: the numerator (or a
high-precision stand-in) and the denominator. Used where a rule gives a value and not its rounding. -/
opaque roundsUp : Int → Nat → Bool

/-- R174: where between the reference and the new sum a servo beam's 1 kHz low-pass reference moves. The manual gives the corner
frequency and no difference equation. -/
opaque lowPass1k : Nat → Nat → Nat

/-- R175, R181: the unit of the normalised peak-to-peak values FE_PP and TE_PP, which the manual does not state. -/
opaque ppUnit : Nat

/-- R180, R195: the park value of a focus coil's setpoint, which the manual names and does not give. -/
opaque parkValue : Int

/-- R180: the nominal Σ SUM_j of a servo beam pair that CAP_SUM counts 1/256 of, which the manual does not give. -/
opaque nominalSum : Nat

/-- R187: the tracking setpoint that gives an acceleration in units of 10 m/s², and that of the velocity control from the commanded
speed in µm/s and the present setpoint; the manual gives neither the coil's force nor the control law. -/
opaque accelCoil : Int → Int
opaque speedCoil : Int → Int → Int

/-- R191: whether the last crossing of a layer jump is near, from the layers to jump and the samples since the last crossing; the manual
does not say when the brake begins. -/
opaque nearCrossing : Nat → Nat → Bool

/-- R100, R101: the cubic Farrow interpolation between the middle two of four samples at a fraction of 1/65,536 sample period; the manual
names the structure and gives no coefficients. -/
opaque farrow : Int → Int → Int → Int → Nat → Int

/-- R127: the log-likelihood ratio of the 4-state windowed max-log-MAP detector at a bit, from the target, the equalized values
with the neighbours' terms subtracted (scale 2^30; none where erased) and the bit. The manual names the detector and its window of
64 bits, and gives no metric scale or precision. -/
opaque mapLlr : List Int → List (Option Int) → Nat → Int

/-- R127: the soft estimate tanh(L/2) in Q1.15; the scale of L is the detector's. -/
opaque softBit : Int → Int

/-- R140: the crosstalk coefficient (Q1.15) of the beam two tracks inward (false) or outward (true) of a beam of a head at rung 5,
for which the manual gives no value. -/
opaque farCoef : Nat → Nat → Bool → Int

/-- R129: the wobble waveform of a servo turn in reference phase, in Q1.15, at a phase in 1/2^32 wobble period, and the next
adapted amplitude of an edge beam from the present one and the codeword's final-pass errors. The manual gives neither. -/
opaque wobbleWave : Nat → Int
opaque wobbleAmp : Int → List Int → Int

/-- R229, R233: what the duties of the three phases have in common, in 1/2^16, from the d and q voltages, the predicted angle and the bus
voltage: the manual fixes the differences between the phases' duties by the voltage vector, and not this. -/
opaque commonDuty : Int → Int → Nat → Nat → Int

/-- R271: the carousel slots by which a bay's tray is turned from the position that CMOT.CMD.TARGET counts from; the manual
gives no angle of a bay. -/
opaque baySlot : Nat → Nat

/-- R299: the time of a seek from the servo's band to another in µs, which the manual's estimate names; its servo rules give limits only. -/
opaque seekTime : Nat → Nat → Nat

/-- R458: the reference converter's gain (Q2.30) and offset (1/16 code) that a CALREF reading in µV gives, and a die sensor's offset from its
fused trim and the reference converter's gain; the manual gives none of these formulas. -/
opaque refGain : Nat → Nat
opaque refOffset : Nat → Int
opaque dieOffset : Int → Nat → Int

/-- R421, R425: the bytes of a journal record that is no row record: 0 an admission, 1 a durability mark, 2 a changed map page,
3 a cursor; the manual gives 256 B for a row record only. -/
opaque recordBytes : Nat → Nat

/-- R400 to R404, R418, R545: a byte of an Identify structure, a log page, a management response or the dump's record of a
management pair that the manual does not state: by the data's kind, an argument, and the offset. -/
opaque unstatedByte : Nat → Nat → Nat → Nat

/-- R472: SHA-384, Ed25519 (public key, digest, signature) and ML-DSA-65 (context string, public key, digest, signature):
standard functions the manual names and does not spell out. -/
opaque sha384 : List Nat → Nat
opaque ed25519 : List Nat → Nat → List Nat → Bool
opaque mlDsa65 : List Nat → List Nat → Nat → List Nat → Bool

end Sys2Proof.Config
end

