-- ==== Sys2Proof/Word.lean ====
section
/-! DEFINITION. The finite maps the state is made of (a list of key and value pairs, keys strictly rising), and the
plainest arithmetic on numbers of a fixed width. -/

namespace Sys2Proof

/-- One byte. -/
abbrev Byte := BitVec 8

/-- A finite map from numbers as plain data: pairs of a key and a value. -/
abbrev Map (α : Type) := List (Nat × α)

/-- The value at a key; a key that is not listed reads as the default of that key. -/
def mapGet {α : Type} (d : Nat → α) : Map α → Nat → α
  | [], k => d k
  | (j, v) :: m, k => if k = j then v else mapGet d m k

/-- The value listed at a key, if any. -/
def mapFind {α : Type} : Map α → Nat → Option α
  | [], _ => none
  | (j, v) :: m, k => if k = j then some v else mapFind m k

/-- The map without any entry of the key. -/
def mapErase {α : Type} : Map α → Nat → Map α
  | [], _ => []
  | (j, v) :: m, k => if j = k then mapErase m k else (j, v) :: mapErase m k

/-- An entry put before the first entry of a larger key. -/
def mapInsert {α : Type} : Map α → Nat → α → Map α
  | [], k, v => [(k, v)]
  | (j, w) :: m, k, v => if k < j then (k, v) :: (j, w) :: m else (j, w) :: mapInsert m k v

/-- The map with one value changed: the one way a map of the state is written. -/
def mapPut {α : Type} (m : Map α) (k : Nat) (v : α) : Map α := mapInsert (mapErase m k) k v

/-- The map with one value changed, where an entry equal to the default of its key is never listed. -/
def mapPutD {α : Type} [DecidableEq α] (d : Nat → α) (m : Map α) (k : Nat) (v : α) : Map α :=
  if v = d k then mapErase m k else mapPut m k v

/-- The map without the entries whose keys lie in `[lo, hi)`. -/
def mapEraseRange {α : Type} : Map α → Nat → Nat → Map α
  | [], _, _ => []
  | (j, v) :: m, lo, hi => if lo ≤ j ∧ j < hi then mapEraseRange m lo hi else (j, v) :: mapEraseRange m lo hi

/-- Every key of the map is larger than `b`, and the keys rise strictly. -/
def mapRising {α : Type} : Option Nat → Map α → Bool
  | _, [] => true
  | none, (j, _) :: m => mapRising (some j) m
  | some b, (j, _) :: m => decide (b < j) && mapRising (some j) m

/-- No listed entry equals the default of its key. -/
def mapNoDefault {α : Type} [DecidableEq α] (d : Nat → α) : Map α → Bool
  | [] => true
  | (j, v) :: m => decide (v ≠ d j) && mapNoDefault d m

/-- The canonical form of a map whose unlisted keys read as `d`. -/
def mapWf {α : Type} [DecidableEq α] (d : Nat → α) (m : Map α) : Bool := mapRising none m && mapNoDefault d m

/-- The number `v` cut to `w` bits. -/
def trunc (w v : Nat) : Nat := v % 2 ^ w

/-- The signed value of a `w`-bit two's complement number. -/
def toSigned (w v : Nat) : Int := if 2 * (v % 2 ^ w) < 2 ^ w then (v % 2 ^ w : Nat) else (v % 2 ^ w : Nat) - (2 ^ w : Nat)

/-- The `w`-bit two's complement encoding of a signed value. -/
def ofSigned (w : Nat) (v : Int) : Nat := (v % (2 ^ w : Nat)).toNat

/-- A sum that saturates at the largest value of `w` bits. -/
def satAdd (w a b : Nat) : Nat := min (a + b) (2 ^ w - 1)

/-- A signed value kept within two limits. -/
def clampInt (lo hi v : Int) : Int := min (max v lo) hi

/-- Division rounded to nearest, ties away from zero; the divisor is positive. -/
def divRound (a : Int) (b : Nat) : Int :=
  if 0 ≤ a then (2 * a + b) / (2 * b) else -((2 * (-a) + b) / (2 * b))

/-- The bit of a number. -/
def bitOf (v i : Nat) : Nat := v / 2 ^ i % 2

/-- A number as the list of its `n` low bytes, least significant first. -/
def bytesLE : Nat → Nat → List Nat
  | 0, _ => []
  | n + 1, v => v % 256 :: bytesLE n (v / 256)

/-- The number a list of bytes spells, least significant first. -/
def ofBytesLE : List Nat → Nat
  | [] => 0
  | b :: bs => b % 256 + 256 * ofBytesLE bs

end Sys2Proof
end

