-- ==== Sys2Proof/Machine/Real.lean ====
section
/-! DEFINITION. Values the manual gives by real arithmetic without a rounding: each is one of the two whole numbers next to the
exact value, which of them being free (`Config.roundsUp`); a value that is whole is that value (log entry 4). -/

namespace Sys2Proof.Machine

/-- A quotient as a whole number: exact where it is whole, else one of its two neighbours. -/
def roundQuot (n : Int) (d : Nat) : Int :=
  n / (d : Int) + (if n % (d : Int) = 0 then 0 else if Config.roundsUp n d then 1 else 0)

/-- A quotient rounded to nearest, where only the half-way case is free. -/
def nearQuot (n : Int) (d : Nat) : Int :=
  let q := n / (d : Int)
  let r := n % (d : Int)
  if 2 * r < d then q else if (d : Int) < 2 * r then q + 1 else if Config.roundsUp n d then q + 1 else q

/-- One of the two whole numbers next to a root of a quotient. -/
def rootQuot (n d : Nat) : Nat :=
  let q := Nat.sqrt (n / d)
  if q * q * d = n then q else if Config.roundsUp n d then q + 1 else q

/-- The root mean square of a run of values (R198), given in 1/64, as a whole number. -/
def rms (l : List Int) : Nat :=
  if l = [] then 0 else rootQuot ((l.map fun x => (x * x).toNat).sum) (4096 * l.length)

/-- π and 2π times 2^60, rounded down. -/
def pi60 : Nat := 3622009729038561421
def twoPi60 : Nat := 7244019458077122842

/-- A quotient `n / (π d)` as one of the two whole numbers next to it. -/
def piQuot (n : Int) (d : Nat) : Int := roundQuot (n * 2 ^ 60) (d * pi60)

/-- The sine and cosine of an angle of the first quarter turn, p of 2^32 parts of a turn, times 2^40, by their power series. -/
def sinSeries (x : Int) : Nat → Nat → Int → Int
  | 0, _, t => t
  | n + 1, k, t => t + sinSeries x n (k + 2) (-(t * x / 2 ^ 40 * x / 2 ^ 40) / ((k + 1 : Int) * (k + 2)))
def quarterSin (p : Nat) : Int :=
  let x : Int := (p * twoPi60 / 2 ^ 52 : Nat)
  sinSeries x 11 1 x

/-- The sine of p of 2^32 parts of a turn, times 2^40, and the cosine. -/
def sinTurn (p0 : Nat) : Int :=
  let p := p0 % 2 ^ 32
  if p ≤ 2 ^ 30 then quarterSin p
  else if p ≤ 2 ^ 31 then quarterSin (2 ^ 31 - p)
  else if p ≤ 3 * 2 ^ 30 then -quarterSin (p - 2 ^ 31)
  else -quarterSin (2 ^ 32 - p)
def cosTurn (p : Nat) : Int := sinTurn (p + 2 ^ 30)

/-- e^(−x) for x / 2^60, times 2^60: the power series of x / 2^16, then squared sixteen times. -/
def expSeries (x : Int) : Nat → Nat → Int → Int
  | 0, _, t => t
  | n + 1, k, t => t + expSeries x n (k + 1) (-(t * x) / (2 ^ 60 * (k : Int)))
def expNeg (x : Nat) : Int := (List.range 16).foldl (fun v _ => v * v / 2 ^ 60) (expSeries (x / 2 ^ 16 : Nat) 12 1 (2 ^ 60))

/-- The natural logarithm of a / b (0 < b ≤ a), times 2^40, by the series of the inverse hyperbolic tangent of (a − b) / (a + b). -/
def lnSeries (z2 : Int) : Nat → Nat → Int → Int
  | 0, _, _ => 0
  | n + 1, k, t => t / k + lnSeries z2 n (k + 2) (t * z2 / 2 ^ 40)
def lnQuot (a b : Nat) : Int :=
  let z : Int := ((a : Int) - b) * 2 ^ 40 / (a + b)
  2 * lnSeries (z * z / 2 ^ 40) 60 1 z

/-- The reload of a step timer (R255), round(2 / (v + v') / 6.4 ns) from 10^6 v² and 10^6 v'². -/
def stepTicks (a b : Nat) : Nat :=
  let sum := Nat.sqrt (a * 10 ^ 24) + Nat.sqrt (b * 10 ^ 24)
  (nearQuot (312500000 * 10 ^ 15 : Nat) (max 1 sum)).toNat

/-- The reference of a stepper phase in mA (R256): I cos (phase A) or I sin (phase B) of 2π m / 1024. -/
def phaseRef (i : Nat) (m : Int) (phB : Bool) : Int :=
  let p := (m % 1024).toNat * 2 ^ 22
  let v := i * (if phB then sinTurn p else cosTurn p)
  if p % 2 ^ 30 = 0 then divRound v (2 ^ 40) else roundQuot v (2 ^ 40)

/-- C = 0.020 s / (R_TEST ln(V0 / V1)) in mF (R424), from R_TEST in 10 mΩ and the two voltages. -/
def capacitance (r v0 v1 : Nat) : Nat :=
  let den := (r * (lnQuot v0 v1).toNat : Nat)
  if den = 0 then 65535 else (roundQuot (2000 * 2 ^ 40 : Nat) den).toNat

end Sys2Proof.Machine
end

