-- ==== Sys2Proof/Machine/RegMap.lean ====
section
/-! DEFINITION. The register window as data: every register field the manual's register and field tables give, by byte
offset, first bit, width, access code and reset value (R2, R21 to R26 and each chapter's register rules). The rows follow
the manual's tables in their order. A field whose reset column reads "tab" or "fuse" holds 0 until start-up loads it
(DESIGN CHOICE, log entry 2). -/

namespace Sys2Proof.Machine

/-- The access codes of R2. -/
inductive Access where
  | rw | ro | wo | w1c | w1s | rwl | rwb
  deriving DecidableEq, Repr

/-- Which instantiation bit decides whether a block exists (R12). -/
inductive UnitKind where
  | always | head | bay | carousel | arbour | ddr
  deriving DecidableEq, Repr

/-- A field of a register: the register's byte offset in the window, the field's least significant bit, its width. -/
structure Fld where
  off   : Nat
  lsb   : Nat
  width : Nat
  deriving DecidableEq, Repr

/-- The bit address of a field: unique in the window, since no two fields share their first bit. -/
def Fld.key (f : Fld) : Nat := 8 * f.off + f.lsb

/-- Where a field's reset value comes from (R2): the table's number, the tablature, the fuse array. -/
inductive ResetKind where
  | val | tab | fuse
  deriving DecidableEq, Repr

/-- One row of a register table: `count` registers `stride` bytes apart, a field of each. -/
structure RegRow where
  off    : Nat
  count  : Nat
  stride : Nat
  lsb    : Nat
  width  : Nat
  access : Access
  reset  : Nat
  src    : ResetKind := .val
  deriving DecidableEq, Repr

/-- One register block: `n1 × n2` instances of `size` bytes, and its rows (R21, R22). -/
structure RegBlock where
  base    : Nat
  n1      : Nat
  stride1 : Nat
  n2      : Nat
  stride2 : Nat
  size    : Nat
  kind    : UnitKind
  rows    : List RegRow
  deriving DecidableEq, Repr

def rowsGlb0 : List RegRow := [
  ⟨0x0, 1, 4, 0, 32, .ro, 0x3264ae15, .val⟩,
  ⟨0x4, 1, 4, 0, 32, .ro, 0, .fuse⟩,
  ⟨0x8, 1, 4, 0, 32, .ro, 1, .val⟩,
  ⟨0x10, 1, 8, 0, 64, .ro, 0, .fuse⟩,
  ⟨0x18, 1, 8, 0, 64, .ro, 0, .fuse⟩,
  ⟨0x20, 1, 8, 0, 64, .ro, 0, .tab⟩,
  ⟨0x28, 1, 8, 0, 64, .ro, 0, .tab⟩,
  ⟨0x30, 1, 4, 0, 32, .ro, 0, .tab⟩,
  ⟨0x34, 1, 4, 0, 4, .ro, 0, .tab⟩,
  ⟨0x34, 1, 4, 4, 16, .ro, 0, .tab⟩,
  ⟨0x38, 1, 4, 0, 9, .ro, 0, .tab⟩,
  ⟨0x38, 1, 4, 16, 4, .ro, 0, .tab⟩,
  ⟨0x40, 1, 8, 0, 28, .ro, 0, .val⟩,
  ⟨0x40, 1, 8, 32, 4, .ro, 0, .val⟩,
  ⟨0x40, 1, 8, 36, 3, .ro, 0, .val⟩,
  ⟨0x40, 1, 8, 39, 1, .ro, 0, .val⟩,
  ⟨0x40, 1, 8, 62, 1, .ro, 0, .val⟩,
  ⟨0x40, 1, 8, 63, 1, .w1c, 0, .val⟩,
  ⟨0x48, 4, 4, 0, 32, .rw, 0, .val⟩]

/-- The rows of block GLB. -/
def rowsGlb : List RegRow := rowsGlb0

def rowsHl0 : List RegRow := [
  ⟨0x0, 1, 4, 0, 1, .rw, 0, .val⟩,
  ⟨0x0, 1, 4, 1, 1, .w1s, 0, .val⟩,
  ⟨0x0, 1, 4, 2, 1, .rw, 0, .val⟩,
  ⟨0x0, 1, 4, 3, 1, .w1s, 0, .val⟩,
  ⟨0x0, 1, 4, 8, 2, .rwb, 0, .val⟩,
  ⟨0x0, 1, 4, 10, 1, .rw, 1, .val⟩,
  ⟨0x4, 1, 4, 0, 4, .ro, 0, .val⟩,
  ⟨0x4, 1, 4, 4, 4, .ro, 0, .val⟩,
  ⟨0x4, 1, 4, 8, 1, .ro, 0, .val⟩,
  ⟨0x4, 1, 4, 9, 2, .ro, 0, .val⟩,
  ⟨0x4, 1, 4, 11, 2, .ro, 0, .val⟩,
  ⟨0x4, 1, 4, 13, 1, .ro, 0, .val⟩,
  ⟨0x8, 1, 4, 0, 9, .rwb, 0x100, .val⟩,
  ⟨0x8, 1, 4, 16, 1, .rwb, 0, .val⟩,
  ⟨0xc, 1, 4, 0, 32, .ro, 0, .tab⟩,
  ⟨0x10, 1, 4, 0, 32, .w1c, 0, .val⟩,
  ⟨0x14, 1, 4, 0, 32, .rw, 0, .val⟩,
  ⟨0x18, 1, 4, 0, 32, .ro, 0, .val⟩,
  ⟨0x20, 1, 8, 0, 64, .ro, 0, .val⟩,
  ⟨0x28, 4, 4, 0, 32, .ro, 0, .val⟩,
  ⟨0x38, 4, 4, 0, 32, .ro, 0, .val⟩,
  ⟨0x48, 1, 4, 0, 32, .ro, 0, .val⟩,
  ⟨0x4c, 1, 4, 0, 16, .ro, 0, .val⟩,
  ⟨0x4c, 1, 4, 16, 16, .ro, 0, .val⟩]

def rowsHl1 : List RegRow := [
  ⟨0x50, 1, 4, 0, 16, .ro, 0, .val⟩,
  ⟨0x50, 1, 4, 16, 16, .ro, 0, .val⟩,
  ⟨0x54, 1, 4, 0, 16, .rw, 0, .tab⟩,
  ⟨0x58, 1, 4, 0, 16, .ro, 0, .val⟩,
  ⟨0x58, 1, 4, 16, 16, .ro, 0, .val⟩,
  ⟨0x5c, 1, 4, 0, 8, .ro, 0, .val⟩,
  ⟨0x5c, 1, 4, 8, 8, .ro, 0, .val⟩,
  ⟨0x5c, 1, 4, 16, 16, .ro, 0, .val⟩,
  ⟨0x60, 4, 4, 0, 32, .ro, 0, .val⟩,
  ⟨0x70, 1, 4, 0, 16, .ro, 0, .val⟩,
  ⟨0x70, 1, 4, 16, 16, .ro, 0, .val⟩,
  ⟨0x74, 1, 4, 0, 16, .ro, 0, .val⟩,
  ⟨0x74, 1, 4, 16, 16, .ro, 0, .val⟩,
  ⟨0x80, 1, 4, 0, 1, .w1s, 0, .val⟩,
  ⟨0x80, 1, 4, 1, 1, .w1c, 0, .val⟩,
  ⟨0x80, 1, 4, 2, 5, .ro, 0, .val⟩,
  ⟨0x100, 64, 4, 0, 32, .rw, 0, .val⟩,
  ⟨0x200, 64, 4, 0, 32, .ro, 0, .val⟩]

/-- The rows of block HL. -/
def rowsHl : List RegRow := rowsHl0 ++ rowsHl1

def rowsBl0 : List RegRow := [
  ⟨0x0, 1, 4, 0, 1, .rw, 0, .val⟩,
  ⟨0x0, 1, 4, 1, 1, .w1s, 0, .val⟩,
  ⟨0x0, 1, 4, 2, 1, .w1s, 0, .val⟩,
  ⟨0x4, 1, 4, 0, 3, .ro, 0, .val⟩,
  ⟨0x4, 1, 4, 3, 2, .ro, 0, .val⟩,
  ⟨0x4, 1, 4, 5, 1, .ro, 0, .val⟩,
  ⟨0x4, 1, 4, 6, 1, .ro, 0, .val⟩,
  ⟨0x8, 1, 4, 0, 8, .rwb, 8, .val⟩,
  ⟨0xc, 1, 4, 0, 16, .rwb, 0, .tab⟩,
  ⟨0x10, 1, 4, 0, 32, .w1c, 0, .val⟩,
  ⟨0x14, 1, 4, 0, 32, .rw, 0, .val⟩,
  ⟨0x18, 1, 4, 0, 16, .ro, 0, .val⟩,
  ⟨0x18, 1, 4, 16, 16, .ro, 0, .val⟩,
  ⟨0x1c, 1, 4, 0, 32, .ro, 0, .val⟩,
  ⟨0x20, 1, 4, 0, 16, .ro, 0, .val⟩,
  ⟨0x20, 1, 4, 16, 16, .ro, 0, .val⟩,
  ⟨0x24, 1, 4, 0, 16, .ro, 0, .val⟩,
  ⟨0x28, 1, 4, 0, 16, .ro, 0, .val⟩,
  ⟨0x28, 1, 4, 16, 16, .ro, 0, .val⟩,
  ⟨0x30, 4, 4, 0, 32, .ro, 0, .val⟩]

/-- The rows of block BL. -/
def rowsBl : List RegRow := rowsBl0

def rowsCl0 : List RegRow := [
  ⟨0x0, 1, 4, 0, 1, .rw, 0, .val⟩,
  ⟨0x0, 1, 4, 1, 1, .w1s, 0, .val⟩,
  ⟨0x0, 1, 4, 2, 1, .w1s, 0, .val⟩,
  ⟨0x4, 1, 4, 0, 3, .ro, 0, .val⟩,
  ⟨0x4, 1, 4, 3, 2, .ro, 0, .val⟩,
  ⟨0x4, 1, 4, 5, 1, .ro, 0, .val⟩,
  ⟨0x4, 1, 4, 6, 1, .ro, 0, .val⟩,
  ⟨0x8, 1, 4, 0, 8, .rwb, 8, .val⟩,
  ⟨0xc, 1, 4, 0, 16, .rwb, 0, .tab⟩,
  ⟨0x10, 1, 4, 0, 32, .w1c, 0, .val⟩,
  ⟨0x14, 1, 4, 0, 32, .rw, 0, .val⟩,
  ⟨0x18, 1, 4, 0, 16, .ro, 0, .val⟩,
  ⟨0x18, 1, 4, 16, 16, .ro, 0, .val⟩,
  ⟨0x1c, 1, 4, 0, 32, .ro, 0, .val⟩,
  ⟨0x20, 1, 4, 0, 16, .ro, 0, .val⟩,
  ⟨0x20, 1, 4, 16, 16, .ro, 0, .val⟩,
  ⟨0x24, 1, 4, 0, 16, .ro, 0, .val⟩,
  ⟨0x28, 1, 4, 0, 16, .ro, 0, .val⟩,
  ⟨0x28, 1, 4, 16, 16, .ro, 0, .val⟩,
  ⟨0x30, 4, 4, 0, 32, .ro, 0, .val⟩]

/-- The rows of block CL. -/
def rowsCl : List RegRow := rowsCl0

def rowsCh0 : List RegRow := [
  ⟨0x0, 1, 4, 0, 1, .rw, 0, .val⟩,
  ⟨0x0, 1, 4, 1, 1, .rw, 0, .val⟩,
  ⟨0x0, 1, 4, 2, 1, .rw, 0, .val⟩,
  ⟨0x0, 1, 4, 3, 1, .w1s, 0, .val⟩,
  ⟨0x0, 1, 4, 4, 1, .rw, 0, .val⟩,
  ⟨0x0, 1, 4, 5, 1, .rw, 1, .val⟩,
  ⟨0x4, 1, 4, 0, 3, .ro, 0, .val⟩,
  ⟨0x4, 1, 4, 3, 1, .ro, 0, .val⟩,
  ⟨0x4, 1, 4, 4, 1, .ro, 0, .val⟩,
  ⟨0x4, 1, 4, 5, 1, .ro, 0, .val⟩,
  ⟨0x4, 1, 4, 6, 1, .ro, 0, .val⟩,
  ⟨0x8, 1, 4, 0, 32, .w1c, 0, .val⟩,
  ⟨0xc, 1, 4, 0, 32, .rw, 0, .val⟩,
  ⟨0x10, 1, 4, 0, 5, .ro, 0, .val⟩,
  ⟨0x10, 1, 4, 8, 9, .ro, 0, .val⟩,
  ⟨0x10, 1, 4, 24, 1, .ro, 0, .val⟩,
  ⟨0x14, 1, 4, 0, 14, .ro, 0, .val⟩,
  ⟨0x14, 1, 4, 14, 4, .ro, 0, .val⟩,
  ⟨0x14, 1, 4, 18, 1, .ro, 0, .val⟩,
  ⟨0x14, 1, 4, 31, 1, .ro, 0, .val⟩,
  ⟨0x18, 4, 4, 0, 32, .ro, 0, .val⟩,
  ⟨0x28, 1, 4, 0, 4, .rwb, 0, .tab⟩,
  ⟨0x28, 1, 4, 4, 12, .rwb, 0, .tab⟩,
  ⟨0x28, 1, 4, 16, 12, .rwb, 0, .tab⟩]

def rowsCh1 : List RegRow := [
  ⟨0x2c, 1, 4, 0, 32, .ro, 0, .val⟩,
  ⟨0x30, 1, 4, 0, 16, .ro, 0, .val⟩,
  ⟨0x30, 1, 4, 16, 16, .ro, 0, .val⟩,
  ⟨0x34, 1, 4, 0, 16, .ro, 0, .tab⟩,
  ⟨0x38, 1, 4, 0, 8, .rwb, 0, .tab⟩,
  ⟨0x38, 1, 4, 8, 8, .rwb, 0, .tab⟩,
  ⟨0x3c, 1, 4, 0, 7, .rwb, 0xa, .val⟩,
  ⟨0x3c, 1, 4, 8, 7, .rwb, 0xc, .val⟩,
  ⟨0x40, 1, 4, 0, 16, .rw, 0, .tab⟩,
  ⟨0x80, 20, 4, 0, 9, .ro, 0, .tab⟩,
  ⟨0x80, 20, 4, 16, 1, .ro, 0, .tab⟩,
  ⟨0x100, 32, 4, 0, 32, .rw, 0, .tab⟩,
  ⟨0x200, 1, 4, 0, 32, .ro, 0, .val⟩,
  ⟨0x204, 1, 4, 0, 32, .ro, 0, .val⟩,
  ⟨0x208, 1, 4, 0, 32, .ro, 0, .val⟩,
  ⟨0x20c, 1, 4, 0, 32, .ro, 0, .val⟩,
  ⟨0x210, 1, 4, 0, 32, .ro, 0, .val⟩,
  ⟨0x214, 1, 4, 0, 32, .ro, 0, .val⟩,
  ⟨0x218, 1, 4, 0, 32, .ro, 0, .val⟩,
  ⟨0x21c, 1, 4, 0, 32, .ro, 0, .val⟩,
  ⟨0x220, 1, 4, 0, 32, .ro, 0, .val⟩,
  ⟨0x224, 1, 4, 0, 32, .ro, 0, .val⟩,
  ⟨0x228, 1, 4, 0, 32, .ro, 0, .val⟩,
  ⟨0x22c, 1, 4, 0, 32, .ro, 0, .val⟩]

def rowsCh2 : List RegRow := [
  ⟨0x400, 1, 4, 0, 1, .rw, 1, .val⟩,
  ⟨0x400, 1, 4, 1, 1, .rw, 1, .val⟩,
  ⟨0x400, 1, 4, 2, 2, .rw, 1, .val⟩,
  ⟨0x400, 1, 4, 4, 1, .rw, 1, .val⟩,
  ⟨0x400, 1, 4, 5, 1, .rw, 1, .val⟩,
  ⟨0x400, 1, 4, 6, 1, .w1s, 0, .val⟩,
  ⟨0x404, 1, 4, 0, 8, .rwb, 0, .tab⟩,
  ⟨0x404, 1, 4, 8, 16, .rwb, 0, .tab⟩,
  ⟨0x408, 1, 4, 0, 8, .rwb, 0x66, .val⟩,
  ⟨0x408, 1, 4, 8, 8, .rwb, 0xcd, .val⟩,
  ⟨0x408, 1, 4, 16, 8, .rwb, 0x10, .val⟩,
  ⟨0x408, 1, 4, 24, 8, .rwb, 0x40, .val⟩,
  ⟨0x40c, 1, 4, 0, 8, .rwb, 8, .val⟩,
  ⟨0x40c, 1, 4, 16, 16, .rwb, 0xc00, .val⟩,
  ⟨0x410, 1, 4, 0, 6, .rwb, 0xc, .val⟩,
  ⟨0x410, 1, 4, 8, 6, .rwb, 0x28, .val⟩,
  ⟨0x410, 1, 4, 16, 4, .rwb, 8, .val⟩,
  ⟨0x410, 1, 4, 20, 4, .rwb, 0xc, .val⟩,
  ⟨0x414, 1, 4, 0, 8, .rw, 0, .tab⟩,
  ⟨0x418, 1, 4, 1, 6, .rw, 0x3f, .val⟩,
  ⟨0x418, 1, 4, 12, 4, .rw, 0xc, .val⟩,
  ⟨0x418, 1, 4, 16, 5, .rw, 0x10, .val⟩,
  ⟨0x41c, 1, 4, 0, 8, .rw, 8, .val⟩,
  ⟨0x41c, 1, 4, 8, 8, .rw, 0x1e, .val⟩]

def rowsCh3 : List RegRow := [
  ⟨0x420, 1, 4, 0, 14, .ro, 0, .val⟩,
  ⟨0x420, 1, 4, 14, 3, .ro, 0, .val⟩,
  ⟨0x420, 1, 4, 17, 4, .ro, 0, .val⟩,
  ⟨0x420, 1, 4, 21, 1, .ro, 0, .val⟩,
  ⟨0x420, 1, 4, 22, 8, .ro, 0, .val⟩,
  ⟨0x480, 32, 4, 0, 16, .ro, 0, .val⟩,
  ⟨0x480, 32, 4, 16, 16, .ro, 0, .val⟩,
  ⟨0x500, 32, 4, 0, 16, .ro, 0, .val⟩,
  ⟨0x500, 32, 4, 16, 16, .ro, 0, .val⟩,
  ⟨0x580, 1, 8, 0, 64, .ro, 0, .val⟩,
  ⟨0x588, 1, 4, 0, 32, .ro, 0, .val⟩,
  ⟨0x58c, 6, 4, 0, 32, .ro, 0, .val⟩,
  ⟨0x5a4, 1, 4, 0, 32, .ro, 0, .val⟩,
  ⟨0x5a8, 1, 4, 0, 32, .ro, 0, .val⟩,
  ⟨0x5ac, 1, 4, 0, 32, .ro, 0, .val⟩,
  ⟨0x5b0, 1, 8, 0, 64, .ro, 0, .val⟩,
  ⟨0x5b8, 1, 8, 0, 64, .ro, 0, .val⟩,
  ⟨0x5c0, 1, 4, 0, 32, .ro, 0, .val⟩,
  ⟨0x5c4, 1, 4, 0, 32, .ro, 0, .val⟩,
  ⟨0x5c8, 1, 4, 0, 32, .ro, 0, .val⟩,
  ⟨0x5cc, 1, 4, 0, 32, .ro, 0, .val⟩,
  ⟨0x5d0, 1, 4, 0, 32, .ro, 0, .val⟩,
  ⟨0x5d4, 1, 4, 0, 32, .ro, 0, .val⟩,
  ⟨0x5d8, 1, 4, 0, 32, .ro, 0, .val⟩]

def rowsCh4 : List RegRow := [
  ⟨0x5dc, 1, 4, 0, 32, .ro, 0, .val⟩,
  ⟨0x600, 1, 4, 0, 1, .rw, 0, .tab⟩,
  ⟨0x600, 1, 4, 8, 8, .rw, 0, .tab⟩,
  ⟨0x600, 1, 4, 16, 9, .rw, 0, .tab⟩,
  ⟨0x604, 1, 4, 0, 16, .rw, 0, .val⟩,
  ⟨0x608, 1, 4, 0, 16, .ro, 0, .val⟩,
  ⟨0x608, 1, 4, 16, 9, .ro, 0, .val⟩,
  ⟨0x60c, 1, 4, 0, 9, .ro, 0, .val⟩,
  ⟨0x610, 1, 4, 0, 16, .ro, 0, .val⟩,
  ⟨0x620, 1, 4, 0, 4, .rw, 8, .val⟩,
  ⟨0x700, 40, 4, 0, 32, .ro, 0, .val⟩]

/-- The rows of block CH. -/
def rowsCh : List RegRow := rowsCh0 ++ rowsCh1 ++ rowsCh2 ++ rowsCh3 ++ rowsCh4

def rowsWrp0 : List RegRow := [
  ⟨0x0, 1, 4, 0, 1, .rw, 0, .val⟩,
  ⟨0x0, 1, 4, 1, 1, .w1s, 0, .val⟩,
  ⟨0x0, 1, 4, 2, 1, .w1s, 0, .val⟩,
  ⟨0x0, 1, 4, 8, 4, .rw, 2, .val⟩,
  ⟨0x4, 1, 4, 0, 3, .ro, 0, .val⟩,
  ⟨0x4, 1, 4, 3, 14, .ro, 0, .val⟩,
  ⟨0x4, 1, 4, 17, 5, .ro, 0, .val⟩,
  ⟨0x4, 1, 4, 22, 1, .ro, 0, .val⟩,
  ⟨0x4, 1, 4, 23, 1, .ro, 0, .val⟩,
  ⟨0x8, 1, 4, 0, 32, .w1c, 0, .val⟩,
  ⟨0xc, 1, 4, 0, 32, .rw, 0, .val⟩,
  ⟨0x10, 1, 4, 0, 5, .rwb, 4, .val⟩,
  ⟨0x14, 1, 4, 0, 8, .rw, 0x14, .val⟩,
  ⟨0x18, 1, 4, 0, 8, .rw, 4, .val⟩,
  ⟨0x18, 1, 4, 8, 8, .rw, 4, .val⟩,
  ⟨0x1c, 1, 4, 0, 8, .rw, 0, .tab⟩,
  ⟨0x1c, 1, 4, 8, 8, .rw, 0, .tab⟩,
  ⟨0x20, 1, 4, 0, 6, .rw, 0x18, .val⟩,
  ⟨0x20, 1, 4, 16, 12, .rw, 0x200, .val⟩,
  ⟨0x24, 1, 4, 0, 16, .rw, 0, .tab⟩,
  ⟨0x28, 1, 4, 0, 16, .rw, 0, .tab⟩,
  ⟨0x2c, 1, 4, 0, 32, .ro, 0, .val⟩,
  ⟨0x30, 1, 4, 0, 16, .ro, 0, .val⟩,
  ⟨0x30, 1, 4, 16, 16, .ro, 0, .val⟩]

def rowsWrp1 : List RegRow := [
  ⟨0x38, 1, 8, 0, 64, .ro, 0, .val⟩,
  ⟨0x40, 1, 4, 0, 32, .ro, 0, .val⟩,
  ⟨0x44, 1, 4, 0, 32, .ro, 0, .val⟩,
  ⟨0x48, 1, 4, 0, 32, .ro, 0, .val⟩,
  ⟨0x4c, 1, 4, 0, 32, .ro, 0, .val⟩,
  ⟨0x50, 1, 4, 0, 32, .ro, 0, .val⟩,
  ⟨0x54, 1, 4, 0, 32, .ro, 0, .val⟩,
  ⟨0x58, 1, 4, 0, 32, .ro, 0, .val⟩,
  ⟨0x5c, 1, 4, 0, 32, .ro, 0, .val⟩,
  ⟨0x60, 1, 4, 0, 32, .ro, 0, .val⟩,
  ⟨0x100, 34, 4, 0, 32, .ro, 0, .val⟩]

/-- The rows of block WRP. -/
def rowsWrp : List RegRow := rowsWrp0 ++ rowsWrp1

def rowsSv0 : List RegRow := [
  ⟨0x0, 1, 4, 0, 1, .rw, 0, .val⟩,
  ⟨0x0, 1, 4, 1, 1, .rw, 1, .val⟩,
  ⟨0x0, 1, 4, 2, 1, .w1s, 0, .val⟩,
  ⟨0x0, 1, 4, 3, 1, .rw, 1, .val⟩,
  ⟨0x0, 1, 4, 4, 1, .rw, 1, .val⟩,
  ⟨0x4, 1, 4, 0, 4, .ro, 0, .val⟩,
  ⟨0x4, 1, 4, 4, 1, .ro, 0, .val⟩,
  ⟨0x4, 1, 4, 5, 1, .ro, 0, .val⟩,
  ⟨0x4, 1, 4, 6, 3, .ro, 0, .val⟩,
  ⟨0x4, 1, 4, 9, 1, .ro, 0, .val⟩,
  ⟨0x8, 1, 4, 0, 32, .w1c, 0, .val⟩,
  ⟨0xc, 1, 4, 0, 32, .rw, 0, .val⟩,
  ⟨0x10, 1, 4, 0, 14, .rw, 0, .val⟩,
  ⟨0x10, 1, 4, 14, 4, .rw, 0, .val⟩,
  ⟨0x10, 1, 4, 18, 3, .rw, 0, .val⟩,
  ⟨0x10, 1, 4, 21, 1, .rw, 0, .val⟩,
  ⟨0x10, 1, 4, 31, 1, .w1s, 0, .val⟩,
  ⟨0x14, 1, 4, 0, 1, .ro, 0, .val⟩,
  ⟨0x14, 1, 4, 1, 3, .ro, 0, .val⟩,
  ⟨0x14, 1, 4, 4, 4, .ro, 0, .val⟩,
  ⟨0x14, 1, 4, 8, 8, .ro, 0, .val⟩,
  ⟨0x14, 1, 4, 16, 16, .ro, 0, .val⟩,
  ⟨0x18, 1, 4, 0, 14, .ro, 0, .val⟩,
  ⟨0x18, 1, 4, 14, 4, .ro, 0, .val⟩]

def rowsSv1 : List RegRow := [
  ⟨0x18, 1, 4, 18, 1, .ro, 0, .val⟩,
  ⟨0x18, 1, 4, 19, 1, .ro, 0, .val⟩,
  ⟨0x1c, 1, 4, 0, 8, .rwb, 0, .val⟩,
  ⟨0x1c, 1, 4, 8, 8, .rwb, 0, .val⟩,
  ⟨0x20, 1, 4, 0, 8, .rw, 0, .tab⟩,
  ⟨0x20, 1, 4, 8, 8, .rw, 0, .tab⟩,
  ⟨0x20, 1, 4, 16, 4, .rw, 0, .tab⟩,
  ⟨0x20, 1, 4, 20, 4, .rw, 0, .tab⟩,
  ⟨0x20, 1, 4, 24, 8, .rw, 0, .tab⟩,
  ⟨0x24, 1, 4, 0, 12, .rw, 0, .tab⟩,
  ⟨0x24, 1, 4, 12, 12, .rw, 0, .tab⟩,
  ⟨0x24, 1, 4, 24, 8, .rw, 0, .tab⟩,
  ⟨0x28, 1, 4, 0, 8, .rw, 0, .tab⟩,
  ⟨0x28, 1, 4, 8, 8, .rw, 0, .tab⟩,
  ⟨0x28, 1, 4, 16, 8, .rw, 0, .tab⟩,
  ⟨0x28, 1, 4, 24, 8, .rw, 0, .tab⟩,
  ⟨0x2c, 1, 4, 0, 8, .rw, 0, .tab⟩,
  ⟨0x2c, 1, 4, 8, 8, .rw, 0, .tab⟩,
  ⟨0x2c, 1, 4, 16, 8, .rw, 0, .tab⟩,
  ⟨0x2c, 1, 4, 24, 8, .rw, 0, .tab⟩,
  ⟨0x30, 1, 4, 0, 8, .rw, 0, .tab⟩,
  ⟨0x30, 1, 4, 8, 8, .rw, 0, .tab⟩,
  ⟨0x30, 1, 4, 16, 8, .rw, 0, .tab⟩,
  ⟨0x30, 1, 4, 24, 8, .rw, 0, .tab⟩]

def rowsSv2 : List RegRow := [
  ⟨0x34, 1, 4, 0, 8, .rw, 0, .tab⟩,
  ⟨0x34, 1, 4, 8, 8, .rw, 0, .tab⟩,
  ⟨0x34, 1, 4, 16, 8, .rw, 0, .tab⟩,
  ⟨0x38, 1, 4, 0, 8, .rw, 0, .tab⟩,
  ⟨0x38, 1, 4, 8, 8, .rw, 0, .tab⟩,
  ⟨0x3c, 1, 4, 0, 16, .ro, 0, .tab⟩,
  ⟨0x40, 1, 4, 0, 16, .ro, 0, .tab⟩,
  ⟨0x40, 1, 4, 16, 16, .ro, 0, .tab⟩,
  ⟨0x48, 1, 8, 0, 9, .ro, 0, .tab⟩,
  ⟨0x48, 1, 8, 9, 9, .ro, 0, .tab⟩,
  ⟨0x48, 1, 8, 18, 9, .ro, 0, .tab⟩,
  ⟨0x48, 1, 8, 27, 9, .ro, 0, .tab⟩,
  ⟨0x48, 1, 8, 36, 9, .ro, 0, .tab⟩,
  ⟨0x48, 1, 8, 45, 9, .ro, 0, .tab⟩,
  ⟨0x48, 1, 8, 54, 9, .ro, 0, .tab⟩,
  ⟨0x48, 1, 8, 63, 1, .ro, 0, .tab⟩,
  ⟨0x50, 1, 4, 0, 16, .ro, 0, .val⟩,
  ⟨0x50, 1, 4, 16, 16, .ro, 0, .val⟩,
  ⟨0x54, 1, 4, 0, 16, .ro, 0, .val⟩,
  ⟨0x58, 1, 4, 0, 16, .ro, 0, .val⟩,
  ⟨0x5c, 1, 4, 0, 16, .ro, 0, .val⟩,
  ⟨0x5c, 1, 4, 16, 16, .ro, 0, .val⟩,
  ⟨0x60, 1, 4, 0, 32, .ro, 0, .val⟩,
  ⟨0x64, 1, 4, 0, 32, .ro, 0, .val⟩]

def rowsSv3 : List RegRow := [
  ⟨0x68, 1, 4, 0, 32, .ro, 0, .val⟩,
  ⟨0x6c, 1, 4, 0, 32, .ro, 0, .val⟩,
  ⟨0x70, 1, 4, 0, 32, .ro, 0, .val⟩,
  ⟨0x74, 1, 4, 0, 32, .ro, 0, .val⟩,
  ⟨0x78, 1, 4, 0, 32, .ro, 0, .val⟩,
  ⟨0x7c, 1, 4, 0, 32, .ro, 0, .val⟩,
  ⟨0x80, 1, 4, 0, 32, .ro, 0, .val⟩,
  ⟨0x84, 1, 4, 0, 32, .ro, 0, .val⟩,
  ⟨0x88, 1, 4, 0, 16, .ro, 0, .val⟩,
  ⟨0x88, 1, 4, 16, 16, .ro, 0, .val⟩,
  ⟨0x100, 12, 4, 0, 16, .rw, 0, .val⟩,
  ⟨0x100, 12, 4, 16, 16, .rw, 0, .val⟩]

/-- The rows of block SV. -/
def rowsSv : List RegRow := rowsSv0 ++ rowsSv1 ++ rowsSv2 ++ rowsSv3

def rowsLe0 : List RegRow := [
  ⟨0x0, 1, 4, 0, 1, .w1s, 0, .val⟩,
  ⟨0x0, 1, 4, 1, 1, .w1s, 0, .val⟩,
  ⟨0x4, 1, 4, 0, 1, .ro, 1, .val⟩,
  ⟨0x4, 1, 4, 1, 3, .ro, 0, .val⟩,
  ⟨0x4, 1, 4, 4, 5, .ro, 0, .val⟩,
  ⟨0x8, 1, 4, 0, 32, .w1c, 0, .val⟩,
  ⟨0xc, 1, 4, 0, 32, .rw, 0, .val⟩,
  ⟨0x10, 1, 4, 0, 16, .ro, 0, .tab⟩,
  ⟨0x10, 1, 4, 16, 16, .ro, 0, .tab⟩,
  ⟨0x14, 1, 4, 0, 7, .ro, 0, .val⟩,
  ⟨0x14, 1, 4, 8, 7, .ro, 0, .val⟩,
  ⟨0x18, 1, 4, 0, 32, .ro, 0, .val⟩,
  ⟨0x1c, 1, 4, 0, 32, .ro, 0, .val⟩,
  ⟨0x20, 1, 4, 0, 32, .ro, 0, .val⟩,
  ⟨0x24, 1, 4, 0, 32, .ro, 0, .val⟩,
  ⟨0x100, 8, 32, 0, 64, .ro, 0, .tab⟩,
  ⟨0x108, 8, 32, 0, 32, .ro, 0, .tab⟩,
  ⟨0x10c, 8, 32, 0, 32, .ro, 0, .val⟩,
  ⟨0x110, 8, 32, 0, 64, .ro, 0, .val⟩]

/-- The rows of block LE. -/
def rowsLe : List RegRow := rowsLe0

def rowsCell0 : List RegRow := [
  ⟨0x0, 1, 4, 0, 1, .rw, 0, .tab⟩,
  ⟨0x0, 1, 4, 1, 1, .w1s, 0, .val⟩,
  ⟨0x0, 1, 4, 2, 1, .w1s, 0, .val⟩,
  ⟨0x0, 1, 4, 3, 1, .w1s, 0, .val⟩,
  ⟨0x0, 1, 4, 4, 1, .rw, 0, .tab⟩,
  ⟨0x0, 1, 4, 5, 3, .rw, 0, .tab⟩,
  ⟨0x0, 1, 4, 8, 6, .rw, 0, .tab⟩,
  ⟨0x0, 1, 4, 14, 4, .rw, 0, .tab⟩,
  ⟨0x0, 1, 4, 18, 1, .w1s, 0, .val⟩,
  ⟨0x4, 1, 4, 0, 1, .ro, 0, .val⟩,
  ⟨0x4, 1, 4, 1, 1, .ro, 0, .val⟩,
  ⟨0x4, 1, 4, 2, 1, .ro, 0, .val⟩,
  ⟨0x4, 1, 4, 3, 1, .ro, 0, .val⟩,
  ⟨0x4, 1, 4, 4, 1, .ro, 0, .val⟩,
  ⟨0x4, 1, 4, 5, 2, .ro, 0, .tab⟩,
  ⟨0x4, 1, 4, 7, 1, .ro, 0, .val⟩,
  ⟨0x4, 1, 4, 8, 7, .ro, 0, .val⟩,
  ⟨0x4, 1, 4, 15, 9, .ro, 0, .tab⟩,
  ⟨0x4, 1, 4, 24, 1, .ro, 0, .val⟩,
  ⟨0x4, 1, 4, 25, 1, .ro, 0, .val⟩,
  ⟨0x8, 1, 4, 0, 32, .w1c, 0, .val⟩,
  ⟨0xc, 1, 4, 0, 32, .rw, 0, .val⟩,
  ⟨0x10, 1, 4, 0, 16, .rw, 0, .tab⟩,
  ⟨0x14, 1, 4, 0, 16, .rw, 0, .tab⟩]

def rowsCell1 : List RegRow := [
  ⟨0x18, 1, 4, 0, 16, .rw, 0, .tab⟩,
  ⟨0x1c, 1, 4, 0, 16, .ro, 0, .tab⟩,
  ⟨0x40, 1, 4, 0, 32, .rw, 0, .tab⟩,
  ⟨0x44, 1, 4, 0, 32, .rw, 0, .tab⟩,
  ⟨0x48, 1, 4, 0, 32, .rw, 0, .tab⟩,
  ⟨0x4c, 1, 4, 0, 32, .rw, 0, .tab⟩,
  ⟨0x50, 1, 4, 0, 32, .rw, 0, .tab⟩,
  ⟨0x54, 1, 4, 0, 32, .rw, 0, .tab⟩,
  ⟨0x58, 1, 4, 0, 32, .rw, 0, .tab⟩,
  ⟨0x5c, 1, 4, 0, 32, .rw, 0, .tab⟩,
  ⟨0x60, 1, 4, 0, 4, .rw, 0, .tab⟩,
  ⟨0x60, 1, 4, 4, 4, .rw, 0, .tab⟩,
  ⟨0x60, 1, 4, 8, 4, .rw, 0, .tab⟩,
  ⟨0x100, 5, 4, 0, 32, .rw, 0, .tab⟩,
  ⟨0x120, 5, 4, 0, 32, .rw, 0, .tab⟩,
  ⟨0x140, 5, 4, 0, 32, .rw, 0, .tab⟩,
  ⟨0x160, 5, 4, 0, 32, .rw, 0, .tab⟩,
  ⟨0x180, 5, 4, 0, 32, .rw, 0, .tab⟩,
  ⟨0x1a0, 5, 4, 0, 32, .rw, 0, .tab⟩,
  ⟨0x1c0, 5, 4, 0, 32, .rw, 0, .tab⟩,
  ⟨0x1e0, 5, 4, 0, 32, .rw, 0, .tab⟩,
  ⟨0x200, 8, 16, 0, 64, .rw, 0, .val⟩,
  ⟨0x208, 8, 16, 0, 64, .rw, 0, .val⟩,
  ⟨0x280, 1, 8, 0, 64, .rw, 0, .val⟩,
  ⟨0x288, 1, 8, 0, 64, .rw, 0, .val⟩,
  ⟨0x290, 1, 8, 0, 64, .rw, 0, .val⟩,
  ⟨0x298, 1, 8, 0, 64, .ro, 0, .val⟩,
  ⟨0x2a0, 1, 4, 0, 32, .ro, 0, .val⟩,
  ⟨0x300, 1, 8, 0, 64, .ro, 0, .val⟩,
  ⟨0x308, 1, 4, 0, 32, .ro, 0, .val⟩,
  ⟨0x30c, 1, 4, 0, 32, .ro, 0, .val⟩]

def rowsCell2 : List RegRow := [
  ⟨0x440, 9, 4, 0, 32, .ro, 0, .tab⟩,
  ⟨0x500, 5, 4, 0, 32, .ro, 0, .tab⟩,
  ⟨0x520, 5, 4, 0, 32, .ro, 0, .tab⟩,
  ⟨0x540, 5, 4, 0, 32, .ro, 0, .tab⟩,
  ⟨0x560, 5, 4, 0, 32, .ro, 0, .tab⟩,
  ⟨0x580, 5, 4, 0, 32, .ro, 0, .tab⟩,
  ⟨0x5a0, 5, 4, 0, 32, .ro, 0, .tab⟩,
  ⟨0x5c0, 5, 4, 0, 32, .ro, 0, .tab⟩,
  ⟨0x5e0, 5, 4, 0, 32, .ro, 0, .tab⟩]

/-- The rows of block CELL. -/
def rowsCell : List RegRow := rowsCell0 ++ rowsCell1 ++ rowsCell2

def rowsMot0 : List RegRow := [
  ⟨0x0, 1, 4, 0, 1, .rw, 0, .val⟩,
  ⟨0x0, 1, 4, 1, 1, .w1s, 0, .val⟩,
  ⟨0x0, 1, 4, 2, 1, .rw, 1, .val⟩,
  ⟨0x4, 1, 4, 0, 4, .ro, 0, .val⟩,
  ⟨0x4, 1, 4, 4, 1, .ro, 0, .val⟩,
  ⟨0x4, 1, 4, 5, 1, .ro, 0, .val⟩,
  ⟨0x4, 1, 4, 6, 1, .ro, 0, .val⟩,
  ⟨0x4, 1, 4, 7, 1, .ro, 0, .val⟩,
  ⟨0x4, 1, 4, 8, 4, .ro, 0, .val⟩,
  ⟨0x4, 1, 4, 12, 3, .ro, 0, .val⟩,
  ⟨0x8, 1, 4, 0, 32, .w1c, 0, .val⟩,
  ⟨0xc, 1, 4, 0, 32, .rw, 0, .val⟩,
  ⟨0x10, 1, 4, 0, 16, .rw, 0, .val⟩,
  ⟨0x10, 1, 4, 16, 3, .rw, 0, .val⟩,
  ⟨0x10, 1, 4, 31, 1, .w1s, 0, .val⟩,
  ⟨0x14, 1, 4, 0, 1, .ro, 0, .val⟩,
  ⟨0x14, 1, 4, 1, 3, .ro, 0, .val⟩,
  ⟨0x14, 1, 4, 4, 4, .ro, 0, .val⟩,
  ⟨0x18, 1, 4, 0, 16, .rw, 0, .tab⟩,
  ⟨0x18, 1, 4, 16, 16, .rw, 0, .tab⟩,
  ⟨0x1c, 1, 4, 0, 4, .ro, 0, .tab⟩,
  ⟨0x1c, 1, 4, 4, 12, .ro, 0, .tab⟩,
  ⟨0x1c, 1, 4, 16, 16, .ro, 0, .tab⟩,
  ⟨0x20, 1, 4, 0, 16, .ro, 0, .tab⟩]

def rowsMot1 : List RegRow := [
  ⟨0x20, 1, 4, 16, 16, .ro, 0, .tab⟩,
  ⟨0x24, 1, 4, 0, 32, .rwb, 0, .tab⟩,
  ⟨0x28, 1, 4, 0, 32, .rwb, 0, .tab⟩,
  ⟨0x2c, 1, 4, 0, 12, .rwb, 0x7d0, .val⟩,
  ⟨0x2c, 1, 4, 16, 12, .rwb, 0xbb8, .val⟩,
  ⟨0x30, 1, 4, 0, 12, .rw, 0, .tab⟩,
  ⟨0x30, 1, 4, 12, 12, .rw, 0, .tab⟩,
  ⟨0x30, 1, 4, 24, 8, .rw, 0, .tab⟩,
  ⟨0x34, 1, 4, 0, 16, .rw, 0x258, .val⟩,
  ⟨0x34, 1, 4, 16, 16, .rw, 0xfa0, .val⟩,
  ⟨0x38, 1, 4, 0, 16, .rw, 0x12c, .val⟩,
  ⟨0x38, 1, 4, 16, 8, .rw, 0x2d, .val⟩,
  ⟨0x38, 1, 4, 24, 8, .rw, 0x14, .val⟩,
  ⟨0x3c, 1, 4, 0, 8, .rw, 0x32, .val⟩,
  ⟨0x3c, 1, 4, 8, 8, .rw, 0x1e, .val⟩,
  ⟨0x3c, 1, 4, 16, 8, .rw, 0x28, .val⟩,
  ⟨0x3c, 1, 4, 24, 8, .rw, 8, .val⟩,
  ⟨0x40, 1, 4, 0, 16, .rw, 0x258, .val⟩,
  ⟨0x40, 1, 4, 16, 16, .rw, 0x1f40, .val⟩,
  ⟨0x44, 1, 4, 0, 32, .ro, 0, .val⟩,
  ⟨0x48, 1, 4, 0, 32, .ro, 0, .val⟩,
  ⟨0x4c, 1, 4, 0, 16, .ro, 0, .val⟩,
  ⟨0x4c, 1, 4, 16, 16, .ro, 0, .val⟩,
  ⟨0x50, 1, 4, 0, 16, .ro, 0, .val⟩]

def rowsMot2 : List RegRow := [
  ⟨0x50, 1, 4, 16, 16, .ro, 0, .val⟩,
  ⟨0x54, 1, 4, 0, 16, .ro, 0, .val⟩,
  ⟨0x54, 1, 4, 16, 16, .ro, 0, .val⟩,
  ⟨0x58, 1, 4, 0, 16, .ro, 0, .val⟩,
  ⟨0x5c, 1, 4, 0, 16, .ro, 0, .val⟩,
  ⟨0x5c, 1, 4, 16, 16, .ro, 0, .val⟩,
  ⟨0x80, 1, 4, 0, 32, .ro, 0, .val⟩,
  ⟨0x84, 1, 4, 0, 32, .ro, 0, .val⟩,
  ⟨0x88, 1, 4, 0, 32, .ro, 0, .val⟩,
  ⟨0x8c, 1, 4, 0, 32, .ro, 0, .val⟩,
  ⟨0x90, 1, 4, 0, 32, .ro, 0, .val⟩,
  ⟨0x94, 1, 4, 0, 16, .ro, 0, .val⟩,
  ⟨0x94, 1, 4, 16, 16, .ro, 0, .val⟩]

/-- The rows of block MOT. -/
def rowsMot : List RegRow := rowsMot0 ++ rowsMot1 ++ rowsMot2

def rowsCmot0 : List RegRow := [
  ⟨0x0, 1, 4, 0, 1, .rw, 0, .val⟩,
  ⟨0x0, 1, 4, 1, 1, .w1s, 0, .val⟩,
  ⟨0x0, 1, 4, 2, 1, .w1s, 0, .val⟩,
  ⟨0x0, 1, 4, 3, 1, .w1s, 0, .val⟩,
  ⟨0x4, 1, 4, 0, 3, .ro, 0, .val⟩,
  ⟨0x4, 1, 4, 3, 1, .ro, 0, .val⟩,
  ⟨0x4, 1, 4, 4, 1, .ro, 0, .val⟩,
  ⟨0x4, 1, 4, 5, 1, .ro, 0, .val⟩,
  ⟨0x4, 1, 4, 6, 1, .ro, 0, .val⟩,
  ⟨0x4, 1, 4, 7, 1, .ro, 0, .val⟩,
  ⟨0x4, 1, 4, 8, 9, .ro, 0, .val⟩,
  ⟨0x8, 1, 4, 0, 32, .w1c, 0, .val⟩,
  ⟨0xc, 1, 4, 0, 32, .rw, 0, .val⟩,
  ⟨0x10, 1, 4, 0, 9, .rw, 0, .val⟩,
  ⟨0x10, 1, 4, 9, 2, .rw, 0, .val⟩,
  ⟨0x10, 1, 4, 11, 3, .rw, 0, .val⟩,
  ⟨0x10, 1, 4, 31, 1, .w1s, 0, .val⟩,
  ⟨0x14, 1, 4, 0, 1, .ro, 0, .val⟩,
  ⟨0x14, 1, 4, 1, 3, .ro, 0, .val⟩,
  ⟨0x14, 1, 4, 4, 4, .ro, 0, .val⟩,
  ⟨0x18, 1, 4, 0, 16, .rw, 0x7d0, .val⟩,
  ⟨0x18, 1, 4, 16, 16, .rw, 0x12c0, .val⟩,
  ⟨0x1c, 1, 4, 0, 24, .ro, 0, .tab⟩,
  ⟨0x1c, 1, 4, 24, 8, .ro, 0, .tab⟩]

def rowsCmot1 : List RegRow := [
  ⟨0x20, 1, 4, 0, 32, .rwb, 0, .tab⟩,
  ⟨0x24, 1, 4, 0, 32, .rwb, 0, .tab⟩,
  ⟨0x28, 1, 4, 0, 32, .ro, 0, .val⟩,
  ⟨0x2c, 1, 4, 0, 32, .ro, 0, .val⟩,
  ⟨0x30, 1, 4, 0, 16, .ro, 0, .val⟩,
  ⟨0x30, 1, 4, 16, 16, .ro, 0, .val⟩,
  ⟨0x34, 1, 4, 0, 32, .rw, 0, .tab⟩,
  ⟨0x40, 1, 4, 0, 8, .rw, 0xe0, .val⟩,
  ⟨0x40, 1, 4, 8, 8, .rw, 0xd8, .val⟩,
  ⟨0x40, 1, 4, 16, 8, .rw, 0xf0, .val⟩,
  ⟨0x40, 1, 4, 24, 8, .rw, 0x32, .val⟩,
  ⟨0x44, 1, 4, 0, 16, .rw, 0, .tab⟩,
  ⟨0x48, 1, 4, 0, 16, .ro, 0, .val⟩,
  ⟨0x48, 1, 4, 16, 16, .ro, 0, .val⟩,
  ⟨0x4c, 1, 4, 0, 16, .ro, 0, .val⟩,
  ⟨0x80, 1, 4, 0, 32, .ro, 0, .val⟩,
  ⟨0x84, 1, 4, 0, 16, .ro, 0, .val⟩,
  ⟨0x84, 1, 4, 16, 16, .ro, 0, .val⟩]

/-- The rows of block CMOT. -/
def rowsCmot : List RegRow := rowsCmot0 ++ rowsCmot1

def rowsMov0 : List RegRow := [
  ⟨0x0, 1, 4, 0, 1, .w1s, 0, .val⟩,
  ⟨0x4, 1, 4, 0, 7, .ro, 0, .val⟩,
  ⟨0x4, 1, 4, 8, 7, .ro, 0, .val⟩,
  ⟨0x4, 1, 4, 16, 7, .ro, 0, .val⟩,
  ⟨0x8, 1, 4, 0, 32, .w1c, 0, .val⟩,
  ⟨0xc, 1, 4, 0, 32, .rw, 0, .val⟩,
  ⟨0x10, 1, 4, 0, 8, .rw, 0x32, .val⟩,
  ⟨0x10, 1, 4, 8, 8, .rw, 0x14, .val⟩,
  ⟨0x10, 1, 4, 16, 8, .rw, 0xa, .val⟩,
  ⟨0x14, 1, 4, 0, 32, .rw, 0, .tab⟩,
  ⟨0x18, 1, 4, 0, 8, .rwb, 0x14, .val⟩,
  ⟨0x18, 1, 4, 8, 8, .rwb, 0x20, .val⟩,
  ⟨0x18, 1, 4, 16, 8, .rwb, 0x80, .val⟩,
  ⟨0x18, 1, 4, 24, 4, .rwb, 0xa, .val⟩,
  ⟨0x18, 1, 4, 28, 4, .rwb, 5, .val⟩]

/-- The rows of block MOV. -/
def rowsMov : List RegRow := rowsMov0

def rowsMovAx0 : List RegRow := [
  ⟨0x0, 1, 4, 0, 1, .rw, 0, .val⟩,
  ⟨0x4, 1, 4, 0, 3, .ro, 0, .val⟩,
  ⟨0x4, 1, 4, 3, 1, .ro, 0, .val⟩,
  ⟨0x4, 1, 4, 4, 1, .ro, 0, .val⟩,
  ⟨0x4, 1, 4, 5, 3, .ro, 0, .val⟩,
  ⟨0x4, 1, 4, 8, 1, .ro, 0, .val⟩,
  ⟨0x8, 1, 4, 0, 32, .rw, 0, .val⟩,
  ⟨0xc, 1, 4, 0, 3, .rw, 0, .val⟩,
  ⟨0xc, 1, 4, 31, 1, .w1s, 0, .val⟩,
  ⟨0x10, 1, 4, 0, 24, .rw, 0, .tab⟩,
  ⟨0x14, 1, 4, 0, 16, .rw, 0, .tab⟩,
  ⟨0x14, 1, 4, 16, 16, .rw, 0, .tab⟩,
  ⟨0x18, 1, 4, 0, 16, .rw, 0, .tab⟩,
  ⟨0x1c, 1, 4, 0, 32, .rw, 0, .tab⟩,
  ⟨0x20, 1, 4, 0, 32, .rw, 0, .tab⟩,
  ⟨0x24, 1, 4, 0, 12, .rw, 0, .tab⟩,
  ⟨0x24, 1, 4, 12, 12, .rw, 0, .tab⟩,
  ⟨0x24, 1, 4, 24, 8, .rw, 0, .tab⟩,
  ⟨0x28, 1, 4, 0, 24, .rw, 0x4e20, .val⟩,
  ⟨0x2c, 1, 4, 0, 12, .rw, 0x28, .val⟩,
  ⟨0x2c, 1, 4, 16, 4, .rw, 2, .val⟩,
  ⟨0x30, 1, 4, 0, 16, .ro, 0, .tab⟩,
  ⟨0x30, 1, 4, 16, 16, .ro, 0, .tab⟩,
  ⟨0x34, 1, 4, 0, 32, .ro, 0, .tab⟩]

def rowsMovAx1 : List RegRow := [
  ⟨0x38, 1, 4, 0, 32, .ro, 0, .val⟩,
  ⟨0x3c, 1, 4, 0, 32, .ro, 0, .val⟩,
  ⟨0x40, 1, 4, 0, 32, .ro, 0, .val⟩,
  ⟨0x44, 1, 4, 0, 32, .ro, 0, .val⟩,
  ⟨0x48, 1, 4, 0, 32, .ro, 0, .val⟩,
  ⟨0x4c, 1, 4, 0, 32, .ro, 0, .val⟩,
  ⟨0x50, 1, 4, 0, 32, .ro, 0, .val⟩,
  ⟨0x54, 1, 4, 0, 32, .ro, 0, .val⟩]

/-- The rows of block MOV.AX. -/
def rowsMovAx : List RegRow := rowsMovAx0 ++ rowsMovAx1

def rowsArb0 : List RegRow := [
  ⟨0x0, 1, 4, 0, 1, .rw, 1, .val⟩,
  ⟨0x0, 1, 4, 1, 1, .w1s, 0, .val⟩,
  ⟨0x0, 1, 4, 2, 1, .rw, 1, .val⟩,
  ⟨0x4, 1, 4, 0, 1, .ro, 0, .val⟩,
  ⟨0x4, 1, 4, 1, 1, .ro, 0, .val⟩,
  ⟨0x4, 1, 4, 2, 1, .ro, 0, .val⟩,
  ⟨0x4, 1, 4, 16, 16, .ro, 0, .val⟩,
  ⟨0x8, 1, 4, 0, 32, .w1c, 0, .val⟩,
  ⟨0xc, 1, 4, 0, 32, .rw, 0, .val⟩,
  ⟨0x10, 1, 8, 0, 64, .ro, 0, .val⟩,
  ⟨0x18, 1, 8, 0, 64, .ro, 0, .val⟩,
  ⟨0x20, 1, 4, 0, 27, .ro, 0, .tab⟩,
  ⟨0x24, 1, 4, 0, 27, .ro, 0, .val⟩,
  ⟨0x28, 1, 4, 0, 8, .rw, 0xc0, .val⟩,
  ⟨0x28, 1, 4, 8, 8, .rw, 0xf0, .val⟩,
  ⟨0x2c, 1, 4, 0, 8, .rw, 0, .tab⟩,
  ⟨0x2c, 1, 4, 8, 8, .rw, 0, .tab⟩,
  ⟨0x2c, 1, 4, 16, 8, .rw, 0, .tab⟩,
  ⟨0x2c, 1, 4, 24, 8, .rw, 0, .tab⟩,
  ⟨0x30, 1, 4, 0, 8, .rw, 0, .tab⟩,
  ⟨0x30, 1, 4, 8, 4, .rw, 0, .tab⟩,
  ⟨0x30, 1, 4, 12, 8, .rw, 0, .tab⟩,
  ⟨0x30, 1, 4, 20, 12, .rw, 0, .tab⟩,
  ⟨0x34, 1, 4, 0, 16, .rw, 0, .tab⟩]

def rowsArb1 : List RegRow := [
  ⟨0x40, 1, 8, 0, 64, .ro, 0, .val⟩,
  ⟨0x48, 1, 8, 0, 64, .ro, 0, .val⟩,
  ⟨0x50, 1, 8, 0, 64, .ro, 0, .val⟩,
  ⟨0x58, 1, 4, 0, 32, .ro, 0, .val⟩,
  ⟨0x5c, 1, 4, 0, 32, .ro, 0, .val⟩,
  ⟨0x60, 1, 4, 0, 32, .ro, 0, .val⟩,
  ⟨0x64, 1, 4, 0, 32, .ro, 0, .val⟩,
  ⟨0x68, 1, 4, 0, 32, .ro, 0, .val⟩,
  ⟨0x100, 64, 4, 0, 8, .ro, 0, .tab⟩,
  ⟨0x100, 64, 4, 8, 3, .ro, 0, .tab⟩]

/-- The rows of block ARB. -/
def rowsArb : List RegRow := rowsArb0 ++ rowsArb1

def rowsArbAr0 : List RegRow := [
  ⟨0x0, 1, 4, 0, 9, .ro, 0, .tab⟩,
  ⟨0x0, 1, 4, 9, 2, .ro, 0, .tab⟩,
  ⟨0x0, 1, 4, 11, 1, .ro, 0, .tab⟩,
  ⟨0x0, 1, 4, 12, 5, .ro, 0, .tab⟩,
  ⟨0x0, 1, 4, 17, 3, .ro, 0, .tab⟩,
  ⟨0x0, 1, 4, 20, 4, .ro, 0, .tab⟩,
  ⟨0x4, 1, 4, 0, 2, .ro, 0, .val⟩,
  ⟨0x4, 1, 4, 2, 2, .ro, 0, .val⟩,
  ⟨0x4, 1, 4, 4, 1, .ro, 0, .val⟩,
  ⟨0x4, 1, 4, 5, 1, .ro, 0, .val⟩,
  ⟨0x4, 1, 4, 8, 8, .ro, 0, .val⟩,
  ⟨0x4, 1, 4, 16, 12, .ro, 0, .val⟩,
  ⟨0x8, 1, 4, 0, 32, .w1c, 0, .val⟩,
  ⟨0xc, 1, 4, 0, 32, .rw, 0, .val⟩,
  ⟨0x10, 1, 8, 0, 64, .ro, 0, .val⟩,
  ⟨0x18, 1, 8, 0, 64, .ro, 0, .val⟩,
  ⟨0x20, 1, 4, 0, 16, .rw, 0, .tab⟩,
  ⟨0x24, 1, 4, 0, 8, .rw, 0, .tab⟩,
  ⟨0x28, 1, 4, 0, 32, .ro, 0, .val⟩,
  ⟨0x2c, 1, 4, 0, 1, .rw, 0, .val⟩,
  ⟨0x2c, 1, 4, 1, 1, .rw, 0, .val⟩,
  ⟨0x30, 1, 8, 0, 64, .ro, 0, .val⟩,
  ⟨0x38, 1, 8, 0, 64, .ro, 0, .val⟩,
  ⟨0x40, 1, 8, 0, 64, .ro, 0, .val⟩]

/-- The rows of block ARB.AR. -/
def rowsArbAr : List RegRow := rowsArbAr0

def rowsPar0 : List RegRow := [
  ⟨0x0, 1, 4, 0, 1, .rw, 1, .val⟩,
  ⟨0x0, 1, 4, 1, 1, .w1s, 0, .val⟩,
  ⟨0x0, 1, 4, 2, 1, .rw, 1, .val⟩,
  ⟨0x0, 1, 4, 3, 1, .rw, 1, .val⟩,
  ⟨0x0, 1, 4, 4, 1, .rw, 0, .val⟩,
  ⟨0x4, 1, 4, 0, 5, .ro, 0, .val⟩,
  ⟨0x4, 1, 4, 8, 3, .ro, 0, .val⟩,
  ⟨0x8, 1, 4, 0, 32, .w1c, 0, .val⟩,
  ⟨0xc, 1, 4, 0, 32, .rw, 0, .val⟩,
  ⟨0x10, 1, 4, 0, 16, .rw, 0, .val⟩,
  ⟨0x10, 1, 4, 16, 5, .rw, 0, .val⟩,
  ⟨0x10, 1, 4, 21, 3, .rw, 0, .val⟩,
  ⟨0x10, 1, 4, 24, 4, .rw, 0, .val⟩,
  ⟨0x10, 1, 4, 31, 1, .w1s, 0, .val⟩,
  ⟨0x14, 1, 4, 0, 1, .ro, 0, .val⟩,
  ⟨0x14, 1, 4, 1, 3, .ro, 0, .val⟩,
  ⟨0x14, 1, 4, 4, 4, .ro, 0, .val⟩,
  ⟨0x14, 1, 4, 8, 4, .ro, 0, .val⟩,
  ⟨0x18, 1, 4, 0, 16, .rw, 0x6a4, .val⟩,
  ⟨0x18, 1, 4, 16, 4, .rw, 1, .val⟩,
  ⟨0x1c, 1, 4, 0, 16, .rw, 0x40, .val⟩,
  ⟨0x40, 1, 8, 0, 64, .ro, 0, .val⟩,
  ⟨0x48, 1, 4, 0, 32, .ro, 0, .val⟩,
  ⟨0x4c, 1, 4, 0, 32, .ro, 0, .val⟩]

def rowsPar1 : List RegRow := [
  ⟨0x50, 1, 8, 0, 64, .ro, 0, .val⟩,
  ⟨0x58, 1, 4, 0, 32, .ro, 0, .val⟩,
  ⟨0x5c, 1, 4, 0, 32, .ro, 0, .val⟩,
  ⟨0x60, 1, 4, 0, 32, .ro, 0, .val⟩,
  ⟨0x64, 1, 4, 0, 32, .ro, 0, .val⟩,
  ⟨0x68, 1, 4, 0, 32, .ro, 0, .val⟩]

/-- The rows of block PAR. -/
def rowsPar : List RegRow := rowsPar0 ++ rowsPar1

def rowsParRb0 : List RegRow := [
  ⟨0x0, 1, 4, 0, 3, .ro, 0, .val⟩,
  ⟨0x0, 1, 4, 3, 5, .ro, 0, .val⟩,
  ⟨0x0, 1, 4, 8, 5, .ro, 0, .val⟩,
  ⟨0x0, 1, 4, 13, 1, .ro, 0, .val⟩,
  ⟨0x0, 1, 4, 14, 8, .ro, 0, .val⟩,
  ⟨0x4, 1, 4, 0, 16, .ro, 0xffff, .val⟩,
  ⟨0x8, 1, 4, 0, 11, .ro, 0x7ff, .val⟩,
  ⟨0x8, 1, 4, 16, 11, .ro, 0x7ff, .val⟩,
  ⟨0x10, 1, 8, 0, 64, .ro, 0, .val⟩,
  ⟨0x18, 1, 8, 0, 64, .ro, 0, .val⟩,
  ⟨0x20, 1, 8, 0, 64, .ro, 0, .val⟩,
  ⟨0x28, 1, 4, 0, 32, .ro, 0, .val⟩,
  ⟨0x2c, 1, 4, 0, 32, .ro, 0, .val⟩,
  ⟨0x30, 1, 4, 0, 16, .ro, 0, .val⟩,
  ⟨0x30, 1, 4, 16, 16, .ro, 0, .val⟩]

/-- The rows of block PAR.RB. -/
def rowsParRb : List RegRow := rowsParRb0

def rowsParRs0 : List RegRow := [
  ⟨0x0, 1, 4, 0, 2, .ro, 0, .val⟩,
  ⟨0x4, 1, 4, 0, 16, .ro, 0xffff, .val⟩,
  ⟨0x4, 1, 4, 16, 8, .ro, 0, .val⟩,
  ⟨0x8, 1, 8, 0, 64, .ro, 0, .val⟩,
  ⟨0x10, 1, 8, 0, 64, .ro, 0, .val⟩,
  ⟨0x18, 1, 8, 0, 64, .ro, 0, .val⟩,
  ⟨0x20, 1, 4, 0, 32, .ro, 0, .val⟩]

/-- The rows of block PAR.RS. -/
def rowsParRs : List RegRow := rowsParRs0

def rowsBuf0 : List RegRow := [
  ⟨0x0, 1, 4, 0, 1, .w1s, 0, .val⟩,
  ⟨0x4, 1, 4, 0, 3, .ro, 0, .val⟩,
  ⟨0x4, 1, 4, 8, 16, .ro, 0, .val⟩,
  ⟨0x8, 1, 4, 0, 32, .w1c, 0, .val⟩,
  ⟨0xc, 1, 4, 0, 32, .rw, 0, .val⟩,
  ⟨0x10, 1, 4, 0, 8, .ro, 0, .val⟩,
  ⟨0x10, 1, 4, 8, 2, .ro, 0, .val⟩,
  ⟨0x10, 1, 4, 10, 6, .ro, 0, .val⟩,
  ⟨0x10, 1, 4, 16, 16, .ro, 0, .val⟩,
  ⟨0x14, 1, 4, 0, 8, .ro, 0, .tab⟩,
  ⟨0x18, 1, 4, 0, 16, .ro, 0, .val⟩,
  ⟨0x18, 1, 4, 16, 16, .ro, 0, .val⟩,
  ⟨0x1c, 1, 4, 0, 32, .ro, 0, .val⟩,
  ⟨0x20, 1, 4, 0, 8, .rw, 0x18, .val⟩,
  ⟨0x20, 1, 4, 8, 1, .rw, 1, .val⟩,
  ⟨0x24, 1, 4, 0, 16, .ro, 0, .val⟩,
  ⟨0x24, 1, 4, 16, 16, .ro, 0, .val⟩,
  ⟨0x28, 1, 4, 0, 8, .rw, 0x10, .val⟩,
  ⟨0x2c, 1, 4, 0, 16, .rw, 0x100, .val⟩,
  ⟨0x30, 1, 8, 0, 40, .ro, 0, .val⟩,
  ⟨0x30, 1, 8, 40, 4, .ro, 0, .val⟩,
  ⟨0x30, 1, 8, 44, 4, .ro, 0, .val⟩,
  ⟨0x30, 1, 8, 63, 1, .w1c, 0, .val⟩,
  ⟨0x38, 1, 4, 0, 29, .rw, 0, .val⟩]

def rowsBuf1 : List RegRow := [
  ⟨0x38, 1, 4, 29, 2, .rw, 0, .val⟩,
  ⟨0x38, 1, 4, 31, 1, .w1s, 0, .val⟩,
  ⟨0x40, 1, 4, 0, 2, .rw, 0, .val⟩,
  ⟨0x40, 1, 4, 2, 1, .w1s, 0, .val⟩,
  ⟨0x40, 1, 4, 4, 2, .ro, 0, .val⟩,
  ⟨0x40, 1, 4, 6, 2, .ro, 0, .val⟩,
  ⟨0x40, 1, 4, 8, 5, .ro, 0, .val⟩,
  ⟨0x48, 1, 8, 7, 33, .rw, 0, .val⟩,
  ⟨0x48, 1, 8, 40, 4, .rw, 0, .val⟩,
  ⟨0x100, 32, 4, 0, 32, .rw, 0, .val⟩,
  ⟨0x180, 8, 4, 0, 32, .rw, 0, .val⟩]

/-- The rows of block BUF. -/
def rowsBuf : List RegRow := rowsBuf0 ++ rowsBuf1

def rowsBufCh0 : List RegRow := [
  ⟨0x0, 1, 4, 0, 1, .w1s, 0, .val⟩,
  ⟨0x0, 1, 4, 1, 1, .w1s, 0, .val⟩,
  ⟨0x4, 1, 4, 0, 2, .ro, 0, .val⟩,
  ⟨0x4, 1, 4, 4, 4, .ro, 0, .val⟩,
  ⟨0x8, 1, 4, 0, 32, .w1c, 0, .val⟩,
  ⟨0xc, 1, 4, 0, 32, .rw, 0, .val⟩,
  ⟨0x10, 1, 4, 0, 32, .ro, 0, .val⟩,
  ⟨0x14, 1, 4, 0, 32, .ro, 0, .val⟩,
  ⟨0x18, 1, 4, 0, 32, .ro, 0, .val⟩,
  ⟨0x1c, 1, 4, 0, 5, .ro, 0, .val⟩,
  ⟨0x1c, 1, 4, 8, 8, .ro, 0, .val⟩,
  ⟨0x20, 1, 4, 0, 16, .ro, 0, .val⟩]

/-- The rows of block BUF.CH. -/
def rowsBufCh : List RegRow := rowsBufCh0

def rowsMap0 : List RegRow := [
  ⟨0x0, 1, 4, 0, 1, .rw, 1, .val⟩,
  ⟨0x0, 1, 4, 1, 1, .rw, 1, .val⟩,
  ⟨0x0, 1, 4, 2, 1, .w1s, 0, .val⟩,
  ⟨0x4, 1, 4, 0, 2, .ro, 0, .val⟩,
  ⟨0x8, 1, 4, 0, 32, .w1c, 0, .val⟩,
  ⟨0xc, 1, 4, 0, 32, .rw, 0, .val⟩,
  ⟨0x10, 1, 4, 0, 5, .ro, 0, .tab⟩,
  ⟨0x10, 1, 4, 8, 14, .ro, 0, .tab⟩,
  ⟨0x14, 1, 4, 0, 4, .rw, 4, .val⟩,
  ⟨0x18, 1, 4, 0, 2, .rw, 0, .val⟩,
  ⟨0x18, 1, 4, 2, 1, .w1s, 0, .val⟩,
  ⟨0x18, 1, 4, 3, 1, .ro, 0, .val⟩,
  ⟨0x20, 1, 8, 7, 34, .rw, 0, .val⟩,
  ⟨0x28, 1, 4, 0, 20, .ro, 0, .val⟩,
  ⟨0x30, 1, 8, 0, 64, .ro, 0, .val⟩,
  ⟨0x38, 1, 8, 0, 64, .ro, 0, .val⟩,
  ⟨0x40, 1, 8, 0, 64, .ro, 0, .val⟩,
  ⟨0x48, 1, 8, 0, 64, .ro, 0, .val⟩,
  ⟨0x50, 1, 8, 0, 64, .ro, 0, .val⟩,
  ⟨0x58, 1, 4, 0, 32, .ro, 0, .val⟩,
  ⟨0x5c, 1, 4, 0, 32, .ro, 0, .val⟩,
  ⟨0x60, 1, 4, 0, 32, .ro, 0, .val⟩]

/-- The rows of block MAP. -/
def rowsMap : List RegRow := rowsMap0

def rowsHst0 : List RegRow := [
  ⟨0x0, 1, 4, 0, 1, .w1s, 0, .val⟩,
  ⟨0x4, 1, 4, 0, 2, .ro, 0, .tab⟩,
  ⟨0x4, 1, 4, 2, 1, .ro, 0, .tab⟩,
  ⟨0x8, 1, 4, 0, 32, .w1c, 0, .val⟩,
  ⟨0xc, 1, 4, 0, 32, .rw, 0, .val⟩,
  ⟨0x10, 4, 4, 0, 4, .ro, 0, .val⟩,
  ⟨0x10, 4, 4, 4, 5, .ro, 0, .val⟩,
  ⟨0x10, 4, 4, 9, 1, .ro, 0, .val⟩,
  ⟨0x10, 4, 4, 16, 16, .ro, 0, .val⟩,
  ⟨0x20, 1, 8, 0, 64, .ro, 1, .val⟩,
  ⟨0x28, 1, 4, 0, 14, .ro, 0, .val⟩,
  ⟨0x28, 1, 4, 16, 10, .ro, 0, .val⟩,
  ⟨0x2c, 1, 4, 0, 16, .rw, 0x10, .val⟩,
  ⟨0x30, 1, 4, 0, 16, .rw, 0x40, .val⟩,
  ⟨0x34, 1, 4, 0, 16, .ro, 0, .val⟩,
  ⟨0x34, 1, 4, 16, 16, .ro, 0, .val⟩,
  ⟨0x38, 1, 4, 0, 16, .rw, 0x9c4, .val⟩,
  ⟨0x3c, 1, 4, 0, 32, .ro, 0, .val⟩,
  ⟨0x40, 1, 8, 0, 64, .ro, 0, .val⟩,
  ⟨0x48, 1, 4, 0, 16, .ro, 0, .val⟩,
  ⟨0x48, 1, 4, 16, 16, .ro, 0, .val⟩,
  ⟨0x4c, 1, 4, 0, 32, .ro, 0, .val⟩,
  ⟨0x50, 1, 4, 0, 32, .ro, 0, .val⟩,
  ⟨0x54, 1, 4, 0, 32, .ro, 0, .val⟩]

def rowsHst1 : List RegRow := [
  ⟨0x58, 1, 4, 0, 32, .ro, 0, .val⟩,
  ⟨0x1000, 258, 16, 0, 16, .ro, 0, .tab⟩,
  ⟨0x1000, 258, 16, 16, 2, .ro, 0, .tab⟩,
  ⟨0x1004, 258, 16, 0, 1, .ro, 0, .val⟩,
  ⟨0x1004, 258, 16, 1, 1, .ro, 0, .val⟩,
  ⟨0x1004, 258, 16, 2, 1, .ro, 0, .val⟩,
  ⟨0x1004, 258, 16, 3, 1, .ro, 0, .val⟩,
  ⟨0x1004, 258, 16, 16, 16, .ro, 0, .val⟩,
  ⟨0x1008, 258, 16, 0, 14, .ro, 0, .val⟩,
  ⟨0x100000, 49152, 4, 0, 9, .ro, 0, .val⟩,
  ⟨0x100000, 49152, 4, 9, 1, .ro, 0, .val⟩,
  ⟨0x100000, 49152, 4, 10, 1, .ro, 0, .val⟩,
  ⟨0x100000, 49152, 4, 11, 2, .ro, 0, .val⟩,
  ⟨0x100000, 49152, 4, 13, 16, .ro, 0, .val⟩]

/-- The rows of block HST. -/
def rowsHst : List RegRow := rowsHst0 ++ rowsHst1

def rowsPlp0 : List RegRow := [
  ⟨0x0, 1, 4, 0, 1, .w1s, 0, .val⟩,
  ⟨0x0, 1, 4, 1, 1, .w1s, 0, .val⟩,
  ⟨0x0, 1, 4, 2, 1, .w1s, 0, .val⟩,
  ⟨0x4, 1, 4, 0, 1, .ro, 0, .val⟩,
  ⟨0x4, 1, 4, 1, 1, .ro, 0, .val⟩,
  ⟨0x4, 1, 4, 2, 1, .ro, 0, .val⟩,
  ⟨0x4, 1, 4, 3, 1, .ro, 0, .val⟩,
  ⟨0x4, 1, 4, 4, 1, .ro, 0, .val⟩,
  ⟨0x8, 1, 4, 0, 32, .w1c, 0, .val⟩,
  ⟨0xc, 1, 4, 0, 32, .rw, 0, .val⟩,
  ⟨0x10, 1, 4, 0, 16, .rw, 0x96, .val⟩,
  ⟨0x14, 1, 4, 0, 16, .rw, 0x64, .val⟩,
  ⟨0x18, 1, 4, 0, 16, .ro, 0, .tab⟩,
  ⟨0x18, 1, 4, 16, 16, .ro, 0, .tab⟩,
  ⟨0x1c, 1, 4, 0, 16, .ro, 0, .tab⟩,
  ⟨0x1c, 1, 4, 16, 16, .ro, 0, .tab⟩,
  ⟨0x20, 1, 4, 0, 16, .ro, 0, .tab⟩,
  ⟨0x20, 1, 4, 16, 16, .ro, 0, .tab⟩,
  ⟨0x24, 1, 4, 0, 16, .ro, 0, .val⟩,
  ⟨0x24, 1, 4, 16, 16, .ro, 0, .val⟩,
  ⟨0x28, 1, 4, 0, 16, .ro, 0, .tab⟩,
  ⟨0x28, 1, 4, 16, 16, .ro, 0, .tab⟩,
  ⟨0x30, 1, 8, 0, 64, .ro, 0, .val⟩,
  ⟨0x38, 1, 8, 0, 64, .ro, 0, .val⟩]

def rowsPlp1 : List RegRow := [
  ⟨0x40, 1, 8, 0, 64, .ro, 0, .val⟩,
  ⟨0x48, 1, 4, 0, 8, .rw, 8, .val⟩,
  ⟨0x50, 1, 8, 0, 32, .ro, 0, .val⟩,
  ⟨0x50, 1, 8, 32, 32, .ro, 0, .val⟩,
  ⟨0x58, 1, 8, 0, 64, .ro, 0, .val⟩,
  ⟨0x60, 1, 8, 0, 64, .ro, 0, .val⟩,
  ⟨0x68, 1, 4, 0, 16, .ro, 0, .val⟩,
  ⟨0x68, 1, 4, 16, 16, .ro, 0, .val⟩,
  ⟨0x6c, 1, 4, 0, 32, .ro, 0, .val⟩]

/-- The rows of block PLP. -/
def rowsPlp : List RegRow := rowsPlp0 ++ rowsPlp1

def rowsThm0 : List RegRow := [
  ⟨0x0, 1, 4, 0, 1, .w1s, 0, .val⟩,
  ⟨0x4, 1, 4, 0, 1, .ro, 0, .val⟩,
  ⟨0x4, 1, 4, 1, 1, .ro, 0, .val⟩,
  ⟨0x4, 1, 4, 2, 1, .ro, 0, .val⟩,
  ⟨0x4, 1, 4, 3, 1, .ro, 0, .val⟩,
  ⟨0x4, 1, 4, 4, 1, .ro, 0, .val⟩,
  ⟨0x4, 1, 4, 5, 1, .ro, 0, .val⟩,
  ⟨0x8, 1, 4, 0, 32, .w1c, 0, .val⟩,
  ⟨0xc, 1, 4, 0, 32, .rw, 0, .val⟩,
  ⟨0x10, 1, 4, 0, 8, .rw, 0, .tab⟩,
  ⟨0x10, 1, 4, 8, 8, .rw, 0, .tab⟩,
  ⟨0x10, 1, 4, 16, 8, .rw, 0, .tab⟩,
  ⟨0x14, 1, 4, 0, 8, .rw, 0, .tab⟩,
  ⟨0x14, 1, 4, 8, 8, .rw, 0, .tab⟩,
  ⟨0x14, 1, 4, 16, 8, .rw, 0, .tab⟩,
  ⟨0x18, 1, 4, 0, 8, .rw, 0, .tab⟩,
  ⟨0x1c, 1, 4, 0, 8, .rw, 0x80, .val⟩,
  ⟨0x20, 1, 4, 0, 16, .rw, 0x7d0, .val⟩,
  ⟨0x24, 1, 4, 0, 3, .ro, 0, .val⟩,
  ⟨0x24, 1, 4, 8, 8, .rw, 0xa, .val⟩,
  ⟨0x24, 1, 4, 16, 8, .rw, 6, .val⟩,
  ⟨0x28, 1, 4, 0, 16, .ro, 0, .val⟩,
  ⟨0x28, 1, 4, 16, 6, .ro, 0, .val⟩,
  ⟨0x30, 1, 8, 0, 64, .ro, 0, .val⟩]

def rowsThm1 : List RegRow := [
  ⟨0x38, 1, 8, 0, 64, .ro, 0, .val⟩,
  ⟨0x40, 1, 8, 0, 64, .ro, 0, .val⟩,
  ⟨0x48, 1, 4, 0, 32, .ro, 0, .val⟩,
  ⟨0x4c, 1, 4, 0, 16, .ro, 0, .val⟩,
  ⟨0x4c, 1, 4, 16, 16, .ro, 0, .val⟩,
  ⟨0x50, 1, 4, 0, 16, .ro, 0, .val⟩,
  ⟨0x50, 1, 4, 16, 16, .ro, 0, .val⟩,
  ⟨0x100, 64, 4, 0, 16, .ro, 0, .val⟩]

/-- The rows of block THM. -/
def rowsThm : List RegRow := rowsThm0 ++ rowsThm1

def rowsCal0 : List RegRow := [
  ⟨0x0, 1, 4, 0, 1, .w1s, 0, .val⟩,
  ⟨0x0, 1, 4, 1, 1, .w1s, 0, .val⟩,
  ⟨0x4, 1, 4, 0, 1, .ro, 0, .val⟩,
  ⟨0x4, 1, 4, 1, 3, .ro, 0, .val⟩,
  ⟨0x4, 1, 4, 4, 1, .ro, 0, .val⟩,
  ⟨0x4, 1, 4, 5, 1, .ro, 0, .fuse⟩,
  ⟨0x8, 1, 4, 0, 32, .w1c, 0, .val⟩,
  ⟨0xc, 1, 4, 0, 32, .rw, 0, .val⟩,
  ⟨0x10, 1, 4, 0, 24, .ro, 0, .val⟩,
  ⟨0x14, 1, 4, 0, 8, .rw, 0x18, .val⟩,
  ⟨0x18, 1, 4, 0, 8, .ro, 0, .fuse⟩,
  ⟨0x18, 1, 4, 8, 16, .ro, 0, .fuse⟩,
  ⟨0x20, 1, 8, 0, 64, .rw, 0, .val⟩,
  ⟨0x28, 1, 8, 0, 64, .ro, 0, .val⟩,
  ⟨0x30, 1, 8, 0, 64, .ro, 0, .val⟩,
  ⟨0x100, 36, 8, 0, 32, .rwb, 0x40000000, .val⟩,
  ⟨0x100, 36, 8, 32, 16, .rwb, 0, .val⟩,
  ⟨0x300, 1, 8, 0, 32, .rwb, 0, .fuse⟩,
  ⟨0x300, 1, 8, 32, 16, .rwb, 0, .fuse⟩,
  ⟨0x308, 1, 8, 0, 32, .rwb, 0, .fuse⟩,
  ⟨0x308, 1, 8, 32, 16, .rwb, 0, .fuse⟩,
  ⟨0x400, 65, 4, 0, 16, .rwb, 0, .fuse⟩,
  ⟨0x600, 64, 4, 0, 16, .rwb, 0, .val⟩,
  ⟨0x900, 384, 4, 0, 32, .ro, 0, .val⟩]

/-- The rows of block CAL. -/
def rowsCal : List RegRow := rowsCal0

def rowsFus0 : List RegRow := [
  ⟨0x0, 1, 4, 0, 1, .ro, 0, .fuse⟩,
  ⟨0x0, 1, 4, 1, 1, .ro, 0, .val⟩,
  ⟨0x0, 1, 4, 2, 1, .ro, 0, .val⟩,
  ⟨0x8, 1, 4, 0, 32, .w1c, 0, .val⟩,
  ⟨0xc, 1, 4, 0, 32, .rw, 0, .val⟩,
  ⟨0x10, 1, 8, 0, 64, .ro, 0, .fuse⟩,
  ⟨0x18, 1, 8, 0, 64, .ro, 0, .fuse⟩,
  ⟨0x20, 1, 8, 0, 64, .ro, 0, .fuse⟩,
  ⟨0x28, 1, 8, 0, 64, .ro, 0, .fuse⟩,
  ⟨0x100, 96, 4, 0, 32, .ro, 0, .fuse⟩,
  ⟨0x400, 128, 8, 0, 64, .ro, 0, .fuse⟩,
  ⟨0x800, 1, 4, 0, 7, .rwl, 0, .val⟩,
  ⟨0x808, 1, 8, 0, 64, .rwl, 0, .val⟩,
  ⟨0x810, 1, 4, 0, 1, .w1s, 0, .val⟩,
  ⟨0x810, 1, 4, 1, 1, .w1s, 0, .val⟩,
  ⟨0x810, 1, 4, 2, 1, .w1s, 0, .val⟩,
  ⟨0x810, 1, 4, 3, 1, .ro, 0, .val⟩,
  ⟨0x810, 1, 4, 4, 4, .ro, 0, .val⟩,
  ⟨0x818, 1, 8, 0, 64, .ro, 0, .val⟩,
  ⟨0x1000, 2048, 4, 0, 32, .rw, 0, .val⟩]

/-- The rows of block FUS. -/
def rowsFus : List RegRow := rowsFus0

def rowsTab0 : List RegRow := [
  ⟨0x0, 1, 4, 0, 1, .w1s, 0, .val⟩,
  ⟨0x4, 1, 4, 0, 2, .ro, 0, .val⟩,
  ⟨0x4, 1, 4, 2, 1, .ro, 0, .val⟩,
  ⟨0x4, 1, 4, 3, 1, .ro, 0, .val⟩,
  ⟨0x4, 1, 4, 4, 2, .ro, 0, .val⟩,
  ⟨0x4, 1, 4, 8, 2, .ro, 0, .tab⟩,
  ⟨0x8, 1, 4, 0, 32, .w1c, 0, .val⟩,
  ⟨0xc, 1, 4, 0, 32, .rw, 0, .val⟩,
  ⟨0x10, 1, 4, 0, 32, .ro, 0, .val⟩,
  ⟨0x14, 1, 4, 0, 32, .ro, 0, .val⟩,
  ⟨0x18, 1, 8, 0, 64, .ro, 0, .val⟩,
  ⟨0x20, 1, 8, 0, 64, .ro, 0, .val⟩,
  ⟨0x28, 1, 4, 0, 32, .ro, 0, .tab⟩,
  ⟨0x2c, 1, 4, 0, 32, .ro, 0, .tab⟩,
  ⟨0x30, 1, 4, 0, 32, .ro, 0, .val⟩,
  ⟨0x34, 1, 4, 0, 32, .ro, 0, .val⟩,
  ⟨0x40, 12, 4, 0, 32, .ro, 0, .tab⟩]

/-- The rows of block TAB. -/
def rowsTab : List RegRow := rowsTab0

def rowsFwu0 : List RegRow := [
  ⟨0x0, 1, 4, 0, 1, .w1s, 0, .val⟩,
  ⟨0x4, 1, 4, 0, 1, .ro, 0, .val⟩,
  ⟨0x4, 1, 4, 1, 1, .ro, 0, .val⟩,
  ⟨0x4, 1, 4, 2, 3, .ro, 0, .val⟩,
  ⟨0x4, 1, 4, 5, 3, .ro, 0, .val⟩,
  ⟨0x4, 1, 4, 8, 1, .ro, 0, .val⟩,
  ⟨0x4, 1, 4, 9, 2, .ro, 0, .val⟩,
  ⟨0x4, 1, 4, 11, 2, .ro, 0, .val⟩,
  ⟨0x8, 1, 4, 0, 32, .w1c, 0, .val⟩,
  ⟨0xc, 1, 4, 0, 32, .rw, 0, .val⟩,
  ⟨0x10, 5, 4, 0, 32, .ro, 0, .val⟩,
  ⟨0x30, 5, 4, 0, 32, .ro, 0, .val⟩,
  ⟨0x50, 1, 4, 0, 32, .ro, 0, .val⟩,
  ⟨0x54, 1, 4, 0, 32, .ro, 0, .val⟩,
  ⟨0x58, 1, 4, 0, 16, .ro, 0, .val⟩,
  ⟨0x58, 1, 4, 16, 16, .ro, 0, .val⟩,
  ⟨0x5c, 1, 4, 0, 8, .ro, 0, .val⟩,
  ⟨0x5c, 1, 4, 8, 8, .ro, 0, .val⟩,
  ⟨0x60, 1, 4, 0, 32, .ro, 0, .val⟩]

/-- The rows of block FWU. -/
def rowsFwu : List RegRow := rowsFwu0

def rowsClk0 : List RegRow := [
  ⟨0x0, 1, 4, 0, 1, .ro, 0, .val⟩,
  ⟨0x0, 1, 4, 1, 1, .ro, 0, .val⟩,
  ⟨0x0, 1, 4, 2, 1, .ro, 0, .val⟩,
  ⟨0x0, 1, 4, 3, 1, .ro, 0, .val⟩,
  ⟨0x0, 1, 4, 8, 8, .ro, 0, .val⟩,
  ⟨0x0, 1, 4, 16, 1, .ro, 0, .val⟩,
  ⟨0x4, 1, 4, 0, 32, .w1c, 0, .val⟩,
  ⟨0x8, 1, 4, 0, 32, .rw, 0, .val⟩,
  ⟨0x10, 1, 8, 0, 64, .ro, 0, .val⟩,
  ⟨0x18, 1, 8, 0, 64, .ro, 0, .val⟩,
  ⟨0x20, 1, 8, 0, 64, .ro, 0, .val⟩,
  ⟨0x28, 1, 4, 0, 16, .ro, 0, .val⟩,
  ⟨0x28, 1, 4, 16, 16, .ro, 0, .val⟩]

/-- The rows of block CLK. -/
def rowsClk : List RegRow := rowsClk0

def rowsPwr0 : List RegRow := [
  ⟨0x0, 1, 4, 0, 3, .rw, 0, .val⟩,
  ⟨0x0, 1, 4, 3, 1, .w1s, 0, .val⟩,
  ⟨0x0, 1, 4, 4, 1, .w1s, 0, .val⟩,
  ⟨0x0, 1, 4, 6, 1, .rw, 1, .val⟩,
  ⟨0x4, 1, 4, 0, 2, .ro, 0, .val⟩,
  ⟨0x4, 1, 4, 2, 1, .ro, 0, .val⟩,
  ⟨0x4, 1, 4, 3, 5, .ro, 0, .val⟩,
  ⟨0x4, 1, 4, 8, 1, .ro, 0, .val⟩,
  ⟨0x4, 1, 4, 9, 1, .ro, 0, .val⟩,
  ⟨0x8, 1, 4, 0, 32, .w1c, 0, .val⟩,
  ⟨0xc, 1, 4, 0, 32, .rw, 0, .val⟩,
  ⟨0x10, 1, 4, 0, 16, .rw, 0x1e, .val⟩,
  ⟨0x10, 1, 4, 16, 16, .rw, 0x258, .val⟩,
  ⟨0x14, 1, 4, 0, 4, .ro, 0, .val⟩,
  ⟨0x14, 1, 4, 4, 4, .ro, 0, .val⟩,
  ⟨0x18, 1, 8, 0, 48, .rw, 0xffffffffffff, .val⟩,
  ⟨0x20, 1, 8, 0, 48, .ro, 0, .val⟩,
  ⟨0x28, 1, 4, 0, 16, .ro, 0, .val⟩,
  ⟨0x28, 1, 4, 16, 16, .ro, 0, .val⟩,
  ⟨0x2c, 1, 4, 0, 3, .ro, 0, .val⟩,
  ⟨0x2c, 1, 4, 16, 16, .ro, 0, .val⟩,
  ⟨0x100, 16, 4, 0, 32, .rw, 0, .val⟩]

/-- The rows of block PWR. -/
def rowsPwr : List RegRow := rowsPwr0

def rowsEvt0 : List RegRow := [
  ⟨0x0, 1, 4, 0, 1, .rw, 1, .val⟩,
  ⟨0x0, 1, 4, 1, 1, .w1s, 0, .val⟩,
  ⟨0x4, 1, 4, 0, 8, .ro, 0, .val⟩,
  ⟨0x4, 1, 4, 16, 16, .ro, 0, .val⟩,
  ⟨0x8, 1, 8, 0, 64, .ro, 0, .val⟩,
  ⟨0x30, 8, 4, 0, 32, .rw, 0, .val⟩,
  ⟨0x50, 1, 4, 0, 32, .w1s, 0, .val⟩,
  ⟨0x54, 1, 4, 0, 8, .w1s, 0, .val⟩,
  ⟨0x58, 1, 4, 0, 32, .w1c, 0, .val⟩,
  ⟨0x5c, 1, 4, 0, 8, .w1c, 0, .val⟩,
  ⟨0x100, 256, 1, 0, 2, .rw, 0, .tab⟩,
  ⟨0x100, 256, 1, 2, 1, .rw, 0, .tab⟩,
  ⟨0x100, 256, 1, 3, 2, .rw, 0, .tab⟩]

/-- The rows of block EVT. -/
def rowsEvt : List RegRow := rowsEvt0

def rowsDmp0 : List RegRow := [
  ⟨0x0, 1, 4, 0, 1, .w1s, 0, .val⟩,
  ⟨0x0, 1, 4, 1, 1, .w1s, 0, .val⟩,
  ⟨0x4, 1, 4, 0, 1, .ro, 0, .val⟩,
  ⟨0x4, 1, 4, 1, 1, .ro, 0, .val⟩,
  ⟨0x4, 1, 4, 2, 1, .ro, 0, .val⟩,
  ⟨0x4, 1, 4, 3, 1, .ro, 0, .val⟩,
  ⟨0x4, 1, 4, 4, 1, .ro, 0, .val⟩,
  ⟨0x8, 1, 4, 0, 16, .ro, 0, .val⟩,
  ⟨0x8, 1, 4, 16, 16, .ro, 0, .val⟩,
  ⟨0x10, 1, 8, 0, 64, .ro, 0, .val⟩,
  ⟨0x18, 1, 4, 0, 16, .rw, 0x1e, .val⟩,
  ⟨0x1c, 1, 4, 0, 8, .ro, 0, .val⟩,
  ⟨0x1c, 1, 4, 16, 16, .ro, 0, .val⟩,
  ⟨0x20, 1, 4, 0, 16, .wo, 0, .val⟩,
  ⟨0x24, 1, 4, 0, 21, .ro, 0, .val⟩]

/-- The rows of block DMP. -/
def rowsDmp : List RegRow := rowsDmp0

def rowsMapQ0 : List RegRow := [
  ⟨0x0, 1, 4, 0, 4, .w1c, 0, .val⟩,
  ⟨0x0, 1, 4, 4, 8, .ro, 0, .val⟩,
  ⟨0x4, 1, 4, 0, 32, .rw, 0, .val⟩]

/-- The rows of block MAP.Q. -/
def rowsMapQ : List RegRow := rowsMapQ0

def rowsMgt0 : List RegRow := [
  ⟨0x0, 1, 4, 0, 1, .ro, 1, .val⟩,
  ⟨0x0, 1, 4, 1, 1, .ro, 0, .val⟩,
  ⟨0x4, 1, 4, 0, 32, .w1c, 0, .val⟩,
  ⟨0x8, 1, 4, 0, 32, .rw, 0, .val⟩,
  ⟨0xc, 1, 4, 0, 1, .w1s, 0, .val⟩,
  ⟨0x10, 1, 4, 0, 16, .rw, 0x64, .val⟩,
  ⟨0x14, 1, 4, 0, 32, .wo, 0, .val⟩,
  ⟨0x18, 1, 8, 0, 40, .ro, 0, .val⟩,
  ⟨0x18, 1, 8, 40, 8, .ro, 0, .val⟩,
  ⟨0x18, 1, 8, 63, 1, .w1c, 0, .val⟩]

/-- The rows of block MGT. -/
def rowsMgt : List RegRow := rowsMgt0

def rowsMgtram0 : List RegRow := [
  ⟨0x0, 2097152, 4, 0, 32, .rw, 0, .val⟩]

/-- The rows of block MGTRAM. -/
def rowsMgtram : List RegRow := rowsMgtram0

/-- Every register block of the window (R21, R22). -/
def regBlocks : List RegBlock := [
  ⟨0x0, 1, 0x0, 1, 0x0, 0x40000, .always, rowsGlb⟩,
  ⟨0x1000000, 64, 0x40000, 1, 0x0, 0x10000, .head, rowsHl⟩,
  ⟨0x3000000, 32, 0x10000, 1, 0x0, 0x4000, .bay, rowsBl⟩,
  ⟨0x3200000, 4, 0x10000, 1, 0x0, 0x4000, .carousel, rowsCl⟩,
  ⟨0x1010000, 64, 0x40000, 1, 0x0, 0x10000, .head, rowsCh⟩,
  ⟨0x1020000, 64, 0x40000, 1, 0x0, 0x10000, .head, rowsWrp⟩,
  ⟨0x1030000, 64, 0x40000, 1, 0x0, 0x10000, .head, rowsSv⟩,
  ⟨0x2000000, 16, 0x100000, 1, 0x0, 0x10000, .always, rowsLe⟩,
  ⟨0x2010000, 16, 0x100000, 32, 0x1000, 0x1000, .always, rowsCell⟩,
  ⟨0x3004000, 32, 0x10000, 1, 0x0, 0x4000, .bay, rowsMot⟩,
  ⟨0x3204000, 4, 0x10000, 1, 0x0, 0x4000, .carousel, rowsCmot⟩,
  ⟨0x3008000, 32, 0x10000, 1, 0x0, 0x100, .bay, rowsMov⟩,
  ⟨0x3008100, 32, 0x10000, 3, 0x80, 0x80, .bay, rowsMovAx⟩,
  ⟨0x4000000, 1, 0x0, 1, 0x0, 0x10000, .always, rowsArb⟩,
  ⟨0x4010000, 256, 0x100, 1, 0x0, 0x100, .arbour, rowsArbAr⟩,
  ⟨0x4800000, 1, 0x0, 1, 0x0, 0x1000, .always, rowsPar⟩,
  ⟨0x4801000, 16, 0x40, 1, 0x0, 0x40, .always, rowsParRb⟩]
  ++ [
  ⟨0x4802000, 4, 0x40, 1, 0x0, 0x40, .always, rowsParRs⟩,
  ⟨0x5000000, 1, 0x0, 1, 0x0, 0x1000, .always, rowsBuf⟩,
  ⟨0x5001000, 16, 0x100, 1, 0x0, 0x100, .ddr, rowsBufCh⟩,
  ⟨0x5800000, 1, 0x0, 1, 0x0, 0x100, .always, rowsMap⟩,
  ⟨0x6000000, 1, 0x0, 1, 0x0, 0x1000000, .always, rowsHst⟩,
  ⟨0x7000000, 1, 0x0, 1, 0x0, 0x40000, .always, rowsPlp⟩,
  ⟨0x7040000, 1, 0x0, 1, 0x0, 0x40000, .always, rowsThm⟩,
  ⟨0x7080000, 1, 0x0, 1, 0x0, 0x40000, .always, rowsCal⟩,
  ⟨0x100000, 1, 0x0, 1, 0x0, 0x40000, .always, rowsFus⟩,
  ⟨0x140000, 1, 0x0, 1, 0x0, 0x40000, .always, rowsTab⟩,
  ⟨0x180000, 1, 0x0, 1, 0x0, 0x40000, .always, rowsFwu⟩,
  ⟨0x40000, 1, 0x0, 1, 0x0, 0x40000, .always, rowsClk⟩,
  ⟨0x80000, 1, 0x0, 1, 0x0, 0x40000, .always, rowsPwr⟩,
  ⟨0xc0000, 1, 0x0, 1, 0x0, 0x40000, .always, rowsEvt⟩,
  ⟨0x70c0000, 1, 0x0, 1, 0x0, 0x40000, .always, rowsDmp⟩,
  ⟨0x5800100, 4, 0x10, 1, 0x0, 0x10, .always, rowsMapQ⟩,
  ⟨0x8000000, 4, 0x1000, 1, 0x0, 0x1000, .always, rowsMgt⟩,
  ⟨0xc000000, 1, 0x0, 1, 0x0, 0x800000, .always, rowsMgtram⟩]

end Sys2Proof.Machine
end

