-- ==== Sys2Proof/Machine/RegNames.lean ====
section
/-! DEFINITION. The manual's names for the register fields: `F.HL_CTRL_EN h` is `HL[h].CTRL.EN`. A register that the
manual gives no fields is one field of its full width. Bits of the EVT registers are numbered in `B`. -/

namespace Sys2Proof.Machine

def F.GLB_ID : Fld := ⟨0x0, 0, 32⟩
def F.GLB_HW_TYPE : Fld := ⟨0x4, 0, 32⟩
def F.GLB_STEP : Fld := ⟨0x8, 0, 32⟩
def F.GLB_UNIT_ID_LO : Fld := ⟨0x10, 0, 64⟩
def F.GLB_UNIT_ID_HI : Fld := ⟨0x18, 0, 64⟩
def F.GLB_TAB_SEQ : Fld := ⟨0x20, 0, 64⟩
def F.GLB_INST_HEAD : Fld := ⟨0x28, 0, 64⟩
def F.GLB_INST_BAY : Fld := ⟨0x30, 0, 32⟩
def F.GLB_INST_MISC_CAROUSELS : Fld := ⟨0x34, 0, 4⟩
def F.GLB_INST_MISC_DDR_CH : Fld := ⟨0x34, 4, 16⟩
def F.GLB_ARB_COUNT_ARBOURS : Fld := ⟨0x38, 0, 9⟩
def F.GLB_ARB_COUNT_LEVELS : Fld := ⟨0x38, 16, 4⟩
def F.GLB_ACC_ERR_OFFSET : Fld := ⟨0x40, 0, 28⟩
def F.GLB_ACC_ERR_REQ : Fld := ⟨0x40, 32, 4⟩
def F.GLB_ACC_ERR_KIND : Fld := ⟨0x40, 36, 3⟩
def F.GLB_ACC_ERR_WRITE : Fld := ⟨0x40, 39, 1⟩
def F.GLB_ACC_ERR_OVERFLOW : Fld := ⟨0x40, 62, 1⟩
def F.GLB_ACC_ERR_VALID : Fld := ⟨0x40, 63, 1⟩
def F.GLB_SCRATCH (i : Nat) : Fld := ⟨0x48 + i * 4, 0, 32⟩
def F.HL_CTRL_EN (h : Nat) : Fld := ⟨0x1000000 + h * 0x40000, 0, 1⟩
def F.HL_CTRL_TRAIN (h : Nat) : Fld := ⟨0x1000000 + h * 0x40000, 1, 1⟩
def F.HL_CTRL_LASER_PERMIT (h : Nat) : Fld := ⟨0x1000000 + h * 0x40000, 2, 1⟩
def F.HL_CTRL_CLR_CNT (h : Nat) : Fld := ⟨0x1000000 + h * 0x40000, 3, 1⟩
def F.HL_CTRL_DEGR_GROUP (h : Nat) : Fld := ⟨0x1000000 + h * 0x40000, 8, 2⟩
def F.HL_CTRL_AUTO_DEGRADE (h : Nat) : Fld := ⟨0x1000000 + h * 0x40000, 10, 1⟩
def F.HL_STATUS_STATE (h : Nat) : Fld := ⟨0x1000004 + h * 0x40000, 0, 4⟩
def F.HL_STATUS_LANES_UP (h : Nat) : Fld := ⟨0x1000004 + h * 0x40000, 4, 4⟩
def F.HL_STATUS_DEGRADED (h : Nat) : Fld := ⟨0x1000004 + h * 0x40000, 8, 1⟩
def F.HL_STATUS_FAILED_LANE (h : Nat) : Fld := ⟨0x1000004 + h * 0x40000, 9, 2⟩
def F.HL_STATUS_GROUP (h : Nat) : Fld := ⟨0x1000004 + h * 0x40000, 11, 2⟩
def F.HL_STATUS_IDENT_VALID (h : Nat) : Fld := ⟨0x1000004 + h * 0x40000, 13, 1⟩
def F.HL_ADC_N (h : Nat) : Fld := ⟨0x1000008 + h * 0x40000, 0, 9⟩
def F.HL_ADC_FMT (h : Nat) : Fld := ⟨0x1000008 + h * 0x40000, 16, 1⟩
def F.HL_LANE_MAP (h : Nat) : Fld := ⟨0x100000c + h * 0x40000, 0, 32⟩
def F.HL_EVT (h : Nat) : Fld := ⟨0x1000010 + h * 0x40000, 0, 32⟩
def F.HL_EVT_EN (h : Nat) : Fld := ⟨0x1000014 + h * 0x40000, 0, 32⟩
def F.HL_SKEW (h : Nat) : Fld := ⟨0x1000018 + h * 0x40000, 0, 32⟩
def F.HL_SF_CNT (h : Nat) : Fld := ⟨0x1000020 + h * 0x40000, 0, 64⟩
def F.HL_CORR_SYM (h i : Nat) : Fld := ⟨0x1000028 + h * 0x40000 + i * 4, 0, 32⟩
def F.HL_UNCORR (h i : Nat) : Fld := ⟨0x1000038 + h * 0x40000 + i * 4, 0, 32⟩
def F.HL_DS_ERR (h : Nat) : Fld := ⟨0x1000048 + h * 0x40000, 0, 32⟩
def F.HL_SERVO_CNT_MISS (h : Nat) : Fld := ⟨0x100004c + h * 0x40000, 0, 16⟩
def F.HL_SERVO_CNT_MISMATCH (h : Nat) : Fld := ⟨0x100004c + h * 0x40000, 16, 16⟩
def F.HL_LAT_LAST (h : Nat) : Fld := ⟨0x1000050 + h * 0x40000, 0, 16⟩
def F.HL_LAT_PEAK (h : Nat) : Fld := ⟨0x1000050 + h * 0x40000, 16, 16⟩
def F.HL_LAT_LIMIT (h : Nat) : Fld := ⟨0x1000054 + h * 0x40000, 0, 16⟩
def F.HL_MSG_STAT_RETX (h : Nat) : Fld := ⟨0x1000058 + h * 0x40000, 0, 16⟩
def F.HL_MSG_STAT_UNKNOWN (h : Nat) : Fld := ⟨0x1000058 + h * 0x40000, 16, 16⟩
def F.HL_HEAD_EVT_CODE (h : Nat) : Fld := ⟨0x100005c + h * 0x40000, 0, 8⟩
def F.HL_HEAD_EVT_DETAIL (h : Nat) : Fld := ⟨0x100005c + h * 0x40000, 8, 8⟩
def F.HL_HEAD_EVT_COUNT (h : Nat) : Fld := ⟨0x100005c + h * 0x40000, 16, 16⟩
def F.HL_IDENT (h i : Nat) : Fld := ⟨0x1000060 + h * 0x40000 + i * 4, 0, 32⟩
def F.HL_TELEM0_LASER_T (h : Nat) : Fld := ⟨0x1000070 + h * 0x40000, 0, 16⟩
def F.HL_TELEM0_I_READ (h : Nat) : Fld := ⟨0x1000070 + h * 0x40000, 16, 16⟩
def F.HL_TELEM1_I_WRITE (h : Nat) : Fld := ⟨0x1000074 + h * 0x40000, 0, 16⟩
def F.HL_TELEM1_I_BIAS (h : Nat) : Fld := ⟨0x1000074 + h * 0x40000, 16, 16⟩
def F.HL_MBOX_CTRL_SEND (h : Nat) : Fld := ⟨0x1000080 + h * 0x40000, 0, 1⟩
def F.HL_MBOX_CTRL_RX_FULL (h : Nat) : Fld := ⟨0x1000080 + h * 0x40000, 1, 1⟩
def F.HL_MBOX_CTRL_RX_QUEUE (h : Nat) : Fld := ⟨0x1000080 + h * 0x40000, 2, 5⟩
def F.HL_MBOX_TX (h i : Nat) : Fld := ⟨0x1000100 + h * 0x40000 + i * 4, 0, 32⟩
def F.HL_MBOX_RX (h i : Nat) : Fld := ⟨0x1000200 + h * 0x40000 + i * 4, 0, 32⟩
def F.BL_CTRL_EN (b : Nat) : Fld := ⟨0x3000000 + b * 0x10000, 0, 1⟩
def F.BL_CTRL_RETRAIN (b : Nat) : Fld := ⟨0x3000000 + b * 0x10000, 1, 1⟩
def F.BL_CTRL_CLR_CNT (b : Nat) : Fld := ⟨0x3000000 + b * 0x10000, 2, 1⟩
def F.CL_CTRL_EN (c : Nat) : Fld := ⟨0x3200000 + c * 0x10000, 0, 1⟩
def F.CL_CTRL_RETRAIN (c : Nat) : Fld := ⟨0x3200000 + c * 0x10000, 1, 1⟩
def F.CL_CTRL_CLR_CNT (c : Nat) : Fld := ⟨0x3200000 + c * 0x10000, 2, 1⟩
def F.BL_STATUS_STATE (b : Nat) : Fld := ⟨0x3000004 + b * 0x10000, 0, 3⟩
def F.BL_STATUS_ROLE (b : Nat) : Fld := ⟨0x3000004 + b * 0x10000, 3, 2⟩
def F.BL_STATUS_SAFE (b : Nat) : Fld := ⟨0x3000004 + b * 0x10000, 5, 1⟩
def F.BL_STATUS_OC_LATCHED (b : Nat) : Fld := ⟨0x3000004 + b * 0x10000, 6, 1⟩
def F.CL_STATUS_STATE (c : Nat) : Fld := ⟨0x3200004 + c * 0x10000, 0, 3⟩
def F.CL_STATUS_ROLE (c : Nat) : Fld := ⟨0x3200004 + c * 0x10000, 3, 2⟩
def F.CL_STATUS_SAFE (c : Nat) : Fld := ⟨0x3200004 + c * 0x10000, 5, 1⟩
def F.CL_STATUS_OC_LATCHED (c : Nat) : Fld := ⟨0x3200004 + c * 0x10000, 6, 1⟩
def F.BL_DEADTIME (b : Nat) : Fld := ⟨0x3000008 + b * 0x10000, 0, 8⟩
def F.CL_DEADTIME (c : Nat) : Fld := ⟨0x3200008 + c * 0x10000, 0, 8⟩
def F.BL_OC_TRIP (b : Nat) : Fld := ⟨0x300000c + b * 0x10000, 0, 16⟩
def F.CL_OC_TRIP (c : Nat) : Fld := ⟨0x320000c + c * 0x10000, 0, 16⟩
def F.BL_EVT (b : Nat) : Fld := ⟨0x3000010 + b * 0x10000, 0, 32⟩
def F.CL_EVT (c : Nat) : Fld := ⟨0x3200010 + c * 0x10000, 0, 32⟩
def F.BL_EVT_EN (b : Nat) : Fld := ⟨0x3000014 + b * 0x10000, 0, 32⟩
def F.CL_EVT_EN (c : Nat) : Fld := ⟨0x3200014 + c * 0x10000, 0, 32⟩
def F.BL_CRC_ERR_UP (b : Nat) : Fld := ⟨0x3000018 + b * 0x10000, 0, 16⟩
def F.BL_CRC_ERR_DOWN (b : Nat) : Fld := ⟨0x3000018 + b * 0x10000, 16, 16⟩
def F.CL_CRC_ERR_UP (c : Nat) : Fld := ⟨0x3200018 + c * 0x10000, 0, 16⟩
def F.CL_CRC_ERR_DOWN (c : Nat) : Fld := ⟨0x3200018 + c * 0x10000, 16, 16⟩
def F.BL_CODE_ERR (b : Nat) : Fld := ⟨0x300001c + b * 0x10000, 0, 32⟩
def F.CL_CODE_ERR (c : Nat) : Fld := ⟨0x320001c + c * 0x10000, 0, 32⟩
def F.BL_LATE_PACKETS (b : Nat) : Fld := ⟨0x3000020 + b * 0x10000, 0, 16⟩
def F.BL_LATE_REPEATS (b : Nat) : Fld := ⟨0x3000020 + b * 0x10000, 16, 16⟩
def F.CL_LATE_PACKETS (c : Nat) : Fld := ⟨0x3200020 + c * 0x10000, 0, 16⟩
def F.CL_LATE_REPEATS (c : Nat) : Fld := ⟨0x3200020 + c * 0x10000, 16, 16⟩
def F.BL_RTT (b : Nat) : Fld := ⟨0x3000024 + b * 0x10000, 0, 16⟩
def F.CL_RTT (c : Nat) : Fld := ⟨0x3200024 + c * 0x10000, 0, 16⟩
def F.BL_INPUTS_LEVELS (b : Nat) : Fld := ⟨0x3000028 + b * 0x10000, 0, 16⟩
def F.BL_INPUTS_TOGGLES (b : Nat) : Fld := ⟨0x3000028 + b * 0x10000, 16, 16⟩
def F.CL_INPUTS_LEVELS (c : Nat) : Fld := ⟨0x3200028 + c * 0x10000, 0, 16⟩
def F.CL_INPUTS_TOGGLES (c : Nat) : Fld := ⟨0x3200028 + c * 0x10000, 16, 16⟩
def F.BL_IDENT (b i : Nat) : Fld := ⟨0x3000030 + b * 0x10000 + i * 4, 0, 32⟩
def F.CL_IDENT (c i : Nat) : Fld := ⟨0x3200030 + c * 0x10000 + i * 4, 0, 32⟩
def F.CH_CTRL_EN (h : Nat) : Fld := ⟨0x1010000 + h * 0x40000, 0, 1⟩
def F.CH_CTRL_SPEED (h : Nat) : Fld := ⟨0x1010000 + h * 0x40000, 1, 1⟩
def F.CH_CTRL_READ_EN (h : Nat) : Fld := ⟨0x1010000 + h * 0x40000, 2, 1⟩
def F.CH_CTRL_CLR_CNT (h : Nat) : Fld := ⟨0x1010000 + h * 0x40000, 3, 1⟩
def F.CH_CTRL_FMT8 (h : Nat) : Fld := ⟨0x1010000 + h * 0x40000, 4, 1⟩
def F.CH_CTRL_OFS_ADAPT (h : Nat) : Fld := ⟨0x1010000 + h * 0x40000, 5, 1⟩
def F.CH_STATUS_WPLL_STATE (h : Nat) : Fld := ⟨0x1010004 + h * 0x40000, 0, 3⟩
def F.CH_STATUS_ADDR_CONF (h : Nat) : Fld := ⟨0x1010004 + h * 0x40000, 3, 1⟩
def F.CH_STATUS_SPEED_OK (h : Nat) : Fld := ⟨0x1010004 + h * 0x40000, 4, 1⟩
def F.CH_STATUS_READ_PERMIT (h : Nat) : Fld := ⟨0x1010004 + h * 0x40000, 5, 1⟩
def F.CH_STATUS_MEDIA_ID_VALID (h : Nat) : Fld := ⟨0x1010004 + h * 0x40000, 6, 1⟩
def F.CH_EVT (h : Nat) : Fld := ⟨0x1010008 + h * 0x40000, 0, 32⟩
def F.CH_EVT_EN (h : Nat) : Fld := ⟨0x101000c + h * 0x40000, 0, 32⟩
def F.CH_FRET_FRET (h : Nat) : Fld := ⟨0x1010010 + h * 0x40000, 0, 5⟩
def F.CH_FRET_N (h : Nat) : Fld := ⟨0x1010010 + h * 0x40000, 8, 9⟩
def F.CH_FRET_FMT (h : Nat) : Fld := ⟨0x1010010 + h * 0x40000, 24, 1⟩
def F.CH_ADDR_BAND (h : Nat) : Fld := ⟨0x1010014 + h * 0x40000, 0, 14⟩
def F.CH_ADDR_LAYER (h : Nat) : Fld := ⟨0x1010014 + h * 0x40000, 14, 4⟩
def F.CH_ADDR_SIDE (h : Nat) : Fld := ⟨0x1010014 + h * 0x40000, 18, 1⟩
def F.CH_ADDR_CONFIRMED (h : Nat) : Fld := ⟨0x1010014 + h * 0x40000, 31, 1⟩
def F.CH_MEDIA_ID (h i : Nat) : Fld := ⟨0x1010018 + h * 0x40000 + i * 4, 0, 32⟩
def F.CH_WPLL_CFG_BW (h : Nat) : Fld := ⟨0x1010028 + h * 0x40000, 0, 4⟩
def F.CH_WPLL_CFG_HOLD_MAX (h : Nat) : Fld := ⟨0x1010028 + h * 0x40000, 4, 12⟩
def F.CH_WPLL_CFG_AMP_MIN (h : Nat) : Fld := ⟨0x1010028 + h * 0x40000, 16, 12⟩
def F.CH_WOB_SPEED (h : Nat) : Fld := ⟨0x101002c + h * 0x40000, 0, 32⟩
def F.CH_WPLL_ERR_RMS (h : Nat) : Fld := ⟨0x1010030 + h * 0x40000, 0, 16⟩
def F.CH_WPLL_ERR_PEAK (h : Nat) : Fld := ⟨0x1010030 + h * 0x40000, 16, 16⟩
def F.CH_SPEED_TOL (h : Nat) : Fld := ⟨0x1010034 + h * 0x40000, 0, 16⟩
def F.CH_ACQ_FAST_GAIN (h : Nat) : Fld := ⟨0x1010038 + h * 0x40000, 0, 8⟩
def F.CH_ACQ_TRACK_GAIN (h : Nat) : Fld := ⟨0x1010038 + h * 0x40000, 8, 8⟩
def F.CH_SYNC_SM_THR (h : Nat) : Fld := ⟨0x101003c + h * 0x40000, 0, 7⟩
def F.CH_SYNC_RM_THR (h : Nat) : Fld := ⟨0x101003c + h * 0x40000, 8, 7⟩
def F.CH_BLANK_THR (h : Nat) : Fld := ⟨0x1010040 + h * 0x40000, 0, 16⟩
def F.CH_NF_N (h i : Nat) : Fld := ⟨0x1010080 + h * 0x40000 + i * 4, 0, 9⟩
def F.CH_NF_FMT1 (h i : Nat) : Fld := ⟨0x1010080 + h * 0x40000 + i * 4, 16, 1⟩
def F.CH_BEAM_OFS (h i : Nat) : Fld := ⟨0x1010100 + h * 0x40000 + i * 4, 0, 32⟩
def F.CH_UCRC_ERR (h : Nat) : Fld := ⟨0x1010200 + h * 0x40000, 0, 32⟩
def F.CH_ADDR_MISMATCH (h : Nat) : Fld := ⟨0x1010204 + h * 0x40000, 0, 32⟩
def F.CH_WPLL_HOLD (h : Nat) : Fld := ⟨0x1010208 + h * 0x40000, 0, 32⟩
def F.CH_WPLL_LOST (h : Nat) : Fld := ⟨0x101020c + h * 0x40000, 0, 32⟩
def F.CH_SYNC_MISS (h : Nat) : Fld := ⟨0x1010210 + h * 0x40000, 0, 32⟩
def F.CH_SYNC_EARLY (h : Nat) : Fld := ⟨0x1010214 + h * 0x40000, 0, 32⟩
def F.CH_RESYNC_SLIP (h : Nat) : Fld := ⟨0x1010218 + h * 0x40000, 0, 32⟩
def F.CH_RESYNC_MISS (h : Nat) : Fld := ⟨0x101021c + h * 0x40000, 0, 32⟩
def F.CH_ABANDON (h : Nat) : Fld := ⟨0x1010220 + h * 0x40000, 0, 32⟩
def F.CH_RATE_LATE (h : Nat) : Fld := ⟨0x1010224 + h * 0x40000, 0, 32⟩
def F.CH_SAMPLE_DISC (h : Nat) : Fld := ⟨0x1010228 + h * 0x40000, 0, 32⟩
def F.CH_BLANK_SLOTS (h : Nat) : Fld := ⟨0x101022c + h * 0x40000, 0, 32⟩
def F.CH_DET_CTRL_EQ_ADAPT (h : Nat) : Fld := ⟨0x1010400 + h * 0x40000, 0, 1⟩
def F.CH_DET_CTRL_JOINT_EN (h : Nat) : Fld := ⟨0x1010400 + h * 0x40000, 1, 1⟩
def F.CH_DET_CTRL_PASSES (h : Nat) : Fld := ⟨0x1010400 + h * 0x40000, 2, 2⟩
def F.CH_DET_CTRL_WOB_CANCEL (h : Nat) : Fld := ⟨0x1010400 + h * 0x40000, 4, 1⟩
def F.CH_DET_CTRL_ALT_FRAME (h : Nat) : Fld := ⟨0x1010400 + h * 0x40000, 5, 1⟩
def F.CH_DET_CTRL_CLR_CNT (h : Nat) : Fld := ⟨0x1010400 + h * 0x40000, 6, 1⟩
def F.CH_EQ_CFG_MU (h : Nat) : Fld := ⟨0x1010404 + h * 0x40000, 0, 8⟩
def F.CH_EQ_CFG_MSE_MAX (h : Nat) : Fld := ⟨0x1010404 + h * 0x40000, 8, 16⟩
def F.CH_DROP_CFG_LO (h : Nat) : Fld := ⟨0x1010408 + h * 0x40000, 0, 8⟩
def F.CH_DROP_CFG_HI (h : Nat) : Fld := ⟨0x1010408 + h * 0x40000, 8, 8⟩
def F.CH_DROP_CFG_SET_LEN (h : Nat) : Fld := ⟨0x1010408 + h * 0x40000, 16, 8⟩
def F.CH_DROP_CFG_CLR_LEN (h : Nat) : Fld := ⟨0x1010408 + h * 0x40000, 24, 8⟩
def F.CH_ERASE_CFG_EXT (h : Nat) : Fld := ⟨0x101040c + h * 0x40000, 0, 8⟩
def F.CH_ERASE_CFG_ERASE_MAX (h : Nat) : Fld := ⟨0x101040c + h * 0x40000, 16, 16⟩
def F.CH_LDPC_CFG_ITER0 (h : Nat) : Fld := ⟨0x1010410 + h * 0x40000, 0, 6⟩
def F.CH_LDPC_CFG_ITER1 (h : Nat) : Fld := ⟨0x1010410 + h * 0x40000, 8, 6⟩
def F.CH_LDPC_CFG_STALL (h : Nat) : Fld := ⟨0x1010410 + h * 0x40000, 16, 4⟩
def F.CH_LDPC_CFG_ALPHA (h : Nat) : Fld := ⟨0x1010410 + h * 0x40000, 20, 4⟩
def F.CH_LLR_SCALE (h : Nat) : Fld := ⟨0x1010414 + h * 0x40000, 0, 8⟩
def F.CH_LADDER_RUNG_EN (h : Nat) : Fld := ⟨0x1010418 + h * 0x40000, 1, 6⟩
def F.CH_LADDER_BUDGET (h : Nat) : Fld := ⟨0x1010418 + h * 0x40000, 12, 4⟩
def F.CH_LADDER_MAX_BANDS (h : Nat) : Fld := ⟨0x1010418 + h * 0x40000, 16, 5⟩
def F.CH_LADDER_OFS_TRACK_OFS (h : Nat) : Fld := ⟨0x101041c + h * 0x40000, 0, 8⟩
def F.CH_LADDER_OFS_FOCUS_OFS (h : Nat) : Fld := ⟨0x101041c + h * 0x40000, 8, 8⟩
def F.CH_LADDER_STATUS_BAND (h : Nat) : Fld := ⟨0x1010420 + h * 0x40000, 0, 14⟩
def F.CH_LADDER_STATUS_RUNG (h : Nat) : Fld := ⟨0x1010420 + h * 0x40000, 14, 3⟩
def F.CH_LADDER_STATUS_REVS (h : Nat) : Fld := ⟨0x1010420 + h * 0x40000, 17, 4⟩
def F.CH_LADDER_STATUS_ACTIVE (h : Nat) : Fld := ⟨0x1010420 + h * 0x40000, 21, 1⟩
def F.CH_LADDER_STATUS_PENDING (h : Nat) : Fld := ⟨0x1010420 + h * 0x40000, 22, 8⟩
def F.CH_ITI_IN (h i : Nat) : Fld := ⟨0x1010480 + h * 0x40000 + i * 4, 0, 16⟩
def F.CH_ITI_OUT (h i : Nat) : Fld := ⟨0x1010480 + h * 0x40000 + i * 4, 16, 16⟩
def F.CH_BEAM_Q_MSE (h i : Nat) : Fld := ⟨0x1010500 + h * 0x40000 + i * 4, 0, 16⟩
def F.CH_BEAM_Q_ERASED (h i : Nat) : Fld := ⟨0x1010500 + h * 0x40000 + i * 4, 16, 16⟩
def F.CH_CW_DECODED (h : Nat) : Fld := ⟨0x1010580 + h * 0x40000, 0, 64⟩
def F.CH_CW_FAIL0 (h : Nat) : Fld := ⟨0x1010588 + h * 0x40000, 0, 32⟩
def F.CH_RUNG1_OK (h i : Nat) : Fld := ⟨0x101058c + h * 0x40000 + i * 4, 0, 32⟩
def F.CH_HANDOVER (h : Nat) : Fld := ⟨0x10105a4 + h * 0x40000, 0, 32⟩
def F.CH_CRC_FAIL (h : Nat) : Fld := ⟨0x10105a8 + h * 0x40000, 0, 32⟩
def F.CH_ADDR_ERR (h : Nat) : Fld := ⟨0x10105ac + h * 0x40000, 0, 32⟩
def F.CH_ERASE_BITS (h : Nat) : Fld := ⟨0x10105b0 + h * 0x40000, 0, 64⟩
def F.CH_ITER_SUM (h : Nat) : Fld := ⟨0x10105b8 + h * 0x40000, 0, 64⟩
def F.CH_RETRY_REV (h : Nat) : Fld := ⟨0x10105c0 + h * 0x40000, 0, 32⟩
def F.CH_STAGE_DROP (h : Nat) : Fld := ⟨0x10105c4 + h * 0x40000, 0, 32⟩
def F.CH_QUEUE_DROP (h : Nat) : Fld := ⟨0x10105c8 + h * 0x40000, 0, 32⟩
def F.CH_STORE_FULL (h : Nat) : Fld := ⟨0x10105cc + h * 0x40000, 0, 32⟩
def F.CH_EQ_RESET (h : Nat) : Fld := ⟨0x10105d0 + h * 0x40000, 0, 32⟩
def F.CH_PERSIST (h : Nat) : Fld := ⟨0x10105d4 + h * 0x40000, 0, 32⟩
def F.CH_TRUNC (h : Nat) : Fld := ⟨0x10105d8 + h * 0x40000, 0, 32⟩
def F.CH_ITI_SKIP (h : Nat) : Fld := ⟨0x10105dc + h * 0x40000, 0, 32⟩
def F.CH_POOL_CTRL_PARTNER_EN (h : Nat) : Fld := ⟨0x1010600 + h * 0x40000, 0, 1⟩
def F.CH_POOL_CTRL_R1_LOW (h : Nat) : Fld := ⟨0x1010600 + h * 0x40000, 8, 8⟩
def F.CH_POOL_CTRL_R1_HIGH (h : Nat) : Fld := ⟨0x1010600 + h * 0x40000, 16, 9⟩
def F.CH_POOL_FENCE (h : Nat) : Fld := ⟨0x1010604 + h * 0x40000, 0, 16⟩
def F.CH_POOL_STATUS_ENGINES (h : Nat) : Fld := ⟨0x1010608 + h * 0x40000, 0, 16⟩
def F.CH_POOL_STATUS_DEPTH (h : Nat) : Fld := ⟨0x1010608 + h * 0x40000, 16, 9⟩
def F.CH_POOL_PEAK (h : Nat) : Fld := ⟨0x101060c + h * 0x40000, 0, 9⟩
def F.CH_POOL_FAULT (h : Nat) : Fld := ⟨0x1010610 + h * 0x40000, 0, 16⟩
def F.CH_DEC_WEIGHT (h : Nat) : Fld := ⟨0x1010620 + h * 0x40000, 0, 4⟩
def F.CH_ITER_HIST (h i : Nat) : Fld := ⟨0x1010700 + h * 0x40000 + i * 4, 0, 32⟩
def F.WRP_CTRL_EN (h : Nat) : Fld := ⟨0x1020000 + h * 0x40000, 0, 1⟩
def F.WRP_CTRL_CLR_CNT (h : Nat) : Fld := ⟨0x1020000 + h * 0x40000, 1, 1⟩
def F.WRP_CTRL_CAL_FORCE (h : Nat) : Fld := ⟨0x1020000 + h * 0x40000, 2, 1⟩
def F.WRP_CTRL_RESUME_REVS (h : Nat) : Fld := ⟨0x1020000 + h * 0x40000, 8, 4⟩
def F.WRP_STATUS_STATE (h : Nat) : Fld := ⟨0x1020004 + h * 0x40000, 0, 3⟩
def F.WRP_STATUS_BAND (h : Nat) : Fld := ⟨0x1020004 + h * 0x40000, 3, 14⟩
def F.WRP_STATUS_REMAIN (h : Nat) : Fld := ⟨0x1020004 + h * 0x40000, 17, 5⟩
def F.WRP_STATUS_GATE (h : Nat) : Fld := ⟨0x1020004 + h * 0x40000, 22, 1⟩
def F.WRP_STATUS_WRITE_PERMIT (h : Nat) : Fld := ⟨0x1020004 + h * 0x40000, 23, 1⟩
def F.WRP_EVT (h : Nat) : Fld := ⟨0x1020008 + h * 0x40000, 0, 32⟩
def F.WRP_EVT_EN (h : Nat) : Fld := ⟨0x102000c + h * 0x40000, 0, 32⟩
def F.WRP_EXTENT_EXT_BANDS (h : Nat) : Fld := ⟨0x1020010 + h * 0x40000, 0, 5⟩
def F.WRP_LEAD (h : Nat) : Fld := ⟨0x1020014 + h * 0x40000, 0, 8⟩
def F.WRP_POS_LIM_POS_TRIM (h : Nat) : Fld := ⟨0x1020018 + h * 0x40000, 0, 8⟩
def F.WRP_POS_LIM_POS_FAULT (h : Nat) : Fld := ⟨0x1020018 + h * 0x40000, 8, 8⟩
def F.WRP_OFFTRACK_TRACK_LIM (h : Nat) : Fld := ⟨0x102001c + h * 0x40000, 0, 8⟩
def F.WRP_OFFTRACK_FOCUS_LIM (h : Nat) : Fld := ⟨0x102001c + h * 0x40000, 8, 8⟩
def F.WRP_VFY_LIM_ITER_LIM (h : Nat) : Fld := ⟨0x1020020 + h * 0x40000, 0, 6⟩
def F.WRP_VFY_LIM_ERASE_LIM (h : Nat) : Fld := ⟨0x1020020 + h * 0x40000, 16, 12⟩
def F.WRP_TCOMP (h : Nat) : Fld := ⟨0x1020024 + h * 0x40000, 0, 16⟩
def F.WRP_CAL_MSE_MAX (h : Nat) : Fld := ⟨0x1020028 + h * 0x40000, 0, 16⟩
def F.WRP_NCO (h : Nat) : Fld := ⟨0x102002c + h * 0x40000, 0, 32⟩
def F.WRP_POS_ERR_LAST (h : Nat) : Fld := ⟨0x1020030 + h * 0x40000, 0, 16⟩
def F.WRP_POS_ERR_PEAK (h : Nat) : Fld := ⟨0x1020030 + h * 0x40000, 16, 16⟩
def F.WRP_CHUNKS (h : Nat) : Fld := ⟨0x1020038 + h * 0x40000, 0, 64⟩
def F.WRP_VFY_FAIL (h : Nat) : Fld := ⟨0x1020040 + h * 0x40000, 0, 32⟩
def F.WRP_UNDERRUN (h : Nat) : Fld := ⟨0x1020044 + h * 0x40000, 0, 32⟩
def F.WRP_CLOSURES (h : Nat) : Fld := ⟨0x1020048 + h * 0x40000, 0, 32⟩
def F.WRP_POS_FAULT (h : Nat) : Fld := ⟨0x102004c + h * 0x40000, 0, 32⟩
def F.WRP_SPARES (h : Nat) : Fld := ⟨0x1020050 + h * 0x40000, 0, 32⟩
def F.WRP_SPARE_NONE (h : Nat) : Fld := ⟨0x1020054 + h * 0x40000, 0, 32⟩
def F.WRP_CAL_PASS (h : Nat) : Fld := ⟨0x1020058 + h * 0x40000, 0, 32⟩
def F.WRP_CAL_FALLBACK (h : Nat) : Fld := ⟨0x102005c + h * 0x40000, 0, 32⟩
def F.WRP_DAMAGED (h : Nat) : Fld := ⟨0x1020060 + h * 0x40000, 0, 32⟩
def F.WRP_PULSE (h i : Nat) : Fld := ⟨0x1020100 + h * 0x40000 + i * 4, 0, 32⟩
def F.SV_CTRL_EN (h : Nat) : Fld := ⟨0x1030000 + h * 0x40000, 0, 1⟩
def F.SV_CTRL_AUTO_PULLIN (h : Nat) : Fld := ⟨0x1030000 + h * 0x40000, 1, 1⟩
def F.SV_CTRL_CLR_CNT (h : Nat) : Fld := ⟨0x1030000 + h * 0x40000, 2, 1⟩
def F.SV_CTRL_SLED_FOLLOW (h : Nat) : Fld := ⟨0x1030000 + h * 0x40000, 3, 1⟩
def F.SV_CTRL_TILT_EN (h : Nat) : Fld := ⟨0x1030000 + h * 0x40000, 4, 1⟩
def F.SV_STATUS_STATE (h : Nat) : Fld := ⟨0x1030004 + h * 0x40000, 0, 4⟩
def F.SV_STATUS_ON_TRACK (h : Nat) : Fld := ⟨0x1030004 + h * 0x40000, 4, 1⟩
def F.SV_STATUS_DEFECT (h : Nat) : Fld := ⟨0x1030004 + h * 0x40000, 5, 1⟩
def F.SV_STATUS_ON_SHADOW (h : Nat) : Fld := ⟨0x1030004 + h * 0x40000, 6, 3⟩
def F.SV_STATUS_BAND_HOLD (h : Nat) : Fld := ⟨0x1030004 + h * 0x40000, 9, 1⟩
def F.SV_EVT (h : Nat) : Fld := ⟨0x1030008 + h * 0x40000, 0, 32⟩
def F.SV_EVT_EN (h : Nat) : Fld := ⟨0x103000c + h * 0x40000, 0, 32⟩
def F.SV_CMD_BAND (h : Nat) : Fld := ⟨0x1030010 + h * 0x40000, 0, 14⟩
def F.SV_CMD_LAYER (h : Nat) : Fld := ⟨0x1030010 + h * 0x40000, 14, 4⟩
def F.SV_CMD_OP (h : Nat) : Fld := ⟨0x1030010 + h * 0x40000, 18, 3⟩
def F.SV_CMD_CAL (h : Nat) : Fld := ⟨0x1030010 + h * 0x40000, 21, 1⟩
def F.SV_CMD_GO (h : Nat) : Fld := ⟨0x1030010 + h * 0x40000, 31, 1⟩
def F.SV_CMD_STATUS_BUSY (h : Nat) : Fld := ⟨0x1030014 + h * 0x40000, 0, 1⟩
def F.SV_CMD_STATUS_OP (h : Nat) : Fld := ⟨0x1030014 + h * 0x40000, 1, 3⟩
def F.SV_CMD_STATUS_RESULT (h : Nat) : Fld := ⟨0x1030014 + h * 0x40000, 4, 4⟩
def F.SV_CMD_STATUS_CORR (h : Nat) : Fld := ⟨0x1030014 + h * 0x40000, 8, 8⟩
def F.SV_CMD_STATUS_DUR (h : Nat) : Fld := ⟨0x1030014 + h * 0x40000, 16, 16⟩
def F.SV_POS_BAND (h : Nat) : Fld := ⟨0x1030018 + h * 0x40000, 0, 14⟩
def F.SV_POS_LAYER (h : Nat) : Fld := ⟨0x1030018 + h * 0x40000, 14, 4⟩
def F.SV_POS_SIDE (h : Nat) : Fld := ⟨0x1030018 + h * 0x40000, 18, 1⟩
def F.SV_POS_CONFIRMED (h : Nat) : Fld := ⟨0x1030018 + h * 0x40000, 19, 1⟩
def F.SV_OFFSET_TRACK_OFS (h : Nat) : Fld := ⟨0x103001c + h * 0x40000, 0, 8⟩
def F.SV_OFFSET_FOCUS_OFS (h : Nat) : Fld := ⟨0x103001c + h * 0x40000, 8, 8⟩
def F.SV_DEFECT_DEF_LO (h : Nat) : Fld := ⟨0x1030020 + h * 0x40000, 0, 8⟩
def F.SV_DEFECT_DEF_HI (h : Nat) : Fld := ⟨0x1030020 + h * 0x40000, 8, 8⟩
def F.SV_DEFECT_DEF_SET (h : Nat) : Fld := ⟨0x1030020 + h * 0x40000, 16, 4⟩
def F.SV_DEFECT_DEF_CLR (h : Nat) : Fld := ⟨0x1030020 + h * 0x40000, 20, 4⟩
def F.SV_DEFECT_DEF_MAX (h : Nat) : Fld := ⟨0x1030020 + h * 0x40000, 24, 8⟩
def F.SV_LIMITS_OFFTRACK_LIM (h : Nat) : Fld := ⟨0x1030024 + h * 0x40000, 0, 12⟩
def F.SV_LIMITS_FOCUS_ERR_LIM (h : Nat) : Fld := ⟨0x1030024 + h * 0x40000, 12, 12⟩
def F.SV_LIMITS_MISS_MAX (h : Nat) : Fld := ⟨0x1030024 + h * 0x40000, 24, 8⟩
def F.SV_PULLIN_SWEEP_RATE (h : Nat) : Fld := ⟨0x1030028 + h * 0x40000, 0, 8⟩
def F.SV_PULLIN_CAP_SUM (h : Nat) : Fld := ⟨0x1030028 + h * 0x40000, 8, 8⟩
def F.SV_PULLIN_TRK_CLOSE (h : Nat) : Fld := ⟨0x1030028 + h * 0x40000, 16, 8⟩
def F.SV_PULLIN_PULL_TIMEOUT (h : Nat) : Fld := ⟨0x1030028 + h * 0x40000, 24, 8⟩
def F.SV_SEEK_FINE_MAX (h : Nat) : Fld := ⟨0x103002c + h * 0x40000, 0, 8⟩
def F.SV_SEEK_SEEK_ACC (h : Nat) : Fld := ⟨0x103002c + h * 0x40000, 8, 8⟩
def F.SV_SEEK_SEEK_VMAX (h : Nat) : Fld := ⟨0x103002c + h * 0x40000, 16, 8⟩
def F.SV_SEEK_SETTLE (h : Nat) : Fld := ⟨0x103002c + h * 0x40000, 24, 8⟩
def F.SV_JUMP_JUMP_ACC (h : Nat) : Fld := ⟨0x1030030 + h * 0x40000, 0, 8⟩
def F.SV_JUMP_JUMP_SETTLE (h : Nat) : Fld := ⟨0x1030030 + h * 0x40000, 8, 8⟩
def F.SV_JUMP_LJ_KICK (h : Nat) : Fld := ⟨0x1030030 + h * 0x40000, 16, 8⟩
def F.SV_JUMP_LJ_KICK_T (h : Nat) : Fld := ⟨0x1030030 + h * 0x40000, 24, 8⟩
def F.SV_SLED_SLED_DB (h : Nat) : Fld := ⟨0x1030034 + h * 0x40000, 0, 8⟩
def F.SV_SLED_SLED_WARN (h : Nat) : Fld := ⟨0x1030034 + h * 0x40000, 8, 8⟩
def F.SV_SLED_LENS_MAX (h : Nat) : Fld := ⟨0x1030034 + h * 0x40000, 16, 8⟩
def F.SV_RETRACT_T_TRACK (h : Nat) : Fld := ⟨0x1030038 + h * 0x40000, 0, 8⟩
def F.SV_RETRACT_T_FOCUS (h : Nat) : Fld := ⟨0x1030038 + h * 0x40000, 8, 8⟩
def F.SV_SPAN_FE_SPAN (h : Nat) : Fld := ⟨0x103003c + h * 0x40000, 0, 16⟩
def F.SV_SENS_FOCUS (h : Nat) : Fld := ⟨0x1030040 + h * 0x40000, 0, 16⟩
def F.SV_SENS_TRACK (h : Nat) : Fld := ⟨0x1030040 + h * 0x40000, 16, 16⟩
def F.SV_CELL_MAP_FOCUS (h : Nat) : Fld := ⟨0x1030048 + h * 0x40000, 0, 9⟩
def F.SV_CELL_MAP_TRACK (h : Nat) : Fld := ⟨0x1030048 + h * 0x40000, 9, 9⟩
def F.SV_CELL_MAP_TILT (h : Nat) : Fld := ⟨0x1030048 + h * 0x40000, 18, 9⟩
def F.SV_CELL_MAP_SLED (h : Nat) : Fld := ⟨0x1030048 + h * 0x40000, 27, 9⟩
def F.SV_CELL_MAP_SH_FOCUS (h : Nat) : Fld := ⟨0x1030048 + h * 0x40000, 36, 9⟩
def F.SV_CELL_MAP_SH_TRACK (h : Nat) : Fld := ⟨0x1030048 + h * 0x40000, 45, 9⟩
def F.SV_CELL_MAP_SH_TILT (h : Nat) : Fld := ⟨0x1030048 + h * 0x40000, 54, 9⟩
def F.SV_CELL_MAP_SHADOWS_OK (h : Nat) : Fld := ⟨0x1030048 + h * 0x40000, 63, 1⟩
def F.SV_ERR_FE (h : Nat) : Fld := ⟨0x1030050 + h * 0x40000, 0, 16⟩
def F.SV_ERR_TE (h : Nat) : Fld := ⟨0x1030050 + h * 0x40000, 16, 16⟩
def F.SV_LENS (h : Nat) : Fld := ⟨0x1030054 + h * 0x40000, 0, 16⟩
def F.SV_SKEW (h : Nat) : Fld := ⟨0x1030058 + h * 0x40000, 0, 16⟩
def F.SV_REF_REF_0 (h : Nat) : Fld := ⟨0x103005c + h * 0x40000, 0, 16⟩
def F.SV_REF_REF_1 (h : Nat) : Fld := ⟨0x103005c + h * 0x40000, 16, 16⟩
def F.SV_SEEKS (h : Nat) : Fld := ⟨0x1030060 + h * 0x40000, 0, 32⟩
def F.SV_SEEK_FAIL (h : Nat) : Fld := ⟨0x1030064 + h * 0x40000, 0, 32⟩
def F.SV_CORRECTIVE (h : Nat) : Fld := ⟨0x1030068 + h * 0x40000, 0, 32⟩
def F.SV_LAYER_JUMPS (h : Nat) : Fld := ⟨0x103006c + h * 0x40000, 0, 32⟩
def F.SV_DEFECT_HOLDS (h : Nat) : Fld := ⟨0x1030070 + h * 0x40000, 0, 32⟩
def F.SV_FOCUS_LOSS (h : Nat) : Fld := ⟨0x1030074 + h * 0x40000, 0, 32⟩
def F.SV_OFFTRACK (h : Nat) : Fld := ⟨0x1030078 + h * 0x40000, 0, 32⟩
def F.SV_MISS (h : Nat) : Fld := ⟨0x103007c + h * 0x40000, 0, 32⟩
def F.SV_RETRACTS (h : Nat) : Fld := ⟨0x1030080 + h * 0x40000, 0, 32⟩
def F.SV_SHADOW (h : Nat) : Fld := ⟨0x1030084 + h * 0x40000, 0, 32⟩
def F.SV_SEEK_TIME_LAST (h : Nat) : Fld := ⟨0x1030088 + h * 0x40000, 0, 16⟩
def F.SV_SEEK_TIME_MAX (h : Nat) : Fld := ⟨0x1030088 + h * 0x40000, 16, 16⟩
def F.SV_LAYER_CAL_FE_PP (h i : Nat) : Fld := ⟨0x1030100 + h * 0x40000 + i * 4, 0, 16⟩
def F.SV_LAYER_CAL_SUM (h i : Nat) : Fld := ⟨0x1030100 + h * 0x40000 + i * 4, 16, 16⟩
def F.LE_TILE_CTRL_RESET (t : Nat) : Fld := ⟨0x2000000 + t * 0x100000, 0, 1⟩
def F.LE_TILE_CTRL_CLR_CNT (t : Nat) : Fld := ⟨0x2000000 + t * 0x100000, 1, 1⟩
def F.LE_TILE_STATUS_IN_SERVICE (t : Nat) : Fld := ⟨0x2000004 + t * 0x100000, 0, 1⟩
def F.LE_TILE_STATUS_CAUSE (t : Nat) : Fld := ⟨0x2000004 + t * 0x100000, 1, 3⟩
def F.LE_TILE_STATUS_CELL (t : Nat) : Fld := ⟨0x2000004 + t * 0x100000, 4, 5⟩
def F.LE_EVT (t : Nat) : Fld := ⟨0x2000008 + t * 0x100000, 0, 32⟩
def F.LE_EVT_EN (t : Nat) : Fld := ⟨0x200000c + t * 0x100000, 0, 32⟩
def F.LE_LOAD_UTIL (t : Nat) : Fld := ⟨0x2000010 + t * 0x100000, 0, 16⟩
def F.LE_LOAD_SUM (t : Nat) : Fld := ⟨0x2000010 + t * 0x100000, 16, 16⟩
def F.LE_QUEUE_NOW (t : Nat) : Fld := ⟨0x2000014 + t * 0x100000, 0, 7⟩
def F.LE_QUEUE_PEAK (t : Nat) : Fld := ⟨0x2000014 + t * 0x100000, 8, 7⟩
def F.LE_COEF_OVF (t : Nat) : Fld := ⟨0x2000018 + t * 0x100000, 0, 32⟩
def F.LE_MISMATCH (t : Nat) : Fld := ⟨0x200001c + t * 0x100000, 0, 32⟩
def F.LE_MISSES (t : Nat) : Fld := ⟨0x2000020 + t * 0x100000, 0, 32⟩
def F.LE_CELL_EVT (t : Nat) : Fld := ⟨0x2000024 + t * 0x100000, 0, 32⟩
def F.LE_NODE_CFG (t i : Nat) : Fld := ⟨0x2000100 + t * 0x100000 + i * 32, 0, 64⟩
def F.LE_NODE_DEST (t i : Nat) : Fld := ⟨0x2000108 + t * 0x100000 + i * 32, 0, 32⟩
def F.LE_NODE_OUT (t i : Nat) : Fld := ⟨0x200010c + t * 0x100000 + i * 32, 0, 32⟩
def F.LE_NODE_WIN (t i : Nat) : Fld := ⟨0x2000110 + t * 0x100000 + i * 32, 0, 64⟩
def F.CELL_CTRL_EN (n : Nat) : Fld := ⟨0x2010000 + n / 32 * 0x100000 + n % 32 * 0x1000, 0, 1⟩
def F.CELL_CTRL_CAPO_SET (n : Nat) : Fld := ⟨0x2010000 + n / 32 * 0x100000 + n % 32 * 0x1000, 1, 1⟩
def F.CELL_CTRL_CLR_STATE (n : Nat) : Fld := ⟨0x2010000 + n / 32 * 0x100000 + n % 32 * 0x1000, 2, 1⟩
def F.CELL_CTRL_CLR_CNT (n : Nat) : Fld := ⟨0x2010000 + n / 32 * 0x100000 + n % 32 * 0x1000, 3, 1⟩
def F.CELL_CTRL_MODE (n : Nat) : Fld := ⟨0x2010000 + n / 32 * 0x100000 + n % 32 * 0x1000, 4, 1⟩
def F.CELL_CTRL_RATE (n : Nat) : Fld := ⟨0x2010000 + n / 32 * 0x100000 + n % 32 * 0x1000, 5, 3⟩
def F.CELL_CTRL_PHASE (n : Nat) : Fld := ⟨0x2010000 + n / 32 * 0x100000 + n % 32 * 0x1000, 8, 6⟩
def F.CELL_CTRL_NBQ (n : Nat) : Fld := ⟨0x2010000 + n / 32 * 0x100000 + n % 32 * 0x1000, 14, 4⟩
def F.CELL_CTRL_CAPO_CLR (n : Nat) : Fld := ⟨0x2010000 + n / 32 * 0x100000 + n % 32 * 0x1000, 18, 1⟩
def F.CELL_STATUS_IN_SERVICE (n : Nat) : Fld := ⟨0x2010004 + n / 32 * 0x100000 + n % 32 * 0x1000, 0, 1⟩
def F.CELL_STATUS_CAPO_ACTIVE (n : Nat) : Fld := ⟨0x2010004 + n / 32 * 0x100000 + n % 32 * 0x1000, 1, 1⟩
def F.CELL_STATUS_HELD (n : Nat) : Fld := ⟨0x2010004 + n / 32 * 0x100000 + n % 32 * 0x1000, 2, 1⟩
def F.CELL_STATUS_INT_SAT (n : Nat) : Fld := ⟨0x2010004 + n / 32 * 0x100000 + n % 32 * 0x1000, 3, 1⟩
def F.CELL_STATUS_OUT_SAT (n : Nat) : Fld := ⟨0x2010004 + n / 32 * 0x100000 + n % 32 * 0x1000, 4, 1⟩
def F.CELL_STATUS_ROLE (n : Nat) : Fld := ⟨0x2010004 + n / 32 * 0x100000 + n % 32 * 0x1000, 5, 2⟩
def F.CELL_STATUS_NODE_LOSER (n : Nat) : Fld := ⟨0x2010004 + n / 32 * 0x100000 + n % 32 * 0x1000, 7, 1⟩
def F.CELL_STATUS_PENDING (n : Nat) : Fld := ⟨0x2010004 + n / 32 * 0x100000 + n % 32 * 0x1000, 8, 7⟩
def F.CELL_STATUS_PARTNER (n : Nat) : Fld := ⟨0x2010004 + n / 32 * 0x100000 + n % 32 * 0x1000, 15, 9⟩
def F.CELL_STATUS_SET_PEND (n : Nat) : Fld := ⟨0x2010004 + n / 32 * 0x100000 + n % 32 * 0x1000, 24, 1⟩
def F.CELL_STATUS_CLR_PEND (n : Nat) : Fld := ⟨0x2010004 + n / 32 * 0x100000 + n % 32 * 0x1000, 25, 1⟩
def F.CELL_FLAGS (n : Nat) : Fld := ⟨0x2010008 + n / 32 * 0x100000 + n % 32 * 0x1000, 0, 32⟩
def F.CELL_FLAG_EN (n : Nat) : Fld := ⟨0x201000c + n / 32 * 0x100000 + n % 32 * 0x1000, 0, 32⟩
def F.CELL_SRC (n : Nat) : Fld := ⟨0x2010010 + n / 32 * 0x100000 + n % 32 * 0x1000, 0, 16⟩
def F.CELL_SP_SRC (n : Nat) : Fld := ⟨0x2010014 + n / 32 * 0x100000 + n % 32 * 0x1000, 0, 16⟩
def F.CELL_DEADLINE (n : Nat) : Fld := ⟨0x2010018 + n / 32 * 0x100000 + n % 32 * 0x1000, 0, 16⟩
def F.CELL_DEST (n : Nat) : Fld := ⟨0x201001c + n / 32 * 0x100000 + n % 32 * 0x1000, 0, 16⟩
def F.CELL_SETPOINT (n : Nat) : Fld := ⟨0x2010040 + n / 32 * 0x100000 + n % 32 * 0x1000, 0, 32⟩
def F.CELL_OUT_MIN (n : Nat) : Fld := ⟨0x2010044 + n / 32 * 0x100000 + n % 32 * 0x1000, 0, 32⟩
def F.CELL_OUT_MAX (n : Nat) : Fld := ⟨0x2010048 + n / 32 * 0x100000 + n % 32 * 0x1000, 0, 32⟩
def F.CELL_KP (n : Nat) : Fld := ⟨0x201004c + n / 32 * 0x100000 + n % 32 * 0x1000, 0, 32⟩
def F.CELL_KI (n : Nat) : Fld := ⟨0x2010050 + n / 32 * 0x100000 + n % 32 * 0x1000, 0, 32⟩
def F.CELL_KD (n : Nat) : Fld := ⟨0x2010054 + n / 32 * 0x100000 + n % 32 * 0x1000, 0, 32⟩
def F.CELL_KF (n : Nat) : Fld := ⟨0x2010058 + n / 32 * 0x100000 + n % 32 * 0x1000, 0, 32⟩
def F.CELL_KB (n : Nat) : Fld := ⟨0x201005c + n / 32 * 0x100000 + n % 32 * 0x1000, 0, 32⟩
def F.CELL_GAIN_SHIFT_KP_SH (n : Nat) : Fld := ⟨0x2010060 + n / 32 * 0x100000 + n % 32 * 0x1000, 0, 4⟩
def F.CELL_GAIN_SHIFT_KI_SH (n : Nat) : Fld := ⟨0x2010060 + n / 32 * 0x100000 + n % 32 * 0x1000, 4, 4⟩
def F.CELL_GAIN_SHIFT_KD_SH (n : Nat) : Fld := ⟨0x2010060 + n / 32 * 0x100000 + n % 32 * 0x1000, 8, 4⟩
def F.CELL_BQ (n i : Nat) : Fld := ⟨0x2010100 + n / 32 * 0x100000 + n % 32 * 0x1000 + i * 4, 0, 32⟩
def F.CELL_S1 (n i : Nat) : Fld := ⟨0x2010200 + n / 32 * 0x100000 + n % 32 * 0x1000 + i * 16, 0, 64⟩
def F.CELL_S2 (n i : Nat) : Fld := ⟨0x2010208 + n / 32 * 0x100000 + n % 32 * 0x1000 + i * 16, 0, 64⟩
def F.CELL_INT (n : Nat) : Fld := ⟨0x2010280 + n / 32 * 0x100000 + n % 32 * 0x1000, 0, 64⟩
def F.CELL_DER (n : Nat) : Fld := ⟨0x2010288 + n / 32 * 0x100000 + n % 32 * 0x1000, 0, 64⟩
def F.CELL_VPREV (n : Nat) : Fld := ⟨0x2010290 + n / 32 * 0x100000 + n % 32 * 0x1000, 0, 64⟩
def F.CELL_UNSAT (n : Nat) : Fld := ⟨0x2010298 + n / 32 * 0x100000 + n % 32 * 0x1000, 0, 64⟩
def F.CELL_OUT (n : Nat) : Fld := ⟨0x20102a0 + n / 32 * 0x100000 + n % 32 * 0x1000, 0, 32⟩
def F.CELL_EVALS (n : Nat) : Fld := ⟨0x2010300 + n / 32 * 0x100000 + n % 32 * 0x1000, 0, 64⟩
def F.CELL_MISS (n : Nat) : Fld := ⟨0x2010308 + n / 32 * 0x100000 + n % 32 * 0x1000, 0, 32⟩
def F.CELL_HELD (n : Nat) : Fld := ⟨0x201030c + n / 32 * 0x100000 + n % 32 * 0x1000, 0, 32⟩
def F.CELL_IN_FORCE (n i : Nat) : Fld := ⟨0x2010440 + n / 32 * 0x100000 + n % 32 * 0x1000 + i * 4, 0, 32⟩
def F.MOT_CTRL_EN (b : Nat) : Fld := ⟨0x3004000 + b * 0x10000, 0, 1⟩
def F.MOT_CTRL_CLR_CNT (b : Nat) : Fld := ⟨0x3004000 + b * 0x10000, 1, 1⟩
def F.MOT_CTRL_WOB_CHECK (b : Nat) : Fld := ⟨0x3004000 + b * 0x10000, 2, 1⟩
def F.MOT_STATUS_STATE (b : Nat) : Fld := ⟨0x3004004 + b * 0x10000, 0, 4⟩
def F.MOT_STATUS_SPEED_LOCK (b : Nat) : Fld := ⟨0x3004004 + b * 0x10000, 4, 1⟩
def F.MOT_STATUS_OBS_LOCK (b : Nat) : Fld := ⟨0x3004004 + b * 0x10000, 5, 1⟩
def F.MOT_STATUS_WOB_VALID (b : Nat) : Fld := ⟨0x3004004 + b * 0x10000, 6, 1⟩
def F.MOT_STATUS_REGEN_BLOCKED (b : Nat) : Fld := ⟨0x3004004 + b * 0x10000, 7, 1⟩
def F.MOT_STATUS_FAULT_CAUSE (b : Nat) : Fld := ⟨0x3004004 + b * 0x10000, 8, 4⟩
def F.MOT_STATUS_LOSS_CAUSE (b : Nat) : Fld := ⟨0x3004004 + b * 0x10000, 12, 3⟩
def F.MOT_EVT (b : Nat) : Fld := ⟨0x3004008 + b * 0x10000, 0, 32⟩
def F.MOT_EVT_EN (b : Nat) : Fld := ⟨0x300400c + b * 0x10000, 0, 32⟩
def F.MOT_CMD_TARGET (b : Nat) : Fld := ⟨0x3004010 + b * 0x10000, 0, 16⟩
def F.MOT_CMD_OP (b : Nat) : Fld := ⟨0x3004010 + b * 0x10000, 16, 3⟩
def F.MOT_CMD_GO (b : Nat) : Fld := ⟨0x3004010 + b * 0x10000, 31, 1⟩
def F.MOT_CMD_STATUS_BUSY (b : Nat) : Fld := ⟨0x3004014 + b * 0x10000, 0, 1⟩
def F.MOT_CMD_STATUS_OP (b : Nat) : Fld := ⟨0x3004014 + b * 0x10000, 1, 3⟩
def F.MOT_CMD_STATUS_RESULT (b : Nat) : Fld := ⟨0x3004014 + b * 0x10000, 4, 4⟩
def F.MOT_RAMP_ACCEL (b : Nat) : Fld := ⟨0x3004018 + b * 0x10000, 0, 16⟩
def F.MOT_RAMP_DECEL (b : Nat) : Fld := ⟨0x3004018 + b * 0x10000, 16, 16⟩
def F.MOT_MOTOR_P (b : Nat) : Fld := ⟨0x300401c + b * 0x10000, 0, 4⟩
def F.MOT_MOTOR_R (b : Nat) : Fld := ⟨0x300401c + b * 0x10000, 4, 12⟩
def F.MOT_MOTOR_L (b : Nat) : Fld := ⟨0x300401c + b * 0x10000, 16, 16⟩
def F.MOT_KE (b : Nat) : Fld := ⟨0x3004020 + b * 0x10000, 0, 16⟩
def F.MOT_KE_MAX_RPM (b : Nat) : Fld := ⟨0x3004020 + b * 0x10000, 16, 16⟩
def F.MOT_CUR_KP (b : Nat) : Fld := ⟨0x3004024 + b * 0x10000, 0, 32⟩
def F.MOT_CUR_KI (b : Nat) : Fld := ⟨0x3004028 + b * 0x10000, 0, 32⟩
def F.MOT_SHUNT_SETTLE (b : Nat) : Fld := ⟨0x300402c + b * 0x10000, 0, 12⟩
def F.MOT_SHUNT_WIN_MIN (b : Nat) : Fld := ⟨0x300402c + b * 0x10000, 16, 12⟩
def F.MOT_START_I_ALIGN (b : Nat) : Fld := ⟨0x3004030 + b * 0x10000, 0, 12⟩
def F.MOT_START_I_START (b : Nat) : Fld := ⟨0x3004030 + b * 0x10000, 12, 12⟩
def F.MOT_START_T_ALIGN (b : Nat) : Fld := ⟨0x3004030 + b * 0x10000, 24, 8⟩
def F.MOT_HANDOVER_SPEED (b : Nat) : Fld := ⟨0x3004034 + b * 0x10000, 0, 16⟩
def F.MOT_HANDOVER_RATE (b : Nat) : Fld := ⟨0x3004034 + b * 0x10000, 16, 16⟩
def F.MOT_OBS_RES_THR (b : Nat) : Fld := ⟨0x3004038 + b * 0x10000, 0, 16⟩
def F.MOT_OBS_UNLOCK (b : Nat) : Fld := ⟨0x3004038 + b * 0x10000, 16, 8⟩
def F.MOT_OBS_WOB_TOL (b : Nat) : Fld := ⟨0x3004038 + b * 0x10000, 24, 8⟩
def F.MOT_CATCH_CATCH_MAX (b : Nat) : Fld := ⟨0x300403c + b * 0x10000, 0, 8⟩
def F.MOT_CATCH_CONFIRM (b : Nat) : Fld := ⟨0x300403c + b * 0x10000, 8, 8⟩
def F.MOT_CATCH_COAST_MAX (b : Nat) : Fld := ⟨0x300403c + b * 0x10000, 16, 8⟩
def F.MOT_CATCH_PRED_MAX (b : Nat) : Fld := ⟨0x300403c + b * 0x10000, 24, 8⟩
def F.MOT_BRAKE_BRAKE_RPM (b : Nat) : Fld := ⟨0x3004040 + b * 0x10000, 0, 16⟩
def F.MOT_BRAKE_I_MAX (b : Nat) : Fld := ⟨0x3004040 + b * 0x10000, 16, 16⟩
def F.MOT_SPEED (b : Nat) : Fld := ⟨0x3004044 + b * 0x10000, 0, 32⟩
def F.MOT_WOB_SPEED (b : Nat) : Fld := ⟨0x3004048 + b * 0x10000, 0, 32⟩
def F.MOT_IDQ_D (b : Nat) : Fld := ⟨0x300404c + b * 0x10000, 0, 16⟩
def F.MOT_IDQ_Q (b : Nat) : Fld := ⟨0x300404c + b * 0x10000, 16, 16⟩
def F.MOT_ANGLE (b : Nat) : Fld := ⟨0x3004050 + b * 0x10000, 0, 16⟩
def F.MOT_ANGLE_ERR (b : Nat) : Fld := ⟨0x3004050 + b * 0x10000, 16, 16⟩
def F.MOT_RESID_LAST (b : Nat) : Fld := ⟨0x3004054 + b * 0x10000, 0, 16⟩
def F.MOT_RESID_PEAK (b : Nat) : Fld := ⟨0x3004054 + b * 0x10000, 16, 16⟩
def F.MOT_VBUS (b : Nat) : Fld := ⟨0x3004058 + b * 0x10000, 0, 16⟩
def F.MOT_NTC0 (b : Nat) : Fld := ⟨0x300405c + b * 0x10000, 0, 16⟩
def F.MOT_NTC1 (b : Nat) : Fld := ⟨0x300405c + b * 0x10000, 16, 16⟩
def F.MOT_OBS_LOSS (b : Nat) : Fld := ⟨0x3004080 + b * 0x10000, 0, 32⟩
def F.MOT_RECAPTURE (b : Nat) : Fld := ⟨0x3004084 + b * 0x10000, 0, 32⟩
def F.MOT_CATCH_FAIL (b : Nat) : Fld := ⟨0x3004088 + b * 0x10000, 0, 32⟩
def F.MOT_PREDICTED (b : Nat) : Fld := ⟨0x300408c + b * 0x10000, 0, 32⟩
def F.MOT_SHIFTED (b : Nat) : Fld := ⟨0x3004090 + b * 0x10000, 0, 32⟩
def F.MOT_STARTS_OK (b : Nat) : Fld := ⟨0x3004094 + b * 0x10000, 0, 16⟩
def F.MOT_STARTS_FAIL (b : Nat) : Fld := ⟨0x3004094 + b * 0x10000, 16, 16⟩
def F.CMOT_CTRL_EN (c : Nat) : Fld := ⟨0x3204000 + c * 0x10000, 0, 1⟩
def F.CMOT_CTRL_CLR_CNT (c : Nat) : Fld := ⟨0x3204000 + c * 0x10000, 1, 1⟩
def F.CMOT_CTRL_CHOP_FAULT_CLR (c : Nat) : Fld := ⟨0x3204000 + c * 0x10000, 2, 1⟩
def F.CMOT_CTRL_OV_CLR (c : Nat) : Fld := ⟨0x3204000 + c * 0x10000, 3, 1⟩
def F.CMOT_STATUS_STATE (c : Nat) : Fld := ⟨0x3204004 + c * 0x10000, 0, 3⟩
def F.CMOT_STATUS_HOMED (c : Nat) : Fld := ⟨0x3204004 + c * 0x10000, 3, 1⟩
def F.CMOT_STATUS_CHOP_ON (c : Nat) : Fld := ⟨0x3204004 + c * 0x10000, 4, 1⟩
def F.CMOT_STATUS_CHOP_FAULT (c : Nat) : Fld := ⟨0x3204004 + c * 0x10000, 5, 1⟩
def F.CMOT_STATUS_OV_LATCHED (c : Nat) : Fld := ⟨0x3204004 + c * 0x10000, 6, 1⟩
def F.CMOT_STATUS_REVERSAL_PENDING (c : Nat) : Fld := ⟨0x3204004 + c * 0x10000, 7, 1⟩
def F.CMOT_STATUS_SLOT (c : Nat) : Fld := ⟨0x3204004 + c * 0x10000, 8, 9⟩
def F.CMOT_EVT (c : Nat) : Fld := ⟨0x3204008 + c * 0x10000, 0, 32⟩
def F.CMOT_EVT_EN (c : Nat) : Fld := ⟨0x320400c + c * 0x10000, 0, 32⟩
def F.CMOT_CMD_TARGET (c : Nat) : Fld := ⟨0x3204010 + c * 0x10000, 0, 9⟩
def F.CMOT_CMD_DIR (c : Nat) : Fld := ⟨0x3204010 + c * 0x10000, 9, 2⟩
def F.CMOT_CMD_OP (c : Nat) : Fld := ⟨0x3204010 + c * 0x10000, 11, 3⟩
def F.CMOT_CMD_GO (c : Nat) : Fld := ⟨0x3204010 + c * 0x10000, 31, 1⟩
def F.CMOT_CMD_STATUS_BUSY (c : Nat) : Fld := ⟨0x3204014 + c * 0x10000, 0, 1⟩
def F.CMOT_CMD_STATUS_OP (c : Nat) : Fld := ⟨0x3204014 + c * 0x10000, 1, 3⟩
def F.CMOT_CMD_STATUS_RESULT (c : Nat) : Fld := ⟨0x3204014 + c * 0x10000, 4, 4⟩
def F.CMOT_PROFILE_VMAX (c : Nat) : Fld := ⟨0x3204018 + c * 0x10000, 0, 16⟩
def F.CMOT_PROFILE_ACC (c : Nat) : Fld := ⟨0x3204018 + c * 0x10000, 16, 16⟩
def F.CMOT_ENC_COUNTS (c : Nat) : Fld := ⟨0x320401c + c * 0x10000, 0, 24⟩
def F.CMOT_ENC_POLES (c : Nat) : Fld := ⟨0x320401c + c * 0x10000, 24, 8⟩
def F.CMOT_CUR_KP (c : Nat) : Fld := ⟨0x3204020 + c * 0x10000, 0, 32⟩
def F.CMOT_CUR_KI (c : Nat) : Fld := ⟨0x3204024 + c * 0x10000, 0, 32⟩
def F.CMOT_POS (c : Nat) : Fld := ⟨0x3204028 + c * 0x10000, 0, 32⟩
def F.CMOT_SPEED (c : Nat) : Fld := ⟨0x320402c + c * 0x10000, 0, 32⟩
def F.CMOT_IDQ_D (c : Nat) : Fld := ⟨0x3204030 + c * 0x10000, 0, 16⟩
def F.CMOT_IDQ_Q (c : Nat) : Fld := ⟨0x3204030 + c * 0x10000, 16, 16⟩
def F.CMOT_HOME_OFS (c : Nat) : Fld := ⟨0x3204034 + c * 0x10000, 0, 32⟩
def F.CMOT_BUS_CTRL_CHOP_ON (c : Nat) : Fld := ⟨0x3204040 + c * 0x10000, 0, 8⟩
def F.CMOT_BUS_CTRL_CHOP_OFF (c : Nat) : Fld := ⟨0x3204040 + c * 0x10000, 8, 8⟩
def F.CMOT_BUS_CTRL_OV_OFF (c : Nat) : Fld := ⟨0x3204040 + c * 0x10000, 16, 8⟩
def F.CMOT_BUS_CTRL_CHOP_I_MIN (c : Nat) : Fld := ⟨0x3204040 + c * 0x10000, 24, 8⟩
def F.CMOT_REGEN_MAX (c : Nat) : Fld := ⟨0x3204044 + c * 0x10000, 0, 16⟩
def F.CMOT_BUS_STATUS_V (c : Nat) : Fld := ⟨0x3204048 + c * 0x10000, 0, 16⟩
def F.CMOT_BUS_STATUS_I (c : Nat) : Fld := ⟨0x3204048 + c * 0x10000, 16, 16⟩
def F.CMOT_BUS_PEAK (c : Nat) : Fld := ⟨0x320404c + c * 0x10000, 0, 16⟩
def F.CMOT_MOVES (c : Nat) : Fld := ⟨0x3204080 + c * 0x10000, 0, 32⟩
def F.CMOT_BUS_EVENTS_CHOP (c : Nat) : Fld := ⟨0x3204084 + c * 0x10000, 0, 16⟩
def F.CMOT_BUS_EVENTS_OV (c : Nat) : Fld := ⟨0x3204084 + c * 0x10000, 16, 16⟩
def F.MOV_CTRL_CLR_CNT (b : Nat) : Fld := ⟨0x3008000 + b * 0x10000, 0, 1⟩
def F.MOV_INPUTS_LEVELS (b : Nat) : Fld := ⟨0x3008004 + b * 0x10000, 0, 7⟩
def F.MOV_INPUTS_CHATTER (b : Nat) : Fld := ⟨0x3008004 + b * 0x10000, 8, 7⟩
def F.MOV_INPUTS_STUCK (b : Nat) : Fld := ⟨0x3008004 + b * 0x10000, 16, 7⟩
def F.MOV_EVT (b : Nat) : Fld := ⟨0x3008008 + b * 0x10000, 0, 32⟩
def F.MOV_EVT_EN (b : Nat) : Fld := ⟨0x300800c + b * 0x10000, 0, 32⟩
def F.MOV_DEBOUNCE_DB (b : Nat) : Fld := ⟨0x3008010 + b * 0x10000, 0, 8⟩
def F.MOV_DEBOUNCE_CHATTER_LIM (b : Nat) : Fld := ⟨0x3008010 + b * 0x10000, 8, 8⟩
def F.MOV_DEBOUNCE_CHATTER_CLR (b : Nat) : Fld := ⟨0x3008010 + b * 0x10000, 16, 8⟩
def F.MOV_LIMIT_CFG (b : Nat) : Fld := ⟨0x3008014 + b * 0x10000, 0, 32⟩
def F.MOV_CHOP_T_OFF (b : Nat) : Fld := ⟨0x3008018 + b * 0x10000, 0, 8⟩
def F.MOV_CHOP_FAST_RISE (b : Nat) : Fld := ⟨0x3008018 + b * 0x10000, 8, 8⟩
def F.MOV_CHOP_FAST_FALL (b : Nat) : Fld := ⟨0x3008018 + b * 0x10000, 16, 8⟩
def F.MOV_CHOP_T_BLANK (b : Nat) : Fld := ⟨0x3008018 + b * 0x10000, 24, 4⟩
def F.MOV_CHOP_T_ON_MAX (b : Nat) : Fld := ⟨0x3008018 + b * 0x10000, 28, 4⟩
def F.MOV_AX_CTRL_EN (b a : Nat) : Fld := ⟨0x3008100 + b * 0x10000 + a * 0x80, 0, 1⟩
def F.MOV_AX_STATUS_STATE (b a : Nat) : Fld := ⟨0x3008104 + b * 0x10000 + a * 0x80, 0, 3⟩
def F.MOV_AX_STATUS_POS_VALID (b a : Nat) : Fld := ⟨0x3008104 + b * 0x10000 + a * 0x80, 3, 1⟩
def F.MOV_AX_STATUS_BUSY (b a : Nat) : Fld := ⟨0x3008104 + b * 0x10000 + a * 0x80, 4, 1⟩
def F.MOV_AX_STATUS_RESULT (b a : Nat) : Fld := ⟨0x3008104 + b * 0x10000 + a * 0x80, 5, 3⟩
def F.MOV_AX_STATUS_HOLDING (b a : Nat) : Fld := ⟨0x3008104 + b * 0x10000 + a * 0x80, 8, 1⟩
def F.MOV_AX_TARGET (b a : Nat) : Fld := ⟨0x3008108 + b * 0x10000 + a * 0x80, 0, 32⟩
def F.MOV_AX_CMD_OP (b a : Nat) : Fld := ⟨0x300810c + b * 0x10000 + a * 0x80, 0, 3⟩
def F.MOV_AX_CMD_GO (b a : Nat) : Fld := ⟨0x300810c + b * 0x10000 + a * 0x80, 31, 1⟩
def F.MOV_AX_VMAX (b a : Nat) : Fld := ⟨0x3008110 + b * 0x10000 + a * 0x80, 0, 24⟩
def F.MOV_AX_ACC_ACC (b a : Nat) : Fld := ⟨0x3008114 + b * 0x10000 + a * 0x80, 0, 16⟩
def F.MOV_AX_ACC_DEC (b a : Nat) : Fld := ⟨0x3008114 + b * 0x10000 + a * 0x80, 16, 16⟩
def F.MOV_AX_DEC_MAX (b a : Nat) : Fld := ⟨0x3008118 + b * 0x10000 + a * 0x80, 0, 16⟩
def F.MOV_AX_SOFT_MIN (b a : Nat) : Fld := ⟨0x300811c + b * 0x10000 + a * 0x80, 0, 32⟩
def F.MOV_AX_SOFT_MAX (b a : Nat) : Fld := ⟨0x3008120 + b * 0x10000 + a * 0x80, 0, 32⟩
def F.MOV_AX_CURRENT_I_RUN (b a : Nat) : Fld := ⟨0x3008124 + b * 0x10000 + a * 0x80, 0, 12⟩
def F.MOV_AX_CURRENT_I_HOLD (b a : Nat) : Fld := ⟨0x3008124 + b * 0x10000 + a * 0x80, 12, 12⟩
def F.MOV_AX_CURRENT_HOLD_DELAY (b a : Nat) : Fld := ⟨0x3008124 + b * 0x10000 + a * 0x80, 24, 8⟩
def F.MOV_AX_HOME_V (b a : Nat) : Fld := ⟨0x3008128 + b * 0x10000 + a * 0x80, 0, 24⟩
def F.MOV_AX_STALL_WIN (b a : Nat) : Fld := ⟨0x300812c + b * 0x10000 + a * 0x80, 0, 12⟩
def F.MOV_AX_STALL_PERIODS (b a : Nat) : Fld := ⟨0x300812c + b * 0x10000 + a * 0x80, 16, 4⟩
def F.MOV_AX_SCALE_STEPS (b a : Nat) : Fld := ⟨0x3008130 + b * 0x10000 + a * 0x80, 0, 16⟩
def F.MOV_AX_SCALE_ENC (b a : Nat) : Fld := ⟨0x3008130 + b * 0x10000 + a * 0x80, 16, 16⟩
def F.MOV_AX_ORIGIN (b a : Nat) : Fld := ⟨0x3008134 + b * 0x10000 + a * 0x80, 0, 32⟩
def F.MOV_AX_POS (b a : Nat) : Fld := ⟨0x3008138 + b * 0x10000 + a * 0x80, 0, 32⟩
def F.MOV_AX_ENC_POS (b a : Nat) : Fld := ⟨0x300813c + b * 0x10000 + a * 0x80, 0, 32⟩
def F.MOV_AX_SPEED (b a : Nat) : Fld := ⟨0x3008140 + b * 0x10000 + a * 0x80, 0, 32⟩
def F.MOV_AX_MOVES (b a : Nat) : Fld := ⟨0x3008144 + b * 0x10000 + a * 0x80, 0, 32⟩
def F.MOV_AX_STALLS (b a : Nat) : Fld := ⟨0x3008148 + b * 0x10000 + a * 0x80, 0, 32⟩
def F.MOV_AX_LIMIT_STOPS (b a : Nat) : Fld := ⟨0x300814c + b * 0x10000 + a * 0x80, 0, 32⟩
def F.MOV_AX_TRIPS (b a : Nat) : Fld := ⟨0x3008150 + b * 0x10000 + a * 0x80, 0, 32⟩
def F.MOV_AX_MAX_ON (b a : Nat) : Fld := ⟨0x3008154 + b * 0x10000 + a * 0x80, 0, 32⟩
def F.ARB_CTRL_EN : Fld := ⟨0x4000000, 0, 1⟩
def F.ARB_CTRL_CLR_CNT : Fld := ⟨0x4000000, 1, 1⟩
def F.ARB_CTRL_CONS_EN : Fld := ⟨0x4000000, 2, 1⟩
def F.ARB_STATUS_RUNNING : Fld := ⟨0x4000004, 0, 1⟩
def F.ARB_STATUS_FRAG_HIGH : Fld := ⟨0x4000004, 1, 1⟩
def F.ARB_STATUS_FRAG_FULL : Fld := ⟨0x4000004, 2, 1⟩
def F.ARB_STATUS_OPEN_SETS : Fld := ⟨0x4000004, 16, 16⟩
def F.ARB_EVT : Fld := ⟨0x4000008, 0, 32⟩
def F.ARB_EVT_EN : Fld := ⟨0x400000c, 0, 32⟩
def F.ARB_WSTAMP : Fld := ⟨0x4000010, 0, 64⟩
def F.ARB_EPOCH : Fld := ⟨0x4000018, 0, 64⟩
def F.ARB_FRAG_POOL : Fld := ⟨0x4000020, 0, 27⟩
def F.ARB_FRAG_USED : Fld := ⟨0x4000024, 0, 27⟩
def F.ARB_FRAG_MARK_LOW : Fld := ⟨0x4000028, 0, 8⟩
def F.ARB_FRAG_MARK_HIGH : Fld := ⟨0x4000028, 8, 8⟩
def F.ARB_SCHED_MOUNT_HOLD_MAX : Fld := ⟨0x400002c, 0, 8⟩
def F.ARB_SCHED_WRITE_HOLD_MAX : Fld := ⟨0x400002c, 8, 8⟩
def F.ARB_SCHED_WRITE_MIN : Fld := ⟨0x400002c, 16, 8⟩
def F.ARB_SCHED_PAD_RESERVE : Fld := ⟨0x400002c, 24, 8⟩
def F.ARB_CONS_CONS_LIVE : Fld := ⟨0x4000030, 0, 8⟩
def F.ARB_CONS_CONS_MAX : Fld := ⟨0x4000030, 8, 4⟩
def F.ARB_CONS_DEGRADE_LIM : Fld := ⟨0x4000030, 12, 8⟩
def F.ARB_CONS_MOUNT_WARN : Fld := ⟨0x4000030, 20, 12⟩
def F.ARB_CKPT_ROWS : Fld := ⟨0x4000034, 0, 16⟩
def F.ARB_ROWS_SEALED : Fld := ⟨0x4000040, 0, 64⟩
def F.ARB_PAD_ROWS : Fld := ⟨0x4000048, 0, 64⟩
def F.ARB_PAD_BLOCKS : Fld := ⟨0x4000050, 0, 64⟩
def F.ARB_SEALS_FUA : Fld := ⟨0x4000058, 0, 32⟩
def F.ARB_SEALS_PRESSURE : Fld := ⟨0x400005c, 0, 32⟩
def F.ARB_DROPPED : Fld := ⟨0x4000060, 0, 32⟩
def F.ARB_FRAG_WAIT : Fld := ⟨0x4000064, 0, 32⟩
def F.ARB_CELL_REASSIGN : Fld := ⟨0x4000068, 0, 32⟩
def F.ARB_STREAM_DOMAIN (i : Nat) : Fld := ⟨0x4000100 + i * 4, 0, 8⟩
def F.ARB_STREAM_SLOT (i : Nat) : Fld := ⟨0x4000100 + i * 4, 8, 3⟩
def F.ARB_AR_CFG_PARENT (a : Nat) : Fld := ⟨0x4010000 + a * 0x100, 0, 9⟩
def F.ARB_AR_CFG_KIND (a : Nat) : Fld := ⟨0x4010000 + a * 0x100, 9, 2⟩
def F.ARB_AR_CFG_DOMAIN (a : Nat) : Fld := ⟨0x4010000 + a * 0x100, 11, 1⟩
def F.ARB_AR_CFG_K (a : Nat) : Fld := ⟨0x4010000 + a * 0x100, 12, 5⟩
def F.ARB_AR_CFG_OPEN_MAX (a : Nat) : Fld := ⟨0x4010000 + a * 0x100, 17, 3⟩
def F.ARB_AR_CFG_DEPTH (a : Nat) : Fld := ⟨0x4010000 + a * 0x100, 20, 4⟩
def F.ARB_AR_STATUS_HEALTH (a : Nat) : Fld := ⟨0x4010004 + a * 0x100, 0, 2⟩
def F.ARB_AR_STATUS_PSTATE (a : Nat) : Fld := ⟨0x4010004 + a * 0x100, 2, 2⟩
def F.ARB_AR_STATUS_REBUILD (a : Nat) : Fld := ⟨0x4010004 + a * 0x100, 4, 1⟩
def F.ARB_AR_STATUS_CONSOLIDATING (a : Nat) : Fld := ⟨0x4010004 + a * 0x100, 5, 1⟩
def F.ARB_AR_STATUS_OPEN_SETS (a : Nat) : Fld := ⟨0x4010004 + a * 0x100, 8, 8⟩
def F.ARB_AR_STATUS_BLANK (a : Nat) : Fld := ⟨0x4010004 + a * 0x100, 16, 12⟩
def F.ARB_AR_EVT (a : Nat) : Fld := ⟨0x4010008 + a * 0x100, 0, 32⟩
def F.ARB_AR_EVT_EN (a : Nat) : Fld := ⟨0x401000c + a * 0x100, 0, 32⟩
def F.ARB_AR_CAP_TOTAL (a : Nat) : Fld := ⟨0x4010010 + a * 0x100, 0, 64⟩
def F.ARB_AR_CAP_LIVE (a : Nat) : Fld := ⟨0x4010018 + a * 0x100, 0, 64⟩
def F.ARB_AR_CREDIT (a : Nat) : Fld := ⟨0x4010020 + a * 0x100, 0, 16⟩
def F.ARB_AR_SPARE_POOL (a : Nat) : Fld := ⟨0x4010024 + a * 0x100, 0, 8⟩
def F.ARB_AR_AVOID (a : Nat) : Fld := ⟨0x4010028 + a * 0x100, 0, 32⟩
def F.ARB_AR_CTRL_DRAIN (a : Nat) : Fld := ⟨0x401002c + a * 0x100, 0, 1⟩
def F.ARB_AR_CTRL_OFFLINE (a : Nat) : Fld := ⟨0x401002c + a * 0x100, 1, 1⟩
def F.ARB_AR_MOUNTS (a : Nat) : Fld := ⟨0x4010030 + a * 0x100, 0, 64⟩
def F.ARB_AR_ROWS (a : Nat) : Fld := ⟨0x4010038 + a * 0x100, 0, 64⟩
def F.ARB_AR_UNAVAIL (a : Nat) : Fld := ⟨0x4010040 + a * 0x100, 0, 64⟩
def F.PAR_CTRL_EN : Fld := ⟨0x4800000, 0, 1⟩
def F.PAR_CTRL_CLR_CNT : Fld := ⟨0x4800000, 1, 1⟩
def F.PAR_CTRL_DEGR_REBUILD : Fld := ⟨0x4800000, 2, 1⟩
def F.PAR_CTRL_EVACUATE_EN : Fld := ⟨0x4800000, 3, 1⟩
def F.PAR_CTRL_RESHAPE_AUTO : Fld := ⟨0x4800000, 4, 1⟩
def F.PAR_STATUS_RB : Fld := ⟨0x4800004, 0, 5⟩
def F.PAR_STATUS_RS : Fld := ⟨0x4800004, 8, 3⟩
def F.PAR_EVT : Fld := ⟨0x4800008, 0, 32⟩
def F.PAR_EVT_EN : Fld := ⟨0x480000c, 0, 32⟩
def F.PAR_CMD_SET : Fld := ⟨0x4800010, 0, 16⟩
def F.PAR_CMD_MEMBER : Fld := ⟨0x4800010, 16, 5⟩
def F.PAR_CMD_OP : Fld := ⟨0x4800010, 21, 3⟩
def F.PAR_CMD_CONTEXT : Fld := ⟨0x4800010, 24, 4⟩
def F.PAR_CMD_GO : Fld := ⟨0x4800010, 31, 1⟩
def F.PAR_CMD_STATUS_BUSY : Fld := ⟨0x4800014, 0, 1⟩
def F.PAR_CMD_STATUS_OP : Fld := ⟨0x4800014, 1, 3⟩
def F.PAR_CMD_STATUS_RESULT : Fld := ⟨0x4800014, 4, 4⟩
def F.PAR_CMD_STATUS_CTX : Fld := ⟨0x4800014, 8, 4⟩
def F.PAR_RB_CFG_RB_FLOOR : Fld := ⟨0x4800018, 0, 16⟩
def F.PAR_RB_CFG_RB_DOMAIN : Fld := ⟨0x4800018, 16, 4⟩
def F.PAR_RS_CKPT_CFG : Fld := ⟨0x480001c, 0, 16⟩
def F.PAR_RECON_SECTORS : Fld := ⟨0x4800040, 0, 64⟩
def F.PAR_CHECK_FAIL : Fld := ⟨0x4800048, 0, 32⟩
def F.PAR_ROWS_LOST : Fld := ⟨0x480004c, 0, 32⟩
def F.PAR_SALVAGED : Fld := ⟨0x4800050, 0, 64⟩
def F.PAR_SETS_LOST : Fld := ⟨0x4800058, 0, 32⟩
def F.PAR_MEMBERS_FAILED : Fld := ⟨0x480005c, 0, 32⟩
def F.PAR_SPARES_TAKEN : Fld := ⟨0x4800060, 0, 32⟩
def F.PAR_REBUILDS_DONE : Fld := ⟨0x4800064, 0, 32⟩
def F.PAR_EVACUATIONS : Fld := ⟨0x4800068, 0, 32⟩
def F.PAR_RB_STATUS_STATE (i : Nat) : Fld := ⟨0x4801000 + i * 0x40, 0, 3⟩
def F.PAR_RB_STATUS_MEMBER1 (i : Nat) : Fld := ⟨0x4801000 + i * 0x40, 3, 5⟩
def F.PAR_RB_STATUS_MEMBER2 (i : Nat) : Fld := ⟨0x4801000 + i * 0x40, 8, 5⟩
def F.PAR_RB_STATUS_MEMBER2_VALID (i : Nat) : Fld := ⟨0x4801000 + i * 0x40, 13, 1⟩
def F.PAR_RB_STATUS_DOMAIN (i : Nat) : Fld := ⟨0x4801000 + i * 0x40, 14, 8⟩
def F.PAR_RB_SET (i : Nat) : Fld := ⟨0x4801004 + i * 0x40, 0, 16⟩
def F.PAR_RB_SPARES_1 (i : Nat) : Fld := ⟨0x4801008 + i * 0x40, 0, 11⟩
def F.PAR_RB_SPARES_2 (i : Nat) : Fld := ⟨0x4801008 + i * 0x40, 16, 11⟩
def F.PAR_RB_CURSOR (i : Nat) : Fld := ⟨0x4801010 + i * 0x40, 0, 64⟩
def F.PAR_RB_START2 (i : Nat) : Fld := ⟨0x4801018 + i * 0x40, 0, 64⟩
def F.PAR_RB_END (i : Nat) : Fld := ⟨0x4801020 + i * 0x40, 0, 64⟩
def F.PAR_RB_ROWS_LOST (i : Nat) : Fld := ⟨0x4801028 + i * 0x40, 0, 32⟩
def F.PAR_RB_RATE (i : Nat) : Fld := ⟨0x480102c + i * 0x40, 0, 32⟩
def F.PAR_RB_ELAPSED_RUN (i : Nat) : Fld := ⟨0x4801030 + i * 0x40, 0, 16⟩
def F.PAR_RB_ELAPSED_PAUSE (i : Nat) : Fld := ⟨0x4801030 + i * 0x40, 16, 16⟩
def F.PAR_RS_STATUS_STATE (j : Nat) : Fld := ⟨0x4802000 + j * 0x40, 0, 2⟩
def F.PAR_RS_SET (j : Nat) : Fld := ⟨0x4802004 + j * 0x40, 0, 16⟩
def F.PAR_RS_DOMAIN (j : Nat) : Fld := ⟨0x4802004 + j * 0x40, 16, 8⟩
def F.PAR_RS_CURSOR (j : Nat) : Fld := ⟨0x4802008 + j * 0x40, 0, 64⟩
def F.PAR_RS_CKPT (j : Nat) : Fld := ⟨0x4802010 + j * 0x40, 0, 64⟩
def F.PAR_RS_BLOCKS (j : Nat) : Fld := ⟨0x4802018 + j * 0x40, 0, 64⟩
def F.PAR_RS_DROPPED (j : Nat) : Fld := ⟨0x4802020 + j * 0x40, 0, 32⟩
def F.BUF_CTRL_CLR_CNT : Fld := ⟨0x5000000, 0, 1⟩
def F.BUF_STATUS_STATE : Fld := ⟨0x5000004, 0, 3⟩
def F.BUF_STATUS_IN_SERVICE : Fld := ⟨0x5000004, 8, 16⟩
def F.BUF_EVT : Fld := ⟨0x5000008, 0, 32⟩
def F.BUF_EVT_EN : Fld := ⟨0x500000c, 0, 32⟩
def F.BUF_CONFIG_C : Fld := ⟨0x5000010, 0, 8⟩
def F.BUF_CONFIG_RANKS : Fld := ⟨0x5000010, 8, 2⟩
def F.BUF_CONFIG_DENSITY : Fld := ⟨0x5000010, 10, 6⟩
def F.BUF_CONFIG_SPEED : Fld := ⟨0x5000010, 16, 16⟩
def F.BUF_MIRROR_M : Fld := ⟨0x5000014, 0, 8⟩
def F.BUF_BA_SIZE_MIRRORED : Fld := ⟨0x5000018, 0, 16⟩
def F.BUF_BA_SIZE_TOTAL : Fld := ⟨0x5000018, 16, 16⟩
def F.BUF_CLEAR_TIME : Fld := ⟨0x500001c, 0, 32⟩
def F.BUF_SCRUB_CFG_PERIOD : Fld := ⟨0x5000020, 0, 8⟩
def F.BUF_SCRUB_CFG_EN : Fld := ⟨0x5000020, 8, 1⟩
def F.BUF_SCRUB_STATUS_PROGRESS : Fld := ⟨0x5000024, 0, 16⟩
def F.BUF_SCRUB_STATUS_PASSES : Fld := ⟨0x5000024, 16, 16⟩
def F.BUF_UE_LIM : Fld := ⟨0x5000028, 0, 8⟩
def F.BUF_CE_RATE : Fld := ⟨0x500002c, 0, 16⟩
def F.BUF_ERR_LOG_OFFSET : Fld := ⟨0x5000030, 0, 40⟩
def F.BUF_ERR_LOG_CHANNEL : Fld := ⟨0x5000030, 40, 4⟩
def F.BUF_ERR_LOG_REQ : Fld := ⟨0x5000030, 44, 4⟩
def F.BUF_ERR_LOG_VALID : Fld := ⟨0x5000030, 63, 1⟩
def F.BUF_CMD_PAGE : Fld := ⟨0x5000038, 0, 29⟩
def F.BUF_CMD_OP : Fld := ⟨0x5000038, 29, 2⟩
def F.BUF_CMD_GO : Fld := ⟨0x5000038, 31, 1⟩
def F.BUF_DIAG_CTRL_OP : Fld := ⟨0x5000040, 0, 2⟩
def F.BUF_DIAG_CTRL_GO : Fld := ⟨0x5000040, 2, 1⟩
def F.BUF_DIAG_CTRL_RESULT : Fld := ⟨0x5000040, 4, 2⟩
def F.BUF_DIAG_CTRL_VERDICT : Fld := ⟨0x5000040, 6, 2⟩
def F.BUF_DIAG_CTRL_DEVICE : Fld := ⟨0x5000040, 8, 5⟩
def F.BUF_DIAG_ADDR_OFS : Fld := ⟨0x5000048, 7, 33⟩
def F.BUF_DIAG_ADDR_CH : Fld := ⟨0x5000048, 40, 4⟩
def F.BUF_DIAG_DATA (i : Nat) : Fld := ⟨0x5000100 + i * 4, 0, 32⟩
def F.BUF_DIAG_CHECK (i : Nat) : Fld := ⟨0x5000180 + i * 4, 0, 32⟩
def F.BUF_CH_CTRL_OFFLINE (c : Nat) : Fld := ⟨0x5001000 + c * 0x100, 0, 1⟩
def F.BUF_CH_CTRL_RETRAIN (c : Nat) : Fld := ⟨0x5001000 + c * 0x100, 1, 1⟩
def F.BUF_CH_STATUS_STATE (c : Nat) : Fld := ⟨0x5001004 + c * 0x100, 0, 2⟩
def F.BUF_CH_STATUS_CAUSE (c : Nat) : Fld := ⟨0x5001004 + c * 0x100, 4, 4⟩
def F.BUF_CH_EVT (c : Nat) : Fld := ⟨0x5001008 + c * 0x100, 0, 32⟩
def F.BUF_CH_EVT_EN (c : Nat) : Fld := ⟨0x500100c + c * 0x100, 0, 32⟩
def F.BUF_CH_CE (c : Nat) : Fld := ⟨0x5001010 + c * 0x100, 0, 32⟩
def F.BUF_CH_UE (c : Nat) : Fld := ⟨0x5001014 + c * 0x100, 0, 32⟩
def F.BUF_CH_REPAIRS (c : Nat) : Fld := ⟨0x5001018 + c * 0x100, 0, 32⟩
def F.BUF_CH_CE_INFO_LAST (c : Nat) : Fld := ⟨0x500101c + c * 0x100, 0, 5⟩
def F.BUF_CH_CE_INFO_MOST (c : Nat) : Fld := ⟨0x500101c + c * 0x100, 8, 8⟩
def F.BUF_CH_RESYNC (c : Nat) : Fld := ⟨0x5001020 + c * 0x100, 0, 16⟩
def F.MAP_CTRL_EN : Fld := ⟨0x5800000, 0, 1⟩
def F.MAP_CTRL_PF_EN : Fld := ⟨0x5800000, 1, 1⟩
def F.MAP_CTRL_CLR_CNT : Fld := ⟨0x5800000, 2, 1⟩
def F.MAP_STATUS_STATE : Fld := ⟨0x5800004, 0, 2⟩
def F.MAP_EVT : Fld := ⟨0x5800008, 0, 32⟩
def F.MAP_EVT_EN : Fld := ⟨0x580000c, 0, 32⟩
def F.MAP_GEOM_WAYS : Fld := ⟨0x5800010, 0, 5⟩
def F.MAP_GEOM_SETS : Fld := ⟨0x5800010, 8, 14⟩
def F.MAP_PF_CFG_DEPTH : Fld := ⟨0x5800014, 0, 4⟩
def F.MAP_MAINT_OP : Fld := ⟨0x5800018, 0, 2⟩
def F.MAP_MAINT_GO : Fld := ⟨0x5800018, 2, 1⟩
def F.MAP_MAINT_BUSY : Fld := ⟨0x5800018, 3, 1⟩
def F.MAP_MAINT_ADDR : Fld := ⟨0x5800020, 7, 34⟩
def F.MAP_DIRTY : Fld := ⟨0x5800028, 0, 20⟩
def F.MAP_HITS : Fld := ⟨0x5800030, 0, 64⟩
def F.MAP_MISSES : Fld := ⟨0x5800038, 0, 64⟩
def F.MAP_SB_HITS : Fld := ⟨0x5800040, 0, 64⟩
def F.MAP_PF_ISSUED : Fld := ⟨0x5800048, 0, 64⟩
def F.MAP_EVICT_DIRTY : Fld := ⟨0x5800050, 0, 64⟩
def F.MAP_MISS_WAIT : Fld := ⟨0x5800058, 0, 32⟩
def F.MAP_SRAM_CE : Fld := ⟨0x580005c, 0, 32⟩
def F.MAP_SRAM_UE : Fld := ⟨0x5800060, 0, 32⟩
def F.HST_CTRL_CLR_CNT : Fld := ⟨0x6000000, 0, 1⟩
def F.HST_STATUS_PORT_MODE : Fld := ⟨0x6000004, 0, 2⟩
def F.HST_STATUS_PF1 : Fld := ⟨0x6000004, 2, 1⟩
def F.HST_EVT : Fld := ⟨0x6000008, 0, 32⟩
def F.HST_EVT_EN : Fld := ⟨0x600000c, 0, 32⟩
def F.HST_LINK_SPEED (i : Nat) : Fld := ⟨0x6000010 + i * 4, 0, 4⟩
def F.HST_LINK_WIDTH (i : Nat) : Fld := ⟨0x6000010 + i * 4, 4, 5⟩
def F.HST_LINK_UP (i : Nat) : Fld := ⟨0x6000010 + i * 4, 9, 1⟩
def F.HST_LINK_RETRAINS (i : Nat) : Fld := ⟨0x6000010 + i * 4, 16, 16⟩
def F.HST_STAMP : Fld := ⟨0x6000020, 0, 64⟩
def F.HST_INFLIGHT : Fld := ⟨0x6000028, 0, 14⟩
def F.HST_INFLIGHT_C0 : Fld := ⟨0x6000028, 16, 10⟩
def F.HST_ADMIT_C0_RESERVE : Fld := ⟨0x600002c, 0, 16⟩
def F.HST_FLOW_HOST_WIN : Fld := ⟨0x6000030, 0, 16⟩
def F.HST_LAT0_LAST : Fld := ⟨0x6000034, 0, 16⟩
def F.HST_LAT0_MAX : Fld := ⟨0x6000034, 16, 16⟩
def F.HST_LAT0_LIMIT : Fld := ⟨0x6000038, 0, 16⟩
def F.HST_LAT0_OVER : Fld := ⟨0x600003c, 0, 32⟩
def F.HST_CMDS : Fld := ⟨0x6000040, 0, 64⟩
def F.HST_ABORTS_DONE : Fld := ⟨0x6000048, 0, 16⟩
def F.HST_ABORTS_NOT : Fld := ⟨0x6000048, 16, 16⟩
def F.HST_ADMIT_WAIT : Fld := ⟨0x600004c, 0, 32⟩
def F.HST_OVERLAP_WAIT : Fld := ⟨0x6000050, 0, 32⟩
def F.HST_XFER_ERR : Fld := ⟨0x6000054, 0, 32⟩
def F.HST_BUS_ERR : Fld := ⟨0x6000058, 0, 32⟩
def F.HST_FN_CFG_CTX (i : Nat) : Fld := ⟨0x6001000 + i * 16, 0, 16⟩
def F.HST_FN_CFG_CLASS (i : Nat) : Fld := ⟨0x6001000 + i * 16, 16, 2⟩
def F.HST_FN_STATUS_CCEN (i : Nat) : Fld := ⟨0x6001004 + i * 16, 0, 1⟩
def F.HST_FN_STATUS_RDY (i : Nat) : Fld := ⟨0x6001004 + i * 16, 1, 1⟩
def F.HST_FN_STATUS_CFS (i : Nat) : Fld := ⟨0x6001004 + i * 16, 2, 1⟩
def F.HST_FN_STATUS_STAMP (i : Nat) : Fld := ⟨0x6001004 + i * 16, 3, 1⟩
def F.HST_FN_STATUS_IOQ (i : Nat) : Fld := ⟨0x6001004 + i * 16, 16, 16⟩
def F.HST_FN_INFLIGHT (i : Nat) : Fld := ⟨0x6001008 + i * 16, 0, 14⟩
def F.HST_QCTX_FUNCTION (i : Nat) : Fld := ⟨0x6100000 + i * 4, 0, 9⟩
def F.HST_QCTX_VALID (i : Nat) : Fld := ⟨0x6100000 + i * 4, 9, 1⟩
def F.HST_QCTX_KIND (i : Nat) : Fld := ⟨0x6100000 + i * 4, 10, 1⟩
def F.HST_QCTX_CLASS (i : Nat) : Fld := ⟨0x6100000 + i * 4, 11, 2⟩
def F.HST_QCTX_QID (i : Nat) : Fld := ⟨0x6100000 + i * 4, 13, 16⟩
def F.PLP_CTRL_LOSS_ACK : Fld := ⟨0x7000000, 0, 1⟩
def F.PLP_CTRL_CAP_TEST : Fld := ⟨0x7000000, 1, 1⟩
def F.PLP_CTRL_CLR_CNT : Fld := ⟨0x7000000, 2, 1⟩
def F.PLP_STATUS_VAULT_OK : Fld := ⟨0x7000004, 0, 1⟩
def F.PLP_STATUS_VAULT_SLOW : Fld := ⟨0x7000004, 1, 1⟩
def F.PLP_STATUS_WRITE_THROUGH : Fld := ⟨0x7000004, 2, 1⟩
def F.PLP_STATUS_ADMIT_CLOSED : Fld := ⟨0x7000004, 3, 1⟩
def F.PLP_STATUS_RECOVERING : Fld := ⟨0x7000004, 4, 1⟩
def F.PLP_EVT : Fld := ⟨0x7000008, 0, 32⟩
def F.PLP_EVT_EN : Fld := ⟨0x700000c, 0, 32⟩
def F.PLP_P_DUMP : Fld := ⟨0x7000010, 0, 16⟩
def F.PLP_E_RESERVE : Fld := ⟨0x7000014, 0, 16⟩
def F.PLP_HU_CFG_RATIO : Fld := ⟨0x7000018, 0, 16⟩
def F.PLP_HU_CFG_V_MIN : Fld := ⟨0x7000018, 16, 16⟩
def F.PLP_HU_CAP_C_NOM : Fld := ⟨0x700001c, 0, 16⟩
def F.PLP_HU_CAP_C : Fld := ⟨0x700001c, 16, 16⟩
def F.PLP_HU_TEST_R_TEST : Fld := ⟨0x7000020, 0, 16⟩
def F.PLP_HU_TEST_V_LOSS : Fld := ⟨0x7000020, 16, 16⟩
def F.PLP_V_BANK : Fld := ⟨0x7000024, 0, 16⟩
def F.PLP_V_BANK_E : Fld := ⟨0x7000024, 16, 16⟩
def F.PLP_R_VAULT_TAB : Fld := ⟨0x7000028, 0, 16⟩
def F.PLP_R_VAULT_MEAS : Fld := ⟨0x7000028, 16, 16⟩
def F.PLP_D_MAX : Fld := ⟨0x7000030, 0, 64⟩
def F.PLP_D_DIRTY : Fld := ⟨0x7000038, 0, 64⟩
def F.PLP_D_JOURNAL : Fld := ⟨0x7000040, 0, 64⟩
def F.PLP_FT_LIMIT : Fld := ⟨0x7000048, 0, 8⟩
def F.PLP_DUMP_LAST_MS : Fld := ⟨0x7000050, 0, 32⟩
def F.PLP_DUMP_LAST_MIB : Fld := ⟨0x7000050, 32, 32⟩
def F.PLP_LOST_FIRST : Fld := ⟨0x7000058, 0, 64⟩
def F.PLP_LOST_LAST : Fld := ⟨0x7000060, 0, 64⟩
def F.PLP_CHECK_FAIL_EXT : Fld := ⟨0x7000068, 0, 16⟩
def F.PLP_CHECK_FAIL_VAULT : Fld := ⟨0x7000068, 16, 16⟩
def F.PLP_DUMPS : Fld := ⟨0x700006c, 0, 32⟩
def F.THM_CTRL_CLR_CNT : Fld := ⟨0x7040000, 0, 1⟩
def F.THM_STATUS_WARN : Fld := ⟨0x7040004, 0, 1⟩
def F.THM_STATUS_THROTTLE : Fld := ⟨0x7040004, 1, 1⟩
def F.THM_STATUS_SHUTDOWN : Fld := ⟨0x7040004, 2, 1⟩
def F.THM_STATUS_FAST : Fld := ⟨0x7040004, 3, 1⟩
def F.THM_STATUS_GRID_DEGRADED : Fld := ⟨0x7040004, 4, 1⟩
def F.THM_STATUS_GRACE : Fld := ⟨0x7040004, 5, 1⟩
def F.THM_EVT : Fld := ⟨0x7040008, 0, 32⟩
def F.THM_EVT_EN : Fld := ⟨0x704000c, 0, 32⟩
def F.THM_J_THR_WARN : Fld := ⟨0x7040010, 0, 8⟩
def F.THM_J_THR_THROTTLE : Fld := ⟨0x7040010, 8, 8⟩
def F.THM_J_THR_SHUT : Fld := ⟨0x7040010, 16, 8⟩
def F.THM_L_THR_WARN : Fld := ⟨0x7040014, 0, 8⟩
def F.THM_L_THR_THROTTLE : Fld := ⟨0x7040014, 8, 8⟩
def F.THM_L_THR_SHUT : Fld := ⟨0x7040014, 16, 8⟩
def F.THM_NTC_WARN : Fld := ⟨0x7040018, 0, 8⟩
def F.THM_NB_NB_TOL : Fld := ⟨0x704001c, 0, 8⟩
def F.THM_GRACE : Fld := ⟨0x7040020, 0, 16⟩
def F.THM_ENF_STEP : Fld := ⟨0x7040024, 0, 3⟩
def F.THM_ENF_STEP_T : Fld := ⟨0x7040024, 8, 8⟩
def F.THM_ENF_ORDERLY_MAX : Fld := ⟨0x7040024, 16, 8⟩
def F.THM_HOT_TJ : Fld := ⟨0x7040028, 0, 16⟩
def F.THM_HOT_SENSOR : Fld := ⟨0x7040028, 16, 6⟩
def F.THM_EXCLUDED : Fld := ⟨0x7040030, 0, 64⟩
def F.THM_LASER_STATE : Fld := ⟨0x7040038, 0, 64⟩
def F.THM_LASER_THR : Fld := ⟨0x7040040, 0, 64⟩
def F.THM_EXCLUSIONS : Fld := ⟨0x7040048, 0, 32⟩
def F.THM_THROTTLES_ENTRIES : Fld := ⟨0x704004c, 0, 16⟩
def F.THM_THROTTLES_ENF : Fld := ⟨0x704004c, 16, 16⟩
def F.THM_SHUTDOWNS_J : Fld := ⟨0x7040050, 0, 16⟩
def F.THM_SHUTDOWNS_HEAD : Fld := ⟨0x7040050, 16, 16⟩
def F.THM_DIE (i : Nat) : Fld := ⟨0x7040100 + i * 4, 0, 16⟩
def F.CAL_CTRL_START : Fld := ⟨0x7080000, 0, 1⟩
def F.CAL_CTRL_EXP_START : Fld := ⟨0x7080000, 1, 1⟩
def F.CAL_STATUS_BUSY : Fld := ⟨0x7080004, 0, 1⟩
def F.CAL_STATUS_STEP : Fld := ⟨0x7080004, 1, 3⟩
def F.CAL_STATUS_REF_OK : Fld := ⟨0x7080004, 4, 1⟩
def F.CAL_STATUS_MODE : Fld := ⟨0x7080004, 5, 1⟩
def F.CAL_EVT : Fld := ⟨0x7080008, 0, 32⟩
def F.CAL_EVT_EN : Fld := ⟨0x708000c, 0, 32⟩
def F.CAL_REF : Fld := ⟨0x7080010, 0, 24⟩
def F.CAL_AUTO : Fld := ⟨0x7080014, 0, 8⟩
def F.CAL_BOUNDS_GAIN_B : Fld := ⟨0x7080018, 0, 8⟩
def F.CAL_BOUNDS_OFS_B : Fld := ⟨0x7080018, 8, 16⟩
def F.CAL_EXP_SEL : Fld := ⟨0x7080020, 0, 64⟩
def F.CAL_SKIPPED : Fld := ⟨0x7080028, 0, 64⟩
def F.CAL_OUT_OF_BOUNDS : Fld := ⟨0x7080030, 0, 64⟩
def F.CAL_EXP_GAIN (i : Nat) : Fld := ⟨0x7080100 + i * 8, 0, 32⟩
def F.CAL_EXP_OFFSET (i : Nat) : Fld := ⟨0x7080100 + i * 8, 32, 16⟩
def F.CAL_HU_GAIN : Fld := ⟨0x7080300, 0, 32⟩
def F.CAL_HU_OFFSET : Fld := ⟨0x7080300, 32, 16⟩
def F.CAL_REFADC_GAIN : Fld := ⟨0x7080308, 0, 32⟩
def F.CAL_REFADC_OFFSET : Fld := ⟨0x7080308, 32, 16⟩
def F.CAL_DIE (i : Nat) : Fld := ⟨0x7080400 + i * 4, 0, 16⟩
def F.CAL_LASER (i : Nat) : Fld := ⟨0x7080600 + i * 4, 0, 16⟩
def F.CAL_IN_FORCE (i : Nat) : Fld := ⟨0x7080900 + i * 4, 0, 32⟩
def F.FUS_STATUS_SEALED : Fld := ⟨0x100000, 0, 1⟩
def F.FUS_STATUS_DEBUG_ACTIVE : Fld := ⟨0x100000, 1, 1⟩
def F.FUS_STATUS_FACTORY_OK : Fld := ⟨0x100000, 2, 1⟩
def F.FUS_EVT : Fld := ⟨0x100008, 0, 32⟩
def F.FUS_EVT_EN : Fld := ⟨0x10000c, 0, 32⟩
def F.FUS_PROT : Fld := ⟨0x100010, 0, 64⟩
def F.FUS_ROLLBACK : Fld := ⟨0x100018, 0, 64⟩
def F.FUS_BOUNDS : Fld := ⟨0x100020, 0, 64⟩
def F.FUS_BOUNDS2 : Fld := ⟨0x100028, 0, 64⟩
def F.FUS_SLOT (i : Nat) : Fld := ⟨0x100100 + i * 4, 0, 32⟩
def F.FUS_WORD (i : Nat) : Fld := ⟨0x100400 + i * 8, 0, 64⟩
def F.FUS_PROG_WORD : Fld := ⟨0x100800, 0, 7⟩
def F.FUS_PROG_MASK : Fld := ⟨0x100808, 0, 64⟩
def F.FUS_PROG_CTRL_GO : Fld := ⟨0x100810, 0, 1⟩
def F.FUS_PROG_CTRL_AUTH_GO : Fld := ⟨0x100810, 1, 1⟩
def F.FUS_PROG_CTRL_DEBUG_CLOSE : Fld := ⟨0x100810, 2, 1⟩
def F.FUS_PROG_CTRL_BUSY : Fld := ⟨0x100810, 3, 1⟩
def F.FUS_PROG_CTRL_RESULT : Fld := ⟨0x100810, 4, 4⟩
def F.FUS_NONCE : Fld := ⟨0x100818, 0, 64⟩
def F.FUS_AUTH (i : Nat) : Fld := ⟨0x101000 + i * 4, 0, 32⟩
def F.TAB_CTRL_SESSION_ABORT : Fld := ⟨0x140000, 0, 1⟩
def F.TAB_STATUS_SELECTED : Fld := ⟨0x140004, 0, 2⟩
def F.TAB_STATUS_SIGNER_REVOKED : Fld := ⟨0x140004, 2, 1⟩
def F.TAB_STATUS_SESSION_OPEN : Fld := ⟨0x140004, 3, 1⟩
def F.TAB_STATUS_HOLDER : Fld := ⟨0x140004, 4, 2⟩
def F.TAB_STATUS_KEY_SLOT : Fld := ⟨0x140004, 8, 2⟩
def F.TAB_EVT : Fld := ⟨0x140008, 0, 32⟩
def F.TAB_EVT_EN : Fld := ⟨0x14000c, 0, 32⟩
def F.TAB_CHECK_A : Fld := ⟨0x140010, 0, 32⟩
def F.TAB_CHECK_B : Fld := ⟨0x140014, 0, 32⟩
def F.TAB_SEQ_A : Fld := ⟨0x140018, 0, 64⟩
def F.TAB_SEQ_B : Fld := ⟨0x140020, 0, 64⟩
def F.TAB_SEC_VER : Fld := ⟨0x140028, 0, 32⟩
def F.TAB_LEN : Fld := ⟨0x14002c, 0, 32⟩
def F.TAB_STAGED : Fld := ⟨0x140030, 0, 32⟩
def F.TAB_COMMITS : Fld := ⟨0x140034, 0, 32⟩
def F.TAB_DIGEST (i : Nat) : Fld := ⟨0x140040 + i * 4, 0, 32⟩
def F.FWU_CTRL_SESSION_ABORT : Fld := ⟨0x180000, 0, 1⟩
def F.FWU_STATUS_ACTIVE_B : Fld := ⟨0x180004, 0, 1⟩
def F.FWU_STATUS_ARMED_B : Fld := ⟨0x180004, 1, 1⟩
def F.FWU_STATUS_JOURNAL : Fld := ⟨0x180004, 2, 3⟩
def F.FWU_STATUS_STEP : Fld := ⟨0x180004, 5, 3⟩
def F.FWU_STATUS_SESSION_OPEN : Fld := ⟨0x180004, 8, 1⟩
def F.FWU_STATUS_HOLDER : Fld := ⟨0x180004, 9, 2⟩
def F.FWU_STATUS_SIGNER : Fld := ⟨0x180004, 11, 2⟩
def F.FWU_EVT : Fld := ⟨0x180008, 0, 32⟩
def F.FWU_EVT_EN : Fld := ⟨0x18000c, 0, 32⟩
def F.FWU_VER (i : Nat) : Fld := ⟨0x180010 + i * 4, 0, 32⟩
def F.FWU_ALT (i : Nat) : Fld := ⟨0x180030 + i * 4, 0, 32⟩
def F.FWU_STAGED : Fld := ⟨0x180050, 0, 32⟩
def F.FWU_PROBATION : Fld := ⟨0x180054, 0, 32⟩
def F.FWU_SEC_VER_ACTIVE : Fld := ⟨0x180058, 0, 16⟩
def F.FWU_SEC_VER_OTHER : Fld := ⟨0x180058, 16, 16⟩
def F.FWU_CHECK : Fld := ⟨0x18005c, 0, 8⟩
def F.FWU_CHECK_DESC : Fld := ⟨0x18005c, 8, 8⟩
def F.FWU_FALLBACKS : Fld := ⟨0x180060, 0, 32⟩
def F.CLK_STATUS_PCIE0_OK : Fld := ⟨0x40000, 0, 1⟩
def F.CLK_STATUS_PCIE1_OK : Fld := ⟨0x40000, 1, 1⟩
def F.CLK_STATUS_LINK_OK : Fld := ⟨0x40000, 2, 1⟩
def F.CLK_STATUS_XTAL_OK : Fld := ⟨0x40000, 3, 1⟩
def F.CLK_STATUS_LOCKED : Fld := ⟨0x40000, 8, 8⟩
def F.CLK_STATUS_VAULT : Fld := ⟨0x40000, 16, 1⟩
def F.CLK_EVT : Fld := ⟨0x40004, 0, 32⟩
def F.CLK_EVT_EN : Fld := ⟨0x40008, 0, 32⟩
def F.CLK_TIME : Fld := ⟨0x40010, 0, 64⟩
def F.CLK_TICK : Fld := ⟨0x40018, 0, 64⟩
def F.CLK_PWM : Fld := ⟨0x40020, 0, 64⟩
def F.CLK_PPM_PCIE_REFCLK0 : Fld := ⟨0x40028, 0, 16⟩
def F.CLK_PPM_PCIE_REFCLK1 : Fld := ⟨0x40028, 16, 16⟩
def F.PWR_CTRL_REQ : Fld := ⟨0x80000, 0, 3⟩
def F.PWR_CTRL_GO : Fld := ⟨0x80000, 3, 1⟩
def F.PWR_CTRL_CHIP_RESET : Fld := ⟨0x80000, 4, 1⟩
def F.PWR_CTRL_AUTO_IDLE : Fld := ⟨0x80000, 6, 1⟩
def F.PWR_STATUS_STATE : Fld := ⟨0x80004, 0, 2⟩
def F.PWR_STATUS_TRANSITION : Fld := ⟨0x80004, 2, 1⟩
def F.PWR_STATUS_START_STEP : Fld := ⟨0x80004, 3, 5⟩
def F.PWR_STATUS_MAP_READY : Fld := ⟨0x80004, 8, 1⟩
def F.PWR_STATUS_COLD : Fld := ⟨0x80004, 9, 1⟩
def F.PWR_EVT : Fld := ⟨0x80008, 0, 32⟩
def F.PWR_EVT_EN : Fld := ⟨0x8000c, 0, 32⟩
def F.PWR_IDLE_POISE : Fld := ⟨0x80010, 0, 16⟩
def F.PWR_IDLE_PARK : Fld := ⟨0x80010, 16, 16⟩
def F.PWR_RESET_CAUSE_KIND : Fld := ⟨0x80014, 0, 4⟩
def F.PWR_RESET_CAUSE_TRIGGER : Fld := ⟨0x80014, 4, 4⟩
def F.PWR_WAKE_CMP : Fld := ⟨0x80018, 0, 48⟩
def F.PWR_WAKE_TIME : Fld := ⟨0x80020, 0, 48⟩
def F.PWR_START_TIME_RDY : Fld := ⟨0x80028, 0, 16⟩
def F.PWR_START_TIME_MAP : Fld := ⟨0x80028, 16, 16⟩
def F.PWR_MAP_PROGRESS_STEP : Fld := ⟨0x8002c, 0, 3⟩
def F.PWR_MAP_PROGRESS_FRAC : Fld := ⟨0x8002c, 16, 16⟩
def F.PWR_RETAIN (i : Nat) : Fld := ⟨0x80100 + i * 4, 0, 32⟩
def F.EVT_CTRL_LOG_EN : Fld := ⟨0xc0000, 0, 1⟩
def F.EVT_CTRL_LOG_CLR : Fld := ⟨0xc0000, 1, 1⟩
def F.EVT_FW_OPEN_NOW : Fld := ⟨0xc0004, 0, 8⟩
def F.EVT_FW_OPEN_TOTAL : Fld := ⟨0xc0004, 16, 16⟩
def F.EVT_LOG_HEAD : Fld := ⟨0xc0008, 0, 64⟩
def F.EVT_MASK (i : Nat) : Fld := ⟨0xc0030 + i * 4, 0, 32⟩
def F.EVT_SW_SET0 : Fld := ⟨0xc0050, 0, 32⟩
def F.EVT_SW_SET1 : Fld := ⟨0xc0054, 0, 8⟩
def F.EVT_SW_FLAG0 : Fld := ⟨0xc0058, 0, 32⟩
def F.EVT_SW_FLAG1 : Fld := ⟨0xc005c, 0, 8⟩
def F.EVT_ROUTE_PAIR (i : Nat) : Fld := ⟨0xc0100 + i * 1, 0, 2⟩
def F.EVT_ROUTE_BCAST (i : Nat) : Fld := ⟨0xc0100 + i * 1, 2, 1⟩
def F.EVT_ROUTE_PRIO (i : Nat) : Fld := ⟨0xc0100 + i * 1, 3, 2⟩
def F.DMP_CTRL_RELEASE : Fld := ⟨0x70c0000, 0, 1⟩
def F.DMP_CTRL_CLEAR : Fld := ⟨0x70c0000, 1, 1⟩
def F.DMP_STATUS_FATAL : Fld := ⟨0x70c0004, 0, 1⟩
def F.DMP_STATUS_IN_SRAM : Fld := ⟨0x70c0004, 1, 1⟩
def F.DMP_STATUS_IN_FLASH : Fld := ⟨0x70c0004, 2, 1⟩
def F.DMP_STATUS_DATA_DUMPED : Fld := ⟨0x70c0004, 3, 1⟩
def F.DMP_STATUS_AUTO_BLOCKED : Fld := ⟨0x70c0004, 4, 1⟩
def F.DMP_CAUSE_CAUSE : Fld := ⟨0x70c0008, 0, 16⟩
def F.DMP_CAUSE_DETAIL : Fld := ⟨0x70c0008, 16, 16⟩
def F.DMP_TIME : Fld := ⟨0x70c0010, 0, 64⟩
def F.DMP_HOLD : Fld := ⟨0x70c0018, 0, 16⟩
def F.DMP_RESTARTS_HOUR : Fld := ⟨0x70c001c, 0, 8⟩
def F.DMP_RESTARTS_TOTAL : Fld := ⟨0x70c001c, 16, 16⟩
def F.DMP_FATAL : Fld := ⟨0x70c0020, 0, 16⟩
def F.DMP_LEN : Fld := ⟨0x70c0024, 0, 21⟩
def F.MAP_QEVT (q : Nat) : Fld := ⟨0x5800100 + q * 0x10, 0, 4⟩
def F.MAP_QEVT_SLICES_OFF (q : Nat) : Fld := ⟨0x5800100 + q * 0x10, 4, 8⟩
def F.MAP_QEVT_EN (q : Nat) : Fld := ⟨0x5800104 + q * 0x10, 0, 32⟩
def F.MGT_STATUS_IN_SERVICE (p : Nat) : Fld := ⟨0x8000000 + p * 0x1000, 0, 1⟩
def F.MGT_STATUS_FENCED (p : Nat) : Fld := ⟨0x8000000 + p * 0x1000, 1, 1⟩
def F.MGT_EVT (p : Nat) : Fld := ⟨0x8000004 + p * 0x1000, 0, 32⟩
def F.MGT_EVT_EN (p : Nat) : Fld := ⟨0x8000008 + p * 0x1000, 0, 32⟩
def F.MGT_CTRL_RESTORE (p : Nat) : Fld := ⟨0x800000c + p * 0x1000, 0, 1⟩
def F.MGT_WDOG_TIMEOUT (p : Nat) : Fld := ⟨0x8000010 + p * 0x1000, 0, 16⟩
def F.MGT_WDOG_KICK (p : Nat) : Fld := ⟨0x8000014 + p * 0x1000, 0, 32⟩
def F.MGT_BUSERR_ADDR (p : Nat) : Fld := ⟨0x8000018 + p * 0x1000, 0, 40⟩
def F.MGT_BUSERR_REQ (p : Nat) : Fld := ⟨0x8000018 + p * 0x1000, 40, 8⟩
def F.MGT_BUSERR_VALID (p : Nat) : Fld := ⟨0x8000018 + p * 0x1000, 63, 1⟩
def F.MGT_RAM (i : Nat) : Fld := ⟨0xc000000 + i * 4, 0, 32⟩

abbrev B.HL_EVT_STATE_CHANGE : Nat := 0
abbrev B.HL_EVT_LANE_FAULT : Nat := 1
abbrev B.HL_EVT_DEGRADE_DONE : Nat := 2
abbrev B.HL_EVT_SERVO_MISS : Nat := 3
abbrev B.HL_EVT_SERVO_MISMATCH : Nat := 4
abbrev B.HL_EVT_MSG_FAIL : Nat := 5
abbrev B.HL_EVT_HEAD_EVENT : Nat := 6
abbrev B.HL_EVT_LAT_EXCEED : Nat := 7
abbrev B.HL_EVT_TRAIN_FAIL : Nat := 8
abbrev B.HL_EVT_MBOX_RX : Nat := 9
abbrev B.HL_EVT_MBOX_STALL : Nat := 10
abbrev B.BL_EVT_LINK_DOWN : Nat := 0
abbrev B.BL_EVT_LINK_UP : Nat := 1
abbrev B.BL_EVT_REFUSED : Nat := 2
abbrev B.BL_EVT_OVERCURRENT : Nat := 3
abbrev B.BL_EVT_PWM_REPEAT : Nat := 4
abbrev B.BL_EVT_PWM_OFF : Nat := 5
abbrev B.BL_EVT_LATE : Nat := 6
abbrev B.CL_EVT_LINK_DOWN : Nat := 0
abbrev B.CL_EVT_LINK_UP : Nat := 1
abbrev B.CL_EVT_REFUSED : Nat := 2
abbrev B.CL_EVT_OVERCURRENT : Nat := 3
abbrev B.CL_EVT_PWM_REPEAT : Nat := 4
abbrev B.CL_EVT_PWM_OFF : Nat := 5
abbrev B.CL_EVT_LATE : Nat := 6
abbrev B.CH_EVT_WPLL_LOCK : Nat := 0
abbrev B.CH_EVT_WPLL_LOST : Nat := 1
abbrev B.CH_EVT_ADDR_CONFIRMED : Nat := 2
abbrev B.CH_EVT_ADDR_MISMATCH : Nat := 3
abbrev B.CH_EVT_SPEED_RANGE : Nat := 4
abbrev B.CH_EVT_RATE_LATE : Nat := 5
abbrev B.CH_EVT_SYNC_EARLY : Nat := 6
abbrev B.CH_EVT_MEDIA_ID : Nat := 7
abbrev B.CH_EVT_SAMPLE_DISC : Nat := 8
abbrev B.CH_EVT_CW_FAIL : Nat := 16
abbrev B.CH_EVT_HANDOVER : Nat := 17
abbrev B.CH_EVT_CRC_FAIL : Nat := 18
abbrev B.CH_EVT_ADDR_ERR : Nat := 19
abbrev B.CH_EVT_PERSIST_ERASE : Nat := 20
abbrev B.CH_EVT_BUDGET : Nat := 21
abbrev B.CH_EVT_TRUNC : Nat := 22
abbrev B.CH_EVT_QUEUE_DROP : Nat := 23
abbrev B.CH_EVT_STAGE_DROP : Nat := 24
abbrev B.CH_EVT_STORE_FULL : Nat := 25
abbrev B.CH_EVT_EQ_RESET : Nat := 26
abbrev B.CH_EVT_ENGINE_FAULT : Nat := 27
abbrev B.WRP_EVT_EXTENT_DONE : Nat := 0
abbrev B.WRP_EVT_VFY_FAIL : Nat := 1
abbrev B.WRP_EVT_UNDERRUN : Nat := 2
abbrev B.WRP_EVT_CLOSURE : Nat := 3
abbrev B.WRP_EVT_POS_FAULT : Nat := 4
abbrev B.WRP_EVT_SPARE_NONE : Nat := 5
abbrev B.WRP_EVT_CAL_DONE : Nat := 6
abbrev B.WRP_EVT_CAL_FALLBACK : Nat := 7
abbrev B.WRP_EVT_HALTED : Nat := 8
abbrev B.WRP_EVT_DAMAGED_ROW : Nat := 9
abbrev B.SV_EVT_STATE_CHANGE : Nat := 0
abbrev B.SV_EVT_FOCUS_FAIL : Nat := 1
abbrev B.SV_EVT_FOCUS_LOSS : Nat := 2
abbrev B.SV_EVT_OFFTRACK : Nat := 3
abbrev B.SV_EVT_SEEK_DONE : Nat := 4
abbrev B.SV_EVT_SEEK_FAIL : Nat := 5
abbrev B.SV_EVT_ADDR_CORRECT : Nat := 6
abbrev B.SV_EVT_DEFECT_LONG : Nat := 7
abbrev B.SV_EVT_MISS_LIMIT : Nat := 8
abbrev B.SV_EVT_SHADOW_TAKEOVER : Nat := 9
abbrev B.SV_EVT_NO_SHADOW : Nat := 10
abbrev B.SV_EVT_LENS_RANGE : Nat := 11
abbrev B.SV_EVT_RETRACTED : Nat := 12
abbrev B.SV_EVT_CMD_ERR : Nat := 13
abbrev B.SV_EVT_HEAD_LOST : Nat := 14
abbrev B.LE_EVT_TILE_FAULT : Nat := 0
abbrev B.LE_EVT_TAKEOVER : Nat := 1
abbrev B.LE_EVT_CELL : Nat := 2
abbrev B.LE_EVT_COEF_OVF : Nat := 3
abbrev B.LE_EVT_MISMATCH : Nat := 4
abbrev B.LE_EVT_NODE_PARTNER : Nat := 5
abbrev B.CELL_FLAGS_MISS : Nat := 0
abbrev B.CELL_FLAGS_INT_SAT_SEEN : Nat := 1
abbrev B.CELL_FLAGS_LIMIT_INV : Nat := 2
abbrev B.CELL_FLAGS_SRC_INVALID : Nat := 3
abbrev B.CELL_FLAGS_STATE_WR_REJ : Nat := 4
abbrev B.CELL_FLAGS_CFG_REJ : Nat := 5
abbrev B.CELL_FLAGS_COEF_DROP : Nat := 6
abbrev B.CELL_FLAGS_RESYNC : Nat := 7
abbrev B.CELL_FLAGS_TAKEOVER : Nat := 8
abbrev B.MOT_EVT_STATE_CHANGE : Nat := 0
abbrev B.MOT_EVT_OBS_LOSS : Nat := 1
abbrev B.MOT_EVT_RECAPTURE : Nat := 2
abbrev B.MOT_EVT_CATCH_FAIL : Nat := 3
abbrev B.MOT_EVT_SPEED_LOCK : Nat := 4
abbrev B.MOT_EVT_WOB_MISMATCH : Nat := 5
abbrev B.MOT_EVT_START_FAIL : Nat := 6
abbrev B.MOT_EVT_OVERCURRENT : Nat := 7
abbrev B.MOT_EVT_STOPPED : Nat := 8
abbrev B.CMOT_EVT_MOVE_DONE : Nat := 0
abbrev B.CMOT_EVT_CHOP_FAULT : Nat := 1
abbrev B.CMOT_EVT_OV : Nat := 2
abbrev B.CMOT_EVT_INTERLOCK : Nat := 3
abbrev B.CMOT_EVT_REVERSAL_REFUSED : Nat := 4
abbrev B.CMOT_EVT_HOME_FAIL : Nat := 5
abbrev B.CMOT_EVT_FOLLOW_ERR : Nat := 6
abbrev B.MOV_EVT_MOVE_DONE : Nat := 0
abbrev B.MOV_EVT_STALL : Nat := 3
abbrev B.MOV_EVT_LIMIT_STOP : Nat := 6
abbrev B.MOV_EVT_SOFT_HARD : Nat := 9
abbrev B.MOV_EVT_STUCK : Nat := 12
abbrev B.MOV_EVT_CHATTER : Nat := 13
abbrev B.MOV_EVT_DRIVER_OFF : Nat := 14
abbrev B.MOV_EVT_FAULT : Nat := 15
abbrev B.ARB_EVT_NO_BLANK : Nat := 0
abbrev B.ARB_EVT_FRAG_HIGH : Nat := 1
abbrev B.ARB_EVT_FRAG_FULL : Nat := 2
abbrev B.ARB_EVT_CKPT_DONE : Nat := 3
abbrev B.ARB_EVT_CELL_REASSIGN : Nat := 4
abbrev B.ARB_EVT_CELL_NONE : Nat := 5
abbrev B.ARB_AR_EVT_HEALTH_CHANGE : Nat := 0
abbrev B.ARB_AR_EVT_SET_FORMED : Nat := 1
abbrev B.ARB_AR_EVT_SET_SEALED : Nat := 2
abbrev B.ARB_AR_EVT_SET_RETIRED : Nat := 3
abbrev B.ARB_AR_EVT_SPARE_LOW : Nat := 4
abbrev B.ARB_AR_EVT_THERMAL_RELIEF : Nat := 5
abbrev B.ARB_AR_EVT_UNAVAILABLE : Nat := 6
abbrev B.PAR_EVT_MEMBER_FAILED : Nat := 0
abbrev B.PAR_EVT_REBUILD_START : Nat := 1
abbrev B.PAR_EVT_REBUILD_DONE : Nat := 2
abbrev B.PAR_EVT_WAIT_SPARE : Nat := 3
abbrev B.PAR_EVT_ROW_LOST : Nat := 4
abbrev B.PAR_EVT_SET_LOST : Nat := 5
abbrev B.PAR_EVT_CHECK_FAIL : Nat := 6
abbrev B.PAR_EVT_SECOND_FAILURE : Nat := 7
abbrev B.PAR_EVT_EVACUATE : Nat := 8
abbrev B.PAR_EVT_RESHAPE_DONE : Nat := 9
abbrev B.BUF_EVT_CLEAR_DONE : Nat := 0
abbrev B.BUF_EVT_SCRUB_PASS : Nat := 1
abbrev B.BUF_EVT_BUS_ERROR : Nat := 2
abbrev B.BUF_EVT_DIAG_DONE : Nat := 3
abbrev B.BUF_CH_EVT_CE : Nat := 0
abbrev B.BUF_CH_EVT_UE : Nat := 1
abbrev B.BUF_CH_EVT_REPAIRED : Nat := 2
abbrev B.BUF_CH_EVT_OUT_OF_SERVICE : Nat := 3
abbrev B.BUF_CH_EVT_RESYNC_DONE : Nat := 4
abbrev B.BUF_CH_EVT_CE_RATE : Nat := 5
abbrev B.MAP_EVT_DRAIN_DONE : Nat := 0
abbrev B.MAP_EVT_MAINT_DONE : Nat := 1
abbrev B.MAP_EVT_MAINT_ERR : Nat := 2
abbrev B.HST_EVT_LINK_CHANGE : Nat := 0
abbrev B.HST_EVT_LANE_DEGRADE : Nat := 4
abbrev B.HST_EVT_SLOTS_FULL : Nat := 8
abbrev B.HST_EVT_STAMP_ERR : Nat := 9
abbrev B.HST_EVT_ADMIT_STALL : Nat := 10
abbrev B.HST_EVT_LAT0_EXCEED : Nat := 11
abbrev B.HST_EVT_XFER_ERR : Nat := 12
abbrev B.HST_EVT_BUS_ERR : Nat := 13
abbrev B.PLP_EVT_POWER_LOSS : Nat := 0
abbrev B.PLP_EVT_DUMP_DONE : Nat := 1
abbrev B.PLP_EVT_CAP_LOW : Nat := 2
abbrev B.PLP_EVT_ADMIT_CLOSED : Nat := 3
abbrev B.PLP_EVT_VAULT_CHANGE : Nat := 4
abbrev B.PLP_EVT_RECOVERED : Nat := 5
abbrev B.PLP_EVT_DATA_LOST : Nat := 6
abbrev B.THM_EVT_J_WARN : Nat := 0
abbrev B.THM_EVT_J_THROTTLE : Nat := 1
abbrev B.THM_EVT_ENF_CHANGE : Nat := 2
abbrev B.THM_EVT_SENSOR_EXCL : Nat := 3
abbrev B.THM_EVT_LASER_WARN : Nat := 4
abbrev B.THM_EVT_LASER_SHUT : Nat := 5
abbrev B.THM_EVT_NTC_WARN : Nat := 6
abbrev B.THM_EVT_SHUTDOWN : Nat := 7
abbrev B.CAL_EVT_DONE : Nat := 0
abbrev B.CAL_EVT_CHANGED : Nat := 1
abbrev B.CAL_EVT_REF_FAULT : Nat := 2
abbrev B.CAL_EVT_BOUND : Nat := 3
abbrev B.CAL_EVT_EXP_SKIP : Nat := 4
abbrev B.FUS_EVT_PROG_DONE : Nat := 0
abbrev B.FUS_EVT_PROG_FAIL : Nat := 1
abbrev B.FUS_EVT_FACTORY_CRC : Nat := 2
abbrev B.FUS_EVT_DEBUG_UNLOCK : Nat := 3
abbrev B.FUS_EVT_AUTH_FAIL : Nat := 4
abbrev B.FUS_EVT_REVOKED : Nat := 5
abbrev B.TAB_EVT_SELECTED_OTHER : Nat := 0
abbrev B.TAB_EVT_RECOVERY : Nat := 1
abbrev B.TAB_EVT_COMMIT_DONE : Nat := 2
abbrev B.TAB_EVT_COMMIT_FAIL : Nat := 3
abbrev B.TAB_EVT_SIGNER_REVOKED : Nat := 4
abbrev B.TAB_EVT_SESSION_TIMEOUT : Nat := 5
abbrev B.FWU_EVT_COMMIT_DONE : Nat := 0
abbrev B.FWU_EVT_COMMIT_FAIL : Nat := 1
abbrev B.FWU_EVT_SESSION_TIMEOUT : Nat := 2
abbrev B.FWU_EVT_ACTIVATED : Nat := 3
abbrev B.FWU_EVT_PROBATION_DONE : Nat := 4
abbrev B.FWU_EVT_FALLBACK : Nat := 5
abbrev B.FWU_EVT_SETTINGS_DEFAULT : Nat := 6
abbrev B.FWU_EVT_ROLLBACK_REFUSED : Nat := 7
abbrev B.PWR_EVT_STATE_CHANGE : Nat := 0
abbrev B.PWR_EVT_ENTRY_CANCELLED : Nat := 1
abbrev B.PWR_EVT_START_DONE : Nat := 2
abbrev B.PWR_EVT_MAP_READY : Nat := 3
abbrev B.PWR_EVT_WAKE : Nat := 4
abbrev B.PWR_EVT_DIR_FAIL : Nat := 5
abbrev B.MAP_QEVT_SRAM_CE : Nat := 0
abbrev B.MAP_QEVT_SRAM_UE : Nat := 1
abbrev B.MAP_QEVT_SRAM_UE_DIRTY : Nat := 2
abbrev B.MAP_QEVT_SLICE_OFF : Nat := 3
abbrev B.MAP_QEVT_SLICES_OFF : Nat := 4
abbrev B.MGT_EVT_MISMATCH : Nat := 0
abbrev B.MGT_EVT_STACK_UE : Nat := 1
abbrev B.MGT_EVT_WATCHDOG : Nat := 2
abbrev B.MGT_EVT_BUS_ERROR : Nat := 3

end Sys2Proof.Machine
end

