-- ==== Sys2Proof/Machine/State.lean ====
section
/-! DEFINITION. The state of the block as plain data, the reasons a step can stop, and the state after reset. -/

namespace Sys2Proof.Machine

/-- Why a step stops: raised by nothing else than the meanings named here. -/
inductive Fault where
  /-- Raised by the window accesses (ACCESS_ERROR and the reads and writes by halves): the offset lies beyond the 256 MiB
  register window, where no address exists (R21). Safe: no such access is made on the hardware. -/
  | outsideWindow
  deriving DecidableEq, Repr

/-- Why a command is refused. -/
inductive Refusal where
  /-- Raised by the arms of `exec` whose command has no meaning yet, with its mnemonic. Safe. -/
  | notModelled (mnemonic : String)
  deriving DecidableEq, Repr

/-- One entry of the event log: the time, the source, the owning unit's EVT register at the edge (R533). -/
structure LogEntry where
  time   : Nat
  source : Nat
  value  : Nat
  deriving DecidableEq, Repr

/-- A recovery window that is open: domain kind and instance, the time it opened, the event source (R536, R545). -/
structure OpenWindow where
  kind   : Nat
  inst   : Nat
  opened : Nat
  source : Nat
  deriving DecidableEq, Repr

/-- One record of the fault log (R545): outcome 0 recovered, 1 covered, 2 escalated. -/
structure FaultRecord where
  opened   : Nat
  duration : Nat
  kind     : Nat
  inst     : Nat
  outcome  : Nat
  source   : Nat
  deriving DecidableEq, Repr

/-- The operations of the control tree that can wait at a node (R16, R17). -/
inductive TreeKind where
  | barrier | broadcast | epoch
  deriving DecidableEq, Repr

/-- An operation issued across the subtree of an arbour. -/
structure TreeOp where
  kind   : TreeKind
  arbour : Nat
  deriving DecidableEq, Repr

/-- A message of the head link (R71). A message that names a superframe carries it in its last 4 payload bytes and leaves with at
least `lead` superframes of lead over the one that carries it (R75, R77, R80, R117). -/
structure Msg where
  ty      : Nat
  seq     : Nat := 0
  payload : List Nat := []
  lead    : Nat := 0
  deriving DecidableEq, Repr

/-- A downstream superframe (R59, R67): its number; the setpoints of focus, tracking and tilt with their HOLD masks, the laser mode, the
write clock and its phase step; the channel-bit times of write data and the bit of the extent at which they begin; the gate instants in
1/8 ns, 0xffff for no change; the messages of codeword 0 and of each message codeword. -/
structure DsBlock where
  sf        : Nat := 0
  early     : List Int := [0, 0, 0]
  earlyHold : Nat := 7
  late      : List Int := [0, 0, 0]
  lateHold  : Nat := 7
  laser     : Nat := 0
  wrNco     : Nat := 0
  wrPhase   : Int := 0
  wrBits    : Nat := 0
  wrAt      : Int := 0
  openT     : Nat := 0xffff
  closeT    : Nat := 0xffff
  msgs      : List (List Msg) := []
  deriving DecidableEq, Repr

/-- What a head link holds beside its registers: marker runs and locks per lane (R60), declared losses, the uncorrectable
codewords of the last 16 superframes (R77), the lanes qualified at the last training, a failed lane kept in the normal map,
consecutive training failures and the time the state was entered (R75), the message state of both directions with the messages to be
sent again (R72), the mailbox queue (R81), the configuration messages on their way (R73), the last servo block with whether this superframe had one, the downstream superframe,
the codewords of each lane's last superframe (none where uncorrectable), the messages that arrived, by superframe, lane and codeword, the
protocol errors (R61), and the samples that each beam has in this superframe (R64; an erased sample is none). -/
structure Link where
  miss      : Map Nat := []
  hits      : Map Nat := []
  locked    : List Nat := []
  lost      : List Nat := []
  bad       : List (Nat × Nat) := []
  qual      : List Nat := []
  out       : List Nat := []
  kept      : Option Nat := none
  fails     : Nat := 0
  stateAt   : Nat := 0
  txSeq     : Nat := 0
  rxSeq     : Nat := 0
  unacked   : List Msg := []
  resend    : List Msg := []
  queued    : List Msg := []
  ackDue    : Option Nat := none
  retx      : Nat := 0
  idle      : Nat := 0
  rxq       : List Msg := []
  fullSince : Option Nat := none
  laneCfg   : Option (Nat × Nat × Nat × Nat) := none
  adcCfg    : Option (Nat × Nat × Nat) := none
  commitSf  : Option Nat := none
  identOk   : Bool := false
  ident     : List Nat := []
  retrained : Bool := false
  copy      : List Nat := []
  copySf    : Nat := 0
  nS        : Nat := 0
  phase     : Nat := 0
  timing    : Bool := false
  served    : Bool := false
  status    : Nat := 0
  flags     : Nat := 0
  laser     : Nat := 0
  rx        : Map (List (Option (Nat × List Nat))) := []
  inbox     : List (Nat × Msg) := []
  pong      : Option Nat := none
  proto     : Nat := 0
  samples   : Map (List (Option Int)) := []
  ds        : DsBlock := {}
  deriving DecidableEq, Repr

/-- What a servo holds beside its registers (R174 to R196): the invalid beams and their runs, the errors in 1/64 nm, the
measured TE_PP, the state a hold came from and its length in samples, the runs of the limits, the intended band and layer,
the last confirmed band, layer and side, the command's start and OP, its corrective seeks, the pull-in failures, the bands that
remain to cross, the band hold with its needed slots, why the lens was retracted, the sled target it sends, whether tracking
is open for the lens range with the sled's position then, and a command that waits for the end of a write session. As ticks: when the state was entered, the
seek began, the move landed. Of the sequences: the coils where a ramp began, whether a seek is under way, the bands a radial move
set out to cross, the sweep's position in samples and its direction, the normalised FE and its extremes over the S-curve with Σ SUM_j,
whether this sample is a capture and which layer the S-curve belongs to, the FE crossings of a layer jump and the tick its brake began,
the normalised TE with its extremes, crossings and the tick of the last one, and whether this sample is a crossing that may close
tracking (R180 to R182, R187, R191, R195). -/
structure Servo where
  invalid  : List Nat := []
  runs     : Map Nat := []
  fe       : Int := 0
  te       : Int := 0
  tilt     : Int := 0
  tePp     : Nat := 0
  heldFrom : Nat := 0
  holdLen  : Nat := 0
  missRun  : Nat := 0
  feRun    : Nat := 0
  teRun    : Nat := 0
  teClear  : Nat := 0
  offTrack : Bool := false
  steady   : Bool := false
  target   : Option (Nat × Nat) := none
  lastConf : Option (Nat × Nat × Nat) := none
  cmdAt    : Nat := 0
  cmdOp    : Nat := 0
  corr     : Nat := 0
  pullFail : Nat := 0
  captures : Nat := 0
  calSweep : Bool := false
  remain   : Int := 0
  mode     : Nat := 0
  landed   : Bool := false
  hold     : Option (Nat × List Nat) := none
  altSeam  : Bool := false
  entering : Bool := false
  jumpTo   : Nat := 0
  why      : Nat := 0
  seekBack : Bool := false
  offAfter : Bool := false
  noLoop   : List Nat := []
  held     : Nat := 0
  since    : Nat := 0
  base     : List Int := [0, 0, 0]
  seeking  : Bool := false
  seekAt   : Nat := 0
  landAt   : Nat := 0
  total    : Int := 0
  sweepPos : Int := 0
  back     : Bool := false
  feN      : Int := 0
  feHi     : Int := 0
  feLo     : Int := 0
  sumN     : Nat := 0
  capHit   : Bool := false
  capLayer : Option Nat := none
  cross    : Nat := 0
  brakeAt  : Option Nat := none
  teN      : Int := 0
  teHi     : Int := 0
  teLo     : Int := 0
  teCount  : Nat := 0
  teLast   : Nat := 0
  trkHit   : Bool := false
  coils    : List Int := [0, 0, 0]
  early    : List Int := [0, 0, 0]
  earlySet : Nat := 0
  earlyAt  : List Nat := [0, 0, 0]
  warned   : Bool := false
  following : Bool := false
  sledTo   : Option Int := none
  errs     : List (Int × Int) := []
  openRange : Bool := false
  sledFrom : Int := 0
  deferred : Option (Nat × Nat × Nat × List Nat) := none
  deriving DecidableEq, Repr

/-- A beam's timing loop (R109, R110): `mode` 0 holds, 1 acquires, 2 tracks; its phase correction in 1/65,536 channel bit and its
frequency trim in 1/1,000 ppm. -/
structure BeamLoop where
  mode  : Nat := 0
  phase : Int := 0
  trim  : Int := 0
  deriving DecidableEq, Repr

/-- A beam's dropout detector (R130): the magnitudes of the last 32 channel bits (newest first), the bits in a row outside and
inside the range, the flag. -/
structure Dropout where
  hist   : List Nat := []
  outRun : Nat := 0
  inRun  : Nat := 0
  flag   : Bool := false
  deriving DecidableEq, Repr

/-- A slot a data beam has open (R109, R112 to R116); `st`: 2 acquiring, 3 searching SM, 4 framed, 5 flywheel, 6 marks. Frames are
offsets in channel bits from the predicted frame: where SM was found, the frame RM2 to RM8 are searched in, the present frame, and
the start of each codeword decided so far. -/
structure OpenSlot where
  beam     : Nat
  addr     : Nat
  limit    : Nat
  verify   : Bool
  st       : Nat := 2
  sm       : Bool := false
  smAt     : Int := 0
  frame    : Int := 0
  base     : Int := 0
  starts   : List Int := []
  d1       : Option Int := none
  marks    : Nat := 0
  released : Nat := 0
  hyps     : List (Nat × Int) := []
  alts     : List Int := []
  held     : Bool := false
  lost     : Bool := false
  unframed : Bool := false
  deriving DecidableEq, Repr

/-- A codeword of a sector (R124, R139); `st`: 0 not released, 1 released, 2 waiting for an engine, 3 decoding, 4 converged,
5 pending in the ladder, 6 left the ladder unconverged. `chan` holds the detector's LLRs of the channel bits from 48 bits before
the codeword to 48 bits after it, `llr` the decoder's input under the frame hypothesis in turn, `store` its soft-store entry (R138,
R141). -/
structure Codeword where
  st     : Nat := 0
  rung   : Nat := 0
  erased : Nat := 0
  dominated : Bool := false
  iters  : Nat := 0
  chan   : List Int := []
  llr    : List Int := []
  store  : Option (List Int) := none
  data   : List Nat := []
  hyps   : List Int := []
  deriving DecidableEq, Repr

/-- A sector in detection or staging (R138, R139, R143): its request's highest rung, whether a verify revolution reads it, the
HOLD and LOST flags of its slot (R119), its alternate frames (R112), its codewords' start frames and the unframed flag (R114), its
codewords, whether it holds a staging slot, is drainable, is pinned (R142), the
cause and last rung of a loss (rung 7 once handed over), the rung at which its CRC-64 last failed (R139; 1 where that was before any
retry revolution). -/
structure Sector where
  addr    : Nat
  limit   : Nat
  verify  : Bool := false
  held    : Bool := false
  lost    : Bool := false
  alts    : List Int := []
  starts  : List Int := []
  unframed : Bool := false
  cws     : List Codeword := []
  slot    : Bool := false
  staged  : Bool := false
  pinned  : Bool := false
  cause   : Nat := 0
  rung    : Nat := 0
  crcAt   : Nat := 0
  deriving DecidableEq, Repr

/-- A loss record (R147). -/
structure LossRecord where
  addr  : Nat
  head  : Nat
  mask  : Nat
  cause : Nat
  rung  : Nat
  revs  : Nat
  deriving DecidableEq, Repr

/-- What a head channel holds beside its registers: the wobble PLL's NCO frequency in 1/65,536 Hz and its phase φ_w in 1/409,600 of
1/65,536 wobble period from angular index 0, with whether an accepted address unit has fixed it (R105, R108); the last accepted address unit with
the runs of R32 and R33, the wobble periods since it, the band of
each data beam, the timing loops, dropout detectors, equalizer taps and wobble amplitudes of the beams (R109, R125, R129, R130), the
codewords of each address released in its present read (R124, R128), the addresses reported Blank (R39), the open slots, the sectors in work, the addresses marked for re-read, the slots a firmware activation leaves unopened and whether its microcode waits for a seam (R506), the loss records waiting for the
parity engine, the fret asked for by the last ADC_CFG, the taps each beam's last codeword was equalized with (R126), and of the band under the ladder: its layer, the reads taken at the
present rung, the revolutions its present read still needs, whether a slot was abandoned in the last one and whether it was repeated, and
the adjacent bands to read. -/
structure Chan where
  nco      : Nat := 0
  phi      : Nat := 0
  phiOk    : Bool := false
  periods  : Nat := 0
  loops    : Map BeamLoop := []
  drops    : Map Dropout := []
  taps     : Map (List Int) := []
  wobAmp   : Map Int := []
  seen     : Map Nat := []
  blanks   : List Nat := []
  last     : Option AddrUnit := none
  expect   : Option AddrUnit := none
  agree    : Nat := 0
  differ   : Nat := 0
  mid      : List Nat := []
  foreignRun : Nat := 0
  foreign  : Bool := false
  bands    : Map Nat := []
  slots    : List OpenSlot := []
  sectors  : List Sector := []
  reread   : List Nat := []
  skip0    : List Nat := []
  newCode  : Bool := false
  losses   : List LossRecord := []
  eqSet    : Nat := 0
  eqReload : List Nat := []
  used     : Map (Nat × List Int) := []
  askedFret : Option Nat := none
  ladLayer : Nat := 0
  sub      : Nat := 0
  part     : Nat := 0
  again    : Bool := false
  repeated : Bool := false
  adjacent : List Nat := []
  deriving DecidableEq, Repr

/-- An attempt of a decoder pool: the head, the sector's address, the codeword, the rung. -/
structure Job where
  head : Nat
  addr : Nat
  cw   : Nat
  rung : Nat
  deriving DecidableEq, Repr

/-- An attempt that an engine runs: the iteration limit, ALPHA and STALL taken at its start (R133), and whether the queue reached
R1_HIGH since then (R135). -/
structure Attempt where
  engine : Nat
  job    : Job
  limit  : Nat
  alpha  : Nat
  stall  : Nat
  stop   : Bool := false
  deriving DecidableEq, Repr

/-- A decoder pool beside its registers (R135): the input queue in order, the rung-1 attempts waiting in the soft store, later
attempts that found the queue full, the busy engines, and the round robin's current values. -/
structure Pool where
  queue   : List Job := []
  soft    : List Job := []
  late    : List Job := []
  busy    : List Attempt := []
  cur     : Map Int := []
  deriving DecidableEq, Repr

/-- A chunk of a row in the hands of the write path: its set, row, home slot and the slot it is written to. -/
structure Chunk where
  set  : Nat
  row  : Nat
  home : Nat
  addr : Nat
  crc  : Nat
  stamp : Nat
  deriving DecidableEq, Repr

/-- What a head's write session holds beside its registers (R152 to R170): the extent (set, layer, fret, first band and bands),
the chunks under recording and verify, those that failed and passed, those of D31 of the band before that are verified again, and the failed
ones that wait for a later spare pass; the first
band and the bands of the pass under way, the write-clock bit count from the start of that band in units of 2^-39 bit, the bit at which the gate
opens; the superframes the causes of R168 have been clear, the bit and the tick at which the gate closed, whether a closure is asked for and
whether the gate closes in the next superframe; CAL_FORCE, the places checked for calibration in the session, the segments committed and
the table at the start of a calibration pass, whether it is being read back; the head's active and inactive pulse tables and the one
that waits for its commit; the chunks of D31 in the last band of the last extent with their disc and layer; whether the extra verify
revolution runs; the codeword from which a chunk is written as zeros (R157). -/
structure Write where
  set      : Nat := 0xffff
  layer    : Nat := 0
  fret     : Nat := 0
  first    : Nat := 0
  bands    : Nat := 0
  chunks   : List Chunk := []
  failed   : List Chunk := []
  passed   : List Chunk := []
  recheck  : List Chunk := []
  waiting  : List Chunk := []
  origin   : Nat := 0
  span     : Nat := 0
  pos      : Option Int := none
  openAt   : Option Int := none
  clear    : Nat := 0
  closedAt : Option (Int × Nat) := none
  closeReq : Bool := false
  shut     : Bool := false
  force    : Bool := false
  calDone  : List (Nat × Nat) := []
  calSeg   : Nat := 0
  calTable : List Nat := []
  calRead  : Bool := false
  active   : List Nat := []
  inactive : List Nat := []
  coming   : List Nat := []
  prev     : List Chunk := []
  prevOf   : Option (Nat × Nat) := none
  extra    : Bool := false
  cut      : Map Nat := []
  deriving DecidableEq, Repr

/-- What one head holds beside its registers. -/
structure Head where
  link : Link := {}
  sv   : Servo := {}
  ch   : Chan := {}
  wr   : Write := {}
  deriving DecidableEq, Repr

/-- A node member's evaluation that waits for its nodes (R212): the filtered error, the integrator before its update, u and
u_unsat. -/
structure CellPend where
  v     : Int
  integ : Int
  u     : Int
  unsat : Int
  deriving DecidableEq, Repr

/-- What a loop cell holds beside its registers (R203, R208, R209, R217): whether its present period has begun and whether it
has evaluated, been held or missed in it, the output computed last and the output applied in the last completed period, a
state copy due at the next boundary, the number of the boundary taken last, the time by which it must evaluate (1/160 ns), an evaluation
that waits for its nodes. -/
structure LoopCell where
  due  : Bool := false
  done : Bool := false
  cur  : Int := 0
  last : Int := 0
  copy : Bool := false
  at' : Option Nat := none
  dueBy : Nat := 0
  pend : Option CellPend := none
  deriving DecidableEq, Repr

/-- What a min-select node holds beside its registers (R212): whether it has resolved in the present period, its output, the
fixed-delay members whose boundary it waits for, whether an output waits. -/
structure LoopNode where
  done : Bool := false
  out  : Int := 0
  wait : List Nat := []
  held : Bool := false
  deriving DecidableEq, Repr

/-- What the loop engine holds beside its registers: cells, nodes, the coefficient queues of the tiles (cell, coefficient,
value; oldest first), the tiles in self-test, the loops that wait for a cell (0) or a shadow (1). -/
structure Loop where
  cells   : Map LoopCell := []
  nodes   : Map LoopNode := []
  queues  : Map (List (Nat × Nat × Nat)) := []
  testing : List Nat := []
  needs   : List (Nat × Nat) := []
  deriving DecidableEq, Repr

/-- What a bay link (0 to 31) or a carousel link (32 to 35) holds beside its registers (R85 to R95): the runs of periods with and without a
valid HEADER, whether one came in the present period, the superframe it named, whether the expander is identified, when training last
started; the raw input levels with the time of their last change, the K28.3 codes of this period and the toggles of the last 40 periods per
input; the HEADER flags sent, the expander's gate states, its PWM repeats in a row, the packets and the K28.2 codes sent in this period,
and what the expander applies in it. -/
structure BusLink where
  upRun    : Nat := 0
  downRun  : Nat := 0
  heard    : Bool := false
  sf       : Nat := 0
  known    : Bool := false
  trainAt  : Nat := 0
  raw      : Nat := 0
  deb      : Nat := 0
  changed  : Map Nat := []
  codesIn  : Map Nat := []
  toggles  : Map (List Nat) := []
  pwmEn    : Bool := false
  stepEn   : Bool := false
  gates    : Nat := 0
  repeats  : Nat := 0
  sent     : List (Nat × List Nat) := []
  codes    : List Nat := []
  act      : Map (List Nat) := []
  deriving DecidableEq, Repr

/-- What a spindle holds beside its registers (R229 to R240): target and reference speed (rpm, and 1/40,000 rpm), the open-loop angle of a
ramp in 1/96,000,000,000 electrical turn, a SET_SPEED recorded for RUN, a STOP deceleration, failed ramps; the runs of the loss, lock and
hand-over conditions; when the loss and the first recapture were and the losses since it, the wobble speed before the loss, the boundaries
until CATCH and whether COAST follows instead; the line voltages of the last period (mV), the last 12 crossings in 1/65,536 period with their
consistent run, the speed that the last interval shows (0.1 rpm) and the time of the last; when the state was entered; the torque command of
its node, the applied I_q, the regulators' integrators and voltages; the currents, bus voltage and angle last measured; the edges sent for
the next period (phase, on, off) by rising on time with the windows that are sampled, and those of the present one; NTC 2. -/
structure Spindle where
  target   : Nat := 0
  ref      : Nat := 0
  rampAcc  : Nat := 0
  recorded : Option Nat := none
  stopping : Bool := false
  rampFails : Nat := 0
  resRun   : Nat := 0
  pllRun   : Nat := 0
  wobRun   : Nat := 0
  predRun  : Nat := 0
  lockRun  : Nat := 0
  handRun  : Nat := 0
  lossAt   : Nat := 0
  recapAt  : Option Nat := none
  relost   : Nat := 0
  lastWob  : Nat := 0
  losing   : Nat := 0
  again    : Bool := false
  lines    : List Int := []
  crosses  : List Nat := []
  crossRun : Nat := 0
  crossRpm : Nat := 0
  crossAt  : Nat := 0
  stateAt  : Nat := 0
  relink   : Bool := false
  torque   : Int := 0
  iq       : Int := 0
  intD     : Int := 0
  intQ     : Int := 0
  vd       : Int := 0
  vq       : Int := 0
  mD       : Int := 0
  mQ       : Int := 0
  mNext    : Nat := 0
  edges    : List (Nat × Nat × Nat) := []
  wins     : Bool × Bool := (false, false)
  live     : List (Nat × Nat × Nat) := []
  liveWins : Bool × Bool := (false, false)
  ntc2     : Int := 0
  deriving DecidableEq, Repr

/-- What a carousel holds beside its registers (R241 to R247): whether the electrical offset is known, its value (1/65,536 turn) and when
the alignment began; the profile's target in counts, slot, speed (1/12,000,000 rpm) and position (counts × 28,800,000,000,000), and the
reference it feeds (0.001 rpm); the position at which homing began, whether it runs, the position at the home edge; the pending reversal
(OP, TARGET, DIR), the periods at rest; the runs of the chopper's conditions and the last bus voltage; the torque command, the applied I_q,
the regulators' integrators and voltages, the edges sent for the next period, the position at encoder count 0, the inverter. -/
structure Carousel where
  offset   : Bool := false
  elOfs    : Nat := 0
  alignAt  : Nat := 0
  target   : Int := 0
  slot     : Nat := 0
  profV    : Int := 0
  profPos  : Int := 0
  profile  : Int := 0
  homeFrom : Int := 0
  homing   : Bool := false
  edgePos  : Option Int := none
  reverse  : Option (Nat × Nat × Nat) := none
  restRun  : Nat := 0
  lowRun   : Nat := 0
  riseRun  : Nat := 0
  lastBus  : Nat := 0
  torque   : Int := 0
  iq       : Int := 0
  intD     : Int := 0
  intQ     : Int := 0
  vd       : Int := 0
  vq       : Int := 0
  edges    : List (Nat × Nat × Nat) := []
  encOfs   : Int := 0
  inverter : Bool := false
  deriving DecidableEq, Repr

/-- What an axis holds beside its registers (R255 to R269): 10^6 times the square of the speed in microsteps/s, the direction,
the target, the deceleration in use (microsteps/s²), the plan of a move (0 plain, 1 loader creep to an end, 2 reverse after a
stop, 3 STOP, 4 limit ramp, 5 homing in, 6 homing out, 7 leading to FAULT), the target after a reversal, the encoder misses,
the stall times, the time at rest, the interval to the next step and its time in reference periods, the chopper steps of phases A and B (0 off,
1 drive +, 2 drive −, 3 slow, 4 fast) with the start of the drive or the trip, the references in mA and those of the next period, a FOLLOW
that a coarse seek suspended, and the position at encoder count 0. -/
structure Axis where
  v2       : Nat := 0
  forward  : Bool := true
  target   : Int := 0
  dec      : Nat := 0
  plan     : Nat := 0
  after    : Option Int := none
  missRun  : Nat := 0
  stalls   : List Nat := []
  restAt   : Nat := 0
  ticks    : Nat := 0
  stepAt   : Nat := 0
  gateA    : Nat := 0
  gateB    : Nat := 0
  sinceA   : Nat := 0
  sinceB   : Nat := 0
  refA     : Int := 0
  refB     : Int := 0
  soonA    : Int := 0
  soonB    : Int := 0
  fallA    : Bool := false
  fallB    : Bool := false
  follow   : Bool := false
  leftAt   : Option Int := none
  homeFrom : Int := 0
  encOfs   : Int := 0
  end2     : Option Int := none
  deriving DecidableEq, Repr

/-- An entry of the grain map or of a fragment table (R288, R289). -/
inductive MapEntry where
  | unmapped
  | disc (set lbk : Nat)
  | frag (table : Nat)
  | buffer (page : Nat)
  | unavailable (cause : Nat)
  deriving DecidableEq, Repr

/-- A record on a disc (R50): its sector's address, REC_KIND, REC_SEQ and its body. -/
structure DiscRecord where
  addr : Nat
  kind : Nat
  seq  : Nat
  body : List Nat
  deriving DecidableEq, Repr

/-- A map checkpoint sector on a disc (R45, R293): its slot's ordinal within the checkpoint areas, its epoch, the highest
WRITE_STAMP and acceptance stamp assigned before it (R284, R380) and its pages, each with its index and its 512 entries. -/
structure CkptSector where
  slot  : Nat
  epoch : Nat
  wstamp : Nat
  stamp : Nat
  pages : List (Nat × List Nat)
  deriving DecidableEq, Repr

/-- What is known of the disc of one library slot: its inventory entry (R278, R407; `state` is coded as R407 codes it), the unit that formed
its set (R51), its descriptor generations, the records it carries with the next free slot of each record area (12 side + layer) and the last
REC_SEQ (R50, R51), the checkpoint sectors (R293), the remap table and its part that no batch holds yet (R52, R54), the spares used
(R53), the calibration results and bands used of each side, layer and fret (R55, R164), the mount failures of R321 and the bays where a head
failed with the disc mounted, the descriptor generations that wait for its next mount or write session (domain and DISC_STATE; R278). -/
structure Disc where
  state      : Nat := 0
  mediaId    : Nat := 0
  set        : Nat := 0xffff
  setId      : Nat := 0
  member     : Nat := 0
  width      : Nat := 0
  mounts     : Nat := 0
  fails      : Nat := 0
  losses     : Nat := 0
  flags      : Nat := 0
  skipped    : Nat := 0
  rows       : Nat := 0
  ckptNext   : Nat := 0
  former     : Nat := 0
  descs      : List Descriptor := []
  records    : List DiscRecord := []
  recNext    : Map Nat := []
  recSeq     : Nat := 0
  ckpts      : List CkptSector := []
  remaps     : Map Nat := []
  newRemaps  : List (Nat × Nat) := []
  spareUsed  : Map Nat := []
  calResults : Map Nat := []
  calUsed    : Map Nat := []
  importing  : Bool := false
  failRun    : Nat := 0
  failBay    : Nat := 0
  headBays   : List Nat := []
  owed       : List (Nat × Nat) := []
  deriving DecidableEq, Repr

/-- A host block a row carries: where it belongs, the buffer page that holds it, its acceptance stamp, and for a
re-placed block the place it was copied from (R281, R287). -/
structure Block where
  nsid  : Nat
  lba   : Nat
  page  : Nat
  stamp : Nat
  src   : Option (Nat × Nat)
  deriving DecidableEq, Repr

/-- A sealed row that is not durable yet (R283, R166), with the members whose heads have taken its chunk and those that verified it, and the DURABLE_ROW it was issued with
(R45). -/
structure Row where
  ord        : Nat
  wstamp     : Nat
  stream     : Nat
  stampFirst : Nat
  stampLast  : Nat
  pad        : Nat
  fua        : Bool
  blocks     : List Block
  taken      : List Nat
  verified   : List Nat
  durAt      : Option Nat
  deriving DecidableEq, Repr

/-- A filling row of a stream in the open set of a domain's slot (R282). -/
structure Filling where
  stream : Nat
  dom    : Nat
  slot   : Nat
  fua    : Bool
  blocks : List Block
  deriving DecidableEq, Repr

/-- An entry of the set table (R280); `st`: 0 free, 1 open, 2 sealed, 3 retiring. Beside it: the rows in flight, those that are durable with
their streams where that is not 0 (R294), the failed members and those that are never read again (R321), the damaged ordinals, the reads in
flight, the ordinal behind the rows handed to the write path, whether R291 or R300 raised it, whether it is being consolidated, whether its
write session is due and runs (R298), whether it is lost (R320); as issue numbers (R296): when the session became due, the consolidation and
the first failure began; when the session began; the LBK up to which its live blocks have been copied (R305, R320); its rows reported lost. -/
structure DiscSet where
  st       : Nat := 0
  setId    : Nat := 0
  width    : Nat := 0
  domain   : Nat := 0
  slot     : Nat := 0
  members  : List Nat := []
  nextOrd  : Nat := 0
  live     : Nat := 0
  rows     : List Row := []
  durable  : List Nat := []
  failed   : List Nat := []
  unread   : List Nat := []
  holes    : List Nat := []
  reads    : Nat := 0
  issued   : Nat := 0
  raised   : Bool := false
  consol   : Bool := false
  due      : Bool := false
  session  : Bool := false
  lost     : Bool := false
  streams  : Map Nat := []
  dueAt    : Nat := 0
  consAt   : Nat := 0
  failedAt : Nat := 0
  since    : Nat := 0
  copied   : Nat := 0
  lostRows : List Nat := []
  deriving DecidableEq, Repr

/-- A namespace: its grains and the functions it is attached to (R288, R402). -/
structure Namespace where
  nsid    : Nat
  base    : Nat
  grains  : Nat
  ready   : Bool
  deleted : Bool
  attach  : List Nat
  deriving DecidableEq, Repr

/-- An entry of the placement report (R408). -/
structure ReportEntry where
  seq   : Nat
  kind  : Nat
  set   : Nat
  value : Nat
  stamp : Nat
  deriving DecidableEq, Repr

/-- A bay's mounts (R271, R297, R407): the library slot of its disc, the phase of R271 (0 none, 1 carousel, 2 loader, 3 spin-up,
4 calibration, 5 mounted; dismounting: 6 spindle stop, 7 carousel, 8 loader), the band its sleds go to, whether a dismount waits, when
the disc was mounted and when work on it was last served, whether its tray was found empty after the loader phase (R413), the bay's mounts, mount failures, retry revolutions and the mounted time that
has ended (reference periods). -/
structure MountSt where
  disc    : Nat := 0
  phase   : Nat := 0
  band    : Nat := 0
  leave   : Bool := false
  since   : Nat := 0
  busyAt  : Nat := 0
  empty   : Bool := false
  count   : Nat := 0
  fails   : Nat := 0
  retry   : Nat := 0
  time    : Nat := 0
  deriving DecidableEq, Repr

/-- What the placement engine holds beside its registers: the discs by library slot, the set table, the filling rows, the map with its
fragment tables, the unavailable blocks with the domain that lost them, the namespaces; the formation counter, the rows sealed in this epoch,
the pages changed in it and those that wait to be checkpointed with their content (R293); the placement report (R408); the leaves' bays and
carousels, what is out of service, the mounts; the drain credits granted last (16 × leaf + order of R302), the highest admitted stamp, the
epoch whose checkpoint is complete, the set that holds each page's newest copy (R526), the pages changed since the last journal segment, and
the number that the next internal work is issued with (R296), and the time of the last grant (R302). -/
structure Lib where
  discs     : Map Disc := []
  sets      : Map DiscSet := []
  filling   : List Filling := []
  gmap      : Map MapEntry := []
  frags     : Map MapEntry := []
  fragUsed  : List Nat := []
  unavail   : Map Nat := []
  spaces    : List Namespace := []
  formCtr   : Nat := 0
  rowsSince : Nat := 0
  changed   : List Nat := []
  closing   : List (Nat × List Nat) := []
  report    : List ReportEntry := []
  reportSeq : Nat := 0
  reportRead : Nat := 0
  overwritten : Nat := 0
  leafBays  : Map Nat := []
  leafCar   : Map Nat := []
  bayOut    : List Nat := []
  carOut    : List Nat := []
  mounts    : Map MountSt := []
  granted   : Map Nat := []
  maxStamp  : Nat := 0
  ckptEpoch : Nat := 0
  pageHome  : Map Nat := []
  jpages    : List Nat := []
  issue     : Nat := 0
  grantAt   : Nat := 0
  deriving DecidableEq, Repr

/-- A copy of the library directory in the boot flash (R525): its generation, the inventory, the set table, the namespaces, the
formation counter and the WRITE_STAMP counter. -/
structure Directory where
  gen     : Nat
  discs   : Map Disc
  sets    : Map DiscSet
  spaces  : List Namespace
  formCtr : Nat
  wstamp  : Nat
  deriving DecidableEq, Repr

/-- What the buffer holds of a sector read from a disc or reconstructed: clean data, named by library slot and ordinal, with the nine pages
it takes (R319, R343). -/
structure CleanSector where
  disc    : Nat
  ord     : Nat
  payload : List Nat
  pages   : List Nat
  deriving DecidableEq, Repr

/-- What is known of a sector that its head handed over or found Blank, once its disc has left the bay (R147, R316): the library slot and the
home ordinal, the codewords that are unavailable, the bytes of all nine. -/
structure PartSector where
  disc  : Nat
  ord   : Nat
  mask  : Nat
  words : List (List Nat)
  deriving DecidableEq, Repr

/-- A chunk that a rebuild context hands to the write path (R324): the spare, the set, the ordinal, the member index, the payload; whether it
goes to a spare slot at once, its own slot being written and bad (R329), and whether an extent has taken it. -/
structure RebuiltChunk where
  disc    : Nat
  set     : Nat
  ord     : Nat
  member  : Nat
  payload : List Nat
  aside   : Bool
  taken   : Bool
  deriving DecidableEq, Repr

/-- What the parity engine holds beside its registers. By rebuild context: the start of the present second and the rows counted in it, the
issue number of its failure (R296, R325), the ordinal at which the present spare of MEMBER1 was begun and from which on it is complete (R327),
whether it resumes and reads its spares forward (R329), the fraction of a drain credit that its floor carries (R325; 1/32,768 credit). The
cursors that the map checkpoints on disc hold, by set handle for a rebuild and 65,536 + set handle for a reshape; the clean sectors, and
those handed over by heads that their discs have left; the rebuilt chunks in the hands of the write path; the erasures that failed checks add (set, row, index; R318); the reshape contexts that
resume (R334). -/
structure Par where
  rateAt   : Map Nat := []
  rateRows : Map Nat := []
  begun    : Map Nat := []
  start1   : Map Nat := []
  have1    : Map Nat := []
  probing  : List Nat := []
  floorAcc : Map Nat := []
  ckpt     : Map Nat := []
  clean    : List CleanSector := []
  part     : List PartSector := []
  out      : List RebuiltChunk := []
  doubt    : List (Nat × Nat × Nat) := []
  resumed  : List Nat := []
  deriving DecidableEq, Repr

/-- A line of the map cache: its line address BA >> 7, whether it is dirty, its age, its 128 bytes (R356, R357). -/
structure CacheLine where
  la    : Nat
  dirty : Bool
  age   : Nat
  data  : Nat
  deriving DecidableEq, Repr

/-- An access to the mirrored range: the requester as ERR_LOG numbers it, with the pair of a management core, the address, and for a write the
64-byte halves it covers (1 low, 2 high, 3 both) with the line's data (R349, R356). -/
structure CacheAccess where
  req   : Nat
  pair  : Nat
  ba    : Nat
  write : Option (Nat × Nat)
  deriving DecidableEq, Repr

/-- A stream detector: the last miss line it follows and its direction once trained (R359). -/
structure Detector where
  la  : Nat
  dir : Option Bool
  deriving DecidableEq, Repr

/-- A map cache slice beside its lines: the outstanding miss, the accesses that wait, the side buffer with its oldest entry
last, the detectors with the last allocated first, the times of the uncorrectable errors of the last second (R358, R359, R362). -/
structure Slice where
  miss    : Option CacheAccess := none
  waiting : List CacheAccess := []
  side    : List (Nat × Nat) := []
  det     : List Detector := []
  ueTimes : List Nat := []
  deriving DecidableEq, Repr

/-- What the buffer memory controller and the map cache hold beside their registers: the raw words of the channels (data
below, check bytes above; key channel × 2^31 + word), the valid bits (key channel × 2^32 + line), the summary bits, by channel the times
of the corrections of the last hour and of the uncorrectable words of the second before the latest, the corrections by device, the
cache lines (key (slice × 8192 + set) × 16 + way), the slices, a maintenance operation that waits for a fill; the line key at which patrol
scrub stands, none between passes, and when its pass began (R353); when the last bitmap clear began (R350). -/
structure Buf where
  words   : Map Nat := []
  valid   : Map Nat := []
  summary : Map Nat := []
  ceTimes : Map (List Nat) := []
  ueTimes : Map (List Nat) := []
  devices : Map Nat := []
  answer  : Nat := 0
  lines   : Map CacheLine := []
  slices  : Map Slice := []
  maint   : Option (Nat × Nat) := none
  scrub   : Option Nat := some 0
  scrubAt : Nat := 0
  clearAt : Nat := 0
  deriving DecidableEq, Repr

/-- A completion entry posted to the host, with the blocks (LBA and value) or the bytes that its command transferred. -/
structure Completion where
  fn     : Nat
  qid    : Nat
  cid    : Nat
  sct    : Nat
  sc     : Nat
  dnr    : Nat
  dw0    : Nat
  dw1    : Nat
  blocks : List (Nat × Nat)
  bytes  : List Nat
  deriving DecidableEq, Repr

/-- An entry of the Error Information log page (R393): its number among its function's errors, the failing LBA and the cause of
R288 for an unrecovered read. -/
structure ErrEntry where
  fn    : Nat
  qid   : Nat
  cid   : Nat
  sct   : Nat
  sc    : Nat
  lba   : Nat
  nsid  : Nat
  cause : Nat
  count : Nat
  deriving DecidableEq, Repr

/-- A queue that a context holds (R375, R377): for a submission queue its completion queue, class, tail and, of each entry
not fetched yet, when its doorbell arrived; the Delete command that waits for its commands; for a completion queue its interrupt vector,
where it has one (R374). -/
structure Queue where
  fn       : Nat
  qid      : Nat
  sub      : Bool
  ctx      : Nat
  size     : Nat
  cq       : Nat
  cls      : Nat
  tail     : Nat
  bells    : List Nat
  deleting : Option Nat
  vector   : Option Nat
  deriving DecidableEq, Repr

/-- Where an I/O command stands: arrived; waiting under R381; reading or transferring data (it has resolved or taken its
pages); waiting for admission; admitted and waiting for its rows; a Flush that waits. -/
inductive Phase where
  | arrived
  | ordering
  | transfer
  | dataIn
  | admission
  | durable
  | flushing
  deriving DecidableEq, Repr

/-- An I/O command in a slot (R376 to R389). `ranges` is none while a range list has not been read; `resolved` holds what a
reading command's blocks resolved to; `mute`: its function has been reset, so that no entry is posted (R396); `reserved`: a field of its entry
has a reserved or unsupported value (R393). -/
structure Cmd where
  stamp    : Nat
  fn       : Nat
  qid      : Nat
  cid      : Nat
  cls      : Nat
  bell     : Nat
  opc      : Nat
  nsid     : Nat
  ranges   : Option (List (Nat × Nat))
  fua      : Bool
  hint     : Nat
  arg      : Nat
  phase    : Phase
  pages    : List Nat
  resolved : List (Nat × MapEntry)
  decided  : Bool
  stalled  : Bool
  through  : Bool
  mute     : Bool
  reserved : Bool
  deriving DecidableEq, Repr

/-- One 1 MiB-aligned part of an admitted write that is dirty (R425, R431); a write-through unit of R428 is marked. -/
structure DirtyUnit where
  stamp   : Nat
  nsid    : Nat
  lba     : Nat
  pages   : List Nat
  through : Bool
  deriving DecidableEq, Repr

/-- A block that a Recall has staged (R411, R412): its disc location, where it belongs, whose quota it counts in, until
when it is held, and its Recall's acceptance stamp. -/
structure Staged where
  fn    : Nat
  set   : Nat
  lbk   : Nat
  nsid  : Nat
  lba   : Nat
  ends  : Nat
  stamp : Nat
  deriving DecidableEq, Repr

/-- A tablature or firmware download session (R415, R498): its holder (512 for the sideband), the bytes by dword or byte
offset, when it was last used. -/
structure Session where
  holder : Nat
  bytes  : Map Nat
  used   : Nat
  deriving DecidableEq, Repr

/-- What the host interface holds beside its registers: the queues, the entries on their way from host memory (function,
queue, doorbell time), the commands in slots, what was posted to the host (newest first), feature values by function × 256
+ identifier, the arbitration choice of each function, the error log, the units of dirty data, the staged blocks, the
arbitration turns, the asynchronous event requests and events, the buffer releases that wait for a pin, the streams that
Directives allocated (function, namespace, identifier, placement stream), the inventory work, the sessions, the Commit whose activation runs,
the page generations with the content that was last read of each, the sideband request under way, the namespaces changed since a function read its
Changed Namespace List, the flexible contexts of the VFs, and by host link a mask of the lanes found faulty since it last trained whole (R372). -/
structure HostSt where
  queues   : List Queue := []
  fetching : List (Nat × Nat × Nat) := []
  cmds     : List Cmd := []
  posted   : List Completion := []
  features : Map Nat := []
  ams      : Map Nat := []
  errors   : List ErrEntry := []
  units    : List DirtyUnit := []
  staged   : List Staged := []
  last0    : Nat := 0
  lastQ    : Nat := 0
  turns    : Nat := 0
  aers     : List (Nat × Nat) := []
  sent     : List (Nat × Nat) := []
  held     : List (Nat × Nat) := []
  relWait  : List Nat := []
  streams  : List (Nat × Nat × Nat × Nat) := []
  nextStr  : Nat := 0
  importQ  : List Nat := []
  tabSess  : Option Session := none
  fwSess   : Option Session := none
  fwCmd    : Option (Nat × Nat) := none
  pageGen  : Map Nat := []
  pageSeen : Map (List Nat) := []
  sideband : Option Nat := none
  nsChanged : List (Nat × Nat) := []
  flexible : Map Nat := []
  badLanes : Map Nat := []
  deriving DecidableEq, Repr

/-- A record of the vault journal (R329, R333, R421): an admission; an issued row with its host blocks (namespace, LBA, stamp);
its durability mark; a changed map page with its 512 entries; the cursor of the rebuild of a set (its handle) or of its
reshape (65,536 + handle); a remap that no batch on its disc holds yet (R52). -/
inductive JournalRecord where
  | admitted (stamp nsid lba n : Nat)
  | issued (set ord wstamp : Nat) (blocks : List (Nat × Nat × Nat))
  | durable (set ord : Nat)
  | page (index : Nat) (words : List Nat)
  | cursor (key value : Nat)
  | remap (disc home spare : Nat)
  deriving DecidableEq, Repr

/-- A segment of the journal ring (R421), with the map epoch it was written in. -/
structure Segment where
  epoch   : Nat
  records : List JournalRecord
  deriving DecidableEq, Repr

/-- A unit in the dump area (R431): its data blocks, and for each whether both copies were bad; `intact` tells whether its
record's CRC passes. -/
structure DumpUnit where
  stamp  : Nat
  nsid   : Nat
  lba    : Nat
  blocks : List Nat
  lost   : List Bool
  intact : Bool
  deriving DecidableEq, Repr

/-- A vault header (R421): generation, state (0 clean, 1 running, 2 dump started), the journal's head and tail as segment
numbers, the highest acceptance stamp; `ok` tells whether its CRC passes. -/
structure VaultHeader where
  gen   : Nat
  state : Nat
  head  : Nat
  tail  : Nat
  stamp : Nat
  ok    : Bool
  deriving DecidableEq, Repr

/-- The vault's content (R421, R431). -/
structure Vault where
  headerA : Option VaultHeader := none
  headerB : Option VaultHeader := none
  ring    : List Segment := []
  first   : Nat := 0
  dump    : List DumpUnit := []
  dumpTail : List JournalRecord := []
  dumpLines : List (Nat × Nat) := []
  deriving DecidableEq, Repr

/-- What the power-loss block holds beside its registers: the vault, the journal tail not yet written to the ring, the bank
samples of the last 1 ms (newest first) and the bank voltage they give (µV), the samples in a row below V_LOSS, the first
reading of a capacitance test that runs and when it began, when the last periodic test began, the state of a header whose write was
deferred, when the power loss was declared, the restored units whose map changes are held, the blocks (stamp, namespace, LBA) that
their lost-block masks name, whether start-up found no usable vault, whether the dump runs and has ended in this power cycle,
whether the header start-up found had state 1, and the lost-data warning of R434. -/
structure Plp where
  vault    : Vault := {}
  tail     : List JournalRecord := []
  samples  : List Nat := []
  bank     : Nat := 0
  low      : Nat := 0
  testV0   : Option Nat := none
  testAt   : Nat := 0
  capAt    : Option Nat := none
  header   : Option Nat := none
  lossAt   : Nat := 0
  units    : List DirtyUnit := []
  maskLost : List (Nat × Nat × Nat) := []
  noVault  : Bool := false
  dumping  : Bool := false
  dumped   : Bool := false
  state1   : Bool := false
  lossWarn : Bool := false
  deriving DecidableEq, Repr

/-- What the thermal block holds beside its registers (R439 to R449): for each die sensor the samples in a row outside and inside
its tolerance, the laser warnings by head and the NTC warnings (2 × bay + 0 for NTC 1, + 1 for NTC 2), the last time a reading
lay near a threshold, when the throttle last set, the step that the grace or the removal left, the step TMT1 and
TMT2 demand, when the throttle's own step last advanced, when the throttle cleared or a step was last removed, the last sample, when an orderly
stop began, the parked bays in the order they were parked, the bays slowed to 4,800 rpm, the bays
under relief, the transitions to and the reference periods in each host-controlled step with the start of the present one (R445),
the orderly stop (0 none, 1 running, 2 held), the wake-timer times of the thermal shutdowns, newest first (always-on domain). -/
structure Thermal where
  outside  : Map Nat := []
  inside   : Map Nat := []
  lWarn    : List Nat := []
  ntcWarn  : List Nat := []
  nearAt   : Option Nat := none
  setAt    : Nat := 0
  own      : Nat := 0
  tmt      : Nat := 0
  ownAt    : Nat := 0
  removeAt : Nat := 0
  sampleAt : Option Nat := none
  stopAt   : Nat := 0
  parked   : List Nat := []
  slowed   : List Nat := []
  relief   : List Nat := []
  tmtN     : Map Nat := []
  tmtT     : Map Nat := []
  tmtAt    : Nat := 0
  stop     : Nat := 0
  shutAt   : List Nat := []
  deriving DecidableEq, Repr

/-- A Calibrate command that waits (R417, R463): function (512 for the sideband, 513 for a register or start-up), command
identifier, action, expander mask, restore image. -/
structure CalJob where
  fn     : Nat
  cid    : Nat
  action : Nat
  mask   : Nat
  image  : List Nat
  deriving DecidableEq, Repr

/-- What the calibration block holds beside its registers (R458 to R463): the procedure under way, those that wait, what its first
steps read, its steps still to come with their PWM periods and the periods of the present one, the DAC voltages last measured (µV, by link die),
the sums and counts of the codes at each point (2 × expander + point), the expanders skipped, whether a value changed, when the last automatic run
began, the items software has written while they were measured, the items written and not yet in force, the commands (function, identifier) that wait for them,
when steps 1 and 2 last passed, when each item's value was set. Items are numbered as R462 numbers its entries. -/
structure Cal where
  job     : Option CalJob := none
  waiting : List CalJob := []
  seen    : CalSeen := ⟨0, [], (0, 0)⟩
  plan    : List (Nat × Nat) := []
  period  : Nat := 0
  dacs    : List (Nat × Nat) := []
  sums    : Map Nat := []
  counts  : Map Nat := []
  skip    : List Nat := []
  changed : Bool := false
  autoAt  : Nat := 0
  written : List Nat := []
  fresh   : List Nat := []
  done    : List (Nat × Nat) := []
  refAt   : Option Nat := none
  setAt   : Map Nat := []
  deriving DecidableEq, Repr

/-- A settings copy in the boot flash (R511): its generation, FORMAT, the writing firmware's version, the features and the
register values it holds (by bit address); `ok` tells whether its CRC passes. -/
structure Settings where
  gen      : Nat
  format   : Nat
  version  : Nat
  features : Map Nat
  regs     : Map Nat
  ok       : Bool
  deriving DecidableEq, Repr

/-- One letter of the firmware slots (R496, R504): the images and the versions of components 0 to 4, the security version, the
hardware type and the unit it is bound to (R1, R503), the key slot that signed the management firmware, the COMPAT ranges of each component (minimum and maximum for components 0 to 4)
and the tablature FORMATs it loads, and whether it may be activated. -/
structure Letter where
  images   : List (List Nat) := []
  versions : List Nat := []
  secVer   : Nat := 0
  hwType   : Nat := 0
  unit     : Nat := 0
  signer   : Nat := 0
  compat   : List (List (Nat × Nat)) := []
  tabFmt   : Nat × Nat := (1, 1)
  valid    : Bool := false
  deriving DecidableEq, Repr

/-- The firmware in the boot flash with its update journal (R496, R504 to R511): letters A and B, the letter in use, the letter
armed for the next start-up, the journal's state (0 IDLE to 4 COMMITTED), the components switched by the activation under way
(in order) and its step, the start-ups of the new letter that have not reached the host interface, the settings copies, the copy
in use and the copy the old letter used, the fallbacks. -/
structure Firmware where
  letterA   : Letter := {}
  letterB   : Letter := {}
  active    : Nat := 0
  armed     : Nat := 0
  state     : Nat := 0
  switched  : List Nat := []
  starts    : Nat := 0
  set0      : Option Settings := none
  set1      : Option Settings := none
  setUse    : Nat := 0
  setOld    : Nat := 0
  fallbacks : Nat := 0
  fellBack  : Bool := false
  deriving DecidableEq, Repr

/-- The boot flash (R487, R496, R525): the tablature copies as their bytes (empty: erased), the firmware, the two copies of the
library directory. The fatal dump's area stands with the management complex. -/
structure Flash where
  tabA : List Nat := []
  tabB : List Nat := []
  fw   : Firmware := {}
  dirA : Option Directory := none
  dirB : Option Directory := none
  deriving DecidableEq, Repr

/-- What the fuse block holds beside its registers (R466, R473): the array's words that are not zero, the programming operation
under way (word, mask) and when it began. -/
structure Fuse where
  words : Map Nat
  op    : Option (Nat × Nat) := none
  opAt  : Nat := 0
  deriving DecidableEq, Repr

/-- The words of a factory MLN-3264 (R467 to R470): HW_TYPE 0x01040100, CAL_MODE, the factory bounds, converter trims of gain 1
and the FACTORY_CRC over them (log entry 2). -/
def factoryFuses : Map Nat :=
  [(0, 0x01040100), (3, 0x10), (5, 0x144b464173695f), (6, 0x290403200200), (7, 0x57c2bb61), (56, 0x40000000), (57, 0x40000000)]

/-- What the power sequencer holds beside its registers (R430, R448, R521, R527): the entry under way (0 none, 1 to Poised, 2
to Parked before the spindles' STOP, 3 to Parked after it), whether a wake waits for its end or Dormant follows it or a request is held until then, whether
the controller is in Dormant, why it is held in reset (0 not, 1 power loss, 2 thermal shutdown, 3 RESET_N), whether command
fetch is stopped, whether start-up has run and made CSTS.RDY eligible, the ports whose PERST# is asserted and when, a power loss
declared in this power cycle, a reset that waits for the dump (1 RESET_N, 2 the release of a fatal hold), the functions in D3hot,
the last time a command or disc-bound work stood, and a rail or VAON fault before RESET_N rose. -/
structure Pwr where
  phase     : Nat := 0
  wake      : Bool := false
  toDorm    : Bool := false
  held      : Bool := false
  dormant   : Bool := false
  hold      : Nat := 3
  fetchOff  : Bool := false
  started   : Bool := false
  rdyOk     : Bool := false
  perst     : Map Nat := []
  powerLoss : Bool := false
  resetDue  : Nat := 0
  d3        : List Nat := []
  wakeAcc   : Nat := 0
  workAt    : Nat := 0
  cmdAt     : Nat := 0
  railBad   : List Nat := []
  deriving DecidableEq, Repr

/-- The fatal-state dump (R542, R544, R545): its header, and the sections as the model holds them: the event log, the fault
log, the register snapshot by bit address, the pairs' bus errors, the firmware trace ring, the retained words. -/
structure Dump where
  cause    : Nat
  detail   : Nat
  time     : Nat
  tabSeq   : Nat
  fwVer    : Nat
  flags    : Nat
  pair     : Nat
  log      : List LogEntry
  faults   : List FaultRecord
  regs     : Map Nat
  busErrs  : List (Nat × Nat × Nat)
  trace    : List Nat
  retained : List Nat
  deriving DecidableEq, Repr

/-- What the management complex holds beside its registers: the pairs' bus errors (pair, address, requester; newest first),
when each watchdog was last restarted, the firmware's trace ring as last published, the times of the last fatal restarts,
the fatal dumps held in SRAM and in the boot flash, when the fatal state was entered, whether the dump engine runs, when the
probation of new firmware began and whether a settings commit has ended its 10 minutes (R509). -/
structure Mgt where
  busErrs  : List (Nat × Nat × Nat) := []
  kicked   : Map Nat := []
  trace    : List Nat := []
  restarts : List Nat := []
  sram     : Option Dump := none
  flash    : Option Dump := none
  entered  : Nat := 0
  dumping  : Bool := false
  probAt   : Nat := 0
  probDue  : Bool := false
  deriving DecidableEq, Repr

/-- The whole state of the block: the register window, the queue of waiting commands, and what the units hold beside
their registers. -/
structure State where
  /-- The register window: the last value of every field that differs from what it was loaded with, by bit address. -/
  regs : Map Nat
  /-- What start-up loaded into the "tab" and "fuse" fields (R12, R466, R485), by bit address. -/
  loaded : Map Nat
  /-- The values in force of the RWB fields (R10), by bit address. -/
  force : Map Nat
  /-- The commands that wait, first in, first out. -/
  pending : List Instr
  /-- The model's own counter of the free values drawn so far (log entry 4). -/
  fresh : Nat
  /-- What the last read of the window answered. -/
  busData : Nat
  /-- The high halves latched for requesters (R4), keyed by requester × 2^28 + offset. -/
  shadows : Map Nat
  /-- The low halves held for requesters (R4), keyed in the same way. -/
  held : Map Nat
  /-- The servo tick's phase accumulator (R516). -/
  tickAcc : Nat
  /-- The event log, newest entry first, at most 1,024 entries (R533). -/
  log : List LogEntry
  /-- The recovery windows that are open (R536). -/
  windows : List OpenWindow
  /-- The fault log, newest first, at most 64 entries (R545). -/
  faultLog : List FaultRecord
  /-- The redundancy domains that are exposed: kind and instance (R535). -/
  exposed : List (Nat × Nat)
  /-- The control-tree operations that wait, in order of arrival (R17). -/
  tree : List TreeOp
  /-- The control-tree operations that ended, newest first: true where a subtree reset ended it with a reset status (R17). -/
  treeDone : List (TreeOp × Bool)
  /-- The heads' links, servos, channels and write sessions. -/
  heads : Map Head
  /-- The 16 decoder pools. -/
  pools : Map Pool
  /-- The loop engine's cells, nodes and queues. -/
  loop : Loop
  /-- The bay links (0 to 31) and carousel links (32 to 35). -/
  buses : Map BusLink
  /-- The spindles, by bay. -/
  spindles : Map Spindle
  /-- The carousels. -/
  carousels : Map Carousel
  /-- The axes, by 4 × bay + axis. -/
  axes : Map Axis
  /-- The placement engine: discs, sets, rows, map, namespaces, reports, mounts. -/
  lib : Lib
  /-- The parity engine: its contexts, recorded cursors, clean sectors in the buffer and rebuilt chunks. -/
  par : Par
  /-- The buffer memory and the map cache. -/
  buf : Buf
  /-- The host interface and the administrative commands. -/
  host : HostSt
  /-- The power-loss block and the vault. -/
  plp : Plp
  /-- The thermal block. -/
  thm : Thermal
  /-- The calibration block. -/
  cal : Cal
  /-- The tablature in force, as its bytes (R480); empty until start-up has loaded one. -/
  tab : List Nat
  /-- The boot flash. -/
  flash : Flash
  /-- The fuse array. -/
  fuse : Fuse
  /-- The highest SEQ of a copy that has passed validation since start-up (R416, R488). -/
  tabPassed : Nat
  /-- The power sequencer. -/
  pwr : Pwr
  /-- The management complex and the fatal-state dumps. -/
  mgt : Mgt
  deriving DecidableEq, Repr

/-- The block right after reset: no register written, no unit instantiated, no command waiting (R2, R12, R522). -/
def State.reset : State :=
  { regs := [],
    loaded := [],
    force := [],
    pending := [],
    fresh := 0,
    busData := 0,
    shadows := [],
    held := [],
    tickAcc := 0,
    log := [],
    windows := [],
    faultLog := [],
    exposed := [],
    tree := [],
    treeDone := [],
    heads := [],
    pools := [],
    loop := {},
    buses := [],
    spindles := [],
    carousels := [],
    axes := [],
    lib := {},
    par := {},
    buf := {},
    host := {},
    plp := {},
    thm := {},
    cal := {},
    tab := [],
    flash := {},
    fuse := { words := factoryFuses },
    tabPassed := 0,
    pwr := {},
    mgt := {} }

/-- The outcome of a command. -/
abbrev Out := Host.Outcome State Fault Refusal

end Sys2Proof.Machine
end

