-- ==== Sys2Proof/Machine/Ops.lean ====
section
/-! DEFINITION. The named operations over the register window: reading and writing a field, counters that saturate, the
values in force of RWB fields, which units exist, resetting a block, and the model's free values. -/

namespace Sys2Proof.Machine

/-- The reset value of the rows that hold a field, within one block at offset `o` of the block. -/
def resetIn (o lsb : Nat) : List RegRow → Option Nat
  | [] => none
  | r :: rs =>
    if r.off ≤ o ∧ (o - r.off) % r.stride = 0 ∧ (o - r.off) / r.stride < r.count ∧ r.lsb = lsb then some r.reset
    else resetIn o lsb rs

/-- The offset within a block's instance of a window offset, where the block holds it. -/
def RegBlock.inner (k : RegBlock) (off : Nat) : Option Nat :=
  if off < k.base then none
  else
    let d := off - k.base
    let i1 := if k.n1 = 1 then 0 else d / k.stride1
    let d1 := d - i1 * k.stride1
    let i2 := if k.n2 = 1 then 0 else d1 / k.stride2
    let d2 := d1 - i2 * k.stride2
    if i1 < k.n1 ∧ i2 < k.n2 ∧ d2 < k.size then some d2 else none

/-- The reset value of a field, from the register tables (R2). -/
def resetAt (f : Fld) : List RegBlock → Nat
  | [] => 0
  | k :: ks =>
    match k.inner f.off with
    | none => resetAt f ks
    | some o =>
      match resetIn o f.lsb k.rows with
      | none => resetAt f ks
      | some v => v

/-- What a field holds that nothing has written since the reset of its block: what start-up loaded, else its reset value. -/
def deflt (s : State) (f : Fld) : Nat := mapGet (fun _ => resetAt f regBlocks) s.loaded f.key

/-- The value a field holds. -/
def get (s : State) (f : Fld) : Nat := mapGet (fun _ => deflt s f) s.regs f.key

/-- A field written by its own unit or by software: cut to the field's width. -/
def put (f : Fld) (v : Nat) (s : State) : State := { s with regs := mapPut s.regs f.key (trunc f.width v) }

/-- A signed value written to a field in two's complement. -/
def putI (f : Fld) (v : Int) (s : State) : State := put f (ofSigned f.width v) s

/-- The signed value a field holds. -/
def getI (s : State) (f : Fld) : Int := toSigned f.width (get s f)

/-- A flag field as a truth value. -/
def isSet (s : State) (f : Fld) : Bool := decide (get s f = 1)

/-- A flag field written. -/
def putB (f : Fld) (v : Bool) (s : State) : State := put f (if v then 1 else 0) s

/-- A counter advanced by `n` that stays at its largest value. -/
def bump (f : Fld) (n : Nat) (s : State) : State := put f (satAdd f.width (get s f) n) s

/-- A peak register: the larger of what it holds and the new value. -/
def peak (f : Fld) (v : Nat) (s : State) : State := put f (max (get s f) v) s

/-- Several fields written one after the other. -/
def putAll : List (Fld × Nat) → State → State
  | [], s => s
  | (f, v) :: fs, s => putAll fs (put f v s)

/-- Several counters cleared. -/
def clearAll (fs : List Fld) (s : State) : State := putAll (fs.map fun f => (f, 0)) s

/-- The value in force of an RWB field (R10): what its last boundary took, else what the field was loaded with. -/
def inForce (s : State) (f : Fld) : Nat := mapGet (fun _ => deflt s f) s.force f.key

/-- The signed value in force of an RWB field. -/
def inForceI (s : State) (f : Fld) : Int := toSigned f.width (inForce s f)

/-- A boundary of an RWB field: the last value written comes into force (R10). -/
def takeForce (f : Fld) (s : State) : State := { s with force := mapPut s.force f.key (get s f) }

/-- The boundary of several RWB fields. -/
def takeForces : List Fld → State → State
  | [], s => s
  | f :: fs, s => takeForces fs (takeForce f s)

/-- A value loaded into a "tab" or "fuse" field during start-up. -/
def load (f : Fld) (v : Nat) (s : State) : State := { s with loaded := mapPut s.loaded f.key (trunc f.width v) }

/-- The registers of the window bytes `[lo, hi)` back at their reset or loaded values (R2, R522). -/
def resetWindow (lo hi : Nat) (s : State) : State :=
  { s with regs := mapEraseRange s.regs (8 * lo) (8 * hi), force := mapEraseRange s.force (8 * lo) (8 * hi) }

/-- A value the manual leaves open: the next free value, cut to `w` bits, and the state after drawing it. -/
def drawFree (w : Nat) (s : State) : Nat × State := (trunc w (Config.freeValue s.fresh), { s with fresh := s.fresh + 1 })

/-- A field left with a value the manual does not state. -/
def putFree (f : Fld) (s : State) : State := put f (drawFree f.width s).1 (drawFree f.width s).2

/-- Head h exists (R12). -/
def headInst (s : State) (h : Nat) : Bool := decide (h < 64) && decide (bitOf (get s F.GLB_INST_HEAD) h = 1)

/-- Bay b exists (R12). -/
def bayInst (s : State) (b : Nat) : Bool := decide (b < 32) && decide (bitOf (get s F.GLB_INST_BAY) b = 1)

/-- Carousel c exists (R12). -/
def carInst (s : State) (c : Nat) : Bool := decide (c < 4) && decide (bitOf (get s F.GLB_INST_MISC_CAROUSELS) c = 1)

/-- DDR5 channel c exists (R12). -/
def ddrInst (s : State) (c : Nat) : Bool := decide (c < 16) && decide (bitOf (get s F.GLB_INST_MISC_DDR_CH) c = 1)

/-- Arbour a exists (R12, R14). -/
def arbInst (s : State) (a : Nat) : Bool := decide (a < get s F.GLB_ARB_COUNT_ARBOURS)

/-- The effect of an event of a unit that may not exist: none where it does not (R12). -/
def when (p : Bool) (f : State → State) (s : State) : State := if p then f s else s

/-- A step applied for every index of a list, in order. -/
def forAll (l : List Nat) (f : Nat → State → State) (s : State) : State := l.foldl (fun t i => f i t) s

/-- The instantiated heads, bays, carousels and arbours, in ascending order. -/
def headsOf (s : State) : List Nat := (List.range 64).filter (headInst s)
def baysOf (s : State) : List Nat := (List.range 32).filter (bayInst s)
def carsOf (s : State) : List Nat := (List.range 4).filter (carInst s)
def arbsOf (s : State) : List Nat := List.range (get s F.GLB_ARB_COUNT_ARBOURS)

/-- A reset of one unit (tile, link or channel) is the last reset kind (R522, R529). -/
def unitReset (s : State) : State := put F.PWR_RESET_CAUSE_KIND 6 s

/-- A bit of a field of one bit per unit written. -/
def putBit (f : Fld) (i : Nat) (v : Bool) (s : State) : State :=
  let w := get s f
  put f (if v then w ||| 2 ^ i else w - 2 ^ i * bitOf w i) s

/-- The time in reference periods since chip reset (R528). -/
def now (s : State) : Nat := get s F.CLK_TIME

/-- `n` reference periods have passed since a time, judged to within the servo tick by which CLK.TIME advances here (log entry 77). -/
def elapsed (s : State) (since n : Nat) : Bool := decide (since + n ≤ now s + 382)

end Sys2Proof.Machine
end

