-- ==== Sys2Proof/Machine/Image.lean ====
section
/-! DEFINITION. The tablature image: its header, directory, sections and fret entries (R480 to R485). -/

namespace Sys2Proof.Machine

/-- A little-endian number of `n` bytes at an offset of an image. -/
def imgNat (img : List Nat) (o n : Nat) : Nat := ofBytesLE ((img.drop o).take n)

/-- The directory entries of an image: section, version, offset, length (R480). -/
def imgDir (img : List Nat) : List (Nat × Nat × Nat × Nat) :=
  (List.range (imgNat img 6 2)).map fun i =>
    let o := 256 + 16 * i
    (imgNat img o 2, imgNat img (o + 2) 2, imgNat img (o + 4) 4, imgNat img (o + 8) 4)

/-- The bytes of a section; empty where the image has none (R481). -/
def imgSection (img : List Nat) (id : Nat) : List Nat :=
  match (imgDir img).find? fun e => decide (e.1 = id) with
  | none => []
  | some e => (img.drop e.2.2.1).take e.2.2.2

/-- The tablature's pulse table of a fret (R160, R484): 136 bytes, zeros where no tablature is in force. -/
def tabPulse (s : State) (fret : Nat) : List Nat :=
  let t := ((imgSection s.tab 3).drop (224 * fret + 88)).take 136
  if t.length = 136 then t else fret :: List.replicate 135 0

end Sys2Proof.Machine
end

