-- ==== Sys2Proof/Machine/Format.lean ====
section
/-! DEFINITION. The ZAD-3 format as pure functions: the wobble's address units, frets and areas, the sector slot with its marks,
the LDPC code, the scrambler, the 16-to-17 modulation, and the way from a payload to channel bits (R29 to R47, R50, R51). -/

namespace Sys2Proof.Machine

/-! ### Bits and checks -/

/-- The `n` low bits of a number, most significant first. -/
def bitsMsb (n v : Nat) : List Bool := (List.range n).map fun i => decide (bitOf v (n - 1 - i) = 1)

/-- The number a list of bits spells, most significant first. -/
def ofBitsMsb (l : List Bool) : Nat := l.foldl (fun a b => 2 * a + (if b then 1 else 0)) 0

/-- One bit into a CRC-16 register of polynomial 0x1021 without reflection. -/
def crc16Step (c : Nat) (b : Bool) : Nat :=
  let top := decide (bitOf c 15 = 1)
  let c2 := 2 * c % 65536
  if top != b then c2 ^^^ 0x1021 else c2

/-- CRC-16 of polynomial 0x1021, initial value 0xffff, no reflection and no final XOR, over bits in order (R31, R87). -/
def crc16 (l : List Bool) : Nat := l.foldl crc16Step 0xffff

/-- The CRC-64 of R40 (CRC-64/XZ) over bytes. -/
def crc64Bits : Nat → Nat → Nat
  | 0, c => c
  | n + 1, c => crc64Bits n (if c % 2 = 1 then (c / 2) ^^^ 0xc96c5795d7870f42 else c / 2)
def crc64Go : List Nat → Nat → Nat
  | [], c => c
  | b :: bs, c => crc64Go bs (crc64Bits 8 (c ^^^ (b % 256)))
def crc64 (bs : List Nat) : Nat := crc64Go bs (2 ^ 64 - 1) ^^^ (2 ^ 64 - 1)

/-! ### Bands, frets and areas -/

/-- The first band of each fret, and the fret of a band (R34). -/
def firstBands : List Nat := [0, 138, 657, 1176, 1695, 2214, 2733, 3253, 3772, 4291,
  4810, 5329, 5848, 6367, 6887, 7406, 7925, 8444, 8963, 9482]
def firstBand (f : Nat) : Nat := firstBands.getD f 9641
def lastBand (f : Nat) : Nat := firstBand (f + 1) - 1
def fretOf (band : Nat) : Nat := (firstBands.filter fun b => decide (b ≤ band)).length - 1

/-- Servo-track turn 9,641 carries no data band; the last data band is 9,640 (R29). -/
def lastTurn : Nat := 9641

/-- The first physical data band and the first spare band of a fret (R36). -/
def firstDataBand (f : Nat) : Nat := if f = 0 then 38 else firstBand f + 4
def lastDataBand (f : Nat) : Nat := if f = 0 then 131 else lastBand f - 6
def firstSpareBand (f : Nat) : Nat := if f = 0 then 132 else lastBand f - 5

/-- Calibration band i (0 to 3) of a fret (R36, R55). -/
def calBand (f i : Nat) : Nat := firstBand f + i

/-- A physical sector address (R47). -/
def physAddr (side layer band track slot : Nat) : Nat :=
  2 ^ 28 * (side % 2) + 2 ^ 24 * (layer % 16) + 2 ^ 10 * (band % 2 ^ 14) + 32 * (track % 32) + slot % 32

/-- The parts of a physical sector address (R47). -/
def addrSide (x : Nat) : Nat := x / 2 ^ 28 % 2
def addrLayer (x : Nat) : Nat := x / 2 ^ 24 % 16
def addrBand (x : Nat) : Nat := x / 2 ^ 10 % 2 ^ 14
def addrTrack (x : Nat) : Nat := x / 32 % 32
def addrSlot (x : Nat) : Nat := x % 32

/-- The record slots of a side and layer: bands 4 and 5 of 12 slots on 32 tracks; and the address of record slot k: first band 4,
then band 5, within a band in slot order, within a slot in track order (R36, R50). -/
def recordSlots : Nat := 768
def recordAddr (side layer k : Nat) : Nat := physAddr side layer (4 + k / 384) (k % 384 % 32) (k % 384 / 32)

/-- The map checkpoint slots of a disc: bands 6 to 37 of 24 layers; and the address of checkpoint slot n, in the order of R48
(DEDUCED, log entry 67): layer, band, slot, side, track (R36, R51). -/
def ckptSlots : Nat := 24 * 12288
def ckptAddr (n : Nat) : Nat :=
  let q := n % 24576
  let r := q % 768
  physAddr (r % 64 / 32) (n / 24576) (6 + q / 768) (r % 32) (r / 64)

/-- Whether an address lies in a calibration area: it holds test patterns and is never data (R36, R55). -/
def inCalBand (x : Nat) : Bool := decide (addrBand x < calBand (fretOf (addrBand x)) 4)

/-! ### The wobble's address units -/

/-- The fields of a 64-bit address unit (R31). -/
def unitSync (w : Nat) : Nat := w / 2 ^ 56 % 256
def unitCrc (w : Nat) : Nat := w % 65536
def unitFields (w : Nat) : AddrUnit :=
  ⟨w / 2 ^ 47 % 512, w / 2 ^ 33 % 16384, w / 2 ^ 29 % 16, w / 2 ^ 28 % 2, w / 2 ^ 24 % 16, w / 2 ^ 16 % 256⟩

/-- UCRC over bits [55:16] (R31). -/
def ucrcOf (w : Nat) : Nat := crc16 (bitsMsb 40 (w / 65536))

/-- A unit is accepted where its USYNC and UCRC are correct (R32). -/
def unitGood (w : Nat) : Bool := decide (unitSync w = 0xe4) && decide (unitCrc w = ucrcOf w)

/-- The 64 bits of an address unit that carries fields (R31). -/
def unitWord (u : AddrUnit) : Nat :=
  let top := 2 ^ 40 * 0xe4 + 2 ^ 31 * (u.unit % 512) + 2 ^ 17 * (u.turn % 16384) + 2 ^ 13 * (u.layer % 16) + 2 ^ 12 * (u.side % 2)
    + 2 ^ 8 * (u.fmt % 16) + u.mid % 256
  65536 * top + crc16 (bitsMsb 40 top)

/-- Wobble periods per revolution, per address unit, and per address bit (R31). -/
def wobPerRev : Nat := 131072
def wobPerUnit : Nat := 256

/-- Channel bits per wobble period in a fret, (12+f) × 155/64: numerator over 64 (R30). -/
def bitsPerWobble64 (f : Nat) : Nat := (12 + f) * 155

/-! ### The sector slot -/

/-- The synchronisation patterns as 96-bit values, first transmitted bit first (R38). -/
def smPattern : Nat := 0xffffff000000b4e16d29c78a
def rmPattern : Nat := 0x000000ffffff4b1e92d63875
def smBits : List Bool := bitsMsb 96 smPattern
def rmBits : List Bool := bitsMsb 96 rmPattern

/-- The length of a slot, the channel bits of a track's revolution, and the offsets of a slot's fields (R37). -/
def slotLen : Nat := 317440
def trackBits (f : Nat) : Nat := (12 + f) * slotLen
def smStart : Nat := 1536
def cwStart (c : Nat) : Nat := if c = 0 then 1632 else 36544 + (c - 1) * 34912
def rmStart (j : Nat) : Nat := 36448 + (j - 1) * 34912
def postambleStart : Nat := 315744
def gapStart : Nat := 316416

/-- The channel bit of a band at which slot s begins, and the wobble period there as a numerator over 12+f (R37). -/
def slotStart (s : Nat) : Nat := s * slotLen
def slotWobble (s : Nat) : Nat := s * wobPerRev

/-- The preamble and the postamble repeat 0b1100 (R37). -/
def runIn (n : Nat) : List Bool := ((List.range n).map fun _ => [true, true, false, false]).flatten

/-- The decided bits of a mark against its pattern, in half bits: an erased decision counts a half-bit mismatch (R112). -/
def markDistance : List Bool → List (Option Bool) → Nat
  | [], _ => 0
  | _ :: ps, [] => 1 + markDistance ps []
  | p :: ps, d :: ds => (match d with | none => 1 | some b => if b = p then 0 else 2) + markDistance ps ds

/-- The distances of a pattern at every start position of a window of decisions that begins `w` bits before its nominal position:
offset and distance in half bits, offsets −w to +w (R112, R113). -/
def markScan (pat : List Bool) (w : Nat) (decs : List (Option Bool)) : List (Int × Nat) :=
  (List.range (2 * w + 1)).map fun (i : Nat) => ((i : Int) - (w : Int), markDistance pat (decs.drop i))

/-! ### The LDPC code -/

/-- The shift of block B(i, j) of the parity-check matrix, where it is not zero (R42). -/
def ldpcShift (i j : Nat) : Option Nat :=
  if j < 58 then
    (if i = j % 6 ∨ i = (j + 1) % 6 ∨ i = (j + 3) % 6 then some ((37 * i * j + 11 * j + 5 * i) % 512) else none)
  else if j = 58 then (if i = 0 ∨ i = 5 then some 1 else if i = 3 then some 0 else none)
  else if i + 59 = j ∨ i + 58 = j then some 0
  else none

/-- The non-zero blocks of a block row, in ascending block column: column and shift (R42, R133). -/
def ldpcRow (i : Nat) : List (Nat × Nat) := (List.range 64).filterMap fun j => (ldpcShift i j).map fun s => (j, s)

/-- What row order a block column has under P(s): row r reads column (r + s) mod 512; and back. -/
def rotBy {α : Type} (s : Nat) (l : List α) : List α := l.drop s ++ l.take s
def unrotBy {α : Type} (s : Nat) (l : List α) : List α := rotBy (l.length - s) l

/-- A word cut into blocks of 512 bits. -/
def blocksOf {α : Type} : Nat → List α → List (List α)
  | 0, _ => []
  | n + 1, l => l.take 512 :: blocksOf n (l.drop 512)

/-- The sum of two bit lists; the shorter reads as zeros. -/
def xorBits : List Bool → List Bool → List Bool
  | [], bs => bs
  | as, [] => as
  | a :: as, b :: bs => (a != b) :: xorBits as bs

/-- The parity checks of one block row over the blocks of a word: a true bit is an unsatisfied check (R42). -/
def syndromeRow (i : Nat) (bs : List (List Bool)) : List Bool :=
  (ldpcRow i).foldl (fun acc p => xorBits acc (rotBy p.2 (bs.getD p.1 []))) []

/-- The unsatisfied checks of a codeword's bits; a codeword is valid where there is none (R42). -/
def unsatisfied (w : List Bool) : Nat :=
  let bs := blocksOf 64 w
  ((List.range 6).map fun i => ((syndromeRow i bs).filter id).length).sum
def validCodeword (w : List Bool) : Bool := decide (unsatisfied w = 0)

/-- The parity bits that complete 29,696 information bits to a valid codeword (R41, R42): block column 58 is the sum of all rows'
information, the dual diagonal gives columns 59 to 63 in turn. -/
def ldpcParity (info : List Bool) : List Bool :=
  let bs := blocksOf 58 info
  let z := List.replicate 512 false
  let row (i : Nat) : List Bool := xorBits z (syndromeRow i bs)
  let p0 := (List.range 6).foldl (fun a i => xorBits a (row i)) z
  let p1 := xorBits (row 0) (rotBy 1 p0)
  let p2 := xorBits (row 1) p1
  let p3 := xorBits (row 2) p2
  let p4 := xorBits (xorBits (row 3) p0) p3
  let p5 := xorBits (row 4) p4
  p0 ++ p1 ++ p2 ++ p3 ++ p4 ++ p5
def ldpcEncode (info : List Bool) : List Bool := info ++ ldpcParity info

/-! ### Bytes, scrambler, modulation -/

/-- Bytes as bits, bit 7 first, and back (R41). -/
def bitsOfBytes (bs : List Nat) : List Bool := bs.flatMap (bitsMsb 8)
def bytesOfBits : Nat → List Bool → List Nat
  | 0, _ => []
  | n + 1, l => ofBitsMsb (l.take 8) :: bytesOfBits n (l.drop 8)

/-- The scrambler of a sector (R43): its seed, one step, and `n` output bits with the register they leave. -/
def scrSeed (addr : Nat) : Nat := 0x40000000 ||| addr
def scrOut (v : Nat) : Nat := (bitOf v 30 + bitOf v 27) % 2
def scrNext (v : Nat) : Nat := (2 * v + scrOut v) % 2 ^ 31
def scrRun : Nat → Nat → Nat
  | 0, v => v
  | n + 1, v => scrRun n (scrNext v)
def scramble : Nat → List Bool → List Bool
  | _, [] => []
  | v, b :: bs => (b != decide (scrOut v = 1)) :: scramble (scrNext v) bs

/-- The scrambler's register at the start of codeword c of a sector (R43). -/
def scrAt (addr c : Nat) : Nat := scrRun (32768 * c) (scrSeed addr)

/-- The 16-to-17 modulation of a word, first bit d[15]: NOT d[8] follows d[8] (R44); and of a list of bits. -/
def modWord (d : List Bool) : List Bool := d.take 8 ++ [!(d.getD 7 false)] ++ d.drop 8
def modulate : Nat → List Bool → List Bool
  | 0, _ => []
  | n + 1, l => modWord (l.take 16) ++ modulate n (l.drop 16)

/-- The 34,816 channel bits of a codeword of a sector (R41 to R44). -/
def cwChannel (addr c : Nat) (payload : List Nat) : List Bool :=
  modulate 2048 (scramble (scrAt addr c) (ldpcEncode (bitsOfBytes ((payload.drop (3712 * c)).take 3712))))

/-- The channel bits of a whole slot: preamble, SM, codeword 0, eight resync marks each with its codeword, postamble, gap; a gap
bit is never written (R37). -/
def slotBits (addr : Nat) (payload : List Nat) : List Bool :=
  runIn 384 ++ smBits ++ cwChannel addr 0 payload
    ++ ((List.range 8).flatMap fun j => rmBits ++ cwChannel addr (j + 1) payload)
    ++ runIn 168 ++ List.replicate 1024 false

/-! ### Payloads of map checkpoint and record sectors -/

/-- A payload from its metadata and user bytes: the CRC-64 over both, then zeros (R40). -/
def sealPayload (body : List Nat) : List Nat := body ++ bytesLE 8 (crc64 body) ++ List.replicate 120 0

/-- The metadata of a map checkpoint or record sector: zeros from byte 0x028 on (R45, R46). -/
def plainMeta (ty addr setId wstamp : Nat) : List Nat :=
  bytesLE 2 ty ++ [3, 0] ++ bytesLE 4 addr ++ bytesLE 4 addr ++ bytesLE 4 0 ++ bytesLE 16 setId ++ bytesLE 8 wstamp
    ++ List.replicate 472 0

/-- Bytes padded with zeros to a length. -/
def padTo (n : Nat) (l : List Nat) : List Nat := (l ++ List.replicate (n - l.length) 0).take n

/-- A record sector: the record header, then the body (R50). -/
def recordPayload (addr setId kind seq : Nat) (body : List Nat) : List Nat :=
  sealPayload (plainMeta 0x20 addr setId 0
    ++ padTo 32768 (bytesLE 2 kind ++ bytesLE 2 body.length ++ bytesLE 4 0 ++ bytesLE 8 seq ++ body))

/-- A map checkpoint sector: user block 0 holds the epoch, a page count and the page indices, blocks 1 to 7 the pages; the widths
of the three fields of block 0, 8, 4 and 4 bytes, and the places of the highest WRITE_STAMP, in the sector's own field, and of the highest
acceptance stamp, in the last 8 bytes of block 0, are a DESIGN CHOICE (log entry 67) (R45, R284, R293, R380). -/
def ckptPayload (addr setId epoch wstamp stamp : Nat) (pages : List (Nat × List Nat)) : List Nat :=
  sealPayload (plainMeta 0x10 addr setId wstamp
    ++ padTo 4088 (bytesLE 8 epoch ++ bytesLE 4 pages.length ++ pages.flatMap fun p => bytesLE 4 p.1) ++ bytesLE 8 stamp
    ++ padTo 28672 (pages.flatMap fun p => padTo 4096 (p.2.flatMap (bytesLE 8))))

end Sys2Proof.Machine
end

