-- ==== Sys2Proof/Machine/Frame.lean ====
section
/-! DEFINITION. The framing of the serial links as pure functions: symbols, superframes, markers, the RS(544,514) code and the
scrambler of the head link (R58 to R61, R71), and the packets and immediate codes of the bay link (R85 to R88, R91). -/

namespace Sys2Proof.Machine

/-! ### Symbols and superframes of the head link -/

/-- The PAM4 level of a bit pair, Gray-mapped, and the five levels of a 10-bit symbol, most significant bits first (R58). -/
def pamLevel (p : Nat) : Nat := if p = 2 then 3 else if p = 3 then 2 else p
def symbolLevels (x : Nat) : List Nat := (List.range 5).map fun i => pamLevel (x / 4 ^ (4 - i) % 4)

/-- The lengths of superframe n in symbols (R59). -/
def usLen (n : Nat) : Nat := (n + 1) * 6640625 / 256 - n * 6640625 / 256
def dsLen (n : Nat) : Nat := (n + 1) * 6640625 / 512 - n * 6640625 / 512

/-- The codewords of a superframe upstream and downstream (R59). -/
def usWords : Nat := 47
def dsWords : Nat := 23

/-- The alignment marker (R60): A on even symbols and its complement on odd ones; A of an upstream lane, and downstream. -/
def laneA (lane : Nat) : Nat := 0x2d3 - 0x40 * lane
def dsA : Nat := 0x1d3
def markerOf (a : Nat) : List Nat := (List.range 32).map fun i => if i % 2 = 0 then a else a ^^^ 0x3ff

/-- Whether a list of bits is PRBS31, x^31 + x^28 + 1 (R75): not all zero, and every bit after the first 31 follows. -/
def isPrbs31 (bits : List Bool) : Bool :=
  decide (31 < bits.length) && bits.any id
    && ((bits.drop 31).zip ((bits.drop 3).zip bits)).all fun p => decide (p.1 = (p.2.1 != p.2.2))

/-! ### The RS(544,514) code of IEEE 802.3 Clause 91 (R61) -/

/-- GF(2^10) with x^10 + x^3 + 1 (PRESUMED, log entry 73): product, power, inverse. -/
def gf10Twice (a : Nat) : Nat := if 512 ≤ a then (2 * a) ^^^ 0x409 else 2 * a
def gf10MulGo : Nat → Nat → Nat → Nat → Nat
  | 0, _, _, acc => acc
  | n + 1, a, b, acc => gf10MulGo n (gf10Twice a) (b / 2) (if b % 2 = 1 then acc ^^^ a else acc)
def gf10Mul (a b : Nat) : Nat := gf10MulGo 10 a b 0
def gf10Pow (a : Nat) : Nat → Nat
  | 0 => 1
  | n + 1 => gf10Mul a (gf10Pow a n)
def gf10Inv (a : Nat) : Nat := gf10Pow a 1022

/-- Polynomials by coefficient, highest first: the value at a point, and the sum of two of one length. -/
def gf10Eval (p : List Nat) (x : Nat) : Nat := p.foldl (fun acc c => gf10Mul acc x ^^^ c) 0
def gf10Add : List Nat → List Nat → List Nat
  | a :: as, b :: bs => (a ^^^ b) :: gf10Add as bs
  | as, [] => as
  | [], bs => bs

/-- The generator polynomial, the product of x + α^j for j = 0 to 29, without its leading coefficient. -/
def rsGen : List Nat :=
  ((List.range 30).foldl (fun p j => gf10Add (p ++ [0]) (0 :: p.map (gf10Mul (gf10Pow 2 j)))) [1]).drop 1

/-- The 30 parity symbols of 514 payload symbols. -/
def rsParity (msg : List Nat) : List Nat :=
  msg.foldl (fun reg m => gf10Add (reg.drop 1 ++ [0]) (rsGen.map (gf10Mul (m ^^^ reg.headD 0)))) (List.replicate 30 0)
def rsEncode (msg : List Nat) : List Nat := msg ++ rsParity msg

/-- The 30 syndromes of a received word; a codeword has none but zeros. -/
def syndromes (r : List Nat) : List Nat := (List.range 30).map fun j => gf10Eval r (gf10Pow 2 j)

/-- The decoder's search for the error locator (Berlekamp and Massey): locator and its last version, lowest coefficient first, its
degree, the gap since that version and that version's discrepancy. -/
structure Locator where
  c : List Nat := [1]
  b : List Nat := [1]
  l : Nat := 0
  m : Nat := 1
  d : Nat := 1
  deriving DecidableEq, Repr

def locStep (syn : List Nat) (t : Locator) (n : Nat) : Locator :=
  let disc := ((List.range (t.l + 1)).map fun i => gf10Mul (t.c.getD i 0) (syn.getD (n - i) 0)).foldl (· ^^^ ·) 0
  if disc = 0 then { t with m := t.m + 1 }
  else
    let k := gf10Mul disc (gf10Inv t.d)
    let c := gf10Add t.c (List.replicate t.m 0 ++ t.b.map (gf10Mul k))
    if 2 * t.l ≤ n then ⟨c, t.c, n + 1 - t.l, 1, disc⟩ else { t with c := c, m := t.m + 1 }
def locator (syn : List Nat) : Locator := (List.range 30).foldl (locStep syn) {}

/-- The powers of x at which a locator puts an error, and the error's value there (Forney). -/
def errorPlaces (t : Locator) : List Nat := (List.range 544).filter fun p => decide (gf10Eval t.c.reverse (gf10Pow 2 (1023 - p)) = 0)
def errorValue (syn : List Nat) (t : Locator) (p : Nat) : Nat :=
  let xi := gf10Pow 2 (1023 - p)
  let coef (n : Nat) : Nat := ((List.range (n + 1)).map fun i => gf10Mul (t.c.getD i 0) (syn.getD (n - i) 0)).foldl (· ^^^ ·) 0
  let omega := gf10Eval ((List.range 15).map coef).reverse xi
  let slope := gf10Eval ((List.range 16).map fun i => if i % 2 = 0 then t.c.getD (i + 1) 0 else 0).reverse xi
  gf10Mul (gf10Pow 2 p) (gf10Mul omega (gf10Inv slope))

/-- The codeword within 15 symbol errors of a received word, with their number; none where there is none. -/
def rsDecode (r : List Nat) : Option (List Nat × Nat) :=
  let syn := syndromes r
  if syn.all (fun x => decide (x = 0)) then some (r, 0)
  else
    let t := locator syn
    let ps := errorPlaces t
    let fixed := ps.foldl (fun w p => w.set (543 - p) (w.getD (543 - p) 0 ^^^ errorValue syn t p)) r
    if t.l ≤ 15 ∧ ps.length = t.l ∧ (syndromes fixed).all (fun x => decide (x = 0)) = true then some (fixed, t.l) else none

/-! ### Scrambler, codewords, superframes -/

/-- The additive scrambler x^58 + x^39 + 1, all ones at the first symbol after a marker (R61): its output, its next state, its state
after `n` bits, and scrambling. -/
def linkOut (v : Nat) : Bool := decide ((bitOf v 57 + bitOf v 38) % 2 = 1)
def linkNext (v : Nat) : Nat := (2 * v + (if linkOut v then 1 else 0)) % 2 ^ 58
def linkRun : Nat → Nat → Nat
  | 0, v => v
  | n + 1, v => linkRun n (linkNext v)
def linkScramble : Nat → List Bool → List Bool
  | _, [] => []
  | v, b :: bs => (b != linkOut v) :: linkScramble (linkNext v) bs
def linkSeed (k : Nat) : Nat := linkRun (5140 * k) (2 ^ 58 - 1)

/-- Bits as 10-bit symbols, most significant bit first. -/
def symbolsOf : Nat → List Bool → List Nat
  | 0, _ => []
  | n + 1, l => ofBitsMsb (l.take 10) :: symbolsOf n (l.drop 10)

/-- The 544 symbols of codeword k (R61): the 4-bit type and 642 bytes, scrambled, with their parity. -/
def wordSymbols (k ty : Nat) (bytes : List Nat) : List Nat :=
  rsEncode (symbolsOf 514 (linkScramble (linkSeed k) (bitsMsb 4 ty ++ bitsOfBytes (padTo 642 bytes))))

/-- The symbols of a superframe of a length (R59): marker, codewords, scrambled zeros. -/
def superframeSymbols (a len : Nat) (words : List (Nat × List Nat)) : List Nat :=
  let fill := len - 32 - 544 * words.length
  markerOf a ++ (words.zipIdx.flatMap fun w => wordSymbols w.2 w.1.1 w.1.2)
    ++ symbolsOf fill (linkScramble (linkSeed words.length) (List.replicate (10 * fill) false))

/-- Codeword k as the receiver finds it (R61): corrected, then descrambled; its type, its 642 bytes and the symbols corrected, or none
where it is uncorrectable. -/
def readWord10 (k : Nat) (syms : List Nat) : Option (Nat × List Nat × Nat) :=
  (rsDecode syms).map fun p =>
    let bits := linkScramble (linkSeed k) ((p.1.take 514).flatMap (bitsMsb 10))
    (ofBitsMsb (bits.take 4), bytesOfBits 642 (bits.drop 4), p.2)

/-- The codewords of a received superframe. -/
def readWords (count : Nat) (syms : List Nat) : List (Option (Nat × List Nat × Nat)) :=
  (List.range count).map fun k => readWord10 k ((syms.drop (32 + 544 * k)).take 544)

/-- An upstream codeword type that the table of R61 does not give codeword k. -/
def reservedUp (k ty : Nat) : Bool := decide (3 < ty) || (decide (ty = 1) && decide (k ≠ 0))

/-! ### Messages in codewords (R71) -/

/-- A message's bytes: TYPE, LEN, SEQ, zero and the payload. -/
def msgBytes (m : Msg) : List Nat := [m.ty, m.payload.length, m.seq, 0] ++ m.payload

/-- The messages of a codeword's message area: TYPE 0 ends them, and one that would not lie in the area whole is no message. -/
def splitMsgs : Nat → List Nat → List Msg
  | 0, _ => []
  | n + 1, ty :: len :: seq :: _ :: rest =>
    if ty = 0 ∨ 252 < len ∨ rest.length < len then [] else { ty := ty, seq := seq, payload := rest.take len } :: splitMsgs n (rest.drop len)
  | _ + 1, _ => []

/-- Messages packed in order into areas of the given sizes, none spanning two; what no area holds is left over. -/
def packMsgs : List Nat → List Msg → List (List Msg) × List Msg
  | [], ms => ([], ms)
  | a :: as, ms =>
    let r := ms.foldl (fun (t : List Msg × List Msg × Nat) m =>
      if t.2.1 = [] ∧ (msgBytes m).length ≤ t.2.2 then (t.1 ++ [m], [], t.2.2 - (msgBytes m).length) else (t.1, t.2.1 ++ [m], t.2.2)) ([], [], a)
    let q := packMsgs as r.2.1
    (r.1 :: q.1, q.2)

/-! ### The bay link -/

/-- A packet between K27.7 and K29.7 (R87): TYPE, LEN, payload, CRC-16 low byte first. -/
def packetBytes (ty : Nat) (payload : List Nat) : List Nat :=
  let body := ty :: payload.length :: payload
  body ++ bytesLE 2 (crc16 (bitsOfBytes body))

/-- A received packet: its type and payload, or none where its length or its CRC is wrong. -/
def readPacket : List Nat → Option (Nat × List Nat)
  | ty :: len :: rest =>
    if len ≤ 200 ∧ rest.length = len + 2 ∧ packetBytes ty (rest.take len) = ty :: len :: rest then some (ty, rest.take len) else none
  | _ => none

/-- The characters of a packet, and of an immediate code with its complement (R87, R91). -/
def packetChars (ty : Nat) (payload : List Nat) : List BayChar := .k27_7 :: ((packetBytes ty payload).map .data ++ [.k29_7])
def codeChars (k : BayChar) (d : Nat) : List BayChar := [k, .data d, .data (255 - d % 256)]

/-- A received stretch without K28.5 and without inserted immediate codes (R87). -/
def stripCodes : List BayChar → List BayChar
  | [] => []
  | .k28_5 :: cs => stripCodes cs
  | .k28_1 :: _ :: _ :: cs => stripCodes cs
  | .k28_2 :: _ :: _ :: cs => stripCodes cs
  | .k28_3 :: _ :: _ :: cs => stripCodes cs
  | c :: cs => c :: stripCodes cs

/-- The bytes of the packets in a stretch, from K27.7 to K29.7; one whose end is missing ends at the next start. -/
def packetsIn : Option (List Nat) → List BayChar → List (List Nat)
  | _, [] => []
  | none, .k27_7 :: cs => packetsIn (some []) cs
  | some bs, .k27_7 :: cs => bs :: packetsIn (some []) cs
  | some bs, .data b :: cs => packetsIn (some (bs ++ [b % 256])) cs
  | some bs, .k29_7 :: cs => bs :: packetsIn none cs
  | o, _ :: cs => packetsIn o cs

/-- The packets received in a stretch of characters: type and payload, or none for a bad one (R87). -/
def heardPackets (chars : List BayChar) : List (Option (Nat × List Nat)) := (packetsIn none (stripCodes chars)).map readPacket

/-- A packet that names period TARGET is applied to it only if its K29.7 arrives at least 50 ns, 125 bit times, before the boundary that
starts it (R87): both as bit times on one scale. -/
def inTime (ends boundary : Nat) : Bool := decide (ends + 125 ≤ boundary)

/-- What an expander applies to period `sf` (R87, R88): of the valid packets of each type that name it, the last; without one, PWM keeps
its edges, and there are no samples, scheduled gates or references. -/
def expanderTakes (sf : Nat) (sent : List (Nat × List Nat)) (old : Map (List Nat)) : Map (List Nat) :=
  [1, 2, 3, 4].foldl (fun m ty =>
    match (sent.filter fun p => decide (p.1 = ty) && decide (ofBytesLE (p.2.take 2) = sf % 65536)).getLast? with
    | some p => mapPut m ty p.2
    | none => if ty = 1 then m else mapErase m ty) old

/-- The payloads of the downstream packets (R88). -/
def headerPayload (sf : Nat) (pwm stepper : Bool) : List Nat :=
  bytesLE 2 sf ++ bytesLE 2 ((if pwm then 1 else 0) + (if stepper then 2 else 0))
def pwmPayload (target : Nat) (edges : List (Nat × Nat)) : List Nat := bytesLE 2 target ++ edges.flatMap fun e => bytesLE 2 e.1 ++ bytesLE 2 e.2
def samplePayload (target : Nat) (entries : List (Nat × Nat × Nat)) : List Nat :=
  bytesLE 2 target ++ (entries.take 8).flatMap fun e => bytesLE 2 e.1 ++ [e.2.1, e.2.2]
def gateSchedPayload (target : Nat) (entries : List (Nat × Nat)) : List Nat :=
  bytesLE 2 target ++ (entries.take 16).flatMap fun e => bytesLE 2 e.1 ++ [e.2, 0]
def stepRefPayload (target : Nat) (entries : List (Nat × Nat × Nat × Nat)) : List Nat :=
  bytesLE 2 target ++ (entries.take 3).flatMap fun e => [e.1, 0] ++ bytesLE 2 e.2.1 ++ bytesLE 2 e.2.2.1 ++ bytesLE 2 e.2.2.2
def configPayload (dead trip : Nat) : List Nat := [dead % 256] ++ bytesLE 2 trip ++ [0]

/-- A gate code (R88): driver, phase, state. -/
def gateCode (driver : Nat) (phB : Bool) (st : Nat) : Nat := 64 * (driver % 4) + (if phB then 32 else 0) + st % 8

end Sys2Proof.Machine
end

