-- ==== Sys2Proof/Machine/Flags.lean ====
section
/-! DEFINITION. The event flags: which registers own each event source, the level of a source, setting and clearing flags
with the event log, and the recovery windows with the fault log (R531 to R537, R545). -/

namespace Sys2Proof.Machine

/-- An event register, its enable register and the source each of its bits raises. -/
structure EvReg where
  evt    : Fld
  en     : Fld
  source : Nat → Nat

/-- The event registers of the units, with the sources of R19 and of each chapter. -/
def evHL (h : Nat) : EvReg := ⟨F.HL_EVT h, F.HL_EVT_EN h, fun _ => h⟩
def evCH (h : Nat) : EvReg := ⟨F.CH_EVT h, F.CH_EVT_EN h, fun _ => h⟩
def evWRP (h : Nat) : EvReg := ⟨F.WRP_EVT h, F.WRP_EVT_EN h, fun _ => h⟩
def evSV (h : Nat) : EvReg := ⟨F.SV_EVT h, F.SV_EVT_EN h, fun _ => h⟩
def evBL (b : Nat) : EvReg := ⟨F.BL_EVT b, F.BL_EVT_EN b, fun _ => 64 + b⟩
def evMOT (b : Nat) : EvReg := ⟨F.MOT_EVT b, F.MOT_EVT_EN b, fun _ => 64 + b⟩
def evMOV (b : Nat) : EvReg := ⟨F.MOV_EVT b, F.MOV_EVT_EN b, fun _ => 64 + b⟩
def evCL (c : Nat) : EvReg := ⟨F.CL_EVT c, F.CL_EVT_EN c, fun _ => 96 + c⟩
def evCMOT (c : Nat) : EvReg := ⟨F.CMOT_EVT c, F.CMOT_EVT_EN c, fun _ => 96 + c⟩
def evLE (t : Nat) : EvReg := ⟨F.LE_EVT t, F.LE_EVT_EN t, fun _ => 100 + t⟩
def evBufCh (c : Nat) : EvReg := ⟨F.BUF_CH_EVT c, F.BUF_CH_EVT_EN c, fun _ => 116 + c⟩
def evBUF : EvReg := ⟨F.BUF_EVT, F.BUF_EVT_EN, fun _ => 116⟩
def evMAP : EvReg := ⟨F.MAP_EVT, F.MAP_EVT_EN, fun _ => 132⟩
def evMapQ (q : Nat) : EvReg := ⟨F.MAP_QEVT q, F.MAP_QEVT_EN q, fun _ => 132 + q⟩
def evHST : EvReg := ⟨F.HST_EVT, F.HST_EVT_EN, fun i =>
  if i < 8 then 136 + i % 4 else if i = 8 then 140 else if i = 9 then 141 else if i < 12 then 142 else 143⟩
def evARB : EvReg := ⟨F.ARB_EVT, F.ARB_EVT_EN, fun _ => 144⟩
def evAR (a : Nat) : EvReg := ⟨F.ARB_AR_EVT a, F.ARB_AR_EVT_EN a, fun _ => 144 + a % 32⟩
def evPAR : EvReg := ⟨F.PAR_EVT, F.PAR_EVT_EN, fun _ => 144⟩
def evPLP : EvReg := ⟨F.PLP_EVT, F.PLP_EVT_EN, fun i => if i < 2 then 176 else if i < 4 then 177 else if i = 4 then 178 else 179⟩
def evTHM : EvReg := ⟨F.THM_EVT, F.THM_EVT_EN, fun i =>
  if i < 2 then 180 else if i = 2 then 181 else if i = 3 then 182 else if i < 6 then 183 else if i = 6 then 184 else 185⟩
def evCAL : EvReg := ⟨F.CAL_EVT, F.CAL_EVT_EN, fun i => if i < 2 then 188 else 189⟩
def evFUS : EvReg := ⟨F.FUS_EVT, F.FUS_EVT_EN, fun i => if i < 3 then 191 else 192⟩
def evTAB : EvReg := ⟨F.TAB_EVT, F.TAB_EVT_EN, fun _ => 190⟩
def evFWU : EvReg := ⟨F.FWU_EVT, F.FWU_EVT_EN, fun i => if i < 3 then 194 else 195⟩
def evMGT (p : Nat) : EvReg := ⟨F.MGT_EVT p, F.MGT_EVT_EN p, fun i => if i < 2 then 196 + 2 * p else 197 + 2 * p⟩
def evCLK : EvReg := ⟨F.CLK_EVT, F.CLK_EVT_EN, fun i => if i < 2 then 204 else if i = 2 then 205 else if i = 3 then 206 else 207⟩
def evPWR : EvReg := ⟨F.PWR_EVT, F.PWR_EVT_EN, fun i => if i < 2 then 208 else if i < 4 then 209 else if i = 4 then 210 else 211⟩

/-- The owners of an event source in the order of R533: the register, its enables and the bits that raise the source. -/
def owners (src : Nat) : List (Fld × Fld × Nat) :=
  let o (e : EvReg) (m : Nat) := (e.evt, e.en, m)
  let full := 2 ^ 32 - 1
  if src < 64 then [o (evHL src) full, o (evCH src) full, o (evWRP src) full, o (evSV src) full]
  else if src < 96 then [o (evBL (src - 64)) full, o (evMOT (src - 64)) full, o (evMOV (src - 64)) full]
  else if src < 100 then [o (evCL (src - 96)) full, o (evCMOT (src - 96)) full]
  else if src < 116 then [o (evLE (src - 100)) full]
  else if src = 116 then [o evBUF full, o (evBufCh 0) full]
  else if src < 132 then [o (evBufCh (src - 116)) full]
  else if src = 132 then [o evMAP full, o (evMapQ 0) full]
  else if src < 136 then [o (evMapQ (src - 132)) full]
  else if src < 140 then [o evHST (2 ^ (src - 136) + 2 ^ (src - 132))]
  else if src = 140 then [o evHST 0x100]
  else if src = 141 then [o evHST 0x200]
  else if src = 142 then [o evHST 0xc00]
  else if src = 143 then [o evHST 0x3000]
  else if src = 144 then
    [o evARB full, o evPAR full] ++ (List.range 8).map fun i => o (evAR (32 * i)) full
  else if src < 176 then (List.range 8).map fun i => o (evAR (src - 144 + 32 * i)) full
  else if src = 176 then [o evPLP 3] else if src = 177 then [o evPLP 0xc]
  else if src = 178 then [o evPLP 0x10] else if src = 179 then [o evPLP 0x60]
  else if src = 180 then [o evTHM 3] else if src = 181 then [o evTHM 4] else if src = 182 then [o evTHM 8]
  else if src = 183 then [o evTHM 0x30] else if src = 184 then [o evTHM 0x40] else if src = 185 then [o evTHM 0x80]
  else if src = 188 then [o evCAL 3] else if src = 189 then [o evCAL 0x1c]
  else if src = 190 then [o evTAB full]
  else if src = 191 then [o evFUS 7] else if src = 192 then [o evFUS 0x38]
  else if src = 194 then [o evFWU 7] else if src = 195 then [o evFWU 0xf8]
  else if 196 ≤ src ∧ src < 204 then [o (evMGT ((src - 196) / 2)) (if src % 2 = 0 then 3 else 0xc)]
  else if src = 204 then [o evCLK 3] else if src = 205 then [o evCLK 4]
  else if src = 206 then [o evCLK 8] else if src = 207 then [o evCLK 0x10]
  else if src = 208 then [o evPWR 3] else if src = 209 then [o evPWR 0xc]
  else if src = 210 then [o evPWR 0x10] else if src = 211 then [o evPWR 0x20]
  else []

/-- The owner that has a set and enabled flag, first in order (R531, R533). -/
def firstOwner (s : State) : List (Fld × Fld × Nat) → Option Fld
  | [] => none
  | (e, n, m) :: l => if (get s e &&& get s n &&& m) ≠ 0 then some e else firstOwner s l

/-- The flag of a software event source (R532). -/
def swFlag (s : State) (src : Nat) : Nat :=
  if src < 248 then bitOf (get s F.EVT_SW_FLAG0) (src - 216) else bitOf (get s F.EVT_SW_FLAG1) (src - 248)

/-- The level of an event source (R27, R531, R532). -/
def level (s : State) (src : Nat) : Bool :=
  if src = 193 then isSet s F.GLB_ACC_ERR_VALID
  else if 216 ≤ src ∧ src < 256 then decide (swFlag s src = 1)
  else (firstOwner s (owners src)).isSome

/-- Bits [63:32] of GLB.ACC_ERR (R26). -/
def accErrHigh (s : State) : Nat :=
  get s F.GLB_ACC_ERR_REQ + 16 * get s F.GLB_ACC_ERR_KIND + 128 * get s F.GLB_ACC_ERR_WRITE
    + 2 ^ 30 * get s F.GLB_ACC_ERR_OVERFLOW + 2 ^ 31 * get s F.GLB_ACC_ERR_VALID

/-- What bytes 12 to 15 of a log entry hold for a source (R27, R533). -/
def ownerValue (s : State) (src : Nat) : Nat :=
  if src = 193 then accErrHigh s
  else if src < 216 then (match firstOwner s (owners src) with | some e => get s e | none => 0)
  else if src < 248 then get s F.EVT_SW_FLAG0 else get s F.EVT_SW_FLAG1

/-- One entry appended to the event log ring (R533). -/
def logAppend (src : Nat) (s : State) : State :=
  put F.EVT_LOG_HEAD (get s F.EVT_LOG_HEAD + 1)
    { s with log := (⟨now s, src, ownerValue s src⟩ :: s.log).take 1024 }

/-- The event log after a change that may have raised a source: a rising edge is logged while LOG_EN is 1 (R533). -/
def edge (src : Nat) (was : Bool) (s : State) : State :=
  if !was && level s src && isSet s F.EVT_CTRL_LOG_EN then logAppend src s else s

/-- The event log after a change that may have raised any source, in ascending source number. -/
def edges (old : State) (s : State) : State := forAll (List.range 256) (fun src t => edge src (level old src) t) s

/-- A flag of an event register set, with the event log (R531, R533). -/
def raise (e : EvReg) (i : Nat) (s : State) : State :=
  edge (e.source i) (level s (e.source i)) (put e.evt (get s e.evt ||| 2 ^ i) s)

/-- Several flags of one event register set. -/
def raises (e : EvReg) : List Nat → State → State
  | [], s => s
  | i :: is, s => raises e is (raise e i s)

/-- The redundancy domain kinds of the fault log (R545). -/
def Dom.ddr : Nat := 1
def Dom.loop : Nat := 2
def Dom.mgt : Nat := 3
def Dom.headPort : Nat := 4
def Dom.hostLink : Nat := 5
def Dom.slice : Nat := 6
def Dom.pool : Nat := 7

/-- A recovery window opens on a domain, which is exposed from then on (R535, R536). -/
def openWindow (kind inst src : Nat) (s : State) : State :=
  bump F.EVT_FW_OPEN_TOTAL 1 (bump F.EVT_FW_OPEN_NOW 1
    { s with windows := s.windows ++ [⟨kind, inst, now s, src⟩],
             exposed := if (kind, inst) ∈ s.exposed then s.exposed else s.exposed ++ [(kind, inst)] })

/-- A recovery window closes with an outcome and enters the fault log; durations count whole µs (156.25 reference periods
each). -/
def closeWindow (kind inst outcome : Nat) (s : State) : State :=
  match s.windows.find? (fun w => w.kind = kind ∧ w.inst = inst) with
  | none => s
  | some w =>
    put F.EVT_FW_OPEN_NOW (get s F.EVT_FW_OPEN_NOW - 1)
      { s with windows := s.windows.erase w,
               faultLog := (⟨w.opened, (now s - w.opened) * 64 / 10000, kind, inst, outcome, w.source⟩ :: s.faultLog).take 64 }

/-- Every open window is logged with one outcome (R547). -/
def closeAllWindows (outcome : Nat) (s : State) : State :=
  s.windows.foldl (fun t w => closeWindow w.kind w.inst outcome t) s

/-- A domain has its redundancy back (R535). -/
def unexpose (kind inst : Nat) (s : State) : State := { s with exposed := s.exposed.filter (fun d => d ≠ (kind, inst)) }

/-- Whether a domain is exposed. -/
def isExposed (s : State) (kind inst : Nat) : Bool := decide ((kind, inst) ∈ s.exposed)

end Sys2Proof.Machine
end

