-- ==== Sys2Proof/Machine/Async.lean ====
section
/-! DEFINITION. Completions and asynchronous events: what the controller posts to the host (R393, R410). -/

namespace Sys2Proof.Machine

/-- A completion entry posted; an error status also enters the Error Information log, which holds 256 entries (R393, R403). -/
def post (c : Completion) (s : State) : State :=
  { s with host := { s.host with
      posted := c :: s.host.posted,
      errors := if c.sct = 0 ∧ c.sc = 0 then s.host.errors
        else
          let mine := s.host.errors.filter fun e => decide (e.fn = c.fn)
          let n := match mine with
            | [] => 1
            | e :: _ => e.count + 1
          ⟨c.fn, c.qid, c.cid, c.sct, c.sc, 0, 0, 0, n⟩ :: (mine.take 255 ++ s.host.errors.filter fun e => decide (e.fn ≠ c.fn)) } }

/-- A feature value of a function (R409). -/
def feature (s : State) (fn fid : Nat) : Nat := mapGet (fun _ => 0) s.host.features (256 * fn + fid)
def putFeature (fn fid v : Nat) (s : State) : State :=
  { s with host := { s.host with features := mapPut s.host.features (256 * fn + fid) v } }

/-- The log page of an asynchronous event: the pages of R410 for the vendor type, Firmware Slot Information for the activation
notice, Changed Namespace List for a namespace notice, SMART otherwise. -/
def eventPage (code : Nat) : Nat :=
  if code = 0x780 then 0xc0 else if code = 0x781 then 0xc1 else if code = 0x782 then 0xc0
  else if code = 0x783 then 0xc3 else if code = 0x784 then 0xc5 else if code = 0x201 then 3 else if code = 0x200 then 4 else 2

/-- Whether a function's Asynchronous Event Configuration enables an event: bit 31 for the vendor events (R409), bits 9 and 8
for the activation and namespace notices, bit 1 for a temperature event. -/
def eventEnabled (s : State) (fn code : Nat) : Bool :=
  if code / 256 = 7 then decide (bitOf (feature s fn 0x0b) 31 = 1)
  else if code = 0x201 then decide (bitOf (feature s fn 0x0b) 9 = 1)
  else if code = 0x200 then decide (bitOf (feature s fn 0x0b) 8 = 1) else decide (bitOf (feature s fn 0x0b) 1 = 1)

/-- An event posted through one of the function's outstanding requests, or held for a later one; once per change of
condition, and again only after the host has read the page (R410). -/
def notifyFn (code fn : Nat) (s : State) : State :=
  if !eventEnabled s fn code || decide ((fn, code) ∈ s.host.sent) || decide ((fn, code) ∈ s.host.held) then s
  else match s.host.aers.find? fun a => decide (a.1 = fn) with
    | none => { s with host := { s.host with held := s.host.held ++ [(fn, code)] } }
    | some a =>
      post ⟨fn, 0, a.2, 0, 0, 0, code / 256 + 256 * (code % 256) + 65536 * eventPage code, 0, [], []⟩
        { s with host := { s.host with aers := s.host.aers.erase a, sent := s.host.sent ++ [(fn, code)] } }

/-- An event for the physical functions, which alone read the vendor pages (R403). -/
def notify (code : Nat) (s : State) : State := notifyFn code 1 (notifyFn code 0 s)

/-- A log page was read: its events may be posted again (R410). -/
def pageRead (fn page : Nat) (s : State) : State :=
  { s with host := { s.host with sent := s.host.sent.filter fun x => decide (x.1 ≠ fn) || decide (eventPage x.2 ≠ page) } }

/-- The content of a vendor page changed: its generation count rises (R405). -/
def pageChanged (page : Nat) (s : State) : State :=
  { s with host := { s.host with pageGen := mapPut s.host.pageGen page (mapGet (fun _ => 0) s.host.pageGen page + 1) } }

end Sys2Proof.Machine
end

