-- ==== Sys2Proof/Machine/Layout.lean ====
section
/-! DEFINITION. The layout: discs, sets, rows, the map and the arbour tree, with the operations over them that the
placement, parity and host meanings share (R47 to R49, R276 to R292). -/

namespace Sys2Proof.Machine

/-- The data slots of a disc, and its user bytes (R56). -/
def discSlots : Nat := 155729664
def discBytes : Nat := 5102949629952

/-- The disc in a library slot, and the same written. -/
def getDisc (s : State) (d : Nat) : Disc := mapGet (fun _ => {}) s.lib.discs d
def putDisc (d : Nat) (v : Disc) (s : State) : State := { s with lib := { s.lib with discs := mapPut s.lib.discs d v } }
def updDisc (d : Nat) (f : Disc → Disc) (s : State) : State := putDisc d (f (getDisc s d)) s

/-- The entry of a set handle, and the same written. -/
def getSet (s : State) (hd : Nat) : DiscSet := mapGet (fun _ => {}) s.lib.sets hd
def putSet (hd : Nat) (v : DiscSet) (s : State) : State := { s with lib := { s.lib with sets := mapPut s.lib.sets hd v } }
def updSet (hd : Nat) (f : DiscSet → DiscSet) (s : State) : State := putSet hd (f (getSet s hd)) s

/-- The handles in use, ascending. -/
def handles (s : State) : List Nat := (s.lib.sets.filter fun p => p.2.st ≠ 0).map Prod.fst

/-- The members of row r (R281): P, Q, and the member of data slot d. -/
def pMember (w r : Nat) : Nat := r % w
def qMember (w r : Nat) : Nat := (r + 1) % w
def dataMember (w r d : Nat) : Nat := (r + 2 + d) % w

/-- The data slot a member holds in row r, or none where it holds P or Q. -/
def slotOfMember (w r m : Nat) : Option Nat := (List.range (w - 2)).find? fun d => dataMember w r d = m

/-- The blocks of a row, and the log block address of block j of slot d of row r (R281). -/
def rowBlocks (w : Nat) : Nat := 8 * (w - 2)
def lbkOf (w r d j : Nat) : Nat := r * rowBlocks w + 8 * d + j

/-- The slots per track of fret f and its data bands (R47, R48); the data bands follow from the data slots per layer the
manual lists. -/
def fretSlots : List Nat := [36096, 211744, 228032, 244320, 260608, 276896, 293760, 309472, 325760, 342048,
  358336, 374624, 390912, 408000, 423488, 439776, 456064, 472352, 488640, 147808]
def fretBands (f : Nat) : Nat := fretSlots.getD f 0 / (32 * (12 + f))

/-- The fret and the ordinal within it of an ordinal within a layer pair (R48). -/
def fretOfOrd : List Nat → Nat → Nat → Nat × Nat
  | [], f, o => (f - 1, o)
  | n :: ns, f, o => if o < 2 * n then (f, o) else fretOfOrd ns (f + 1) (o - 2 * n)

/-- The physical address of an ordinal on a disc, given the first physical data band of each fret (R48). -/
def ordAddr (firstData : Nat → Nat) (o : Nat) : Nat :=
  let layer := o / 12977472
  let (f, r) := fretOfOrd fretSlots 0 (o % 12977472)
  let band := r / (64 * (12 + f))
  let q := r % (64 * (12 + f))
  physAddr (q % 64 / 32) layer (firstData f + band) (q % 32) (q / 64)

/-- The parent of an arbour, and whether arbour x lies at or below arbour a (R14, R483). -/
def parentOf (s : State) (x : Nat) : Nat := get s (F.ARB_AR_CFG_PARENT x)
def belowFuel (s : State) (a : Nat) : Nat → Nat → Bool
  | 0, x => decide (x = a)
  | n + 1, x => decide (x = a) || (decide (x ≠ 0) && belowFuel s a n (parentOf s x))
def below (s : State) (a x : Nat) : Bool := belowFuel s a 16 x

/-- The arbours from x up to the root. -/
def pathUp (s : State) : Nat → Nat → List Nat
  | 0, x => [x]
  | n + 1, x => if x = 0 then [0] else x :: pathUp s n (parentOf s x)

def isLeaf (s : State) (a : Nat) : Bool := decide (get s (F.ARB_AR_CFG_KIND a) = 2)
def isDomain (s : State) (a : Nat) : Bool := isSet s (F.ARB_AR_CFG_DOMAIN a)

/-- The leaves below an arbour in ascending number, and the bays and the carousel of a leaf. -/
def leavesBelow (s : State) (a : Nat) : List Nat := (arbsOf s).filter fun x => isLeaf s x && below s a x
def leafBays (s : State) (l : Nat) : List Nat :=
  (List.range 32).filter fun b => decide (bitOf (mapGet (fun _ => 0) s.lib.leafBays l) b = 1)
def leafCar (s : State) (l : Nat) : Nat := mapGet (fun _ => 0) s.lib.leafCar l
def leafOfBay (s : State) (b : Nat) : Nat := ((arbsOf s).find? fun x => isLeaf s x && decide (b ∈ leafBays s x)).getD 0
def leafOfCar (s : State) (c : Nat) : Nat := ((arbsOf s).find? fun x => isLeaf s x && decide (leafCar s x = c)).getD 0
def leafOfDisc (s : State) (d : Nat) : Nat := leafOfCar s (d / 288)
def baysBelow (s : State) (a : Nat) : List Nat := ((leavesBelow s a).map (leafBays s)).flatten

/-- The blank discs of a leaf in ascending carousel slot, and below an arbour. -/
def blanksOfLeaf (s : State) (l : Nat) : List Nat :=
  ((List.range 288).map fun i => 288 * leafCar s l + i).filter fun d => decide ((getDisc s d).state = 1)
def blanksBelow (s : State) (a : Nat) : Nat := ((leavesBelow s a).map fun l => (blanksOfLeaf s l).length).sum

/-- The nearest stripe domain at or above an arbour. -/
def domainAbove (s : State) (a : Nat) : Option Nat := (pathUp s 16 a).find? (isDomain s)

/-- The sets whose domain lies at or below an arbour. -/
def setsBelow (s : State) (a : Nat) : List DiscSet := (s.lib.sets.map Prod.snd).filter fun d => decide (d.st ≠ 0) && below s a d.domain

/-- The user bytes below an arbour: its sets at k members of data each, and each blank disc at the share k/(k+2) of its
nearest domain's geometry (R276, R311; DEDUCED, log entry 20). -/
def capTotal (s : State) (a : Nat) : Nat :=
  ((setsBelow s a).map fun d => (d.width - 2) * discBytes).sum
    + ((leavesBelow s a).map fun l =>
        match domainAbove s l with
        | none => 0
        | some g => (blanksOfLeaf s l).length * discBytes * get s (F.ARB_AR_CFG_K g) / (get s (F.ARB_AR_CFG_K g) + 2)).sum
def capLive (s : State) (a : Nat) : Nat := ((setsBelow s a).map fun d => 4096 * d.live).sum

/-- The grains with an unavailable block whose domain lies at or below an arbour (R292, R311). -/
def unavailGrains (s : State) (a : Nat) : Nat :=
  (((s.lib.unavail.filter fun p => below s a p.2).map fun p => p.1 / 256).dedup).length

/-! ### What the heads know of the discs -/

/-- What a head holds, and its channel; the bay of a head (R14). -/
def getHead (s : State) (h : Nat) : Head := mapGet (fun _ => {}) s.heads h
def chanOf (s : State) (h : Nat) : Chan := (getHead s h).ch
def bayOf (h : Nat) : Nat := h / 2

/-- A bay's mount, and changes of it (R271). -/
def mountOf (s : State) (b : Nat) : MountSt := mapGet (fun _ => {}) s.lib.mounts b
def updMount (b : Nat) (f : MountSt → MountSt) (s : State) : State :=
  { s with lib := { s.lib with mounts := mapPut s.lib.mounts b (f (mountOf s b)) } }

/-- The bay whose spindle carries a mounted disc; work on the disc has just been served (R297). -/
def bayOfDisc (s : State) (d : Nat) : Option Nat :=
  (s.lib.mounts.find? fun p => decide (p.2.phase = 5) && decide (p.2.disc = d)).map Prod.fst
def serveDisc (d : Nat) (s : State) : State :=
  match bayOfDisc s d with
  | none => s
  | some b => updMount b (fun m => { m with busyAt := now s }) s

/-- The disc in a head's bay, once a mount has carried it to the spindle (R271). -/
def discOfHead (s : State) (h : Nat) : Option Nat :=
  match mapFind s.lib.mounts (bayOf h) with
  | none => none
  | some m => if 3 ≤ m.phase ∧ m.phase ≤ 5 then some m.disc else none

/-- The ordinal of a data slot's address (R48), or none outside the data areas. -/
def addrOrd (x : Nat) : Option Nat :=
  let f := fretOf (addrBand x)
  if addrBand x < firstDataBand f ∨ lastDataBand f < addrBand x ∨ 12 + f ≤ addrSlot x then none
  else some (addrLayer x * 12977472 + 2 * (fretSlots.take f).sum + (addrBand x - firstDataBand f) * (64 * (12 + f))
    + addrSlot x * 64 + 32 * addrSide x + addrTrack x)

/-- The home slot's ordinal of an address of a disc: its own, or that of the slot a spare replaces (R49, R53). -/
def homeOrd (s : State) (d addr : Nat) : Option Nat :=
  match (getDisc s d).remaps.find? fun p => decide (p.2 = addr) with
  | some p => addrOrd p.1
  | none => addrOrd addr

/-- The sectors that a head has handed over or found Blank (R39, R147), by the disc in its bay and home ordinal. -/
def partsOfHead (s : State) (h : Nat) : List PartSector :=
  match discOfHead s h with
  | none => []
  | some d =>
    let c := chanOf s h
    let words (a : Nat) : List (List Nat) :=
      match c.sectors.find? fun x => decide (x.addr = a) && decide (x.rung = 7) with
      | none => []
      | some x => x.cws.map Codeword.data
    (c.losses.filterMap fun x => (homeOrd s d x.addr).map fun o => (⟨d, o, x.mask, words x.addr⟩ : PartSector))
      ++ c.blanks.filterMap fun a => (homeOrd s d a).map fun o => (⟨d, o, 511, []⟩ : PartSector)

/-- Every sector that is known to be incomplete and that no reconstruction has answered (R316). -/
def partSectors (s : State) : List PartSector := s.par.part ++ (headsOf s).flatMap (partsOfHead s)

/-- The losses behind them: disc, home ordinal and the codewords that are unavailable. -/
def lossMasks (s : State) : List (Nat × Nat × Nat) := (partSectors s).map fun x => (x.disc, x.ord, x.mask)

/-- The erasures of a row at a codeword index (R316): members that failed, and losses reported. -/
def erasuresAt (s : State) (d : DiscSet) (o c : Nat) : Nat :=
  ((List.range d.members.length).filter fun m => decide (m ∈ d.failed)
    || (lossMasks s).any fun x => decide (x.1 = d.members.getD m 0) && decide (x.2.1 = o) && decide (bitOf x.2.2 c = 1)).length

/-- The most erasures that any row of a set has at any index. -/
def setErasures (s : State) (d : DiscSet) : Nat :=
  ((lossMasks s).filter fun x => decide (x.1 ∈ d.members) && decide (x.2.1 ∈ d.durable)).foldl (fun n x =>
    (List.range 9).foldl (fun k c => max k (erasuresAt s d x.2.1 c)) n) d.failed.length

/-- An arbour's own condition (R277): 0 GOOD, 1 DEGRADED, 2 CRITICAL, 3 FAILED. -/
def ownHealth (s : State) (a : Nat) : Nat :=
  if isDomain s a then
    let mine := (s.lib.sets.map Prod.snd).filter fun d => decide (d.st ≠ 0) && decide (d.domain = a)
    if (s.lib.unavail.any fun p => decide (p.2 = a)) then 3
    else if mine.any fun d => decide (2 ≤ setErasures s d) then 2
    else if mine.any fun d => decide (1 ≤ setErasures s d) then 1 else 0
  else if isLeaf s a then
    if (leafBays s a).any (fun b => decide (b ∈ s.lib.bayOut)) || decide (leafCar s a ∈ s.lib.carOut) then 1 else 0
  else 0

/-- An arbour's health: the worst of its own condition and of every arbour below it (R277). -/
def healthOf (s : State) (a : Nat) : Nat :=
  ((arbsOf s).filter (below s a)).foldl (fun m x => max m (ownHealth s x)) 0

/-- The run-time registers of one arbour brought up to date, with HEALTH_CHANGE where its health changed (R276, R277). -/
def refreshArbour (a : Nat) (s : State) : State :=
  let old := get s (F.ARB_AR_STATUS_HEALTH a)
  let new := healthOf s a
  let s1 := putAll [(F.ARB_AR_STATUS_HEALTH a, new), (F.ARB_AR_CAP_TOTAL a, capTotal s a), (F.ARB_AR_CAP_LIVE a, capLive s a),
      (F.ARB_AR_STATUS_OPEN_SETS a, ((setsBelow s a).filter fun d => decide (d.st = 1)).length),
      (F.ARB_AR_STATUS_BLANK a, blanksBelow s a), (F.ARB_AR_UNAVAIL a, unavailGrains s a),
      (F.ARB_AR_STATUS_CONSOLIDATING a, if (setsBelow s a).any (fun d => d.consol) then 1 else 0)] s
  if old = new then s1 else notify 0x780 (pageChanged 0xc0 (raise (evAR a) B.ARB_AR_EVT_HEALTH_CHANGE s1))

/-- The run-time registers of every arbour brought up to date. -/
def refreshArbours (s : State) : State :=
  put F.ARB_STATUS_OPEN_SETS ((s.lib.sets.filter fun p => p.2.st = 1).length) (forAll (arbsOf s) refreshArbour s)

/-- A namespace by its identifier, and the grain that holds one of its blocks (R288). -/
def findSpace (s : State) (nsid : Nat) : Option Namespace := s.lib.spaces.find? fun n => n.nsid = nsid ∧ n.deleted = false
def grainOf (s : State) (nsid lba : Nat) : Option Nat :=
  match findSpace s nsid with
  | none => none
  | some n => if lba / 256 < n.grains then some (n.base + lba / 256) else none

/-- The entry of a grain, and of a fragment (R288, R289). -/
def grainEntry (s : State) (g : Nat) : MapEntry := mapGet (fun _ => .unmapped) s.lib.gmap g
def fragEntry (s : State) (t i : Nat) : MapEntry := mapGet (fun _ => .unmapped) s.lib.frags (256 * t + i)

/-- What a grain's entry says of its block i (R288, R289). -/
def blockOfEntry (s : State) (i : Nat) : MapEntry → MapEntry
  | .unmapped => .unmapped
  | .disc hd l => .disc hd (l + i)
  | .frag t => fragEntry s t i
  | .buffer p => .buffer (p + i)
  | .unavailable c => .unavailable c
def grainBlock (s : State) (g i : Nat) : MapEntry := blockOfEntry s i (grainEntry s g)

/-- What the map says of a block of a namespace. -/
def lookup (s : State) (nsid lba : Nat) : MapEntry :=
  match grainOf s nsid lba with
  | none => .unmapped
  | some g => grainBlock s g (lba % 256)

/-- The 64-bit word of a map entry (R288). -/
def MapEntry.word : MapEntry → Nat
  | .unmapped => 0
  | .disc hd l => 2 ^ 61 + 2 ^ 45 * (hd % 2 ^ 16) + 2 ^ 9 * (l % 2 ^ 36)
  | .frag t => 2 * 2 ^ 61 + t % 2 ^ 27
  | .buffer p => 3 * 2 ^ 61 + p % 2 ^ 29
  | .unavailable c => 7 * 2 ^ 61 + c % 2 ^ 8

/-- A map page changed in the present epoch (R293): grain pages even, fragment pages odd. -/
def markPage (p : Nat) (s : State) : State :=
  { s with lib := { s.lib with
      changed := if p ∈ s.lib.changed then s.lib.changed else p :: s.lib.changed,
      jpages := if p ∈ s.lib.jpages then s.lib.jpages else p :: s.lib.jpages } }

/-- A record enters the journal tail, to be written to the vault's ring (R421). -/
def journal (r : JournalRecord) (s : State) : State := { s with plp := { s.plp with tail := s.plp.tail ++ [r] } }

def setGrain (g : Nat) (e : MapEntry) (s : State) : State :=
  markPage (2 * (g / 512)) { s with lib := { s.lib with gmap := mapPutD (fun _ => .unmapped) s.lib.gmap g e } }
def setFrag (t i : Nat) (e : MapEntry) (s : State) : State :=
  markPage (2 * (t / 2) + 1) { s with lib := { s.lib with frags := mapPutD (fun _ => .unmapped) s.lib.frags (256 * t + i) e } }

/-- The pool's occupancy against its marks (R291). -/
def fragMarks (s : State) : State :=
  let used := s.lib.fragUsed.length
  let pool := get s F.ARB_FRAG_POOL
  let s := put F.ARB_FRAG_USED used s
  let s := if get s F.ARB_FRAG_MARK_HIGH * pool < 256 * used then
      (if isSet s F.ARB_STATUS_FRAG_HIGH then s else raise evARB B.ARB_EVT_FRAG_HIGH (put F.ARB_STATUS_FRAG_HIGH 1 s))
    else if 256 * used < get s F.ARB_FRAG_MARK_LOW * pool then put F.ARB_STATUS_FRAG_HIGH 0 s else s
  if pool ≤ used then (if isSet s F.ARB_STATUS_FRAG_FULL then s else raise evARB B.ARB_EVT_FRAG_FULL (put F.ARB_STATUS_FRAG_FULL 1 s))
  else put F.ARB_STATUS_FRAG_FULL 0 s

/-- The lowest fragment table that is free. -/
def freeTable (s : State) : Nat := ((List.range (s.lib.fragUsed.length + 1)).find? fun t => t ∉ s.lib.fragUsed).getD 0

/-- A grain turned into a fragment table that says of each block what the grain said (R290). -/
def fragGrain (g : Nat) (s : State) : State :=
  match grainEntry s g with
  | .frag _ => s
  | e =>
    let t := freeTable s
    let s1 := forAll (List.range 256) (fun i u => setFrag t i (blockOfEntry s i e) u)
      { s with lib := { s.lib with fragUsed := t :: s.lib.fragUsed } }
    fragMarks (setGrain g (.frag t) s1)

/-- A fragment table freed and its grain given one entry (R290). -/
def unfragGrain (g t : Nat) (e : MapEntry) (s : State) : State :=
  let s1 := forAll (List.range 256) (fun i u => setFrag t i .unmapped u) s
  fragMarks (setGrain g e { s1 with lib := { s1.lib with fragUsed := s1.lib.fragUsed.filter (· ≠ t) } })

/-- Whether the blocks of a table lie at consecutive LBKs of one set in block order. -/
def consecutive (s : State) (t hd l : Nat) : Bool := (List.range 256).all fun i => decide (fragEntry s t i = .disc hd (l + i))

/-- A FRAG grain whose blocks are all UNMAPPED, or all at consecutive LBKs of one set, loses its table (R290). -/
def tidyGrain (g : Nat) (s : State) : State :=
  match grainEntry s g with
  | .frag t =>
    if (List.range 256).all (fun i => decide (fragEntry s t i = .unmapped)) then unfragGrain g t .unmapped s
    else match fragEntry s t 0 with
      | .disc hd l => if consecutive s t hd l then unfragGrain g t (.disc hd l) s else s
      | _ => s
  | _ => s

/-- The live blocks a map entry stands for in its set (R280). -/
def liveDelta (e : MapEntry) (n : Nat) (up : Bool) (s : State) : State :=
  match e with
  | .disc hd _ => updSet hd (fun d => { d with live := if up then d.live + n else d.live - n }) s
  | _ => s

/-- The bookkeeping of unavailable blocks: block key 256 g + i, with the domain that lost it. -/
def noteUnavail (g i dom : Nat) (e : MapEntry) (s : State) : State :=
  { s with lib := { s.lib with unavail := (match e with
      | .unavailable _ => mapPut s.lib.unavail (256 * g + i) dom
      | _ => mapErase s.lib.unavail (256 * g + i)) } }

/-- One block's entry set: its grain becomes a fragment table unless it is one, live counts follow, and the grain is tidied
(R289, R290). -/
def setBlock (g i dom : Nat) (e : MapEntry) (s : State) : State :=
  let old := grainBlock s g i
  if old = e then s
  else
    let s1 := liveDelta e 1 true (liveDelta old 1 false (fragGrain g s))
    let s2 := match grainEntry s1 g with
      | .frag t => setFrag t i e s1
      | _ => s1
    tidyGrain g (noteUnavail g i dom e s2)

/-- A whole grain's entry set (R290): a complete, aligned write or a whole-grain mark. -/
def setWholeGrain (g dom : Nat) (e : MapEntry) (s : State) : State :=
  let s1 := forAll (List.range 256) (fun i u => liveDelta (grainBlock s g i) 1 false u) s
  let s2 := match grainEntry s1 g with
    | .frag t => unfragGrain g t e s1
    | _ => setGrain g e s1
  let s3 := liveDelta e 256 true s2
  forAll (List.range 256) (fun i u => noteUnavail g i dom e u) s3

/-- The domain a set handle belongs to. -/
def domOf (s : State) (hd : Nat) : Nat := (getSet s hd).domain

/-- Every block the map places at a row of a set becomes UNAVAILABLE with a cause, where `p` holds of its LBK (R292, R320). -/
def markSet (hd cause : Nat) (p : Nat → Bool) (s : State) : State :=
  let keys := (s.lib.gmap.map Prod.fst)
  forAll keys (fun g u => forAll (List.range 256) (fun i v =>
    match grainBlock v g i with
    | .disc x l => if x = hd ∧ p l then setBlock g i (domOf v hd) (.unavailable cause) v else v
    | _ => v) u) s

/-- The blocks the map places in a set, with their grain, index and LBK. -/
def blocksOfSet (s : State) (hd : Nat) : List (Nat × Nat × Nat) :=
  ((s.lib.gmap.map Prod.fst).map fun g => (List.range 256).filterMap fun i =>
    match grainBlock s g i with
    | .disc x l => if x = hd then some (g, i, l) else none
    | _ => none).flatten

/-- The namespace and LBA of a block of a grain. -/
def nsOfGrain (s : State) (g i : Nat) : Nat × Nat :=
  match s.lib.spaces.find? (fun n => n.base ≤ g ∧ g < n.base + n.grains ∧ n.deleted = false) with
  | some n => (n.nsid, 256 * (g - n.base) + i)
  | none => (0, 0)

/-- A record goes to the next slot of the record area of a side and layer, with the next REC_SEQ (R50, R51); a full area takes none, and the
inventory reports an area that is full (R57, R407). -/
def recordsUsed (d : Disc) (side layer : Nat) : Nat := mapGet (fun _ => 0) d.recNext (12 * side + layer)
def putRecord (side layer kind : Nat) (body : List Nat) (d : Disc) : Disc :=
  let n := recordsUsed d side layer
  if recordSlots ≤ n then { d with flags := d.flags ||| 8 }
  else
    { d with
      records := d.records ++ [⟨recordAddr side layer n, kind, d.recSeq + 1, body⟩]
      recSeq := d.recSeq + 1
      recNext := mapPut d.recNext (12 * side + layer) (n + 1)
      flags := if n + 1 = recordSlots then d.flags ||| 8 else d.flags }

/-- The user bytes of a record's sector (R50). -/
def recordBytes (r : DiscRecord) : List Nat := padTo 32768 (bytesLE 2 r.kind ++ bytesLE 2 r.body.length ++ bytesLE 4 0 ++ bytesLE 8 r.seq ++ r.body)

/-- A descriptor generation as the 80 bytes of its body, and back (R51). -/
def descriptorBytes (g : Descriptor) : List Nat :=
  bytesLE 8 g.gen ++ bytesLE 16 g.mediaId ++ [g.state, g.member, g.width, 0] ++ bytesLE 2 g.arbour ++ [0, 0] ++ bytesLE 16 g.setId
    ++ bytesLE 16 g.former ++ bytesLE 8 g.rows ++ bytesLE 8 g.ckptNext
def readDescriptor (b : List Nat) : Descriptor :=
  let f (o n : Nat) : Nat := ofBytesLE ((b.drop o).take n)
  ⟨f 0 8, f 24 1, f 25 1, f 26 1, f 28 2, f 32 16, f 64 8, f 72 8, f 8 16, f 48 16⟩

/-- A descriptor generation records a disc's state (R51). It is written twice, to the first layer of each side whose record area has a free
slot. -/
def firstRecordLayer (d : Disc) (side : Nat) : Nat :=
  ((List.range 12).find? fun l => decide (recordsUsed d side l < recordSlots)).getD 0
def describe (a st : Nat) (d : Disc) : Disc :=
  let gen := match d.descs.head? with
    | none => 0
    | some x => x.gen + 1
  let g : Descriptor := ⟨gen, st, d.member, d.width, a, d.setId, d.rows, d.ckptNext, d.mediaId, d.former⟩
  let once (side : Nat) (x : Disc) : Disc := putRecord side (firstRecordLayer x side) 1 (descriptorBytes g) x
  once 1 (once 0 { d with descs := g :: d.descs })

/-- A disc's state has changed (R278): the descriptor generation waits for its next mount or write session, when it is written. -/
def owe (a st : Nat) (d : Disc) : Disc := { d with owed := d.owed ++ [(a, st)] }
def writeOwed (d : Disc) : Disc := { d.owed.foldl (fun x p => describe p.1 p.2 x) d with owed := [] }

/-! ### Scanning a disc's records -/

/-- A record from the user bytes of its sector, where its length is allowed (R50). -/
def readRecord (addr : Nat) (b : List Nat) : Option DiscRecord :=
  let f (o n : Nat) : Nat := ofBytesLE ((b.drop o).take n)
  if 32752 < f 2 2 then none else some ⟨addr, f 0 2, f 8 8, (b.drop 16).take (f 2 2)⟩

/-- A record area read in order up to its first blank slot (R51): the slots before it. -/
def writtenSlots : List SlotRead → List SlotRead
  | [] => []
  | .blank :: _ => []
  | x :: xs => x :: writtenSlots xs
def areaRecords (side layer : Nat) (reads : List SlotRead) : List DiscRecord :=
  (writtenSlots reads).zipIdx.filterMap fun p => match p.1 with
    | .record b => readRecord (recordAddr side layer p.2) b
    | _ => none
def areaSkipped (reads : List SlotRead) : Nat := ((writtenSlots reads).filter fun x => decide (x = .unreadable)).length

/-- The descriptor generations among records, with their sides, and the one that is selected (R52): the highest GEN, side A before side B. -/
def recordDescriptors (rs : List DiscRecord) : List (Nat × Descriptor) :=
  (rs.filter fun r => decide (r.kind = 1)).map fun r => (addrSide r.addr, readDescriptor r.body)
def bestDescriptor : List (Nat × Descriptor) → Option (Nat × Descriptor)
  | [] => none
  | x :: l =>
    match bestDescriptor l with
    | none => some x
    | some y => if x.2.gen < y.2.gen ∨ (x.2.gen = y.2.gen ∧ y.1 < x.1) then some y else some x
/-- The two sides hold the selected generation with different bodies (R52). -/
def copiesDiffer (ds : List (Nat × Descriptor)) (g : Descriptor) : Bool := ds.any fun p => decide (p.2.gen = g.gen) && decide (p.2 ≠ g)

/-- The calibration place of a side, layer and fret. -/
def calKeyOf (side layer fret : Nat) : Nat := 240 * side + 20 * layer + fret

/-- The calibration results among records, the latest of each place (R55, R164). -/
def recordResults (rs : List DiscRecord) (m : Map Nat) : Map Nat :=
  ((rs.filter fun r => decide (r.kind = 2)).mergeSort fun a b => decide (a.seq ≤ b.seq)).foldl (fun m r =>
    mapPut m (calKeyOf (r.body.getD 0 0) (r.body.getD 1 0) (r.body.getD 2 0)) (ofBytesLE r.body)) m

/-- The pairs of HOME_ADDR and SPARE_ADDR of the remap batches among records, in record order (R52). -/
def pairsOf : Nat → List Nat → List (Nat × Nat)
  | 0, _ => []
  | n + 1, b => (ofBytesLE (b.take 4), ofBytesLE ((b.drop 4).take 4)) :: pairsOf n (b.drop 8)
def recordRemaps (rs : List DiscRecord) : List (Nat × Nat) :=
  ((rs.filter fun r => decide (r.kind = 3)).mergeSort fun a b => decide (a.seq ≤ b.seq)).flatMap fun r =>
    pairsOf (min 4000 (ofBytesLE (r.body.take 4))) (r.body.drop 4)

/-- RECORD_AREA_SCAN (R51): what reading a disc's record areas (12 side + layer) gives; the next record of each goes behind the last written
slot, whether or not that could be read. -/
def scanDisc (areas : List (Nat × List SlotRead)) (d : Disc) : Disc :=
  let rs := areas.flatMap fun a => areaRecords (a.1 / 12) (a.1 % 12) a.2
  let next := areas.foldl (fun m a => mapPut m a.1 (min recordSlots (writtenSlots a.2).length)) d.recNext
  { d with
    records := rs
    recNext := next
    recSeq := (rs.map DiscRecord.seq).foldl max d.recSeq
    skipped := (areas.map fun a => areaSkipped a.2).sum
    descs := ((recordDescriptors rs).map Prod.snd).mergeSort fun a b => decide (b.gen ≤ a.gen)
    calResults := recordResults rs d.calResults
    flags := (d.flags &&& 0xfff7) ||| (if next.any fun p => decide (recordSlots ≤ p.2) then 8 else 0) }

/-- The selected generation of a scanned disc (R52): the copies' disagreement or the lack of a descriptor stands in the flags. -/
def selectDescriptor (d : Disc) : Disc :=
  let ds := recordDescriptors d.records
  match bestDescriptor ds with
  | none => { d with flags := (d.flags &&& 0xfffc) ||| 2 }
  | some (_, g) =>
    { d with flags := (d.flags &&& 0xfffc) ||| (if copiesDiffer ds g then 1 else 0), rows := max d.rows g.rows,
             ckptNext := max d.ckptNext g.ckptNext, former := g.former }

/-- The common part of a data sector says what disc it is where no descriptor does (R45, R52): SET_ID, MEMBER and WIDTH. -/
def metaSetId (c : List Nat) : Nat := ofBytesLE ((c.drop 0x10).take 16)
def metaMember (c : List Nat) : Nat := c.getD 0x28 0
def metaWidth (c : List Nat) : Nat := c.getD 0x29 0

/-- The address of spare slot n of a side, layer and fret, in ascending physical address (R53, R167). -/
def spareAddr (side layer fret n : Nat) : Nat :=
  let per := 12 + fret
  physAddr side layer (firstSpareBand fret + n / (32 * per)) (n % (32 * per) / per) (n % per)

/-- A format condition of R57 shows in the event log as the event source of its head: the manual gives it no flag (log entry 71). -/
def headEvent (h : Nat) (s : State) : State := if isSet s F.EVT_CTRL_LOG_EN then logAppend h s else s

/-- The generation of a directory copy; a copy that is not valid has none. -/
def dirGen : Option Directory → Nat
  | none => 0
  | some d => d.gen

/-- The library directory's next generation is written into the copy with the lower generation (R284, R525): the inventory,
the set table or the namespaces changed. -/
def writeDirectory (s : State) : State :=
  let g := max (dirGen s.flash.dirA) (dirGen s.flash.dirB) + 1
  let d : Directory := ⟨g, s.lib.discs, s.lib.sets, s.lib.spaces, s.lib.formCtr, get s F.ARB_WSTAMP⟩
  let f := if dirGen s.flash.dirB < dirGen s.flash.dirA then { s.flash with dirB := some d } else { s.flash with dirA := some d }
  notify 0x781 (pageChanged 0xc1 { s with flash := f })

/-- A logged cut appended to the placement report (R307, R408); the host is told when unread entries are overwritten
(R410). -/
def reportCut (kind hd value : Nat) (s : State) : State :=
  let q := s.lib.reportSeq + 1
  let lost := decide (s.lib.reportRead + 4096 < q)
  let s1 := pageChanged 0xc3 { s with lib := { s.lib with
      reportSeq := q,
      report := (⟨q, kind, hd, value, s.lib.maxStamp⟩ :: s.lib.report).take 4096,
      overwritten := if lost then s.lib.overwritten + 1 else s.lib.overwritten } }
  if lost then notify 0x783 s1 else s1

/-- The open set of a domain's slot. -/
def openSetOf (s : State) (dom slot : Nat) : Option Nat :=
  (s.lib.sets.find? fun p => p.2.st = 1 ∧ p.2.domain = dom ∧ p.2.slot = slot).map Prod.fst

/-- Largest-remainder shares of w over leaves of n bays each (R279 step 1). -/
def shares (w : Nat) (ns : List Nat) : List Nat :=
  let tot := ns.sum
  let base := ns.map fun n => w * n / tot
  let rems := (ns.map fun n => w * n % tot)
  let left := w - base.sum
  let order := (List.range ns.length).mergeSort fun i j =>
    decide (rems.getD j 0 < rems.getD i 0) || (decide (rems.getD j 0 = rems.getD i 0) && decide (i ≤ j))
  let extra := order.take left
  (List.range ns.length).map fun i => base.getD i 0 + (if i ∈ extra then 1 else 0)

/-- One member of a shortfall moved to the first leaf that still holds a blank disc and fewer members than bays (R279
step 3). -/
def placeShort (blanks bays : List Nat) : Nat → List Nat → Option (List Nat)
  | 0, cs => some cs
  | n + 1, cs =>
    match (List.range cs.length).find? fun i => cs.getD i 0 < blanks.getD i 0 ∧ cs.getD i 0 < bays.getD i 0 with
    | none => none
    | some i => placeShort blanks bays n (cs.set i (cs.getD i 0 + 1))

/-- An arbour and every one above it is ACTIVE: sets may form (R276). -/
def pathActive (s : State) (a : Nat) : Bool := (pathUp s 16 a).all fun x => decide (get s (F.ARB_AR_STATUS_PSTATE x) = 0)

/-- The members of a new set of a domain, from its ACTIVE leaves, or none where the shortfall cannot be placed (R276, R279). -/
def chooseMembers (s : State) (a : Nat) : Option (List Nat) :=
  let w := get s (F.ARB_AR_CFG_K a) + 2
  let ls := (leavesBelow s a).filter (pathActive s)
  let bays := ls.map fun l => (leafBays s l).length
  let blanks := ls.map fun l => (blanksOfLeaf s l).length
  let want := shares w bays
  let have0 := (List.range ls.length).map fun i => min (want.getD i 0) (blanks.getD i 0)
  (placeShort blanks bays (w - have0.sum) have0).map fun cs =>
    ((List.range ls.length).map fun i => (blanksOfLeaf s (ls.getD i 0)).take (cs.getD i 0)).flatten

/-- The lowest free set handle (R280). -/
def freeHandle (s : State) : Nat :=
  ((List.range (s.lib.sets.length + 1)).find? fun i => decide ((getSet s i).st = 0)).getD 0

/-- The controller's 128-bit unit ID (R470). -/
def formerUnit (s : State) : Nat := 2 ^ 64 * get s F.GLB_UNIT_ID_HI + get s F.GLB_UNIT_ID_LO

/-- The controller forms a set in a slot of a domain, or refuses (R279, R284). -/
def formSet (a slot : Nat) (s : State) : State :=
  let w := get s (F.ARB_AR_CFG_K a) + 2
  if blanksBelow s a < w + get s (F.ARB_AR_SPARE_POOL a) then
    raise evARB B.ARB_EVT_NO_BLANK (raise (evAR a) B.ARB_AR_EVT_SPARE_LOW s)
  else match chooseMembers s a with
    | none => raise evARB B.ARB_EVT_NO_BLANK s
    | some ms =>
      let hd := freeHandle s
      let ctr := s.lib.formCtr + 1
      let sid := 2 ^ 64 * get s F.GLB_UNIT_ID_LO + ctr
      let s1 := putSet hd { st := 1, setId := sid, width := w, domain := a, slot := slot, members := ms }
        { s with lib := { s.lib with formCtr := ctr } }
      let s2 := forAll (List.range ms.length) (fun i u => updDisc (ms.getD i 0) (fun d =>
        owe a 1 { d with state := 2, set := hd, setId := sid, member := i, width := w, former := formerUnit s }) u) s1
      refreshArbours (raise (evAR a) B.ARB_AR_EVT_SET_FORMED (writeDirectory s2))

/-- A set takes no more rows; its members become sealed (R278). -/
def sealSet (hd : Nat) (s : State) : State :=
  let d := getSet s hd
  let s1 := putSet hd { d with st := 2 } s
  let s2 := forAll d.members (fun x u => updDisc x (fun y => if y.state = 2 then owe d.domain 2 { y with state := 3 } else y) u) s1
  refreshArbours (raise (evAR d.domain) B.ARB_AR_EVT_SET_SEALED (writeDirectory s2))

/-- The next internal work takes the next issue number (R296). -/
def issueNext (s : State) : State := { s with lib := { s.lib with issue := s.lib.issue + 1 } }

/-- Whether a block of a filling row is kept at its seal: a re-placed block only while the map still points to its source
(R287); a damaged row's block has its buffer page as its source. -/
def keepBlock (s : State) (b : Block) : Bool :=
  match b.src with
  | none => true
  | some (hd, l) => decide (lookup s b.nsid b.lba = if hd = 0xffff then .buffer l else .disc hd l)

/-- The filling row of a stream in the slot of a domain. It belongs to that slot's open set: where that is sealed, the row moves unsealed to the
next (R282, R283, R322, R332). -/
def isFilling (st dom slot : Nat) (f : Filling) : Bool := decide (f.stream = st) && decide (f.dom = dom) && decide (f.slot = slot)
def findFilling (s : State) (st hd : Nat) : Option Filling :=
  s.lib.filling.find? (isFilling st (getSet s hd).domain (getSet s hd).slot)

/-- Pages that what held them has given up: each is released once nothing holds it (R166, R349, R382). -/
def freePages (ps : List Nat) (s : State) : State := { s with host := { s.host with relWait := s.host.relWait ++ ps } }

/-- A filling row sealed for a cause: 0 full, 1 FUA, 2 admission pressure, 3 re-placement, 4 entry to Parked or orderly
shutdown (R283, R285, R287). A seal that a full row did not cause completes its slot group with padding rows. A row whose every block R287
has removed is not sealed: it is gone (log entry 80). -/
def sealRow (st hd why : Nat) (s : State) : State :=
  match findFilling s st hd with
  | none => s
  | some f =>
    let d := getSet s hd
    let kept := f.blocks.filter (keepBlock s)
    let dropped := f.blocks.length - kept.length
    let row := kept.take (rowBlocks d.width)
    let rest := kept.drop (rowBlocks d.width)
    let cause := if rest = [] then why else 0
    let others := s.lib.filling.filter fun x => !isFilling st d.domain d.slot x
    if d.st ≠ 1 ∨ (cause = 0 ∧ row.length < rowBlocks d.width) ∨ discSlots ≤ d.nextOrd then s
    else if row = [] then
      freePages (f.blocks.map Block.page) (bump F.ARB_DROPPED dropped { s with lib := { s.lib with filling := others } })
    else
      let pad := rowBlocks d.width - row.length
      let stamps := row.map Block.stamp
      let w := get s F.ARB_WSTAMP
      let r : Row := ⟨d.nextOrd, w, st, (stamps.min?).getD 0, (stamps.max?).getD 0, pad, decide (cause = 1), row, [], [], none⟩
      let padRows := if cause = 0 then 0 else (64 - (d.nextOrd + 1) % 64) % 64
      let pads := (List.range padRows).map fun i =>
        (⟨d.nextOrd + 1 + i, w + 1 + i, st, 0, 0, rowBlocks d.width, false, [], [], [], none⟩ : Row)
      let next := d.nextOrd + 1 + padRows
      let s1 := putSet hd { d with
          nextOrd := next, rows := d.rows ++ r :: pads
          streams := if st = 0 then d.streams else mapPut d.streams d.nextOrd st
          due := d.due || decide (cause ≠ 0), dueAt := if d.due = false ∧ cause ≠ 0 then s.lib.issue else d.dueAt }
        { s with lib := { s.lib with
            filling := others ++ (if rest = [] then [] else [{ f with blocks := rest }]),
            rowsSince := s.lib.rowsSince + 1
            issue := s.lib.issue + 1 } }
      let s2 := put F.ARB_WSTAMP (w + 1 + padRows) s1
      let s3 := bump F.ARB_ROWS_SEALED 1 (bump F.ARB_PAD_BLOCKS pad (bump F.ARB_PAD_ROWS padRows (bump F.ARB_DROPPED dropped s2)))
      let s4 := if cause = 1 then bump F.ARB_SEALS_FUA 1 s3 else if cause = 2 then bump F.ARB_SEALS_PRESSURE 1 s3 else s3
      let s5 := forAll (pathUp s4 16 d.domain) (fun a u => bump (F.ARB_AR_ROWS a) 1 u) s4
      let s6 := if 2 ≤ cause then reportCut (cause - 1) hd w s5 else s5
      let s7 := freePages ((f.blocks.filter fun b => !keepBlock s b).map Block.page) s6
      if next = discSlots then sealSet hd (updSet hd (fun e => { e with due := true }) s7) else s7

/-- The pages of a row's blocks, whose buffer copies are released with it. -/
def rowPages (r : Row) : List Nat := r.blocks.map Block.page

/-- A row verified on every member is durable: each host block whose entry still points to its page becomes DISC, and the row's buffer copy is
given up (R166, R290). -/
def rowDurable (hd ord : Nat) (s : State) : State :=
  let d := getSet s hd
  match d.rows.find? fun r => r.ord = ord with
  | none => s
  | some r =>
    let s1 := forAll (List.range r.blocks.length) (fun i u =>
      match r.blocks[i]? with
      | none => u
      | some b =>
        match grainOf u b.nsid b.lba with
        | none => u
        | some g =>
          let here := match b.src with
            | some (x, l) => if x = 0xffff then MapEntry.buffer b.page else MapEntry.disc x l
            | none => MapEntry.buffer b.page
          if grainBlock u g (b.lba % 256) = here then
            setBlock g (b.lba % 256) d.domain (.disc hd (ord * rowBlocks d.width + i)) u
          else u) s
    journal (.durable hd ord) (freePages (rowPages r)
      (updSet hd (fun e => { e with rows := e.rows.filter (fun x => x.ord ≠ ord), durable := e.durable ++ [ord] }) s1))

/-- Blocks placed into the filling row of a stream in the slot of a domain, in their order (R282). -/
def placeBlocks (st dom slot : Nat) (fua : Bool) (bs : List Block) (s : State) : State :=
  if s.lib.filling.any (isFilling st dom slot) then
    let add (f : Filling) : Filling := if isFilling st dom slot f then { f with blocks := f.blocks ++ bs, fua := f.fua || fua } else f
    { s with lib := { s.lib with filling := s.lib.filling.map add } }
  else
    { s with lib := { s.lib with filling := s.lib.filling ++ [⟨st, dom, slot, fua, bs⟩] } }

/-- A row with a lost chunk is damaged: its blocks are placed again in a later row and it is never referenced (R169). -/
def rowDamaged (hd ord : Nat) (s : State) : State :=
  let d := getSet s hd
  match d.rows.find? fun r => r.ord = ord with
  | none => s
  | some r =>
    let again := r.blocks.map fun b => if b.src = none then { b with src := some (0xffff, b.page) } else b
    let s1 := updSet hd (fun e => { e with rows := e.rows.filter (fun x => x.ord ≠ ord), holes := ord :: e.holes }) s
    if again = [] then s1 else placeBlocks r.stream d.domain d.slot r.fua again s1

/-- No arbour from a domain up is OFFLINE (R276). -/
def pathOnline (s : State) (a : Nat) : Bool := (pathUp s 16 a).all fun x => decide (get s (F.ARB_AR_STATUS_PSTATE x) ≠ 2)

/-- The domain and the open-set slot of a stream (R294); while its domain is OFFLINE, those of the default binding over the ACTIVE domains
(R308; log entry 84). -/
def streamHome (s : State) (st : Nat) : Nat × Nat :=
  let own := (get s (F.ARB_STREAM_DOMAIN st), get s (F.ARB_STREAM_SLOT st))
  let ds := (arbsOf s).filter fun a => isDomain s a && pathActive s a
  if pathOnline s own.1 ∨ ds = [] then own
  else
    let a := ds.getD (st % ds.length) 0
    (a, st / ds.length % (get s (F.ARB_AR_CFG_OPEN_MAX a) - 1))

/-- The filling rows of OFFLINE domains go to other domains (R308). -/
def moveOffline (s : State) : State :=
  (s.lib.filling.filter fun f => !pathOnline s f.dom).foldl (fun u f =>
    let h := streamHome u f.stream
    if h = (f.dom, f.slot) then u
    else placeBlocks f.stream h.1 h.2 f.fua f.blocks
      { u with lib := { u.lib with filling := u.lib.filling.filter fun x => !isFilling f.stream f.dom f.slot x } }) s

/-- Where a write goes: with the filling row that holds a block it overlaps, not a re-placed one, else to its stream's open set (R282, R294,
R308). -/
def writeHome (s : State) (nsid lba n st : Nat) : Nat × Nat × Nat :=
  match s.lib.filling.find? fun f => f.blocks.any fun b => b.src = none ∧ b.nsid = nsid ∧ lba ≤ b.lba ∧ b.lba < lba + n with
  | some f => (f.stream, f.dom, f.slot)
  | none => (st, streamHome s st)

/-- A set with no live block and no read in flight is retired (R306, R526): its discs, a spare under way among them, are retired and its
handle freed. -/
def retireSet (hd : Nat) (s : State) : State :=
  let d := getSet s hd
  let s1 := forAll ((s.lib.discs.filter fun p => decide (p.2.set = hd)).map Prod.fst) (fun x u =>
    updDisc x (fun y => owe d.domain 4 { y with state := 5, set := 0xffff }) u) s
  let s2 := { s1 with lib := { s1.lib with sets := mapErase s1.lib.sets hd } }
  refreshArbours (raise (evAR d.domain) B.ARB_AR_EVT_SET_RETIRED (writeDirectory s2))

/-- The map pages whose newest checkpoint copy a set holds; they are to be checkpointed again into another set (R526). -/
def pagesHeld (s : State) (hd : Nat) : List Nat := (s.lib.pageHome.filter fun p => decide (p.2 = hd)).map Prod.fst
/-- The 512 entries of a map page: a grain page, or a page of two fragment tables (R293). -/
def pageWords (s : State) (p : Nat) : List Nat :=
  (List.range 512).map fun i =>
    if p % 2 = 0 then (grainEntry s (512 * (p / 2) + i)).word else (fragEntry s (2 * (p / 2) + i / 256) (i % 256)).word

/-- Pages wait to be checkpointed with their content of now, which replaces an older one that still waits (R293). -/
def closePages (ps : List Nat) (s : State) : State :=
  { s with lib := { s.lib with
      closing := (s.lib.closing.filter fun x => decide (x.1 ∉ ps)) ++ ps.map fun p => (p, pageWords s p) } }

def checkpointAgain (hd : Nat) (s : State) : State :=
  closePages ((pagesHeld s hd).filter fun p => s.lib.closing.all fun x => decide (x.1 ≠ p)) s

/-- The map pages changed in the epoch wait to be written, and a new epoch opens (R293); a switch that the row count did
not cause is a logged cut. -/
def switchEpoch (forced : Bool) (s : State) : State :=
  let e := get s F.ARB_EPOCH + 1
  let s0 := closePages s.lib.changed s
  let s1 := put F.ARB_EPOCH e { s0 with lib := { s0.lib with changed := [], rowsSince := 0 } }
  if forced then reportCut 4 0xffff e s1 else s1

/-! ### The vault's headers -/

/-- The valid header: the higher generation whose CRC passes (R421). -/
def validHeader (v : Vault) : Option VaultHeader :=
  match v.headerA.filter VaultHeader.ok, v.headerB.filter VaultHeader.ok with
  | none, b => b
  | a, none => a
  | some a, some b => if a.gen < b.gen then some b else some a

/-- The next generation written with a state: even generations to header A, odd ones to header B (R421). -/
def writeHeader (st : Nat) (s : State) : State :=
  let v := s.plp.vault
  let g := (match validHeader v with | none => 0 | some h => h.gen) + 1
  let h : VaultHeader := ⟨g, st, v.first, v.first + v.ring.length, max s.lib.maxStamp (get s F.HST_STAMP - 1), true⟩
  { s with plp := { s.plp with header := none, vault := if g % 2 = 0 then { v with headerA := some h } else { v with headerB := some h } } }

/-- A header write at run time: it passes the energy check first, else it is counted and deferred to the next computation of the
admission limit (R426). A header of state 1 makes a dump that is held unnecessary (R432 step 5). -/
def updateHeader (st : Nat) (s : State) : State :=
  if isSet s F.PLP_STATUS_VAULT_OK = false then s
  else if get s F.PLP_D_MAX < get s F.PLP_D_DIRTY + Config.recordBytes 5 then
    bump F.PLP_CHECK_FAIL_VAULT 1 { s with plp := { s.plp with header := some st } }
  else
    let t := writeHeader st s
    if st = 1 then { t with plp := { t.plp with vault := { t.plp.vault with dump := [], dumpTail := [], dumpLines := [] }, state1 := false } } else t

end Sys2Proof.Machine
end

