-- ==== Sys2Proof/Machine/Pages.lean ====
section
/-! DEFINITION. Buffer pages: where a buffer address lies, the valid bits, the lines the map cache holds, the pages that dirty and clean
data occupy, and a page's release (R342, R343, R348, R349, R354, R356). -/

namespace Sys2Proof.Machine

/-- C and M in bytes, and the bytes of a channel's valid bitmap (R341). -/
def bufC (s : State) : Nat := 2 ^ 30 * get s F.BUF_CONFIG_C
def bufM (s : State) : Nat := 2 ^ 30 * get s F.BUF_MIRROR_M
def bufV (s : State) : Nat := bufC s / 512

/-- Whether a buffer address is mirrored, and the channel and channel offset of its copies (R342). -/
def isMirrored (s : State) (ba : Nat) : Bool := decide (ba < 8 * bufM s)
def baPage (ba : Nat) : Nat := ba / 4096
def primaryOf (s : State) (ba : Nat) : Nat × Nat :=
  if isMirrored s ba then (baPage ba % 16, baPage ba / 16 * 4096 + ba % 4096)
  else
    let q := (ba - 8 * bufM s) / 4096
    (q % 16, bufM s + q / 16 * 4096 + ba % 4096)
def mirrorOf (s : State) (ba : Nat) : Nat × Nat :=
  ((baPage ba + 8) % 16, bufM s / 2 + baPage ba / 16 * 4096 + ba % 4096)

/-- The whole BA space (R342). -/
def baSize (s : State) : Nat := 8 * bufM s + 16 * (bufC s - bufV s - bufM s)

/-- The raw word at a channel offset, and its write: one entry per word, none for a word of zeros. -/
def wordKey (c o : Nat) : Nat := 2 ^ 31 * c + o / 128
def rawWord (s : State) (c o : Nat) : Nat := mapGet (fun _ => 0) s.buf.words (wordKey c o)
def putRaw (c o v : Nat) (s : State) : State :=
  { s with buf := { s.buf with words := mapPutD (fun _ => 0) s.buf.words (wordKey c o) v } }

/-- The valid bit of a 64-byte line and the summary bit of its 2 MiB (R348). -/
def lineKey (c o : Nat) : Nat := 2 ^ 32 * c + o / 64
def summaryBit (s : State) (c o : Nat) : Nat := c * (bufC s / 2 ^ 21) + o / 2 ^ 21
def isValid (s : State) (c o : Nat) : Bool := decide (mapGet (fun _ => 0) s.buf.valid (lineKey c o) = 1)
def inSummary (s : State) (c o : Nat) : Bool := decide (mapGet (fun _ => 0) s.buf.summary (summaryBit s c o) = 1)
def setValid (c o : Nat) (v : Bool) (s : State) : State :=
  { s with buf := { s.buf with
      valid := mapPutD (fun _ => 0) s.buf.valid (lineKey c o) (if v then 1 else 0),
      summary := if v then mapPutD (fun _ => 0) s.buf.summary (summaryBit s c o) 1 else s.buf.summary } }

/-- Whether a channel takes writes, and whether it holds what its partner holds: while it resyncs it takes writes, and only its unmirrored
zone, which its clear has emptied, is read (R354, R355). -/
def chServes (s : State) (c : Nat) : Bool := decide (get s (F.BUF_CH_STATUS_STATE c) = 0 ∨ get s (F.BUF_CH_STATUS_STATE c) = 2)
def chWhole (s : State) (c : Nat) : Bool := decide (get s (F.BUF_CH_STATUS_STATE c) = 0)

/-- The slice and the set of a line address, and the line the map cache holds of it with its key (R356). -/
def sliceOf (la : Nat) : Nat := (la / 32 % 32) ^^^ (la / 1024 % 32)
def mapWays (s : State) : Nat := get s F.MAP_GEOM_WAYS
def setOf (s : State) (la : Nat) : Nat := la / 32 % (16384 / mapWays s)
def wayKey (sl st w : Nat) : Nat := (sl * 8192 + st) * 16 + w
def cachedLine (s : State) (la : Nat) : Option (Nat × CacheLine) :=
  ((List.range (mapWays s)).filterMap fun w =>
    let k := wayKey (sliceOf la) (setOf s la) w
    match mapFind s.buf.lines k with
    | some l => if l.la = la then some (k, l) else none
    | none => none).head?
def putLine (k : Nat) (l : CacheLine) (s : State) : State := { s with buf := { s.buf with lines := mapPut s.buf.lines k l } }

/-- MAP.DIRTY follows the lines. -/
def countDirty (s : State) : State := put F.MAP_DIRTY ((s.buf.lines.filter fun p => p.2.dirty).length) s

/-! ### Dirty pages -/

/-- Where the dirty zone begins: behind the grain map, the fragment pool and 8 GiB for the set table and the journals (R343; log entry 22);
and the lowest run of n of its pages that no live page occupies. -/
def dirtyBase (s : State) : Nat := 2 ^ 23 + get s F.ARB_FRAG_POOL / 2 + 2 ^ 21
def runFree (used : List Nat) (p n : Nat) : Bool := used.all fun u => decide (u < p) || decide (p + n ≤ u)
def freeRun (s : State) (used : List Nat) (n : Nat) : Nat :=
  (((dirtyBase s :: used.map (· + 1)).filter fun p => decide (dirtyBase s ≤ p) && runFree used p n).min?).getD (dirtyBase s)

/-- The buffer pages that rows, filling rows, map entries, commands and dirty units hold. -/
def usedPages (s : State) : List Nat :=
  (s.lib.filling.map fun f => f.blocks.map Block.page).flatten
    ++ (s.lib.sets.map fun p => (p.2.rows.map rowPages).flatten).flatten
    ++ (s.lib.gmap.map fun p => match p.2 with | .buffer x => (List.range 256).map (x + ·) | _ => []).flatten
    ++ (s.lib.frags.filterMap fun p => match p.2 with | .buffer x => some x | _ => none)
    ++ (s.host.cmds.map fun c => c.pages ++ c.resolved.filterMap fun r => match r.2 with | .buffer x => some x | _ => none).flatten
    ++ (s.host.units.map DirtyUnit.pages).flatten

/-- The pages of withdrawn channel pairs take no new dirty data (R354 step 4). -/
def pairOut (s : State) (p : Nat) : Bool :=
  decide (get s (F.BUF_CH_STATUS_STATE (p % 8)) = 1) || decide (get s (F.BUF_CH_STATUS_STATE (p % 8 + 8)) = 1)

/-- Pages of the dirty zone for n blocks (log entry 22): the lowest free run, or free pages of the pairs in service one by
one. -/
def takePages (s : State) (n : Nat) : List Nat :=
  if (List.range 8).any (pairOut s) then
    let base := freeRun s (usedPages s) (8 * n + 8)
    ((List.range (8 * n + 8)).map (base + ·)).filter (fun p => !pairOut s p) |>.take n
  else (List.range n).map (freeRun s (usedPages s) n + ·)

/-- The buffer pages that reading commands have pinned (R382). -/
def pinnedPages (s : State) : List Nat :=
  (s.host.cmds.map fun c => c.resolved.filterMap fun r => match r.2 with | .buffer x => some x | _ => none).flatten

/-- What PLP.D_DIRTY counts, and the write-through data held (R425, R428). -/
def unitBytes (u : DirtyUnit) : Nat := 4096 * u.pages.length + 4096
def dirtyBytes (s : State) : Nat := ((s.host.units.filter fun u => !u.through).map unitBytes).sum
def throughBytes (s : State) : Nat := ((s.host.units.filter fun u => u.through).map fun u => 4096 * u.pages.length).sum

/-- The dirty units that rows still hold, and PLP.D_DIRTY after them. -/
def unitHeld (s : State) (u : DirtyUnit) : Bool :=
  let mine (b : Block) : Bool := decide (b.page ∈ u.pages)
  (s.lib.filling.any fun f => f.blocks.any mine) || (s.lib.sets.any fun p => p.2.rows.any fun r => r.blocks.any mine)
def refreshUnits (s : State) : State :=
  let s1 := { s with host := { s.host with units := s.host.units.filter (unitHeld s) } }
  put F.PLP_D_DIRTY (dirtyBytes s1) s1

/-! ### Clean pages -/

/-- The nine pages of the unmirrored zone that a clean sector's payload takes: the lowest free ones of channels in service (R343, R354 step 3;
log entry 22). -/
def cleanTaken (s : State) : List Nat := s.par.clean.flatMap CleanSector.pages
def cleanPages (s : State) : List Nat :=
  let base := 8 * bufM s / 4096
  let used := cleanTaken s
  (((List.range (16 * (used.length + 9))).map (base + ·)).filter fun p => decide (p ∉ used) && chServes s ((p - base) % 16)).take 9

/-- The valid bits of a page cleared in every copy, and no line of it kept by the map cache (R349, R356). -/
def releasePage (page : Nat) (s : State) : State :=
  let bits := forAll (List.range 64) (fun i u =>
    let ba := 4096 * page + 64 * i
    let (pc, po) := primaryOf u ba
    let (mc, mo) := mirrorOf u ba
    let v := setValid pc po false u
    if isMirrored u ba then setValid mc mo false v else v) s
  if isMirrored s (4096 * page) then
    countDirty { bits with buf := { bits.buf with
      lines := bits.buf.lines.filter fun x => decide (x.2.la / 32 ≠ page)
      slices := bits.buf.slices.map fun x => (x.1, { x.2 with side := x.2.side.filter fun y => decide (y.1 / 32 ≠ page) }) } }
  else bits

/-- A page whose reads come before its RELEASE: a command has pinned it, or accesses to it wait for a map cache fill (R363, R382). -/
def pageHeld (s : State) (page : Nat) : Bool :=
  decide (page ∈ pinnedPages s)
    || s.buf.slices.any fun x => ((x.2.miss.toList ++ x.2.waiting).any fun a => decide (a.ba / 4096 = page))
def settleReleases (s : State) : State :=
  let used := usedPages s
  let waits (p : Nat) : Bool := pageHeld s p || decide (p ∈ used)
  let free := (s.host.relWait.filter fun p => !waits p).dedup
  free.foldl (fun u p => releasePage p u) { s with host := { s.host with relWait := s.host.relWait.filter waits } }

/-- Clean sectors leave the buffer and their pages are released. -/
def forgetClean (p : CleanSector → Bool) (s : State) : State :=
  (s.par.clean.filter p).foldl (fun u c => c.pages.foldl (fun v x => releasePage x v) u)
    { s with par := { s.par with clean := s.par.clean.filter fun c => !p c } }

/-- A clean sector enters the buffer in place of an older copy (R319, R343). -/
def keepClean (disc ord : Nat) (payload : List Nat) (s : State) : State :=
  let s1 := forgetClean (fun c => decide (c.disc = disc) && decide (c.ord = ord)) s
  { s1 with par := { s1.par with clean := s1.par.clean ++ [⟨disc, ord, payload, cleanPages s1⟩] } }

/-- The 128 bytes that a clean sector has at a buffer address. -/
def cleanWord (s : State) (ba : Nat) : Option Nat :=
  (s.par.clean.find? fun c => decide (baPage ba ∈ c.pages)).map fun c =>
    ofBytesLE ((c.payload.drop (4096 * c.pages.findIdx (· = baPage ba) + ba % 4096 / 128 * 128)).take 128)

end Sys2Proof.Machine
end

