-- ==== Sys2Proof/Machine/Mechanism.lean ====
section
/-! DEFINITION. The operations the mechanism's units share: the record of one head, permits, abandoning slots, losing a head,
retracting a lens, and the states of a head link (R75, R111, R119, R153, R178, R186, R195). -/

namespace Sys2Proof.Machine

/-- Changes of what a head holds, and its parts. -/
def updHead (h : Nat) (f : Head → Head) (s : State) : State := { s with heads := mapPut s.heads h (f (getHead s h)) }
def linkOf (s : State) (h : Nat) : Link := (getHead s h).link
def servoOf (s : State) (h : Nat) : Servo := (getHead s h).sv
def writeOf (s : State) (h : Nat) : Write := (getHead s h).wr
def updLink (h : Nat) (f : Link → Link) (s : State) : State := updHead h (fun x => { x with link := f x.link }) s
def updServo (h : Nat) (f : Servo → Servo) (s : State) : State := updHead h (fun x => { x with sv := f x.sv }) s
def updChan (h : Nat) (f : Chan → Chan) (s : State) : State := updHead h (fun x => { x with ch := f x.ch }) s
def updWrite (h : Nat) (f : Write → Write) (s : State) : State := updHead h (fun x => { x with wr := f x.wr }) s

/-- The pool of a head and its record (R134). -/
def getPool (s : State) (q : Nat) : Pool := mapGet (fun _ => {}) s.pools q
def updPool (q : Nat) (f : Pool → Pool) (s : State) : State := { s with pools := mapPut s.pools q (f (getPool s q)) }

/-- The superframe number of the present servo tick (R59). -/
def tick (s : State) : Nat := get s F.CLK_TICK

/-- Whether the sample rate N gives a ratio of at least 1.010 for a fret at a nominal speed (R101, R111): speed 0 is
9,600 rpm, 1 is 4,800 rpm. -/
def ratioOk (n fret speed : Nat) : Bool := decide (1010 * ((12 + fret) * 507904) ≤ 62500 * n * 1000 * (1 + speed % 2))

/-- A beam's timing loop and dropout detector, and changes of the loop (R109, R130). -/
def loopOf (s : State) (h beam : Nat) : BeamLoop := mapGet (fun _ => {}) (chanOf s h).loops beam
def updLoop (h beam : Nat) (f : BeamLoop → BeamLoop) (s : State) : State :=
  updChan h (fun c => { c with loops := mapPut c.loops beam (f (mapGet (fun _ => {}) c.loops beam)) }) s
def dropOf (s : State) (h beam : Nat) : Dropout := mapGet (fun _ => {}) (chanOf s h).drops beam

/-- The band a beam reads: data beams 0 to 31 and S0 (32) the band, S1 (33) the servo turn after S0's (R29). -/
def beamBand (s : State) (h beam : Nat) : Nat :=
  let b := get s (F.SV_POS_BAND h)
  if beam = 33 then mapGet (fun _ => b) (chanOf s h).bands 32 + 1 else mapGet (fun _ => b) (chanOf s h).bands beam

/-- The wobble phase φ_w in 1/65,536 period (R105), and the predicted channel-bit position of a beam within its band (R108). -/
def phaseW (s : State) (h : Nat) : Nat := (chanOf s h).phi / 409600
def beamPos (s : State) (h beam : Nat) : Nat :=
  let turn : Int := 131072 * 65536
  let d := (((phaseW s h : Nat) : Int) - getI s (F.CH_BEAM_OFS h beam)) % turn
  d.toNat * bitsPerWobble64 (fretOf (beamBand s h beam)) / (64 * 65536)

/-- The slot whose bit 64 a beam reaches next (R37, R108), counted past the band's last slot where the seam lies before it. -/
def slotAhead (s : State) (h beam : Nat) : Nat := (beamPos s h beam + slotLen - 65) / slotLen
def nextSlot (s : State) (h beam : Nat) : Nat := slotAhead s h beam % (12 + fretOf (beamBand s h beam))

/-- The fret of a beam's next slot (R111): past its seam the beam reads the next band. -/
def nextFret (s : State) (h beam : Nat) : Nat :=
  let b := beamBand s h beam
  if 12 + fretOf b ≤ slotAhead s h beam then fretOf (b + 1) else fretOf b

/-- Read permit for the head's unsuppressed beams in a fret (R111). -/
def readPermitIn (s : State) (h fret : Nat) : Bool :=
  isSet s (F.CH_CTRL_READ_EN h) && decide (get s (F.CH_STATUS_WPLL_STATE h) = 2) && isSet s (F.CH_STATUS_ADDR_CONF h)
    && isSet s (F.CH_STATUS_SPEED_OK h) && ratioOk (get s (F.CH_FRET_N h)) fret (get s (F.CH_CTRL_SPEED h))

/-- Whether a data beam is suppressed by the degraded map or carried by a failed lane kept in the normal map (R62, R77). -/
def beamHidden (s : State) (h beam : Nat) : Bool :=
  (isSet s (F.HL_STATUS_DEGRADED h) && decide (beam / 8 = get s (F.HL_STATUS_GROUP h)))
    || decide ((linkOf s h).kept = some (beam / 8))

/-- The servo's on-track report (R179), and write permit (R153). -/
def onTrack (s : State) (h : Nat) : Bool := decide (get s (F.SV_STATUS_STATE h) = 5) && (servoOf s h).steady
def writePermit (s : State) (h : Nat) : Bool :=
  decide (get s (F.CH_STATUS_WPLL_STATE h) = 2) && isSet s (F.CH_STATUS_ADDR_CONF h) && isSet s (F.CH_STATUS_SPEED_OK h)
    && isSet s (F.HL_CTRL_LASER_PERMIT h) && isSet s (F.WRP_CTRL_EN h) && onTrack s h

/-- The permits as the status registers report them (R111, R153, R179). -/
def permits (h : Nat) (s : State) : State :=
  putB (F.SV_STATUS_ON_TRACK h) (onTrack s h)
    (putB (F.CH_STATUS_READ_PERMIT h) ((List.range 32).all fun k => beamHidden s h k || readPermitIn s h (nextFret s h k))
      (putB (F.WRP_STATUS_WRITE_PERMIT h) (writePermit s h) s))

/-- One staged sector drains into the buffer (R13). -/
def drainOne (h : Nat) (x : Sector) (s : State) : State :=
  let s1 := updChan h (fun c =>
    { c with
      sectors := if x.pinned then c.sectors.map (fun y => if y.addr = x.addr then { y with staged := false } else y)
        else c.sectors.filter (fun y => decide (y.addr ≠ x.addr)) }) s
  match discOfHead s h with
  | none => s1
  | some d =>
    match homeOrd s d x.addr with
    | none => s1
    | some o =>
      serveDisc d (keepClean d o (x.cws.flatMap Codeword.data) s1)

/-- A handed-over sector leaves its staging slot once its row's reconstruction has used it (R147, R319). -/
def releaseLost (d ord : Nat) (s0 : State) : State :=
  let s := { s0 with par := { s0.par with part := s0.par.part.filter fun x => decide (x.disc ≠ d) || decide (x.ord ≠ ord) } }
  refreshArbours (forAll (headsOf s) (fun h t =>
    if discOfHead t h = some d then updChan h (fun c =>
      { c with
        sectors := c.sectors.filter fun x => decide (x.rung ≠ 7) || decide (homeOrd t d x.addr ≠ some ord)
        losses := c.losses.filter fun x => decide (homeOrd t d x.addr ≠ some ord)
        blanks := c.blanks.filter fun a => decide (homeOrd t d a ≠ some ord) }) t
    else t) s)

/-- After every change of a pool's queue: attempts that wait with their sectors enter the places that have become free (R136), the
depth and its peak follow (R149), the round robin holds the credit of a head with nothing waiting at 0, and a queue that has reached
R1_HIGH stops the pool's rung-1 attempts at the end of their iteration (R135). -/
def poolDepth (q : Nat) (s : State) : State :=
  let p := getPool s q
  let queue := p.queue ++ p.late.take (256 - p.queue.length)
  let n := queue.length
  let high := decide (get s (F.CH_POOL_CTRL_R1_HIGH (4 * q)) ≤ n)
  peak (F.CH_POOL_PEAK (4 * q)) n (put (F.CH_POOL_STATUS_DEPTH (4 * q)) n (updPool q (fun (p : Pool) =>
    { p with
      queue := queue, late := p.late.drop (256 - p.queue.length)
      busy := p.busy.map fun b => if b.job.rung = 1 ∧ high = true then { b with stop := true } else b
      cur := p.cur.filter fun c => queue.any fun j => decide (j.head = 4 * q + c.1) && decide (2 ≤ j.rung) }) s))

/-- The attempts of a sector leave every pool that may run them (R148): its own, and for rung 1 the partner. -/
def dropJobs (h addr : Nat) (s : State) : State :=
  let keep (j : Job) : Bool := decide (j.head ≠ h) || decide (j.addr ≠ addr)
  let f (x : Pool) : Pool := { x with queue := x.queue.filter keep, soft := x.soft.filter keep, late := x.late.filter keep,
                                      busy := x.busy.filter fun b => keep b.job }
  poolDepth (h / 4) (poolDepth (h / 4 ^^^ 1) (updPool (h / 4) f (updPool (h / 4 ^^^ 1) f s)))

/-- A sector has a codeword in the retry ladder (R143); a retry revolution reads it (R140). -/
def laddered (x : Sector) : Bool := x.cws.any fun w => decide (w.st = 5) || (decide (w.st < 4) && decide (1 ≤ w.rung))
def retrying (x : Sector) : Bool := x.cws.any fun w => decide (w.st < 4) && decide (2 ≤ w.rung)

/-- The pending sectors of the ladder (R143), as LADDER_STATUS reports them. -/
def pendingSector (x : Sector) : Bool := !x.verify && decide (x.rung ≠ 7) && laddered x
def countPending (h : Nat) (s : State) : State :=
  put (F.CH_LADDER_STATUS_PENDING h) (min 255 ((chanOf s h).sectors.filter pendingSector).length) s

/-- The disc leaves its bay: what its head knows of incomplete sectors goes with the parity engine, and the staged sectors and the slots that
no request still needs are gone (R147, R148). -/
def dropSectors (h : Nat) (s : State) : State :=
  let parts := partsOfHead s h
  countPending h (updChan h (fun c => { c with sectors := [], losses := [], blanks := [], reread := [], slots := [], seen := [] })
    ((chanOf s h).sectors.foldl (fun t x => dropJobs h x.addr t) { s with par := { s.par with part := s.par.part ++ parts } }))

/-- A chunk under verify fails, once (R165). -/
def verifyFail (h addr : Nat) (s : State) : State :=
  let w := writeOf s h
  match w.chunks.find? fun c => decide (c.addr = addr) with
  | none => s
  | some c =>
    if c ∈ w.failed ∨ c ∈ w.passed then s
    else raise (evWRP h) B.WRP_EVT_VFY_FAIL (bump (F.WRP_VFY_FAIL h) 1
      (updWrite h (fun w => { w with failed := w.failed ++ [c] }) s))

/-- The open slots that satisfy a condition are abandoned (R119, R148): each is counted, its attempts are discarded and its soft-store
entries freed, and its sector is read again, unless a verify revolution read it (R165). The slot of a retry revolution leaves its sector
in the ladder: the codewords it read are pending again, the running sums of earlier rung-6 reads stay (log entry 69), and the
revolution is repeated. -/
def abandonSlots (h : Nat) (p : OpenSlot → Bool) (s : State) : State :=
  let gone := (chanOf s h).slots.filter p
  if gone = [] then s
  else
    let s1 := updChan h (fun (c : Chan) =>
      { c with
        slots := c.slots.filter fun o => !p o
        sectors := (c.sectors.filter fun x => !(gone.any fun o => decide (o.addr = x.addr)) || retrying x).map fun x =>
          if gone.any (fun o => decide (o.addr = x.addr)) then
            { x with cws := x.cws.map fun w => if w.st < 4 ∧ 2 ≤ w.rung then { w with st := 5 } else w }
          else x
        loops := gone.foldl (fun m o => mapPut m o.beam { mapGet (fun _ => {}) m o.beam with mode := 0 }) c.loops
        again := c.again || gone.any fun o => c.sectors.any fun x => decide (x.addr = o.addr) && retrying x
        reread := c.reread ++ ((gone.filter fun o => !o.verify && !(c.sectors.any fun x => decide (x.addr = o.addr) && retrying x)).map
          OpenSlot.addr).filter fun a => decide (a ∉ c.reread) }) s
    countPending h (bump (F.CH_ABANDON h) gone.length
      (gone.foldl (fun t o => if o.verify then verifyFail h o.addr (dropJobs h o.addr t) else dropJobs h o.addr t) s1))

/-- The address is no longer confirmed (R107). -/
def clearConfirm (h : Nat) (s : State) : State :=
  permits h (putAll [(F.CH_STATUS_ADDR_CONF h, 0), (F.CH_ADDR_CONFIRMED h, 0), (F.SV_POS_CONFIRMED h, 0)]
    (updChan h (fun c => { c with agree := 0 }) s))

/-- A head of a bay has failed with a disc mounted (R321): servo FAILED or write HALTED. -/
def noteHeadFailure (h : Nat) (s : State) : State :=
  match discOfHead s h with
  | none => s
  | some d => updDisc d (fun x => { x with headBays := if bayOf h ∈ x.headBays then x.headBays else x.headBays ++ [bayOf h] }) s

/-- The servo enters a state (R178). On entry to ON_TRACK the on-track report starts afresh (R179); FAILED counts against the disc (R321). -/
def svState (h st : Nat) (s : State) : State :=
  let old := get s (F.SV_STATUS_STATE h)
  let s1 := putB (F.SV_STATUS_DEFECT h) (decide (st = 8)) (put (F.SV_STATUS_STATE h) st
    (updServo h (fun v => { v with since := if old = st then v.since else tick s }) s))
  let s2 := if st = 5 ∧ old ≠ 5 then updServo h (fun v => { v with steady := true, teRun := 0, teClear := 0, offTrack := false }) s1
    else s1
  let s3 := if st = 10 ∧ old ≠ 10 then noteHeadFailure h s2 else s2
  permits h (if old = st then s3 else raise (evSV h) B.SV_EVT_STATE_CHANGE s3)

/-- The command under way ends with a result (R198): its duration runs in units of 8 µs. -/
def svResult (h result : Nat) (s : State) : State :=
  if get s (F.SV_CMD_STATUS_BUSY h) = 1 then
    putAll [(F.SV_CMD_STATUS_BUSY h, 0), (F.SV_CMD_STATUS_RESULT h, result),
      (F.SV_CMD_STATUS_CORR h, min 255 (servoOf s h).corr),
      (F.SV_CMD_STATUS_DUR h, min 65535 ((now s - (servoOf s h).cmdAt) / 1250))] s
  else s

/-- The write gate closes in the next downstream superframe (R67, R168). -/
def closeGate (h : Nat) (s : State) : State :=
  let opened := isSet s (F.WRP_STATUS_GATE h)
  put (F.WRP_STATUS_GATE h) 0 (updWrite h (fun w => { w with shut := w.shut || opened, openAt := none }) s)

/-- The lens is retracted (R195, R197): the command under way is aborted, the cells are held, the gate is asked to close and
the ramps start. `why`: 1 focus lost, 2 the missing-sample limit, 0 anything else; only after 1 and 2 may the servo pull in
again (R196). -/
def retractHead (h why : Nat) (s : State) : State :=
  let st := get s (F.SV_STATUS_STATE h)
  if st = 0 ∨ st = 1 ∨ st = 9 ∨ st = 10 then s
  else
    let s1 := svResult h 4 s
    let s2 := updHead h (fun (x : Head) =>
      { x with
        sv := { x.sv with why := why, held := 7, base := x.sv.coils, hold := none, entering := false, remain := 0, mode := 0,
                          seeking := false, seekBack := decide (why = 1 ∨ why = 2), following := false }
        wr := { x.wr with closeReq := true } }) s1
    svState h 9 (put (F.SV_STATUS_BAND_HOLD h) 0 (bump (F.SV_RETRACTS h) 1 s2))

/-- The head is lost (R186): HEAD_LOST, in OFF too; the cells are no longer driven and the servo enters OFF. -/
def headLost (h : Nat) (s : State) : State :=
  if get s (F.SV_STATUS_STATE h) = 0 then raise (evSV h) B.SV_EVT_HEAD_LOST s
  else
    let s1 := svResult h 4 s
    let s2 := updHead h (fun (x : Head) =>
      { x with
        sv := { x.sv with held := 7, hold := none, entering := false, remain := 0, mode := 0, following := false,
                          seeking := false, seekBack := false }
        wr := { x.wr with closeReq := true } }) s1
    svState h 0 (put (F.SV_STATUS_BAND_HOLD h) 0 (raise (evSV h) B.SV_EVT_HEAD_LOST s2))

/-- The servo leaves OFF once it is enabled and the link is ACTIVE (R178). -/
def leaveOff (h : Nat) (s : State) : State :=
  if get s (F.SV_STATUS_STATE h) = 0 ∧ get s (F.SV_CTRL_EN h) = 1 ∧ get s (F.HL_STATUS_STATE h) = 5 then svState h 1 s else s

/-- The lanes a head still uses: qualified and without a declared fault. -/
def lanesInUse (k : Link) : List Nat := k.qual.filter fun l => decide (l ∉ k.out)

/-- LANES_UP: the lanes qualified at the last training that hold marker lock (R83). -/
def lanesUp (h : Nat) (s : State) : State :=
  let k := linkOf s h
  put (F.HL_STATUS_LANES_UP h)
    (((List.range 4).map fun l => if l ∈ k.qual ∧ l ∈ k.locked then 2 ^ l else 0).sum) s

/-- The link enters a state (R75). On leaving ACTIVE both ends discard what was sent or queued and clear their sequence state
(R72), and the servo declares the head lost (R186); on entering DS_TRAIN, OFF or FAILED the map and the locks of the last
training no longer hold. -/
def setLink (h st : Nat) (s : State) : State :=
  let old := get s (F.HL_STATUS_STATE h)
  let s1 := put (F.HL_STATUS_STATE h) st (updLink h (fun k => { k with stateAt := now s }) s)
  let s2 := if st ≤ 1 ∨ st = 6 then
      putAll [(F.HL_STATUS_DEGRADED h, 0), (F.HL_STATUS_GROUP h, 0), (F.HL_STATUS_FAILED_LANE h, 0)]
        (lanesUp h (updLink h (fun (k : Link) =>
          { k with miss := [], hits := [], locked := [], lost := [], bad := [], out := [], kept := none, txSeq := 0, rxSeq := 0,
                   unacked := [], resend := [], queued := [], rx := [], samples := [], ackDue := none, retx := 0, idle := 0, laneCfg := none, adcCfg := none,
                   commitSf := none, identOk := false, inbox := [], timing := false, status := 0, flags := 0, ds := {} })
          (updWrite h (fun w => { w with active := [], inactive := [], coming := [] }) s1)))
    else s1
  let s3 := if old = 5 ∧ st ≠ 5 then headLost h s2 else s2
  permits h (if old = st then s3 else raise (evHL h) B.HL_EVT_STATE_CHANGE s3)

/-- A message queued for the head while the link carries framed superframes (R71, R75); `lead` where it names a superframe. -/
def sendLead (h ty : Nat) (payload : List Nat) (lead : Nat) (s : State) : State :=
  if 3 ≤ get s (F.HL_STATUS_STATE h) ∧ get s (F.HL_STATUS_STATE h) ≤ 5 then
    updLink h (fun k => { k with queued := k.queued ++ [{ ty := ty, payload := payload, lead := lead }] }) s
  else s
def sendMsg (h ty : Nat) (payload : List Nat) (s : State) : State := sendLead h ty payload 0 s

/-- ADC_CFG sent, with the earliest superframe that gives `lead` superframes of lead over the one that carries it (R73, R75). -/
def sendAdc (h n fmt lead : Nat) (s : State) : State :=
  let sf := tick s + 1 + lead
  if 3 ≤ get s (F.HL_STATUS_STATE h) ∧ get s (F.HL_STATUS_STATE h) ≤ 5 then
    updLink h (fun k => { k with adcCfg := some (n, fmt, sf) }) (sendLead h 2 (bytesLE 2 n ++ [fmt, 0] ++ bytesLE 4 sf) 24 s)
  else s

/-- LANE_CFG sent, taking effect 8 superframes after the one that carries it (R75, R77, R82). -/
def sendLane (h mode lane group : Nat) (s : State) : State :=
  let sf := tick s + 1 + 8
  if 3 ≤ get s (F.HL_STATUS_STATE h) ∧ get s (F.HL_STATUS_STATE h) ≤ 5 then
    updLink h (fun k => { k with laneCfg := some (mode, lane, group, sf) })
      (sendLead h 3 ([mode, lane, group, 0] ++ bytesLE 4 sf) 8 s)
  else s

/-- A training failure (R75): back to DS_TRAIN, or FAILED at the third in a row. TRAIN_FAIL ("Training failed", R84) is set with the third, which
ends the training; that the first two do not set it is a DESIGN CHOICE (log entry 73). -/
def trainFail (h : Nat) (s : State) : State :=
  let n := (linkOf s h).fails + 1
  let s1 := updLink h (fun k => { k with fails := n }) s
  if n < 3 then setLink h 1 s1 else raise (evHL h) B.HL_EVT_TRAIN_FAIL (setLink h 6 s1)

end Sys2Proof.Machine
end

