-- ==== Sys2Proof/Machine/Motion.lean ====
section
/-! DEFINITION. Sled and loader motion (R253 to R275): the step timer, moves and retargeting, the current choppers, limit
inputs, stall and homing. -/

namespace Sys2Proof.Machine

/-- A bay link's record (0 to 31; carousels 32 to 35) and an axis's record. -/
def busOf (s : State) (l : Nat) : BusLink := mapGet (fun _ => {}) s.buses l
def updBus (l : Nat) (f : BusLink → BusLink) (s : State) : State := { s with buses := mapPut s.buses l (f (busOf s l)) }
def axOf (s : State) (b a : Nat) : Axis := mapGet (fun _ => {}) s.axes (4 * b + a)
def updAx (b a : Nat) (f : Axis → Axis) (s : State) : State := { s with axes := mapPut s.axes (4 * b + a) (f (axOf s b a)) }

/-- An axis of an instantiated bay. -/
def axInst (s : State) (b a : Nat) : Bool := bayInst s b && decide (a < 3)

/-- The head a sled carries (R253). -/
def sledHead (b a : Nat) : Nat := 2 * b + a

/-- Position, state and scale of an axis. -/
def axPos (s : State) (b a : Nat) : Int := getI s (F.MOV_AX_POS b a)
def axSt (s : State) (b a : Nat) : Nat := get s (F.MOV_AX_STATUS_STATE b a)
def axScale (s : State) (b a : Nat) : Nat := get s (F.MOV_AX_SCALE_STEPS b a)
def axAcc (s : State) (b a : Nat) : Nat := get s (F.MOV_AX_ACC_ACC b a) * axScale s b a
def axDec (s : State) (b a : Nat) : Nat := get s (F.MOV_AX_ACC_DEC b a) * axScale s b a
def axDecMax (s : State) (b a : Nat) : Nat := get s (F.MOV_AX_DEC_MAX b a) * axScale s b a
def softMin (s : State) (b a : Nat) : Int := getI s (F.MOV_AX_SOFT_MIN b a)
def softMax (s : State) (b a : Nat) : Int := getI s (F.MOV_AX_SOFT_MAX b a)

/-- Millimetres of an axis in microsteps, and its travel (R253). -/
def axMm (s : State) (b a mm : Nat) : Int := (mm * axScale s b a : Nat)
def travelMm (a : Nat) : Nat := if a = 2 then 180 else 36

/-- The limit input at the inner or retracted end, and at the outer or extended end (R253). -/
def limitIn (a : Nat) (outer : Bool) : Nat := 2 * a + (if outer then 1 else 0)

/-- Whether an input is active: its debounced level, or chatter, which is treated as active (R263, R264). -/
def inputActive (s : State) (b i : Nat) : Bool :=
  decide (bitOf (get s (F.MOV_INPUTS_LEVELS b)) i = 1) || decide (bitOf (get s (F.MOV_INPUTS_CHATTER b)) i = 1)

/-- 10^6 times the square of a speed in µm/s, in microsteps/s. -/
def speed2 (s : State) (b a v : Nat) : Nat := (v * axScale s b a) ^ 2

/-- The speed limit of the present motion, squared: VMAX, 2 mm/s in FOLLOW (R262), HOME_V when homing, a creep at HOME_V near
a loader's end (R259), HOME_V / 8 when backing off (R268). -/
def vmax2 (s : State) (b a : Nat) : Nat :=
  let x := axOf s b a
  let hv := get s (F.MOV_AX_HOME_V b a)
  if x.plan = 5 then speed2 s b a hv
  else if x.plan = 6 then speed2 s b a hv / 64
  else if axSt s b a = 5 then min (speed2 s b a 2000) (speed2 s b a (get s (F.MOV_AX_VMAX b a)))
  else speed2 s b a (get s (F.MOV_AX_VMAX b a))

/-- The speed reported by the axis: whole µm/s, signed by the direction. -/
def showSpeed (b a : Nat) (s : State) : State :=
  let x := axOf s b a
  let v := Nat.sqrt x.v2 / max 1 (axScale s b a)
  putI (F.MOV_AX_SPEED b a) (if x.forward then (v : Int) else -(v : Int)) s

/-- An axis enters a state; entering FAULT sets the event (R269, R275). -/
def axEnter (b a st : Nat) (s : State) : State :=
  let s1 := put (F.MOV_AX_STATUS_STATE b a) st s
  if st = 6 ∧ axSt s b a ≠ 6 then raise (evMOV b) B.MOV_EVT_FAULT s1 else s1

/-- The command under way on an axis ends with a result. -/
def axResult (b a r : Nat) (s : State) : State :=
  put (F.MOV_AX_STATUS_RESULT b a) r (put (F.MOV_AX_STATUS_BUSY b a) 0 s)

/-- The sled stops following, and so does its head's servo (R193, R262). -/
def endFollow (b a : Nat) (s : State) : State :=
  let s1 := updAx b a (fun x => { x with follow := false }) s
  if a < 2 then updServo (sledHead b a) (fun v => { v with following := false }) s1 else s1

/-- Stepping stops at once. -/
def axHalt (b a : Nat) (s : State) : State :=
  showSpeed b a (updAx b a (fun x => { x with v2 := 0, plan := 0, ticks := 0, after := none, end2 := none, restAt := now s }) s)

/-- A sled's commanded position becomes its encoder position (R267); a loader that is not on an active limit has none (R270). -/
def resync (b a : Nat) (s : State) : State :=
  if a < 2 then putI (F.MOV_AX_POS b a) (getI s (F.MOV_AX_ENC_POS b a)) s
  else if inputActive s b (limitIn a false) || inputActive s b (limitIn a true) then s
  else put (F.MOV_AX_STATUS_POS_VALID b a) 0 s

/-- Microsteps to stop from a speed at a deceleration, rounded up. -/
def stopSteps (v2 dec : Nat) : Nat := (v2 + (2000000 * dec - 1)) / max 1 (2000000 * dec)

/-- The run current is restored at the first step of a move (R258), and the interval to the first step is loaded (R255). -/
def startSteps (b a : Nat) (s : State) : State :=
  put (F.MOV_AX_STATUS_HOLDING b a) 0 (updAx b a (fun x =>
    if x.v2 = 0 then { x with ticks := stepTicks 0 (2000000 * axAcc s b a), stepAt := now s + stepTicks 0 (2000000 * axAcc s b a) } else x) s)

/-- The axis decelerates to a stop, for a plan (R260, R265, R266, R272). -/
def axBrake (b a dec plan : Nat) (s : State) : State :=
  let x := axOf s b a
  let n : Int := (stopSteps x.v2 dec : Nat)
  let p := axPos s b a
  updAx b a (fun x => { x with dec := dec, plan := plan, target := if x.forward then p + n else p - n }) s

/-- A move toward a target from rest (R255, R259). A loader move to an end creeps to the limit. -/
def axGo (b a : Nat) (t : Int) (s : State) : State :=
  let p := axPos s b a
  let fwd := decide (p < t)
  let ends := decide (a = 2) && (decide (t ≤ 0) || decide (axMm s b a (travelMm a) ≤ t))
  let goal := if ends then (if fwd then t + axMm s b a 2 else t - axMm s b a 2) else t
  startSteps b a (updAx b a (fun x =>
    { x with forward := fwd, target := goal, dec := axDec s b a, plan := if ends then 1 else 0, after := none,
             end2 := if ends then some t else none,
             leftAt := if inputActive s b (limitIn a (!fwd)) then some p else none }) s)

/-- A new target while the axis moves (R260). -/
def retarget (b a : Nat) (t : Int) (s : State) : State :=
  let x := axOf s b a
  let p := axPos s b a
  if x.v2 = 0 then axGo b a t s
  else
    let r : Int := if x.forward then t - p else p - t
    let dec := axDec s b a
    let dmax := axDecMax s b a
    if 0 < r ∧ x.v2 ≤ 2000000 * dec * r.toNat then
      updAx b a (fun x => { x with target := t, dec := dec, plan := 0, after := none, end2 := none }) s
    else if 0 < r ∧ x.v2 ≤ 2000000 * dmax * r.toNat then
      let d := (x.v2 + 2000000 * r.toNat - 1) / (2000000 * r.toNat)
      updAx b a (fun x => { x with target := t, dec := d, plan := 0, after := none, end2 := none }) s
    else
      let n : Int := (stopSteps x.v2 dec : Nat)
      let stop := if x.forward then p + n else p - n
      let d := if softMin s b a ≤ stop ∧ stop ≤ softMax s b a then dec else dmax
      updAx b a (fun x => { x with after := some t, end2 := none }) (axBrake b a d 2 s)

/-- A move of an axis ended at its target (R269): MOVE_DONE, and a FOLLOW that a coarse seek suspended resumes (R262). -/
def moveDone (b a : Nat) (s : State) : State :=
  let x := axOf s b a
  let s1 := axHalt b a s
  let s2 := bump (F.MOV_AX_MOVES b a) 1 (axResult b a 0 s1)
  raise (evMOV b) (B.MOV_EVT_MOVE_DONE + a) (axEnter b a (if x.follow then 5 else 1) s2)

/-- The axis has come to rest: what follows depends on why it stopped. -/
def axArrived (b a : Nat) (s : State) : State :=
  let x := axOf s b a
  if x.plan = 2 then
    match x.after with
    | none => axEnter b a 1 (axHalt b a s)
    | some t => axGo b a t (updAx b a (fun x => { x with v2 := 0 }) s)
  else if x.plan = 3 then axEnter b a 1 (axResult b a 0 (axHalt b a s))
  else if x.plan = 4 then axEnter b a 1 (put (F.MOV_AX_STATUS_BUSY b a) 0 (axHalt b a s))
  else if x.plan = 7 then axEnter b a 6 (put (F.MOV_AX_STATUS_BUSY b a) 0 (axHalt b a s))
  else if axSt s b a = 5 then axHalt b a s
  else moveDone b a s

/-- A hard stop at a soft limit (R260): a sled resynchronises and goes on to its new target, a loader needs HOME. -/
def softHard (b a : Nat) (s : State) : State :=
  let t := (axOf s b a).after
  let s1 := raise (evMOV b) (B.MOV_EVT_SOFT_HARD + a) (axHalt b a s)
  if a < 2 then
    match t with
    | some t => axGo b a t (resync b a s1)
    | none => axEnter b a 1 (put (F.MOV_AX_STATUS_BUSY b a) 0 (resync b a s1))
  else axEnter b a 1 (put (F.MOV_AX_STATUS_BUSY b a) 0 (put (F.MOV_AX_STATUS_POS_VALID b a) 0 s1))

/-- The next speed of the trapezoid, squared (R255): from the speed, the microsteps that remain, the deceleration, the
acceleration and the limit. -/
def nextV2 (v2 remaining dec acc vm2 : Nat) : Nat :=
  if (remaining - 1) * (2000000 * dec) ≤ v2 then v2 - 2000000 * dec
  else if v2 < vm2 then min (v2 + 2000000 * acc) vm2
  else max (v2 - 2000000 * dec) vm2

/-- The squared speed after a step to position `p` (R255, R259): near a loader's end it goes to that of HOME_V. -/
def stepSpeed (s : State) (b a : Nat) (x : Axis) (p : Int) : Nat :=
  let rem := (x.target - p).natAbs
  let hv2 := speed2 s b a (get s (F.MOV_AX_HOME_V b a))
  let near := match x.end2 with
    | none => false
    | some e => decide ((e - p).natAbs * 2000000 * x.dec ≤ (x.v2 - hv2) + (axMm s b a 2).toNat * 2000000 * x.dec)
  if near then (if hv2 < x.v2 then max (x.v2 - 2000000 * x.dec) hv2 else min (x.v2 + 2000000 * axAcc s b a) hv2)
  else nextV2 x.v2 rem x.dec (axAcc s b a) (vmax2 s b a)

/-- STEP_INSTANT (R255, R259, R260): when the step timer's interval has passed, one microstep, and the next interval. -/
def execStepInstant (b ax : Nat) (s : State) : Out :=
  let x := axOf s b ax
  if axInst s b ax = false ∨ axSt s b ax < 2 ∨ 5 < axSt s b ax ∨ x.ticks = 0 ∨ elapsed s x.stepAt 0 = false then .next s
  else
    let p := axPos s b ax + (if x.forward then 1 else -1)
    let s1 := putI (F.MOV_AX_POS b ax) p s
    let rem := (x.target - p).natAbs
    if x.plan = 2 ∧ ((x.forward = true ∧ softMax s b ax ≤ p) ∨ (x.forward = false ∧ p ≤ softMin s b ax)) then
      .next (softHard b ax s1)
    else
      let v := stepSpeed s b ax x p
      if rem = 0 ∧ (x.plan = 1 ∨ x.plan = 5) then .next (updAx b ax (fun y => { y with v2 := 0, ticks := 0 }) s1)
      else if v = 0 ∨ rem = 0 then .next (axArrived b ax s1)
      else .next (showSpeed b ax (updAx b ax (fun y => { y with v2 := v, ticks := stepTicks x.v2 v, stepAt := x.stepAt + stepTicks x.v2 v }) s1))

/-- An immediate gate command (R88, R91). -/
def sendGate (l driver : Nat) (phB : Bool) (g : Nat) (s : State) : State :=
  updBus l (fun k => { k with codes := k.codes ++ [gateCode driver phB g] }) s

/-- The gate of a driver phase by an immediate command (R88, R257): 0 off, 1 drive +, 2 drive −, 3 slow decay, 4 fast decay. The off-time
counts from the trip, so slow decay does not restart it. -/
def setGate (b a : Nat) (phB : Bool) (g : Nat) (s : State) : State :=
  sendGate b a phB g (updAx b a (fun x =>
    if phB then { x with gateB := g, sinceB := if g = 3 ∧ x.gateB = 4 then x.sinceB else now s }
    else { x with gateA := g, sinceA := if g = 3 ∧ x.gateA = 4 then x.sinceA else now s }) s)
def gateOf (x : Axis) (phB : Bool) : Nat := if phB then x.gateB else x.gateA
def gateSince (x : Axis) (phB : Bool) : Nat := if phB then x.sinceB else x.sinceA

/-- The gate of a drive interval (R257): by the sign of the reference; a zero reference holds slow decay. -/
def driveGate (r : Int) : Nat := if r = 0 then 3 else if 0 < r then 1 else 2

/-- The current I of an axis (R256, R258), and the references in force: whether their magnitudes fall decides the fast decay (R257). -/
def axCurrent (s : State) (b a : Nat) : Nat :=
  if get s (F.MOV_AX_STATUS_HOLDING b a) = 1 then get s (F.MOV_AX_CURRENT_I_HOLD b a) else get s (F.MOV_AX_CURRENT_I_RUN b a)
def takeRefs (b a : Nat) (ra rb : Int) (s : State) : State :=
  updAx b a (fun x => { x with refA := ra, refB := rb, fallA := decide (ra.natAbs < x.refA.natAbs),
                               fallB := decide (rb.natAbs < x.refB.natAbs) }) s
/-- The references of both phases at the commanded position. -/
def setRefs (b a : Nat) (s : State) : State :=
  let ra := phaseRef (axCurrent s b a) (axPos s b a) false
  let rb := phaseRef (axCurrent s b a) (axPos s b a) true
  updAx b a (fun x => { x with soonA := ra, soonB := rb }) (takeRefs b a ra rb s)

/-- The RWB fields that the start of a drive interval takes (R273). -/
def chopFields (b : Nat) : List Fld :=
  [F.MOV_CHOP_T_OFF b, F.MOV_CHOP_FAST_RISE b, F.MOV_CHOP_FAST_FALL b, F.MOV_CHOP_T_BLANK b, F.MOV_CHOP_T_ON_MAX b]

/-- An enabled axis drives both its phases (R257). -/
def startDrive (b a : Nat) (s : State) : State :=
  let s1 := takeForces (chopFields b) (setRefs b a s)
  let x := axOf s1 b a
  setGate b a true (driveGate x.refB) (setGate b a false (driveGate x.refA) s1)

/-- OFF_TIME_END (R257): the phase is driven again; the chopper's RWB values come into force with the drive interval. -/
def execOffTimeEnd (b ax : Nat) (phB : Bool) (s : State) : Out :=
  let x := axOf s b ax
  if axInst s b ax = false ∨ axSt s b ax = 0 ∨ gateOf x phB < 3
      ∨ elapsed s (gateSince x phB) (inForce s (F.MOV_CHOP_T_OFF b) * 625 / 4) = false then .next s
  else .next (setGate b ax phB (driveGate (if phB then x.refB else x.refA)) (takeForces (chopFields b) s))

/-- FAST_DECAY_END (R257): after the FAST fraction of T_OFF the phase goes to slow decay. -/
def execFastDecayEnd (b ax : Nat) (phB : Bool) (s : State) : Out :=
  let x := axOf s b ax
  let fast := if (if phB then x.fallB else x.fallA) then inForce s (F.MOV_CHOP_FAST_FALL b) else inForce s (F.MOV_CHOP_FAST_RISE b)
  if axInst s b ax = false ∨ gateOf x phB ≠ 4 ∨ elapsed s (gateSince x phB) (inForce s (F.MOV_CHOP_T_OFF b) * fast * 625 / 1024) = false then .next s
  else .next (setGate b ax phB 3 s)

/-- T_ON_MAX_EXPIRY (R257): no trip within T_ON_MAX forces the off-time. -/
def execTOnMaxExpiry (b ax : Nat) (phB : Bool) (s : State) : Out :=
  let x := axOf s b ax
  let t := inForce s (F.MOV_CHOP_T_ON_MAX b)
  if axInst s b ax = false ∨ (gateOf x phB ≠ 1 ∧ gateOf x phB ≠ 2) ∨ t = 0 ∨ elapsed s (gateSince x phB) (t * 3125 / 2) = false then .next s
  else .next (setGate b ax phB 4 (bump (F.MOV_AX_MAX_ON b ax) 1 s))

/-- A comparator trip outside the blanking time ends the drive interval with fast decay (R257). -/
def tripPhase (b a : Nat) (phB : Bool) (s : State) : State :=
  let x := axOf s b a
  if axInst s b a = false ∨ (gateOf x phB ≠ 1 ∧ gateOf x phB ≠ 2) then s else setGate b a phB 4 (bump (F.MOV_AX_TRIPS b a) 1 s)

/-- HOLD_CURRENT (R258): an axis at rest for HOLD_DELAY switches to I_HOLD. -/
def execHoldCurrent (b ax : Nat) (s : State) : Out :=
  if axInst s b ax = false ∨ axSt s b ax = 0 ∨ (axOf s b ax).v2 ≠ 0 ∨ (axOf s b ax).ticks ≠ 0
      ∨ elapsed s (axOf s b ax).restAt (get s (F.MOV_AX_CURRENT_HOLD_DELAY b ax) * 625000) = false then .next s
  else .next (put (F.MOV_AX_STATUS_HOLDING b ax) 1 s)

/-- Whether motion from the present position to a target runs toward an active limit (R265). -/
def towardLimit (s : State) (b a : Nat) (t : Int) : Bool :=
  let p := axPos s b a
  (decide (t < p) && inputActive s b (limitIn a false)) || (decide (p < t) && inputActive s b (limitIn a true))

/-- A refused command's result (R259, R265, R269). -/
def axRefuse (b a r : Nat) (s : State) : State := put (F.MOV_AX_STATUS_RESULT b a) r s

/-- A MOVE to a target (R259, R260): from software or from the servo's coarse seek, which suspends FOLLOW (R262). -/
def axMoveTo (b a : Nat) (t : Int) (s : State) : State :=
  let st := axSt s b a
  if st = 0 ∨ st = 6 ∨ st = 4 then axRefuse b a 2 s
  else if t < softMin s b a ∨ softMax s b a < t then axRefuse b a 1 s
  else if towardLimit s b a t then axRefuse b a 2 s
  else
    let s1 := put (F.MOV_AX_STATUS_BUSY b a) 1 (updAx b a (fun x => { x with follow := x.follow || decide (st = 5) }) s)
    if t = axPos s b a ∧ (axOf s b a).v2 = 0 then moveDone b a s1 else axEnter b a 2 (retarget b a t s1)

/-- AXIS_MOVE (R259): the target is the one in AX.TARGET. -/
def execAxisMove (b ax : Nat) (s : State) : Out :=
  if axInst s b ax = false then .next s
  else .next (axMoveTo b ax (getI s (F.MOV_AX_TARGET b ax)) (put (F.MOV_AX_CMD_OP b ax) 0 s))

/-- AXIS_STOP (R269, R272): decelerate at DEC; during homing the position becomes invalid. -/
def execAxisStop (b ax : Nat) (s : State) : Out :=
  let st := axSt s b ax
  if axInst s b ax = false then .next s
  else
    let s := put (F.MOV_AX_CMD_OP b ax) 1 s
    if st = 0 ∨ st = 6 then .next (axRefuse b ax 2 s)
    else
      let s1 := endFollow b ax (if st = 4 then put (F.MOV_AX_STATUS_POS_VALID b ax) 0 s else s)
      if (axOf s b ax).v2 = 0 then .next (axEnter b ax 1 (axResult b ax 0 (axHalt b ax s1)))
      else .next (axEnter b ax 3 (axBrake b ax (axDec s b ax) 3 s1))

/-- AXIS_HOME (R268, R269): toward the inner or retracted limit at HOME_V; from OFF too, where the drivers may be switched on. -/
def execAxisHome (b ax : Nat) (s : State) : Out :=
  if axInst s b ax = false then .next s
  else
    let s := put (F.MOV_AX_CMD_OP b ax) 2 s
    if axSt s b ax = 0 ∧ (get s (F.MOV_AX_CTRL_EN b ax) = 0 ∨ (busOf s b).stepEn = false) then .next (axRefuse b ax 2 s)
    else
      let p := axPos s b ax
      let on := inputActive s b (limitIn ax false)
      let far := axMm s b ax (travelMm ax + 4)
      let s0 := if axSt s b ax = 0 then startDrive b ax s else s
      let s1 := put (F.MOV_AX_STATUS_BUSY b ax) 1 (endFollow b ax s0)
      .next (axEnter b ax 4 (startSteps b ax (updAx b ax (fun x =>
        { x with forward := on, target := if on then p + far else p - far, dec := axDec s b ax, plan := if on then 6 else 5,
                 after := none, end2 := none, homeFrom := p, v2 := 0 }) s1)))

/-- AXIS_FOLLOW (R262, R275): sleds only, from rest. -/
def execAxisFollow (b ax : Nat) (s : State) : Out :=
  if axInst s b ax = false then .next s
  else
    let s := put (F.MOV_AX_CMD_OP b ax) 3 s
    if ax = 2 ∨ axSt s b ax ≠ 1 then .next (axRefuse b ax 2 s)
    else .next (axEnter b ax 5 (axResult b ax 0 (updAx b ax (fun x => { x with follow := true })
      (updServo (sledHead b ax) (fun v => { v with following := true }) s))))

/-- A new target of the sled follow cell (R262): it acts while the sled is in FOLLOW and SV.CTRL.SLED_FOLLOW lets the cell drive it (R199). -/
def followTarget (b a : Nat) (t : Int) (s : State) : State :=
  if axInst s b a = true ∧ axSt s b a = 5 ∧ isSet s (F.SV_CTRL_SLED_FOLLOW (sledHead b a)) = true then
    let t' := clampInt (softMin s b a) (softMax s b a) t
    if t' = axPos s b a ∧ (axOf s b a).v2 = 0 then s else retarget b a t' s
  else s

/-- An axis's drivers switch off (R269, R270). -/
def axOff (b a : Nat) (s : State) : State :=
  axEnter b a 0 (updAx b a (fun x => { x with gateA := 0, gateB := 0 }) (axHalt b a (endFollow b a s)))

/-- AXIS_RELEASE (R269): the axis enters OFF. -/
def execAxisRelease (b ax : Nat) (s : State) : Out :=
  if axInst s b ax = false then .next s
  else .next (axOff b ax (axResult b ax 0 (put (F.MOV_AX_CMD_OP b ax) 4 s)))

/-- Whether an input of an axis is reported stuck (R266). -/
def axStuck (s : State) (b a : Nat) : Bool :=
  decide (bitOf (get s (F.MOV_INPUTS_STUCK b)) (limitIn a false) = 1) || decide (bitOf (get s (F.MOV_INPUTS_STUCK b)) (limitIn a true) = 1)

/-- The stuck report of an input ends once the input is no longer active (R266). -/
def clearStuck (b : Nat) (s : State) : State :=
  put (F.MOV_INPUTS_STUCK b) (((List.range 6).map fun i =>
    if bitOf (get s (F.MOV_INPUTS_STUCK b)) i = 1 ∧ inputActive s b i = true then 2 ^ i else 0).sum) s

/-- AXIS_CLEAR_FAULT (R269): to IDLE with no stuck input. -/
def execAxisClearFault (b ax : Nat) (s : State) : Out :=
  if axInst s b ax = false then .next s
  else
    let s := clearStuck b (put (F.MOV_AX_CMD_OP b ax) 5 s)
    if axSt s b ax ≠ 6 ∨ axStuck s b ax = true then .next (axRefuse b ax 2 s)
    else .next (axEnter b ax 1 (axResult b ax 0 s))

/-- AXIS_CMD_REFUSED (R275): another OP is refused with result 2. -/
def execAxisCmdRefused (b ax op : Nat) (s : State) : Out :=
  if axInst s b ax = false ∨ op % 8 < 6 then .next s
  else .next (axRefuse b ax 2 (put (F.MOV_AX_CMD_OP b ax) op s))

/-- The axes that may leave OFF do so while the stepper enable is set (R257, R269, R270). -/
def axWake (b : Nat) (s : State) : State :=
  forAll [0, 1, 2] (fun a t =>
    if axSt t b a = 0 ∧ get t (F.MOV_AX_CTRL_EN b a) = 1 ∧ (busOf t b).stepEn = true then axEnter b a 1 (startDrive b a (resync b a t)) else t) s

/-- AXIS_ENABLE (R269). -/
def execAxisEnable (b ax en : Nat) (s : State) : Out :=
  if axInst s b ax = false then .next s else .next (axWake b (put (F.MOV_AX_CTRL_EN b ax) en s))

/-- STEPPER_ENABLE_FALL (R270): every axis of the bay enters OFF, a move in progress ends with result 4. -/
def stepperOff (b : Nat) (s : State) : State :=
  if (busOf s b).stepEn = false then s
  else
    let s1 := updBus b (fun l => { l with stepEn := false }) s
    let s2 := forAll [0, 1, 2] (fun a t =>
      let t1 := if get t (F.MOV_AX_STATUS_BUSY b a) = 1 then axResult b a 4 t else t
      axOff b a t1) s1
    raise (evMOV b) B.MOV_EVT_DRIVER_OFF s2

/-- The stepper enable returns (R270). -/
def stepperOn (b : Nat) (s : State) : State := axWake b (updBus b (fun l => { l with stepEn := true }) s)

/-- SOFT_LIMIT_WRITE (R259): in force at once; a present target outside the new limits becomes the nearer limit. -/
def execSoftLimitWrite (b ax : Nat) (upper : Bool) (value : Nat) (s : State) : Out :=
  if axInst s b ax = false then .next s
  else
    let s1 := put (if upper then F.MOV_AX_SOFT_MAX b ax else F.MOV_AX_SOFT_MIN b ax) value s
    let t := (axOf s b ax).after.getD (axOf s b ax).target
    let t' := clampInt (softMin s1 b ax) (softMax s1 b ax) t
    if (axSt s b ax = 2 ∨ axSt s b ax = 5) ∧ ((axOf s b ax).plan = 0 ∨ (axOf s b ax).plan = 2) ∧ (axOf s b ax).ticks ≠ 0 ∧ t' ≠ t then .next (retarget b ax t' s1)
    else .next s1

/-- ACC_DEC_WRITE (R261): from the next step; during a deceleration the larger of the new DEC and what the target needs. -/
def execAccDecWrite (b ax acc dec : Nat) (s : State) : Out :=
  if axInst s b ax = false then .next s
  else
    let s1 := put (F.MOV_AX_ACC_DEC b ax) dec (put (F.MOV_AX_ACC_ACC b ax) acc s)
    let x := axOf s b ax
    let rem := (x.target - axPos s b ax).natAbs
    let need := (x.v2 + (2000000 * rem - 1)) / max 1 (2000000 * rem)
    if x.plan = 4 then .next s1
    else if x.ticks ≠ 0 ∧ (rem - 1) * (2000000 * x.dec) ≤ x.v2 then
      .next (updAx b ax (fun y => { y with dec := max (axDec s1 b ax) need }) s1)
    else .next (updAx b ax (fun y => { y with dec := axDec s1 b ax }) s1)

/-- VMAX_WRITE (R261): a lower limit decelerates the axis at DEC from its next step. -/
def execVmaxWrite (b ax v : Nat) (s : State) : Out :=
  if axInst s b ax = false then .next s else .next (put (F.MOV_AX_VMAX b ax) v s)

/-- MOV_CLR_CNT (R273): the counters of the bay's axes. -/
def execMovClrCnt (b : Nat) (s : State) : Out :=
  if bayInst s b = false then .next s
  else .next (clearAll ((List.range 3).flatMap fun a => [F.MOV_AX_MOVES b a, F.MOV_AX_STALLS b a, F.MOV_AX_LIMIT_STOPS b a,
    F.MOV_AX_TRIPS b a, F.MOV_AX_MAX_ON b a]) s)

/-- A limit stop (R265): hard at the instant of acceptance, or ramped at DEC_MAX, by the input's bit in LIMIT_CFG. -/
def limitStop (b a i : Nat) (s : State) : State :=
  let s1 := raise (evMOV b) (B.MOV_EVT_LIMIT_STOP + a) (bump (F.MOV_AX_LIMIT_STOPS b a) 1 (endFollow b a s))
  if bitOf (get s (F.MOV_LIMIT_CFG b)) i = 1 then
    axEnter b a 1 (put (F.MOV_AX_STATUS_BUSY b a) 0 (resync b a (axHalt b a s1)))
  else axBrake b a (axDecMax s b a) 4 s1

/-- A limit input became active (R259, R265, R268). -/
def limitOn (b i : Nat) (s : State) : State :=
  let a := i / 2
  let outer := decide (i % 2 = 1)
  let x := axOf s b a
  if x.ticks = 0 then s
  else if x.plan = 5 ∧ outer = false then
    startSteps b a (updAx b a (fun y =>
      { y with forward := true, plan := 6, v2 := 0, target := axPos s b a + axMm s b a (travelMm a) }) s)
  else if x.plan = 1 ∧ x.forward = outer then
    let s1 := put (F.MOV_AX_STATUS_POS_VALID b a) 1 s
    moveDone b a (putI (F.MOV_AX_POS b a) (if outer then axMm s b a (travelMm a) else 0) s1)
  else if x.forward = outer then limitStop b a i s
  else s

/-- A limit input was released: homing sets the position to 0 at that edge, from which a sled's encoder counts then (R253, R268). -/
def limitGone (b i : Nat) (s : State) : State :=
  let a := i / 2
  let x := axOf s b a
  if i % 2 = 0 ∧ x.plan = 6 then
    let e := getI s (F.MOV_AX_ENC_POS b a)
    let s1 := if a < 2 then put (F.MOV_AX_ENC_POS b a) 0 (updAx b a (fun x => { x with encOfs := x.encOfs - e }) s) else s
    axEnter b a 1 (axResult b a 0 (axHalt b a (put (F.MOV_AX_STATUS_POS_VALID b a) 1 (put (F.MOV_AX_POS b a) 0 s1))))
  else s

/-- An axis stalls (R267): stepping stops, a sled takes its encoder position, FOLLOW ends; a third stall within 1 s is a
fault. -/
def stallAxis (b a : Nat) (s : State) : State :=
  let n := ((axOf s b a).stalls.filter fun t => decide (now s ≤ 156250000 + t)).length + 1
  let s1 := updAx b a (fun x => { x with stalls := (now s :: x.stalls).take 3, missRun := 0 })
    (resync b a (axHalt b a (endFollow b a s)))
  let s2 := raise (evMOV b) (B.MOV_EVT_STALL + a) (bump (F.MOV_AX_STALLS b a) 1 (axResult b a 4 s1))
  axEnter b a (if 3 ≤ n then 6 else 1) s2

/-- INPUT_DEBOUNCED (R263): the raw level has held for DB and becomes the debounced level. Input 6 falling during a loaded
loader move is a stall (R266). -/
def execInputDebounced (l i : Nat) (s : State) : Out :=
  if (if l < 32 then bayInst s l else decide (l < 36) && carInst s (l - 32)) = false ∨ (if l < 32 then 7 ≤ i else 2 ≤ i)
      ∨ elapsed s (mapGet (fun _ => 0) (busOf s l).changed i) ((if l < 32 then get s (F.MOV_DEBOUNCE_DB l) else 50) * 625 / 4) = false then .next s
  else
    let lv := bitOf (busOf s l).raw i
    let set (v : Nat) : Nat := if lv = 1 then v ||| 2 ^ i else v &&& (2 ^ 16 - 1 - 2 ^ i)
    let s1 := updBus l (fun k => { k with deb := set k.deb }) s
    if 32 ≤ l then .next s1
    else
      let was := inputActive s l i
      let s2 := put (F.MOV_INPUTS_LEVELS l) (set (get s (F.MOV_INPUTS_LEVELS l))) s1
      let is := inputActive s2 l i
      if i < 6 ∧ was = false ∧ is = true then .next (limitOn l i s2)
      else if i < 6 ∧ was = true ∧ is = false then .next (limitGone l i s2)
      else if i = 6 ∧ was = true ∧ is = false ∧ axSt s l 2 = 2 then .next (stallAxis l 2 s2)
      else .next s2

/-- The toggles of an input over the last 40 periods (R264). -/
def toggleSum (s : State) (b i : Nat) : Nat := (mapGet (fun _ => []) (busOf s b).toggles i).sum

/-- CHATTER (R264): the toggles of 40 periods exceed CHATTER_LIM; the input counts as active. -/
def execChatter (b i : Nat) (s : State) : Out :=
  if bayInst s b = false ∨ 7 ≤ i ∨ toggleSum s b i ≤ get s (F.MOV_DEBOUNCE_CHATTER_LIM b)
      ∨ bitOf (get s (F.MOV_INPUTS_CHATTER b)) i = 1 then .next s
  else
    let was := inputActive s b i
    let s1 := raise (evMOV b) B.MOV_EVT_CHATTER (put (F.MOV_INPUTS_CHATTER b) (get s (F.MOV_INPUTS_CHATTER b) ||| 2 ^ i) s)
    .next (if i < 6 ∧ was = false then limitOn b i s1 else s1)

/-- CHATTER_END (R264): CHATTER_CLR without changes; the debounced level follows R263 again. -/
def execChatterEnd (b i : Nat) (s : State) : Out :=
  if bayInst s b = false ∨ 7 ≤ i ∨ bitOf (get s (F.MOV_INPUTS_CHATTER b)) i = 0
      ∨ elapsed s (mapGet (fun _ => 0) (busOf s b).changed i) (get s (F.MOV_DEBOUNCE_CHATTER_CLR b) * 156250) = false then .next s
  else
    let s1 := updBus b (fun l => { l with toggles := mapErase l.toggles i })
      (put (F.MOV_INPUTS_CHATTER b) (get s (F.MOV_INPUTS_CHATTER b) &&& (127 - 2 ^ i)) s)
    .next (if i < 6 ∧ inputActive s1 b i = false then limitGone b i s1 else s1)

/-- STUCK_INPUT (R266): a limit still active after STUCK_TRAVEL away from it, or both limits of an axis active. -/
def execStuckInput (b i : Nat) (s : State) : Out :=
  let a := i / 2
  let travelled := match (axOf s b a).leftAt with
    | none => false
    | some p => decide ((if a = 2 then axMm s b a 2 else axMm s b a 1 / 5) ≤ ((axPos s b a - p).natAbs : Int))
  if bayInst s b = false ∨ 6 ≤ i ∨ inputActive s b i = false
      ∨ (travelled = false ∧ inputActive s b (limitIn a (decide (i % 2 = 0))) = false) then .next s
  else
    let s1 := raise (evMOV b) B.MOV_EVT_STUCK (put (F.MOV_INPUTS_STUCK b) (get s (F.MOV_INPUTS_STUCK b) ||| 2 ^ i) (endFollow b a s))
    if axSt s b a = 0 then .next s1
    else if (axOf s b a).v2 = 0 then .next (axEnter b a 6 (put (F.MOV_AX_STATUS_BUSY b a) 0 (axHalt b a s1)))
    else .next (axBrake b a (axDec s b a) 7 s1)

/-- STALL (R267, R259): a sled off its encoder in STALL.PERIODS periods, or a loader that missed its end limit. -/
def execStall (b ax : Nat) (s : State) : Out :=
  let x := axOf s b ax
  let sled := decide (ax < 2) && decide (get s (F.MOV_AX_STALL_PERIODS b ax) ≤ x.missRun) && decide (0 < x.missRun)
  let missed := match x.end2 with
    | none => false
    | some e => decide (ax = 2) && decide (axMm s b ax 2 ≤ (if x.forward then axPos s b ax - e else e - axPos s b ax))
  if axInst s b ax = false ∨ axSt s b ax = 0 ∨ (sled = false ∧ missed = false) then .next s else .next (stallAxis b ax s)

/-- HOMING_FAIL (R268): no limit within travel plus 2 mm. -/
def execHomingFail (b ax : Nat) (s : State) : Out :=
  let x := axOf s b ax
  if axInst s b ax = false ∨ axSt s b ax ≠ 4 ∨ x.plan ≠ 5
      ∨ ((axPos s b ax - x.homeFrom).natAbs : Int) < axMm s b ax (travelMm ax + 2) then .next s
  else .next (axEnter b ax 6 (put (F.MOV_AX_STATUS_BUSY b ax) 0 (axHalt b ax s)))

/-- The encoder check of a period (R267): the commanded and encoder positions of a sled at the boundary. -/
def encoderCheck (b a : Nat) (s : State) : State :=
  let d := (axPos s b a - getI s (F.MOV_AX_ENC_POS b a)).natAbs
  let bad := decide (get s (F.MOV_AX_STALL_WIN b a) * axScale s b a < 1000 * d) && decide (axSt s b a ≠ 0)
  updAx b a (fun x => { x with missRun := if bad then x.missRun + 1 else 0 }) s

/-- The last step of an axis that falls before a time, in reference periods: the position after it and its time (R255, R256). -/
def lastStep (s : State) (b a limit : Nat) : Nat → Axis → Int → Nat → Int × Nat
  | 0, _, p, t => (p, t)
  | n + 1, x, p, t =>
    if x.ticks = 0 ∨ limit ≤ x.stepAt then (p, t)
    else
      let q := p + (if x.forward then 1 else -1)
      let v := stepSpeed s b a x q
      if v = 0 ∨ x.target = q then (q, x.stepAt)
      else lastStep s b a limit n { x with v2 := v, ticks := stepTicks x.v2 v, stepAt := x.stepAt + stepTicks x.v2 v } q x.stepAt

/-- The time at which PWM period n starts, in reference periods (R86): 25 µs each. -/
def pwmTime (n : Nat) : Nat := n * 15625 / 4

/-- A comparator threshold as it is sent (R88, R256, R456): the magnitude in mA through the inverse of the expander's correction. -/
def thresholdCode (gain : Nat) (offset : Int) (ma : Nat) : Nat :=
  (clampInt 0 65535 (roundQuot (ma * 16 * 2 ^ 30 + offset * gain) (16 * gain))).toNat

/-- The STEP_REF entry of an axis that moves, or whose current changes, for period `n` (R88, R256, R258): after the last step that falls in it,
at that step's instant in bit times; without a step, at its start. The references sent in the period before come into force. -/
def stepRef (b a n : Nat) (s : State) : Option (Nat × Nat × Int × Int) × State :=
  let x := axOf s b a
  if axSt s b a = 0 then (none, s)
  else
    let r := lastStep s b a (pwmTime (n + 1)) 64 x (axPos s b a) 0
    let i := axCurrent s b a
    let ra := phaseRef i r.1 false
    let rb := phaseRef i r.1 true
    (if x.ticks = 0 ∧ ra = x.soonA ∧ rb = x.soonB then none else some (a, min 62499 (16 * (r.2 - pwmTime n)), ra, rb),
     updAx b a (fun x => { x with soonA := ra, soonB := rb }) (takeRefs b a x.soonA x.soonB s))

end Sys2Proof.Machine
end

