-- ==== Sys2Proof/Machine/Motor.lean ====
section
/-! DEFINITION. Spindle and carousel motors (R227 to R252): spindle states, observer loss and recapture, the leaf's motor bus
and brake chopper, and the carousel. -/

namespace Sys2Proof.Machine

def spinOf (s : State) (b : Nat) : Spindle := mapGet (fun _ => {}) s.spindles b
def updSpin (b : Nat) (f : Spindle → Spindle) (s : State) : State := { s with spindles := mapPut s.spindles b (f (spinOf s b)) }
def crsOf (s : State) (c : Nat) : Carousel := mapGet (fun _ => {}) s.carousels c
def updCrs (c : Nat) (f : Carousel → Carousel) (s : State) : State := { s with carousels := mapPut s.carousels c (f (crsOf s c)) }

/-- The bays of a carousel's leaf, and the carousel of a bay's leaf (R14). -/
def baysOfCar (s : State) (c : Nat) : List Nat := (leafBays s (leafOfCar s c)).filter (bayInst s)
def carOfBay (s : State) (b : Nat) : Nat := leafCar s (leafOfBay s b)

def motSt (s : State) (b : Nat) : Nat := get s (F.MOT_STATUS_STATE b)

/-- A bay link or carousel link that exists; its event register raises source 64 + l (R96). -/
def linkInst (s : State) (l : Nat) : Bool := if l < 32 then bayInst s l else decide (l < 36) && carInst s (l - 32)

def linkUp (s : State) (l : Nat) : Bool := decide (get s (F.BL_STATUS_STATE l) = 3)

/-- The spindle enters a state (R239, R240): SPEED_LOCK holds in RUN only, and the HEADER's PWM enable follows the state. Where the inverter
goes off, crossings are looked for anew. -/
def motEnter (b st : Nat) (s : State) : State :=
  let driven := decide (motSt s b ∈ [2, 3, 5])
  let s1 := updBus b (fun l => { l with pwmEn := decide (st ∈ [1, 2, 3, 5, 7]) })
    (updSpin b (fun x =>
      { x with stateAt := now s, lockRun := 0, handRun := 0, resRun := 0, pllRun := 0, wobRun := 0, predRun := 0, stopping := false,
               losing := 0, crossRun := 0, crosses := [], lines := [],
               rampAcc := if st = 2 then 0 else x.rampAcc
               crossRpm := if driven then (getI s (F.MOT_SPEED b)).natAbs else x.crossRpm }) (put (F.MOT_STATUS_STATE b) st s))
  let s2 := if st = 3 then s1 else put (F.MOT_STATUS_SPEED_LOCK b) 0 s1
  if motSt s b = st then s2 else raise (evMOT b) B.MOT_EVT_STATE_CHANGE s2

/-- Both heads of a bay retract their lenses (R195). -/
def retractBay (b : Nat) (s : State) : State := retractHead (2 * b + 1) 0 (retractHead (2 * b) 0 s)

/-- COAST (R239): the inverter off and the spindle left to run down. -/
def coastSpindle (b : Nat) (s : State) : State :=
  let st := motSt s b
  if st = 0 ∨ st = 6 ∨ st = 8 then s else motEnter b 6 (updSpin b (fun x => { x with relink := false, recorded := none }) s)

/-! ### Current regulators and PWM -/

/-- The voltage vector of a period (R229, R233): PI regulators clamped to the circle of radius 0.95 V_bus / √3, the d axis
first; a clamped axis keeps its integrator. All in mV and mA; KP in Q16.16 V/A, KI in Q16.16 V/(A·ms). -/
def regulate (kp ki : Int) (vbus : Nat) (eD eQ intD intQ : Int) : Int × Int × Int × Int :=
  let r2 := 9025 * vbus ^ 2 / 30000
  let r : Int := (Nat.sqrt r2 : Nat)
  let nD := intD + roundQuot (ki * eD * 25) 65536000
  let nQ := intQ + roundQuot (ki * eQ * 25) 65536000
  let uD := roundQuot (kp * eD) 65536 + nD
  let vD := clampInt (-r) r uD
  let q : Int := (Nat.sqrt (r2 - vD.natAbs ^ 2) : Nat)
  let uQ := roundQuot (kp * eQ) 65536 + nQ
  let vQ := clampInt (-q) q uQ
  (vD, vQ, if vD = uD then nD else intD, if vQ = uQ then nQ else intQ)

/-- The electrical angle of phase k (0 to 2) less its axis, as p of 2^32 parts of a turn, from an angle in 1/65,536 turn. -/
def phaseTurn (angle k : Nat) : Nat := (angle * 65536 + (3 - k) * 1431655765) % 2 ^ 32

/-- Currents of three phases in mA as I_d and I_q at an angle (R233, R235; the amplitude-invariant transform, log entry 76). -/
def toDQ (angle : Nat) (i : List Int) : Int × Int :=
  let sum (f : Nat → Int) : Int := ((List.range 3).map fun k => i.getD k 0 * f (phaseTurn angle k)).sum
  (roundQuot (2 * sum cosTurn) (3 * 2 ^ 40), roundQuot (-2 * sum sinTurn) (3 * 2 ^ 40))

/-- The duty of a phase in 1/65,536 (R229): its voltage over the bus voltage, above what the three phases have in common. -/
def phaseDuty (vD vQ : Int) (angle vbus k : Nat) : Nat :=
  let v := vD * cosTurn (phaseTurn angle k) - vQ * sinTurn (phaseTurn angle k)
  (clampInt 0 65536 (Config.commonDuty vD vQ angle vbus + roundQuot (65536 * v) (vbus * 2 ^ 40))).toNat

/-- The edges of a phase from its duty in 1/65,536 (R229). -/
def dutyEdges (d : Nat) : Nat × Nat :=
  if 65536 ≤ d then (0, 0xffff)
  else ((divRound ((31250 * (65536 - d) : Nat) : Int) 65536).toNat, (divRound ((31250 * (65536 + d) : Nat) : Int) 65536).toNat)

/-- A pulse moved by a number of bit times. -/
def movePulse (d : Int) (e : Nat × Nat × Nat) : Nat × Nat × Nat := (e.1, ((e.2.1 : Int) + d).toNat, ((e.2.2 : Int) + d).toNat)

/-- The windows of the single shunt (R231, R232), edges by rising on time: a window that is too short is opened by moving a whole pulse; one
that cannot be opened within the period, or whose sample would lie beyond bit time 31,249, is not sampled. The edges, which windows are
sampled, and whether a pulse moved. -/
def openWindows (dt settle win : Nat) (l : List (Nat × Nat × Nat)) : List (Nat × Nat × Nat) × (Bool × Bool) × Bool :=
  match l with
  | [x, y, z] =>
    let m1 := win - (y.2.1 - x.2.1)
    let m2 := win - (z.2.1 - y.2.1)
    let ok1 := decide (m1 ≤ x.2.1) && decide (x.2.1 - m1 + dt + settle ≤ 31249)
    let ok2 := decide (z.2.2 + m2 ≤ 62499 ∨ m2 = 0) && decide (y.2.1 + dt + settle ≤ 31249)
    ([if ok1 then movePulse (-(m1 : Int)) x else x, y, if ok2 then movePulse m2 z else z], (ok1, ok2),
     (ok1 && decide (m1 ≠ 0)) || (ok2 && decide (m2 ≠ 0)))
  | _ => (l, (false, false), false)

/-- The edges of the three phases by rising on time, and back in the order of the phases. -/
def byOnTime (l : List (Nat × Nat)) : List (Nat × Nat × Nat) :=
  (l.zipIdx.map fun p => (p.2, p.1.1, p.1.2)).mergeSort fun a b => decide (a.2.1 ≤ b.2.1)
def byPhase (l : List (Nat × Nat × Nat)) : List (Nat × Nat) :=
  (List.range 3).map fun k => match l.find? fun e => decide (e.1 = k) with | some e => e.2 | none => (31250, 31250)

/-- The I_q reference of a spindle (R234, R239): node b's torque within I_MAX and the leaf's regeneration floor. -/
def iqRef (s : State) (b : Nat) : Int :=
  let i := min (spinOf s b).torque ((get s (F.MOT_BRAKE_I_MAX b) : Nat) : Int)
  max i (if isSet s (F.MOT_STATUS_REGEN_BLOCKED b) then 0 else -((get s (F.CMOT_REGEN_MAX (carOfBay s b)) : Nat) : Int))

/-- The period that has begun, and a packet sent in it (R86 to R88). -/
def pwmNow (s : State) : Nat := get s F.CLK_PWM
def sendPacket (l ty : Nat) (payload : List Nat) (s : State) : State := updBus l (fun k => { k with sent := k.sent ++ [(ty, payload)] }) s

/-- The entries of a bay's SAMPLE packet for period `p` (R230, R231): time, channel, and the entry's number as tag. -/
def bayEntries (s : State) (b p : Nat) : List (Nat × Nat × Nat) :=
  let x := spinOf s b
  let shunt (w : Nat) : Nat := (x.edges.getD w (0, 0, 0)).2.1 + 20 * inForce s (F.BL_DEADTIME b) + inForce s (F.MOT_SHUNT_SETTLE b)
  (if x.wins.1 then [(shunt 0, 0, 1)] else []) ++ (if x.wins.2 then [(shunt 1, 0, 2)] else [])
    ++ [(0, 4, 3), (31250, 1, 4), (31250, 2, 5), (31250, 3, 6)] ++ (if p % 40 < 3 then [(31250, 5 + p % 40, 7)] else [])
    ++ (if s.cal.job.isSome then [(31250, 8, 8)] else [])

/-- The PWM and SAMPLE packets of the next period (R229, R230). -/
def sendPeriod (b : Nat) (s : State) : State :=
  let p := pwmNow s + 1
  sendPacket b 2 (samplePayload (p % 65536) (bayEntries s b p)) (sendPacket b 1 (pwmPayload (p % 65536) (byPhase (spinOf s b).edges)) s)

/-- The edges of the next period (R229 to R234, R239): from references of I_d and I_q and the currents last measured. -/
def regulateTo (b : Nat) (refD refQ : Int) (s : State) : State :=
  let x := spinOf s b
  let (vD, vQ, nD, nQ) := regulate (inForce s (F.MOT_CUR_KP b) : Nat) (inForce s (F.MOT_CUR_KI b) : Nat) (get s (F.MOT_VBUS b))
    (refD - x.mD) (refQ - x.mQ) x.intD x.intQ
  let raw := byOnTime ((List.range 3).map fun k => dutyEdges (phaseDuty vD vQ x.mNext (get s (F.MOT_VBUS b)) k))
  let w := openWindows (20 * inForce s (F.BL_DEADTIME b)) (inForce s (F.MOT_SHUNT_SETTLE b)) (inForce s (F.MOT_SHUNT_WIN_MIN b)) raw
  let s1 := updSpin b (fun y =>
    { y with iq := refQ, intD := nD, intQ := nQ, vd := vD, vq := vQ, edges := w.1, wins := w.2.1,
             predRun := if w.2.1 = (true, true) then 0 else y.predRun + 1 }) s
  let s2 := if w.2.2 then bump (F.MOT_SHIFTED b) 1 s1 else s1
  if w.2.1 = (true, true) then s2 else bump (F.MOT_PREDICTED b) 1 s2

/-- The control of a period (R229 to R234, R237 to R239): the low sides on in BRAKE, no current asked for while a loss is under way, and
nothing to switch where the inverter is off. -/
def controlPeriod (b : Nat) (s : State) : State :=
  let st := motSt s b
  let x := spinOf s b
  let still (t : State) : State := updSpin b (fun x =>
    { x with edges := [(0, 31250, 31250), (1, 31250, 31250), (2, 31250, 31250)], wins := (false, false), vd := 0, vq := 0, iq := 0 }) t
  sendPeriod b (if st = 0 ∨ st = 4 ∨ 6 ≤ st then still s
    else if x.losing ≠ 0 then regulateTo b 0 0 s
    else if st = 1 then regulateTo b (get s (F.MOT_START_I_ALIGN b) : Nat) 0 s
    else if st = 2 then regulateTo b 0 (get s (F.MOT_START_I_START b) : Nat) s
    else regulateTo b 0 (iqRef s b) s)

/-! ### Observer loss and recapture -/

/-- The loss condition of a cause holds (R232, R236). -/
def lossHolds (s : State) (b cause : Nat) : Bool :=
  let x := spinOf s b
  let st := motSt s b
  let run := decide (st = 2 ∨ st = 3 ∨ st = 5)
  if cause = 1 then run && decide (3 ≤ x.resRun)
  else if cause = 2 then run && decide (3 ≤ x.pllRun)
  else if cause = 3 then run && isSet s (F.MOT_CTRL_WOB_CHECK b) && decide (40 ≤ x.wobRun)
  else if cause = 4 then run && decide (0 < x.predRun) && decide (get s (F.MOT_CATCH_PRED_MAX b) ≤ x.predRun)
  else if cause = 5 then decide (st ≠ 0) && (!linkUp s b || decide (2 ≤ (busOf s b).repeats))
  else false

/-- OBSERVER_LOSS (R236, R237, R238, R248): the edges of the next period are sent again with zero references, both heads retract, and from the
period after it the spindle is in CATCH; a second loss within 1 s of the first recapture coasts. With the link down the spindle coasts until
the link is up again; after two repeats on a link that is up it is caught at once. -/
def execObserverLoss (b cause : Nat) (s : State) : Out :=
  if bayInst s b = false ∨ lossHolds s b cause = false ∨ ((spinOf s b).losing ≠ 0 ∧ cause ≠ 5) then .next s
  else
    let x := spinOf s b
    let st := motSt s b
    let s1 := raise (evMOT b) B.MOT_EVT_OBS_LOSS (bump (F.MOT_OBS_LOSS b) 1
      (put (F.MOT_STATUS_OBS_LOCK b) 0 (put (F.MOT_STATUS_LOSS_CAUSE b) cause s)))
    let s2 := retractBay b (if cause = 3 then raise (evMOT b) B.MOT_EVT_WOB_MISMATCH s1 else s1)
    let since := match x.recapAt with | some t => decide (now s ≤ 156250000 + t) | none => false
    let again := since && decide (1 ≤ x.relost)
    let s3 := updSpin b (fun y =>
      { y with
        lossAt := now s
        lastWob := get s (F.MOT_WOB_SPEED b)
        relost := if since then y.relost + 1 else 0
        recapAt := if since then y.recapAt else none }) s2
    if cause = 5 then
      if st = 8 then .next s3
      else if linkUp s b then .next (motEnter b 4 (updBus b (fun l => { l with repeats := 0 }) s3))
      else .next (updSpin b (fun y => { y with relink := true }) (motEnter b 6 s3))
    else .next (controlPeriod b (updSpin b (fun y => { y with losing := 2, again := again }) s3))

/-- The boundaries after a loss (R237): zero-current edges for one period, then the inverter is off and the spindle in CATCH, or in COAST. -/
def losePeriod (b : Nat) (s : State) : State :=
  let x := spinOf s b
  if x.losing = 0 then s
  else if x.losing = 1 then motEnter b (if x.again then 6 else 4) s
  else updSpin b (fun x => { x with losing := 1 }) s

/-- The wobble speed before a loss, in 1/65,536 rev/s, after `el` reference periods of the tablature's drag (R237, R484): J dω/dt is the drag
torque, a constant and a part that grows with the speed. -/
def dragDecay (s : State) (b w el : Nat) : Nat :=
  let m := imgSection s.tab 5
  let j := imgNat m (16 * b) 4
  let c0 := imgNat m (16 * b + 4) 4
  let c1 := imgNat m (16 * b + 8) 4
  if j = 0 then w
  else if c1 = 0 then (roundQuot ((w * (10 ^ 10 * twoPi60 * j) : Nat) - (c0 * el * 64 * 65536 * 2 ^ 60 : Nat)) (10 ^ 10 * twoPi60 * j)).toNat
  else
    let e := expNeg (60 * c1 * el * 64 * 2 ^ 120 / (10 ^ 10 * twoPi60 * j))
    (roundQuot ((60 * c1 * w + 65536 * c0 : Nat) * e - (65536 * c0 * 2 ^ 60 : Nat)) (60 * c1 * 2 ^ 60)).toNat

/-- Whether a caught speed (0.1 rpm) lies in the reference window (R237): the last wobble speed decayed by the drag model, with
WOB_TOL widened by 1 % per 100 ms. -/
def inWindow (s : State) (b rpm10 : Nat) : Bool :=
  let x := spinOf s b
  let el := now s - x.lossAt
  let ref := dragDecay s b x.lastWob el
  let tol := 15625000 * get s (F.MOT_OBS_WOB_TOL b) + 10 * el
  decide (((rpm10 * 65536 : Nat) - (ref * 600 : Nat) : Int).natAbs * 1000 * 15625000 ≤ ref * 600 * tol)

/-- The speed (0.1 rpm) of a spindle whose line voltages cross zero at an interval in 1/65,536 period: six crossings an electrical cycle. -/
def crossSpeed (s : State) (b num den : Nat) : Nat :=
  (roundQuot (262144000000 * num : Nat) (den * get s (F.MOT_MOTOR_P b))).toNat

/-- RECAPTURE (R238, R248): 12 consistent crossings whose mean interval shows a speed inside the window; with an overvoltage latched the spindle
coasts instead. -/
def execRecapture (b : Nat) (s : State) : Out :=
  let c := (spinOf s b).crosses
  let rpm10 := crossSpeed s b 11 (c.headD 0 - c.getLastD 0)
  if bayInst s b = false ∨ motSt s b ≠ 4 ∨ (spinOf s b).crossRun < 12 ∨ inWindow s b rpm10 = false then .next s
  else if isSet s (F.CMOT_STATUS_OV_LATCHED (carOfBay s b)) then .next (coastSpindle b s)
  else .next (updSpin b (fun x => { x with recapAt := some (x.recapAt.getD (now s)) })
    (motEnter b 5 (put (F.MOT_SPEED b) rpm10 (put (F.MOT_STATUS_OBS_LOCK b) 1 s))))

/-- A SET_SPEED that was recorded takes effect in RUN (R248). -/
def applyRecorded (b : Nat) (s : State) : State :=
  updSpin b (fun x => { x with target := x.recorded.getD x.target, recorded := none }) s

/-- CONFIRM_END (R238): CATCH.CONFIRM without a loss. -/
def execConfirmEnd (b : Nat) (s : State) : Out :=
  if bayInst s b = false ∨ motSt s b ≠ 5 ∨ (spinOf s b).losing ≠ 0
      ∨ elapsed s (spinOf s b).stateAt (get s (F.MOT_CATCH_CONFIRM b) * 156250) = false then .next s
  else .next (applyRecorded b (motEnter b 3 (raise (evMOT b) B.MOT_EVT_RECAPTURE (bump (F.MOT_RECAPTURE b) 1 s))))

/-- CATCH_FAIL (R238): no recapture within CATCH_MAX. -/
def execCatchFail (b : Nat) (s : State) : Out :=
  if bayInst s b = false ∨ motSt s b ≠ 4 ∨ elapsed s (spinOf s b).stateAt (get s (F.MOT_CATCH_CATCH_MAX b) * 625000) = false then .next s
  else .next (coastSpindle b (raise (evMOT b) B.MOT_EVT_CATCH_FAIL (bump (F.MOT_CATCH_FAIL b) 1 s)))

/-- COAST_END (R238): the speed has fallen to BRAKE_RPM, or COAST_MAX has passed. -/
def execCoastEnd (b : Nat) (s : State) : Out :=
  let x := spinOf s b
  let slow := decide (2 ≤ x.crossRun) && decide (x.crossRpm ≤ 10 * get s (F.MOT_BRAKE_BRAKE_RPM b))
  if bayInst s b = false ∨ motSt s b ≠ 6 ∨ (slow = false ∧ elapsed s x.stateAt (get s (F.MOT_CATCH_COAST_MAX b) * 156250000) = false) then .next s else .next (motEnter b 7 s)

/-- No crossing has been seen for 500 ms (R238, R239). -/
def spinStill (s : State) (b : Nat) : Bool := elapsed s (max (spinOf s b).crossAt (spinOf s b).stateAt) 78125000

/-- BRAKE_END (R238): no crossing for 500 ms. -/
def execBrakeEnd (b : Nat) (s : State) : Out :=
  if bayInst s b = false ∨ motSt s b ≠ 7 ∨ spinStill s b = false then .next s
  else .next (put (F.MOT_SPEED b) 0 (motEnter b 0 (raise (evMOT b) B.MOT_EVT_STOPPED
    (updSpin b (fun x => { x with recapAt := none, relink := false, target := 0, ref := 0 }) s))))

/-- ALIGN_END (R239). -/
def execAlignEnd (b : Nat) (s : State) : Out :=
  if bayInst s b = false ∨ motSt s b ≠ 1 ∨ elapsed s (spinOf s b).stateAt (get s (F.MOT_START_T_ALIGN b) * 625000) = false then .next s
  else .next (motEnter b 2 s)

/-- SPINDLE_HANDOVER (R239): the PLL is locked near the ramp angle for 40 periods. -/
def execSpindleHandover (b : Nat) (s : State) : Out :=
  if bayInst s b = false ∨ motSt s b ≠ 2 ∨ get s (F.MOT_STATUS_OBS_LOCK b) = 0 ∨ (spinOf s b).handRun < 40 then .next s
  else .next (bump (F.MOT_STARTS_OK b) 1 (motEnter b 3 (updSpin b (fun x => { x with rampFails := 0 }) s)))

/-- RAMP_FAIL (R239): 1 s without hand-over: ALIGN again, then FAULT with cause 1. -/
def execRampFail (b : Nat) (s : State) : Out :=
  if bayInst s b = false ∨ motSt s b ≠ 2 ∨ elapsed s (spinOf s b).stateAt 156250000 = false then .next s
  else
    let n := (spinOf s b).rampFails + 1
    let s1 := raise (evMOT b) B.MOT_EVT_START_FAIL (bump (F.MOT_STARTS_FAIL b) 1 s)
    if n < 2 then .next (motEnter b 1 (updSpin b (fun x => { x with rampFails := n, ref := 0 }) s1))
    else .next (put (F.MOT_STATUS_FAULT_CAUSE b) 1 (motEnter b 8 (updSpin b (fun x => { x with rampFails := 0 }) s1)))

/-- SPEED_LOCK (R240): 100 periods within 3 % of the target in RUN. -/
def execSpeedLock (b : Nat) (s : State) : Out :=
  if bayInst s b = false ∨ motSt s b ≠ 3 ∨ (spinOf s b).lockRun < 100 ∨ get s (F.MOT_STATUS_SPEED_LOCK b) = 1 then .next s
  else .next (raise (evMOT b) B.MOT_EVT_SPEED_LOCK (put (F.MOT_STATUS_SPEED_LOCK b) 1 s))

/-- STOP_DECEL_END (R239): the STOP deceleration has reached BRAKE_RPM. -/
def execStopDecelEnd (b : Nat) (s : State) : Out :=
  if bayInst s b = false ∨ motSt s b ≠ 3 ∨ (spinOf s b).stopping = false
      ∨ 40000 * get s (F.MOT_BRAKE_BRAKE_RPM b) < (spinOf s b).ref then .next s
  else .next (motEnter b 7 s)

/-- A spindle command and its result (R249). -/
def motResult (b op r : Nat) (s : State) : State :=
  putAll [(F.MOT_CMD_OP b, op), (F.MOT_CMD_STATUS_OP b, op), (F.MOT_CMD_STATUS_RESULT b, r), (F.MOT_CMD_STATUS_BUSY b, 0)] s

/-- SET_SPEED to a target in rpm (R228, R239, R240, R248). -/
def setSpeed (b t : Nat) (s : State) : State :=
  let st := motSt s b
  if get s (F.MOT_CTRL_EN b) = 0 then motResult b 0 2 s
  else if get s (F.MOT_KE_MAX_RPM b) < t ∨ (t < 300 ∧ t ≠ 0) then motResult b 0 1 s
  else if st = 0 then
    if t = 0 then motResult b 0 0 s
    else if linkUp s b = false ∨ isSet s (F.CMOT_STATUS_OV_LATCHED (carOfBay s b)) = true then motResult b 0 2 s
    else motEnter b 1 (motResult b 0 0 (updSpin b (fun x => { x with target := t, ref := 0, rampFails := 0, recapAt := none }) s))
  else if st = 1 ∨ st = 2 then motResult b 0 0 (updSpin b (fun x => { x with target := t }) s)
  else if st = 3 then
    motResult b 0 0 (put (F.MOT_STATUS_SPEED_LOCK b) 0 (updSpin b (fun x =>
      { x with target := t, lockRun := 0, stopping := false }) s))
  else if st = 4 ∨ st = 5 then motResult b 0 0 (updSpin b (fun x => { x with recorded := some t }) s)
  else if st = 6 ∧ 10 * get s (F.MOT_BRAKE_BRAKE_RPM b) < (spinOf s b).crossRpm ∧ linkUp s b = true then
    motEnter b 4 (motResult b 0 0 (updSpin b (fun x => { x with recorded := some t, relink := false, recapAt := none }) s))
  else motResult b 0 2 s

/-- SET_SPEED (R240): the target is the one in MOT.CMD. -/
def execSetSpeed (b : Nat) (s : State) : Out :=
  if bayInst s b = false then .next s else .next (setSpeed b (get s (F.MOT_CMD_TARGET b)) s)

/-- STOP of a spindle (R239, R248). -/
def stopSpindle (b : Nat) (s : State) : State :=
  let st := motSt s b
  if st = 3 then
    if isSet s (F.MOT_STATUS_REGEN_BLOCKED b) then coastSpindle b s
    else put (F.MOT_STATUS_SPEED_LOCK b) 0 (updSpin b (fun x => { x with stopping := true, lockRun := 0 }) s)
  else if st = 1 ∨ st = 2 then motEnter b 7 s
  else if st = 4 ∨ st = 5 then coastSpindle b s
  else s

/-- SPINDLE_STOP (R239): with a lens retract of the bay's heads (R195). -/
def execSpindleStop (b : Nat) (s : State) : Out :=
  if bayInst s b = false then .next s
  else if get s (F.MOT_CTRL_EN b) = 0 ∨ motSt s b = 8 then .next (motResult b 1 2 s)
  else .next (stopSpindle b (retractBay b (motResult b 1 0 s)))

/-- SPINDLE_COAST (R239), with a lens retract of the bay's heads (R195). -/
def execSpindleCoast (b : Nat) (s : State) : Out :=
  if bayInst s b = false then .next s
  else if get s (F.MOT_CTRL_EN b) = 0 ∨ motSt s b = 8 then .next (motResult b 2 2 s)
  else .next (coastSpindle b (retractBay b (motResult b 2 0 s)))

/-- MOT_CLEAR_FAULT (R239): to OFF once no crossing has been seen for 500 ms. -/
def execMotClearFault (b : Nat) (s : State) : Out :=
  if bayInst s b = false then .next s
  else if motSt s b ≠ 8 ∨ spinStill s b = false then .next (motResult b 3 2 s)
  else .next (motEnter b 0 (put (F.MOT_STATUS_FAULT_CAUSE b) 0 (motResult b 3 0 s)))

/-- MOT_CMD_REFUSED (R250): another OP is refused with result 2. -/
def execMotCmdRefused (b op : Nat) (s : State) : Out :=
  if bayInst s b = false ∨ op % 8 < 4 then .next s else .next (motResult b (op % 8) 2 s)

/-- MOT_ENABLE (R250): writing 0 acts as COAST. -/
def execMotEnable (b en : Nat) (s : State) : Out :=
  if bayInst s b = false then .next s
  else
    let s1 := put (F.MOT_CTRL_EN b) en s
    if en % 2 = 0 ∧ motSt s b ≠ 0 then .next (coastSpindle b (retractBay b s1)) else .next s1

/-- MOT_CLR_CNT (R250). -/
def execMotClrCnt (b : Nat) (s : State) : Out :=
  if bayInst s b = false then .next s
  else .next (clearAll [F.MOT_OBS_LOSS b, F.MOT_RECAPTURE b, F.MOT_CATCH_FAIL b, F.MOT_PREDICTED b, F.MOT_SHIFTED b,
    F.MOT_STARTS_OK b, F.MOT_STARTS_FAIL b, F.MOT_RESID_PEAK b] s)

/-- CHOPPER_FAULT (R242, R248): low chopper current in 2 periods, or a bus that rises in 4. -/
def execChopperFault (c : Nat) (s : State) : Out :=
  let x := crsOf s c
  if carInst s c = false ∨ (x.lowRun < 2 ∧ x.riseRun < 4) ∨ isSet s (F.CMOT_STATUS_CHOP_FAULT c) = true then .next s
  else
    let s1 := raise (evCMOT c) B.CMOT_EVT_CHOP_FAULT (bump (F.CMOT_BUS_EVENTS_CHOP c) 1 (put (F.CMOT_STATUS_CHOP_FAULT c) 1 s))
    .next (forAll (baysOfCar s c) (fun b t =>
      let t1 := put (F.MOT_STATUS_REGEN_BLOCKED b) 1 t
      if motSt t b = 3 ∨ motSt t b = 5 then coastSpindle b t1 else t1) s1)

/-- CHOP_FAULT_CLR (R242): with the bus below 50 V. -/
def execChopFaultClr (c : Nat) (s : State) : Out :=
  if carInst s c = false ∨ 50000 ≤ get s (F.CMOT_BUS_STATUS_V c) then .next s
  else .next (forAll (baysOfCar s c) (fun b t => put (F.MOT_STATUS_REGEN_BLOCKED b) 0 t)
    (updCrs c (fun x => { x with lowRun := 0, riseRun := 0 }) (put (F.CMOT_STATUS_CHOP_FAULT c) 0 s)))

def cmotSt (s : State) (c : Nat) : Nat := get s (F.CMOT_STATUS_STATE c)

/-- The carousel's inverter switches off (R243, R245, R252). -/
def carouselOff (c st : Nat) (s : State) : State :=
  putAll [(F.CMOT_STATUS_STATE c, st), (F.CMOT_STATUS_REVERSAL_PENDING c, 0), (F.CMOT_CMD_STATUS_BUSY c, 0)]
    (updCrs c (fun x => { x with inverter := false, reverse := none, homing := false }) s)

/-- OVERVOLTAGE (R243, R270): PWM and stepper enables of the leaf's bay links fall, the carousel's inverter switches off and
every head of the leaf retracts; latched. -/
def overvoltage (c : Nat) (s : State) : State :=
  if isSet s (F.CMOT_STATUS_OV_LATCHED c) then s
  else
    let s1 := raise (evCMOT c) B.CMOT_EVT_OV (bump (F.CMOT_BUS_EVENTS_OV c) 1 (put (F.CMOT_STATUS_OV_LATCHED c) 1 s))
    let s2 := carouselOff c 0 s1
    forAll (baysOfCar s c) (fun b t => stepperOff b (if motSt t b = 4 then retractBay b t else coastSpindle b (retractBay b t))) s2

/-- OV_CLR (R243, R270): with the bus below 54 V; the stepper enables of the links that are up return. -/
def execOvClr (c : Nat) (s : State) : Out :=
  if carInst s c = false ∨ 54000 ≤ get s (F.CMOT_BUS_STATUS_V c) ∨ get s (F.CMOT_STATUS_OV_LATCHED c) = 0 then .next s
  else .next (forAll ((baysOfCar s c).filter (linkUp s)) stepperOn (put (F.CMOT_STATUS_OV_LATCHED c) 0 s))

/-- CAROUSEL_ENABLE (R243, R244, R252): enabling starts the alignment, unless an overvoltage is latched; disabling switches the
inverter off. -/
def execCarouselEnable (c en : Nat) (s : State) : Out :=
  if carInst s c = false then .next s
  else
    let s1 := put (F.CMOT_CTRL_EN c) en s
    if en % 2 = 0 then .next (updCrs c (fun x => { x with offset := false }) (carouselOff c 0 s1))
    else if isSet s (F.CMOT_STATUS_OV_LATCHED c) then .next s1
    else if get s (F.CMOT_CTRL_EN c) = 1 ∧ (crsOf s c).inverter = true then .next s1
    else .next (updCrs c (fun x => { x with inverter := true, offset := false, alignAt := now s, intD := 0, intQ := 0 }) s1)

/-- The profile's position counts in this part of an encoder count (R245; log entry 76). -/
def profScale : Int := 28800000000000

/-- CAROUSEL_ALIGN_DONE (R244): 1,000 mA at angle 0 for 200 ms; the offset is known and the carousel holds. -/
def execCarouselAlignDone (c : Nat) (s : State) : Out :=
  let x := crsOf s c
  let n := get s (F.CMOT_ENC_COUNTS c)
  let turn := roundQuot (getI s (F.CMOT_POS c) * (65536 * get s (F.CMOT_ENC_POLES c) : Nat)) n
  if carInst s c = false ∨ get s (F.CMOT_CTRL_EN c) = 0 ∨ x.inverter = false ∨ x.offset = true ∨ elapsed s x.alignAt 31250000 = false then .next s
  else .next (put (F.CMOT_STATUS_STATE c) 2 (updCrs c (fun x =>
    { x with offset := true, elOfs := (-turn % 65536).toNat, profV := 0, profPos := getI s (F.CMOT_POS c) * profScale }) s))

/-- A carousel command and its result (R251). -/
def cmotResult (c op r : Nat) (s : State) : State :=
  putAll [(F.CMOT_CMD_OP c, op), (F.CMOT_CMD_STATUS_OP c, op), (F.CMOT_CMD_STATUS_RESULT c, r), (F.CMOT_CMD_STATUS_BUSY c, 0)] s

/-- The position of a slot in counts, and the shorter way to it, forward on a tie (R244, R245). -/
def slotCounts (s : State) (c slot : Nat) : Int := (slot * (get s (F.CMOT_ENC_COUNTS c) / 288) : Nat)
def carPos (s : State) (c : Nat) : Int := getI s (F.CMOT_POS c)
def goForward (s : State) (c slot dir : Nat) : Bool :=
  let n : Int := (get s (F.CMOT_ENC_COUNTS c) : Nat)
  let d := (slotCounts s c slot - carPos s c) % n
  if dir = 1 then true else if dir = 2 then false else decide (2 * d ≤ n)

/-- Every loader of a leaf at rest on a limit (R271). -/
def loadersHome (s : State) (c : Nat) : Bool :=
  (baysOfCar s c).all fun b => decide ((axOf s b 2).ticks = 0) && (inputActive s b 4 || inputActive s b 5)

/-- The measured speed opposes a direction at 0.5 rpm or more (R246). -/
def opposes (s : State) (c : Nat) (fwd : Bool) : Bool :=
  let v := getI s (F.CMOT_SPEED c)
  decide (500 ≤ v.natAbs) && (if fwd then decide (v < 0) else decide (0 < v))

/-- Where a move toward a slot in a direction ends, in counts that run on from the present position (R245). -/
def moveTarget (s : State) (c slot : Nat) (fwd : Bool) : Int :=
  let n : Int := (get s (F.CMOT_ENC_COUNTS c) : Nat)
  let d := (slotCounts s c slot - carPos s c) % n
  carPos s c + (if fwd = true ∨ d = 0 then d else d - n)

/-- A carousel move toward a slot (R245, R246). -/
def moveCar (c slot dir : Nat) (s : State) : State :=
  let fwd := goForward s c slot dir
  if opposes s c fwd || isSet s (F.CMOT_STATUS_REVERSAL_PENDING c) then
    raise (evCMOT c) B.CMOT_EVT_REVERSAL_REFUSED (putAll [(F.CMOT_STATUS_STATE c, 4), (F.CMOT_STATUS_REVERSAL_PENDING c, 1),
      (F.CMOT_CMD_STATUS_BUSY c, 1)] (updCrs c (fun x => { x with reverse := some (0, slot, dir), restRun := 0 }) s))
  else
    putAll [(F.CMOT_STATUS_STATE c, 3), (F.CMOT_CMD_STATUS_BUSY c, 1)]
      (updCrs c (fun x => { x with target := moveTarget s c slot fwd, slot := slot }) s)

/-- Whether a MOVE of a carousel is refused, and with which result (R245, R247, R271). -/
def moveRefused (s : State) (c slot : Nat) : Option Nat :=
  let st := cmotSt s c
  if st = 0 ∨ st = 1 ∨ st = 5 ∨ st = 6 ∨ get s (F.CMOT_STATUS_HOMED c) = 0 then some 2
  else if 288 ≤ slot then some 1
  else if loadersHome s c then none else some 2

/-- CAROUSEL_MOVE (R245): the target and direction in CMOT.CMD. -/
def execCarouselMove (c : Nat) (s : State) : Out :=
  if carInst s c = false then .next s
  else
    let slot := get s (F.CMOT_CMD_TARGET c)
    match moveRefused s c slot with
    | some r => .next (cmotResult c 0 r s)
    | none => .next (moveCar c slot (get s (F.CMOT_CMD_DIR c)) (cmotResult c 0 0 s))

/-- CAROUSEL_STOP (R246): decelerate at ACC to rest; it replaces a pending reversal. -/
def execCarouselStop (c : Nat) (s : State) : Out :=
  if carInst s c = false then .next s
  else
    let st := cmotSt s c
    if st = 0 ∨ st = 6 then .next (cmotResult c 1 2 s)
    else
      let s1 := put (F.CMOT_STATUS_REVERSAL_PENDING c) 0 (updCrs c (fun x => { x with reverse := none, homing := false }) (cmotResult c 1 0 s))
      .next (if st = 1 ∨ st = 3 then put (F.CMOT_STATUS_STATE c) 4 s1 else s1)

/-- Homing starts (R244): forward at 2 rpm. -/
def startHome (c : Nat) (s : State) : State :=
  putAll [(F.CMOT_STATUS_STATE c, 1), (F.CMOT_CMD_STATUS_BUSY c, 1)]
    (updCrs c (fun x => { x with homing := true, edgePos := none, homeFrom := carPos s c }) s)

/-- CAROUSEL_HOME (R244, R246, R247): forward at 2 rpm to the home edge; it replaces a pending reversal, and then waits like it. -/
def execCarouselHome (c : Nat) (s : State) : Out :=
  if carInst s c = false then .next s
  else if isSet s (F.CMOT_STATUS_REVERSAL_PENDING c) then
    .next (updCrs c (fun x => { x with reverse := some (2, 0, 1) }) (put (F.CMOT_CMD_STATUS_BUSY c) 1 (cmotResult c 2 0 s)))
  else if cmotSt s c ≠ 2 then .next (cmotResult c 2 2 s)
  else .next (startHome c (cmotResult c 2 0 s))

/-- CAROUSEL_RELEASE (R252): the inverter off at rest. -/
def execCarouselRelease (c : Nat) (s : State) : Out :=
  if carInst s c = false then .next s
  else if cmotSt s c ≠ 2 ∧ cmotSt s c ≠ 0 then .next (cmotResult c 3 2 s)
  else .next (carouselOff c 0 (cmotResult c 3 0 s))

/-- CAROUSEL_CMD_REFUSED (R252): another OP, or DIR 3, is refused; with result 2, as a spindle's reserved OP. -/
def execCarouselCmdRefused (c op dir : Nat) (s : State) : Out :=
  if carInst s c = false ∨ (op % 8 < 4 ∧ dir % 4 ≠ 3) then .next s else .next (cmotResult c (op % 8) 2 s)

/-- HOME_EDGE (R244, R263): the rising edge of input 0 while homing, at the position its K28.3 code came at, kept once the debounced level
confirms it: that position is HOME_OFS from then on. -/
def execHomeEdge (c : Nat) (s : State) : Out :=
  match (crsOf s c).edgePos with
  | none => .next s
  | some e =>
    if carInst s c = false ∨ cmotSt s c ≠ 1 ∨ bitOf (busOf s (32 + c)).deb 0 = 0 then .next s
    else
      let d := getI s (F.CMOT_HOME_OFS c) - e
      .next (putI (F.CMOT_POS c) (carPos s c + d) (putAll [(F.CMOT_STATUS_HOMED c, 1), (F.CMOT_STATUS_STATE c, 4), (F.CMOT_CMD_STATUS_BUSY c, 0)]
        (updCrs c (fun x => { x with homing := false, edgePos := none, encOfs := x.encOfs + d, profPos := x.profPos + d * profScale }) s)))

/-- HOME_FAIL (R244): no edge within 1.1 revolutions. -/
def execHomeFail (c : Nat) (s : State) : Out :=
  if carInst s c = false ∨ cmotSt s c ≠ 1 ∨ 10 * (carPos s c - (crsOf s c).homeFrom) < (11 * get s (F.CMOT_ENC_COUNTS c) : Nat) then .next s
  else .next (raise (evCMOT c) B.CMOT_EVT_HOME_FAIL (carouselOff c 6 s))

/-- The slot a position lies at. -/
def slotAt (s : State) (c : Nat) : Nat :=
  let n := get s (F.CMOT_ENC_COUNTS c)
  let w := n / 288
  if w = 0 then 0 else (((carPos s c + (w / 2 : Nat)) % (n : Int)).toNat / w) % 288

/-- MOVE_DONE (R245, R246): the profile ends in HOLD; a STOP ends there too, without the event. -/
def execMoveDone (c : Nat) (s : State) : Out :=
  let st := cmotSt s c
  let x := crsOf s c
  if carInst s c = false ∨ (st ≠ 3 ∧ st ≠ 4) ∨ isSet s (F.CMOT_STATUS_REVERSAL_PENDING c) = true ∨ x.profV ≠ 0
      ∨ (st = 3 ∧ x.profPos ≠ x.target * profScale) then .next s
  else if st = 4 then
    .next (putAll [(F.CMOT_STATUS_STATE c, 2), (F.CMOT_STATUS_SLOT c, slotAt s c), (F.CMOT_CMD_STATUS_BUSY c, 0)] s)
  else .next (raise (evCMOT c) B.CMOT_EVT_MOVE_DONE (bump (F.CMOT_MOVES c) 1
    (putAll [(F.CMOT_STATUS_STATE c, 2), (F.CMOT_STATUS_SLOT c, (crsOf s c).slot), (F.CMOT_CMD_STATUS_BUSY c, 0)] s)))

/-- FOLLOW_ERR (R245): a deviation from the profile of more than 2,000 counts. -/
def execFollowErr (c : Nat) (s : State) : Out :=
  if carInst s c = false ∨ (carPos s c * profScale - (crsOf s c).profPos).natAbs ≤ 2000 * profScale.natAbs ∨ (cmotSt s c ≠ 3 ∧ cmotSt s c ≠ 4 ∧ cmotSt s c ≠ 1) then .next s
  else .next (raise (evCMOT c) B.CMOT_EVT_FOLLOW_ERR (carouselOff c 6 s))

/-- REVERSAL_START (R246): below 0.5 rpm for 10 periods the pending move starts. -/
def execReversalStart (c : Nat) (s : State) : Out :=
  match (crsOf s c).reverse with
  | none => .next s
  | some (op, slot, dir) =>
    if carInst s c = false ∨ (crsOf s c).restRun < 10 ∨ (crsOf s c).profV ≠ 0 then .next s
    else if op = 2 then .next (startHome c (put (F.CMOT_STATUS_REVERSAL_PENDING c) 0 (updCrs c (fun x => { x with reverse := none }) s)))
    else .next (putAll [(F.CMOT_STATUS_REVERSAL_PENDING c, 0), (F.CMOT_STATUS_STATE c, 3), (F.CMOT_CMD_STATUS_BUSY c, 1)]
      (updCrs c (fun x => { x with reverse := none, target := moveTarget s c slot (goForward s c slot dir), slot := slot }) s))

/-- INTERLOCK (R247, R248): the debounced interlock input stops the carousel and drops a pending move. -/
def execInterlock (c : Nat) (s : State) : Out :=
  let st := cmotSt s c
  if carInst s c = false ∨ bitOf (busOf s (32 + c)).deb 1 = 0 ∨ st = 0 ∨ st = 5 ∨ st = 6 then .next s
  else .next (raise (evCMOT c) B.CMOT_EVT_INTERLOCK
    (putAll [(F.CMOT_STATUS_STATE c, 5), (F.CMOT_STATUS_REVERSAL_PENDING c, 0), (F.CMOT_CMD_STATUS_BUSY c, 0)]
      (updCrs c (fun x => { x with reverse := none, homing := false }) s)))

/-- INTERLOCK_CLEAR (R247): the input has cleared; HOLD until the next command. -/
def execInterlockClear (c : Nat) (s : State) : Out :=
  if carInst s c = false ∨ cmotSt s c ≠ 5 ∨ bitOf (busOf s (32 + c)).deb 1 = 1 then .next s
  else .next (put (F.CMOT_STATUS_SLOT c) (slotAt s c) (put (F.CMOT_STATUS_STATE c) 2 s))

/-- CMOT_CLR_CNT (R252). -/
def execCmotClrCnt (c : Nat) (s : State) : Out :=
  if carInst s c = false then .next s
  else .next (clearAll [F.CMOT_MOVES c, F.CMOT_BUS_EVENTS_CHOP c, F.CMOT_BUS_EVENTS_OV c, F.CMOT_BUS_PEAK c] s)

end Sys2Proof.Machine
end

