-- ==== Sys2Proof/Machine/Parity.lean ====
section
/-! DEFINITION. The parity engine's arithmetic: P and Q, reconstruction and its checks; the pages in use; the states of the rebuild
contexts (R313 to R318, R338). -/

namespace Sys2Proof.Machine

/-- Multiplication by g = 2 and multiplication in GF(2^8) of polynomial 0x11d (R313). -/
def gfDouble (a : Nat) : Nat := if a < 128 then 2 * a else (2 * a % 256) ^^^ 0x1d
def gfMulN : Nat → Nat → Nat → Nat
  | 0, _, _ => 0
  | n + 1, a, b => (if b % 2 = 1 then a else 0) ^^^ gfMulN n (gfDouble a) (b / 2)
def gfMul (a b : Nat) : Nat := gfMulN 8 (a % 256) b

/-- g^n, and the inverse a^254. -/
def gfPow : Nat → Nat
  | 0 => 1
  | n + 1 => gfDouble (gfPow n)
def gfInv (a : Nat) : Nat :=
  let a2 := gfMul a a
  let a3 := gfMul a2 a
  let a6 := gfMul a3 a3
  let a7 := gfMul a6 a
  let a14 := gfMul a7 a7
  let a15 := gfMul a14 a
  let a30 := gfMul a15 a15
  let a31 := gfMul a30 a
  let a62 := gfMul a31 a31
  let a63 := gfMul a62 a
  let a126 := gfMul a63 a63
  let a127 := gfMul a126 a
  gfMul a127 a127

/-- P and Q over the data bytes of one column, data slot 0 first (R313). -/
def synP : List Nat → Nat
  | [] => 0
  | d :: ds => d ^^^ synP ds
def synQ : Nat → List Nat → Nat
  | _, [] => 0
  | i, d :: ds => gfMul (gfPow i) d ^^^ synQ (i + 1) ds

/-- One column reconstructed (R317): the data bytes with 0 at the lost slots, P and Q, the lost slots, and whether P and Q
are present; the answer is the data bytes with the lost slots filled. -/
def reconColumn (ds : List Nat) (p q : Nat) (lost : List Nat) (pOk : Bool) : List Nat :=
  let a := p ^^^ synP ds
  let b := q ^^^ synQ 0 ds
  match lost with
  | [x] => if pOk then ds.set x a else ds.set x (gfMul (gfInv (gfPow x)) b)
  | [x, y] =>
    let dx := gfMul (gfInv (gfPow x ^^^ gfPow y)) (gfMul (gfPow y) a ^^^ b)
    (ds.set x dx).set y (a ^^^ dx)
  | _ => ds

/-- The codeword that carries a payload byte (R41). -/
def cwOf (o : Nat) : Nat := o / 3712

/-- The payload of a member as it was read, zeros where the read gave none. -/
def readOf (reads : List (Nat × List Nat)) (m : Nat) : List Nat := ((reads.find? fun x => x.1 = m).map Prod.snd).getD []

/-- The erasures of a row at a codeword index (R316). -/
def erasedAt (erased : List (Nat × Nat)) (c : Nat) : List Nat := (erased.filter fun e => e.2 = c).map Prod.fst

/-- One payload byte of every data slot of a row, reconstructed where its codeword is erased (R314, R317). -/
def columnAt (w r : Nat) (reads : List (Nat × List Nat)) (erased : List (Nat × Nat)) (o : Nat) : List Nat :=
  let er := erasedAt erased (cwOf o)
  let byte (m : Nat) : Nat := if m ∈ er then 0 else (readOf reads m).getD o 0
  let ds := (List.range (w - 2)).map fun d => byte (dataMember w r d)
  let lost := (List.range (w - 2)).filter fun d => decide (dataMember w r d ∈ er)
  reconColumn ds (byte (pMember w r)) (byte (qMember w r)) lost (decide (pMember w r ∉ er))

/-- One byte of a member's reconstructed payload within bytes 256 to 33,279 (R314, R317). -/
def reconByte (w r m : Nat) (reads : List (Nat × List Nat)) (erased : List (Nat × Nat)) (o : Nat) : Nat :=
  let ds := columnAt w r reads erased o
  if m = pMember w r then synP ds
  else if m = qMember w r then synQ 0 ds
  else match slotOfMember w r m with
    | some d => ds.getD d 0
    | none => 0

/-- The first member of a row whose codeword 0 was read. -/
def commonMember (w : Nat) (reads : List (Nat × List Nat)) (erased : List (Nat × Nat)) (tgt : Nat) : Nat :=
  ((List.range w).find? fun m => m ≠ tgt ∧ (m, 0) ∉ erased ∧ (reads.any fun x => x.1 = m)).getD tgt

/-- The SECT_TYPE a member carries in a row (R45). -/
def sectType (w r m : Nat) : Nat := if m = pMember w r then 2 else if m = qMember w r then 3 else 1

/-- SELF_ADDR, HOME_ADDR and FLAGS bit 0 of a common part (R45), as the write formatter sets them (R155, R324). -/
def setAddrs (com : List Nat) (self home : Nat) : List Nat :=
  com.take 3 ++ [com.getD 3 0 / 2 * 2 + (if self = home then 0 else 1)] ++ bytesLE 4 self ++ bytesLE 4 home ++ com.drop 12

/-- A member's common part: its own where its codeword 0 was read, else that of a readable member with what R46 names of its own. -/
def reconCommon (w r m self home : Nat) (reads : List (Nat × List Nat)) (erased : List (Nat × Nat)) : List Nat :=
  if (m, 0) ∉ erased then (readOf reads m).take 256
  else
    let com := (readOf reads (commonMember w reads erased m)).take 256
    setAddrs (((com.set 0 (sectType w r m)).set 1 0).set 0x28 m) self home

/-- The payload of a member rebuilt from the survivors of its row, as it stands at an address: the common part, bytes 256 to 33,279 by R317,
and a CRC-64 computed afresh (R314). -/
def reconPayload (w r m self home : Nat) (reads : List (Nat × List Nat)) (erased : List (Nat × Nat)) : List Nat :=
  sealPayload (reconCommon w r m self home reads erased ++ (List.range 33024).map fun i => reconByte w r m reads erased (256 + i))

/-- The codeword indexes at which a member needs reconstruction. -/
def erasedOf (erased : List (Nat × Nat)) (m : Nat) : List Nat := (erased.filter fun e => e.1 = m).map Prod.snd

/-- The syndrome that R317 did not use agrees at every erased index of a member (R318, second check). -/
def syndromeCheck (w r m : Nat) (reads : List (Nat × List Nat)) (erased : List (Nat × Nat)) : Bool :=
  (List.range 33024).all fun i =>
    let o := 256 + i
    if cwOf o ∈ erasedOf erased m then
      let ds := columnAt w r reads erased o
      (decide (m = pMember w r) || decide ((readOf reads (pMember w r)).getD o 0 = synP ds))
        && (decide (m = qMember w r) || decide ((readOf reads (qMember w r)).getD o 0 = synQ 0 ds))
    else true

/-- MEMBER_CRC agrees with the member parts, and the back-pointers name what the map places there (R318, third check). -/
def memberCheck (s : State) (hd w r m : Nat) (reads : List (Nat × List Nat)) (erased : List (Nat × Nat)) : Bool :=
  let pay (x : Nat) : List Nat := if erasedOf erased x = [] then readOf reads x else reconPayload w r x 0 0 reads erased
  let datas := (List.range w).filter fun x => decide (x ≠ pMember w r) && decide (x ≠ qMember w r)
  let parts := (datas.map fun x => ((pay x).drop 256).take 256).flatten
  let com := (readOf reads (commonMember w reads erased m)).take 256
  let crcOk := decide (ofBytesLE ((com.drop 0x50).take 8) = crc64 parts)
  let ptrOk := match slotOfMember w r m with
    | none => true
    | some d => (List.range 8).all fun j =>
        let p := ((pay m).drop (0x100 + 16 * j)).take 16
        let flags := ofBytesLE ((p.drop 12).take 2)
        let nsid := ofBytesLE (p.take 4)
        let lba := ofBytesLE ((p.drop 4).take 8)
        decide (flags % 2 = 0) ||
          ((blocksOfSet s hd).all fun x => decide (x.2.2 ≠ lbkOf w r d j) || decide (nsOfGrain s x.1 x.2.1 = (nsid, lba)))
  crcOk && ptrOk

/-- The CRC-64 check of R318, which applies when codeword 8 of the target converged. -/
def crcCheck (w r m self home : Nat) (reads : List (Nat × List Nat)) (erased : List (Nat × Nat)) : Bool :=
  if (m, 8) ∈ erased then true
  else decide (ofBytesLE (((readOf reads m).drop 33280).take 8) = crc64 ((reconPayload w r m self home reads erased).take 33280))

/-- Every check of R318 that applies to the reconstruction of member m of row r. -/
def reconChecks (s : State) (hd w r m self home : Nat) (reads : List (Nat × List Nat)) (erased : List (Nat × Nat)) : Bool :=
  crcCheck w r m self home reads erased
    && (if (erasedOf erased m).all (fun c => (erasedAt erased c).length = 1) then syndromeCheck w r m reads erased else true)
    && (if m = pMember w r ∨ m = qMember w r then true else memberCheck s hd w r m reads erased)

/-- The consolidation slot of a domain, its highest (R294). -/
def consSlot (s : State) (dom : Nat) : Nat := get s (F.ARB_AR_CFG_OPEN_MAX dom) - 1

/-- The states of a rebuild context (R338). -/
def Rb.idle : Nat := 0
def Rb.waitSpare : Nat := 1
def Rb.mount : Nat := 2
def Rb.run : Nat := 3
def Rb.joint : Nat := 4
def Rb.wrap : Nat := 5
def Rb.done : Nat := 6
def Rb.evacuate : Nat := 7

def rbState (s : State) (i : Nat) : Nat := get s (F.PAR_RB_STATUS_STATE i)
def rbBusy (s : State) (i : Nat) : Bool := decide (1 ≤ rbState s i) && decide (rbState s i ≠ Rb.done)
def rbFree (s : State) (i : Nat) : Bool :=
  decide (rbState s i = Rb.done) || (decide (rbState s i = Rb.idle) && decide (get s (F.PAR_RB_SET i) = 0xffff))
def rbActive (s : State) : Nat := ((List.range 16).filter (rbBusy s)).length
def rbInDomain (s : State) (dom : Nat) : Nat :=
  ((List.range 16).filter fun i => rbBusy s i && decide (get s (F.PAR_RB_STATUS_DOMAIN i) = dom)).length

/-- The live blocks of a set against CONS_LIVE (R305, R326). -/
def liveBelow (s : State) (hd : Nat) : Bool :=
  let d := getSet s hd
  decide (256 * d.live < get s F.ARB_CONS_CONS_LIVE * (d.nextOrd * rowBlocks d.width))

/-- PAR.STATUS and the REBUILD bits of the arbours follow the contexts. -/
def parStatus (s : State) : State :=
  let s1 := putAll [(F.PAR_STATUS_RB, rbActive s),
    (F.PAR_STATUS_RS, ((List.range 4).filter fun j => decide (get s (F.PAR_RS_STATUS_STATE j) = 1)).length)] s
  forAll (arbsOf s) (fun a u => putB (F.ARB_AR_STATUS_REBUILD a)
    ((List.range 16).any fun i => rbBusy s i && below s a (get s (F.PAR_RB_STATUS_DOMAIN i))) u) s1

end Sys2Proof.Machine
end

