-- ==== Sys2Proof/Machine/Schedule.lean ====
section
/-! DEFINITION. The mount scheduler's view of the work: what each command, session, context and consolidation needs of which disc, in the
order of R296, what the buffer holds of it, and the expected latency that follows (R296 to R299, R302, R316, R319). -/

namespace Sys2Proof.Machine

/-! ### What is known of a sector -/

/-- The sector of a disc block: library slot, ordinal and byte offset of the block in the payload (R45, R281). -/
def memberOfLbk (d : DiscSet) (l : Nat) : Nat := dataMember d.width (l / rowBlocks d.width) (l % rowBlocks d.width / 8)
def sectorOf (s : State) (hd l : Nat) : Nat × Nat × Nat :=
  let d := getSet s hd
  (d.members.getD (memberOfLbk d l) 0, l / rowBlocks d.width, 512 + 4096 * (l % 8))

/-- The clean sector of a disc's ordinal, and of a disc block. -/
def cleanAt (s : State) (disc ord : Nat) : Option CleanSector := s.par.clean.find? fun c => decide (c.disc = disc) && decide (c.ord = ord)
def findClean (s : State) (hd l : Nat) : Option CleanSector := cleanAt s (sectorOf s hd l).1 (sectorOf s hd l).2.1

/-- The nine codewords of a sector, none where one is unavailable; none at all while the sector has not been read (R316). -/
def sectorWords (s : State) (disc ord : Nat) : Option (List (Option (List Nat))) :=
  match cleanAt s disc ord with
  | some c => some ((List.range 9).map fun i => some ((c.payload.drop (3712 * i)).take 3712))
  | none =>
    match (partSectors s).find? fun x => decide (x.disc = disc) && decide (x.ord = ord) with
    | none => none
    | some x => some ((List.range 9).map fun i => if bitOf x.mask i = 1 then none else some (x.words.getD i []))

/-- The codewords of a member in a row: a failed member has none (R316). -/
def memberWords (s : State) (hd o m : Nat) : Option (List (Option (List Nat))) :=
  if m ∈ (getSet s hd).failed then some (List.replicate 9 none) else sectorWords s ((getSet s hd).members.getD m 0) o

/-- Every member of a row has been read or is known to be unavailable. -/
def rowKnown (s : State) (hd o : Nat) : Bool := (List.range (getSet s hd).width).all fun m => (memberWords s hd o m).isSome

/-- The erasures of a row (R316), with those that failed checks add (R318) as members beyond its width. -/
def rowErased (s : State) (hd o : Nat) : List (Nat × Nat) :=
  let w := (getSet s hd).width
  ((List.range w).flatMap fun m => (List.range 9).filterMap fun c =>
    if (((memberWords s hd o m).getD []).getD c none).isNone then some (m, c) else none)
    ++ (s.par.doubt.filter fun x => decide (x.1 = hd) && decide (x.2.1 = o)).zipIdx.map fun p => (w + p.2, p.1.2.2)

/-- The payloads of a row's members as they were read, zeros for an unavailable codeword. -/
def rowReads (s : State) (hd o : Nat) : List (Nat × List Nat) :=
  ((List.range (getSet s hd).width).filter fun m => decide (m ∉ (getSet s hd).failed)).map fun m =>
    (m, ((memberWords s hd o m).getD []).flatMap fun w => w.getD (List.replicate 3712 0))

/-! ### What the work needs -/

/-- One sector that work needs: the priority of R296, its place within the priority (the acceptance stamp, or 2^64 plus the issue number of
internal work), the disc and the ordinal. -/
structure Need where
  prio : Nat
  key  : Nat
  disc : Nat
  ord  : Nat
  deriving DecidableEq, Repr

/-- Internal work comes after the commands of its priority (DESIGN CHOICE, log entry 81). -/
def issued (n : Nat) : Nat := 2 ^ 64 + n

/-- The sectors needed for a member's sector of a row: itself, or its row's other readable members where it is failed or incomplete (R319). -/
def sectorNeeds (s : State) (prio key hd o m : Nat) : List Need :=
  let d := getSet s hd
  let x := d.members.getD m 0
  if (cleanAt s x o).isNone && (decide (m ∈ d.unread) || (partSectors s).any fun y => decide (y.disc = x) && decide (y.ord = o)) then
    ((List.range d.width).filter fun k => decide (k ≠ m) && decide (k ∉ d.failed)).map fun k => ⟨prio, key, d.members.getD k 0, o⟩
  else [⟨prio, key, x, o⟩]

/-- The priority of a class's reads (R296). -/
def classPrio (cls : Nat) : Nat := if cls ≤ 1 then 2 else if cls = 2 then 4 else 8

/-- The needs of the reading commands that have resolved, and of the staged blocks (R296, R411). -/
def blockNeeds (s : State) (prio key : Nat) (e : MapEntry) : List Need :=
  match e with
  | .disc hd l => sectorNeeds s prio key hd (l / rowBlocks (getSet s hd).width) (memberOfLbk (getSet s hd) l)
  | _ => []
def readNeeds (s : State) : List Need :=
  (s.host.cmds.filter fun c => decide (c.phase = .transfer)).flatMap fun c =>
    c.resolved.flatMap fun r => blockNeeds s (classPrio c.cls) c.stamp r.2
def recallNeeds (s : State) : List Need := s.host.staged.flatMap fun x => blockNeeds s 4 x.stamp (.disc x.set x.lbk)

/-- The discs that an import identifies one after the other (R413). -/
def importNeeds (s : State) : List Need := s.host.importQ.zipIdx.map fun p => ⟨4, issued p.2, p.1, 0⟩

/-- The ordinals of a set whose slot groups are complete and not yet written by every member's head (R285, R298). -/
def unwritten (d : DiscSet) : List Nat :=
  (d.rows.filter fun r => decide (64 * (r.ord / 64) + 64 ≤ d.nextOrd) && decide (r.taken.length < d.width)).map Row.ord

/-- The write sessions that are due need every member (R295, R298); those of the consolidation slot are consolidation writes. -/
def sessionNeeds (s : State) : List Need :=
  (s.lib.sets.filter fun p => decide (p.2.st ≠ 0) && (p.2.due || p.2.session)).flatMap fun p =>
    p.2.members.map fun x => ⟨if p.2.slot = consSlot s p.2.domain then 6 else 3, issued p.2.dueAt, x, (unwritten p.2).headD p.2.nextOrd⟩

/-- The rows that a context has rebuilt in the present second, against its floor in rows (R325). -/
def rbFloorLeft (s : State) (i : Nat) : Bool :=
  let n := if now s < mapGet (fun _ => 0) s.par.rateAt i + 156250000 then mapGet (fun _ => 0) s.par.rateRows i else 0
  decide (32768 * n < 1000000 * get s F.PAR_RB_CFG_RB_FLOOR)
def rbPrio (s : State) (i : Nat) : Nat := if rbFloorLeft s i then 1 else 5

/-- The ordinal behind the last one of a context's phase (R324, R327), and the slot group at its cursor. -/
def rbSecond (s : State) (i : Nat) : Bool := isSet s (F.PAR_RB_STATUS_MEMBER2_VALID i)
def rbLast (s : State) (i : Nat) : Nat :=
  if rbState s i = Rb.wrap then max (mapGet (fun _ => 0) s.par.start1 i) (if rbSecond s i then get s (F.PAR_RB_START2 i) else 0)
  else get s (F.PAR_RB_END i)
def rbGroup (s : State) (i : Nat) : List Nat :=
  let cur := get s (F.PAR_RB_CURSOR i)
  let next := min (64 * (cur / 64) + 64) (rbLast s i)
  (List.range (next - cur)).map (cur + ·)

/-- The rows of a group that were recorded: damaged rows, and padding never written, are not (R324). -/
def recordedRows (s : State) (hd : Nat) (l : List Nat) : List Nat :=
  l.filter fun o => decide (o ∈ (getSet s hd).durable) && decide (o ∉ (getSet s hd).holes)

/-- The spares of a context that are still being written. -/
def rbSpares (s : State) (i : Nat) : List Nat :=
  let d := getSet s (get s (F.PAR_RB_SET i))
  (if get s (F.PAR_RB_STATUS_MEMBER1 i) ∈ d.failed ∧ get s (F.PAR_RB_SPARES_1 i) ≠ 0x7ff then [get s (F.PAR_RB_SPARES_1 i)] else [])
    ++ (if rbSecond s i ∧ get s (F.PAR_RB_STATUS_MEMBER2 i) ∈ d.failed ∧ get s (F.PAR_RB_SPARES_2 i) ≠ 0x7ff then [get s (F.PAR_RB_SPARES_2 i)] else [])

/-- The members of a set that a rebuild reads: those that are still readable. -/
def readable (s : State) (hd : Nat) : List Nat :=
  let d := getSet s hd
  (((List.range d.width).filter fun m => decide (m ∉ d.unread)).map fun m => d.members.getD m 0)

/-- A context that mounts, runs or wraps. -/
def rbRunning (s : State) (i : Nat) : Bool := decide (Rb.mount ≤ rbState s i) && decide (rbState s i ≤ Rb.wrap)

/-- A rebuild reads every readable member at the rows of its slot group, and has its spares mounted (R324, R329). -/
def rebuildNeeds (s : State) : List Need :=
  ((List.range 16).filter fun i => rbRunning s i && isSet s F.PAR_CTRL_EN).flatMap fun i =>
    let hd := get s (F.PAR_RB_SET i)
    let key := issued (mapGet (fun _ => 0) s.par.begun i)
    let rows := if i ∈ s.par.probing then rbGroup s i else recordedRows s hd (rbGroup s i)
    (readable s hd).flatMap (fun x => (get s (F.PAR_RB_CURSOR i) :: recordedRows s hd (rbGroup s i)).map fun o => ⟨rbPrio s i, key, x, o⟩)
      ++ (rbSpares s i).flatMap fun x => (get s (F.PAR_RB_CURSOR i) :: rows).map fun o => ⟨rbPrio s i, key, x, o⟩

/-- What a rebuild has read of a row stays until the row's chunk is verified, for the case that the chunk is lost (R169). -/
def outNeeds (s : State) : List Need :=
  s.par.out.flatMap fun x => (readable s x.set).map fun y => ⟨5, 2 ^ 65, y, x.ord⟩

/-- The live blocks of a set that have not been copied yet, in ascending LBK (R305); of a lost set, those on members that are not failed and
whose codewords can be read (R320). -/
def blockLost (s : State) (hd l : Nat) : Bool :=
  let d := getSet s hd
  d.lost && (decide (memberOfLbk d l ∈ d.failed) || match sectorWords s (sectorOf s hd l).1 (sectorOf s hd l).2.1 with
    | none => false
    | some ws => (List.range 9).any fun c => decide (512 + 4096 * (l % 8) ≤ 3712 * c + 3711) && decide (3712 * c ≤ 4607 + 4096 * (l % 8))
        && (ws.getD c none).isNone)
def toCopy (s : State) (hd : Nat) : List (Nat × Nat × Nat) :=
  ((blocksOfSet s hd).filter fun x => decide ((getSet s hd).copied ≤ x.2.2) && !blockLost s hd x.2.2).mergeSort fun a b => decide (a.2.2 ≤ b.2.2)

/-- The context that evacuates a set (R326). -/
def evacuating (s : State) (hd : Nat) : Option Nat :=
  (List.range 16).find? fun i => decide (get s (F.PAR_RB_SET i) = hd) && decide (rbState s i = Rb.evacuate)

/-- Consolidation, evacuation and salvage read the live blocks of the source slot group that comes next (R297, R305, R320, R326). -/
def copyNeeds (s : State) : List Need :=
  ((s.lib.sets.filter fun p => p.2.consol || p.2.lost).map Prod.fst).flatMap fun hd =>
    let d := getSet s hd
    let prio := match evacuating s hd with | some i => rbPrio s i | none => 6
    match toCopy s hd with
    | [] => []
    | x :: xs =>
      ((x :: xs).filter fun y => decide (y.2.2 / rowBlocks d.width / 64 = x.2.2 / rowBlocks d.width / 64)).flatMap fun y =>
        blockNeeds s prio (issued d.consAt) (.disc hd y.2.2)

/-- The live blocks of a reshape's slot group at its cursor (R333). -/
def rsBlocks (s : State) (j : Nat) : List (Nat × Nat × Nat) :=
  let hd := get s (F.PAR_RS_SET j)
  let d := getSet s hd
  let cur := get s (F.PAR_RS_CURSOR j)
  ((blocksOfSet s hd).filter fun x => decide (cur ≤ x.2.2 / rowBlocks d.width) && decide (x.2.2 / rowBlocks d.width < 64 * (cur / 64) + 64)).mergeSort
    fun a b => decide (a.2.2 ≤ b.2.2)
def reshapeNeeds (s : State) : List Need :=
  ((List.range 4).filter fun j => decide (get s (F.PAR_RS_STATUS_STATE j) = 1) && isSet s F.PAR_CTRL_EN).flatMap fun j =>
    (rsBlocks s j).flatMap fun y =>
      blockNeeds s 6 (issued (getSet s (get s (F.PAR_RS_SET j))).consAt) (.disc (get s (F.PAR_RS_SET j)) y.2.2)

/-- Everything that is needed of the discs. Scrub (priority 7) reads no disc: the manual gives a disc scrub no source (log entry 81). -/
def needs (s : State) : List Need :=
  readNeeds s ++ recallNeeds s ++ importNeeds s ++ sessionNeeds s ++ rebuildNeeds s ++ outNeeds s ++ copyNeeds s ++ reshapeNeeds s

/-- A need that is still open: its sector has not been read. A write session's and an import's stay open until they end. -/
def openNeed (s : State) (n : Need) : Bool := (sectorWords s n.disc n.ord).isNone
def openOn (s : State) (d : Nat) : List Need := (needs s).filter fun n => decide (n.disc = d) && openNeed s n

/-- The order in which a leaf's work is served (R296). -/
def Need.before (a b : Need) : Bool := decide (a.prio < b.prio) || (decide (a.prio = b.prio) && decide (a.key < b.key))
def firstNeed (l : List Need) : Option Need :=
  l.foldl (fun m n => match m with
    | none => some n
    | some x => if n.before x then some n else some x) none

/-- A disc stands in a bay, or is on its way to or out of one. -/
def inBay (s : State) (d : Nat) : Bool := s.lib.mounts.any fun p => decide (p.2.phase ≠ 0) && decide (p.2.disc = d)

/-- The work of a leaf whose discs are not in a bay, and the work that is served next (R296). -/
def waitingOn (s : State) (l : Nat) : List Need :=
  (needs s).filter fun n => openNeed s n && decide (leafOfDisc s n.disc = l) && !inBay s n.disc
def frontOf (s : State) (l : Nat) : Option Need := firstNeed (waitingOn s l)

/-- Whether a disc carries the work that its leaf serves next. -/
def isFront (s : State) (d : Nat) : Bool :=
  match frontOf s (leafOfDisc s d) with
  | none => false
  | some f => (waitingOn s (leafOfDisc s d)).any fun n => decide (n.disc = d) && decide (n.prio = f.prio) && decide (n.key = f.key)

/-- The best priority of the open work on a disc, none where it has none (R297). -/
def discPrio (s : State) (d : Nat) : Option Nat := ((openOn s d).map Need.prio).min?

/-- The band at which a disc's work begins (R271, R297): its lowest ordinal, or the record area where it has none. -/
def firstBandOf (s : State) (d : Nat) : Nat :=
  match ((openOn s d).map Need.ord).min? with
  | none => 4
  | some o => addrBand (ordAddr firstDataBand o)

/-- A clean sector that something still needs (R382, R412). -/
def stillNeeded (s : State) (c : CleanSector) : Bool := (needs s).any fun n => decide (n.disc = c.disc) && decide (n.ord = c.ord)

/-- Clean sectors that nothing needs any more leave the buffer. -/
def dropClean (p : CleanSector → Bool) (s : State) : State :=
  forgetClean (fun c => p c && !stillNeeded s c) s

/-! ### Who asks for a sector -/

/-- The requesters of a sector by the numbers of the tablature's traffic-class policy (R146, R484): host classes 0 to 3, 4 Recall, 6 consolidation
and reshaping, 7 rebuild, 8 the degraded read of another member's sector. -/
def requesters (s : State) (d o : Nat) : List Nat :=
  let at' (l : List Need) : Bool := l.any fun n => decide (n.disc = d) && decide (n.ord = o)
  let own (e : MapEntry) : Bool := match e with
    | .disc hd l => decide ((sectorOf s hd l).1 = d) && decide ((sectorOf s hd l).2.1 = o)
    | _ => false
  let host (c : Nat) : List MapEntry := (s.host.cmds.filter fun x => decide (x.phase = .transfer) && decide (x.cls = c)).flatMap fun x => x.resolved.map Prod.snd
  let kept := s.host.staged.map fun x => MapEntry.disc x.set x.lbk
  ((List.range 4).filter fun c => (host c).any own) ++ (if kept.any own then [4] else [])
    ++ (if at' (copyNeeds s ++ reshapeNeeds s) then [6] else []) ++ (if at' (rebuildNeeds s ++ outNeeds s) then [7] else [])
    ++ (if (((List.range 4).flatMap host) ++ kept).any (fun e => !own e && at' (blockNeeds s 0 0 e)) then [8] else [])

/-! ### The expected latency -/

/-- The time of a carousel move between two slots in µs (R245): θ / 120 + 0.25 s from 30° on, the triangle of 480 °/s² below. -/
def carTime (a b : Nat) : Nat :=
  let n := (a % 288 + 288 - b % 288) % 288
  let k := min n (288 - n)
  if 24 ≤ k then k * 1250000 / 120 + 250000 else rootQuot (k * 5000000000000) 480

/-- The µs of a mount behind a carousel move (R271), and of a revolution at 9,600 rpm, which reads a band (R30). -/
def mountTail : Nat := 1800000 + 2500000 + 400000
def turnTime : Nat := 6250

/-- The time of work on a leaf in µs: each disc that is not mounted at its mount, each band at a revolution (R299). -/
def workTime (s : State) (l : Nat) (ns : List Need) : Nat :=
  let discs := (ns.map Need.disc).dedup.filter fun d => !inBay s d
  let mounts := discs.foldl (fun (a : Nat × Nat) d => (d % 288, a.2 + carTime a.1 (d % 288) + mountTail)) (get s (F.CMOT_STATUS_SLOT (leafCar s l)), 0)
  let bands := (ns.map fun n => (n.disc, n.ord / 12977472, addrBand (ordAddr firstDataBand n.ord))).dedup
  mounts.2 + turnTime * bands.length

/-- The expected latency of a need in µs (R299): the open work ahead of it on its leaf, its own mount, a seek, its transfer. It is a function of
the state, so that it follows every change of the queue. -/
def needLatency (s : State) (n : Need) : Nat :=
  let l := leafOfDisc s n.disc
  let ahead := (needs s).filter fun x => openNeed s x && decide (leafOfDisc s x.disc = l)
    && (x.before n || (decide (x.prio = n.prio) && decide (x.key = n.key) && decide (x.ord < n.ord)))
  let seek := match bayOfDisc s n.disc with
    | none => 0
    | some b => Config.seekTime (get s (F.SV_POS_BAND (2 * b))) (addrBand (ordAddr firstDataBand n.ord))
  workTime s l (ahead ++ [n]) + seek

/-- The expected latency of a disc-bound command in ms: that of the last of its blocks (R299, R392, R411). -/
def commandLatency (s : State) (c : Cmd) : Nat :=
  let ns := (c.resolved.flatMap fun r => blockNeeds s (classPrio c.cls) c.stamp r.2).filter (openNeed s)
  (ns.map fun n => needLatency s n / 1000).foldl max 0

/-- The largest expected latency of the disc-bound commands pending, in ms (R408). -/
def pendingLatency (s : State) : Nat := (s.host.cmds.map (commandLatency s)).foldl max 0

end Sys2Proof.Machine
end

