-- ==== Sys2Proof/Machine/Seek.lean ====
section
/-! DEFINITION. The moves of a head, shared by its commands, its corrections and the retry ladder: radial moves, layer jumps, band
holds, and the coil setpoints that the SV block gives while no cell does (R143, R180, R187 to R191, R195, R197). -/

namespace Sys2Proof.Machine

/-- The command under way completes with result 0 (R198, R200): seeks and jumps are counted and timed. -/
def svDone (h : Nat) (s : State) : State :=
  if get s (F.SV_CMD_STATUS_BUSY h) = 0 then s
  else
    let us := min 65535 ((now s - (servoOf s h).cmdAt) * 64 / 10000)
    let s1 := raise (evSV h) B.SV_EVT_SEEK_DONE (svResult h 0 s)
    if (servoOf s h).cmdOp ≤ 2 then
      bump (F.SV_SEEKS h) 1 (peak (F.SV_SEEK_TIME_MAX h) us (put (F.SV_SEEK_TIME_LAST h) us s1))
    else s1

/-- A state entered by a move; during a defect hold it waits for the hold's end (R197). -/
def goState (h st : Nat) (s : State) : State :=
  if get s (F.SV_STATUS_STATE h) = 8 then updServo h (fun v => { v with heldFrom := st }) s else svState h st s

/-- How a move of Δ bands runs (R187): 1 a jump, 2 a fine seek, 3 a coarse seek. -/
def moveMode (s : State) (h : Nat) (d : Int) : Nat :=
  if d.natAbs ≤ 16 then 1 else if d.natAbs ≤ get s (F.SV_SEEK_FINE_MAX h) then 2 else 3

/-- The radial move of R187 starts: a jump, a fine seek, or a coarse seek. The sled goes to the target radius less the lens offset, which
is its own position moved by Δ bands of 3.63 µm, since the spot stands at the sled's position plus the lens offset. -/
def startRadial (h : Nat) (s : State) : State :=
  let v := servoOf s h
  let d : Int := (v.target.getD (0, 0)).1 - get s (F.SV_POS_BAND h)
  let mode := moveMode s h d
  let s1 := goState h 6 (updServo h (fun v =>
    { v with remain := d, total := d, mode := mode, landed := decide (d = 0), landAt := tick s }) s)
  let b := bayOf h
  let ax := h % 2
  if mode = 3 then
    axMoveTo b ax (getI s (F.MOV_AX_POS b ax) + roundQuot (d * 3630 * get s (F.MOV_AX_SCALE_STEPS b ax)) 1000000) s1
  else s1

/-- A layer jump starts (R178, R191): from SEEK, with the cells held where they stand. -/
def startJump (h layer : Nat) (s : State) : State :=
  goState h 7 (goState h 6 (updServo h (fun v => { v with jumpTo := layer, cross := 0, brakeAt := none, base := v.coils }) s))

/-- A seek to the intended band and layer starts (R107, R119, R187, R191): the head channel is told, and a layer that differs
is jumped to first. The 50 ms of R187 run from the first seek of a command. -/
def startSeek (h band layer : Nat) (s : State) : State :=
  let s1 := updServo h (fun v =>
    { v with target := some (band, layer), landed := false, mode := 0, remain := 0,
             seekAt := if v.seeking then v.seekAt else tick s, seeking := true })
    (abandonSlots h (fun _ => true) (clearConfirm h s))
  if layer ≠ get s (F.SV_POS_LAYER h) then startJump h layer s1 else startRadial h s1

/-- A seek ends without landing (R187): TRACKING at the present position, with result 1. -/
def seekFailed (h : Nat) (s : State) : State :=
  svState h 4 (raise (evSV h) B.SV_EVT_SEEK_FAIL (bump (F.SV_SEEK_FAIL h) 1
    (updServo h (fun v => { v with target := none, landed := false, mode := 0, remain := 0, entering := false, seeking := false, corr := 0 })
      (svResult h 1 s))))

/-- A command written to SV.CMD (R199), and a refusal with result 2 (R197). -/
def writeSvCmd (h op band layer : Nat) (s : State) : State :=
  putAll [(F.SV_CMD_BAND h, band), (F.SV_CMD_LAYER h, layer), (F.SV_CMD_OP h, op)] s
def svRefuse (h op : Nat) (s : State) : State := putAll [(F.SV_CMD_STATUS_OP h, op), (F.SV_CMD_STATUS_RESULT h, 2)] s

/-- A command begins; one under way reports result 3 and what it wrote there is replaced (R197, R198). -/
def svBegin (h op : Nat) (s : State) : State :=
  putAll [(F.SV_CMD_STATUS_BUSY h, 1), (F.SV_CMD_STATUS_OP h, op), (F.SV_CMD_STATUS_RESULT h, 0)]
    (updServo h (fun v => { v with cmdAt := now s, corr := 0, cmdOp := op, seeking := false }) (svResult h 3 s))

/-- The move of a SEEK (0), HOLD_BAND (1) or ENTER (2) begins (R187 to R190): ENTER lands one band before its target. -/
def beginMove (h op band layer : Nat) (slots : List Nat) (s : State) : State :=
  let dest := if op = 2 then band - 1 else band
  let s1 := put (F.SV_STATUS_BAND_HOLD h) (if op = 1 then 1 else 0) (updServo h (fun v =>
    { v with hold := if op = 1 then some (band, slots) else none, entering := decide (op = 2), altSeam := false, deferred := none }) s)
  if op = 1 ∧ get s (F.SV_STATUS_STATE h) = 5 ∧ get s (F.SV_POS_BAND h) = band ∧ get s (F.SV_POS_LAYER h) = layer then
    svDone h (updServo h (fun v => { v with target := some (band, layer) }) s1)
  else startSeek h dest layer s1

/-- The retry ladder's band hold, a HOLD_BAND command of the channel (R143, R189); a servo that runs no move refuses it. -/
def ladderHold (h band layer : Nat) (slots : List Nat) (s : State) : State :=
  let st := get s (F.SV_STATUS_STATE h)
  if 4 ≤ st ∧ st ≤ 8 ∧ (servoOf s h).hold ≠ some (band, slots) then
    if (servoOf s h).hold.isSome = true ∧ (servoOf s h).target = some (band, layer) then updServo h (fun v => { v with hold := some (band, slots) }) s
    else beginMove h 1 band layer slots (svBegin h 1 s)
  else s

/-- The ladder's band hold ends (R143, R189). -/
def ladderFollow (h : Nat) (s : State) : State :=
  put (F.SV_STATUS_BAND_HOLD h) 0 (updServo h (fun v => { v with hold := none }) s)

/-! ### The setpoints of the SV block's own sequences -/

/-- A coil of a head is driven to a setpoint (R192): a tracking setpoint gives the lens offset in 1/16 µm. -/
def setCoil (h q : Nat) (x : Int) (s : State) : State :=
  let s1 := updServo h (fun v => { v with coils := v.coils.set q x }) s
  if q = 1 then putI (F.SV_LENS h) (clampInt (-32768) 32767 (roundQuot (x * (16 * get s (F.SV_SENS_TRACK h) : Nat)) 256000)) s1
  else s1

/-- A setpoint that ramps linearly from `a` to `z` over T units of 0.1 ms, `t` ticks after its start (R195). -/
def rampAt (a z : Int) (T t : Nat) : Int :=
  let den := 16000000 * T
  if den ≤ 390625 * t then z else a + roundQuot ((z - a) * (390625 * t : Nat)) den

/-- The focus setpoint of a sweep (R180): from the park value toward the disc at SWEEP_RATE, in counts through SENS. -/
def sweepCoil (s : State) (h : Nat) : Int :=
  let sens := get s (F.SV_SENS_FOCUS h)
  if sens = 0 then Config.parkValue
  else Config.parkValue + roundQuot ((servoOf s h).sweepPos * (125 * get s (F.SV_PULLIN_SWEEP_RATE h) : Nat)) (2 * sens)

/-- The commanded speed of a fine seek in µm/s (R187): min(SEEK_VMAX, √(2 × SEEK_ACC × remaining distance)). -/
def seekSpeed (s : State) (h : Nat) : Nat :=
  min (10000 * get s (F.SV_SEEK_SEEK_VMAX h)) (rootQuot (72600000 * get s (F.SV_SEEK_SEEK_ACC h) * (servoOf s h).remain.natAbs) 1)

/-- The tracking setpoint of a radial move (R187): kick over the first half of the bands and brake over the second at JUMP_ACC; velocity
control in a fine seek; the lens centred in a coarse one. -/
def moveCoil (s : State) (h : Nat) : Int :=
  let v := servoOf s h
  if v.mode = 1 then
    Config.accelCoil (v.total.sign * (if v.total.natAbs < 2 * v.remain.natAbs then 1 else -1) * (get s (F.SV_JUMP_JUMP_ACC h) : Nat))
  else if v.mode = 2 then Config.speedCoil (v.remain.sign * (seekSpeed s h : Nat)) (v.coils.getD 1 0)
  else 0

/-- A pulse of LJ_KICK runs for LJ_KICK_T, `t` ticks after its start (R191). -/
def kickRuns (s : State) (h t : Nat) : Bool := decide (390625 * t < 160000 * get s (F.SV_JUMP_LJ_KICK_T h))

/-- The focus setpoint of a layer jump (R191): the kick in the jump's direction, then the mirror pulse. -/
def jumpCoil (s : State) (h : Nat) : Int :=
  let v := servoOf s h
  let dir : Int := if get s (F.SV_POS_LAYER h) < v.jumpTo then 1 else -1
  let kick := dir * roundQuot ((get s (F.SV_JUMP_LJ_KICK h) * 32767 : Nat)) 256
  let k := if kickRuns s h (tick s - v.since) then kick else 0
  let b := match v.brakeAt with | none => 0 | some a => if kickRuns s h (tick s - a) then -kick else 0
  clampInt (-32767) 32767 (v.base.getD 0 0 + k + b)

/-- The tracking setpoint while tracking is open for the lens range (R193): the lens keeps its place over the disc as the sled moves under it
(log entry 70). -/
def rangeCoil (s : State) (h : Nat) : Int :=
  let v := servoOf s h
  let b := bayOf h
  let moved := axPos s b (h % 2) - v.sledFrom
  let den := get s (F.MOV_AX_SCALE_STEPS b (h % 2)) * get s (F.SV_SENS_TRACK h)
  if den = 0 then v.coils.getD 1 0 else clampInt (-32767) 32767 (v.base.getD 1 0 - roundQuot (moved * 256000000) den)

/-- The setpoints of focus, tracking and tilt that the SV block gives itself: a sweep, a radial move before its landing, a layer jump,
a retract; a tilt loop that is not enabled is held at 0 (R180, R187, R191, R195, R199). -/
def ownCoils (s : State) (h : Nat) : List (Option Int) :=
  let v := servoOf s h
  let st := get s (F.SV_STATUS_STATE h)
  let t := tick s - v.since
  let flat : Option Int := if get s (F.SV_CTRL_TILT_EN h) = 0 then some 0 else none
  if st = 2 then [some (clampInt (-32767) 32767 (sweepCoil s h)), none, flat]
  else if st = 6 ∧ v.landed = false ∧ v.mode ≠ 0 then [none, some (clampInt (-32767) 32767 (moveCoil s h)), flat]
  else if st = 7 then [some (jumpCoil s h), none, flat]
  else if st = 9 then
    [some (rampAt (v.base.getD 0 0) Config.parkValue (get s (F.SV_RETRACT_T_FOCUS h)) t),
     some (rampAt (v.base.getD 1 0) 0 (get s (F.SV_RETRACT_T_TRACK h)) t),
     some (rampAt (v.base.getD 2 0) 0 (get s (F.SV_RETRACT_T_TRACK h)) t)]
  else if st = 3 ∧ v.openRange = true then [none, some (rangeCoil s h), flat]
  else [none, none, flat]

end Sys2Proof.Machine
end

