-- ==== Sys2Proof/Machine/Signal.lean ====
section
/-! DEFINITION. The signal processing of a data beam as pure functions: equalizer, dropout flag and erasures, joint detection, LLRs,
and the layered min-sum decoder (R125 to R134). Values of a beam come as one number per channel bit, none where the resampler
output is erased (R104), in 1/16,384 of the normalised amplitude. -/

namespace Sys2Proof.Machine

/-! ### Resampler (R100, R101, R104) -/

/-- The resampler's outputs, one per channel bit, `step` being the channel bit's length in 1/65,536 sample period: an output is erased
where any of its four input samples is. -/
def interpolate : List (Option Int) → Nat → Option Int
  | some a :: some b :: some c :: some d :: _, frac => some (Config.farrow a b c d frac)
  | _, _ => none
def resample (step : Nat) : Nat → Nat → List (Option Int) → List (Option Int)
  | 0, _, _ => []
  | n + 1, pos, l =>
    let l1 := l.drop (pos / 65536)
    interpolate l1 (pos % 65536) :: resample step n (pos % 65536 + step) l1

/-- The channel bits of a codeword with 48 bits on either side. -/
def windowBits : Nat := 34912

/-! ### Equalizer (R125, R126) -/

/-- The taps (15) and the target (3) of an equalizer set of a fret, Q2.14, from the tablature's fret table (R125, R484). -/
def s16At (img : List Nat) (o : Nat) : Int := toSigned 16 (imgNat img o 2)
def eqSetOf (img : List Nat) (fret set : Nat) : List Int × List Int :=
  let t := (imgSection img 3).drop (224 * fret + 16 + 36 * (set % 2))
  ((List.range 15).map fun i => s16At t (2 * i), (List.range 3).map fun i => s16At t (30 + 2 * i))

/-- The product sum of two lists. -/
def dot : List Int → List Int → Int
  | a :: as, b :: bs => a * b + dot as bs
  | _, _ => 0

/-- The 15-tap filter over values spaced at one channel bit, its centre tap on the bit (scale 2^28); an erased input counts 0, and
the output at an erased bit is none. -/
def firGo (taps : List Int) : List Int → List (Option Int) → List (Option Int)
  | _, [] => []
  | [], _ :: _ => []
  | w :: ws, y :: ys => (y.map fun _ => dot taps (w :: ws)) :: firGo taps ws ys
def fir (taps : List Int) (ys : List (Option Int)) : List (Option Int) :=
  let pad : List Int := List.replicate 7 0
  firGo taps (pad ++ ys.map (·.getD 0) ++ pad) ys

/-- A decided bit as +1 for a mark and −1 for a space. -/
def pm (b : Bool) : Int := if b then 1 else -1

/-- The target convolved with decided bits, bits before the codeword counting 0. -/
def convTarget (g : List Int) : Int → Int → List Bool → List Int
  | _, _, [] => []
  | x1, x2, b :: bs => dot g [pm b, x1, x2] :: convTarget g (pm b) x1 bs

/-- The errors of the equalizer output (scale 2^28) against the target convolved with decisions; none on erased bits (R125). -/
def eqErrors (out : List (Option Int)) (g : List Int) (dec : List Bool) : List (Option Int) :=
  (out.zip (convTarget g 0 0 dec)).map fun p => p.1.map fun v => v - 16384 * p.2

/-- The mean squared error over non-erased bits in 1/65,536 of the target energy (R126). -/
def eqMse (errs : List (Option Int)) (g : List Int) : Nat :=
  let es := errs.filterMap id
  let energy := (dot g g).toNat * 2 ^ 28
  if es = [] ∨ energy = 0 then 0 else (roundQuot (65536 * (es.map fun e => e * e).sum) (es.length * energy)).toNat

/-- The least-mean-squares step of the taps over a codeword, none on erased bits, step MU/65,536 (R125); taps stay in 16 bits.
The steps of a codeword are applied together at its end (DEDUCED, log entry 68). -/
def lmsGo : List Int → List (Option Int) → List Int → List Int
  | _ :: ws, e :: es, acc =>
    match e with
    | none => lmsGo ws es acc
    | some v => lmsGo ws es ((acc.zip (ws.take 15)).map fun p => p.1 + v * p.2)
  | _, _, acc => acc
def lmsStep (mu : Nat) (taps : List Int) (ys errs : List (Option Int)) : List Int :=
  let pad : List Int := List.replicate 7 0
  let grad := lmsGo (0 :: (pad ++ ys.map (·.getD 0) ++ pad)) errs (List.replicate 15 0)
  (taps.zip grad).map fun p => clampInt (-32768) 32767 (p.1 - roundQuot (mu * p.2) (65536 * 2 ^ 28))

/-! ### Dropout flag and erasures (R130, R131) -/

/-- A beam's dropout detector: the magnitudes of the last 32 channel bits (newest first), the bits in a row outside and inside the
range, the flag. -/
structure DropCfg where
  lo : Nat
  hi : Nat
  setLen : Nat
  clrLen : Nat
  ext : Nat
  deriving DecidableEq, Repr

/-- One channel bit: the envelope E against LO × A / 256 and HI × A / 128; an erased bit leaves the envelope as it is. -/
def dropStep (c : DropCfg) (ref : Nat) (d : Dropout) (y : Option Int) : Dropout :=
  let hist := match y with | none => d.hist | some v => (v.natAbs :: d.hist).take 32
  let e := hist.sum
  let n := hist.length
  let out := decide (256 * e < c.lo * ref * n) || decide (c.hi * ref * n < 128 * e)
  let outRun := if out then d.outRun + 1 else 0
  let inRun := if out then 0 else d.inRun + 1
  ⟨hist, outRun, inRun, if d.flag then decide (inRun < max 1 c.clrLen) else decide (max 1 c.setLen ≤ outRun)⟩
def dropRun (c : DropCfg) (ref : Nat) : Dropout → List (Option Int) → List Bool × Dropout
  | d, [] => ([], d)
  | d, y :: ys =>
    let d1 := dropStep c ref d y
    let r := dropRun c ref d1 ys
    (d1.flag :: r.1, r.2)

/-- The marks reach `ext` bits beyond each flagged run, after its end (one pass) and before its start (the same pass over the
reversed list). -/
def stretch (ext : Nat) : Nat → List Bool → List Bool
  | _, [] => []
  | n, b :: bs => if b then true :: stretch ext ext bs else decide (0 < n) :: stretch ext (n - 1) bs
def erasureMarks (ext : Nat) (flags : List Bool) : List Bool :=
  let after := stretch ext 0 flags
  let before := (stretch ext 0 flags.reverse).reverse
  (after.zip before).map fun p => p.1 || p.2

/-- Values with the erased bits taken out. -/
def maskErased (marks : List Bool) (ys : List (Option Int)) : List (Option Int) :=
  (ys.zip marks).map fun p => if p.2 then none else p.1

/-! ### Joint detection (R127 to R129) -/

/-- The wobble of a servo turn at a channel bit of a band (R30, R31, R129): the waveform at the bit's phase, inverted where the address
bit that the turn carries there is 1. -/
def addressBit (u : AddrUnit) (period : Nat) : Nat := bitOf (unitWord { u with unit := period / 256 % 512 }) (63 - period % 256 / 4)
def wobbleAt (u : AddrUnit) (mid : List Nat) (fret pos : Nat) : Int :=
  let bpw := bitsPerWobble64 fret
  let period := 64 * pos / bpw
  let unit := period / 256 % 512
  let w := Config.wobbleWave (64 * pos % bpw * 2 ^ 32 / bpw)
  if addressBit { u with mid := if unit < 16 then mid.getD unit 0 else 0 } period = 1 then -w else w

/-- The terms of one neighbour subtracted from equalized values: coefficient and soft estimate in Q1.15 (scale 2^30). -/
def cancel (a : Int) (est : List Int) (z : List (Option Int)) : List (Option Int) :=
  match est with
  | [] => z
  | _ => (z.zip (est ++ List.replicate (z.length - est.length) 0)).map fun p => p.1.map fun v => v - a * p.2

/-- The detector's LLRs, 0 where erased (R127, R132), the soft estimates they give and the hard decisions. -/
def mapDetect (g : List Int) (z : List (Option Int)) : List Int :=
  z.zipIdx.map fun p => match p.1 with | none => 0 | some _ => Config.mapLlr g z p.2
def softOf (l : List Int) : List Int := l.map fun x => clampInt (-32768) 32768 (Config.softBit x)
def hardOf (l : List Int) : List Bool := l.map fun x => decide (0 < x)

/-- The final-pass errors against the target and a neighbour's decisions correlated over a codeword, with a step of 1/256, added to
a coefficient and limited to ±0.5 in Q1.15 (R127). -/
def adaptCoef (a : Int) (errs : List (Option Int)) (dec : List Bool) : Int :=
  let ps := (errs.zip dec).filterMap fun p => p.1.map fun e => e * pm p.2
  clampInt (-16384) 16384 (if ps = [] then a else a + roundQuot ps.sum (256 * ps.length * 32768))

/-! ### LLRs for the decoder (R132) -/

/-- The code-bit values of 17 channel bits, and whether each code bit is erased: d[8] is the difference of channel bits 8 and 9. -/
def demodWord (l : List Int) : List Int := l.take 7 ++ [l.getD 7 0 - l.getD 8 0] ++ (l.drop 9).take 8
def demodulate : Nat → List Int → List Int
  | 0, _ => []
  | n + 1, l => demodWord (l.take 17) ++ demodulate n (l.drop 17)
def erasedWord (l : List Bool) : Nat :=
  (((l.take 7) ++ [l.getD 7 false && l.getD 8 false] ++ (l.drop 9).take 8).filter id).length
def erasedCount : Nat → List Bool → Nat
  | 0, _ => 0
  | n + 1, l => erasedWord (l.take 17) + erasedCount n (l.drop 17)

/-- The sign of descrambling along a codeword: a value whose scrambler output is 1 is negated (R43). -/
def descramble : Nat → List Int → List Int
  | _, [] => []
  | v, x :: xs => (if scrOut v = 1 then -x else x) :: descramble (scrNext v) xs

/-- Scaling by LLR_SCALE / 64, rounded, saturated to ±15. -/
def scaleLlr (scale : Nat) (x : Int) : Int := clampInt (-15) 15 (nearQuot (x * scale) 64)

/-- The decoder's input from channel-bit LLRs that begin 48 bits before the codeword, under a frame hypothesis of δ bits. -/
def decoderInput (addr c scale : Nat) (δ : Int) (l : List Int) : List Int :=
  (descramble (scrAt addr c) (demodulate 2048 (l.drop (48 + δ).toNat))).map (scaleLlr scale)

/-! ### Layered normalized min-sum (R133, R134) -/

/-- What a check row has seen of its bits: the two least magnitudes, the block column of the least, the parity of the signs. A
positive value stands for bit 1, so a check is satisfied where an even number of its bits is positive. -/
structure CheckAcc where
  min1 : Nat := 2 ^ 16
  min2 : Nat := 2 ^ 16
  at1  : Nat := 64
  odd  : Bool := false
  deriving DecidableEq, Repr

def CheckAcc.see (j : Nat) (a : CheckAcc) (q : Int) : CheckAcc :=
  let m := q.natAbs
  let odd := a.odd != decide (0 < q)
  if m < a.min1 then ⟨m, a.min1, j, odd⟩ else if m < a.min2 then { a with min2 := m, odd := odd } else { a with odd := odd }

/-- The message of a check to one of its bits: the least magnitude of the others, scaled by ALPHA / 16, 8 bits wide; the bit is
told the value that makes the check even. -/
def checkMsg (alpha j : Nat) (a : CheckAcc) (q : Int) : Int :=
  let m := if a.at1 = j then a.min2 else a.min1
  let v := clampInt 0 127 (roundQuot (m * alpha : Nat) 16)
  if a.odd != decide (0 < q) then v else -v

/-- A layer's accumulators over its blocks, each seen in row order. -/
def seeAll (j : Nat) : List CheckAcc → List Int → List CheckAcc
  | a :: as, q :: qs => a.see j q :: seeAll j as qs
  | _, _ => []

/-- The values a layer's rows see of a block without their own last messages. -/
def subAll : List Int → List Int → List Int
  | a :: as, b :: bs => (a - b) :: subAll as bs
  | as, [] => as
  | [], _ => []

/-- One layer (R133): block row i over the bits' values and the layer's last messages, by block column. -/
def layerStep (alpha i : Nat) (bs : List (List Int)) (msgs : Map (List Int)) : List (List Int) × Map (List Int) :=
  let row := ldpcRow i
  let qs := row.map fun p => (p, subAll (rotBy p.2 (bs.getD p.1 [])) (mapGet (fun _ => []) msgs p.1))
  let acc := qs.foldl (fun a e => seeAll e.1.1 a e.2) (List.replicate ((bs.getD 0 []).length) {})
  qs.foldl (fun st e =>
    let m := (acc.zip e.2).map fun p => checkMsg alpha e.1.1 p.1 p.2
    (st.1.set e.1.1 (unrotBy e.1.2 ((e.2.zip m).map fun p => p.1 + p.2)), mapPut st.2 e.1.1 m)) (bs, msgs)

/-- One iteration: the six layers in order. -/
def iterStep (alpha : Nat) (st : List (List Int) × List (Map (List Int))) : List (List Int) × List (Map (List Int)) :=
  (List.range 6).foldl (fun t i =>
    let r := layerStep alpha i t.1 (t.2.getD i [])
    (r.1, t.2.set i r.2)) st

/-- What an attempt comes to: the iterations it ran, whether it converged, the bits it decided. -/
structure Decoded where
  iters : Nat
  ok    : Bool
  bits  : List Bool
  deriving DecidableEq, Repr

/-- An attempt from its present values: at most `fuel` more iterations; it stops when every check is satisfied, or when the number of
unsatisfied checks has not fallen for STALL iterations in a row (R133). -/
def runAttempt (alpha stall : Nat) : Nat → Nat → Nat → Nat → List (List Int) × List (Map (List Int)) → Decoded
  | 0, n, _, _, st => ⟨n, false, (st.1.map hardOf).flatten⟩
  | fuel + 1, n, prev, run, st =>
    let st1 := iterStep alpha st
    let bits := (st1.1.map hardOf).flatten
    let bad := unsatisfied bits
    if bad = 0 then ⟨n + 1, true, bits⟩
    else
      let run1 := if bad < prev then 0 else run + 1
      if stall ≠ 0 ∧ stall ≤ run1 then ⟨n + 1, false, bits⟩
      else runAttempt alpha stall fuel (n + 1) bad run1 st1

/-- An attempt on the code of R42 from its input values, its iteration limit and the configuration: nothing else bears on it (R134). -/
def minSum (alpha stall limit : Nat) (llr : List Int) : Decoded :=
  let bs := blocksOf 64 llr
  runAttempt alpha stall limit 0 (unsatisfied ((bs.map hardOf).flatten)) 0 (bs, List.replicate 6 [])

/-- The payload bytes of a converged attempt: information bits 0 to 29,695 (R41, R134). -/
def payloadOf (bits : List Bool) : List Nat := bytesOfBits 3712 bits

end Sys2Proof.Machine
end

