-- ==== Sys2Proof/Machine/Acquire.lean ====
section
/-! DEFINITION. The read channel's sampling, timing and framing (R99 to R123): the wobble PLL's states, seams, slots, marks and
codeword release, and the sample rate at fret crossings. Address units stand with the servo. -/

namespace Sys2Proof.Machine

/-- The wobble PLL enters a state (R105, R119): LOCKED sets its event; HOLD and LOST are counted and mark the open slots; LOST
clears the address confirmation. -/
def wpllEnter (h st : Nat) (s : State) : State :=
  let s1 := put (F.CH_STATUS_WPLL_STATE h) st s
  let s2 := if st = 2 then raise (evCH h) B.CH_EVT_WPLL_LOCK s1
    else if st = 3 then bump (F.CH_WPLL_HOLD h) 1 (updChan h (fun c => { c with slots := c.slots.map fun o => { o with held := true } }) s1)
    else if st = 4 then
      clearConfirm h (raise (evCH h) B.CH_EVT_WPLL_LOST (bump (F.CH_WPLL_LOST h) 1
        (updChan h (fun c => { c with slots := c.slots.map fun o => { o with lost := true } }) s1)))
    else s1
  permits h s2

def wpllSt (s : State) (h : Nat) : Nat := get s (F.CH_STATUS_WPLL_STATE h)

/-- The nominal wobble frequency for CTRL.SPEED in 1/65,536 Hz (R30, R105): 20.97152 MHz, or half of it. -/
def nominalNco (s : State) (h : Nat) : Nat := 20971520 * 65536 / (1 + get s (F.CH_CTRL_SPEED h) % 2)

/-- A wobble amplitude, in 1/4,096 of converter full scale, at or above AMP_MIN (R105). -/
def ampOk (s : State) (h a : Nat) : Bool := decide (inForce s (F.CH_WPLL_CFG_AMP_MIN h) ≤ a)

/-- WPLL_ACQUIRE (R105): the NCO starts at nominal frequency once EN is set, or from LOST in the first period in which either servo
beam's amplitude is at or above AMP_MIN; the phase is not known until an address unit is accepted. -/
def execWpllAcquire (h a0 a1 : Nat) (s : State) : Out :=
  if headInst s h = false ∨ get s (F.CH_CTRL_EN h) = 0 ∨ (wpllSt s h ≠ 0 ∧ (wpllSt s h ≠ 4 ∨ (ampOk s h a0 || ampOk s h a1) = false)) then
    .next s
  else .next (wpllEnter h 1 (updChan h (fun c => { c with nco := nominalNco s h, phiOk := false }) s))

/-- WPLL_LOCK (R105): 256 wobble periods with an RMS phase error, in 1/65,536 period, below 1/32 period. -/
def execWpllLock (h rms : Nat) (s : State) : Out :=
  if headInst s h = false ∨ wpllSt s h ≠ 1 ∨ 2048 ≤ rms then .next s else .next (wpllEnter h 2 s)

/-- WPLL_HOLD (R105): both amplitudes fall below AMP_MIN; the NCO keeps its frequency. -/
def execWpllHold (h a0 a1 : Nat) (s : State) : Out :=
  if headInst s h = false ∨ wpllSt s h ≠ 2 ∨ ampOk s h a0 = true ∨ ampOk s h a1 = true then .next s else .next (wpllEnter h 3 s)

/-- WPLL_HOLD_RETURN (R105): an amplitude returns with a phase error below 1/8 period; with a larger one the PLL is lost. -/
def execWpllHoldReturn (h a0 a1 err : Nat) (s : State) : Out :=
  if headInst s h = false ∨ wpllSt s h ≠ 3 ∨ (ampOk s h a0 || ampOk s h a1) = false then .next s
  else .next (wpllEnter h (if err < 8192 then 2 else 4) s)

/-- WPLL_LOST (R105, R107): 8,192 periods in ACQUIRE without lock, an RMS error above 1/8 period over 256 periods in LOCKED, or
HOLD_MAX periods in HOLD. -/
def execWpllLost (h periods rms : Nat) (s : State) : Out :=
  let st := wpllSt s h
  let due := (decide (st = 1) && decide (8192 ≤ periods)) || (decide (st = 2) && decide (8192 < rms))
    || (decide (st = 3) && decide (16 * inForce s (F.CH_WPLL_CFG_HOLD_MAX h) ≤ periods))
  if headInst s h = false ∨ due = false then .next s else .next (wpllEnter h 4 s)

/-- The band of the extent that a write session records or verifies follows the seams (R152, R172). -/
def extentSeam (h n : Nat) (s : State) : State :=
  let w := writeOf s h
  let st := get s (F.WRP_STATUS_STATE h)
  if st = 2 ∧ n < w.first + w.bands then put (F.WRP_STATUS_BAND h) n (put (F.WRP_STATUS_REMAIN h) (w.first + w.bands - n) s)
  else if st = 3 ∧ w.first ≤ n ∧ n < w.first + w.bands then put (F.WRP_STATUS_BAND h) n s
  else s

/-- The servo at S0's seam (R187, R190): its intended band follows the spiral; an ENTER that landed less than 200 µs before this seam
goes back one band and so crosses the next one. A radial move in flight keeps its target, so one band fewer remains outward; one
whose last crossing is still to be closed lands on the band the seam brings (log entry 70). -/
def servoSeam (h b0 n : Nat) (s : State) : State :=
  let v := servoOf s h
  let st := get s (F.SV_STATUS_STATE h)
  match v.target with
  | none => s
  | some (b, l) =>
    if v.entering = true ∧ v.landed = true ∧ st = 6 then startSeek h b l s
    else if v.landed = true ∨ (v.mode = 0 ∧ (st = 5 ∨ st = 8)) ∨ (v.mode ≠ 0 ∧ v.remain = 0) then
      updServo h (fun v => { v with target := some (n, l) }) s
    else if v.mode ≠ 0 ∧ b0 < n then updServo h (fun v => { v with remain := v.remain - 1 }) s
    else s

/-- Channel microcode that waits for a seam switches there with the write gate closed: the slots numbered 0 of the band that begins stay
unopened and are marked for re-read (R506). -/
def microSeam (h n : Nat) (s : State) : State :=
  let go := (chanOf s h).newCode && !isSet s (F.WRP_STATUS_GATE h)
  let as := if go ∧ n < lastTurn then ((List.range 32).filter fun k => !beamHidden s h k).map fun k => physAddr (h % 2) (get s (F.SV_POS_LAYER h)) n k 0 else []
  updChan h (fun c => { c with
    newCode := c.newCode && !go
    skip0 := as
    reread := c.reread ++ as.filter fun a => decide (a ∉ c.reread) }) s

/-- SEAM (R29, R108, R125): a beam passes its seam and its band advances; at a fret boundary its taps reload. S0's band is the
position's, D0's fret the channel's. -/
def execSeam (h beam : Nat) (s : State) : Out :=
  if headInst s h = false ∨ 34 ≤ beam then .next s
  else
    let b := beamBand s h beam
    let n := min (if beam < 32 then 9640 else lastTurn) (b + 1)
    let s1 := updChan h (fun c =>
      { c with
        bands := mapPut c.bands beam n
        seen := c.seen.filter fun p => decide (addrTrack p.1 ≠ beam) || decide (addrBand p.1 = b)
        eqReload := if beam < 32 ∧ fretOf n ≠ fretOf b ∧ beam ∉ c.eqReload then beam :: c.eqReload else c.eqReload }) s
    let s2 := if beam = 0 then put (F.CH_FRET_FRET h) (fretOf n) s1 else s1
    .next (permits h (if beam = 32 then
      servoSeam h b n (put (F.CH_ADDR_BAND h) n (put (F.SV_POS_BAND h) n (extentSeam h n (microSeam h n s2)))) else s2))

/-- The physical address of a slot under a beam (R47). -/
def beamAddr (s : State) (h beam slot : Nat) : Nat := physAddr (h % 2) (get s (F.SV_POS_LAYER h)) (beamBand s h beam) beam slot

/-- The highest rung that the tablature's traffic-class policy gives a requester (R146, R484): host classes 0 to 3, 4 Recall, 5 scrub,
6 consolidation, 7 rebuild, 8 degraded reads of surviving members, 9 verify. -/
def policyRung (s : State) (cls : Nat) : Nat := imgNat (imgSection s.tab 4) cls 1

/-- A slot that a verify revolution reads (R165), and the highest rung of a slot's read (R146): that of the verify, the highest of its present
requesters', or scrub's where the slot lies on the head's way and nobody asks for it (log entry 81). -/
def verifySlot (s : State) (h addr : Nat) : Bool :=
  (decide (get s (F.WRP_STATUS_STATE h) = 3) || decide (get s (F.WRP_STATUS_STATE h) = 5)) && (writeOf s h).chunks.any fun c => decide (c.addr = addr)
def slotLimit (s : State) (h addr : Nat) : Nat :=
  if verifySlot s h addr then policyRung s 9
  else
    let rs := match discOfHead s h with
      | none => []
      | some d => match homeOrd s d addr with | none => [] | some o => requesters s d o
    if rs = [] then policyRung s 5 else (rs.map (policyRung s)).foldl max 0

/-- SLOT_OPEN (R109, R111, R117, R118, R146): at predicted bit 64 of its next slot, with read permit, the beam begins acquisition. A slot whose
ratio is too low is not opened and is read again. -/
def execSlotOpen (h beam : Nat) (s : State) : Out :=
  let f := fretOf (beamBand s h beam)
  let slot := nextSlot s h beam
  let addr := beamAddr s h beam slot
  let c := chanOf s h
  let verify := verifySlot s h addr
  let limit := slotLimit s h addr
  if headInst s h = false ∨ 32 ≤ beam ∨ lastTurn ≤ beamBand s h beam ∨ get s (F.HL_STATUS_STATE h) ≠ 5
      ∨ beamHidden s h beam = true ∨ c.phiOk = false ∨ addr ∈ c.skip0 ∨ c.slots.any (fun o => decide (o.beam = beam)) = true then .next s
  else if readPermitIn s h f = false then
    if ratioOk (get s (F.CH_FRET_N h)) f (get s (F.CH_CTRL_SPEED h)) then .next s
    else .next (updChan h (fun c => { c with reread := if addr ∈ c.reread ∨ verify = true then c.reread else c.reread ++ [addr] }) s)
  else
    let known := c.sectors.any fun x => decide (x.addr = addr) && decide (x.rung ≠ 7)
    .next (updLoop h beam (fun l => { l with mode := 1 })
      (takeForces [F.CH_ACQ_FAST_GAIN h, F.CH_ACQ_TRACK_GAIN h, F.CH_SYNC_SM_THR h, F.CH_SYNC_RM_THR h] (updChan h (fun c =>
      { c with
        slots := c.slots ++ [{ beam := beam, addr := addr, limit := limit, verify := verify }]
        reread := c.reread.filter (· ≠ addr)
        blanks := c.blanks.filter (· ≠ addr)
        seen := mapErase c.seen addr
        sectors := if known then c.sectors.map fun x => if x.addr = addr then { x with limit := max x.limit limit } else x
          else c.sectors.filter (fun x => decide (x.addr ≠ addr)) ++ [{ addr := addr, limit := limit, verify := verify, cws := List.replicate 9 {} }] }) s)))

/-- The gains a beam's timing loop applies (R109): none while it holds; FAST_GAIN with four times its frequency gain in acquisition;
TRACK_GAIN in tracking. -/
def loopGains (s : State) (h beam : Nat) : Nat × Nat :=
  let m := (loopOf s h beam).mode
  if m = 1 then (inForce s (F.CH_ACQ_FAST_GAIN h), 4 * inForce s (F.CH_ACQ_FAST_GAIN h))
  else if m = 2 then (inForce s (F.CH_ACQ_TRACK_GAIN h), inForce s (F.CH_ACQ_TRACK_GAIN h))
  else (0, 0)

/-- Where a beam's timing loop has come to: phase in 1/65,536 bit and trim in 1/1,000 ppm, within ±200 ppm; it is held while the
beam's dropout flag is set and while the loop holds (R109, R110). -/
def loopTo (h beam : Nat) (phase trim : Int) (s : State) : State :=
  if (dropOf s h beam).flag = true ∨ (loopOf s h beam).mode = 0 then s
  else updLoop h beam (fun l => { l with phase := phase, trim := clampInt (-200000) 200000 trim }) s

/-- The open slot of a beam, and a change of it. -/
def slotOf (s : State) (h beam : Nat) : Option OpenSlot := (chanOf s h).slots.find? fun o => decide (o.beam = beam)
def updSlot (h beam : Nat) (f : OpenSlot → OpenSlot) (s : State) : State :=
  updChan h (fun c => { c with slots := c.slots.map fun o => if o.beam = beam then f o else o }) s

/-- A sector in work, and a change of it. -/
def sectorAt (s : State) (h addr : Nat) : Option Sector := (chanOf s h).sectors.find? fun x => decide (x.addr = addr)
def updSector (h addr : Nat) (f : Sector → Sector) (s : State) : State :=
  updChan h (fun c => { c with sectors := c.sectors.map fun x => if x.addr = addr then f x else x }) s
def updCw (h addr i : Nat) (f : Codeword → Codeword) (s : State) : State :=
  updSector h addr (fun x => { x with cws := x.cws.zipIdx.map fun p => if p.2 = i then f p.1 else p.1 }) s

/-- SLOT_BLANK (R39, R111, R116): the envelope over bits 16 to 1,039 stays below BLANK_THR; the slot is reported Blank, which is no
error and never enters the ladder. -/
def execSlotBlank (h beam envelope : Nat) (s : State) : Out :=
  match slotOf s h beam with
  | none => .next s
  | some o =>
    if o.st ≠ 2 ∨ get s (F.CH_BLANK_THR h) ≤ envelope then .next s
    else .next (when o.verify (verifyFail h o.addr) (bump (F.CH_BLANK_SLOTS h) 1 (updLoop h beam (fun l => { l with mode := 0 }) (updChan h (fun c =>
      { c with
        slots := c.slots.filter fun x => decide (x.beam ≠ beam)
        blanks := c.blanks.filter (· ≠ o.addr) ++ [o.addr]
        sectors := c.sectors.filter fun x => decide (x.addr ≠ o.addr) || laddered x }) s))))

/-- Among candidates (offset, twice the Hamming distance, an erased decision counting one), the lowest distance at most the
threshold wins, the earliest on a tie (R112). -/
def markWinner (thr : Nat) (cands : List (Int × Nat)) : Option (Int × Nat) :=
  cands.foldl (fun best c =>
    if 2 * thr < c.2 then best
    else match best with
      | none => some c
      | some b => if c.2 < b.2 ∨ (c.2 = b.2 ∧ c.1 < b.1) then some c else some b) none

/-- The other matches within 1 of the winning distance (R112). -/
def markAlternates (thr : Nat) (w : Int × Nat) (cands : List (Int × Nat)) : List Int :=
  (cands.filter fun c => decide (c.1 ≠ w.1) && decide (c.2 ≤ 2 * thr) && decide (c.2 ≤ w.2 + 2)).map Prod.fst

/-- ACQUIRE ends at predicted bit 1,488: the framer searches for SM and the loop tracks (R109, R116). -/
def enterSearch (h beam : Nat) (s : State) : State :=
  updLoop h beam (fun l => { l with mode := 2 })
    (updSlot h beam (fun o => if o.st = 2 then { o with st := 3 } else o) s)

/-- SM_WINDOW_CLOSE (R112, R116, R119): over the slicer decisions of bits 1,488 to 1,679 the search over ±48 bits ends with a match
or in FLYWHEEL; inside a dropout, where every decision is erased, SM is not matched. -/
def execSmWindowClose (h beam : Nat) (phase trim : Int) (decs : List (Option Bool)) (s : State) : Out :=
  match slotOf s h beam with
  | none => .next s
  | some o =>
    if o.st ≠ 2 ∧ o.st ≠ 3 then .next s
    else
      let s1 := loopTo h beam phase trim (enterSearch h beam s)
      let thr := inForce s (F.CH_SYNC_SM_THR h)
      let cands := markScan smBits 48 decs
      match (if decs.all (fun d => d.isNone) then none else markWinner thr cands) with
      | some w => .next (updSlot h beam (fun o =>
          { o with st := 4, sm := true, smAt := w.1, base := w.1, frame := w.1, alts := markAlternates thr w cands }) s1)
      | none => .next (updSlot h beam (fun o => { o with st := 5, sm := false, smAt := 0, base := 0, frame := 0 }) s1)

/-- What R114 decides for codeword 0 from SM and the offsets δ1 and δ2 from the SM frame: its frame, its slip hypotheses,
whether an early or late sync is counted, and whether the sector is unframed. -/
def frameZero (sm : Bool) (at0 : Int) (d1 d2 : Option Int) : Int × List Int × Bool × Bool :=
  if sm then
    match d1, d2 with
    | some d, some e =>
      if d = 0 then (at0, [], false, false)
      else if e = d then (at0 + d, [], true, false)
      else if e = 0 then (at0, [d], false, false)
      else (at0, [d, e], false, false)
    | some d, none => if d = 0 then (at0, [], false, false) else (at0, [d], false, false)
    | none, some e => if e = 0 then (at0, [], false, false) else (at0, [e], false, false)
    | none, none => (at0, [], false, false)
  else
    match d1, d2 with
    | some d, _ => (at0 + d, [], false, false)
    | none, some e => (at0 + e, [], false, false)
    | none, none => (at0, [], false, true)

/-- CODEWORD_RELEASE (R115): codewords up to `n` leave the framer for detection; the sector takes what the framer recorded. -/
def releaseTo (h beam n : Nat) (s : State) : State :=
  match slotOf s h beam with
  | none => s
  | some o =>
    let hy (i : Nat) : List Int := (o.hyps.filter fun p => decide (p.1 = i)).map Prod.snd
    let s1 := updSector h o.addr (fun x =>
      { x with
        held := x.held || o.held
        lost := x.lost || o.lost
        alts := o.alts
        starts := o.starts
        unframed := o.unframed
        cws := x.cws.zipIdx.map fun p =>
          if o.released ≤ p.2 ∧ p.2 < n ∧ p.1.st = 0 then { p.1 with st := 1, hyps := hy p.2 } else p.1 }) s
    updChan h (fun c => { c with seen := mapPut c.seen o.addr (max o.released n) })
      (updSlot h beam (fun o => { o with released := max o.released n }) s1)

/-- BEAM_OFS_ADAPT (R108): 1/64 of the measured error, to the nearest 1/65,536 wobble period, ties away from zero. -/
def adaptOfs (h beam : Nat) (e : Int) (s : State) : State :=
  let f := fretOf (beamBand s h beam)
  putI (F.CH_BEAM_OFS h beam) (getI s (F.CH_BEAM_OFS h beam) + divRound (e * 65536) ((12 + f) * 155)) s

/-- RESYNC_MARK (R108, R109, R113 to R115): mark j is evaluated over the slicer decisions of its window; RM1 is searched within ±48
bits in the frame of SM or the prediction, RM2 to RM8 within ±8 bits in the frame that RM1 established. The frame is corrected from
the mark onward and the loop stepped by the correction; after RM2 the start of codeword 0 is decided; codewords are released
once the marks that could reframe them are seen. -/
def execResyncMark (h beam j : Nat) (phase trim : Int) (decs : List (Option Bool)) (s : State) : Out :=
  match slotOf s h beam with
  | none => .next s
  | some o =>
    if j < 1 ∨ 8 < j ∨ o.marks + 1 ≠ j ∨ (o.st ≠ 4 ∧ o.st ≠ 5 ∧ o.st ≠ 6) then .next s
    else
      let found := (markWinner (inForce s (F.CH_SYNC_RM_THR h)) (markScan rmBits (if j = 1 then 48 else 8) decs)).map Prod.fst
      let frame := match found with | none => o.frame | some x => o.base + x
      let d := frame - o.frame
      let s1 := match found with
        | none => bump (F.CH_RESYNC_MISS h) 1 s
        | some _ => if d = 0 then s else bump (F.CH_RESYNC_SLIP h) 1 s
      let s2 := updLoop h beam (fun l => { l with phase := l.phase + 65536 * d }) (loopTo h beam phase trim (updSlot h beam (fun o =>
        { o with
          st := 6, marks := j, frame := frame
          base := if j = 1 then frame else o.base
          d1 := if j = 1 then found else o.d1
          starts := if j = 1 then [o.frame, frame] else o.starts ++ [frame]
          hyps := if 2 ≤ j ∧ d ≠ 0 then o.hyps ++ [(j - 1, d)] else o.hyps }) s1))
      if j = 1 then
        .next (if o.sm = true ∧ found = some 0 ∧ isSet s (F.CH_CTRL_OFS_ADAPT h) = true ∧ wpllSt s h ≠ 3
          then adaptOfs h beam o.smAt s2 else s2)
      else if j = 2 then
        let r := frameZero o.sm o.smAt o.d1 (found.map fun x => o.d1.getD 0 + x)
        let s3 := updSlot h beam (fun o =>
          { o with hyps := o.hyps ++ r.2.1.map (fun x => (0, x)), unframed := r.2.2.2, starts := o.starts.set 0 r.1 }) s2
        let s4 := if r.2.2.1 then raise (evCH h) B.CH_EVT_SYNC_EARLY (bump (F.CH_SYNC_EARLY h) 1 s3) else s3
        let s5 := if o.sm then s4 else bump (F.CH_SYNC_MISS h) 1 s4
        .next (releaseTo h beam 2 s5)
      else .next (releaseTo h beam j s2)

/-- POSTAMBLE_END (R109, R115, R116): codeword 8 is released, the loop holds and the framer waits again. -/
def execPostambleEnd (h beam : Nat) (s : State) : Out :=
  match slotOf s h beam with
  | none => .next s
  | some o =>
    if o.marks < 8 then .next s
    else .next (updChan h (fun c => { c with slots := c.slots.filter fun x => decide (x.beam ≠ beam) })
      (updLoop h beam (fun l => { l with mode := 0 }) (releaseTo h beam 9 s)))

/-- The format the controller asks for with N_f (R103): 1 only with FMT8, a head that has it, a fret that permits it and N at
most 192. -/
def fretFmt (s : State) (h f : Nat) : Nat :=
  if get s (F.CH_CTRL_FMT8 h) = 1 ∧ bitOf ((linkOf s h).ident.getD 6 0) 1 = 1 ∧ get s (F.CH_NF_FMT1 h f) = 1
    ∧ get s (F.CH_NF_N h f) ≤ 192 then 1 else 0

/-- The superframes from the present one to a data beam's seam, as whole superframes begun (R117): what remains of φ_w at the wobble PLL's
frequency. -/
def ticksToSeam (s : State) (h beam : Nat) : Nat :=
  let turn : Int := 131072 * 65536
  let left := turn - (((phaseW s h : Nat) : Int) - getI s (F.CH_BEAM_OFS h beam)) % turn
  left.toNat * 409600 / (chanOf s h).nco
def seamTicks (s : State) (h : Nat) : List Nat := (List.range 32).map (ticksToSeam s h)

/-- ADC_CFG with N_f of a fret, which names superframe `sf` or the earliest that gives 24 superframes of lead (R117). -/
def askFret (h fret sf : Nat) (s : State) : State :=
  updChan h (fun c => { c with askedFret := some fret })
    (sendAdc h (get s (F.CH_NF_N h fret)) (fretFmt s h fret) (max 24 (sf - (tick s + 1))) s)

/-- FRET_CROSSING_ADC_CFG (R117): where the head's next seam crosses into another fret, outward, ADC_CFG names the last superframe that
starts at or before the earliest seam of any data beam; on a band of a lower fret than asked for, inward, the first that starts after the
latest seam; a head in a higher fret than asked for, and the first confirmation after training, take the earliest superframe. HL.ADC
does not change. -/
def execFretCrossingAdcCfg (h : Nat) (s : State) : Out :=
  let b := beamBand s h 32
  let f := fretOf b
  if headInst s h = false ∨ get s (F.HL_STATUS_STATE h) ≠ 5 ∨ isSet s (F.CH_STATUS_ADDR_CONF h) = false then .next s
  else match (chanOf s h).askedFret with
    | none => .next (askFret h f 0 s)
    | some a =>
      if a < f then .next (askFret h f 0 s)
      else if f < a ∧ ¬(a = fretOf (b + 1)) then .next (askFret h f (tick s + (seamTicks s h).foldl max 0 + 1) s)
      else if a = f ∧ fretOf (b + 1) ≠ f ∧ b < 9640 then .next (askFret h (fretOf (b + 1)) (tick s + ((seamTicks s h).min?.getD 0)) s)
      else .next s

/-- ADC_CFG_IN_FORCE (R100, R117, R119): the named superframe has come; its values stand on their own. -/
def execAdcCfgInForce (h : Nat) (s : State) : Out :=
  match (linkOf s h).adcCfg with
  | none => .next s
  | some (n, fmt, sf) =>
    if headInst s h = false ∨ tick s < sf then .next s
    else
      let s1 := put (F.CH_FRET_FMT h) fmt (put (F.CH_FRET_N h) n (updLink h (fun k => { k with adcCfg := none, timing := false }) s))
      .next (permits h (if get s (F.HL_ADC_N h) = n ∧ get s (F.HL_ADC_FMT h) = fmt then takeForces [F.HL_ADC_N h, F.HL_ADC_FMT h] s1
        else s1))

/-- CH_ENABLE (R105, R121): the wobble PLL, at nominal frequency, and the sample path start, or stop. That a stop abandons the open slots and
clears the address confirmation is a DESIGN CHOICE (log entry 79: R121 says only that they stop). -/
def execChEnable (h en : Nat) (s : State) : Out :=
  if headInst s h = false then .next s
  else
    let s1 := put (F.CH_CTRL_EN h) en s
    if en % 2 = 1 then
      .next (if wpllSt s h = 0 then wpllEnter h 1 (updChan h (fun c => { c with nco := nominalNco s h, phiOk := false }) s1) else s1)
    else .next (clearConfirm h (wpllEnter h 0 (abandonSlots h (fun _ => true) s1)))

/-- CH_READ_EN (R119, R121): open slots continue to their end; without it no slot opens. -/
def execChReadEn (h en : Nat) (s : State) : Out :=
  if headInst s h = false then .next s else .next (permits h (put (F.CH_CTRL_READ_EN h) en s))

/-- CH_CLR_CNT (R121). -/
def execChClrCnt (h : Nat) (s : State) : Out :=
  if headInst s h = false then .next s
  else .next (clearAll [F.CH_UCRC_ERR h, F.CH_ADDR_MISMATCH h, F.CH_WPLL_HOLD h, F.CH_WPLL_LOST h, F.CH_SYNC_MISS h,
    F.CH_SYNC_EARLY h, F.CH_RESYNC_SLIP h, F.CH_RESYNC_MISS h, F.CH_ABANDON h, F.CH_RATE_LATE h, F.CH_SAMPLE_DISC h,
    F.CH_BLANK_SLOTS h, F.CH_WPLL_ERR_PEAK h] s)

end Sys2Proof.Machine
end

