-- ==== Sys2Proof/Machine/Buffer.lean ====
section
/-! DEFINITION. The buffer memory: the device-correcting code, reads and writes of its words with their errors, mirror copies, patrol scrub
and channel faults (R340 to R355, R363 to R367). -/

namespace Sys2Proof.Machine

/-- The devices that hold data and check bytes (R345). -/
def dataDevs : List Nat := [0, 1, 2, 3, 4, 5, 6, 7, 10, 11, 12, 13, 14, 15, 16, 17]
def checkDevs : List Nat := [8, 9, 18, 19]

/-- The symbols of interleave i of a raw word, by device (R345, R347). -/
def symbolOf (w i j : Nat) : Nat :=
  match dataDevs.findIdx? (· = j) with
  | some m => w / 2 ^ (8 * (16 * i + m)) % 256
  | none => w / 2 ^ (1024 + 8 * (4 * i + (checkDevs.findIdx? (· = j)).getD 0)) % 256

/-- Σ s_j g^(i' j) over an interleave (R345). -/
def syndrome (w i k : Nat) : Nat := (List.range 20).foldl (fun a j => a ^^^ gfMul (symbolOf w i j) (gfPow (k * j))) 0

/-- Polynomials over GF(2^8), lowest coefficient first: product, and the polynomial that is 1 at device k's point and 0 at
the other check devices' points. -/
def polyAdd : List Nat → List Nat → List Nat
  | [], q => q
  | p, [] => p
  | a :: p, b :: q => (a ^^^ b) :: polyAdd p q
def polyMul : List Nat → List Nat → List Nat
  | [], _ => []
  | a :: p, q => polyAdd (q.map (gfMul a)) (0 :: polyMul p q)
def checkPoly (k : Nat) : List Nat :=
  let pts := checkDevs.map gfPow
  let x := pts.getD k 0
  (pts.filter (· ≠ x)).foldl (fun p y => polyMul p ([y, 1].map (gfMul (gfInv (x ^^^ y))))) [1]

/-- The check symbol k of an interleave that makes its four sums zero (R345). -/
def checkSymbol (w i k : Nat) : Nat :=
  ((List.range 4).map fun e => gfMul ((checkPoly k).getD e 0)
    ((List.range 16).foldl (fun a m => a ^^^ gfMul (w / 2 ^ (8 * (16 * i + m)) % 256) (gfPow (e * dataDevs.getD m 0))) 0)).foldl (· ^^^ ·) 0

/-- A word of 128 data bytes with its check bytes. -/
def encodeWord (data : Nat) : Nat :=
  trunc 1024 data + 2 ^ 1024 * ofBytesLE ((List.range 32).map fun x => checkSymbol (trunc 1024 data) (x / 4) (x % 4))

/-- The device and the error of an interleave's single symbol error, if its sums are those of one (R346). -/
def singleError (w i : Nat) : Option (Nat × Nat) :=
  let e := syndrome w i 0
  if e = 0 then none
  else ((List.range 20).find? fun j => (List.range 4).all fun k => decide (syndrome w i k = gfMul e (gfPow (k * j)))).map fun j => (j, e)

/-- The decoder's verdict on a word: clean, corrected on a device, or uncorrectable (R346). -/
inductive Verdict where
  | clean (data : Nat)
  | corrected (device data word : Nat)
  | uncorrectable
  deriving DecidableEq, Repr

def badInter (w : Nat) : List Nat := (List.range 8).filter fun i => (List.range 4).any fun k => decide (syndrome w i k ≠ 0)

/-- Symbol errors taken out of a word: one at device j of each named interleave. -/
def fixSymbols (j : Nat) : List Nat → Nat → Nat
  | [], w => w
  | i :: is, w =>
    let e := syndrome w i 0
    let pos := match dataDevs.findIdx? (· = j) with
      | some m => 8 * (16 * i + m)
      | none => 1024 + 8 * (4 * i + (checkDevs.findIdx? (· = j)).getD 0)
    fixSymbols j is (w ^^^ (e * 2 ^ pos))

def decodeWord (w : Nat) : Verdict :=
  let bad := badInter w
  match bad with
  | [] => .clean (trunc 1024 w)
  | i :: _ =>
    match singleError w i with
    | none => .uncorrectable
    | some (j, _) =>
      if bad.all fun x => decide ((singleError w x).map Prod.fst = some j) then
        .corrected j (trunc 1024 (fixSymbols j bad w)) (fixSymbols j bad w)
      else .uncorrectable

/-- One corrected word counted, with CE_INFO and the corrections of the last hour (R346). -/
def countCorrection (c dev : Nat) (s : State) : State :=
  let n := mapGet (fun _ => 0) s.buf.devices (32 * c + dev) + 1
  let devs := mapPut s.buf.devices (32 * c + dev) n
  let most := (List.range 20).foldl (fun b j => if mapGet (fun _ => 0) devs (32 * c + b) < mapGet (fun _ => 0) devs (32 * c + j) then j else b) 0
  let times := now s :: (mapGet (fun _ => []) s.buf.ceTimes c).filter fun t => decide (now s < 156250000 * 3600 + t)
  let s1 := { s with buf := { s.buf with devices := devs, ceTimes := mapPut s.buf.ceTimes c times } }
  let s2 := bump (F.BUF_CH_CE c) 1 (putAll [(F.BUF_CH_CE_INFO_LAST c, dev), (F.BUF_CH_CE_INFO_MOST c, most)] s1)
  let s3 := raise (evBufCh c) B.BUF_CH_EVT_CE s2
  if get s F.BUF_CE_RATE < times.length then raise (evBufCh c) B.BUF_CH_EVT_CE_RATE s3 else s3

/-- One uncorrectable word counted, with the times of those within the last second (R346, R354). -/
def countUncorrectable (c : Nat) (s : State) : State :=
  let times := now s :: (mapGet (fun _ => []) s.buf.ueTimes c).filter fun t => decide (now s < 156250000 + t)
  raise (evBufCh c) B.BUF_CH_EVT_UE (bump (F.BUF_CH_UE c) 1 { s with buf := { s.buf with ueTimes := mapPut s.buf.ueTimes c times } })

/-- One copy of a word read: `err` is what the devices add to the stored word on this read. The answer is the data with its
unwritten halves as zeros, or none where the word is uncorrectable (R346, R348). -/
def readCopy (c o err : Nat) (s : State) : Option Nat × State :=
  let o := o / 128 * 128
  let lo := isValid s c o
  let hi := isValid s c (o + 64)
  if !inSummary s c o || (!lo && !hi) then (some 0, s)
  else
    let mask (d : Nat) : Nat := (if lo then d % 2 ^ 512 else 0) + (if hi then 2 ^ 512 * (d / 2 ^ 512) else 0)
    match decodeWord (rawWord s c o ^^^ err) with
    | .clean d => (some (mask d), s)
    | .corrected j d w => (some (mask d), countCorrection c j (putRaw c o w s))
    | .uncorrectable => (none, countUncorrectable c s)

/-- The first bus error is recorded (R351). -/
def busError (req c o : Nat) (s : State) : State :=
  let s1 := raise evBUF B.BUF_EVT_BUS_ERROR s
  let s2 := if isSet s1 F.BUF_ERR_LOG_VALID then s1
    else putAll [(F.BUF_ERR_LOG_OFFSET, o), (F.BUF_ERR_LOG_CHANNEL, c), (F.BUF_ERR_LOG_REQ, req), (F.BUF_ERR_LOG_VALID, 1)] s1
  if req = 0 then raise evHST B.HST_EVT_BUS_ERR (bump F.HST_BUS_ERR 1 s2) else s2

/-- A copy repaired from its partner (R351): the good word is written over the failed one. -/
def repairCopy (c o data : Nat) (s : State) : State :=
  raise (evBufCh c) B.BUF_CH_EVT_REPAIRED (bump (F.BUF_CH_REPAIRS c) 1 (putRaw c o (encodeWord data) s))

/-- The block in a buffer page is lost in both copies: it leaves its row and its entry becomes UNAVAILABLE with cause 4 (R352). A row that has
been sealed meanwhile is damaged first, so that its other blocks go into a later row (log entry 86). -/
def loseBufPage (page : Nat) (s : State) : State :=
  let rows := (s.lib.sets.map fun p => (p.2.rows.filter fun r => decide (page ∈ rowPages r)).map fun r => (p.1, r.ord)).flatten
  let s0 := rows.foldl (fun u x => rowDamaged x.1 x.2 u) s
  match (s0.lib.filling.flatMap Filling.blocks).find? fun b => b.page = page with
  | none => s
  | some b =>
    let s1 := { s0 with lib := { s0.lib with filling := s0.lib.filling.map fun f => { f with blocks := f.blocks.filter fun x => x.page ≠ page } } }
    let s2 := match grainOf s1 b.nsid b.lba with
      | none => s1
      | some g => if grainBlock s1 g (b.lba % 256) = .buffer page then refreshArbours (setBlock g (b.lba % 256) 0 (.unavailable 4) s1) else s1
    refreshUnits (freePages [page] s2)

/-- A data abort reaches a management pair: the first is kept in BUSERR, the event is raised (R540). -/
def dataAbort (p addr req : Nat) (s : State) : State :=
  let s1 := if isSet s (F.MGT_BUSERR_VALID p) then s
    else putAll [(F.MGT_BUSERR_ADDR p, addr), (F.MGT_BUSERR_REQ p, req), (F.MGT_BUSERR_VALID p, 1)] s
  raise (evMGT p) B.MGT_EVT_BUS_ERROR { s1 with mgt := { s1.mgt with busErrs := (p, addr, req) :: s1.mgt.busErrs } }

/-- A requester acts on a bus error (R352, R353): a clean sector that the host interface, the parity engine or scrub was reading is given up, so
that it is read again from the medium; a dirty block that the host interface or a row's read-out was reading is lost; a management core takes
a data abort. -/
def onBusError (req pair ba : Nat) (s : State) : State :=
  let (c, o) := primaryOf s ba
  let s1 := busError req c (o / 128 * 128) s
  if req = 5 then dataAbort pair ba 5 s1
  else if isMirrored s ba then (if req = 0 ∨ req = 1 then loseBufPage (baPage ba) s1 else s1)
  else if req = 0 ∨ req = 2 ∨ req = 6 then releasePage (baPage ba) (forgetClean (fun x => decide (baPage ba ∈ x.pages)) s1)
  else s1

/-- A whole word written into one copy. -/
def writeWord (c o data : Nat) (s : State) : State :=
  let w := o / 128 * 128
  setValid c (w + 64) true (setValid c w true (putRaw c w (encodeWord (trunc 1024 data)) s))

/-- The word of a clean sector stands in the buffer from its first access on. -/
def standWord (ba : Nat) (s : State) : State :=
  let (c, o) := primaryOf s ba
  let w := o / 128 * 128
  match cleanWord s ba with
  | none => s
  | some d => if isValid s c w || isValid s c (w + 64) then s else writeWord c w d s

/-- What a half's write keeps of its word (R349, R351): zeros where the other half is not valid, else the corrected word, from the other copy
(`alt`) where this one is uncorrectable; none where neither decodes. -/
def oldWord (c o err : Nat) (alt : Option (Nat × Nat × Nat)) (s : State) : Option Nat × State :=
  let w := o / 128 * 128
  if !isValid s c (if o % 128 / 64 = 1 then w else w + 64) then (some 0, s)
  else match readCopy c w err s with
    | (some d, u) => (some d, u)
    | (none, u) => match alt with
      | none => (none, u)
      | some a => match readCopy a.1 a.2.1 a.2.2 u with
        | (some d, v) => (some d, repairCopy c w d v)
        | (none, v) => (none, v)

/-- One 64-byte half written into one copy; false where what the word holds beside it cannot be read, so that nothing is written (R349). -/
def writeHalf (c o data err : Nat) (alt : Option (Nat × Nat × Nat)) (s : State) : Bool × State :=
  let w := o / 128 * 128
  match oldWord c o err alt s with
  | (none, u) => (false, u)
  | (some old, u) =>
    let d := trunc 512 data
    (true, setValid c o true (putRaw c w (encodeWord (if o % 128 / 64 = 1 then old % 2 ^ 512 + 2 ^ 512 * d else d + 2 ^ 512 * (old / 2 ^ 512))) u))

/-- A 64-byte half written to every copy whose channel serves (R344, R349, R351, R354). A write that no copy takes for want of the other half is
answered with a bus error (log entry 86). -/
def ddrWriteHalf (req pair ba data errP errM : Nat) (s0 : State) : State :=
  let s := standWord ba s0
  let (pc, po) := primaryOf s ba
  let (mc, mo) := mirrorOf s ba
  if isMirrored s ba then
    let r1 := if chServes s pc then writeHalf pc po data errP (if chWhole s mc then some (mc, mo, errM) else none) s else (true, s)
    let r2 := if chServes s mc then writeHalf mc mo data errM (if chWhole s pc && r1.1 then some (pc, po, 0) else none) r1.2 else (true, r1.2)
    if r1.1 && r2.1 then r2.2 else onBusError req pair ba r2.2
  else if chServes s pc then
    let r := writeHalf pc po data errP none s
    if r.1 then r.2 else onBusError req pair ba r.2
  else s

/-- A 128-byte line written whole to every copy whose channel serves: nothing of the old word is read. -/
def ddrWriteLine (ba data : Nat) (s : State) : State :=
  let (pc, po) := primaryOf s ba
  let (mc, mo) := mirrorOf s ba
  let s1 := if chServes s pc then writeWord pc po data s else s
  if isMirrored s ba && chServes s mc then writeWord mc mo data s1 else s1

/-- A 128-byte word read from DDR5 (R344, R346, R348, R351, R354, R355): of a mirrored word the primary copy, or the mirror where `alt` has its
queue the shorter, from a channel in service; an uncorrectable copy is repaired from the other. `errP` and `errM` are the device errors of the
two copies on this read. None is a bus error. -/
def ddrRead (ba : Nat) (alt : Bool) (errP errM : Nat) (s0 : State) : Option Nat × State :=
  let s := standWord ba s0
  let (pc, po) := primaryOf s ba
  let (mc, mo) := mirrorOf s ba
  if !isMirrored s ba then (if chServes s pc then readCopy pc po errP s else (none, s))
  else
    let useM := chWhole s mc && (alt || !chWhole s pc)
    let first := if useM then (mc, mo, errM) else (pc, po, errP)
    let second := if useM then (pc, po, errP) else (mc, mo, errM)
    if !chWhole s first.1 then (none, s)
    else match readCopy first.1 first.2.1 first.2.2 s with
      | (some d, u) => (some d, u)
      | (none, u) =>
        if !chWhole s second.1 then (none, u)
        else match readCopy second.1 second.2.1 second.2.2 u with
          | (some d, v) => (some d, repairCopy first.1 first.2.1 d v)
          | (none, v) => (none, v)

/-- The word at a buffer address as memory holds it, through whichever copy decodes, without error accounting: none where no copy does. -/
def ddrPeekLine (s : State) (ba : Nat) : Option Nat := (ddrRead ba false 0 0 s).1

/-- A 128-byte line of the buffer written, and read: the map cache's copy, where it holds the line, never disagrees, and a side buffer's
copy is given up (R356). -/
def bufWriteLine (ba data : Nat) (s0 : State) : State :=
  let la := ba / 128
  let s := { s0 with buf := { s0.buf with slices := s0.buf.slices.map fun x => (x.1, { x.2 with side := x.2.side.filter fun y => decide (y.1 ≠ la) }) } }
  match cachedLine s la with
  | some (k, l) => putLine k { l with data := trunc 1024 data } (ddrWriteLine ba data s)
  | none => ddrWriteLine ba data s
def bufPeekLine (s : State) (ba : Nat) : Option Nat :=
  match cachedLine s (ba / 128) with
  | some (_, l) => some l.data
  | none => ddrPeekLine s ba

/-- A 4 KiB page written and read whole; whether a word of it has no copy that decodes (R351, R431). -/
def bufWritePage (page data : Nat) (s : State) : State :=
  forAll (List.range 32) (fun i u => bufWriteLine (4096 * page + 128 * i) (data / 2 ^ (1024 * i) % 2 ^ 1024) u) s
def bufPeekPage (s : State) (page : Nat) : Nat :=
  ((List.range 32).map fun i => (bufPeekLine s (4096 * page + 128 * i)).getD 0 * 2 ^ (1024 * i)).sum
def pageBad (s : State) (page : Nat) : Bool := (List.range 32).any fun i => (bufPeekLine s (4096 * page + 128 * i)).isNone

/-- The sets whose rows hold pages of a channel pair are asked to be written, with write-session priority (R296, R354 step 5). -/
def hurryDirty (c : Nat) (s : State) : State :=
  forAll (handles s) (fun hd u =>
    if ((getSet u hd).rows.any fun r => (rowPages r).any fun p => decide (p % 8 = c % 8)) && !(getSet u hd).due then
      issueNext (updSet hd (fun d => { d with due := true, dueAt := u.lib.issue }) u)
    else u) s

/-- The blocks of every row whose page lies in a channel pair become lost (R535). -/
def losePair (c : Nat) (s : State) : State :=
  let pages := (usedPages s).filter fun p => decide (p % 8 = c % 8)
  pages.foldl (fun u p => loseBufPage p u) s

/-- A channel leaves service (R354): the window of its pair opens and closes with steps 1 to 4, single-copy pages are asked
to be written out and an epoch switch is forced. A second fault of an exposed pair is escalated (R535). -/
def channelFault (c cause : Nat) (s : State) : State :=
  let pair := c % 8
  let escalated := isExposed s Dom.ddr pair
  let s0 := openWindow Dom.ddr pair (116 + c) s
  let s1 := raise (evBufCh c) B.BUF_CH_EVT_OUT_OF_SERVICE
    (putAll [(F.BUF_CH_STATUS_STATE c, 1), (F.BUF_CH_STATUS_CAUSE c, cause), (F.BUF_STATUS_STATE, 3),
      (F.BUF_STATUS_IN_SERVICE, get s0 F.BUF_STATUS_IN_SERVICE &&& (0xffff ^^^ 2 ^ c))] s0)
  let s2 := if escalated then losePair c s1 else s1
  let s3 := forgetClean (fun x => x.pages.any fun p => decide ((primaryOf s (4096 * p)).1 = c)) s2
  switchEpoch true (hurryDirty c (closeWindow Dom.ddr pair (if escalated then 2 else 0) s3))

/-- CHANNEL_FAULT: a channel fault is declared for training (1), write CRC (2), CA parity (3) or the uncorrectable rate (4): more than UE_LIM
uncorrectable words within 1 s (R354). A channel already out of service takes no second declaration. -/
def execChannelFault (ch cause : Nat) (s : State) : Out :=
  let due := decide (cause ≠ 4) || decide (get s F.BUF_UE_LIM < (mapGet (fun _ => []) s.buf.ueTimes ch).length)
  if ddrInst s ch && due && decide (1 ≤ cause) && decide (cause ≤ 4) && decide (get s (F.BUF_CH_STATUS_STATE ch) ≠ 1) then
    .next (channelFault ch cause { s with buf := { s.buf with ueTimes := mapErase s.buf.ueTimes ch } })
  else .next s

/-- CHANNEL_OFFLINE: CH.CTRL.OFFLINE declares a channel fault (R367). -/
def execChannelOffline (ch : Nat) (s : State) : Out :=
  if ddrInst s ch && decide (get s (F.BUF_CH_STATUS_STATE ch) ≠ 1) then .next (channelFault ch 5 s) else .next s

/-- The valid and summary bits of a channel cleared (R350, R355). -/
def clearChannel (c : Nat) (s : State) : State :=
  { s with buf := { s.buf with
      valid := mapEraseRange s.buf.valid (2 ^ 32 * c) (2 ^ 32 * (c + 1)),
      summary := mapEraseRange s.buf.summary (c * (bufC s / 2 ^ 21)) ((c + 1) * (bufC s / 2 ^ 21)) } }

/-- CHANNEL_RETRAIN: a channel out of service is trained, its bitmap cleared, and RESYNC starts (R355). -/
def execChannelRetrain (ch : Nat) (s : State) : Out :=
  if ddrInst s ch && decide (get s (F.BUF_CH_STATUS_STATE ch) = 1) then
    .next (clearChannel ch (putAll [(F.BUF_CH_STATUS_STATE ch, 2), (F.BUF_CH_STATUS_CAUSE ch, 0), (F.BUF_CH_RESYNC ch, 0)] (unitReset s)))
  else .next s

/-- The valid lines of a channel's mirrored zone, as offsets. -/
def validLines (s : State) (c : Nat) : List Nat :=
  (s.buf.valid.filter fun p => decide (p.1 / 2 ^ 32 = c) && decide (p.2 = 1) && decide (64 * (p.1 % 2 ^ 32) < bufM s)).map fun p => 64 * (p.1 % 2 ^ 32)

/-- The offset in the partner channel that holds the other copy of a mirrored offset (R342). -/
def partnerOfs (s : State) (o : Nat) : Nat := if o < bufM s / 2 then o + bufM s / 2 else o - bufM s / 2

/-- A word of the partner as it is copied: what errors it has that can be corrected stay behind (R346, R355). -/
def copiedWord (w : Nat) : Nat :=
  match decodeWord w with
  | .corrected _ _ x => x
  | _ => w

/-- RESYNC_DONE: every valid mirrored word has been copied from the partner, and the pair is whole again (R355). A partner that is out of
service gives nothing. -/
def execResyncDone (ch : Nat) (s : State) : Out :=
  if ddrInst s ch && decide (get s (F.BUF_CH_STATUS_STATE ch) = 2) then
    let other := (ch + 8) % 16
    let s1 := if chWhole s other then (validLines s other).foldl (fun u o =>
      setValid ch (partnerOfs s o) true (putRaw ch (partnerOfs s o / 128 * 128) (copiedWord (rawWord s other (o / 128 * 128))) u)) s else s
    let s2 := putAll [(F.BUF_CH_STATUS_STATE ch, 0), (F.BUF_CH_RESYNC ch, 0xffff),
      (F.BUF_STATUS_IN_SERVICE, get s F.BUF_STATUS_IN_SERVICE ||| 2 ^ ch)] s1
    let s3 := if (List.range 16).all fun c => decide (get s2 (F.BUF_CH_STATUS_STATE c) = 0) then put F.BUF_STATUS_STATE 2 s2 else s2
    .next (raise (evBufCh ch) B.BUF_CH_EVT_RESYNC_DONE (unexpose Dom.ddr (ch % 8) s3))
  else .next s

/-! ### Patrol scrub -/

/-- The buffer address of a channel offset (R342). -/
def baOf (s : State) (c o : Nat) : Nat :=
  if o < bufM s / 2 then 4096 * (o / 4096 * 16 + c) + o % 4096
  else if o < bufM s then 4096 * ((o - bufM s / 2) / 4096 * 16 + (c + 8) % 16) + o % 4096
  else 8 * bufM s + 4096 * ((o - bufM s) / 4096 * 16 + c) + o % 4096

/-- The words, as even line keys, that patrol scrub reads: those with a valid half, clean ones among them, on channels in service (R353); and
the first from a key on. -/
def scrubKeys (s : State) : List Nat :=
  (((s.buf.valid.filter fun (p : Nat × Nat) => decide (p.2 = 1)).map fun (p : Nat × Nat) => p.1 / 2 * 2)
      ++ (cleanTaken s).flatMap fun p => (List.range 32).map fun i => lineKey (primaryOf s (4096 * p)).1 ((primaryOf s (4096 * p)).2 + 128 * i)).filter
    fun k => chWhole s (k / 2 ^ 32)
def nextScrub (s : State) (k : Nat) : Option Nat := ((scrubKeys s).filter fun x => decide (k ≤ x)).min?

/-- The summary bits between two line keys are cleared where their 4 KiB of bitmap reads all zero (R349). -/
def clearSummary (a z : Nat) (s : State) : State :=
  let n := bufC s / 2 ^ 21
  let keep (p : Nat × Nat) : Bool :=
    let k := 2 ^ 32 * (p.1 / n) + 32768 * (p.1 % n)
    decide (k + 32768 ≤ a) || decide (z < k + 32768) || s.buf.valid.any fun v => decide (v.1 / 32768 = k / 32768) && decide (v.2 = 1)
  { s with buf := { s.buf with summary := s.buf.summary.filter keep } }

/-- How far a scrub pass has come, in 1/65,536 of the channels' lines. -/
def scrubProgress (s : State) (k : Nat) : Nat := min 65535 (65536 * (k / 2 ^ 32 * (bufC s / 64) + k % 2 ^ 32) / (bufC s / 4))

/-- One word read by patrol scrub, corrected, or repaired, or released and reported to its owner (R351, R353). -/
def scrubWord (c o errP errM : Nat) (s : State) : State :=
  let ba := baOf s c o
  match readCopy c o errP (standWord ba s) with
  | (some _, u) => u
  | (none, u) =>
    if isMirrored s ba && chWhole u ((c + 8) % 16) then
      match readCopy ((c + 8) % 16) (partnerOfs s o) errM u with
      | (some d, v) => repairCopy c o d v
      | (none, v) => onBusError 6 0 ba v
    else onBusError 6 0 ba u

/-- SCRUB_READ: patrol scrub reads the next word with a valid half, channel by channel; after the last one the pass ends, and the next begins
once PERIOD hours have passed since this one began (R349, R353). `errP` and `errM` are the device errors of the word and of its other copy on
this read. -/
def execScrubRead (errP errM : Nat) (s : State) : Out :=
  let hours := max 1 (get s F.BUF_SCRUB_CFG_PERIOD)
  let begins := decide (s.buf.scrub = none) && elapsed s s.buf.scrubAt (156250000 * 3600 * hours)
  if !isSet s F.BUF_SCRUB_CFG_EN || (decide (s.buf.scrub = none) && !begins) then .next s
  else
    let k := s.buf.scrub.getD 0
    let s0 := if k = 0 then { s with buf := { s.buf with scrubAt := now s } } else s
    let s1 := match nextScrub s0 k with
      | none => s0
      | some x => scrubWord (x / 2 ^ 32) (64 * (x % 2 ^ 32)) errP errM s0
    let upto := match nextScrub s0 k with | none => 2 ^ 36 | some x => (nextScrub s1 (x + 2)).getD (2 ^ 36)
    let s2 := clearSummary k upto s1
    let ends := (nextScrub s2 upto).isNone
    let s3 := put F.BUF_SCRUB_STATUS_PROGRESS (if ends then 0 else scrubProgress s upto) { s2 with buf := { s2.buf with scrub := if ends then none else some upto } }
    .next (if ends then raise evBUF B.BUF_EVT_SCRUB_PASS (bump F.BUF_SCRUB_STATUS_PASSES 1 s3) else s3)

/-- CLEAR_DONE: the clear of the summary SRAM and the valid bitmap of all channels that START_UP began ends, at full bandwidth after V × 16 bytes
at 1,024 GB/s, and its time is reported in µs (R350). -/
def execClearDone (s : State) : Out :=
  if get s F.BUF_STATUS_STATE = 1 ∧ elapsed s s.buf.clearAt (bufV s * 5 / 2048) = true then
    .next (raise evBUF B.BUF_EVT_CLEAR_DONE (putAll [(F.BUF_CLEAR_TIME, (now s - s.buf.clearAt) * 64 / 10000), (F.BUF_STATUS_STATE, 2)] s))
  else .next s

/-- RELEASE: BUF.CMD with OP 0 clears the valid bits of a 4 KiB page (R349, R364); a page that a reading command has pinned,
or whose reads wait for a map cache fill, is released after them (R363, R382). -/
def execRelease (page : Nat) (s : State) : Out :=
  let s1 := putAll [(F.BUF_CMD_PAGE, page), (F.BUF_CMD_OP, 0)] s
  if baSize s ≤ 4096 * page then .next s1
  else if pageHeld s page then
    .next { s1 with host := { s1.host with relWait := page :: s1.host.relWait } }
  else .next (releasePage page s1)

/-- BUF_CMD_REFUSED: a reserved BUF.CMD OP is refused without effect (R364). -/
def execBufCmdRefused (page op : Nat) (s : State) : Out := .next (putAll [(F.BUF_CMD_PAGE, page), (F.BUF_CMD_OP, op)] s)

/-- Raw access is permitted by the ECC-diagnostic fuse, on a channel in service (R347, R365, R468). -/
def diagAllowed (s : State) : Bool := decide (bitOf (get s F.FUS_PROT) 3 = 1) && chServes s (get s F.BUF_DIAG_ADDR_CH)
def diagOfs (s : State) : Nat := get s F.BUF_DIAG_ADDR_OFS * 128
def diagEnd (op result : Nat) (s : State) : State :=
  raise evBUF B.BUF_EVT_DIAG_DONE (putAll [(F.BUF_DIAG_CTRL_OP, op), (F.BUF_DIAG_CTRL_RESULT, result)] s)
def diagRefused (s : State) : State := put F.BUF_DIAG_CTRL_RESULT 2 s

/-- WRITE_RAW: the 128 data and 32 check bytes are written as given, with both valid bits set and the mirror copy untouched
(R347). -/
def execWriteRaw (s : State) : Out :=
  if diagAllowed s then
    let c := get s F.BUF_DIAG_ADDR_CH
    let data := ((List.range 32).map fun i => get s (F.BUF_DIAG_DATA i) * 2 ^ (32 * i)).sum
    let chk := ((List.range 8).map fun i => get s (F.BUF_DIAG_CHECK i) * 2 ^ (32 * i)).sum
    .next (diagEnd 0 0 (setValid c (diagOfs s + 64) true (setValid c (diagOfs s) true (putRaw c (diagOfs s) (data + 2 ^ 1024 * chk) s))))
  else .next (diagRefused s)

/-- The DIAG data and check registers loaded. -/
def putDiag (w : Nat) (s : State) : State :=
  putAll (((List.range 32).map fun i => (F.BUF_DIAG_DATA i, w / 2 ^ (32 * i) % 2 ^ 32))
    ++ (List.range 8).map fun i => (F.BUF_DIAG_CHECK i, w / 2 ^ (1024 + 32 * i) % 2 ^ 32)) s

/-- The raw word at DIAG_ADDR. -/
def diagWord (s : State) : Nat :=
  let c := get s F.BUF_DIAG_ADDR_CH
  rawWord (standWord (baOf s c (diagOfs s)) s) c (diagOfs s)

/-- READ_RAW: the stored data and check bytes are returned uncorrected (R347). -/
def execReadRaw (s : State) : Out :=
  if diagAllowed s then .next (diagEnd 1 0 (putDiag (diagWord s) s)) else .next (diagRefused s)

/-- DIAG_READ: the corrected data are returned with the decoder's verdict and device (R347); an uncorrectable word returns
its stored bytes. -/
def execDiagRead (s : State) : Out :=
  if diagAllowed s then
    let w := diagWord s
    .next (diagEnd 2 0 (match decodeWord w with
      | .clean _ => put F.BUF_DIAG_CTRL_VERDICT 0 (putDiag w s)
      | .corrected j _ x => putAll [(F.BUF_DIAG_CTRL_VERDICT, 1), (F.BUF_DIAG_CTRL_DEVICE, j)] (putDiag x s)
      | .uncorrectable => put F.BUF_DIAG_CTRL_VERDICT 2 (putDiag w s)))
  else .next (diagRefused s)

/-- DIAG_RESERVED: the reserved DIAG OP is refused with result 2 (R365). -/
def execDiagReserved (s : State) : Out := .next (put F.BUF_DIAG_CTRL_OP 3 (diagRefused s))

/-- BUF_CLR_CNT: every channel's counters are cleared (R365). -/
def execBufClrCnt (s : State) : Out :=
  .next (forAll (List.range 16) (fun c u => clearAll [F.BUF_CH_CE c, F.BUF_CH_UE c, F.BUF_CH_REPAIRS c] u) s)

end Sys2Proof.Machine
end

