-- ==== Sys2Proof/Machine/MapCache.lean ====
section
/-! DEFINITION. The map cache: hits, misses and fills, the side buffers and stream detectors, the enable and drain states,
maintenance and SRAM errors (R356 to R362, R368, R369). -/

namespace Sys2Proof.Machine

/-- The states of the map cache (R360). -/
def Mc.disabled : Nat := 0
def Mc.enabled : Nat := 1
def Mc.draining : Nat := 2

def getSlice (s : State) (i : Nat) : Slice := mapGet (fun _ => {}) s.buf.slices i
def putSlice (i : Nat) (v : Slice) (s : State) : State := { s with buf := { s.buf with slices := mapPut s.buf.slices i v } }

/-- Whether a slice serves (R362, R369). -/
def sliceOff (s : State) (i : Nat) : Bool := decide (bitOf (get s (F.MAP_QEVT_SLICES_OFF (i / 8))) (i % 8) = 1)

/-- Whether the cache takes part in accesses to a line. -/
def cacheOn (s : State) (la : Nat) : Bool :=
  decide (get s F.MAP_STATUS_STATE ≠ Mc.disabled) && !sliceOff s (sliceOf la) && decide (2 ≤ mapWays s)

/-- A dirty line written back to DDR5, both copies; it stays valid and clean (R357, R361). -/
def cleanLine (k : Nat) (l : CacheLine) (s : State) : State :=
  if l.dirty then putLine k { l with dirty := false } (ddrWriteLine (128 * l.la) l.data s) else s
def dropLine (k : Nat) (s : State) : State := { s with buf := { s.buf with lines := mapErase s.buf.lines k } }

/-- The ages of a set raised by one until a way has age 3: what each age rises by (R357). -/
def ageRise (ages : List Nat) : Nat := 3 - (ages.max?).getD 3

/-- The victim way of a full set: the lowest invalid way, else the lowest way whose age is the oldest (R357). -/
def victimWay (s : State) (sl st : Nat) : Nat :=
  let ws := List.range (mapWays s)
  match ws.find? fun w => (mapFind s.buf.lines (wayKey sl st w)).isNone with
  | some w => w
  | none =>
    let age (w : Nat) : Nat := match mapFind s.buf.lines (wayKey sl st w) with
      | some l => l.age
      | none => 0
    let top := ((ws.map age).max?).getD 0
    (ws.find? fun w => decide (age w = top)).getD 0

/-- A line enters its set at an age: the victim is written back where dirty, and where every way is valid and none has age 3
every age rises first (R357). -/
def enterLine (l : CacheLine) (s : State) : State :=
  let sl := sliceOf l.la
  let st := setOf s l.la
  let w := victimWay s sl st
  let k := wayKey sl st w
  let s1 := match mapFind s.buf.lines k with
    | none => s
    | some v =>
      let ages := (List.range (mapWays s)).filterMap fun x => (mapFind s.buf.lines (wayKey sl st x)).map CacheLine.age
      let up := ageRise ages
      let aged := forAll (List.range (mapWays s)) (fun x u =>
        match mapFind u.buf.lines (wayKey sl st x) with
        | some y => putLine (wayKey sl st x) { y with age := y.age + up } u
        | none => u) s
      if v.dirty then bump F.MAP_EVICT_DIRTY 1 (cleanLine k v aged) else aged
  putLine k l s1

/-- The lines a trained detector fetches ahead of a line within its 4 KiB page (R359). -/
def aheadOf (s : State) (la : Nat) (up : Bool) : List Nat :=
  let depth := max 1 (get s F.MAP_PF_CFG_DEPTH)
  (List.range depth).filterMap fun i =>
    if up then (if (la + i + 1) / 32 = la / 32 then some (la + i + 1) else none)
    else (if i + 1 ≤ la ∧ (la - i - 1) / 32 = la / 32 then some (la - i - 1) else none)

/-- Lines fetched into a slice's 16-line side buffer, the oldest replaced; one of which no copy decodes is not (R351, R359). -/
def prefetch (sl : Nat) (las : List Nat) (s : State) : State :=
  las.foldl (fun u x =>
    if ((getSlice u sl).side.any fun e => decide (e.1 = x)) || (cachedLine u x).isSome then u
    else
      let r := ddrRead (128 * x) false 0 0 u
      let u1 := bump F.MAP_PF_ISSUED 1 r.2
      match r.1 with
      | none => u1
      | some d => putSlice sl { getSlice u1 sl with side := ((x, d) :: (getSlice u1 sl).side).take 16 } u1) s

/-- A trained detector that an access follows moves to it and keeps its lines fetched ahead; a detector allocated by the
last miss trains on the neighbouring line; else a demand miss allocates one of the eight (R359). -/
def streamMiss (la : Nat) (s : State) : State :=
  let sl := sliceOf la
  let v := getSlice s sl
  if !isSet s F.MAP_CTRL_PF_EN || decide (get s F.MAP_STATUS_STATE ≠ Mc.enabled) then s
  else match v.det with
    | ⟨l, none⟩ :: ds =>
      if la / 32 = l / 32 ∧ (la = l + 1 ∨ l = la + 1) then
        prefetch sl (aheadOf s la (decide (l < la))) (putSlice sl { v with det := ⟨la, some (decide (l < la))⟩ :: ds } s)
      else putSlice sl { v with det := (⟨la, none⟩ :: v.det).take 8 } s
    | _ => putSlice sl { v with det := (⟨la, none⟩ :: v.det).take 8 } s

/-- A demand access that hits the side buffer advances the trained detectors of its page. -/
def streamHit (la : Nat) (s : State) : State :=
  let sl := sliceOf la
  if !isSet s F.MAP_CTRL_PF_EN then s
  else (getSlice s sl).det.foldl (fun u d =>
    match d.dir with
    | none => u
    | some up =>
      if la ∈ aheadOf u d.la up then
        let v := getSlice u sl
        prefetch sl (aheadOf u la up) (putSlice sl { v with det := v.det.map fun x => if x = d then { d with la := la } else x } u)
      else u) s

def cacheAnswer (d : Nat) (s : State) : State := { s with buf := { s.buf with answer := d } }

/-- A line after a write of its halves. -/
def mergeWrite (old : Nat) (w : Nat × Nat) : Nat :=
  (if w.1 % 2 = 1 then w.2 else old) % 2 ^ 512 + 2 ^ 512 * ((if 2 ≤ w.1 then w.2 else old) / 2 ^ 512 % 2 ^ 512)

/-- An access served by a line of the cache: its age is `age` from then on; a write leaves it dirty, or while the cache
drains writes through and leaves it clean (R357, R360). -/
def serveLine (k age : Nat) (l : CacheLine) (a : CacheAccess) (s : State) : State :=
  match a.write with
  | none => cacheAnswer l.data (putLine k { l with age := age } s)
  | some w =>
    let d := mergeWrite l.data w
    if get s F.MAP_STATUS_STATE = Mc.draining then putLine k ⟨l.la, false, age, d⟩ (ddrWriteLine (128 * l.la) d s)
    else putLine k ⟨l.la, true, age, d⟩ s

/-- An access that goes to DDR5 without the cache (R344, R351, R352). -/
def serveDdr (a : CacheAccess) (alt : Bool) (errP errM : Nat) (s : State) : State :=
  match a.write with
  | none =>
    match ddrRead a.ba alt errP errM s with
    | (some d, u) => cacheAnswer d u
    | (none, u) => onBusError a.req a.pair a.ba u
  | some (m, d) =>
    let la := a.ba / 128
    if m = 3 then ddrWriteLine (128 * la) d s
    else if m = 1 then ddrWriteHalf a.req a.pair (128 * la) d errP errM s
    else ddrWriteHalf a.req a.pair (128 * la + 64) (d / 2 ^ 512) errP errM s

/-- An access to the mirrored range (R356 to R360): a hit, a side-buffer hit, a miss that starts a fill, or a miss that waits for the slice's
outstanding one; without the cache, and at a miss while it drains, it goes to DDR5. -/
def cacheServe (a : CacheAccess) (alt : Bool) (errP errM : Nat) (s : State) : State :=
  let la := a.ba / 128
  let sl := sliceOf la
  let v := getSlice s sl
  if !cacheOn s la then serveDdr a alt errP errM s
  else match cachedLine s la with
    | some (k, l) => countDirty (serveLine k 0 l a (bump F.MAP_HITS 1 s))
    | none =>
      match v.side.find? fun e => decide (e.1 = la) with
      | some e =>
        let s1 := enterLine ⟨la, false, 3, e.2⟩ (putSlice sl { v with side := v.side.filter fun x => decide (x.1 ≠ la) } s)
        let s2 := bump F.MAP_SB_HITS 1 (bump F.MAP_HITS 1 s1)
        countDirty (streamHit la (match cachedLine s2 la with
          | some (k, l) => serveLine k 3 l a s2
          | none => s2))
      | none =>
        let s1 := bump F.MAP_MISSES 1 s
        if get s F.MAP_STATUS_STATE = Mc.draining then serveDdr a alt errP errM s1
        else if v.miss.isSome then bump F.MAP_MISS_WAIT 1 (putSlice sl { v with waiting := v.waiting ++ [a] } s1)
        else streamMiss la (putSlice sl { v with miss := some a } s1)

/-- MAP_CACHE_ACCESS: a requester reads or writes a 128-byte line of the mirrored range (R356). `errP` and `errM` are the device errors of the
two copies where it goes to DDR5. -/
def execMapCacheAccess (req pair ba : Nat) (write : Option Nat) (alt : Bool) (errP errM : Nat) (s : State) : Out :=
  if !isMirrored s ba then .next s
  else .next (cacheServe ⟨req, pair, ba, write.map fun d => (3, trunc 1024 d)⟩ alt errP errM s)

/-- BUFFER_READ: a requester reads the 128-byte word at a buffer address, in the mirrored range through the map cache (R344, R346, R348, R351, R352,
R356). `req` names it as ERR_LOG does (`pair` for a management core), `alt` has the queue lengths prefer the mirror copy, and `errP`, `errM` are
the device errors of the two copies on this read. -/
def execBufferRead (req pair ba : Nat) (alt : Bool) (errP errM : Nat) (s : State) : Out :=
  let a : CacheAccess := ⟨req, pair, ba, none⟩
  if baSize s ≤ ba then .next s
  else if isMirrored s ba then .next (cacheServe a alt errP errM s)
  else .next (serveDdr a alt errP errM s)

/-- BUFFER_WRITE: a requester writes the 64-byte half at a buffer address, in the mirrored range through the map cache; the write is accepted
once every copy holds it (R344, R349, R356, R363). -/
def execBufferWrite (req pair ba data errP errM : Nat) (s : State) : Out :=
  let d := trunc 512 data
  let a : CacheAccess := ⟨req, pair, ba, some (if ba % 128 < 64 then (1, d) else (2, 2 ^ 512 * d))⟩
  if baSize s ≤ ba then .next s
  else if isMirrored s ba then .next (cacheServe a false errP errM s)
  else .next (serveDdr a false errP errM s)

/-- Whether a line holds map entries: the grain map or the fragment pool (R343, R352). -/
def isMapLine (s : State) (la : Nat) : Bool := decide (la < 2 ^ 28 + 16 * get s F.ARB_FRAG_POOL)

/-- The 64-bit entries of the grain map and the fragment pool at an address, for a line rebuilt as at start-up (R288, R289,
R352); the other structures of the mirrored zone have no such rebuild, so their words are free values. -/
def rebuiltLine (la : Nat) (s : State) : Nat × State :=
  if la < 2 ^ 28 then
    (((List.range 16).map fun i => (grainEntry s (16 * la + i)).word * 2 ^ (64 * i)).sum, s)
  else if isMapLine s la then
    (((List.range 16).map fun i =>
      let x := 16 * (la - 2 ^ 28) + i
      (fragEntry s (x / 256) (x % 256)).word * 2 ^ (64 * i)).sum, s)
  else drawFree 1024 s

/-- A line that no copy holds (R352, R362): map entries, and the other structures, are rebuilt and written; dirty data is answered with a bus
error. -/
def restoreLine (req pair la : Nat) (s : State) : Option Nat × State :=
  if 32 * dirtyBase s ≤ la then (none, onBusError req pair (128 * la) s)
  else
    let p := primaryOf s (128 * la)
    let r := rebuiltLine la (busError 3 p.1 p.2 s)
    (some r.1, ddrWriteLine (128 * la) r.1 r.2)

/-- The accesses that waited for a fill are served in their order while they hit; the first that misses becomes the slice's
outstanding miss, or goes to DDR5 while the cache drains (R358, R360). -/
def resumeWaiting (sl : Nat) : List CacheAccess → State → State
  | [], s => putSlice sl { getSlice s sl with waiting := [] } s
  | a :: as, s =>
    match cachedLine s (a.ba / 128) with
    | some (k, l) => resumeWaiting sl as (serveLine k 0 l a s)
    | none =>
      if get s F.MAP_STATUS_STATE = Mc.draining then resumeWaiting sl as (serveDdr a false 0 0 s)
      else streamMiss (a.ba / 128) (putSlice sl { getSlice s sl with miss := some a, waiting := as } s)

/-- The line a fill reads: through the mirror with repair, or restored where both copies are bad (R351, R352). -/
def fillData (a : CacheAccess) (alt : Bool) (errP errM : Nat) (s : State) : Option Nat × State :=
  match ddrRead (128 * (a.ba / 128)) alt errP errM s with
  | (some d, u) => (some d, u)
  | (none, u) => restoreLine a.req a.pair (a.ba / 128) u

/-- MAP_CACHE_FILL: the fill of a slice's outstanding miss completes, the line enters at age 0 and the access is served, and those that waited
after it (R357, R358); `errP`, `errM` are the device errors of the two copies on this read. -/
def execMapCacheFill (slice : Nat) (alt : Bool) (errP errM : Nat) (s : State) : Out :=
  let v := getSlice s slice
  match v.miss with
  | none => .next s
  | some a =>
    let s0 := putSlice slice { v with miss := none } s
    if !cacheOn s (a.ba / 128) then
      .next (settleReleases (countDirty (v.waiting.foldl (fun u x => serveDdr x false 0 0 u)
        (serveDdr a alt errP errM (putSlice slice { v with miss := none, waiting := [] } s)))))
    else
      let r := fillData a alt errP errM s0
      let s1 := match r.1 with
        | none => r.2
        | some d =>
          let s2 := enterLine ⟨a.ba / 128, false, 0, d⟩ r.2
          match cachedLine s2 (a.ba / 128) with
          | some (k, l) => serveLine k 0 l a s2
          | none => s2
      .next (settleReleases (countDirty (resumeWaiting slice v.waiting s1)))

/-- MAP_CACHE_ENABLE: EN written 1 enables the cache from DISABLED; during DRAINING it takes effect once draining completes
(R360). -/
def execMapCacheEnable (s : State) : Out :=
  let s1 := put F.MAP_CTRL_EN 1 s
  .next (if get s F.MAP_STATUS_STATE = Mc.disabled then put F.MAP_STATUS_STATE Mc.enabled { s1 with buf := { s1.buf with lines := [] } } else s1)

/-- MAP_CACHE_DISABLE: EN written 0 starts DRAINING from ENABLED: prefetch stops and the side buffers are emptied (R360). -/
def execMapCacheDisable (s : State) : Out :=
  let s1 := put F.MAP_CTRL_EN 0 s
  .next (if get s F.MAP_STATUS_STATE = Mc.enabled then
      put F.MAP_STATUS_STATE Mc.draining { s1 with buf := { s1.buf with slices := s1.buf.slices.map fun p => (p.1, { p.2 with side := [], det := [] }) } }
    else s1)

/-- Every dirty line of the cache written back. -/
def cleanAll (s : State) : State := s.buf.lines.foldl (fun u p => cleanLine p.1 p.2 u) s

/-- DRAIN_DONE: the dirty lines have been written back slice by slice; every line is invalid, and the cache is DISABLED or,
with EN written 1 meanwhile, ENABLED again (R360). A fill still outstanding is served first. -/
def execDrainDone (s : State) : Out :=
  if get s F.MAP_STATUS_STATE = Mc.draining ∧ (s.buf.slices.all fun p => p.2.miss.isNone) then
    let s1 := cleanAll s
    let s2 := put F.MAP_STATUS_STATE (if isSet s F.MAP_CTRL_EN then Mc.enabled else Mc.disabled) { s1 with buf := { s1.buf with lines := [] } }
    .next (raise evMAP B.MAP_EVT_DRAIN_DONE (countDirty s2))
  else .next s

/-- Whether a fill of a line is in flight. -/
def fillOf (s : State) (la : Nat) : Bool :=
  match (getSlice s (sliceOf la)).miss with
  | none => false
  | some a => decide (a.ba / 128 = la)

/-- The effect of CLEAN (0), INVALIDATE (1) and CLEAN_ALL (2) (R361). -/
def maintEffect (op la : Nat) (s : State) : State :=
  if op = 2 then countDirty (cleanAll s)
  else
    let s1 := match cachedLine s la with
      | none => s
      | some (k, l) => if op = 0 then cleanLine k l s else dropLine k (cleanLine k l s)
    let v := getSlice s1 (sliceOf la)
    countDirty (if op = 1 then putSlice (sliceOf la) { v with side := v.side.filter fun x => decide (x.1 ≠ la) } s1 else s1)

/-- A maintenance operation starts: at once complete in DISABLED; one by address waits for a fill of its line in flight.
GO while BUSY has no effect. -/
def maintStart (op : Nat) (s : State) : State :=
  let la := get s F.MAP_MAINT_ADDR
  if isSet s F.MAP_MAINT_BUSY then s
  else
    let s1 := put F.MAP_MAINT_OP op s
    if get s F.MAP_STATUS_STATE = Mc.disabled then raise evMAP B.MAP_EVT_MAINT_DONE s1
    else
      let s2 := put F.MAP_MAINT_BUSY 1 s1
      if op ≠ 2 ∧ fillOf s la then { s2 with buf := { s2.buf with maint := some (op, la) } } else maintEffect op la s2

/-- MAINT_CLEAN: writes back the line at MAINT_ADDR if dirty (R361). -/
def execMaintClean (s : State) : Out := .next (maintStart 0 s)

/-- MAINT_INVALIDATE: writes back and invalidates the line, and removes it from the side buffer (R361). -/
def execMaintInvalidate (s : State) : Out := .next (maintStart 1 s)

/-- MAINT_CLEAN_ALL: CLEAN on every line (R361). -/
def execMaintCleanAll (s : State) : Out := .next (maintStart 2 s)

/-- MAINT_RESERVED: OP 3 is refused with MAINT_ERR (R361). -/
def execMaintReserved (s : State) : Out :=
  .next (if isSet s F.MAP_MAINT_BUSY then s else raise evMAP B.MAP_EVT_MAINT_ERR (put F.MAP_MAINT_OP 3 s))

/-- MAINT_DONE: the operation ends; one that waited for a fill applies to the filled line first (R361). -/
def execMaintDone (s : State) : Out :=
  if !isSet s F.MAP_MAINT_BUSY then .next s
  else
    let fin (u : State) : State := raise evMAP B.MAP_EVT_MAINT_DONE (put F.MAP_MAINT_BUSY 0 u)
    match s.buf.maint with
    | none => .next (fin s)
    | some (op, la) =>
      if fillOf s la then .next s
      else .next (fin (maintEffect op la { s with buf := { s.buf with maint := none } }))

/-- A slice leaves service: its readable dirty lines are written back and its accesses go to DDR5 (R362, R535). -/
def sliceOut (i : Nat) (s : State) : State :=
  let s0 := openWindow Dom.slice i (132 + i / 8) s
  let mine := s0.buf.lines.filter fun p => decide (p.1 / (8192 * 16) = i)
  let s1 := mine.foldl (fun u p => dropLine p.1 (cleanLine p.1 p.2 u)) s0
  let v := getSlice s1 i
  let s2 := putSlice i { v with side := [], det := [] } s1
  let s3 := put (F.MAP_QEVT_SLICES_OFF (i / 8)) (get s2 (F.MAP_QEVT_SLICES_OFF (i / 8)) ||| 2 ^ (i % 8)) s2
  closeWindow Dom.slice i 0 (raise (evMapQ (i / 8)) B.MAP_QEVT_SLICE_OFF s3)

/-- SRAM_ERROR: a corrected word (kind 0), an uncorrectable word of the line `la` (kind 1) or a tag parity error (kind 2) of a
slice (R362). The fourth uncorrectable error of a slice within 1 s takes it out of service. -/
def execSramError (slice la kind : Nat) (s : State) : Out :=
  let q := slice / 8
  if 32 ≤ slice ∨ sliceOff s slice then .next s
  else if kind = 0 then .next (raise (evMapQ q) B.MAP_QEVT_SRAM_CE (bump F.MAP_SRAM_CE 1 s))
  else if kind = 1 then
    match cachedLine s la with
    | none => .next s
    | some (k, l) =>
      if sliceOf la ≠ slice then .next s
      else
        let s1 := bump F.MAP_SRAM_UE 1 s
        let s2 :=
          if l.dirty then
            raise (evMapQ q) B.MAP_QEVT_SRAM_UE_DIRTY
              (if 32 * dirtyBase s ≤ la then loseBufPage (la / 32) (dropLine k s1) else (restoreLine 3 0 la (dropLine k s1)).2)
          else
            let r := fillData ⟨3, 0, 128 * la, none⟩ false 0 0 (dropLine k s1)
            raise (evMapQ q) B.MAP_QEVT_SRAM_UE (match r.1 with
              | none => r.2
              | some d => enterLine ⟨la, false, 0, d⟩ r.2)
        let v := getSlice s2 slice
        let times := now s :: v.ueTimes.filter fun t => decide (now s < 156250000 + t)
        let s3 := putSlice slice { v with ueTimes := times } s2
        .next (countDirty (if 4 ≤ times.length then sliceOut slice s3 else s3))
  else if kind = 2 then .next (countDirty (sliceOut slice s))
  else .next s

/-- MAP_CLR_CNT: MAP.CTRL.CLR_CNT clears the counters at 0x030 to 0x060 (R369). -/
def execMapClrCnt (s : State) : Out :=
  .next (clearAll [F.MAP_HITS, F.MAP_MISSES, F.MAP_SB_HITS, F.MAP_PF_ISSUED, F.MAP_EVICT_DIRTY, F.MAP_MISS_WAIT,
    F.MAP_SRAM_CE, F.MAP_SRAM_UE] s)

end Sys2Proof.Machine
end

