-- ==== Sys2Proof/Machine/Detect.lean ====
section
/-! DEFINITION. The read channel's detection, decoder pools, sector completion and retry ladder (R124 to R151). -/

namespace Sys2Proof.Machine

/-- A flag of a head channel's event register. -/
def raiseCH (h i : Nat) (s : State) : State := raise (evCH h) i s

/-- The staging slots a head channel uses, of 44, and its soft-store entries in use, of 16 (R138, R141). -/
def slotsUsed (c : Chan) : Nat := (c.sectors.filter Sector.slot).length
def hasEntry (w : Codeword) : Bool := w.store.isSome
def softUsed (c : Chan) : Nat := (c.sectors.map fun x => (x.cws.filter hasEntry).length).sum

/-- A sector leaves detection with its attempts; unless it belongs to a verify it is marked for re-read (R13, R136, R148). -/
def rereadSector (h addr : Nat) (s : State) : State :=
  let v := match sectorAt s h addr with | some x => x.verify | none => false
  let s1 := countPending h (dropJobs h addr (updChan h (fun c =>
    { c with
      sectors := c.sectors.filter fun x => decide (x.addr ≠ addr)
      reread := if v = true ∨ addr ∈ c.reread then c.reread else c.reread ++ [addr] }) s))
  if v then verifyFail h addr s1 else s1

/-- The engines of a pool in service, as a mask (R137, R149). -/
def enginesOf (s : State) (q : Nat) : Nat := get s (F.CH_POOL_STATUS_ENGINES (4 * q))
def engineIn (s : State) (q e : Nat) : Bool := decide (bitOf (enginesOf s q) e = 1)
def bitsSet (n v : Nat) : Nat := ((List.range n).filter fun i => decide (bitOf v i = 1)).length

/-- PARTNER_EN, which the running placement engine sets for pool q while q has fewer than 15 engines in service and its
partner all 16 (R303). -/
def partnerCtl (q : Nat) (s : State) : State :=
  if isSet s F.ARB_STATUS_RUNNING then
    putB (F.CH_POOL_CTRL_PARTNER_EN (4 * q)) (decide (bitsSet 16 (enginesOf s q) < 15) && decide (bitsSet 16 (enginesOf s (q ^^^ 1)) = 16)) s
  else s

/-- An engine leaves service (R137). -/
def engineOut (q e : Nat) (s : State) : State :=
  let m := enginesOf s q
  partnerCtl (q ^^^ 1) (partnerCtl q (put (F.CH_POOL_STATUS_ENGINES (4 * q)) (if bitOf m e = 1 then m - 2 ^ e else m) s))

/-- A reset of a head channel brings its four engines into service (R134, R137); those of the pool's other heads stay as they are. -/
def enginesReset (h old fault fence : Nat) (s : State) : State :=
  let q := h / 4
  let m := 15 * 16 ^ (h % 4)
  let clear (v : Nat) : Nat := v - (v &&& m)
  partnerCtl (q ^^^ 1) (partnerCtl q
    (put (F.CH_POOL_STATUS_ENGINES (4 * q)) (old ||| m)
      (put (F.CH_POOL_FAULT (4 * q)) (clear fault) (put (F.CH_POOL_FENCE (4 * q)) (clear fence) s))))

/-- An attempt of rungs 0 or 2 to 6 enters a pool's queue of 256; a later rung that finds it full waits with its sector, behind those
that wait already (R136). -/
def enqueue (j : Job) (s : State) : State :=
  let q := j.head / 4
  poolDepth q (updPool q (fun p => if p.queue.length < 256 then { p with queue := p.queue ++ [j] } else { p with late := p.late ++ [j] }) s)

/-- Whether a rung of the ladder is enabled (R149). -/
def rungOn (s : State) (h r : Nat) : Bool := decide (bitOf (get s (F.CH_LADDER_RUNG_EN h)) (r - 1) = 1)

/-- A sector's loss record goes to the parity engine (R147): its converged codewords stay in the staging slot. -/
def handOver (h addr cause : Nat) (s : State) : State :=
  match sectorAt s h addr with
  | none => s
  | some x =>
    let failed := ((List.range 9).map fun i => if (x.cws.getD i {}).st = 4 then 0 else 2 ^ i).sum
    let mask := if cause = 5 ∨ cause = 6 then 511 else failed
    let last := (x.cws.map Codeword.rung).foldl max 0
    let revs := if isSet s (F.CH_LADDER_STATUS_ACTIVE h) = true ∧ get s (F.CH_LADDER_STATUS_BAND h) = addrBand addr then
      get s (F.CH_LADDER_STATUS_REVS h) else 0
    let s1 := updChan h (fun (c : Chan) =>
      { c with losses := c.losses ++ [⟨addr, h, mask, cause, last, revs⟩] })
      (updSector h addr (fun x =>
        { x with slot := true, rung := 7, cause := cause, cws := x.cws.map fun w =>
            { w with st := if w.st = 4 then 4 else 6, store := none, chan := [], llr := [] } })
        (dropJobs h addr s))
    let s2 := match discOfHead s h with
      | none => s1
      | some d => updDisc d (fun x => { x with losses := x.losses + 1 }) s1
    countPending h (raiseCH h B.CH_EVT_HANDOVER (bump (F.CH_HANDOVER h) 1 (refreshArbours s2)))

/-- Whether the sector is a source of rung 5 for a pending sector of the band: a track within two pitches, or the adjacent band's edge
track beside D0, D1, D30 and D31 (R140, R142). -/
def isSource (c : Chan) (band : Nat) (x : Sector) : Bool :=
  c.sectors.any fun y => pendingSector y && decide (addrBand y.addr = band) && decide (addrSlot y.addr = addrSlot x.addr)
    && decide (addrLayer y.addr = addrLayer x.addr)
    && (let k := addrTrack y.addr
        (decide (addrBand x.addr = band) && decide (addrTrack x.addr ≤ k + 2) && decide (k ≤ addrTrack x.addr + 2))
        || (decide (addrBand x.addr + 1 = band) && decide (addrTrack x.addr = 31) && decide (k ≤ 1))
        || (decide (addrBand x.addr = band + 1) && decide (addrTrack x.addr = 0) && decide (30 ≤ k)))

/-- Sectors staged for rung 5 are pinned until the band's ladder ends (R142). -/
def pinSources (h : Nat) (s : State) : State :=
  if get s (F.CH_LADDER_STATUS_ACTIVE h) = 1 ∧ get s (F.CH_LADDER_STATUS_RUNG h) = 5 then
    updChan h (fun (c : Chan) =>
      { c with sectors := c.sectors.map fun x =>
          if x.staged && isSource c (get s (F.CH_LADDER_STATUS_BAND h)) x then { x with pinned := true } else x }) s
  else s

/-- A verified sector is judged (R165): few enough iterations and erasures, and the CRC-64 field and WRITE_STAMP the formatter
wrote. Either way it is freed. -/
def judgeSector (h : Nat) (x : Sector) (payload : List Nat) (s : State) : State :=
  let w := writeOf s h
  let s1 := updChan h (fun (c : Chan) => { c with sectors := c.sectors.filter fun y => decide (y.addr ≠ x.addr) }) s
  match w.chunks.find? fun c => decide (c.addr = x.addr) with
  | none => s1
  | some c =>
    let ok := x.cws.all (fun w => decide (w.iters ≤ get s (F.WRP_VFY_LIM_ITER_LIM h)) && decide (w.erased ≤ get s (F.WRP_VFY_LIM_ERASE_LIM h)))
      && decide (ofBytesLE ((payload.drop 33280).take 8) = c.crc) && decide (ofBytesLE ((payload.drop 0x20).take 8) = c.stamp)
    if ok = false then verifyFail h x.addr s1
    else if c ∈ w.failed ∨ c ∈ w.passed then s1
    else updWrite h (fun w => { w with passed := w.passed ++ [c] }) s1

/-- The rung of the ladder that a band's revolutions are at, 1 before the first (R139). -/
def ladderRung (s : State) (h addr : Nat) : Nat :=
  if isSet s (F.CH_LADDER_STATUS_ACTIVE h) = true ∧ get s (F.CH_LADDER_STATUS_BAND h) = addrBand addr
      ∧ (chanOf s h).ladLayer = addrLayer addr then max 1 (get s (F.CH_LADDER_STATUS_RUNG h)) else 1

/-- The checks of a sector whose nine codewords converged, in order (R139): after a CRC-64 failure all nine go on to the next rung that
the band's ladder runs. -/
def checkSector (h : Nat) (x : Sector) (s : State) : State :=
  let payload := x.cws.flatMap Codeword.data
  let free (t : State) : State := updChan h (fun (c : Chan) => { c with sectors := c.sectors.filter fun y => decide (y.addr ≠ x.addr) }) t
  if ofBytesLE ((payload.drop 4).take 4) ≠ x.addr then
    let s1 := raiseCH h B.CH_EVT_ADDR_ERR (bump (F.CH_ADDR_ERR h) 1 s)
    if x.verify then verifyFail h x.addr (free s1) else handOver h x.addr 6 s1
  else if ofBytesLE ((payload.drop 33280).take 8) ≠ crc64 (payload.take 33280) then
    let s1 := raiseCH h B.CH_EVT_CRC_FAIL (bump (F.CH_CRC_FAIL h) 1 s)
    if x.verify then verifyFail h x.addr (free s1)
    else countPending h (updSector h x.addr (fun x =>
      { x with cause := 5, crcAt := ladderRung s h x.addr, cws := x.cws.map fun w => { w with st := 5 } }) s1)
  else if x.verify then judgeSector h x payload s
  else countPending h (pinSources h (updSector h x.addr (fun x => { x with staged := true }) s))

/-- A sector is settled once each of its codewords has converged or entered the ladder (R139, R147, R165): it takes a staging
slot or is discarded, counted and flagged (R13, R148), is checked, is handed over, or waits in the ladder. -/
def settleSector (h addr : Nat) (s : State) : State :=
  match sectorAt s h addr with
  | none => s
  | some x =>
    if x.staged ∨ x.rung = 7 ∨ (x.cws.all fun w => decide (4 ≤ w.st) || decide (1 ≤ w.rung)) = false then s
    else if x.slot = false ∧ 44 ≤ slotsUsed (chanOf s h) then
      rereadSector h addr (raiseCH h B.CH_EVT_STAGE_DROP (bump (F.CH_STAGE_DROP h) 1 s))
    else
      let s1 := updSector h addr (fun x => { x with slot := true }) s
      if x.cws.all fun w => decide (w.st = 4) then checkSector h { x with slot := true } s1
      else if x.cws.all fun w => decide (w.st = 4) || decide (w.st = 6) then handOver h addr (if x.cause = 0 then 1 else x.cause) s1
      else if x.verify = true ∧ (x.cws.all fun w => decide (4 ≤ w.st)) = true then rereadSector h addr s1
      else countPending h s1

/-- A codeword fails rung 0 (R131, R140, R141, R148): counted; a sector from a LOST slot is read again; else rung 1 with a
soft-store entry where the rung is enabled, allowed and the codeword was decoded. -/
def failRung0 (h addr i : Nat) (decoded : Bool) (s : State) : State :=
  let s1 := raiseCH h B.CH_EVT_CW_FAIL (bump (F.CH_CW_FAIL0 h) 1 s)
  match sectorAt s h addr with
  | none => s1
  | some x =>
    if x.lost then rereadSector h addr s1
    else if decoded = true ∧ rungOn s h 1 = true ∧ 1 ≤ x.limit then
      if softUsed (chanOf s h) < 16 then
        settleSector h addr (updPool (h / 4) (fun (p : Pool) => { p with soft := p.soft ++ [⟨h, addr, i, 1⟩] })
          (updCw h addr i (fun w => { w with st := 2, rung := 1, store := some w.llr }) s1))
      else settleSector h addr (updCw h addr i (fun w => { w with st := 5 })
        (raiseCH h B.CH_EVT_STORE_FULL (bump (F.CH_STORE_FULL h) 1 s1)))
    else settleSector h addr (updCw h addr i (fun w => { w with st := 5 }) s1)

/-- The released neighbour test of R124 for a slot in its present read: `none` where its codeword i may still be released, else
whether it has been; a blank, abandoned, suppressed or never opened slot releases none. -/
def neighbour (s : State) (h addr i : Nat) : Option Bool :=
  let released := decide (i < mapGet (fun _ => 0) (chanOf s h).seen addr)
  let isOpen := (chanOf s h).slots.any fun o => decide (o.addr = addr)
  if released then some true else if isOpen then none else some false

/-- The addresses of the neighbours of a data track in its slot (R124): D0 and D31 have one. -/
def neighbours (addr : Nat) : List Nat :=
  let k := addrTrack addr
  (if k = 0 then [] else [addr - 32]) ++ (if 31 ≤ k then [] else [addr + 32])

/-- The pending sectors of the band under the ladder, and the codewords pending among them. -/
def inLadder (s : State) (h : Nat) (x : Sector) : Bool :=
  pendingSector x && decide (addrBand x.addr = get s (F.CH_LADDER_STATUS_BAND h)) && decide (addrLayer x.addr = (chanOf s h).ladLayer)
def ladderSectors (s : State) (h : Nat) : List Sector := (chanOf s h).sectors.filter (inLadder s h)
def waitsLadder (x : Sector) : Bool := x.cws.any fun w => decide (w.st = 5)

/-- The pending beams of the band lie in all four groups while the degraded map hides one, so that a read takes two
revolutions (R148). -/
def groupsPending (s : State) (h : Nat) : List Nat :=
  (List.range 4).filter fun g => (ladderSectors s h).any fun x => waitsLadder x && decide (addrTrack x.addr / 8 = g)
def readCost (s : State) (h : Nat) : Nat :=
  if isSet s (F.HL_STATUS_DEGRADED h) = true ∧ (groupsPending s h).length = 4 then 2 else 1

/-! ### Detection of one codeword (R124 to R132) -/

/-- The length of a beam's channel bit in 1/65,536 sample period (R101, R108, R110): N × 6.25 MHz over the wobble-derived rate with the
loop's trim; during a dropout the rate is the wobble-derived one. -/
def clockStep (s : State) (h beam : Nat) : Nat :=
  let trim := if (dropOf s h beam).flag then 0 else (loopOf s h beam).trim
  let rate : Int := (bitsPerWobble64 (fretOf (beamBand s h beam)) * (chanOf s h).nco : Nat) * (1000000000 + trim)
  (roundQuot (6250000 * get s (F.CH_FRET_N h) * 65536 * 64 * 65536 * 1000000000 : Nat) rate.toNat).toNat

/-- The equalizer set in use, and the taps of a beam: reloaded from the active set where one is due, else carried over (R125, R126). -/
def eqOf (s : State) (h beam : Nat) : List Int × List Int := eqSetOf s.tab (fretOf (beamBand s h beam)) (chanOf s h).eqSet
def tapsOf (s : State) (h beam : Nat) : List Int :=
  let c := chanOf s h
  if beam ∈ c.eqReload then (eqOf s h beam).1 else mapGet (fun _ => (eqOf s h beam).1) c.taps beam

/-- The taps codeword i of a slot is equalized with: those it was detected with, where it has been. -/
def tapsFor (s : State) (h addr i : Nat) : List Int :=
  match mapFind (chanOf s h).used (addrTrack addr) with
  | some p => if p.1 = 16 * addr + i then p.2 else tapsOf s h (addrTrack addr)
  | none => tapsOf s h (addrTrack addr)

/-- The resampled values of a beam over the window of a codeword (R100, R104). -/
def valuesOf (s : State) (h : Nat) (g : BeamSignal) : List (Option Int) := resample (clockStep s h g.beam) windowBits g.start g.samples

/-- The equalized values of a beam's codeword, with the wobble of the servo turn beside D0 or D31 subtracted (R129). -/
def eqValues (s : State) (h addr i : Nat) (ys : List (Option Int)) : List (Option Int) :=
  let k := addrTrack addr
  let z := fir (tapsFor s h addr i) ys
  if isSet s (F.CH_DET_CTRL_WOB_CANCEL h) = true ∧ (k = 0 ∨ k = 31) then
    let turn := addrBand addr + (if k = 0 then 0 else 1)
    let mid := (List.range 16).map fun j => get s (F.CH_MEDIA_ID h (j / 4)) / 256 ^ (j % 4) % 256
    let pos (p : Nat) : Nat := slotStart (addrSlot addr) + cwStart i + p - 48
    cancel (mapGet (fun _ => 0) (chanOf s h).wobAmp k)
      ((List.range windowBits).map fun p => wobbleAt ⟨0, turn, addrLayer addr, addrSide addr, 3, 0⟩ mid (fretOf (addrBand addr)) (pos p)) z
  else z

/-- The exact channel bits of a staged sector's codeword with 48 bits on either side, as full-scale estimates (R142). -/
def exactBits (x : Sector) (i : Nat) : List Int :=
  ((slotBits x.addr (x.cws.flatMap Codeword.data)).drop (cwStart i - 48)).take windowBits |>.map fun b => 32768 * pm b

/-- The present address of a track one or two pitches away: within the band, or the adjacent band's edge track beyond the servo turn, which
serves D0, D1, D30 and D31 (R129, R140). -/
def farTrack (addr : Nat) (out : Bool) : Nat :=
  let k := addrTrack addr
  if out then (if k < 30 then addr + 64 else physAddr (addrSide addr) (addrLayer addr) (addrBand addr + 1) 0 (addrSlot addr))
  else (if 1 < k then addr - 64 else physAddr (addrSide addr) (addrLayer addr) (addrBand addr - 1) 31 (addrSlot addr))

/-- Rung 5 is under way for the band of an address (R140). -/
def atRung5 (s : State) (h addr : Nat) : Bool := decide (ladderRung s h addr = 5)

/-- The soft estimates that pass p (1 to 4) of the joint detection gives for the bits of a slot's codeword, empty where it contributes
nothing (R127, R128): pass 0 none; at rung 5 a converged staged sector gives its exact bits (R142). -/
def softPass (s : State) (h i : Nat) (sigs : List BeamSignal) : Nat → Nat → List Int
  | 0, addr => ((if atRung5 s h addr then sectorAt s h addr else none).bind fun x => if x.staged then some (exactBits x i) else none).getD []
  | p + 1, addr =>
    let exact := if atRung5 s h addr then (sectorAt s h addr).bind fun x => if x.staged then some (exactBits x i) else none else none
    match exact with
    | some l => l
    | none =>
      match sigs.find? fun g => decide (g.beam = addrTrack addr) with
      | none => []
      | some g =>
        if neighbour s h addr i ≠ some true then []
        else
          let k := addrTrack addr
          let z := eqValues s h addr i (valuesOf s h g)
          let zi := if k = 0 then z else cancel (getI s (F.CH_ITI_IN h k)) (softPass s h i sigs p (addr - 32)) z
          let zo := if 31 ≤ k then zi else cancel (getI s (F.CH_ITI_OUT h k)) (softPass s h i sigs p (addr + 32)) zi
          softOf (mapDetect (eqOf s h k).2 zo)

/-- The values of the last pass for a slot's codeword: the neighbours' terms subtracted, and at rung 5 those of the tracks two pitches
away (R127, R128, R140, R142). -/
def lastPass (s : State) (h addr i : Nat) (sigs : List BeamSignal) (z : List (Option Int)) : List (Option Int) :=
  if isSet s (F.CH_DET_CTRL_JOINT_EN h) = false then z
  else
    let k := addrTrack addr
    let p := get s (F.CH_DET_CTRL_PASSES h)
    let far (out : Bool) : List Int :=
      let a := farTrack addr out
      if addrBand a = addrBand addr then softPass s h i sigs p a
      else ((sectorAt s h a).bind fun x => if x.staged then some (exactBits x i) else none).getD []
    let zi := if k = 0 then z else cancel (getI s (F.CH_ITI_IN h k)) (softPass s h i sigs p (addr - 32)) z
    let zo := if 31 ≤ k then zi else cancel (getI s (F.CH_ITI_OUT h k)) (softPass s h i sigs p (addr + 32)) zi
    if atRung5 s h addr then
      cancel (Config.farCoef h k true) (far true) (cancel (Config.farCoef h k false) (far false) zo)
    else zo

/-- What the detection of a codeword gives: the equalizer's error, the erased code bits of the primary frame, the channel-bit LLRs with
0 at erased bits, the final-pass errors and the beam's next dropout state and taps. -/
structure Detected where
  mse    : Nat
  erased : Nat
  llrs   : List Int
  errs   : List (Option Int)
  drop   : Dropout
  taps   : List Int
  used   : List Int
  deriving DecidableEq, Repr

/-- Steps 1 to 4 of R124 for codeword i of a slot: equalization, joint detection, erasure masking, channel-bit LLRs. -/
def detect (s : State) (h addr i : Nat) (sigs : List BeamSignal) : Detected :=
  let k := addrTrack addr
  let g := (sigs.find? fun g => decide (g.beam = k)).getD ⟨k, 0, 0, []⟩
  let cfg : DropCfg := ⟨inForce s (F.CH_DROP_CFG_LO h), inForce s (F.CH_DROP_CFG_HI h), inForce s (F.CH_DROP_CFG_SET_LEN h),
    inForce s (F.CH_DROP_CFG_CLR_LEN h), inForce s (F.CH_ERASE_CFG_EXT h)⟩
  let ys := valuesOf s h g
  let d := dropRun cfg g.ref (dropOf s h k) ys
  let marks := ((erasureMarks cfg.ext d.1).zip ys).map fun p => p.1 || p.2.isNone
  let target := (eqOf s h k).2
  let taps := tapsOf s h k
  let z := eqValues s h addr i ys
  let errs := eqErrors (maskErased marks z) target (hardOf (mapDetect target z))
  let zl := lastPass s h addr i sigs z
  let llrs := ((mapDetect target zl).zip marks).map fun p => if p.2 then 0 else p.1
  { mse := eqMse errs target
    erased := erasedCount 2048 (marks.drop 48)
    llrs := llrs
    errs := eqErrors (maskErased marks zl) target (hardOf (mapDetect target zl))
    drop := d.2
    taps := if isSet s (F.CH_DET_CTRL_EQ_ADAPT h) then lmsStep (inForce s (F.CH_EQ_CFG_MU h)) taps ys errs else taps
    used := taps }

/-- The crosstalk coefficients and the wobble amplitude of a beam adapt once per codeword (R127, R129): the final-pass errors against
the neighbours' final decisions; a neighbour whose term is dropped leaves its coefficient. -/
def adaptBeam (h addr i : Nat) (sigs : List BeamSignal) (d : Detected) (s : State) : State :=
  let k := addrTrack addr
  let p := get s (F.CH_DET_CTRL_PASSES h) + 1
  let hard (a : Nat) : List Bool := hardOf (softPass s h i sigs p a)
  let step (f : Fld) (a : Nat) (t : State) : State := if hard a = [] then t else putI f (adaptCoef (getI s f) d.errs (hard a)) t
  let s1 := if isSet s (F.CH_DET_CTRL_JOINT_EN h) then
      (if 31 ≤ k then id else step (F.CH_ITI_OUT h k) (addr + 32)) ((if k = 0 then id else step (F.CH_ITI_IN h k) (addr - 32)) s)
    else s
  if isSet s (F.CH_DET_CTRL_WOB_CANCEL h) = true ∧ (k = 0 ∨ k = 31) then
    updChan h (fun c => { c with wobAmp := mapPut c.wobAmp k (Config.wobbleAmp (mapGet (fun _ => 0) c.wobAmp k) (d.errs.map fun e => e.getD 0)) }) s1
  else s1

/-- The decoder's input of a codeword under a frame hypothesis (R132). -/
def inputOf (s : State) (h addr i : Nat) (δ : Int) (chan : List Int) : List Int := decoderInput addr i (get s (F.CH_LLR_SCALE h)) δ chan

/-- The running sum of rung 6 after a read (R141): LLRs added, saturating at ±127; the first read is taken as it is. -/
def addRead (sum llr : List Int) : List Int := if sum = [] then llr else (sum.zip llr).map fun p => clampInt (-127) 127 (p.1 + p.2)

/-- CODEWORD_DETECT (R124 to R132, R136, R140, R141, R145): codeword `i` of the sector at `addr` is equalized, jointly detected, masked
and converted, once its neighbours' codewords are released or will not be; `sigs` are the samples of its beam and of the beams about it. -/
def execCodewordDetect (h addr i : Nat) (sigs : List BeamSignal) (s : State) : Out :=
  match sectorAt s h addr with
  | none => .next s
  | some x =>
    let w := x.cws.getD i {}
    let k := addrTrack addr
    let near := (neighbours addr).map fun a => neighbour s h a i
    if headInst s h = false ∨ get s F.PWR_STATUS_STATE = 1 ∨ w.st ≠ 1 ∨ none ∈ near then .next s
    else
      let s0 := takeForces [F.CH_EQ_CFG_MU h, F.CH_EQ_CFG_MSE_MAX h, F.CH_DROP_CFG_LO h, F.CH_DROP_CFG_HI h, F.CH_DROP_CFG_SET_LEN h,
        F.CH_DROP_CFG_CLR_LEN h, F.CH_ERASE_CFG_EXT h, F.CH_ERASE_CFG_ERASE_MAX h] s
      let d := detect s0 h addr i sigs
      let s1 := putAll [(F.CH_BEAM_Q_MSE h k, min 65535 d.mse), (F.CH_BEAM_Q_ERASED h k, min 65535 d.erased)]
        (bump (F.CH_ERASE_BITS h) d.erased (updChan h (fun (c : Chan) =>
          { c with
            eqReload := c.eqReload.filter (· ≠ k)
            drops := mapPut c.drops k d.drop
            taps := mapPut c.taps k d.taps
            used := mapPut c.used k (16 * addr + i, d.used) }) (adaptBeam h addr i sigs d s0)))
      let s2 := if isSet s (F.CH_DET_CTRL_JOINT_EN h) then bump (F.CH_ITI_SKIP h) (near.filter (· = some false)).length s1 else s1
      let s3 := if inForce s2 (F.CH_EQ_CFG_MSE_MAX h) < d.mse then
          raiseCH h B.CH_EVT_EQ_RESET (bump (F.CH_EQ_RESET h) 1 (updChan h (fun (c : Chan) => { c with eqReload := k :: c.eqReload }) s2))
        else s2
      let dom := decide (inForce s3 (F.CH_ERASE_CFG_ERASE_MAX h) < d.erased)
      let llr := inputOf s3 h addr i 0 d.llrs
      let s4 := updCw h addr i (fun w =>
        { w with erased := d.erased, dominated := if w.rung = 0 then dom else w.dominated, llr := llr
                 chan := if w.rung = 2 then d.llrs else []
                 store := if w.rung = 6 then w.store.map fun l => addRead l llr else w.store }) s3
      if w.rung = 0 then
        if dom then .next (failRung0 h addr i false s4)
        else if 256 ≤ (getPool s4 (h / 4)).queue.length then
          .next (rereadSector h addr (raiseCH h B.CH_EVT_QUEUE_DROP (bump (F.CH_QUEUE_DROP h) 1 s4)))
        else .next (enqueue ⟨h, addr, i, 0⟩ (updCw h addr i (fun w => { w with st := 2 }) s4))
      else if dom then
        if w.rung = 2 ∧ w.dominated = true then
          .next (settleSector h addr (updSector h addr (fun x => { x with cause := 4 })
            (updCw h addr i (fun w => { w with st := 6 }) (raiseCH h B.CH_EVT_PERSIST_ERASE (bump (F.CH_PERSIST h) 1 s4)))))
        else .next (updCw h addr i (fun w => { w with st := 5 }) s4)
      else if w.rung = 6 ∧ w.store = some [] then .next (updCw h addr i (fun w => { w with st := 5 }) s4)
      else
        let more : List Int := if isSet s (F.CH_DET_CTRL_ALT_FRAME h) then [1, -1, 2, -2] else []
        .next (enqueue ⟨h, addr, i, w.rung⟩
          (updCw h addr i (fun w => { w with st := 2, hyps := if w.rung = 2 then w.hyps ++ more else [] }) s4))

/-! ### Decoder pools (R133 to R137) -/

/-- The head whose attempt of rungs 2 to 6 takes the free engine, with the round robin's new values (R135). -/
def chooseHead (s : State) (q : Nat) : Option Nat × Map Int :=
  let p := getPool s q
  let waits (j : Nat) : Bool := p.queue.any fun x => decide (x.head = 4 * q + j) && decide (2 ≤ x.rung)
  let weight (j : Nat) : Nat := max 1 (get s (F.CH_DEC_WEIGHT (4 * q + j)))
  let js := (List.range 4).filter waits
  let total := (js.map weight).sum
  let cur (j : Nat) : Int := mapGet (fun _ => 0) p.cur j + weight j
  let best := js.foldl (fun (b : Option Nat) j =>
    match b with
    | none => some j
    | some i => if cur i < cur j then some j else some i) none
  match best with
  | none => (none, [])
  | some b => (some (4 * q + b), js.map fun j => (j, if j = b then cur j - (total : Int) else cur j))

/-- The next attempt a free engine of a pool takes (R135): rung 0 in order, rungs 2 to 6 by the round robin, rung 1 below
R1_LOW, of the pool's own soft store or of a partner that allows it. -/
def nextJob (s : State) (q : Nat) : Option Job × State :=
  let p := getPool s q
  let take (j : Job) (t : State) : State := poolDepth q (updPool q (fun (p : Pool) => { p with queue := p.queue.erase j }) t)
  match p.queue.find? fun j => decide (j.rung = 0) with
  | some j => (some j, take j s)
  | none =>
    match chooseHead s q with
    | (some hd, cur) =>
      match p.queue.find? fun j => decide (j.head = hd) && decide (2 ≤ j.rung) with
      | some j => (some j, take j (updPool q (fun (p : Pool) => { p with cur := cur }) s))
      | none => (none, s)
    | (none, _) =>
      if get s (F.CH_POOL_CTRL_R1_LOW (4 * q)) ≤ p.queue.length then (none, s)
      else
        match p.soft with
        | j :: js => (some j, updPool q (fun (p : Pool) => { p with soft := js }) s)
        | [] =>
          match (getPool s (q ^^^ 1)).soft with
          | j :: js =>
            if isSet s (F.CH_POOL_CTRL_PARTNER_EN (4 * (q ^^^ 1))) then
              (some j, updPool (q ^^^ 1) (fun (p : Pool) => { p with soft := js }) s)
            else (none, s)
          | [] => (none, s)

/-- The iteration limit of an attempt (R133). -/
def iterLimit (s : State) (h rung : Nat) : Nat :=
  let c (v : Nat) : Nat := min 40 (max 1 v)
  let i0 := c (inForce s (F.CH_LDPC_CFG_ITER0 h))
  if rung = 0 then i0 else max i0 (c (inForce s (F.CH_LDPC_CFG_ITER1 h)))

/-- DECODE_ATTEMPT_START (R133, R135): an engine in service without an attempt takes the next one, with the limit, ALPHA and STALL in
force at its start. -/
def execDecodeAttemptStart (q e : Nat) (s : State) : Out :=
  if 16 ≤ q ∨ 16 ≤ e ∨ engineIn s q e = false ∨ get s F.PWR_STATUS_STATE = 1 ∨ (getPool s q).busy.any (fun b => decide (b.engine = e)) = true then .next s
  else
    match nextJob s q with
    | (none, _) => .next s
    | (some j, s1) =>
      let s2 := takeForces [F.CH_LDPC_CFG_ITER0 j.head, F.CH_LDPC_CFG_ITER1 j.head, F.CH_LDPC_CFG_STALL j.head, F.CH_LDPC_CFG_ALPHA j.head] s1
      let a : Attempt := { engine := e, job := j, limit := iterLimit s2 j.head j.rung,
                           alpha := inForce s2 (F.CH_LDPC_CFG_ALPHA j.head), stall := inForce s2 (F.CH_LDPC_CFG_STALL j.head) }
      .next (updCw j.head j.addr j.cw (fun w => { w with st := 3 })
        (updPool q (fun (p : Pool) => { p with busy := p.busy ++ [a] }) s2))

/-- An attempt ends without convergence (R140): rung 1 frees its soft-store entry, rung 2 goes on to the next frame
hypothesis over the same soft values, and otherwise the codeword stays pending. -/
def failAttempt (j : Job) (s : State) : State :=
  if j.rung = 0 then failRung0 j.head j.addr j.cw true s
  else
    let w : Codeword := match sectorAt s j.head j.addr with | none => {} | some x => x.cws.getD j.cw {}
    match (if j.rung = 2 then w.hyps else []) with
    | δ :: rest =>
      enqueue j (updCw j.head j.addr j.cw (fun w =>
        { w with st := 2, hyps := rest, llr := inputOf s j.head j.addr j.cw δ w.chan }) s)
    | [] => settleSector j.head j.addr (updCw j.head j.addr j.cw (fun w =>
        { w with st := 5, chan := [], llr := [], store := if j.rung = 6 then w.store else none }) s)

/-- The decoder's input of an attempt: the soft-store entry at rungs 1 and 6, else the codeword's LLRs. -/
def attemptInput (s : State) (j : Job) : List Int :=
  match sectorAt s j.head j.addr with
  | none => []
  | some x =>
    let w := x.cws.getD j.cw {}
    if j.rung = 1 ∨ j.rung = 6 then w.store.getD w.llr else w.llr

/-- What an attempt comes to on its input, limit and configuration (R133, R134). -/
def attemptOutcome (s : State) (a : Attempt) : Decoded := minSum a.alpha a.stall a.limit (attemptInput s a.job)

/-- DECODE_ATTEMPT_END (R133 to R135, R139): the attempt of an engine ends: converged, with its 3,712 payload bytes, or not; or, where the
queue reached R1_HIGH, stopped at the end of its iteration `ran` to start again from its soft-store entry. -/
def execDecodeAttemptEnd (q e ran : Nat) (s : State) : Out :=
  match (getPool s q).busy.find? fun b => decide (b.engine = e) with
  | none => .next s
  | some a =>
    let j := a.job
    let h := j.head
    let r := attemptOutcome s a
    let stopped := a.stop && decide (ran < r.iters)
    let n := if stopped then max 1 ran else r.iters
    let s1 := bump (F.CH_ITER_SUM h) n (updPool q (fun (p : Pool) => { p with busy := p.busy.filter fun b => decide (b.engine ≠ e) }) s)
    let s2 := if bitOf (get s (F.CH_POOL_FENCE (4 * q))) e = 1 then engineOut q e s1 else s1
    if stopped then
      .next (updPool (h / 4) (fun (p : Pool) => { p with soft := j :: p.soft }) (updCw h j.addr j.cw (fun w => { w with st := 2 }) s2))
    else
      let s3 := updCw h j.addr j.cw (fun w => { w with iters := w.iters + n }) s2
      if r.ok then
        let s4 := updCw h j.addr j.cw (fun w => { w with st := 4, store := none, chan := [], llr := [], hyps := [], data := payloadOf r.bits })
          (bump (F.CH_CW_DECODED h) 1 (bump (F.CH_ITER_HIST h (n - 1)) 1 s3))
        .next (settleSector h j.addr (if j.rung = 0 then s4 else bump (F.CH_RUNG1_OK h (j.rung - 1)) 1 s4))
      else .next (failAttempt j s3)

/-- ENGINE_FAULT (R137, R535): the engine is fenced, its attempt returns to the head of its level; the pool's window closes at
once. -/
def execEngineFault (q e : Nat) (s : State) : Out :=
  if 16 ≤ q ∨ 16 ≤ e ∨ engineIn s q e = false then .next s
  else
    let h := 4 * q + e / 4
    let s1 := match (getPool s q).busy.find? fun b => decide (b.engine = e) with
      | none => s
      | some a =>
        let j := a.job
        let back := updPool q (fun (p : Pool) => { p with busy := p.busy.filter fun b => decide (b.engine ≠ e) })
          (updCw j.head j.addr j.cw (fun w => { w with st := 2 }) s)
        if j.rung = 1 then updPool (j.head / 4) (fun (p : Pool) => { p with soft := j :: p.soft }) back
        else poolDepth q (updPool q (fun (p : Pool) => { p with queue := j :: p.queue }) back)
    let s2 := engineOut q e (put (F.CH_POOL_FAULT (4 * q)) (get s1 (F.CH_POOL_FAULT (4 * q)) ||| 2 ^ e) s1)
    .next (closeWindow Dom.pool q (if isExposed s Dom.pool q then 1 else 0) (openWindow Dom.pool q h (raiseCH h B.CH_EVT_ENGINE_FAULT s2)))

/-- POOL_FENCE_WRITE (R137, R149): idle engines named leave service at once, busy ones after their attempt; clearing a bit
brings none back. -/
def execPoolFenceWrite (h v : Nat) (s : State) : Out :=
  if headInst s h = false then .next s
  else
    let q := h / 4
    let idle := (List.range 16).filter fun e => decide (bitOf v e = 1) && !((getPool s q).busy.any fun b => decide (b.engine = e))
    .next (forAll idle (fun e t => engineOut q e t) (put (F.CH_POOL_FENCE (4 * q)) v s))

/-! ### The retry ladder (R139 to R148) -/

/-- DEC_WEIGHT while a head's ladder serves reads of a class (R303): classes 0 and 1, only scrub or consolidation (4), others. -/
def ladderWeight (cls : Nat) : Nat := if cls ≤ 1 then 15 else if cls = 4 then 2 else 8

/-- The servo's offsets under the ladder, in nm (R140, R175). -/
def ladderOffset (h : Nat) (track focus : Int) (s : State) : State :=
  putI (F.SV_OFFSET_TRACK_OFS h) track (putI (F.SV_OFFSET_FOCUS_OFS h) focus s)

/-- A change of the active equalizer set reloads every beam's taps (R125). -/
def useEqSet (h v : Nat) (s : State) : State :=
  updChan h (fun (c : Chan) => if c.eqSet = v then c else { c with eqSet := v, eqReload := List.range 32 }) s

/-- The lowest band with pending sectors, with its layer, and the number of bands that hold some (R143). -/
def lowestBand (s : State) (h : Nat) : Option (Nat × Nat) :=
  ((chanOf s h).sectors.filter pendingSector).foldl (fun (b : Option (Nat × Nat)) x =>
    match b with
    | none => some (addrBand x.addr, addrLayer x.addr)
    | some p => if addrBand x.addr < p.1 then some (addrBand x.addr, addrLayer x.addr) else some p) none
def pendingBands (s : State) (h : Nat) : Nat :=
  (((chanOf s h).sectors.filter pendingSector).map fun x => (addrLayer x.addr, addrBand x.addr)).dedup.length

/-- The slots of the band that hold pending sectors: those a retry revolution needs (R143, R189). -/
def neededSlots (s : State) (h : Nat) : List Nat :=
  (List.range 31).filter fun sl => (ladderSectors s h).any fun x => waitsLadder x && decide (addrSlot x.addr = sl)

/-- The ladder goes on to the lowest band that holds pending sectors, on which the servo holds the head, or ends (R143, R303). -/
def startBand (h : Nat) (s : State) : State :=
  match lowestBand s h with
  | none =>
    ladderFollow h (countPending h (putAll [(F.CH_LADDER_STATUS_ACTIVE h, 0), (F.CH_LADDER_STATUS_RUNG h, 0)]
      (if isSet s F.ARB_STATUS_RUNNING then put (F.CH_DEC_WEIGHT h) 8 s else s)))
  | some (b, l) =>
    let s1 := countPending h (putAll [(F.CH_LADDER_STATUS_ACTIVE h, 1), (F.CH_LADDER_STATUS_BAND h, b), (F.CH_LADDER_STATUS_RUNG h, 1),
      (F.CH_LADDER_STATUS_REVS h, 0)]
      (updChan h (fun c => { c with ladLayer := l, sub := 0, part := 0, again := false, repeated := false, adjacent := [] }) s))
    ladderHold h b l (neededSlots s1 h) s1

/-- A band's ladder ends: pins are released, the offsets and the equalizer set return to normal (R140, R142). -/
def endBand (h : Nat) (s : State) : State :=
  startBand h (ladderOffset h 0 0 (useEqSet h 0 (updChan h (fun (c : Chan) =>
    { c with sectors := (c.sectors.filter fun x => !x.pinned || x.staged).map fun x => { x with pinned := false } }) s)))

/-- LADDER_START (R143, R303): once the head's read extent has ended, or MAX_BANDS bands hold pending sectors, the ladder begins with the
lowest of them, serving reads of class `cls`. -/
def execLadderStart (h cls : Nat) (ended : Bool) (s : State) : Out :=
  if headInst s h = false ∨ isSet s (F.CH_LADDER_STATUS_ACTIVE h) = true ∨ lowestBand s h = none
      ∨ (ended = false ∧ pendingBands s h < get s (F.CH_LADDER_MAX_BANDS h)) then .next s
  else .next (startBand h (if isSet s F.ARB_STATUS_RUNNING then put (F.CH_DEC_WEIGHT h) (ladderWeight cls) s else s))

/-- The pending sectors of the band that satisfy a condition leave the ladder with a cause; a CRC failure with no rung left
keeps cause 5 (R139, R146, R147). -/
def leaveLadder (h cause : Nat) (p : Sector → Bool) (s : State) : State :=
  ((ladderSectors s h).filter fun x => waitsLadder x && p x).foldl (fun t x =>
    handOver h x.addr (if x.cause = 5 ∧ cause ≤ 2 then 5 else cause) t) s

/-- LADDER_TRUNCATE (R148): every pending sector goes to rung 7 with cause Truncated. -/
def truncateLadder (h : Nat) (s : State) : State :=
  let xs := (chanOf s h).sectors.filter pendingSector
  if xs = [] then s
  else endBand h (raiseCH h B.CH_EVT_TRUNC (bump (F.CH_TRUNC h) xs.length (xs.foldl (fun t x => handOver h x.addr 7 t) s)))

/-- The next enabled rung above r, at most 6 (R143). -/
def nextRung (s : State) (h r : Nat) : Option Nat := ((List.range 5).map (· + 2)).find? fun x => decide (r < x) && rungOn s h x

/-- Pending codewords in the order of R141: by slot, beam and codeword index, as pairs of sector address and index; the sectors whose CRC-64
failed at the present rung wait for the next (R139). -/
def pendingInOrder (s : State) (h : Nat) (p : Codeword → Bool) : List (Nat × Nat) :=
  let r := get s (F.CH_LADDER_STATUS_RUNG h)
  (List.range 31).flatMap fun sl => (List.range 32).flatMap fun k =>
    ((ladderSectors s h).filter fun x => decide (addrSlot x.addr = sl) && decide (addrTrack x.addr = k) && decide (x.crcAt < r)).flatMap fun x =>
      ((List.range 9).filter fun i => decide ((x.cws.getD i {}).st = 5) && p (x.cws.getD i {})).map fun i => (x.addr, i)

/-- Whether an adjacent band's edge track beside a slot must be read at rung 5 (R142): its sector is written, was not found blank, and its
payload is no longer staged. -/
def edgeToRead (s : State) (h addr : Nat) : Bool :=
  let c := chanOf s h
  let written := match discOfHead s h with
    | none => false
    | some d => match homeOrd s d addr with
      | none => false
      | some o => decide (o < max (getDisc s d).rows (getSet s (getDisc s d).set).nextOrd)
  written && decide (addr ∉ c.blanks) && !(c.sectors.any fun x => decide (x.addr = addr) && x.staged)

/-- The adjacent bands that rung 5 must read first (R142, R144): band i−1 for D0 and D1, band i+1 for D30 and D31. -/
def adjacentBands (s : State) (h : Nat) : List Nat :=
  let b := get s (F.CH_LADDER_STATUS_BAND h)
  let needs (out : Bool) (p : Nat → Bool) : Bool :=
    (ladderSectors s h).any fun x => waitsLadder x && p (addrTrack x.addr) && edgeToRead s h (farTrack x.addr out)
  (if 0 < b ∧ needs false (fun k => decide (k ≤ 1)) = true then [b - 1] else []) ++ (if needs true (fun k => decide (30 ≤ k)) then [b + 1] else [])

/-- The rung's first revolution is prepared: the adjacent bands of rung 5 that must be read, the group of rung 6 with its soft-store
entries (R141, R144). -/
def enterRung (h r : Nat) (s : State) : State :=
  let adj := if r = 5 then adjacentBands s h else []
  let s1 := put (F.CH_LADDER_STATUS_RUNG h) r
    (updChan h (fun c => { c with sub := 0, part := 0, again := false, repeated := false, adjacent := adj }) s)
  if r = 6 then
    ((pendingInOrder s1 h fun w => decide (w.store = none)).take (16 - softUsed (chanOf s1 h))).foldl
      (fun t p => updCw h p.1 p.2 (fun w => { w with store := some [] }) t) s1
  else s1

/-- A retry revolution is taken at the present rung (R140, R144, R148): budget-tested, counted, the pending codewords it reads
made ready, the offsets and the equalizer set of the rung in force, the head held on the band it reads, a suppressed group chosen without
pending beams. `part` of the channel tells where the present read stands: 0 it is complete, 1 its second revolution is still to come, 2 that
one was taken. -/
def takeRevolution (h : Nat) (s : State) : State :=
  let revs := get s (F.CH_LADDER_STATUS_REVS h)
  if get s (F.CH_LADDER_BUDGET h) ≤ revs then
    endBand h (raiseCH h B.CH_EVT_BUDGET (leaveLadder h 3 (fun _ => true) s))
  else
    let r := get s (F.CH_LADDER_STATUS_RUNG h)
    let band := get s (F.CH_LADDER_STATUS_BAND h)
    let c := chanOf s h
    let second := decide (c.part = 1)
    let adj := if second then none else c.adjacent[c.sub]?
    let cost := if second then 2 else if adj.isSome then 1 else readCost s h
    let n := (if second then c.sub - 1 else c.sub) - c.adjacent.length
    let sign : Int := if n = 0 then 1 else -1
    let t := get s (F.CH_LADDER_OFS_TRACK_OFS h)
    let f := get s (F.CH_LADDER_OFS_FOCUS_OFS h)
    let reads (x : Sector) : Bool := adj.isNone && decide (x.crcAt < r)
      && (if cost = 2 then (if second then decide (addrTrack x.addr / 8 = 3) else decide (addrTrack x.addr / 8 ≠ 3)) else true)
    let ready (w : Codeword) : Codeword :=
      if w.st = 5 ∧ (r ≠ 6 ∨ w.store ≠ none) then { w with st := 0, rung := r, chan := [], llr := [] } else w
    let hide := if cost = 2 then (if second then some 0 else some 3)
      else if isSet s (F.HL_STATUS_DEGRADED h) then
        (if adj.isSome then some 1 else (List.range 4).find? fun g => decide (g ∉ groupsPending s h)) else none
    let s1 := updChan h (fun (c : Chan) =>
      { c with
        sub := if second then c.sub else c.sub + 1, part := if second then 2 else cost - 1, again := false, seen := []
        sectors := c.sectors.map fun x => if inLadder s h x && waitsLadder x && reads x then { x with cause := if x.cause = 5 then 0 else x.cause, cws := x.cws.map ready } else x }) s
    let s2 := ladderOffset h (if r = 3 then sign * t else 0) (if r = 4 then sign * f else 0) (useEqSet h (if r = 2 then 1 else 0) s1)
    let m : MountSt := mapGet (fun _ => {}) s.lib.mounts (bayOf h)
    let s2 := { s2 with lib := { s2.lib with mounts := mapPut s2.lib.mounts (bayOf h) { m with retry := m.retry + 1 } } }
    let s3 := bump (F.CH_RETRY_REV h) 1 (put (F.CH_LADDER_STATUS_REVS h) (revs + 1) s2)
    let s4 := ladderHold h (adj.getD band) c.ladLayer (neededSlots s h) s3
    pinSources h (match hide with
      | some g => if g = get s (F.HL_STATUS_GROUP h) then s4 else sendLane h 1 (get s (F.HL_STATUS_FAILED_LANE h)) g s4
      | none => s4)

/-- The band moves to its next rung (R140, R146): sectors beyond their limit leave, and with no rung left all do. -/
def climb (h : Nat) (s : State) : State :=
  let r := get s (F.CH_LADDER_STATUS_RUNG h)
  match nextRung s h r with
  | none => endBand h (leaveLadder h 1 (fun _ => true) s)
  | some n =>
    let s1 := leaveLadder h 2 (fun x => decide (max x.limit (slotLimit s h x.addr) < n)) s
    if ladderSectors s1 h = [] then endBand h s1 else takeRevolution h (enterRung h n s1)

/-- Rung 6 after a group's reads: its unconverged codewords leave the ladder, sectors whose CRC-64 failed here go to rung 7, and the next
group of 16 follows (R139, R141). -/
def nextGroup (h : Nat) (s : State) : State :=
  let gone := pendingInOrder s h fun w => decide (w.store ≠ none)
  let s1 := gone.foldl (fun t p => updCw h p.1 p.2 (fun w => { w with st := 6, store := none }) t) s
  let s2 := gone.foldl (fun t p => settleSector h p.1 (updSector h p.1 (fun x => { x with cause := if x.cause = 5 then 5 else 1 }) t)) s1
  let s3 := leaveLadder h 5 (fun x => decide (x.crcAt = 6)) s2
  if ladderSectors s3 h = [] then endBand h s3 else takeRevolution h (enterRung h 6 s3)

/-- The reads of a rung (R140): one at rungs 2 and 5, two at 3 and 4, four at 6. -/
def rungReads (r : Nat) : Nat := if r = 2 ∨ r = 5 then 1 else if r = 3 ∨ r = 4 then 2 else if r = 6 then 4 else 0

/-- RETRY_REVOLUTION (R139 to R148): the codewords that the last revolution did not read are pending again, then the next
revolution of the ladder is taken: the rest of the same read, the same rung's next read, a repeat after an abandoned slot, the next rung, or
the band ends. It waits for attempts of the band under way, and rung 6 for the soft-store entries of rung 1. -/
def execRetryRevolution (h : Nat) (s : State) : Out :=
  let flying := (chanOf s h).sectors.any fun x => inLadder s h x
    && x.cws.any fun w => decide (1 ≤ w.rung) && decide (1 ≤ w.st) && decide (w.st ≤ 3)
  let rung1 := (chanOf s h).sectors.any fun x => x.cws.any fun w => decide (w.rung = 1) && w.store.isSome
  if headInst s h = false ∨ isSet s (F.CH_LADDER_STATUS_ACTIVE h) = false ∨ flying = true then .next s
  else
    let s1 := updChan h (fun (c : Chan) =>
      { c with sectors := c.sectors.map fun x =>
          if inLadder s h x then { x with cws := x.cws.map fun w => if w.st = 0 ∧ 2 ≤ w.rung then { w with st := 5 } else w } else x }) s
    let r := get s1 (F.CH_LADDER_STATUS_RUNG h)
    let c := chanOf s1 h
    let left := (ladderSectors s1 h).any fun x => decide (x.crcAt < r) && x.cws.any fun w => decide (w.st = 5) && (decide (r ≠ 6) || decide (w.store ≠ none))
    if ladderSectors s1 h = [] then .next (endBand h s1)
    else if c.again = true ∧ c.repeated = false then
      .next (takeRevolution h (updChan h (fun c =>
        if c.part = 2 then { c with part := 1, repeated := true } else { c with sub := c.sub - 1, part := 0, repeated := true }) s1))
    else if c.again = true then .next (climb h s1)
    else if left = true ∧ (c.part = 1 ∨ c.sub < rungReads r + c.adjacent.length) then .next (takeRevolution h s1)
    else if r = 6 then .next (if rung1 then s1 else nextGroup h s1)
    else if nextRung s1 h r = some 6 ∧ rung1 = true then .next s1
    else .next (climb h s1)

/-- DET_CLR_CNT (R150): the counters from 0x580 to 0x5dc, POOL_PEAK and ITER_HIST. -/
def execDetClrCnt (h : Nat) (s : State) : Out :=
  if headInst s h = false then .next s
  else .next (clearAll ([F.CH_CW_DECODED h, F.CH_CW_FAIL0 h] ++ (List.range 6).map (F.CH_RUNG1_OK h) ++ [F.CH_HANDOVER h, F.CH_CRC_FAIL h,
    F.CH_ADDR_ERR h, F.CH_ERASE_BITS h, F.CH_ITER_SUM h, F.CH_RETRY_REV h, F.CH_STAGE_DROP h, F.CH_QUEUE_DROP h, F.CH_STORE_FULL h,
    F.CH_EQ_RESET h, F.CH_PERSIST h, F.CH_TRUNC h, F.CH_ITI_SKIP h, F.CH_POOL_PEAK (4 * (h / 4))] ++ (List.range 40).map (F.CH_ITER_HIST h)) s)

end Sys2Proof.Machine
end

