-- ==== Sys2Proof/Machine/Servo.lean ====
section
/-! DEFINITION. Focus, tracking, tilt and seek: the servo block and its errors, address units, pull-in, holds, seeks, layer
jumps, band holds and retract (R31 to R33, R65, R66, R70, R100, R107, R173 to R200). -/

namespace Sys2Proof.Machine

/-- Whether |TE| or |FE|, in 1/64 nm, exceeds a limit in nm. -/
def beyond (e : Int) (lim : Nat) : Bool := decide (64 * lim < e.natAbs)

/-- A signed 16-bit field of the servo block. -/
def sbInt (bytes : List Nat) (o : Nat) : Int := toSigned 16 (ofBytesLE ((bytes.drop o).take 2))
def sbNat (bytes : List Nat) (o n : Nat) : Nat := ofBytesLE ((bytes.drop o).take n)

/-- The servo beams' validity and references after one sample (R174). -/
def beamSample (h j sum : Nat) (s : State) : State :=
  let v := servoOf s h
  let f := if j = 0 then F.SV_REF_REF_0 h else F.SV_REF_REF_1 h
  let ref := get s f
  let inside := decide (get s (F.SV_DEFECT_DEF_LO h) * ref ≤ 256 * sum) && decide (128 * sum ≤ get s (F.SV_DEFECT_DEF_HI h) * ref)
  let outRun := if inside then 0 else mapGet (fun _ => 0) v.runs j + 1
  let inRun := if inside then mapGet (fun _ => 0) v.runs (2 + j) + 1 else 0
  let inv := if j ∈ v.invalid then decide (inRun < get s (F.SV_DEFECT_DEF_CLR h)) else decide (max 1 (get s (F.SV_DEFECT_DEF_SET h)) ≤ outRun)
  let s1 := updServo h (fun v =>
    { v with
      runs := mapPut (mapPut v.runs j outRun) (2 + j) inRun
      invalid := if inv then (if j ∈ v.invalid then v.invalid else v.invalid ++ [j]) else v.invalid.filter (· ≠ j) }) s
  if inv then s1 else put f (min 65535 (min (max ref sum) (max (min ref sum) (Config.lowPass1k ref sum)))) s1

/-- Focus, tracking and tilt errors and skew of one servo block (R175), in 1/64 nm and saturating; with both beams invalid no
new error is formed. -/
def formErrors (h : Nat) (b : List Nat) (s : State) : State :=
  let v := servoOf s h
  let ok := [0, 1].filter fun j => decide (j ∉ v.invalid)
  let fe (j : Nat) : Int := sbInt b (8 + 6 * j)
  let sum (j : Nat) : Nat := sbNat b (10 + 6 * j) 2
  let te (j : Nat) : Int := sbInt b (12 + 6 * j)
  if ok = [] then s
  else
    let sat (x : Int) : Int := clampInt (-8388608) 8388608 x
    let cal := get s (F.SV_LAYER_CAL_FE_PP h (get s (F.SV_POS_LAYER h)))
    let f := roundQuot (64 * (ok.map fe).sum * get s (F.SV_SPAN_FE_SPAN h) * Config.ppUnit) ((ok.map sum).sum * cal)
    let num : Int := if ok = [0, 1] then te 0 * sum 1 + te 1 * sum 0 else (ok.map te).sum
    let den : Nat := if ok = [0, 1] then 2 * sum 0 * sum 1 else (ok.map sum).sum
    let t := piQuot (64 * 3630 * Config.ppUnit * num) (den * v.tePp)
    let k := piQuot (3630 * Config.ppUnit * (te 0 * sum 1 - te 1 * sum 0)) (sum 0 * sum 1 * v.tePp)
    let feN := sat (f - 64 * inForceI s (F.SV_OFFSET_FOCUS_OFS h))
    let teN := sat (t - 64 * inForceI s (F.SV_OFFSET_TRACK_OFS h))
    let errs := ((feN, teN) :: v.errs).take 4096
    let s1 := updServo h (fun v => { v with fe := feN, te := teN, tilt := sbInt b 20, errs := errs }) s
    putI (F.SV_SKEW h) (clampInt (-32768) 32767 k)
      (put (F.SV_ERR_FE h) (min 65535 (rms (errs.map Prod.fst))) (put (F.SV_ERR_TE h) (min 65535 (rms (errs.map Prod.snd))) s1))

/-- The runs that the limits of R179 and R185 count, after a sample. -/
def countRuns (h : Nat) (s : State) : State :=
  let v := servoOf s h
  let st := get s (F.SV_STATUS_STATE h)
  let offl := get s (F.SV_LIMITS_OFFTRACK_LIM h)
  let closed := decide (3 ≤ st ∧ st ≤ 6)
  let track := decide (st = 4 ∨ st = 5)
  updServo h (fun v =>
    { v with
      missRun := 0
      holdLen := if st = 8 then v.holdLen + 1 else v.holdLen
      feRun := if closed && beyond v.fe (get s (F.SV_LIMITS_FOCUS_ERR_LIM h)) then v.feRun + 1 else 0
      teRun := if track && beyond v.te offl then v.teRun + 1 else 0
      teClear := if track && decide (2 * v.te.natAbs < 64 * offl) then v.teClear + 1 else 0
      steady := if st = 5 then v.steady && decide (v.te.natAbs < 64 * offl) else v.steady }) (if v.invalid = [] then s else s)

/-- The pulse table that the head has made active stands in WRP.PULSE (R160, R161). -/
def pulseInForce (h : Nat) (s : State) : State :=
  match (linkOf s h).commitSf with
  | none => s
  | some sf =>
    if tick s < sf ∨ bitOf (linkOf s h).status 1 = 0 then s
    else
      let t := (writeOf s h).coming
      putAll ((List.range 34).map fun i => (F.WRP_PULSE h i, ofBytesLE ((t.drop (4 * i)).take 4)))
        (updHead h (fun (x : Head) =>
          { x with link := { x.link with commitSf := none }, wr := { x.wr with inactive := x.wr.active, active := t } }) s)

/-- The beam timing loops of a head start again from the wobble phase (R100). -/
def restartLoops (h : Nat) (s : State) : State := updChan h (fun c => { c with loops := [] }) s

/-- Two decoded copies of codeword 0 agree in bytes 0 to 35, but for the lane number of byte 7, which differs by lane (R65, R66). -/
def sameCopy (c d : List Nat) : Bool := decide ((c.take 36).set 7 0 = (d.take 36).set 7 0)

/-- A zero crossing between two samples: from positive to negative (`down`), or from negative to positive. -/
def crosses (down : Bool) (a b : Int) : Bool := if down then decide (0 < a) && decide (b ≤ 0) else decide (a < 0) && decide (0 ≤ b)

/-- A sample of the focus sweep (R180, R181): the setpoint moves on; a capture is a zero crossing of FE with enough Σ SUM_j, from positive
to negative on the way in and the other way on the way back (log entry 70). The calibration sweep records each layer's Σ SUM_j at its
crossing and the peak-to-peak normalised FE of its S-curve, and turns back once the S-curve of the twelfth capture is complete. -/
def sweepSample (h : Nat) (fe : Int) (sum : Nat) (s : State) : State :=
  let v := servoOf s h
  let hit := crosses (!v.back) v.feN fe && decide (get s (F.SV_PULLIN_CAP_SUM h) * Config.nominalSum < 256 * sum)
  let starts := crosses v.back v.feN fe
  let layer := if v.captures < 12 then v.captures else 23 - v.captures
  let hi := if starts then fe else max v.feHi fe
  let lo := if starts then fe else min v.feLo fe
  let own := if starts then none else if hit && v.calSweep && decide (v.captures < 24) then some layer else v.capLayer
  let s1 := match own with
    | none => s
    | some l => put (F.SV_LAYER_CAL_FE_PP h l) (min 65535 (roundQuot ((hi - lo) * (Config.ppUnit : Nat)) (2 ^ 20)).toNat)
        (if hit then put (F.SV_LAYER_CAL_SUM h l) (min 65535 sum) s else s)
  updServo h (fun v =>
    { v with sweepPos := if v.back then v.sweepPos - 1 else v.sweepPos + 1, capHit := hit,
             captures := if hit then v.captures + 1 else v.captures, feHi := hi, feLo := lo, capLayer := own,
             back := v.back || (v.calSweep && starts && decide (12 ≤ v.captures)) }) s1

/-- A sample of the tracking pull-in (R182): TE_PP over the first 8 crossings; then a crossing of negative slope whose interval since the
previous crossing exceeds TRK_CLOSE may close tracking. -/
def pullSample (h : Nat) (te : Int) (s : State) : State :=
  let v := servoOf s h
  let down := crosses true v.teN te
  let any := down || crosses false v.teN te
  let hi := max v.teHi te
  let lo := min v.teLo te
  updServo h (fun v =>
    { v with
      teHi := if v.teCount < 8 then hi else v.teHi
      teLo := if v.teCount < 8 then lo else v.teLo
      teCount := if any then v.teCount + 1 else v.teCount
      tePp := if any = true ∧ v.teCount = 7 then (roundQuot ((hi - lo) * (Config.ppUnit : Nat)) (2 ^ 20)).toNat else v.tePp
      teLast := if any then tick s else v.teLast
      trkHit := decide (8 ≤ v.teCount) && down
        && decide (160000 * (4 * get s (F.SV_PULLIN_TRK_CLOSE h)) < 390625 * (tick s - v.teLast)) }) s

/-- A sample of a radial move (R183, R187): a TE cycle brings the spot to the next servo turn in the direction of the move, which counts down
the bands that remain and counts the position; a coarse seek ends as a fine one. -/
def moveSample (h : Nat) (te : Int) (s : State) : State :=
  let v := servoOf s h
  if crosses (decide (v.remain < 0)) v.teN te = false ∨ v.remain = 0 then s
  else
    let r := v.remain - v.remain.sign
    put (F.SV_POS_BAND h) (((get s (F.SV_POS_BAND h) : Nat) : Int) + v.remain.sign).toNat
      (updServo h (fun v => { v with remain := r, mode := if v.mode = 3 ∧ r.natAbs ≤ get s (F.SV_SEEK_FINE_MAX h) then 2 else v.mode }) s)

/-- The layers a jump crosses (R191), and a sample of it: FE crossings of the jump's slope are counted, and the mirror pulse begins when the
last one is near. -/
def jumpLayers (s : State) (h : Nat) : Nat := (((servoOf s h).jumpTo : Int) - (get s (F.SV_POS_LAYER h) : Nat)).natAbs
def jumpSample (h : Nat) (fe : Int) (s : State) : State :=
  let v := servoOf s h
  let deeper := decide (get s (F.SV_POS_LAYER h) < v.jumpTo)
  let n := if crosses deeper v.feN fe then v.cross + 1 else v.cross
  let m := jumpLayers s h
  updServo h (fun v =>
    { v with cross := n
             brakeAt := if v.brakeAt = none ∧ m ≤ n + 1 ∧ Config.nearCrossing m (tick s - v.since) = true then some (tick s) else v.brakeAt }) s

/-- What a servo sample does to the sequence under way (R180 to R182, R187, R191): nothing is counted with both beams invalid (R191, R197).
The sweep takes both beams' signals, since no loop is closed and their references still follow (log entry 70). -/
def servoSequence (h : Nat) (b : List Nat) (s : State) : State :=
  let v := servoOf s h
  let st := get s (F.SV_STATUS_STATE h)
  let sum := sbNat b 10 2 + sbNat b 16 2
  let fe := roundQuot ((sbInt b 8 + sbInt b 14) * 2 ^ 20) sum
  let ok := [0, 1].filter fun j => decide (j ∉ v.invalid)
  let part (j : Nat) : Int := sbInt b (12 + 6 * j) * (if ok.length = 2 then sbNat b (10 + 6 * (1 - j)) 2 else 1 : Nat)
  let te := roundQuot ((ok.map part).sum * 2 ^ 20) (if ok.length = 2 then 2 * sbNat b 10 2 * sbNat b 16 2 else (ok.map fun j => sbNat b (10 + 6 * j) 2).sum)
  if st = 2 then updServo h (fun v => { v with feN := fe, sumN := sum }) (sweepSample h fe sum s)
  else if ok = [] then s
  else updServo h (fun v => { v with feN := fe, sumN := sum, teN := te })
    (if st = 3 then pullSample h te s
      else if st = 6 ∧ v.landed = false then moveSample h te s
      else if st = 7 then jumpSample h fe s
      else s)

/-- The decoded copies of the servo block in this superframe (R65, R66): lane and bytes, by ascending lane. -/
def servoCopies (k : Link) : List (Nat × List Nat) :=
  (List.range 4).filterMap fun l => match (mapGet (fun _ => []) k.rx l).getD 0 none with
    | some (1, bytes) => if l ∈ lanesInUse k then some (l, bytes) else none
    | _ => none

/-- The copy that finishes decoding first, of those at the same time that of the lowest lane, with its time (R66); and the others. -/
def firstCopy (time : Nat → Nat) (cs : List (Nat × List Nat)) : Option (Nat × List Nat) :=
  cs.foldl (fun best c => match best with
    | none => some c
    | some b => if time c.1 < time b.1 then some c else best) none

/-- SERVO_BLOCK (R65, R66, R70, R100, R174, R175): `times` gives, for each lane, the ns from the departure of the downstream marker to the
delivery of its servo block. -/
def execServoBlock (h : Nat) (times : List Nat) (s : State) : Out :=
  let cs := servoCopies (linkOf s h)
  match firstCopy (fun l => times.getD l 0) cs with
  | none => .next s
  | some (lane, bytes) =>
  if headInst s h = false ∨ get s (F.HL_STATUS_STATE h) ≠ 5 ∨ (linkOf s h).served = true then .next s
  else
    let k := linkOf s h
    let latency := times.getD lane 0
    let later := (cs.filter fun c => decide (latency < times.getD c.1 0)).map Prod.snd
    let nS := sbNat bytes 4 2
    let fp := bytes.getD 6 0
    let n := get s (F.CH_FRET_N h)
    let off : Int := 4 * (k.phase : Int) + 1024 * k.nS - 15625 * n - 4 * fp
    let disc := k.timing && decide (64 < off.natAbs) && isSet s (F.CH_CTRL_EN h)
    let s1 := updLink h (fun k =>
      { k with copy := bytes.take 36, copySf := sbNat bytes 0 4, nS := nS, phase := fp, timing := true, served := true, samples := [],
               flags := sbNat bytes 22 2, status := sbNat bytes 32 4 }) s
    let s2 := putAll [(F.HL_TELEM0_LASER_T h, sbNat bytes 24 2), (F.HL_TELEM0_I_READ h, sbNat bytes 26 2),
      (F.HL_TELEM1_I_WRITE h, sbNat bytes 28 2), (F.HL_TELEM1_I_BIAS h, sbNat bytes 30 2),
      (F.HL_LAT_LAST h, min 65535 latency), (F.HL_LAT_PEAK h, max (get s (F.HL_LAT_PEAK h)) (min 65535 latency))] s1
    let bad := (later.filter fun c => decide (sameCopy c bytes = false)).length
    let s3 := if 0 < bad then raise (evHL h) B.HL_EVT_SERVO_MISMATCH (bump (F.HL_SERVO_CNT_MISMATCH h) bad s2) else s2
    let s4 := if get s (F.HL_LAT_LIMIT h) < latency then raise (evHL h) B.HL_EVT_LAT_EXCEED s3 else s3
    let s5 := if disc then restartLoops h
        (abandonSlots h (fun _ => true) (raiseCH h B.CH_EVT_SAMPLE_DISC (bump (F.CH_SAMPLE_DISC h) 1 s4)))
      else s4
    let s6 := takeForces [F.SV_OFFSET_TRACK_OFS h, F.SV_OFFSET_FOCUS_OFS h] (pulseInForce h s5)
    let s7 := beamSample h 1 (sbNat bytes 16 2) (beamSample h 0 (sbNat bytes 10 2) s6)
    .next (permits h (countRuns h (servoSequence h bytes (formErrors h bytes s7))))

/-- SERVO_MISS (R78, R186): a superframe without a servo block counts as one hold sample. -/
def execServoMiss (h : Nat) (s : State) : Out :=
  let k := linkOf s h
  if headInst s h = false ∨ get s (F.HL_STATUS_STATE h) ≠ 5 ∨ k.served = true ∨ servoCopies k ≠ [] then .next s
  else
    let st := get s (F.SV_STATUS_STATE h)
    .next (bump (F.SV_MISS h) 1 (raise (evHL h) B.HL_EVT_SERVO_MISS (bump (F.HL_SERVO_CNT_MISS h) 1 (updHead h (fun (x : Head) =>
      { x with
        link := { x.link with timing := false, served := true, samples := [] }
        sv := { x.sv with missRun := x.sv.missRun + 1, holdLen := if st = 8 then x.sv.holdLen + 1 else x.sv.holdLen } }) s))))

/-- An address mismatch (R32, R183): the address becomes the present position, and a corrective seek to the intended band and
layer follows, at most three for one command. -/
def addrMismatch (h : Nat) (u : AddrUnit) (s : State) : State :=
  let s1 := raiseCH h B.CH_EVT_ADDR_MISMATCH (bump (F.CH_ADDR_MISMATCH h) 1 s)
  let s2 := putAll [(F.SV_POS_BAND h, u.turn), (F.SV_POS_LAYER h, u.layer), (F.SV_POS_SIDE h, u.side)]
    (updChan h (fun c => { c with bands := [], differ := 0, expect := none }) (abandonSlots h (fun _ => true) (clearConfirm h s1)))
  let st := get s (F.SV_STATUS_STATE h)
  match (servoOf s h).target with
  | none => s2
  | some (b, l) =>
    if (st < 4 ∨ 6 < st) ∨ (u.turn = b ∧ u.layer = l) then s2
    else if 3 ≤ (servoOf s h).corr then seekFailed h s2
    else startSeek h b l (raise (evSV h) B.SV_EVT_ADDR_CORRECT (bump (F.SV_CORRECTIVE h) 1
      (updServo h (fun v => { v with corr := v.corr + 1 }) s2)))

/-- The servo is on track at its intended place (R178, R187): the command under way completes. -/
def onTarget (h : Nat) (s : State) : State :=
  updServo h (fun v => { v with corr := 0, landed := false, mode := 0, remain := 0, entering := false, seeking := false, seekBack := false })
    (svDone h (svState h 5 s))

/-- The settle time of a move has passed since its landing (R187): JUMP_SETTLE for jumps, SETTLE otherwise. -/
def settled (s : State) (h : Nat) : Bool :=
  let v := servoOf s h
  let us := if v.mode ≤ 1 then get s (F.SV_JUMP_JUMP_SETTLE h) else 2 * get s (F.SV_SEEK_SETTLE h)
  decide (160000 * us ≤ 390625 * (tick s - v.landAt))

/-- At least 200 µs remain before the seam (R190): what is left of the turn at nominal speed. -/
def seamFar (s : State) (h : Nat) : Bool :=
  let turn := 131072 * 65536
  let rev := if get s (F.CH_CTRL_SPEED h) = 0 then 160 else 80
  decide (200 * rev * turn ≤ (turn - phaseW s h) * 10 ^ 6)

/-- A landed and settled move with a confirmed address (R187, R190): on track where it is the intended place; an ENTER that landed too close
to the seam waits for the following revolution; elsewhere a mismatch. -/
def arrive (h : Nat) (u : AddrUnit) (s : State) : State :=
  let v := servoOf s h
  let there := match v.target with | none => true | some (b, l) => decide (u.turn = b) && decide (u.layer = l)
  if settled s h = false then s
  else if there = false then addrMismatch h u s
  else if v.entering = true ∧ seamFar s h = false then s
  else onTarget h s

/-- The address is confirmed (R32, R107, R178, R183, R196); the first confirmation after training sends ADC_CFG with N_f (R117). -/
def confirmAddr (h : Nat) (u : AddrUnit) (s : State) : State :=
  let s1 := updHead h (fun (x : Head) =>
    { x with
      ch := { x.ch with bands := [], expect := some u, differ := 0 }
      sv := { x.sv with lastConf := some (u.turn, u.layer, u.side) } }) s
  let s2 := putAll [(F.CH_STATUS_ADDR_CONF h, 1), (F.CH_ADDR_BAND h, u.turn), (F.CH_ADDR_LAYER h, u.layer), (F.CH_ADDR_SIDE h, u.side),
    (F.CH_ADDR_CONFIRMED h, 1), (F.SV_POS_BAND h, u.turn), (F.SV_POS_LAYER h, u.layer), (F.SV_POS_SIDE h, u.side),
    (F.SV_POS_CONFIRMED h, 1), (F.CH_FRET_FRET h, fretOf u.turn)] s1
  let s2 := if (chanOf s h).askedFret = none ∧ get s (F.HL_STATUS_STATE h) = 5 then askFret h (fretOf u.turn) 0 s2 else s2
  let s3 := permits h (raiseCH h B.CH_EVT_ADDR_CONFIRMED s2)
  let st := get s (F.SV_STATUS_STATE h)
  let v := servoOf s h
  let there := match v.target with | none => true | some (b, l) => decide (u.turn = b) && decide (u.layer = l)
  if st = 4 then
    if there then onTarget h s3
    else if v.seekBack then
      match v.target with
      | some (b, l) => startSeek h b l (updServo h (fun v => { v with seekBack := false }) s3)
      | none => s3
    else addrMismatch h u s3
  else if st = 6 ∧ v.landed = true then arrive h u s3
  else s3

/-- The unit that follows an address unit on the disc (R31). -/
def nextUnit (u : AddrUnit) : AddrUnit := if u.unit = 511 then { u with unit := 0, turn := u.turn + 1 } else { u with unit := u.unit + 1 }
def sameUnit (a b : AddrUnit) : Bool := decide (a.unit = b.unit ∧ a.turn = b.turn ∧ a.layer = b.layer ∧ a.side = b.side)

/-- The disc of a head is foreign media (R33, R57): the inventory reports state 6, with the head's event. -/
def foreignDisc (h : Nat) (s : State) : State :=
  let s1 := updChan h (fun c => { c with foreign := true }) s
  headEvent h (match discOfHead s h with
    | none => s1
    | some d => pageChanged 0xc1 (updDisc d (fun x => { x with state := 6, set := 0xffff }) s1))

/-- The media identifier and the format revision that accepted units carry (R33): a disc is foreign at the second consecutive accepted unit
of another format revision that agrees with the first and with the count; as for confirmation, a unit that is not accepted between them breaks no
run (log entry 72). -/
def mediaUnit (h : Nat) (u : AddrUnit) (agrees : Bool) (s : State) : State :=
  let c := chanOf s h
  let mid := if u.unit = 0 then [u.mid] else if 16 ≤ u.unit then c.mid
    else if agrees && decide (u.unit = c.mid.length) then c.mid ++ [u.mid] else []
  let same := match c.last with | none => false | some p => decide (p.fmt = u.fmt)
  let run := if u.fmt = 3 then 0 else if agrees && same then c.foreignRun + 1 else 1
  let s0 := if 2 ≤ run ∧ c.foreign = false then foreignDisc h s else s
  let s1 := updChan h (fun c => { c with mid := mid, foreignRun := run }) s0
  if mid.length = 16 ∧ u.unit = 15 then
    let s2 := putAll ((List.range 4).map fun i => (F.CH_MEDIA_ID h i, ofBytesLE ((mid.drop (4 * i)).take 4))) s1
    if isSet s (F.CH_STATUS_MEDIA_ID_VALID h) then s2
    else raiseCH h B.CH_EVT_MEDIA_ID (put (F.CH_STATUS_MEDIA_ID_VALID h) 1 s2)
  else s1

/-- φ_w at the end of an address unit: the start of the next one (R31, R105). -/
def unitPhase (u : AddrUnit) : Nat := (u.unit + 1) % 512 * 256 * 65536 * 409600

/-- The next unit by count, where one was accepted before (R32). -/
def countUnit (h : Nat) (s : State) : State :=
  updChan h (fun c => { c with last := c.last.map nextUnit, expect := c.expect.map nextUnit }) s

/-- ADDRESS_UNIT (R31 to R33, R105, R107): the 64 bits `w` of one address unit have passed, accepted where USYNC and UCRC are correct, else
counted; `rms` and `worst` are the wobble phase error over its 256 periods. In HOLD the unit passes unread and the count goes on. The first
accepted unit settles the phase φ_w. -/
def execAddressUnit (h w rms worst : Nat) (s : State) : Out :=
  if headInst s h = false ∨ get s (F.CH_CTRL_EN h) = 0 ∨ (wpllSt s h ≠ 2 ∧ wpllSt s h ≠ 3) then .next s
  else if wpllSt s h = 3 then .next (countUnit h s)
  else
    let c := chanOf s h
    let prev := c.last.map nextUnit
    let exp := c.expect.map nextUnit
    let u := unitFields w
    let s0 := peak (F.CH_WPLL_ERR_PEAK h) (min 65535 worst) (put (F.CH_WPLL_ERR_RMS h) (min 65535 rms) s)
    if unitGood w = false then .next (updChan h (fun c => { c with mid := [] }) (countUnit h (bump (F.CH_UCRC_ERR h) 1 s0)))
    else
      let agrees := match prev with | some p => sameUnit p u | none => false
      let s1 := updChan h (fun c =>
          { c with last := some u, expect := exp, phi := if c.phiOk then c.phi else unitPhase u, phiOk := true })
        (mediaUnit h u agrees s0)
      if isSet s (F.CH_STATUS_ADDR_CONF h) then
        match exp with
        | none => .next (updChan h (fun c => { c with expect := some u }) s1)
        | some e =>
          if sameUnit e u then
            let s2 := putAll [(F.CH_ADDR_BAND h, u.turn), (F.SV_POS_BAND h, u.turn)] (updHead h (fun (x : Head) =>
              { x with ch := { x.ch with differ := 0 }, sv := { x.sv with lastConf := some (u.turn, u.layer, u.side) } }) s1)
            .next (if get s (F.SV_STATUS_STATE h) = 6 ∧ (servoOf s h).landed = true then arrive h u s2 else s2)
          else if 2 ≤ c.differ then .next (addrMismatch h u s1)
          else .next (updChan h (fun c => { c with differ := c.differ + 1 }) s1)
      else if agrees then .next (confirmAddr h u (updChan h (fun c => { c with phi := unitPhase u }) s1)) else .next s1

/-- DEFECT_HOLD (R184): both servo beams are invalid. -/
def execDefectHold (h : Nat) (s : State) : Out :=
  let st := get s (F.SV_STATUS_STATE h)
  let v := servoOf s h
  if headInst s h = false ∨ st < 4 ∨ 6 < st ∨ 0 ∉ v.invalid ∨ 1 ∉ v.invalid then .next s
  else .next (svState h 8 (bump (F.SV_DEFECT_HOLDS h) 1 (updServo h (fun v => { v with heldFrom := st, holdLen := 0, held := 7 }) s)))

/-- Focus is lost (R185): counted, and the lens retracts. -/
def focusLost (h : Nat) (s : State) : State :=
  retractHead h 1 (raise (evSV h) B.SV_EVT_FOCUS_LOSS (bump (F.SV_FOCUS_LOSS h) 1 s))

/-- The cells resume from the held state (R184). -/
def holdEnds (h : Nat) (s : State) : State :=
  svState h (servoOf s h).heldFrom (updServo h (fun v => { v with held := 0 }) s)

/-- Whether a hold has lasted longer than DEF_MAX (R185): samples of 2.4414 µs against units of 4 µs. -/
def holdTooLong (s : State) (h : Nat) : Bool := decide (4 * 4096 * get s (F.SV_DEFECT_DEF_MAX h) < 10000 * (servoOf s h).holdLen)

/-- DEFECT_HOLD_END (R184): a beam is valid again within DEF_MAX. -/
def execDefectHoldEnd (h : Nat) (s : State) : Out :=
  let v := servoOf s h
  if headInst s h = false ∨ get s (F.SV_STATUS_STATE h) ≠ 8 ∨ (0 ∈ v.invalid ∧ 1 ∈ v.invalid) ∨ holdTooLong s h = true then .next s
  else .next (holdEnds h s)

/-- DEFECT_LONG (R185): the hold has lasted longer than DEF_MAX; focus is lost unless a beam has recovered with FE within
limits, and then the position comes from the address. -/
def execDefectLong (h : Nat) (s : State) : Out :=
  let v := servoOf s h
  if headInst s h = false ∨ get s (F.SV_STATUS_STATE h) ≠ 8 ∨ holdTooLong s h = false then .next s
  else
    let s1 := raise (evSV h) B.SV_EVT_DEFECT_LONG s
    if (0 ∈ v.invalid ∧ 1 ∈ v.invalid) ∨ beyond v.fe (get s (F.SV_LIMITS_FOCUS_ERR_LIM h)) = true then .next (focusLost h s1)
    else .next (holdEnds h (clearConfirm h s1))

/-- FOCUS_LOST (R185): 8 samples in a row beyond FOCUS_ERR_LIM outside a hold. -/
def execFocusLost (h : Nat) (s : State) : Out :=
  let st := get s (F.SV_STATUS_STATE h)
  if headInst s h = false ∨ st < 3 ∨ 6 < st ∨ (servoOf s h).feRun < 8 then .next s else .next (focusLost h s)

/-- OFFTRACK_EPISODE (R179): 4 samples in a row beyond OFFTRACK_LIM. -/
def execOfftrackEpisode (h : Nat) (s : State) : Out :=
  let v := servoOf s h
  if headInst s h = false ∨ v.teRun < 4 ∨ v.offTrack = true then .next s
  else .next (permits h (raise (evSV h) B.SV_EVT_OFFTRACK (bump (F.SV_OFFTRACK h) 1
    (updServo h (fun v => { v with offTrack := true, steady := false }) s))))

/-- OFFTRACK_EPISODE_END (R179): 64 samples in a row below half the limit. -/
def execOfftrackEpisodeEnd (h : Nat) (s : State) : Out :=
  let v := servoOf s h
  if headInst s h = false ∨ v.teClear < 64 ∨ v.offTrack = false then .next s
  else .next (permits h (updServo h (fun v => { v with offTrack := false, steady := true }) s))

/-- MISS_LIMIT (R186): MISS_MAX consecutive missing samples. -/
def execMissLimit (h : Nat) (s : State) : Out :=
  let st := get s (F.SV_STATUS_STATE h)
  if headInst s h = false ∨ st < 2 ∨ 8 < st ∨ (servoOf s h).missRun < max 1 (get s (F.SV_LIMITS_MISS_MAX h)) then .next s
  else .next (retractHead h 2 (raise (evSV h) B.SV_EVT_MISS_LIMIT s))

/-- Pending sectors of the ladder are truncated by a move away from their bands (R148). -/
def seekAway (h band layer : Nat) (s : State) : State :=
  if (chanOf s h).sectors.any fun x => pendingSector x && decide (addrLayer x.addr = layer) && decide (addrBand x.addr ≤ band + 1)
      && decide (band ≤ addrBand x.addr + 1) then s
  else truncateLadder h s

/-- A SEEK, HOLD_BAND or ENTER command (R170, R181, R187, R197). -/
def moveCmd (h op band layer : Nat) (slots : List Nat) (s : State) : State :=
  let st := get s (F.SV_STATUS_STATE h)
  let w := get s (F.WRP_STATUS_STATE h)
  let s0 := writeSvCmd h op band layer s
  let pulling := decide (st = 2) || (decide (st = 3) && !(servoOf s h).openRange
    && !(decide (get s (F.SV_CMD_STATUS_BUSY h) = 1) && decide ((servoOf s h).cmdOp ≤ 2)))
  if st < 2 ∨ 9 ≤ st ∨ pulling = true then svRefuse h op s0
  else if layer ≠ get s (F.SV_POS_LAYER h) ∧ (12 ≤ layer ∨ get s (F.SV_LAYER_CAL_FE_PP h layer) = 0) then svRefuse h op s0
  else if 1 ≤ w ∧ w ≤ 5 then updServo h (fun v => { v with deferred := some (op, band, layer, slots) }) (svBegin h op s0)
  else beginMove h op band layer slots (seekAway h (if op = 2 then band - 1 else band) layer (svBegin h op s0))

/-- SEEK (R187). -/
def execSeek (h band layer : Nat) (s : State) : Out :=
  if headInst s h = false then .next s else .next (moveCmd h 0 band layer [] s)

/-- HOLD_BAND (R189), with the set of needed slots. -/
def execHoldBand (h band layer : Nat) (slots : List Nat) (s : State) : Out :=
  if headInst s h = false then .next s else .next (moveCmd h 1 band layer slots s)

/-- ENTER (R190). -/
def execEnter (h band layer : Nat) (s : State) : Out :=
  if headInst s h = false then .next s else .next (moveCmd h 2 band layer [] s)

/-- SV_FOLLOW (R189, R199): the band hold ends. -/
def execSvFollow (h : Nat) (s : State) : Out :=
  let st := get s (F.SV_STATUS_STATE h)
  if headInst s h = false then .next s
  else
    let s0 := put (F.SV_CMD_OP h) 3 s
    if st < 2 ∨ 9 ≤ st then .next (svRefuse h 3 s0)
    else .next (svDone h (put (F.SV_STATUS_BAND_HOLD h) 0 (updServo h (fun v => { v with hold := none }) (svBegin h 3 s0))))

/-- SEEK_TARGET_CROSSING (R187): the target crossing is reached once no band remains to cross; tracking closes and settling begins. -/
def execSeekTargetCrossing (h : Nat) (s : State) : Out :=
  let v := servoOf s h
  if headInst s h = false ∨ get s (F.SV_STATUS_STATE h) ≠ 6 ∨ v.landed = true ∨ v.mode = 0 ∨ v.remain ≠ 0 then .next s
  else .next (updHead h (fun (x : Head) =>
    { x with ch := { x.ch with bands := [] }, sv := { x.sv with landed := true, landAt := tick s } }) s)

/-- SEEK_FAIL (R187): 50 ms, 20,480 servo ticks, from the start of a seek without landing. -/
def execSeekFail (h : Nat) (s : State) : Out :=
  let st := get s (F.SV_STATUS_STATE h)
  let v := servoOf s h
  if headInst s h = false ∨ v.seeking = false ∨ tick s < v.seekAt + 20480 ∨ st < 3 ∨ 7 < st ∨ st = 5 then .next s
  else .next (seekFailed h s)

/-- FOCUSED is entered (R182): the measurement of TE_PP starts afresh. -/
def enterFocused (h : Nat) (s : State) : State :=
  svState h 3 (updServo h (fun v => { v with teCount := 0, teHi := v.teN, teLo := v.teN, teLast := tick s, trkHit := false, capHit := false }) s)

/-- LAYER_JUMP_FOCUS_CLOSE (R191): focus closes at the target layer's crossing, and tracking is pulled in again. -/
def execLayerJumpFocusClose (h : Nat) (s : State) : Out :=
  if headInst s h = false ∨ get s (F.SV_STATUS_STATE h) ≠ 7 ∨ (servoOf s h).cross < jumpLayers s h then .next s
  else .next (enterFocused h (bump (F.SV_LAYER_JUMPS h) 1 (put (F.SV_POS_LAYER h) (servoOf s h).jumpTo s)))

/-- Whether the interval around the seam leaves room for a jump (R188, R189): the free slots in units of the revolution
against the jump time, the settle time, 512 wobble periods and 64 channel bits. -/
def seamFits (s : State) (h : Nat) (free : Nat) : Bool :=
  let n := 12 + fretOf (get s (F.SV_POS_BAND h))
  let rev := if get s (F.CH_CTRL_SPEED h) = 0 then 160 else 80
  let den := rev * n
  let x : Int := free * 10 ^ 9 - 1000 * get s (F.SV_JUMP_JUMP_SETTLE h) * den - (n * 10 ^ 9 + 255) / 256 - 201613
  decide (0 ≤ x) && decide ((4 * 363000 * 10 ^ 6 * den ^ 2 : Int) ≤ x * x * get s (F.SV_JUMP_JUMP_ACC h))

/-- SEAM_JUMP (R189): under a band hold the head jumps back one band. With room in the free interval around the seam, before the seam where
more of the interval lies before it, landing on band i−1, else after it, landing on band i. Where it is too short, over the first needed slot
after the seam and over the last before it in turn, whose read is abandoned. -/
def execSeamJump (h : Nat) (s : State) : Out :=
  match (servoOf s h).hold with
  | none => .next s
  | some (band, slots) =>
    let n := 12 + fretOf band
    let firstN := slots.min?.getD n
    let before := n - 1 - slots.max?.getD 0
    let before := if slots = [] then 0 else before
    let v := servoOf s h
    let fits := seamFits s h (firstN + before)
    let early := if fits then decide (firstN < before) else v.altSeam
    let pos := get s (F.SV_POS_BAND h)
    if headInst s h = false ∨ get s (F.SV_STATUS_STATE h) ≠ 5 ∨ pos ≠ (if early then band else band + 1) then .next s
    else
      let lost := if early then slots.max?.getD 0 else firstN
      let s1 := if fits then s
        else abandonSlots h (fun o => decide (addrSlot o.addr = lost)) (updHead h (fun (x : Head) =>
          { x with
            sv := { x.sv with altSeam := !x.sv.altSeam }
            ch := { x.ch with again := x.ch.again || x.ch.sectors.any fun y => inLadder s h y && decide (addrSlot y.addr = lost) } }) s)
      .next (startSeek h (pos - 1) (get s (F.SV_POS_LAYER h)) s1)

/-- The conditions of R180 for a pull-in; a shadowless fault (R194) or a laser shutdown (R447) keeps the head retracted. -/
def pullInOk (s : State) (h : Nat) : Bool :=
  let b := bayOf h
  let nom : Nat := if get s (F.CH_CTRL_SPEED h) = 0 then 96000 else 48000
  decide (get s (F.HL_STATUS_STATE h) = 5) && isSet s (F.HL_CTRL_LASER_PERMIT h) && isSet s (F.MOT_STATUS_SPEED_LOCK b)
    && decide ((getI s (F.MOT_SPEED b) - nom).natAbs * 100 ≤ 3 * nom) && decide ((servoOf s h).noLoop = [])
    && decide (bitOf (get s F.THM_LASER_STATE) h = 0)

/-- A focus sweep starts (R180, R181). -/
def startSweep (h layer : Nat) (cal : Bool) (s : State) : State :=
  svState h 2 (updServo h (fun v =>
    { v with jumpTo := layer, captures := 0, calSweep := cal, openRange := false, landed := false, mode := 0, remain := 0, held := 0,
             sweepPos := 0, back := false, feN := 0, feHi := 0, feLo := 0, capHit := false, capLayer := none })
    (clearConfirm h s))

/-- A PULLIN command (R180, R181, R197): from RETRACTED only. -/
def pullIn (h layer : Nat) (cal : Bool) (s : State) : State :=
  let s0 := putB (F.SV_CMD_CAL h) cal (putAll [(F.SV_CMD_LAYER h, layer), (F.SV_CMD_OP h, 4)] s)
  if get s (F.SV_STATUS_STATE h) ≠ 1 ∨ pullInOk s h = false then svRefuse h 4 s0
  else startSweep h (layer % 16) cal (updServo h (fun v => { v with target := none, pullFail := 0, seekBack := false }) (svBegin h 4 s0))

/-- PULLIN (R180). -/
def execPullin (h layer : Nat) (cal : Bool) (s : State) : Out :=
  if headInst s h = false then .next s else .next (pullIn h layer cal s)

/-- FOCUS_CAPTURE (R180, R181): the focus cell closes on the sample that is capture number LAYER + 1; with the calibration sweep, on the
target layer's capture of the way back. -/
def execFocusCapture (h : Nat) (s : State) : Out :=
  let v := servoOf s h
  let close := v.capHit && (if v.calSweep then decide (12 < v.captures) && decide (v.captures + v.jumpTo = 24)
    else decide (v.captures = v.jumpTo + 1))
  if headInst s h = false ∨ get s (F.SV_STATUS_STATE h) ≠ 2 ∨ close = false then .next s
  else .next (enterFocused h (put (F.SV_POS_LAYER h) v.jumpTo s))

/-- PULL_TIMEOUT (R180, R182): PULL_TIMEOUT ms in SWEEP or FOCUSED; the first failure retracts and the sweep is repeated; the second enters FAILED. -/
def execPullTimeout (h : Nat) (s : State) : Out :=
  let st := get s (F.SV_STATUS_STATE h)
  if headInst s h = false ∨ (st ≠ 2 ∧ st ≠ 3) ∨ 390625 * (tick s - (servoOf s h).since) < 160000000 * get s (F.SV_PULLIN_PULL_TIMEOUT h) then .next s
  else
    let s1 := updHead h (fun (x : Head) =>
      { x with sv := { x.sv with pullFail := x.sv.pullFail + 1, why := 3, held := 7, base := x.sv.coils, seeking := false, hold := none }, wr := { x.wr with closeReq := true } }) s
    if (servoOf s h).pullFail = 0 then .next (svState h 9 (bump (F.SV_RETRACTS h) 1 (put (F.SV_STATUS_BAND_HOLD h) 0 s1)))
    else .next (raise (evSV h) B.SV_EVT_FOCUS_FAIL (svState h 10 (svResult h 4 (bump (F.SV_RETRACTS h) 1 (put (F.SV_STATUS_BAND_HOLD h) 0 s1)))))

/-- TRACKING_CAPTURE (R178, R182, R191, R193): tracking and tilt close at a crossing slow enough, and TRACKING is entered; after a lens-range opening the lens
must be back within SLED_WARN. A seek under way goes on with its radial move. -/
def execTrackingCapture (h : Nat) (s : State) : Out :=
  let v := servoOf s h
  if headInst s h = false ∨ get s (F.SV_STATUS_STATE h) ≠ 3 ∨ v.trkHit = false
      ∨ (v.openRange = true ∧ 32 * get s (F.SV_SLED_SLED_WARN h) < (getI s (F.SV_LENS h)).natAbs) then .next s
  else
    let s1 := svState h 4 (updServo h (fun v => { v with pullFail := 0, openRange := false, held := 0 }) s)
    match v.target with
    | none => .next s1
    | some (b, _) => if v.seeking = true ∧ b ≠ get s (F.SV_POS_BAND h) then .next (startRadial h s1) else .next s1

/-- RETRACT (R195, R197). -/
def execRetract (h : Nat) (s : State) : Out :=
  let st := get s (F.SV_STATUS_STATE h)
  if headInst s h = false then .next s
  else
    let s0 := put (F.SV_CMD_OP h) 5 s
    if st < 2 ∨ 9 ≤ st then .next (svRefuse h 5 s0)
    else
      let s1 := retractHead h 0 s0
      .next (putAll [(F.SV_CMD_STATUS_BUSY h, 1), (F.SV_CMD_STATUS_OP h, 5), (F.SV_CMD_STATUS_RESULT h, 0)]
        (updServo h (fun v => { v with cmdAt := now s, corr := 0, cmdOp := 5 }) s1))

/-- RETRACT_COMPLETE (R195, R196): at T_FOCUS the laser is off and the lens parked; a failed first pull-in is repeated, and after
focus loss or the miss limit the servo pulls in by itself and seeks back. A parked head's link is switched off (R444). -/
def execRetractComplete (h : Nat) (s : State) : Out :=
  if headInst s h = false ∨ get s (F.SV_STATUS_STATE h) ≠ 9
      ∨ 390625 * (tick s - (servoOf s h).since) < 16000000 * get s (F.SV_RETRACT_T_FOCUS h) then .next s
  else
    let v := servoOf s h
    let s1 := raise (evSV h) B.SV_EVT_RETRACTED (clearConfirm h (updHead h (fun (x : Head) =>
      { x with
        sv := { x.sv with coils := [Config.parkValue, 0, 0], offAfter := false }
        link := { x.link with laser := 0, ds := { x.link.ds with laser := 0 } } }) s))
    let s2 := if v.cmdOp = 5 then svDone h s1 else s1
    if bayOf h ∈ s.thm.parked then .next (setLink h 0 (put (F.HL_CTRL_EN h) 0 (svState h 1 s2)))
    else if v.offAfter = true ∨ get s (F.SV_CTRL_EN h) = 0 then .next (leaveOff h (svState h 0 s2))
    else
      let s3 := svState h 1 s2
      if v.why = 3 then
        if pullInOk s3 h then .next (startSweep h v.jumpTo v.calSweep s3) else .next (svResult h 2 s3)
      else if v.seekBack = true ∧ isSet s (F.SV_CTRL_AUTO_PULLIN h) = true ∧ pullInOk s3 h = true then
        .next (startSweep h ((v.lastConf.map fun p => p.2.1).getD 0) false
          (updServo h (fun v => { v with target := v.lastConf.map fun p => (p.1, p.2.1), pullFail := 0 }) s3))
      else .next (updServo h (fun v => { v with seekBack := false }) s3)

/-- SV_CMD_ERR (R199): a reserved OP is refused. -/
def execSvCmdErr (h op : Nat) (s : State) : Out :=
  if headInst s h = false ∨ op < 6 ∨ 7 < op then .next s
  else .next (raise (evSV h) B.SV_EVT_CMD_ERR (svRefuse h op (put (F.SV_CMD_OP h) op s)))

/-- LENS_RANGE (R193): beyond SLED_WARN the event, beyond LENS_MAX tracking opens; both limits count 2 µm, the lens 1/16 µm. -/
def execLensRange (h : Nat) (s : State) : Out :=
  let st := get s (F.SV_STATUS_STATE h)
  let x := (getI s (F.SV_LENS h)).natAbs
  if headInst s h = false ∨ x ≤ 32 * get s (F.SV_SLED_SLED_WARN h) then .next s
  else
    let s1 := raise (evSV h) B.SV_EVT_LENS_RANGE s
    if 32 * get s (F.SV_SLED_LENS_MAX h) < x ∧ 4 ≤ st ∧ st ≤ 6 then
      .next (enterFocused h (updServo h (fun v => { v with openRange := true, landed := false, mode := 0, remain := 0, base := v.coils,
                                                           sledFrom := axPos s (bayOf h) (h % 2) }) s1))
    else .next s1

/-- SV_ENABLE (R178, R197, R199): EN lets the servo leave OFF, or FAILED after 0 then 1; cleared, the head retracts and then
enters OFF. -/
def execSvEnable (h en : Nat) (s : State) : Out :=
  if headInst s h = false then .next s
  else
    let st := get s (F.SV_STATUS_STATE h)
    let was := get s (F.SV_CTRL_EN h)
    let s1 := put (F.SV_CTRL_EN h) en s
    if en % 2 = 1 then .next (if st = 10 ∧ was = 0 then svState h 1 s1 else leaveOff h s1)
    else if st = 1 then .next (svState h 0 s1)
    else if st = 0 ∨ st = 10 then .next s1
    else .next (updServo h (fun v => { v with offAfter := true, seekBack := false }) (retractHead h 0 s1))

/-- SV_CLR_CNT (R199): the counters from 0x060 to 0x088 and the SV.ERR values. -/
def execSvClrCnt (h : Nat) (s : State) : Out :=
  if headInst s h = false then .next s
  else .next (updServo h (fun v => { v with errs := [] }) (clearAll [F.SV_SEEKS h, F.SV_SEEK_FAIL h, F.SV_CORRECTIVE h, F.SV_LAYER_JUMPS h,
    F.SV_DEFECT_HOLDS h, F.SV_FOCUS_LOSS h, F.SV_OFFTRACK h, F.SV_MISS h, F.SV_RETRACTS h, F.SV_SHADOW h, F.SV_SEEK_TIME_LAST h,
    F.SV_SEEK_TIME_MAX h, F.SV_ERR_FE h, F.SV_ERR_TE h] s))

end Sys2Proof.Machine
end

