-- ==== Sys2Proof/Machine/PowerState.lean ====
section
/-! DEFINITION. The transitions among Run, Poised and Parked (R520, R521, R527). -/

namespace Sys2Proof.Machine

/-- Whether the power sequencer acts on requests: after start-up, outside Dormant, the holds, the fatal state and a stop. -/
def pwrRuns (s : State) : Bool :=
  s.pwr.started && !s.pwr.dormant && decide (s.pwr.hold = 0) && !s.pwr.powerLoss && !isSet s F.DMP_STATUS_FATAL && decide (s.thm.stop = 0)

/-- An extent, its verify or its spare pass is under way on some head (R170). -/
def extentRuns (s : State) : Bool :=
  (headsOf s).any fun h => decide (1 ≤ get s (F.WRP_STATUS_STATE h)) && decide (get s (F.WRP_STATUS_STATE h) ≤ 5)

/-- A head's link is switched off once its lens is retracted (R444). -/
def parkHead (h : Nat) (s : State) : State :=
  let st := get s (F.SV_STATUS_STATE h)
  let s1 := retractHead h 0 s
  if headInst s h = false then s
  else if st = 0 ∨ st = 1 ∨ st = 10 then setLink h 0 (put (F.HL_CTRL_EN h) 0 s1) else s1

/-- A parked bay whose heads' extents have ended: both heads retract, then their links go off, and the spindle stops (R170, R444). -/
def settlePark (b : Nat) (s : State) : State :=
  let busy (h : Nat) : Bool := decide (1 ≤ get s (F.WRP_STATUS_STATE h)) && decide (get s (F.WRP_STATUS_STATE h) ≤ 5)
  if b ∉ s.thm.parked ∨ busy (2 * b) = true ∨ busy (2 * b + 1) = true then s
  else stopSpindle b (parkHead (2 * b + 1) (parkHead (2 * b) s))

/-- A transition ends in a state (R521). -/
def enterPower (st : Nat) (s : State) : State :=
  raise evPWR B.PWR_EVT_STATE_CHANGE (putAll [(F.PWR_STATUS_STATE, st), (F.PWR_STATUS_TRANSITION, 0)]
    { s with pwr := { s.pwr with phase := 0, wake := false, toDorm := false, fetchOff := decide (st = 2) } })

/-- Run to Poised (R521): running extents finish first; then the lenses retract. -/
def startPoise (s : State) : State :=
  if extentRuns s then put F.PWR_STATUS_TRANSITION 1 { s with pwr := { s.pwr with phase := 1 } }
  else enterPower 1 (forAll (headsOf s) (fun h t => retractHead h 0 t) s)

/-- Poised to Run (R521): pull-in without CAL at the layer the head was on. -/
def leavePoised (s : State) : State :=
  enterPower 0 (forAll ((headsOf s).filter fun h => decide (get s (F.SV_STATUS_STATE h) = 1) && pullInOk s h)
    (fun h t => pullIn h (get t (F.SV_POS_LAYER h)) false t) s)

/-- Entry to Parked begins, on the way to Dormant or not (R283, R521): fetch stops and every filling row is sealed. Dirty data is
disc-bound work, which first leaves Poised. -/
def startPark (toDorm : Bool) (s0 : State) : State :=
  let s := if get s0 F.PWR_STATUS_STATE = 1 ∧ get s0 F.PLP_D_DIRTY ≠ 0 then leavePoised s0 else s0
  let s1 := put F.PWR_STATUS_TRANSITION 1 { s with pwr := { s.pwr with phase := 2, wake := false, toDorm := toDorm, fetchOff := true } }
  s1.lib.filling.foldl (fun t f => match openSetOf t f.dom f.slot with
    | some hd => sealRow f.stream hd 4 t
    | none => t) s1

/-- The mechanism comes back from Parked: head links train, bay steppers and carousels are enabled, the spindles of mounted discs
spin up (R240, R520, R521). The pull-in with CAL follows once a spindle is at speed, by its own command. -/
def wakeMechanism (s : State) : State :=
  let s1 := forAll ((headsOf s).filter fun h => isSet s (F.HL_CTRL_EN h) && decide (get s (F.HL_STATUS_STATE h) = 0)) (fun h t => setLink h 1 t) s
  let s2 := forAll ((carsOf s1).filter fun c => isSet s1 (F.CMOT_CTRL_EN c)) (fun c t => updCrs c (fun x => { x with inverter := true, offset := false }) t) s1
  let s3 := forAll ((baysOf s2).filter fun b => linkUp s2 b && !isSet s2 (F.CMOT_STATUS_OV_LATCHED (carOfBay s2 b))) stepperOn s2
  forAll ((baysOf s3).filter fun b => decide ((mountOf s3 b).phase = 5) && decide (b ∉ s3.thm.parked))
    (fun b t => setSpeed b (if b ∈ t.thm.slowed then 4800 else 9600) t) s3

/-- Parked to Run (R521): DDR5 leaves self-refresh, the map cache is on again, fetch resumes, the mechanism starts; the vault's
header reads running again (R421). -/
def parkedExit (s : State) : State :=
  let s1 := put F.CLK_STATUS_LOCKED (get s F.CLK_STATUS_LOCKED ||| (if get s F.GLB_INST_MISC_DDR_CH = 0 then 0 else 2)) (enterPower 0 s)
  let s2 := if isSet s1 F.MAP_CTRL_EN then put F.MAP_STATUS_STATE Mc.enabled s1 else s1
  wakeMechanism (updateHeader 1 s2)

/-- A request acted on in a state with no transition under way (R521): the present state has no effect; Dormant passes
through Parked. -/
def actOn (req : Nat) (s : State) : State :=
  let st := get s F.PWR_STATUS_STATE
  if req = 1 then (if st = 1 then leavePoised s else if st = 2 then parkedExit s else s)
  else if req = 2 then (if st = 0 then startPoise s else s)
  else if req = 3 ∨ req = 4 then (if st < 2 then startPark (decide (req = 4)) s else s)
  else s

/-- A request held during a transition is acted on when the transition has ended (R527). -/
def settleRequest (s : State) : State :=
  if s.pwr.held = true ∧ s.pwr.phase = 0 then actOn (get s F.PWR_CTRL_REQ) { s with pwr := { s.pwr with held := false } } else s

/-- A doorbell or another wake in Parked or during Parked entry (R521, R527). -/
def wakeParked (s : State) : State :=
  if s.pwr.dormant then s
  else if s.pwr.phase = 2 then
    settleRequest (raise evPWR B.PWR_EVT_ENTRY_CANCELLED (put F.PWR_STATUS_TRANSITION 0
      { s with pwr := { s.pwr with phase := 0, wake := false, toDorm := false, fetchOff := false } }))
  else if s.pwr.phase = 3 then { s with pwr := { s.pwr with wake := true } }
  else if get s F.PWR_STATUS_STATE = 2 then parkedExit s
  else s

end Sys2Proof.Machine
end

