-- ==== Sys2Proof/Machine/Host.lean ====
section
/-! DEFINITION. The host interface: doorbells, fetch arbitration, acceptance stamps and overlap order, the I/O commands,
admission, completion, queues and Abort (R370 to R399). -/

namespace Sys2Proof.Machine

/-- Opcodes of the I/O command set (R395). -/
def Op.flush : Nat := 0
def Op.write : Nat := 1
def Op.read : Nat := 2
def Op.writeZeroes : Nat := 8
def Op.dsm : Nat := 9
def Op.verify : Nat := 0xc
def Op.recall : Nat := 0x85

def Cmd.modifies (c : Cmd) : Bool := decide (c.opc = Op.write ∨ c.opc = Op.writeZeroes ∨ c.opc = Op.dsm)
def Cmd.reads (c : Cmd) : Bool := decide (c.opc = Op.read ∨ c.opc = Op.verify ∨ c.opc = Op.recall)

/-- Whether a command has taken effect or resolved (R381). -/
def Cmd.effective (c : Cmd) : Bool := decide (c.phase = .transfer ∨ c.phase = .durable ∨ c.phase = .flushing)

/-- Whether two commands touch a common block (R381); a range list not read yet may touch any block of its namespace. -/
def overlaps (a b : Cmd) : Bool :=
  decide (a.nsid = b.nsid) &&
    match a.ranges, b.ranges with
    | some xs, some ys => xs.any fun x => ys.any fun y => decide (x.1 < y.1 + y.2) && decide (y.1 < x.1 + x.2)
    | _, _ => true

/-- An earlier overlapping command that has not taken effect holds a command back: a reading command only behind
modifications, a modification behind both kinds (R381). -/
def blocked (s : State) (c : Cmd) : Bool :=
  s.host.cmds.any fun e => decide (e.stamp < c.stamp) && !e.effective && overlaps e c
    && ((e.modifies && (c.modifies || c.reads)) || (e.reads && c.modifies))

/-- The command of a stamp, and the same changed. -/
def findCmd (s : State) (stamp : Nat) : Option Cmd := s.host.cmds.find? fun c => decide (c.stamp = stamp)
def updCmd (stamp : Nat) (f : Cmd → Cmd) (s : State) : State :=
  { s with host := { s.host with cmds := s.host.cmds.map fun c => if c.stamp = stamp then f c else c } }

/-- The number of commands in flight of a function, from fetch to the posting of the completion (R376). -/
def inflightOf (s : State) (fn : Nat) : Nat :=
  (s.host.cmds.filter fun c => decide (c.fn = fn)).length + (s.host.fetching.filter fun x => decide (x.1 = fn)).length

/-- The class of a queue. -/
def clsOf (s : State) (fn qid : Nat) : Nat :=
  match s.host.queues.find? fun q => q.sub && decide (q.fn = fn) && decide (q.qid = qid) with
  | some q => q.cls
  | none => 3

def slots0 (s : State) : Nat :=
  (s.host.cmds.filter fun c => decide (c.cls = 0)).length + (s.host.fetching.filter fun x => decide (clsOf s x.1 x.2.1 = 0)).length
def slotsAll (s : State) : Nat := s.host.cmds.length + s.host.fetching.length

/-- HST.INFLIGHT and FN.INFLIGHT follow the slots (R397). -/
def refreshSlots (fn : Nat) (s : State) : State :=
  putAll [(F.HST_INFLIGHT, slotsAll s), (F.HST_INFLIGHT_C0, slots0 s), (F.HST_FN_INFLIGHT fn, inflightOf s fn)] s

/-- CSTS.RDY of a function whose CC.EN is clear falls once every slot of it is empty (R396). -/
def settleRdy (fn : Nat) (s : State) : State :=
  if !isSet s (F.HST_FN_STATUS_CCEN fn) && decide (inflightOf s fn = 0) then put (F.HST_FN_STATUS_RDY fn) 0 s else s

/-- A queue's context freed (R375, R399). -/
def freeQueue (q : Queue) (s : State) : State :=
  let s1 := { s with host := { s.host with queues := s.host.queues.erase q } }
  let s2 := putAll [(F.HST_QCTX_VALID q.ctx, 0), (F.HST_QCTX_FUNCTION q.ctx, 0), (F.HST_QCTX_KIND q.ctx, 0),
    (F.HST_QCTX_CLASS q.ctx, 0), (F.HST_QCTX_QID q.ctx, 0)] s1
  if q.qid = 0 then s2 else put (F.HST_FN_STATUS_IOQ q.fn) (get s2 (F.HST_FN_STATUS_IOQ q.fn) - 1) s2

/-- A deletion completes after the commands of its queue (R396). -/
def settleDeletes (s : State) : State :=
  s.host.queues.foldl (fun u q =>
    match q.deleting with
    | none => u
    | some cid =>
      if (u.host.cmds.any fun c => decide (c.fn = q.fn) && decide (c.qid = q.qid)) then u
      else post ⟨q.fn, 0, cid, 0, 0, 0, 0, 0, [], []⟩ (freeQueue q u)) s

/-- The pins of a command released (R382): the reads of its sets end, and a RELEASE that waited for its pages takes place. -/
def unpin (c : Cmd) (s : State) : State :=
  let s1 := c.resolved.foldl (fun u r => match r.2 with
    | .disc hd _ => updSet hd (fun d => { d with reads := d.reads - 1 }) u
    | _ => u) s
  settleReleases s1

/-- A command leaves its slot without a completion entry. -/
def dropCmd (c : Cmd) (s : State) : State :=
  let s1 := { s with host := { s.host with cmds := s.host.cmds.filter fun x => decide (x.stamp ≠ c.stamp) } }
  settleDeletes (settleRdy c.fn (refreshSlots c.fn (unpin c s1)))

/-- The class-0 latency measured (R390): from the doorbell to now, in 10 ns units. -/
def measure (c : Cmd) (s : State) : State :=
  if c.cls ≠ 0 then s
  else
    let t := (now s - c.bell) * 64 / 100
    let s1 := peak F.HST_LAT0_MAX (min t 0xffff) (put F.HST_LAT0_LAST (min t 0xffff) s)
    if get s F.HST_LAT0_LIMIT < t then raise evHST B.HST_EVT_LAT0_EXCEED (bump F.HST_LAT0_OVER 1 s1) else s1

/-- DW0 and DW1 of an I/O completion: the stamp while the function reports stamps (R383), else `dw`. -/
def stampDw (s : State) (c : Cmd) (dw : Nat) : Nat × Nat :=
  if isSet s (F.HST_FN_STATUS_STAMP c.fn) then (c.stamp % 2 ^ 32, c.stamp / 2 ^ 32) else (dw, 0)

/-- An I/O command completes (R383, R390, R393); after a reset of its function no entry is posted (R396). -/
def finishCmd (c : Cmd) (sct sc dnr dw : Nat) (blocks : List (Nat × Nat)) (s : State) : State :=
  let d := stampDw s c dw
  dropCmd c (if c.mute then s else
    measure c (bump F.HST_CMDS 1 (post ⟨c.fn, c.qid, c.cid, sct, sc, dnr, d.1, d.2, blocks, []⟩ s)))

/-- The statuses of R393: SCT, SC and DNR. -/
def failCmd (c : Cmd) (sct sc dnr : Nat) (s : State) : State := finishCmd c sct sc dnr 0 [] s

/-- An unrecovered read: the error entry holds the first failing LBA and the cause of R288 (R393, R394). -/
def failRead (c : Cmd) (lba cause : Nat) (blocks : List (Nat × Nat)) (s : State) : State :=
  let s1 := finishCmd c 2 0x81 1 0 blocks s
  { s1 with host := { s1.host with
      errors := match s1.host.errors with
        | [] => []
        | e :: es => if c.mute then e :: es else { e with lba := lba, nsid := c.nsid, cause := cause } :: es } }

/-- The functions of a link (R371, R374). -/
def linkOfPf (s : State) (pf : Nat) : Nat := if pf = 0 then 0 else if get s F.HST_STATUS_PORT_MODE = 2 then 1 else 2
def pfOf (fn : Nat) : Nat := if fn < 2 then fn else if fn < 257 then 0 else 1
def fnsOfLink (s : State) (l : Nat) : List Nat :=
  (List.range 512).filter fun fn => decide (linkOfPf s (pfOf fn) = l) && (decide (pfOf fn = 0) || isSet s F.HST_STATUS_PF1)

/-- Whether commands run: not in the fatal state (R542), not after a power loss (R430) or a junction shutdown (R448). -/
def hostRuns (s : State) : Bool := !isSet s F.DMP_STATUS_FATAL && !s.pwr.powerLoss && decide (s.thm.stop = 0)

/-- CSTS.CFS set on every function (R448, R542). -/
def setCfs (s : State) : State := putAll ((List.range 512).map fun f => (F.HST_FN_STATUS_CFS f, 1)) s

/-! ### Doorbells and fetch -/

/-- SUBMISSION_DOORBELL: the tail of a submission queue is written; the new entries wait in host memory (R376). A doorbell of
no queue, or beyond its size, is ignored. -/
def execSubmissionDoorbell (fn qid tail : Nat) (s : State) : Out :=
  match s.host.queues.find? fun q => q.sub && decide (q.fn = fn) && decide (q.qid = qid) with
  | none => .next s
  | some q =>
    if q.size ≤ tail then .next s
    else
      let n := (tail + q.size - q.tail) % q.size
      let q' := { q with tail := tail, bells := q.bells ++ List.replicate n (now s) }
      .next (wakeParked { s with host := { s.host with queues := s.host.queues.map fun x => if x = q then q' else x } })

/-- The key that orders queues in the round robin. -/
def queueKey (q : Queue) : Nat := 65536 * q.fn + q.qid

/-- The first queue after a key in round-robin order, among those listed. -/
def nextQueue (last : Nat) (qs : List Queue) : Option Queue :=
  let best (l : List Queue) : Option Queue := l.foldl (fun b q => match b with
    | none => some q
    | some x => if queueKey q < queueKey x then some q else b) none
  match best (qs.filter fun q => decide (last < queueKey q)) with
  | some q => some q
  | none => best qs

/-- The weight and the arbitration burst of a queue (R378): the Arbitration feature's AB [2:0], LPW, MPW, HPW. -/
def weightOf (s : State) (q : Queue) : Nat :=
  if mapGet (fun _ => 0) s.host.ams q.fn = 1 ∧ q.cls ≠ 0 then
    feature s q.fn 1 / 2 ^ (8 * (4 - q.cls)) % 256 + 1
  else 1
def burstOf (s : State) (q : Queue) : Nat := if feature s q.fn 1 % 8 = 7 then 65536 else 2 ^ (feature s q.fn 1 % 8)

/-- Entries of a queue fetched: they take slots and their reads of host memory are issued. -/
def fetchFrom (q : Queue) (n : Nat) (s : State) : State :=
  refreshSlots q.fn { s with
      host := { s.host with
      queues := s.host.queues.map fun x => if x = q then { q with bells := q.bells.drop n } else x,
      fetching := s.host.fetching ++ (q.bells.take n).map fun b => (q.fn, q.qid, b) } }

/-- COMMAND_FETCH: one arbitration turn (R376, R378): class 0 first, one command per turn; then classes 1 to 3, each queue for
as many turns as it weighs, each turn at most its burst. Where no slot may be taken SLOTS_FULL is set. Fetch pauses in step 4 of a firmware activation (R506). -/
def execCommandFetch (s : State) : Out :=
  if !hostRuns s || s.pwr.fetchOff || decide (get s F.PWR_STATUS_STATE = 2) || decide (get s F.FWU_STATUS_STEP = 4) then .next s
  else
    let ready := s.host.queues.filter fun q => q.sub && decide (q.qid ≠ 0) && q.bells ≠ [] && q.deleting.isNone
    let c0 := ready.filter fun q => decide (q.cls = 0)
    let cs := ready.filter fun q => decide (q.cls ≠ 0)
    let full := raise evHST B.HST_EVT_SLOTS_FULL s
    match nextQueue s.host.last0 c0 with
    | some q =>
      if 8192 ≤ slotsAll s then .next full
      else .next (fetchFrom q 1 { s with host := { s.host with last0 := queueKey q } })
    | none =>
      let cont := cs.find? fun q => decide (queueKey q = s.host.lastQ) && decide (0 < s.host.turns)
      match (match cont with | some q => some q | none => nextQueue s.host.lastQ cs) with
      | none => .next s
      | some q =>
        let room := min (7680 - (slotsAll s - slots0 s)) (8192 - slotsAll s)
        if room = 0 then .next full
        else
          let left := if cont.isSome then s.host.turns - 1 else weightOf s q - 1
          .next (fetchFrom q (min (burstOf s q) (min room q.bells.length)) { s with host := { s.host with lastQ := queueKey q, turns := left } })

/-- SUBMISSION_ENTRY_ARRIVAL: the oldest entry on its way from a queue arrives and takes the next stamp (R379). The fields are
those of the submission entry: opcode, namespace, and command dwords 10 to 13. -/
def execSubmissionEntryArrival (fn qid cid opc nsid cdw10 cdw11 cdw12 cdw13 : Nat) (s : State) : Out :=
  match s.host.fetching.find? fun x => decide (x.1 = fn) && decide (x.2.1 = qid) with
  | none => .next s
  | some x =>
    let st := get s F.HST_STAMP
    let lba := cdw10 + 2 ^ 32 * cdw11
    let n := cdw12 % 65536 + 1
    let hint := if opc = Op.write ∧ cdw12 / 2 ^ 20 % 16 = 1 then cdw13 / 65536 else 0
    let rs := if opc = Op.write ∨ opc = Op.read ∨ opc = Op.writeZeroes ∨ opc = Op.verify then some [(lba, n)]
      else if opc = Op.dsm ∨ opc = Op.recall then none else some []
    let c : Cmd := ⟨st, fn, qid, cid, clsOf s fn qid, x.2.2, opc, nsid, rs,
      decide (opc = Op.write ∧ bitOf cdw12 30 = 1), hint, cdw11, .arrived, [], [], decide (opc = Op.flush), false, false, false,
      decide (opc = Op.write ∧ 1 < cdw12 / 2 ^ 20 % 16)⟩
    .next (refreshSlots fn (put F.HST_STAMP (st + 1) { s with
        host := { s.host with
        fetching := s.host.fetching.erase x, cmds := s.host.cmds ++ [c] } }))

/-! ### Checks that every command makes -/

/-- The status that an I/O command with ranges fails with before it acts, if any (R393): namespace, reserved fields, size, range,
readiness. -/
def rangeError (s : State) (c : Cmd) (rs : List (Nat × Nat)) : Option (Nat × Nat × Nat) :=
  match findSpace s c.nsid with
  | none => some (0, 2, 1)
  | some n =>
    if c.fn ∉ n.attach ∨ c.reserved = true then some (0, 2, 1)
    else if rs.any fun r => decide (256 * n.grains < r.1 + r.2) then some (0, 0x80, 1)
    else if (c.opc = Op.read ∨ c.opc = Op.write) ∧ rs.any (fun r => decide (2048 < r.2)) then some (0, 2, 1)
    else if !n.ready then some (0, 0x82, 0)
    else none

/-- The placement streams of a namespace: stream 0 and those Directives allocated for it (R294). -/
def streamsOf (s : State) (nsid : Nat) : List Nat :=
  0 :: (s.host.streams.filterMap fun x => if x.2.1 = nsid then some x.2.2.2 else none)

/-- Every stripe domain bound to a namespace's streams is DRAINING or OFFLINE (R393). -/
def writeFault (s : State) (nsid : Nat) : Bool :=
  (streamsOf s nsid).all fun st => decide (get s (F.ARB_AR_STATUS_PSTATE (get s (F.ARB_STREAM_DOMAIN st))) ≠ 0)

/-- The placement stream of a write's hint (R294). -/
def streamOf (s : State) (c : Cmd) : Nat :=
  if c.hint = 0 then 0
  else match s.host.streams.find? fun x => decide (x.1 = c.fn) && decide (x.2.1 = c.nsid) && decide (x.2.2.1 = c.hint) with
    | some x => x.2.2.2
    | none => 0

/-- A command starts to wait for its place in stamp order, counted where an earlier overlapping one holds it back (R381). -/
def orderCmd (c : Cmd) (s : State) : State :=
  let s1 := updCmd c.stamp (fun x => { x with phase := .ordering, ranges := c.ranges }) s
  if blocked s c then bump F.HST_OVERLAP_WAIT 1 s1 else s1

/-- READ: a fetched Read is checked and waits for overlapping modifications (R381, R393). -/
def execRead (stamp : Nat) (s : State) : Out :=
  match findCmd s stamp with
  | none => .next s
  | some c =>
    if !hostRuns s ∨ c.opc ≠ Op.read ∨ c.phase ≠ .arrived then .next s
    else match rangeError s c (c.ranges.getD []) with
      | some e => .next (failCmd c e.1 e.2.1 e.2.2 s)
      | none => .next (orderCmd c s)

/-- VERIFY: reads and checks its blocks through the ladder, without a transfer (R395). -/
def execVerify (stamp : Nat) (s : State) : Out :=
  match findCmd s stamp with
  | none => .next s
  | some c =>
    if !hostRuns s ∨ c.opc ≠ Op.verify ∨ c.phase ≠ .arrived then .next s
    else match rangeError s c (c.ranges.getD []) with
      | some e => .next (failCmd c e.1 e.2.1 e.2.2 s)
      | none => .next (orderCmd c s)

/-- The blocks of a range list. -/
def rangeBlocks (rs : List (Nat × Nat)) : List Nat := (rs.map fun r => (List.range r.2).map (r.1 + ·)).flatten

/-- A disc lies below an arbour that is OFFLINE (R276). -/
def discOffline (s : State) (d : Nat) : Bool := (pathUp s 16 (leafOfDisc s d)).any fun a => decide (get s (F.ARB_AR_STATUS_PSTATE a) = 2)

/-- What a block resolves to: its map entry, and UNAVAILABLE with cause 2 where its arbour is OFFLINE (R276, R288). -/
def resolveBlock (s : State) (nsid lba : Nat) : MapEntry :=
  match lookup s nsid lba with
  | .disc hd l => if discOffline s (sectorOf s hd l).1 then .unavailable 2 else .disc hd l
  | e => e

/-- The clean buffer space in blocks, and a function's Recall quota in blocks (R412, feature 0xc4). -/
def cleanBlocks (s : State) : Nat := 16 * (bufC s - bufV s - bufM s) / 4096
def quotaOf (s : State) (fn : Nat) : Nat :=
  match mapFind s.host.features (256 * fn + 0xc4) with
  | some g => 2 ^ 18 * g
  | none => if fn < 2 then cleanBlocks s / 4 else 2 ^ 20

def isStaged (s : State) (hd l : Nat) : Bool := s.host.staged.any fun x => decide (x.set = hd) && decide (x.lbk = l)

/-- A Recall resolves its ranges: its disc-bound blocks are staged within the function's quota and the sum of all, or the
command fails with Recall Quota Exceeded; it completes as soon as they are scheduled (R411, R412). -/
def recallResolve (c : Cmd) (s : State) : State :=
  let bs := (rangeBlocks (c.ranges.getD [])).filterMap fun b => match resolveBlock s c.nsid b with
    | .disc hd l => if isStaged s hd l then none else some (b, hd, l)
    | _ => none
  let mine := (s.host.staged.filter fun x => decide (x.fn = c.fn)).length
  if quotaOf s c.fn < mine + bs.length ∨ cleanBlocks s / 4 < s.host.staged.length + bs.length then failCmd c 1 0xc0 1 s
  else
    let hold := if c.arg = 0 then 600 else min c.arg 86400
    let s1 := { s with host := { s.host with
        staged := s.host.staged ++ bs.map fun b => ⟨c.fn, b.2.1, b.2.2, c.nsid, b.1, now s + 156250000 * hold, c.stamp⟩ } }
    let last := match bs.getLast? with
      | none => 0
      | some b => ((blockNeeds s1 4 c.stamp (.disc b.2.1 b.2.2)).filter (openNeed s1)).foldl (fun m n => max m (needLatency s1 n / 1000)) 0
    finishCmd c 0 0 0 last [] s1

/-- READ_RESOLVE: a reading command resolves its map entries at one point in stamp order and pins them (R381, R382). -/
def execReadResolve (stamp : Nat) (s : State) : Out :=
  match findCmd s stamp with
  | none => .next s
  | some c =>
    if !hostRuns s ∨ c.phase ≠ .ordering ∨ !c.reads ∨ blocked s c then .next s
    else if c.opc = Op.recall then .next (recallResolve c s)
    else
      let r := (rangeBlocks (c.ranges.getD [])).map fun b => (b, resolveBlock s c.nsid b)
      let s1 := r.foldl (fun u x => match x.2 with
        | .disc hd _ => updSet hd (fun d => { d with reads := d.reads + 1 }) u
        | _ => u) s
      .next (updCmd stamp (fun x => { x with phase := .transfer, resolved := r }) s1)

/-- The data of a resolved block, an error with its cause, or none while its sector is not in the buffer yet. -/
inductive BlockData where
  | data (v : Nat)
  | lost (cause : Nat)
  | waiting
  deriving DecidableEq, Repr

def blockData (s : State) (nsid lba : Nat) : MapEntry → BlockData
  | .unmapped => .data 0
  | .buffer p => if pageBad s p then .lost 4 else .data (bufPeekPage s p)
  | .unavailable c => .lost c
  | .frag _ => .lost 1
  | .disc hd l =>
    match findClean s hd l with
    | some c => .data (ofBytesLE ((c.payload.drop (sectorOf s hd l).2.2).take 4096))
    | none => match lookup s nsid lba with
      | .unavailable c => .lost c
      | _ => if discOffline s (sectorOf s hd l).1 then .lost 2 else .waiting

/-- The first lost block of a read. -/
def firstLost (s : State) (nsid : Nat) : List (Nat × MapEntry) → Option (Nat × Nat)
  | [] => none
  | (l, e) :: r => match blockData s nsid l e with
    | .lost c => some (l, c)
    | _ => firstLost s nsid r

/-- The dirty blocks of a reading command that neither copy holds are lost (R352). -/
def loseBad (c : Cmd) (s : State) : State :=
  (c.resolved.filterMap fun r => match r.2 with | .buffer p => (if pageBad s p then some p else none) | _ => none).foldl
    (fun u p => onBusError 0 0 (4096 * p) u) s

/-- A read of class 0 on the same link has data to send: data of the other classes waits (R378; log entry 88). -/
def egressWaits (s : State) (c : Cmd) : Bool :=
  decide (c.cls ≠ 0) && s.host.cmds.any fun e => decide (e.cls = 0) && decide (e.phase = .transfer) && decide (linkOfPf s (pfOf e.fn) = linkOfPf s (pfOf c.fn))
    && e.resolved.all fun r => decide (blockData s e.nsid r.1 r.2 ≠ .waiting)

/-- READ_TRANSFER_DONE: the last data has left, or the last block of a Verify has been checked: the pins are released, staged
blocks that it transferred are released, and the command completes (R382, R393, R394, R412). A disc-bound command never
completes before its data is in the buffer (R392). -/
def execReadTransferDone (stamp : Nat) (s0 : State) : Out :=
  match findCmd s0 stamp with
  | none => .next s0
  | some c =>
    let s := loseBad c s0
    if c.phase ≠ .transfer ∨ egressWaits s c = true ∨ (c.resolved.any fun r => decide (blockData s c.nsid r.1 r.2 = .waiting)) then .next s0
    else
      let blocks := c.resolved.filterMap fun r => match blockData s c.nsid r.1 r.2 with
        | .data v => some (r.1, v)
        | _ => none
      let sent := if c.opc = Op.read then blocks else []
      let used := if c.opc = Op.read then c.resolved.map Prod.snd else []
      let s1 := match firstLost s c.nsid c.resolved with
        | some (l, cause) => failRead c l cause sent s
        | none => finishCmd c 0 0 0 0 sent s
      let s2 := { s1 with host := { s1.host with staged := s1.host.staged.filter fun x => decide (MapEntry.disc x.set x.lbk ∉ used) } }
      .next (dropClean (fun x => used.any fun e => match e with
        | .disc hd l => decide ((sectorOf s2 hd l).1 = x.disc) && decide ((sectorOf s2 hd l).2.1 = x.ord)
        | _ => false) s2)

/-! ### Modifications -/

/-- Staged copies of blocks that a modification covers are released (R412). -/
def unstage (nsid : Nat) (rs : List (Nat × Nat)) (s : State) : State :=
  { s with host := { s.host with
      staged := s.host.staged.filter fun x =>
        !(decide (x.nsid = nsid) && rs.any fun r => decide (r.1 ≤ x.lba) && decide (x.lba < r.1 + r.2)) } }

/-- Blocks set UNMAPPED (R290, R385): whole grains at once, the others one by one. -/
def unmapGrain (g lo hi : Nat) (s : State) : State :=
  if hi - lo = 256 then setWholeGrain g 0 .unmapped s
  else forAll ((List.range (hi - lo)).map (lo + ·)) (fun i u => setBlock g i 0 .unmapped u) s
def unmapRange (nsid lba n : Nat) (s : State) : State :=
  forAll (List.range (n / 256 + 2)) (fun k u =>
    let first := lba / 256 * 256 + 256 * k
    let lo := max lba first - first
    let hi := min (lba + n) (first + 256) - first
    match grainOf u nsid first with
    | none => u
    | some g => if lo < hi then unmapGrain g lo hi u else u) s

/-- A deallocation takes effect in stamp order and completes (R385, R388). -/
def deallocate (c : Cmd) (s : State) : State :=
  let rs := c.ranges.getD []
  finishCmd c 0 0 0 0 [] (refreshArbours (unstage c.nsid rs (rs.foldl (fun u r => unmapRange c.nsid r.1 r.2 u) s)))

/-- WRITE: a fetched Write is checked, and its data is read from host memory into pages of the mirrored zone (R385, R393). -/
def execWrite (stamp : Nat) (s : State) : Out :=
  match findCmd s stamp with
  | none => .next s
  | some c =>
    if !hostRuns s ∨ c.opc ≠ Op.write ∨ c.phase ≠ .arrived then .next s
    else
      let rs := c.ranges.getD []
      match rangeError s c rs with
      | some e => .next (failCmd c e.1 e.2.1 e.2.2 s)
      | none =>
        if writeFault s c.nsid then .next (failCmd c 2 0x80 0 s)
        else .next (updCmd stamp (fun x => { x with phase := .dataIn, pages := takePages s (rangeBlocks rs).length }) s)

/-- WRITE_DATA_RECEIVED: both copies of a write's data are accepted and it proceeds to admission (R344, R385). `data` holds its
blocks. -/
def execWriteDataReceived (stamp : Nat) (data : List Nat) (s : State) : Out :=
  match findCmd s stamp with
  | none => .next s
  | some c =>
    if c.phase ≠ .dataIn then .next s
    else
      let s1 := forAll (List.range c.pages.length) (fun i u => bufWritePage (c.pages.getD i 0) (data.getD i 0) u) s
      let s2 := updCmd stamp (fun x => { x with phase := .admission }) s1
      .next (if blocked s c then bump F.HST_OVERLAP_WAIT 1 s2 else s2)

/-- The writes that have not been admitted, each with the class it waits in: its own, raised to that of any later overlapping one, itself raised
where others wait behind it (R386). -/
def raised : List Cmd → List (Cmd × Nat)
  | [] => []
  | c :: cs =>
    let later := raised cs
    if c.opc ≠ Op.write ∨ c.effective = true then later
    else (c, (later.filter fun x => decide (c.stamp < x.1.stamp) && overlaps c x.1).foldl (fun m x => min m x.2) c.cls) :: later
def effClass (s : State) (c : Cmd) : Nat :=
  match (raised s.host.cmds).find? fun x => decide (x.1.stamp = c.stamp) with
  | some x => x.2
  | none => c.cls

/-- The 1 MiB-aligned parts of a range (R384, R431). -/
def partsOf (lba n : Nat) : List (Nat × Nat) :=
  (List.range (n / 256 + 2)).filterMap fun k =>
    let first := lba / 256 * 256 + 256 * k
    let lo := max lba first
    let hi := min (lba + n) (first + 256)
    if lo < hi then some (lo, hi - lo) else none

/-- Whether the set a write needs can take it: an open set of its stream, or one that placement may form (R279). -/
def hasSet (s : State) (dom slot : Nat) : Bool :=
  (openSetOf s dom slot).isSome || (pathActive s dom && (chooseMembers s dom).isSome
    && decide (get s (F.ARB_AR_CFG_K dom) + 2 + get s (F.ARB_AR_SPARE_POOL dom) ≤ blanksBelow s dom))

/-- The parts of a write that need a new fragment table. -/
def needsTable (s : State) (nsid : Nat) (parts : List (Nat × Nat)) : Bool :=
  parts.any fun p => decide (p.2 ≠ 256) && match grainOf s nsid p.1 with
    | none => false
    | some g => match grainEntry s g with
      | .frag _ => false
      | _ => true

/-- The outcome of the admission check (R386, R426 to R428): admitted, admitted in write-through mode, or the write waits. -/
inductive Admit where
  | normal
  | through
  | waits
  deriving DecidableEq, Repr

def admitCheck (s : State) (c : Cmd) (parts : List (Nat × Nat)) : Admit :=
  let bytes := 4096 * c.pages.length
  let x := bytes + 4096 * parts.length + (if effClass s c = 0 then 0 else 2 ^ 26 * get s F.HST_ADMIT_C0_RESERVE)
  let ft := decide (throughBytes s + bytes ≤ 2 ^ 30 * get s F.PLP_FT_LIMIT) || decide (throughBytes s = 0)
  let turn := s.host.cmds.all fun e => decide (e.stamp = c.stamp) || decide (e.phase ≠ .admission) || !e.stalled || blocked s e
    || decide (effClass s c < effClass s e) || (decide (effClass s c = effClass s e) && decide (c.stamp < e.stamp))
  if !turn then .waits
  else if isSet s F.PLP_STATUS_WRITE_THROUGH then (if ft then .through else .waits)
  else if get s F.PLP_D_DIRTY + x ≤ get s F.PLP_D_MAX ∧ get s F.PLP_D_JOURNAL ≤ 512 * 2 ^ 20 then .normal
  else if get s F.PLP_D_DIRTY = 0 ∧ isSet s F.PLP_STATUS_VAULT_OK ∧ ft then .through
  else .waits

/-- The map entries of an admitted write become BUFFER (R290): a whole aligned grain on consecutive pages becomes KIND 3, any
other part converts its grain. -/
def mapWrite (nsid dom : Nat) (pages : List Nat) (first lba n : Nat) (s : State) : State :=
  match grainOf s nsid lba with
  | none => s
  | some g =>
    let p := pages.drop (lba - first)
    if n = 256 ∧ p.take 256 = (List.range 256).map (p.headD 0 + ·) then setWholeGrain g dom (.buffer (p.headD 0)) s
    else forAll (List.range n) (fun i u => setBlock g ((lba + i) % 256) dom (.buffer (p.getD i 0)) u) s

/-- A write admitted: its entries change, its blocks enter the filling row of its stream, its units are dirty, and the journal
takes its admission record (R282, R290, R385, R421). -/
def admitWrite (c : Cmd) (through : Bool) (s : State) : State :=
  let rs := c.ranges.getD []
  let lba := (rs.headD (0, 0)).1
  let n := (rs.headD (0, 0)).2
  let to' := writeHome s c.nsid lba n (streamOf s c)
  let dom := to'.2.1
  let parts := partsOf lba n
  let s1 := parts.foldl (fun u p => mapWrite c.nsid dom c.pages lba p.1 p.2 u) (unstage c.nsid rs s)
  let bs := (List.range n).map fun i => (⟨c.nsid, lba + i, c.pages.getD i 0, c.stamp, none⟩ : Block)
  let s2 := placeBlocks to'.1 dom to'.2.2 (c.fua || through) bs s1
  let us := parts.map fun p => (⟨c.stamp, c.nsid, p.1, (c.pages.drop (p.1 - lba)).take p.2, through⟩ : DirtyUnit)
  let s3 := { s2 with
    lib := { s2.lib with maxStamp := max s2.lib.maxStamp c.stamp },
    host := { s2.host with units := s2.host.units ++ us } }
  refreshArbours (journal (.admitted c.stamp c.nsid lba n) (put F.PLP_D_DIRTY (dirtyBytes s3) s3))

/-- WRITE_ADMISSION: the write passes the admission check and takes effect, or waits in the order of R386 (R291, R385, R386,
R426 to R428). A non-FUA write completes at once, any other once its rows are durable (R387). -/
def execWriteAdmission (stamp : Nat) (s : State) : Out :=
  match findCmd s stamp with
  | none => .next s
  | some c =>
    let rs := c.ranges.getD []
    let parts := partsOf (rs.headD (0, 0)).1 (rs.headD (0, 0)).2
    let to' := writeHome s c.nsid (rs.headD (0, 0)).1 (rs.headD (0, 0)).2 (streamOf s c)
    let wait (u : State) : State :=
      if c.stalled then u
      else raise evHST B.HST_EVT_ADMIT_STALL (bump F.HST_ADMIT_WAIT 1 (updCmd stamp (fun x => { x with stalled := true }) u))
    if !hostRuns s ∨ c.phase ≠ .admission ∨ blocked s c then .next s
    else if needsTable s c.nsid parts && isSet s F.ARB_STATUS_FRAG_FULL then .next (wait (bump F.ARB_FRAG_WAIT 1 s))
    else if !hasSet s to'.2.1 to'.2.2 then .next (wait s)
    else match admitCheck s c parts with
      | .waits => .next (wait s)
      | .normal =>
        let s1 := admitWrite c false s
        .next (if c.fua then updCmd stamp (fun x => { x with phase := .durable, decided := true, pages := [] }) s1 else finishCmd c 0 0 0 0 [] s1)
      | .through =>
        let s1 := admitWrite c true (if isSet s F.PLP_STATUS_WRITE_THROUGH then s else wait s)
        .next (updCmd stamp (fun x => { x with phase := .durable, decided := true, through := true, pages := [] }) s1)

/-- Every write that waits for its rows completes once none of its blocks is left in a row that is not durable (R286, R387);
the dirty units follow (R425). Used after rows become durable. -/
def settleDurable (s : State) : State :=
  let held (c : Cmd) : Bool :=
    (s.lib.filling.any fun f => f.blocks.any fun b => decide (b.stamp = c.stamp)) ||
      (s.lib.sets.any fun p => p.2.rows.any fun r => r.blocks.any fun b => decide (b.stamp = c.stamp))
  let done := s.host.cmds.filter fun c => decide (c.phase = .durable) && !held c
  refreshUnits (done.foldl (fun u c => finishCmd c 0 0 0 0 [] u) s)

/-- WRITE_ZEROES: deallocates its blocks at the map change, in stamp order and without admission (R385, R395). -/
def execWriteZeroes (stamp : Nat) (s : State) : Out :=
  match findCmd s stamp with
  | none => .next s
  | some c =>
    if !hostRuns s ∨ c.opc ≠ Op.writeZeroes then .next s
    else if c.phase = .arrived then
      match rangeError s c (c.ranges.getD []) with
      | some e => .next (failCmd c e.1 e.2.1 e.2.2 s)
      | none => .next (if blocked s c then orderCmd c s else deallocate c s)
    else if c.phase = .ordering ∧ !blocked s c then .next (deallocate c s)
    else .next s

/-- DATASET_MANAGEMENT: its range list, of up to 256 ranges, has been read from host memory; deallocation sets its blocks
UNMAPPED in stamp order (R290, R385, R395). Without the deallocate attribute it has no effect. -/
def execDatasetManagement (stamp : Nat) (ranges : List (Nat × Nat)) (s : State) : Out :=
  match findCmd s stamp with
  | none => .next s
  | some c =>
    let c' := { c with ranges := some ranges }
    if !hostRuns s ∨ c.opc ≠ Op.dsm then .next s
    else if c.phase = .arrived then
      match rangeError s c' ranges with
      | some e => .next (failCmd c e.1 e.2.1 e.2.2 s)
      | none =>
        if bitOf c.arg 2 = 0 then .next (finishCmd c 0 0 0 0 [] s)
        else .next (if blocked s c' then orderCmd c' s else deallocate c' s)
    else if c.phase = .ordering ∧ !blocked s c then .next (deallocate c s)
    else .next s

/-- FLUSH: waits for every modifying command of its namespace, or of all, with a lower stamp (R387). Its decision point is its
fetch (R388). -/
def execFlush (stamp : Nat) (s : State) : Out :=
  match findCmd s stamp with
  | none => .next s
  | some c =>
    if !hostRuns s ∨ c.opc ≠ Op.flush ∨ c.phase ≠ .arrived then .next s
    else if c.nsid ≠ 0xffffffff ∧ (match findSpace s c.nsid with | none => true | some n => decide (c.fn ∉ n.attach)) = true then .next (failCmd c 0 2 1 s)
    else .next (updCmd stamp (fun x => { x with phase := .flushing }) s)

/-- FLUSH_COMPLETE: the Flush completes once every earlier modifying command has completed (R387). -/
def execFlushComplete (stamp : Nat) (s : State) : Out :=
  match findCmd s stamp with
  | none => .next s
  | some c =>
    if c.phase ≠ .flushing ∨ (s.host.cmds.any fun e => e.modifies && decide (e.stamp < stamp)
        && (decide (c.nsid = 0xffffffff) || decide (e.nsid = c.nsid))) then .next s
    else .next (finishCmd c 0 0 0 0 [] s)

/-- RECALL: the range list of a Recall has been read; it waits for overlapping modifications (R381, R411). -/
def execRecall (stamp : Nat) (ranges : List (Nat × Nat)) (s : State) : Out :=
  match findCmd s stamp with
  | none => .next s
  | some c =>
    let c' := { c with ranges := some ranges }
    if !hostRuns s ∨ c.opc ≠ Op.recall ∨ c.phase ≠ .arrived then .next s
    else match rangeError s c' ranges with
      | some e => .next (failCmd c e.1 e.2.1 e.2.2 s)
      | none => .next (orderCmd c' s)

/-- STAGED_BLOCK_RELEASE: a staged block's hold time ends; a Read that has resolved to it keeps its page (R412, R419). -/
def execStagedBlockRelease (hd lbk : Nat) (s : State) : Out :=
  let s1 := { s with host := { s.host with
      staged := s.host.staged.filter fun x =>
        decide (x.set ≠ hd) || decide (x.lbk ≠ lbk) || decide (now s < x.ends) } }
  .next (dropClean (fun c => decide (c.disc = (sectorOf s hd lbk).1) && decide (c.ord = (sectorOf s hd lbk).2.1)) s1)

/-- DATA_TRANSFER_ERROR: a host memory read returned UR, CA or poison, or a pointer is malformed: the command fails and a write
takes no effect (R393). -/
def execDataTransferError (stamp : Nat) (s : State) : Out :=
  match findCmd s stamp with
  | none => .next s
  | some c =>
    if c.decided then .next s
    else .next (failCmd c 0 4 0 (raise evHST B.HST_EVT_XFER_ERR (bump F.HST_XFER_ERR 1 s)))

/-! ### Queues -/

/-- The context count of a function with its flexible resources (R375). -/
def ctxLimit (s : State) (fn : Nat) : Nat := get s (F.HST_FN_CFG_CTX fn) + mapGet (fun _ => 0) s.host.flexible fn

/-- The lowest free queue context. -/
def freeCtx (s : State) : Nat :=
  ((List.range (s.host.queues.length + 1)).find? fun i => s.host.queues.all fun q => decide (q.ctx ≠ i)).getD 0

def findQueue (s : State) (fn qid : Nat) (sub : Bool) : Option Queue :=
  s.host.queues.find? fun q => decide (q.fn = fn) && decide (q.qid = qid) && decide (q.sub = sub)

/-- A queue takes a context (R375, R399). -/
def addQueue (q : Queue) (s : State) : State :=
  let s1 := putAll [(F.HST_QCTX_FUNCTION q.ctx, q.fn), (F.HST_QCTX_VALID q.ctx, 1), (F.HST_QCTX_KIND q.ctx, if q.sub then 0 else 1),
    (F.HST_QCTX_CLASS q.ctx, if q.sub then q.cls else 0), (F.HST_QCTX_QID q.ctx, q.qid)] { s with host := { s.host with queues := s.host.queues ++ [q] } }
  if q.qid = 0 then s1 else bump (F.HST_FN_STATUS_IOQ q.fn) 1 s1

/-- An admin command is served for a function that is enabled (R376, R396), or for the sideband (function 512) once the
management complex runs (R418); in the fatal state and in recovery mode only some commands are accepted (R490, R543). -/
def adminDone (fn cid sct sc dnr dw0 : Nat) (bytes : List Nat) (s : State) : State :=
  post ⟨fn, 0, cid, sct, sc, dnr, dw0, 0, [], bytes⟩ s
def adminIn (recovery fatal : Bool) (fn cid : Nat) (f : State → State) (s : State) : State :=
  let here := if fn = 512 then s.pwr.started && decide (s.pwr.hold = 0) else isSet s (F.HST_FN_STATUS_CCEN fn)
  if !here || s.pwr.powerLoss then s
  else if isSet s F.DMP_STATUS_FATAL && !(fatal && decide (fn = 0 ∨ fn = 512)) then adminDone fn cid 0 6 0 0 [] s
  else if decide (get s F.TAB_STATUS_SELECTED = 3) && !recovery then adminDone fn cid 0 1 1 0 [] s
  else f s
def adminSide : Nat → Nat → (State → State) → State → State := adminIn false false

/-- An admin command that the sideband does not tunnel is refused to it as an unsupported opcode (R395, R418; log entry 61). -/
def admin (fn cid : Nat) (f : State → State) : State → State :=
  adminSide fn cid (if fn = 512 then adminDone fn cid 0 1 1 0 [] else f)

/-- The registers of a calibration item, numbered as R462 numbers its entries (R455, R464). -/
def calFields (i : Nat) : List Fld :=
  if i = 0 then [F.CAL_REFADC_GAIN, F.CAL_REFADC_OFFSET]
  else if i = 1 then [F.CAL_HU_GAIN, F.CAL_HU_OFFSET]
  else if i < 38 then [F.CAL_EXP_GAIN (i - 2), F.CAL_EXP_OFFSET (i - 2)]
  else if i < 103 then [F.CAL_DIE (i - 38)]
  else if i < 167 then [F.CAL_LASER (i - 103)]
  else []

/-- The boundary of calibration items: the values written come into force; once none is left, the Calibrate commands that wait for
them complete (R417, R455, R459). -/
def takeCal (p : Nat → Bool) (s : State) : State :=
  let c := s.cal
  let s1 := takeForces ((c.fresh.filter p).map calFields).flatten s
  let rest := c.fresh.filter fun i => !p i
  if rest = c.fresh then s
  else if rest = [] then
    c.done.foldl (fun t x => adminDone x.1 x.2 0 0 0 0 [] t) { s1 with cal := { c with fresh := [], done := [] } }
  else { s1 with cal := { c with fresh := rest } }

/-- The opcodes of the command set: of a function's admin queue, PFs having more, and of an I/O queue (R395). -/
def adminOps (fn : Nat) : List Nat :=
  [0x00, 0x01, 0x02, 0x04, 0x05, 0x06, 0x08, 0x09, 0x0a, 0x0c, 0x19, 0x1a, 0x1d, 0x1e, 0x86]
    ++ (if fn < 2 then [0x0d, 0x10, 0x11, 0x15, 0x1c] else []) ++ [0xc0, 0xc1, 0xc4, 0xc8, 0xcd]
def ioOps : List Nat := [Op.flush, Op.write, Op.read, Op.writeZeroes, Op.dsm, Op.verify, Op.recall]

/-- INVALID_OPCODE: a reserved or unsupported opcode completes with Invalid Command Opcode (R393, R395); queue 0 is the admin
queue of the function. -/
def execInvalidOpcode (fn qid cid opc : Nat) (s : State) : Out :=
  if qid = 0 then .next (if opc ∈ adminOps fn then s else admin fn cid (adminDone fn cid 0 1 1 0 []) s)
  else match s.host.cmds.find? fun c => decide (c.fn = fn) && decide (c.qid = qid) && decide (c.cid = cid) && decide (c.opc = opc) && decide (c.phase = .arrived) with
    | none => .next s
    | some c => .next (if opc ∈ ioOps ∨ !hostRuns s then s else failCmd c 0 1 1 s)

/-- CREATE_IO_SQ: an I/O submission queue takes a context; its class is that of QPRIO, no better than the function's best
(R375, R377). -/
def execCreateIoSq (fn cid qid size cqid prio : Nat) (s : State) : Out :=
  .next (admin fn cid (fun s =>
    if qid = 0 ∨ (findQueue s fn qid true).isSome ∨ ctxLimit s fn ≤ get s (F.HST_FN_STATUS_IOQ fn) + 2 then adminDone fn cid 1 1 1 0 [] s
    else if (findQueue s fn cqid false).isNone ∨ cqid = 0 then adminDone fn cid 1 0 1 0 [] s
    else if size < 2 ∨ 65536 < size then adminDone fn cid 1 2 1 0 [] s
    else adminDone fn cid 0 0 0 0 [] (addQueue ⟨fn, qid, true, freeCtx s, size, cqid, max (prio % 4) (get s (F.HST_FN_CFG_CLASS fn)), 0, [], none, none⟩ s)) s)

/-- The vectors of a function's MSI-X table: one more than its I/O queue pairs, at most 2,048 (R374). -/
def msixVectors (s : State) (fn : Nat) : Nat := min 2048 (ctxLimit s fn / 2)

/-- CREATE_IO_CQ: an I/O completion queue takes a context; a vector outside the MSI-X table is refused with Invalid Interrupt Vector (R374, R375;
log entry 88). -/
def execCreateIoCq (fn cid qid size : Nat) (vector : Option Nat) (s : State) : Out :=
  .next (admin fn cid (fun s =>
    if qid = 0 ∨ (findQueue s fn qid false).isSome ∨ ctxLimit s fn ≤ get s (F.HST_FN_STATUS_IOQ fn) + 2 then adminDone fn cid 1 1 1 0 [] s
    else if size < 2 ∨ 65536 < size then adminDone fn cid 1 2 1 0 [] s
    else if (match vector with | none => false | some v => decide (msixVectors s fn ≤ v)) = true then adminDone fn cid 1 8 1 0 [] s
    else adminDone fn cid 0 0 0 0 [] (addQueue ⟨fn, qid, false, freeCtx s, size, 0, 0, 0, [], none, vector⟩ s)) s)

/-- DELETE_IO_SQ: commands before their decision point complete with Command Aborted due to SQ Deletion; the deletion completes
after the rest (R396). -/
def execDeleteIoSq (fn cid qid : Nat) (s : State) : Out :=
  .next (admin fn cid (fun s =>
    match findQueue s fn qid true with
    | none => adminDone fn cid 1 1 1 0 [] s
    | some q =>
      if qid = 0 ∨ q.deleting.isSome then adminDone fn cid 1 1 1 0 [] s
      else
        let s1 := { s with
            host := { s.host with
            queues := s.host.queues.map fun x => if x = q then { q with bells := [], deleting := some cid } else x,
            fetching := s.host.fetching.filter fun x => decide (x.1 ≠ fn) || decide (x.2.1 ≠ qid) } }
        let mine := s1.host.cmds.filter fun c => decide (c.fn = fn) && decide (c.qid = qid) && !c.decided
        settleDeletes (refreshSlots fn (mine.foldl (fun u c => failCmd c 0 8 0 u) s1))) s)

/-- DELETE_IO_CQ: frees the queue, or fails with Invalid Queue Deletion while a submission queue is bound (R396). -/
def execDeleteIoCq (fn cid qid : Nat) (s : State) : Out :=
  .next (admin fn cid (fun s =>
    match findQueue s fn qid false with
    | none => adminDone fn cid 1 1 1 0 [] s
    | some q =>
      if qid = 0 then adminDone fn cid 1 1 1 0 [] s
      else if s.host.queues.any fun x => x.sub && decide (x.fn = fn) && decide (x.cq = qid) then adminDone fn cid 1 0xc 1 0 [] s
      else adminDone fn cid 0 0 0 0 [] (freeQueue q s)) s)

/-- ABORT: the named command is withdrawn before its decision point, or reported not aborted (R388, R389). -/
def execAbort (fn cid sqid acid : Nat) (s : State) : Out :=
  .next (admin fn cid (fun s =>
    match s.host.cmds.find? fun c => decide (c.fn = fn) && decide (c.qid = sqid) && decide (c.cid = acid) && !c.decided with
    | some c => adminDone fn cid 0 0 0 0 [] (bump F.HST_ABORTS_DONE 1 (failCmd c 0 7 0 s))
    | none => adminDone fn cid 0 0 0 1 [] (bump F.HST_ABORTS_NOT 1 s)) s)

/-- The commands of a function before their decision point are withdrawn, and no completion entries are posted (R396); those
past it keep their effect, and their slots until they end. -/
def withdrawFn (fn : Nat) (s : State) : State :=
  let s1 := { s with
      host := { s.host with
      queues := s.host.queues.map fun (x : Queue) => (if x.fn = fn then { x with bells := [] } else x : Queue),
      fetching := s.host.fetching.filter fun x => decide (x.1 ≠ fn),
      aers := s.host.aers.filter fun x => decide (x.1 ≠ fn),
      held := s.host.held.filter fun x => decide (x.1 ≠ fn),
      sent := s.host.sent.filter fun x => decide (x.1 ≠ fn) } }
  (s1.host.cmds.filter fun c => decide (c.fn = fn) && !c.decided).foldl (fun u c => dropCmd c u)
    { s1 with host := { s1.host with cmds := s1.host.cmds.map fun c => if c.fn = fn then { c with mute := true } else c } }

/-- The queues of a function are deleted by its reset. -/
def dropQueues (fn : Nat) (s : State) : State :=
  (s.host.queues.filter fun q => decide (q.fn = fn)).foldl (fun u q => freeQueue q u) s

/-- A download session closes; what it staged is discarded (R415, R495, R498, R514). -/
def closeTab (s : State) : State :=
  putAll [(F.TAB_STATUS_SESSION_OPEN, 0), (F.TAB_STATUS_HOLDER, 0), (F.TAB_STAGED, 0)] { s with host := { s.host with tabSess := none } }
def closeFw (s : State) : State :=
  putAll [(F.FWU_STATUS_SESSION_OPEN, 0), (F.FWU_STATUS_HOLDER, 0), (F.FWU_STAGED, 0)] { s with host := { s.host with fwSess := none } }

/-- Whether a function holds a session. -/
def holds (fn : Nat) (x : Option Session) : Bool := match x with | some v => decide (v.holder = fn) | none => false

/-- A reset of a function (R396, R415, R522): its commands are withdrawn, its queues go, stamp reporting and its features are
at their defaults, its sessions close. -/
def resetFn (fn : Nat) (s : State) : State :=
  let s1 := put (F.HST_FN_STATUS_CCEN fn) 0 (dropQueues fn (withdrawFn fn s))
  let s2 := putAll [(F.HST_FN_STATUS_STAMP fn, 0), (F.HST_FN_STATUS_IOQ fn, 0)] s1
  let s3 := if holds fn s2.host.tabSess then closeTab s2 else s2
  let s4 := if holds fn s3.host.fwSess then closeFw s3 else s3
  settleRdy fn (refreshSlots fn { s4 with
      host := { s4.host with
      features := mapEraseRange s4.host.features (256 * fn) (256 * fn + 256),
      ams := mapErase s4.host.ams fn } })

/-- FLR: a Function Level Reset (R396). -/
def execFlr (fn : Nat) (s : State) : Out := .next (when (decide (fn < 512)) (fun t => put F.PWR_RESET_CAUSE_KIND 4 (resetFn fn t)) s)

/-- CC_EN_SET: CC.EN set with an arbitration mechanism; the admin queues take their contexts, and CSTS.RDY is set once start-up
allows (R377, R524). -/
def execCcEnSet (fn ams : Nat) (s : State) : Out :=
  if 512 ≤ fn ∨ isSet s (F.HST_FN_STATUS_CCEN fn) ∨ isSet s (F.HST_FN_STATUS_RDY fn) ∨ inflightOf s fn ≠ 0 ∨ (get s (F.HST_FN_CFG_CTX fn) < 2 ∧ ¬(fn = 0 ∧ get s F.TAB_STATUS_SELECTED = 3)) then .next s
  else
    let s1 := put (F.HST_FN_STATUS_CCEN fn) 1 { s with host := { s.host with ams := mapPut s.host.ams fn (ams % 8) } }
    let s2 := addQueue ⟨fn, 0, true, freeCtx s1, 4096, 0, 0, 0, [], none, none⟩ s1
    let s3 := addQueue ⟨fn, 0, false, freeCtx s2, 4096, 0, 0, 0, [], none, some 0⟩ s2
    .next (putB (F.HST_FN_STATUS_RDY fn) s.pwr.rdyOk s3)

/-! ### Links -/

/-- A link changed state; its event (R371, R398). -/
def linkChange (l : Nat) (s : State) : State := raise evHST (B.HST_EVT_LINK_CHANGE + l) s

/-- The width of a link whose every lane works (R371). -/
def fullWidth (s : State) : Nat := if get s F.HST_STATUS_PORT_MODE = 1 ∨ get s F.HST_STATUS_PORT_MODE = 2 then 8 else 16

/-- The widest of x8 and x4, on lanes from a multiple of that width on, that excludes the lanes of a mask, of `n` lanes; 0 where none does (R372;
log entry 88). -/
def widthWithout (n bad : Nat) : Nat :=
  let fits (w : Nat) : Bool := (List.range (n / w)).any fun i => decide (bad / 2 ^ (w * i) % 2 ^ w = 0)
  if fits 8 then 8 else if fits 4 then 4 else 0

/-- HOST_LANE_FAULT: faults of lanes or of a PHY slice retrain the link at the widest width without the faulty lanes (R372, R535); no
viable width takes the link down and resets its functions. `lanes` is a mask of the lanes found faulty. -/
def execHostLaneFault (link lanes : Nat) (s0 : State) : Out :=
  let bad := mapGet (fun _ => 0) s0.host.badLanes link ||| (lanes % 2 ^ fullWidth s0)
  let s := { s0 with host := { s0.host with badLanes := mapPut s0.host.badLanes link bad } }
  let width := min (get s (F.HST_LINK_WIDTH link)) (widthWithout (fullWidth s) bad)
  if 4 ≤ link ∨ !isSet s0 (F.HST_LINK_UP link) ∨ lanes % 2 ^ fullWidth s0 = 0 then .next s0
  else
    let again := isExposed s Dom.hostLink link
    let s1 := openWindow Dom.hostLink link (136 + link) s
    let s2 := raise evHST (B.HST_EVT_LANE_DEGRADE + link) (bump (F.HST_LINK_RETRAINS link) 1 (put (F.HST_LINK_WIDTH link) width s1))
    if width = 0 then
      .next (closeWindow Dom.hostLink link 2 (forAll (fnsOfLink s link) resetFn (linkChange link (put (F.HST_LINK_UP link) 0 s2))))
    else .next (closeWindow Dom.hostLink link (if again then 1 else 0) s2)

/-- HOST_LINK_LOSS: a hot reset or link disable resets the link's functions; the retrain that follows runs at full width
(R372, R535). `up` tells whether the link comes up again, with its speed. -/
def execHostLinkLoss (link speed : Nat) (up : Bool) (s : State) : Out :=
  if 4 ≤ link ∨ (fnsOfLink s link = [] ∧ !isSet s (F.HST_LINK_UP link)) then .next s
  else
    let s1 := forAll (fnsOfLink s link) resetFn { s with host := { s.host with badLanes := mapErase s.host.badLanes link } }
    let s2 := putAll [(F.HST_LINK_UP link, if up then 1 else 0), (F.HST_LINK_SPEED link, if up then speed else 0),
      (F.HST_LINK_WIDTH link, if up then fullWidth s else 0)] s1
    let s3 := put F.PWR_RESET_CAUSE_KIND 3 (if up then bump (F.HST_LINK_RETRAINS link) 1 s2 else s2)
    .next (linkChange link (unexpose Dom.hostLink link s3))

/-- HST_CLR_CNT: HST.CTRL.CLR_CNT clears the counters at 0x03c to 0x058 and LAT0[31:16] (R398). -/
def execHstClrCnt (s : State) : Out :=
  .next (clearAll [F.HST_LAT0_OVER, F.HST_CMDS, F.HST_ABORTS_DONE, F.HST_ABORTS_NOT, F.HST_ADMIT_WAIT, F.HST_OVERLAP_WAIT,
    F.HST_XFER_ERR, F.HST_BUS_ERR, F.HST_LAT0_MAX] s)

end Sys2Proof.Machine
end

