-- ==== Sys2Proof/Machine/CalRun.lean ====
section
/-! DEFINITION. The calibration procedure under way: its steps, the calibration line of each expander, results and bounds (R455, R457 to R460,
R463). -/

namespace Sys2Proof.Machine

/-- The bounds of a gain in Q2.30 and of an offset in the unit of the item's register (R460): codes are 1/16 in the converters'
registers. -/
def gainBound (s : State) : Nat := 2 ^ 20 * get s F.CAL_BOUNDS_GAIN_B
def offsetBound (s : State) (i : Nat) : Nat := get s F.CAL_BOUNDS_OFS_B * (if i < 38 then 16 else 1)

/-- Whether a value of an item lies within its bounds; items 38 up have no gain. -/
def inBounds (s : State) (i : Nat) (gain : Nat) (ofs : Int) : Bool :=
  (decide (38 ≤ i) || (decide (2 ^ 30 - gainBound s ≤ gain) && decide (gain ≤ 2 ^ 30 + gainBound s)))
    && decide (ofs.natAbs ≤ offsetBound s i)

/-- The bit of an item in CAL.OUT_OF_BOUNDS (R464), where it has one. -/
def boundsBit (i : Nat) : Option Nat := if i = 0 then some 37 else if i = 1 then some 36 else if i < 38 then some (i - 2) else none
def markBounds (i : Nat) (v : Bool) (s : State) : State :=
  match boundsBit i with
  | none => s
  | some b => putBit F.CAL_OUT_OF_BOUNDS b v s

/-- A value written to an item, to come into force at its boundary (R10, R459); the reference converter's is at hand while it is
idle. -/
def writeItem (i gain : Nat) (ofs : Int) (s : State) : State :=
  let s1 := match calFields i with
    | [g, o] => putI o ofs (put g gain s)
    | [o] => putI o ofs s
    | _ => s
  let s2 := { s1 with cal := { s1.cal with
    fresh := if i ∈ s1.cal.fresh then s1.cal.fresh else s1.cal.fresh ++ [i],
    setAt := mapPut s1.cal.setAt i (now s1) } }
  if i = 0 ∧ s2.cal.job = none then takeCal (fun x => decide (x = 0)) s2 else s2

/-- What an item holds. -/
def itemGain (s : State) (i : Nat) : Nat := match calFields i with | [g, _] => get s g | _ => 2 ^ 30
def itemOffset (s : State) (i : Nat) : Int := match calFields i with | [_, o] => getI s o | [o] => getI s o | _ => 0

/-! ### The steps -/

/-- The expanders a procedure measures: all, or those of the mask (R417, R458). -/
def jobExpanders (j : CalJob) : List Nat := if j.action = 1 then (List.range 36).filter fun e => decide (bitOf j.mask e = 1) else List.range 36

/-- The expanders of a link die that a procedure measures, in ascending index (R457, R458). -/
def dieLine (j : CalJob) (d : Nat) : List Nat := (jobExpanders j).filter fun e => decide ((if e < 32 then e / 8 else e - 32) = d)

/-- The steps of a procedure with their lengths in PWM periods (R458): 5, 8 and 4 ms, then 5.2 ms for each expander of the longest line, and the
period in which the last conversions arrive. Step 5 runs within step 4. -/
def calPlan (j : CalJob) (skip : Bool) : List (Nat × Nat) :=
  let lines := 208 * (((List.range 4).map fun d => (dieLine j d).length).foldl max 0) + 1
  (if j.action = 0 then [(1, 200), (2, 320), (3, 160)] else if j.action = 4 then [(1, 200)] else if skip then [] else [(1, 200), (2, 320)])
    ++ [(4, lines)]

/-- The step under way, and the expander that a die's DAC serves with its place in the 208 periods of its two points (R458). -/
def calStep (s : State) : Nat := (s.cal.plan.headD (0, 0)).1
def onLine (s : State) (d : Nat) : Option (Nat × Nat) :=
  match s.cal.job with
  | none => none
  | some j => if calStep s = 4 ∧ 0 < s.cal.period then ((dieLine j d)[(s.cal.period - 1) / 208]?).map fun e => (e, (s.cal.period - 1) % 208) else none

/-- Whether the procedure measures an item now (R463). -/
def measuring (s : State) (i : Nat) : Bool :=
  let st := calStep s
  (decide (st = 1) && decide (i = 0)) || (decide (st = 3) && decide (i = 1))
    || ((List.range 4).any fun d => match onLine s d with | none => false | some x => decide (i = x.1 + 2))
    || (decide (st = 4) && decide (s.cal.period < 40) && decide ((s.cal.job.map CalJob.action) = some 0) && decide (38 ≤ i) && decide (i < 103))

/-- Gain and offset of a converter from two points: voltages in µV and codes summed over `n` conversions, against the ideal 65,536 codes for
2.5 V (R455, R457); the rounding of the quotients is open. -/
def twoPoint (v1 v2 c1 c2 n : Nat) : Nat × Int :=
  ((roundQuot (2 ^ 30 * 262144 * ((v2 : Int) - v1) * n) (10000000 * (c2 - c1))).toNat,
   roundQuot (16 * ((c1 : Int) * ((v2 : Int) - v1) - (v1 : Int) * ((c2 : Int) - c1))) (n * (v2 - v1)))

/-- An expander passed over: its value stays (R459). -/
def skipExpander (e : Nat) (s : State) : State :=
  if e ∈ s.cal.skip then s
  else raise evCAL B.CAL_EVT_EXP_SKIP (putBit F.CAL_SKIPPED e true { s with cal := { s.cal with skip := e :: s.cal.skip } })

/-- A measured result: outside its bounds it is not applied; within them it is written (R459, R460). That of an item which software has written
while it was measured is discarded (R463). -/
def applyItem (i gain : Nat) (ofs : Int) (s : State) : State :=
  if i ∈ s.cal.written then (if 2 ≤ i ∧ i < 38 then putBit F.CAL_SKIPPED (i - 2) true s else s)
  else if inBounds s i gain ofs = false then raise evCAL B.CAL_EVT_BOUND (markBounds i true s)
  else
    let differs := decide (itemGain s i ≠ gain) && decide (i < 38) || decide (itemOffset s i ≠ ofs)
    writeItem i gain ofs (markBounds i false { s with cal := { s.cal with changed := s.cal.changed || differs } })

/-- The result of an expander whose two points have been averaged; one whose line brought no conversion at a point is skipped (R458, R459). -/
def settleExpander (d e : Nat) (s : State) : State :=
  let n (p : Nat) : Nat := mapGet (fun _ => 0) s.cal.counts (2 * e + p)
  let sum (p : Nat) : Nat := mapGet (fun _ => 0) s.cal.sums (2 * e + p)
  let v := s.cal.dacs.getD d (0, 0)
  if linkInst s e = false ∨ e ∈ s.cal.skip then s
  else if n 0 = 0 ∨ n 1 = 0 then skipExpander e s
  else
    let r := twoPoint v.1 v.2 (sum 0 * n 1) (sum 1 * n 0) (n 0 * n 1)
    applyItem (2 + e) r.1 r.2 s

/-- A period of step 4 on one link die (R457 to R459): an expander whose link is not up while its turn lasts is skipped; the expander before it is
settled. -/
def dieTick (j : CalJob) (d : Nat) (s : State) : State :=
  let n := s.cal.period - 1
  let s1 := match (dieLine j d)[n / 208 - 1]? with
    | none => s
    | some e => if n % 208 = 0 ∧ 208 ≤ n then settleExpander d e s else s
  match (dieLine j d)[n / 208]? with
  | none => s1
  | some e => if linkInst s1 e = true ∧ linkUp s1 e = false then skipExpander e s1 else s1

/-- Step 5: the die offsets from the fused trims (W58 to W74) and the new reference gain (R458). -/
def dieOffsets (s : State) : State :=
  forAll (List.range 65) (fun i t =>
    applyItem (38 + i) (2 ^ 30) (Config.dieOffset (toSigned 16 (mapGet (fun _ => 0) t.fuse.words (58 + i / 4) / 2 ^ (16 * (i % 4)))) (itemGain t 0)) t) s

/-- A step ends: the reference converter's gain and offset, the DACs' voltages, or those of the hold-up sense converter are set (R458). -/
def endStep (st : Nat) (s : State) : State :=
  let x := s.cal.seen
  if st = 1 then applyItem 0 (Config.refGain x.ref) (Config.refOffset x.ref) s
  else if st = 2 then { s with cal := { s.cal with dacs := x.dacs, refAt := some (now s) } }
  else if st = 3 then
    let v := s.cal.dacs.getD 0 (0, 0)
    let r := twoPoint v.1 v.2 x.hu.1 x.hu.2 1
    applyItem 1 r.1 r.2 s
  else s

/-- A PWM period of the procedure under way (R458). -/
def calTick (s : State) : State :=
  match s.cal.job, s.cal.plan with
  | some j, (st, n) :: rest =>
    let s1 := { s with cal := { s.cal with period := s.cal.period + 1 } }
    let s2 := if st = 4 then forAll (List.range 4) (dieTick j) (if j.action = 0 ∧ s1.cal.period = 40 then dieOffsets s1 else s1) else s1
    if s2.cal.period < n then s2
    else
      let s3 := endStep st s2
      let s4 := { s3 with cal := { s3.cal with plan := rest, period := 0, written := [] } }
      match rest with
      | [] => s4
      | x :: _ => put F.CAL_STATUS_STEP x.1 s4
  | _, _ => s

/-- A conversion of an expander's calibration line, channel 8: after 1 ms at a DAC point, 64 periods enter its average (R457, R458). -/
def calSample (l code : Nat) (s : State) : State :=
  match (List.range 4).find? fun d => match onLine s d with | none => false | some x => decide (x.1 = l) with
  | none => s
  | some d =>
    let r := ((onLine s d).getD (0, 0)).2
    if r % 104 < 40 then s
    else
      let k := 2 * l + r / 104
      { s with cal := { s.cal with
        sums := mapPut s.cal.sums k (mapGet (fun _ => 0) s.cal.sums k + code),
        counts := mapPut s.cal.counts k (mapGet (fun _ => 0) s.cal.counts k + 1) } }

end Sys2Proof.Machine
end

