-- ==== Sys2Proof/Machine/BayLink.lean ====
section
/-! DEFINITION. The bay link and carousel link (R85 to R98): the PWM period and its packets, upstream packets, training and immediate codes,
with the control of a period (R229 to R247). Link 32 + c is the carousel link of carousel c. -/

namespace Sys2Proof.Machine

/-! ### The wobble speed -/

/-- Whether a wobble speed (1/65,536 rev/s) lies within SPEED_TOL of nominal (R111). -/
def speedOk (s : State) (h v : Nat) : Bool :=
  let nom := 65536 * (if get s (F.CH_CTRL_SPEED h) = 1 then 80 else 160)
  decide (((v : Int) - (nom : Nat)).natAbs * 10000 ≤ nom * get s (F.CH_SPEED_TOL h))

/-- SPEED_OK of a head is judged again, with its permits (R111, R122). -/
def judgeSpeed (h : Nat) (s : State) : State :=
  let ok := speedOk s h (get s (F.CH_WOB_SPEED h))
  let s1 := putB (F.CH_STATUS_SPEED_OK h) ok s
  permits h (if isSet s (F.CH_STATUS_SPEED_OK h) = true ∧ ok = false then raise (evCH h) B.CH_EVT_SPEED_RANGE s1 else s1)

/-- A head's PLL delivers a speed: it is LOCKED or in HOLD (R106). -/
def wobbleUp (s : State) (h : Nat) : Bool := headInst s h && (decide (wpllSt s h = 2) || decide (wpllSt s h = 3))

/-- The wobble speed of one head (R106, R111): the NCO's frequency over 131,072 periods a revolution. -/
def wobbleSpeed (h : Nat) (s : State) : State :=
  if wobbleUp s h = false then s
  else judgeSpeed h (put (F.CH_WOB_SPEED h) (roundQuot ((chanOf s h).nco : Nat) 131072).toNat s)

/-- The wobble speed a bay's observer uses (R106): the mean of the heads that deliver. -/
def bayWobble (b : Nat) (s : State) : State :=
  let hs := [2 * b, 2 * b + 1].filter (wobbleUp s)
  match hs with
  | [] => updSpin b (fun x => { x with wobRun := 0 }) (put (F.MOT_STATUS_WOB_VALID b) 0 s)
  | _ =>
    let v := (roundQuot ((hs.map fun h => get s (F.CH_WOB_SPEED h)).sum : Nat) hs.length).toNat
    let bad := decide (get s (F.MOT_OBS_WOB_TOL b) * (v * 600) <
      ((getI s (F.MOT_SPEED b)) * 65536 - ((v * 600 : Nat) : Int)).natAbs * 1000)
    updSpin b (fun x => { x with wobRun := if bad then x.wobRun + 1 else 0 })
      (put (F.MOT_STATUS_WOB_VALID b) 1 (put (F.MOT_WOB_SPEED b) v s))

/-! ### References -/

/-- The speed reference of a period (R239, R240): in RAMP it rises at HANDOVER.RATE and carries the open-loop angle on; in RUN it goes toward the
target at ACCEL or DECEL, toward BRAKE_RPM on a STOP; SPEED_LOCK falls outside 3 % of the target. -/
def speedPeriod (b : Nat) (s : State) : State :=
  let x := spinOf s b
  if motSt s b = 2 then updSpin b (fun x =>
    { x with ref := x.ref + get s (F.MOT_HANDOVER_RATE b), rampAcc := (x.rampAcc + x.ref * get s (F.MOT_MOTOR_P b)) % 96000000000 }) s
  else if motSt s b ≠ 3 then s
  else
    let goal := 40000 * (if x.stopping then get s (F.MOT_BRAKE_BRAKE_RPM b) else x.target)
    let ref := if x.ref < goal then min goal (x.ref + get s (F.MOT_RAMP_ACCEL b)) else max goal (x.ref - get s (F.MOT_RAMP_DECEL b))
    let ok := decide ((getI s (F.MOT_SPEED b) - ((10 * x.target : Nat) : Int)).natAbs * 100 ≤ 30 * x.target) && !x.stopping
    let s1 := updSpin b (fun x => { x with ref := ref, lockRun := if ok then x.lockRun + 1 else 0 }) s
    if ok then s1 else put (F.MOT_STATUS_SPEED_LOCK b) 0 s1

/-- The open-loop angle of a ramp in 1/65,536 turn, `half` half periods after the boundary (R239). -/
def rampAngle (s : State) (b half : Nat) : Nat :=
  let x := spinOf s b
  (2 * x.rampAcc + half * x.ref * get s (F.MOT_MOTOR_P b)) * 65536 / 192000000000 % 65536

/-- The next speed of the carousel's profile (R245): with `rem` to go in a direction, the acceleration `a`, the limit `vmax` and the counts per
revolution, it slows down where stopping takes what is left, and goes toward the limit elsewhere. -/
def profileSpeed (v rem a vmax n : Int) : Int :=
  let u : Int := v.natAbs
  let dir := rem.sign
  if v * dir < 0 then v.sign * max 0 (u - a)
  else if 2 * a * rem.natAbs ≤ u * u * n + 2 * a * u * n then dir * max 0 (u - a)
  else if vmax < u then dir * max vmax (u - a)
  else dir * min vmax (u + a)

/-- The carousel's profile of a period (R244 to R247): a trapezoid toward the target at VMAX and ACC, 2 rpm forward while homing, to rest in
every other state; the reference it feeds is its speed plus 20/s times the position error, and does not change sign while the measured
speed is 0.5 rpm or more. -/
def carouselProfile (c : Nat) (s : State) : State :=
  let x := crsOf s c
  let st := cmotSt s c
  let n : Int := get s (F.CMOT_ENC_COUNTS c)
  let a : Int := (5 * get s (F.CMOT_PROFILE_ACC c) : Nat)
  let here := carPos s c * profScale
  if st = 0 ∨ st = 6 then updCrs c (fun x => { x with profV := 0, profPos := here, profile := 0 }) s
  else
    let rem := x.target * profScale - x.profPos
    let stop := decide (st ≠ 1 ∧ st ≠ 3)
    let v := if stop then x.profV.sign * max 0 (x.profV.natAbs - a)
      else if st = 1 then min 24000000 (x.profV + a)
      else profileSpeed x.profV rem a (120000 * get s (F.CMOT_PROFILE_VMAX c) : Nat) n
    let ends := decide (st = 3) && decide ((x.profV.natAbs : Int) ≤ a) && decide ((rem.natAbs : Int) ≤ a * n)
    let v := if ends then 0 else v
    let pos := if ends then x.target * profScale else x.profPos + v * n
    let raw := roundQuot v 12000 + roundQuot (1200000 * (pos - here)) (n * profScale).toNat
    let fast := decide (500 ≤ (getI s (F.CMOT_SPEED c)).natAbs)
    let fed := if fast = true ∧ 0 < x.profile then max 0 raw else if fast = true ∧ x.profile < 0 then min 0 raw else raw
    updCrs c (fun x => { x with profV := v, profPos := pos, profile := fed }) s

/-- The chopper follows the bus voltage of bit time 0, by an immediate command (R241). -/
def chopperSwitch (c : Nat) (s : State) : State :=
  let v := get s (F.CMOT_BUS_STATUS_V c)
  let was := isSet s (F.CMOT_STATUS_CHOP_ON c)
  let on := if 250 * get s (F.CMOT_BUS_CTRL_CHOP_ON c) ≤ v then true
    else if v ≤ 250 * get s (F.CMOT_BUS_CTRL_CHOP_OFF c) then false else was
  if on = was then s else sendGate (32 + c) 3 false (if on then 1 else 0) (putB (F.CMOT_STATUS_CHOP_ON c) on s)

/-! ### The period -/

/-- The header runs of a link over the period that ends (R94, R95). -/
def headerRuns (l : Nat) (s : State) : State :=
  updBus l (fun k => if k.heard then { k with heard := false, upRun := k.upRun + 1, downRun := 0 }
    else { k with upRun := 0, downRun := k.downRun + 1 }) s

/-- The RWB values that CONFIG carries (R88, R96). -/
def configFields (l : Nat) : List Fld := [F.BL_DEADTIME l, F.BL_OC_TRIP l]
def sendConfig (l : Nat) (s : State) : State :=
  sendPacket l 5 (configPayload (inForce s (F.BL_DEADTIME l)) (inForce s (F.BL_OC_TRIP l))) s

/-- The period's packets of one link (R86 to R88, R94): what the expander applies in the period that begins, HEADER, IDENT_REQ while the
expander is not identified, CONFIG when a value it carries comes into force. -/
def linkPeriod (l : Nat) (s : State) : State :=
  let p := pwmNow s
  let k := busOf s l
  let s1 := headerRuns l (updBus l (fun k => { k with act := expanderTakes p k.sent k.act, sent := [], codes := [] }) s)
  if get s (F.BL_STATUS_STATE l) = 0 ∨ get s (F.BL_STATUS_STATE l) = 4 then takeForces (configFields l) s1
  else
    let s2 := takeForces (configFields l) (sendPacket l 0 (headerPayload (p % 65536) k.pwmEn k.stepEn) s1)
    let s3 := if get s (F.BL_STATUS_STATE l) = 2 ∧ k.known = false then sendPacket l 6 [] s2 else s2
    if k.known = true ∧ (configFields l).any (fun f => decide (inForce s3 f ≠ inForce s f)) = true then sendConfig l s3 else s3

/-- The spindle's side of a period: the wobble speeds of its heads, a loss under way, the speed reference; the edges sent for the period are
those in force (R88), and where no samples come in it, PWM and SAMPLE go on without them. -/
def bayPeriod (b : Nat) (s : State) : State :=
  let s1 := takeForces [F.MOT_CUR_KP b, F.MOT_CUR_KI b, F.MOT_SHUNT_SETTLE b, F.MOT_SHUNT_WIN_MIN b] (linkPeriod b s)
  let sent := (busOf s b).sent.any fun p => decide (p.1 = 1)
  let s2 := if sent then updSpin b (fun x => { x with live := x.edges, liveWins := x.wins }) s1 else s1
  let s3 := speedPeriod b (losePeriod b (bayWobble b (wobbleSpeed (2 * b + 1) (wobbleSpeed (2 * b) s2))))
  if linkUp s b = true ∧ (mapFind (busOf s3 b).act 2).isNone = true then controlPeriod b s3 else s3

/-- The references of a bay's axes for the next period go out in one STEP_REF packet (R88, R256). -/
def axesPeriod (b : Nat) (s : State) : State :=
  let r := [0, 1, 2].foldl (fun (t : List (Nat × Nat × Int × Int) × State) a =>
    let u := stepRef b a (pwmNow s + 1) t.2
    (match u.1 with | none => t.1 | some e => t.1 ++ [e], u.2)) ([], s)
  let code (x : Int) : Nat := thresholdCode (inForce s (F.CAL_EXP_GAIN b)) (inForceI s (F.CAL_EXP_OFFSET b)) x.natAbs
  if r.1 = [] then r.2
  else sendPacket b 4 (stepRefPayload ((pwmNow s + 1) % 65536) (r.1.map fun e => (e.1, e.2.1, code e.2.2.1, code e.2.2.2))) r.2

/-- The carousel's side of a period. -/
def carPeriod (c : Nat) (s : State) : State :=
  let s1 := takeForces [F.CMOT_CUR_KP c, F.CMOT_CUR_KI c] (linkPeriod (32 + c) s)
  carouselProfile c (updCrs c (fun x => { x with restRun := if (getI s1 (F.CMOT_SPEED c)).natAbs < 500 then x.restRun + 1 else 0 }) s1)

/-- The SAMPLE packet of a carousel link for period `p` (R241, R244): bus voltage, phase currents, and the chopper's current while it is on. -/
def carEntries (s : State) (c : Nat) : List (Nat × Nat × Nat) :=
  [(0, 4, 1), (31250, 9, 2), (31250, 10, 3)] ++ (if isSet s (F.CMOT_STATUS_CHOP_ON c) then [(31250, 11, 4)] else [])
    ++ (if s.cal.job.isSome then [(31250, 8, 8)] else [])
def carSend (c : Nat) (s : State) : State :=
  let p := (pwmNow s + 1) % 65536
  sendPacket (32 + c) 2 (samplePayload p (carEntries s c)) (sendPacket (32 + c) 1 (pwmPayload p (byPhase (crsOf s c).edges)) s)

/-- PWM_PERIOD (R86, R106, R229, R237, R245, R256, R455): a 40 kHz period starts on every link; the RWB values with this boundary come into
force, and the packets of the period leave. -/
def execPwmPeriod (s : State) : Out :=
  let s1 := takeCal (fun i => decide (2 ≤ i) && decide (i < 38)) (calTick (put F.CLK_PWM (get s F.CLK_PWM + 1) s))
  let s2 := forAll (baysOf s) (fun b t => axesPeriod b (bayPeriod b t)) s1
  .next (forAll (carsOf s) (fun c t =>
    let t1 := carPeriod c t
    if linkUp t1 (32 + c) = true ∧ (mapFind (busOf t1 (32 + c)).act 2).isNone = true then carSend c t1 else t1) s2)

/-! ### Upstream packets -/

/-- Bad packets and 8b/10b violations of a stretch are counted (R87, R96, R98). -/
def noteBad (l viol : Nat) (chars : List BayChar) (s : State) : State :=
  let bad := ((heardPackets chars).filter fun p => p.isNone).length
  when (decide (bad ≠ 0)) (raise (evBL l) B.BL_EVT_LATE) (bump (F.BL_CRC_ERR_UP l) bad (bump (F.BL_CODE_ERR l) viol s))

/-- The payloads of the valid packets of a type in a stretch. -/
def payloadsOf (ty : Nat) (chars : List BayChar) : List (List Nat) :=
  (heardPackets chars).filterMap fun p => match p with | some (t, d) => if t = ty then some d else none | none => none

/-- The toggles of inputs 0 to 7 in a HEADER, 4 bits each, enter the 40-period window (R89, R264); changes without a K28.3 code of their own
restart the debounce interval at the period boundary (R263). -/
def noteToggles (l toggles : Nat) (s : State) : State :=
  updBus l (fun (k : BusLink) =>
    { k with
      toggles := (List.range 8).foldl (fun m i =>
        let w := (toggles / 16 ^ i % 16 :: mapGet (fun _ => []) m i).take 40
        if w.all (fun x => decide (x = 0)) then mapErase m i else mapPut m i w) k.toggles
      changed := (List.range 8).foldl (fun m i =>
        if mapGet (fun _ => 0) k.codesIn i < toggles / 16 ^ i % 16 then mapPut m i (now s) else m) k.changed
      codesIn := [] }) s

/-- The expander's repeats of PWM edges (R88, R248): two in a row switch the inverter off. -/
def noteRepeat (l : Nat) (rep : Bool) (s : State) : State :=
  if rep then
    let n := (busOf s l).repeats + 1
    let s1 := raise (evBL l) B.BL_EVT_PWM_REPEAT (bump (F.BL_LATE_REPEATS l) 1 (updBus l (fun k => { k with repeats := n }) s))
    if n = 2 then raise (evBL l) B.BL_EVT_PWM_OFF s1 else s1
  else updBus l (fun k => { k with repeats := 0 }) s

/-- The encoders of a HEADER (R89, R90): the sleds of a bay in microsteps, the position of a carousel in counts. -/
def noteEncoders (l : Nat) (e0 e1 : Int) (s : State) : State :=
  if l < 32 then
    let enc (a : Nat) (e : Int) (t : State) : State :=
      let n := get t (F.MOV_AX_SCALE_ENC l a)
      encoderCheck l a (if n = 0 then t else putI (F.MOV_AX_ENC_POS l a) (e * (axScale t l a : Nat) / (n : Nat) + (axOf t l a).encOfs) t)
    enc 1 e1 (enc 0 e0 s)
  else putI (F.CMOT_POS (l - 32)) (e0 + (crsOf s (l - 32)).encOfs) s

/-- BAY_HEADER (R86, R87, R89, R94): the characters of a stretch with the HEADER of the period just begun, the 8b/10b violations in it, and the
round trip in bit times. On a link in comma search it shows framed superframes. A HEADER whose flag 2 reports a bad or late packet does not
count as valid in both directions (R94; log entry 75). Flag 2 counts as one bad packet in CRC_ERR; the expander does not tell a late one
apart (DESIGN CHOICE, log entry 75). -/
def execBayHeader (l : Nat) (chars : List BayChar) (viol rtt : Nat) (s : State) : Out :=
  if linkInst s l = false ∨ get s (F.BL_STATUS_STATE l) = 0 ∨ get s (F.BL_STATUS_STATE l) = 4 then .next s
  else
    let s0 := noteBad l viol chars s
    match (payloadsOf 0x80 chars).find? fun d => decide (d.length = 24) with
    | none => .next s0
    | some d =>
      let f (o n : Nat) : Nat := ofBytesLE ((d.drop o).take n)
      let flags := f 20 2
      let s1 := if get s (F.BL_STATUS_STATE l) = 1 then put (F.BL_STATUS_STATE l) 2 s0 else s0
      let s2 := putAll [(F.BL_INPUTS_LEVELS l, f 2 2), (F.BL_INPUTS_TOGGLES l, f 4 4), (F.BL_STATUS_SAFE l, bitOf flags 0),
        (F.BL_STATUS_OC_LATCHED l, bitOf flags 1), (F.BL_RTT l, rtt)]
        (updBus l (fun k => { k with heard := decide (bitOf flags 2 = 0) || linkUp s l, sf := f 0 2, raw := f 2 2, gates := f 16 4 }) s1)
      let s3 := if bitOf flags 2 = 1 then raise (evBL l) B.BL_EVT_LATE (bump (F.BL_CRC_ERR_DOWN l) 1 s2) else s2
      .next (noteEncoders l (toSigned 32 (f 8 4)) (toSigned 32 (f 12 4)) (noteToggles l (f 4 4) (noteRepeat l (decide (bitOf flags 3 = 1)) s3)))

/-- The corrected value of a channel's code (R456): the gain and offset in force, then the expander's channel scale of the tablature, in mV, mA
or 0.1 °C (log entry 76). -/
def channelValue (s : State) (l ch code : Nat) : Int :=
  let scale := imgNat (imgSection s.tab 5) (512 + 48 * l + 4 * ch) 4
  roundQuot ((16 * (code : Int) - inForceI s (F.CAL_EXP_OFFSET l)) * (inForce s (F.CAL_EXP_GAIN l) * scale : Nat)) (16 * 2 ^ 30 * 2 ^ 16)

/-- The entries of SAMPLE packets: tag, channel, code (R90). -/
def sampleEntries : List Nat → List (Nat × Nat × Nat)
  | tag :: ch :: lo :: hi :: rest => (tag, ch, lo + 256 * hi) :: sampleEntries rest
  | _ => []

/-- Channels that a role has (R90); a command for another returns 0xffff. -/
def roleHas (l ch : Nat) : Bool := if l < 32 then decide (ch ≤ 8) else decide (1 ≤ ch ∧ ch ≤ 11)

/-- The value of the entry that satisfies a test, if there is one. -/
def entryValue (s : State) (l : Nat) (es : List (Nat × Nat × Nat)) (p : Nat × Nat × Nat → Bool) : Option Int :=
  (es.find? fun e => p e && roleHas l e.2.1).map fun e => channelValue s l e.2.1 e.2.2

/-- The phase currents of a period from the single shunt (R231): i_x of the first phase to switch on, −i_z in the second window. -/
def shuntCurrents (live : List (Nat × Nat × Nat)) (first second : Int) : List Int :=
  let ph (i : Nat) : Nat := (live.getD i (0, 0, 0)).1
  (List.range 3).map fun k => if k = ph 0 then first else if k = ph 2 then -second else second - first

/-- One zero crossing of a line voltage (R237, R238): a run goes on while the interval agrees with the one before to 5 %. -/
def noteCrossing (b t : Nat) (s : State) : State :=
  updSpin b (fun x =>
    let d := t - x.crosses.headD 0
    let ok := match x.crosses with
      | a :: a' :: _ => decide (20 * ((d : Int) - ((a - a' : Nat) : Int)).natAbs ≤ a - a')
      | _ => true
    { x with crosses := (t :: x.crosses).take 12, crossAt := now s,
             crossRun := if ok then x.crossRun + 1 else 2
             crossRpm := if x.crosses = [] then x.crossRpm else crossSpeed s b 1 d }) s

/-- The three line-to-line voltages of a period (R237): zero crossings, interpolated between periods; none while every line voltage stays below
0.5 V. -/
def lineSamples (b : Nat) (u v w : Int) (s : State) : State :=
  let lines := [u - v, v - w, w - u]
  let old := (spinOf s b).lines
  let base := 65536 * (pwmNow s - 1)
  let ts := (old.zip lines).filterMap fun p =>
    if p.1 * p.2 < 0 ∨ (p.2 = 0 ∧ p.1 ≠ 0) then some (base + (roundQuot (65536 * p.1.natAbs : Nat) (p.1.natAbs + p.2.natAbs)).toNat) else none
  let s1 := if lines.all fun x => decide (x.natAbs < 500) then s
    else (ts.mergeSort fun a b => decide (a ≤ b)).foldl (fun t x => noteCrossing b x t) s
  updSpin b (fun x => { x with lines := lines }) s1

/-- The observer's registers and the runs of the loss and hand-over conditions (R235, R236, R239). -/
def observe (b : Nat) (m : Observed) (s : State) : State :=
  let st := motSt s b
  let x := spinOf s b
  let driven := decide (st ∈ [2, 3, 5])
  let s1 := put (F.MOT_RESID_LAST b) m.resid (peak (F.MOT_RESID_PEAK b) m.resid
    (putI (F.MOT_IDQ_D b) x.mD (putI (F.MOT_IDQ_Q b) x.mQ s)))
  let s2 := if driven = true ∨ st = 1 then
      putI (F.MOT_ANGLE_ERR b) m.pllErr (put (F.MOT_ANGLE b) m.angle (putI (F.MOT_SPEED b) m.speed
        (putB (F.MOT_STATUS_OBS_LOCK b) m.locked s1)))
    else s1
  let gap := ((m.angle : Int) - rampAngle s b 1 + 32768) % 65536 - 32768
  updSpin b (fun x =>
    { x with
      resRun := if driven = true ∧ get s (F.MOT_OBS_RES_THR b) < m.resid then x.resRun + 1 else 0
      pllRun := if driven = true ∧ 65536 * get s (F.MOT_OBS_UNLOCK b) < 360 * m.pllErr.natAbs then x.pllRun + 1 else 0
      handRun := if st = 2 ∧ m.locked = true ∧ 360 * gap.natAbs ≤ 20 * 65536 ∧ 10 * get s (F.MOT_HANDOVER_SPEED b) ≤ m.speed.natAbs
        then x.handRun + 1 else 0 }) s2

/-- The electrical angle of a spindle's control at the sample, and at the centre of the next period (R229, R239). -/
def controlAngle (s : State) (b : Nat) (m : Observed) : Nat × Nat :=
  if motSt s b = 1 then (0, 0) else if motSt s b = 2 then (rampAngle s b 1, rampAngle s b 3) else (m.angle, m.next)

/-- The spindle's side of the conversions of a period (R230 to R235, R237, R243, R440). -/
def baySample (b : Nat) (es : List (Nat × Nat × Nat)) (m : Observed) (s : State) : State :=
  let x := spinOf s b
  let val (ch : Nat) : Option Int := entryValue s b es fun e => decide (e.2.1 = ch)
  let shunt (tag : Nat) : Option Int := entryValue s b es fun e => decide (e.2.1 = 0) && decide (e.1 = tag)
  let set (v : Option Int) (f : Int → State → State) (t : State) : State := match v with | none => t | some z => f z t
  let s1 := set (val 4) (fun z => put (F.MOT_VBUS b) (clampInt 0 65535 z).toNat) s
  let s2 := set (val 5) (putI (F.MOT_NTC0 b)) (set (val 6) (putI (F.MOT_NTC1 b)) (set (val 7) (fun z => updSpin b fun x => { x with ntc2 := z }) s1))
  let s3 := if motSt s b ∈ [0, 4, 6, 7, 8] then
      match val 1, val 2, val 3 with
      | some u, some v, some w => lineSamples b u v w s2
      | _, _, _ => s2
    else s2
  let ang := controlAngle s b m
  let dq := match x.liveWins, shunt 1, shunt 2 with
    | (true, true), some i1, some i2 => toDQ ang.1 (shuntCurrents x.live i1 i2)
    | _, _, _ => (m.predD, m.predQ)
  let s4 := controlPeriod b (observe b m (updSpin b (fun x => { x with mD := dq.1, mQ := dq.2, mNext := ang.2 }) s3))
  let c := carOfBay s b
  if 250 * get s (F.CMOT_BUS_CTRL_OV_OFF c) ≤ get s4 (F.MOT_VBUS b) then overvoltage c s4 else s4

/-- The carousel's electrical angle (R244): position times pole pairs over the counts, plus the measured offset; 0 while aligning. -/
def carAngle (s : State) (c : Nat) : Nat :=
  if (crsOf s c).offset = false then 0
  else ((roundQuot (carPos s c * (65536 * get s (F.CMOT_ENC_POLES c) : Nat)) (get s (F.CMOT_ENC_COUNTS c)) + (crsOf s c).elOfs) % 65536).toNat

/-- The carousel's side (R233, R241 to R244): bus voltage and chopper, phase currents, the regulators and the edges of the next period. -/
def carSample (c : Nat) (es : List (Nat × Nat × Nat)) (m : Observed) (s : State) : State :=
  let x := crsOf s c
  let val (ch : Nat) : Option Int := entryValue s (32 + c) es fun e => decide (e.2.1 = ch)
  let vbus := match val 4 with | none => get s (F.CMOT_BUS_STATUS_V c) | some z => (clampInt 0 65535 z).toNat
  let chop := match val 11 with | none => 0 | some z => (clampInt 0 65535 z).toNat
  let on := isSet s (F.CMOT_STATUS_CHOP_ON c)
  let th := carAngle s c
  let dq := match val 9, val 10 with | some a, some b => toDQ th [a, b, -(a + b)] | _, _ => (m.predD, m.predQ)
  let refD : Int := if x.inverter = true ∧ x.offset = false then 1000 else 0
  let refQ : Int := if x.offset then x.torque else 0
  let (vD, vQ, nD, nQ) := regulate (inForce s (F.CMOT_CUR_KP c) : Nat) (inForce s (F.CMOT_CUR_KI c) : Nat) vbus
    (refD - dq.1) (refQ - dq.2) x.intD x.intQ
  let s1 := peak (F.CMOT_BUS_PEAK c) vbus (putAll [(F.CMOT_BUS_STATUS_V c, vbus), (F.CMOT_BUS_STATUS_I c, chop)]
    (putI (F.CMOT_IDQ_D c) dq.1 (putI (F.CMOT_IDQ_Q c) dq.2 (putI (F.CMOT_SPEED c) m.speed s))))
  let s2 := updCrs c (fun y =>
    { y with
      lowRun := if on = true ∧ chop < 10 * get s (F.CMOT_BUS_CTRL_CHOP_I_MIN c) then y.lowRun + 1 else 0
      riseRun := if on = true ∧ 250 * get s (F.CMOT_BUS_CTRL_CHOP_ON c) < vbus ∧ y.lastBus < vbus then y.riseRun + 1 else 0
      lastBus := vbus
      iq := refQ
      intD := if y.inverter then nD else 0
      intQ := if y.inverter then nQ else 0
      vd := if y.inverter then vD else 0
      vq := if y.inverter then vQ else 0
      edges := if y.inverter then byOnTime ((List.range 3).map fun k => dutyEdges (phaseDuty vD vQ th vbus k)) else [] }) s1
  let s3 := carSend c (chopperSwitch c s2)
  if 250 * get s (F.CMOT_BUS_CTRL_OV_OFF c) ≤ vbus then overvoltage c s3 else s3

/-- BAY_SAMPLE (R90, R230 to R235, R241 to R244, R456): the conversions of a period, with the SAMPLE packets that left later than R90 allows
(log entry 75) and what the motor's observer gives. -/
def execBaySample (l : Nat) (chars : List BayChar) (viol late : Nat) (m : Observed) (s : State) : Out :=
  if linkInst s l = false ∨ linkUp s l = false then .next s
  else
    let es := (payloadsOf 0x81 chars).flatMap sampleEntries
    let s1 := when (decide (late ≠ 0)) (raise (evBL l) B.BL_EVT_LATE) (bump (F.BL_LATE_PACKETS l) late (noteBad l viol chars s))
    let s2 := match es.find? fun x => decide (x.2.1 = 8) with
      | none => s1
      | some x => calSample l x.2.2 s1
    .next (if l < 32 then baySample l es m s2 else carSample (l - 32) es m s2)

/-! ### Training -/

/-- BAY_IDENT (R94): the expander's role and turnaround are checked; CONFIG follows an accepted one. -/
def execBayIdent (l : Nat) (chars : List BayChar) (viol : Nat) (s : State) : Out :=
  if linkInst s l = false ∨ get s (F.BL_STATUS_STATE l) ≠ 2 then .next s
  else
    let s0 := noteBad l viol chars s
    match (payloadsOf 0x85 chars).find? fun d => decide (d.length = 16) with
    | none => .next s0
    | some d =>
      let s1 := put (F.BL_STATUS_ROLE l) (d.getD 0 0) (putAll ((List.range 4).map fun i => (F.BL_IDENT l i, ofBytesLE ((d.drop (4 * i)).take 4))) s0)
      if d.getD 0 0 ≠ (if l < 32 then 1 else 2) ∨ 20 < d.getD 6 0 then
        .next (raise (evBL l) B.BL_EVT_REFUSED (put (F.BL_STATUS_STATE l) 4 s1))
      else .next (sendConfig l (updBus l (fun k => { k with known := true }) s1))

/-- BAY_LINK_UP (R94, R237): 16 superframes with valid HEADER packets; a spindle the link left turning enters CATCH. -/
def execBayLinkUp (l : Nat) (s : State) : Out :=
  let k := busOf s l
  if linkInst s l = false ∨ get s (F.BL_STATUS_STATE l) ≠ 2 ∨ k.known = false ∨ k.upRun < 16 then .next s
  else
    let s1 := raise (evBL l) B.BL_EVT_LINK_UP (put (F.BL_STATUS_STATE l) 3 (updBus l (fun k => { k with repeats := 0 }) s))
    if 32 ≤ l then .next s1
    else
      let s2 := if isSet s (F.CMOT_STATUS_OV_LATCHED (carOfBay s l)) then s1 else stepperOn l s1
      .next (if (spinOf s l).relink = true ∧ motSt s l = 6 then
        motEnter l 4 (updSpin l (fun x => { x with relink := false }) s2) else s2)

/-- A link goes down (R95): the expander enters its safe state and the bay's stepper enable falls (R270). LINK_DOWN is set for a link that was up, also
where software takes it down (R97; DESIGN CHOICE, log entry 75). -/
def linkDown (l st : Nat) (s : State) : State :=
  let s1 := if get s (F.BL_STATUS_STATE l) = 3 then raise (evBL l) B.BL_EVT_LINK_DOWN s else s
  let s2 := putAll [(F.BL_STATUS_STATE l, st), (F.BL_STATUS_SAFE l, 1)]
    (updBus l (fun k => { k with upRun := 0, downRun := 0, known := false, pwmEn := false, sent := [], codes := [], act := [], trainAt := now s }) s1)
  if l < 32 then stepperOff l s2 else s2

/-- BAY_LINK_DOWN (R95): 3 superframes without a valid HEADER. -/
def execBayLinkDown (l : Nat) (s : State) : Out :=
  if linkInst s l = false ∨ linkUp s l = false ∨ (busOf s l).downRun < 3 then .next s else .next (linkDown l 0 s)

/-- Training of a link starts (R94): the controller sends K28.5 and idle characters. -/
def startTraining (l : Nat) (s : State) : State :=
  updBus l (fun k => { k with known := false, upRun := 0, trainAt := now s }) (put (F.BL_STATUS_STATE l) 1 s)

/-- BAY_TRAINING_RESTART (R94): a step was not completed within 10 ms; training restarts every 100 ms. -/
def execBayTrainingRestart (l : Nat) (s : State) : Out :=
  let st := get s (F.BL_STATUS_STATE l)
  if linkInst s l = false ∨ get s (F.BL_CTRL_EN l) = 0 ∨ 2 < st ∨ elapsed s (busOf s l).trainAt 15625000 = false then .next s
  else .next (startTraining l s)

/-- BL_ENABLE (R97): EN permits training; without it the link is down. -/
def execBlEnable (l en : Nat) (s : State) : Out :=
  if linkInst s l = false then .next s
  else
    let s1 := put (F.BL_CTRL_EN l) en s
    if en % 2 = 0 then .next (linkDown l 0 s1)
    else if get s (F.BL_STATUS_STATE l) = 0 then .next (startTraining l s1) else .next s1

/-- BL_RETRAIN (R97): training starts again while EN is 1. -/
def execBlRetrain (l : Nat) (s : State) : Out :=
  if linkInst s l = false ∨ get s (F.BL_CTRL_EN l) = 0 then .next s else .next (linkDown l 1 (unitReset s))

/-- BL_CLR_CNT (R97). -/
def execBlClrCnt (l : Nat) (s : State) : Out :=
  if linkInst s l = false then .next s
  else .next (clearAll [F.BL_CRC_ERR_UP l, F.BL_CRC_ERR_DOWN l, F.BL_CODE_ERR l, F.BL_LATE_PACKETS l, F.BL_LATE_REPEATS l] s)

/-! ### Immediate codes -/

/-- An immediate code whose third character is not the complement of the second is discarded and counted (R91, R96). -/
def codeGood (d nd : Nat) : Bool := decide (d % 256 + nd % 256 = 255)
def badCode (l : Nat) (s : State) : State := bump (F.BL_CODE_ERR l) 1 s

/-- COMPARATOR_TRIP (R91, R257): K28.1 with cause 0x01; a trip ends the drive interval, unless it comes within T_BLANK of its start, `ns` being the
time since then. -/
def execComparatorTrip (b d nd ns : Nat) (s : State) : Out :=
  if bayInst s b = false then .next s
  else if codeGood d nd = false then .next (badCode b s)
  else if d % 32 ≠ 1 ∨ ns < 250 * inForce s (F.MOV_CHOP_T_BLANK b) then .next s
  else .next (tripPhase b (d / 64 % 4) (decide (bitOf d 5 = 1)) s)

/-- OVERCURRENT (R91, R98, R239, R248): K28.1 with cause 0x02: the expander has switched the driver it names off. In bay role drivers 0 to 2 are
the axes', and driver 3 is taken for the spindle's inverter, which enters FAULT with cause 2 (DEDUCED, log entry 75). -/
def execOvercurrent (l d nd : Nat) (s : State) : Out :=
  if linkInst s l = false then .next s
  else if codeGood d nd = false then .next (badCode l s)
  else if d % 32 ≠ 2 then .next s
  else
    let a := d / 64 % 4
    let s1 := raise (evBL l) B.BL_EVT_OVERCURRENT s
    if 32 ≤ l then .next s1
    else if a < 3 then .next (updAx l a (fun x => { x with gateA := 0, gateB := 0 }) s1)
    else if motSt s l = 0 ∨ motSt s l = 8 then .next s1
    else .next (raise (evMOT l) B.MOT_EVT_OVERCURRENT (put (F.MOT_STATUS_FAULT_CAUSE l) 2 (motEnter l 8 s1)))

/-- INPUT_EDGE (R91, R244, R263): K28.3: a raw input change; its time restarts the debounce interval; while a carousel homes, the rising edge of
input 0 fixes the position of the home edge. -/
def execInputEdge (l d nd : Nat) (s : State) : Out :=
  if linkInst s l = false then .next s
  else if codeGood d nd = false then .next (badCode l s)
  else
    let i := d % 16
    let high := decide (bitOf d 4 = 1)
    let s1 := updBus l (fun k =>
      { k with
        raw := if high then k.raw ||| 2 ^ i else k.raw &&& (2 ^ 16 - 1 - 2 ^ i)
        codesIn := mapPut k.codesIn i (mapGet (fun _ => 0) k.codesIn i + 1)
        changed := mapPut k.changed i (now s) }) s
    if 32 ≤ l ∧ i = 0 ∧ (crsOf s (l - 32)).homing = true then
      .next (updCrs (l - 32) (fun x => { x with edgePos := if high then some (carPos s (l - 32)) else none }) s1)
    else .next s1

end Sys2Proof.Machine
end

