-- ==== Sys2Proof/Machine/LoopEngine.lean ====
section
/-! DEFINITION. The loop engine (R201 to R226): sources, the cell datapath, timing modes, min-select nodes, coefficient queues
and the Capo, pairs of primary and shadow, tile faults and the reassignment of cells (R304). A pair acts together: a
boundary and an evaluation of the primary are those of both cells (R217). -/

namespace Sys2Proof.Machine

def cellOf (s : State) (n : Nat) : LoopCell := mapGet (fun _ => {}) s.loop.cells n
def updCell (n : Nat) (f : LoopCell → LoopCell) (s : State) : State :=
  { s with loop := { s.loop with cells := mapPut s.loop.cells n (f (cellOf s n)) } }
def nodeOf (s : State) (m : Nat) : LoopNode := mapGet (fun _ => {}) s.loop.nodes m
def updNode (m : Nat) (f : LoopNode → LoopNode) (s : State) : State :=
  { s with loop := { s.loop with nodes := mapPut s.loop.nodes m (f (nodeOf s m)) } }
def queueOf (s : State) (t : Nat) : List (Nat × Nat × Nat) := mapGet (fun _ => []) s.loop.queues t

/-- A tile in service, a cell that runs, the pair of a cell with its primary first (R217, R219, R226). -/
def tileUp (s : State) (t : Nat) : Bool := decide (t < 16) && isSet s (F.LE_TILE_STATUS_IN_SERVICE t)
def cellUp (s : State) (n : Nat) : Bool := tileUp s (n / 32) && isSet s (F.CELL_CTRL_EN n)
def cellRole (s : State) (n : Nat) : Nat := get s (F.CELL_STATUS_ROLE n)
def primaryCell (s : State) (n : Nat) : Nat := if cellRole s n = 2 then get s (F.CELL_STATUS_PARTNER n) else n
def pairOf (s : State) (n : Nat) : List Nat :=
  let p := primaryCell s n
  p :: (if cellRole s p = 1 then [get s (F.CELL_STATUS_PARTNER p)] else [])

/-- Bit i of LE.CELL_EVT follows the flags and enables of cell 32t+i (R223). -/
def cellEvt (n : Nat) (s : State) : State :=
  let v := get s (F.LE_CELL_EVT (n / 32))
  let b := if (get s (F.CELL_FLAGS n) &&& get s (F.CELL_FLAG_EN n)) ≠ 0 then 1 else 0
  put (F.LE_CELL_EVT (n / 32)) (v - bitOf v (n % 32) * 2 ^ (n % 32) + b * 2 ^ (n % 32)) s

/-- A flag of a cell is set; with its enable it sets LE.EVT.CELL (R224, R225). -/
def cellFlag (n i : Nat) (s : State) : State :=
  let s1 := cellEvt n (put (F.CELL_FLAGS n) (get s (F.CELL_FLAGS n) ||| 2 ^ i) s)
  if bitOf (get s (F.CELL_FLAG_EN n)) i = 1 then raise (evLE (n / 32)) B.LE_EVT_CELL s1 else s1

/-- A field of every cell of a list. -/
def putCells (l : List Nat) (f : Nat → Fld) (v : Nat) (s : State) : State := forAll l (fun m => put (f m) v) s

/-- The coefficients of a cell (R214, R225): `k` counts words from offset 0x040. -/
def isCoef (k : Nat) : Bool := decide (k ≤ 8) || (decide (48 ≤ k) && decide (k < 112) && decide (k % 8 < 5))
def coefPut (n k v : Nat) (s : State) : State :=
  if k = 8 then putAll [(F.CELL_GAIN_SHIFT_KP_SH n, v), (F.CELL_GAIN_SHIFT_KI_SH n, v / 16), (F.CELL_GAIN_SHIFT_KD_SH n, v / 256)] s
  else put ⟨(F.CELL_SETPOINT n).off + 4 * k, 0, 32⟩ v s
def coefLand (n k v : Nat) (s : State) : State := put (F.CELL_IN_FORCE n k) (if k = 8 then v % 4096 else v) s
def coefNow (s : State) (n k : Nat) : Int := getI s (F.CELL_IN_FORCE n k)

/-- The queue of a tile changes: its depth and peak, and what a cell has pending (R223, R226). -/
def setQueue (t n : Nat) (q : List (Nat × Nat × Nat)) (s : State) : State :=
  put (F.CELL_STATUS_PENDING n) (q.filter fun e => decide (e.1 = n)).length
    (peak (F.LE_QUEUE_PEAK t) q.length (put (F.LE_QUEUE_NOW t) q.length
      { s with loop := { s.loop with queues := mapPut s.loop.queues t q } }))

/-- The tile's queue of 64 coefficient writes is full (R214). -/
def queueFull (s : State) (n : Nat) : Bool := decide (64 ≤ (queueOf s (n / 32)).length)

/-- A coefficient write to one cell (R214): at once for a disabled cell, else into the queue. -/
def coefWrite (k v n : Nat) (s : State) : State :=
  let t := n / 32
  if get s (F.CELL_CTRL_EN n) = 0 then coefLand n k v (coefPut n k v s)
  else setQueue t n (queueOf s t ++ [(n, k, v)]) (coefPut n k v s)

/-- A coefficient write is discarded at a full queue (R214). -/
def coefDrop (n : Nat) (s : State) : State :=
  cellFlag n B.CELL_FLAGS_COEF_DROP (raise (evLE (n / 32)) B.LE_EVT_COEF_OVF (bump (F.LE_COEF_OVF (n / 32)) 1 s))

/-- COEFFICIENT_WRITE (R214, R217): to both cells of a pair, so that a write which one queue cannot take is discarded for both. -/
def execCoefficientWrite (n coef v : Nat) (s : State) : Out :=
  let l := (pairOf s n).filter fun m => tileUp s (m / 32)
  let full := l.filter fun m => isSet s (F.CELL_CTRL_EN m) && queueFull s m
  if 512 ≤ n ∨ isCoef coef = false then .next s
  else .next (if full = [] then forAll l (coefWrite coef v) s else forAll full coefDrop s)

/-- The oldest queued write of a cell comes into force (R214). -/
def landOne (n : Nat) (s : State) : State :=
  let q := queueOf s (n / 32)
  match q.find? fun e => decide (e.1 = n) with
  | none => s
  | some e => setQueue (n / 32) n (q.erase e) (coefLand n e.2.1 e.2.2 s)

/-- Every queued write of a cell comes into force in order (R222). -/
def landAll (n : Nat) (s : State) : State :=
  let q := queueOf s (n / 32)
  setQueue (n / 32) n (q.filter fun e => decide (e.1 ≠ n))
    ((q.filter fun e => decide (e.1 = n)).foldl (fun t e => coefLand n e.2.1 e.2.2 t) s)

/-- The nodes a cell is a member of with its slot (R211), and a node's members in slot order. -/
def nodeMembers (s : State) (m : Nat) : List (Nat × Nat) :=
  let c := get s (F.LE_NODE_CFG (m / 8) (m % 8))
  ((List.range 4).filter fun j => decide (bitOf c (36 + j) = 1)).map fun j => (j, c / 2 ^ (9 * j) % 512)
def nodesOf (s : State) (n : Nat) : List Nat :=
  (List.range 128).filter fun m => (nodeMembers s m).any fun p => decide (p.2 = n)

/-- A node is computed in its home tile or in the partner tile (R213). -/
def nodeUp (s : State) (m : Nat) : Bool := tileUp s (m / 8) || tileUp s ((m / 8 + 8) % 16)

/-- The servo ticks or PWM periods of one period of a rate (R202). -/
def ratePeriod (r : Nat) : Nat :=
  if r = 1 then 2 else if r = 2 then 4 else if r = 4 then 10 else if r = 5 then 40 else 1

/-- What a rate counts: servo ticks, or PWM periods; and the length of each in 1/160 ns from the link reference (R202). -/
def rateCount (s : State) (r : Nat) : Nat := if r ≤ 2 then tick s else get s F.CLK_PWM
def rateUnit (r : Nat) : Nat := if r ≤ 2 then 390625 else 4000000

/-- The number of a cell's latest boundary, none before its first (R202). -/
def lastBoundary (s : State) (n : Nat) : Option Nat :=
  let r := get s (F.CELL_CTRL_RATE n)
  let ph := get s (F.CELL_CTRL_PHASE n)
  let t := rateCount s r
  if t < ph then none else some (t - (t - ph) % ratePeriod r)

/-- A boundary of a running cell has come and has not been taken. -/
def boundaryDue (s : State) (n : Nat) : Bool :=
  cellUp s n && (lastBoundary s n).isSome && decide ((cellOf s n).at' ≠ lastBoundary s n)

/-- The number of the period that a cell is in, counted from 1. -/
def periodNo (s : State) (n : Nat) : Nat :=
  match (cellOf s n).at' with
  | none => 0
  | some b => b / ratePeriod (get s (F.CELL_CTRL_RATE n)) + 1

/-- A boundary of a node's first member has come and has not been taken. -/
def nodeDue (s : State) (m : Nat) : Bool :=
  match nodeMembers s m with
  | p :: _ => boundaryDue s p.2
  | [] => false

/-- The hold inputs of a head's focus, tracking and tilt cells, one bit each (R177, R180, R182, R184, R186, R187, R191). -/
def servoHold (s : State) (h : Nat) : Nat :=
  let v := servoOf s h
  let st := get s (F.SV_STATUS_STATE h)
  if 0 < v.missRun ∨ get s (F.HL_STATUS_STATE h) ≠ 5 then 7
  else
    let m := if st = 3 then 6 else if st = 4 ∨ st = 5 then 0 else if st = 6 then (if v.landed then 0 else 2) else 7
    v.held ||| m

/-- The hold input of a cell: that of the head whose coil it drives (R208). -/
def holdInput (s : State) (n : Nat) : Bool :=
  let d := get s (F.CELL_DEST n)
  decide (d / 4096 = 1) && decide (d % 4 < 3) && decide (bitOf (servoHold s (d % 4096 / 4)) (d % 4) = 1)

/-- A quantity of a bay (R227, R254): its value and whether it is valid. -/
def bayQuantity (s : State) (b q : Nat) : Int × Bool :=
  let up := bayInst s b && linkUp s b
  let run := up && (decide (motSt s b = 3) || decide (motSt s b = 5))
  let sled (a : Nat) : Bool := up && decide (axSt s b a ≠ 0) && decide (axSt s b a ≠ 4)
  let radius (a : Nat) (p : Int) : Int := (10 * get s (F.MOV_AX_ORIGIN b a) : Nat) + roundQuot (10000 * p) (axScale s b a)
  if q = 0 then (getI s (F.MOT_SPEED b), run)
  else if q = 1 then (roundQuot ((spinOf s b).ref : Nat) 4000, run)
  else if q = 2 then ((spinOf s b).torque, run)
  else if q = 3 then (getI s (F.MOT_IDQ_Q b), run)
  else if q = 4 then (getI s (F.MOT_NTC0 b), run)
  else if q = 5 then (roundQuot (600 * get s (F.MOT_WOB_SPEED b) : Nat) 65536, run && isSet s (F.MOT_STATUS_WOB_VALID b))
  else if q = 6 ∨ q = 7 then (radius (q - 6) (axPos s b (q - 6)), sled (q - 6))
  else if q = 8 ∨ q = 9 then (radius (q - 8) (getI s (F.MOV_AX_ENC_POS b (q - 8))), sled (q - 8))
  else if q = 10 ∨ q = 11 then (radius (q - 10) (axOf s b (q - 10)).target, sled (q - 10))
  else if q = 12 then (roundQuot (10 * axPos s b 2) (axScale s b 2), up && decide (axSt s b 2 ≠ 0) && decide (axSt s b 2 ≠ 4))
  else if q = 13 ∨ q = 14 then (getI s (F.MOV_AX_SPEED b (q - 13)), sled (q - 13))
  else (0, false)

/-- A quantity of a carousel (R227). -/
def carQuantity (s : State) (c q : Nat) : Int × Bool :=
  let up := carInst s c && linkUp s (32 + c)
  if q = 0 then (getI s (F.CMOT_SPEED c), up)
  else if q = 1 then ((crsOf s c).profile, up)
  else if q = 2 then ((crsOf s c).torque, up)
  else if q = 3 then (getI s (F.CMOT_IDQ_Q c), up)
  else (0, false)

/-- A quantity of leaf `c`, which is the leaf of carousel c (R227, R241). -/
def leafQuantity (s : State) (c q : Nat) : Int × Bool :=
  let up := carInst s c && linkUp s (32 + c)
  let vb := get s (F.CMOT_BUS_STATUS_V c)
  let power := ((baysOfCar s c).map fun b => (spinOf s b).vd * getI s (F.MOT_IDQ_D b) + (spinOf s b).vq * getI s (F.MOT_IDQ_Q b)).sum
    + (crsOf s c).vd * getI s (F.CMOT_IDQ_D c) + (crsOf s c).vq * getI s (F.CMOT_IDQ_Q c)
  if q = 0 then ((vb : Nat), up)
  else if q = 1 then (roundQuot (3 * power) (2 * vb), up)
  else if q = 2 then (((baysOfCar s c).map fun b => getI s (F.MOT_NTC0 b)).max?.getD 0, up)
  else if q = 3 then ((get s (F.CMOT_BUS_STATUS_I c) : Nat), up)
  else (0, false)

/-- A servo error of a head, or its lens offset (R175, R192, R203). -/
def headQuantity (s : State) (h q : Nat) : Int × Bool :=
  let v := servoOf s h
  let ok := headInst s h && decide (get s (F.HL_STATUS_STATE h) = 5) && decide (v.missRun = 0)
  let beams := !(decide (0 ∈ v.invalid) && decide (1 ∈ v.invalid))
  if q = 0 then (v.fe, ok && beams) else if q = 1 then (v.te, ok && beams) else if q = 2 then (v.tilt, ok && beams)
  else (getI s (F.SV_LENS h), ok)

/-- The value of a source code and whether it is valid (R203): classes 5 and 6 deliver the last completed period. -/
def srcValue (s : State) (code : Nat) : Int × Bool :=
  let i := code % 4096
  match code / 4096 with
  | 0 => (0, true)
  | 1 => if i < 256 then headQuantity s (i / 4) (i % 4) else (0, false)
  | 2 => if i < 512 then bayQuantity s (i / 16) (i % 16) else (0, false)
  | 3 => if i < 64 then carQuantity s (i / 16) (i % 16) else (0, false)
  | 4 => if i < 64 then leafQuantity s (i / 16) (i % 16) else (0, false)
  | 5 => if i < 512 then (if boundaryDue s i then getI s (F.CELL_OUT i) else (cellOf s i).last, true) else (0, false)
  | 6 => if i < 128 then (if nodeDue s i then (nodeOf s i).out else getI s (F.LE_NODE_OUT (i / 8) (i % 8)), true) else (0, false)
  | _ => (0, false)

/-- The input of a cell: a sled follow cell takes the lens offset through the deadband, in µm against 1/16 µm (R192). -/
def cellInput (s : State) (n : Nat) : Int × Bool :=
  let code := get s (F.CELL_SRC n)
  let x := srcValue s code
  let h := code % 4096 / 4
  let d := get s (F.CELL_DEST n)
  if code / 4096 = 1 ∧ code % 4 = 3 ∧ d / 4096 = 2 ∧ (d % 16 = 10 ∨ d % 16 = 11) ∧ x.1.natAbs ≤ 16 * get s (F.SV_SLED_SLED_DB h) then
    (0, x.2)
  else x

/-- A coil setpoint goes to the head (R177, R192): clamped, in the late slot of this superframe where `late`; a tracking output
gives the lens offset in 1/16 µm. -/
def coilOut (h q : Nat) (v : Int) (late : Bool) (s : State) : State :=
  let x := clampInt (-32767) 32767 v
  let slot (k : Link) : Link :=
    { k with ds := { k.ds with late := k.ds.late.set q x, lateHold := k.ds.lateHold &&& (7 - 2 ^ q) } }
  setCoil h q x (if late then updLink h slot s else s)

/-- A fixed-delay coil setpoint waits for the early slot of the superframe at the cell's next boundary (R177, R209). -/
def coilEarly (n h q : Nat) (v : Int) (s : State) : State :=
  let p := ratePeriod (get s (F.CELL_CTRL_RATE n))
  let t := tick s
  let at' := t + 1 + (get s (F.CELL_CTRL_PHASE n) + p * (t + 1) - (t + 1)) % p
  updServo h (fun v' =>
    { v' with early := v'.early.set q (clampInt (-32767) 32767 v), earlySet := v'.earlySet ||| 2 ^ q,
              earlyAt := v'.earlyAt.set q at' }) s

/-- An output applied to its consumer (R203, R227, R254, R262). -/
def applyDest (dest : Nat) (v : Int) (late : Bool) (s : State) : State :=
  let i := dest % 4096
  match dest / 4096 with
  | 1 => if i < 256 ∧ i % 4 < 3 then coilOut (i / 4) (i % 4) v late s else s
  | 2 =>
    let b := i / 16
    if 512 ≤ i then s
    else if i % 16 = 2 then updSpin b (fun x => { x with torque := v }) s
    else if i % 16 = 10 ∨ i % 16 = 11 then
      let a := i % 16 - 10
      followTarget b a (roundQuot ((v - (10 * get s (F.MOV_AX_ORIGIN b a) : Nat)) * (axScale s b a : Nat)) 10000) s
    else s
  | 3 => if i < 64 ∧ i % 16 = 2 then updCrs (i / 16) (fun x => { x with torque := v }) s else s
  | _ => s

/-- A cell's output is applied: CELL.OUT of the pair, and the consumer's, where the cell is no node member. -/
def applyCell (n : Nat) (late : Bool) (s : State) : State :=
  let v := (cellOf s n).cur
  let s1 := forAll (pairOf s n) (fun m t => putI (F.CELL_OUT m) (cellOf t m).cur t) s
  if nodesOf s n = [] then applyDest (get s (F.CELL_DEST n)) v late s1 else s1

/-- A node's output is applied. -/
def applyNode (m : Nat) (s : State) : State :=
  let v := (nodeOf s m).out
  applyDest (get s (F.LE_NODE_DEST (m / 8) (m % 8)) % 65536) v false (updNode m (fun x => { x with held := false, wait := [] }) s)

/-- R204: a sum saturates to 48 bits; a product with a Q2.30 coefficient scaled by 2^sh is rounded to 16 fractional bits. -/
def sat48 (x : Int) : Int := clampInt (-(2 ^ 47)) (2 ^ 47 - 1) x
def mulQ (c v : Int) (sh : Nat) : Int := divRound (c * v) (2 ^ (30 - sh))
def gainShift (s : State) (n i : Nat) : Nat := get s (F.CELL_IN_FORCE n 8) / 16 ^ i % 16

/-- R206: the limits in force, with 16 fractional bits, and clamp. -/
def cellMin (s : State) (n : Nat) : Int := coefNow s n 1 * 65536
def cellMax (s : State) (n : Nat) : Int := coefNow s n 2 * 65536
def cellClamp (s : State) (n : Nat) (z : Int) : Int := min (max z (cellMin s n)) (cellMax s n)

/-- One biquad stage (R205): the output and the new states. -/
def biquad (b0 b1 b2 a1 a2 w s1 s2 : Int) : Int × Int × Int :=
  let y := sat48 (mulQ b0 w 0 + s1)
  (y, sat48 (sat48 (mulQ b1 w 0 - mulQ a1 y 0) + s2), sat48 (mulQ b2 w 0 - mulQ a2 y 0))

/-- The active stages of a cell, one after the other. -/
def cellStages (n : Nat) (w : Int) (s : State) : Int × State :=
  (List.range (min 8 (get s (F.CELL_CTRL_NBQ n)))).foldl (fun (a : Int × State) i =>
    let c (j : Nat) : Int := coefNow a.2 n (48 + 8 * i + j)
    let r := biquad (c 0) (c 1) (c 2) (c 3) (c 4) a.1 (getI a.2 (F.CELL_S1 n i)) (getI a.2 (F.CELL_S2 n i))
    (r.1, putI (F.CELL_S1 n i) r.2.1 (putI (F.CELL_S2 n i) r.2.2 a.2))) (w, s)

/-- The evaluation of a cell up to its output (R205, R206): the integrator's update waits for u_app. -/
def evalCell (x sp : Int) (n : Nat) (s : State) : State :=
  let setp := sat48 (coefNow s n 0 * 65536 + sp * 65536)
  let r := cellStages n (sat48 (setp - x * 65536)) s
  let v := r.1
  let integ := cellClamp s n (getI s (F.CELL_INT n))
  let d := sat48 (mulQ (coefNow s n 5) (sat48 (v - getI s (F.CELL_VPREV n))) (gainShift s n 2)
    + mulQ (coefNow s n 6) (getI s (F.CELL_DER n)) 0)
  let unsat := sat48 (sat48 (mulQ (coefNow s n 3) v (gainShift s n 0) + integ) + d)
  let u := cellClamp s n unsat
  let s1 := updCell n (fun c => { c with done := true, cur := divRound u 65536, pend := some ⟨v, integ, u, unsat⟩ })
    (putI (F.CELL_DER n) d (putI (F.CELL_VPREV n) v (putI (F.CELL_UNSAT n) unsat (bump (F.CELL_EVALS n) 1
      (putB (F.CELL_STATUS_OUT_SAT n) (decide (u ≠ unsat)) (put (F.CELL_STATUS_HELD n) 0 r.2))))))
  if cellMax s n < cellMin s n then cellFlag n B.CELL_FLAGS_LIMIT_INV s1 else s1

/-- The integrator's update with u_app, and INT_SAT (R205, R207). -/
def finishCell (uApp : Option Int) (n : Nat) (s : State) : State :=
  match (cellOf s n).pend with
  | none => s
  | some p =>
    let ua := uApp.getD p.u
    let i := cellClamp s n (sat48 (sat48 (p.integ + mulQ (coefNow s n 4) p.v (gainShift s n 1))
      + mulQ (coefNow s n 7) (sat48 (ua - p.unsat)) 0))
    let at' := decide (i = cellMin s n) || decide (i = cellMax s n)
    let s1 := putB (F.CELL_STATUS_INT_SAT n) at' (putI (F.CELL_INT n) i (updCell n (fun c => { c with pend := none }) s))
    if at' then cellFlag n B.CELL_FLAGS_INT_SAT_SEEN s1 else s1

/-- The winning slot of a node: the smallest output, the lowest slot among equals (R211). -/
def winner (s : State) : List (Nat × Nat) → Option (Nat × Nat)
  | [] => none
  | p :: l =>
    match winner s l with
    | none => some p
    | some q => if (cellOf s q.2).cur < (cellOf s p.2).cur then some q else some p

/-- One win of a slot is counted, 12 bits each, saturating (R223). -/
def countWin (w slot : Nat) : Nat :=
  let c := w / 2 ^ (16 + 12 * slot) % 4096
  w - w % 4 + slot + (if c < 4095 then 2 ^ (16 + 12 * slot) else 0)

/-- A member whose nodes have all resolved completes its integrator update (R212). -/
def finishMember (n : Nat) (s : State) : State :=
  let ns := (nodesOf s n).filter (nodeUp s)
  if ns.all (fun m => (nodeOf s m).done) then
    let wins := ns.any fun m => (nodeMembers s m).any fun p => decide (p.2 = n) && decide (p.1 = get s (F.LE_NODE_WIN (m / 8) (m % 8)) % 4)
    let ua := if wins then none else (ns.map fun m => sat48 ((nodeOf s m).out * 65536)).max?
    forAll (pairOf s n) (finishCell ua) (forAll (pairOf s n) (fun m => putB (F.CELL_STATUS_NODE_LOSER m) (!wins)) s)
  else s

/-- Every running member of a node has evaluated or been held in one and the same period (R212). -/
def membersDone (s : State) (m : Nat) : Bool :=
  let l := ((nodeMembers s m).map Prod.snd).filter (cellUp s)
  l.all fun n => (cellOf s n).done && decide (periodNo s n = periodNo s (l.headD 0))

/-- A node resolves once every running member has evaluated or been held (R211 to R213). -/
def resolveNode (m : Nat) (s : State) : State :=
  let ms := nodeMembers s m
  if nodeUp s m = false ∨ (nodeOf s m).done = true ∨ membersDone s m = false then s
  else match winner s ms with
    | none => s
    | some w =>
      let o := if ms.all (fun p => (cellOf s p.2).pend = none) then (nodeOf s m).out else (cellOf s w.2).cur
      let fixed := (ms.filter fun p => cellUp s p.2 && isSet s (F.CELL_CTRL_MODE p.2)).map Prod.snd
      let s1 := put (F.LE_NODE_WIN (m / 8) (m % 8)) (countWin (get s (F.LE_NODE_WIN (m / 8) (m % 8))) w.1)
        (updNode m (fun x => { x with done := true, out := o, wait := fixed, held := true }) s)
      forAll (ms.map Prod.snd) finishMember (if fixed = [] then applyNode m s1 else s1)

/-- The sample of a cell has ended: its output goes on, or its nodes resolve (R209, R212). -/
def sampleDone (n : Nat) (s : State) : State :=
  let ns := nodesOf s n
  let late := decide (get s (F.CELL_CTRL_MODE n) = 0)
  let s1 := if late then applyCell n true s
    else
      let d := get s (F.CELL_DEST n)
      if ns = [] ∧ d / 4096 = 1 ∧ d % 4 < 3 ∧ d % 4096 < 256 then coilEarly n (d % 4096 / 4) (d % 4) (cellOf s n).cur s else s
  if ns = [] then forAll (pairOf s n) (finishCell none) s1 else forAll ns resolveNode s1

/-- A sample without a new output (R208): the previous output stays applied. -/
def sampleHeld (n : Nat) (s : State) : State := forAll (nodesOf s n) resolveNode s

/-- A sample of a running cell is open: its period has begun and it has not evaluated, been held or missed in it. -/
def openSample (s : State) (n : Nat) : Bool := cellUp s n && (cellOf s n).due && !(cellOf s n).done

/-- A missed sample (R209, R217): the primary's miss discards the shadow's result too; a shadow's own miss has the primary's state
copied into it at the next boundary. -/
def missCell (n : Nat) (s : State) : State :=
  let s1 := cellFlag n B.CELL_FLAGS_MISS (bump (F.CELL_MISS n) 1 (bump (F.LE_MISSES (n / 32)) 1 (put (F.CELL_STATUS_HELD n) 1 s)))
  if cellRole s n = 2 then updCell n (fun c => { c with done := true, copy := true }) s1
  else sampleHeld n (forAll (pairOf s n) (fun m => updCell m (fun c => { c with done := true })) s1)

/-- CELL_MISS (R209, R217). -/
def execCellMiss (n : Nat) (s : State) : Out := .next (when (decide (n < 512) && openSample s n) (missCell n) s)

/-- The input of a source code is there for this sample: a servo error once the head's servo block of the tick has come or is missed
(R186, R209). -/
def sourceIn (s : State) (code : Nat) : Bool :=
  let h := code % 4096 / 4
  decide (code / 4096 ≠ 1) || decide (get s (F.HL_STATUS_STATE h) ≠ 5) || (linkOf s h).served
def inputsIn (s : State) (n : Nat) : Bool :=
  decide (2 < get s (F.CELL_CTRL_RATE n)) || (sourceIn s (get s (F.CELL_SRC n)) && sourceIn s (get s (F.CELL_SP_SRC n)))

/-- A cell is held by its consumer or by the Capo (R208). -/
def frozen (s : State) (n : Nat) : Bool := isSet s (F.CELL_STATUS_CAPO_ACTIVE n) || holdInput s n
def inputsValid (s : State) (n : Nat) : Bool := (cellInput s n).2 && (srcValue s (get s (F.CELL_SP_SRC n))).2

/-- The cell that a tile's engine takes next (R210): of the ready cells the one with the earliest due time, the lowest among equals. -/
def engineTakes (s : State) (t : Nat) : Option Nat :=
  let ready := ((List.range 32).map (32 * t + ·)).filter fun n =>
    openSample s n && decide (cellRole s n ≠ 2) && !frozen s n && inputsIn s n && inputsValid s n
  ready.find? fun n => ready.all fun m => decide ((cellOf s n).dueBy ≤ (cellOf s m).dueBy)

/-- A deadline has passed (R209). -/
def cellLate (s : State) (n : Nat) : Bool := !isSet s (F.CELL_CTRL_MODE n) && decide ((cellOf s n).dueBy < 1024 * now s)

/-- The sample of a pair is held (R208); an invalid source is flagged. -/
def holdPair (p : Nat) (s : State) : State :=
  sampleHeld p (forAll ((pairOf s p).filter (openSample s)) (fun m t =>
    let t1 := bump (F.CELL_HELD m) 1 (put (F.CELL_STATUS_HELD m) 1 (updCell m (fun c => { c with done := true }) t))
    if inputsValid s p then t1 else cellFlag m B.CELL_FLAGS_SRC_INVALID t1) s)

/-- CELL_EVALUATE (R203 to R212, R217): the engine takes a cell whose inputs are present, once in each period and in the order of R210;
a held cell keeps its state and its output, and past the deadline or the next boundary the sample is missed. -/
def execCellEvaluate (n : Nat) (s : State) : Out :=
  let p := primaryCell s n
  if 512 ≤ n ∨ openSample s p = false then .next s
  else if boundaryDue s p = true ∨ cellLate s p = true then .next (missCell p s)
  else if frozen s p = true then .next (holdPair p s)
  else if inputsIn s p = false then .next s
  else if inputsValid s p = false then .next (holdPair p s)
  else if engineTakes s (p / 32) ≠ some p then .next s
  else .next (sampleDone p (forAll ((pairOf s p).filter (openSample s))
    (evalCell (cellInput s p).1 (srcValue s (get s (F.CELL_SP_SRC p))).1) s))

/-- The state of a cell copied into another (R217, R218, R220). -/
def copyState (a b : Nat) (s : State) : State :=
  let fs : List (Fld × Nat) := ((List.range 8).flatMap fun i => [(F.CELL_S1 b i, get s (F.CELL_S1 a i)), (F.CELL_S2 b i, get s (F.CELL_S2 a i))])
    ++ [(F.CELL_INT b, get s (F.CELL_INT a)), (F.CELL_DER b, get s (F.CELL_DER a)), (F.CELL_VPREV b, get s (F.CELL_VPREV a)),
        (F.CELL_UNSAT b, get s (F.CELL_UNSAT a)), (F.CELL_OUT b, get s (F.CELL_OUT a)),
        (F.CELL_STATUS_INT_SAT b, get s (F.CELL_STATUS_INT_SAT a)), (F.CELL_STATUS_OUT_SAT b, get s (F.CELL_STATUS_OUT_SAT a))]
  updCell b (fun c => { c with cur := (cellOf s a).cur, last := (cellOf s a).last, copy := false }) (putAll fs s)

/-- The shadow's side of a boundary (R217, R218): applied outputs that differ are a mismatch; a copy that is due is made. -/
def pairBoundary (p q : Nat) (s : State) : State :=
  let diff := decide (get s (F.CELL_OUT p) ≠ get s (F.CELL_OUT q)) && !(cellOf s q).copy
  let s1 := if diff then
      cellFlag q B.CELL_FLAGS_RESYNC (cellFlag p B.CELL_FLAGS_RESYNC (raise (evLE (p / 32)) B.LE_EVT_MISMATCH
        (bump (F.LE_MISMATCH (p / 32)) 1 s)))
    else s
  if diff || (cellOf s q).copy then copyState p q s1 else s1

/-- A node at a boundary of one of its members (R203, R212): a new period begins, and an output that waited for this member is
applied once it waits for no other. -/
def nodeBoundary (n m : Nat) (s : State) : State :=
  let x := nodeOf s m
  let first := match nodeMembers s m with | p :: _ => decide (p.2 = n) | [] => false
  let w := x.wait.filter (· ≠ n)
  let s1 := updNode m (fun y => { y with done := false, wait := w }) (if first then putI (F.LE_NODE_OUT (m / 8) (m % 8)) x.out s else s)
  if x.held = true ∧ w = [] then applyNode m s1 else s1

/-- The samples of a cell and of the members of its nodes that are open at their next boundary are missed (R209, R212). -/
def closeSamples (n : Nat) (s : State) : State :=
  let ms := pairOf s n ++ ((nodesOf s n).flatMap fun m => (nodeMembers s m).flatMap fun p => pairOf s p.2)
  forAll ms (fun m t => if openSample t m && boundaryDue t (primaryCell t m) then missCell m t else t) s

/-- A period begins (R202, R209, R210): its number and the time by which the cell must evaluate. -/
def beginPeriod (m : Nat) (s : State) : State :=
  let r := get s (F.CELL_CTRL_RATE m)
  let d := if isSet s (F.CELL_CTRL_MODE m) then rateUnit r * ratePeriod r else 160 * get s (F.CELL_DEADLINE m)
  updCell m (fun c =>
    { c with due := true, done := false, pend := none, at' := lastBoundary s m, dueBy := 1024 * now s + d }) s

/-- CELL_BOUNDARY (R202, R203, R209, R212, R214, R215, R217, R218) at a servo tick or PWM period that is the cell's boundary: a sample
still open is missed, outputs of the last period are applied, then the Capo set, one queued write for each cell and the Capo clear come
into force. -/
def execCellBoundary (n : Nat) (s : State) : Out :=
  if 512 ≤ n ∨ cellRole s n = 2 ∨ boundaryDue s n = false then .next s
  else
    let pair := pairOf s n
    let s0 := closeSamples n s
    let s1 := forAll pair (fun m t => updCell m (fun c => { c with last := getI t (F.CELL_OUT m) }) t) s0
    let s2 := if isSet s (F.CELL_CTRL_MODE n) then applyCell n false s1 else s1
    let s3 := match pair with
      | [_, q] => pairBoundary n q s2
      | _ => s2
    let s4 := forAll (nodesOf s n) (nodeBoundary n) s3
    let s5 := if isSet s4 (F.CELL_STATUS_SET_PEND n) then
        putCells pair F.CELL_STATUS_CAPO_ACTIVE 1 (putCells pair F.CELL_STATUS_SET_PEND 0 s4) else s4
    let s6 := forAll pair landOne s5
    let none' := pair.all fun m => (queueOf s6 (m / 32)).all fun e => decide (e.1 ≠ m)
    let s7 := if isSet s6 (F.CELL_STATUS_CLR_PEND n) && none' then
        putCells pair F.CELL_STATUS_CAPO_ACTIVE 0 (putCells pair F.CELL_STATUS_CLR_PEND 0 s6) else s6
    .next (forAll pair beginPeriod s7)

/-- A disabled cell, or one under the Capo, takes state writes (R216). -/
def stateOpen (s : State) (p : Nat) : Bool := isSet s (F.CELL_STATUS_CAPO_ACTIVE p) || decide (get s (F.CELL_CTRL_EN p) = 0)

/-- A write to a state register (R216, R217): `reg` counts 64-bit registers from 0x200: S1 and S2 of each stage, INT, DER, VPREV. -/
def stateWrite (n reg v : Nat) (s : State) : State :=
  let p := primaryCell s n
  if 512 ≤ n ∨ 19 ≤ reg ∨ tileUp s (p / 32) = false then s
  else if stateOpen s p then
    forAll (pairOf s p) (fun m => putI ⟨(F.CELL_S1 m 0).off + 8 * reg, 0, 64⟩ (sat48 (toSigned 64 v))) s
  else cellFlag p B.CELL_FLAGS_STATE_WR_REJ s

/-- STATE_WRITE (R216, R217). -/
def execStateWrite (n reg v : Nat) (s : State) : Out := .next (stateWrite n reg v s)

/-- A set request (R215). -/
def capoSet (n : Nat) (s : State) : State :=
  let p := primaryCell s n
  let pair := pairOf s p
  if get s (F.CELL_CTRL_EN p) = 0 then putCells pair F.CELL_STATUS_CAPO_ACTIVE 1 (putCells pair F.CELL_STATUS_CLR_PEND 0 s)
  else putCells pair F.CELL_STATUS_SET_PEND 1 (putCells pair F.CELL_STATUS_CLR_PEND 0 s)

/-- A clear request (R215). -/
def capoClr (n : Nat) (s : State) : State :=
  let p := primaryCell s n
  let pair := pairOf s p
  if get s (F.CELL_CTRL_EN p) = 0 then putCells pair F.CELL_STATUS_CAPO_ACTIVE 0 s else putCells pair F.CELL_STATUS_CLR_PEND 1 s

/-- CLR_STATE (R216, R217): the integrator takes the present output. -/
def clrState (n : Nat) (s : State) : State :=
  let p := primaryCell s n
  if stateOpen s p then forAll (pairOf s p) (fun m t =>
    putI (F.CELL_INT m) (sat48 (getI t (F.CELL_OUT m) * 65536)) (clearAll ([F.CELL_DER m, F.CELL_VPREV m]
      ++ (List.range 8).flatMap fun i => [F.CELL_S1 m i, F.CELL_S2 m i]) t)) s
  else cellFlag p B.CELL_FLAGS_STATE_WR_REJ s

/-- CLR_CNT of a cell: the counters at 0x300 to 0x30c of the pair (R217, R226). -/
def clrCell (n : Nat) (s : State) : State :=
  forAll (pairOf s n) (fun m => clearAll [F.CELL_EVALS m, F.CELL_MISS m, F.CELL_HELD m]) s

/-- Register access to a cell: its tile is in service (R219). -/
def cellReach (s : State) (n : Nat) : Bool := decide (n < 512) && tileUp s (primaryCell s n / 32)

/-- CAPO_SET (R215). -/
def execCapoSet (n : Nat) (s : State) : Out := if cellReach s n then .next (capoSet n s) else .next s

/-- CAPO_CLR (R215). -/
def execCapoClr (n : Nat) (s : State) : Out := if cellReach s n then .next (capoClr n s) else .next s

/-- CLR_STATE (R216). -/
def execClrState (n : Nat) (s : State) : Out := if cellReach s n then .next (clrState n s) else .next s

/-- CELL_CLR_CNT (R226). -/
def execCellClrCnt (n : Nat) (s : State) : Out := if cellReach s n then .next (clrCell n s) else .next s

/-- The time of one evaluation in ns and the evaluations a second of a cell (R201, R202). -/
def cellCost (s : State) (n : Nat) : Nat := 12 + 4 * min 8 (get s (F.CELL_CTRL_NBQ n))
def rateHz (r : Nat) : Nat :=
  if r = 0 then 409600 else if r = 1 then 204800 else if r = 2 then 102400 else if r = 3 then 40000 else if r = 4 then 4000 else 1000

/-- The load of a set of cells (R210): utilisation in 10^-9, and the worst sum of deadline cells due at one servo tick. -/
def loadOf (s : State) (l : List Nat) : Nat × Nat :=
  let rate (n : Nat) : Nat := get s (F.CELL_CTRL_RATE n)
  let dl := l.filter fun n => decide (rate n ≤ 2) && decide (get s (F.CELL_CTRL_MODE n) = 0)
  let sum (t : Nat) : Nat := ((dl.filter fun n => decide (t % ratePeriod (rate n) = get s (F.CELL_CTRL_PHASE n))).map (cellCost s)).sum
  ((l.map fun n => cellCost s n * rateHz (rate n)).sum, max (max (sum 0) (sum 1)) (max (sum 2) (sum 3)))

/-- The enabled cells of a tile, and its LOAD register (R210, R223). -/
def tileCells (s : State) (t : Nat) : List Nat := ((List.range 32).map (32 * t + ·)).filter fun n => isSet s (F.CELL_CTRL_EN n)
def loadRegs (t : Nat) (s : State) : State :=
  let l := loadOf s (tileCells s t)
  put (F.LE_LOAD_SUM t) (min 65535 l.2) (put (F.LE_LOAD_UTIL t) (min 65535 (l.1 * 65536 / 1000000000)) s)

/-- EN of a pair written (R215, R222, R226). -/
def cellEnable (n en : Nat) (s : State) : State :=
  let p := primaryCell s n
  let pair := pairOf s p
  if get s (F.CELL_CTRL_EN p) = en % 2 then s
  else
    let s1 := if en % 2 = 1 then s
      else
        let t1 := forAll pair (fun m t => updCell m (fun c => { c with cur := getI t (F.CELL_OUT m) }) (landAll m t)) s
        let act := if isSet s (F.CELL_STATUS_CLR_PEND p) then 0
          else if isSet s (F.CELL_STATUS_SET_PEND p) then 1 else get s (F.CELL_STATUS_CAPO_ACTIVE p)
        putCells pair F.CELL_STATUS_CAPO_ACTIVE act (putCells pair F.CELL_STATUS_SET_PEND 0 (putCells pair F.CELL_STATUS_CLR_PEND 0 t1))
    forAll pair (fun m t =>
      loadRegs (m / 32) (putB (F.CELL_STATUS_IN_SERVICE m) (decide (en % 2 = 1) && tileUp t (m / 32)) (put (F.CELL_CTRL_EN m) en
        (updCell m (fun c => { c with due := false, done := false, pend := none, at' := lastBoundary t m }) t)))) s1

/-- CELL_ENABLE (R216, R222). -/
def execCellEnable (n en : Nat) (s : State) : Out := if cellReach s n then .next (cellEnable n en s) else .next s

/-- CELL_CONFIG_WRITE (R215 to R217): a whole write of CELL.CTRL. MODE, RATE, PHASE and NBQ are judged against EN as it stood;
a RATE or PHASE outside R202 discards a write to a disabled cell. -/
def execCellConfigWrite (n ctrl : Nat) (s : State) : Out :=
  if cellReach s n = false then .next s
  else
    let p := primaryCell s n
    let pair := pairOf s p
    let mode := bitOf ctrl 4
    let rate := ctrl / 32 % 8
    let phase := ctrl / 256 % 64
    let nbq := ctrl / 16384 % 16
    let same := decide (mode = get s (F.CELL_CTRL_MODE p) ∧ rate = get s (F.CELL_CTRL_RATE p) ∧ phase = get s (F.CELL_CTRL_PHASE p)
      ∧ nbq = get s (F.CELL_CTRL_NBQ p))
    let en := get s (F.CELL_CTRL_EN p)
    if en = 0 ∧ (5 < rate ∨ ratePeriod rate ≤ phase) then .next (cellFlag p B.CELL_FLAGS_CFG_REJ s)
    else
      let s1 := if same then s else if en = 1 then cellFlag p B.CELL_FLAGS_CFG_REJ s
        else putCells pair F.CELL_CTRL_MODE mode (putCells pair F.CELL_CTRL_RATE rate (putCells pair F.CELL_CTRL_PHASE phase
          (putCells pair F.CELL_CTRL_NBQ nbq s)))
      let s2 := cellEnable p ctrl s1
      let s3 := if bitOf ctrl 1 = 1 then capoSet p s2 else s2
      let s4 := if bitOf ctrl 18 = 1 then capoClr p s3 else s3
      let s5 := if bitOf ctrl 2 = 1 then clrState p s4 else s4
      .next (if bitOf ctrl 3 = 1 then clrCell p s5 else s5)

/-- CELL_SRC_WRITE (R216, R217): SRC, or SP_SRC where `sp`. -/
def execCellSrcWrite (n : Nat) (sp : Bool) (code : Nat) (s : State) : Out :=
  if cellReach s n = false then .next s
  else
    let p := primaryCell s n
    if get s (F.CELL_CTRL_EN p) = 1 then .next (cellFlag p B.CELL_FLAGS_CFG_REJ s)
    else .next (putCells (pairOf s p) (if sp then F.CELL_SP_SRC else F.CELL_SRC) code s)

/-- The fields of SV.CELL_MAP for the loops of a head: focus, tracking, tilt, and their shadows. -/
def mapField (h q : Nat) : Fld := if q = 0 then F.SV_CELL_MAP_FOCUS h else if q = 1 then F.SV_CELL_MAP_TRACK h else F.SV_CELL_MAP_TILT h
def mapShadow (h q : Nat) : Fld :=
  if q = 0 then F.SV_CELL_MAP_SH_FOCUS h else if q = 1 then F.SV_CELL_MAP_SH_TRACK h else F.SV_CELL_MAP_SH_TILT h

/-- The head and loop whose coil a consumer code names. -/
def coilDest (d : Nat) : Option (Nat × Nat) := if d / 4096 = 1 ∧ d % 4 < 3 ∧ d % 4096 < 256 then some (d % 4096 / 4, d % 4) else none

/-- A cell takes the node memberships of another (R220). -/
def moveMember (a b : Nat) (s : State) : State :=
  forAll (nodesOf s a) (fun m t =>
    let f := F.LE_NODE_CFG (m / 8) (m % 8)
    (nodeMembers t m).foldl (fun u p => if p.2 = a then put f (get u f - a * 2 ^ (9 * p.1) + b * 2 ^ (9 * p.1)) u else u) t) s

/-- SHADOW_TAKEOVER (R194, R220): the shadow becomes the primary. -/
def takeover (n q : Nat) (s : State) : State :=
  let d := get s (F.CELL_DEST n)
  let s1 := moveMember n q (putAll [(F.CELL_STATUS_ROLE q, 0), (F.CELL_STATUS_PARTNER q, 0), (F.CELL_STATUS_ROLE n, 0),
    (F.CELL_STATUS_PARTNER n, 0), (F.CELL_DEST q, d)] s)
  let s2 := cellFlag q B.CELL_FLAGS_TAKEOVER (raise (evLE (q / 32)) B.LE_EVT_TAKEOVER s1)
  match coilDest d with
  | none => s2
  | some (h, l) =>
    raise (evSV h) B.SV_EVT_SHADOW_TAKEOVER (bump (F.SV_SHADOW h) 1 (putAll [(F.SV_STATUS_ON_SHADOW h, get s (F.SV_STATUS_ON_SHADOW h) ||| 2 ^ l),
      (F.SV_CELL_MAP_SHADOWS_OK h, 0), (mapField h l, q), (mapShadow h l, 0)] s2))

/-- NO_SHADOW (R194, R195): a servo loop has lost its only cell. -/
def noShadow (h l : Nat) (s : State) : State :=
  retractHead h 0 (raise (evSV h) B.SV_EVT_NO_SHADOW (updServo h (fun v => { v with noLoop := l :: v.noLoop.filter (· ≠ l) }) s))

/-- A sled stops following (R262, R535). -/
def stopFollow (b a : Nat) (s : State) : State :=
  let s1 := endFollow b a s
  if axSt s b a ≠ 5 then s1
  else if (axOf s b a).v2 = 0 then axEnter b a 1 (axHalt b a s1) else axEnter b a 3 (axBrake b a (axDec s b a) 3 s1)

/-- A motor loop without a cell (R535): its spindle coasts, its carousel comes to rest, its sled stops following. -/
def motorLoopLost (d : Nat) (s : State) : State :=
  let i := d % 4096
  if d / 4096 = 2 ∧ i < 512 ∧ i % 16 = 2 then coastSpindle (i / 16) s
  else if d / 4096 = 2 ∧ i < 512 ∧ (i % 16 = 10 ∨ i % 16 = 11) then stopFollow (i / 16) (i % 16 - 10) s
  else if d / 4096 = 3 ∧ i < 64 ∧ (cmotSt s (i / 16) = 1 ∨ cmotSt s (i / 16) = 3) then
    put (F.CMOT_STATUS_STATE (i / 16)) 4 (updCrs (i / 16) (fun x => { x with reverse := none, homing := false }) s)
  else s

/-- A free cell (R304), and the free cell that a tile gives: its local cell 31, else its lowest. -/
def freeCell (s : State) (n : Nat) : Bool :=
  tileUp s (n / 32) && decide (get s (F.CELL_CTRL_EN n) = 0) && decide (cellRole s n = 0) && decide (get s (F.CELL_DEST n) = 0)
    && decide (nodesOf s n = [])
def tileFree (s : State) (t : Nat) : Option Nat := ((31 :: List.range 31).map (32 * t + ·)).find? (freeCell s)

/-- The spare cell for a loop (R304): the lowest tile in service, not the partner's, that meets both limits of R210 with it. -/
def spareFor (s : State) (src : Nat) (avoid : Option Nat) : Option Nat :=
  (List.range 16).findSome? fun t =>
    let l := loadOf s (src :: tileCells s t)
    if tileUp s t = true ∧ avoid ≠ some t ∧ l.1 ≤ 800000000 ∧ l.2 ≤ 700 then tileFree s t else none

/-- The configuration and the coefficients of a cell copied to a spare (R220). -/
def copyConfig (a b : Nat) (s : State) : State :=
  let fs : List (Nat → Fld) := [F.CELL_CTRL_MODE, F.CELL_CTRL_RATE, F.CELL_CTRL_PHASE, F.CELL_CTRL_NBQ, F.CELL_SRC, F.CELL_SP_SRC,
    F.CELL_DEADLINE, F.CELL_GAIN_SHIFT_KP_SH, F.CELL_GAIN_SHIFT_KI_SH, F.CELL_GAIN_SHIFT_KD_SH, F.CELL_STATUS_CAPO_ACTIVE,
    F.CELL_STATUS_SET_PEND, F.CELL_STATUS_CLR_PEND]
  let s1 := putAll (fs.map fun f => (f b, get s (f a))) s
  let ks := (List.range 112).filter isCoef
  let s2 := forAll (ks.filter fun k => decide (k ≠ 8)) (fun k t =>
    put ⟨(F.CELL_SETPOINT b).off + 4 * k, 0, 32⟩ (get s ⟨(F.CELL_SETPOINT a).off + 4 * k, 0, 32⟩) t) s1
  let s3 := forAll ks (fun k t => put (F.CELL_IN_FORCE b k) (get s (F.CELL_IN_FORCE a k)) t) s2
  putAll [(F.CELL_CTRL_EN b, 1), (F.CELL_STATUS_IN_SERVICE b, 1)] (updCell b (fun _ => { at' := lastBoundary s3 b }) s3)

/-- The shadows of a head's three loops are all there. -/
def shadowsOk (h : Nat) (s : State) : State :=
  putB (F.SV_CELL_MAP_SHADOWS_OK h) ((List.range 3).all fun q => decide (cellRole s (get s (mapField h q)) = 1)) s

/-- A spare takes the place of a lost cell (R220, R304, R535): it starts from the last applied output as CLR_STATE does. -/
def assignCell (src new : Nat) (s : State) : State :=
  let d := get s (F.CELL_DEST src)
  let s1 := moveMember src new (putAll [(F.CELL_DEST new, d), (F.CELL_OUT new, get s (F.CELL_OUT src))] (copyConfig src new s))
  let s2 := putI (F.CELL_INT new) (sat48 (getI s (F.CELL_OUT src) * 65536))
    (updCell new (fun c => { c with cur := getI s (F.CELL_OUT src), last := getI s (F.CELL_OUT src) }) s1)
  match coilDest d with
  | some (h, l) => put (mapField h l) new (updServo h (fun v => { v with noLoop := v.noLoop.filter (· ≠ l) }) s2)
  | none =>
    if d / 4096 = 2 ∧ (d % 16 = 10 ∨ d % 16 = 11) then put (F.SV_CELL_MAP_SLED (2 * (d % 4096 / 16) + (d % 16 - 10))) new s2 else s2

/-- A spare becomes the shadow of a primary (R217, R220): its queue and Capo follow the primary's, its state is copied at the
next boundary. -/
def assignShadow (p new : Nat) (s : State) : State :=
  let q := ((queueOf s (p / 32)).filter fun e => decide (e.1 = p)).map fun e => (new, e.2)
  let s1 := setQueue (new / 32) new (queueOf s (new / 32) ++ q) (copyConfig p new s)
  let s2 := updCell new (fun c => { c with copy := true }) (putAll [(F.CELL_STATUS_ROLE new, 2), (F.CELL_STATUS_PARTNER new, p),
    (F.CELL_STATUS_ROLE p, 1), (F.CELL_STATUS_PARTNER p, new)] s1)
  match coilDest (get s (F.CELL_DEST p)) with
  | some (h, l) => shadowsOk h (put (mapShadow h l) new s2)
  | none => s2

/-- One loop in need of a cell (kind 0) or a shadow (kind 1) is served, or stays on the list (R304). -/
def serveNeed (p : Nat × Nat) (s : State) : State :=
  if p.1 = 1 ∧ (cellUp s p.2 = false ∨ cellRole s p.2 ≠ 0) then s
  else
    match spareFor s p.2 (if p.1 = 1 then some (p.2 / 32) else none) with
    | none => raise evARB B.ARB_EVT_CELL_NONE { s with loop := { s.loop with needs := s.loop.needs ++ [p] } }
    | some n =>
      let s1 := if p.1 = 0 then assignCell p.2 n s else assignShadow p.2 n s
      raise evARB B.ARB_EVT_CELL_REASSIGN (bump F.ARB_CELL_REASSIGN 1 (loadRegs (n / 32) s1))

/-- CELL_REASSIGN (R304, R537): cells first, then shadows, each in ascending cell index; a motor loop that stays without a cell
stops its motor (R535). -/
def reassign (l : List (Nat × Nat)) (s : State) : State :=
  let k0 := (l.filter fun p => decide (p.1 = 0)).mergeSort fun a b => decide (a.2 ≤ b.2)
  let k1 := (l.filter fun p => decide (p.1 = 1)).mergeSort fun a b => decide (a.2 ≤ b.2)
  let s1 := (k0 ++ k1).foldl (fun t p => serveNeed p t) { s with loop := { s.loop with needs := [] } }
  forAll ((s1.loop.needs.filter fun p => decide (p.1 = 0)).map Prod.snd) (fun n t =>
    (get t (F.CELL_DEST n) :: (nodesOf t n).map fun m => get t (F.LE_NODE_DEST (m / 8) (m % 8))).foldl (fun u d => motorLoopLost d u) t) s1

/-- One cell of a faulted tile (R194, R220): the state after, and what it needs. -/
def cellFault (n : Nat) (a : State × List (Nat × Nat)) : State × List (Nat × Nat) :=
  let s := put (F.CELL_STATUS_PENDING n) 0 (put (F.CELL_STATUS_IN_SERVICE n) 0 a.1)
  let on := isSet s (F.CELL_CTRL_EN n)
  let q := get s (F.CELL_STATUS_PARTNER n)
  if cellRole s n = 1 then (takeover n q s, if on then a.2 ++ [(1, q)] else a.2)
  else if cellRole s n = 2 then
    let s1 := putAll [(F.CELL_STATUS_ROLE n, 0), (F.CELL_STATUS_PARTNER n, 0), (F.CELL_STATUS_ROLE q, 0), (F.CELL_STATUS_PARTNER q, 0)] s
    let s2 := match coilDest (get s (F.CELL_DEST q)) with
      | some (h, l) => putAll [(F.SV_CELL_MAP_SHADOWS_OK h, 0), (mapShadow h l, 0)] s1
      | none => s1
    (s2, if on then a.2 ++ [(1, q)] else a.2)
  else if on then
    (match coilDest (get s (F.CELL_DEST n)) with
      | some (h, l) => noShadow h l s
      | none => s, a.2 ++ [(0, n)])
  else (s, a.2)

/-- TILE_FAULT (R194, R213, R219, R220, R304, R535 to R537): cause 1 parity, 2 residue, 3 clock, 4 supply, at a local cell. -/
def execTileFault (t cause cell : Nat) (s : State) : Out :=
  if tileUp s t = false ∨ cause = 0 ∨ 4 < cause then .next s
  else
    let was := isExposed s Dom.loop t
    let s1 := putAll [(F.LE_TILE_STATUS_IN_SERVICE t, 0), (F.LE_TILE_STATUS_CAUSE t, cause), (F.LE_TILE_STATUS_CELL t, cell),
      (F.LE_QUEUE_NOW t, 0)] { s with loop := { s.loop with queues := mapErase s.loop.queues t } }
    let s2 := openWindow Dom.loop t (100 + t) (raise (evLE t) B.LE_EVT_TILE_FAULT s1)
    let home := (List.range 8).any fun j => decide (nodeMembers s (8 * t + j) ≠ [])
    let s3 := if home && tileUp s ((t + 8) % 16) then raise (evLE ((t + 8) % 16)) B.LE_EVT_NODE_PARTNER s2 else s2
    let r := (List.range 32).foldl (fun a i => cellFault (32 * t + i) a) (s3, [])
    let hit := r.2.any fun p => decide (p.1 = 0) && (coilDest (get s (F.CELL_DEST p.2))).isSome
    let s4 := reassign (r.2 ++ s.loop.needs.filter fun p => decide (p ∉ r.2)) r.1
    let lost := s4.loop.needs.any fun p => decide (p.1 = 0)
    let s5 := closeWindow Dom.loop t (if hit || lost then 2 else if was then 1 else 0) s4
    .next (if s4.loop.needs = [] then unexpose Dom.loop t s5 else s5)

/-- TILE_RESET (R219): the self-test of a tile out of service starts. -/
def execTileReset (t : Nat) (s : State) : Out :=
  if 16 ≤ t ∨ tileUp s t = true ∨ t ∈ s.loop.testing then .next s
  else .next (unitReset { s with loop := { s.loop with testing := t :: s.loop.testing } })

/-- Cells back with every setting cleared and in no node (R219): what start-up loaded no longer holds. -/
def clearCell (n : Nat) (s : State) : State :=
  let lo := (F.CELL_CTRL_EN n).off
  let s1 := forAll (nodesOf s n) (fun m w =>
    let f := F.LE_NODE_CFG (m / 8) (m % 8)
    (nodeMembers w m).foldl (fun x p => if p.2 = n then put f (get x f - n * 2 ^ (9 * p.1) - 2 ^ (36 + p.1)) x else x) w) s
  let s2 := resetWindow lo (lo + 0x1000) { s1 with loaded := mapEraseRange s1.loaded (8 * lo) (8 * (lo + 0x1000)) }
  cellEvt n (updCell n (fun _ => {}) s2)

/-- TILE_SELF_TEST_PASS (R219, R304): the tile returns with free cells, which serve the loops that still wait; a cell whose loop
waits for another is cleared once that has been tried. -/
def execTileSelfTestPass (t : Nat) (s : State) : Out :=
  if t ∉ s.loop.testing then .next s
  else
    let cs := (List.range 32).map (32 * t + ·)
    let kept := cs.filter fun n => decide ((0, n) ∈ s.loop.needs)
    let s1 := forAll (cs.filter fun n => decide (n ∉ kept)) clearCell
      { s with loop := { s.loop with testing := s.loop.testing.erase t } }
    let s2 := putAll [(F.LE_TILE_STATUS_IN_SERVICE t, 1), (F.LE_TILE_STATUS_CAUSE t, 0), (F.LE_TILE_STATUS_CELL t, 0)] s1
    let s3 := forAll kept clearCell (reassign s2.loop.needs s2)
    let needs := s3.loop.needs.filter fun p => decide (p.2 ∉ kept)
    .next (loadRegs t { s3 with
      loop := { s3.loop with needs := needs }
      exposed := if needs = [] then s3.exposed.filter fun d => decide (d.1 ≠ Dom.loop) else s3.exposed })

/-- LE_CLR_CNT (R223): the counters of a tile and the win counts of its nodes. -/
def execLeClrCnt (t : Nat) (s : State) : Out :=
  if 16 ≤ t then .next s
  else .next (forAll (List.range 8) (fun j u => put (F.LE_NODE_WIN t j) (get u (F.LE_NODE_WIN t j) % 4) u)
    (clearAll [F.LE_COEF_OVF t, F.LE_MISMATCH t, F.LE_MISSES t, F.LE_QUEUE_PEAK t] s))

end Sys2Proof.Machine
end

