-- ==== Sys2Proof/Machine/Rebuild.lean ====
section
/-! DEFINITION. Recovery of data: re-placement copies, reconstruction, lost rows and sets, member failure and spares, the rebuild and reshape
contexts, and the commands of PAR (R287, R305, R313 to R339). -/

namespace Sys2Proof.Machine

/-! ### Re-placement -/

/-- The domain that takes the copies of a set (R305): its own, or while that is short of blank discs the ACTIVE one with the most, the lowest
arbour first. -/
def copyTarget (s : State) (hd : Nat) : Nat :=
  let d := getSet s hd
  let short := decide (blanksBelow s d.domain < get s (F.ARB_AR_CFG_K d.domain) + 2 + get s (F.ARB_AR_SPARE_POOL d.domain))
  let doms := (arbsOf s).filter fun a => isDomain s a && pathActive s a
  if short then doms.foldl (fun b a => if blanksBelow s b < blanksBelow s a then a else b) (doms.headD d.domain) else d.domain

/-- One live block (grain, index, LBK) of a set copied with its value into the consolidation open set of a domain, with its source and the
STREAM of its source row (R287, R294, R305, R320). -/
def copyBlock (hd dom : Nat) (b : Nat × Nat × Nat) (v : Nat) (s : State) : State :=
  let p := (takePages s 1).headD (dirtyBase s)
  let x := nsOfGrain s b.1 b.2.1
  let d := getSet s hd
  placeBlocks (mapGet (fun _ => 0) d.streams (b.2.2 / rowBlocks d.width)) dom (consSlot s dom) false [⟨x.1, x.2, p, 0, some (hd, b.2.2)⟩]
    (bufWritePage p v s)

/-- The value of a block in a clean sector. -/
def cleanValue (s : State) (hd l : Nat) (c : CleanSector) : Nat := ofBytesLE ((c.payload.drop (sectorOf s hd l).2.2).take 4096)

/-- A lost set whose surviving blocks have all been copied is reported (R320): what cannot be copied becomes UNAVAILABLE with cause 3. -/
def reportSetLost (hd : Nat) (s : State) : State :=
  let d := getSet s hd
  let s1 := raise evPAR B.PAR_EVT_SET_LOST (bump F.PAR_SETS_LOST 1 s)
  let s2 := markSet hd 3 (blockLost s hd) (updSet hd (fun e => { e with consol := false }) s1)
  refreshArbours (raise (evAR d.domain) B.ARB_AR_EVT_UNAVAILABLE s2)

/-- The live blocks of a set are copied in ascending LBK as far as their sectors are in the buffer (R297, R305, R320, R326). -/
def copySet (hd : Nat) : Nat → State → State
  | 0, s => s
  | n + 1, s =>
    match toCopy s hd with
    | [] => if (getSet s hd).lost ∧ (getSet s hd).consol then reportSetLost hd s else s
    | x :: _ =>
      match findClean s hd x.2.2 with
      | none => s
      | some c =>
        let s1 := copyBlock hd (copyTarget s hd) x (cleanValue s hd x.2.2 c) (updSet hd (fun d => { d with copied := x.2.2 + 1 }) s)
        copySet hd n (if (getSet s hd).lost then bump F.PAR_SALVAGED 1 s1 else s1)

/-- Every consolidation, evacuation and salvage goes on with what has come into the buffer. -/
def advanceCopies (s : State) : State :=
  dropClean (fun _ => true) (forAll ((s.lib.sets.filter fun p => p.2.consol).map Prod.fst) (fun hd u => copySet hd ((toCopy u hd).length + 1) u) s)

/-- A set begins to be consolidated, evacuated or salvaged (R305, R320, R326). -/
def startCopies (hd : Nat) (s : State) : State :=
  issueNext (updSet hd (fun d => { d with consol := true, consAt := if d.consol then d.consAt else s.lib.issue }) s)

/-! ### Rows and sets beyond reconstruction -/

/-- The addresses of an ordinal on a disc: where its sector stands, and its home slot (R48, R49, R53). -/
def homeAddr (o : Nat) : Nat := ordAddr firstDataBand o
def selfAddr (s : State) (disc o : Nat) : Nat := mapGet (fun _ => homeAddr o) (getDisc s disc).remaps (homeAddr o)

/-- A block's value from what was read of its row, its erased bytes reconstructed (R317, R320). -/
def rowValue (w r m j : Nat) (reads : List (Nat × List Nat)) (erased : List (Nat × Nat)) : Nat :=
  ofBytesLE ((List.range 4096).map fun i =>
    let o := 512 + 4096 * j + i
    if (m, cwOf o) ∈ erased then reconByte w r m reads erased o else (readOf reads m).getD o 0)

/-- The indexes of a row beyond recovery, and the blocks they lose (R316, R320). -/
def badIndexes (erased : List (Nat × Nat)) : List Nat := (List.range 9).filter fun c => decide (2 < (erasedAt erased c).length)
def lostAt (w r : Nat) (erased : List (Nat × Nat)) (l : Nat) : Bool :=
  let m := dataMember w r (l % rowBlocks w / 8)
  (badIndexes erased).any fun c => decide ((m, c) ∈ erased) && decide (512 + 4096 * (l % 8) ≤ 3712 * c + 3711)
    && decide (3712 * c ≤ 4607 + 4096 * (l % 8))

/-- A row's losses have been answered: the handed-over sectors of its members leave their staging slots. -/
def releaseRow (hd r : Nat) (s : State) : State :=
  (getSet s hd).members.foldl (fun u x => releaseLost x r u) { s with par := { s.par with
    doubt := s.par.doubt.filter fun x => decide (x.1 ≠ hd) || decide (x.2.1 ≠ r) } }

/-- A row lost beyond reconstruction (R292, R320): the blocks that overlap a lost codeword of an erased data member become UNAVAILABLE,
every other live block of the row is salvaged. -/
def rowLost (hd r : Nat) (s : State) : State :=
  let d := getSet s hd
  let w := d.width
  let erased := rowErased s hd r
  let reads := rowReads s hd r
  let inRow (l : Nat) : Bool := decide (l / rowBlocks w = r)
  let keep := ((blocksOfSet s hd).filter fun x => inRow x.2.2 && !lostAt w r erased x.2.2).mergeSort fun a b => decide (a.2.2 ≤ b.2.2)
  let s1 := bump F.PAR_SALVAGED keep.length (keep.foldl (fun u x =>
    copyBlock hd d.domain x (rowValue w r (memberOfLbk d x.2.2) (x.2.2 % 8) reads erased) u) s)
  let s2 := raise evPAR B.PAR_EVT_ROW_LOST (bump F.PAR_ROWS_LOST 1 s1)
  let s3 := updSet hd (fun e => { e with lostRows := r :: e.lostRows }) (markSet hd 1 (fun l => inRow l && lostAt w r erased l) s2)
  releaseRow hd r (refreshArbours (raise (evAR d.domain) B.ARB_AR_EVT_UNAVAILABLE s3))

/-- The contexts of a set end (R306, R320). -/
def endContexts (hd : Nat) (s : State) : State :=
  parStatus (forAll (List.range 16) (fun i u =>
    if get u (F.PAR_RB_SET i) = hd ∧ rbBusy u i then put (F.PAR_RB_STATUS_STATE i) Rb.done u else u) s)

/-- Three failed members lose the set: its blocks on surviving data members are salvaged, then it is reported (R320, R328). -/
def setLost (hd : Nat) (s : State) : State :=
  let s1 := startCopies hd (updSet hd (fun d => { d with lost := true }) (endContexts hd s))
  copySet hd ((toCopy s1 hd).length + 1) s1

/-! ### Spares -/

/-- The spare that a context has taken for a member, and the disc that stands for a member (R323, R327). -/
def memberSpare (s : State) (hd m : Nat) : Option Nat :=
  if m ∉ (getSet s hd).failed then none
  else ((List.range 16).filterMap fun i =>
    if get s (F.PAR_RB_SET i) ≠ hd ∨ rbBusy s i = false then none
    else if rbSecond s i ∧ get s (F.PAR_RB_STATUS_MEMBER2 i) = m ∧ get s (F.PAR_RB_SPARES_2 i) ≠ 0x7ff then some (get s (F.PAR_RB_SPARES_2 i))
    else if get s (F.PAR_RB_STATUS_MEMBER1 i) = m ∧ get s (F.PAR_RB_SPARES_1 i) ≠ 0x7ff then some (get s (F.PAR_RB_SPARES_1 i))
    else none).head?
def memberDisc (s : State) (hd m : Nat) : Nat := (memberSpare s hd m).getD ((getSet s hd).members.getD m 0)

/-- The spare R323 takes for a set's member: the lowest blank disc of the failed disc's leaf, else of the first leaf of the domain that holds
fewer of the set's members, spares taken among them, than it has bays (R15). -/
def pickSpare (s : State) (hd m : Nat) : Option Nat :=
  let d := getSet s hd
  let held (l : Nat) : Nat := ((List.range d.width).filter fun k => decide (leafOfDisc s (memberDisc s hd k) = l)).length
  let usable (l : Nat) : Option Nat := (blanksOfLeaf s l).head?
  match usable (leafOfDisc s (memberDisc s hd m)) with
  | some x => some x
  | none => ((leavesBelow s d.domain).find? fun l => decide (held l < (leafBays s l).length) && (usable l).isSome).bind usable

/-- The spare becomes the member: it takes the index and enters the open or sealed state (R278, R323). -/
def takeSpare (hd m x : Nat) (s : State) : State :=
  let d := getSet s hd
  let st := if d.st = 1 then 1 else 2
  let s1 := updDisc x (fun y => owe d.domain st
    { y with state := st + 1, set := hd, setId := d.setId, member := m, width := d.width, former := (getDisc s (d.members.getD m 0)).former }) s
  writeDirectory (bump F.PAR_SPARES_TAKEN 1 s1)

/-- A rebuild waits for a spare (R323). -/
def waitSpare (s : State) : State := notify 0x782 (raise evPAR B.PAR_EVT_WAIT_SPARE s)

/-! ### The rebuild contexts -/

/-- The discs that a context needs in bays: the readable members of its set and its spares (R295, R324). -/
def rbDiscs (s : State) (i : Nat) : List Nat := readable s (get s (F.PAR_RB_SET i)) ++ rbSpares s i

/-- A context pauses: PAR.CTRL.EN is 0, its domain is OFFLINE, a disc is not mounted, or its bay is under relief (R335, R337). -/
def rbPaused (s : State) (i : Nat) : Bool :=
  !isSet s F.PAR_CTRL_EN || ((pathUp s 16 (get s (F.PAR_RB_STATUS_DOMAIN i))).any fun a => decide (get s (F.ARB_AR_STATUS_PSTATE a) = 2))
    || (rbDiscs s i).any fun x => match bayOfDisc s x with
      | none => true
      | some b => decide (bitOf (get s (F.ARB_AR_AVOID (leafOfBay s b))) b = 1)

/-- The seconds that have passed for a context count as running or paused; RATE takes the rows of the last one (R338). -/
def tickContext (i : Nat) (s : State) : State :=
  let at0 := mapGet (fun _ => 0) s.par.rateAt i
  let n := (now s - at0) / 156250000
  if n = 0 ∨ rbRunning s i = false then s
  else
    let s1 := if rbPaused s i then bump (F.PAR_RB_ELAPSED_PAUSE i) n s else bump (F.PAR_RB_ELAPSED_RUN i) n s
    put (F.PAR_RB_RATE i) (if n = 1 then mapGet (fun _ => 0) s.par.rateRows i else 0)
      { s1 with par := { s1.par with rateAt := mapPut s1.par.rateAt i (at0 + 156250000 * n), rateRows := mapPut s1.par.rateRows i 0 } }
def tickContexts (s : State) : State := forAll (List.range 16) tickContext s

/-- A context evacuates its set instead of rebuilding it (R326, R335). -/
def mayEvacuate (s : State) (hd : Nat) : Bool := isSet s F.PAR_CTRL_EVACUATE_EN && decide ((getSet s hd).st = 2) && liveBelow s hd
def startEvacuate (i : Nat) (s : State) : State :=
  raise evPAR B.PAR_EVT_EVACUATE (bump F.PAR_EVACUATIONS 1
    (put (F.PAR_RB_STATUS_STATE i) Rb.evacuate (startCopies (get s (F.PAR_RB_SET i)) s)))

/-- A context begins its member: it evacuates, mounts with a spare, or waits for one (R323, R325, R326). -/
def rbBegin (i : Nat) (s0 : State) : State :=
  let hd := get s0 (F.PAR_RB_SET i)
  let m := get s0 (F.PAR_RB_STATUS_MEMBER1 i)
  let s1 := putAll [(F.PAR_RB_CURSOR i, 0), (F.PAR_RB_START2 i, 0), (F.PAR_RB_END i, (getSet s0 hd).nextOrd), (F.PAR_RB_ROWS_LOST i, 0)] s0
  let s := { s1 with par := { s1.par with
    rateAt := mapPut s1.par.rateAt i (now s1), rateRows := mapPut s1.par.rateRows i 0, start1 := mapErase s1.par.start1 i
    have1 := mapErase s1.par.have1 i, probing := s1.par.probing.filter (· ≠ i), ckpt := mapErase (mapErase s1.par.ckpt hd) (131072 + hd) } }
  if mayEvacuate s hd then startEvacuate i s
  else match pickSpare s hd m with
    | some x => put (F.PAR_RB_STATUS_STATE i) Rb.mount (put (F.PAR_RB_SPARES_1 i) x (takeSpare hd m x (journal (.cursor (131072 + hd) 0) (journal (.cursor hd 0) s))))
    | none => waitSpare (put (F.PAR_RB_STATUS_STATE i) Rb.waitSpare s)

/-- A set with a failed member takes a free context (R325), in IDLE with its member recorded. -/
def rbTake (hd : Nat) (s : State) : State :=
  let d := getSet s hd
  match (List.range 16).find? (rbFree s) with
  | none => s
  | some i =>
    let s1 := { s with par := { s.par with begun := mapPut s.par.begun i d.failedAt } }
    putAll [(F.PAR_RB_STATUS_STATE i, Rb.idle), (F.PAR_RB_SET i, hd), (F.PAR_RB_STATUS_MEMBER1 i, d.failed.headD 0),
      (F.PAR_RB_STATUS_MEMBER2_VALID i, 0), (F.PAR_RB_STATUS_DOMAIN i, d.domain), (F.PAR_RB_SPARES_1 i, 0x7ff),
      (F.PAR_RB_SPARES_2 i, 0x7ff), (F.PAR_RB_ELAPSED_RUN i, 0), (F.PAR_RB_ELAPSED_PAUSE i, 0)] s1

/-- A context that is not done holds a set. -/
def rbHolds (s : State) (hd : Nat) : Bool :=
  (List.range 16).any fun i => decide (get s (F.PAR_RB_SET i) = hd) && decide (rbState s i ≠ Rb.done)

/-- The failed sets without a context, in order of failure. -/
def rbWaiting (s : State) : List Nat :=
  ((s.lib.sets.filter fun p => p.2.failed ≠ [] && !p.2.lost && decide (p.2.st ≠ 0) && !rbHolds s p.1).mergeSort
    fun a b => decide (a.2.failedAt ≤ b.2.failedAt)).map Prod.fst

/-- A second failure of the set of a context that waits in IDLE is recorded with it (R325, R327). -/
def joinIdle (i m : Nat) (s : State) : State :=
  raise evPAR B.PAR_EVT_SECOND_FAILURE (putAll [(F.PAR_RB_STATUS_MEMBER2 i, m), (F.PAR_RB_STATUS_MEMBER2_VALID i, 1), (F.PAR_RB_START2 i, 0)] s)

/-- A member joins the running context of its set at the cursor (R327): as MEMBER2, or, where MEMBER1 is complete and MEMBER2 wraps, as the
new MEMBER2 behind the old one. -/
def secondFailure (i m : Nat) (s0 : State) : State :=
  let hd := get s0 (F.PAR_RB_SET i)
  let cur := get s0 (F.PAR_RB_CURSOR i)
  let shift := rbSecond s0 i && decide (get s0 (F.PAR_RB_STATUS_MEMBER1 i) ∉ (getSet s0 hd).failed)
  let s := if shift then
      let s1 := putAll [(F.PAR_RB_STATUS_MEMBER1 i, get s0 (F.PAR_RB_STATUS_MEMBER2 i)), (F.PAR_RB_SPARES_1 i, get s0 (F.PAR_RB_SPARES_2 i)),
        (F.PAR_RB_SPARES_2 i, 0x7ff)] s0
      { s1 with par := { s1.par with
        have1 := mapPut s1.par.have1 i (get s0 (F.PAR_RB_START2 i)), start1 := mapErase s1.par.start1 i } }
    else s0
  let s1 := raise evPAR B.PAR_EVT_SECOND_FAILURE (putAll [(F.PAR_RB_STATUS_MEMBER2 i, m), (F.PAR_RB_STATUS_MEMBER2_VALID i, 1),
    (F.PAR_RB_START2 i, cur)] s)
  match pickSpare s1 hd m with
  | some x =>
    let st := rbState s1 i
    put (F.PAR_RB_STATUS_STATE i) (if st = Rb.mount ∨ st = Rb.waitSpare then st else Rb.joint) (put (F.PAR_RB_SPARES_2 i) x (takeSpare hd m x s1))
  | none => waitSpare s1

/-- A spare that fails is a second failure of its index: what it held is lost again, and a new spare starts at the cursor and wraps (R327). The
failed spare is retired. -/
def spareFails (i m : Nat) (s0 : State) : State :=
  let hd := get s0 (F.PAR_RB_SET i)
  let cur := get s0 (F.PAR_RB_CURSOR i)
  let bad := memberDisc s0 hd m
  let s1 := updDisc bad (fun y => owe (getSet s0 hd).domain 4 { y with state := 5, set := 0xffff }) s0
  let s := { s1 with par := { s1.par with out := s1.par.out.filter fun x => decide (x.disc ≠ bad) } }
  let new := pickSpare s hd m
  let x := new.getD 0x7ff
  let second := rbSecond s i && decide (get s (F.PAR_RB_STATUS_MEMBER2 i) = m)
  let other := rbSecond s i && !second
  let s2 := raise evPAR B.PAR_EVT_SECOND_FAILURE (
    if second then putAll [(F.PAR_RB_SPARES_2 i, x), (F.PAR_RB_START2 i, cur)] s
    else if other then
      let t := put (F.PAR_RB_SPARES_1 i) x s
      { t with par := { t.par with start1 := mapPut t.par.start1 i cur, have1 := mapErase t.par.have1 i } }
    else putAll [(F.PAR_RB_STATUS_MEMBER2 i, m), (F.PAR_RB_STATUS_MEMBER2_VALID i, 1), (F.PAR_RB_SPARES_1 i, 0x7ff),
      (F.PAR_RB_SPARES_2 i, x), (F.PAR_RB_START2 i, cur)] s)
  let st := rbState s i
  match new with
  | some y => put (F.PAR_RB_STATUS_STATE i) (if st = Rb.run ∨ st = Rb.wrap then Rb.joint else st) (takeSpare hd m y s2)
  | none => waitSpare s2

/-- The waiting contexts of a domain begin in order of failure while it runs fewer than RB_DOMAIN (R325). -/
def rbNext (s : State) : State :=
  let s1 := forAll (rbWaiting s) rbTake s
  let order := (List.range 16).mergeSort fun a b => decide (mapGet (fun _ => 0) s1.par.begun a ≤ mapGet (fun _ => 0) s1.par.begun b)
  forAll order (fun i u =>
    if rbState u i = Rb.idle ∧ get u (F.PAR_RB_SET i) ≠ 0xffff
        ∧ rbInDomain u (get u (F.PAR_RB_STATUS_DOMAIN i)) < get u F.PAR_RB_CFG_RB_DOMAIN then
      let hd := get u (F.PAR_RB_SET i)
      let v := rbBegin i u
      ((getSet u hd).failed.filter fun m => decide (m ≠ get u (F.PAR_RB_STATUS_MEMBER1 i))).foldl (fun t m =>
        if rbState t i = Rb.evacuate then t else secondFailure i m t) v
    else u) s1

/-- A blank disc has come (R323): the contexts that wait for a spare take theirs. -/
def rbRetry (s : State) : State :=
  forAll (List.range 16) (fun i u =>
    let hd := get u (F.PAR_RB_SET i)
    let first (t : State) : State :=
      let m := get t (F.PAR_RB_STATUS_MEMBER1 i)
      if rbState t i = Rb.waitSpare ∧ get t (F.PAR_RB_SPARES_1 i) = 0x7ff then
        match pickSpare t hd m with
        | some x => put (F.PAR_RB_STATUS_STATE i) Rb.mount (put (F.PAR_RB_SPARES_1 i) x (takeSpare hd m x t))
        | none => t
      else t
    let second (t : State) : State :=
      let m := get t (F.PAR_RB_STATUS_MEMBER2 i)
      if rbRunning t i ∧ rbSecond t i ∧ m ∈ (getSet t hd).failed ∧ get t (F.PAR_RB_SPARES_2 i) = 0x7ff then
        match pickSpare t hd m with
        | some x => putAll [(F.PAR_RB_STATUS_STATE i, if rbState t i = Rb.mount then Rb.mount else Rb.joint), (F.PAR_RB_SPARES_2 i, x),
            (F.PAR_RB_START2 i, get t (F.PAR_RB_CURSOR i))] (takeSpare hd m x t)
        | none => t
      else t
    second (first u)) s

/-! ### Member failure -/

/-- The heads that write for a set end their extents at once (R322): gates close, chunks are dropped. -/
def endWrites (hd : Nat) (s : State) : State :=
  forAll (headsOf s) (fun h u =>
    if (writeOf u h).set = hd ∧ 1 ≤ get u (F.WRP_STATUS_STATE h) ∧ get u (F.WRP_STATUS_STATE h) ≤ 5 then
      put (F.WRP_STATUS_STATE h) 0 (closeGate h (updWrite h (fun w =>
        { w with chunks := [], failed := [], passed := [], recheck := [], waiting := [], closedAt := none, closeReq := false, pos := none,
                 calDone := [] }) u))
    else u) s

/-- An open set that loses a member stops taking rows: sealed without padding, its filling rows moved, its rows in flight damaged, its write
session ended (R322). -/
def openSetStop (hd : Nat) (s : State) : State :=
  let d := getSet s hd
  let s1 := if d.st = 1 then
      sealSet hd (updSet hd (fun e => { e with session := false, due := false }) (endWrites hd s))
    else s
  (d.rows.map Row.ord).foldl (fun u o => rowDamaged hd o u) s1

/-- A disc enters the degraded state (R278). -/
def degradeDisc (dom x : Nat) (s : State) : State :=
  refreshArbours (writeDirectory (updDisc x (fun y => owe dom 3 { y with state := 4 }) s))

/-- The engine declares member m of a set failed (R321 to R328); a degraded disc stays readable. -/
def failMember (hd m : Nat) (degraded : Bool) (s : State) : State :=
  let d := getSet s hd
  let s1 := raise evPAR B.PAR_EVT_MEMBER_FAILED (bump F.PAR_MEMBERS_FAILED 1 (tickContexts s))
  let s4 :=
    if m ∈ d.failed then
      match (List.range 16).find? fun i => decide (get s1 (F.PAR_RB_SET i) = hd) && rbBusy s1 i with
      | some i => if rbState s1 i = Rb.evacuate ∨ (memberSpare s1 hd m).isNone then s1 else spareFails i m s1
      | none => s1
    else
      let s2 := issueNext (putSet hd { d with
        failed := d.failed ++ [m], unread := if degraded then d.unread else m :: d.unread
        failedAt := if d.failed = [] then s.lib.issue else d.failedAt } s1)
      let s3 := openSetStop hd s2
      if 3 ≤ (getSet s3 hd).failed.length then setLost hd s3
      else match (List.range 16).find? fun i => decide (get s3 (F.PAR_RB_SET i) = hd) && decide (rbState s3 i ≠ Rb.done) with
        | some i => if rbState s3 i = Rb.evacuate then s3 else if rbState s3 i = Rb.idle then joinIdle i m s3 else secondFailure i m s3
        | none => rbNext s3
  parStatus (refreshArbours s4)

/-! ### Reconstruction -/

/-- RECONSTRUCTION: member m of row r of a set is rebuilt once every member of the row has been read or is known to be unavailable (R316 to
R320); until then it waits. -/
def execReconstruction (hd r m : Nat) (s : State) : Out :=
  let d := getSet s hd
  let x := d.members.getD m 0
  let erased := rowErased s hd r
  let reads := rowReads s hd r
  let self := selfAddr s x r
  if d.st = 0 ∨ d.width ≤ m ∨ (cleanAt s x r).isSome = true ∨ erasedOf erased m = [] then .next s
  else if r ∈ d.lostRows then .next (releaseRow hd r s)
  else if rowKnown s hd r = false then .next s
  else if badIndexes erased ≠ [] then .next (rowLost hd r s)
  else if reconChecks s hd d.width r m self (homeAddr r) reads erased then
    .next (releaseLost x r (bump F.PAR_RECON_SECTORS 1 (keepClean x r (reconPayload d.width r m self (homeAddr r) reads erased) s)))
  else
    let s1 := raise evPAR B.PAR_EVT_CHECK_FAIL (bump F.PAR_CHECK_FAIL 1
      { s with par := { s.par with doubt := s.par.doubt ++ (erasedOf erased m).map fun c => (hd, r, c) } })
    .next (if badIndexes (rowErased s1 hd r) = [] then s1 else rowLost hd r s1)

/-- MEMBER_FAILED (R278, R321): the disc that stands for a member has failed its mount twice in two bays (kind 0); a head has failed with it in
two bays (1); its loss records exceed DEGRADE_LIM (2), or a side or layer of it has failed (3), which the model is told. The last two put it
into the degraded state, and fail the member only while DEGR_REBUILD is 1. -/
def execMemberFailed (hd m kind : Nat) (s : State) : Out :=
  let d := getSet s hd
  let x := getDisc s (memberDisc s hd m)
  let lim := get s F.ARB_CONS_DEGRADE_LIM
  if d.st = 0 ∨ d.width ≤ m ∨ (m ∈ d.failed ∧ (memberSpare s hd m).isNone = true) ∨ (kind = 0 ∧ x.failRun < 2) ∨ (kind = 1 ∧ x.headBays.length < 2)
      ∨ (kind = 2 ∧ x.losses ≤ lim) ∨ (2 ≤ kind ∧ x.state = 4) ∨ 4 ≤ kind then .next s
  else if kind ≤ 1 then .next (failMember hd m false s)
  else
    let s1 := degradeDisc d.domain (memberDisc s hd m) s
    .next (if isSet s F.PAR_CTRL_DEGR_REBUILD then failMember hd m true s1 else s1)

/-! ### The rebuild -/

/-- The members that a context writes at an ordinal, with their spares (R324, R327). -/
def rbTargets (s : State) (i o : Nat) : List (Nat × Nat) :=
  let d := getSet s (get s (F.PAR_RB_SET i))
  let wrap := decide (rbState s i = Rb.wrap)
  let m1 := get s (F.PAR_RB_STATUS_MEMBER1 i)
  let m2 := get s (F.PAR_RB_STATUS_MEMBER2 i)
  let one := decide (m1 ∈ d.failed) && decide (get s (F.PAR_RB_SPARES_1 i) ≠ 0x7ff)
    && (if wrap then decide (o < mapGet (fun _ => 0) s.par.start1 i) else decide (o < mapGet (fun _ => 2 ^ 64) s.par.have1 i))
  let two := rbSecond s i && decide (m2 ∈ d.failed) && decide (get s (F.PAR_RB_SPARES_2 i) ≠ 0x7ff)
    && (if wrap then decide (o < get s (F.PAR_RB_START2 i)) else decide (get s (F.PAR_RB_START2 i) ≤ o))
  (if one then [(m1, get s (F.PAR_RB_SPARES_1 i))] else []) ++ if two then [(m2, get s (F.PAR_RB_SPARES_2 i))] else []

/-- The payload that a rebuild writes for a member of a row (R324): its own sector where it is still readable and good, else the
reconstructed one, where the checks of R318 pass. -/
def rebuiltPayload (s : State) (hd o m : Nat) : Option (List Nat) :=
  let d := getSet s hd
  let x := d.members.getD m 0
  match (if m ∈ d.unread then none else cleanAt s x o) with
  | some c => some c.payload
  | none =>
    let erased := rowErased s hd o
    if reconChecks s hd d.width o m (homeAddr o) (homeAddr o) (rowReads s hd o) erased then
      some (reconPayload d.width o m (homeAddr o) (homeAddr o) (rowReads s hd o) erased)
    else none

/-- A row of the slot group is rebuilt onto a spare, or lost (R318, R320, R324). On a spare that is read forward (R329), a good slot is
adopted and a bad one goes aside; `fresh` tells that its slot group is blank. -/
def rebuildRow (i : Nat) (fresh : Bool) (o : Nat) (s : State) : State :=
  let hd := get s (F.PAR_RB_SET i)
  (rbTargets s i o).foldl (fun u t =>
    if decide (i ∈ s.par.probing) && !fresh && (cleanAt u t.2 o).isSome then u
    else if o ∈ (getSet u hd).lostRows then u
    else
      let lose (v : State) : State := bump (F.PAR_RB_ROWS_LOST i) 1 (rowLost hd o v)
      if badIndexes (rowErased u hd o) ≠ [] ∧ (t.1 ∈ (getSet u hd).unread ∨ (cleanAt u ((getSet u hd).members.getD t.1 0) o).isNone) then lose u
      else match rebuiltPayload u hd o t.1 with
        | some p => { u with par := { u.par with
            out := u.par.out ++ [⟨t.2, hd, o, t.1, p, decide (i ∈ s.par.probing) && !fresh, false⟩] } }
        | none =>
          let v := raise evPAR B.PAR_EVT_CHECK_FAIL (bump F.PAR_CHECK_FAIL 1 { u with par := { u.par with
            doubt := u.par.doubt ++ (erasedOf (rowErased u hd o) t.1).map fun c => (hd, o, c) } })
          if badIndexes (rowErased v hd o) = [] then v else lose v) s

/-- A spare's slot group as it was read forward (R329): whether it is blank. -/
def groupBlank (s : State) (i : Nat) : Bool :=
  (rbGroup s i).all fun o => (rbTargets s i o).all fun t =>
    (partSectors s).any fun x => decide (x.disc = t.2) && decide (x.ord = o) && decide (x.words = [])

/-- Everything that a slot group's rows need has been read (R324, R329). -/
def groupKnown (s : State) (i : Nat) : Bool :=
  let hd := get s (F.PAR_RB_SET i)
  let d := getSet s hd
  (recordedRows s hd (rbGroup s i)).all (fun o => rowKnown s hd o
      && (d.failed.all fun m => decide (m ∈ d.unread) || (sectorWords s (d.members.getD m 0) o).isSome))
    && (decide (i ∉ s.par.probing) || (rbGroup s i).all fun o => (rbTargets s i o).all fun t => (sectorWords s t.2 o).isSome)

/-- A row whose check failed is tried again before the cursor passes it (R318). -/
def rowDone (s : State) (i o : Nat) : Bool :=
  decide (o ∈ (getSet s (get s (F.PAR_RB_SET i))).lostRows) || (rbTargets s i o).all fun t =>
    (s.par.out.any fun x => decide (x.disc = t.2) && decide (x.ord = o)) || (decide (i ∈ s.par.probing) && (cleanAt s t.2 o).isSome)

/-- REBUILD_SLOT_GROUP: context i writes the slot group at its cursor, once its rows have been read, to the spares (R324 to R329, R335). -/
def execRebuildSlotGroup (i : Nat) (s : State) : Out :=
  let s0 := tickContext i s
  let hd := get s0 (F.PAR_RB_SET i)
  if 16 ≤ i ∨ rbRunning s0 i = false then .next s
  else if rbPaused s0 i then .next s0
  else if mayEvacuate s0 hd then .next (parStatus (startEvacuate i s0))
  else
    let s1 := if rbState s0 i = Rb.mount then raise evPAR B.PAR_EVT_REBUILD_START
        (put (F.PAR_RB_STATUS_STATE i) (if rbSecond s0 i then Rb.joint else Rb.run) s0) else s0
    let group := rbGroup s1 i
    if group = [] ∨ groupKnown s1 i = false then .next s1
    else
      let blank := groupBlank s1 i
      let rows := recordedRows s1 hd group
      let todo := rows.filter fun o => !rowDone s1 i o
      let s2 := todo.foldl (fun u o => rebuildRow i blank o u) s1
      if rows.all (rowDone s2 i) then
        let next := get s1 (F.PAR_RB_CURSOR i) + group.length
        let s3 := if blank then { s2 with par := { s2.par with probing := s2.par.probing.filter (· ≠ i) } } else s2
        let s4 := { put (F.PAR_RB_CURSOR i) next s3 with par := { s3.par with
          rateRows := mapPut s3.par.rateRows i (mapGet (fun _ => 0) s3.par.rateRows i + group.length) } }
        .next (dropClean (fun c => decide (c.ord ∈ group)) (journal (.cursor (131072 + hd) (get s1 (F.PAR_RB_START2 i))) (journal (.cursor hd next) s4)))
      else .next s2

/-- A completed member: the set's disc becomes the spare, the failed disc is retired (R278, R324). -/
def replaceMember (hd m x : Nat) (s : State) : State :=
  let d := getSet s hd
  let s1 := updDisc (d.members.getD m 0) (fun y => owe d.domain 4 { y with state := 5, set := 0xffff }) s
  raise evPAR B.PAR_EVT_REBUILD_DONE (bump F.PAR_REBUILDS_DONE 1
    (putSet hd { d with members := d.members.set m x, failed := d.failed.filter (· ≠ m), unread := d.unread.filter (· ≠ m) }
      (updDisc x (fun y => owe d.domain (if d.st = 1 then 1 else 2) y) s1)))

/-- REBUILD_MEMBER_DONE: context i has rebuilt its last ordinal and every chunk has been verified: the members that are complete take their
place and the failed discs are retired; a member begun at a later ordinal wraps; otherwise the context is freed (R324, R327). -/
def execRebuildMemberDone (i : Nat) (s : State) : Out :=
  let hd := get s (F.PAR_RB_SET i)
  let st := rbState s i
  let wrap := decide (st = Rb.wrap)
  let m1 := get s (F.PAR_RB_STATUS_MEMBER1 i)
  let m2 := get s (F.PAR_RB_STATUS_MEMBER2 i)
  let x1 := get s (F.PAR_RB_SPARES_1 i)
  let x2 := get s (F.PAR_RB_SPARES_2 i)
  let live (m x : Nat) : Bool := decide (m ∈ (getSet s hd).failed) && decide (x ≠ 0x7ff)
  let done1 := live m1 x1 && (wrap || decide (mapGet (fun _ => 0) s.par.start1 i = 0))
  let done2 := rbSecond s i && live m2 x2 && (wrap || decide (get s (F.PAR_RB_START2 i) = 0))
  if 16 ≤ i ∨ ¬(st = Rb.run ∨ st = Rb.joint ∨ st = Rb.wrap) ∨ get s (F.PAR_RB_CURSOR i) < rbLast s i
      ∨ (s.par.out.any fun x => (done1 && decide (x.disc = x1)) || (done2 && decide (x.disc = x2))) = true then .next s
  else
    let s1 := if done1 then replaceMember hd m1 x1 s else s
    let s2 := if done2 then replaceMember hd m2 x2 s1 else s1
    let more := (live m1 x1 && !done1) || (rbSecond s i && live m2 x2 && !done2)
    let s3 := if more then putAll [(F.PAR_RB_STATUS_STATE i, Rb.wrap), (F.PAR_RB_CURSOR i, 0)] s2
      else if (getSet s2 hd).failed = [] then put (F.PAR_RB_STATUS_STATE i) Rb.done s2
      else s2
    .next (parStatus (refreshArbours (rbNext (writeDirectory s3))))

/-! ### Reshaping -/

/-- The blocks of a slot group that its sectors' back-pointers name and that no longer map to their source (R287, R334). -/
def removedBlocks (s : State) (hd : Nat) (rows : List Nat) : Nat :=
  let d := getSet s hd
  (rows.map fun o => ((List.range (d.width - 2)).map fun k =>
    match cleanAt s (d.members.getD (dataMember d.width o k) 0) o with
    | none => 0
    | some c => ((List.range 8).filter fun j =>
        let p := (c.payload.drop (0x100 + 16 * j)).take 16
        decide (ofBytesLE ((p.drop 12).take 2) % 2 = 1)
          && decide (lookup s (ofBytesLE (p.take 4)) (ofBytesLE ((p.drop 4).take 8)) ≠ .disc hd (lbkOf d.width o k j))).length).sum).sum

/-- RESHAPE_CURSOR_ADVANCE: context j copies the live blocks of one source slot group, once they are in the buffer, and records its cursor;
crossing a multiple of RS_CKPT forces a snapshot epoch switch (R333). A resumed context counts the blocks that it finds removed, up to the
first slot group without one (R334). -/
def execReshapeCursorAdvance (j : Nat) (s : State) : Out :=
  let hd := get s (F.PAR_RS_SET j)
  let d := getSet s hd
  let cur := get s (F.PAR_RS_CURSOR j)
  let bs := rsBlocks s j
  if 4 ≤ j ∨ ¬isSet s F.PAR_CTRL_EN ∨ get s (F.PAR_RS_STATUS_STATE j) ≠ 1 ∨ d.nextOrd ≤ cur ∨ (bs.any fun x => (findClean s hd x.2.2).isNone) = true then
    .next s
  else
    let next := min (64 * (cur / 64) + 64) d.nextOrd
    let gone := if j ∈ s.par.resumed then removedBlocks s hd ((List.range (next - cur)).map (cur + ·)) else 0
    let s0 := if j ∈ s.par.resumed ∧ gone = 0 then { s with par := { s.par with resumed := s.par.resumed.filter (· ≠ j) } } else s
    let s1 := bs.foldl (fun u x => match findClean s hd x.2.2 with
      | some c => copyBlock hd (get s (F.PAR_RS_DOMAIN j)) x (cleanValue s hd x.2.2 c) u
      | none => u) (bump (F.PAR_RS_DROPPED j) gone s0)
    let s2 := bump (F.PAR_RS_BLOCKS j) bs.length (put (F.PAR_RS_CURSOR j) next s1)
    let s3 := dropClean (fun c => decide (c.disc ∈ d.members)) (journal (.cursor (65536 + hd) next) s2)
    let step := 1024 * max 1 (get s F.PAR_RS_CKPT_CFG)
    .next (if cur / step < next / step then switchEpoch true (put (F.PAR_RS_CKPT j) (next / step * step) s3) else s3)

/-- A reshape context begins for a set (R333). -/
def startReshape (j hd : Nat) (s : State) : State :=
  let s1 := issueNext (updSet hd (fun d => { d with consAt := s.lib.issue }) s)
  putAll [(F.PAR_RS_STATUS_STATE j, 1), (F.PAR_RS_SET j, hd), (F.PAR_RS_DOMAIN j, (getSet s hd).domain), (F.PAR_RS_CURSOR j, 0),
    (F.PAR_RS_CKPT j, 0), (F.PAR_RS_BLOCKS j, 0), (F.PAR_RS_DROPPED j, 0)] { s1 with par := { s1.par with resumed := s1.par.resumed.filter (· ≠ j) } }

/-- A set has a running reshape context. -/
def reshaping (s : State) (hd : Nat) : Bool :=
  (List.range 4).any fun j => decide (get s (F.PAR_RS_STATUS_STATE j) = 1) && decide (get s (F.PAR_RS_SET j) = hd)

/-- With RESHAPE_AUTO the sealed sets of an older geometry take the free contexts, the lowest handle first (R333). -/
def reshapeAuto (s : State) : State :=
  if isSet s F.PAR_CTRL_RESHAPE_AUTO then
    parStatus (forAll ((s.lib.sets.filter fun p => decide (p.2.st = 2) && decide (p.2.width ≠ get s (F.ARB_AR_CFG_K p.2.domain) + 2) && !p.2.lost
        && decide (p.2.live ≠ 0)).map Prod.fst) (fun hd u =>
      match (List.range 4).find? fun j => decide (get u (F.PAR_RS_STATUS_STATE j) ≠ 1) with
      | some j => if reshaping u hd then u else startReshape j hd u
      | none => u) s)
  else s

/-- RESHAPE_DONE: the source set has emptied and is retired (R306, R333). -/
def execReshapeDone (j : Nat) (s : State) : Out :=
  let hd := get s (F.PAR_RS_SET j)
  if 4 ≤ j ∨ get s (F.PAR_RS_STATUS_STATE j) ≠ 1 ∨ (getSet s hd).live ≠ 0 ∨ (getSet s hd).reads ≠ 0 ∨ (getSet s hd).rows ≠ [] then .next s
  else if pagesHeld s hd ≠ [] then .next (checkpointAgain hd s)
  else .next (reshapeAuto (parStatus (raise evPAR B.PAR_EVT_RESHAPE_DONE (retireSet hd (endContexts hd (put (F.PAR_RS_STATUS_STATE j) 2 s))))))

/-! ### The commands -/

/-- What PAR.CMD and PAR.CMD_STATUS hold after a command was issued (R336, R337). -/
def parCmd (op setH m ctx result used : Nat) (s : State) : State :=
  putAll [(F.PAR_CMD_SET, setH), (F.PAR_CMD_MEMBER, m), (F.PAR_CMD_OP, op), (F.PAR_CMD_CONTEXT, ctx), (F.PAR_CMD_GO, 0),
    (F.PAR_CMD_STATUS_BUSY, 0), (F.PAR_CMD_STATUS_OP, op), (F.PAR_CMD_STATUS_RESULT, result), (F.PAR_CMD_STATUS_CTX, used)] s

/-- FAIL_MEMBER: PAR.CMD with OP 0 and GO declares a member failed (R321, R337); its disc is not read again (log entry 82). -/
def execFailMember (hd m : Nat) (s : State) : Out :=
  let d := getSet s hd
  if d.st = 0 ∨ d.width ≤ m then .next (parCmd 0 hd m 0 1 0 s)
  else if m ∈ d.failed then .next (parCmd 0 hd m 0 2 0 s)
  else
    let s1 := failMember hd m false s
    let i := ((List.range 16).find? fun x => decide (get s1 (F.PAR_RB_SET x) = hd)).getD 0
    .next (parCmd 0 hd m 0 0 i s1)

/-- RESHAPE: PAR.CMD with OP 1 and GO starts a reshape context for a sealed set (R333, R337). -/
def execReshape (hd : Nat) (s : State) : Out :=
  let d := getSet s hd
  if d.st = 0 then .next (parCmd 1 hd 0 0 1 0 s)
  else if reshaping s hd ∨ d.st = 1 ∨ d.lost = true then .next (parCmd 1 hd 0 0 2 0 s)
  else match (List.range 4).find? fun j => decide (get s (F.PAR_RS_STATUS_STATE j) ≠ 1) with
    | none => .next (parCmd 1 hd 0 0 3 0 s)
    | some j => .next (parStatus (parCmd 1 hd 0 0 0 j (startReshape j hd s)))

/-- CANCEL_RESHAPE: PAR.CMD with OP 2 and GO stops a reshape; its copies stay (R337, R339). -/
def execCancelReshape (ctx : Nat) (s : State) : Out :=
  if ctx < 4 ∧ get s (F.PAR_RS_STATUS_STATE ctx) = 1 then .next (parStatus (parCmd 2 (get s F.PAR_CMD_SET) 0 ctx 0 ctx (put (F.PAR_RS_STATUS_STATE ctx) 3 s)))
  else .next (parCmd 2 (get s F.PAR_CMD_SET) 0 ctx 2 0 s)

/-- PAR_CMD_REFUSED: a reserved OP is refused with result 2 (R337). -/
def execParCmdRefused (op : Nat) (s : State) : Out := .next (parCmd op (get s F.PAR_CMD_SET) (get s F.PAR_CMD_MEMBER) 0 2 0 s)

/-- PAR_ENABLE: PAR.CTRL.EN runs or pauses the contexts (R337). -/
def execParEnable (v : Bool) (s : State) : Out := .next (putB F.PAR_CTRL_EN v (tickContexts s))

/-- PAR_CLR_CNT: the counters at 0x040 to 0x068 are cleared (R336, R337). -/
def execParClrCnt (s : State) : Out :=
  .next (clearAll [F.PAR_RECON_SECTORS, F.PAR_CHECK_FAIL, F.PAR_ROWS_LOST, F.PAR_SALVAGED, F.PAR_SETS_LOST,
    F.PAR_MEMBERS_FAILED, F.PAR_SPARES_TAKEN, F.PAR_REBUILDS_DONE, F.PAR_EVACUATIONS] s)

end Sys2Proof.Machine
end

