-- ==== Sys2Proof/Machine/Link.lean ====
section
/-! DEFINITION. The Isapor head link (R58 to R84): upstream superframes and markers, samples, messages, lane faults, training and the
mailbox, and what a downstream superframe holds. The servo tick that sends it stands with the write path; the servo block and the head's
EVENT messages stand with the units they act on. -/

namespace Sys2Proof.Machine

/-! ### The downstream superframe -/

/-- The messages of one downstream superframe that carries `wd` codewords of write data (R67, R71, R72): an ACK due, messages to be sent
again, and queued ones while at most 32 are unacknowledged, packed in order into the message area of codeword 0 and into message
codewords; what finds no place waits. A message that names a superframe keeps its lead over the one that carries it (R75, R77, R80,
R117). -/
def stampMsg (n : Nat) (m : Msg) : Msg :=
  if m.lead = 0 then m
  else
    let cut := m.payload.length - 4
    { m with payload := m.payload.take cut ++ bytesLE 4 (max (ofBytesLE (m.payload.drop cut)) (n + m.lead)) }
def namedSf (ms : List Msg) (ty : Nat) (old : Nat) : Nat :=
  match (ms.filter fun m => decide (m.ty = ty) && decide (m.lead ≠ 0)).getLast? with
  | none => old
  | some m => ofBytesLE (m.payload.drop (m.payload.length - 4))
def sendQueued (n wd : Nat) (k : Link) : Link :=
  let ack : List Msg := match k.ackDue with | none => [] | some q => [{ ty := 0x7f, payload := [q] }]
  let new := ((k.queued.take (32 - k.unacked.length)).zipIdx.map fun p => stampMsg n { p.1 with seq := (k.txSeq + p.2) % 256 })
  let all := ack ++ k.resend ++ new
  let r := packMsgs (606 :: List.replicate (21 - wd) 642) all
  let out := all.length - r.2.length
  let again := min k.resend.length (out - ack.length)
  let sent := new.take (out - ack.length - again)
  let wait := (k.queued.drop sent.length).map (stampMsg (n + 1))
  { k with
    unacked := k.unacked ++ sent
    resend := k.resend.drop again
    queued := wait
    txSeq := (k.txSeq + sent.length) % 256
    idle := if k.unacked = [] then 0 else k.idle + 1
    ackDue := none
    adcCfg := k.adcCfg.map fun c => (c.1, c.2.1, namedSf (sent ++ wait) 2 c.2.2)
    laneCfg := k.laneCfg.map fun c => (c.1, c.2.1, c.2.2.1, namedSf (sent ++ wait) 3 c.2.2.2)
    commitSf := k.commitSf.map fun c => namedSf (sent ++ wait) 5 c
    ds := { k.ds with msgs := r.1 } }

/-- Bytes 0 to 35 of codeword 0, and codeword 12 (R67). -/
def controlBytes (d : DsBlock) : List Nat :=
  bytesLE 4 d.sf ++ d.early.flatMap (fun x => bytesLE 2 (ofSigned 16 x)) ++ [d.earlyHold, d.laser] ++ bytesLE 4 d.wrNco
    ++ bytesLE 2 (ofSigned 16 d.wrPhase) ++ bytesLE 2 d.wrBits ++ bytesLE 2 d.openT ++ bytesLE 2 d.closeT ++ List.replicate 12 0
def lateBytes (d : DsBlock) : List Nat := bytesLE 4 d.sf ++ d.late.flatMap (fun x => bytesLE 2 (ofSigned 16 x)) ++ [d.lateHold]

/-- The codewords that the write data of a superframe take (R67). -/
def dataWords (bits : Nat) : Nat := (32 * bits + 5135) / 5136

/-- Groups of 32 channel bits, D0 first, as the bytes of successive codewords (R67). -/
def groupBytes : Nat → List Bool → List (List Nat)
  | 0, _ => []
  | n + 1, l => bytesOfBits 642 (l.take 5136 ++ List.replicate (5136 - l.length) false) :: groupBytes n (l.drop 5136)
def dataBytes (d : DsBlock) (data : List Nat) : List (List Nat) :=
  groupBytes (dataWords d.wrBits) (data.flatMap fun g => (List.range 32).map fun k => decide (bitOf g k = 1))

/-- The 23 codewords of a downstream superframe with their types (R61, R67): the control block, write data from codeword 1 upward, then
messages, then idle, and the late setpoints in codeword 12. -/
def downstreamWords (d : DsBlock) (data : List Nat) : List (Nat × List Nat) :=
  let text (ms : List Msg) : List Nat := ms.flatMap msgBytes
  let body := (dataBytes d data).map (fun b => (2, b))
    ++ ((d.msgs.drop 1).map fun ms => if ms = [] then (0, []) else (3, padTo 642 (text ms)))
  let words := body ++ List.replicate (21 - body.length) (0, [])
  (1, padTo 642 (controlBytes d ++ text (d.msgs.headD []))) :: words.take 11 ++ [(4, padTo 642 (lateBytes d))] ++ (words.drop 11).take 10

/-- The symbols of a downstream superframe with its write data (R59 to R61). -/
def downstreamSymbols (d : DsBlock) (data : List Nat) : List Nat := superframeSymbols dsA (dsLen d.sf) (downstreamWords d data)

/-! ### Upstream -/

/-- UPSTREAM_SUPERFRAME (R59 to R61, R77, R78): the symbols of one lane from the place where R59 predicts its marker. Markers in two
superframes in a row lock the lane; a locked lane's codewords are corrected and descrambled, corrected symbols and uncorrectable codewords
counted, and a codeword of a type that its place does not have counts as a protocol error and idle. -/
def execUpstreamSuperframe (h lane : Nat) (syms : List Nat) (s : State) : Out :=
  let st := get s (F.HL_STATUS_STATE h)
  if headInst s h = false ∨ st < 3 ∨ 5 < st then .next s
  else
    let t := tick s
    let k := linkOf s h
    let marker := decide (syms.take 32 = markerOf (laneA lane))
    let hits := mapGet (fun _ => 0) k.hits lane
    let locked := if marker = true ∧ 1 ≤ hits ∧ lane ∉ k.locked then lane :: k.locked else k.locked
    let words := if lane ∈ locked then readWords usWords syms else []
    let uncorr := (words.filter fun w => w.isNone).length
    let wrong := (words.zipIdx.filter fun w => w.1.any fun x => reservedUp w.2 x.1).length
    let rx := words.zipIdx.map fun w => w.1.map fun x => if reservedUp w.2 x.1 then (0, []) else (x.1, x.2.1)
    let s1 := updLink h (fun (k : Link) =>
      { k with
        miss := mapPut k.miss lane (if marker then 0 else mapGet (fun _ => 0) k.miss lane + 1)
        hits := mapPut k.hits lane (if marker then hits + 1 else 0)
        locked := locked
        rx := mapPut k.rx lane rx
        bad := (k.bad ++ List.replicate uncorr (lane, t)).filter fun b => decide (t < b.2 + 16)
        proto := k.proto + wrong }) s
    .next (lanesUp h (bump (F.HL_CORR_SYM h lane) ((words.filterMap fun w => w.map fun x => x.2.2).sum)
      (bump (F.HL_UNCORR h lane) uncorr s1)))

/-- MARKER_LOSS (R60): four consecutive misses. With no lane left the link retrains (R79); before ACTIVE, fewer than three
aligned lanes fail the training (R75). -/
def execMarkerLoss (h lane : Nat) (s : State) : Out :=
  let st := get s (F.HL_STATUS_STATE h)
  if headInst s h = false ∨ st < 3 ∨ 5 < st ∨ mapGet (fun _ => 0) (linkOf s h).miss lane < 4 then .next s
  else
    let s1 := lanesUp h (updLink h (fun (k : Link) =>
      { k with locked := k.locked.filter (· ≠ lane), lost := if lane ∈ k.lost then k.lost else lane :: k.lost }) s)
    let k := linkOf s1 h
    if st = 5 then
      if (lanesInUse k).all (fun l => decide (l ∈ k.lost)) then .next (setLink h 1 s1) else .next s1
    else if ((lanesInUse k).filter fun l => decide (l ∉ k.lost)).length < 3 then .next (trainFail h s1) else .next s1

/-- LANE_FAULT (R77): marker loss, or 8 uncorrectable codewords within 16 superframes. -/
def execLaneFault (h lane : Nat) (s : State) : Out :=
  let k := linkOf s h
  let bad := (k.bad.filter fun b => decide (b.1 = lane)).length
  if headInst s h = false ∨ get s (F.HL_STATUS_STATE h) ≠ 5 ∨ lane ∉ lanesInUse k ∨ (lane ∉ k.lost ∧ bad < 8) then .next s
  else
    let s1 := raise (evHL h) B.HL_EVT_LANE_FAULT (updLink h (fun k => { k with out := lane :: k.out }) s)
    if (lanesInUse (linkOf s1 h)).length < 3 then
      .next (setLink h 1 (closeWindow Dom.headPort h 2 s1))
    else if isSet s (F.HL_CTRL_AUTO_DEGRADE h) then
      .next (sendLane h 1 lane lane (openWindow Dom.headPort h h s1))
    else
      .next (permits h (abandonSlots h (fun o => decide (o.beam / 8 = lane)) (updLink h (fun k => { k with kept := some lane }) s1)))

/-- LANE_MAP_SWITCH (R62, R77, R82): the superframe a LANE_CFG named has come. -/
def execLaneMapSwitch (h : Nat) (s : State) : Out :=
  match (linkOf s h).laneCfg with
  | none => .next s
  | some (mode, lane, group, sf) =>
    if headInst s h = false ∨ tick s < sf then .next s
    else
      let s1 := putAll [(F.HL_STATUS_DEGRADED h, mode), (F.HL_STATUS_FAILED_LANE h, lane), (F.HL_STATUS_GROUP h, group)]
        (updLink h (fun k => { k with laneCfg := none, kept := none }) s)
      let s2 := if mode = 1 then abandonSlots h (fun o => decide (o.beam / 8 = group)) s1 else s1
      .next (permits h (closeWindow Dom.headPort h 0
        (takeForce (F.HL_CTRL_DEGR_GROUP h) (raise (evHL h) B.HL_EVT_DEGRADE_DONE s2))))

/-- The data beams and servo beams a lane carries, in the order of R64: data beams by index, then S0 (32) and S1 (33). -/
def laneBeams (s : State) (h lane : Nat) : List Nat :=
  if isSet s (F.HL_STATUS_DEGRADED h) then
    let ls := (List.range 4).filter fun l => decide (l ≠ get s (F.HL_STATUS_FAILED_LANE h))
    let gs := (List.range 4).filter fun g => decide (g ≠ get s (F.HL_STATUS_GROUP h))
    match ls.idxOf? lane with
    | none => []
    | some i =>
      ((List.range 8).map fun j => 8 * gs.getD i 0 + j) ++ (if i = 0 then [32] else if i = 1 then [33] else [32, 33])
  else ((List.range 8).map fun j => 8 * lane + j) ++ [32 + lane % 2]

/-- A sample from its bits (R63, R104): the saturation code is an erased sample. -/
def sampleOf (w : Nat) (l : List Bool) : Option Int :=
  let v := ofBitsMsb l
  if v = 2 ^ (w - 1) then none else some (toSigned w v)

/-- The codewords that the sample groups of a superframe take on a lane (R64). -/
def sampleWords (groups beams w : Nat) : Nat := (groups * beams * w + 5135) / 5136

/-- The samples of codeword k of a lane put into the beams' places (R64): 5,136 bits hold a whole number of samples of either format. -/
def putSamples (w nS : Nat) (beams : List Nat) (from' : Nat) (bits : List Bool) (m : Map (List (Option Int))) : Map (List (Option Int)) :=
  (List.range (bits.length / w)).foldl (fun m j =>
    let g := (from' + j) / max 1 beams.length
    let b := beams.getD ((from' + j) % max 1 beams.length) 0
    if nS ≤ g then m
    else mapPut m b ((mapGet (fun _ => List.replicate nS none) m b).set g (sampleOf w ((bits.drop (j * w)).take w)))) m

/-- SAMPLE_CODEWORD (R63, R64, R78, R104, R121): codeword k (1 to 46) of a lane's superframe is unpacked into beam samples while the
channel is enabled and the controller does not rest in Poised, where samples are discarded (R520); the samples of an uncorrectable codeword stay erased, unless another lane brings them. -/
def execSampleCodeword (h lane k : Nat) (s : State) : Out :=
  if headInst s h = false ∨ get s (F.HL_STATUS_STATE h) ≠ 5 ∨ isSet s (F.CH_CTRL_EN h) = false ∨ get s F.PWR_STATUS_STATE = 1 ∨ lane ∉ lanesInUse (linkOf s h) then .next s
  else
    let l := linkOf s h
    let w := if get s (F.CH_FRET_FMT h) = 1 then 8 else 6
    let beams := laneBeams s h lane
    if k = 0 ∨ sampleWords l.nS beams.length w < k then .next s
    else
      let blank (m : Map (List (Option Int))) : Map (List (Option Int)) :=
        beams.foldl (fun m b => mapPut m b (mapGet (fun _ => List.replicate l.nS none) m b)) m
      let bits := match (mapGet (fun _ => []) l.rx lane).getD k none with
        | some (2, bytes) => bitsOfBytes bytes
        | _ => []
      .next (updLink h (fun (l : Link) =>
        { l with samples := putSamples w l.nS beams ((k - 1) * (5136 / w)) bits (blank l.samples) }) s)

/-- Messages enter the inbox behind those of the same or an earlier lane and codeword of the superframe (R71). -/
def fileMsgs (key : Nat) (ms : List Msg) (box : List (Nat × Msg)) : List (Nat × Msg) :=
  box.filter (fun x => decide (x.1 ≤ key)) ++ ms.map (fun m => (key, m)) ++ box.filter (fun x => decide (key < x.1))

/-- MESSAGE_CODEWORD (R65, R71): the messages of codeword k of a lane, in the message area of a servo block or in a message codeword,
enter the inbox by superframe, lane and codeword; each area is read once. -/
def execMessageCodeword (h lane k : Nat) (s : State) : Out :=
  let l := linkOf s h
  let words := mapGet (fun _ => []) l.rx lane
  if headInst s h = false ∨ get s (F.HL_STATUS_STATE h) < 3 ∨ 5 < get s (F.HL_STATUS_STATE h) ∨ 4 ≤ lane ∨ usWords ≤ k then .next s
  else match words.getD k none with
    | some (ty, bytes) =>
      if (ty = 1 ∧ k = 0) ∨ ty = 3 then
        let skip := if ty = 1 then 36 else 0
        .next (updLink h (fun l =>
          { l with
            rx := mapPut l.rx lane (words.set k (some (ty, bytes.take skip)))
            inbox := fileMsgs (256 * tick s + 64 * lane + k) (splitMsgs 161 (bytes.drop skip)) l.inbox }) s)
      else .next s
    | none => .next s

/-- The message at the front of a link's inbox, if its TYPE satisfies a test. -/
def frontMsg (s : State) (h : Nat) (p : Nat → Bool) : Option Msg :=
  match (linkOf s h).inbox with
  | [] => none
  | m :: _ => if headInst s h && p m.2.ty then some m.2 else none

/-- The front message leaves the inbox under R72. In sequence it is accepted and acknowledged and `act` follows; any other is
discarded, and re-acknowledged when its SEQ lies within the previous 32. -/
def takeMsg (h : Nat) (m : Msg) (act : State → State) (s : State) : State :=
  let k := linkOf s h
  let s1 := updLink h (fun k => { k with inbox := k.inbox.drop 1 }) s
  if m.seq = k.rxSeq then
    act (updLink h (fun k => { k with rxSeq := (k.rxSeq + 1) % 256, ackDue := some m.seq }) s1)
  else if (k.rxSeq + 256 - m.seq % 256) % 256 ≤ 32 then
    updLink h (fun k => { k with ackDue := some ((k.rxSeq + 255) % 256) }) s1
  else s1

/-- ACK (R72): every message up to the acknowledged SEQ leaves the unacknowledged list, and progress is made. -/
def execAck (h : Nat) (s : State) : Out :=
  match frontMsg s h (fun t => decide (t = 0x7f)) with
  | none => .next s
  | some m =>
    let q := m.payload.headD 0
    .next (updLink h (fun (k : Link) =>
      match k.unacked.findIdx? fun x => decide (x.seq = q) with
      | none => { k with inbox := k.inbox.drop 1 }
      | some i => { k with inbox := k.inbox.drop 1, unacked := k.unacked.drop (i + 1), retx := 0, idle := 0,
                           resend := k.resend.filter fun x => decide (x ∈ k.unacked.drop (i + 1)) }) s)

/-- The stated limits of an IDENT payload (R74): 34 beams, format 0, D_S at most 100 ns, marker delay at most 90 ns, a write
FIFO of at least 8,192 channel bits. -/
def identOkBytes (p : List Nat) : Bool :=
  decide (p.length = 24) && decide (p.getD 5 0 = 34) && decide (bitOf (p.getD 6 0) 0 = 1) && decide (p.getD 7 0 ≤ 100)
    && decide (p.getD 8 0 ≤ 90) && decide (8192 ≤ p.getD 12 0 + 256 * p.getD 13 0)

/-- The first 16 bytes of an IDENT payload as four register words. -/
def identWords (p : List Nat) (i : Nat) : Nat := ofBytesLE ((p.drop (4 * i)).take 4)

/-- IDENT (R74): the payload enters HL.IDENT; a head that breaks a limit is refused. -/
def execIdent (h : Nat) (s : State) : Out :=
  match frontMsg s h (fun t => decide (t = 0x81)) with
  | none => .next s
  | some m =>
    .next (takeMsg h m (fun s =>
      if get s (F.HL_STATUS_STATE h) ≠ 4 then s
      else
        let p := m.payload
        let ok := identOkBytes p
        let s1 := putB (F.HL_STATUS_IDENT_VALID h) ok
          (putAll ((List.range 4).map fun i => (F.HL_IDENT h i, identWords p i))
            (updLink h (fun k => { k with ident := p, identOk := ok }) s))
        if ok then s1 else raise (evHL h) B.HL_EVT_TRAIN_FAIL (setLink h 6 s1)) s)

/-- PONG (R73): the token of a PING returns. -/
def execPong (h : Nat) (s : State) : Out :=
  match frontMsg s h (fun t => decide (t = 0x87)) with
  | none => .next s
  | some m => .next (takeMsg h m (updLink h fun k => { k with pong := some (ofBytesLE (m.payload.take 4)) }) s)

/-- MBOX_DELIVER (R81): while RX_FULL is 0 the oldest queued message moves into HL.MBOX_RX. -/
def deliver (h : Nat) (s : State) : State :=
  let k := linkOf s h
  match k.rxq with
  | [] => put (F.HL_MBOX_CTRL_RX_QUEUE h) 0 s
  | m :: ms =>
    if isSet s (F.HL_MBOX_CTRL_RX_FULL h) then put (F.HL_MBOX_CTRL_RX_QUEUE h) k.rxq.length s
    else
      let words := ((F.HL_MBOX_RX h 0), m.ty + 256 * m.payload.length + 65536 * m.seq) ::
        (List.range 63).map fun i => (F.HL_MBOX_RX h (i + 1), ofBytesLE ((m.payload.drop (4 * i)).take 4))
      raise (evHL h) B.HL_EVT_MBOX_RX (put (F.HL_MBOX_CTRL_RX_QUEUE h) ms.length (put (F.HL_MBOX_CTRL_RX_FULL h) 1
        (putAll words (updLink h (fun k => { k with rxq := ms, fullSince := none }) s))))

/-- Whether a TYPE is firmware defined on the way up (R73). -/
def fwType (t : Nat) : Bool := decide (0x90 ≤ t) && decide (t ≤ 0xef)

/-- FIRMWARE_MESSAGE (R81): accepted while the receive queue has room; a message that finds it full is not accepted. -/
def execFirmwareMessage (h : Nat) (s : State) : Out :=
  match frontMsg s h fwType with
  | none => .next s
  | some m =>
    if m.seq = (linkOf s h).rxSeq ∧ 16 ≤ (linkOf s h).rxq.length then
      .next (updLink h (fun k => { k with inbox := k.inbox.drop 1 }) s)
    else .next (takeMsg h m (fun t => deliver h (updLink h (fun (k : Link) =>
      { k with rxq := k.rxq ++ [m], fullSince := if k.rxq.length = 15 then some (now t) else k.fullSince }) t)) s)

/-- UNKNOWN_MESSAGE (R72): acknowledged and counted, without action. -/
def execUnknownMessage (h : Nat) (s : State) : Out :=
  match frontMsg s h (fun t => !(fwType t || decide (t ∈ [0x7f, 0x81, 0x82, 0x87]))) with
  | none => .next s
  | some m => .next (takeMsg h m (bump (F.HL_MSG_STAT_UNKNOWN h) 1) s)

/-- MESSAGE_RETRANSMIT (R72): 8 superframes without progress send all unacknowledged messages again, oldest first. MSG_STAT counts each
message sent again (DESIGN CHOICE, log entry 73: R80 says "retransmissions" and not whether of messages or of events). -/
def execMessageRetransmit (h : Nat) (s : State) : Out :=
  let k := linkOf s h
  if headInst s h = false ∨ k.unacked = [] ∨ k.idle < 8 ∨ 4 ≤ k.retx then .next s
  else .next (bump (F.HL_MSG_STAT_RETX h) k.unacked.length (updLink h (fun k => { k with retx := k.retx + 1, idle := 0, resend := k.unacked }) s))

/-- MSG_FAIL (R72): 8 superframes after the fourth retransmission without progress the link retrains. -/
def execMsgFail (h : Nat) (s : State) : Out :=
  let k := linkOf s h
  if headInst s h = false ∨ k.unacked = [] ∨ k.idle < 8 ∨ k.retx < 4 then .next s
  else .next (setLink h 1 (raise (evHL h) B.HL_EVT_MSG_FAIL s))

/-- HL_ENABLE (R82): EN permits training; writing 0 returns the link to OFF at once. -/
def execHlEnable (h en : Nat) (s : State) : Out :=
  if headInst s h = false then .next s
  else
    let s1 := put (F.HL_CTRL_EN h) en s
    if en % 2 = 0 then .next (setLink h 0 s1) else .next s1

/-- HL_TRAIN (R75, R82): training starts or restarts while EN is 1; without EN the write has no effect. -/
def execHlTrain (h : Nat) (s : State) : Out :=
  if headInst s h = false ∨ get s (F.HL_CTRL_EN h) = 0 then .next s
  else .next (setLink h 1 (updLink h (fun k => { k with fails := 0, retrained := true }) (unitReset s)))

/-- LASER_PERMIT (R76, R82): 0 forces LASER_MODE 0, and write permit falls (R153). -/
def execLaserPermit (h v : Nat) (s : State) : Out :=
  if headInst s h = false then .next s
  else
    let s1 := put (F.HL_CTRL_LASER_PERMIT h) v s
    .next (permits h (if v % 2 = 0 then updLink h (fun k => { k with laser := 0, ds := { k.ds with laser := 0 } }) s1 else s1))

/-- HL_CLR_CNT (R82): the link's counters and the latency peak. -/
def execHlClrCnt (h : Nat) (s : State) : Out :=
  if headInst s h = false then .next s
  else .next (clearAll ([F.HL_DS_ERR h, F.HL_SERVO_CNT_MISS h, F.HL_SERVO_CNT_MISMATCH h, F.HL_LAT_PEAK h, F.HL_MSG_STAT_RETX h,
    F.HL_MSG_STAT_UNKNOWN h, F.HL_HEAD_EVT_COUNT h] ++ (List.range 4).map (F.HL_CORR_SYM h) ++ (List.range 4).map (F.HL_UNCORR h)) s)

/-- DEGR_GROUP (R82): in the degraded map the write sends LANE_CFG; in the normal map it sends nothing. -/
def execDegrGroup (h group : Nat) (s : State) : Out :=
  if headInst s h = false then .next s
  else
    let s1 := put (F.HL_CTRL_DEGR_GROUP h) group s
    if isSet s (F.HL_STATUS_DEGRADED h) then .next (sendLane h 1 (get s (F.HL_STATUS_FAILED_LANE h)) (group % 4) s1) else .next s1

/-- HL_ADC_WRITE (R80): ADC_CFG with the written values, 24 superframes of lead. -/
def execHlAdcWrite (h rate fmt : Nat) (s : State) : Out :=
  if headInst s h = false then .next s
  else .next (sendAdc h (rate % 512) (fmt % 2) 24 (put (F.HL_ADC_FMT h) fmt (put (F.HL_ADC_N h) rate s)))

/-- PRBS_SEEN (R75): the bits of an upstream lane are PRBS31. -/
def execPrbsSeen (h : Nat) (bits : List Bool) (s : State) : Out :=
  if headInst s h = false ∨ get s (F.HL_STATUS_STATE h) ≠ 1 ∨ isPrbs31 bits = false then .next s else .next (setLink h 2 s)

/-- The time a training state may take, in reference periods (R75): 20, 50, 5 and 5 ms. -/
def trainLimit (st : Nat) : Nat := if st = 1 then 3125000 else if st = 2 then 7812500 else 781250
def trainLate (s : State) (h : Nat) : Bool :=
  decide (trainLimit (get s (F.HL_STATUS_STATE h)) ≤ now s - (linkOf s h).stateAt)

/-- LANES_QUALIFIED (R75): a lane qualifies with at most 10 bit errors in 10^9 bits; four lanes qualify, or three once the timeout has
passed. -/
def execLanesQualified (h : Nat) (errs : List Nat) (s : State) : Out :=
  let q := (List.range 4).filter fun l => decide (errs.getD l 11 ≤ 10)
  if headInst s h = false ∨ get s (F.HL_STATUS_STATE h) ≠ 2 ∨ (q.length < 4 ∧ ¬(trainLate s h = true ∧ q.length = 3)) then .next s
  else .next (setLink h 3 (updLink h (fun k => { k with qual := q }) s))

/-- Entry to IDENT (R75): IDENT_REQ, ADC_CFG with the values of HL.ADC 24 superframes ahead, and with three lanes LANE_CFG
for the lane that did not qualify. -/
def enterIdent (h : Nat) (s : State) : State :=
  let s1 := sendAdc h (get s (F.HL_ADC_N h)) (get s (F.HL_ADC_FMT h)) 24 (sendMsg h 1 [] (setLink h 4 s))
  match (List.range 4).filter fun l => decide (l ∉ (linkOf s h).qual) with
  | [l] => sendLane h 1 l l s1
  | _ => s1

/-- ALIGN_LOCKED (R75): the skews of the lanes in symbol times, relative to the earliest; a lane beyond 16 ns (170 symbol times) counts as
not qualified, and fewer than three fail the training; IDENT is entered once every qualified lane is locked. -/
def execAlignLocked (h : Nat) (skews : List Nat) (s : State) : Out :=
  if headInst s h = false ∨ get s (F.HL_STATUS_STATE h) ≠ 3 then .next s
  else
    let ok := (linkOf s h).qual.filter fun l => decide (skews.getD l 0 ≤ 170)
    let s1 := put (F.HL_SKEW h) (ofBytesLE ((List.range 4).map fun l => min 255 (skews.getD l 0))) s
    if ok.length < 3 then .next (trainFail h s1)
    else if ok.all (fun l => decide (l ∈ (linkOf s h).locked)) = false then .next (updLink h (fun k => { k with qual := ok }) s1)
    else .next (enterIdent h (lanesUp h (updLink h (fun k => { k with qual := ok }) s1)))

/-- IDENT_CONFIG_IN_FORCE (R75): a valid IDENT and every configuration message in force make the link ACTIVE. -/
def execIdentConfigInForce (h : Nat) (s : State) : Out :=
  let k := linkOf s h
  if headInst s h = false ∨ get s (F.HL_STATUS_STATE h) ≠ 4 ∨ k.identOk = false ∨ k.adcCfg ≠ none ∨ k.laneCfg ≠ none then .next s
  else
    let s1 := setLink h 5 (put (F.HL_SF_CNT h) 0 (updHead h (fun (x : Head) =>
      { x with link := { x.link with fails := 0 }, ch := { x.ch with askedFret := none } }) s))
    .next (leaveOff h (if k.qual.length = 4 ∧ k.retrained = true then unexpose Dom.headPort h s1 else s1))

/-- TRAINING_TIMEOUT (R75): a training state's time has passed. -/
def execTrainingTimeout (h : Nat) (s : State) : Out :=
  let st := get s (F.HL_STATUS_STATE h)
  if headInst s h = false ∨ st < 1 ∨ 4 < st ∨ trainLate s h = false then .next s else .next (trainFail h s)

/-- MBOX_SEND (R73, R80): the message in HL.MBOX_TX is queued; the controller supplies SEQ. The mailbox takes the firmware-defined TYPEs 0x10
to 0x6f; that it takes HEAD_RESET and PING too, which nothing else sends, and no other TYPE, is a DESIGN CHOICE (log entry 73). -/
def mailType (t : Nat) : Bool := (decide (0x10 ≤ t) && decide (t ≤ 0x6f)) || decide (t = 6) || decide (t = 7)
def execMboxSend (h : Nat) (s : State) : Out :=
  if headInst s h = false ∨ mailType (get s (F.HL_MBOX_TX h 0) % 256) = false then .next s
  else
    let w := get s (F.HL_MBOX_TX h 0)
    let body := ((List.range 63).map fun i => bytesLE 4 (get s (F.HL_MBOX_TX h (i + 1)))).flatten
    .next (sendMsg h (w % 256) (body.take (min 252 (w / 256 % 256))) s)

/-- MBOX_RX_CLEAR (R81): firmware has read the message; the next one is delivered. -/
def execMboxRxClear (h : Nat) (s : State) : Out :=
  if headInst s h = false then .next s else .next (deliver h (put (F.HL_MBOX_CTRL_RX_FULL h) 0 s))

/-- MBOX_STALL (R81): the queue has stayed full for 8 ms, 1,250,000 reference periods. -/
def execMboxStall (h : Nat) (s : State) : Out :=
  match (linkOf s h).fullSince with
  | none => .next s
  | some t => if headInst s h = true ∧ t + 1250000 ≤ now s then .next (raise (evHL h) B.HL_EVT_MBOX_STALL s) else .next s

end Sys2Proof.Machine
end

