-- ==== Sys2Proof/Machine/WritePath.lean ====
section
/-! DEFINITION. The write path: formatting, extents, the write gate, calibration, verify and spares (R45, R46, R53, R55, R152 to
R172). -/

namespace Sys2Proof.Machine

/-- A block of a row's data slot, where the row carries one. -/
def slotBlock (r : Row) (d j : Nat) : Option Block := r.blocks[8 * d + j]?

/-- Bytes 0x100 to 0x1ff of a data member: its back-pointers (R45). -/
def memberPart (r : Row) (d : Nat) : List Nat :=
  ((List.range 8).flatMap fun j =>
    match slotBlock r d j with
    | some b => bytesLE 4 b.nsid ++ bytesLE 8 b.lba ++ [1, 0, 0, 0]
    | none => List.replicate 12 0 ++ [2, 0, 0, 0]) ++ List.replicate 128 0

/-- Bytes 0x100 to 33,279 of the data member of slot d: the member part and the user bytes, padding blocks zero. -/
def dataRegion (s : State) (r : Row) (d : Nat) : List Nat :=
  memberPart r d ++ (List.range 8).flatMap fun j =>
    match slotBlock r d j with
    | some b => bytesLE 4096 (bufPeekPage s b.page)
    | none => List.replicate 4096 0

/-- The same bytes of any member of a row: data, or P or Q over the data members (R46, R313). -/
def memberRegion (s : State) (w : Nat) (r : Row) (m : Nat) : List Nat :=
  match slotOfMember w r.ord m with
  | some d => dataRegion s r d
  | none =>
    let cols := (List.range (w - 2)).map (dataRegion s r)
    let col (i : Nat) : List Nat := cols.map fun c => c.getD i 0
    (List.range 33024).map fun i => if m = pMember w r.ord then synP (col i) else synQ 0 (col i)

/-- The common part of a row's sector, 256 bytes (R45). -/
def commonPart (d : DiscSet) (r : Row) (m home addr : Nat) : List Nat :=
  let w := d.width
  let parts := ((List.range w).filterMap (slotOfMember w r.ord)).flatMap (memberPart r)
  let flags := (if addr ≠ home then 1 else 0) + (if r.pad ≠ 0 then 2 else 0) + (if r.fua then 4 else 0)
  bytesLE 2 (sectType w r.ord m) ++ [3, flags] ++ bytesLE 4 addr ++ bytesLE 4 home ++ bytesLE 4 0 ++ bytesLE 16 d.setId
    ++ bytesLE 8 r.wstamp ++ [m, w, pMember w r.ord, qMember w r.ord] ++ bytesLE 2 r.stream ++ bytesLE 2 r.pad ++ bytesLE 8 r.ord
    ++ bytesLE 8 r.stampFirst ++ bytesLE 8 r.stampLast ++ bytesLE 8 (r.durAt.getD (2 ^ 64 - 1)) ++ bytesLE 8 (crc64 parts)
    ++ bytesLE 2 d.domain ++ List.replicate 166 0

/-- The member index of the disc in a head's bay. -/
def memberOf (s : State) (h : Nat) : Nat :=
  match discOfHead s h with | none => 0 | some d => (getDisc s d).member

/-- The rows of an extent on a head's side with their home slots (R48, R49, R152), in ascending physical address. -/
def extentSlots (h layer fret first bands : Nat) : List Nat :=
  (List.range bands).flatMap fun i => (List.range 32).flatMap fun t => (List.range (12 + fret)).map fun sl =>
    physAddr (h % 2) layer (first + i) t sl

/-- DURABLE_ROW (R45, R166): the end of the contiguous prefix of durable rows. -/
def durablePrefix (d : DiscSet) : Nat :=
  match ((List.range d.nextOrd).takeWhile fun o => decide (o ∈ d.durable)).length with
  | 0 => 2 ^ 64 - 1
  | n + 1 => n

/-- The rebuilt chunk that a head's disc takes at an ordinal (R324). -/
def rebuiltAt (s : State) (h o : Nat) : Option RebuiltChunk :=
  s.par.out.find? fun x => decide (some x.disc = discOfHead s h) && decide (x.ord = o)

/-- The payload of the chunk of a row for an address: metadata, user bytes, CRC-64 and zeros (R40, R45, R155); a rebuilt one gets its addresses
and CRC-64 from the formatter too (R324). A chunk of a row that is no longer held has none. -/
def chunkBody (s : State) (h hd o home addr : Nat) : Option (List Nat) :=
  let d := getSet s hd
  match d.rows.find? fun r => decide (r.ord = o) with
  | some r => some (sealPayload (commonPart d r (memberOf s h) home addr ++ memberRegion s d.width r (memberOf s h)))
  | none => (rebuiltAt s h o).map fun x => sealPayload (setAddrs (x.payload.take 256) addr home ++ (x.payload.drop 256).take 33024)
def chunkPayload (s : State) (h : Nat) (c : Chunk) : Option (List Nat) := chunkBody s h c.set c.row c.home c.addr

/-- A chunk as the formatter writes it at an address: its CRC-64 field and WRITE_STAMP are what the verify expects (R155, R165). -/
def formatChunk (s : State) (h hd o home addr : Nat) : Option Chunk :=
  (chunkBody s h hd o home addr).map fun p =>
    ⟨hd, o, home, addr, ofBytesLE ((p.drop 33280).take 8), ofBytesLE ((p.drop 0x20).take 8)⟩

/-- The pulse table that a head's write on a side, layer and fret uses before compensation (R55, R164): the latest calibration
result there or of the nearest fret, else the tablature's. -/
def nearFrets (f : Nat) : List Nat := f :: ((List.range 20).flatMap fun i => [f + i + 1] ++ (if i + 1 ≤ f then [f - (i + 1)] else [])).filter (· < 20)
def calResult (s : State) (h layer fret : Nat) : Option Nat :=
  match discOfHead s h with
  | none => none
  | some d => ((nearFrets fret).filterMap fun f => mapFind (getDisc s d).calResults (calKeyOf (h % 2) layer f)).head?
def baseTable (s : State) (h layer fret : Nat) : List Nat :=
  match calResult s h layer fret with
  | some v => fret :: (((bytesLE 152 v).drop 17).take 135)
  | none => tabPulse s fret

/-- A table with its write power scaled for the laser's temperature (R161): P_W × (1 + TCOMP × (LASER_T − TCAL)). -/
def setPw (t : List Nat) (pw : Nat) : List Nat := (t.set 2 (pw % 256)).set 3 (pw / 256 % 256)
def compTable (s : State) (h : Nat) (t : List Nat) : List Nat :=
  let pw := ofBytesLE ((t.drop 2).take 2)
  let tcal := toSigned 16 (ofBytesLE ((t.drop 8).take 2))
  let k : Int := 4194304 + getI s (F.WRP_TCOMP h) * (getI s (F.HL_TELEM0_LASER_T h) - tcal)
  setPw t (min 65535 (roundQuot (pw * k) 4194304).toNat)

/-- The runs of bytes in which two tables differ, as (offset, data). -/
def changedRuns : Nat → List Nat → List Nat → List (Nat × List Nat)
  | _, _, [] => []
  | o, old, b :: bs =>
    let rest := changedRuns (o + 1) (old.drop 1) bs
    if old.head? = some b then rest
    else match rest with
      | (p, ds) :: more => if p = o + 1 then (o, b :: ds) :: more else (o, [b]) :: rest
      | [] => [(o, [b])]

/-- A pass of recording: calibration, an extent or a spare band. -/
def recording (s : State) (h : Nat) : Bool := decide (get s (F.WRP_STATUS_STATE h) ∈ [1, 2, 4])

/-- Whether a condition of R168 holds: tracking, focus or position error, a laser fault, or no write permit. -/
def gateCause (s : State) (h : Nat) : Bool :=
  let v := servoOf s h
  decide (v.te.natAbs > 64 * get s (F.WRP_OFFTRACK_TRACK_LIM h)) || decide (v.fe.natAbs > 64 * get s (F.WRP_OFFTRACK_FOCUS_LIM h))
    || decide ((getI s (F.WRP_POS_ERR_LAST h)).natAbs > 64 * get s (F.WRP_POS_LIM_POS_FAULT h))
    || decide (bitOf (linkOf s h).flags 1 = 1) || !writePermit s h

/-! ### Positions on the track -/

/-- The bits of a pass's track revolution, and a beam's shift in whole bits (R30, R37, R159). -/
def turnBits (s : State) (h : Nat) : Nat := trackBits (writeOf s h).fret
def beamShift (s : State) (h beam : Nat) : Int :=
  nearQuot (getI s (F.CH_BEAM_OFS h beam) * (bitsPerWobble64 (writeOf s h).fret : Nat)) (64 * 65536)
def shifts (s : State) (h : Nat) : List Int := (List.range 32).map (beamShift s h)
def earliest (s : State) (h : Nat) : Int := (shifts s h).foldl min (beamShift s h 0)
def latest (s : State) (h : Nat) : Int := (shifts s h).foldl max (beamShift s h 0)

/-- A slot of the pass under way, counted from its first band's slot 0, and the write-clock bit at which a chunk's slot begins on its
beam (R37, R159). -/
def chunkSlot (w : Write) (c : Chunk) : Int := ((addrBand c.addr : Int) - w.origin) * (12 + w.fret : Nat) + addrSlot c.addr
def chunkStart (s : State) (h : Nat) (c : Chunk) : Int := chunkSlot (writeOf s h) c * slotLen + beamShift s h (addrTrack c.addr)

/-- A stretch of write-clock bits touches a chunk's slot up to the end of its postamble (R37, R168). -/
def touches (s : State) (h : Nat) (a b : Int) (c : Chunk) : Bool :=
  decide (chunkStart s h c < b) && decide (a < chunkStart s h c + gapStart)

/-- The gate closes after the last postamble of the pass on the latest beam (R159); a calibration pattern fills its revolution (R163). -/
def passEnd (s : State) (h : Nat) : Int :=
  (writeOf s h).span * turnBits s h - (if get s (F.WRP_STATUS_STATE h) = 1 then 0 else slotLen - gapStart : Nat) + latest s h

/-- The wobble-predicted position in the turn with beam offset zero, in units of 2^-39 bit (R108), and the position error of a write-clock
count: their difference, which whole turns do not change (R158). -/
def wobbleBits (s : State) (h : Nat) : Int := ((chanOf s h).phi * bitsPerWobble64 (writeOf s h).fret * 8 / 25 : Nat)
def posError (s : State) (h : Nat) (p : Int) : Int :=
  let turn : Int := turnBits s h * 2 ^ 39
  (p - wobbleBits s h + turn / 2) % turn - turn / 2

/-- The bit at the write clock's present count. -/
def bitNow (w : Write) : Int := w.pos.getD 0 / 2 ^ 39

/-- The bit at the start of the next superframe. -/
def nextBit (s : State) (h : Nat) : Int :=
  let d := (linkOf s h).ds
  ((writeOf s h).pos.getD 0 + d.wrNco * 390625 + d.wrPhase * 2 ^ 27) / 2 ^ 39

/-! ### Pulse tables -/

/-- PULSE_LOAD and PULSE_COMMIT (R160, R161): the bytes in which the table differs from the inactive copy are loaded, and the commit names
superframe `sf` or the first that gives 8 superframes of lead. While a commit waits, none is sent. -/
def commitPulse (h : Nat) (t : List Nat) (sf : Nat) (s : State) : State :=
  let w := writeOf s h
  if (linkOf s h).commitSf ≠ none ∨ w.active = t ∨ get s (F.HL_STATUS_STATE h) ≠ 5 then s
  else
    let s1 := (changedRuns 0 w.inactive t).foldl (fun u r => sendMsg h 4 ([0, 0] ++ bytesLE 2 r.1 ++ r.2) u) s
    updHead h (fun (x : Head) =>
      { x with link := { x.link with commitSf := some (max sf (tick s + 9)) }, wr := { x.wr with coming := t } })
      (sendLead h 5 ([0, 0, 0, 0] ++ bytesLE 4 (max sf (tick s + 9))) 8 s1)

/-- The pulse table is active in the head (R153): committed, with HEAD_STATUS bit 1 set. -/
def pulseActive (s : State) (h : Nat) (t : List Nat) : Bool :=
  decide (bitOf (linkOf s h).status 1 = 1) && decide ((linkOf s h).commitSf = none) && decide ((writeOf s h).active = t)

/-- Whether R162 calls for a calibration pass: no result for the place, one of another head, or CAL_FORCE. -/
def needsCal (s : State) (h layer fret : Nat) : Bool :=
  let w := writeOf s h
  let serial := ofBytesLE (((linkOf s h).ident.drop 16).take 8)
  match discOfHead s h with
  | none => false
  | some d =>
    w.force || (decide ((layer, fret) ∉ w.calDone) &&
      match mapFind (getDisc s d).calResults (calKeyOf (h % 2) layer fret) with
      | none => true
      | some v => decide (v / 2 ^ 32 % 2 ^ 64 ≠ serial))
def calBandsUsed (s : State) (h layer fret : Nat) : Nat :=
  match discOfHead s h with
  | none => 4
  | some d => mapGet (fun _ => 0) (getDisc s d).calUsed (calKeyOf (h % 2) layer fret)

/-- The fallback of R55 is counted and stands in the inventory (R57, R162, R407). -/
def calFallback (h : Nat) (s : State) : State :=
  let s1 := raise (evWRP h) B.WRP_EVT_CAL_FALLBACK (bump (F.WRP_CAL_FALLBACK h) 1 s)
  match discOfHead s h with
  | none => s1
  | some d => pageChanged 0xc1 (updDisc d (fun x => { x with flags := x.flags ||| 4 }) s1)

/-! ### Passes -/

/-- A pass of recording over bands begins (R152, R159, R163, R167): the servo goes to the band before the first, unless it is there, and
follows the spiral into it; the write clock counts from the first band's start. -/
def startPass (h st band bands : Nat) (s : State) : State :=
  let s1 := putAll [(F.WRP_STATUS_STATE h, st), (F.WRP_STATUS_BAND h, band), (F.WRP_STATUS_REMAIN h, if st = 2 then bands else 0)]
    (updWrite h (fun w => { w with origin := band, span := bands, pos := none, openAt := none, closedAt := none, closeReq := false, shut := false,
                                   cut := [] }) s)
  let sv := get s (F.SV_STATUS_STATE h)
  if get s (F.SV_POS_BAND h) + 1 = band ∧ get s (F.SV_POS_LAYER h) = (writeOf s h).layer then s1
  else if 4 ≤ sv ∧ sv ≤ 8 then startSeek h (band - 1) (writeOf s h).layer s1 else s1

/-- Recording of an extent begins (R152). -/
def startWrite (h : Nat) (s : State) : State := startPass h 2 (writeOf s h).first (writeOf s h).bands s

/-- A calibration pass begins on the next calibration band, which it consumes (R55, R162, R163). -/
def startCal (h : Nat) (s : State) : State :=
  let w := writeOf s h
  let used := calBandsUsed s h w.layer w.fret
  let s1 := match discOfHead s h with
    | none => s
    | some d => updDisc d (fun x => { x with calUsed := mapPut x.calUsed (calKeyOf (h % 2) w.layer w.fret) (used + 1) }) s
  startPass h 1 (calBand w.fret used) 1 (updWrite h (fun w => { w with calSeg := 0, calRead := false, calTable := w.active }) s1)

/-- A read of priority 2 waits on a leaf of a set's members (R298). -/
def readWaits (s : State) (hd : Nat) : Bool :=
  ((getSet s hd).members.map (leafOfDisc s)).dedup.any fun l => (waitingOn s l).any fun n => decide (n.prio = 2)

/-- A bay with a member of a set is under relief or parked: the write session ends (R301, R450). -/
def bayLost (s : State) (hd : Nat) : Bool :=
  (getSet s hd).members.any fun x => match bayOfDisc s x with
    | none => false
    | some b => decide (bitOf (get s (F.ARB_AR_AVOID (leafOfBay s b))) b = 1) || decide (b ∈ s.thm.parked)

/-- The rows that a head may take for its member within a list of ordinals (R285, R298): not taken yet, in a whole slot group, in a write session
with every member mounted in its own bay; and the rebuilt chunks of its disc there (R324). A session does not start while a read of priority 2
waits (R296), or with a member's bay under relief (R301). -/
def sessionReady (s : State) (hd : Nat) : Bool :=
  let d := getSet s hd
  isSet s F.ARB_CTRL_EN && (d.session || (d.due && !readWaits s hd)) && (d.members.all fun x => (bayOfDisc s x).isSome) && !bayLost s hd
def wholeGroup (d : DiscSet) (o : Nat) : Bool := decide (64 * (o / 64) + 64 ≤ d.nextOrd)
def rowsToTake (s : State) (h hd : Nat) (ords : List Nat) : List Nat :=
  let d := getSet s hd
  if sessionReady s hd then
    (d.rows.filter fun r => decide (r.ord ∈ ords) && wholeGroup d r.ord && decide (memberOf s h ∉ r.taken)).map Row.ord
  else []
def rebuiltToTake (s : State) (h : Nat) (ords : List Nat) : List RebuiltChunk :=
  s.par.out.filter fun x => decide (some x.disc = discOfHead s h) && !x.taken && decide (x.ord ∈ ords)

/-- Rows and rebuilt chunks are marked as taken by a head's member, or left for a later extent. -/
def markTaken (h hd : Nat) (ords : List Nat) (v : Bool) (s : State) : State :=
  let m := memberOf s h
  let s1 := updSet hd (fun d => { d with rows := d.rows.map fun r =>
    if r.ord ∈ ords then { r with taken := if v then r.taken ++ [m] else r.taken.filter (· ≠ m) } else r }) s
  { s1 with par := { s1.par with out := s1.par.out.map fun x =>
    if (some x.disc = discOfHead s h) ∧ x.ord ∈ ords then { x with taken := v } else x } }

/-- Rows are read out for an extent: a block that neither copy holds is lost, which damages its row (R352, R169). -/
def readOut (h hd : Nat) (ords : List Nat) (s : State) : State :=
  let pages := ((getSet s hd).rows.filter fun r => decide (r.ord ∈ rowsToTake s h hd ords)).flatMap rowPages
  (pages.filter (pageBad s)).foldl (fun u p => onBusError 1 0 (4096 * p) u) s

/-- An extent's chunks: the rows in flight whose home slots lie in it and the rebuilt chunks of its disc (R49, R152, R155, R324); a row is issued
with the DURABLE_ROW of when the first head takes it (R45, R421). A rebuilt chunk whose slot is written and bad goes to a spare (R329). -/
def takeExtent (h hd layer fret first bands : Nat) (u0 : State) : State :=
  let slots := (extentSlots h layer fret first bands).filterMap fun a => (addrOrd a).map fun o => (o, a)
  let s := readOut h hd (slots.map Prod.fst) u0
  let rows := rowsToTake s h hd (slots.map Prod.fst)
  let rebuilt := rebuiltToTake s h (slots.map Prod.fst)
  let new := (getSet s hd).rows.filter fun r => decide (r.ord ∈ rows) && decide (r.durAt = none)
  let s0 := new.foldl (fun u r => journal (.issued hd r.ord r.wstamp (r.blocks.map fun b => (b.nsid, b.lba, b.stamp))) u) s
  let s1 := updSet hd (fun d => { d with
    rows := d.rows.map fun r => if r.ord ∈ rows ∧ r.durAt = none then { r with durAt := some (durablePrefix d) } else r
    session := d.session || decide (rows ≠ []), since := if d.session then d.since else now s
    issued := max d.issued ((rows.map (· + 1)).foldl max 0) }) s0
  let take (p : Nat → Bool) : List Chunk := slots.filterMap fun x => if p x.1 then formatChunk s1 h hd x.1 x.2 x.2 else none
  let aside (o : Nat) : Bool := rebuilt.any fun x => decide (x.ord = o) && x.aside
  let chunks := take fun o => decide (o ∈ rows) || (rebuilt.any fun x => decide (x.ord = o) && !x.aside)
  let s2 := markTaken h hd (rows ++ rebuilt.map RebuiltChunk.ord) true (updWrite h (fun w =>
    { w with set := hd, layer := layer, fret := fret, first := first, bands := bands, chunks := chunks, failed := take aside, passed := [],
             recheck := [], extra := false, clear := 0 }) s1)
  match discOfHead s h with
  | none => s2
  | some d => serveDisc d s2

/-- The energy check of an extent (R426): its rows' journal records fit under D_max; in write-through mode, and while
write-through data is held, extents start whenever E_usable reaches E_reserve (R427, R428). -/
def extentEnergy (s : State) (rows : Nat) : Bool :=
  if isSet s F.PLP_STATUS_WRITE_THROUGH then decide (get s F.PLP_E_RESERVE ≤ get s F.PLP_V_BANK_E)
  else decide (get s F.PLP_D_DIRTY + 256 * rows ≤ get s F.PLP_D_MAX)
    || ((s.host.units.any fun u => u.through) && decide (get s F.PLP_E_RESERVE ≤ get s F.PLP_V_BANK_E))

/-- EXTENT_REQUEST (R53, R55, R152 to R155, R161, R162, R426, R447): placement requests an extent of a set's rows on a layer and fret; the
pulse table is brought up to date; the extent starts, calibrates first, or is not started. -/
def execExtentRequest (h hd layer fret first bands : Nat) (s : State) : Out :=
  let st := get s (F.WRP_STATUS_STATE h)
  let back := decide (st = 6) && decide (get s (F.HL_STATUS_STATE h) = 5) && (linkOf s h).retrained
  if headInst s h = false ∨ (st ≠ 0 ∧ back = false) then .next s
  else
    let s0 := put (F.WRP_STATUS_STATE h) 0 s
    let n := min bands (min 16 (max 1 (get s0 (F.WRP_EXTENT_EXT_BANDS h))))
    let inside := decide (firstDataBand fret ≤ first) && decide (first + n ≤ lastDataBand fret + 1) && decide (0 < n)
    let ords := (extentSlots h layer fret first n).filterMap addrOrd
    let disc := match discOfHead s h with | none => false | some d => decide ((getDisc s d).set = hd) && decide (bitOf (getDisc s d).flags 1 = 0)
      && (decide (rowsToTake s h hd ords ≠ []) || decide (rebuiltToTake s h ords ≠ []))
    let t := compTable s0 h (baseTable s0 h layer fret)
    if inside = false ∨ disc = false ∨ (chanOf s h).foreign = true ∨ get s (F.CH_CTRL_SPEED h) ≠ 1 then .next s0
    else if pulseActive s0 h t = false then .next (commitPulse h t 0 s0)
    else if !extentEnergy s0 (n * (12 + fret) * 64) then .next (bump F.PLP_CHECK_FAIL_EXT 1 s0)
    else if writePermit s0 h = false ∨ bitOf (get s0 F.THM_LASER_THR) h = 1 then .next s0
    else
      let s2 := takeExtent h hd layer fret first n (takeForce (F.WRP_EXTENT_EXT_BANDS h) s0)
      let s3 := updWrite h (fun w => { w with calDone := (layer, fret) :: w.calDone, force := false }) s2
      if needsCal s0 h layer fret then
        if calBandsUsed s0 h layer fret < 4 then .next (startCal h s3) else .next (startWrite h (calFallback h s3))
      else .next (startWrite h s3)

/-- The factor of a calibration pass in 1/4,096 (R163): 0.85 + 0.03 m at the segment of least MSE, refined by a parabola through
its neighbours. -/
def calFactor (mses : List Nat) : Nat :=
  let best := mses.foldl min (mses.headD 0)
  let m := mses.idxOf best
  let a : Int := mses.getD (m - 1) 0
  let b : Int := mses.getD m 0
  let c : Int := mses.getD (m + 1) 0
  let den := 2 * (a - 2 * b + c)
  if 1 ≤ m ∧ m ≤ 10 ∧ 0 < den then (roundQuot (348160 * den + 12288 * (m * den + (a - c))) (100 * den.toNat)).toNat
  else (roundQuot (348160 + 12288 * m) 100).toNat

/-- CALIBRATION_PASS_END (R55, R163, R164): the read-back has given the equalizer MSE of each beam in each of the 12 segments; the least mean
decides; a valid result is recorded and its table committed, else the fallback applies; recording begins. -/
def execCalibrationPassEnd (h : Nat) (mses : List (List Nat)) (s : State) : Out :=
  let w := writeOf s h
  if headInst s h = false ∨ get s (F.WRP_STATUS_STATE h) ≠ 1 ∨ w.calRead = false ∨ mses.length ≠ 12 ∨ [] ∈ mses then .next s
  else
    let means := mses.map fun l => (roundQuot (l.sum : Nat) l.length).toNat
    let best := means.foldl min (means.headD 0)
    let used := calBandsUsed s h w.layer w.fret
    if get s (F.WRP_CAL_MSE_MAX h) < best then
      .next (startWrite h (commitPulse h (compTable s h (baseTable s h w.layer w.fret)) 0 (calFallback h s)))
    else
      let f := calFactor means
      let pw := min 65535 (roundQuot (ofBytesLE ((w.calTable.drop 2).take 2) * f) 4096).toNat
      let lt := get s (F.HL_TELEM0_LASER_T h)
      let t1 := ((setPw w.calTable pw).set 8 (lt % 256)).set 9 (lt / 256 % 256)
      let body := [h % 2, w.layer, w.fret, (used - 1) % 4] ++ ((linkOf s h).ident.drop 16).take 8 ++ bytesLE 2 f ++ bytesLE 2 best ++ t1
      let s1 := match discOfHead s h with
        | none => s
        | some d => updDisc d (fun x => putRecord (h % 2) w.layer 2 body { x with calResults := mapPut x.calResults (calKeyOf (h % 2) w.layer w.fret) (ofBytesLE body) }) s
      .next (startWrite h (commitPulse h (compTable s1 h t1) 0 (raise (evWRP h) B.WRP_EVT_CAL_DONE (bump (F.WRP_CAL_PASS h) 1 s1))))

/-- A deferred command of the servo starts once the write session allows it (R170). -/
def runDeferred (h : Nat) (s : State) : State :=
  match (servoOf s h).deferred with
  | none => s
  | some (op, band, layer, slots) =>
    let st := get s (F.SV_STATUS_STATE h)
    if st < 2 ∨ 9 ≤ st then updServo h (fun v => { v with deferred := none }) s else beginMove h op band layer slots s

/-- The servo jumps back for a verify revolution (R152, R167). -/
def jumpBack (h band : Nat) (s : State) : State :=
  let st := get s (F.SV_STATUS_STATE h)
  if 4 ≤ st ∧ st ≤ 8 then startSeek h band (writeOf s h).layer s else s

/-- EXTENT_BANDS_WRITTEN (R152, R168, R170): the pass has recorded its bands, all of the extent's or fewer under enforcement; the rest is left
for a later extent, the chunks that a closure still touches go to spares, and the head jumps back to verify. -/
def execExtentBandsWritten (h : Nat) (s : State) : Out :=
  let w := writeOf s h
  if headInst s h = false ∨ get s (F.WRP_STATUS_STATE h) ≠ 2 ∨ w.pos = none ∨ bitNow w < passEnd s h ∨ isSet s (F.WRP_STATUS_GATE h) = true then .next s
  else
    let n := w.span
    let late := match w.closedAt with
      | none => []
      | some (b, _) => w.chunks.filter fun c => touches s h b (passEnd s h) c && decide (c ∉ w.failed)
    let keep := w.chunks.filter fun c => decide (addrBand c.addr < w.first + n)
    let rest := (w.chunks ++ w.failed).filter fun c => decide (w.first + n ≤ addrBand c.addr)
    let failed := (w.failed ++ late).filter fun c => decide (addrBand c.addr < w.first + n)
    let s1 := updWrite h (fun w => { w with bands := n, chunks := keep ++ w.recheck, failed := failed, closedAt := none }) s
    let s2 := if rest = [] then s1 else markTaken h w.set (rest.map Chunk.row) false s1
    let s3 := bump (F.WRP_CHUNKS h) ((keep.filter fun c => decide (c ∉ failed)).length) s2
    let back := if w.recheck = [] then w.first else w.first - 1
    .next (jumpBack h back (putAll [(F.WRP_STATUS_STATE h, 3), (F.WRP_STATUS_BAND h, w.first), (F.WRP_STATUS_REMAIN h, 0)] s3))

/-- A member of a row has passed verify; the row is durable once all have (R166). -/
def rowVerified (hd ord m : Nat) (s : State) : State :=
  let mark (r : Row) : Row := if r.ord = ord ∧ m ∉ r.verified then { r with verified := r.verified ++ [m] } else r
  let s1 := updSet hd (fun d => { d with rows := d.rows.map mark }) s
  let d := getSet s1 hd
  match d.rows.find? fun r => decide (r.ord = ord) with
  | none => s1
  | some r => if d.width ≤ r.verified.length then rowDurable hd ord s1 else s1

/-- Rebuilt chunks leave the write path: they are verified, or lost (R324). -/
def rebuiltGone (disc : Nat) (ords : List Nat) (s : State) : State :=
  { s with par := { s.par with out := s.par.out.filter fun x => decide (x.disc ≠ disc) || decide (x.ord ∉ ords) } }

/-- The rows that the session's passed chunks complete (R166), and the FUA writes they carry. The chunks of D31 in the last band are those
that R168 may have verified again. -/
def settlePassed (h : Nat) (s : State) : State :=
  let w := writeOf s h
  let m := memberOf s h
  let s1 := w.passed.foldl (fun t c => rowVerified c.set c.row m t) s
  let s2 := match discOfHead s h with
    | none => s1
    | some d => serveDisc d (rebuiltGone d (w.passed.map Chunk.row)
        (updDisc d (fun x => { x with rows := x.rows + (w.passed.filter fun c => decide (c ∉ w.recheck)).length }) s1))
  let edge := w.passed.filter fun c => decide (addrTrack c.addr = 31) && decide (addrBand c.addr + 1 = w.first + w.bands)
  settleDurable (updWrite h (fun w =>
    { w with passed := [], prev := if edge = [] then w.prev else edge
             prevOf := if edge = [] then w.prevOf else (discOfHead s h).map fun d => (d, w.layer) }) s2)

/-- The lowest unused spare slot for a side, layer and fret, or of the nearest fret that has one (R53, R167). -/
def nextSpare (s : State) (d side layer fret : Nat) : Option (Nat × Nat) :=
  ((nearFrets fret).filterMap fun f =>
    let used := mapGet (fun _ => 0) (getDisc s d).spareUsed (calKeyOf side layer f)
    if used < 192 * (12 + f) then some (spareAddr side layer f used, calKeyOf side layer f) else none).head?

/-- A durable row that loses a rebuilt chunk is damaged too (R169): its live blocks are placed again from what the rebuild read of it. -/
def redoRow (hd r : Nat) (s : State) : State :=
  let d := getSet s hd
  let keep := ((blocksOfSet s hd).filter fun x => decide (x.2.2 / rowBlocks d.width = r)).mergeSort fun a b => decide (a.2.2 ≤ b.2.2)
  keep.foldl (fun u x =>
    copyBlock hd (copyTarget s hd) x (rowValue d.width r (memberOfLbk d x.2.2) (x.2.2 % 8) (rowReads s hd r) (rowErased s hd r)) u)
    (updSet hd (fun e => { e with holes := r :: e.holes }) s)

/-- A chunk left without a spare is lost, and its row is damaged; the inventory and the head's event report the exhausted spares (R53, R57,
R169, R407). -/
def loseChunk (h d : Nat) (c : Chunk) (s : State) : State :=
  let s1 := headEvent h (pageChanged 0xc1 (raise (evWRP h) B.WRP_EVT_SPARE_NONE (bump (F.WRP_SPARE_NONE h) 1
    (journal (.remap d c.home 0xffffffff) (updDisc d (fun x =>
      { x with remaps := mapPut x.remaps c.home 0xffffffff, newRemaps := x.newRemaps ++ [(c.home, 0xffffffff)], flags := x.flags ||| 16 }) s)))))
  if (getSet s c.set).rows.any (fun r => decide (r.ord = c.row)) then
    raise (evWRP h) B.WRP_EVT_DAMAGED_ROW (bump (F.WRP_DAMAGED h) 1 (rowDamaged c.set c.row s1))
  else if (rebuiltAt s1 h c.row).isSome then
    raise (evWRP h) B.WRP_EVT_DAMAGED_ROW (bump (F.WRP_DAMAGED h) 1 (rebuiltGone d [c.row] (redoRow c.set c.row s1)))
  else s1

/-- The failed chunks take spares of one spare band, in ascending order; those that no spare is left for are lost (R53,
R167). The chunks that fit are formatted again for their spares (R155); the remaps wait for their batch in the journal (R52). -/
def assignSpares (h d : Nat) : List Chunk → List Chunk → List Chunk → State → List Chunk × List Chunk × State
  | [], done, rest, s => (done, rest, s)
  | c :: cs, done, rest, s =>
    match nextSpare s d (h % 2) (addrLayer c.home) (fretOf (addrBand c.home)) with
    | none => assignSpares h d cs done rest (loseChunk h d c s)
    | some (a, key) =>
      if (match done with | [] => true | x :: _ => decide (addrBand x.addr = addrBand a)) then
        let s1 := journal (.remap d c.home a) (updDisc d (fun x =>
          { x with spareUsed := mapPut x.spareUsed key (mapGet (fun _ => 0) x.spareUsed key + 1),
                   remaps := mapPut x.remaps c.home a, newRemaps := x.newRemaps ++ [(c.home, a)] }) s)
        match formatChunk s h c.set c.row c.home a with
        | some x => assignSpares h d cs (done ++ [x]) rest s1
        | none => assignSpares h d cs done rest s
      else assignSpares h d cs done (rest ++ [c]) s

/-- After a verify: a spare pass for the failed chunks, or the session idles (R154, R167, R172). -/
def spareOrIdle (h : Nat) (s : State) : State :=
  let w := writeOf s h
  let r := match discOfHead s h with
    | none => ([], [], s)
    | some d => assignSpares h d w.failed [] [] s
  match r.1 with
  | [] => settlePark (bayOf h) (runDeferred h (raise (evWRP h) B.WRP_EVT_EXTENT_DONE (put (F.WRP_STATUS_STATE h) 0
      (updWrite h (fun w => { w with chunks := [], failed := [], recheck := [], pos := none }) r.2.2))))
  | c :: _ => startPass h 4 (addrBand c.addr) 1
      (updWrite h (fun w => { w with chunks := r.1, failed := [], recheck := [], waiting := r.2.1, extra := false }) r.2.2)

/-- Every chunk that the verify neither passed nor failed fails now (R165). -/
def failUnread (h : Nat) (p : Chunk → Bool) (s : State) : State :=
  let w := writeOf s h
  (w.chunks.filter fun c => p c && decide (c ∉ w.passed) && decide (c ∉ w.failed)).foldl (fun t c => verifyFail h c.addr t) s

/-- The verify revolutions of an extent or of a spare pass have ended (R165, R170): where the degraded map suppressed a group, one more reads that
group; then the passed chunks count and the failed ones go on. -/
def endVerify (h band : Nat) (s : State) : State :=
  let w := writeOf s h
  let g := get s (F.HL_STATUS_GROUP h)
  let hidden (c : Chunk) : Bool := decide (addrTrack c.addr / 8 = g)
  if isSet s (F.HL_STATUS_DEGRADED h) = true ∧ w.extra = false
      ∧ (w.chunks.any fun c => hidden c && decide (c ∉ w.passed) && decide (c ∉ w.failed)) = true then
    let s1 := failUnread h (fun c => !hidden c) s
    jumpBack h band (sendLane h 1 (get s (F.HL_STATUS_FAILED_LANE h)) ((g + 1) % 4) (updWrite h (fun w => { w with extra := true }) s1))
  else
    let s1 := settlePassed h (failUnread h (fun _ => true) s)
    spareOrIdle h (updWrite h (fun w => { w with failed := w.failed ++ w.waiting, waiting := [] }) s1)

/-- The verify revolutions have ended (R152, R165): every chunk is judged, the servo has passed the seam behind the last band, or it no longer
follows a track. -/
def verifyOver (s : State) (h last : Nat) : Bool :=
  let w := writeOf s h
  let st := get s (F.SV_STATUS_STATE h)
  w.chunks.all (fun c => decide (c ∈ w.passed ∨ c ∈ w.failed)) || decide (last < get s (F.SV_POS_BAND h)) || decide (st < 4) || decide (8 < st)

/-- VERIFY_DONE (R165 to R167, R170). -/
def execVerifyDone (h : Nat) (s : State) : Out :=
  if headInst s h = false ∨ get s (F.WRP_STATUS_STATE h) ≠ 3 ∨ verifyOver s h ((writeOf s h).first + (writeOf s h).bands - 1) = false then .next s
  else .next (endVerify h (if (writeOf s h).recheck = [] then (writeOf s h).first else (writeOf s h).first - 1) s)

/-- SPARE_WRITE_REVOLUTION (R167): one revolution has written the chunks that fit into the spare band. -/
def execSpareWriteRevolution (h : Nat) (s : State) : Out :=
  let w := writeOf s h
  if headInst s h = false ∨ get s (F.WRP_STATUS_STATE h) ≠ 4 ∨ w.pos = none ∨ bitNow w < passEnd s h ∨ isSet s (F.WRP_STATUS_GATE h) = true then .next s
  else
    let late := match w.closedAt with
      | none => []
      | some (b, _) => w.chunks.filter fun c => touches s h b (passEnd s h) c && decide (c ∉ w.failed)
    let n := (w.chunks.filter fun c => decide (c ∉ w.failed) && decide (c ∉ late)).length
    .next (jumpBack h w.origin (put (F.WRP_STATUS_STATE h) 5
      (bump (F.WRP_CHUNKS h) n (bump (F.WRP_SPARES h) n (updWrite h (fun w => { w with failed := w.failed ++ late, closedAt := none }) s)))))

/-- SPARE_VERIFY_DONE (R165, R167): a failed spare takes the next spare slot. -/
def execSpareVerifyDone (h : Nat) (s : State) : Out :=
  if headInst s h = false ∨ get s (F.WRP_STATUS_STATE h) ≠ 5 ∨ verifyOver s h (writeOf s h).origin = false then .next s
  else .next (endVerify h (writeOf s h).origin s)

/-- Chunks of the pass that satisfy a condition go to spares without waiting for their verify (R157, R168). -/
def spareChunks (h : Nat) (p : Chunk → Bool) (s : State) : State :=
  updWrite h (fun w => { w with failed := w.failed ++ w.chunks.filter fun c => p c && decide (c ∉ w.failed) }) s


/-- GATE_CLOSURE (R168): a condition closes the gate in the next superframe; the chunks whose slots the closing bit touches, on every beam, go to
spares; after an inward tracking error D31 of the band before is verified again, where it had passed. -/
def execGateClosure (h : Nat) (s : State) : Out :=
  let w := writeOf s h
  if headInst s h = false ∨ recording s h = false ∨ isSet s (F.WRP_STATUS_GATE h) = false ∨ (gateCause s h = false ∧ w.closeReq = false) then .next s
  else
    let b := nextBit s h
    let inward := decide ((servoOf s h).te < -(64 * get s (F.WRP_OFFTRACK_TRACK_LIM h) : Int))
    let again := if inward ∧ w.prevOf = (discOfHead s h).map (fun d => (d, w.layer)) ∧ get s (F.WRP_STATUS_STATE h) = 2 ∧ b < turnBits s h then
        w.prev.filter fun c => decide (addrBand c.addr + 1 = w.first) && decide (c ∉ w.recheck) else []
    let s1 := spareChunks h (touches s h b (b + 1)) (updWrite h (fun w =>
      { w with closedAt := some (b, tick s), closeReq := false, clear := 0, recheck := w.recheck ++ again }) s)
    .next (raise (evWRP h) B.WRP_EVT_CLOSURE (bump (F.WRP_CLOSURES h) 1 (closeGate h s1)))

/-- The write-clock count with the servo's present band (R168): its place in the turn stays, its band is that under the head. -/
def placeNow (s : State) (h : Nat) (p : Int) : Int :=
  let w := writeOf s h
  let turn : Int := turnBits s h * 2 ^ 39
  ((get s (F.SV_POS_BAND h) : Int) - w.origin) * turn + wobbleBits s h + posError s h p

/-- GATE_REOPEN (R168, R170): 16 clear superframes have passed and the spindle's observer holds its motor; the gate opens at the next slot
boundary, and the chunks of the slots passed meanwhile go to spares. -/
def execGateReopen (h : Nat) (s : State) : Out :=
  let w := writeOf s h
  match w.closedAt, w.pos with
  | some (b, _), some p =>
    if headInst s h = false ∨ isSet s (F.WRP_STATUS_GATE h) = true ∨ w.clear < 16 ∨ gateCause s h = true ∨ recording s h = false
        ∨ motSt s (bayOf h) ≠ 3 then .next s
    else
      let p1 := placeNow s h p
      let e := earliest s h
      let from' := max b (p1 / 2 ^ 39 + 2 * (62 * (12 + w.fret) : Nat))
      let r := (from' - e + slotLen - 1) / slotLen * slotLen + e
      .next (updWrite h (fun w => { w with closedAt := none, pos := some p1, openAt := some r })
        (spareChunks h (touches s h b r) s))
  | _, _ => .next s

/-- WRITE_HALTED (R154, R168, R169): the gate has not reopened within RESUME_REVS revolutions of 5,120 superframes; the chunks not placed are lost
and the member fails. -/
def execWriteHalted (h : Nat) (s : State) : Out :=
  let w := writeOf s h
  match w.closedAt with
  | none => .next s
  | some (_, t) =>
    if headInst s h = false ∨ recording s h = false ∨ isSet s (F.WRP_STATUS_GATE h) = true
        ∨ tick s < t + 5120 * get s (F.WRP_CTRL_RESUME_REVS h) then .next s
    else
      let lost := (w.chunks ++ w.failed ++ w.waiting).filter fun c => decide (c ∉ w.passed)
      let rows := ((getSet s w.set).rows.map Row.ord).filter fun o => decide ((getSet s w.set).st = 1) || (lost.any fun c => decide (c.row = o))
      let s1 := updHead h (fun (x : Head) =>
        { x with link := { x.link with retrained := false },
                 wr := { x.wr with chunks := [], failed := [], passed := [], recheck := [], waiting := [], closedAt := none, pos := none } }) (settlePassed h s)
      let s2 := raise (evWRP h) B.WRP_EVT_HALTED (put (F.WRP_STATUS_STATE h) 6 s1)
      let s3 := rows.foldl (fun t o => rowDamaged w.set o t) (failMember w.set (memberOf s h) false s2)
      .next (settlePark (bayOf h) (runDeferred h (if rows = [] then s3 else raise (evWRP h) B.WRP_EVT_DAMAGED_ROW (bump (F.WRP_DAMAGED h) rows.length s3))))

/-! ### Staging and write data -/

/-- The codeword buffers of the staging SRAM in write layout, and the bytes of its two regions (R156). -/
def stagingBuffers : Nat := 544
def bufferBytes : Nat := 3712
def stateBytes : Nat := 77824

/-- The write-clock bit at which a chunk's codeword begins, and the one after its last (R37). -/
def wordFrom (s : State) (h : Nat) (c : Chunk) (i : Nat) : Int := chunkStart s h c + cwStart i
def wordTo (s : State) (h : Nat) (c : Chunk) (i : Nat) : Int := wordFrom s h c i + 34816

/-- The codewords of the pass in the order they are due, and those that staging holds (R156): the first 544 whose last bit has not entered the
downstream transmitter. -/
def dueOrder (s : State) (h : Nat) : List (Chunk × Nat) :=
  ((writeOf s h).chunks.flatMap fun c => (List.range 9).map fun i => (c, i)).mergeSort fun a b =>
    decide (wordFrom s h a.1 a.2 ≤ wordFrom s h b.1 b.2)
def stagedWords (s : State) (h : Nat) : List (Chunk × Nat) :=
  ((dueOrder s h).filter fun p => decide (nextBit s h < wordTo s h p.1 p.2)).take stagingBuffers

/-- The codewords that the buffer controller must have delivered by now: those due within LEAD µs (R156). -/
def leadBits (s : State) (h : Nat) : Int := get s (F.WRP_LEAD h) * (linkOf s h).ds.wrNco * 1250 / 2 ^ 32
def mustBeStaged (s : State) (h : Nat) : List (Chunk × Nat) :=
  (stagedWords s h).filter fun p => decide (wordFrom s h p.1 p.2 < nextBit s h + leadBits s h)

/-- The channel bits of a chunk's slot as they are sent (R37 to R44, R155, R157): from a codeword that was not in staging on, zeros. -/
def slotStream (s : State) (h : Nat) (c : Chunk) : List Bool :=
  let bits := match chunkPayload s h c with
    | some p => slotBits c.addr p
    | none => List.replicate slotLen false
  match mapFind (writeOf s h).cut c.addr with
  | none => bits
  | some i => bits.take (cwStart i) ++ List.replicate (slotLen - cwStart i) false

/-- The test pattern of a calibration track (R163): zero payload scrambled with the seed of the track's slot 0 and modulated, on and on (log
entry 74). -/
def calStream (s : State) (h beam : Nat) : List Bool :=
  let w := writeOf s h
  let seed := scrSeed (physAddr (h % 2) w.layer w.origin beam 0)
  modulate (turnBits s h / 17 + 1) (scramble seed (List.replicate (turnBits s h) false))

/-- The bits that a beam is sent from write-clock bit `a` on, `n` of them (R157, R159): its own slots at its own angle, zeros in gaps,
shift padding and slots without a chunk. -/
def beamBits (s : State) (h beam : Nat) (a : Int) (n : Nat) : List Bool :=
  let w := writeOf s h
  let p := a - beamShift s h beam
  let pad := List.replicate (-p).toNat false
  let q := p.toNat
  let body : List Bool :=
    if get s (F.WRP_STATUS_STATE h) = 1 then (calStream s h beam).drop q
    else
      let slotAt (g : Nat) : List Bool :=
        match w.chunks.find? fun c => decide (addrTrack c.addr = beam) && decide (chunkSlot w c = g) with
        | some c => slotStream s h c
        | none => List.replicate slotLen false
      (slotAt (q / slotLen)).drop (q % slotLen) ++ slotAt (q / slotLen + 1)
  let l := pad ++ body
  (l ++ List.replicate n false).take n

/-- The write data of the downstream superframe (R67): one group of 32 channel bits for each channel-bit time, bit k for beam k. -/
def writeData (s : State) (h : Nat) : List Nat :=
  let d := (linkOf s h).ds
  let beams := (List.range 32).map fun k => beamBits s h k d.wrAt d.wrBits
  (List.range d.wrBits).map fun i => (beams.zipIdx.map fun b => if b.1.getD i false then 2 ^ b.2 else 0).sum

/-- UNDERRUN (R157): codeword `cw` of the chunk at an address was not in staging when due, which it is in this superframe; the rest of the chunk
is sent as zeros on its beam. -/
def execUnderrun (h addr cw : Nat) (s : State) : Out :=
  let st := get s (F.WRP_STATUS_STATE h)
  let d := (linkOf s h).ds
  match (writeOf s h).chunks.find? fun c => decide (c.addr = addr) with
  | none => .next s
  | some c =>
    if headInst s h = false ∨ (st ≠ 2 ∧ st ≠ 4) ∨ 9 ≤ cw ∨ wordFrom s h c cw < d.wrAt ∨ d.wrAt + d.wrBits ≤ wordFrom s h c cw
        ∨ (mapFind (writeOf s h).cut addr).isSome = true then .next s
    else .next (raise (evWRP h) B.WRP_EVT_UNDERRUN (bump (F.WRP_UNDERRUN h) 1
      (spareChunks h (fun c => decide (c.addr = addr)) (updWrite h (fun w => { w with cut := mapPut w.cut addr cw }) s))))

/-- CAL_FORCE (R162, R172). -/
def execCalForce (h : Nat) (s : State) : Out :=
  if headInst s h = false then .next s else .next (updWrite h (fun w => { w with force := true }) s)

/-- WRP_CLR_CNT (R172): the counters from 0x038 to 0x060 and the POS_ERR peak. -/
def execWrpClrCnt (h : Nat) (s : State) : Out :=
  if headInst s h = false then .next s
  else .next (clearAll [F.WRP_CHUNKS h, F.WRP_VFY_FAIL h, F.WRP_UNDERRUN h, F.WRP_CLOSURES h, F.WRP_POS_FAULT h, F.WRP_SPARES h,
    F.WRP_SPARE_NONE h, F.WRP_CAL_PASS h, F.WRP_CAL_FALLBACK h, F.WRP_DAMAGED h, F.WRP_POS_ERR_PEAK h] s)

/-- EVENT (R73, R78, R118, R157, R170): a head EVENT is recorded and acted on: lost downstream codewords are counted; after a FIFO underrun the
chunks whose slots were under recording from the superframe it names on go to spares; a late configuration is reissued. -/
def execEvent (h : Nat) (s : State) : Out :=
  match frontMsg s h (fun t => decide (t = 0x82)) with
  | none => .next s
  | some m =>
    .next (takeMsg h m (fun s =>
      let code := m.payload.getD 0 0
      let s1 := raise (evHL h) B.HL_EVT_HEAD_EVENT (putAll [(F.HL_HEAD_EVT_CODE h, code), (F.HL_HEAD_EVT_DETAIL h, m.payload.getD 1 0)]
        (bump (F.HL_HEAD_EVT_COUNT h) 1 s))
      let w := writeOf s h
      if code = 1 ∨ code = 2 then bump (F.HL_DS_ERR h) 1 s1
      else if code = 3 then
        let ago := (tick s + 65536 - ofBytesLE ((m.payload.drop 2).take 2)) % 65536
        let first := bitNow w - ((ago + 1) * (62 * (12 + w.fret) + 2) : Nat)
        if recording s h = true ∧ w.pos ≠ none then spareChunks h (touches s h first (nextBit s h)) s1 else s1
      else if code = 7 then
        let k := linkOf s1 h
        match k.adcCfg, k.laneCfg, k.commitSf with
        | some (n, fmt, _), _, _ => raiseCH h B.CH_EVT_RATE_LATE (bump (F.CH_RATE_LATE h) 1 (sendAdc h n fmt 24 s1))
        | none, some (mode, lane, group, _), _ => sendLane h mode lane group s1
        | none, none, some _ =>
          let sf := tick s1 + 9
          updLink h (fun k => { k with commitSf := some sf }) (sendLead h 5 ([0, 0, 0, 0] ++ bytesLE 4 sf) 8 s1)
        | none, none, none => s1
      else s1) s)

end Sys2Proof.Machine
end

