-- ==== Sys2Proof/Machine/Placement.lean ====
section
/-! DEFINITION. The placement engine's commands: remap tables, descriptor generations, set formation, row seals, write
sessions, map checkpoints, drain credits, consolidation, retirement and the arbour controls (R51 to R54, R276 to R312). -/

namespace Sys2Proof.Machine

/-- The spare slots of a side and fret read in order up to the first blank one (R54): the pairs they give, and how many are written. -/
def spareScan (side layer fret : Nat) (reads : List SpareRead) : List (Nat × Nat) × Nat :=
  let ws := reads.takeWhile fun x => decide (x ≠ .blank)
  (ws.zipIdx.filterMap fun p => match p.1 with
    | .written (some home) => some (home, spareAddr side layer fret p.2)
    | _ => none, ws.length)

/-- REMAP_TABLE_BUILD (R54): at the first access to a layer its remap table is built from the remap batches among the disc's records and from
the scanned spare slots (20 side + fret), a spare sector prevailing over an earlier entry of its HOME_ADDR; the spares found written are in
use. -/
def execRemapTableBuild (d layer : Nat) (spares : List (Nat × List SpareRead)) (s : State) : Out :=
  if 1152 ≤ d ∨ 12 ≤ layer then .next s
  else .next (updDisc d (fun x =>
    let scans := spares.map fun p => (p.1, spareScan (p.1 / 20) layer (p.1 % 20) p.2)
    let pairs := (recordRemaps x.records ++ x.newRemaps ++ scans.flatMap fun p => p.2.1).filter fun p => decide (addrLayer p.1 = layer)
    { x with
      remaps := pairs.foldl (fun m p => mapPut m p.1 p.2) x.remaps
      spareUsed := scans.foldl (fun m p =>
        let key := calKeyOf (p.1 / 20) layer (p.1 % 20)
        mapPut m key (max (mapGet (fun _ => 0) m key) p.2.2)) x.spareUsed }) s)

/-- DESCRIPTOR_GENERATION (R51, R278): the generations that a disc's changes of state wait for are written twice each, once the disc is
mounted. -/
def execDescriptorGeneration (d : Nat) (s : State) : Out :=
  if (bayOfDisc s d).isSome then .next (updDisc d writeOwed s) else .next s

/-- SET_FORMATION: a stripe domain forms a new set in an empty open-set slot that a row needs, or refuses (R276, R279, R280, R284, R315). -/
def execSetFormation (a slot : Nat) (s : State) : Out :=
  if arbInst s a && isDomain s a && decide (slot < get s (F.ARB_AR_CFG_OPEN_MAX a)) && pathActive s a && (openSetOf s a slot).isNone then
    .next (formSet a slot s)
  else .next s

/-- Work that still fills the re-placement rows of a slot (R283): consolidation, evacuation, salvage or a reshape with blocks left. -/
def replacing (s : State) (dom slot : Nat) : Bool :=
  decide (slot = consSlot s dom) &&
    ((s.lib.sets.any fun p => p.2.consol && decide (copyTarget s p.1 = dom) && decide (toCopy s p.1 ≠ []))
      || (List.range 4).any fun j => decide (get s (F.PAR_RS_STATUS_STATE j) = 1) && decide (get s (F.PAR_RS_DOMAIN j) = dom)
          && decide (get s (F.PAR_RS_CURSOR j) < (getSet s (get s (F.PAR_RS_SET j))).nextOrd))

/-- Whether the cause of a seal holds for a filling row of a set (R283): it is full; it holds the last block of a FUA write; dirty data reaches
D_max less PAD_RESERVE and no other open set with a filling row has a fuller partial slot group; it holds re-placed blocks and the work that
fills it has none left; Parked is being entered. -/
def sealCause (s : State) (f : Filling) (hd cause : Nat) : Bool :=
  let part (x : Nat) : Nat := (getSet s x).nextOrd % 64
  if cause = 0 then true
  else if cause = 1 then f.fua
  else if cause = 2 then decide (get s F.PLP_D_MAX ≤ get s F.PLP_D_DIRTY + 2 ^ 26 * get s F.ARB_SCHED_PAD_RESERVE)
    && s.lib.filling.all fun x => match openSetOf s x.dom x.slot with
      | none => true
      | some y => decide (part y ≤ part hd)
  else if cause = 3 then (f.blocks.all fun b => decide (b.src ≠ none)) && !replacing s f.dom f.slot
  else decide (cause = 4) && decide (s.pwr.phase = 2)

/-- ROW_SEAL: a filling row is sealed for a cause of R283 (0 full, 1 FUA, 2 admission pressure, 3 re-placement, 4 entry to
Parked or orderly shutdown; R281 to R287, R308). No seal happens while placement is off (R310); the rows of OFFLINE domains go elsewhere first. -/
def execRowSeal (stream hd cause : Nat) (s : State) : Out :=
  if isSet s F.ARB_CTRL_EN = false then .next s
  else
    let s1 := moveOffline s
    match findFilling s1 stream hd with
    | none => .next s1
    | some f => if sealCause s1 f hd cause then .next (refreshArbours (sealRow stream hd cause s1)) else .next s1

/-- The slot groups of a set that are complete and not yet written (R285, R298). -/
def completeGroups (s : State) (hd : Nat) : Nat := ((unwritten (getSet s hd)).map (· / 64)).dedup.length

/-- WRITE_SESSION_DUE: a set's session becomes due by WRITE_MIN complete slot groups, a FUA or pressure seal, or entry to Parked (R298). It
starts with its first extent, once every member is mounted (R295). -/
def execWriteSessionDue (hd : Nat) (s : State) : Out :=
  let d := getSet s hd
  if isSet s F.ARB_CTRL_EN && decide (d.st ≠ 0) && !d.due && decide (unwritten d ≠ [])
      && (decide (s.pwr.phase = 2) || decide (get s F.ARB_SCHED_WRITE_MIN ≤ completeGroups s hd)) then
    .next (issueNext (putSet hd { d with due := true, dueAt := s.lib.issue } s))
  else .next s

/-- The remap batches of a layer's new remaps (R52): at most 4,000 pairs each, into the record area of side A, or of side B where that is full
(log entry 67). -/
def batchBody (ps : List (Nat × Nat)) : List Nat := bytesLE 4 ps.length ++ ps.flatMap fun p => bytesLE 4 p.1 ++ bytesLE 4 p.2
def writeBatch (layer : Nat) (ps : List (Nat × Nat)) (d : Disc) : Disc :=
  ((List.range ((ps.length + 3999) / 4000)).map fun i => (ps.drop (4000 * i)).take 4000).foldl (fun x b =>
    putRecord (if recordsUsed x 0 layer < recordSlots then 0 else 1) layer 3 (batchBody b) x) d
def writeBatches (d : Disc) : Disc :=
  { (List.range 12).foldl (fun x l => writeBatch l (d.newRemaps.filter fun p => decide (addrLayer p.1 = l)) x) d with newRemaps := [] }

/-- A head is in an extent of a set, its verify or its spare passes (R170). -/
def setWriting (s : State) (hd : Nat) : Bool :=
  (headsOf s).any fun h => decide ((writeOf s h).set = hd) && decide (1 ≤ get s (F.WRP_STATUS_STATE h)) && decide (get s (F.WRP_STATUS_STATE h) ≤ 5)

/-- A session ends on a disc: what its changes of state wait for is recorded, and one remap batch per layer with new remaps (R51, R52, R278). -/
def recordSession (x : Nat) (s : State) : State :=
  if (bayOfDisc s x).isSome then serveDisc x (updDisc x (fun y => writeBatches (writeOwed y)) s) else s

/-- WRITE_SESSION_END (R52, R298): the session ends when no complete slot group remains unwritten, or after WRITE_HOLD_MAX when a read of
priority 2 waits, or when a member's bay is under relief or parked (R301, R450), once its extent with the verify and spare passes has finished
(R170). What is left stays due. -/
def execWriteSessionEnd (hd : Nat) (s : State) : Out :=
  let d := getSet s hd
  let held := bayLost s hd || (readWaits s hd && elapsed s d.since (156250000 * get s F.ARB_SCHED_WRITE_HOLD_MAX))
  if d.session && (held || decide (unwritten d = [])) && !setWriting s hd then
    let s1 := issueNext (putSet hd { d with session := false, due := decide (unwritten d ≠ []), dueAt := s.lib.issue } s)
    let s2 := forAll (headsOf s1) (fun h u => if (writeOf u h).set = hd then updWrite h (fun w => { w with calDone := [] }) u else u) s1
    .next (forAll d.members recordSession s2)
  else .next s

/-- MAP_CHECKPOINT: an epoch closes every CKPT.ROWS × 65,536 sealed rows and its changed map pages wait to be written (R293). The switches that
other causes force are made where those causes arise (R333, R354, R421, R521). -/
def execMapCheckpoint (s : State) : Out :=
  if 65536 * get s F.ARB_CKPT_ROWS ≤ s.lib.rowsSince then .next (switchEpoch false s) else .next s

/-- A closed epoch's pages as checkpoint sectors of up to seven pages, at a disc's next free checkpoint slots (R51, R293). -/
def writeCkpt (epoch wstamp stamp : Nat) (pages : List (Nat × List Nat)) (x : Disc) : Disc :=
  let n := (pages.length + 6) / 7
  { x with
    ckpts := x.ckpts ++ (List.range n).map fun i => ⟨x.ckptNext + i, epoch, wstamp, stamp, (pages.drop (7 * i)).take 7⟩
    ckptNext := x.ckptNext + n }

/-- CHECKPOINT_WRITTEN (R36, R293, R526): the closed epoch's checkpoint sectors are written to two mounted members of an open set, on
different bays, whose checkpoint areas have room; that set holds the newest copy of each page. Rebuild and reshape cursors are recorded with
them (R329, R333). -/
def execCheckpointWritten (d1 d2 : Nat) (s : State) : Out :=
  let pages := s.lib.closing
  let n := (pages.length + 6) / 7
  let hd := (getDisc s d1).set
  let room (d : Nat) : Bool := decide ((getDisc s d).ckptNext + n ≤ ckptSlots)
  if (pages = [] ∧ s.lib.ckptEpoch = get s F.ARB_EPOCH) ∨ (getSet s hd).st ≠ 1 ∨ (getDisc s d2).set ≠ hd ∨ bayOfDisc s d1 = none
      ∨ bayOfDisc s d2 = none ∨ bayOfDisc s d1 = bayOfDisc s d2 ∨ room d1 = false ∨ room d2 = false then .next s
  else
  let epoch := get s F.ARB_EPOCH - 1
  let put' := writeCkpt epoch (get s F.ARB_WSTAMP - 1) s.lib.maxStamp pages
  let s1 := updDisc d2 put' (updDisc d1 put' { s with lib := { s.lib with
    closing := [], ckptEpoch := get s F.ARB_EPOCH, pageHome := pages.foldl (fun m p => mapPut m p.1 hd) s.lib.pageHome } })
  let cur := ((List.range 16).filter (rbBusy s1)).flatMap (fun i =>
      [(get s1 (F.PAR_RB_SET i), get s1 (F.PAR_RB_CURSOR i)), (131072 + get s1 (F.PAR_RB_SET i), get s1 (F.PAR_RB_START2 i))])
    ++ ((List.range 4).filter fun j => decide (get s1 (F.PAR_RS_STATUS_STATE j) = 1)).map fun j =>
      (65536 + get s1 (F.PAR_RS_SET j), get s1 (F.PAR_RS_CURSOR j))
  let s2 := { s1 with par := { s1.par with ckpt := cur.foldl (fun m x => mapPut m x.1 x.2) [] } }
  .next (raise evARB B.ARB_EVT_CKPT_DONE (serveDisc d2 (serveDisc d1 s2)))

/-! ### Drain credits -/

/-- What an arbour still may grant: its budget less what its path has taken; a CREDIT of 0 is limited by the parent only
(R302). -/
def remaining (s : State) (used : Map Nat) (l : Nat) : Option Nat :=
  (pathUp s 16 l).foldl (fun m a =>
    let c := get s (F.ARB_AR_CREDIT a)
    if c = 0 then m
    else
      let r := c - mapGet (fun _ => 0) used a
      some (match m with | none => r | some x => min x r)) none

/-- The rebuild context that needs a sector. -/
def rebuildOf (s : State) (d o : Nat) : Option Nat :=
  (List.range 16).find? fun i => (rbRunning s i || decide (rbState s i = Rb.evacuate))
    && (needs s).any fun n => decide (n.disc = d) && decide (n.ord = o) && decide (n.key = issued (mapGet (fun _ => 0) s.par.begun i)
        ∨ (rbState s i = Rb.evacuate ∧ n.key = issued (getSet s (get s (F.PAR_RB_SET i))).consAt))

/-- The clean sectors that a host class holds, of the pages that HOST_WIN limits; the commands of the class that need a sector (R391). -/
def classNeeds (s : State) (cls : Nat) : List Need :=
  (s.host.cmds.filter fun c => decide (c.phase = .transfer) && decide (c.cls = cls)).flatMap fun c =>
    c.resolved.flatMap fun r => blockNeeds s (classPrio c.cls) c.stamp r.2
def needsSector (ns : List Need) (d o : Nat) : Bool := ns.any fun n => decide (n.disc = d) && decide (n.ord = o)
def classFull (s : State) (cls : Nat) : Bool :=
  decide (2 ^ 30 * get s F.HST_FLOW_HOST_WIN ≤ 32768 * (s.par.clean.filter fun c => needsSector (classNeeds s cls) c.disc c.ord).length)

/-- The place of a staged sector in the order of R302: 0 rebuild within its floor's credits, 1 to 4 the host classes whose window has room (a
Recall with class 2, without a window), 5 rebuild above the floor, 6 consolidation and reshaping, 7 what nothing needs any more. -/
def sectorOrder (s : State) (floor : Map Nat) (d o : Nat) : Nat :=
  let rb := rebuildOf s d o
  match rb with
  | some i => if 32768 ≤ mapGet (fun _ => 0) floor i then 0 else hostOrder 5
  | none => hostOrder (if needsSector (copyNeeds s ++ reshapeNeeds s ++ outNeeds s) d o then 6 else 7)
where
  hostOrder (other : Nat) : Nat :=
    match (List.range 4).find? fun c => (needsSector (classNeeds s c) d o && !classFull s c)
        || (decide (c = 2) && needsSector (recallNeeds s) d o) with
    | some c => c + 1
    | none => if (List.range 4).any fun c => needsSector (classNeeds s c) d o then (if other = 7 then 8 else other) else other

/-- The staged sectors that wait to drain, with their head and leaf. -/
def drainable (s : State) : List (Nat × Sector) :=
  (headsOf s).flatMap fun h => ((chanOf s h).sectors.filter fun x => x.staged && !x.verify && decide (x.rung ≠ 7)).map fun x => (h, x)

/-- The sector that is granted next (R302): the first of the lowest order whose path has credit left. -/
def nextGrant (s : State) (used floor : Map Nat) : Option (Nat × Nat × Sector) :=
  ((drainable s).filterMap fun p =>
    match discOfHead s p.1 with
    | none => some (7, p.1, p.2)
    | some d =>
      let o := sectorOrder s floor d ((homeOrd s d p.2.addr).getD (2 ^ 64))
      if o = 8 ∨ remaining s used (leafOfBay s (bayOf p.1)) = some 0 then none else some (o, p.1, p.2)).foldl
    (fun m x => match m with
      | none => some x
      | some y => if x.1 < y.1 then some x else some y) none

/-- The credits of one grant, sector by sector. -/
def grantAll : Nat → Map Nat → Map Nat → State → State
  | 0, _, floor, s => { s with par := { s.par with floorAcc := floor.map fun p => (p.1, p.2 % 32768) } }
  | n + 1, used, floor, s =>
    match nextGrant s used floor with
    | none => { s with par := { s.par with floorAcc := floor.map fun p => (p.1, p.2 % 32768) } }
    | some (o, h, x) =>
      let l := leafOfBay s (bayOf h)
      let used' := (pathUp s 16 l).foldl (fun u a => mapPut u a (mapGet (fun _ => 0) u a + 1)) used
      let floor' := match discOfHead s h with
        | none => floor
        | some d =>
          match rebuildOf s d ((homeOrd s d x.addr).getD (2 ^ 64)) with
          | some i => if o = 0 then mapPut floor i (mapGet (fun _ => 0) floor i - 32768) else floor
          | none => floor
      let key := 16 * l + o
      grantAll n used' floor' (drainOne h x { s with lib := { s.lib with granted := mapPut s.lib.granted key (mapGet (fun _ => 0) s.lib.granted key + 1) } })

/-- The floor's credits of a context in 1/32,768 (R325): k chunk reads for each row that RB_FLOOR rebuilds in 10 µs, and what the last grant left
of one credit. -/
def floorCredits (s : State) : Map Nat :=
  ((List.range 16).filter fun i => rbBusy s i).foldl (fun m i =>
    mapPut m i (mapGet (fun _ => 0) s.par.floorAcc i + 10 * get s F.PAR_RB_CFG_RB_FLOOR * ((getSet s (get s (F.PAR_RB_SET i))).width - 2))) []

/-- DRAIN_CREDIT_GRANT: every 10 µs the staged sectors drain into the buffer in the order of R302, within each arbour's budget (R13, R18, R302,
R325, R391); what has come in moves the copies on (R287, R305). -/
def execDrainCreditGrant (s : State) : Out :=
  if elapsed s s.lib.grantAt 1562 = false then .next s
  else
    let at' := if s.lib.grantAt + 3125 ≤ now s then now s else s.lib.grantAt + 1562
    .next (advanceCopies (grantAll (drainable s).length [] (floorCredits s)
      { s with lib := { s.lib with granted := [], grantAt := at' } }))

/-! ### Consolidation and retirement -/

/-- A set's consolidation comes before the others (R291, R300): a worn disc raised it, or the pool is above HIGH and it holds fragments. -/
def raisedNow (s : State) (hd : Nat) : Bool :=
  (getSet s hd).raised || (isSet s F.ARB_STATUS_FRAG_HIGH && (blocksOfSet s hd).any fun x => match grainEntry s x.1 with
    | .frag _ => true
    | _ => false)

/-- The candidates of a domain (R305), and the order in which they are taken: raised, lowest live fraction, lowest handle. -/
def candidates (s : State) (dom : Nat) : List Nat :=
  let draining := (pathUp s 16 dom).any fun a => decide (get s (F.ARB_AR_STATUS_PSTATE a) = 1)
  (s.lib.sets.filter fun p => decide (p.2.st = 2) && decide (p.2.domain = dom) && !p.2.consol && !p.2.lost && (draining || liveBelow s p.1)).map Prod.fst
def consBefore (s : State) (a b : Nat) : Bool :=
  let size (x : Nat) : Nat := (getSet s x).nextOrd * rowBlocks (getSet s x).width
  let fa := (getSet s a).live * size b
  let fb := (getSet s b).live * size a
  if raisedNow s a ≠ raisedNow s b then raisedNow s a else decide (fa < fb) || (decide (fa = fb) && decide (a < b))

/-- CONSOLIDATION_START: the first candidate of its domain starts to be consolidated while CONS_EN is 1 and the domain consolidates fewer than
CONS_MAX sets (R276, R305). -/
def execConsolidationStart (hd : Nat) (s : State) : Out :=
  let dom := (getSet s hd).domain
  let busy := (s.lib.sets.filter fun p => p.2.consol && !p.2.lost && decide (p.2.domain = dom) && (evacuating s p.1).isNone).length
  let cs := candidates s dom
  if isSet s F.ARB_CTRL_CONS_EN && decide (hd ∈ cs) && (cs.all fun x => decide (x = hd) || consBefore s hd x)
      && decide (busy < get s F.ARB_CONS_CONS_MAX) then .next (refreshArbours (startCopies hd s))
  else .next s

/-- SET_RETIRE: a set whose live block count is 0, with no read in flight, is retired and its handle freed (R278, R280, R306), once no map
page has its newest checkpoint copy there; pages that have one wait to be checkpointed again (R526). An evacuation ends with it (R326). -/
def execSetRetire (hd : Nat) (s : State) : Out :=
  let d := getSet s hd
  if d.st = 2 ∧ d.live = 0 ∧ d.reads = 0 ∧ d.rows = [] then
    .next (if pagesHeld s hd = [] then rbNext (retireSet hd (endContexts hd s)) else checkpointAgain hd s) else .next s

/-- ARB_ENABLE: ARB.CTRL.EN starts or stops placement (R310). -/
def execArbEnable (v : Bool) (s : State) : Out := .next (putB F.ARB_STATUS_RUNNING v (putB F.ARB_CTRL_EN v s))

/-- ARB_CLR_CNT: the counters at 0x040 to 0x068 are cleared (R309, R310). -/
def execArbClrCnt (s : State) : Out :=
  .next (clearAll [F.ARB_ROWS_SEALED, F.ARB_PAD_ROWS, F.ARB_PAD_BLOCKS, F.ARB_SEALS_FUA, F.ARB_SEALS_PRESSURE,
    F.ARB_DROPPED, F.ARB_FRAG_WAIT, F.ARB_CELL_REASSIGN] s)

/-- The placement state of an arbour from its controls: OFFLINE prevails over DRAIN (R276, R312). -/
def arbState (a : Nat) (s : State) : State :=
  put (F.ARB_AR_STATUS_PSTATE a) (if isSet s (F.ARB_AR_CTRL_OFFLINE a) then 2 else if isSet s (F.ARB_AR_CTRL_DRAIN a) then 1 else 0) s

/-- ARBOUR_DRAIN: AR.CTRL.DRAIN puts an arbour into or out of DRAINING (R276). -/
def execArbourDrain (a : Nat) (v : Bool) (s : State) : Out :=
  .next (when (arbInst s a) (fun u => arbState a (putB (F.ARB_AR_CTRL_DRAIN a) v u)) s)

/-- ARBOUR_OFFLINE: AR.CTRL.OFFLINE puts an arbour OFFLINE or back; the rebuild contexts below it pause with their cursors
kept (R276, R308, R335). -/
def execArbourOffline (a : Nat) (v : Bool) (s : State) : Out :=
  .next (when (arbInst s a) (fun u => arbState a (putB (F.ARB_AR_CTRL_OFFLINE a) v (tickContexts u))) s)

end Sys2Proof.Machine
end

