-- ==== Sys2Proof/Machine/Mount.lean ====
section
/-! DEFINITION. Mounting and dismounting a disc (R51, R52, R170, R271, R295 to R301, R321). -/

namespace Sys2Proof.Machine

/-- Whether a bay of a leaf may take a disc (R271, R276, R301, R321, R444): free, in service, not avoided or parked, its leaf not
OFFLINE and its link up. -/
def bayFree (s : State) (l b : Nat) : Bool :=
  bayInst s b && decide ((mountOf s b).phase = 0) && decide (b ∉ s.lib.bayOut) && decide (b ∉ s.thm.parked) && decide (bitOf (get s (F.ARB_AR_AVOID l)) b = 0)
    && linkUp s b && (pathUp s 16 l).all fun a => decide (get s (F.ARB_AR_STATUS_PSTATE a) ≠ 2)

/-- The bay a disc mounts in (R295, R300): the free bay of its leaf with the fewest mounts, the lowest among equals; a disc that
failed in a bay takes another. -/
def chooseBay (s : State) (l d : Nat) : Option Nat :=
  let x := getDisc s d
  let bs := (leafBays s l).filter fun b => bayFree s l b && !(decide (x.failRun = 1) && decide (x.failBay = b))
  bs.foldl (fun m b => match m with
    | none => some b
    | some a => if (mountOf s b).count < (mountOf s a).count then some b else some a) none

/-- The carousel brings a disc's slot to a bay (R245, R271). -/
def slotTo (b d : Nat) (s : State) : State :=
  let c := carOfBay s b
  let slot := (d % 288 + Config.baySlot b) % 288
  match moveRefused s c slot with
  | some r => cmotResult c 0 r s
  | none => moveCar c slot 0 (cmotResult c 0 0 (putAll [(F.CMOT_CMD_TARGET c, slot), (F.CMOT_CMD_DIR c, 0)] s))

/-- The carousel holds with a disc's slot at a bay. -/
def slotThere (s : State) (b d : Nat) : Bool :=
  let c := carOfBay s b
  decide (cmotSt s c = 2) && decide (get s (F.CMOT_STATUS_SLOT c) = (d % 288 + Config.baySlot b) % 288)

/-- MOUNT (R33, R271, R295 to R297, R300, R413): the disc that carries the work its leaf serves next comes to a bay; its sleds go to the band of
its lowest ordinal. Foreign, unreadable and released discs are not mounted for data. -/
def execMount (d : Nat) (s : State) : Out :=
  let l := leafOfDisc s d
  let st := (getDisc s d).state
  let up := (baysOf s).any fun b => decide ((mountOf s b).phase ≠ 0) && decide ((mountOf s b).disc = d)
  if isSet s F.ARB_CTRL_EN = false ∨ 1152 ≤ d ∨ isLeaf s l = false ∨ leafCar s l ≠ d / 288 ∨ st = 0 ∨ (6 ≤ st ∧ st ≤ 9)
      ∨ 2 ≤ (getDisc s d).failRun ∨ up = true ∨ isFront s d = false then .next s
  else match chooseBay s l d with
    | none => .next s
    | some b => .next (slotTo b d (updMount b (fun m =>
        { m with disc := d, phase := 1, band := firstBandOf s d, leave := false, empty := false }) s))

/-- The spindle stops and the lenses retract; pending sectors of the ladder are truncated, and what the heads know of the disc's incomplete
sectors stays with the parity engine (R148, R195, R239, R271). -/
def startDismount (b : Nat) (s : State) : State :=
  let m := mountOf s b
  let s1 := dropSectors (2 * b + 1) (dropSectors (2 * b) (truncateLadder (2 * b + 1) (truncateLadder (2 * b) s)))
  let s2 := stopSpindle b (retractBay b s1)
  updMount b (fun m' => { m' with phase := 6, leave := false, time := m'.time + (if m.phase = 5 then now s - m.since else 0) }) s2

/-- A head of a bay in an extent, its verify or its spare passes, unless HALTED (R170). -/
def bayWriting (s : State) (b : Nat) : Bool :=
  [2 * b, 2 * b + 1].any fun h => headInst s h && decide (1 ≤ get s (F.WRP_STATUS_STATE h)) && decide (get s (F.WRP_STATUS_STATE h) ≤ 5)

/-- A dismount is ordered: at once, or after the extent under way with its verify and spare passes (R170). -/
def orderDismount (b : Nat) (s : State) : State :=
  if bayWriting s b then updMount b (fun m => { m with leave := true }) s else startDismount b s

/-- RECORD_AREA_SCAN and DESCRIPTOR_SELECT (R51, R52, R57): what reading the record areas of the disc in a bay gives. A disc whose copies
disagree, or without a valid generation, raises the event of the bay's side A head; without one it mounts for reading only. -/
def scanRecords (b d : Nat) (areas : List (Nat × List SlotRead)) (s : State) : State :=
  let s1 := updDisc d (scanDisc areas) s
  if (getDisc s d).state = 1 ∨ (getDisc s d).state = 15 then s1
  else
    let s2 := updDisc d selectDescriptor s1
    pageChanged 0xc1 (if (getDisc s2 d).flags % 4 = 0 then s2 else headEvent (2 * b) s2)

/-- A mount is complete: it is counted for the disc, the bay and the arbours above (R300, R312); the disc's outstanding descriptor generations
are written (R278), except on a disc mounted read-only for its identification (R413); a worn disc raises its set. -/
def mounted (b : Nat) (s0 : State) : State :=
  let s := tickContexts s0
  let d := (mountOf s b).disc
  let n := (getDisc s d).mounts + 1
  let s1 := updDisc d (fun x => if d ∈ s.host.importQ then { x with mounts := n, failRun := 0 } else writeOwed { x with mounts := n, failRun := 0 })
    (updMount b (fun m => { m with phase := 5, since := now s, busyAt := now s, count := m.count + 1 }) s)
  let s2 := forAll (pathUp s 16 (leafOfBay s b)) (fun a => bump (F.ARB_AR_MOUNTS a) 1) s1
  let hd := (getDisc s d).set
  pageChanged 0xc2 (if get s F.ARB_CONS_MOUNT_WARN < n ∧ hd ≠ 0xffff then updSet hd (fun x => { x with raised := true }) s2 else s2)

/-- A mount fails in a phase (R321): counted; the first failure puts the bay out of service, and the disc leaves the bay. -/
def mountFailed (b : Nat) (s : State) : State :=
  let d := (mountOf s b).disc
  let n := (getDisc s d).failRun + 1
  let s1 := updDisc d (fun x => { x with fails := x.fails + 1, failRun := n, failBay := b }) (updMount b (fun m => { m with fails := m.fails + 1 }) s)
  let s2 := if n = 1 then { s1 with lib := { s1.lib with bayOut := if b ∈ s1.lib.bayOut then s1.lib.bayOut else s1.lib.bayOut ++ [b] } } else s1
  pageChanged 0xc2 (startDismount b (refreshArbours s2))

/-- A loader at rest on an end (R90, R253, R271). -/
def loaderAt (s : State) (b : Nat) (extended : Bool) : Bool :=
  decide ((axOf s b 2).v2 = 0) && inputActive s b (limitIn 2 extended)

/-- The disc has left a bay: what its heads knew of it no longer holds. -/
def discGone (b : Nat) (s : State) : State :=
  forAll [2 * b, 2 * b + 1] (fun h t => clearConfirm h (put (F.CH_STATUS_MEDIA_ID_VALID h) 0 (updChan h (fun c =>
    { c with last := none, expect := none, mid := [], foreignRun := 0, foreign := false, bands := [] })
      (updWrite h (fun w => { w with calDone := [], prev := [], prevOf := none }) t))))
    (updMount b (fun m => { m with phase := 0, disc := 0, leave := false }) s)

/-- The microsteps of a sled at the radius of a band's start (R29, R253). -/
def bandSteps (s : State) (b a band : Nat) : Int :=
  roundQuot (((24000000 + 3630 * band : Nat) - (1000 * get s (F.MOV_AX_ORIGIN b a) : Nat)) * (axScale s b a : Nat)) 1000000

/-- MOUNT_PHASE_END (R271, R51, R52, R321): the phase under way in a bay has ended, or has failed where `ok` is false; the next
starts. A tray whose disc-present input is inactive after the loader phase carries no disc (R413). At the end of the calibration phase the record areas are scanned, or foreign media are dismounted (R33); at the end of phase 5 a
dismount that waited starts. -/
def execMountPhaseEnd (b : Nat) (ok : Bool) (areas : List (Nat × List SlotRead)) (s : State) : Out :=
  let m := mountOf s b
  let d := m.disc
  if bayInst s b = false ∨ m.phase = 0 then .next s
  else if ok = false then (if m.phase ≤ 4 then .next (mountFailed b s) else .next s)
  else if m.phase = 1 then
    if slotThere s b d = false ∨ loaderAt s b true = false
        ∨ ([0, 1].any fun a => decide (axMm s b a 1 < 2 * (axPos s b a).natAbs)) = true then .next s
    else .next (axMoveTo b 2 0 (updMount b (fun m => { m with phase := 2 }) s))
  else if m.phase = 2 then
    if loaderAt s b false = false then .next s
    else if inputActive s b 6 = false then
      .next (if d ∈ s.host.importQ then startDismount b (updMount b (fun m => { m with empty := true }) s) else mountFailed b s)
    else .next (axMoveTo b 1 (bandSteps s b 1 m.band) (axMoveTo b 0 (bandSteps s b 0 m.band)
      (setSpeed b 9600 (updMount b (fun m => { m with phase := 3 }) s))))
  else if m.phase = 3 then
    if get s (F.MOT_STATUS_SPEED_LOCK b) = 0 then .next s
    else .next (forAll ([2 * b, 2 * b + 1].filter (headInst s)) (fun h => pullIn h 0 true) (updMount b (fun m => { m with phase := 4 }) s))
  else if m.phase = 4 then
    if ([2 * b, 2 * b + 1].any fun h => headInst s h && (decide (get s (F.SV_STATUS_STATE h) < 4) || decide (8 < get s (F.SV_STATUS_STATE h)))) then
      .next s
    else if (getDisc s d).state = 6 then .next (startDismount b s)
    else .next (mounted b (scanRecords b d areas s))
  else if m.phase = 5 then (if m.leave = true ∧ bayWriting s b = false then .next (startDismount b s) else .next s)
  else if m.phase = 6 then
    if motSt s b ≠ 0 then .next s
    else .next (slotTo b d (axMoveTo b 1 0 (axMoveTo b 0 0 (updMount b (fun m => { m with phase := 7 }) s))))
  else if m.phase = 7 then
    if slotThere s b d = false then .next s
    else .next (axMoveTo b 2 (axMm s b 2 180) (updMount b (fun m => { m with phase := 8 }) s))
  else if loaderAt s b true = false then .next s
  else .next (discGone b s)

/-- The bays of a leaf that carry a mounted disc, and those whose disc has no pending request. -/
def fullBays (s : State) (l : Nat) : List Nat := (leafBays s l).filter fun b => decide ((mountOf s b).phase = 5)
def idleBays (s : State) (l : Nat) : List Nat := (fullBays s l).filter fun b => decide (openOn s (mountOf s b).disc = [])

/-- Work of a leaf waits for a bay (R297). -/
def bayNeeded (s : State) (l : Nat) : Bool :=
  match frontOf s l with
  | none => false
  | some n => (chooseBay s l n.disc).isNone

/-- A disc that stays mounted has a place there: its bay is not under relief or parked, the disc is fit for data, and no lower power state is
being entered (R301, R413, R444, R521). -/
def mayStay (s : State) (b : Nat) : Bool :=
  let st := (getDisc s (mountOf s b).disc).state
  decide (bitOf (get s (F.ARB_AR_AVOID (leafOfBay s b))) b = 0) && decide (b ∉ s.thm.parked) && decide (st ≠ 0) && !(decide (6 ≤ st) && decide (st ≤ 9))
    && decide (s.pwr.phase = 0)

/-- DISMOUNT (R170, R271, R297, R301): a bay whose disc has no pending request is dismounted where its disc may not stay, or where a bay is
needed and none of its leaf has been idle for longer, the lowest among equals. A bay under relief gives its disc to a free bay of the leaf once
the batch has lasted MOUNT_HOLD_MAX (R301, R335). -/
def execDismount (b : Nat) (s : State) : Out :=
  let l := leafOfBay s b
  let at' (x : Nat) : Nat := (mountOf s x).busyAt
  let moves := decide (bitOf (get s (F.ARB_AR_AVOID l)) b = 1) && (chooseBay s l (mountOf s b).disc).isSome
    && elapsed s (mountOf s b).since (156250000 * get s F.ARB_SCHED_MOUNT_HOLD_MAX)
  if bayInst s b = true ∧ b ∈ fullBays s l ∧ moves = true then .next (orderDismount b s)
  else if bayInst s b = false ∨ b ∉ idleBays s l then .next s
  else if mayStay s b = false ∨ (bayNeeded s l && (idleBays s l).all fun x => decide (at' b < at' x) || (decide (at' b = at' x) && decide (b ≤ x))) = true then
    .next (orderDismount b s)
  else .next s

/-- MOUNT_HOLD_EXPIRY (R297): where no disc of the leaf is idle, a waiting request of higher priority ends the batch of the disc with the
lowest-priority work, in the lowest bay, after MOUNT_HOLD_MAX. -/
def execMountHoldExpiry (b : Nat) (s : State) : Out :=
  let l := leafOfBay s b
  let rank (x : Nat) : Nat := (discPrio s (mountOf s x).disc).getD 9
  let worst := (fullBays s l).all fun x => decide (rank x < rank b) || (decide (rank x = rank b) && decide (b ≤ x))
  match frontOf s l with
  | none => .next s
  | some n =>
    if bayInst s b = false ∨ b ∉ fullBays s l ∨ idleBays s l ≠ [] ∨ bayNeeded s l = false ∨ worst = false ∨ rank b ≤ n.prio
        ∨ elapsed s (mountOf s b).since (156250000 * get s F.ARB_SCHED_MOUNT_HOLD_MAX) = false then .next s
    else .next (orderDismount b s)

end Sys2Proof.Machine
end

