-- ==== Sys2Proof/Machine/Reset.lean ====
section
/-! DEFINITION. What the stops and the resets share: stopping the mechanism, the dump to the vault, the declaration of a power
loss, and the chip reset (R421, R429 to R431, R448, R522, R539, R542, R556). -/

namespace Sys2Proof.Machine

/-- The mechanism stops (R170, R195, R239, R270, R430): gates closed, heads retracted, spindles to COAST, stepper enables
cleared, carousel inverters off. -/
def stopMechanism (s : State) : State :=
  let s1 := forAll (headsOf s) (fun h t => retractHead h 0 (closeGate h t)) s
  let s2 := forAll (baysOf s) (fun b t => stepperOff b (coastSpindle b t)) s1
  forAll (carsOf s) (fun c t => carouselOff c 0 t) s2

/-! ### The vault -/

/-- The journal tail with the map pages changed since the last segment (R421). -/
def fullTail (s : State) : List JournalRecord := s.plp.tail ++ s.lib.jpages.map fun p => .page p (pageWords s p)

/-- The bytes of a journal record: 256 for a row's (R426). -/
def recordSize : JournalRecord → Nat
  | .admitted .. => Config.recordBytes 0
  | .issued .. => 256
  | .durable .. => Config.recordBytes 1
  | .page .. => Config.recordBytes 2
  | .cursor .. => Config.recordBytes 3
  | .remap .. => Config.recordBytes 4
def tailBytes (s : State) : Nat := (s.plp.tail.map recordSize).sum + s.lib.jpages.length * Config.recordBytes 2

/-- The units of the dump: acceptance-stamp order, write-through data after every other unit (R428, R431). -/
def dumpOrder (us : List DirtyUnit) : List DirtyUnit :=
  let byStamp (l : List DirtyUnit) : List DirtyUnit := l.mergeSort fun a b => decide (a.stamp ≤ b.stamp)
  byStamp (us.filter fun u => !u.through) ++ byStamp (us.filter fun u => u.through)
def dumpUnit (s : State) (u : DirtyUnit) : DumpUnit :=
  ⟨u.stamp, u.nsid, u.lba, u.pages.map (bufPeekPage s), u.pages.map (pageBad s), true⟩

/-- LINK_REFCLK and the CORE clock run: without them the vault port and DDR5 have no clock (R518, R542). -/
def clocked (s : State) : Bool := isSet s F.CLK_STATUS_LINK_OK && decide (bitOf (get s F.CLK_STATUS_LOCKED) 0 = 1)

/-- The dump begins while the vault is usable, once (R430, R431, R435, R547): the next header has state 2; the journal tail, the
dirty map lines and the dirty units go to the dump area. During recovery the dump that is held stays (R432, R527). -/
def beginDump (s : State) : State :=
  if !isSet s F.PLP_STATUS_VAULT_OK || !clocked s || isSet s F.PLP_STATUS_RECOVERING || s.plp.dumping || s.plp.dumped then s
  else
    let s1 := writeHeader 2 s
    let v := s1.plp.vault
    let lines := (s.buf.lines.filter fun p => p.2.dirty).map fun p => (p.2.la, p.2.data)
    { s1 with plp := { s1.plp with
        vault := { v with dumpTail := fullTail s, dumpLines := lines, dump := (dumpOrder s.host.units).map (dumpUnit s) },
        dumping := true, lossAt := now s } }

/-- A calibration procedure is abandoned; values already applied stay (R463). -/
def dropCal (s : State) : State :=
  putAll [(F.CAL_STATUS_BUSY, 0), (F.CAL_STATUS_STEP, 0)] { s with cal := { s.cal with job := none, plan := [], waiting := [], written := [] } }

/-- Command fetch stops and no further entry is posted (R430): the commands in slots go without a completion. -/
def silenceHost (s : State) : State :=
  putAll [(F.HST_INFLIGHT, 0), (F.HST_INFLIGHT_C0, 0)] { s with host := { s.host with cmds := [], fetching := [] } }

/-- A power loss is declared, finally and once for a power cycle (R429, R430, R435, R556): nothing while the chip is held in
reset. -/
def declareLoss (s : State) : State :=
  if s.pwr.powerLoss || decide (s.pwr.hold ≠ 0) || s.pwr.dormant then s
  else
    let s1 := silenceHost { s with pwr := { s.pwr with powerLoss := true, phase := 0 }, plp := { s.plp with testV0 := none } }
    beginDump (dropCal (stopMechanism (raise evPLP B.PLP_EVT_POWER_LOSS s1)))

/-! ### The chip reset -/

/-- What a chip reset leaves of the library: the discs with what they carry, the set table as the directory and the discs have
it, the discs that stand at a spindle. -/
def libMedia (l : Lib) : Lib :=
  { discs := l.discs.map fun p => (p.1, { p.2 with importing := false, remaps := [], newRemaps := [] }),
    sets := l.sets.map fun p => (p.1, { p.2 with rows := [], reads := 0, live := 0, consol := false, due := false, session := false }),
    mounts := (l.mounts.filter fun p => decide (3 ≤ p.2.phase) && decide (p.2.phase ≤ 6)).map fun p => (p.1, { disc := p.2.disc, phase := 3 }) }

/-- A chip reset (R522, R539): everything but the always-on domain is at its reset value; retained words, wake timer, fuses,
boot flash, the vault and the media keep their content. Words 0 to 3 take the reset cause, the thermal shutdowns, the time of the
last one and the last power state (R519). -/
def chipReset (trigger : Nat) (s : State) : State :=
  let t : State := { State.reset with
    pending := s.pending, fresh := s.fresh, flash := s.flash, fuse := { s.fuse with op := none },
    lib := libMedia s.lib, par := { ckpt := s.par.ckpt },
    plp := { vault := s.plp.vault, lossWarn := s.plp.lossWarn },
    thm := { shutAt := s.thm.shutAt }, mgt := { restarts := s.mgt.restarts, flash := s.mgt.flash },
    host := { posted := s.host.posted },
    pwr := { hold := 0, perst := s.pwr.perst, railBad := s.pwr.railBad, wakeAcc := s.pwr.wakeAcc } }
  putAll ((List.range 16).map (fun i => (F.PWR_RETAIN i, get s (F.PWR_RETAIN i)))
    ++ [(F.PWR_WAKE_CMP, get s F.PWR_WAKE_CMP), (F.PWR_WAKE_TIME, get s F.PWR_WAKE_TIME),
        (F.PWR_RESET_CAUSE_KIND, 1), (F.PWR_RESET_CAUSE_TRIGGER, trigger),
        (F.PWR_RETAIN 0, 1 + 16 * trigger), (F.PWR_RETAIN 1, s.thm.shutAt.length), (F.PWR_RETAIN 2, s.thm.shutAt.headD 0),
        (F.PWR_RETAIN 3, get s F.PWR_STATUS_STATE)]) t

/-- The chip reset of RESET_N low (R522): the chip is held until the pin rises. -/
def pinReset (trigger : Nat) (s : State) : State :=
  let t := chipReset trigger s
  { t with pwr := { t.pwr with hold := 3 } }

/-- Whether the dumps of the fatal state have ended (R543). -/
def dumpsOver (s : State) : Bool := !s.plp.dumping && !s.mgt.dumping

/-- The fatal hold's release (R543): a chip reset, whose restart counts as a fatal one. -/
def fatalRestart (trigger : Nat) (s : State) : State :=
  let t := get s F.PWR_WAKE_TIME
  let recent := t :: s.mgt.restarts.filter fun x => decide (t < 3600 * 32768 + x)
  let s1 := chipReset trigger { s with mgt := { s.mgt with restarts := recent } }
  putAll [(F.DMP_RESTARTS_HOUR, recent.length), (F.DMP_RESTARTS_TOTAL, satAdd 16 (get s F.DMP_RESTARTS_TOTAL) 1),
    (F.DMP_STATUS_AUTO_BLOCKED, if 3 ≤ recent.length then 1 else 0), (F.DMP_STATUS_IN_FLASH, if s.mgt.flash.isSome then 1 else 0)] s1

/-- A release event in the fatal state (R543, R563): at once where the dumps have ended, else when they do. -/
def releaseFatal (trigger : Nat) (s : State) : State :=
  if !isSet s F.DMP_STATUS_FATAL then s
  else if dumpsOver s then fatalRestart trigger s
  else { s with pwr := { s.pwr with resetDue := trigger } }

end Sys2Proof.Machine
end

