-- ==== Sys2Proof/Machine/Recovery.lean ====
section
/-! DEFINITION. Recovery after the DDR5 contents were lost: the dump's units restored at start-up, and the rebuild of the map
from the directory, the checkpoints, the vault journal and the restored units, or from the discs where there is no vault (R284,
R329, R331, R334, R380, R432 to R434, R525). -/

namespace Sys2Proof.Machine

/-- The units at the head of the dump whose records are intact (R432 step 3). -/
def intactUnits (l : List DumpUnit) : List DumpUnit := l.takeWhile DumpUnit.intact

/-- A unit restored into mirrored pages; its map changes are held and it counts in D_dirty (R432 step 4). -/
def restoreUnit (u : DumpUnit) (s : State) : State :=
  let n := u.blocks.length
  let ps := takePages s n
  let s1 := forAll (List.range n) (fun i t => bufWritePage (ps.getD i 0) (u.blocks.getD i 0) t) s
  let d : DirtyUnit := ⟨u.stamp, u.nsid, u.lba, ps, false⟩
  let bad := (List.range n).filterMap fun i => if u.lost.getD i false then some (u.stamp, u.nsid, u.lba + i) else none
  { s1 with
    host := { s1.host with units := s1.host.units ++ [d] },
    plp := { s1.plp with units := s1.plp.units ++ [d], maskLost := s1.plp.maskLost ++ bad } }

/-- The valid header is selected; after a dump the journal tail, the map lines and the intact units are restored (R432 steps 1 to
4). A vault without a valid header holds nothing yet. -/
def recoverVault (s : State) : State :=
  if !isSet s F.PLP_STATUS_VAULT_OK then { s with plp := { s.plp with noVault := true } }
  else
    let s1 := put F.PLP_STATUS_RECOVERING 1 s
    match validHeader s1.plp.vault with
    | none => s1
    | some h =>
      if h.state = 2 then
        let v := s1.plp.vault
        let s2 := v.dumpLines.foldl (fun t x => ddrWriteLine (128 * x.1) x.2 t)
          { s1 with plp := { s1.plp with tail := v.dumpTail } }
        let s3 := (intactUnits v.dump).foldl (fun t u => restoreUnit u t) s2
        put F.PLP_D_DIRTY (dirtyBytes s3) s3
      else { s1 with plp := { s1.plp with state1 := decide (h.state = 1) } }

/-! ### Map pages -/

/-- A map entry from its 64-bit word (R288). -/
def entryOfWord (w : Nat) : MapEntry :=
  match w / 2 ^ 61 with
  | 1 => .disc (w / 2 ^ 45 % 2 ^ 16) (w / 2 ^ 9 % 2 ^ 36)
  | 2 => .frag (w % 2 ^ 27)
  | 3 => .buffer (w % 2 ^ 29)
  | 7 => .unavailable (w % 2 ^ 8)
  | _ => .unmapped

/-- The fragment tables that the grain map names. -/
def tablesNamed (m : Map MapEntry) : List Nat :=
  (m.filterMap fun p => match p.2 with | .frag t => some t | _ => none).dedup

/-- The 512 entries of a map page put into the map (R293). -/
def loadPage (p : Nat) (ws : List Nat) (s : State) : State :=
  let l := (List.range 512).foldl (fun (l : Lib) i =>
    let e := entryOfWord (ws.getD i 0)
    if p % 2 = 0 then { l with gmap := mapPutD (fun _ => .unmapped) l.gmap (512 * (p / 2) + i) e }
    else { l with frags := mapPutD (fun _ => .unmapped) l.frags (512 * (p / 2) + i) e }) s.lib
  { s with lib := { l with fragUsed := tablesNamed l.gmap } }

/-- The copy of a map page with the highest epoch among the checkpoint sectors read (R525 step 2). -/
def newestCopy (pages : List (Nat × Nat × List Nat)) (p : Nat) : Option (Nat × List Nat) :=
  pages.foldl (fun best x => if decide (x.1 = p) && (match best with | none => true | some b => decide (b.1 < x.2.1)) then some x.2 else best) none

/-! ### The journal -/

/-- What the replay of the journal holds: the machine, the admitted blocks not yet durable (namespace, LBA, stamp), the issued
rows that are not durable (set, ordinal, blocks), the highest ordinal issued per set plus 1, the cursors, the highest stamps. -/
structure Replay where
  st     : State
  pend   : List (Nat × Nat × Nat) := []
  issued : List (Nat × Nat × List (Nat × Nat × Nat)) := []
  top    : Map Nat := []
  curs   : Map Nat := []
  stamp  : Nat := 0
  wstamp : Nat := 0

/-- One journal record; `newer` tells whether it may change a map page whose checkpoint is older (R525 step 3). -/
def replayRecord (newer : Nat → Bool) (x : Replay) : JournalRecord → Replay
  | .admitted stamp nsid lba n =>
    let blocks := (List.range n).map (lba + ·)
    let st := blocks.foldl (fun u b => match grainOf u nsid b with
      | none => u
      | some g => if newer (2 * (g / 512)) then setBlock g (b % 256) 0 (.buffer 0) u else u) x.st
    { x with
      st := st,
      pend := (x.pend.filter fun p => !(decide (p.1 = nsid) && decide (lba ≤ p.2.1) && decide (p.2.1 < lba + n)))
        ++ blocks.map fun b => (nsid, b, stamp),
      stamp := max x.stamp stamp }
  | .issued hd ord wst blocks =>
    { x with
      issued := x.issued ++ [(hd, ord, blocks)],
      top := mapPut x.top hd (max (mapGet (fun _ => 0) x.top hd) (ord + 1)),
      wstamp := max x.wstamp wst }
  | .durable hd ord =>
    match x.issued.find? fun r => decide (r.1 = hd) && decide (r.2.1 = ord) with
    | none => x
    | some r =>
      let base := ord * rowBlocks (getSet x.st hd).width
      let st := (List.range r.2.2.length).foldl (fun u i =>
        let b := r.2.2.getD i (0, 0, 0)
        match grainOf u b.1 b.2.1 with
        | none => u
        | some g => if newer (2 * (g / 512)) ∧ b ∈ x.pend then setBlock g (b.2.1 % 256) 0 (.disc hd (base + i)) u else u) x.st
      { x with
        st := st,
        pend := x.pend.filter fun p => decide (p ∉ r.2.2),
        issued := x.issued.filter fun y => !(decide (y.1 = hd) && decide (y.2.1 = ord)) }
  | .page p ws => if newer p then { x with st := loadPage p ws x.st } else x
  | .cursor key v => { x with curs := mapPut x.curs key v }
  | .remap d home spare =>
    { x with st := updDisc d (fun y =>
        if (home, spare) ∈ recordRemaps y.records ∨ (home, spare) ∈ y.newRemaps then y else { y with newRemaps := y.newRemaps ++ [(home, spare)] }) x.st }

/-- The journal: the ring's segments, each against the epoch of a page's checkpoint, and the restored tail. -/
def replayJournal (pages : List (Nat × Nat × List Nat)) (s : State) : Replay :=
  let newer (e p : Nat) : Bool := match newestCopy pages p with | none => true | some c => decide (c.1 ≤ e)
  let x := s.plp.vault.ring.foldl (fun r g => g.records.foldl (replayRecord (newer g.epoch)) r) ({ st := s } : Replay)
  s.plp.tail.foldl (replayRecord fun _ => true) x

/-! ### The restored units -/

/-- The newest restored unit that holds a block. -/
def unitOf (us : List DirtyUnit) (nsid lba : Nat) : Option DirtyUnit :=
  us.foldl (fun best u =>
    if decide (u.nsid = nsid) && decide (u.lba ≤ lba) && decide (lba < u.lba + u.pages.length)
        && (match best with | none => true | some b => decide (b.stamp ≤ u.stamp)) then some u else best) none

/-- The blocks whose entries read BUFFER: those of units, and those that are lost. -/
def bufferBlocks (s : State) : List (Nat × Nat) :=
  ((s.lib.gmap.map Prod.fst).map fun g => (List.range 256).filterMap fun i =>
    match grainBlock s g i with | .buffer _ => some (g, i) | _ => none).flatten

/-- The entries of the restored units become BUFFER, their blocks are placed again on stream 0, and an admitted block that no
unit holds, or that a lost-block mask names, becomes UNAVAILABLE with cause 5 (R432 to R434). -/
def placeUnits (s : State) : State :=
  let dom := get s (F.ARB_STREAM_DOMAIN 0)
  let us := s.plp.units
  let bad (nsid lba : Nat) : Bool := s.plp.maskLost.any fun m => decide (m.2.1 = nsid) && decide (m.2.2 = lba)
  let one (g i : Nat) (u : State) : State :=
    let b := nsOfGrain u g i
    match unitOf us b.1 b.2 with
    | none => setBlock g i dom (.unavailable 5) u
    | some d => setBlock g i dom (if bad b.1 b.2 then .unavailable 5 else .buffer (d.pages.getD (b.2 - d.lba) 0)) u
  let whole (g : Nat) (u : State) : State :=
    let b := nsOfGrain u g 0
    match grainEntry u g, unitOf us b.1 b.2 with
    | .buffer _, some d =>
      if d.lba = b.2 ∧ d.pages = (List.range 256).map (d.pages.headD 0 + ·)
          ∧ (List.range 256).all (fun i => !bad b.1 (b.2 + i) && decide (unitOf us b.1 (b.2 + i) = some d)) then
        setWholeGrain g dom (.buffer (d.pages.headD 0)) u
      else (List.range 256).foldl (fun t i => one g i t) u
    | .buffer _, none => (List.range 256).foldl (fun t i => one g i t) u
    | _, _ => u
  let s1 := forAll (s.lib.gmap.map Prod.fst) whole s
  let done (g : Nat) : Bool := match grainEntry s g with | .buffer _ => true | _ => false
  let s2 := ((bufferBlocks s).filter fun x => !done x.1).foldl (fun t x => one x.1 x.2 t) s1
  us.foldl (fun t u =>
    let bs := (List.range u.pages.length).filterMap fun i =>
      let p := u.pages.getD i 0
      if lookup t u.nsid (u.lba + i) = .buffer p then some (⟨u.nsid, u.lba + i, p, u.stamp, none⟩ : Block) else none
    if bs = [] then t else placeBlocks 0 dom (get t (F.ARB_STREAM_SLOT 0)) false bs t) s2

/-- What was lost is reported (R434): the stamps of the lost records; where records are gone, the range has no upper bound, and where
none is left it begins after the highest recovered stamp. -/
def reportLoss (lost : List Nat) (gone : Bool) (highest : Nat) (s : State) : State :=
  if lost = [] ∧ gone = false then s
  else
    let first := match lost.min? with | none => highest + 1 | some m => m
    raise evPLP B.PLP_EVT_DATA_LOST (putAll [(F.PLP_LOST_FIRST, first), (F.PLP_LOST_LAST, if gone then 0 else (lost.max?).getD 0)]
      { s with plp := { s.plp with lossWarn := true } })

/-! ### Without a vault -/

/-- A row found above the checkpointed ordinals: its blocks are written again under R169, the map pointing to them (R331). -/
def rewriteRow (hd : Nat) (blocks : List FoundBlock) (s : State) : State :=
  let d := getSet s hd
  let ps := takePages s blocks.length
  let s1 := forAll (List.range blocks.length) (fun i u => bufWritePage (ps.getD i 0) (blocks.getD i ⟨0, 0, 0, 0⟩).value u) s
  let s2 := forAll (List.range blocks.length) (fun i u =>
    let b := blocks.getD i ⟨0, 0, 0, 0⟩
    match grainOf u b.nsid b.lba with
    | none => u
    | some g => setBlock g (b.lba % 256) d.domain (.buffer (ps.getD i 0)) u) s1
  placeBlocks 0 d.domain d.slot false ((List.range blocks.length).map fun i =>
    let b := blocks.getD i ⟨0, 0, 0, 0⟩
    (⟨b.nsid, b.lba, ps.getD i 0, b.stamp, none⟩ : Block)) s2

/-- Rows in the order of their WRITE_STAMPs (R331). -/
def byWriteStamp (rows : List FoundRow) : List FoundRow :=
  rows.mergeSort fun a b => decide (a.wstamp ≤ b.wstamp)

/-! ### The directory -/

/-- The valid directory copy of the higher generation (R525 step 1). -/
def validDirectory (f : Flash) : Option Directory := if dirGen f.dirA < dirGen f.dirB then f.dirB else match f.dirA with | none => f.dirB | some d => some d

/-- What the directory's inventory entry says of a disc, with what its media carry. -/
def discOf (media rec : Disc) : Disc :=
  { rec with descs := media.descs, records := media.records, recNext := media.recNext, recSeq := media.recSeq, ckpts := media.ckpts,
             former := media.former, ckptNext := media.ckptNext, spareUsed := media.spareUsed,
             calResults := media.calResults, calUsed := media.calUsed, remaps := [], newRemaps := media.newRemaps, importing := false }

/-- What the directory's set table says of a set, with the rows that its media carry (R433): an open set goes on at the first
slot group after the highest one issued. -/
def setFrom (media rec : DiscSet) : DiscSet :=
  let top := 64 * ((max media.issued rec.issued + 63) / 64)
  { rec with rows := [], reads := 0, session := false, due := false, consol := rec.lost && rec.consol, copied := 0, live := 0,
             durable := media.durable, holes := media.holes, issued := top, nextOrd := if rec.st = 1 then top else rec.nextOrd }

/-- The directory applied: inventory, set table, namespaces (Not Ready) and the formation counter (R284). -/
def applyDirectory (d : Directory) (s : State) : State :=
  let discs := (List.range 1152).filterMap fun i =>
    let x := discOf (getDisc s i) (mapGet (fun _ => {}) d.discs i)
    if x = {} then none else some (i, x)
  { s with lib := { s.lib with
      discs := discs,
      sets := d.sets.map fun p => (p.1, setFrom (getSet s p.1) p.2),
      spaces := d.spaces.map fun n => { n with ready := false },
      formCtr := d.formCtr + 1 } }

/-- No directory: every slot is imported and the sets come from the discs' descriptors (R413, R525). -/
def noDirectory (s : State) : State :=
  raise evPWR B.PWR_EVT_DIR_FAIL { s with
    lib := { s.lib with discs := s.lib.discs.map fun p => (p.1, { p.2 with importing := true }) },
    host := { s.host with importQ := List.range 1152 } }

/-! ### The rebuild -/

/-- An open set's rows issued without durability are damaged, and it continues after the highest issued slot group (R433). -/
def inFlight (x : Replay) (hd : Nat) (s : State) : State :=
  updSet hd (fun d =>
    let holes := (x.issued.filter fun r => decide (r.1 = hd) && decide (r.2.1 ∉ d.durable) && decide (r.2.1 ∉ d.holes)).map fun r => r.2.1
    let top := 64 * ((max d.issued (mapGet (fun _ => 0) x.top hd) + 63) / 64)
    if d.st = 1 then { d with holes := holes ++ d.holes, issued := top, nextOrd := top } else { d with holes := holes ++ d.holes }) s

/-- Live counts, fragment tables and unavailable blocks from the map (R280, R291, R292). -/
def recount (s : State) : State :=
  let dom := get s (F.ARB_STREAM_DOMAIN 0)
  let un := ((s.lib.gmap.map Prod.fst).map fun g => (List.range 256).filterMap fun i =>
    match grainBlock s g i with | .unavailable _ => some (256 * g + i, dom) | _ => none).flatten
  let used := tablesNamed s.lib.gmap
  fragMarks { s with lib := { s.lib with
    sets := s.lib.sets.map fun p => (p.1, { p.2 with live := (blocksOfSet s p.1).length }),
    unavail := un,
    fragUsed := used,
    frags := s.lib.frags.filter fun p => decide (p.1 / 256 ∈ used) } }

/-- The spare that a failed member already took: the disc that carries its set and index and is not the member (R323). -/
def spareOf (s : State) (hd m : Nat) : Option Nat :=
  (s.lib.discs.find? fun p => decide (p.2.set = hd) && decide (p.2.member = m) && decide ((getSet s hd).members.getD m 0 ≠ p.1)
    && decide (2 ≤ p.2.state) && decide (p.2.state ≤ 3)).map Prod.fst

/-- A rebuild context resumes from the later of its two recorded cursors, with START2 as it was recorded with it (log entry 83), and reads its
spares forward from there (R329); a member without a spare begins anew. Where MEMBER2 alone is left, it was wrapping: its rows from START2 on
are written. -/
def resumeRebuild (curs : Map Nat) (hd : Nat) (s0 : State) : State :=
  let d := getSet s0 hd
  let m := d.failed.headD 0
  let recorded (key : Nat) : Nat := max (mapGet (fun _ => 0) curs key) (mapGet (fun _ => 0) s0.par.ckpt key)
  if d.failed = [] ∨ d.lost = true ∨ rbHolds s0 hd = true then s0
  else
    let s := rbTake hd s0
    match spareOf s hd m, (List.range 16).find? fun i => decide (get s (F.PAR_RB_SET i) = hd) && decide (rbState s i = Rb.idle) with
    | some x, some i =>
      let s1 := putAll [(F.PAR_RB_SPARES_1 i, x), (F.PAR_RB_CURSOR i, recorded hd), (F.PAR_RB_END i, d.nextOrd), (F.PAR_RB_STATUS_STATE i, Rb.mount)] s
      let s2 := { s1 with par := { s1.par with probing := s1.par.probing ++ [i], rateAt := mapPut s1.par.rateAt i (now s1) } }
      match d.failed with
      | [_, m2] => putAll [(F.PAR_RB_STATUS_MEMBER2 i, m2), (F.PAR_RB_STATUS_MEMBER2_VALID i, 1), (F.PAR_RB_START2 i, recorded (131072 + hd)),
          (F.PAR_RB_SPARES_2 i, (spareOf s2 hd m2).getD 0x7ff)] s2
      | _ => if recorded (131072 + hd) = 0 then s2
             else { s2 with par := { s2.par with have1 := mapPut s2.par.have1 i (recorded (131072 + hd)) } }
    | _, _ => rbNext s

/-- A reshape resumes from the journal's cursor while there is a vault, else from the last cursor written to disc; it counts the blocks that it
finds removed (R334). -/
def resumeReshape (curs : Map Nat) (key : Nat) (s : State) : State :=
  let hd := key - 65536
  let disc := mapGet (fun _ => 0) s.par.ckpt key
  let cur := if s.plp.noVault then disc else mapGet (fun _ => disc) curs key
  match (List.range 4).find? fun j => decide (get s (F.PAR_RS_STATUS_STATE j) ≠ 1) with
  | none => s
  | some j =>
    if key < 65536 ∨ 131072 ≤ key ∨ (getSet s hd).st ≠ 2 ∨ (getSet s hd).nextOrd ≤ cur ∨ reshaping s hd then s
    else
      let s1 := putAll [(F.PAR_RS_CURSOR j, cur), (F.PAR_RS_CKPT j, disc)] (startReshape j hd s)
      { s1 with par := { s1.par with resumed := s1.par.resumed ++ [j] } }

/-- The map pages of the checkpoint sectors of every readable member of every set (R525 step 2): index, epoch and entries; and the highest
stamps that the sectors hold (R284, R380). -/
def memberCkpts (s : State) : List CkptSector :=
  (s.lib.discs.filter fun p => decide (2 ≤ p.2.state) && decide (p.2.state ≤ 4) && decide (p.2.member ∉ (getSet s p.2.set).unread)).flatMap fun p =>
    p.2.ckpts.filter fun c => decide (c.slot < p.2.ckptNext)
def ckptPages (s : State) : List (Nat × Nat × List Nat) := (memberCkpts s).flatMap fun c => c.pages.map fun p => (p.1, c.epoch, p.2)
def ckptStamp (s : State) : Nat := ((memberCkpts s).map CkptSector.stamp).foldl max 0
def ckptWstamp (s : State) : Nat := ((memberCkpts s).map CkptSector.wstamp).foldl max 0

/-- A row found by the scan (R331): its blocks are written again; where it is not recoverable at some index, the others count as salvaged and
the lost ones become UNAVAILABLE (R320). -/
def recoverRow (r : FoundRow) (s : State) : State :=
  let dom := (getSet s r.set).domain
  let s1 := rewriteRow r.set r.blocks s
  if r.lost = false then s1
  else
    let s2 := r.gone.foldl (fun u b => match grainOf u b.1 b.2 with
      | none => u
      | some g => setBlock g (b.2 % 256) dom (.unavailable 1) u) s1
    let s3 := raise evPAR B.PAR_EVT_ROW_LOST (bump F.PAR_ROWS_LOST 1 (bump F.PAR_SALVAGED r.blocks.length s2))
    raise (evAR dom) B.ARB_AR_EVT_UNAVAILABLE (updSet r.set (fun d => { d with lostRows := r.ord :: d.lostRows }) s3)

/-- The open sets of a domain whose geometry the tablature has changed stop (R332). -/
def stopChanged (s : State) : State :=
  forAll ((s.lib.sets.filter fun p => decide (p.2.st = 1) && decide (p.2.width ≠ get s (F.ARB_AR_CFG_K p.2.domain) + 2)).map Prod.fst) sealSet s

/-- R525 steps 2 and 3 with the counters of R284 and R380, over the directory applied. -/
def rebuildMap (rows : List FoundRow) (dirStamp : Nat) (s : State) : State :=
  let pages := ckptPages s
  let s1 := (pages.map Prod.fst).dedup.foldl (fun u p => match newestCopy pages p with | none => u | some c => loadPage p c.2 u) s
  let x : Replay := if s.plp.noVault then { st := s1 } else replayJournal pages s1
  let s2 := forAll (handles x.st) (inFlight x) x.st
  let gone := s2.plp.noVault || s2.plp.state1
  let s3 := placeUnits s2
  let found := if s2.plp.noVault then byWriteStamp rows else []
  let s5 := found.foldl (fun u r => recoverRow r u) s3
  let seen := found.map fun r => (r.set, r.ord)
  let s6 := seen.foldl (fun u r => updSet r.1 (fun d =>
    let top := max d.issued (64 * (r.2 / 64) + 64)
    if r.2 ∈ d.durable ∨ r.2 ∈ d.holes then { d with issued := top, nextOrd := max d.nextOrd top }
    else { d with holes := r.2 :: d.holes, issued := top, nextOrd := max d.nextOrd top }) u) s5
  let head := match validHeader s.plp.vault with | none => 0 | some h => if s.plp.noVault then 0 else h.stamp
  let highest := (found.map fun r => (r.blocks.map fun b => b.stamp).foldl max 0).foldl max (max x.stamp (max (ckptStamp s) head))
  let wst := (found.map fun r => r.wstamp).foldl max (max x.wstamp (max (ckptWstamp s) dirStamp))
  let lostStamps := (x.pend.filter fun p => decide (lookup s6 p.1 p.2.1 = .unavailable 5)).map (fun p => p.2.2)
    ++ s.plp.maskLost.map Prod.fst
  let bare := (bufferBlocks s2).any fun b => decide (grainBlock s6 b.1 b.2 = .unavailable 5)
  let s7 := reportLoss lostStamps (gone || bare) highest s6
  let epoch := (s.plp.vault.ring.map Segment.epoch ++ pages.map fun p => p.2.1).foldl max 0 + 1
  let s8 := putAll [(F.HST_STAMP, max (get s7 F.HST_STAMP) (2 ^ 20 + highest)), (F.ARB_WSTAMP, 2 ^ 20 + wst),
    (F.ARB_EPOCH, max (get s7 F.ARB_EPOCH) epoch)] { s7 with lib := { s7.lib with maxStamp := max s7.lib.maxStamp highest } }
  let s9 := forAll (handles s8) (resumeRebuild x.curs) (recount s8)
  let s10 := stopChanged <| forAll (x.curs.map Prod.fst ++ s9.par.ckpt.map Prod.fst).dedup (resumeReshape x.curs) s9
  parStatus (refreshArbours (putAll [(F.PWR_MAP_PROGRESS_STEP, 4), (F.PWR_MAP_PROGRESS_FRAC, 65535), (F.PWR_STATUS_COLD, 1)] s10))

/-- MAP_REBUILD: placement rebuilds the map (R525) from the directory, the checkpoint sectors, the journal and the restored units and, where there
is no vault, from the rows that the scan of R331 has found on the discs. Without a valid directory every slot is imported first. -/
def execMapRebuild (rows : List FoundRow) (s : State) : Out :=
  if !s.pwr.rdyOk || isSet s F.PWR_STATUS_MAP_READY || isSet s F.DMP_STATUS_FATAL || s.pwr.powerLoss then .next s
  else
    let s0 := put F.PWR_STATUS_START_STEP 15 { s with lib := { s.lib with gmap := [], frags := [], fragUsed := [], unavail := [], filling := [] } }
    match validDirectory s.flash with
    | some d => .next (rebuildMap rows d.wstamp (applyDirectory d s0))
    | none =>
      if get s F.PWR_MAP_PROGRESS_STEP = 0 then .next (put F.PWR_MAP_PROGRESS_STEP 1 (noDirectory s0))
      else if s.host.importQ ≠ [] then .next s
      else .next (rebuildMap rows 0 s0)

/-- MAP_READY: the rebuild ends after a barrier: every namespace is ready, a header of state 1 is written and the dump is no longer
needed (R432 step 5, R524, R525); with RESHAPE_AUTO the sets of an older geometry begin to be reshaped (R333). -/
def execMapReady (s : State) : Out :=
  if isSet s F.PWR_STATUS_MAP_READY || decide (get s F.PWR_MAP_PROGRESS_STEP ≠ 4) || isSet s F.DMP_STATUS_FATAL || s.pwr.powerLoss then .next s
  else
    let s1 := { s with lib := { s.lib with spaces := s.lib.spaces.map fun n => { n with ready := true } } }
    let s2 := raise evPWR B.PWR_EVT_MAP_READY (putAll [(F.PWR_STATUS_MAP_READY, 1), (F.PWR_STATUS_START_STEP, 16),
      (F.PWR_START_TIME_MAP, min 65535 (now s / 156250000))] s1)
    let s3 := updateHeader 1 s2
    .next (reshapeAuto (if isSet s3 F.PLP_STATUS_RECOVERING then
        raise evPLP B.PLP_EVT_RECOVERED (put F.PLP_STATUS_RECOVERING 0 { s3 with plp := { s3.plp with units := [], maskLost := [] } })
      else s3))

end Sys2Proof.Machine
end

