-- ==== Sys2Proof/Machine/Thermal.lean ====
section
/-! DEFINITION. Thermal management: the sensors and thresholds, relief, throttle and enforcement, laser conditions and the junction
shutdown (R438 to R452). -/

namespace Sys2Proof.Machine

/-! ### The die grid -/

/-- The neighbours of a die sensor: at most one row and one column away (R438). -/
def gridNeighbours (i : Nat) : List Nat :=
  (List.range 64).filter fun j => decide (j ≠ i) && decide (max (i / 8) (j / 8) - min (i / 8) (j / 8) ≤ 1)
    && decide (max (i % 8) (j % 8) - min (i % 8) (j % 8) ≤ 1)

def excluded (s : State) (i : Nat) : Bool := decide (bitOf (get s F.THM_EXCLUDED) i = 1)

/-- Twice a sensor's distance from the median of its accepted neighbours, or none where fewer than 3 are accepted (R439). -/
def medianGap (s : State) (die : Map Int) (i : Nat) : Option Nat :=
  let l := (((gridNeighbours i).filter fun j => !excluded s j).map fun j => mapGet (fun _ => 0) die j).mergeSort fun a b => decide (a ≤ b)
  if l.length < 3 then none
  else some (2 * mapGet (fun _ => 0) die i - (l.getD ((l.length - 1) / 2) 0 + l.getD (l.length / 2) 0)).natAbs

/-- The exclusion and readmission of one sensor (R439); `old` is the state before the sample. -/
def gridCheck (old : State) (die : Map Int) (i : Nat) (s : State) : State :=
  let tol := get s F.THM_NB_NB_TOL
  let t := s.thm
  match medianGap old die i with
  | none => putBit F.THM_EXCLUDED i false { s with thm := { t with outside := mapErase t.outside i, inside := mapErase t.inside i } }
  | some g =>
    if excluded old i then
      let n := if 2 * g ≤ 2 * tol then mapGet (fun _ => 0) t.inside i + 1 else 0
      let s1 := { s with thm := { t with inside := mapPut t.inside i n } }
      if 100 ≤ n then putBit F.THM_EXCLUDED i false { s1 with thm := { s1.thm with inside := mapErase t.inside i } } else s1
    else
      let n := if 2 * tol < g then mapGet (fun _ => 0) t.outside i + 1 else 0
      let s1 := { s with thm := { t with outside := mapPut t.outside i n } }
      if 3 ≤ n then
        raise evTHM B.THM_EVT_SENSOR_EXCL (bump F.THM_EXCLUSIONS 1 (putBit F.THM_EXCLUDED i true
          { s1 with thm := { s1.thm with outside := mapErase t.outside i } }))
      else s1

/-- The hottest accepted sensor, the lowest among equals. -/
def hottest (s : State) (die : Map Int) : Option (Nat × Int) :=
  (List.range 64).foldl (fun m i =>
    let v := mapGet (fun _ => 0) die i
    if excluded s i then m
    else match m with
      | none => some (i, v)
      | some x => if x.2 < v then some (i, v) else m) none

/-- The junction thresholds in 1/16 °C, 5 °C lower while the grid is degraded (R439). -/
def junction (s : State) (f : Fld) : Int := 16 * ((get s f : Int) - if isSet s F.THM_STATUS_GRID_DEGRADED then 5 else 0)

/-- A threshold with hysteresis in the reading's unit (R441). -/
def hysteresis (was : Bool) (t thr hyst : Int) : Bool := if thr ≤ t then true else was && decide (thr - hyst ≤ t)

/-! ### Enforcement -/

/-- The head limit of a step (R444). -/
def headLimit (n : Nat) : Nat := [64, 48, 32, 16, 8].getD n 8

/-- The heads that are not parked. -/
def activeHeads (s : State) : Nat := ((headsOf s).filter fun h => decide (bayOf h ∉ s.thm.parked)).length

/-- A bay is parked: its heads retracted and off, its spindle stopped, after a running extent's end (R170, R444). A write session that it takes
part in ends (R450). -/
def parkBay (b : Nat) (s : State) : State := settlePark b (tickContexts { s with thm := { s.thm with parked := s.thm.parked ++ [b] } })

/-- A bay is unparked: its heads' links are enabled, and a mounted disc spins up again. -/
def unparkBay (b rpm : Nat) (s : State) : State :=
  let on (h : Nat) (t : State) : State := if headInst t h then put (F.HL_CTRL_EN h) 1 t else t
  let s1 := on (2 * b + 1) (on (2 * b) { s with thm := { s.thm with parked := s.thm.parked.filter (· ≠ b) } })
  if (mountOf s b).phase = 5 then setSpeed b rpm s1 else s1

/-- The next bay to park: under relief first, then the lowest priority of its work (R296, R444); the lowest bay among equals. -/
def nextToPark (s : State) : Option Nat :=
  let rank (b : Nat) : Nat :=
    let m := mountOf s b
    if b ∈ s.thm.relief then 100 else if m.phase = 0 then 50 else (discPrio s m.disc).getD 50
  ((baysOf s).filter fun b => decide (b ∉ s.thm.parked)).foldl (fun m b => match m with
    | none => some b
    | some a => if rank a < rank b then some b else some a) none

/-- Bays parked down to a limit, one after the other. -/
def parkDown (limit : Nat) : Nat → State → State
  | 0, s => s
  | n + 1, s =>
    if activeHeads s ≤ limit then s
    else match nextToPark s with
      | none => s
      | some b => parkDown limit n (parkBay b s)

/-- Bays unparked up to a limit, the last parked first. -/
def unparkUp (limit rpm : Nat) : Nat → State → State
  | 0, s => s
  | n + 1, s =>
    match s.thm.parked.getLast? with
    | none => s
    | some b =>
      let heads := ((headsOf s).filter fun h => decide (bayOf h = b)).length
      if activeHeads s + heads ≤ limit then unparkUp limit rpm n (unparkBay b rpm s) else s

/-- A bay that reads: its spindle turns for 9,600 rpm and it is not parked (R240). -/
def isReading (s : State) (b : Nat) : Bool :=
  decide (b ∉ s.thm.parked) && decide (1 ≤ motSt s b) && decide (motSt s b ≤ 5) && decide ((spinOf s b).target = 9600)

/-- The enforcement step in force changes (R444, R446). -/
def enforce (n : Nat) (s : State) : State :=
  let old := get s F.THM_ENF_STEP
  if n = old then s
  else
    let s1 := raise evTHM B.THM_EVT_ENF_CHANGE (put F.THM_ENF_STEP n s)
    let s2 := if old = 0 then bump F.THM_THROTTLES_ENF 1 s1 else s1
    if old < n then
      let s3 := parkDown (headLimit n) 32 s2
      let slow := (baysOf s3).filter (isReading s3)
      let s4 := forAll slow (fun b t => setSpeed b 4800 t) s3
      { s4 with thm := { s4.thm with slowed := s4.thm.slowed ++ slow } }
    else
      let s3 := unparkUp (headLimit n) (if n = 0 then 9600 else 4800) 32 s2
      if n = 0 then
        let s4 := forAll (s3.thm.slowed.filter fun b => decide (1 ≤ motSt s3 b) && decide (motSt s3 b ≤ 5)) (fun b t => setSpeed b 9600 t) s3
        { s4 with thm := { s4.thm with slowed := [] } }
      else s3

/-- The grace ends with the throttle set: enforcement begins at step 1 (R444). -/
def graceEnds (s : State) : State :=
  enforce (max 1 (get s F.THM_ENF_STEP)) (put F.THM_STATUS_GRACE 0 { s with thm := { s.thm with own := max 1 s.thm.own, ownAt := now s } })

/-- A temperature event for every controller that enables it (R444). -/
def notifyTemperature (s : State) : State :=
  forAll ((s.host.features.map fun p => p.1 / 256).dedup) (notifyFn 0x101) s

/-- The step that TMT1 and TMT2 of any controller demand of T_j in kelvin (R445). -/
def tmtDemand (s : State) (tj : Int) : Nat :=
  let kelvin := tj + 16 * 273
  (s.host.features.filter fun p => decide (p.1 % 256 = 0x10)).foldl (fun m p =>
    let t1 : Nat := p.2 / 65536 % 65536
    let t2 : Nat := p.2 % 65536
    max m (if t2 ≠ 0 ∧ 16 * (t2 : Int) ≤ kelvin then 2 else if t1 ≠ 0 ∧ 16 * (t1 : Int) ≤ kelvin then 1 else 0)) 0

/-- The demand of TMT1 and TMT2, with the transition counts and times of the SMART page (R445). -/
def applyTmt (tj : Int) (s : State) : State :=
  let d := tmtDemand s tj
  let t := s.thm
  let s1 := if d = t.tmt then s else { s with thm := { t with
      tmt := d,
      tmtN := if t.tmt < d then mapPut t.tmtN d (mapGet (fun _ => 0) t.tmtN d + 1) else t.tmtN,
      tmtT := if t.tmt = 0 then t.tmtT else mapPut t.tmtT t.tmt (mapGet (fun _ => 0) t.tmtT t.tmt + (now s - t.tmtAt)),
      tmtAt := now s } }
  if get s1 F.THM_ENF_STEP < d then enforce d s1 else s1

/-! ### Relief, lasers and NTCs -/

/-- The bays that have a cause for relief (R443). -/
def reliefBays (s : State) (die : Map Int) : List Nat :=
  (baysOf s).filter fun b =>
    ([2 * b, 2 * b + 1].any fun i => !excluded s i && decide (junction s F.THM_J_THR_WARN ≤ mapGet (fun _ => 0) die i))
      || ([2 * b, 2 * b + 1].any fun h => decide (h ∈ s.thm.lWarn)) || decide (2 * b ∈ s.thm.ntcWarn) || decide (2 * b + 1 ∈ s.thm.ntcWarn)

/-- Placement avoids the bays under relief (R301, R443). -/
def applyRelief (die : Map Int) (s : State) : State :=
  let want := reliefBays s die
  let begun := want.filter fun b => decide (b ∉ s.thm.relief)
  let ended := s.thm.relief.filter fun b => decide (b ∉ want)
  let s1 := forAll begun (fun b t =>
    let l := leafOfBay t b
    raise (evAR l) B.ARB_AR_EVT_THERMAL_RELIEF (putBit (F.ARB_AR_AVOID l) b true t)) (tickContexts s)
  let s2 := forAll ended (fun b t => putBit (F.ARB_AR_AVOID (leafOfBay t b)) b false t) s1
  { s2 with thm := { s2.thm with relief := want } }

/-- A head's corrected laser temperature in 1/64 °C; a head whose link is not ACTIVE has none (R440, R455). -/
def laserTemp (s : State) (h : Nat) : Option Int :=
  if get s (F.HL_STATUS_STATE h) = 5 then some (getI s (F.HL_TELEM0_LASER_T h) - inForceI s (F.CAL_LASER h)) else none

/-- The laser thresholds of one head (R441, R447). -/
def laserCheck (h : Nat) (s : State) : State :=
  match laserTemp s h with
  | none => s
  | some t =>
    let thr (f : Fld) : Int := 64 * (get s f : Int)
    let wasW := decide (h ∈ s.thm.lWarn)
    let wasT := decide (bitOf (get s F.THM_LASER_THR) h = 1)
    let wasS := decide (bitOf (get s F.THM_LASER_STATE) h = 1)
    let w := hysteresis wasW t (thr F.THM_L_THR_WARN) (64 * 3)
    let r := hysteresis wasT t (thr F.THM_L_THR_THROTTLE) (64 * 3)
    let d := hysteresis wasS t (thr F.THM_L_THR_SHUT) (64 * 10)
    let s1 := if w && !wasW then raise evTHM B.THM_EVT_LASER_WARN { s with thm := { s.thm with lWarn := s.thm.lWarn ++ [h] } }
      else if !w && wasW then { s with thm := { s.thm with lWarn := s.thm.lWarn.filter (· ≠ h) } } else s
    let s2 := putBit F.THM_LASER_THR h r s1
    let s4 := putBit F.THM_LASER_STATE h d s2
    if d && !wasS then raise evTHM B.THM_EVT_LASER_SHUT (bump F.THM_SHUTDOWNS_HEAD 1 (retractHead h 0 s4)) else s4

/-- An NTC warning (R440, R441): NTC 1 and NTC 2 of a bay in 0.1 °C, keyed 2 × bay and 2 × bay + 1. -/
def ntcCheck (k : Nat) (t : Int) (s : State) : State :=
  let was := decide (k ∈ s.thm.ntcWarn)
  let w := hysteresis was t (10 * (get s F.THM_NTC_WARN : Int)) 50
  if w && !was then raise evTHM B.THM_EVT_NTC_WARN { s with thm := { s.thm with ntcWarn := s.thm.ntcWarn ++ [k] } }
  else if !w && was then { s with thm := { s.thm with ntcWarn := s.thm.ntcWarn.filter (· ≠ k) } } else s

/-! ### Shutdown -/

/-- The core is held in reset at once: the dump keeps the units written until then (R448). -/
def holdCore (kept : Nat) (s : State) : State :=
  let v := s.plp.vault
  let s1 := if s.plp.dumping then { s with plp := { s.plp with vault := { v with dump := v.dump.take kept }, dumping := false, dumped := true } } else s
  { s1 with thm := { s1.thm with stop := 2 }, pwr := { s1.pwr with hold := 2 } }

/-- The junction shutdown's orderly stop (R448, R450): without a usable vault it omits the dump. -/
def orderlyStop (s : State) : State :=
  let s1 := raise evTHM B.THM_EVT_SHUTDOWN (bump F.THM_SHUTDOWNS_J 1 (put F.THM_STATUS_SHUTDOWN 1
    { s with thm := { s.thm with stop := 1, stopAt := now s, shutAt := get s F.PWR_WAKE_TIME :: s.thm.shutAt }, pwr := { s.pwr with phase := 0 } }))
  let s2 := beginDump (dropCal (stopMechanism (setCfs (silenceHost s1))))
  if s2.plp.dumping then s2 else holdCore 0 s2

/-! ### The sample -/

/-- The junction's thresholds at a sample (R441, R444, R448). -/
def junctionCheck (tj : Int) (kept : Nat) (s : State) : State :=
  let w := hysteresis (isSet s F.THM_STATUS_WARN) tj (junction s F.THM_J_THR_WARN) 80
  let r := hysteresis (isSet s F.THM_STATUS_THROTTLE) tj (junction s F.THM_J_THR_THROTTLE) 80
  let s1 := if w && !isSet s F.THM_STATUS_WARN then raise evTHM B.THM_EVT_J_WARN (put F.THM_STATUS_WARN 1 s) else putB F.THM_STATUS_WARN w s
  let s2 :=
    if r && !isSet s F.THM_STATUS_THROTTLE then
      let u := raise evTHM B.THM_EVT_J_THROTTLE (bump F.THM_THROTTLES_ENTRIES 1 (put F.THM_STATUS_THROTTLE 1
        { s1 with thm := { s1.thm with setAt := now s1, ownAt := now s1 } }))
      notifyTemperature (if u.thm.own = 0 ∧ (get u F.THM_ENF_STEP = 0 ∨ u.thm.tmt ≠ 0) then put F.THM_STATUS_GRACE 1 u
        else { u with thm := { u.thm with own := max u.thm.own (if u.thm.tmt = 0 then get u F.THM_ENF_STEP else 0) } })
    else if !r && isSet s F.THM_STATUS_THROTTLE then
      putAll [(F.THM_STATUS_THROTTLE, 0), (F.THM_STATUS_GRACE, 0)] { s1 with thm := { s1.thm with removeAt := now s1 } }
    else s1
  if s2.thm.stop = 0 ∧ junction s2 F.THM_J_THR_SHUT ≤ tj then
    let u := orderlyStop s2
    if 16 * 120 ≤ tj ∧ u.thm.stop = 1 then holdCore kept u else u
  else if s2.thm.stop = 1 ∧ 16 * 120 ≤ tj then holdCore kept s2
  else s2

/-- Whether a reading lies near a threshold (R442). -/
def nearThreshold (s : State) (tj : Int) (ntcs : List (Nat × Int)) : Bool :=
  let least (l : List Fld) : Nat := ((l.map (get s)).min?).getD 0
  decide (16 * ((least [F.THM_J_THR_WARN, F.THM_J_THR_THROTTLE, F.THM_J_THR_SHUT] : Nat) - if isSet s F.THM_STATUS_GRID_DEGRADED then 15 else 10 : Int) ≤ tj)
    || ((headsOf s).any fun h => match laserTemp s h with
      | none => false
      | some t => decide (64 * ((least [F.THM_L_THR_WARN, F.THM_L_THR_THROTTLE, F.THM_L_THR_SHUT] : Nat) - 10 : Int) ≤ t))
    || (ntcs.any fun x => decide (10 * ((get s F.THM_NTC_WARN : Int) - 10) ≤ x.2))

/-- A sample is due: 100 ms after the one before it, or 1 ms at the fast rate (R442). -/
def sampleDue (s : State) : Bool :=
  match s.thm.sampleAt with
  | none => true
  | some t => elapsed s t (if isSet s F.THM_STATUS_FAST then 156250 else 15625000)

/-- THERMAL_SAMPLE (R438 to R445, R447, R448): the raw readings of the die grid in 1/16 °C, with those of the bays' NTCs;
`kept` is how many dump units were written should 120 °C end a dump at once. -/
def execThermalSample (die : List Int) (kept : Nat) (s : State) : Out :=
  if !s.pwr.started || decide (s.pwr.hold ≠ 0) || s.pwr.powerLoss || !sampleDue s then .next s
  else
    let s0 := takeCal (fun i => decide (38 ≤ i) && decide (i < 103)) { s with thm := { s.thm with sampleAt := some (now s) } }
    let cal : Map Int := (List.range 64).map fun i => (i, die.getD i 0 - inForceI s0 (F.CAL_DIE i))
    let s1 := forAll (List.range 64) (fun i t => putI (F.THM_DIE i) (mapGet (fun _ => 0) cal i) t) s0
    let s2 := forAll (List.range 64) (gridCheck s1 cal) s1
    let s3 := putB F.THM_STATUS_GRID_DEGRADED (decide (8 < ((List.range 64).filter (excluded s2)).length)) s2
    let ntcs := (((baysOf s3).filter (linkUp s3)).map fun b => (2 * b, getI s3 (F.MOT_NTC1 b))) ++
      ((baysOf s3).filter (linkUp s3)).map fun b => (2 * b + 1, (spinOf s3 b).ntc2)
    let s4 := ntcs.foldl (fun t x => ntcCheck x.1 x.2 t) (forAll (headsOf s3) laserCheck s3)
    let tj := match hottest s4 cal with | none => getI s4 F.THM_HOT_TJ | some x => x.2
    let s5 := match hottest s4 cal with | none => s4 | some x => putI F.THM_HOT_TJ x.2 (put F.THM_HOT_SENSOR x.1 s4)
    let s6 := applyRelief cal s5
    let fast := nearThreshold s6 tj ntcs
    let s7 := if fast then { s6 with thm := { s6.thm with nearAt := some (now s6) } } else s6
    let stays := match s7.thm.nearAt with | none => false | some a => decide (now s7 < 156250000 + a)
    let s8 := putB F.THM_STATUS_FAST (fast || stays) s7
    .next (junctionCheck tj kept (if s8.thm.stop = 0 then applyTmt tj s8 else s8))

/-- GRACE_EXPIRY: the grace ends with the throttle still set (R444). -/
def execGraceExpiry (s : State) : Out :=
  if isSet s F.THM_STATUS_THROTTLE && isSet s F.THM_STATUS_GRACE && decide (s.thm.stop = 0) && elapsed s s.thm.setAt (156250 * get s F.THM_GRACE) then
    .next (graceEnds s)
  else .next s

/-- ENFORCEMENT_STEP: STEP_T has passed with the throttle set; enforcement advances one step, to step 4 at most (R444). -/
def execEnforcementStep (s : State) : Out :=
  if isSet s F.THM_STATUS_THROTTLE && !isSet s F.THM_STATUS_GRACE && decide (0 < s.thm.own) && decide (s.thm.own < 4) && decide (s.thm.stop = 0)
      && elapsed s s.thm.ownAt (15625000 * get s F.THM_ENF_STEP_T) then
    let n := s.thm.own + 1
    .next (enforce (max n (get s F.THM_ENF_STEP)) { s with thm := { s.thm with own := n, ownAt := now s } })
  else .next s

/-- ENFORCEMENT_REMOVE: 10 s have passed since the throttle cleared or a step was removed; the highest step is removed unless a
TMT demands a step (R446). -/
def execEnforcementRemove (s : State) : Out :=
  let n := get s F.THM_ENF_STEP
  if isSet s F.THM_STATUS_THROTTLE || decide (s.thm.tmt ≠ 0) || decide (n = 0) || decide (s.thm.stop ≠ 0)
      || !elapsed s s.thm.removeAt 1562500000 then .next s
  else .next (enforce (n - 1) { s with thm := { s.thm with own := min s.thm.own (n - 1), removeAt := now s } })

/-- ORDERLY_MAX_EXPIRY: ORDERLY_MAX ends before the dump does, with its first `kept` units written (R448). -/
def execOrderlyMaxExpiry (kept : Nat) (s : State) : Out :=
  if s.thm.stop = 1 ∧ elapsed s s.thm.stopAt (156250000 * get s F.THM_ENF_ORDERLY_MAX) = true then .next (holdCore kept s) else .next s

/-- The shutdowns within the 24 h up to the last one (R449). -/
def recentShutdowns (s : State) : Nat := (s.thm.shutAt.filter fun t => decide (s.thm.shutAt.headD 0 < 86400 * 32768 + t)).length

/-- The restart after a junction shutdown; THM.EVT.SHUTDOWN and the count are read after it (R449, R452). -/
def thermalRestart (s : State) : State :=
  let s1 := chipReset 6 s
  put F.THM_SHUTDOWNS_J (min 65535 s1.thm.shutAt.length) (raise evTHM B.THM_EVT_SHUTDOWN s1)

/-- THERMAL_RESTART: sensor AO has read at most `ao` (1/16 °C) during the last `ms` ms; the core restarts after 10 s below 105 °C, but three
shutdowns within 24 h end the automatic restarts (R449). -/
def execThermalRestart (ao : Int) (ms : Nat) (s : State) : Out :=
  if s.pwr.hold = 2 ∧ ao < 16 * 105 ∧ 10000 ≤ ms ∧ recentShutdowns s < 3 then .next (thermalRestart s) else .next s

/-- A number whose three low bytes are no larger than those of a bound. -/
def clampBytes (v bound : Nat) : Nat :=
  ((List.range 3).map fun i => min (v / 256 ^ i % 256) (bound / 256 ^ i % 256) * 256 ^ i).sum

/-- THRESHOLD_WRITE: a write of THM.J_THR, or of L_THR (`laser`), is clamped to the fused bounds (R441, R467). -/
def execThresholdWrite (laser : Bool) (v : Nat) (s : State) : Out :=
  let b := get s F.FUS_BOUNDS
  let x := clampBytes v (if laser then b / 2 ^ 24 else b)
  .next (if laser then putAll [(F.THM_L_THR_WARN, x), (F.THM_L_THR_THROTTLE, x / 256), (F.THM_L_THR_SHUT, x / 65536)] s
    else putAll [(F.THM_J_THR_WARN, x), (F.THM_J_THR_THROTTLE, x / 256), (F.THM_J_THR_SHUT, x / 65536)] s)

/-- THM_CLR_CNT: the counters are cleared (R451). -/
def execThmClrCnt (s : State) : Out :=
  .next (clearAll [F.THM_EXCLUSIONS, F.THM_THROTTLES_ENTRIES, F.THM_THROTTLES_ENF, F.THM_SHUTDOWNS_J, F.THM_SHUTDOWNS_HEAD] s)

end Sys2Proof.Machine
end

