-- ==== Sys2Proof/Machine/Calibrate.lean ====
section
/-! DEFINITION. Calibration: the procedure, its results and bounds, software writes, restoring (R417, R453 to R465). -/

namespace Sys2Proof.Machine

/-- A procedure's end for the command that asked for it: it completes once every value it wrote is in force (R417); a register or
the start-up asked for none. -/
def endFor (j : CalJob) (s : State) : State :=
  if j.fn = 513 then s
  else if s.cal.fresh = [] then adminDone j.fn j.cid 0 0 0 0 [] s
  else { s with cal := { s.cal with done := s.cal.done ++ [(j.fn, j.cid)] } }

/-- Values changed: CAL.EVT.CHANGED and information 0x84 (R417, R461). -/
def calChanged (s : State) : State := notify 0x784 (pageChanged 0xc5 (raise evCAL B.CAL_EVT_CHANGED s))

/-! ### The restore image -/

/-- Entry i of the image: ITEM, INDEX, GAIN, OFFSET (R462). -/
def imageWord (img : List Nat) (i o n : Nat) : Nat := ofBytesLE ((img.drop (64 + 16 * i + o)).take n)
def itemOf (i : Nat) : Nat × Nat :=
  if i = 0 then (1, 0) else if i = 1 then (2, 0) else if i < 38 then (3, i - 2) else if i < 103 then (4, i - 38) else (5, i - 103)
def imageOffset (img : List Nat) (i : Nat) : Int := toSigned 32 (imageWord img i 8 4)

/-- Whether an image has the layout of R462 and every value within its bounds (R417, R462). -/
def imageOk (s : State) (img : List Nat) : Bool :=
  decide (img.length = 2736) && (List.range 167).all fun i =>
    decide ((imageWord img i 0 2, imageWord img i 2 2) = itemOf i) && inBounds s i (imageWord img i 4 4) (imageOffset img i)

/-- Calibrate action 2: every entry is written, AGE 0, or the whole restore fails (R417, R462). -/
def restoreImage (j : CalJob) (s : State) : State :=
  if imageOk s j.image = false then adminDone j.fn j.cid 0 2 1 0 [] s
  else
    let r := (List.range 167).foldl (fun (acc : Bool × State) i =>
      let g := imageWord j.image i 4 4
      let o := imageOffset j.image i
      let u := acc.2
      let same := (decide (38 ≤ i) || decide (itemGain u i = g)) && decide (itemOffset u i = o)
      (acc.1 || !same, if same then { u with cal := { u.cal with setAt := mapPut u.cal.setAt i (now u) } } else writeItem i g o u)) (false, s)
    endFor j (if r.1 then calChanged r.2 else r.2)

/-! ### The procedure -/

/-- Whether steps 1 and 2 have passed in the last 24 h (R458). -/
def refFresh (s : State) : Bool := match s.cal.refAt with | none => false | some t => decide (now s < 86400 * 156250000 + t)

/-- A job starts: CALREF is measured, in µV; a reading outside 1.250 V ±2 % ends the procedure unchanged (R453, R454, R458).
Expander calibration passes over steps 1 and 2 while they are fresh. A restore needs no measurement. -/
def beginJob (j : CalJob) (x : CalSeen) (s : State) : State :=
  if j.action = 2 then restoreImage j s
  else
    let skip := decide (j.action = 1) && refFresh s
    let s1 := putAll [(F.CAL_SKIPPED, 0), (F.CAL_STATUS_BUSY, 1), (F.CAL_STATUS_STEP, if skip then 4 else 1)]
      { s with cal := { s.cal with job := some j, seen := x, plan := calPlan j skip, period := 0, written := [], skip := [], sums := [], counts := [], changed := false } }
    if skip then s1
    else
      let s2 := put F.CAL_REF x.ref s1
      if 1225000 ≤ x.ref ∧ x.ref ≤ 1275000 then put F.CAL_STATUS_REF_OK 1 s2
      else
        let s3 := raises evCAL [B.CAL_EVT_REF_FAULT, B.CAL_EVT_DONE] (putAll [(F.CAL_STATUS_REF_OK, 0), (F.CAL_STATUS_BUSY, 0), (F.CAL_STATUS_STEP, 0)]
          { s2 with cal := { s2.cal with job := none, plan := [] } })
        if j.fn = 513 then s3 else adminDone j.fn j.cid 0 0 0 0 [] s3

/-- A job starts at once, or waits for the procedure under way (R417, R419, R463). -/
def askCal (j : CalJob) (x : CalSeen) (s : State) : State :=
  match s.cal.job with
  | none => beginJob j x s
  | some _ => { s with cal := { s.cal with waiting := s.cal.waiting ++ [j] } }

/-- The jobs that waited start in turn until one runs. -/
def nextJobs (x : CalSeen) : List CalJob → State → State
  | [], s => { s with cal := { s.cal with waiting := [] } }
  | j :: js, s =>
    match s.cal.job with
    | some _ => { s with cal := { s.cal with waiting := j :: js } }
    | none => nextJobs x js (beginJob j x s)

/-- CAL_START: CAL.CTRL.START runs the full procedure (R458, R465). -/
def execCalStart (seen : CalSeen) (s : State) : Out := .next (askCal ⟨513, 0, 0, 0, []⟩ seen s)

/-- CAL_EXP_START: CAL.CTRL.EXP_START calibrates the expanders in EXP_SEL (R458, R465). -/
def execCalExpStart (seen : CalSeen) (s : State) : Out := .next (askCal ⟨513, 0, 1, get s F.CAL_EXP_SEL, []⟩ seen s)

/-- CAL_AUTO: every AUTO hours steps 1 and 4 are repeated for every expander (R461); 0 turns it off. -/
def execCalAuto (seen : CalSeen) (s : State) : Out :=
  if get s F.CAL_AUTO = 0 ∨ s.pwr.started = false ∨ elapsed s s.cal.autoAt (3600 * 156250000 * get s F.CAL_AUTO) = false then .next s
  else .next (askCal ⟨513, 0, 4, 0, []⟩ seen { s with cal := { s.cal with autoAt := now s } })

/-- CALIBRATION_PROCEDURE_END: the last step has ended (R458, R461, R463). `seen` is what the procedure that starts next reads in its first
steps. -/
def execCalibrationProcedureEnd (seen : CalSeen) (s : State) : Out :=
  match s.cal.job, s.cal.plan with
  | some j, [] =>
    let s2 := raise evCAL B.CAL_EVT_DONE (putAll [(F.CAL_STATUS_BUSY, 0), (F.CAL_STATUS_STEP, 0)] { s with cal := { s.cal with job := none, written := [] } })
    let s3 := takeCal (fun x => decide (x = 0)) (if s.cal.changed then calChanged s2 else s2)
    let s4 := endFor j s3
    .next (nextJobs seen s4.cal.waiting { s4 with cal := { s4.cal with waiting := [] } })
  | _, _ => .next s

/-- Software writes an item, numbered as R462 numbers its entries; a value outside its bounds is clamped to them and its bit set
(R460, R463). -/
def calValueWrite (item gain : Nat) (offset : Int) (s : State) : State :=
  if 167 ≤ item then s
  else
    let g := max (2 ^ 30 - gainBound s) (min (gain % 2 ^ 32) (2 ^ 30 + gainBound s))
    let o := clampInt (-(offsetBound s item : Int)) (offsetBound s item) offset
    let s1 := if inBounds s item (gain % 2 ^ 32) offset then markBounds item false s else markBounds item true s
    let s2 := { s1 with cal := { s1.cal with written := if measuring s1 item then item :: s1.cal.written else s1.cal.written } }
    pageChanged 0xc5 (writeItem item g o s2)

/-- CAL_VALUE_WRITE (R460, R463). -/
def execCalValueWrite (item gain : Nat) (offset : Int) (s : State) : Out := .next (calValueWrite item gain offset s)

/-! ### The Calibrate command -/

/-- A Calibrate command is served for PF0 and the sideband; another function has no such opcode (R395, R417). -/
def calCommand (fn cid : Nat) (f : State → State) (s : State) : State :=
  adminSide fn cid (fun t => if fn = 0 ∨ fn = 512 then f t else adminDone fn cid 0 1 1 0 [] t) s

/-- CALIBRATE_FULL: action 0 runs the full procedure (R417). -/
def execCalibrateFull (fn cid : Nat) (seen : CalSeen) (s : State) : Out := .next (calCommand fn cid (askCal ⟨fn, cid, 0, 0, []⟩ seen) s)

/-- CALIBRATE_EXPANDERS: action 1 calibrates the bays of CDW11 and the carousels of CDW12 [3:0] (R417). -/
def execCalibrateExpanders (fn cid bays cars : Nat) (seen : CalSeen) (s : State) : Out :=
  .next (calCommand fn cid (askCal ⟨fn, cid, 1, bays % 2 ^ 32 + 2 ^ 32 * (cars % 16), []⟩ seen) s)

/-- CALIBRATE_RESTORE: action 2 restores an image, after a procedure under way (R417, R419, R462). -/
def execCalibrateRestore (fn cid : Nat) (image : List Nat) (s : State) : Out :=
  .next (calCommand fn cid (askCal ⟨fn, cid, 2, 0, image⟩ ⟨0, [], (0, 0)⟩) s)

/-- CALIBRATE_REFUSED: action 3 is refused (R417). -/
def execCalibrateRefused (fn cid : Nat) (s : State) : Out := .next (calCommand fn cid (adminDone fn cid 0 2 1 0 []) s)

end Sys2Proof.Machine
end

