-- ==== Sys2Proof/Machine/Fuses.lean ====
section
/-! DEFINITION. The fuse array, key slots and signatures, fuse programming, authorisation blocks and the debug lock (R466 to
R479, R491 to R493). -/

namespace Sys2Proof.Machine

/-! ### The array -/

/-- A word of the array; the shadow holds the same once it is loaded (R466). -/
def fuseWord (s : State) (i : Nat) : Nat := mapGet (fun _ => 0) s.fuse.words i

/-- The bits `[hi : lo]` of a fuse word. -/
def fuseBits (s : State) (i lo n : Nat) : Nat := fuseWord s i / 2 ^ lo % 2 ^ n

/-- The number of set bits: the thermometer's value (R467). -/
def countBits (v : Nat) : Nat := ((List.range 64).map (bitOf v)).sum
def thermometer (s : State) : Nat := countBits (fuseWord s 4)

def hwType (s : State) : Nat := fuseBits s 0 0 32
def unitId (s : State) : Nat := fuseWord s 1 + 2 ^ 64 * fuseWord s 2

/-- CRC-32 with the IEEE 802.3 parameters (R470). -/
def crc32Bits : Nat → Nat → Nat
  | 0, c => c
  | n + 1, c => crc32Bits n (if c % 2 = 1 then (c / 2) ^^^ 0xedb88320 else c / 2)
def crc32Go : List Nat → Nat → Nat
  | [], c => c
  | b :: bs, c => crc32Go bs (crc32Bits 8 (c ^^^ (b % 256)))
def crc32 (bs : List Nat) : Nat := crc32Go bs (2 ^ 32 - 1) ^^^ (2 ^ 32 - 1)

/-- The words FACTORY_CRC covers: W0 to W2, W5, W6 and W56 to W79 (R470). -/
def crcWords : List Nat := [0, 1, 2, 5, 6] ++ (List.range 24).map (56 + ·)
def factoryOk (s : State) : Bool := decide (crc32 ((crcWords.map fun i => bytesLE 8 (fuseWord s i)).flatten) = fuseBits s 7 0 32)

/-- The fuse registers and every "fuse" reset value, read from the shadow (R466, R467, R492). -/
def loadFuses (s : State) : State :=
  let w := fuseWord s
  let s1 := ([(F.GLB_HW_TYPE, w 0), (F.GLB_UNIT_ID_LO, w 1), (F.GLB_UNIT_ID_HI, w 2), (F.FUS_STATUS_SEALED, w 3 % 2),
    (F.FUS_PROT, w 3), (F.FUS_ROLLBACK, w 4), (F.FUS_BOUNDS, w 5), (F.FUS_BOUNDS2, w 6),
    (F.CAL_STATUS_MODE, bitOf (w 3) 4), (F.CAL_BOUNDS_GAIN_B, w 5 / 2 ^ 48), (F.CAL_BOUNDS_OFS_B, w 6),
    (F.CAL_REFADC_GAIN, w 56), (F.CAL_REFADC_OFFSET, w 56 / 2 ^ 32), (F.CAL_HU_GAIN, w 57), (F.CAL_HU_OFFSET, w 57 / 2 ^ 32)]).foldl
      (fun t p => load p.1 p.2 t) s
  let s2 := forAll (List.range 65) (fun i t => load (F.CAL_DIE i) (w (58 + i / 4) / 2 ^ (16 * (i % 4))) t) s1
  let s3 := forAll (List.range 96) (fun i t => load (F.FUS_SLOT i) (w (8 + i / 2) / 2 ^ (32 * (i % 2))) t) s2
  forAll (List.range 128) (fun i t => load (F.FUS_WORD i) (w i) t) s3

/-- Bits of a word blown, and the shadow updated from the read-back (R466, R473). -/
def blow (i mask : Nat) (s : State) : State :=
  loadFuses { s with fuse := { s.fuse with words := mapPutD (fun _ => 0) s.fuse.words i (trunc 64 (fuseWord s i ||| mask)) } }

/-! ### Key slots and signatures -/

/-- A key slot is valid and not revoked (R471). -/
def slotLive (s : State) (n : Nat) : Bool :=
  decide (n < 4) && decide (bitOf (fuseWord s 3) (16 + n) = 1) && decide (bitOf (fuseWord s 3) (20 + n) = 0)

/-- A key slot carries a usage: 0 tablature, 1 management firmware, 2 debug unlock, 3 fuse authorisation; slot 0 carries every
usage (R468). -/
def slotUse (s : State) (n use : Nat) : Bool := decide (n = 0) || decide (bitOf (fuseWord s 3) (24 + 4 * (n - 1) + use) = 1)

/-- A stored key hash, byte 0 least significant: that of the Ed25519 key, or of the ML-DSA-65 key (R467). -/
def slotHash (s : State) (n : Nat) (ml : Bool) : Nat :=
  ofBytesLE ((List.range 6).map fun i => bytesLE 8 (fuseWord s (8 + 12 * n + (if ml then 6 else 0) + i))).flatten

/-- SHA-384 of some bytes, byte 0 of the digest least significant. -/
def digest (bs : List Nat) : Nat := trunc 384 (Config.sha384 bs)

/-- What refuses a signed object whose signature block is at `o`: the first failing check of R472, numbered as R488 numbers the
details of check 2; 0 where both signatures pass. -/
def sigFault (s : State) (obj : List Nat) (o use : Nat) (ctx : List Nat) : Nat :=
  let part (a n : Nat) : List Nat := (obj.drop (o + a)).take n
  let n := (part 0 1).headD 255
  let d := digest (obj.take o)
  if slotLive s n = false then 1
  else if slotUse s n use = false then 2
  else if digest (part 4 32) ≠ slotHash s n false then 3
  else if digest (part 36 1952) ≠ slotHash s n true then 4
  else if Config.ed25519 (part 4 32) d (part 1988 64) = false then 5
  else if Config.mlDsa65 ctx (part 36 1952) d (part 2052 3309) = false then 6
  else 0

/-- The context strings of R472 and R502, as bytes. -/
def ctxTab : List Nat := [0x54, 0x41, 0x42]
def ctxFus : List Nat := [0x46, 0x55, 0x53]
def ctxFwp : List Nat := [0x46, 0x57, 0x50]

/-- The load sources (R468): 0 PF0, 1 PF1, 2 sideband. A requester that is none of them has no number. -/
def sourceOf (fn : Nat) : Option Nat := if fn < 2 then some fn else if fn = 512 then some 2 else none

/-! ### Programming -/

/-- An operation ended: its result and event (R493). -/
def fuseResult (r : Nat) (s : State) : State :=
  let s1 := putAll [(F.FUS_PROG_CTRL_BUSY, 0), (F.FUS_PROG_CTRL_RESULT, r)] s
  if r = 0 then raise evFUS B.FUS_EVT_PROG_DONE s1
  else if r = 2 ∨ r = 4 then raise evFUS B.FUS_EVT_PROG_FAIL s1
  else if r = 3 then raise evFUS B.FUS_EVT_AUTH_FAIL s1
  else s1

/-- FUSE_PROGRAM: GO before the seal starts the programming of a word; after the seal it is refused (R473, R474). -/
def execFuseProgram (s : State) : Out :=
  if isSet s F.FUS_PROG_CTRL_BUSY then .next (put F.FUS_PROG_CTRL_RESULT 1 s)
  else if isSet s F.FUS_STATUS_SEALED then .next (fuseResult 4 s)
  else .next (put F.FUS_PROG_CTRL_BUSY 1 { s with fuse := { s.fuse with op := some (get s F.FUS_PROG_WORD, get s F.FUS_PROG_MASK), opAt := now s } })

/-- FUSE_PROGRAM_DONE: every cell has taken 20 µs, two cells to a bit; the read-back at tightened margin follows, where `failed` names the bits
that read 0 (R466, R473, R491). -/
def execFuseProgramDone (failed : Nat) (s : State) : Out :=
  match s.fuse.op with
  | none => .next s
  | some (i, mask) =>
    let want := (List.range 64).filter fun b => decide (bitOf mask b = 1) && decide (bitOf (fuseWord s i) b = 0)
    let good := want.filter fun b => decide (bitOf failed b = 0)
    if elapsed s s.fuse.opAt (2 * 3125 * want.length) = false then .next s
    else
    let s1 := blow i ((good.map (2 ^ ·)).sum) { s with fuse := { s.fuse with op := none } }
    .next (fuseResult (if good = want then 0 else 2) s1)

/-- The authorisation block, as its bytes (R475). -/
def authBlock (s : State) : List Nat := ((List.range 2048).map fun i => bytesLE 4 (get s (F.FUS_AUTH i))).flatten

/-- A new nonce from the random source (R475): a free value. -/
def newNonce (s : State) : State := putFree F.FUS_NONCE s

/-- Whether the revocation of a slot leaves a live slot with management-firmware usage (R476). -/
def revocable (s : State) (n : Nat) : Bool := (List.range 4).any fun m => decide (m ≠ n) && slotLive s m && slotUse s m 1

/-- AUTH_GO: an authorisation block revokes a slot or unlocks the debug port; the nonce is renewed whatever comes of it (R475,
R476, R479, R491). -/
def execAuthGo (s : State) : Out :=
  if isSet s F.FUS_PROG_CTRL_BUSY then .next (newNonce (put F.FUS_PROG_CTRL_RESULT 1 s))
  else
    let a := authBlock s
    let op := imgNat a 0 1
    let target := imgNat a 1 1
    let good := decide (op = 1 ∨ op = 2) && decide (sigFault s a 32 (if op = 1 then 3 else 2) ctxFus = 0)
      && decide (imgNat a 4 16 = unitId s) && decide (imgNat a 20 8 = get s F.FUS_NONCE)
    let s1 := newNonce s
    if good = false then .next (fuseResult 3 s1)
    else if op = 1 then
      if 4 ≤ target ∨ revocable s target = false then .next (fuseResult 4 s1)
      else
        let s2 := raise evFUS B.FUS_EVT_REVOKED (fuseResult 0 (blow 3 (2 ^ (20 + target)) s1))
        if get s F.TAB_STATUS_KEY_SLOT = target ∧ get s F.TAB_STATUS_SELECTED ≠ 3 then
          .next (raise evTAB B.TAB_EVT_SIGNER_REVOKED (put F.TAB_STATUS_SIGNER_REVOKED 1 s2))
        else .next s2
    else if 2 ≤ fuseBits s 3 1 2 then .next (fuseResult 4 s1)
    else .next (raise evFUS B.FUS_EVT_DEBUG_UNLOCK (put F.FUS_STATUS_DEBUG_ACTIVE 1 (fuseResult 0 s1)))

/-- DEBUG_CLOSE: DEBUG_LOCK becomes 0b11 without authorisation; access in force continues until reset (R474, R491). -/
def execDebugClose (s : State) : Out :=
  if isSet s F.FUS_PROG_CTRL_BUSY then .next (put F.FUS_PROG_CTRL_RESULT 1 s)
  else .next (fuseResult 0 (blow 3 6 s))

/-- The thermometer advanced to a security version, refused where it would exceed SEC_VER of the selected tablature, or where
none is selected (R474, R477, R491). The answer tells whether it was refused. -/
def advance (v : Nat) (s : State) : Bool × State :=
  if v ≤ thermometer s then (false, s)
  else if get s F.TAB_STATUS_SELECTED = 3 ∨ get s F.TAB_SEC_VER < v ∨ 64 < v then (true, fuseResult 4 s)
  else
    let clear := (List.range 64).filter fun b => decide (bitOf (fuseWord s 4) b = 0)
    (false, fuseResult 0 (blow 4 (((clear.take (v - thermometer s)).map (2 ^ ·)).sum) s))

end Sys2Proof.Machine
end

