-- ==== Sys2Proof/Machine/Lookup.lean ====
section
/-! DEFINITION. What stands at an offset of the register window: the block, its instance, whether the unit exists, the fields
of a 32-bit word, and words read and loaded bit by bit (R2, R6, R12, R21, R485). -/

namespace Sys2Proof.Machine

/-- A field of the window with its access code and the source of its reset value. -/
structure Place where
  fld    : Fld
  access : Access
  src    : ResetKind
  deriving DecidableEq, Repr

/-- The block that holds an offset, the first index of its instance and the offset within the instance. -/
def findBlock (off : Nat) : Option (RegBlock × Nat × Nat) :=
  regBlocks.findSome? fun k =>
    match k.inner off with
    | none => none
    | some o => some (k, if k.n1 = 1 then 0 else (off - k.base) / k.stride1, o)

/-- The blocks that exist in recovery mode (R490): GLB, CLK, PWR, EVT, FUS, TAB, FWU, HST, DMP, the management pairs and their
SRAM. -/
def recoveryBlocks : List Nat :=
  [0x0, 0x40000, 0x80000, 0xc0000, 0x100000, 0x140000, 0x180000, 0x6000000, 0x70c0000, 0x8000000, 0xc000000]

/-- Whether the unit of a block's instance exists (R12, R490). -/
def unitThere (s : State) (k : RegBlock) (i : Nat) : Bool :=
  match k.kind with
  | .always => decide (get s F.TAB_STATUS_SELECTED ≠ 3) || decide (k.base ∈ recoveryBlocks)
  | .head => headInst s i
  | .bay => bayInst s i
  | .carousel => carInst s i
  | .arbour => arbInst s i
  | .ddr => ddrInst s i

/-- The registers of a row that can overlap the word at an offset of the instance. -/
def rowNear (r : RegRow) (w : Nat) : List Nat :=
  if r.stride < 4 then ((List.range 4).map fun j => (w + j - r.off) / r.stride).filter fun i => decide (r.off ≤ w + 3) && decide (i < r.count)
  else if r.off ≤ w ∧ (w - r.off) / r.stride < r.count then [(w - r.off) / r.stride] else []

/-- Whether a field has bits in the 32-bit word at an offset. -/
def Fld.inWord (f : Fld) (w : Nat) : Bool := decide (8 * w < f.key + f.width) && decide (f.key < 8 * w + 32)

/-- The fields with bits in the 32-bit word at a window offset. -/
def placesAt (off : Nat) : List Place :=
  match findBlock off with
  | none => []
  | some (k, _, o) =>
    ((k.rows.map fun r => ((rowNear r o).dedup.map fun i =>
      (⟨⟨off - o + r.off + r.stride * i, r.lsb, r.width⟩, r.access, r.src⟩ : Place)).filter fun p => p.fld.inWord off).flatten)

/-- Whether a register stands at a word: some row covers it. -/
def registerAt (off : Nat) : Bool := !(placesAt off).isEmpty

/-- The first bit of a word that a field has, the number of its bits there, and the first of those bits within the field. -/
def Fld.part (f : Fld) (w : Nat) : Nat × Nat × Nat :=
  let lo := max f.key (8 * w)
  let hi := min (f.key + f.width) (8 * w + 32)
  (lo - 8 * w, hi - lo, lo - f.key)

/-- The bits of a field that a word carries, as the word holds them, from the field's value. -/
def Fld.toWord (f : Fld) (w v : Nat) : Nat :=
  let (a, n, b) := f.part w
  v / 2 ^ b % 2 ^ n * 2 ^ a

/-- A field's value after a word has been written over the bits it carries. -/
def Fld.fromWord (f : Fld) (w old x : Nat) : Nat :=
  let (a, n, b) := f.part w
  old - old / 2 ^ b % 2 ^ n * 2 ^ b + x / 2 ^ a % 2 ^ n * 2 ^ b

/-- The bits of a word that the given fields occupy. -/
def coverOf (ps : List Place) (w : Nat) : Nat := (ps.map fun p => p.fld.toWord w (2 ^ p.fld.width - 1)).foldl (· ||| ·) 0

/-- Whether a record may load the word at an offset: it holds "tab" fields of an existing unit (R485), other than those the
structured sections fill. -/
def tabPlaces (off : Nat) : List Place := (placesAt off).filter fun p => decide (p.src = .tab)

/-- Whether the structured sections of a tablature fill a field (R481): GLB.INST_*, GLB.ARB_COUNT, the port mode, LANE_MAP, the
arbours' CFG, CREDIT and SPARE_POOL, NF and the ACQ gains. -/
def sectionField (off : Nat) : Bool :=
  match findBlock off with
  | none => false
  | some (k, _, o) =>
    if k.base = 0 then decide (0x28 ≤ o) && decide (o < 0x3c)
    else if k.base = 0x6000000 then decide (o = 4)
    else if k.base = 0x1000000 then decide (o = 12)
    else if k.base = 0x1010000 then decide (o = 0x38) || (decide (0x80 ≤ o) && decide (o < 0x80 + 80))
    else if k.base = 0x4010000 then decide (o = 0) || decide (o = 0x20) || decide (o = 0x24)
    else false

/-- The POOL registers of a head stand for its pool (R149): the model holds them at head 4q. -/
def poolCanon (off : Nat) : Nat :=
  let d := off % 0x40000
  if 0x1000000 ≤ off ∧ off < 0x2000000 ∧ 0x10600 ≤ d ∧ d < 0x10614 then (off - 0x1000000) / 0x100000 * 0x100000 + 0x1000000 + d else off

/-- Control and state reads through a shadow cell return the primary's values (R217). -/
def cellCanon (s : State) (off : Nat) : Nat :=
  let d := off % 0x100000
  let o := off % 0x1000
  let n := 32 * ((off - 0x2000000) / 0x100000) + (d - 0x10000) / 0x1000
  if 0x2000000 ≤ off ∧ off < 0x3000000 ∧ 0x10000 ≤ d ∧ d < 0x30000 ∧ (o < 4 ∨ (0x10 ≤ o ∧ o < 0x1c) ∨ (0x200 ≤ o ∧ o < 0x2a8))
      ∧ get s (F.CELL_STATUS_ROLE n) = 2 then
    let p := get s (F.CELL_STATUS_PARTNER n)
    0x2000000 + p / 32 * 0x100000 + 0x10000 + p % 32 * 0x1000 + o
  else off

/-- A 32-bit word of the event log ring: entry i of R533 at index i, zero where no entry stands. -/
def logWord (s : State) (i j : Nat) : Nat :=
  let n := get s F.EVT_LOG_HEAD
  match s.log[(n + 1023 - i % 1024) % 1024]? with
  | none => 0
  | some e =>
    if j = 0 then e.time % 2 ^ 32 else if j = 1 then e.time / 2 ^ 32 % 2 ^ 32 else if j = 2 then e.source else e.value % 2 ^ 32

/-- Whether a register of the window stands at a word. -/
def wordThere (off : Nat) : Bool :=
  (decide (0xc0010 ≤ off) && decide (off < 0xc0030)) || (decide (0xc1000 ≤ off) && decide (off < 0xc5000)) || registerAt off

/-- What a register's word reads: zeros of a unit that does not exist (R12); levels, log entries and values in force are derived
(R10, R459, R531, R533); write-only fields read zero (R2). -/
def readWord (s : State) (off : Nat) : Nat :=
  let there := match findBlock off with
    | none => false
    | some (k, i, _) => unitThere s k i
  if there = false then 0
  else if 0xc0010 ≤ off ∧ off < 0xc0030 then
    ((List.range 32).map fun i => if level s (8 * (off - 0xc0010) + i) then 2 ^ i else 0).sum
  else if 0xc1000 ≤ off ∧ off < 0xc5000 then logWord s ((off - 0xc1000) / 16) ((off - 0xc1000) / 4 % 4)
  else if 0x7080900 ≤ off ∧ off < 0x7080f00 then
    ((placesAt (off - 0x800)).map fun p => p.fld.toWord (off - 0x800) (inForce s p.fld)).sum
  else
    let o := cellCanon s (poolCanon off)
    ((placesAt o).map fun p => if p.access = .wo then 0 else p.fld.toWord o (if p.fld = F.CH_DEC_WEIGHT ((o - 0x1000000) / 0x40000) then max 1 (get s p.fld) else get s p.fld)).sum

/-- A record's value loaded into the "tab" fields of a word (R485). -/
def loadWord (off v : Nat) (s : State) : State :=
  let o := poolCanon off
  (tabPlaces o).foldl (fun t p => load p.fld (p.fld.fromWord o (deflt t p.fld) v) t) s

end Sys2Proof.Machine
end

