-- ==== Sys2Proof/Machine/Tablature.lean ====
section
/-! DEFINITION. The tablature: its checks, how its sections load the registers, download, commit and the session (R1, R14, R15,
R20, R35, R102, R159, R202, R203, R210, R211, R228, R332, R341, R343, R415, R416, R478 to R491, R495, R523). -/

namespace Sys2Proof.Machine

/-! ### Checks 1 to 3 -/

/-- Where the signature block of an image lies (R480). -/
def imgSig (img : List Nat) : Nat := imgNat img 28 4

/-- The sections a tablature must have (R481). -/
def mandatory : List Nat := [1, 2, 3, 4, 5, 16]

/-- Whether the directory is as R480 and R481 say. -/
def dirOk (img : List Nat) : Bool :=
  let d := imgDir img
  let start := 256 + 16 * d.length
  let rising := (d.zip (d.drop 1)).all fun p => decide (p.1.1 < p.2.1)
  let apart := (List.range d.length).all fun i => (List.range i).all fun j =>
    let a := d.getD i (0, 0, 0, 0)
    let b := d.getD j (0, 0, 0, 0)
    decide (a.2.2.1 + a.2.2.2 ≤ b.2.2.1) || decide (b.2.2.1 + b.2.2.2 ≤ a.2.2.1)
  let zero := (List.range d.length).all fun i => decide (imgNat img (256 + 16 * i + 12) 4 = 0)
  let ids := (d.all fun e => decide (e.1 ∈ mandatory) || decide (0x8000 ≤ e.1)) && mandatory.all fun i => d.any fun e => decide (e.1 = i)
  let inside := d.all fun e => decide (e.2.2.1 % 8 = 0) && decide (start ≤ e.2.2.1) && decide (e.2.2.1 + e.2.2.2 ≤ imgSig img)
  rising && apart && zero && ids && inside

/-- Check 1: the detail of the first failure, 0 where the image is intact (R488). -/
def tabIntegrity (img : List Nat) : Nat :=
  let o := imgSig img
  let len := imgNat img 8 4
  if imgNat img 0 4 ≠ 0x61546c4d ∨ imgNat img 4 2 ≠ 1 then 1
  else if o % 8 ≠ 0 ∨ len ≠ o + 5376 ∨ 2 ^ 24 < len ∨ img.length < len ∨ o < 256 + 16 * imgNat img 6 2 then 2
  else if crc64 (img.take (len - 8)) ≠ imgNat img (len - 8) 8 then 3
  else if dirOk img = false then 4
  else 0

/-- Check 3 (R1, R488), with the security version at an offset of the object. -/
def bindFault (s : State) (hw unit ver : Nat) : Nat :=
  if hw ≠ hwType s then 1 else if unit ≠ 0 ∧ unit ≠ unitId s then 2 else if ver < thermometer s then 3 else 0

/-! ### Loading -/

/-- The arbour entries: PARENT, KIND, K, OPEN_MAX, CAROUSEL, SPARE_POOL, bays, CREDIT (R483). -/
structure ArbEntry where
  parent : Nat
  kind   : Nat
  k      : Nat
  open'  : Nat
  car    : Nat
  spare  : Nat
  bays   : Nat
  credit : Nat
  zeros  : Nat
  deriving DecidableEq, Repr

def arbEntries (img : List Nat) : List ArbEntry :=
  let t := imgSection img 2
  (List.range (imgNat t 0 4)).map fun a =>
    let f (o n : Nat) : Nat := imgNat t (4 + 16 * a + o) n
    ⟨f 0 2, f 2 1, f 3 1, f 4 1, f 5 1, f 6 1, f 8 4, f 12 2, f 7 1 + f 14 2⟩

/-- The depth of every arbour, parents first (R483). -/
def arbDepths (es : List ArbEntry) : List Nat :=
  es.foldl (fun l e => l ++ [if e.parent = 0xffff then 0 else l.getD e.parent 0 + 1]) []

/-- The control-tree levels of a node with `n` children: max(1, ceil(log8 n)). -/
def nodeLevels (n : Nat) : Nat := if n ≤ 8 then 1 else if n ≤ 64 then 2 else 3

/-- The levels from the root down to an arbour, itself included. -/
def arbLevels (es : List ArbEntry) : List Nat :=
  (List.range es.length).foldl (fun l i =>
    let e := es.getD i ⟨0, 0, 0, 0, 0, 0, 0, 0, 0⟩
    let n := (es.filter fun x => decide (x.parent = i)).length + countBits e.bays
    l ++ [(if e.parent = 0xffff then 0 else l.getD e.parent 0) + nodeLevels n]) []

/-- The level count L of the tree: the largest sum of levels along a path from the root to a bay, so that an arbour with no bay
below it adds nothing (R16, R25). -/
def levelCount (es : List ArbEntry) : Nat :=
  ((es.zip (arbLevels es)).map fun p => if p.1.bays = 0 then 0 else p.2).foldl max 0

/-- The bays below an arbour of a tablature. -/
def entryBays (es : List ArbEntry) (a : Nat) : Nat :=
  let up := (List.range es.length).foldl (fun (l : List Bool) i =>
    l ++ [decide (i = a) || l.getD (es.getD i ⟨0xffff, 0, 0, 0, 0, 0, 0, 0, 0⟩).parent false]) []
  ((es.zip up).map fun p => if p.2 then p.1.bays else 0).foldl (· ||| ·) 0

/-- The Instances section loads the units, the port mode and the lane maps (R481, R482). -/
def loadInstances (img : List Nat) (s : State) : State :=
  let t := imgSection img 1
  let s1 := load F.GLB_INST_HEAD (imgNat t 0 8) (load F.GLB_INST_BAY (imgNat t 8 4) (load F.GLB_INST_MISC_CAROUSELS (imgNat t 12 1 % 16)
    (load F.GLB_INST_MISC_DDR_CH (imgNat t 14 2) (load F.HST_STATUS_PORT_MODE (imgNat t 16 1)
      (load F.HST_STATUS_PF1 (if imgNat t 16 1 = 3 then 0 else 1) s)))))
  forAll (List.range 64) (fun h u => load (F.HL_LANE_MAP h) (imgNat t (32 + 8 * h) 4) u) s1

/-- The Arbours section loads the tree (R481, R483, R523). -/
def loadArbours (img : List Nat) (s : State) : State :=
  let es := arbEntries img
  let s1 := load F.GLB_ARB_COUNT_ARBOURS es.length (load F.GLB_ARB_COUNT_LEVELS (levelCount es) s)
  let s2 := forAll (List.range es.length) (fun a u =>
    let e := es.getD a ⟨0, 0, 0, 0, 0, 0, 0, 0, 0⟩
    [(F.ARB_AR_CFG_PARENT a, e.parent), (F.ARB_AR_CFG_KIND a, e.kind), (F.ARB_AR_CFG_DOMAIN a, if e.k = 0 then 0 else 1),
      (F.ARB_AR_CFG_K a, e.k), (F.ARB_AR_CFG_OPEN_MAX a, e.open'), (F.ARB_AR_CFG_DEPTH a, (arbDepths es).getD a 0),
      (F.ARB_AR_CREDIT a, e.credit), (F.ARB_AR_SPARE_POOL a, e.spare)].foldl (fun t p => load p.1 p.2 t) u) s1
  let leaves := (List.range es.length).filter fun a => decide ((es.map ArbEntry.kind).getD a 0 = 2)
  { s2 with lib := { s2.lib with
      leafBays := leaves.map fun a => (a, (es.map ArbEntry.bays).getD a 0)
      leafCar := leaves.map fun a => (a, (es.map ArbEntry.car).getD a 0) } }

/-- The Frets section loads N_f and the format permits of every head, and the acquisition gains of fret 0 (R481, R484). -/
def loadFrets (img : List Nat) (s : State) : State :=
  let t := imgSection img 3
  forAll (List.range 64) (fun h u =>
    let u1 := load (F.CH_ACQ_FAST_GAIN h) (imgNat t 5 1) (load (F.CH_ACQ_TRACK_GAIN h) (imgNat t 6 1) u)
    forAll (List.range 20) (fun f v => load (F.CH_NF_N h f) (imgNat t (224 * f + 2) 2)
      (load (F.CH_NF_FMT1 h f) (imgNat t (224 * f + 4) 1 % 2) v)) u1) s

/-- The records of an image: offset and value (R485). -/
def tabRecords (img : List Nat) : List (Nat × Nat) :=
  let t := imgSection img 16
  (List.range (t.length / 8)).map fun i => (imgNat t (8 * i) 4, imgNat t (8 * i + 4) 4)

/-- A coefficient of a loop cell at an offset (0x040 to 0x1fc of its block): cell and coefficient number. -/
def coefAt (off : Nat) : Option (Nat × Nat) :=
  let o := off % 0x1000
  let d := off % 0x100000
  if 0x2000000 ≤ off ∧ off < 0x3000000 ∧ 0x10000 ≤ d ∧ d < 0x30000 ∧ 0x40 ≤ o ∧ o < 0x200
  then some (32 * ((off - 0x2000000) / 0x100000) + (d - 0x10000) / 0x1000, (o - 0x40) / 4) else none

/-- One record loaded; a coefficient is in force with it (R214, R485). -/
def loadRecord (r : Nat × Nat) (s : State) : State :=
  let s1 := loadWord r.1 r.2 s
  match coefAt r.1 with
  | none => s1
  | some (n, k) => load (F.CELL_IN_FORCE n k) (if k = 8 then r.2 % 4096 else r.2) s1

/-- A tablature loads the registers; the cells it enables run and the tiles' loads follow (R481 to R485, R223). -/
def loadTab (img : List Nat) (s : State) : State :=
  let s1 := (tabRecords img).foldl (fun t r => loadRecord r t) (loadFrets img (loadArbours img (loadInstances img { s with tab := img })))
  let s2 := forAll (List.range 512) (fun n t => if isSet t (F.CELL_CTRL_EN n) then putB (F.CELL_STATUS_IN_SERVICE n) (tileUp t (n / 32)) t else t) s1
  forAll (List.range 16) loadRegs s2

/-! ### Check 5 -/

/-- The first index of a list where a rule fails, as a failure in a section (R488). -/
def failAt (sec : Nat) (l : List Nat) (ok : Nat → Bool) : Option (Nat × Nat) := (l.find? fun i => !ok i).map fun i => (sec, i)
def failIf (sec : Nat) (bad : Bool) : Option (Nat × Nat) := if bad then some (sec, 0) else none

/-- The Instances section (R20, R482). -/
def checkInstances (img : List Nat) : Option (Nat × Nat) :=
  let t := imgSection img 1
  let heads := (List.range 64).filter fun h => decide (bitOf (imgNat t 0 8) h = 1)
  let lane (h i : Nat) : Nat := imgNat t (32 + 8 * h + i) 1
  let rx := (heads.map fun h => (List.range 4).map (lane h)).flatten
  let tx := heads.map fun h => lane h 4
  (failIf 1 (decide (t.length ≠ 544) || decide (imgNat t 14 2 ≠ 0xffff) || decide (3 < imgNat t 16 1))).or
    (failAt 1 heads fun h => decide (bitOf (imgNat t 8 4) (h / 2) = 1)
      && ((List.range 4).all fun i => decide (lane h i / 64 = h / 16) && decide (rx.count (lane h i) = 1))
      && decide (lane h 4 / 16 = h / 16) && decide (tx.count (lane h 4) = 1))

/-- The Arbours section (R14, R15, R332, R483, R523). -/
def checkArbours (s : State) (img : List Nat) : Option (Nat × Nat) :=
  let t := imgSection img 2
  let n := imgNat t 0 4
  let es := arbEntries img
  let bays := imgNat (imgSection img 1) 8 4
  let cars := imgNat (imgSection img 1) 12 1
  let all := (es.map ArbEntry.bays)
  let entryOk (a : Nat) : Bool :=
    let e := es.getD a ⟨0, 0, 0, 0, 0, 0, 0, 0, 0⟩
    let parentOk := if a = 0 then decide (e.parent = 0xffff) && decide (e.kind = 0)
      else decide (e.parent < a) && decide (e.kind = 1 ∨ e.kind = 2) && decide ((es.map ArbEntry.kind).getD e.parent 2 ≠ 2)
    let kOk := decide (e.k = 0) || (decide (4 ≤ e.k) && decide (e.k ≤ 30) && decide (e.k + 2 ≤ countBits (entryBays es a)))
    let openOk := decide (1 ≤ e.open') && decide (e.open' ≤ 7) && (decide (e.k = 0) || decide (2 ≤ e.open'))
    let leafOk := if e.kind = 2 then decide (e.car < 4) && decide (bitOf cars e.car = 1) && decide (e.bays ≠ 0)
        && decide (e.bays / 2 ^ (8 * e.car) * 2 ^ (8 * e.car) = e.bays) && decide (e.bays / 2 ^ (8 * e.car) < 256) && decide (e.bays &&& bays = e.bays)
      else decide (e.car = 0xff) && decide (e.bays = 0)
    parentOk && kOk && openOk && leafOk && decide (e.zeros = 0)
  let once := (List.range 32).all fun b => decide (bitOf bays b = 0) || decide ((all.map fun m => bitOf m b).sum = 1)
  let setsOk (a : Nat) : Bool := s.lib.sets.all fun p =>
    decide (p.2.st = 0) || decide (p.2.domain ≠ a) || decide (p.2.width ≤ countBits (entryBays es a))
  (failIf 2 (decide (n = 0) || decide (256 < n) || decide (t.length ≠ 4 + 16 * n))).or
    ((failAt 2 (List.range n) entryOk).or
      ((failIf 2 (!once || decide (15 < levelCount es))).or (failAt 2 (List.range 256) setsOk)))

/-- The Frets, Policy and Model sections (R35, R102, R484, R486). -/
def checkFrets (s : State) (img : List Nat) : Option (Nat × Nat) :=
  let t := imgSection img 3
  let p := imgSection img 4
  let m := imgSection img 5
  let fretOk (f : Nat) : Bool :=
    let g (o n : Nat) : Nat := imgNat t (224 * f + o) n
    decide (g 0 2 = firstBand f) && decide (96 ≤ g 2 2) && decide (g 2 2 ≤ 256) && decide (g 4 1 < 2) && decide (g 7 1 = 0)
      && decide (g 14 2 = 0) && decide (g 88 1 = f) && decide (g 90 2 ≤ fuseBits s 6 16 16)
  (failIf 3 (decide (t.length ≠ 4480))).or ((failAt 3 (List.range 20) fretOk).or
    ((failIf 4 (decide (p.length ≠ 16))).or ((failAt 4 (List.range 10) fun i => decide (imgNat p i 1 ≤ 6)).or
      ((failIf 4 (decide (imgNat p 10 6 ≠ 0))).or ((failIf 5 (decide (m.length ≠ 2240))).or
        (failAt 5 (List.range 32) fun b => decide (imgNat m (16 * b + 12) 4 = 0)))))))

/-- The Records section, judged against the units the image itself instantiates (R485). -/
def checkRecords (c : State) (img : List Nat) : Option (Nat × Nat) :=
  let rs := tabRecords img
  let recOk (i : Nat) : Bool :=
    let (off, v) := rs.getD i (0, 0)
    let ps := tabPlaces off
    let there := match findBlock off with
      | none => false
      | some (k, j, _) => unitThere c k j
    decide (off % 4 = 0) && !ps.isEmpty && !sectionField off && there && decide (v &&& coverOf ps off = v)
  (failIf 16 (decide ((imgSection img 16).length % 8 ≠ 0))).or (failAt 16 (List.range rs.length) recOk)

/-- The last record that loads a word, where a rule on the loaded state fails there. -/
def failRecord (img : List Nat) (l : List Nat) (off : Nat → Nat) (ok : Nat → Bool) : Option (Nat × Nat) :=
  match l.find? fun i => !ok i with
  | none => none
  | some i =>
    let rs := tabRecords img
    some (16, ((List.range rs.length).filter fun j => decide ((rs.getD j (0, 0)).1 = off i)).getLastD 0)

/-- R102 for a fret and a speed tolerance in 1/10,000. -/
def nfOk (n f tol : Nat) : Bool :=
  decide (1010 * (10000 + tol) * (12 + f) * 50790400 ≤ 6250000 * n * 10000000)
    && decide (6250000 * n * 10000 + 4 * tol * (12 + f) * 25395200 ≤ 4 * 10000 * (12 + f) * 25395200)

/-- R159: the spread of a head's beam angles, in bits of the outermost fret, is at most 512. -/
def spreadOk (c : State) (h : Nat) : Bool :=
  let os := (List.range 32).map fun k => getI c (F.CH_BEAM_OFS h k)
  decide ((os.foldl max (os.headD 0) - os.foldl min (os.headD 0)) * 31 * 155 ≤ 512 * 64 * 65536)

/-- R202, R203: a cell's RATE, PHASE, SRC and SP_SRC. -/
def cellOk (c : State) (n : Nat) : Bool :=
  let r := get c (F.CELL_CTRL_RATE n)
  decide (r ≤ 5) && decide (get c (F.CELL_CTRL_PHASE n) < ratePeriod r)
    && decide (get c (F.CELL_SRC n) / 4096 ≤ 6) && decide (get c (F.CELL_SP_SRC n) / 4096 ≤ 6)

/-- R210: a tile's utilisation and its worst deadline sum. -/
def tileOk (c : State) (t : Nat) : Bool :=
  let l := loadOf c (tileCells c t)
  decide (l.1 ≤ 800000000) && decide (l.2 ≤ 700)

/-- R211: a node in use has a member, one rate class and no member with KB 0. -/
def nodeOk (c : State) (m : Nat) : Bool :=
  let ms := (nodeMembers c m).map Prod.snd
  (decide (get c (F.LE_NODE_CFG (m / 8) (m % 8)) = 0) && decide (get c (F.LE_NODE_DEST (m / 8) (m % 8)) = 0))
    || (decide (ms ≠ []) && ms.all fun n => decide (get c (F.CELL_CTRL_RATE n) = get c (F.CELL_CTRL_RATE (ms.headD 0))) && decide (get c (F.CELL_KB n) ≠ 0))

/-- R228 and R486: pole pairs 2 to 8, Ke × MAX_RPM × 2π/60 below 36 V, MAX_RPM within RPM_MAX. -/
def motorOk (s c : State) (b : Nat) : Bool :=
  decide (2 ≤ get c (F.MOT_MOTOR_P b)) && decide (get c (F.MOT_MOTOR_P b) ≤ 8)
    && decide (get c (F.MOT_KE b) * get c (F.MOT_KE_MAX_RPM b) < 343774678) && decide (get c (F.MOT_KE_MAX_RPM b) ≤ fuseBits s 6 32 16)

/-- R341 and R343: M is even, from 2 to 3C/4 (C in GiB, 0 where it is not known), and 8M holds the map, the pool and 72 GiB. -/
def mirrorOk (c : State) (cap : Nat) : Bool :=
  let m := get c F.BUF_MIRROR_M
  decide (m % 2 = 0) && decide (2 ≤ m) && (decide (cap = 0) || decide (4 * m ≤ 3 * cap))
    && decide (104 * 2 ^ 30 + get c F.ARB_FRAG_POOL * 2048 ≤ 8 * m * 2 ^ 30)

/-- R441, R486: the thresholds lie within W5. -/
def thrOk (s c : State) (i : Nat) : Bool :=
  let f := [F.THM_J_THR_WARN, F.THM_J_THR_THROTTLE, F.THM_J_THR_SHUT, F.THM_L_THR_WARN, F.THM_L_THR_THROTTLE, F.THM_L_THR_SHUT].getD i F.THM_J_THR_WARN
  decide (get c f ≤ fuseBits s 5 (8 * i) 8)

/-- The rules of check 5 on the loaded state `c` (R486). -/
def checkLoaded (s c : State) (cap : Nat) (img : List Nat) : Option (Nat × Nat) :=
  (failAt 3 (List.range 20) fun f => (headsOf c).all fun h => nfOk (imgNat (imgSection img 3) (224 * f + 2) 2) f (get c (F.CH_SPEED_TOL h))).or
  ((failRecord img (headsOf c) (fun h => (F.CH_BEAM_OFS h 0).off) (spreadOk c)).or
  ((failRecord img (List.range 512) (fun n => (F.CELL_CTRL_RATE n).off) (cellOk c)).or
  ((failRecord img (List.range 16) (fun t => (F.CELL_CTRL_RATE (32 * t)).off) (tileOk c)).or
  ((failRecord img (List.range 128) (fun m => (F.LE_NODE_CFG (m / 8) (m % 8)).off) (nodeOk c)).or
  ((failRecord img (baysOf c) (fun b => (F.MOT_KE b).off) (motorOk s c)).or
  ((failRecord img [0] (fun _ => F.BUF_MIRROR_M.off) (fun _ => mirrorOk c cap)).or
  (failRecord img (List.range 6) (fun i => if i < 3 then F.THM_J_THR_WARN.off else F.THM_L_THR_WARN.off) (thrOk s c))))))))

/-- Check 5: the section and the index of the first failure; `cap` is the capacity of a DDR5 channel in GiB (R486). -/
def tabStructure (s : State) (cap : Nat) (img : List Nat) : Option (Nat × Nat) :=
  let c := loadTab img { s with regs := [], loaded := [], force := [] }
  (checkInstances img).or ((checkArbours s img).or ((checkFrets s img).or ((checkRecords c img).or (checkLoaded s c cap img))))

/-- The checks of R488 in order, as CHECK_A codes them: check [7:0], detail [15:8], index [31:16]; 0 where the image passes.
Check 4 takes the sequence number it must exceed. -/
def tabFault (s : State) (cap : Nat) (above : Option Nat) (img : List Nat) : Nat :=
  let code (c d i : Nat) : Nat := c + 256 * d + 65536 * (i % 65536)
  let e1 := tabIntegrity img
  let e2 := sigFault s img (imgSig img) 0 ctxTab
  let e3 := bindFault s (imgNat img 12 4) (imgNat img 32 16) (imgNat img 24 4)
  let e4 := match above with | none => false | some n => decide (imgNat img 16 8 ≤ n)
  if e1 ≠ 0 then code 1 e1 0 else if e2 ≠ 0 then code 2 e2 0 else if e3 ≠ 0 then code 3 e3 0 else if e4 then code 4 0 0
  else match tabStructure s cap img with
    | some (d, i) => code 5 (d % 256) i
    | none => 0

/-! ### Download and commit -/

/-- The dwords staged from offset 0 without a gap, as bytes. -/
def stagedDwords : Nat → Map Nat → List Nat
  | _, [] => []
  | k, (j, v) :: m => if j = k then bytesLE 4 v ++ stagedDwords (k + 1) m else []
def Session.image (x : Session) : List Nat := stagedDwords 0 x.bytes

/-- Dwords staged at an offset. -/
def stage : Nat → List Nat → Map Nat → Map Nat
  | _, [], m => m
  | k, v :: vs, m => stage (k + 1) vs (mapPut m k (trunc 32 v))

/-- Whether a source may load a tablature, or firmware (R478). -/
def mayLoad (s : State) (fn lo : Nat) : Bool :=
  match sourceOf fn with
  | none => false
  | some n => decide (fuseBits s 3 (lo + n) 1 = 1)

/-- A requester's turn at a session: refused where its source is not permitted, or where another holds the session (R415). -/
def inSession (fn cid lo : Nat) (x : Option Session) (f : State → State) (s : State) : State :=
  if (sourceOf fn).isNone then adminDone fn cid 0 1 1 0 [] s
  else if mayLoad s fn lo = false then adminDone fn cid 1 0xc2 1 0 [] s
  else match x with
    | some v => if v.holder ≠ fn then adminDone fn cid 1 0xc1 0 0 [] s else f s
    | none => f s

/-- TABLATURE_DOWNLOAD: dwords staged; offset 0 opens or restarts the session (R415). -/
def execTablatureDownload (fn cid ofs : Nat) (data : List Nat) (s : State) : Out :=
  .next (adminIn true false fn cid (inSession fn cid 8 s.host.tabSess fun s =>
    if 2 ^ 22 < ofs + data.length then adminDone fn cid 0 2 1 0 [] s
    else if ofs ≠ 0 ∧ s.host.tabSess.isNone then adminDone fn cid 0 0xc 1 0 [] s
    else
      let old := if ofs = 0 then [] else match s.host.tabSess with | some v => v.bytes | none => []
      let m := stage ofs data old
      let s1 := putAll [(F.TAB_STATUS_SESSION_OPEN, 1), (F.TAB_STATUS_HOLDER, (sourceOf fn).getD 0), (F.TAB_STAGED, 4 * m.length)]
        { s with host := { s.host with tabSess := some ⟨fn, m, now s⟩ } }
      adminDone fn cid 0 0 0 0 [] s1) s)

/-- The image of the open session; empty where none is open. -/
def staged (x : Option Session) : List Nat := match x with | some v => v.image | none => []

/-- A Tablature Commit that a check refuses: Tablature Invalid with the check in DW0 (R416, R488). -/
def tabRefuse (fn cid code : Nat) (s : State) : State :=
  adminDone fn cid 1 0xc4 1 code [] (raise evTAB B.TAB_EVT_COMMIT_FAIL (closeTab s))

/-- The code of the first failing check of a commit (R416). -/
def commitFault (s : State) : Nat :=
  tabFault s (get s F.BUF_CONFIG_C) (some (max (get s F.GLB_TAB_SEQ) s.tabPassed)) (staged s.host.tabSess)

/-- TABLATURE_COMMIT_VALIDATE: action 0 (R416). -/
def execTablatureCommitValidate (fn cid : Nat) (s : State) : Out :=
  .next (adminIn true false fn cid (inSession fn cid 8 s.host.tabSess fun s =>
    let e := commitFault s
    if e ≠ 0 then tabRefuse fn cid e s else adminDone fn cid 0 0 0 0 [] (closeTab s)) s)

/-- The SEQ in a copy's header, 0 where it cannot be read (R494). -/
def headerSeq (img : List Nat) : Nat := if imgNat img 0 4 = 0x61546c4d ∧ 24 ≤ img.length then imgNat img 16 8 else 0

/-- The copy a Commit writes: the one not selected; in recovery the one with the lower header SEQ, A on a tie (R489, R490). -/
def commitToB (s : State) : Bool :=
  let sel := get s F.TAB_STATUS_SELECTED
  if sel = 3 then decide (headerSeq s.flash.tabB < headerSeq s.flash.tabA) else decide (sel = 0)

/-- TABLATURE_COMMIT_WRITE: action 1 validates, writes the copy not selected and reads it back; `readOk` tells whether the
read-back passes (R416, R487). -/
def execTablatureCommitWrite (fn cid : Nat) (readOk : Bool) (s : State) : Out :=
  .next (adminIn true false fn cid (inSession fn cid 8 s.host.tabSess fun s =>
    let e := commitFault s
    if e ≠ 0 then tabRefuse fn cid e s
    else
      let full := staged s.host.tabSess
      let img := if readOk then full.take (imgNat full 8 4) else []
      let s1 := closeTab s
      let s2 := if commitToB s then put F.TAB_SEQ_B (headerSeq img) { s1 with flash := { s1.flash with tabB := img } }
        else put F.TAB_SEQ_A (headerSeq img) { s1 with flash := { s1.flash with tabA := img } }
      if readOk then
        adminDone fn cid 0 0 0 0 [] (raise evTAB B.TAB_EVT_COMMIT_DONE (bump F.TAB_COMMITS 1 { s2 with tabPassed := max s2.tabPassed (headerSeq img) }))
      else adminDone fn cid 0 6 1 0 [] (raise evTAB B.TAB_EVT_COMMIT_FAIL s2)) s)

/-- A session whose holder has been silent for 60 s (R415, R498). -/
def silent (s : State) (x : Option Session) : Bool := match x with | some v => decide (60 * 156250000 + v.used ≤ now s) | none => false

/-- TABLATURE_SESSION_TIMEOUT (R415). -/
def execTablatureSessionTimeout (s : State) : Out :=
  if silent s s.host.tabSess then .next (raise evTAB B.TAB_EVT_SESSION_TIMEOUT (closeTab s)) else .next s

/-- TAB_SESSION_ABORT (R495). -/
def execTabSessionAbort (s : State) : Out := .next (if s.host.tabSess.isSome then closeTab s else s)

/-! ### Selection at start-up -/

/-- The registers that a selected copy sets (R489, R494). -/
def tabSelected (img : List Nat) (s : State) : State :=
  let d := digest (img.take (imgSig img))
  let s1 := [(F.GLB_TAB_SEQ, imgNat img 16 8), (F.TAB_SEC_VER, imgNat img 24 4), (F.TAB_LEN, imgNat img 8 4),
    (F.TAB_STATUS_KEY_SLOT, imgNat img (imgSig img) 1)].foldl (fun t p => load p.1 p.2 t) s
  forAll (List.range 12) (fun i t => load (F.TAB_DIGEST i) (d / 2 ^ (32 * i)) t) { s1 with tabPassed := max s1.tabPassed (imgNat img 16 8) }

/-- The selection of a tablature (R489, R490): the copy with the higher SEQ first, A on a tie; `cap` is the capacity of a DDR5
channel in GiB. -/
def selectTab (cap : Nat) (s : State) : State :=
  let a := s.flash.tabA
  let b := s.flash.tabB
  let s0 := putAll [(F.TAB_SEQ_A, headerSeq a), (F.TAB_SEQ_B, headerSeq b)] s
  let bFirst := decide (headerSeq a < headerSeq b)
  let first := if bFirst then b else a
  let other := if bFirst then a else b
  let n1 := if bFirst then 1 else 0
  let chk (n : Nat) : Fld := if n = 1 then F.TAB_CHECK_B else F.TAB_CHECK_A
  let e1 := tabFault s cap none first
  if e1 = 0 then tabSelected first (loadTab first (put F.TAB_STATUS_SELECTED n1 s0))
  else
    let e2 := tabFault s cap none other
    let s1 := put (chk n1) e1 s0
    let s2 := if headerSeq first ≠ 0 then raise evTAB B.TAB_EVT_SELECTED_OTHER s1 else s1
    if e2 = 0 then tabSelected other (loadTab other (put F.TAB_STATUS_SELECTED (1 - n1) s2))
    else raise evTAB B.TAB_EVT_RECOVERY (put F.TAB_STATUS_SELECTED 3 (put (chk (1 - n1)) e2 s2))

end Sys2Proof.Machine
end

