-- ==== Sys2Proof/Machine/Firmware.lean ====
section
/-! DEFINITION. Firmware update: packages and their checks, commit, activation, probation, fallback and settings (R496 to R514). -/

namespace Sys2Proof.Machine

/-! ### The letters -/

/-- A letter of the firmware slots: 0 is A, 1 is B (R497). -/
def letter (s : State) (i : Nat) : Letter := if i = 1 then s.flash.fw.letterB else s.flash.fw.letterA
def updFw (f : Firmware → Firmware) (s : State) : State := { s with flash := { s.flash with fw := f s.flash.fw } }
def putLetter (i : Nat) (l : Letter) : State → State :=
  updFw fun f => if i = 1 then { f with letterB := l } else { f with letterA := l }

/-- The letter a component is active in (R506): those switched by the activation under way are in the new one. -/
def letterOf (s : State) (c : Nat) : Nat := if c ∈ s.flash.fw.switched then 1 - s.flash.fw.active else s.flash.fw.active

/-- The slot sizes in bytes (R496). -/
def slotSize (c : Nat) : Nat := [0x200000, 0x400000, 0x400000, 0x200000, 0x1000000].getD c 0

/-- The FWU registers that show the letters (R513, R514). Boot stage 2 switches at a start-up only, so its version is shown then. -/
def showFw (boot : Bool) (s : State) : State :=
  let f := s.flash.fw
  let a := letter s f.active
  let o := letter s (1 - f.active)
  let alt (l : Letter) (i : Nat) : Nat := if l.valid then l.versions.getD i 0 else 0
  let s1 := putAll [(F.FWU_STATUS_ACTIVE_B, f.active), (F.FWU_STATUS_ARMED_B, f.armed), (F.FWU_STATUS_JOURNAL, f.state),
    (F.FWU_STATUS_SIGNER, a.signer), (F.FWU_SEC_VER_ACTIVE, a.secVer), (F.FWU_SEC_VER_OTHER, if o.valid then o.secVer else 0),
    (F.FWU_FALLBACKS, f.fallbacks)] s
  forAll (List.range 5) (fun i t =>
    if i = 0 && !boot then t
    else put (F.FWU_VER i) ((letter t (letterOf t i)).versions.getD i 0) (put (F.FWU_ALT i) (alt (letter t (1 - letterOf t i)) i) t)) s1

/-! ### Packages -/

/-- A descriptor of a package (R500). -/
structure Delta where
  comp     : Nat
  version  : Nat
  opOfs    : Nat
  opLen    : Nat
  resLen   : Nat
  baseHash : Nat
  resHash  : Nat
  compat   : List (Nat × Nat)
  tabFmt   : Nat × Nat
  deriving DecidableEq, Repr

def pkgDeltas (p : List Nat) : List Delta :=
  (List.range (imgNat p 6 2)).map fun i =>
    let f (o n : Nat) : Nat := imgNat p (128 + 256 * i + o) n
    ⟨f 0 1, f 4 4, f 12 4, f 16 4, f 20 4, f 24 48, f 72 48, (List.range 5).map fun j => (f (120 + 8 * j) 4, f (124 + 8 * j) 4), (f 160 2, f 162 2)⟩
def pkgSig (p : List Nat) : Nat := imgNat p 36 4

/-- The result of an op stream on a base, none where it is invalid (R501). -/
def runOps : Nat → List Nat → List Nat → List Nat → Option (List Nat)
  | 0, _, _, _ => none
  | _ + 1, [], _, _ => none
  | n + 1, op :: ops, base, out =>
    let a := ofBytesLE (ops.take 4)
    if op = 0 then some out
    else if op = 1 then
      let len := ofBytesLE ((ops.drop 4).take 4)
      if ops.length < 8 ∨ base.length < a + len then none else runOps n (ops.drop 8) base (out ++ (base.drop a).take len)
    else if op = 2 then
      if ops.length < 4 + a then none else runOps n (ops.drop (4 + a)) base (out ++ (ops.drop 4).take a)
    else none

/-- The active image of a component, and the result of a delta on it (R500, R501); a full image has no base. -/
def activeImage (s : State) (c : Nat) : List Nat := (letter s (letterOf s c)).images.getD c []
def deltaResult (s : State) (p : List Nat) (d : Delta) : Option (List Nat) :=
  let base := if d.baseHash = 0 then [] else activeImage s d.comp
  match runOps (d.opLen + 1) ((p.drop d.opOfs).take d.opLen) base [] with
  | none => none
  | some r => if r.length = d.resLen ∧ digest r = d.resHash then some r else none

/-- Check 1 of a package (R499, R500, R503): none where it is intact, else the index of the descriptor at fault. -/
def pkgIntegrity (p : List Nat) : Option Nat :=
  let ds := pkgDeltas p
  let n := ds.length
  let o := pkgSig p
  let len := imgNat p 8 4
  if imgNat p 0 4 ≠ 0x5066774d ∨ imgNat p 4 2 ≠ 1 ∨ n = 0 ∨ 5 < n ∨ o % 8 ≠ 0 ∨ len ≠ o + 5376 ∨ 2 ^ 25 < len ∨ p.length < len
      ∨ o < 128 + 256 * n ∨ crc64 (p.take (len - 8)) ≠ imgNat p (len - 8) 8 then some 0
  else (List.range n).find? fun i =>
    let d := ds.getD i ⟨9, 0, 0, 0, 0, 0, 0, [], (0, 0)⟩
    !(decide (d.comp ≤ 4) && decide (d.resLen ≤ slotSize d.comp) && decide (128 + 256 * n ≤ d.opOfs) && decide (d.opOfs + d.opLen ≤ o)
      && ((List.range i).all fun j => decide ((ds.map Delta.comp).getD j 9 < d.comp)))

/-- Check 2 (R502): the signatures, and a customer slot signs component 4 alone. -/
def pkgUnsigned (s : State) (p : List Nat) : Bool :=
  let slot := imgNat p (pkgSig p) 1
  decide (sigFault s p (pkgSig p) 1 ctxFwp ≠ 0) || (decide (slot ≠ 0) && (pkgDeltas p).any fun d => decide (d.comp ≠ 4))

/-- The letter a package produces (R504): a component without a delta is a copy of its active image. -/
def pkgLetter (s : State) (p : List Nat) : Letter :=
  let ds := pkgDeltas p
  let old (c : Nat) : Letter := letter s (letterOf s c)
  let pick {α : Type} (c : Nat) (f : Delta → α) (g : Letter → α) : α :=
    match ds.find? fun d => decide (d.comp = c) with
    | some d => f d
    | none => g (old c)
  let cs := List.range 5
  { images := cs.map fun c => pick c (fun d => (deltaResult s p d).getD []) fun l => l.images.getD c []
    versions := cs.map fun c => pick c Delta.version fun l => l.versions.getD c 0
    secVer := imgNat p 32 4
    hwType := imgNat p 12 4
    unit := imgNat p 16 16
    signer := pick 4 (fun _ => imgNat p (pkgSig p) 1) Letter.signer
    compat := cs.map fun c => pick c Delta.compat fun l => l.compat.getD c []
    tabFmt := pick 4 Delta.tabFmt Letter.tabFmt
    valid := true }

/-- Whether a mixture of two letters holds every COMPAT range, with the components `on` in the new letter (R507). -/
def mixOk (s : State) (old new : Letter) (on : List Nat) : Bool :=
  let l (c : Nat) : Letter := if c ∈ on then new else old
  let ver (c : Nat) : Nat := (l c).versions.getD c 0
  let fmt := imgNat s.tab 4 2
  ((List.range 5).all fun i => (List.range 5).all fun j =>
    let r := ((l i).compat.getD i []).getD j (0, 0)
    decide (i = j) || (decide (r.1 ≤ ver j) && decide (ver j ≤ r.2)))
    && (s.tab.isEmpty || (decide ((l 4).tabFmt.1 ≤ fmt) && decide (fmt ≤ (l 4).tabFmt.2)))

/-- The whole activation order: link, channel, loop, management, then boot stage 2 (R506, R507). -/
def orderOk (s : State) (new : Letter) : Bool :=
  let old := letter s s.flash.fw.active
  (if old.valid then [[1], [1, 2], [1, 2, 3], [1, 2, 3, 4]] else []).all (mixOk s old new) && mixOk s old new [0, 1, 2, 3, 4]

/-- The first failing check of a package and its descriptor (R503). -/
def pkgFault (s : State) (p : List Nat) : Option (Nat × Nat) :=
  let ds := pkgDeltas p
  match pkgIntegrity p with
  | some i => some (1, i)
  | none =>
    if pkgUnsigned s p then some (2, 0)
    else if bindFault s (imgNat p 12 4) (imgNat p 16 16) (imgNat p 32 4) ≠ 0 then some (3, 0)
    else match (List.range ds.length).find? fun i => match ds[i]? with
        | some d => decide (d.baseHash ≠ 0) && decide (digest (activeImage s d.comp) ≠ d.baseHash)
        | none => false with
      | some i => some (4, i)
      | none =>
        match (List.range ds.length).find? fun i => match ds[i]? with
            | some d => (deltaResult s p d).isNone
            | none => false with
        | some i => some (5, i)
        | none => if orderOk s (pkgLetter s p) then none else some (6, 0)

/-! ### Download and commit -/

/-- FIRMWARE_IMAGE_DOWNLOAD: dwords of the package staged in the firmware session (R498). -/
def execFirmwareImageDownload (fn cid ofs : Nat) (data : List Nat) (s : State) : Out :=
  .next (adminIn true false fn cid (inSession fn cid 12 s.host.fwSess fun s =>
    if 2 ^ 23 < ofs + data.length then adminDone fn cid 0 2 1 0 [] s
    else if ofs ≠ 0 ∧ s.host.fwSess.isNone then adminDone fn cid 0 0xc 1 0 [] s
    else
      let old := if ofs = 0 then [] else match s.host.fwSess with | some v => v.bytes | none => []
      let m := stage ofs data old
      adminDone fn cid 0 0 0 0 [] (putAll [(F.FWU_STATUS_SESSION_OPEN, 1), (F.FWU_STATUS_HOLDER, (sourceOf fn).getD 0), (F.FWU_STAGED, 4 * m.length)]
        { s with host := { s.host with fwSess := some ⟨fn, m, now s⟩ } })) s)

/-- A Commit that R503 refuses: Invalid Firmware Image with the check and the descriptor. -/
def fwRefuse (fn cid check desc : Nat) (s : State) : State :=
  adminDone fn cid 1 7 1 (check + 256 * desc) [] (raise evFWU B.FWU_EVT_COMMIT_FAIL
    (putAll [(F.FWU_CHECK, check), (F.FWU_CHECK_DESC, desc)] (closeFw s)))

/-- The letter a slot number names (R497, R505): 0 the inactive letter. -/
def slotLetter (s : State) (fs : Nat) : Option Nat :=
  if fs = 0 then some (1 - s.flash.fw.active) else if fs = 2 then some 0 else if fs = 3 then some 1 else none

/-- A Commit in turn (R505): prohibited while a probation runs, but for one that names the old letter to fall back; refused
while an activation has not completed, and where the slot is not allowed. -/
def fwTurn (fn cid fs : Nat) (activeOk : Bool) (f : Nat → State → State) (s : State) : State :=
  adminIn true false fn cid (inSession fn cid 12 s.host.fwSess fun s =>
    match slotLetter s fs with
    | none => adminDone fn cid 1 6 1 0 [] (closeFw s)
    | some i =>
      if s.flash.fw.state = 2 then adminDone fn cid 1 0x13 1 0 [] s
      else if s.flash.fw.state = 3 ∧ ¬(activeOk = true ∧ i ≠ s.flash.fw.active) then adminDone fn cid 1 0x13 1 0 [] (closeFw s)
      else if i = s.flash.fw.active ∧ activeOk = false then adminDone fn cid 1 6 1 0 [] (closeFw s)
      else f i s) s

/-- The inactive letter written and read back; a failed read-back leaves it invalid and the journal IDLE (R504). -/
def writeLetter (i : Nat) (p : List Nat) (readOk : Bool) (s : State) : State :=
  showFw false (if readOk then updFw (fun f => { f with state := 1 }) (putLetter i (pkgLetter s p) s)
    else updFw (fun f => { f with state := 0 }) (putLetter i {} s))

/-- A package validated and written, then `f` (R503 to R505). -/
def fwWrite (fn cid i : Nat) (readOk : Bool) (f : State → State) (s : State) : State :=
  let p := staged s.host.fwSess
  match pkgFault s p with
  | some (c, d) => fwRefuse fn cid c d s
  | none =>
    let s1 := writeLetter i p readOk s
    if readOk then f s1 else adminDone fn cid 0 6 1 0 [] (raise evFWU B.FWU_EVT_COMMIT_FAIL (closeFw s1))

/-- A Commit completes, and its session closes (R498, R514). -/
def fwDone (fn cid : Nat) (s : State) : State := adminDone fn cid 0 0 0 0 [] (raise evFWU B.FWU_EVT_COMMIT_DONE (closeFw s))

/-- A letter armed for the next start-up (R505). -/
def arm (i : Nat) (s : State) : State := showFw false (updFw (fun f => { f with armed := i }) s)

/-- FIRMWARE_COMMIT_WRITE: CA 000 (R504, R505). -/
def execFirmwareCommitWrite (fn cid fs : Nat) (readOk : Bool) (s : State) : Out :=
  .next (fwTurn fn cid fs false (fun i => fwWrite fn cid i readOk (fwDone fn cid)) s)

/-- FIRMWARE_COMMIT_ARM: CA 001 (R505). -/
def execFirmwareCommitArm (fn cid fs : Nat) (readOk : Bool) (s : State) : Out :=
  .next (fwTurn fn cid fs false (fun i => fwWrite fn cid i readOk fun t => fwDone fn cid (arm i t)) s)

/-- Why an already written letter may not be used (R505, R512): checks 5, 3 and 6. -/
def letterFault (s : State) (i : Nat) : Option Nat :=
  let l := letter s i
  if l.valid = false then some 5
  else if bindFault s l.hwType l.unit l.secVer ≠ 0 then some 3
  else if i ≠ s.flash.fw.active ∧ orderOk s l = false then some 6
  else none

/-- A probation failure is recorded: the next start-up falls back (R510, R512). -/
def probationFail (s : State) : State :=
  if s.flash.fw.state = 2 ∨ s.flash.fw.state = 3 then updFw (fun f => { f with fellBack := true }) s else s

/-- FIRMWARE_COMMIT_ARM_WRITTEN: CA 010 arms a written letter; in probation, naming the old letter falls back by a full reset
(R505, R510). -/
def execFirmwareCommitArmWritten (fn cid fs : Nat) (s : State) : Out :=
  .next (fwTurn fn cid fs true (fun i s =>
    if s.flash.fw.state = 3 then chipReset 2 (probationFail (fwDone fn cid s))
    else match letterFault s i with
      | some c => fwRefuse fn cid c 0 s
      | none => fwDone fn cid (arm i s)) s)

/-! ### Activation -/

/-- Activation begins: the notice goes to every function that enables it, the journal records ACTIVATING (R506). -/
def beginActivation (fn cid : Nat) (s : State) : State :=
  let s1 := updFw (fun f => { f with state := 2, switched := [] }) (forAll (List.range 512) (notifyFn 0x201) s)
  put F.FWU_STATUS_STEP 1 (showFw false { s1 with host := { s1.host with fwCmd := some (fn, cid) } })

/-- FIRMWARE_COMMIT_ACTIVATE: CA 011 writes if a package is staged, then activates at once (R505, R506). -/
def execFirmwareCommitActivate (fn cid fs : Nat) (readOk : Bool) (s : State) : Out :=
  .next (fwTurn fn cid fs false (fun i s =>
    if s.host.fwSess.isSome then fwWrite fn cid i readOk (beginActivation fn cid) s
    else match letterFault s i with
      | some c => fwRefuse fn cid c 0 s
      | none => beginActivation fn cid s) s)

/-- FW_SESSION_TIMEOUT (R498). -/
def execFwSessionTimeout (s : State) : Out :=
  if silent s s.host.fwSess then .next (raise evFWU B.FWU_EVT_SESSION_TIMEOUT (closeFw s)) else .next s

/-- FWU_SESSION_ABORT (R514). -/
def execFwuSessionAbort (s : State) : Out := .next (if s.host.fwSess.isSome then closeFw s else s)

/-- A management reset (R522, R539): debug access ends unless the lock is open, every watchdog starts anew; the registers, the fence
and the mechanism stay. The requesters' shadows and held low halves (R4) stay too: the manual does not say whether a reset discards them
(DESIGN CHOICE, log entry 3). -/
def managementReset (s : State) : State :=
  putAll [(F.PWR_RESET_CAUSE_KIND, 2), (F.FUS_STATUS_DEBUG_ACTIVE, if fuseBits s 3 1 2 = 0 then 1 else 0)]
    { s with mgt := { s.mgt with kicked := (List.range 4).map fun p => (p, now s) } }

/-- The settings copy in use (R511). -/
def settingsCopy (s : State) (i : Nat) : Option Settings := if i = 1 then s.flash.fw.set1 else s.flash.fw.set0

/-- Firmware starts on the settings of the copy in use: values it can read, or defaults (R511). Vendor features are not saved. -/
def useSettings (reads regs : Bool) (s : State) : State :=
  match settingsCopy s s.flash.fw.setUse with
  | none => s
  | some x =>
    if x.ok = false then s
    else if reads = false then raise evFWU B.FWU_EVT_SETTINGS_DEFAULT { s with host := { s.host with features := [] } }
    else
      let s1 := { s with host := { s.host with features := x.features } }
      if regs then { s1 with regs := x.regs.foldl (fun m p => mapPut m p.1 p.2) s1.regs } else s1

/-- A head that follows a track: its channel microcode waits for the next seam (R506). -/
def seesSeams (s : State) (h : Nat) : Bool :=
  decide (get s (F.HL_STATUS_STATE h) = 5) && decide (4 ≤ get s (F.SV_STATUS_STATE h)) && decide (get s (F.SV_STATUS_STATE h) ≤ 8)

/-- The link firmware switches: the head-link messages in transit are sent again (R72, R506). -/
def resendAll (s : State) : State :=
  forAll ((headsOf s).filter fun h => decide ((linkOf s h).unacked ≠ [])) (fun h t =>
    bump (F.HL_MSG_STAT_RETX h) (linkOf t h).unacked.length (updLink h (fun k => { k with resend := k.unacked }) t)) s

/-- An activation that fails its check: every component back in the old letter (R507). -/
def undoActivation (s : State) : State :=
  let s1 := put F.FWU_STATUS_STEP 0 (showFw false (updFw (fun f => { f with state := 1, switched := [] }) s))
  match s.host.fwCmd with
  | none => s1
  | some (fn, cid) => fwRefuse fn cid 6 0 { s1 with host := { s1.host with fwCmd := none } }

/-- The new letter becomes the active one and its probation starts (R506, R508, R509). -/
def startProbation (s : State) : State :=
  let s1 := updFw (fun f => { f with active := 1 - f.active, armed := 1 - f.active, switched := [], state := 3, starts := 0, setOld := f.setUse }) s
  put F.FWU_PROBATION 0 { s1 with mgt := { s1.mgt with probAt := now s, probDue := false } }

/-- ACTIVATION_STEP: the component of the step has switched and the next step begins; step 4 restarts the pairs and starts the
probation (R506, R507). Step 2 waits until every head has passed a seam with its write gate closed, step 4 until the commands in flight have
completed; `reads` tells whether the new management firmware reads the settings. The loop tiles of step 3 return to the cells they had, so
that the step leaves no trace in the loop engine (log entry 90). -/
def execActivationStep (reads : Bool) (s : State) : Out :=
  let k := get s F.FWU_STATUS_STEP
  let f := s.flash.fw
  let mix (on : List Nat) : Bool := mixOk s (letter s f.active) (letter s (1 - f.active)) on
  if f.state ≠ 2 ∨ k = 0 ∨ 4 < k then .next s
  else if k = 2 ∧ (headsOf s).any (fun h => (chanOf s h).newCode && seesSeams s h) = true then .next s
  else if k = 4 ∧ (s.host.cmds ≠ [] ∨ s.host.fetching ≠ []) then .next s
  else if mix (f.switched ++ [k]) = false ∨ (k < 4 ∧ mix (f.switched ++ [k, k + 1]) = false) then .next (undoActivation s)
  else
    let s0 := if k = 1 then forAll (headsOf s) (fun h t => updChan h (fun c => { c with newCode := seesSeams s h }) t) (resendAll s)
      else if k = 2 then forAll (headsOf s) (fun h t => updChan h (fun c => { c with newCode := false }) t) s
      else s
    let s1 := showFw false (updFw (fun f => { f with switched := f.switched ++ [k] }) s0)
    if k < 4 then .next (put F.FWU_STATUS_STEP (k + 1) s1)
    else
      let s2 := raise evFWU B.FWU_EVT_ACTIVATED (put F.FWU_STATUS_STEP 0 (useSettings reads false (showFw false (startProbation (managementReset s1)))))
      match s.host.fwCmd with
      | none => .next s2
      | some (fn, cid) => .next (fwDone fn cid { s2 with host := { s2.host with fwCmd := none } })

/-! ### Probation, fallback and settings -/

/-- PROBATION_END: after a settings commit made after 10 minutes the journal records COMMITTED, the thermometer advances and the old
settings copy may be overwritten (R509). -/
def execProbationEnd (s : State) : Out :=
  if s.flash.fw.state ≠ 3 ∨ s.mgt.probDue = false then .next s
  else
    let v := (letter s s.flash.fw.active).secVer
    let s1 := (advance v s).2
    let s2 := if (advance v s).1 then raise evFWU B.FWU_EVT_ROLLBACK_REFUSED s1 else s1
    let s3 := updFw (fun f => { f with state := 4, setOld := f.setUse, starts := 0 }) { s2 with mgt := { s2.mgt with probDue := false } }
    .next (raise evFWU B.FWU_EVT_PROBATION_DONE (showFw false s3))

/-- Every component returns to the old letter, whose settings copy is used intact (R510). -/
def doFallback (s : State) : State :=
  let s1 := updFw (fun f =>
    let back := if f.state = 3 then 1 - f.active else f.active
    let g := { f with
      active := back, armed := back, switched := [], state := 0, starts := 0, fellBack := false, fallbacks := satAdd 32 f.fallbacks 1
      setUse := if f.state = 3 then f.setOld else f.setUse
      set0 := if f.state = 3 ∧ f.setOld = 1 then none else f.set0
      set1 := if f.state = 3 ∧ f.setOld = 0 then none else f.set1 }
    if back = 1 then { g with letterA := {} } else { g with letterB := {} }) s
  raise evFWU B.FWU_EVT_FALLBACK (showFw true s1)

/-- FALLBACK: a recorded probation failure takes effect before the next start-up runs the firmware (R510). -/
def execFallback (s : State) : Out :=
  if s.flash.fw.fellBack = true ∧ s.pwr.started = false then .next (doFallback s) else .next s

/-- SETTINGS_COMMIT: the next generation goes to the copy not in use; in probation never to the copy the old letter used (R509,
R511). `keys` names the registers the firmware saves, by bit address; `readOk` is the read-back. -/
def execSettingsCommit (fmt : Nat) (keys : List Nat) (readOk : Bool) (s : State) : Out :=
  if s.pwr.started = false ∨ isSet s F.DMP_STATUS_FATAL = true ∨ s.pwr.powerLoss = true then .next s
  else
    let f := s.flash.fw
    let gen := match settingsCopy s f.setUse with | some x => x.gen + 1 | none => 1
    let dst := if f.state = 3 then 1 - f.setOld else 1 - f.setUse
    let x : Settings := ⟨gen, fmt, (letter s f.active).versions.getD 4 0, s.host.features.filter fun p => decide (p.1 % 256 < 0xc0),
      s.regs.filter fun p => decide (p.1 ∈ keys), readOk⟩
    let s1 := updFw (fun g => { g with set0 := if dst = 0 then some x else g.set0, set1 := if dst = 1 then some x else g.set1,
                                       setUse := if readOk then dst else g.setUse }) s
    if readOk = true ∧ f.state = 3 ∧ 600 * 156250000 + s.mgt.probAt ≤ now s then .next { s1 with mgt := { s1.mgt with probDue := true } }
    else .next s1

/-- A letter that fails its start-up checks (R1, R477, R497, R504): what was written is invalid, for another hardware type or unit, or below the
thermometer. A letter that no Commit has written holds the factory's image, which passes (log entry 85). -/
def startBad (s : State) (i : Nat) : Bool :=
  let l := letter s i
  decide (l.images ≠ []) && (!l.valid || decide (bindFault s l.hwType l.unit l.secVer ≠ 0))

/-- Neither letter passes: the recovery image runs (R497). -/
def noLetter (s : State) : Bool := startBad s 0 && startBad s 1

/-- The firmware at a start-up (R1, R497, R506 to R511): a recorded failure falls back, a letter that fails its checks gives way to the other,
an armed letter or an interrupted activation switches, a probation starts afresh, the settings are restored. -/
def startFirmware (reads : Bool) (s : State) : State :=
  let s0 := if s.flash.fw.fellBack then doFallback s else s
  let a := s0.flash.fw.active
  let s1 := if startBad s0 a && !startBad s0 (1 - a) then updFw (fun f => { f with active := 1 - a, armed := 1 - a }) s0 else s0
  let f := s1.flash.fw
  let go := decide (f.state = 2) || (decide (f.armed ≠ f.active) && decide (letterFault s1 (1 - f.active) = none))
  let s2 := if go then startProbation s1
    else if f.state = 3 then { s1 with mgt := { s1.mgt with probAt := now s1, probDue := false } }
    else s1
  useSettings reads true (showFw true (updFw (fun f => { f with armed := f.active }) s2))

end Sys2Proof.Machine
end

