-- ==== Sys2Proof/Machine/Plp.lean ====
section
/-! DEFINITION. Power-loss protection: the hold-up energy and its test, the admission limit, the journal ring, the vault's
changes, the declaration and the end of the dump (R420 to R431, R435 to R437). -/

namespace Sys2Proof.Machine

/-- 2 × 10^15 times the usable energy in J (R423): C (V_bank² − V_MIN²) in mF µV², with the lower of C_NOM and the last
measured capacitance; 0 at or below V_MIN. -/
def energy2 (s : State) : Nat :=
  let m := 10000 * get s F.PLP_HU_CFG_V_MIN
  min (get s F.PLP_HU_CAP_C_NOM) (get s F.PLP_HU_CAP_C) * (s.plp.bank ^ 2 - m ^ 2)

/-- PLP.V_BANK follows the bank voltage and the capacitance. -/
def showBank (s : State) : State :=
  putAll [(F.PLP_V_BANK, min 65535 (s.plp.bank / 10000)), (F.PLP_V_BANK_E, min 65535 (energy2 s / (2 * 10 ^ 15)))] s

/-- HU_SENSE_SAMPLE: the HU_SENSE converter's code is corrected (R456), which is the boundary of CAL.HU (R455); V_bank is the
1 ms mean, or the new sample while a capacitance test runs (R423, R424). Samples in a row below V_LOSS are counted (R429). -/
def execHuSenseSample (code : Nat) (s : State) : Out :=
  let s1 := takeCal (fun i => decide (i = 1)) s
  let c : Int := (16 * (code % 65536) : Nat) - inForceI s1 F.CAL_HU_OFFSET
  let uv := (c * inForce s1 F.CAL_HU_GAIN).toNat * 2500000 / (2 ^ 34 * max 1 (get s F.PLP_HU_CFG_RATIO))
  let v := if get s F.PLP_HU_CFG_RATIO = 0 then 0 else uv
  let l := (v :: s.plp.samples).take 10
  let bank := if s.plp.testV0.isSome then v else l.sum / l.length
  let low := if bank < 10000 * get s F.PLP_HU_TEST_V_LOSS then s.plp.low + 1 else 0
  .next (showBank { s1 with plp := { s1.plp with samples := l, bank := bank, low := low } })

/-- The dirty space that the DDR5 pairs in service leave (R343, R354, R425). -/
def dirtySpace (s : State) : Nat :=
  let zone := 8 * bufM s - 32 * 2 ^ 30 - 2048 * get s F.ARB_FRAG_POOL - 8 * 2 ^ 30
  zone * ((List.range 8).filter fun p => !pairOut s p).length / 8

/-- R_vault in bytes a second: the lower of the measured and the tablature's rate (R422). -/
def rVault (s : State) : Nat := 1000000 * min (get s F.PLP_R_VAULT_TAB) (get s F.PLP_R_VAULT_MEAS)

/-- D_journal and D_max (R425, R427). -/
def dJournal (s : State) : Nat := 2 * 2 ^ 20 + tailBytes s + 128 * get s F.MAP_DIRTY
def dMax (s : State) : Nat :=
  let e := energy2 s - get s F.PLP_E_RESERVE * (2 * 10 ^ 15)
  let d := min (64 * 2 ^ 30) (rVault s * e / (max 1 (get s F.PLP_P_DUMP) * (2 * 10 ^ 15)) - dJournal s)
  if isSet s F.PLP_STATUS_VAULT_OK = false then 0
  else if (List.range 8).any (pairOut s) then min d (dirtySpace s) else d

/-- The limit written with STATUS.ADMIT_CLOSED; its event where D_max fell below D_dirty (R437). -/
def putLimit (d : Nat) (s : State) : State :=
  let closed := decide (d < get s F.PLP_D_DIRTY)
  let s1 := putB F.PLP_STATUS_ADMIT_CLOSED closed (put F.PLP_D_MAX d s)
  if closed && !isSet s F.PLP_STATUS_ADMIT_CLOSED then raise evPLP B.PLP_EVT_ADMIT_CLOSED s1 else s1

/-- ADMISSION_LIMIT_UPDATE: every 100 µs; write-through mode ends at the first one after the vault is usable again, and a deferred
header write is tried again (R425 to R427). -/
def execAdmissionLimitUpdate (s : State) : Out :=
  if s.pwr.powerLoss then .next s
  else
    let t := putLimit (dMax s) (put F.PLP_D_JOURNAL (dJournal s) (putB F.PLP_STATUS_WRITE_THROUGH (!isSet s F.PLP_STATUS_VAULT_OK) s))
    .next (match t.plp.header with | none => t | some st => updateHeader st t)

/-- A capacitance test starts: HU_TEST is driven and V0 taken (R424). -/
def startCapTest (s : State) : State :=
  if s.plp.testV0.isSome || s.pwr.powerLoss then s else { s with plp := { s.plp with testV0 := some s.plp.bank, testAt := now s } }

/-- CAP_TEST: PLP.CTRL.CAP_TEST runs the test now (R437). -/
def execCapTest (s : State) : Out := .next (startCapTest s)

/-- CAP_TEST_START: the test that start-up and every 24 h bring (R424). -/
def execCapTestStart (s : State) : Out :=
  let due := match s.plp.capAt with | none => true | some t => elapsed s t (24 * 3600 * 156250000)
  .next (if due then startCapTest { s with plp := { s.plp with capAt := some (now s) } } else s)

/-- CAP_TEST_END: C from V0 and V1 after 20 ms; a test with no valid result gives C = 0 (R424). -/
def execCapTestEnd (s : State) : Out :=
  match s.plp.testV0, elapsed s s.plp.testAt 3125000 with
  | none, _ => .next s
  | some _, false => .next s
  | some v0, true =>
    let v1 := s.plp.bank
    let c := if v0 ≤ v1 ∨ v1 = 0 then 0 else min 65535 (capacitance (get s F.PLP_HU_TEST_R_TEST) v0 v1)
    let s1 := showBank (put F.PLP_HU_CAP_C c { s with plp := { s.plp with testV0 := none } })
    .next (if c = 0 ∨ 10 * c < 8 * get s F.PLP_HU_CAP_C_NOM then raise evPLP B.PLP_EVT_CAP_LOW s1 else s1)

/-! ### The journal ring and the vault -/

/-- The first records of a list that fit into a number of bytes. -/
def fitting : Nat → List JournalRecord → List JournalRecord
  | _, [] => []
  | n, r :: rs => if recordSize r ≤ n then r :: fitting (n - recordSize r) rs else []

/-- JOURNAL_SEGMENT_WRITE: up to 4 MiB of the tail go to the ring once the energy check passes (R421, R426); a full ring first
gives up a segment that a map checkpoint covers, or forces an epoch switch (R293). -/
def execJournalSegmentWrite (s : State) : Out :=
  let all := fullTail s
  let rs := fitting (4 * 2 ^ 20) all
  let n := (rs.map recordSize).sum
  let v := s.plp.vault
  if !isSet s F.PLP_STATUS_VAULT_OK || s.pwr.powerLoss || rs = [] then .next s
  else if get s F.PLP_D_MAX < get s F.PLP_D_DIRTY + n then .next (bump F.PLP_CHECK_FAIL_VAULT 1 s)
  else
    let full := decide (2048 ≤ v.ring.length)
    let free := match v.ring with
      | [] => true
      | g :: _ => decide (g.epoch < s.lib.ckptEpoch)
    if full && !free then .next (switchEpoch true s)
    else .next { s with
      plp := { s.plp with
        vault := { v with
          ring := (if full then v.ring.drop 1 else v.ring) ++ [⟨get s F.ARB_EPOCH, rs⟩],
          first := if full then v.first + 1 else v.first },
        tail := all.drop rs.length }
      lib := { s.lib with jpages := [] } }

/-- An SSD that the controller can use (R420, R422). -/
def vaultUsable (x : VaultSeen) : Bool :=
  decide (0x10400 ≤ x.version) && decide (x.lba = 4096) && decide (128 ≤ x.gib) && decide (4000 ≤ x.rate) && x.header

/-- The rate that a test has measured (R422). -/
def vaultRate (x : VaultSeen) (s : State) : State :=
  let t := put F.PLP_R_VAULT_MEAS x.rate s
  putB F.PLP_STATUS_VAULT_SLOW (decide (rVault t < 12000000000)) t

/-- What a change leaves: the usability before it where a failed write may still be retried. -/
def vaultAfter (e : VaultEvent) (was : Bool) : Bool :=
  match e with
  | .linkLost => false
  | .writeFailed n => was && decide (n < 3)
  | .critical => false
  | .tested x => vaultUsable x

/-- VAULT_CHANGE: the vault becomes unusable, and write-through mode begins, or usable again after its port has tested it (R422, R427). -/
def execVaultChange (ev : VaultEvent) (s : State) : Out :=
  let was := isSet s F.PLP_STATUS_VAULT_OK
  let usable := vaultAfter ev was
  if s.pwr.powerLoss then .next s
  else
    let s0 := match ev with | .tested x => vaultRate x s | .linkLost => s | .writeFailed _ => s | .critical => s
    if usable = was then .next s0
    else
      let s1 := raise evPLP B.PLP_EVT_VAULT_CHANGE (putB F.PLP_STATUS_VAULT_OK usable s0)
      .next (if usable then s1 else putLimit 0 (put F.PLP_STATUS_WRITE_THROUGH 1 s1))

/-! ### Loss, dump and hold -/

/-- POWER_LOSS_DECLARE: PFAIL_N was low for 2 µs (`bank` false), or V_bank stayed below V_LOSS for two samples (R429). -/
def execPowerLossDeclare (bank : Bool) (s : State) : Out :=
  if bank && decide (s.plp.low < 2) then .next s else .next (declareLoss s)

/-- What follows the end of a dump: the hold of a power loss (R430), or the chip reset of a RESET_N latched
since (R563); the hold of a thermal shutdown (R448), or a release of the fatal state that waited (R543, R563). -/
def afterDump (s : State) : State :=
  if s.pwr.powerLoss then (if s.pwr.resetDue = 1 then pinReset 1 s else { s with pwr := { s.pwr with hold := 1 } })
  else if s.thm.stop = 1 then { s with thm := { s.thm with stop := 2 }, pwr := { s.pwr with hold := 2 } }
  else if s.pwr.resetDue ≠ 0 ∧ dumpsOver s then fatalRestart s.pwr.resetDue s
  else s

/-- DUMP_END: the dump ends with its first `units` units intact, all of them unless the bank fell below V_MIN or the vault failed
(R430, R435). Where nothing was dumped the hold begins. -/
def execDumpEnd (units : Nat) (s : State) : Out :=
  if s.plp.dumping then
    let v := s.plp.vault
    let full := decide (v.dump.length ≤ units)
    let kept := v.dump.take units
    let mib := ((kept.map fun u => u.blocks.length).sum * 4096) / 2 ^ 20
    let s1 := { s with plp := { s.plp with vault := { v with dump := kept }, dumping := false, dumped := true } }
    let s2 := bump F.PLP_DUMPS 1 (putAll [(F.PLP_DUMP_LAST_MS, min 4294967295 ((now s - s.plp.lossAt) / 156250)), (F.PLP_DUMP_LAST_MIB, mib)] s1)
    let s3 := if full then raise evPLP B.PLP_EVT_DUMP_DONE s2 else s2
    .next (afterDump (if full && isSet s F.DMP_STATUS_FATAL then put F.DMP_STATUS_DATA_DUMPED 1 s3 else s3))
  else if s.pwr.hold = 0 then .next (afterDump s)
  else .next s

/-- POWER_LOSS_HOLD_RELEASE: PFAIL_N high and every rail monitor in tolerance for 10 ms since the dump's end (`us`, in µs), or a RESET_N
pulse (`pin`), end the hold with a chip reset, trigger 5 (R430). -/
def execPowerLossHoldRelease (pin : Bool) (us : Nat) (s : State) : Out :=
  if s.pwr.hold = 1 ∧ (pin = true ∨ (s.pwr.railBad = [] ∧ 10000 ≤ us)) then .next (chipReset 5 s) else .next s

/-- LOSS_ACK: PF0 or a management core (requesters of R26) clears the lost-data warning (R434, R437). -/
def execLossAck (req : Nat) (s : State) : Out :=
  if req < 4 ∨ req = 8 then .next { s with plp := { s.plp with lossWarn := false } } else .next s

/-- P_DUMP_WRITE: a write of 0 is discarded (R425). -/
def execPDumpWrite (v : Nat) (s : State) : Out := .next (if v % 65536 = 0 then s else put F.PLP_P_DUMP v s)

/-- PLP_CLR_CNT: the counters are cleared (R436). -/
def execPlpClrCnt (s : State) : Out := .next (clearAll [F.PLP_CHECK_FAIL_EXT, F.PLP_CHECK_FAIL_VAULT, F.PLP_DUMPS] s)

end Sys2Proof.Machine
end

