-- ==== Sys2Proof/Machine/Faults.lean ====
section
/-! DEFINITION. Software events, the event log's clear, the management pairs and their watchdogs, the fatal state and its dump
(R398, R531 to R551). -/

namespace Sys2Proof.Machine

/-! ### Software events and the log -/

/-- SW_SET: the flags of software events set by a write of SW_SET0, or of SW_SET1 (`hi`) (R532). -/
def execSwSet (hi : Bool) (v : Nat) (s : State) : Out :=
  let n := if hi then 8 else 32
  let f := if hi then F.EVT_SW_FLAG1 else F.EVT_SW_FLAG0
  .next (forAll ((List.range n).filter fun i => decide (bitOf v i = 1)) (fun i t =>
    let src := (if hi then 248 else 216) + i
    edge src (level t src) (put f (get t f ||| 2 ^ i) t)) s)

/-- LOG_CLR: the event log and LOG_HEAD are zeroed (R549). -/
def execLogClr (s : State) : Out := .next (put F.EVT_LOG_HEAD 0 { s with log := [] })

/-! ### The dump -/

/-- The words of the register snapshot (R545): the named blocks whole, the first 256 bytes of BUF, MAP, HST, ARB and PAR, and the
STATUS and EVT registers of the other units. -/
def snapBlocks : List (Nat × Nat) :=
  [(0, 0x60), (0x40000, 0x30), (0x80000, 0x140), (0xc0000, 0x140), (0xc1000, 0x4000), (0x7000000, 0x200), (0x7040000, 0x600),
    (0x70c0000, 0x28), (0x5000000, 0x100), (0x5800000, 0x100), (0x6000000, 0x100), (0x4000000, 0x100), (0x4800000, 0x100)]
def snapUnits : List (Nat × Nat × Nat × List Nat) :=
  [(0x1000000, 64, 0x40000, [4, 0x10, 0x10004, 0x10008, 0x20004, 0x20008, 0x30004, 0x30008]),
    (0x2000000, 16, 0x100000, [4, 8, 0x24] ++ (List.range 32).map fun j => 0x10004 + 0x1000 * j),
    (0x3000000, 32, 0x10000, [4, 0x10, 0x4004, 0x4008, 0x8008, 0x8104, 0x8184, 0x8204]),
    (0x3200000, 4, 0x10000, [4, 0x10, 0x4004, 0x4008]), (0x4010000, 256, 0x100, [4, 8]), (0x4801000, 16, 0x40, [0]),
    (0x4802000, 4, 0x40, [0]), (0x5001000, 16, 0x100, [4, 8]), (0x7080000, 1, 0, [4, 8]), (0x100000, 1, 0, [0, 8]),
    (0x140000, 1, 0, [4, 8]), (0x180000, 1, 0, [4, 8]), (0x8000000, 4, 0x1000, [0, 4])]
def snapOffsets (s : State) : List Nat :=
  let blocks := (snapBlocks.map fun b => ((List.range (b.2 / 4)).map fun i => b.1 + 4 * i).filter wordThere).flatten
  let units := (snapUnits.map fun u => ((List.range u.2.1).map fun i => u.2.2.2.map fun o => u.1 + u.2.2.1 * i + o).flatten).flatten
  blocks ++ units.filter fun o => wordThere o && match findBlock o with
    | none => false
    | some (k, i, _) => unitThere s k i

/-- The fatal-state dump captured (R544, R545): `pair` declared it, 0xff for the hardware. -/
def captureDump (cause detail pair : Nat) (s : State) : Dump :=
  { cause := cause, detail := detail, time := now s, tabSeq := get s F.GLB_TAB_SEQ, fwVer := get s (F.FWU_VER 4),
    flags := get s F.FUS_STATUS_DEBUG_ACTIVE, pair := pair, log := s.log, faults := s.faultLog,
    regs := (snapOffsets s).map fun o => (o, readWord s o), busErrs := s.mgt.busErrs, trace := s.mgt.trace,
    retained := (List.range 16).map fun i => get s (F.PWR_RETAIN i) }

/-- The length of a dump in bytes: header, directory and the six sections (R544, R545). -/
def dumpLen (d : Dump) : Nat := 64 + 96 + 16384 + 2048 + 8 * d.regs.length + 32768 + d.trace.length + 64

/-! ### The fatal state -/

/-- The commands before their decision point complete with Internal Error (R393, R542). -/
def failUndecided (s : State) : State := (s.host.cmds.filter fun c => !c.decided).foldl (fun t c => failCmd c 0 6 0 t) s

/-- Entry to the fatal state (R541, R542, R547): the first cause stands. Nothing happens once a power loss or a shutdown holds
the chip. With cause 2 there is no data dump. -/
def enterFatal (cause detail pair : Nat) (s : State) : State :=
  if isSet s F.DMP_STATUS_FATAL || s.pwr.powerLoss || decide (s.pwr.hold ≠ 0) || decide (s.thm.stop ≠ 0) then s
  else
    let d := captureDump cause detail pair s
    let s1 := putAll [(F.DMP_STATUS_FATAL, 1), (F.DMP_STATUS_IN_SRAM, 1), (F.DMP_CAUSE_CAUSE, cause), (F.DMP_CAUSE_DETAIL, detail),
      (F.DMP_TIME, now s), (F.DMP_LEN, dumpLen d), (F.PWR_STATUS_TRANSITION, 0)]
      { s with mgt := { s.mgt with sram := some d, dumping := true, entered := now s }, pwr := { s.pwr with phase := 0 } }
    let s2 := { s1 with host := { s1.host with queues := s1.host.queues.map fun q => { q with bells := [] }, fetching := [] } }
    let s3 := probationFail (closeAllWindows 2 (stopMechanism (setCfs (failUndecided s2))))
    if cause = 2 then s3 else beginDump s3

/-- The pairs in service, and as a bitmap. -/
def pairsUp (s : State) : List Nat := (List.range 4).filter fun p => isSet s (F.MGT_STATUS_IN_SERVICE p)
def pairsMask (s : State) : Nat := ((pairsUp s).map (2 ^ ·)).sum

/-- The condition of a fatal cause (R541): where the state shows it, it holds; an error in the control tree, a fabric timeout, a parity error and
a write of DMP.FATAL are events. -/
def fatalHolds (s : State) (cause detail : Nat) : Bool :=
  match cause with
  | 1 => !factoryOk s && decide (detail = 0)
  | 2 => if detail = 1 then !isSet s F.CLK_STATUS_LINK_OK else decide (detail = 2) && decide (bitOf (get s F.CLK_STATUS_LOCKED) 0 = 0)
  | 3 => decide (detail = 0)
  | 4 => decide ((pairsUp s).length < 2) && decide (detail = pairsMask s)
  | 5 => decide (detail < get s F.GLB_ARB_COUNT_ARBOURS)
  | 6 => decide (detail < 256)
  | 7 => decide (detail < 65536)
  | 8 => s.mgt.busErrs.any fun e => decide (e.1 = detail)
  | _ => false

/-- FATAL_DECLARE: a fatal cause of R541 is declared by the hardware, cause 8 by its pair. -/
def execFatalDeclare (cause detail : Nat) (s : State) : Out :=
  if fatalHolds s cause detail = false then .next s else .next (enterFatal cause detail (if cause = 8 then detail else 0xff) s)

/-- DMP_FATAL: a write of DMP.FATAL declares cause 7 with the value written (R541, R551); `req` is the requester. -/
def execDmpFatal (req v : Nat) (s : State) : Out := .next (enterFatal 7 (v % 65536) (if req < 4 then req else 0xff) s)

/-- STAMP_ERR: a parity error in the stamp sequencer or the overlap tracker (R398, R541). -/
def execStampErr (s : State) : Out := .next (enterFatal 3 0 0xff (raise evHST B.HST_EVT_STAMP_ERR s))

/-- DUMP_COPY_TO_FLASH: the dump stands in the boot flash (R542, R546); a release that waited follows. -/
def execDumpCopyToFlash (s : State) : Out :=
  match s.mgt.sram with
  | none => .next s
  | some d =>
    if s.mgt.dumping = false then .next s
    else
      let done := get s F.DMP_STATUS_DATA_DUMPED
      let x := { d with flags := d.flags + 2 * done + 4 }
      .next (afterDump (put F.DMP_STATUS_IN_FLASH 1 { s with mgt := { s.mgt with sram := some x, flash := some x, dumping := false } }))

/-- FATAL_RELEASE: DMP.CTRL.RELEASE ends the hold (R543). -/
def execFatalRelease (s : State) : Out := .next (releaseFatal 3 s)

/-- FATAL_HOLD_EXPIRY: DMP.HOLD seconds have passed since entry; not with 0, nor after three restarts in an hour (R543). Where LINK_REFCLK is lost,
CLK.TIME does not tell the time. -/
def execFatalHoldExpiry (s : State) : Out :=
  if get s F.DMP_HOLD = 0 ∨ isSet s F.DMP_STATUS_AUTO_BLOCKED = true
      ∨ (isSet s F.CLK_STATUS_LINK_OK = true ∧ elapsed s s.mgt.entered (156250000 * get s F.DMP_HOLD) = false) then .next s else .next (releaseFatal 3 s)

/-- The flash copy of the dump cleared (R546). -/
def clearDump (s : State) : State := put F.DMP_STATUS_IN_FLASH 0 { s with mgt := { s.mgt with flash := none } }

/-- DMP_CLEAR: DMP.CTRL.CLEAR clears the flash copy (R551). -/
def execDmpClear (s : State) : Out := .next (clearDump s)

/-! ### Interrupts -/

/-- The pairs in service that a source interrupts: every one under BCAST, else the pair it names, or the lowest in service where that pair is not
(R531, R539, R548, R549). -/
def irqTargets (s : State) (src : Nat) : List Nat :=
  if isSet s (F.EVT_ROUTE_BCAST src) then pairsUp s
  else if get s (F.EVT_ROUTE_PAIR src) ∈ pairsUp s then [get s (F.EVT_ROUTE_PAIR src)] else (pairsUp s).take 1

/-- The sources that interrupt a pair, and the one that it takes: the highest PRIO first, then the lowest number (R531). -/
def irqSources (s : State) (p : Nat) : List Nat :=
  (List.range 256).filter fun i => level s i && decide (bitOf (get s (F.EVT_MASK (i / 32))) (i % 32) = 0) && decide (p ∈ irqTargets s i)
def irqTaken (s : State) (p : Nat) : Option Nat :=
  (irqSources s p).foldl (fun m i => match m with
    | none => some i
    | some j => if get s (F.EVT_ROUTE_PRIO j) < get s (F.EVT_ROUTE_PRIO i) then some i else some j) none

/-! ### Management pairs -/

/-- A pair is fenced (R535, R539): its duties move within the window; below two pairs the state is fatal. -/
def fencePair (p flag : Nat) (s : State) : State :=
  if 4 ≤ p ∨ isSet s (F.MGT_STATUS_IN_SERVICE p) = false then s
  else
    let again := s.exposed.any fun d => decide (d.1 = Dom.mgt)
    let s1 := putAll [(F.MGT_STATUS_IN_SERVICE p, 0), (F.MGT_STATUS_FENCED p, 1)] s
    let s2 := raise (evMGT p) flag (openWindow Dom.mgt p (196 + 2 * p) s1)
    if (pairsUp s2).length < 2 then enterFatal 4 (pairsMask s2) 0xff s2
    else closeWindow Dom.mgt p (if again then 1 else 0) s2

/-- LOCKSTEP_MISMATCH (R538, R539). -/
def execLockstepMismatch (p : Nat) (s : State) : Out := .next (fencePair p B.MGT_EVT_MISMATCH s)

/-- STACK_UE: an uncorrectable error in a pair's own stack (R539). -/
def execStackUe (p : Nat) (s : State) : Out := .next (fencePair p B.MGT_EVT_STACK_UE s)

/-- PAIR_RESTORE: the self-test of a fenced pair, which returns to service when it passes (R539, R550). -/
def execPairRestore (p : Nat) (pass : Bool) (s : State) : Out :=
  if 4 ≤ p ∨ isSet s (F.MGT_STATUS_FENCED p) = false ∨ pass = false then .next s
  else .next (unexpose Dom.mgt p (putAll [(F.MGT_STATUS_IN_SERVICE p, 1), (F.MGT_STATUS_FENCED p, 0)]
    { s with mgt := { s.mgt with kicked := mapPut s.mgt.kicked p (now s) } }))

/-- Whether a pair's watchdog has run out (R540, R550). -/
def wdogOut (s : State) (p : Nat) : Bool :=
  decide (p < 4) && isSet s (F.MGT_STATUS_IN_SERVICE p) && decide (get s (F.MGT_WDOG_TIMEOUT p) ≠ 0)
    && decide (156250 * get s (F.MGT_WDOG_TIMEOUT p) + mapGet (fun _ => 0) s.mgt.kicked p ≤ now s)

/-- WATCHDOG_EXPIRY: source 197+2p and a management reset; in probation a fallback follows (R510, R540). -/
def execWatchdogExpiry (p : Nat) (s : State) : Out :=
  if wdogOut s p then .next (probationFail (managementReset (raise (evMGT p) B.MGT_EVT_WATCHDOG s))) else .next s

/-- WDOG_KICK (R540): any value written restarts the watchdog. -/
def execWdogKick (p : Nat) (s : State) : Out :=
  .next (if p < 4 then { s with mgt := { s.mgt with kicked := mapPut s.mgt.kicked p (now s) } } else s)

/-! ### Resets of functions and ports -/

/-- CC_EN_CLEAR: CC.EN cleared resets the function; by PF0 it releases the fatal hold (R396, R522, R543). -/
def execCcEnClear (fn : Nat) (s : State) : Out :=
  if 512 ≤ fn ∨ isSet s (F.HST_FN_STATUS_CCEN fn) = false then .next s
  else
    let s1 := put F.PWR_RESET_CAUSE_KIND 4 (resetFn fn s)
    .next (if fn = 0 then releaseFatal 3 s1 else s1)

/-- The links of a host port (R19, R371). -/
def portLinks (s : State) (port : Nat) : List Nat :=
  (List.range 4).filter fun l => decide (l / 2 = port) && (decide (l % 2 = 0) || decide (get s F.HST_STATUS_PORT_MODE = 2))

/-- PERST: PERST# of a port asserted (R372, R522): its links go down and their functions reset; on PF0's link it releases the
fatal hold (R543), and it ends the wait after three thermal shutdowns (R449). In Dormant it is only seen. -/
def execPerst (port : Nat) (s : State) : Out :=
  if 2 ≤ port then .next s
  else
    let s1 := { s with pwr := { s.pwr with perst := mapPut s.pwr.perst port (now s) } }
    if s.pwr.dormant then .next s1
    else if s.pwr.hold = 2 then .next (if 3 ≤ recentShutdowns s then thermalRestart s1 else s1)
    else if s.pwr.hold ≠ 0 ∨ s.pwr.powerLoss = true then .next s1
    else
      let s2 := forAll (portLinks s port) (fun l t =>
        let u := forAll (fnsOfLink t l) resetFn t
        if isSet u (F.HST_LINK_UP l) then raise evHST (B.HST_EVT_LINK_CHANGE + l) (put (F.HST_LINK_UP l) 0 u) else u) s1
      let s3 := put F.PWR_RESET_CAUSE_KIND 3 s2
      .next (if port = 0 then releaseFatal 3 s3 else s3)

end Sys2Proof.Machine
end

