-- ==== Sys2Proof/Machine/LogPages.lean ====
section
/-! DEFINITION. The data that Identify and Get Log Page return (R400 to R408, R445, R462, R497, R544, R545). Offsets of the structures of
the NVM Express Base Specification are PRESUMED (log entry 60); bytes that the manual does not state are free. -/

namespace Sys2Proof.Machine

/-- A structure of `n` bytes: little-endian fields (offset, length, value) over what the other bytes hold. -/
def layout (n : Nat) (fs : List (Nat × Nat × Nat)) (other : Nat → Nat) : List Nat :=
  (List.range n).map fun i => match fs.find? fun f => decide (f.1 ≤ i) && decide (i < f.1 + f.2.1) with
    | some f => f.2.2 / 256 ^ (i - f.1) % 256
    | none => other i % 256
def zeroed (n : Nat) (fs : List (Nat × Nat × Nat)) : List Nat := layout n fs fun _ => 0

/-! ### Identify -/

/-- Whether a function is a PF, or the sideband (512), which runs in PF0's slots (R374, R418). -/
def isPf (fn : Nat) : Bool := decide (fn < 2) || decide (fn = 512)
def recoveryMode (s : State) : Bool := decide (get s F.TAB_STATUS_SELECTED = 3)

/-- Identify Controller (R400, R401). MN, the serial number's digits and FR have no stated form. -/
def identifyController (s : State) (fn : Nat) : List Nat :=
  let f := if fn = 512 then 0 else fn
  let oacs := if isPf fn then 0x2ec else 0x260
  let id := get s F.GLB_UNIT_ID_LO + 2 ^ 64 * get s F.GLB_UNIT_ID_HI
  layout 4096
    ([(0, 2, fuseBits s 0 32 16), (2, 2, fuseBits s 0 48 16), (77, 1, 11), (78, 2, f + 1), (256, 2, oacs), (258, 1, 7), (259, 1, 15),
      (260, 1, 0x17), (261, 1, 6), (266, 2, 368), (268, 2, 378), (322, 2, 1), (324, 2, 273), (326, 2, 388), (512, 1, 0x66), (513, 1, 0x44),
      (514, 2, if isPf fn then 8192 else 240), (516, 4, if recoveryMode s then 0 else 1024), (520, 2, 0x8c), (525, 1, 0), (526, 2, 2047),
      (528, 2, 255), (536, 4, 1)]
    ++ [(3072, 8, 155729664), (3080, 8, 5102949629952), (3088, 2, 1152), (3090, 1, (baysOf s).length), (3091, 1, (headsOf s).length),
      (3092, 2, get s F.GLB_ARB_COUNT_ARBOURS), (3094, 2, 3), (3096, 4, get s F.GLB_HW_TYPE), (3100, 4, 0), (3104, 8, get s F.GLB_TAB_SEQ),
      (3112, 16, id), (3128, 8, 16 * bufC s), (3136, 8, 2 ^ 52), (3144, 952, 0)])
    fun i => Config.unstatedByte 1 (if 4 ≤ i ∧ i < 24 then id else if 64 ≤ i ∧ i < 72 then get s (F.FWU_VER 4) else f) i

/-- The blocks of a namespace that the map does not hold UNMAPPED (R402). -/
def usedBlocks (s : State) (n : Namespace) : Nat :=
  ((s.lib.gmap.filter fun p => decide (n.base ≤ p.1) && decide (p.1 < n.base + n.grains)).map fun p => match p.2 with
    | .unmapped => 0
    | .frag t => (s.lib.frags.filter fun q => decide (q.1 / 256 = t) && decide (q.2 ≠ .unmapped)).length
    | _ => 256).sum

/-- Identify Namespace (R402): one LBA format, LBADS 12, no metadata; zeros for an identifier that is not in use. -/
def identifyNamespace (s : State) (nsid : Nat) : List Nat :=
  match findSpace s nsid with
  | none => zeroed 4096 []
  | some n => layout 4096 [(0, 8, 256 * n.grains), (8, 8, 256 * n.grains), (16, 8, usedBlocks s n), (24, 1, 2), (25, 1, 0), (26, 1, 0),
      (27, 1, 0), (28, 1, 0), (29, 1, 0), (36, 2, 255), (42, 2, 0), (44, 2, 255), (128, 4, 12 * 65536)]
      fun i => Config.unstatedByte 2 nsid i

/-- The 4 KiB list of numbers of `w` bytes each that some CNS values return, from offset `o`. -/
def numberList (w o : Nat) (l : List Nat) : List Nat :=
  let bs := (l.map (bytesLE w)).flatten
  (List.replicate o 0 ++ bs ++ List.replicate (4096 - o - bs.length) 0).take 4096
def liveSpaces (s : State) : List Namespace := (s.lib.spaces.filter fun n => !n.deleted).mergeSort fun a b => decide (a.nsid ≤ b.nsid)

/-- The controllers of a list: their number, then their identifiers (R374). -/
def controllerList (fns : List Nat) : List Nat := ((bytesLE 2 fns.length) ++ numberList 2 0 (fns.map (· + 1))).take 4096

/-- What Identify returns by CNS, for the values whose content the manual or the base specification fixes; others are free. -/
def identifyData (s : State) (fn cns nsid cntid : Nat) : List Nat :=
  let f := if fn = 512 then 0 else fn
  let spaces := liveSpaces s
  if cns = 1 then identifyController s fn
  else if cns = 0 then (if spaces.any fun n => decide (n.nsid = nsid) && decide (f ∈ n.attach) then identifyNamespace s nsid else zeroed 4096 [])
  else if cns = 2 then numberList 4 0 ((spaces.filter fun n => decide (f ∈ n.attach) && decide (nsid < n.nsid)).map (·.nsid))
  else if cns = 0x10 then numberList 4 0 ((spaces.filter fun n => decide (nsid < n.nsid)).map (·.nsid))
  else if cns = 0x11 then identifyNamespace s nsid
  else if cns = 0x12 then controllerList ((((findSpace s nsid).map (·.attach)).getD []).filter fun g => decide (cntid ≤ g + 1))
  else if cns = 0x13 then controllerList ((List.range 512).filter fun g => decide (2 ≤ get s (F.HST_FN_CFG_CTX g)) && decide (cntid ≤ g + 1))
  else layout 4096 [] fun i => Config.unstatedByte (256 + cns) nsid i

/-! ### The standard log pages -/

/-- Error Information: 256 entries of 64 bytes, newest first (R393, R403). -/
def errorPage (s : State) (fn : Nat) : List Nat :=
  let mine := s.host.errors.filter fun e => decide (e.fn = if fn = 512 then 0 else fn)
  ((List.range 256).map fun i => match mine[i]? with
    | none => zeroed 64 []
    | some e => layout 64 [(0, 8, e.count), (8, 2, e.qid), (10, 2, e.cid), (12, 2, 512 * e.sct + 2 * e.sc), (16, 8, e.lba), (24, 4, e.nsid), (28, 1, e.cause)]
        fun j => Config.unstatedByte 3 e.count j).flatten

/-- Composite Temperature in K, and Available Spare, Percentage Used and Critical Warning (R404, R427, R434, R444). -/
def compositeKelvin (s : State) : Nat := (getI s F.THM_HOT_TJ / 16 + 273).toNat
def availableSpare (s : State) : Nat :=
  (((arbsOf s).filter (isDomain s)).map fun a =>
    min 100 (100 * blanksBelow s a / max 1 (get s (F.ARB_AR_SPARE_POOL a) + get s (F.ARB_AR_CFG_K a) + 2))).foldl min 100
def percentageUsed (s : State) : Nat :=
  min 255 (((s.lib.discs.map fun p => p.2.mounts).foldl max 0) * 100 / max 1 (16 * get s F.ARB_CONS_MOUNT_WARN))
def criticalWarning (s : State) : Nat :=
  (if availableSpare s < 50 then 1 else 0) + (if junction s F.THM_J_THR_WARN ≤ getI s F.THM_HOT_TJ then 2 else 0)
    + (if (arbsOf s).any fun a => decide (2 ≤ get s (F.ARB_AR_STATUS_HEALTH a)) then 4 else 0) + (if isSet s F.PLP_STATUS_VAULT_OK && !s.plp.lossWarn then 0 else 16)

/-- The media errors a function sees: of every namespace, and a VF of those attached to it (R403, R404). -/
def mediaErrors (s : State) (fn : Nat) : Nat :=
  if isPf fn then get s (F.ARB_AR_UNAVAIL 0)
  else
    let mine (g : Nat) : Bool := s.lib.spaces.any fun n => !n.deleted && decide (fn ∈ n.attach) && decide (n.base ≤ g) && decide (g < n.base + n.grains)
    (((s.lib.unavail.map fun p => p.1 / 256).filter mine).dedup).length

/-- SMART / Health Information (R404, R445). -/
def smartPage (s : State) (fn : Nat) : List Nat :=
  let tm (n : Nat) : Nat := (mapGet (fun _ => 0) s.thm.tmtT n + if s.thm.tmt = n then now s - s.thm.tmtAt else 0) / 156250000
  layout 512 [(0, 1, criticalWarning s), (1, 2, compositeKelvin s), (3, 1, availableSpare s), (4, 1, 50), (5, 1, percentageUsed s),
    (160, 16, mediaErrors s fn), (216, 4, mapGet (fun _ => 0) s.thm.tmtN 1), (220, 4, mapGet (fun _ => 0) s.thm.tmtN 2),
    (224, 4, tm 1), (228, 4, tm 2), (232, 280, 0)] fun i => Config.unstatedByte 4 fn i

/-- Firmware Slot Information (R497): slots 2 and 3 are letters A and B. -/
def firmwarePage (s : State) : List Nat :=
  let f := s.flash.fw
  let v (l : Letter) (i : Nat) : Nat := if l.valid then Config.unstatedByte 5 (l.versions.getD 4 0) i else 0
  layout 512 [(0, 1, f.active + 2 + 16 * (if f.armed = f.active then 0 else f.armed + 2)), (1, 7, 0), (32, 480, 0)] fun i =>
    if i < 16 then Config.unstatedByte 6 0 i else if i < 24 then v f.letterA (i - 16) else v f.letterB (i - 24)

/-- Changed Namespace List: the namespaces changed since the function last read it. -/
def changedPage (s : State) (fn : Nat) : List Nat := numberList 4 0 ((s.host.nsChanged.filter fun p => decide (p.1 = fn)).map Prod.snd)

/-- Commands Supported and Effects (R395): the commands each kind of function accepts; their effect bits have no stated value. -/
def effectsPage (s : State) (fn : Nat) : List Nat :=
  let admin := [0, 1, 2, 4, 5, 6, 8, 9, 10, 12, 0x19, 0x1a, 0x1d, 0x1e, 0x86] ++ (if isPf fn then [0x0d, 0x10, 0x11, 0x15, 0x1c] else [])
    ++ [0xc0, 0xc1, 0xc4, 0xc8, 0xcd]
  let io := [0, 1, 2, 8, 9, 0x0c, 0x85]
  let entry (l : List Nat) (k i : Nat) : List Nat :=
    if i ∈ l ∧ (recoveryMode s = false ∨ k = 8) then layout 4 [] (fun j => if j = 0 then 1 + 2 * (Config.unstatedByte k i 0 % 128) else Config.unstatedByte k i j)
    else [0, 0, 0, 0]
  ((List.range 256).map (entry admin 8)).flatten ++ ((List.range 256).map (entry io 7)).flatten ++ List.replicate 2048 0

/-! ### The vendor pages -/

/-- The header of R405. -/
def vendorHeader (s : State) (page count size : Nat) (more : List (Nat × Nat × Nat)) : List Nat :=
  zeroed 64 ([(0, 8, mapGet (fun _ => 0) s.host.pageGen page), (8, 4, count), (12, 4, size)] ++ more)

/-- Arbour health (R406). -/
def arbourEntry (s : State) (a : Nat) : List Nat :=
  let rbs := (List.range 16).filter fun i => rbBusy s i && below s a (get s (F.PAR_RB_STATUS_DOMAIN i))
  let rss := (List.range 4).filter fun j => decide (get s (F.PAR_RS_STATUS_STATE j) = 1) && below s a (domOf s (get s (F.PAR_RS_SET j)))
  zeroed 64 [(0, 2, a), (2, 2, get s (F.ARB_AR_CFG_PARENT a)), (4, 1, get s (F.ARB_AR_CFG_KIND a)), (5, 1, get s (F.ARB_AR_STATUS_HEALTH a)),
    (6, 1, get s (F.ARB_AR_STATUS_PSTATE a)), (7, 1, get s (F.ARB_AR_CFG_K a)), (8, 2, get s (F.ARB_AR_STATUS_OPEN_SETS a)),
    (10, 2, get s (F.ARB_AR_STATUS_BLANK a)), (12, 1, rbs.length), (13, 1, rss.length), (16, 8, get s (F.ARB_AR_CAP_TOTAL a)),
    (24, 8, get s (F.ARB_AR_CAP_LIVE a)), (32, 8, get s (F.ARB_AR_UNAVAIL a)), (40, 8, get s (F.ARB_AR_ROWS a)), (48, 4, get s (F.ARB_AR_AVOID a))]
def healthPage (s : State) : List Nat :=
  vendorHeader s 0xc0 (arbsOf s).length 64 [] ++ ((arbsOf s).map (arbourEntry s)).flatten

/-- Disc inventory (R407). -/
def inventoryEntry (s : State) (d : Nat) : List Nat :=
  let x := getDisc s d
  zeroed 64 [(0, 2, d), (2, 1, x.state), (3, 1, if x.set = 0xffff then 0 else x.member), (4, 1, if x.set = 0xffff then 0 else x.width), (6, 2, x.set),
    (8, 16, x.mediaId), (24, 16, x.setId), (40, 4, x.mounts), (44, 4, x.losses), (48, 2, x.flags), (50, 2, x.skipped), (56, 8, x.rows)]
def inventoryPage (s : State) : List Nat :=
  vendorHeader s 0xc1 1152 64 [(16, 4, s.host.importQ.length)] ++ ((List.range 1152).map (inventoryEntry s)).flatten

/-- Mount statistics (R407). -/
def bayEntry (s : State) (b : Nat) : List Nat :=
  let m := mountOf s b
  let t := m.time + if m.phase = 5 then now s - m.since else 0
  bytesLE 8 m.count ++ bytesLE 4 m.fails ++ bytesLE 8 m.retry ++ bytesLE 8 (t / 156250000) ++ [0, 0, 0, 0]
def discEntry (s : State) (d : Nat) : List Nat := bytesLE 8 (getDisc s d).mounts ++ bytesLE 4 (getDisc s d).fails ++ [0, 0, 0, 0]
def mountPage (s : State) : List Nat :=
  vendorHeader s 0xc2 1184 32 [] ++ ((List.range 32).map (bayEntry s)).flatten ++ ((List.range 1152).map (discEntry s)).flatten

/-- The placement report (R408): entry n at index n mod 4,096. -/
def reportPage (s : State) : List Nat :=
  let entry (i : Nat) : List Nat := match s.lib.report.find? fun e => decide (e.seq % 4096 = i) with
    | none => List.replicate 32 0
    | some e => zeroed 32 [(0, 8, e.seq), (8, 1, e.kind), (10, 2, e.set), (16, 8, e.value), (24, 8, e.stamp)]
  vendorHeader s 0xc3 4096 32 [(16, 8, s.lib.reportSeq), (24, 4, s.lib.overwritten), (32, 4, pendingLatency s)]
    ++ ((List.range 4096).map entry).flatten

/-- Calibration values (R462). -/
def calEntry (s : State) (i : Nat) : List Nat :=
  let age := (now s - mapGet (fun _ => 0) s.cal.setAt i) / 156250000
  bytesLE 2 (itemOf i).1 ++ bytesLE 2 (itemOf i).2 ++ bytesLE 4 (itemGain s i) ++ bytesLE 4 (ofSigned 32 (itemOffset s i)) ++ bytesLE 4 age
def calPage (s : State) : List Nat := vendorHeader s 0xc5 167 16 [] ++ ((List.range 167).map (calEntry s)).flatten

/-! ### The fatal dump -/

/-- An event log entry, and a record of the fault log (R533, R545). -/
def logBytes (e : LogEntry) : List Nat := bytesLE 8 e.time ++ bytesLE 2 e.source ++ [0, 0] ++ bytesLE 4 e.value
def faultBytes (r : FaultRecord) : List Nat :=
  zeroed 32 [(0, 8, r.opened), (8, 4, r.duration), (12, 1, r.kind), (13, 1, r.inst), (14, 1, r.outcome), (16, 2, r.source)]

/-- The sections of a dump (R545); what the pairs' register files and exception states hold is free. -/
def dumpSections (d : Dump) : List (List Nat) :=
  [padTo 16384 ((d.log.reverse.map logBytes).flatten), padTo 2048 ((d.faults.map faultBytes).flatten),
    ((d.regs.map fun r => bytesLE 4 r.1 ++ bytesLE 4 r.2).flatten).take 65536, layout 32768 [] fun i => Config.unstatedByte 9 d.time i,
    d.trace.take 524288, (d.retained.map (bytesLE 4)).flatten]

/-- The directory, offsets counted from the start of the page (R544). -/
def dumpDirectory : Nat → Nat → List (List Nat) → List Nat
  | _, _, [] => []
  | id, ofs, x :: xs => bytesLE 2 id ++ [0, 0] ++ bytesLE 4 ofs ++ bytesLE 4 x.length ++ bytesLE 4 (crc32 x) ++ dumpDirectory (id + 1) (ofs + x.length) xs

/-- The fatal-state dump page (R544 to R546): from SRAM during the hold, from the boot flash after it; the header alone where no dump
is held. -/
def dumpPage (s : State) : List Nat :=
  match (if isSet s F.DMP_STATUS_FATAL then s.mgt.sram else s.mgt.flash) with
  | none => vendorHeader s 0xc4 0 16 []
  | some d =>
    let secs := dumpSections d
    vendorHeader s 0xc4 6 16 [(16, 4, 0x706d444d), (20, 2, d.cause), (22, 2, d.detail), (24, 8, d.time), (32, 16, unitId s), (48, 8, d.tabSeq),
      (56, 4, d.fwVer), (60, 1, d.flags ||| (if isSet s F.DMP_STATUS_FATAL then 2 * get s F.DMP_STATUS_DATA_DUMPED else 0)), (61, 1, d.pair)] ++ dumpDirectory 1 160 secs ++ secs.flatten

/-- A range of a page; beyond its end there are zeros (R403). -/
def pageRange (ofs len : Nat) (page : List Nat) : List Nat := padTo len (page.drop ofs)

end Sys2Proof.Machine
end

