-- ==== Sys2Proof/Machine/Downstream.lean ====
section
/-! DEFINITION. The servo tick (R516): the wake timer, the wobble phase of every head, its write clock and gate, the setpoints of its early
slot, and the downstream superframe that leaves with them (R59, R67, R68, R105, R158, R159, R163, R168). -/

namespace Sys2Proof.Machine

/-- Reference cycles to the next wrap of the servo tick accumulator (R516). -/
def tickCycles (acc : Nat) : Nat := (390625 - acc + 1023) / 1024

/-! ### The wobble -/

/-- The wobble PLL runs: it has a frequency and, once an address unit has fixed it, a phase (R105). -/
def wpllRuns (s : State) (h : Nat) : Bool := decide (1 ≤ wpllSt s h) && decide (wpllSt s h ≤ 3)

/-- One servo tick of the wobble phase (R105, R108): the NCO has the frequency `nco`, in 1/65,536 Hz, while the PLL acquires or is locked, and keeps
its own in HOLD. -/
def wobbleTick (h : Nat) (nco : Option Nat) (s : State) : State :=
  let f := match nco with
    | some f => if wpllSt s h = 1 ∨ wpllSt s h = 2 then f else (chanOf s h).nco
    | none => (chanOf s h).nco
  updChan h (fun c =>
    { c with nco := f, phi := if c.phiOk = true ∧ wpllRuns s h = true then (c.phi + f) % (131072 * 65536 * 409600) else c.phi }) s

/-- The slots in acquisition whose beam has reached predicted bit 1,488 search for SM (R109, R116). -/
def searchTick (h : Nat) (s : State) : State :=
  ((chanOf s h).slots.filter fun o => decide (o.st = 2) && decide (slotStart (addrSlot o.addr) + 1488 ≤ beamPos s h o.beam)).foldl
    (fun t o => enterSearch h o.beam t) s

/-! ### The write clock -/

/-- WR_NCO from the wobble PLL's NCO frequency in 1/65,536 Hz (R158). -/
def wrNco (fret nco : Nat) : Nat := (divRound (((12 + fret) * 155 * nco * 2 ^ 32 : Nat) : Int) (64 * 1250000000 * 65536)).toNat % 2 ^ 32

/-- The write-clock count at the start of this superframe, WR_NCO of this one (R158), and no more yet to say in it (R67). -/
def clockTick (h : Nat) (s : State) : State :=
  let f := if recording s h then (writeOf s h).fret else get s (F.CH_FRET_FRET h)
  let n := wrNco f (chanOf s h).nco
  put (F.WRP_NCO h) n (updHead h (fun (x : Head) =>
    { x with
      link := { x.link with ds := { x.link.ds with wrNco := n, wrPhase := 0, wrBits := 0, openT := 0xffff, closeT := 0xffff } }
      wr := { x.wr with pos := x.wr.pos.map fun p => p + x.link.ds.wrNco * 390625 + x.link.ds.wrPhase * 2 ^ 27 } }) s)

/-- On the band before a pass's first, the write clock counts from the start of the first, and the gate is to open at the first bit of the earliest
beam (R158, R159); where the head has come too late, it goes back. -/
def syncTick (h : Nat) (s : State) : State :=
  let w := writeOf s h
  if recording s h = false ∨ w.calRead = true ∨ w.pos ≠ none ∨ onTrack s h = false ∨ (chanOf s h).phiOk = false ∨ wpllRuns s h = false then s
  else
    let p := ((get s (F.SV_POS_BAND h) : Int) - w.origin) * turnBits s h * 2 ^ 39 + wobbleBits s h
    if p / 2 ^ 39 < earliest s h then updWrite h (fun w => { w with pos := some p, openAt := some (earliest s h) }) s
    else startSeek h (w.origin - 1) w.layer s

/-- The position error of a superframe and its correction (R158): WR_PHASE beyond POS_TRIM, within 1/4 bit; a position fault beyond POS_FAULT. -/
def errorTick (h : Nat) (s : State) : State :=
  match (writeOf s h).pos with
  | none => s
  | some p =>
    let e := roundQuot (posError s h p) (2 ^ 33)
    let lim := 64 * get s (F.WRP_POS_LIM_POS_FAULT h)
    let was := decide ((getI s (F.WRP_POS_ERR_LAST h)).natAbs > lim)
    let s1 := peak (F.WRP_POS_ERR_PEAK h) (min 65535 e.natAbs) (putI (F.WRP_POS_ERR_LAST h) (clampInt (-32768) 32767 e) s)
    let ph : Int := if get s (F.WRP_POS_LIM_POS_TRIM h) < e.natAbs then clampInt (-1024) 1024 (-64 * e) else 0
    let s2 := updLink h (fun k => { k with ds := { k.ds with wrPhase := ph } }) s1
    if lim < e.natAbs ∧ was = false then raise (evWRP h) B.WRP_EVT_POS_FAULT (bump (F.WRP_POS_FAULT h) 1 s2) else s2

/-! ### The gate -/

/-- The instant of a write-clock bit in this superframe, in 1/8 ns (R67). -/
def bitInstant (s : State) (h : Nat) (b : Int) : Nat :=
  (roundQuot (b * 2 ^ 39 - (writeOf s h).pos.getD 0) (20 * (linkOf s h).ds.wrNco)).toNat

/-- The gate opens in the superframe that holds its bit (R159), unless a cause of R168 stands, which leaves it closed until it may reopen;
while a pulse table waits for its commit the pass begins anew (R161). -/
def openTick (h : Nat) (s : State) : State :=
  match (writeOf s h).openAt with
  | none => s
  | some b =>
    if nextBit s h ≤ b then s
    else if gateCause s h = true ∨ b < bitNow (writeOf s h) then
      updWrite h (fun w => { w with openAt := none, closedAt := some (b, tick s), clear := 0 }) s
    else if (linkOf s h).commitSf ≠ none ∧ get s (F.WRP_STATUS_STATE h) ≠ 1 then updWrite h (fun w => { w with openAt := none, pos := none }) s
    else put (F.WRP_STATUS_GATE h) 1 (updHead h (fun (x : Head) =>
      { x with link := { x.link with ds := { x.link.ds with openT := bitInstant s h b } }, wr := { x.wr with openAt := none, shut := false } }) s)

/-- The gate closes after the pass's last bit (R159); a recorded calibration band is read back on the following revolution (R163). -/
def closeTick (h : Nat) (s : State) : State :=
  let w := writeOf s h
  if w.pos = none ∨ recording s h = false ∨ nextBit s h ≤ passEnd s h ∨ w.calRead = true then s
  else
    let s1 := if isSet s (F.WRP_STATUS_GATE h) then put (F.WRP_STATUS_GATE h) 0 (updLink h (fun k =>
        { k with ds := { k.ds with closeT := bitInstant s h (passEnd s h) } }) s)
      else s
    if get s (F.WRP_STATUS_STATE h) = 1 then
      jumpBack h w.origin (updWrite h (fun w => { w with calRead := true, openAt := none, closedAt := none }) s1)
    else s1

/-- A gate closed by a command closes at the start of this superframe (R67, R168). -/
def shutTick (h : Nat) (s : State) : State :=
  if (writeOf s h).shut then updHead h (fun (x : Head) =>
    { x with link := { x.link with ds := { x.link.ds with closeT := 0 } }, wr := { x.wr with shut := false } }) s
  else s

/-- Under throttle enforcement the extent ends with the band under recording (R170, R444, R447). -/
def throttleTick (h : Nat) (s : State) : State :=
  let w := writeOf s h
  if get s (F.WRP_STATUS_STATE h) = 2 ∧ (bitOf (get s F.THM_LASER_THR) h = 1 ∨ bayOf h ∈ s.thm.parked) ∧ w.pos ≠ none then
    updWrite h (fun w => { w with span := min w.span ((bitNow w / turnBits s h).toNat + 1) }) s
  else s

/-- A calibration pass commits the write power of its next segment for the first superframe inside it (R161, R163). -/
def segmentTick (h : Nat) (s : State) : State :=
  let w := writeOf s h
  match w.pos with
  | none => s
  | some p =>
    let adv : Int := (linkOf s h).ds.wrNco * 390625
    let from' : Int := w.calSeg * turnBits s h / 12
    let ahead := if adv = 0 then 1024 else ((from' * 2 ^ 39 - p + adv - 1) / adv).toNat
    if get s (F.WRP_STATUS_STATE h) ≠ 1 ∨ w.calRead = true ∨ 12 ≤ w.calSeg ∨ 32 < ahead ∨ (linkOf s h).commitSf ≠ none then s
    else
      let pw := (roundQuot (ofBytesLE ((w.calTable.drop 2).take 2) * (85 + 3 * w.calSeg) : Nat) 100).toNat
      commitPulse h (setPw w.calTable (min 65535 pw)) (tick s + ahead) (updWrite h (fun w => { w with calSeg := w.calSeg + 1 }) s)

/-- The write data of this superframe (R67): the bits at whose times the gate is open; it was open, or it opens at a bit. -/
def dataTick (h : Nat) (was : Bool) (opens : Option Int) (s : State) : State :=
  let w := writeOf s h
  let d := (linkOf s h).ds
  let up (x : Int) : Int := (x + 2 ^ 39 - 1) / 2 ^ 39
  match w.pos with
  | none => s
  | some p =>
    let a := up p
    let z := up (p + d.wrNco * 390625 + d.wrPhase * 2 ^ 27)
    let a1 := if was then a else max a (opens.getD z)
    let z1 := if isSet s (F.WRP_STATUS_GATE h) then z else if was then min z (passEnd s h) else a1
    let n := min 3370 (z1 - a1).toNat
    if n = 0 then s else updLink h (fun k => { k with ds := { k.ds with wrBits := n, wrAt := a1 } }) s

/-- The write path's part of a superframe. -/
def writeTick (h : Nat) (s : State) : State :=
  let was := isSet s (F.WRP_STATUS_GATE h)
  let s1 := errorTick h (syncTick h (clockTick h s))
  let s2 := closeTick h (openTick h (shutTick h (segmentTick h (throttleTick h s1))))
  let s3 := updWrite h (fun w => { w with clear := if gateCause s2 h then 0 else w.clear + 1 }) s2
  dataTick h was (writeOf s1 h).openAt s3

/-! ### The superframe -/

/-- The laser mode the downstream superframe carries (R67, R76, R180): 0 off, 1 read power, 2 write armed. -/
def laserMode (s : State) (h : Nat) : Nat :=
  let st := get s (F.SV_STATUS_STATE h)
  if get s (F.HL_STATUS_STATE h) ≠ 5 ∨ get s (F.HL_CTRL_LASER_PERMIT h) = 0 ∨ st < 2 ∨ st = 10 then 0
  else if recording s h then 2 else 1

/-- The early slot (R67, R68, R192): the setpoints of the SV block's own sequences, else those of cells whose time has come; HOLD for
the other coils. -/
def earlyTick (h : Nat) (s : State) : State :=
  let v := servoOf s h
  let own := ownCoils s h
  let due (q : Nat) : Bool := decide (bitOf v.earlySet q = 1) && decide (v.earlyAt.getD q 0 ≤ tick s)
  let val (q : Nat) : Option Int := match own.getD q none with
    | some x => some x
    | none => if due q then some (v.early.getD q 0) else none
  let mask (p : Nat → Bool) : Nat := ((List.range 3).map fun q => if p q then 2 ^ q else 0).sum
  let s1 := (List.range 3).foldl (fun t q => match own.getD q none with | some x => setCoil h q x t | none => t) s
  updHead h (fun (x : Head) =>
    { x with
      link := { x.link with ds := { x.link.ds with
        early := (List.range 3).map fun q => (val q).getD (x.link.ds.early.getD q 0)
        earlyHold := mask fun q => (val q).isNone
        lateHold := 7 } }
      sv := { x.sv with earlySet := x.sv.earlySet - mask due } }) s1

/-- The downstream superframe of a head whose link is framed (R59, R67, R71, R72, R76). A head that was sent HEAD_RESET returns to training
(R73, R75). -/
def superframeTick (h : Nat) (s : State) : State :=
  let st := get s (F.HL_STATUS_STATE h)
  if st < 3 ∨ 5 < st then s
  else if st = 5 ∧ ((linkOf s h).ds.msgs.any fun ms => ms.any fun m => decide (m.ty = 6)) = true then setLink h 1 s
  else
    let m := laserMode s h
    let s1 := earlyTick h (writeTick h s)
    let s2 := updLink h (fun k =>
      sendQueued (tick s) (dataWords k.ds.wrBits) { k with laser := m, rx := [], served := false, ds := { k.ds with sf := tick s, laser := m } }) s1
    if st = 5 then bump (F.HL_SF_CNT h) 1 s2 else s2

/-- What a servo tick does for one head. -/
def headTick (h : Nat) (nco : Option Nat) (s : State) : State := superframeTick h (permits h (searchTick h (wobbleTick h nco s)))

/-! ### The tick -/

/-- The wake timer runs at 32.768 kHz, 2 counts for every 25 servo ticks (R519; log entry 6). -/
def wakeTick (s : State) : State :=
  let a := s.pwr.wakeAcc + 2
  if a < 25 then { s with pwr := { s.pwr with wakeAcc := a } }
  else put F.PWR_WAKE_TIME (get s F.PWR_WAKE_TIME + 1) { s with pwr := { s.pwr with wakeAcc := a - 25 } }

/-- The seconds of a probation that runs (R509, R513). -/
def probationTick (s : State) : State :=
  if get s F.FWU_STATUS_JOURNAL = 3 then put F.FWU_PROBATION ((now s - s.mgt.probAt) / 156250000) s else s

/-- Disc-bound work stands: what the mount scheduler needs of a disc, or an extent on a head (R296, R521). -/
def discWork (s : State) : Bool := extentRuns s || (needs s).any (openNeed s)

/-- The idle timers' marks (R521), taken every 4,096 servo ticks: when disc-bound work and when a command last stood. -/
def idleTick (s : State) : State :=
  if get s F.CLK_TICK % 4096 ≠ 0 then s
  else { s with pwr := { s.pwr with workAt := if discWork s then now s else s.pwr.workAt, cmdAt := if s.host.cmds = [] then s.pwr.cmdAt else now s } }

/-- SERVO_TICK (R516, R59, R158): the accumulator wraps, the tick counter advances and every head's superframe leaves; `ncos` gives the
frequencies of the wobble PLLs' NCOs in 1/65,536 Hz. -/
def execServoTick (ncos : List (Nat × Nat)) (s : State) : Out :=
  if get s F.CLK_STATUS_LINK_OK = 0 then .next s
  else
    let k := tickCycles s.tickAcc
    let s0 := put F.CLK_TICK (get s F.CLK_TICK + 1) (put F.CLK_TIME (get s F.CLK_TIME + k)
      { s with tickAcc := s.tickAcc + 1024 * k - 390625 })
    let s1 := takeCal (fun i => decide (103 ≤ i)) (idleTick (probationTick (wakeTick s0)))
    .next (forAll (headsOf s1) (fun h t => headTick h ((ncos.find? fun x => decide (x.1 = h)).map Prod.snd) t) s1)

end Sys2Proof.Machine
end

