-- ==== Sys2Proof/Machine/Power.lean ====
section
/-! DEFINITION. Reference clocks and PLLs, the power states' commands, the always-on domain's wakes, the resets and the rails (R515 to
R522, R527, R556, R563). -/

namespace Sys2Proof.Machine

/-! ### Clocks -/

/-- A head link and a bay or carousel link that lose their clock (R79, R95, R518). -/
def dropHead (h : Nat) (s : State) : State :=
  let st := get s (F.HL_STATUS_STATE h)
  if 2 ≤ st ∧ st ≤ 5 then setLink h 1 s else s
def dropBus (l : Nat) (s : State) : State := if linkInst s l && linkUp s l then linkDown l 0 s else s

/-- LINK_REFCLK or the CORE clock is gone (R518, R541): every head and bay link loses its clock, and the state is fatal. -/
def clockLoss (detail : Nat) (s : State) : State :=
  enterFatal 2 detail 0xff (forAll (List.range 36) dropBus (forAll (headsOf s) dropHead s))

/-- The links of a host port go down and their functions reset (R372, R518). -/
def portDown (port : Nat) (s : State) : State :=
  forAll (portLinks s port) (fun l t =>
    let u := forAll (fnsOfLink t l) resetFn t
    if isSet u (F.HST_LINK_UP l) then linkChange l (put (F.HST_LINK_UP l) 0 u) else u) s

/-- Whether the core runs: not in Dormant and not held in reset. -/
def coreRuns (s : State) : Bool := !s.pwr.dormant && decide (s.pwr.hold = 0)

/-- REFERENCE_LOSS (R518): 0 PCIE_REFCLK0, 1 PCIE_REFCLK1, 2 LINK_REFCLK, 3 XTAL32K. -/
def execReferenceLoss (ref : Nat) (s : State) : Out :=
  if 4 ≤ ref ∨ coreRuns s = false then .next s
  else
    let f := [F.CLK_STATUS_PCIE0_OK, F.CLK_STATUS_PCIE1_OK, F.CLK_STATUS_LINK_OK].getD ref F.CLK_STATUS_XTAL_OK
    let s1 := raise evCLK ref (put f 0 s)
    .next (if ref < 2 then portDown ref s1 else if ref = 2 then clockLoss 1 s1 else s1)

/-- PLL_UNLOCK (R518): 0 CORE, 1 DDR, 2 to 5 HL0 to HL3, 6 and 7 PCIE0 and PCIE1, 8 VAULT. -/
def execPllUnlock (pll : Nat) (s : State) : Out :=
  if 9 ≤ pll ∨ coreRuns s = false then .next s
  else
    let s1 := if pll = 8 then put F.CLK_STATUS_VAULT 0 s else put F.CLK_STATUS_LOCKED (get s F.CLK_STATUS_LOCKED &&& (0xff ^^^ 2 ^ pll)) s
    let s2 := raise evCLK 4 s1
    if pll = 0 then .next (clockLoss 2 s2)
    else if pll = 1 then
      .next (forAll (List.range 16) (fun c t => if ddrInst t c && decide (get t (F.BUF_CH_STATUS_STATE c) ≠ 1) then channelFault c 1 t else t) s2)
    else if pll ≤ 5 then
      let d := pll - 2
      .next (forAll ((List.range 8).map (8 * d + ·) ++ [32 + d]) dropBus (forAll ((headsOf s2).filter fun h => decide (h / 16 = d)) dropHead s2))
    else .next s2

/-! ### Output pins -/

/-- The levels of the output pins whose function the state fixes (R558): HU_TEST is high while a capacitance test runs (R424), FATAL_N low while
the fatal state is in force (R541), THERMTRIP_N low while the core is held after a junction shutdown (R448), PWR_EN_CORE low in Dormant
(R521, R555). -/
def pinHuTest (s : State) : Bool := s.plp.testV0.isSome
def pinFatalN (s : State) : Bool := !isSet s F.DMP_STATUS_FATAL
def pinThermTripN (s : State) : Bool := decide (s.pwr.hold ≠ 2)
def pinPwrEnCore (s : State) : Bool := !s.pwr.dormant

/-! ### Power states -/

/-- Dormant (R519 to R521): the core loses its power, which ends in the chip reset of the Dormant exit; the retained words are
written. -/
def enterDormant (s : State) : State :=
  let t := chipReset 4 s
  { t with pwr := { t.pwr with dormant := true } }

/-- A wake source acts in Dormant (R521, R530). -/
def leaveDormant (s : State) : State :=
  if s.pwr.dormant then raise evPWR B.PWR_EVT_WAKE { s with pwr := { s.pwr with dormant := false } } else s

/-- POWER_STATE_REQUEST: PWR.CTRL.GO with REQ (R521, R527, R530). -/
def execPowerStateRequest (req : Nat) (s : State) : Out :=
  let r := if req % 8 ≤ 4 then req % 8 else 0
  if coreRuns s = false then .next s
  else
    let s1 := put F.PWR_CTRL_REQ r s
    if pwrRuns s = false ∨ r = 0 then .next s1
    else if s.pwr.phase ≠ 0 then .next { s1 with pwr := { s1.pwr with held := true } }
    else if r = 4 ∧ get s F.PWR_STATUS_STATE = 2 then .next (enterDormant s1)
    else .next (actOn r s1)

/-- IDLE_POISE: no disc-bound work for PWR.IDLE.POISE (R521); it also ends an entry to Poised that waited for the running
extents. -/
def execIdlePoise (s : State) : Out :=
  if pwrRuns s = false ∨ extentRuns s = true then .next s
  else if s.pwr.phase = 1 then .next (settleRequest (startPoise s))
  else if s.pwr.phase = 0 ∧ get s F.PWR_STATUS_STATE = 0 ∧ isSet s F.PWR_CTRL_AUTO_IDLE = true ∧ get s F.PWR_IDLE_POISE ≠ 0 ∧ discWork s = false
      ∧ elapsed s s.pwr.workAt (156250000 * get s F.PWR_IDLE_POISE) = true then .next (startPoise s)
  else .next s

/-- Every present physical function is in D3hot (R521). -/
def allD3 (s : State) : Bool := decide (0 ∈ s.pwr.d3) && (!isSet s F.HST_STATUS_PF1 || decide (1 ∈ s.pwr.d3))

/-- IDLE_PARK: no command on any function for PWR.IDLE.PARK, or every present PF in D3hot (R521). -/
def execIdlePark (s : State) : Out :=
  let idle := isSet s F.PWR_CTRL_AUTO_IDLE && decide (get s F.PWR_IDLE_PARK ≠ 0) && decide (s.host.cmds = [])
    && elapsed s s.pwr.cmdAt (156250000 * get s F.PWR_IDLE_PARK)
  if pwrRuns s && decide (s.pwr.phase = 0) && decide (get s F.PWR_STATUS_STATE < 2) && (idle || allD3 s) then .next (startPark false s)
  else .next s

/-- POISED_TO_RUN: disc-bound work is scheduled in Poised (R521). -/
def execPoisedToRun (s : State) : Out :=
  if pwrRuns s = true ∧ s.pwr.phase = 0 ∧ get s F.PWR_STATUS_STATE = 1 ∧ discWork s = true then .next (leavePoised s) else .next s

/-- D0_TRANSITION: a function moves to D0 or to D3hot (R521, R527). -/
def execD0Transition (fn : Nat) (toD0 : Bool) (s : State) : Out :=
  if 512 ≤ fn ∨ coreRuns s = false then .next s
  else if toD0 then .next (wakeParked { s with pwr := { s.pwr with d3 := s.pwr.d3.filter (· ≠ fn) } })
  else
    let s1 := { s with pwr := { s.pwr with d3 := if fn ∈ s.pwr.d3 then s.pwr.d3 else s.pwr.d3 ++ [fn] } }
    if pwrRuns s1 && decide (s1.pwr.phase = 0) && decide (get s1 F.PWR_STATUS_STATE < 2) && allD3 s1 then .next (startPark false s1)
    else .next s1

/-- Whether a spindle and its sleds stand still. -/
def bayAtRest (s : State) (b : Nat) : Bool :=
  (decide (motSt s b = 0) || decide (motSt s b = 8)) && [0, 1].all fun a => decide (get s (F.MOV_AX_STATUS_BUSY b a) = 0)

/-- Parked entry's STOP (R521): the map cache clean and off, STOP on every spindle, the sleds to position 0. -/
def parkStop (s : State) : State :=
  let s1 := cleanAll s
  let s2 := put F.MAP_STATUS_STATE Mc.disabled { s1 with buf := { s1.buf with lines := [] }, pwr := { s1.pwr with phase := 3 } }
  forAll (baysOf s2) (fun b t => axMoveTo b 1 0 (axMoveTo b 0 0 (stopSpindle b (retractBay b t)))) s2

/-- The end of Parked entry (R520, R521): head links off, steppers cleared, carousels released, DDR5 in self-refresh; the vault's
header reads clean (R421). -/
def parkFinish (s : State) : State :=
  let s1 := forAll (headsOf s) (fun h t => setLink h 0 t) s
  let s2 := forAll ((carsOf s1).filter fun c => decide (cmotSt s1 c = 2)) (fun c t => carouselOff c 0 t) (forAll (baysOf s1) stepperOff s1)
  let s3 := put F.CLK_STATUS_LOCKED (get s2 F.CLK_STATUS_LOCKED &&& 0xfd) s2
  enterPower 2 (updateHeader 0 s3)

/-- PARKED_ENTRY_DONE: the entry goes on as far as its conditions allow (R293, R298, R521, R527). With no dirty data and no
write session left, the epoch is switched and checkpointed before the STOP; once the spindles stand, the entry ends. A wake
that came after the STOP, Dormant, or a held request follows at once. -/
def execParkedEntryDone (s : State) : Out :=
  if pwrRuns s = false then .next s
  else if s.pwr.phase = 2 then
    if get s F.PLP_D_DIRTY ≠ 0 ∨ (s.lib.sets.any fun p => p.2.session) = true then .next s
    else if s.lib.changed ≠ [] then .next (switchEpoch true s)
    else if s.lib.closing ≠ [] ∧ (s.lib.sets.any fun p => decide (p.2.st = 1)) = true then .next s
    else .next (parkStop s)
  else if s.pwr.phase = 3 then
    if (baysOf s).all (bayAtRest s) then
      let s1 := parkFinish s
      if s.pwr.wake then .next (settleRequest (parkedExit s1))
      else if s.pwr.toDorm ∨ (s.pwr.held = true ∧ get s F.PWR_CTRL_REQ = 4) then .next (enterDormant s1)
      else .next (settleRequest s1)
    else .next s
  else .next s

/-- PERST# has been asserted for 100 ms on every link that carries a function (R371, R521). -/
def perstHeld (s : State) : Bool :=
  ([0, 1].filter fun pf => decide (pf = 0) || isSet s F.HST_STATUS_PF1).all fun pf =>
    match s.pwr.perst.find? fun x => decide (x.1 = linkOfPf s pf / 2) with
    | none => false
    | some x => decide (15625000 + x.2 ≤ now s)

/-- DORMANT_ENTRY (R521). -/
def execDormantEntry (s : State) : Out :=
  if pwrRuns s && decide (s.pwr.phase = 0) && decide (get s F.PWR_STATUS_STATE = 2) && perstHeld s then .next (enterDormant s) else .next s

/-- WAKE_N low (R519, R521). -/
def execWakeN (s : State) : Out := .next (leaveDormant s)

/-- WAKE_TIMER_MATCH: in Dormant the wake timer reaches WAKE_CMP (R519, R521). -/
def execWakeTimerMatch (s : State) : Out :=
  .next (if s.pwr.dormant then leaveDormant (put F.PWR_WAKE_TIME (get s F.PWR_WAKE_CMP) s) else s)

/-- PERST_DEASSERT: PERST# of a port rises: its links train, at the speed and width the command tells; in Dormant the exit
follows (R371, R372, R521, R563). -/
def execPerstDeassert (port speed width : Nat) (s : State) : Out :=
  if 2 ≤ port then .next s
  else
    let s1 := { s with pwr := { s.pwr with perst := mapErase s.pwr.perst port } }
    if s.pwr.dormant then .next (leaveDormant s1)
    else if coreRuns s1 = false ∨ s1.pwr.started = false ∨ s1.pwr.powerLoss = true then .next s1
    else .next (forAll ((portLinks s1 port).filter fun l => decide (l = linkOfPf s1 0) || (isSet s1 F.HST_STATUS_PF1 && decide (l = linkOfPf s1 1)))
      (fun l t =>
        if isSet t (F.HST_LINK_UP l) then t
        else linkChange l (unexpose Dom.hostLink l (putAll [(F.HST_LINK_UP l, 1), (F.HST_LINK_SPEED l, speed), (F.HST_LINK_WIDTH l, width)] t))) s1)

/-! ### Resets and rails -/

/-- CHIP_RESET: PWR.CTRL.CHIP_RESET (R522, R530). A hold, a declared power loss, a shutdown and the fatal state end only by
their own events (R430, R449, R543). -/
def execChipReset (s : State) : Out :=
  if coreRuns s = false ∨ s.pwr.powerLoss = true ∨ s.thm.stop ≠ 0 ∨ isSet s F.DMP_STATUS_FATAL = true then .next s
  else .next (chipReset 2 s)

/-- RESET_N low (R522, R543, R563): after a power loss it is latched until the dump ends, and ends the hold; in the fatal state
it is a release. A thermal stop ends only by R449. -/
def execResetN (s : State) : Out :=
  if s.pwr.dormant ∨ s.thm.stop ≠ 0 ∨ s.pwr.hold = 2 then .next s
  else if s.pwr.hold = 1 then .next (pinReset 5 s)
  else if s.pwr.powerLoss then .next { s with pwr := { s.pwr with resetDue := 1 } }
  else if isSet s F.DMP_STATUS_FATAL then .next (releaseFatal 1 s)
  else .next (pinReset 1 s)

/-- ALWAYS_ON_RESET: VAON applied (R522, R555): everything is at its reset value, the retained words too. Fuses, boot flash,
vault and media keep their content; the chip is held until RESET_N rises. -/
def execAlwaysOnReset (s : State) : Out :=
  .next { State.reset with
    pending := s.pending, fresh := s.fresh, flash := s.flash, fuse := { s.fuse with op := none },
    lib := libMedia s.lib, par := { ckpt := s.par.ckpt }, plp := { vault := s.plp.vault, lossWarn := s.plp.lossWarn },
    mgt := { flash := s.mgt.flash }, host := { posted := s.host.posted } }

/-- RAIL_OUT_OF_TOLERANCE: a core rail leaves its tolerance, or is back in it (`good`) (R556): before RESET_N rises the chip stays
in reset; afterwards the rail is a power loss. -/
def execRailOutOfTolerance (rail : Nat) (good : Bool) (s : State) : Out :=
  let others := s.pwr.railBad.filter (· ≠ rail)
  if s.pwr.dormant ∨ 6 ≤ rail then .next s
  else if good then .next { s with pwr := { s.pwr with railBad := others } }
  else .next (declareLoss { s with pwr := { s.pwr with railBad := others ++ [rail] } })

/-- VAON_LOW: VAON below 3.0 V for 10 µs with the core running (R563). -/
def execVaonLow (s : State) : Out := .next (declareLoss s)

end Sys2Proof.Machine
end

