-- ==== Sys2Proof/Machine/Admin.lean ====
section
/-! DEFINITION. The administrative commands: Identify, log pages, features, asynchronous events, namespaces, directives, virtualization,
management tunnels, LBA status, the inventory and the sideband (R294, R375, R383, R394, R400 to R414, R418, R425, R445, R450, R546). -/

namespace Sys2Proof.Machine

/-- The function whose state a requester uses: the sideband runs in PF0's slots (R418). -/
def slotFn (fn : Nat) : Nat := if fn = 512 then 0 else fn

/-! ### Identify and log pages -/

/-- IDENTIFY (R400 to R402): PF0 is also served in recovery mode and in the fatal state (R490, R543). -/
def execIdentify (fn cid cns nsid cntid : Nat) (s : State) : Out :=
  .next (adminIn (decide (fn = 0 ∨ fn = 512)) (decide (fn = 0)) fn cid (fun s =>
    if cns ∈ [0, 1, 2, 3, 5, 6, 0x10, 0x11, 0x12, 0x13, 0x14, 0x15] then adminDone fn cid 0 0 0 0 (identifyData s fn cns nsid cntid) s
    else adminDone fn cid 0 2 1 0 [] s) s)

/-- The page of a LID for a requester, where it may read it (R403). -/
def logPage (s : State) (fn lid : Nat) : Option (List Nat) :=
  if lid = 1 then some (errorPage s fn)
  else if lid = 2 then some (smartPage s fn)
  else if lid = 3 ∧ isPf fn then some (firmwarePage s)
  else if lid = 4 then some (changedPage s (slotFn fn))
  else if lid = 5 then some (effectsPage s fn)
  else if lid = 0xc0 ∧ isPf fn then some (healthPage s)
  else if lid = 0xc1 ∧ isPf fn then some (inventoryPage s)
  else if lid = 0xc2 ∧ isPf fn then some (mountPage s)
  else if lid = 0xc3 ∧ isPf fn then some (reportPage s)
  else if lid = 0xc4 ∧ (fn = 0 ∨ fn = 512) then some (dumpPage s)
  else if lid = 0xc5 ∧ isPf fn then some (calPage s)
  else none

/-- A vendor page's generation count rises where its content differs from what was last read of it (R405; log entry 89). -/
def freshPage (fn lid : Nat) (s : State) : State :=
  match logPage s fn lid with
  | none => s
  | some page =>
    let now' := page.drop 8
    if lid < 0xc0 ∨ mapGet (fun _ => []) s.host.pageSeen lid = now' then s
    else
      let s1 := pageChanged lid s
      { s1 with host := { s1.host with pageSeen := mapPut s1.host.pageSeen lid now' } }

/-- What reading a page changes: its events may be posted again unless they are retained (R410), the Changed Namespace List starts
afresh, and a read that reached the newest entry of the placement report resets its count (R408). -/
def afterRead (fn lid ofs len : Nat) (retain : Bool) (s : State) : State :=
  let s1 := if retain then s else pageRead (slotFn fn) lid s
  if lid = 4 ∧ retain = false then { s1 with host := { s1.host with nsChanged := s1.host.nsChanged.filter fun p => decide (p.1 ≠ slotFn fn) } }
  else if lid = 0xc3 ∧ ofs ≤ 64 + 32 * (s.lib.reportSeq % 4096) ∧ 64 + 32 * (s.lib.reportSeq % 4096) + 32 ≤ ofs + len then
    { s1 with lib := { s1.lib with reportRead := s1.lib.reportSeq, overwritten := 0 } }
  else s1

/-- GET_LOG_PAGE: one consistent snapshot of `dwords` dwords from byte `lpo` (R403, R405); `rae` retains the page's events. In
recovery mode and in the fatal state only page 0xc4 is served (R490, R543). -/
def execGetLogPage (fn cid lid lpo dwords : Nat) (rae : Bool) (s : State) : Out :=
  .next (adminIn (decide (lid = 0xc4) && decide (fn = 0 ∨ fn = 512)) (decide (lid = 0xc4)) fn cid (fun s0 =>
    let s := freshPage fn lid s0
    match logPage s fn lid with
    | none => adminDone fn cid 1 9 1 0 [] s
    | some page => afterRead fn lid lpo (4 * dwords) rae (adminDone fn cid 0 0 0 0 (pageRange lpo (4 * dwords) page) s)) s)

/-- GET_LOG_PAGE_DUMP_CLEAR: Get Log Page 0xc4 with LSP bit 0 clears the flash copy once its transfer completes (R546). -/
def execGetLogPageDumpClear (fn cid lpo dwords : Nat) (s : State) : Out :=
  .next (adminIn (decide (fn = 0 ∨ fn = 512)) true fn cid (fun s0 =>
    let s := freshPage fn 0xc4 s0
    match logPage s fn 0xc4 with
    | none => adminDone fn cid 1 9 1 0 [] s
    | some page => clearDump (adminDone fn cid 0 0 0 0 (pageRange lpo (4 * dwords) page) s)) s)

/-! ### Features -/

/-- The queue pairs a function may hold, less one (R375, R409). -/
def pairsLess1 (s : State) (fn : Nat) : Nat := (ctxLimit s fn - 2) / 2 - 1

/-- TMT1 and TMT2 of feature 0x10: 0 is off; others lie from 273 K to 388 K, TMT1 below TMT2 (R400, R445). -/
def tmtOk (v : Nat) : Bool :=
  let t1 := v / 65536 % 65536
  let t2 := v % 65536
  let ok (t : Nat) : Bool := decide (t = 0) || (decide (273 ≤ t) && decide (t ≤ 388))
  ok t1 && ok t2 && (decide (t1 = 0) || decide (t2 = 0) || decide (t1 < t2))

/-- Feature 0xc3 takes effect at once on a running grace, which is measured from when the throttle set (R450). -/
def putGrace (v : Nat) (s : State) : State :=
  let s1 := put F.THM_GRACE v s
  if isSet s1 F.THM_STATUS_THROTTLE && isSet s1 F.THM_STATUS_GRACE && decide (156250 * v + s1.thm.setAt ≤ now s1) && decide (s1.thm.stop = 0) then graceEnds s1
  else s1

/-- A feature set (R409): the completion's status and DW0, and the state; no feature is saveable. -/
def setFeature (fn cid fid v : Nat) (save : Bool) (s : State) : State :=
  let bad (sct sc : Nat) : State := adminDone fn cid sct sc 1 0 [] s
  let good (dw : Nat) (t : State) : State := adminDone fn cid 0 0 0 dw [] t
  if fid ∉ [1, 2, 4, 7, 8, 9, 0x0b, 0x10, 0xc1, 0xc2, 0xc3, 0xc4] then bad 0 2
  else if save then bad 1 0x0d
  else if fid = 2 then (if v % 32 = 0 then good 0 s else bad 0 2)
  else if fid = 7 then
    if v % 65536 = 65535 ∨ v / 65536 % 65536 = 65535 then bad 0 2
    else if get s (F.HST_FN_STATUS_IOQ fn) ≠ 0 then bad 0 0x0c
    else
      let n := min (v % 65536) (pairsLess1 s fn) + 65536 * min (v / 65536 % 65536) (pairsLess1 s fn)
      good n (putFeature fn 7 n s)
  else if fid = 0x10 then (if tmtOk v then good 0 (applyTmt (getI s F.THM_HOT_TJ) (putFeature fn 0x10 v s)) else bad 0 2)
  else if fid = 0xc1 then good 0 (put (F.HST_FN_STATUS_STAMP fn) (v % 2) s)
  else if fid = 0xc2 then
    if fn ≠ 0 ∨ v % 65536 = 0 then bad 0 2 else good 0 (putAll [(F.PLP_P_DUMP, v), (F.PLP_E_RESERVE, v / 65536)] s)
  else if fid = 0xc3 then (if fn ≠ 0 ∨ v < 500 ∨ 30000 < v then bad 0 2 else good 0 (putGrace v s))
  else good 0 (putFeature fn fid v s)

/-- SET_FEATURES: command dword 11 for a feature identifier (R409). -/
def execSetFeatures (fn cid fid v : Nat) (save : Bool) (s : State) : Out := .next (admin fn cid (fun s => setFeature fn cid fid v save s) s)

/-- SET_FEATURES_STAMP_REPORTING: feature 0xc1 (R383). -/
def execSetFeaturesStampReporting (fn cid : Nat) (on : Bool) (s : State) : Out :=
  .next (admin fn cid (setFeature fn cid 0xc1 (if on then 1 else 0) false) s)

/-- SET_FEATURES_POWER_LOSS: feature 0xc2, P_dump in W and E_reserve in J (R425). -/
def execSetFeaturesPowerLoss (fn cid pDump eReserve : Nat) (s : State) : Out :=
  .next (admin fn cid (setFeature fn cid 0xc2 (pDump % 65536 + 65536 * (eReserve % 65536)) false) s)

/-- SET_FEATURES_THERMAL_GRACE: feature 0xc3, in ms (R409, R450). -/
def execSetFeaturesThermalGrace (fn cid ms : Nat) (s : State) : Out := .next (admin fn cid (setFeature fn cid 0xc3 ms false) s)

/-- SET_FEATURES_RECALL_QUOTA: feature 0xc4, in GiB (R412). -/
def execSetFeaturesRecallQuota (fn cid gib : Nat) (s : State) : Out := .next (admin fn cid (setFeature fn cid 0xc4 gib false) s)

/-- SET_FEATURES_HCTM: feature 0x10, TMT1 and TMT2 in K (R445). -/
def execSetFeaturesHctm (fn cid tmt1 tmt2 : Nat) (s : State) : Out :=
  .next (admin fn cid (setFeature fn cid 0x10 (65536 * (tmt1 % 65536) + tmt2 % 65536) false) s)

/-- The value of a feature at its default (R409), and the one in force. -/
def featureDefault (s : State) (fn fid : Nat) : Nat :=
  if fid = 4 then 368 else if fid = 7 then 65537 * pairsLess1 s fn
  else if fid = 0xc2 then 0x96 else if fid = 0xc3 then 2000 else if fid = 0xc4 then (if fn < 2 then cleanBlocks s / 4 / 2 ^ 18 else 4) else 0
def featureNow (s : State) (fn fid : Nat) : Nat :=
  if fid = 0xc1 then get s (F.HST_FN_STATUS_STAMP fn)
  else if fid = 0xc2 then get s F.PLP_P_DUMP + 65536 * get s F.PLP_E_RESERVE
  else if fid = 0xc3 then get s F.THM_GRACE
  else match mapFind s.host.features (256 * fn + fid) with
    | some v => v
    | none => featureDefault s fn fid

/-- GET_FEATURES (R409): SEL 0 the current, 1 the default, 2 the saved value (the default, as none is saved), 3 the capabilities:
changeable only. Features of PF0 only are refused to others. -/
def execGetFeatures (fn cid fid sel : Nat) (s : State) : Out :=
  .next (adminSide fn cid (fun s =>
    let f := slotFn fn
    if fid ∉ [1, 2, 4, 7, 8, 9, 0x0b, 0x10, 0xc1, 0xc2, 0xc3, 0xc4] ∨ (f ≠ 0 ∧ (fid = 0xc2 ∨ fid = 0xc3)) then adminDone fn cid 0 2 1 0 [] s
    else adminDone fn cid 0 0 0 (if sel % 8 = 0 then featureNow s f fid else if sel % 8 = 3 then 4 else featureDefault s f fid) [] s) s)

/-! ### Asynchronous events -/

/-- ASYNCHRONOUS_EVENT_REQUEST: held for a later event, 16 at most (R395, R400, R410); an event that waited is posted at once. -/
def execAsynchronousEventRequest (fn cid : Nat) (s : State) : Out :=
  .next (admin fn cid (fun s =>
    match s.host.held.find? fun x => decide (x.1 = fn) with
    | some x =>
      notifyFn x.2 fn { s with host := { s.host with held := s.host.held.erase x, aers := s.host.aers ++ [(fn, cid)] } }
    | none =>
      if 16 ≤ (s.host.aers.filter fun a => decide (a.1 = fn)).length then adminDone fn cid 1 5 1 0 [] s
      else { s with host := { s.host with aers := s.host.aers ++ [(fn, cid)] } }) s)

/-! ### Namespaces -/

/-- The end of the grain ranges in use or deleted (R288). -/
def grainsEnd (s : State) : Nat := (s.lib.spaces.map fun n => n.base + n.grains).foldl max 0
def freeNsid (s : State) : Nat := ((List.range 1024).find? fun i => (liveSpaces s).all fun n => decide (n.nsid ≠ i + 1)).getD 1024 + 1

/-- A namespace of `g` grains created: in the earliest deleted range that is large enough, whose rest stays a deleted range, else
behind every other range (R288, R402). -/
def createSpace (nsid g : Nat) (s : State) : State :=
  let ready := isSet s F.PWR_STATUS_MAP_READY
  let spaces := match s.lib.spaces.find? fun n => n.deleted && decide (g ≤ n.grains) with
    | none => s.lib.spaces ++ [⟨nsid, grainsEnd s, g, ready, false, []⟩]
    | some old => (s.lib.spaces.map fun n =>
        if n = old then (⟨nsid, old.base, g, ready, false, []⟩ : Namespace) :: (if g < old.grains then [{ old with base := old.base + g, grains := old.grains - g }] else [])
        else [n]).flatten
  writeDirectory { s with lib := { s.lib with spaces := spaces } }

/-- The functions that a namespace was attached to are told that it changed. -/
def spaceChanged (nsid : Nat) (fns : List Nat) (s : State) : State :=
  forAll fns (fun f t => notifyFn 0x200 f { t with host := { t.host with
    nsChanged := if (f, nsid) ∈ t.host.nsChanged then t.host.nsChanged else t.host.nsChanged ++ [(f, nsid)] } }) s

/-- A namespace deleted: its grains become UNMAPPED and its range may be used again (R402). -/
def deleteSpace (n : Namespace) (s : State) : State :=
  let gs := (s.lib.gmap.map Prod.fst).filter fun g => decide (n.base ≤ g) && decide (g < n.base + n.grains)
  let s1 := forAll gs (fun g t => setWholeGrain g 0 .unmapped t) s
  let s2 := { s1 with lib := { s1.lib with spaces := s1.lib.spaces.map fun x => if x = n then { x with deleted := true, attach := [] } else x } }
  spaceChanged n.nsid n.attach (refreshArbours (writeDirectory s2))

/-- NAMESPACE_MANAGEMENT: create with NSZE in blocks, rounded up to whole grains, or delete, NSID 0xffff_ffff meaning all (R402); for
physical functions. -/
def execNamespaceManagement (fn cid : Nat) (create : Bool) (nsze nsid : Nat) (s : State) : Out :=
  .next (admin fn cid (fun s =>
    let g := (nsze + 255) / 256
    if 2 ≤ fn then adminDone fn cid 0 1 1 0 [] s
    else if create then
      if nsze = 0 then adminDone fn cid 0 2 1 0 [] s
      else if 2 ^ 32 < ((liveSpaces s).map (·.grains)).sum + g then adminDone fn cid 1 0x15 1 0 [] s
      else if 1024 ≤ (liveSpaces s).length then adminDone fn cid 1 0x16 1 0 [] s
      else adminDone fn cid 0 0 0 (freeNsid s) [] (createSpace (freeNsid s) g s)
    else if nsid = 2 ^ 32 - 1 then adminDone fn cid 0 0 0 0 [] ((liveSpaces s).foldl (fun t n => deleteSpace n t) s)
    else match findSpace s nsid with
      | none => adminDone fn cid 0 0x0b 1 0 [] s
      | some n => adminDone fn cid 0 0 0 0 [] (deleteSpace n s)) s)

/-- NAMESPACE_ATTACHMENT: a namespace is attached to, or detached from, the controllers of a list of identifiers (R374, R402); for physical
functions. -/
def execNamespaceAttachment (fn cid nsid : Nat) (attach : Bool) (ctrls : List Nat) (s : State) : Out :=
  .next (admin fn cid (fun s =>
    let fns := ctrls.map (· - 1)
    if 2 ≤ fn then adminDone fn cid 0 1 1 0 [] s
    else match findSpace s nsid with
      | none => adminDone fn cid 0 0x0b 1 0 [] s
      | some n =>
        if ctrls = [] ∨ (ctrls.any fun c => decide (c = 0) || decide (512 < c) || decide (get s (F.HST_FN_CFG_CTX (c - 1)) < 2)) then adminDone fn cid 1 0x1c 1 0 [] s
        else if attach ∧ (fns.any fun f => decide (f ∈ n.attach)) then adminDone fn cid 1 0x18 1 0 [] s
        else if attach = false ∧ (fns.any fun f => decide (f ∉ n.attach)) then adminDone fn cid 1 0x1a 1 0 [] s
        else
          let l := if attach then n.attach ++ fns.dedup else n.attach.filter fun f => decide (f ∉ fns)
          let s1 := { s with lib := { s.lib with spaces := s.lib.spaces.map fun x => if x = n then { x with attach := l } else x } }
          adminDone fn cid 0 0 0 0 [] (spaceChanged nsid fns.dedup (writeDirectory s1))) s)

/-! ### Directives and virtualization -/

/-- DIRECTIVE_SEND: Streams, operation 1 allocates an NVMe stream of a namespace, which takes the next placement stream, 2 releases
it, 3 releases every stream of the function in the namespace (R294, R396); 0 is Identify's enabling, which changes nothing. -/
def execDirectiveSend (fn cid nsid op sid : Nat) (s : State) : Out :=
  .next (admin fn cid (fun s =>
    let mine (x : Nat × Nat × Nat × Nat) : Bool := decide (x.1 = fn) && decide (x.2.1 = nsid)
    match findSpace s nsid with
    | none => adminDone fn cid 0 0x0b 1 0 [] s
    | some n =>
      if fn ∉ n.attach ∨ 3 < op ∨ (sid = 0 ∧ (op = 1 ∨ op = 2)) then adminDone fn cid 0 2 1 0 [] s
      else if op = 1 then
        if s.host.streams.any fun x => mine x && decide (x.2.2.1 = sid) then adminDone fn cid 0 0 0 0 [] s
        else adminDone fn cid 0 0 0 0 [] { s with host := { s.host with
          streams := s.host.streams ++ [(fn, nsid, sid, s.host.nextStr % 63 + 1)], nextStr := s.host.nextStr + 1 } }
      else if op = 2 then
        adminDone fn cid 0 0 0 0 [] { s with host := { s.host with streams := s.host.streams.filter fun x => !(mine x && decide (x.2.2.1 = sid)) } }
      else if op = 3 then adminDone fn cid 0 0 0 0 [] { s with host := { s.host with streams := s.host.streams.filter fun x => !mine x } }
      else adminDone fn cid 0 0 0 0 [] s) s)

/-- DIRECTIVE_RECEIVE: the parameters of a directive (R395): of Streams (`dtype` 1) the number of streams open in the namespace; the
others have no stated value. -/
def execDirectiveReceive (fn cid nsid dtype : Nat) (s : State) : Out :=
  .next (admin fn cid (fun s =>
    if 1 < dtype then adminDone fn cid 0 2 1 0 [] s
    else
      let open' := (s.host.streams.filter fun x => decide (x.1 = fn) && decide (x.2.1 = nsid)).length
      adminDone fn cid 0 0 0 0 (if dtype = 1 then layout 32 [(24, 2, open')] (Config.unstatedByte 10 nsid) else layout 4096 [] (Config.unstatedByte 11 nsid)) s) s)

/-- The virtual functions of a PF (R374). -/
def isVfOf (pf f : Nat) : Bool := if pf = 0 then decide (2 ≤ f) && decide (f < 257) else decide (257 ≤ f) && decide (f < 512)

/-- VIRTUALIZATION_MANAGEMENT: action 8 assigns flexible queue contexts to a VF, at most 160 in all; 7 and 9 take it offline and online
and 1 names the PF's own (R375); for physical functions. -/
def execVirtualizationManagement (fn cid act cntlid rt n : Nat) (s : State) : Out :=
  .next (admin fn cid (fun s =>
    let f := cntlid - 1
    let used := ((s.host.flexible.filter fun p => decide (p.1 ≠ f)).map Prod.snd).sum
    if 2 ≤ fn then adminDone fn cid 0 1 1 0 [] s
    else if act ∉ [1, 7, 8, 9] then adminDone fn cid 0 2 1 0 [] s
    else if cntlid = 0 ∨ ((act = 1) ∧ f ≠ fn) ∨ (act ≠ 1 ∧ isVfOf fn f = false) then adminDone fn cid 1 0x1f 1 0 [] s
    else if act = 7 ∨ act = 9 then adminDone fn cid 0 0 0 0 [] s
    else if rt ≠ 0 then adminDone fn cid 1 0x22 1 0 [] s
    else if 160 < used + n then adminDone fn cid 1 0x21 1 0 [] s
    else adminDone fn cid 0 0 0 n [] { s with host := { s.host with flexible := mapPut s.host.flexible f n } }) s)

/-! ### Management tunnels -/

/-- NVME_MI_SEND: a management request in band (R418); its response has no stated value. -/
def execNvmeMiSend (fn cid : Nat) (s : State) : Out :=
  .next (admin fn cid (fun s => adminDone fn cid 0 0 0 (drawFree 32 s).1 [] (drawFree 32 s).2) s)

/-- NVME_MI_RECEIVE: a management response in band, of `len` bytes with no stated value (R418). -/
def execNvmeMiReceive (fn cid len : Nat) (s : State) : Out :=
  .next (admin fn cid (fun s => adminDone fn cid 0 0 0 (drawFree 32 s).1 (layout len [] (Config.unstatedByte 12 s.fresh)) (drawFree 32 s).2) s)

/-! ### LBA status -/

/-- Consecutive blocks joined into ranges (first block, count). -/
def joinRanges : List Nat → List (Nat × Nat)
  | [] => []
  | x :: xs => match joinRanges xs with
    | [] => [(x, 1)]
    | (y, n) :: l => if y = x + 1 then (x, n + 1) :: l else (x, 1) :: (y, n) :: l

/-- GET_LBA_STATUS: the UNAVAILABLE ranges from a block on, over `range` blocks or to the end with 0, `most` of them at most; action types
0x10 and 0x11 (R394). -/
def execGetLbaStatus (fn cid nsid slba range action most : Nat) (s : State) : Out :=
  .next (admin fn cid (fun s =>
    match findSpace s nsid with
    | none => adminDone fn cid 0 0x0b 1 0 [] s
    | some n =>
      let hi := if range = 0 then 256 * n.grains else min (256 * n.grains) (slba + range)
      if slotFn fn ∉ n.attach ∨ (action ≠ 0x10 ∧ action ≠ 0x11) then adminDone fn cid 0 2 1 0 [] s
      else if 256 * n.grains ≤ slba then adminDone fn cid 0 0x80 1 0 [] s
      else
        let keys := (s.lib.unavail.map Prod.fst).filter fun k => decide (256 * n.base + slba ≤ k) && decide (k < 256 * n.base + hi)
        post ⟨fn, 0, cid, 0, 0, 0, 0, 0, (joinRanges (keys.map (· - 256 * n.base))).take most, []⟩ s) s)

/-! ### The inventory -/

/-- The library slots that an Import or Export names, where its fields are valid (R413, R414). -/
def namedSlots (s : State) (c first n : Nat) : Option (List Nat) :=
  if 288 ≤ first ∨ n = 0 ∨ 288 < first + n ∨ carInst s c = false then none else some ((List.range n).map fun i => 288 * c + first + i)

/-- INVENTORY_IMPORT: the named slots take STATE 15 and wait for identification (R413). -/
def execInventoryImport (fn cid c first n : Nat) (s : State) : Out :=
  .next (adminSide fn cid (fun s =>
    match namedSlots s c first n with
    | none => adminDone fn cid 0 2 1 0 [] s
    | some l =>
      if l.any fun d => decide (d ∈ s.host.importQ) then adminDone fn cid 0 2 1 0 [] s
      else
        let s1 := forAll l (fun d t => updDisc d (fun x => { x with state := 15, importing := true, failRun := 0 }) t)
          { s with host := { s.host with importQ := s.host.importQ ++ l } }
        adminDone fn cid 0 0 0 0 [] (refreshArbours (pageChanged 0xc1 s1))) s)

/-- The state that a disc has in a set of the set table (R407, R413). -/
def stateInSet (s : State) (hd member : Nat) : Nat :=
  let d := getSet s hd
  if member ∈ d.failed then 4 else if d.st = 1 then 2 else 3

/-- The media identifier that a head of a bay has read from the wobble (R33). -/
def bayMedia (s : State) (b : Nat) : Option Nat :=
  ([2 * b, 2 * b + 1].find? fun h => headInst s h && isSet s (F.CH_STATUS_MEDIA_ID_VALID h)).map fun h =>
    ((List.range 4).map fun i => get s (F.CH_MEDIA_ID h i) * 2 ^ (32 * i)).sum

/-- What identification makes of a mounted disc whose record areas have been scanned (R51, R52, R413): its media identifier and its valid
generation, or the common part of a data sector, which identifies a disc without one. -/
def classify (d mid : Nat) (common : Option (List Nat)) (s : State) : State :=
  let known (sid m w : Nat) (x : Disc) : Disc :=
    let hd := (s.lib.sets.find? fun p => decide (p.2.setId = sid)).map Prod.fst
    { x with setId := sid, member := m, width := w, set := hd.getD 0xffff, state := match hd with | none => 7 | some h => stateInSet s h m }
  updDisc d (fun x0 =>
    let x := { x0 with mediaId := mid, importing := false }
    match bestDescriptor (recordDescriptors x.records), common with
    | some (_, g), _ => known g.setId g.member g.width { selectDescriptor x with rows := g.rows }
    | none, some c => known (metaSetId c) (metaMember c) (metaWidth c) (selectDescriptor x)
    | none, none => { x with state := 1, set := 0xffff, setId := 0, member := 0, width := 0, rows := 0, flags := x.flags &&& 0xfffc }) s

/-- What is found of a slot under identification, once it can be told (R413): the tray was empty after the loader phase, the disc is foreign, its
mount failed twice, or it is mounted with its media identifier read. -/
def identified (d : Nat) (common : Option (List Nat)) (s : State) : Option State :=
  let x := getDisc s d
  match (baysOf s).find? fun b => decide ((mountOf s b).phase ≠ 0) && decide ((mountOf s b).disc = d) with
  | none =>
    if 2 ≤ x.failRun then some (updDisc d (fun y => { y with state := 8, importing := false }) s)
    else if x.state = 6 then some (updDisc d (fun y => { y with importing := false }) s)
    else none
  | some b =>
    if (mountOf s b).empty then some { s with lib := { s.lib with discs := mapErase s.lib.discs d } }
    else if x.state = 6 then some (updDisc d (fun y => { y with importing := false }) s)
    else if (mountOf s b).phase ≠ 5 then none
    else (bayMedia s b).map fun mid => classify d mid common s

/-- INVENTORY_SLOT_IDENTIFY: one slot's disc, mounted as the work of an Import, is classified; it waits while the carousel's interlock is
active, and information 0x81 follows the last slot (R413, R419). A rebuild that waits for a spare takes a blank disc (R323). `common` is the
common part of a data sector, where one was read. -/
def execInventorySlotIdentify (d : Nat) (common : Option (List Nat)) (s : State) : Out :=
  if d ∉ s.host.importQ ∨ cmotSt s (d / 288) = 5 ∨ s.pwr.powerLoss = true ∨ isSet s F.DMP_STATUS_FATAL = true then .next s
  else match identified d common s with
    | none => .next s
    | some s0 =>
      let s1 := { s0 with host := { s0.host with importQ := s0.host.importQ.erase d } }
      let s2 := rbRetry (refreshArbours (writeDirectory s1))
      .next (if s2.host.importQ = [] then notify 0x781 s2 else s2)

/-- INVENTORY_EXPORT: retired, foreign, unreadable and released discs of the named slots become released; the first other slot is named
with Disc In Use (R414, R419). -/
def execInventoryExport (fn cid c first n : Nat) (s : State) : Out :=
  .next (adminSide fn cid (fun s =>
    match namedSlots s c first n with
    | none => adminDone fn cid 0 2 1 0 [] s
    | some l =>
      let free (d : Nat) : Bool := decide ((getDisc s d).state ∈ [5, 6, 7, 8, 9]) && decide (d ∉ s.host.importQ)
      let s1 := writeDirectory (forAll (l.filter free) (fun d t => updDisc d (fun x => { x with state := 9 }) t) s)
      match l.find? fun d => !free d with
      | none => adminDone fn cid 0 0 0 0 [] s1
      | some d => adminDone fn cid 1 0xc3 0 d [] s1) s)

/-! ### The sideband -/

/-- The answer to a management request over I3C: served, or Busy (R418); the model's own coding of the response (log entry 61). -/
def sidebandAnswer (id : Nat) (busy : Bool) (s : State) : State :=
  post ⟨512, 0, id, if busy then 7 else 0, if busy then 1 else 0, 0, (drawFree 32 s).1, 0, [], []⟩ (drawFree 32 s).2

/-- SIDEBAND_REQUEST: an NVMe-MI request (R418, R521, R543): `kind` 0 health status poll, 1 VPD read, 2 Read NVMe-MI Data Structure, 3
reset, 4 another one that is not a tunnelled admin command. One is processed at a time. In Dormant the first three are served from
the always-on domain and every other wakes the controller; in the fatal state a reset is a release and others fail. -/
def execSidebandRequest (id kind : Nat) (s : State) : Out :=
  if s.host.sideband.isSome then .next (sidebandAnswer id true s)
  else if kind < 3 then .next (sidebandAnswer id false s)
  else if s.pwr.dormant then .next (leaveDormant { s with host := { s.host with sideband := some id } })
  else if s.pwr.started = false ∨ s.pwr.hold ≠ 0 then .next { s with host := { s.host with sideband := some id } }
  else if isSet s F.DMP_STATUS_FATAL then
    if kind = 3 then .next (releaseFatal 3 (sidebandAnswer id false s)) else .next (adminDone 512 id 0 6 0 0 [] s)
  else .next (wakeParked (sidebandAnswer id false s))

end Sys2Proof.Machine
end

