-- ==== Sys2Proof/Machine/Startup.lean ====
section
/-! DEFINITION. Start-up: from the fuses to CSTS.RDY eligibility (R332, R341, R350, R371, R420, R422, R432, R466, R470, R489, R490, R508,
R517, R524). -/

namespace Sys2Proof.Machine

/-- A start-up that does not reach the host interface counts toward the fallback during probation (R510). -/
def failStart (s : State) : State :=
  updFw (fun f => if f.state = 3 then { f with starts := f.starts + 1, fellBack := f.fellBack || decide (2 ≤ f.starts + 1) } else f) s

/-- The capacity that the modules have in common, and the channels that are missing or differ from it (R341). -/
def capOf (caps : List Nat) : Nat := (caps.find? fun c => decide (c ∈ [32, 48, 64, 96, 128])).getD 0
def badChannels (caps : List Nat) : List Nat := (List.range 16).filter fun c => decide (caps.getD c 0 ≠ capOf caps) || decide (capOf caps = 0)

/-- The channels whose module is refused at training (R340): one of an unsupported kind (3DS, x8, without ECC), density, rank count or speed. -/
def refusedChannels (x : StartConditions) : List Nat :=
  if x.density ∈ [16, 24, 32] ∧ x.ranks ∈ [1, 2] ∧ 4800 ≤ x.speed ∧ x.speed ≤ 8000 then x.refused else List.range 16

/-- The references and PLLs of the instantiated units (R517, R528). -/
def startClocks (s : State) : State :=
  let pf1 := isSet s F.HST_STATUS_PF1
  let p1 := pf1 && decide (linkOfPf s 1 = 2)
  let die (d : Nat) : Bool := ((headsOf s).any fun h => decide (h / 16 = d)) || ((baysOf s).any fun b => decide (b / 8 = d)) || carInst s d
  let locked := 1 + (if get s F.GLB_INST_MISC_DDR_CH = 0 then 0 else 2)
    + ((List.range 4).map fun d => if die d then 2 ^ (2 + d) else 0).sum + 64 + (if p1 then 128 else 0)
  putAll [(F.CLK_STATUS_PCIE0_OK, 1), (F.CLK_STATUS_PCIE1_OK, if p1 then 1 else 0), (F.CLK_STATUS_LINK_OK, 1), (F.CLK_STATUS_XTAL_OK, 1),
    (F.CLK_STATUS_LOCKED, locked), (F.CLK_STATUS_VAULT, 1)] s

/-- Bay, carousel and head links begin training where they are enabled, and enabled carousels align (R75, R94, R244). -/
def startLinks (s : State) : State :=
  let s1 := forAll ((headsOf s).filter fun h => isSet s (F.HL_CTRL_EN h)) (fun h t => setLink h 1 t) s
  let s2 := forAll ((List.range 36).filter fun l => linkInst s1 l && isSet s1 (F.BL_CTRL_EN l)) startTraining s1
  forAll ((carsOf s2).filter fun c => isSet s2 (F.CMOT_CTRL_EN c)) (fun c t => updCrs c (fun x => { x with inverter := true }) t) s2

/-- The buffer after training: its size, every channel in service, the summary and the bitmap cleared (R341, R342, R350, R364). -/
def startBuffer (x : StartConditions) (s : State) : State :=
  let s1 := putAll [(F.BUF_CONFIG_C, capOf x.caps), (F.BUF_CONFIG_RANKS, x.ranks), (F.BUF_CONFIG_DENSITY, x.density),
    (F.BUF_CONFIG_SPEED, x.speed), (F.BUF_STATUS_STATE, 1), (F.BUF_STATUS_IN_SERVICE, get s F.GLB_INST_MISC_DDR_CH)]
    { s with buf := { s.buf with valid := [], summary := [], scrub := some 0, clearAt := now s } }
  let s2 := putAll [(F.BUF_BA_SIZE_MIRRORED, 8 * get s1 F.BUF_MIRROR_M), (F.BUF_BA_SIZE_TOTAL, baSize s1 / 2 ^ 30)] s1
  if isSet s2 F.MAP_CTRL_EN then put F.MAP_STATUS_STATE Mc.enabled s2 else s2

/-- The vault's test (R420, R422). -/
def startVault (x : StartConditions) (s : State) : State :=
  match x.vault with
  | none => putAll [(F.PLP_STATUS_VAULT_OK, 0), (F.PLP_STATUS_WRITE_THROUGH, 1)] s
  | some v => putB F.PLP_STATUS_WRITE_THROUGH (!vaultUsable v) (putB F.PLP_STATUS_VAULT_OK (vaultUsable v) (vaultRate v s))

/-- Host links that carry a physical function and whose PERST# is high come up (R371). -/
def startHost (links : List (Nat × Nat × Nat)) (s : State) : State :=
  let used := links.filter fun l => (decide (l.1 = linkOfPf s 0) || (isSet s F.HST_STATUS_PF1 && decide (l.1 = linkOfPf s 1)))
    && !(s.pwr.perst.any fun p => decide (p.1 = l.1 / 2))
  used.foldl (fun t l => linkChange l.1 (putAll [(F.HST_LINK_UP l.1, 1), (F.HST_LINK_SPEED l.1, l.2.1), (F.HST_LINK_WIDTH l.1, l.2.2)] t)) s

/-- A sideband request that woke the controller is answered (R418). -/
def answerSideband (s : State) : State :=
  match s.host.sideband with
  | none => s
  | some id => sidebandAnswer id false { s with host := { s.host with sideband := none } }

/-- CSTS.RDY eligible (R524, R530). -/
def startDone (s : State) : State :=
  let s1 := forAll ((List.range 512).filter fun f => isSet s (F.HST_FN_STATUS_CCEN f)) (fun f t => put (F.HST_FN_STATUS_RDY f) 1 t)
    { s with pwr := { s.pwr with started := true, rdyOk := true } }
  answerSideband (raise evPWR B.PWR_EVT_START_DONE (putAll [(F.PWR_STATUS_START_STEP, 14), (F.PWR_START_TIME_RDY, min 65535 (now s / 156250))] s1))

/-- The units after the tablature: clocks, links, firmware, calibration, buffer, vault and its recovery (R524). -/
def startUnits (x : StartConditions) (s : State) : State :=
  let refused := refusedChannels x
  let bad := (badChannels x.caps).filter fun c => decide (c ∉ refused)
  let s1 := startLinks (startClocks s)
  if bad ≠ [] ∨ refused ≠ [] then
    failStart (put F.PWR_STATUS_START_STEP 10 (putAll ((F.BUF_STATUS_STATE, 4)
      :: (bad.map fun c => [(F.BUF_CH_STATUS_STATE c, 1), (F.BUF_CH_STATUS_CAUSE c, 1)]).flatten ++ refused.map fun c => (F.BUF_CH_STATUS_STATE c, 3)) s1))
  else
    let s2 := forAll (headsOf s1) (fun h t => enginesReset h (get t (F.CH_POOL_STATUS_ENGINES (4 * (h / 4)))) 0 0 t) (startFirmware x.reads s1)
    let s3 := startVault x (startBuffer x (askCal ⟨513, 0, 0, 0, []⟩ x.cal { s2 with cal := { s2.cal with autoAt := now s2 } }))
    startDone (startHost x.links (recoverVault s3))

/-- START_UP: RESET_N high with every supply good (R524). A FACTORY_CRC mismatch is fatal (R470); without a valid tablature the
controller starts in recovery mode, with PF0 on P0 x16 and no units (R490); the recovery image also runs when neither firmware letter passes its
checks (R497). -/
def execStartUp (x : StartConditions) (s : State) : Out :=
  if s.pwr.dormant ∨ (s.pwr.hold ≠ 0 ∧ s.pwr.hold ≠ 3) ∨ s.pwr.railBad ≠ [] ∨ s.pwr.started = true ∨ s.pwr.powerLoss = true
      ∨ get s F.PWR_STATUS_START_STEP ≠ 0 ∨ isSet s F.DMP_STATUS_FATAL = true then .next s
  else
    let s1 := loadFuses { s with pwr := { s.pwr with hold := 0 } }
    let s2 := putB F.DMP_STATUS_IN_FLASH s.mgt.flash.isSome s1
    let s3 := if fuseBits s2 3 1 2 = 0 then raise evFUS B.FUS_EVT_DEBUG_UNLOCK (put F.FUS_STATUS_DEBUG_ACTIVE 1 s2) else s2
    if factoryOk s3 = false then .next (enterFatal 1 0 0xff (raise evFUS B.FUS_EVT_FACTORY_CRC s3))
    else
      let s4 := selectTab (capOf x.caps) (put F.FUS_STATUS_FACTORY_OK 1 s3)
      if get s4 F.TAB_STATUS_SELECTED = 3 ∨ noLetter s4 = true then
        .next (startDone (startHost x.links (startClocks (startFirmware x.reads
          (putAll [(F.HST_STATUS_PORT_MODE, 3), (F.HST_STATUS_PF1, 0)] s4)))))
      else .next (startUnits x s4)

end Sys2Proof.Machine
end

