-- ==== Sys2Proof/Machine/Window.lean ====
section
/-! DEFINITION. The register window: accesses with their checks, halves of 64-bit registers, access errors, the boundaries of RWB
fields, and the control tree (R2 to R12, R16, R17, R21, R26, R27). -/

namespace Sys2Proof.Machine

/-! ### Accesses -/

/-- Whether the register at an offset is 64 bits wide (R3): some field of it passes bit 31. A value in force is as wide as the
register 0x800 below it (R459). -/
def isWide (off : Nat) : Bool :=
  let o := if 0x7080900 ≤ off ∧ off < 0x7080f00 then off - 0x800 else off
  let b := o - o % 8
  (placesAt b ++ placesAt (b + 4)).any fun p => decide (p.fld.off = b) && decide (32 < p.fld.lsb + p.fld.width)

/-- Whether an offset that no block holds lies in the range of a bay or a carousel that does not exist (R12, R21, R22). -/
def inAbsentUnit (s : State) (off : Nat) : Bool :=
  if 0x3000000 ≤ off ∧ off < 0x3200000 then !bayInst s ((off - 0x3000000) / 0x10000)
  else if 0x3200000 ≤ off ∧ off < 0x3240000 then !carInst s ((off - 0x3200000) / 0x10000)
  else false

/-- The first fault of an access, as GLB.ACC_ERR.KIND codes it (R26): 1 narrow, 2 unaligned, 5 unit not instantiated, 3 reserved
offset, 4 write to an RWL field after the seal; 0 where it has none. -/
def accessErr (s : State) (off : Nat) (sz : AccessSize) (write : Bool) : Nat :=
  if sz.bytes < 4 then 1
  else if off % sz.bytes ≠ 0 then 2
  else match findBlock off with
    | none => if inAbsentUnit s off then 5 else 3
    | some (k, i, _) =>
      if !unitThere s k i then 5
      else if !wordThere off then 3
      else if write && isSet s F.FUS_STATUS_SEALED
          && ((placesAt off).any fun p => decide (p.access = .rwl)) then 4
      else 0

/-- An access error is recorded, the first with its fields, a further one as OVERFLOW; source 193 follows VALID (R3, R26, R27). -/
def recordError (rq off kind : Nat) (write : Bool) (s : State) : State :=
  if isSet s F.GLB_ACC_ERR_VALID then put F.GLB_ACC_ERR_OVERFLOW 1 s
  else edge 193 false (putAll [(F.GLB_ACC_ERR_OFFSET, off), (F.GLB_ACC_ERR_REQ, rq), (F.GLB_ACC_ERR_KIND, kind),
    (F.GLB_ACC_ERR_WRITE, if write then 1 else 0), (F.GLB_ACC_ERR_VALID, 1)] s)

/-- VALID written 1: VALID and OVERFLOW clear together (R27). -/
def clearError (s : State) : State := putAll [(F.GLB_ACC_ERR_VALID, 0), (F.GLB_ACC_ERR_OVERFLOW, 0)] s

/-- Whether a requester's accesses reach the register block (R5, R11, R539): a management pair that is not fenced, PF0 while the
fuses give it BAR2, the debug port while it has full access. -/
def reaches (s : State) (rq : Nat) : Bool :=
  if rq < 4 then !isSet s (F.MGT_STATUS_FENCED rq)
  else if rq = 8 then decide (fuseBits s 3 5 1 = 1)
  else if rq = 9 then isSet s F.FUS_STATUS_DEBUG_ACTIVE
  else false

/-- The shadows and the held halves of a requester (R4), each stored with 1 added. -/
def halfKey (rq reg : Nat) : Nat := 2 ^ 28 * rq + reg
def shadowOf (s : State) (rq reg : Nat) : Option Nat := mapFind s.shadows (halfKey rq reg)
def heldOf (s : State) (rq reg : Nat) : Option Nat := mapFind s.held (halfKey rq reg)
def dropHalves (rq reg : Nat) (s : State) : State :=
  { s with shadows := mapErase s.shadows (halfKey rq reg), held := mapErase s.held (halfKey rq reg) }

/-! ### Reads -/

/-- A 32-bit read of an aligned word (R3, R4, R7). -/
def readOne (rq off : Nat) (s : State) : Nat × State :=
  let e := accessErr s off .word false
  if e ≠ 0 then (0, recordError rq off e false s)
  else if !isWide off then (readWord s off, s)
  else if off % 8 = 0 then
    (readWord s off, { s with shadows := mapPut s.shadows (halfKey rq off) (readWord s (off + 4)) })
  else match shadowOf s rq (off - 4) with
    | none => (readWord s off, s)
    | some v => (v, { s with shadows := mapErase s.shadows (halfKey rq (off - 4)) })

/-- What a read answers, and what it leaves (R3, R4, R6). -/
def readWindow (rq off : Nat) (sz : AccessSize) (s : State) : Nat × State :=
  let e := accessErr s off sz false
  if sz.bytes < 4 ∨ off % sz.bytes ≠ 0 then (0, recordError rq off e false s)
  else if sz.bytes = 4 then readOne rq off s
  else if isWide off then
    if e ≠ 0 then (0, recordError rq off e false s) else (readWord s off + 2 ^ 32 * readWord s (off + 4), dropHalves rq off s)
  else
    let lo := readOne rq off s
    let hi := readOne rq (off + 4) lo.2
    (lo.1 + 2 ^ 32 * hi.1, hi.2)

/-- A read, answered on the bus. -/
def windowRead (rq off : Nat) (sz : AccessSize) (s : State) : State :=
  let r := readWindow rq off sz s
  { r.2 with busData := r.1 }

/-! ### Writes -/

/-- Whether a write of a field is a command of its own in the table: REGISTER_WRITE leaves such a field as it stands, and that
command gives its effect. By the block's first instance, the offset within the instance and the field's first bit. -/
def ownWrite (base o lsb : Nat) : Bool :=
  if base = 0x1000000 then (decide (o = 0) && decide (lsb ≠ 10)) || decide (o = 8) || decide (o = 0x80)
  else if base = 0x3000000 ∨ base = 0x3200000 ∨ base = 0x3004000 ∨ base = 0x3204000 ∨ base = 0x1030000 ∨ base = 0x4000000
      ∨ base = 0x4800000 ∨ base = 0x5800000 then decide (o = 0) && decide (lsb = 0)
  else if base = 0x1010000 then (decide (o = 0) && (decide (lsb = 0) || decide (lsb = 2))) || decide (o = 0x604)
  else if base = 0x2010000 then
    decide (o = 0) || decide (o = 0x10) || decide (o = 0x14) || (decide (0x40 ≤ o) && decide (o < 0x300))
  else if base = 0x3008100 then
    (decide (o = 0) && decide (lsb = 0)) || decide (o = 0x10) || decide (o = 0x14) || decide (o = 0x1c) || decide (o = 0x20)
  else if base = 0x4010000 then decide (o = 0x2c)
  else if base = 0x7000000 then decide (o = 0x10)
  else if base = 0x7040000 then decide (o = 0x10) || decide (o = 0x14)
  else if base = 0x7080000 then decide (0x100 ≤ o) && decide (o < 0x800)
  else decide (base = 0) && decide (o = 0x40)

/-- A word written to a field under its access code (R2, R8 to R10); PWR.CTRL.REQ takes no invalid state (R521, R530). -/
def writePlace (w v : Nat) (p : Place) (s : State) : State :=
  match p.access with
  | .rw | .rwb | .rwl =>
    let x := p.fld.fromWord w (get s p.fld) v
    put p.fld (if p.fld = F.PWR_CTRL_REQ ∧ 4 < x then 0 else x) s
  | .w1c => put p.fld (get s p.fld - (get s p.fld &&& p.fld.fromWord w 0 v)) s
  | .ro | .wo | .w1s => s

/-- The event sources whose enables lie in the register at an offset (R531). -/
def enabledBy (off : Nat) : List Nat := (List.range 256).filter fun src => (owners src).any fun o => decide (o.2.1.off = off)

/-- What follows a write of a word: a pair takes a deadline together (R217), a cell's flags and enables show in LE.CELL_EVT (R223),
a head's speed and permits are judged again (R111, R153), an enable can raise a source (R531). -/
def afterWrite (old : State) (k : RegBlock) (off o : Nat) (s : State) : State :=
  let n := 32 * ((off - k.base) / 0x100000) + (off - k.base) % 0x100000 / 0x1000
  let h := (off - 0x1000000) / 0x40000
  let s1 := if 0x1000000 ≤ off ∧ off < 0x2000000 ∧ headInst s h = true then (if k.base = 0x1010000 then judgeSpeed h s else permits h s)
    else if k.base ≠ 0x2010000 then s
    else if o = 0x18 then putCells (pairOf s n) F.CELL_DEADLINE (get s (F.CELL_DEADLINE n)) s
    else if o = 8 ∨ o = 0xc then cellEvt n s
    else s
  forAll (enabledBy off) (fun src t => edge src (level old src) t) s1

/-- A word applied to the fields that have no command of their own (R2, R7). -/
def applyWord (off0 v : Nat) (s : State) : State :=
  let off := poolCanon off0
  match findBlock off with
  | none => s
  | some (k, _, o) =>
    afterWrite s k off o (((placesAt off).filter fun p => !ownWrite k.base (o + p.fld.off - off) p.fld.lsb).foldl
      (fun t p => writePlace off v p t) s)

/-- A 64-bit register written whole (R4): GLB.ACC_ERR clears by VALID (R27); a cell's state (R216), a calibration value (R460) and
any other register take both halves together. -/
def applyWide (reg lo hi : Nat) (s : State) : State :=
  let d := (reg - 0x2010000) % 0x100000
  if reg = 0x40 then (if bitOf hi 31 = 1 then clearError s else s)
  else if 0x2010000 ≤ reg ∧ reg < 0x3000000 ∧ 0x200 ≤ d % 0x1000 ∧ d % 0x1000 < 0x298 ∧ d < 0x20000 then
    stateWrite (32 * ((reg - 0x2010000) / 0x100000) + d / 0x1000) ((d % 0x1000 - 0x200) / 8) (lo % 2 ^ 32 + 2 ^ 32 * hi) s
  else if 0x7080100 ≤ reg ∧ reg < 0x7080220 then calValueWrite (2 + (reg - 0x7080100) / 8) lo (toSigned 16 hi) s
  else if reg = 0x7080300 then calValueWrite 1 lo (toSigned 16 hi) s
  else if reg = 0x7080308 then calValueWrite 0 lo (toSigned 16 hi) s
  else applyWord (reg + 4) hi (applyWord reg lo s)

/-- A 32-bit write of an aligned word (R3, R4, R7). -/
def writeOne (rq off v : Nat) (s : State) : State :=
  let e := accessErr s off .word true
  if e ≠ 0 then recordError rq off e true s
  else if !isWide off then applyWord off v s
  else if off % 8 = 0 then { s with held := mapPut s.held (halfKey rq off) (v % 2 ^ 32) }
  else
    applyWide (off - 4) ((heldOf s rq (off - 4)).getD (readWord s (off - 4))) v
      { s with held := mapErase s.held (halfKey rq (off - 4)) }

/-- A write of the window (R3, R4, R6). -/
def windowWrite (rq off : Nat) (sz : AccessSize) (v : Nat) (s : State) : State :=
  let e := accessErr s off sz true
  if sz.bytes < 4 ∨ off % sz.bytes ≠ 0 then recordError rq off e true s
  else if sz.bytes = 4 then writeOne rq off v s
  else if isWide off then
    if e ≠ 0 then recordError rq off e true s
    else applyWide off (v % 2 ^ 32) (v / 2 ^ 32 % 2 ^ 32) (dropHalves rq off s)
  else writeOne rq (off + 4) (v / 2 ^ 32 % 2 ^ 32) (writeOne rq off (v % 2 ^ 32) s)

/-- Whether an access, or one of the two words it spans, is faulty (R3, R6, R26). -/
def isFaulty (s : State) (off : Nat) (sz : AccessSize) (write : Bool) : Bool :=
  decide (accessErr s off sz write ≠ 0)
    || (decide (sz = .dword) && !isWide off && decide (accessErr s (off + 4) .word write ≠ 0))

/-- An offset within the 256 MiB of the window (R21). -/
def inSpace (off : Nat) : Bool := decide (off < 2 ^ 28)

/-! ### The commands -/

/-- An access that does not reach the register block (R5): a read answers zero, a write has no effect, nothing is recorded. -/
def turnedAway (write : Bool) (s : State) : State := if write then s else { s with busData := 0 }

/-- REGISTER_WRITE (R2). -/
def execRegisterWrite (rq off : Nat) (sz : AccessSize) (v : Nat) (s : State) : Out :=
  if inSpace off = false then .fault .outsideWindow
  else if reaches s rq = false then .next s
  else .next (windowWrite rq off sz v s)

/-- ACCESS_ERROR (R3, R26): an access with a fault. -/
def execAccessError (rq off : Nat) (sz : AccessSize) (write : Bool) (v : Nat) (s : State) : Out :=
  if inSpace off = false then .fault .outsideWindow
  else if reaches s rq = false then .next (turnedAway write s)
  else if isFaulty s off sz write = false then .next s
  else .next (if write then windowWrite rq off sz v s else windowRead rq off sz s)

/-- LOW_HALF_READ of the 64-bit register at `reg` (R4). -/
def execLowHalfRead (rq reg : Nat) (s : State) : Out :=
  if inSpace reg = false then .fault .outsideWindow
  else if reaches s rq = false then .next (turnedAway false s)
  else .next (windowRead rq reg .word s)

/-- HIGH_HALF_READ of the 64-bit register at `reg` (R4). -/
def execHighHalfRead (rq reg : Nat) (s : State) : Out :=
  if inSpace (reg + 4) = false then .fault .outsideWindow
  else if reaches s rq = false then .next (turnedAway false s)
  else .next (windowRead rq (reg + 4) .word s)

/-- LOW_HALF_WRITE of the 64-bit register at `reg` (R4). -/
def execLowHalfWrite (rq reg v : Nat) (s : State) : Out :=
  if inSpace reg = false then .fault .outsideWindow
  else if reaches s rq = false then .next s
  else .next (windowWrite rq reg .word v s)

/-- HIGH_HALF_WRITE of the 64-bit register at `reg` (R4). -/
def execHighHalfWrite (rq reg v : Nat) (s : State) : Out :=
  if inSpace (reg + 4) = false then .fault .outsideWindow
  else if reaches s rq = false then .next s
  else .next (windowWrite rq (reg + 4) .word v s)

/-- FULL_64_BIT_ACCESS (R4): a write, or a read. -/
def execFull64BitAccess (rq reg : Nat) (write : Bool) (v : Nat) (s : State) : Out :=
  if inSpace reg = false then .fault .outsideWindow
  else if reaches s rq = false then .next (turnedAway write s)
  else .next (if write then windowWrite rq reg .dword v s else windowRead rq reg .dword s)

/-- DEBUG_PORT_WINDOW_ACCESS (R5): without full access a read returns zero, a write has no effect and nothing is recorded. -/
def execDebugPortWindowAccess (off : Nat) (sz : AccessSize) (write : Bool) (v : Nat) (s : State) : Out :=
  if isSet s F.FUS_STATUS_DEBUG_ACTIVE = false then .next (turnedAway write s)
  else if inSpace off = false then .fault .outsideWindow
  else .next (if write then windowWrite 9 off sz v s else windowRead 9 off sz s)

/-- ACC_ERR_CLEAR (R26, R27). -/
def execAccErrClear (s : State) : Out := .next (clearError s)

/-- The RWB fields that a boundary of a unit takes, beside the calibration values (R10 and the field's own chapter). -/
def boundaryFields (k : Boundary) (i : Nat) : List Fld :=
  match k with
  | .pwmPeriod =>
    if i < 32 then [F.BL_DEADTIME i, F.BL_OC_TRIP i, F.MOT_CUR_KP i, F.MOT_CUR_KI i, F.MOT_SHUNT_SETTLE i, F.MOT_SHUNT_WIN_MIN i]
    else [F.BL_DEADTIME i, F.BL_OC_TRIP i, F.CMOT_CUR_KP (i - 32), F.CMOT_CUR_KI (i - 32)]
  | .superframe => [F.CH_WPLL_CFG_BW i, F.CH_WPLL_CFG_HOLD_MAX i, F.CH_WPLL_CFG_AMP_MIN i]
  | .servoSample => [F.SV_OFFSET_TRACK_OFS i, F.SV_OFFSET_FOCUS_OFS i]
  | .slotStart => [F.CH_ACQ_FAST_GAIN i, F.CH_ACQ_TRACK_GAIN i, F.CH_SYNC_SM_THR i, F.CH_SYNC_RM_THR i]
  | .codeword => [F.CH_EQ_CFG_MU i, F.CH_EQ_CFG_MSE_MAX i, F.CH_DROP_CFG_LO i, F.CH_DROP_CFG_HI i, F.CH_DROP_CFG_SET_LEN i,
      F.CH_DROP_CFG_CLR_LEN i, F.CH_ERASE_CFG_EXT i, F.CH_ERASE_CFG_ERASE_MAX i]
  | .attempt => [F.CH_LDPC_CFG_ITER0 i, F.CH_LDPC_CFG_ITER1 i, F.CH_LDPC_CFG_STALL i, F.CH_LDPC_CFG_ALPHA i]
  | .extent => [F.WRP_EXTENT_EXT_BANDS i]
  | .chopper => [F.MOV_CHOP_T_OFF i, F.MOV_CHOP_FAST_RISE i, F.MOV_CHOP_FAST_FALL i, F.MOV_CHOP_T_BLANK i, F.MOV_CHOP_T_ON_MAX i]
  | .sensorSample | .huSense | .idle => []

/-- The calibration items, numbered as R462 numbers its entries, that a boundary of a unit takes (R464). -/
def boundaryItem (k : Boundary) (i item : Nat) : Bool :=
  match k with
  | .pwmPeriod => decide (item = 2 + i)
  | .superframe => decide (item = 103 + i)
  | .sensorSample => decide (38 ≤ item) && decide (item < 103)
  | .huSense => decide (item = 1)
  | .idle => decide (item = 0)
  | _ => false

/-- Whether the unit of a boundary exists. -/
def boundaryUnit (s : State) (k : Boundary) (i : Nat) : Bool :=
  match k with
  | .pwmPeriod => if i < 32 then bayInst s i else carInst s (i - 32)
  | .chopper => bayInst s i
  | .sensorSample | .huSense => true
  | .idle => decide (s.cal.job = none)
  | _ => headInst s i

/-- RWB_BOUNDARY (R10): a boundary of one unit, which is a head, a bay, or a carousel as 32 + c; the unit blocks reach their
boundaries within their own events as well. -/
def execRwbBoundary (k : Boundary) (unit : Nat) (s : State) : Out :=
  if boundaryUnit s k unit = false then .next s
  else .next (takeCal (boundaryItem k unit) (takeForces (boundaryFields k unit) s))

/-! ### The control tree -/

/-- Two operations meet at a node: one's arbour lies at or below the other's. -/
def treeMeet (s : State) (a b : Nat) : Bool := below s a b || below s b a

/-- An operation ends, as completed or with a reset status. -/
def treeEnd (op : TreeOp) (reset : Bool) (s : State) : State := { s with treeDone := (op, reset) :: s.treeDone }

/-- A broadcast or an epoch switch that nothing holds up is carried out (R16, R17, R293). -/
def treeDeliver (op : TreeOp) (s : State) : State := treeEnd op false (if op.kind = .epoch then switchEpoch true s else s)

/-- The nodes serialise what reaches them (R17): in order of arrival, an operation is carried out unless an earlier one that it
meets still waits; a barrier waits for its participants. -/
def treeRun : List TreeOp → List TreeOp → State → State
  | kept, [], s => { s with tree := kept }
  | kept, op :: rest, s =>
    if op.kind = .barrier ∨ (kept.any fun x => treeMeet s x.arbour op.arbour) = true then treeRun (kept ++ [op]) rest s
    else treeRun kept rest (treeDeliver op s)

/-- An operation arrives at the control tree. -/
def treeIssue (k : TreeKind) (a : Nat) (s : State) : State :=
  if arbInst s a then treeRun [] (s.tree ++ [⟨k, a⟩]) s else s

/-- BARRIER (R16, R17). -/
def execBarrier (a : Nat) (s : State) : Out := .next (treeIssue .barrier a s)

/-- BARRIER_COMPLETE (R17): the barrier of an arbour has all its participants, and is the first to wait among those it meets. -/
def execBarrierComplete (a : Nat) (s : State) : Out :=
  match s.tree.find? fun x => treeMeet s x.arbour a with
  | none => .next s
  | some x => if x = ⟨.barrier, a⟩ then .next (treeRun [] (s.tree.erase x) (treeEnd x false s)) else .next s

/-- BROADCAST (R16, R17). -/
def execBroadcast (a : Nat) (s : State) : Out := .next (treeIssue .broadcast a s)

/-- SNAPSHOT_EPOCH_SWITCH (R16, R17, R293): the epoch is one register of the whole library, so no subtree is left behind. -/
def execSnapshotEpochSwitch (a : Nat) (s : State) : Out := .next (treeIssue .epoch a s)

/-- A head's blocks at reset, with what its link, servo, channel and write session held (R22, R522). -/
def resetHead (h : Nat) (s : State) : State :=
  let lo := 0x1000000 + h * 0x40000
  let q := h / 4
  let gone (l : List Job) : List Job := l.filter fun j => decide (j.head ≠ h)
  let drop (p : Pool) : Pool :=
    { p with queue := gone p.queue, soft := gone p.soft, late := gone p.late, busy := p.busy.filter fun b => decide (b.job.head ≠ h) }
  let s1 := updPool (q ^^^ 1) drop (updPool q drop s)
  poolDepth (q ^^^ 1) (poolDepth q (enginesReset h (get s (F.CH_POOL_STATUS_ENGINES (4 * q))) (get s (F.CH_POOL_FAULT (4 * q)))
    (get s (F.CH_POOL_FENCE (4 * q))) (updHead h (fun _ => {}) (resetWindow lo (lo + 0x40000) s1))))

/-- A bay's controller at reset; a disc at its spindle stays there, not mounted (R22, R522). -/
def resetBay (b : Nat) (s : State) : State :=
  let lo := 0x3000000 + b * 0x10000
  let m := mountOf s b
  let at' := decide (3 ≤ m.phase) && decide (m.phase ≤ 6)
  let s1 := resetWindow lo (lo + 0x10000) { s with
    buses := mapErase s.buses b, spindles := mapErase s.spindles b, axes := mapEraseRange s.axes (4 * b) (4 * b + 4),
    lib := { s.lib with mounts := if at' then mapPut s.lib.mounts b { m with phase := 3 } else mapErase s.lib.mounts b } }
  resetHead (2 * b + 1) (resetHead (2 * b) s1)

/-- A carousel's controller at reset. -/
def resetCarousel (c : Nat) (s : State) : State :=
  let lo := 0x3200000 + c * 0x10000
  resetWindow lo (lo + 0x10000) { s with buses := mapErase s.buses (32 + c), carousels := mapErase s.carousels c }

/-- The electrical reset of the units below an arbour (R17, R522): operations that wait at the nodes it reaches end for the
subtree; the reset kind is 5 (R529). -/
def subtreeReset (a : Nat) (s : State) : State :=
  let s1 := forAll ((leavesBelow s a).map (leafCar s)) resetCarousel (forAll (baysBelow s a) resetBay s)
  let hit := s1.tree.filter fun x => decide (x.kind = .barrier) && treeMeet s1 x.arbour a
  let s2 := hit.foldl (fun t x => treeEnd x true t) s1
  put F.PWR_RESET_CAUSE_KIND 5 (treeRun [] (s2.tree.filter fun x => decide (x ∉ hit)) s2)

/-- SUBTREE_RESET (R17, R522). -/
def execSubtreeReset (a : Nat) (s : State) : Out := .next (when (arbInst s a) (subtreeReset a) s)

/-- The mechanism of a subtree is parked: lenses retracted, spindles stopped, steppers and the carousel's inverter off. -/
def parkSubtree (a : Nat) (s : State) : State :=
  let s1 := forAll (baysBelow s a) (fun b t =>
    stepperOff b (stopSpindle b (forAll [2 * b, 2 * b + 1] (fun h u => retractHead h 0 u) t))) s
  forAll ((leavesBelow s a).map (leafCar s)) (fun c t => carouselOff c 0 t) s1

/-- SUBTREE_RESET_MECHANICAL (R16, R17): the mechanism is parked and its units are reset. -/
def execSubtreeResetMechanical (a : Nat) (s : State) : Out := .next (when (arbInst s a) (fun t => subtreeReset a (parkSubtree a t)) s)

end Sys2Proof.Machine
end

