-- ==== Sys2Proof/Machine/Dispatch.lean ====
section
/-! DEFINITION. One arm for each constructor of Instr. -/

namespace Sys2Proof.Machine

def exec (i : Instr) (s : State) : Host.Outcome State Fault Refusal :=
  match i with
  | .registerWrite rq off sz v => Sys2Proof.Machine.execRegisterWrite rq off sz v s
  | .accessError rq off sz write v => Sys2Proof.Machine.execAccessError rq off sz write v s
  | .lowHalfRead rq reg => Sys2Proof.Machine.execLowHalfRead rq reg s
  | .highHalfRead rq reg => Sys2Proof.Machine.execHighHalfRead rq reg s
  | .lowHalfWrite rq reg v => Sys2Proof.Machine.execLowHalfWrite rq reg v s
  | .highHalfWrite rq reg v => Sys2Proof.Machine.execHighHalfWrite rq reg v s
  | .full64BitAccess rq reg write v => Sys2Proof.Machine.execFull64BitAccess rq reg write v s
  | .debugPortWindowAccess off sz write v => Sys2Proof.Machine.execDebugPortWindowAccess off sz write v s
  | .accErrClear => Sys2Proof.Machine.execAccErrClear s
  | .rwbBoundary k unit => Sys2Proof.Machine.execRwbBoundary k unit s
  | .barrier a => Sys2Proof.Machine.execBarrier a s
  | .barrierComplete a => Sys2Proof.Machine.execBarrierComplete a s
  | .broadcast a => Sys2Proof.Machine.execBroadcast a s
  | .snapshotEpochSwitch a => Sys2Proof.Machine.execSnapshotEpochSwitch a s
  | .subtreeReset a => Sys2Proof.Machine.execSubtreeReset a s
  | .subtreeResetMechanical a => Sys2Proof.Machine.execSubtreeResetMechanical a s
  | .servoTick ncos => Sys2Proof.Machine.execServoTick ncos s
  | .upstreamSuperframe h lane syms => Sys2Proof.Machine.execUpstreamSuperframe h lane syms s
  | .markerLoss h lane => Sys2Proof.Machine.execMarkerLoss h lane s
  | .servoBlock h times => Sys2Proof.Machine.execServoBlock h times s
  | .servoMiss h => Sys2Proof.Machine.execServoMiss h s
  | .sampleCodeword h lane k => Sys2Proof.Machine.execSampleCodeword h lane k s
  | .messageCodeword h lane k => Sys2Proof.Machine.execMessageCodeword h lane k s
  | .ack h => Sys2Proof.Machine.execAck h s
  | .ident h => Sys2Proof.Machine.execIdent h s
  | .event h => Sys2Proof.Machine.execEvent h s
  | .pong h => Sys2Proof.Machine.execPong h s
  | .firmwareMessage h => Sys2Proof.Machine.execFirmwareMessage h s
  | .unknownMessage h => Sys2Proof.Machine.execUnknownMessage h s
  | .messageRetransmit h => Sys2Proof.Machine.execMessageRetransmit h s
  | .msgFail h => Sys2Proof.Machine.execMsgFail h s
  | .laneFault h lane => Sys2Proof.Machine.execLaneFault h lane s
  | .laneMapSwitch h => Sys2Proof.Machine.execLaneMapSwitch h s
  | .hlEnable h en => Sys2Proof.Machine.execHlEnable h en s
  | .hlTrain h => Sys2Proof.Machine.execHlTrain h s
  | .laserPermit h v => Sys2Proof.Machine.execLaserPermit h v s
  | .hlClrCnt h => Sys2Proof.Machine.execHlClrCnt h s
  | .degrGroup h group => Sys2Proof.Machine.execDegrGroup h group s
  | .hlAdcWrite h rate fmt => Sys2Proof.Machine.execHlAdcWrite h rate fmt s
  | .prbsSeen h bits => Sys2Proof.Machine.execPrbsSeen h bits s
  | .lanesQualified h errs => Sys2Proof.Machine.execLanesQualified h errs s
  | .alignLocked h skews => Sys2Proof.Machine.execAlignLocked h skews s
  | .identConfigInForce h => Sys2Proof.Machine.execIdentConfigInForce h s
  | .trainingTimeout h => Sys2Proof.Machine.execTrainingTimeout h s
  | .mboxSend h => Sys2Proof.Machine.execMboxSend h s
  | .mboxRxClear h => Sys2Proof.Machine.execMboxRxClear h s
  | .mboxStall h => Sys2Proof.Machine.execMboxStall h s
  | .pwmPeriod => Sys2Proof.Machine.execPwmPeriod s
  | .bayHeader l chars viol rtt => Sys2Proof.Machine.execBayHeader l chars viol rtt s
  | .baySample l chars viol late m => Sys2Proof.Machine.execBaySample l chars viol late m s
  | .bayIdent l chars viol => Sys2Proof.Machine.execBayIdent l chars viol s
  | .bayLinkUp l => Sys2Proof.Machine.execBayLinkUp l s
  | .bayLinkDown l => Sys2Proof.Machine.execBayLinkDown l s
  | .bayTrainingRestart l => Sys2Proof.Machine.execBayTrainingRestart l s
  | .blEnable l en => Sys2Proof.Machine.execBlEnable l en s
  | .blRetrain l => Sys2Proof.Machine.execBlRetrain l s
  | .blClrCnt l => Sys2Proof.Machine.execBlClrCnt l s
  | .comparatorTrip b d nd ns => Sys2Proof.Machine.execComparatorTrip b d nd ns s
  | .overcurrent l d nd => Sys2Proof.Machine.execOvercurrent l d nd s
  | .inputEdge l d nd => Sys2Proof.Machine.execInputEdge l d nd s
  | .addressUnit h w rms worst => Sys2Proof.Machine.execAddressUnit h w rms worst s
  | .wpllAcquire h a0 a1 => Sys2Proof.Machine.execWpllAcquire h a0 a1 s
  | .wpllLock h rms => Sys2Proof.Machine.execWpllLock h rms s
  | .wpllHold h a0 a1 => Sys2Proof.Machine.execWpllHold h a0 a1 s
  | .wpllHoldReturn h a0 a1 err => Sys2Proof.Machine.execWpllHoldReturn h a0 a1 err s
  | .wpllLost h periods rms => Sys2Proof.Machine.execWpllLost h periods rms s
  | .seam h beam => Sys2Proof.Machine.execSeam h beam s
  | .slotOpen h beam => Sys2Proof.Machine.execSlotOpen h beam s
  | .slotBlank h beam envelope => Sys2Proof.Machine.execSlotBlank h beam envelope s
  | .smWindowClose h beam phase trim decs => Sys2Proof.Machine.execSmWindowClose h beam phase trim decs s
  | .resyncMark h beam j phase trim decs => Sys2Proof.Machine.execResyncMark h beam j phase trim decs s
  | .postambleEnd h beam => Sys2Proof.Machine.execPostambleEnd h beam s
  | .fretCrossingAdcCfg h => Sys2Proof.Machine.execFretCrossingAdcCfg h s
  | .adcCfgInForce h => Sys2Proof.Machine.execAdcCfgInForce h s
  | .chEnable h en => Sys2Proof.Machine.execChEnable h en s
  | .chReadEn h en => Sys2Proof.Machine.execChReadEn h en s
  | .chClrCnt h => Sys2Proof.Machine.execChClrCnt h s
  | .codewordDetect h addr ix sigs => Sys2Proof.Machine.execCodewordDetect h addr ix sigs s
  | .decodeAttemptStart q e => Sys2Proof.Machine.execDecodeAttemptStart q e s
  | .decodeAttemptEnd q e ran => Sys2Proof.Machine.execDecodeAttemptEnd q e ran s
  | .engineFault q e => Sys2Proof.Machine.execEngineFault q e s
  | .poolFenceWrite h v => Sys2Proof.Machine.execPoolFenceWrite h v s
  | .ladderStart h cls ended => Sys2Proof.Machine.execLadderStart h cls ended s
  | .retryRevolution h => Sys2Proof.Machine.execRetryRevolution h s
  | .detClrCnt h => Sys2Proof.Machine.execDetClrCnt h s
  | .extentRequest h hd layer fret first bands => Sys2Proof.Machine.execExtentRequest h hd layer fret first bands s
  | .calibrationPassEnd h mses => Sys2Proof.Machine.execCalibrationPassEnd h mses s
  | .extentBandsWritten h => Sys2Proof.Machine.execExtentBandsWritten h s
  | .verifyDone h => Sys2Proof.Machine.execVerifyDone h s
  | .spareWriteRevolution h => Sys2Proof.Machine.execSpareWriteRevolution h s
  | .spareVerifyDone h => Sys2Proof.Machine.execSpareVerifyDone h s
  | .gateClosure h => Sys2Proof.Machine.execGateClosure h s
  | .gateReopen h => Sys2Proof.Machine.execGateReopen h s
  | .writeHalted h => Sys2Proof.Machine.execWriteHalted h s
  | .underrun h addr cw => Sys2Proof.Machine.execUnderrun h addr cw s
  | .calForce h => Sys2Proof.Machine.execCalForce h s
  | .wrpClrCnt h => Sys2Proof.Machine.execWrpClrCnt h s
  | .defectHold h => Sys2Proof.Machine.execDefectHold h s
  | .defectHoldEnd h => Sys2Proof.Machine.execDefectHoldEnd h s
  | .defectLong h => Sys2Proof.Machine.execDefectLong h s
  | .focusLost h => Sys2Proof.Machine.execFocusLost h s
  | .offtrackEpisode h => Sys2Proof.Machine.execOfftrackEpisode h s
  | .offtrackEpisodeEnd h => Sys2Proof.Machine.execOfftrackEpisodeEnd h s
  | .missLimit h => Sys2Proof.Machine.execMissLimit h s
  | .seek h band layer => Sys2Proof.Machine.execSeek h band layer s
  | .layerJumpFocusClose h => Sys2Proof.Machine.execLayerJumpFocusClose h s
  | .seekTargetCrossing h => Sys2Proof.Machine.execSeekTargetCrossing h s
  | .seekFail h => Sys2Proof.Machine.execSeekFail h s
  | .holdBand h band layer slots => Sys2Proof.Machine.execHoldBand h band layer slots s
  | .seamJump h => Sys2Proof.Machine.execSeamJump h s
  | .enter h band layer => Sys2Proof.Machine.execEnter h band layer s
  | .svFollow h => Sys2Proof.Machine.execSvFollow h s
  | .pullin h layer cal => Sys2Proof.Machine.execPullin h layer cal s
  | .focusCapture h => Sys2Proof.Machine.execFocusCapture h s
  | .pullTimeout h => Sys2Proof.Machine.execPullTimeout h s
  | .trackingCapture h => Sys2Proof.Machine.execTrackingCapture h s
  | .retract h => Sys2Proof.Machine.execRetract h s
  | .retractComplete h => Sys2Proof.Machine.execRetractComplete h s
  | .svCmdErr h op => Sys2Proof.Machine.execSvCmdErr h op s
  | .lensRange h => Sys2Proof.Machine.execLensRange h s
  | .svEnable h en => Sys2Proof.Machine.execSvEnable h en s
  | .svClrCnt h => Sys2Proof.Machine.execSvClrCnt h s
  | .cellBoundary n => Sys2Proof.Machine.execCellBoundary n s
  | .cellEvaluate n => Sys2Proof.Machine.execCellEvaluate n s
  | .cellMiss n => Sys2Proof.Machine.execCellMiss n s
  | .coefficientWrite n coef v => Sys2Proof.Machine.execCoefficientWrite n coef v s
  | .stateWrite n reg v => Sys2Proof.Machine.execStateWrite n reg v s
  | .capoSet n => Sys2Proof.Machine.execCapoSet n s
  | .capoClr n => Sys2Proof.Machine.execCapoClr n s
  | .clrState n => Sys2Proof.Machine.execClrState n s
  | .cellClrCnt n => Sys2Proof.Machine.execCellClrCnt n s
  | .cellEnable n en => Sys2Proof.Machine.execCellEnable n en s
  | .cellConfigWrite n ctrl => Sys2Proof.Machine.execCellConfigWrite n ctrl s
  | .cellSrcWrite n sp code => Sys2Proof.Machine.execCellSrcWrite n sp code s
  | .tileFault t cause cell => Sys2Proof.Machine.execTileFault t cause cell s
  | .tileReset t => Sys2Proof.Machine.execTileReset t s
  | .tileSelfTestPass t => Sys2Proof.Machine.execTileSelfTestPass t s
  | .leClrCnt t => Sys2Proof.Machine.execLeClrCnt t s
  | .observerLoss b cause => Sys2Proof.Machine.execObserverLoss b cause s
  | .recapture b => Sys2Proof.Machine.execRecapture b s
  | .confirmEnd b => Sys2Proof.Machine.execConfirmEnd b s
  | .catchFail b => Sys2Proof.Machine.execCatchFail b s
  | .coastEnd b => Sys2Proof.Machine.execCoastEnd b s
  | .brakeEnd b => Sys2Proof.Machine.execBrakeEnd b s
  | .alignEnd b => Sys2Proof.Machine.execAlignEnd b s
  | .spindleHandover b => Sys2Proof.Machine.execSpindleHandover b s
  | .rampFail b => Sys2Proof.Machine.execRampFail b s
  | .speedLock b => Sys2Proof.Machine.execSpeedLock b s
  | .stopDecelEnd b => Sys2Proof.Machine.execStopDecelEnd b s
  | .setSpeed b => Sys2Proof.Machine.execSetSpeed b s
  | .spindleStop b => Sys2Proof.Machine.execSpindleStop b s
  | .spindleCoast b => Sys2Proof.Machine.execSpindleCoast b s
  | .motClearFault b => Sys2Proof.Machine.execMotClearFault b s
  | .motCmdRefused b op => Sys2Proof.Machine.execMotCmdRefused b op s
  | .motEnable b en => Sys2Proof.Machine.execMotEnable b en s
  | .motClrCnt b => Sys2Proof.Machine.execMotClrCnt b s
  | .chopperFault c => Sys2Proof.Machine.execChopperFault c s
  | .chopFaultClr c => Sys2Proof.Machine.execChopFaultClr c s
  | .ovClr c => Sys2Proof.Machine.execOvClr c s
  | .carouselEnable c en => Sys2Proof.Machine.execCarouselEnable c en s
  | .carouselAlignDone c => Sys2Proof.Machine.execCarouselAlignDone c s
  | .carouselMove c => Sys2Proof.Machine.execCarouselMove c s
  | .carouselStop c => Sys2Proof.Machine.execCarouselStop c s
  | .carouselHome c => Sys2Proof.Machine.execCarouselHome c s
  | .carouselRelease c => Sys2Proof.Machine.execCarouselRelease c s
  | .carouselCmdRefused c op dir => Sys2Proof.Machine.execCarouselCmdRefused c op dir s
  | .homeEdge c => Sys2Proof.Machine.execHomeEdge c s
  | .homeFail c => Sys2Proof.Machine.execHomeFail c s
  | .moveDone c => Sys2Proof.Machine.execMoveDone c s
  | .followErr c => Sys2Proof.Machine.execFollowErr c s
  | .reversalStart c => Sys2Proof.Machine.execReversalStart c s
  | .interlock c => Sys2Proof.Machine.execInterlock c s
  | .interlockClear c => Sys2Proof.Machine.execInterlockClear c s
  | .cmotClrCnt c => Sys2Proof.Machine.execCmotClrCnt c s
  | .stepInstant b ax => Sys2Proof.Machine.execStepInstant b ax s
  | .offTimeEnd b ax phB => Sys2Proof.Machine.execOffTimeEnd b ax phB s
  | .fastDecayEnd b ax phB => Sys2Proof.Machine.execFastDecayEnd b ax phB s
  | .tOnMaxExpiry b ax phB => Sys2Proof.Machine.execTOnMaxExpiry b ax phB s
  | .holdCurrent b ax => Sys2Proof.Machine.execHoldCurrent b ax s
  | .axisMove b ax => Sys2Proof.Machine.execAxisMove b ax s
  | .axisStop b ax => Sys2Proof.Machine.execAxisStop b ax s
  | .axisHome b ax => Sys2Proof.Machine.execAxisHome b ax s
  | .axisFollow b ax => Sys2Proof.Machine.execAxisFollow b ax s
  | .axisRelease b ax => Sys2Proof.Machine.execAxisRelease b ax s
  | .axisClearFault b ax => Sys2Proof.Machine.execAxisClearFault b ax s
  | .axisCmdRefused b ax op => Sys2Proof.Machine.execAxisCmdRefused b ax op s
  | .axisEnable b ax en => Sys2Proof.Machine.execAxisEnable b ax en s
  | .softLimitWrite b ax upper value => Sys2Proof.Machine.execSoftLimitWrite b ax upper value s
  | .accDecWrite b ax acc dec => Sys2Proof.Machine.execAccDecWrite b ax acc dec s
  | .vmaxWrite b ax v => Sys2Proof.Machine.execVmaxWrite b ax v s
  | .movClrCnt b => Sys2Proof.Machine.execMovClrCnt b s
  | .inputDebounced l ix => Sys2Proof.Machine.execInputDebounced l ix s
  | .chatter b ix => Sys2Proof.Machine.execChatter b ix s
  | .chatterEnd b ix => Sys2Proof.Machine.execChatterEnd b ix s
  | .stuckInput b ix => Sys2Proof.Machine.execStuckInput b ix s
  | .stall b ax => Sys2Proof.Machine.execStall b ax s
  | .homingFail b ax => Sys2Proof.Machine.execHomingFail b ax s
  | .mount d => Sys2Proof.Machine.execMount d s
  | .mountPhaseEnd b ok areas => Sys2Proof.Machine.execMountPhaseEnd b ok areas s
  | .dismount b => Sys2Proof.Machine.execDismount b s
  | .mountHoldExpiry b => Sys2Proof.Machine.execMountHoldExpiry b s
  | .remapTableBuild d layer spares => Sys2Proof.Machine.execRemapTableBuild d layer spares s
  | .descriptorGeneration d => Sys2Proof.Machine.execDescriptorGeneration d s
  | .setFormation a slot => Sys2Proof.Machine.execSetFormation a slot s
  | .rowSeal stream hd cause => Sys2Proof.Machine.execRowSeal stream hd cause s
  | .writeSessionDue hd => Sys2Proof.Machine.execWriteSessionDue hd s
  | .writeSessionEnd hd => Sys2Proof.Machine.execWriteSessionEnd hd s
  | .mapCheckpoint => Sys2Proof.Machine.execMapCheckpoint s
  | .checkpointWritten d1 d2 => Sys2Proof.Machine.execCheckpointWritten d1 d2 s
  | .drainCreditGrant => Sys2Proof.Machine.execDrainCreditGrant s
  | .consolidationStart hd => Sys2Proof.Machine.execConsolidationStart hd s
  | .setRetire hd => Sys2Proof.Machine.execSetRetire hd s
  | .arbEnable v => Sys2Proof.Machine.execArbEnable v s
  | .arbClrCnt => Sys2Proof.Machine.execArbClrCnt s
  | .arbourDrain a v => Sys2Proof.Machine.execArbourDrain a v s
  | .arbourOffline a v => Sys2Proof.Machine.execArbourOffline a v s
  | .reconstruction hd r m => Sys2Proof.Machine.execReconstruction hd r m s
  | .memberFailed hd m kind => Sys2Proof.Machine.execMemberFailed hd m kind s
  | .rebuildSlotGroup ix => Sys2Proof.Machine.execRebuildSlotGroup ix s
  | .rebuildMemberDone ix => Sys2Proof.Machine.execRebuildMemberDone ix s
  | .reshapeCursorAdvance j => Sys2Proof.Machine.execReshapeCursorAdvance j s
  | .reshapeDone j => Sys2Proof.Machine.execReshapeDone j s
  | .failMember hd m => Sys2Proof.Machine.execFailMember hd m s
  | .reshape hd => Sys2Proof.Machine.execReshape hd s
  | .cancelReshape ctx => Sys2Proof.Machine.execCancelReshape ctx s
  | .parCmdRefused op => Sys2Proof.Machine.execParCmdRefused op s
  | .parEnable v => Sys2Proof.Machine.execParEnable v s
  | .parClrCnt => Sys2Proof.Machine.execParClrCnt s
  | .bufferRead req pair ba alt errP errM => Sys2Proof.Machine.execBufferRead req pair ba alt errP errM s
  | .bufferWrite req pair ba data errP errM => Sys2Proof.Machine.execBufferWrite req pair ba data errP errM s
  | .channelFault ch cause => Sys2Proof.Machine.execChannelFault ch cause s
  | .channelOffline ch => Sys2Proof.Machine.execChannelOffline ch s
  | .channelRetrain ch => Sys2Proof.Machine.execChannelRetrain ch s
  | .resyncDone ch => Sys2Proof.Machine.execResyncDone ch s
  | .scrubRead errP errM => Sys2Proof.Machine.execScrubRead errP errM s
  | .clearDone => Sys2Proof.Machine.execClearDone s
  | .release page => Sys2Proof.Machine.execRelease page s
  | .bufCmdRefused page op => Sys2Proof.Machine.execBufCmdRefused page op s
  | .writeRaw => Sys2Proof.Machine.execWriteRaw s
  | .readRaw => Sys2Proof.Machine.execReadRaw s
  | .diagRead => Sys2Proof.Machine.execDiagRead s
  | .diagReserved => Sys2Proof.Machine.execDiagReserved s
  | .bufClrCnt => Sys2Proof.Machine.execBufClrCnt s
  | .mapCacheAccess req pair ba write alt errP errM => Sys2Proof.Machine.execMapCacheAccess req pair ba write alt errP errM s
  | .mapCacheFill slice alt errP errM => Sys2Proof.Machine.execMapCacheFill slice alt errP errM s
  | .mapCacheEnable => Sys2Proof.Machine.execMapCacheEnable s
  | .mapCacheDisable => Sys2Proof.Machine.execMapCacheDisable s
  | .drainDone => Sys2Proof.Machine.execDrainDone s
  | .maintClean => Sys2Proof.Machine.execMaintClean s
  | .maintInvalidate => Sys2Proof.Machine.execMaintInvalidate s
  | .maintCleanAll => Sys2Proof.Machine.execMaintCleanAll s
  | .maintReserved => Sys2Proof.Machine.execMaintReserved s
  | .maintDone => Sys2Proof.Machine.execMaintDone s
  | .sramError slice la kind => Sys2Proof.Machine.execSramError slice la kind s
  | .mapClrCnt => Sys2Proof.Machine.execMapClrCnt s
  | .submissionDoorbell fn qid tail => Sys2Proof.Machine.execSubmissionDoorbell fn qid tail s
  | .commandFetch => Sys2Proof.Machine.execCommandFetch s
  | .submissionEntryArrival fn qid cid opc nsid cdw10 cdw11 cdw12 cdw13 => Sys2Proof.Machine.execSubmissionEntryArrival fn qid cid opc nsid cdw10 cdw11 cdw12 cdw13 s
  | .read stamp => Sys2Proof.Machine.execRead stamp s
  | .readResolve stamp => Sys2Proof.Machine.execReadResolve stamp s
  | .readTransferDone stamp => Sys2Proof.Machine.execReadTransferDone stamp s
  | .write stamp => Sys2Proof.Machine.execWrite stamp s
  | .writeDataReceived stamp data => Sys2Proof.Machine.execWriteDataReceived stamp data s
  | .writeAdmission stamp => Sys2Proof.Machine.execWriteAdmission stamp s
  | .writeZeroes stamp => Sys2Proof.Machine.execWriteZeroes stamp s
  | .datasetManagement stamp ranges => Sys2Proof.Machine.execDatasetManagement stamp ranges s
  | .flush stamp => Sys2Proof.Machine.execFlush stamp s
  | .flushComplete stamp => Sys2Proof.Machine.execFlushComplete stamp s
  | .verify stamp => Sys2Proof.Machine.execVerify stamp s
  | .recall stamp ranges => Sys2Proof.Machine.execRecall stamp ranges s
  | .stagedBlockRelease hd lbk => Sys2Proof.Machine.execStagedBlockRelease hd lbk s
  | .invalidOpcode fn qid cid opc => Sys2Proof.Machine.execInvalidOpcode fn qid cid opc s
  | .dataTransferError stamp => Sys2Proof.Machine.execDataTransferError stamp s
  | .createIoSq fn cid qid size cqid prio => Sys2Proof.Machine.execCreateIoSq fn cid qid size cqid prio s
  | .createIoCq fn cid qid size vector => Sys2Proof.Machine.execCreateIoCq fn cid qid size vector s
  | .deleteIoSq fn cid qid => Sys2Proof.Machine.execDeleteIoSq fn cid qid s
  | .deleteIoCq fn cid qid => Sys2Proof.Machine.execDeleteIoCq fn cid qid s
  | .identify fn cid cns nsid cntid => Sys2Proof.Machine.execIdentify fn cid cns nsid cntid s
  | .getLogPage fn cid lid lpo dwords rae => Sys2Proof.Machine.execGetLogPage fn cid lid lpo dwords rae s
  | .getLogPageDumpClear fn cid lpo dwords => Sys2Proof.Machine.execGetLogPageDumpClear fn cid lpo dwords s
  | .abort fn cid sqid acid => Sys2Proof.Machine.execAbort fn cid sqid acid s
  | .setFeatures fn cid fid v save => Sys2Proof.Machine.execSetFeatures fn cid fid v save s
  | .setFeaturesStampReporting fn cid on => Sys2Proof.Machine.execSetFeaturesStampReporting fn cid on s
  | .setFeaturesPowerLoss fn cid pDump eReserve => Sys2Proof.Machine.execSetFeaturesPowerLoss fn cid pDump eReserve s
  | .setFeaturesThermalGrace fn cid ms => Sys2Proof.Machine.execSetFeaturesThermalGrace fn cid ms s
  | .setFeaturesRecallQuota fn cid gib => Sys2Proof.Machine.execSetFeaturesRecallQuota fn cid gib s
  | .setFeaturesHctm fn cid tmt1 tmt2 => Sys2Proof.Machine.execSetFeaturesHctm fn cid tmt1 tmt2 s
  | .getFeatures fn cid fid sel => Sys2Proof.Machine.execGetFeatures fn cid fid sel s
  | .asynchronousEventRequest fn cid => Sys2Proof.Machine.execAsynchronousEventRequest fn cid s
  | .namespaceManagement fn cid create nsze nsid => Sys2Proof.Machine.execNamespaceManagement fn cid create nsze nsid s
  | .namespaceAttachment fn cid nsid attach ctrls => Sys2Proof.Machine.execNamespaceAttachment fn cid nsid attach ctrls s
  | .directiveSend fn cid nsid op sid => Sys2Proof.Machine.execDirectiveSend fn cid nsid op sid s
  | .directiveReceive fn cid nsid dtype => Sys2Proof.Machine.execDirectiveReceive fn cid nsid dtype s
  | .virtualizationManagement fn cid act cntlid rt n => Sys2Proof.Machine.execVirtualizationManagement fn cid act cntlid rt n s
  | .nvmeMiSend fn cid => Sys2Proof.Machine.execNvmeMiSend fn cid s
  | .nvmeMiReceive fn cid len => Sys2Proof.Machine.execNvmeMiReceive fn cid len s
  | .getLbaStatus fn cid nsid slba range action most => Sys2Proof.Machine.execGetLbaStatus fn cid nsid slba range action most s
  | .tablatureDownload fn cid ofs data => Sys2Proof.Machine.execTablatureDownload fn cid ofs data s
  | .tablatureCommitValidate fn cid => Sys2Proof.Machine.execTablatureCommitValidate fn cid s
  | .tablatureCommitWrite fn cid readOk => Sys2Proof.Machine.execTablatureCommitWrite fn cid readOk s
  | .tablatureSessionTimeout => Sys2Proof.Machine.execTablatureSessionTimeout s
  | .tabSessionAbort => Sys2Proof.Machine.execTabSessionAbort s
  | .inventoryImport fn cid c first n => Sys2Proof.Machine.execInventoryImport fn cid c first n s
  | .inventorySlotIdentify d common => Sys2Proof.Machine.execInventorySlotIdentify d common s
  | .inventoryExport fn cid c first n => Sys2Proof.Machine.execInventoryExport fn cid c first n s
  | .calibrateFull fn cid seen => Sys2Proof.Machine.execCalibrateFull fn cid seen s
  | .calibrateExpanders fn cid bays cars seen => Sys2Proof.Machine.execCalibrateExpanders fn cid bays cars seen s
  | .calibrateRestore fn cid image => Sys2Proof.Machine.execCalibrateRestore fn cid image s
  | .calibrateRefused fn cid => Sys2Proof.Machine.execCalibrateRefused fn cid s
  | .firmwareImageDownload fn cid ofs data => Sys2Proof.Machine.execFirmwareImageDownload fn cid ofs data s
  | .firmwareCommitWrite fn cid fs readOk => Sys2Proof.Machine.execFirmwareCommitWrite fn cid fs readOk s
  | .firmwareCommitArm fn cid fs readOk => Sys2Proof.Machine.execFirmwareCommitArm fn cid fs readOk s
  | .firmwareCommitArmWritten fn cid fs => Sys2Proof.Machine.execFirmwareCommitArmWritten fn cid fs s
  | .firmwareCommitActivate fn cid fs readOk => Sys2Proof.Machine.execFirmwareCommitActivate fn cid fs readOk s
  | .fwSessionTimeout => Sys2Proof.Machine.execFwSessionTimeout s
  | .fwuSessionAbort => Sys2Proof.Machine.execFwuSessionAbort s
  | .activationStep reads => Sys2Proof.Machine.execActivationStep reads s
  | .probationEnd => Sys2Proof.Machine.execProbationEnd s
  | .fallback => Sys2Proof.Machine.execFallback s
  | .settingsCommit fmt keys readOk => Sys2Proof.Machine.execSettingsCommit fmt keys readOk s
  | .sidebandRequest id kind => Sys2Proof.Machine.execSidebandRequest id kind s
  | .hostLaneFault link lanes => Sys2Proof.Machine.execHostLaneFault link lanes s
  | .hostLinkLoss link speed up => Sys2Proof.Machine.execHostLinkLoss link speed up s
  | .perst port => Sys2Proof.Machine.execPerst port s
  | .flr fn => Sys2Proof.Machine.execFlr fn s
  | .ccEnClear fn => Sys2Proof.Machine.execCcEnClear fn s
  | .ccEnSet fn ams => Sys2Proof.Machine.execCcEnSet fn ams s
  | .stampErr => Sys2Proof.Machine.execStampErr s
  | .hstClrCnt => Sys2Proof.Machine.execHstClrCnt s
  | .huSenseSample code => Sys2Proof.Machine.execHuSenseSample code s
  | .admissionLimitUpdate => Sys2Proof.Machine.execAdmissionLimitUpdate s
  | .capTest => Sys2Proof.Machine.execCapTest s
  | .capTestStart => Sys2Proof.Machine.execCapTestStart s
  | .capTestEnd => Sys2Proof.Machine.execCapTestEnd s
  | .journalSegmentWrite => Sys2Proof.Machine.execJournalSegmentWrite s
  | .vaultChange ev => Sys2Proof.Machine.execVaultChange ev s
  | .powerLossDeclare bank => Sys2Proof.Machine.execPowerLossDeclare bank s
  | .dumpEnd units => Sys2Proof.Machine.execDumpEnd units s
  | .powerLossHoldRelease pin us => Sys2Proof.Machine.execPowerLossHoldRelease pin us s
  | .lossAck req => Sys2Proof.Machine.execLossAck req s
  | .pDumpWrite v => Sys2Proof.Machine.execPDumpWrite v s
  | .plpClrCnt => Sys2Proof.Machine.execPlpClrCnt s
  | .thermalSample die kept => Sys2Proof.Machine.execThermalSample die kept s
  | .graceExpiry => Sys2Proof.Machine.execGraceExpiry s
  | .enforcementStep => Sys2Proof.Machine.execEnforcementStep s
  | .enforcementRemove => Sys2Proof.Machine.execEnforcementRemove s
  | .orderlyMaxExpiry kept => Sys2Proof.Machine.execOrderlyMaxExpiry kept s
  | .thermalRestart ao ms => Sys2Proof.Machine.execThermalRestart ao ms s
  | .thresholdWrite laser v => Sys2Proof.Machine.execThresholdWrite laser v s
  | .thmClrCnt => Sys2Proof.Machine.execThmClrCnt s
  | .calStart seen => Sys2Proof.Machine.execCalStart seen s
  | .calExpStart seen => Sys2Proof.Machine.execCalExpStart seen s
  | .calibrationProcedureEnd seen => Sys2Proof.Machine.execCalibrationProcedureEnd seen s
  | .calAuto seen => Sys2Proof.Machine.execCalAuto seen s
  | .calValueWrite item gain offset => Sys2Proof.Machine.execCalValueWrite item gain offset s
  | .fuseProgram => Sys2Proof.Machine.execFuseProgram s
  | .fuseProgramDone failed => Sys2Proof.Machine.execFuseProgramDone failed s
  | .authGo => Sys2Proof.Machine.execAuthGo s
  | .debugClose => Sys2Proof.Machine.execDebugClose s
  | .referenceLoss ref => Sys2Proof.Machine.execReferenceLoss ref s
  | .pllUnlock pll => Sys2Proof.Machine.execPllUnlock pll s
  | .powerStateRequest req => Sys2Proof.Machine.execPowerStateRequest req s
  | .idlePoise => Sys2Proof.Machine.execIdlePoise s
  | .idlePark => Sys2Proof.Machine.execIdlePark s
  | .poisedToRun => Sys2Proof.Machine.execPoisedToRun s
  | .parkedEntryDone => Sys2Proof.Machine.execParkedEntryDone s
  | .dormantEntry => Sys2Proof.Machine.execDormantEntry s
  | .wakeN => Sys2Proof.Machine.execWakeN s
  | .wakeTimerMatch => Sys2Proof.Machine.execWakeTimerMatch s
  | .chipReset => Sys2Proof.Machine.execChipReset s
  | .resetN => Sys2Proof.Machine.execResetN s
  | .alwaysOnReset => Sys2Proof.Machine.execAlwaysOnReset s
  | .startUp x => Sys2Proof.Machine.execStartUp x s
  | .mapRebuild rows => Sys2Proof.Machine.execMapRebuild rows s
  | .mapReady => Sys2Proof.Machine.execMapReady s
  | .swSet hi v => Sys2Proof.Machine.execSwSet hi v s
  | .logClr => Sys2Proof.Machine.execLogClr s
  | .lockstepMismatch p => Sys2Proof.Machine.execLockstepMismatch p s
  | .stackUe p => Sys2Proof.Machine.execStackUe p s
  | .pairRestore p pass => Sys2Proof.Machine.execPairRestore p pass s
  | .watchdogExpiry p => Sys2Proof.Machine.execWatchdogExpiry p s
  | .wdogKick p => Sys2Proof.Machine.execWdogKick p s
  | .fatalDeclare cause detail => Sys2Proof.Machine.execFatalDeclare cause detail s
  | .dmpFatal req v => Sys2Proof.Machine.execDmpFatal req v s
  | .dumpCopyToFlash => Sys2Proof.Machine.execDumpCopyToFlash s
  | .fatalRelease => Sys2Proof.Machine.execFatalRelease s
  | .fatalHoldExpiry => Sys2Proof.Machine.execFatalHoldExpiry s
  | .dmpClear => Sys2Proof.Machine.execDmpClear s
  | .railOutOfTolerance rail good => Sys2Proof.Machine.execRailOutOfTolerance rail good s
  | .vaonLow => Sys2Proof.Machine.execVaonLow s
  | .perstDeassert port speed width => Sys2Proof.Machine.execPerstDeassert port speed width s
  | .d0Transition fn toD0 => Sys2Proof.Machine.execD0Transition fn toD0 s

end Sys2Proof.Machine
end

