-- ==== Sys2Proof/Safety.lean ====
section
/-! DEFINITION. The terms the statements use: what it is for a command to complete, what it leaves alone, and the invariant
that every step keeps. -/

namespace Sys2Proof

open Sys2Proof.Machine

/-- The command is carried out: it answers a next state, of which `Q` holds. -/
def Completes (c : Instr) (s : State) (Q : State → Prop) : Prop := ∃ t, exec c s = .next t ∧ Q t

/-- The state behind the register window: everything but the window's fields and the event log (R533). -/
def inner (s : State) : State := { s with regs := [], log := [] }

/-- Every field of the register window reads as before but the listed ones. -/
def OnlyFields (s t : State) (fs : List Fld) : Prop := ∀ f : Fld, f.key ∉ fs.map Fld.key → Machine.get t f = Machine.get s f

/-- Nothing has changed but the listed fields of the window and the event log. -/
def Within (s t : State) (fs : List Fld) : Prop := inner t = inner s ∧ OnlyFields s t fs

/-- Nothing has changed but one head's inner state, the listed fields and the event log. -/
def WithinHead (h : Nat) (s t : State) (fs : List Fld) : Prop :=
  inner t = { inner s with heads := t.heads } ∧ (∀ g, g ≠ h → getHead t g = getHead s g) ∧ OnlyFields s t fs

/-- The same beside the window's addresses from `lo` up to `hi`. -/
def OnlyFieldsBeside (lo hi : Nat) (s t : State) (fs : List Fld) : Prop :=
  ∀ f : Fld, (f.key < 8 * lo ∨ 8 * hi ≤ f.key) → f.key ∉ fs.map Fld.key → Machine.get t f = Machine.get s f

/-- No other head's inner state has changed. -/
def OnlyHead (h : Nat) (s t : State) : Prop := ∀ g, g ≠ h → getHead t g = getHead s g

/-- No other link, spindle, carousel, axis or decoder pool has changed beside its registers. -/
def OnlyBus (l : Nat) (s t : State) : Prop := ∀ j, j ≠ l → busOf t j = busOf s j
def OnlySpin (b : Nat) (s t : State) : Prop := ∀ j, j ≠ b → spinOf t j = spinOf s j
def OnlyCrs (c : Nat) (s t : State) : Prop := ∀ j, j ≠ c → crsOf t j = crsOf s j
def OnlyAx (b a : Nat) (s t : State) : Prop := ∀ j i, (j, i) ≠ (b, a) → i < 4 → axOf t j i = axOf s j i
def OnlyBayAx (b : Nat) (s t : State) : Prop := ∀ j i, j ≠ b → i < 4 → axOf t j i = axOf s j i
def OnlyPool (q : Nat) (s t : State) : Prop := ∀ j, j ≠ q → getPool t j = getPool s j

/-- No other head than the one an axis carries has changed: a loader, axis 2, carries none (R253). -/
def OnlySled (b a : Nat) (s t : State) : Prop := ∀ g, (2 ≤ a ∨ g ≠ sledHead b a) → getHead t g = getHead s g

/-- Nothing has changed but one axis, the listed fields and the event log; and the same beside its sled's head. -/
def WithinAx (b a : Nat) (s t : State) (fs : List Fld) : Prop :=
  inner t = { inner s with axes := t.axes } ∧ OnlyAx b a s t ∧ OnlyFields s t fs
def WithinSled (b a : Nat) (s t : State) (fs : List Fld) : Prop :=
  inner t = { inner s with axes := t.axes, heads := t.heads } ∧ OnlyAx b a s t ∧ OnlySled b a s t ∧ OnlyFields s t fs

/-- The fields of an axis that the end of a command or a stop writes (R269). -/
def axFields (b a : Nat) : List Fld :=
  [F.MOV_AX_STATUS_STATE b a, F.MOV_AX_STATUS_BUSY b a, F.MOV_AX_STATUS_RESULT b a, F.MOV_AX_SPEED b a, F.MOV_EVT b, F.EVT_LOG_HEAD]

/-- The fields that the motion of an axis writes. -/
def moveFields (b a : Nat) : List Fld :=
  [F.MOV_AX_POS b a, F.MOV_AX_MOVES b a, F.MOV_AX_STATUS_POS_VALID b a, F.MOV_AX_STATUS_HOLDING b a] ++ axFields b a

/-- An axis heads for a position (R255, R259, R260): as its target, as the end a loader creeps to, or after the reversal under way. -/
def HeadsFor (b a : Nat) (p : Int) (t : State) : Prop :=
  (axOf t b a).target = p ∨ (axOf t b a).end2 = some p ∨ (axOf t b a).after = some p

/-- A gate of an axis's driver has been switched by an immediate command (R88, R257), the other one left alone. -/
def GateSent (b a : Nat) (phB : Bool) (g : Nat) (s t : State) : Prop :=
  gateOf (axOf t b a) phB = g ∧ gateOf (axOf t b a) (!phB) = gateOf (axOf s b a) (!phB) ∧
  busOf t b = { busOf s b with codes := (busOf s b).codes ++ [gateCode a phB g] } ∧ OnlyAx b a s t ∧ OnlyBus b s t

/-- An axis decelerates to a stop from where it is (R260, R265, R266, R272). -/
def Brakes (b a dec plan : Nat) (s t : State) : Prop :=
  (axOf t b a).dec = dec ∧ (axOf t b a).plan = plan ∧ (axOf t b a).v2 = (axOf s b a).v2 ∧
  (axOf t b a).target = (if (axOf s b a).forward then axPos s b a + (stopSteps (axOf s b a).v2 dec : Nat)
    else axPos s b a - (stopSteps (axOf s b a).v2 dec : Nat))

/-- An axis has stopped stepping. -/
def AtRest (b a : Nat) (t : State) : Prop :=
  (axOf t b a).v2 = 0 ∧ (axOf t b a).ticks = 0 ∧ Machine.get t (F.MOV_AX_SPEED b a) = 0

/-- The spindle of a bay has entered a state (R239, R240): its state, the PWM enable of its bay link that follows it, the time
of entry, SPEED_LOCK outside RUN, and the event of a change. -/
def MotEnters (b st : Nat) (s t : State) : Prop :=
  Machine.get t (F.MOT_STATUS_STATE b) = st ∧ (st ≠ 3 → Machine.get t (F.MOT_STATUS_SPEED_LOCK b) = 0) ∧
  busOf t b = { busOf s b with pwmEn := decide (st = 1 ∨ st = 2 ∨ st = 3 ∨ st = 5 ∨ st = 7) } ∧
  (spinOf t b).stateAt = now s ∧ (spinOf t b).stopping = false ∧
  (motSt s b ≠ st → bitOf (Machine.get t (F.MOT_EVT b)) B.MOT_EVT_STATE_CHANGE = 1)

/-- The fields such an entry writes, and the state beside the window that it may change. -/
def motFields (b : Nat) : List Fld := [F.MOT_STATUS_STATE b, F.MOT_STATUS_SPEED_LOCK b, F.MOT_EVT b, F.EVT_LOG_HEAD]
def WithinMot (b : Nat) (s t : State) (fs : List Fld) : Prop :=
  inner t = { inner s with spindles := t.spindles, buses := t.buses } ∧ (∀ j, j ≠ b → spinOf t j = spinOf s j) ∧
  (∀ j, j ≠ b → busOf t j = busOf s j) ∧ OnlyFields s t fs

/-- Nothing has changed but one carousel, the listed fields and the event log. -/
def WithinCrs (c : Nat) (s t : State) (fs : List Fld) : Prop :=
  inner t = { inner s with carousels := t.carousels } ∧ (∀ j, j ≠ c → crsOf t j = crsOf s j) ∧ OnlyFields s t fs

/-- The lenses of a bay's two heads are parked or on their way there (R178, R195): a retract leaves them as they are. -/
def lensParked (s : State) (h : Nat) : Bool :=
  let st := Machine.get s (F.SV_STATUS_STATE h)
  decide (st = 0) || decide (st = 1) || decide (st = 9) || decide (st = 10)
def bayParked (s : State) (b : Nat) : Bool := lensParked s (2 * b) && lensParked s (2 * b + 1)

/-- The registers of a spindle command and of a carousel command, and those of a command that ended with a result (R249, R251). -/
def motCmdFields (b : Nat) : List Fld := [F.MOT_CMD_OP b, F.MOT_CMD_STATUS_OP b, F.MOT_CMD_STATUS_RESULT b, F.MOT_CMD_STATUS_BUSY b]
def cmotCmdFields (c : Nat) : List Fld :=
  [F.CMOT_CMD_OP c, F.CMOT_CMD_STATUS_OP c, F.CMOT_CMD_STATUS_RESULT c, F.CMOT_CMD_STATUS_BUSY c]
def MotAnswers (b op r : Nat) (t : State) : Prop :=
  Machine.get t (F.MOT_CMD_STATUS_OP b) = op ∧ Machine.get t (F.MOT_CMD_STATUS_RESULT b) = r ∧ Machine.get t (F.MOT_CMD_STATUS_BUSY b) = 0
def CmotAnswers (c op r busy : Nat) (t : State) : Prop :=
  Machine.get t (F.CMOT_CMD_STATUS_OP c) = op ∧ Machine.get t (F.CMOT_CMD_STATUS_RESULT c) = r ∧
  Machine.get t (F.CMOT_CMD_STATUS_BUSY c) = busy

/-- The host interface where only log pages and asynchronous events may have told of a change (R395, R404). -/
def toldHost (s t : State) : HostSt :=
  { s.host with pageGen := t.host.pageGen, aers := t.host.aers, sent := t.host.sent, held := t.host.held, posted := t.host.posted,
                errors := t.host.errors }

/-- No other bay's mount, set or disc has changed. -/
def OnlyMount (b : Nat) (s t : State) : Prop := ∀ j, j ≠ b → mountOf t j = mountOf s j
def OnlySet (hd : Nat) (s t : State) : Prop := ∀ j, j ≠ hd → getSet t j = getSet s j
def OnlyDiscs (ds : List Nat) (s t : State) : Prop := ∀ j, j ∉ ds → getDisc t j = getDisc s j

/-- Nothing has changed but what `hide` covers, the listed fields and the event log. -/
def WithinBut (hide : State → State) (s t : State) (fs : List Fld) : Prop := hide (inner t) = hide (inner s) ∧ OnlyFields s t fs

/-- What the detection of a codeword gives, with the detector's configuration taken at its start (R124, R149). -/
def detection (s : State) (h addr i : Nat) (sigs : List BeamSignal) : Detected :=
  detect (takeForces [F.CH_EQ_CFG_MU h, F.CH_EQ_CFG_MSE_MAX h, F.CH_DROP_CFG_LO h, F.CH_DROP_CFG_HI h, F.CH_DROP_CFG_SET_LEN h,
    F.CH_DROP_CFG_CLR_LEN h, F.CH_ERASE_CFG_EXT h, F.CH_ERASE_CFG_ERASE_MAX h] s) h addr i sigs

/-- A codeword of a sector in work, the default where there is none. -/
def cwAt (s : State) (h addr i : Nat) : Codeword := match sectorAt s h addr with
  | none => {}
  | some x => x.cws.getD i {}

/-- No attempt of a rung of the ladder is waiting or under way for the band under the ladder, so that the next revolution is taken
(R139, R143). -/
def ladderIdle (s : State) (h : Nat) : Bool :=
  (chanOf s h).sectors.all fun x => !inLadder s h x || x.cws.all fun w => decide (w.rung = 0) || decide (w.st = 0) || decide (4 ≤ w.st)

/-- Nothing has changed but head states, decoder pools, the listed fields and the event log. -/
def WithinDec (s t : State) (fs : List Fld) : Prop := inner t = { inner s with heads := t.heads, pools := t.pools } ∧ OnlyFields s t fs

/-- A move command to a layer is accepted (R181, R197): the servo is between SWEEP and DEFECT, not in the course of a pull-in, and a layer that
differs from the present one has been recorded by a calibration sweep. -/
def seekOpen (s : State) (h layer : Nat) : Bool :=
  let st := Machine.get s (F.SV_STATUS_STATE h)
  headInst s h && decide (3 ≤ st) && decide (st ≤ 8) &&
    (decide (st ≠ 3) || (servoOf s h).openRange || (decide (Machine.get s (F.SV_CMD_STATUS_BUSY h) = 1) && decide ((servoOf s h).cmdOp ≤ 2))) &&
    (decide (layer = Machine.get s (F.SV_POS_LAYER h)) || (decide (layer < 12) && decide (Machine.get s (F.SV_LAYER_CAL_FE_PP h layer) ≠ 0)))

/-- A head's write path is not in the states 1 to 5, in which a move waits (R170). -/
def writeFree (s : State) (h : Nat) : Bool :=
  decide (Machine.get s (F.WRP_STATUS_STATE h) = 0) || decide (6 ≤ Machine.get s (F.WRP_STATUS_STATE h))

/-- The move of a command has begun (R107, R187, R191, R197): a jump between layers first, then the radial move. -/
def MoveBegun (h op band layer : Nat) (s t : State) : Prop :=
  Machine.get t (F.SV_CMD_STATUS_BUSY h) = 1 ∧ Machine.get t (F.SV_CMD_STATUS_OP h) = op ∧ Machine.get t (F.SV_CMD_STATUS_RESULT h) = 0 ∧
  Machine.get t (F.SV_POS_CONFIRMED h) = 0 ∧ (servoOf t h).target = some (band, layer) ∧
  (Machine.get s (F.SV_STATUS_STATE h) ≠ 8 →
    Machine.get t (F.SV_STATUS_STATE h) = if layer = Machine.get s (F.SV_POS_LAYER h) then 6 else 7) ∧
  (Machine.get s (F.SV_STATUS_STATE h) = 8 → layer = Machine.get s (F.SV_POS_LAYER h) → (servoOf t h).heldFrom = 6) ∧
  (layer = Machine.get s (F.SV_POS_LAYER h) → (servoOf t h).remain = (band : Int) - Machine.get s (F.SV_POS_BAND h)) ∧
  (layer ≠ Machine.get s (F.SV_POS_LAYER h) → (servoOf t h).jumpTo = layer)

/-- The set of a disc-bound entry, the page of a buffered one. -/
def entrySet : MapEntry → Option Nat
  | .disc hd _ => some hd
  | _ => none
def entryPage : MapEntry → Option Nat
  | .buffer p => some p
  | _ => none

/-- The blocks that a Recall has to stage: its disc-bound ones that are not staged yet, with set and block (R411). -/
def stageOf (s : State) (c : Cmd) (b : Nat) : Option (Nat × Nat × Nat) := match resolveBlock s c.nsid b with
  | .disc hd l => if isStaged s hd l then none else some (b, hd, l)
  | _ => none
def toStage (s : State) (c : Cmd) : List (Nat × Nat × Nat) := (rangeBlocks (c.ranges.getD [])).filterMap (stageOf s c)

/-- A little-endian field of a packet's payload (R88 to R90). -/
def payloadField (d : List Nat) (o n : Nat) : Nat := ofBytesLE ((d.drop o).take n)

/-- The header packet that a stretch of a bay link's characters holds, if it holds one (R89), and how many bad packets it holds (R87). -/
def headerIn (chars : List BayChar) : Option (List Nat) := (payloadsOf 0x80 chars).find? fun d => decide (d.length = 24)
def badPackets (chars : List BayChar) : Nat := ((heardPackets chars).filter fun p => p.isNone).length

/-- The conversions that a stretch holds, the value of a channel, and the currents I_d and I_q of a spindle's period: measured where both windows
were sampled (R231), else what the model predicts (R235). -/
def conversions (chars : List BayChar) : List (Nat × Nat × Nat) := (payloadsOf 0x81 chars).flatMap sampleEntries
def channelIn (s : State) (l : Nat) (es : List (Nat × Nat × Nat)) (ch : Nat) : Option Int := entryValue s l es fun e => decide (e.2.1 = ch)
def shuntIn (s : State) (b : Nat) (es : List (Nat × Nat × Nat)) (tag : Nat) : Option Int :=
  entryValue s b es fun e => decide (e.2.1 = 0) && decide (e.1 = tag)
def periodCurrents (s : State) (b : Nat) (es : List (Nat × Nat × Nat)) (m : Observed) : Int × Int :=
  match (spinOf s b).liveWins, shuntIn s b es 1, shuntIn s b es 2 with
  | (true, true), some i1, some i2 => toDQ (controlAngle s b m).1 (shuntCurrents (spinOf s b).live i1 i2)
  | _, _, _ => (m.predD, m.predQ)

/-- A bus voltage below a threshold of 0.25 V steps: no conversion of channel 4 says otherwise (R241). -/
def busBelow (s : State) (l : Nat) (es : List (Nat × Nat × Nat)) (held thr : Nat) : Bool :=
  match channelIn s l es 4 with
  | some z => decide ((clampInt 0 65535 z).toNat < 250 * thr)
  | none => decide (held < 250 * thr)

/-- A pass of recording has begun in a state of the write path (R152, R159, R163): its bands, a write clock that is not placed yet, and a servo
that goes to the band before the first unless it is there or follows no track. -/
def PassBegun (h st band bands : Nat) (s t : State) : Prop :=
  Machine.get t (F.WRP_STATUS_STATE h) = st ∧ Machine.get t (F.WRP_STATUS_BAND h) = trunc 14 band ∧
  Machine.get t (F.WRP_STATUS_REMAIN h) = (if st = 2 then trunc 5 bands else 0) ∧
  (writeOf t h).origin = band ∧ (writeOf t h).span = bands ∧ (writeOf t h).pos = none ∧ (writeOf t h).closedAt = none ∧
  (Machine.get s (F.SV_POS_BAND h) + 1 = band ∧ Machine.get s (F.SV_POS_LAYER h) = (writeOf t h).layer ∨
    Machine.get s (F.SV_STATUS_STATE h) < 4 ∨ 8 < Machine.get s (F.SV_STATUS_STATE h) ∨
    (servoOf t h).target = some (band - 1, (writeOf t h).layer))

/-- The home slots of an extent with their rows (R48, R152), and the bands that one takes (R53). -/
def extentRows (h layer fret first bands : Nat) : List Nat := (extentSlots h layer fret first bands).filterMap addrOrd
def extentBands (s : State) (h bands : Nat) : Nat := min bands (min 16 (max 1 (Machine.get s (F.WRP_EXTENT_EXT_BANDS h))))

/-- A head's disc can take an extent of a set there (R53, R152, R154, R155, R285): it lies in the data bands, the disc is the set's, not foreign
and not read-only, rows or rebuilt chunks wait for it, and the head turns at the write speed. -/
def extentFits (s : State) (h hd layer fret first n : Nat) : Bool :=
  decide (firstDataBand fret ≤ first) && decide (first + n ≤ lastDataBand fret + 1) && decide (0 < n) &&
    (match discOfHead s h with
     | none => false
     | some d => decide ((getDisc s d).set = hd) && decide (bitOf (getDisc s d).flags 1 = 0)) &&
    (decide (rowsToTake s h hd (extentRows h layer fret first n) ≠ []) || decide (rebuiltToTake s h (extentRows h layer fret first n) ≠ [])) &&
    !(chanOf s h).foreign && decide (Machine.get s (F.CH_CTRL_SPEED h) = 1)

/-- The pass under way has recorded all its bands: its write clock has passed the last postamble (R159). -/
def passOver (s : State) (h : Nat) : Bool := decide ((writeOf s h).pos ≠ none) && decide (passEnd s h ≤ bitNow (writeOf s h))

/-- The chunks that a closure of the gate still touches at the end of the pass (R168). -/
def stillClosed (s : State) (h : Nat) : List Chunk := match (writeOf s h).closedAt with
  | none => []
  | some p => (writeOf s h).chunks.filter fun c => touches s h p.1 (passEnd s h) c && decide (c ∉ (writeOf s h).failed)

/-- No chunk of the verify is left unread because the degraded map hides its group (R165). -/
def allSeen (s : State) (h : Nat) : Bool :=
  !isSet s (F.HL_STATUS_DEGRADED h) || (writeOf s h).extra || (writeOf s h).chunks.all fun c =>
    decide (addrTrack c.addr / 8 ≠ Machine.get s (F.HL_STATUS_GROUP h)) || decide (c ∈ (writeOf s h).passed) || decide (c ∈ (writeOf s h).failed)

/-- A verify ends well: every chunk has passed and none waits for a spare (R166). -/
def allPassed (s : State) (h : Nat) : Bool :=
  (writeOf s h).chunks.all (fun c => decide (c ∈ (writeOf s h).passed)) && decide ((writeOf s h).failed = []) && decide ((writeOf s h).waiting = [])

/-- The chunks of the verify that have failed or are unread at its end, and those that waited for their spare band (R165, R167). -/
def toRespare (s : State) (h : Nat) : List Chunk :=
  (writeOf s h).failed ++ ((writeOf s h).chunks.filter fun c => decide (c ∉ (writeOf s h).passed) && decide (c ∉ (writeOf s h).failed)) ++
    (writeOf s h).waiting

/-- The currents of a carousel's period: from its two phase currents, else what the model predicts (R244). -/
def carCurrents (s : State) (c : Nat) (es : List (Nat × Nat × Nat)) (m : Observed) : Int × Int :=
  match channelIn s (32 + c) es 9, channelIn s (32 + c) es 10 with
  | some a, some b => toDQ (carAngle s c) [a, b, -(a + b)]
  | _, _ => (m.predD, m.predQ)

/-- The chunks of D31 in the band before that a closure sends to be verified again: those that had passed, after an inward tracking error in the
first revolution of an extent that follows on (R168). -/
def verifyAgain (s : State) (h : Nat) : List Chunk :=
  if (servoOf s h).te < -(64 * Machine.get s (F.WRP_OFFTRACK_TRACK_LIM h) : Int)
      ∧ (writeOf s h).prevOf = (discOfHead s h).map (fun d => (d, (writeOf s h).layer)) ∧ Machine.get s (F.WRP_STATUS_STATE h) = 2
      ∧ nextBit s h < turnBits s h then
    (writeOf s h).prev.filter fun c => decide (addrBand c.addr + 1 = (writeOf s h).first) && decide (c ∉ (writeOf s h).recheck)
  else []

/-- The write-clock bit at which the gate reopens: the first slot boundary of the earliest beam that two superframes' bits do not reach (R159, R168). -/
def reopenBit (s : State) (h : Nat) (b p : Int) : Int :=
  (max b (placeNow s h p / 2 ^ 39 + 2 * (62 * (12 + (writeOf s h).fret) : Nat)) - earliest s h + slotLen - 1) / slotLen * slotLen + earliest s h

/-- The fields that a head link's change of state writes while its head is not ACTIVE (R75, R76, R82). -/
def linkFields (h : Nat) : List Fld :=
  [F.HL_STATUS_STATE h, F.HL_STATUS_DEGRADED h, F.HL_STATUS_GROUP h, F.HL_STATUS_FAILED_LANE h, F.HL_STATUS_LANES_UP h,
   F.SV_STATUS_ON_TRACK h, F.CH_STATUS_READ_PERMIT h, F.WRP_STATUS_WRITE_PERMIT h, F.HL_EVT h, F.EVT_LOG_HEAD]

/-- The three permits of a head, which follow every change of what they depend on (R103, R153, R175). -/
def permitFields (h : Nat) : List Fld := [F.WRP_STATUS_WRITE_PERMIT h, F.CH_STATUS_READ_PERMIT h, F.SV_STATUS_ON_TRACK h]

/-- The fields a servo's change of state writes (R178). -/
def svFields (h : Nat) : List Fld := [F.SV_STATUS_STATE h, F.SV_STATUS_DEFECT h] ++ permitFields h ++ [F.SV_EVT h, F.EVT_LOG_HEAD]

/-- The fields of a servo's command status, and those that an unconfirmed address clears (R32, R198). -/
def svCmdFields (h : Nat) : List Fld :=
  [F.SV_CMD_STATUS_BUSY h, F.SV_CMD_STATUS_OP h, F.SV_CMD_STATUS_RESULT h, F.SV_CMD_STATUS_CORR h, F.SV_CMD_STATUS_DUR h]
def confirmFields (h : Nat) : List Fld := [F.CH_STATUS_ADDR_CONF h, F.CH_ADDR_CONFIRMED h, F.SV_POS_CONFIRMED h]

/-- A flag of an event register is set. -/
def Raised (t : State) (e : EvReg) (i : Nat) : Prop := bitOf (Machine.get t e.evt) i = 1

/-- The write session of a head has ended after a verify (R154, R166): IDLE, EXTENT_DONE, and nothing left in its hands. -/
def SessionDone (h : Nat) (t : State) : Prop :=
  Machine.get t (F.WRP_STATUS_STATE h) = 0 ∧ Raised t (evWRP h) B.WRP_EVT_EXTENT_DONE ∧ (writeOf t h).chunks = [] ∧
  (writeOf t h).passed = [] ∧ (writeOf t h).failed = []

/-- A move of an axis has ended at its target (R269): result 0, counted, MOVE_DONE. -/
def MoveEnds (b a : Nat) (s t : State) : Prop :=
  AtRest b a t ∧ Machine.get t (F.MOV_AX_STATUS_STATE b a) = (if (axOf s b a).follow then 5 else 1) ∧
  Machine.get t (F.MOV_AX_STATUS_BUSY b a) = 0 ∧ Machine.get t (F.MOV_AX_STATUS_RESULT b a) = 0 ∧
  Machine.get t (F.MOV_AX_MOVES b a) = trunc 32 (satAdd 32 (Machine.get s (F.MOV_AX_MOVES b a)) 1) ∧ Raised t (evMOV b) (B.MOV_EVT_MOVE_DONE + a)

/-- A sled takes its encoder position (R267). -/
def Resynced (b a : Nat) (s t : State) : Prop :=
  a < 2 → Machine.get t (F.MOV_AX_POS b a) = trunc 32 (ofSigned 32 (getI s (F.MOV_AX_ENC_POS b a)))

/-- A limit input has become active (R259, R265, R268): nothing for an axis at rest; at the inner limit a homing axis turns round; at its end a
loader has arrived; a motion toward the limit stops, at once or at DEC_MAX, and is counted. -/
def LimitActs (b i : Nat) (s t : State) : Prop :=
  ((axOf s b (i / 2)).ticks = 0 → axOf t b (i / 2) = axOf s b (i / 2)) ∧
  ((axOf s b (i / 2)).ticks ≠ 0 → (axOf s b (i / 2)).plan = 5 → i % 2 = 0 →
    (axOf t b (i / 2)).forward = true ∧ (axOf t b (i / 2)).plan = 6 ∧
    (axOf t b (i / 2)).target = axPos s b (i / 2) + axMm s b (i / 2) (travelMm (i / 2))) ∧
  ((axOf s b (i / 2)).ticks ≠ 0 → (axOf s b (i / 2)).plan = 1 → (axOf s b (i / 2)).forward = decide (i % 2 = 1) →
    MoveEnds b (i / 2) s t ∧ Machine.get t (F.MOV_AX_STATUS_POS_VALID b (i / 2)) = 1 ∧
    getI t (F.MOV_AX_POS b (i / 2)) = toSigned 32 (ofSigned 32 (if i % 2 = 1 then axMm s b (i / 2) (travelMm (i / 2)) else 0) % 2 ^ 32)) ∧
  ((axOf s b (i / 2)).ticks ≠ 0 → (axOf s b (i / 2)).plan ≠ 1 → ¬ ((axOf s b (i / 2)).plan = 5 ∧ i % 2 = 0) →
    (axOf s b (i / 2)).forward = decide (i % 2 = 1) →
    Machine.get t (F.MOV_AX_LIMIT_STOPS b (i / 2)) = trunc 32 (satAdd 32 (Machine.get s (F.MOV_AX_LIMIT_STOPS b (i / 2))) 1) ∧
    Raised t (evMOV b) (B.MOV_EVT_LIMIT_STOP + i / 2) ∧ (axOf t b (i / 2)).follow = false ∧
    (bitOf (Machine.get s (F.MOV_LIMIT_CFG b)) i = 1 → AtRest b (i / 2) t ∧ Resynced b (i / 2) s t ∧
      Machine.get t (F.MOV_AX_STATUS_STATE b (i / 2)) = 1 ∧ Machine.get t (F.MOV_AX_STATUS_BUSY b (i / 2)) = 0) ∧
    (bitOf (Machine.get s (F.MOV_LIMIT_CFG b)) i ≠ 1 → Brakes b (i / 2) (axDecMax s b (i / 2)) 4 s t))

/-- A limit input has been released (R253, R268): at the inner limit's edge a homing axis that backs off has its position 0. -/
def LimitReleased (b i : Nat) (s t : State) : Prop :=
  i % 2 = 0 → (axOf s b (i / 2)).plan = 6 → AtRest b (i / 2) t ∧ Machine.get t (F.MOV_AX_POS b (i / 2)) = 0 ∧
    Machine.get t (F.MOV_AX_STATUS_POS_VALID b (i / 2)) = 1 ∧ Machine.get t (F.MOV_AX_STATUS_STATE b (i / 2)) = 1 ∧
    Machine.get t (F.MOV_AX_STATUS_BUSY b (i / 2)) = 0 ∧ Machine.get t (F.MOV_AX_STATUS_RESULT b (i / 2)) = 0

/-- An axis has stalled (R267): stepping has stopped, a sled has its encoder position, FOLLOW has ended, with result 4; a third stall within 1 s
is a fault. -/
def Stalls (b a : Nat) (s t : State) : Prop :=
  AtRest b a t ∧ Resynced b a s t ∧ (axOf t b a).follow = false ∧ Machine.get t (F.MOV_AX_STATUS_RESULT b a) = 4 ∧
  Machine.get t (F.MOV_AX_STATUS_BUSY b a) = 0 ∧ Raised t (evMOV b) (B.MOV_EVT_STALL + a) ∧
  Machine.get t (F.MOV_AX_STALLS b a) = trunc 32 (satAdd 32 (Machine.get s (F.MOV_AX_STALLS b a)) 1) ∧
  (axOf t b a).stalls = (now s :: (axOf s b a).stalls).take 3 ∧
  Machine.get t (F.MOV_AX_STATUS_STATE b a)
    = (if 2 ≤ ((axOf s b a).stalls.filter fun x => decide (now s ≤ 156250000 + x)).length then 6 else 1)

/-- An input of a link exists (R90, R263): 0 to 6 on a bay link, 0 and 1 on a carousel link; and its debounce time. -/
def inputInst (s : State) (l i : Nat) : Bool :=
  if l < 32 then bayInst s l && decide (i < 7) else decide (l < 36) && carInst s (l - 32) && decide (i < 2)
def debounceTime (s : State) (l : Nat) : Nat := (if l < 32 then Machine.get s (F.MOV_DEBOUNCE_DB l) else 50) * 625 / 4

/-- The fields an event flag's raising may change: its register and the head of the event log (R531, R533). -/
def evFields (e : EvReg) : List Fld := [e.evt, F.EVT_LOG_HEAD]

/-- The fields that a retract of a head's lens writes (R195). -/
def retractFields (h : Nat) : List Fld := [F.SV_RETRACTS h, F.SV_STATUS_BAND_HOLD h] ++ svCmdFields h ++ svFields h

/-- A head's lens retracts (R195): the cells are held, the gate is asked to close and the ramps start; a parked lens stays as it is. -/
def LensRetracts (h : Nat) (s t : State) : Prop :=
  (lensParked s h = true → getHead t h = getHead s h) ∧
  (lensParked s h = false → Machine.get t (F.SV_STATUS_STATE h) = 9 ∧ Machine.get t (F.SV_CMD_STATUS_BUSY h) ≠ 1 ∧
    Machine.get t (F.SV_RETRACTS h) = trunc 32 (satAdd 32 (Machine.get s (F.SV_RETRACTS h)) 1) ∧
    (writeOf t h).closeReq = true ∧ (servoOf t h).held = 7 ∧ (servoOf t h).why = 0)

/-- Both lenses of a bay retract. -/
def BayRetracts (b : Nat) (s t : State) : Prop := LensRetracts (2 * b) s t ∧ LensRetracts (2 * b + 1) s t

/-- Nothing has changed but a bay's spindle, its bay link and its two heads, the fields that their retract and a change of the spindle's state
write, the listed fields and the event log. -/
def WithinBay (b : Nat) (s t : State) (fs : List Fld) : Prop :=
  inner t = { inner s with spindles := t.spindles, buses := t.buses, heads := t.heads } ∧ OnlySpin b s t ∧ OnlyBus b s t ∧
  (∀ g, g ≠ 2 * b → g ≠ 2 * b + 1 → getHead t g = getHead s g) ∧
  OnlyFields s t (fs ++ motFields b ++ retractFields (2 * b) ++ retractFields (2 * b + 1))

/-- The packets of a bay's next period are sent (R229, R230): the edges first, the conversions after them. -/
def periodPackets (b : Nat) (s t : State) : List (Nat × List Nat) :=
  [(1, pwmPayload ((pwmNow s + 1) % 65536) (byPhase (spinOf t b).edges)),
   (2, samplePayload ((pwmNow s + 1) % 65536) (bayEntries t b (pwmNow s + 1)))]

/-- A spindle has a speed target in its range (R228): 0, or from 300 rpm up to MAX_RPM. -/
def targetGood (s : State) (b : Nat) : Bool :=
  (decide (300 ≤ Machine.get s (F.MOT_CMD_TARGET b)) || decide (Machine.get s (F.MOT_CMD_TARGET b) = 0)) &&
    decide (Machine.get s (F.MOT_CMD_TARGET b) ≤ Machine.get s (F.MOT_KE_MAX_RPM b))

/-- Nothing has changed but the host interface, the listed fields and the event log. -/
def WithinHost (s t : State) (fs : List Fld) : Prop := inner t = { inner s with host := t.host } ∧ OnlyFields s t fs

/-- No page waits for its release and no queue for its deletion (R382, R396). -/
def quietHost (s : State) : Bool := decide (s.host.relWait = []) && s.host.queues.all fun q => q.deleting.isNone

/-- The fields that the end of a command of a function writes (R390, R396, R397). -/
def finishFields (fn : Nat) : List Fld :=
  [F.HST_CMDS, F.HST_INFLIGHT, F.HST_INFLIGHT_C0, F.HST_FN_INFLIGHT fn, F.HST_FN_STATUS_RDY fn, F.HST_LAT0_LAST, F.HST_LAT0_MAX,
   F.HST_LAT0_OVER, F.HST_EVT, F.EVT_LOG_HEAD]

/-- The completion entry of an I/O command without data (R383, R393). -/
def entryOf (s : State) (c : Cmd) (sct sc dnr : Nat) (blocks : List (Nat × Nat)) : Completion :=
  ⟨c.fn, c.qid, c.cid, sct, sc, dnr, (stampDw s c 0).1, (stampDw s c 0).2, blocks, []⟩

/-- An I/O command has ended with a status and the data of blocks: its slot is free (R376), and unless its function was reset (R396) its
completion entry is posted and it is counted (R383, R393); the entry is the last one posted where nothing waited for the command. -/
def FinishesWith (s t : State) (c : Cmd) (sct sc dnr : Nat) (blocks : List (Nat × Nat)) : Prop :=
  (∀ x ∈ t.host.cmds, x.stamp ≠ c.stamp) ∧
  (c.mute = false → entryOf s c sct sc dnr blocks ∈ t.host.posted ∧
    Machine.get t F.HST_CMDS = trunc 64 (satAdd 64 (Machine.get s F.HST_CMDS) 1) ∧
    (quietHost s = true → c.resolved = [] → t.host.posted.head? = some (entryOf s c sct sc dnr blocks)))
def Finishes (s t : State) (c : Cmd) (sct sc dnr : Nat) : Prop := FinishesWith s t c sct sc dnr []

/-- The same, and nothing else has changed where nothing waited for the command. -/
def FinishesAlone (s t : State) (c : Cmd) (sct sc dnr : Nat) (fs : List Fld) : Prop :=
  Finishes s t c sct sc dnr ∧ (quietHost s = true → c.resolved = [] → WithinHost s t (fs ++ finishFields c.fn))

/-- The command of a stamp is changed in place, and nothing else. -/
def cmdsWith (s : State) (stamp : Nat) (f : Cmd → Cmd) : HostSt :=
  { s.host with cmds := s.host.cmds.map fun x => if x.stamp = stamp then f x else x }

/-- A command waits in stamp order with its ranges, counted where an earlier overlapping one holds it back (R381). -/
def Orders (s t : State) (c : Cmd) : Prop :=
  t.host = cmdsWith s c.stamp (fun x => { x with phase := .ordering, ranges := c.ranges }) ∧
  Machine.get t F.HST_OVERLAP_WAIT
    = (if blocked s c then trunc 32 (satAdd 32 (Machine.get s F.HST_OVERLAP_WAIT) 1) else Machine.get s F.HST_OVERLAP_WAIT) ∧
  WithinHost s t [F.HST_OVERLAP_WAIT]

/-- The resolved blocks whose data can be sent, with it (R394). -/
def blockSent (s : State) (nsid : Nat) (r : Nat × MapEntry) : Option (Nat × Nat) := match blockData s nsid r.1 r.2 with
  | .data v => some (r.1, v)
  | _ => none

/-- The range of a write, and where placement sends it (R282, R294). -/
def writeRange (c : Cmd) : Nat × Nat := (c.ranges.getD []).headD (0, 0)
def homeOfWrite (s : State) (c : Cmd) : Nat × Nat × Nat := writeHome s c.nsid (writeRange c).1 (writeRange c).2 (streamOf s c)

/-- A write whose data is in pages may be judged for admission (R291, R385, R386): nothing earlier holds it back, a fragment table it needs may
be taken, and its stream has a set or may form one. -/
def admissible (s : State) (c : Cmd) : Bool :=
  hostRuns s && decide (c.phase = .admission) && !blocked s c
    && !(needsTable s c.nsid (partsOf (writeRange c).1 (writeRange c).2) && isSet s F.ARB_STATUS_FRAG_FULL)
    && hasSet s (homeOfWrite s c).2.1 (homeOfWrite s c).2.2

/-- The fields of a queue's context (R399). -/
def queueFields (ctx : Nat) : List Fld :=
  [F.HST_QCTX_FUNCTION ctx, F.HST_QCTX_VALID ctx, F.HST_QCTX_KIND ctx, F.HST_QCTX_CLASS ctx, F.HST_QCTX_QID ctx]

/-- A function's admin commands are carried out (R376, R396, R490, R543). -/
def adminOpen (s : State) (fn : Nat) : Bool :=
  (if fn = 512 then s.pwr.started && decide (s.pwr.hold = 0) else isSet s (F.HST_FN_STATUS_CCEN fn)) && !s.pwr.powerLoss
    && !isSet s F.DMP_STATUS_FATAL && decide (Machine.get s F.TAB_STATUS_SELECTED ≠ 3)

/-- A grain's entry that is not a fragment table (R289). -/
def wholeEntry : MapEntry → Bool
  | .frag _ => false
  | _ => true

/-- The fields of a bay's three axes that its stepper enable moves (R270). -/
def stepFields (b : Nat) : List Fld :=
  [F.MOV_EVT b, F.EVT_LOG_HEAD] ++ [0, 1, 2].flatMap fun a =>
    [F.MOV_AX_STATUS_STATE b a, F.MOV_AX_STATUS_BUSY b a, F.MOV_AX_STATUS_RESULT b a, F.MOV_AX_STATUS_POS_VALID b a,
     F.MOV_AX_SPEED b a, F.MOV_AX_POS b a, F.MOV_AX_ENC_POS b a]

/-- A cell stands alone or in a pair of two cells in different tiles (R217). -/
def pairGood (s : State) (n : Nat) : Bool :=
  decide (n < 512) && decide (pairOf s (primaryCell s n) = pairOf s n) && (pairOf s n).all (fun m => decide (m < 512)) &&
    decide ((pairOf s n).map fun m => m / 32).Nodup

/-- A cell's sample can end in this period (R208 to R210, R217): it is open, its next boundary has not come and its deadline has not passed; and
the engine takes it, its inputs there and valid, nothing holding it. -/
def sampleOpen (s : State) (p : Nat) : Bool :=
  decide (p < 512) && pairGood s p && decide (cellRole s p ≠ 2) && openSample s p && !boundaryDue s p && !cellLate s p
def sampleTaken (s : State) (p : Nat) : Bool :=
  sampleOpen s p && !frozen s p && inputsIn s p && inputsValid s p && decide (engineTakes s (p / 32) = some p)

/-- The parts of a cell's evaluation (R205, R206): the filtered error, the derivative part, the sum before the limits, the limited output and the
integrator's next value with the output as applied. -/
def evalError (s : State) (p m : Nat) : Int :=
  (cellStages m (sat48 (sat48 (coefNow s m 0 * 65536 + (srcValue s (Machine.get s (F.CELL_SP_SRC p))).1 * 65536) - (cellInput s p).1 * 65536)) s).1
def evalRate (s : State) (p m : Nat) : Int :=
  sat48 (mulQ (coefNow s m 5) (sat48 (evalError s p m - getI s (F.CELL_VPREV m))) (gainShift s m 2) + mulQ (coefNow s m 6) (getI s (F.CELL_DER m)) 0)
def evalSum (s : State) (p m : Nat) : Int :=
  sat48 (sat48 (mulQ (coefNow s m 3) (evalError s p m) (gainShift s m 0) + cellClamp s m (getI s (F.CELL_INT m))) + evalRate s p m)
def evalOut (s : State) (p m : Nat) : Int := cellClamp s m (evalSum s p m)
def evalInt (s : State) (p m : Nat) : Int :=
  cellClamp s m (sat48 (sat48 (cellClamp s m (getI s (F.CELL_INT m)) + mulQ (coefNow s m 4) (evalError s p m) (gainShift s m 1))
    + mulQ (coefNow s m 7) (sat48 (evalOut s p m - evalSum s p m)) 0))

/-- The oldest queued coefficient write of a cell has come into force, if there is one (R214). -/
def OldestLands (m : Nat) (s t : State) : Prop := match (queueOf s (m / 32)).find? fun e => decide (e.1 = m) with
  | none => queueOf t (m / 32) = queueOf s (m / 32)
  | some e => queueOf t (m / 32) = (queueOf s (m / 32)).erase e ∧ (isCoef e.2.1 = true →
    Machine.get t (F.CELL_IN_FORCE m e.2.1) = trunc 32 (if e.2.1 = 8 then e.2.2 % 4096 else e.2.2))

/-- The Capo requests of a pair have come into force at the boundary of cell `n` for its cell `m` (R215): a set, and a clear once no queued write of
the pair is left. -/
def CapoFollows (n m : Nat) (s t : State) : Prop :=
  (Machine.get s (F.CELL_STATUS_SET_PEND n) = 1 → Machine.get s (F.CELL_STATUS_CLR_PEND n) ≠ 1 →
    Machine.get t (F.CELL_STATUS_CAPO_ACTIVE m) = 1 ∧ Machine.get t (F.CELL_STATUS_SET_PEND m) = 0) ∧
  (Machine.get s (F.CELL_STATUS_CLR_PEND n) = 1 → (∀ j ∈ pairOf s n, ∀ e ∈ queueOf s (j / 32), e.1 ≠ j) →
    Machine.get t (F.CELL_STATUS_CAPO_ACTIVE m) = 0 ∧ Machine.get t (F.CELL_STATUS_CLR_PEND m) = 0)

/-- The registers of a coefficient of a cell (R214, R225). -/
def coefRegs (n k : Nat) : List Fld :=
  [⟨(F.CELL_SETPOINT n).off + 4 * k, 0, 32⟩, F.CELL_IN_FORCE n k, F.CELL_GAIN_SHIFT_KP_SH n, F.CELL_GAIN_SHIFT_KI_SH n, F.CELL_GAIN_SHIFT_KD_SH n]

/-- The cells of a pair that take a register write, and those whose queue cannot take a coefficient (R214, R217). -/
def coefCells (s : State) (n : Nat) : List Nat := (pairOf s n).filter fun m => tileUp s (m / 32)
def coefFull (s : State) (n : Nat) : List Nat := (coefCells s n).filter fun m => isSet s (F.CELL_CTRL_EN m) && queueFull s m

/-- The fields that a cell's flag writes (R223, R224). -/
def flagFields (n : Nat) : List Fld := [F.CELL_FLAGS n, F.LE_CELL_EVT (n / 32), F.LE_EVT (n / 32), F.EVT_LOG_HEAD]

/-- Nothing has changed but the loop engine, the listed fields and the event log. -/
def WithinLoop (s t : State) (fs : List Fld) : Prop := inner t = { inner s with loop := t.loop } ∧ OnlyFields s t fs

/-- A head on track at most 16 bands from a band of its layer, with no slot open: it reaches that band by one jump (R187). -/
def nearBand (s : State) (h band layer : Nat) : Bool :=
  decide (Machine.get s (F.SV_STATUS_STATE h) = 5) && decide (layer = Machine.get s (F.SV_POS_LAYER h))
    && decide (band ≤ Machine.get s (F.SV_POS_BAND h) + 16) && decide (Machine.get s (F.SV_POS_BAND h) ≤ band + 16)
    && decide ((chanOf s h).slots = [])

/-- No write waits for its rows (R387). -/
def noDurable (s : State) : Bool := s.host.cmds.all fun c => decide (c.phase ≠ .durable)

/-- A verify has ended (R165, R167, R170): with a group still hidden by the degraded map, what could be seen is judged and one more revolution reads
that group; with every chunk passed the session is over; a lone chunk that failed is formatted for the next spare slot, with a remap, and a spare
pass begins. -/
def VerifyEnds (h : Nat) (s t : State) : Prop :=
  (allSeen s h = false →
    Machine.get t (F.WRP_STATUS_STATE h) = Machine.get s (F.WRP_STATUS_STATE h) ∧ (writeOf t h).extra = true ∧
    ∀ c ∈ (writeOf s h).chunks, addrTrack c.addr / 8 ≠ Machine.get s (F.HL_STATUS_GROUP h) → c ∉ (writeOf s h).passed → c ∈ (writeOf t h).failed) ∧
  (allSeen s h = true → allPassed s h = true → SessionDone h t) ∧
  (allSeen s h = true → noDurable s = true → (writeOf s h).passed = [] → ∀ c d a key x, toRespare s h = [c] → discOfHead s h = some d →
    nextSpare s d (h % 2) (addrLayer c.home) (fretOf (addrBand c.home)) = some (a, key) → formatChunk s h c.set c.row c.home a = some x →
    PassBegun h 4 (addrBand a) 1 s t ∧ (writeOf t h).chunks = [x] ∧ (writeOf t h).failed = [] ∧
    mapGet (fun _ => 0) (getDisc t d).remaps c.home = a ∧
    mapGet (fun _ => 0) (getDisc t d).spareUsed key = mapGet (fun _ => 0) (getDisc s d).spareUsed key + 1)

/-- A disc may be mounted for its work (R33, R295, R296, R321, R413): placement runs, it is in the library, fit for data, in no bay, and carries the
work that its leaf serves next. -/
def mountable (s : State) (d : Nat) : Bool :=
  isSet s F.ARB_CTRL_EN && decide (d < 1152) && isLeaf s (leafOfDisc s d) && decide (leafCar s (leafOfDisc s d) = d / 288) &&
    decide ((getDisc s d).state ≠ 0) && (decide ((getDisc s d).state < 6) || decide (9 < (getDisc s d).state)) &&
    decide ((getDisc s d).failRun < 2) && (baysOf s).all (fun b => decide ((mountOf s b).phase = 0) || decide ((mountOf s b).disc ≠ d)) &&
    isFront s d

/-- The disc of a bay starts to leave it (R148, R195, R239, R271): the heads hold no sector any more, the lenses retract, the spindle stops, and
the time mounted is counted. -/
def DiscLeaves (b : Nat) (s t : State) : Prop :=
  (mountOf t b).phase = 6 ∧ (mountOf t b).leave = false ∧
  (mountOf t b).time = (mountOf s b).time + (if (mountOf s b).phase = 5 then now s - (mountOf s b).since else 0) ∧
  (∀ h ∈ [2 * b, 2 * b + 1], (chanOf t h).sectors = [] ∧ (lensParked s h = false → Machine.get t (F.SV_STATUS_STATE h) = 9)) ∧
  (motSt s b = 3 → isSet s (F.MOT_STATUS_REGEN_BLOCKED b) = false → (spinOf t b).stopping = true ∧ Machine.get t (F.MOT_STATUS_SPEED_LOCK b) = 0) ∧
  (motSt s b = 1 ∨ motSt s b = 2 → motSt t b = 7) ∧ (motSt s b = 4 ∨ motSt s b = 5 → motSt t b = 6)

/-- A dismount is ordered (R170): at once, or after the extent under way with its verify and spare passes. -/
def Dismounts (b : Nat) (s t : State) : Prop :=
  (bayWriting s b = false → t = startDismount b s ∧ DiscLeaves b s t ∧ OnlyMount b s t) ∧
  (bayWriting s b = true → mountOf t b = { mountOf s b with leave := true } ∧
    inner t = { inner s with lib := { s.lib with mounts := t.lib.mounts } } ∧ OnlyMount b s t ∧ OnlyFields s t [])

/-- What releases a mounted disc without a pending request (R297, R301): it may not stay, or a bay is needed and none of its leaf has been idle
for longer, the lowest among equals. -/
def mayLeave (s : State) (b : Nat) : Bool :=
  bayInst s b && decide (b ∈ idleBays s (leafOfBay s b)) &&
    (!mayStay s b || (bayNeeded s (leafOfBay s b) && (idleBays s (leafOfBay s b)).all fun x =>
      decide ((mountOf s b).busyAt < (mountOf s x).busyAt) || (decide ((mountOf s b).busyAt = (mountOf s x).busyAt) && decide (b ≤ x))))

/-- A bay under relief whose disc a free bay of its leaf takes after MOUNT_HOLD_MAX (R301, R335). -/
def relieved (s : State) (b : Nat) : Bool :=
  bayInst s b && decide (b ∈ fullBays s (leafOfBay s b)) && decide (bitOf (Machine.get s (F.ARB_AR_AVOID (leafOfBay s b))) b = 1) &&
    (chooseBay s (leafOfBay s b) (mountOf s b).disc).isSome &&
    elapsed s (mountOf s b).since (156250000 * Machine.get s F.ARB_SCHED_MOUNT_HOLD_MAX)

/-- The priority of the work on a mounted disc, lowest where it has none, and the disc with the lowest of a leaf, in the lowest bay (R297). -/
def bayRank (s : State) (b : Nat) : Nat := (discPrio s (mountOf s b).disc).getD 9
def lastRanked (s : State) (b : Nat) : Bool :=
  (fullBays s (leafOfBay s b)).all fun x => decide (bayRank s x < bayRank s b) || (decide (bayRank s x = bayRank s b) && decide (b ≤ x))

/-- A filling row of an open set that may be sealed (R283, R287): it keeps a block, and fills its row unless another cause seals it; a set takes
rows up to its last ordinal. -/
def sealable (s : State) (hd cause : Nat) (f : Filling) : Bool :=
  decide ((getSet s hd).st = 1) && sealCause s f hd cause && f.blocks.all (keepBlock s) && decide (f.blocks ≠ []) &&
    (decide (cause ≠ 0) || decide (f.blocks.length = rowBlocks (getSet s hd).width)) &&
    decide (f.blocks.length ≤ rowBlocks (getSet s hd).width) && decide ((getSet s hd).nextOrd + 64 < discSlots)

/-- The padding rows that complete a slot group behind a row sealed early (R285). -/
def padsBehind (cause n : Nat) : Nat := if cause = 0 then 0 else (64 - (n + 1) % 64) % 64

/-- A closed epoch's checkpoint can be written (R36, R293): something waits, two mounted members of one open set on different bays have room. -/
def ckptReady (s : State) (d1 d2 : Nat) : Bool :=
  (decide (s.lib.closing ≠ []) || decide (s.lib.ckptEpoch ≠ Machine.get s F.ARB_EPOCH)) && decide ((getSet s (getDisc s d1).set).st = 1) &&
    decide ((getDisc s d2).set = (getDisc s d1).set) && (bayOfDisc s d1).isSome && (bayOfDisc s d2).isSome && decide (bayOfDisc s d1 ≠ bayOfDisc s d2) &&
    [d1, d2].all fun d => decide ((getDisc s d).ckptNext + (s.lib.closing.length + 6) / 7 ≤ ckptSlots)

/-- No rebuild context is in use (R323, R325). -/
def noContexts (s : State) : Bool :=
  (List.range 16).all fun i => decide (rbState s i = 0) && decide (Machine.get s (F.PAR_RB_SET i) = 65535)

/-- The fields that follow the placement state: those of every arbour, and those of the fragment pool (R289, R309, R310). -/
def arbourFields (s : State) : List Fld :=
  [F.ARB_STATUS_OPEN_SETS, F.EVT_LOG_HEAD] ++ (arbsOf s).flatMap fun a =>
    [F.ARB_AR_STATUS_HEALTH a, F.ARB_AR_CAP_TOTAL a, F.ARB_AR_CAP_LIVE a, F.ARB_AR_STATUS_OPEN_SETS a, F.ARB_AR_STATUS_BLANK a,
     F.ARB_AR_UNAVAIL a, F.ARB_AR_STATUS_CONSOLIDATING a, F.ARB_AR_EVT a]
def fragFields : List Fld := [F.ARB_FRAG_USED, F.ARB_STATUS_FRAG_HIGH, F.ARB_STATUS_FRAG_FULL, F.ARB_EVT, F.EVT_LOG_HEAD]

/-- Every rebuild context is free, a sealed set without a failed member, which need not be evacuated (R326), has lost member
`m`, and `x` is the spare that R323 takes for it. -/
def spareReady (s : State) (hd m x : Nat) : Bool :=
  decide ((getSet s hd).st = 2) && decide ((getSet s hd).failed = []) && decide ((getSet s hd).rows = []) && decide (rbWaiting s = []) &&
    decide (m < (getSet s hd).width) && decide (m < 32) &&
    decide (hd < 65535) && decide (pickSpare s hd m = some x) && decide (Machine.get s F.PAR_RB_CFG_RB_DOMAIN ≠ 0) &&
    !(isSet s F.PAR_CTRL_EVACUATE_EN && liveBelow s hd) &&
    (List.range 16).all fun j => decide (rbState s j = 0) && decide (Machine.get s (F.PAR_RB_SET j) = 65535)

/-- A member's sector of a row has to be reconstructed, and the row's answer is not given yet (R316, R319). -/
def reconDue (s : State) (hd r m : Nat) : Bool :=
  decide ((getSet s hd).st ≠ 0) && decide (m < (getSet s hd).width) && (cleanAt s ((getSet s hd).members.getD m 0) r).isNone &&
    decide (erasedOf (rowErased s hd r) m ≠ [])

/-- The checks of R318 pass for a member's reconstructed sector, and the payload that R317 gives it. -/
def reconGood (s : State) (hd r m : Nat) : Bool :=
  decide (badIndexes (rowErased s hd r) = []) &&
    reconChecks s hd (getSet s hd).width r m (selfAddr s ((getSet s hd).members.getD m 0) r) (homeAddr r) (rowReads s hd r) (rowErased s hd r)
def reconData (s : State) (hd r m : Nat) : List Nat :=
  reconPayload (getSet s hd).width r m (selfAddr s ((getSet s hd).members.getD m 0) r) (homeAddr r) (rowReads s hd r) (rowErased s hd r)

/-- A disc that stands for a member has failed by one of the causes of R321 (0 its mounts, 1 heads in two bays, 2 its losses, 3 a side or layer),
where the member, or the spare that stands for it, has not failed yet. -/
def failureHolds (s : State) (hd m kind : Nat) : Bool :=
  decide ((getSet s hd).st ≠ 0) && decide (m < (getSet s hd).width) &&
    (decide (m ∉ (getSet s hd).failed) || (memberSpare s hd m).isSome) && decide (kind < 4) &&
    (decide (kind ≠ 0) || decide (2 ≤ (getDisc s (memberDisc s hd m)).failRun)) &&
    (decide (kind ≠ 1) || decide (2 ≤ (getDisc s (memberDisc s hd m)).headBays.length)) &&
    (decide (kind ≠ 2) || decide (Machine.get s F.ARB_CONS_DEGRADE_LIM < (getDisc s (memberDisc s hd m)).losses)) &&
    (decide (kind < 2) || decide ((getDisc s (memberDisc s hd m)).state ≠ 4))

/-- A rebuild context goes on with the slot group at its cursor: it runs, no whole second has passed for it, nothing pauses it, its set
need not be evacuated, and what the rows of the group need has been read (R324 to R326, R329, R335). -/
def groupReady (s : State) (i : Nat) : Bool :=
  decide (i < 16) && decide (tickContext i s = s) && rbRunning s i && decide (rbState s i ≠ Rb.mount) && !rbPaused s i &&
    !mayEvacuate s (Machine.get s (F.PAR_RB_SET i)) && decide (rbGroup s i ≠ []) && groupKnown s i

/-- The rows of the group at a context's cursor that were recorded, and the state in which those that are still to be done have been rebuilt. -/
def groupRows (s : State) (i : Nat) : List Nat := recordedRows s (Machine.get s (F.PAR_RB_SET i)) (rbGroup s i)
def groupRebuilt (s : State) (i : Nat) : State :=
  ((groupRows s i).filter fun o => !rowDone s i o).foldl (fun u o => rebuildRow i (groupBlank s i) o u) s

/-- A context's member that is failed and has its spare (`second` for MEMBER2), and one that is complete at the end of the phase (R324, R327). -/
def rbLiveAt (s : State) (i : Nat) (second : Bool) : Bool :=
  if second then rbSecond s i && decide (Machine.get s (F.PAR_RB_STATUS_MEMBER2 i) ∈ (getSet s (Machine.get s (F.PAR_RB_SET i))).failed) &&
      decide (Machine.get s (F.PAR_RB_SPARES_2 i) ≠ 0x7ff)
  else decide (Machine.get s (F.PAR_RB_STATUS_MEMBER1 i) ∈ (getSet s (Machine.get s (F.PAR_RB_SET i))).failed) &&
      decide (Machine.get s (F.PAR_RB_SPARES_1 i) ≠ 0x7ff)
def rbCompleteAt (s : State) (i : Nat) (second : Bool) : Bool :=
  rbLiveAt s i second && (decide (rbState s i = Rb.wrap) ||
    decide ((if second then Machine.get s (F.PAR_RB_START2 i) else mapGet (fun _ => 0) s.par.start1 i) = 0))

/-- A context has reached the end of its phase, and every chunk of the members that are complete has been verified (R324, R327). -/
def phaseOver (s : State) (i : Nat) : Bool :=
  decide (i < 16) && decide (rbState s i = Rb.run ∨ rbState s i = Rb.joint ∨ rbState s i = Rb.wrap) &&
    decide (rbLast s i ≤ Machine.get s (F.PAR_RB_CURSOR i)) &&
    s.par.out.all fun x => (!rbCompleteAt s i false || decide (x.disc ≠ Machine.get s (F.PAR_RB_SPARES_1 i))) &&
      (!rbCompleteAt s i true || decide (x.disc ≠ Machine.get s (F.PAR_RB_SPARES_2 i)))

/-- The complete members of a context have taken their place. -/
def membersIn (s : State) (i : Nat) : State :=
  let hd := Machine.get s (F.PAR_RB_SET i)
  let s1 := if rbCompleteAt s i false then replaceMember hd (Machine.get s (F.PAR_RB_STATUS_MEMBER1 i)) (Machine.get s (F.PAR_RB_SPARES_1 i)) s else s
  if rbCompleteAt s i true then replaceMember hd (Machine.get s (F.PAR_RB_STATUS_MEMBER2 i)) (Machine.get s (F.PAR_RB_SPARES_2 i)) s1 else s1

/-- No other set waits for a rebuild context, and no context waits for its turn (R325). -/
def nobodyWaits (s : State) : Bool :=
  decide (rbWaiting s = []) && (List.range 16).all fun j => decide (rbState s j ≠ 0) || decide (Machine.get s (F.PAR_RB_SET j) = 65535)

/-- A reshape can be retired (R306, R333): it runs, and its source set has neither live blocks nor readers nor rows in flight. -/
def reshapeEmpty (s : State) (j : Nat) : Bool :=
  decide (j < 4) && decide (Machine.get s (F.PAR_RS_STATUS_STATE j) = 1) && decide ((getSet s (Machine.get s (F.PAR_RS_SET j))).live = 0) &&
    decide ((getSet s (Machine.get s (F.PAR_RS_SET j))).reads = 0) && decide ((getSet s (Machine.get s (F.PAR_RS_SET j))).rows = [])

/-- The fields of a rebuild context that its start writes (R325, R326, R338), those of PAR.STATUS with the arbours' REBUILD bits,
and those that PAR.CMD and PAR.CMD_STATUS hold (R337). -/
def rbFields (i : Nat) : List Fld :=
  [F.PAR_RB_STATUS_STATE i, F.PAR_RB_STATUS_MEMBER1 i, F.PAR_RB_STATUS_MEMBER2_VALID i, F.PAR_RB_STATUS_DOMAIN i, F.PAR_RB_SET i,
   F.PAR_RB_SPARES_1 i, F.PAR_RB_SPARES_2 i, F.PAR_RB_CURSOR i, F.PAR_RB_START2 i, F.PAR_RB_END i, F.PAR_RB_ROWS_LOST i,
   F.PAR_RB_ELAPSED_RUN i, F.PAR_RB_ELAPSED_PAUSE i]
def parFields (s : State) : List Fld := [F.PAR_STATUS_RB, F.PAR_STATUS_RS] ++ (arbsOf s).map F.ARB_AR_STATUS_REBUILD
def parCmdFields : List Fld :=
  [F.PAR_CMD_SET, F.PAR_CMD_MEMBER, F.PAR_CMD_OP, F.PAR_CMD_CONTEXT, F.PAR_CMD_GO, F.PAR_CMD_STATUS_BUSY, F.PAR_CMD_STATUS_OP,
   F.PAR_CMD_STATUS_RESULT, F.PAR_CMD_STATUS_CTX]
def ParAnswers (op result ctx : Nat) (t : State) : Prop :=
  Machine.get t F.PAR_CMD_STATUS_OP = op ∧ Machine.get t F.PAR_CMD_STATUS_RESULT = result ∧ Machine.get t F.PAR_CMD_STATUS_CTX = ctx ∧
  Machine.get t F.PAR_CMD_STATUS_BUSY = 0 ∧ Machine.get t F.PAR_CMD_GO = 0

/-- A member of a sealed set has failed and its rebuild begins with a spare in context 0 (R321, R323, R325, R326). -/
def FailsOver (hd m x : Nat) (s t : State) (more : List Fld) : Prop :=
  getSet t hd = { getSet s hd with failed := [m], unread := m :: (getSet s hd).unread, failedAt := s.lib.issue } ∧
  (getDisc t x).state = 3 ∧ (getDisc t x).set = hd ∧ (getDisc t x).member = m ∧
  rbState t 0 = 2 ∧ Machine.get t (F.PAR_RB_SET 0) = hd ∧ Machine.get t (F.PAR_RB_STATUS_MEMBER1 0) = m ∧
  Machine.get t (F.PAR_RB_STATUS_MEMBER2_VALID 0) = 0 ∧ Machine.get t (F.PAR_RB_SPARES_1 0) = trunc 11 x ∧
  Machine.get t (F.PAR_RB_CURSOR 0) = 0 ∧ Machine.get t (F.PAR_RB_END 0) = trunc 64 (getSet s hd).nextOrd ∧
  Machine.get t F.PAR_MEMBERS_FAILED = trunc 32 (satAdd 32 (Machine.get s F.PAR_MEMBERS_FAILED) 1) ∧
  Machine.get t F.PAR_SPARES_TAKEN = trunc 32 (satAdd 32 (Machine.get s F.PAR_SPARES_TAKEN) 1) ∧
  Machine.get t F.PAR_STATUS_RB = 1 ∧ Raised t evPAR B.PAR_EVT_MEMBER_FAILED ∧
  t.plp.tail = s.plp.tail ++ [.cursor hd 0, .cursor (131072 + hd) 0] ∧ t.par.clean = s.par.clean ∧ t.par.out = s.par.out ∧
  inner t = { inner s with
    lib := { s.lib with sets := t.lib.sets, discs := t.lib.discs, issue := s.lib.issue + 1 }, plp := { s.plp with tail := t.plp.tail },
    par := t.par, flash := { s.flash with dirA := t.flash.dirA, dirB := t.flash.dirB }, host := toldHost s t } ∧
  OnlySet hd s t ∧ OnlyDiscs [x] s t ∧
  OnlyFields s t ([F.PAR_MEMBERS_FAILED, F.PAR_SPARES_TAKEN] ++ rbFields 0 ++ evFields evPAR ++ parFields s ++ arbourFields s ++ more)

/-- A set has been retired: its handle is free and its discs have left it (R306). -/
def Retired (hd : Nat) (s t : State) : Prop :=
  getSet t hd = {} ∧ (∀ d ∈ (getSet s hd).members, (getDisc s d).set = hd → (getDisc t d).state = 5 ∧ (getDisc t d).set = 0xffff) ∧
  (∀ d, (getDisc s d).set ≠ hd → getDisc t d = getDisc s d) ∧ Raised t (evAR (getSet s hd).domain) B.ARB_AR_EVT_SET_RETIRED ∧
  inner t = { inner s with
    lib := { s.lib with sets := t.lib.sets, discs := t.lib.discs },
    flash := { s.flash with dirA := t.flash.dirA, dirB := t.flash.dirB }, host := toldHost s t } ∧
  OnlySet hd s t ∧ OnlyDiscs (getSet s hd).members s t

/-- Nothing has changed but the buffer memory and the map cache, the listed fields and the event log. -/
def WithinBuf (s t : State) (fs : List Fld) : Prop := inner t = { inner s with buf := t.buf } ∧ OnlyFields s t fs

/-- Every other raw word, and every other valid bit, reads as before. -/
def OnlyWords (ks : List Nat) (s t : State) : Prop :=
  ∀ k, k ∉ ks → mapGet (fun _ => 0) t.buf.words k = mapGet (fun _ => 0) s.buf.words k
def OnlyValid (ks : List Nat) (s t : State) : Prop :=
  ∀ k, k ∉ ks → mapGet (fun _ => 0) t.buf.valid k = mapGet (fun _ => 0) s.buf.valid k

/-- A channel has left service with a cause (R354): its states, the exposed pair, the entry of the fault log, the forced
epoch switch and the sets that are asked to be written out. -/
def LeavesService (ch cause : Nat) (s t : State) : Prop :=
  Machine.get t (F.BUF_CH_STATUS_STATE ch) = 1 ∧ Machine.get t (F.BUF_CH_STATUS_CAUSE ch) = trunc 4 cause ∧
  Machine.get t F.BUF_STATUS_STATE = 3 ∧
  Machine.get t F.BUF_STATUS_IN_SERVICE = trunc 16 (Machine.get s F.BUF_STATUS_IN_SERVICE &&& (0xffff ^^^ 2 ^ ch)) ∧
  bitOf (Machine.get t (F.BUF_CH_EVT ch)) B.BUF_CH_EVT_OUT_OF_SERVICE = 1 ∧
  isExposed t Dom.ddr (ch % 8) = true ∧
  ((∀ w ∈ s.windows, w.kind ≠ Dom.ddr ∨ w.inst ≠ ch % 8) → t.faultLog.head? = some ⟨now s, 0, Dom.ddr, ch % 8, 0, 116 + ch⟩) ∧
  Machine.get t F.ARB_EPOCH = trunc 64 (Machine.get s F.ARB_EPOCH + 1) ∧
  (∀ hd ∈ handles s, ((getSet s hd).rows.any fun r => (rowPages r).any fun p => decide (p % 8 = ch % 8)) = true → (getSet t hd).due = true) ∧
  (∀ c ∈ t.par.clean, c ∈ s.par.clean ∧ ∀ p ∈ c.pages, (primaryOf s (4096 * p)).1 ≠ ch) ∧
  inner t = { inner s with
    exposed := t.exposed, faultLog := t.faultLog, host := toldHost s t, par := { s.par with clean := t.par.clean },
    buf := { s.buf with valid := t.buf.valid, lines := t.buf.lines, slices := t.buf.slices, ueTimes := t.buf.ueTimes },
    lib := { s.lib with
      sets := t.lib.sets, issue := t.lib.issue, closing := t.lib.closing, changed := t.lib.changed, rowsSince := t.lib.rowsSince,
      report := t.lib.report, reportSeq := t.lib.reportSeq, overwritten := t.lib.overwritten } } ∧
  OnlyFields s t [F.BUF_CH_STATUS_STATE ch, F.BUF_CH_STATUS_CAUSE ch, F.BUF_STATUS_STATE, F.BUF_STATUS_IN_SERVICE, F.BUF_CH_EVT ch,
    F.EVT_LOG_HEAD, F.EVT_FW_OPEN_NOW, F.EVT_FW_OPEN_TOTAL, F.ARB_EPOCH, F.MAP_DIRTY]

/-- The fields of the head blocks and of the bay and carousel blocks, below the arbours (R1, R531). -/
def mechField (f : Fld) : Bool :=
  (decide (8 * 0x1000000 ≤ f.key) && decide (f.key < 8 * 0x2000000)) || (decide (8 * 0x3000000 ≤ f.key) && decide (f.key < 8 * 0x3240000))

/-- Every field outside those blocks reads as before, but the listed ones. -/
def OnlyFieldsBesideMech (s t : State) (fs : List Fld) : Prop :=
  ∀ f : Fld, mechField f = false → f.key ∉ fs.map Fld.key → Machine.get t f = Machine.get s f

/-- The mechanism has stopped (R430): every gate is closed and no head is on its track, no spindle is driven, the stepper enables are cleared and the
carousel inverters are off. -/
def MechanismStopped (s t : State) : Prop :=
  (∀ h ∈ headsOf s, Machine.get t (F.WRP_STATUS_GATE h) = 0 ∧ Machine.get t (F.SV_STATUS_STATE h) ≠ 5) ∧ (∀ b ∈ baysOf s, motSt t b = 0 ∨ motSt t b = 6 ∨ motSt t b = 8) ∧
  (∀ b ∈ baysOf s, (busOf t b).stepEn = false) ∧ (∀ c ∈ carsOf s, cmotSt t c = 0 ∧ (crsOf t c).inverter = false)

/-- A chip reset with a trigger (R522, R539): the flash and the fuses keep their content, the media and the vault too; every
register is at its reset value but the reset cause, the retained words, the wake timer and the listed fields. -/
def ChipReset (trigger : Nat) (s t : State) (more : List Fld) : Prop :=
  Machine.get t F.PWR_RESET_CAUSE_KIND = 1 ∧ Machine.get t F.PWR_RESET_CAUSE_TRIGGER = trunc 4 trigger ∧
  (∀ i < 16, 4 ≤ i → Machine.get t (F.PWR_RETAIN i) = trunc 32 (Machine.get s (F.PWR_RETAIN i))) ∧
  Machine.get t (F.PWR_RETAIN 0) = trunc 32 (1 + 16 * trigger) ∧
  Machine.get t F.PWR_WAKE_TIME = trunc 48 (Machine.get s F.PWR_WAKE_TIME) ∧
  t.flash = s.flash ∧ t.fuse = { s.fuse with op := none } ∧ t.lib = libMedia s.lib ∧ t.plp.vault = s.plp.vault ∧
  t.heads = [] ∧ t.buses = [] ∧ t.axes = [] ∧ t.spindles = [] ∧ t.carousels = [] ∧ t.buf = {} ∧ t.host.cmds = [] ∧ t.host.queues = [] ∧
  OnlyFields State.reset t ([F.PWR_RESET_CAUSE_KIND, F.PWR_RESET_CAUSE_TRIGGER, F.PWR_WAKE_CMP, F.PWR_WAKE_TIME] ++
    (List.range 16).map F.PWR_RETAIN ++ more)

/-- A function's admin commands that serve a block without a tablature are carried out (R396, R490, R543). -/
def recoveryOpen (s : State) (fn : Nat) : Bool :=
  (if fn = 512 then s.pwr.started && decide (s.pwr.hold = 0) else isSet s (F.HST_FN_STATUS_CCEN fn)) && !s.pwr.powerLoss
    && !isSet s F.DMP_STATUS_FATAL

/-- A calibration procedure has begun with its reference within 2 % of 1.250 V (R454, R458). -/
def CalBegins (j : CalJob) (x : CalSeen) (skip : Bool) (s t : State) : Prop :=
  Machine.get t F.CAL_SKIPPED = 0 ∧ Machine.get t F.CAL_STATUS_BUSY = 1 ∧ Machine.get t F.CAL_STATUS_STEP = (if skip then 4 else 1) ∧
  (skip = false → Machine.get t F.CAL_REF = x.ref ∧ Machine.get t F.CAL_STATUS_REF_OK = 1) ∧
  inner t = { inner s with
    cal := { s.cal with
      job := some j, seen := x, plan := calPlan j skip, period := 0, written := [], skip := [], sums := [], counts := [], changed := false } } ∧
  OnlyFields s t ([F.CAL_SKIPPED, F.CAL_STATUS_BUSY, F.CAL_STATUS_STEP] ++ if skip then [] else [F.CAL_REF, F.CAL_STATUS_REF_OK])

/-- The registers that the fuses' shadow gives their reset values (R466, R467, R492), and a fuse word that has grown. -/
def fuseFields : List Fld :=
  [F.GLB_HW_TYPE, F.GLB_UNIT_ID_LO, F.GLB_UNIT_ID_HI, F.FUS_STATUS_SEALED, F.FUS_PROT, F.FUS_ROLLBACK, F.FUS_BOUNDS, F.FUS_BOUNDS2,
   F.CAL_STATUS_MODE, F.CAL_BOUNDS_GAIN_B, F.CAL_BOUNDS_OFS_B, F.CAL_REFADC_GAIN, F.CAL_REFADC_OFFSET, F.CAL_HU_GAIN, F.CAL_HU_OFFSET] ++
  (List.range 65).map F.CAL_DIE ++ (List.range 96).map F.FUS_SLOT ++ (List.range 128).map F.FUS_WORD
def Blown (i mask : Nat) (s t : State) : Prop :=
  fuseWord t i = trunc 64 (fuseWord s i ||| mask) ∧ (∀ j, j ≠ i → fuseWord t j = fuseWord s j)

/-- The registers that show the firmware's letters (R513, R514), and those of its session (R498). -/
def fwFields : List Fld :=
  [F.FWU_STATUS_ACTIVE_B, F.FWU_STATUS_ARMED_B, F.FWU_STATUS_JOURNAL, F.FWU_STATUS_SIGNER, F.FWU_SEC_VER_ACTIVE, F.FWU_SEC_VER_OTHER,
   F.FWU_FALLBACKS] ++ (List.range 5).map F.FWU_VER ++ (List.range 5).map F.FWU_ALT
def fwSessFields : List Fld := [F.FWU_STATUS_SESSION_OPEN, F.FWU_STATUS_HOLDER, F.FWU_STAGED]

/-- A source may load firmware, and no other holds the session (R468, R498). -/
def fwHolds (s : State) (fn : Nat) : Bool :=
  recoveryOpen s fn && mayLoad s fn 12 && (match s.host.fwSess with | none => true | some x => decide (x.holder = fn))

/-- The host interface where the firmware session has ended and a completion has been posted. -/
def fwHost (s t : State) : HostSt := { s.host with fwSess := none, posted := t.host.posted, errors := t.host.errors }

/-- A fatal cause may still be declared: the state is not fatal and nothing holds the chip (R541, R547). -/
def fatalOpen (s : State) : Bool :=
  !isSet s F.DMP_STATUS_FATAL && !s.pwr.powerLoss && decide (s.pwr.hold = 0) && decide (s.thm.stop = 0)

/-- The fatal state has been entered with dump `d` (R541, R542, R544): the dump stands in SRAM, the mechanism has stopped, every function
reports CFS, every failure window has closed, firmware on probation falls back, and the data dump has begun where the vault is usable, unless
the clocks are gone. Where no command is in progress, no failure window is open and no new firmware is on probation, nothing else changes. -/
def FatalEntered (cause detail : Nat) (d : Dump) (s t : State) (more : List Fld) : Prop :=
  Machine.get t F.DMP_STATUS_FATAL = 1 ∧ Machine.get t F.DMP_STATUS_IN_SRAM = 1 ∧ Machine.get t F.DMP_CAUSE_CAUSE = trunc 16 cause ∧
  Machine.get t F.DMP_CAUSE_DETAIL = trunc 16 detail ∧ Machine.get t F.PWR_STATUS_TRANSITION = 0 ∧
  t.mgt = { s.mgt with sram := some d, dumping := true, entered := now s } ∧ t.pwr = { s.pwr with phase := 0 } ∧
  MechanismStopped s t ∧ (∀ fn < 512, Machine.get t (F.HST_FN_STATUS_CFS fn) = 1) ∧
  ((s.flash.fw.state = 2 ∨ s.flash.fw.state = 3) → t.flash.fw.fellBack = true) ∧
  (s.host.cmds = [] → s.windows = [] → s.flash.fw.state ≠ 2 → s.flash.fw.state ≠ 3 →
    (cause = 2 → t.plp = s.plp) ∧
    ((isSet s F.PLP_STATUS_VAULT_OK && clocked s && !isSet s F.PLP_STATUS_RECOVERING && !s.plp.dumping && !s.plp.dumped) = true → cause ≠ 2 →
      t.plp.dumping = true ∧ t.plp.vault.dumpTail = fullTail s) ∧
    inner t = { inner s with
      mgt := t.mgt, pwr := t.pwr,
      plp := { s.plp with vault := t.plp.vault, header := t.plp.header, dumping := t.plp.dumping, lossAt := t.plp.lossAt },
      host := { s.host with queues := s.host.queues.map fun q => { q with bells := [] }, fetching := [] },
      heads := t.heads, buses := t.buses, axes := t.axes, spindles := t.spindles, carousels := t.carousels } ∧
    OnlyFieldsBesideMech s t ([F.DMP_STATUS_FATAL, F.DMP_STATUS_IN_SRAM, F.DMP_CAUSE_CAUSE, F.DMP_CAUSE_DETAIL, F.DMP_TIME, F.DMP_LEN,
      F.PWR_STATUS_TRANSITION, F.EVT_LOG_HEAD] ++ (List.range 512).map F.HST_FN_STATUS_CFS ++ more))

/-- A released fatal hold has ended in a chip reset, counted as a fatal restart (R522, R543). -/
def FatalReleased (trigger : Nat) (s t : State) : Prop :=
  Machine.get t F.DMP_STATUS_FATAL = 0 ∧
  Machine.get t F.DMP_RESTARTS_TOTAL = trunc 16 (satAdd 16 (Machine.get s F.DMP_RESTARTS_TOTAL) 1) ∧
  t.mgt.restarts.head? = some (Machine.get s F.PWR_WAKE_TIME) ∧ t.mgt.flash = s.mgt.flash ∧
  (Machine.get t F.DMP_STATUS_AUTO_BLOCKED = 1 ↔ 3 ≤ t.mgt.restarts.length) ∧
  ChipReset trigger s t [F.DMP_RESTARTS_HOUR, F.DMP_RESTARTS_TOTAL, F.DMP_STATUS_AUTO_BLOCKED, F.DMP_STATUS_IN_FLASH]

/-- A power loss has been declared (R430, R435), with the core rails `bad` out of tolerance: the mechanism has stopped, the host is silent, the
calibration procedure is dropped, and the dump has begun where the vault is usable. Nothing else changes. -/
def LossDeclared (bad : List Nat) (s t : State) : Prop :=
  t.pwr = { s.pwr with powerLoss := true, phase := 0, railBad := bad } ∧ Raised t evPLP B.PLP_EVT_POWER_LOSS ∧ MechanismStopped s t ∧
  Machine.get t F.HST_INFLIGHT = 0 ∧ Machine.get t F.CAL_STATUS_BUSY = 0 ∧
  ((isSet s F.PLP_STATUS_VAULT_OK && clocked s && !isSet s F.PLP_STATUS_RECOVERING && !s.plp.dumping && !s.plp.dumped) = true →
    t.plp.dumping = true ∧ t.plp.lossAt = now s ∧ t.plp.vault.dumpTail = fullTail s) ∧
  inner t = { inner s with
    pwr := t.pwr,
    plp := { s.plp with testV0 := none, vault := t.plp.vault, header := t.plp.header, dumping := t.plp.dumping, lossAt := t.plp.lossAt },
    host := { s.host with cmds := [], fetching := [] }, cal := { s.cal with job := none, plan := [], waiting := [], written := [] },
    heads := t.heads, buses := t.buses, axes := t.axes, spindles := t.spindles, carousels := t.carousels } ∧
  OnlyFieldsBesideMech s t ([F.HST_INFLIGHT, F.HST_INFLIGHT_C0, F.CAL_STATUS_BUSY, F.CAL_STATUS_STEP] ++ evFields evPLP)

/-- A power state has been entered (R521): no transition is left and nothing waits for one. -/
def PowerEntered (st : Nat) (s t : State) : Prop :=
  Machine.get t F.PWR_STATUS_STATE = st ∧ Machine.get t F.PWR_STATUS_TRANSITION = 0 ∧ Raised t evPWR B.PWR_EVT_STATE_CHANGE ∧
  t.pwr = { s.pwr with phase := 0, wake := false, toDorm := false, fetchOff := decide (st = 2), held := t.pwr.held }
def powerFields : List Fld := [F.PWR_STATUS_STATE, F.PWR_STATUS_TRANSITION] ++ evFields evPWR

/-- Run to Poised (R521): while an extent runs the transition waits for it; otherwise every lens retracts and Poised is entered. -/
def Poises (s t : State) (more : List Fld) : Prop :=
  (extentRuns s = true → Machine.get t F.PWR_STATUS_TRANSITION = 1 ∧ inner t = { inner s with pwr := { s.pwr with phase := 1 } } ∧
    OnlyFields s t (F.PWR_STATUS_TRANSITION :: more)) ∧
  (extentRuns s = false → PowerEntered 1 s t ∧ t.pwr.held = s.pwr.held ∧ (∀ h ∈ headsOf s, LensRetracts h s t) ∧
    ((∀ h ∈ headsOf s, lensParked s h = true) → inner t = { inner s with pwr := t.pwr } ∧ OnlyFields s t (powerFields ++ more)))

/-- Poised to Run (R521): each retracted head for which R180 allows it pulls in at the layer it was on, without CAL. -/
def Unpoises (s t : State) (more : List Fld) : Prop :=
  PowerEntered 0 s t ∧ t.pwr.held = s.pwr.held ∧
  (∀ h ∈ headsOf s, Machine.get s (F.SV_STATUS_STATE h) = 1 → pullInOk s h = true →
    Machine.get t (F.SV_STATUS_STATE h) = 2 ∧ (servoOf t h).jumpTo = Machine.get s (F.SV_POS_LAYER h) % 16 ∧ (servoOf t h).calSweep = false) ∧
  ((∀ h ∈ headsOf s, Machine.get s (F.SV_STATUS_STATE h) ≠ 1 ∨ pullInOk s h = false) →
    inner t = { inner s with pwr := t.pwr } ∧ OnlyFields s t (powerFields ++ more))

/-- The entry to Parked has begun (R283, R521), on the way to Dormant or not, with the functions `d3` in D3hot: command fetch has stopped. Where no row
is filling and no dirty data stands in Poised, nothing else changes. -/
def ParksBegun (toDorm : Bool) (d3 : List Nat) (s t : State) (more : List Fld) : Prop :=
  Machine.get t F.PWR_STATUS_TRANSITION = 1 ∧
  t.pwr = { s.pwr with d3 := d3, phase := 2, wake := false, toDorm := toDorm, fetchOff := true } ∧
  (s.lib.filling = [] → (Machine.get s F.PWR_STATUS_STATE = 0 ∨ Machine.get s F.PLP_D_DIRTY = 0) →
    inner t = { inner s with pwr := t.pwr } ∧ OnlyFields s t (F.PWR_STATUS_TRANSITION :: more))

/-- Parked to Run (R520, R521): the map cache and DDR5 are back, head links that are enabled train, steppers and carousels are enabled, and the
spindles of mounted discs spin up. -/
def Unparks (s t : State) : Prop :=
  PowerEntered 0 s t ∧ (Machine.get s F.GLB_INST_MISC_DDR_CH ≠ 0 → bitOf (Machine.get t F.CLK_STATUS_LOCKED) 1 = 1) ∧
  (isSet s F.MAP_CTRL_EN = true → Machine.get t F.MAP_STATUS_STATE = Mc.enabled) ∧
  (∀ h ∈ headsOf s, isSet s (F.HL_CTRL_EN h) = true → Machine.get s (F.HL_STATUS_STATE h) = 0 → Machine.get t (F.HL_STATUS_STATE h) = 1) ∧
  (∀ c ∈ carsOf s, isSet s (F.CMOT_CTRL_EN c) = true → (crsOf t c).inverter = true) ∧
  (∀ b ∈ baysOf s, linkUp s b = true → isSet s (F.CMOT_STATUS_OV_LATCHED (carOfBay s b)) = false → (busOf t b).stepEn = true ∧
    ((mountOf s b).phase = 5 → b ∉ s.thm.parked → motSt s b = 0 → isSet s (F.MOT_CTRL_EN b) = true → 9600 ≤ Machine.get s (F.MOT_KE_MAX_RPM b) →
      motSt t b = 1 ∧ (spinOf t b).target = if b ∈ s.thm.slowed then 4800 else 9600))

/-- The map cache has been written back and is off, and every bay stops: its lenses retract and no spindle is driven on (R521). -/
def BaysStop (s t : State) : Prop :=
  t.pwr = { s.pwr with phase := 3 } ∧ t.buf.lines = [] ∧ Machine.get t F.MAP_STATUS_STATE = Mc.disabled ∧
  (∀ b ∈ baysOf s, bayParked t b = true ∧ (motSt t b = 3 → (spinOf t b).stopping = true))

/-- Parked has been entered (R520, R521): head links off, stepper enables clear, settled carousels released, DDR5 in self-refresh. -/
def ParkedEntered (s t : State) : Prop :=
  PowerEntered 2 s t ∧ (∀ h ∈ headsOf s, Machine.get t (F.HL_STATUS_STATE h) = 0) ∧ (∀ b ∈ baysOf s, (busOf t b).stepEn = false) ∧
  (∀ c ∈ carsOf s, cmotSt s c = 2 → cmotSt t c = 0 ∧ (crsOf t c).inverter = false) ∧ bitOf (Machine.get t F.CLK_STATUS_LOCKED) 1 = 0

/-- The head links of a die, and its bay and carousel links, lose their clock (R79, R95, R518). -/
def LinksLose (s t : State) (d : Nat) : Prop :=
  (∀ h ∈ headsOf s, h / 16 = d → Machine.get t (F.HL_STATUS_STATE h) < 2 ∨ 5 < Machine.get t (F.HL_STATUS_STATE h)) ∧
  (∀ l < 36, (if l < 32 then l / 8 else l - 32) = d → linkInst s l = true → linkUp t l = false)

/-- A start-up may run: the chip is held by nothing but RESET_N, every supply is good, and nothing has started or failed (R524). -/
def startReady (s : State) : Bool :=
  !s.pwr.dormant && (decide (s.pwr.hold = 0) || decide (s.pwr.hold = 3)) && decide (s.pwr.railBad = []) && !s.pwr.started && !s.pwr.powerLoss &&
    decide (Machine.get s F.PWR_STATUS_START_STEP = 0) && !isSet s F.DMP_STATUS_FATAL

/-- The error recorded first stays, and a further one shows in OVERFLOW (R27). -/
def KeepsFirstError (s t : State) : Prop :=
  Machine.get t F.GLB_ACC_ERR_OVERFLOW = 1 ∧ Machine.get t F.GLB_ACC_ERR_VALID = 1 ∧
  Machine.get t F.GLB_ACC_ERR_OFFSET = Machine.get s F.GLB_ACC_ERR_OFFSET ∧ Machine.get t F.GLB_ACC_ERR_REQ = Machine.get s F.GLB_ACC_ERR_REQ ∧
  Machine.get t F.GLB_ACC_ERR_KIND = Machine.get s F.GLB_ACC_ERR_KIND ∧ Machine.get t F.GLB_ACC_ERR_WRITE = Machine.get s F.GLB_ACC_ERR_WRITE

/-- The register window is held in its one form: bit addresses strictly rising, in the values written, the values loaded at
start-up and the values in force. -/
def WindowCanonical (s : State) : Prop :=
  mapRising none s.regs = true ∧ mapRising none s.loaded = true ∧ mapRising none s.force = true

/-- The buffer memory is held in its one form: rising addresses, and no word listed that reads as an unlisted one does. -/
def BufferCanonical (s : State) : Prop := mapWf (fun _ => 0) s.buf.words = true ∧ mapWf (fun _ => 0) s.buf.valid = true

/-- The event log and the fault log keep to their rings: 1,024 entries (R533) and 64 entries (R545). -/
def LogsFit (s : State) : Prop := s.log.length ≤ 1024 ∧ s.faultLog.length ≤ 64

/-- What every step keeps. -/
def Inv (s : State) : Prop := WindowCanonical s ∧ BufferCanonical s ∧ LogsFit s

end Sys2Proof
end

