-- ==== Sys2Proof/WellFormed.lean ====
section
/-! DEFINITION. The well-formed commands: every index names an instance of the range R19 gives. -/

namespace Sys2Proof

/-- Whether every index operand of a command lies in its range of instances (R19). -/
def Instr.wf : Instr → Bool
  | .registerWrite rq off _ _ => decide (rq < 10) && decide (off < 268435456)
  | .accessError rq off _ _ _ => decide (rq < 10) && decide (off < 268435456)
  | .lowHalfRead rq reg => decide (rq < 10) && decide (reg < 268435452)
  | .highHalfRead rq reg => decide (rq < 10) && decide (reg < 268435452)
  | .lowHalfWrite rq reg _ => decide (rq < 10) && decide (reg < 268435452)
  | .highHalfWrite rq reg _ => decide (rq < 10) && decide (reg < 268435452)
  | .full64BitAccess rq reg _ _ => decide (rq < 10) && decide (reg < 268435452)
  | .debugPortWindowAccess off _ _ _ => decide (off < 268435456)
  | .accErrClear => true
  | .rwbBoundary _ _ => true
  | .barrier a => decide (a < 256)
  | .barrierComplete a => decide (a < 256)
  | .broadcast a => decide (a < 256)
  | .snapshotEpochSwitch a => decide (a < 256)
  | .subtreeReset a => decide (a < 256)
  | .subtreeResetMechanical a => decide (a < 256)
  | .servoTick _ => true
  | .upstreamSuperframe h lane _ => decide (h < 64) && decide (lane < 4)
  | .markerLoss h lane => decide (h < 64) && decide (lane < 4)
  | .servoBlock h _ => decide (h < 64)
  | .servoMiss h => decide (h < 64)
  | .sampleCodeword h lane _ => decide (h < 64) && decide (lane < 4)
  | .messageCodeword h lane _ => decide (h < 64) && decide (lane < 4)
  | .ack h => decide (h < 64)
  | .ident h => decide (h < 64)
  | .event h => decide (h < 64)
  | .pong h => decide (h < 64)
  | .firmwareMessage h => decide (h < 64)
  | .unknownMessage h => decide (h < 64)
  | .messageRetransmit h => decide (h < 64)
  | .msgFail h => decide (h < 64)
  | .laneFault h lane => decide (h < 64) && decide (lane < 4)
  | .laneMapSwitch h => decide (h < 64)
  | .hlEnable h _ => decide (h < 64)
  | .hlTrain h => decide (h < 64)
  | .laserPermit h _ => decide (h < 64)
  | .hlClrCnt h => decide (h < 64)
  | .degrGroup h _ => decide (h < 64)
  | .hlAdcWrite h _ _ => decide (h < 64)
  | .prbsSeen h _ => decide (h < 64)
  | .lanesQualified h _ => decide (h < 64)
  | .alignLocked h _ => decide (h < 64)
  | .identConfigInForce h => decide (h < 64)
  | .trainingTimeout h => decide (h < 64)
  | .mboxSend h => decide (h < 64)
  | .mboxRxClear h => decide (h < 64)
  | .mboxStall h => decide (h < 64)
  | .pwmPeriod => true
  | .bayHeader l _ _ _ => decide (l < 36)
  | .baySample l _ _ _ _ => decide (l < 36)
  | .bayIdent l _ _ => decide (l < 36)
  | .bayLinkUp l => decide (l < 36)
  | .bayLinkDown l => decide (l < 36)
  | .bayTrainingRestart l => decide (l < 36)
  | .blEnable l _ => decide (l < 36)
  | .blRetrain l => decide (l < 36)
  | .blClrCnt l => decide (l < 36)
  | .comparatorTrip b _ _ _ => decide (b < 32)
  | .overcurrent l _ _ => decide (l < 36)
  | .inputEdge l _ _ => decide (l < 36)
  | .addressUnit h _ _ _ => decide (h < 64)
  | .wpllAcquire h _ _ => decide (h < 64)
  | .wpllLock h _ => decide (h < 64)
  | .wpllHold h _ _ => decide (h < 64)
  | .wpllHoldReturn h _ _ _ => decide (h < 64)
  | .wpllLost h _ _ => decide (h < 64)
  | .seam h beam => decide (h < 64) && decide (beam < 34)
  | .slotOpen h beam => decide (h < 64) && decide (beam < 34)
  | .slotBlank h beam _ => decide (h < 64) && decide (beam < 34)
  | .smWindowClose h beam _ _ _ => decide (h < 64) && decide (beam < 34)
  | .resyncMark h beam _ _ _ _ => decide (h < 64) && decide (beam < 34)
  | .postambleEnd h beam => decide (h < 64) && decide (beam < 34)
  | .fretCrossingAdcCfg h => decide (h < 64)
  | .adcCfgInForce h => decide (h < 64)
  | .chEnable h _ => decide (h < 64)
  | .chReadEn h _ => decide (h < 64)
  | .chClrCnt h => decide (h < 64)
  | .codewordDetect h _ i _ => decide (h < 64) && decide (i < 16)
  | .decodeAttemptStart q _ => decide (q < 16)
  | .decodeAttemptEnd q _ _ => decide (q < 16)
  | .engineFault q _ => decide (q < 16)
  | .poolFenceWrite h _ => decide (h < 64)
  | .ladderStart h _ _ => decide (h < 64)
  | .retryRevolution h => decide (h < 64)
  | .detClrCnt h => decide (h < 64)
  | .extentRequest h _ _ _ _ _ => decide (h < 64)
  | .calibrationPassEnd h _ => decide (h < 64)
  | .extentBandsWritten h => decide (h < 64)
  | .verifyDone h => decide (h < 64)
  | .spareWriteRevolution h => decide (h < 64)
  | .spareVerifyDone h => decide (h < 64)
  | .gateClosure h => decide (h < 64)
  | .gateReopen h => decide (h < 64)
  | .writeHalted h => decide (h < 64)
  | .underrun h _ _ => decide (h < 64)
  | .calForce h => decide (h < 64)
  | .wrpClrCnt h => decide (h < 64)
  | .defectHold h => decide (h < 64)
  | .defectHoldEnd h => decide (h < 64)
  | .defectLong h => decide (h < 64)
  | .focusLost h => decide (h < 64)
  | .offtrackEpisode h => decide (h < 64)
  | .offtrackEpisodeEnd h => decide (h < 64)
  | .missLimit h => decide (h < 64)
  | .seek h _ _ => decide (h < 64)
  | .layerJumpFocusClose h => decide (h < 64)
  | .seekTargetCrossing h => decide (h < 64)
  | .seekFail h => decide (h < 64)
  | .holdBand h _ _ _ => decide (h < 64)
  | .seamJump h => decide (h < 64)
  | .enter h _ _ => decide (h < 64)
  | .svFollow h => decide (h < 64)
  | .pullin h _ _ => decide (h < 64)
  | .focusCapture h => decide (h < 64)
  | .pullTimeout h => decide (h < 64)
  | .trackingCapture h => decide (h < 64)
  | .retract h => decide (h < 64)
  | .retractComplete h => decide (h < 64)
  | .svCmdErr h _ => decide (h < 64)
  | .lensRange h => decide (h < 64)
  | .svEnable h _ => decide (h < 64)
  | .svClrCnt h => decide (h < 64)
  | .cellBoundary n => decide (n < 512)
  | .cellEvaluate n => decide (n < 512)
  | .cellMiss n => decide (n < 512)
  | .coefficientWrite n _ _ => decide (n < 512)
  | .stateWrite n reg _ => decide (n < 512) && decide (reg < 268435452)
  | .capoSet n => decide (n < 512)
  | .capoClr n => decide (n < 512)
  | .clrState n => decide (n < 512)
  | .cellClrCnt n => decide (n < 512)
  | .cellEnable n _ => decide (n < 512)
  | .cellConfigWrite n _ => decide (n < 512)
  | .cellSrcWrite n _ _ => decide (n < 512)
  | .tileFault t _ _ => decide (t < 16)
  | .tileReset t => decide (t < 16)
  | .tileSelfTestPass t => decide (t < 16)
  | .leClrCnt t => decide (t < 16)
  | .observerLoss b _ => decide (b < 32)
  | .recapture b => decide (b < 32)
  | .confirmEnd b => decide (b < 32)
  | .catchFail b => decide (b < 32)
  | .coastEnd b => decide (b < 32)
  | .brakeEnd b => decide (b < 32)
  | .alignEnd b => decide (b < 32)
  | .spindleHandover b => decide (b < 32)
  | .rampFail b => decide (b < 32)
  | .speedLock b => decide (b < 32)
  | .stopDecelEnd b => decide (b < 32)
  | .setSpeed b => decide (b < 32)
  | .spindleStop b => decide (b < 32)
  | .spindleCoast b => decide (b < 32)
  | .motClearFault b => decide (b < 32)
  | .motCmdRefused b _ => decide (b < 32)
  | .motEnable b _ => decide (b < 32)
  | .motClrCnt b => decide (b < 32)
  | .chopperFault c => decide (c < 4)
  | .chopFaultClr c => decide (c < 4)
  | .ovClr c => decide (c < 4)
  | .carouselEnable c _ => decide (c < 4)
  | .carouselAlignDone c => decide (c < 4)
  | .carouselMove c => decide (c < 4)
  | .carouselStop c => decide (c < 4)
  | .carouselHome c => decide (c < 4)
  | .carouselRelease c => decide (c < 4)
  | .carouselCmdRefused c _ _ => decide (c < 4)
  | .homeEdge c => decide (c < 4)
  | .homeFail c => decide (c < 4)
  | .moveDone c => decide (c < 4)
  | .followErr c => decide (c < 4)
  | .reversalStart c => decide (c < 4)
  | .interlock c => decide (c < 4)
  | .interlockClear c => decide (c < 4)
  | .cmotClrCnt c => decide (c < 4)
  | .stepInstant b ax => decide (b < 32) && decide (ax < 4)
  | .offTimeEnd b ax _ => decide (b < 32) && decide (ax < 4)
  | .fastDecayEnd b ax _ => decide (b < 32) && decide (ax < 4)
  | .tOnMaxExpiry b ax _ => decide (b < 32) && decide (ax < 4)
  | .holdCurrent b ax => decide (b < 32) && decide (ax < 4)
  | .axisMove b ax => decide (b < 32) && decide (ax < 4)
  | .axisStop b ax => decide (b < 32) && decide (ax < 4)
  | .axisHome b ax => decide (b < 32) && decide (ax < 4)
  | .axisFollow b ax => decide (b < 32) && decide (ax < 4)
  | .axisRelease b ax => decide (b < 32) && decide (ax < 4)
  | .axisClearFault b ax => decide (b < 32) && decide (ax < 4)
  | .axisCmdRefused b ax _ => decide (b < 32) && decide (ax < 4)
  | .axisEnable b ax _ => decide (b < 32) && decide (ax < 4)
  | .softLimitWrite b ax _ _ => decide (b < 32) && decide (ax < 4)
  | .accDecWrite b ax _ _ => decide (b < 32) && decide (ax < 4)
  | .vmaxWrite b ax _ => decide (b < 32) && decide (ax < 4)
  | .movClrCnt b => decide (b < 32)
  | .inputDebounced l i => decide (l < 36) && decide (i < 16)
  | .chatter b i => decide (b < 32) && decide (i < 16)
  | .chatterEnd b i => decide (b < 32) && decide (i < 16)
  | .stuckInput b i => decide (b < 32) && decide (i < 16)
  | .stall b ax => decide (b < 32) && decide (ax < 4)
  | .homingFail b ax => decide (b < 32) && decide (ax < 4)
  | .mount _ => true
  | .mountPhaseEnd b _ _ => decide (b < 32)
  | .dismount b => decide (b < 32)
  | .mountHoldExpiry b => decide (b < 32)
  | .remapTableBuild _ _ _ => true
  | .descriptorGeneration _ => true
  | .setFormation a _ => decide (a < 256)
  | .rowSeal _ _ _ => true
  | .writeSessionDue _ => true
  | .writeSessionEnd _ => true
  | .mapCheckpoint => true
  | .checkpointWritten _ _ => true
  | .drainCreditGrant => true
  | .consolidationStart _ => true
  | .setRetire _ => true
  | .arbEnable _ => true
  | .arbClrCnt => true
  | .arbourDrain a _ => decide (a < 256)
  | .arbourOffline a _ => decide (a < 256)
  | .reconstruction _ _ _ => true
  | .memberFailed _ _ _ => true
  | .rebuildSlotGroup i => decide (i < 16)
  | .rebuildMemberDone i => decide (i < 16)
  | .reshapeCursorAdvance _ => true
  | .reshapeDone _ => true
  | .failMember _ _ => true
  | .reshape _ => true
  | .cancelReshape _ => true
  | .parCmdRefused _ => true
  | .parEnable _ => true
  | .parClrCnt => true
  | .bufferRead _ _ _ _ _ _ => true
  | .bufferWrite _ _ _ _ _ _ => true
  | .channelFault ch _ => decide (ch < 16)
  | .channelOffline ch => decide (ch < 16)
  | .channelRetrain ch => decide (ch < 16)
  | .resyncDone ch => decide (ch < 16)
  | .scrubRead _ _ => true
  | .clearDone => true
  | .release _ => true
  | .bufCmdRefused _ _ => true
  | .writeRaw => true
  | .readRaw => true
  | .diagRead => true
  | .diagReserved => true
  | .bufClrCnt => true
  | .mapCacheAccess _ _ _ _ _ _ _ => true
  | .mapCacheFill slice _ _ _ => decide (slice < 32)
  | .mapCacheEnable => true
  | .mapCacheDisable => true
  | .drainDone => true
  | .maintClean => true
  | .maintInvalidate => true
  | .maintCleanAll => true
  | .maintReserved => true
  | .maintDone => true
  | .sramError slice _ _ => decide (slice < 32)
  | .mapClrCnt => true
  | .submissionDoorbell fn _ _ => decide (fn < 513)
  | .commandFetch => true
  | .submissionEntryArrival fn _ _ _ _ _ _ _ _ => decide (fn < 513)
  | .read _ => true
  | .readResolve _ => true
  | .readTransferDone _ => true
  | .write _ => true
  | .writeDataReceived _ _ => true
  | .writeAdmission _ => true
  | .writeZeroes _ => true
  | .datasetManagement _ _ => true
  | .flush _ => true
  | .flushComplete _ => true
  | .verify _ => true
  | .recall _ _ => true
  | .stagedBlockRelease _ _ => true
  | .invalidOpcode fn _ _ _ => decide (fn < 513)
  | .dataTransferError _ => true
  | .createIoSq fn _ _ _ _ _ => decide (fn < 513)
  | .createIoCq fn _ _ _ _ => decide (fn < 513)
  | .deleteIoSq fn _ _ => decide (fn < 513)
  | .deleteIoCq fn _ _ => decide (fn < 513)
  | .identify fn _ _ _ _ => decide (fn < 513)
  | .getLogPage fn _ _ _ _ _ => decide (fn < 513)
  | .getLogPageDumpClear fn _ _ _ => decide (fn < 513)
  | .abort fn _ _ _ => decide (fn < 513)
  | .setFeatures fn _ _ _ _ => decide (fn < 513)
  | .setFeaturesStampReporting fn _ _ => decide (fn < 513)
  | .setFeaturesPowerLoss fn _ _ _ => decide (fn < 513)
  | .setFeaturesThermalGrace fn _ _ => decide (fn < 513)
  | .setFeaturesRecallQuota fn _ _ => decide (fn < 513)
  | .setFeaturesHctm fn _ _ _ => decide (fn < 513)
  | .getFeatures fn _ _ _ => decide (fn < 513)
  | .asynchronousEventRequest fn _ => decide (fn < 513)
  | .namespaceManagement fn _ _ _ _ => decide (fn < 513)
  | .namespaceAttachment fn _ _ _ _ => decide (fn < 513)
  | .directiveSend fn _ _ _ _ => decide (fn < 513)
  | .directiveReceive fn _ _ _ => decide (fn < 513)
  | .virtualizationManagement fn _ _ _ _ n => decide (fn < 513) && decide (n < 512)
  | .nvmeMiSend fn _ => decide (fn < 513)
  | .nvmeMiReceive fn _ _ => decide (fn < 513)
  | .getLbaStatus fn _ _ _ _ _ _ => decide (fn < 513)
  | .tablatureDownload fn _ _ _ => decide (fn < 513)
  | .tablatureCommitValidate fn _ => decide (fn < 513)
  | .tablatureCommitWrite fn _ _ => decide (fn < 513)
  | .tablatureSessionTimeout => true
  | .tabSessionAbort => true
  | .inventoryImport fn _ c _ n => decide (fn < 513) && decide (c < 4) && decide (n < 512)
  | .inventorySlotIdentify _ _ => true
  | .inventoryExport fn _ c _ n => decide (fn < 513) && decide (c < 4) && decide (n < 512)
  | .calibrateFull fn _ _ => decide (fn < 513)
  | .calibrateExpanders fn _ _ _ _ => decide (fn < 513)
  | .calibrateRestore fn _ _ => decide (fn < 513)
  | .calibrateRefused fn _ => decide (fn < 513)
  | .firmwareImageDownload fn _ _ _ => decide (fn < 513)
  | .firmwareCommitWrite fn _ _ _ => decide (fn < 513)
  | .firmwareCommitArm fn _ _ _ => decide (fn < 513)
  | .firmwareCommitArmWritten fn _ _ => decide (fn < 513)
  | .firmwareCommitActivate fn _ _ _ => decide (fn < 513)
  | .fwSessionTimeout => true
  | .fwuSessionAbort => true
  | .activationStep _ => true
  | .probationEnd => true
  | .fallback => true
  | .settingsCommit _ _ _ => true
  | .sidebandRequest _ _ => true
  | .hostLaneFault _ _ => true
  | .hostLinkLoss _ _ _ => true
  | .perst _ => true
  | .flr fn => decide (fn < 513)
  | .ccEnClear fn => decide (fn < 513)
  | .ccEnSet fn _ => decide (fn < 513)
  | .stampErr => true
  | .hstClrCnt => true
  | .huSenseSample _ => true
  | .admissionLimitUpdate => true
  | .capTest => true
  | .capTestStart => true
  | .capTestEnd => true
  | .journalSegmentWrite => true
  | .vaultChange _ => true
  | .powerLossDeclare _ => true
  | .dumpEnd _ => true
  | .powerLossHoldRelease _ _ => true
  | .lossAck _ => true
  | .pDumpWrite _ => true
  | .plpClrCnt => true
  | .thermalSample _ _ => true
  | .graceExpiry => true
  | .enforcementStep => true
  | .enforcementRemove => true
  | .orderlyMaxExpiry _ => true
  | .thermalRestart _ _ => true
  | .thresholdWrite _ _ => true
  | .thmClrCnt => true
  | .calStart _ => true
  | .calExpStart _ => true
  | .calibrationProcedureEnd _ => true
  | .calAuto _ => true
  | .calValueWrite _ _ _ => true
  | .fuseProgram => true
  | .fuseProgramDone _ => true
  | .authGo => true
  | .debugClose => true
  | .referenceLoss _ => true
  | .pllUnlock _ => true
  | .powerStateRequest _ => true
  | .idlePoise => true
  | .idlePark => true
  | .poisedToRun => true
  | .parkedEntryDone => true
  | .dormantEntry => true
  | .wakeN => true
  | .wakeTimerMatch => true
  | .chipReset => true
  | .resetN => true
  | .alwaysOnReset => true
  | .startUp _ => true
  | .mapRebuild _ => true
  | .mapReady => true
  | .swSet _ _ => true
  | .logClr => true
  | .lockstepMismatch p => decide (p < 4)
  | .stackUe p => decide (p < 4)
  | .pairRestore p _ => decide (p < 4)
  | .watchdogExpiry p => decide (p < 4)
  | .wdogKick p => decide (p < 4)
  | .fatalDeclare _ _ => true
  | .dmpFatal _ _ => true
  | .dumpCopyToFlash => true
  | .fatalRelease => true
  | .fatalHoldExpiry => true
  | .dmpClear => true
  | .railOutOfTolerance _ _ => true
  | .vaonLow => true
  | .perstDeassert _ _ _ => true
  | .d0Transition fn _ => decide (fn < 513)

end Sys2Proof
end

