-- ==== Sys2Proof/Certificates/Slice0/Obligations.lean ====
section
/-! DEFINITION. The statements about the model, for the provers: what every command does and leaves alone, and what holds of the
whole block. -/

open Sys2Proof Sys2Proof.Machine

/-- O1. A fault-free write of a 32-bit register by a requester that reaches the block applies the word to every field that has no
command of its own: a field of access RW, RWB or RWL takes the written bits (PWR.CTRL.REQ takes 0 for an invalid state), a field
RW1C loses the bits written 1, a field RO, WO or RW1S stays as the write finds it; a scratch register so holds the value, an event
register loses the flags written 1, and neither write changes anything else. A low-half read of a 64-bit register answers the low
word and latches the high word for its requester; the high-half read that follows answers the latched word and spends it, and
without a latched word it answers the high word. A low-half write only holds its word; the high-half write then applies both
halves, with the register's own low word where none is held, and a full 64-bit write does both at once, leaving no half behind. A
faulty access, of any size, while no error is recorded records offset, requester, kind and direction, sets VALID and reaches no
register, and a read answers 0; while VALID is set a further one only sets OVERFLOW; an 8-byte access over two 32-bit registers is
two accesses. Writing VALID 1 clears both. A debug-port access while the port is active is an access of requester 9; while it is
not, a write does nothing and a read answers 0. A boundary of a unit brings the last value written to each of its fields into
force; it takes the calibration items that wait for it as well, and changes nothing but values in force where none waits. (R2, R3,
R4, R6, R10, R11, R26, R27, R539) -/
def Obligations.RegisterAccesses : Prop :=
  (∀ (s : State) (rq off v : Nat), reaches s rq = true → off < 2 ^ 28 → isWide off = false → accessErr s off .word true = 0 →
    Completes (.registerWrite rq off .word v) s fun t => t = applyWord off v s) ∧
  (∀ (s : State) (rq off v : Nat), reaches s rq = true → off < 2 ^ 28 → isWide off = true → accessErr s off .dword true = 0 →
    Completes (.registerWrite rq off .dword v) s fun t => t = applyWide off (v % 2 ^ 32) (v / 2 ^ 32 % 2 ^ 32) (dropHalves rq off s)) ∧
  (∀ (s : State) (w v : Nat) (f : Fld) (k : ResetKind),
    (f ≠ F.PWR_CTRL_REQ → ∀ a ∈ [Access.rw, .rwb, .rwl],
      Machine.get (writePlace w v ⟨f, a, k⟩ s) f = trunc f.width (f.fromWord w (Machine.get s f) v)) ∧
    Machine.get (writePlace w v ⟨f, .w1c, k⟩ s) f
      = trunc f.width (Machine.get s f - (Machine.get s f &&& f.fromWord w 0 v)) ∧
    (∀ a ∈ [Access.ro, .wo, .w1s], writePlace w v ⟨f, a, k⟩ s = s)) ∧
  (∀ (s : State) (rq v i : Nat), reaches s rq = true → i < 4 → accessErr s (72 + 4 * i) .word true = 0 →
    Completes (.registerWrite rq (72 + 4 * i) .word v) s fun t =>
      Machine.get t (F.GLB_SCRATCH i) = v % 2 ^ 32 ∧ Within s t [F.GLB_SCRATCH i]) ∧
  (∀ (s : State) (rq v : Nat), reaches s rq = true → accessErr s F.PLP_EVT.off .word true = 0 →
    Completes (.registerWrite rq F.PLP_EVT.off .word v) s fun t =>
      (∀ i, i < 32 → bitOf (Machine.get t F.PLP_EVT) i = if bitOf v i = 1 then 0 else bitOf (Machine.get s F.PLP_EVT) i) ∧
      Within s t [F.PLP_EVT]) ∧
  (∀ (s : State) (rq reg : Nat), reaches s rq = true → reg + 4 < 2 ^ 28 → reg % 8 = 0 → isWide reg = true → accessErr s reg .word false = 0 →
    Completes (.lowHalfRead rq reg) s fun t =>
      t.busData = readWord s reg ∧ shadowOf t rq reg = some (readWord s (reg + 4)) ∧
      t = { s with busData := t.busData, shadows := t.shadows }) ∧
  (∀ (s : State) (rq reg v : Nat), reaches s rq = true → reg + 4 < 2 ^ 28 → reg % 8 = 0 → isWide (reg + 4) = true →
    accessErr s (reg + 4) .word false = 0 → shadowOf s rq reg = some v →
    Completes (.highHalfRead rq reg) s fun t =>
      t.busData = v ∧ shadowOf t rq reg = none ∧ t = { s with busData := t.busData, shadows := t.shadows }) ∧
  (∀ (s : State) (rq reg : Nat), reaches s rq = true → reg + 4 < 2 ^ 28 → reg % 8 = 0 → isWide (reg + 4) = true →
    accessErr s (reg + 4) .word false = 0 → shadowOf s rq reg = none →
    Completes (.highHalfRead rq reg) s fun t => t = { s with busData := readWord s (reg + 4) }) ∧
  (∀ (s : State) (rq reg v : Nat), reaches s rq = true → reg + 4 < 2 ^ 28 → reg % 8 = 0 → isWide reg = true → accessErr s reg .word true = 0 →
    Completes (.lowHalfWrite rq reg v) s fun t => heldOf t rq reg = some (v % 2 ^ 32) ∧ t = { s with held := t.held }) ∧
  (∀ (s : State) (rq reg v : Nat), reaches s rq = true → reg + 4 < 2 ^ 28 → reg % 8 = 0 → isWide (reg + 4) = true →
    accessErr s (reg + 4) .word true = 0 →
    Completes (.highHalfWrite rq reg v) s fun t =>
      t = applyWide reg ((heldOf s rq reg).getD (readWord s reg)) v { s with held := mapErase s.held (halfKey rq reg) }) ∧
  (∀ (s : State) (rq v lo : Nat), reaches s rq = true → accessErr s (F.CAL_EXP_SEL.off + 4) .word true = 0 →
    heldOf s rq F.CAL_EXP_SEL.off = some lo → lo < 2 ^ 32 →
    Completes (.highHalfWrite rq F.CAL_EXP_SEL.off v) s fun t =>
      Machine.get t F.CAL_EXP_SEL = lo + 2 ^ 32 * (v % 2 ^ 32) ∧ heldOf t rq F.CAL_EXP_SEL.off = none ∧
      inner t = { inner s with held := t.held } ∧ OnlyFields s t [F.CAL_EXP_SEL]) ∧
  (∀ (s : State) (rq reg v : Nat), reaches s rq = true → reg + 4 < 2 ^ 28 → isWide reg = true → accessErr s reg .dword true = 0 →
    Completes (.full64BitAccess rq reg true v) s fun t => t = applyWide reg (v % 2 ^ 32) (v / 2 ^ 32 % 2 ^ 32) (dropHalves rq reg s)) ∧
  (∀ (s : State) (rq v : Nat), reaches s rq = true → accessErr s F.CAL_EXP_SEL.off .dword true = 0 →
    Completes (.full64BitAccess rq F.CAL_EXP_SEL.off true v) s fun t =>
      Machine.get t F.CAL_EXP_SEL = v % 2 ^ 64 ∧ shadowOf t rq F.CAL_EXP_SEL.off = none ∧ heldOf t rq F.CAL_EXP_SEL.off = none ∧
      inner t = { inner s with held := t.held, shadows := t.shadows } ∧ OnlyFields s t [F.CAL_EXP_SEL]) ∧
  (∀ (s : State) (rq reg v : Nat), reaches s rq = true → reg + 4 < 2 ^ 28 → isWide reg = true → accessErr s reg .dword false = 0 →
    Completes (.full64BitAccess rq reg false v) s fun t =>
      t.busData = readWord s reg + 2 ^ 32 * readWord s (reg + 4) ∧
      t = { s with busData := t.busData, shadows := t.shadows, held := t.held }) ∧
  (∀ (s : State) (rq off v : Nat) (sz : AccessSize) (w : Bool), reaches s rq = true → off < 2 ^ 28 → rq < 10 →
    accessErr s off sz w ≠ 0 → (sz = .dword → off % 8 ≠ 0 ∨ isWide off = true) → Machine.get s F.GLB_ACC_ERR_VALID = 0 →
    Completes (.accessError rq off sz w v) s fun t =>
      Machine.get t F.GLB_ACC_ERR_OFFSET = off ∧ Machine.get t F.GLB_ACC_ERR_REQ = rq ∧
      Machine.get t F.GLB_ACC_ERR_KIND = accessErr s off sz w ∧ Machine.get t F.GLB_ACC_ERR_WRITE = (if w then 1 else 0) ∧
      Machine.get t F.GLB_ACC_ERR_VALID = 1 ∧ t.busData = (if w then s.busData else 0) ∧ inner t = { inner s with busData := t.busData } ∧
      OnlyFields s t [F.GLB_ACC_ERR_OFFSET, F.GLB_ACC_ERR_REQ, F.GLB_ACC_ERR_KIND, F.GLB_ACC_ERR_WRITE, F.GLB_ACC_ERR_VALID, F.EVT_LOG_HEAD]) ∧
  (∀ (s : State) (rq off v : Nat) (sz : AccessSize) (w : Bool), reaches s rq = true → off < 2 ^ 28 →
    accessErr s off sz w ≠ 0 → (sz = .dword → off % 8 ≠ 0 ∨ isWide off = true) → Machine.get s F.GLB_ACC_ERR_VALID = 1 →
    Completes (.accessError rq off sz w v) s fun t =>
      t.busData = (if w then s.busData else 0) ∧ Machine.get t F.GLB_ACC_ERR_OVERFLOW = 1 ∧ inner t = { inner s with busData := t.busData } ∧
      OnlyFields s t [F.GLB_ACC_ERR_OVERFLOW]) ∧
  (∀ (s : State) (rq off v : Nat), reaches s rq = true → off < 2 ^ 28 → off % 8 = 0 → isWide off = false →
    isFaulty s off .dword true = true →
    Completes (.accessError rq off .dword true v) s fun t =>
      t = windowWrite rq (off + 4) .word (v / 2 ^ 32 % 2 ^ 32) (windowWrite rq off .word (v % 2 ^ 32) s)) ∧
  (∀ s : State, Completes .accErrClear s fun t =>
    Machine.get t F.GLB_ACC_ERR_VALID = 0 ∧ Machine.get t F.GLB_ACC_ERR_OVERFLOW = 0 ∧
    Within s t [F.GLB_ACC_ERR_VALID, F.GLB_ACC_ERR_OVERFLOW]) ∧
  (∀ (s : State) (off v : Nat) (sz : AccessSize), Machine.get s F.FUS_STATUS_DEBUG_ACTIVE = 1 → off < 2 ^ 28 →
    Completes (.debugPortWindowAccess off sz true v) s (fun t => t = windowWrite 9 off sz v s) ∧
    Completes (.debugPortWindowAccess off sz false v) s fun t => t = windowRead 9 off sz s) ∧
  (∀ (s : State) (i v : Nat), Machine.get s F.FUS_STATUS_DEBUG_ACTIVE = 1 → i < 4 → accessErr s (72 + 4 * i) .word true = 0 →
    Completes (.debugPortWindowAccess (72 + 4 * i) .word true v) s fun t =>
      Machine.get t (F.GLB_SCRATCH i) = v % 2 ^ 32 ∧ Within s t [F.GLB_SCRATCH i]) ∧
  (∀ (s : State) (off v : Nat) (sz : AccessSize), Machine.get s F.FUS_STATUS_DEBUG_ACTIVE = 0 →
    Completes (.debugPortWindowAccess off sz true v) s (fun t => t = s) ∧
    Completes (.debugPortWindowAccess off sz false v) s fun t => t = { s with busData := 0 }) ∧
  (∀ (s : State) (k : Boundary) (u : Nat), boundaryUnit s k u = true →
    Completes (.rwbBoundary k u) s fun t =>
      (∀ f ∈ boundaryFields k u, inForce t f = Machine.get s f) ∧
      t = takeCal (boundaryItem k u) { s with force := (takeForces (boundaryFields k u) s).force } ∧
      ((∀ x ∈ s.cal.fresh, boundaryItem k u x = false) →
        (∀ g : Fld, g.key ∉ (boundaryFields k u).map Fld.key → inForce t g = inForce s g) ∧ t = { s with force := t.force }))

/-- O2. An operation arrives behind those that wait in the tree. One that meets none of them is carried out at once, unless it is
a barrier: a broadcast ends as completed, an epoch switch opens the next epoch and ends as completed; a barrier waits, and so does
an operation that meets one that waits. A barrier that is the first to wait among those it meets completes: it ends, and the
operations that waited only for it are carried out in their order. A subtree reset brings the units below the arbour to their
reset values, leaves reset kind 5, and ends every waiting barrier that it meets with a reset status; the mechanical one parks the
mechanism of the subtree first. (R16, R17, R22, R522, R529) -/
def Obligations.ControlTreeOperations : Prop :=
  (∀ (s : State) (a : Nat), arbInst s a = true →
    Completes (.barrier a) s fun t => t = treeRun [] (s.tree ++ [⟨.barrier, a⟩]) s) ∧
  (∀ (s : State) (a : Nat), arbInst s a = true → (∀ x ∈ s.tree, x.kind = .barrier) →
    Completes (.barrier a) s fun t => t = { s with tree := s.tree ++ [⟨.barrier, a⟩] }) ∧
  (∀ (s : State) (a : Nat), arbInst s a = true → (∀ x ∈ s.tree, x.kind = .barrier) → (∃ x ∈ s.tree, treeMeet s x.arbour a = true) →
    Completes (.broadcast a) s (fun t => t = { s with tree := s.tree ++ [⟨.broadcast, a⟩] }) ∧
    Completes (.snapshotEpochSwitch a) s fun t => t = { s with tree := s.tree ++ [⟨.epoch, a⟩] }) ∧
  (∀ (s : State) (a : Nat), arbInst s a = true → (∀ x ∈ s.tree, x.kind = .barrier ∧ treeMeet s x.arbour a = false) →
    Completes (.broadcast a) s (fun t => t = { s with treeDone := (⟨.broadcast, a⟩, false) :: s.treeDone }) ∧
    Completes (.snapshotEpochSwitch a) s fun t =>
      t = { switchEpoch true s with tree := s.tree, treeDone := (⟨.epoch, a⟩, false) :: s.treeDone } ∧
      Machine.get t F.ARB_EPOCH = trunc F.ARB_EPOCH.width (Machine.get s F.ARB_EPOCH + 1)) ∧
  (∀ (s : State) (a : Nat), (s.tree.find? fun x => treeMeet s x.arbour a) = some ⟨.barrier, a⟩ →
    Completes (.barrierComplete a) s fun t =>
      t = treeRun [] (s.tree.erase ⟨.barrier, a⟩) { s with treeDone := (⟨.barrier, a⟩, false) :: s.treeDone }) ∧
  (∀ (s : State) (a : Nat), s.tree = [⟨.barrier, a⟩] → treeMeet s a a = true →
    Completes (.barrierComplete a) s fun t => t = { s with tree := [], treeDone := (⟨.barrier, a⟩, false) :: s.treeDone }) ∧
  (∀ (s : State) (a : Nat), arbInst s a = true → baysBelow s a = [] → leavesBelow s a = [] → s.tree = [] →
    Completes (.subtreeReset a) s (fun t => Machine.get t F.PWR_RESET_CAUSE_KIND = 5 ∧ Within s t [F.PWR_RESET_CAUSE_KIND]) ∧
    Completes (.subtreeResetMechanical a) s fun t => Machine.get t F.PWR_RESET_CAUSE_KIND = 5 ∧ Within s t [F.PWR_RESET_CAUSE_KIND]) ∧
  (∀ (s : State) (a : Nat), arbInst s a = true →
    Completes (.subtreeReset a) s (fun t => Machine.get t F.PWR_RESET_CAUSE_KIND = 5 ∧ t = subtreeReset a s) ∧
    Completes (.subtreeResetMechanical a) s fun t => Machine.get t F.PWR_RESET_CAUSE_KIND = 5 ∧ t = subtreeReset a (parkSubtree a s)) ∧
  (∀ (s : State) (a b : Nat), arbInst s a = true → b ∈ baysBelow s a → b < 32 →
    Completes (.subtreeReset a) s fun t =>
      Machine.get t (F.MOT_STATUS_STATE b) = deflt s (F.MOT_STATUS_STATE b) ∧ spinOf t b = {} ∧ busOf t b = {} ∧
      getHead t (2 * b) = {} ∧ getHead t (2 * b + 1) = {})

/-- O3. While the link clock runs, a servo tick advances the tick and time counters by what the accumulator gives, takes the
calibration values that wait for a superframe, and runs every head's tick. An upstream superframe of a framed link compares the
lane's marker, locks the lane at the second hit in a row, and for a locked lane counts the symbols that the code corrects and the
codewords that it cannot correct; nothing else changes but the head. After four missed markers a lane leaves the lock: with
another lane in use an ACTIVE link goes on, with none it retrains; before ACTIVE fewer than three lanes fail the training. A
sample codeword of an ACTIVE link whose channel is enabled puts its samples, with those that it lacks as erased, into the beams'
places; a message codeword's messages enter the inbox; each changes nothing else. (R59, R60, R61, R63, R64, R71, R75, R79, R516)
-/
def Obligations.LinkTicksAndFrames : Prop :=
  (∀ (s : State) (ncos : List (Nat × Nat)), Machine.get s F.CLK_STATUS_LINK_OK ≠ 0 →
    Completes (.servoTick ncos) s fun t =>
      Machine.get t F.CLK_TICK = trunc 64 (Machine.get s F.CLK_TICK + 1) ∧
      Machine.get t F.CLK_TIME = trunc 64 (Machine.get s F.CLK_TIME + tickCycles s.tickAcc) ∧
      t.tickAcc = s.tickAcc + 1024 * tickCycles s.tickAcc - 390625) ∧
  (∀ (s : State) (h lane : Nat) (syms : List Nat), headInst s h = true → lane < 4 →
    3 ≤ Machine.get s (F.HL_STATUS_STATE h) → Machine.get s (F.HL_STATUS_STATE h) ≤ 5 →
    Completes (.upstreamSuperframe h lane syms) s fun t =>
      (lane ∈ (linkOf t h).locked ↔
        lane ∈ (linkOf s h).locked ∨ (syms.take 32 = markerOf (laneA lane) ∧ 1 ≤ mapGet (fun _ => 0) (linkOf s h).hits lane)) ∧
      mapGet (fun _ => 0) (linkOf t h).miss lane
        = (if syms.take 32 = markerOf (laneA lane) then 0 else mapGet (fun _ => 0) (linkOf s h).miss lane + 1) ∧
      (lane ∈ (linkOf t h).locked →
        Machine.get t (F.HL_CORR_SYM h lane) = trunc 32 (satAdd 32 (Machine.get s (F.HL_CORR_SYM h lane))
          ((readWords 47 syms).filterMap fun w => w.map fun x => x.2.2).sum) ∧
        Machine.get t (F.HL_UNCORR h lane) = trunc 32 (satAdd 32 (Machine.get s (F.HL_UNCORR h lane))
          ((readWords 47 syms).filter fun w => w.isNone).length)) ∧
      WithinHead h s t [F.HL_CORR_SYM h lane, F.HL_UNCORR h lane, F.HL_STATUS_LANES_UP h]) ∧
  (∀ (s : State) (h lane : Nat), headInst s h = true → Machine.get s (F.HL_STATUS_STATE h) = 5 →
    4 ≤ mapGet (fun _ => 0) (linkOf s h).miss lane → (∃ l ∈ lanesInUse (linkOf s h), l ≠ lane ∧ l ∉ (linkOf s h).lost) →
    Completes (.markerLoss h lane) s fun t =>
      lane ∉ (linkOf t h).locked ∧ lane ∈ (linkOf t h).lost ∧ WithinHead h s t [F.HL_STATUS_LANES_UP h]) ∧
  (∀ (s : State) (h lane : Nat), headInst s h = true → Machine.get s (F.HL_STATUS_STATE h) = 5 →
    4 ≤ mapGet (fun _ => 0) (linkOf s h).miss lane → (∀ l ∈ lanesInUse (linkOf s h), l = lane ∨ l ∈ (linkOf s h).lost) →
    Completes (.markerLoss h lane) s fun t => Machine.get t (F.HL_STATUS_STATE h) = 1 ∧ (linkOf t h).locked = []) ∧
  (∀ (s : State) (h lane : Nat), headInst s h = true → 3 ≤ Machine.get s (F.HL_STATUS_STATE h) → Machine.get s (F.HL_STATUS_STATE h) < 5 →
    4 ≤ mapGet (fun _ => 0) (linkOf s h).miss lane →
    ((lanesInUse (linkOf s h)).filter fun l => decide (l ≠ lane) && decide (l ∉ (linkOf s h).lost)).length < 3 →
    Completes (.markerLoss h lane) s fun t =>
      Machine.get t (F.HL_STATUS_STATE h) = (if (linkOf s h).fails < 2 then 1 else 6) ∧ (linkOf t h).fails = (linkOf s h).fails + 1) ∧
  (∀ (s : State) (h lane : Nat), headInst s h = true → 3 ≤ Machine.get s (F.HL_STATUS_STATE h) → Machine.get s (F.HL_STATUS_STATE h) < 5 →
    4 ≤ mapGet (fun _ => 0) (linkOf s h).miss lane →
    3 ≤ ((lanesInUse (linkOf s h)).filter fun l => decide (l ≠ lane) && decide (l ∉ (linkOf s h).lost)).length →
    Completes (.markerLoss h lane) s fun t =>
      lane ∉ (linkOf t h).locked ∧ lane ∈ (linkOf t h).lost ∧ WithinHead h s t [F.HL_STATUS_LANES_UP h]) ∧
  (∀ (s : State) (h lane k : Nat) (bytes : List Nat), headInst s h = true → Machine.get s (F.HL_STATUS_STATE h) = 5 →
    Machine.get s (F.CH_CTRL_EN h) = 1 → Machine.get s F.PWR_STATUS_STATE ≠ 1 → lane ∈ lanesInUse (linkOf s h) →
    Machine.get s (F.CH_FRET_FMT h) = 1 → k ≠ 0 → k ≤ sampleWords (linkOf s h).nS (laneBeams s h lane).length 8 →
    (mapGet (fun _ => []) (linkOf s h).rx lane).getD k none = some (2, bytes) →
    Completes (.sampleCodeword h lane k) s fun t =>
      linkOf t h = { linkOf s h with
        samples := putSamples 8 (linkOf s h).nS (laneBeams s h lane) ((k - 1) * 642) (bitsOfBytes bytes)
          ((laneBeams s h lane).foldl (fun m b => mapPut m b (mapGet (fun _ => List.replicate (linkOf s h).nS none) m b))
            (linkOf s h).samples) } ∧
      WithinHead h s t []) ∧
  (∀ (s : State) (h lane k : Nat) (bytes : List Nat), headInst s h = true → Machine.get s (F.HL_STATUS_STATE h) = 5 →
    Machine.get s (F.CH_CTRL_EN h) = 1 → Machine.get s F.PWR_STATUS_STATE ≠ 1 → lane ∈ lanesInUse (linkOf s h) →
    Machine.get s (F.CH_FRET_FMT h) ≠ 1 → k ≠ 0 → k ≤ sampleWords (linkOf s h).nS (laneBeams s h lane).length 6 →
    (mapGet (fun _ => []) (linkOf s h).rx lane).getD k none = some (2, bytes) →
    Completes (.sampleCodeword h lane k) s fun t =>
      linkOf t h = { linkOf s h with
        samples := putSamples 6 (linkOf s h).nS (laneBeams s h lane) ((k - 1) * 856) (bitsOfBytes bytes)
          ((laneBeams s h lane).foldl (fun m b => mapPut m b (mapGet (fun _ => List.replicate (linkOf s h).nS none) m b))
            (linkOf s h).samples) } ∧
      WithinHead h s t []) ∧
  (∀ (s : State) (h lane k : Nat), headInst s h = true → Machine.get s (F.HL_STATUS_STATE h) = 5 →
    Machine.get s (F.CH_CTRL_EN h) = 1 → Machine.get s F.PWR_STATUS_STATE ≠ 1 → lane ∈ lanesInUse (linkOf s h) →
    k ≠ 0 → k ≤ sampleWords (linkOf s h).nS (laneBeams s h lane).length (if Machine.get s (F.CH_FRET_FMT h) = 1 then 8 else 6) →
    (mapGet (fun _ => []) (linkOf s h).rx lane).getD k none = none →
    Completes (.sampleCodeword h lane k) s fun t =>
      linkOf t h = { linkOf s h with
        samples := (laneBeams s h lane).foldl (fun m b => mapPut m b (mapGet (fun _ => List.replicate (linkOf s h).nS none) m b))
          (linkOf s h).samples } ∧
      WithinHead h s t []) ∧
  (∀ (s : State) (h lane k ty : Nat) (bytes : List Nat), headInst s h = true → 3 ≤ Machine.get s (F.HL_STATUS_STATE h) →
    Machine.get s (F.HL_STATUS_STATE h) ≤ 5 → lane < 4 → k < 47 → (ty = 1 ∧ k = 0) ∨ ty = 3 →
    (mapGet (fun _ => []) (linkOf s h).rx lane).getD k none = some (ty, bytes) →
    Completes (.messageCodeword h lane k) s fun t =>
      (linkOf t h).inbox = fileMsgs (256 * tick s + 64 * lane + k) (splitMsgs 161 (bytes.drop (if ty = 1 then 36 else 0))) (linkOf s h).inbox ∧
      linkOf t h = { linkOf s h with inbox := (linkOf t h).inbox, rx := (linkOf t h).rx } ∧ WithinHead h s t [])

/-- O4. The message at the front of an inbox, in sequence, is taken and acknowledged: an ACK removes every message up to the
acknowledged one and no other; in IDENT an identity that keeps the limits sets IDENT_VALID, and one that breaks them fails the
link; a PONG returns its token, and one of the previous 32 numbers is only acknowledged again; a firmware message enters the
mailbox queue and, with RX_FULL clear, the oldest message of the queue is delivered with the event raised, while a message that
finds 16 waiting is not accepted; an unknown type is only counted. Eight superframes without progress send the unacknowledged
messages again; after four such retransmissions they raise MSG_FAIL and the link retrains. The mailbox sends the message it holds,
is cleared and filled again as R80 and R81 say, and a queue that stays full for 8 ms raises its event. (R71, R72, R73, R74, R80,
R81) -/
def Obligations.LinkMessages : Prop :=
  (∀ (s : State) (h i key : Nat) (m : Msg) (l : List (Nat × Msg)), headInst s h = true → (linkOf s h).inbox = (key, m) :: l → m.ty = 0x7f →
    ((linkOf s h).unacked.findIdx? fun x => decide (x.seq = m.payload.headD 0)) = some i →
    Completes (.ack h) s fun t =>
      linkOf t h = { linkOf s h with
        inbox := l, unacked := (linkOf s h).unacked.drop (i + 1), retx := 0, idle := 0,
        resend := (linkOf s h).resend.filter fun x => decide (x ∈ (linkOf s h).unacked.drop (i + 1)) } ∧
      WithinHead h s t []) ∧
  (∀ (s : State) (h key : Nat) (m : Msg) (l : List (Nat × Msg)), headInst s h = true → (linkOf s h).inbox = (key, m) :: l → m.ty = 0x7f →
    (∀ x ∈ (linkOf s h).unacked, x.seq ≠ m.payload.headD 0) →
    Completes (.ack h) s fun t => linkOf t h = { linkOf s h with inbox := l } ∧ WithinHead h s t []) ∧
  (∀ (s : State) (h key : Nat) (m : Msg) (l : List (Nat × Msg)), headInst s h = true → (linkOf s h).inbox = (key, m) :: l → m.ty = 0x81 →
    m.seq = (linkOf s h).rxSeq → Machine.get s (F.HL_STATUS_STATE h) = 4 → identOkBytes m.payload = true →
    Completes (.ident h) s fun t =>
      Machine.get t (F.HL_STATUS_IDENT_VALID h) = 1 ∧ (linkOf t h).identOk = true ∧ (linkOf t h).ident = m.payload ∧
      (linkOf t h).inbox = l ∧ (linkOf t h).ackDue = some m.seq ∧
      WithinHead h s t [F.HL_STATUS_IDENT_VALID h, F.HL_IDENT h 0, F.HL_IDENT h 1, F.HL_IDENT h 2, F.HL_IDENT h 3]) ∧
  (∀ (s : State) (h key : Nat) (m : Msg) (l : List (Nat × Msg)), headInst s h = true → (linkOf s h).inbox = (key, m) :: l → m.ty = 0x81 →
    m.seq = (linkOf s h).rxSeq → Machine.get s (F.HL_STATUS_STATE h) = 4 → identOkBytes m.payload = false →
    Completes (.ident h) s fun t =>
      Machine.get t (F.HL_STATUS_IDENT_VALID h) = 0 ∧ Machine.get t (F.HL_STATUS_STATE h) = 6 ∧ Raised t (evHL h) B.HL_EVT_TRAIN_FAIL) ∧
  (∀ (s : State) (h key : Nat) (m : Msg) (l : List (Nat × Msg)), headInst s h = true → (linkOf s h).inbox = (key, m) :: l → m.ty = 0x87 →
    m.seq = (linkOf s h).rxSeq →
    Completes (.pong h) s fun t =>
      linkOf t h = { linkOf s h with inbox := l, rxSeq := ((linkOf s h).rxSeq + 1) % 256, ackDue := some m.seq,
                                     pong := some (ofBytesLE (m.payload.take 4)) } ∧ WithinHead h s t []) ∧
  (∀ (s : State) (h key : Nat) (m : Msg) (l : List (Nat × Msg)), headInst s h = true → (linkOf s h).inbox = (key, m) :: l → m.ty = 0x87 →
    m.seq ≠ (linkOf s h).rxSeq → ((linkOf s h).rxSeq + 256 - m.seq % 256) % 256 ≤ 32 →
    Completes (.pong h) s fun t =>
      linkOf t h = { linkOf s h with inbox := l, ackDue := some (((linkOf s h).rxSeq + 255) % 256) } ∧ WithinHead h s t []) ∧
  (∀ (s : State) (h key : Nat) (m : Msg) (l : List (Nat × Msg)), headInst s h = true → (linkOf s h).inbox = (key, m) :: l →
    fwType m.ty = true → m.seq = (linkOf s h).rxSeq → (linkOf s h).rxq.length < 16 → Machine.get s (F.HL_MBOX_CTRL_RX_FULL h) ≠ 1 →
    Completes (.firmwareMessage h) s fun t =>
      Machine.get t (F.HL_MBOX_CTRL_RX_FULL h) = 1 ∧
      Machine.get t (F.HL_MBOX_CTRL_RX_QUEUE h) = trunc (F.HL_MBOX_CTRL_RX_QUEUE h).width (linkOf s h).rxq.length ∧
      Raised t (evHL h) B.HL_EVT_MBOX_RX ∧ (linkOf t h).rxq = ((linkOf s h).rxq ++ [m]).drop 1 ∧ (linkOf t h).inbox = l ∧
      (linkOf t h).ackDue = some m.seq ∧
      WithinHead h s t ([F.HL_MBOX_CTRL_RX_FULL h, F.HL_MBOX_CTRL_RX_QUEUE h, F.HL_EVT h, F.EVT_LOG_HEAD]
        ++ (List.range 64).map (F.HL_MBOX_RX h))) ∧
  (∀ (s : State) (h key : Nat) (m : Msg) (l : List (Nat × Msg)), headInst s h = true → (linkOf s h).inbox = (key, m) :: l →
    fwType m.ty = true → m.seq = (linkOf s h).rxSeq → (linkOf s h).rxq.length < 16 → Machine.get s (F.HL_MBOX_CTRL_RX_FULL h) = 1 →
    Completes (.firmwareMessage h) s fun t =>
      linkOf t h = { linkOf s h with
        inbox := l, rxSeq := ((linkOf s h).rxSeq + 1) % 256, ackDue := some m.seq, rxq := (linkOf s h).rxq ++ [m],
        fullSince := if (linkOf s h).rxq.length = 15 then some (now s) else (linkOf s h).fullSince } ∧
      Machine.get t (F.HL_MBOX_CTRL_RX_QUEUE h) = trunc (F.HL_MBOX_CTRL_RX_QUEUE h).width ((linkOf s h).rxq.length + 1) ∧
      WithinHead h s t [F.HL_MBOX_CTRL_RX_QUEUE h]) ∧
  (∀ (s : State) (h key : Nat) (m : Msg) (l : List (Nat × Msg)), headInst s h = true → (linkOf s h).inbox = (key, m) :: l →
    fwType m.ty = true → m.seq = (linkOf s h).rxSeq → 16 ≤ (linkOf s h).rxq.length →
    Completes (.firmwareMessage h) s fun t => linkOf t h = { linkOf s h with inbox := l } ∧ WithinHead h s t []) ∧
  (∀ (s : State) (h key : Nat) (m : Msg) (l : List (Nat × Msg)), headInst s h = true → (linkOf s h).inbox = (key, m) :: l →
    fwType m.ty = false → m.ty ∉ [0x7f, 0x81, 0x82, 0x87] → m.seq = (linkOf s h).rxSeq →
    Completes (.unknownMessage h) s fun t =>
      Machine.get t (F.HL_MSG_STAT_UNKNOWN h) = trunc 16 (satAdd 16 (Machine.get s (F.HL_MSG_STAT_UNKNOWN h)) 1) ∧
      linkOf t h = { linkOf s h with inbox := l, rxSeq := ((linkOf s h).rxSeq + 1) % 256, ackDue := some m.seq } ∧
      WithinHead h s t [F.HL_MSG_STAT_UNKNOWN h]) ∧
  (∀ (s : State) (h : Nat), headInst s h = true → (linkOf s h).unacked ≠ [] → 8 ≤ (linkOf s h).idle → (linkOf s h).retx < 4 →
    Completes (.messageRetransmit h) s fun t =>
      Machine.get t (F.HL_MSG_STAT_RETX h)
        = trunc 16 (satAdd 16 (Machine.get s (F.HL_MSG_STAT_RETX h)) (linkOf s h).unacked.length) ∧
      linkOf t h = { linkOf s h with retx := (linkOf s h).retx + 1, idle := 0, resend := (linkOf s h).unacked } ∧
      WithinHead h s t [F.HL_MSG_STAT_RETX h]) ∧
  (∀ (s : State) (h : Nat), headInst s h = true → (linkOf s h).unacked ≠ [] → 8 ≤ (linkOf s h).idle → 4 ≤ (linkOf s h).retx →
    Completes (.msgFail h) s fun t =>
      Machine.get t (F.HL_STATUS_STATE h) = 1 ∧ Raised t (evHL h) B.HL_EVT_MSG_FAIL ∧ (linkOf t h).unacked = [] ∧
      (Machine.get s (F.HL_STATUS_STATE h) ≠ 5 → WithinHead h s t (linkFields h))) ∧
  (∀ (s : State) (h : Nat), headInst s h = true → mailType (Machine.get s (F.HL_MBOX_TX h 0) % 256) = true →
    3 ≤ Machine.get s (F.HL_STATUS_STATE h) → Machine.get s (F.HL_STATUS_STATE h) ≤ 5 →
    Completes (.mboxSend h) s fun t =>
      (∃ m, (linkOf t h).queued = (linkOf s h).queued ++ [m] ∧ m.ty = Machine.get s (F.HL_MBOX_TX h 0) % 256 ∧
        m.payload.length = min 252 (Machine.get s (F.HL_MBOX_TX h 0) / 256 % 256) ∧
        ∀ i, i < m.payload.length → m.payload.getD i 0 = Machine.get s (F.HL_MBOX_TX h (i / 4 + 1)) / 256 ^ (i % 4) % 256) ∧
      WithinHead h s t []) ∧
  (∀ (s : State) (h : Nat), headInst s h = true → (linkOf s h).rxq = [] →
    Completes (.mboxRxClear h) s fun t =>
      Machine.get t (F.HL_MBOX_CTRL_RX_FULL h) = 0 ∧ Machine.get t (F.HL_MBOX_CTRL_RX_QUEUE h) = 0 ∧
      Within s t [F.HL_MBOX_CTRL_RX_FULL h, F.HL_MBOX_CTRL_RX_QUEUE h]) ∧
  (∀ (s : State) (h : Nat) (m : Msg) (l : List Msg), headInst s h = true → (linkOf s h).rxq = m :: l →
    Completes (.mboxRxClear h) s fun t =>
      Machine.get t (F.HL_MBOX_CTRL_RX_FULL h) = 1 ∧
      Machine.get t (F.HL_MBOX_CTRL_RX_QUEUE h) = trunc (F.HL_MBOX_CTRL_RX_QUEUE h).width l.length ∧
      Machine.get t (F.HL_MBOX_RX h 0) = trunc 32 (m.ty + 256 * m.payload.length + 65536 * m.seq) ∧
      linkOf t h = { linkOf s h with rxq := l, fullSince := none } ∧ Raised t (evHL h) B.HL_EVT_MBOX_RX) ∧
  (∀ (s : State) (h n : Nat), headInst s h = true → (linkOf s h).fullSince = some n → n + 1250000 ≤ now s →
    Completes (.mboxStall h) s fun t => Raised t (evHL h) B.HL_EVT_MBOX_STALL ∧ Within s t (evFields (evHL h)))

/-- O5. EN, TRAIN, LASER_PERMIT, CLR_CNT, DEGR_GROUP and ADC writes have the effects of R82: EN 0 turns the link off and EN 1 only
permits training; TRAIN starts the search for a link; LASER_PERMIT 0 forces laser mode 0 and takes the write permit; the group of
a degraded map and the ADC values of a framed link are sent to the head. PRBS31 moves the search to lane search; four qualified
lanes, or three once 50 ms have passed, move it to alignment; locked lanes within 16 ns, at least three, move it to identification
with the ADC configuration sent; a valid identity with its configurations in force makes the link ACTIVE and lets an enabled servo
leave OFF; a state that outlasts its time restarts the training, and the third failure in a row ends it. A lane fault of an ACTIVE
link is raised; with two lanes left the link retrains, with AUTO_DEGRADE the degraded map is asked for, and without it the lane is
kept as it is. A lane configuration comes into force at its superframe. (R62, R75, R76, R77, R82, R117, R178) -/
def Obligations.LinkTrainingAndLanes : Prop :=
  (∀ (s : State) (h en : Nat), headInst s h = true → en % 2 = 0 →
    Completes (.hlEnable h en) s fun t =>
      Machine.get t (F.HL_CTRL_EN h) = 0 ∧ Machine.get t (F.HL_STATUS_STATE h) = 0 ∧
      (Machine.get s (F.HL_STATUS_STATE h) ≠ 5 → WithinHead h s t (F.HL_CTRL_EN h :: linkFields h))) ∧
  (∀ (s : State) (h en : Nat), headInst s h = true → en % 2 = 1 →
    Completes (.hlEnable h en) s fun t => Machine.get t (F.HL_CTRL_EN h) = 1 ∧ Within s t [F.HL_CTRL_EN h]) ∧
  (∀ (s : State) (h : Nat), headInst s h = true → Machine.get s (F.HL_CTRL_EN h) ≠ 0 →
    Completes (.hlTrain h) s fun t =>
      Machine.get t (F.HL_STATUS_STATE h) = 1 ∧ (linkOf t h).fails = 0 ∧ Machine.get t F.PWR_RESET_CAUSE_KIND = 6 ∧
      (Machine.get s (F.HL_STATUS_STATE h) ≠ 5 → WithinHead h s t (F.PWR_RESET_CAUSE_KIND :: linkFields h))) ∧
  (∀ (s : State) (h v : Nat), headInst s h = true → v % 2 = 0 →
    Completes (.laserPermit h v) s fun t =>
      Machine.get t (F.HL_CTRL_LASER_PERMIT h) = 0 ∧ (linkOf t h).laser = 0 ∧ Machine.get t (F.WRP_STATUS_WRITE_PERMIT h) = 0 ∧
      WithinHead h s t [F.HL_CTRL_LASER_PERMIT h, F.SV_STATUS_ON_TRACK h, F.CH_STATUS_READ_PERMIT h, F.WRP_STATUS_WRITE_PERMIT h]) ∧
  (∀ (s : State) (h v : Nat), headInst s h = true → v % 2 = 1 →
    Completes (.laserPermit h v) s fun t =>
      Machine.get t (F.HL_CTRL_LASER_PERMIT h) = 1 ∧
      Within s t [F.HL_CTRL_LASER_PERMIT h, F.SV_STATUS_ON_TRACK h, F.CH_STATUS_READ_PERMIT h, F.WRP_STATUS_WRITE_PERMIT h]) ∧
  (∀ (s : State) (h : Nat), headInst s h = true →
    Completes (.hlClrCnt h) s fun t =>
      (∀ f ∈ [F.HL_DS_ERR h, F.HL_SERVO_CNT_MISS h, F.HL_SERVO_CNT_MISMATCH h, F.HL_LAT_PEAK h, F.HL_MSG_STAT_RETX h,
        F.HL_MSG_STAT_UNKNOWN h, F.HL_HEAD_EVT_COUNT h] ++ (List.range 4).map (F.HL_CORR_SYM h) ++ (List.range 4).map (F.HL_UNCORR h),
        Machine.get t f = 0) ∧
      Within s t ([F.HL_DS_ERR h, F.HL_SERVO_CNT_MISS h, F.HL_SERVO_CNT_MISMATCH h, F.HL_LAT_PEAK h, F.HL_MSG_STAT_RETX h,
        F.HL_MSG_STAT_UNKNOWN h, F.HL_HEAD_EVT_COUNT h] ++ (List.range 4).map (F.HL_CORR_SYM h) ++ (List.range 4).map (F.HL_UNCORR h))) ∧
  (∀ (s : State) (h g : Nat), headInst s h = true →
    Completes (.degrGroup h g) s fun t =>
      Machine.get t (F.HL_CTRL_DEGR_GROUP h) = g % 4 ∧
      (Machine.get s (F.HL_STATUS_DEGRADED h) ≠ 1 → Within s t [F.HL_CTRL_DEGR_GROUP h]) ∧
      (Machine.get s (F.HL_STATUS_DEGRADED h) = 1 → Machine.get s (F.HL_STATUS_STATE h) = 5 →
        (linkOf t h).laneCfg = some (1, Machine.get s (F.HL_STATUS_FAILED_LANE h), g % 4, tick s + 9)) ∧
      WithinHead h s t [F.HL_CTRL_DEGR_GROUP h]) ∧
  (∀ (s : State) (h rate fmt : Nat), headInst s h = true →
    Completes (.hlAdcWrite h rate fmt) s fun t =>
      Machine.get t (F.HL_ADC_N h) = rate % 512 ∧ Machine.get t (F.HL_ADC_FMT h) = fmt % 2 ∧
      (3 ≤ Machine.get s (F.HL_STATUS_STATE h) → Machine.get s (F.HL_STATUS_STATE h) ≤ 5 →
        (linkOf t h).adcCfg = some (rate % 512, fmt % 2, tick s + 25)) ∧ WithinHead h s t [F.HL_ADC_N h, F.HL_ADC_FMT h]) ∧
  (∀ (s : State) (h : Nat) (bits : List Bool), headInst s h = true → Machine.get s (F.HL_STATUS_STATE h) = 1 → isPrbs31 bits = true →
    Completes (.prbsSeen h bits) s fun t =>
      Machine.get t (F.HL_STATUS_STATE h) = 2 ∧ Raised t (evHL h) B.HL_EVT_STATE_CHANGE ∧ (linkOf t h).stateAt = now s ∧
      WithinHead h s t (linkFields h)) ∧
  (∀ (s : State) (h : Nat) (errs q : List Nat), headInst s h = true → Machine.get s (F.HL_STATUS_STATE h) = 2 →
    q = ((List.range 4).filter fun l => decide (errs.getD l 11 ≤ 10)) → q.length = 4 ∨ (q.length = 3 ∧ trainLate s h = true) →
    Completes (.lanesQualified h errs) s fun t =>
      Machine.get t (F.HL_STATUS_STATE h) = 3 ∧ (linkOf t h).qual = q ∧ WithinHead h s t (linkFields h)) ∧
  (∀ (s : State) (h : Nat) (skews q : List Nat), headInst s h = true → Machine.get s (F.HL_STATUS_STATE h) = 3 →
    q = ((linkOf s h).qual.filter fun l => decide (skews.getD l 0 ≤ 170)) → 3 ≤ q.length → (∀ l ∈ q, l ∈ (linkOf s h).locked) →
    Completes (.alignLocked h skews) s fun t =>
      Machine.get t (F.HL_STATUS_STATE h) = 4 ∧ (linkOf t h).qual = q ∧
      Machine.get t (F.HL_SKEW h) = trunc 32 (ofBytesLE ((List.range 4).map fun l => min 255 (skews.getD l 0))) ∧
      (linkOf t h).adcCfg = some (Machine.get s (F.HL_ADC_N h), Machine.get s (F.HL_ADC_FMT h), tick s + 25) ∧
      WithinHead h s t (F.HL_SKEW h :: linkFields h)) ∧
  (∀ (s : State) (h : Nat) (skews q : List Nat), headInst s h = true → Machine.get s (F.HL_STATUS_STATE h) = 3 →
    q = ((linkOf s h).qual.filter fun l => decide (skews.getD l 0 ≤ 170)) → q.length < 3 →
    Completes (.alignLocked h skews) s fun t =>
      Machine.get t (F.HL_STATUS_STATE h) = (if (linkOf s h).fails < 2 then 1 else 6) ∧ (linkOf t h).fails = (linkOf s h).fails + 1) ∧
  (∀ (s : State) (h : Nat), headInst s h = true → Machine.get s (F.HL_STATUS_STATE h) = 4 → (linkOf s h).identOk = true →
    (linkOf s h).adcCfg = none → (linkOf s h).laneCfg = none →
    Completes (.identConfigInForce h) s fun t =>
      Machine.get t (F.HL_STATUS_STATE h) = 5 ∧ Machine.get t (F.HL_SF_CNT h) = 0 ∧ (linkOf t h).fails = 0 ∧
      (Machine.get s (F.SV_STATUS_STATE h) = 0 → Machine.get s (F.SV_CTRL_EN h) = 1 → Machine.get t (F.SV_STATUS_STATE h) = 1) ∧
      ((linkOf s h).retrained = false → Machine.get s (F.SV_CTRL_EN h) = 0 → WithinHead h s t (F.HL_SF_CNT h :: linkFields h))) ∧
  (∀ (s : State) (h : Nat), headInst s h = true → 1 ≤ Machine.get s (F.HL_STATUS_STATE h) → Machine.get s (F.HL_STATUS_STATE h) ≤ 4 →
    trainLate s h = true →
    Completes (.trainingTimeout h) s fun t =>
      Machine.get t (F.HL_STATUS_STATE h) = (if (linkOf s h).fails < 2 then 1 else 6) ∧ (linkOf t h).fails = (linkOf s h).fails + 1 ∧
      ((linkOf s h).fails = 2 → Raised t (evHL h) B.HL_EVT_TRAIN_FAIL) ∧ WithinHead h s t (linkFields h)) ∧
  (∀ (s : State) (h lane : Nat), headInst s h = true → Machine.get s (F.HL_STATUS_STATE h) = 5 → lane ∈ lanesInUse (linkOf s h) →
    lane ∈ (linkOf s h).lost ∨ 8 ≤ ((linkOf s h).bad.filter fun b => decide (b.1 = lane)).length →
    Completes (.laneFault h lane) s fun t =>
      Raised t (evHL h) B.HL_EVT_LANE_FAULT ∧
      (((lanesInUse (linkOf s h)).filter (· ≠ lane)).length < 3 → Machine.get t (F.HL_STATUS_STATE h) = 1) ∧
      (3 ≤ ((lanesInUse (linkOf s h)).filter (· ≠ lane)).length → lane ∈ (linkOf t h).out ∧
        (Machine.get s (F.HL_CTRL_AUTO_DEGRADE h) = 1 → (linkOf t h).laneCfg = some (1, lane, lane, tick s + 9)) ∧
        (Machine.get s (F.HL_CTRL_AUTO_DEGRADE h) ≠ 1 → (linkOf t h).kept = some lane))) ∧
  (∀ (s : State) (h mode lane group sf : Nat), headInst s h = true → (linkOf s h).laneCfg = some (mode, lane, group, sf) → sf ≤ tick s →
    Completes (.laneMapSwitch h) s fun t =>
      Machine.get t (F.HL_STATUS_DEGRADED h) = mode % 2 ∧ Machine.get t (F.HL_STATUS_FAILED_LANE h) = lane % 4 ∧
      Machine.get t (F.HL_STATUS_GROUP h) = group % 4 ∧ Raised t (evHL h) B.HL_EVT_DEGRADE_DONE ∧ (linkOf t h).laneCfg = none ∧
      inForce t (F.HL_CTRL_DEGR_GROUP h) = Machine.get s (F.HL_CTRL_DEGR_GROUP h) ∧
      (mode = 0 → s.windows = [] → OnlyFields s t (linkFields h)))

/-- O6. From IDLE, or from LOST once an amplitude is back, the wobble PLL of an enabled channel acquires at nominal frequency; a
phase error below 1/32 period locks it, raising WPLL_LOCK; with both amplitudes gone it holds, counted, with every open slot
marked held; an amplitude that returns locks it again with an error below 1/8 period and loses it with a larger one; too long an
acquisition or hold, or too large an error in lock, loses it: counted, WPLL_LOST raised, the address unconfirmed, every open slot
marked lost. Enabling a channel in IDLE acquires and leaves any other state as it is; disabling it abandons every open slot and
unconfirms the address (log entry 79). READ_EN 0 takes the read permit, and CLR_CNT clears the channel's counters. Nothing of the
state changes but the head and the named registers. (R103, R105, R107, R119, R121, R122) -/
def Obligations.WobblePllStates : Prop :=
  (∀ (s : State) (h a0 a1 : Nat), headInst s h = true → Machine.get s (F.CH_CTRL_EN h) ≠ 0 →
    wpllSt s h = 0 ∨ (wpllSt s h = 4 ∧ (ampOk s h a0 = true ∨ ampOk s h a1 = true)) →
    Completes (.wpllAcquire h a0 a1) s fun t =>
      wpllSt t h = 1 ∧ chanOf t h = { chanOf s h with nco := nominalNco s h, phiOk := false } ∧
      WithinHead h s t (F.CH_STATUS_WPLL_STATE h :: permitFields h)) ∧
  (∀ (s : State) (h rms : Nat), headInst s h = true → wpllSt s h = 1 → rms < 2048 →
    Completes (.wpllLock h rms) s fun t =>
      wpllSt t h = 2 ∧ Raised t (evCH h) B.CH_EVT_WPLL_LOCK ∧
      Within s t (F.CH_STATUS_WPLL_STATE h :: permitFields h ++ evFields (evCH h))) ∧
  (∀ (s : State) (h a0 a1 : Nat), headInst s h = true → wpllSt s h = 2 → ampOk s h a0 = false → ampOk s h a1 = false →
    Completes (.wpllHold h a0 a1) s fun t =>
      wpllSt t h = 3 ∧ Machine.get t (F.CH_WPLL_HOLD h) = trunc 32 (satAdd 32 (Machine.get s (F.CH_WPLL_HOLD h)) 1) ∧
      chanOf t h = { chanOf s h with slots := (chanOf s h).slots.map fun o => { o with held := true } } ∧
      WithinHead h s t (F.CH_STATUS_WPLL_STATE h :: F.CH_WPLL_HOLD h :: permitFields h)) ∧
  (∀ (s : State) (h a0 a1 err : Nat), headInst s h = true → wpllSt s h = 3 → ampOk s h a0 = true ∨ ampOk s h a1 = true → err < 8192 →
    Completes (.wpllHoldReturn h a0 a1 err) s fun t =>
      wpllSt t h = 2 ∧ Raised t (evCH h) B.CH_EVT_WPLL_LOCK ∧
      Within s t (F.CH_STATUS_WPLL_STATE h :: permitFields h ++ evFields (evCH h))) ∧
  (∀ (s : State) (h a0 a1 err : Nat), headInst s h = true → wpllSt s h = 3 → ampOk s h a0 = true ∨ ampOk s h a1 = true → 8192 ≤ err →
    Completes (.wpllHoldReturn h a0 a1 err) s fun t =>
      wpllSt t h = 4 ∧ Raised t (evCH h) B.CH_EVT_WPLL_LOST ∧ Machine.get t (F.CH_STATUS_ADDR_CONF h) = 0) ∧
  (∀ (s : State) (h periods rms : Nat), headInst s h = true →
    (wpllSt s h = 1 ∧ 8192 ≤ periods) ∨ (wpllSt s h = 2 ∧ 8192 < rms) ∨
      (wpllSt s h = 3 ∧ 16 * inForce s (F.CH_WPLL_CFG_HOLD_MAX h) ≤ periods) →
    Completes (.wpllLost h periods rms) s fun t =>
      wpllSt t h = 4 ∧ Machine.get t (F.CH_WPLL_LOST h) = trunc 32 (satAdd 32 (Machine.get s (F.CH_WPLL_LOST h)) 1) ∧
      Raised t (evCH h) B.CH_EVT_WPLL_LOST ∧ Machine.get t (F.CH_STATUS_ADDR_CONF h) = 0 ∧
      (∀ o ∈ (chanOf t h).slots, o.lost = true) ∧
      WithinHead h s t ([F.CH_STATUS_WPLL_STATE h, F.CH_WPLL_LOST h, F.CH_STATUS_ADDR_CONF h, F.CH_ADDR_CONFIRMED h, F.SV_POS_CONFIRMED h]
        ++ permitFields h ++ evFields (evCH h))) ∧
  (∀ (s : State) (h en : Nat), headInst s h = true → en % 2 = 1 →
    Completes (.chEnable h en) s fun t =>
      Machine.get t (F.CH_CTRL_EN h) = 1 ∧ wpllSt t h = (if wpllSt s h = 0 then 1 else wpllSt s h) ∧
      chanOf t h = (if wpllSt s h = 0 then { chanOf s h with nco := nominalNco s h, phiOk := false } else chanOf s h) ∧
      WithinHead h s t (F.CH_CTRL_EN h :: F.CH_STATUS_WPLL_STATE h :: permitFields h)) ∧
  (∀ (s : State) (h en : Nat), headInst s h = true → en % 2 = 0 →
    Completes (.chEnable h en) s fun t =>
      Machine.get t (F.CH_CTRL_EN h) = 0 ∧ wpllSt t h = 0 ∧ Machine.get t (F.CH_STATUS_ADDR_CONF h) = 0 ∧
      ((chanOf s h).slots = [] →
        WithinHead h s t ([F.CH_CTRL_EN h, F.CH_STATUS_WPLL_STATE h, F.CH_STATUS_ADDR_CONF h, F.CH_ADDR_CONFIRMED h, F.SV_POS_CONFIRMED h]
          ++ permitFields h))) ∧
  (∀ (s : State) (h en : Nat), headInst s h = true →
    Completes (.chReadEn h en) s fun t =>
      Machine.get t (F.CH_CTRL_READ_EN h) = en % 2 ∧
      (en % 2 = 0 → (∃ k, k < 32 ∧ beamHidden s h k = false) → Machine.get t (F.CH_STATUS_READ_PERMIT h) = 0) ∧
      Within s t (F.CH_CTRL_READ_EN h :: permitFields h)) ∧
  (∀ (s : State) (h : Nat), headInst s h = true →
    Completes (.chClrCnt h) s fun t =>
      (∀ f ∈ [F.CH_UCRC_ERR h, F.CH_ADDR_MISMATCH h, F.CH_WPLL_HOLD h, F.CH_WPLL_LOST h, F.CH_SYNC_MISS h,
        F.CH_SYNC_EARLY h, F.CH_RESYNC_SLIP h, F.CH_RESYNC_MISS h, F.CH_ABANDON h, F.CH_RATE_LATE h, F.CH_SAMPLE_DISC h,
        F.CH_BLANK_SLOTS h, F.CH_WPLL_ERR_PEAK h], Machine.get t f = 0) ∧
      Within s t [F.CH_UCRC_ERR h, F.CH_ADDR_MISMATCH h, F.CH_WPLL_HOLD h, F.CH_WPLL_LOST h, F.CH_SYNC_MISS h,
        F.CH_SYNC_EARLY h, F.CH_RESYNC_SLIP h, F.CH_RESYNC_MISS h, F.CH_ABANDON h, F.CH_RATE_LATE h, F.CH_SAMPLE_DISC h,
        F.CH_BLANK_SLOTS h, F.CH_WPLL_ERR_PEAK h])

/-- O7. A seam moves its beam one band on, up to the last; D0's seam moves the channel's fret, S0's the position. The next slot of
a readable beam opens for acquisition with its sector in work and the acquisition fields in force; one whose fret has too low a
sampling ratio is marked for re-read instead. A slot whose envelope stays low is counted and reported blank and leaves. The sync
mark with the lowest distance within the threshold frames its slot, a window without one leaves it to the prediction; a resync
mark found moves the frame by its offset, counted as a slip where it is not zero, one not found is counted as a miss, and after
the second mark and each later one the codewords before it are released; after eight marks the postamble releases the ninth and
ends the slot. ADC_CFG is asked for the head's fret at the first confirmation, and before the seam into another; it comes into
force at its superframe. (R29, R39, R108, R109, R111, R112, R113, R114, R115, R116, R117, R118) -/
def Obligations.SlotsAndSyncMarks : Prop :=
  (∀ (s : State) (h beam : Nat), headInst s h = true → 0 < beam → beam < 32 →
    Completes (.seam h beam) s fun t =>
      beamBand t h beam = min 9640 (beamBand s h beam + 1) ∧ WithinHead h s t (permitFields h)) ∧
  (∀ (s : State) (h : Nat), headInst s h = true →
    Completes (.seam h 0) s fun t =>
      beamBand t h 0 = min 9640 (beamBand s h 0 + 1) ∧
      Machine.get t (F.CH_FRET_FRET h) = fretOf (min 9640 (beamBand s h 0 + 1)) % 32 ∧
      WithinHead h s t (F.CH_FRET_FRET h :: permitFields h)) ∧
  (∀ (s : State) (h : Nat), headInst s h = true → (servoOf s h).target = none →
    Completes (.seam h 32) s fun t =>
      Machine.get t (F.SV_POS_BAND h) = trunc (F.SV_POS_BAND h).width (min lastTurn (beamBand s h 32 + 1)) ∧
      Machine.get t (F.CH_ADDR_BAND h) = trunc (F.CH_ADDR_BAND h).width (min lastTurn (beamBand s h 32 + 1)) ∧
      WithinHead h s t ([F.SV_POS_BAND h, F.CH_ADDR_BAND h, F.WRP_STATUS_BAND h, F.WRP_STATUS_REMAIN h] ++ permitFields h)) ∧
  (∀ (s : State) (h beam addr : Nat), headInst s h = true → beam < 32 → beamBand s h beam < lastTurn →
    Machine.get s (F.HL_STATUS_STATE h) = 5 → beamHidden s h beam = false → (chanOf s h).phiOk = true → slotOf s h beam = none →
    addr = beamAddr s h beam (nextSlot s h beam) → addr ∉ (chanOf s h).skip0 → readPermitIn s h (fretOf (beamBand s h beam)) = true →
    Completes (.slotOpen h beam) s fun t =>
      slotOf t h beam = some { beam := beam, addr := addr, limit := slotLimit s h addr, verify := verifySlot s h addr } ∧
      (∃ x ∈ (chanOf t h).sectors, x.addr = addr ∧ slotLimit s h addr ≤ x.limit) ∧ addr ∉ (chanOf t h).reread ∧
      (loopOf t h beam).mode = 1 ∧
      (∀ f ∈ [F.CH_ACQ_FAST_GAIN h, F.CH_ACQ_TRACK_GAIN h, F.CH_SYNC_SM_THR h, F.CH_SYNC_RM_THR h], inForce t f = Machine.get s f) ∧
      inner t = { inner s with heads := t.heads, force := t.force } ∧ OnlyFields s t []) ∧
  (∀ (s : State) (h beam addr : Nat), headInst s h = true → beam < 32 → beamBand s h beam < lastTurn →
    Machine.get s (F.HL_STATUS_STATE h) = 5 → beamHidden s h beam = false → (chanOf s h).phiOk = true → slotOf s h beam = none →
    addr = beamAddr s h beam (nextSlot s h beam) → addr ∉ (chanOf s h).skip0 →
    ratioOk (Machine.get s (F.CH_FRET_N h)) (fretOf (beamBand s h beam)) (Machine.get s (F.CH_CTRL_SPEED h)) = false →
    Completes (.slotOpen h beam) s fun t =>
      slotOf t h beam = none ∧ (verifySlot s h addr = false → addr ∈ (chanOf t h).reread) ∧ WithinHead h s t []) ∧
  (∀ (s : State) (h beam envelope : Nat) (o : OpenSlot), slotOf s h beam = some o → o.st = 2 → envelope < Machine.get s (F.CH_BLANK_THR h) →
    Completes (.slotBlank h beam envelope) s fun t =>
      slotOf t h beam = none ∧ o.addr ∈ (chanOf t h).blanks ∧
      (∀ x ∈ (chanOf t h).sectors, x.addr = o.addr → laddered x = true) ∧
      Machine.get t (F.CH_BLANK_SLOTS h) = trunc 32 (satAdd 32 (Machine.get s (F.CH_BLANK_SLOTS h)) 1) ∧
      (o.verify = false → WithinHead h s t [F.CH_BLANK_SLOTS h])) ∧
  (∀ (s : State) (h beam : Nat) (phase trim w : Int) (n : Nat) (decs : List (Option Bool)) (o : OpenSlot), slotOf s h beam = some o →
    o.st = 2 ∨ o.st = 3 → (∃ d ∈ decs, d ≠ none) →
    markWinner (inForce s (F.CH_SYNC_SM_THR h)) (markScan smBits 48 decs) = some (w, n) →
    Completes (.smWindowClose h beam phase trim decs) s fun t =>
      slotOf t h beam = some { o with
        st := 4, sm := true, smAt := w, base := w, frame := w,
        alts := markAlternates (inForce s (F.CH_SYNC_SM_THR h)) (w, n) (markScan smBits 48 decs) } ∧ WithinHead h s t []) ∧
  (∀ (s : State) (h beam : Nat) (phase trim : Int) (decs : List (Option Bool)) (o : OpenSlot), slotOf s h beam = some o →
    o.st = 2 ∨ o.st = 3 →
    (∀ d ∈ decs, d = none) ∨ markWinner (inForce s (F.CH_SYNC_SM_THR h)) (markScan smBits 48 decs) = none →
    Completes (.smWindowClose h beam phase trim decs) s fun t =>
      slotOf t h beam = some { o with st := 5, sm := false, smAt := 0, base := 0, frame := 0 } ∧ WithinHead h s t []) ∧
  (∀ (s : State) (h beam j n : Nat) (phase trim x : Int) (decs : List (Option Bool)) (o : OpenSlot), slotOf s h beam = some o →
    o.st = 4 ∨ o.st = 5 ∨ o.st = 6 → 1 ≤ j → j ≤ 8 → j = o.marks + 1 →
    markWinner (inForce s (F.CH_SYNC_RM_THR h)) (markScan rmBits (if j = 1 then 48 else 8) decs) = some (x, n) →
    Completes (.resyncMark h beam j phase trim decs) s fun t =>
      (∃ p, slotOf t h beam = some p ∧ p.st = 6 ∧ p.marks = j ∧ p.frame = o.base + x ∧
        p.released = (if j = 1 then o.released else max o.released j)) ∧
      (o.base + x ≠ o.frame →
        Machine.get t (F.CH_RESYNC_SLIP h) = trunc 32 (satAdd 32 (Machine.get s (F.CH_RESYNC_SLIP h)) 1)) ∧
      (o.base + x = o.frame → Machine.get t (F.CH_RESYNC_SLIP h) = Machine.get s (F.CH_RESYNC_SLIP h)) ∧
      WithinHead h s t ([F.CH_RESYNC_SLIP h, F.CH_SYNC_EARLY h, F.CH_SYNC_MISS h, F.CH_BEAM_OFS h beam] ++ evFields (evCH h))) ∧
  (∀ (s : State) (h beam j : Nat) (phase trim : Int) (decs : List (Option Bool)) (o : OpenSlot), slotOf s h beam = some o →
    o.st = 4 ∨ o.st = 5 ∨ o.st = 6 → 1 ≤ j → j ≤ 8 → j = o.marks + 1 →
    markWinner (inForce s (F.CH_SYNC_RM_THR h)) (markScan rmBits (if j = 1 then 48 else 8) decs) = none →
    Completes (.resyncMark h beam j phase trim decs) s fun t =>
      (∃ p, slotOf t h beam = some p ∧ p.st = 6 ∧ p.marks = j ∧ p.frame = o.frame ∧
        p.released = (if j = 1 then o.released else max o.released j)) ∧
      Machine.get t (F.CH_RESYNC_MISS h) = trunc 32 (satAdd 32 (Machine.get s (F.CH_RESYNC_MISS h)) 1) ∧
      WithinHead h s t ([F.CH_RESYNC_MISS h, F.CH_SYNC_EARLY h, F.CH_SYNC_MISS h] ++ evFields (evCH h))) ∧
  (∀ (s : State) (h beam : Nat) (o : OpenSlot), slotOf s h beam = some o → 8 ≤ o.marks →
    Completes (.postambleEnd h beam) s fun t =>
      slotOf t h beam = none ∧ mapGet (fun _ => 0) (chanOf t h).seen o.addr = max o.released 9 ∧ (loopOf t h beam).mode = 0 ∧
      WithinHead h s t []) ∧
  (∀ (s : State) (h f : Nat), headInst s h = true → Machine.get s (F.HL_STATUS_STATE h) = 5 → Machine.get s (F.CH_STATUS_ADDR_CONF h) = 1 →
    f = fretOf (beamBand s h 32) → (chanOf s h).askedFret = none ∨ (∃ a, (chanOf s h).askedFret = some a ∧ a < f) →
    Completes (.fretCrossingAdcCfg h) s fun t =>
      (chanOf t h).askedFret = some f ∧
      (linkOf t h).adcCfg = some (Machine.get s (F.CH_NF_N h f), fretFmt s h f, tick s + 25) ∧
      WithinHead h s t []) ∧
  (∀ (s : State) (h f g : Nat), headInst s h = true → Machine.get s (F.HL_STATUS_STATE h) = 5 → Machine.get s (F.CH_STATUS_ADDR_CONF h) = 1 →
    f = fretOf (beamBand s h 32) → (chanOf s h).askedFret = some f → beamBand s h 32 < 9640 → g = fretOf (beamBand s h 32 + 1) → f ≠ g →
    Completes (.fretCrossingAdcCfg h) s fun t =>
      (chanOf t h).askedFret = some g ∧
      (linkOf t h).adcCfg = some (Machine.get s (F.CH_NF_N h g), fretFmt s h g,
        tick s + 1 + max 24 (tick s + ((seamTicks s h).min?.getD 0) - (tick s + 1))) ∧
      WithinHead h s t []) ∧
  (∀ (s : State) (h n fmt sf : Nat), headInst s h = true → (linkOf s h).adcCfg = some (n, fmt, sf) → sf ≤ tick s →
    Completes (.adcCfgInForce h) s fun t =>
      Machine.get t (F.CH_FRET_N h) = n % 512 ∧ Machine.get t (F.CH_FRET_FMT h) = fmt % 2 ∧ (linkOf t h).adcCfg = none ∧
      (linkOf t h).timing = false ∧ OnlyFields s t (F.CH_FRET_N h :: F.CH_FRET_FMT h :: permitFields h))

/-- O8. Outside the state that stops the read path, a released codeword whose neighbours are released or will not be is detected:
its MSE and erased bits are reported and counted, an MSE above the limit resets the equalizer, counted and raised. With erased
bits within the limit its LLRs are kept and, but for the first read of a rung-6 group, its attempt enters its pool's queue; a
later rung that finds 256 there waits with its sector. An idle engine in service takes the attempt that the priorities choose,
with the limit, ALPHA and STALL of its start. The end of an attempt that was not stopped frees the engine and adds its iterations;
a converged codeword is counted with its iterations and holds its payload, one that fails rung 0 is counted with CW_FAIL raised,
and one that fails rungs 1 to 6 with no frame hypothesis left is pending again, while its sector still has codewords under way; an
attempt stopped before its end goes back to the soft store. An engine that fails leaves service with a record of the fault, its
attempt going back to its level; idle engines that a fence names leave at once. The ladder of a head that has none under way
starts, once its extent has ended or enough bands hold pending sectors, with the lowest such band at rung 1 with no revolution
taken. With no attempt of its band under way, a rung that still has pending codewords and a read to take takes it: the revolution
is counted against the budget and in RETRY_REV, and the offsets of rungs 3 and 4 apply to it and to no other rung. A ladder whose
band and channel hold no pending sector ends. DET_CLR_CNT clears the detection counters, POOL_PEAK and ITER_HIST. (R124, R126,
R132, R133, R134, R135, R136, R137, R140, R141, R143, R144) -/
def Obligations.DetectionAndLadder : Prop :=
  (∀ (s : State) (h addr i : Nat) (sigs : List BeamSignal) (x : Sector) (w : Codeword) (d : Detected), headInst s h = true →
    Machine.get s F.PWR_STATUS_STATE ≠ 1 → sectorAt s h addr = some x → w = x.cws.getD i {} → w.st = 1 →
    (∀ a ∈ neighbours addr, neighbour s h a i ≠ none) → d = detection s h addr i sigs → d.erased ≤ Machine.get s (F.CH_ERASE_CFG_ERASE_MAX h) →
    (w.rung = 0 → (getPool s (h / 4)).queue.length < 256) → ¬ (w.rung = 6 ∧ w.store = some []) →
    Completes (.codewordDetect h addr i sigs) s fun t =>
      cwAt t h addr i = { w with
        st := 2, erased := d.erased, dominated := if w.rung = 0 then false else w.dominated,
        llr := inputOf s h addr i 0 d.llrs, chan := if w.rung = 2 then d.llrs else [],
        store := if w.rung = 6 then w.store.map fun l => addRead l (inputOf s h addr i 0 d.llrs) else w.store,
        hyps := if w.rung = 0 then w.hyps else if w.rung = 2 ∧ isSet s (F.CH_DET_CTRL_ALT_FRAME h) = true then w.hyps ++ [1, -1, 2, -2]
          else if w.rung = 2 then w.hyps else [] } ∧
      ((getPool s (h / 4)).queue.length < 256 → (getPool s (h / 4)).late = [] →
        (getPool t (h / 4)).queue = (getPool s (h / 4)).queue ++ [⟨h, addr, i, w.rung⟩]) ∧
      (256 ≤ (getPool s (h / 4)).queue.length → (getPool t (h / 4)).queue = (getPool s (h / 4)).queue ∧
        (getPool t (h / 4)).late = (getPool s (h / 4)).late ++ [⟨h, addr, i, w.rung⟩]) ∧
      Machine.get t (F.CH_BEAM_Q_MSE h (addrTrack addr)) = min 65535 d.mse ∧
      Machine.get t (F.CH_BEAM_Q_ERASED h (addrTrack addr)) = min 65535 d.erased ∧
      Machine.get t (F.CH_ERASE_BITS h) = trunc 64 (satAdd 64 (Machine.get s (F.CH_ERASE_BITS h)) d.erased) ∧
      (Machine.get s (F.CH_EQ_CFG_MSE_MAX h) < d.mse → Raised t (evCH h) B.CH_EVT_EQ_RESET ∧
        Machine.get t (F.CH_EQ_RESET h) = trunc 32 (satAdd 32 (Machine.get s (F.CH_EQ_RESET h)) 1)) ∧
      inner t = { inner s with heads := t.heads, pools := t.pools, force := t.force } ∧ OnlyHead h s t ∧ OnlyPool (h / 4) s t ∧
      OnlyFields s t ([F.CH_BEAM_Q_MSE h (addrTrack addr), F.CH_BEAM_Q_ERASED h (addrTrack addr), F.CH_ERASE_BITS h, F.CH_EQ_RESET h,
        F.CH_ITI_SKIP h, F.CH_ITI_IN h (addrTrack addr), F.CH_ITI_OUT h (addrTrack addr),
        F.CH_POOL_STATUS_DEPTH (4 * (h / 4)), F.CH_POOL_PEAK (4 * (h / 4))] ++ evFields (evCH h))) ∧
  (∀ (s : State) (q e : Nat) (j : Job), q < 16 → e < 16 → engineIn s q e = true → Machine.get s F.PWR_STATUS_STATE ≠ 1 →
    (∀ b ∈ (getPool s q).busy, b.engine ≠ e) → (nextJob s q).1 = some j → j.head < 64 →
    Completes (.decodeAttemptStart q e) s fun t =>
      (∃ b ∈ (getPool t q).busy, b.engine = e ∧ b.job = j ∧ b.alpha = Machine.get s (F.CH_LDPC_CFG_ALPHA j.head) ∧
        b.stall = Machine.get s (F.CH_LDPC_CFG_STALL j.head) ∧ b.stop = false ∧
        b.limit = (if j.rung = 0 then min 40 (max 1 (Machine.get s (F.CH_LDPC_CFG_ITER0 j.head)))
          else max (min 40 (max 1 (Machine.get s (F.CH_LDPC_CFG_ITER0 j.head)))) (min 40 (max 1 (Machine.get s (F.CH_LDPC_CFG_ITER1 j.head)))))) ∧
      cwAt t j.head j.addr j.cw = (if j.cw < (((sectorAt s j.head j.addr).map fun x => x.cws.length).getD 0) then
        { cwAt s j.head j.addr j.cw with st := 3 } else cwAt s j.head j.addr j.cw) ∧
      (j.rung = 0 → (getPool s q).late = [] → (getPool t q).queue = (getPool s q).queue.erase j) ∧
      inner t = { inner s with heads := t.heads, pools := t.pools, force := t.force } ∧ OnlyHead j.head s t ∧
      (∀ p, p ≠ q → p ≠ q ^^^ 1 → getPool t p = getPool s p) ∧
      OnlyFields s t [F.CH_POOL_STATUS_DEPTH (4 * q), F.CH_POOL_PEAK (4 * q)]) ∧
  (∀ (s : State) (q e ran : Nat) (a : Attempt) (r : Decoded), q < 16 →
    ((getPool s q).busy.find? fun b => decide (b.engine = e)) = some a → a.job.head < 64 → a.limit ≤ 40 → a.job.rung ≤ 6 → r = attemptOutcome s a →
    r.ok = true → a.stop = false ∨ r.iters ≤ ran →
    Completes (.decodeAttemptEnd q e ran) s fun t =>
      (∀ b ∈ (getPool t q).busy, b.engine ≠ e) ∧
      Machine.get t (F.CH_ITER_SUM a.job.head) = trunc 64 (satAdd 64 (Machine.get s (F.CH_ITER_SUM a.job.head)) r.iters) ∧
      Machine.get t (F.CH_CW_DECODED a.job.head) = trunc 64 (satAdd 64 (Machine.get s (F.CH_CW_DECODED a.job.head)) 1) ∧
      Machine.get t (F.CH_ITER_HIST a.job.head (r.iters - 1))
        = trunc 32 (satAdd 32 (Machine.get s (F.CH_ITER_HIST a.job.head (r.iters - 1))) 1) ∧
      (1 ≤ a.job.rung → Machine.get t (F.CH_RUNG1_OK a.job.head (a.job.rung - 1))
        = trunc 32 (satAdd 32 (Machine.get s (F.CH_RUNG1_OK a.job.head (a.job.rung - 1))) 1)) ∧
      (bitOf (Machine.get s (F.CH_POOL_FENCE (4 * q))) e = 1 → e < 16 → engineIn t q e = false) ∧
      (∀ x i, sectorAt s a.job.head a.job.addr = some x → a.job.cw < x.cws.length → i < x.cws.length → i ≠ a.job.cw →
        (x.cws.getD i {}).st < 4 → (x.cws.getD i {}).rung = 0 →
        cwAt t a.job.head a.job.addr a.job.cw = { x.cws.getD a.job.cw {} with
          st := 4, store := none, chan := [], llr := [], hyps := [], data := payloadOf r.bits, iters := (x.cws.getD a.job.cw {}).iters + r.iters } ∧
        OnlyHead a.job.head s t ∧
        WithinDec s t ([F.CH_ITER_SUM a.job.head, F.CH_CW_DECODED a.job.head, F.CH_ITER_HIST a.job.head (r.iters - 1),
          F.CH_RUNG1_OK a.job.head (a.job.rung - 1), F.CH_POOL_STATUS_ENGINES (4 * q),
          F.CH_POOL_CTRL_PARTNER_EN (4 * q), F.CH_POOL_CTRL_PARTNER_EN (4 * (q ^^^ 1))]))) ∧
  (∀ (s : State) (q e ran : Nat) (a : Attempt) (r : Decoded), q < 16 →
    ((getPool s q).busy.find? fun b => decide (b.engine = e)) = some a → a.job.head < 64 → a.job.rung = 0 → r = attemptOutcome s a →
    r.ok = false → a.stop = false ∨ r.iters ≤ ran →
    Completes (.decodeAttemptEnd q e ran) s fun t =>
      (∀ b ∈ (getPool t q).busy, b.engine ≠ e) ∧
      Machine.get t (F.CH_ITER_SUM a.job.head) = trunc 64 (satAdd 64 (Machine.get s (F.CH_ITER_SUM a.job.head)) r.iters) ∧
      Machine.get t (F.CH_CW_FAIL0 a.job.head) = trunc 32 (satAdd 32 (Machine.get s (F.CH_CW_FAIL0 a.job.head)) 1) ∧
      Raised t (evCH a.job.head) B.CH_EVT_CW_FAIL ∧
      (∀ x i, sectorAt s a.job.head a.job.addr = some x → a.job.cw < x.cws.length → i < x.cws.length → i ≠ a.job.cw → x.lost = false →
        (x.cws.getD i {}).st < 4 → (x.cws.getD i {}).rung = 0 →
        (rungOn s a.job.head 1 = true → 1 ≤ x.limit → softUsed (chanOf s a.job.head) < 16 →
          (cwAt t a.job.head a.job.addr a.job.cw).st = 2 ∧ (cwAt t a.job.head a.job.addr a.job.cw).rung = 1 ∧
          (cwAt t a.job.head a.job.addr a.job.cw).store = some (x.cws.getD a.job.cw {}).llr ∧
          ⟨a.job.head, a.job.addr, a.job.cw, 1⟩ ∈ (getPool t (a.job.head / 4)).soft) ∧
        (rungOn s a.job.head 1 = false ∨ x.limit = 0 → (cwAt t a.job.head a.job.addr a.job.cw).st = 5) ∧
        OnlyHead a.job.head s t ∧
        WithinDec s t ([F.CH_ITER_SUM a.job.head, F.CH_CW_FAIL0 a.job.head, F.CH_STORE_FULL a.job.head, F.CH_POOL_STATUS_ENGINES (4 * q),
          F.CH_POOL_CTRL_PARTNER_EN (4 * q), F.CH_POOL_CTRL_PARTNER_EN (4 * (q ^^^ 1))] ++ evFields (evCH a.job.head)))) ∧
  (∀ (s : State) (q e ran i : Nat) (a : Attempt) (r : Decoded) (x : Sector), q < 16 →
    ((getPool s q).busy.find? fun b => decide (b.engine = e)) = some a → a.job.head < 64 → 1 ≤ a.job.rung → r = attemptOutcome s a →
    r.ok = false → a.stop = false ∨ r.iters ≤ ran → sectorAt s a.job.head a.job.addr = some x → a.job.cw < x.cws.length →
    i < x.cws.length → i ≠ a.job.cw → (x.cws.getD i {}).st < 4 → (x.cws.getD i {}).rung = 0 →
    (a.job.rung = 2 → (x.cws.getD a.job.cw {}).hyps = []) →
    Completes (.decodeAttemptEnd q e ran) s fun t =>
      (∀ b ∈ (getPool t q).busy, b.engine ≠ e) ∧ (cwAt t a.job.head a.job.addr a.job.cw).st = 5 ∧
      Machine.get t (F.CH_ITER_SUM a.job.head) = trunc 64 (satAdd 64 (Machine.get s (F.CH_ITER_SUM a.job.head)) r.iters) ∧
      OnlyHead a.job.head s t ∧
      WithinDec s t [F.CH_ITER_SUM a.job.head, F.CH_POOL_STATUS_ENGINES (4 * q),
        F.CH_POOL_CTRL_PARTNER_EN (4 * q), F.CH_POOL_CTRL_PARTNER_EN (4 * (q ^^^ 1))]) ∧
  (∀ (s : State) (q e ran : Nat) (a : Attempt), q < 16 →
    ((getPool s q).busy.find? fun b => decide (b.engine = e)) = some a → a.job.head < 64 → a.stop = true → ran < (attemptOutcome s a).iters →
    Completes (.decodeAttemptEnd q e ran) s fun t =>
      (∀ b ∈ (getPool t q).busy, b.engine ≠ e) ∧ (getPool t (a.job.head / 4)).soft = a.job :: (getPool s (a.job.head / 4)).soft ∧
      (sectorAt s a.job.head a.job.addr ≠ none → a.job.cw < (((sectorAt s a.job.head a.job.addr).map fun x => x.cws.length).getD 0) →
        cwAt t a.job.head a.job.addr a.job.cw = { cwAt s a.job.head a.job.addr a.job.cw with st := 2 }) ∧
      Machine.get t (F.CH_ITER_SUM a.job.head) = trunc 64 (satAdd 64 (Machine.get s (F.CH_ITER_SUM a.job.head)) (max 1 ran)) ∧
      OnlyHead a.job.head s t ∧
      WithinDec s t [F.CH_ITER_SUM a.job.head, F.CH_POOL_STATUS_ENGINES (4 * q),
        F.CH_POOL_CTRL_PARTNER_EN (4 * q), F.CH_POOL_CTRL_PARTNER_EN (4 * (q ^^^ 1))]) ∧
  (∀ (s : State) (q e : Nat), q < 16 → e < 16 → engineIn s q e = true →
    Completes (.engineFault q e) s fun t =>
      engineIn t q e = false ∧ bitOf (Machine.get t (F.CH_POOL_FAULT (4 * q))) e = 1 ∧
      Raised t (evCH (4 * q + e / 4)) B.CH_EVT_ENGINE_FAULT ∧ (∀ b ∈ (getPool t q).busy, b.engine ≠ e) ∧
      (∀ a, ((getPool s q).busy.find? fun b => decide (b.engine = e)) = some a →
        if a.job.rung = 1 then a.job ∈ (getPool t (a.job.head / 4)).soft else (getPool t q).queue.head? = some a.job) ∧
      ((∀ w ∈ s.windows, ¬ (w.kind = Dom.pool ∧ w.inst = q)) →
        t.windows = s.windows ∧
        t.faultLog = (⟨now s, 0, Dom.pool, q, if isExposed s Dom.pool q then 1 else 0, 4 * q + e / 4⟩ :: s.faultLog).take 64) ∧
      inner t = { inner s with windows := t.windows, faultLog := t.faultLog, exposed := t.exposed, pools := t.pools, heads := t.heads } ∧
      OnlyFields s t ([F.CH_POOL_FAULT (4 * q), F.CH_POOL_STATUS_ENGINES (4 * q), F.CH_POOL_CTRL_PARTNER_EN (4 * q),
        F.CH_POOL_CTRL_PARTNER_EN (4 * (q ^^^ 1)), F.CH_POOL_STATUS_DEPTH (4 * q), F.CH_POOL_PEAK (4 * q),
        F.EVT_FW_OPEN_NOW, F.EVT_FW_OPEN_TOTAL] ++ evFields (evCH (4 * q + e / 4)))) ∧
  (∀ (s : State) (h v : Nat), headInst s h = true →
    Completes (.poolFenceWrite h v) s fun t =>
      Machine.get t (F.CH_POOL_FENCE (4 * (h / 4))) = trunc 16 v ∧
      (∀ e < 16, bitOf v e = 1 → (∀ b ∈ (getPool s (h / 4)).busy, b.engine ≠ e) → engineIn t (h / 4) e = false) ∧
      (∀ e < 16, engineIn s (h / 4) e = true → bitOf v e = 0 ∨ (∃ b ∈ (getPool s (h / 4)).busy, b.engine = e) → engineIn t (h / 4) e = true) ∧
      Within s t [F.CH_POOL_FENCE (4 * (h / 4)), F.CH_POOL_STATUS_ENGINES (4 * (h / 4)),
        F.CH_POOL_CTRL_PARTNER_EN (4 * (h / 4)), F.CH_POOL_CTRL_PARTNER_EN (4 * (h / 4 ^^^ 1))]) ∧
  (∀ (s : State) (h cls b l : Nat) (ended : Bool), headInst s h = true → Machine.get s (F.CH_LADDER_STATUS_ACTIVE h) ≠ 1 →
    lowestBand s h = some (b, l) → ended = true ∨ Machine.get s (F.CH_LADDER_MAX_BANDS h) ≤ pendingBands s h →
    Completes (.ladderStart h cls ended) s fun t =>
      Machine.get t (F.CH_LADDER_STATUS_ACTIVE h) = 1 ∧ Machine.get t (F.CH_LADDER_STATUS_BAND h) = trunc 14 b ∧
      Machine.get t (F.CH_LADDER_STATUS_RUNG h) = 1 ∧ Machine.get t (F.CH_LADDER_STATUS_REVS h) = 0 ∧ (chanOf t h).ladLayer = l ∧
      (Machine.get s F.ARB_STATUS_RUNNING = 1 → Machine.get t (F.CH_DEC_WEIGHT h) = (if cls ≤ 1 then 15 else if cls = 4 then 2 else 8)) ∧
      (Machine.get s (F.SV_STATUS_STATE h) < 4 →
        WithinHead h s t [F.CH_LADDER_STATUS_ACTIVE h, F.CH_LADDER_STATUS_BAND h, F.CH_LADDER_STATUS_RUNG h,
          F.CH_LADDER_STATUS_REVS h, F.CH_LADDER_STATUS_PENDING h, F.CH_DEC_WEIGHT h])) ∧
  (∀ (s : State) (h : Nat), headInst s h = true → Machine.get s (F.CH_LADDER_STATUS_ACTIVE h) = 1 → ladderIdle s h = true →
    (∃ x ∈ ladderSectors s h, x.crcAt < Machine.get s (F.CH_LADDER_STATUS_RUNG h) ∧
      ∃ w ∈ x.cws, w.st = 5 ∧ (Machine.get s (F.CH_LADDER_STATUS_RUNG h) = 6 → w.store ≠ none)) →
    (chanOf s h).again = false → (chanOf s h).part ≠ 1 →
    (chanOf s h).sub < rungReads (Machine.get s (F.CH_LADDER_STATUS_RUNG h)) + (chanOf s h).adjacent.length →
    Machine.get s (F.CH_LADDER_STATUS_REVS h) < Machine.get s (F.CH_LADDER_BUDGET h) →
    Completes (.retryRevolution h) s fun t =>
      Machine.get t (F.CH_LADDER_STATUS_REVS h) = trunc 8 (Machine.get s (F.CH_LADDER_STATUS_REVS h) + 1) ∧
      Machine.get t (F.CH_RETRY_REV h) = trunc 32 (satAdd 32 (Machine.get s (F.CH_RETRY_REV h)) 1) ∧
      Machine.get t (F.CH_LADDER_STATUS_RUNG h) = Machine.get s (F.CH_LADDER_STATUS_RUNG h) ∧
      (Machine.get s (F.CH_LADDER_STATUS_RUNG h) = 3 → (chanOf s h).sub = (chanOf s h).adjacent.length →
        Machine.get t (F.SV_OFFSET_TRACK_OFS h) = trunc (F.SV_OFFSET_TRACK_OFS h).width (Machine.get s (F.CH_LADDER_OFS_TRACK_OFS h))) ∧
      (Machine.get s (F.CH_LADDER_STATUS_RUNG h) = 4 → (chanOf s h).sub = (chanOf s h).adjacent.length →
        Machine.get t (F.SV_OFFSET_FOCUS_OFS h) = trunc (F.SV_OFFSET_FOCUS_OFS h).width (Machine.get s (F.CH_LADDER_OFS_FOCUS_OFS h))) ∧
      (Machine.get s (F.CH_LADDER_STATUS_RUNG h) ≠ 3 → Machine.get t (F.SV_OFFSET_TRACK_OFS h) = 0) ∧
      (Machine.get s (F.CH_LADDER_STATUS_RUNG h) ≠ 4 → Machine.get t (F.SV_OFFSET_FOCUS_OFS h) = 0) ∧
      (chanOf t h).sub = (chanOf s h).sub + 1 ∧ (chanOf t h).eqSet = (if Machine.get s (F.CH_LADDER_STATUS_RUNG h) = 2 then 1 else 0) ∧
      (Machine.get s (F.SV_STATUS_STATE h) < 4 → Machine.get s (F.HL_STATUS_DEGRADED h) ≠ 1 →
        inner t = { inner s with heads := t.heads, lib := { s.lib with mounts := t.lib.mounts } } ∧
        OnlyHead h s t ∧
        OnlyFields s t [F.CH_LADDER_STATUS_REVS h, F.CH_RETRY_REV h, F.SV_OFFSET_TRACK_OFS h, F.SV_OFFSET_FOCUS_OFS h])) ∧
  (∀ (s : State) (h : Nat), headInst s h = true → Machine.get s (F.CH_LADDER_STATUS_ACTIVE h) = 1 →
    (∀ x ∈ (chanOf s h).sectors, pendingSector x = false) →
    Completes (.retryRevolution h) s fun t =>
      Machine.get t (F.CH_LADDER_STATUS_ACTIVE h) = 0 ∧ Machine.get t (F.CH_LADDER_STATUS_RUNG h) = 0 ∧
      Machine.get t (F.CH_LADDER_STATUS_PENDING h) = 0 ∧ Machine.get t (F.SV_OFFSET_TRACK_OFS h) = 0 ∧
      Machine.get t (F.SV_OFFSET_FOCUS_OFS h) = 0 ∧ Machine.get t (F.SV_STATUS_BAND_HOLD h) = 0 ∧
      (∀ x ∈ (chanOf t h).sectors, x.pinned = false) ∧
      WithinHead h s t [F.CH_LADDER_STATUS_ACTIVE h, F.CH_LADDER_STATUS_RUNG h, F.CH_LADDER_STATUS_PENDING h, F.SV_OFFSET_TRACK_OFS h,
        F.SV_OFFSET_FOCUS_OFS h, F.SV_STATUS_BAND_HOLD h, F.CH_DEC_WEIGHT h]) ∧
  (∀ (s : State) (h : Nat), headInst s h = true →
    Completes (.detClrCnt h) s fun t =>
      (∀ f ∈ [F.CH_CW_DECODED h, F.CH_CW_FAIL0 h, F.CH_HANDOVER h, F.CH_CRC_FAIL h, F.CH_ADDR_ERR h, F.CH_ERASE_BITS h, F.CH_ITER_SUM h,
        F.CH_RETRY_REV h, F.CH_STAGE_DROP h, F.CH_QUEUE_DROP h, F.CH_STORE_FULL h, F.CH_EQ_RESET h, F.CH_PERSIST h, F.CH_TRUNC h,
        F.CH_ITI_SKIP h, F.CH_POOL_PEAK (4 * (h / 4))] ++ (List.range 6).map (F.CH_RUNG1_OK h) ++ (List.range 40).map (F.CH_ITER_HIST h),
        Machine.get t f = 0) ∧
      Within s t ([F.CH_CW_DECODED h, F.CH_CW_FAIL0 h, F.CH_HANDOVER h, F.CH_CRC_FAIL h, F.CH_ADDR_ERR h, F.CH_ERASE_BITS h, F.CH_ITER_SUM h,
        F.CH_RETRY_REV h, F.CH_STAGE_DROP h, F.CH_QUEUE_DROP h, F.CH_STORE_FULL h, F.CH_EQ_RESET h, F.CH_PERSIST h, F.CH_TRUNC h,
        F.CH_ITI_SKIP h, F.CH_POOL_PEAK (4 * (h / 4))] ++ (List.range 6).map (F.CH_RUNG1_OK h) ++ (List.range 40).map (F.CH_ITER_HIST h)))

/-- O9. The first decoded copy of a servo block refreshes telemetry, latency and the link's copy, and ends a run of missing
samples; a later copy that differs is counted as a mismatch, a latency above the limit raises LAT_EXCEED. A superframe without a
copy is counted as a miss. A good address unit of a locked PLL becomes the last accepted one and fixes the wobble phase; one that
agrees with the count confirms the address, and puts a servo that settles on its target on track; one with a wrong USYNC or UCRC
is counted and the count goes on; in HOLD the count goes on; on a confirmed address the expected unit moves the position, and the
third one in a row that differs ends the confirmation, counted and raised. A hold of both beams enters DEFECT and returns to the
held state; a long one or eight focus errors lose focus and retract the lens; an off-track episode is counted and ends; MISS_MAX
missing samples retract. (R31, R32, R65, R66, R78, R105, R178, R179, R184, R185, R186) -/
def Obligations.ServoSamplesAndLimits : Prop :=
  (∀ (s : State) (h lane : Nat) (times bytes : List Nat), headInst s h = true → Machine.get s (F.HL_STATUS_STATE h) = 5 →
    (linkOf s h).served = false → firstCopy (fun l => times.getD l 0) (servoCopies (linkOf s h)) = some (lane, bytes) →
    Completes (.servoBlock h times) s fun t =>
      Machine.get t (F.HL_TELEM0_LASER_T h) = trunc 16 (sbNat bytes 24 2) ∧ Machine.get t (F.HL_TELEM0_I_READ h) = trunc 16 (sbNat bytes 26 2) ∧
      Machine.get t (F.HL_TELEM1_I_WRITE h) = trunc 16 (sbNat bytes 28 2) ∧ Machine.get t (F.HL_TELEM1_I_BIAS h) = trunc 16 (sbNat bytes 30 2) ∧
      Machine.get t (F.HL_LAT_LAST h) = min 65535 (times.getD lane 0) ∧ (linkOf t h).copy = bytes.take 36 ∧ (linkOf t h).served = true ∧
      (servoOf t h).missRun = 0 ∧ (linkOf t h).timing = true ∧
      (Machine.get s (F.HL_LAT_LIMIT h) < times.getD lane 0 → Raised t (evHL h) B.HL_EVT_LAT_EXCEED) ∧
      ((∃ c ∈ servoCopies (linkOf s h), times.getD lane 0 < times.getD c.1 0 ∧ sameCopy c.2 bytes = false) →
        Raised t (evHL h) B.HL_EVT_SERVO_MISMATCH) ∧
      inForce t (F.SV_OFFSET_TRACK_OFS h) = Machine.get s (F.SV_OFFSET_TRACK_OFS h) ∧
      inForce t (F.SV_OFFSET_FOCUS_OFS h) = Machine.get s (F.SV_OFFSET_FOCUS_OFS h) ∧
      ((linkOf s h).timing = false → (linkOf s h).commitSf = none → Machine.get s (F.SV_STATUS_STATE h) = 5 →
        inner t = { inner s with heads := t.heads, force := t.force } ∧ OnlyHead h s t ∧
        OnlyFields s t ([F.HL_TELEM0_LASER_T h, F.HL_TELEM0_I_READ h, F.HL_TELEM1_I_WRITE h, F.HL_TELEM1_I_BIAS h, F.HL_LAT_LAST h,
          F.HL_LAT_PEAK h, F.HL_SERVO_CNT_MISMATCH h, F.SV_REF_REF_0 h, F.SV_REF_REF_1 h, F.SV_SKEW h, F.SV_ERR_FE h, F.SV_ERR_TE h]
          ++ permitFields h ++ evFields (evHL h)))) ∧
  (∀ (s : State) (h : Nat), headInst s h = true → Machine.get s (F.HL_STATUS_STATE h) = 5 → (linkOf s h).served = false →
    servoCopies (linkOf s h) = [] →
    Completes (.servoMiss h) s fun t =>
      Machine.get t (F.SV_MISS h) = trunc 32 (satAdd 32 (Machine.get s (F.SV_MISS h)) 1) ∧
      Machine.get t (F.HL_SERVO_CNT_MISS h) = trunc 16 (satAdd 16 (Machine.get s (F.HL_SERVO_CNT_MISS h)) 1) ∧
      Raised t (evHL h) B.HL_EVT_SERVO_MISS ∧ (servoOf t h).missRun = (servoOf s h).missRun + 1 ∧ (linkOf t h).served = true ∧
      WithinHead h s t ([F.SV_MISS h, F.HL_SERVO_CNT_MISS h] ++ evFields (evHL h))) ∧
  (∀ (s : State) (h w rms worst : Nat) (p : AddrUnit), headInst s h = true → Machine.get s (F.CH_CTRL_EN h) ≠ 0 → wpllSt s h = 2 →
    unitGood w = true → Machine.get s (F.CH_STATUS_ADDR_CONF h) ≠ 1 → (chanOf s h).last = some p → sameUnit (nextUnit p) (unitFields w) = true →
    Completes (.addressUnit h w rms worst) s fun t =>
      Raised t (evCH h) B.CH_EVT_ADDR_CONFIRMED ∧ (servoOf t h).lastConf = some ((unitFields w).turn, (unitFields w).layer, (unitFields w).side) ∧
      Machine.get t (F.SV_POS_BAND h) = trunc 14 (unitFields w).turn ∧ Machine.get t (F.CH_ADDR_BAND h) = trunc 14 (unitFields w).turn ∧
      Machine.get t (F.SV_POS_LAYER h) = trunc 4 (unitFields w).layer ∧ Machine.get t (F.SV_POS_SIDE h) = trunc 1 (unitFields w).side ∧
      (Machine.get s (F.SV_STATUS_STATE h) = 4 → (servoOf s h).target = none → Machine.get t (F.SV_STATUS_STATE h) = 5) ∧
      ((servoOf s h).target = none → (servoOf s h).landed = false → Machine.get t (F.CH_STATUS_ADDR_CONF h) = 1 ∧
        Machine.get t (F.SV_POS_CONFIRMED h) = 1 ∧ (chanOf t h).last = some (unitFields w)) ∧
      ((servoOf s h).target = none → (servoOf s h).landed = false → 16 ≤ (unitFields w).unit → (unitFields w).fmt = 3 →
        Machine.get s (F.SV_CMD_STATUS_BUSY h) = 0 →
        WithinHead h s t ([F.CH_WPLL_ERR_RMS h, F.CH_WPLL_ERR_PEAK h, F.CH_ADDR_BAND h, F.CH_ADDR_LAYER h, F.CH_ADDR_SIDE h,
          F.SV_POS_BAND h, F.SV_POS_LAYER h, F.SV_POS_SIDE h, F.CH_FRET_FRET h] ++ confirmFields h ++ svFields h ++ evFields (evCH h)))) ∧
  (∀ (s : State) (h w rms worst : Nat), headInst s h = true → Machine.get s (F.CH_CTRL_EN h) ≠ 0 → wpllSt s h = 2 →
    unitGood w = true → Machine.get s (F.CH_STATUS_ADDR_CONF h) ≠ 1 → (chanOf s h).last = none →
    Completes (.addressUnit h w rms worst) s fun t =>
      (chanOf t h).last = some (unitFields w) ∧ (chanOf t h).phiOk = true ∧
      ((chanOf s h).phiOk = false → (chanOf t h).phi = unitPhase (unitFields w)) ∧
      Machine.get t (F.CH_STATUS_ADDR_CONF h) = Machine.get s (F.CH_STATUS_ADDR_CONF h) ∧
      Machine.get t (F.CH_WPLL_ERR_RMS h) = min 65535 rms ∧
      ((unitFields w).fmt = 3 → WithinHead h s t [F.CH_WPLL_ERR_RMS h, F.CH_WPLL_ERR_PEAK h])) ∧
  (∀ (s : State) (h w rms worst : Nat), headInst s h = true → Machine.get s (F.CH_CTRL_EN h) ≠ 0 → wpllSt s h = 2 → unitGood w = false →
    Completes (.addressUnit h w rms worst) s fun t =>
      Machine.get t (F.CH_UCRC_ERR h) = trunc 32 (satAdd 32 (Machine.get s (F.CH_UCRC_ERR h)) 1) ∧
      (chanOf t h).last = (chanOf s h).last.map nextUnit ∧ (chanOf t h).expect = (chanOf s h).expect.map nextUnit ∧
      WithinHead h s t [F.CH_UCRC_ERR h, F.CH_WPLL_ERR_RMS h, F.CH_WPLL_ERR_PEAK h]) ∧
  (∀ (s : State) (h w rms worst : Nat), headInst s h = true → Machine.get s (F.CH_CTRL_EN h) ≠ 0 → wpllSt s h = 3 →
    Completes (.addressUnit h w rms worst) s fun t =>
      (chanOf t h).last = (chanOf s h).last.map nextUnit ∧ (chanOf t h).expect = (chanOf s h).expect.map nextUnit ∧ WithinHead h s t []) ∧
  (∀ (s : State) (h w rms worst : Nat) (e : AddrUnit), headInst s h = true → Machine.get s (F.CH_CTRL_EN h) ≠ 0 → wpllSt s h = 2 →
    unitGood w = true → Machine.get s (F.CH_STATUS_ADDR_CONF h) = 1 → (chanOf s h).expect = some e → sameUnit (nextUnit e) (unitFields w) = true →
    (Machine.get s (F.SV_STATUS_STATE h) = 6 → (servoOf s h).landed = false) →
    Completes (.addressUnit h w rms worst) s fun t =>
      Machine.get t (F.CH_ADDR_BAND h) = trunc 14 (unitFields w).turn ∧ Machine.get t (F.SV_POS_BAND h) = trunc 14 (unitFields w).turn ∧
      (servoOf t h).lastConf = some ((unitFields w).turn, (unitFields w).layer, (unitFields w).side) ∧ (chanOf t h).differ = 0 ∧
      Machine.get t (F.CH_STATUS_ADDR_CONF h) = 1) ∧
  (∀ (s : State) (h w rms worst : Nat) (e : AddrUnit), headInst s h = true → Machine.get s (F.CH_CTRL_EN h) ≠ 0 → wpllSt s h = 2 →
    unitGood w = true → Machine.get s (F.CH_STATUS_ADDR_CONF h) = 1 → (chanOf s h).expect = some e → sameUnit (nextUnit e) (unitFields w) = false →
    Completes (.addressUnit h w rms worst) s fun t =>
      ((chanOf s h).differ < 2 → (chanOf t h).differ = (chanOf s h).differ + 1 ∧ Machine.get t (F.CH_STATUS_ADDR_CONF h) = 1) ∧
      (2 ≤ (chanOf s h).differ → Machine.get t (F.CH_STATUS_ADDR_CONF h) = 0 ∧ Raised t (evCH h) B.CH_EVT_ADDR_MISMATCH ∧
        Machine.get t (F.CH_ADDR_MISMATCH h) = trunc 32 (satAdd 32 (Machine.get s (F.CH_ADDR_MISMATCH h)) 1))) ∧
  (∀ (s : State) (h : Nat), headInst s h = true → 4 ≤ Machine.get s (F.SV_STATUS_STATE h) → Machine.get s (F.SV_STATUS_STATE h) ≤ 6 →
    0 ∈ (servoOf s h).invalid → 1 ∈ (servoOf s h).invalid →
    Completes (.defectHold h) s fun t =>
      Machine.get t (F.SV_STATUS_STATE h) = 8 ∧ Machine.get t (F.SV_STATUS_DEFECT h) = 1 ∧
      Machine.get t (F.SV_DEFECT_HOLDS h) = trunc 32 (satAdd 32 (Machine.get s (F.SV_DEFECT_HOLDS h)) 1) ∧
      (servoOf t h).heldFrom = Machine.get s (F.SV_STATUS_STATE h) ∧ (servoOf t h).held = 7 ∧
      WithinHead h s t (F.SV_DEFECT_HOLDS h :: svFields h)) ∧
  (∀ (s : State) (h : Nat), headInst s h = true → Machine.get s (F.SV_STATUS_STATE h) = 8 →
    (0 ∉ (servoOf s h).invalid ∨ 1 ∉ (servoOf s h).invalid) → holdTooLong s h = false → (servoOf s h).heldFrom ≤ 7 →
    Completes (.defectHoldEnd h) s fun t =>
      Machine.get t (F.SV_STATUS_STATE h) = (servoOf s h).heldFrom ∧ (servoOf t h).held = 0 ∧ WithinHead h s t (svFields h)) ∧
  (∀ (s : State) (h : Nat), headInst s h = true → Machine.get s (F.SV_STATUS_STATE h) = 8 → holdTooLong s h = true → (servoOf s h).heldFrom ≤ 7 →
    Completes (.defectLong h) s fun t =>
      Raised t (evSV h) B.SV_EVT_DEFECT_LONG ∧
      ((0 ∈ (servoOf s h).invalid ∧ 1 ∈ (servoOf s h).invalid) ∨ beyond (servoOf s h).fe (Machine.get s (F.SV_LIMITS_FOCUS_ERR_LIM h)) = true →
        Machine.get t (F.SV_STATUS_STATE h) = 9 ∧ Raised t (evSV h) B.SV_EVT_FOCUS_LOSS ∧
        Machine.get t (F.SV_FOCUS_LOSS h) = trunc 32 (satAdd 32 (Machine.get s (F.SV_FOCUS_LOSS h)) 1) ∧
        Machine.get t (F.SV_RETRACTS h) = trunc 32 (satAdd 32 (Machine.get s (F.SV_RETRACTS h)) 1) ∧ (servoOf t h).why = 1) ∧
      ((0 ∉ (servoOf s h).invalid ∨ 1 ∉ (servoOf s h).invalid) → beyond (servoOf s h).fe (Machine.get s (F.SV_LIMITS_FOCUS_ERR_LIM h)) = false →
        Machine.get t (F.SV_STATUS_STATE h) = (servoOf s h).heldFrom ∧ (servoOf t h).held = 0 ∧ Machine.get t (F.SV_POS_CONFIRMED h) = 0) ∧
      WithinHead h s t ([F.SV_FOCUS_LOSS h, F.SV_RETRACTS h, F.SV_STATUS_BAND_HOLD h] ++ svCmdFields h ++ confirmFields h ++ svFields h)) ∧
  (∀ (s : State) (h : Nat), headInst s h = true → 3 ≤ Machine.get s (F.SV_STATUS_STATE h) → Machine.get s (F.SV_STATUS_STATE h) ≤ 6 →
    8 ≤ (servoOf s h).feRun →
    Completes (.focusLost h) s fun t =>
      Machine.get t (F.SV_STATUS_STATE h) = 9 ∧ Raised t (evSV h) B.SV_EVT_FOCUS_LOSS ∧
      Machine.get t (F.SV_FOCUS_LOSS h) = trunc 32 (satAdd 32 (Machine.get s (F.SV_FOCUS_LOSS h)) 1) ∧
      Machine.get t (F.SV_RETRACTS h) = trunc 32 (satAdd 32 (Machine.get s (F.SV_RETRACTS h)) 1) ∧
      (servoOf t h).why = 1 ∧ (servoOf t h).seekBack = true ∧ (writeOf t h).closeReq = true ∧
      WithinHead h s t ([F.SV_FOCUS_LOSS h, F.SV_RETRACTS h, F.SV_STATUS_BAND_HOLD h] ++ svCmdFields h ++ svFields h)) ∧
  (∀ (s : State) (h : Nat), headInst s h = true → 4 ≤ (servoOf s h).teRun → (servoOf s h).offTrack = false →
    Completes (.offtrackEpisode h) s fun t =>
      Machine.get t (F.SV_OFFTRACK h) = trunc 32 (satAdd 32 (Machine.get s (F.SV_OFFTRACK h)) 1) ∧ Raised t (evSV h) B.SV_EVT_OFFTRACK ∧
      servoOf t h = { servoOf s h with offTrack := true, steady := false } ∧
      WithinHead h s t (F.SV_OFFTRACK h :: permitFields h ++ evFields (evSV h))) ∧
  (∀ (s : State) (h : Nat), headInst s h = true → 64 ≤ (servoOf s h).teClear → (servoOf s h).offTrack = true →
    Completes (.offtrackEpisodeEnd h) s fun t =>
      servoOf t h = { servoOf s h with offTrack := false, steady := true } ∧ WithinHead h s t (permitFields h)) ∧
  (∀ (s : State) (h : Nat), headInst s h = true → 2 ≤ Machine.get s (F.SV_STATUS_STATE h) → Machine.get s (F.SV_STATUS_STATE h) ≤ 8 →
    max 1 (Machine.get s (F.SV_LIMITS_MISS_MAX h)) ≤ (servoOf s h).missRun →
    Completes (.missLimit h) s fun t =>
      Machine.get t (F.SV_STATUS_STATE h) = 9 ∧ Raised t (evSV h) B.SV_EVT_MISS_LIMIT ∧
      Machine.get t (F.SV_RETRACTS h) = trunc 32 (satAdd 32 (Machine.get s (F.SV_RETRACTS h)) 1) ∧ (servoOf t h).why = 2 ∧
      WithinHead h s t ([F.SV_RETRACTS h, F.SV_STATUS_BAND_HOLD h] ++ svCmdFields h ++ svFields h))

/-- O10. A SEEK, HOLD_BAND or ENTER that the servo accepts begins its move, with BUSY set, the address unconfirmed and the target
recorded, a jump between layers first where the layer differs; ENTER makes for the band before its target; HOLD_BAND on its band
completes at once; while the write path is in its states 1 to 5 the move is deferred and the head stays. FOLLOW ends the hold;
PULLIN sweeps from RETRACTED where its conditions hold; RETRACT retracts; a reserved OP reports result 2 and CMD_ERR. EN set lets
the servo leave OFF on an active link, and FAILED after 0, and changes nothing else; EN cleared enters OFF from RETRACTED and else
retracts first. CLR_CNT clears the counters. (R180, R187, R189, R190, R195, R197, R198, R199, R178) -/
def Obligations.ServoCommands : Prop :=
  (∀ (s : State) (h band layer : Nat), seekOpen s h layer = true → writeFree s h = true →
    Completes (.seek h band layer) s fun t =>
      MoveBegun h 0 band layer s t ∧ (servoOf t h).hold = none ∧ (servoOf t h).entering = false ∧
      (nearBand s h band layer = true → (∀ x ∈ (chanOf s h).sectors, pendingSector x = false) →
        WithinHead h s t ([F.SV_CMD_BAND h, F.SV_CMD_LAYER h, F.SV_CMD_OP h, F.SV_STATUS_BAND_HOLD h] ++ svCmdFields h ++ confirmFields h
          ++ svFields h))) ∧
  (∀ (s : State) (h band layer : Nat) (slots : List Nat), seekOpen s h layer = true → writeFree s h = true →
    ¬ (Machine.get s (F.SV_STATUS_STATE h) = 5 ∧ layer = Machine.get s (F.SV_POS_LAYER h) ∧ band = Machine.get s (F.SV_POS_BAND h)) →
    Completes (.holdBand h band layer slots) s fun t =>
      MoveBegun h 1 band layer s t ∧ (servoOf t h).hold = some (band, slots) ∧ Machine.get t (F.SV_STATUS_BAND_HOLD h) = 1 ∧
      (nearBand s h band layer = true → (∀ x ∈ (chanOf s h).sectors, pendingSector x = false) →
        WithinHead h s t ([F.SV_CMD_BAND h, F.SV_CMD_LAYER h, F.SV_CMD_OP h, F.SV_STATUS_BAND_HOLD h] ++ svCmdFields h ++ confirmFields h
          ++ svFields h))) ∧
  (∀ (s : State) (h band layer : Nat) (slots : List Nat), headInst s h = true → Machine.get s (F.SV_STATUS_STATE h) = 5 →
    writeFree s h = true → (∀ x ∈ (chanOf s h).sectors, pendingSector x = false) → layer = Machine.get s (F.SV_POS_LAYER h) → band = Machine.get s (F.SV_POS_BAND h) →
    Completes (.holdBand h band layer slots) s fun t =>
      Machine.get t (F.SV_STATUS_STATE h) = 5 ∧ Machine.get t (F.SV_STATUS_BAND_HOLD h) = 1 ∧ Machine.get t (F.SV_CMD_STATUS_BUSY h) = 0 ∧
      Machine.get t (F.SV_CMD_STATUS_OP h) = 1 ∧ Machine.get t (F.SV_CMD_STATUS_RESULT h) = 0 ∧ Raised t (evSV h) B.SV_EVT_SEEK_DONE ∧
      (servoOf t h).hold = some (band, slots) ∧ (servoOf t h).target = some (band, layer) ∧
      WithinHead h s t ([F.SV_CMD_BAND h, F.SV_CMD_LAYER h, F.SV_CMD_OP h, F.SV_STATUS_BAND_HOLD h, F.SV_SEEKS h, F.SV_SEEK_TIME_LAST h,
        F.SV_SEEK_TIME_MAX h] ++ svCmdFields h ++ evFields (evSV h))) ∧
  (∀ (s : State) (h band layer : Nat), seekOpen s h layer = true → writeFree s h = true →
    Completes (.enter h band layer) s fun t =>
      MoveBegun h 2 (band - 1) layer s t ∧ (servoOf t h).hold = none ∧ (servoOf t h).entering = true ∧
      (nearBand s h (band - 1) layer = true → (∀ x ∈ (chanOf s h).sectors, pendingSector x = false) →
        WithinHead h s t ([F.SV_CMD_BAND h, F.SV_CMD_LAYER h, F.SV_CMD_OP h, F.SV_STATUS_BAND_HOLD h] ++ svCmdFields h ++ confirmFields h
          ++ svFields h))) ∧
  (∀ (s : State) (h band layer : Nat) (slots : List Nat) (op : Nat), seekOpen s h layer = true → 1 ≤ Machine.get s (F.WRP_STATUS_STATE h) →
    Machine.get s (F.WRP_STATUS_STATE h) ≤ 5 → op ≤ 2 →
    Completes (if op = 0 then .seek h band layer else if op = 1 then .holdBand h band layer slots else .enter h band layer) s fun t =>
      (servoOf t h).deferred = some (op, band, layer, if op = 1 then slots else []) ∧ Machine.get t (F.SV_CMD_STATUS_BUSY h) = 1 ∧
      Machine.get t (F.SV_STATUS_STATE h) = Machine.get s (F.SV_STATUS_STATE h) ∧
      WithinHead h s t ([F.SV_CMD_BAND h, F.SV_CMD_LAYER h, F.SV_CMD_OP h] ++ svCmdFields h)) ∧
  (∀ (s : State) (h : Nat), headInst s h = true → 2 ≤ Machine.get s (F.SV_STATUS_STATE h) → Machine.get s (F.SV_STATUS_STATE h) ≤ 8 →
    Completes (.svFollow h) s fun t =>
      Machine.get t (F.SV_STATUS_BAND_HOLD h) = 0 ∧ Machine.get t (F.SV_CMD_STATUS_BUSY h) = 0 ∧ Machine.get t (F.SV_CMD_STATUS_OP h) = 3 ∧
      Machine.get t (F.SV_CMD_STATUS_RESULT h) = 0 ∧ (servoOf t h).hold = none ∧ Raised t (evSV h) B.SV_EVT_SEEK_DONE ∧
      WithinHead h s t ([F.SV_CMD_OP h, F.SV_STATUS_BAND_HOLD h] ++ svCmdFields h ++ evFields (evSV h))) ∧
  (∀ (s : State) (h layer : Nat) (cal : Bool), headInst s h = true → Machine.get s (F.SV_STATUS_STATE h) = 1 → pullInOk s h = true →
    Completes (.pullin h layer cal) s fun t =>
      Machine.get t (F.SV_STATUS_STATE h) = 2 ∧ Machine.get t (F.SV_CMD_STATUS_BUSY h) = 1 ∧ Machine.get t (F.SV_CMD_STATUS_OP h) = 4 ∧
      (servoOf t h).jumpTo = layer % 16 ∧ (servoOf t h).calSweep = cal ∧ (servoOf t h).captures = 0 ∧ (servoOf t h).target = none ∧
      WithinHead h s t ([F.SV_CMD_LAYER h, F.SV_CMD_OP h, F.SV_CMD_CAL h] ++ svCmdFields h ++ confirmFields h ++ svFields h)) ∧
  (∀ (s : State) (h : Nat), headInst s h = true → 2 ≤ Machine.get s (F.SV_STATUS_STATE h) → Machine.get s (F.SV_STATUS_STATE h) ≤ 8 →
    Completes (.retract h) s fun t =>
      Machine.get t (F.SV_STATUS_STATE h) = 9 ∧ Machine.get t (F.SV_CMD_STATUS_BUSY h) = 1 ∧ Machine.get t (F.SV_CMD_STATUS_OP h) = 5 ∧
      Machine.get t (F.SV_RETRACTS h) = trunc 32 (satAdd 32 (Machine.get s (F.SV_RETRACTS h)) 1) ∧
      (servoOf t h).why = 0 ∧ (servoOf t h).held = 7 ∧ (servoOf t h).hold = none ∧ (writeOf t h).closeReq = true ∧
      WithinHead h s t ([F.SV_CMD_OP h, F.SV_RETRACTS h, F.SV_STATUS_BAND_HOLD h] ++ svCmdFields h ++ svFields h)) ∧
  (∀ (s : State) (h op : Nat), headInst s h = true → 6 ≤ op → op ≤ 7 →
    Completes (.svCmdErr h op) s fun t =>
      Machine.get t (F.SV_CMD_STATUS_OP h) = op ∧ Machine.get t (F.SV_CMD_STATUS_RESULT h) = 2 ∧ Raised t (evSV h) B.SV_EVT_CMD_ERR ∧
      Within s t ([F.SV_CMD_OP h, F.SV_CMD_STATUS_OP h, F.SV_CMD_STATUS_RESULT h] ++ evFields (evSV h))) ∧
  (∀ (s : State) (h en : Nat), headInst s h = true → en % 2 = 1 →
    Completes (.svEnable h en) s fun t =>
      Machine.get t (F.SV_CTRL_EN h) = 1 ∧
      (Machine.get s (F.SV_STATUS_STATE h) = 0 → Machine.get s (F.HL_STATUS_STATE h) = 5 → Machine.get t (F.SV_STATUS_STATE h) = 1) ∧
      (Machine.get s (F.SV_STATUS_STATE h) = 10 → Machine.get s (F.SV_CTRL_EN h) = 0 → Machine.get t (F.SV_STATUS_STATE h) = 1) ∧
      (1 ≤ Machine.get s (F.SV_STATUS_STATE h) → Machine.get s (F.SV_STATUS_STATE h) ≤ 9 → Within s t [F.SV_CTRL_EN h]) ∧
      WithinHead h s t (F.SV_CTRL_EN h :: svFields h)) ∧
  (∀ (s : State) (h en : Nat), headInst s h = true → en % 2 = 0 →
    Completes (.svEnable h en) s fun t =>
      Machine.get t (F.SV_CTRL_EN h) = 0 ∧
      (Machine.get s (F.SV_STATUS_STATE h) = 1 → Machine.get t (F.SV_STATUS_STATE h) = 0) ∧
      (2 ≤ Machine.get s (F.SV_STATUS_STATE h) → Machine.get s (F.SV_STATUS_STATE h) ≤ 9 →
        Machine.get t (F.SV_STATUS_STATE h) = 9 ∧ (servoOf t h).offAfter = true) ∧
      WithinHead h s t ([F.SV_CTRL_EN h, F.SV_RETRACTS h, F.SV_STATUS_BAND_HOLD h] ++ svCmdFields h ++ svFields h)) ∧
  (∀ (s : State) (h : Nat), headInst s h = true →
    Completes (.svClrCnt h) s fun t =>
      (∀ f ∈ [F.SV_SEEKS h, F.SV_SEEK_FAIL h, F.SV_CORRECTIVE h, F.SV_LAYER_JUMPS h, F.SV_DEFECT_HOLDS h, F.SV_FOCUS_LOSS h, F.SV_OFFTRACK h,
        F.SV_MISS h, F.SV_RETRACTS h, F.SV_SHADOW h, F.SV_SEEK_TIME_LAST h, F.SV_SEEK_TIME_MAX h, F.SV_ERR_FE h, F.SV_ERR_TE h],
        Machine.get t f = 0) ∧
      servoOf t h = { servoOf s h with errs := [] } ∧
      WithinHead h s t [F.SV_SEEKS h, F.SV_SEEK_FAIL h, F.SV_CORRECTIVE h, F.SV_LAYER_JUMPS h, F.SV_DEFECT_HOLDS h, F.SV_FOCUS_LOSS h,
        F.SV_OFFTRACK h, F.SV_MISS h, F.SV_RETRACTS h, F.SV_SHADOW h, F.SV_SEEK_TIME_LAST h, F.SV_SEEK_TIME_MAX h, F.SV_ERR_FE h,
        F.SV_ERR_TE h])

/-- O11. A seek whose last band is crossed lands and begins to settle; one that does not land within 50 ms is counted, raised and
returns to TRACKING, its command with result 1; a layer jump that has crossed its layers closes focus on the target layer; a seam
jump under a band hold goes back one band, from the side of the seam that its free interval gives, the sides taking turns where
the interval is too short; the capture of the chosen layer closes focus, with the calibration sweep the one on the way back; the
first pull-in failure retracts, the second fails; a slow enough tracking crossing closes tracking and a seek under way goes on;
the lens parks with the laser off; beyond SLED_WARN the event is raised and beyond LENS_MAX tracking opens. (R180, R181, R182,
R187, R188, R189, R191, R193, R195, R196) -/
def Obligations.ServoMoves : Prop :=
  (∀ (s : State) (h : Nat), headInst s h = true → Machine.get s (F.SV_STATUS_STATE h) = 6 → (servoOf s h).landed = false →
    (servoOf s h).mode ≠ 0 → (servoOf s h).remain = 0 →
    Completes (.seekTargetCrossing h) s fun t =>
      servoOf t h = { servoOf s h with landed := true, landAt := tick s } ∧ chanOf t h = { chanOf s h with bands := [] } ∧ WithinHead h s t []) ∧
  (∀ (s : State) (h : Nat), headInst s h = true → (servoOf s h).seeking = true → (servoOf s h).seekAt + 20480 ≤ tick s →
    Machine.get s (F.SV_STATUS_STATE h) ∈ [3, 4, 6, 7] →
    Completes (.seekFail h) s fun t =>
      Machine.get t (F.SV_STATUS_STATE h) = 4 ∧ Machine.get t (F.SV_SEEK_FAIL h) = trunc 32 (satAdd 32 (Machine.get s (F.SV_SEEK_FAIL h)) 1) ∧
      Raised t (evSV h) B.SV_EVT_SEEK_FAIL ∧ (servoOf t h).target = none ∧ (servoOf t h).seeking = false ∧
      (Machine.get s (F.SV_CMD_STATUS_BUSY h) = 1 → Machine.get t (F.SV_CMD_STATUS_BUSY h) = 0 ∧ Machine.get t (F.SV_CMD_STATUS_RESULT h) = 1) ∧
      WithinHead h s t (F.SV_SEEK_FAIL h :: svCmdFields h ++ svFields h)) ∧
  (∀ (s : State) (h : Nat), headInst s h = true → Machine.get s (F.SV_STATUS_STATE h) = 7 → jumpLayers s h ≤ (servoOf s h).cross →
    Completes (.layerJumpFocusClose h) s fun t =>
      Machine.get t (F.SV_STATUS_STATE h) = 3 ∧ Machine.get t (F.SV_POS_LAYER h) = trunc 4 (servoOf s h).jumpTo ∧
      Machine.get t (F.SV_LAYER_JUMPS h) = trunc 32 (satAdd 32 (Machine.get s (F.SV_LAYER_JUMPS h)) 1) ∧ (servoOf t h).teCount = 0 ∧
      WithinHead h s t ([F.SV_POS_LAYER h, F.SV_LAYER_JUMPS h] ++ svFields h)) ∧
  (∀ (s : State) (h band : Nat) (slots : List Nat) (free before n pos : Nat), headInst s h = true → (servoOf s h).hold = some (band, slots) →
    Machine.get s (F.SV_STATUS_STATE h) = 5 → n = 12 + fretOf band → free = slots.min?.getD n →
    before = (if slots = [] then 0 else n - 1 - slots.max?.getD 0) → pos = Machine.get s (F.SV_POS_BAND h) →
    pos = (if (if seamFits s h (free + before) then decide (free < before) else (servoOf s h).altSeam) then band else band + 1) →
    Completes (.seamJump h) s fun t =>
      Machine.get t (F.SV_STATUS_STATE h) = 6 ∧ Machine.get t (F.SV_POS_CONFIRMED h) = 0 ∧
      (servoOf t h).target = some (pos - 1, Machine.get s (F.SV_POS_LAYER h)) ∧ (servoOf t h).hold = some (band, slots) ∧
      (servoOf t h).altSeam = (if seamFits s h (free + before) then (servoOf s h).altSeam else !(servoOf s h).altSeam) ∧
      ((chanOf s h).slots = [] → WithinHead h s t (confirmFields h ++ svFields h))) ∧
  (∀ (s : State) (h : Nat), headInst s h = true → Machine.get s (F.SV_STATUS_STATE h) = 2 → (servoOf s h).capHit = true →
    ((servoOf s h).calSweep = false ∧ (servoOf s h).captures = (servoOf s h).jumpTo + 1) ∨
      ((servoOf s h).calSweep = true ∧ 12 < (servoOf s h).captures ∧ (servoOf s h).captures + (servoOf s h).jumpTo = 24) →
    Completes (.focusCapture h) s fun t =>
      Machine.get t (F.SV_STATUS_STATE h) = 3 ∧ Machine.get t (F.SV_POS_LAYER h) = trunc 4 (servoOf s h).jumpTo ∧
      (servoOf t h).teCount = 0 ∧ (servoOf t h).trkHit = false ∧ WithinHead h s t (F.SV_POS_LAYER h :: svFields h)) ∧
  (∀ (s : State) (h : Nat), headInst s h = true → Machine.get s (F.SV_STATUS_STATE h) = 2 ∨ Machine.get s (F.SV_STATUS_STATE h) = 3 →
    160000000 * Machine.get s (F.SV_PULLIN_PULL_TIMEOUT h) ≤ 390625 * (tick s - (servoOf s h).since) →
    Completes (.pullTimeout h) s fun t =>
      Machine.get t (F.SV_STATUS_STATE h) = (if (servoOf s h).pullFail = 0 then 9 else 10) ∧
      ((servoOf s h).pullFail ≠ 0 → Raised t (evSV h) B.SV_EVT_FOCUS_FAIL) ∧
      (servoOf t h).pullFail = (servoOf s h).pullFail + 1 ∧ (servoOf t h).why = 3 ∧
      Machine.get t (F.SV_RETRACTS h) = trunc 32 (satAdd 32 (Machine.get s (F.SV_RETRACTS h)) 1) ∧
      ((servoOf s h).pullFail = 0 ∨ discOfHead s h = none →
        WithinHead h s t ([F.SV_RETRACTS h, F.SV_STATUS_BAND_HOLD h] ++ svCmdFields h ++ svFields h))) ∧
  (∀ (s : State) (h : Nat), headInst s h = true → Machine.get s (F.SV_STATUS_STATE h) = 3 → (servoOf s h).trkHit = true →
    ((servoOf s h).openRange = true → (getI s (F.SV_LENS h)).natAbs ≤ 32 * Machine.get s (F.SV_SLED_SLED_WARN h)) →
    Completes (.trackingCapture h) s fun t =>
      (servoOf t h).pullFail = 0 ∧ (servoOf t h).openRange = false ∧ (servoOf t h).held = 0 ∧
      ((servoOf s h).seeking = false ∨ (servoOf s h).target = none → Machine.get t (F.SV_STATUS_STATE h) = 4 ∧ WithinHead h s t (svFields h)) ∧
      (∀ b, (servoOf s h).seeking = true → (servoOf s h).target = some (b, Machine.get s (F.SV_POS_LAYER h)) → b ≠ Machine.get s (F.SV_POS_BAND h) →
        Machine.get t (F.SV_STATUS_STATE h) = 6)) ∧
  (∀ (s : State) (h : Nat), headInst s h = true → Machine.get s (F.SV_STATUS_STATE h) = 9 →
    16000000 * Machine.get s (F.SV_RETRACT_T_FOCUS h) ≤ 390625 * (tick s - (servoOf s h).since) →
    Completes (.retractComplete h) s fun t =>
      Raised t (evSV h) B.SV_EVT_RETRACTED ∧ (linkOf t h).laser = 0 ∧ Machine.get t (F.SV_POS_CONFIRMED h) = 0 ∧
      (bayOf h ∉ s.thm.parked → (servoOf s h).offAfter = false → Machine.get s (F.SV_CTRL_EN h) ≠ 0 → (servoOf s h).why = 0 →
        (servoOf s h).seekBack = false →
        Machine.get t (F.SV_STATUS_STATE h) = 1 ∧ (servoOf t h).coils = [Config.parkValue, 0, 0] ∧
        ((servoOf s h).cmdOp = 5 → Machine.get s (F.SV_CMD_STATUS_BUSY h) = 1 → Machine.get t (F.SV_CMD_STATUS_BUSY h) = 0) ∧
        WithinHead h s t (confirmFields h ++ svCmdFields h ++ svFields h)) ∧
      (bayOf h ∉ s.thm.parked → Machine.get s (F.SV_CTRL_EN h) = 0 → Machine.get t (F.SV_STATUS_STATE h) = 0)) ∧
  (∀ (s : State) (h : Nat), headInst s h = true → 32 * Machine.get s (F.SV_SLED_SLED_WARN h) < (getI s (F.SV_LENS h)).natAbs →
    Completes (.lensRange h) s fun t =>
      Raised t (evSV h) B.SV_EVT_LENS_RANGE ∧
      (32 * Machine.get s (F.SV_SLED_LENS_MAX h) < (getI s (F.SV_LENS h)).natAbs → 4 ≤ Machine.get s (F.SV_STATUS_STATE h) →
        Machine.get s (F.SV_STATUS_STATE h) ≤ 6 → Machine.get t (F.SV_STATUS_STATE h) = 3 ∧ (servoOf t h).openRange = true) ∧
      WithinHead h s t (svFields h))

/-- O12. A doorbell within its queue adds the entries. A turn of arbitration fetches one entry of the next class-0 queue, or, with
none ready, a burst of a queue of the other classes. An arriving entry takes the next stamp and becomes a waiting command with the
fields of its opcode. A transfer error before the decision point and an opcode outside the command set complete with their
statuses. A lane fault retrains the link narrower, with the recovery logged, or takes it down; a hot reset or link disable resets
the link's functions; an FLR withdraws and resets what R396 names; CC.EN creates the admin queues; CLR_CNT clears the counters.
(R371, R372, R375, R376, R377, R378, R379, R393, R395, R396, R398, R535) -/
def Obligations.HostFrontEnd : Prop :=
  (∀ (s : State) (fn qid tail : Nat) (q : Queue), (s.host.queues.find? fun q => q.sub && decide (q.fn = fn) && decide (q.qid = qid)) = some q →
    tail < q.size →
    Completes (.submissionDoorbell fn qid tail) s fun t =>
      t.host.queues = (s.host.queues.map fun x => if x = q then { q with
        tail := tail, bells := q.bells ++ List.replicate ((tail + q.size - q.tail) % q.size) (now s) } else x) ∧
      (s.pwr.phase ≠ 2 → s.pwr.phase ≠ 3 → Machine.get s F.PWR_STATUS_STATE ≠ 2 →
        inner t = { inner s with host := { s.host with queues := t.host.queues } } ∧ OnlyFields s t [])) ∧
  (∀ (s : State) (q : Queue) (b : Nat) (l : List Nat), hostRuns s = true → s.pwr.fetchOff = false → Machine.get s F.PWR_STATUS_STATE ≠ 2 →
    Machine.get s F.FWU_STATUS_STEP ≠ 4 → slotsAll s < 8192 → q.bells = b :: l →
    nextQueue s.host.last0 ((s.host.queues.filter fun q => q.sub && decide (q.qid ≠ 0) && q.bells ≠ [] && q.deleting.isNone).filter
      fun q => decide (q.cls = 0)) = some q →
    Completes (.commandFetch) s fun t =>
      t.host = { s.host with
        last0 := queueKey q, queues := s.host.queues.map fun x => if x = q then { q with bells := l } else x,
        fetching := s.host.fetching ++ [(q.fn, q.qid, b)] } ∧
      WithinHost s t [F.HST_INFLIGHT, F.HST_INFLIGHT_C0, F.HST_FN_INFLIGHT q.fn]) ∧
  (∀ (s : State) (q : Queue) (n : Nat), hostRuns s = true → s.pwr.fetchOff = false → Machine.get s F.PWR_STATUS_STATE ≠ 2 →
    Machine.get s F.FWU_STATUS_STEP ≠ 4 → slotsAll s < 8192 → slotsAll s - slots0 s < 7680 → s.host.turns = 0 →
    (∀ x ∈ s.host.queues, x.sub = true → x.qid ≠ 0 → x.bells ≠ [] → x.cls ≠ 0) →
    nextQueue s.host.lastQ ((s.host.queues.filter fun q => q.sub && decide (q.qid ≠ 0) && q.bells ≠ [] && q.deleting.isNone).filter
      fun q => decide (q.cls ≠ 0)) = some q →
    n = min (burstOf s q) (min (min (7680 - (slotsAll s - slots0 s)) (8192 - slotsAll s)) q.bells.length) →
    Completes (.commandFetch) s fun t =>
      t.host = { s.host with
        lastQ := queueKey q, turns := weightOf s q - 1,
        queues := s.host.queues.map fun x => if x = q then { q with bells := q.bells.drop n } else x,
        fetching := s.host.fetching ++ (q.bells.take n).map fun b => (q.fn, q.qid, b) } ∧
      WithinHost s t [F.HST_INFLIGHT, F.HST_INFLIGHT_C0, F.HST_FN_INFLIGHT q.fn]) ∧
  (∀ (s : State) (fn qid cid opc nsid d10 d11 d12 d13 : Nat) (x : Nat × Nat × Nat),
    (s.host.fetching.find? fun x => decide (x.1 = fn) && decide (x.2.1 = qid)) = some x →
    Completes (.submissionEntryArrival fn qid cid opc nsid d10 d11 d12 d13) s fun t =>
      Machine.get t F.HST_STAMP = trunc 64 (Machine.get s F.HST_STAMP + 1) ∧
      t.host = { s.host with
        fetching := s.host.fetching.erase x,
        cmds := s.host.cmds ++ [⟨Machine.get s F.HST_STAMP, fn, qid, cid, clsOf s fn qid, x.2.2, opc, nsid,
          if opc = Op.write ∨ opc = Op.read ∨ opc = Op.writeZeroes ∨ opc = Op.verify then some [(d10 + 2 ^ 32 * d11, d12 % 65536 + 1)]
            else if opc = Op.dsm ∨ opc = Op.recall then none else some [],
          decide (opc = Op.write ∧ bitOf d12 30 = 1), if opc = Op.write ∧ d12 / 2 ^ 20 % 16 = 1 then d13 / 65536 else 0, d11, .arrived, [], [],
          decide (opc = Op.flush), false, false, false, decide (opc = Op.write ∧ 1 < d12 / 2 ^ 20 % 16)⟩] } ∧
      WithinHost s t [F.HST_STAMP, F.HST_INFLIGHT, F.HST_INFLIGHT_C0, F.HST_FN_INFLIGHT fn]) ∧
  (∀ (s : State) (fn cid opc : Nat), adminOpen s fn = true → opc ∉ adminOps fn →
    Completes (.invalidOpcode fn 0 cid opc) s fun t =>
      t.host.posted = ⟨fn, 0, cid, 0, 1, 1, 0, 0, [], []⟩ :: s.host.posted ∧ WithinHost s t []) ∧
  (∀ (s : State) (fn qid cid opc : Nat) (c : Cmd), qid ≠ 0 → hostRuns s = true → opc ∉ ioOps →
    (s.host.cmds.find? fun c => decide (c.fn = fn) && decide (c.qid = qid) && decide (c.cid = cid) && decide (c.opc = opc)
      && decide (c.phase = .arrived)) = some c →
    Completes (.invalidOpcode fn qid cid opc) s fun t => FinishesAlone s t c 0 1 1 []) ∧
  (∀ (s : State) (stamp : Nat) (c : Cmd), findCmd s stamp = some c → c.decided = false →
    Completes (.dataTransferError stamp) s fun t =>
      FinishesAlone s t c 0 4 0 [F.HST_XFER_ERR] ∧ Raised t evHST B.HST_EVT_XFER_ERR ∧
      Machine.get t F.HST_XFER_ERR = trunc 32 (satAdd 32 (Machine.get s F.HST_XFER_ERR) 1)) ∧
  (∀ (s : State) (link lanes bad width : Nat), link < 4 → Machine.get s (F.HST_LINK_UP link) = 1 → lanes % 2 ^ fullWidth s ≠ 0 →
    bad = mapGet (fun _ => 0) s.host.badLanes link ||| (lanes % 2 ^ fullWidth s) →
    width = min (Machine.get s (F.HST_LINK_WIDTH link)) (widthWithout (fullWidth s) bad) →
    Completes (.hostLaneFault link lanes) s fun t =>
      Machine.get t (F.HST_LINK_WIDTH link) = trunc 5 width ∧ mapGet (fun _ => 0) t.host.badLanes link = bad ∧
      Machine.get t (F.HST_LINK_RETRAINS link) = trunc 16 (satAdd 16 (Machine.get s (F.HST_LINK_RETRAINS link)) 1) ∧
      Raised t evHST (B.HST_EVT_LANE_DEGRADE + link) ∧ (Dom.hostLink, link) ∈ t.exposed ∧
      (width = 0 → Machine.get t (F.HST_LINK_UP link) = 0 ∧ ∀ fn ∈ fnsOfLink s link, Machine.get t (F.HST_FN_STATUS_CCEN fn) = 0) ∧
      (width ≠ 0 → (∀ w ∈ s.windows, ¬ (w.kind = Dom.hostLink ∧ w.inst = link)) →
        t.windows = s.windows ∧
        t.faultLog = (⟨now s, 0, Dom.hostLink, link, if isExposed s Dom.hostLink link then 1 else 0, 136 + link⟩ :: s.faultLog).take 64 ∧
        inner t = { inner s with
          faultLog := t.faultLog, exposed := t.exposed,
          host := { s.host with badLanes := t.host.badLanes } } ∧
        OnlyFields s t ([F.HST_LINK_WIDTH link, F.HST_LINK_RETRAINS link, F.EVT_FW_OPEN_NOW, F.EVT_FW_OPEN_TOTAL] ++ evFields evHST))) ∧
  (∀ (s : State) (link speed : Nat) (up : Bool), link < 4 → fnsOfLink s link ≠ [] ∨ Machine.get s (F.HST_LINK_UP link) = 1 →
    Completes (.hostLinkLoss link speed up) s fun t =>
      Machine.get t (F.HST_LINK_UP link) = (if up then 1 else 0) ∧ Machine.get t (F.HST_LINK_SPEED link) = (if up then trunc 4 speed else 0) ∧
      Machine.get t (F.HST_LINK_WIDTH link) = (if up then fullWidth s else 0) ∧ Raised t evHST (B.HST_EVT_LINK_CHANGE + link) ∧
      Machine.get t F.PWR_RESET_CAUSE_KIND = 3 ∧ (Dom.hostLink, link) ∉ t.exposed ∧
      (∀ fn ∈ fnsOfLink s link, Machine.get t (F.HST_FN_STATUS_CCEN fn) = 0 ∧ ∀ q ∈ t.host.queues, q.fn ≠ fn) ∧
      (s.host.cmds = [] → s.host.queues = [] → s.host.tabSess = none → s.host.fwSess = none →
        inner t = { inner s with host := t.host, exposed := t.exposed } ∧
        OnlyFields s t ([F.HST_LINK_UP link, F.HST_LINK_SPEED link, F.HST_LINK_WIDTH link, F.HST_LINK_RETRAINS link, F.PWR_RESET_CAUSE_KIND,
          F.HST_INFLIGHT, F.HST_INFLIGHT_C0] ++ evFields evHST ++ (fnsOfLink s link).flatMap fun fn => [F.HST_FN_STATUS_CCEN fn,
          F.HST_FN_STATUS_STAMP fn, F.HST_FN_STATUS_IOQ fn, F.HST_FN_STATUS_RDY fn, F.HST_FN_INFLIGHT fn]))) ∧
  (∀ (s : State) (fn : Nat), fn < 512 →
    Completes (.flr fn) s fun t =>
      Machine.get t (F.HST_FN_STATUS_CCEN fn) = 0 ∧ Machine.get t (F.HST_FN_STATUS_STAMP fn) = 0 ∧ Machine.get t F.PWR_RESET_CAUSE_KIND = 4 ∧
      (∀ q ∈ t.host.queues, q.fn ≠ fn) ∧ (∀ x ∈ t.host.fetching, x.1 ≠ fn) ∧
      (∀ c ∈ t.host.cmds, c.fn = fn → c.decided = true ∧ c.mute = true) ∧ holds fn t.host.tabSess = false ∧ holds fn t.host.fwSess = false ∧
      ((∀ c ∈ s.host.cmds, c.fn ≠ fn) → holds fn s.host.tabSess = false → holds fn s.host.fwSess = false →
        Machine.get t (F.HST_FN_STATUS_RDY fn) = 0 ∧ Machine.get t (F.HST_FN_INFLIGHT fn) = 0 ∧ t.host.cmds = s.host.cmds ∧
        WithinHost s t ([F.HST_FN_STATUS_CCEN fn, F.HST_FN_STATUS_STAMP fn, F.HST_FN_STATUS_IOQ fn, F.HST_FN_STATUS_RDY fn,
          F.HST_FN_INFLIGHT fn, F.HST_INFLIGHT, F.HST_INFLIGHT_C0, F.PWR_RESET_CAUSE_KIND] ++
          (s.host.queues.filter fun q => decide (q.fn = fn)).flatMap fun q => queueFields q.ctx))) ∧
  (∀ (s : State) (fn ams b : Nat), fn < 512 → Machine.get s (F.HST_FN_STATUS_CCEN fn) ≠ 1 → Machine.get s (F.HST_FN_STATUS_RDY fn) ≠ 1 →
    inflightOf s fn = 0 → 2 ≤ Machine.get s (F.HST_FN_CFG_CTX fn) →
    b = freeCtx { s with host := { s.host with queues := s.host.queues ++ [⟨fn, 0, true, freeCtx s, 4096, 0, 0, 0, [], none, none⟩] } } →
    Completes (.ccEnSet fn ams) s fun t =>
      Machine.get t (F.HST_FN_STATUS_CCEN fn) = 1 ∧ Machine.get t (F.HST_FN_STATUS_RDY fn) = (if s.pwr.rdyOk then 1 else 0) ∧
      t.host = { s.host with
        ams := mapPut s.host.ams fn (ams % 8),
        queues := s.host.queues ++ [⟨fn, 0, true, freeCtx s, 4096, 0, 0, 0, [], none, none⟩, ⟨fn, 0, false, b, 4096, 0, 0, 0, [], none, some 0⟩] } ∧
      WithinHost s t ([F.HST_FN_STATUS_CCEN fn, F.HST_FN_STATUS_RDY fn] ++ queueFields (freeCtx s) ++ queueFields b)) ∧
  (∀ (s : State),
    Completes .hstClrCnt s fun t =>
      (∀ f ∈ [F.HST_LAT0_OVER, F.HST_CMDS, F.HST_ABORTS_DONE, F.HST_ABORTS_NOT, F.HST_ADMIT_WAIT, F.HST_OVERLAP_WAIT, F.HST_XFER_ERR,
        F.HST_BUS_ERR, F.HST_LAT0_MAX], Machine.get t f = 0) ∧
      Within s t [F.HST_LAT0_OVER, F.HST_CMDS, F.HST_ABORTS_DONE, F.HST_ABORTS_NOT, F.HST_ADMIT_WAIT, F.HST_OVERLAP_WAIT, F.HST_XFER_ERR,
        F.HST_BUS_ERR, F.HST_LAT0_MAX])

/-- O13. An arrived Read or Verify that passes the checks of its namespace, fields, range and readiness waits in stamp order,
counted where an earlier command holds it; one that fails a check ends with that check's status. With nothing earlier before it, a
reading command resolves its blocks and pins their sets, and a Recall within its quota stages its blocks and completes, else
fails. A reading command whose data is there completes with it, or with Unrecovered Read Error where a block is lost. An arrived
Write that passes the checks takes pages, else fails; its data enters them; once it may be judged and the admission check passes,
its journal record is written and it completes, or with FUA waits for its rows; where the check does not pass it is marked
stalled. A Flush waits for earlier modifications and completes after them. (R286, R381, R382, R383, R385, R386, R387, R392, R393,
R394, R395, R411) -/
def Obligations.HostReadsAndWrites : Prop :=
  (∀ (s : State) (stamp : Nat) (c : Cmd), findCmd s stamp = some c → hostRuns s = true → c.opc = Op.read → c.phase = .arrived →
    rangeError s c (c.ranges.getD []) = none →
    Completes (.read stamp) s fun t => Orders s t c) ∧
  (∀ (s : State) (stamp : Nat) (c : Cmd) (e : Nat × Nat × Nat), findCmd s stamp = some c → hostRuns s = true → c.opc = Op.read →
    c.phase = .arrived → rangeError s c (c.ranges.getD []) = some e →
    Completes (.read stamp) s fun t => FinishesAlone s t c e.1 e.2.1 e.2.2 []) ∧
  (∀ (s : State) (stamp : Nat) (c : Cmd), findCmd s stamp = some c → hostRuns s = true → c.opc = Op.verify → c.phase = .arrived →
    rangeError s c (c.ranges.getD []) = none →
    Completes (.verify stamp) s fun t => Orders s t c) ∧
  (∀ (s : State) (stamp : Nat) (c : Cmd) (e : Nat × Nat × Nat), findCmd s stamp = some c → hostRuns s = true → c.opc = Op.verify →
    c.phase = .arrived → rangeError s c (c.ranges.getD []) = some e →
    Completes (.verify stamp) s fun t => FinishesAlone s t c e.1 e.2.1 e.2.2 []) ∧
  (∀ (s : State) (stamp : Nat) (c : Cmd), findCmd s stamp = some c → hostRuns s = true → c.opc = Op.read ∨ c.opc = Op.verify →
    c.phase = .ordering → blocked s c = false →
    Completes (.readResolve stamp) s fun t =>
      t.host = cmdsWith s stamp (fun x => { x with
        phase := .transfer, resolved := (rangeBlocks (c.ranges.getD [])).map fun b => (b, resolveBlock s c.nsid b) }) ∧
      (∀ hd, (getSet t hd).reads = (getSet s hd).reads + (((rangeBlocks (c.ranges.getD [])).map fun b => resolveBlock s c.nsid b).filter fun e =>
        entrySet e = some hd).length) ∧
      inner t = { inner s with host := t.host, lib := { s.lib with sets := t.lib.sets } } ∧ OnlyFields s t []) ∧
  (∀ (s : State) (stamp : Nat) (c : Cmd) (bs : List (Nat × Nat × Nat)), findCmd s stamp = some c → hostRuns s = true → c.opc = Op.recall →
    c.phase = .ordering → blocked s c = false → bs = toStage s c →
    Completes (.readResolve stamp) s fun t =>
      ((quotaOf s c.fn < (s.host.staged.filter fun x => decide (x.fn = c.fn)).length + bs.length ∨
          cleanBlocks s / 4 < s.host.staged.length + bs.length) → FinishesAlone s t c 1 0xc0 1 []) ∧
      ((s.host.staged.filter fun x => decide (x.fn = c.fn)).length + bs.length ≤ quotaOf s c.fn →
        s.host.staged.length + bs.length ≤ cleanBlocks s / 4 →
        t.host.staged = s.host.staged ++ bs.map (fun b => ⟨c.fn, b.2.1, b.2.2, c.nsid, b.1,
          now s + 156250000 * (if c.arg = 0 then 600 else min c.arg 86400), c.stamp⟩) ∧
        (∀ x ∈ t.host.cmds, x.stamp ≠ stamp) ∧
        (c.mute = false → ∃ e ∈ t.host.posted, e.fn = c.fn ∧ e.qid = c.qid ∧ e.cid = c.cid ∧ e.sct = 0 ∧ e.sc = 0))) ∧
  (∀ (s : State) (stamp : Nat) (c : Cmd), findCmd s stamp = some c → c.phase = .transfer → egressWaits (loseBad c s) c = false →
    (∀ r ∈ c.resolved, blockData (loseBad c s) c.nsid r.1 r.2 ≠ .waiting) → firstLost (loseBad c s) c.nsid c.resolved = none →
    Completes (.readTransferDone stamp) s fun t =>
      FinishesWith (loseBad c s) t c 0 0 0 (if c.opc = Op.read then c.resolved.filterMap (blockSent (loseBad c s) c.nsid) else []) ∧
      (quietHost s = true → (∀ r ∈ c.resolved, entrySet r.2 = none ∧ entryPage r.2 = none) →
        inner t = { inner s with host := t.host, par := { s.par with clean := t.par.clean } } ∧ OnlyFields s t (finishFields c.fn))) ∧
  (∀ (s : State) (stamp lba cause : Nat) (c : Cmd), findCmd s stamp = some c → c.phase = .transfer → egressWaits (loseBad c s) c = false →
    (∀ r ∈ c.resolved, blockData (loseBad c s) c.nsid r.1 r.2 ≠ .waiting) → firstLost (loseBad c s) c.nsid c.resolved = some (lba, cause) →
    Completes (.readTransferDone stamp) s fun t =>
      FinishesWith (loseBad c s) t c 2 0x81 1 (if c.opc = Op.read then c.resolved.filterMap (blockSent (loseBad c s) c.nsid) else []) ∧
      (c.mute = false → (t.host.errors.head?.map fun e => (e.lba, e.nsid, e.cause)) = some (lba, c.nsid, cause))) ∧
  (∀ (s : State) (stamp : Nat) (c : Cmd), findCmd s stamp = some c → hostRuns s = true → c.opc = Op.write → c.phase = .arrived →
    rangeError s c (c.ranges.getD []) = none → writeFault s c.nsid = false →
    Completes (.write stamp) s fun t =>
      t = { s with host := cmdsWith s stamp fun x => { x with phase := .dataIn, pages := takePages s (rangeBlocks (c.ranges.getD [])).length } }) ∧
  (∀ (s : State) (stamp : Nat) (c : Cmd) (e : Nat × Nat × Nat), findCmd s stamp = some c → hostRuns s = true → c.opc = Op.write →
    c.phase = .arrived →
    rangeError s c (c.ranges.getD []) = some e ∨ (rangeError s c (c.ranges.getD []) = none ∧ writeFault s c.nsid = true ∧ e = (2, 0x80, 0)) →
    Completes (.write stamp) s fun t => FinishesAlone s t c e.1 e.2.1 e.2.2 []) ∧
  (∀ (s : State) (stamp : Nat) (c : Cmd) (data : List Nat), findCmd s stamp = some c → c.phase = .dataIn →
    Completes (.writeDataReceived stamp data) s fun t =>
      t.host = cmdsWith s stamp (fun x => { x with phase := .admission }) ∧
      t.buf = (forAll (List.range c.pages.length) (fun i u => bufWritePage (c.pages.getD i 0) (data.getD i 0) u) s).buf ∧
      inner t = { inner s with host := t.host, buf := t.buf } ∧ OnlyFields s t [F.HST_OVERLAP_WAIT]) ∧
  (∀ (s : State) (stamp : Nat) (c : Cmd), findCmd s stamp = some c → admissible s c = true →
    admitCheck s c (partsOf (writeRange c).1 (writeRange c).2) = .normal →
    Completes (.writeAdmission stamp) s fun t =>
      (c.fua = false → Finishes s t c 0 0 0) ∧
      (c.fua = true → ∃ x ∈ t.host.cmds, x = { c with phase := .durable, decided := true, pages := [] }) ∧
      t.lib.maxStamp = max s.lib.maxStamp c.stamp ∧
      (quietHost s = true → c.resolved = [] →
        t.plp = { s.plp with tail := s.plp.tail ++ [.admitted c.stamp c.nsid (writeRange c).1 (writeRange c).2] } ∧
        inner t = { inner s with host := t.host, lib := t.lib, plp := t.plp } ∧
        OnlyFields s t (F.PLP_D_DIRTY :: arbourFields s ++ fragFields ++ finishFields c.fn))) ∧
  (∀ (s : State) (stamp : Nat) (c : Cmd), findCmd s stamp = some c → admissible s c = true →
    admitCheck s c (partsOf (writeRange c).1 (writeRange c).2) = .waits →
    Completes (.writeAdmission stamp) s fun t =>
      (∀ x ∈ t.host.cmds, x.stamp = stamp → x.stalled = true ∨ c.stalled = true) ∧
      (c.stalled = false → Raised t evHST B.HST_EVT_ADMIT_STALL ∧
        Machine.get t F.HST_ADMIT_WAIT = trunc 32 (satAdd 32 (Machine.get s F.HST_ADMIT_WAIT) 1)) ∧
      WithinHost s t (F.HST_ADMIT_WAIT :: evFields evHST)) ∧
  (∀ (s : State) (stamp : Nat) (c : Cmd), findCmd s stamp = some c → hostRuns s = true → c.opc = Op.flush → c.phase = .arrived →
    c.nsid = 0xffffffff ∨ ((findSpace s c.nsid).any fun n => decide (c.fn ∈ n.attach)) = true →
    Completes (.flush stamp) s fun t => t = { s with host := cmdsWith s stamp fun x => { x with phase := .flushing } }) ∧
  (∀ (s : State) (stamp : Nat) (c : Cmd), findCmd s stamp = some c → c.phase = .flushing →
    (∀ e ∈ s.host.cmds, e.modifies = true → e.stamp < stamp → c.nsid ≠ 0xffffffff ∧ e.nsid ≠ c.nsid) →
    Completes (.flushComplete stamp) s fun t => FinishesAlone s t c 0 0 0 [])

/-- O14. Write Zeroes and Dataset Management that pass their checks wait in stamp order behind an earlier overlapping command;
with none they complete, a whole grain becoming UNMAPPED; one that fails a check ends with its status, and Dataset Management
without the deallocate attribute completes with no effect. A Recall that passes its checks waits in stamp order. A staged block is
released when its time has ended. Queues take and free their contexts; a deletion ends the commands before their decision point
and answers once none is left, and fails on an unknown queue. Abort withdraws a command before its decision point or reports that
it did not. (R290, R375, R377, R381, R385, R388, R389, R393, R395, R396, R411, R412) -/
def Obligations.HostQueuesAndDeallocation : Prop :=
  (∀ (s : State) (stamp : Nat) (c : Cmd), findCmd s stamp = some c → hostRuns s = true → c.opc = Op.writeZeroes → c.phase = .arrived →
    rangeError s c (c.ranges.getD []) = none →
    Completes (.writeZeroes stamp) s fun t =>
      (blocked s c = true → Orders s t c) ∧
      (blocked s c = false → Finishes s t c 0 0 0 ∧
        ∀ k g, c.ranges = some [(256 * k, 256)] → grainOf s c.nsid (256 * k) = some g → wholeEntry (grainEntry s g) = true →
          c.resolved = [] → quietHost s = true →
          grainEntry t g = .unmapped ∧ inner t = { inner s with host := t.host, lib := t.lib } ∧
          OnlyFields s t (arbourFields s ++ fragFields ++ finishFields c.fn))) ∧
  (∀ (s : State) (stamp : Nat) (c : Cmd) (e : Nat × Nat × Nat), findCmd s stamp = some c → hostRuns s = true → c.opc = Op.writeZeroes →
    c.phase = .arrived → rangeError s c (c.ranges.getD []) = some e →
    Completes (.writeZeroes stamp) s fun t => FinishesAlone s t c e.1 e.2.1 e.2.2 []) ∧
  (∀ (s : State) (stamp : Nat) (c : Cmd) (rs : List (Nat × Nat)), findCmd s stamp = some c → hostRuns s = true → c.opc = Op.dsm →
    c.phase = .arrived → rangeError s { c with ranges := some rs } rs = none →
    Completes (.datasetManagement stamp rs) s fun t =>
      (bitOf c.arg 2 = 0 → FinishesAlone s t c 0 0 0 []) ∧
      (bitOf c.arg 2 = 1 → blocked s { c with ranges := some rs } = true → Orders s t { c with ranges := some rs }) ∧
      (bitOf c.arg 2 = 1 → blocked s { c with ranges := some rs } = false → Finishes s t c 0 0 0 ∧
        ∀ k g, rs = [(256 * k, 256)] → grainOf s c.nsid (256 * k) = some g → wholeEntry (grainEntry s g) = true →
          c.resolved = [] → quietHost s = true →
          grainEntry t g = .unmapped ∧ inner t = { inner s with host := t.host, lib := t.lib } ∧
          OnlyFields s t (arbourFields s ++ fragFields ++ finishFields c.fn))) ∧
  (∀ (s : State) (stamp : Nat) (c : Cmd) (rs : List (Nat × Nat)), findCmd s stamp = some c → hostRuns s = true → c.opc = Op.recall →
    c.phase = .arrived → rangeError s { c with ranges := some rs } rs = none →
    Completes (.recall stamp rs) s fun t => Orders s t { c with ranges := some rs }) ∧
  (∀ (s : State) (hd lbk : Nat),
    Completes (.stagedBlockRelease hd lbk) s fun t =>
      t.host = { s.host with staged := s.host.staged.filter fun x => decide (x.set ≠ hd) || decide (x.lbk ≠ lbk) || decide (now s < x.ends) } ∧
      inner t = { inner s with host := t.host, par := { s.par with clean := t.par.clean } } ∧ OnlyFields s t []) ∧
  (∀ (s : State) (fn cid qid size cqid prio : Nat), fn < 512 → adminOpen s fn = true → qid ≠ 0 → findQueue s fn qid true = none →
    Machine.get s (F.HST_FN_STATUS_IOQ fn) + 2 < ctxLimit s fn → (findQueue s fn cqid false).isSome = true → cqid ≠ 0 → 2 ≤ size → size ≤ 65536 →
    Completes (.createIoSq fn cid qid size cqid prio) s fun t =>
      t.host = { s.host with
        posted := ⟨fn, 0, cid, 0, 0, 0, 0, 0, [], []⟩ :: s.host.posted,
        queues := s.host.queues ++ [⟨fn, qid, true, freeCtx s, size, cqid, max (prio % 4) (Machine.get s (F.HST_FN_CFG_CLASS fn)), 0, [], none, none⟩] } ∧
      Machine.get t (F.HST_FN_STATUS_IOQ fn) = trunc 16 (satAdd 16 (Machine.get s (F.HST_FN_STATUS_IOQ fn)) 1) ∧
      Machine.get t (F.HST_QCTX_VALID (freeCtx s)) = 1 ∧ Machine.get t (F.HST_QCTX_QID (freeCtx s)) = trunc 16 qid ∧
      WithinHost s t (F.HST_FN_STATUS_IOQ fn :: queueFields (freeCtx s))) ∧
  (∀ (s : State) (fn cid qid size : Nat) (vector : Option Nat), fn < 512 → adminOpen s fn = true → qid ≠ 0 → findQueue s fn qid false = none →
    Machine.get s (F.HST_FN_STATUS_IOQ fn) + 2 < ctxLimit s fn → 2 ≤ size → size ≤ 65536 → (∀ v, vector = some v → v < msixVectors s fn) →
    Completes (.createIoCq fn cid qid size vector) s fun t =>
      t.host = { s.host with
        posted := ⟨fn, 0, cid, 0, 0, 0, 0, 0, [], []⟩ :: s.host.posted,
        queues := s.host.queues ++ [⟨fn, qid, false, freeCtx s, size, 0, 0, 0, [], none, vector⟩] } ∧
      Machine.get t (F.HST_FN_STATUS_IOQ fn) = trunc 16 (satAdd 16 (Machine.get s (F.HST_FN_STATUS_IOQ fn)) 1) ∧
      Machine.get t (F.HST_QCTX_VALID (freeCtx s)) = 1 ∧ Machine.get t (F.HST_QCTX_KIND (freeCtx s)) = 1 ∧
      WithinHost s t (F.HST_FN_STATUS_IOQ fn :: queueFields (freeCtx s))) ∧
  (∀ (s : State) (fn cid qid : Nat) (q : Queue), fn < 512 → adminOpen s fn = true → findQueue s fn qid true = some q → qid ≠ 0 →
    q.deleting = none →
    Completes (.deleteIoSq fn cid qid) s fun t =>
      (∀ c ∈ t.host.cmds, c.fn = fn → c.qid = qid → c.decided = true) ∧
      (∀ c ∈ s.host.cmds, c.fn = fn → c.qid = qid → c.decided = false → c.mute = false → entryOf s c 0 8 0 [] ∈ t.host.posted) ∧
      ((∀ c ∈ s.host.cmds, c.fn = fn → c.qid = qid → c.decided = false) → ⟨fn, 0, cid, 0, 0, 0, 0, 0, [], []⟩ ∈ t.host.posted) ∧
      (quietHost s = true → s.host.queues.Nodup → (∀ c ∈ s.host.cmds, c.fn = fn → c.qid ≠ qid) →
        t.host.posted = ⟨fn, 0, cid, 0, 0, 0, 0, 0, [], []⟩ :: s.host.posted ∧ t.host.queues = s.host.queues.erase q ∧
        t.host.cmds = s.host.cmds ∧
        WithinHost s t ([F.HST_FN_STATUS_IOQ fn, F.HST_INFLIGHT, F.HST_INFLIGHT_C0, F.HST_FN_INFLIGHT fn] ++ queueFields q.ctx))) ∧
  (∀ (s : State) (fn cid qid : Nat), fn < 512 → adminOpen s fn = true → findQueue s fn qid true = none →
    Completes (.deleteIoSq fn cid qid) s fun t =>
      t.host.posted = ⟨fn, 0, cid, 1, 1, 1, 0, 0, [], []⟩ :: s.host.posted ∧ WithinHost s t []) ∧
  (∀ (s : State) (fn cid qid : Nat) (q : Queue), fn < 512 → adminOpen s fn = true → findQueue s fn qid false = some q → qid ≠ 0 →
    (∀ x ∈ s.host.queues, x.sub = true → x.fn = fn → x.cq ≠ qid) →
    Completes (.deleteIoCq fn cid qid) s fun t =>
      t.host = { s.host with posted := ⟨fn, 0, cid, 0, 0, 0, 0, 0, [], []⟩ :: s.host.posted, queues := s.host.queues.erase q } ∧
      WithinHost s t (F.HST_FN_STATUS_IOQ fn :: queueFields q.ctx)) ∧
  (∀ (s : State) (fn cid sqid acid : Nat) (c : Cmd), fn < 512 → adminOpen s fn = true →
    (s.host.cmds.find? fun c => decide (c.fn = fn) && decide (c.qid = sqid) && decide (c.cid = acid) && !c.decided) = some c →
    Completes (.abort fn cid sqid acid) s fun t =>
      t.host.posted.head? = some ⟨fn, 0, cid, 0, 0, 0, 0, 0, [], []⟩ ∧
      (c.mute = false → entryOf s c 0 7 0 [] ∈ t.host.posted) ∧ (∀ x ∈ t.host.cmds, x.stamp ≠ c.stamp) ∧
      Machine.get t F.HST_ABORTS_DONE = trunc 16 (satAdd 16 (Machine.get s F.HST_ABORTS_DONE) 1) ∧
      (quietHost s = true → c.resolved = [] → WithinHost s t (F.HST_ABORTS_DONE :: finishFields c.fn))) ∧
  (∀ (s : State) (fn cid sqid acid : Nat), fn < 512 → adminOpen s fn = true →
    (∀ c ∈ s.host.cmds, c.fn = fn → c.qid = sqid → c.cid = acid → c.decided = true) →
    Completes (.abort fn cid sqid acid) s fun t =>
      t.host.posted = ⟨fn, 0, cid, 0, 0, 0, 1, 0, [], []⟩ :: s.host.posted ∧
      Machine.get t F.HST_ABORTS_NOT = trunc 16 (satAdd 16 (Machine.get s F.HST_ABORTS_NOT) 1) ∧ WithinHost s t [F.HST_ABORTS_NOT])

/-- O15. A PWM period counts, closes each link's header run and takes the link's and the motors' values into force, and nothing
but links, motors and the head's wobble speeds and permits changes where no calibration is under way. A stretch with a HEADER
shows its inputs, flags and encoders, the round trip and the counts of bad packets and violations; one without counts them. A
stretch of samples shows the bus voltage, the currents of the period, the residual and the speed of its bay or carousel. An IDENT
of the right role and turnaround makes the expander known and CONFIG goes out; another is refused. An input edge moves the raw
level; a code with a bad complement is only counted. CLR_CNT clears the counters. (R86, R87, R88, R89, R90, R91, R94, R96, R97,
R106, R229, R455) -/
def Obligations.BayLinkPackets : Prop :=
  (∀ (s : State),
    Completes .pwmPeriod s fun t =>
      Machine.get t F.CLK_PWM = trunc 64 (Machine.get s F.CLK_PWM + 1) ∧
      (∀ l < 36, linkInst s l = true →
        (busOf t l).heard = false ∧ (busOf t l).upRun = (if (busOf s l).heard then (busOf s l).upRun + 1 else 0) ∧
        (busOf t l).downRun = (if (busOf s l).heard then 0 else (busOf s l).downRun + 1) ∧
        ∀ f ∈ [F.BL_DEADTIME l, F.BL_OC_TRIP l], inForce t f = Machine.get s f) ∧
      (∀ b < 32, bayInst s b = true → ∀ f ∈ [F.MOT_CUR_KP b, F.MOT_CUR_KI b, F.MOT_SHUNT_SETTLE b, F.MOT_SHUNT_WIN_MIN b],
        inForce t f = Machine.get s f) ∧
      (∀ c < 4, carInst s c = true → ∀ f ∈ [F.CMOT_CUR_KP c, F.CMOT_CUR_KI c], inForce t f = Machine.get s f) ∧
      (s.cal.fresh = [] → s.cal.job = none →
        inner t = { inner s with buses := t.buses, spindles := t.spindles, axes := t.axes, carousels := t.carousels, force := t.force } ∧
        OnlyFields s t (F.CLK_PWM :: F.EVT_LOG_HEAD :: ((baysOf s).flatMap fun b =>
          [F.MOT_STATUS_WOB_VALID b, F.MOT_WOB_SPEED b, F.MOT_STATUS_SPEED_LOCK b, F.MOT_STATUS_STATE b, F.MOT_EVT b, F.MOT_SHIFTED b,
           F.MOT_PREDICTED b] ++ [2 * b, 2 * b + 1].flatMap fun h => [F.CH_WOB_SPEED h, F.CH_STATUS_SPEED_OK h, F.CH_EVT h] ++ permitFields h)))) ∧
  (∀ (s : State) (l viol rtt : Nat) (chars : List BayChar) (d : List Nat), linkInst s l = true →
    1 ≤ Machine.get s (F.BL_STATUS_STATE l) → Machine.get s (F.BL_STATUS_STATE l) ≤ 3 → headerIn chars = some d →
    Completes (.bayHeader l chars viol rtt) s fun t =>
      Machine.get t (F.BL_STATUS_STATE l) = max 2 (Machine.get s (F.BL_STATUS_STATE l)) ∧
      Machine.get t (F.BL_INPUTS_LEVELS l) = trunc 16 (payloadField d 2 2) ∧ Machine.get t (F.BL_INPUTS_TOGGLES l) = trunc 16 (payloadField d 4 4) ∧
      Machine.get t (F.BL_STATUS_SAFE l) = bitOf (payloadField d 20 2) 0 ∧ Machine.get t (F.BL_STATUS_OC_LATCHED l) = bitOf (payloadField d 20 2) 1 ∧
      Machine.get t (F.BL_RTT l) = trunc 16 rtt ∧
      Machine.get t (F.BL_CRC_ERR_UP l) = trunc 16 (satAdd 16 (Machine.get s (F.BL_CRC_ERR_UP l)) (badPackets chars)) ∧
      Machine.get t (F.BL_CODE_ERR l) = trunc 32 (satAdd 32 (Machine.get s (F.BL_CODE_ERR l)) viol) ∧
      (badPackets chars ≠ 0 ∨ bitOf (payloadField d 20 2) 2 = 1 → Raised t (evBL l) B.BL_EVT_LATE) ∧
      (busOf t l).heard = (decide (bitOf (payloadField d 20 2) 2 = 0) || decide (Machine.get s (F.BL_STATUS_STATE l) = 3)) ∧
      (busOf t l).sf = payloadField d 0 2 ∧ (busOf t l).raw = payloadField d 2 2 ∧ (busOf t l).gates = payloadField d 16 4 ∧
      (busOf t l).repeats = (if bitOf (payloadField d 20 2) 3 = 1 then (busOf s l).repeats + 1 else 0) ∧
      (32 ≤ l → Machine.get t (F.CMOT_POS (l - 32)) = ofSigned 32 (toSigned 32 (payloadField d 8 4) + (crsOf s (l - 32)).encOfs)) ∧
      inner t = { inner s with buses := t.buses, axes := t.axes } ∧ OnlyBus l s t ∧ OnlyBayAx l s t ∧
      OnlyFields s t ([F.BL_STATUS_STATE l, F.BL_INPUTS_LEVELS l, F.BL_INPUTS_TOGGLES l, F.BL_STATUS_SAFE l, F.BL_STATUS_OC_LATCHED l, F.BL_RTT l,
        F.BL_CRC_ERR_UP l, F.BL_CODE_ERR l, F.BL_CRC_ERR_DOWN l, F.BL_LATE_REPEATS l] ++ evFields (evBL l) ++
        (if l < 32 then [F.MOV_AX_ENC_POS l 0, F.MOV_AX_ENC_POS l 1] else [F.CMOT_POS (l - 32)]))) ∧
  (∀ (s : State) (l viol rtt : Nat) (chars : List BayChar), linkInst s l = true →
    1 ≤ Machine.get s (F.BL_STATUS_STATE l) → Machine.get s (F.BL_STATUS_STATE l) ≤ 3 → headerIn chars = none →
    Completes (.bayHeader l chars viol rtt) s fun t =>
      Machine.get t (F.BL_CRC_ERR_UP l) = trunc 16 (satAdd 16 (Machine.get s (F.BL_CRC_ERR_UP l)) (badPackets chars)) ∧
      Machine.get t (F.BL_CODE_ERR l) = trunc 32 (satAdd 32 (Machine.get s (F.BL_CODE_ERR l)) viol) ∧
      (badPackets chars ≠ 0 → Raised t (evBL l) B.BL_EVT_LATE) ∧
      Within s t ([F.BL_CRC_ERR_UP l, F.BL_CODE_ERR l] ++ evFields (evBL l))) ∧
  (∀ (s : State) (l viol late : Nat) (chars : List BayChar) (m : Observed) (es : List (Nat × Nat × Nat)), l < 32 → linkInst s l = true →
    linkUp s l = true → es = conversions chars →
    Completes (.baySample l chars viol late m) s fun t =>
      Machine.get t (F.BL_LATE_PACKETS l) = trunc 16 (satAdd 16 (Machine.get s (F.BL_LATE_PACKETS l)) late) ∧
      Machine.get t (F.BL_CODE_ERR l) = trunc 32 (satAdd 32 (Machine.get s (F.BL_CODE_ERR l)) viol) ∧
      Machine.get t (F.BL_CRC_ERR_UP l) = trunc 16 (satAdd 16 (Machine.get s (F.BL_CRC_ERR_UP l)) (badPackets chars)) ∧
      (∀ z, channelIn s l es 4 = some z → Machine.get t (F.MOT_VBUS l) = trunc 16 (clampInt 0 65535 z).toNat) ∧
      ((spinOf t l).mD, (spinOf t l).mQ) = periodCurrents s l es m ∧
      Machine.get t (F.MOT_IDQ_D l) = ofSigned 16 (spinOf t l).mD ∧ Machine.get t (F.MOT_IDQ_Q l) = ofSigned 16 (spinOf t l).mQ ∧
      Machine.get t (F.MOT_RESID_LAST l) = trunc 16 m.resid ∧
      (motSt s l = 1 ∨ motSt s l = 2 ∨ motSt s l = 3 ∨ motSt s l = 5 →
        Machine.get t (F.MOT_SPEED l) = ofSigned 32 m.speed ∧ Machine.get t (F.MOT_ANGLE l) = trunc 16 m.angle ∧
        Machine.get t (F.MOT_ANGLE_ERR l) = ofSigned 16 m.pllErr ∧ Machine.get t (F.MOT_STATUS_OBS_LOCK l) = (if m.locked then 1 else 0)) ∧
      (busBelow s l es (Machine.get s (F.MOT_VBUS l)) (Machine.get s (F.CMOT_BUS_CTRL_OV_OFF (carOfBay s l))) = true →
        inner t = { inner s with spindles := t.spindles, buses := t.buses, cal := t.cal } ∧ OnlySpin l s t ∧ OnlyBus l s t ∧
        OnlyFields s t ([F.BL_LATE_PACKETS l, F.BL_CRC_ERR_UP l, F.BL_CODE_ERR l, F.MOT_VBUS l, F.MOT_RESID_LAST l, F.MOT_RESID_PEAK l, F.MOT_IDQ_D l,
          F.MOT_IDQ_Q l, F.MOT_ANGLE_ERR l, F.MOT_ANGLE l, F.MOT_SPEED l, F.MOT_STATUS_OBS_LOCK l, F.MOT_NTC0 l, F.MOT_NTC1 l, F.MOT_SHIFTED l,
          F.MOT_PREDICTED l] ++ evFields (evBL l)))) ∧
  (∀ (s : State) (c viol late : Nat) (chars : List BayChar) (m : Observed) (es : List (Nat × Nat × Nat)), linkInst s (32 + c) = true →
    linkUp s (32 + c) = true → es = conversions chars →
    Completes (.baySample (32 + c) chars viol late m) s fun t =>
      Machine.get t (F.BL_LATE_PACKETS (32 + c)) = trunc 16 (satAdd 16 (Machine.get s (F.BL_LATE_PACKETS (32 + c))) late) ∧
      (∀ z, channelIn s (32 + c) es 4 = some z → Machine.get t (F.CMOT_BUS_STATUS_V c) = trunc 16 (clampInt 0 65535 z).toNat) ∧
      (∀ z, channelIn s (32 + c) es 11 = some z → Machine.get t (F.CMOT_BUS_STATUS_I c) = trunc 16 (clampInt 0 65535 z).toNat) ∧
      Machine.get t (F.CMOT_IDQ_D c) = ofSigned 16 (carCurrents s c es m).1 ∧ Machine.get t (F.CMOT_IDQ_Q c) = ofSigned 16 (carCurrents s c es m).2 ∧
      Machine.get t (F.CMOT_SPEED c) = ofSigned 32 m.speed ∧
      (busBelow s (32 + c) es (Machine.get s (F.CMOT_BUS_STATUS_V c)) (Machine.get s (F.CMOT_BUS_CTRL_OV_OFF c)) = true →
        inner t = { inner s with carousels := t.carousels, buses := t.buses, cal := t.cal } ∧ OnlyCrs c s t ∧ OnlyBus (32 + c) s t ∧
        OnlyFields s t ([F.BL_LATE_PACKETS (32 + c), F.BL_CRC_ERR_UP (32 + c), F.BL_CODE_ERR (32 + c), F.CMOT_BUS_STATUS_V c, F.CMOT_BUS_STATUS_I c,
          F.CMOT_BUS_PEAK c, F.CMOT_IDQ_D c, F.CMOT_IDQ_Q c, F.CMOT_SPEED c, F.CMOT_STATUS_CHOP_ON c] ++ evFields (evBL (32 + c))))) ∧
  (∀ (s : State) (l viol : Nat) (chars : List BayChar) (d : List Nat), linkInst s l = true → Machine.get s (F.BL_STATUS_STATE l) = 2 →
    ((payloadsOf 0x85 chars).find? fun d => decide (d.length = 16)) = some d →
    Completes (.bayIdent l chars viol) s fun t =>
      Machine.get t (F.BL_STATUS_ROLE l) = trunc 2 (d.getD 0 0) ∧ (∀ i < 4, Machine.get t (F.BL_IDENT l i) = trunc 32 (payloadField d (4 * i) 4)) ∧
      (d.getD 0 0 = (if l < 32 then 1 else 2) → d.getD 6 0 ≤ 20 →
        Machine.get t (F.BL_STATUS_STATE l) = 2 ∧ busOf t l = { busOf s l with
          known := true, sent := (busOf s l).sent ++ [(5, configPayload (inForce s (F.BL_DEADTIME l)) (inForce s (F.BL_OC_TRIP l)))] }) ∧
      (d.getD 0 0 ≠ (if l < 32 then 1 else 2) ∨ 20 < d.getD 6 0 →
        Machine.get t (F.BL_STATUS_STATE l) = 4 ∧ Raised t (evBL l) B.BL_EVT_REFUSED ∧ busOf t l = busOf s l) ∧
      inner t = { inner s with buses := t.buses } ∧ OnlyBus l s t ∧
      OnlyFields s t ([F.BL_STATUS_STATE l, F.BL_STATUS_ROLE l, F.BL_CRC_ERR_UP l, F.BL_CODE_ERR l] ++ (List.range 4).map (F.BL_IDENT l)
        ++ evFields (evBL l))) ∧
  (∀ (s : State) (l d nd : Nat), linkInst s l = true → codeGood d nd = true →
    Completes (.inputEdge l d nd) s fun t =>
      (busOf t l).raw = (if bitOf d 4 = 1 then (busOf s l).raw ||| 2 ^ (d % 16) else (busOf s l).raw &&& (2 ^ 16 - 1 - 2 ^ (d % 16))) ∧
      mapGet (fun _ => 0) (busOf t l).changed (d % 16) = now s ∧
      (32 ≤ l → d % 16 = 0 → (crsOf s (l - 32)).homing = true → bitOf d 4 = 1 → (crsOf t (l - 32)).edgePos = some (carPos s (l - 32))) ∧
      inner t = { inner s with buses := t.buses, carousels := t.carousels } ∧ OnlyBus l s t ∧ OnlyFields s t [] ∧
      (l < 32 → t.carousels = s.carousels) ∧ OnlyCrs (l - 32) s t) ∧
  (∀ (s : State) (l d nd : Nat), linkInst s l = true → codeGood d nd = false →
    Completes (.inputEdge l d nd) s fun t =>
      Machine.get t (F.BL_CODE_ERR l) = trunc 32 (satAdd 32 (Machine.get s (F.BL_CODE_ERR l)) 1) ∧ Within s t [F.BL_CODE_ERR l]) ∧
  (∀ (s : State) (l : Nat), linkInst s l = true →
    Completes (.blClrCnt l) s fun t =>
      (∀ f ∈ [F.BL_CRC_ERR_UP l, F.BL_CRC_ERR_DOWN l, F.BL_CODE_ERR l, F.BL_LATE_PACKETS l, F.BL_LATE_REPEATS l], Machine.get t f = 0) ∧
      Within s t [F.BL_CRC_ERR_UP l, F.BL_CRC_ERR_DOWN l, F.BL_CODE_ERR l, F.BL_LATE_PACKETS l, F.BL_LATE_REPEATS l])

/-- O16. A known expander with 16 periods of headers brings the link UP; on a bay link the stepper enable follows unless
overvoltage is latched, and a spindle that the link left turning enters CATCH. Three periods without a header, EN 0 or RETRAIN
take the link down, with the expander's safe state and the enables cleared; training starts with EN, and again where a step took
longer than 10 ms. A trip outside blanking ends the drive interval and is counted, one within it changes nothing. An overcurrent
switches the named axis driver off, or stops the spindle with cause 2. A code with a bad complement is only counted. (R88, R91,
R94, R95, R97, R98, R237, R239, R248, R257, R270) -/
def Obligations.BayLinkStates : Prop :=
  (∀ (s : State) (l : Nat), linkInst s l = true → Machine.get s (F.BL_STATUS_STATE l) = 2 → (busOf s l).known = true → 16 ≤ (busOf s l).upRun →
    32 ≤ l →
    Completes (.bayLinkUp l) s fun t =>
      Machine.get t (F.BL_STATUS_STATE l) = 3 ∧ Raised t (evBL l) B.BL_EVT_LINK_UP ∧ busOf t l = { busOf s l with repeats := 0 } ∧
      inner t = { inner s with buses := t.buses } ∧ OnlyBus l s t ∧ OnlyFields s t (F.BL_STATUS_STATE l :: evFields (evBL l))) ∧
  (∀ (s : State) (l : Nat), linkInst s l = true → Machine.get s (F.BL_STATUS_STATE l) = 2 → (busOf s l).known = true → 16 ≤ (busOf s l).upRun →
    l < 32 →
    Completes (.bayLinkUp l) s fun t =>
      Machine.get t (F.BL_STATUS_STATE l) = 3 ∧ Raised t (evBL l) B.BL_EVT_LINK_UP ∧
      (Machine.get s (F.CMOT_STATUS_OV_LATCHED (carOfBay s l)) ≠ 1 → (busOf t l).stepEn = true) ∧
      ((spinOf s l).relink = true → motSt s l = 6 → motSt t l = 4 ∧ (spinOf t l).relink = false ∧ (busOf t l).pwmEn = false) ∧
      (Machine.get s (F.CMOT_STATUS_OV_LATCHED (carOfBay s l)) = 1 → (spinOf s l).relink = false →
        busOf t l = { busOf s l with repeats := 0 } ∧ inner t = { inner s with buses := t.buses } ∧ OnlyBus l s t ∧
        OnlyFields s t (F.BL_STATUS_STATE l :: evFields (evBL l))) ∧
      inner t = { inner s with buses := t.buses, axes := t.axes, spindles := t.spindles, force := t.force } ∧ OnlyBus l s t ∧ OnlyBayAx l s t ∧
      OnlySpin l s t ∧
      OnlyFields s t ([F.BL_STATUS_STATE l, F.MOT_STATUS_STATE l, F.MOT_STATUS_SPEED_LOCK l] ++ evFields (evBL l) ++ evFields (evMOT l) ++ stepFields l)) ∧
  (∀ (s : State) (l : Nat), linkInst s l = true → linkUp s l = true → 3 ≤ (busOf s l).downRun →
    Completes (.bayLinkDown l) s fun t =>
      Machine.get t (F.BL_STATUS_STATE l) = 0 ∧ Machine.get t (F.BL_STATUS_SAFE l) = 1 ∧ Raised t (evBL l) B.BL_EVT_LINK_DOWN ∧
      (busOf t l).known = false ∧ (busOf t l).pwmEn = false ∧ (l < 32 → (busOf t l).stepEn = false) ∧
      inner t = { inner s with buses := t.buses, axes := t.axes, heads := t.heads } ∧ OnlyBus l s t ∧ OnlyBayAx l s t ∧
      (∀ h < 64, h / 2 ≠ l → getHead t h = getHead s h) ∧
      OnlyFields s t ([F.BL_STATUS_STATE l, F.BL_STATUS_SAFE l] ++ evFields (evBL l) ++ stepFields l)) ∧
  (∀ (s : State) (l : Nat), linkInst s l = true → Machine.get s (F.BL_CTRL_EN l) ≠ 0 → Machine.get s (F.BL_STATUS_STATE l) ≤ 2 →
    elapsed s (busOf s l).trainAt 15625000 = true →
    Completes (.bayTrainingRestart l) s fun t =>
      Machine.get t (F.BL_STATUS_STATE l) = 1 ∧ busOf t l = { busOf s l with known := false, upRun := 0, trainAt := now s } ∧
      inner t = { inner s with buses := t.buses } ∧ OnlyBus l s t ∧ OnlyFields s t [F.BL_STATUS_STATE l]) ∧
  (∀ (s : State) (l en : Nat), linkInst s l = true → en % 2 = 1 →
    Completes (.blEnable l en) s fun t =>
      Machine.get t (F.BL_CTRL_EN l) = 1 ∧
      (Machine.get s (F.BL_STATUS_STATE l) = 0 → Machine.get t (F.BL_STATUS_STATE l) = 1 ∧
        busOf t l = { busOf s l with known := false, upRun := 0, trainAt := now s }) ∧
      (Machine.get s (F.BL_STATUS_STATE l) ≠ 0 → Within s t [F.BL_CTRL_EN l]) ∧
      inner t = { inner s with buses := t.buses } ∧ OnlyBus l s t ∧ OnlyFields s t [F.BL_CTRL_EN l, F.BL_STATUS_STATE l]) ∧
  (∀ (s : State) (l en : Nat), linkInst s l = true → en % 2 = 0 →
    Completes (.blEnable l en) s fun t =>
      Machine.get t (F.BL_CTRL_EN l) = 0 ∧ Machine.get t (F.BL_STATUS_STATE l) = 0 ∧ Machine.get t (F.BL_STATUS_SAFE l) = 1 ∧
      (busOf t l).pwmEn = false ∧ inner t = { inner s with buses := t.buses, axes := t.axes, heads := t.heads } ∧ OnlyBus l s t ∧ OnlyBayAx l s t ∧
      (∀ h < 64, h / 2 ≠ l → getHead t h = getHead s h) ∧
      OnlyFields s t ([F.BL_CTRL_EN l, F.BL_STATUS_STATE l, F.BL_STATUS_SAFE l] ++ evFields (evBL l) ++ stepFields l)) ∧
  (∀ (s : State) (l : Nat), linkInst s l = true → Machine.get s (F.BL_CTRL_EN l) ≠ 0 →
    Completes (.blRetrain l) s fun t =>
      Machine.get t (F.BL_STATUS_STATE l) = 1 ∧ Machine.get t (F.BL_STATUS_SAFE l) = 1 ∧ Machine.get t F.PWR_RESET_CAUSE_KIND = 6 ∧
      (busOf t l).trainAt = now s ∧ (busOf t l).pwmEn = false ∧
      inner t = { inner s with buses := t.buses, axes := t.axes, heads := t.heads } ∧ OnlyBus l s t ∧ OnlyBayAx l s t ∧
      (∀ h < 64, h / 2 ≠ l → getHead t h = getHead s h) ∧
      OnlyFields s t ([F.PWR_RESET_CAUSE_KIND, F.BL_STATUS_STATE l, F.BL_STATUS_SAFE l] ++ evFields (evBL l) ++ stepFields l)) ∧
  (∀ (s : State) (b d nd ns a : Nat) (phB : Bool), bayInst s b = true → codeGood d nd = true → d % 32 = 1 → d / 64 % 4 = a → bitOf d 5 = (if phB then 1 else 0) →
    Completes (.comparatorTrip b d nd ns) s fun t =>
      (axInst s b a = true → gateOf (axOf s b a) phB = 1 ∨ gateOf (axOf s b a) phB = 2 → 250 * inForce s (F.MOV_CHOP_T_BLANK b) ≤ ns →
        gateOf (axOf t b a) phB = 4 ∧ gateSince (axOf t b a) phB = now s ∧ (busOf t b).codes = (busOf s b).codes ++ [gateCode a phB 4] ∧
        Machine.get t (F.MOV_AX_TRIPS b a) = trunc 32 (satAdd 32 (Machine.get s (F.MOV_AX_TRIPS b a)) 1) ∧
        inner t = { inner s with axes := t.axes, buses := t.buses } ∧ OnlyAx b a s t ∧ OnlyBus b s t ∧ OnlyFields s t [F.MOV_AX_TRIPS b a]) ∧
      (axInst s b a = false ∨ (gateOf (axOf s b a) phB ≠ 1 ∧ gateOf (axOf s b a) phB ≠ 2) ∨ ns < 250 * inForce s (F.MOV_CHOP_T_BLANK b) → t = s)) ∧
  (∀ (s : State) (b d nd ns : Nat), bayInst s b = true → codeGood d nd = false →
    Completes (.comparatorTrip b d nd ns) s fun t =>
      Machine.get t (F.BL_CODE_ERR b) = trunc 32 (satAdd 32 (Machine.get s (F.BL_CODE_ERR b)) 1) ∧ Within s t [F.BL_CODE_ERR b]) ∧
  (∀ (s : State) (l d nd a : Nat), linkInst s l = true → codeGood d nd = true → d % 32 = 2 → a = d / 64 % 4 →
    Completes (.overcurrent l d nd) s fun t =>
      Raised t (evBL l) B.BL_EVT_OVERCURRENT ∧
      (32 ≤ l → Within s t (evFields (evBL l))) ∧
      (l < 32 → a < 3 → axOf t l a = { axOf s l a with gateA := 0, gateB := 0 } ∧
        inner t = { inner s with axes := t.axes } ∧ OnlyAx l a s t ∧ OnlyFields s t (evFields (evBL l))) ∧
      (l < 32 → a = 3 → motSt s l ≠ 0 → motSt s l ≠ 8 →
        motSt t l = 8 ∧ Machine.get t (F.MOT_STATUS_FAULT_CAUSE l) = 2 ∧ Raised t (evMOT l) B.MOT_EVT_OVERCURRENT ∧ (busOf t l).pwmEn = false ∧
        inner t = { inner s with buses := t.buses, spindles := t.spindles } ∧ OnlyBus l s t ∧ OnlySpin l s t ∧
        OnlyFields s t ([F.MOT_STATUS_STATE l, F.MOT_STATUS_SPEED_LOCK l, F.MOT_STATUS_FAULT_CAUSE l] ++ evFields (evBL l) ++ evFields (evMOT l)))) ∧
  (∀ (s : State) (l d nd : Nat), linkInst s l = true → codeGood d nd = false →
    Completes (.overcurrent l d nd) s fun t =>
      Machine.get t (F.BL_CODE_ERR l) = trunc 32 (satAdd 32 (Machine.get s (F.BL_CODE_ERR l)) 1) ∧ Within s t [F.BL_CODE_ERR l])

/-- O17. An extent that fits, with its compensated pulse table active, the energy and the write permit there, takes its chunks
from their home slots and begins its recording pass, or the calibration pass first where R162 asks for one and a band is left. The
end of a calibration pass whose least mean MSE is valid is counted and recorded, one that is not valid falls back, and recording
begins. At the end of a pass of bands or spares the write path turns to verify with the chunks a closure still touches among the
failed ones, and the servo jumps back. At the end of a verify a hidden group gets one more revolution, passed chunks end the
session, and a lone failed chunk takes the next spare slot. A gate that does not reopen halts the session and fails the member.
(R53, R55, R152, R154, R155, R159, R162, R163, R165, R166, R167, R169) -/
def Obligations.WriteSessions : Prop :=
  (∀ (s : State) (h hd layer fret first bands n : Nat), headInst s h = true → Machine.get s (F.WRP_STATUS_STATE h) = 0 →
    n = extentBands s h bands → extentFits s h hd layer fret first n = true →
    pulseActive s h (compTable s h (baseTable s h layer fret)) = true → extentEnergy s (n * (12 + fret) * 64) = true →
    writePermit s h = true → bitOf (Machine.get s F.THM_LASER_THR) h ≠ 1 →
    Completes (.extentRequest h hd layer fret first bands) s fun t =>
      (needsCal s h layer fret = false ∨ 4 ≤ calBandsUsed s h layer fret → PassBegun h 2 first n s t) ∧
      (needsCal s h layer fret = true → calBandsUsed s h layer fret < 4 → PassBegun h 1 (calBand fret (calBandsUsed s h layer fret)) 1 s t) ∧
      (needsCal s h layer fret = true → 4 ≤ calBandsUsed s h layer fret → Raised t (evWRP h) B.WRP_EVT_CAL_FALLBACK) ∧
      (writeOf t h).set = hd ∧ (writeOf t h).layer = layer ∧ (writeOf t h).fret = fret ∧ (writeOf t h).first = first ∧ (writeOf t h).bands = n ∧
      (writeOf t h).passed = [] ∧ (layer, fret) ∈ (writeOf t h).calDone ∧ (writeOf t h).force = false ∧
      (∀ c ∈ (writeOf t h).chunks, c.set = hd ∧ c.addr = c.home ∧ c.home ∈ extentSlots h layer fret first n ∧ addrOrd c.home = some c.row)) ∧
  (∀ (s : State) (h : Nat) (mses : List (List Nat)) (means : List Nat), headInst s h = true → Machine.get s (F.WRP_STATUS_STATE h) = 1 →
    (writeOf s h).calRead = true → mses.length = 12 → [] ∉ mses → means = mses.map (fun l => (roundQuot (l.sum : Nat) l.length).toNat) →
    Completes (.calibrationPassEnd h mses) s fun t =>
      PassBegun h 2 (writeOf s h).first (writeOf s h).bands s t ∧
      (means.foldl min (means.headD 0) ≤ Machine.get s (F.WRP_CAL_MSE_MAX h) →
        Machine.get t (F.WRP_CAL_PASS h) = trunc 32 (satAdd 32 (Machine.get s (F.WRP_CAL_PASS h)) 1) ∧ Raised t (evWRP h) B.WRP_EVT_CAL_DONE ∧
        ∀ d, discOfHead s h = some d →
          (mapFind (getDisc t d).calResults (calKeyOf (h % 2) (writeOf s h).layer (writeOf s h).fret)).isSome = true) ∧
      (Machine.get s (F.WRP_CAL_MSE_MAX h) < means.foldl min (means.headD 0) →
        Machine.get t (F.WRP_CAL_FALLBACK h) = trunc 32 (satAdd 32 (Machine.get s (F.WRP_CAL_FALLBACK h)) 1) ∧
        Raised t (evWRP h) B.WRP_EVT_CAL_FALLBACK) ∧ OnlyHead h s t) ∧
  (∀ (s : State) (h : Nat), headInst s h = true → Machine.get s (F.WRP_STATUS_STATE h) = 2 → passOver s h = true →
    Machine.get s (F.WRP_STATUS_GATE h) ≠ 1 →
    Completes (.extentBandsWritten h) s fun t =>
      Machine.get t (F.WRP_STATUS_STATE h) = 3 ∧ Machine.get t (F.WRP_STATUS_BAND h) = trunc 14 (writeOf s h).first ∧
      Machine.get t (F.WRP_STATUS_REMAIN h) = 0 ∧ (writeOf t h).bands = (writeOf s h).span ∧ (writeOf t h).closedAt = none ∧
      (writeOf t h).chunks = ((writeOf s h).chunks.filter fun c => decide (addrBand c.addr < (writeOf s h).first + (writeOf s h).span))
        ++ (writeOf s h).recheck ∧
      (writeOf t h).failed = ((writeOf s h).failed ++ stillClosed s h).filter
        (fun c => decide (addrBand c.addr < (writeOf s h).first + (writeOf s h).span)) ∧
      (4 ≤ Machine.get s (F.SV_STATUS_STATE h) → Machine.get s (F.SV_STATUS_STATE h) ≤ 8 → (servoOf t h).target
        = some (if (writeOf s h).recheck = [] then (writeOf s h).first else (writeOf s h).first - 1, (writeOf s h).layer)) ∧ OnlyHead h s t) ∧
  (∀ (s : State) (h : Nat), headInst s h = true → Machine.get s (F.WRP_STATUS_STATE h) = 3 →
    verifyOver s h ((writeOf s h).first + (writeOf s h).bands - 1) = true →
    Completes (.verifyDone h) s fun t => VerifyEnds h s t) ∧
  (∀ (s : State) (h : Nat), headInst s h = true → Machine.get s (F.WRP_STATUS_STATE h) = 4 → passOver s h = true →
    Machine.get s (F.WRP_STATUS_GATE h) ≠ 1 →
    Completes (.spareWriteRevolution h) s fun t =>
      Machine.get t (F.WRP_STATUS_STATE h) = 5 ∧
      Machine.get t (F.WRP_SPARES h) = trunc 32 (satAdd 32 (Machine.get s (F.WRP_SPARES h))
        ((writeOf s h).chunks.filter fun c => decide (c ∉ (writeOf s h).failed) && decide (c ∉ stillClosed s h)).length) ∧
      writeOf t h = { writeOf s h with failed := (writeOf s h).failed ++ stillClosed s h, closedAt := none } ∧
      (4 ≤ Machine.get s (F.SV_STATUS_STATE h) → Machine.get s (F.SV_STATUS_STATE h) ≤ 8 →
        (servoOf t h).target = some ((writeOf s h).origin, (writeOf s h).layer)) ∧ OnlyHead h s t) ∧
  (∀ (s : State) (h : Nat), headInst s h = true → Machine.get s (F.WRP_STATUS_STATE h) = 5 → verifyOver s h (writeOf s h).origin = true →
    Completes (.spareVerifyDone h) s fun t => VerifyEnds h s t) ∧
  (∀ (s : State) (h since : Nat) (b : Int), headInst s h = true → recording s h = true → (writeOf s h).closedAt = some (b, since) →
    Machine.get s (F.WRP_STATUS_GATE h) ≠ 1 → since + 5120 * Machine.get s (F.WRP_CTRL_RESUME_REVS h) ≤ tick s →
    Completes (.writeHalted h) s fun t =>
      Machine.get t (F.WRP_STATUS_STATE h) = 6 ∧ Raised t (evWRP h) B.WRP_EVT_HALTED ∧ Raised t evPAR B.PAR_EVT_MEMBER_FAILED ∧
      (writeOf t h).chunks = [] ∧ (writeOf t h).closedAt = none ∧ (linkOf t h).retrained = false ∧
      ((writeOf s h).chunks = [] → (writeOf s h).failed = [] → (writeOf s h).waiting = [] → (writeOf s h).passed = [] →
        (servoOf s h).deferred = none → noDurable s = true → (getSet s (writeOf s h).set).st ≠ 1 → (getSet s (writeOf s h).set).failed = [] →
        (getSet s (writeOf s h).set).rows = [] → bayOf h ∉ s.thm.parked →
        (∀ i < 16, rbFree s i = false ∧ Machine.get s (F.PAR_RB_SET i) ≠ (writeOf s h).set) →
        Machine.get t F.PAR_MEMBERS_FAILED = trunc 32 (satAdd 32 (Machine.get s F.PAR_MEMBERS_FAILED) 1) ∧
        (getSet t (writeOf s h).set).failed = [memberOf s h] ∧
        inner t = { inner s with
          heads := t.heads, lib := { s.lib with sets := t.lib.sets, discs := t.lib.discs, mounts := t.lib.mounts, issue := t.lib.issue },
          host := t.host } ∧
        OnlyFields s t ([F.WRP_STATUS_STATE h, F.PLP_D_DIRTY, F.PAR_MEMBERS_FAILED] ++ evFields (evWRP h) ++
          evFields evPAR ++ parFields s ++ arbourFields s)))

/-- O18. A cause of R168 closes the gate in the next superframe, and the chunks whose slots the closing bit touches go to spares.
After 16 clear superframes, with the spindle in RUN, the write clock is placed anew, the gate is to open at a slot boundary, and
the chunks of the slots passed go to spares. A codeword that is due in this superframe and not in staging sends its chunk to a
spare and the rest of it as zeros. CAL_FORCE is remembered; CLR_CNT clears the counters. A head EVENT in sequence is recorded:
codes 1 and 2 count a lost downstream codeword, a FIFO underrun sends the chunks recorded since to spares, and a late
configuration is sent again. (R73, R118, R156, R157, R159, R162, R168, R170, R172) -/
def Obligations.WriteGateAndEvents : Prop :=
  (∀ (s : State) (h : Nat), headInst s h = true → recording s h = true → Machine.get s (F.WRP_STATUS_GATE h) = 1 →
    gateCause s h = true ∨ (writeOf s h).closeReq = true →
    Completes (.gateClosure h) s fun t =>
      Machine.get t (F.WRP_STATUS_GATE h) = 0 ∧ Machine.get t (F.WRP_CLOSURES h) = trunc 32 (satAdd 32 (Machine.get s (F.WRP_CLOSURES h)) 1) ∧
      Raised t (evWRP h) B.WRP_EVT_CLOSURE ∧
      writeOf t h = { writeOf s h with
        closedAt := some (nextBit s h, tick s), closeReq := false, clear := 0, shut := true, openAt := none,
        recheck := (writeOf s h).recheck ++ verifyAgain s h,
        failed := (writeOf s h).failed ++
          (writeOf s h).chunks.filter fun c => touches s h (nextBit s h) (nextBit s h + 1) c && decide (c ∉ (writeOf s h).failed) } ∧
      WithinHead h s t ([F.WRP_STATUS_GATE h, F.WRP_CLOSURES h] ++ evFields (evWRP h))) ∧
  (∀ (s : State) (h since : Nat) (b p : Int), headInst s h = true → recording s h = true → Machine.get s (F.WRP_STATUS_GATE h) ≠ 1 →
    (writeOf s h).closedAt = some (b, since) → (writeOf s h).pos = some p → 16 ≤ (writeOf s h).clear → gateCause s h = false →
    motSt s (bayOf h) = 3 →
    Completes (.gateReopen h) s fun t =>
      writeOf t h = { writeOf s h with
        closedAt := none, pos := some (placeNow s h p), openAt := some (reopenBit s h b p),
        failed := (writeOf s h).failed ++
          (writeOf s h).chunks.filter fun c => touches s h b (reopenBit s h b p) c && decide (c ∉ (writeOf s h).failed) } ∧
      b ≤ reopenBit s h b p ∧ WithinHead h s t []) ∧
  (∀ (s : State) (h addr cw : Nat) (c : Chunk), headInst s h = true →
    Machine.get s (F.WRP_STATUS_STATE h) = 2 ∨ Machine.get s (F.WRP_STATUS_STATE h) = 4 →
    ((writeOf s h).chunks.find? fun c => decide (c.addr = addr)) = some c → cw < 9 → (linkOf s h).ds.wrAt ≤ wordFrom s h c cw →
    wordFrom s h c cw < (linkOf s h).ds.wrAt + (linkOf s h).ds.wrBits → mapFind (writeOf s h).cut addr = none →
    Completes (.underrun h addr cw) s fun t =>
      c ∈ (writeOf t h).failed ∧ mapFind (writeOf t h).cut addr = some cw ∧
      Machine.get t (F.WRP_UNDERRUN h) = trunc 32 (satAdd 32 (Machine.get s (F.WRP_UNDERRUN h)) 1) ∧
      Raised t (evWRP h) B.WRP_EVT_UNDERRUN ∧ WithinHead h s t (F.WRP_UNDERRUN h :: evFields (evWRP h))) ∧
  (∀ (s : State) (h : Nat), headInst s h = true →
    Completes (.calForce h) s fun t => writeOf t h = { writeOf s h with force := true } ∧ WithinHead h s t []) ∧
  (∀ (s : State) (h : Nat), headInst s h = true →
    Completes (.wrpClrCnt h) s fun t =>
      (∀ f ∈ [F.WRP_CHUNKS h, F.WRP_VFY_FAIL h, F.WRP_UNDERRUN h, F.WRP_CLOSURES h, F.WRP_POS_FAULT h, F.WRP_SPARES h, F.WRP_SPARE_NONE h,
        F.WRP_CAL_PASS h, F.WRP_CAL_FALLBACK h, F.WRP_DAMAGED h, F.WRP_POS_ERR_PEAK h], Machine.get t f = 0) ∧
      Within s t [F.WRP_CHUNKS h, F.WRP_VFY_FAIL h, F.WRP_UNDERRUN h, F.WRP_CLOSURES h, F.WRP_POS_FAULT h, F.WRP_SPARES h, F.WRP_SPARE_NONE h,
        F.WRP_CAL_PASS h, F.WRP_CAL_FALLBACK h, F.WRP_DAMAGED h, F.WRP_POS_ERR_PEAK h]) ∧
  (∀ (s : State) (h : Nat) (m : Msg), frontMsg s h (fun ty => decide (ty = 0x82)) = some m → m.seq = (linkOf s h).rxSeq →
    Completes (.event h) s fun t =>
      Machine.get t (F.HL_HEAD_EVT_CODE h) = trunc 8 (m.payload.getD 0 0) ∧ Machine.get t (F.HL_HEAD_EVT_DETAIL h) = trunc 8 (m.payload.getD 1 0) ∧
      Raised t (evHL h) B.HL_EVT_HEAD_EVENT ∧ (linkOf t h).rxSeq = ((linkOf s h).rxSeq + 1) % 256 ∧ (linkOf t h).ackDue = some m.seq ∧
      (m.payload.getD 0 0 = 1 ∨ m.payload.getD 0 0 = 2 →
        Machine.get t (F.HL_DS_ERR h) = trunc 32 (satAdd 32 (Machine.get s (F.HL_DS_ERR h)) 1)) ∧
      (m.payload.getD 0 0 = 7 → (linkOf s h).adcCfg ≠ none → Raised t (evCH h) B.CH_EVT_RATE_LATE ∧
        Machine.get t (F.CH_RATE_LATE h) = trunc 32 (satAdd 32 (Machine.get s (F.CH_RATE_LATE h)) 1)) ∧
      (m.payload.getD 0 0 ≠ 3 → writeOf t h = writeOf s h) ∧
      (m.payload.getD 0 0 ≠ 3 → m.payload.getD 0 0 ≠ 7 →
        linkOf t h = { linkOf s h with
          inbox := (linkOf s h).inbox.drop 1, rxSeq := ((linkOf s h).rxSeq + 1) % 256, ackDue := some m.seq } ∧
        WithinHead h s t ([F.HL_HEAD_EVT_CODE h, F.HL_HEAD_EVT_DETAIL h, F.HL_HEAD_EVT_COUNT h, F.HL_DS_ERR h] ++ evFields (evHL h)))) ∧
  (∀ (s : State) (h : Nat) (m : Msg), frontMsg s h (fun ty => decide (ty = 0x82)) = some m → m.seq ≠ (linkOf s h).rxSeq →
    Completes (.event h) s fun t =>
      linkOf t h = { linkOf s h with
        inbox := (linkOf s h).inbox.drop 1,
        ackDue := if ((linkOf s h).rxSeq + 256 - m.seq % 256) % 256 ≤ 32 then some (((linkOf s h).rxSeq + 255) % 256) else (linkOf s h).ackDue } ∧
      WithinHead h s t [])

/-- O19. A cell that its engine takes forms its output, alone or with its shadow, from setpoint, input, filter stages,
proportional, integral and derivative parts and its limits, and counts the evaluation; a deadline output is applied at once. A
cell held by the Capo or its consumer, or with an invalid source, keeps its output and counts a held sample. A miss is counted and
flagged. At a boundary the last output is kept for readers, a fixed-delay output is applied, the Capo requests and the oldest
queued coefficient of each cell come into force, and a new period begins. A coefficient write goes to both cells of a pair: at
once in a disabled cell, into the queue of an enabled one, and nowhere where a queue is full. State writes are taken while the
cell is disabled or under the Capo and rejected otherwise. (R203, R204, R205, R206, R208, R209, R212, R214, R215, R216, R217) -/
def Obligations.LoopCellSamples : Prop :=
  (∀ (s : State) (n p : Nat), n < 512 → p = primaryCell s n → sampleTaken s p = true →
    Completes (.cellEvaluate n) s fun t =>
      (∀ m ∈ pairOf s p, openSample s m = true →
        (cellOf t m).done = true ∧ (cellOf t m).cur = divRound (evalOut s p m) 65536 ∧
        Machine.get t (F.CELL_UNSAT m) = trunc 64 (ofSigned 64 (evalSum s p m)) ∧
        Machine.get t (F.CELL_VPREV m) = trunc 64 (ofSigned 64 (evalError s p m)) ∧
        Machine.get t (F.CELL_DER m) = trunc 64 (ofSigned 64 (evalRate s p m)) ∧
        Machine.get t (F.CELL_STATUS_OUT_SAT m) = (if evalOut s p m = evalSum s p m then 0 else 1) ∧ Machine.get t (F.CELL_STATUS_HELD m) = 0 ∧
        Machine.get t (F.CELL_EVALS m) = trunc 64 (satAdd 64 (Machine.get s (F.CELL_EVALS m)) 1) ∧
        (Machine.get s (F.CELL_CTRL_MODE p) = 0 → Machine.get t (F.CELL_OUT m) = trunc 32 (ofSigned 32 (divRound (evalOut s p m) 65536))) ∧
        (nodesOf s p = [] → Machine.get t (F.CELL_INT m) = trunc 64 (ofSigned 64 (evalInt s p m)))) ∧
      inner t = { inner s with loop := t.loop, heads := t.heads, spindles := t.spindles, carousels := t.carousels, axes := t.axes } ∧
      (Machine.get s (F.CELL_DEST p) = 0 → nodesOf s p = [] → WithinLoop s t ((pairOf s p).flatMap fun m =>
        [F.CELL_OUT m, F.CELL_UNSAT m, F.CELL_VPREV m, F.CELL_DER m, F.CELL_INT m, F.CELL_EVALS m, F.CELL_STATUS_OUT_SAT m,
         F.CELL_STATUS_INT_SAT m, F.CELL_STATUS_HELD m] ++ flagFields m ++ (List.range 8).flatMap fun i => [F.CELL_S1 m i, F.CELL_S2 m i]))) ∧
  (∀ (s : State) (n p : Nat), n < 512 → p = primaryCell s n → sampleOpen s p = true →
    frozen s p = true ∨ (inputsIn s p = true ∧ inputsValid s p = false) →
    Completes (.cellEvaluate n) s fun t =>
      (∀ m ∈ pairOf s p, openSample s m = true →
        Machine.get t (F.CELL_HELD m) = trunc 32 (satAdd 32 (Machine.get s (F.CELL_HELD m)) 1) ∧ Machine.get t (F.CELL_STATUS_HELD m) = 1 ∧
        (cellOf t m).done = true ∧ (cellOf t m).cur = (cellOf s m).cur ∧ Machine.get t (F.CELL_OUT m) = Machine.get s (F.CELL_OUT m) ∧
        (inputsValid s p = false → bitOf (Machine.get t (F.CELL_FLAGS m)) B.CELL_FLAGS_SRC_INVALID = 1)) ∧
      (nodesOf s p = [] → WithinLoop s t ((pairOf s p).flatMap fun m => [F.CELL_HELD m, F.CELL_STATUS_HELD m] ++ flagFields m))) ∧
  (∀ (s : State) (n : Nat), n < 512 → openSample s n = true →
    Completes (.cellMiss n) s fun t =>
      Machine.get t (F.CELL_MISS n) = trunc 32 (satAdd 32 (Machine.get s (F.CELL_MISS n)) 1) ∧
      Machine.get t (F.LE_MISSES (n / 32)) = trunc 32 (satAdd 32 (Machine.get s (F.LE_MISSES (n / 32))) 1) ∧
      Machine.get t (F.CELL_STATUS_HELD n) = 1 ∧ bitOf (Machine.get t (F.CELL_FLAGS n)) B.CELL_FLAGS_MISS = 1 ∧
      (cellOf t n).done = true ∧ (cellRole s n = 2 → cellOf t n = { cellOf s n with done := true, copy := true }) ∧
      (cellRole s n ≠ 2 → ∀ m ∈ pairOf s n, (cellOf t m).done = true) ∧
      (cellRole s n = 2 ∨ nodesOf s n = [] →
        WithinLoop s t ([F.CELL_MISS n, F.LE_MISSES (n / 32), F.CELL_STATUS_HELD n] ++ flagFields n))) ∧
  (∀ (s : State) (n : Nat), pairGood s n = true → cellRole s n ≠ 2 → boundaryDue s n = true →
    Completes (.cellBoundary n) s fun t =>
      (∀ m ∈ pairOf s n, (cellOf t m).due = true ∧ (cellOf t m).done = false ∧ (cellOf t m).pend = none ∧ (cellOf t m).at' = lastBoundary s m ∧
        OldestLands m s t ∧
        CapoFollows n m s t) ∧
      (cellOf t n).last = getI s (F.CELL_OUT n) ∧
      (Machine.get s (F.CELL_CTRL_MODE n) = 1 → Machine.get t (F.CELL_OUT n) = trunc 32 (ofSigned 32 (cellOf s n).cur)) ∧
      inner t = { inner s with loop := t.loop, heads := t.heads, spindles := t.spindles, carousels := t.carousels, axes := t.axes }) ∧
  (∀ (s : State) (n k v : Nat), pairGood s n = true → isCoef k = true → coefFull s n = [] →
    Completes (.coefficientWrite n k v) s fun t =>
      (∀ m ∈ coefCells s n, (k ≠ 8 → Machine.get t ⟨(F.CELL_SETPOINT m).off + 4 * k, 0, 32⟩ = trunc 32 v) ∧
        (k = 8 → Machine.get t (F.CELL_GAIN_SHIFT_KP_SH m) = v % 16 ∧ Machine.get t (F.CELL_GAIN_SHIFT_KI_SH m) = v / 16 % 16 ∧
          Machine.get t (F.CELL_GAIN_SHIFT_KD_SH m) = v / 256 % 16) ∧
        (Machine.get s (F.CELL_CTRL_EN m) = 0 → Machine.get t (F.CELL_IN_FORCE m k) = trunc 32 (if k = 8 then v % 4096 else v)) ∧
        (Machine.get s (F.CELL_CTRL_EN m) ≠ 0 → queueOf t (m / 32) = queueOf s (m / 32) ++ [(m, k, v)])) ∧
      WithinLoop s t ((coefCells s n).flatMap fun m =>
        coefRegs m k ++ [F.CELL_STATUS_PENDING m, F.LE_QUEUE_NOW (m / 32), F.LE_QUEUE_PEAK (m / 32)])) ∧
  (∀ (s : State) (n k v : Nat), pairGood s n = true → isCoef k = true → coefFull s n ≠ [] →
    Completes (.coefficientWrite n k v) s fun t =>
      (∀ m ∈ coefFull s n, Machine.get t (F.LE_COEF_OVF (m / 32)) = trunc 32 (satAdd 32 (Machine.get s (F.LE_COEF_OVF (m / 32))) 1) ∧
        Raised t (evLE (m / 32)) B.LE_EVT_COEF_OVF ∧ bitOf (Machine.get t (F.CELL_FLAGS m)) B.CELL_FLAGS_COEF_DROP = 1) ∧
      Within s t ((coefFull s n).flatMap fun m => F.LE_COEF_OVF (m / 32) :: flagFields m)) ∧
  (∀ (s : State) (n reg v : Nat), pairGood s n = true → reg < 19 → tileUp s (primaryCell s n / 32) = true → stateOpen s (primaryCell s n) = true →
    Completes (.stateWrite n reg v) s fun t =>
      (∀ m ∈ pairOf s n, Machine.get t ⟨(F.CELL_S1 m 0).off + 8 * reg, 0, 64⟩ = trunc 64 (ofSigned 64 (sat48 (toSigned 64 v)))) ∧
      Within s t ((pairOf s n).map fun m => ⟨(F.CELL_S1 m 0).off + 8 * reg, 0, 64⟩)) ∧
  (∀ (s : State) (n reg v : Nat), pairGood s n = true → reg < 19 → tileUp s (primaryCell s n / 32) = true → stateOpen s (primaryCell s n) = false →
    Completes (.stateWrite n reg v) s fun t =>
      bitOf (Machine.get t (F.CELL_FLAGS (primaryCell s n))) B.CELL_FLAGS_STATE_WR_REJ = 1 ∧ Within s t (flagFields (primaryCell s n)))

/-- O20. EN is written to both cells of a pair; a falling EN lets the queued writes and the Capo requests come into force. MODE,
RATE, PHASE and NBQ are taken while the cell is disabled and rejected with a flag otherwise or where R202 does not allow them, as
are the sources. The Capo set and clear act at once on a disabled cell and wait in an enabled one. CLR_STATE puts the output into
the integrator, or is rejected. A tile fault takes the tile out of service with its cause, empties its queue, is logged, and lets
the shadow of a lone primary take over; with no cell in use nothing else changes. A reset starts the self-test of a tile out of
service, and a pass returns the tile, with cleared cells where no loop waits for one. (R210, R215, R216, R217, R219, R220, R222,
R223, R226, R536) -/
def Obligations.LoopCellControlAndTiles : Prop :=
  (∀ (s : State) (n en : Nat), cellReach s n = true → pairGood s n = true → Machine.get s (F.CELL_CTRL_EN (primaryCell s n)) ≠ en % 2 →
    Completes (.cellEnable n en) s fun t =>
      (∀ m ∈ pairOf s n, Machine.get t (F.CELL_CTRL_EN m) = en % 2 ∧
        Machine.get t (F.CELL_STATUS_IN_SERVICE m) = (if tileUp s (m / 32) then en % 2 else 0) ∧ (cellOf t m).due = false ∧
        (en % 2 = 0 → Machine.get t (F.CELL_STATUS_SET_PEND m) = 0 ∧ Machine.get t (F.CELL_STATUS_CLR_PEND m) = 0 ∧
          (cellOf t m).cur = getI s (F.CELL_OUT m) ∧ (∀ e ∈ queueOf t (m / 32), e.1 ≠ m) ∧
          (Machine.get s (F.CELL_STATUS_CLR_PEND (primaryCell s n)) = 1 → Machine.get t (F.CELL_STATUS_CAPO_ACTIVE m) = 0) ∧
          (Machine.get s (F.CELL_STATUS_CLR_PEND (primaryCell s n)) ≠ 1 → Machine.get s (F.CELL_STATUS_SET_PEND (primaryCell s n)) = 1 →
            Machine.get t (F.CELL_STATUS_CAPO_ACTIVE m) = 1))) ∧
      WithinLoop s t ((pairOf s n).flatMap fun m =>
        [F.CELL_CTRL_EN m, F.CELL_STATUS_IN_SERVICE m, F.CELL_STATUS_CAPO_ACTIVE m, F.CELL_STATUS_SET_PEND m, F.CELL_STATUS_CLR_PEND m,
         F.CELL_STATUS_PENDING m, F.LE_LOAD_SUM (m / 32), F.LE_LOAD_UTIL (m / 32), F.LE_QUEUE_NOW (m / 32), F.LE_QUEUE_PEAK (m / 32)] ++
        ((queueOf s (m / 32)).map fun e => F.CELL_IN_FORCE m e.2.1))) ∧
  (∀ (s : State) (n en : Nat), cellReach s n = true → Machine.get s (F.CELL_CTRL_EN (primaryCell s n)) = en % 2 →
    Completes (.cellEnable n en) s fun t => t = s) ∧
  (∀ (s : State) (n ctrl : Nat), cellReach s n = true → pairGood s n = true → Machine.get s (F.CELL_CTRL_EN (primaryCell s n)) = 0 →
    ctrl / 32 % 8 ≤ 5 → ctrl / 256 % 64 < ratePeriod (ctrl / 32 % 8) →
    Completes (.cellConfigWrite n ctrl) s fun t =>
      (∀ m ∈ pairOf s n, Machine.get t (F.CELL_CTRL_MODE m) = ctrl / 16 % 2 ∧ Machine.get t (F.CELL_CTRL_RATE m) = ctrl / 32 % 8 ∧
        Machine.get t (F.CELL_CTRL_PHASE m) = ctrl / 256 % 64 ∧ Machine.get t (F.CELL_CTRL_NBQ m) = ctrl / 16384 % 16 ∧
        Machine.get t (F.CELL_CTRL_EN m) = ctrl % 2) ∧
      (ctrl % 16 = 0 → bitOf ctrl 18 = 0 →
        Within s t ((pairOf s n).flatMap fun m => [F.CELL_CTRL_MODE m, F.CELL_CTRL_RATE m, F.CELL_CTRL_PHASE m, F.CELL_CTRL_NBQ m]))) ∧
  (∀ (s : State) (n ctrl : Nat), cellReach s n = true → Machine.get s (F.CELL_CTRL_EN (primaryCell s n)) = 0 →
    5 < ctrl / 32 % 8 ∨ ratePeriod (ctrl / 32 % 8) ≤ ctrl / 256 % 64 →
    Completes (.cellConfigWrite n ctrl) s fun t =>
      bitOf (Machine.get t (F.CELL_FLAGS (primaryCell s n))) B.CELL_FLAGS_CFG_REJ = 1 ∧ Within s t (flagFields (primaryCell s n))) ∧
  (∀ (s : State) (n code : Nat) (sp : Bool), cellReach s n = true → pairGood s n = true →
    Completes (.cellSrcWrite n sp code) s fun t =>
      (Machine.get s (F.CELL_CTRL_EN (primaryCell s n)) ≠ 1 →
        (∀ m ∈ pairOf s n, Machine.get t (if sp then F.CELL_SP_SRC m else F.CELL_SRC m) = trunc 16 code) ∧
        Within s t ((pairOf s n).map fun m => if sp then F.CELL_SP_SRC m else F.CELL_SRC m)) ∧
      (Machine.get s (F.CELL_CTRL_EN (primaryCell s n)) = 1 →
        bitOf (Machine.get t (F.CELL_FLAGS (primaryCell s n))) B.CELL_FLAGS_CFG_REJ = 1 ∧ Within s t (flagFields (primaryCell s n)))) ∧
  (∀ (s : State) (n : Nat), cellReach s n = true → pairGood s n = true →
    Completes (.capoSet n) s fun t =>
      (∀ m ∈ pairOf s n, Machine.get t (F.CELL_STATUS_CLR_PEND m) = 0 ∧
        (if Machine.get s (F.CELL_CTRL_EN (primaryCell s n)) = 0 then Machine.get t (F.CELL_STATUS_CAPO_ACTIVE m) = 1
         else Machine.get t (F.CELL_STATUS_SET_PEND m) = 1)) ∧
      Within s t ((pairOf s n).flatMap fun m => [F.CELL_STATUS_CLR_PEND m,
        if Machine.get s (F.CELL_CTRL_EN (primaryCell s n)) = 0 then F.CELL_STATUS_CAPO_ACTIVE m else F.CELL_STATUS_SET_PEND m])) ∧
  (∀ (s : State) (n : Nat), cellReach s n = true → pairGood s n = true →
    Completes (.capoClr n) s fun t =>
      (∀ m ∈ pairOf s n, if Machine.get s (F.CELL_CTRL_EN (primaryCell s n)) = 0
        then Machine.get t (F.CELL_STATUS_CAPO_ACTIVE m) = 0 else Machine.get t (F.CELL_STATUS_CLR_PEND m) = 1) ∧
      Within s t ((pairOf s n).map fun m =>
        if Machine.get s (F.CELL_CTRL_EN (primaryCell s n)) = 0 then F.CELL_STATUS_CAPO_ACTIVE m else F.CELL_STATUS_CLR_PEND m)) ∧
  (∀ (s : State) (n : Nat), cellReach s n = true → pairGood s n = true →
    Completes (.clrState n) s fun t =>
      (stateOpen s (primaryCell s n) = true →
        (∀ m ∈ pairOf s n, Machine.get t (F.CELL_INT m) = trunc 64 (ofSigned 64 (sat48 (getI s (F.CELL_OUT m) * 65536))) ∧
          Machine.get t (F.CELL_DER m) = 0 ∧ Machine.get t (F.CELL_VPREV m) = 0 ∧
          ∀ i < 8, Machine.get t (F.CELL_S1 m i) = 0 ∧ Machine.get t (F.CELL_S2 m i) = 0) ∧
        Within s t ((pairOf s n).flatMap fun m =>
          [F.CELL_INT m, F.CELL_DER m, F.CELL_VPREV m] ++ (List.range 8).flatMap fun i => [F.CELL_S1 m i, F.CELL_S2 m i])) ∧
      (stateOpen s (primaryCell s n) = false →
        bitOf (Machine.get t (F.CELL_FLAGS (primaryCell s n))) B.CELL_FLAGS_STATE_WR_REJ = 1 ∧ Within s t (flagFields (primaryCell s n)))) ∧
  (∀ (s : State) (n : Nat), cellReach s n = true →
    Completes (.cellClrCnt n) s fun t =>
      (∀ m ∈ pairOf s n, Machine.get t (F.CELL_EVALS m) = 0 ∧ Machine.get t (F.CELL_MISS m) = 0 ∧ Machine.get t (F.CELL_HELD m) = 0) ∧
      Within s t ((pairOf s n).flatMap fun m => [F.CELL_EVALS m, F.CELL_MISS m, F.CELL_HELD m])) ∧
  (∀ (s : State) (k : Nat), k < 16 →
    Completes (.leClrCnt k) s fun t =>
      (∀ f ∈ [F.LE_COEF_OVF k, F.LE_MISMATCH k, F.LE_MISSES k, F.LE_QUEUE_PEAK k], Machine.get t f = 0) ∧
      (∀ j < 8, Machine.get t (F.LE_NODE_WIN k j) = Machine.get s (F.LE_NODE_WIN k j) % 4) ∧
      Within s t ([F.LE_COEF_OVF k, F.LE_MISMATCH k, F.LE_MISSES k, F.LE_QUEUE_PEAK k] ++ (List.range 8).map (F.LE_NODE_WIN k))) ∧
  (∀ (s : State) (k cause cell : Nat), tileUp s k = true → 1 ≤ cause → cause ≤ 4 →
    Completes (.tileFault k cause cell) s fun t =>
      Machine.get t (F.LE_TILE_STATUS_IN_SERVICE k) = 0 ∧ Machine.get t (F.LE_TILE_STATUS_CAUSE k) = cause ∧
      Machine.get t (F.LE_TILE_STATUS_CELL k) = trunc 5 cell ∧ Raised t (evLE k) B.LE_EVT_TILE_FAULT ∧ queueOf t k = [] ∧
      (∀ i < 32, Machine.get t (F.CELL_STATUS_IN_SERVICE (32 * k + i)) = 0) ∧
      ((∀ w ∈ s.windows, ¬ (w.kind = Dom.loop ∧ w.inst = k)) →
        (t.faultLog.head?.map fun e => (e.opened, e.kind, e.inst, e.source)) = some (now s, Dom.loop, k, 100 + k)) ∧
      (∀ i < 32, cellRole s (32 * k + i) = 1 → pairGood s (32 * k + i) = true → cellRole s (Machine.get s (F.CELL_STATUS_PARTNER (32 * k + i))) = 2 →
        (∀ j < 32, j ≠ i → cellRole s (32 * k + j) = 0 ∧ Machine.get s (F.CELL_CTRL_EN (32 * k + j)) = 0) →
        bitOf (Machine.get t (F.CELL_FLAGS (Machine.get s (F.CELL_STATUS_PARTNER (32 * k + i))))) B.CELL_FLAGS_TAKEOVER = 1) ∧
      (s.loop.needs = [] → (∀ i < 32, Machine.get s (F.CELL_CTRL_EN (32 * k + i)) = 0 ∧ cellRole s (32 * k + i) = 0) →
        (∀ j < 8, nodeMembers s (8 * k + j) = []) →
        inner t = { inner s with loop := t.loop, windows := t.windows, faultLog := t.faultLog, exposed := t.exposed } ∧
        OnlyFields s t ([F.LE_TILE_STATUS_IN_SERVICE k, F.LE_TILE_STATUS_CAUSE k, F.LE_TILE_STATUS_CELL k, F.LE_QUEUE_NOW k, F.EVT_FW_OPEN_NOW,
          F.EVT_FW_OPEN_TOTAL] ++ evFields (evLE k) ++
          (List.range 32).flatMap fun i => [F.CELL_STATUS_PENDING (32 * k + i), F.CELL_STATUS_IN_SERVICE (32 * k + i)]))) ∧
  (∀ (s : State) (k : Nat), k < 16 → tileUp s k = false → k ∉ s.loop.testing →
    Completes (.tileReset k) s fun t =>
      t.loop = { s.loop with testing := k :: s.loop.testing } ∧ Machine.get t F.PWR_RESET_CAUSE_KIND = 6 ∧
      WithinLoop s t [F.PWR_RESET_CAUSE_KIND]) ∧
  (∀ (s : State) (k : Nat), k < 16 → k ∈ s.loop.testing →
    Completes (.tileSelfTestPass k) s fun t =>
      tileUp t k = true ∧ Machine.get t (F.LE_TILE_STATUS_CAUSE k) = 0 ∧ t.loop.testing = s.loop.testing.erase k ∧
      (s.loop.needs = [] →
        (∀ i < 32, Machine.get t (F.CELL_CTRL_EN (32 * k + i)) = 0) ∧ t.exposed = s.exposed.filter (fun d => decide (d.1 ≠ Dom.loop)) ∧
        inner t = { inner s with loop := t.loop, loaded := t.loaded, force := t.force, exposed := t.exposed } ∧
        OnlyFieldsBeside (F.CELL_CTRL_EN (32 * k)).off ((F.CELL_CTRL_EN (32 * k)).off + 0x20000) s t
          ([F.LE_TILE_STATUS_IN_SERVICE k, F.LE_TILE_STATUS_CAUSE k, F.LE_TILE_STATUS_CELL k, F.LE_CELL_EVT k, F.LE_LOAD_SUM k, F.LE_LOAD_UTIL k]
            ++ (List.range 128).map fun m => F.LE_NODE_CFG (m / 8) (m % 8))))

/-- O21. When the step timer has run out, the commanded position moves by one microstep in the axis's direction and the
trapezoid's next speed is taken; at the target the move ends as its plan says; a reversal that reaches a soft limit stops hard.
The chopper's phases are driven again after the off-time, go to slow decay after the fast fraction, and are forced off after
T_ON_MAX. An axis at rest for HOLD_DELAY goes to the holding current. Soft limits, acceleration and speed are in force at once,
and a target outside new limits becomes the nearer one. CLR_CNT clears the bay's counters. Each leaves everything else as it was.
(R255, R257, R258, R259, R260, R261, R269, R273) -/
def Obligations.AxisStepsAndGates : Prop :=
  (∀ (s : State) (b ax : Nat) (x : Axis) (p : Int) (v : Nat), axInst s b ax = true → 2 ≤ axSt s b ax → axSt s b ax ≤ 5 → x = axOf s b ax →
    x.ticks ≠ 0 → elapsed s x.stepAt 0 = true → p = axPos s b ax + (if x.forward then 1 else -1) → v = stepSpeed s b ax x p →
    ¬ (x.plan = 2 ∧ ((x.forward = true ∧ softMax s b ax ≤ p) ∨ (x.forward = false ∧ p ≤ softMin s b ax))) →
    Completes (.stepInstant b ax) s fun t =>
      Machine.get t (F.MOV_AX_POS b ax) = trunc 32 (ofSigned 32 p) ∧
      (p ≠ x.target → v ≠ 0 →
        axOf t b ax = { x with v2 := v, ticks := stepTicks x.v2 v, stepAt := x.stepAt + stepTicks x.v2 v } ∧
        WithinAx b ax s t [F.MOV_AX_POS b ax, F.MOV_AX_SPEED b ax]) ∧
      (p = x.target → x.plan = 1 ∨ x.plan = 5 → axOf t b ax = { x with v2 := 0, ticks := 0 }) ∧
      (p = x.target → x.plan = 0 ∨ x.plan = 6 → axSt s b ax ≠ 5 → MoveEnds b ax s t) ∧
      (p = x.target → x.plan = 0 → axSt s b ax = 5 → AtRest b ax t) ∧
      (p = x.target → x.plan = 2 → ∀ q ∈ x.after, HeadsFor b ax q t) ∧
      (p = x.target → x.plan = 3 → AtRest b ax t ∧ Machine.get t (F.MOV_AX_STATUS_STATE b ax) = 1 ∧
        Machine.get t (F.MOV_AX_STATUS_RESULT b ax) = 0 ∧ Machine.get t (F.MOV_AX_STATUS_BUSY b ax) = 0) ∧
      (p = x.target → x.plan = 4 ∨ x.plan = 7 → AtRest b ax t ∧ Machine.get t (F.MOV_AX_STATUS_BUSY b ax) = 0 ∧
        Machine.get t (F.MOV_AX_STATUS_STATE b ax) = if x.plan = 4 then 1 else 6) ∧
      WithinAx b ax s t (moveFields b ax)) ∧
  (∀ (s : State) (b ax : Nat) (x : Axis) (p : Int), axInst s b ax = true → 2 ≤ axSt s b ax → axSt s b ax ≤ 5 → x = axOf s b ax →
    x.ticks ≠ 0 → elapsed s x.stepAt 0 = true → p = axPos s b ax + (if x.forward then 1 else -1) → x.plan = 2 →
    (x.forward = true ∧ softMax s b ax ≤ p) ∨ (x.forward = false ∧ p ≤ softMin s b ax) →
    Completes (.stepInstant b ax) s fun t =>
      Raised t (evMOV b) (B.MOV_EVT_SOFT_HARD + ax) ∧ Resynced b ax s t ∧ (axOf t b ax).v2 = 0 ∧
      (ax < 2 → ∀ q ∈ x.after, HeadsFor b ax q t) ∧
      (ax = 2 → Machine.get t (F.MOV_AX_STATUS_POS_VALID b ax) = 0 ∧ Machine.get t (F.MOV_AX_STATUS_STATE b ax) = 1) ∧
      WithinAx b ax s t (moveFields b ax)) ∧
  (∀ (s : State) (b ax : Nat) (phB : Bool), axInst s b ax = true → axSt s b ax ≠ 0 → 3 ≤ gateOf (axOf s b ax) phB →
    elapsed s (gateSince (axOf s b ax) phB) (inForce s (F.MOV_CHOP_T_OFF b) * 625 / 4) = true →
    Completes (.offTimeEnd b ax phB) s fun t =>
      GateSent b ax phB (driveGate (if phB then (axOf s b ax).refB else (axOf s b ax).refA)) s t ∧
      (∀ f ∈ chopFields b, inForce t f = Machine.get s f) ∧
      inner t = { inner s with axes := t.axes, buses := t.buses, force := t.force } ∧ OnlyFields s t []) ∧
  (∀ (s : State) (b ax fast : Nat) (phB : Bool), axInst s b ax = true → gateOf (axOf s b ax) phB = 4 →
    fast = (if (if phB then (axOf s b ax).fallB else (axOf s b ax).fallA) then inForce s (F.MOV_CHOP_FAST_FALL b) else inForce s (F.MOV_CHOP_FAST_RISE b)) →
    elapsed s (gateSince (axOf s b ax) phB) (inForce s (F.MOV_CHOP_T_OFF b) * fast * 625 / 1024) = true →
    Completes (.fastDecayEnd b ax phB) s fun t =>
      GateSent b ax phB 3 s t ∧ gateSince (axOf t b ax) phB = gateSince (axOf s b ax) phB ∧
      inner t = { inner s with axes := t.axes, buses := t.buses } ∧ OnlyFields s t []) ∧
  (∀ (s : State) (b ax : Nat) (phB : Bool), axInst s b ax = true → gateOf (axOf s b ax) phB = 1 ∨ gateOf (axOf s b ax) phB = 2 →
    inForce s (F.MOV_CHOP_T_ON_MAX b) ≠ 0 → elapsed s (gateSince (axOf s b ax) phB) (inForce s (F.MOV_CHOP_T_ON_MAX b) * 3125 / 2) = true →
    Completes (.tOnMaxExpiry b ax phB) s fun t =>
      GateSent b ax phB 4 s t ∧ gateSince (axOf t b ax) phB = now s ∧
      Machine.get t (F.MOV_AX_MAX_ON b ax) = trunc 32 (satAdd 32 (Machine.get s (F.MOV_AX_MAX_ON b ax)) 1) ∧
      inner t = { inner s with axes := t.axes, buses := t.buses } ∧ OnlyFields s t [F.MOV_AX_MAX_ON b ax]) ∧
  (∀ (s : State) (b ax : Nat), axInst s b ax = true → axSt s b ax ≠ 0 → (axOf s b ax).v2 = 0 → (axOf s b ax).ticks = 0 →
    elapsed s (axOf s b ax).restAt (Machine.get s (F.MOV_AX_CURRENT_HOLD_DELAY b ax) * 625000) = true →
    Completes (.holdCurrent b ax) s fun t =>
      Machine.get t (F.MOV_AX_STATUS_HOLDING b ax) = 1 ∧ Within s t [F.MOV_AX_STATUS_HOLDING b ax]) ∧
  (∀ (s : State) (b ax value : Nat) (upper : Bool) (lim p q : Int), axInst s b ax = true → lim = toSigned 32 (trunc 32 value) →
    p = (axOf s b ax).after.getD (axOf s b ax).target →
    q = (if upper then clampInt (softMin s b ax) lim p else clampInt lim (softMax s b ax) p) →
    Completes (.softLimitWrite b ax upper value) s fun t =>
      Machine.get t (if upper then F.MOV_AX_SOFT_MAX b ax else F.MOV_AX_SOFT_MIN b ax) = trunc 32 value ∧
      (axSt s b ax = 2 ∨ axSt s b ax = 5 → (axOf s b ax).plan = 0 ∨ (axOf s b ax).plan = 2 → (axOf s b ax).ticks ≠ 0 → q ≠ p → HeadsFor b ax q t) ∧
      ((axSt s b ax ≠ 2 ∧ axSt s b ax ≠ 5) ∨ (axOf s b ax).ticks = 0 ∨ q = p →
        Within s t [if upper then F.MOV_AX_SOFT_MAX b ax else F.MOV_AX_SOFT_MIN b ax]) ∧
      WithinAx b ax s t [F.MOV_AX_SOFT_MAX b ax, F.MOV_AX_SOFT_MIN b ax, F.MOV_AX_STATUS_HOLDING b ax]) ∧
  (∀ (s : State) (b ax acc dec r : Nat), axInst s b ax = true → r = ((axOf s b ax).target - axPos s b ax).natAbs →
    Completes (.accDecWrite b ax acc dec) s fun t =>
      Machine.get t (F.MOV_AX_ACC_ACC b ax) = trunc 16 acc ∧ Machine.get t (F.MOV_AX_ACC_DEC b ax) = trunc 16 dec ∧
      ((axOf s b ax).plan = 4 → axOf t b ax = axOf s b ax) ∧
      ((axOf s b ax).plan ≠ 4 → (axOf s b ax).ticks = 0 ∨ (axOf s b ax).v2 < (r - 1) * (2000000 * (axOf s b ax).dec) →
        axOf t b ax = { axOf s b ax with dec := trunc 16 dec * axScale s b ax }) ∧
      ((axOf s b ax).plan ≠ 4 → (axOf s b ax).ticks ≠ 0 → (r - 1) * (2000000 * (axOf s b ax).dec) ≤ (axOf s b ax).v2 →
        axOf t b ax = { axOf s b ax with
          dec := max (trunc 16 dec * axScale s b ax) (((axOf s b ax).v2 + (2000000 * r - 1)) / max 1 (2000000 * r)) }) ∧
      WithinAx b ax s t [F.MOV_AX_ACC_ACC b ax, F.MOV_AX_ACC_DEC b ax]) ∧
  (∀ (s : State) (b ax v : Nat), axInst s b ax = true →
    Completes (.vmaxWrite b ax v) s fun t =>
      Machine.get t (F.MOV_AX_VMAX b ax) = trunc 24 v ∧ Within s t [F.MOV_AX_VMAX b ax]) ∧
  (∀ (s : State) (b : Nat), bayInst s b = true →
    Completes (.movClrCnt b) s fun t =>
      (∀ a < 3, Machine.get t (F.MOV_AX_MOVES b a) = 0 ∧ Machine.get t (F.MOV_AX_STALLS b a) = 0 ∧
        Machine.get t (F.MOV_AX_LIMIT_STOPS b a) = 0 ∧ Machine.get t (F.MOV_AX_TRIPS b a) = 0 ∧ Machine.get t (F.MOV_AX_MAX_ON b a) = 0) ∧
      Within s t ([0, 1, 2].flatMap fun a => [F.MOV_AX_MOVES b a, F.MOV_AX_STALLS b a, F.MOV_AX_LIMIT_STOPS b a, F.MOV_AX_TRIPS b a,
        F.MOV_AX_MAX_ON b a]))

/-- O22. MOVE heads for a target within the soft limits, or ends at once where the axis stands there, and is refused in OFF,
HOMING or FAULT, outside the limits or toward an active limit. STOP ends a command at rest at once and decelerates a moving axis
at DEC; during homing the position becomes invalid. HOME runs toward the inner limit, or off it, from OFF too where the drivers
may be switched on. FOLLOW, RELEASE and CLEAR_FAULT change the axis's state or are refused with result 2, as is another OP. An
enabled axis leaves OFF while the stepper enable is set. Each leaves everything else as it was. (R259, R260, R262, R265, R266,
R268, R269, R270, R272, R275) -/
def Obligations.AxisCommands : Prop :=
  (∀ (s : State) (b ax : Nat) (p : Int), axInst s b ax = true → axSt s b ax ≠ 0 → axSt s b ax ≠ 4 → axSt s b ax ≠ 6 →
    p = getI s (F.MOV_AX_TARGET b ax) → softMin s b ax ≤ p → p ≤ softMax s b ax → towardLimit s b ax p = false →
    Completes (.axisMove b ax) s fun t =>
      Machine.get t (F.MOV_AX_CMD_OP b ax) = 0 ∧
      (p ≠ axPos s b ax ∨ (axOf s b ax).v2 ≠ 0 →
        Machine.get t (F.MOV_AX_STATUS_STATE b ax) = 2 ∧ Machine.get t (F.MOV_AX_STATUS_BUSY b ax) = 1 ∧ HeadsFor b ax p t ∧
        (axOf t b ax).follow = ((axOf s b ax).follow || decide (axSt s b ax = 5)) ∧
        WithinAx b ax s t [F.MOV_AX_CMD_OP b ax, F.MOV_AX_STATUS_STATE b ax, F.MOV_AX_STATUS_BUSY b ax, F.MOV_AX_STATUS_HOLDING b ax]) ∧
      (p ≠ axPos s b ax → (axOf s b ax).v2 = 0 → ax < 2 →
        (axOf t b ax).target = p ∧ (axOf t b ax).forward = decide (axPos s b ax < p) ∧ (axOf t b ax).plan = 0 ∧
        (axOf t b ax).ticks = stepTicks 0 (2000000 * axAcc s b ax) ∧ Machine.get t (F.MOV_AX_STATUS_HOLDING b ax) = 0) ∧
      (p = axPos s b ax → (axOf s b ax).v2 = 0 →
        AtRest b ax t ∧ Machine.get t (F.MOV_AX_STATUS_BUSY b ax) = 0 ∧ Machine.get t (F.MOV_AX_STATUS_RESULT b ax) = 0 ∧
        Machine.get t (F.MOV_AX_MOVES b ax) = trunc 32 (satAdd 32 (Machine.get s (F.MOV_AX_MOVES b ax)) 1) ∧
        Raised t (evMOV b) (B.MOV_EVT_MOVE_DONE + ax) ∧ WithinAx b ax s t (F.MOV_AX_CMD_OP b ax :: moveFields b ax))) ∧
  (∀ (s : State) (b ax : Nat) (p : Int), axInst s b ax = true → p = getI s (F.MOV_AX_TARGET b ax) →
    axSt s b ax = 0 ∨ axSt s b ax = 4 ∨ axSt s b ax = 6 ∨ p < softMin s b ax ∨ softMax s b ax < p ∨ towardLimit s b ax p = true →
    Completes (.axisMove b ax) s fun t =>
      Machine.get t (F.MOV_AX_CMD_OP b ax) = 0 ∧
      Machine.get t (F.MOV_AX_STATUS_RESULT b ax)
        = (if axSt s b ax ≠ 0 ∧ axSt s b ax ≠ 4 ∧ axSt s b ax ≠ 6 ∧ (p < softMin s b ax ∨ softMax s b ax < p) then 1 else 2) ∧
      Within s t [F.MOV_AX_CMD_OP b ax, F.MOV_AX_STATUS_RESULT b ax]) ∧
  (∀ (s : State) (b ax : Nat), axInst s b ax = true → axSt s b ax ≠ 0 → axSt s b ax ≠ 6 →
    Completes (.axisStop b ax) s fun t =>
      Machine.get t (F.MOV_AX_CMD_OP b ax) = 1 ∧ (axOf t b ax).follow = false ∧
      (axSt s b ax = 4 → Machine.get t (F.MOV_AX_STATUS_POS_VALID b ax) = 0) ∧
      ((axOf s b ax).v2 = 0 → AtRest b ax t ∧ Machine.get t (F.MOV_AX_STATUS_STATE b ax) = 1 ∧
        Machine.get t (F.MOV_AX_STATUS_BUSY b ax) = 0 ∧ Machine.get t (F.MOV_AX_STATUS_RESULT b ax) = 0) ∧
      ((axOf s b ax).v2 ≠ 0 → Machine.get t (F.MOV_AX_STATUS_STATE b ax) = 3 ∧ Brakes b ax (axDec s b ax) 3 s t) ∧
      WithinSled b ax s t (F.MOV_AX_CMD_OP b ax :: F.MOV_AX_STATUS_POS_VALID b ax :: axFields b ax)) ∧
  (∀ (s : State) (b ax : Nat), axInst s b ax = true → axSt s b ax = 0 ∨ axSt s b ax = 6 →
    Completes (.axisStop b ax) s fun t =>
      Machine.get t (F.MOV_AX_CMD_OP b ax) = 1 ∧ Machine.get t (F.MOV_AX_STATUS_RESULT b ax) = 2 ∧
      Within s t [F.MOV_AX_CMD_OP b ax, F.MOV_AX_STATUS_RESULT b ax]) ∧
  (∀ (s : State) (b ax : Nat) (on : Bool), axInst s b ax = true → on = inputActive s b (limitIn ax false) →
    axSt s b ax ≠ 0 ∨ (Machine.get s (F.MOV_AX_CTRL_EN b ax) ≠ 0 ∧ (busOf s b).stepEn = true) →
    Completes (.axisHome b ax) s fun t =>
      Machine.get t (F.MOV_AX_CMD_OP b ax) = 2 ∧ Machine.get t (F.MOV_AX_STATUS_STATE b ax) = 4 ∧
      Machine.get t (F.MOV_AX_STATUS_BUSY b ax) = 1 ∧ Machine.get t (F.MOV_AX_STATUS_HOLDING b ax) = 0 ∧
      (axOf t b ax).forward = on ∧ (axOf t b ax).plan = (if on then 6 else 5) ∧ (axOf t b ax).follow = false ∧
      (axOf t b ax).homeFrom = axPos s b ax ∧ (axOf t b ax).ticks = stepTicks 0 (2000000 * axAcc s b ax) ∧
      (axSt s b ax ≠ 0 →
        WithinSled b ax s t [F.MOV_AX_CMD_OP b ax, F.MOV_AX_STATUS_STATE b ax, F.MOV_AX_STATUS_BUSY b ax, F.MOV_AX_STATUS_HOLDING b ax]) ∧
      (axSt s b ax = 0 → (axOf t b ax).gateA = driveGate (axOf t b ax).refA ∧ (axOf t b ax).gateB = driveGate (axOf t b ax).refB ∧
        (∀ f ∈ chopFields b, inForce t f = Machine.get s f) ∧
        inner t = { inner s with axes := t.axes, heads := t.heads, buses := t.buses, force := t.force } ∧ OnlyAx b ax s t ∧ OnlySled b ax s t ∧
        OnlyBus b s t ∧
        OnlyFields s t [F.MOV_AX_CMD_OP b ax, F.MOV_AX_STATUS_STATE b ax, F.MOV_AX_STATUS_BUSY b ax, F.MOV_AX_STATUS_HOLDING b ax])) ∧
  (∀ (s : State) (b ax : Nat), axInst s b ax = true → axSt s b ax = 0 →
    Machine.get s (F.MOV_AX_CTRL_EN b ax) = 0 ∨ (busOf s b).stepEn = false →
    Completes (.axisHome b ax) s fun t =>
      Machine.get t (F.MOV_AX_CMD_OP b ax) = 2 ∧ Machine.get t (F.MOV_AX_STATUS_RESULT b ax) = 2 ∧
      Within s t [F.MOV_AX_CMD_OP b ax, F.MOV_AX_STATUS_RESULT b ax]) ∧
  (∀ (s : State) (b ax : Nat), axInst s b ax = true →
    Completes (.axisFollow b ax) s fun t =>
      Machine.get t (F.MOV_AX_CMD_OP b ax) = 3 ∧
      (ax < 2 → axSt s b ax = 1 →
        Machine.get t (F.MOV_AX_STATUS_STATE b ax) = 5 ∧ Machine.get t (F.MOV_AX_STATUS_BUSY b ax) = 0 ∧
        Machine.get t (F.MOV_AX_STATUS_RESULT b ax) = 0 ∧ axOf t b ax = { axOf s b ax with follow := true } ∧
        (servoOf t (sledHead b ax)).following = true) ∧
      (ax = 2 ∨ axSt s b ax ≠ 1 → Machine.get t (F.MOV_AX_STATUS_RESULT b ax) = 2 ∧ Within s t [F.MOV_AX_CMD_OP b ax, F.MOV_AX_STATUS_RESULT b ax]) ∧
      WithinSled b ax s t [F.MOV_AX_CMD_OP b ax, F.MOV_AX_STATUS_STATE b ax, F.MOV_AX_STATUS_BUSY b ax, F.MOV_AX_STATUS_RESULT b ax]) ∧
  (∀ (s : State) (b ax : Nat), axInst s b ax = true →
    Completes (.axisRelease b ax) s fun t =>
      Machine.get t (F.MOV_AX_CMD_OP b ax) = 4 ∧ Machine.get t (F.MOV_AX_STATUS_STATE b ax) = 0 ∧
      Machine.get t (F.MOV_AX_STATUS_BUSY b ax) = 0 ∧ Machine.get t (F.MOV_AX_STATUS_RESULT b ax) = 0 ∧ AtRest b ax t ∧
      (axOf t b ax).gateA = 0 ∧ (axOf t b ax).gateB = 0 ∧ (axOf t b ax).follow = false ∧ WithinSled b ax s t (F.MOV_AX_CMD_OP b ax :: axFields b ax)) ∧
  (∀ (s : State) (b ax : Nat), axInst s b ax = true →
    Completes (.axisClearFault b ax) s fun t =>
      Machine.get t (F.MOV_AX_CMD_OP b ax) = 5 ∧
      (∀ i < 6, bitOf (Machine.get t (F.MOV_INPUTS_STUCK b)) i
        = (if bitOf (Machine.get s (F.MOV_INPUTS_STUCK b)) i = 1 ∧ inputActive s b i = true then 1 else 0)) ∧
      (axSt s b ax = 6 → axStuck t b ax = false →
        Machine.get t (F.MOV_AX_STATUS_STATE b ax) = 1 ∧ Machine.get t (F.MOV_AX_STATUS_BUSY b ax) = 0 ∧ Machine.get t (F.MOV_AX_STATUS_RESULT b ax) = 0) ∧
      (axSt s b ax ≠ 6 ∨ axStuck t b ax = true →
        Machine.get t (F.MOV_AX_STATUS_RESULT b ax) = 2 ∧ Machine.get t (F.MOV_AX_STATUS_STATE b ax) = Machine.get s (F.MOV_AX_STATUS_STATE b ax)) ∧
      Within s t [F.MOV_AX_CMD_OP b ax, F.MOV_AX_STATUS_STATE b ax, F.MOV_AX_STATUS_BUSY b ax, F.MOV_AX_STATUS_RESULT b ax,
        F.MOV_INPUTS_STUCK b]) ∧
  (∀ (s : State) (b ax op : Nat), axInst s b ax = true → 6 ≤ op % 8 →
    Completes (.axisCmdRefused b ax op) s fun t =>
      Machine.get t (F.MOV_AX_CMD_OP b ax) = trunc 3 op ∧ Machine.get t (F.MOV_AX_STATUS_RESULT b ax) = 2 ∧
      Within s t [F.MOV_AX_CMD_OP b ax, F.MOV_AX_STATUS_RESULT b ax]) ∧
  (∀ (s : State) (b ax en : Nat), axInst s b ax = true →
    Completes (.axisEnable b ax en) s fun t =>
      Machine.get t (F.MOV_AX_CTRL_EN b ax) = trunc 1 en ∧
      (en % 2 = 1 → axSt s b ax = 0 → (busOf s b).stepEn = true →
        Machine.get t (F.MOV_AX_STATUS_STATE b ax) = 1 ∧ Resynced b ax s t ∧
        (axOf t b ax).gateA = driveGate (axOf t b ax).refA ∧ (axOf t b ax).gateB = driveGate (axOf t b ax).refB ∧
        ∀ f ∈ chopFields b, inForce t f = Machine.get s f) ∧
      ((busOf s b).stepEn = false → Within s t [F.MOV_AX_CTRL_EN b ax]) ∧
      (axSt s b ax ≠ 0 → axOf t b ax = axOf s b ax ∧ Machine.get t (F.MOV_AX_STATUS_STATE b ax) = Machine.get s (F.MOV_AX_STATUS_STATE b ax)) ∧
      inner t = { inner s with axes := t.axes, force := t.force, buses := t.buses } ∧ OnlyBayAx b s t ∧ OnlyBus b s t ∧
      OnlyFields s t (F.MOV_AX_CTRL_EN b ax :: [0, 1, 2].flatMap fun a =>
        [F.MOV_AX_STATUS_STATE b a, F.MOV_AX_POS b a, F.MOV_AX_STATUS_POS_VALID b a]))

/-- O23. A raw level that has held for its debounce time becomes the debounced one; a limit that becomes active reverses a homing
axis, ends a loader's move at its end, or stops a motion toward it, and a released inner limit sets the position while homing.
Chatter makes an input active until it ends. A stuck input, a stall and a failed homing end the motion with their events and
states. Each leaves everything else as it was. (R253, R259, R263, R264, R265, R266, R267, R268, R269) -/
def Obligations.AxisInputsAndFaults : Prop :=
  (∀ (s : State) (l i lv : Nat), inputInst s l i = true → elapsed s (mapGet (fun _ => 0) (busOf s l).changed i) (debounceTime s l) = true →
    lv = bitOf (busOf s l).raw i →
    Completes (.inputDebounced l i) s fun t =>
      bitOf (busOf t l).deb i = lv ∧ (∀ j < 16, j ≠ i → bitOf (busOf t l).deb j = bitOf (busOf s l).deb j) ∧ (busOf t l).raw = (busOf s l).raw ∧
      (l < 32 → bitOf (Machine.get t (F.MOV_INPUTS_LEVELS l)) i = lv) ∧
      (32 ≤ l → inner t = { inner s with buses := t.buses } ∧ OnlyFields s t []) ∧
      (l < 32 → i < 6 → inputActive s l i = false → lv = 1 → LimitActs l i s t) ∧
      (l < 32 → i < 6 → inputActive s l i = true → lv = 0 → bitOf (Machine.get s (F.MOV_INPUTS_CHATTER l)) i = 0 → LimitReleased l i s t) ∧
      (l < 32 → i = 6 → inputActive s l i = true → lv = 0 → bitOf (Machine.get s (F.MOV_INPUTS_CHATTER l)) i = 0 → axSt s l 2 = 2 → Stalls l 2 s t) ∧
      (l < 32 → inputActive s l i = inputActive t l i → inner t = { inner s with buses := t.buses } ∧ OnlyFields s t [F.MOV_INPUTS_LEVELS l]) ∧
      (l < 32 → inner t = { inner s with buses := t.buses, axes := t.axes, heads := t.heads } ∧ OnlyBayAx l s t ∧
        OnlyFields s t (F.MOV_INPUTS_LEVELS l :: [0, 1, 2].flatMap fun a =>
          F.MOV_AX_LIMIT_STOPS l a :: F.MOV_AX_STALLS l a :: F.MOV_AX_ENC_POS l a :: moveFields l a)) ∧ OnlyBus l s t) ∧
  (∀ (s : State) (b i : Nat), bayInst s b = true → i < 7 → Machine.get s (F.MOV_DEBOUNCE_CHATTER_LIM b) < toggleSum s b i →
    bitOf (Machine.get s (F.MOV_INPUTS_CHATTER b)) i ≠ 1 →
    Completes (.chatter b i) s fun t =>
      Machine.get t (F.MOV_INPUTS_CHATTER b) = trunc 7 (Machine.get s (F.MOV_INPUTS_CHATTER b) ||| 2 ^ i) ∧ inputActive t b i = true ∧
      Raised t (evMOV b) B.MOV_EVT_CHATTER ∧ (i < 6 → inputActive s b i = false → LimitActs b i s t) ∧
      (i = 6 ∨ inputActive s b i = true → Within s t (F.MOV_INPUTS_CHATTER b :: evFields (evMOV b))) ∧
      WithinSled b (i / 2) s t (F.MOV_INPUTS_CHATTER b :: F.MOV_AX_LIMIT_STOPS b (i / 2) :: moveFields b (i / 2))) ∧
  (∀ (s : State) (b i : Nat), bayInst s b = true → i < 7 → bitOf (Machine.get s (F.MOV_INPUTS_CHATTER b)) i ≠ 0 →
    elapsed s (mapGet (fun _ => 0) (busOf s b).changed i) (Machine.get s (F.MOV_DEBOUNCE_CHATTER_CLR b) * 156250) = true →
    Completes (.chatterEnd b i) s fun t =>
      bitOf (Machine.get t (F.MOV_INPUTS_CHATTER b)) i = 0 ∧
      busOf t b = { busOf s b with toggles := mapErase (busOf s b).toggles i } ∧
      (i < 6 → bitOf (Machine.get s (F.MOV_INPUTS_LEVELS b)) i ≠ 1 → LimitReleased b i s t) ∧
      (i = 6 ∨ bitOf (Machine.get s (F.MOV_INPUTS_LEVELS b)) i = 1 →
        inner t = { inner s with buses := t.buses } ∧ OnlyFields s t [F.MOV_INPUTS_CHATTER b]) ∧
      inner t = { inner s with buses := t.buses, axes := t.axes } ∧ OnlyBus b s t ∧ OnlyAx b (i / 2) s t ∧
      OnlyFields s t (F.MOV_INPUTS_CHATTER b :: F.MOV_AX_ENC_POS b (i / 2) :: moveFields b (i / 2))) ∧
  (∀ (s : State) (b i a : Nat), bayInst s b = true → i < 6 → a = i / 2 → inputActive s b i = true →
    inputActive s b (limitIn a (decide (i % 2 = 0))) = true ∨
      ((axOf s b a).leftAt.any fun p => decide ((if a = 2 then axMm s b a 2 else axMm s b a 1 / 5) ≤ ((axPos s b a - p).natAbs : Int))) = true →
    Completes (.stuckInput b i) s fun t =>
      bitOf (Machine.get t (F.MOV_INPUTS_STUCK b)) i = 1 ∧ Raised t (evMOV b) B.MOV_EVT_STUCK ∧ (axOf t b a).follow = false ∧
      (axSt s b a ≠ 0 → (axOf s b a).v2 = 0 → AtRest b a t ∧ Machine.get t (F.MOV_AX_STATUS_STATE b a) = 6 ∧
        Machine.get t (F.MOV_AX_STATUS_BUSY b a) = 0) ∧
      (axSt s b a ≠ 0 → axSt s b a ≠ 6 → (axOf s b a).v2 = 0 → Raised t (evMOV b) B.MOV_EVT_FAULT) ∧
      (axSt s b a ≠ 0 → (axOf s b a).v2 ≠ 0 → Brakes b a (axDec s b a) 7 s t) ∧
      WithinSled b a s t (F.MOV_INPUTS_STUCK b :: axFields b a)) ∧
  (∀ (s : State) (b ax : Nat), axInst s b ax = true → axSt s b ax ≠ 0 →
    (ax < 2 ∧ 0 < (axOf s b ax).missRun ∧ Machine.get s (F.MOV_AX_STALL_PERIODS b ax) ≤ (axOf s b ax).missRun) ∨
      (ax = 2 ∧ ((axOf s b ax).end2.any fun e =>
        decide (axMm s b ax 2 ≤ (if (axOf s b ax).forward then axPos s b ax - e else e - axPos s b ax))) = true) →
    Completes (.stall b ax) s fun t =>
      Stalls b ax s t ∧ WithinSled b ax s t (F.MOV_AX_STALLS b ax :: moveFields b ax)) ∧
  (∀ (s : State) (b ax : Nat), axInst s b ax = true → axSt s b ax = 4 → (axOf s b ax).plan = 5 →
    axMm s b ax (travelMm ax + 2) ≤ ((axPos s b ax - (axOf s b ax).homeFrom).natAbs : Int) →
    Completes (.homingFail b ax) s fun t =>
      Machine.get t (F.MOV_AX_STATUS_STATE b ax) = 6 ∧ Machine.get t (F.MOV_AX_STATUS_BUSY b ax) = 0 ∧
      Raised t (evMOV b) B.MOV_EVT_FAULT ∧ AtRest b ax t ∧
      WithinAx b ax s t [F.MOV_AX_STATUS_STATE b ax, F.MOV_AX_STATUS_BUSY b ax, F.MOV_AX_SPEED b ax, F.MOV_EVT b, F.EVT_LOG_HEAD])

/-- O24. An observer loss by causes 1 to 4 is recorded, counted and raised, the lenses retract, and the next period's packets go
out with no I_q asked for, the spindle staying for one period more; a lost link coasts until it is up again, two repeats on a link
that is up are caught at once. A recapture inside the window leads to CONFIRM, with an overvoltage latched to COAST; CONFIRM
without a loss leads to RUN with a recorded target; a failed catch coasts; COAST leads to BRAKE and BRAKE to OFF; ALIGN leads to
RAMP, the hand-over to RUN and a failed ramp back to ALIGN, then to FAULT with cause 1; speed lock is set after its 100 periods; a
STOP deceleration ends in BRAKE. Nothing else changes. (R195, R229, R230, R232, R236, R237, R238, R239, R240, R248) -/
def Obligations.SpindleStates : Prop :=
  (∀ (s : State) (b cause : Nat), bayInst s b = true → cause ≠ 5 → lossHolds s b cause = true → (spinOf s b).losing = 0 →
    Completes (.observerLoss b cause) s fun t =>
      Machine.get t (F.MOT_STATUS_LOSS_CAUSE b) = cause ∧ Machine.get t (F.MOT_STATUS_OBS_LOCK b) = 0 ∧
      Machine.get t (F.MOT_OBS_LOSS b) = trunc 32 (satAdd 32 (Machine.get s (F.MOT_OBS_LOSS b)) 1) ∧ Raised t (evMOT b) B.MOT_EVT_OBS_LOSS ∧
      (cause = 3 → Raised t (evMOT b) B.MOT_EVT_WOB_MISMATCH) ∧ BayRetracts b s t ∧ motSt t b = motSt s b ∧ (spinOf t b).losing = 2 ∧
      (spinOf t b).lossAt = now s ∧ (spinOf t b).lastWob = Machine.get s (F.MOT_WOB_SPEED b) ∧ (spinOf t b).iq = 0 ∧
      busOf t b = { busOf s b with sent := (busOf s b).sent ++ periodPackets b s t } ∧
      WithinBay b s t [F.MOT_STATUS_LOSS_CAUSE b, F.MOT_STATUS_OBS_LOCK b, F.MOT_OBS_LOSS b, F.MOT_SHIFTED b, F.MOT_PREDICTED b]) ∧
  (∀ (s : State) (b : Nat), bayInst s b = true → lossHolds s b 5 = true →
    Completes (.observerLoss b 5) s fun t =>
      Machine.get t (F.MOT_STATUS_LOSS_CAUSE b) = 5 ∧ Machine.get t (F.MOT_STATUS_OBS_LOCK b) = 0 ∧
      Machine.get t (F.MOT_OBS_LOSS b) = trunc 32 (satAdd 32 (Machine.get s (F.MOT_OBS_LOSS b)) 1) ∧ Raised t (evMOT b) B.MOT_EVT_OBS_LOSS ∧
      BayRetracts b s t ∧ (spinOf t b).lossAt = now s ∧ (spinOf t b).lastWob = Machine.get s (F.MOT_WOB_SPEED b) ∧
      (motSt s b ≠ 8 → linkUp s b = false → MotEnters b 6 s t ∧ (spinOf t b).relink = true) ∧
      (motSt s b ≠ 8 → linkUp s b = true → motSt t b = 4 ∧ busOf t b = { busOf s b with pwmEn := false, repeats := 0 } ∧ (spinOf t b).stateAt = now s) ∧
      (motSt s b = 8 → motSt t b = 8 ∧ busOf t b = busOf s b) ∧
      WithinBay b s t [F.MOT_STATUS_LOSS_CAUSE b, F.MOT_STATUS_OBS_LOCK b, F.MOT_OBS_LOSS b]) ∧
  (∀ (s : State) (b rpm10 : Nat), bayInst s b = true → motSt s b = 4 → 12 ≤ (spinOf s b).crossRun →
    rpm10 = crossSpeed s b 11 ((spinOf s b).crosses.headD 0 - (spinOf s b).crosses.getLastD 0) → inWindow s b rpm10 = true →
    Completes (.recapture b) s fun t =>
      (isSet s (F.CMOT_STATUS_OV_LATCHED (carOfBay s b)) = false →
        MotEnters b 5 s t ∧ Machine.get t (F.MOT_SPEED b) = trunc 32 rpm10 ∧ Machine.get t (F.MOT_STATUS_OBS_LOCK b) = 1 ∧
        (spinOf t b).recapAt = some ((spinOf s b).recapAt.getD (now s))) ∧
      (isSet s (F.CMOT_STATUS_OV_LATCHED (carOfBay s b)) = true → MotEnters b 6 s t ∧ (spinOf t b).recorded = none ∧ WithinMot b s t (motFields b)) ∧
      WithinMot b s t ([F.MOT_SPEED b, F.MOT_STATUS_OBS_LOCK b] ++ motFields b)) ∧
  (∀ (s : State) (b : Nat), bayInst s b = true → motSt s b = 5 → (spinOf s b).losing = 0 →
    elapsed s (spinOf s b).stateAt (Machine.get s (F.MOT_CATCH_CONFIRM b) * 156250) = true →
    Completes (.confirmEnd b) s fun t =>
      MotEnters b 3 s t ∧ Machine.get t (F.MOT_RECAPTURE b) = trunc 32 (satAdd 32 (Machine.get s (F.MOT_RECAPTURE b)) 1) ∧
      Raised t (evMOT b) B.MOT_EVT_RECAPTURE ∧ (spinOf t b).target = (spinOf s b).recorded.getD (spinOf s b).target ∧
      (spinOf t b).recorded = none ∧ WithinMot b s t (F.MOT_RECAPTURE b :: motFields b)) ∧
  (∀ (s : State) (b : Nat), bayInst s b = true → motSt s b = 4 →
    elapsed s (spinOf s b).stateAt (Machine.get s (F.MOT_CATCH_CATCH_MAX b) * 625000) = true →
    Completes (.catchFail b) s fun t =>
      MotEnters b 6 s t ∧ Machine.get t (F.MOT_CATCH_FAIL b) = trunc 32 (satAdd 32 (Machine.get s (F.MOT_CATCH_FAIL b)) 1) ∧
      Raised t (evMOT b) B.MOT_EVT_CATCH_FAIL ∧ (spinOf t b).recorded = none ∧ (spinOf t b).relink = false ∧
      WithinMot b s t (F.MOT_CATCH_FAIL b :: motFields b)) ∧
  (∀ (s : State) (b : Nat), bayInst s b = true → motSt s b = 6 →
    (2 ≤ (spinOf s b).crossRun ∧ (spinOf s b).crossRpm ≤ 10 * Machine.get s (F.MOT_BRAKE_BRAKE_RPM b)) ∨
      elapsed s (spinOf s b).stateAt (Machine.get s (F.MOT_CATCH_COAST_MAX b) * 156250000) = true →
    Completes (.coastEnd b) s fun t => MotEnters b 7 s t ∧ WithinMot b s t (motFields b)) ∧
  (∀ (s : State) (b : Nat), bayInst s b = true → motSt s b = 7 → spinStill s b = true →
    Completes (.brakeEnd b) s fun t =>
      MotEnters b 0 s t ∧ Machine.get t (F.MOT_SPEED b) = 0 ∧ Raised t (evMOT b) B.MOT_EVT_STOPPED ∧ (spinOf t b).target = 0 ∧
      (spinOf t b).ref = 0 ∧ (spinOf t b).relink = false ∧ WithinMot b s t (F.MOT_SPEED b :: motFields b)) ∧
  (∀ (s : State) (b : Nat), bayInst s b = true → motSt s b = 1 →
    elapsed s (spinOf s b).stateAt (Machine.get s (F.MOT_START_T_ALIGN b) * 625000) = true →
    Completes (.alignEnd b) s fun t => MotEnters b 2 s t ∧ (spinOf t b).rampAcc = 0 ∧ WithinMot b s t (motFields b)) ∧
  (∀ (s : State) (b : Nat), bayInst s b = true → motSt s b = 2 → Machine.get s (F.MOT_STATUS_OBS_LOCK b) ≠ 0 →
    40 ≤ (spinOf s b).handRun →
    Completes (.spindleHandover b) s fun t =>
      MotEnters b 3 s t ∧ Machine.get t (F.MOT_STARTS_OK b) = trunc 16 (satAdd 16 (Machine.get s (F.MOT_STARTS_OK b)) 1) ∧
      (spinOf t b).rampFails = 0 ∧ WithinMot b s t (F.MOT_STARTS_OK b :: motFields b)) ∧
  (∀ (s : State) (b : Nat), bayInst s b = true → motSt s b = 2 → elapsed s (spinOf s b).stateAt 156250000 = true →
    Completes (.rampFail b) s fun t =>
      Machine.get t (F.MOT_STARTS_FAIL b) = trunc 16 (satAdd 16 (Machine.get s (F.MOT_STARTS_FAIL b)) 1) ∧
      Raised t (evMOT b) B.MOT_EVT_START_FAIL ∧
      ((spinOf s b).rampFails = 0 → MotEnters b 1 s t ∧ (spinOf t b).rampFails = 1 ∧
        Machine.get t (F.MOT_STATUS_FAULT_CAUSE b) = Machine.get s (F.MOT_STATUS_FAULT_CAUSE b)) ∧
      ((spinOf s b).rampFails ≠ 0 → MotEnters b 8 s t ∧ (spinOf t b).rampFails = 0 ∧ Machine.get t (F.MOT_STATUS_FAULT_CAUSE b) = 1) ∧
      WithinMot b s t ([F.MOT_STARTS_FAIL b, F.MOT_STATUS_FAULT_CAUSE b] ++ motFields b)) ∧
  (∀ (s : State) (b : Nat), bayInst s b = true → motSt s b = 3 → 100 ≤ (spinOf s b).lockRun →
    Machine.get s (F.MOT_STATUS_SPEED_LOCK b) ≠ 1 →
    Completes (.speedLock b) s fun t =>
      Machine.get t (F.MOT_STATUS_SPEED_LOCK b) = 1 ∧ Raised t (evMOT b) B.MOT_EVT_SPEED_LOCK ∧
      Within s t (F.MOT_STATUS_SPEED_LOCK b :: evFields (evMOT b))) ∧
  (∀ (s : State) (b : Nat), bayInst s b = true → motSt s b = 3 → (spinOf s b).stopping = true →
    (spinOf s b).ref ≤ 40000 * Machine.get s (F.MOT_BRAKE_BRAKE_RPM b) →
    Completes (.stopDecelEnd b) s fun t => MotEnters b 7 s t ∧ WithinMot b s t (motFields b))

/-- O25. With EN set and a target in range, SET_SPEED starts a spindle at rest whose link is up, changes the target in ALIGN, RAMP
and RUN, is recorded in CATCH and CONFIRM and catches a spindle that coasts above BRAKE_RPM; without EN it ends with result 2, out
of range with result 1. STOP decelerates from RUN, or coasts there where regeneration is blocked, brakes from ALIGN and RAMP and
coasts from CATCH and CONFIRM; COAST switches the inverter off; both retract the lenses. CLEAR_FAULT leaves FAULT once the spindle
stands; a reserved OP ends with result 2; EN written 0 coasts, and CLR_CNT clears the counters. A chopper fault blocks
regeneration on the leaf's bays and coasts those in RUN or CONFIRM; it is cleared with the bus below 50 V. OV_CLR with the bus
below 54 V returns the stepper enables of the links that are up, whose enabled axes leave OFF. Nothing else changes. (R195, R228,
R239, R240, R242, R243, R248, R249, R250, R270) -/
def Obligations.SpindleCommandsAndMotorBus : Prop :=
  (∀ (s : State) (b : Nat), bayInst s b = true → Machine.get s (F.MOT_CTRL_EN b) ≠ 0 → targetGood s b = true →
    Completes (.setSpeed b) s fun t =>
      (motSt s b = 0 → Machine.get s (F.MOT_CMD_TARGET b) ≠ 0 → linkUp s b = true → isSet s (F.CMOT_STATUS_OV_LATCHED (carOfBay s b)) = false →
        MotAnswers b 0 0 t ∧ MotEnters b 1 s t ∧ (spinOf t b).target = Machine.get s (F.MOT_CMD_TARGET b) ∧ (spinOf t b).ref = 0 ∧
        (spinOf t b).rampFails = 0) ∧
      (motSt s b = 1 ∨ motSt s b = 2 → MotAnswers b 0 0 t ∧ spinOf t b = { spinOf s b with target := Machine.get s (F.MOT_CMD_TARGET b) }) ∧
      (motSt s b = 3 → MotAnswers b 0 0 t ∧ Machine.get t (F.MOT_STATUS_SPEED_LOCK b) = 0 ∧
        spinOf t b = { spinOf s b with target := Machine.get s (F.MOT_CMD_TARGET b), lockRun := 0, stopping := false }) ∧
      (motSt s b = 4 ∨ motSt s b = 5 → MotAnswers b 0 0 t ∧
        spinOf t b = { spinOf s b with recorded := some (Machine.get s (F.MOT_CMD_TARGET b)) }) ∧
      (motSt s b = 6 → 10 * Machine.get s (F.MOT_BRAKE_BRAKE_RPM b) < (spinOf s b).crossRpm → linkUp s b = true →
        MotAnswers b 0 0 t ∧ MotEnters b 4 s t ∧ (spinOf t b).recorded = some (Machine.get s (F.MOT_CMD_TARGET b))) ∧
      (7 ≤ motSt s b ∨ (motSt s b = 0 ∧ Machine.get s (F.MOT_CMD_TARGET b) ≠ 0 ∧ linkUp s b = false) →
        MotAnswers b 0 2 t ∧ Within s t (motCmdFields b)) ∧
      WithinMot b s t (motCmdFields b ++ motFields b)) ∧
  (∀ (s : State) (b : Nat), bayInst s b = true → Machine.get s (F.MOT_CTRL_EN b) = 0 ∨ targetGood s b = false →
    Completes (.setSpeed b) s fun t =>
      MotAnswers b 0 (if Machine.get s (F.MOT_CTRL_EN b) = 0 then 2 else 1) t ∧ Within s t (motCmdFields b)) ∧
  (∀ (s : State) (b : Nat), bayInst s b = true → Machine.get s (F.MOT_CTRL_EN b) ≠ 0 → motSt s b ≠ 8 →
    Completes (.spindleStop b) s fun t =>
      MotAnswers b 1 0 t ∧ BayRetracts b s t ∧
      (motSt s b = 3 → isSet s (F.MOT_STATUS_REGEN_BLOCKED b) = false →
        motSt t b = 3 ∧ Machine.get t (F.MOT_STATUS_SPEED_LOCK b) = 0 ∧ spinOf t b = { spinOf s b with stopping := true, lockRun := 0 }) ∧
      (motSt s b = 3 → isSet s (F.MOT_STATUS_REGEN_BLOCKED b) = true → MotEnters b 6 s t) ∧
      (motSt s b = 1 ∨ motSt s b = 2 → MotEnters b 7 s t) ∧ (motSt s b = 4 ∨ motSt s b = 5 → MotEnters b 6 s t) ∧
      (motSt s b = 0 ∨ 6 ≤ motSt s b → motSt t b = motSt s b ∧ spinOf t b = spinOf s b ∧ busOf t b = busOf s b) ∧
      WithinBay b s t (motCmdFields b)) ∧
  (∀ (s : State) (b : Nat), bayInst s b = true → Machine.get s (F.MOT_CTRL_EN b) ≠ 0 → motSt s b ≠ 8 →
    Completes (.spindleCoast b) s fun t =>
      MotAnswers b 2 0 t ∧ BayRetracts b s t ∧ (motSt s b ≠ 0 → motSt s b ≠ 6 → MotEnters b 6 s t ∧ (spinOf t b).recorded = none) ∧
      (motSt s b = 0 ∨ motSt s b = 6 → motSt t b = motSt s b ∧ spinOf t b = spinOf s b ∧ busOf t b = busOf s b) ∧
      WithinBay b s t (motCmdFields b)) ∧
  (∀ (s : State) (b : Nat), bayInst s b = true → motSt s b = 8 → spinStill s b = true →
    Completes (.motClearFault b) s fun t =>
      MotAnswers b 3 0 t ∧ MotEnters b 0 s t ∧ Machine.get t (F.MOT_STATUS_FAULT_CAUSE b) = 0 ∧
      WithinMot b s t (F.MOT_STATUS_FAULT_CAUSE b :: (motCmdFields b ++ motFields b))) ∧
  (∀ (s : State) (b op : Nat), bayInst s b = true → 4 ≤ op % 8 →
    Completes (.motCmdRefused b op) s fun t => MotAnswers b (op % 8) 2 t ∧ Within s t (motCmdFields b)) ∧
  (∀ (s : State) (b en : Nat), bayInst s b = true →
    Completes (.motEnable b en) s fun t =>
      Machine.get t (F.MOT_CTRL_EN b) = trunc 1 en ∧ (en % 2 = 1 ∨ motSt s b = 0 → Within s t [F.MOT_CTRL_EN b]) ∧
      (en % 2 = 0 → motSt s b ≠ 0 → BayRetracts b s t ∧ (motSt s b ≠ 6 → motSt s b ≠ 8 → MotEnters b 6 s t)) ∧
      WithinBay b s t [F.MOT_CTRL_EN b]) ∧
  (∀ (s : State) (b : Nat), bayInst s b = true →
    Completes (.motClrCnt b) s fun t =>
      (∀ f ∈ [F.MOT_OBS_LOSS b, F.MOT_RECAPTURE b, F.MOT_CATCH_FAIL b, F.MOT_PREDICTED b, F.MOT_SHIFTED b, F.MOT_STARTS_OK b,
        F.MOT_STARTS_FAIL b, F.MOT_RESID_PEAK b], Machine.get t f = 0) ∧
      Within s t [F.MOT_OBS_LOSS b, F.MOT_RECAPTURE b, F.MOT_CATCH_FAIL b, F.MOT_PREDICTED b, F.MOT_SHIFTED b, F.MOT_STARTS_OK b,
        F.MOT_STARTS_FAIL b, F.MOT_RESID_PEAK b]) ∧
  (∀ (s : State) (c : Nat), carInst s c = true → 2 ≤ (crsOf s c).lowRun ∨ 4 ≤ (crsOf s c).riseRun →
    isSet s (F.CMOT_STATUS_CHOP_FAULT c) = false →
    Completes (.chopperFault c) s fun t =>
      Machine.get t (F.CMOT_STATUS_CHOP_FAULT c) = 1 ∧ Raised t (evCMOT c) B.CMOT_EVT_CHOP_FAULT ∧
      Machine.get t (F.CMOT_BUS_EVENTS_CHOP c) = trunc 16 (satAdd 16 (Machine.get s (F.CMOT_BUS_EVENTS_CHOP c)) 1) ∧
      (∀ b ∈ baysOfCar s c, Machine.get t (F.MOT_STATUS_REGEN_BLOCKED b) = 1 ∧
        motSt t b = (if motSt s b = 3 ∨ motSt s b = 5 then 6 else motSt s b) ∧
        (motSt s b = 3 ∨ motSt s b = 5 → (busOf t b).pwmEn = false ∧ Machine.get t (F.MOT_STATUS_SPEED_LOCK b) = 0)) ∧
      inner t = { inner s with spindles := t.spindles, buses := t.buses } ∧
      OnlyFields s t ([F.CMOT_STATUS_CHOP_FAULT c, F.CMOT_BUS_EVENTS_CHOP c] ++ evFields (evCMOT c) ++
        (baysOfCar s c).map F.MOT_STATUS_REGEN_BLOCKED ++ (baysOfCar s c).flatMap motFields)) ∧
  (∀ (s : State) (c : Nat), carInst s c = true → Machine.get s (F.CMOT_BUS_STATUS_V c) < 50000 →
    Completes (.chopFaultClr c) s fun t =>
      Machine.get t (F.CMOT_STATUS_CHOP_FAULT c) = 0 ∧ (∀ b ∈ baysOfCar s c, Machine.get t (F.MOT_STATUS_REGEN_BLOCKED b) = 0) ∧
      crsOf t c = { crsOf s c with lowRun := 0, riseRun := 0 } ∧
      WithinCrs c s t (F.CMOT_STATUS_CHOP_FAULT c :: (baysOfCar s c).map F.MOT_STATUS_REGEN_BLOCKED)) ∧
  (∀ (s : State) (c : Nat), carInst s c = true → Machine.get s (F.CMOT_BUS_STATUS_V c) < 54000 →
    Machine.get s (F.CMOT_STATUS_OV_LATCHED c) ≠ 0 →
    Completes (.ovClr c) s fun t =>
      Machine.get t (F.CMOT_STATUS_OV_LATCHED c) = 0 ∧ (∀ b ∈ baysOfCar s c, linkUp s b = true → (busOf t b).stepEn = true ∧
        ∀ a < 3, Machine.get s (F.MOV_AX_CTRL_EN b a) = 1 → axSt t b a ≠ 0) ∧
      (∀ j, (j ∉ baysOfCar s c ∨ linkUp s j = false) → busOf t j = busOf s j) ∧
      (∀ j i, j ∉ baysOfCar s c → i < 4 → axOf t j i = axOf s j i) ∧
      inner t = { inner s with buses := t.buses, axes := t.axes, force := t.force } ∧
      OnlyFields s t (F.CMOT_STATUS_OV_LATCHED c :: (baysOfCar s c).flatMap stepFields))

/-- O26. Enabling runs the alignment, whose end leaves the carousel in HOLD with its electrical offset; disabling switches the
inverter off. MOVE starts toward the slot by the direction of R245, is pending where it reverses the present motion, and is
refused with its result otherwise; STOP decelerates and drops a pending reversal; HOME turns forward from HOLD, and replaces a
pending reversal; RELEASE switches the inverter off at rest; a reserved OP or DIR ends with result 2. The home edge sets the
position and HOMED; homing without an edge is a fault. The end of a move reports the slot; the end of a STOP does without the
event; a following error is a fault; a pending MOVE or HOME starts at rest; the interlock stops the carousel until it clears;
CLR_CNT clears the counters. Nothing else changes. (R244, R245, R246, R247, R248, R251, R252, R271) -/
def Obligations.CarouselCommandsAndMoves : Prop :=
  (∀ (s : State) (c en : Nat), carInst s c = true →
    Completes (.carouselEnable c en) s fun t =>
      Machine.get t (F.CMOT_CTRL_EN c) = trunc 1 en ∧
      (en % 2 = 1 → isSet s (F.CMOT_STATUS_OV_LATCHED c) = false → Machine.get s (F.CMOT_CTRL_EN c) ≠ 1 ∨ (crsOf s c).inverter = false →
        crsOf t c = { crsOf s c with inverter := true, offset := false, alignAt := now s, intD := 0, intQ := 0 } ∧ cmotSt t c = cmotSt s c) ∧
      (en % 2 = 1 → isSet s (F.CMOT_STATUS_OV_LATCHED c) = true → Within s t [F.CMOT_CTRL_EN c]) ∧
      (en % 2 = 0 → cmotSt t c = 0 ∧ (crsOf t c).inverter = false ∧ (crsOf t c).offset = false ∧
        Machine.get t (F.CMOT_CMD_STATUS_BUSY c) = 0 ∧ Machine.get t (F.CMOT_STATUS_REVERSAL_PENDING c) = 0) ∧
      WithinCrs c s t [F.CMOT_CTRL_EN c, F.CMOT_STATUS_STATE c, F.CMOT_STATUS_REVERSAL_PENDING c, F.CMOT_CMD_STATUS_BUSY c]) ∧
  (∀ (s : State) (c : Nat), carInst s c = true → Machine.get s (F.CMOT_CTRL_EN c) ≠ 0 → (crsOf s c).inverter = true →
    (crsOf s c).offset = false → elapsed s (crsOf s c).alignAt 31250000 = true →
    Completes (.carouselAlignDone c) s fun t =>
      cmotSt t c = 2 ∧ (crsOf t c).offset = true ∧
      crsOf t c = { crsOf s c with offset := true, elOfs := (crsOf t c).elOfs, profV := 0, profPos := carPos s c * profScale } ∧
      (crsOf t c).elOfs = (-(roundQuot (carPos s c * (65536 * Machine.get s (F.CMOT_ENC_POLES c) : Nat)) (Machine.get s (F.CMOT_ENC_COUNTS c))) % 65536).toNat ∧
      WithinCrs c s t [F.CMOT_STATUS_STATE c]) ∧
  (∀ (s : State) (c slot : Nat) (fwd : Bool), carInst s c = true → slot = Machine.get s (F.CMOT_CMD_TARGET c) →
    moveRefused s c slot = none → fwd = goForward s c slot (Machine.get s (F.CMOT_CMD_DIR c)) →
    Completes (.carouselMove c) s fun t =>
      CmotAnswers c 0 0 1 t ∧
      (opposes s c fwd = false → isSet s (F.CMOT_STATUS_REVERSAL_PENDING c) = false →
        cmotSt t c = 3 ∧ crsOf t c = { crsOf s c with target := moveTarget s c slot fwd, slot := slot }) ∧
      (opposes s c fwd = true ∨ isSet s (F.CMOT_STATUS_REVERSAL_PENDING c) = true →
        cmotSt t c = 4 ∧ Machine.get t (F.CMOT_STATUS_REVERSAL_PENDING c) = 1 ∧ Raised t (evCMOT c) B.CMOT_EVT_REVERSAL_REFUSED ∧
        crsOf t c = { crsOf s c with reverse := some (0, slot, Machine.get s (F.CMOT_CMD_DIR c)), restRun := 0 }) ∧
      WithinCrs c s t ([F.CMOT_STATUS_STATE c, F.CMOT_STATUS_REVERSAL_PENDING c] ++ evFields (evCMOT c) ++ cmotCmdFields c)) ∧
  (∀ (s : State) (c r : Nat), carInst s c = true → moveRefused s c (Machine.get s (F.CMOT_CMD_TARGET c)) = some r →
    Completes (.carouselMove c) s fun t => CmotAnswers c 0 r 0 t ∧ Within s t (cmotCmdFields c)) ∧
  (∀ (s : State) (c : Nat), carInst s c = true → cmotSt s c ≠ 0 → cmotSt s c ≠ 6 →
    Completes (.carouselStop c) s fun t =>
      CmotAnswers c 1 0 0 t ∧ cmotSt t c = (if cmotSt s c = 1 ∨ cmotSt s c = 3 then 4 else cmotSt s c) ∧
      Machine.get t (F.CMOT_STATUS_REVERSAL_PENDING c) = 0 ∧ crsOf t c = { crsOf s c with reverse := none, homing := false } ∧
      WithinCrs c s t ([F.CMOT_STATUS_STATE c, F.CMOT_STATUS_REVERSAL_PENDING c] ++ cmotCmdFields c)) ∧
  (∀ (s : State) (c : Nat), carInst s c = true → cmotSt s c = 2 ∨ isSet s (F.CMOT_STATUS_REVERSAL_PENDING c) = true →
    Completes (.carouselHome c) s fun t =>
      CmotAnswers c 2 0 1 t ∧
      (isSet s (F.CMOT_STATUS_REVERSAL_PENDING c) = false →
        cmotSt t c = 1 ∧ crsOf t c = { crsOf s c with homing := true, edgePos := none, homeFrom := carPos s c }) ∧
      (isSet s (F.CMOT_STATUS_REVERSAL_PENDING c) = true → cmotSt t c = cmotSt s c ∧ crsOf t c = { crsOf s c with reverse := some (2, 0, 1) }) ∧
      WithinCrs c s t (F.CMOT_STATUS_STATE c :: cmotCmdFields c)) ∧
  (∀ (s : State) (c : Nat), carInst s c = true → cmotSt s c = 0 ∨ cmotSt s c = 2 →
    Completes (.carouselRelease c) s fun t =>
      CmotAnswers c 3 0 0 t ∧ cmotSt t c = 0 ∧ Machine.get t (F.CMOT_STATUS_REVERSAL_PENDING c) = 0 ∧
      crsOf t c = { crsOf s c with inverter := false, reverse := none, homing := false } ∧
      WithinCrs c s t ([F.CMOT_STATUS_STATE c, F.CMOT_STATUS_REVERSAL_PENDING c] ++ cmotCmdFields c)) ∧
  (∀ (s : State) (c op dir : Nat), carInst s c = true → 4 ≤ op % 8 ∨ dir % 4 = 3 →
    Completes (.carouselCmdRefused c op dir) s fun t => CmotAnswers c (op % 8) 2 0 t ∧ Within s t (cmotCmdFields c)) ∧
  (∀ (s : State) (c : Nat) (e d : Int), carInst s c = true → cmotSt s c = 1 → (crsOf s c).edgePos = some e →
    bitOf (busOf s (32 + c)).deb 0 ≠ 0 → d = getI s (F.CMOT_HOME_OFS c) - e →
    Completes (.homeEdge c) s fun t =>
      Machine.get t (F.CMOT_POS c) = trunc 32 (ofSigned 32 (carPos s c + d)) ∧ Machine.get t (F.CMOT_STATUS_HOMED c) = 1 ∧
      cmotSt t c = 4 ∧ Machine.get t (F.CMOT_CMD_STATUS_BUSY c) = 0 ∧
      crsOf t c = { crsOf s c with
        homing := false, edgePos := none, encOfs := (crsOf s c).encOfs + d, profPos := (crsOf s c).profPos + d * profScale } ∧
      WithinCrs c s t [F.CMOT_POS c, F.CMOT_STATUS_HOMED c, F.CMOT_STATUS_STATE c, F.CMOT_CMD_STATUS_BUSY c]) ∧
  (∀ (s : State) (c : Nat), carInst s c = true → cmotSt s c = 1 →
    (11 * Machine.get s (F.CMOT_ENC_COUNTS c) : Nat) ≤ 10 * (carPos s c - (crsOf s c).homeFrom) →
    Completes (.homeFail c) s fun t =>
      cmotSt t c = 6 ∧ Raised t (evCMOT c) B.CMOT_EVT_HOME_FAIL ∧ Machine.get t (F.CMOT_CMD_STATUS_BUSY c) = 0 ∧
      crsOf t c = { crsOf s c with inverter := false, reverse := none, homing := false } ∧
      WithinCrs c s t ([F.CMOT_STATUS_STATE c, F.CMOT_STATUS_REVERSAL_PENDING c, F.CMOT_CMD_STATUS_BUSY c] ++ evFields (evCMOT c))) ∧
  (∀ (s : State) (c : Nat), carInst s c = true → isSet s (F.CMOT_STATUS_REVERSAL_PENDING c) = false → (crsOf s c).profV = 0 →
    cmotSt s c = 4 ∨ (cmotSt s c = 3 ∧ (crsOf s c).profPos = (crsOf s c).target * profScale) →
    Completes (.moveDone c) s fun t =>
      cmotSt t c = 2 ∧ Machine.get t (F.CMOT_CMD_STATUS_BUSY c) = 0 ∧
      (cmotSt s c = 3 → Machine.get t (F.CMOT_STATUS_SLOT c) = trunc 9 (crsOf s c).slot ∧
        Machine.get t (F.CMOT_MOVES c) = trunc 32 (satAdd 32 (Machine.get s (F.CMOT_MOVES c)) 1) ∧ Raised t (evCMOT c) B.CMOT_EVT_MOVE_DONE) ∧
      (cmotSt s c = 4 → Machine.get t (F.CMOT_STATUS_SLOT c) = trunc 9 (slotAt s c) ∧
        Within s t [F.CMOT_STATUS_STATE c, F.CMOT_STATUS_SLOT c, F.CMOT_CMD_STATUS_BUSY c]) ∧
      Within s t ([F.CMOT_STATUS_STATE c, F.CMOT_STATUS_SLOT c, F.CMOT_CMD_STATUS_BUSY c, F.CMOT_MOVES c] ++ evFields (evCMOT c))) ∧
  (∀ (s : State) (c : Nat), carInst s c = true → 2000 * profScale.natAbs < (carPos s c * profScale - (crsOf s c).profPos).natAbs →
    cmotSt s c = 1 ∨ cmotSt s c = 3 ∨ cmotSt s c = 4 →
    Completes (.followErr c) s fun t =>
      cmotSt t c = 6 ∧ Raised t (evCMOT c) B.CMOT_EVT_FOLLOW_ERR ∧ Machine.get t (F.CMOT_CMD_STATUS_BUSY c) = 0 ∧
      crsOf t c = { crsOf s c with inverter := false, reverse := none, homing := false } ∧
      WithinCrs c s t ([F.CMOT_STATUS_STATE c, F.CMOT_STATUS_REVERSAL_PENDING c, F.CMOT_CMD_STATUS_BUSY c] ++ evFields (evCMOT c))) ∧
  (∀ (s : State) (c op slot dir : Nat), carInst s c = true → (crsOf s c).reverse = some (op, slot, dir) → 10 ≤ (crsOf s c).restRun →
    (crsOf s c).profV = 0 →
    Completes (.reversalStart c) s fun t =>
      Machine.get t (F.CMOT_STATUS_REVERSAL_PENDING c) = 0 ∧ Machine.get t (F.CMOT_CMD_STATUS_BUSY c) = 1 ∧
      (op ≠ 2 → cmotSt t c = 3 ∧
        crsOf t c = { crsOf s c with reverse := none, target := moveTarget s c slot (goForward s c slot dir), slot := slot }) ∧
      (op = 2 → cmotSt t c = 1 ∧ crsOf t c = { crsOf s c with reverse := none, homing := true, edgePos := none, homeFrom := carPos s c }) ∧
      WithinCrs c s t [F.CMOT_STATUS_STATE c, F.CMOT_STATUS_REVERSAL_PENDING c, F.CMOT_CMD_STATUS_BUSY c]) ∧
  (∀ (s : State) (c : Nat), carInst s c = true → bitOf (busOf s (32 + c)).deb 1 ≠ 0 → 1 ≤ cmotSt s c → cmotSt s c ≤ 4 →
    Completes (.interlock c) s fun t =>
      cmotSt t c = 5 ∧ Raised t (evCMOT c) B.CMOT_EVT_INTERLOCK ∧ Machine.get t (F.CMOT_CMD_STATUS_BUSY c) = 0 ∧
      Machine.get t (F.CMOT_STATUS_REVERSAL_PENDING c) = 0 ∧ crsOf t c = { crsOf s c with reverse := none, homing := false } ∧
      WithinCrs c s t ([F.CMOT_STATUS_STATE c, F.CMOT_STATUS_REVERSAL_PENDING c, F.CMOT_CMD_STATUS_BUSY c] ++ evFields (evCMOT c))) ∧
  (∀ (s : State) (c : Nat), carInst s c = true → cmotSt s c = 5 → bitOf (busOf s (32 + c)).deb 1 ≠ 1 →
    Completes (.interlockClear c) s fun t =>
      cmotSt t c = 2 ∧ Machine.get t (F.CMOT_STATUS_SLOT c) = trunc 9 (slotAt s c) ∧
      Within s t [F.CMOT_STATUS_STATE c, F.CMOT_STATUS_SLOT c]) ∧
  (∀ (s : State) (c : Nat), carInst s c = true →
    Completes (.cmotClrCnt c) s fun t =>
      (∀ f ∈ [F.CMOT_MOVES c, F.CMOT_BUS_EVENTS_CHOP c, F.CMOT_BUS_EVENTS_OV c, F.CMOT_BUS_PEAK c], Machine.get t f = 0) ∧
      Within s t [F.CMOT_MOVES c, F.CMOT_BUS_EVENTS_CHOP c, F.CMOT_BUS_EVENTS_OV c, F.CMOT_BUS_PEAK c])

/-- O27. MOUNT takes the chosen bay for a disc that carries the work its leaf serves next, and turns the carousel toward it. The
phases of R271 follow each other: the loader at its extended end with the slot there, the sleds home, carries the disc in; a
loaded tray spins up and the sleds go to the band; at speed lock the heads pull in with calibration; then the record areas are
scanned and the mount is counted, or foreign media leave again; the spindle at rest, the slot there and the loader out end the
dismount, after which the bay is free and its heads know nothing of the disc. An empty tray and a failed phase fail the mount,
which is counted for bay and disc, the first time putting the bay out of service. A dismount by relief, idleness or the mount hold
starts at once where no extent is under way and waits for it otherwise. Nothing else changes. (R33, R51, R52, R170, R240, R271,
R295, R296, R297, R300, R301, R321) -/
def Obligations.MountsAndDismounts : Prop :=
  (∀ (s : State) (d b c slot : Nat), mountable s d = true → chooseBay s (leafOfDisc s d) d = some b → c = carOfBay s b →
    slot = (d % 288 + Config.baySlot b) % 288 →
    Completes (.mount d) s fun t =>
      mountOf t b = { mountOf s b with disc := d, phase := 1, band := firstBandOf s d, leave := false, empty := false } ∧
      (moveRefused s c slot = none → opposes s c (goForward s c slot 0) = false →
        isSet s (F.CMOT_STATUS_REVERSAL_PENDING c) = false → cmotSt t c = 3 ∧ (crsOf t c).slot = slot) ∧
      inner t = { inner s with lib := { s.lib with mounts := t.lib.mounts }, carousels := t.carousels } ∧ OnlyMount b s t ∧
      OnlyCrs c s t ∧
      OnlyFields s t ([F.CMOT_CMD_TARGET c, F.CMOT_CMD_DIR c, F.CMOT_STATUS_STATE c, F.CMOT_STATUS_REVERSAL_PENDING c] ++
        cmotCmdFields c ++ evFields (evCMOT c))) ∧
  (∀ (s : State) (b : Nat) (areas : List (Nat × List SlotRead)), bayInst s b = true → (mountOf s b).phase = 1 →
    slotThere s b (mountOf s b).disc = true → loaderAt s b true = true →
    2 * (axPos s b 0).natAbs ≤ axMm s b 0 1 → 2 * (axPos s b 1).natAbs ≤ axMm s b 1 1 →
    Completes (.mountPhaseEnd b true areas) s fun t =>
      mountOf t b = { mountOf s b with phase := 2 } ∧ t = axMoveTo b 2 0 (updMount b (fun m => { m with phase := 2 }) s) ∧
      OnlyMount b s t ∧ OnlyAx b 2 s t ∧ OnlyFields s t (moveFields b 2)) ∧
  (∀ (s : State) (b : Nat) (areas : List (Nat × List SlotRead)), bayInst s b = true → (mountOf s b).phase = 2 → loaderAt s b false = true →
    Completes (.mountPhaseEnd b true areas) s fun t =>
      (inputActive s b 6 = true →
        mountOf t b = { mountOf s b with phase := 3 } ∧
        t = axMoveTo b 1 (bandSteps s b 1 (mountOf s b).band) (axMoveTo b 0 (bandSteps s b 0 (mountOf s b).band)
          (setSpeed b 9600 (updMount b (fun m => { m with phase := 3 }) s)))) ∧
      (inputActive s b 6 = false → (mountOf s b).disc ∉ s.host.importQ → t = mountFailed b s) ∧
      (inputActive s b 6 = false → (mountOf s b).disc ∈ s.host.importQ → (mountOf t b).empty = true ∧ (mountOf t b).phase = 6) ∧
      OnlyMount b s t) ∧
  (∀ (s : State) (b : Nat) (areas : List (Nat × List SlotRead)), bayInst s b = true → (mountOf s b).phase = 3 →
    Machine.get s (F.MOT_STATUS_SPEED_LOCK b) ≠ 0 →
    Completes (.mountPhaseEnd b true areas) s fun t =>
      mountOf t b = { mountOf s b with phase := 4 } ∧
      t = forAll ([2 * b, 2 * b + 1].filter (headInst s)) (fun h => pullIn h 0 true) (updMount b (fun m => { m with phase := 4 }) s)) ∧
  (∀ (s : State) (b d : Nat) (areas : List (Nat × List SlotRead)), bayInst s b = true → d = (mountOf s b).disc → (mountOf s b).phase = 4 →
    (∀ h ∈ [2 * b, 2 * b + 1], headInst s h = true → 4 ≤ Machine.get s (F.SV_STATUS_STATE h) ∧ Machine.get s (F.SV_STATUS_STATE h) ≤ 8) →
    Completes (.mountPhaseEnd b true areas) s fun t =>
      ((getDisc s d).state ≠ 6 →
        mountOf t b = { mountOf s b with phase := 5, since := now s, busyAt := now s, count := (mountOf s b).count + 1 } ∧
        (getDisc t d).mounts = (getDisc s d).mounts + 1 ∧ (getDisc t d).failRun = 0 ∧ t = mounted b (scanRecords b d areas s) ∧ OnlyDiscs [d] s t) ∧
      ((getDisc s d).state = 6 → t = startDismount b s ∧ DiscLeaves b s t) ∧ OnlyMount b s t) ∧
  (∀ (s : State) (b : Nat) (areas : List (Nat × List SlotRead)), bayInst s b = true → (mountOf s b).phase = 5 → (mountOf s b).leave = true →
    bayWriting s b = false →
    Completes (.mountPhaseEnd b true areas) s fun t => t = startDismount b s ∧ DiscLeaves b s t ∧ OnlyMount b s t) ∧
  (∀ (s : State) (b : Nat) (areas : List (Nat × List SlotRead)), bayInst s b = true →
    ((mountOf s b).phase = 6 ∧ motSt s b = 0) ∨ ((mountOf s b).phase = 7 ∧ slotThere s b (mountOf s b).disc = true) →
    Completes (.mountPhaseEnd b true areas) s fun t =>
      mountOf t b = { mountOf s b with phase := (mountOf s b).phase + 1 } ∧
      ((mountOf s b).phase = 6 → t = slotTo b (mountOf s b).disc (axMoveTo b 1 0 (axMoveTo b 0 0 (updMount b (fun m => { m with phase := 7 }) s)))) ∧
      ((mountOf s b).phase = 7 → t = axMoveTo b 2 (axMm s b 2 180) (updMount b (fun m => { m with phase := 8 }) s)) ∧ OnlyMount b s t) ∧
  (∀ (s : State) (b : Nat) (areas : List (Nat × List SlotRead)), bayInst s b = true → (mountOf s b).phase = 8 → loaderAt s b true = true →
    Completes (.mountPhaseEnd b true areas) s fun t =>
      mountOf t b = { mountOf s b with phase := 0, disc := 0, leave := false } ∧
      (∀ h ∈ [2 * b, 2 * b + 1], Machine.get t (F.CH_STATUS_MEDIA_ID_VALID h) = 0 ∧ Machine.get t (F.CH_STATUS_ADDR_CONF h) = 0 ∧
        Machine.get t (F.SV_POS_CONFIRMED h) = 0 ∧ (chanOf t h).last = none ∧ (chanOf t h).expect = none ∧ (chanOf t h).mid = [] ∧
        (chanOf t h).foreign = false ∧ (chanOf t h).bands = [] ∧ (writeOf t h).calDone = [] ∧ (writeOf t h).prev = []) ∧
      inner t = { inner s with lib := { s.lib with mounts := t.lib.mounts }, heads := t.heads } ∧ OnlyMount b s t ∧
      (∀ g, g ≠ 2 * b → g ≠ 2 * b + 1 → getHead t g = getHead s g) ∧
      OnlyFields s t ([2 * b, 2 * b + 1].flatMap fun h => F.CH_STATUS_MEDIA_ID_VALID h :: (confirmFields h ++ permitFields h))) ∧
  (∀ (s : State) (b d : Nat) (areas : List (Nat × List SlotRead)), bayInst s b = true → d = (mountOf s b).disc → 1 ≤ (mountOf s b).phase →
    (mountOf s b).phase ≤ 4 →
    Completes (.mountPhaseEnd b false areas) s fun t =>
      (mountOf t b).fails = (mountOf s b).fails + 1 ∧ (getDisc t d).fails = (getDisc s d).fails + 1 ∧
      (getDisc t d).failRun = (getDisc s d).failRun + 1 ∧ (getDisc t d).failBay = b ∧ ((getDisc s d).failRun = 0 → b ∈ t.lib.bayOut) ∧
      (mountOf t b).phase = 6 ∧ OnlyMount b s t ∧ OnlyDiscs [d] s t) ∧
  (∀ (s : State) (b : Nat), relieved s b = true ∨ mayLeave s b = true → Completes (.dismount b) s fun t => Dismounts b s t) ∧
  (∀ (s : State) (b : Nat), bayInst s b = true → b ∈ fullBays s (leafOfBay s b) → idleBays s (leafOfBay s b) = [] →
    bayNeeded s (leafOfBay s b) = true → lastRanked s b = true → (∀ n ∈ frontOf s (leafOfBay s b), n.prio < bayRank s b) →
    elapsed s (mountOf s b).since (156250000 * Machine.get s F.ARB_SCHED_MOUNT_HOLD_MAX) = true →
    Completes (.mountHoldExpiry b) s fun t => Dismounts b s t)

/-- O28. The remap table of a layer takes the remap batches and the scanned spare sectors of that layer, a spare sector
prevailing, and counts the spares found written; the descriptor generations a mounted disc waits for are written, a disc that is
not mounted goes on waiting. A row sealed for a cause that holds takes the next ordinal and the next write stamps with its padding
rows, is counted, empties its filling row and, unless it was full, makes the set's session due. A session is due by its complete
slot groups or by entry to Parked, and ends when none is left or when it may not be held. The row count closes an epoch, whose
changed pages wait; a checkpoint is written to two mounted members of an open set, which then holds the newest copy of each page.
A drain grant lets staged sectors into the buffer by the credits of their path, every 10 µs. Nothing else changes. (R36, R51, R52,
R54, R278, R283, R285, R293, R298, R302, R308, R526) -/
def Obligations.RowsSessionsAndCheckpoints : Prop :=
  (∀ (s : State) (d layer : Nat) (spares : List (Nat × List SpareRead)), d < 1152 → layer < 12 →
    Completes (.remapTableBuild d layer spares) s fun t =>
      (∀ k, addrLayer k ≠ layer → mapFind (getDisc t d).remaps k = mapFind (getDisc s d).remaps k) ∧
      (∀ p ∈ spares, (spareScan (p.1 / 20) layer (p.1 % 20) p.2).2 ≤ mapGet (fun _ => 0) (getDisc t d).spareUsed (calKeyOf (p.1 / 20) layer (p.1 % 20))) ∧
      getDisc t d = { getDisc s d with remaps := (getDisc t d).remaps, spareUsed := (getDisc t d).spareUsed } ∧
      inner t = { inner s with lib := { s.lib with discs := t.lib.discs } } ∧ OnlyDiscs [d] s t ∧ OnlyFields s t []) ∧
  (∀ (s : State) (d layer key home : Nat) (rest : List SpareRead), d < 1152 → layer < 12 → addrLayer home = layer → rest.head? = some .blank →
    Completes (.remapTableBuild d layer [(key, .written (some home) :: rest)]) s fun t =>
      mapFind (getDisc t d).remaps home = some (spareAddr (key / 20) layer (key % 20) 0)) ∧
  (∀ (s : State) (d : Nat),
    Completes (.descriptorGeneration d) s fun t =>
      (bayOfDisc s d ≠ none → getDisc t d = writeOwed (getDisc s d) ∧ (getDisc t d).owed = []) ∧
      (bayOfDisc s d = none → t = s) ∧
      inner t = { inner s with lib := { s.lib with discs := t.lib.discs } } ∧ OnlyDiscs [d] s t ∧ OnlyFields s t []) ∧
  (∀ (s : State) (stream hd cause w pads : Nat) (d : DiscSet) (f : Filling), isSet s F.ARB_CTRL_EN = true → moveOffline s = s →
    d = getSet s hd → findFilling s stream hd = some f → sealable s hd cause f = true → w = Machine.get s F.ARB_WSTAMP →
    pads = padsBehind cause d.nextOrd →
    Completes (.rowSeal stream hd cause) s fun t =>
      (getSet t hd).rows.take (d.rows.length + 1) = d.rows ++ [⟨d.nextOrd, w, stream, ((f.blocks.map Block.stamp).min?).getD 0,
        ((f.blocks.map Block.stamp).max?).getD 0, rowBlocks d.width - f.blocks.length, decide (cause = 1), f.blocks, [], [], none⟩] ∧
      (getSet t hd).rows.length = d.rows.length + 1 + pads ∧ (getSet t hd).nextOrd = d.nextOrd + 1 + pads ∧
      ((getSet t hd).due = true ↔ d.due = true ∨ cause ≠ 0) ∧ findFilling t stream hd = none ∧ t.lib.rowsSince = s.lib.rowsSince + 1 ∧
      Machine.get t F.ARB_WSTAMP = trunc 64 (w + 1 + pads) ∧
      Machine.get t F.ARB_ROWS_SEALED = trunc 64 (satAdd 64 (Machine.get s F.ARB_ROWS_SEALED) 1) ∧
      (cause = 1 → Machine.get t F.ARB_SEALS_FUA = trunc 32 (satAdd 32 (Machine.get s F.ARB_SEALS_FUA) 1)) ∧
      (cause = 2 → Machine.get t F.ARB_SEALS_PRESSURE = trunc 32 (satAdd 32 (Machine.get s F.ARB_SEALS_PRESSURE) 1)) ∧
      t = refreshArbours (sealRow stream hd cause s) ∧ OnlySet hd s t ∧
      OnlyFields s t ([F.ARB_WSTAMP, F.ARB_ROWS_SEALED, F.ARB_PAD_BLOCKS, F.ARB_PAD_ROWS, F.ARB_DROPPED, F.ARB_SEALS_FUA, F.ARB_SEALS_PRESSURE] ++
        (pathUp s 16 d.domain).map F.ARB_AR_ROWS ++ arbourFields s)) ∧
  (∀ (s : State) (hd : Nat), isSet s F.ARB_CTRL_EN = true → (getSet s hd).st ≠ 0 → (getSet s hd).due = false → unwritten (getSet s hd) ≠ [] →
    s.pwr.phase = 2 ∨ Machine.get s F.ARB_SCHED_WRITE_MIN ≤ completeGroups s hd →
    Completes (.writeSessionDue hd) s fun t =>
      getSet t hd = { getSet s hd with due := true, dueAt := s.lib.issue } ∧
      inner t = { inner s with lib := { s.lib with sets := t.lib.sets, issue := s.lib.issue + 1 } } ∧ OnlySet hd s t ∧ OnlyFields s t []) ∧
  (∀ (s : State) (hd : Nat), (getSet s hd).session = true → setWriting s hd = false →
    unwritten (getSet s hd) = [] ∨ bayLost s hd = true ∨
      (readWaits s hd = true ∧ elapsed s (getSet s hd).since (156250000 * Machine.get s F.ARB_SCHED_WRITE_HOLD_MAX) = true) →
    Completes (.writeSessionEnd hd) s fun t =>
      getSet t hd = { getSet s hd with session := false, due := decide (unwritten (getSet s hd) ≠ []), dueAt := s.lib.issue } ∧
      (∀ h ∈ headsOf s, (writeOf s h).set = hd → (writeOf t h).calDone = []) ∧
      (∀ d ∈ (getSet s hd).members, bayOfDisc s d ≠ none → (getDisc t d).newRemaps = [] ∧ (getDisc t d).owed = []) ∧
      inner t = { inner s with
        lib := { s.lib with sets := t.lib.sets, discs := t.lib.discs, mounts := t.lib.mounts, issue := s.lib.issue + 1 }, heads := t.heads } ∧
      OnlySet hd s t ∧ OnlyDiscs (getSet s hd).members s t ∧ OnlyFields s t []) ∧
  (∀ (s : State), 65536 * Machine.get s F.ARB_CKPT_ROWS ≤ s.lib.rowsSince →
    Completes .mapCheckpoint s fun t =>
      Machine.get t F.ARB_EPOCH = trunc 64 (Machine.get s F.ARB_EPOCH + 1) ∧ t.lib.changed = [] ∧ t.lib.rowsSince = 0 ∧
      t.lib.closing = (s.lib.closing.filter fun x => decide (x.1 ∉ s.lib.changed)) ++ s.lib.changed.map (fun p => (p, pageWords s p)) ∧
      inner t = { inner s with lib := { s.lib with closing := t.lib.closing, changed := [], rowsSince := 0 } } ∧
      OnlyFields s t [F.ARB_EPOCH]) ∧
  (∀ (s : State) (d1 d2 : Nat), d1 ≠ d2 → ckptReady s d1 d2 = true →
    Completes (.checkpointWritten d1 d2) s fun t =>
      (∀ d ∈ [d1, d2], getDisc t d
        = writeCkpt (Machine.get s F.ARB_EPOCH - 1) (Machine.get s F.ARB_WSTAMP - 1) s.lib.maxStamp s.lib.closing (getDisc s d)) ∧
      t.lib.closing = [] ∧ t.lib.ckptEpoch = Machine.get s F.ARB_EPOCH ∧
      (∀ p ∈ s.lib.closing, mapFind t.lib.pageHome p.1 = some (getDisc s d1).set) ∧ Raised t evARB B.ARB_EVT_CKPT_DONE ∧
      inner t = { inner s with
        lib := { s.lib with
          discs := t.lib.discs, closing := [], ckptEpoch := t.lib.ckptEpoch, pageHome := t.lib.pageHome, mounts := t.lib.mounts },
        par := { s.par with ckpt := t.par.ckpt } } ∧ OnlyDiscs [d1, d2] s t ∧ OnlyFields s t (evFields evARB)) ∧
  (∀ (s : State), elapsed s s.lib.grantAt 1562 = true →
    Completes .drainCreditGrant s fun t =>
      t.lib.grantAt = (if s.lib.grantAt + 3125 ≤ now s then now s else s.lib.grantAt + 1562) ∧
      (drainable s = [] → t.lib.granted = []) ∧
      t = advanceCopies (grantAll (drainable s).length [] (floorCredits s)
        { s with lib := { s.lib with granted := [], grantAt := if s.lib.grantAt + 3125 ≤ now s then now s else s.lib.grantAt + 1562 } }))

/-- O29. An ACTIVE domain with an empty open-set slot and enough blanks forms an open set of the chosen discs under a free handle,
and without them reports NO_BLANK; the first candidate of its domain starts to be consolidated while the domain consolidates fewer
than CONS_MAX sets; a sealed set with no live block, no reader and no row in flight is retired and its discs leave it, once no map
page has its newest checkpoint copy there, and those pages wait to be checkpointed again; EN, CLR_CNT, DRAIN and OFFLINE have the
effects of R276, R309 and R310. Nothing else changes. (R276, R278, R279, R280, R284, R305, R306, R309, R310, R312, R315, R526) -/
def Obligations.SetsAndArbourControls : Prop :=
  (∀ (s : State) (a slot hd w : Nat) (ms : List Nat), arbInst s a = true → isDomain s a = true →
    slot < Machine.get s (F.ARB_AR_CFG_OPEN_MAX a) → pathActive s a = true → openSetOf s a slot = none →
    w = Machine.get s (F.ARB_AR_CFG_K a) + 2 → w + Machine.get s (F.ARB_AR_SPARE_POOL a) ≤ blanksBelow s a →
    chooseMembers s a = some ms → hd = freeHandle s →
    Completes (.setFormation a slot) s fun t =>
      getSet t hd = {
        st := 1, setId := 2 ^ 64 * Machine.get s F.GLB_UNIT_ID_LO + (s.lib.formCtr + 1), width := w, domain := a, slot := slot,
        members := ms } ∧
      (∀ d ∈ ms, (getDisc t d).state = 2 ∧ (getDisc t d).set = hd ∧ (getDisc t d).width = w) ∧
      t.lib.formCtr = s.lib.formCtr + 1 ∧ Raised t (evAR a) B.ARB_AR_EVT_SET_FORMED ∧
      inner t = { inner s with
        lib := { s.lib with sets := t.lib.sets, discs := t.lib.discs, formCtr := t.lib.formCtr, filling := t.lib.filling },
        flash := { s.flash with dirA := t.flash.dirA, dirB := t.flash.dirB }, host := toldHost s t } ∧
      OnlySet hd s t ∧ OnlyDiscs ms s t ∧ OnlyFields s t (arbourFields s)) ∧
  (∀ (s : State) (a slot : Nat), arbInst s a = true → isDomain s a = true → slot < Machine.get s (F.ARB_AR_CFG_OPEN_MAX a) →
    pathActive s a = true → openSetOf s a slot = none →
    blanksBelow s a < Machine.get s (F.ARB_AR_CFG_K a) + 2 + Machine.get s (F.ARB_AR_SPARE_POOL a) ∨ chooseMembers s a = none →
    Completes (.setFormation a slot) s fun t =>
      Raised t evARB B.ARB_EVT_NO_BLANK ∧
      (blanksBelow s a < Machine.get s (F.ARB_AR_CFG_K a) + 2 + Machine.get s (F.ARB_AR_SPARE_POOL a) → Raised t (evAR a) B.ARB_AR_EVT_SPARE_LOW) ∧
      Within s t (evFields evARB ++ evFields (evAR a))) ∧
  (∀ (s : State) (hd : Nat), isSet s F.ARB_CTRL_CONS_EN = true → hd ∈ candidates s (getSet s hd).domain →
    (∀ x ∈ candidates s (getSet s hd).domain, x ≠ hd → consBefore s hd x = true) →
    (s.lib.sets.filter fun p => p.2.consol && !p.2.lost && decide (p.2.domain = (getSet s hd).domain) && (evacuating s p.1).isNone).length
      < Machine.get s F.ARB_CONS_CONS_MAX →
    Completes (.consolidationStart hd) s fun t =>
      getSet t hd = { getSet s hd with consol := true, consAt := s.lib.issue } ∧
      inner t = { inner s with lib := { s.lib with sets := t.lib.sets, issue := s.lib.issue + 1 }, host := toldHost s t } ∧
      OnlySet hd s t ∧ OnlyFields s t (arbourFields s)) ∧
  (∀ (s : State) (hd : Nat), (getSet s hd).st = 2 → (getSet s hd).live = 0 → (getSet s hd).reads = 0 → (getSet s hd).rows = [] →
    Completes (.setRetire hd) s fun t =>
      (pagesHeld s hd = [] → t = rbNext (retireSet hd (endContexts hd s))) ∧
      (pagesHeld s hd = [] → noContexts s = true → arbInst s (getSet s hd).domain = true →
        Retired hd s t ∧ OnlyFields s t (parFields s ++ arbourFields s)) ∧
      (pagesHeld s hd ≠ [] → (∀ p ∈ pagesHeld s hd, ∃ x ∈ t.lib.closing, x.1 = p) ∧
        inner t = { inner s with lib := { s.lib with closing := t.lib.closing } } ∧ OnlyFields s t [])) ∧
  (∀ (s : State) (v : Bool),
    Completes (.arbEnable v) s fun t =>
      isSet t F.ARB_CTRL_EN = v ∧ isSet t F.ARB_STATUS_RUNNING = v ∧ Within s t [F.ARB_CTRL_EN, F.ARB_STATUS_RUNNING]) ∧
  (∀ (s : State),
    Completes .arbClrCnt s fun t =>
      (∀ f ∈ [F.ARB_ROWS_SEALED, F.ARB_PAD_ROWS, F.ARB_PAD_BLOCKS, F.ARB_SEALS_FUA, F.ARB_SEALS_PRESSURE, F.ARB_DROPPED, F.ARB_FRAG_WAIT,
        F.ARB_CELL_REASSIGN], Machine.get t f = 0) ∧
      Within s t [F.ARB_ROWS_SEALED, F.ARB_PAD_ROWS, F.ARB_PAD_BLOCKS, F.ARB_SEALS_FUA, F.ARB_SEALS_PRESSURE, F.ARB_DROPPED,
        F.ARB_FRAG_WAIT, F.ARB_CELL_REASSIGN]) ∧
  (∀ (s : State) (a : Nat) (v : Bool), arbInst s a = true →
    Completes (.arbourDrain a v) s fun t =>
      isSet t (F.ARB_AR_CTRL_DRAIN a) = v ∧
      Machine.get t (F.ARB_AR_STATUS_PSTATE a) = (if isSet s (F.ARB_AR_CTRL_OFFLINE a) then 2 else if v then 1 else 0) ∧
      Within s t [F.ARB_AR_CTRL_DRAIN a, F.ARB_AR_STATUS_PSTATE a]) ∧
  (∀ (s : State) (a : Nat) (v : Bool), arbInst s a = true →
    Completes (.arbourOffline a v) s fun t =>
      isSet t (F.ARB_AR_CTRL_OFFLINE a) = v ∧
      Machine.get t (F.ARB_AR_STATUS_PSTATE a) = (if v then 2 else if isSet s (F.ARB_AR_CTRL_DRAIN a) then 1 else 0) ∧
      inner t = { inner s with par := t.par } ∧
      OnlyFields s t ([F.ARB_AR_CTRL_OFFLINE a, F.ARB_AR_STATUS_PSTATE a] ++
        (List.range 16).flatMap fun i => [F.PAR_RB_ELAPSED_RUN i, F.PAR_RB_ELAPSED_PAUSE i, F.PAR_RB_RATE i]))

/-- O30. A member's sector that has to be reconstructed waits until its row is known; then, where the checks agree, it is rebuilt
into the buffer and counted; a row with an index beyond recovery is lost, counted and raised; a failed check is counted and its
codeword doubted; a row reported lost is only answered. A member failed by its mounts or its heads is declared failed, and one
whose disc has lost too much is degraded, and declared failed while DEGR_REBUILD is 1; FAIL_MEMBER declares a member failed, with
result 1 for no such member and 2 for one that has failed. With a spare at hand and nothing else waiting its rebuild begins in
context 0. A rebuild context starts when it runs, evacuates a set that need not be rebuilt, and goes on by slot groups: once every
recorded row of the group is done, its cursor passes the group and is journalled. At the end of its phase its complete members
take their place, the failed discs are retired and the context is freed; a member begun at a later ordinal wraps to ordinal 0. A
reshape context copies a slot group's live blocks, passes and journals its cursor, and at a multiple of RS_CKPT forces an epoch;
its emptied set is retired, after the map pages it holds have been checkpointed again. RESHAPE takes the lowest free context for a
sealed set, with result 1, 2 or 3 where it cannot; CANCEL_RESHAPE stops a running one and keeps its copies, with result 2
otherwise; a reserved OP ends with result 2; EN and CLR_CNT write their fields. Nothing else changes. (R306, R317, R318, R321,
R323, R324, R325, R326, R327, R333, R336, R526) -/
def Obligations.RebuildAndParityCommands : Prop :=
  (∀ (s : State) (hd r m : Nat), reconDue s hd r m = true → r ∉ (getSet s hd).lostRows → rowKnown s hd r = true →
    Completes (.reconstruction hd r m) s fun t =>
      (reconGood s hd r m = true →
        (cleanAt t ((getSet s hd).members.getD m 0) r).map CleanSector.payload = some (reconData s hd r m) ∧
        Machine.get t F.PAR_RECON_SECTORS = trunc 64 (satAdd 64 (Machine.get s F.PAR_RECON_SECTORS) 1) ∧
        (∀ h, discOfHead s h ≠ some ((getSet s hd).members.getD m 0) → getHead t h = getHead s h) ∧
        inner t = { inner s with par := t.par, heads := t.heads, host := toldHost s t } ∧ OnlyFields s t (F.PAR_RECON_SECTORS :: arbourFields s)) ∧
      (badIndexes (rowErased s hd r) ≠ [] → t = rowLost hd r s ∧ Raised t evPAR B.PAR_EVT_ROW_LOST) ∧
      (badIndexes (rowErased s hd r) = [] → reconGood s hd r m = false →
        Raised t evPAR B.PAR_EVT_CHECK_FAIL ∧
        Machine.get t F.PAR_CHECK_FAIL = trunc 32 (satAdd 32 (Machine.get s F.PAR_CHECK_FAIL) 1))) ∧
  (∀ (s : State) (hd r m : Nat), reconDue s hd r m = true → r ∈ (getSet s hd).lostRows →
    Completes (.reconstruction hd r m) s fun t => t = releaseRow hd r s) ∧
  (∀ (s : State) (hd r m : Nat), reconDue s hd r m = true → r ∉ (getSet s hd).lostRows → rowKnown s hd r = false →
    Completes (.reconstruction hd r m) s fun t => t = s) ∧
  (∀ (s : State) (hd m kind : Nat), failureHolds s hd m kind = true → kind < 2 →
    Completes (.memberFailed hd m kind) s fun t =>
      t = failMember hd m false s ∧ (∀ x, pickSpare s hd m = some x → spareReady s hd m x = true → FailsOver hd m x s t [])) ∧
  (∀ (s : State) (hd m kind : Nat), failureHolds s hd m kind = true → 2 ≤ kind →
    Completes (.memberFailed hd m kind) s fun t =>
      (isSet s F.PAR_CTRL_DEGR_REBUILD = true → t = failMember hd m true (degradeDisc (getSet s hd).domain (memberDisc s hd m) s)) ∧
      (isSet s F.PAR_CTRL_DEGR_REBUILD = false →
        (getDisc t (memberDisc s hd m)).state = 4 ∧
        inner t = { inner s with
          lib := { s.lib with discs := t.lib.discs }, flash := { s.flash with dirA := t.flash.dirA, dirB := t.flash.dirB }, host := toldHost s t } ∧
        OnlyDiscs [memberDisc s hd m] s t ∧ OnlyFields s t (arbourFields s))) ∧
  (∀ (s : State) (hd m : Nat), (getSet s hd).st ≠ 0 → m < (getSet s hd).width → m ∉ (getSet s hd).failed →
    Completes (.failMember hd m) s fun t =>
      Machine.get t F.PAR_CMD_STATUS_OP = 0 ∧ Machine.get t F.PAR_CMD_STATUS_RESULT = 0 ∧ Machine.get t F.PAR_CMD_STATUS_BUSY = 0 ∧
      inner t = inner (failMember hd m false s) ∧ OnlyFields (failMember hd m false s) t parCmdFields ∧
      (∀ x, pickSpare s hd m = some x → spareReady s hd m x = true → ParAnswers 0 0 0 t ∧ FailsOver hd m x s t parCmdFields)) ∧
  (∀ (s : State) (hd m : Nat), (getSet s hd).st = 0 ∨ (getSet s hd).width ≤ m ∨ m ∈ (getSet s hd).failed →
    Completes (.failMember hd m) s fun t =>
      ParAnswers 0 (if (getSet s hd).st = 0 ∨ (getSet s hd).width ≤ m then 1 else 2) 0 t ∧ Within s t parCmdFields) ∧
  (∀ (s : State) (i hd next : Nat), groupReady s i = true → hd = Machine.get s (F.PAR_RB_SET i) →
    next = Machine.get s (F.PAR_RB_CURSOR i) + (rbGroup s i).length →
    Completes (.rebuildSlotGroup i) s fun t =>
      ((groupRows s i).all (rowDone (groupRebuilt s i) i) = true →
        Machine.get t (F.PAR_RB_CURSOR i) = trunc 64 next ∧ t.par.out = (groupRebuilt s i).par.out ∧
        t.plp.tail = (groupRebuilt s i).plp.tail ++ [.cursor hd next, .cursor (131072 + hd) (Machine.get s (F.PAR_RB_START2 i))] ∧
        OnlyFields (groupRebuilt s i) t [F.PAR_RB_CURSOR i]) ∧
      ((groupRows s i).all (rowDone s i) = true →
        inner t = { inner s with plp := { s.plp with tail := t.plp.tail }, par := t.par } ∧ OnlyFields s t [F.PAR_RB_CURSOR i]) ∧
      ((groupRows s i).all (rowDone (groupRebuilt s i) i) = false → t = groupRebuilt s i)) ∧
  (∀ (s : State) (i : Nat), i < 16 → tickContext i s = s → rbState s i = Rb.mount → rbPaused s i = false →
    mayEvacuate s (Machine.get s (F.PAR_RB_SET i)) = false → rbGroup s i = [] ∨ groupKnown s i = false →
    Completes (.rebuildSlotGroup i) s fun t =>
      rbState t i = (if rbSecond s i then Rb.joint else Rb.run) ∧ Raised t evPAR B.PAR_EVT_REBUILD_START ∧
      Within s t (F.PAR_RB_STATUS_STATE i :: evFields evPAR)) ∧
  (∀ (s : State) (i : Nat), i < 16 → tickContext i s = s → rbRunning s i = true → rbPaused s i = false →
    mayEvacuate s (Machine.get s (F.PAR_RB_SET i)) = true →
    Completes (.rebuildSlotGroup i) s fun t =>
      rbState t i = Rb.evacuate ∧ (getSet t (Machine.get s (F.PAR_RB_SET i))).consol = true ∧ Raised t evPAR B.PAR_EVT_EVACUATE ∧
      Machine.get t F.PAR_EVACUATIONS = trunc 32 (satAdd 32 (Machine.get s F.PAR_EVACUATIONS) 1) ∧
      inner t = { inner s with lib := { s.lib with sets := t.lib.sets, issue := s.lib.issue + 1 } } ∧ OnlySet (Machine.get s (F.PAR_RB_SET i)) s t ∧
      OnlyFields s t ([F.PAR_RB_STATUS_STATE i, F.PAR_EVACUATIONS] ++ evFields evPAR ++ parFields s)) ∧
  (∀ (s : State) (i hd m x old : Nat), phaseOver s i = true → rbSecond s i = false → rbCompleteAt s i false = true → nobodyWaits s = true →
    hd = Machine.get s (F.PAR_RB_SET i) → m = Machine.get s (F.PAR_RB_STATUS_MEMBER1 i) → x = Machine.get s (F.PAR_RB_SPARES_1 i) →
    old = (getSet s hd).members.getD m 0 → (getSet s hd).failed = [m] →
    Completes (.rebuildMemberDone i) s fun t =>
      rbState t i = 6 ∧
      getSet t hd = { getSet s hd with
        members := (getSet s hd).members.set m x, failed := (getSet s hd).failed.filter (· ≠ m),
        unread := (getSet s hd).unread.filter (· ≠ m) } ∧
      (old ≠ x → (getDisc t old).state = 5 ∧ (getDisc t old).set = 0xffff) ∧
      Machine.get t F.PAR_REBUILDS_DONE = trunc 32 (satAdd 32 (Machine.get s F.PAR_REBUILDS_DONE) 1) ∧
      Raised t evPAR B.PAR_EVT_REBUILD_DONE ∧
      inner t = { inner s with
        lib := { s.lib with sets := t.lib.sets, discs := t.lib.discs },
        flash := { s.flash with dirA := t.flash.dirA, dirB := t.flash.dirB }, host := toldHost s t } ∧
      OnlySet hd s t ∧ OnlyDiscs [old, x] s t ∧
      OnlyFields s t ([F.PAR_RB_STATUS_STATE i, F.PAR_REBUILDS_DONE] ++ evFields evPAR ++ parFields s ++ arbourFields s)) ∧
  (∀ (s : State) (i : Nat), phaseOver s i = true →
    Completes (.rebuildMemberDone i) s fun t =>
      ((rbLiveAt s i false && !rbCompleteAt s i false) || (rbLiveAt s i true && !rbCompleteAt s i true) = true →
        t = parStatus (refreshArbours (rbNext (writeDirectory (putAll [(F.PAR_RB_STATUS_STATE i, Rb.wrap), (F.PAR_RB_CURSOR i, 0)] (membersIn s i)))))) ∧
      ((rbLiveAt s i false && !rbCompleteAt s i false) || (rbLiveAt s i true && !rbCompleteAt s i true) = false →
        (getSet (membersIn s i) (Machine.get s (F.PAR_RB_SET i))).failed = [] →
        t = parStatus (refreshArbours (rbNext (writeDirectory (put (F.PAR_RB_STATUS_STATE i) Rb.done (membersIn s i))))))) ∧
  (∀ (s : State) (j hd cur next step : Nat), j < 4 → isSet s F.PAR_CTRL_EN = true → Machine.get s (F.PAR_RS_STATUS_STATE j) = 1 →
    hd = Machine.get s (F.PAR_RS_SET j) → cur = Machine.get s (F.PAR_RS_CURSOR j) → cur < (getSet s hd).nextOrd →
    (∀ x ∈ rsBlocks s j, findClean s hd x.2.2 ≠ none) →
    next = min (64 * (cur / 64) + 64) (getSet s hd).nextOrd → step = 1024 * max 1 (Machine.get s F.PAR_RS_CKPT_CFG) →
    Completes (.reshapeCursorAdvance j) s fun t =>
      Machine.get t (F.PAR_RS_CURSOR j) = trunc 64 next ∧
      Machine.get t (F.PAR_RS_BLOCKS j) = trunc 64 (satAdd 64 (Machine.get s (F.PAR_RS_BLOCKS j)) (rsBlocks s j).length) ∧
      (cur / step < next / step → Machine.get t F.ARB_EPOCH = trunc 64 (Machine.get s F.ARB_EPOCH + 1) ∧
        Machine.get t (F.PAR_RS_CKPT j) = trunc 64 (next / step * step)) ∧
      (rsBlocks s j = [] → cur / step = next / step → t.plp.tail = s.plp.tail ++ [.cursor (65536 + hd) next] ∧
        inner t = { inner s with plp := { s.plp with tail := t.plp.tail }, par := t.par } ∧
        OnlyFields s t [F.PAR_RS_CURSOR j, F.PAR_RS_BLOCKS j, F.PAR_RS_DROPPED j])) ∧
  (∀ (s : State) (j hd : Nat), reshapeEmpty s j = true → hd = Machine.get s (F.PAR_RS_SET j) →
    Completes (.reshapeDone j) s fun t =>
      (pagesHeld s hd = [] → isSet s F.PAR_CTRL_RESHAPE_AUTO = false → arbInst s (getSet s hd).domain = true →
        Machine.get t (F.PAR_RS_STATUS_STATE j) = 2 ∧ Raised t evPAR B.PAR_EVT_RESHAPE_DONE ∧ Retired hd s t ∧
        OnlyFields s t (F.PAR_RS_STATUS_STATE j :: (List.range 16).map F.PAR_RB_STATUS_STATE ++ evFields evPAR ++ parFields s ++ arbourFields s)) ∧
      (pagesHeld s hd = [] → t = reshapeAuto (parStatus (raise evPAR B.PAR_EVT_RESHAPE_DONE
        (retireSet hd (endContexts hd (put (F.PAR_RS_STATUS_STATE j) 2 s)))))) ∧
      (pagesHeld s hd ≠ [] → t = checkpointAgain hd s ∧ OnlyFields s t [])) ∧
  (∀ (s : State) (hd j : Nat), (getSet s hd).st ≠ 0 → (getSet s hd).st ≠ 1 → (getSet s hd).lost = false → reshaping s hd = false → hd < 65536 → j < 4 →
    Machine.get s (F.PAR_RS_STATUS_STATE j) ≠ 1 → (∀ i < j, Machine.get s (F.PAR_RS_STATUS_STATE i) = 1) →
    Completes (.reshape hd) s fun t =>
      ParAnswers 1 0 j t ∧ Machine.get t (F.PAR_RS_STATUS_STATE j) = 1 ∧ Machine.get t (F.PAR_RS_SET j) = hd ∧
      Machine.get t (F.PAR_RS_DOMAIN j) = trunc 8 (getSet s hd).domain ∧ Machine.get t (F.PAR_RS_CURSOR j) = 0 ∧
      Machine.get t (F.PAR_RS_BLOCKS j) = 0 ∧ getSet t hd = { getSet s hd with consAt := s.lib.issue } ∧
      inner t = { inner s with lib := { s.lib with sets := t.lib.sets, issue := s.lib.issue + 1 }, par := { s.par with resumed := t.par.resumed } } ∧
      OnlySet hd s t ∧
      OnlyFields s t ([F.PAR_RS_STATUS_STATE j, F.PAR_RS_SET j, F.PAR_RS_DOMAIN j, F.PAR_RS_CURSOR j, F.PAR_RS_CKPT j, F.PAR_RS_BLOCKS j,
        F.PAR_RS_DROPPED j] ++ parCmdFields ++ parFields s)) ∧
  (∀ (s : State) (hd : Nat), (getSet s hd).st = 0 ∨ (getSet s hd).st = 1 ∨ (getSet s hd).lost = true ∨ reshaping s hd = true ∨
      (∀ j < 4, Machine.get s (F.PAR_RS_STATUS_STATE j) = 1) →
    Completes (.reshape hd) s fun t =>
      ParAnswers 1 (if (getSet s hd).st = 0 then 1 else if (getSet s hd).st = 1 ∨ (getSet s hd).lost = true ∨ reshaping s hd = true then 2 else 3) 0 t ∧
      Within s t parCmdFields) ∧
  (∀ (s : State) (ctx : Nat),
    Completes (.cancelReshape ctx) s fun t =>
      (ctx < 4 → Machine.get s (F.PAR_RS_STATUS_STATE ctx) = 1 → ParAnswers 2 0 ctx t ∧ Machine.get t (F.PAR_RS_STATUS_STATE ctx) = 3 ∧
        Within s t (F.PAR_RS_STATUS_STATE ctx :: parCmdFields ++ parFields s)) ∧
      (4 ≤ ctx ∨ Machine.get s (F.PAR_RS_STATUS_STATE ctx) ≠ 1 → ParAnswers 2 2 0 t ∧ Within s t parCmdFields)) ∧
  (∀ (s : State) (op : Nat), op < 8 →
    Completes (.parCmdRefused op) s fun t => ParAnswers op 2 0 t ∧ Within s t parCmdFields) ∧
  (∀ (s : State) (v : Bool),
    Completes (.parEnable v) s fun t =>
      isSet t F.PAR_CTRL_EN = v ∧ inner t = { inner s with par := t.par } ∧
      OnlyFields s t (F.PAR_CTRL_EN :: (List.range 16).flatMap fun i => [F.PAR_RB_ELAPSED_RUN i, F.PAR_RB_ELAPSED_PAUSE i, F.PAR_RB_RATE i])) ∧
  (∀ (s : State),
    Completes .parClrCnt s fun t =>
      (∀ f ∈ [F.PAR_RECON_SECTORS, F.PAR_CHECK_FAIL, F.PAR_ROWS_LOST, F.PAR_SALVAGED, F.PAR_SETS_LOST, F.PAR_MEMBERS_FAILED,
        F.PAR_SPARES_TAKEN, F.PAR_REBUILDS_DONE, F.PAR_EVACUATIONS], Machine.get t f = 0) ∧
      Within s t [F.PAR_RECON_SECTORS, F.PAR_CHECK_FAIL, F.PAR_ROWS_LOST, F.PAR_SALVAGED, F.PAR_SETS_LOST, F.PAR_MEMBERS_FAILED,
        F.PAR_SPARES_TAKEN, F.PAR_REBUILDS_DONE, F.PAR_EVACUATIONS])

/-- O31. For any column of up to 31 data bytes with its P and Q, the reconstruction of R317 gives the column back when one data
slot is lost (from P, or from Q where P is lost too) and when two data slots are lost. (R313, R317) -/
def Obligations.ReconstructionRecovers : Prop :=
  ∀ (ds : List Nat), ds.length ≤ 31 → (∀ d ∈ ds, d < 256) →
    (∀ x q, x < ds.length → reconColumn (ds.set x 0) (synP ds) q [x] true = ds) ∧
    (∀ x p, x < ds.length → reconColumn (ds.set x 0) p (synQ 0 ds) [x] false = ds) ∧
    (∀ x y, x < y → y < ds.length → reconColumn ((ds.set x 0).set y 0) (synP ds) (synQ 0 ds) [x, y] true = ds)

/-- O32. A read of an unmirrored word answers its valid halves with zeros for the rest, zeros where neither half is valid, and a
corrected word is written back and counted; a mirrored word whose first copy is uncorrectable is answered from the second and
repaired; an unmirrored uncorrectable word is a bus error, the first of which ERR_LOG keeps, and the requester acts on it. A write
of a half, with the rest of its word kept, reaches every copy and sets its valid bit. A scrub read takes the next word with a
valid half in order, repairs a mirrored one from its partner, reports its progress and the end of a pass; a release clears the
page's valid bits in every copy, or waits while the page is held. Every other word and valid bit reads as before. (R342, R344,
R346, R348, R349, R351, R352, R353, R364) -/
def Obligations.BufferReadsAndWrites : Prop :=
  (∀ (s : State) (req pair ba c o d errP errM : Nat) (alt lo hi : Bool), ba < baSize s → isMirrored s ba = false → cleanWord s ba = none →
    primaryOf s ba = (c, o) → chServes s c = true → inSummary s c (o / 128 * 128) = true → lo = isValid s c (o / 128 * 128) →
    hi = isValid s c (o / 128 * 128 + 64) → (lo || hi) = true → decodeWord (rawWord s c o ^^^ errP) = .clean d →
    Completes (.bufferRead req pair ba alt errP errM) s fun t =>
      inner t = { inner s with
        buf := { s.buf with answer := (if lo then d % 2 ^ 512 else 0) + (if hi then 2 ^ 512 * (d / 2 ^ 512) else 0) } } ∧
      OnlyFields s t []) ∧
  (∀ (s : State) (req pair ba c o errP errM : Nat) (alt : Bool), ba < baSize s → isMirrored s ba = false → cleanWord s ba = none →
    primaryOf s ba = (c, o) → chServes s c = true → isValid s c (o / 128 * 128) = false → isValid s c (o / 128 * 128 + 64) = false →
    Completes (.bufferRead req pair ba alt errP errM) s fun t =>
      inner t = { inner s with buf := { s.buf with answer := 0 } } ∧ OnlyFields s t []) ∧
  (∀ (s : State) (req pair ba c o j d w errP errM : Nat) (alt : Bool), ba < baSize s → isMirrored s ba = false → cleanWord s ba = none →
    primaryOf s ba = (c, o) → chServes s c = true → inSummary s c (o / 128 * 128) = true → isValid s c (o / 128 * 128) = true →
    isValid s c (o / 128 * 128 + 64) = true → decodeWord (rawWord s c o ^^^ errP) = .corrected j d w →
    Completes (.bufferRead req pair ba alt errP errM) s fun t =>
      t.buf.answer = d % 2 ^ 512 + 2 ^ 512 * (d / 2 ^ 512) ∧ rawWord t c o = w ∧
      Machine.get t (F.BUF_CH_CE c) = trunc 32 (satAdd 32 (Machine.get s (F.BUF_CH_CE c)) 1) ∧
      Machine.get t (F.BUF_CH_CE_INFO_LAST c) = trunc 5 j ∧ Raised t (evBufCh c) B.BUF_CH_EVT_CE ∧
      inner t = { inner s with buf := { s.buf with answer := t.buf.answer, words := t.buf.words, devices := t.buf.devices, ceTimes := t.buf.ceTimes } } ∧
      OnlyWords [wordKey c o] s t ∧
      OnlyFields s t ([F.BUF_CH_CE c, F.BUF_CH_CE_INFO_LAST c, F.BUF_CH_CE_INFO_MOST c] ++ evFields (evBufCh c))) ∧
  (∀ (s : State) (req pair ba c o errP errM : Nat) (alt : Bool), ba < baSize s → isMirrored s ba = false → cleanWord s ba = none →
    primaryOf s ba = (c, o) → chServes s c = true → inSummary s c (o / 128 * 128) = true →
    (isValid s c (o / 128 * 128) || isValid s c (o / 128 * 128 + 64)) = true → decodeWord (rawWord s c o ^^^ errP) = .uncorrectable →
    Completes (.bufferRead req pair ba alt errP errM) s fun t =>
      t = onBusError req pair ba (countUncorrectable c s) ∧ t.buf.answer = s.buf.answer ∧
      Machine.get t (F.BUF_CH_UE c) = trunc 32 (satAdd 32 (Machine.get s (F.BUF_CH_UE c)) 1) ∧ Raised t evBUF B.BUF_EVT_BUS_ERROR ∧
      (isSet s F.BUF_ERR_LOG_VALID = false → Machine.get t F.BUF_ERR_LOG_VALID = 1 ∧
        Machine.get t F.BUF_ERR_LOG_OFFSET = trunc 40 (o / 128 * 128) ∧ Machine.get t F.BUF_ERR_LOG_CHANNEL = trunc 4 c ∧
        Machine.get t F.BUF_ERR_LOG_REQ = trunc 4 req)) ∧
  (∀ (s : State) (req pair ba c o c' o' d errP errM : Nat), ba < baSize s → cacheOn s (ba / 128) = false → isMirrored s ba = true →
    cleanWord s ba = none → primaryOf s ba = (c, o) → mirrorOf s ba = (c', o') → chWhole s c = true → chWhole s c' = true →
    inSummary s c (o / 128 * 128) = true → isValid s c (o / 128 * 128) = true → decodeWord (rawWord s c o ^^^ errP) = .uncorrectable →
    inSummary s c' (o' / 128 * 128) = true → isValid s c' (o' / 128 * 128) = true → isValid s c' (o' / 128 * 128 + 64) = true →
    decodeWord (rawWord s c' o' ^^^ errM) = .clean d → d < 2 ^ 1024 →
    Completes (.bufferRead req pair ba false errP errM) s fun t =>
      t.buf.answer = d ∧ rawWord t c o = encodeWord d ∧
      Machine.get t (F.BUF_CH_UE c) = trunc 32 (satAdd 32 (Machine.get s (F.BUF_CH_UE c)) 1) ∧
      Machine.get t (F.BUF_CH_REPAIRS c) = trunc 32 (satAdd 32 (Machine.get s (F.BUF_CH_REPAIRS c)) 1) ∧
      Raised t (evBufCh c) B.BUF_CH_EVT_UE ∧ Raised t (evBufCh c) B.BUF_CH_EVT_REPAIRED ∧
      inner t = { inner s with buf := { s.buf with answer := d, words := t.buf.words, ueTimes := t.buf.ueTimes } } ∧ OnlyWords [wordKey c o] s t ∧
      OnlyFields s t ([F.BUF_CH_UE c, F.BUF_CH_REPAIRS c] ++ evFields (evBufCh c))) ∧
  (∀ (s : State) (req pair ba data c o d errP errM : Nat) (high beside : Bool), ba < baSize s → isMirrored s ba = false →
    cleanWord s ba = none → primaryOf s ba = (c, o) → chServes s c = true → high = decide (o % 128 / 64 = 1) →
    beside = isValid s c (if high then o / 128 * 128 else o / 128 * 128 + 64) →
    (beside = true → inSummary s c (o / 128 * 128) = true ∧ decodeWord (rawWord s c o ^^^ errP) = .clean d) →
    Completes (.bufferWrite req pair ba data errP errM) s fun t =>
      isValid t c o = true ∧
      rawWord t c o = encodeWord (if high then (if beside then d % 2 ^ 512 else 0) + 2 ^ 512 * trunc 512 data
        else trunc 512 data + (if beside then 2 ^ 512 * (d / 2 ^ 512) else 0)) ∧
      inner t = { inner s with
        buf := { s.buf with words := t.buf.words, valid := t.buf.valid, summary := t.buf.summary } } ∧
      OnlyWords [wordKey c o] s t ∧ OnlyValid [lineKey c o] s t ∧ OnlyFields s t []) ∧
  (∀ (s : State) (req pair ba data c o c' o' errP errM : Nat), ba < baSize s → isMirrored s ba = true → cacheOn s (ba / 128) = false →
    cleanWord s ba = none → primaryOf s ba = (c, o) → mirrorOf s ba = (c', o') → chServes s c = true → chServes s c' = true →
    isValid s c (if o % 128 / 64 = 1 then o / 128 * 128 else o / 128 * 128 + 64) = false →
    isValid s c' (if o' % 128 / 64 = 1 then o' / 128 * 128 else o' / 128 * 128 + 64) = false →
    Completes (.bufferWrite req pair ba data errP errM) s fun t =>
      isValid t c o = true ∧ isValid t c' o' = true ∧ rawWord t c o = rawWord t c' o' ∧
      rawWord t c o = encodeWord (if ba % 128 / 64 = 1 then 2 ^ 512 * trunc 512 data else trunc 512 data) ∧
      inner t = { inner s with
        buf := { s.buf with words := t.buf.words, valid := t.buf.valid, summary := t.buf.summary } } ∧
      OnlyWords [wordKey c o, wordKey c' o'] s t ∧ OnlyValid [lineKey c o, lineKey c' o'] s t ∧ OnlyFields s t []) ∧
  (∀ (s : State) (errP errM k x upto d : Nat), isSet s F.BUF_SCRUB_CFG_EN = true → s.buf.scrub = some k → 0 < k → nextScrub s k = some x →
    cleanWord s (baOf s (x / 2 ^ 32) (64 * (x % 2 ^ 32))) = none → readCopy (x / 2 ^ 32) (64 * (x % 2 ^ 32)) errP s = (some d, s) →
    upto = (nextScrub s (x + 2)).getD (2 ^ 36) → upto < 2 ^ 36 →
    Completes (.scrubRead errP errM) s fun t =>
      t.buf.scrub = some upto ∧ Machine.get t F.BUF_SCRUB_STATUS_PROGRESS = scrubProgress s upto ∧
      t.buf.summary = (clearSummary k upto s).buf.summary ∧
      inner t = { inner s with buf := { s.buf with scrub := t.buf.scrub, summary := t.buf.summary } } ∧
      OnlyFields s t [F.BUF_SCRUB_STATUS_PROGRESS]) ∧
  (∀ (s : State) (errP errM k : Nat), isSet s F.BUF_SCRUB_CFG_EN = true →
    (s.buf.scrub = some k ∨ k = 0 ∧ s.buf.scrub = none ∧
      elapsed s s.buf.scrubAt (156250000 * 3600 * max 1 (Machine.get s F.BUF_SCRUB_CFG_PERIOD)) = true) →
    nextScrub s k = none →
    Completes (.scrubRead errP errM) s fun t =>
      t.buf.scrub = none ∧ Machine.get t F.BUF_SCRUB_STATUS_PROGRESS = 0 ∧
      Machine.get t F.BUF_SCRUB_STATUS_PASSES = trunc 16 (satAdd 16 (Machine.get s F.BUF_SCRUB_STATUS_PASSES) 1) ∧
      Raised t evBUF B.BUF_EVT_SCRUB_PASS ∧ t.buf.scrubAt = (if k = 0 then now s else s.buf.scrubAt) ∧
      inner t = { inner s with buf := { s.buf with scrub := none, scrubAt := t.buf.scrubAt, summary := t.buf.summary } } ∧
      OnlyFields s t ([F.BUF_SCRUB_STATUS_PROGRESS, F.BUF_SCRUB_STATUS_PASSES] ++ evFields evBUF)) ∧
  (∀ (s : State) (errP errM k x c o d : Nat), isSet s F.BUF_SCRUB_CFG_EN = true → s.buf.scrub = some k → nextScrub s k = some x →
    c = x / 2 ^ 32 → o = 64 * (x % 2 ^ 32) → c < 16 → cleanWord s (baOf s c o) = none → isMirrored s (baOf s c o) = true →
    chWhole s ((c + 8) % 16) = true → readCopy c o errP s = (none, countUncorrectable c s) →
    readCopy ((c + 8) % 16) (partnerOfs s o) errM (countUncorrectable c s) = (some d, countUncorrectable c s) →
    Completes (.scrubRead errP errM) s fun t =>
      rawWord t c o = encodeWord d ∧ OnlyWords [wordKey c o] s t ∧ Raised t (evBufCh c) B.BUF_CH_EVT_REPAIRED ∧
      Machine.get t (F.BUF_CH_REPAIRS c) = trunc 32 (satAdd 32 (Machine.get s (F.BUF_CH_REPAIRS c)) 1)) ∧
  (∀ (s : State) (page : Nat), 4096 * page < baSize s → pageHeld s page = false →
    Completes (.release page) s fun t =>
      (∀ i < 64, isValid t (primaryOf s (4096 * page + 64 * i)).1 (primaryOf s (4096 * page + 64 * i)).2 = false ∧
        (isMirrored s (4096 * page) = true →
          isValid t (mirrorOf s (4096 * page + 64 * i)).1 (mirrorOf s (4096 * page + 64 * i)).2 = false)) ∧
      OnlyValid ((List.range 64).flatMap fun i => lineKey (primaryOf s (4096 * page + 64 * i)).1 (primaryOf s (4096 * page + 64 * i)).2 ::
        (if isMirrored s (4096 * page) then [lineKey (mirrorOf s (4096 * page + 64 * i)).1 (mirrorOf s (4096 * page + 64 * i)).2] else [])) s t ∧
      (∀ p ∈ t.buf.lines, p ∈ s.buf.lines ∧ (isMirrored s (4096 * page) = true → p.2.la / 32 ≠ page)) ∧
      inner t = { inner s with buf := { s.buf with valid := t.buf.valid, lines := t.buf.lines, slices := t.buf.slices } } ∧
      Machine.get t F.BUF_CMD_PAGE = trunc 29 page ∧ Machine.get t F.BUF_CMD_OP = 0 ∧
      OnlyFields s t [F.BUF_CMD_PAGE, F.BUF_CMD_OP, F.MAP_DIRTY]) ∧
  (∀ (s : State) (page : Nat), 4096 * page < baSize s → pageHeld s page = true →
    Completes (.release page) s fun t =>
      inner t = { inner s with host := { s.host with relWait := page :: s.host.relWait } } ∧
      Machine.get t F.BUF_CMD_PAGE = trunc 29 page ∧ Machine.get t F.BUF_CMD_OP = 0 ∧ OnlyFields s t [F.BUF_CMD_PAGE, F.BUF_CMD_OP])

/-- O33. A channel fault declared for training, write CRC, CA parity or more than UE_LIM uncorrectable words within 1 s, and one
commanded, takes the channel out of service with its cause, exposes the pair, asks for the sets with pages in the pair to be
written, and forces an epoch; retraining clears its valid bits and starts RESYNC, whose end copies every valid mirrored word from
the whole partner, without its correctable errors, and brings the pair back; the clear ends once its time has passed, and reports
it; raw access, where the fuse permits it and the channel serves, writes and reads the word at DIAG_ADDR, and DIAG_READ tells the
decoder's verdict; where it is not permitted, and for a reserved OP, the result is a refusal; CLR_CNT clears the channels'
counters. Nothing else changes. (R347, R350, R354, R355, R364, R365, R367) -/
def Obligations.BufferChannelsAndDiagnostics : Prop :=
  (∀ (s : State) (ch cause : Nat), ddrInst s ch = true → Machine.get s (F.BUF_CH_STATUS_STATE ch) ≠ 1 →
    isExposed s Dom.ddr (ch % 8) = false →
    (1 ≤ cause ∧ cause ≤ 3 ∨ cause = 4 ∧ Machine.get s F.BUF_UE_LIM < (mapGet (fun _ => []) s.buf.ueTimes ch).length) →
    Completes (.channelFault ch cause) s fun t => LeavesService ch cause s t) ∧
  (∀ (s : State) (ch : Nat), ddrInst s ch = true → Machine.get s (F.BUF_CH_STATUS_STATE ch) ≠ 1 →
    isExposed s Dom.ddr (ch % 8) = false →
    Completes (.channelOffline ch) s fun t => LeavesService ch 5 s t) ∧
  (∀ (s : State) (ch : Nat), ddrInst s ch = true → Machine.get s (F.BUF_CH_STATUS_STATE ch) = 1 →
    Completes (.channelRetrain ch) s fun t =>
      Machine.get t (F.BUF_CH_STATUS_STATE ch) = 2 ∧ Machine.get t (F.BUF_CH_STATUS_CAUSE ch) = 0 ∧ Machine.get t (F.BUF_CH_RESYNC ch) = 0 ∧
      Machine.get t F.PWR_RESET_CAUSE_KIND = 6 ∧
      (∀ k, k / 2 ^ 32 = ch → mapGet (fun _ => 0) t.buf.valid k = 0) ∧
      (∀ k, k / 2 ^ 32 ≠ ch → mapGet (fun _ => 0) t.buf.valid k = mapGet (fun _ => 0) s.buf.valid k) ∧
      inner t = { inner s with buf := { s.buf with valid := t.buf.valid, summary := t.buf.summary } } ∧
      OnlyFields s t [F.BUF_CH_STATUS_STATE ch, F.BUF_CH_STATUS_CAUSE ch, F.BUF_CH_RESYNC ch, F.PWR_RESET_CAUSE_KIND]) ∧
  (∀ (s : State) (ch : Nat), ddrInst s ch = true → Machine.get s (F.BUF_CH_STATUS_STATE ch) = 2 → chWhole s ((ch + 8) % 16) = true →
    Completes (.resyncDone ch) s fun t =>
      Machine.get t (F.BUF_CH_STATUS_STATE ch) = 0 ∧ Machine.get t (F.BUF_CH_RESYNC ch) = 0xffff ∧
      Machine.get t F.BUF_STATUS_IN_SERVICE = trunc 16 (Machine.get s F.BUF_STATUS_IN_SERVICE ||| 2 ^ ch) ∧
      isExposed t Dom.ddr (ch % 8) = false ∧ Raised t (evBufCh ch) B.BUF_CH_EVT_RESYNC_DONE ∧
      (∀ o ∈ validLines s ((ch + 8) % 16), isValid t ch (partnerOfs s o) = true ∧
        rawWord t ch (partnerOfs s o / 128 * 128) = copiedWord (rawWord s ((ch + 8) % 16) (o / 128 * 128))) ∧
      inner t = { inner s with
        exposed := t.exposed, buf := { s.buf with words := t.buf.words, valid := t.buf.valid, summary := t.buf.summary } } ∧
      OnlyWords ((validLines s ((ch + 8) % 16)).map fun o => wordKey ch (partnerOfs s o / 128 * 128)) s t ∧
      OnlyValid ((validLines s ((ch + 8) % 16)).map fun o => lineKey ch (partnerOfs s o)) s t ∧
      OnlyFields s t ([F.BUF_CH_STATUS_STATE ch, F.BUF_CH_RESYNC ch, F.BUF_STATUS_IN_SERVICE, F.BUF_STATUS_STATE] ++ evFields (evBufCh ch))) ∧
  (∀ (s : State), Machine.get s F.BUF_STATUS_STATE = 1 → elapsed s s.buf.clearAt (bufV s * 5 / 2048) = true →
    Completes .clearDone s fun t =>
      Machine.get t F.BUF_CLEAR_TIME = trunc 32 ((now s - s.buf.clearAt) * 64 / 10000) ∧ Machine.get t F.BUF_STATUS_STATE = 2 ∧
      Raised t evBUF B.BUF_EVT_CLEAR_DONE ∧ Within s t ([F.BUF_CLEAR_TIME, F.BUF_STATUS_STATE] ++ evFields evBUF)) ∧
  (∀ (s : State) (page op : Nat),
    Completes (.bufCmdRefused page op) s fun t =>
      Machine.get t F.BUF_CMD_PAGE = trunc 29 page ∧ Machine.get t F.BUF_CMD_OP = trunc 2 op ∧
      Within s t [F.BUF_CMD_PAGE, F.BUF_CMD_OP]) ∧
  (∀ (s : State) (c o : Nat), diagAllowed s = true → c = Machine.get s F.BUF_DIAG_ADDR_CH → o = diagOfs s →
    Completes .writeRaw s fun t =>
      rawWord t c o = ((List.range 32).map fun i => Machine.get s (F.BUF_DIAG_DATA i) * 2 ^ (32 * i)).sum +
        2 ^ 1024 * ((List.range 8).map fun i => Machine.get s (F.BUF_DIAG_CHECK i) * 2 ^ (32 * i)).sum ∧
      isValid t c o = true ∧ isValid t c (o + 64) = true ∧ Machine.get t F.BUF_DIAG_CTRL_OP = 0 ∧
      Machine.get t F.BUF_DIAG_CTRL_RESULT = 0 ∧ Raised t evBUF B.BUF_EVT_DIAG_DONE ∧
      inner t = { inner s with
        buf := { s.buf with words := t.buf.words, valid := t.buf.valid, summary := t.buf.summary } } ∧
      OnlyWords [wordKey c o] s t ∧ OnlyValid [lineKey c o, lineKey c (o + 64)] s t ∧
      OnlyFields s t ([F.BUF_DIAG_CTRL_OP, F.BUF_DIAG_CTRL_RESULT] ++ evFields evBUF)) ∧
  (∀ (s : State) (w : Nat), diagAllowed s = true → w = diagWord s →
    Completes .readRaw s fun t =>
      (∀ i < 32, Machine.get t (F.BUF_DIAG_DATA i) = w / 2 ^ (32 * i) % 2 ^ 32) ∧
      (∀ i < 8, Machine.get t (F.BUF_DIAG_CHECK i) = w / 2 ^ (1024 + 32 * i) % 2 ^ 32) ∧
      Machine.get t F.BUF_DIAG_CTRL_OP = 1 ∧ Machine.get t F.BUF_DIAG_CTRL_RESULT = 0 ∧ Raised t evBUF B.BUF_EVT_DIAG_DONE ∧
      Within s t ([F.BUF_DIAG_CTRL_OP, F.BUF_DIAG_CTRL_RESULT] ++ evFields evBUF ++ (List.range 32).map F.BUF_DIAG_DATA ++
        (List.range 8).map F.BUF_DIAG_CHECK)) ∧
  (∀ (s : State) (w x d j verdict : Nat) (dev : Option Nat), diagAllowed s = true → w = diagWord s →
    (decodeWord w = .clean d ∧ x = w ∧ verdict = 0 ∧ dev = none ∨
      decodeWord w = .corrected j d x ∧ dev = some j ∧ verdict = 1 ∨
      decodeWord w = .uncorrectable ∧ x = w ∧ verdict = 2 ∧ dev = none) →
    Completes .diagRead s fun t =>
      (∀ i < 32, Machine.get t (F.BUF_DIAG_DATA i) = x / 2 ^ (32 * i) % 2 ^ 32) ∧
      (∀ i < 8, Machine.get t (F.BUF_DIAG_CHECK i) = x / 2 ^ (1024 + 32 * i) % 2 ^ 32) ∧ Machine.get t F.BUF_DIAG_CTRL_VERDICT = verdict ∧
      Machine.get t F.BUF_DIAG_CTRL_DEVICE = (dev.map (trunc 5)).getD (Machine.get s F.BUF_DIAG_CTRL_DEVICE) ∧
      Machine.get t F.BUF_DIAG_CTRL_OP = 2 ∧ Machine.get t F.BUF_DIAG_CTRL_RESULT = 0 ∧ Raised t evBUF B.BUF_EVT_DIAG_DONE ∧
      Within s t ([F.BUF_DIAG_CTRL_OP, F.BUF_DIAG_CTRL_RESULT, F.BUF_DIAG_CTRL_VERDICT, F.BUF_DIAG_CTRL_DEVICE] ++ evFields evBUF ++
        (List.range 32).map F.BUF_DIAG_DATA ++ (List.range 8).map F.BUF_DIAG_CHECK)) ∧
  (∀ (s : State) (i : Instr), i ∈ [Instr.writeRaw, .readRaw, .diagRead] → diagAllowed s = false →
    Completes i s fun t => Machine.get t F.BUF_DIAG_CTRL_RESULT = 2 ∧ Within s t [F.BUF_DIAG_CTRL_RESULT]) ∧
  (∀ (s : State),
    Completes .diagReserved s fun t =>
      Machine.get t F.BUF_DIAG_CTRL_OP = 3 ∧ Machine.get t F.BUF_DIAG_CTRL_RESULT = 2 ∧
      Within s t [F.BUF_DIAG_CTRL_OP, F.BUF_DIAG_CTRL_RESULT]) ∧
  (∀ (s : State),
    Completes .bufClrCnt s fun t =>
      (∀ c < 16, Machine.get t (F.BUF_CH_CE c) = 0 ∧ Machine.get t (F.BUF_CH_UE c) = 0 ∧ Machine.get t (F.BUF_CH_REPAIRS c) = 0) ∧
      Within s t ((List.range 16).flatMap fun c => [F.BUF_CH_CE c, F.BUF_CH_UE c, F.BUF_CH_REPAIRS c]))

/-- O34. A read hit answers the line and sets its age to 0, a write hit leaves it dirty; an access that finds its line in the side
buffer enters it at age 3; a miss becomes the slice's outstanding one, and a further one waits; a fill enters its line at age 0
and answers the access; the cache is enabled empty, drains and is empty again; CLEAN writes a dirty line back, INVALIDATE writes
it back and drops it, CLEAN_ALL leaves no dirty line, and in DISABLED each completes at once; a reserved operation is an error; an
SRAM word is corrected, a clean line with an uncorrectable one is read again, and a tag error takes the slice out of service;
CLR_CNT clears the counters. Nothing else changes. (R356, R357, R358, R359, R360, R361, R362, R363, R369) -/
def Obligations.MapCacheBehaviour : Prop :=
  (∀ (s : State) (req pair ba k errP errM : Nat) (alt : Bool) (l : CacheLine), isMirrored s ba = true → cacheOn s (ba / 128) = true →
    cachedLine s (ba / 128) = some (k, l) →
    Completes (.mapCacheAccess req pair ba none alt errP errM) s fun t =>
      t.buf.answer = l.data ∧ t.buf.lines = mapPut s.buf.lines k { l with age := 0 } ∧
      Machine.get t F.MAP_HITS = trunc 64 (satAdd 64 (Machine.get s F.MAP_HITS) 1) ∧
      inner t = { inner s with buf := { s.buf with answer := t.buf.answer, lines := t.buf.lines } } ∧
      OnlyFields s t [F.MAP_HITS, F.MAP_DIRTY]) ∧
  (∀ (s : State) (req pair ba k data errP errM : Nat) (alt : Bool) (l : CacheLine), isMirrored s ba = true → cacheOn s (ba / 128) = true →
    Machine.get s F.MAP_STATUS_STATE = 1 → cachedLine s (ba / 128) = some (k, l) →
    Completes (.mapCacheAccess req pair ba (some data) alt errP errM) s fun t =>
      t.buf.lines = mapPut s.buf.lines k ⟨l.la, true, 0, trunc 1024 data⟩ ∧
      Machine.get t F.MAP_HITS = trunc 64 (satAdd 64 (Machine.get s F.MAP_HITS) 1) ∧
      inner t = { inner s with buf := { s.buf with lines := t.buf.lines } } ∧ OnlyFields s t [F.MAP_HITS, F.MAP_DIRTY]) ∧
  (∀ (s : State) (req pair ba d w errP errM : Nat) (alt : Bool), isMirrored s ba = true → cacheOn s (ba / 128) = true →
    cachedLine s (ba / 128) = none →
    ((getSlice s (sliceOf (ba / 128))).side.find? fun e => decide (e.1 = ba / 128)) = some (ba / 128, d) →
    (getSlice s (sliceOf (ba / 128))).det = [] →
    ((List.range (mapWays s)).find? fun x => (mapFind s.buf.lines (wayKey (sliceOf (ba / 128)) (setOf s (ba / 128)) x)).isNone) = some w →
    Completes (.mapCacheAccess req pair ba none alt errP errM) s fun t =>
      t.buf.answer = d ∧
      mapFind t.buf.lines (wayKey (sliceOf (ba / 128)) (setOf s (ba / 128)) w) = some ⟨ba / 128, false, 3, d⟩ ∧
      Machine.get t F.MAP_HITS = trunc 64 (satAdd 64 (Machine.get s F.MAP_HITS) 1) ∧
      Machine.get t F.MAP_SB_HITS = trunc 64 (satAdd 64 (Machine.get s F.MAP_SB_HITS) 1) ∧
      inner t = { inner s with buf := { s.buf with answer := d, lines := t.buf.lines, slices := t.buf.slices } } ∧
      OnlyFields s t [F.MAP_HITS, F.MAP_SB_HITS, F.MAP_DIRTY]) ∧
  (∀ (s : State) (req pair ba errP errM : Nat) (alt : Bool) (w : Option Nat), isMirrored s ba = true → cacheOn s (ba / 128) = true →
    Machine.get s F.MAP_STATUS_STATE = 1 → cachedLine s (ba / 128) = none → (getSlice s (sliceOf (ba / 128))).side = [] →
    isSet s F.MAP_CTRL_PF_EN = false →
    Completes (.mapCacheAccess req pair ba w alt errP errM) s fun t =>
      getSlice t (sliceOf (ba / 128)) = (if (getSlice s (sliceOf (ba / 128))).miss.isSome then
          { getSlice s (sliceOf (ba / 128)) with
            waiting := (getSlice s (sliceOf (ba / 128))).waiting ++ [⟨req, pair, ba, w.map fun d => (3, trunc 1024 d)⟩] }
        else { getSlice s (sliceOf (ba / 128)) with miss := some ⟨req, pair, ba, w.map fun d => (3, trunc 1024 d)⟩ }) ∧
      Machine.get t F.MAP_MISSES = trunc 64 (satAdd 64 (Machine.get s F.MAP_MISSES) 1) ∧
      Machine.get t F.MAP_MISS_WAIT =
        (if (getSlice s (sliceOf (ba / 128))).miss.isSome then trunc 32 (satAdd 32 (Machine.get s F.MAP_MISS_WAIT) 1)
         else Machine.get s F.MAP_MISS_WAIT) ∧
      inner t = { inner s with buf := { s.buf with slices := t.buf.slices } } ∧ OnlyFields s t [F.MAP_MISSES, F.MAP_MISS_WAIT]) ∧
  (∀ (s : State) (a : CacheAccess) (d sl st w errP errM : Nat) (alt : Bool), sl = sliceOf (a.ba / 128) → st = setOf s (a.ba / 128) →
    cacheOn s (a.ba / 128) = true → a.write = none →
    getSlice s sl = { getSlice s sl with miss := some a, waiting := [] } →
    fillData a alt errP errM (putSlice sl { getSlice s sl with miss := none } s) =
      (some d, putSlice sl { getSlice s sl with miss := none } s) →
    cachedLine s (a.ba / 128) = none → s.host.relWait = [] →
    ((List.range (mapWays s)).find? fun x => (mapFind s.buf.lines (wayKey sl st x)).isNone) = some w →
    Completes (.mapCacheFill sl alt errP errM) s fun t =>
      t.buf.answer = d ∧ mapFind t.buf.lines (wayKey sl st w) = some ⟨a.ba / 128, false, 0, d⟩ ∧
      (∀ k, k ≠ wayKey sl st w → mapFind t.buf.lines k = mapFind s.buf.lines k) ∧ (getSlice t sl).miss = none ∧
      inner t = { inner s with buf := { s.buf with answer := d, lines := t.buf.lines, slices := t.buf.slices } } ∧
      (∀ i, i ≠ sl → getSlice t i = getSlice s i) ∧ OnlyFields s t [F.MAP_DIRTY]) ∧
  (∀ (s : State), Machine.get s F.MAP_STATUS_STATE = 0 →
    Completes .mapCacheEnable s fun t =>
      Machine.get t F.MAP_CTRL_EN = 1 ∧ Machine.get t F.MAP_STATUS_STATE = 1 ∧
      inner t = { inner s with buf := { s.buf with lines := [] } } ∧ OnlyFields s t [F.MAP_CTRL_EN, F.MAP_STATUS_STATE]) ∧
  (∀ (s : State), Machine.get s F.MAP_STATUS_STATE ≠ 0 →
    Completes .mapCacheEnable s fun t => Machine.get t F.MAP_CTRL_EN = 1 ∧ Within s t [F.MAP_CTRL_EN]) ∧
  (∀ (s : State), Machine.get s F.MAP_STATUS_STATE = 1 →
    Completes .mapCacheDisable s fun t =>
      Machine.get t F.MAP_CTRL_EN = 0 ∧ Machine.get t F.MAP_STATUS_STATE = 2 ∧
      (∀ i < 32, getSlice t i = { getSlice s i with side := [], det := [] }) ∧
      inner t = { inner s with buf := { s.buf with slices := t.buf.slices } } ∧ OnlyFields s t [F.MAP_CTRL_EN, F.MAP_STATUS_STATE]) ∧
  (∀ (s : State), Machine.get s F.MAP_STATUS_STATE = 2 → (s.buf.slices.all fun p => p.2.miss.isNone) = true →
    Completes .drainDone s fun t =>
      Machine.get t F.MAP_STATUS_STATE = (if isSet s F.MAP_CTRL_EN then 1 else 0) ∧ t.buf.lines = [] ∧ Machine.get t F.MAP_DIRTY = 0 ∧
      Raised t evMAP B.MAP_EVT_DRAIN_DONE ∧
      inner t = { inner s with buf := { (cleanAll s).buf with lines := [] } } ∧
      OnlyFields s t ([F.MAP_STATUS_STATE, F.MAP_DIRTY] ++ evFields evMAP)) ∧
  (∀ (s : State), isSet s F.MAP_MAINT_BUSY = false → Machine.get s F.MAP_STATUS_STATE ≠ 0 →
    fillOf s (Machine.get s F.MAP_MAINT_ADDR) = false →
    Completes .maintClean s fun t =>
      cachedLine t (Machine.get s F.MAP_MAINT_ADDR) =
        (cachedLine s (Machine.get s F.MAP_MAINT_ADDR)).map (fun x => (x.1, { x.2 with dirty := false })) ∧
      Machine.get t F.MAP_MAINT_OP = 0 ∧ Machine.get t F.MAP_MAINT_BUSY = 1 ∧
      inner t = { inner s with
        buf := { ((cachedLine s (Machine.get s F.MAP_MAINT_ADDR)).elim s fun x =>
          if x.2.dirty then ddrWriteLine (128 * x.2.la) x.2.data s else s).buf with lines := t.buf.lines } } ∧
      OnlyFields s t [F.MAP_MAINT_OP, F.MAP_MAINT_BUSY, F.MAP_DIRTY]) ∧
  (∀ (s : State), isSet s F.MAP_MAINT_BUSY = false → Machine.get s F.MAP_STATUS_STATE ≠ 0 →
    fillOf s (Machine.get s F.MAP_MAINT_ADDR) = false →
    Completes .maintInvalidate s fun t =>
      (∀ x ∈ (cachedLine s (Machine.get s F.MAP_MAINT_ADDR)).toList, mapFind t.buf.lines x.1 = none) ∧
      Machine.get t F.MAP_MAINT_OP = 1 ∧ Machine.get t F.MAP_MAINT_BUSY = 1 ∧
      (∀ e ∈ (getSlice t (sliceOf (Machine.get s F.MAP_MAINT_ADDR))).side, e.1 ≠ Machine.get s F.MAP_MAINT_ADDR) ∧
      inner t = { inner s with
        buf := { ((cachedLine s (Machine.get s F.MAP_MAINT_ADDR)).elim s fun x =>
          if x.2.dirty then ddrWriteLine (128 * x.2.la) x.2.data s else s).buf with lines := t.buf.lines, slices := t.buf.slices } } ∧
      OnlyFields s t [F.MAP_MAINT_OP, F.MAP_MAINT_BUSY, F.MAP_DIRTY]) ∧
  (∀ (s : State), isSet s F.MAP_MAINT_BUSY = false → Machine.get s F.MAP_STATUS_STATE ≠ 0 →
    Completes .maintCleanAll s fun t =>
      (∀ p ∈ t.buf.lines, p.2.dirty = false) ∧ Machine.get t F.MAP_DIRTY = 0 ∧ Machine.get t F.MAP_MAINT_OP = 2 ∧
      Machine.get t F.MAP_MAINT_BUSY = 1 ∧ inner t = { inner s with buf := (cleanAll s).buf } ∧
      OnlyFields s t [F.MAP_MAINT_OP, F.MAP_MAINT_BUSY, F.MAP_DIRTY]) ∧
  (∀ (s : State) (i : Instr) (op : Nat), (i, op) ∈ [(Instr.maintClean, 0), (.maintInvalidate, 1), (.maintCleanAll, 2)] →
    isSet s F.MAP_MAINT_BUSY = false → Machine.get s F.MAP_STATUS_STATE = 0 →
    Completes i s fun t =>
      Machine.get t F.MAP_MAINT_OP = op ∧ Raised t evMAP B.MAP_EVT_MAINT_DONE ∧ Within s t (F.MAP_MAINT_OP :: evFields evMAP)) ∧
  (∀ (s : State), isSet s F.MAP_MAINT_BUSY = false →
    Completes .maintReserved s fun t =>
      Machine.get t F.MAP_MAINT_OP = 3 ∧ Raised t evMAP B.MAP_EVT_MAINT_ERR ∧ Within s t (F.MAP_MAINT_OP :: evFields evMAP)) ∧
  (∀ (s : State), isSet s F.MAP_MAINT_BUSY = true → s.buf.maint = none →
    Completes .maintDone s fun t =>
      Machine.get t F.MAP_MAINT_BUSY = 0 ∧ Raised t evMAP B.MAP_EVT_MAINT_DONE ∧ Within s t (F.MAP_MAINT_BUSY :: evFields evMAP)) ∧
  (∀ (s : State) (slice la : Nat), slice < 32 → sliceOff s slice = false →
    Completes (.sramError slice la 0) s fun t =>
      Machine.get t F.MAP_SRAM_CE = trunc 32 (satAdd 32 (Machine.get s F.MAP_SRAM_CE) 1) ∧
      Raised t (evMapQ (slice / 8)) B.MAP_QEVT_SRAM_CE ∧ Within s t (F.MAP_SRAM_CE :: evFields (evMapQ (slice / 8)))) ∧
  (∀ (s : State) (la k d w : Nat) (l : CacheLine), sliceOff s (sliceOf la) = false → cachedLine s la = some (k, l) → l.dirty = false →
    (getSlice s (sliceOf la)).ueTimes = [] → sliceOf la < 32 →
    fillData ⟨3, 0, 128 * la, none⟩ false 0 0 (dropLine k (bump F.MAP_SRAM_UE 1 s)) = (some d, dropLine k (bump F.MAP_SRAM_UE 1 s)) →
    ((List.range (mapWays s)).find? fun x =>
      (mapFind (dropLine k s).buf.lines (wayKey (sliceOf la) (setOf s la) x)).isNone) = some w →
    Completes (.sramError (sliceOf la) la 1) s fun t =>
      mapFind t.buf.lines (wayKey (sliceOf la) (setOf s la) w) = some ⟨la, false, 0, d⟩ ∧ (getSlice t (sliceOf la)).ueTimes = [now s] ∧
      Machine.get t F.MAP_SRAM_UE = trunc 32 (satAdd 32 (Machine.get s F.MAP_SRAM_UE) 1) ∧
      Raised t (evMapQ (sliceOf la / 8)) B.MAP_QEVT_SRAM_UE ∧
      inner t = { inner s with buf := { s.buf with lines := t.buf.lines, slices := t.buf.slices } } ∧
      (∀ i, i ≠ sliceOf la → getSlice t i = getSlice s i) ∧
      OnlyFields s t ([F.MAP_SRAM_UE, F.MAP_DIRTY] ++ evFields (evMapQ (sliceOf la / 8)))) ∧
  (∀ (s : State) (slice la : Nat), slice < 32 → sliceOff s slice = false →
    Completes (.sramError slice la 2) s fun t =>
      sliceOff t slice = true ∧ (getSlice t slice).side = [] ∧ (getSlice t slice).det = [] ∧
      Raised t (evMapQ (slice / 8)) B.MAP_QEVT_SLICE_OFF ∧ isExposed t Dom.slice slice = true ∧
      (∀ i, i ≠ slice → getSlice t i = getSlice s i)) ∧
  (∀ (s : State),
    Completes .mapClrCnt s fun t =>
      (∀ f ∈ [F.MAP_HITS, F.MAP_MISSES, F.MAP_SB_HITS, F.MAP_PF_ISSUED, F.MAP_EVICT_DIRTY, F.MAP_MISS_WAIT, F.MAP_SRAM_CE,
        F.MAP_SRAM_UE], Machine.get t f = 0) ∧
      Within s t [F.MAP_HITS, F.MAP_MISSES, F.MAP_SB_HITS, F.MAP_PF_ISSUED, F.MAP_EVICT_DIRTY, F.MAP_MISS_WAIT, F.MAP_SRAM_CE,
        F.MAP_SRAM_UE])

/-- O35. Whatever the 128 data bytes, the word that the code of R345 makes of them decodes without an error, to those bytes; and a
word of zeros, which an unwritten one is, decodes clean too. (R345, R346) -/
def Obligations.EncodedWordsDecodeClean : Prop :=
  decodeWord 0 = .clean 0 ∧ ∀ data : Nat, decodeWord (encodeWord data) = .clean (trunc 1024 data)

/-- O36. Whatever the data and whatever one device adds to its eight symbols of the encoded word, at least one of them changed,
the decoder names that device and gives the data and the encoded word back. (R345, R346) -/
def Obligations.OneDeviceIsCorrected : Prop :=
  ∀ (data j : Nat) (err : Nat → Nat), j < 20 → (∀ i < 8, err i < 256) → (∃ i < 8, err i ≠ 0) →
    decodeWord (encodeWord data ^^^ ((List.range 8).map fun i => err i * 2 ^ (match dataDevs.findIdx? (· = j) with
      | some m => 8 * (16 * i + m)
      | none => 1024 + 8 * (4 * i + (checkDevs.findIdx? (· = j)).getD 0))).sum) = .corrected j (trunc 1024 data) (encodeWord data)

/-- O37. A sample of HU_SENSE, corrected with the values in force, enters the mean, the count below V_LOSS and V_BANK; the
admission limit follows R425; a capacitance test keeps V0 and its time, and ends after 20 ms with C and CAP_LOW where it is low or
has no result; a segment of the journal tail that passes the energy check goes to the ring, in place of the oldest one that a
checkpoint covers where the ring is full, and one that does not pass is counted; a vault that fails closes admission, a write that
may still be retried changes nothing, and one that passes the test opens it; the acknowledge, P_DUMP and CLR_CNT have their
effects. Nothing else changes. (R421, R422, R423, R424, R425, R426, R427, R429, R434, R436, R437) -/
def Obligations.PowerLossReadiness : Prop :=
  (∀ (s s1 : State) (code v bank : Nat) (l : List Nat), s1 = takeCal (fun i => decide (i = 1)) s →
    v = (if Machine.get s F.PLP_HU_CFG_RATIO = 0 then 0
      else ((((16 * (code % 65536) : Nat) - inForceI s1 F.CAL_HU_OFFSET) * inForce s1 F.CAL_HU_GAIN).toNat * 2500000)
        / (2 ^ 34 * max 1 (Machine.get s F.PLP_HU_CFG_RATIO))) →
    l = (v :: s.plp.samples).take 10 → bank = (if s.plp.testV0.isSome then v else l.sum / l.length) →
    Completes (.huSenseSample code) s fun t =>
      t.plp = { s1.plp with
        samples := l, bank := bank, low := if bank < 10000 * Machine.get s F.PLP_HU_TEST_V_LOSS then s.plp.low + 1 else 0 } ∧
      Machine.get t F.PLP_V_BANK = trunc 16 (min 65535 (bank / 10000)) ∧
      Machine.get t F.PLP_V_BANK_E = trunc 16 (min 65535 (energy2 t / (2 * 10 ^ 15))) ∧
      inner t = { inner s1 with plp := t.plp } ∧ OnlyFields s1 t [F.PLP_V_BANK, F.PLP_V_BANK_E] ∧
      (s.cal.fresh = [] → inner t = { inner s with plp := t.plp } ∧ OnlyFields s t [F.PLP_V_BANK, F.PLP_V_BANK_E])) ∧
  (∀ (s : State), s.pwr.powerLoss = false →
    Completes .admissionLimitUpdate s fun t =>
      Machine.get t F.PLP_D_MAX = trunc 64 (dMax s) ∧ Machine.get t F.PLP_D_JOURNAL = trunc 64 (dJournal s) ∧
      isSet t F.PLP_STATUS_WRITE_THROUGH = !isSet s F.PLP_STATUS_VAULT_OK ∧
      isSet t F.PLP_STATUS_ADMIT_CLOSED = decide (dMax s < Machine.get s F.PLP_D_DIRTY) ∧
      (dMax s < Machine.get s F.PLP_D_DIRTY → isSet s F.PLP_STATUS_ADMIT_CLOSED = false → Raised t evPLP B.PLP_EVT_ADMIT_CLOSED) ∧
      inner t = { inner s with plp := { s.plp with header := t.plp.header, vault := t.plp.vault, state1 := t.plp.state1 } } ∧
      (s.plp.header = none → t.plp = s.plp ∧
        OnlyFields s t ([F.PLP_D_MAX, F.PLP_D_JOURNAL, F.PLP_STATUS_WRITE_THROUGH, F.PLP_STATUS_ADMIT_CLOSED] ++ evFields evPLP)) ∧
      OnlyFields s t ([F.PLP_D_MAX, F.PLP_D_JOURNAL, F.PLP_STATUS_WRITE_THROUGH, F.PLP_STATUS_ADMIT_CLOSED, F.PLP_CHECK_FAIL_VAULT] ++
        evFields evPLP)) ∧
  (∀ (s : State), s.plp.testV0 = none → s.pwr.powerLoss = false →
    Completes .capTest s fun t =>
      inner t = { inner s with plp := { s.plp with testV0 := some s.plp.bank, testAt := now s } } ∧ OnlyFields s t []) ∧
  (∀ (s : State), s.plp.testV0 = none → s.pwr.powerLoss = false → (∀ x ∈ s.plp.capAt, elapsed s x (24 * 3600 * 156250000) = true) →
    Completes .capTestStart s fun t =>
      inner t = { inner s with plp := { s.plp with testV0 := some s.plp.bank, testAt := now s, capAt := some (now s) } } ∧ OnlyFields s t []) ∧
  (∀ (s : State) (v0 c : Nat), s.plp.testV0 = some v0 → elapsed s s.plp.testAt 3125000 = true →
    c = (if v0 ≤ s.plp.bank ∨ s.plp.bank = 0 then 0
      else min 65535 (capacitance (Machine.get s F.PLP_HU_TEST_R_TEST) v0 s.plp.bank)) →
    Completes .capTestEnd s fun t =>
      Machine.get t F.PLP_HU_CAP_C = trunc 16 c ∧
      ((c = 0 ∨ 10 * c < 8 * Machine.get s F.PLP_HU_CAP_C_NOM) → Raised t evPLP B.PLP_EVT_CAP_LOW) ∧
      inner t = { inner s with plp := { s.plp with testV0 := none } } ∧
      OnlyFields s t ([F.PLP_HU_CAP_C, F.PLP_V_BANK, F.PLP_V_BANK_E] ++ evFields evPLP)) ∧
  (∀ (s : State) (rs : List JournalRecord), isSet s F.PLP_STATUS_VAULT_OK = true → s.pwr.powerLoss = false →
    rs = fitting (4 * 2 ^ 20) (fullTail s) → rs ≠ [] →
    Machine.get s F.PLP_D_DIRTY + (rs.map recordSize).sum ≤ Machine.get s F.PLP_D_MAX →
    (s.plp.vault.ring.length < 2048 ∨ (s.plp.vault.ring.headD ⟨s.lib.ckptEpoch, []⟩).epoch < s.lib.ckptEpoch) →
    Completes .journalSegmentWrite s fun t =>
      inner t = { inner s with
        plp := { s.plp with
          vault := { s.plp.vault with
            ring := (if 2048 ≤ s.plp.vault.ring.length then s.plp.vault.ring.drop 1 else s.plp.vault.ring) ++ [⟨Machine.get s F.ARB_EPOCH, rs⟩],
            first := if 2048 ≤ s.plp.vault.ring.length then s.plp.vault.first + 1 else s.plp.vault.first },
          tail := (fullTail s).drop rs.length },
        lib := { s.lib with jpages := [] } } ∧ OnlyFields s t []) ∧
  (∀ (s : State) (rs : List JournalRecord), isSet s F.PLP_STATUS_VAULT_OK = true → s.pwr.powerLoss = false →
    rs = fitting (4 * 2 ^ 20) (fullTail s) → rs ≠ [] →
    Machine.get s F.PLP_D_MAX < Machine.get s F.PLP_D_DIRTY + (rs.map recordSize).sum →
    Completes .journalSegmentWrite s fun t =>
      Machine.get t F.PLP_CHECK_FAIL_VAULT = trunc 32 (satAdd 32 (Machine.get s F.PLP_CHECK_FAIL_VAULT) 1) ∧
      Within s t [F.PLP_CHECK_FAIL_VAULT]) ∧
  (∀ (s : State) (x : VaultSeen), s.pwr.powerLoss = false → x.rate < 65536 →
    Completes (.vaultChange (.tested x)) s fun t =>
      isSet t F.PLP_STATUS_VAULT_OK =
        (decide (0x10400 ≤ x.version) && decide (x.lba = 4096) && decide (128 ≤ x.gib) && decide (4000 ≤ x.rate) && x.header) ∧
      Machine.get t F.PLP_R_VAULT_MEAS = x.rate ∧ isSet t F.PLP_STATUS_VAULT_SLOW = decide (rVault t < 12000000000) ∧
      (isSet t F.PLP_STATUS_VAULT_OK ≠ isSet s F.PLP_STATUS_VAULT_OK → Raised t evPLP B.PLP_EVT_VAULT_CHANGE) ∧
      (isSet s F.PLP_STATUS_VAULT_OK = true → isSet t F.PLP_STATUS_VAULT_OK = false →
        isSet t F.PLP_STATUS_WRITE_THROUGH = true ∧ Machine.get t F.PLP_D_MAX = 0) ∧
      Within s t ([F.PLP_STATUS_VAULT_OK, F.PLP_R_VAULT_MEAS, F.PLP_STATUS_VAULT_SLOW] ++
        (if isSet s F.PLP_STATUS_VAULT_OK && !vaultUsable x then [F.PLP_STATUS_WRITE_THROUGH, F.PLP_D_MAX, F.PLP_STATUS_ADMIT_CLOSED] else []) ++
        evFields evPLP)) ∧
  (∀ (s : State) (ev : VaultEvent) (n : Nat), isSet s F.PLP_STATUS_VAULT_OK = true → s.pwr.powerLoss = false →
    (ev = .linkLost ∨ ev = .critical ∨ ev = .writeFailed n ∧ 3 ≤ n) →
    Completes (.vaultChange ev) s fun t =>
      isSet t F.PLP_STATUS_VAULT_OK = false ∧ isSet t F.PLP_STATUS_WRITE_THROUGH = true ∧ Machine.get t F.PLP_D_MAX = 0 ∧
      isSet t F.PLP_STATUS_ADMIT_CLOSED = decide (0 < Machine.get s F.PLP_D_DIRTY) ∧ Raised t evPLP B.PLP_EVT_VAULT_CHANGE ∧
      Within s t ([F.PLP_STATUS_VAULT_OK, F.PLP_STATUS_WRITE_THROUGH, F.PLP_D_MAX, F.PLP_STATUS_ADMIT_CLOSED] ++ evFields evPLP)) ∧
  (∀ (s : State) (n : Nat), n < 3 → Completes (.vaultChange (.writeFailed n)) s fun t => t = s) ∧
  (∀ (s : State) (req : Nat), (req < 4 ∨ req = 8) →
    Completes (.lossAck req) s fun t =>
      inner t = { inner s with plp := { s.plp with lossWarn := false } } ∧ OnlyFields s t []) ∧
  (∀ (s : State) (v : Nat), v % 65536 ≠ 0 →
    Completes (.pDumpWrite v) s fun t => Machine.get t F.PLP_P_DUMP = trunc 16 v ∧ Within s t [F.PLP_P_DUMP]) ∧
  (∀ (s : State) (v : Nat), v % 65536 = 0 → Completes (.pDumpWrite v) s fun t => t = s) ∧
  (∀ (s : State),
    Completes .plpClrCnt s fun t =>
      (∀ f ∈ [F.PLP_CHECK_FAIL_EXT, F.PLP_CHECK_FAIL_VAULT, F.PLP_DUMPS], Machine.get t f = 0) ∧
      Within s t [F.PLP_CHECK_FAIL_EXT, F.PLP_CHECK_FAIL_VAULT, F.PLP_DUMPS])

/-- O38. A loss declared by PFAIL_N, or by the bank after two samples below V_LOSS, stops the mechanism, silences the host and
starts the dump where the vault is usable; the end of the dump keeps the units that are intact and is reported, and the hold
begins; its release is a chip reset with trigger 5; without a directory the rebuild imports every slot first; over a directory, or
once every slot is imported, the rebuild ends with its progress at step 4, and over a directory with no set and nothing read the
map is empty and the counters go on above the highest stamps; MAP_READY makes the namespaces ready and ends the recovery. Where
the statement names what changes, nothing else does. (R170, R284, R430, R431, R432, R435, R522, R524, R525) -/
def Obligations.LossDumpAndRecovery : Prop :=
  (∀ (s : State) (bank : Bool), s.pwr.powerLoss = false → s.pwr.hold = 0 → s.pwr.dormant = false → (bank = true → 2 ≤ s.plp.low) →
    Completes (.powerLossDeclare bank) s fun t => LossDeclared s.pwr.railBad s t) ∧
  (∀ (s : State) (units : Nat), s.plp.dumping = true → s.pwr.powerLoss = true → s.pwr.resetDue ≠ 1 →
    isSet s F.DMP_STATUS_FATAL = false →
    Completes (.dumpEnd units) s fun t =>
      t.plp = { s.plp with vault := { s.plp.vault with dump := s.plp.vault.dump.take units }, dumping := false, dumped := true } ∧
      t.pwr = { s.pwr with hold := 1 } ∧
      Machine.get t F.PLP_DUMP_LAST_MS = trunc 32 (min 4294967295 ((now s - s.plp.lossAt) / 156250)) ∧
      Machine.get t F.PLP_DUMP_LAST_MIB = trunc 32 ((((s.plp.vault.dump.take units).map fun u => u.blocks.length).sum * 4096) / 2 ^ 20) ∧
      Machine.get t F.PLP_DUMPS = trunc 32 (satAdd 32 (Machine.get s F.PLP_DUMPS) 1) ∧
      (s.plp.vault.dump.length ≤ units → Raised t evPLP B.PLP_EVT_DUMP_DONE) ∧
      inner t = { inner s with plp := t.plp, pwr := t.pwr } ∧
      OnlyFields s t ([F.PLP_DUMP_LAST_MS, F.PLP_DUMP_LAST_MIB, F.PLP_DUMPS] ++
        if s.plp.vault.dump.length ≤ units then evFields evPLP else [])) ∧
  (∀ (s : State) (units : Nat), s.plp.dumping = false → s.pwr.powerLoss = true → s.pwr.hold = 0 → s.pwr.resetDue ≠ 1 →
    Completes (.dumpEnd units) s fun t => inner t = { inner s with pwr := { s.pwr with hold := 1 } } ∧ OnlyFields s t []) ∧
  (∀ (s : State) (pin : Bool) (us : Nat), s.pwr.hold = 1 → (pin = true ∨ s.pwr.railBad = [] ∧ 10000 ≤ us) →
    Completes (.powerLossHoldRelease pin us) s fun t => ChipReset 5 s t []) ∧
  (∀ (s : State) (rows : List FoundRow),
    s.pwr.rdyOk = true → isSet s F.PWR_STATUS_MAP_READY = false → isSet s F.DMP_STATUS_FATAL = false → s.pwr.powerLoss = false →
    validDirectory s.flash = none → Machine.get s F.PWR_MAP_PROGRESS_STEP = 0 →
    Completes (.mapRebuild rows) s fun t =>
      Machine.get t F.PWR_STATUS_START_STEP = 15 ∧ Machine.get t F.PWR_MAP_PROGRESS_STEP = 1 ∧ Raised t evPWR B.PWR_EVT_DIR_FAIL ∧
      inner t = { inner s with
        lib := { s.lib with
          gmap := [], frags := [], fragUsed := [], unavail := [], filling := [],
          discs := s.lib.discs.map fun p => (p.1, { p.2 with importing := true }) },
        host := { s.host with importQ := List.range 1152 } } ∧
      OnlyFields s t ([F.PWR_STATUS_START_STEP, F.PWR_MAP_PROGRESS_STEP] ++ evFields evPWR)) ∧
  (∀ (s s0 : State) (rows : List FoundRow) (d : Option Directory),
    s.pwr.rdyOk = true → isSet s F.PWR_STATUS_MAP_READY = false → isSet s F.DMP_STATUS_FATAL = false → s.pwr.powerLoss = false →
    validDirectory s.flash = d → (d = none → Machine.get s F.PWR_MAP_PROGRESS_STEP ≠ 0 ∧ s.host.importQ = []) →
    s0 = put F.PWR_STATUS_START_STEP 15 { s with lib := { s.lib with gmap := [], frags := [], fragUsed := [], unavail := [], filling := [] } } →
    Completes (.mapRebuild rows) s fun t =>
      t = d.elim (rebuildMap rows 0 s0) (fun x => rebuildMap rows x.wstamp (applyDirectory x s0)) ∧
      Machine.get t F.PWR_MAP_PROGRESS_STEP = 4 ∧ Machine.get t F.PWR_MAP_PROGRESS_FRAC = 65535 ∧ Machine.get t F.PWR_STATUS_COLD = 1) ∧
  (∀ (s : State) (d : Directory),
    s.pwr.rdyOk = true → isSet s F.PWR_STATUS_MAP_READY = false → isSet s F.DMP_STATUS_FATAL = false → s.pwr.powerLoss = false →
    validDirectory s.flash = some d → d.sets = [] → s.plp.noVault = false → s.plp.vault.ring = [] → s.plp.tail = [] → s.plp.units = [] →
    s.plp.maskLost = [] → s.plp.state1 = false → validHeader s.plp.vault = none → s.par.ckpt = [] → memberCkpts (applyDirectory d s) = [] →
    Completes (.mapRebuild []) s fun t =>
      Machine.get t F.PWR_STATUS_START_STEP = 15 ∧ Machine.get t F.PWR_MAP_PROGRESS_STEP = 4 ∧ Machine.get t F.PWR_STATUS_COLD = 1 ∧
      Machine.get t F.HST_STAMP = trunc 64 (max (Machine.get s F.HST_STAMP) (2 ^ 20)) ∧
      Machine.get t F.ARB_WSTAMP = trunc 64 (2 ^ 20 + d.wstamp) ∧
      inner t = { inner s with
        lib := { s.lib with
          gmap := [], frags := [], fragUsed := [], unavail := [], filling := [], sets := [], discs := t.lib.discs,
          spaces := d.spaces.map fun n => { n with ready := false }, formCtr := d.formCtr + 1 },
        host := toldHost s t } ∧
      OnlyFields s t ([F.PWR_STATUS_START_STEP, F.PWR_MAP_PROGRESS_STEP, F.PWR_MAP_PROGRESS_FRAC, F.PWR_STATUS_COLD, F.HST_STAMP,
        F.ARB_WSTAMP, F.ARB_EPOCH] ++ fragFields ++ parFields s ++ arbourFields s)) ∧
  (∀ (s : State), isSet s F.PWR_STATUS_MAP_READY = false → Machine.get s F.PWR_MAP_PROGRESS_STEP = 4 →
    isSet s F.DMP_STATUS_FATAL = false → s.pwr.powerLoss = false →
    Completes .mapReady s fun t =>
      Machine.get t F.PWR_STATUS_MAP_READY = 1 ∧ Machine.get t F.PWR_STATUS_START_STEP = 16 ∧
      Machine.get t F.PWR_START_TIME_MAP = trunc 16 (min 65535 (now s / 156250000)) ∧ Raised t evPWR B.PWR_EVT_MAP_READY ∧
      (∀ n ∈ t.lib.spaces, n.ready = true) ∧
      (isSet s F.PLP_STATUS_VAULT_OK = true → Machine.get s F.PLP_D_DIRTY + Config.recordBytes 5 ≤ Machine.get s F.PLP_D_MAX →
        t.plp.vault.dump = [] ∧ t.plp.vault.dumpTail = [] ∧ t.plp.vault.dumpLines = []) ∧
      (isSet s F.PLP_STATUS_RECOVERING = true →
        isSet t F.PLP_STATUS_RECOVERING = false ∧ t.plp.units = [] ∧ t.plp.maskLost = [] ∧ Raised t evPLP B.PLP_EVT_RECOVERED) ∧
      (isSet s F.PAR_CTRL_RESHAPE_AUTO = false → inner t = { inner s with
        lib := { s.lib with spaces := s.lib.spaces.map fun n => { n with ready := true } },
        plp := { s.plp with
          vault := t.plp.vault, header := t.plp.header, state1 := t.plp.state1, units := t.plp.units, maskLost := t.plp.maskLost } } ∧
        OnlyFields s t ([F.PWR_STATUS_MAP_READY, F.PWR_STATUS_START_STEP, F.PWR_START_TIME_MAP, F.PLP_STATUS_RECOVERING,
          F.PLP_CHECK_FAIL_VAULT] ++ evFields evPWR ++ evFields evPLP)))

/-- O39. A sample that is due is taken: the die sensors read the corrected values, and each head's laser throttle and shutdown
follow their thresholds with hysteresis. A sample of a grid whose 64 sensors read one temperature far below every threshold
changes nothing else but the exclusion counts; one at or above THROTTLE sets the throttle, counts the entry and begins the grace
where no step is in force; one at or above SHUT begins the shutdown: the status, the event and the count are set, the host is
silent and the block stops or holds. A block that has not started, or is held, or has taken a sample within the period, ignores
it. The end of the grace puts step 1 in force, an enforcement step advances it by one to step 4 at most, and a removal, 10 s
later, takes one step back, each changing nothing else where no bay need be parked, slowed or brought back; ORDERLY_MAX ends a
stop with the units dumped so far; the restart, after 10 s below 105 °C, is a chip reset with trigger 6 that shows the shutdown
and its count, and three shutdowns in 24 hours leave the block held; a written threshold is no larger than its fused bound, byte
by byte; CLR_CNT clears the counters. (R438, R439, R441, R442, R444, R446, R447, R448, R449, R450, R451, R467) -/
def Obligations.ThermalManagement : Prop :=
  (∀ (s s0 : State) (die : List Int) (kept : Nat), s.pwr.started = true → s.pwr.hold = 0 → s.pwr.powerLoss = false → sampleDue s = true →
    s0 = takeCal (fun i => decide (38 ≤ i) && decide (i < 103)) { s with thm := { s.thm with sampleAt := some (now s) } } →
    Completes (.thermalSample die kept) s fun t =>
      t.thm.sampleAt = some (now s) ∧
      (∀ i < 64, -32768 ≤ die.getD i 0 - inForceI s0 (F.CAL_DIE i) → die.getD i 0 - inForceI s0 (F.CAL_DIE i) < 32768 →
        Machine.getI t (F.THM_DIE i) = die.getD i 0 - inForceI s0 (F.CAL_DIE i)) ∧
      (s.cal.fresh = [] → ∀ h ∈ headsOf s, ∀ x ∈ laserTemp s h,
        decide (bitOf (Machine.get t F.THM_LASER_THR) h = 1) =
          hysteresis (decide (bitOf (Machine.get s F.THM_LASER_THR) h = 1)) x (64 * (Machine.get s F.THM_L_THR_THROTTLE : Int)) (64 * 3) ∧
        decide (bitOf (Machine.get t F.THM_LASER_STATE) h = 1) =
          hysteresis (decide (bitOf (Machine.get s F.THM_LASER_STATE) h = 1)) x (64 * (Machine.get s F.THM_L_THR_SHUT : Int)) (64 * 10))) ∧
  (∀ (s : State) (die : List Int) (kept : Nat) (v : Int), s.pwr.started = true → s.pwr.hold = 0 → s.pwr.powerLoss = false →
    sampleDue s = true → noContexts s = true → s.cal.fresh = [] → (∀ i < 64, die.getD i 0 - inForceI s (F.CAL_DIE i) = v) → -2048 ≤ v →
    v + 160 < 16 * (Machine.get s F.THM_J_THR_WARN : Int) → v < 16 * (Machine.get s F.THM_J_THR_THROTTLE : Int) →
    v < 16 * (Machine.get s F.THM_J_THR_SHUT : Int) →
    isSet s F.THM_STATUS_WARN = false → isSet s F.THM_STATUS_THROTTLE = false → Machine.get s F.THM_EXCLUDED = 0 →
    isSet s F.THM_STATUS_GRID_DEGRADED = false → (∀ h ∈ headsOf s, Machine.get s (F.HL_STATUS_STATE h) ≠ 5) →
    (∀ b ∈ baysOf s, linkUp s b = false) → s.thm.lWarn = [] → s.thm.ntcWarn = [] → s.thm.relief = [] → s.thm.nearAt = none →
    s.thm.stop = 0 → s.thm.tmt = 0 → tmtDemand s v = 0 →
    Completes (.thermalSample die kept) s fun t =>
      (∀ i < 64, Machine.getI t (F.THM_DIE i) = v) ∧ Machine.getI t F.THM_HOT_TJ = v ∧ Machine.get t F.THM_HOT_SENSOR = 0 ∧
      Machine.get t F.THM_STATUS_FAST = 0 ∧ inner t = { inner s with thm := { s.thm with outside := t.thm.outside, sampleAt := some (now s) } } ∧
      OnlyFields s t ([F.THM_HOT_TJ, F.THM_HOT_SENSOR, F.THM_STATUS_FAST] ++ (List.range 64).map F.THM_DIE)) ∧
  (∀ (s : State) (die : List Int) (kept : Nat) (v : Int), s.pwr.started = true → s.pwr.hold = 0 →
    s.pwr.powerLoss = false → sampleDue s = true → (∀ i < 64, die.getD i 0 - inForceI s (F.CAL_DIE i) = v) → s.cal.fresh = [] →
    16 * (Machine.get s F.THM_J_THR_THROTTLE : Int) ≤ v → v < 16 * (Machine.get s F.THM_J_THR_SHUT : Int) →
    isSet s F.THM_STATUS_THROTTLE = false → Machine.get s F.THM_EXCLUDED = 0 → s.thm.stop = 0 →
    s.thm.tmt = 0 → tmtDemand s v = 0 →
    Completes (.thermalSample die kept) s fun t =>
      Machine.get t F.THM_STATUS_THROTTLE = 1 ∧
      Machine.get t F.THM_THROTTLES_ENTRIES = trunc 16 (satAdd 16 (Machine.get s F.THM_THROTTLES_ENTRIES) 1) ∧
      Raised t evTHM B.THM_EVT_J_THROTTLE ∧ Machine.get t F.THM_ENF_STEP = Machine.get s F.THM_ENF_STEP ∧
      (Machine.get s F.THM_ENF_STEP = 0 → Machine.get t F.THM_STATUS_GRACE = 1) ∧
      t.thm.setAt = now s ∧ t.thm.ownAt = now s ∧ t.thm.stop = 0 ∧ Machine.getI t F.THM_HOT_TJ = v ∧ t.pwr = s.pwr) ∧
  (∀ (s : State) (die : List Int) (kept : Nat) (v : Int), s.pwr.started = true → s.pwr.hold = 0 →
    s.pwr.powerLoss = false → sampleDue s = true → (∀ i < 64, die.getD i 0 - inForceI s (F.CAL_DIE i) = v) → s.cal.fresh = [] → v < 16 * 2048 →
    16 * (Machine.get s F.THM_J_THR_SHUT : Int) ≤ v → Machine.get s F.THM_EXCLUDED = 0 → s.thm.stop = 0 → s.plp.dumping = false →
    Completes (.thermalSample die kept) s fun t =>
      Machine.get t F.THM_STATUS_SHUTDOWN = 1 ∧ Raised t evTHM B.THM_EVT_SHUTDOWN ∧
      Machine.get t F.THM_SHUTDOWNS_J = trunc 16 (satAdd 16 (Machine.get s F.THM_SHUTDOWNS_J) 1) ∧
      t.thm.shutAt = Machine.get s F.PWR_WAKE_TIME :: s.thm.shutAt ∧ t.host.cmds = [] ∧ Machine.get t F.HST_INFLIGHT = 0 ∧
      ((t.thm.stop = 1 ∧ t.plp.dumping = true ∧ t.pwr.hold = 0) ∨ (t.thm.stop = 2 ∧ t.plp.dumping = false ∧ t.pwr.hold = 2)) ∧
      (16 * 120 ≤ v → t.thm.stop = 2) ∧ (isSet s F.PLP_STATUS_VAULT_OK = false → t.thm.stop = 2) ∧
      MechanismStopped s t) ∧
  (∀ (s : State) (die : List Int) (kept : Nat),
    (s.pwr.started = false ∨ s.pwr.hold ≠ 0 ∨ s.pwr.powerLoss = true ∨ sampleDue s = false) →
    Completes (.thermalSample die kept) s fun t => t = s) ∧
  (∀ (s : State), isSet s F.THM_STATUS_THROTTLE = true → isSet s F.THM_STATUS_GRACE = true → s.thm.stop = 0 →
    elapsed s s.thm.setAt (156250 * Machine.get s F.THM_GRACE) = true →
    Completes .graceExpiry s fun t =>
      Machine.get t F.THM_STATUS_GRACE = 0 ∧ Machine.get t F.THM_ENF_STEP = max 1 (Machine.get s F.THM_ENF_STEP) ∧
      t.thm.own = max 1 s.thm.own ∧ t.thm.ownAt = now s ∧
      (Machine.get s F.THM_ENF_STEP = 0 → Raised t evTHM B.THM_EVT_ENF_CHANGE ∧
        Machine.get t F.THM_THROTTLES_ENF = trunc 16 (satAdd 16 (Machine.get s F.THM_THROTTLES_ENF) 1)) ∧
      (activeHeads s ≤ headLimit 1 → (∀ b ∈ baysOf s, isReading s b = false) →
        inner t = { inner s with thm := { s.thm with own := max 1 s.thm.own, ownAt := now s } } ∧
        OnlyFields s t ([F.THM_STATUS_GRACE, F.THM_ENF_STEP, F.THM_THROTTLES_ENF] ++ evFields evTHM))) ∧
  (∀ (s : State) (n : Nat), isSet s F.THM_STATUS_THROTTLE = true → isSet s F.THM_STATUS_GRACE = false → s.thm.stop = 0 →
    s.thm.own = n → 0 < n → n < 4 → elapsed s s.thm.ownAt (15625000 * Machine.get s F.THM_ENF_STEP_T) = true →
    Completes .enforcementStep s fun t =>
      Machine.get t F.THM_ENF_STEP = max (n + 1) (Machine.get s F.THM_ENF_STEP) ∧ t.thm.own = n + 1 ∧ t.thm.ownAt = now s ∧
      (Machine.get s F.THM_ENF_STEP ≤ n → Raised t evTHM B.THM_EVT_ENF_CHANGE) ∧
      (Machine.get s F.THM_ENF_STEP = n → activeHeads s ≤ headLimit (n + 1) → (∀ b ∈ baysOf s, isReading s b = false) →
        inner t = { inner s with thm := { s.thm with own := n + 1, ownAt := now s } } ∧
        OnlyFields s t (F.THM_ENF_STEP :: evFields evTHM))) ∧
  (∀ (s : State) (n : Nat), isSet s F.THM_STATUS_THROTTLE = false → s.thm.tmt = 0 → s.thm.stop = 0 →
    Machine.get s F.THM_ENF_STEP = n + 1 → elapsed s s.thm.removeAt 1562500000 = true →
    Completes .enforcementRemove s fun t =>
      Machine.get t F.THM_ENF_STEP = trunc 3 n ∧ Raised t evTHM B.THM_EVT_ENF_CHANGE ∧
      t.thm.own = min s.thm.own n ∧ t.thm.removeAt = now s ∧
      (s.thm.parked = [] → s.thm.slowed = [] →
        inner t = { inner s with thm := { s.thm with own := min s.thm.own n, removeAt := now s } } ∧
        OnlyFields s t (F.THM_ENF_STEP :: evFields evTHM))) ∧
  (∀ (s : State) (kept : Nat), s.thm.stop = 1 →
    elapsed s s.thm.stopAt (156250000 * Machine.get s F.THM_ENF_ORDERLY_MAX) = true →
    Completes (.orderlyMaxExpiry kept) s fun t =>
      t.pwr = { s.pwr with hold := 2 } ∧ t.thm = { s.thm with stop := 2 } ∧
      (s.plp.dumping = true → t.plp = { s.plp with
        vault := { s.plp.vault with dump := s.plp.vault.dump.take kept }, dumping := false, dumped := true }) ∧
      (s.plp.dumping = false → t.plp = s.plp) ∧
      inner t = { inner s with thm := t.thm, pwr := t.pwr, plp := t.plp } ∧ OnlyFields s t []) ∧
  (∀ (s : State) (ao : Int) (ms : Nat), s.pwr.hold = 2 → recentShutdowns s < 3 → ao < 16 * 105 → 10000 ≤ ms →
    Completes (.thermalRestart ao ms) s fun t =>
      Raised t evTHM B.THM_EVT_SHUTDOWN ∧ Machine.get t F.THM_SHUTDOWNS_J = trunc 16 (min 65535 s.thm.shutAt.length) ∧
      t.thm = { shutAt := s.thm.shutAt } ∧ ChipReset 6 s t (F.THM_SHUTDOWNS_J :: evFields evTHM)) ∧
  (∀ (s : State) (ao : Int) (ms : Nat), 3 ≤ recentShutdowns s → Completes (.thermalRestart ao ms) s fun t => t = s) ∧
  (∀ (s : State) (v : Nat),
    Completes (.thresholdWrite false v) s fun t =>
      Machine.get t F.THM_J_THR_WARN = min (v % 256) (Machine.get s F.FUS_BOUNDS % 256) ∧
      Machine.get t F.THM_J_THR_THROTTLE = min (v / 256 % 256) (Machine.get s F.FUS_BOUNDS / 256 % 256) ∧
      Machine.get t F.THM_J_THR_SHUT = min (v / 65536 % 256) (Machine.get s F.FUS_BOUNDS / 65536 % 256) ∧
      Within s t [F.THM_J_THR_WARN, F.THM_J_THR_THROTTLE, F.THM_J_THR_SHUT]) ∧
  (∀ (s : State) (v : Nat),
    Completes (.thresholdWrite true v) s fun t =>
      Machine.get t F.THM_L_THR_WARN = min (v % 256) (Machine.get s F.FUS_BOUNDS / 2 ^ 24 % 256) ∧
      Machine.get t F.THM_L_THR_THROTTLE = min (v / 256 % 256) (Machine.get s F.FUS_BOUNDS / 2 ^ 32 % 256) ∧
      Machine.get t F.THM_L_THR_SHUT = min (v / 65536 % 256) (Machine.get s F.FUS_BOUNDS / 2 ^ 40 % 256) ∧
      Within s t [F.THM_L_THR_WARN, F.THM_L_THR_THROTTLE, F.THM_L_THR_SHUT]) ∧
  (∀ (s : State),
    Completes .thmClrCnt s fun t =>
      (∀ f ∈ [F.THM_EXCLUSIONS, F.THM_THROTTLES_ENTRIES, F.THM_THROTTLES_ENF, F.THM_SHUTDOWNS_J, F.THM_SHUTDOWNS_HEAD], Machine.get t f = 0) ∧
      Within s t [F.THM_EXCLUSIONS, F.THM_THROTTLES_ENTRIES, F.THM_THROTTLES_ENF, F.THM_SHUTDOWNS_J, F.THM_SHUTDOWNS_HEAD])

/-- O40. A procedure begins with a reference within 2 % of 1.250 V, whoever asks for it; a reading outside ends it unchanged, and
a procedure under way makes it wait; a fresh reference lets the expanders begin at step 4; the automatic one begins once AUTO
hours have passed. A PWM period carries a step on, and its last one ends it and begins the next. The end of the last step makes
the block idle, tells whoever asked, and begins the next procedure that waits. A value that software writes to an item is held,
clamped to its bounds, and waits for its boundary; the four actions of Calibrate begin the full procedure, begin that of the named
expanders, restore an image that is whole and within bounds (or refuse it as a whole), and are refused. Where the statement says
what changes, nothing else does. (R417, R419, R453, R454, R457, R458, R459, R460, R461, R462, R463, R465) -/
def Obligations.Calibration : Prop :=
  (∀ (s : State) (x : CalSeen), s.cal.job = none → 1225000 ≤ x.ref → x.ref ≤ 1275000 →
    Completes (.calStart x) s fun t => CalBegins ⟨513, 0, 0, 0, []⟩ x false s t) ∧
  (∀ (s : State) (x : CalSeen), s.cal.job = none → (x.ref < 1225000 ∨ 1275000 < x.ref) →
    Completes (.calStart x) s fun t =>
      Machine.get t F.CAL_STATUS_REF_OK = 0 ∧ Machine.get t F.CAL_STATUS_BUSY = 0 ∧ Machine.get t F.CAL_STATUS_STEP = 0 ∧
      Raised t evCAL B.CAL_EVT_REF_FAULT ∧ Raised t evCAL B.CAL_EVT_DONE ∧ t.cal.job = none ∧ t.cal.setAt = s.cal.setAt ∧
      inner t = { inner s with cal := t.cal } ∧ t.cal.fresh = s.cal.fresh ∧
      OnlyFields s t ([F.CAL_SKIPPED, F.CAL_STATUS_BUSY, F.CAL_STATUS_STEP, F.CAL_REF, F.CAL_STATUS_REF_OK] ++ evFields evCAL)) ∧
  (∀ (s : State) (x : CalSeen) (j : CalJob), s.cal.job = some j →
    Completes (.calStart x) s fun t =>
      inner t = { inner s with cal := { s.cal with waiting := s.cal.waiting ++ [⟨513, 0, 0, 0, []⟩] } } ∧ OnlyFields s t []) ∧
  (∀ (s : State) (x : CalSeen), s.cal.job = none → (refFresh s = true ∨ 1225000 ≤ x.ref ∧ x.ref ≤ 1275000) →
    Completes (.calExpStart x) s fun t => CalBegins ⟨513, 0, 1, Machine.get s F.CAL_EXP_SEL, []⟩ x (refFresh s) s t) ∧
  (∀ (s : State) (x : CalSeen), s.cal.job = none → Machine.get s F.CAL_AUTO ≠ 0 → s.pwr.started = true →
    elapsed s s.cal.autoAt (3600 * 156250000 * Machine.get s F.CAL_AUTO) = true → 1225000 ≤ x.ref → x.ref ≤ 1275000 →
    Completes (.calAuto x) s fun t => CalBegins ⟨513, 0, 4, 0, []⟩ x false { s with cal := { s.cal with autoAt := now s } } t) ∧
  (∀ (s : State) (x : CalSeen),
    (Machine.get s F.CAL_AUTO = 0 ∨ elapsed s s.cal.autoAt (3600 * 156250000 * Machine.get s F.CAL_AUTO) = false) →
    Completes (.calAuto x) s fun t => t = s) ∧
  (∀ (s : State) (j : CalJob) (st n : Nat) (rest : List (Nat × Nat)), s.cal.job = some j → s.cal.plan = (st, n) :: rest → st ≠ 4 →
    s.cal.period + 1 < n →
    Completes .pwmPeriod s fun t => t.cal.job = some j ∧ t.cal.plan = s.cal.plan ∧ t.cal.period = s.cal.period + 1) ∧
  (∀ (s : State) (j : CalJob) (n st n' : Nat) (rest : List (Nat × Nat)), s.cal.job = some j → s.cal.plan = (2, n) :: (st, n') :: rest →
    s.cal.period + 1 = n →
    Completes .pwmPeriod s fun t =>
      t.cal.job = some j ∧ t.cal.plan = (st, n') :: rest ∧ t.cal.period = 0 ∧ t.cal.written = [] ∧ t.cal.dacs = s.cal.seen.dacs ∧
      t.cal.refAt = some (now s) ∧ Machine.get t F.CAL_STATUS_STEP = trunc 3 st) ∧
  (∀ (s : State) (j : CalJob) (x : CalSeen), s.cal.job = some j → s.cal.plan = [] → s.cal.waiting = [] →
    Completes (.calibrationProcedureEnd x) s fun t =>
      Machine.get t F.CAL_STATUS_BUSY = 0 ∧ Machine.get t F.CAL_STATUS_STEP = 0 ∧ Raised t evCAL B.CAL_EVT_DONE ∧ t.cal.job = none ∧
      (s.cal.changed = true → Raised t evCAL B.CAL_EVT_CHANGED) ∧
      (j.fn ≠ 513 → s.cal.fresh = [] → t.host.posted.head? = some ⟨j.fn, 0, j.cid, 0, 0, 0, 0, 0, [], []⟩) ∧
      (j.fn ≠ 513 → s.cal.fresh ≠ [] → 0 ∉ s.cal.fresh → (j.fn, j.cid) ∈ t.cal.done) ∧
      (s.cal.fresh = [] → j.fn = 513 → s.cal.changed = false →
        inner t = { inner s with cal := { s.cal with job := none, written := [] } } ∧
        OnlyFields s t ([F.CAL_STATUS_BUSY, F.CAL_STATUS_STEP] ++ evFields evCAL))) ∧
  (∀ (s : State) (j k : CalJob) (x : CalSeen), s.cal.job = some j → s.cal.plan = [] → s.cal.waiting = [k] → k.action ≠ 2 →
    1225000 ≤ x.ref → x.ref ≤ 1275000 →
    Completes (.calibrationProcedureEnd x) s fun t =>
      t.cal.job = some k ∧ t.cal.waiting = [] ∧ Machine.get t F.CAL_STATUS_BUSY = 1 ∧ Raised t evCAL B.CAL_EVT_DONE) ∧
  (∀ (s : State) (x : CalSeen), (s.cal.job = none ∨ s.cal.plan ≠ []) → Completes (.calibrationProcedureEnd x) s fun t => t = s) ∧
  (∀ (s : State) (item gain b : Nat) (ofs o : Int), item < 167 → o = clampInt (-(offsetBound s item : Int)) (offsetBound s item) ofs →
    b = (if item = 0 then 37 else if item = 1 then 36 else item - 2) →
    Completes (.calValueWrite item gain ofs) s fun t =>
      (item < 38 → itemGain t item = trunc 32 (max (2 ^ 30 - gainBound s) (min (gain % 2 ^ 32) (2 ^ 30 + gainBound s)))) ∧
      (-32768 ≤ o → o < 32768 → itemOffset t item = o) ∧
      (item < 38 → bitOf (Machine.get t F.CAL_OUT_OF_BOUNDS) b = if inBounds s item (gain % 2 ^ 32) ofs then 0 else 1) ∧
      (item ≠ 0 → item ∈ t.cal.fresh) ∧ mapGet (fun _ => 0) t.cal.setAt item = now s ∧
      OnlyFields s t (F.CAL_OUT_OF_BOUNDS :: calFields item)) ∧
  (∀ (s : State) (item gain : Nat) (ofs : Int) (g o : Fld), 0 < item → calFields item = [g, o] → inBounds s item (gain % 2 ^ 32) ofs = true →
    -32768 ≤ ofs → ofs < 32768 →
    Completes (.calValueWrite item gain ofs) s fun t =>
      Machine.get t g = gain % 2 ^ 32 ∧ Machine.getI t o = ofs ∧ item ∈ t.cal.fresh ∧ (∀ i, i ≠ item → (i ∈ t.cal.fresh ↔ i ∈ s.cal.fresh)) ∧
      mapGet (fun _ => 0) t.cal.setAt item = now s ∧ t.cal.written = (if measuring s item then item :: s.cal.written else s.cal.written) ∧
      inner t = { inner s with
        cal := { s.cal with fresh := t.cal.fresh, setAt := t.cal.setAt, written := t.cal.written },
        host := { s.host with pageGen := t.host.pageGen } } ∧
      OnlyFields s t [g, o, F.CAL_OUT_OF_BOUNDS]) ∧
  (∀ (s : State) (fn cid : Nat) (x : CalSeen), (fn = 0 ∨ fn = 512) → adminOpen s fn = true → s.cal.job = none → 1225000 ≤ x.ref →
    x.ref ≤ 1275000 →
    Completes (.calibrateFull fn cid x) s fun t => CalBegins ⟨fn, cid, 0, 0, []⟩ x false s t) ∧
  (∀ (s : State) (fn cid bays cars : Nat) (x : CalSeen), (fn = 0 ∨ fn = 512) → adminOpen s fn = true → s.cal.job = none →
    (refFresh s = true ∨ 1225000 ≤ x.ref ∧ x.ref ≤ 1275000) →
    Completes (.calibrateExpanders fn cid bays cars x) s fun t =>
      CalBegins ⟨fn, cid, 1, bays % 2 ^ 32 + 2 ^ 32 * (cars % 16), []⟩ x (refFresh s) s t) ∧
  (∀ (s : State) (fn cid : Nat) (image : List Nat), (fn = 0 ∨ fn = 512) → adminOpen s fn = true → s.cal.job = none →
    imageOk s image = true → (∀ i < 167, -32768 ≤ imageOffset image i ∧ imageOffset image i < 32768) →
    Completes (.calibrateRestore fn cid image) s fun t =>
      (∀ i < 167, itemOffset t i = imageOffset image i ∧ (i < 38 → itemGain t i = imageWord image i 4 4) ∧
        mapGet (fun _ => 0) t.cal.setAt i = now s) ∧ t.cal.job = none ∧
      (t.cal.fresh = [] → t.host.posted.head? = some ⟨fn, 0, cid, 0, 0, 0, 0, 0, [], []⟩) ∧
      (t.cal.fresh ≠ [] → (fn, cid) ∈ t.cal.done) ∧
      inner t = { inner s with cal := t.cal, force := t.force, host := toldHost s t } ∧
      OnlyFields s t ((List.range 167).flatMap calFields ++ evFields evCAL)) ∧
  (∀ (s : State) (fn cid : Nat) (image : List Nat), (fn = 0 ∨ fn = 512) → adminOpen s fn = true → s.cal.job = none → imageOk s image = false →
    Completes (.calibrateRestore fn cid image) s fun t =>
      t.host.posted = ⟨fn, 0, cid, 0, 2, 1, 0, 0, [], []⟩ :: s.host.posted ∧ WithinHost s t []) ∧
  (∀ (s : State) (fn cid : Nat), (fn = 0 ∨ fn = 512) → adminOpen s fn = true →
    Completes (.calibrateRefused fn cid) s fun t =>
      t.host.posted = ⟨fn, 0, cid, 0, 2, 1, 0, 0, [], []⟩ :: s.host.posted ∧ WithinHost s t []) ∧
  (∀ (s : State) (fn cid bays cars : Nat) (x : CalSeen) (image : List Nat) (i : Instr), 0 < fn → fn < 512 → adminOpen s fn = true →
    i ∈ [Instr.calibrateFull fn cid x, .calibrateExpanders fn cid bays cars x, .calibrateRestore fn cid image, .calibrateRefused fn cid] →
    Completes i s fun t => t.host.posted = ⟨fn, 0, cid, 0, 1, 1, 0, 0, [], []⟩ :: s.host.posted ∧ WithinHost s t [])

/-- O41. Before the seal GO starts the programming of a word, after it GO is refused; the read-back, 40 µs a bit later, sets the
bits that passed and reports whether all did. An authorisation block that passes every check revokes its slot or opens the debug
port, any other is refused, and the nonce is renewed either way. DEBUG_CLOSE closes the port for good. An operation under way
refuses the others. Nothing else changes. (R466, R473, R474, R475, R476, R479, R491, R493) -/
def Obligations.FuseOperations : Prop :=
  (∀ (s : State), isSet s F.FUS_PROG_CTRL_BUSY = false → isSet s F.FUS_STATUS_SEALED = false →
    Completes .fuseProgram s fun t =>
      Machine.get t F.FUS_PROG_CTRL_BUSY = 1 ∧
      inner t = { inner s with fuse := { s.fuse with op := some (Machine.get s F.FUS_PROG_WORD, Machine.get s F.FUS_PROG_MASK), opAt := now s } } ∧
      OnlyFields s t [F.FUS_PROG_CTRL_BUSY]) ∧
  (∀ (s : State), isSet s F.FUS_PROG_CTRL_BUSY = false → isSet s F.FUS_STATUS_SEALED = true →
    Completes .fuseProgram s fun t =>
      Machine.get t F.FUS_PROG_CTRL_RESULT = 4 ∧ Raised t evFUS B.FUS_EVT_PROG_FAIL ∧
      Within s t ([F.FUS_PROG_CTRL_BUSY, F.FUS_PROG_CTRL_RESULT] ++ evFields evFUS)) ∧
  (∀ (s : State), isSet s F.FUS_PROG_CTRL_BUSY = true →
    Completes .fuseProgram s fun t => Machine.get t F.FUS_PROG_CTRL_RESULT = 1 ∧ Within s t [F.FUS_PROG_CTRL_RESULT]) ∧
  (∀ (s : State) (i mask failed : Nat) (want good : List Nat), s.fuse.op = some (i, mask) →
    want = ((List.range 64).filter fun b => decide (bitOf mask b = 1) && decide (bitOf (fuseWord s i) b = 0)) →
    good = (want.filter fun b => decide (bitOf failed b = 0)) → elapsed s s.fuse.opAt (6250 * want.length) = true →
    Completes (.fuseProgramDone failed) s fun t =>
      Blown i (good.map (2 ^ ·)).sum s t ∧ (∀ b < 64, b ∈ good → bitOf (fuseWord t i) b = 1) ∧
      (∀ b < 64, b ∈ want → b ∉ good → bitOf (fuseWord t i) b = 0) ∧ t.fuse.op = none ∧ Machine.get t F.FUS_PROG_CTRL_BUSY = 0 ∧
      Machine.get t F.FUS_PROG_CTRL_RESULT = (if good = want then 0 else 2) ∧
      Raised t evFUS (if good = want then B.FUS_EVT_PROG_DONE else B.FUS_EVT_PROG_FAIL) ∧
      inner t = { inner s with fuse := t.fuse, loaded := t.loaded } ∧
      OnlyFields s t ([F.FUS_PROG_CTRL_BUSY, F.FUS_PROG_CTRL_RESULT] ++ fuseFields ++ evFields evFUS)) ∧
  (∀ (s : State) (a : List Nat) (op target : Nat) (good : Bool), isSet s F.FUS_PROG_CTRL_BUSY = false → a = authBlock s →
    op = imgNat a 0 1 → target = imgNat a 1 1 →
    good = ((decide (op = 1) || decide (op = 2)) && decide (sigFault s a 32 (if op = 1 then 3 else 2) ctxFus = 0) &&
      decide (imgNat a 4 16 = unitId s) && decide (imgNat a 20 8 = Machine.get s F.FUS_NONCE)) →
    Completes .authGo s fun t =>
      Machine.get t F.FUS_NONCE = trunc 64 (Config.freeValue s.fresh) ∧ t.fresh = s.fresh + 1 ∧
      (good = false → Machine.get t F.FUS_PROG_CTRL_RESULT = 3 ∧ Raised t evFUS B.FUS_EVT_AUTH_FAIL ∧ t.fuse = s.fuse) ∧
      (good = true → op = 1 → target < 4 → revocable s target = true →
        Machine.get t F.FUS_PROG_CTRL_RESULT = 0 ∧ Raised t evFUS B.FUS_EVT_REVOKED ∧ slotLive t target = false ∧
        Blown 3 (2 ^ (20 + target)) s t ∧
        (Machine.get s F.TAB_STATUS_KEY_SLOT = target → Machine.get s F.TAB_STATUS_SELECTED ≠ 3 →
          Machine.get t F.TAB_STATUS_SIGNER_REVOKED = 1)) ∧
      (good = true → op = 1 → (4 ≤ target ∨ revocable s target = false) → Machine.get t F.FUS_PROG_CTRL_RESULT = 4 ∧ t.fuse = s.fuse) ∧
      (good = true → op = 2 → fuseBits s 3 1 2 < 2 →
        Machine.get t F.FUS_PROG_CTRL_RESULT = 0 ∧ Machine.get t F.FUS_STATUS_DEBUG_ACTIVE = 1 ∧ Raised t evFUS B.FUS_EVT_DEBUG_UNLOCK) ∧
      (good = true → op = 2 → 2 ≤ fuseBits s 3 1 2 → Machine.get t F.FUS_PROG_CTRL_RESULT = 4 ∧ t.fuse = s.fuse) ∧
      inner t = { inner s with fresh := t.fresh, fuse := t.fuse, loaded := t.loaded } ∧
      OnlyFields s t ([F.FUS_NONCE, F.FUS_PROG_CTRL_BUSY, F.FUS_PROG_CTRL_RESULT, F.FUS_STATUS_DEBUG_ACTIVE, F.TAB_STATUS_SIGNER_REVOKED] ++
        fuseFields ++ evFields evFUS ++ evFields evTAB)) ∧
  (∀ (s : State), isSet s F.FUS_PROG_CTRL_BUSY = true →
    Completes .authGo s fun t =>
      Machine.get t F.FUS_PROG_CTRL_RESULT = 1 ∧ Machine.get t F.FUS_NONCE = trunc 64 (Config.freeValue s.fresh) ∧
      inner t = { inner s with fresh := s.fresh + 1 } ∧ OnlyFields s t [F.FUS_PROG_CTRL_RESULT, F.FUS_NONCE]) ∧
  (∀ (s : State), isSet s F.FUS_PROG_CTRL_BUSY = true →
    Completes .debugClose s fun t => Machine.get t F.FUS_PROG_CTRL_RESULT = 1 ∧ Within s t [F.FUS_PROG_CTRL_RESULT]) ∧
  (∀ (s : State), isSet s F.FUS_PROG_CTRL_BUSY = false →
    Completes .debugClose s fun t =>
      Blown 3 6 s t ∧ fuseBits t 3 1 2 = 3 ∧ Machine.get t F.FUS_PROG_CTRL_RESULT = 0 ∧
      inner t = { inner s with fuse := t.fuse, loaded := t.loaded } ∧
      OnlyFields s t ([F.FUS_PROG_CTRL_BUSY, F.FUS_PROG_CTRL_RESULT] ++ fuseFields ++ evFields evFUS))

/-- O42. A download by a source that may load tablatures opens the session or goes on with it, and its DWORDs are staged at their
offset; another source, another holder, a download that runs past the end and one that goes on with no session are refused. A
validation and a commit end with the first check that fails, or close the session; the commit that passes writes the copy that is
not in force, counted and reported. A minute of silence and an abort close the session. Nothing else changes. (R395, R415, R416,
R468, R472, R488, R489) -/
def Obligations.TablatureSessions : Prop :=
  (∀ (s : State) (fn cid : Nat) (data : List Nat), recoveryOpen s fn = true → mayLoad s fn 8 = true →
    (∀ x, s.host.tabSess = some x → x.holder = fn) → data.length ≤ 2 ^ 22 →
    Completes (.tablatureDownload fn cid 0 data) s fun t =>
      t.host = { s.host with
        tabSess := some ⟨fn, stage 0 data [], now s⟩, posted := ⟨fn, 0, cid, 0, 0, 0, 0, 0, [], []⟩ :: s.host.posted } ∧
      staged t.host.tabSess = (data.map fun v => bytesLE 4 (trunc 32 v)).flatten ∧
      Machine.get t F.TAB_STATUS_SESSION_OPEN = 1 ∧ Machine.get t F.TAB_STATUS_HOLDER = (if fn = 512 then 2 else fn) ∧
      Machine.get t F.TAB_STAGED = 4 * data.length ∧
      WithinHost s t [F.TAB_STATUS_SESSION_OPEN, F.TAB_STATUS_HOLDER, F.TAB_STAGED]) ∧
  (∀ (s : State) (fn cid ofs : Nat) (data : List Nat) (x : Session), recoveryOpen s fn = true → mayLoad s fn 8 = true →
    s.host.tabSess = some x → x.holder = fn → ofs ≠ 0 → ofs + data.length ≤ 2 ^ 22 →
    Completes (.tablatureDownload fn cid ofs data) s fun t =>
      t.host = { s.host with
        tabSess := some ⟨fn, stage ofs data x.bytes, now s⟩, posted := ⟨fn, 0, cid, 0, 0, 0, 0, 0, [], []⟩ :: s.host.posted } ∧
      WithinHost s t [F.TAB_STATUS_SESSION_OPEN, F.TAB_STATUS_HOLDER, F.TAB_STAGED]) ∧
  (∀ (s : State) (fn cid ofs : Nat) (data : List Nat), recoveryOpen s fn = true → sourceOf fn = none →
    Completes (.tablatureDownload fn cid ofs data) s fun t =>
      t.host.posted = ⟨fn, 0, cid, 0, 1, 1, 0, 0, [], []⟩ :: s.host.posted ∧ WithinHost s t []) ∧
  (∀ (s : State) (fn cid ofs : Nat) (data : List Nat), recoveryOpen s fn = true → (sourceOf fn).isSome = true → mayLoad s fn 8 = false →
    Completes (.tablatureDownload fn cid ofs data) s fun t =>
      t.host.posted = ⟨fn, 0, cid, 1, 0xc2, 1, 0, 0, [], []⟩ :: s.host.posted ∧ WithinHost s t []) ∧
  (∀ (s : State) (fn cid ofs : Nat) (data : List Nat) (x : Session), recoveryOpen s fn = true → mayLoad s fn 8 = true →
    s.host.tabSess = some x → x.holder ≠ fn →
    Completes (.tablatureDownload fn cid ofs data) s fun t =>
      t.host.posted = ⟨fn, 0, cid, 1, 0xc1, 0, 0, 0, [], []⟩ :: s.host.posted ∧ WithinHost s t []) ∧
  (∀ (s : State) (fn cid ofs : Nat) (data : List Nat), recoveryOpen s fn = true → mayLoad s fn 8 = true →
    (∀ x, s.host.tabSess = some x → x.holder = fn) → 2 ^ 22 < ofs + data.length →
    Completes (.tablatureDownload fn cid ofs data) s fun t =>
      t.host.posted = ⟨fn, 0, cid, 0, 2, 1, 0, 0, [], []⟩ :: s.host.posted ∧ WithinHost s t []) ∧
  (∀ (s : State) (fn cid ofs : Nat) (data : List Nat), recoveryOpen s fn = true → mayLoad s fn 8 = true →
    s.host.tabSess = none → ofs ≠ 0 → ofs + data.length ≤ 2 ^ 22 →
    Completes (.tablatureDownload fn cid ofs data) s fun t =>
      t.host.posted = ⟨fn, 0, cid, 0, 0xc, 1, 0, 0, [], []⟩ :: s.host.posted ∧ WithinHost s t []) ∧
  (∀ (s : State) (fn cid e : Nat), recoveryOpen s fn = true → mayLoad s fn 8 = true → (∀ x, s.host.tabSess = some x → x.holder = fn) →
    e = commitFault s →
    Completes (.tablatureCommitValidate fn cid) s fun t =>
      t.host.tabSess = none ∧ Machine.get t F.TAB_STATUS_SESSION_OPEN = 0 ∧ Machine.get t F.TAB_STAGED = 0 ∧
      (e = 0 → t.host.posted = ⟨fn, 0, cid, 0, 0, 0, 0, 0, [], []⟩ :: s.host.posted) ∧
      (e ≠ 0 → t.host.posted = ⟨fn, 0, cid, 1, 0xc4, 1, e, 0, [], []⟩ :: s.host.posted ∧ Raised t evTAB B.TAB_EVT_COMMIT_FAIL) ∧
      inner t = { inner s with host := { s.host with tabSess := none, posted := t.host.posted, errors := t.host.errors } } ∧
      OnlyFields s t ([F.TAB_STATUS_SESSION_OPEN, F.TAB_STATUS_HOLDER, F.TAB_STAGED] ++ evFields evTAB)) ∧
  (∀ (s : State) (fn cid e : Nat) (readOk : Bool) (img : List Nat), recoveryOpen s fn = true → mayLoad s fn 8 = true →
    (∀ x, s.host.tabSess = some x → x.holder = fn) → e = commitFault s →
    img = (staged s.host.tabSess).take (imgNat (staged s.host.tabSess) 8 4) →
    Completes (.tablatureCommitWrite fn cid readOk) s fun t =>
      t.host.tabSess = none ∧ Machine.get t F.TAB_STATUS_SESSION_OPEN = 0 ∧
      (e ≠ 0 → t.host.posted = ⟨fn, 0, cid, 1, 0xc4, 1, e, 0, [], []⟩ :: s.host.posted ∧ Raised t evTAB B.TAB_EVT_COMMIT_FAIL ∧
        t.flash = s.flash ∧ t.tabPassed = s.tabPassed) ∧
      (e = 0 → readOk = true → t.host.posted = ⟨fn, 0, cid, 0, 0, 0, 0, 0, [], []⟩ :: s.host.posted ∧ Raised t evTAB B.TAB_EVT_COMMIT_DONE ∧
        Machine.get t F.TAB_COMMITS = trunc 32 (satAdd 32 (Machine.get s F.TAB_COMMITS) 1) ∧ t.tabPassed = max s.tabPassed (headerSeq img) ∧
        t.flash = (if commitToB s then { s.flash with tabB := img } else { s.flash with tabA := img })) ∧
      (e = 0 → readOk = false → t.host.posted = ⟨fn, 0, cid, 0, 6, 1, 0, 0, [], []⟩ :: s.host.posted ∧ Raised t evTAB B.TAB_EVT_COMMIT_FAIL ∧
        t.flash = (if commitToB s then { s.flash with tabB := [] } else { s.flash with tabA := [] }) ∧ t.tabPassed = s.tabPassed) ∧
      inner t = { inner s with
        host := { s.host with tabSess := none, posted := t.host.posted, errors := t.host.errors }, flash := t.flash, tabPassed := t.tabPassed } ∧
      OnlyFields s t ([F.TAB_STATUS_SESSION_OPEN, F.TAB_STATUS_HOLDER, F.TAB_STAGED, F.TAB_SEQ_A, F.TAB_SEQ_B, F.TAB_COMMITS] ++
        evFields evTAB)) ∧
  (∀ (s : State), silent s s.host.tabSess = true →
    Completes .tablatureSessionTimeout s fun t =>
      t.host = { s.host with tabSess := none } ∧ Machine.get t F.TAB_STATUS_SESSION_OPEN = 0 ∧ Machine.get t F.TAB_STAGED = 0 ∧
      Raised t evTAB B.TAB_EVT_SESSION_TIMEOUT ∧
      WithinHost s t ([F.TAB_STATUS_SESSION_OPEN, F.TAB_STATUS_HOLDER, F.TAB_STAGED] ++ evFields evTAB)) ∧
  (∀ (s : State), silent s s.host.tabSess = false → Completes .tablatureSessionTimeout s fun t => t = s) ∧
  (∀ (s : State) (x : Session), s.host.tabSess = some x →
    Completes .tabSessionAbort s fun t =>
      t.host = { s.host with tabSess := none } ∧ Machine.get t F.TAB_STATUS_SESSION_OPEN = 0 ∧ Machine.get t F.TAB_STAGED = 0 ∧
      WithinHost s t [F.TAB_STATUS_SESSION_OPEN, F.TAB_STATUS_HOLDER, F.TAB_STAGED])

/-- O43. Download stages DWORDs in the firmware session. A commit that writes ends with the first check that fails, or writes the
inactive letter, marks the journal WRITTEN and, where it arms, arms that letter; a read-back that fails leaves the letter invalid.
A written letter is armed, and activation, of a package staged or of a written letter, begins with the notice and step 1. An
activation under way prohibits every commit, and a running probation every one but the one that falls back by a chip reset; a slot
that is not allowed is refused. Silence and abort close the session. Nothing else changes. (R395, R468, R497, R498, R503, R504,
R505, R506, R510, R514) -/
def Obligations.FirmwareDownloadAndCommit : Prop :=
  (∀ (s : State) (fn cid : Nat) (data : List Nat), fwHolds s fn = true → data.length ≤ 2 ^ 23 →
    Completes (.firmwareImageDownload fn cid 0 data) s fun t =>
      t.host = { s.host with
        fwSess := some ⟨fn, stage 0 data [], now s⟩, posted := ⟨fn, 0, cid, 0, 0, 0, 0, 0, [], []⟩ :: s.host.posted } ∧
      Machine.get t F.FWU_STATUS_SESSION_OPEN = 1 ∧ Machine.get t F.FWU_STATUS_HOLDER = (if fn = 512 then 2 else fn) ∧
      Machine.get t F.FWU_STAGED = 4 * data.length ∧ WithinHost s t fwSessFields) ∧
  (∀ (s : State) (fn cid ofs : Nat) (data : List Nat), fwHolds s fn = true → ofs ≠ 0 → s.host.fwSess = none → ofs + data.length ≤ 2 ^ 23 →
    Completes (.firmwareImageDownload fn cid ofs data) s fun t =>
      t.host.posted = ⟨fn, 0, cid, 0, 0xc, 1, 0, 0, [], []⟩ :: s.host.posted ∧ t.host.fwSess = none ∧ WithinHost s t []) ∧
  (∀ (s : State) (fn cid ofs : Nat) (data : List Nat) (x : Session), fwHolds s fn = true → ofs ≠ 0 → s.host.fwSess = some x →
    ofs + data.length ≤ 2 ^ 23 →
    Completes (.firmwareImageDownload fn cid ofs data) s fun t =>
      t.host = { s.host with
        fwSess := some ⟨fn, stage ofs data x.bytes, now s⟩, posted := ⟨fn, 0, cid, 0, 0, 0, 0, 0, [], []⟩ :: s.host.posted } ∧
      WithinHost s t fwSessFields) ∧
  (∀ (s : State) (fn cid ofs : Nat) (data : List Nat), fwHolds s fn = true → 2 ^ 23 < ofs + data.length →
    Completes (.firmwareImageDownload fn cid ofs data) s fun t =>
      t.host.posted = ⟨fn, 0, cid, 0, 2, 1, 0, 0, [], []⟩ :: s.host.posted ∧ WithinHost s t []) ∧
  (∀ (s : State) (fn cid fs i : Nat) (readOk : Bool) (p : List Nat), fwHolds s fn = true → slotLetter s fs = some i → i < 2 → s.flash.fw.active < 2 →
    i ≠ s.flash.fw.active →
    s.flash.fw.state ≠ 2 → s.flash.fw.state ≠ 3 → p = staged s.host.fwSess →
    Completes (.firmwareCommitWrite fn cid fs readOk) s fun t =>
      (∀ c d, pkgFault s p = some (c, d) →
        t.host.posted = ⟨fn, 0, cid, 1, 7, 1, c + 256 * d, 0, [], []⟩ :: s.host.posted ∧ Machine.get t F.FWU_CHECK = trunc 8 c ∧
        Raised t evFWU B.FWU_EVT_COMMIT_FAIL ∧ t.flash = s.flash) ∧
      (pkgFault s p = none → readOk = true →
        t.host.posted = ⟨fn, 0, cid, 0, 0, 0, 0, 0, [], []⟩ :: s.host.posted ∧ Raised t evFWU B.FWU_EVT_COMMIT_DONE ∧
        letter t i = pkgLetter s p ∧ letter t (1 - i) = letter s (1 - i) ∧ Machine.get t F.FWU_STATUS_JOURNAL = 1 ∧
        t.flash.fw.state = 1 ∧ t.flash.fw.armed = s.flash.fw.armed ∧ t.flash.fw.active = s.flash.fw.active) ∧
      (pkgFault s p = none → readOk = false →
        t.host.posted = ⟨fn, 0, cid, 0, 6, 1, 0, 0, [], []⟩ :: s.host.posted ∧ Raised t evFWU B.FWU_EVT_COMMIT_FAIL ∧
        letter t i = {} ∧ t.flash.fw.state = 0) ∧
      inner t = { inner s with flash := t.flash, host := fwHost s t } ∧
      OnlyFields s t (fwSessFields ++ fwFields ++ [F.FWU_CHECK, F.FWU_CHECK_DESC] ++ evFields evFWU)) ∧
  (∀ (s : State) (fn cid fs i : Nat) (readOk : Bool) (p : List Nat), fwHolds s fn = true → slotLetter s fs = some i → i < 2 → s.flash.fw.active < 2 →
    i ≠ s.flash.fw.active →
    s.flash.fw.state ≠ 2 → s.flash.fw.state ≠ 3 → p = staged s.host.fwSess →
    Completes (.firmwareCommitArm fn cid fs readOk) s fun t =>
      (∀ c d, pkgFault s p = some (c, d) →
        t.host.posted = ⟨fn, 0, cid, 1, 7, 1, c + 256 * d, 0, [], []⟩ :: s.host.posted ∧ t.flash = s.flash) ∧
      (pkgFault s p = none → readOk = true →
        t.host.posted = ⟨fn, 0, cid, 0, 0, 0, 0, 0, [], []⟩ :: s.host.posted ∧ letter t i = pkgLetter s p ∧
        t.flash.fw.armed = i ∧ Machine.get t F.FWU_STATUS_ARMED_B = i ∧ t.flash.fw.active = s.flash.fw.active) ∧
      inner t = { inner s with flash := t.flash, host := fwHost s t } ∧
      OnlyFields s t (fwSessFields ++ fwFields ++ [F.FWU_CHECK, F.FWU_CHECK_DESC] ++ evFields evFWU)) ∧
  (∀ (s : State) (fn cid fs i : Nat), fwHolds s fn = true → slotLetter s fs = some i → i < 2 → s.flash.fw.state ≠ 2 →
    s.flash.fw.state ≠ 3 → letterFault s i = none →
    Completes (.firmwareCommitArmWritten fn cid fs) s fun t =>
      t.flash = { s.flash with fw := { s.flash.fw with armed := i } } ∧ Machine.get t F.FWU_STATUS_ARMED_B = i ∧
      t.host.posted = ⟨fn, 0, cid, 0, 0, 0, 0, 0, [], []⟩ :: s.host.posted ∧ Raised t evFWU B.FWU_EVT_COMMIT_DONE ∧
      inner t = { inner s with flash := t.flash, host := fwHost s t } ∧ OnlyFields s t (fwSessFields ++ fwFields ++ evFields evFWU)) ∧
  (∀ (s : State) (fn cid fs i : Nat), fwHolds s fn = true → slotLetter s fs = some i → s.flash.fw.state = 3 → i ≠ s.flash.fw.active →
    Completes (.firmwareCommitArmWritten fn cid fs) s fun t =>
      t.flash = { s.flash with fw := { s.flash.fw with fellBack := true } } ∧
      t.host.posted = ⟨fn, 0, cid, 0, 0, 0, 0, 0, [], []⟩ :: s.host.posted ∧ ChipReset 2 { s with flash := t.flash } t []) ∧
  (∀ (s : State) (fn cid fs i : Nat) (readOk : Bool), fwHolds s fn = true → slotLetter s fs = some i → i ≠ s.flash.fw.active →
    s.flash.fw.state ≠ 2 → s.flash.fw.state ≠ 3 → s.host.fwSess = none → letterFault s i = none →
    Completes (.firmwareCommitActivate fn cid fs readOk) s fun t =>
      t.flash = { s.flash with fw := { s.flash.fw with state := 2, switched := [] } } ∧ Machine.get t F.FWU_STATUS_STEP = 1 ∧
      Machine.get t F.FWU_STATUS_JOURNAL = 2 ∧ t.host.fwCmd = some (fn, cid) ∧
      inner t = { inner s with flash := t.flash, host := { toldHost s t with fwCmd := some (fn, cid) } } ∧
      OnlyFields s t (F.FWU_STATUS_STEP :: fwFields)) ∧
  (∀ (s : State) (fn cid fs i : Nat) (p : List Nat), fwHolds s fn = true → slotLetter s fs = some i → i < 2 → s.flash.fw.active < 2 →
    i ≠ s.flash.fw.active → s.flash.fw.state ≠ 2 → s.flash.fw.state ≠ 3 → s.host.fwSess.isSome = true → p = staged s.host.fwSess →
    Completes (.firmwareCommitActivate fn cid fs true) s fun t =>
      (∀ c d, pkgFault s p = some (c, d) →
        t.host.posted = ⟨fn, 0, cid, 1, 7, 1, c + 256 * d, 0, [], []⟩ :: s.host.posted ∧ t.flash = s.flash) ∧
      (pkgFault s p = none → letter t i = pkgLetter s p ∧ letter t (1 - i) = letter s (1 - i) ∧ t.flash.fw.state = 2 ∧ t.flash.fw.switched = [] ∧
      Machine.get t F.FWU_STATUS_STEP = 1 ∧ Machine.get t F.FWU_STATUS_JOURNAL = 2 ∧ t.host.fwCmd = some (fn, cid))) ∧
  (∀ (s : State) (fn cid fs n : Nat) (readOk : Bool) (i : Instr), fwHolds s fn = true → slotLetter s fs = some n →
    (s.flash.fw.state = 2 ∨ s.flash.fw.state = 3 ∧ i ≠ .firmwareCommitArmWritten fn cid fs) →
    i ∈ [Instr.firmwareCommitWrite fn cid fs readOk, .firmwareCommitArm fn cid fs readOk, .firmwareCommitArmWritten fn cid fs,
      .firmwareCommitActivate fn cid fs readOk] →
    Completes i s fun t =>
      t.host.posted = ⟨fn, 0, cid, 1, 0x13, 1, 0, 0, [], []⟩ :: s.host.posted ∧ t.flash = s.flash ∧
      inner t = { inner s with host := { fwHost s t with fwSess := t.host.fwSess } } ∧ OnlyFields s t fwSessFields) ∧
  (∀ (s : State) (fn cid fs : Nat) (readOk : Bool) (i : Instr), fwHolds s fn = true → slotLetter s fs = none →
    i ∈ [Instr.firmwareCommitWrite fn cid fs readOk, .firmwareCommitArm fn cid fs readOk, .firmwareCommitArmWritten fn cid fs,
      .firmwareCommitActivate fn cid fs readOk] →
    Completes i s fun t =>
      t.host.posted = ⟨fn, 0, cid, 1, 6, 1, 0, 0, [], []⟩ :: s.host.posted ∧
      inner t = { inner s with host := fwHost s t } ∧ OnlyFields s t fwSessFields) ∧
  (∀ (s : State), silent s s.host.fwSess = true →
    Completes .fwSessionTimeout s fun t =>
      t.host = { s.host with fwSess := none } ∧ Machine.get t F.FWU_STATUS_SESSION_OPEN = 0 ∧ Raised t evFWU B.FWU_EVT_SESSION_TIMEOUT ∧
      WithinHost s t (fwSessFields ++ evFields evFWU)) ∧
  (∀ (s : State) (x : Session), s.host.fwSess = some x →
    Completes .fwuSessionAbort s fun t =>
      t.host = { s.host with fwSess := none } ∧ Machine.get t F.FWU_STATUS_SESSION_OPEN = 0 ∧ Machine.get t F.FWU_STAGED = 0 ∧
      WithinHost s t fwSessFields)

/-- O44. Each step of an activation switches its component: the first sends the head-link messages in transit again, the second
waits until every head has passed a seam, and the last, once no command is in flight, makes the new letter active, restarts the
pairs and begins the probation; a mixture that a COMPAT range forbids undoes it. The probation's end commits the letter and
advances the thermometer, where the tablature permits; a recorded failure returns every component to the old letter and its
settings; a settings commit writes the copy that is not in use, and in probation never the old letter's. Nothing else changes.
(R506, R507, R508, R509, R510, R511, R513, R522) -/
def Obligations.FirmwareActivationAndFallback : Prop :=
  (∀ (s : State) (reads : Bool) (l : List Nat), s.flash.fw.state = 2 → Machine.get s F.FWU_STATUS_STEP = 1 → l = s.flash.fw.switched ++ [1] →
    mixOk s (letter s s.flash.fw.active) (letter s (1 - s.flash.fw.active)) l = true →
    mixOk s (letter s s.flash.fw.active) (letter s (1 - s.flash.fw.active)) (s.flash.fw.switched ++ [1, 2]) = true →
    Completes (.activationStep reads) s fun t =>
      t.flash = { s.flash with fw := { s.flash.fw with switched := l } } ∧ Machine.get t F.FWU_STATUS_STEP = 2 ∧
      (∀ h ∈ headsOf s, (chanOf t h).newCode = seesSeams s h ∧ ((linkOf s h).unacked ≠ [] → (linkOf t h).resend = (linkOf s h).unacked)) ∧
      inner t = { inner s with flash := t.flash, heads := t.heads } ∧
      OnlyFields s t (F.FWU_STATUS_STEP :: fwFields ++ (headsOf s).map F.HL_MSG_STAT_RETX)) ∧
  (∀ (s : State) (reads : Bool) (l : List Nat), s.flash.fw.state = 2 → Machine.get s F.FWU_STATUS_STEP = 2 → l = s.flash.fw.switched ++ [2] →
    (∀ h ∈ headsOf s, (chanOf s h).newCode = false ∨ seesSeams s h = false) →
    mixOk s (letter s s.flash.fw.active) (letter s (1 - s.flash.fw.active)) l = true →
    mixOk s (letter s s.flash.fw.active) (letter s (1 - s.flash.fw.active)) (s.flash.fw.switched ++ [2, 3]) = true →
    Completes (.activationStep reads) s fun t =>
      t.flash = { s.flash with fw := { s.flash.fw with switched := l } } ∧ Machine.get t F.FWU_STATUS_STEP = 3 ∧
      (∀ h ∈ headsOf s, (chanOf t h).newCode = false) ∧
      inner t = { inner s with flash := t.flash, heads := t.heads } ∧ OnlyFields s t (F.FWU_STATUS_STEP :: fwFields)) ∧
  (∀ (s : State) (reads : Bool) (h : Nat), s.flash.fw.state = 2 → Machine.get s F.FWU_STATUS_STEP = 2 → h ∈ headsOf s →
    (chanOf s h).newCode = true → seesSeams s h = true → Completes (.activationStep reads) s fun t => t = s) ∧
  (∀ (s : State) (reads : Bool) (l : List Nat), s.flash.fw.state = 2 → Machine.get s F.FWU_STATUS_STEP = 3 → l = s.flash.fw.switched ++ [3] →
    mixOk s (letter s s.flash.fw.active) (letter s (1 - s.flash.fw.active)) l = true →
    mixOk s (letter s s.flash.fw.active) (letter s (1 - s.flash.fw.active)) (s.flash.fw.switched ++ [3, 4]) = true →
    Completes (.activationStep reads) s fun t =>
      t.flash = { s.flash with fw := { s.flash.fw with switched := l } } ∧ Machine.get t F.FWU_STATUS_STEP = 4 ∧
      inner t = { inner s with flash := t.flash } ∧ OnlyFields s t (F.FWU_STATUS_STEP :: fwFields)) ∧
  (∀ (s : State) (fn cid : Nat) (reads : Bool), s.flash.fw.state = 2 → Machine.get s F.FWU_STATUS_STEP = 4 → s.flash.fw.active < 2 →
    s.host.cmds = [] → s.host.fetching = [] →
    mixOk s (letter s s.flash.fw.active) (letter s (1 - s.flash.fw.active)) (s.flash.fw.switched ++ [4]) = true →
    s.host.fwCmd = some (fn, cid) →
    Completes (.activationStep reads) s fun t =>
      t.flash = { s.flash with fw := { s.flash.fw with
        active := 1 - s.flash.fw.active, armed := 1 - s.flash.fw.active, switched := [], state := 3, starts := 0,
        setOld := s.flash.fw.setUse } } ∧
      t.mgt = { s.mgt with kicked := (List.range 4).map fun p => (p, now s), probAt := now s, probDue := false } ∧
      Machine.get t F.FWU_STATUS_STEP = 0 ∧ Machine.get t F.FWU_STATUS_ACTIVE_B = 1 - s.flash.fw.active ∧
      Machine.get t F.FWU_STATUS_JOURNAL = 3 ∧ Machine.get t F.FWU_PROBATION = 0 ∧ Machine.get t F.PWR_RESET_CAUSE_KIND = 2 ∧
      Raised t evFWU B.FWU_EVT_ACTIVATED ∧ Raised t evFWU B.FWU_EVT_COMMIT_DONE ∧
      t.host.posted = ⟨fn, 0, cid, 0, 0, 0, 0, 0, [], []⟩ :: s.host.posted ∧ t.host.fwCmd = none ∧
      inner t = { inner s with
        flash := t.flash, mgt := t.mgt,
        host := { s.host with features := t.host.features, fwSess := none, fwCmd := none, posted := t.host.posted } } ∧
      OnlyFields s t ([F.FWU_STATUS_STEP, F.FWU_PROBATION, F.PWR_RESET_CAUSE_KIND, F.FUS_STATUS_DEBUG_ACTIVE] ++ fwSessFields ++ fwFields ++
        evFields evFWU)) ∧
  (∀ (s : State) (reads : Bool), s.flash.fw.state = 2 → Machine.get s F.FWU_STATUS_STEP = 4 → (s.host.cmds ≠ [] ∨ s.host.fetching ≠ []) →
    Completes (.activationStep reads) s fun t => t = s) ∧
  (∀ (s : State) (reads : Bool) (k fn cid : Nat), s.flash.fw.state = 2 → Machine.get s F.FWU_STATUS_STEP = k → 1 ≤ k → k ≤ 4 →
    (k = 2 → ∀ h ∈ headsOf s, (chanOf s h).newCode = false ∨ seesSeams s h = false) → (k = 4 → s.host.cmds = [] ∧ s.host.fetching = []) →
    (mixOk s (letter s s.flash.fw.active) (letter s (1 - s.flash.fw.active)) (s.flash.fw.switched ++ [k]) = false ∨
      k < 4 ∧ mixOk s (letter s s.flash.fw.active) (letter s (1 - s.flash.fw.active)) (s.flash.fw.switched ++ [k, k + 1]) = false) →
    s.host.fwCmd = some (fn, cid) →
    Completes (.activationStep reads) s fun t =>
      t.flash = { s.flash with fw := { s.flash.fw with state := 1, switched := [] } } ∧ Machine.get t F.FWU_STATUS_STEP = 0 ∧
      t.host.posted = ⟨fn, 0, cid, 1, 7, 1, 6, 0, [], []⟩ :: s.host.posted ∧ Raised t evFWU B.FWU_EVT_COMMIT_FAIL ∧
      inner t = { inner s with flash := t.flash, host := { fwHost s t with fwCmd := none } } ∧
      OnlyFields s t ([F.FWU_STATUS_STEP, F.FWU_CHECK, F.FWU_CHECK_DESC] ++ fwSessFields ++ fwFields ++ evFields evFWU)) ∧
  (∀ (s : State) (v : Nat), s.flash.fw.state = 3 → s.mgt.probDue = true → v = (letter s s.flash.fw.active).secVer →
    Completes .probationEnd s fun t =>
      t.flash = { s.flash with fw := { s.flash.fw with state := 4, setOld := s.flash.fw.setUse, starts := 0 } } ∧
      t.mgt = { s.mgt with probDue := false } ∧ Machine.get t F.FWU_STATUS_JOURNAL = 4 ∧ Raised t evFWU B.FWU_EVT_PROBATION_DONE ∧
      (thermometer s < v → (Machine.get s F.TAB_STATUS_SELECTED = 3 ∨ Machine.get s F.TAB_SEC_VER < v ∨ 64 < v) →
        Raised t evFWU B.FWU_EVT_ROLLBACK_REFUSED ∧ t.fuse = s.fuse) ∧
      (thermometer s < v → Machine.get s F.TAB_STATUS_SELECTED ≠ 3 → v ≤ Machine.get s F.TAB_SEC_VER → v ≤ 64 → thermometer t = v) ∧
      (v ≤ thermometer s → inner t = { inner s with flash := t.flash, mgt := t.mgt } ∧ OnlyFields s t (fwFields ++ evFields evFWU)) ∧
      inner t = { inner s with flash := t.flash, mgt := t.mgt, fuse := t.fuse, loaded := t.loaded } ∧
      OnlyFields s t ([F.FUS_PROG_CTRL_BUSY, F.FUS_PROG_CTRL_RESULT] ++ fuseFields ++ fwFields ++ evFields evFWU ++ evFields evFUS)) ∧
  (∀ (s : State), (s.flash.fw.state ≠ 3 ∨ s.mgt.probDue = false) → Completes .probationEnd s fun t => t = s) ∧
  (∀ (s : State) (back : Nat), s.flash.fw.fellBack = true → s.pwr.started = false →
    back = (if s.flash.fw.state = 3 then 1 - s.flash.fw.active else s.flash.fw.active) → back < 2 →
    Completes .fallback s fun t =>
      t.flash.fw.active = back ∧ t.flash.fw.armed = back ∧ t.flash.fw.switched = [] ∧ t.flash.fw.state = 0 ∧ t.flash.fw.fellBack = false ∧
      t.flash.fw.fallbacks = satAdd 32 s.flash.fw.fallbacks 1 ∧ letter t back = letter s back ∧ letter t (1 - back) = {} ∧
      (s.flash.fw.state = 3 → t.flash.fw.setUse = s.flash.fw.setOld) ∧ (s.flash.fw.state ≠ 3 → t.flash.fw.setUse = s.flash.fw.setUse) ∧
      Machine.get t F.FWU_STATUS_ACTIVE_B = back ∧ Machine.get t F.FWU_STATUS_JOURNAL = 0 ∧
      (∀ i < 5, Machine.get t (F.FWU_VER i) = trunc 32 ((letter s back).versions.getD i 0)) ∧ Raised t evFWU B.FWU_EVT_FALLBACK ∧
      inner t = { inner s with flash := { s.flash with fw := t.flash.fw } } ∧ OnlyFields s t (fwFields ++ evFields evFWU)) ∧
  (∀ (s : State) (fmt use dst gen : Nat) (keys : List Nat) (readOk : Bool), s.pwr.started = true → isSet s F.DMP_STATUS_FATAL = false →
    s.pwr.powerLoss = false → use = (if s.flash.fw.state = 3 then s.flash.fw.setOld else s.flash.fw.setUse) → use < 2 → dst = 1 - use →
    gen = ((settingsCopy s s.flash.fw.setUse).map Settings.gen).getD 0 + 1 →
    Completes (.settingsCommit fmt keys readOk) s fun t =>
      settingsCopy t dst = some ⟨gen, fmt, (letter s s.flash.fw.active).versions.getD 4 0,
          s.host.features.filter fun p => decide (p.1 % 256 < 0xc0), s.regs.filter fun p => decide (p.1 ∈ keys), readOk⟩ ∧
      settingsCopy t use = settingsCopy s use ∧ t.flash.fw.setUse = (if readOk then dst else s.flash.fw.setUse) ∧
      t.flash = { s.flash with fw := { s.flash.fw with set0 := t.flash.fw.set0, set1 := t.flash.fw.set1, setUse := t.flash.fw.setUse } } ∧
      t.mgt = (if readOk && decide (s.flash.fw.state = 3) && decide (600 * 156250000 + s.mgt.probAt ≤ now s) then { s.mgt with probDue := true }
        else s.mgt) ∧
      inner t = { inner s with flash := t.flash, mgt := t.mgt } ∧ OnlyFields s t [])

/-- O45. A fatal cause whose condition holds captures the dump, stops the mechanism, reports CFS on every function and begins the
data dump where the vault is usable; the first cause stands. The copy to the boot flash marks it; a release ends the hold by a
chip reset that counts as a fatal restart, or waits for the dumps; the hold's expiry does so unless HOLD is 0 or three restarts
block it; CLEAR drops the flash copy. (R398, R541, R542, R543, R544, R546, R547, R551) -/
def Obligations.FatalStateAndRelease : Prop :=
  (∀ (s : State) (cause detail : Nat), fatalOpen s = true → fatalHolds s cause detail = true →
    Completes (.fatalDeclare cause detail) s fun t =>
      FatalEntered cause detail (captureDump cause detail (if cause = 8 then detail else 0xff) s) s t []) ∧
  (∀ (s : State) (cause detail : Nat), (isSet s F.DMP_STATUS_FATAL = true ∨ fatalHolds s cause detail = false) →
    Completes (.fatalDeclare cause detail) s fun t => t = s) ∧
  (∀ (s : State) (req v : Nat), fatalOpen s = true →
    Completes (.dmpFatal req v) s fun t =>
      FatalEntered 7 (v % 65536) (captureDump 7 (v % 65536) (if req < 4 then req else 0xff) s) s t []) ∧
  (∀ (s : State), fatalOpen s = true →
    Completes .stampErr s fun t =>
      Raised t evHST B.HST_EVT_STAMP_ERR ∧
      FatalEntered 3 0 (captureDump 3 0 0xff (raise evHST B.HST_EVT_STAMP_ERR s)) s t [F.HST_EVT]) ∧
  (∀ (s : State) (d : Dump), s.mgt.sram = some d → s.mgt.dumping = true → s.pwr.powerLoss = false → s.thm.stop ≠ 1 → s.pwr.resetDue = 0 →
    Completes .dumpCopyToFlash s fun t =>
      Machine.get t F.DMP_STATUS_IN_FLASH = 1 ∧
      t.mgt = { s.mgt with
        sram := some { d with flags := d.flags + 2 * Machine.get s F.DMP_STATUS_DATA_DUMPED + 4 },
        flash := some { d with flags := d.flags + 2 * Machine.get s F.DMP_STATUS_DATA_DUMPED + 4 }, dumping := false } ∧
      inner t = { inner s with mgt := t.mgt } ∧ OnlyFields s t [F.DMP_STATUS_IN_FLASH]) ∧
  (∀ (s : State) (d : Dump), s.mgt.sram = some d → s.mgt.dumping = true → s.pwr.powerLoss = false → s.thm.stop ≠ 1 → s.pwr.resetDue = 3 →
    s.plp.dumping = false →
    Completes .dumpCopyToFlash s fun t =>
      t.mgt.flash = some { d with flags := d.flags + 2 * Machine.get s F.DMP_STATUS_DATA_DUMPED + 4 } ∧ Machine.get t F.DMP_STATUS_IN_FLASH = 1 ∧
      Machine.get t F.PWR_RESET_CAUSE_TRIGGER = 3 ∧ Machine.get t F.DMP_STATUS_FATAL = 0 ∧ t.pwr.resetDue = 0) ∧
  (∀ (s : State), isSet s F.DMP_STATUS_FATAL = true → dumpsOver s = true →
    Completes .fatalRelease s fun t => FatalReleased 3 s t) ∧
  (∀ (s : State), isSet s F.DMP_STATUS_FATAL = true → dumpsOver s = false →
    Completes .fatalRelease s fun t => inner t = { inner s with pwr := { s.pwr with resetDue := 3 } } ∧ OnlyFields s t []) ∧
  (∀ (s : State), isSet s F.DMP_STATUS_FATAL = false → Completes .fatalRelease s fun t => t = s) ∧
  (∀ (s : State), isSet s F.DMP_STATUS_FATAL = true → dumpsOver s = true → Machine.get s F.DMP_HOLD ≠ 0 →
    isSet s F.DMP_STATUS_AUTO_BLOCKED = false →
    (isSet s F.CLK_STATUS_LINK_OK = false ∨ elapsed s s.mgt.entered (156250000 * Machine.get s F.DMP_HOLD) = true) →
    Completes .fatalHoldExpiry s fun t => FatalReleased 3 s t) ∧
  (∀ (s : State), (Machine.get s F.DMP_HOLD = 0 ∨ isSet s F.DMP_STATUS_AUTO_BLOCKED = true ∨
      isSet s F.CLK_STATUS_LINK_OK = true ∧ elapsed s s.mgt.entered (156250000 * Machine.get s F.DMP_HOLD) = false) →
    Completes .fatalHoldExpiry s fun t => t = s) ∧
  (∀ (s : State),
    Completes .dmpClear s fun t =>
      Machine.get t F.DMP_STATUS_IN_FLASH = 0 ∧ inner t = { inner s with mgt := { s.mgt with flash := none } } ∧
      OnlyFields s t [F.DMP_STATUS_IN_FLASH])

/-- O46. A lockstep mismatch and a stack error fence their pair within its window while two pairs are left; a self-test that
passes restores it; a watchdog that has run out is reported and ends in a management reset, a kick restarts it. Writes of SW_SET
set their flags, LOG_CLR zeroes the log. CC.EN cleared resets its function and nothing of the others; PERST# takes its port's
links down and resets their functions, and ends the wait after three thermal shutdowns. A watchdog that runs out in probation, or
a pair lost with one left, ends in a fallback or in the fatal state. Nothing else changes. (R372, R396, R449, R510, R522, R532,
R535, R538, R539, R540, R549, R550) -/
def Obligations.PairsSoftwareEventsAndFunctionResets : Prop :=
  (∀ (s : State) (p flag : Nat) (i : Instr), p < 4 → isSet s (F.MGT_STATUS_IN_SERVICE p) = true →
    (i, flag) ∈ [(Instr.lockstepMismatch p, B.MGT_EVT_MISMATCH), (.stackUe p, B.MGT_EVT_STACK_UE)] →
    Completes i s fun t =>
      Machine.get t (F.MGT_STATUS_IN_SERVICE p) = 0 ∧ Machine.get t (F.MGT_STATUS_FENCED p) = 1 ∧ Raised t (evMGT p) flag ∧
      isExposed t Dom.mgt p = true ∧
      ((pairsUp s).length = 2 → fatalOpen s = true →
        Machine.get t F.DMP_STATUS_FATAL = 1 ∧ Machine.get t F.DMP_CAUSE_CAUSE = 4 ∧ t.mgt.dumping = true) ∧
      (3 ≤ (pairsUp s).length → s.windows = [] → s.exposed = [] →
        t.faultLog.head? = some ⟨now s, 0, Dom.mgt, p, 0, 196 + 2 * p⟩ ∧
        inner t = { inner s with exposed := [(Dom.mgt, p)], faultLog := t.faultLog } ∧
        OnlyFields s t ([F.MGT_STATUS_IN_SERVICE p, F.MGT_STATUS_FENCED p, F.EVT_FW_OPEN_NOW, F.EVT_FW_OPEN_TOTAL] ++ evFields (evMGT p)))) ∧
  (∀ (s : State) (p : Nat), p < 4 → isSet s (F.MGT_STATUS_FENCED p) = true →
    Completes (.pairRestore p true) s fun t =>
      Machine.get t (F.MGT_STATUS_IN_SERVICE p) = 1 ∧ Machine.get t (F.MGT_STATUS_FENCED p) = 0 ∧ isExposed t Dom.mgt p = false ∧
      inner t = { inner s with
        mgt := { s.mgt with kicked := mapPut s.mgt.kicked p (now s) }, exposed := s.exposed.filter fun d => d ≠ (Dom.mgt, p) } ∧
      OnlyFields s t [F.MGT_STATUS_IN_SERVICE p, F.MGT_STATUS_FENCED p]) ∧
  (∀ (s : State) (p : Nat), Completes (.pairRestore p false) s fun t => t = s) ∧
  (∀ (s : State) (p : Nat), wdogOut s p = true →
    Completes (.watchdogExpiry p) s fun t =>
      Raised t (evMGT p) B.MGT_EVT_WATCHDOG ∧ Machine.get t F.PWR_RESET_CAUSE_KIND = 2 ∧
      Machine.get t F.FUS_STATUS_DEBUG_ACTIVE = (if fuseBits s 3 1 2 = 0 then 1 else 0) ∧
      inner t = { inner s with
        mgt := { s.mgt with kicked := (List.range 4).map fun q => (q, now s) },
        flash := if s.flash.fw.state = 2 ∨ s.flash.fw.state = 3 then { s.flash with fw := { s.flash.fw with fellBack := true } } else s.flash } ∧
      OnlyFields s t ([F.PWR_RESET_CAUSE_KIND, F.FUS_STATUS_DEBUG_ACTIVE] ++ evFields (evMGT p))) ∧
  (∀ (s : State) (p : Nat), p < 4 →
    Completes (.wdogKick p) s fun t =>
      inner t = { inner s with mgt := { s.mgt with kicked := mapPut s.mgt.kicked p (now s) } } ∧ OnlyFields s t []) ∧
  (∀ (s : State) (v : Nat),
    Completes (.swSet false v) s fun t =>
      (∀ i < 32, bitOf (Machine.get t F.EVT_SW_FLAG0) i = max (bitOf v i) (bitOf (Machine.get s F.EVT_SW_FLAG0) i)) ∧
      Within s t [F.EVT_SW_FLAG0, F.EVT_LOG_HEAD]) ∧
  (∀ (s : State) (v : Nat),
    Completes (.swSet true v) s fun t =>
      (∀ i < 8, bitOf (Machine.get t F.EVT_SW_FLAG1) i = max (bitOf v i) (bitOf (Machine.get s F.EVT_SW_FLAG1) i)) ∧
      Within s t [F.EVT_SW_FLAG1, F.EVT_LOG_HEAD]) ∧
  (∀ (s : State), Completes .logClr s fun t => t.log = [] ∧ Machine.get t F.EVT_LOG_HEAD = 0 ∧ Within s t [F.EVT_LOG_HEAD]) ∧
  (∀ (s : State) (fn : Nat), fn < 512 → isSet s (F.HST_FN_STATUS_CCEN fn) = true → (fn = 0 → isSet s F.DMP_STATUS_FATAL = false) →
    Completes (.ccEnClear fn) s fun t =>
      Machine.get t (F.HST_FN_STATUS_CCEN fn) = 0 ∧ Machine.get t (F.HST_FN_STATUS_STAMP fn) = 0 ∧
      Machine.get t (F.HST_FN_STATUS_IOQ fn) = 0 ∧ Machine.get t F.PWR_RESET_CAUSE_KIND = 4 ∧
      ((∀ c ∈ s.host.cmds, c.fn ≠ fn) → Machine.get t (F.HST_FN_STATUS_RDY fn) = 0 ∧
      t.host.queues = s.host.queues.filter (fun q => q.fn ≠ fn) ∧
      inner t = { inner s with host := { s.host with
        queues := t.host.queues, fetching := s.host.fetching.filter fun x => decide (x.1 ≠ fn),
        aers := s.host.aers.filter fun x => decide (x.1 ≠ fn), held := s.host.held.filter fun x => decide (x.1 ≠ fn),
        sent := s.host.sent.filter fun x => decide (x.1 ≠ fn), tabSess := if holds fn s.host.tabSess then none else s.host.tabSess,
        fwSess := if holds fn s.host.fwSess then none else s.host.fwSess,
        features := mapEraseRange s.host.features (256 * fn) (256 * fn + 256), ams := mapErase s.host.ams fn } } ∧
      OnlyFields s t ([F.HST_FN_STATUS_CCEN fn, F.HST_FN_STATUS_STAMP fn, F.HST_FN_STATUS_IOQ fn, F.HST_FN_STATUS_RDY fn,
        F.HST_INFLIGHT, F.HST_INFLIGHT_C0, F.HST_FN_INFLIGHT fn, F.PWR_RESET_CAUSE_KIND, F.TAB_STATUS_SESSION_OPEN, F.TAB_STATUS_HOLDER,
        F.TAB_STAGED] ++ fwSessFields ++ s.host.queues.flatMap fun q => if q.fn = fn then queueFields q.ctx else []))) ∧
  (∀ (s : State) (port : Nat), port < 2 → s.pwr.dormant = false → s.pwr.hold = 0 → s.pwr.powerLoss = false →
    (port = 0 → isSet s F.DMP_STATUS_FATAL = false) →
    Completes (.perst port) s fun t =>
      (∀ l ∈ portLinks s port, Machine.get t (F.HST_LINK_UP l) = 0 ∧
        (isSet s (F.HST_LINK_UP l) = true → Raised t evHST (B.HST_EVT_LINK_CHANGE + l)) ∧
        (∀ fn ∈ fnsOfLink s l, Machine.get t (F.HST_FN_STATUS_CCEN fn) = 0)) ∧
      Machine.get t F.PWR_RESET_CAUSE_KIND = 3 ∧ t.pwr = { s.pwr with perst := mapPut s.pwr.perst port (now s) } ∧
      (s.host.cmds = [] → (∀ l ∈ portLinks s port, ∀ fn ∈ fnsOfLink s l, Machine.get t (F.HST_FN_STATUS_RDY fn) = 0) ∧
      inner t = { inner s with pwr := t.pwr, host := t.host } ∧
      OnlyFieldsBeside 0x6000000 0x7000000 s t ([F.PWR_RESET_CAUSE_KIND, F.TAB_STATUS_SESSION_OPEN, F.TAB_STATUS_HOLDER, F.TAB_STAGED,
        F.EVT_LOG_HEAD] ++ fwSessFields))) ∧
  (∀ (s : State) (port : Nat), port < 2 → s.pwr.dormant = true →
    Completes (.perst port) s fun t =>
      inner t = { inner s with pwr := { s.pwr with perst := mapPut s.pwr.perst port (now s) } } ∧ OnlyFields s t []) ∧
  (∀ (s : State) (port : Nat), port < 2 → s.pwr.dormant = false → s.pwr.hold = 2 → 3 ≤ recentShutdowns s →
    Completes (.perst port) s fun t =>
      Raised t evTHM B.THM_EVT_SHUTDOWN ∧ ChipReset 6 s t (F.THM_SHUTDOWNS_J :: evFields evTHM))

/-- O47. A lost reference and an unlocked PLL clear their status bit and raise their event; a host port's links go down and their
functions reset, the links of a die lose their clock, the channels leave service without DDR, and without LINK_REFCLK or CORE
every link loses its clock and the state is fatal. A request is kept in REQ and has the effect R521 gives it in each state, or is
held while a transition runs. Idle timers begin Poised and Parked; disc-bound work leaves Poised; the entry to Parked goes on once
dirty data and write sessions are gone, the epoch is switched and checkpointed and the bays are at rest, and ends in Parked,
Dormant or Run. Dormant is entered by a chip reset and left by a wake source. Where the statement names what changes, nothing else
does. (R354, R371, R372, R518, R519, R520, R521, R527, R530, R541) -/
def Obligations.ClocksAndPowerStates : Prop :=
  (∀ (s : State), coreRuns s = true →
    Completes (.referenceLoss 3) s fun t =>
      Machine.get t F.CLK_STATUS_XTAL_OK = 0 ∧ Raised t evCLK 3 ∧ Within s t (F.CLK_STATUS_XTAL_OK :: evFields evCLK)) ∧
  (∀ (s : State) (port : Nat), port < 2 → coreRuns s = true →
    Completes (.referenceLoss port) s fun t =>
      Machine.get t (if port = 0 then F.CLK_STATUS_PCIE0_OK else F.CLK_STATUS_PCIE1_OK) = 0 ∧ Raised t evCLK port ∧
      (∀ l ∈ portLinks s port, Machine.get t (F.HST_LINK_UP l) = 0 ∧
        (∀ fn ∈ fnsOfLink s l, Machine.get t (F.HST_FN_STATUS_CCEN fn) = 0)) ∧
      (s.host.cmds = [] → inner t = { inner s with host := t.host } ∧
        OnlyFieldsBeside 0x6000000 0x7000000 s t ([F.CLK_STATUS_PCIE0_OK, F.CLK_STATUS_PCIE1_OK, F.TAB_STATUS_SESSION_OPEN, F.TAB_STATUS_HOLDER,
          F.TAB_STAGED] ++ fwSessFields ++ evFields evCLK))) ∧
  (∀ (s : State) (i : Instr) (ev detail : Nat), coreRuns s = true → (i, ev, detail) ∈ [(Instr.referenceLoss 2, 2, 1), (.pllUnlock 0, 4, 2)] →
    Completes i s fun t =>
      (detail = 1 → Machine.get t F.CLK_STATUS_LINK_OK = 0) ∧ (detail = 2 → bitOf (Machine.get t F.CLK_STATUS_LOCKED) 0 = 0) ∧
      Raised t evCLK ev ∧ (∀ d < 4, LinksLose s t d) ∧
      (fatalOpen s = true → Machine.get t F.DMP_STATUS_FATAL = 1 ∧ Machine.get t F.DMP_CAUSE_CAUSE = 2 ∧ Machine.get t F.DMP_CAUSE_DETAIL = detail ∧
        t.mgt.dumping = true ∧ MechanismStopped s t ∧ (s.host.cmds = [] → t.plp.dumping = s.plp.dumping))) ∧
  (∀ (s : State) (pll : Nat), (pll = 6 ∨ pll = 7) → coreRuns s = true →
    Completes (.pllUnlock pll) s fun t =>
      Machine.get t F.CLK_STATUS_LOCKED = trunc 8 (Machine.get s F.CLK_STATUS_LOCKED &&& (0xff ^^^ 2 ^ pll)) ∧ Raised t evCLK 4 ∧
      Within s t (F.CLK_STATUS_LOCKED :: evFields evCLK)) ∧
  (∀ (s : State), coreRuns s = true →
    Completes (.pllUnlock 8) s fun t =>
      Machine.get t F.CLK_STATUS_VAULT = 0 ∧ Raised t evCLK 4 ∧ Within s t (F.CLK_STATUS_VAULT :: evFields evCLK)) ∧
  (∀ (s : State), coreRuns s = true →
    Completes (.pllUnlock 1) s fun t =>
      Machine.get t F.CLK_STATUS_LOCKED = trunc 8 (Machine.get s F.CLK_STATUS_LOCKED &&& 0xfd) ∧ Raised t evCLK 4 ∧
      (∀ c < 16, ddrInst s c = true → Machine.get s (F.BUF_CH_STATUS_STATE c) ≠ 1 →
        Machine.get t (F.BUF_CH_STATUS_STATE c) = 1 ∧ Machine.get t (F.BUF_CH_STATUS_CAUSE c) = 1 ∧
        Raised t (evBufCh c) B.BUF_CH_EVT_OUT_OF_SERVICE ∧ Machine.get t F.BUF_STATUS_STATE = 3) ∧
      ((∀ c < 16, ddrInst s c = false) → Within s t (F.CLK_STATUS_LOCKED :: evFields evCLK))) ∧
  (∀ (s : State) (d : Nat), d < 4 → coreRuns s = true →
    Completes (.pllUnlock (2 + d)) s fun t =>
      Machine.get t F.CLK_STATUS_LOCKED = trunc 8 (Machine.get s F.CLK_STATUS_LOCKED &&& (0xff ^^^ 2 ^ (2 + d))) ∧ Raised t evCLK 4 ∧
      LinksLose s t d ∧ Machine.get t F.DMP_STATUS_FATAL = Machine.get s F.DMP_STATUS_FATAL) ∧
  (∀ (s : State) (req : Nat), coreRuns s = true → (req % 8 = 0 ∨ 4 < req % 8 ∨ pwrRuns s = false) →
    Completes (.powerStateRequest req) s fun t =>
      Machine.get t F.PWR_CTRL_REQ = (if req % 8 ≤ 4 then req % 8 else 0) ∧ Within s t [F.PWR_CTRL_REQ]) ∧
  (∀ (s : State) (req : Nat), pwrRuns s = true → 0 < req → req < 5 → s.pwr.phase ≠ 0 →
    Completes (.powerStateRequest req) s fun t =>
      Machine.get t F.PWR_CTRL_REQ = req ∧ inner t = { inner s with pwr := { s.pwr with held := true } } ∧ OnlyFields s t [F.PWR_CTRL_REQ]) ∧
  (∀ (s : State) (req : Nat), pwrRuns s = true → 0 < req → req < 5 → s.pwr.phase = 0 → (req = 4 → Machine.get s F.PWR_STATUS_STATE ≠ 2) →
    Completes (.powerStateRequest req) s fun t =>
      Machine.get t F.PWR_CTRL_REQ = req ∧
      (req = 1 → Machine.get s F.PWR_STATUS_STATE = 1 → Unpoises s t [F.PWR_CTRL_REQ]) ∧
      (req = 1 → Machine.get s F.PWR_STATUS_STATE = 2 → Unparks s t) ∧
      (req = 2 → Machine.get s F.PWR_STATUS_STATE = 0 → Poises s t [F.PWR_CTRL_REQ]) ∧
      (3 ≤ req → Machine.get s F.PWR_STATUS_STATE < 2 → ParksBegun (decide (req = 4)) s.pwr.d3 s t [F.PWR_CTRL_REQ]) ∧
      ((req = 1 ∧ Machine.get s F.PWR_STATUS_STATE = 0 ∨ req = 2 ∧ Machine.get s F.PWR_STATUS_STATE ≠ 0 ∨ req = 3 ∧ 2 ≤ Machine.get s F.PWR_STATUS_STATE) →
        Within s t [F.PWR_CTRL_REQ])) ∧
  (∀ (s : State), pwrRuns s = true → s.pwr.phase = 0 → Machine.get s F.PWR_STATUS_STATE = 2 →
    Completes (.powerStateRequest 4) s fun t => t.pwr.dormant = true ∧ ChipReset 4 s t []) ∧
  (∀ (s : State), pwrRuns s = true → extentRuns s = false →
    (s.pwr.phase = 1 ∧ s.pwr.held = false ∨ s.pwr.phase = 0 ∧ Machine.get s F.PWR_STATUS_STATE = 0 ∧ isSet s F.PWR_CTRL_AUTO_IDLE = true ∧
      Machine.get s F.PWR_IDLE_POISE ≠ 0 ∧ discWork s = false ∧ elapsed s s.pwr.workAt (156250000 * Machine.get s F.PWR_IDLE_POISE) = true) →
    Completes .idlePoise s fun t => Poises s t []) ∧
  (∀ (s : State), pwrRuns s = true → s.pwr.phase = 0 → Machine.get s F.PWR_STATUS_STATE < 2 →
    (allD3 s = true ∨ isSet s F.PWR_CTRL_AUTO_IDLE = true ∧ Machine.get s F.PWR_IDLE_PARK ≠ 0 ∧ s.host.cmds = [] ∧
      elapsed s s.pwr.cmdAt (156250000 * Machine.get s F.PWR_IDLE_PARK) = true) →
    Completes .idlePark s fun t => ParksBegun false s.pwr.d3 s t []) ∧
  (∀ (s : State), pwrRuns s = true → s.pwr.phase = 0 → Machine.get s F.PWR_STATUS_STATE = 1 → discWork s = true →
    Completes .poisedToRun s fun t => Unpoises s t []) ∧
  (∀ (s : State), pwrRuns s = true → s.pwr.phase = 2 → Machine.get s F.PLP_D_DIRTY = 0 → (∀ p ∈ s.lib.sets, p.2.session = false) →
    s.lib.changed = [] → (s.lib.closing = [] ∨ ∀ p ∈ s.lib.sets, p.2.st ≠ 1) →
    Completes .parkedEntryDone s fun t => BaysStop s t) ∧
  (∀ (s : State), pwrRuns s = true → s.pwr.phase = 2 → Machine.get s F.PLP_D_DIRTY = 0 → (∀ p ∈ s.lib.sets, p.2.session = false) →
    s.lib.changed ≠ [] →
    Completes .parkedEntryDone s fun t =>
      Machine.get t F.ARB_EPOCH = trunc 64 (Machine.get s F.ARB_EPOCH + 1) ∧ t.lib.changed = [] ∧ t.lib.rowsSince = 0 ∧
      t.lib.closing = (s.lib.closing.filter fun x => decide (x.1 ∉ s.lib.changed)) ++ s.lib.changed.map (fun p => (p, pageWords s p)) ∧
      inner t = { inner s with
        lib := { s.lib with closing := t.lib.closing, changed := [], rowsSince := 0, report := t.lib.report, reportSeq := t.lib.reportSeq,
                            overwritten := t.lib.overwritten },
        host := toldHost s t } ∧
      OnlyFields s t [F.ARB_EPOCH]) ∧
  (∀ (s : State), pwrRuns s = true → s.pwr.phase = 2 →
    (Machine.get s F.PLP_D_DIRTY ≠ 0 ∨ (∃ p ∈ s.lib.sets, p.2.session = true) ∨
      s.lib.changed = [] ∧ s.lib.closing ≠ [] ∧ ∃ p ∈ s.lib.sets, p.2.st = 1) →
    Completes .parkedEntryDone s fun t => t = s) ∧
  (∀ (s : State), pwrRuns s = true → s.pwr.phase = 3 → (∀ b ∈ baysOf s, bayAtRest s b = true) →
    Completes .parkedEntryDone s fun t =>
      (s.pwr.wake = false → s.pwr.toDorm = false → s.pwr.held = false → ParkedEntered s t) ∧
      (s.pwr.wake = true → s.pwr.held = false → PowerEntered 0 s t) ∧
      (s.pwr.wake = false → (s.pwr.toDorm = true ∨ s.pwr.held = true ∧ Machine.get s F.PWR_CTRL_REQ = 4) →
        t.pwr.dormant = true ∧ Machine.get t F.PWR_RESET_CAUSE_TRIGGER = 4)) ∧
  (∀ (s : State), pwrRuns s = true → s.pwr.phase = 0 → Machine.get s F.PWR_STATUS_STATE = 2 → perstHeld s = true →
    Completes .dormantEntry s fun t => t.pwr.dormant = true ∧ ChipReset 4 s t []) ∧
  (∀ (s : State), s.pwr.dormant = true →
    Completes .wakeN s fun t =>
      Raised t evPWR B.PWR_EVT_WAKE ∧ inner t = { inner s with pwr := { s.pwr with dormant := false } } ∧ OnlyFields s t (evFields evPWR)) ∧
  (∀ (s : State), s.pwr.dormant = true →
    Completes .wakeTimerMatch s fun t =>
      Machine.get t F.PWR_WAKE_TIME = trunc 48 (Machine.get s F.PWR_WAKE_CMP) ∧ Raised t evPWR B.PWR_EVT_WAKE ∧
      inner t = { inner s with pwr := { s.pwr with dormant := false } } ∧ OnlyFields s t (F.PWR_WAKE_TIME :: evFields evPWR)) ∧
  (∀ (s : State), s.pwr.dormant = false → (Completes .wakeN s fun t => t = s) ∧ (Completes .wakeTimerMatch s fun t => t = s)) ∧
  (∀ (s : State) (fn : Nat), fn < 512 → coreRuns s = true →
    Completes (.d0Transition fn true) s fun t =>
      t.pwr.d3 = s.pwr.d3.filter (fun f => f ≠ fn) ∧
      (s.pwr.phase = 2 → s.pwr.held = false → Machine.get t F.PWR_STATUS_TRANSITION = 0 ∧ Raised t evPWR B.PWR_EVT_ENTRY_CANCELLED ∧
        inner t = { inner s with pwr := { s.pwr with d3 := t.pwr.d3, phase := 0, wake := false, toDorm := false, fetchOff := false } } ∧
        OnlyFields s t (F.PWR_STATUS_TRANSITION :: evFields evPWR)) ∧
      (s.pwr.phase = 3 → inner t = { inner s with pwr := { s.pwr with d3 := t.pwr.d3, wake := true } } ∧ OnlyFields s t []) ∧
      (s.pwr.phase < 2 → Machine.get s F.PWR_STATUS_STATE ≠ 2 → inner t = { inner s with pwr := { s.pwr with d3 := t.pwr.d3 } } ∧ OnlyFields s t []) ∧
      (s.pwr.phase < 2 → Machine.get s F.PWR_STATUS_STATE = 2 →
        Machine.get t F.PWR_STATUS_STATE = 0 ∧ Raised t evPWR B.PWR_EVT_STATE_CHANGE ∧ t.pwr.fetchOff = false)) ∧
  (∀ (s : State) (fn : Nat) (d3 : List Nat), fn < 512 → coreRuns s = true → d3 = (if fn ∈ s.pwr.d3 then s.pwr.d3 else s.pwr.d3 ++ [fn]) →
    Completes (.d0Transition fn false) s fun t =>
      t.pwr.d3 = d3 ∧
      (pwrRuns s = true → s.pwr.phase = 0 → Machine.get s F.PWR_STATUS_STATE < 2 → 0 ∈ d3 → (isSet s F.HST_STATUS_PF1 = false ∨ 1 ∈ d3) →
        ParksBegun false d3 s t []) ∧
      ((0 ∉ d3 ∨ isSet s F.HST_STATUS_PF1 = true ∧ 1 ∉ d3 ∨ s.pwr.phase ≠ 0 ∨ 2 ≤ Machine.get s F.PWR_STATUS_STATE) →
        inner t = { inner s with pwr := { s.pwr with d3 := d3 } } ∧ OnlyFields s t []))

/-- O48. CHIP_RESET and RESET_N are chip resets with their triggers, held by the pin until it rises; RESET_N is latched until a
dump ends, releases the fatal state, and does nothing under a thermal stop; the always-on reset leaves only fuses, flash, vault
and media. A bad rail and a low VAON declare a power loss while the chip runs. PERST# rising brings the port's links up, or wakes
from Dormant. A start-up with good modules loads the fuses and reaches CSTS.RDY; it ends in recovery mode without a tablature, in
the fatal state where FACTORY_CRC fails, and stops at step 10 where the buffer's modules differ or are refused. Where the
statement names what changes, nothing else does. (R371, R430, R470, R490, R519, R522, R524, R530, R543, R555, R556, R563) -/
def Obligations.ResetsRailsAndStartUp : Prop :=
  (∀ (s : State), coreRuns s = true → s.pwr.powerLoss = false → s.thm.stop = 0 → isSet s F.DMP_STATUS_FATAL = false →
    Completes .chipReset s fun t => t.pwr.hold = 0 ∧ ChipReset 2 s t []) ∧
  (∀ (s : State), (coreRuns s = false ∨ s.pwr.powerLoss = true ∨ s.thm.stop ≠ 0 ∨ isSet s F.DMP_STATUS_FATAL = true) →
    Completes .chipReset s fun t => t = s) ∧
  (∀ (s : State), s.pwr.dormant = false → s.thm.stop = 0 → (s.pwr.hold = 0 ∨ s.pwr.hold = 3) → s.pwr.powerLoss = false →
    isSet s F.DMP_STATUS_FATAL = false → Completes .resetN s fun t => t.pwr.hold = 3 ∧ ChipReset 1 s t []) ∧
  (∀ (s : State), s.pwr.dormant = false → s.thm.stop = 0 → s.pwr.hold = 1 →
    Completes .resetN s fun t => t.pwr.hold = 3 ∧ ChipReset 5 s t []) ∧
  (∀ (s : State), s.pwr.dormant = false → s.thm.stop = 0 → s.pwr.hold = 0 →
    (s.pwr.powerLoss = true ∨ isSet s F.DMP_STATUS_FATAL = true ∧ dumpsOver s = false) →
    Completes .resetN s fun t => inner t = { inner s with pwr := { s.pwr with resetDue := 1 } } ∧ OnlyFields s t []) ∧
  (∀ (s : State), s.pwr.dormant = false → s.thm.stop = 0 → s.pwr.hold = 0 → s.pwr.powerLoss = false → isSet s F.DMP_STATUS_FATAL = true →
    dumpsOver s = true → Completes .resetN s fun t => FatalReleased 1 s t) ∧
  (∀ (s : State), (s.pwr.dormant = true ∨ s.thm.stop ≠ 0 ∨ s.pwr.hold = 2) → Completes .resetN s fun t => t = s) ∧
  (∀ (s : State),
    Completes .alwaysOnReset s fun t =>
      t.flash = s.flash ∧ t.fuse = { s.fuse with op := none } ∧ t.lib = libMedia s.lib ∧ t.par = { ckpt := s.par.ckpt } ∧
      t.plp = { vault := s.plp.vault, lossWarn := s.plp.lossWarn } ∧ t.mgt = { flash := s.mgt.flash } ∧ t.pwr = {} ∧ t.heads = [] ∧
      t.buses = [] ∧ t.axes = [] ∧ t.spindles = [] ∧ t.carousels = [] ∧ t.buf = {} ∧ OnlyFields State.reset t []) ∧
  (∀ (s : State) (rail : Nat), rail < 6 → s.pwr.dormant = false →
    Completes (.railOutOfTolerance rail true) s fun t =>
      inner t = { inner s with pwr := { s.pwr with railBad := s.pwr.railBad.filter fun r => r ≠ rail } } ∧ OnlyFields s t []) ∧
  (∀ (s : State) (rail : Nat), rail < 6 → s.pwr.dormant = false →
    Completes (.railOutOfTolerance rail false) s fun t =>
      (s.pwr.hold = 0 → s.pwr.powerLoss = false → LossDeclared ((s.pwr.railBad.filter fun r => r ≠ rail) ++ [rail]) s t) ∧
      ((s.pwr.hold ≠ 0 ∨ s.pwr.powerLoss = true) →
        inner t = { inner s with pwr := { s.pwr with railBad := (s.pwr.railBad.filter fun r => r ≠ rail) ++ [rail] } } ∧ OnlyFields s t [])) ∧
  (∀ (s : State), s.pwr.dormant = false → s.pwr.hold = 0 → s.pwr.powerLoss = false →
    Completes .vaonLow s fun t => LossDeclared s.pwr.railBad s t) ∧
  (∀ (s : State), (s.pwr.dormant = true ∨ s.pwr.hold ≠ 0 ∨ s.pwr.powerLoss = true) → Completes .vaonLow s fun t => t = s) ∧
  (∀ (s : State) (port speed width : Nat), port < 2 → s.pwr.dormant = true →
    Completes (.perstDeassert port speed width) s fun t =>
      Raised t evPWR B.PWR_EVT_WAKE ∧
      inner t = { inner s with pwr := { s.pwr with perst := mapErase s.pwr.perst port, dormant := false } } ∧
      OnlyFields s t (evFields evPWR)) ∧
  (∀ (s : State) (port speed width : Nat), port < 2 → coreRuns s = true → s.pwr.started = true → s.pwr.powerLoss = false →
    Completes (.perstDeassert port speed width) s fun t =>
      (∀ l ∈ portLinks s port, l = linkOfPf s 0 ∨ isSet s F.HST_STATUS_PF1 = true ∧ l = linkOfPf s 1 →
        Machine.get t (F.HST_LINK_UP l) = 1 ∧
        (isSet s (F.HST_LINK_UP l) = false → Machine.get t (F.HST_LINK_SPEED l) = trunc 4 speed ∧ Machine.get t (F.HST_LINK_WIDTH l) = trunc 5 width ∧
          Raised t evHST (B.HST_EVT_LINK_CHANGE + l) ∧ isExposed t Dom.hostLink l = false)) ∧
      inner t = { inner s with pwr := { s.pwr with perst := mapErase s.pwr.perst port }, exposed := t.exposed } ∧
      OnlyFields s t ((portLinks s port).flatMap (fun l => [F.HST_LINK_UP l, F.HST_LINK_SPEED l, F.HST_LINK_WIDTH l]) ++ evFields evHST)) ∧
  (∀ (s : State) (port speed width : Nat), port < 2 → s.pwr.dormant = false →
    (s.pwr.hold ≠ 0 ∨ s.pwr.started = false ∨ s.pwr.powerLoss = true) →
    Completes (.perstDeassert port speed width) s fun t =>
      inner t = { inner s with pwr := { s.pwr with perst := mapErase s.pwr.perst port } } ∧ OnlyFields s t []) ∧
  (∀ (s : State) (x : StartConditions), startReady s = true → factoryOk s = true → badChannels x.caps = [] → refusedChannels x = [] →
    Completes (.startUp x) s fun t =>
      t.pwr.started = true ∧ t.pwr.rdyOk = true ∧ t.pwr.hold = 0 ∧ Machine.get t F.FUS_STATUS_FACTORY_OK = 1 ∧
      Machine.get t F.PWR_STATUS_START_STEP = 14 ∧ Machine.get t F.PWR_START_TIME_RDY = trunc 16 (min 65535 (now s / 156250)) ∧
      Raised t evPWR B.PWR_EVT_START_DONE ∧ Machine.get t F.CLK_STATUS_LINK_OK = 1 ∧
      (∀ fn < 512, isSet s (F.HST_FN_STATUS_CCEN fn) = true → Machine.get t (F.HST_FN_STATUS_RDY fn) = 1) ∧
      (fuseBits s 3 1 2 = 0 → Machine.get t F.FUS_STATUS_DEBUG_ACTIVE = 1)) ∧
  (∀ (s : State) (x : StartConditions), startReady s = true → factoryOk s = true → s.flash.tabA = [] → s.flash.tabB = [] →
    Completes (.startUp x) s fun t =>
      Machine.get t F.TAB_STATUS_SELECTED = 3 ∧ Raised t evTAB B.TAB_EVT_RECOVERY ∧ Machine.get t F.FUS_STATUS_FACTORY_OK = 1 ∧
      Machine.get t F.HST_STATUS_PORT_MODE = 3 ∧ Machine.get t F.HST_STATUS_PF1 = 0 ∧ t.pwr.started = true ∧ t.pwr.rdyOk = true ∧
      Machine.get t F.PWR_STATUS_START_STEP = 14 ∧
      (s.flash.fw = {} → x.links = [] → t.heads = s.heads ∧ t.lib = s.lib ∧ t.plp = s.plp)) ∧
  (∀ (s : State) (x : StartConditions), startReady s = true → factoryOk s = false → s.thm.stop = 0 →
    Completes (.startUp x) s fun t =>
      Raised t evFUS B.FUS_EVT_FACTORY_CRC ∧ Machine.get t F.DMP_STATUS_FATAL = 1 ∧ Machine.get t F.DMP_CAUSE_CAUSE = 1 ∧
      Machine.get t F.DMP_CAUSE_DETAIL = 0 ∧ t.mgt.dumping = true ∧ t.pwr.started = false) ∧
  (∀ (s : State) (x : StartConditions), startReady s = true → factoryOk s = true → (badChannels x.caps ≠ [] ∨ refusedChannels x ≠ []) →
    Completes (.startUp x) s fun t =>
      t.pwr.hold = 0 ∧
      (t.pwr.started = true ∧ Machine.get t F.HST_STATUS_PORT_MODE = 3 ∨
       t.pwr.started = false ∧ Machine.get t F.PWR_STATUS_START_STEP = 10 ∧ Machine.get t F.BUF_STATUS_STATE = 4 ∧
         (∀ c ∈ refusedChannels x, Machine.get t (F.BUF_CH_STATUS_STATE c) = 3) ∧
         (∀ c ∈ badChannels x.caps, c ∉ refusedChannels x → Machine.get t (F.BUF_CH_STATUS_STATE c) = 1 ∧ Machine.get t (F.BUF_CH_STATUS_CAUSE c) = 1))) ∧
  (∀ (s : State) (x : StartConditions), startReady s = false → Completes (.startUp x) s fun t => t = s)

/-- O49. Identify and Get Log Page answer with the data of the state, in recovery mode and in the fatal state too where the spec
serves them; a vendor page's generation count rises where its content is not what was last read; reading a page lets its events be
posted again unless they are retained, restarts the Changed Namespace List, and resets the report's count; an unknown page is
refused. Get LBA Status lists exactly UNAVAILABLE blocks of its range. The sideband serves one request at a time; in Dormant three
kinds are served and the others wake, before start-up they wait, in the fatal state a reset is a release and the others fail.
Where the statement names what changes, nothing else does. (R394, R395, R400, R403, R405, R408, R410, R418, R490, R521, R543,
R546) -/
def Obligations.IdentifyPagesAndManagement : Prop :=
  (∀ (s : State) (fn cid cns nsid cntid : Nat),
    (adminOpen s fn = true ∨ fn = 0 ∧ isSet s (F.HST_FN_STATUS_CCEN 0) = true ∧ s.pwr.powerLoss = false) →
    cns ∈ [0, 1, 2, 3, 5, 6, 0x10, 0x11, 0x12, 0x13, 0x14, 0x15] →
    Completes (.identify fn cid cns nsid cntid) s fun t =>
      t.host = { s.host with posted := ⟨fn, 0, cid, 0, 0, 0, 0, 0, [], identifyData s fn cns nsid cntid⟩ :: s.host.posted } ∧
      (cns = 1 → identifyData s fn cns nsid cntid = identifyController s fn) ∧ WithinHost s t []) ∧
  (∀ (s : State) (fn cid cns nsid cntid : Nat), adminOpen s fn = true → cns ∉ [0, 1, 2, 3, 5, 6, 0x10, 0x11, 0x12, 0x13, 0x14, 0x15] →
    Completes (.identify fn cid cns nsid cntid) s fun t =>
      t.host.posted = ⟨fn, 0, cid, 0, 2, 1, 0, 0, [], []⟩ :: s.host.posted ∧ WithinHost s t []) ∧
  (∀ (s : State) (fn cid lid lpo dwords : Nat) (rae : Bool) (old page : List Nat), adminOpen s fn = true → logPage s fn lid = some old →
    logPage (freshPage fn lid s) fn lid = some page →
    Completes (.getLogPage fn cid lid lpo dwords rae) s fun t =>
      t.host.posted = ⟨fn, 0, cid, 0, 0, 0, 0, 0, [], pageRange lpo (4 * dwords) page⟩ :: s.host.posted ∧
      ((lid < 0xc0 ∨ mapGet (fun _ => []) s.host.pageSeen lid = old.drop 8) →
        page = old ∧ t.host.pageGen = s.host.pageGen ∧ t.host.pageSeen = s.host.pageSeen) ∧
      (0xc0 ≤ lid → mapGet (fun _ => []) s.host.pageSeen lid ≠ old.drop 8 →
        t.host.pageGen = mapPut s.host.pageGen lid (mapGet (fun _ => 0) s.host.pageGen lid + 1) ∧
        t.host.pageSeen = mapPut s.host.pageSeen lid (old.drop 8)) ∧
      t.host = { s.host with
        posted := t.host.posted, pageGen := t.host.pageGen, pageSeen := t.host.pageSeen,
        sent := if rae then s.host.sent
          else s.host.sent.filter fun x => decide (x.1 ≠ slotFn fn) || decide (eventPage x.2 ≠ lid),
        nsChanged := if lid = 4 ∧ rae = false then s.host.nsChanged.filter fun p => decide (p.1 ≠ slotFn fn) else s.host.nsChanged } ∧
      t.lib = (if lid = 0xc3 ∧ lpo ≤ 64 + 32 * (s.lib.reportSeq % 4096) ∧ 96 + 32 * (s.lib.reportSeq % 4096) ≤ lpo + 4 * dwords
        then { s.lib with reportRead := s.lib.reportSeq, overwritten := 0 } else s.lib) ∧
      inner t = { inner s with lib := t.lib, host := t.host } ∧ OnlyFields s t []) ∧
  (∀ (s : State) (fn cid lid lpo dwords : Nat) (rae : Bool), adminOpen s fn = true → logPage s fn lid = none →
    Completes (.getLogPage fn cid lid lpo dwords rae) s fun t =>
      t.host.posted = ⟨fn, 0, cid, 1, 9, 1, 0, 0, [], []⟩ :: s.host.posted ∧ WithinHost s t []) ∧
  (∀ (s : State) (cid lpo dwords : Nat) (rae : Bool), isSet s (F.HST_FN_STATUS_CCEN 0) = true → s.pwr.powerLoss = false →
    Completes (.getLogPage 0 cid 0xc4 lpo dwords rae) s fun t =>
      t.host.posted = ⟨0, 0, cid, 0, 0, 0, 0, 0, [], pageRange lpo (4 * dwords) (dumpPage (freshPage 0 0xc4 s))⟩ :: s.host.posted ∧
      t.mgt = s.mgt ∧ WithinHost s t []) ∧
  (∀ (s : State) (cid lpo dwords : Nat), isSet s (F.HST_FN_STATUS_CCEN 0) = true → s.pwr.powerLoss = false →
    Completes (.getLogPageDumpClear 0 cid lpo dwords) s fun t =>
      t.host.posted = ⟨0, 0, cid, 0, 0, 0, 0, 0, [], pageRange lpo (4 * dwords) (dumpPage (freshPage 0 0xc4 s))⟩ :: s.host.posted ∧
      t.host = { s.host with posted := t.host.posted, pageGen := t.host.pageGen, pageSeen := t.host.pageSeen } ∧
      Machine.get t F.DMP_STATUS_IN_FLASH = 0 ∧ t.mgt = { s.mgt with flash := none } ∧
      inner t = { inner s with host := t.host, mgt := t.mgt } ∧ OnlyFields s t [F.DMP_STATUS_IN_FLASH]) ∧
  (∀ (s : State) (fn cid : Nat), adminOpen s fn = true → fn < 512 →
    Completes (.nvmeMiSend fn cid) s fun t =>
      t.fresh = s.fresh + 1 ∧
      t.host = { s.host with posted := ⟨fn, 0, cid, 0, 0, 0, trunc 32 (Config.freeValue s.fresh), 0, [], []⟩ :: s.host.posted } ∧
      inner t = { inner s with host := t.host, fresh := t.fresh } ∧ OnlyFields s t []) ∧
  (∀ (s : State) (fn cid len : Nat), adminOpen s fn = true → fn < 512 →
    Completes (.nvmeMiReceive fn cid len) s fun t =>
      t.fresh = s.fresh + 1 ∧ (∀ c ∈ t.host.posted.head?, c.fn = fn ∧ c.cid = cid ∧ c.sct = 0 ∧ c.sc = 0 ∧ c.bytes.length = len) ∧
      t.host = { s.host with posted := t.host.posted } ∧ t.host.posted.tail = s.host.posted ∧
      inner t = { inner s with host := t.host, fresh := t.fresh } ∧ OnlyFields s t []) ∧
  (∀ (s : State) (fn cid nsid slba range action most hi : Nat) (n : Namespace), adminOpen s fn = true → fn < 512 → findSpace s nsid = some n →
    fn ∈ n.attach → (action = 0x10 ∨ action = 0x11) → slba < 256 * n.grains →
    hi = (if range = 0 then 256 * n.grains else min (256 * n.grains) (slba + range)) →
    Completes (.getLbaStatus fn cid nsid slba range action most) s fun t =>
      (∀ c ∈ t.host.posted.head?, c.fn = fn ∧ c.cid = cid ∧ c.sct = 0 ∧ c.sc = 0 ∧ c.blocks.length ≤ most ∧
        (∀ r ∈ c.blocks, ∀ k < r.2, slba ≤ r.1 + k ∧ r.1 + k < hi ∧ (mapFind s.lib.unavail (256 * n.base + r.1 + k)).isSome = true) ∧
        (s.lib.unavail.length ≤ most → ∀ k ∈ s.lib.unavail.map Prod.fst, 256 * n.base + slba ≤ k → k < 256 * n.base + hi →
          ∃ r ∈ c.blocks, 256 * n.base + r.1 ≤ k ∧ k < 256 * n.base + r.1 + r.2)) ∧
      t.host = { s.host with posted := t.host.posted } ∧ t.host.posted.tail = s.host.posted ∧ WithinHost s t []) ∧
  (∀ (s : State) (fn cid nsid slba range action most : Nat) (n : Namespace), adminOpen s fn = true → fn < 512 → findSpace s nsid = some n →
    (fn ∉ n.attach ∨ action ≠ 0x10 ∧ action ≠ 0x11 ∨ 256 * n.grains ≤ slba) →
    Completes (.getLbaStatus fn cid nsid slba range action most) s fun t =>
      t.host.posted = ⟨fn, 0, cid, 0, if fn ∉ n.attach ∨ action ≠ 0x10 ∧ action ≠ 0x11 then 2 else 0x80, 1, 0, 0, [], []⟩ :: s.host.posted ∧
      WithinHost s t []) ∧
  (∀ (s : State) (id kind : Nat), s.host.sideband = none →
    (kind < 3 ∨ s.pwr.dormant = false ∧ s.pwr.started = true ∧ s.pwr.hold = 0 ∧ isSet s F.DMP_STATUS_FATAL = false ∧ s.pwr.phase < 2 ∧
      Machine.get s F.PWR_STATUS_STATE ≠ 2) →
    Completes (.sidebandRequest id kind) s fun t =>
      t.fresh = s.fresh + 1 ∧
      t.host = { s.host with posted := ⟨512, 0, id, 0, 0, 0, trunc 32 (Config.freeValue s.fresh), 0, [], []⟩ :: s.host.posted } ∧
      inner t = { inner s with host := t.host, fresh := t.fresh } ∧ OnlyFields s t []) ∧
  (∀ (s : State) (id kind : Nat), s.host.sideband = none → 3 ≤ kind → s.pwr.dormant = true →
    Completes (.sidebandRequest id kind) s fun t =>
      t.host = { s.host with sideband := some id } ∧ Raised t evPWR B.PWR_EVT_WAKE ∧
      inner t = { inner s with host := t.host, pwr := { s.pwr with dormant := false } } ∧ OnlyFields s t (evFields evPWR)) ∧
  (∀ (s : State) (id kind : Nat), s.host.sideband = none → 3 ≤ kind → s.pwr.dormant = false → (s.pwr.started = false ∨ s.pwr.hold ≠ 0) →
    Completes (.sidebandRequest id kind) s fun t => t.host = { s.host with sideband := some id } ∧ WithinHost s t []) ∧
  (∀ (s : State) (id : Nat), s.host.sideband = none → s.pwr.dormant = false → s.pwr.started = true → s.pwr.hold = 0 →
    isSet s F.DMP_STATUS_FATAL = true →
    Completes (.sidebandRequest id 3) s fun t =>
      t.host.posted = ⟨512, 0, id, 0, 0, 0, trunc 32 (Config.freeValue s.fresh), 0, [], []⟩ :: s.host.posted ∧
      (dumpsOver s = true → FatalReleased 3 s t) ∧ (dumpsOver s = false → t.pwr.resetDue = 3 ∧ Machine.get t F.DMP_STATUS_FATAL = 1)) ∧
  (∀ (s : State) (id kind : Nat), s.host.sideband = none → s.pwr.dormant = false → s.pwr.started = true → s.pwr.hold = 0 →
    isSet s F.DMP_STATUS_FATAL = true → 4 ≤ kind →
    Completes (.sidebandRequest id kind) s fun t =>
      t.host.posted = ⟨512, 0, id, 0, 6, 0, 0, 0, [], []⟩ :: s.host.posted ∧ WithinHost s t []) ∧
  (∀ (s : State) (id kind x : Nat), s.host.sideband = some x →
    Completes (.sidebandRequest id kind) s fun t =>
      t.host.posted = ⟨512, 0, id, 7, 1, 0, trunc 32 (Config.freeValue s.fresh), 0, [], []⟩ :: s.host.posted ∧ t.host.sideband = some x ∧
      t.fresh = s.fresh + 1 ∧ inner t = { inner s with host := t.host, fresh := t.fresh } ∧ OnlyFields s t [])

/-- O50. A feature that is set is in force for its function alone and read back; the default and the capabilities are read by SEL;
an unknown feature, one to be saved, a value out of range, and a feature of PF0 asked of another function are refused. The stamp
report, the power-loss budget and the thermal grace go to their registers, the others to the feature table; TMT1 and TMT2 have
their demand judged at once, and a grace that has run out ends. An event request is held, answered by an event that waited, or
refused when 16 are held. Where the statement names what changes, nothing else does. (R375, R383, R395, R400, R409, R410, R412,
R425, R445, R450) -/
def Obligations.FeaturesAndEvents : Prop :=
  (∀ (s : State) (fn cid fid v : Nat), adminOpen s fn = true → fn < 512 → fid ∈ [1, 4, 8, 9, 0x0b, 0xc4] →
    Completes (.setFeatures fn cid fid v false) s fun t =>
      mapFind t.host.features (256 * fn + fid) = some v ∧
      t.host = { s.host with
        features := mapPut s.host.features (256 * fn + fid) v, posted := ⟨fn, 0, cid, 0, 0, 0, 0, 0, [], []⟩ :: s.host.posted } ∧
      WithinHost s t []) ∧
  (∀ (s : State) (fn cid v : Nat), adminOpen s fn = true → fn < 512 →
    Completes (.setFeatures fn cid 2 v false) s fun t =>
      t.host.posted = (if v % 32 = 0 then ⟨fn, 0, cid, 0, 0, 0, 0, 0, [], []⟩ else ⟨fn, 0, cid, 0, 2, 1, 0, 0, [], []⟩) :: s.host.posted ∧
      t.host.features = s.host.features ∧ WithinHost s t []) ∧
  (∀ (s : State) (fn cid v n : Nat), adminOpen s fn = true → fn < 512 → v % 65536 ≠ 65535 → v / 65536 % 65536 ≠ 65535 →
    Machine.get s (F.HST_FN_STATUS_IOQ fn) = 0 → n = min (v % 65536) (pairsLess1 s fn) + 65536 * min (v / 65536 % 65536) (pairsLess1 s fn) →
    Completes (.setFeatures fn cid 7 v false) s fun t =>
      t.host = { s.host with
        features := mapPut s.host.features (256 * fn + 7) n, posted := ⟨fn, 0, cid, 0, 0, 0, n, 0, [], []⟩ :: s.host.posted } ∧
      WithinHost s t []) ∧
  (∀ (s : State) (fn cid v : Nat), adminOpen s fn = true → fn < 512 →
    (v % 65536 = 65535 ∨ v / 65536 % 65536 = 65535 ∨ Machine.get s (F.HST_FN_STATUS_IOQ fn) ≠ 0) →
    Completes (.setFeatures fn cid 7 v false) s fun t =>
      t.host.posted = ⟨fn, 0, cid, 0, if v % 65536 = 65535 ∨ v / 65536 % 65536 = 65535 then 2 else 0x0c, 1, 0, 0, [], []⟩ :: s.host.posted ∧
      t.host.features = s.host.features ∧ WithinHost s t []) ∧
  (∀ (s : State) (fn cid fid v : Nat) (save : Bool), adminOpen s fn = true → fn < 512 →
    fid ∉ [1, 2, 4, 7, 8, 9, 0x0b, 0x10, 0xc1, 0xc2, 0xc3, 0xc4] →
    Completes (.setFeatures fn cid fid v save) s fun t =>
      t.host.posted = ⟨fn, 0, cid, 0, 2, 1, 0, 0, [], []⟩ :: s.host.posted ∧ t.host.features = s.host.features ∧ WithinHost s t []) ∧
  (∀ (s : State) (fn cid fid v : Nat), adminOpen s fn = true → fn < 512 → fid ∈ [1, 2, 4, 7, 8, 9, 0x0b, 0x10, 0xc1, 0xc2, 0xc3, 0xc4] →
    Completes (.setFeatures fn cid fid v true) s fun t =>
      t.host.posted = ⟨fn, 0, cid, 1, 0x0d, 1, 0, 0, [], []⟩ :: s.host.posted ∧ t.host.features = s.host.features ∧ WithinHost s t []) ∧
  (∀ (s : State) (fn cid : Nat) (on : Bool), adminOpen s fn = true → fn < 512 →
    Completes (.setFeaturesStampReporting fn cid on) s fun t =>
      Machine.get t (F.HST_FN_STATUS_STAMP fn) = (if on then 1 else 0) ∧
      t.host = { s.host with posted := ⟨fn, 0, cid, 0, 0, 0, 0, 0, [], []⟩ :: s.host.posted } ∧ WithinHost s t [F.HST_FN_STATUS_STAMP fn]) ∧
  (∀ (s : State) (cid p e : Nat), adminOpen s 0 = true → p % 65536 ≠ 0 →
    Completes (.setFeaturesPowerLoss 0 cid p e) s fun t =>
      Machine.get t F.PLP_P_DUMP = p % 65536 ∧ Machine.get t F.PLP_E_RESERVE = e % 65536 ∧
      t.host = { s.host with posted := ⟨0, 0, cid, 0, 0, 0, 0, 0, [], []⟩ :: s.host.posted } ∧ WithinHost s t [F.PLP_P_DUMP, F.PLP_E_RESERVE]) ∧
  (∀ (s : State) (fn cid p e : Nat), adminOpen s fn = true → fn < 512 → (fn ≠ 0 ∨ p % 65536 = 0) →
    Completes (.setFeaturesPowerLoss fn cid p e) s fun t =>
      t.host.posted = ⟨fn, 0, cid, 0, 2, 1, 0, 0, [], []⟩ :: s.host.posted ∧ WithinHost s t []) ∧
  (∀ (s : State) (cid ms : Nat), adminOpen s 0 = true → 500 ≤ ms → ms ≤ 30000 →
    Completes (.setFeaturesThermalGrace 0 cid ms) s fun t =>
      Machine.get t F.THM_GRACE = ms ∧ t.host.posted.head? = some ⟨0, 0, cid, 0, 0, 0, 0, 0, [], []⟩ ∧
      ((isSet s F.THM_STATUS_GRACE = false ∨ isSet s F.THM_STATUS_THROTTLE = false ∨ now s < 156250 * ms + s.thm.setAt ∨ s.thm.stop ≠ 0) →
        t.host = { s.host with posted := t.host.posted } ∧ t.host.posted.tail = s.host.posted ∧ WithinHost s t [F.THM_GRACE]) ∧
      (isSet s F.THM_STATUS_GRACE = true → isSet s F.THM_STATUS_THROTTLE = true → 156250 * ms + s.thm.setAt ≤ now s → s.thm.stop = 0 →
        Machine.get t F.THM_STATUS_GRACE = 0 ∧ t.thm.own = max 1 s.thm.own ∧ t.thm.ownAt = now s ∧ 1 ≤ Machine.get t F.THM_ENF_STEP)) ∧
  (∀ (s : State) (fn cid ms : Nat), adminOpen s fn = true → fn < 512 → (fn ≠ 0 ∨ ms < 500 ∨ 30000 < ms) →
    Completes (.setFeaturesThermalGrace fn cid ms) s fun t =>
      t.host.posted = ⟨fn, 0, cid, 0, 2, 1, 0, 0, [], []⟩ :: s.host.posted ∧ WithinHost s t []) ∧
  (∀ (s : State) (fn cid gib : Nat), adminOpen s fn = true → fn < 512 →
    Completes (.setFeaturesRecallQuota fn cid gib) s fun t =>
      mapFind t.host.features (256 * fn + 0xc4) = some gib ∧
      t.host = { s.host with
        features := mapPut s.host.features (256 * fn + 0xc4) gib, posted := ⟨fn, 0, cid, 0, 0, 0, 0, 0, [], []⟩ :: s.host.posted } ∧
      WithinHost s t []) ∧
  (∀ (s : State) (fn cid t1 t2 v : Nat), adminOpen s fn = true → fn < 512 → v = 65536 * (t1 % 65536) + t2 % 65536 → tmtOk v = true →
    Completes (.setFeaturesHctm fn cid t1 t2) s fun t =>
      mapFind t.host.features (256 * fn + 0x10) = some v ∧ t.host.posted.head? = some ⟨fn, 0, cid, 0, 0, 0, 0, 0, [], []⟩ ∧
      t.thm.tmt = tmtDemand t (Machine.getI s F.THM_HOT_TJ) ∧
      (t.thm.tmt = s.thm.tmt → s.thm.tmt ≤ Machine.get s F.THM_ENF_STEP →
        t.host = { s.host with features := mapPut s.host.features (256 * fn + 0x10) v, posted := t.host.posted } ∧
        t.host.posted.tail = s.host.posted ∧ WithinHost s t [])) ∧
  (∀ (s : State) (fn cid t1 t2 : Nat), adminOpen s fn = true → fn < 512 → tmtOk (65536 * (t1 % 65536) + t2 % 65536) = false →
    Completes (.setFeaturesHctm fn cid t1 t2) s fun t =>
      t.host.posted = ⟨fn, 0, cid, 0, 2, 1, 0, 0, [], []⟩ :: s.host.posted ∧ t.host.features = s.host.features ∧ WithinHost s t []) ∧
  (∀ (s : State) (fn cid fid sel : Nat), adminOpen s fn = true → fid ∈ [1, 2, 4, 7, 8, 9, 0x0b, 0x10, 0xc1, 0xc2, 0xc3, 0xc4] →
    (slotFn fn = 0 ∨ fid ≠ 0xc2 ∧ fid ≠ 0xc3) →
    Completes (.getFeatures fn cid fid sel) s fun t =>
      (∀ c ∈ t.host.posted.head?,
        (sel % 8 = 0 → c.dw0 = featureNow s (slotFn fn) fid) ∧ (sel % 8 = 3 → c.dw0 = 4) ∧
        (sel % 8 ≠ 0 → sel % 8 ≠ 3 → c.dw0 = featureDefault s (slotFn fn) fid) ∧
        (sel % 8 = 0 → ∀ v ∈ mapFind s.host.features (256 * slotFn fn + fid), fid ∉ [0xc1, 0xc2, 0xc3] → c.dw0 = v) ∧
        (sel % 8 = 0 → fid = 0xc2 → c.dw0 = Machine.get s F.PLP_P_DUMP + 65536 * Machine.get s F.PLP_E_RESERVE) ∧
        t.host = { s.host with posted := ⟨fn, 0, cid, 0, 0, 0, c.dw0, 0, [], []⟩ :: s.host.posted }) ∧
      t.host.posted.head?.isSome = true ∧ WithinHost s t []) ∧
  (∀ (s : State) (fn cid fid sel : Nat), adminOpen s fn = true →
    (fid ∉ [1, 2, 4, 7, 8, 9, 0x0b, 0x10, 0xc1, 0xc2, 0xc3, 0xc4] ∨ slotFn fn ≠ 0 ∧ (fid = 0xc2 ∨ fid = 0xc3)) →
    Completes (.getFeatures fn cid fid sel) s fun t =>
      t.host.posted = ⟨fn, 0, cid, 0, 2, 1, 0, 0, [], []⟩ :: s.host.posted ∧ WithinHost s t []) ∧
  (∀ (s : State) (fn cid : Nat), adminOpen s fn = true → fn < 512 → (∀ x ∈ s.host.held, x.1 ≠ fn) →
    (s.host.aers.filter fun a => decide (a.1 = fn)).length < 16 →
    Completes (.asynchronousEventRequest fn cid) s fun t =>
      t.host = { s.host with aers := s.host.aers ++ [(fn, cid)] } ∧ WithinHost s t []) ∧
  (∀ (s : State) (fn cid : Nat), adminOpen s fn = true → fn < 512 → (∀ x ∈ s.host.held, x.1 ≠ fn) →
    16 ≤ (s.host.aers.filter fun a => decide (a.1 = fn)).length →
    Completes (.asynchronousEventRequest fn cid) s fun t =>
      t.host.posted = ⟨fn, 0, cid, 1, 5, 1, 0, 0, [], []⟩ :: s.host.posted ∧ t.host.aers = s.host.aers ∧ WithinHost s t []) ∧
  (∀ (s : State) (fn cid code : Nat), adminOpen s fn = true → fn < 512 → s.host.held.find? (fun x => decide (x.1 = fn)) = some (fn, code) →
    Completes (.asynchronousEventRequest fn cid) s fun t =>
      t.host.held = s.host.held.erase (fn, code) ∧
      ((eventEnabled s fn code = false ∨ (fn, code) ∈ s.host.sent) →
        t.host = { s.host with held := t.host.held, aers := s.host.aers ++ [(fn, cid)] }) ∧
      (eventEnabled s fn code = true → (fn, code) ∉ s.host.sent → (fn, code) ∉ t.host.held → (∀ a ∈ s.host.aers, a.1 ≠ fn) →
        t.host = { s.host with
          held := t.host.held, sent := s.host.sent ++ [(fn, code)],
          posted := ⟨fn, 0, cid, 0, 0, 0, code / 256 + 256 * (code % 256) + 65536 * eventPage code, 0, [], []⟩ :: s.host.posted }) ∧
      WithinHost s t [])

/-- O51. A create makes a namespace of whole grains under a free identifier and leaves the others as they are; a delete gives its
range back, leaves its grains unmapped and tells the functions it was attached to; attach and detach change its function list and
tell the functions. Streams are allocated, released and counted for the function alone; a VF's flexible contexts are set while all
together stay within 160. Other functions, unknown identifiers and what does not fit are refused with their status. Where the
statement names what changes, nothing else does. (R288, R294, R374, R375, R395, R396, R402) -/
def Obligations.NamespacesAndDirectives : Prop :=
  (∀ (s : State) (fn cid nsze nsid : Nat), adminOpen s fn = true → fn < 2 → nsze ≠ 0 →
    ((liveSpaces s).map (·.grains)).sum + (nsze + 255) / 256 ≤ 2 ^ 32 → (liveSpaces s).length < 1024 →
    Completes (.namespaceManagement fn cid true nsze nsid) s fun t =>
      (∀ n ∈ findSpace t (freeNsid s), n.grains = (nsze + 255) / 256 ∧ n.attach = []) ∧ (findSpace t (freeNsid s)).isSome = true ∧
      findSpace s (freeNsid s) = none ∧ (∀ n ∈ s.lib.spaces, n.deleted = false → n ∈ t.lib.spaces) ∧
      t.host.posted.head? = some ⟨fn, 0, cid, 0, 0, 0, freeNsid s, 0, [], []⟩ ∧
      inner t = { inner s with
        lib := { s.lib with spaces := t.lib.spaces }, flash := { s.flash with dirA := t.flash.dirA, dirB := t.flash.dirB }, host := toldHost s t } ∧
      OnlyFields s t []) ∧
  (∀ (s : State) (fn cid nsze nsid : Nat), adminOpen s fn = true → fn < 2 →
    (nsze = 0 ∨ 2 ^ 32 < ((liveSpaces s).map (·.grains)).sum + (nsze + 255) / 256 ∨ 1024 ≤ (liveSpaces s).length) →
    Completes (.namespaceManagement fn cid true nsze nsid) s fun t =>
      t.host.posted = (if nsze = 0 then ⟨fn, 0, cid, 0, 2, 1, 0, 0, [], []⟩
        else if 2 ^ 32 < ((liveSpaces s).map (·.grains)).sum + (nsze + 255) / 256 then ⟨fn, 0, cid, 1, 0x15, 1, 0, 0, [], []⟩
        else ⟨fn, 0, cid, 1, 0x16, 1, 0, 0, [], []⟩) :: s.host.posted ∧
      WithinHost s t []) ∧
  (∀ (s : State) (fn cid nsze nsid : Nat) (n : Namespace), adminOpen s fn = true → fn < 2 → nsid ≠ 2 ^ 32 - 1 → findSpace s nsid = some n →
    Completes (.namespaceManagement fn cid false nsze nsid) s fun t =>
      t.lib.spaces = s.lib.spaces.map (fun x => if x = n then { x with deleted := true, attach := [] } else x) ∧
      (∀ f ∈ n.attach, (f, nsid) ∈ t.host.nsChanged) ∧ t.host.posted.head? = some ⟨fn, 0, cid, 0, 0, 0, 0, 0, [], []⟩ ∧
      ((∀ p ∈ s.lib.gmap, p.1 < n.base ∨ n.base + n.grains ≤ p.1) →
        t.lib = { s.lib with spaces := t.lib.spaces } ∧
        inner t = { inner s with
          lib := t.lib, flash := { s.flash with dirA := t.flash.dirA, dirB := t.flash.dirB },
          host := { toldHost s t with nsChanged := t.host.nsChanged } } ∧
        OnlyFields s t (arbourFields s))) ∧
  (∀ (s : State) (fn cid nsze nsid g : Nat) (n : Namespace), adminOpen s fn = true → fn < 2 → nsid ≠ 2 ^ 32 - 1 → findSpace s nsid = some n →
    n.base ≤ g → g < n.base + n.grains →
    Completes (.namespaceManagement fn cid false nsze nsid) s fun t => grainEntry t g = .unmapped) ∧
  (∀ (s : State) (fn cid nsze : Nat), adminOpen s fn = true → fn < 2 →
    Completes (.namespaceManagement fn cid false nsze (2 ^ 32 - 1)) s fun t =>
      (∀ n ∈ t.lib.spaces, n.deleted = true) ∧ t.host.posted.head? = some ⟨fn, 0, cid, 0, 0, 0, 0, 0, [], []⟩) ∧
  (∀ (s : State) (fn cid nsze nsid : Nat), adminOpen s fn = true → fn < 2 → nsid ≠ 2 ^ 32 - 1 → findSpace s nsid = none →
    Completes (.namespaceManagement fn cid false nsze nsid) s fun t =>
      t.host.posted = ⟨fn, 0, cid, 0, 0x0b, 1, 0, 0, [], []⟩ :: s.host.posted ∧ WithinHost s t []) ∧
  (∀ (s : State) (fn cid nsze nsid : Nat) (create : Bool), adminOpen s fn = true → 2 ≤ fn → fn < 512 →
    Completes (.namespaceManagement fn cid create nsze nsid) s fun t =>
      t.host.posted = ⟨fn, 0, cid, 0, 1, 1, 0, 0, [], []⟩ :: s.host.posted ∧ WithinHost s t []) ∧
  (∀ (s : State) (fn cid nsid : Nat) (ctrls : List Nat) (n : Namespace), adminOpen s fn = true → fn < 2 → findSpace s nsid = some n →
    ctrls ≠ [] → (∀ c ∈ ctrls, 1 ≤ c ∧ c ≤ 512 ∧ 2 ≤ Machine.get s (F.HST_FN_CFG_CTX (c - 1)) ∧ c - 1 ∉ n.attach) →
    Completes (.namespaceAttachment fn cid nsid true ctrls) s fun t =>
      t.lib = { s.lib with
        spaces := s.lib.spaces.map fun x => if x = n then { x with attach := n.attach ++ (ctrls.map (· - 1)).dedup } else x } ∧
      (∀ c ∈ ctrls, (c - 1, nsid) ∈ t.host.nsChanged) ∧ t.host.posted.head? = some ⟨fn, 0, cid, 0, 0, 0, 0, 0, [], []⟩ ∧
      inner t = { inner s with
        lib := t.lib, flash := { s.flash with dirA := t.flash.dirA, dirB := t.flash.dirB },
        host := { toldHost s t with nsChanged := t.host.nsChanged } } ∧ OnlyFields s t []) ∧
  (∀ (s : State) (fn cid nsid : Nat) (ctrls : List Nat) (n : Namespace), adminOpen s fn = true → fn < 2 → findSpace s nsid = some n →
    ctrls ≠ [] → (∀ c ∈ ctrls, 1 ≤ c ∧ c ≤ 512 ∧ 2 ≤ Machine.get s (F.HST_FN_CFG_CTX (c - 1)) ∧ c - 1 ∈ n.attach) →
    Completes (.namespaceAttachment fn cid nsid false ctrls) s fun t =>
      t.lib = { s.lib with
        spaces := s.lib.spaces.map fun x => if x = n then { x with attach := n.attach.filter fun g => decide (g ∉ ctrls.map (· - 1)) } else x } ∧
      (∀ c ∈ ctrls, (c - 1, nsid) ∈ t.host.nsChanged) ∧ t.host.posted.head? = some ⟨fn, 0, cid, 0, 0, 0, 0, 0, [], []⟩ ∧
      inner t = { inner s with
        lib := t.lib, flash := { s.flash with dirA := t.flash.dirA, dirB := t.flash.dirB },
        host := { toldHost s t with nsChanged := t.host.nsChanged } } ∧ OnlyFields s t []) ∧
  (∀ (s : State) (fn cid nsid : Nat) (attach : Bool) (ctrls : List Nat), adminOpen s fn = true → fn < 2 → findSpace s nsid = none →
    Completes (.namespaceAttachment fn cid nsid attach ctrls) s fun t =>
      t.host.posted = ⟨fn, 0, cid, 0, 0x0b, 1, 0, 0, [], []⟩ :: s.host.posted ∧ WithinHost s t []) ∧
  (∀ (s : State) (fn cid nsid sid : Nat) (n : Namespace), adminOpen s fn = true → fn < 512 → findSpace s nsid = some n → fn ∈ n.attach → sid ≠ 0 →
    Completes (.directiveSend fn cid nsid 1 sid) s fun t =>
      ((∀ x ∈ s.host.streams, ¬(x.1 = fn ∧ x.2.1 = nsid ∧ x.2.2.1 = sid)) →
        t.host.streams = s.host.streams ++ [(fn, nsid, sid, s.host.nextStr % 63 + 1)] ∧ t.host.nextStr = s.host.nextStr + 1) ∧
      ((∃ x ∈ s.host.streams, x.1 = fn ∧ x.2.1 = nsid ∧ x.2.2.1 = sid) →
        t.host.streams = s.host.streams ∧ t.host.nextStr = s.host.nextStr) ∧
      t.host = { s.host with
        streams := t.host.streams, nextStr := t.host.nextStr, posted := ⟨fn, 0, cid, 0, 0, 0, 0, 0, [], []⟩ :: s.host.posted } ∧ WithinHost s t []) ∧
  (∀ (s : State) (fn cid nsid sid : Nat) (n : Namespace), adminOpen s fn = true → fn < 512 → findSpace s nsid = some n → fn ∈ n.attach → sid ≠ 0 →
    Completes (.directiveSend fn cid nsid 2 sid) s fun t =>
      (∀ x, x ∈ t.host.streams ↔ x ∈ s.host.streams ∧ ¬(x.1 = fn ∧ x.2.1 = nsid ∧ x.2.2.1 = sid)) ∧
      t.host = { s.host with streams := t.host.streams, posted := ⟨fn, 0, cid, 0, 0, 0, 0, 0, [], []⟩ :: s.host.posted } ∧ WithinHost s t []) ∧
  (∀ (s : State) (fn cid nsid sid : Nat) (n : Namespace), adminOpen s fn = true → fn < 512 → findSpace s nsid = some n → fn ∈ n.attach →
    Completes (.directiveSend fn cid nsid 3 sid) s fun t =>
      (∀ x, x ∈ t.host.streams ↔ x ∈ s.host.streams ∧ ¬(x.1 = fn ∧ x.2.1 = nsid)) ∧
      t.host = { s.host with streams := t.host.streams, posted := ⟨fn, 0, cid, 0, 0, 0, 0, 0, [], []⟩ :: s.host.posted } ∧ WithinHost s t []) ∧
  (∀ (s : State) (fn cid nsid op sid : Nat), adminOpen s fn = true → fn < 512 →
    (findSpace s nsid = none ∨ (∃ n ∈ findSpace s nsid, fn ∉ n.attach) ∨ 3 < op ∨ sid = 0 ∧ (op = 1 ∨ op = 2)) →
    Completes (.directiveSend fn cid nsid op sid) s fun t =>
      t.host.posted = (if findSpace s nsid = none then ⟨fn, 0, cid, 0, 0x0b, 1, 0, 0, [], []⟩ else ⟨fn, 0, cid, 0, 2, 1, 0, 0, [], []⟩) :: s.host.posted ∧
      t.host.streams = s.host.streams ∧ WithinHost s t []) ∧
  (∀ (s : State) (fn cid nsid dtype : Nat), adminOpen s fn = true → fn < 512 → dtype ≤ 1 →
    Completes (.directiveReceive fn cid nsid dtype) s fun t =>
      (∀ c ∈ t.host.posted.head?, c.fn = fn ∧ c.cid = cid ∧ c.sct = 0 ∧ c.sc = 0 ∧ c.bytes.length = (if dtype = 1 then 32 else 4096) ∧
        (dtype = 1 →
          imgNat c.bytes 24 2 = (s.host.streams.filter fun x => decide (x.1 = fn) && decide (x.2.1 = nsid)).length % 65536)) ∧
      t.host = { s.host with posted := t.host.posted } ∧ t.host.posted.tail = s.host.posted ∧ WithinHost s t []) ∧
  (∀ (s : State) (fn cid nsid dtype : Nat), adminOpen s fn = true → fn < 512 → 1 < dtype →
    Completes (.directiveReceive fn cid nsid dtype) s fun t =>
      t.host.posted = ⟨fn, 0, cid, 0, 2, 1, 0, 0, [], []⟩ :: s.host.posted ∧ WithinHost s t []) ∧
  (∀ (s : State) (fn cid f n : Nat), adminOpen s fn = true → fn < 2 → isVfOf fn f = true →
    ((s.host.flexible.filter fun p => decide (p.1 ≠ f)).map Prod.snd).sum + n ≤ 160 →
    Completes (.virtualizationManagement fn cid 8 (f + 1) 0 n) s fun t =>
      mapFind t.host.flexible f = some n ∧
      t.host = { s.host with
        flexible := mapPut s.host.flexible f n, posted := ⟨fn, 0, cid, 0, 0, 0, n, 0, [], []⟩ :: s.host.posted } ∧ WithinHost s t []) ∧
  (∀ (s : State) (fn cid act rt f n : Nat), adminOpen s fn = true → fn < 2 → isVfOf fn f = true → (act = 7 ∨ act = 9) →
    Completes (.virtualizationManagement fn cid act (f + 1) rt n) s fun t =>
      t.host = { s.host with posted := ⟨fn, 0, cid, 0, 0, 0, 0, 0, [], []⟩ :: s.host.posted } ∧ WithinHost s t []) ∧
  (∀ (s : State) (fn cid f n : Nat), adminOpen s fn = true → fn < 2 → isVfOf fn f = true →
    160 < ((s.host.flexible.filter fun p => decide (p.1 ≠ f)).map Prod.snd).sum + n →
    Completes (.virtualizationManagement fn cid 8 (f + 1) 0 n) s fun t =>
      t.host.posted = ⟨fn, 0, cid, 1, 0x21, 1, 0, 0, [], []⟩ :: s.host.posted ∧ t.host.flexible = s.host.flexible ∧ WithinHost s t [])

/-- O52. An import marks the named slots STATE 15 and puts them in the queue, unless one is there already or the fields are
invalid; identification takes a slot from the queue and makes it empty, foreign, unreadable after two failed mounts, or, once it
is mounted with its media identifier read, a member of the set that its best descriptor or a data sector names, retired where that
set is unknown, or blank; an export releases what may leave and names the first slot that is in use. The directory is written each
time. Where the statement names what changes, nothing else does. (R33, R52, R278, R407, R413, R414, R419) -/
def Obligations.InventoryCommands : Prop :=
  (∀ (s : State) (fn cid c first n : Nat) (l : List Nat), adminOpen s fn = true → namedSlots s c first n = some l →
    (∀ d ∈ l, d ∉ s.host.importQ) →
    Completes (.inventoryImport fn cid c first n) s fun t =>
      (∀ d ∈ l, getDisc t d = { getDisc s d with state := 15, importing := true, failRun := 0 }) ∧ OnlyDiscs l s t ∧
      t.host.importQ = s.host.importQ ++ l ∧ t.host.posted.head? = some ⟨fn, 0, cid, 0, 0, 0, 0, 0, [], []⟩ ∧
      inner t = { inner s with
        lib := { s.lib with discs := t.lib.discs }, host := { toldHost s t with importQ := t.host.importQ } } ∧
      OnlyFields s t (arbourFields s)) ∧
  (∀ (s : State) (fn cid c first n : Nat) (l : List Nat) (d : Nat), adminOpen s fn = true → namedSlots s c first n = some l → d ∈ l →
    d ∈ s.host.importQ →
    Completes (.inventoryImport fn cid c first n) s fun t =>
      t.host.posted = ⟨fn, 0, cid, 0, 2, 1, 0, 0, [], []⟩ :: s.host.posted ∧ t.lib = s.lib ∧ WithinHost s t []) ∧
  (∀ (s : State) (fn cid c first n : Nat), adminOpen s fn = true → (288 ≤ first ∨ n = 0 ∨ 288 < first + n ∨ carInst s c = false) →
    (Completes (.inventoryImport fn cid c first n) s fun t =>
      t.host.posted = ⟨fn, 0, cid, 0, 2, 1, 0, 0, [], []⟩ :: s.host.posted ∧ WithinHost s t []) ∧
    (Completes (.inventoryExport fn cid c first n) s fun t =>
      t.host.posted = ⟨fn, 0, cid, 0, 2, 1, 0, 0, [], []⟩ :: s.host.posted ∧ WithinHost s t [])) ∧
  (∀ (s t0 : State) (d : Nat) (common : Option (List Nat)), d ∈ s.host.importQ → cmotSt s (d / 288) ≠ 5 → s.pwr.powerLoss = false →
    isSet s F.DMP_STATUS_FATAL = false → identified d common s = some t0 →
    Completes (.inventorySlotIdentify d common) s fun t =>
      t.host.importQ = s.host.importQ.erase d ∧
      ((∀ i < 16, rbState s i = 0) → getDisc t d = getDisc t0 d ∧ OnlyDiscs [d] s t ∧
        inner t = { inner s with
          lib := { s.lib with discs := t.lib.discs }, flash := { s.flash with dirA := t.flash.dirA, dirB := t.flash.dirB },
          host := { toldHost s t with importQ := t.host.importQ } } ∧
        OnlyFields s t (arbourFields s))) ∧
  (∀ (s : State) (d : Nat) (common : Option (List Nat)), (∀ b ∈ baysOf s, (mountOf s b).phase = 0 ∨ (mountOf s b).disc ≠ d) →
    (2 ≤ (getDisc s d).failRun → ∃ t0, identified d common s = some t0 ∧ getDisc t0 d = { getDisc s d with state := 8, importing := false }) ∧
    ((getDisc s d).failRun < 2 → (getDisc s d).state = 6 → ∃ t0, identified d common s = some t0 ∧
      getDisc t0 d = { getDisc s d with importing := false }) ∧
    ((getDisc s d).failRun < 2 → (getDisc s d).state ≠ 6 → identified d common s = none)) ∧
  (∀ (s : State) (b d : Nat) (common : Option (List Nat)),
    (baysOf s).find? (fun x => decide ((mountOf s x).phase ≠ 0) && decide ((mountOf s x).disc = d)) = some b →
    ((mountOf s b).empty = true → ∃ t0, identified d common s = some t0 ∧ getDisc t0 d = {}) ∧
    ((mountOf s b).empty = false → (getDisc s d).state ≠ 6 → ((mountOf s b).phase ≠ 5 ∨ bayMedia s b = none) → identified d common s = none)) ∧
  (∀ (s : State) (b d mid : Nat) (common : Option (List Nat)) (best : Option (Nat × Descriptor)),
    (baysOf s).find? (fun x => decide ((mountOf s x).phase ≠ 0) && decide ((mountOf s x).disc = d)) = some b →
    (mountOf s b).empty = false → (getDisc s d).state ≠ 6 → (mountOf s b).phase = 5 → bayMedia s b = some mid →
    best = bestDescriptor (recordDescriptors (getDisc s d).records) →
    ∃ t0, identified d common s = some t0 ∧ (getDisc t0 d).mediaId = mid ∧ (getDisc t0 d).importing = false ∧
      (∀ g ∈ best, (getDisc t0 d).setId = g.2.setId ∧ (getDisc t0 d).member = g.2.member ∧ (getDisc t0 d).width = g.2.width) ∧
      (best = none → ∀ c ∈ common, (getDisc t0 d).setId = metaSetId c ∧ (getDisc t0 d).member = metaMember c ∧ (getDisc t0 d).width = metaWidth c) ∧
      ((best.isSome = true ∨ common.isSome = true) → (∀ p ∈ s.lib.sets, p.2.setId ≠ (getDisc t0 d).setId) →
        (getDisc t0 d).set = 0xffff ∧ (getDisc t0 d).state = 7) ∧
      ((best.isSome = true ∨ common.isSome = true) →
        ∀ p ∈ s.lib.sets.find? (fun p => decide (p.2.setId = (getDisc t0 d).setId)),
          (getDisc t0 d).set = p.1 ∧ (getDisc t0 d).state = stateInSet s p.1 (getDisc t0 d).member) ∧
      (best = none → common = none → (getDisc t0 d).state = 1 ∧ (getDisc t0 d).set = 0xffff ∧ (getDisc t0 d).rows = 0)) ∧
  (∀ (s : State) (d : Nat) (common : Option (List Nat)),
    (d ∉ s.host.importQ ∨ cmotSt s (d / 288) = 5 ∨ s.pwr.powerLoss = true ∨ isSet s F.DMP_STATUS_FATAL = true ∨ identified d common s = none) →
    Completes (.inventorySlotIdentify d common) s fun t => t = s) ∧
  (∀ (s : State) (fn cid c first n : Nat) (l : List Nat), adminOpen s fn = true → namedSlots s c first n = some l →
    Completes (.inventoryExport fn cid c first n) s fun t =>
      (∀ d ∈ l, (getDisc s d).state ∈ [5, 6, 7, 8, 9] → d ∉ s.host.importQ → getDisc t d = { getDisc s d with state := 9 }) ∧
      (∀ d ∈ l, ((getDisc s d).state ∉ [5, 6, 7, 8, 9] ∨ d ∈ s.host.importQ) → getDisc t d = getDisc s d) ∧ OnlyDiscs l s t ∧
      ((∀ d ∈ l, (getDisc s d).state ∈ [5, 6, 7, 8, 9] ∧ d ∉ s.host.importQ) →
        t.host.posted.head? = some ⟨fn, 0, cid, 0, 0, 0, 0, 0, [], []⟩) ∧
      (∀ d ∈ l.find? (fun x => decide ((getDisc s x).state ∉ [5, 6, 7, 8, 9]) || decide (x ∈ s.host.importQ)),
        t.host.posted.head? = some ⟨fn, 0, cid, 1, 0xc3, 0, d, 0, [], []⟩) ∧
      inner t = { inner s with
        lib := { s.lib with discs := t.lib.discs }, flash := { s.flash with dirA := t.flash.dirA, dirB := t.flash.dirB }, host := toldHost s t } ∧
      OnlyFields s t [])

/-- O53. For every command c and state s, a step of s with c at the front of its queue is exec of c on s with the queue's rest; on
an empty queue the block idles, which is the model's choice (log entry 1). (01_architecture.md, 95_what_each_step_holds.md) -/
def Obligations.StepRunsTheFrontCommand : Prop :=
  (∀ (c : Instr) (s : State) (rest : List Instr), step { s with pending := c :: rest } = exec c { s with pending := rest }) ∧
  (∀ s : State, s.pending = [] → step s = .next s)

/-- O54. The state after reset meets the invariant, waits for RESET_N with an empty queue and nothing started, and its registers
read the reset values the register tables give: those named here of the power-loss, thermal, power, buffer, parity, event and dump
blocks. (R336, R364, R436, R451, R529, R549, R551) -/
def Obligations.StateAfterReset : Prop :=
  Inv State.reset ∧ State.reset.pending = [] ∧ State.reset.pwr.hold = 3 ∧ State.reset.pwr.started = false ∧
  Machine.get State.reset F.PLP_P_DUMP = 150 ∧ Machine.get State.reset F.THM_GRACE = 2000 ∧ Machine.get State.reset F.PWR_IDLE_POISE = 30 ∧
  Machine.get State.reset F.PWR_IDLE_PARK = 600 ∧ Machine.get State.reset F.BUF_UE_LIM = 16 ∧
  Machine.get State.reset F.PAR_RB_CFG_RB_FLOOR = 1700 ∧ Machine.get State.reset F.EVT_CTRL_LOG_EN = 1 ∧
  Machine.get State.reset F.DMP_HOLD = 30 ∧ Machine.get State.reset F.DMP_STATUS_FATAL = 0

/-- O55. Whatever the state and the command at the front of its queue: if the register window (values written, loaded and in
force) and the buffer memory are held in their one form and the event log and fault log keep to 1,024 and 64 entries, they do so
after the step. (R533, R545, R345, R348) -/
def Obligations.EveryStepKeepsTheInvariant : Prop :=
  ∀ s t : State, Inv s → step s = .next t → Inv t

/-- O56. No step of the block, whatever the command, clears a bit of the fuse array: a seal, a revocation, a closed debug lock and
a thermometer count stay. (R466, R473, R474) -/
def Obligations.NoStepClearsAFuse : Prop :=
  ∀ (s t : State) (i b : Nat), b < 64 → step s = .next t → bitOf (fuseWord s i) b = 1 → bitOf (fuseWord t i) b = 1

/-- O57. A well-formed command answers a next state in every state, and leaves the queue as it is; an access outside the 256 MiB
of the register window is a fault. (R21, R3) -/
def Obligations.WellFormedCommandsAreCarriedOut : Prop :=
  (∀ (c : Instr) (s : State), c.wf = true → Completes c s fun t => t.pending = s.pending) ∧
  (∀ (s : State) (rq off v : Nat) (sz : AccessSize), 2 ^ 28 ≤ off → exec (.registerWrite rq off sz v) s = .fault .outsideWindow)

/-- O58. While VALID is 1, every erroneous access, of any size and direction and by any of the commands that access the window,
leaves OFFSET, REQ, KIND and WRITE (and VALID) unchanged and sets OVERFLOW. (R27) -/
def Obligations.FurtherAccessErrorsSetOverflow : Prop :=
  (∀ (s : State) (rq off v : Nat) (sz : AccessSize) (write : Bool),
    Machine.get s F.GLB_ACC_ERR_VALID = 1 → reaches s rq = true → off < 2 ^ 28 → isFaulty s off sz write = true →
    Completes (.accessError rq off sz write v) s (KeepsFirstError s)) ∧
  (∀ (s : State) (rq off v : Nat) (sz : AccessSize),
    Machine.get s F.GLB_ACC_ERR_VALID = 1 → reaches s rq = true → off < 2 ^ 28 → isFaulty s off sz true = true →
    Completes (.registerWrite rq off sz v) s (KeepsFirstError s)) ∧
  (∀ (s : State) (rq off v : Nat) (write : Bool),
    Machine.get s F.GLB_ACC_ERR_VALID = 1 → reaches s rq = true → off < 2 ^ 28 → isFaulty s off .dword write = true →
    Completes (.full64BitAccess rq off write v) s (KeepsFirstError s)) ∧
  (∀ (s : State) (off v : Nat) (sz : AccessSize) (write : Bool),
    Machine.get s F.GLB_ACC_ERR_VALID = 1 → isSet s F.FUS_STATUS_DEBUG_ACTIVE = true → off < 2 ^ 28 → isFaulty s off sz write = true →
    Completes (.debugPortWindowAccess off sz write v) s (KeepsFirstError s)) ∧
  (∀ (s : State) (rq reg : Nat),
    Machine.get s F.GLB_ACC_ERR_VALID = 1 → reaches s rq = true → reg + 4 < 2 ^ 28 → isFaulty s reg .word false = true →
    Completes (.lowHalfRead rq reg) s (KeepsFirstError s)) ∧
  (∀ (s : State) (rq reg : Nat),
    Machine.get s F.GLB_ACC_ERR_VALID = 1 → reaches s rq = true → reg + 4 < 2 ^ 28 → isFaulty s (reg + 4) .word false = true →
    Completes (.highHalfRead rq reg) s (KeepsFirstError s)) ∧
  (∀ (s : State) (rq reg v : Nat),
    Machine.get s F.GLB_ACC_ERR_VALID = 1 → reaches s rq = true → reg + 4 < 2 ^ 28 → isFaulty s reg .word true = true →
    Completes (.lowHalfWrite rq reg v) s (KeepsFirstError s)) ∧
  (∀ (s : State) (rq reg v : Nat),
    Machine.get s F.GLB_ACC_ERR_VALID = 1 → reaches s rq = true → reg + 4 < 2 ^ 28 → isFaulty s (reg + 4) .word true = true →
    Completes (.highHalfWrite rq reg v) s (KeepsFirstError s))

/-- O59. The advance at the end of a probation brings the count to the letter's security version where SEC_VER of the selected
tablature allows it; beyond that it is refused with result 4 and no fuse is blown. The count after any end of probation is at most
SEC_VER, or what it was, so a tablature that passed its security-version check still passes it. (R477) -/
def Obligations.ThermometerStaysWithinSecVer : Prop :=
  (∀ (s : State) (v : Nat), s.flash.fw.state = 3 → s.mgt.probDue = true → v = (letter s s.flash.fw.active).secVer → thermometer s < v →
    v ≤ Machine.get s F.TAB_SEC_VER → v ≤ 64 → Machine.get s F.TAB_STATUS_SELECTED ≠ 3 →
    Completes .probationEnd s fun t =>
      thermometer t = v ∧ (∀ i, i ≠ 4 → fuseWord t i = fuseWord s i) ∧ Machine.get t F.FUS_PROG_CTRL_RESULT = 0 ∧
      Raised t evFUS B.FUS_EVT_PROG_DONE ∧ t.flash.fw.state = 4) ∧
  (∀ (s : State) (v : Nat), s.flash.fw.state = 3 → s.mgt.probDue = true → v = (letter s s.flash.fw.active).secVer → thermometer s < v →
    (Machine.get s F.TAB_SEC_VER < v ∨ Machine.get s F.TAB_STATUS_SELECTED = 3) →
    Completes .probationEnd s fun t =>
      Machine.get t F.FUS_PROG_CTRL_RESULT = 4 ∧ Raised t evFUS B.FUS_EVT_PROG_FAIL ∧ Raised t evFWU B.FWU_EVT_ROLLBACK_REFUSED ∧
      t.fuse = s.fuse ∧ t.flash.fw.state = 4) ∧
  (∀ (s : State), Completes .probationEnd s fun t => thermometer t ≤ max (thermometer s) (Machine.get s F.TAB_SEC_VER)) ∧
  (∀ (s t : State) (hw unit ver : Nat), exec .probationEnd s = .next t → ver = Machine.get s F.TAB_SEC_VER → bindFault s hw unit ver = 0 →
    bindFault t hw unit ver = 0)

/-- O60. A tablature or a firmware package whose hardware-type field differs from the fuses' is refused by every commit, whatever
its signatures say: the boot flash keeps both copies and both letters, the tablature in force stays, and the completion is an
error. At start-up two such copies leave the controller without a tablature. (R1, R416, R488, R503) -/
def Obligations.ForeignHardwareTypeIsRefused : Prop :=
  (∀ (s : State) (fn cid : Nat) (readOk : Bool), recoveryOpen s fn = true → mayLoad s fn 8 = true →
    (∀ x, s.host.tabSess = some x → x.holder = fn) → imgNat (staged s.host.tabSess) 12 4 ≠ hwType s →
    Completes (.tablatureCommitWrite fn cid readOk) s fun t =>
      t.flash = s.flash ∧ t.tab = s.tab ∧ t.loaded = s.loaded ∧ (∀ c ∈ t.host.posted.head?, c.cid = cid ∧ c.sct = 1 ∧ c.sc = 0xc4)) ∧
  (∀ (s : State) (fn cid fs i : Nat) (readOk : Bool), fwHolds s fn = true → slotLetter s fs = some i → i ≠ s.flash.fw.active →
    s.flash.fw.state ≠ 3 → imgNat (staged s.host.fwSess) 12 4 ≠ hwType s →
    (Completes (.firmwareCommitWrite fn cid fs readOk) s fun t =>
      t.flash = s.flash ∧ (∀ c ∈ t.host.posted.head?, c.cid = cid ∧ c.sct = 1 ∧ c.sc = 7)) ∧
    (Completes (.firmwareCommitArm fn cid fs readOk) s fun t =>
      t.flash = s.flash ∧ (∀ c ∈ t.host.posted.head?, c.cid = cid ∧ c.sct = 1 ∧ c.sc = 7))) ∧
  (∀ (s : State) (fn cid fs i : Nat) (readOk : Bool) (x : Session), fwHolds s fn = true → slotLetter s fs = some i → i ≠ s.flash.fw.active →
    s.flash.fw.state ≠ 2 → s.flash.fw.state ≠ 3 → s.host.fwSess = some x → imgNat x.image 12 4 ≠ hwType s →
    Completes (.firmwareCommitActivate fn cid fs readOk) s fun t =>
      t.flash = s.flash ∧ (∀ c ∈ t.host.posted.head?, c.cid = cid ∧ c.sct = 1 ∧ c.sc = 7)) ∧
  (∀ (s : State) (cap : Nat), imgNat s.flash.tabA 12 4 ≠ hwType s → imgNat s.flash.tabB 12 4 ≠ hwType s →
    Machine.get (selectTab cap s) F.TAB_STATUS_SELECTED = 3 ∧ (selectTab cap s).loaded = s.loaded)
end

