-- ==== Sys2Proof/Laws/Maps.lean ====
section
/-! SUPPORT. The laws of the finite maps: what a read answers after a write, and that every operation keeps the canonical form
(keys strictly rising, no entry equal to the default of its key). -/

namespace Sys2Proof.Laws

variable {α : Type}

theorem mapGet_insert_same (d : Nat → α) (m : Map α) (k : Nat) (v : α) (h : ∀ w, (k, w) ∉ m) :
    mapGet d (mapInsert m k v) k = v := by
  induction m with
  | nil => simp [mapInsert, mapGet]
  | cons p m ih =>
    obtain ⟨j, w⟩ := p
    simp only [mapInsert]
    split
    · simp [mapGet]
    · have hj : k ≠ j := fun e => h w (by simp [e])
      simp only [mapGet, if_neg hj]
      exact ih fun w hw => h w (List.mem_cons_of_mem _ hw)

theorem mapGet_insert_ne (d : Nat → α) (m : Map α) (k j : Nat) (v : α) (h : j ≠ k) :
    mapGet d (mapInsert m k v) j = mapGet d m j := by
  induction m with
  | nil => simp [mapInsert, mapGet, h]
  | cons p m ih =>
    obtain ⟨i, w⟩ := p
    simp only [mapInsert]
    split
    · simp [mapGet, h]
    · simp [mapGet, ih]

theorem not_mem_mapErase (m : Map α) (k : Nat) (w : α) : (k, w) ∉ mapErase m k := by
  induction m with
  | nil => simp [mapErase]
  | cons p m ih =>
    obtain ⟨j, v⟩ := p
    simp only [mapErase]
    split
    · exact ih
    · rename_i hj
      simp [ih, Ne.symm hj]

theorem mapGet_erase_ne (d : Nat → α) (m : Map α) (k j : Nat) (h : j ≠ k) : mapGet d (mapErase m k) j = mapGet d m j := by
  induction m with
  | nil => rfl
  | cons p m ih =>
    obtain ⟨i, v⟩ := p
    simp only [mapErase]
    split
    · rename_i hi
      simp [mapGet, hi, h, ih]
    · simp [mapGet, ih]

theorem mapGet_erase_same (d : Nat → α) (m : Map α) (k : Nat) : mapGet d (mapErase m k) k = d k := by
  induction m with
  | nil => rfl
  | cons p m ih =>
    obtain ⟨i, v⟩ := p
    simp only [mapErase]
    split
    · exact ih
    · rename_i hi
      simp [mapGet, Ne.symm hi, ih]

/-- A write is read back, and leaves every other key. -/
theorem mapGet_put (d : Nat → α) (m : Map α) (k j : Nat) (v : α) : mapGet d (mapPut m k v) j = if j = k then v else mapGet d m j := by
  unfold mapPut
  split
  · rename_i h
    subst h
    exact mapGet_insert_same d _ _ v (not_mem_mapErase m _)
  · rename_i h
    rw [mapGet_insert_ne d _ _ _ _ h, mapGet_erase_ne d _ _ _ h]

theorem mapGet_putD [DecidableEq α] (d : Nat → α) (m : Map α) (k j : Nat) (v : α) :
    mapGet d (mapPutD d m k v) j = if j = k then v else mapGet d m j := by
  unfold mapPutD
  split
  · rename_i h
    split
    · rename_i hj
      rw [hj, mapGet_erase_same, h]
    · rename_i hj
      exact mapGet_erase_ne d m k j hj
  · exact mapGet_put d m k j v

theorem mapGet_eraseRange (d : Nat → α) (m : Map α) (lo hi j : Nat) :
    mapGet d (mapEraseRange m lo hi) j = if lo ≤ j ∧ j < hi then d j else mapGet d m j := by
  induction m with
  | nil => simp [mapEraseRange, mapGet]
  | cons p m ih =>
    obtain ⟨i, v⟩ := p
    simp only [mapEraseRange]
    split
    · rename_i h
      rw [ih]
      split
      · rfl
      · rename_i hj
        have : j ≠ i := by rintro rfl; exact hj h
        simp [mapGet, this]
    · rename_i h
      simp only [mapGet, ih]
      by_cases e : j = i
      · subst e; simp [h]
      · simp [e]

theorem mapFind_put (m : Map α) (k j : Nat) (v : α) : mapFind (mapPut m k v) j = if j = k then some v else mapFind m j := by
  have key : ∀ (m : Map α) (j : Nat), mapFind m j = mapGet (fun _ => none) (m.map fun p => (p.1, some p.2)) j := by
    intro m j
    induction m with
    | nil => rfl
    | cons p m ih => obtain ⟨i, w⟩ := p; simp [mapFind, mapGet, ih]
  have hins : ∀ (m : Map α), (mapInsert m k v).map (fun p => (p.1, some p.2)) = mapInsert (m.map fun p => (p.1, some p.2)) k (some v) := by
    intro m
    induction m with
    | nil => rfl
    | cons p m ih =>
      obtain ⟨i, w⟩ := p
      simp only [mapInsert, List.map_cons]
      split <;> simp [ih]
  have her : ∀ (m : Map α), (mapErase m k).map (fun p => (p.1, some p.2)) = mapErase (m.map fun p => (p.1, some p.2)) k := by
    intro m
    induction m with
    | nil => rfl
    | cons p m ih =>
      obtain ⟨i, w⟩ := p
      simp only [mapErase, List.map_cons]
      split <;> simp [ih]
  rw [key, mapPut, hins, her, ← mapPut, mapGet_put, key m j]

theorem mapFind_erase_same (m : Map α) (k : Nat) : mapFind (mapErase m k) k = none := by
  induction m with
  | nil => rfl
  | cons p m ih =>
    obtain ⟨i, v⟩ := p
    simp only [mapErase]
    split
    · exact ih
    · rename_i h
      simp [mapFind, Ne.symm h, ih]

/-! ### The canonical form -/

theorem rising_lower (a b : Option Nat) (m : Map α) (h : mapRising a m = true) (hb : ∀ x, b = some x → ∃ y, a = some y ∧ x ≤ y) :
    mapRising b m = true := by
  cases m with
  | nil => cases b <;> rfl
  | cons p m =>
    obtain ⟨j, v⟩ := p
    cases b with
    | none => cases a <;> simp_all [mapRising]
    | some x =>
      obtain ⟨y, rfl, hy⟩ := hb x rfl
      simp only [mapRising, Bool.and_eq_true, decide_eq_true_eq] at h ⊢
      exact ⟨by omega, h.2⟩

theorem rising_tail (a : Option Nat) (j : Nat) (v : α) (m : Map α) (h : mapRising a ((j, v) :: m) = true) : mapRising (some j) m = true := by
  cases a <;> simp_all [mapRising]

theorem rising_above (a j : Nat) (v : α) (m : Map α) (h : mapRising (some a) ((j, v) :: m) = true) : a < j := by
  simp only [mapRising, Bool.and_eq_true, decide_eq_true_eq] at h
  exact h.1

theorem rising_cons (a : Option Nat) (j : Nat) (v : α) (m : Map α) (ha : ∀ x, a = some x → x < j) (h : mapRising (some j) m = true) :
    mapRising a ((j, v) :: m) = true := by
  cases a with
  | none => exact h
  | some x => simp only [mapRising, Bool.and_eq_true, decide_eq_true_eq]; exact ⟨ha x rfl, h⟩

theorem rising_erase (a : Option Nat) (m : Map α) (k : Nat) (h : mapRising a m = true) : mapRising a (mapErase m k) = true := by
  induction m generalizing a with
  | nil => exact h
  | cons p m ih =>
    obtain ⟨j, v⟩ := p
    simp only [mapErase]
    have ht := rising_tail a j v m h
    split
    · exact ih a (rising_lower (some j) a m ht (fun x hx => by
        subst hx; exact ⟨j, rfl, (rising_above x j v m h).le⟩))
    · exact rising_cons a j v _ (fun x hx => by subst hx; exact rising_above x j v m h) (ih (some j) ht)

theorem rising_insert (a : Option Nat) (m : Map α) (k : Nat) (v : α) (h : mapRising a m = true) (ha : ∀ x, a = some x → x < k)
    (hk : ∀ w, (k, w) ∉ m) : mapRising a (mapInsert m k v) = true := by
  induction m generalizing a with
  | nil => exact rising_cons a k v [] ha (by rfl)
  | cons p m ih =>
    obtain ⟨j, w⟩ := p
    simp only [mapInsert]
    have ht := rising_tail a j w m h
    split
    · rename_i hkj
      exact rising_cons a k v _ ha (rising_cons (some k) j w m (fun x hx => by cases hx; exact hkj) ht)
    · rename_i hkj
      have hne : k ≠ j := fun e => hk w (by simp [e])
      exact rising_cons a j w _ (fun x hx => by subst hx; exact rising_above x j w m h)
        (ih (some j) ht (fun x hx => by cases hx; omega) fun w hw => hk w (List.mem_cons_of_mem _ hw))

/-- A write keeps the keys rising. -/
theorem rising_put (m : Map α) (k : Nat) (v : α) (h : mapRising none m = true) : mapRising none (mapPut m k v) = true :=
  rising_insert none _ k v (rising_erase none m k h) (fun _ hx => by cases hx) (not_mem_mapErase m k)

theorem rising_eraseRange (a : Option Nat) (m : Map α) (lo hi : Nat) (h : mapRising a m = true) :
    mapRising a (mapEraseRange m lo hi) = true := by
  induction m generalizing a with
  | nil => exact h
  | cons p m ih =>
    obtain ⟨j, v⟩ := p
    simp only [mapEraseRange]
    have ht := rising_tail a j v m h
    split
    · exact ih a (rising_lower (some j) a m ht (fun x hx => by subst hx; exact ⟨j, rfl, (rising_above x j v m h).le⟩))
    · exact rising_cons a j v _ (fun x hx => by subst hx; exact rising_above x j v m h) (ih (some j) ht)

theorem noDefault_erase [DecidableEq α] (d : Nat → α) (m : Map α) (k : Nat) (h : mapNoDefault d m = true) :
    mapNoDefault d (mapErase m k) = true := by
  induction m with
  | nil => exact h
  | cons p m ih =>
    obtain ⟨j, v⟩ := p
    simp only [mapNoDefault, Bool.and_eq_true] at h
    simp only [mapErase]
    split
    · exact ih h.2
    · simp [mapNoDefault, ih h.2, of_decide_eq_true h.1]

theorem noDefault_insert [DecidableEq α] (d : Nat → α) (m : Map α) (k : Nat) (v : α) (h : mapNoDefault d m = true) (hv : v ≠ d k) :
    mapNoDefault d (mapInsert m k v) = true := by
  induction m with
  | nil => simp [mapInsert, mapNoDefault, hv]
  | cons p m ih =>
    obtain ⟨j, w⟩ := p
    have h' := h
    simp only [mapNoDefault, Bool.and_eq_true] at h
    simp only [mapInsert]
    split
    · simp [mapNoDefault, hv, h.2, of_decide_eq_true h.1]
    · simp [mapNoDefault, ih h.2, of_decide_eq_true h.1]

theorem noDefault_eraseRange [DecidableEq α] (d : Nat → α) (m : Map α) (lo hi : Nat) (h : mapNoDefault d m = true) :
    mapNoDefault d (mapEraseRange m lo hi) = true := by
  induction m with
  | nil => exact h
  | cons p m ih =>
    obtain ⟨j, v⟩ := p
    simp only [mapNoDefault, Bool.and_eq_true] at h
    simp only [mapEraseRange]
    split
    · exact ih h.2
    · simp [mapNoDefault, ih h.2, of_decide_eq_true h.1]

/-- Every operation on a memory keeps its canonical form. -/
theorem wf_putD [DecidableEq α] (d : Nat → α) (m : Map α) (k : Nat) (v : α) (h : mapWf d m = true) : mapWf d (mapPutD d m k v) = true := by
  simp only [mapWf, Bool.and_eq_true] at h ⊢
  unfold mapPutD
  split
  · exact ⟨rising_erase none m k h.1, noDefault_erase d m k h.2⟩
  · rename_i hv
    exact ⟨rising_put m k v h.1, noDefault_insert d _ k v (noDefault_erase d m k h.2) hv⟩

theorem wf_eraseRange [DecidableEq α] (d : Nat → α) (m : Map α) (lo hi : Nat) (h : mapWf d m = true) :
    mapWf d (mapEraseRange m lo hi) = true := by
  simp only [mapWf, Bool.and_eq_true] at h ⊢
  exact ⟨rising_eraseRange none m lo hi h.1, noDefault_eraseRange d m lo hi h.2⟩

end Sys2Proof.Laws
end

