-- ==== Sys2Proof/Laws/State.lean ====
section
/-! SUPPORT. One lemma for each field of State under each elementary update: what the update leaves, by definition. -/

namespace Sys2Proof.Laws

open Sys2Proof.Machine


section put
variable (f : Fld) (v : Nat) (s : State)

@[simp] theorem put_loaded : (put f v s).loaded = s.loaded := rfl
@[simp] theorem put_force : (put f v s).force = s.force := rfl
@[simp] theorem put_pending : (put f v s).pending = s.pending := rfl
@[simp] theorem put_fresh : (put f v s).fresh = s.fresh := rfl
@[simp] theorem put_busData : (put f v s).busData = s.busData := rfl
@[simp] theorem put_shadows : (put f v s).shadows = s.shadows := rfl
@[simp] theorem put_held : (put f v s).held = s.held := rfl
@[simp] theorem put_tickAcc : (put f v s).tickAcc = s.tickAcc := rfl
@[simp] theorem put_log : (put f v s).log = s.log := rfl
@[simp] theorem put_windows : (put f v s).windows = s.windows := rfl
@[simp] theorem put_faultLog : (put f v s).faultLog = s.faultLog := rfl
@[simp] theorem put_exposed : (put f v s).exposed = s.exposed := rfl
@[simp] theorem put_tree : (put f v s).tree = s.tree := rfl
@[simp] theorem put_treeDone : (put f v s).treeDone = s.treeDone := rfl
@[simp] theorem put_heads : (put f v s).heads = s.heads := rfl
@[simp] theorem put_pools : (put f v s).pools = s.pools := rfl
@[simp] theorem put_loop : (put f v s).loop = s.loop := rfl
@[simp] theorem put_buses : (put f v s).buses = s.buses := rfl
@[simp] theorem put_spindles : (put f v s).spindles = s.spindles := rfl
@[simp] theorem put_carousels : (put f v s).carousels = s.carousels := rfl
@[simp] theorem put_axes : (put f v s).axes = s.axes := rfl
@[simp] theorem put_lib : (put f v s).lib = s.lib := rfl
@[simp] theorem put_par : (put f v s).par = s.par := rfl
@[simp] theorem put_buf : (put f v s).buf = s.buf := rfl
@[simp] theorem put_host : (put f v s).host = s.host := rfl
@[simp] theorem put_plp : (put f v s).plp = s.plp := rfl
@[simp] theorem put_thm : (put f v s).thm = s.thm := rfl
@[simp] theorem put_cal : (put f v s).cal = s.cal := rfl
@[simp] theorem put_tab : (put f v s).tab = s.tab := rfl
@[simp] theorem put_flash : (put f v s).flash = s.flash := rfl
@[simp] theorem put_fuse : (put f v s).fuse = s.fuse := rfl
@[simp] theorem put_tabPassed : (put f v s).tabPassed = s.tabPassed := rfl
@[simp] theorem put_pwr : (put f v s).pwr = s.pwr := rfl
@[simp] theorem put_mgt : (put f v s).mgt = s.mgt := rfl

end put

section takeForce
variable (f : Fld) (s : State)

@[simp] theorem takeForce_regs : (takeForce f s).regs = s.regs := rfl
@[simp] theorem takeForce_loaded : (takeForce f s).loaded = s.loaded := rfl
@[simp] theorem takeForce_pending : (takeForce f s).pending = s.pending := rfl
@[simp] theorem takeForce_fresh : (takeForce f s).fresh = s.fresh := rfl
@[simp] theorem takeForce_busData : (takeForce f s).busData = s.busData := rfl
@[simp] theorem takeForce_shadows : (takeForce f s).shadows = s.shadows := rfl
@[simp] theorem takeForce_held : (takeForce f s).held = s.held := rfl
@[simp] theorem takeForce_tickAcc : (takeForce f s).tickAcc = s.tickAcc := rfl
@[simp] theorem takeForce_log : (takeForce f s).log = s.log := rfl
@[simp] theorem takeForce_windows : (takeForce f s).windows = s.windows := rfl
@[simp] theorem takeForce_faultLog : (takeForce f s).faultLog = s.faultLog := rfl
@[simp] theorem takeForce_exposed : (takeForce f s).exposed = s.exposed := rfl
@[simp] theorem takeForce_tree : (takeForce f s).tree = s.tree := rfl
@[simp] theorem takeForce_treeDone : (takeForce f s).treeDone = s.treeDone := rfl
@[simp] theorem takeForce_heads : (takeForce f s).heads = s.heads := rfl
@[simp] theorem takeForce_pools : (takeForce f s).pools = s.pools := rfl
@[simp] theorem takeForce_loop : (takeForce f s).loop = s.loop := rfl
@[simp] theorem takeForce_buses : (takeForce f s).buses = s.buses := rfl
@[simp] theorem takeForce_spindles : (takeForce f s).spindles = s.spindles := rfl
@[simp] theorem takeForce_carousels : (takeForce f s).carousels = s.carousels := rfl
@[simp] theorem takeForce_axes : (takeForce f s).axes = s.axes := rfl
@[simp] theorem takeForce_lib : (takeForce f s).lib = s.lib := rfl
@[simp] theorem takeForce_par : (takeForce f s).par = s.par := rfl
@[simp] theorem takeForce_buf : (takeForce f s).buf = s.buf := rfl
@[simp] theorem takeForce_host : (takeForce f s).host = s.host := rfl
@[simp] theorem takeForce_plp : (takeForce f s).plp = s.plp := rfl
@[simp] theorem takeForce_thm : (takeForce f s).thm = s.thm := rfl
@[simp] theorem takeForce_cal : (takeForce f s).cal = s.cal := rfl
@[simp] theorem takeForce_tab : (takeForce f s).tab = s.tab := rfl
@[simp] theorem takeForce_flash : (takeForce f s).flash = s.flash := rfl
@[simp] theorem takeForce_fuse : (takeForce f s).fuse = s.fuse := rfl
@[simp] theorem takeForce_tabPassed : (takeForce f s).tabPassed = s.tabPassed := rfl
@[simp] theorem takeForce_pwr : (takeForce f s).pwr = s.pwr := rfl
@[simp] theorem takeForce_mgt : (takeForce f s).mgt = s.mgt := rfl
@[simp] theorem get_takeForce (g : Fld) : get (takeForce f s) g = get s g := rfl

end takeForce

section load
variable (f : Fld) (v : Nat) (s : State)

@[simp] theorem load_regs : (load f v s).regs = s.regs := rfl
@[simp] theorem load_force : (load f v s).force = s.force := rfl
@[simp] theorem load_pending : (load f v s).pending = s.pending := rfl
@[simp] theorem load_fresh : (load f v s).fresh = s.fresh := rfl
@[simp] theorem load_busData : (load f v s).busData = s.busData := rfl
@[simp] theorem load_shadows : (load f v s).shadows = s.shadows := rfl
@[simp] theorem load_held : (load f v s).held = s.held := rfl
@[simp] theorem load_tickAcc : (load f v s).tickAcc = s.tickAcc := rfl
@[simp] theorem load_log : (load f v s).log = s.log := rfl
@[simp] theorem load_windows : (load f v s).windows = s.windows := rfl
@[simp] theorem load_faultLog : (load f v s).faultLog = s.faultLog := rfl
@[simp] theorem load_exposed : (load f v s).exposed = s.exposed := rfl
@[simp] theorem load_tree : (load f v s).tree = s.tree := rfl
@[simp] theorem load_treeDone : (load f v s).treeDone = s.treeDone := rfl
@[simp] theorem load_heads : (load f v s).heads = s.heads := rfl
@[simp] theorem load_pools : (load f v s).pools = s.pools := rfl
@[simp] theorem load_loop : (load f v s).loop = s.loop := rfl
@[simp] theorem load_buses : (load f v s).buses = s.buses := rfl
@[simp] theorem load_spindles : (load f v s).spindles = s.spindles := rfl
@[simp] theorem load_carousels : (load f v s).carousels = s.carousels := rfl
@[simp] theorem load_axes : (load f v s).axes = s.axes := rfl
@[simp] theorem load_lib : (load f v s).lib = s.lib := rfl
@[simp] theorem load_par : (load f v s).par = s.par := rfl
@[simp] theorem load_buf : (load f v s).buf = s.buf := rfl
@[simp] theorem load_host : (load f v s).host = s.host := rfl
@[simp] theorem load_plp : (load f v s).plp = s.plp := rfl
@[simp] theorem load_thm : (load f v s).thm = s.thm := rfl
@[simp] theorem load_cal : (load f v s).cal = s.cal := rfl
@[simp] theorem load_tab : (load f v s).tab = s.tab := rfl
@[simp] theorem load_flash : (load f v s).flash = s.flash := rfl
@[simp] theorem load_fuse : (load f v s).fuse = s.fuse := rfl
@[simp] theorem load_tabPassed : (load f v s).tabPassed = s.tabPassed := rfl
@[simp] theorem load_pwr : (load f v s).pwr = s.pwr := rfl
@[simp] theorem load_mgt : (load f v s).mgt = s.mgt := rfl

end load

section resetWindow
variable (lo hi : Nat) (s : State)

@[simp] theorem resetWindow_loaded : (resetWindow lo hi s).loaded = s.loaded := rfl
@[simp] theorem resetWindow_pending : (resetWindow lo hi s).pending = s.pending := rfl
@[simp] theorem resetWindow_fresh : (resetWindow lo hi s).fresh = s.fresh := rfl
@[simp] theorem resetWindow_busData : (resetWindow lo hi s).busData = s.busData := rfl
@[simp] theorem resetWindow_shadows : (resetWindow lo hi s).shadows = s.shadows := rfl
@[simp] theorem resetWindow_held : (resetWindow lo hi s).held = s.held := rfl
@[simp] theorem resetWindow_tickAcc : (resetWindow lo hi s).tickAcc = s.tickAcc := rfl
@[simp] theorem resetWindow_log : (resetWindow lo hi s).log = s.log := rfl
@[simp] theorem resetWindow_windows : (resetWindow lo hi s).windows = s.windows := rfl
@[simp] theorem resetWindow_faultLog : (resetWindow lo hi s).faultLog = s.faultLog := rfl
@[simp] theorem resetWindow_exposed : (resetWindow lo hi s).exposed = s.exposed := rfl
@[simp] theorem resetWindow_tree : (resetWindow lo hi s).tree = s.tree := rfl
@[simp] theorem resetWindow_treeDone : (resetWindow lo hi s).treeDone = s.treeDone := rfl
@[simp] theorem resetWindow_heads : (resetWindow lo hi s).heads = s.heads := rfl
@[simp] theorem resetWindow_pools : (resetWindow lo hi s).pools = s.pools := rfl
@[simp] theorem resetWindow_loop : (resetWindow lo hi s).loop = s.loop := rfl
@[simp] theorem resetWindow_buses : (resetWindow lo hi s).buses = s.buses := rfl
@[simp] theorem resetWindow_spindles : (resetWindow lo hi s).spindles = s.spindles := rfl
@[simp] theorem resetWindow_carousels : (resetWindow lo hi s).carousels = s.carousels := rfl
@[simp] theorem resetWindow_axes : (resetWindow lo hi s).axes = s.axes := rfl
@[simp] theorem resetWindow_lib : (resetWindow lo hi s).lib = s.lib := rfl
@[simp] theorem resetWindow_par : (resetWindow lo hi s).par = s.par := rfl
@[simp] theorem resetWindow_buf : (resetWindow lo hi s).buf = s.buf := rfl
@[simp] theorem resetWindow_host : (resetWindow lo hi s).host = s.host := rfl
@[simp] theorem resetWindow_plp : (resetWindow lo hi s).plp = s.plp := rfl
@[simp] theorem resetWindow_thm : (resetWindow lo hi s).thm = s.thm := rfl
@[simp] theorem resetWindow_cal : (resetWindow lo hi s).cal = s.cal := rfl
@[simp] theorem resetWindow_tab : (resetWindow lo hi s).tab = s.tab := rfl
@[simp] theorem resetWindow_flash : (resetWindow lo hi s).flash = s.flash := rfl
@[simp] theorem resetWindow_fuse : (resetWindow lo hi s).fuse = s.fuse := rfl
@[simp] theorem resetWindow_tabPassed : (resetWindow lo hi s).tabPassed = s.tabPassed := rfl
@[simp] theorem resetWindow_pwr : (resetWindow lo hi s).pwr = s.pwr := rfl
@[simp] theorem resetWindow_mgt : (resetWindow lo hi s).mgt = s.mgt := rfl

end resetWindow

section updHead
variable (h : Nat) (f : Head → Head) (s : State)

@[simp] theorem updHead_regs : (updHead h f s).regs = s.regs := rfl
@[simp] theorem updHead_loaded : (updHead h f s).loaded = s.loaded := rfl
@[simp] theorem updHead_force : (updHead h f s).force = s.force := rfl
@[simp] theorem updHead_pending : (updHead h f s).pending = s.pending := rfl
@[simp] theorem updHead_fresh : (updHead h f s).fresh = s.fresh := rfl
@[simp] theorem updHead_busData : (updHead h f s).busData = s.busData := rfl
@[simp] theorem updHead_shadows : (updHead h f s).shadows = s.shadows := rfl
@[simp] theorem updHead_held : (updHead h f s).held = s.held := rfl
@[simp] theorem updHead_tickAcc : (updHead h f s).tickAcc = s.tickAcc := rfl
@[simp] theorem updHead_log : (updHead h f s).log = s.log := rfl
@[simp] theorem updHead_windows : (updHead h f s).windows = s.windows := rfl
@[simp] theorem updHead_faultLog : (updHead h f s).faultLog = s.faultLog := rfl
@[simp] theorem updHead_exposed : (updHead h f s).exposed = s.exposed := rfl
@[simp] theorem updHead_tree : (updHead h f s).tree = s.tree := rfl
@[simp] theorem updHead_treeDone : (updHead h f s).treeDone = s.treeDone := rfl
@[simp] theorem updHead_pools : (updHead h f s).pools = s.pools := rfl
@[simp] theorem updHead_loop : (updHead h f s).loop = s.loop := rfl
@[simp] theorem updHead_buses : (updHead h f s).buses = s.buses := rfl
@[simp] theorem updHead_spindles : (updHead h f s).spindles = s.spindles := rfl
@[simp] theorem updHead_carousels : (updHead h f s).carousels = s.carousels := rfl
@[simp] theorem updHead_axes : (updHead h f s).axes = s.axes := rfl
@[simp] theorem updHead_lib : (updHead h f s).lib = s.lib := rfl
@[simp] theorem updHead_par : (updHead h f s).par = s.par := rfl
@[simp] theorem updHead_buf : (updHead h f s).buf = s.buf := rfl
@[simp] theorem updHead_host : (updHead h f s).host = s.host := rfl
@[simp] theorem updHead_plp : (updHead h f s).plp = s.plp := rfl
@[simp] theorem updHead_thm : (updHead h f s).thm = s.thm := rfl
@[simp] theorem updHead_cal : (updHead h f s).cal = s.cal := rfl
@[simp] theorem updHead_tab : (updHead h f s).tab = s.tab := rfl
@[simp] theorem updHead_flash : (updHead h f s).flash = s.flash := rfl
@[simp] theorem updHead_fuse : (updHead h f s).fuse = s.fuse := rfl
@[simp] theorem updHead_tabPassed : (updHead h f s).tabPassed = s.tabPassed := rfl
@[simp] theorem updHead_pwr : (updHead h f s).pwr = s.pwr := rfl
@[simp] theorem updHead_mgt : (updHead h f s).mgt = s.mgt := rfl
@[simp] theorem get_updHead (g : Fld) : get (updHead h f s) g = get s g := rfl

end updHead

section updPool
variable (q : Nat) (f : Pool → Pool) (s : State)

@[simp] theorem updPool_regs : (updPool q f s).regs = s.regs := rfl
@[simp] theorem updPool_loaded : (updPool q f s).loaded = s.loaded := rfl
@[simp] theorem updPool_force : (updPool q f s).force = s.force := rfl
@[simp] theorem updPool_pending : (updPool q f s).pending = s.pending := rfl
@[simp] theorem updPool_fresh : (updPool q f s).fresh = s.fresh := rfl
@[simp] theorem updPool_busData : (updPool q f s).busData = s.busData := rfl
@[simp] theorem updPool_shadows : (updPool q f s).shadows = s.shadows := rfl
@[simp] theorem updPool_held : (updPool q f s).held = s.held := rfl
@[simp] theorem updPool_tickAcc : (updPool q f s).tickAcc = s.tickAcc := rfl
@[simp] theorem updPool_log : (updPool q f s).log = s.log := rfl
@[simp] theorem updPool_windows : (updPool q f s).windows = s.windows := rfl
@[simp] theorem updPool_faultLog : (updPool q f s).faultLog = s.faultLog := rfl
@[simp] theorem updPool_exposed : (updPool q f s).exposed = s.exposed := rfl
@[simp] theorem updPool_tree : (updPool q f s).tree = s.tree := rfl
@[simp] theorem updPool_treeDone : (updPool q f s).treeDone = s.treeDone := rfl
@[simp] theorem updPool_heads : (updPool q f s).heads = s.heads := rfl
@[simp] theorem updPool_loop : (updPool q f s).loop = s.loop := rfl
@[simp] theorem updPool_buses : (updPool q f s).buses = s.buses := rfl
@[simp] theorem updPool_spindles : (updPool q f s).spindles = s.spindles := rfl
@[simp] theorem updPool_carousels : (updPool q f s).carousels = s.carousels := rfl
@[simp] theorem updPool_axes : (updPool q f s).axes = s.axes := rfl
@[simp] theorem updPool_lib : (updPool q f s).lib = s.lib := rfl
@[simp] theorem updPool_par : (updPool q f s).par = s.par := rfl
@[simp] theorem updPool_buf : (updPool q f s).buf = s.buf := rfl
@[simp] theorem updPool_host : (updPool q f s).host = s.host := rfl
@[simp] theorem updPool_plp : (updPool q f s).plp = s.plp := rfl
@[simp] theorem updPool_thm : (updPool q f s).thm = s.thm := rfl
@[simp] theorem updPool_cal : (updPool q f s).cal = s.cal := rfl
@[simp] theorem updPool_tab : (updPool q f s).tab = s.tab := rfl
@[simp] theorem updPool_flash : (updPool q f s).flash = s.flash := rfl
@[simp] theorem updPool_fuse : (updPool q f s).fuse = s.fuse := rfl
@[simp] theorem updPool_tabPassed : (updPool q f s).tabPassed = s.tabPassed := rfl
@[simp] theorem updPool_pwr : (updPool q f s).pwr = s.pwr := rfl
@[simp] theorem updPool_mgt : (updPool q f s).mgt = s.mgt := rfl
@[simp] theorem get_updPool (g : Fld) : get (updPool q f s) g = get s g := rfl

end updPool

section updBus
variable (l : Nat) (f : BusLink → BusLink) (s : State)

@[simp] theorem updBus_regs : (updBus l f s).regs = s.regs := rfl
@[simp] theorem updBus_loaded : (updBus l f s).loaded = s.loaded := rfl
@[simp] theorem updBus_force : (updBus l f s).force = s.force := rfl
@[simp] theorem updBus_pending : (updBus l f s).pending = s.pending := rfl
@[simp] theorem updBus_fresh : (updBus l f s).fresh = s.fresh := rfl
@[simp] theorem updBus_busData : (updBus l f s).busData = s.busData := rfl
@[simp] theorem updBus_shadows : (updBus l f s).shadows = s.shadows := rfl
@[simp] theorem updBus_held : (updBus l f s).held = s.held := rfl
@[simp] theorem updBus_tickAcc : (updBus l f s).tickAcc = s.tickAcc := rfl
@[simp] theorem updBus_log : (updBus l f s).log = s.log := rfl
@[simp] theorem updBus_windows : (updBus l f s).windows = s.windows := rfl
@[simp] theorem updBus_faultLog : (updBus l f s).faultLog = s.faultLog := rfl
@[simp] theorem updBus_exposed : (updBus l f s).exposed = s.exposed := rfl
@[simp] theorem updBus_tree : (updBus l f s).tree = s.tree := rfl
@[simp] theorem updBus_treeDone : (updBus l f s).treeDone = s.treeDone := rfl
@[simp] theorem updBus_heads : (updBus l f s).heads = s.heads := rfl
@[simp] theorem updBus_pools : (updBus l f s).pools = s.pools := rfl
@[simp] theorem updBus_loop : (updBus l f s).loop = s.loop := rfl
@[simp] theorem updBus_spindles : (updBus l f s).spindles = s.spindles := rfl
@[simp] theorem updBus_carousels : (updBus l f s).carousels = s.carousels := rfl
@[simp] theorem updBus_axes : (updBus l f s).axes = s.axes := rfl
@[simp] theorem updBus_lib : (updBus l f s).lib = s.lib := rfl
@[simp] theorem updBus_par : (updBus l f s).par = s.par := rfl
@[simp] theorem updBus_buf : (updBus l f s).buf = s.buf := rfl
@[simp] theorem updBus_host : (updBus l f s).host = s.host := rfl
@[simp] theorem updBus_plp : (updBus l f s).plp = s.plp := rfl
@[simp] theorem updBus_thm : (updBus l f s).thm = s.thm := rfl
@[simp] theorem updBus_cal : (updBus l f s).cal = s.cal := rfl
@[simp] theorem updBus_tab : (updBus l f s).tab = s.tab := rfl
@[simp] theorem updBus_flash : (updBus l f s).flash = s.flash := rfl
@[simp] theorem updBus_fuse : (updBus l f s).fuse = s.fuse := rfl
@[simp] theorem updBus_tabPassed : (updBus l f s).tabPassed = s.tabPassed := rfl
@[simp] theorem updBus_pwr : (updBus l f s).pwr = s.pwr := rfl
@[simp] theorem updBus_mgt : (updBus l f s).mgt = s.mgt := rfl
@[simp] theorem get_updBus (g : Fld) : get (updBus l f s) g = get s g := rfl

end updBus

section updAx
variable (b a : Nat) (f : Axis → Axis) (s : State)

@[simp] theorem updAx_regs : (updAx b a f s).regs = s.regs := rfl
@[simp] theorem updAx_loaded : (updAx b a f s).loaded = s.loaded := rfl
@[simp] theorem updAx_force : (updAx b a f s).force = s.force := rfl
@[simp] theorem updAx_pending : (updAx b a f s).pending = s.pending := rfl
@[simp] theorem updAx_fresh : (updAx b a f s).fresh = s.fresh := rfl
@[simp] theorem updAx_busData : (updAx b a f s).busData = s.busData := rfl
@[simp] theorem updAx_shadows : (updAx b a f s).shadows = s.shadows := rfl
@[simp] theorem updAx_held : (updAx b a f s).held = s.held := rfl
@[simp] theorem updAx_tickAcc : (updAx b a f s).tickAcc = s.tickAcc := rfl
@[simp] theorem updAx_log : (updAx b a f s).log = s.log := rfl
@[simp] theorem updAx_windows : (updAx b a f s).windows = s.windows := rfl
@[simp] theorem updAx_faultLog : (updAx b a f s).faultLog = s.faultLog := rfl
@[simp] theorem updAx_exposed : (updAx b a f s).exposed = s.exposed := rfl
@[simp] theorem updAx_tree : (updAx b a f s).tree = s.tree := rfl
@[simp] theorem updAx_treeDone : (updAx b a f s).treeDone = s.treeDone := rfl
@[simp] theorem updAx_heads : (updAx b a f s).heads = s.heads := rfl
@[simp] theorem updAx_pools : (updAx b a f s).pools = s.pools := rfl
@[simp] theorem updAx_loop : (updAx b a f s).loop = s.loop := rfl
@[simp] theorem updAx_buses : (updAx b a f s).buses = s.buses := rfl
@[simp] theorem updAx_spindles : (updAx b a f s).spindles = s.spindles := rfl
@[simp] theorem updAx_carousels : (updAx b a f s).carousels = s.carousels := rfl
@[simp] theorem updAx_lib : (updAx b a f s).lib = s.lib := rfl
@[simp] theorem updAx_par : (updAx b a f s).par = s.par := rfl
@[simp] theorem updAx_buf : (updAx b a f s).buf = s.buf := rfl
@[simp] theorem updAx_host : (updAx b a f s).host = s.host := rfl
@[simp] theorem updAx_plp : (updAx b a f s).plp = s.plp := rfl
@[simp] theorem updAx_thm : (updAx b a f s).thm = s.thm := rfl
@[simp] theorem updAx_cal : (updAx b a f s).cal = s.cal := rfl
@[simp] theorem updAx_tab : (updAx b a f s).tab = s.tab := rfl
@[simp] theorem updAx_flash : (updAx b a f s).flash = s.flash := rfl
@[simp] theorem updAx_fuse : (updAx b a f s).fuse = s.fuse := rfl
@[simp] theorem updAx_tabPassed : (updAx b a f s).tabPassed = s.tabPassed := rfl
@[simp] theorem updAx_pwr : (updAx b a f s).pwr = s.pwr := rfl
@[simp] theorem updAx_mgt : (updAx b a f s).mgt = s.mgt := rfl
@[simp] theorem get_updAx (g : Fld) : get (updAx b a f s) g = get s g := rfl

end updAx

section updSpin
variable (b : Nat) (f : Spindle → Spindle) (s : State)

@[simp] theorem updSpin_regs : (updSpin b f s).regs = s.regs := rfl
@[simp] theorem updSpin_loaded : (updSpin b f s).loaded = s.loaded := rfl
@[simp] theorem updSpin_force : (updSpin b f s).force = s.force := rfl
@[simp] theorem updSpin_pending : (updSpin b f s).pending = s.pending := rfl
@[simp] theorem updSpin_fresh : (updSpin b f s).fresh = s.fresh := rfl
@[simp] theorem updSpin_busData : (updSpin b f s).busData = s.busData := rfl
@[simp] theorem updSpin_shadows : (updSpin b f s).shadows = s.shadows := rfl
@[simp] theorem updSpin_held : (updSpin b f s).held = s.held := rfl
@[simp] theorem updSpin_tickAcc : (updSpin b f s).tickAcc = s.tickAcc := rfl
@[simp] theorem updSpin_log : (updSpin b f s).log = s.log := rfl
@[simp] theorem updSpin_windows : (updSpin b f s).windows = s.windows := rfl
@[simp] theorem updSpin_faultLog : (updSpin b f s).faultLog = s.faultLog := rfl
@[simp] theorem updSpin_exposed : (updSpin b f s).exposed = s.exposed := rfl
@[simp] theorem updSpin_tree : (updSpin b f s).tree = s.tree := rfl
@[simp] theorem updSpin_treeDone : (updSpin b f s).treeDone = s.treeDone := rfl
@[simp] theorem updSpin_heads : (updSpin b f s).heads = s.heads := rfl
@[simp] theorem updSpin_pools : (updSpin b f s).pools = s.pools := rfl
@[simp] theorem updSpin_loop : (updSpin b f s).loop = s.loop := rfl
@[simp] theorem updSpin_buses : (updSpin b f s).buses = s.buses := rfl
@[simp] theorem updSpin_carousels : (updSpin b f s).carousels = s.carousels := rfl
@[simp] theorem updSpin_axes : (updSpin b f s).axes = s.axes := rfl
@[simp] theorem updSpin_lib : (updSpin b f s).lib = s.lib := rfl
@[simp] theorem updSpin_par : (updSpin b f s).par = s.par := rfl
@[simp] theorem updSpin_buf : (updSpin b f s).buf = s.buf := rfl
@[simp] theorem updSpin_host : (updSpin b f s).host = s.host := rfl
@[simp] theorem updSpin_plp : (updSpin b f s).plp = s.plp := rfl
@[simp] theorem updSpin_thm : (updSpin b f s).thm = s.thm := rfl
@[simp] theorem updSpin_cal : (updSpin b f s).cal = s.cal := rfl
@[simp] theorem updSpin_tab : (updSpin b f s).tab = s.tab := rfl
@[simp] theorem updSpin_flash : (updSpin b f s).flash = s.flash := rfl
@[simp] theorem updSpin_fuse : (updSpin b f s).fuse = s.fuse := rfl
@[simp] theorem updSpin_tabPassed : (updSpin b f s).tabPassed = s.tabPassed := rfl
@[simp] theorem updSpin_pwr : (updSpin b f s).pwr = s.pwr := rfl
@[simp] theorem updSpin_mgt : (updSpin b f s).mgt = s.mgt := rfl
@[simp] theorem get_updSpin (g : Fld) : get (updSpin b f s) g = get s g := rfl

end updSpin

section updCrs
variable (c : Nat) (f : Carousel → Carousel) (s : State)

@[simp] theorem updCrs_regs : (updCrs c f s).regs = s.regs := rfl
@[simp] theorem updCrs_loaded : (updCrs c f s).loaded = s.loaded := rfl
@[simp] theorem updCrs_force : (updCrs c f s).force = s.force := rfl
@[simp] theorem updCrs_pending : (updCrs c f s).pending = s.pending := rfl
@[simp] theorem updCrs_fresh : (updCrs c f s).fresh = s.fresh := rfl
@[simp] theorem updCrs_busData : (updCrs c f s).busData = s.busData := rfl
@[simp] theorem updCrs_shadows : (updCrs c f s).shadows = s.shadows := rfl
@[simp] theorem updCrs_held : (updCrs c f s).held = s.held := rfl
@[simp] theorem updCrs_tickAcc : (updCrs c f s).tickAcc = s.tickAcc := rfl
@[simp] theorem updCrs_log : (updCrs c f s).log = s.log := rfl
@[simp] theorem updCrs_windows : (updCrs c f s).windows = s.windows := rfl
@[simp] theorem updCrs_faultLog : (updCrs c f s).faultLog = s.faultLog := rfl
@[simp] theorem updCrs_exposed : (updCrs c f s).exposed = s.exposed := rfl
@[simp] theorem updCrs_tree : (updCrs c f s).tree = s.tree := rfl
@[simp] theorem updCrs_treeDone : (updCrs c f s).treeDone = s.treeDone := rfl
@[simp] theorem updCrs_heads : (updCrs c f s).heads = s.heads := rfl
@[simp] theorem updCrs_pools : (updCrs c f s).pools = s.pools := rfl
@[simp] theorem updCrs_loop : (updCrs c f s).loop = s.loop := rfl
@[simp] theorem updCrs_buses : (updCrs c f s).buses = s.buses := rfl
@[simp] theorem updCrs_spindles : (updCrs c f s).spindles = s.spindles := rfl
@[simp] theorem updCrs_axes : (updCrs c f s).axes = s.axes := rfl
@[simp] theorem updCrs_lib : (updCrs c f s).lib = s.lib := rfl
@[simp] theorem updCrs_par : (updCrs c f s).par = s.par := rfl
@[simp] theorem updCrs_buf : (updCrs c f s).buf = s.buf := rfl
@[simp] theorem updCrs_host : (updCrs c f s).host = s.host := rfl
@[simp] theorem updCrs_plp : (updCrs c f s).plp = s.plp := rfl
@[simp] theorem updCrs_thm : (updCrs c f s).thm = s.thm := rfl
@[simp] theorem updCrs_cal : (updCrs c f s).cal = s.cal := rfl
@[simp] theorem updCrs_tab : (updCrs c f s).tab = s.tab := rfl
@[simp] theorem updCrs_flash : (updCrs c f s).flash = s.flash := rfl
@[simp] theorem updCrs_fuse : (updCrs c f s).fuse = s.fuse := rfl
@[simp] theorem updCrs_tabPassed : (updCrs c f s).tabPassed = s.tabPassed := rfl
@[simp] theorem updCrs_pwr : (updCrs c f s).pwr = s.pwr := rfl
@[simp] theorem updCrs_mgt : (updCrs c f s).mgt = s.mgt := rfl
@[simp] theorem get_updCrs (g : Fld) : get (updCrs c f s) g = get s g := rfl

end updCrs

section updCell
variable (n : Nat) (f : LoopCell → LoopCell) (s : State)

@[simp] theorem updCell_regs : (updCell n f s).regs = s.regs := rfl
@[simp] theorem updCell_loaded : (updCell n f s).loaded = s.loaded := rfl
@[simp] theorem updCell_force : (updCell n f s).force = s.force := rfl
@[simp] theorem updCell_pending : (updCell n f s).pending = s.pending := rfl
@[simp] theorem updCell_fresh : (updCell n f s).fresh = s.fresh := rfl
@[simp] theorem updCell_busData : (updCell n f s).busData = s.busData := rfl
@[simp] theorem updCell_shadows : (updCell n f s).shadows = s.shadows := rfl
@[simp] theorem updCell_held : (updCell n f s).held = s.held := rfl
@[simp] theorem updCell_tickAcc : (updCell n f s).tickAcc = s.tickAcc := rfl
@[simp] theorem updCell_log : (updCell n f s).log = s.log := rfl
@[simp] theorem updCell_windows : (updCell n f s).windows = s.windows := rfl
@[simp] theorem updCell_faultLog : (updCell n f s).faultLog = s.faultLog := rfl
@[simp] theorem updCell_exposed : (updCell n f s).exposed = s.exposed := rfl
@[simp] theorem updCell_tree : (updCell n f s).tree = s.tree := rfl
@[simp] theorem updCell_treeDone : (updCell n f s).treeDone = s.treeDone := rfl
@[simp] theorem updCell_heads : (updCell n f s).heads = s.heads := rfl
@[simp] theorem updCell_pools : (updCell n f s).pools = s.pools := rfl
@[simp] theorem updCell_buses : (updCell n f s).buses = s.buses := rfl
@[simp] theorem updCell_spindles : (updCell n f s).spindles = s.spindles := rfl
@[simp] theorem updCell_carousels : (updCell n f s).carousels = s.carousels := rfl
@[simp] theorem updCell_axes : (updCell n f s).axes = s.axes := rfl
@[simp] theorem updCell_lib : (updCell n f s).lib = s.lib := rfl
@[simp] theorem updCell_par : (updCell n f s).par = s.par := rfl
@[simp] theorem updCell_buf : (updCell n f s).buf = s.buf := rfl
@[simp] theorem updCell_host : (updCell n f s).host = s.host := rfl
@[simp] theorem updCell_plp : (updCell n f s).plp = s.plp := rfl
@[simp] theorem updCell_thm : (updCell n f s).thm = s.thm := rfl
@[simp] theorem updCell_cal : (updCell n f s).cal = s.cal := rfl
@[simp] theorem updCell_tab : (updCell n f s).tab = s.tab := rfl
@[simp] theorem updCell_flash : (updCell n f s).flash = s.flash := rfl
@[simp] theorem updCell_fuse : (updCell n f s).fuse = s.fuse := rfl
@[simp] theorem updCell_tabPassed : (updCell n f s).tabPassed = s.tabPassed := rfl
@[simp] theorem updCell_pwr : (updCell n f s).pwr = s.pwr := rfl
@[simp] theorem updCell_mgt : (updCell n f s).mgt = s.mgt := rfl
@[simp] theorem get_updCell (g : Fld) : get (updCell n f s) g = get s g := rfl

end updCell

section updNode
variable (m : Nat) (f : LoopNode → LoopNode) (s : State)

@[simp] theorem updNode_regs : (updNode m f s).regs = s.regs := rfl
@[simp] theorem updNode_loaded : (updNode m f s).loaded = s.loaded := rfl
@[simp] theorem updNode_force : (updNode m f s).force = s.force := rfl
@[simp] theorem updNode_pending : (updNode m f s).pending = s.pending := rfl
@[simp] theorem updNode_fresh : (updNode m f s).fresh = s.fresh := rfl
@[simp] theorem updNode_busData : (updNode m f s).busData = s.busData := rfl
@[simp] theorem updNode_shadows : (updNode m f s).shadows = s.shadows := rfl
@[simp] theorem updNode_held : (updNode m f s).held = s.held := rfl
@[simp] theorem updNode_tickAcc : (updNode m f s).tickAcc = s.tickAcc := rfl
@[simp] theorem updNode_log : (updNode m f s).log = s.log := rfl
@[simp] theorem updNode_windows : (updNode m f s).windows = s.windows := rfl
@[simp] theorem updNode_faultLog : (updNode m f s).faultLog = s.faultLog := rfl
@[simp] theorem updNode_exposed : (updNode m f s).exposed = s.exposed := rfl
@[simp] theorem updNode_tree : (updNode m f s).tree = s.tree := rfl
@[simp] theorem updNode_treeDone : (updNode m f s).treeDone = s.treeDone := rfl
@[simp] theorem updNode_heads : (updNode m f s).heads = s.heads := rfl
@[simp] theorem updNode_pools : (updNode m f s).pools = s.pools := rfl
@[simp] theorem updNode_buses : (updNode m f s).buses = s.buses := rfl
@[simp] theorem updNode_spindles : (updNode m f s).spindles = s.spindles := rfl
@[simp] theorem updNode_carousels : (updNode m f s).carousels = s.carousels := rfl
@[simp] theorem updNode_axes : (updNode m f s).axes = s.axes := rfl
@[simp] theorem updNode_lib : (updNode m f s).lib = s.lib := rfl
@[simp] theorem updNode_par : (updNode m f s).par = s.par := rfl
@[simp] theorem updNode_buf : (updNode m f s).buf = s.buf := rfl
@[simp] theorem updNode_host : (updNode m f s).host = s.host := rfl
@[simp] theorem updNode_plp : (updNode m f s).plp = s.plp := rfl
@[simp] theorem updNode_thm : (updNode m f s).thm = s.thm := rfl
@[simp] theorem updNode_cal : (updNode m f s).cal = s.cal := rfl
@[simp] theorem updNode_tab : (updNode m f s).tab = s.tab := rfl
@[simp] theorem updNode_flash : (updNode m f s).flash = s.flash := rfl
@[simp] theorem updNode_fuse : (updNode m f s).fuse = s.fuse := rfl
@[simp] theorem updNode_tabPassed : (updNode m f s).tabPassed = s.tabPassed := rfl
@[simp] theorem updNode_pwr : (updNode m f s).pwr = s.pwr := rfl
@[simp] theorem updNode_mgt : (updNode m f s).mgt = s.mgt := rfl
@[simp] theorem get_updNode (g : Fld) : get (updNode m f s) g = get s g := rfl

end updNode

section drawFree
variable (w : Nat) (s : State)

@[simp] theorem drawFree_regs : (drawFree w s).2.regs = s.regs := rfl
@[simp] theorem drawFree_loaded : (drawFree w s).2.loaded = s.loaded := rfl
@[simp] theorem drawFree_force : (drawFree w s).2.force = s.force := rfl
@[simp] theorem drawFree_pending : (drawFree w s).2.pending = s.pending := rfl
@[simp] theorem drawFree_busData : (drawFree w s).2.busData = s.busData := rfl
@[simp] theorem drawFree_shadows : (drawFree w s).2.shadows = s.shadows := rfl
@[simp] theorem drawFree_held : (drawFree w s).2.held = s.held := rfl
@[simp] theorem drawFree_tickAcc : (drawFree w s).2.tickAcc = s.tickAcc := rfl
@[simp] theorem drawFree_log : (drawFree w s).2.log = s.log := rfl
@[simp] theorem drawFree_windows : (drawFree w s).2.windows = s.windows := rfl
@[simp] theorem drawFree_faultLog : (drawFree w s).2.faultLog = s.faultLog := rfl
@[simp] theorem drawFree_exposed : (drawFree w s).2.exposed = s.exposed := rfl
@[simp] theorem drawFree_tree : (drawFree w s).2.tree = s.tree := rfl
@[simp] theorem drawFree_treeDone : (drawFree w s).2.treeDone = s.treeDone := rfl
@[simp] theorem drawFree_heads : (drawFree w s).2.heads = s.heads := rfl
@[simp] theorem drawFree_pools : (drawFree w s).2.pools = s.pools := rfl
@[simp] theorem drawFree_loop : (drawFree w s).2.loop = s.loop := rfl
@[simp] theorem drawFree_buses : (drawFree w s).2.buses = s.buses := rfl
@[simp] theorem drawFree_spindles : (drawFree w s).2.spindles = s.spindles := rfl
@[simp] theorem drawFree_carousels : (drawFree w s).2.carousels = s.carousels := rfl
@[simp] theorem drawFree_axes : (drawFree w s).2.axes = s.axes := rfl
@[simp] theorem drawFree_lib : (drawFree w s).2.lib = s.lib := rfl
@[simp] theorem drawFree_par : (drawFree w s).2.par = s.par := rfl
@[simp] theorem drawFree_buf : (drawFree w s).2.buf = s.buf := rfl
@[simp] theorem drawFree_host : (drawFree w s).2.host = s.host := rfl
@[simp] theorem drawFree_plp : (drawFree w s).2.plp = s.plp := rfl
@[simp] theorem drawFree_thm : (drawFree w s).2.thm = s.thm := rfl
@[simp] theorem drawFree_cal : (drawFree w s).2.cal = s.cal := rfl
@[simp] theorem drawFree_tab : (drawFree w s).2.tab = s.tab := rfl
@[simp] theorem drawFree_flash : (drawFree w s).2.flash = s.flash := rfl
@[simp] theorem drawFree_fuse : (drawFree w s).2.fuse = s.fuse := rfl
@[simp] theorem drawFree_tabPassed : (drawFree w s).2.tabPassed = s.tabPassed := rfl
@[simp] theorem drawFree_pwr : (drawFree w s).2.pwr = s.pwr := rfl
@[simp] theorem drawFree_mgt : (drawFree w s).2.mgt = s.mgt := rfl
@[simp] theorem drawFree_fresh : (drawFree w s).2.fresh = s.fresh + 1 := rfl
@[simp] theorem get_drawFree (g : Fld) : get (drawFree w s).2 g = get s g := rfl

end drawFree

end Sys2Proof.Laws
end

