-- ==== Sys2Proof/Laws/Regs.lean ====
section
/-! SUPPORT. The laws of the register window: what a field reads after a write, an event flag, a log entry; what each of these
operations leaves. -/

namespace Sys2Proof.Laws

open Sys2Proof.Machine

/-- A field after a write of a field: the value cut to the width, or what it was. -/
theorem get_put (f g : Fld) (v : Nat) (s : State) : Machine.get (put f v s) g = if g.key = f.key then trunc f.width v else Machine.get s g := by
  simp only [Machine.get, put, deflt, mapGet_put]

@[simp] theorem get_put_same (f : Fld) (v : Nat) (s : State) : Machine.get (put f v s) f = trunc f.width v := by simp [get_put]

theorem get_put_ne (f g : Fld) (v : Nat) (s : State) (h : g.key ≠ f.key) : Machine.get (put f v s) g = Machine.get s g := by
  simp [get_put, h]

/-- A field reads the same in two states whose windows hold the same. -/
theorem get_congr {s t : State} (h : t.regs = s.regs) (hl : t.loaded = s.loaded) (f : Fld) : Machine.get t f = Machine.get s f := by
  simp only [Machine.get, deflt, h, hl]

theorem inForce_takeForce (f g : Fld) (s : State) : inForce (takeForce f s) g = if g.key = f.key then Machine.get s f else inForce s g := by
  simp only [inForce, takeForce, deflt, mapGet_put]

/-- A field outside a block's reset keeps its value; one inside goes back to what it was loaded with (R2, R522). -/
theorem get_resetWindow (lo hi : Nat) (s : State) (f : Fld) :
    Machine.get (resetWindow lo hi s) f = if 8 * lo ≤ f.key ∧ f.key < 8 * hi then deflt s f else Machine.get s f := by
  simp only [Machine.get, resetWindow, deflt, mapGet_eraseRange]

theorem get_putAll_ne (l : List (Fld × Nat)) (g : Fld) (s : State) (h : ∀ p ∈ l, g.key ≠ p.1.key) :
    Machine.get (putAll l s) g = Machine.get s g := by
  induction l generalizing s with
  | nil => rfl
  | cons p l ih =>
    obtain ⟨f, v⟩ := p
    simp only [putAll]
    rw [ih _ fun q hq => h q (List.mem_cons_of_mem _ hq), get_put_ne _ _ _ _ (h (f, v) (List.mem_cons_self ..))]

/-- Only the register window changes under a write of several fields. -/
theorem putAll_regs (l : List (Fld × Nat)) (s : State) : ∃ r, putAll l s = { s with regs := r } := by
  induction l generalizing s with
  | nil => exact ⟨s.regs, rfl⟩
  | cons p l ih =>
    obtain ⟨f, v⟩ := p
    obtain ⟨r, hr⟩ := ih (put f v s)
    exact ⟨r, hr⟩

/-- Only the values in force change at a boundary. -/
theorem takeForces_force (l : List Fld) (s : State) : ∃ r, takeForces l s = { s with force := r } := by
  induction l generalizing s with
  | nil => exact ⟨s.force, rfl⟩
  | cons f l ih =>
    obtain ⟨r, hr⟩ := ih (takeForce f s)
    exact ⟨r, hr⟩

@[simp] theorem get_takeForces (l : List Fld) (s : State) (g : Fld) : Machine.get (takeForces l s) g = Machine.get s g := by
  obtain ⟨r, hr⟩ := takeForces_force l s
  rw [hr]
  rfl

/-- What an event flag's log entry touches: the log and its head (R533). -/
theorem edge_cases (src : Nat) (was : Bool) (s : State) : ∃ r l, edge src was s = { s with regs := r, log := l } ∧
    ∀ g : Fld, g.key ≠ F.EVT_LOG_HEAD.key → Machine.get (edge src was s) g = Machine.get s g := by
  unfold edge
  split
  · exact ⟨_, _, rfl, fun g hg => by rw [logAppend, get_put_ne _ _ _ _ hg]; rfl⟩
  · exact ⟨s.regs, s.log, rfl, fun _ _ => rfl⟩

/-- A flag that is set touches its register, the log and the log's head. -/
theorem raise_cases (e : EvReg) (i : Nat) (s : State) : ∃ r l, raise e i s = { s with regs := r, log := l } ∧
    ∀ g : Fld, g.key ≠ F.EVT_LOG_HEAD.key → Machine.get (raise e i s) g = Machine.get (put e.evt (Machine.get s e.evt ||| 2 ^ i) s) g := by
  obtain ⟨r, l, h, hg⟩ := edge_cases (e.source i) (level s (e.source i)) (put e.evt (Machine.get s e.evt ||| 2 ^ i) s)
  exact ⟨r, l, by unfold raise; rw [h]; rfl, fun g hk => by unfold raise; exact hg g hk⟩

/-- A field of no event register keeps its value when a flag is set. -/
theorem get_raise_ne (e : EvReg) (i : Nat) (s : State) (g : Fld) (h : g.key ≠ F.EVT_LOG_HEAD.key) (he : g.key ≠ e.evt.key) :
    Machine.get (raise e i s) g = Machine.get s g := by
  obtain ⟨_, _, _, hg⟩ := raise_cases e i s
  rw [hg g h, get_put_ne _ _ _ _ he]

/-- The event register itself takes the flag. -/
theorem get_raise_evt (e : EvReg) (i : Nat) (s : State) (h : e.evt.key ≠ F.EVT_LOG_HEAD.key) :
    Machine.get (raise e i s) e.evt = trunc e.evt.width (Machine.get s e.evt ||| 2 ^ i) := by
  obtain ⟨_, _, _, hg⟩ := raise_cases e i s
  rw [hg _ h, get_put_same]

/-- A bit of a flag register, read. -/
theorem bitOf_or_pow (v i : Nat) : bitOf (v ||| 2 ^ i) i = 1 := by
  have : (v ||| 2 ^ i).testBit i = true := by simp [Nat.testBit_or, Nat.testBit_two_pow_self]
  simpa [bitOf, Nat.testBit, Nat.shiftRight_eq_div_pow, Nat.one_and_eq_mod_two] using this

theorem bitOf_trunc (w v i : Nat) (h : i < w) : bitOf (trunc w v) i = bitOf v i := by
  have hb : ∀ x : Nat, bitOf x i = (x.testBit i).toNat := fun x => by
    simp [bitOf, Nat.testBit, Nat.shiftRight_eq_div_pow, Nat.one_and_eq_mod_two]
    rcases Nat.mod_two_eq_zero_or_one (x / 2 ^ i) with h | h <;> simp [h]
  rw [hb, hb, trunc, Nat.testBit_mod_two_pow]
  simp [h]

/-- The flag is set after it is raised. -/
theorem raise_sets (e : EvReg) (i : Nat) (s : State) (h : e.evt.key ≠ F.EVT_LOG_HEAD.key) (hi : i < e.evt.width) :
    bitOf (Machine.get (raise e i s) e.evt) i = 1 := by
  rw [get_raise_evt e i s h, bitOf_trunc _ _ _ hi, bitOf_or_pow]

/-- A walk over units that each leave a property leaves it. -/
theorem forAll_induct (p : State → Prop) (f : Nat → State → State) (l : List Nat) (s : State) (h : p s)
    (hf : ∀ i t, i ∈ l → p t → p (f i t)) : p (forAll l f s) := by
  unfold forAll
  induction l generalizing s with
  | nil => exact h
  | cons a l ih => exact ih _ (hf a s (List.mem_cons_self ..) h) fun i t hi ht => hf i t (List.mem_cons_of_mem _ hi) ht

end Sys2Proof.Laws
end

