-- ==== Sys2Proof/Laws/Frames.lean ====
section
/-! SUPPORT. What the shared operations leave alone, in the terms of Safety: the state behind the window, the fields of the
window, and the flags an operation sets. -/

namespace Sys2Proof.Laws

open Sys2Proof.Machine

/-! ### The state behind the window -/

@[simp] theorem inner_put (f : Fld) (v : Nat) (s : State) : inner (put f v s) = inner s := rfl
@[simp] theorem inner_putI (f : Fld) (v : Int) (s : State) : inner (putI f v s) = inner s := rfl
@[simp] theorem inner_putB (f : Fld) (v : Bool) (s : State) : inner (putB f v s) = inner s := rfl
@[simp] theorem inner_bump (f : Fld) (n : Nat) (s : State) : inner (bump f n s) = inner s := rfl
@[simp] theorem inner_peak (f : Fld) (v : Nat) (s : State) : inner (peak f v s) = inner s := rfl
@[simp] theorem inner_unitReset (s : State) : inner (unitReset s) = inner s := rfl
@[simp] theorem inner_putAll (l : List (Fld × Nat)) (s : State) : inner (putAll l s) = inner s := by
  obtain ⟨r, h⟩ := putAll_regs l s
  rw [h]; rfl
@[simp] theorem inner_clearAll (l : List Fld) (s : State) : inner (clearAll l s) = inner s := inner_putAll _ s
@[simp] theorem inner_edge (src : Nat) (was : Bool) (s : State) : inner (edge src was s) = inner s := by
  obtain ⟨r, l, h, _⟩ := edge_cases src was s
  rw [h]; rfl
@[simp] theorem inner_raise (e : EvReg) (i : Nat) (s : State) : inner (raise e i s) = inner s := by
  obtain ⟨r, l, h, _⟩ := raise_cases e i s
  rw [h]; rfl
@[simp] theorem inner_raises (e : EvReg) (l : List Nat) (s : State) : inner (raises e l s) = inner s := by
  induction l generalizing s with
  | nil => rfl
  | cons i l ih => simp [raises, ih]

/-- Two states with the same inner state agree in every field behind the window. -/
theorem inner_field {α : Type} (p : State → α) (hp : ∀ s : State, p (inner s) = p s) {s t : State} (h : inner t = inner s) : p t = p s := by
  rw [← hp t, h, hp s]

/-! ### The window's fields -/

theorem only_refl (s : State) (fs : List Fld) : OnlyFields s s fs := fun _ _ => rfl

theorem only_trans {s t u : State} {fs : List Fld} (h : OnlyFields s t fs) (k : OnlyFields t u fs) : OnlyFields s u fs :=
  fun f hf => (k f hf).trans (h f hf)

theorem only_mono {s t : State} {fs gs : List Fld} (h : OnlyFields s t fs) (hs : ∀ f ∈ fs, f.key ∈ gs.map Fld.key) : OnlyFields s t gs := by
  intro f hf
  refine h f fun hm => hf ?_
  obtain ⟨g, hg, e⟩ := List.mem_map.1 hm
  exact e ▸ hs g hg

/-- A state that differs only outside the window and its loaded values. -/
theorem only_congr {s t u : State} {fs : List Fld} (h : OnlyFields s t fs) (hr : u.regs = t.regs) (hl : u.loaded = t.loaded) :
    OnlyFields s u fs := fun f hf => (get_congr hr hl f).trans (h f hf)

theorem only_put {s t : State} {fs : List Fld} {f : Fld} {v : Nat} (h : OnlyFields s t fs) (hf : f.key ∈ fs.map Fld.key) :
    OnlyFields s (put f v t) fs := fun g hg => by
  rw [get_put_ne f g v t (fun e => hg (e ▸ hf)), h g hg]

theorem only_putAll {s t : State} {fs : List Fld} {l : List (Fld × Nat)} (h : OnlyFields s t fs)
    (hl : ∀ p ∈ l, p.1.key ∈ fs.map Fld.key) : OnlyFields s (putAll l t) fs := fun g hg => by
  rw [get_putAll_ne l g t (fun p hp e => hg (e ▸ hl p hp)), h g hg]

theorem only_edge {s t : State} {fs : List Fld} {src : Nat} {was : Bool} (h : OnlyFields s t fs)
    (hf : F.EVT_LOG_HEAD.key ∈ fs.map Fld.key) : OnlyFields s (edge src was t) fs := fun g hg => by
  obtain ⟨_, _, _, he⟩ := edge_cases src was t
  rw [he g (fun e => hg (e ▸ hf)), h g hg]

theorem only_raise {s t : State} {fs : List Fld} {e : EvReg} {i : Nat} (h : OnlyFields s t fs)
    (hf : e.evt.key ∈ fs.map Fld.key) (hl : F.EVT_LOG_HEAD.key ∈ fs.map Fld.key) : OnlyFields s (raise e i t) fs :=
  only_edge (only_put h hf) hl

theorem only_ite {s t u : State} {fs : List Fld} {c : Prop} [Decidable c] (h : OnlyFields s t fs) (k : OnlyFields s u fs) :
    OnlyFields s (if c then t else u) fs := by split <;> assumption

/-! ### Nothing but some fields -/

theorem within_refl (s : State) (fs : List Fld) : Within s s fs := ⟨rfl, only_refl s fs⟩

theorem within_trans {s t u : State} {fs : List Fld} (h : Within s t fs) (k : Within t u fs) : Within s u fs :=
  ⟨k.1.trans h.1, only_trans h.2 k.2⟩

theorem within_put {s t : State} {fs : List Fld} {f : Fld} {v : Nat} (h : Within s t fs) (hf : f.key ∈ fs.map Fld.key) :
    Within s (put f v t) fs := ⟨h.1, only_put h.2 hf⟩

theorem within_putAll {s t : State} {fs : List Fld} {l : List (Fld × Nat)} (h : Within s t fs)
    (hl : ∀ p ∈ l, p.1.key ∈ fs.map Fld.key) : Within s (putAll l t) fs := ⟨(inner_putAll l t).trans h.1, only_putAll h.2 hl⟩

theorem within_raise {s t : State} {fs : List Fld} {e : EvReg} {i : Nat} (h : Within s t fs)
    (hf : e.evt.key ∈ fs.map Fld.key) (hl : F.EVT_LOG_HEAD.key ∈ fs.map Fld.key) : Within s (raise e i t) fs :=
  ⟨(inner_raise e i t).trans h.1, only_raise h.2 hf hl⟩

theorem within_ite {s t u : State} {fs : List Fld} {c : Prop} [Decidable c] (h : Within s t fs) (k : Within s u fs) :
    Within s (if c then t else u) fs := by split <;> assumption

/-! ### Units that exist -/

theorem headInst_lt {s : State} {h : Nat} (hh : headInst s h = true) : h < 64 := by
  simp only [headInst, Bool.and_eq_true, decide_eq_true_eq] at hh; exact hh.1
theorem bayInst_lt {s : State} {b : Nat} (hb : bayInst s b = true) : b < 32 := by
  simp only [bayInst, Bool.and_eq_true, decide_eq_true_eq] at hb; exact hb.1
theorem carInst_lt {s : State} {c : Nat} (hc : carInst s c = true) : c < 4 := by
  simp only [carInst, Bool.and_eq_true, decide_eq_true_eq] at hc; exact hc.1
theorem ddrInst_lt {s : State} {c : Nat} (hc : ddrInst s c = true) : c < 16 := by
  simp only [ddrInst, Bool.and_eq_true, decide_eq_true_eq] at hc; exact hc.1

end Sys2Proof.Laws
end

