-- ==== Sys2Proof/Laws/Kept.lean ====
section
/-! SUPPORT. What every operation and every command keeps. `Store` is what the laws follow through a step; a property of it that is
kept by the elementary writes (`Keeps`) is kept by every shared operation and so by every command. -/

namespace Sys2Proof.Laws

open Sys2Proof.Machine

/-- The parts of the state that the laws follow. -/
structure Store where
  regs     : Map Nat
  loaded   : Map Nat
  force    : Map Nat
  pending  : List Instr
  log      : List LogEntry
  faultLog : List FaultRecord
  words    : Map Nat
  valid    : Map Nat
  fuses    : Map Nat

def storeOf (s : State) : Store :=
  ⟨s.regs, s.loaded, s.force, s.pending, s.log, s.faultLog, s.buf.words, s.buf.valid, s.fuse.words⟩

/-- A property of the store holds in a state, in the state an outcome gives. -/
def Kept (P : Store → Prop) (s : State) : Prop := P (storeOf s)
def KeptOut (P : Store → Prop) (o : Out) : Prop := ∀ t, o = .next t → Kept P t

/-- A property that the elementary writes of the store keep. -/
structure Keeps (P : Store → Prop) : Prop where
  reg      : ∀ x k v, P x → P { x with regs := mapPut x.regs k v }
  force    : ∀ x k v, P x → P { x with force := mapPut x.force k v }
  loaded   : ∀ x k v, P x → P { x with loaded := mapPut x.loaded k v }
  unload   : ∀ x lo hi, P x → P { x with loaded := mapEraseRange x.loaded lo hi }
  window   : ∀ x lo hi, P x → P { x with regs := mapEraseRange x.regs lo hi, force := mapEraseRange x.force lo hi }
  log      : ∀ x (l : List LogEntry), l.length ≤ 1024 → P x → P { x with log := l }
  faultLog : ∀ x (l : List FaultRecord), l.length ≤ 64 → P x → P { x with faultLog := l }
  word     : ∀ x k v, P x → P { x with words := mapPutD (fun _ => 0) x.words k v }
  valid    : ∀ x k v, P x → P { x with valid := mapPutD (fun _ => 0) x.valid k v }
  invalid  : ∀ x lo hi, P x → P { x with valid := mapEraseRange x.valid lo hi }
  clear    : ∀ x, P x → P { x with valid := [] }
  blow     : ∀ x i m, P x → P { x with fuses := mapPutD (fun _ => 0) x.fuses i (trunc 64 (mapGet (fun _ => 0) x.fuses i ||| m)) }
  reset    : ∀ x, P x → P { x with regs := [], loaded := [], force := [], log := [], faultLog := [], words := [], valid := [] }

variable {P : Store → Prop}

theorem ite_kept {c : Prop} [Decidable c] {a b : State} (ha : Kept P a) (hb : Kept P b) : Kept P (if c then a else b) := by
  split <;> assumption
theorem iteO_kept {c : Prop} [Decidable c] {a b : Out} (ha : KeptOut P a) (hb : KeptOut P b) : KeptOut P (if c then a else b) := by
  split <;> assumption
theorem iteSnd_kept {α : Type} {c : Prop} [Decidable c] {a b : α × State} (ha : Kept P a.2) (hb : Kept P b.2) :
    Kept P (if c then a else b).2 := by split <;> assumption
theorem ite3_kept {α β : Type} {c : Prop} [Decidable c] {a b : α × β × State} (ha : Kept P a.2.2) (hb : Kept P b.2.2) :
    Kept P (if c then a else b).2.2 := by split <;> assumption
theorem next_kept {a : State} (ha : Kept P a) : KeptOut P (.next a) := fun _ h => by cases h; exact ha
theorem fault_kept {r : Fault} : KeptOut P (.fault r) := fun _ h => by cases h
theorem foldl_kept {α : Type} {g : State → α → State} {l : List α} {s : State} (hg : ∀ t x, Kept P t → Kept P (g t x)) (h : Kept P s) :
    Kept P (l.foldl g s) := by
  induction l generalizing s with
  | nil => exact h
  | cons a l ih => exact ih (hg _ _ h)
theorem foldlSnd_kept {α β : Type} {g : β × State → α → β × State} {l : List α} {a : β × State}
    (hg : ∀ t x, Kept P t.2 → Kept P (g t x).2) (h : Kept P a.2) : Kept P (l.foldl g a).2 := by
  induction l generalizing a with
  | nil => exact h
  | cons x l ih => exact ih (hg _ _ h)
theorem foldlFst_kept {α β : Type} {g : State × β → α → State × β} {l : List α} {a : State × β}
    (hg : ∀ t x, Kept P t.1 → Kept P (g t x).1) (h : Kept P a.1) : Kept P (l.foldl g a).1 := by
  induction l generalizing a with
  | nil => exact h
  | cons x l ih => exact ih (hg _ _ h)

/-- A state that differs only outside the store. -/
theorem lit_kept {s t : State} (h : Kept P s) (h1 : t.regs = s.regs) (h2 : t.loaded = s.loaded) (h3 : t.force = s.force)
    (h4 : t.pending = s.pending) (h5 : t.log = s.log) (h6 : t.faultLog = s.faultLog) (h7 : t.buf.words = s.buf.words)
    (h8 : t.buf.valid = s.buf.valid) (h9 : t.fuse.words = s.fuse.words) : Kept P t := by
  have e : storeOf t = storeOf s := by simp only [storeOf, h1, h2, h3, h4, h5, h6, h7, h8, h9]
  simpa only [Kept, e] using h

theorem put_kept (K : Keeps P) {f v s} (h : Kept P s) : Kept P (put f v s) := K.reg _ _ _ h
theorem load_kept (K : Keeps P) {f v s} (h : Kept P s) : Kept P (load f v s) := K.loaded _ _ _ h
theorem takeForce_kept (K : Keeps P) {f s} (h : Kept P s) : Kept P (takeForce f s) := K.force _ _ _ h
theorem resetWindow_kept (K : Keeps P) {lo hi s} (h : Kept P s) : Kept P (resetWindow lo hi s) := K.window _ _ _ h
theorem putAll_kept (K : Keeps P) {l : List (Fld × Nat)} {s} (h : Kept P s) : Kept P (putAll l s) := by
  induction l generalizing s with
  | nil => exact h
  | cons a l ih => exact ih (put_kept K h)
theorem takeForces_kept (K : Keeps P) {l : List Fld} {s} (h : Kept P s) : Kept P (takeForces l s) := by
  induction l generalizing s with
  | nil => exact h
  | cons a l ih => exact ih (takeForce_kept K h)
theorem drawFree_kept (_K : Keeps P) {w s} (h : Kept P s) : Kept P (drawFree w s).2 := lit_kept h rfl rfl rfl rfl rfl rfl rfl rfl rfl
theorem when_kept (_K : Keeps P) {p : Bool} {f : State → State} {s} (hf : ∀ t, Kept P t → Kept P (f t)) (h : Kept P s) : Kept P (when p f s) := by
  unfold when
  exact ite_kept (hf _ h) h
theorem forAll_kept (_K : Keeps P) {l : List Nat} {f : Nat → State → State} {s} (hf : ∀ i t, Kept P t → Kept P (f i t)) (h : Kept P s) :
    Kept P (forAll l f s) := by
  unfold forAll
  exact foldl_kept (fun t i ht => hf i t ht) h
theorem logAppend_kept (K : Keeps P) {src s} (h : Kept P s) : Kept P (logAppend src s) := by
  unfold logAppend
  exact put_kept K (K.log _ _ (List.length_take_le ..) h)

end Sys2Proof.Laws
end

