-- ==== Sys2Proof/Laws/KeptLibrary.lean ====
section
/-! SUPPORT. A property that the elementary writes keep is kept by every operation and command of event flags, the disc format, the layout of the library, its pages, the mechanisms and parity. -/

namespace Sys2Proof.Laws

open Sys2Proof.Machine

variable {P : Store → Prop}

theorem putI_kept (K : Keeps P) {v0 v1 v2} (h : Kept P v2) :
    Kept P (Machine.putI v0 v1 v2) := by
  unfold Machine.putI
  exact (put_kept K h)

theorem putB_kept (K : Keeps P) {v0 v1 v2} (h : Kept P v2) :
    Kept P (Machine.putB v0 v1 v2) := by
  unfold Machine.putB
  exact (put_kept K h)

theorem bump_kept (K : Keeps P) {v0 v1 v2} (h : Kept P v2) :
    Kept P (Machine.bump v0 v1 v2) := by
  unfold Machine.bump
  exact (put_kept K h)

theorem peak_kept (K : Keeps P) {v0 v1 v2} (h : Kept P v2) :
    Kept P (Machine.peak v0 v1 v2) := by
  unfold Machine.peak
  exact (put_kept K h)

theorem clearAll_kept (K : Keeps P) {v0 v1} (h : Kept P v1) :
    Kept P (Machine.clearAll v0 v1) := by
  unfold Machine.clearAll
  exact (putAll_kept K h)

theorem putFree_kept (K : Keeps P) {v0 v1} (h : Kept P v1) :
    Kept P (Machine.putFree v0 v1) := by
  unfold Machine.putFree
  exact (put_kept K (drawFree_kept K h))

theorem unitReset_kept (K : Keeps P) {v0} (h : Kept P v0) :
    Kept P (Machine.unitReset v0) := by
  unfold Machine.unitReset
  exact (put_kept K h)

theorem putBit_kept (K : Keeps P) {v0 v1 v2 v3} (h : Kept P v3) :
    Kept P (Machine.putBit v0 v1 v2 v3) := by
  unfold Machine.putBit
  extract_lets w4
  exact (put_kept K h)

theorem edge_kept (K : Keeps P) {v0 v1 v2} (h : Kept P v2) :
    Kept P (Machine.edge v0 v1 v2) := by
  unfold Machine.edge
  refine ite_kept ?_ ?_
  · exact (logAppend_kept K h)
  · exact h

theorem edges_kept (K : Keeps P) {v0 v1} (h : Kept P v1) :
    Kept P (Machine.edges v0 v1) := by
  unfold Machine.edges
  exact (forAll_kept K (fun a2 a3 h4 => (edge_kept K h4)) h)

theorem raise_kept (K : Keeps P) {v0 v1 v2} (h : Kept P v2) :
    Kept P (Machine.raise v0 v1 v2) := by
  unfold Machine.raise
  exact (edge_kept K (put_kept K h))

theorem raises_kept (K : Keeps P) {e l s} (h : Kept P s) : Kept P (Machine.raises e l s) := by
  induction l generalizing s with
  | nil => exact h
  | cons i l ih => exact ih (raise_kept K h)

theorem openWindow_kept (K : Keeps P) {v0 v1 v2 v3} (h : Kept P v3) :
    Kept P (Machine.openWindow v0 v1 v2 v3) := by
  unfold Machine.openWindow
  exact (bump_kept K (bump_kept K (lit_kept h rfl rfl rfl rfl rfl rfl rfl rfl rfl)))

theorem closeWindow_kept (K : Keeps P) {kind inst outcome s} (h : Kept P s) :
    Kept P (Machine.closeWindow kind inst outcome s) := by
  unfold Machine.closeWindow
  split
  · exact h
  · exact put_kept K (K.faultLog _ _ (List.length_take_le ..) h)

theorem closeAllWindows_kept (K : Keeps P) {v0 v1} (h : Kept P v1) :
    Kept P (Machine.closeAllWindows v0 v1) := by
  unfold Machine.closeAllWindows
  exact (foldl_kept (fun a2 a3 h4 => (closeWindow_kept K h4)) h)

theorem unexpose_kept (_K : Keeps P) {v0 v1 v2} (h : Kept P v2) :
    Kept P (Machine.unexpose v0 v1 v2) := by
  unfold Machine.unexpose
  exact (lit_kept h rfl rfl rfl rfl rfl rfl rfl rfl rfl)

theorem post_kept (_K : Keeps P) {v0 v1} (h : Kept P v1) :
    Kept P (Machine.post v0 v1) := by
  unfold Machine.post
  exact (lit_kept h rfl rfl rfl rfl rfl rfl rfl rfl rfl)

theorem putFeature_kept (_K : Keeps P) {v0 v1 v2 v3} (h : Kept P v3) :
    Kept P (Machine.putFeature v0 v1 v2 v3) := by
  unfold Machine.putFeature
  exact (lit_kept h rfl rfl rfl rfl rfl rfl rfl rfl rfl)

theorem notifyFn_kept (K : Keeps P) {v0 v1 v2} (h : Kept P v2) :
    Kept P (Machine.notifyFn v0 v1 v2) := by
  unfold Machine.notifyFn
  refine ite_kept ?_ ?_
  · exact h
  · split
    · exact (lit_kept h rfl rfl rfl rfl rfl rfl rfl rfl rfl)
    · exact (post_kept K (lit_kept h rfl rfl rfl rfl rfl rfl rfl rfl rfl))

theorem notify_kept (K : Keeps P) {v0 v1} (h : Kept P v1) :
    Kept P (Machine.notify v0 v1) := by
  unfold Machine.notify
  exact (notifyFn_kept K (notifyFn_kept K h))

theorem pageRead_kept (_K : Keeps P) {v0 v1 v2} (h : Kept P v2) :
    Kept P (Machine.pageRead v0 v1 v2) := by
  unfold Machine.pageRead
  exact (lit_kept h rfl rfl rfl rfl rfl rfl rfl rfl rfl)

theorem pageChanged_kept (_K : Keeps P) {v0 v1} (h : Kept P v1) :
    Kept P (Machine.pageChanged v0 v1) := by
  unfold Machine.pageChanged
  exact (lit_kept h rfl rfl rfl rfl rfl rfl rfl rfl rfl)

theorem putDisc_kept (_K : Keeps P) {v0 v1 v2} (h : Kept P v2) :
    Kept P (Machine.putDisc v0 v1 v2) := by
  unfold Machine.putDisc
  exact (lit_kept h rfl rfl rfl rfl rfl rfl rfl rfl rfl)

theorem updDisc_kept (K : Keeps P) {v0 v1 v2} (h : Kept P v2) :
    Kept P (Machine.updDisc v0 v1 v2) := by
  unfold Machine.updDisc
  exact (putDisc_kept K h)

theorem putSet_kept (_K : Keeps P) {v0 v1 v2} (h : Kept P v2) :
    Kept P (Machine.putSet v0 v1 v2) := by
  unfold Machine.putSet
  exact (lit_kept h rfl rfl rfl rfl rfl rfl rfl rfl rfl)

theorem updSet_kept (K : Keeps P) {v0 v1 v2} (h : Kept P v2) :
    Kept P (Machine.updSet v0 v1 v2) := by
  unfold Machine.updSet
  exact (putSet_kept K h)

theorem updMount_kept (_K : Keeps P) {v0 v1 v2} (h : Kept P v2) :
    Kept P (Machine.updMount v0 v1 v2) := by
  unfold Machine.updMount
  exact (lit_kept h rfl rfl rfl rfl rfl rfl rfl rfl rfl)

theorem serveDisc_kept (K : Keeps P) {v0 v1} (h : Kept P v1) :
    Kept P (Machine.serveDisc v0 v1) := by
  unfold Machine.serveDisc
  split
  · exact h
  · exact (updMount_kept K h)

theorem refreshArbour_kept (K : Keeps P) {v0 v1} (h : Kept P v1) :
    Kept P (Machine.refreshArbour v0 v1) := by
  unfold Machine.refreshArbour
  extract_lets old2 new3 s4
  have h5 : Kept P s4 := (putAll_kept K h)
  clear_value s4
  refine ite_kept ?_ ?_
  · exact h5
  · exact (notify_kept K (pageChanged_kept K (raise_kept K h5)))

theorem refreshArbours_kept (K : Keeps P) {v0} (h : Kept P v0) :
    Kept P (Machine.refreshArbours v0) := by
  unfold Machine.refreshArbours
  exact (put_kept K (forAll_kept K (fun a1 a2 h3 => (refreshArbour_kept K h3)) h))

theorem markPage_kept (_K : Keeps P) {v0 v1} (h : Kept P v1) :
    Kept P (Machine.markPage v0 v1) := by
  unfold Machine.markPage
  exact (lit_kept h rfl rfl rfl rfl rfl rfl rfl rfl rfl)

theorem journal_kept (_K : Keeps P) {v0 v1} (h : Kept P v1) :
    Kept P (Machine.journal v0 v1) := by
  unfold Machine.journal
  exact (lit_kept h rfl rfl rfl rfl rfl rfl rfl rfl rfl)

theorem setGrain_kept (K : Keeps P) {v0 v1 v2} (h : Kept P v2) :
    Kept P (Machine.setGrain v0 v1 v2) := by
  unfold Machine.setGrain
  exact (markPage_kept K (lit_kept h rfl rfl rfl rfl rfl rfl rfl rfl rfl))

theorem setFrag_kept (K : Keeps P) {v0 v1 v2 v3} (h : Kept P v3) :
    Kept P (Machine.setFrag v0 v1 v2 v3) := by
  unfold Machine.setFrag
  exact (markPage_kept K (lit_kept h rfl rfl rfl rfl rfl rfl rfl rfl rfl))

theorem fragMarks_kept (K : Keeps P) {v0} (h : Kept P v0) :
    Kept P (Machine.fragMarks v0) := by
  unfold Machine.fragMarks
  extract_lets used1 pool2 s3 s4
  have h5 : Kept P s3 := (put_kept K h)
  clear_value s3
  have h6 : Kept P s4 := by
    unfold s4
    refine ite_kept ?_ ?_
    · refine ite_kept ?_ ?_
      · exact h5
      · exact (raise_kept K (put_kept K h5))
    · refine ite_kept ?_ ?_
      · exact (put_kept K h5)
      · exact h5
  clear_value s4
  refine ite_kept ?_ ?_
  · refine ite_kept ?_ ?_
    · exact h6
    · exact (raise_kept K (put_kept K h6))
  · exact (put_kept K h6)

theorem fragGrain_kept (K : Keeps P) {v0 v1} (h : Kept P v1) :
    Kept P (Machine.fragGrain v0 v1) := by
  unfold Machine.fragGrain
  split
  · exact h
  · extract_lets t7 zsrc8 s9
    have h10 : Kept P s9 := (forAll_kept K (fun a11 a12 h13 => (setFrag_kept K h13)) (lit_kept h rfl rfl rfl rfl rfl rfl rfl rfl rfl))
    clear_value s9
    exact (fragMarks_kept K (setGrain_kept K h10))

theorem unfragGrain_kept (K : Keeps P) {v0 v1 v2 v3} (h : Kept P v3) :
    Kept P (Machine.unfragGrain v0 v1 v2 v3) := by
  unfold Machine.unfragGrain
  extract_lets s4 zsrc5
  have h6 : Kept P s4 := (forAll_kept K (fun a7 a8 h9 => (setFrag_kept K h9)) h)
  clear_value s4
  exact (fragMarks_kept K (setGrain_kept K (lit_kept h6 rfl rfl rfl rfl rfl rfl rfl rfl rfl)))

theorem tidyGrain_kept (K : Keeps P) {v0 v1} (h : Kept P v1) :
    Kept P (Machine.tidyGrain v0 v1) := by
  unfold Machine.tidyGrain
  split
  · refine ite_kept ?_ ?_
    · exact (unfragGrain_kept K h)
    · split
      · refine ite_kept ?_ ?_
        · exact (unfragGrain_kept K h)
        · exact h
      · exact h
  · exact h

theorem liveDelta_kept (K : Keeps P) {v0 v1 v2 v3} (h : Kept P v3) :
    Kept P (Machine.liveDelta v0 v1 v2 v3) := by
  unfold Machine.liveDelta
  split
  · exact (updSet_kept K h)
  · exact h

theorem noteUnavail_kept (_K : Keeps P) {v0 v1 v2 v3 v4} (h : Kept P v4) :
    Kept P (Machine.noteUnavail v0 v1 v2 v3 v4) := by
  unfold Machine.noteUnavail
  exact (lit_kept h rfl rfl rfl rfl rfl rfl rfl rfl rfl)

theorem setBlock_kept (K : Keeps P) {v0 v1 v2 v3 v4} (h : Kept P v4) :
    Kept P (Machine.setBlock v0 v1 v2 v3 v4) := by
  unfold Machine.setBlock
  extract_lets old5 s6 s7
  have h8 : Kept P s6 := (liveDelta_kept K (liveDelta_kept K (fragGrain_kept K h)))
  clear_value s6
  have h9 : Kept P s7 := by
    unfold s7
    split
    · exact (setFrag_kept K h8)
    · exact h8
  clear_value s7
  refine ite_kept ?_ ?_
  · exact h
  · exact (tidyGrain_kept K (noteUnavail_kept K h9))

theorem setWholeGrain_kept (K : Keeps P) {v0 v1 v2 v3} (h : Kept P v3) :
    Kept P (Machine.setWholeGrain v0 v1 v2 v3) := by
  unfold Machine.setWholeGrain
  extract_lets s4 s5 s6
  have h7 : Kept P s4 := (forAll_kept K (fun a8 a9 h10 => (liveDelta_kept K h10)) h)
  clear_value s4
  have h11 : Kept P s5 := by
    unfold s5
    split
    · exact (unfragGrain_kept K h7)
    · exact (setGrain_kept K h7)
  clear_value s5
  have h17 : Kept P s6 := (liveDelta_kept K h11)
  clear_value s6
  exact (forAll_kept K (fun a18 a19 h20 => (noteUnavail_kept K h20)) h17)

theorem markSet_kept (K : Keeps P) {v0 v1 v2 v3} (h : Kept P v3) :
    Kept P (Machine.markSet v0 v1 v2 v3) := by
  unfold Machine.markSet
  extract_lets keys4
  exact (forAll_kept K (fun a5 a6 h7 => (forAll_kept K (fun a8 a9 h10 => by
  split
  · refine ite_kept ?_ ?_
    · exact (setBlock_kept K h10)
    · exact h10
  · exact h10) h7)) h)

theorem headEvent_kept (K : Keeps P) {v0 v1} (h : Kept P v1) :
    Kept P (Machine.headEvent v0 v1) := by
  unfold Machine.headEvent
  refine ite_kept ?_ ?_
  · exact (logAppend_kept K h)
  · exact h

theorem writeDirectory_kept (K : Keeps P) {v0} (h : Kept P v0) :
    Kept P (Machine.writeDirectory v0) := by
  unfold Machine.writeDirectory
  extract_lets g1 d2 zsrc3 f4
  exact (notify_kept K (pageChanged_kept K (lit_kept h rfl rfl rfl rfl rfl rfl rfl rfl rfl)))

theorem reportCut_kept (K : Keeps P) {v0 v1 v2 v3} (h : Kept P v3) :
    Kept P (Machine.reportCut v0 v1 v2 v3) := by
  unfold Machine.reportCut
  extract_lets q4 lost5 zsrc6 s7
  have h8 : Kept P s7 := (pageChanged_kept K (lit_kept h rfl rfl rfl rfl rfl rfl rfl rfl rfl))
  clear_value s7
  refine ite_kept ?_ ?_
  · exact (notify_kept K h8)
  · exact h8

theorem formSet_kept (K : Keeps P) {v0 v1 v2} (h : Kept P v2) :
    Kept P (Machine.formSet v0 v1 v2) := by
  unfold Machine.formSet
  extract_lets w3 hd4 ctr5 sid6 zsrc7
  refine ite_kept ?_ ?_
  · exact (raise_kept K (raise_kept K h))
  · split
    · exact (raise_kept K h)
    · extract_lets s13 s14
      have h15 : Kept P s13 := (putSet_kept K (lit_kept h rfl rfl rfl rfl rfl rfl rfl rfl rfl))
      clear_value s13
      have h16 : Kept P s14 := (forAll_kept K (fun a17 a18 h19 => (updDisc_kept K h19)) h15)
      clear_value s14
      exact (refreshArbours_kept K (raise_kept K (writeDirectory_kept K h16)))

theorem sealSet_kept (K : Keeps P) {v0 v1} (h : Kept P v1) :
    Kept P (Machine.sealSet v0 v1) := by
  unfold Machine.sealSet
  extract_lets d2 s3 s4
  have h5 : Kept P s3 := (putSet_kept K h)
  clear_value s3
  have h6 : Kept P s4 := (forAll_kept K (fun a7 a8 h9 => (updDisc_kept K h9)) h5)
  clear_value s4
  exact (refreshArbours_kept K (raise_kept K (writeDirectory_kept K h6)))

theorem issueNext_kept (_K : Keeps P) {v0} (h : Kept P v0) :
    Kept P (Machine.issueNext v0) := by
  unfold Machine.issueNext
  exact (lit_kept h rfl rfl rfl rfl rfl rfl rfl rfl rfl)

theorem freePages_kept (_K : Keeps P) {v0 v1} (h : Kept P v1) :
    Kept P (Machine.freePages v0 v1) := by
  unfold Machine.freePages
  exact (lit_kept h rfl rfl rfl rfl rfl rfl rfl rfl rfl)

theorem sealRow_kept (K : Keeps P) {v0 v1 v2 v3} (h : Kept P v3) :
    Kept P (Machine.sealRow v0 v1 v2 v3) := by
  unfold Machine.sealRow
  split
  · exact h
  · extract_lets d9 kept10 dropped11 row12 rest13 cause14 others15 zsrc16 pad17 stamps18 w19 r20 padRows21 pads22 next23 s24 s25 s26 s27 s28 s29 s30
    have h31 : Kept P s24 := (putSet_kept K (lit_kept h rfl rfl rfl rfl rfl rfl rfl rfl rfl))
    clear_value s24
    have h32 : Kept P s25 := (put_kept K h31)
    clear_value s25
    have h33 : Kept P s26 := (bump_kept K (bump_kept K (bump_kept K (bump_kept K h32))))
    clear_value s26
    have h34 : Kept P s27 := by
      unfold s27
      refine ite_kept ?_ ?_
      · exact (bump_kept K h33)
      · refine ite_kept ?_ ?_
        · exact (bump_kept K h33)
        · exact h33
    clear_value s27
    have h35 : Kept P s28 := (forAll_kept K (fun a36 a37 h38 => (bump_kept K h38)) h34)
    clear_value s28
    have h39 : Kept P s29 := by
      unfold s29
      refine ite_kept ?_ ?_
      · exact (reportCut_kept K h35)
      · exact h35
    clear_value s29
    have h40 : Kept P s30 := (freePages_kept K h39)
    clear_value s30
    refine ite_kept ?_ ?_
    · exact h
    · refine ite_kept ?_ ?_
      · exact (freePages_kept K (bump_kept K (lit_kept h rfl rfl rfl rfl rfl rfl rfl rfl rfl)))
      · refine ite_kept ?_ ?_
        · exact (sealSet_kept K (updSet_kept K h40))
        · exact h40

theorem rowDurable_kept (K : Keeps P) {v0 v1 v2} (h : Kept P v2) :
    Kept P (Machine.rowDurable v0 v1 v2) := by
  unfold Machine.rowDurable
  extract_lets d3
  split
  · exact h
  · extract_lets s9
    have h10 : Kept P s9 := (forAll_kept K (fun a11 a12 h13 => by
      split
      · exact h13
      · split
        · exact h13
        · extract_lets here24
          refine ite_kept ?_ ?_
          · exact (setBlock_kept K h13)
          · exact h13) h)
    clear_value s9
    exact (journal_kept K (freePages_kept K (updSet_kept K h10)))

theorem placeBlocks_kept (_K : Keeps P) {v0 v1 v2 v3 v4 v5} (h : Kept P v5) :
    Kept P (Machine.placeBlocks v0 v1 v2 v3 v4 v5) := by
  unfold Machine.placeBlocks
  extract_lets add6 zsrc7
  refine ite_kept ?_ ?_
  · exact (lit_kept h rfl rfl rfl rfl rfl rfl rfl rfl rfl)
  · exact (lit_kept h rfl rfl rfl rfl rfl rfl rfl rfl rfl)

theorem rowDamaged_kept (K : Keeps P) {v0 v1 v2} (h : Kept P v2) :
    Kept P (Machine.rowDamaged v0 v1 v2) := by
  unfold Machine.rowDamaged
  extract_lets d3 s4
  have h5 : Kept P s4 := (updSet_kept K h)
  clear_value s4
  split
  · exact h
  · extract_lets again11
    refine ite_kept ?_ ?_
    · exact h5
    · exact (placeBlocks_kept K h5)

theorem moveOffline_kept (K : Keeps P) {v0} (h : Kept P v0) :
    Kept P (Machine.moveOffline v0) := by
  unfold Machine.moveOffline
  exact (foldl_kept (fun a1 a2 h3 => by
  extract_lets h4 zsrc5
  refine ite_kept ?_ ?_
  · exact h3
  · exact (placeBlocks_kept K (lit_kept h3 rfl rfl rfl rfl rfl rfl rfl rfl rfl))) h)

theorem retireSet_kept (K : Keeps P) {v0 v1} (h : Kept P v1) :
    Kept P (Machine.retireSet v0 v1) := by
  unfold Machine.retireSet
  extract_lets d2 s3 zsrc4 s5
  have h6 : Kept P s3 := (forAll_kept K (fun a7 a8 h9 => (updDisc_kept K h9)) h)
  clear_value s3
  have h10 : Kept P s5 := (lit_kept h6 rfl rfl rfl rfl rfl rfl rfl rfl rfl)
  clear_value s5
  exact (refreshArbours_kept K (raise_kept K (writeDirectory_kept K h10)))

theorem closePages_kept (_K : Keeps P) {v0 v1} (h : Kept P v1) :
    Kept P (Machine.closePages v0 v1) := by
  unfold Machine.closePages
  exact (lit_kept h rfl rfl rfl rfl rfl rfl rfl rfl rfl)

theorem checkpointAgain_kept (K : Keeps P) {v0 v1} (h : Kept P v1) :
    Kept P (Machine.checkpointAgain v0 v1) := by
  unfold Machine.checkpointAgain
  exact (closePages_kept K h)

theorem switchEpoch_kept (K : Keeps P) {v0 v1} (h : Kept P v1) :
    Kept P (Machine.switchEpoch v0 v1) := by
  unfold Machine.switchEpoch
  extract_lets e2 s3 zsrc4 s5
  have h6 : Kept P s3 := (closePages_kept K h)
  clear_value s3
  have h7 : Kept P s5 := (put_kept K (lit_kept h6 rfl rfl rfl rfl rfl rfl rfl rfl rfl))
  clear_value s5
  refine ite_kept ?_ ?_
  · exact (reportCut_kept K h7)
  · exact h7

theorem writeHeader_kept (_K : Keeps P) {v0 v1} (h : Kept P v1) :
    Kept P (Machine.writeHeader v0 v1) := by
  unfold Machine.writeHeader
  extract_lets v2 g3 h4 zsrc5
  exact (lit_kept h rfl rfl rfl rfl rfl rfl rfl rfl rfl)

theorem updateHeader_kept (K : Keeps P) {v0 v1} (h : Kept P v1) :
    Kept P (Machine.updateHeader v0 v1) := by
  unfold Machine.updateHeader
  extract_lets zsrc2 t3 zsrc4 zsrc5
  have h6 : Kept P t3 := (writeHeader_kept K h)
  clear_value t3
  refine ite_kept ?_ ?_
  · exact h
  · refine ite_kept ?_ ?_
    · exact (bump_kept K (lit_kept h rfl rfl rfl rfl rfl rfl rfl rfl rfl))
    · refine ite_kept ?_ ?_
      · exact (lit_kept h6 rfl rfl rfl rfl rfl rfl rfl rfl rfl)
      · exact h6

theorem putRaw_kept (K : Keeps P) {c o v s} (h : Kept P s) : Kept P (Machine.putRaw c o v s) := K.word _ _ _ h

theorem setValid_kept (K : Keeps P) {c o v s} (h : Kept P s) : Kept P (Machine.setValid c o v s) := K.valid _ _ _ h

theorem putLine_kept (_K : Keeps P) {v0 v1 v2} (h : Kept P v2) :
    Kept P (Machine.putLine v0 v1 v2) := by
  unfold Machine.putLine
  exact (lit_kept h rfl rfl rfl rfl rfl rfl rfl rfl rfl)

theorem countDirty_kept (K : Keeps P) {v0} (h : Kept P v0) :
    Kept P (Machine.countDirty v0) := by
  unfold Machine.countDirty
  exact (put_kept K h)

theorem refreshUnits_kept (K : Keeps P) {v0} (h : Kept P v0) :
    Kept P (Machine.refreshUnits v0) := by
  unfold Machine.refreshUnits
  extract_lets zsrc1 s2
  have h3 : Kept P s2 := (lit_kept h rfl rfl rfl rfl rfl rfl rfl rfl rfl)
  clear_value s2
  exact (put_kept K h3)

theorem releasePage_kept (K : Keeps P) {v0 v1} (h : Kept P v1) :
    Kept P (Machine.releasePage v0 v1) := by
  unfold Machine.releasePage
  extract_lets bits2 zsrc3
  have h4 : Kept P bits2 := (forAll_kept K (fun a5 a6 h7 => by
  extract_lets ba8
  split
  · split
    · extract_lets v17
      have h18 : Kept P v17 := (setValid_kept K h7)
      clear_value v17
      refine ite_kept ?_ ?_
      · exact (setValid_kept K h18)
      · exact h18) h)
  clear_value bits2
  refine ite_kept ?_ ?_
  · exact (countDirty_kept K (lit_kept h4 rfl rfl rfl rfl rfl rfl rfl rfl rfl))
  · exact h4

theorem settleReleases_kept (K : Keeps P) {v0} (h : Kept P v0) :
    Kept P (Machine.settleReleases v0) := by
  unfold Machine.settleReleases
  extract_lets used1 waits2 free3 zsrc4
  exact (foldl_kept (fun a5 a6 h7 => (releasePage_kept K h7)) (lit_kept h rfl rfl rfl rfl rfl rfl rfl rfl rfl))

theorem forgetClean_kept (K : Keeps P) {v0 v1} (h : Kept P v1) :
    Kept P (Machine.forgetClean v0 v1) := by
  unfold Machine.forgetClean
  exact (foldl_kept (fun a2 a3 h4 => (foldl_kept (fun a5 a6 h7 => (releasePage_kept K h7)) h4)) (lit_kept h rfl rfl rfl rfl rfl rfl rfl rfl rfl))

theorem keepClean_kept (K : Keeps P) {v0 v1 v2 v3} (h : Kept P v3) :
    Kept P (Machine.keepClean v0 v1 v2 v3) := by
  unfold Machine.keepClean
  extract_lets s4 zsrc5
  have h6 : Kept P s4 := (forgetClean_kept K h)
  clear_value s4
  exact (lit_kept h6 rfl rfl rfl rfl rfl rfl rfl rfl rfl)

theorem updHead_kept (_K : Keeps P) {v0 v1 v2} (h : Kept P v2) :
    Kept P (Machine.updHead v0 v1 v2) := by
  unfold Machine.updHead
  exact (lit_kept h rfl rfl rfl rfl rfl rfl rfl rfl rfl)

theorem updLink_kept (K : Keeps P) {v0 v1 v2} (h : Kept P v2) :
    Kept P (Machine.updLink v0 v1 v2) := by
  unfold Machine.updLink
  exact (updHead_kept K h)

theorem updServo_kept (K : Keeps P) {v0 v1 v2} (h : Kept P v2) :
    Kept P (Machine.updServo v0 v1 v2) := by
  unfold Machine.updServo
  exact (updHead_kept K h)

theorem updChan_kept (K : Keeps P) {v0 v1 v2} (h : Kept P v2) :
    Kept P (Machine.updChan v0 v1 v2) := by
  unfold Machine.updChan
  exact (updHead_kept K h)

theorem updWrite_kept (K : Keeps P) {v0 v1 v2} (h : Kept P v2) :
    Kept P (Machine.updWrite v0 v1 v2) := by
  unfold Machine.updWrite
  exact (updHead_kept K h)

theorem updPool_kept (_K : Keeps P) {v0 v1 v2} (h : Kept P v2) :
    Kept P (Machine.updPool v0 v1 v2) := by
  unfold Machine.updPool
  exact (lit_kept h rfl rfl rfl rfl rfl rfl rfl rfl rfl)

theorem updLoop_kept (K : Keeps P) {v0 v1 v2 v3} (h : Kept P v3) :
    Kept P (Machine.updLoop v0 v1 v2 v3) := by
  unfold Machine.updLoop
  exact (updChan_kept K h)

theorem permits_kept (K : Keeps P) {v0 v1} (h : Kept P v1) :
    Kept P (Machine.permits v0 v1) := by
  unfold Machine.permits
  exact (putB_kept K (putB_kept K (putB_kept K h)))

theorem drainOne_kept (K : Keeps P) {v0 v1 v2} (h : Kept P v2) :
    Kept P (Machine.drainOne v0 v1 v2) := by
  unfold Machine.drainOne
  extract_lets s3
  have h4 : Kept P s3 := (updChan_kept K h)
  clear_value s3
  split
  · exact h4
  · split
    · exact h4
    · exact (serveDisc_kept K (keepClean_kept K h4))

theorem releaseLost_kept (K : Keeps P) {v0 v1 v2} (h : Kept P v2) :
    Kept P (Machine.releaseLost v0 v1 v2) := by
  unfold Machine.releaseLost
  extract_lets zsrc3 s4
  have h5 : Kept P s4 := (lit_kept h rfl rfl rfl rfl rfl rfl rfl rfl rfl)
  clear_value s4
  exact (refreshArbours_kept K (forAll_kept K (fun a6 a7 h8 => by
  refine ite_kept ?_ ?_
  · exact (updChan_kept K h8)
  · exact h8) h5))

theorem poolDepth_kept (K : Keeps P) {v0 v1} (h : Kept P v1) :
    Kept P (Machine.poolDepth v0 v1) := by
  unfold Machine.poolDepth
  extract_lets p2 queue3 n4 high5
  exact (peak_kept K (put_kept K (updPool_kept K h)))

theorem dropJobs_kept (K : Keeps P) {v0 v1 v2} (h : Kept P v2) :
    Kept P (Machine.dropJobs v0 v1 v2) := by
  unfold Machine.dropJobs
  extract_lets keep3 f4
  exact (poolDepth_kept K (poolDepth_kept K (updPool_kept K (updPool_kept K h))))

theorem countPending_kept (K : Keeps P) {v0 v1} (h : Kept P v1) :
    Kept P (Machine.countPending v0 v1) := by
  unfold Machine.countPending
  exact (put_kept K h)

theorem dropSectors_kept (K : Keeps P) {v0 v1} (h : Kept P v1) :
    Kept P (Machine.dropSectors v0 v1) := by
  unfold Machine.dropSectors
  extract_lets parts2 zsrc3
  exact (countPending_kept K (updChan_kept K (foldl_kept (fun a4 a5 h6 => (dropJobs_kept K h6)) (lit_kept h rfl rfl rfl rfl rfl rfl rfl rfl rfl))))

theorem verifyFail_kept (K : Keeps P) {v0 v1 v2} (h : Kept P v2) :
    Kept P (Machine.verifyFail v0 v1 v2) := by
  unfold Machine.verifyFail
  extract_lets w3
  split
  · exact h
  · refine ite_kept ?_ ?_
    · exact h
    · exact (raise_kept K (bump_kept K (updWrite_kept K h)))

theorem abandonSlots_kept (K : Keeps P) {v0 v1 v2} (h : Kept P v2) :
    Kept P (Machine.abandonSlots v0 v1 v2) := by
  unfold Machine.abandonSlots
  extract_lets gone3 s4
  have h5 : Kept P s4 := (updChan_kept K h)
  clear_value s4
  refine ite_kept ?_ ?_
  · exact h
  · exact (countPending_kept K (bump_kept K (foldl_kept (fun a6 a7 h8 => by
      refine ite_kept ?_ ?_
      · exact (verifyFail_kept K (dropJobs_kept K h8))
      · exact (dropJobs_kept K h8)) h5)))

theorem clearConfirm_kept (K : Keeps P) {v0 v1} (h : Kept P v1) :
    Kept P (Machine.clearConfirm v0 v1) := by
  unfold Machine.clearConfirm
  exact (permits_kept K (putAll_kept K (updChan_kept K h)))

theorem noteHeadFailure_kept (K : Keeps P) {v0 v1} (h : Kept P v1) :
    Kept P (Machine.noteHeadFailure v0 v1) := by
  unfold Machine.noteHeadFailure
  split
  · exact h
  · exact (updDisc_kept K h)

theorem svState_kept (K : Keeps P) {v0 v1 v2} (h : Kept P v2) :
    Kept P (Machine.svState v0 v1 v2) := by
  unfold Machine.svState
  extract_lets old3 s4 s5 s6
  have h7 : Kept P s4 := (putB_kept K (put_kept K (updServo_kept K h)))
  clear_value s4
  have h8 : Kept P s5 := by
    unfold s5
    refine ite_kept ?_ ?_
    · exact (updServo_kept K h7)
    · exact h7
  clear_value s5
  have h9 : Kept P s6 := by
    unfold s6
    refine ite_kept ?_ ?_
    · exact (noteHeadFailure_kept K h8)
    · exact h8
  clear_value s6
  refine permits_kept K ?_
  refine ite_kept ?_ ?_
  · exact h9
  · exact (raise_kept K h9)

theorem svResult_kept (K : Keeps P) {v0 v1 v2} (h : Kept P v2) :
    Kept P (Machine.svResult v0 v1 v2) := by
  unfold Machine.svResult
  refine ite_kept ?_ ?_
  · exact (putAll_kept K h)
  · exact h

theorem closeGate_kept (K : Keeps P) {v0 v1} (h : Kept P v1) :
    Kept P (Machine.closeGate v0 v1) := by
  unfold Machine.closeGate
  extract_lets opened2
  exact (put_kept K (updWrite_kept K h))

theorem retractHead_kept (K : Keeps P) {v0 v1 v2} (h : Kept P v2) :
    Kept P (Machine.retractHead v0 v1 v2) := by
  unfold Machine.retractHead
  extract_lets st3 s4 s5
  have h6 : Kept P s4 := (svResult_kept K h)
  clear_value s4
  have h7 : Kept P s5 := (updHead_kept K h6)
  clear_value s5
  refine ite_kept ?_ ?_
  · exact h
  · exact (svState_kept K (put_kept K (bump_kept K h7)))

theorem headLost_kept (K : Keeps P) {v0 v1} (h : Kept P v1) :
    Kept P (Machine.headLost v0 v1) := by
  unfold Machine.headLost
  extract_lets s2 s3
  have h4 : Kept P s2 := (svResult_kept K h)
  clear_value s2
  have h5 : Kept P s3 := (updHead_kept K h4)
  clear_value s3
  refine ite_kept ?_ ?_
  · exact (raise_kept K h)
  · exact (svState_kept K (put_kept K (raise_kept K h5)))

theorem leaveOff_kept (K : Keeps P) {v0 v1} (h : Kept P v1) :
    Kept P (Machine.leaveOff v0 v1) := by
  unfold Machine.leaveOff
  refine ite_kept ?_ ?_
  · exact (svState_kept K h)
  · exact h

theorem lanesUp_kept (K : Keeps P) {v0 v1} (h : Kept P v1) :
    Kept P (Machine.lanesUp v0 v1) := by
  unfold Machine.lanesUp
  extract_lets k2
  exact (put_kept K h)

theorem setLink_kept (K : Keeps P) {v0 v1 v2} (h : Kept P v2) :
    Kept P (Machine.setLink v0 v1 v2) := by
  unfold Machine.setLink
  extract_lets old3 s4 s5 s6
  have h7 : Kept P s4 := (put_kept K (updLink_kept K h))
  clear_value s4
  have h8 : Kept P s5 := by
    unfold s5
    refine ite_kept ?_ ?_
    · exact (putAll_kept K (lanesUp_kept K (updLink_kept K (updWrite_kept K h7))))
    · exact h7
  clear_value s5
  have h9 : Kept P s6 := by
    unfold s6
    refine ite_kept ?_ ?_
    · exact (headLost_kept K h8)
    · exact h8
  clear_value s6
  refine permits_kept K ?_
  refine ite_kept ?_ ?_
  · exact h9
  · exact (raise_kept K h9)

theorem sendLead_kept (K : Keeps P) {v0 v1 v2 v3 v4} (h : Kept P v4) :
    Kept P (Machine.sendLead v0 v1 v2 v3 v4) := by
  unfold Machine.sendLead
  refine ite_kept ?_ ?_
  · exact (updLink_kept K h)
  · exact h

theorem sendMsg_kept (K : Keeps P) {v0 v1 v2 v3} (h : Kept P v3) :
    Kept P (Machine.sendMsg v0 v1 v2 v3) := by
  unfold Machine.sendMsg
  exact (sendLead_kept K h)

theorem sendAdc_kept (K : Keeps P) {v0 v1 v2 v3 v4} (h : Kept P v4) :
    Kept P (Machine.sendAdc v0 v1 v2 v3 v4) := by
  unfold Machine.sendAdc
  extract_lets sf5
  refine ite_kept ?_ ?_
  · exact (updLink_kept K (sendLead_kept K h))
  · exact h

theorem sendLane_kept (K : Keeps P) {v0 v1 v2 v3 v4} (h : Kept P v4) :
    Kept P (Machine.sendLane v0 v1 v2 v3 v4) := by
  unfold Machine.sendLane
  extract_lets sf5
  refine ite_kept ?_ ?_
  · exact (updLink_kept K (sendLead_kept K h))
  · exact h

theorem trainFail_kept (K : Keeps P) {v0 v1} (h : Kept P v1) :
    Kept P (Machine.trainFail v0 v1) := by
  unfold Machine.trainFail
  extract_lets n2 s3
  have h4 : Kept P s3 := (updLink_kept K h)
  clear_value s3
  refine ite_kept ?_ ?_
  · exact (setLink_kept K h4)
  · exact (raise_kept K (setLink_kept K h4))

theorem parStatus_kept (K : Keeps P) {v0} (h : Kept P v0) :
    Kept P (Machine.parStatus v0) := by
  unfold Machine.parStatus
  extract_lets s1
  have h2 : Kept P s1 := (putAll_kept K h)
  clear_value s1
  exact (forAll_kept K (fun a3 a4 h5 => (putB_kept K h5)) h2)

end Sys2Proof.Laws
end

