-- ==== Sys2Proof/Laws/KeptBuffer.lean ====
section
/-! SUPPORT. A property that the elementary writes keep is kept by every operation and command of the buffer memory and the map cache. -/

namespace Sys2Proof.Laws

open Sys2Proof.Machine

variable {P : Store → Prop}

theorem countCorrection_kept (K : Keeps P) {c dev s} (h : Kept P s) : Kept P (Machine.countCorrection c dev s) := by
  unfold Machine.countCorrection
  extract_lets n devs most times z s1 s2 s3
  clear_value devs most times
  have h3 : Kept P s3 := raise_kept K (bump_kept K (putAll_kept K (lit_kept h rfl rfl rfl rfl rfl rfl rfl rfl rfl)))
  clear_value s3
  exact ite_kept (raise_kept K h3) h3

theorem countUncorrectable_kept (K : Keeps P) {v0 v1} (h : Kept P v1) :
    Kept P (Machine.countUncorrectable v0 v1) := by
  unfold Machine.countUncorrectable
  extract_lets times2 zsrc3
  exact (raise_kept K (bump_kept K (lit_kept h rfl rfl rfl rfl rfl rfl rfl rfl rfl)))

theorem readCopy_kept (K : Keeps P) {v0 v1 v2 v3} (h : Kept P v3) :
    Kept P (Machine.readCopy v0 v1 v2 v3).2 := by
  unfold Machine.readCopy
  extract_lets o4 lo5 hi6 mask7
  split
  · exact h
  · split
    · exact h
    · exact (countCorrection_kept K (putRaw_kept K h))
    · exact (countUncorrectable_kept K h)

theorem busError_kept (K : Keeps P) {v0 v1 v2 v3} (h : Kept P v3) :
    Kept P (Machine.busError v0 v1 v2 v3) := by
  unfold Machine.busError
  extract_lets s4 s5
  have h6 : Kept P s4 := (raise_kept K h)
  clear_value s4
  have h7 : Kept P s5 := by
    unfold s5
    refine ite_kept ?_ ?_
    · exact h6
    · exact (putAll_kept K h6)
  clear_value s5
  refine ite_kept ?_ ?_
  · exact (raise_kept K (bump_kept K h7))
  · exact h7

theorem repairCopy_kept (K : Keeps P) {v0 v1 v2 v3} (h : Kept P v3) :
    Kept P (Machine.repairCopy v0 v1 v2 v3) := by
  unfold Machine.repairCopy
  exact (raise_kept K (bump_kept K (putRaw_kept K h)))

theorem loseBufPage_kept (K : Keeps P) {page s} (h : Kept P s) : Kept P (Machine.loseBufPage page s) := by
  unfold Machine.loseBufPage
  extract_lets rows s0 z s1
  have h0 : Kept P s0 := foldl_kept (fun _ _ h => rowDamaged_kept K h) h
  have h1 : Kept P s1 := lit_kept h0 rfl rfl rfl rfl rfl rfl rfl rfl rfl
  clear_value s1 s0
  split
  · exact h
  · extract_lets s2
    refine refreshUnits_kept K (freePages_kept K ?_)
    unfold s2
    split
    · exact h1
    · exact ite_kept (refreshArbours_kept K (setBlock_kept K h1)) h1

theorem dataAbort_kept (K : Keeps P) {v0 v1 v2 v3} (h : Kept P v3) :
    Kept P (Machine.dataAbort v0 v1 v2 v3) := by
  unfold Machine.dataAbort
  extract_lets s4 zsrc5
  have h6 : Kept P s4 := by
    unfold s4
    refine ite_kept ?_ ?_
    · exact h
    · exact (putAll_kept K h)
  clear_value s4
  exact (raise_kept K (lit_kept h6 rfl rfl rfl rfl rfl rfl rfl rfl rfl))

theorem onBusError_kept (K : Keeps P) {req pair ba s} (h : Kept P s) : Kept P (Machine.onBusError req pair ba s) := by
  unfold Machine.onBusError
  generalize Machine.primaryOf s ba = x
  obtain ⟨c, o⟩ := x
  have h1 : Kept P (Machine.busError req c (o / 128 * 128) s) := busError_kept K h
  exact ite_kept (dataAbort_kept K h1) (ite_kept (ite_kept (loseBufPage_kept K h1) h1)
    (ite_kept (releasePage_kept K (forgetClean_kept K h1)) h1))

theorem writeWord_kept (K : Keeps P) {v0 v1 v2 v3} (h : Kept P v3) :
    Kept P (Machine.writeWord v0 v1 v2 v3) := by
  unfold Machine.writeWord
  extract_lets w4
  exact (setValid_kept K (setValid_kept K (putRaw_kept K h)))

theorem standWord_kept (K : Keeps P) {v0 v1} (h : Kept P v1) :
    Kept P (Machine.standWord v0 v1) := by
  unfold Machine.standWord
  split
  · extract_lets w6
    split
    · exact h
    · refine ite_kept ?_ ?_
      · exact h
      · exact (writeWord_kept K h)

theorem oldWord_kept (K : Keeps P) {c o err alt s} (h : Kept P s) : Kept P (Machine.oldWord c o err alt s).2 := by
  unfold Machine.oldWord
  dsimp only
  refine iteSnd_kept h ?_
  have hr : Kept P (readCopy c (o / 128 * 128) err s).2 := readCopy_kept K h
  revert hr
  generalize readCopy c (o / 128 * 128) err s = r
  obtain ⟨_ | d, u⟩ := r
  · intro hr
    cases alt with
    | none => exact hr
    | some a =>
      have hv : Kept P (readCopy a.1 a.2.1 a.2.2 u).2 := readCopy_kept K hr
      revert hv
      dsimp only
      generalize readCopy a.1 a.2.1 a.2.2 u = r2
      obtain ⟨_ | d, v⟩ := r2
      · exact fun hv => hv
      · exact fun hv => repairCopy_kept K hv
  · exact fun hr => hr

theorem writeHalf_kept (K : Keeps P) {c o data err alt s} (h : Kept P s) : Kept P (Machine.writeHalf c o data err alt s).2 := by
  unfold Machine.writeHalf
  have hr : Kept P (oldWord c o err alt s).2 := oldWord_kept K h
  revert hr
  dsimp only
  generalize oldWord c o err alt s = r
  obtain ⟨_ | d, u⟩ := r
  · exact fun hr => hr
  · exact fun hr => setValid_kept K (putRaw_kept K hr)

theorem ddrWriteHalf_kept (K : Keeps P) {v0 v1 v2 v3 v4 v5 v6} (h : Kept P v6) :
    Kept P (Machine.ddrWriteHalf v0 v1 v2 v3 v4 v5 v6) := by
  unfold Machine.ddrWriteHalf
  extract_lets s7
  have h8 : Kept P s7 := (standWord_kept K h)
  clear_value s7
  split
  · split
    · extract_lets r17 r18 r19
      have h20 : Kept P r17.2 := by
        unfold r17
        split
        · exact (writeHalf_kept K h8)
        · exact h8
      have h23 : Kept P r18.2 := by
        unfold r18
        split
        · exact (writeHalf_kept K h20)
        · exact h20
      have h26 : Kept P r19.2 := (writeHalf_kept K h8)
      refine ite_kept ?_ ?_
      · refine ite_kept ?_ ?_
        · exact h23
        · exact (onBusError_kept K h23)
      · refine ite_kept ?_ ?_
        · refine ite_kept ?_ ?_
          · exact h26
          · exact (onBusError_kept K h26)
        · exact h8

theorem ddrWriteLine_kept (K : Keeps P) {v0 v1 v2} (h : Kept P v2) :
    Kept P (Machine.ddrWriteLine v0 v1 v2) := by
  unfold Machine.ddrWriteLine
  split
  · split
    · extract_lets s11
      have h12 : Kept P s11 := by
        unfold s11
        refine ite_kept ?_ ?_
        · exact (writeWord_kept K h)
        · exact h
      clear_value s11
      refine ite_kept ?_ ?_
      · exact (writeWord_kept K h12)
      · exact h12

theorem ddrRead_kept (K : Keeps P) {ba alt errP errM s} (h : Kept P s) : Kept P (Machine.ddrRead ba alt errP errM s).2 := by
  unfold Machine.ddrRead
  dsimp -zeta only
  extract_lets t useM first second
  have h1 : Kept P t := standWord_kept K h
  clear_value first second useM t
  refine iteSnd_kept (iteSnd_kept (readCopy_kept K h1) h1) ?_
  refine iteSnd_kept h1 ?_
  have hr : Kept P (readCopy first.1 first.2.1 first.2.2 t).2 := readCopy_kept K h1
  revert hr
  generalize readCopy first.1 first.2.1 first.2.2 t = r
  obtain ⟨_ | d, u⟩ := r
  · intro hr
    refine iteSnd_kept hr ?_
    have hv : Kept P (readCopy second.1 second.2.1 second.2.2 u).2 := readCopy_kept K hr
    revert hv
    generalize readCopy second.1 second.2.1 second.2.2 u = r2
    obtain ⟨_ | d, v⟩ := r2
    · exact fun hv => hv
    · exact fun hv => repairCopy_kept K hv
  · exact fun hr => hr

theorem bufWriteLine_kept (K : Keeps P) {v0 v1 v2} (h : Kept P v2) :
    Kept P (Machine.bufWriteLine v0 v1 v2) := by
  unfold Machine.bufWriteLine
  extract_lets la3 zsrc4 s5
  have h6 : Kept P s5 := (lit_kept h rfl rfl rfl rfl rfl rfl rfl rfl rfl)
  clear_value s5
  split
  · exact (putLine_kept K (ddrWriteLine_kept K h6))
  · exact (ddrWriteLine_kept K h6)

theorem bufWritePage_kept (K : Keeps P) {v0 v1 v2} (h : Kept P v2) :
    Kept P (Machine.bufWritePage v0 v1 v2) := by
  unfold Machine.bufWritePage
  exact (forAll_kept K (fun a3 a4 h5 => (bufWriteLine_kept K h5)) h)

theorem hurryDirty_kept (K : Keeps P) {v0 v1} (h : Kept P v1) :
    Kept P (Machine.hurryDirty v0 v1) := by
  unfold Machine.hurryDirty
  exact (forAll_kept K (fun a2 a3 h4 => by
  refine ite_kept ?_ ?_
  · exact (issueNext_kept K (updSet_kept K h4))
  · exact h4) h)

theorem losePair_kept (K : Keeps P) {v0 v1} (h : Kept P v1) :
    Kept P (Machine.losePair v0 v1) := by
  unfold Machine.losePair
  extract_lets pages2
  exact (foldl_kept (fun a3 a4 h5 => (loseBufPage_kept K h5)) h)

theorem channelFault_kept (K : Keeps P) {v0 v1 v2} (h : Kept P v2) :
    Kept P (Machine.channelFault v0 v1 v2) := by
  unfold Machine.channelFault
  extract_lets pair3 escalated4 s5 s6 s7 s8
  have h9 : Kept P s5 := (openWindow_kept K h)
  clear_value s5
  have h10 : Kept P s6 := (raise_kept K (putAll_kept K h9))
  clear_value s6
  have h11 : Kept P s7 := by
    unfold s7
    refine ite_kept ?_ ?_
    · exact (losePair_kept K h10)
    · exact h10
  clear_value s7
  have h12 : Kept P s8 := (forgetClean_kept K h11)
  clear_value s8
  exact (switchEpoch_kept K (hurryDirty_kept K (closeWindow_kept K h12)))

theorem execChannelFault_kept (K : Keeps P) {v0 v1 v2} (h : Kept P v2) :
    KeptOut P (Machine.execChannelFault v0 v1 v2) := by
  unfold Machine.execChannelFault
  extract_lets due3 zsrc4
  refine iteO_kept ?_ ?_
  · exact (next_kept (channelFault_kept K (lit_kept h rfl rfl rfl rfl rfl rfl rfl rfl rfl)))
  · exact (next_kept h)

theorem execChannelOffline_kept (K : Keeps P) {v0 v1} (h : Kept P v1) :
    KeptOut P (Machine.execChannelOffline v0 v1) := by
  unfold Machine.execChannelOffline
  refine iteO_kept ?_ ?_
  · exact (next_kept (channelFault_kept K h))
  · exact (next_kept h)

theorem clearChannel_kept (K : Keeps P) {c s} (h : Kept P s) : Kept P (Machine.clearChannel c s) := K.invalid _ _ _ h

theorem execChannelRetrain_kept (K : Keeps P) {v0 v1} (h : Kept P v1) :
    KeptOut P (Machine.execChannelRetrain v0 v1) := by
  unfold Machine.execChannelRetrain
  refine iteO_kept ?_ ?_
  · exact (next_kept (clearChannel_kept K (putAll_kept K (unitReset_kept K h))))
  · exact (next_kept h)

theorem execResyncDone_kept (K : Keeps P) {v0 v1} (h : Kept P v1) :
    KeptOut P (Machine.execResyncDone v0 v1) := by
  unfold Machine.execResyncDone
  extract_lets other2 s3 s4 s5
  have h6 : Kept P s3 := by
    unfold s3
    refine ite_kept ?_ ?_
    · exact (foldl_kept (fun a7 a8 h9 => (setValid_kept K (putRaw_kept K h9))) h)
    · exact h
  clear_value s3
  have h10 : Kept P s4 := (putAll_kept K h6)
  clear_value s4
  have h11 : Kept P s5 := by
    unfold s5
    refine ite_kept ?_ ?_
    · exact (put_kept K h10)
    · exact h10
  clear_value s5
  refine iteO_kept ?_ ?_
  · exact (next_kept (raise_kept K (unexpose_kept K h11)))
  · exact (next_kept h)

theorem clearSummary_kept (_K : Keeps P) {v0 v1 v2} (h : Kept P v2) :
    Kept P (Machine.clearSummary v0 v1 v2) := by
  unfold Machine.clearSummary
  extract_lets n3 keep4 zsrc5
  exact (lit_kept h rfl rfl rfl rfl rfl rfl rfl rfl rfl)

theorem scrubWord_kept (K : Keeps P) {c o errP errM s} (h : Kept P s) : Kept P (Machine.scrubWord c o errP errM s) := by
  unfold Machine.scrubWord
  extract_lets ba
  have hr : Kept P (readCopy c o errP (standWord ba s)).2 := readCopy_kept K (standWord_kept K h)
  revert hr
  generalize readCopy c o errP (standWord ba s) = r
  obtain ⟨_ | d, u⟩ := r
  · intro hr
    refine ite_kept ?_ (onBusError_kept K hr)
    have hv : Kept P (readCopy ((c + 8) % 16) (partnerOfs s o) errM u).2 := readCopy_kept K hr
    revert hv
    generalize readCopy ((c + 8) % 16) (partnerOfs s o) errM u = r2
    obtain ⟨_ | d, v⟩ := r2
    · exact fun hv => onBusError_kept K hv
    · exact fun hv => repairCopy_kept K hv
  · exact fun hr => hr

theorem execScrubRead_kept (K : Keeps P) {v0 v1 v2} (h : Kept P v2) :
    KeptOut P (Machine.execScrubRead v0 v1 v2) := by
  unfold Machine.execScrubRead
  extract_lets hours3 begins4 k5 zsrc6 s7 s8 upto9 s10 ends11 zsrc12 s13
  have h14 : Kept P s7 := by
    unfold s7
    refine ite_kept ?_ ?_
    · exact (lit_kept h rfl rfl rfl rfl rfl rfl rfl rfl rfl)
    · exact h
  clear_value s7
  have h15 : Kept P s8 := by
    unfold s8
    split
    · exact h14
    · exact (scrubWord_kept K h14)
  clear_value s8
  have h21 : Kept P s10 := (clearSummary_kept K h15)
  clear_value s10
  have h22 : Kept P s13 := (put_kept K (lit_kept h21 rfl rfl rfl rfl rfl rfl rfl rfl rfl))
  clear_value s13
  refine iteO_kept ?_ ?_
  · exact (next_kept h)
  · refine next_kept ?_
    refine ite_kept ?_ ?_
    · exact (raise_kept K (bump_kept K h22))
    · exact h22

theorem execClearDone_kept (K : Keeps P) {v0} (h : Kept P v0) :
    KeptOut P (Machine.execClearDone v0) := by
  unfold Machine.execClearDone
  refine iteO_kept ?_ ?_
  · exact (next_kept (raise_kept K (putAll_kept K h)))
  · exact (next_kept h)

theorem execRelease_kept (K : Keeps P) {v0 v1} (h : Kept P v1) :
    KeptOut P (Machine.execRelease v0 v1) := by
  unfold Machine.execRelease
  extract_lets s2 zsrc3
  have h4 : Kept P s2 := (putAll_kept K h)
  clear_value s2
  refine iteO_kept ?_ ?_
  · exact (next_kept h4)
  · refine iteO_kept ?_ ?_
    · exact (next_kept (lit_kept h4 rfl rfl rfl rfl rfl rfl rfl rfl rfl))
    · exact (next_kept (releasePage_kept K h4))

theorem execBufCmdRefused_kept (K : Keeps P) {v0 v1 v2} (h : Kept P v2) :
    KeptOut P (Machine.execBufCmdRefused v0 v1 v2) := by
  unfold Machine.execBufCmdRefused
  exact (next_kept (putAll_kept K h))

theorem diagEnd_kept (K : Keeps P) {v0 v1 v2} (h : Kept P v2) :
    Kept P (Machine.diagEnd v0 v1 v2) := by
  unfold Machine.diagEnd
  exact (raise_kept K (putAll_kept K h))

theorem diagRefused_kept (K : Keeps P) {v0} (h : Kept P v0) :
    Kept P (Machine.diagRefused v0) := by
  unfold Machine.diagRefused
  exact (put_kept K h)

theorem execWriteRaw_kept (K : Keeps P) {v0} (h : Kept P v0) :
    KeptOut P (Machine.execWriteRaw v0) := by
  unfold Machine.execWriteRaw
  extract_lets c1 data2 chk3
  refine iteO_kept ?_ ?_
  · exact (next_kept (diagEnd_kept K (setValid_kept K (setValid_kept K (putRaw_kept K h)))))
  · exact (next_kept (diagRefused_kept K h))

theorem putDiag_kept (K : Keeps P) {v0 v1} (h : Kept P v1) :
    Kept P (Machine.putDiag v0 v1) := by
  unfold Machine.putDiag
  exact (putAll_kept K h)

theorem execReadRaw_kept (K : Keeps P) {v0} (h : Kept P v0) :
    KeptOut P (Machine.execReadRaw v0) := by
  unfold Machine.execReadRaw
  refine iteO_kept ?_ ?_
  · exact (next_kept (diagEnd_kept K (putDiag_kept K h)))
  · exact (next_kept (diagRefused_kept K h))

theorem execDiagRead_kept (K : Keeps P) {v0} (h : Kept P v0) :
    KeptOut P (Machine.execDiagRead v0) := by
  unfold Machine.execDiagRead
  extract_lets w1
  refine iteO_kept ?_ ?_
  · refine next_kept ?_
    refine diagEnd_kept K ?_
    split
    · exact (put_kept K (putDiag_kept K h))
    · exact (putAll_kept K (putDiag_kept K h))
    · exact (put_kept K (putDiag_kept K h))
  · exact (next_kept (diagRefused_kept K h))

theorem execDiagReserved_kept (K : Keeps P) {v0} (h : Kept P v0) :
    KeptOut P (Machine.execDiagReserved v0) := by
  unfold Machine.execDiagReserved
  exact (next_kept (put_kept K (diagRefused_kept K h)))

theorem execBufClrCnt_kept (K : Keeps P) {v0} (h : Kept P v0) :
    KeptOut P (Machine.execBufClrCnt v0) := by
  unfold Machine.execBufClrCnt
  exact (next_kept (forAll_kept K (fun a1 a2 h3 => (clearAll_kept K h3)) h))

theorem putSlice_kept (_K : Keeps P) {v0 v1 v2} (h : Kept P v2) :
    Kept P (Machine.putSlice v0 v1 v2) := by
  unfold Machine.putSlice
  exact (lit_kept h rfl rfl rfl rfl rfl rfl rfl rfl rfl)

theorem cleanLine_kept (K : Keeps P) {v0 v1 v2} (h : Kept P v2) :
    Kept P (Machine.cleanLine v0 v1 v2) := by
  unfold Machine.cleanLine
  refine ite_kept ?_ ?_
  · exact (putLine_kept K (ddrWriteLine_kept K h))
  · exact h

theorem dropLine_kept (_K : Keeps P) {v0 v1} (h : Kept P v1) :
    Kept P (Machine.dropLine v0 v1) := by
  unfold Machine.dropLine
  exact (lit_kept h rfl rfl rfl rfl rfl rfl rfl rfl rfl)

theorem enterLine_kept (K : Keeps P) {v0 v1} (h : Kept P v1) :
    Kept P (Machine.enterLine v0 v1) := by
  unfold Machine.enterLine
  extract_lets sl2 st3 w4 k5 ages6 up7 aged8 s9
  have h10 : Kept P aged8 := (forAll_kept K (fun a11 a12 h13 => by
  split
  · exact (putLine_kept K h13)
  · exact h13) h)
  clear_value aged8
  have h19 : Kept P s9 := by
    unfold s9
    split
    · exact h
    · refine ite_kept ?_ ?_
      · exact (bump_kept K (cleanLine_kept K h10))
      · exact h10
  clear_value s9
  exact (putLine_kept K h19)

theorem prefetch_kept (K : Keeps P) {v0 v1 v2} (h : Kept P v2) :
    Kept P (Machine.prefetch v0 v1 v2) := by
  unfold Machine.prefetch
  exact (foldl_kept (fun a3 a4 h5 => by
  extract_lets r6 u7 zsrc8
  have h9 : Kept P r6.2 := (ddrRead_kept K h5)
  have h10 : Kept P u7 := (bump_kept K h9)
  clear_value u7
  refine ite_kept ?_ ?_
  · exact h5
  · split
    · exact h10
    · exact (putSlice_kept K h10)) h)

theorem streamMiss_kept (K : Keeps P) {v0 v1} (h : Kept P v1) :
    Kept P (Machine.streamMiss v0 v1) := by
  unfold Machine.streamMiss
  extract_lets sl2 v3
  refine ite_kept ?_ ?_
  · exact h
  · split
    · refine ite_kept ?_ ?_
      · exact (prefetch_kept K (putSlice_kept K h))
      · exact (putSlice_kept K h)
    · exact (putSlice_kept K h)

theorem streamHit_kept (K : Keeps P) {v0 v1} (h : Kept P v1) :
    Kept P (Machine.streamHit v0 v1) := by
  unfold Machine.streamHit
  extract_lets sl2
  refine ite_kept ?_ ?_
  · exact h
  · exact (foldl_kept (fun a3 a4 h5 => by
      split
      · exact h5
      · extract_lets v11
        refine ite_kept ?_ ?_
        · exact (prefetch_kept K (putSlice_kept K h5))
        · exact h5) h)

theorem cacheAnswer_kept (_K : Keeps P) {v0 v1} (h : Kept P v1) :
    Kept P (Machine.cacheAnswer v0 v1) := by
  unfold Machine.cacheAnswer
  exact (lit_kept h rfl rfl rfl rfl rfl rfl rfl rfl rfl)

theorem serveLine_kept (K : Keeps P) {v0 v1 v2 v3 v4} (h : Kept P v4) :
    Kept P (Machine.serveLine v0 v1 v2 v3 v4) := by
  unfold Machine.serveLine
  split
  · exact (cacheAnswer_kept K (putLine_kept K h))
  · extract_lets d10
    refine ite_kept ?_ ?_
    · exact (putLine_kept K (ddrWriteLine_kept K h))
    · exact (putLine_kept K h)

theorem serveDdr_kept (K : Keeps P) {a alt errP errM s} (h : Kept P s) : Kept P (Machine.serveDdr a alt errP errM s) := by
  unfold Machine.serveDdr
  split
  · have hr : Kept P (ddrRead a.ba alt errP errM s).2 := ddrRead_kept K h
    revert hr
    generalize ddrRead a.ba alt errP errM s = r
    obtain ⟨_ | d, u⟩ := r
    · exact fun hr => onBusError_kept K hr
    · exact fun hr => cacheAnswer_kept K hr
  · exact ite_kept (ddrWriteLine_kept K h) (ite_kept (ddrWriteHalf_kept K h) (ddrWriteHalf_kept K h))

theorem cacheServe_kept (K : Keeps P) {v0 v1 v2 v3 v4} (h : Kept P v4) :
    Kept P (Machine.cacheServe v0 v1 v2 v3 v4) := by
  unfold Machine.cacheServe
  extract_lets la5 sl6 v7 s8
  have h9 : Kept P s8 := (bump_kept K h)
  clear_value s8
  refine ite_kept ?_ ?_
  · exact (serveDdr_kept K h)
  · split
    · exact (countDirty_kept K (serveLine_kept K (bump_kept K h)))
    · split
      · extract_lets s19 s20
        have h21 : Kept P s19 := (enterLine_kept K (putSlice_kept K h))
        clear_value s19
        have h22 : Kept P s20 := (bump_kept K (bump_kept K h21))
        clear_value s20
        refine countDirty_kept K ?_
        refine streamHit_kept K ?_
        split
        · exact (serveLine_kept K h22)
        · exact h22
      · refine ite_kept ?_ ?_
        · exact (serveDdr_kept K h9)
        · refine ite_kept ?_ ?_
          · exact (bump_kept K (putSlice_kept K h9))
          · exact (streamMiss_kept K (putSlice_kept K h9))

theorem execMapCacheAccess_kept (K : Keeps P) {v0 v1 v2 v3 v4 v5 v6 v7} (h : Kept P v7) :
    KeptOut P (Machine.execMapCacheAccess v0 v1 v2 v3 v4 v5 v6 v7) := by
  unfold Machine.execMapCacheAccess
  refine iteO_kept ?_ ?_
  · exact (next_kept h)
  · exact (next_kept (cacheServe_kept K h))

theorem execBufferRead_kept (K : Keeps P) {v0 v1 v2 v3 v4 v5 v6} (h : Kept P v6) :
    KeptOut P (Machine.execBufferRead v0 v1 v2 v3 v4 v5 v6) := by
  unfold Machine.execBufferRead
  extract_lets a7
  refine iteO_kept ?_ ?_
  · exact (next_kept h)
  · refine iteO_kept ?_ ?_
    · exact (next_kept (cacheServe_kept K h))
    · exact (next_kept (serveDdr_kept K h))

theorem execBufferWrite_kept (K : Keeps P) {v0 v1 v2 v3 v4 v5 v6} (h : Kept P v6) :
    KeptOut P (Machine.execBufferWrite v0 v1 v2 v3 v4 v5 v6) := by
  unfold Machine.execBufferWrite
  extract_lets d7 a8
  refine iteO_kept ?_ ?_
  · exact (next_kept h)
  · refine iteO_kept ?_ ?_
    · exact (next_kept (cacheServe_kept K h))
    · exact (next_kept (serveDdr_kept K h))

theorem rebuiltLine_kept (K : Keeps P) {v0 v1} (h : Kept P v1) :
    Kept P (Machine.rebuiltLine v0 v1).2 := by
  unfold Machine.rebuiltLine
  split
  · exact h
  · split
    · exact h
    · exact (drawFree_kept K h)

theorem restoreLine_kept (K : Keeps P) {v0 v1 v2 v3} (h : Kept P v3) :
    Kept P (Machine.restoreLine v0 v1 v2 v3).2 := by
  unfold Machine.restoreLine
  extract_lets p4 r5
  have h6 : Kept P r5.2 := (rebuiltLine_kept K (busError_kept K h))
  split
  · exact (onBusError_kept K h)
  · exact (ddrWriteLine_kept K h6)

theorem resumeWaiting_kept (K : Keeps P) {sl l s} (h : Kept P s) : Kept P (Machine.resumeWaiting sl l s) := by
  induction l generalizing s with
  | nil => exact putSlice_kept K h
  | cons a l ih =>
    unfold Machine.resumeWaiting
    split
    · exact ih (serveLine_kept K h)
    · exact ite_kept (ih (serveDdr_kept K h)) (streamMiss_kept K (putSlice_kept K h))

theorem fillData_kept (K : Keeps P) {a alt errP errM s} (h : Kept P s) : Kept P (Machine.fillData a alt errP errM s).2 := by
  unfold Machine.fillData
  have hr : Kept P (ddrRead (128 * (a.ba / 128)) alt errP errM s).2 := ddrRead_kept K h
  revert hr
  generalize ddrRead (128 * (a.ba / 128)) alt errP errM s = r
  obtain ⟨_ | d, u⟩ := r
  · exact fun hr => restoreLine_kept K hr
  · exact fun hr => hr

theorem execMapCacheFill_kept (K : Keeps P) {slice alt errP errM s} (h : Kept P s) :
    KeptOut P (Machine.execMapCacheFill slice alt errP errM s) := by
  unfold Machine.execMapCacheFill
  extract_lets v s0
  have h0 : Kept P s0 := putSlice_kept K h
  clear_value s0
  split
  · exact next_kept h
  · rename_i a _
    refine iteO_kept (next_kept (settleReleases_kept K (countDirty_kept K
      (foldl_kept (fun _ _ h => serveDdr_kept K h) (serveDdr_kept K (putSlice_kept K h)))))) ?_
    have hr : Kept P (fillData a alt errP errM s0).2 := fillData_kept K h0
    revert hr
    generalize fillData a alt errP errM s0 = r
    intro hr
    extract_lets r s1
    have h1 : Kept P s1 := by
      unfold s1
      split
      · exact hr
      · extract_lets s2
        have h2 : Kept P s2 := enterLine_kept K hr
        clear_value s2
        split
        · exact serveLine_kept K h2
        · exact h2
    exact next_kept (settleReleases_kept K (countDirty_kept K (resumeWaiting_kept K h1)))

theorem execMapCacheEnable_kept (K : Keeps P) {v0} (h : Kept P v0) :
    KeptOut P (Machine.execMapCacheEnable v0) := by
  unfold Machine.execMapCacheEnable
  extract_lets s1 zsrc2
  have h3 : Kept P s1 := (put_kept K h)
  clear_value s1
  refine next_kept ?_
  refine ite_kept ?_ ?_
  · exact (put_kept K (lit_kept h3 rfl rfl rfl rfl rfl rfl rfl rfl rfl))
  · exact h3

theorem execMapCacheDisable_kept (K : Keeps P) {v0} (h : Kept P v0) :
    KeptOut P (Machine.execMapCacheDisable v0) := by
  unfold Machine.execMapCacheDisable
  extract_lets s1 zsrc2
  have h3 : Kept P s1 := (put_kept K h)
  clear_value s1
  refine next_kept ?_
  refine ite_kept ?_ ?_
  · exact (put_kept K (lit_kept h3 rfl rfl rfl rfl rfl rfl rfl rfl rfl))
  · exact h3

theorem cleanAll_kept (K : Keeps P) {v0} (h : Kept P v0) :
    Kept P (Machine.cleanAll v0) := by
  unfold Machine.cleanAll
  exact (foldl_kept (fun a1 a2 h3 => (cleanLine_kept K h3)) h)

theorem execDrainDone_kept (K : Keeps P) {v0} (h : Kept P v0) :
    KeptOut P (Machine.execDrainDone v0) := by
  unfold Machine.execDrainDone
  extract_lets s1 zsrc2 s3
  have h4 : Kept P s1 := (cleanAll_kept K h)
  clear_value s1
  have h5 : Kept P s3 := (put_kept K (lit_kept h4 rfl rfl rfl rfl rfl rfl rfl rfl rfl))
  clear_value s3
  refine iteO_kept ?_ ?_
  · exact (next_kept (raise_kept K (countDirty_kept K h5)))
  · exact (next_kept h)

theorem maintEffect_kept (K : Keeps P) {v0 v1 v2} (h : Kept P v2) :
    Kept P (Machine.maintEffect v0 v1 v2) := by
  unfold Machine.maintEffect
  extract_lets s3 v4
  have h5 : Kept P s3 := by
    unfold s3
    split
    · exact h
    · refine ite_kept ?_ ?_
      · exact (cleanLine_kept K h)
      · exact (dropLine_kept K (cleanLine_kept K h))
  clear_value s3
  refine ite_kept ?_ ?_
  · exact (countDirty_kept K (cleanAll_kept K h))
  · refine countDirty_kept K ?_
    refine ite_kept ?_ ?_
    · exact (putSlice_kept K h5)
    · exact h5

theorem maintStart_kept (K : Keeps P) {v0 v1} (h : Kept P v1) :
    Kept P (Machine.maintStart v0 v1) := by
  unfold Machine.maintStart
  extract_lets la2 s3 s4 zsrc5
  have h6 : Kept P s3 := (put_kept K h)
  clear_value s3
  have h7 : Kept P s4 := (put_kept K h6)
  clear_value s4
  refine ite_kept ?_ ?_
  · exact h
  · refine ite_kept ?_ ?_
    · exact (raise_kept K h6)
    · refine ite_kept ?_ ?_
      · exact (lit_kept h7 rfl rfl rfl rfl rfl rfl rfl rfl rfl)
      · exact (maintEffect_kept K h7)

theorem execMaintClean_kept (K : Keeps P) {v0} (h : Kept P v0) :
    KeptOut P (Machine.execMaintClean v0) := by
  unfold Machine.execMaintClean
  exact (next_kept (maintStart_kept K h))

theorem execMaintInvalidate_kept (K : Keeps P) {v0} (h : Kept P v0) :
    KeptOut P (Machine.execMaintInvalidate v0) := by
  unfold Machine.execMaintInvalidate
  exact (next_kept (maintStart_kept K h))

theorem execMaintCleanAll_kept (K : Keeps P) {v0} (h : Kept P v0) :
    KeptOut P (Machine.execMaintCleanAll v0) := by
  unfold Machine.execMaintCleanAll
  exact (next_kept (maintStart_kept K h))

theorem execMaintReserved_kept (K : Keeps P) {v0} (h : Kept P v0) :
    KeptOut P (Machine.execMaintReserved v0) := by
  unfold Machine.execMaintReserved
  refine next_kept ?_
  refine ite_kept ?_ ?_
  · exact h
  · exact (raise_kept K (put_kept K h))

theorem execMaintDone_kept (K : Keeps P) {v0} (h : Kept P v0) :
    KeptOut P (Machine.execMaintDone v0) := by
  unfold Machine.execMaintDone
  extract_lets fin1 zsrc2
  refine iteO_kept ?_ ?_
  · exact (next_kept h)
  · split
    · refine next_kept ?_
      try unfold fin1
      exact (raise_kept K (put_kept K h))
    · refine iteO_kept ?_ ?_
      · exact (next_kept h)
      · refine next_kept ?_
        try unfold fin1
        exact (raise_kept K (put_kept K (maintEffect_kept K (lit_kept h rfl rfl rfl rfl rfl rfl rfl rfl rfl))))

theorem sliceOut_kept (K : Keeps P) {v0 v1} (h : Kept P v1) :
    Kept P (Machine.sliceOut v0 v1) := by
  unfold Machine.sliceOut
  extract_lets s2 mine3 s4 v5 s6 s7
  have h8 : Kept P s2 := (openWindow_kept K h)
  clear_value s2
  have h9 : Kept P s4 := (foldl_kept (fun a10 a11 h12 => (dropLine_kept K (cleanLine_kept K h12))) h8)
  clear_value s4
  have h13 : Kept P s6 := (putSlice_kept K h9)
  clear_value s6
  have h14 : Kept P s7 := (put_kept K h13)
  clear_value s7
  exact (closeWindow_kept K (raise_kept K h14))

theorem execSramError_kept (K : Keeps P) {v0 v1 v2 v3} (h : Kept P v3) :
    KeptOut P (Machine.execSramError v0 v1 v2 v3) := by
  unfold Machine.execSramError
  extract_lets q4 s5
  have h6 : Kept P s5 := (bump_kept K h)
  clear_value s5
  refine iteO_kept ?_ ?_
  · exact (next_kept h)
  · refine iteO_kept ?_ ?_
    · exact (next_kept (raise_kept K (bump_kept K h)))
    · refine iteO_kept ?_ ?_
      · split
        · exact (next_kept h)
        · extract_lets r13 s14 v15 times16 s17
          have h18 : Kept P r13.2 := (fillData_kept K (dropLine_kept K h6))
          have h19 : Kept P s14 := by
            unfold s14
            refine ite_kept ?_ ?_
            · refine raise_kept K ?_
              refine ite_kept ?_ ?_
              · exact (loseBufPage_kept K (dropLine_kept K h6))
              · exact (restoreLine_kept K (dropLine_kept K h6))
            · refine raise_kept K ?_
              split
              · exact h18
              · exact (enterLine_kept K h18)
          clear_value s14
          have h25 : Kept P s17 := (putSlice_kept K h19)
          clear_value s17
          refine iteO_kept ?_ ?_
          · exact (next_kept h)
          · refine next_kept ?_
            refine countDirty_kept K ?_
            refine ite_kept ?_ ?_
            · exact (sliceOut_kept K h25)
            · exact h25
      · refine iteO_kept ?_ ?_
        · exact (next_kept (countDirty_kept K (sliceOut_kept K h)))
        · exact (next_kept h)

theorem execMapClrCnt_kept (K : Keeps P) {v0} (h : Kept P v0) :
    KeptOut P (Machine.execMapClrCnt v0) := by
  unfold Machine.execMapClrCnt
  exact (next_kept (clearAll_kept K h))

end Sys2Proof.Laws
end

