-- ==== Sys2Proof/Laws/KeptMotion.lean ====
section
/-! SUPPORT. A property that the elementary writes keep is kept by every operation and command of motion, motors, schedules and seeks. -/

namespace Sys2Proof.Laws

open Sys2Proof.Machine

variable {P : Store → Prop}

theorem updBus_kept (_K : Keeps P) {v0 v1 v2} (h : Kept P v2) :
    Kept P (Machine.updBus v0 v1 v2) := by
  unfold Machine.updBus
  exact (lit_kept h rfl rfl rfl rfl rfl rfl rfl rfl rfl)

theorem updAx_kept (_K : Keeps P) {v0 v1 v2 v3} (h : Kept P v3) :
    Kept P (Machine.updAx v0 v1 v2 v3) := by
  unfold Machine.updAx
  exact (lit_kept h rfl rfl rfl rfl rfl rfl rfl rfl rfl)

theorem showSpeed_kept (K : Keeps P) {v0 v1 v2} (h : Kept P v2) :
    Kept P (Machine.showSpeed v0 v1 v2) := by
  unfold Machine.showSpeed
  extract_lets x3 v4
  exact (putI_kept K h)

theorem axEnter_kept (K : Keeps P) {v0 v1 v2 v3} (h : Kept P v3) :
    Kept P (Machine.axEnter v0 v1 v2 v3) := by
  unfold Machine.axEnter
  extract_lets s4
  have h5 : Kept P s4 := (put_kept K h)
  clear_value s4
  refine ite_kept ?_ ?_
  · exact (raise_kept K h5)
  · exact h5

theorem axResult_kept (K : Keeps P) {v0 v1 v2 v3} (h : Kept P v3) :
    Kept P (Machine.axResult v0 v1 v2 v3) := by
  unfold Machine.axResult
  exact (put_kept K (put_kept K h))

theorem endFollow_kept (K : Keeps P) {v0 v1 v2} (h : Kept P v2) :
    Kept P (Machine.endFollow v0 v1 v2) := by
  unfold Machine.endFollow
  extract_lets s3
  have h4 : Kept P s3 := (updAx_kept K h)
  clear_value s3
  refine ite_kept ?_ ?_
  · exact (updServo_kept K h4)
  · exact h4

theorem axHalt_kept (K : Keeps P) {v0 v1 v2} (h : Kept P v2) :
    Kept P (Machine.axHalt v0 v1 v2) := by
  unfold Machine.axHalt
  exact (showSpeed_kept K (updAx_kept K h))

theorem resync_kept (K : Keeps P) {v0 v1 v2} (h : Kept P v2) :
    Kept P (Machine.resync v0 v1 v2) := by
  unfold Machine.resync
  refine ite_kept ?_ ?_
  · exact (putI_kept K h)
  · refine ite_kept ?_ ?_
    · exact h
    · exact (put_kept K h)

theorem startSteps_kept (K : Keeps P) {v0 v1 v2} (h : Kept P v2) :
    Kept P (Machine.startSteps v0 v1 v2) := by
  unfold Machine.startSteps
  exact (put_kept K (updAx_kept K h))

theorem axBrake_kept (K : Keeps P) {v0 v1 v2 v3 v4} (h : Kept P v4) :
    Kept P (Machine.axBrake v0 v1 v2 v3 v4) := by
  unfold Machine.axBrake
  extract_lets x5 n6 p7
  exact (updAx_kept K h)

theorem axGo_kept (K : Keeps P) {v0 v1 v2 v3} (h : Kept P v3) :
    Kept P (Machine.axGo v0 v1 v2 v3) := by
  unfold Machine.axGo
  extract_lets p4 fwd5 ends6 goal7
  exact (startSteps_kept K (updAx_kept K h))

theorem retarget_kept (K : Keeps P) {v0 v1 v2 v3} (h : Kept P v3) :
    Kept P (Machine.retarget v0 v1 v2 v3) := by
  unfold Machine.retarget
  extract_lets x4 p5 r6 dec7 dmax8 d9 n10 stop11 d12
  refine ite_kept ?_ ?_
  · exact (axGo_kept K h)
  · refine ite_kept ?_ ?_
    · exact (updAx_kept K h)
    · refine ite_kept ?_ ?_
      · exact (updAx_kept K h)
      · exact (updAx_kept K (axBrake_kept K h))

theorem moveDone_kept (K : Keeps P) {v0 v1 v2} (h : Kept P v2) :
    Kept P (Machine.moveDone v0 v1 v2) := by
  unfold Machine.moveDone
  extract_lets x3 s4 s5
  have h6 : Kept P s4 := (axHalt_kept K h)
  clear_value s4
  have h7 : Kept P s5 := (bump_kept K (axResult_kept K h6))
  clear_value s5
  exact (raise_kept K (axEnter_kept K h7))

theorem axArrived_kept (K : Keeps P) {v0 v1 v2} (h : Kept P v2) :
    Kept P (Machine.axArrived v0 v1 v2) := by
  unfold Machine.axArrived
  extract_lets x3
  refine ite_kept ?_ ?_
  · split
    · exact (axEnter_kept K (axHalt_kept K h))
    · exact (axGo_kept K (updAx_kept K h))
  · refine ite_kept ?_ ?_
    · exact (axEnter_kept K (axResult_kept K (axHalt_kept K h)))
    · refine ite_kept ?_ ?_
      · exact (axEnter_kept K (put_kept K (axHalt_kept K h)))
      · refine ite_kept ?_ ?_
        · exact (axEnter_kept K (put_kept K (axHalt_kept K h)))
        · refine ite_kept ?_ ?_
          · exact (axHalt_kept K h)
          · exact (moveDone_kept K h)

theorem softHard_kept (K : Keeps P) {b a s} (h : Kept P s) : Kept P (Machine.softHard b a s) := by
  unfold Machine.softHard
  extract_lets t s1
  have h1 : Kept P s1 := raise_kept K (axHalt_kept K h)
  clear_value s1 t
  refine ite_kept ?_ (axEnter_kept K (put_kept K (put_kept K h1)))
  cases t
  · exact axEnter_kept K (put_kept K (resync_kept K h1))
  · exact axGo_kept K (resync_kept K h1)

theorem execStepInstant_kept (K : Keeps P) {v0 v1 v2} (h : Kept P v2) :
    KeptOut P (Machine.execStepInstant v0 v1 v2) := by
  unfold Machine.execStepInstant
  extract_lets x3 p4 s5 rem6 v7
  have h8 : Kept P s5 := (putI_kept K h)
  clear_value s5
  refine iteO_kept ?_ ?_
  · exact (next_kept h)
  · refine iteO_kept ?_ ?_
    · exact (next_kept (softHard_kept K h8))
    · refine iteO_kept ?_ ?_
      · exact (next_kept (updAx_kept K h8))
      · refine iteO_kept ?_ ?_
        · exact (next_kept (axArrived_kept K h8))
        · exact (next_kept (showSpeed_kept K (updAx_kept K h8)))

theorem sendGate_kept (K : Keeps P) {v0 v1 v2 v3 v4} (h : Kept P v4) :
    Kept P (Machine.sendGate v0 v1 v2 v3 v4) := by
  unfold Machine.sendGate
  exact (updBus_kept K h)

theorem setGate_kept (K : Keeps P) {v0 v1 v2 v3 v4} (h : Kept P v4) :
    Kept P (Machine.setGate v0 v1 v2 v3 v4) := by
  unfold Machine.setGate
  exact (sendGate_kept K (updAx_kept K h))

theorem takeRefs_kept (K : Keeps P) {v0 v1 v2 v3 v4} (h : Kept P v4) :
    Kept P (Machine.takeRefs v0 v1 v2 v3 v4) := by
  unfold Machine.takeRefs
  exact (updAx_kept K h)

theorem setRefs_kept (K : Keeps P) {v0 v1 v2} (h : Kept P v2) :
    Kept P (Machine.setRefs v0 v1 v2) := by
  unfold Machine.setRefs
  extract_lets ra3 rb4
  exact (updAx_kept K (takeRefs_kept K h))

theorem startDrive_kept (K : Keeps P) {v0 v1 v2} (h : Kept P v2) :
    Kept P (Machine.startDrive v0 v1 v2) := by
  unfold Machine.startDrive
  extract_lets s3 x4
  have h5 : Kept P s3 := (takeForces_kept K (setRefs_kept K h))
  clear_value s3
  exact (setGate_kept K (setGate_kept K h5))

theorem execOffTimeEnd_kept (K : Keeps P) {v0 v1 v2 v3} (h : Kept P v3) :
    KeptOut P (Machine.execOffTimeEnd v0 v1 v2 v3) := by
  unfold Machine.execOffTimeEnd
  extract_lets x4
  refine iteO_kept ?_ ?_
  · exact (next_kept h)
  · exact (next_kept (setGate_kept K (takeForces_kept K h)))

theorem execFastDecayEnd_kept (K : Keeps P) {v0 v1 v2 v3} (h : Kept P v3) :
    KeptOut P (Machine.execFastDecayEnd v0 v1 v2 v3) := by
  unfold Machine.execFastDecayEnd
  extract_lets x4 fast5
  refine iteO_kept ?_ ?_
  · exact (next_kept h)
  · exact (next_kept (setGate_kept K h))

theorem execTOnMaxExpiry_kept (K : Keeps P) {v0 v1 v2 v3} (h : Kept P v3) :
    KeptOut P (Machine.execTOnMaxExpiry v0 v1 v2 v3) := by
  unfold Machine.execTOnMaxExpiry
  extract_lets x4 t5
  refine iteO_kept ?_ ?_
  · exact (next_kept h)
  · exact (next_kept (setGate_kept K (bump_kept K h)))

theorem tripPhase_kept (K : Keeps P) {v0 v1 v2 v3} (h : Kept P v3) :
    Kept P (Machine.tripPhase v0 v1 v2 v3) := by
  unfold Machine.tripPhase
  extract_lets x4
  refine ite_kept ?_ ?_
  · exact h
  · exact (setGate_kept K (bump_kept K h))

theorem execHoldCurrent_kept (K : Keeps P) {v0 v1 v2} (h : Kept P v2) :
    KeptOut P (Machine.execHoldCurrent v0 v1 v2) := by
  unfold Machine.execHoldCurrent
  refine iteO_kept ?_ ?_
  · exact (next_kept h)
  · exact (next_kept (put_kept K h))

theorem axRefuse_kept (K : Keeps P) {v0 v1 v2 v3} (h : Kept P v3) :
    Kept P (Machine.axRefuse v0 v1 v2 v3) := by
  unfold Machine.axRefuse
  exact (put_kept K h)

theorem axMoveTo_kept (K : Keeps P) {v0 v1 v2 v3} (h : Kept P v3) :
    Kept P (Machine.axMoveTo v0 v1 v2 v3) := by
  unfold Machine.axMoveTo
  extract_lets st4 s5
  have h6 : Kept P s5 := (put_kept K (updAx_kept K h))
  clear_value s5
  refine ite_kept ?_ ?_
  · exact (axRefuse_kept K h)
  · refine ite_kept ?_ ?_
    · exact (axRefuse_kept K h)
    · refine ite_kept ?_ ?_
      · exact (axRefuse_kept K h)
      · refine ite_kept ?_ ?_
        · exact (moveDone_kept K h6)
        · exact (axEnter_kept K (retarget_kept K h6))

theorem execAxisMove_kept (K : Keeps P) {v0 v1 v2} (h : Kept P v2) :
    KeptOut P (Machine.execAxisMove v0 v1 v2) := by
  unfold Machine.execAxisMove
  refine iteO_kept ?_ ?_
  · exact (next_kept h)
  · exact (next_kept (axMoveTo_kept K (put_kept K h)))

theorem execAxisStop_kept (K : Keeps P) {v0 v1 v2} (h : Kept P v2) :
    KeptOut P (Machine.execAxisStop v0 v1 v2) := by
  unfold Machine.execAxisStop
  extract_lets st3 s4 s5
  have h6 : Kept P s4 := (put_kept K h)
  clear_value s4
  have h7 : Kept P s5 := by
    unfold s5
    refine endFollow_kept K ?_
    refine ite_kept ?_ ?_
    · exact (put_kept K h6)
    · exact h6
  clear_value s5
  refine iteO_kept ?_ ?_
  · exact (next_kept h)
  · refine iteO_kept ?_ ?_
    · exact (next_kept (axRefuse_kept K h6))
    · refine iteO_kept ?_ ?_
      · exact (next_kept (axEnter_kept K (axResult_kept K (axHalt_kept K h7))))
      · exact (next_kept (axEnter_kept K (axBrake_kept K h7)))

theorem execAxisHome_kept (K : Keeps P) {v0 v1 v2} (h : Kept P v2) :
    KeptOut P (Machine.execAxisHome v0 v1 v2) := by
  unfold Machine.execAxisHome
  extract_lets s3 p4 on5 far6 s7 s8
  have h9 : Kept P s3 := (put_kept K h)
  clear_value s3
  have h10 : Kept P s7 := by
    unfold s7
    refine ite_kept ?_ ?_
    · exact (startDrive_kept K h9)
    · exact h9
  clear_value s7
  have h11 : Kept P s8 := (put_kept K (endFollow_kept K h10))
  clear_value s8
  refine iteO_kept ?_ ?_
  · exact (next_kept h)
  · refine iteO_kept ?_ ?_
    · exact (next_kept (axRefuse_kept K h9))
    · exact (next_kept (axEnter_kept K (startSteps_kept K (updAx_kept K h11))))

theorem execAxisFollow_kept (K : Keeps P) {v0 v1 v2} (h : Kept P v2) :
    KeptOut P (Machine.execAxisFollow v0 v1 v2) := by
  unfold Machine.execAxisFollow
  extract_lets s3
  have h4 : Kept P s3 := (put_kept K h)
  clear_value s3
  refine iteO_kept ?_ ?_
  · exact (next_kept h)
  · refine iteO_kept ?_ ?_
    · exact (next_kept (axRefuse_kept K h4))
    · exact (next_kept (axEnter_kept K (axResult_kept K (updAx_kept K (updServo_kept K h4)))))

theorem followTarget_kept (K : Keeps P) {v0 v1 v2 v3} (h : Kept P v3) :
    Kept P (Machine.followTarget v0 v1 v2 v3) := by
  unfold Machine.followTarget
  extract_lets t4
  refine ite_kept ?_ ?_
  · refine ite_kept ?_ ?_
    · exact h
    · exact (retarget_kept K h)
  · exact h

theorem axOff_kept (K : Keeps P) {v0 v1 v2} (h : Kept P v2) :
    Kept P (Machine.axOff v0 v1 v2) := by
  unfold Machine.axOff
  exact (axEnter_kept K (updAx_kept K (axHalt_kept K (endFollow_kept K h))))

theorem execAxisRelease_kept (K : Keeps P) {v0 v1 v2} (h : Kept P v2) :
    KeptOut P (Machine.execAxisRelease v0 v1 v2) := by
  unfold Machine.execAxisRelease
  refine iteO_kept ?_ ?_
  · exact (next_kept h)
  · exact (next_kept (axOff_kept K (axResult_kept K (put_kept K h))))

theorem clearStuck_kept (K : Keeps P) {v0 v1} (h : Kept P v1) :
    Kept P (Machine.clearStuck v0 v1) := by
  unfold Machine.clearStuck
  exact (put_kept K h)

theorem execAxisClearFault_kept (K : Keeps P) {v0 v1 v2} (h : Kept P v2) :
    KeptOut P (Machine.execAxisClearFault v0 v1 v2) := by
  unfold Machine.execAxisClearFault
  extract_lets s3
  have h4 : Kept P s3 := (clearStuck_kept K (put_kept K h))
  clear_value s3
  refine iteO_kept ?_ ?_
  · exact (next_kept h)
  · refine iteO_kept ?_ ?_
    · exact (next_kept (axRefuse_kept K h4))
    · exact (next_kept (axEnter_kept K (axResult_kept K h4)))

theorem execAxisCmdRefused_kept (K : Keeps P) {v0 v1 v2 v3} (h : Kept P v3) :
    KeptOut P (Machine.execAxisCmdRefused v0 v1 v2 v3) := by
  unfold Machine.execAxisCmdRefused
  refine iteO_kept ?_ ?_
  · exact (next_kept h)
  · exact (next_kept (axRefuse_kept K (put_kept K h)))

theorem axWake_kept (K : Keeps P) {v0 v1} (h : Kept P v1) :
    Kept P (Machine.axWake v0 v1) := by
  unfold Machine.axWake
  exact (forAll_kept K (fun a2 a3 h4 => by
  refine ite_kept ?_ ?_
  · exact (axEnter_kept K (startDrive_kept K (resync_kept K h4)))
  · exact h4) h)

theorem execAxisEnable_kept (K : Keeps P) {v0 v1 v2 v3} (h : Kept P v3) :
    KeptOut P (Machine.execAxisEnable v0 v1 v2 v3) := by
  unfold Machine.execAxisEnable
  refine iteO_kept ?_ ?_
  · exact (next_kept h)
  · exact (next_kept (axWake_kept K (put_kept K h)))

theorem stepperOff_kept (K : Keeps P) {v0 v1} (h : Kept P v1) :
    Kept P (Machine.stepperOff v0 v1) := by
  unfold Machine.stepperOff
  extract_lets s2 s3
  have h4 : Kept P s2 := (updBus_kept K h)
  clear_value s2
  have h5 : Kept P s3 := (forAll_kept K (fun a6 a7 h8 => by
  extract_lets t9
  have h10 : Kept P t9 := by
    unfold t9
    refine ite_kept ?_ ?_
    · exact (axResult_kept K h8)
    · exact h8
  clear_value t9
  exact (axOff_kept K h10)) h4)
  clear_value s3
  refine ite_kept ?_ ?_
  · exact h
  · exact (raise_kept K h5)

theorem stepperOn_kept (K : Keeps P) {v0 v1} (h : Kept P v1) :
    Kept P (Machine.stepperOn v0 v1) := by
  unfold Machine.stepperOn
  exact (axWake_kept K (updBus_kept K h))

theorem execSoftLimitWrite_kept (K : Keeps P) {v0 v1 v2 v3 v4} (h : Kept P v4) :
    KeptOut P (Machine.execSoftLimitWrite v0 v1 v2 v3 v4) := by
  unfold Machine.execSoftLimitWrite
  extract_lets s5 t6 t7
  have h8 : Kept P s5 := (put_kept K h)
  clear_value s5
  refine iteO_kept ?_ ?_
  · exact (next_kept h)
  · refine iteO_kept ?_ ?_
    · exact (next_kept (retarget_kept K h8))
    · exact (next_kept h8)

theorem execAccDecWrite_kept (K : Keeps P) {v0 v1 v2 v3 v4} (h : Kept P v4) :
    KeptOut P (Machine.execAccDecWrite v0 v1 v2 v3 v4) := by
  unfold Machine.execAccDecWrite
  extract_lets s5 x6 rem7 need8
  have h9 : Kept P s5 := (put_kept K (put_kept K h))
  clear_value s5
  refine iteO_kept ?_ ?_
  · exact (next_kept h)
  · refine iteO_kept ?_ ?_
    · exact (next_kept h9)
    · refine iteO_kept ?_ ?_
      · exact (next_kept (updAx_kept K h9))
      · exact (next_kept (updAx_kept K h9))

theorem execVmaxWrite_kept (K : Keeps P) {v0 v1 v2 v3} (h : Kept P v3) :
    KeptOut P (Machine.execVmaxWrite v0 v1 v2 v3) := by
  unfold Machine.execVmaxWrite
  refine iteO_kept ?_ ?_
  · exact (next_kept h)
  · exact (next_kept (put_kept K h))

theorem execMovClrCnt_kept (K : Keeps P) {v0 v1} (h : Kept P v1) :
    KeptOut P (Machine.execMovClrCnt v0 v1) := by
  unfold Machine.execMovClrCnt
  refine iteO_kept ?_ ?_
  · exact (next_kept h)
  · exact (next_kept (clearAll_kept K h))

theorem limitStop_kept (K : Keeps P) {v0 v1 v2 v3} (h : Kept P v3) :
    Kept P (Machine.limitStop v0 v1 v2 v3) := by
  unfold Machine.limitStop
  extract_lets s4
  have h5 : Kept P s4 := (raise_kept K (bump_kept K (endFollow_kept K h)))
  clear_value s4
  refine ite_kept ?_ ?_
  · exact (axEnter_kept K (put_kept K (resync_kept K (axHalt_kept K h5))))
  · exact (axBrake_kept K h5)

theorem limitOn_kept (K : Keeps P) {v0 v1 v2} (h : Kept P v2) :
    Kept P (Machine.limitOn v0 v1 v2) := by
  unfold Machine.limitOn
  extract_lets a3 outer4 x5 s6
  have h7 : Kept P s6 := (put_kept K h)
  clear_value s6
  refine ite_kept ?_ ?_
  · exact h
  · refine ite_kept ?_ ?_
    · exact (startSteps_kept K (updAx_kept K h))
    · refine ite_kept ?_ ?_
      · exact (moveDone_kept K (putI_kept K h7))
      · refine ite_kept ?_ ?_
        · exact (limitStop_kept K h)
        · exact h

theorem limitGone_kept (K : Keeps P) {v0 v1 v2} (h : Kept P v2) :
    Kept P (Machine.limitGone v0 v1 v2) := by
  unfold Machine.limitGone
  extract_lets a3 x4 e5 s6
  have h7 : Kept P s6 := by
    unfold s6
    refine ite_kept ?_ ?_
    · exact (put_kept K (updAx_kept K h))
    · exact h
  clear_value s6
  refine ite_kept ?_ ?_
  · exact (axEnter_kept K (axResult_kept K (axHalt_kept K (put_kept K (put_kept K h7)))))
  · exact h

theorem stallAxis_kept (K : Keeps P) {v0 v1 v2} (h : Kept P v2) :
    Kept P (Machine.stallAxis v0 v1 v2) := by
  unfold Machine.stallAxis
  extract_lets n3 s4 s5
  have h6 : Kept P s4 := (updAx_kept K (resync_kept K (axHalt_kept K (endFollow_kept K h))))
  clear_value s4
  have h7 : Kept P s5 := (raise_kept K (bump_kept K (axResult_kept K h6)))
  clear_value s5
  exact (axEnter_kept K h7)

theorem execInputDebounced_kept (K : Keeps P) {v0 v1 v2} (h : Kept P v2) :
    KeptOut P (Machine.execInputDebounced v0 v1 v2) := by
  unfold Machine.execInputDebounced
  extract_lets lv3 set4 s5 was6 s7 is8
  have h9 : Kept P s5 := (updBus_kept K h)
  clear_value s5
  have h10 : Kept P s7 := (put_kept K h9)
  clear_value s7
  refine iteO_kept ?_ ?_
  · exact (next_kept h)
  · refine iteO_kept ?_ ?_
    · exact (next_kept h9)
    · refine iteO_kept ?_ ?_
      · exact (next_kept (limitOn_kept K h10))
      · refine iteO_kept ?_ ?_
        · exact (next_kept (limitGone_kept K h10))
        · refine iteO_kept ?_ ?_
          · exact (next_kept (stallAxis_kept K h10))
          · exact (next_kept h10)

theorem execChatter_kept (K : Keeps P) {v0 v1 v2} (h : Kept P v2) :
    KeptOut P (Machine.execChatter v0 v1 v2) := by
  unfold Machine.execChatter
  extract_lets was3 s4
  have h5 : Kept P s4 := (raise_kept K (put_kept K h))
  clear_value s4
  refine iteO_kept ?_ ?_
  · exact (next_kept h)
  · refine next_kept ?_
    refine ite_kept ?_ ?_
    · exact (limitOn_kept K h5)
    · exact h5

theorem execChatterEnd_kept (K : Keeps P) {v0 v1 v2} (h : Kept P v2) :
    KeptOut P (Machine.execChatterEnd v0 v1 v2) := by
  unfold Machine.execChatterEnd
  extract_lets s3
  have h4 : Kept P s3 := (updBus_kept K (put_kept K h))
  clear_value s3
  refine iteO_kept ?_ ?_
  · exact (next_kept h)
  · refine next_kept ?_
    refine ite_kept ?_ ?_
    · exact (limitGone_kept K h4)
    · exact h4

theorem execStuckInput_kept (K : Keeps P) {v0 v1 v2} (h : Kept P v2) :
    KeptOut P (Machine.execStuckInput v0 v1 v2) := by
  unfold Machine.execStuckInput
  extract_lets a3 travelled4 s5
  have h6 : Kept P s5 := (raise_kept K (put_kept K (endFollow_kept K h)))
  clear_value s5
  refine iteO_kept ?_ ?_
  · exact (next_kept h)
  · refine iteO_kept ?_ ?_
    · exact (next_kept h6)
    · refine iteO_kept ?_ ?_
      · exact (next_kept (axEnter_kept K (put_kept K (axHalt_kept K h6))))
      · exact (next_kept (axBrake_kept K h6))

theorem execStall_kept (K : Keeps P) {v0 v1 v2} (h : Kept P v2) :
    KeptOut P (Machine.execStall v0 v1 v2) := by
  unfold Machine.execStall
  extract_lets x3 sled4 missed5
  refine iteO_kept ?_ ?_
  · exact (next_kept h)
  · exact (next_kept (stallAxis_kept K h))

theorem execHomingFail_kept (K : Keeps P) {v0 v1 v2} (h : Kept P v2) :
    KeptOut P (Machine.execHomingFail v0 v1 v2) := by
  unfold Machine.execHomingFail
  extract_lets x3
  refine iteO_kept ?_ ?_
  · exact (next_kept h)
  · exact (next_kept (axEnter_kept K (put_kept K (axHalt_kept K h))))

theorem encoderCheck_kept (K : Keeps P) {v0 v1 v2} (h : Kept P v2) :
    Kept P (Machine.encoderCheck v0 v1 v2) := by
  unfold Machine.encoderCheck
  extract_lets d3 bad4
  exact (updAx_kept K h)

theorem stepRef_kept (K : Keeps P) {v0 v1 v2 v3} (h : Kept P v3) :
    Kept P (Machine.stepRef v0 v1 v2 v3).2 := by
  unfold Machine.stepRef
  extract_lets x4 r5 i6 ra7 rb8
  split
  · exact h
  · exact (updAx_kept K (takeRefs_kept K h))

theorem updSpin_kept (_K : Keeps P) {v0 v1 v2} (h : Kept P v2) :
    Kept P (Machine.updSpin v0 v1 v2) := by
  unfold Machine.updSpin
  exact (lit_kept h rfl rfl rfl rfl rfl rfl rfl rfl rfl)

theorem updCrs_kept (_K : Keeps P) {v0 v1 v2} (h : Kept P v2) :
    Kept P (Machine.updCrs v0 v1 v2) := by
  unfold Machine.updCrs
  exact (lit_kept h rfl rfl rfl rfl rfl rfl rfl rfl rfl)

theorem motEnter_kept (K : Keeps P) {v0 v1 v2} (h : Kept P v2) :
    Kept P (Machine.motEnter v0 v1 v2) := by
  unfold Machine.motEnter
  extract_lets driven3 s4 s5
  have h6 : Kept P s4 := (updBus_kept K (updSpin_kept K (put_kept K h)))
  clear_value s4
  have h7 : Kept P s5 := by
    unfold s5
    refine ite_kept ?_ ?_
    · exact h6
    · exact (put_kept K h6)
  clear_value s5
  refine ite_kept ?_ ?_
  · exact h7
  · exact (raise_kept K h7)

theorem retractBay_kept (K : Keeps P) {v0 v1} (h : Kept P v1) :
    Kept P (Machine.retractBay v0 v1) := by
  unfold Machine.retractBay
  exact (retractHead_kept K (retractHead_kept K h))

theorem coastSpindle_kept (K : Keeps P) {v0 v1} (h : Kept P v1) :
    Kept P (Machine.coastSpindle v0 v1) := by
  unfold Machine.coastSpindle
  extract_lets st2
  refine ite_kept ?_ ?_
  · exact h
  · exact (motEnter_kept K (updSpin_kept K h))

theorem sendPacket_kept (K : Keeps P) {v0 v1 v2 v3} (h : Kept P v3) :
    Kept P (Machine.sendPacket v0 v1 v2 v3) := by
  unfold Machine.sendPacket
  exact (updBus_kept K h)

theorem sendPeriod_kept (K : Keeps P) {v0 v1} (h : Kept P v1) :
    Kept P (Machine.sendPeriod v0 v1) := by
  unfold Machine.sendPeriod
  extract_lets p2
  exact (sendPacket_kept K (sendPacket_kept K h))

theorem regulateTo_kept (K : Keeps P) {v0 v1 v2 v3} (h : Kept P v3) :
    Kept P (Machine.regulateTo v0 v1 v2 v3) := by
  unfold Machine.regulateTo
  extract_lets x4
  split
  · extract_lets raw11 w12 s13 s14
    have h15 : Kept P s13 := (updSpin_kept K h)
    clear_value s13
    have h16 : Kept P s14 := by
      unfold s14
      refine ite_kept ?_ ?_
      · exact (bump_kept K h15)
      · exact h15
    clear_value s14
    refine ite_kept ?_ ?_
    · exact h16
    · exact (bump_kept K h16)

theorem controlPeriod_kept (K : Keeps P) {v0 v1} (h : Kept P v1) :
    Kept P (Machine.controlPeriod v0 v1) := by
  unfold Machine.controlPeriod
  extract_lets st2 x3 still4
  refine sendPeriod_kept K ?_
  refine ite_kept ?_ ?_
  · try unfold still4
    exact (updSpin_kept K h)
  · refine ite_kept ?_ ?_
    · exact (regulateTo_kept K h)
    · refine ite_kept ?_ ?_
      · exact (regulateTo_kept K h)
      · refine ite_kept ?_ ?_
        · exact (regulateTo_kept K h)
        · exact (regulateTo_kept K h)

theorem execObserverLoss_kept (K : Keeps P) {v0 v1 v2} (h : Kept P v2) :
    KeptOut P (Machine.execObserverLoss v0 v1 v2) := by
  unfold Machine.execObserverLoss
  extract_lets x3 st4 s5 s6 since7 again8 s9
  have h10 : Kept P s5 := (raise_kept K (bump_kept K (put_kept K (put_kept K h))))
  clear_value s5
  have h11 : Kept P s6 := by
    unfold s6
    refine retractBay_kept K ?_
    refine ite_kept ?_ ?_
    · exact (raise_kept K h10)
    · exact h10
  clear_value s6
  have h12 : Kept P s9 := (updSpin_kept K h11)
  clear_value s9
  refine iteO_kept ?_ ?_
  · exact (next_kept h)
  · refine iteO_kept ?_ ?_
    · refine iteO_kept ?_ ?_
      · exact (next_kept h12)
      · refine iteO_kept ?_ ?_
        · exact (next_kept (motEnter_kept K (updBus_kept K h12)))
        · exact (next_kept (updSpin_kept K (motEnter_kept K h12)))
    · exact (next_kept (controlPeriod_kept K (updSpin_kept K h12)))

theorem losePeriod_kept (K : Keeps P) {v0 v1} (h : Kept P v1) :
    Kept P (Machine.losePeriod v0 v1) := by
  unfold Machine.losePeriod
  extract_lets x2
  refine ite_kept ?_ ?_
  · exact h
  · refine ite_kept ?_ ?_
    · exact (motEnter_kept K h)
    · exact (updSpin_kept K h)

theorem execRecapture_kept (K : Keeps P) {v0 v1} (h : Kept P v1) :
    KeptOut P (Machine.execRecapture v0 v1) := by
  unfold Machine.execRecapture
  extract_lets c2 rpm3
  refine iteO_kept ?_ ?_
  · exact (next_kept h)
  · refine iteO_kept ?_ ?_
    · exact (next_kept (coastSpindle_kept K h))
    · exact (next_kept (updSpin_kept K (motEnter_kept K (put_kept K (put_kept K h)))))

theorem applyRecorded_kept (K : Keeps P) {v0 v1} (h : Kept P v1) :
    Kept P (Machine.applyRecorded v0 v1) := by
  unfold Machine.applyRecorded
  exact (updSpin_kept K h)

theorem execConfirmEnd_kept (K : Keeps P) {v0 v1} (h : Kept P v1) :
    KeptOut P (Machine.execConfirmEnd v0 v1) := by
  unfold Machine.execConfirmEnd
  refine iteO_kept ?_ ?_
  · exact (next_kept h)
  · exact (next_kept (applyRecorded_kept K (motEnter_kept K (raise_kept K (bump_kept K h)))))

theorem execCatchFail_kept (K : Keeps P) {v0 v1} (h : Kept P v1) :
    KeptOut P (Machine.execCatchFail v0 v1) := by
  unfold Machine.execCatchFail
  refine iteO_kept ?_ ?_
  · exact (next_kept h)
  · exact (next_kept (coastSpindle_kept K (raise_kept K (bump_kept K h))))

theorem execCoastEnd_kept (K : Keeps P) {v0 v1} (h : Kept P v1) :
    KeptOut P (Machine.execCoastEnd v0 v1) := by
  unfold Machine.execCoastEnd
  extract_lets x2 slow3
  refine iteO_kept ?_ ?_
  · exact (next_kept h)
  · exact (next_kept (motEnter_kept K h))

theorem execBrakeEnd_kept (K : Keeps P) {v0 v1} (h : Kept P v1) :
    KeptOut P (Machine.execBrakeEnd v0 v1) := by
  unfold Machine.execBrakeEnd
  refine iteO_kept ?_ ?_
  · exact (next_kept h)
  · exact (next_kept (put_kept K (motEnter_kept K (raise_kept K (updSpin_kept K h)))))

theorem execAlignEnd_kept (K : Keeps P) {v0 v1} (h : Kept P v1) :
    KeptOut P (Machine.execAlignEnd v0 v1) := by
  unfold Machine.execAlignEnd
  refine iteO_kept ?_ ?_
  · exact (next_kept h)
  · exact (next_kept (motEnter_kept K h))

theorem execSpindleHandover_kept (K : Keeps P) {v0 v1} (h : Kept P v1) :
    KeptOut P (Machine.execSpindleHandover v0 v1) := by
  unfold Machine.execSpindleHandover
  refine iteO_kept ?_ ?_
  · exact (next_kept h)
  · exact (next_kept (bump_kept K (motEnter_kept K (updSpin_kept K h))))

theorem execRampFail_kept (K : Keeps P) {v0 v1} (h : Kept P v1) :
    KeptOut P (Machine.execRampFail v0 v1) := by
  unfold Machine.execRampFail
  extract_lets n2 s3
  have h4 : Kept P s3 := (raise_kept K (bump_kept K h))
  clear_value s3
  refine iteO_kept ?_ ?_
  · exact (next_kept h)
  · refine iteO_kept ?_ ?_
    · exact (next_kept (motEnter_kept K (updSpin_kept K h4)))
    · exact (next_kept (put_kept K (motEnter_kept K (updSpin_kept K h4))))

theorem execSpeedLock_kept (K : Keeps P) {v0 v1} (h : Kept P v1) :
    KeptOut P (Machine.execSpeedLock v0 v1) := by
  unfold Machine.execSpeedLock
  refine iteO_kept ?_ ?_
  · exact (next_kept h)
  · exact (next_kept (raise_kept K (put_kept K h)))

theorem execStopDecelEnd_kept (K : Keeps P) {v0 v1} (h : Kept P v1) :
    KeptOut P (Machine.execStopDecelEnd v0 v1) := by
  unfold Machine.execStopDecelEnd
  refine iteO_kept ?_ ?_
  · exact (next_kept h)
  · exact (next_kept (motEnter_kept K h))

theorem motResult_kept (K : Keeps P) {v0 v1 v2 v3} (h : Kept P v3) :
    Kept P (Machine.motResult v0 v1 v2 v3) := by
  unfold Machine.motResult
  exact (putAll_kept K h)

theorem setSpeed_kept (K : Keeps P) {v0 v1 v2} (h : Kept P v2) :
    Kept P (Machine.setSpeed v0 v1 v2) := by
  unfold Machine.setSpeed
  extract_lets st3
  refine ite_kept ?_ ?_
  · exact (motResult_kept K h)
  · refine ite_kept ?_ ?_
    · exact (motResult_kept K h)
    · refine ite_kept ?_ ?_
      · refine ite_kept ?_ ?_
        · exact (motResult_kept K h)
        · refine ite_kept ?_ ?_
          · exact (motResult_kept K h)
          · exact (motEnter_kept K (motResult_kept K (updSpin_kept K h)))
      · refine ite_kept ?_ ?_
        · exact (motResult_kept K (updSpin_kept K h))
        · refine ite_kept ?_ ?_
          · exact (motResult_kept K (put_kept K (updSpin_kept K h)))
          · refine ite_kept ?_ ?_
            · exact (motResult_kept K (updSpin_kept K h))
            · refine ite_kept ?_ ?_
              · exact (motEnter_kept K (motResult_kept K (updSpin_kept K h)))
              · exact (motResult_kept K h)

theorem execSetSpeed_kept (K : Keeps P) {v0 v1} (h : Kept P v1) :
    KeptOut P (Machine.execSetSpeed v0 v1) := by
  unfold Machine.execSetSpeed
  refine iteO_kept ?_ ?_
  · exact (next_kept h)
  · exact (next_kept (setSpeed_kept K h))

theorem stopSpindle_kept (K : Keeps P) {v0 v1} (h : Kept P v1) :
    Kept P (Machine.stopSpindle v0 v1) := by
  unfold Machine.stopSpindle
  extract_lets st2
  refine ite_kept ?_ ?_
  · refine ite_kept ?_ ?_
    · exact (coastSpindle_kept K h)
    · exact (put_kept K (updSpin_kept K h))
  · refine ite_kept ?_ ?_
    · exact (motEnter_kept K h)
    · refine ite_kept ?_ ?_
      · exact (coastSpindle_kept K h)
      · exact h

theorem execSpindleStop_kept (K : Keeps P) {v0 v1} (h : Kept P v1) :
    KeptOut P (Machine.execSpindleStop v0 v1) := by
  unfold Machine.execSpindleStop
  refine iteO_kept ?_ ?_
  · exact (next_kept h)
  · refine iteO_kept ?_ ?_
    · exact (next_kept (motResult_kept K h))
    · exact (next_kept (stopSpindle_kept K (retractBay_kept K (motResult_kept K h))))

theorem execSpindleCoast_kept (K : Keeps P) {v0 v1} (h : Kept P v1) :
    KeptOut P (Machine.execSpindleCoast v0 v1) := by
  unfold Machine.execSpindleCoast
  refine iteO_kept ?_ ?_
  · exact (next_kept h)
  · refine iteO_kept ?_ ?_
    · exact (next_kept (motResult_kept K h))
    · exact (next_kept (coastSpindle_kept K (retractBay_kept K (motResult_kept K h))))

theorem execMotClearFault_kept (K : Keeps P) {v0 v1} (h : Kept P v1) :
    KeptOut P (Machine.execMotClearFault v0 v1) := by
  unfold Machine.execMotClearFault
  refine iteO_kept ?_ ?_
  · exact (next_kept h)
  · refine iteO_kept ?_ ?_
    · exact (next_kept (motResult_kept K h))
    · exact (next_kept (motEnter_kept K (put_kept K (motResult_kept K h))))

theorem execMotCmdRefused_kept (K : Keeps P) {v0 v1 v2} (h : Kept P v2) :
    KeptOut P (Machine.execMotCmdRefused v0 v1 v2) := by
  unfold Machine.execMotCmdRefused
  refine iteO_kept ?_ ?_
  · exact (next_kept h)
  · exact (next_kept (motResult_kept K h))

theorem execMotEnable_kept (K : Keeps P) {v0 v1 v2} (h : Kept P v2) :
    KeptOut P (Machine.execMotEnable v0 v1 v2) := by
  unfold Machine.execMotEnable
  extract_lets s3
  have h4 : Kept P s3 := (put_kept K h)
  clear_value s3
  refine iteO_kept ?_ ?_
  · exact (next_kept h)
  · refine iteO_kept ?_ ?_
    · exact (next_kept (coastSpindle_kept K (retractBay_kept K h4)))
    · exact (next_kept h4)

theorem execMotClrCnt_kept (K : Keeps P) {v0 v1} (h : Kept P v1) :
    KeptOut P (Machine.execMotClrCnt v0 v1) := by
  unfold Machine.execMotClrCnt
  refine iteO_kept ?_ ?_
  · exact (next_kept h)
  · exact (next_kept (clearAll_kept K h))

theorem execChopperFault_kept (K : Keeps P) {v0 v1} (h : Kept P v1) :
    KeptOut P (Machine.execChopperFault v0 v1) := by
  unfold Machine.execChopperFault
  extract_lets x2 s3
  have h4 : Kept P s3 := (raise_kept K (bump_kept K (put_kept K h)))
  clear_value s3
  refine iteO_kept ?_ ?_
  · exact (next_kept h)
  · exact (next_kept (forAll_kept K (fun a5 a6 h7 => by
      extract_lets t8
      have h9 : Kept P t8 := (put_kept K h7)
      clear_value t8
      refine ite_kept ?_ ?_
      · exact (coastSpindle_kept K h9)
      · exact h9) h4))

theorem execChopFaultClr_kept (K : Keeps P) {v0 v1} (h : Kept P v1) :
    KeptOut P (Machine.execChopFaultClr v0 v1) := by
  unfold Machine.execChopFaultClr
  refine iteO_kept ?_ ?_
  · exact (next_kept h)
  · exact (next_kept (forAll_kept K (fun a2 a3 h4 => (put_kept K h4)) (updCrs_kept K (put_kept K h))))

theorem carouselOff_kept (K : Keeps P) {v0 v1 v2} (h : Kept P v2) :
    Kept P (Machine.carouselOff v0 v1 v2) := by
  unfold Machine.carouselOff
  exact (putAll_kept K (updCrs_kept K h))

theorem overvoltage_kept (K : Keeps P) {v0 v1} (h : Kept P v1) :
    Kept P (Machine.overvoltage v0 v1) := by
  unfold Machine.overvoltage
  extract_lets s2 s3
  have h4 : Kept P s2 := (raise_kept K (bump_kept K (put_kept K h)))
  clear_value s2
  have h5 : Kept P s3 := (carouselOff_kept K h4)
  clear_value s3
  refine ite_kept ?_ ?_
  · exact h
  · exact (forAll_kept K (fun a6 a7 h8 => by
      refine stepperOff_kept K ?_
      refine ite_kept ?_ ?_
      · exact (retractBay_kept K h8)
      · exact (coastSpindle_kept K (retractBay_kept K h8))) h5)

theorem execOvClr_kept (K : Keeps P) {v0 v1} (h : Kept P v1) :
    KeptOut P (Machine.execOvClr v0 v1) := by
  unfold Machine.execOvClr
  refine iteO_kept ?_ ?_
  · exact (next_kept h)
  · exact (next_kept (forAll_kept K (fun a2 a3 h4 => (stepperOn_kept K h4)) (put_kept K h)))

theorem execCarouselEnable_kept (K : Keeps P) {v0 v1 v2} (h : Kept P v2) :
    KeptOut P (Machine.execCarouselEnable v0 v1 v2) := by
  unfold Machine.execCarouselEnable
  extract_lets s3
  have h4 : Kept P s3 := (put_kept K h)
  clear_value s3
  refine iteO_kept ?_ ?_
  · exact (next_kept h)
  · refine iteO_kept ?_ ?_
    · exact (next_kept (updCrs_kept K (carouselOff_kept K h4)))
    · refine iteO_kept ?_ ?_
      · exact (next_kept h4)
      · refine iteO_kept ?_ ?_
        · exact (next_kept h4)
        · exact (next_kept (updCrs_kept K h4))

theorem execCarouselAlignDone_kept (K : Keeps P) {v0 v1} (h : Kept P v1) :
    KeptOut P (Machine.execCarouselAlignDone v0 v1) := by
  unfold Machine.execCarouselAlignDone
  extract_lets x2 n3 turn4
  refine iteO_kept ?_ ?_
  · exact (next_kept h)
  · exact (next_kept (put_kept K (updCrs_kept K h)))

theorem cmotResult_kept (K : Keeps P) {v0 v1 v2 v3} (h : Kept P v3) :
    Kept P (Machine.cmotResult v0 v1 v2 v3) := by
  unfold Machine.cmotResult
  exact (putAll_kept K h)

theorem moveCar_kept (K : Keeps P) {v0 v1 v2 v3} (h : Kept P v3) :
    Kept P (Machine.moveCar v0 v1 v2 v3) := by
  unfold Machine.moveCar
  extract_lets fwd4
  refine ite_kept ?_ ?_
  · exact (raise_kept K (putAll_kept K (updCrs_kept K h)))
  · exact (putAll_kept K (updCrs_kept K h))

theorem execCarouselMove_kept (K : Keeps P) {v0 v1} (h : Kept P v1) :
    KeptOut P (Machine.execCarouselMove v0 v1) := by
  unfold Machine.execCarouselMove
  extract_lets slot2
  refine iteO_kept ?_ ?_
  · exact (next_kept h)
  · split
    · exact (next_kept (cmotResult_kept K h))
    · exact (next_kept (moveCar_kept K (cmotResult_kept K h)))

theorem execCarouselStop_kept (K : Keeps P) {v0 v1} (h : Kept P v1) :
    KeptOut P (Machine.execCarouselStop v0 v1) := by
  unfold Machine.execCarouselStop
  extract_lets st2 s3
  have h4 : Kept P s3 := (put_kept K (updCrs_kept K (cmotResult_kept K h)))
  clear_value s3
  refine iteO_kept ?_ ?_
  · exact (next_kept h)
  · refine iteO_kept ?_ ?_
    · exact (next_kept (cmotResult_kept K h))
    · refine next_kept ?_
      refine ite_kept ?_ ?_
      · exact (put_kept K h4)
      · exact h4

theorem startHome_kept (K : Keeps P) {v0 v1} (h : Kept P v1) :
    Kept P (Machine.startHome v0 v1) := by
  unfold Machine.startHome
  exact (putAll_kept K (updCrs_kept K h))

theorem execCarouselHome_kept (K : Keeps P) {v0 v1} (h : Kept P v1) :
    KeptOut P (Machine.execCarouselHome v0 v1) := by
  unfold Machine.execCarouselHome
  refine iteO_kept ?_ ?_
  · exact (next_kept h)
  · refine iteO_kept ?_ ?_
    · exact (next_kept (updCrs_kept K (put_kept K (cmotResult_kept K h))))
    · refine iteO_kept ?_ ?_
      · exact (next_kept (cmotResult_kept K h))
      · exact (next_kept (startHome_kept K (cmotResult_kept K h)))

theorem execCarouselRelease_kept (K : Keeps P) {v0 v1} (h : Kept P v1) :
    KeptOut P (Machine.execCarouselRelease v0 v1) := by
  unfold Machine.execCarouselRelease
  refine iteO_kept ?_ ?_
  · exact (next_kept h)
  · refine iteO_kept ?_ ?_
    · exact (next_kept (cmotResult_kept K h))
    · exact (next_kept (carouselOff_kept K (cmotResult_kept K h)))

theorem execCarouselCmdRefused_kept (K : Keeps P) {v0 v1 v2 v3} (h : Kept P v3) :
    KeptOut P (Machine.execCarouselCmdRefused v0 v1 v2 v3) := by
  unfold Machine.execCarouselCmdRefused
  refine iteO_kept ?_ ?_
  · exact (next_kept h)
  · exact (next_kept (cmotResult_kept K h))

theorem execHomeEdge_kept (K : Keeps P) {v0 v1} (h : Kept P v1) :
    KeptOut P (Machine.execHomeEdge v0 v1) := by
  unfold Machine.execHomeEdge
  split
  · exact (next_kept h)
  · extract_lets d7
    refine iteO_kept ?_ ?_
    · exact (next_kept h)
    · exact (next_kept (putI_kept K (putAll_kept K (updCrs_kept K h))))

theorem execHomeFail_kept (K : Keeps P) {v0 v1} (h : Kept P v1) :
    KeptOut P (Machine.execHomeFail v0 v1) := by
  unfold Machine.execHomeFail
  refine iteO_kept ?_ ?_
  · exact (next_kept h)
  · exact (next_kept (raise_kept K (carouselOff_kept K h)))

theorem execMoveDone_kept (K : Keeps P) {v0 v1} (h : Kept P v1) :
    KeptOut P (Machine.execMoveDone v0 v1) := by
  unfold Machine.execMoveDone
  extract_lets st2 x3
  refine iteO_kept ?_ ?_
  · exact (next_kept h)
  · refine iteO_kept ?_ ?_
    · exact (next_kept (putAll_kept K h))
    · exact (next_kept (raise_kept K (bump_kept K (putAll_kept K h))))

theorem execFollowErr_kept (K : Keeps P) {v0 v1} (h : Kept P v1) :
    KeptOut P (Machine.execFollowErr v0 v1) := by
  unfold Machine.execFollowErr
  refine iteO_kept ?_ ?_
  · exact (next_kept h)
  · exact (next_kept (raise_kept K (carouselOff_kept K h)))

theorem execReversalStart_kept (K : Keeps P) {v0 v1} (h : Kept P v1) :
    KeptOut P (Machine.execReversalStart v0 v1) := by
  unfold Machine.execReversalStart
  split
  · exact (next_kept h)
  · refine iteO_kept ?_ ?_
    · exact (next_kept h)
    · refine iteO_kept ?_ ?_
      · exact (next_kept (startHome_kept K (put_kept K (updCrs_kept K h))))
      · exact (next_kept (putAll_kept K (updCrs_kept K h)))

theorem execInterlock_kept (K : Keeps P) {v0 v1} (h : Kept P v1) :
    KeptOut P (Machine.execInterlock v0 v1) := by
  unfold Machine.execInterlock
  extract_lets st2
  refine iteO_kept ?_ ?_
  · exact (next_kept h)
  · exact (next_kept (raise_kept K (putAll_kept K (updCrs_kept K h))))

theorem execInterlockClear_kept (K : Keeps P) {v0 v1} (h : Kept P v1) :
    KeptOut P (Machine.execInterlockClear v0 v1) := by
  unfold Machine.execInterlockClear
  refine iteO_kept ?_ ?_
  · exact (next_kept h)
  · exact (next_kept (put_kept K (put_kept K h)))

theorem execCmotClrCnt_kept (K : Keeps P) {v0 v1} (h : Kept P v1) :
    KeptOut P (Machine.execCmotClrCnt v0 v1) := by
  unfold Machine.execCmotClrCnt
  refine iteO_kept ?_ ?_
  · exact (next_kept h)
  · exact (next_kept (clearAll_kept K h))

theorem dropClean_kept (K : Keeps P) {v0 v1} (h : Kept P v1) :
    Kept P (Machine.dropClean v0 v1) := by
  unfold Machine.dropClean
  exact (forgetClean_kept K h)

theorem svDone_kept (K : Keeps P) {v0 v1} (h : Kept P v1) :
    Kept P (Machine.svDone v0 v1) := by
  unfold Machine.svDone
  extract_lets us2 s3
  have h4 : Kept P s3 := (raise_kept K (svResult_kept K h))
  clear_value s3
  refine ite_kept ?_ ?_
  · exact h
  · refine ite_kept ?_ ?_
    · exact (bump_kept K (peak_kept K (put_kept K h4)))
    · exact h4

theorem goState_kept (K : Keeps P) {v0 v1 v2} (h : Kept P v2) :
    Kept P (Machine.goState v0 v1 v2) := by
  unfold Machine.goState
  refine ite_kept ?_ ?_
  · exact (updServo_kept K h)
  · exact (svState_kept K h)

theorem startRadial_kept (K : Keeps P) {v0 v1} (h : Kept P v1) :
    Kept P (Machine.startRadial v0 v1) := by
  unfold Machine.startRadial
  extract_lets v2 d3 mode4 s5 b6 ax7
  have h8 : Kept P s5 := (goState_kept K (updServo_kept K h))
  clear_value s5
  refine ite_kept ?_ ?_
  · exact (axMoveTo_kept K h8)
  · exact h8

theorem startJump_kept (K : Keeps P) {v0 v1 v2} (h : Kept P v2) :
    Kept P (Machine.startJump v0 v1 v2) := by
  unfold Machine.startJump
  exact (goState_kept K (goState_kept K (updServo_kept K h)))

theorem startSeek_kept (K : Keeps P) {v0 v1 v2 v3} (h : Kept P v3) :
    Kept P (Machine.startSeek v0 v1 v2 v3) := by
  unfold Machine.startSeek
  extract_lets s4
  have h5 : Kept P s4 := (updServo_kept K (abandonSlots_kept K (clearConfirm_kept K h)))
  clear_value s4
  refine ite_kept ?_ ?_
  · exact (startJump_kept K h5)
  · exact (startRadial_kept K h5)

theorem seekFailed_kept (K : Keeps P) {v0 v1} (h : Kept P v1) :
    Kept P (Machine.seekFailed v0 v1) := by
  unfold Machine.seekFailed
  exact (svState_kept K (raise_kept K (bump_kept K (updServo_kept K (svResult_kept K h)))))

theorem writeSvCmd_kept (K : Keeps P) {v0 v1 v2 v3 v4} (h : Kept P v4) :
    Kept P (Machine.writeSvCmd v0 v1 v2 v3 v4) := by
  unfold Machine.writeSvCmd
  exact (putAll_kept K h)

theorem svRefuse_kept (K : Keeps P) {v0 v1 v2} (h : Kept P v2) :
    Kept P (Machine.svRefuse v0 v1 v2) := by
  unfold Machine.svRefuse
  exact (putAll_kept K h)

theorem svBegin_kept (K : Keeps P) {v0 v1 v2} (h : Kept P v2) :
    Kept P (Machine.svBegin v0 v1 v2) := by
  unfold Machine.svBegin
  exact (putAll_kept K (updServo_kept K (svResult_kept K h)))

theorem beginMove_kept (K : Keeps P) {v0 v1 v2 v3 v4 v5} (h : Kept P v5) :
    Kept P (Machine.beginMove v0 v1 v2 v3 v4 v5) := by
  unfold Machine.beginMove
  extract_lets dest6 s7
  have h8 : Kept P s7 := (put_kept K (updServo_kept K h))
  clear_value s7
  refine ite_kept ?_ ?_
  · exact (svDone_kept K (updServo_kept K h8))
  · exact (startSeek_kept K h8)

theorem ladderHold_kept (K : Keeps P) {v0 v1 v2 v3 v4} (h : Kept P v4) :
    Kept P (Machine.ladderHold v0 v1 v2 v3 v4) := by
  unfold Machine.ladderHold
  extract_lets st5
  refine ite_kept ?_ ?_
  · refine ite_kept ?_ ?_
    · exact (updServo_kept K h)
    · exact (beginMove_kept K (svBegin_kept K h))
  · exact h

theorem ladderFollow_kept (K : Keeps P) {v0 v1} (h : Kept P v1) :
    Kept P (Machine.ladderFollow v0 v1) := by
  unfold Machine.ladderFollow
  exact (put_kept K (updServo_kept K h))

theorem setCoil_kept (K : Keeps P) {v0 v1 v2 v3} (h : Kept P v3) :
    Kept P (Machine.setCoil v0 v1 v2 v3) := by
  unfold Machine.setCoil
  extract_lets s4
  have h5 : Kept P s4 := (updServo_kept K h)
  clear_value s4
  refine ite_kept ?_ ?_
  · exact (putI_kept K h5)
  · exact h5

end Sys2Proof.Laws
end

