-- ==== Sys2Proof/Laws/KeptChannel.lean ====
section
/-! SUPPORT. A property that the elementary writes keep is kept by every operation and command of acquisition, detection and the optical servo. -/

namespace Sys2Proof.Laws

open Sys2Proof.Machine

variable {P : Store → Prop}

theorem wpllEnter_kept (K : Keeps P) {v0 v1 v2} (h : Kept P v2) :
    Kept P (Machine.wpllEnter v0 v1 v2) := by
  unfold Machine.wpllEnter
  extract_lets s3 s4
  have h5 : Kept P s3 := (put_kept K h)
  clear_value s3
  have h6 : Kept P s4 := by
    unfold s4
    refine ite_kept ?_ ?_
    · exact (raise_kept K h5)
    · refine ite_kept ?_ ?_
      · exact (bump_kept K (updChan_kept K h5))
      · refine ite_kept ?_ ?_
        · exact (clearConfirm_kept K (raise_kept K (bump_kept K (updChan_kept K h5))))
        · exact h5
  clear_value s4
  exact (permits_kept K h6)

theorem execWpllAcquire_kept (K : Keeps P) {v0 v1 v2 v3} (h : Kept P v3) :
    KeptOut P (Machine.execWpllAcquire v0 v1 v2 v3) := by
  unfold Machine.execWpllAcquire
  refine iteO_kept ?_ ?_
  · exact (next_kept h)
  · exact (next_kept (wpllEnter_kept K (updChan_kept K h)))

theorem execWpllLock_kept (K : Keeps P) {v0 v1 v2} (h : Kept P v2) :
    KeptOut P (Machine.execWpllLock v0 v1 v2) := by
  unfold Machine.execWpllLock
  refine iteO_kept ?_ ?_
  · exact (next_kept h)
  · exact (next_kept (wpllEnter_kept K h))

theorem execWpllHold_kept (K : Keeps P) {v0 v1 v2 v3} (h : Kept P v3) :
    KeptOut P (Machine.execWpllHold v0 v1 v2 v3) := by
  unfold Machine.execWpllHold
  refine iteO_kept ?_ ?_
  · exact (next_kept h)
  · exact (next_kept (wpllEnter_kept K h))

theorem execWpllHoldReturn_kept (K : Keeps P) {v0 v1 v2 v3 v4} (h : Kept P v4) :
    KeptOut P (Machine.execWpllHoldReturn v0 v1 v2 v3 v4) := by
  unfold Machine.execWpllHoldReturn
  refine iteO_kept ?_ ?_
  · exact (next_kept h)
  · exact (next_kept (wpllEnter_kept K h))

theorem execWpllLost_kept (K : Keeps P) {v0 v1 v2 v3} (h : Kept P v3) :
    KeptOut P (Machine.execWpllLost v0 v1 v2 v3) := by
  unfold Machine.execWpllLost
  extract_lets st4 due5
  refine iteO_kept ?_ ?_
  · exact (next_kept h)
  · exact (next_kept (wpllEnter_kept K h))

theorem extentSeam_kept (K : Keeps P) {v0 v1 v2} (h : Kept P v2) :
    Kept P (Machine.extentSeam v0 v1 v2) := by
  unfold Machine.extentSeam
  extract_lets w3 st4
  refine ite_kept ?_ ?_
  · exact (put_kept K (put_kept K h))
  · refine ite_kept ?_ ?_
    · exact (put_kept K h)
    · exact h

theorem servoSeam_kept (K : Keeps P) {v0 v1 v2 v3} (h : Kept P v3) :
    Kept P (Machine.servoSeam v0 v1 v2 v3) := by
  unfold Machine.servoSeam
  extract_lets v4 st5
  split
  · exact h
  · refine ite_kept ?_ ?_
    · exact (startSeek_kept K h)
    · refine ite_kept ?_ ?_
      · exact (updServo_kept K h)
      · refine ite_kept ?_ ?_
        · exact (updServo_kept K h)
        · exact h

theorem microSeam_kept (K : Keeps P) {v0 v1 v2} (h : Kept P v2) :
    Kept P (Machine.microSeam v0 v1 v2) := by
  unfold Machine.microSeam
  extract_lets go3 as4
  exact (updChan_kept K h)

theorem execSeam_kept (K : Keeps P) {v0 v1 v2} (h : Kept P v2) :
    KeptOut P (Machine.execSeam v0 v1 v2) := by
  unfold Machine.execSeam
  extract_lets b3 n4 s5 s6
  have h7 : Kept P s5 := (updChan_kept K h)
  clear_value s5
  have h8 : Kept P s6 := by
    unfold s6
    refine ite_kept ?_ ?_
    · exact (put_kept K h7)
    · exact h7
  clear_value s6
  refine iteO_kept ?_ ?_
  · exact (next_kept h)
  · refine next_kept ?_
    refine permits_kept K ?_
    refine ite_kept ?_ ?_
    · exact (servoSeam_kept K (put_kept K (put_kept K (extentSeam_kept K (microSeam_kept K h8)))))
    · exact h8

theorem execSlotOpen_kept (K : Keeps P) {v0 v1 v2} (h : Kept P v2) :
    KeptOut P (Machine.execSlotOpen v0 v1 v2) := by
  unfold Machine.execSlotOpen
  extract_lets f3 slot4 addr5 c6 verify7 limit8 known9
  refine iteO_kept ?_ ?_
  · exact (next_kept h)
  · refine iteO_kept ?_ ?_
    · refine iteO_kept ?_ ?_
      · exact (next_kept h)
      · exact (next_kept (updChan_kept K h))
    · exact (next_kept (updLoop_kept K (takeForces_kept K (updChan_kept K h))))

theorem loopTo_kept (K : Keeps P) {v0 v1 v2 v3 v4} (h : Kept P v4) :
    Kept P (Machine.loopTo v0 v1 v2 v3 v4) := by
  unfold Machine.loopTo
  refine ite_kept ?_ ?_
  · exact h
  · exact (updLoop_kept K h)

theorem updSlot_kept (K : Keeps P) {v0 v1 v2 v3} (h : Kept P v3) :
    Kept P (Machine.updSlot v0 v1 v2 v3) := by
  unfold Machine.updSlot
  exact (updChan_kept K h)

theorem updSector_kept (K : Keeps P) {v0 v1 v2 v3} (h : Kept P v3) :
    Kept P (Machine.updSector v0 v1 v2 v3) := by
  unfold Machine.updSector
  exact (updChan_kept K h)

theorem updCw_kept (K : Keeps P) {v0 v1 v2 v3 v4} (h : Kept P v4) :
    Kept P (Machine.updCw v0 v1 v2 v3 v4) := by
  unfold Machine.updCw
  exact (updSector_kept K h)

theorem execSlotBlank_kept (K : Keeps P) {v0 v1 v2 v3} (h : Kept P v3) :
    KeptOut P (Machine.execSlotBlank v0 v1 v2 v3) := by
  unfold Machine.execSlotBlank
  split
  · exact (next_kept h)
  · refine iteO_kept ?_ ?_
    · exact (next_kept h)
    · exact (next_kept (when_kept K (fun a9 h10 => (verifyFail_kept K h10)) (bump_kept K (updLoop_kept K (updChan_kept K h)))))

theorem enterSearch_kept (K : Keeps P) {v0 v1 v2} (h : Kept P v2) :
    Kept P (Machine.enterSearch v0 v1 v2) := by
  unfold Machine.enterSearch
  exact (updLoop_kept K (updSlot_kept K h))

theorem execSmWindowClose_kept (K : Keeps P) {v0 v1 v2 v3 v4 v5} (h : Kept P v5) :
    KeptOut P (Machine.execSmWindowClose v0 v1 v2 v3 v4 v5) := by
  unfold Machine.execSmWindowClose
  split
  · exact (next_kept h)
  · extract_lets s11 thr12 cands13
    have h14 : Kept P s11 := (loopTo_kept K (enterSearch_kept K h))
    clear_value s11
    refine iteO_kept ?_ ?_
    · exact (next_kept h)
    · split
      · exact (next_kept (updSlot_kept K h14))
      · exact (next_kept (updSlot_kept K h14))

theorem releaseTo_kept (K : Keeps P) {v0 v1 v2 v3} (h : Kept P v3) :
    Kept P (Machine.releaseTo v0 v1 v2 v3) := by
  unfold Machine.releaseTo
  split
  · exact h
  · extract_lets hy9 s10
    have h11 : Kept P s10 := (updSector_kept K h)
    clear_value s10
    exact (updChan_kept K (updSlot_kept K h11))

theorem adaptOfs_kept (K : Keeps P) {v0 v1 v2 v3} (h : Kept P v3) :
    Kept P (Machine.adaptOfs v0 v1 v2 v3) := by
  unfold Machine.adaptOfs
  extract_lets f4
  exact (putI_kept K h)

theorem execResyncMark_kept (K : Keeps P) {hd beam j phase trim decs s} (h : Kept P s) :
    KeptOut P (Machine.execResyncMark hd beam j phase trim decs s) := by
  unfold Machine.execResyncMark
  split
  · exact next_kept h
  · refine iteO_kept (next_kept h) ?_
    extract_lets found frame d s1 s2 r s3 s4 s5
    have h1 : Kept P s1 := by
      unfold s1
      clear_value found
      cases found
      · exact bump_kept K h
      · exact ite_kept h (bump_kept K h)
    have h2 : Kept P s2 := updLoop_kept K (loopTo_kept K (updSlot_kept K h1))
    clear_value s2
    refine iteO_kept (next_kept (ite_kept (adaptOfs_kept K h2) h2)) (iteO_kept (next_kept (releaseTo_kept K ?_)) (next_kept (releaseTo_kept K h2)))
    have h3 : Kept P s3 := updSlot_kept K h2
    have h4 : Kept P s4 := ite_kept (raise_kept K (bump_kept K h3)) h3
    exact ite_kept h4 (bump_kept K h4)

theorem execPostambleEnd_kept (K : Keeps P) {v0 v1 v2} (h : Kept P v2) :
    KeptOut P (Machine.execPostambleEnd v0 v1 v2) := by
  unfold Machine.execPostambleEnd
  split
  · exact (next_kept h)
  · refine iteO_kept ?_ ?_
    · exact (next_kept h)
    · exact (next_kept (updChan_kept K (updLoop_kept K (releaseTo_kept K h))))

theorem askFret_kept (K : Keeps P) {v0 v1 v2 v3} (h : Kept P v3) :
    Kept P (Machine.askFret v0 v1 v2 v3) := by
  unfold Machine.askFret
  exact (updChan_kept K (sendAdc_kept K h))

theorem execFretCrossingAdcCfg_kept (K : Keeps P) {v0 v1} (h : Kept P v1) :
    KeptOut P (Machine.execFretCrossingAdcCfg v0 v1) := by
  unfold Machine.execFretCrossingAdcCfg
  extract_lets b2 f3
  refine iteO_kept ?_ ?_
  · exact (next_kept h)
  · split
    · exact (next_kept (askFret_kept K h))
    · refine iteO_kept ?_ ?_
      · exact (next_kept (askFret_kept K h))
      · refine iteO_kept ?_ ?_
        · exact (next_kept (askFret_kept K h))
        · refine iteO_kept ?_ ?_
          · exact (next_kept (askFret_kept K h))
          · exact (next_kept h)

theorem execAdcCfgInForce_kept (K : Keeps P) {v0 v1} (h : Kept P v1) :
    KeptOut P (Machine.execAdcCfgInForce v0 v1) := by
  unfold Machine.execAdcCfgInForce
  split
  · exact (next_kept h)
  · extract_lets s9
    have h10 : Kept P s9 := (put_kept K (put_kept K (updLink_kept K h)))
    clear_value s9
    refine iteO_kept ?_ ?_
    · exact (next_kept h)
    · refine next_kept ?_
      refine permits_kept K ?_
      refine ite_kept ?_ ?_
      · exact (takeForces_kept K h10)
      · exact h10

theorem execChEnable_kept (K : Keeps P) {v0 v1 v2} (h : Kept P v2) :
    KeptOut P (Machine.execChEnable v0 v1 v2) := by
  unfold Machine.execChEnable
  extract_lets s3
  have h4 : Kept P s3 := (put_kept K h)
  clear_value s3
  refine iteO_kept ?_ ?_
  · exact (next_kept h)
  · refine iteO_kept ?_ ?_
    · refine next_kept ?_
      refine ite_kept ?_ ?_
      · exact (wpllEnter_kept K h4)
      · exact h4
    · exact (next_kept (clearConfirm_kept K (wpllEnter_kept K (abandonSlots_kept K h4))))

theorem execChReadEn_kept (K : Keeps P) {v0 v1 v2} (h : Kept P v2) :
    KeptOut P (Machine.execChReadEn v0 v1 v2) := by
  unfold Machine.execChReadEn
  refine iteO_kept ?_ ?_
  · exact (next_kept h)
  · exact (next_kept (permits_kept K (put_kept K h)))

theorem execChClrCnt_kept (K : Keeps P) {v0 v1} (h : Kept P v1) :
    KeptOut P (Machine.execChClrCnt v0 v1) := by
  unfold Machine.execChClrCnt
  refine iteO_kept ?_ ?_
  · exact (next_kept h)
  · exact (next_kept (clearAll_kept K h))

theorem raiseCH_kept (K : Keeps P) {v0 v1 v2} (h : Kept P v2) :
    Kept P (Machine.raiseCH v0 v1 v2) := by
  unfold Machine.raiseCH
  exact (raise_kept K h)

theorem rereadSector_kept (K : Keeps P) {v0 v1 v2} (h : Kept P v2) :
    Kept P (Machine.rereadSector v0 v1 v2) := by
  unfold Machine.rereadSector
  extract_lets v3 s4
  have h5 : Kept P s4 := (countPending_kept K (dropJobs_kept K (updChan_kept K h)))
  clear_value s4
  refine ite_kept ?_ ?_
  · exact (verifyFail_kept K h5)
  · exact h5

theorem partnerCtl_kept (K : Keeps P) {v0 v1} (h : Kept P v1) :
    Kept P (Machine.partnerCtl v0 v1) := by
  unfold Machine.partnerCtl
  refine ite_kept ?_ ?_
  · exact (putB_kept K h)
  · exact h

theorem engineOut_kept (K : Keeps P) {v0 v1 v2} (h : Kept P v2) :
    Kept P (Machine.engineOut v0 v1 v2) := by
  unfold Machine.engineOut
  extract_lets m3
  exact (partnerCtl_kept K (partnerCtl_kept K (put_kept K h)))

theorem enginesReset_kept (K : Keeps P) {v0 v1 v2 v3 v4} (h : Kept P v4) :
    Kept P (Machine.enginesReset v0 v1 v2 v3 v4) := by
  unfold Machine.enginesReset
  extract_lets q5 m6 clear7
  exact (partnerCtl_kept K (partnerCtl_kept K (put_kept K (put_kept K (put_kept K h)))))

theorem enqueue_kept (K : Keeps P) {v0 v1} (h : Kept P v1) :
    Kept P (Machine.enqueue v0 v1) := by
  unfold Machine.enqueue
  extract_lets q2
  exact (poolDepth_kept K (updPool_kept K h))

theorem handOver_kept (K : Keeps P) {v0 v1 v2 v3} (h : Kept P v3) :
    Kept P (Machine.handOver v0 v1 v2 v3) := by
  unfold Machine.handOver
  split
  · exact h
  · extract_lets failed9 mask10 last11 revs12 s13 s14
    have h15 : Kept P s13 := (updChan_kept K (updSector_kept K (dropJobs_kept K h)))
    clear_value s13
    have h16 : Kept P s14 := by
      unfold s14
      split
      · exact h15
      · exact (updDisc_kept K h15)
    clear_value s14
    exact (countPending_kept K (raiseCH_kept K (bump_kept K (refreshArbours_kept K h16))))

theorem pinSources_kept (K : Keeps P) {v0 v1} (h : Kept P v1) :
    Kept P (Machine.pinSources v0 v1) := by
  unfold Machine.pinSources
  refine ite_kept ?_ ?_
  · exact (updChan_kept K h)
  · exact h

theorem judgeSector_kept (K : Keeps P) {v0 v1 v2 v3} (h : Kept P v3) :
    Kept P (Machine.judgeSector v0 v1 v2 v3) := by
  unfold Machine.judgeSector
  extract_lets w4 s5
  have h6 : Kept P s5 := (updChan_kept K h)
  clear_value s5
  split
  · exact h6
  · extract_lets ok12
    refine ite_kept ?_ ?_
    · exact (verifyFail_kept K h6)
    · refine ite_kept ?_ ?_
      · exact h6
      · exact (updWrite_kept K h6)

theorem checkSector_kept (K : Keeps P) {v0 v1 v2} (h : Kept P v2) :
    Kept P (Machine.checkSector v0 v1 v2) := by
  unfold Machine.checkSector
  extract_lets payload3 free4 s5 s6
  have h7 : Kept P s5 := (raiseCH_kept K (bump_kept K h))
  clear_value s5
  have h8 : Kept P s6 := (raiseCH_kept K (bump_kept K h))
  clear_value s6
  refine ite_kept ?_ ?_
  · refine ite_kept ?_ ?_
    · refine verifyFail_kept K ?_
      try unfold free4
      exact (updChan_kept K h7)
    · exact (handOver_kept K h7)
  · refine ite_kept ?_ ?_
    · refine ite_kept ?_ ?_
      · refine verifyFail_kept K ?_
        try unfold free4
        exact (updChan_kept K h8)
      · exact (countPending_kept K (updSector_kept K h8))
    · refine ite_kept ?_ ?_
      · exact (judgeSector_kept K h)
      · exact (countPending_kept K (pinSources_kept K (updSector_kept K h)))

theorem settleSector_kept (K : Keeps P) {v0 v1 v2} (h : Kept P v2) :
    Kept P (Machine.settleSector v0 v1 v2) := by
  unfold Machine.settleSector
  split
  · exact h
  · extract_lets s8
    have h9 : Kept P s8 := (updSector_kept K h)
    clear_value s8
    refine ite_kept ?_ ?_
    · exact h
    · refine ite_kept ?_ ?_
      · exact (rereadSector_kept K (raiseCH_kept K (bump_kept K h)))
      · refine ite_kept ?_ ?_
        · exact (checkSector_kept K h9)
        · refine ite_kept ?_ ?_
          · exact (handOver_kept K h9)
          · refine ite_kept ?_ ?_
            · exact (rereadSector_kept K h9)
            · exact (countPending_kept K h9)

theorem failRung0_kept (K : Keeps P) {v0 v1 v2 v3 v4} (h : Kept P v4) :
    Kept P (Machine.failRung0 v0 v1 v2 v3 v4) := by
  unfold Machine.failRung0
  extract_lets s5
  have h6 : Kept P s5 := (raiseCH_kept K (bump_kept K h))
  clear_value s5
  split
  · exact h6
  · refine ite_kept ?_ ?_
    · exact (rereadSector_kept K h6)
    · refine ite_kept ?_ ?_
      · refine ite_kept ?_ ?_
        · exact (settleSector_kept K (updPool_kept K (updCw_kept K h6)))
        · exact (settleSector_kept K (updCw_kept K (raiseCH_kept K (bump_kept K h6))))
      · exact (settleSector_kept K (updCw_kept K h6))

theorem adaptBeam_kept (K : Keeps P) {hd addr i sigs d s} (h : Kept P s) : Kept P (Machine.adaptBeam hd addr i sigs d s) := by
  unfold Machine.adaptBeam
  extract_lets k p hard step s1
  have hs : ∀ f a t, Kept P t → Kept P (step f a t) := fun _ _ _ ht => ite_kept ht (putI_kept K ht)
  clear_value step
  have hi : ∀ (c : Prop) [Decidable c] f a t, Kept P t → Kept P ((if c then id else step f a) t) := by
    intro c _ f a t ht
    split
    · exact ht
    · exact hs _ _ _ ht
  have h1 : Kept P s1 := ite_kept (hi _ _ _ _ (hi _ _ _ _ h)) h
  clear_value s1
  exact ite_kept (updChan_kept K h1) h1

theorem execCodewordDetect_kept (K : Keeps P) {v0 v1 v2 v3 v4} (h : Kept P v4) :
    KeptOut P (Machine.execCodewordDetect v0 v1 v2 v3 v4) := by
  unfold Machine.execCodewordDetect
  split
  · exact (next_kept h)
  · extract_lets w10 k11 near12 s13 d14 s15 s16 s17 dom18 llr19 s20 more21
    have h22 : Kept P s13 := (takeForces_kept K h)
    clear_value s13
    have h23 : Kept P s15 := (putAll_kept K (bump_kept K (updChan_kept K (adaptBeam_kept K h22))))
    clear_value s15
    have h24 : Kept P s16 := by
      unfold s16
      refine ite_kept ?_ ?_
      · exact (bump_kept K h23)
      · exact h23
    clear_value s16
    have h25 : Kept P s17 := by
      unfold s17
      refine ite_kept ?_ ?_
      · exact (raiseCH_kept K (bump_kept K (updChan_kept K h24)))
      · exact h24
    clear_value s17
    have h26 : Kept P s20 := (updCw_kept K h25)
    clear_value s20
    refine iteO_kept ?_ ?_
    · exact (next_kept h)
    · refine iteO_kept ?_ ?_
      · refine iteO_kept ?_ ?_
        · exact (next_kept (failRung0_kept K h26))
        · refine iteO_kept ?_ ?_
          · exact (next_kept (rereadSector_kept K (raiseCH_kept K (bump_kept K h26))))
          · exact (next_kept (enqueue_kept K (updCw_kept K h26)))
      · refine iteO_kept ?_ ?_
        · refine iteO_kept ?_ ?_
          · exact (next_kept (settleSector_kept K (updSector_kept K (updCw_kept K (raiseCH_kept K (bump_kept K h26))))))
          · exact (next_kept (updCw_kept K h26))
        · refine iteO_kept ?_ ?_
          · exact (next_kept (updCw_kept K h26))
          · exact (next_kept (enqueue_kept K (updCw_kept K h26)))

theorem nextJob_kept (K : Keeps P) {s q} (h : Kept P s) : Kept P (Machine.nextJob s q).2 := by
  unfold Machine.nextJob
  extract_lets p take
  have ht : ∀ j t, Kept P t → Kept P (take j t) := fun j t h => poolDepth_kept K (updPool_kept K h)
  clear_value take
  split
  · exact ht _ _ h
  · split
    · split
      · exact ht _ _ (updPool_kept K h)
      · exact h
    · refine iteSnd_kept h ?_
      split
      · exact updPool_kept K h
      · split
        · exact iteSnd_kept (updPool_kept K h) h
        · exact h

theorem execDecodeAttemptStart_kept (K : Keeps P) {v0 v1 v2} (h : Kept P v2) :
    KeptOut P (Machine.execDecodeAttemptStart v0 v1 v2) := by
  unfold Machine.execDecodeAttemptStart
  refine iteO_kept ?_ ?_
  · exact (next_kept h)
  · split
    · rename_i x3 x4 x5
      have h6 : Kept P x4 := by
        rw [← (show _ = x4 from congrArg Prod.snd x5)]
        exact (nextJob_kept K h)
      exact (next_kept h)
    · rename_i x7 x8 x9 x10
      have h11 : Kept P x9 := by
        rw [← (show _ = x9 from congrArg Prod.snd x10)]
        exact (nextJob_kept K h)
      extract_lets s12 a13
      have h14 : Kept P s12 := (takeForces_kept K h11)
      clear_value s12
      exact (next_kept (updCw_kept K (updPool_kept K h14)))

theorem failAttempt_kept (K : Keeps P) {v0 v1} (h : Kept P v1) :
    Kept P (Machine.failAttempt v0 v1) := by
  unfold Machine.failAttempt
  extract_lets w2
  refine ite_kept ?_ ?_
  · exact (failRung0_kept K h)
  · split
    · exact (enqueue_kept K (updCw_kept K h))
    · exact (settleSector_kept K (updCw_kept K h))

theorem execDecodeAttemptEnd_kept (K : Keeps P) {v0 v1 v2 v3} (h : Kept P v3) :
    KeptOut P (Machine.execDecodeAttemptEnd v0 v1 v2 v3) := by
  unfold Machine.execDecodeAttemptEnd
  split
  · exact (next_kept h)
  · extract_lets j9 h10 r11 stopped12 n13 s14 s15 s16 s17
    have h18 : Kept P s14 := (bump_kept K (updPool_kept K h))
    clear_value s14
    have h19 : Kept P s15 := by
      unfold s15
      refine ite_kept ?_ ?_
      · exact (engineOut_kept K h18)
      · exact h18
    clear_value s15
    have h20 : Kept P s16 := (updCw_kept K h19)
    clear_value s16
    have h21 : Kept P s17 := (updCw_kept K (bump_kept K (bump_kept K h20)))
    clear_value s17
    refine iteO_kept ?_ ?_
    · exact (next_kept (updPool_kept K (updCw_kept K h19)))
    · refine iteO_kept ?_ ?_
      · refine next_kept ?_
        refine settleSector_kept K ?_
        refine ite_kept ?_ ?_
        · exact h21
        · exact (bump_kept K h21)
      · exact (next_kept (failAttempt_kept K h20))

theorem execEngineFault_kept (K : Keeps P) {v0 v1 v2} (h : Kept P v2) :
    KeptOut P (Machine.execEngineFault v0 v1 v2) := by
  unfold Machine.execEngineFault
  extract_lets h3 s4 s5
  have h6 : Kept P s4 := by
    unfold s4
    split
    · exact h
    · extract_lets j12 back13
      have h14 : Kept P back13 := (updPool_kept K (updCw_kept K h))
      clear_value back13
      refine ite_kept ?_ ?_
      · exact (updPool_kept K h14)
      · exact (poolDepth_kept K (updPool_kept K h14))
  clear_value s4
  have h15 : Kept P s5 := (engineOut_kept K (put_kept K h6))
  clear_value s5
  refine iteO_kept ?_ ?_
  · exact (next_kept h)
  · exact (next_kept (closeWindow_kept K (openWindow_kept K (raiseCH_kept K h15))))

theorem execPoolFenceWrite_kept (K : Keeps P) {v0 v1 v2} (h : Kept P v2) :
    KeptOut P (Machine.execPoolFenceWrite v0 v1 v2) := by
  unfold Machine.execPoolFenceWrite
  extract_lets q3 idle4
  refine iteO_kept ?_ ?_
  · exact (next_kept h)
  · exact (next_kept (forAll_kept K (fun a5 a6 h7 => (engineOut_kept K h7)) (put_kept K h)))

theorem ladderOffset_kept (K : Keeps P) {v0 v1 v2 v3} (h : Kept P v3) :
    Kept P (Machine.ladderOffset v0 v1 v2 v3) := by
  unfold Machine.ladderOffset
  exact (putI_kept K (putI_kept K h))

theorem useEqSet_kept (K : Keeps P) {v0 v1 v2} (h : Kept P v2) :
    Kept P (Machine.useEqSet v0 v1 v2) := by
  unfold Machine.useEqSet
  exact (updChan_kept K h)

theorem startBand_kept (K : Keeps P) {v0 v1} (h : Kept P v1) :
    Kept P (Machine.startBand v0 v1) := by
  unfold Machine.startBand
  split
  · refine ladderFollow_kept K ?_
    refine countPending_kept K ?_
    refine putAll_kept K ?_
    refine ite_kept ?_ ?_
    · exact (put_kept K h)
    · exact h
  · extract_lets s8
    have h9 : Kept P s8 := (countPending_kept K (putAll_kept K (updChan_kept K h)))
    clear_value s8
    exact (ladderHold_kept K h9)

theorem endBand_kept (K : Keeps P) {v0 v1} (h : Kept P v1) :
    Kept P (Machine.endBand v0 v1) := by
  unfold Machine.endBand
  exact (startBand_kept K (ladderOffset_kept K (useEqSet_kept K (updChan_kept K h))))

theorem execLadderStart_kept (K : Keeps P) {v0 v1 v2 v3} (h : Kept P v3) :
    KeptOut P (Machine.execLadderStart v0 v1 v2 v3) := by
  unfold Machine.execLadderStart
  refine iteO_kept ?_ ?_
  · exact (next_kept h)
  · refine next_kept ?_
    refine startBand_kept K ?_
    refine ite_kept ?_ ?_
    · exact (put_kept K h)
    · exact h

theorem leaveLadder_kept (K : Keeps P) {v0 v1 v2 v3} (h : Kept P v3) :
    Kept P (Machine.leaveLadder v0 v1 v2 v3) := by
  unfold Machine.leaveLadder
  exact (foldl_kept (fun a4 a5 h6 => (handOver_kept K h6)) h)

theorem truncateLadder_kept (K : Keeps P) {v0 v1} (h : Kept P v1) :
    Kept P (Machine.truncateLadder v0 v1) := by
  unfold Machine.truncateLadder
  extract_lets xs2
  refine ite_kept ?_ ?_
  · exact h
  · exact (endBand_kept K (raiseCH_kept K (bump_kept K (foldl_kept (fun a3 a4 h5 => (handOver_kept K h5)) h))))

theorem enterRung_kept (K : Keeps P) {v0 v1 v2} (h : Kept P v2) :
    Kept P (Machine.enterRung v0 v1 v2) := by
  unfold Machine.enterRung
  extract_lets adj3 s4
  have h5 : Kept P s4 := (put_kept K (updChan_kept K h))
  clear_value s4
  refine ite_kept ?_ ?_
  · exact (foldl_kept (fun a6 a7 h8 => (updCw_kept K h8)) h5)
  · exact h5

theorem takeRevolution_kept (K : Keeps P) {hd s} (h : Kept P s) : Kept P (Machine.takeRevolution hd s) := by
  unfold Machine.takeRevolution
  extract_lets revs r band c second adj cost n sign t f reads ready hide s1 s2 m z s2' s3 s4
  refine ite_kept (endBand_kept K (raiseCH_kept K (leaveLadder_kept K h))) ?_
  have h2 : Kept P s2 := ladderOffset_kept K (useEqSet_kept K (updChan_kept K h))
  clear_value s2
  have h2' : Kept P s2' := lit_kept h2 rfl rfl rfl rfl rfl rfl rfl rfl rfl
  clear_value s2'
  have h3 : Kept P s3 := bump_kept K (put_kept K h2')
  clear_value s3 hide adj
  have h4 : Kept P s4 := ladderHold_kept K h3
  clear_value s4
  refine pinSources_kept K ?_
  cases hide
  · exact h4
  · exact ite_kept h4 (sendLane_kept K h4)

theorem climb_kept (K : Keeps P) {v0 v1} (h : Kept P v1) :
    Kept P (Machine.climb v0 v1) := by
  unfold Machine.climb
  extract_lets r2
  split
  · exact (endBand_kept K (leaveLadder_kept K h))
  · extract_lets s8
    have h9 : Kept P s8 := (leaveLadder_kept K h)
    clear_value s8
    refine ite_kept ?_ ?_
    · exact (endBand_kept K h9)
    · exact (takeRevolution_kept K (enterRung_kept K h9))

theorem nextGroup_kept (K : Keeps P) {v0 v1} (h : Kept P v1) :
    Kept P (Machine.nextGroup v0 v1) := by
  unfold Machine.nextGroup
  extract_lets gone2 s3 s4 s5
  have h6 : Kept P s3 := (foldl_kept (fun a7 a8 h9 => (updCw_kept K h9)) h)
  clear_value s3
  have h10 : Kept P s4 := (foldl_kept (fun a11 a12 h13 => (settleSector_kept K (updSector_kept K h13))) h6)
  clear_value s4
  have h14 : Kept P s5 := (leaveLadder_kept K h10)
  clear_value s5
  refine ite_kept ?_ ?_
  · exact (endBand_kept K h14)
  · exact (takeRevolution_kept K (enterRung_kept K h14))

theorem execRetryRevolution_kept (K : Keeps P) {v0 v1} (h : Kept P v1) :
    KeptOut P (Machine.execRetryRevolution v0 v1) := by
  unfold Machine.execRetryRevolution
  extract_lets flying2 rung3 s4 r5 c6 left7
  have h8 : Kept P s4 := (updChan_kept K h)
  clear_value s4
  refine iteO_kept ?_ ?_
  · exact (next_kept h)
  · refine iteO_kept ?_ ?_
    · exact (next_kept (endBand_kept K h8))
    · refine iteO_kept ?_ ?_
      · exact (next_kept (takeRevolution_kept K (updChan_kept K h8)))
      · refine iteO_kept ?_ ?_
        · exact (next_kept (climb_kept K h8))
        · refine iteO_kept ?_ ?_
          · exact (next_kept (takeRevolution_kept K h8))
          · refine iteO_kept ?_ ?_
            · refine next_kept ?_
              refine ite_kept ?_ ?_
              · exact h8
              · exact (nextGroup_kept K h8)
            · refine iteO_kept ?_ ?_
              · exact (next_kept h8)
              · exact (next_kept (climb_kept K h8))

theorem execDetClrCnt_kept (K : Keeps P) {v0 v1} (h : Kept P v1) :
    KeptOut P (Machine.execDetClrCnt v0 v1) := by
  unfold Machine.execDetClrCnt
  refine iteO_kept ?_ ?_
  · exact (next_kept h)
  · exact (next_kept (clearAll_kept K h))

theorem beamSample_kept (K : Keeps P) {v0 v1 v2 v3} (h : Kept P v3) :
    Kept P (Machine.beamSample v0 v1 v2 v3) := by
  unfold Machine.beamSample
  extract_lets v4 f5 ref6 inside7 outRun8 inRun9 inv10 s11
  have h12 : Kept P s11 := (updServo_kept K h)
  clear_value s11
  refine ite_kept ?_ ?_
  · exact h12
  · exact (put_kept K h12)

theorem formErrors_kept (K : Keeps P) {v0 v1 v2} (h : Kept P v2) :
    Kept P (Machine.formErrors v0 v1 v2) := by
  unfold Machine.formErrors
  extract_lets v3 ok4 fe5 sum6 te7 sat8 cal9 f10 num11 den12 t13 k14 feN15 teN16 errs17 s18
  have h19 : Kept P s18 := (updServo_kept K h)
  clear_value s18
  refine ite_kept ?_ ?_
  · exact h
  · exact (putI_kept K (put_kept K (put_kept K h19)))

theorem countRuns_kept (K : Keeps P) {v0 v1} (h : Kept P v1) :
    Kept P (Machine.countRuns v0 v1) := by
  unfold Machine.countRuns
  extract_lets v2 st3 offl4 closed5 track6
  refine updServo_kept K ?_
  refine ite_kept ?_ ?_
  · exact h
  · exact h

theorem pulseInForce_kept (K : Keeps P) {v0 v1} (h : Kept P v1) :
    Kept P (Machine.pulseInForce v0 v1) := by
  unfold Machine.pulseInForce
  split
  · exact h
  · extract_lets t7
    refine ite_kept ?_ ?_
    · exact h
    · exact (putAll_kept K (updHead_kept K h))

theorem restartLoops_kept (K : Keeps P) {v0 v1} (h : Kept P v1) :
    Kept P (Machine.restartLoops v0 v1) := by
  unfold Machine.restartLoops
  exact (updChan_kept K h)

theorem sweepSample_kept (K : Keeps P) {hd fe sum s} (h : Kept P s) : Kept P (Machine.sweepSample hd fe sum s) := by
  unfold Machine.sweepSample
  extract_lets v hit starts layer hi lo own s1
  have h1 : Kept P s1 := by
    unfold s1
    clear_value own
    cases own
    · exact h
    · exact put_kept K (ite_kept (put_kept K h) h)
  clear_value s1
  exact updServo_kept K h1

theorem pullSample_kept (K : Keeps P) {v0 v1 v2} (h : Kept P v2) :
    Kept P (Machine.pullSample v0 v1 v2) := by
  unfold Machine.pullSample
  extract_lets v3 down4 any5 hi6 lo7
  exact (updServo_kept K h)

theorem moveSample_kept (K : Keeps P) {v0 v1 v2} (h : Kept P v2) :
    Kept P (Machine.moveSample v0 v1 v2) := by
  unfold Machine.moveSample
  extract_lets v3 r4
  refine ite_kept ?_ ?_
  · exact h
  · exact (put_kept K (updServo_kept K h))

theorem jumpSample_kept (K : Keeps P) {v0 v1 v2} (h : Kept P v2) :
    Kept P (Machine.jumpSample v0 v1 v2) := by
  unfold Machine.jumpSample
  extract_lets v3 deeper4 n5 m6
  exact (updServo_kept K h)

theorem servoSequence_kept (K : Keeps P) {v0 v1 v2} (h : Kept P v2) :
    Kept P (Machine.servoSequence v0 v1 v2) := by
  unfold Machine.servoSequence
  extract_lets v3 st4 sum5 fe6 ok7 part8 te9
  refine ite_kept ?_ ?_
  · exact (updServo_kept K (sweepSample_kept K h))
  · refine ite_kept ?_ ?_
    · exact h
    · refine updServo_kept K ?_
      refine ite_kept ?_ ?_
      · exact (pullSample_kept K h)
      · refine ite_kept ?_ ?_
        · exact (moveSample_kept K h)
        · refine ite_kept ?_ ?_
          · exact (jumpSample_kept K h)
          · exact h

theorem execServoBlock_kept (K : Keeps P) {v0 v1 v2} (h : Kept P v2) :
    KeptOut P (Machine.execServoBlock v0 v1 v2) := by
  unfold Machine.execServoBlock
  extract_lets cs3 k4 n5
  split
  · exact (next_kept h)
  · extract_lets latency12 later13 nS14 fp15 off16 disc17 s18 s19 bad20 s21 s22 s23 s24 s25
    have h26 : Kept P s18 := (updLink_kept K h)
    clear_value s18
    have h27 : Kept P s19 := (putAll_kept K h26)
    clear_value s19
    have h28 : Kept P s21 := by
      unfold s21
      refine ite_kept ?_ ?_
      · exact (raise_kept K (bump_kept K h27))
      · exact h27
    clear_value s21
    have h29 : Kept P s22 := by
      unfold s22
      refine ite_kept ?_ ?_
      · exact (raise_kept K h28)
      · exact h28
    clear_value s22
    have h30 : Kept P s23 := by
      unfold s23
      refine ite_kept ?_ ?_
      · exact (restartLoops_kept K (abandonSlots_kept K (raiseCH_kept K (bump_kept K h29))))
      · exact h29
    clear_value s23
    have h31 : Kept P s24 := (takeForces_kept K (pulseInForce_kept K h30))
    clear_value s24
    have h32 : Kept P s25 := (beamSample_kept K (beamSample_kept K h31))
    clear_value s25
    refine iteO_kept ?_ ?_
    · exact (next_kept h)
    · exact (next_kept (permits_kept K (countRuns_kept K (servoSequence_kept K (formErrors_kept K h32)))))

theorem execServoMiss_kept (K : Keeps P) {v0 v1} (h : Kept P v1) :
    KeptOut P (Machine.execServoMiss v0 v1) := by
  unfold Machine.execServoMiss
  extract_lets k2 st3
  refine iteO_kept ?_ ?_
  · exact (next_kept h)
  · exact (next_kept (bump_kept K (raise_kept K (bump_kept K (updHead_kept K h)))))

theorem addrMismatch_kept (K : Keeps P) {v0 v1 v2} (h : Kept P v2) :
    Kept P (Machine.addrMismatch v0 v1 v2) := by
  unfold Machine.addrMismatch
  extract_lets s3 s4 st5
  have h6 : Kept P s3 := (raiseCH_kept K (bump_kept K h))
  clear_value s3
  have h7 : Kept P s4 := (putAll_kept K (updChan_kept K (abandonSlots_kept K (clearConfirm_kept K h6))))
  clear_value s4
  split
  · exact h7
  · refine ite_kept ?_ ?_
    · exact h7
    · refine ite_kept ?_ ?_
      · exact (seekFailed_kept K h7)
      · exact (startSeek_kept K (raise_kept K (bump_kept K (updServo_kept K h7))))

theorem onTarget_kept (K : Keeps P) {v0 v1} (h : Kept P v1) :
    Kept P (Machine.onTarget v0 v1) := by
  unfold Machine.onTarget
  exact (updServo_kept K (svDone_kept K (svState_kept K h)))

theorem arrive_kept (K : Keeps P) {v0 v1 v2} (h : Kept P v2) :
    Kept P (Machine.arrive v0 v1 v2) := by
  unfold Machine.arrive
  extract_lets v3 there4
  refine ite_kept ?_ ?_
  · exact h
  · refine ite_kept ?_ ?_
    · exact (addrMismatch_kept K h)
    · refine ite_kept ?_ ?_
      · exact h
      · exact (onTarget_kept K h)

theorem confirmAddr_kept (K : Keeps P) {v0 v1 v2} (h : Kept P v2) :
    Kept P (Machine.confirmAddr v0 v1 v2) := by
  unfold Machine.confirmAddr
  extract_lets s3 s4 s5 s6 st7 v8 there9
  have h10 : Kept P s3 := (updHead_kept K h)
  clear_value s3
  have h11 : Kept P s4 := (putAll_kept K h10)
  clear_value s4
  have h12 : Kept P s5 := by
    unfold s5
    refine ite_kept ?_ ?_
    · exact (askFret_kept K h11)
    · exact h11
  clear_value s5
  have h13 : Kept P s6 := (permits_kept K (raiseCH_kept K h12))
  clear_value s6
  refine ite_kept ?_ ?_
  · refine ite_kept ?_ ?_
    · exact (onTarget_kept K h13)
    · refine ite_kept ?_ ?_
      · split
        · exact (startSeek_kept K (updServo_kept K h13))
        · exact h13
      · exact (addrMismatch_kept K h13)
  · refine ite_kept ?_ ?_
    · exact (arrive_kept K h13)
    · exact h13

theorem foreignDisc_kept (K : Keeps P) {v0 v1} (h : Kept P v1) :
    Kept P (Machine.foreignDisc v0 v1) := by
  unfold Machine.foreignDisc
  extract_lets s2
  have h3 : Kept P s2 := (updChan_kept K h)
  clear_value s2
  refine headEvent_kept K ?_
  split
  · exact h3
  · exact (pageChanged_kept K (updDisc_kept K h3))

theorem mediaUnit_kept (K : Keeps P) {v0 v1 v2 v3} (h : Kept P v3) :
    Kept P (Machine.mediaUnit v0 v1 v2 v3) := by
  unfold Machine.mediaUnit
  extract_lets c4 mid5 same6 run7 s8 s9 s10
  have h11 : Kept P s8 := by
    unfold s8
    refine ite_kept ?_ ?_
    · exact (foreignDisc_kept K h)
    · exact h
  clear_value s8
  have h12 : Kept P s9 := (updChan_kept K h11)
  clear_value s9
  have h13 : Kept P s10 := (putAll_kept K h12)
  clear_value s10
  refine ite_kept ?_ ?_
  · refine ite_kept ?_ ?_
    · exact h13
    · exact (raiseCH_kept K (put_kept K h13))
  · exact h12

theorem countUnit_kept (K : Keeps P) {v0 v1} (h : Kept P v1) :
    Kept P (Machine.countUnit v0 v1) := by
  unfold Machine.countUnit
  exact (updChan_kept K h)

theorem execAddressUnit_kept (K : Keeps P) {hd w rms worst s} (h : Kept P s) :
    KeptOut P (Machine.execAddressUnit hd w rms worst s) := by
  unfold Machine.execAddressUnit
  refine iteO_kept (next_kept h) (iteO_kept (next_kept (countUnit_kept K h)) ?_)
  extract_lets c prev exp u s0 agrees s1
  have h0 : Kept P s0 := peak_kept K (put_kept K h)
  clear_value s0
  refine iteO_kept (next_kept (updChan_kept K (countUnit_kept K (bump_kept K h0)))) ?_
  have h1 : Kept P s1 := updChan_kept K (mediaUnit_kept K h0)
  clear_value s1 exp agrees
  refine iteO_kept ?_ (iteO_kept (next_kept (confirmAddr_kept K (updChan_kept K h1))) (next_kept h1))
  cases exp
  · exact next_kept (updChan_kept K h1)
  · have h2 : ∀ l f, Kept P (putAll l (updHead hd f s1)) := fun l f => putAll_kept K (updHead_kept K h1)
    exact iteO_kept (next_kept (ite_kept (arrive_kept K (h2 _ _)) (h2 _ _)))
      (iteO_kept (next_kept (addrMismatch_kept K h1)) (next_kept (updChan_kept K h1)))

theorem execDefectHold_kept (K : Keeps P) {v0 v1} (h : Kept P v1) :
    KeptOut P (Machine.execDefectHold v0 v1) := by
  unfold Machine.execDefectHold
  extract_lets st2 v3
  refine iteO_kept ?_ ?_
  · exact (next_kept h)
  · exact (next_kept (svState_kept K (bump_kept K (updServo_kept K h))))

theorem focusLost_kept (K : Keeps P) {v0 v1} (h : Kept P v1) :
    Kept P (Machine.focusLost v0 v1) := by
  unfold Machine.focusLost
  exact (retractHead_kept K (raise_kept K (bump_kept K h)))

theorem holdEnds_kept (K : Keeps P) {v0 v1} (h : Kept P v1) :
    Kept P (Machine.holdEnds v0 v1) := by
  unfold Machine.holdEnds
  exact (svState_kept K (updServo_kept K h))

theorem execDefectHoldEnd_kept (K : Keeps P) {v0 v1} (h : Kept P v1) :
    KeptOut P (Machine.execDefectHoldEnd v0 v1) := by
  unfold Machine.execDefectHoldEnd
  extract_lets v2
  refine iteO_kept ?_ ?_
  · exact (next_kept h)
  · exact (next_kept (holdEnds_kept K h))

theorem execDefectLong_kept (K : Keeps P) {v0 v1} (h : Kept P v1) :
    KeptOut P (Machine.execDefectLong v0 v1) := by
  unfold Machine.execDefectLong
  extract_lets v2 s3
  have h4 : Kept P s3 := (raise_kept K h)
  clear_value s3
  refine iteO_kept ?_ ?_
  · exact (next_kept h)
  · refine iteO_kept ?_ ?_
    · exact (next_kept (focusLost_kept K h4))
    · exact (next_kept (holdEnds_kept K (clearConfirm_kept K h4)))

theorem execFocusLost_kept (K : Keeps P) {v0 v1} (h : Kept P v1) :
    KeptOut P (Machine.execFocusLost v0 v1) := by
  unfold Machine.execFocusLost
  extract_lets st2
  refine iteO_kept ?_ ?_
  · exact (next_kept h)
  · exact (next_kept (focusLost_kept K h))

theorem execOfftrackEpisode_kept (K : Keeps P) {v0 v1} (h : Kept P v1) :
    KeptOut P (Machine.execOfftrackEpisode v0 v1) := by
  unfold Machine.execOfftrackEpisode
  extract_lets v2
  refine iteO_kept ?_ ?_
  · exact (next_kept h)
  · exact (next_kept (permits_kept K (raise_kept K (bump_kept K (updServo_kept K h)))))

theorem execOfftrackEpisodeEnd_kept (K : Keeps P) {v0 v1} (h : Kept P v1) :
    KeptOut P (Machine.execOfftrackEpisodeEnd v0 v1) := by
  unfold Machine.execOfftrackEpisodeEnd
  extract_lets v2
  refine iteO_kept ?_ ?_
  · exact (next_kept h)
  · exact (next_kept (permits_kept K (updServo_kept K h)))

theorem execMissLimit_kept (K : Keeps P) {v0 v1} (h : Kept P v1) :
    KeptOut P (Machine.execMissLimit v0 v1) := by
  unfold Machine.execMissLimit
  extract_lets st2
  refine iteO_kept ?_ ?_
  · exact (next_kept h)
  · exact (next_kept (retractHead_kept K (raise_kept K h)))

theorem seekAway_kept (K : Keeps P) {v0 v1 v2 v3} (h : Kept P v3) :
    Kept P (Machine.seekAway v0 v1 v2 v3) := by
  unfold Machine.seekAway
  refine ite_kept ?_ ?_
  · exact h
  · exact (truncateLadder_kept K h)

theorem moveCmd_kept (K : Keeps P) {v0 v1 v2 v3 v4 v5} (h : Kept P v5) :
    Kept P (Machine.moveCmd v0 v1 v2 v3 v4 v5) := by
  unfold Machine.moveCmd
  extract_lets st6 w7 s8 pulling9
  have h10 : Kept P s8 := (writeSvCmd_kept K h)
  clear_value s8
  refine ite_kept ?_ ?_
  · exact (svRefuse_kept K h10)
  · refine ite_kept ?_ ?_
    · exact (svRefuse_kept K h10)
    · refine ite_kept ?_ ?_
      · exact (updServo_kept K (svBegin_kept K h10))
      · exact (beginMove_kept K (seekAway_kept K (svBegin_kept K h10)))

theorem execSeek_kept (K : Keeps P) {v0 v1 v2 v3} (h : Kept P v3) :
    KeptOut P (Machine.execSeek v0 v1 v2 v3) := by
  unfold Machine.execSeek
  refine iteO_kept ?_ ?_
  · exact (next_kept h)
  · exact (next_kept (moveCmd_kept K h))

theorem execHoldBand_kept (K : Keeps P) {v0 v1 v2 v3 v4} (h : Kept P v4) :
    KeptOut P (Machine.execHoldBand v0 v1 v2 v3 v4) := by
  unfold Machine.execHoldBand
  refine iteO_kept ?_ ?_
  · exact (next_kept h)
  · exact (next_kept (moveCmd_kept K h))

theorem execEnter_kept (K : Keeps P) {v0 v1 v2 v3} (h : Kept P v3) :
    KeptOut P (Machine.execEnter v0 v1 v2 v3) := by
  unfold Machine.execEnter
  refine iteO_kept ?_ ?_
  · exact (next_kept h)
  · exact (next_kept (moveCmd_kept K h))

theorem execSvFollow_kept (K : Keeps P) {v0 v1} (h : Kept P v1) :
    KeptOut P (Machine.execSvFollow v0 v1) := by
  unfold Machine.execSvFollow
  extract_lets st2 s3
  have h4 : Kept P s3 := (put_kept K h)
  clear_value s3
  refine iteO_kept ?_ ?_
  · exact (next_kept h)
  · refine iteO_kept ?_ ?_
    · exact (next_kept (svRefuse_kept K h4))
    · exact (next_kept (svDone_kept K (put_kept K (updServo_kept K (svBegin_kept K h4)))))

theorem execSeekTargetCrossing_kept (K : Keeps P) {v0 v1} (h : Kept P v1) :
    KeptOut P (Machine.execSeekTargetCrossing v0 v1) := by
  unfold Machine.execSeekTargetCrossing
  extract_lets v2
  refine iteO_kept ?_ ?_
  · exact (next_kept h)
  · exact (next_kept (updHead_kept K h))

theorem execSeekFail_kept (K : Keeps P) {v0 v1} (h : Kept P v1) :
    KeptOut P (Machine.execSeekFail v0 v1) := by
  unfold Machine.execSeekFail
  extract_lets st2 v3
  refine iteO_kept ?_ ?_
  · exact (next_kept h)
  · exact (next_kept (seekFailed_kept K h))

theorem enterFocused_kept (K : Keeps P) {v0 v1} (h : Kept P v1) :
    Kept P (Machine.enterFocused v0 v1) := by
  unfold Machine.enterFocused
  exact (svState_kept K (updServo_kept K h))

theorem execLayerJumpFocusClose_kept (K : Keeps P) {v0 v1} (h : Kept P v1) :
    KeptOut P (Machine.execLayerJumpFocusClose v0 v1) := by
  unfold Machine.execLayerJumpFocusClose
  refine iteO_kept ?_ ?_
  · exact (next_kept h)
  · exact (next_kept (enterFocused_kept K (bump_kept K (put_kept K h))))

theorem execSeamJump_kept (K : Keeps P) {v0 v1} (h : Kept P v1) :
    KeptOut P (Machine.execSeamJump v0 v1) := by
  unfold Machine.execSeamJump
  split
  · exact (next_kept h)
  · extract_lets n8 firstN9 before10 before11 v12 fits13 early14 pos15 lost16 s17
    have h18 : Kept P s17 := by
      unfold s17
      refine ite_kept ?_ ?_
      · exact h
      · exact (abandonSlots_kept K (updHead_kept K h))
    clear_value s17
    refine iteO_kept ?_ ?_
    · exact (next_kept h)
    · exact (next_kept (startSeek_kept K h18))

theorem startSweep_kept (K : Keeps P) {v0 v1 v2 v3} (h : Kept P v3) :
    Kept P (Machine.startSweep v0 v1 v2 v3) := by
  unfold Machine.startSweep
  exact (svState_kept K (updServo_kept K (clearConfirm_kept K h)))

theorem pullIn_kept (K : Keeps P) {v0 v1 v2 v3} (h : Kept P v3) :
    Kept P (Machine.pullIn v0 v1 v2 v3) := by
  unfold Machine.pullIn
  extract_lets s4
  have h5 : Kept P s4 := (putB_kept K (putAll_kept K h))
  clear_value s4
  refine ite_kept ?_ ?_
  · exact (svRefuse_kept K h5)
  · exact (startSweep_kept K (updServo_kept K (svBegin_kept K h5)))

theorem execPullin_kept (K : Keeps P) {v0 v1 v2 v3} (h : Kept P v3) :
    KeptOut P (Machine.execPullin v0 v1 v2 v3) := by
  unfold Machine.execPullin
  refine iteO_kept ?_ ?_
  · exact (next_kept h)
  · exact (next_kept (pullIn_kept K h))

theorem execFocusCapture_kept (K : Keeps P) {v0 v1} (h : Kept P v1) :
    KeptOut P (Machine.execFocusCapture v0 v1) := by
  unfold Machine.execFocusCapture
  extract_lets v2 close3
  refine iteO_kept ?_ ?_
  · exact (next_kept h)
  · exact (next_kept (enterFocused_kept K (put_kept K h)))

theorem execPullTimeout_kept (K : Keeps P) {v0 v1} (h : Kept P v1) :
    KeptOut P (Machine.execPullTimeout v0 v1) := by
  unfold Machine.execPullTimeout
  extract_lets st2 s3
  have h4 : Kept P s3 := (updHead_kept K h)
  clear_value s3
  refine iteO_kept ?_ ?_
  · exact (next_kept h)
  · refine iteO_kept ?_ ?_
    · exact (next_kept (svState_kept K (bump_kept K (put_kept K h4))))
    · exact (next_kept (raise_kept K (svState_kept K (svResult_kept K (bump_kept K (put_kept K h4))))))

theorem execTrackingCapture_kept (K : Keeps P) {v0 v1} (h : Kept P v1) :
    KeptOut P (Machine.execTrackingCapture v0 v1) := by
  unfold Machine.execTrackingCapture
  extract_lets v2 s3
  have h4 : Kept P s3 := (svState_kept K (updServo_kept K h))
  clear_value s3
  refine iteO_kept ?_ ?_
  · exact (next_kept h)
  · split
    · exact (next_kept h4)
    · refine iteO_kept ?_ ?_
      · exact (next_kept (startRadial_kept K h4))
      · exact (next_kept h4)

theorem execRetract_kept (K : Keeps P) {v0 v1} (h : Kept P v1) :
    KeptOut P (Machine.execRetract v0 v1) := by
  unfold Machine.execRetract
  extract_lets st2 s3 s4
  have h5 : Kept P s3 := (put_kept K h)
  clear_value s3
  have h6 : Kept P s4 := (retractHead_kept K h5)
  clear_value s4
  refine iteO_kept ?_ ?_
  · exact (next_kept h)
  · refine iteO_kept ?_ ?_
    · exact (next_kept (svRefuse_kept K h5))
    · exact (next_kept (putAll_kept K (updServo_kept K h6)))

theorem execRetractComplete_kept (K : Keeps P) {v0 v1} (h : Kept P v1) :
    KeptOut P (Machine.execRetractComplete v0 v1) := by
  unfold Machine.execRetractComplete
  extract_lets v2 s3 s4 s5
  have h6 : Kept P s3 := (raise_kept K (clearConfirm_kept K (updHead_kept K h)))
  clear_value s3
  have h7 : Kept P s4 := by
    unfold s4
    refine ite_kept ?_ ?_
    · exact (svDone_kept K h6)
    · exact h6
  clear_value s4
  have h8 : Kept P s5 := (svState_kept K h7)
  clear_value s5
  refine iteO_kept ?_ ?_
  · exact (next_kept h)
  · refine iteO_kept ?_ ?_
    · exact (next_kept (setLink_kept K (put_kept K (svState_kept K h7))))
    · refine iteO_kept ?_ ?_
      · exact (next_kept (leaveOff_kept K (svState_kept K h7)))
      · refine iteO_kept ?_ ?_
        · refine iteO_kept ?_ ?_
          · exact (next_kept (startSweep_kept K h8))
          · exact (next_kept (svResult_kept K h8))
        · refine iteO_kept ?_ ?_
          · exact (next_kept (startSweep_kept K (updServo_kept K h8)))
          · exact (next_kept (updServo_kept K h8))

theorem execSvCmdErr_kept (K : Keeps P) {v0 v1 v2} (h : Kept P v2) :
    KeptOut P (Machine.execSvCmdErr v0 v1 v2) := by
  unfold Machine.execSvCmdErr
  refine iteO_kept ?_ ?_
  · exact (next_kept h)
  · exact (next_kept (raise_kept K (svRefuse_kept K (put_kept K h))))

theorem execLensRange_kept (K : Keeps P) {v0 v1} (h : Kept P v1) :
    KeptOut P (Machine.execLensRange v0 v1) := by
  unfold Machine.execLensRange
  extract_lets st2 x3 s4
  have h5 : Kept P s4 := (raise_kept K h)
  clear_value s4
  refine iteO_kept ?_ ?_
  · exact (next_kept h)
  · refine iteO_kept ?_ ?_
    · exact (next_kept (enterFocused_kept K (updServo_kept K h5)))
    · exact (next_kept h5)

theorem execSvEnable_kept (K : Keeps P) {v0 v1 v2} (h : Kept P v2) :
    KeptOut P (Machine.execSvEnable v0 v1 v2) := by
  unfold Machine.execSvEnable
  extract_lets st3 was4 s5
  have h6 : Kept P s5 := (put_kept K h)
  clear_value s5
  refine iteO_kept ?_ ?_
  · exact (next_kept h)
  · refine iteO_kept ?_ ?_
    · refine next_kept ?_
      refine ite_kept ?_ ?_
      · exact (svState_kept K h6)
      · exact (leaveOff_kept K h6)
    · refine iteO_kept ?_ ?_
      · exact (next_kept (svState_kept K h6))
      · refine iteO_kept ?_ ?_
        · exact (next_kept h6)
        · exact (next_kept (updServo_kept K (retractHead_kept K h6)))

theorem execSvClrCnt_kept (K : Keeps P) {v0 v1} (h : Kept P v1) :
    KeptOut P (Machine.execSvClrCnt v0 v1) := by
  unfold Machine.execSvClrCnt
  refine iteO_kept ?_ ?_
  · exact (next_kept h)
  · exact (next_kept (updServo_kept K (clearAll_kept K h)))

end Sys2Proof.Laws
end

