-- ==== Sys2Proof/Laws/KeptHost.lean ====
section
/-! SUPPORT. A property that the elementary writes keep is kept by every operation and command of power states, the host queues, the calibration procedure and rebuild. -/

namespace Sys2Proof.Laws

open Sys2Proof.Machine

variable {P : Store → Prop}

theorem parkHead_kept (K : Keeps P) {v0 v1} (h : Kept P v1) :
    Kept P (Machine.parkHead v0 v1) := by
  unfold Machine.parkHead
  extract_lets st2 s3
  have h4 : Kept P s3 := (retractHead_kept K h)
  clear_value s3
  refine ite_kept ?_ ?_
  · exact h
  · refine ite_kept ?_ ?_
    · exact (setLink_kept K (put_kept K h4))
    · exact h4

theorem settlePark_kept (K : Keeps P) {v0 v1} (h : Kept P v1) :
    Kept P (Machine.settlePark v0 v1) := by
  unfold Machine.settlePark
  extract_lets busy2
  refine ite_kept ?_ ?_
  · exact h
  · exact (stopSpindle_kept K (parkHead_kept K (parkHead_kept K h)))

theorem enterPower_kept (K : Keeps P) {v0 v1} (h : Kept P v1) :
    Kept P (Machine.enterPower v0 v1) := by
  unfold Machine.enterPower
  exact (raise_kept K (putAll_kept K (lit_kept h rfl rfl rfl rfl rfl rfl rfl rfl rfl)))

theorem startPoise_kept (K : Keeps P) {v0} (h : Kept P v0) :
    Kept P (Machine.startPoise v0) := by
  unfold Machine.startPoise
  extract_lets zsrc1
  refine ite_kept ?_ ?_
  · exact (put_kept K (lit_kept h rfl rfl rfl rfl rfl rfl rfl rfl rfl))
  · exact (enterPower_kept K (forAll_kept K (fun a2 a3 h4 => (retractHead_kept K h4)) h))

theorem leavePoised_kept (K : Keeps P) {v0} (h : Kept P v0) :
    Kept P (Machine.leavePoised v0) := by
  unfold Machine.leavePoised
  exact (enterPower_kept K (forAll_kept K (fun a1 a2 h3 => (pullIn_kept K h3)) h))

theorem startPark_kept (K : Keeps P) {v0 v1} (h : Kept P v1) :
    Kept P (Machine.startPark v0 v1) := by
  unfold Machine.startPark
  extract_lets s2 zsrc3 s4
  have h5 : Kept P s2 := by
    unfold s2
    refine ite_kept ?_ ?_
    · exact (leavePoised_kept K h)
    · exact h
  clear_value s2
  have h6 : Kept P s4 := (put_kept K (lit_kept h5 rfl rfl rfl rfl rfl rfl rfl rfl rfl))
  clear_value s4
  exact (foldl_kept (fun a7 a8 h9 => by
  split
  · exact (sealRow_kept K h9)
  · exact h9) h6)

theorem wakeMechanism_kept (K : Keeps P) {v0} (h : Kept P v0) :
    Kept P (Machine.wakeMechanism v0) := by
  unfold Machine.wakeMechanism
  extract_lets s1 s2 s3
  have h4 : Kept P s1 := (forAll_kept K (fun a5 a6 h7 => (setLink_kept K h7)) h)
  clear_value s1
  have h8 : Kept P s2 := (forAll_kept K (fun a9 a10 h11 => (updCrs_kept K h11)) h4)
  clear_value s2
  have h12 : Kept P s3 := (forAll_kept K (fun a13 a14 h15 => (stepperOn_kept K h15)) h8)
  clear_value s3
  exact (forAll_kept K (fun a16 a17 h18 => (setSpeed_kept K h18)) h12)

theorem parkedExit_kept (K : Keeps P) {v0} (h : Kept P v0) :
    Kept P (Machine.parkedExit v0) := by
  unfold Machine.parkedExit
  extract_lets s1 s2
  have h3 : Kept P s1 := (put_kept K (enterPower_kept K h))
  clear_value s1
  have h4 : Kept P s2 := by
    unfold s2
    refine ite_kept ?_ ?_
    · exact (put_kept K h3)
    · exact h3
  clear_value s2
  exact (wakeMechanism_kept K (updateHeader_kept K h4))

theorem actOn_kept (K : Keeps P) {v0 v1} (h : Kept P v1) :
    Kept P (Machine.actOn v0 v1) := by
  unfold Machine.actOn
  extract_lets st2
  refine ite_kept ?_ ?_
  · refine ite_kept ?_ ?_
    · exact (leavePoised_kept K h)
    · refine ite_kept ?_ ?_
      · exact (parkedExit_kept K h)
      · exact h
  · refine ite_kept ?_ ?_
    · refine ite_kept ?_ ?_
      · exact (startPoise_kept K h)
      · exact h
    · refine ite_kept ?_ ?_
      · refine ite_kept ?_ ?_
        · exact (startPark_kept K h)
        · exact h
      · exact h

theorem settleRequest_kept (K : Keeps P) {v0} (h : Kept P v0) :
    Kept P (Machine.settleRequest v0) := by
  unfold Machine.settleRequest
  extract_lets zsrc1
  refine ite_kept ?_ ?_
  · exact (actOn_kept K (lit_kept h rfl rfl rfl rfl rfl rfl rfl rfl rfl))
  · exact h

theorem wakeParked_kept (K : Keeps P) {v0} (h : Kept P v0) :
    Kept P (Machine.wakeParked v0) := by
  unfold Machine.wakeParked
  extract_lets zsrc1
  refine ite_kept ?_ ?_
  · exact h
  · refine ite_kept ?_ ?_
    · exact (settleRequest_kept K (raise_kept K (put_kept K (lit_kept h rfl rfl rfl rfl rfl rfl rfl rfl rfl))))
    · refine ite_kept ?_ ?_
      · exact (lit_kept h rfl rfl rfl rfl rfl rfl rfl rfl rfl)
      · refine ite_kept ?_ ?_
        · exact (parkedExit_kept K h)
        · exact h

theorem updCmd_kept (_K : Keeps P) {v0 v1 v2} (h : Kept P v2) :
    Kept P (Machine.updCmd v0 v1 v2) := by
  unfold Machine.updCmd
  exact (lit_kept h rfl rfl rfl rfl rfl rfl rfl rfl rfl)

theorem refreshSlots_kept (K : Keeps P) {v0 v1} (h : Kept P v1) :
    Kept P (Machine.refreshSlots v0 v1) := by
  unfold Machine.refreshSlots
  exact (putAll_kept K h)

theorem settleRdy_kept (K : Keeps P) {v0 v1} (h : Kept P v1) :
    Kept P (Machine.settleRdy v0 v1) := by
  unfold Machine.settleRdy
  refine ite_kept ?_ ?_
  · exact (put_kept K h)
  · exact h

theorem freeQueue_kept (K : Keeps P) {v0 v1} (h : Kept P v1) :
    Kept P (Machine.freeQueue v0 v1) := by
  unfold Machine.freeQueue
  extract_lets zsrc2 s3 s4
  have h5 : Kept P s3 := (lit_kept h rfl rfl rfl rfl rfl rfl rfl rfl rfl)
  clear_value s3
  have h6 : Kept P s4 := (putAll_kept K h5)
  clear_value s4
  refine ite_kept ?_ ?_
  · exact h6
  · exact (put_kept K h6)

theorem settleDeletes_kept (K : Keeps P) {v0} (h : Kept P v0) :
    Kept P (Machine.settleDeletes v0) := by
  unfold Machine.settleDeletes
  exact (foldl_kept (fun a1 a2 h3 => by
  split
  · exact h3
  · refine ite_kept ?_ ?_
    · exact h3
    · exact (post_kept K (freeQueue_kept K h3))) h)

theorem unpin_kept (K : Keeps P) {v0 v1} (h : Kept P v1) :
    Kept P (Machine.unpin v0 v1) := by
  unfold Machine.unpin
  extract_lets s2
  have h3 : Kept P s2 := (foldl_kept (fun a4 a5 h6 => by
  split
  · exact (updSet_kept K h6)
  · exact h6) h)
  clear_value s2
  exact (settleReleases_kept K h3)

theorem dropCmd_kept (K : Keeps P) {v0 v1} (h : Kept P v1) :
    Kept P (Machine.dropCmd v0 v1) := by
  unfold Machine.dropCmd
  extract_lets zsrc2 s3
  have h4 : Kept P s3 := (lit_kept h rfl rfl rfl rfl rfl rfl rfl rfl rfl)
  clear_value s3
  exact (settleDeletes_kept K (settleRdy_kept K (refreshSlots_kept K (unpin_kept K h4))))

theorem measure_kept (K : Keeps P) {v0 v1} (h : Kept P v1) :
    Kept P (Machine.measure v0 v1) := by
  unfold Machine.measure
  extract_lets t2 s3
  have h4 : Kept P s3 := (peak_kept K (put_kept K h))
  clear_value s3
  refine ite_kept ?_ ?_
  · exact h
  · refine ite_kept ?_ ?_
    · exact (raise_kept K (bump_kept K h4))
    · exact h4

theorem finishCmd_kept (K : Keeps P) {v0 v1 v2 v3 v4 v5 v6} (h : Kept P v6) :
    Kept P (Machine.finishCmd v0 v1 v2 v3 v4 v5 v6) := by
  unfold Machine.finishCmd
  extract_lets d7
  exact (dropCmd_kept K (ite_kept h (measure_kept K (bump_kept K (post_kept K h)))))

theorem failCmd_kept (K : Keeps P) {v0 v1 v2 v3 v4} (h : Kept P v4) :
    Kept P (Machine.failCmd v0 v1 v2 v3 v4) := by
  unfold Machine.failCmd
  exact (finishCmd_kept K h)

theorem failRead_kept (K : Keeps P) {v0 v1 v2 v3 v4} (h : Kept P v4) :
    Kept P (Machine.failRead v0 v1 v2 v3 v4) := by
  unfold Machine.failRead
  extract_lets s5 zsrc6
  have h7 : Kept P s5 := (finishCmd_kept K h)
  clear_value s5
  exact (lit_kept h7 rfl rfl rfl rfl rfl rfl rfl rfl rfl)

theorem setCfs_kept (K : Keeps P) {v0} (h : Kept P v0) :
    Kept P (Machine.setCfs v0) := by
  unfold Machine.setCfs
  exact (putAll_kept K h)

theorem execSubmissionDoorbell_kept (K : Keeps P) {v0 v1 v2 v3} (h : Kept P v3) :
    KeptOut P (Machine.execSubmissionDoorbell v0 v1 v2 v3) := by
  unfold Machine.execSubmissionDoorbell
  split
  · exact (next_kept h)
  · extract_lets n9 q10 zsrc11
    refine iteO_kept ?_ ?_
    · exact (next_kept h)
    · exact (next_kept (wakeParked_kept K (lit_kept h rfl rfl rfl rfl rfl rfl rfl rfl rfl)))

theorem fetchFrom_kept (K : Keeps P) {v0 v1 v2} (h : Kept P v2) :
    Kept P (Machine.fetchFrom v0 v1 v2) := by
  unfold Machine.fetchFrom
  exact (refreshSlots_kept K (lit_kept h rfl rfl rfl rfl rfl rfl rfl rfl rfl))

theorem execCommandFetch_kept (K : Keeps P) {v0} (h : Kept P v0) :
    KeptOut P (Machine.execCommandFetch v0) := by
  unfold Machine.execCommandFetch
  extract_lets ready1 c2 cs3 full4 zsrc5 cont6 room7
  have h8 : Kept P full4 := (raise_kept K h)
  clear_value full4
  refine iteO_kept ?_ ?_
  · exact (next_kept h)
  · split
    · refine iteO_kept ?_ ?_
      · exact (next_kept h8)
      · exact (next_kept (fetchFrom_kept K (lit_kept h rfl rfl rfl rfl rfl rfl rfl rfl rfl)))
    · split
      · exact (next_kept h)
      · extract_lets left19
        refine iteO_kept ?_ ?_
        · exact (next_kept h8)
        · exact (next_kept (fetchFrom_kept K (lit_kept h rfl rfl rfl rfl rfl rfl rfl rfl rfl)))

theorem execSubmissionEntryArrival_kept (K : Keeps P) {v0 v1 v2 v3 v4 v5 v6 v7 v8 v9} (h : Kept P v9) :
    KeptOut P (Machine.execSubmissionEntryArrival v0 v1 v2 v3 v4 v5 v6 v7 v8 v9) := by
  unfold Machine.execSubmissionEntryArrival
  split
  · exact (next_kept h)
  · extract_lets st15 lba16 n17 hint18 rs19 c20 zsrc21
    exact (next_kept (refreshSlots_kept K (put_kept K (lit_kept h rfl rfl rfl rfl rfl rfl rfl rfl rfl))))

theorem orderCmd_kept (K : Keeps P) {v0 v1} (h : Kept P v1) :
    Kept P (Machine.orderCmd v0 v1) := by
  unfold Machine.orderCmd
  extract_lets s2
  have h3 : Kept P s2 := (updCmd_kept K h)
  clear_value s2
  refine ite_kept ?_ ?_
  · exact (bump_kept K h3)
  · exact h3

theorem execRead_kept (K : Keeps P) {v0 v1} (h : Kept P v1) :
    KeptOut P (Machine.execRead v0 v1) := by
  unfold Machine.execRead
  split
  · exact (next_kept h)
  · refine iteO_kept ?_ ?_
    · exact (next_kept h)
    · split
      · exact (next_kept (failCmd_kept K h))
      · exact (next_kept (orderCmd_kept K h))

theorem execVerify_kept (K : Keeps P) {v0 v1} (h : Kept P v1) :
    KeptOut P (Machine.execVerify v0 v1) := by
  unfold Machine.execVerify
  split
  · exact (next_kept h)
  · refine iteO_kept ?_ ?_
    · exact (next_kept h)
    · split
      · exact (next_kept (failCmd_kept K h))
      · exact (next_kept (orderCmd_kept K h))

theorem recallResolve_kept (K : Keeps P) {v0 v1} (h : Kept P v1) :
    Kept P (Machine.recallResolve v0 v1) := by
  unfold Machine.recallResolve
  extract_lets bs2 mine3 hold4 zsrc5 s6 last7
  have h8 : Kept P s6 := (lit_kept h rfl rfl rfl rfl rfl rfl rfl rfl rfl)
  clear_value s6
  refine ite_kept ?_ ?_
  · exact (failCmd_kept K h)
  · exact (finishCmd_kept K h8)

theorem execReadResolve_kept (K : Keeps P) {v0 v1} (h : Kept P v1) :
    KeptOut P (Machine.execReadResolve v0 v1) := by
  unfold Machine.execReadResolve
  split
  · exact (next_kept h)
  · extract_lets r7 s8
    have h9 : Kept P s8 := (foldl_kept (fun a10 a11 h12 => by
      split
      · exact (updSet_kept K h12)
      · exact h12) h)
    clear_value s8
    refine iteO_kept ?_ ?_
    · exact (next_kept h)
    · refine iteO_kept ?_ ?_
      · exact (next_kept (recallResolve_kept K h))
      · exact (next_kept (updCmd_kept K h9))

theorem loseBad_kept (K : Keeps P) {v0 v1} (h : Kept P v1) :
    Kept P (Machine.loseBad v0 v1) := by
  unfold Machine.loseBad
  exact (foldl_kept (fun a2 a3 h4 => (onBusError_kept K h4)) h)

theorem execReadTransferDone_kept (K : Keeps P) {v0 v1} (h : Kept P v1) :
    KeptOut P (Machine.execReadTransferDone v0 v1) := by
  unfold Machine.execReadTransferDone
  split
  · exact (next_kept h)
  · extract_lets s7 blocks8 sent9 used10 s11 zsrc12 s13
    have h14 : Kept P s7 := (loseBad_kept K h)
    clear_value s7
    have h15 : Kept P s11 := by
      unfold s11
      split
      · exact (failRead_kept K h14)
      · exact (finishCmd_kept K h14)
    clear_value s11
    have h22 : Kept P s13 := (lit_kept h15 rfl rfl rfl rfl rfl rfl rfl rfl rfl)
    clear_value s13
    refine iteO_kept ?_ ?_
    · exact (next_kept h)
    · exact (next_kept (dropClean_kept K h22))

theorem unstage_kept (_K : Keeps P) {v0 v1 v2} (h : Kept P v2) :
    Kept P (Machine.unstage v0 v1 v2) := by
  unfold Machine.unstage
  exact (lit_kept h rfl rfl rfl rfl rfl rfl rfl rfl rfl)

theorem unmapGrain_kept (K : Keeps P) {v0 v1 v2 v3} (h : Kept P v3) :
    Kept P (Machine.unmapGrain v0 v1 v2 v3) := by
  unfold Machine.unmapGrain
  refine ite_kept ?_ ?_
  · exact (setWholeGrain_kept K h)
  · exact (forAll_kept K (fun a4 a5 h6 => (setBlock_kept K h6)) h)

theorem unmapRange_kept (K : Keeps P) {v0 v1 v2 v3} (h : Kept P v3) :
    Kept P (Machine.unmapRange v0 v1 v2 v3) := by
  unfold Machine.unmapRange
  exact (forAll_kept K (fun a4 a5 h6 => by
  extract_lets first7 lo8 hi9
  split
  · exact h6
  · refine ite_kept ?_ ?_
    · exact (unmapGrain_kept K h6)
    · exact h6) h)

theorem deallocate_kept (K : Keeps P) {v0 v1} (h : Kept P v1) :
    Kept P (Machine.deallocate v0 v1) := by
  unfold Machine.deallocate
  extract_lets rs2
  exact (finishCmd_kept K (refreshArbours_kept K (unstage_kept K (foldl_kept (fun a3 a4 h5 => (unmapRange_kept K h5)) h))))

theorem execWrite_kept (K : Keeps P) {v0 v1} (h : Kept P v1) :
    KeptOut P (Machine.execWrite v0 v1) := by
  unfold Machine.execWrite
  split
  · exact (next_kept h)
  · extract_lets rs7
    refine iteO_kept ?_ ?_
    · exact (next_kept h)
    · split
      · exact (next_kept (failCmd_kept K h))
      · refine iteO_kept ?_ ?_
        · exact (next_kept (failCmd_kept K h))
        · exact (next_kept (updCmd_kept K h))

theorem execWriteDataReceived_kept (K : Keeps P) {v0 v1 v2} (h : Kept P v2) :
    KeptOut P (Machine.execWriteDataReceived v0 v1 v2) := by
  unfold Machine.execWriteDataReceived
  split
  · exact (next_kept h)
  · extract_lets s8 s9
    have h10 : Kept P s8 := (forAll_kept K (fun a11 a12 h13 => (bufWritePage_kept K h13)) h)
    clear_value s8
    have h14 : Kept P s9 := (updCmd_kept K h10)
    clear_value s9
    refine iteO_kept ?_ ?_
    · exact (next_kept h)
    · refine next_kept ?_
      refine ite_kept ?_ ?_
      · exact (bump_kept K h14)
      · exact h14

theorem mapWrite_kept (K : Keeps P) {v0 v1 v2 v3 v4 v5 v6} (h : Kept P v6) :
    Kept P (Machine.mapWrite v0 v1 v2 v3 v4 v5 v6) := by
  unfold Machine.mapWrite
  split
  · exact h
  · extract_lets p12
    refine ite_kept ?_ ?_
    · exact (setWholeGrain_kept K h)
    · exact (forAll_kept K (fun a13 a14 h15 => (setBlock_kept K h15)) h)

theorem admitWrite_kept (K : Keeps P) {v0 v1 v2} (h : Kept P v2) :
    Kept P (Machine.admitWrite v0 v1 v2) := by
  unfold Machine.admitWrite
  extract_lets rs3 lba4 n5 to6 dom7 parts8 s9 bs10 s11 us12 zsrc13 zsrc14 s15
  have h16 : Kept P s9 := (foldl_kept (fun a17 a18 h19 => (mapWrite_kept K h19)) (unstage_kept K h))
  clear_value s9
  have h20 : Kept P s11 := (placeBlocks_kept K h16)
  clear_value s11
  have h21 : Kept P s15 := (lit_kept h20 rfl rfl rfl rfl rfl rfl rfl rfl rfl)
  clear_value s15
  exact (refreshArbours_kept K (journal_kept K (put_kept K h21)))

theorem execWriteAdmission_kept (K : Keeps P) {v0 v1} (h : Kept P v1) :
    KeptOut P (Machine.execWriteAdmission v0 v1) := by
  unfold Machine.execWriteAdmission
  split
  · exact (next_kept h)
  · extract_lets rs7 parts8 to9 wait10 s11 s12
    have h13 : Kept P s11 := (admitWrite_kept K h)
    clear_value s11
    have h14 : Kept P s12 := by
      unfold s12
      refine admitWrite_kept K ?_
      refine ite_kept ?_ ?_
      · exact h
      · try unfold wait10
        refine ite_kept ?_ ?_
        · exact h
        · exact (raise_kept K (bump_kept K (updCmd_kept K h)))
    clear_value s12
    refine iteO_kept ?_ ?_
    · exact (next_kept h)
    · refine iteO_kept ?_ ?_
      · refine next_kept ?_
        try unfold wait10
        refine ite_kept ?_ ?_
        · exact (bump_kept K h)
        · exact (raise_kept K (bump_kept K (updCmd_kept K (bump_kept K h))))
      · refine iteO_kept ?_ ?_
        · refine next_kept ?_
          try unfold wait10
          refine ite_kept ?_ ?_
          · exact h
          · exact (raise_kept K (bump_kept K (updCmd_kept K h)))
        · split
          · refine next_kept ?_
            try unfold wait10
            refine ite_kept ?_ ?_
            · exact h
            · exact (raise_kept K (bump_kept K (updCmd_kept K h)))
          · refine next_kept ?_
            refine ite_kept ?_ ?_
            · exact (updCmd_kept K h13)
            · exact (finishCmd_kept K h13)
          · exact (next_kept (updCmd_kept K h14))

theorem settleDurable_kept (K : Keeps P) {v0} (h : Kept P v0) :
    Kept P (Machine.settleDurable v0) := by
  unfold Machine.settleDurable
  extract_lets held1 done2
  exact (refreshUnits_kept K (foldl_kept (fun a3 a4 h5 => (finishCmd_kept K h5)) h))

theorem execWriteZeroes_kept (K : Keeps P) {v0 v1} (h : Kept P v1) :
    KeptOut P (Machine.execWriteZeroes v0 v1) := by
  unfold Machine.execWriteZeroes
  split
  · exact (next_kept h)
  · refine iteO_kept ?_ ?_
    · exact (next_kept h)
    · refine iteO_kept ?_ ?_
      · split
        · exact (next_kept (failCmd_kept K h))
        · refine next_kept ?_
          refine ite_kept ?_ ?_
          · exact (orderCmd_kept K h)
          · exact (deallocate_kept K h)
      · refine iteO_kept ?_ ?_
        · exact (next_kept (deallocate_kept K h))
        · exact (next_kept h)

theorem execDatasetManagement_kept (K : Keeps P) {v0 v1 v2} (h : Kept P v2) :
    KeptOut P (Machine.execDatasetManagement v0 v1 v2) := by
  unfold Machine.execDatasetManagement
  split
  · exact (next_kept h)
  · extract_lets c8
    refine iteO_kept ?_ ?_
    · exact (next_kept h)
    · refine iteO_kept ?_ ?_
      · split
        · exact (next_kept (failCmd_kept K h))
        · refine iteO_kept ?_ ?_
          · exact (next_kept (finishCmd_kept K h))
          · refine next_kept ?_
            refine ite_kept ?_ ?_
            · exact (orderCmd_kept K h)
            · exact (deallocate_kept K h)
      · refine iteO_kept ?_ ?_
        · exact (next_kept (deallocate_kept K h))
        · exact (next_kept h)

theorem execFlush_kept (K : Keeps P) {v0 v1} (h : Kept P v1) :
    KeptOut P (Machine.execFlush v0 v1) := by
  unfold Machine.execFlush
  split
  · exact (next_kept h)
  · refine iteO_kept ?_ ?_
    · exact (next_kept h)
    · refine iteO_kept ?_ ?_
      · exact (next_kept (failCmd_kept K h))
      · exact (next_kept (updCmd_kept K h))

theorem execFlushComplete_kept (K : Keeps P) {v0 v1} (h : Kept P v1) :
    KeptOut P (Machine.execFlushComplete v0 v1) := by
  unfold Machine.execFlushComplete
  split
  · exact (next_kept h)
  · refine iteO_kept ?_ ?_
    · exact (next_kept h)
    · exact (next_kept (finishCmd_kept K h))

theorem execRecall_kept (K : Keeps P) {v0 v1 v2} (h : Kept P v2) :
    KeptOut P (Machine.execRecall v0 v1 v2) := by
  unfold Machine.execRecall
  split
  · exact (next_kept h)
  · extract_lets c8
    refine iteO_kept ?_ ?_
    · exact (next_kept h)
    · split
      · exact (next_kept (failCmd_kept K h))
      · exact (next_kept (orderCmd_kept K h))

theorem execStagedBlockRelease_kept (K : Keeps P) {v0 v1 v2} (h : Kept P v2) :
    KeptOut P (Machine.execStagedBlockRelease v0 v1 v2) := by
  unfold Machine.execStagedBlockRelease
  extract_lets zsrc3 s4
  have h5 : Kept P s4 := (lit_kept h rfl rfl rfl rfl rfl rfl rfl rfl rfl)
  clear_value s4
  exact (next_kept (dropClean_kept K h5))

theorem execDataTransferError_kept (K : Keeps P) {v0 v1} (h : Kept P v1) :
    KeptOut P (Machine.execDataTransferError v0 v1) := by
  unfold Machine.execDataTransferError
  split
  · exact (next_kept h)
  · refine iteO_kept ?_ ?_
    · exact (next_kept h)
    · exact (next_kept (failCmd_kept K (raise_kept K (bump_kept K h))))

theorem addQueue_kept (K : Keeps P) {v0 v1} (h : Kept P v1) :
    Kept P (Machine.addQueue v0 v1) := by
  unfold Machine.addQueue
  extract_lets zsrc2 s3
  have h4 : Kept P s3 := (putAll_kept K (lit_kept h rfl rfl rfl rfl rfl rfl rfl rfl rfl))
  clear_value s3
  refine ite_kept ?_ ?_
  · exact h4
  · exact (bump_kept K h4)

theorem adminDone_kept (K : Keeps P) {v0 v1 v2 v3 v4 v5 v6 v7} (h : Kept P v7) :
    Kept P (Machine.adminDone v0 v1 v2 v3 v4 v5 v6 v7) := by
  unfold Machine.adminDone
  exact (post_kept K h)

theorem adminIn_kept (K : Keeps P) {v0 v1 v2 v3 v4 v5} (hf6 : ∀ y0, Kept P y0 → Kept P (v4 y0)) (h : Kept P v5) :
    Kept P (Machine.adminIn v0 v1 v2 v3 v4 v5) := by
  unfold Machine.adminIn
  extract_lets here7
  refine ite_kept ?_ ?_
  · exact h
  · refine ite_kept ?_ ?_
    · exact (adminDone_kept K h)
    · refine ite_kept ?_ ?_
      · exact (adminDone_kept K h)
      · exact (hf6 _ h)

theorem adminSide_kept (K : Keeps P) {v0 v1 v2 v3} (hf4 : ∀ y0, Kept P y0 → Kept P (v2 y0)) (h : Kept P v3) :
    Kept P (Machine.adminSide v0 v1 v2 v3) := by
  unfold Machine.adminSide
  exact (adminIn_kept K (fun a5 h6 => (hf4 _ h6)) h)

theorem admin_kept (K : Keeps P) {v0 v1 v2 v3} (hf4 : ∀ y0, Kept P y0 → Kept P (v2 y0)) (h : Kept P v3) :
    Kept P (Machine.admin v0 v1 v2 v3) := by
  unfold Machine.admin
  exact (adminSide_kept K (fun a5 h6 => by
  split
  · exact (adminDone_kept K h6)
  · exact (hf4 _ h6)) h)

theorem takeCal_kept (K : Keeps P) {v0 v1} (h : Kept P v1) :
    Kept P (Machine.takeCal v0 v1) := by
  unfold Machine.takeCal
  extract_lets c2 s3 rest4
  have h5 : Kept P s3 := (takeForces_kept K h)
  clear_value s3
  refine ite_kept ?_ ?_
  · exact h
  · refine ite_kept ?_ ?_
    · exact (foldl_kept (fun a6 a7 h8 => (adminDone_kept K h8)) (lit_kept h5 rfl rfl rfl rfl rfl rfl rfl rfl rfl))
    · exact (lit_kept h5 rfl rfl rfl rfl rfl rfl rfl rfl rfl)

theorem execInvalidOpcode_kept (K : Keeps P) {v0 v1 v2 v3 v4} (h : Kept P v4) :
    KeptOut P (Machine.execInvalidOpcode v0 v1 v2 v3 v4) := by
  unfold Machine.execInvalidOpcode
  refine iteO_kept ?_ ?_
  · refine next_kept ?_
    refine ite_kept ?_ ?_
    · exact h
    · exact (admin_kept K (fun a5 h6 => (adminDone_kept K h6)) h)
  · split
    · exact (next_kept h)
    · refine next_kept ?_
      refine ite_kept ?_ ?_
      · exact h
      · exact (failCmd_kept K h)

theorem execCreateIoSq_kept (K : Keeps P) {v0 v1 v2 v3 v4 v5 v6} (h : Kept P v6) :
    KeptOut P (Machine.execCreateIoSq v0 v1 v2 v3 v4 v5 v6) := by
  unfold Machine.execCreateIoSq
  exact (next_kept (admin_kept K (fun a7 h8 => by
  refine ite_kept ?_ ?_
  · exact (adminDone_kept K h8)
  · refine ite_kept ?_ ?_
    · exact (adminDone_kept K h8)
    · refine ite_kept ?_ ?_
      · exact (adminDone_kept K h8)
      · exact (adminDone_kept K (addQueue_kept K h8))) h))

theorem execCreateIoCq_kept (K : Keeps P) {v0 v1 v2 v3 v4 v5} (h : Kept P v5) :
    KeptOut P (Machine.execCreateIoCq v0 v1 v2 v3 v4 v5) := by
  unfold Machine.execCreateIoCq
  exact (next_kept (admin_kept K (fun a6 h7 => by
  refine ite_kept ?_ ?_
  · exact (adminDone_kept K h7)
  · refine ite_kept ?_ ?_
    · exact (adminDone_kept K h7)
    · refine ite_kept ?_ ?_
      · exact (adminDone_kept K h7)
      · exact (adminDone_kept K (addQueue_kept K h7))) h))

theorem execDeleteIoSq_kept (K : Keeps P) {v0 v1 v2 v3} (h : Kept P v3) :
    KeptOut P (Machine.execDeleteIoSq v0 v1 v2 v3) := by
  unfold Machine.execDeleteIoSq
  exact (next_kept (admin_kept K (fun a4 h5 => by
  split
  · exact (adminDone_kept K h5)
  · extract_lets zsrc11 s12 mine13
    have h14 : Kept P s12 := (lit_kept h5 rfl rfl rfl rfl rfl rfl rfl rfl rfl)
    clear_value s12
    refine ite_kept ?_ ?_
    · exact (adminDone_kept K h5)
    · exact (settleDeletes_kept K (refreshSlots_kept K (foldl_kept (fun a15 a16 h17 => (failCmd_kept K h17)) h14)))) h))

theorem execDeleteIoCq_kept (K : Keeps P) {v0 v1 v2 v3} (h : Kept P v3) :
    KeptOut P (Machine.execDeleteIoCq v0 v1 v2 v3) := by
  unfold Machine.execDeleteIoCq
  exact (next_kept (admin_kept K (fun a4 h5 => by
  split
  · exact (adminDone_kept K h5)
  · refine ite_kept ?_ ?_
    · exact (adminDone_kept K h5)
    · refine ite_kept ?_ ?_
      · exact (adminDone_kept K h5)
      · exact (adminDone_kept K (freeQueue_kept K h5))) h))

theorem execAbort_kept (K : Keeps P) {v0 v1 v2 v3 v4} (h : Kept P v4) :
    KeptOut P (Machine.execAbort v0 v1 v2 v3 v4) := by
  unfold Machine.execAbort
  exact (next_kept (admin_kept K (fun a5 h6 => by
  split
  · exact (adminDone_kept K (bump_kept K (failCmd_kept K h6)))
  · exact (adminDone_kept K (bump_kept K h6))) h))

theorem withdrawFn_kept (K : Keeps P) {v0 v1} (h : Kept P v1) :
    Kept P (Machine.withdrawFn v0 v1) := by
  unfold Machine.withdrawFn
  extract_lets zsrc2 s3 zsrc4
  have h5 : Kept P s3 := (lit_kept h rfl rfl rfl rfl rfl rfl rfl rfl rfl)
  clear_value s3
  exact (foldl_kept (fun a6 a7 h8 => (dropCmd_kept K h8)) (lit_kept h5 rfl rfl rfl rfl rfl rfl rfl rfl rfl))

theorem dropQueues_kept (K : Keeps P) {v0 v1} (h : Kept P v1) :
    Kept P (Machine.dropQueues v0 v1) := by
  unfold Machine.dropQueues
  exact (foldl_kept (fun a2 a3 h4 => (freeQueue_kept K h4)) h)

theorem closeTab_kept (K : Keeps P) {v0} (h : Kept P v0) :
    Kept P (Machine.closeTab v0) := by
  unfold Machine.closeTab
  exact (putAll_kept K (lit_kept h rfl rfl rfl rfl rfl rfl rfl rfl rfl))

theorem closeFw_kept (K : Keeps P) {v0} (h : Kept P v0) :
    Kept P (Machine.closeFw v0) := by
  unfold Machine.closeFw
  exact (putAll_kept K (lit_kept h rfl rfl rfl rfl rfl rfl rfl rfl rfl))

theorem resetFn_kept (K : Keeps P) {v0 v1} (h : Kept P v1) :
    Kept P (Machine.resetFn v0 v1) := by
  unfold Machine.resetFn
  extract_lets s2 s3 s4 s5 zsrc6
  have h7 : Kept P s2 := (put_kept K (dropQueues_kept K (withdrawFn_kept K h)))
  clear_value s2
  have h8 : Kept P s3 := (putAll_kept K h7)
  clear_value s3
  have h9 : Kept P s4 := by
    unfold s4
    refine ite_kept ?_ ?_
    · exact (closeTab_kept K h8)
    · exact h8
  clear_value s4
  have h10 : Kept P s5 := by
    unfold s5
    refine ite_kept ?_ ?_
    · exact (closeFw_kept K h9)
    · exact h9
  clear_value s5
  exact (settleRdy_kept K (refreshSlots_kept K (lit_kept h10 rfl rfl rfl rfl rfl rfl rfl rfl rfl)))

theorem execFlr_kept (K : Keeps P) {v0 v1} (h : Kept P v1) :
    KeptOut P (Machine.execFlr v0 v1) := by
  unfold Machine.execFlr
  exact (next_kept (when_kept K (fun a2 h3 => (put_kept K (resetFn_kept K h3))) h))

theorem execCcEnSet_kept (K : Keeps P) {v0 v1 v2} (h : Kept P v2) :
    KeptOut P (Machine.execCcEnSet v0 v1 v2) := by
  unfold Machine.execCcEnSet
  extract_lets zsrc3 s4 s5 s6
  have h7 : Kept P s4 := (put_kept K (lit_kept h rfl rfl rfl rfl rfl rfl rfl rfl rfl))
  clear_value s4
  have h8 : Kept P s5 := (addQueue_kept K h7)
  clear_value s5
  have h9 : Kept P s6 := (addQueue_kept K h8)
  clear_value s6
  refine iteO_kept ?_ ?_
  · exact (next_kept h)
  · exact (next_kept (putB_kept K h9))

theorem linkChange_kept (K : Keeps P) {v0 v1} (h : Kept P v1) :
    Kept P (Machine.linkChange v0 v1) := by
  unfold Machine.linkChange
  exact (raise_kept K h)

theorem execHostLaneFault_kept (K : Keeps P) {v0 v1 v2} (h : Kept P v2) :
    KeptOut P (Machine.execHostLaneFault v0 v1 v2) := by
  unfold Machine.execHostLaneFault
  extract_lets bad3 zsrc4 s5 width6 again7 s8 s9
  have h10 : Kept P s5 := (lit_kept h rfl rfl rfl rfl rfl rfl rfl rfl rfl)
  clear_value s5
  have h11 : Kept P s8 := (openWindow_kept K h10)
  clear_value s8
  have h12 : Kept P s9 := (raise_kept K (bump_kept K (put_kept K h11)))
  clear_value s9
  refine iteO_kept ?_ ?_
  · exact (next_kept h)
  · refine iteO_kept ?_ ?_
    · exact (next_kept (closeWindow_kept K (forAll_kept K (fun a13 a14 h15 => (resetFn_kept K h15)) (linkChange_kept K (put_kept K h12)))))
    · exact (next_kept (closeWindow_kept K h12))

theorem execHostLinkLoss_kept (K : Keeps P) {v0 v1 v2 v3} (h : Kept P v3) :
    KeptOut P (Machine.execHostLinkLoss v0 v1 v2 v3) := by
  unfold Machine.execHostLinkLoss
  extract_lets zsrc4 s5 s6 s7
  have h8 : Kept P s5 := (forAll_kept K (fun a9 a10 h11 => (resetFn_kept K h11)) (lit_kept h rfl rfl rfl rfl rfl rfl rfl rfl rfl))
  clear_value s5
  have h12 : Kept P s6 := (putAll_kept K h8)
  clear_value s6
  have h13 : Kept P s7 := by
    unfold s7
    refine put_kept K ?_
    refine ite_kept ?_ ?_
    · exact (bump_kept K h12)
    · exact h12
  clear_value s7
  refine iteO_kept ?_ ?_
  · exact (next_kept h)
  · exact (next_kept (linkChange_kept K (unexpose_kept K h13)))

theorem execHstClrCnt_kept (K : Keeps P) {v0} (h : Kept P v0) :
    KeptOut P (Machine.execHstClrCnt v0) := by
  unfold Machine.execHstClrCnt
  exact (next_kept (clearAll_kept K h))

theorem markBounds_kept (K : Keeps P) {v0 v1 v2} (h : Kept P v2) :
    Kept P (Machine.markBounds v0 v1 v2) := by
  unfold Machine.markBounds
  split
  · exact h
  · exact (putBit_kept K h)

theorem writeItem_kept (K : Keeps P) {i g o s} (h : Kept P s) : Kept P (Machine.writeItem i g o s) := by
  unfold Machine.writeItem
  extract_lets s1 z s2
  have h1 : Kept P s1 := by
    unfold s1
    split
    · exact putI_kept K (put_kept K h)
    · exact putI_kept K h
    · exact h
  have h2 : Kept P s2 := lit_kept h1 rfl rfl rfl rfl rfl rfl rfl rfl rfl
  exact ite_kept (takeCal_kept K h2) h2

theorem skipExpander_kept (K : Keeps P) {v0 v1} (h : Kept P v1) :
    Kept P (Machine.skipExpander v0 v1) := by
  unfold Machine.skipExpander
  extract_lets zsrc2
  refine ite_kept ?_ ?_
  · exact h
  · exact (raise_kept K (putBit_kept K (lit_kept h rfl rfl rfl rfl rfl rfl rfl rfl rfl)))

theorem applyItem_kept (K : Keeps P) {v0 v1 v2 v3} (h : Kept P v3) :
    Kept P (Machine.applyItem v0 v1 v2 v3) := by
  unfold Machine.applyItem
  extract_lets differs4 zsrc5
  refine ite_kept ?_ ?_
  · refine ite_kept ?_ ?_
    · exact (putBit_kept K h)
    · exact h
  · refine ite_kept ?_ ?_
    · exact (raise_kept K (markBounds_kept K h))
    · exact (writeItem_kept K (markBounds_kept K (lit_kept h rfl rfl rfl rfl rfl rfl rfl rfl rfl)))

theorem settleExpander_kept (K : Keeps P) {v0 v1 v2} (h : Kept P v2) :
    Kept P (Machine.settleExpander v0 v1 v2) := by
  unfold Machine.settleExpander
  extract_lets n3 sum4 v5 r6
  refine ite_kept ?_ ?_
  · exact h
  · refine ite_kept ?_ ?_
    · exact (skipExpander_kept K h)
    · exact (applyItem_kept K h)

theorem dieTick_kept (K : Keeps P) {v0 v1 v2} (h : Kept P v2) :
    Kept P (Machine.dieTick v0 v1 v2) := by
  unfold Machine.dieTick
  extract_lets n3 s4
  have h5 : Kept P s4 := by
    unfold s4
    split
    · exact h
    · refine ite_kept ?_ ?_
      · exact (settleExpander_kept K h)
      · exact h
  clear_value s4
  split
  · exact h5
  · refine ite_kept ?_ ?_
    · exact (skipExpander_kept K h5)
    · exact h5

theorem dieOffsets_kept (K : Keeps P) {v0} (h : Kept P v0) :
    Kept P (Machine.dieOffsets v0) := by
  unfold Machine.dieOffsets
  exact (forAll_kept K (fun a1 a2 h3 => (applyItem_kept K h3)) h)

theorem endStep_kept (K : Keeps P) {v0 v1} (h : Kept P v1) :
    Kept P (Machine.endStep v0 v1) := by
  unfold Machine.endStep
  extract_lets x2 zsrc3 v4 r5
  refine ite_kept ?_ ?_
  · exact (applyItem_kept K h)
  · refine ite_kept ?_ ?_
    · exact (lit_kept h rfl rfl rfl rfl rfl rfl rfl rfl rfl)
    · refine ite_kept ?_ ?_
      · exact (applyItem_kept K h)
      · exact h

theorem calTick_kept (K : Keeps P) {s} (h : Kept P s) : Kept P (Machine.calTick s) := by
  unfold Machine.calTick
  split
  · extract_lets z s1 s2 s3 z2 s4
    have h1 : Kept P s1 := lit_kept h rfl rfl rfl rfl rfl rfl rfl rfl rfl
    clear_value s1
    have h2 : Kept P s2 := ite_kept (forAll_kept K (fun _ _ h => dieTick_kept K h) (ite_kept (dieOffsets_kept K h1) h1)) h1
    clear_value s2
    have h3 : Kept P s3 := endStep_kept K h2
    clear_value s3
    have h4 : Kept P s4 := lit_kept h3 rfl rfl rfl rfl rfl rfl rfl rfl rfl
    clear_value s4
    refine ite_kept h2 ?_
    split
    · exact h4
    · exact put_kept K h4
  · exact h

theorem calSample_kept (_K : Keeps P) {v0 v1 v2} (h : Kept P v2) :
    Kept P (Machine.calSample v0 v1 v2) := by
  unfold Machine.calSample
  split
  · exact h
  · extract_lets r8 k9 zsrc10
    refine ite_kept ?_ ?_
    · exact h
    · exact (lit_kept h rfl rfl rfl rfl rfl rfl rfl rfl rfl)

theorem copyBlock_kept (K : Keeps P) {v0 v1 v2 v3 v4} (h : Kept P v4) :
    Kept P (Machine.copyBlock v0 v1 v2 v3 v4) := by
  unfold Machine.copyBlock
  extract_lets p5 x6 d7
  exact (placeBlocks_kept K (bufWritePage_kept K h))

theorem reportSetLost_kept (K : Keeps P) {v0 v1} (h : Kept P v1) :
    Kept P (Machine.reportSetLost v0 v1) := by
  unfold Machine.reportSetLost
  extract_lets d2 s3 s4
  have h5 : Kept P s3 := (raise_kept K (bump_kept K h))
  clear_value s3
  have h6 : Kept P s4 := (markSet_kept K (updSet_kept K h5))
  clear_value s4
  exact (refreshArbours_kept K (raise_kept K h6))

theorem copySet_kept (K : Keeps P) {hd n s} (h : Kept P s) : Kept P (Machine.copySet hd n s) := by
  induction n generalizing s with
  | zero => exact h
  | succ n ih =>
    unfold Machine.copySet
    split
    · exact ite_kept (reportSetLost_kept K h) h
    · split
      · exact h
      · extract_lets s1
        have h1 : Kept P s1 := copyBlock_kept K (updSet_kept K h)
        clear_value s1
        exact ih (ite_kept (bump_kept K h1) h1)

theorem advanceCopies_kept (K : Keeps P) {v0} (h : Kept P v0) :
    Kept P (Machine.advanceCopies v0) := by
  unfold Machine.advanceCopies
  exact (dropClean_kept K (forAll_kept K (fun a1 a2 h3 => (copySet_kept K h3)) h))

theorem startCopies_kept (K : Keeps P) {v0 v1} (h : Kept P v1) :
    Kept P (Machine.startCopies v0 v1) := by
  unfold Machine.startCopies
  exact (issueNext_kept K (updSet_kept K h))

theorem releaseRow_kept (K : Keeps P) {v0 v1 v2} (h : Kept P v2) :
    Kept P (Machine.releaseRow v0 v1 v2) := by
  unfold Machine.releaseRow
  exact (foldl_kept (fun a3 a4 h5 => (releaseLost_kept K h5)) (lit_kept h rfl rfl rfl rfl rfl rfl rfl rfl rfl))

theorem rowLost_kept (K : Keeps P) {v0 v1 v2} (h : Kept P v2) :
    Kept P (Machine.rowLost v0 v1 v2) := by
  unfold Machine.rowLost
  extract_lets d3 w4 erased5 reads6 inRow7 keep8 s9 s10 s11
  have h12 : Kept P s9 := (bump_kept K (foldl_kept (fun a13 a14 h15 => (copyBlock_kept K h15)) h))
  clear_value s9
  have h16 : Kept P s10 := (raise_kept K (bump_kept K h12))
  clear_value s10
  have h17 : Kept P s11 := (updSet_kept K (markSet_kept K h16))
  clear_value s11
  exact (releaseRow_kept K (refreshArbours_kept K (raise_kept K h17)))

theorem endContexts_kept (K : Keeps P) {v0 v1} (h : Kept P v1) :
    Kept P (Machine.endContexts v0 v1) := by
  unfold Machine.endContexts
  exact (parStatus_kept K (forAll_kept K (fun a2 a3 h4 => by
  refine ite_kept ?_ ?_
  · exact (put_kept K h4)
  · exact h4) h))

theorem setLost_kept (K : Keeps P) {v0 v1} (h : Kept P v1) :
    Kept P (Machine.setLost v0 v1) := by
  unfold Machine.setLost
  extract_lets s2
  have h3 : Kept P s2 := (startCopies_kept K (updSet_kept K (endContexts_kept K h)))
  clear_value s2
  exact (copySet_kept K h3)

theorem takeSpare_kept (K : Keeps P) {v0 v1 v2 v3} (h : Kept P v3) :
    Kept P (Machine.takeSpare v0 v1 v2 v3) := by
  unfold Machine.takeSpare
  extract_lets d4 st5 s6
  have h7 : Kept P s6 := (updDisc_kept K h)
  clear_value s6
  exact (writeDirectory_kept K (bump_kept K h7))

theorem waitSpare_kept (K : Keeps P) {v0} (h : Kept P v0) :
    Kept P (Machine.waitSpare v0) := by
  unfold Machine.waitSpare
  exact (notify_kept K (raise_kept K h))

theorem tickContext_kept (K : Keeps P) {v0 v1} (h : Kept P v1) :
    Kept P (Machine.tickContext v0 v1) := by
  unfold Machine.tickContext
  extract_lets at2 n3 s4 zsrc5
  have h6 : Kept P s4 := by
    unfold s4
    refine ite_kept ?_ ?_
    · exact (bump_kept K h)
    · exact (bump_kept K h)
  clear_value s4
  refine ite_kept ?_ ?_
  · exact h
  · exact (put_kept K (lit_kept h6 rfl rfl rfl rfl rfl rfl rfl rfl rfl))

theorem tickContexts_kept (K : Keeps P) {v0} (h : Kept P v0) :
    Kept P (Machine.tickContexts v0) := by
  unfold Machine.tickContexts
  exact (forAll_kept K (fun a1 a2 h3 => (tickContext_kept K h3)) h)

theorem startEvacuate_kept (K : Keeps P) {v0 v1} (h : Kept P v1) :
    Kept P (Machine.startEvacuate v0 v1) := by
  unfold Machine.startEvacuate
  exact (raise_kept K (bump_kept K (put_kept K (startCopies_kept K h))))

theorem rbBegin_kept (K : Keeps P) {v0 v1} (h : Kept P v1) :
    Kept P (Machine.rbBegin v0 v1) := by
  unfold Machine.rbBegin
  extract_lets hd2 m3 s4 zsrc5 s6
  have h7 : Kept P s4 := (putAll_kept K h)
  clear_value s4
  have h8 : Kept P s6 := (lit_kept h7 rfl rfl rfl rfl rfl rfl rfl rfl rfl)
  clear_value s6
  refine ite_kept ?_ ?_
  · exact (startEvacuate_kept K h8)
  · split
    · exact (put_kept K (put_kept K (takeSpare_kept K (journal_kept K (journal_kept K h8)))))
    · exact (waitSpare_kept K (put_kept K h8))

theorem rbTake_kept (K : Keeps P) {v0 v1} (h : Kept P v1) :
    Kept P (Machine.rbTake v0 v1) := by
  unfold Machine.rbTake
  extract_lets d2 zsrc3
  split
  · exact h
  · extract_lets s9
    have h10 : Kept P s9 := (lit_kept h rfl rfl rfl rfl rfl rfl rfl rfl rfl)
    clear_value s9
    exact (putAll_kept K h10)

theorem joinIdle_kept (K : Keeps P) {v0 v1 v2} (h : Kept P v2) :
    Kept P (Machine.joinIdle v0 v1 v2) := by
  unfold Machine.joinIdle
  exact (raise_kept K (putAll_kept K h))

theorem secondFailure_kept (K : Keeps P) {v0 v1 v2} (h : Kept P v2) :
    Kept P (Machine.secondFailure v0 v1 v2) := by
  unfold Machine.secondFailure
  extract_lets hd3 cur4 shift5 s6 zsrc7 s8 s9 st10
  have h11 : Kept P s6 := (putAll_kept K h)
  clear_value s6
  have h12 : Kept P s8 := by
    unfold s8
    refine ite_kept ?_ ?_
    · exact (lit_kept h11 rfl rfl rfl rfl rfl rfl rfl rfl rfl)
    · exact h
  clear_value s8
  have h13 : Kept P s9 := (raise_kept K (putAll_kept K h12))
  clear_value s9
  split
  · exact (put_kept K (put_kept K (takeSpare_kept K h13)))
  · exact (waitSpare_kept K h13)

theorem spareFails_kept (K : Keeps P) {i m s} (h : Kept P s) : Kept P (Machine.spareFails i m s) := by
  unfold Machine.spareFails
  extract_lets hd cur bad s1 z s' new x second other t z2 s2 st
  have h1 : Kept P s1 := updDisc_kept K h
  clear_value s1
  have h' : Kept P s' := lit_kept h1 rfl rfl rfl rfl rfl rfl rfl rfl rfl
  clear_value s'
  have ht : Kept P t := put_kept K h'
  clear_value t
  have h2 : Kept P s2 := raise_kept K (ite_kept (putAll_kept K h')
    (ite_kept (lit_kept ht rfl rfl rfl rfl rfl rfl rfl rfl rfl) (putAll_kept K h')))
  clear_value s2 new
  cases new
  · exact waitSpare_kept K h2
  · exact put_kept K (takeSpare_kept K h2)

theorem rbNext_kept (K : Keeps P) {v0} (h : Kept P v0) :
    Kept P (Machine.rbNext v0) := by
  unfold Machine.rbNext
  extract_lets s1 order2
  have h3 : Kept P s1 := (forAll_kept K (fun a4 a5 h6 => (rbTake_kept K h6)) h)
  clear_value s1
  exact (forAll_kept K (fun a7 a8 h9 => by
  extract_lets hd10 v11
  have h12 : Kept P v11 := (rbBegin_kept K h9)
  clear_value v11
  refine ite_kept ?_ ?_
  · exact (foldl_kept (fun a13 a14 h15 => by
      refine ite_kept ?_ ?_
      · exact h15
      · exact (secondFailure_kept K h15)) h12)
  · exact h9) h3)

theorem rbRetry_kept (K : Keeps P) {v0} (h : Kept P v0) :
    Kept P (Machine.rbRetry v0) := by
  unfold Machine.rbRetry
  exact (forAll_kept K (fun a1 a2 h3 => by
  extract_lets hd4 first5 second6
  try unfold second6
  extract_lets m7
  refine ite_kept ?_ ?_
  · split
    · refine putAll_kept K ?_
      refine takeSpare_kept K ?_
      try unfold first5
      extract_lets m11
      refine ite_kept ?_ ?_
      · split
        · exact (put_kept K (put_kept K (takeSpare_kept K h3)))
        · exact h3
      · exact h3
    · try unfold first5
      extract_lets m19
      refine ite_kept ?_ ?_
      · split
        · exact (put_kept K (put_kept K (takeSpare_kept K h3)))
        · exact h3
      · exact h3
  · try unfold first5
    extract_lets m25
    refine ite_kept ?_ ?_
    · split
      · exact (put_kept K (put_kept K (takeSpare_kept K h3)))
      · exact h3
    · exact h3) h)

theorem endWrites_kept (K : Keeps P) {v0 v1} (h : Kept P v1) :
    Kept P (Machine.endWrites v0 v1) := by
  unfold Machine.endWrites
  exact (forAll_kept K (fun a2 a3 h4 => by
  refine ite_kept ?_ ?_
  · exact (put_kept K (closeGate_kept K (updWrite_kept K h4)))
  · exact h4) h)

theorem openSetStop_kept (K : Keeps P) {v0 v1} (h : Kept P v1) :
    Kept P (Machine.openSetStop v0 v1) := by
  unfold Machine.openSetStop
  extract_lets d2 s3
  have h4 : Kept P s3 := by
    unfold s3
    refine ite_kept ?_ ?_
    · exact (sealSet_kept K (updSet_kept K (endWrites_kept K h)))
    · exact h
  clear_value s3
  exact (foldl_kept (fun a5 a6 h7 => (rowDamaged_kept K h7)) h4)

theorem degradeDisc_kept (K : Keeps P) {v0 v1 v2} (h : Kept P v2) :
    Kept P (Machine.degradeDisc v0 v1 v2) := by
  unfold Machine.degradeDisc
  exact (refreshArbours_kept K (writeDirectory_kept K (updDisc_kept K h)))

theorem failMember_kept (K : Keeps P) {v0 v1 v2 v3} (h : Kept P v3) :
    Kept P (Machine.failMember v0 v1 v2 v3) := by
  unfold Machine.failMember
  extract_lets d4 s5 s6 s7 s8
  have h9 : Kept P s5 := (raise_kept K (bump_kept K (tickContexts_kept K h)))
  clear_value s5
  have h10 : Kept P s6 := (issueNext_kept K (putSet_kept K h9))
  clear_value s6
  have h11 : Kept P s7 := (openSetStop_kept K h10)
  clear_value s7
  have h12 : Kept P s8 := by
    unfold s8
    refine ite_kept ?_ ?_
    · split
      · refine ite_kept ?_ ?_
        · exact h9
        · exact (spareFails_kept K h9)
      · exact h9
    · refine ite_kept ?_ ?_
      · exact (setLost_kept K h11)
      · split
        · refine ite_kept ?_ ?_
          · exact h11
          · refine ite_kept ?_ ?_
            · exact (joinIdle_kept K h11)
            · exact (secondFailure_kept K h11)
        · exact (rbNext_kept K h11)
  clear_value s8
  exact (parStatus_kept K (refreshArbours_kept K h12))

theorem execReconstruction_kept (K : Keeps P) {v0 v1 v2 v3} (h : Kept P v3) :
    KeptOut P (Machine.execReconstruction v0 v1 v2 v3) := by
  unfold Machine.execReconstruction
  extract_lets d4 x5 erased6 reads7 self8 zsrc9 s10
  have h11 : Kept P s10 := (raise_kept K (bump_kept K (lit_kept h rfl rfl rfl rfl rfl rfl rfl rfl rfl)))
  clear_value s10
  refine iteO_kept ?_ ?_
  · exact (next_kept h)
  · refine iteO_kept ?_ ?_
    · exact (next_kept (releaseRow_kept K h))
    · refine iteO_kept ?_ ?_
      · exact (next_kept h)
      · refine iteO_kept ?_ ?_
        · exact (next_kept (rowLost_kept K h))
        · refine iteO_kept ?_ ?_
          · exact (next_kept (releaseLost_kept K (bump_kept K (keepClean_kept K h))))
          · refine next_kept ?_
            refine ite_kept ?_ ?_
            · exact h11
            · exact (rowLost_kept K h11)

theorem execMemberFailed_kept (K : Keeps P) {v0 v1 v2 v3} (h : Kept P v3) :
    KeptOut P (Machine.execMemberFailed v0 v1 v2 v3) := by
  unfold Machine.execMemberFailed
  extract_lets d4 x5 lim6 s7
  have h8 : Kept P s7 := (degradeDisc_kept K h)
  clear_value s7
  refine iteO_kept ?_ ?_
  · exact (next_kept h)
  · refine iteO_kept ?_ ?_
    · exact (next_kept (failMember_kept K h))
    · refine next_kept ?_
      refine ite_kept ?_ ?_
      · exact (failMember_kept K h8)
      · exact h8

theorem rebuildRow_kept (K : Keeps P) {v0 v1 v2 v3} (h : Kept P v3) :
    Kept P (Machine.rebuildRow v0 v1 v2 v3) := by
  unfold Machine.rebuildRow
  extract_lets hd4 lose5
  exact (foldl_kept (fun a6 a7 h8 => by
  refine ite_kept ?_ ?_
  · exact h8
  · refine ite_kept ?_ ?_
    · exact h8
    · refine ite_kept ?_ ?_
      · try unfold lose5
        exact (bump_kept K (rowLost_kept K h8))
      · split
        · exact (lit_kept h8 rfl rfl rfl rfl rfl rfl rfl rfl rfl)
        · extract_lets zsrc14 v15
          have h16 : Kept P v15 := (raise_kept K (bump_kept K (lit_kept h8 rfl rfl rfl rfl rfl rfl rfl rfl rfl)))
          clear_value v15
          refine ite_kept ?_ ?_
          · exact h16
          · try unfold lose5
            exact (bump_kept K (rowLost_kept K h16))) h)

theorem execRebuildSlotGroup_kept (K : Keeps P) {v0 v1} (h : Kept P v1) :
    KeptOut P (Machine.execRebuildSlotGroup v0 v1) := by
  unfold Machine.execRebuildSlotGroup
  extract_lets s2 hd3 s4 group5 blank6 rows7 todo8 s9 next10 zsrc11 s12 zsrc13 zsrc14 s15
  have h16 : Kept P s2 := (tickContext_kept K h)
  clear_value s2
  have h17 : Kept P s4 := by
    unfold s4
    refine ite_kept ?_ ?_
    · exact (raise_kept K (put_kept K h16))
    · exact h16
  clear_value s4
  have h18 : Kept P s9 := (foldl_kept (fun a19 a20 h21 => (rebuildRow_kept K h21)) h17)
  clear_value s9
  have h22 : Kept P s12 := by
    unfold s12
    refine ite_kept ?_ ?_
    · exact (lit_kept h18 rfl rfl rfl rfl rfl rfl rfl rfl rfl)
    · exact h18
  clear_value s12
  have h23 : Kept P zsrc13 := (put_kept K h22)
  clear_value zsrc13
  have h24 : Kept P s15 := (lit_kept h23 rfl rfl rfl rfl rfl rfl rfl rfl rfl)
  clear_value s15
  refine iteO_kept ?_ ?_
  · exact (next_kept h)
  · refine iteO_kept ?_ ?_
    · exact (next_kept h16)
    · refine iteO_kept ?_ ?_
      · exact (next_kept (parStatus_kept K (startEvacuate_kept K h16)))
      · refine iteO_kept ?_ ?_
        · exact (next_kept h17)
        · refine iteO_kept ?_ ?_
          · exact (next_kept (dropClean_kept K (journal_kept K (journal_kept K h24))))
          · exact (next_kept h18)

theorem replaceMember_kept (K : Keeps P) {v0 v1 v2 v3} (h : Kept P v3) :
    Kept P (Machine.replaceMember v0 v1 v2 v3) := by
  unfold Machine.replaceMember
  extract_lets d4 s5
  have h6 : Kept P s5 := (updDisc_kept K h)
  clear_value s5
  exact (raise_kept K (bump_kept K (putSet_kept K (updDisc_kept K h6))))

theorem execRebuildMemberDone_kept (K : Keeps P) {v0 v1} (h : Kept P v1) :
    KeptOut P (Machine.execRebuildMemberDone v0 v1) := by
  unfold Machine.execRebuildMemberDone
  extract_lets hd2 st3 wrap4 m5 m6 x7 x8 live9 done10 done11 s12 s13 more14 s15
  have h16 : Kept P s12 := by
    unfold s12
    refine ite_kept ?_ ?_
    · exact (replaceMember_kept K h)
    · exact h
  clear_value s12
  have h17 : Kept P s13 := by
    unfold s13
    refine ite_kept ?_ ?_
    · exact (replaceMember_kept K h16)
    · exact h16
  clear_value s13
  have h18 : Kept P s15 := by
    unfold s15
    refine ite_kept ?_ ?_
    · exact (putAll_kept K h17)
    · refine ite_kept ?_ ?_
      · exact (put_kept K h17)
      · exact h17
  clear_value s15
  refine iteO_kept ?_ ?_
  · exact (next_kept h)
  · exact (next_kept (parStatus_kept K (refreshArbours_kept K (rbNext_kept K (writeDirectory_kept K h18)))))

theorem execReshapeCursorAdvance_kept (K : Keeps P) {v0 v1} (h : Kept P v1) :
    KeptOut P (Machine.execReshapeCursorAdvance v0 v1) := by
  unfold Machine.execReshapeCursorAdvance
  extract_lets hd2 d3 cur4 bs5 next6 gone7 zsrc8 s9 s10 s11 s12 step13
  have h14 : Kept P s9 := by
    unfold s9
    refine ite_kept ?_ ?_
    · exact (lit_kept h rfl rfl rfl rfl rfl rfl rfl rfl rfl)
    · exact h
  clear_value s9
  have h15 : Kept P s10 := (foldl_kept (fun a16 a17 h18 => by
  split
  · exact (copyBlock_kept K h18)
  · exact h18) (bump_kept K h14))
  clear_value s10
  have h24 : Kept P s11 := (bump_kept K (put_kept K h15))
  clear_value s11
  have h25 : Kept P s12 := (dropClean_kept K (journal_kept K h24))
  clear_value s12
  refine iteO_kept ?_ ?_
  · exact (next_kept h)
  · refine next_kept ?_
    refine ite_kept ?_ ?_
    · exact (switchEpoch_kept K (put_kept K h25))
    · exact h25

theorem startReshape_kept (K : Keeps P) {v0 v1 v2} (h : Kept P v2) :
    Kept P (Machine.startReshape v0 v1 v2) := by
  unfold Machine.startReshape
  extract_lets s3 zsrc4
  have h5 : Kept P s3 := (issueNext_kept K (updSet_kept K h))
  clear_value s3
  exact (putAll_kept K (lit_kept h5 rfl rfl rfl rfl rfl rfl rfl rfl rfl))

theorem reshapeAuto_kept (K : Keeps P) {v0} (h : Kept P v0) :
    Kept P (Machine.reshapeAuto v0) := by
  unfold Machine.reshapeAuto
  refine ite_kept ?_ ?_
  · exact (parStatus_kept K (forAll_kept K (fun a1 a2 h3 => by
      split
      · refine ite_kept ?_ ?_
        · exact h3
        · exact (startReshape_kept K h3)
      · exact h3) h))
  · exact h

theorem execReshapeDone_kept (K : Keeps P) {v0 v1} (h : Kept P v1) :
    KeptOut P (Machine.execReshapeDone v0 v1) := by
  unfold Machine.execReshapeDone
  extract_lets hd2
  refine iteO_kept ?_ ?_
  · exact (next_kept h)
  · refine iteO_kept ?_ ?_
    · exact (next_kept (checkpointAgain_kept K h))
    · exact (next_kept (reshapeAuto_kept K (parStatus_kept K (raise_kept K (retireSet_kept K (endContexts_kept K (put_kept K h)))))))

theorem parCmd_kept (K : Keeps P) {v0 v1 v2 v3 v4 v5 v6} (h : Kept P v6) :
    Kept P (Machine.parCmd v0 v1 v2 v3 v4 v5 v6) := by
  unfold Machine.parCmd
  exact (putAll_kept K h)

theorem execFailMember_kept (K : Keeps P) {v0 v1 v2} (h : Kept P v2) :
    KeptOut P (Machine.execFailMember v0 v1 v2) := by
  unfold Machine.execFailMember
  extract_lets d3 s4 i5
  have h6 : Kept P s4 := (failMember_kept K h)
  clear_value s4
  refine iteO_kept ?_ ?_
  · exact (next_kept (parCmd_kept K h))
  · refine iteO_kept ?_ ?_
    · exact (next_kept (parCmd_kept K h))
    · exact (next_kept (parCmd_kept K h6))

theorem execReshape_kept (K : Keeps P) {v0 v1} (h : Kept P v1) :
    KeptOut P (Machine.execReshape v0 v1) := by
  unfold Machine.execReshape
  extract_lets d2
  refine iteO_kept ?_ ?_
  · exact (next_kept (parCmd_kept K h))
  · refine iteO_kept ?_ ?_
    · exact (next_kept (parCmd_kept K h))
    · split
      · exact (next_kept (parCmd_kept K h))
      · exact (next_kept (parStatus_kept K (parCmd_kept K (startReshape_kept K h))))

theorem execCancelReshape_kept (K : Keeps P) {v0 v1} (h : Kept P v1) :
    KeptOut P (Machine.execCancelReshape v0 v1) := by
  unfold Machine.execCancelReshape
  refine iteO_kept ?_ ?_
  · exact (next_kept (parStatus_kept K (parCmd_kept K (put_kept K h))))
  · exact (next_kept (parCmd_kept K h))

theorem execParCmdRefused_kept (K : Keeps P) {v0 v1} (h : Kept P v1) :
    KeptOut P (Machine.execParCmdRefused v0 v1) := by
  unfold Machine.execParCmdRefused
  exact (next_kept (parCmd_kept K h))

theorem execParEnable_kept (K : Keeps P) {v0 v1} (h : Kept P v1) :
    KeptOut P (Machine.execParEnable v0 v1) := by
  unfold Machine.execParEnable
  exact (next_kept (putB_kept K (tickContexts_kept K h)))

theorem execParClrCnt_kept (K : Keeps P) {v0} (h : Kept P v0) :
    KeptOut P (Machine.execParClrCnt v0) := by
  unfold Machine.execParClrCnt
  exact (next_kept (clearAll_kept K h))

end Sys2Proof.Laws
end

