-- ==== Sys2Proof/Laws/KeptLinks.lean ====
section
/-! SUPPORT. A property that the elementary writes keep is kept by every operation and command of the links and the write path. -/

namespace Sys2Proof.Laws

open Sys2Proof.Machine

variable {P : Store → Prop}

theorem execUpstreamSuperframe_kept (K : Keeps P) {v0 v1 v2 v3} (h : Kept P v3) :
    KeptOut P (Machine.execUpstreamSuperframe v0 v1 v2 v3) := by
  unfold Machine.execUpstreamSuperframe
  extract_lets st4 t5 k6 marker7 hits8 locked9 words10 uncorr11 wrong12 rx13 s14
  have h15 : Kept P s14 := (updLink_kept K h)
  clear_value s14
  refine iteO_kept ?_ ?_
  · exact (next_kept h)
  · exact (next_kept (lanesUp_kept K (bump_kept K (bump_kept K h15))))

theorem execMarkerLoss_kept (K : Keeps P) {v0 v1 v2} (h : Kept P v2) :
    KeptOut P (Machine.execMarkerLoss v0 v1 v2) := by
  unfold Machine.execMarkerLoss
  extract_lets st3 s4 k5
  have h6 : Kept P s4 := (lanesUp_kept K (updLink_kept K h))
  clear_value s4
  refine iteO_kept ?_ ?_
  · exact (next_kept h)
  · refine iteO_kept ?_ ?_
    · refine iteO_kept ?_ ?_
      · exact (next_kept (setLink_kept K h6))
      · exact (next_kept h6)
    · refine iteO_kept ?_ ?_
      · exact (next_kept (trainFail_kept K h6))
      · exact (next_kept h6)

theorem execLaneFault_kept (K : Keeps P) {v0 v1 v2} (h : Kept P v2) :
    KeptOut P (Machine.execLaneFault v0 v1 v2) := by
  unfold Machine.execLaneFault
  extract_lets k3 bad4 s5
  have h6 : Kept P s5 := (raise_kept K (updLink_kept K h))
  clear_value s5
  refine iteO_kept ?_ ?_
  · exact (next_kept h)
  · refine iteO_kept ?_ ?_
    · exact (next_kept (setLink_kept K (closeWindow_kept K h6)))
    · refine iteO_kept ?_ ?_
      · exact (next_kept (sendLane_kept K (openWindow_kept K h6)))
      · exact (next_kept (permits_kept K (abandonSlots_kept K (updLink_kept K h6))))

theorem execLaneMapSwitch_kept (K : Keeps P) {v0 v1} (h : Kept P v1) :
    KeptOut P (Machine.execLaneMapSwitch v0 v1) := by
  unfold Machine.execLaneMapSwitch
  split
  · exact (next_kept h)
  · extract_lets s10 s11
    have h12 : Kept P s10 := (putAll_kept K (updLink_kept K h))
    clear_value s10
    have h13 : Kept P s11 := by
      unfold s11
      refine ite_kept ?_ ?_
      · exact (abandonSlots_kept K h12)
      · exact h12
    clear_value s11
    refine iteO_kept ?_ ?_
    · exact (next_kept h)
    · exact (next_kept (permits_kept K (closeWindow_kept K (takeForce_kept K (raise_kept K h13)))))

theorem execSampleCodeword_kept (K : Keeps P) {v0 v1 v2 v3} (h : Kept P v3) :
    KeptOut P (Machine.execSampleCodeword v0 v1 v2 v3) := by
  unfold Machine.execSampleCodeword
  extract_lets l4 w5 beams6 blank7 bits8
  refine iteO_kept ?_ ?_
  · exact (next_kept h)
  · refine iteO_kept ?_ ?_
    · exact (next_kept h)
    · exact (next_kept (updLink_kept K h))

theorem execMessageCodeword_kept (K : Keeps P) {v0 v1 v2 v3} (h : Kept P v3) :
    KeptOut P (Machine.execMessageCodeword v0 v1 v2 v3) := by
  unfold Machine.execMessageCodeword
  extract_lets l4 words5
  refine iteO_kept ?_ ?_
  · exact (next_kept h)
  · split
    · extract_lets skip10
      refine iteO_kept ?_ ?_
      · exact (next_kept (updLink_kept K h))
      · exact (next_kept h)
    · exact (next_kept h)

theorem takeMsg_kept (K : Keeps P) {v0 v1 v2 v3} (hf4 : ∀ y0, Kept P y0 → Kept P (v2 y0)) (h : Kept P v3) :
    Kept P (Machine.takeMsg v0 v1 v2 v3) := by
  unfold Machine.takeMsg
  extract_lets k5 s6
  have h7 : Kept P s6 := (updLink_kept K h)
  clear_value s6
  refine ite_kept ?_ ?_
  · exact (hf4 _ (updLink_kept K h7))
  · refine ite_kept ?_ ?_
    · exact (updLink_kept K h7)
    · exact h7

theorem execAck_kept (K : Keeps P) {v0 v1} (h : Kept P v1) :
    KeptOut P (Machine.execAck v0 v1) := by
  unfold Machine.execAck
  split
  · exact (next_kept h)
  · extract_lets q7
    exact (next_kept (updLink_kept K h))

theorem execIdent_kept (K : Keeps P) {v0 v1} (h : Kept P v1) :
    KeptOut P (Machine.execIdent v0 v1) := by
  unfold Machine.execIdent
  split
  · exact (next_kept h)
  · exact (next_kept (takeMsg_kept K (fun a7 h8 => by
      extract_lets p9 ok10 s11
      have h12 : Kept P s11 := (putB_kept K (putAll_kept K (updLink_kept K h8)))
      clear_value s11
      refine ite_kept ?_ ?_
      · exact h8
      · refine ite_kept ?_ ?_
        · exact h12
        · exact (raise_kept K (setLink_kept K h12))) h))

theorem execPong_kept (K : Keeps P) {v0 v1} (h : Kept P v1) :
    KeptOut P (Machine.execPong v0 v1) := by
  unfold Machine.execPong
  split
  · exact (next_kept h)
  · exact (next_kept (takeMsg_kept K (fun a7 h8 => (updLink_kept K h8)) h))

theorem deliver_kept (K : Keeps P) {v0 v1} (h : Kept P v1) :
    Kept P (Machine.deliver v0 v1) := by
  unfold Machine.deliver
  extract_lets k2
  split
  · exact (put_kept K h)
  · extract_lets words9
    refine ite_kept ?_ ?_
    · exact (put_kept K h)
    · exact (raise_kept K (put_kept K (put_kept K (putAll_kept K (updLink_kept K h)))))

theorem execFirmwareMessage_kept (K : Keeps P) {v0 v1} (h : Kept P v1) :
    KeptOut P (Machine.execFirmwareMessage v0 v1) := by
  unfold Machine.execFirmwareMessage
  split
  · exact (next_kept h)
  · refine iteO_kept ?_ ?_
    · exact (next_kept (updLink_kept K h))
    · exact (next_kept (takeMsg_kept K (fun a7 h8 => (deliver_kept K (updLink_kept K h8))) h))

theorem execUnknownMessage_kept (K : Keeps P) {v0 v1} (h : Kept P v1) :
    KeptOut P (Machine.execUnknownMessage v0 v1) := by
  unfold Machine.execUnknownMessage
  split
  · exact (next_kept h)
  · exact (next_kept (takeMsg_kept K (fun a7 h8 => (bump_kept K h8)) h))

theorem execMessageRetransmit_kept (K : Keeps P) {v0 v1} (h : Kept P v1) :
    KeptOut P (Machine.execMessageRetransmit v0 v1) := by
  unfold Machine.execMessageRetransmit
  extract_lets k2
  refine iteO_kept ?_ ?_
  · exact (next_kept h)
  · exact (next_kept (bump_kept K (updLink_kept K h)))

theorem execMsgFail_kept (K : Keeps P) {v0 v1} (h : Kept P v1) :
    KeptOut P (Machine.execMsgFail v0 v1) := by
  unfold Machine.execMsgFail
  extract_lets k2
  refine iteO_kept ?_ ?_
  · exact (next_kept h)
  · exact (next_kept (setLink_kept K (raise_kept K h)))

theorem execHlEnable_kept (K : Keeps P) {v0 v1 v2} (h : Kept P v2) :
    KeptOut P (Machine.execHlEnable v0 v1 v2) := by
  unfold Machine.execHlEnable
  extract_lets s3
  have h4 : Kept P s3 := (put_kept K h)
  clear_value s3
  refine iteO_kept ?_ ?_
  · exact (next_kept h)
  · refine iteO_kept ?_ ?_
    · exact (next_kept (setLink_kept K h4))
    · exact (next_kept h4)

theorem execHlTrain_kept (K : Keeps P) {v0 v1} (h : Kept P v1) :
    KeptOut P (Machine.execHlTrain v0 v1) := by
  unfold Machine.execHlTrain
  refine iteO_kept ?_ ?_
  · exact (next_kept h)
  · exact (next_kept (setLink_kept K (updLink_kept K (unitReset_kept K h))))

theorem execLaserPermit_kept (K : Keeps P) {v0 v1 v2} (h : Kept P v2) :
    KeptOut P (Machine.execLaserPermit v0 v1 v2) := by
  unfold Machine.execLaserPermit
  extract_lets s3
  have h4 : Kept P s3 := (put_kept K h)
  clear_value s3
  refine iteO_kept ?_ ?_
  · exact (next_kept h)
  · refine next_kept ?_
    refine permits_kept K ?_
    refine ite_kept ?_ ?_
    · exact (updLink_kept K h4)
    · exact h4

theorem execHlClrCnt_kept (K : Keeps P) {v0 v1} (h : Kept P v1) :
    KeptOut P (Machine.execHlClrCnt v0 v1) := by
  unfold Machine.execHlClrCnt
  refine iteO_kept ?_ ?_
  · exact (next_kept h)
  · exact (next_kept (clearAll_kept K h))

theorem execDegrGroup_kept (K : Keeps P) {v0 v1 v2} (h : Kept P v2) :
    KeptOut P (Machine.execDegrGroup v0 v1 v2) := by
  unfold Machine.execDegrGroup
  extract_lets s3
  have h4 : Kept P s3 := (put_kept K h)
  clear_value s3
  refine iteO_kept ?_ ?_
  · exact (next_kept h)
  · refine iteO_kept ?_ ?_
    · exact (next_kept (sendLane_kept K h4))
    · exact (next_kept h4)

theorem execHlAdcWrite_kept (K : Keeps P) {v0 v1 v2 v3} (h : Kept P v3) :
    KeptOut P (Machine.execHlAdcWrite v0 v1 v2 v3) := by
  unfold Machine.execHlAdcWrite
  refine iteO_kept ?_ ?_
  · exact (next_kept h)
  · exact (next_kept (sendAdc_kept K (put_kept K (put_kept K h))))

theorem execPrbsSeen_kept (K : Keeps P) {v0 v1 v2} (h : Kept P v2) :
    KeptOut P (Machine.execPrbsSeen v0 v1 v2) := by
  unfold Machine.execPrbsSeen
  refine iteO_kept ?_ ?_
  · exact (next_kept h)
  · exact (next_kept (setLink_kept K h))

theorem execLanesQualified_kept (K : Keeps P) {v0 v1 v2} (h : Kept P v2) :
    KeptOut P (Machine.execLanesQualified v0 v1 v2) := by
  unfold Machine.execLanesQualified
  extract_lets q3
  refine iteO_kept ?_ ?_
  · exact (next_kept h)
  · exact (next_kept (setLink_kept K (updLink_kept K h)))

theorem enterIdent_kept (K : Keeps P) {v0 v1} (h : Kept P v1) :
    Kept P (Machine.enterIdent v0 v1) := by
  unfold Machine.enterIdent
  extract_lets s2
  have h3 : Kept P s2 := (sendAdc_kept K (sendMsg_kept K (setLink_kept K h)))
  clear_value s2
  split
  · exact (sendLane_kept K h3)
  · exact h3

theorem execAlignLocked_kept (K : Keeps P) {v0 v1 v2} (h : Kept P v2) :
    KeptOut P (Machine.execAlignLocked v0 v1 v2) := by
  unfold Machine.execAlignLocked
  extract_lets ok3 s4
  have h5 : Kept P s4 := (put_kept K h)
  clear_value s4
  refine iteO_kept ?_ ?_
  · exact (next_kept h)
  · refine iteO_kept ?_ ?_
    · exact (next_kept (trainFail_kept K h5))
    · refine iteO_kept ?_ ?_
      · exact (next_kept (updLink_kept K h5))
      · exact (next_kept (enterIdent_kept K (lanesUp_kept K (updLink_kept K h5))))

theorem execIdentConfigInForce_kept (K : Keeps P) {v0 v1} (h : Kept P v1) :
    KeptOut P (Machine.execIdentConfigInForce v0 v1) := by
  unfold Machine.execIdentConfigInForce
  extract_lets k2 s3
  have h4 : Kept P s3 := (setLink_kept K (put_kept K (updHead_kept K h)))
  clear_value s3
  refine iteO_kept ?_ ?_
  · exact (next_kept h)
  · refine next_kept ?_
    refine leaveOff_kept K ?_
    refine ite_kept ?_ ?_
    · exact (unexpose_kept K h4)
    · exact h4

theorem execTrainingTimeout_kept (K : Keeps P) {v0 v1} (h : Kept P v1) :
    KeptOut P (Machine.execTrainingTimeout v0 v1) := by
  unfold Machine.execTrainingTimeout
  extract_lets st2
  refine iteO_kept ?_ ?_
  · exact (next_kept h)
  · exact (next_kept (trainFail_kept K h))

theorem execMboxSend_kept (K : Keeps P) {v0 v1} (h : Kept P v1) :
    KeptOut P (Machine.execMboxSend v0 v1) := by
  unfold Machine.execMboxSend
  extract_lets w2 body3
  refine iteO_kept ?_ ?_
  · exact (next_kept h)
  · exact (next_kept (sendMsg_kept K h))

theorem execMboxRxClear_kept (K : Keeps P) {v0 v1} (h : Kept P v1) :
    KeptOut P (Machine.execMboxRxClear v0 v1) := by
  unfold Machine.execMboxRxClear
  refine iteO_kept ?_ ?_
  · exact (next_kept h)
  · exact (next_kept (deliver_kept K (put_kept K h)))

theorem execMboxStall_kept (K : Keeps P) {v0 v1} (h : Kept P v1) :
    KeptOut P (Machine.execMboxStall v0 v1) := by
  unfold Machine.execMboxStall
  split
  · exact (next_kept h)
  · refine iteO_kept ?_ ?_
    · exact (next_kept (raise_kept K h))
    · exact (next_kept h)

theorem judgeSpeed_kept (K : Keeps P) {v0 v1} (h : Kept P v1) :
    Kept P (Machine.judgeSpeed v0 v1) := by
  unfold Machine.judgeSpeed
  extract_lets ok2 s3
  have h4 : Kept P s3 := (putB_kept K h)
  clear_value s3
  refine permits_kept K ?_
  refine ite_kept ?_ ?_
  · exact (raise_kept K h4)
  · exact h4

theorem wobbleSpeed_kept (K : Keeps P) {v0 v1} (h : Kept P v1) :
    Kept P (Machine.wobbleSpeed v0 v1) := by
  unfold Machine.wobbleSpeed
  refine ite_kept ?_ ?_
  · exact h
  · exact (judgeSpeed_kept K (put_kept K h))

theorem bayWobble_kept (K : Keeps P) {b s} (h : Kept P s) : Kept P (Machine.bayWobble b s) := by
  unfold Machine.bayWobble
  extract_lets hs
  clear_value hs
  split
  · exact put_kept K h
  · exact updSpin_kept K (put_kept K (put_kept K h))

theorem speedPeriod_kept (K : Keeps P) {v0 v1} (h : Kept P v1) :
    Kept P (Machine.speedPeriod v0 v1) := by
  unfold Machine.speedPeriod
  extract_lets x2 goal3 ref4 ok5 s6
  have h7 : Kept P s6 := (updSpin_kept K h)
  clear_value s6
  refine ite_kept ?_ ?_
  · exact (updSpin_kept K h)
  · refine ite_kept ?_ ?_
    · exact h
    · refine ite_kept ?_ ?_
      · exact h7
      · exact (put_kept K h7)

theorem carouselProfile_kept (K : Keeps P) {v0 v1} (h : Kept P v1) :
    Kept P (Machine.carouselProfile v0 v1) := by
  unfold Machine.carouselProfile
  extract_lets x2 st3 n4 a5 here6 rem7 stop8 v9 ends10 v11 pos12 raw13 fast14 fed15
  refine ite_kept ?_ ?_
  · exact (updCrs_kept K h)
  · exact (updCrs_kept K h)

theorem chopperSwitch_kept (K : Keeps P) {v0 v1} (h : Kept P v1) :
    Kept P (Machine.chopperSwitch v0 v1) := by
  unfold Machine.chopperSwitch
  extract_lets v2 was3 on4
  refine ite_kept ?_ ?_
  · exact h
  · exact (sendGate_kept K (putB_kept K h))

theorem headerRuns_kept (K : Keeps P) {v0 v1} (h : Kept P v1) :
    Kept P (Machine.headerRuns v0 v1) := by
  unfold Machine.headerRuns
  exact (updBus_kept K h)

theorem sendConfig_kept (K : Keeps P) {v0 v1} (h : Kept P v1) :
    Kept P (Machine.sendConfig v0 v1) := by
  unfold Machine.sendConfig
  exact (sendPacket_kept K h)

theorem linkPeriod_kept (K : Keeps P) {v0 v1} (h : Kept P v1) :
    Kept P (Machine.linkPeriod v0 v1) := by
  unfold Machine.linkPeriod
  extract_lets p2 k3 s4 s5 s6
  have h7 : Kept P s4 := (headerRuns_kept K (updBus_kept K h))
  clear_value s4
  have h8 : Kept P s5 := (takeForces_kept K (sendPacket_kept K h7))
  clear_value s5
  have h9 : Kept P s6 := by
    unfold s6
    refine ite_kept ?_ ?_
    · exact (sendPacket_kept K h8)
    · exact h8
  clear_value s6
  refine ite_kept ?_ ?_
  · exact (takeForces_kept K h7)
  · refine ite_kept ?_ ?_
    · exact (sendConfig_kept K h9)
    · exact h9

theorem bayPeriod_kept (K : Keeps P) {v0 v1} (h : Kept P v1) :
    Kept P (Machine.bayPeriod v0 v1) := by
  unfold Machine.bayPeriod
  extract_lets s2 sent3 s4 s5
  have h6 : Kept P s2 := (takeForces_kept K (linkPeriod_kept K h))
  clear_value s2
  have h7 : Kept P s4 := by
    unfold s4
    refine ite_kept ?_ ?_
    · exact (updSpin_kept K h6)
    · exact h6
  clear_value s4
  have h8 : Kept P s5 := (speedPeriod_kept K (losePeriod_kept K (bayWobble_kept K (wobbleSpeed_kept K (wobbleSpeed_kept K h7)))))
  clear_value s5
  refine ite_kept ?_ ?_
  · exact (controlPeriod_kept K h8)
  · exact h8

theorem axesPeriod_kept (K : Keeps P) {v0 v1} (h : Kept P v1) :
    Kept P (Machine.axesPeriod v0 v1) := by
  unfold Machine.axesPeriod
  extract_lets r2 code3
  have h4 : Kept P r2.2 := (foldlSnd_kept (fun a5 a6 h7 => by
  extract_lets u8
  have h9 : Kept P u8.2 := (stepRef_kept K h7)
  exact h9) h)
  refine ite_kept ?_ ?_
  · exact h4
  · exact (sendPacket_kept K h4)

theorem carPeriod_kept (K : Keeps P) {v0 v1} (h : Kept P v1) :
    Kept P (Machine.carPeriod v0 v1) := by
  unfold Machine.carPeriod
  extract_lets s2
  have h3 : Kept P s2 := (takeForces_kept K (linkPeriod_kept K h))
  clear_value s2
  exact (carouselProfile_kept K (updCrs_kept K h3))

theorem carSend_kept (K : Keeps P) {v0 v1} (h : Kept P v1) :
    Kept P (Machine.carSend v0 v1) := by
  unfold Machine.carSend
  extract_lets p2
  exact (sendPacket_kept K (sendPacket_kept K h))

theorem execPwmPeriod_kept (K : Keeps P) {v0} (h : Kept P v0) :
    KeptOut P (Machine.execPwmPeriod v0) := by
  unfold Machine.execPwmPeriod
  extract_lets s1 s2
  have h3 : Kept P s1 := (takeCal_kept K (calTick_kept K (put_kept K h)))
  clear_value s1
  have h4 : Kept P s2 := (forAll_kept K (fun a5 a6 h7 => (axesPeriod_kept K (bayPeriod_kept K h7))) h3)
  clear_value s2
  exact (next_kept (forAll_kept K (fun a8 a9 h10 => by
  extract_lets t11
  have h12 : Kept P t11 := (carPeriod_kept K h10)
  clear_value t11
  refine ite_kept ?_ ?_
  · exact (carSend_kept K h12)
  · exact h12) h4))

theorem noteBad_kept (K : Keeps P) {v0 v1 v2 v3} (h : Kept P v3) :
    Kept P (Machine.noteBad v0 v1 v2 v3) := by
  unfold Machine.noteBad
  extract_lets bad4
  exact (when_kept K (fun a5 h6 => (raise_kept K h6)) (bump_kept K (bump_kept K h)))

theorem noteToggles_kept (K : Keeps P) {v0 v1 v2} (h : Kept P v2) :
    Kept P (Machine.noteToggles v0 v1 v2) := by
  unfold Machine.noteToggles
  exact (updBus_kept K h)

theorem noteRepeat_kept (K : Keeps P) {v0 v1 v2} (h : Kept P v2) :
    Kept P (Machine.noteRepeat v0 v1 v2) := by
  unfold Machine.noteRepeat
  extract_lets n3 s4
  have h5 : Kept P s4 := (raise_kept K (bump_kept K (updBus_kept K h)))
  clear_value s4
  refine ite_kept ?_ ?_
  · refine ite_kept ?_ ?_
    · exact (raise_kept K h5)
    · exact h5
  · exact (updBus_kept K h)

theorem noteEncoders_kept (K : Keeps P) {v0 v1 v2 v3} (h : Kept P v3) :
    Kept P (Machine.noteEncoders v0 v1 v2 v3) := by
  unfold Machine.noteEncoders
  extract_lets enc4
  refine ite_kept ?_ ?_
  · try unfold enc4
    extract_lets n5
    refine encoderCheck_kept K ?_
    refine ite_kept ?_ ?_
    · try unfold enc4
      extract_lets n6
      refine encoderCheck_kept K ?_
      refine ite_kept ?_ ?_
      · exact h
      · exact (putI_kept K h)
    · refine putI_kept K ?_
      try unfold enc4
      extract_lets n7
      refine encoderCheck_kept K ?_
      refine ite_kept ?_ ?_
      · exact h
      · exact (putI_kept K h)
  · exact (putI_kept K h)

theorem execBayHeader_kept (K : Keeps P) {v0 v1 v2 v3 v4} (h : Kept P v4) :
    KeptOut P (Machine.execBayHeader v0 v1 v2 v3 v4) := by
  unfold Machine.execBayHeader
  extract_lets s5 s6
  have h7 : Kept P s5 := (noteBad_kept K h)
  clear_value s5
  have h8 : Kept P s6 := by
    unfold s6
    refine ite_kept ?_ ?_
    · exact (put_kept K h7)
    · exact h7
  clear_value s6
  refine iteO_kept ?_ ?_
  · exact (next_kept h)
  · split
    · exact (next_kept h7)
    · extract_lets f14 flags15 s16 s17
      have h18 : Kept P s16 := (putAll_kept K (updBus_kept K h8))
      clear_value s16
      have h19 : Kept P s17 := by
        unfold s17
        refine ite_kept ?_ ?_
        · exact (raise_kept K (bump_kept K h18))
        · exact h18
      clear_value s17
      exact (next_kept (noteEncoders_kept K (noteToggles_kept K (noteRepeat_kept K h19))))

theorem noteCrossing_kept (K : Keeps P) {v0 v1 v2} (h : Kept P v2) :
    Kept P (Machine.noteCrossing v0 v1 v2) := by
  unfold Machine.noteCrossing
  exact (updSpin_kept K h)

theorem lineSamples_kept (K : Keeps P) {v0 v1 v2 v3 v4} (h : Kept P v4) :
    Kept P (Machine.lineSamples v0 v1 v2 v3 v4) := by
  unfold Machine.lineSamples
  extract_lets lines5 old6 base7 ts8 s9
  have h10 : Kept P s9 := by
    unfold s9
    refine ite_kept ?_ ?_
    · exact h
    · exact (foldl_kept (fun a11 a12 h13 => (noteCrossing_kept K h13)) h)
  clear_value s9
  exact (updSpin_kept K h10)

theorem observe_kept (K : Keeps P) {v0 v1 v2} (h : Kept P v2) :
    Kept P (Machine.observe v0 v1 v2) := by
  unfold Machine.observe
  extract_lets st3 x4 driven5 s6 s7 gap8
  have h9 : Kept P s6 := (put_kept K (peak_kept K (putI_kept K (putI_kept K h))))
  clear_value s6
  have h10 : Kept P s7 := by
    unfold s7
    refine ite_kept ?_ ?_
    · exact (putI_kept K (put_kept K (putI_kept K (putB_kept K h9))))
    · exact h9
  clear_value s7
  exact (updSpin_kept K h10)

theorem baySample_kept (K : Keeps P) {v0 v1 v2 v3} (h : Kept P v3) :
    Kept P (Machine.baySample v0 v1 v2 v3) := by
  unfold Machine.baySample
  extract_lets x4 val5 shunt6 set7 s8 s9 s10 ang11 dq12 s13 c14
  have h15 : Kept P s8 := by
    unfold s8
    try unfold set7
    split
    · exact h
    · exact (put_kept K h)
  clear_value s8
  have h21 : Kept P s9 := by
    unfold s9
    try unfold set7
    split
    · try unfold set7
      split
      · try unfold set7
        split
        · exact h15
        · exact (updSpin_kept K h15)
      · refine putI_kept K ?_
        try unfold set7
        split
        · exact h15
        · exact (updSpin_kept K h15)
    · refine putI_kept K ?_
      try unfold set7
      split
      · try unfold set7
        split
        · exact h15
        · exact (updSpin_kept K h15)
      · refine putI_kept K ?_
        try unfold set7
        split
        · exact h15
        · exact (updSpin_kept K h15)
  clear_value s9
  have h57 : Kept P s10 := by
    unfold s10
    refine ite_kept ?_ ?_
    · split
      · exact (lineSamples_kept K h21)
      · exact h21
    · exact h21
  clear_value s10
  have h71 : Kept P s13 := (controlPeriod_kept K (observe_kept K (updSpin_kept K h57)))
  clear_value s13
  refine ite_kept ?_ ?_
  · exact (overvoltage_kept K h71)
  · exact h71

theorem carSample_kept (K : Keeps P) {v0 v1 v2 v3} (h : Kept P v3) :
    Kept P (Machine.carSample v0 v1 v2 v3) := by
  unfold Machine.carSample
  extract_lets x4 val5 vbus6 chop7 on8 th9 dq10 refD11 refQ12 s13
  have h14 : Kept P s13 := (peak_kept K (putAll_kept K (putI_kept K (putI_kept K (putI_kept K h)))))
  clear_value s13
  split
  · extract_lets s21 s22
    have h23 : Kept P s21 := (updCrs_kept K h14)
    clear_value s21
    have h24 : Kept P s22 := (carSend_kept K (chopperSwitch_kept K h23))
    clear_value s22
    refine ite_kept ?_ ?_
    · exact (overvoltage_kept K h24)
    · exact h24

theorem execBaySample_kept (K : Keeps P) {v0 v1 v2 v3 v4 v5} (h : Kept P v5) :
    KeptOut P (Machine.execBaySample v0 v1 v2 v3 v4 v5) := by
  unfold Machine.execBaySample
  extract_lets es6 s7 s8
  have h9 : Kept P s7 := (when_kept K (fun a10 h11 => (raise_kept K h11)) (bump_kept K (noteBad_kept K h)))
  clear_value s7
  have h12 : Kept P s8 := by
    unfold s8
    split
    · exact h9
    · exact (calSample_kept K h9)
  clear_value s8
  refine iteO_kept ?_ ?_
  · exact (next_kept h)
  · refine next_kept ?_
    refine ite_kept ?_ ?_
    · exact (baySample_kept K h12)
    · exact (carSample_kept K h12)

theorem execBayIdent_kept (K : Keeps P) {v0 v1 v2 v3} (h : Kept P v3) :
    KeptOut P (Machine.execBayIdent v0 v1 v2 v3) := by
  unfold Machine.execBayIdent
  extract_lets s4
  have h5 : Kept P s4 := (noteBad_kept K h)
  clear_value s4
  refine iteO_kept ?_ ?_
  · exact (next_kept h)
  · split
    · exact (next_kept h5)
    · extract_lets s11
      have h12 : Kept P s11 := (put_kept K (putAll_kept K h5))
      clear_value s11
      refine iteO_kept ?_ ?_
      · exact (next_kept (raise_kept K (put_kept K h12)))
      · exact (next_kept (sendConfig_kept K (updBus_kept K h12)))

theorem execBayLinkUp_kept (K : Keeps P) {v0 v1} (h : Kept P v1) :
    KeptOut P (Machine.execBayLinkUp v0 v1) := by
  unfold Machine.execBayLinkUp
  extract_lets k2 s3 s4
  have h5 : Kept P s3 := (raise_kept K (put_kept K (updBus_kept K h)))
  clear_value s3
  have h6 : Kept P s4 := by
    unfold s4
    refine ite_kept ?_ ?_
    · exact h5
    · exact (stepperOn_kept K h5)
  clear_value s4
  refine iteO_kept ?_ ?_
  · exact (next_kept h)
  · refine iteO_kept ?_ ?_
    · exact (next_kept h5)
    · refine next_kept ?_
      refine ite_kept ?_ ?_
      · exact (motEnter_kept K (updSpin_kept K h6))
      · exact h6

theorem linkDown_kept (K : Keeps P) {v0 v1 v2} (h : Kept P v2) :
    Kept P (Machine.linkDown v0 v1 v2) := by
  unfold Machine.linkDown
  extract_lets s3 s4
  have h5 : Kept P s3 := by
    unfold s3
    refine ite_kept ?_ ?_
    · exact (raise_kept K h)
    · exact h
  clear_value s3
  have h6 : Kept P s4 := (putAll_kept K (updBus_kept K h5))
  clear_value s4
  refine ite_kept ?_ ?_
  · exact (stepperOff_kept K h6)
  · exact h6

theorem execBayLinkDown_kept (K : Keeps P) {v0 v1} (h : Kept P v1) :
    KeptOut P (Machine.execBayLinkDown v0 v1) := by
  unfold Machine.execBayLinkDown
  refine iteO_kept ?_ ?_
  · exact (next_kept h)
  · exact (next_kept (linkDown_kept K h))

theorem startTraining_kept (K : Keeps P) {v0 v1} (h : Kept P v1) :
    Kept P (Machine.startTraining v0 v1) := by
  unfold Machine.startTraining
  exact (updBus_kept K (put_kept K h))

theorem execBayTrainingRestart_kept (K : Keeps P) {v0 v1} (h : Kept P v1) :
    KeptOut P (Machine.execBayTrainingRestart v0 v1) := by
  unfold Machine.execBayTrainingRestart
  extract_lets st2
  refine iteO_kept ?_ ?_
  · exact (next_kept h)
  · exact (next_kept (startTraining_kept K h))

theorem execBlEnable_kept (K : Keeps P) {v0 v1 v2} (h : Kept P v2) :
    KeptOut P (Machine.execBlEnable v0 v1 v2) := by
  unfold Machine.execBlEnable
  extract_lets s3
  have h4 : Kept P s3 := (put_kept K h)
  clear_value s3
  refine iteO_kept ?_ ?_
  · exact (next_kept h)
  · refine iteO_kept ?_ ?_
    · exact (next_kept (linkDown_kept K h4))
    · refine iteO_kept ?_ ?_
      · exact (next_kept (startTraining_kept K h4))
      · exact (next_kept h4)

theorem execBlRetrain_kept (K : Keeps P) {v0 v1} (h : Kept P v1) :
    KeptOut P (Machine.execBlRetrain v0 v1) := by
  unfold Machine.execBlRetrain
  refine iteO_kept ?_ ?_
  · exact (next_kept h)
  · exact (next_kept (linkDown_kept K (unitReset_kept K h)))

theorem execBlClrCnt_kept (K : Keeps P) {v0 v1} (h : Kept P v1) :
    KeptOut P (Machine.execBlClrCnt v0 v1) := by
  unfold Machine.execBlClrCnt
  refine iteO_kept ?_ ?_
  · exact (next_kept h)
  · exact (next_kept (clearAll_kept K h))

theorem badCode_kept (K : Keeps P) {v0 v1} (h : Kept P v1) :
    Kept P (Machine.badCode v0 v1) := by
  unfold Machine.badCode
  exact (bump_kept K h)

theorem execComparatorTrip_kept (K : Keeps P) {v0 v1 v2 v3 v4} (h : Kept P v4) :
    KeptOut P (Machine.execComparatorTrip v0 v1 v2 v3 v4) := by
  unfold Machine.execComparatorTrip
  refine iteO_kept ?_ ?_
  · exact (next_kept h)
  · refine iteO_kept ?_ ?_
    · exact (next_kept (badCode_kept K h))
    · refine iteO_kept ?_ ?_
      · exact (next_kept h)
      · exact (next_kept (tripPhase_kept K h))

theorem execOvercurrent_kept (K : Keeps P) {v0 v1 v2 v3} (h : Kept P v3) :
    KeptOut P (Machine.execOvercurrent v0 v1 v2 v3) := by
  unfold Machine.execOvercurrent
  extract_lets a4 s5
  have h6 : Kept P s5 := (raise_kept K h)
  clear_value s5
  refine iteO_kept ?_ ?_
  · exact (next_kept h)
  · refine iteO_kept ?_ ?_
    · exact (next_kept (badCode_kept K h))
    · refine iteO_kept ?_ ?_
      · exact (next_kept h)
      · refine iteO_kept ?_ ?_
        · exact (next_kept h6)
        · refine iteO_kept ?_ ?_
          · exact (next_kept (updAx_kept K h6))
          · refine iteO_kept ?_ ?_
            · exact (next_kept h6)
            · exact (next_kept (raise_kept K (put_kept K (motEnter_kept K h6))))

theorem execInputEdge_kept (K : Keeps P) {v0 v1 v2 v3} (h : Kept P v3) :
    KeptOut P (Machine.execInputEdge v0 v1 v2 v3) := by
  unfold Machine.execInputEdge
  extract_lets i4 high5 s6
  have h7 : Kept P s6 := (updBus_kept K h)
  clear_value s6
  refine iteO_kept ?_ ?_
  · exact (next_kept h)
  · refine iteO_kept ?_ ?_
    · exact (next_kept (badCode_kept K h))
    · refine iteO_kept ?_ ?_
      · exact (next_kept (updCrs_kept K h7))
      · exact (next_kept h7)

theorem commitPulse_kept (K : Keeps P) {v0 v1 v2 v3} (h : Kept P v3) :
    Kept P (Machine.commitPulse v0 v1 v2 v3) := by
  unfold Machine.commitPulse
  extract_lets w4 s5
  have h6 : Kept P s5 := (foldl_kept (fun a7 a8 h9 => (sendMsg_kept K h9)) h)
  clear_value s5
  refine ite_kept ?_ ?_
  · exact h
  · exact (updHead_kept K (sendLead_kept K h6))

theorem calFallback_kept (K : Keeps P) {v0 v1} (h : Kept P v1) :
    Kept P (Machine.calFallback v0 v1) := by
  unfold Machine.calFallback
  extract_lets s2
  have h3 : Kept P s2 := (raise_kept K (bump_kept K h))
  clear_value s2
  split
  · exact h3
  · exact (pageChanged_kept K (updDisc_kept K h3))

theorem startPass_kept (K : Keeps P) {v0 v1 v2 v3 v4} (h : Kept P v4) :
    Kept P (Machine.startPass v0 v1 v2 v3 v4) := by
  unfold Machine.startPass
  extract_lets s5 sv6
  have h7 : Kept P s5 := (putAll_kept K (updWrite_kept K h))
  clear_value s5
  refine ite_kept ?_ ?_
  · exact h7
  · refine ite_kept ?_ ?_
    · exact (startSeek_kept K h7)
    · exact h7

theorem startWrite_kept (K : Keeps P) {v0 v1} (h : Kept P v1) :
    Kept P (Machine.startWrite v0 v1) := by
  unfold Machine.startWrite
  exact (startPass_kept K h)

theorem startCal_kept (K : Keeps P) {v0 v1} (h : Kept P v1) :
    Kept P (Machine.startCal v0 v1) := by
  unfold Machine.startCal
  extract_lets w2 used3 s4
  have h5 : Kept P s4 := by
    unfold s4
    split
    · exact h
    · exact (updDisc_kept K h)
  clear_value s4
  exact (startPass_kept K (updWrite_kept K h5))

theorem markTaken_kept (K : Keeps P) {v0 v1 v2 v3 v4} (h : Kept P v4) :
    Kept P (Machine.markTaken v0 v1 v2 v3 v4) := by
  unfold Machine.markTaken
  extract_lets m5 s6 zsrc7
  have h8 : Kept P s6 := (updSet_kept K h)
  clear_value s6
  exact (lit_kept h8 rfl rfl rfl rfl rfl rfl rfl rfl rfl)

theorem readOut_kept (K : Keeps P) {v0 v1 v2 v3} (h : Kept P v3) :
    Kept P (Machine.readOut v0 v1 v2 v3) := by
  unfold Machine.readOut
  extract_lets pages4
  exact (foldl_kept (fun a5 a6 h7 => (onBusError_kept K h7)) h)

theorem takeExtent_kept (K : Keeps P) {v0 v1 v2 v3 v4 v5 v6} (h : Kept P v6) :
    Kept P (Machine.takeExtent v0 v1 v2 v3 v4 v5 v6) := by
  unfold Machine.takeExtent
  extract_lets slots7 s8 rows9 rebuilt10 new11 s12 s13 take14 aside15 chunks16 s17
  have h18 : Kept P s8 := (readOut_kept K h)
  clear_value s8
  have h19 : Kept P s12 := (foldl_kept (fun a20 a21 h22 => (journal_kept K h22)) h18)
  clear_value s12
  have h23 : Kept P s13 := (updSet_kept K h19)
  clear_value s13
  have h24 : Kept P s17 := (markTaken_kept K (updWrite_kept K h23))
  clear_value s17
  split
  · exact h24
  · exact (serveDisc_kept K h24)

theorem execExtentRequest_kept (K : Keeps P) {v0 v1 v2 v3 v4 v5 v6} (h : Kept P v6) :
    KeptOut P (Machine.execExtentRequest v0 v1 v2 v3 v4 v5 v6) := by
  unfold Machine.execExtentRequest
  extract_lets st7 back8 s9 n10 inside11 ords12 disc13 t14 s15 s16
  have h17 : Kept P s9 := (put_kept K h)
  clear_value s9
  have h18 : Kept P s15 := (takeExtent_kept K (takeForce_kept K h17))
  clear_value s15
  have h19 : Kept P s16 := (updWrite_kept K h18)
  clear_value s16
  refine iteO_kept ?_ ?_
  · exact (next_kept h)
  · refine iteO_kept ?_ ?_
    · exact (next_kept h17)
    · refine iteO_kept ?_ ?_
      · exact (next_kept (commitPulse_kept K h17))
      · refine iteO_kept ?_ ?_
        · exact (next_kept (bump_kept K h17))
        · refine iteO_kept ?_ ?_
          · exact (next_kept h17)
          · refine iteO_kept ?_ ?_
            · refine iteO_kept ?_ ?_
              · exact (next_kept (startCal_kept K h19))
              · exact (next_kept (startWrite_kept K (calFallback_kept K h19)))
            · exact (next_kept (startWrite_kept K h19))

theorem execCalibrationPassEnd_kept (K : Keeps P) {v0 v1 v2} (h : Kept P v2) :
    KeptOut P (Machine.execCalibrationPassEnd v0 v1 v2) := by
  unfold Machine.execCalibrationPassEnd
  extract_lets w3 means4 best5 used6 f7 pw8 lt9 t10 body11 s12
  have h13 : Kept P s12 := by
    unfold s12
    split
    · exact h
    · exact (updDisc_kept K h)
  clear_value s12
  refine iteO_kept ?_ ?_
  · exact (next_kept h)
  · refine iteO_kept ?_ ?_
    · exact (next_kept (startWrite_kept K (commitPulse_kept K (calFallback_kept K h))))
    · exact (next_kept (startWrite_kept K (commitPulse_kept K (raise_kept K (bump_kept K h13)))))

theorem runDeferred_kept (K : Keeps P) {v0 v1} (h : Kept P v1) :
    Kept P (Machine.runDeferred v0 v1) := by
  unfold Machine.runDeferred
  split
  · exact h
  · extract_lets st10
    refine ite_kept ?_ ?_
    · exact (updServo_kept K h)
    · exact (beginMove_kept K h)

theorem jumpBack_kept (K : Keeps P) {v0 v1 v2} (h : Kept P v2) :
    Kept P (Machine.jumpBack v0 v1 v2) := by
  unfold Machine.jumpBack
  extract_lets st3
  refine ite_kept ?_ ?_
  · exact (startSeek_kept K h)
  · exact h

theorem execExtentBandsWritten_kept (K : Keeps P) {v0 v1} (h : Kept P v1) :
    KeptOut P (Machine.execExtentBandsWritten v0 v1) := by
  unfold Machine.execExtentBandsWritten
  extract_lets w2 n3 late4 keep5 rest6 failed7 s8 s9 s10 back11
  have h12 : Kept P s8 := (updWrite_kept K h)
  clear_value s8
  have h13 : Kept P s9 := by
    unfold s9
    refine ite_kept ?_ ?_
    · exact h12
    · exact (markTaken_kept K h12)
  clear_value s9
  have h14 : Kept P s10 := (bump_kept K h13)
  clear_value s10
  refine iteO_kept ?_ ?_
  · exact (next_kept h)
  · exact (next_kept (jumpBack_kept K (putAll_kept K h14)))

theorem rowVerified_kept (K : Keeps P) {v0 v1 v2 v3} (h : Kept P v3) :
    Kept P (Machine.rowVerified v0 v1 v2 v3) := by
  unfold Machine.rowVerified
  extract_lets mark4 s5 d6
  have h7 : Kept P s5 := (updSet_kept K h)
  clear_value s5
  split
  · exact h7
  · refine ite_kept ?_ ?_
    · exact (rowDurable_kept K h7)
    · exact h7

theorem rebuiltGone_kept (_K : Keeps P) {v0 v1 v2} (h : Kept P v2) :
    Kept P (Machine.rebuiltGone v0 v1 v2) := by
  unfold Machine.rebuiltGone
  exact (lit_kept h rfl rfl rfl rfl rfl rfl rfl rfl rfl)

theorem settlePassed_kept (K : Keeps P) {v0 v1} (h : Kept P v1) :
    Kept P (Machine.settlePassed v0 v1) := by
  unfold Machine.settlePassed
  extract_lets w2 m3 s4 s5 edge6
  have h7 : Kept P s4 := (foldl_kept (fun a8 a9 h10 => (rowVerified_kept K h10)) h)
  clear_value s4
  have h11 : Kept P s5 := by
    unfold s5
    split
    · exact h7
    · exact (serveDisc_kept K (rebuiltGone_kept K (updDisc_kept K h7)))
  clear_value s5
  exact (settleDurable_kept K (updWrite_kept K h11))

theorem redoRow_kept (K : Keeps P) {v0 v1 v2} (h : Kept P v2) :
    Kept P (Machine.redoRow v0 v1 v2) := by
  unfold Machine.redoRow
  extract_lets d3 keep4
  exact (foldl_kept (fun a5 a6 h7 => (copyBlock_kept K h7)) (updSet_kept K h))

theorem loseChunk_kept (K : Keeps P) {v0 v1 v2 v3} (h : Kept P v3) :
    Kept P (Machine.loseChunk v0 v1 v2 v3) := by
  unfold Machine.loseChunk
  extract_lets s4
  have h5 : Kept P s4 := (headEvent_kept K (pageChanged_kept K (raise_kept K (bump_kept K (journal_kept K (updDisc_kept K h))))))
  clear_value s4
  refine ite_kept ?_ ?_
  · exact (raise_kept K (bump_kept K (rowDamaged_kept K h5)))
  · refine ite_kept ?_ ?_
    · exact (raise_kept K (bump_kept K (rebuiltGone_kept K (redoRow_kept K h5))))
    · exact h5

theorem assignSpares_kept (K : Keeps P) {hd d l done rest s} (h : Kept P s) : Kept P (Machine.assignSpares hd d l done rest s).2.2 := by
  induction l generalizing done rest s with
  | nil => exact h
  | cons c l ih =>
    unfold Machine.assignSpares
    split
    · exact ih (loseChunk_kept K h)
    · rename_i a key _
      have h1 : Kept P (updDisc d (fun x => { x with spareUsed := mapPut x.spareUsed key (mapGet (fun _ => 0) x.spareUsed key + 1),
                                                     remaps := mapPut x.remaps c.home a }) s) := updDisc_kept K h
      refine ite3_kept ?_ (ih h)
      dsimp only
      split
      · exact ih h1
      · exact ih (drawFree_kept (w := 64) K h1)

theorem spareOrIdle_kept (K : Keeps P) {hd s} (h : Kept P s) : Kept P (Machine.spareOrIdle hd s) := by
  unfold Machine.spareOrIdle
  extract_lets w r
  have hr : Kept P r.2.2 := by
    unfold r
    split
    · exact h
    · exact assignSpares_kept K h
  clear_value r
  obtain ⟨_ | ⟨c, cs⟩, rest, t⟩ := r
  · exact settlePark_kept K (runDeferred_kept K (raise_kept K (put_kept K (updWrite_kept K hr))))
  · exact startPass_kept K (updWrite_kept K hr)

theorem failUnread_kept (K : Keeps P) {v0 v1 v2} (h : Kept P v2) :
    Kept P (Machine.failUnread v0 v1 v2) := by
  unfold Machine.failUnread
  extract_lets w3
  exact (foldl_kept (fun a4 a5 h6 => (verifyFail_kept K h6)) h)

theorem endVerify_kept (K : Keeps P) {v0 v1 v2} (h : Kept P v2) :
    Kept P (Machine.endVerify v0 v1 v2) := by
  unfold Machine.endVerify
  extract_lets w3 g4 hidden5 s6 s7
  have h8 : Kept P s6 := (failUnread_kept K h)
  clear_value s6
  have h9 : Kept P s7 := (settlePassed_kept K (failUnread_kept K h))
  clear_value s7
  refine ite_kept ?_ ?_
  · exact (jumpBack_kept K (sendLane_kept K (updWrite_kept K h8)))
  · exact (spareOrIdle_kept K (updWrite_kept K h9))

theorem execVerifyDone_kept (K : Keeps P) {v0 v1} (h : Kept P v1) :
    KeptOut P (Machine.execVerifyDone v0 v1) := by
  unfold Machine.execVerifyDone
  refine iteO_kept ?_ ?_
  · exact (next_kept h)
  · exact (next_kept (endVerify_kept K h))

theorem execSpareWriteRevolution_kept (K : Keeps P) {v0 v1} (h : Kept P v1) :
    KeptOut P (Machine.execSpareWriteRevolution v0 v1) := by
  unfold Machine.execSpareWriteRevolution
  extract_lets w2 late3 n4
  refine iteO_kept ?_ ?_
  · exact (next_kept h)
  · exact (next_kept (jumpBack_kept K (put_kept K (bump_kept K (bump_kept K (updWrite_kept K h))))))

theorem execSpareVerifyDone_kept (K : Keeps P) {v0 v1} (h : Kept P v1) :
    KeptOut P (Machine.execSpareVerifyDone v0 v1) := by
  unfold Machine.execSpareVerifyDone
  refine iteO_kept ?_ ?_
  · exact (next_kept h)
  · exact (next_kept (endVerify_kept K h))

theorem spareChunks_kept (K : Keeps P) {v0 v1 v2} (h : Kept P v2) :
    Kept P (Machine.spareChunks v0 v1 v2) := by
  unfold Machine.spareChunks
  exact (updWrite_kept K h)

theorem execGateClosure_kept (K : Keeps P) {v0 v1} (h : Kept P v1) :
    KeptOut P (Machine.execGateClosure v0 v1) := by
  unfold Machine.execGateClosure
  extract_lets w2 b3 inward4 again5 s6
  have h7 : Kept P s6 := (spareChunks_kept K (updWrite_kept K h))
  clear_value s6
  refine iteO_kept ?_ ?_
  · exact (next_kept h)
  · exact (next_kept (raise_kept K (bump_kept K (closeGate_kept K h7))))

theorem execGateReopen_kept (K : Keeps P) {v0 v1} (h : Kept P v1) :
    KeptOut P (Machine.execGateReopen v0 v1) := by
  unfold Machine.execGateReopen
  extract_lets w2 e3
  split
  · extract_lets p11 from12 r13
    refine iteO_kept ?_ ?_
    · exact (next_kept h)
    · exact (next_kept (updWrite_kept K (spareChunks_kept K h)))
  · exact (next_kept h)

theorem execWriteHalted_kept (K : Keeps P) {v0 v1} (h : Kept P v1) :
    KeptOut P (Machine.execWriteHalted v0 v1) := by
  unfold Machine.execWriteHalted
  extract_lets w2 lost3 rows4 s5 s6 s7
  have h8 : Kept P s5 := (updHead_kept K (settlePassed_kept K h))
  clear_value s5
  have h9 : Kept P s6 := (raise_kept K (put_kept K h8))
  clear_value s6
  have h10 : Kept P s7 := (foldl_kept (fun a11 a12 h13 => (rowDamaged_kept K h13)) (failMember_kept K h9))
  clear_value s7
  split
  · exact (next_kept h)
  · refine iteO_kept ?_ ?_
    · exact (next_kept h)
    · refine next_kept ?_
      refine settlePark_kept K ?_
      refine runDeferred_kept K ?_
      refine ite_kept ?_ ?_
      · exact h10
      · exact (raise_kept K (bump_kept K h10))

theorem execUnderrun_kept (K : Keeps P) {v0 v1 v2 v3} (h : Kept P v3) :
    KeptOut P (Machine.execUnderrun v0 v1 v2 v3) := by
  unfold Machine.execUnderrun
  extract_lets st4 d5
  split
  · exact (next_kept h)
  · refine iteO_kept ?_ ?_
    · exact (next_kept h)
    · exact (next_kept (raise_kept K (bump_kept K (spareChunks_kept K (updWrite_kept K h)))))

theorem execCalForce_kept (K : Keeps P) {v0 v1} (h : Kept P v1) :
    KeptOut P (Machine.execCalForce v0 v1) := by
  unfold Machine.execCalForce
  refine iteO_kept ?_ ?_
  · exact (next_kept h)
  · exact (next_kept (updWrite_kept K h))

theorem execWrpClrCnt_kept (K : Keeps P) {v0 v1} (h : Kept P v1) :
    KeptOut P (Machine.execWrpClrCnt v0 v1) := by
  unfold Machine.execWrpClrCnt
  refine iteO_kept ?_ ?_
  · exact (next_kept h)
  · exact (next_kept (clearAll_kept K h))

theorem execEvent_kept (K : Keeps P) {v0 v1} (h : Kept P v1) :
    KeptOut P (Machine.execEvent v0 v1) := by
  unfold Machine.execEvent
  split
  · exact (next_kept h)
  · exact (next_kept (takeMsg_kept K (fun a7 h8 => by
      extract_lets code9 s10 w11 ago12 first13 k14 sf15
      have h16 : Kept P s10 := (raise_kept K (putAll_kept K (bump_kept K h8)))
      clear_value s10
      refine ite_kept ?_ ?_
      · exact (bump_kept K h16)
      · refine ite_kept ?_ ?_
        · refine ite_kept ?_ ?_
          · exact (spareChunks_kept K h16)
          · exact h16
        · refine ite_kept ?_ ?_
          · split
            · exact (raiseCH_kept K (bump_kept K (sendAdc_kept K h16)))
            · exact (sendLane_kept K h16)
            · exact (updLink_kept K (sendLead_kept K h16))
            · exact h16
          · exact h16) h))

theorem wobbleTick_kept (K : Keeps P) {v0 v1 v2} (h : Kept P v2) :
    Kept P (Machine.wobbleTick v0 v1 v2) := by
  unfold Machine.wobbleTick
  extract_lets f3
  exact (updChan_kept K h)

theorem searchTick_kept (K : Keeps P) {v0 v1} (h : Kept P v1) :
    Kept P (Machine.searchTick v0 v1) := by
  unfold Machine.searchTick
  exact (foldl_kept (fun a2 a3 h4 => (enterSearch_kept K h4)) h)

theorem clockTick_kept (K : Keeps P) {v0 v1} (h : Kept P v1) :
    Kept P (Machine.clockTick v0 v1) := by
  unfold Machine.clockTick
  extract_lets f2 n3
  exact (put_kept K (updHead_kept K h))

theorem syncTick_kept (K : Keeps P) {v0 v1} (h : Kept P v1) :
    Kept P (Machine.syncTick v0 v1) := by
  unfold Machine.syncTick
  extract_lets w2 p3
  refine ite_kept ?_ ?_
  · exact h
  · refine ite_kept ?_ ?_
    · exact (updWrite_kept K h)
    · exact (startSeek_kept K h)

theorem errorTick_kept (K : Keeps P) {v0 v1} (h : Kept P v1) :
    Kept P (Machine.errorTick v0 v1) := by
  unfold Machine.errorTick
  split
  · exact h
  · extract_lets e7 lim8 was9 s10 ph11 s12
    have h13 : Kept P s10 := (peak_kept K (putI_kept K h))
    clear_value s10
    have h14 : Kept P s12 := (updLink_kept K h13)
    clear_value s12
    refine ite_kept ?_ ?_
    · exact (raise_kept K (bump_kept K h14))
    · exact h14

theorem openTick_kept (K : Keeps P) {v0 v1} (h : Kept P v1) :
    Kept P (Machine.openTick v0 v1) := by
  unfold Machine.openTick
  split
  · exact h
  · refine ite_kept ?_ ?_
    · exact h
    · refine ite_kept ?_ ?_
      · exact (updWrite_kept K h)
      · refine ite_kept ?_ ?_
        · exact (updWrite_kept K h)
        · exact (put_kept K (updHead_kept K h))

theorem closeTick_kept (K : Keeps P) {v0 v1} (h : Kept P v1) :
    Kept P (Machine.closeTick v0 v1) := by
  unfold Machine.closeTick
  extract_lets w2 s3
  have h4 : Kept P s3 := by
    unfold s3
    refine ite_kept ?_ ?_
    · exact (put_kept K (updLink_kept K h))
    · exact h
  clear_value s3
  refine ite_kept ?_ ?_
  · exact h
  · refine ite_kept ?_ ?_
    · exact (jumpBack_kept K (updWrite_kept K h4))
    · exact h4

theorem shutTick_kept (K : Keeps P) {v0 v1} (h : Kept P v1) :
    Kept P (Machine.shutTick v0 v1) := by
  unfold Machine.shutTick
  refine ite_kept ?_ ?_
  · exact (updHead_kept K h)
  · exact h

theorem throttleTick_kept (K : Keeps P) {v0 v1} (h : Kept P v1) :
    Kept P (Machine.throttleTick v0 v1) := by
  unfold Machine.throttleTick
  extract_lets w2
  refine ite_kept ?_ ?_
  · exact (updWrite_kept K h)
  · exact h

theorem segmentTick_kept (K : Keeps P) {v0 v1} (h : Kept P v1) :
    Kept P (Machine.segmentTick v0 v1) := by
  unfold Machine.segmentTick
  extract_lets w2 adv3 from4 pw5
  split
  · exact h
  · extract_lets ahead11
    refine ite_kept ?_ ?_
    · exact h
    · exact (commitPulse_kept K (updWrite_kept K h))

theorem dataTick_kept (K : Keeps P) {v0 v1 v2 v3} (h : Kept P v3) :
    Kept P (Machine.dataTick v0 v1 v2 v3) := by
  unfold Machine.dataTick
  extract_lets w4 d5 up6
  split
  · exact h
  · extract_lets a12 z13 a14 z15 n16
    refine ite_kept ?_ ?_
    · exact h
    · exact (updLink_kept K h)

theorem writeTick_kept (K : Keeps P) {v0 v1} (h : Kept P v1) :
    Kept P (Machine.writeTick v0 v1) := by
  unfold Machine.writeTick
  extract_lets was2 s3 s4 s5
  have h6 : Kept P s3 := (errorTick_kept K (syncTick_kept K (clockTick_kept K h)))
  clear_value s3
  have h7 : Kept P s4 := (closeTick_kept K (openTick_kept K (shutTick_kept K (segmentTick_kept K (throttleTick_kept K h6)))))
  clear_value s4
  have h8 : Kept P s5 := (updWrite_kept K h7)
  clear_value s5
  exact (dataTick_kept K h8)

theorem earlyTick_kept (K : Keeps P) {v0 v1} (h : Kept P v1) :
    Kept P (Machine.earlyTick v0 v1) := by
  unfold Machine.earlyTick
  extract_lets v2 own3 due4 val5 mask6 s7
  have h8 : Kept P s7 := (foldl_kept (fun a9 a10 h11 => by
  split
  · exact (setCoil_kept K h11)
  · exact h11) h)
  clear_value s7
  exact (updHead_kept K h8)

theorem superframeTick_kept (K : Keeps P) {v0 v1} (h : Kept P v1) :
    Kept P (Machine.superframeTick v0 v1) := by
  unfold Machine.superframeTick
  extract_lets st2 m3 s4 s5
  have h6 : Kept P s4 := (earlyTick_kept K (writeTick_kept K h))
  clear_value s4
  have h7 : Kept P s5 := (updLink_kept K h6)
  clear_value s5
  refine ite_kept ?_ ?_
  · exact h
  · refine ite_kept ?_ ?_
    · exact (setLink_kept K h)
    · refine ite_kept ?_ ?_
      · exact (bump_kept K h7)
      · exact h7

theorem headTick_kept (K : Keeps P) {v0 v1 v2} (h : Kept P v2) :
    Kept P (Machine.headTick v0 v1 v2) := by
  unfold Machine.headTick
  exact (superframeTick_kept K (permits_kept K (searchTick_kept K (wobbleTick_kept K h))))

theorem wakeTick_kept (K : Keeps P) {v0} (h : Kept P v0) :
    Kept P (Machine.wakeTick v0) := by
  unfold Machine.wakeTick
  extract_lets a1 zsrc2
  refine ite_kept ?_ ?_
  · exact (lit_kept h rfl rfl rfl rfl rfl rfl rfl rfl rfl)
  · exact (put_kept K (lit_kept h rfl rfl rfl rfl rfl rfl rfl rfl rfl))

theorem probationTick_kept (K : Keeps P) {v0} (h : Kept P v0) :
    Kept P (Machine.probationTick v0) := by
  unfold Machine.probationTick
  refine ite_kept ?_ ?_
  · exact (put_kept K h)
  · exact h

theorem idleTick_kept (_K : Keeps P) {v0} (h : Kept P v0) :
    Kept P (Machine.idleTick v0) := by
  unfold Machine.idleTick
  extract_lets zsrc1
  refine ite_kept ?_ ?_
  · exact h
  · exact (lit_kept h rfl rfl rfl rfl rfl rfl rfl rfl rfl)

theorem execServoTick_kept (K : Keeps P) {v0 v1} (h : Kept P v1) :
    KeptOut P (Machine.execServoTick v0 v1) := by
  unfold Machine.execServoTick
  extract_lets k2 s3 s4
  have h5 : Kept P s3 := (put_kept K (put_kept K (lit_kept h rfl rfl rfl rfl rfl rfl rfl rfl rfl)))
  clear_value s3
  have h6 : Kept P s4 := (takeCal_kept K (idleTick_kept K (probationTick_kept K (wakeTick_kept K h5))))
  clear_value s4
  refine iteO_kept ?_ ?_
  · exact (next_kept h)
  · exact (next_kept (forAll_kept K (fun a7 a8 h9 => (headTick_kept K h9)) h6))

end Sys2Proof.Laws
end

