-- ==== Sys2Proof/Laws/KeptLoop.lean ====
section
/-! SUPPORT. A property that the elementary writes keep is kept by every operation and command of the loop engine, placement, mounts, resets and power loss. -/

namespace Sys2Proof.Laws

open Sys2Proof.Machine

variable {P : Store → Prop}

theorem updCell_kept (_K : Keeps P) {v0 v1 v2} (h : Kept P v2) :
    Kept P (Machine.updCell v0 v1 v2) := by
  unfold Machine.updCell
  exact (lit_kept h rfl rfl rfl rfl rfl rfl rfl rfl rfl)

theorem updNode_kept (_K : Keeps P) {v0 v1 v2} (h : Kept P v2) :
    Kept P (Machine.updNode v0 v1 v2) := by
  unfold Machine.updNode
  exact (lit_kept h rfl rfl rfl rfl rfl rfl rfl rfl rfl)

theorem cellEvt_kept (K : Keeps P) {v0 v1} (h : Kept P v1) :
    Kept P (Machine.cellEvt v0 v1) := by
  unfold Machine.cellEvt
  extract_lets v2 b3
  exact (put_kept K h)

theorem cellFlag_kept (K : Keeps P) {v0 v1 v2} (h : Kept P v2) :
    Kept P (Machine.cellFlag v0 v1 v2) := by
  unfold Machine.cellFlag
  extract_lets s3
  have h4 : Kept P s3 := (cellEvt_kept K (put_kept K h))
  clear_value s3
  refine ite_kept ?_ ?_
  · exact (raise_kept K h4)
  · exact h4

theorem putCells_kept (K : Keeps P) {v0 v1 v2 v3} (h : Kept P v3) :
    Kept P (Machine.putCells v0 v1 v2 v3) := by
  unfold Machine.putCells
  exact (forAll_kept K (fun a4 a5 h6 => (put_kept K h6)) h)

theorem coefPut_kept (K : Keeps P) {v0 v1 v2 v3} (h : Kept P v3) :
    Kept P (Machine.coefPut v0 v1 v2 v3) := by
  unfold Machine.coefPut
  refine ite_kept ?_ ?_
  · exact (putAll_kept K h)
  · exact (put_kept K h)

theorem coefLand_kept (K : Keeps P) {v0 v1 v2 v3} (h : Kept P v3) :
    Kept P (Machine.coefLand v0 v1 v2 v3) := by
  unfold Machine.coefLand
  exact (put_kept K h)

theorem setQueue_kept (K : Keeps P) {v0 v1 v2 v3} (h : Kept P v3) :
    Kept P (Machine.setQueue v0 v1 v2 v3) := by
  unfold Machine.setQueue
  exact (put_kept K (peak_kept K (put_kept K (lit_kept h rfl rfl rfl rfl rfl rfl rfl rfl rfl))))

theorem coefWrite_kept (K : Keeps P) {v0 v1 v2 v3} (h : Kept P v3) :
    Kept P (Machine.coefWrite v0 v1 v2 v3) := by
  unfold Machine.coefWrite
  extract_lets t4
  refine ite_kept ?_ ?_
  · exact (coefLand_kept K (coefPut_kept K h))
  · exact (setQueue_kept K (coefPut_kept K h))

theorem coefDrop_kept (K : Keeps P) {v0 v1} (h : Kept P v1) :
    Kept P (Machine.coefDrop v0 v1) := by
  unfold Machine.coefDrop
  exact (cellFlag_kept K (raise_kept K (bump_kept K h)))

theorem execCoefficientWrite_kept (K : Keeps P) {v0 v1 v2 v3} (h : Kept P v3) :
    KeptOut P (Machine.execCoefficientWrite v0 v1 v2 v3) := by
  unfold Machine.execCoefficientWrite
  extract_lets l4 full5
  refine iteO_kept ?_ ?_
  · exact (next_kept h)
  · refine next_kept ?_
    refine ite_kept ?_ ?_
    · exact (forAll_kept K (fun a6 a7 h8 => (coefWrite_kept K h8)) h)
    · exact (forAll_kept K (fun a9 a10 h11 => (coefDrop_kept K h11)) h)

theorem landOne_kept (K : Keeps P) {v0 v1} (h : Kept P v1) :
    Kept P (Machine.landOne v0 v1) := by
  unfold Machine.landOne
  extract_lets q2
  split
  · exact h
  · exact (setQueue_kept K (coefLand_kept K h))

theorem landAll_kept (K : Keeps P) {v0 v1} (h : Kept P v1) :
    Kept P (Machine.landAll v0 v1) := by
  unfold Machine.landAll
  extract_lets q2
  exact (setQueue_kept K (foldl_kept (fun a3 a4 h5 => (coefLand_kept K h5)) h))

theorem coilOut_kept (K : Keeps P) {v0 v1 v2 v3 v4} (h : Kept P v4) :
    Kept P (Machine.coilOut v0 v1 v2 v3 v4) := by
  unfold Machine.coilOut
  extract_lets x5 slot6
  refine setCoil_kept K ?_
  refine ite_kept ?_ ?_
  · exact (updLink_kept K h)
  · exact h

theorem coilEarly_kept (K : Keeps P) {v0 v1 v2 v3 v4} (h : Kept P v4) :
    Kept P (Machine.coilEarly v0 v1 v2 v3 v4) := by
  unfold Machine.coilEarly
  extract_lets p5 t6 at7
  exact (updServo_kept K h)

theorem applyDest_kept (K : Keeps P) {v0 v1 v2 v3} (h : Kept P v3) :
    Kept P (Machine.applyDest v0 v1 v2 v3) := by
  unfold Machine.applyDest
  extract_lets i4 b5 a6
  split
  · refine ite_kept ?_ ?_
    · exact (coilOut_kept K h)
    · exact h
  · refine ite_kept ?_ ?_
    · exact h
    · refine ite_kept ?_ ?_
      · exact (updSpin_kept K h)
      · refine ite_kept ?_ ?_
        · exact (followTarget_kept K h)
        · exact h
  · refine ite_kept ?_ ?_
    · exact (updCrs_kept K h)
    · exact h
  · exact h

theorem applyCell_kept (K : Keeps P) {v0 v1 v2} (h : Kept P v2) :
    Kept P (Machine.applyCell v0 v1 v2) := by
  unfold Machine.applyCell
  extract_lets v3 s4
  have h5 : Kept P s4 := (forAll_kept K (fun a6 a7 h8 => (putI_kept K h8)) h)
  clear_value s4
  refine ite_kept ?_ ?_
  · exact (applyDest_kept K h5)
  · exact h5

theorem applyNode_kept (K : Keeps P) {v0 v1} (h : Kept P v1) :
    Kept P (Machine.applyNode v0 v1) := by
  unfold Machine.applyNode
  extract_lets v2
  exact (applyDest_kept K (updNode_kept K h))

theorem cellStages_kept (K : Keeps P) {v0 v1 v2} (h : Kept P v2) :
    Kept P (Machine.cellStages v0 v1 v2).2 := by
  unfold Machine.cellStages
  exact (foldlSnd_kept (fun a3 a4 h5 => by
  extract_lets c6 r7
  exact (putI_kept K (putI_kept K h5))) h)

theorem evalCell_kept (K : Keeps P) {v0 v1 v2 v3} (h : Kept P v3) :
    Kept P (Machine.evalCell v0 v1 v2 v3) := by
  unfold Machine.evalCell
  extract_lets setp4 r5 v6 integ7 d8 unsat9 u10 s11
  have h12 : Kept P r5.2 := (cellStages_kept K h)
  have h13 : Kept P s11 := (updCell_kept K (putI_kept K (putI_kept K (putI_kept K (bump_kept K (putB_kept K (put_kept K h12)))))))
  clear_value s11
  refine ite_kept ?_ ?_
  · exact (cellFlag_kept K h13)
  · exact h13

theorem finishCell_kept (K : Keeps P) {v0 v1 v2} (h : Kept P v2) :
    Kept P (Machine.finishCell v0 v1 v2) := by
  unfold Machine.finishCell
  split
  · exact h
  · extract_lets ua8 i9 at10 s11
    have h12 : Kept P s11 := (putB_kept K (putI_kept K (updCell_kept K h)))
    clear_value s11
    refine ite_kept ?_ ?_
    · exact (cellFlag_kept K h12)
    · exact h12

theorem finishMember_kept (K : Keeps P) {v0 v1} (h : Kept P v1) :
    Kept P (Machine.finishMember v0 v1) := by
  unfold Machine.finishMember
  extract_lets ns2 wins3 ua4
  refine ite_kept ?_ ?_
  · exact (forAll_kept K (fun a5 a6 h7 => (finishCell_kept K h7)) (forAll_kept K (fun a8 a9 h10 => (putB_kept K h10)) h))
  · exact h

theorem resolveNode_kept (K : Keeps P) {v0 v1} (h : Kept P v1) :
    Kept P (Machine.resolveNode v0 v1) := by
  unfold Machine.resolveNode
  extract_lets ms2 fixed3
  refine ite_kept ?_ ?_
  · exact h
  · split
    · exact h
    · extract_lets o9 s10
      have h11 : Kept P s10 := (put_kept K (updNode_kept K h))
      clear_value s10
      refine forAll_kept K (fun a12 a13 h14 => (finishMember_kept K h14)) ?_
      refine ite_kept ?_ ?_
      · exact (applyNode_kept K h11)
      · exact h11

theorem sampleDone_kept (K : Keeps P) {v0 v1} (h : Kept P v1) :
    Kept P (Machine.sampleDone v0 v1) := by
  unfold Machine.sampleDone
  extract_lets ns2 late3 d4 s5
  have h6 : Kept P s5 := by
    unfold s5
    refine ite_kept ?_ ?_
    · exact (applyCell_kept K h)
    · refine ite_kept ?_ ?_
      · exact (coilEarly_kept K h)
      · exact h
  clear_value s5
  refine ite_kept ?_ ?_
  · exact (forAll_kept K (fun a7 a8 h9 => (finishCell_kept K h9)) h6)
  · exact (forAll_kept K (fun a10 a11 h12 => (resolveNode_kept K h12)) h6)

theorem sampleHeld_kept (K : Keeps P) {v0 v1} (h : Kept P v1) :
    Kept P (Machine.sampleHeld v0 v1) := by
  unfold Machine.sampleHeld
  exact (forAll_kept K (fun a2 a3 h4 => (resolveNode_kept K h4)) h)

theorem missCell_kept (K : Keeps P) {v0 v1} (h : Kept P v1) :
    Kept P (Machine.missCell v0 v1) := by
  unfold Machine.missCell
  extract_lets s2
  have h3 : Kept P s2 := (cellFlag_kept K (bump_kept K (bump_kept K (put_kept K h))))
  clear_value s2
  refine ite_kept ?_ ?_
  · exact (updCell_kept K h3)
  · exact (sampleHeld_kept K (forAll_kept K (fun a4 a5 h6 => (updCell_kept K h6)) h3))

theorem execCellMiss_kept (K : Keeps P) {v0 v1} (h : Kept P v1) :
    KeptOut P (Machine.execCellMiss v0 v1) := by
  unfold Machine.execCellMiss
  exact (next_kept (when_kept K (fun a2 h3 => (missCell_kept K h3)) h))

theorem holdPair_kept (K : Keeps P) {v0 v1} (h : Kept P v1) :
    Kept P (Machine.holdPair v0 v1) := by
  unfold Machine.holdPair
  exact (sampleHeld_kept K (forAll_kept K (fun a2 a3 h4 => by
  extract_lets t5
  have h6 : Kept P t5 := (bump_kept K (put_kept K (updCell_kept K h4)))
  clear_value t5
  refine ite_kept ?_ ?_
  · exact h6
  · exact (cellFlag_kept K h6)) h))

theorem execCellEvaluate_kept (K : Keeps P) {v0 v1} (h : Kept P v1) :
    KeptOut P (Machine.execCellEvaluate v0 v1) := by
  unfold Machine.execCellEvaluate
  extract_lets p2
  refine iteO_kept ?_ ?_
  · exact (next_kept h)
  · refine iteO_kept ?_ ?_
    · exact (next_kept (missCell_kept K h))
    · refine iteO_kept ?_ ?_
      · exact (next_kept (holdPair_kept K h))
      · refine iteO_kept ?_ ?_
        · exact (next_kept h)
        · refine iteO_kept ?_ ?_
          · exact (next_kept (holdPair_kept K h))
          · refine iteO_kept ?_ ?_
            · exact (next_kept h)
            · exact (next_kept (sampleDone_kept K (forAll_kept K (fun a3 a4 h5 => (evalCell_kept K h5)) h)))

theorem copyState_kept (K : Keeps P) {v0 v1 v2} (h : Kept P v2) :
    Kept P (Machine.copyState v0 v1 v2) := by
  unfold Machine.copyState
  extract_lets fs3
  exact (updCell_kept K (putAll_kept K h))

theorem pairBoundary_kept (K : Keeps P) {v0 v1 v2} (h : Kept P v2) :
    Kept P (Machine.pairBoundary v0 v1 v2) := by
  unfold Machine.pairBoundary
  extract_lets diff3 s4
  have h5 : Kept P s4 := by
    unfold s4
    refine ite_kept ?_ ?_
    · exact (cellFlag_kept K (cellFlag_kept K (raise_kept K (bump_kept K h))))
    · exact h
  clear_value s4
  refine ite_kept ?_ ?_
  · exact (copyState_kept K h5)
  · exact h5

theorem nodeBoundary_kept (K : Keeps P) {v0 v1 v2} (h : Kept P v2) :
    Kept P (Machine.nodeBoundary v0 v1 v2) := by
  unfold Machine.nodeBoundary
  extract_lets x3 first4 w5 s6
  have h7 : Kept P s6 := by
    unfold s6
    refine updNode_kept K ?_
    refine ite_kept ?_ ?_
    · exact (putI_kept K h)
    · exact h
  clear_value s6
  refine ite_kept ?_ ?_
  · exact (applyNode_kept K h7)
  · exact h7

theorem closeSamples_kept (K : Keeps P) {v0 v1} (h : Kept P v1) :
    Kept P (Machine.closeSamples v0 v1) := by
  unfold Machine.closeSamples
  extract_lets ms2
  exact (forAll_kept K (fun a3 a4 h5 => by
  refine ite_kept ?_ ?_
  · exact (missCell_kept K h5)
  · exact h5) h)

theorem beginPeriod_kept (K : Keeps P) {v0 v1} (h : Kept P v1) :
    Kept P (Machine.beginPeriod v0 v1) := by
  unfold Machine.beginPeriod
  extract_lets r2 d3
  exact (updCell_kept K h)

theorem execCellBoundary_kept (K : Keeps P) {n s} (h : Kept P s) : KeptOut P (Machine.execCellBoundary n s) := by
  unfold Machine.execCellBoundary
  refine iteO_kept (next_kept h) ?_
  extract_lets pair s0 s1 s2 s3 s4 s5 s6 none7 s7
  have h0 : Kept P s0 := closeSamples_kept K h
  clear_value s0
  have h1 : Kept P s1 := forAll_kept K (fun _ _ h => updCell_kept K h) h0
  have h2 : Kept P s2 := ite_kept (applyCell_kept K h1) h1
  have h3 : Kept P s3 := by
    unfold s3
    clear_value pair s2
    split
    · exact pairBoundary_kept K h2
    · exact h2
  have h4 : Kept P s4 := forAll_kept K (fun _ _ h => nodeBoundary_kept K h) h3
  have h5 : Kept P s5 := ite_kept (putCells_kept K (putCells_kept K h4)) h4
  have h6 : Kept P s6 := forAll_kept K (fun _ _ h => landOne_kept K h) h5
  have h7 : Kept P s7 := ite_kept (putCells_kept K (putCells_kept K h6)) h6
  exact next_kept (forAll_kept K (fun _ _ h => beginPeriod_kept K h) h7)

theorem stateWrite_kept (K : Keeps P) {v0 v1 v2 v3} (h : Kept P v3) :
    Kept P (Machine.stateWrite v0 v1 v2 v3) := by
  unfold Machine.stateWrite
  extract_lets p4
  refine ite_kept ?_ ?_
  · exact h
  · refine ite_kept ?_ ?_
    · exact (forAll_kept K (fun a5 a6 h7 => (putI_kept K h7)) h)
    · exact (cellFlag_kept K h)

theorem execStateWrite_kept (K : Keeps P) {v0 v1 v2 v3} (h : Kept P v3) :
    KeptOut P (Machine.execStateWrite v0 v1 v2 v3) := by
  unfold Machine.execStateWrite
  exact (next_kept (stateWrite_kept K h))

theorem capoSet_kept (K : Keeps P) {v0 v1} (h : Kept P v1) :
    Kept P (Machine.capoSet v0 v1) := by
  unfold Machine.capoSet
  extract_lets p2 pair3
  refine ite_kept ?_ ?_
  · exact (putCells_kept K (putCells_kept K h))
  · exact (putCells_kept K (putCells_kept K h))

theorem capoClr_kept (K : Keeps P) {v0 v1} (h : Kept P v1) :
    Kept P (Machine.capoClr v0 v1) := by
  unfold Machine.capoClr
  extract_lets p2 pair3
  refine ite_kept ?_ ?_
  · exact (putCells_kept K h)
  · exact (putCells_kept K h)

theorem clrState_kept (K : Keeps P) {v0 v1} (h : Kept P v1) :
    Kept P (Machine.clrState v0 v1) := by
  unfold Machine.clrState
  extract_lets p2
  refine ite_kept ?_ ?_
  · exact (forAll_kept K (fun a3 a4 h5 => (putI_kept K (clearAll_kept K h5))) h)
  · exact (cellFlag_kept K h)

theorem clrCell_kept (K : Keeps P) {v0 v1} (h : Kept P v1) :
    Kept P (Machine.clrCell v0 v1) := by
  unfold Machine.clrCell
  exact (forAll_kept K (fun a2 a3 h4 => (clearAll_kept K h4)) h)

theorem execCapoSet_kept (K : Keeps P) {v0 v1} (h : Kept P v1) :
    KeptOut P (Machine.execCapoSet v0 v1) := by
  unfold Machine.execCapoSet
  refine iteO_kept ?_ ?_
  · exact (next_kept (capoSet_kept K h))
  · exact (next_kept h)

theorem execCapoClr_kept (K : Keeps P) {v0 v1} (h : Kept P v1) :
    KeptOut P (Machine.execCapoClr v0 v1) := by
  unfold Machine.execCapoClr
  refine iteO_kept ?_ ?_
  · exact (next_kept (capoClr_kept K h))
  · exact (next_kept h)

theorem execClrState_kept (K : Keeps P) {v0 v1} (h : Kept P v1) :
    KeptOut P (Machine.execClrState v0 v1) := by
  unfold Machine.execClrState
  refine iteO_kept ?_ ?_
  · exact (next_kept (clrState_kept K h))
  · exact (next_kept h)

theorem execCellClrCnt_kept (K : Keeps P) {v0 v1} (h : Kept P v1) :
    KeptOut P (Machine.execCellClrCnt v0 v1) := by
  unfold Machine.execCellClrCnt
  refine iteO_kept ?_ ?_
  · exact (next_kept (clrCell_kept K h))
  · exact (next_kept h)

theorem loadRegs_kept (K : Keeps P) {v0 v1} (h : Kept P v1) :
    Kept P (Machine.loadRegs v0 v1) := by
  unfold Machine.loadRegs
  extract_lets l2
  exact (put_kept K (put_kept K h))

theorem cellEnable_kept (K : Keeps P) {v0 v1 v2} (h : Kept P v2) :
    Kept P (Machine.cellEnable v0 v1 v2) := by
  unfold Machine.cellEnable
  extract_lets p3 pair4 t5 act6 s7
  have h8 : Kept P t5 := (forAll_kept K (fun a9 a10 h11 => (updCell_kept K (landAll_kept K h11))) h)
  clear_value t5
  have h12 : Kept P s7 := by
    unfold s7
    refine ite_kept ?_ ?_
    · exact h
    · exact (putCells_kept K (putCells_kept K (putCells_kept K h8)))
  clear_value s7
  refine ite_kept ?_ ?_
  · exact h
  · exact (forAll_kept K (fun a13 a14 h15 => (loadRegs_kept K (putB_kept K (put_kept K (updCell_kept K h15))))) h12)

theorem execCellEnable_kept (K : Keeps P) {v0 v1 v2} (h : Kept P v2) :
    KeptOut P (Machine.execCellEnable v0 v1 v2) := by
  unfold Machine.execCellEnable
  refine iteO_kept ?_ ?_
  · exact (next_kept (cellEnable_kept K h))
  · exact (next_kept h)

theorem execCellConfigWrite_kept (K : Keeps P) {v0 v1 v2} (h : Kept P v2) :
    KeptOut P (Machine.execCellConfigWrite v0 v1 v2) := by
  unfold Machine.execCellConfigWrite
  extract_lets p3 pair4 mode5 rate6 phase7 nbq8 same9 en10 s11 s12 s13 s14 s15
  have h16 : Kept P s11 := by
    unfold s11
    refine ite_kept ?_ ?_
    · exact h
    · refine ite_kept ?_ ?_
      · exact (cellFlag_kept K h)
      · exact (putCells_kept K (putCells_kept K (putCells_kept K (putCells_kept K h))))
  clear_value s11
  have h17 : Kept P s12 := (cellEnable_kept K h16)
  clear_value s12
  have h18 : Kept P s13 := by
    unfold s13
    refine ite_kept ?_ ?_
    · exact (capoSet_kept K h17)
    · exact h17
  clear_value s13
  have h19 : Kept P s14 := by
    unfold s14
    refine ite_kept ?_ ?_
    · exact (capoClr_kept K h18)
    · exact h18
  clear_value s14
  have h20 : Kept P s15 := by
    unfold s15
    refine ite_kept ?_ ?_
    · exact (clrState_kept K h19)
    · exact h19
  clear_value s15
  refine iteO_kept ?_ ?_
  · exact (next_kept h)
  · refine iteO_kept ?_ ?_
    · exact (next_kept (cellFlag_kept K h))
    · refine next_kept ?_
      refine ite_kept ?_ ?_
      · exact (clrCell_kept K h20)
      · exact h20

theorem execCellSrcWrite_kept (K : Keeps P) {v0 v1 v2 v3} (h : Kept P v3) :
    KeptOut P (Machine.execCellSrcWrite v0 v1 v2 v3) := by
  unfold Machine.execCellSrcWrite
  extract_lets p4
  refine iteO_kept ?_ ?_
  · exact (next_kept h)
  · refine iteO_kept ?_ ?_
    · exact (next_kept (cellFlag_kept K h))
    · exact (next_kept (putCells_kept K h))

theorem moveMember_kept (K : Keeps P) {v0 v1 v2} (h : Kept P v2) :
    Kept P (Machine.moveMember v0 v1 v2) := by
  unfold Machine.moveMember
  exact (forAll_kept K (fun a3 a4 h5 => by
  extract_lets f6
  exact (foldl_kept (fun a7 a8 h9 => by
    refine ite_kept ?_ ?_
    · exact (put_kept K h9)
    · exact h9) h5)) h)

theorem takeover_kept (K : Keeps P) {v0 v1 v2} (h : Kept P v2) :
    Kept P (Machine.takeover v0 v1 v2) := by
  unfold Machine.takeover
  extract_lets d3 s4 s5
  have h6 : Kept P s4 := (moveMember_kept K (putAll_kept K h))
  clear_value s4
  have h7 : Kept P s5 := (cellFlag_kept K (raise_kept K h6))
  clear_value s5
  split
  · exact h7
  · exact (raise_kept K (bump_kept K (putAll_kept K h7)))

theorem noShadow_kept (K : Keeps P) {v0 v1 v2} (h : Kept P v2) :
    Kept P (Machine.noShadow v0 v1 v2) := by
  unfold Machine.noShadow
  exact (retractHead_kept K (raise_kept K (updServo_kept K h)))

theorem stopFollow_kept (K : Keeps P) {v0 v1 v2} (h : Kept P v2) :
    Kept P (Machine.stopFollow v0 v1 v2) := by
  unfold Machine.stopFollow
  extract_lets s3
  have h4 : Kept P s3 := (endFollow_kept K h)
  clear_value s3
  refine ite_kept ?_ ?_
  · exact h4
  · refine ite_kept ?_ ?_
    · exact (axEnter_kept K (axHalt_kept K h4))
    · exact (axEnter_kept K (axBrake_kept K h4))

theorem motorLoopLost_kept (K : Keeps P) {v0 v1} (h : Kept P v1) :
    Kept P (Machine.motorLoopLost v0 v1) := by
  unfold Machine.motorLoopLost
  extract_lets i2
  refine ite_kept ?_ ?_
  · exact (coastSpindle_kept K h)
  · refine ite_kept ?_ ?_
    · exact (stopFollow_kept K h)
    · refine ite_kept ?_ ?_
      · exact (put_kept K (updCrs_kept K h))
      · exact h

theorem copyConfig_kept (K : Keeps P) {v0 v1 v2} (h : Kept P v2) :
    Kept P (Machine.copyConfig v0 v1 v2) := by
  unfold Machine.copyConfig
  extract_lets fs3 s4 ks5 s6 s7
  have h8 : Kept P s4 := (putAll_kept K h)
  clear_value s4
  have h9 : Kept P s6 := (forAll_kept K (fun a10 a11 h12 => (put_kept K h12)) h8)
  clear_value s6
  have h13 : Kept P s7 := (forAll_kept K (fun a14 a15 h16 => (put_kept K h16)) h9)
  clear_value s7
  exact (putAll_kept K (updCell_kept K h13))

theorem shadowsOk_kept (K : Keeps P) {v0 v1} (h : Kept P v1) :
    Kept P (Machine.shadowsOk v0 v1) := by
  unfold Machine.shadowsOk
  exact (putB_kept K h)

theorem assignCell_kept (K : Keeps P) {v0 v1 v2} (h : Kept P v2) :
    Kept P (Machine.assignCell v0 v1 v2) := by
  unfold Machine.assignCell
  extract_lets d3 s4 s5
  have h6 : Kept P s4 := (moveMember_kept K (putAll_kept K (copyConfig_kept K h)))
  clear_value s4
  have h7 : Kept P s5 := (putI_kept K (updCell_kept K h6))
  clear_value s5
  split
  · exact (put_kept K (updServo_kept K h7))
  · refine ite_kept ?_ ?_
    · exact (put_kept K h7)
    · exact h7

theorem assignShadow_kept (K : Keeps P) {v0 v1 v2} (h : Kept P v2) :
    Kept P (Machine.assignShadow v0 v1 v2) := by
  unfold Machine.assignShadow
  extract_lets q3 s4 s5
  have h6 : Kept P s4 := (setQueue_kept K (copyConfig_kept K h))
  clear_value s4
  have h7 : Kept P s5 := (updCell_kept K (putAll_kept K h6))
  clear_value s5
  split
  · exact (shadowsOk_kept K (put_kept K h7))
  · exact h7

theorem serveNeed_kept (K : Keeps P) {v0 v1} (h : Kept P v1) :
    Kept P (Machine.serveNeed v0 v1) := by
  unfold Machine.serveNeed
  refine ite_kept ?_ ?_
  · exact h
  · split
    · exact (raise_kept K (lit_kept h rfl rfl rfl rfl rfl rfl rfl rfl rfl))
    · extract_lets s7
      have h8 : Kept P s7 := by
        unfold s7
        refine ite_kept ?_ ?_
        · exact (assignCell_kept K h)
        · exact (assignShadow_kept K h)
      clear_value s7
      exact (raise_kept K (bump_kept K (loadRegs_kept K h8)))

theorem reassign_kept (K : Keeps P) {v0 v1} (h : Kept P v1) :
    Kept P (Machine.reassign v0 v1) := by
  unfold Machine.reassign
  extract_lets k2 k3 zsrc4 s5
  have h6 : Kept P s5 := (foldl_kept (fun a7 a8 h9 => (serveNeed_kept K h9)) (lit_kept h rfl rfl rfl rfl rfl rfl rfl rfl rfl))
  clear_value s5
  exact (forAll_kept K (fun a10 a11 h12 => (foldl_kept (fun a13 a14 h15 => (motorLoopLost_kept K h15)) h12)) h6)

theorem cellFault_kept (K : Keeps P) {v0 v1} (h : Kept P v1.1) :
    Kept P (Machine.cellFault v0 v1).1 := by
  unfold Machine.cellFault
  extract_lets s2 on3 q4 s5 s6
  have h7 : Kept P s2 := (put_kept K (put_kept K h))
  clear_value s2
  have h8 : Kept P s5 := (putAll_kept K h7)
  clear_value s5
  have h9 : Kept P s6 := by
    unfold s6
    split
    · exact (putAll_kept K h8)
    · exact h8
  clear_value s6
  split
  · exact (takeover_kept K h7)
  · split
    · exact h9
    · split
      · split
        · exact (noShadow_kept K h7)
        · exact h7
      · exact h7

theorem execTileFault_kept (K : Keeps P) {v0 v1 v2 v3} (h : Kept P v3) :
    KeptOut P (Machine.execTileFault v0 v1 v2 v3) := by
  unfold Machine.execTileFault
  extract_lets was4 zsrc5 s6 s7 home8 s9 r10 hit11 s12 lost13 s14
  have h15 : Kept P s6 := (putAll_kept K (lit_kept h rfl rfl rfl rfl rfl rfl rfl rfl rfl))
  clear_value s6
  have h16 : Kept P s7 := (openWindow_kept K (raise_kept K h15))
  clear_value s7
  have h17 : Kept P s9 := by
    unfold s9
    refine ite_kept ?_ ?_
    · exact (raise_kept K h16)
    · exact h16
  clear_value s9
  have h18 : Kept P r10.1 := (foldlFst_kept (fun a19 a20 h21 => (cellFault_kept K h21)) h17)
  have h22 : Kept P s12 := (reassign_kept K h18)
  clear_value s12
  have h23 : Kept P s14 := (closeWindow_kept K h22)
  clear_value s14
  refine iteO_kept ?_ ?_
  · exact (next_kept h)
  · refine next_kept ?_
    refine ite_kept ?_ ?_
    · exact (unexpose_kept K h23)
    · exact h23

theorem execTileReset_kept (K : Keeps P) {v0 v1} (h : Kept P v1) :
    KeptOut P (Machine.execTileReset v0 v1) := by
  unfold Machine.execTileReset
  extract_lets zsrc2
  refine iteO_kept ?_ ?_
  · exact (next_kept h)
  · exact (next_kept (unitReset_kept K (lit_kept h rfl rfl rfl rfl rfl rfl rfl rfl rfl)))

theorem clearCell_kept (K : Keeps P) {n s} (h : Kept P s) : Kept P (Machine.clearCell n s) := by
  unfold Machine.clearCell
  extract_lets lo s1 z s2
  have h1 : Kept P s1 := forAll_kept K (fun m w hw => foldl_kept (fun t p ht => ite_kept (put_kept K ht) ht) hw) h
  clear_value s1
  exact cellEvt_kept K (updCell_kept K (resetWindow_kept K (K.unload _ _ _ h1)))

theorem execTileSelfTestPass_kept (K : Keeps P) {v0 v1} (h : Kept P v1) :
    KeptOut P (Machine.execTileSelfTestPass v0 v1) := by
  unfold Machine.execTileSelfTestPass
  extract_lets cs2 kept3 zsrc4 s5 s6 s7 needs8 zsrc9
  have h10 : Kept P s5 := (forAll_kept K (fun a11 a12 h13 => (clearCell_kept K h13)) (lit_kept h rfl rfl rfl rfl rfl rfl rfl rfl rfl))
  clear_value s5
  have h14 : Kept P s6 := (putAll_kept K h10)
  clear_value s6
  have h15 : Kept P s7 := (forAll_kept K (fun a16 a17 h18 => (clearCell_kept K h18)) (reassign_kept K h14))
  clear_value s7
  refine iteO_kept ?_ ?_
  · exact (next_kept h)
  · exact (next_kept (loadRegs_kept K (lit_kept h15 rfl rfl rfl rfl rfl rfl rfl rfl rfl)))

theorem execLeClrCnt_kept (K : Keeps P) {v0 v1} (h : Kept P v1) :
    KeptOut P (Machine.execLeClrCnt v0 v1) := by
  unfold Machine.execLeClrCnt
  refine iteO_kept ?_ ?_
  · exact (next_kept h)
  · exact (next_kept (forAll_kept K (fun a2 a3 h4 => (put_kept K h4)) (clearAll_kept K h)))

theorem execRemapTableBuild_kept (K : Keeps P) {v0 v1 v2 v3} (h : Kept P v3) :
    KeptOut P (Machine.execRemapTableBuild v0 v1 v2 v3) := by
  unfold Machine.execRemapTableBuild
  refine iteO_kept ?_ ?_
  · exact (next_kept h)
  · exact (next_kept (updDisc_kept K h))

theorem execDescriptorGeneration_kept (K : Keeps P) {v0 v1} (h : Kept P v1) :
    KeptOut P (Machine.execDescriptorGeneration v0 v1) := by
  unfold Machine.execDescriptorGeneration
  refine iteO_kept ?_ ?_
  · exact (next_kept (updDisc_kept K h))
  · exact (next_kept h)

theorem execSetFormation_kept (K : Keeps P) {v0 v1 v2} (h : Kept P v2) :
    KeptOut P (Machine.execSetFormation v0 v1 v2) := by
  unfold Machine.execSetFormation
  refine iteO_kept ?_ ?_
  · exact (next_kept (formSet_kept K h))
  · exact (next_kept h)

theorem execRowSeal_kept (K : Keeps P) {v0 v1 v2 v3} (h : Kept P v3) :
    KeptOut P (Machine.execRowSeal v0 v1 v2 v3) := by
  unfold Machine.execRowSeal
  extract_lets s4
  have h5 : Kept P s4 := (moveOffline_kept K h)
  clear_value s4
  refine iteO_kept ?_ ?_
  · exact (next_kept h)
  · split
    · exact (next_kept h5)
    · refine iteO_kept ?_ ?_
      · exact (next_kept (refreshArbours_kept K (sealRow_kept K h5)))
      · exact (next_kept h5)

theorem execWriteSessionDue_kept (K : Keeps P) {v0 v1} (h : Kept P v1) :
    KeptOut P (Machine.execWriteSessionDue v0 v1) := by
  unfold Machine.execWriteSessionDue
  extract_lets d2
  refine iteO_kept ?_ ?_
  · exact (next_kept (issueNext_kept K (putSet_kept K h)))
  · exact (next_kept h)

theorem recordSession_kept (K : Keeps P) {v0 v1} (h : Kept P v1) :
    Kept P (Machine.recordSession v0 v1) := by
  unfold Machine.recordSession
  refine ite_kept ?_ ?_
  · exact (serveDisc_kept K (updDisc_kept K h))
  · exact h

theorem execWriteSessionEnd_kept (K : Keeps P) {v0 v1} (h : Kept P v1) :
    KeptOut P (Machine.execWriteSessionEnd v0 v1) := by
  unfold Machine.execWriteSessionEnd
  extract_lets d2 held3 s4 s5
  have h6 : Kept P s4 := (issueNext_kept K (putSet_kept K h))
  clear_value s4
  have h7 : Kept P s5 := (forAll_kept K (fun a8 a9 h10 => by
  refine ite_kept ?_ ?_
  · exact (updWrite_kept K h10)
  · exact h10) h6)
  clear_value s5
  refine iteO_kept ?_ ?_
  · exact (next_kept (forAll_kept K (fun a11 a12 h13 => (recordSession_kept K h13)) h7))
  · exact (next_kept h)

theorem execMapCheckpoint_kept (K : Keeps P) {v0} (h : Kept P v0) :
    KeptOut P (Machine.execMapCheckpoint v0) := by
  unfold Machine.execMapCheckpoint
  refine iteO_kept ?_ ?_
  · exact (next_kept (switchEpoch_kept K h))
  · exact (next_kept h)

theorem execCheckpointWritten_kept (K : Keeps P) {v0 v1 v2} (h : Kept P v2) :
    KeptOut P (Machine.execCheckpointWritten v0 v1 v2) := by
  unfold Machine.execCheckpointWritten
  extract_lets pages3 n4 hd5 room6 epoch7 put8 zsrc9 s10 cur11 zsrc12 s13
  have h14 : Kept P s10 := (updDisc_kept K (updDisc_kept K (lit_kept h rfl rfl rfl rfl rfl rfl rfl rfl rfl)))
  clear_value s10
  have h15 : Kept P s13 := (lit_kept h14 rfl rfl rfl rfl rfl rfl rfl rfl rfl)
  clear_value s13
  refine iteO_kept ?_ ?_
  · exact (next_kept h)
  · exact (next_kept (raise_kept K (serveDisc_kept K (serveDisc_kept K h15))))

theorem grantAll_kept (K : Keeps P) {n used floor s} (h : Kept P s) : Kept P (Machine.grantAll n used floor s) := by
  induction n generalizing used floor s with
  | zero => exact lit_kept h rfl rfl rfl rfl rfl rfl rfl rfl rfl
  | succ n ih =>
    unfold Machine.grantAll
    split
    · exact lit_kept h rfl rfl rfl rfl rfl rfl rfl rfl rfl
    · exact ih (drainOne_kept K (lit_kept h rfl rfl rfl rfl rfl rfl rfl rfl rfl))

theorem execDrainCreditGrant_kept (K : Keeps P) {v0} (h : Kept P v0) :
    KeptOut P (Machine.execDrainCreditGrant v0) := by
  unfold Machine.execDrainCreditGrant
  extract_lets at1 zsrc2
  refine iteO_kept ?_ ?_
  · exact (next_kept h)
  · exact (next_kept (advanceCopies_kept K (grantAll_kept K (lit_kept h rfl rfl rfl rfl rfl rfl rfl rfl rfl))))

theorem execConsolidationStart_kept (K : Keeps P) {v0 v1} (h : Kept P v1) :
    KeptOut P (Machine.execConsolidationStart v0 v1) := by
  unfold Machine.execConsolidationStart
  extract_lets dom2 busy3 cs4
  refine iteO_kept ?_ ?_
  · exact (next_kept (refreshArbours_kept K (startCopies_kept K h)))
  · exact (next_kept h)

theorem execSetRetire_kept (K : Keeps P) {v0 v1} (h : Kept P v1) :
    KeptOut P (Machine.execSetRetire v0 v1) := by
  unfold Machine.execSetRetire
  extract_lets d2
  refine iteO_kept ?_ ?_
  · refine next_kept ?_
    refine ite_kept ?_ ?_
    · exact (rbNext_kept K (retireSet_kept K (endContexts_kept K h)))
    · exact (checkpointAgain_kept K h)
  · exact (next_kept h)

theorem execArbEnable_kept (K : Keeps P) {v0 v1} (h : Kept P v1) :
    KeptOut P (Machine.execArbEnable v0 v1) := by
  unfold Machine.execArbEnable
  exact (next_kept (putB_kept K (putB_kept K h)))

theorem execArbClrCnt_kept (K : Keeps P) {v0} (h : Kept P v0) :
    KeptOut P (Machine.execArbClrCnt v0) := by
  unfold Machine.execArbClrCnt
  exact (next_kept (clearAll_kept K h))

theorem arbState_kept (K : Keeps P) {v0 v1} (h : Kept P v1) :
    Kept P (Machine.arbState v0 v1) := by
  unfold Machine.arbState
  exact (put_kept K h)

theorem execArbourDrain_kept (K : Keeps P) {v0 v1 v2} (h : Kept P v2) :
    KeptOut P (Machine.execArbourDrain v0 v1 v2) := by
  unfold Machine.execArbourDrain
  exact (next_kept (when_kept K (fun a3 h4 => (arbState_kept K (putB_kept K h4))) h))

theorem execArbourOffline_kept (K : Keeps P) {v0 v1 v2} (h : Kept P v2) :
    KeptOut P (Machine.execArbourOffline v0 v1 v2) := by
  unfold Machine.execArbourOffline
  exact (next_kept (when_kept K (fun a3 h4 => (arbState_kept K (putB_kept K (tickContexts_kept K h4)))) h))

theorem slotTo_kept (K : Keeps P) {v0 v1 v2} (h : Kept P v2) :
    Kept P (Machine.slotTo v0 v1 v2) := by
  unfold Machine.slotTo
  extract_lets c3 slot4
  split
  · exact (cmotResult_kept K h)
  · exact (moveCar_kept K (cmotResult_kept K (putAll_kept K h)))

theorem execMount_kept (K : Keeps P) {v0 v1} (h : Kept P v1) :
    KeptOut P (Machine.execMount v0 v1) := by
  unfold Machine.execMount
  extract_lets l2 st3 up4
  refine iteO_kept ?_ ?_
  · exact (next_kept h)
  · split
    · exact (next_kept h)
    · exact (next_kept (slotTo_kept K (updMount_kept K h)))

theorem startDismount_kept (K : Keeps P) {v0 v1} (h : Kept P v1) :
    Kept P (Machine.startDismount v0 v1) := by
  unfold Machine.startDismount
  extract_lets m2 s3 s4
  have h5 : Kept P s3 := (dropSectors_kept K (dropSectors_kept K (truncateLadder_kept K (truncateLadder_kept K h))))
  clear_value s3
  have h6 : Kept P s4 := (stopSpindle_kept K (retractBay_kept K h5))
  clear_value s4
  exact (updMount_kept K h6)

theorem orderDismount_kept (K : Keeps P) {v0 v1} (h : Kept P v1) :
    Kept P (Machine.orderDismount v0 v1) := by
  unfold Machine.orderDismount
  refine ite_kept ?_ ?_
  · exact (updMount_kept K h)
  · exact (startDismount_kept K h)

theorem scanRecords_kept (K : Keeps P) {v0 v1 v2 v3} (h : Kept P v3) :
    Kept P (Machine.scanRecords v0 v1 v2 v3) := by
  unfold Machine.scanRecords
  extract_lets s4 s5
  have h6 : Kept P s4 := (updDisc_kept K h)
  clear_value s4
  have h7 : Kept P s5 := (updDisc_kept K h6)
  clear_value s5
  refine ite_kept ?_ ?_
  · exact h6
  · refine pageChanged_kept K ?_
    refine ite_kept ?_ ?_
    · exact h7
    · exact (headEvent_kept K h7)

theorem mounted_kept (K : Keeps P) {v0 v1} (h : Kept P v1) :
    Kept P (Machine.mounted v0 v1) := by
  unfold Machine.mounted
  extract_lets s2 d3 n4 s5 s6 hd7
  have h8 : Kept P s2 := (tickContexts_kept K h)
  clear_value s2
  have h9 : Kept P s5 := (updDisc_kept K (updMount_kept K h8))
  clear_value s5
  have h10 : Kept P s6 := (forAll_kept K (fun a11 a12 h13 => (bump_kept K h13)) h9)
  clear_value s6
  refine pageChanged_kept K ?_
  refine ite_kept ?_ ?_
  · exact (updSet_kept K h10)
  · exact h10

theorem mountFailed_kept (K : Keeps P) {v0 v1} (h : Kept P v1) :
    Kept P (Machine.mountFailed v0 v1) := by
  unfold Machine.mountFailed
  extract_lets d2 n3 s4 zsrc5 s6
  have h7 : Kept P s4 := (updDisc_kept K (updMount_kept K h))
  clear_value s4
  have h8 : Kept P s6 := by
    unfold s6
    refine ite_kept ?_ ?_
    · exact (lit_kept h7 rfl rfl rfl rfl rfl rfl rfl rfl rfl)
    · exact h7
  clear_value s6
  exact (pageChanged_kept K (startDismount_kept K (refreshArbours_kept K h8)))

theorem discGone_kept (K : Keeps P) {v0 v1} (h : Kept P v1) :
    Kept P (Machine.discGone v0 v1) := by
  unfold Machine.discGone
  exact (forAll_kept K (fun a2 a3 h4 => (clearConfirm_kept K (put_kept K (updChan_kept K (updWrite_kept K h4))))) (updMount_kept K h))

theorem execMountPhaseEnd_kept (K : Keeps P) {v0 v1 v2 v3} (h : Kept P v3) :
    KeptOut P (Machine.execMountPhaseEnd v0 v1 v2 v3) := by
  unfold Machine.execMountPhaseEnd
  extract_lets m4 d5
  refine iteO_kept ?_ ?_
  · exact (next_kept h)
  · refine iteO_kept ?_ ?_
    · refine iteO_kept ?_ ?_
      · exact (next_kept (mountFailed_kept K h))
      · exact (next_kept h)
    · refine iteO_kept ?_ ?_
      · refine iteO_kept ?_ ?_
        · exact (next_kept h)
        · exact (next_kept (axMoveTo_kept K (updMount_kept K h)))
      · refine iteO_kept ?_ ?_
        · refine iteO_kept ?_ ?_
          · exact (next_kept h)
          · refine iteO_kept ?_ ?_
            · refine next_kept ?_
              refine ite_kept ?_ ?_
              · exact (startDismount_kept K (updMount_kept K h))
              · exact (mountFailed_kept K h)
            · exact (next_kept (axMoveTo_kept K (axMoveTo_kept K (setSpeed_kept K (updMount_kept K h)))))
        · refine iteO_kept ?_ ?_
          · refine iteO_kept ?_ ?_
            · exact (next_kept h)
            · exact (next_kept (forAll_kept K (fun a6 a7 h8 => (pullIn_kept K h8)) (updMount_kept K h)))
          · refine iteO_kept ?_ ?_
            · refine iteO_kept ?_ ?_
              · exact (next_kept h)
              · refine iteO_kept ?_ ?_
                · exact (next_kept (startDismount_kept K h))
                · exact (next_kept (mounted_kept K (scanRecords_kept K h)))
            · refine iteO_kept ?_ ?_
              · refine iteO_kept ?_ ?_
                · exact (next_kept (startDismount_kept K h))
                · exact (next_kept h)
              · refine iteO_kept ?_ ?_
                · refine iteO_kept ?_ ?_
                  · exact (next_kept h)
                  · exact (next_kept (slotTo_kept K (axMoveTo_kept K (axMoveTo_kept K (updMount_kept K h)))))
                · refine iteO_kept ?_ ?_
                  · refine iteO_kept ?_ ?_
                    · exact (next_kept h)
                    · exact (next_kept (axMoveTo_kept K (updMount_kept K h)))
                  · refine iteO_kept ?_ ?_
                    · exact (next_kept h)
                    · exact (next_kept (discGone_kept K h))

theorem execDismount_kept (K : Keeps P) {v0 v1} (h : Kept P v1) :
    KeptOut P (Machine.execDismount v0 v1) := by
  unfold Machine.execDismount
  extract_lets l2 at3 moves4
  refine iteO_kept ?_ ?_
  · exact (next_kept (orderDismount_kept K h))
  · refine iteO_kept ?_ ?_
    · exact (next_kept h)
    · refine iteO_kept ?_ ?_
      · exact (next_kept (orderDismount_kept K h))
      · exact (next_kept h)

theorem execMountHoldExpiry_kept (K : Keeps P) {v0 v1} (h : Kept P v1) :
    KeptOut P (Machine.execMountHoldExpiry v0 v1) := by
  unfold Machine.execMountHoldExpiry
  extract_lets l2 rank3 worst4
  split
  · exact (next_kept h)
  · refine iteO_kept ?_ ?_
    · exact (next_kept h)
    · exact (next_kept (orderDismount_kept K h))

theorem stopMechanism_kept (K : Keeps P) {v0} (h : Kept P v0) :
    Kept P (Machine.stopMechanism v0) := by
  unfold Machine.stopMechanism
  extract_lets s1 s2
  have h3 : Kept P s1 := (forAll_kept K (fun a4 a5 h6 => (retractHead_kept K (closeGate_kept K h6))) h)
  clear_value s1
  have h7 : Kept P s2 := (forAll_kept K (fun a8 a9 h10 => (stepperOff_kept K (coastSpindle_kept K h10))) h3)
  clear_value s2
  exact (forAll_kept K (fun a11 a12 h13 => (carouselOff_kept K h13)) h7)

theorem beginDump_kept (K : Keeps P) {v0} (h : Kept P v0) :
    Kept P (Machine.beginDump v0) := by
  unfold Machine.beginDump
  extract_lets s1 v2 lines3 zsrc4
  have h5 : Kept P s1 := (writeHeader_kept K h)
  clear_value s1
  refine ite_kept ?_ ?_
  · exact h
  · exact (lit_kept h5 rfl rfl rfl rfl rfl rfl rfl rfl rfl)

theorem dropCal_kept (K : Keeps P) {v0} (h : Kept P v0) :
    Kept P (Machine.dropCal v0) := by
  unfold Machine.dropCal
  exact (putAll_kept K (lit_kept h rfl rfl rfl rfl rfl rfl rfl rfl rfl))

theorem silenceHost_kept (K : Keeps P) {v0} (h : Kept P v0) :
    Kept P (Machine.silenceHost v0) := by
  unfold Machine.silenceHost
  exact (putAll_kept K (lit_kept h rfl rfl rfl rfl rfl rfl rfl rfl rfl))

theorem declareLoss_kept (K : Keeps P) {v0} (h : Kept P v0) :
    Kept P (Machine.declareLoss v0) := by
  unfold Machine.declareLoss
  extract_lets zsrc1 zsrc2 s3
  have h4 : Kept P s3 := (silenceHost_kept K (lit_kept h rfl rfl rfl rfl rfl rfl rfl rfl rfl))
  clear_value s3
  refine ite_kept ?_ ?_
  · exact h
  · exact (beginDump_kept K (dropCal_kept K (stopMechanism_kept K (raise_kept K h4))))

theorem chipReset_kept (K : Keeps P) {trigger s} (h : Kept P s) : Kept P (Machine.chipReset trigger s) := by
  unfold Machine.chipReset
  exact putAll_kept K (K.reset _ h)

theorem pinReset_kept (K : Keeps P) {v0 v1} (h : Kept P v1) :
    Kept P (Machine.pinReset v0 v1) := by
  unfold Machine.pinReset
  extract_lets t2 zsrc3
  have h4 : Kept P t2 := (chipReset_kept K h)
  clear_value t2
  exact (lit_kept h4 rfl rfl rfl rfl rfl rfl rfl rfl rfl)

theorem fatalRestart_kept (K : Keeps P) {v0 v1} (h : Kept P v1) :
    Kept P (Machine.fatalRestart v0 v1) := by
  unfold Machine.fatalRestart
  extract_lets t2 recent3 zsrc4 s5
  have h6 : Kept P s5 := (chipReset_kept K (lit_kept h rfl rfl rfl rfl rfl rfl rfl rfl rfl))
  clear_value s5
  exact (putAll_kept K h6)

theorem releaseFatal_kept (K : Keeps P) {v0 v1} (h : Kept P v1) :
    Kept P (Machine.releaseFatal v0 v1) := by
  unfold Machine.releaseFatal
  extract_lets zsrc2
  refine ite_kept ?_ ?_
  · exact h
  · refine ite_kept ?_ ?_
    · exact (fatalRestart_kept K h)
    · exact (lit_kept h rfl rfl rfl rfl rfl rfl rfl rfl rfl)

theorem showBank_kept (K : Keeps P) {v0} (h : Kept P v0) :
    Kept P (Machine.showBank v0) := by
  unfold Machine.showBank
  exact (putAll_kept K h)

theorem execHuSenseSample_kept (K : Keeps P) {v0 v1} (h : Kept P v1) :
    KeptOut P (Machine.execHuSenseSample v0 v1) := by
  unfold Machine.execHuSenseSample
  extract_lets s2 c3 uv4 v5 l6 bank7 low8 zsrc9
  have h10 : Kept P s2 := (takeCal_kept K h)
  clear_value s2
  exact (next_kept (showBank_kept K (lit_kept h10 rfl rfl rfl rfl rfl rfl rfl rfl rfl)))

theorem putLimit_kept (K : Keeps P) {v0 v1} (h : Kept P v1) :
    Kept P (Machine.putLimit v0 v1) := by
  unfold Machine.putLimit
  extract_lets closed2 s3
  have h4 : Kept P s3 := (putB_kept K (put_kept K h))
  clear_value s3
  refine ite_kept ?_ ?_
  · exact (raise_kept K h4)
  · exact h4

theorem execAdmissionLimitUpdate_kept (K : Keeps P) {v0} (h : Kept P v0) :
    KeptOut P (Machine.execAdmissionLimitUpdate v0) := by
  unfold Machine.execAdmissionLimitUpdate
  extract_lets t1
  have h2 : Kept P t1 := (putLimit_kept K (put_kept K (putB_kept K h)))
  clear_value t1
  refine iteO_kept ?_ ?_
  · exact (next_kept h)
  · refine next_kept ?_
    split
    · exact h2
    · exact (updateHeader_kept K h2)

theorem startCapTest_kept (_K : Keeps P) {v0} (h : Kept P v0) :
    Kept P (Machine.startCapTest v0) := by
  unfold Machine.startCapTest
  extract_lets zsrc1
  refine ite_kept ?_ ?_
  · exact h
  · exact (lit_kept h rfl rfl rfl rfl rfl rfl rfl rfl rfl)

theorem execCapTest_kept (K : Keeps P) {v0} (h : Kept P v0) :
    KeptOut P (Machine.execCapTest v0) := by
  unfold Machine.execCapTest
  exact (next_kept (startCapTest_kept K h))

theorem execCapTestStart_kept (K : Keeps P) {v0} (h : Kept P v0) :
    KeptOut P (Machine.execCapTestStart v0) := by
  unfold Machine.execCapTestStart
  extract_lets due1 zsrc2
  refine next_kept ?_
  refine ite_kept ?_ ?_
  · exact (startCapTest_kept K (lit_kept h rfl rfl rfl rfl rfl rfl rfl rfl rfl))
  · exact h

theorem execCapTestEnd_kept (K : Keeps P) {v0} (h : Kept P v0) :
    KeptOut P (Machine.execCapTestEnd v0) := by
  unfold Machine.execCapTestEnd
  split
  · exact (next_kept h)
  · exact (next_kept h)
  · extract_lets v14 c15 zsrc16 s17
    have h18 : Kept P s17 := (showBank_kept K (put_kept K (lit_kept h rfl rfl rfl rfl rfl rfl rfl rfl rfl)))
    clear_value s17
    refine next_kept ?_
    refine ite_kept ?_ ?_
    · exact (raise_kept K h18)
    · exact h18

theorem execJournalSegmentWrite_kept (K : Keeps P) {v0} (h : Kept P v0) :
    KeptOut P (Machine.execJournalSegmentWrite v0) := by
  unfold Machine.execJournalSegmentWrite
  extract_lets all1 rs2 n3 v4 full5 free6 zsrc7 zsrc8
  refine iteO_kept ?_ ?_
  · exact (next_kept h)
  · refine iteO_kept ?_ ?_
    · exact (next_kept (bump_kept K h))
    · refine iteO_kept ?_ ?_
      · exact (next_kept (switchEpoch_kept K h))
      · exact (next_kept (lit_kept h rfl rfl rfl rfl rfl rfl rfl rfl rfl))

theorem vaultRate_kept (K : Keeps P) {v0 v1} (h : Kept P v1) :
    Kept P (Machine.vaultRate v0 v1) := by
  unfold Machine.vaultRate
  extract_lets t2
  have h3 : Kept P t2 := (put_kept K h)
  clear_value t2
  exact (putB_kept K h3)

theorem execVaultChange_kept (K : Keeps P) {v0 v1} (h : Kept P v1) :
    KeptOut P (Machine.execVaultChange v0 v1) := by
  unfold Machine.execVaultChange
  extract_lets was2 usable3 s4 s5
  have h6 : Kept P s4 := by
    unfold s4
    split
    · exact (vaultRate_kept K h)
    · exact h
    · exact h
    · exact h
  clear_value s4
  have h25 : Kept P s5 := (raise_kept K (putB_kept K h6))
  clear_value s5
  refine iteO_kept ?_ ?_
  · exact (next_kept h)
  · refine iteO_kept ?_ ?_
    · exact (next_kept h6)
    · refine next_kept ?_
      refine ite_kept ?_ ?_
      · exact h25
      · exact (putLimit_kept K (put_kept K h25))

theorem execPowerLossDeclare_kept (K : Keeps P) {v0 v1} (h : Kept P v1) :
    KeptOut P (Machine.execPowerLossDeclare v0 v1) := by
  unfold Machine.execPowerLossDeclare
  refine iteO_kept ?_ ?_
  · exact (next_kept h)
  · exact (next_kept (declareLoss_kept K h))

theorem afterDump_kept (K : Keeps P) {v0} (h : Kept P v0) :
    Kept P (Machine.afterDump v0) := by
  unfold Machine.afterDump
  extract_lets zsrc1 zsrc2
  refine ite_kept ?_ ?_
  · refine ite_kept ?_ ?_
    · exact (pinReset_kept K h)
    · exact (lit_kept h rfl rfl rfl rfl rfl rfl rfl rfl rfl)
  · refine ite_kept ?_ ?_
    · exact (lit_kept h rfl rfl rfl rfl rfl rfl rfl rfl rfl)
    · refine ite_kept ?_ ?_
      · exact (fatalRestart_kept K h)
      · exact h

theorem execDumpEnd_kept (K : Keeps P) {v0 v1} (h : Kept P v1) :
    KeptOut P (Machine.execDumpEnd v0 v1) := by
  unfold Machine.execDumpEnd
  extract_lets v2 full3 kept4 mib5 zsrc6 s7 s8 s9
  have h10 : Kept P s7 := (lit_kept h rfl rfl rfl rfl rfl rfl rfl rfl rfl)
  clear_value s7
  have h11 : Kept P s8 := (bump_kept K (putAll_kept K h10))
  clear_value s8
  have h12 : Kept P s9 := by
    unfold s9
    refine ite_kept ?_ ?_
    · exact (raise_kept K h11)
    · exact h11
  clear_value s9
  refine iteO_kept ?_ ?_
  · refine next_kept ?_
    refine afterDump_kept K ?_
    refine ite_kept ?_ ?_
    · exact (put_kept K h12)
    · exact h12
  · refine iteO_kept ?_ ?_
    · exact (next_kept (afterDump_kept K h))
    · exact (next_kept h)

theorem execPowerLossHoldRelease_kept (K : Keeps P) {v0 v1 v2} (h : Kept P v2) :
    KeptOut P (Machine.execPowerLossHoldRelease v0 v1 v2) := by
  unfold Machine.execPowerLossHoldRelease
  refine iteO_kept ?_ ?_
  · exact (next_kept (chipReset_kept K h))
  · exact (next_kept h)

theorem execLossAck_kept (_K : Keeps P) {v0 v1} (h : Kept P v1) :
    KeptOut P (Machine.execLossAck v0 v1) := by
  unfold Machine.execLossAck
  extract_lets zsrc2
  refine iteO_kept ?_ ?_
  · exact (next_kept (lit_kept h rfl rfl rfl rfl rfl rfl rfl rfl rfl))
  · exact (next_kept h)

theorem execPDumpWrite_kept (K : Keeps P) {v0 v1} (h : Kept P v1) :
    KeptOut P (Machine.execPDumpWrite v0 v1) := by
  unfold Machine.execPDumpWrite
  refine next_kept ?_
  refine ite_kept ?_ ?_
  · exact h
  · exact (put_kept K h)

theorem execPlpClrCnt_kept (K : Keeps P) {v0} (h : Kept P v0) :
    KeptOut P (Machine.execPlpClrCnt v0) := by
  unfold Machine.execPlpClrCnt
  exact (next_kept (clearAll_kept K h))

end Sys2Proof.Laws
end

