-- ==== Sys2Proof/Laws/KeptUnit.lean ====
section
/-! SUPPORT. A property that the elementary writes keep is kept by every operation and command of recovery, thermal, calibration, fuses and the tablature. -/

namespace Sys2Proof.Laws

open Sys2Proof.Machine

variable {P : Store → Prop}

theorem restoreUnit_kept (K : Keeps P) {v0 v1} (h : Kept P v1) :
    Kept P (Machine.restoreUnit v0 v1) := by
  unfold Machine.restoreUnit
  extract_lets n2 ps3 s4 d5 bad6 zsrc7 zsrc8
  have h9 : Kept P s4 := (forAll_kept K (fun a10 a11 h12 => (bufWritePage_kept K h12)) h)
  clear_value s4
  exact (lit_kept h9 rfl rfl rfl rfl rfl rfl rfl rfl rfl)

theorem recoverVault_kept (K : Keeps P) {v0} (h : Kept P v0) :
    Kept P (Machine.recoverVault v0) := by
  unfold Machine.recoverVault
  extract_lets zsrc1 s2 v3 zsrc4 s5 s6
  have h7 : Kept P s2 := (put_kept K h)
  clear_value s2
  have h8 : Kept P s5 := (foldl_kept (fun a9 a10 h11 => (ddrWriteLine_kept K h11)) (lit_kept h7 rfl rfl rfl rfl rfl rfl rfl rfl rfl))
  clear_value s5
  have h12 : Kept P s6 := (foldl_kept (fun a13 a14 h15 => (restoreUnit_kept K h15)) h8)
  clear_value s6
  refine ite_kept ?_ ?_
  · exact (lit_kept h rfl rfl rfl rfl rfl rfl rfl rfl rfl)
  · split
    · exact h7
    · refine ite_kept ?_ ?_
      · exact (put_kept K h12)
      · exact (lit_kept h7 rfl rfl rfl rfl rfl rfl rfl rfl rfl)

theorem loadPage_kept (_K : Keeps P) {v0 v1 v2} (h : Kept P v2) :
    Kept P (Machine.loadPage v0 v1 v2) := by
  unfold Machine.loadPage
  extract_lets l3
  exact (lit_kept h rfl rfl rfl rfl rfl rfl rfl rfl rfl)

theorem placeUnits_kept (K : Keeps P) {v0} (h : Kept P v0) :
    Kept P (Machine.placeUnits v0) := by
  unfold Machine.placeUnits
  extract_lets dom1 us2 bad3 one4 whole5 s6 done7 s8
  have h9 : Kept P s6 := (forAll_kept K (fun a10 a11 h12 => by
  try unfold whole5
  extract_lets b13
  split
  · refine ite_kept ?_ ?_
    · exact (setWholeGrain_kept K h12)
    · exact (foldl_kept (fun a20 a21 h22 => by
        try unfold one4
        extract_lets b23
        split
        · exact (setBlock_kept K h22)
        · exact (setBlock_kept K h22)) h12)
  · exact (foldl_kept (fun a34 a35 h36 => by
      try unfold one4
      extract_lets b37
      split
      · exact (setBlock_kept K h36)
      · exact (setBlock_kept K h36)) h12)
  · exact h12) h)
  clear_value s6
  have h47 : Kept P s8 := (foldl_kept (fun a48 a49 h50 => by
  try unfold one4
  extract_lets b51
  split
  · exact (setBlock_kept K h50)
  · exact (setBlock_kept K h50)) h9)
  clear_value s8
  exact (foldl_kept (fun a57 a58 h59 => by
  extract_lets bs60
  refine ite_kept ?_ ?_
  · exact h59
  · exact (placeBlocks_kept K h59)) h47)

theorem reportLoss_kept (K : Keeps P) {v0 v1 v2 v3} (h : Kept P v3) :
    Kept P (Machine.reportLoss v0 v1 v2 v3) := by
  unfold Machine.reportLoss
  extract_lets first4 zsrc5
  refine ite_kept ?_ ?_
  · exact h
  · exact (raise_kept K (putAll_kept K (lit_kept h rfl rfl rfl rfl rfl rfl rfl rfl rfl)))

theorem rewriteRow_kept (K : Keeps P) {v0 v1 v2} (h : Kept P v2) :
    Kept P (Machine.rewriteRow v0 v1 v2) := by
  unfold Machine.rewriteRow
  extract_lets d3 ps4 s5 s6
  have h7 : Kept P s5 := (forAll_kept K (fun a8 a9 h10 => (bufWritePage_kept K h10)) h)
  clear_value s5
  have h11 : Kept P s6 := (forAll_kept K (fun a12 a13 h14 => by
  extract_lets b15
  split
  · exact h14
  · exact (setBlock_kept K h14)) h7)
  clear_value s6
  exact (placeBlocks_kept K h11)

theorem applyDirectory_kept (_K : Keeps P) {v0 v1} (h : Kept P v1) :
    Kept P (Machine.applyDirectory v0 v1) := by
  unfold Machine.applyDirectory
  extract_lets discs2 zsrc3
  exact (lit_kept h rfl rfl rfl rfl rfl rfl rfl rfl rfl)

theorem noDirectory_kept (K : Keeps P) {v0} (h : Kept P v0) :
    Kept P (Machine.noDirectory v0) := by
  unfold Machine.noDirectory
  exact (raise_kept K (lit_kept h rfl rfl rfl rfl rfl rfl rfl rfl rfl))

theorem inFlight_kept (K : Keeps P) {v0 v1 v2} (h : Kept P v2) :
    Kept P (Machine.inFlight v0 v1 v2) := by
  unfold Machine.inFlight
  exact (updSet_kept K h)

theorem recount_kept (K : Keeps P) {v0} (h : Kept P v0) :
    Kept P (Machine.recount v0) := by
  unfold Machine.recount
  extract_lets dom1 un2 used3 zsrc4
  exact (fragMarks_kept K (lit_kept h rfl rfl rfl rfl rfl rfl rfl rfl rfl))

theorem resumeRebuild_kept (K : Keeps P) {v0 v1 v2} (h : Kept P v2) :
    Kept P (Machine.resumeRebuild v0 v1 v2) := by
  unfold Machine.resumeRebuild
  extract_lets d3 m4 recorded5 s6
  have h7 : Kept P s6 := (rbTake_kept K h)
  clear_value s6
  refine ite_kept ?_ ?_
  · exact h
  · split
    · extract_lets s14 zsrc15 s16 zsrc17
      have h18 : Kept P s14 := (putAll_kept K h7)
      clear_value s14
      have h19 : Kept P s16 := (lit_kept h18 rfl rfl rfl rfl rfl rfl rfl rfl rfl)
      clear_value s16
      split
      · exact (putAll_kept K h19)
      · refine ite_kept ?_ ?_
        · exact h19
        · exact (lit_kept h19 rfl rfl rfl rfl rfl rfl rfl rfl rfl)
    · exact (rbNext_kept K h7)

theorem resumeReshape_kept (K : Keeps P) {v0 v1 v2} (h : Kept P v2) :
    Kept P (Machine.resumeReshape v0 v1 v2) := by
  unfold Machine.resumeReshape
  extract_lets hd3 disc4 cur5
  split
  · exact h
  · extract_lets s11 zsrc12
    have h13 : Kept P s11 := (putAll_kept K (startReshape_kept K h))
    clear_value s11
    refine ite_kept ?_ ?_
    · exact h
    · exact (lit_kept h13 rfl rfl rfl rfl rfl rfl rfl rfl rfl)

theorem recoverRow_kept (K : Keeps P) {v0 v1} (h : Kept P v1) :
    Kept P (Machine.recoverRow v0 v1) := by
  unfold Machine.recoverRow
  extract_lets dom2 s3 s4 s5
  have h6 : Kept P s3 := (rewriteRow_kept K h)
  clear_value s3
  have h7 : Kept P s4 := (foldl_kept (fun a8 a9 h10 => by
  split
  · exact h10
  · exact (setBlock_kept K h10)) h6)
  clear_value s4
  have h16 : Kept P s5 := (raise_kept K (bump_kept K (bump_kept K h7)))
  clear_value s5
  refine ite_kept ?_ ?_
  · exact h6
  · exact (raise_kept K (updSet_kept K h16))

theorem stopChanged_kept (K : Keeps P) {v0} (h : Kept P v0) :
    Kept P (Machine.stopChanged v0) := by
  unfold Machine.stopChanged
  exact (forAll_kept K (fun a1 a2 h3 => (sealSet_kept K h3)) h)

theorem replayRecord_kept (K : Keeps P) {newer x r} (h : Kept P x.st) : Kept P (Machine.replayRecord newer x r).st := by
  cases r with
  | admitted stamp nsid lba n =>
    rw [Machine.replayRecord]
    refine foldl_kept (fun t b ht => ?_) h
    generalize grainOf t nsid b = g
    cases g
    · exact ht
    · exact ite_kept (setBlock_kept K ht) ht
  | issued hd ord wst blocks => exact h
  | durable hd ord =>
    rw [Machine.replayRecord]
    generalize x.issued.find? _ = r
    cases r with
    | none => exact h
    | some r =>
      refine foldl_kept (fun t b ht => ?_) h
      dsimp only
      generalize grainOf t _ _ = g
      cases g
      · exact ht
      · exact ite_kept (setBlock_kept K ht) ht
  | page p ws =>
    rw [Machine.replayRecord]
    split
    · exact loadPage_kept K h
    · exact h
  | cursor key v => exact h
  | remap d home spare => exact updDisc_kept K h

theorem replayJournal_kept (K : Keeps P) {pages s} (h : Kept P s) : Kept P (Machine.replayJournal pages s).st := by
  have hl : ∀ (f : Nat → Bool) (l : List JournalRecord) (x : Replay), Kept P x.st → Kept P (l.foldl (replayRecord f) x).st := by
    intro f l
    induction l with
    | nil => exact fun x hx => hx
    | cons a l ih => exact fun x hx => ih _ (replayRecord_kept K hx)
  have hg : ∀ (f : Segment → Nat → Bool) (l : List Segment) (x : Replay), Kept P x.st →
      Kept P (l.foldl (fun r g => g.records.foldl (replayRecord (f g)) r) x).st := by
    intro f l
    induction l with
    | nil => exact fun x hx => hx
    | cons a l ih => exact fun x hx => ih _ (hl _ _ _ hx)
  unfold Machine.replayJournal
  exact hl _ _ _ (hg (fun g => _) _ _ h)

theorem rebuildMap_kept (K : Keeps P) {rows dirStamp s} (h : Kept P s) : Kept P (Machine.rebuildMap rows dirStamp s) := by
  unfold Machine.rebuildMap
  extract_lets pages s1 x s2 gone s3 found s5 seen s6 head highest wst lostStamps bare s7 epoch z s8 s9 s10
  have h1 : Kept P s1 := by
    refine foldl_kept (fun t p ht => ?_) h
    split
    · exact ht
    · exact loadPage_kept K ht
  clear_value s1
  have hx : Kept P x.st := by
    unfold x
    split
    · exact h1
    · exact replayJournal_kept K h1
  clear_value x
  have h2 : Kept P s2 := forAll_kept K (fun _ _ h => inFlight_kept K h) hx
  clear_value s2 found
  have h3 : Kept P s3 := placeUnits_kept K h2
  clear_value s3
  have h5 : Kept P s5 := foldl_kept (fun _ _ h => recoverRow_kept K h) h3
  clear_value s5
  have h6 : Kept P s6 := foldl_kept (fun _ _ h => updSet_kept K h) h5
  have h7 : Kept P s7 := reportLoss_kept K h6
  clear_value s7
  have h8 : Kept P s8 := putAll_kept K (lit_kept h7 rfl rfl rfl rfl rfl rfl rfl rfl rfl)
  clear_value s8
  have h9 : Kept P s9 := forAll_kept K (fun _ _ h => resumeRebuild_kept K h) (recount_kept K h8)
  have h10 : Kept P s10 := stopChanged_kept K (forAll_kept K (fun _ _ h => resumeReshape_kept K h) h9)
  exact parStatus_kept K (refreshArbours_kept K (putAll_kept K h10))

theorem execMapRebuild_kept (K : Keeps P) {v0 v1} (h : Kept P v1) :
    KeptOut P (Machine.execMapRebuild v0 v1) := by
  unfold Machine.execMapRebuild
  extract_lets zsrc2 s3
  have h4 : Kept P s3 := (put_kept K (lit_kept h rfl rfl rfl rfl rfl rfl rfl rfl rfl))
  clear_value s3
  refine iteO_kept ?_ ?_
  · exact (next_kept h)
  · split
    · exact (next_kept (rebuildMap_kept K (applyDirectory_kept K h4)))
    · refine iteO_kept ?_ ?_
      · exact (next_kept (put_kept K (noDirectory_kept K h4)))
      · refine iteO_kept ?_ ?_
        · exact (next_kept h)
        · exact (next_kept (rebuildMap_kept K h4))

theorem execMapReady_kept (K : Keeps P) {v0} (h : Kept P v0) :
    KeptOut P (Machine.execMapReady v0) := by
  unfold Machine.execMapReady
  extract_lets zsrc1 s2 s3 s4 zsrc5
  have h6 : Kept P s2 := (lit_kept h rfl rfl rfl rfl rfl rfl rfl rfl rfl)
  clear_value s2
  have h7 : Kept P s3 := (raise_kept K (putAll_kept K h6))
  clear_value s3
  have h8 : Kept P s4 := (updateHeader_kept K h7)
  clear_value s4
  refine iteO_kept ?_ ?_
  · exact (next_kept h)
  · refine next_kept ?_
    refine reshapeAuto_kept K ?_
    refine ite_kept ?_ ?_
    · exact (raise_kept K (put_kept K (lit_kept h8 rfl rfl rfl rfl rfl rfl rfl rfl rfl)))
    · exact h8

theorem gridCheck_kept (K : Keeps P) {v0 v1 v2 v3} (h : Kept P v3) :
    Kept P (Machine.gridCheck v0 v1 v2 v3) := by
  unfold Machine.gridCheck
  extract_lets tol4 t5
  split
  · exact (putBit_kept K (lit_kept h rfl rfl rfl rfl rfl rfl rfl rfl rfl))
  · extract_lets n11 s12 zsrc13 n14 s15 zsrc16
    have h17 : Kept P s12 := (lit_kept h rfl rfl rfl rfl rfl rfl rfl rfl rfl)
    clear_value s12
    have h18 : Kept P s15 := (lit_kept h rfl rfl rfl rfl rfl rfl rfl rfl rfl)
    clear_value s15
    refine ite_kept ?_ ?_
    · refine ite_kept ?_ ?_
      · exact (putBit_kept K (lit_kept h17 rfl rfl rfl rfl rfl rfl rfl rfl rfl))
      · exact h17
    · refine ite_kept ?_ ?_
      · exact (raise_kept K (bump_kept K (putBit_kept K (lit_kept h18 rfl rfl rfl rfl rfl rfl rfl rfl rfl))))
      · exact h18

theorem parkBay_kept (K : Keeps P) {v0 v1} (h : Kept P v1) :
    Kept P (Machine.parkBay v0 v1) := by
  unfold Machine.parkBay
  exact (settlePark_kept K (tickContexts_kept K (lit_kept h rfl rfl rfl rfl rfl rfl rfl rfl rfl)))

theorem unparkBay_kept (K : Keeps P) {v0 v1 v2} (h : Kept P v2) :
    Kept P (Machine.unparkBay v0 v1 v2) := by
  unfold Machine.unparkBay
  extract_lets on3 zsrc4 s5
  have h6 : Kept P s5 := by
    unfold s5
    try unfold on3
    refine ite_kept ?_ ?_
    · refine put_kept K ?_
      try unfold on3
      refine ite_kept ?_ ?_
      · exact (put_kept K (lit_kept h rfl rfl rfl rfl rfl rfl rfl rfl rfl))
      · exact (lit_kept h rfl rfl rfl rfl rfl rfl rfl rfl rfl)
    · try unfold on3
      refine ite_kept ?_ ?_
      · exact (put_kept K (lit_kept h rfl rfl rfl rfl rfl rfl rfl rfl rfl))
      · exact (lit_kept h rfl rfl rfl rfl rfl rfl rfl rfl rfl)
  clear_value s5
  refine ite_kept ?_ ?_
  · exact (setSpeed_kept K h6)
  · exact h6

theorem parkDown_kept (K : Keeps P) {limit n s} (h : Kept P s) : Kept P (Machine.parkDown limit n s) := by
  induction n generalizing s with
  | zero => exact h
  | succ n ih =>
    unfold Machine.parkDown
    refine ite_kept h ?_
    split
    · exact h
    · exact ih (parkBay_kept K h)

theorem unparkUp_kept (K : Keeps P) {limit rpm n s} (h : Kept P s) : Kept P (Machine.unparkUp limit rpm n s) := by
  induction n generalizing s with
  | zero => exact h
  | succ n ih =>
    unfold Machine.unparkUp
    split
    · exact h
    · exact ite_kept (ih (unparkBay_kept K h)) h

theorem enforce_kept (K : Keeps P) {v0 v1} (h : Kept P v1) :
    Kept P (Machine.enforce v0 v1) := by
  unfold Machine.enforce
  extract_lets old2 s3 s4 s5 slow6 s7 zsrc8 s9 s10 zsrc11
  have h12 : Kept P s3 := (raise_kept K (put_kept K h))
  clear_value s3
  have h13 : Kept P s4 := by
    unfold s4
    refine ite_kept ?_ ?_
    · exact (bump_kept K h12)
    · exact h12
  clear_value s4
  have h14 : Kept P s5 := (parkDown_kept K h13)
  clear_value s5
  have h15 : Kept P s7 := (forAll_kept K (fun a16 a17 h18 => (setSpeed_kept K h18)) h14)
  clear_value s7
  have h19 : Kept P s9 := (unparkUp_kept K h13)
  clear_value s9
  have h20 : Kept P s10 := (forAll_kept K (fun a21 a22 h23 => (setSpeed_kept K h23)) h19)
  clear_value s10
  refine ite_kept ?_ ?_
  · exact h
  · refine ite_kept ?_ ?_
    · exact (lit_kept h15 rfl rfl rfl rfl rfl rfl rfl rfl rfl)
    · refine ite_kept ?_ ?_
      · exact (lit_kept h20 rfl rfl rfl rfl rfl rfl rfl rfl rfl)
      · exact h19

theorem graceEnds_kept (K : Keeps P) {v0} (h : Kept P v0) :
    Kept P (Machine.graceEnds v0) := by
  unfold Machine.graceEnds
  exact (enforce_kept K (put_kept K (lit_kept h rfl rfl rfl rfl rfl rfl rfl rfl rfl)))

theorem notifyTemperature_kept (K : Keeps P) {v0} (h : Kept P v0) :
    Kept P (Machine.notifyTemperature v0) := by
  unfold Machine.notifyTemperature
  exact (forAll_kept K (fun a1 a2 h3 => (notifyFn_kept K h3)) h)

theorem applyTmt_kept (K : Keeps P) {v0 v1} (h : Kept P v1) :
    Kept P (Machine.applyTmt v0 v1) := by
  unfold Machine.applyTmt
  extract_lets d2 t3 s4
  have h5 : Kept P s4 := by
    unfold s4
    refine ite_kept ?_ ?_
    · exact h
    · exact (lit_kept h rfl rfl rfl rfl rfl rfl rfl rfl rfl)
  clear_value s4
  refine ite_kept ?_ ?_
  · exact (enforce_kept K h5)
  · exact h5

theorem applyRelief_kept (K : Keeps P) {v0 v1} (h : Kept P v1) :
    Kept P (Machine.applyRelief v0 v1) := by
  unfold Machine.applyRelief
  extract_lets want2 begun3 ended4 s5 s6 zsrc7
  have h8 : Kept P s5 := (forAll_kept K (fun a9 a10 h11 => by
  extract_lets l12
  exact (raise_kept K (putBit_kept K h11))) (tickContexts_kept K h))
  clear_value s5
  have h13 : Kept P s6 := (forAll_kept K (fun a14 a15 h16 => (putBit_kept K h16)) h8)
  clear_value s6
  exact (lit_kept h13 rfl rfl rfl rfl rfl rfl rfl rfl rfl)

theorem laserCheck_kept (K : Keeps P) {v0 v1} (h : Kept P v1) :
    Kept P (Machine.laserCheck v0 v1) := by
  unfold Machine.laserCheck
  split
  · exact h
  · extract_lets thr7 wasW8 wasT9 wasS10 w11 r12 d13 zsrc14 s15 s16 s17
    have h18 : Kept P s15 := by
      unfold s15
      refine ite_kept ?_ ?_
      · exact (raise_kept K (lit_kept h rfl rfl rfl rfl rfl rfl rfl rfl rfl))
      · refine ite_kept ?_ ?_
        · exact (lit_kept h rfl rfl rfl rfl rfl rfl rfl rfl rfl)
        · exact h
    clear_value s15
    have h19 : Kept P s16 := (putBit_kept K h18)
    clear_value s16
    have h20 : Kept P s17 := (putBit_kept K h19)
    clear_value s17
    refine ite_kept ?_ ?_
    · exact (raise_kept K (bump_kept K (retractHead_kept K h20)))
    · exact h20

theorem ntcCheck_kept (K : Keeps P) {v0 v1 v2} (h : Kept P v2) :
    Kept P (Machine.ntcCheck v0 v1 v2) := by
  unfold Machine.ntcCheck
  extract_lets was3 w4 zsrc5
  refine ite_kept ?_ ?_
  · exact (raise_kept K (lit_kept h rfl rfl rfl rfl rfl rfl rfl rfl rfl))
  · refine ite_kept ?_ ?_
    · exact (lit_kept h rfl rfl rfl rfl rfl rfl rfl rfl rfl)
    · exact h

theorem holdCore_kept (_K : Keeps P) {v0 v1} (h : Kept P v1) :
    Kept P (Machine.holdCore v0 v1) := by
  unfold Machine.holdCore
  extract_lets v2 zsrc3 s4 zsrc5 zsrc6
  have h7 : Kept P s4 := by
    unfold s4
    refine ite_kept ?_ ?_
    · exact (lit_kept h rfl rfl rfl rfl rfl rfl rfl rfl rfl)
    · exact h
  clear_value s4
  exact (lit_kept h7 rfl rfl rfl rfl rfl rfl rfl rfl rfl)

theorem orderlyStop_kept (K : Keeps P) {v0} (h : Kept P v0) :
    Kept P (Machine.orderlyStop v0) := by
  unfold Machine.orderlyStop
  extract_lets zsrc1 zsrc2 s3 s4
  have h5 : Kept P s3 := (raise_kept K (bump_kept K (put_kept K (lit_kept h rfl rfl rfl rfl rfl rfl rfl rfl rfl))))
  clear_value s3
  have h6 : Kept P s4 := (beginDump_kept K (dropCal_kept K (stopMechanism_kept K (setCfs_kept K (silenceHost_kept K h5)))))
  clear_value s4
  refine ite_kept ?_ ?_
  · exact h6
  · exact (holdCore_kept K h6)

theorem junctionCheck_kept (K : Keeps P) {v0 v1 v2} (h : Kept P v2) :
    Kept P (Machine.junctionCheck v0 v1 v2) := by
  unfold Machine.junctionCheck
  extract_lets w3 r4 s5 zsrc6 u7 zsrc8 s9 u10
  have h11 : Kept P s5 := by
    unfold s5
    refine ite_kept ?_ ?_
    · exact (raise_kept K (put_kept K h))
    · exact (putB_kept K h)
  clear_value s5
  have h12 : Kept P u7 := (raise_kept K (bump_kept K (put_kept K (lit_kept h11 rfl rfl rfl rfl rfl rfl rfl rfl rfl))))
  clear_value u7
  have h13 : Kept P s9 := by
    unfold s9
    refine ite_kept ?_ ?_
    · refine notifyTemperature_kept K ?_
      refine ite_kept ?_ ?_
      · exact (put_kept K h12)
      · exact (lit_kept h12 rfl rfl rfl rfl rfl rfl rfl rfl rfl)
    · refine ite_kept ?_ ?_
      · exact (putAll_kept K (lit_kept h11 rfl rfl rfl rfl rfl rfl rfl rfl rfl))
      · exact h11
  clear_value s9
  have h14 : Kept P u10 := (orderlyStop_kept K h13)
  clear_value u10
  refine ite_kept ?_ ?_
  · refine ite_kept ?_ ?_
    · exact (holdCore_kept K h14)
    · exact h14
  · refine ite_kept ?_ ?_
    · exact (holdCore_kept K h13)
    · exact h13

theorem execThermalSample_kept (K : Keeps P) {v0 v1 v2} (h : Kept P v2) :
    KeptOut P (Machine.execThermalSample v0 v1 v2) := by
  unfold Machine.execThermalSample
  extract_lets zsrc3 s4 cal5 s6 s7 s8 ntcs9 s10 tj11 s12 s13 fast14 zsrc15 s16 stays17 s18
  have h19 : Kept P s4 := (takeCal_kept K (lit_kept h rfl rfl rfl rfl rfl rfl rfl rfl rfl))
  clear_value s4
  have h20 : Kept P s6 := (forAll_kept K (fun a21 a22 h23 => (putI_kept K h23)) h19)
  clear_value s6
  have h24 : Kept P s7 := (forAll_kept K (fun a25 a26 h27 => (gridCheck_kept K h27)) h20)
  clear_value s7
  have h28 : Kept P s8 := (putB_kept K h24)
  clear_value s8
  have h29 : Kept P s10 := (foldl_kept (fun a30 a31 h32 => (ntcCheck_kept K h32)) (forAll_kept K (fun a33 a34 h35 => (laserCheck_kept K h35)) h28))
  clear_value s10
  have h36 : Kept P s12 := by
    unfold s12
    split
    · exact h29
    · exact (putI_kept K (put_kept K h29))
  clear_value s12
  have h42 : Kept P s13 := (applyRelief_kept K h36)
  clear_value s13
  have h43 : Kept P s16 := by
    unfold s16
    refine ite_kept ?_ ?_
    · exact (lit_kept h42 rfl rfl rfl rfl rfl rfl rfl rfl rfl)
    · exact h42
  clear_value s16
  have h44 : Kept P s18 := (putB_kept K h43)
  clear_value s18
  refine iteO_kept ?_ ?_
  · exact (next_kept h)
  · refine next_kept ?_
    refine junctionCheck_kept K ?_
    refine ite_kept ?_ ?_
    · exact (applyTmt_kept K h44)
    · exact h44

theorem execGraceExpiry_kept (K : Keeps P) {v0} (h : Kept P v0) :
    KeptOut P (Machine.execGraceExpiry v0) := by
  unfold Machine.execGraceExpiry
  refine iteO_kept ?_ ?_
  · exact (next_kept (graceEnds_kept K h))
  · exact (next_kept h)

theorem execEnforcementStep_kept (K : Keeps P) {v0} (h : Kept P v0) :
    KeptOut P (Machine.execEnforcementStep v0) := by
  unfold Machine.execEnforcementStep
  extract_lets n1 zsrc2
  refine iteO_kept ?_ ?_
  · exact (next_kept (enforce_kept K (lit_kept h rfl rfl rfl rfl rfl rfl rfl rfl rfl)))
  · exact (next_kept h)

theorem execEnforcementRemove_kept (K : Keeps P) {v0} (h : Kept P v0) :
    KeptOut P (Machine.execEnforcementRemove v0) := by
  unfold Machine.execEnforcementRemove
  extract_lets n1 zsrc2
  refine iteO_kept ?_ ?_
  · exact (next_kept h)
  · exact (next_kept (enforce_kept K (lit_kept h rfl rfl rfl rfl rfl rfl rfl rfl rfl)))

theorem execOrderlyMaxExpiry_kept (K : Keeps P) {v0 v1} (h : Kept P v1) :
    KeptOut P (Machine.execOrderlyMaxExpiry v0 v1) := by
  unfold Machine.execOrderlyMaxExpiry
  refine iteO_kept ?_ ?_
  · exact (next_kept (holdCore_kept K h))
  · exact (next_kept h)

theorem thermalRestart_kept (K : Keeps P) {v0} (h : Kept P v0) :
    Kept P (Machine.thermalRestart v0) := by
  unfold Machine.thermalRestart
  extract_lets s1
  have h2 : Kept P s1 := (chipReset_kept K h)
  clear_value s1
  exact (put_kept K (raise_kept K h2))

theorem execThermalRestart_kept (K : Keeps P) {v0 v1 v2} (h : Kept P v2) :
    KeptOut P (Machine.execThermalRestart v0 v1 v2) := by
  unfold Machine.execThermalRestart
  refine iteO_kept ?_ ?_
  · exact (next_kept (thermalRestart_kept K h))
  · exact (next_kept h)

theorem execThresholdWrite_kept (K : Keeps P) {v0 v1 v2} (h : Kept P v2) :
    KeptOut P (Machine.execThresholdWrite v0 v1 v2) := by
  unfold Machine.execThresholdWrite
  extract_lets b3 x4
  refine next_kept ?_
  refine ite_kept ?_ ?_
  · exact (putAll_kept K h)
  · exact (putAll_kept K h)

theorem execThmClrCnt_kept (K : Keeps P) {v0} (h : Kept P v0) :
    KeptOut P (Machine.execThmClrCnt v0) := by
  unfold Machine.execThmClrCnt
  exact (next_kept (clearAll_kept K h))

theorem endFor_kept (K : Keeps P) {v0 v1} (h : Kept P v1) :
    Kept P (Machine.endFor v0 v1) := by
  unfold Machine.endFor
  extract_lets zsrc2
  refine ite_kept ?_ ?_
  · exact h
  · refine ite_kept ?_ ?_
    · exact (adminDone_kept K h)
    · exact (lit_kept h rfl rfl rfl rfl rfl rfl rfl rfl rfl)

theorem calChanged_kept (K : Keeps P) {v0} (h : Kept P v0) :
    Kept P (Machine.calChanged v0) := by
  unfold Machine.calChanged
  exact (notify_kept K (pageChanged_kept K (raise_kept K h)))

theorem restoreImage_kept (K : Keeps P) {j s} (h : Kept P s) : Kept P (Machine.restoreImage j s) := by
  unfold Machine.restoreImage
  refine ite_kept (adminDone_kept K h) ?_
  extract_lets r
  have hr : Kept P r.2 := by
    refine foldlSnd_kept (fun t x ht => ?_) h
    refine ite_kept (lit_kept ht rfl rfl rfl rfl rfl rfl rfl rfl rfl) (writeItem_kept K ht)
  clear_value r
  exact endFor_kept K (ite_kept (calChanged_kept K hr) hr)

theorem beginJob_kept (K : Keeps P) {v0 v1 v2} (h : Kept P v2) :
    Kept P (Machine.beginJob v0 v1 v2) := by
  unfold Machine.beginJob
  extract_lets skip3 zsrc4 s5 s6 zsrc7 s8
  have h9 : Kept P s5 := (putAll_kept K (lit_kept h rfl rfl rfl rfl rfl rfl rfl rfl rfl))
  clear_value s5
  have h10 : Kept P s6 := (put_kept K h9)
  clear_value s6
  have h11 : Kept P s8 := (raises_kept K (putAll_kept K (lit_kept h10 rfl rfl rfl rfl rfl rfl rfl rfl rfl)))
  clear_value s8
  refine ite_kept ?_ ?_
  · exact (restoreImage_kept K h)
  · refine ite_kept ?_ ?_
    · exact h9
    · refine ite_kept ?_ ?_
      · exact (put_kept K h10)
      · refine ite_kept ?_ ?_
        · exact h11
        · exact (adminDone_kept K h11)

theorem askCal_kept (K : Keeps P) {v0 v1 v2} (h : Kept P v2) :
    Kept P (Machine.askCal v0 v1 v2) := by
  unfold Machine.askCal
  split
  · exact (beginJob_kept K h)
  · exact (lit_kept h rfl rfl rfl rfl rfl rfl rfl rfl rfl)

theorem nextJobs_kept (K : Keeps P) {ref l s} (h : Kept P s) : Kept P (Machine.nextJobs ref l s) := by
  induction l generalizing s with
  | nil => exact lit_kept h rfl rfl rfl rfl rfl rfl rfl rfl rfl
  | cons a l ih =>
    unfold Machine.nextJobs
    split
    · exact lit_kept h rfl rfl rfl rfl rfl rfl rfl rfl rfl
    · exact ih (beginJob_kept K h)

theorem execCalStart_kept (K : Keeps P) {v0 v1} (h : Kept P v1) :
    KeptOut P (Machine.execCalStart v0 v1) := by
  unfold Machine.execCalStart
  exact (next_kept (askCal_kept K h))

theorem execCalExpStart_kept (K : Keeps P) {v0 v1} (h : Kept P v1) :
    KeptOut P (Machine.execCalExpStart v0 v1) := by
  unfold Machine.execCalExpStart
  exact (next_kept (askCal_kept K h))

theorem execCalAuto_kept (K : Keeps P) {v0 v1} (h : Kept P v1) :
    KeptOut P (Machine.execCalAuto v0 v1) := by
  unfold Machine.execCalAuto
  extract_lets zsrc2
  refine iteO_kept ?_ ?_
  · exact (next_kept h)
  · exact (next_kept (askCal_kept K (lit_kept h rfl rfl rfl rfl rfl rfl rfl rfl rfl)))

theorem execCalibrationProcedureEnd_kept (K : Keeps P) {v0 v1} (h : Kept P v1) :
    KeptOut P (Machine.execCalibrationProcedureEnd v0 v1) := by
  unfold Machine.execCalibrationProcedureEnd
  split
  · extract_lets zsrc7 s8 s9 s10 zsrc11
    have h12 : Kept P s8 := (raise_kept K (putAll_kept K (lit_kept h rfl rfl rfl rfl rfl rfl rfl rfl rfl)))
    clear_value s8
    have h13 : Kept P s9 := by
      unfold s9
      refine takeCal_kept K ?_
      refine ite_kept ?_ ?_
      · exact (calChanged_kept K h12)
      · exact h12
    clear_value s9
    have h14 : Kept P s10 := (endFor_kept K h13)
    clear_value s10
    exact (next_kept (nextJobs_kept K (lit_kept h14 rfl rfl rfl rfl rfl rfl rfl rfl rfl)))
  · exact (next_kept h)

theorem calValueWrite_kept (K : Keeps P) {v0 v1 v2 v3} (h : Kept P v3) :
    Kept P (Machine.calValueWrite v0 v1 v2 v3) := by
  unfold Machine.calValueWrite
  extract_lets g4 o5 s6 zsrc7 s8
  have h9 : Kept P s6 := by
    unfold s6
    refine ite_kept ?_ ?_
    · exact (markBounds_kept K h)
    · exact (markBounds_kept K h)
  clear_value s6
  have h10 : Kept P s8 := (lit_kept h9 rfl rfl rfl rfl rfl rfl rfl rfl rfl)
  clear_value s8
  refine ite_kept ?_ ?_
  · exact h
  · exact (pageChanged_kept K (writeItem_kept K h10))

theorem execCalValueWrite_kept (K : Keeps P) {v0 v1 v2 v3} (h : Kept P v3) :
    KeptOut P (Machine.execCalValueWrite v0 v1 v2 v3) := by
  unfold Machine.execCalValueWrite
  exact (next_kept (calValueWrite_kept K h))

theorem calCommand_kept (K : Keeps P) {v0 v1 v2 v3} (hf4 : ∀ y0, Kept P y0 → Kept P (v2 y0)) (h : Kept P v3) :
    Kept P (Machine.calCommand v0 v1 v2 v3) := by
  unfold Machine.calCommand
  exact (adminSide_kept K (fun a5 h6 => by
  refine ite_kept ?_ ?_
  · exact (hf4 _ h6)
  · exact (adminDone_kept K h6)) h)

theorem execCalibrateFull_kept (K : Keeps P) {v0 v1 v2 v3} (h : Kept P v3) :
    KeptOut P (Machine.execCalibrateFull v0 v1 v2 v3) := by
  unfold Machine.execCalibrateFull
  exact (next_kept (calCommand_kept K (fun a4 h5 => (askCal_kept K h5)) h))

theorem execCalibrateExpanders_kept (K : Keeps P) {v0 v1 v2 v3 v4 v5} (h : Kept P v5) :
    KeptOut P (Machine.execCalibrateExpanders v0 v1 v2 v3 v4 v5) := by
  unfold Machine.execCalibrateExpanders
  exact (next_kept (calCommand_kept K (fun a6 h7 => (askCal_kept K h7)) h))

theorem execCalibrateRestore_kept (K : Keeps P) {v0 v1 v2 v3} (h : Kept P v3) :
    KeptOut P (Machine.execCalibrateRestore v0 v1 v2 v3) := by
  unfold Machine.execCalibrateRestore
  exact (next_kept (calCommand_kept K (fun a4 h5 => (askCal_kept K h5)) h))

theorem execCalibrateRefused_kept (K : Keeps P) {v0 v1 v2} (h : Kept P v2) :
    KeptOut P (Machine.execCalibrateRefused v0 v1 v2) := by
  unfold Machine.execCalibrateRefused
  exact (next_kept (calCommand_kept K (fun a3 h4 => (adminDone_kept K h4)) h))

theorem loadWord_kept (K : Keeps P) {v0 v1 v2} (h : Kept P v2) :
    Kept P (Machine.loadWord v0 v1 v2) := by
  unfold Machine.loadWord
  extract_lets o3
  exact (foldl_kept (fun a4 a5 h6 => (load_kept K h6)) h)

theorem loadFuses_kept (K : Keeps P) {v0} (h : Kept P v0) :
    Kept P (Machine.loadFuses v0) := by
  unfold Machine.loadFuses
  extract_lets w1 s2 s3 s4
  have h5 : Kept P s2 := (foldl_kept (fun a6 a7 h8 => (load_kept K h8)) h)
  clear_value s2
  have h9 : Kept P s3 := (forAll_kept K (fun a10 a11 h12 => (load_kept K h12)) h5)
  clear_value s3
  have h13 : Kept P s4 := (forAll_kept K (fun a14 a15 h16 => (load_kept K h16)) h9)
  clear_value s4
  exact (forAll_kept K (fun a17 a18 h19 => (load_kept K h19)) h13)

theorem blow_kept (K : Keeps P) {i m s} (h : Kept P s) : Kept P (Machine.blow i m s) := loadFuses_kept K (K.blow _ _ _ h)

theorem fuseResult_kept (K : Keeps P) {v0 v1} (h : Kept P v1) :
    Kept P (Machine.fuseResult v0 v1) := by
  unfold Machine.fuseResult
  extract_lets s2
  have h3 : Kept P s2 := (putAll_kept K h)
  clear_value s2
  refine ite_kept ?_ ?_
  · exact (raise_kept K h3)
  · refine ite_kept ?_ ?_
    · exact (raise_kept K h3)
    · refine ite_kept ?_ ?_
      · exact (raise_kept K h3)
      · exact h3

theorem execFuseProgram_kept (K : Keeps P) {v0} (h : Kept P v0) :
    KeptOut P (Machine.execFuseProgram v0) := by
  unfold Machine.execFuseProgram
  extract_lets zsrc1
  refine iteO_kept ?_ ?_
  · exact (next_kept (put_kept K h))
  · refine iteO_kept ?_ ?_
    · exact (next_kept (fuseResult_kept K h))
    · exact (next_kept (put_kept K (lit_kept h rfl rfl rfl rfl rfl rfl rfl rfl rfl)))

theorem execFuseProgramDone_kept (K : Keeps P) {v0 v1} (h : Kept P v1) :
    KeptOut P (Machine.execFuseProgramDone v0 v1) := by
  unfold Machine.execFuseProgramDone
  split
  · exact (next_kept h)
  · extract_lets want8 good9 zsrc10 s11
    have h12 : Kept P s11 := (blow_kept K (lit_kept h rfl rfl rfl rfl rfl rfl rfl rfl rfl))
    clear_value s11
    refine iteO_kept ?_ ?_
    · exact (next_kept h)
    · exact (next_kept (fuseResult_kept K h12))

theorem newNonce_kept (K : Keeps P) {v0} (h : Kept P v0) :
    Kept P (Machine.newNonce v0) := by
  unfold Machine.newNonce
  exact (putFree_kept K h)

theorem execAuthGo_kept (K : Keeps P) {v0} (h : Kept P v0) :
    KeptOut P (Machine.execAuthGo v0) := by
  unfold Machine.execAuthGo
  extract_lets a1 op2 target3 good4 s5 s6
  have h7 : Kept P s5 := (newNonce_kept K h)
  clear_value s5
  have h8 : Kept P s6 := (raise_kept K (fuseResult_kept K (blow_kept K h7)))
  clear_value s6
  refine iteO_kept ?_ ?_
  · exact (next_kept (newNonce_kept K (put_kept K h)))
  · refine iteO_kept ?_ ?_
    · exact (next_kept (fuseResult_kept K h7))
    · refine iteO_kept ?_ ?_
      · refine iteO_kept ?_ ?_
        · exact (next_kept (fuseResult_kept K h7))
        · refine iteO_kept ?_ ?_
          · exact (next_kept (raise_kept K (put_kept K h8)))
          · exact (next_kept h8)
      · refine iteO_kept ?_ ?_
        · exact (next_kept (fuseResult_kept K h7))
        · exact (next_kept (raise_kept K (put_kept K (fuseResult_kept K h7))))

theorem execDebugClose_kept (K : Keeps P) {v0} (h : Kept P v0) :
    KeptOut P (Machine.execDebugClose v0) := by
  unfold Machine.execDebugClose
  refine iteO_kept ?_ ?_
  · exact (next_kept (put_kept K h))
  · exact (next_kept (fuseResult_kept K (blow_kept K h)))

theorem advance_kept (K : Keeps P) {v0 v1} (h : Kept P v1) :
    Kept P (Machine.advance v0 v1).2 := by
  unfold Machine.advance
  extract_lets clear2
  split
  · exact h
  · split
    · exact (fuseResult_kept K h)
    · exact (fuseResult_kept K (blow_kept K h))

theorem loadInstances_kept (K : Keeps P) {v0 v1} (h : Kept P v1) :
    Kept P (Machine.loadInstances v0 v1) := by
  unfold Machine.loadInstances
  extract_lets t2 s3
  have h4 : Kept P s3 := (load_kept K (load_kept K (load_kept K (load_kept K (load_kept K (load_kept K h))))))
  clear_value s3
  exact (forAll_kept K (fun a5 a6 h7 => (load_kept K h7)) h4)

theorem loadArbours_kept (K : Keeps P) {v0 v1} (h : Kept P v1) :
    Kept P (Machine.loadArbours v0 v1) := by
  unfold Machine.loadArbours
  extract_lets es2 s3 s4 leaves5 zsrc6
  have h7 : Kept P s3 := (load_kept K (load_kept K h))
  clear_value s3
  have h8 : Kept P s4 := (forAll_kept K (fun a9 a10 h11 => by
  extract_lets e12
  exact (foldl_kept (fun a13 a14 h15 => (load_kept K h15)) h11)) h7)
  clear_value s4
  exact (lit_kept h8 rfl rfl rfl rfl rfl rfl rfl rfl rfl)

theorem loadFrets_kept (K : Keeps P) {v0 v1} (h : Kept P v1) :
    Kept P (Machine.loadFrets v0 v1) := by
  unfold Machine.loadFrets
  extract_lets t2
  exact (forAll_kept K (fun a3 a4 h5 => by
  extract_lets u6
  have h7 : Kept P u6 := (load_kept K (load_kept K h5))
  clear_value u6
  exact (forAll_kept K (fun a8 a9 h10 => (load_kept K (load_kept K h10))) h7)) h)

theorem loadRecord_kept (K : Keeps P) {v0 v1} (h : Kept P v1) :
    Kept P (Machine.loadRecord v0 v1) := by
  unfold Machine.loadRecord
  extract_lets s2
  have h3 : Kept P s2 := (loadWord_kept K h)
  clear_value s2
  split
  · exact h3
  · exact (load_kept K h3)

theorem loadTab_kept (K : Keeps P) {v0 v1} (h : Kept P v1) :
    Kept P (Machine.loadTab v0 v1) := by
  unfold Machine.loadTab
  extract_lets s2 s3
  have h4 : Kept P s2 := (foldl_kept (fun a5 a6 h7 => (loadRecord_kept K h7)) (loadFrets_kept K (loadArbours_kept K (loadInstances_kept K (lit_kept h rfl rfl rfl rfl rfl rfl rfl rfl rfl)))))
  clear_value s2
  have h8 : Kept P s3 := (forAll_kept K (fun a9 a10 h11 => by
  refine ite_kept ?_ ?_
  · exact (putB_kept K h11)
  · exact h11) h4)
  clear_value s3
  exact (forAll_kept K (fun a12 a13 h14 => (loadRegs_kept K h14)) h8)

theorem inSession_kept (K : Keeps P) {v0 v1 v2 v3 v4 v5} (hf6 : ∀ y0, Kept P y0 → Kept P (v4 y0)) (h : Kept P v5) :
    Kept P (Machine.inSession v0 v1 v2 v3 v4 v5) := by
  unfold Machine.inSession
  refine ite_kept ?_ ?_
  · exact (adminDone_kept K h)
  · refine ite_kept ?_ ?_
    · exact (adminDone_kept K h)
    · split
      · refine ite_kept ?_ ?_
        · exact (adminDone_kept K h)
        · exact (hf6 _ h)
      · exact (hf6 _ h)

theorem execTablatureDownload_kept (K : Keeps P) {v0 v1 v2 v3 v4} (h : Kept P v4) :
    KeptOut P (Machine.execTablatureDownload v0 v1 v2 v3 v4) := by
  unfold Machine.execTablatureDownload
  exact (next_kept (adminIn_kept K (fun a5 h6 => (inSession_kept K (fun a7 h8 => by
  extract_lets old9 m10 zsrc11 s12
  have h13 : Kept P s12 := (putAll_kept K (lit_kept h8 rfl rfl rfl rfl rfl rfl rfl rfl rfl))
  clear_value s12
  refine ite_kept ?_ ?_
  · exact (adminDone_kept K h8)
  · refine ite_kept ?_ ?_
    · exact (adminDone_kept K h8)
    · exact (adminDone_kept K h13)) h6)) h))

theorem tabRefuse_kept (K : Keeps P) {v0 v1 v2 v3} (h : Kept P v3) :
    Kept P (Machine.tabRefuse v0 v1 v2 v3) := by
  unfold Machine.tabRefuse
  exact (adminDone_kept K (raise_kept K (closeTab_kept K h)))

theorem execTablatureCommitValidate_kept (K : Keeps P) {v0 v1 v2} (h : Kept P v2) :
    KeptOut P (Machine.execTablatureCommitValidate v0 v1 v2) := by
  unfold Machine.execTablatureCommitValidate
  exact (next_kept (adminIn_kept K (fun a3 h4 => (inSession_kept K (fun a5 h6 => by
  extract_lets e7
  refine ite_kept ?_ ?_
  · exact (tabRefuse_kept K h6)
  · exact (adminDone_kept K (closeTab_kept K h6))) h4)) h))

theorem execTablatureCommitWrite_kept (K : Keeps P) {v0 v1 v2 v3} (h : Kept P v3) :
    KeptOut P (Machine.execTablatureCommitWrite v0 v1 v2 v3) := by
  unfold Machine.execTablatureCommitWrite
  exact (next_kept (adminIn_kept K (fun a4 h5 => (inSession_kept K (fun a6 h7 => by
  extract_lets e8 full9 img10 s11 zsrc12 s13
  have h14 : Kept P s11 := (closeTab_kept K h7)
  clear_value s11
  have h15 : Kept P s13 := by
    unfold s13
    refine ite_kept ?_ ?_
    · exact (put_kept K (lit_kept h14 rfl rfl rfl rfl rfl rfl rfl rfl rfl))
    · exact (put_kept K (lit_kept h14 rfl rfl rfl rfl rfl rfl rfl rfl rfl))
  clear_value s13
  refine ite_kept ?_ ?_
  · exact (tabRefuse_kept K h7)
  · refine ite_kept ?_ ?_
    · exact (adminDone_kept K (raise_kept K (bump_kept K (lit_kept h15 rfl rfl rfl rfl rfl rfl rfl rfl rfl))))
    · exact (adminDone_kept K (raise_kept K h15))) h5)) h))

theorem execTablatureSessionTimeout_kept (K : Keeps P) {v0} (h : Kept P v0) :
    KeptOut P (Machine.execTablatureSessionTimeout v0) := by
  unfold Machine.execTablatureSessionTimeout
  refine iteO_kept ?_ ?_
  · exact (next_kept (raise_kept K (closeTab_kept K h)))
  · exact (next_kept h)

theorem execTabSessionAbort_kept (K : Keeps P) {v0} (h : Kept P v0) :
    KeptOut P (Machine.execTabSessionAbort v0) := by
  unfold Machine.execTabSessionAbort
  refine next_kept ?_
  refine ite_kept ?_ ?_
  · exact (closeTab_kept K h)
  · exact h

theorem tabSelected_kept (K : Keeps P) {v0 v1} (h : Kept P v1) :
    Kept P (Machine.tabSelected v0 v1) := by
  unfold Machine.tabSelected
  extract_lets d2 s3
  have h4 : Kept P s3 := (foldl_kept (fun a5 a6 h7 => (load_kept K h7)) h)
  clear_value s3
  exact (forAll_kept K (fun a8 a9 h10 => (load_kept K h10)) (lit_kept h4 rfl rfl rfl rfl rfl rfl rfl rfl rfl))

theorem selectTab_kept (K : Keeps P) {v0 v1} (h : Kept P v1) :
    Kept P (Machine.selectTab v0 v1) := by
  unfold Machine.selectTab
  extract_lets a2 b3 s4 bFirst5 first6 other7 n8 chk9 e10 e11 s12 s13
  have h14 : Kept P s4 := (putAll_kept K h)
  clear_value s4
  have h15 : Kept P s12 := (put_kept K h14)
  clear_value s12
  have h16 : Kept P s13 := by
    unfold s13
    refine ite_kept ?_ ?_
    · exact (raise_kept K h15)
    · exact h15
  clear_value s13
  refine ite_kept ?_ ?_
  · exact (tabSelected_kept K (loadTab_kept K (put_kept K h14)))
  · refine ite_kept ?_ ?_
    · exact (tabSelected_kept K (loadTab_kept K (put_kept K h16)))
    · exact (raise_kept K (put_kept K (put_kept K h16)))

end Sys2Proof.Laws
end

