-- ==== Sys2Proof/Laws/KeptAdmin.lean ====
section
/-! SUPPORT. A property that the elementary writes keep is kept by every operation and command of firmware, faults, power, administration, start-up and the register window. -/

namespace Sys2Proof.Laws

open Sys2Proof.Machine

variable {P : Store → Prop}

theorem updFw_kept (_K : Keeps P) {v0 v1} (h : Kept P v1) :
    Kept P (Machine.updFw v0 v1) := by
  unfold Machine.updFw
  exact (lit_kept h rfl rfl rfl rfl rfl rfl rfl rfl rfl)

theorem putLetter_kept (K : Keeps P) {v0 v1 v2} (h : Kept P v2) :
    Kept P (Machine.putLetter v0 v1 v2) := by
  unfold Machine.putLetter
  exact (updFw_kept K h)

theorem showFw_kept (K : Keeps P) {v0 v1} (h : Kept P v1) :
    Kept P (Machine.showFw v0 v1) := by
  unfold Machine.showFw
  extract_lets f2 a3 o4 alt5 s6
  have h7 : Kept P s6 := (putAll_kept K h)
  clear_value s6
  exact (forAll_kept K (fun a8 a9 h10 => by
  refine ite_kept ?_ ?_
  · exact h10
  · exact (put_kept K (put_kept K h10))) h7)

theorem execFirmwareImageDownload_kept (K : Keeps P) {v0 v1 v2 v3 v4} (h : Kept P v4) :
    KeptOut P (Machine.execFirmwareImageDownload v0 v1 v2 v3 v4) := by
  unfold Machine.execFirmwareImageDownload
  exact (next_kept (adminIn_kept K (fun a5 h6 => (inSession_kept K (fun a7 h8 => by
  extract_lets old9 m10 zsrc11
  refine ite_kept ?_ ?_
  · exact (adminDone_kept K h8)
  · refine ite_kept ?_ ?_
    · exact (adminDone_kept K h8)
    · exact (adminDone_kept K (putAll_kept K (lit_kept h8 rfl rfl rfl rfl rfl rfl rfl rfl rfl)))) h6)) h))

theorem fwRefuse_kept (K : Keeps P) {v0 v1 v2 v3 v4} (h : Kept P v4) :
    Kept P (Machine.fwRefuse v0 v1 v2 v3 v4) := by
  unfold Machine.fwRefuse
  exact (adminDone_kept K (raise_kept K (putAll_kept K (closeFw_kept K h))))

theorem fwTurn_kept (K : Keeps P) {v0 v1 v2 v3 v4 v5} (hf6 : ∀ y0 y1, Kept P y1 → Kept P (v4 y0 y1)) (h : Kept P v5) :
    Kept P (Machine.fwTurn v0 v1 v2 v3 v4 v5) := by
  unfold Machine.fwTurn
  exact (adminIn_kept K (fun a7 h8 => (inSession_kept K (fun a9 h10 => by
  split
  · exact (adminDone_kept K (closeFw_kept K h10))
  · refine ite_kept ?_ ?_
    · exact (adminDone_kept K h10)
    · refine ite_kept ?_ ?_
      · exact (adminDone_kept K (closeFw_kept K h10))
      · refine ite_kept ?_ ?_
        · exact (adminDone_kept K (closeFw_kept K h10))
        · exact (hf6 _ _ h10)) h8)) h)

theorem writeLetter_kept (K : Keeps P) {v0 v1 v2 v3} (h : Kept P v3) :
    Kept P (Machine.writeLetter v0 v1 v2 v3) := by
  unfold Machine.writeLetter
  refine showFw_kept K ?_
  refine ite_kept ?_ ?_
  · exact (updFw_kept K (putLetter_kept K h))
  · exact (updFw_kept K (putLetter_kept K h))

theorem fwWrite_kept (K : Keeps P) {v0 v1 v2 v3 v4 v5} (hf6 : ∀ y0, Kept P y0 → Kept P (v4 y0)) (h : Kept P v5) :
    Kept P (Machine.fwWrite v0 v1 v2 v3 v4 v5) := by
  unfold Machine.fwWrite
  extract_lets p7 s8
  have h9 : Kept P s8 := (writeLetter_kept K h)
  clear_value s8
  split
  · exact (fwRefuse_kept K h)
  · refine ite_kept ?_ ?_
    · exact (hf6 _ h9)
    · exact (adminDone_kept K (raise_kept K (closeFw_kept K h9)))

theorem fwDone_kept (K : Keeps P) {v0 v1 v2} (h : Kept P v2) :
    Kept P (Machine.fwDone v0 v1 v2) := by
  unfold Machine.fwDone
  exact (adminDone_kept K (raise_kept K (closeFw_kept K h)))

theorem arm_kept (K : Keeps P) {v0 v1} (h : Kept P v1) :
    Kept P (Machine.arm v0 v1) := by
  unfold Machine.arm
  exact (showFw_kept K (updFw_kept K h))

theorem execFirmwareCommitWrite_kept (K : Keeps P) {v0 v1 v2 v3 v4} (h : Kept P v4) :
    KeptOut P (Machine.execFirmwareCommitWrite v0 v1 v2 v3 v4) := by
  unfold Machine.execFirmwareCommitWrite
  exact (next_kept (fwTurn_kept K (fun a5 a6 h7 => (fwWrite_kept K (fun a8 h9 => (fwDone_kept K h9)) h7)) h))

theorem execFirmwareCommitArm_kept (K : Keeps P) {v0 v1 v2 v3 v4} (h : Kept P v4) :
    KeptOut P (Machine.execFirmwareCommitArm v0 v1 v2 v3 v4) := by
  unfold Machine.execFirmwareCommitArm
  exact (next_kept (fwTurn_kept K (fun a5 a6 h7 => (fwWrite_kept K (fun a8 h9 => (fwDone_kept K (arm_kept K h9))) h7)) h))

theorem probationFail_kept (K : Keeps P) {v0} (h : Kept P v0) :
    Kept P (Machine.probationFail v0) := by
  unfold Machine.probationFail
  refine ite_kept ?_ ?_
  · exact (updFw_kept K h)
  · exact h

theorem execFirmwareCommitArmWritten_kept (K : Keeps P) {v0 v1 v2 v3} (h : Kept P v3) :
    KeptOut P (Machine.execFirmwareCommitArmWritten v0 v1 v2 v3) := by
  unfold Machine.execFirmwareCommitArmWritten
  exact (next_kept (fwTurn_kept K (fun a4 a5 h6 => by
  refine ite_kept ?_ ?_
  · exact (chipReset_kept K (probationFail_kept K (fwDone_kept K h6)))
  · split
    · exact (fwRefuse_kept K h6)
    · exact (fwDone_kept K (arm_kept K h6))) h))

theorem beginActivation_kept (K : Keeps P) {fn cid s} (h : Kept P s) : Kept P (Machine.beginActivation fn cid s) := by
  have go : ∀ u, Kept P u → Kept P (put F.FWU_STATUS_STEP 1 (showFw false { u with host := { u.host with fwCmd := some (fn, cid) } })) :=
    fun u hu => put_kept K (showFw_kept K (lit_kept hu rfl rfl rfl rfl rfl rfl rfl rfl rfl))
  exact go _ (updFw_kept K (forAll_kept K (fun _ _ h => notifyFn_kept K h) h))

theorem execFirmwareCommitActivate_kept (K : Keeps P) {v0 v1 v2 v3 v4} (h : Kept P v4) :
    KeptOut P (Machine.execFirmwareCommitActivate v0 v1 v2 v3 v4) := by
  unfold Machine.execFirmwareCommitActivate
  exact (next_kept (fwTurn_kept K (fun a5 a6 h7 => by
  refine ite_kept ?_ ?_
  · exact (fwWrite_kept K (fun a8 h9 => (beginActivation_kept K h9)) h7)
  · split
    · exact (fwRefuse_kept K h7)
    · exact (beginActivation_kept K h7)) h))

theorem execFwSessionTimeout_kept (K : Keeps P) {v0} (h : Kept P v0) :
    KeptOut P (Machine.execFwSessionTimeout v0) := by
  unfold Machine.execFwSessionTimeout
  refine iteO_kept ?_ ?_
  · exact (next_kept (raise_kept K (closeFw_kept K h)))
  · exact (next_kept h)

theorem execFwuSessionAbort_kept (K : Keeps P) {v0} (h : Kept P v0) :
    KeptOut P (Machine.execFwuSessionAbort v0) := by
  unfold Machine.execFwuSessionAbort
  refine next_kept ?_
  refine ite_kept ?_ ?_
  · exact (closeFw_kept K h)
  · exact h

theorem managementReset_kept (K : Keeps P) {v0} (h : Kept P v0) :
    Kept P (Machine.managementReset v0) := by
  unfold Machine.managementReset
  exact (putAll_kept K (lit_kept h rfl rfl rfl rfl rfl rfl rfl rfl rfl))

theorem useSettings_kept (K : Keeps P) {reads regs s} (h : Kept P s) : Kept P (Machine.useSettings reads regs s) := by
  unfold Machine.useSettings
  have hr : ∀ (l : List (Nat × Nat)) t, Kept P t → Kept P { t with regs := l.foldl (fun m p => mapPut m p.1 p.2) t.regs } := by
    intro l
    induction l with
    | nil => exact fun t ht => ht
    | cons a l ih => exact fun t ht => ih { t with regs := mapPut t.regs a.1 a.2 } (K.reg _ _ _ ht)
  split
  · exact h
  · refine ite_kept h (ite_kept (raise_kept K (lit_kept h rfl rfl rfl rfl rfl rfl rfl rfl rfl)) ?_)
    extract_lets z s1
    have h1 : Kept P s1 := lit_kept h rfl rfl rfl rfl rfl rfl rfl rfl rfl
    clear_value s1
    exact ite_kept (hr _ _ h1) h1

theorem resendAll_kept (K : Keeps P) {v0} (h : Kept P v0) :
    Kept P (Machine.resendAll v0) := by
  unfold Machine.resendAll
  exact (forAll_kept K (fun a1 a2 h3 => (bump_kept K (updLink_kept K h3))) h)

theorem undoActivation_kept (K : Keeps P) {v0} (h : Kept P v0) :
    Kept P (Machine.undoActivation v0) := by
  unfold Machine.undoActivation
  extract_lets s1 zsrc2
  have h3 : Kept P s1 := (put_kept K (showFw_kept K (updFw_kept K h)))
  clear_value s1
  split
  · exact h3
  · exact (fwRefuse_kept K (lit_kept h3 rfl rfl rfl rfl rfl rfl rfl rfl rfl))

theorem startProbation_kept (K : Keeps P) {v0} (h : Kept P v0) :
    Kept P (Machine.startProbation v0) := by
  unfold Machine.startProbation
  extract_lets s1 zsrc2
  have h3 : Kept P s1 := (updFw_kept K h)
  clear_value s1
  exact (put_kept K (lit_kept h3 rfl rfl rfl rfl rfl rfl rfl rfl rfl))

theorem execActivationStep_kept (K : Keeps P) {v0 v1} (h : Kept P v1) :
    KeptOut P (Machine.execActivationStep v0 v1) := by
  unfold Machine.execActivationStep
  extract_lets k2 f3 mix4 s5 s6 s7 zsrc8
  have h9 : Kept P s5 := by
    unfold s5
    refine ite_kept ?_ ?_
    · exact (forAll_kept K (fun a10 a11 h12 => (updChan_kept K h12)) (resendAll_kept K h))
    · refine ite_kept ?_ ?_
      · exact (forAll_kept K (fun a13 a14 h15 => (updChan_kept K h15)) h)
      · exact h
  clear_value s5
  have h16 : Kept P s6 := (showFw_kept K (updFw_kept K h9))
  clear_value s6
  have h17 : Kept P s7 := (raise_kept K (put_kept K (useSettings_kept K (showFw_kept K (startProbation_kept K (managementReset_kept K h16))))))
  clear_value s7
  refine iteO_kept ?_ ?_
  · exact (next_kept h)
  · refine iteO_kept ?_ ?_
    · exact (next_kept h)
    · refine iteO_kept ?_ ?_
      · exact (next_kept h)
      · refine iteO_kept ?_ ?_
        · exact (next_kept (undoActivation_kept K h))
        · refine iteO_kept ?_ ?_
          · exact (next_kept (put_kept K h16))
          · split
            · exact (next_kept h17)
            · exact (next_kept (fwDone_kept K (lit_kept h17 rfl rfl rfl rfl rfl rfl rfl rfl rfl)))

theorem execProbationEnd_kept (K : Keeps P) {v0} (h : Kept P v0) :
    KeptOut P (Machine.execProbationEnd v0) := by
  unfold Machine.execProbationEnd
  extract_lets v1 s2 s3 zsrc4 s5
  have h6 : Kept P s2 := (advance_kept K h)
  clear_value s2
  have h7 : Kept P s3 := by
    unfold s3
    refine ite_kept ?_ ?_
    · exact (raise_kept K h6)
    · exact h6
  clear_value s3
  have h8 : Kept P s5 := (updFw_kept K (lit_kept h7 rfl rfl rfl rfl rfl rfl rfl rfl rfl))
  clear_value s5
  refine iteO_kept ?_ ?_
  · exact (next_kept h)
  · exact (next_kept (raise_kept K (showFw_kept K h8)))

theorem doFallback_kept (K : Keeps P) {v0} (h : Kept P v0) :
    Kept P (Machine.doFallback v0) := by
  unfold Machine.doFallback
  extract_lets s1
  have h2 : Kept P s1 := (updFw_kept K h)
  clear_value s1
  exact (raise_kept K (showFw_kept K h2))

theorem execFallback_kept (K : Keeps P) {v0} (h : Kept P v0) :
    KeptOut P (Machine.execFallback v0) := by
  unfold Machine.execFallback
  refine iteO_kept ?_ ?_
  · exact (next_kept (doFallback_kept K h))
  · exact (next_kept h)

theorem execSettingsCommit_kept (K : Keeps P) {v0 v1 v2 v3} (h : Kept P v3) :
    KeptOut P (Machine.execSettingsCommit v0 v1 v2 v3) := by
  unfold Machine.execSettingsCommit
  extract_lets f4 gen5 dst6 x7 s8 zsrc9
  have h10 : Kept P s8 := (updFw_kept K h)
  clear_value s8
  refine iteO_kept ?_ ?_
  · exact (next_kept h)
  · refine iteO_kept ?_ ?_
    · exact (next_kept (lit_kept h10 rfl rfl rfl rfl rfl rfl rfl rfl rfl))
    · exact (next_kept h10)

theorem startFirmware_kept (K : Keeps P) {v0 v1} (h : Kept P v1) :
    Kept P (Machine.startFirmware v0 v1) := by
  unfold Machine.startFirmware
  extract_lets s2 a3 s4 f5 go6 zsrc7 s8
  have h9 : Kept P s2 := by
    unfold s2
    refine ite_kept ?_ ?_
    · exact (doFallback_kept K h)
    · exact h
  clear_value s2
  have h10 : Kept P s4 := by
    unfold s4
    refine ite_kept ?_ ?_
    · exact (updFw_kept K h9)
    · exact h9
  clear_value s4
  have h11 : Kept P s8 := by
    unfold s8
    refine ite_kept ?_ ?_
    · exact (startProbation_kept K h10)
    · refine ite_kept ?_ ?_
      · exact (lit_kept h10 rfl rfl rfl rfl rfl rfl rfl rfl rfl)
      · exact h10
  clear_value s8
  exact (useSettings_kept K (showFw_kept K (updFw_kept K h11)))

theorem execSwSet_kept (K : Keeps P) {v0 v1 v2} (h : Kept P v2) :
    KeptOut P (Machine.execSwSet v0 v1 v2) := by
  unfold Machine.execSwSet
  extract_lets n3 f4
  exact (next_kept (forAll_kept K (fun a5 a6 h7 => by
  extract_lets src8
  exact (edge_kept K (put_kept K h7))) h))

theorem execLogClr_kept (K : Keeps P) {s} (h : Kept P s) : KeptOut P (Machine.execLogClr s) :=
  next_kept (put_kept K (K.log _ [] (by simp) h))

theorem failUndecided_kept (K : Keeps P) {v0} (h : Kept P v0) :
    Kept P (Machine.failUndecided v0) := by
  unfold Machine.failUndecided
  exact (foldl_kept (fun a1 a2 h3 => (failCmd_kept K h3)) h)

theorem enterFatal_kept (K : Keeps P) {v0 v1 v2 v3} (h : Kept P v3) :
    Kept P (Machine.enterFatal v0 v1 v2 v3) := by
  unfold Machine.enterFatal
  extract_lets d4 zsrc5 zsrc6 s7 zsrc8 s9 s10
  have h11 : Kept P s7 := (putAll_kept K (lit_kept h rfl rfl rfl rfl rfl rfl rfl rfl rfl))
  clear_value s7
  have h12 : Kept P s9 := (lit_kept h11 rfl rfl rfl rfl rfl rfl rfl rfl rfl)
  clear_value s9
  have h13 : Kept P s10 := (probationFail_kept K (closeAllWindows_kept K (stopMechanism_kept K (setCfs_kept K (failUndecided_kept K h12)))))
  clear_value s10
  refine ite_kept ?_ ?_
  · exact h
  · refine ite_kept ?_ ?_
    · exact h13
    · exact (beginDump_kept K h13)

theorem execFatalDeclare_kept (K : Keeps P) {v0 v1 v2} (h : Kept P v2) :
    KeptOut P (Machine.execFatalDeclare v0 v1 v2) := by
  unfold Machine.execFatalDeclare
  refine iteO_kept ?_ ?_
  · exact (next_kept h)
  · exact (next_kept (enterFatal_kept K h))

theorem execDmpFatal_kept (K : Keeps P) {v0 v1 v2} (h : Kept P v2) :
    KeptOut P (Machine.execDmpFatal v0 v1 v2) := by
  unfold Machine.execDmpFatal
  exact (next_kept (enterFatal_kept K h))

theorem execStampErr_kept (K : Keeps P) {v0} (h : Kept P v0) :
    KeptOut P (Machine.execStampErr v0) := by
  unfold Machine.execStampErr
  exact (next_kept (enterFatal_kept K (raise_kept K h)))

theorem execDumpCopyToFlash_kept (K : Keeps P) {v0} (h : Kept P v0) :
    KeptOut P (Machine.execDumpCopyToFlash v0) := by
  unfold Machine.execDumpCopyToFlash
  split
  · exact (next_kept h)
  · extract_lets done6 x7 zsrc8
    refine iteO_kept ?_ ?_
    · exact (next_kept h)
    · exact (next_kept (afterDump_kept K (put_kept K (lit_kept h rfl rfl rfl rfl rfl rfl rfl rfl rfl))))

theorem execFatalRelease_kept (K : Keeps P) {v0} (h : Kept P v0) :
    KeptOut P (Machine.execFatalRelease v0) := by
  unfold Machine.execFatalRelease
  exact (next_kept (releaseFatal_kept K h))

theorem execFatalHoldExpiry_kept (K : Keeps P) {v0} (h : Kept P v0) :
    KeptOut P (Machine.execFatalHoldExpiry v0) := by
  unfold Machine.execFatalHoldExpiry
  refine iteO_kept ?_ ?_
  · exact (next_kept h)
  · exact (next_kept (releaseFatal_kept K h))

theorem clearDump_kept (K : Keeps P) {v0} (h : Kept P v0) :
    Kept P (Machine.clearDump v0) := by
  unfold Machine.clearDump
  exact (put_kept K (lit_kept h rfl rfl rfl rfl rfl rfl rfl rfl rfl))

theorem execDmpClear_kept (K : Keeps P) {v0} (h : Kept P v0) :
    KeptOut P (Machine.execDmpClear v0) := by
  unfold Machine.execDmpClear
  exact (next_kept (clearDump_kept K h))

theorem fencePair_kept (K : Keeps P) {v0 v1 v2} (h : Kept P v2) :
    Kept P (Machine.fencePair v0 v1 v2) := by
  unfold Machine.fencePair
  extract_lets again3 s4 s5
  have h6 : Kept P s4 := (putAll_kept K h)
  clear_value s4
  have h7 : Kept P s5 := (raise_kept K (openWindow_kept K h6))
  clear_value s5
  refine ite_kept ?_ ?_
  · exact h
  · refine ite_kept ?_ ?_
    · exact (enterFatal_kept K h7)
    · exact (closeWindow_kept K h7)

theorem execLockstepMismatch_kept (K : Keeps P) {v0 v1} (h : Kept P v1) :
    KeptOut P (Machine.execLockstepMismatch v0 v1) := by
  unfold Machine.execLockstepMismatch
  exact (next_kept (fencePair_kept K h))

theorem execStackUe_kept (K : Keeps P) {v0 v1} (h : Kept P v1) :
    KeptOut P (Machine.execStackUe v0 v1) := by
  unfold Machine.execStackUe
  exact (next_kept (fencePair_kept K h))

theorem execPairRestore_kept (K : Keeps P) {v0 v1 v2} (h : Kept P v2) :
    KeptOut P (Machine.execPairRestore v0 v1 v2) := by
  unfold Machine.execPairRestore
  extract_lets zsrc3
  refine iteO_kept ?_ ?_
  · exact (next_kept h)
  · exact (next_kept (unexpose_kept K (putAll_kept K (lit_kept h rfl rfl rfl rfl rfl rfl rfl rfl rfl))))

theorem execWatchdogExpiry_kept (K : Keeps P) {v0 v1} (h : Kept P v1) :
    KeptOut P (Machine.execWatchdogExpiry v0 v1) := by
  unfold Machine.execWatchdogExpiry
  refine iteO_kept ?_ ?_
  · exact (next_kept (probationFail_kept K (managementReset_kept K (raise_kept K h))))
  · exact (next_kept h)

theorem execWdogKick_kept (_K : Keeps P) {v0 v1} (h : Kept P v1) :
    KeptOut P (Machine.execWdogKick v0 v1) := by
  unfold Machine.execWdogKick
  extract_lets zsrc2
  refine next_kept ?_
  refine ite_kept ?_ ?_
  · exact (lit_kept h rfl rfl rfl rfl rfl rfl rfl rfl rfl)
  · exact h

theorem execCcEnClear_kept (K : Keeps P) {v0 v1} (h : Kept P v1) :
    KeptOut P (Machine.execCcEnClear v0 v1) := by
  unfold Machine.execCcEnClear
  extract_lets s2
  have h3 : Kept P s2 := (put_kept K (resetFn_kept K h))
  clear_value s2
  refine iteO_kept ?_ ?_
  · exact (next_kept h)
  · refine next_kept ?_
    refine ite_kept ?_ ?_
    · exact (releaseFatal_kept K h3)
    · exact h3

theorem execPerst_kept (K : Keeps P) {v0 v1} (h : Kept P v1) :
    KeptOut P (Machine.execPerst v0 v1) := by
  unfold Machine.execPerst
  extract_lets zsrc2 s3 s4 s5
  have h6 : Kept P s3 := (lit_kept h rfl rfl rfl rfl rfl rfl rfl rfl rfl)
  clear_value s3
  have h7 : Kept P s4 := (forAll_kept K (fun a8 a9 h10 => by
  extract_lets u11
  have h12 : Kept P u11 := (forAll_kept K (fun a13 a14 h15 => (resetFn_kept K h15)) h10)
  clear_value u11
  refine ite_kept ?_ ?_
  · exact (raise_kept K (put_kept K h12))
  · exact h12) h6)
  clear_value s4
  have h16 : Kept P s5 := (put_kept K h7)
  clear_value s5
  refine iteO_kept ?_ ?_
  · exact (next_kept h)
  · refine iteO_kept ?_ ?_
    · exact (next_kept h6)
    · refine iteO_kept ?_ ?_
      · refine next_kept ?_
        refine ite_kept ?_ ?_
        · exact (thermalRestart_kept K h6)
        · exact h6
      · refine iteO_kept ?_ ?_
        · exact (next_kept h6)
        · refine next_kept ?_
          refine ite_kept ?_ ?_
          · exact (releaseFatal_kept K h16)
          · exact h16

theorem dropHead_kept (K : Keeps P) {v0 v1} (h : Kept P v1) :
    Kept P (Machine.dropHead v0 v1) := by
  unfold Machine.dropHead
  extract_lets st2
  refine ite_kept ?_ ?_
  · exact (setLink_kept K h)
  · exact h

theorem dropBus_kept (K : Keeps P) {v0 v1} (h : Kept P v1) :
    Kept P (Machine.dropBus v0 v1) := by
  unfold Machine.dropBus
  refine ite_kept ?_ ?_
  · exact (linkDown_kept K h)
  · exact h

theorem clockLoss_kept (K : Keeps P) {v0 v1} (h : Kept P v1) :
    Kept P (Machine.clockLoss v0 v1) := by
  unfold Machine.clockLoss
  exact (enterFatal_kept K (forAll_kept K (fun a2 a3 h4 => (dropBus_kept K h4)) (forAll_kept K (fun a5 a6 h7 => (dropHead_kept K h7)) h)))

theorem portDown_kept (K : Keeps P) {v0 v1} (h : Kept P v1) :
    Kept P (Machine.portDown v0 v1) := by
  unfold Machine.portDown
  exact (forAll_kept K (fun a2 a3 h4 => by
  extract_lets u5
  have h6 : Kept P u5 := (forAll_kept K (fun a7 a8 h9 => (resetFn_kept K h9)) h4)
  clear_value u5
  refine ite_kept ?_ ?_
  · exact (linkChange_kept K (put_kept K h6))
  · exact h6) h)

theorem execReferenceLoss_kept (K : Keeps P) {v0 v1} (h : Kept P v1) :
    KeptOut P (Machine.execReferenceLoss v0 v1) := by
  unfold Machine.execReferenceLoss
  extract_lets f2 s3
  have h4 : Kept P s3 := (raise_kept K (put_kept K h))
  clear_value s3
  refine iteO_kept ?_ ?_
  · exact (next_kept h)
  · refine next_kept ?_
    refine ite_kept ?_ ?_
    · exact (portDown_kept K h4)
    · refine ite_kept ?_ ?_
      · exact (clockLoss_kept K h4)
      · exact h4

theorem execPllUnlock_kept (K : Keeps P) {v0 v1} (h : Kept P v1) :
    KeptOut P (Machine.execPllUnlock v0 v1) := by
  unfold Machine.execPllUnlock
  extract_lets s2 s3 d4
  have h5 : Kept P s2 := by
    unfold s2
    refine ite_kept ?_ ?_
    · exact (put_kept K h)
    · exact (put_kept K h)
  clear_value s2
  have h6 : Kept P s3 := (raise_kept K h5)
  clear_value s3
  refine iteO_kept ?_ ?_
  · exact (next_kept h)
  · refine iteO_kept ?_ ?_
    · exact (next_kept (clockLoss_kept K h6))
    · refine iteO_kept ?_ ?_
      · exact (next_kept (forAll_kept K (fun a7 a8 h9 => by
          refine ite_kept ?_ ?_
          · exact (channelFault_kept K h9)
          · exact h9) h6))
      · refine iteO_kept ?_ ?_
        · exact (next_kept (forAll_kept K (fun a10 a11 h12 => (dropBus_kept K h12)) (forAll_kept K (fun a13 a14 h15 => (dropHead_kept K h15)) h6)))
        · exact (next_kept h6)

theorem enterDormant_kept (K : Keeps P) {v0} (h : Kept P v0) :
    Kept P (Machine.enterDormant v0) := by
  unfold Machine.enterDormant
  extract_lets t1 zsrc2
  have h3 : Kept P t1 := (chipReset_kept K h)
  clear_value t1
  exact (lit_kept h3 rfl rfl rfl rfl rfl rfl rfl rfl rfl)

theorem leaveDormant_kept (K : Keeps P) {v0} (h : Kept P v0) :
    Kept P (Machine.leaveDormant v0) := by
  unfold Machine.leaveDormant
  extract_lets zsrc1
  refine ite_kept ?_ ?_
  · exact (raise_kept K (lit_kept h rfl rfl rfl rfl rfl rfl rfl rfl rfl))
  · exact h

theorem execPowerStateRequest_kept (K : Keeps P) {v0 v1} (h : Kept P v1) :
    KeptOut P (Machine.execPowerStateRequest v0 v1) := by
  unfold Machine.execPowerStateRequest
  extract_lets r2 s3 zsrc4
  have h5 : Kept P s3 := (put_kept K h)
  clear_value s3
  refine iteO_kept ?_ ?_
  · exact (next_kept h)
  · refine iteO_kept ?_ ?_
    · exact (next_kept h5)
    · refine iteO_kept ?_ ?_
      · exact (next_kept (lit_kept h5 rfl rfl rfl rfl rfl rfl rfl rfl rfl))
      · refine iteO_kept ?_ ?_
        · exact (next_kept (enterDormant_kept K h5))
        · exact (next_kept (actOn_kept K h5))

theorem execIdlePoise_kept (K : Keeps P) {v0} (h : Kept P v0) :
    KeptOut P (Machine.execIdlePoise v0) := by
  unfold Machine.execIdlePoise
  refine iteO_kept ?_ ?_
  · exact (next_kept h)
  · refine iteO_kept ?_ ?_
    · exact (next_kept (settleRequest_kept K (startPoise_kept K h)))
    · refine iteO_kept ?_ ?_
      · exact (next_kept (startPoise_kept K h))
      · exact (next_kept h)

theorem execIdlePark_kept (K : Keeps P) {v0} (h : Kept P v0) :
    KeptOut P (Machine.execIdlePark v0) := by
  unfold Machine.execIdlePark
  extract_lets idle1
  refine iteO_kept ?_ ?_
  · exact (next_kept (startPark_kept K h))
  · exact (next_kept h)

theorem execPoisedToRun_kept (K : Keeps P) {v0} (h : Kept P v0) :
    KeptOut P (Machine.execPoisedToRun v0) := by
  unfold Machine.execPoisedToRun
  refine iteO_kept ?_ ?_
  · exact (next_kept (leavePoised_kept K h))
  · exact (next_kept h)

theorem execD0Transition_kept (K : Keeps P) {v0 v1 v2} (h : Kept P v2) :
    KeptOut P (Machine.execD0Transition v0 v1 v2) := by
  unfold Machine.execD0Transition
  extract_lets zsrc3 s4
  have h5 : Kept P s4 := (lit_kept h rfl rfl rfl rfl rfl rfl rfl rfl rfl)
  clear_value s4
  refine iteO_kept ?_ ?_
  · exact (next_kept h)
  · refine iteO_kept ?_ ?_
    · exact (next_kept (wakeParked_kept K (lit_kept h rfl rfl rfl rfl rfl rfl rfl rfl rfl)))
    · refine iteO_kept ?_ ?_
      · exact (next_kept (startPark_kept K h5))
      · exact (next_kept h5)

theorem parkStop_kept (K : Keeps P) {v0} (h : Kept P v0) :
    Kept P (Machine.parkStop v0) := by
  unfold Machine.parkStop
  extract_lets s1 zsrc2 zsrc3 s4
  have h5 : Kept P s1 := (cleanAll_kept K h)
  clear_value s1
  have h6 : Kept P s4 := (put_kept K (lit_kept h5 rfl rfl rfl rfl rfl rfl rfl rfl rfl))
  clear_value s4
  exact (forAll_kept K (fun a7 a8 h9 => (axMoveTo_kept K (axMoveTo_kept K (stopSpindle_kept K (retractBay_kept K h9))))) h6)

theorem parkFinish_kept (K : Keeps P) {v0} (h : Kept P v0) :
    Kept P (Machine.parkFinish v0) := by
  unfold Machine.parkFinish
  extract_lets s1 s2 s3
  have h4 : Kept P s1 := (forAll_kept K (fun a5 a6 h7 => (setLink_kept K h7)) h)
  clear_value s1
  have h8 : Kept P s2 := (forAll_kept K (fun a9 a10 h11 => (carouselOff_kept K h11)) (forAll_kept K (fun a12 a13 h14 => (stepperOff_kept K h14)) h4))
  clear_value s2
  have h15 : Kept P s3 := (put_kept K h8)
  clear_value s3
  exact (enterPower_kept K (updateHeader_kept K h15))

theorem execParkedEntryDone_kept (K : Keeps P) {v0} (h : Kept P v0) :
    KeptOut P (Machine.execParkedEntryDone v0) := by
  unfold Machine.execParkedEntryDone
  extract_lets s1
  have h2 : Kept P s1 := (parkFinish_kept K h)
  clear_value s1
  refine iteO_kept ?_ ?_
  · exact (next_kept h)
  · refine iteO_kept ?_ ?_
    · refine iteO_kept ?_ ?_
      · exact (next_kept h)
      · refine iteO_kept ?_ ?_
        · exact (next_kept (switchEpoch_kept K h))
        · refine iteO_kept ?_ ?_
          · exact (next_kept h)
          · exact (next_kept (parkStop_kept K h))
    · refine iteO_kept ?_ ?_
      · refine iteO_kept ?_ ?_
        · refine iteO_kept ?_ ?_
          · exact (next_kept (settleRequest_kept K (parkedExit_kept K h2)))
          · refine iteO_kept ?_ ?_
            · exact (next_kept (enterDormant_kept K h2))
            · exact (next_kept (settleRequest_kept K h2))
        · exact (next_kept h)
      · exact (next_kept h)

theorem execDormantEntry_kept (K : Keeps P) {v0} (h : Kept P v0) :
    KeptOut P (Machine.execDormantEntry v0) := by
  unfold Machine.execDormantEntry
  refine iteO_kept ?_ ?_
  · exact (next_kept (enterDormant_kept K h))
  · exact (next_kept h)

theorem execWakeN_kept (K : Keeps P) {v0} (h : Kept P v0) :
    KeptOut P (Machine.execWakeN v0) := by
  unfold Machine.execWakeN
  exact (next_kept (leaveDormant_kept K h))

theorem execWakeTimerMatch_kept (K : Keeps P) {v0} (h : Kept P v0) :
    KeptOut P (Machine.execWakeTimerMatch v0) := by
  unfold Machine.execWakeTimerMatch
  refine next_kept ?_
  refine ite_kept ?_ ?_
  · exact (leaveDormant_kept K (put_kept K h))
  · exact h

theorem execPerstDeassert_kept (K : Keeps P) {v0 v1 v2 v3} (h : Kept P v3) :
    KeptOut P (Machine.execPerstDeassert v0 v1 v2 v3) := by
  unfold Machine.execPerstDeassert
  extract_lets zsrc4 s5
  have h6 : Kept P s5 := (lit_kept h rfl rfl rfl rfl rfl rfl rfl rfl rfl)
  clear_value s5
  refine iteO_kept ?_ ?_
  · exact (next_kept h)
  · refine iteO_kept ?_ ?_
    · exact (next_kept (leaveDormant_kept K h6))
    · refine iteO_kept ?_ ?_
      · exact (next_kept h6)
      · exact (next_kept (forAll_kept K (fun a7 a8 h9 => by
          refine ite_kept ?_ ?_
          · exact h9
          · exact (linkChange_kept K (unexpose_kept K (putAll_kept K h9)))) h6))

theorem execChipReset_kept (K : Keeps P) {v0} (h : Kept P v0) :
    KeptOut P (Machine.execChipReset v0) := by
  unfold Machine.execChipReset
  refine iteO_kept ?_ ?_
  · exact (next_kept h)
  · exact (next_kept (chipReset_kept K h))

theorem execResetN_kept (K : Keeps P) {v0} (h : Kept P v0) :
    KeptOut P (Machine.execResetN v0) := by
  unfold Machine.execResetN
  extract_lets zsrc1
  refine iteO_kept ?_ ?_
  · exact (next_kept h)
  · refine iteO_kept ?_ ?_
    · exact (next_kept (pinReset_kept K h))
    · refine iteO_kept ?_ ?_
      · exact (next_kept (lit_kept h rfl rfl rfl rfl rfl rfl rfl rfl rfl))
      · refine iteO_kept ?_ ?_
        · exact (next_kept (releaseFatal_kept K h))
        · exact (next_kept (pinReset_kept K h))

theorem execAlwaysOnReset_kept (K : Keeps P) {s} (h : Kept P s) : KeptOut P (Machine.execAlwaysOnReset s) :=
  next_kept (K.reset _ h)

theorem execRailOutOfTolerance_kept (K : Keeps P) {v0 v1 v2} (h : Kept P v2) :
    KeptOut P (Machine.execRailOutOfTolerance v0 v1 v2) := by
  unfold Machine.execRailOutOfTolerance
  extract_lets others3 zsrc4
  refine iteO_kept ?_ ?_
  · exact (next_kept h)
  · refine iteO_kept ?_ ?_
    · exact (next_kept (lit_kept h rfl rfl rfl rfl rfl rfl rfl rfl rfl))
    · exact (next_kept (declareLoss_kept K (lit_kept h rfl rfl rfl rfl rfl rfl rfl rfl rfl)))

theorem execVaonLow_kept (K : Keeps P) {v0} (h : Kept P v0) :
    KeptOut P (Machine.execVaonLow v0) := by
  unfold Machine.execVaonLow
  exact (next_kept (declareLoss_kept K h))

theorem execIdentify_kept (K : Keeps P) {v0 v1 v2 v3 v4 v5} (h : Kept P v5) :
    KeptOut P (Machine.execIdentify v0 v1 v2 v3 v4 v5) := by
  unfold Machine.execIdentify
  exact (next_kept (adminIn_kept K (fun a6 h7 => by
  refine ite_kept ?_ ?_
  · exact (adminDone_kept K h7)
  · exact (adminDone_kept K h7)) h))

theorem freshPage_kept (K : Keeps P) {v0 v1 v2} (h : Kept P v2) :
    Kept P (Machine.freshPage v0 v1 v2) := by
  unfold Machine.freshPage
  split
  · exact h
  · extract_lets now8 s9 zsrc10
    have h11 : Kept P s9 := (pageChanged_kept K h)
    clear_value s9
    refine ite_kept ?_ ?_
    · exact h
    · exact (lit_kept h11 rfl rfl rfl rfl rfl rfl rfl rfl rfl)

theorem afterRead_kept (K : Keeps P) {v0 v1 v2 v3 v4 v5} (h : Kept P v5) :
    Kept P (Machine.afterRead v0 v1 v2 v3 v4 v5) := by
  unfold Machine.afterRead
  extract_lets s6 zsrc7 zsrc8
  have h9 : Kept P s6 := by
    unfold s6
    refine ite_kept ?_ ?_
    · exact h
    · exact (pageRead_kept K h)
  clear_value s6
  refine ite_kept ?_ ?_
  · exact (lit_kept h9 rfl rfl rfl rfl rfl rfl rfl rfl rfl)
  · refine ite_kept ?_ ?_
    · exact (lit_kept h9 rfl rfl rfl rfl rfl rfl rfl rfl rfl)
    · exact h9

theorem execGetLogPage_kept (K : Keeps P) {v0 v1 v2 v3 v4 v5 v6} (h : Kept P v6) :
    KeptOut P (Machine.execGetLogPage v0 v1 v2 v3 v4 v5 v6) := by
  unfold Machine.execGetLogPage
  exact (next_kept (adminIn_kept K (fun a7 h8 => by
  extract_lets s9
  have h10 : Kept P s9 := (freshPage_kept K h8)
  clear_value s9
  split
  · exact (adminDone_kept K h10)
  · exact (afterRead_kept K (adminDone_kept K h10))) h))

theorem execGetLogPageDumpClear_kept (K : Keeps P) {v0 v1 v2 v3 v4} (h : Kept P v4) :
    KeptOut P (Machine.execGetLogPageDumpClear v0 v1 v2 v3 v4) := by
  unfold Machine.execGetLogPageDumpClear
  exact (next_kept (adminIn_kept K (fun a5 h6 => by
  extract_lets s7
  have h8 : Kept P s7 := (freshPage_kept K h6)
  clear_value s7
  split
  · exact (adminDone_kept K h8)
  · exact (clearDump_kept K (adminDone_kept K h8))) h))

theorem putGrace_kept (K : Keeps P) {v0 v1} (h : Kept P v1) :
    Kept P (Machine.putGrace v0 v1) := by
  unfold Machine.putGrace
  extract_lets s2
  have h3 : Kept P s2 := (put_kept K h)
  clear_value s2
  refine ite_kept ?_ ?_
  · exact (graceEnds_kept K h3)
  · exact h3

theorem setFeature_kept (K : Keeps P) {v0 v1 v2 v3 v4 v5} (h : Kept P v5) :
    Kept P (Machine.setFeature v0 v1 v2 v3 v4 v5) := by
  unfold Machine.setFeature
  extract_lets bad6 good7 n8
  refine ite_kept ?_ ?_
  · try unfold bad6
    exact (adminDone_kept K h)
  · refine ite_kept ?_ ?_
    · try unfold bad6
      exact (adminDone_kept K h)
    · refine ite_kept ?_ ?_
      · refine ite_kept ?_ ?_
        · try unfold good7
          exact (adminDone_kept K h)
        · try unfold bad6
          exact (adminDone_kept K h)
      · refine ite_kept ?_ ?_
        · refine ite_kept ?_ ?_
          · try unfold bad6
            exact (adminDone_kept K h)
          · refine ite_kept ?_ ?_
            · try unfold bad6
              exact (adminDone_kept K h)
            · try unfold good7
              exact (adminDone_kept K (putFeature_kept K h))
        · refine ite_kept ?_ ?_
          · refine ite_kept ?_ ?_
            · try unfold good7
              exact (adminDone_kept K (applyTmt_kept K (putFeature_kept K h)))
            · try unfold bad6
              exact (adminDone_kept K h)
          · refine ite_kept ?_ ?_
            · try unfold good7
              exact (adminDone_kept K (put_kept K h))
            · refine ite_kept ?_ ?_
              · refine ite_kept ?_ ?_
                · try unfold bad6
                  exact (adminDone_kept K h)
                · try unfold good7
                  exact (adminDone_kept K (putAll_kept K h))
              · refine ite_kept ?_ ?_
                · refine ite_kept ?_ ?_
                  · try unfold bad6
                    exact (adminDone_kept K h)
                  · try unfold good7
                    exact (adminDone_kept K (putGrace_kept K h))
                · try unfold good7
                  exact (adminDone_kept K (putFeature_kept K h))

theorem execSetFeatures_kept (K : Keeps P) {v0 v1 v2 v3 v4 v5} (h : Kept P v5) :
    KeptOut P (Machine.execSetFeatures v0 v1 v2 v3 v4 v5) := by
  unfold Machine.execSetFeatures
  exact (next_kept (admin_kept K (fun a6 h7 => (setFeature_kept K h7)) h))

theorem execSetFeaturesStampReporting_kept (K : Keeps P) {v0 v1 v2 v3} (h : Kept P v3) :
    KeptOut P (Machine.execSetFeaturesStampReporting v0 v1 v2 v3) := by
  unfold Machine.execSetFeaturesStampReporting
  exact (next_kept (admin_kept K (fun a4 h5 => (setFeature_kept K h5)) h))

theorem execSetFeaturesPowerLoss_kept (K : Keeps P) {v0 v1 v2 v3 v4} (h : Kept P v4) :
    KeptOut P (Machine.execSetFeaturesPowerLoss v0 v1 v2 v3 v4) := by
  unfold Machine.execSetFeaturesPowerLoss
  exact (next_kept (admin_kept K (fun a5 h6 => (setFeature_kept K h6)) h))

theorem execSetFeaturesThermalGrace_kept (K : Keeps P) {v0 v1 v2 v3} (h : Kept P v3) :
    KeptOut P (Machine.execSetFeaturesThermalGrace v0 v1 v2 v3) := by
  unfold Machine.execSetFeaturesThermalGrace
  exact (next_kept (admin_kept K (fun a4 h5 => (setFeature_kept K h5)) h))

theorem execSetFeaturesRecallQuota_kept (K : Keeps P) {v0 v1 v2 v3} (h : Kept P v3) :
    KeptOut P (Machine.execSetFeaturesRecallQuota v0 v1 v2 v3) := by
  unfold Machine.execSetFeaturesRecallQuota
  exact (next_kept (admin_kept K (fun a4 h5 => (setFeature_kept K h5)) h))

theorem execSetFeaturesHctm_kept (K : Keeps P) {v0 v1 v2 v3 v4} (h : Kept P v4) :
    KeptOut P (Machine.execSetFeaturesHctm v0 v1 v2 v3 v4) := by
  unfold Machine.execSetFeaturesHctm
  exact (next_kept (admin_kept K (fun a5 h6 => (setFeature_kept K h6)) h))

theorem execGetFeatures_kept (K : Keeps P) {v0 v1 v2 v3 v4} (h : Kept P v4) :
    KeptOut P (Machine.execGetFeatures v0 v1 v2 v3 v4) := by
  unfold Machine.execGetFeatures
  exact (next_kept (adminSide_kept K (fun a5 h6 => by
  extract_lets f7
  refine ite_kept ?_ ?_
  · exact (adminDone_kept K h6)
  · exact (adminDone_kept K h6)) h))

theorem execAsynchronousEventRequest_kept (K : Keeps P) {v0 v1 v2} (h : Kept P v2) :
    KeptOut P (Machine.execAsynchronousEventRequest v0 v1 v2) := by
  unfold Machine.execAsynchronousEventRequest
  exact (next_kept (admin_kept K (fun a3 h4 => by
  split
  · exact (notifyFn_kept K (lit_kept h4 rfl rfl rfl rfl rfl rfl rfl rfl rfl))
  · extract_lets zsrc10
    refine ite_kept ?_ ?_
    · exact (adminDone_kept K h4)
    · exact (lit_kept h4 rfl rfl rfl rfl rfl rfl rfl rfl rfl)) h))

theorem createSpace_kept (K : Keeps P) {v0 v1 v2} (h : Kept P v2) :
    Kept P (Machine.createSpace v0 v1 v2) := by
  unfold Machine.createSpace
  extract_lets ready3 spaces4 zsrc5
  exact (writeDirectory_kept K (lit_kept h rfl rfl rfl rfl rfl rfl rfl rfl rfl))

theorem spaceChanged_kept (K : Keeps P) {v0 v1 v2} (h : Kept P v2) :
    Kept P (Machine.spaceChanged v0 v1 v2) := by
  unfold Machine.spaceChanged
  exact (forAll_kept K (fun a3 a4 h5 => (notifyFn_kept K (lit_kept h5 rfl rfl rfl rfl rfl rfl rfl rfl rfl))) h)

theorem deleteSpace_kept (K : Keeps P) {v0 v1} (h : Kept P v1) :
    Kept P (Machine.deleteSpace v0 v1) := by
  unfold Machine.deleteSpace
  extract_lets gs2 s3 zsrc4 s5
  have h6 : Kept P s3 := (forAll_kept K (fun a7 a8 h9 => (setWholeGrain_kept K h9)) h)
  clear_value s3
  have h10 : Kept P s5 := (lit_kept h6 rfl rfl rfl rfl rfl rfl rfl rfl rfl)
  clear_value s5
  exact (spaceChanged_kept K (refreshArbours_kept K (writeDirectory_kept K h10)))

theorem execNamespaceManagement_kept (K : Keeps P) {v0 v1 v2 v3 v4 v5} (h : Kept P v5) :
    KeptOut P (Machine.execNamespaceManagement v0 v1 v2 v3 v4 v5) := by
  unfold Machine.execNamespaceManagement
  exact (next_kept (admin_kept K (fun a6 h7 => by
  extract_lets g8
  refine ite_kept ?_ ?_
  · exact (adminDone_kept K h7)
  · refine ite_kept ?_ ?_
    · refine ite_kept ?_ ?_
      · exact (adminDone_kept K h7)
      · refine ite_kept ?_ ?_
        · exact (adminDone_kept K h7)
        · refine ite_kept ?_ ?_
          · exact (adminDone_kept K h7)
          · exact (adminDone_kept K (createSpace_kept K h7))
    · refine ite_kept ?_ ?_
      · exact (adminDone_kept K (foldl_kept (fun a9 a10 h11 => (deleteSpace_kept K h11)) h7))
      · split
        · exact (adminDone_kept K h7)
        · exact (adminDone_kept K (deleteSpace_kept K h7))) h))

theorem execNamespaceAttachment_kept (K : Keeps P) {v0 v1 v2 v3 v4 v5} (h : Kept P v5) :
    KeptOut P (Machine.execNamespaceAttachment v0 v1 v2 v3 v4 v5) := by
  unfold Machine.execNamespaceAttachment
  exact (next_kept (admin_kept K (fun a6 h7 => by
  extract_lets fns8 zsrc9
  refine ite_kept ?_ ?_
  · exact (adminDone_kept K h7)
  · split
    · exact (adminDone_kept K h7)
    · extract_lets l15 s16
      have h17 : Kept P s16 := (lit_kept h7 rfl rfl rfl rfl rfl rfl rfl rfl rfl)
      clear_value s16
      refine ite_kept ?_ ?_
      · exact (adminDone_kept K h7)
      · refine ite_kept ?_ ?_
        · exact (adminDone_kept K h7)
        · refine ite_kept ?_ ?_
          · exact (adminDone_kept K h7)
          · exact (adminDone_kept K (spaceChanged_kept K (writeDirectory_kept K h17)))) h))

theorem execDirectiveSend_kept (K : Keeps P) {v0 v1 v2 v3 v4 v5} (h : Kept P v5) :
    KeptOut P (Machine.execDirectiveSend v0 v1 v2 v3 v4 v5) := by
  unfold Machine.execDirectiveSend
  exact (next_kept (admin_kept K (fun a6 h7 => by
  extract_lets mine8 zsrc9
  split
  · exact (adminDone_kept K h7)
  · refine ite_kept ?_ ?_
    · exact (adminDone_kept K h7)
    · refine ite_kept ?_ ?_
      · refine ite_kept ?_ ?_
        · exact (adminDone_kept K h7)
        · exact (adminDone_kept K (lit_kept h7 rfl rfl rfl rfl rfl rfl rfl rfl rfl))
      · refine ite_kept ?_ ?_
        · exact (adminDone_kept K (lit_kept h7 rfl rfl rfl rfl rfl rfl rfl rfl rfl))
        · refine ite_kept ?_ ?_
          · exact (adminDone_kept K (lit_kept h7 rfl rfl rfl rfl rfl rfl rfl rfl rfl))
          · exact (adminDone_kept K h7)) h))

theorem execDirectiveReceive_kept (K : Keeps P) {v0 v1 v2 v3 v4} (h : Kept P v4) :
    KeptOut P (Machine.execDirectiveReceive v0 v1 v2 v3 v4) := by
  unfold Machine.execDirectiveReceive
  exact (next_kept (admin_kept K (fun a5 h6 => by
  extract_lets open7
  refine ite_kept ?_ ?_
  · exact (adminDone_kept K h6)
  · exact (adminDone_kept K h6)) h))

theorem execVirtualizationManagement_kept (K : Keeps P) {v0 v1 v2 v3 v4 v5 v6} (h : Kept P v6) :
    KeptOut P (Machine.execVirtualizationManagement v0 v1 v2 v3 v4 v5 v6) := by
  unfold Machine.execVirtualizationManagement
  exact (next_kept (admin_kept K (fun a7 h8 => by
  extract_lets f9 used10 zsrc11
  refine ite_kept ?_ ?_
  · exact (adminDone_kept K h8)
  · refine ite_kept ?_ ?_
    · exact (adminDone_kept K h8)
    · refine ite_kept ?_ ?_
      · exact (adminDone_kept K h8)
      · refine ite_kept ?_ ?_
        · exact (adminDone_kept K h8)
        · refine ite_kept ?_ ?_
          · exact (adminDone_kept K h8)
          · refine ite_kept ?_ ?_
            · exact (adminDone_kept K h8)
            · exact (adminDone_kept K (lit_kept h8 rfl rfl rfl rfl rfl rfl rfl rfl rfl))) h))

theorem execNvmeMiSend_kept (K : Keeps P) {v0 v1 v2} (h : Kept P v2) :
    KeptOut P (Machine.execNvmeMiSend v0 v1 v2) := by
  unfold Machine.execNvmeMiSend
  exact (next_kept (admin_kept K (fun a3 h4 => (adminDone_kept K (drawFree_kept K h4))) h))

theorem execNvmeMiReceive_kept (K : Keeps P) {v0 v1 v2 v3} (h : Kept P v3) :
    KeptOut P (Machine.execNvmeMiReceive v0 v1 v2 v3) := by
  unfold Machine.execNvmeMiReceive
  exact (next_kept (admin_kept K (fun a4 h5 => (adminDone_kept K (drawFree_kept K h5))) h))

theorem execGetLbaStatus_kept (K : Keeps P) {v0 v1 v2 v3 v4 v5 v6 v7} (h : Kept P v7) :
    KeptOut P (Machine.execGetLbaStatus v0 v1 v2 v3 v4 v5 v6 v7) := by
  unfold Machine.execGetLbaStatus
  exact (next_kept (admin_kept K (fun a8 h9 => by
  split
  · exact (adminDone_kept K h9)
  · extract_lets hi15 keys16
    refine ite_kept ?_ ?_
    · exact (adminDone_kept K h9)
    · refine ite_kept ?_ ?_
      · exact (adminDone_kept K h9)
      · exact (post_kept K h9)) h))

theorem execInventoryImport_kept (K : Keeps P) {v0 v1 v2 v3 v4 v5} (h : Kept P v5) :
    KeptOut P (Machine.execInventoryImport v0 v1 v2 v3 v4 v5) := by
  unfold Machine.execInventoryImport
  exact (next_kept (adminSide_kept K (fun a6 h7 => by
  split
  · exact (adminDone_kept K h7)
  · extract_lets zsrc13 s14
    have h15 : Kept P s14 := (forAll_kept K (fun a16 a17 h18 => (updDisc_kept K h18)) (lit_kept h7 rfl rfl rfl rfl rfl rfl rfl rfl rfl))
    clear_value s14
    refine ite_kept ?_ ?_
    · exact (adminDone_kept K h7)
    · exact (adminDone_kept K (refreshArbours_kept K (pageChanged_kept K h15)))) h))

theorem classify_kept (K : Keeps P) {v0 v1 v2 v3} (h : Kept P v3) :
    Kept P (Machine.classify v0 v1 v2 v3) := by
  unfold Machine.classify
  extract_lets known4
  exact (updDisc_kept K h)

theorem identified_kept (K : Keeps P) {d common s t} (h : Kept P s) (he : Machine.identified d common s = some t) : Kept P t := by
  unfold Machine.identified at he
  have hm : ∀ (o : Option Nat), (o.map fun mid => classify d mid common s) = some t → Kept P t := by
    intro o ho
    obtain ⟨_ | m⟩ := o
    · simp at ho
    · simp only [Option.map_some, Option.some.injEq] at ho
      exact ho ▸ classify_kept K h
  extract_lets x at he
  split at he
  · split at he
    · cases he; exact updDisc_kept K h
    · split at he
      · cases he; exact updDisc_kept K h
      · cases he
  · split at he
    · cases he; exact lit_kept h rfl rfl rfl rfl rfl rfl rfl rfl rfl
    · split at he
      · cases he; exact updDisc_kept K h
      · split at he
        · cases he
        · exact hm _ he

theorem execInventorySlotIdentify_kept (K : Keeps P) {d common s} (h : Kept P s) :
    KeptOut P (Machine.execInventorySlotIdentify d common s) := by
  unfold Machine.execInventorySlotIdentify
  refine iteO_kept (next_kept h) ?_
  split
  · exact next_kept h
  · rename_i s0 he
    have h0 : Kept P s0 := identified_kept K h he
    extract_lets z s1 s2
    have h1 : Kept P s1 := lit_kept h0 rfl rfl rfl rfl rfl rfl rfl rfl rfl
    clear_value s1
    have h2 : Kept P s2 := rbRetry_kept K (refreshArbours_kept K (writeDirectory_kept K h1))
    exact next_kept (ite_kept (notify_kept K h2) h2)

theorem execInventoryExport_kept (K : Keeps P) {v0 v1 v2 v3 v4 v5} (h : Kept P v5) :
    KeptOut P (Machine.execInventoryExport v0 v1 v2 v3 v4 v5) := by
  unfold Machine.execInventoryExport
  exact (next_kept (adminSide_kept K (fun a6 h7 => by
  split
  · exact (adminDone_kept K h7)
  · extract_lets free13 s14
    have h15 : Kept P s14 := (writeDirectory_kept K (forAll_kept K (fun a16 a17 h18 => (updDisc_kept K h18)) h7))
    clear_value s14
    split
    · exact (adminDone_kept K h15)
    · exact (adminDone_kept K h15)) h))

theorem sidebandAnswer_kept (K : Keeps P) {v0 v1 v2} (h : Kept P v2) :
    Kept P (Machine.sidebandAnswer v0 v1 v2) := by
  unfold Machine.sidebandAnswer
  exact (post_kept K (drawFree_kept K h))

theorem execSidebandRequest_kept (K : Keeps P) {v0 v1 v2} (h : Kept P v2) :
    KeptOut P (Machine.execSidebandRequest v0 v1 v2) := by
  unfold Machine.execSidebandRequest
  extract_lets zsrc3
  refine iteO_kept ?_ ?_
  · exact (next_kept (sidebandAnswer_kept K h))
  · refine iteO_kept ?_ ?_
    · exact (next_kept (sidebandAnswer_kept K h))
    · refine iteO_kept ?_ ?_
      · exact (next_kept (leaveDormant_kept K (lit_kept h rfl rfl rfl rfl rfl rfl rfl rfl rfl)))
      · refine iteO_kept ?_ ?_
        · exact (next_kept (lit_kept h rfl rfl rfl rfl rfl rfl rfl rfl rfl))
        · refine iteO_kept ?_ ?_
          · refine iteO_kept ?_ ?_
            · exact (next_kept (releaseFatal_kept K (sidebandAnswer_kept K h)))
            · exact (next_kept (adminDone_kept K h))
          · exact (next_kept (wakeParked_kept K (sidebandAnswer_kept K h)))

theorem failStart_kept (K : Keeps P) {v0} (h : Kept P v0) :
    Kept P (Machine.failStart v0) := by
  unfold Machine.failStart
  exact (updFw_kept K h)

theorem startClocks_kept (K : Keeps P) {v0} (h : Kept P v0) :
    Kept P (Machine.startClocks v0) := by
  unfold Machine.startClocks
  extract_lets pf1 p2 die3 locked4
  exact (putAll_kept K h)

theorem startLinks_kept (K : Keeps P) {v0} (h : Kept P v0) :
    Kept P (Machine.startLinks v0) := by
  unfold Machine.startLinks
  extract_lets s1 s2
  have h3 : Kept P s1 := (forAll_kept K (fun a4 a5 h6 => (setLink_kept K h6)) h)
  clear_value s1
  have h7 : Kept P s2 := (forAll_kept K (fun a8 a9 h10 => (startTraining_kept K h10)) h3)
  clear_value s2
  exact (forAll_kept K (fun a11 a12 h13 => (updCrs_kept K h13)) h7)

theorem startBuffer_kept (K : Keeps P) {x s} (h : Kept P s) : Kept P (Machine.startBuffer x s) := by
  unfold Machine.startBuffer
  extract_lets z s1 s2
  have h1 : Kept P s1 := putAll_kept K (K.clear _ h)
  clear_value s1
  have h2 : Kept P s2 := putAll_kept K h1
  clear_value s2
  exact ite_kept (put_kept K h2) h2

theorem startVault_kept (K : Keeps P) {v0 v1} (h : Kept P v1) :
    Kept P (Machine.startVault v0 v1) := by
  unfold Machine.startVault
  split
  · exact (putAll_kept K h)
  · exact (putB_kept K (putB_kept K (vaultRate_kept K h)))

theorem startHost_kept (K : Keeps P) {v0 v1} (h : Kept P v1) :
    Kept P (Machine.startHost v0 v1) := by
  unfold Machine.startHost
  extract_lets used2
  exact (foldl_kept (fun a3 a4 h5 => (linkChange_kept K (putAll_kept K h5))) h)

theorem answerSideband_kept (K : Keeps P) {v0} (h : Kept P v0) :
    Kept P (Machine.answerSideband v0) := by
  unfold Machine.answerSideband
  split
  · exact h
  · exact (sidebandAnswer_kept K (lit_kept h rfl rfl rfl rfl rfl rfl rfl rfl rfl))

theorem startDone_kept (K : Keeps P) {v0} (h : Kept P v0) :
    Kept P (Machine.startDone v0) := by
  unfold Machine.startDone
  extract_lets zsrc1 s2
  have h3 : Kept P s2 := (forAll_kept K (fun a4 a5 h6 => (put_kept K h6)) (lit_kept h rfl rfl rfl rfl rfl rfl rfl rfl rfl))
  clear_value s2
  exact (answerSideband_kept K (raise_kept K (putAll_kept K h3)))

theorem startUnits_kept (K : Keeps P) {v0 v1} (h : Kept P v1) :
    Kept P (Machine.startUnits v0 v1) := by
  unfold Machine.startUnits
  extract_lets refused2 bad3 s4 s5 zsrc6 s7
  have h8 : Kept P s4 := (startLinks_kept K (startClocks_kept K h))
  clear_value s4
  have h9 : Kept P s5 := (forAll_kept K (fun a10 a11 h12 => (enginesReset_kept K h12)) (startFirmware_kept K h8))
  clear_value s5
  have h13 : Kept P s7 := (startVault_kept K (startBuffer_kept K (askCal_kept K (lit_kept h9 rfl rfl rfl rfl rfl rfl rfl rfl rfl))))
  clear_value s7
  refine ite_kept ?_ ?_
  · exact (failStart_kept K (put_kept K (putAll_kept K h8)))
  · exact (startDone_kept K (startHost_kept K (recoverVault_kept K h13)))

theorem execStartUp_kept (K : Keeps P) {v0 v1} (h : Kept P v1) :
    KeptOut P (Machine.execStartUp v0 v1) := by
  unfold Machine.execStartUp
  extract_lets zsrc2 s3 s4 s5 s6
  have h7 : Kept P s3 := (loadFuses_kept K (lit_kept h rfl rfl rfl rfl rfl rfl rfl rfl rfl))
  clear_value s3
  have h8 : Kept P s4 := (putB_kept K h7)
  clear_value s4
  have h9 : Kept P s5 := by
    unfold s5
    refine ite_kept ?_ ?_
    · exact (raise_kept K (put_kept K h8))
    · exact h8
  clear_value s5
  have h10 : Kept P s6 := (selectTab_kept K (put_kept K h9))
  clear_value s6
  refine iteO_kept ?_ ?_
  · exact (next_kept h)
  · refine iteO_kept ?_ ?_
    · exact (next_kept (enterFatal_kept K (raise_kept K h9)))
    · refine iteO_kept ?_ ?_
      · exact (next_kept (startDone_kept K (startHost_kept K (startClocks_kept K (startFirmware_kept K (putAll_kept K h10))))))
      · exact (next_kept (startUnits_kept K h10))

theorem recordError_kept (K : Keeps P) {v0 v1 v2 v3 v4} (h : Kept P v4) :
    Kept P (Machine.recordError v0 v1 v2 v3 v4) := by
  unfold Machine.recordError
  refine ite_kept ?_ ?_
  · exact (put_kept K h)
  · exact (edge_kept K (putAll_kept K h))

theorem clearError_kept (K : Keeps P) {v0} (h : Kept P v0) :
    Kept P (Machine.clearError v0) := by
  unfold Machine.clearError
  exact (putAll_kept K h)

theorem dropHalves_kept (_K : Keeps P) {v0 v1 v2} (h : Kept P v2) :
    Kept P (Machine.dropHalves v0 v1 v2) := by
  unfold Machine.dropHalves
  exact (lit_kept h rfl rfl rfl rfl rfl rfl rfl rfl rfl)

theorem readOne_kept (K : Keeps P) {v0 v1 v2} (h : Kept P v2) :
    Kept P (Machine.readOne v0 v1 v2).2 := by
  unfold Machine.readOne
  extract_lets e3
  split
  · exact (recordError_kept K h)
  · split
    · exact h
    · split
      · exact (lit_kept h rfl rfl rfl rfl rfl rfl rfl rfl rfl)
      · split
        · exact h
        · exact (lit_kept h rfl rfl rfl rfl rfl rfl rfl rfl rfl)

theorem readWindow_kept (K : Keeps P) {v0 v1 v2 v3} (h : Kept P v3) :
    Kept P (Machine.readWindow v0 v1 v2 v3).2 := by
  unfold Machine.readWindow
  extract_lets e4 lo5 hi6
  have h7 : Kept P lo5.2 := (readOne_kept K h)
  have h8 : Kept P hi6.2 := (readOne_kept K h7)
  split
  · exact (recordError_kept K h)
  · split
    · exact (readOne_kept K h)
    · split
      · split
        · exact (recordError_kept K h)
        · exact (dropHalves_kept K h)
      · exact h8

theorem windowRead_kept (K : Keeps P) {v0 v1 v2 v3} (h : Kept P v3) :
    Kept P (Machine.windowRead v0 v1 v2 v3) := by
  unfold Machine.windowRead
  extract_lets r4 zsrc5
  have h6 : Kept P r4.2 := (readWindow_kept K h)
  have h7 : Kept P zsrc5 := h6
  clear_value zsrc5
  exact (lit_kept h7 rfl rfl rfl rfl rfl rfl rfl rfl rfl)

theorem writePlace_kept (K : Keeps P) {v0 v1 v2 v3} (h : Kept P v3) :
    Kept P (Machine.writePlace v0 v1 v2 v3) := by
  unfold Machine.writePlace
  split
  · extract_lets x6
    exact (put_kept K h)
  · extract_lets x9
    exact (put_kept K h)
  · extract_lets x12
    exact (put_kept K h)
  · exact (put_kept K h)
  · exact h
  · exact h
  · exact h

theorem afterWrite_kept (K : Keeps P) {v0 v1 v2 v3 v4} (h : Kept P v4) :
    Kept P (Machine.afterWrite v0 v1 v2 v3 v4) := by
  unfold Machine.afterWrite
  extract_lets n5 h6 s7
  have h8 : Kept P s7 := by
    unfold s7
    refine ite_kept ?_ ?_
    · refine ite_kept ?_ ?_
      · exact (judgeSpeed_kept K h)
      · exact (permits_kept K h)
    · refine ite_kept ?_ ?_
      · exact h
      · refine ite_kept ?_ ?_
        · exact (putCells_kept K h)
        · refine ite_kept ?_ ?_
          · exact (cellEvt_kept K h)
          · exact h
  clear_value s7
  exact (forAll_kept K (fun a9 a10 h11 => (edge_kept K h11)) h8)

theorem applyWord_kept (K : Keeps P) {v0 v1 v2} (h : Kept P v2) :
    Kept P (Machine.applyWord v0 v1 v2) := by
  unfold Machine.applyWord
  extract_lets off3
  split
  · exact h
  · exact (afterWrite_kept K (foldl_kept (fun a11 a12 h13 => (writePlace_kept K h13)) h))

theorem applyWide_kept (K : Keeps P) {v0 v1 v2 v3} (h : Kept P v3) :
    Kept P (Machine.applyWide v0 v1 v2 v3) := by
  unfold Machine.applyWide
  extract_lets d4
  refine ite_kept ?_ ?_
  · refine ite_kept ?_ ?_
    · exact (clearError_kept K h)
    · exact h
  · refine ite_kept ?_ ?_
    · exact (stateWrite_kept K h)
    · refine ite_kept ?_ ?_
      · exact (calValueWrite_kept K h)
      · refine ite_kept ?_ ?_
        · exact (calValueWrite_kept K h)
        · refine ite_kept ?_ ?_
          · exact (calValueWrite_kept K h)
          · exact (applyWord_kept K (applyWord_kept K h))

theorem writeOne_kept (K : Keeps P) {v0 v1 v2 v3} (h : Kept P v3) :
    Kept P (Machine.writeOne v0 v1 v2 v3) := by
  unfold Machine.writeOne
  extract_lets e4
  refine ite_kept ?_ ?_
  · exact (recordError_kept K h)
  · refine ite_kept ?_ ?_
    · exact (applyWord_kept K h)
    · refine ite_kept ?_ ?_
      · exact (lit_kept h rfl rfl rfl rfl rfl rfl rfl rfl rfl)
      · exact (applyWide_kept K (lit_kept h rfl rfl rfl rfl rfl rfl rfl rfl rfl))

theorem windowWrite_kept (K : Keeps P) {v0 v1 v2 v3 v4} (h : Kept P v4) :
    Kept P (Machine.windowWrite v0 v1 v2 v3 v4) := by
  unfold Machine.windowWrite
  extract_lets e5
  refine ite_kept ?_ ?_
  · exact (recordError_kept K h)
  · refine ite_kept ?_ ?_
    · exact (writeOne_kept K h)
    · refine ite_kept ?_ ?_
      · refine ite_kept ?_ ?_
        · exact (recordError_kept K h)
        · exact (applyWide_kept K (dropHalves_kept K h))
      · exact (writeOne_kept K (writeOne_kept K h))

theorem turnedAway_kept (_K : Keeps P) {v0 v1} (h : Kept P v1) :
    Kept P (Machine.turnedAway v0 v1) := by
  unfold Machine.turnedAway
  refine ite_kept ?_ ?_
  · exact h
  · exact (lit_kept h rfl rfl rfl rfl rfl rfl rfl rfl rfl)

theorem execRegisterWrite_kept (K : Keeps P) {v0 v1 v2 v3 v4} (h : Kept P v4) :
    KeptOut P (Machine.execRegisterWrite v0 v1 v2 v3 v4) := by
  unfold Machine.execRegisterWrite
  refine iteO_kept ?_ ?_
  · exact fault_kept
  · refine iteO_kept ?_ ?_
    · exact (next_kept h)
    · exact (next_kept (windowWrite_kept K h))

theorem execAccessError_kept (K : Keeps P) {v0 v1 v2 v3 v4 v5} (h : Kept P v5) :
    KeptOut P (Machine.execAccessError v0 v1 v2 v3 v4 v5) := by
  unfold Machine.execAccessError
  refine iteO_kept ?_ ?_
  · exact fault_kept
  · refine iteO_kept ?_ ?_
    · exact (next_kept (turnedAway_kept K h))
    · refine iteO_kept ?_ ?_
      · exact (next_kept h)
      · refine next_kept ?_
        refine ite_kept ?_ ?_
        · exact (windowWrite_kept K h)
        · exact (windowRead_kept K h)

theorem execLowHalfRead_kept (K : Keeps P) {v0 v1 v2} (h : Kept P v2) :
    KeptOut P (Machine.execLowHalfRead v0 v1 v2) := by
  unfold Machine.execLowHalfRead
  refine iteO_kept ?_ ?_
  · exact fault_kept
  · refine iteO_kept ?_ ?_
    · exact (next_kept (turnedAway_kept K h))
    · exact (next_kept (windowRead_kept K h))

theorem execHighHalfRead_kept (K : Keeps P) {v0 v1 v2} (h : Kept P v2) :
    KeptOut P (Machine.execHighHalfRead v0 v1 v2) := by
  unfold Machine.execHighHalfRead
  refine iteO_kept ?_ ?_
  · exact fault_kept
  · refine iteO_kept ?_ ?_
    · exact (next_kept (turnedAway_kept K h))
    · exact (next_kept (windowRead_kept K h))

theorem execLowHalfWrite_kept (K : Keeps P) {v0 v1 v2 v3} (h : Kept P v3) :
    KeptOut P (Machine.execLowHalfWrite v0 v1 v2 v3) := by
  unfold Machine.execLowHalfWrite
  refine iteO_kept ?_ ?_
  · exact fault_kept
  · refine iteO_kept ?_ ?_
    · exact (next_kept h)
    · exact (next_kept (windowWrite_kept K h))

theorem execHighHalfWrite_kept (K : Keeps P) {v0 v1 v2 v3} (h : Kept P v3) :
    KeptOut P (Machine.execHighHalfWrite v0 v1 v2 v3) := by
  unfold Machine.execHighHalfWrite
  refine iteO_kept ?_ ?_
  · exact fault_kept
  · refine iteO_kept ?_ ?_
    · exact (next_kept h)
    · exact (next_kept (windowWrite_kept K h))

theorem execFull64BitAccess_kept (K : Keeps P) {v0 v1 v2 v3 v4} (h : Kept P v4) :
    KeptOut P (Machine.execFull64BitAccess v0 v1 v2 v3 v4) := by
  unfold Machine.execFull64BitAccess
  refine iteO_kept ?_ ?_
  · exact fault_kept
  · refine iteO_kept ?_ ?_
    · exact (next_kept (turnedAway_kept K h))
    · refine next_kept ?_
      refine ite_kept ?_ ?_
      · exact (windowWrite_kept K h)
      · exact (windowRead_kept K h)

theorem execDebugPortWindowAccess_kept (K : Keeps P) {v0 v1 v2 v3 v4} (h : Kept P v4) :
    KeptOut P (Machine.execDebugPortWindowAccess v0 v1 v2 v3 v4) := by
  unfold Machine.execDebugPortWindowAccess
  refine iteO_kept ?_ ?_
  · exact (next_kept (turnedAway_kept K h))
  · refine iteO_kept ?_ ?_
    · exact fault_kept
    · refine next_kept ?_
      refine ite_kept ?_ ?_
      · exact (windowWrite_kept K h)
      · exact (windowRead_kept K h)

theorem execAccErrClear_kept (K : Keeps P) {v0} (h : Kept P v0) :
    KeptOut P (Machine.execAccErrClear v0) := by
  unfold Machine.execAccErrClear
  exact (next_kept (clearError_kept K h))

theorem execRwbBoundary_kept (K : Keeps P) {v0 v1 v2} (h : Kept P v2) :
    KeptOut P (Machine.execRwbBoundary v0 v1 v2) := by
  unfold Machine.execRwbBoundary
  refine iteO_kept ?_ ?_
  · exact (next_kept h)
  · exact (next_kept (takeCal_kept K (takeForces_kept K h)))

theorem treeEnd_kept (_K : Keeps P) {v0 v1 v2} (h : Kept P v2) :
    Kept P (Machine.treeEnd v0 v1 v2) := by
  unfold Machine.treeEnd
  exact (lit_kept h rfl rfl rfl rfl rfl rfl rfl rfl rfl)

theorem treeDeliver_kept (K : Keeps P) {v0 v1} (h : Kept P v1) :
    Kept P (Machine.treeDeliver v0 v1) := by
  unfold Machine.treeDeliver
  refine treeEnd_kept K ?_
  refine ite_kept ?_ ?_
  · exact (switchEpoch_kept K h)
  · exact h

theorem treeRun_kept (K : Keeps P) {kept l s} (h : Kept P s) : Kept P (Machine.treeRun kept l s) := by
  induction l generalizing kept s with
  | nil => exact lit_kept h rfl rfl rfl rfl rfl rfl rfl rfl rfl
  | cons a l ih =>
    unfold Machine.treeRun
    exact ite_kept (ih h) (ih (treeDeliver_kept K h))

theorem treeIssue_kept (K : Keeps P) {v0 v1 v2} (h : Kept P v2) :
    Kept P (Machine.treeIssue v0 v1 v2) := by
  unfold Machine.treeIssue
  refine ite_kept ?_ ?_
  · exact (treeRun_kept K h)
  · exact h

theorem execBarrier_kept (K : Keeps P) {v0 v1} (h : Kept P v1) :
    KeptOut P (Machine.execBarrier v0 v1) := by
  unfold Machine.execBarrier
  exact (next_kept (treeIssue_kept K h))

theorem execBarrierComplete_kept (K : Keeps P) {v0 v1} (h : Kept P v1) :
    KeptOut P (Machine.execBarrierComplete v0 v1) := by
  unfold Machine.execBarrierComplete
  split
  · exact (next_kept h)
  · refine iteO_kept ?_ ?_
    · exact (next_kept (treeRun_kept K (treeEnd_kept K h)))
    · exact (next_kept h)

theorem execBroadcast_kept (K : Keeps P) {v0 v1} (h : Kept P v1) :
    KeptOut P (Machine.execBroadcast v0 v1) := by
  unfold Machine.execBroadcast
  exact (next_kept (treeIssue_kept K h))

theorem execSnapshotEpochSwitch_kept (K : Keeps P) {v0 v1} (h : Kept P v1) :
    KeptOut P (Machine.execSnapshotEpochSwitch v0 v1) := by
  unfold Machine.execSnapshotEpochSwitch
  exact (next_kept (treeIssue_kept K h))

theorem resetHead_kept (K : Keeps P) {v0 v1} (h : Kept P v1) :
    Kept P (Machine.resetHead v0 v1) := by
  unfold Machine.resetHead
  extract_lets lo2 q3 gone4 drop5 s6
  have h7 : Kept P s6 := (updPool_kept K (updPool_kept K h))
  clear_value s6
  exact (poolDepth_kept K (poolDepth_kept K (enginesReset_kept K (updHead_kept K (resetWindow_kept K h7)))))

theorem resetBay_kept (K : Keeps P) {v0 v1} (h : Kept P v1) :
    Kept P (Machine.resetBay v0 v1) := by
  unfold Machine.resetBay
  extract_lets lo2 m3 at4 zsrc5 s6
  have h7 : Kept P s6 := (resetWindow_kept K (lit_kept h rfl rfl rfl rfl rfl rfl rfl rfl rfl))
  clear_value s6
  exact (resetHead_kept K (resetHead_kept K h7))

theorem resetCarousel_kept (K : Keeps P) {v0 v1} (h : Kept P v1) :
    Kept P (Machine.resetCarousel v0 v1) := by
  unfold Machine.resetCarousel
  extract_lets lo2
  exact (resetWindow_kept K (lit_kept h rfl rfl rfl rfl rfl rfl rfl rfl rfl))

theorem subtreeReset_kept (K : Keeps P) {v0 v1} (h : Kept P v1) :
    Kept P (Machine.subtreeReset v0 v1) := by
  unfold Machine.subtreeReset
  extract_lets s2 hit3 s4
  have h5 : Kept P s2 := (forAll_kept K (fun a6 a7 h8 => (resetCarousel_kept K h8)) (forAll_kept K (fun a9 a10 h11 => (resetBay_kept K h11)) h))
  clear_value s2
  have h12 : Kept P s4 := (foldl_kept (fun a13 a14 h15 => (treeEnd_kept K h15)) h5)
  clear_value s4
  exact (put_kept K (treeRun_kept K h12))

theorem execSubtreeReset_kept (K : Keeps P) {v0 v1} (h : Kept P v1) :
    KeptOut P (Machine.execSubtreeReset v0 v1) := by
  unfold Machine.execSubtreeReset
  exact (next_kept (when_kept K (fun a2 h3 => (subtreeReset_kept K h3)) h))

theorem parkSubtree_kept (K : Keeps P) {v0 v1} (h : Kept P v1) :
    Kept P (Machine.parkSubtree v0 v1) := by
  unfold Machine.parkSubtree
  extract_lets s2
  have h3 : Kept P s2 := (forAll_kept K (fun a4 a5 h6 => (stepperOff_kept K (stopSpindle_kept K (forAll_kept K (fun a7 a8 h9 => (retractHead_kept K h9)) h6)))) h)
  clear_value s2
  exact (forAll_kept K (fun a10 a11 h12 => (carouselOff_kept K h12)) h3)

theorem execSubtreeResetMechanical_kept (K : Keeps P) {v0 v1} (h : Kept P v1) :
    KeptOut P (Machine.execSubtreeResetMechanical v0 v1) := by
  unfold Machine.execSubtreeResetMechanical
  exact (next_kept (when_kept K (fun a2 h3 => (subtreeReset_kept K (parkSubtree_kept K h3))) h))

end Sys2Proof.Laws
end

