-- ==== Sys2Proof/Laws/KeptExec.lean ====
section
/-! SUPPORT. What every command and every step keeps. -/

namespace Sys2Proof.Laws

open Sys2Proof.Machine

variable {P : Store → Prop}

/-- A property that the elementary writes keep is kept by every command. -/
theorem exec_kept (K : Keeps P) {c : Instr} {s : State} (h : Kept P s) : KeptOut P (exec c s) := by
  cases c
  · exact execRegisterWrite_kept K h
  · exact execAccessError_kept K h
  · exact execLowHalfRead_kept K h
  · exact execHighHalfRead_kept K h
  · exact execLowHalfWrite_kept K h
  · exact execHighHalfWrite_kept K h
  · exact execFull64BitAccess_kept K h
  · exact execDebugPortWindowAccess_kept K h
  · exact execAccErrClear_kept K h
  · exact execRwbBoundary_kept K h
  · exact execBarrier_kept K h
  · exact execBarrierComplete_kept K h
  · exact execBroadcast_kept K h
  · exact execSnapshotEpochSwitch_kept K h
  · exact execSubtreeReset_kept K h
  · exact execSubtreeResetMechanical_kept K h
  · exact execServoTick_kept K h
  · exact execUpstreamSuperframe_kept K h
  · exact execMarkerLoss_kept K h
  · exact execServoBlock_kept K h
  · exact execServoMiss_kept K h
  · exact execSampleCodeword_kept K h
  · exact execMessageCodeword_kept K h
  · exact execAck_kept K h
  · exact execIdent_kept K h
  · exact execEvent_kept K h
  · exact execPong_kept K h
  · exact execFirmwareMessage_kept K h
  · exact execUnknownMessage_kept K h
  · exact execMessageRetransmit_kept K h
  · exact execMsgFail_kept K h
  · exact execLaneFault_kept K h
  · exact execLaneMapSwitch_kept K h
  · exact execHlEnable_kept K h
  · exact execHlTrain_kept K h
  · exact execLaserPermit_kept K h
  · exact execHlClrCnt_kept K h
  · exact execDegrGroup_kept K h
  · exact execHlAdcWrite_kept K h
  · exact execPrbsSeen_kept K h
  · exact execLanesQualified_kept K h
  · exact execAlignLocked_kept K h
  · exact execIdentConfigInForce_kept K h
  · exact execTrainingTimeout_kept K h
  · exact execMboxSend_kept K h
  · exact execMboxRxClear_kept K h
  · exact execMboxStall_kept K h
  · exact execPwmPeriod_kept K h
  · exact execBayHeader_kept K h
  · exact execBaySample_kept K h
  · exact execBayIdent_kept K h
  · exact execBayLinkUp_kept K h
  · exact execBayLinkDown_kept K h
  · exact execBayTrainingRestart_kept K h
  · exact execBlEnable_kept K h
  · exact execBlRetrain_kept K h
  · exact execBlClrCnt_kept K h
  · exact execComparatorTrip_kept K h
  · exact execOvercurrent_kept K h
  · exact execInputEdge_kept K h
  · exact execAddressUnit_kept K h
  · exact execWpllAcquire_kept K h
  · exact execWpllLock_kept K h
  · exact execWpllHold_kept K h
  · exact execWpllHoldReturn_kept K h
  · exact execWpllLost_kept K h
  · exact execSeam_kept K h
  · exact execSlotOpen_kept K h
  · exact execSlotBlank_kept K h
  · exact execSmWindowClose_kept K h
  · exact execResyncMark_kept K h
  · exact execPostambleEnd_kept K h
  · exact execFretCrossingAdcCfg_kept K h
  · exact execAdcCfgInForce_kept K h
  · exact execChEnable_kept K h
  · exact execChReadEn_kept K h
  · exact execChClrCnt_kept K h
  · exact execCodewordDetect_kept K h
  · exact execDecodeAttemptStart_kept K h
  · exact execDecodeAttemptEnd_kept K h
  · exact execEngineFault_kept K h
  · exact execPoolFenceWrite_kept K h
  · exact execLadderStart_kept K h
  · exact execRetryRevolution_kept K h
  · exact execDetClrCnt_kept K h
  · exact execExtentRequest_kept K h
  · exact execCalibrationPassEnd_kept K h
  · exact execExtentBandsWritten_kept K h
  · exact execVerifyDone_kept K h
  · exact execSpareWriteRevolution_kept K h
  · exact execSpareVerifyDone_kept K h
  · exact execGateClosure_kept K h
  · exact execGateReopen_kept K h
  · exact execWriteHalted_kept K h
  · exact execUnderrun_kept K h
  · exact execCalForce_kept K h
  · exact execWrpClrCnt_kept K h
  · exact execDefectHold_kept K h
  · exact execDefectHoldEnd_kept K h
  · exact execDefectLong_kept K h
  · exact execFocusLost_kept K h
  · exact execOfftrackEpisode_kept K h
  · exact execOfftrackEpisodeEnd_kept K h
  · exact execMissLimit_kept K h
  · exact execSeek_kept K h
  · exact execLayerJumpFocusClose_kept K h
  · exact execSeekTargetCrossing_kept K h
  · exact execSeekFail_kept K h
  · exact execHoldBand_kept K h
  · exact execSeamJump_kept K h
  · exact execEnter_kept K h
  · exact execSvFollow_kept K h
  · exact execPullin_kept K h
  · exact execFocusCapture_kept K h
  · exact execPullTimeout_kept K h
  · exact execTrackingCapture_kept K h
  · exact execRetract_kept K h
  · exact execRetractComplete_kept K h
  · exact execSvCmdErr_kept K h
  · exact execLensRange_kept K h
  · exact execSvEnable_kept K h
  · exact execSvClrCnt_kept K h
  · exact execCellBoundary_kept K h
  · exact execCellEvaluate_kept K h
  · exact execCellMiss_kept K h
  · exact execCoefficientWrite_kept K h
  · exact execStateWrite_kept K h
  · exact execCapoSet_kept K h
  · exact execCapoClr_kept K h
  · exact execClrState_kept K h
  · exact execCellClrCnt_kept K h
  · exact execCellEnable_kept K h
  · exact execCellConfigWrite_kept K h
  · exact execCellSrcWrite_kept K h
  · exact execTileFault_kept K h
  · exact execTileReset_kept K h
  · exact execTileSelfTestPass_kept K h
  · exact execLeClrCnt_kept K h
  · exact execObserverLoss_kept K h
  · exact execRecapture_kept K h
  · exact execConfirmEnd_kept K h
  · exact execCatchFail_kept K h
  · exact execCoastEnd_kept K h
  · exact execBrakeEnd_kept K h
  · exact execAlignEnd_kept K h
  · exact execSpindleHandover_kept K h
  · exact execRampFail_kept K h
  · exact execSpeedLock_kept K h
  · exact execStopDecelEnd_kept K h
  · exact execSetSpeed_kept K h
  · exact execSpindleStop_kept K h
  · exact execSpindleCoast_kept K h
  · exact execMotClearFault_kept K h
  · exact execMotCmdRefused_kept K h
  · exact execMotEnable_kept K h
  · exact execMotClrCnt_kept K h
  · exact execChopperFault_kept K h
  · exact execChopFaultClr_kept K h
  · exact execOvClr_kept K h
  · exact execCarouselEnable_kept K h
  · exact execCarouselAlignDone_kept K h
  · exact execCarouselMove_kept K h
  · exact execCarouselStop_kept K h
  · exact execCarouselHome_kept K h
  · exact execCarouselRelease_kept K h
  · exact execCarouselCmdRefused_kept K h
  · exact execHomeEdge_kept K h
  · exact execHomeFail_kept K h
  · exact execMoveDone_kept K h
  · exact execFollowErr_kept K h
  · exact execReversalStart_kept K h
  · exact execInterlock_kept K h
  · exact execInterlockClear_kept K h
  · exact execCmotClrCnt_kept K h
  · exact execStepInstant_kept K h
  · exact execOffTimeEnd_kept K h
  · exact execFastDecayEnd_kept K h
  · exact execTOnMaxExpiry_kept K h
  · exact execHoldCurrent_kept K h
  · exact execAxisMove_kept K h
  · exact execAxisStop_kept K h
  · exact execAxisHome_kept K h
  · exact execAxisFollow_kept K h
  · exact execAxisRelease_kept K h
  · exact execAxisClearFault_kept K h
  · exact execAxisCmdRefused_kept K h
  · exact execAxisEnable_kept K h
  · exact execSoftLimitWrite_kept K h
  · exact execAccDecWrite_kept K h
  · exact execVmaxWrite_kept K h
  · exact execMovClrCnt_kept K h
  · exact execInputDebounced_kept K h
  · exact execChatter_kept K h
  · exact execChatterEnd_kept K h
  · exact execStuckInput_kept K h
  · exact execStall_kept K h
  · exact execHomingFail_kept K h
  · exact execMount_kept K h
  · exact execMountPhaseEnd_kept K h
  · exact execDismount_kept K h
  · exact execMountHoldExpiry_kept K h
  · exact execRemapTableBuild_kept K h
  · exact execDescriptorGeneration_kept K h
  · exact execSetFormation_kept K h
  · exact execRowSeal_kept K h
  · exact execWriteSessionDue_kept K h
  · exact execWriteSessionEnd_kept K h
  · exact execMapCheckpoint_kept K h
  · exact execCheckpointWritten_kept K h
  · exact execDrainCreditGrant_kept K h
  · exact execConsolidationStart_kept K h
  · exact execSetRetire_kept K h
  · exact execArbEnable_kept K h
  · exact execArbClrCnt_kept K h
  · exact execArbourDrain_kept K h
  · exact execArbourOffline_kept K h
  · exact execReconstruction_kept K h
  · exact execMemberFailed_kept K h
  · exact execRebuildSlotGroup_kept K h
  · exact execRebuildMemberDone_kept K h
  · exact execReshapeCursorAdvance_kept K h
  · exact execReshapeDone_kept K h
  · exact execFailMember_kept K h
  · exact execReshape_kept K h
  · exact execCancelReshape_kept K h
  · exact execParCmdRefused_kept K h
  · exact execParEnable_kept K h
  · exact execParClrCnt_kept K h
  · exact execBufferRead_kept K h
  · exact execBufferWrite_kept K h
  · exact execChannelFault_kept K h
  · exact execChannelOffline_kept K h
  · exact execChannelRetrain_kept K h
  · exact execResyncDone_kept K h
  · exact execScrubRead_kept K h
  · exact execClearDone_kept K h
  · exact execRelease_kept K h
  · exact execBufCmdRefused_kept K h
  · exact execWriteRaw_kept K h
  · exact execReadRaw_kept K h
  · exact execDiagRead_kept K h
  · exact execDiagReserved_kept K h
  · exact execBufClrCnt_kept K h
  · exact execMapCacheAccess_kept K h
  · exact execMapCacheFill_kept K h
  · exact execMapCacheEnable_kept K h
  · exact execMapCacheDisable_kept K h
  · exact execDrainDone_kept K h
  · exact execMaintClean_kept K h
  · exact execMaintInvalidate_kept K h
  · exact execMaintCleanAll_kept K h
  · exact execMaintReserved_kept K h
  · exact execMaintDone_kept K h
  · exact execSramError_kept K h
  · exact execMapClrCnt_kept K h
  · exact execSubmissionDoorbell_kept K h
  · exact execCommandFetch_kept K h
  · exact execSubmissionEntryArrival_kept K h
  · exact execRead_kept K h
  · exact execReadResolve_kept K h
  · exact execReadTransferDone_kept K h
  · exact execWrite_kept K h
  · exact execWriteDataReceived_kept K h
  · exact execWriteAdmission_kept K h
  · exact execWriteZeroes_kept K h
  · exact execDatasetManagement_kept K h
  · exact execFlush_kept K h
  · exact execFlushComplete_kept K h
  · exact execVerify_kept K h
  · exact execRecall_kept K h
  · exact execStagedBlockRelease_kept K h
  · exact execInvalidOpcode_kept K h
  · exact execDataTransferError_kept K h
  · exact execCreateIoSq_kept K h
  · exact execCreateIoCq_kept K h
  · exact execDeleteIoSq_kept K h
  · exact execDeleteIoCq_kept K h
  · exact execIdentify_kept K h
  · exact execGetLogPage_kept K h
  · exact execGetLogPageDumpClear_kept K h
  · exact execAbort_kept K h
  · exact execSetFeatures_kept K h
  · exact execSetFeaturesStampReporting_kept K h
  · exact execSetFeaturesPowerLoss_kept K h
  · exact execSetFeaturesThermalGrace_kept K h
  · exact execSetFeaturesRecallQuota_kept K h
  · exact execSetFeaturesHctm_kept K h
  · exact execGetFeatures_kept K h
  · exact execAsynchronousEventRequest_kept K h
  · exact execNamespaceManagement_kept K h
  · exact execNamespaceAttachment_kept K h
  · exact execDirectiveSend_kept K h
  · exact execDirectiveReceive_kept K h
  · exact execVirtualizationManagement_kept K h
  · exact execNvmeMiSend_kept K h
  · exact execNvmeMiReceive_kept K h
  · exact execGetLbaStatus_kept K h
  · exact execTablatureDownload_kept K h
  · exact execTablatureCommitValidate_kept K h
  · exact execTablatureCommitWrite_kept K h
  · exact execTablatureSessionTimeout_kept K h
  · exact execTabSessionAbort_kept K h
  · exact execInventoryImport_kept K h
  · exact execInventorySlotIdentify_kept K h
  · exact execInventoryExport_kept K h
  · exact execCalibrateFull_kept K h
  · exact execCalibrateExpanders_kept K h
  · exact execCalibrateRestore_kept K h
  · exact execCalibrateRefused_kept K h
  · exact execFirmwareImageDownload_kept K h
  · exact execFirmwareCommitWrite_kept K h
  · exact execFirmwareCommitArm_kept K h
  · exact execFirmwareCommitArmWritten_kept K h
  · exact execFirmwareCommitActivate_kept K h
  · exact execFwSessionTimeout_kept K h
  · exact execFwuSessionAbort_kept K h
  · exact execActivationStep_kept K h
  · exact execProbationEnd_kept K h
  · exact execFallback_kept K h
  · exact execSettingsCommit_kept K h
  · exact execSidebandRequest_kept K h
  · exact execHostLaneFault_kept K h
  · exact execHostLinkLoss_kept K h
  · exact execPerst_kept K h
  · exact execFlr_kept K h
  · exact execCcEnClear_kept K h
  · exact execCcEnSet_kept K h
  · exact execStampErr_kept K h
  · exact execHstClrCnt_kept K h
  · exact execHuSenseSample_kept K h
  · exact execAdmissionLimitUpdate_kept K h
  · exact execCapTest_kept K h
  · exact execCapTestStart_kept K h
  · exact execCapTestEnd_kept K h
  · exact execJournalSegmentWrite_kept K h
  · exact execVaultChange_kept K h
  · exact execPowerLossDeclare_kept K h
  · exact execDumpEnd_kept K h
  · exact execPowerLossHoldRelease_kept K h
  · exact execLossAck_kept K h
  · exact execPDumpWrite_kept K h
  · exact execPlpClrCnt_kept K h
  · exact execThermalSample_kept K h
  · exact execGraceExpiry_kept K h
  · exact execEnforcementStep_kept K h
  · exact execEnforcementRemove_kept K h
  · exact execOrderlyMaxExpiry_kept K h
  · exact execThermalRestart_kept K h
  · exact execThresholdWrite_kept K h
  · exact execThmClrCnt_kept K h
  · exact execCalStart_kept K h
  · exact execCalExpStart_kept K h
  · exact execCalibrationProcedureEnd_kept K h
  · exact execCalAuto_kept K h
  · exact execCalValueWrite_kept K h
  · exact execFuseProgram_kept K h
  · exact execFuseProgramDone_kept K h
  · exact execAuthGo_kept K h
  · exact execDebugClose_kept K h
  · exact execReferenceLoss_kept K h
  · exact execPllUnlock_kept K h
  · exact execPowerStateRequest_kept K h
  · exact execIdlePoise_kept K h
  · exact execIdlePark_kept K h
  · exact execPoisedToRun_kept K h
  · exact execParkedEntryDone_kept K h
  · exact execDormantEntry_kept K h
  · exact execWakeN_kept K h
  · exact execWakeTimerMatch_kept K h
  · exact execChipReset_kept K h
  · exact execResetN_kept K h
  · exact execAlwaysOnReset_kept K h
  · exact execStartUp_kept K h
  · exact execMapRebuild_kept K h
  · exact execMapReady_kept K h
  · exact execSwSet_kept K h
  · exact execLogClr_kept K h
  · exact execLockstepMismatch_kept K h
  · exact execStackUe_kept K h
  · exact execPairRestore_kept K h
  · exact execWatchdogExpiry_kept K h
  · exact execWdogKick_kept K h
  · exact execFatalDeclare_kept K h
  · exact execDmpFatal_kept K h
  · exact execDumpCopyToFlash_kept K h
  · exact execFatalRelease_kept K h
  · exact execFatalHoldExpiry_kept K h
  · exact execDmpClear_kept K h
  · exact execRailOutOfTolerance_kept K h
  · exact execVaonLow_kept K h
  · exact execPerstDeassert_kept K h
  · exact execD0Transition_kept K h

end Sys2Proof.Laws
end

