-- ==== Sys2Proof/Tests/Slice0.lean ====
section
/-! SUPPORT. The model's own tests: an ill-formed command for each check of `wf`, small values from the spec, and for every
statement with hypotheses a state and operands that meet them, clause by clause. -/

namespace Sys2Proof.Tests

open Sys2Proof.Machine

set_option maxRecDepth 100000
set_option linter.unusedVariables false
set_option Elab.async false
set_option linter.unreachableTactic false
set_option linter.unusedTactic false

/-! ### Small states -/

def rig (l : List (Fld × Nat)) : State := putAll l State.reset
def heads (n : Nat) : Fld × Nat := (F.GLB_INST_HEAD, n)
def linked (st : Nat) (k : Link) (l : List (Fld × Nat)) : State := updLink 0 (fun _ => k) (rig ([heads 1, (F.HL_STATUS_STATE 0, st)] ++ l))
def slot (beam : Nat) : OpenSlot := { beam := beam, addr := 7, limit := 1, verify := false }
def chan (w : Nat) (c : Chan) (l : List (Fld × Nat)) : State := updChan 0 (fun _ => c) (rig ([heads 1, (F.CH_STATUS_WPLL_STATE 0, w)] ++ l))
def servo (st : Nat) (v : Servo) (l : List (Fld × Nat)) : State := updServo 0 (fun _ => v) (rig ([heads 1, (F.HL_STATUS_STATE 0, 5), (F.SV_STATUS_STATE 0, st)] ++ l))
def hosted (k : HostSt) (l : List (Fld × Nat)) : State := { rig ([(F.GLB_ARB_COUNT_ARBOURS, 2), (F.HST_FN_STATUS_CCEN 3, 1), (F.HST_FN_CFG_CTX 3, 16)] ++ l) with host := k }
def spaced (k : HostSt) (l : List (Fld × Nat)) : State :=
  let s := hosted k l
  { s with lib := { s.lib with spaces := [⟨5, 2, 100, true, false, [3]⟩] } }
def cmd (opc : Nat) (p : Phase) : Cmd := ⟨9, 3, 2, 77, 1, 4, opc, 5, some [(256, 256)], false, 0, 4, p, [], [], false, false, false, false, false⟩
def subq (q : Nat) (b : List Nat) : Queue := ⟨3, q, true, q, 16, 1, 0, 14, b, none, none⟩
def bused (l : Nat) (st : Nat) (k : BusLink) (r : List (Fld × Nat)) : State :=
  updBus l (fun _ => k) (rig ([(F.GLB_INST_BAY, 3), (F.GLB_INST_MISC_CAROUSELS, 8), (F.BL_STATUS_STATE l, st)] ++ r))
def writing (st : Nat) (w : Write) (r : List (Fld × Nat)) : State :=
  let s := updWrite 0 (fun _ => w) (rig ([heads 1, (F.WRP_STATUS_STATE 0, st), (F.SV_STATUS_STATE 0, 5), (F.CH_CTRL_SPEED 0, 1), (F.GLB_ARB_COUNT_ARBOURS, 2)] ++ r))
  { s with lib := { s.lib with mounts := [(0, { disc := 4, phase := 5 })], discs := [(4, { set := 6, member := 2 })],
                               sets := [(6, { st := 2, width := 10, rows := [⟨3, 9, 0, 1, 2, 0, false, [], [], [], some 2⟩] })] } }
def chunk : Chunk := ⟨6, 3, 1024 * 200, 1024 * 200, 5, 9⟩
def ready0 : State := writing 0 {} [(F.WRP_EXTENT_EXT_BANDS 0, 4), (F.CH_STATUS_WPLL_STATE 0, 2), (F.CH_STATUS_ADDR_CONF 0, 1),
  (F.CH_STATUS_SPEED_OK 0, 1), (F.HL_CTRL_LASER_PERMIT 0, 1), (F.WRP_CTRL_EN 0, 1), (F.PLP_D_MAX, 1000000000)]
def ready1 : State := updDisc 4 (fun d => { d with calResults := [(calKeyOf 0 3 2, 0)] }) ready0
def ready2 : State := { ready1 with par := { ready1.par with out := [⟨4, 6, (extentRows 0 3 2 (firstDataBand 2) 1).headD 0, 2, [], false, false⟩] } }
def ready : State := updHead 0 (fun (x : Head) =>
  { x with
    link := { x.link with status := 2 }
    sv := { x.sv with steady := true }
    wr := { x.wr with active := compTable ready2 0 (baseTable ready2 0 3 2) } }) ready2
def celled (n : Nat) (c : LoopCell) (q : List (Nat × Nat × Nat)) (r : List (Fld × Nat)) : State :=
  let s := updCell n (fun _ => c) (rig ([(F.LE_TILE_STATUS_IN_SERVICE (n / 32), 1)] ++ r))
  { s with loop := { s.loop with queues := [(n / 32, q)] } }
def paired (f : State → State) (r : List (Fld × Nat)) : State :=
  f (rig ([(F.LE_TILE_STATUS_IN_SERVICE 1, 1), (F.LE_TILE_STATUS_IN_SERVICE 2, 1), (F.CELL_STATUS_ROLE 40, 1), (F.CELL_STATUS_PARTNER 40, 70),
    (F.CELL_STATUS_ROLE 70, 2), (F.CELL_STATUS_PARTNER 70, 40)] ++ r))
def moving (a st : Nat) (x : Axis) (r : List (Fld × Nat)) : State :=
  updAx 1 a (fun _ => x) (rig ([(F.GLB_INST_BAY, 3), (F.MOV_AX_STATUS_STATE 1 a, st), (F.MOV_AX_SCALE_STEPS 1 a, 800), (F.MOV_AX_ACC_ACC 1 a, 2),
    (F.MOV_AX_ACC_DEC 1 a, 3), (F.MOV_AX_VMAX 1 a, 90000), (F.MOV_AX_SOFT_MIN 1 a, 0), (F.MOV_AX_SOFT_MAX 1 a, 9000), (F.MOV_AX_POS 1 a, 50)] ++ r))
def movingBus (a st : Nat) (x : Axis) (k : BusLink) (r : List (Fld × Nat)) : State := updBus 1 (fun _ => k) (moving a st x r)
def spun (st : Nat) (x : Spindle) (r : List (Fld × Nat)) : State :=
  updSpin 1 (fun _ => x) (rig ([(F.GLB_INST_BAY, 3), (F.MOT_STATUS_STATE 1, st), (F.MOT_CTRL_EN 1, 1), (F.MOT_KE_MAX_RPM 1, 12000),
    (F.BL_STATUS_STATE 1, 3), (F.CLK_TIME, 77)] ++ r))
def leaved (s : State) : State := { s with lib := { s.lib with leafBays := [(3, 2)], leafCar := [(3, 1)] } }
def turning (st : Nat) (x : Carousel) (r : List (Fld × Nat)) : State :=
  updCrs 1 (fun _ => x) (leaved (rig ([(F.GLB_INST_BAY, 3), (F.GLB_INST_MISC_CAROUSELS, 2), (F.CMOT_STATUS_STATE 1, st), (F.CMOT_CTRL_EN 1, 1),
    (F.CMOT_ENC_COUNTS 1, 28800), (F.CMOT_POS 1, 100), (F.CMOT_STATUS_HOMED 1, 1), (F.GLB_ARB_COUNT_ARBOURS, 4), (F.ARB_AR_CFG_KIND 3, 2)] ++ r)))
def shelved (f : Lib → Lib) (r : List (Fld × Nat)) : State :=
  let s := rig ([(F.GLB_INST_BAY, 3), (F.GLB_INST_HEAD, 15), (F.GLB_INST_MISC_CAROUSELS, 1), (F.GLB_ARB_COUNT_ARBOURS, 2), (F.ARB_CTRL_EN, 1),
    (F.ARB_AR_CFG_KIND 1, 2), (F.ARB_AR_CFG_PARENT 1, 0), (F.ARB_AR_CFG_DOMAIN 1, 1), (F.ARB_AR_CFG_K 1, 2), (F.ARB_AR_CFG_OPEN_MAX 1, 2),
    (F.BL_STATUS_STATE 0, 3), (F.BL_STATUS_STATE 1, 3), (F.CLK_TIME, 200)] ++ r)
  { s with lib := f { s.lib with leafBays := [(1, 3)], leafCar := [(1, 0)] } }
def blanks (n : Nat) : Map Disc := (List.range n).map fun i => (i, { state := 1 })
def stored (b : Buf) (r : List (Fld × Nat)) : State :=
  { rig ([(F.BUF_CONFIG_C, 32), (F.BUF_MIRROR_M, 8), (F.GLB_INST_MISC_DDR_CH, 0xffff), (F.MAP_GEOM_WAYS, 16), (F.MAP_STATUS_STATE, 1),
      (F.BUF_STATUS_IN_SERVICE, 0xffff), (F.CLK_TIME, 9)] ++ r) with buf := b }
def farBa : Nat := 8 * (8 * 2 ^ 30) + 4096 * 5
def farOfs : Nat := 8 * 2 ^ 30
def cached (l : CacheLine) : Buf := { lines := [(wayKey (sliceOf 5) 0 3, l)] }
def restoreByte (i : Nat) : Nat :=
  let j := (i - 64) / 16
  if i < 64 then 0 else match (i - 64) % 16 with
    | 0 => (itemOf j).1
    | 2 => (itemOf j).2
    | 7 => 64
    | _ => 0
def restoreBytes : List Nat := (List.range 2736).map restoreByte
def downloader (x : Option Session) : State :=
  let s := rig [(F.HST_FN_STATUS_CCEN 0, 1), (F.HST_FN_STATUS_CCEN 1, 1), (F.CLK_TIME, 9375000009), (F.TAB_STATUS_SELECTED, 0)]
  { s with host := { s.host with tabSess := x }, fuse := { s.fuse with words := [(0, 4), (3, 0xf00)] } }
def updating (x : Option Session) (f : Firmware) : State :=
  let s := rig [(F.HST_FN_STATUS_CCEN 0, 1), (F.CLK_TIME, 200 * 9375000009), (F.TAB_STATUS_SELECTED, 0), (F.TAB_SEC_VER, 9)]
  { s with host := { s.host with fwSess := x }, fuse := { s.fuse with words := [(3, 0xf000)] }, flash := { fw := f } }
def plainLetter : Letter := { versions := [1, 1, 1, 1, 1], compat := List.replicate 5 (List.replicate 5 (1, 1)), valid := true }
def activating (k : Nat) (l : Letter) : State :=
  let s := putAll [(F.FWU_STATUS_STEP, k)] (updating none { letterA := plainLetter, letterB := l, state := 2 })
  { s with host := { s.host with fwCmd := some (0, 5) } }
def failing (m : Mgt) (r : List (Fld × Nat)) : State :=
  { turning 3 { inverter := true } ([(F.GLB_INST_HEAD, 3), (F.MOT_STATUS_STATE 0, 3), (F.PLP_STATUS_VAULT_OK, 1), (F.CLK_STATUS_LINK_OK, 1),
      (F.CLK_STATUS_LOCKED, 1), (F.SV_STATUS_STATE 0, 5), (F.CLK_TIME, 9)] ++ r) with
    pwr := { hold := 0 }, plp := { tail := [.issued 1 2 3 []] }, mgt := m }
def dumped : Dump := ⟨4, 1, 9, 0, 0, 0, 0xff, [], [], [], [], [], []⟩
def pairing (n : Nat) (r : List (Fld × Nat)) : State :=
  { rig ([(F.MGT_STATUS_IN_SERVICE 0, min 1 n), (F.MGT_STATUS_IN_SERVICE 1, min 1 (n - 1)), (F.MGT_STATUS_IN_SERVICE 2, min 1 (n - 2)),
      (F.MGT_STATUS_IN_SERVICE 3, min 1 (n - 3)), (F.CLK_TIME, 99)] ++ r) with pwr := { hold := 0 } }
def powered (r : List (Fld × Nat)) : State := { rig r with pwr := { started := true, hold := 0 } }
def starting : StartConditions := ⟨[], [], 1, 1, 1, some ⟨0x10400, 4096, 512, 20000, true⟩, ⟨70000, [], (0x7000, 1)⟩, true, []⟩
def opened (k : HostSt) : State :=
  { rig [(F.HST_FN_STATUS_CCEN 0, 1), (F.HST_FN_STATUS_CCEN 3, 1), (F.TAB_STATUS_SELECTED, 0), (F.HST_FN_CFG_CTX 3, 16)] with
    pwr := { started := true, hold := 0 }, host := k }
def importer (k : HostSt) : State :=
  let s := putAll [(F.GLB_INST_MISC_CAROUSELS, 1), (F.GLB_ARB_COUNT_ARBOURS, 2)] (opened k)
  { s with lib := { discs := [(4, { state := 5 }), (5, { state := 2, set := 6 }), (6, { state := 7 })], sets := [(6, { st := 1, setId := 77 })] } }
def erring : State := rig [(F.GLB_ACC_ERR_VALID, 1), (F.GLB_ACC_ERR_OFFSET, 77), (F.FUS_STATUS_DEBUG_ACTIVE, 1), (F.MGT_STATUS_IN_SERVICE 0, 1)]
def nextOf (o : Machine.Out) : State := match o with
  | .next t => t
  | _ => State.reset

/-! ### Well-formedness -/

theorem test_wf_arbour : (Instr.barrier 256).wf = false ∧ (Instr.barrier 255).wf = true := by decide
theorem test_wf_axis : (Instr.stepInstant 31 4).wf = false ∧ (Instr.stepInstant 31 3).wf = true := by decide
theorem test_wf_bay : (Instr.confirmEnd 32).wf = false := by decide
theorem test_wf_beam : (Instr.seam 63 34).wf = false ∧ (Instr.seam 63 33).wf = true := by decide
theorem test_wf_carousel : (Instr.chopperFault 4).wf = false := by decide
theorem test_wf_channel : (Instr.channelOffline 16).wf = false := by decide
theorem test_wf_function : (Instr.flr 513).wf = false := by decide
theorem test_wf_head : (Instr.servoMiss 64).wf = false := by decide
theorem test_wf_context : (Instr.rebuildMemberDone 16).wf = false := by decide
theorem test_wf_link : (Instr.bayLinkUp 36).wf = false := by decide
theorem test_wf_lane : (Instr.markerLoss 0 4).wf = false := by decide
theorem test_wf_cell : (Instr.cellBoundary 512).wf = false := by decide
theorem test_wf_offset : (Instr.registerWrite 0 (2 ^ 28) .byte 0).wf = false := by decide
theorem test_wf_pair : (Instr.lockstepMismatch 4).wf = false := by decide
theorem test_wf_pool : (Instr.decodeAttemptStart 16 0).wf = false := by decide
theorem test_wf_half : (Instr.lowHalfRead 0 (2 ^ 28 - 4)).wf = false := by decide
theorem test_wf_requester : (Instr.lowHalfRead 10 0).wf = false := by decide
theorem test_wf_slice : (Instr.mapCacheFill 32 false 0 0).wf = false := by decide
theorem test_wf_tile : (Instr.tileReset 16).wf = false := by decide

/-! ### Values the spec gives -/

/-- GLB.ID reads 0x3264_ae15 (R23). -/
theorem test_device_id : (windowRead 4 0 .word State.reset).busData = 0x3264ae15 := by decide +kernel
/-- A word no register occupies is an error of kind 3, a half-word access one of kind 1 (R3). -/
theorem test_access_kinds : accessErr State.reset 0x58 .word true = 3 ∧ accessErr State.reset 0x48 .half true = 1 := by decide +kernel
/-- The factory fuses carry their own CRC (R470). -/
theorem test_factory_crc : factoryOk State.reset = true := by decide +kernel
/-- CRC-32 of "123456789" with the IEEE 802.3 parameters (R470). -/
theorem test_crc32 : crc32 [0x31, 0x32, 0x33, 0x34, 0x35, 0x36, 0x37, 0x38, 0x39] = 0xcbf43926 := by decide +kernel
/-- The head limits of the enforcement steps (R444). -/
theorem test_head_limits : (List.range 5).map headLimit = [64, 48, 32, 16, 8] := by decide
/-- A threshold clears only below its hysteresis (R441). -/
theorem test_hysteresis : hysteresis true 95 100 5 = true ∧ hysteresis true 94 100 5 = false ∧ hysteresis false 99 100 5 = false := by decide
/-- Ideal converter points give gain 1.0 before the open rounding: 65,536 codes for 2.5 V (R455). -/
theorem test_clamp_bytes : clampBytes 0xff5001 0x5a6e6964 = 0x6e5001 := by decide
/-- After an empty queue the block idles. -/
theorem test_idle : nextOf (step State.reset) = State.reset := by decide +kernel

/-! ### States whose hypotheses rest on a free value -/

def detecting : State :=
  chan 2 { sectors := [{ addr := 0, limit := 1, cws := [{ st := 1 }] }] } [(F.CH_ERASE_CFG_ERASE_MAX 0, 65535)]
theorem erasedWord_le (l : List Bool) : erasedWord l ≤ 16 := by
  unfold erasedWord
  refine (List.length_filter_le _ _).trans ?_
  simp only [List.length_append, List.length_take, List.length_singleton]
  omega
theorem erasedCount_le (n : Nat) (l : List Bool) : erasedCount n l ≤ 16 * n := by
  induction n generalizing l with
  | zero => simp [erasedCount]
  | succ n ih =>
    have h1 := erasedWord_le (l.take 17)
    have h2 := ih (l.drop 17)
    simp only [erasedCount]
    omega
/-- No codeword has more than its 32,768 code bits erased, whatever its signals are. -/
theorem detecting_erased (h addr i : Nat) (sigs : List BeamSignal) : (detection detecting h addr i sigs).erased ≤ 32768 :=
  erasedCount_le 2048 _

def slotted : State :=
  shelved (fun l => { l with mounts := [(1, { phase := 1, disc := 4 })] })
    [(F.CMOT_STATUS_STATE 0, 2), (F.CMOT_STATUS_SLOT 0, (4 % 288 + Config.baySlot 1) % 288), (F.MOV_INPUTS_LEVELS 1, 32)]
/-- The carousel shows the disc's slot at the bay, wherever the bay stands. -/
theorem slotted_slotThere : slotThere slotted 1 (mountOf slotted 1).disc = true := by
  have h1 : carOfBay slotted 1 = 0 := by decide +kernel
  have h2 : cmotSt slotted 0 = 2 := by decide +kernel
  have h3 : (mountOf slotted 1).disc = 4 := by decide +kernel
  have h4 : Machine.get slotted (F.CMOT_STATUS_SLOT 0) = trunc 9 ((4 % 288 + Config.baySlot 1) % 288) := rfl
  simp only [slotThere, h1, h2, h3, h4, trunc, decide_true, Bool.true_and, decide_eq_true_eq]
  omega

/-- The image's words, without walking the image. -/
theorem restore_word {i o n : Nat} (hi : i < 167) (h : o + n ≤ 16) :
    imageWord restoreBytes i o n = ofBytesLE ((List.range n).map fun j => restoreByte (64 + 16 * i + o + j)) := by
  unfold imageWord restoreBytes
  congr 1
  apply List.ext_getElem
  · simp; omega
  · intro k h1 h2
    simp
theorem restoreBytes_ok (s : State) : imageOk s restoreBytes = true := by
  have h : ∀ i < 167, ((ofBytesLE ((List.range 2).map fun j => restoreByte (64 + 16 * i + 0 + j)),
      ofBytesLE ((List.range 2).map fun j => restoreByte (64 + 16 * i + 2 + j))) = itemOf i ∧
      ofBytesLE ((List.range 4).map fun j => restoreByte (64 + 16 * i + 4 + j)) = 2 ^ 30) ∧
      ofBytesLE ((List.range 4).map fun j => restoreByte (64 + 16 * i + 8 + j)) = 0 := by decide +kernel
  unfold imageOk
  rw [Bool.and_eq_true, List.all_eq_true]
  refine ⟨by simp [restoreBytes], fun i hi => ?_⟩
  have hi' : i < 167 := by simpa using hi
  obtain ⟨⟨h1, h2⟩, h3⟩ := h i hi'
  rw [restore_word hi' (by omega), restore_word hi' (by omega), restore_word hi' (by omega), imageOffset, restore_word hi' (by omega), h1, h2, h3]
  simp [inBounds, toSigned]
theorem restoreBytes_range : ∀ i < 167, -32768 ≤ imageOffset restoreBytes i ∧ imageOffset restoreBytes i < 32768 := by
  have h : ∀ i < 167, ofBytesLE ((List.range 4).map fun j => restoreByte (64 + 16 * i + 8 + j)) = 0 := by decide +kernel
  intro i hi
  rw [imageOffset, restore_word hi (by omega), h i hi]
  decide

/-! ### The statements' hypotheses can be met -/

theorem witness_registerAccesses :
    ((fun (s : State) (rq off v : Nat) => reaches s rq = true ∧ off < 2 ^ 28 ∧ isWide off = false ∧ accessErr s off .word true = 0) (rig []) (0) (72) (3)) ∧
    ((fun (s : State) (rq off v : Nat) => reaches s rq = true ∧ off < 2 ^ 28 ∧ isWide off = true ∧ accessErr s off .dword true = 0) (rig []) (0) (0x7080020) (0x123456789abcdef01)) ∧
    ((fun (s : State) (rq v i : Nat) => reaches s rq = true ∧ i < 4 ∧ accessErr s (72 + 4 * i) .word true = 0) (rig []) (0) (0x123456789a) (3)) ∧
    ((fun (s : State) (rq v : Nat) => reaches s rq = true ∧ accessErr s F.PLP_EVT.off .word true = 0) (rig [(F.PLP_EVT, 7)]) (1) (0x100000005)) ∧
    ((fun (s : State) (rq reg : Nat) => reaches s rq = true ∧ reg + 4 < 2 ^ 28 ∧ reg % 8 = 0 ∧ isWide reg = true ∧ accessErr s reg .word false = 0) (rig [(F.CAL_EXP_SEL, 0x123456789)]) (2) (0x7080020)) ∧
    ((fun (s : State) (rq reg v : Nat) => reaches s rq = true ∧ reg + 4 < 2 ^ 28 ∧ reg % 8 = 0 ∧ isWide (reg + 4) = true ∧ accessErr s (reg + 4) .word false = 0 ∧ shadowOf s rq reg = some v) ({ rig [] with shadows := [(halfKey 2 0x7080020, 9)] }) (2) (0x7080020) (9)) ∧
    ((fun (s : State) (rq reg : Nat) => reaches s rq = true ∧ reg + 4 < 2 ^ 28 ∧ reg % 8 = 0 ∧ isWide (reg + 4) = true ∧ accessErr s (reg + 4) .word false = 0 ∧ shadowOf s rq reg = none) (rig [(F.CAL_EXP_SEL, 0x123456789)]) (2) (0x7080020)) ∧
    ((fun (s : State) (rq reg v : Nat) => reaches s rq = true ∧ reg + 4 < 2 ^ 28 ∧ reg % 8 = 0 ∧ isWide reg = true ∧ accessErr s reg .word true = 0) (rig []) (0) (0x7080020) (0x1ffffffff)) ∧
    ((fun (s : State) (rq reg v : Nat) => reaches s rq = true ∧ reg + 4 < 2 ^ 28 ∧ reg % 8 = 0 ∧ isWide (reg + 4) = true ∧ accessErr s (reg + 4) .word true = 0) ({ rig [] with held := [(halfKey 0 0x7080020, 5)] }) (0) (0x7080020) (3)) ∧
    ((fun (s : State) (rq v lo : Nat) => reaches s rq = true ∧ accessErr s (F.CAL_EXP_SEL.off + 4) .word true = 0 ∧ heldOf s rq F.CAL_EXP_SEL.off = some lo ∧ lo < 2 ^ 32) ({ rig [] with held := [(halfKey 0 0x7080020, 5)] }) (0) (3) (5)) ∧
    ((fun (s : State) (rq reg v : Nat) => reaches s rq = true ∧ reg + 4 < 2 ^ 28 ∧ isWide reg = true ∧ accessErr s reg .dword true = 0) ({ rig [] with held := [(halfKey 0 0x7080020, 5)], shadows := [(halfKey 0 0x7080020, 9)] }) (0) (0x7080020) (0x123456789abcdef01)) ∧
    ((fun (s : State) (rq v : Nat) => reaches s rq = true ∧ accessErr s F.CAL_EXP_SEL.off .dword true = 0) ({ rig [] with held := [(halfKey 0 0x7080020, 5)], shadows := [(halfKey 0 0x7080020, 9)] }) (0) (0x123456789abcdef01)) ∧
    ((fun (s : State) (rq reg v : Nat) => reaches s rq = true ∧ reg + 4 < 2 ^ 28 ∧ isWide reg = true ∧ accessErr s reg .dword false = 0) (rig [(F.CAL_EXP_SEL, 0x123456789)]) (0) (0x7080020) (0)) ∧
    ((fun (s : State) (rq off v : Nat) (sz : AccessSize) (w : Bool) => reaches s rq = true ∧ off < 2 ^ 28 ∧ rq < 10 ∧ accessErr s off sz w ≠ 0 ∧ ((sz = .dword → off % 8 ≠ 0 ∨ isWide off = true)) ∧ Machine.get s F.GLB_ACC_ERR_VALID = 0) (rig []) (0) (0x7080022) (5) (.half) (true)) ∧
    ((fun (s : State) (rq off v : Nat) (sz : AccessSize) (w : Bool) => reaches s rq = true ∧ off < 2 ^ 28 ∧ accessErr s off sz w ≠ 0 ∧ ((sz = .dword → off % 8 ≠ 0 ∨ isWide off = true)) ∧ Machine.get s F.GLB_ACC_ERR_VALID = 1) (rig [(F.GLB_ACC_ERR_VALID, 1)]) (0) (0xfff0000) (0) (.word) (false)) ∧
    ((fun (s : State) (rq off v : Nat) => reaches s rq = true ∧ off < 2 ^ 28 ∧ off % 8 = 0 ∧ isWide off = false ∧ isFaulty s off .dword true = true) (rig []) (0) (0xfff0000) (0)) ∧
    ((fun (s : State) (off v : Nat) (sz : AccessSize) => Machine.get s F.FUS_STATUS_DEBUG_ACTIVE = 1 ∧ off < 2 ^ 28) (rig [(F.FUS_STATUS_DEBUG_ACTIVE, 1)]) (72) (7) (.word)) ∧
    ((fun (s : State) (i v : Nat) => Machine.get s F.FUS_STATUS_DEBUG_ACTIVE = 1 ∧ i < 4 ∧ accessErr s (72 + 4 * i) .word true = 0) (rig [(F.FUS_STATUS_DEBUG_ACTIVE, 1)]) (2) (77)) ∧
    ((fun (s : State) (off v : Nat) (sz : AccessSize) => Machine.get s F.FUS_STATUS_DEBUG_ACTIVE = 0) (rig []) (72) (1) (.word)) ∧
    ((fun (s : State) (k : Boundary) (u : Nat) => boundaryUnit s k u = true) (rig [heads 1, (F.CH_LDPC_CFG_ITER0 0, 7)]) (.attempt) (0)) := by
  and_intros <;> first | decide +kernel | rfl

theorem witness_controlTreeOperations :
    ((fun (s : State) (a : Nat) => arbInst s a = true) ({ rig [(F.GLB_ARB_COUNT_ARBOURS, 2)] with tree := [⟨.barrier, 0⟩] }) (1)) ∧
    ((fun (s : State) (a : Nat) => arbInst s a = true ∧ ((∀ x ∈ s.tree, x.kind = .barrier))) ({ rig [(F.GLB_ARB_COUNT_ARBOURS, 2)] with tree := [⟨.barrier, 0⟩] }) (1)) ∧
    ((fun (s : State) (a : Nat) => arbInst s a = true ∧ ((∀ x ∈ s.tree, x.kind = .barrier)) ∧ ((∃ x ∈ s.tree, treeMeet s x.arbour a = true))) ({ rig [(F.GLB_ARB_COUNT_ARBOURS, 2)] with tree := [⟨.barrier, 0⟩] }) (0)) ∧
    ((fun (s : State) (a : Nat) => arbInst s a = true ∧ ((∀ x ∈ s.tree, x.kind = .barrier ∧ treeMeet s x.arbour a = false))) ({ rig [(F.GLB_ARB_COUNT_ARBOURS, 3), (F.ARB_AR_CFG_PARENT 1, 0), (F.ARB_AR_CFG_PARENT 2, 0)] with tree := [⟨.barrier, 1⟩] }) (2)) ∧
    ((fun (s : State) (a : Nat) => (s.tree.find? fun x => treeMeet s x.arbour a) = some ⟨.barrier, a⟩) ({ rig [(F.GLB_ARB_COUNT_ARBOURS, 2)] with tree := [⟨.barrier, 0⟩, ⟨.epoch, 0⟩] }) (0)) ∧
    ((fun (s : State) (a : Nat) => s.tree = [⟨.barrier, a⟩] ∧ treeMeet s a a = true) ({ rig [(F.GLB_ARB_COUNT_ARBOURS, 2)] with tree := [⟨.barrier, 0⟩] }) (0)) ∧
    ((fun (s : State) (a : Nat) => arbInst s a = true ∧ baysBelow s a = [] ∧ leavesBelow s a = [] ∧ s.tree = []) (rig [(F.GLB_ARB_COUNT_ARBOURS, 2)]) (1)) ∧
    ((fun (s : State) (a : Nat) => arbInst s a = true) (rig [(F.GLB_ARB_COUNT_ARBOURS, 2)]) (0)) ∧
    ((fun (s : State) (a b : Nat) => arbInst s a = true ∧ b ∈ baysBelow s a ∧ b < 32) (leaved (rig [(F.GLB_INST_BAY, 3), (F.GLB_INST_HEAD, 15), (F.GLB_ARB_COUNT_ARBOURS, 4), (F.ARB_AR_CFG_KIND 3, 2), (F.MOT_STATUS_STATE 1, 3)])) (3) (1)) := by
  and_intros <;> first | decide +kernel | rfl

theorem witness_linkTicksAndFrames :
    ((fun (s : State) (ncos : List (Nat × Nat)) => Machine.get s F.CLK_STATUS_LINK_OK ≠ 0) (rig [heads 1, (F.CLK_STATUS_LINK_OK, 1), (F.HL_STATUS_STATE 0, 5)]) ([(0, 100)])) ∧
    ((fun (s : State) (h lane : Nat) (syms : List Nat) => headInst s h = true ∧ lane < 4 ∧ 3 ≤ Machine.get s (F.HL_STATUS_STATE h) ∧ Machine.get s (F.HL_STATUS_STATE h) ≤ 5) (linked 5 { hits := [(2, 1)] } []) (0) (2) (markerOf (laneA 2))) ∧
    ((fun (s : State) (h lane : Nat) => headInst s h = true ∧ Machine.get s (F.HL_STATUS_STATE h) = 5 ∧ 4 ≤ mapGet (fun _ => 0) (linkOf s h).miss lane ∧ ((∃ l ∈ lanesInUse (linkOf s h), l ≠ lane ∧ l ∉ (linkOf s h).lost))) (linked 5 { miss := [(1, 4)], qual := [0, 1, 2, 3], locked := [0, 1, 2, 3] } []) (0) (1)) ∧
    ((fun (s : State) (h lane : Nat) => headInst s h = true ∧ Machine.get s (F.HL_STATUS_STATE h) = 5 ∧ 4 ≤ mapGet (fun _ => 0) (linkOf s h).miss lane ∧ ((∀ l ∈ lanesInUse (linkOf s h), l = lane ∨ l ∈ (linkOf s h).lost))) (linked 5 { miss := [(1, 4)], qual := [1], locked := [1] } []) (0) (1)) ∧
    ((fun (s : State) (h lane : Nat) => headInst s h = true ∧ 3 ≤ Machine.get s (F.HL_STATUS_STATE h) ∧ Machine.get s (F.HL_STATUS_STATE h) < 5 ∧ 4 ≤ mapGet (fun _ => 0) (linkOf s h).miss lane ∧ ((lanesInUse (linkOf s h)).filter fun l => decide (l ≠ lane) && decide (l ∉ (linkOf s h).lost)).length < 3) (linked 4 { miss := [(1, 4)], qual := [0, 1, 2], locked := [0, 1, 2], fails := 2 } []) (0) (1)) ∧
    ((fun (s : State) (h lane : Nat) => headInst s h = true ∧ 3 ≤ Machine.get s (F.HL_STATUS_STATE h) ∧ Machine.get s (F.HL_STATUS_STATE h) < 5 ∧ 4 ≤ mapGet (fun _ => 0) (linkOf s h).miss lane ∧ 3 ≤ ((lanesInUse (linkOf s h)).filter fun l => decide (l ≠ lane) && decide (l ∉ (linkOf s h).lost)).length) (linked 4 { miss := [(1, 4)], qual := [0, 1, 2, 3], locked := [0, 1, 2, 3] } []) (0) (1)) ∧
    ((fun (s : State) (h lane k : Nat) (bytes : List Nat) => headInst s h = true ∧ Machine.get s (F.HL_STATUS_STATE h) = 5 ∧ Machine.get s (F.CH_CTRL_EN h) = 1 ∧ Machine.get s F.PWR_STATUS_STATE ≠ 1 ∧ lane ∈ lanesInUse (linkOf s h) ∧ Machine.get s (F.CH_FRET_FMT h) = 1 ∧ k ≠ 0 ∧ k ≤ sampleWords (linkOf s h).nS (laneBeams s h lane).length 8 ∧ (mapGet (fun _ => []) (linkOf s h).rx lane).getD k none = some (2, bytes)) (linked 5 { qual := [0, 1, 2, 3], nS := 3, rx := [(1, [none, some (2, [1, 2, 128, 4])])] } [(F.CH_CTRL_EN 0, 1), (F.CH_FRET_FMT 0, 1)]) (0) (1) (1) ([1, 2, 128, 4])) ∧
    ((fun (s : State) (h lane k : Nat) (bytes : List Nat) => headInst s h = true ∧ Machine.get s (F.HL_STATUS_STATE h) = 5 ∧ Machine.get s (F.CH_CTRL_EN h) = 1 ∧ Machine.get s F.PWR_STATUS_STATE ≠ 1 ∧ lane ∈ lanesInUse (linkOf s h) ∧ Machine.get s (F.CH_FRET_FMT h) ≠ 1 ∧ k ≠ 0 ∧ k ≤ sampleWords (linkOf s h).nS (laneBeams s h lane).length 6 ∧ (mapGet (fun _ => []) (linkOf s h).rx lane).getD k none = some (2, bytes)) (linked 5 { qual := [0, 1, 2, 3], nS := 3, rx := [(1, [none, some (2, [1, 2, 128, 4])])] } [(F.CH_CTRL_EN 0, 1), (F.CH_FRET_FMT 0, 0)]) (0) (1) (1) ([1, 2, 128, 4])) ∧
    ((fun (s : State) (h lane k : Nat) => headInst s h = true ∧ Machine.get s (F.HL_STATUS_STATE h) = 5 ∧ Machine.get s (F.CH_CTRL_EN h) = 1 ∧ Machine.get s F.PWR_STATUS_STATE ≠ 1 ∧ lane ∈ lanesInUse (linkOf s h) ∧ k ≠ 0 ∧ k ≤ sampleWords (linkOf s h).nS (laneBeams s h lane).length (if Machine.get s (F.CH_FRET_FMT h) = 1 then 8 else 6) ∧ (mapGet (fun _ => []) (linkOf s h).rx lane).getD k none = none) (linked 5 { qual := [0, 1, 2, 3], nS := 3, rx := [(1, [none, none])] } [(F.CH_CTRL_EN 0, 1)]) (0) (1) (1)) ∧
    ((fun (s : State) (h lane k ty : Nat) (bytes : List Nat) => headInst s h = true ∧ 3 ≤ Machine.get s (F.HL_STATUS_STATE h) ∧ Machine.get s (F.HL_STATUS_STATE h) ≤ 5 ∧ lane < 4 ∧ k < 47 ∧ ((ty = 1 ∧ k = 0) ∨ ty = 3) ∧ (mapGet (fun _ => []) (linkOf s h).rx lane).getD k none = some (ty, bytes)) (linked 4 { rx := [(1, [none, some (3, [0x90, 2, 1, 0, 9, 8, 0, 0])])] } []) (0) (1) (1) (3) ([0x90, 2, 1, 0, 9, 8, 0, 0])) := by
  and_intros <;> first | decide +kernel | rfl

theorem witness_linkMessages :
    ((fun (s : State) (h i key : Nat) (m : Msg) (l : List (Nat × Msg)) => headInst s h = true ∧ (linkOf s h).inbox = (key, m) :: l ∧ m.ty = 0x7f ∧ ((linkOf s h).unacked.findIdx? fun x => decide (x.seq = m.payload.headD 0)) = some i) (linked 5 { inbox := [(0, ⟨0x7f, 0, [7], 0⟩)], unacked := [⟨6, 6, [], 0⟩, ⟨6, 7, [], 0⟩, ⟨6, 8, [], 0⟩] } []) (0) (1) (0) (⟨0x7f, 0, [7], 0⟩) ([])) ∧
    ((fun (s : State) (h key : Nat) (m : Msg) (l : List (Nat × Msg)) => headInst s h = true ∧ (linkOf s h).inbox = (key, m) :: l ∧ m.ty = 0x7f ∧ ((∀ x ∈ (linkOf s h).unacked, x.seq ≠ m.payload.headD 0))) (linked 5 { inbox := [(0, ⟨0x7f, 0, [9], 0⟩)], unacked := [⟨6, 6, [], 0⟩] } []) (0) (0) (⟨0x7f, 0, [9], 0⟩) ([])) ∧
    ((fun (s : State) (h key : Nat) (m : Msg) (l : List (Nat × Msg)) => headInst s h = true ∧ (linkOf s h).inbox = (key, m) :: l ∧ m.ty = 0x81 ∧ m.seq = (linkOf s h).rxSeq ∧ Machine.get s (F.HL_STATUS_STATE h) = 4 ∧ identOkBytes m.payload = true) (linked 4 { inbox := [(5, ⟨0x81, 3, [1, 2, 3, 4, 5, 34, 1, 100, 90, 0, 0, 0, 0, 32, 0, 0, 0, 0, 0, 0, 0, 0, 0, 0], 0⟩)], rxSeq := 3 } []) (0) (5) (⟨0x81, 3, [1, 2, 3, 4, 5, 34, 1, 100, 90, 0, 0, 0, 0, 32, 0, 0, 0, 0, 0, 0, 0, 0, 0, 0], 0⟩) ([])) ∧
    ((fun (s : State) (h key : Nat) (m : Msg) (l : List (Nat × Msg)) => headInst s h = true ∧ (linkOf s h).inbox = (key, m) :: l ∧ m.ty = 0x81 ∧ m.seq = (linkOf s h).rxSeq ∧ Machine.get s (F.HL_STATUS_STATE h) = 4 ∧ identOkBytes m.payload = false) (linked 4 { inbox := [(5, ⟨0x81, 3, [1], 0⟩)], rxSeq := 3 } []) (0) (5) (⟨0x81, 3, [1], 0⟩) ([])) ∧
    ((fun (s : State) (h key : Nat) (m : Msg) (l : List (Nat × Msg)) => headInst s h = true ∧ (linkOf s h).inbox = (key, m) :: l ∧ m.ty = 0x87 ∧ m.seq = (linkOf s h).rxSeq) (linked 5 { inbox := [(0, ⟨0x87, 255, [1, 2, 3, 4], 0⟩)], rxSeq := 255 } []) (0) (0) (⟨0x87, 255, [1, 2, 3, 4], 0⟩) ([])) ∧
    ((fun (s : State) (h key : Nat) (m : Msg) (l : List (Nat × Msg)) => headInst s h = true ∧ (linkOf s h).inbox = (key, m) :: l ∧ m.ty = 0x87 ∧ m.seq ≠ (linkOf s h).rxSeq ∧ ((linkOf s h).rxSeq + 256 - m.seq % 256) % 256 ≤ 32) (linked 5 { inbox := [(0, ⟨0x87, 250, [1, 2, 3, 4], 0⟩)], rxSeq := 2 } []) (0) (0) (⟨0x87, 250, [1, 2, 3, 4], 0⟩) ([])) ∧
    ((fun (s : State) (h key : Nat) (m : Msg) (l : List (Nat × Msg)) => headInst s h = true ∧ (linkOf s h).inbox = (key, m) :: l ∧ fwType m.ty = true ∧ m.seq = (linkOf s h).rxSeq ∧ (linkOf s h).rxq.length < 16 ∧ Machine.get s (F.HL_MBOX_CTRL_RX_FULL h) ≠ 1) (linked 5 { inbox := [(0, ⟨0x90, 0, [1, 2], 0⟩)] } []) (0) (0) (⟨0x90, 0, [1, 2], 0⟩) ([])) ∧
    ((fun (s : State) (h key : Nat) (m : Msg) (l : List (Nat × Msg)) => headInst s h = true ∧ (linkOf s h).inbox = (key, m) :: l ∧ fwType m.ty = true ∧ m.seq = (linkOf s h).rxSeq ∧ (linkOf s h).rxq.length < 16 ∧ Machine.get s (F.HL_MBOX_CTRL_RX_FULL h) = 1) (linked 5 { inbox := [(0, ⟨0x90, 0, [1, 2], 0⟩)], rxq := List.replicate 15 ⟨0x91, 0, [], 0⟩ } [(F.HL_MBOX_CTRL_RX_FULL 0, 1)]) (0) (0) (⟨0x90, 0, [1, 2], 0⟩) ([])) ∧
    ((fun (s : State) (h key : Nat) (m : Msg) (l : List (Nat × Msg)) => headInst s h = true ∧ (linkOf s h).inbox = (key, m) :: l ∧ fwType m.ty = true ∧ m.seq = (linkOf s h).rxSeq ∧ 16 ≤ (linkOf s h).rxq.length) (linked 5 { inbox := [(0, ⟨0x90, 0, [1, 2], 0⟩)], rxq := List.replicate 16 ⟨0x91, 0, [], 0⟩ } [(F.HL_MBOX_CTRL_RX_FULL 0, 1)]) (0) (0) (⟨0x90, 0, [1, 2], 0⟩) ([])) ∧
    ((fun (s : State) (h key : Nat) (m : Msg) (l : List (Nat × Msg)) => headInst s h = true ∧ (linkOf s h).inbox = (key, m) :: l ∧ fwType m.ty = false ∧ m.ty ∉ [0x7f, 0x81, 0x82, 0x87] ∧ m.seq = (linkOf s h).rxSeq) (linked 5 { inbox := [(0, ⟨0xf0, 0, [1, 2], 0⟩)] } []) (0) (0) (⟨0xf0, 0, [1, 2], 0⟩) ([])) ∧
    ((fun (s : State) (h : Nat) => headInst s h = true ∧ (linkOf s h).unacked ≠ [] ∧ 8 ≤ (linkOf s h).idle ∧ (linkOf s h).retx < 4) (linked 5 { unacked := [⟨6, 6, [], 0⟩], idle := 8, retx := 3 } []) (0)) ∧
    ((fun (s : State) (h : Nat) => headInst s h = true ∧ (linkOf s h).unacked ≠ [] ∧ 8 ≤ (linkOf s h).idle ∧ 4 ≤ (linkOf s h).retx) (linked 4 { unacked := [⟨6, 6, [], 0⟩], idle := 8, retx := 4 } []) (0)) ∧
    ((fun (s : State) (h : Nat) => headInst s h = true ∧ mailType (Machine.get s (F.HL_MBOX_TX h 0) % 256) = true ∧ 3 ≤ Machine.get s (F.HL_STATUS_STATE h) ∧ Machine.get s (F.HL_STATUS_STATE h) ≤ 5) (linked 4 {} [(F.HL_MBOX_TX 0 0, 0x0490), (F.HL_MBOX_TX 0 0, 0x0410)]) (0)) ∧
    ((fun (s : State) (h : Nat) => headInst s h = true ∧ (linkOf s h).rxq = []) (linked 5 {} [(F.HL_MBOX_CTRL_RX_FULL 0, 1)]) (0)) ∧
    ((fun (s : State) (h : Nat) (m : Msg) (l : List Msg) => headInst s h = true ∧ (linkOf s h).rxq = m :: l) (linked 5 { rxq := [⟨0x90, 7, [1], 0⟩] } [(F.HL_MBOX_CTRL_RX_FULL 0, 1)]) (0) (⟨0x90, 7, [1], 0⟩) ([])) ∧
    ((fun (s : State) (h n : Nat) => headInst s h = true ∧ (linkOf s h).fullSince = some n ∧ n + 1250000 ≤ now s) (linked 5 { fullSince := some 5 } [(F.CLK_TIME, 1250005)]) (0) (5)) := by
  and_intros <;> first | decide +kernel | rfl

theorem witness_linkTrainingAndLanes :
    ((fun (s : State) (h en : Nat) => headInst s h = true ∧ en % 2 = 0) (linked 4 {} [(F.HL_CTRL_EN 0, 1)]) (0) (0)) ∧
    ((fun (s : State) (h en : Nat) => headInst s h = true ∧ en % 2 = 1) (linked 0 {} []) (0) (1)) ∧
    ((fun (s : State) (h : Nat) => headInst s h = true ∧ Machine.get s (F.HL_CTRL_EN h) ≠ 0) (linked 4 { fails := 2 } [(F.HL_CTRL_EN 0, 1)]) (0)) ∧
    ((fun (s : State) (h v : Nat) => headInst s h = true ∧ v % 2 = 0) (linked 5 { laser := 1 } [(F.HL_CTRL_LASER_PERMIT 0, 1)]) (0) (2)) ∧
    ((fun (s : State) (h v : Nat) => headInst s h = true ∧ v % 2 = 1) (linked 5 { laser := 1 } []) (0) (3)) ∧
    ((fun (s : State) (h : Nat) => headInst s h = true) (linked 5 {} [(F.HL_UNCORR 0 3, 7)]) (0)) ∧
    ((fun (s : State) (h g : Nat) => headInst s h = true) (linked 5 {} [(F.HL_STATUS_DEGRADED 0, 1), (F.HL_STATUS_FAILED_LANE 0, 2)]) (0) (7)) ∧
    ((fun (s : State) (h rate fmt : Nat) => headInst s h = true) (linked 5 {} []) (0) (513) (3)) ∧
    ((fun (s : State) (h : Nat) (bits : List Bool) => headInst s h = true ∧ Machine.get s (F.HL_STATUS_STATE h) = 1 ∧ isPrbs31 bits = true) (linked 1 {} []) (0) (List.replicate 31 true ++ List.replicate 28 false)) ∧
    ((fun (s : State) (h : Nat) (errs q : List Nat) => headInst s h = true ∧ Machine.get s (F.HL_STATUS_STATE h) = 2 ∧ q = ((List.range 4).filter fun l => decide (errs.getD l 11 ≤ 10)) ∧ (q.length = 4 ∨ (q.length = 3 ∧ trainLate s h = true))) (linked 2 {} []) (0) ([0, 10, 3, 4]) ([0, 1, 2, 3])) ∧
    ((fun (s : State) (h : Nat) (skews q : List Nat) => headInst s h = true ∧ Machine.get s (F.HL_STATUS_STATE h) = 3 ∧ q = ((linkOf s h).qual.filter fun l => decide (skews.getD l 0 ≤ 170)) ∧ 3 ≤ q.length ∧ ((∀ l ∈ q, l ∈ (linkOf s h).locked))) (linked 3 { qual := [0, 1, 2, 3], locked := [0, 1, 2, 3] } []) (0) ([1, 2, 3, 170]) ([0, 1, 2, 3])) ∧
    ((fun (s : State) (h : Nat) (skews q : List Nat) => headInst s h = true ∧ Machine.get s (F.HL_STATUS_STATE h) = 3 ∧ q = ((linkOf s h).qual.filter fun l => decide (skews.getD l 0 ≤ 170)) ∧ q.length < 3) (linked 3 { qual := [0, 1, 2], locked := [0, 1, 2], fails := 2 } []) (0) ([1, 2, 171]) ([0, 1])) ∧
    ((fun (s : State) (h : Nat) => headInst s h = true ∧ Machine.get s (F.HL_STATUS_STATE h) = 4 ∧ (linkOf s h).identOk = true ∧ (linkOf s h).adcCfg = none ∧ (linkOf s h).laneCfg = none) (linked 4 { identOk := true } []) (0)) ∧
    ((fun (s : State) (h : Nat) => headInst s h = true ∧ 1 ≤ Machine.get s (F.HL_STATUS_STATE h) ∧ Machine.get s (F.HL_STATUS_STATE h) ≤ 4 ∧ trainLate s h = true) (linked 1 { fails := 1 } [(F.CLK_TIME, 3125000)]) (0)) ∧
    ((fun (s : State) (h lane : Nat) => headInst s h = true ∧ Machine.get s (F.HL_STATUS_STATE h) = 5 ∧ lane ∈ lanesInUse (linkOf s h) ∧ (lane ∈ (linkOf s h).lost ∨ 8 ≤ ((linkOf s h).bad.filter fun b => decide (b.1 = lane)).length)) (linked 5 { qual := [0, 1, 2, 3], lost := [2] } [(F.HL_CTRL_AUTO_DEGRADE 0, 0)]) (0) (2)) ∧
    ((fun (s : State) (h mode lane group sf : Nat) => headInst s h = true ∧ (linkOf s h).laneCfg = some (mode, lane, group, sf) ∧ sf ≤ tick s) (linked 5 { laneCfg := some (0, 5, 6, 0) } [(F.HL_CTRL_DEGR_GROUP 0, 3)]) (0) (0) (5) (6) (0)) := by
  and_intros <;> first | decide +kernel | rfl

theorem witness_wobblePllStates :
    ((fun (s : State) (h a0 a1 : Nat) => headInst s h = true ∧ Machine.get s (F.CH_CTRL_EN h) ≠ 0 ∧ (wpllSt s h = 0 ∨ (wpllSt s h = 4 ∧ (ampOk s h a0 = true ∨ ampOk s h a1 = true)))) (rig [heads 3, (F.CH_CTRL_EN 1, 1), (F.CH_STATUS_WPLL_STATE 1, 4)]) (1) (70000) (0)) ∧
    ((fun (s : State) (h rms : Nat) => headInst s h = true ∧ wpllSt s h = 1 ∧ rms < 2048) (rig [heads 3, (F.CH_STATUS_WPLL_STATE 1, 1)]) (1) (2047)) ∧
    ((fun (s : State) (h a0 a1 : Nat) => headInst s h = true ∧ wpllSt s h = 2 ∧ ampOk s h a0 = false ∧ ampOk s h a1 = false) ({ chan 2 { slots := [slot 3] } [] with force := [((F.CH_WPLL_CFG_AMP_MIN 0).key, 9)] }) (0) (8) (0)) ∧
    ((fun (s : State) (h a0 a1 err : Nat) => headInst s h = true ∧ wpllSt s h = 3 ∧ (ampOk s h a0 = true ∨ ampOk s h a1 = true) ∧ err < 8192) (chan 3 {} []) (0) (70000) (0) (8191)) ∧
    ((fun (s : State) (h a0 a1 err : Nat) => headInst s h = true ∧ wpllSt s h = 3 ∧ (ampOk s h a0 = true ∨ ampOk s h a1 = true) ∧ 8192 ≤ err) (chan 3 {} [(F.CH_STATUS_ADDR_CONF 0, 1)]) (0) (70000) (0) (8192)) ∧
    ((fun (s : State) (h periods rms : Nat) => headInst s h = true ∧ ((wpllSt s h = 1 ∧ 8192 ≤ periods) ∨ (wpllSt s h = 2 ∧ 8192 < rms) ∨ (wpllSt s h = 3 ∧ 16 * inForce s (F.CH_WPLL_CFG_HOLD_MAX h) ≤ periods))) (chan 2 { slots := [slot 3], agree := 2 } [(F.CH_STATUS_ADDR_CONF 0, 1)]) (0) (0) (8193)) ∧
    ((fun (s : State) (h en : Nat) => headInst s h = true ∧ en % 2 = 1) (chan 0 {} []) (0) (3)) ∧
    ((fun (s : State) (h en : Nat) => headInst s h = true ∧ en % 2 = 0) (chan 2 {} [(F.CH_STATUS_ADDR_CONF 0, 1), (F.CH_CTRL_EN 0, 1)]) (0) (2)) ∧
    ((fun (s : State) (h en : Nat) => headInst s h = true) (chan 2 {} [(F.CH_STATUS_READ_PERMIT 0, 1)]) (0) (0)) ∧
    ((fun (s : State) (h : Nat) => headInst s h = true) (chan 2 {} [(F.CH_ABANDON 0, 5)]) (0)) := by
  and_intros <;> first | decide +kernel | rfl

theorem witness_slotsAndSyncMarks :
    ((fun (s : State) (h beam : Nat) => headInst s h = true ∧ 0 < beam ∧ beam < 32) (chan 2 {} []) (0) (5)) ∧
    ((fun (s : State) (h : Nat) => headInst s h = true) (chan 2 { bands := [(0, 9640)] } []) (0)) ∧
    ((fun (s : State) (h : Nat) => headInst s h = true ∧ (servoOf s h).target = none) (chan 2 { bands := [(32, 77)], newCode := true } [(F.WRP_STATUS_STATE 0, 2)]) (0)) ∧
    ((fun (s : State) (h beam addr : Nat) => headInst s h = true ∧ beam < 32 ∧ beamBand s h beam < lastTurn ∧ Machine.get s (F.HL_STATUS_STATE h) = 5 ∧ beamHidden s h beam = false ∧ (chanOf s h).phiOk = true ∧ slotOf s h beam = none ∧ addr = beamAddr s h beam (nextSlot s h beam) ∧ addr ∉ (chanOf s h).skip0 ∧ readPermitIn s h (fretOf (beamBand s h beam)) = true) (chan 2 { phiOk := true } [(F.HL_STATUS_STATE 0, 5), (F.CH_CTRL_READ_EN 0, 1), (F.CH_STATUS_ADDR_CONF 0, 1), (F.CH_STATUS_SPEED_OK 0, 1), (F.CH_FRET_N 0, 400), (F.CH_CTRL_SPEED 0, 1)]) (0) (31) (beamAddr (chan 2 {} []) 0 31 0)) ∧
    ((fun (s : State) (h beam addr : Nat) => headInst s h = true ∧ beam < 32 ∧ beamBand s h beam < lastTurn ∧ Machine.get s (F.HL_STATUS_STATE h) = 5 ∧ beamHidden s h beam = false ∧ (chanOf s h).phiOk = true ∧ slotOf s h beam = none ∧ addr = beamAddr s h beam (nextSlot s h beam) ∧ addr ∉ (chanOf s h).skip0 ∧ ratioOk (Machine.get s (F.CH_FRET_N h)) (fretOf (beamBand s h beam)) (Machine.get s (F.CH_CTRL_SPEED h)) = false) (chan 2 { phiOk := true } [(F.HL_STATUS_STATE 0, 5), (F.CH_FRET_N 0, 1)]) (0) (31) (beamAddr (chan 2 {} []) 0 31 0)) ∧
    ((fun (s : State) (h beam envelope : Nat) (o : OpenSlot) => slotOf s h beam = some o ∧ o.st = 2 ∧ envelope < Machine.get s (F.CH_BLANK_THR h)) (chan 2 { slots := [slot 3], sectors := [{ addr := 7, limit := 1 }] } [(F.CH_BLANK_THR 0, 5)]) (0) (3) (4) (slot 3)) ∧
    ((fun (s : State) (h beam : Nat) (phase trim w : Int) (n : Nat) (decs : List (Option Bool)) (o : OpenSlot) => slotOf s h beam = some o ∧ (o.st = 2 ∨ o.st = 3) ∧ ((∃ d ∈ decs, d ≠ none)) ∧ markWinner (inForce s (F.CH_SYNC_SM_THR h)) (markScan smBits 48 decs) = some (w, n)) (chan 2 { slots := [slot 3] } []) (0) (3) (0) (0) (0) (0) (List.replicate 48 none ++ smBits.map some ++ List.replicate 48 none) (slot 3)) ∧
    ((fun (s : State) (h beam : Nat) (phase trim : Int) (decs : List (Option Bool)) (o : OpenSlot) => slotOf s h beam = some o ∧ (o.st = 2 ∨ o.st = 3) ∧ ((∀ d ∈ decs, d = none) ∨ markWinner (inForce s (F.CH_SYNC_SM_THR h)) (markScan smBits 48 decs) = none)) (chan 2 { slots := [slot 3] } []) (0) (3) (0) (0) (List.replicate 192 none) (slot 3)) ∧
    ((fun (s : State) (h beam j n : Nat) (phase trim x : Int) (decs : List (Option Bool)) (o : OpenSlot) => slotOf s h beam = some o ∧ (o.st = 4 ∨ o.st = 5 ∨ o.st = 6) ∧ 1 ≤ j ∧ j ≤ 8 ∧ j = o.marks + 1 ∧ markWinner (inForce s (F.CH_SYNC_RM_THR h)) (markScan rmBits (if j = 1 then 48 else 8) decs) = some (x, n)) (chan 2 { slots := [{ slot 3 with st := 4, sm := true }] } []) (0) (3) (1) (0) (0) (0) (0) (List.replicate 48 none ++ rmBits.map some ++ List.replicate 48 none) ({ slot 3 with st := 4, sm := true })) ∧
    ((fun (s : State) (h beam j : Nat) (phase trim : Int) (decs : List (Option Bool)) (o : OpenSlot) => slotOf s h beam = some o ∧ (o.st = 4 ∨ o.st = 5 ∨ o.st = 6) ∧ 1 ≤ j ∧ j ≤ 8 ∧ j = o.marks + 1 ∧ markWinner (inForce s (F.CH_SYNC_RM_THR h)) (markScan rmBits (if j = 1 then 48 else 8) decs) = none) (chan 2 { slots := [{ slot 3 with st := 6, marks := 1 }] } []) (0) (3) (2) (0) (0) (List.replicate 112 none) ({ slot 3 with st := 6, marks := 1 })) ∧
    ((fun (s : State) (h beam : Nat) (o : OpenSlot) => slotOf s h beam = some o ∧ 8 ≤ o.marks) (chan 2 { slots := [{ slot 3 with marks := 8 }] } []) (0) (3) ({ slot 3 with marks := 8 })) ∧
    ((fun (s : State) (h f : Nat) => headInst s h = true ∧ Machine.get s (F.HL_STATUS_STATE h) = 5 ∧ Machine.get s (F.CH_STATUS_ADDR_CONF h) = 1 ∧ f = fretOf (beamBand s h 32) ∧ ((chanOf s h).askedFret = none ∨ (∃ a, (chanOf s h).askedFret = some a ∧ a < f))) (chan 2 {} [(F.HL_STATUS_STATE 0, 5), (F.CH_STATUS_ADDR_CONF 0, 1)]) (0) (0)) ∧
    ((fun (s : State) (h f g : Nat) => headInst s h = true ∧ Machine.get s (F.HL_STATUS_STATE h) = 5 ∧ Machine.get s (F.CH_STATUS_ADDR_CONF h) = 1 ∧ f = fretOf (beamBand s h 32) ∧ (chanOf s h).askedFret = some f ∧ beamBand s h 32 < 9640 ∧ g = fretOf (beamBand s h 32 + 1) ∧ f ≠ g) (chan 2 { bands := [(32, 137)], askedFret := some 0, nco := 5 } [(F.HL_STATUS_STATE 0, 5), (F.CH_STATUS_ADDR_CONF 0, 1)]) (0) (0) (1)) ∧
    ((fun (s : State) (h n fmt sf : Nat) => headInst s h = true ∧ (linkOf s h).adcCfg = some (n, fmt, sf) ∧ sf ≤ tick s) (linked 5 { adcCfg := some (300, 1, 0) } []) (0) (300) (1) (0)) := by
  and_intros <;> first | decide +kernel | rfl

theorem witness_detectionAndLadder_1 :
    (fun (s : State) (h addr i : Nat) (sigs : List BeamSignal) (x : Sector) (w : Codeword) (d : Detected) => headInst s h = true ∧ Machine.get s F.PWR_STATUS_STATE ≠ 1 ∧ sectorAt s h addr = some x ∧ w = x.cws.getD i {} ∧ w.st = 1 ∧ (∀ a ∈ neighbours addr, neighbour s h a i ≠ none) ∧ d = detection s h addr i sigs ∧ d.erased ≤ Machine.get s (F.CH_ERASE_CFG_ERASE_MAX h) ∧ (w.rung = 0 → (getPool s (h / 4)).queue.length < 256) ∧ ¬ (w.rung = 6 ∧ w.store = some []))
      detecting 0 0 0 [] { addr := 0, limit := 1, cws := [{ st := 1 }] } { st := 1 } (detection detecting 0 0 0 []) :=
  ⟨by decide +kernel, by decide +kernel, by decide +kernel, by decide +kernel, by decide +kernel, by decide +kernel, rfl, (detecting_erased 0 0 0 []).trans (by decide +kernel), by decide +kernel, by decide +kernel⟩

theorem witness_detectionAndLadder :
    ((fun (s : State) (q e : Nat) (j : Job) => q < 16 ∧ e < 16 ∧ engineIn s q e = true ∧ Machine.get s F.PWR_STATUS_STATE ≠ 1 ∧ ((∀ b ∈ (getPool s q).busy, b.engine ≠ e)) ∧ (nextJob s q).1 = some j ∧ j.head < 64) (updPool 15 (fun p => { p with queue := [⟨60, 5, 2, 2⟩, ⟨61, 7, 3, 0⟩] }) (rig [(F.CH_POOL_STATUS_ENGINES 60, 0x8000)])) (15) (15) (⟨61, 7, 3, 0⟩)) ∧
    ((fun (s : State) (q e ran : Nat) (a : Attempt) (r : Decoded) => q < 16 ∧ ((getPool s q).busy.find? fun b => decide (b.engine = e)) = some a ∧ a.job.head < 64 ∧ a.limit ≤ 40 ∧ a.job.rung ≤ 6 ∧ r = attemptOutcome s a ∧ r.ok = true ∧ (a.stop = false ∨ r.iters ≤ ran)) (updPool 1 (fun p => { p with busy := [⟨3, ⟨0, 7, 0, 0⟩, 12, 12, 8, false⟩] }) (chan 2 { sectors := [{ addr := 7, limit := 1, cws := [{ st := 3 }, { st := 2 }] }] } [])) (1) (3) (90) (⟨3, ⟨0, 7, 0, 0⟩, 12, 12, 8, false⟩) (attemptOutcome (chan 2 { sectors := [{ addr := 7, limit := 1, cws := [{ st := 3 }, { st := 2 }] }] } []) ⟨3, ⟨0, 7, 0, 0⟩, 12, 12, 8, false⟩)) ∧
    ((fun (s : State) (q e ran : Nat) (a : Attempt) (r : Decoded) => q < 16 ∧ ((getPool s q).busy.find? fun b => decide (b.engine = e)) = some a ∧ a.job.head < 64 ∧ a.job.rung = 0 ∧ r = attemptOutcome s a ∧ r.ok = false ∧ (a.stop = false ∨ r.iters ≤ ran)) (updPool 1 (fun p => { p with busy := [⟨3, ⟨0, 7, 0, 0⟩, 0, 12, 8, false⟩] }) (chan 2 { sectors := [{ addr := 7, limit := 1, cws := [{ st := 3 }, { st := 2 }] }] } [(F.CH_LADDER_RUNG_EN 0, 1)])) (1) (3) (90) (⟨3, ⟨0, 7, 0, 0⟩, 0, 12, 8, false⟩) (attemptOutcome (chan 2 { sectors := [{ addr := 7, limit := 1, cws := [{ st := 3 }, { st := 2 }] }] } []) ⟨3, ⟨0, 7, 0, 0⟩, 0, 12, 8, false⟩)) ∧
    ((fun (s : State) (q e ran i : Nat) (a : Attempt) (r : Decoded) (x : Sector) => q < 16 ∧ ((getPool s q).busy.find? fun b => decide (b.engine = e)) = some a ∧ a.job.head < 64 ∧ 1 ≤ a.job.rung ∧ r = attemptOutcome s a ∧ r.ok = false ∧ (a.stop = false ∨ r.iters ≤ ran) ∧ sectorAt s a.job.head a.job.addr = some x ∧ a.job.cw < x.cws.length ∧ i < x.cws.length ∧ i ≠ a.job.cw ∧ (x.cws.getD i {}).st < 4 ∧ (x.cws.getD i {}).rung = 0 ∧ ((a.job.rung = 2 → (x.cws.getD a.job.cw {}).hyps = []))) (updPool 1 (fun p => { p with busy := [⟨3, ⟨0, 7, 0, 1⟩, 0, 12, 8, false⟩] }) (chan 2 { sectors := [{ addr := 7, limit := 1, cws := [{ st := 3, rung := 1 }, { st := 2 }] }] } [])) (1) (3) (90) (1) (⟨3, ⟨0, 7, 0, 1⟩, 0, 12, 8, false⟩) (attemptOutcome (chan 2 { sectors := [{ addr := 7, limit := 1, cws := [{ st := 3, rung := 1 }, { st := 2 }] }] } []) ⟨3, ⟨0, 7, 0, 1⟩, 0, 12, 8, false⟩) ({ addr := 7, limit := 1, cws := [{ st := 3, rung := 1 }, { st := 2 }] })) ∧
    ((fun (s : State) (q e ran : Nat) (a : Attempt) => q < 16 ∧ ((getPool s q).busy.find? fun b => decide (b.engine = e)) = some a ∧ a.job.head < 64 ∧ a.stop = true ∧ ran < (attemptOutcome s a).iters) (updPool 1 (fun p => { p with busy := [⟨3, ⟨0, 7, 0, 1⟩, 12, 12, 8, true⟩] }) (chan 2 { sectors := [{ addr := 7, limit := 1, cws := [{ st := 3, rung := 1 }, { st := 2 }] }] } [])) (1) (3) (0) (⟨3, ⟨0, 7, 0, 1⟩, 12, 12, 8, true⟩)) ∧
    ((fun (s : State) (q e : Nat) => q < 16 ∧ e < 16 ∧ engineIn s q e = true) (updPool 15 (fun p => { p with busy := [⟨15, ⟨0, 7, 0, 0⟩, 0, 12, 8, false⟩] }) (rig [(F.CH_POOL_STATUS_ENGINES 60, 0xffff)])) (15) (15)) ∧
    ((fun (s : State) (h v : Nat) => headInst s h = true) (rig [heads (2^63), (F.CH_POOL_STATUS_ENGINES 60, 0xffff)]) (63) (0x8001)) ∧
    ((fun (s : State) (h cls b l : Nat) (ended : Bool) => headInst s h = true ∧ Machine.get s (F.CH_LADDER_STATUS_ACTIVE h) ≠ 1 ∧ lowestBand s h = some (b, l) ∧ (ended = true ∨ Machine.get s (F.CH_LADDER_MAX_BANDS h) ≤ pendingBands s h)) (chan 2 { sectors := [{ addr := 7, limit := 1, cws := [{ st := 5 }] }] } [(F.ARB_STATUS_RUNNING, 1)]) (0) (0) (addrBand 7) (addrLayer 7) (true)) ∧
    ((fun (s : State) (h : Nat) => headInst s h = true ∧ Machine.get s (F.CH_LADDER_STATUS_ACTIVE h) = 1 ∧ ladderIdle s h = true ∧ ((∃ x ∈ ladderSectors s h, x.crcAt < Machine.get s (F.CH_LADDER_STATUS_RUNG h) ∧ ∃ w ∈ x.cws, w.st = 5 ∧ (Machine.get s (F.CH_LADDER_STATUS_RUNG h) = 6 → w.store ≠ none))) ∧ (chanOf s h).again = false ∧ (chanOf s h).part ≠ 1 ∧ (chanOf s h).sub < rungReads (Machine.get s (F.CH_LADDER_STATUS_RUNG h)) + (chanOf s h).adjacent.length ∧ Machine.get s (F.CH_LADDER_STATUS_REVS h) < Machine.get s (F.CH_LADDER_BUDGET h)) (chan 2 { sectors := [{ addr := 7, limit := 1, cws := [{ st := 5 }] }] } [(F.CH_LADDER_STATUS_ACTIVE 0, 1), (F.CH_LADDER_STATUS_RUNG 0, 3), (F.CH_LADDER_BUDGET 0, 3), (F.CH_LADDER_STATUS_REVS 0, 2), (F.CH_LADDER_OFS_TRACK_OFS 0, 6)]) (0)) ∧
    ((fun (s : State) (h : Nat) => headInst s h = true ∧ Machine.get s (F.CH_LADDER_STATUS_ACTIVE h) = 1 ∧ ((∀ x ∈ (chanOf s h).sectors, pendingSector x = false))) (chan 2 { sectors := [{ addr := 7, limit := 1, pinned := true }] } [(F.CH_LADDER_STATUS_ACTIVE 0, 1), (F.CH_LADDER_STATUS_RUNG 0, 3)]) (0)) ∧
    ((fun (s : State) (h : Nat) => headInst s h = true) (chan 2 {} [(F.CH_CW_DECODED 0, 5), (F.CH_POOL_PEAK 0, 4)]) (0)) := by
  and_intros <;> first | decide +kernel | rfl

theorem witness_servoSamplesAndLimits :
    ((fun (s : State) (h lane : Nat) (times bytes : List Nat) => headInst s h = true ∧ Machine.get s (F.HL_STATUS_STATE h) = 5 ∧ (linkOf s h).served = false ∧ firstCopy (fun l => times.getD l 0) (servoCopies (linkOf s h)) = some (lane, bytes)) (updLink 0 (fun k => { k with rx := [(0, [some (1, [1, 2, 3, 4, 5, 6, 7])])], qual := [0] }) (servo 5 { invalid := [0, 1] } [(F.HL_LAT_LIMIT 0, 19), (F.SV_DEFECT_DEF_CLR 0, 5)])) (0) (0) ([20]) ([1, 2, 3, 4, 5, 6, 7])) ∧
    ((fun (s : State) (h : Nat) => headInst s h = true ∧ Machine.get s (F.HL_STATUS_STATE h) = 5 ∧ (linkOf s h).served = false ∧ servoCopies (linkOf s h) = []) (servo 5 { missRun := 3 } []) (0)) ∧
    ((fun (s : State) (h w rms worst : Nat) (p : AddrUnit) => headInst s h = true ∧ Machine.get s (F.CH_CTRL_EN h) ≠ 0 ∧ wpllSt s h = 2 ∧ unitGood w = true ∧ Machine.get s (F.CH_STATUS_ADDR_CONF h) ≠ 1 ∧ (chanOf s h).last = some p ∧ sameUnit (nextUnit p) (unitFields w) = true) (updChan 0 (fun c => { c with last := some ⟨15, 7, 2, 1, 3, 0⟩ }) (servo 4 {} [(F.CH_CTRL_EN 0, 1), (F.CH_STATUS_WPLL_STATE 0, 2)])) (0) (unitWord ⟨16, 7, 2, 1, 3, 0⟩) (5) (6) (⟨15, 7, 2, 1, 3, 0⟩)) ∧
    ((fun (s : State) (h w rms worst : Nat) => headInst s h = true ∧ Machine.get s (F.CH_CTRL_EN h) ≠ 0 ∧ wpllSt s h = 2 ∧ unitGood w = true ∧ Machine.get s (F.CH_STATUS_ADDR_CONF h) ≠ 1 ∧ (chanOf s h).last = none) (servo 4 {} [(F.CH_CTRL_EN 0, 1), (F.CH_STATUS_WPLL_STATE 0, 2)]) (0) (unitWord ⟨511, 7, 2, 1, 3, 0⟩) (70000) (6)) ∧
    ((fun (s : State) (h w rms worst : Nat) => headInst s h = true ∧ Machine.get s (F.CH_CTRL_EN h) ≠ 0 ∧ wpllSt s h = 2 ∧ unitGood w = false) (updChan 0 (fun c => { c with last := some ⟨511, 7, 2, 1, 3, 0⟩ }) (servo 4 {} [(F.CH_CTRL_EN 0, 1), (F.CH_STATUS_WPLL_STATE 0, 2)])) (0) (1) (7) (6)) ∧
    ((fun (s : State) (h w rms worst : Nat) => headInst s h = true ∧ Machine.get s (F.CH_CTRL_EN h) ≠ 0 ∧ wpllSt s h = 3) (updChan 0 (fun c => { c with last := some ⟨511, 7, 2, 1, 3, 0⟩ }) (servo 4 {} [(F.CH_CTRL_EN 0, 1), (F.CH_STATUS_WPLL_STATE 0, 3)])) (0) (1) (7) (6)) ∧
    ((fun (s : State) (h w rms worst : Nat) (e : AddrUnit) => headInst s h = true ∧ Machine.get s (F.CH_CTRL_EN h) ≠ 0 ∧ wpllSt s h = 2 ∧ unitGood w = true ∧ Machine.get s (F.CH_STATUS_ADDR_CONF h) = 1 ∧ (chanOf s h).expect = some e ∧ sameUnit (nextUnit e) (unitFields w) = true ∧ ((Machine.get s (F.SV_STATUS_STATE h) = 6 → (servoOf s h).landed = false))) (updChan 0 (fun c => { c with expect := some ⟨511, 7, 2, 1, 3, 0⟩ }) (servo 5 {} [(F.CH_CTRL_EN 0, 1), (F.CH_STATUS_WPLL_STATE 0, 2), (F.CH_STATUS_ADDR_CONF 0, 1)])) (0) (unitWord ⟨0, 8, 2, 1, 3, 0⟩) (7) (6) (⟨511, 7, 2, 1, 3, 0⟩)) ∧
    ((fun (s : State) (h w rms worst : Nat) (e : AddrUnit) => headInst s h = true ∧ Machine.get s (F.CH_CTRL_EN h) ≠ 0 ∧ wpllSt s h = 2 ∧ unitGood w = true ∧ Machine.get s (F.CH_STATUS_ADDR_CONF h) = 1 ∧ (chanOf s h).expect = some e ∧ sameUnit (nextUnit e) (unitFields w) = false) (updChan 0 (fun c => { c with expect := some ⟨511, 7, 2, 1, 3, 0⟩, differ := 2 }) (servo 5 {} [(F.CH_CTRL_EN 0, 1), (F.CH_STATUS_WPLL_STATE 0, 2), (F.CH_STATUS_ADDR_CONF 0, 1)])) (0) (unitWord ⟨0, 9, 2, 1, 3, 0⟩) (7) (6) (⟨511, 7, 2, 1, 3, 0⟩)) ∧
    ((fun (s : State) (h : Nat) => headInst s h = true ∧ 4 ≤ Machine.get s (F.SV_STATUS_STATE h) ∧ Machine.get s (F.SV_STATUS_STATE h) ≤ 6 ∧ 0 ∈ (servoOf s h).invalid ∧ 1 ∈ (servoOf s h).invalid) (servo 5 { invalid := [0, 1] } []) (0)) ∧
    ((fun (s : State) (h : Nat) => headInst s h = true ∧ Machine.get s (F.SV_STATUS_STATE h) = 8 ∧ ((0 ∉ (servoOf s h).invalid ∨ 1 ∉ (servoOf s h).invalid)) ∧ holdTooLong s h = false ∧ (servoOf s h).heldFrom ≤ 7) (servo 8 { invalid := [1], heldFrom := 5, held := 7 } []) (0)) ∧
    ((fun (s : State) (h : Nat) => headInst s h = true ∧ Machine.get s (F.SV_STATUS_STATE h) = 8 ∧ holdTooLong s h = true ∧ (servoOf s h).heldFrom ≤ 7) (servo 8 { invalid := [0, 1], holdLen := 1000 } []) (0)) ∧
    ((fun (s : State) (h : Nat) => headInst s h = true ∧ 3 ≤ Machine.get s (F.SV_STATUS_STATE h) ∧ Machine.get s (F.SV_STATUS_STATE h) ≤ 6 ∧ 8 ≤ (servoOf s h).feRun) (servo 5 { feRun := 8 } []) (0)) ∧
    ((fun (s : State) (h : Nat) => headInst s h = true ∧ 4 ≤ (servoOf s h).teRun ∧ (servoOf s h).offTrack = false) (servo 5 { teRun := 4 } []) (0)) ∧
    ((fun (s : State) (h : Nat) => headInst s h = true ∧ 64 ≤ (servoOf s h).teClear ∧ (servoOf s h).offTrack = true) (servo 5 { teClear := 64, offTrack := true } []) (0)) ∧
    ((fun (s : State) (h : Nat) => headInst s h = true ∧ 2 ≤ Machine.get s (F.SV_STATUS_STATE h) ∧ Machine.get s (F.SV_STATUS_STATE h) ≤ 8 ∧ max 1 (Machine.get s (F.SV_LIMITS_MISS_MAX h)) ≤ (servoOf s h).missRun) (servo 8 { missRun := 3 } [(F.SV_LIMITS_MISS_MAX 0, 3), (F.SV_CMD_STATUS_BUSY 0, 1)]) (0)) := by
  and_intros <;> first | decide +kernel | rfl

theorem witness_servoCommands :
    ((fun (s : State) (h band layer : Nat) => seekOpen s h layer = true ∧ writeFree s h = true) (servo 5 {} [(F.SV_POS_BAND 0, 100), (F.SV_POS_LAYER 0, 3), (F.SV_CMD_STATUS_BUSY 0, 1)]) (0) (116) (3)) ∧
    ((fun (s : State) (h band layer : Nat) (slots : List Nat) => seekOpen s h layer = true ∧ writeFree s h = true ∧ ¬ (Machine.get s (F.SV_STATUS_STATE h) = 5 ∧ layer = Machine.get s (F.SV_POS_LAYER h) ∧ band = Machine.get s (F.SV_POS_BAND h))) (servo 5 {} [(F.SV_POS_BAND 0, 100), (F.SV_POS_LAYER 0, 3)]) (0) (101) (3) ([2, 5])) ∧
    ((fun (s : State) (h band layer : Nat) (slots : List Nat) => headInst s h = true ∧ Machine.get s (F.SV_STATUS_STATE h) = 5 ∧ writeFree s h = true ∧ ((∀ x ∈ (chanOf s h).sectors, pendingSector x = false)) ∧ layer = Machine.get s (F.SV_POS_LAYER h) ∧ band = Machine.get s (F.SV_POS_BAND h)) (servo 5 {} [(F.SV_POS_BAND 0, 100), (F.SV_POS_LAYER 0, 3), (F.SV_CMD_STATUS_BUSY 0, 1)]) (0) (100) (3) ([2, 5])) ∧
    ((fun (s : State) (h band layer : Nat) => seekOpen s h layer = true ∧ writeFree s h = true) (servo 5 {} [(F.SV_POS_BAND 0, 100), (F.SV_POS_LAYER 0, 3)]) (0) (85) (3)) ∧
    ((fun (s : State) (h band layer : Nat) (slots : List Nat) (op : Nat) => seekOpen s h layer = true ∧ 1 ≤ Machine.get s (F.WRP_STATUS_STATE h) ∧ Machine.get s (F.WRP_STATUS_STATE h) ≤ 5 ∧ op ≤ 2) (servo 5 {} [(F.SV_POS_LAYER 0, 3), (F.WRP_STATUS_STATE 0, 2)]) (0) (85) (3) ([]) (2)) ∧
    ((fun (s : State) (h : Nat) => headInst s h = true ∧ 2 ≤ Machine.get s (F.SV_STATUS_STATE h) ∧ Machine.get s (F.SV_STATUS_STATE h) ≤ 8) (servo 8 {} [(F.SV_STATUS_BAND_HOLD 0, 1)]) (0)) ∧
    ((fun (s : State) (h layer : Nat) (cal : Bool) => headInst s h = true ∧ Machine.get s (F.SV_STATUS_STATE h) = 1 ∧ pullInOk s h = true) (servo 1 { tePp := 2 } [(F.HL_CTRL_LASER_PERMIT 0, 1), (F.MOT_STATUS_SPEED_LOCK 0, 1), (F.MOT_SPEED 0, 96000)]) (0) (19) (true)) ∧
    ((fun (s : State) (h : Nat) => headInst s h = true ∧ 2 ≤ Machine.get s (F.SV_STATUS_STATE h) ∧ Machine.get s (F.SV_STATUS_STATE h) ≤ 8) (servo 2 {} [(F.SV_CMD_STATUS_BUSY 0, 1)]) (0)) ∧
    ((fun (s : State) (h op : Nat) => headInst s h = true ∧ 6 ≤ op ∧ op ≤ 7) (servo 2 {} []) (0) (7)) ∧
    ((fun (s : State) (h en : Nat) => headInst s h = true ∧ en % 2 = 1) (servo 0 {} []) (0) (3)) ∧
    ((fun (s : State) (h en : Nat) => headInst s h = true ∧ en % 2 = 0) (servo 5 {} [(F.SV_CTRL_EN 0, 1)]) (0) (2)) ∧
    ((fun (s : State) (h : Nat) => headInst s h = true) (servo 5 { errs := [(1, 2)] } [(F.SV_SEEKS 0, 5)]) (0)) := by
  and_intros <;> first | decide +kernel | rfl

theorem witness_servoMoves :
    ((fun (s : State) (h : Nat) => headInst s h = true ∧ Machine.get s (F.SV_STATUS_STATE h) = 6 ∧ (servoOf s h).landed = false ∧ (servoOf s h).mode ≠ 0 ∧ (servoOf s h).remain = 0) (servo 6 { mode := 2, target := some (9640, 3) } []) (0)) ∧
    ((fun (s : State) (h : Nat) => headInst s h = true ∧ (servoOf s h).seeking = true ∧ (servoOf s h).seekAt + 20480 ≤ tick s ∧ Machine.get s (F.SV_STATUS_STATE h) ∈ [3, 4, 6, 7]) (servo 7 { mode := 2, target := some (9640, 3), cmdOp := 2, seeking := true } [(F.SV_CMD_STATUS_BUSY 0, 1), (F.CLK_TICK, 20480)]) (0)) ∧
    ((fun (s : State) (h : Nat) => headInst s h = true ∧ Machine.get s (F.SV_STATUS_STATE h) = 7 ∧ jumpLayers s h ≤ (servoOf s h).cross) (servo 7 { jumpTo := 11, cross := 11 } []) (0)) ∧
    ((fun (s : State) (h band : Nat) (slots : List Nat) (free before n pos : Nat) => headInst s h = true ∧ (servoOf s h).hold = some (band, slots) ∧ Machine.get s (F.SV_STATUS_STATE h) = 5 ∧ n = 12 + fretOf band ∧ free = slots.min?.getD n ∧ before = (if slots = [] then 0 else n - 1 - slots.max?.getD 0) ∧ pos = Machine.get s (F.SV_POS_BAND h) ∧ pos = (if (if seamFits s h (free + before) then decide (free < before) else (servoOf s h).altSeam) then band else band + 1)) (servo 5 { hold := some (100, []), target := some (100, 3) } [(F.SV_POS_BAND 0, 101), (F.SV_JUMP_JUMP_ACC 0, 255)]) (0) (100) ([]) (12) (0) (12) (101)) ∧
    ((fun (s : State) (h : Nat) => headInst s h = true ∧ Machine.get s (F.SV_STATUS_STATE h) = 2 ∧ (servoOf s h).capHit = true ∧ (((servoOf s h).calSweep = false ∧ (servoOf s h).captures = (servoOf s h).jumpTo + 1) ∨ ((servoOf s h).calSweep = true ∧ 12 < (servoOf s h).captures ∧ (servoOf s h).captures + (servoOf s h).jumpTo = 24))) (servo 2 { captures := 12, jumpTo := 11, capHit := true } []) (0)) ∧
    ((fun (s : State) (h : Nat) => headInst s h = true ∧ (Machine.get s (F.SV_STATUS_STATE h) = 2 ∨ Machine.get s (F.SV_STATUS_STATE h) = 3) ∧ 160000000 * Machine.get s (F.SV_PULLIN_PULL_TIMEOUT h) ≤ 390625 * (tick s - (servoOf s h).since)) (servo 3 { pullFail := 1 } [(F.SV_CMD_STATUS_BUSY 0, 1)]) (0)) ∧
    ((fun (s : State) (h : Nat) => headInst s h = true ∧ Machine.get s (F.SV_STATUS_STATE h) = 3 ∧ (servoOf s h).trkHit = true ∧ (((servoOf s h).openRange = true → (getI s (F.SV_LENS h)).natAbs ≤ 32 * Machine.get s (F.SV_SLED_SLED_WARN h)))) (servo 3 { pullFail := 1, trkHit := true } []) (0)) ∧
    ((fun (s : State) (h : Nat) => headInst s h = true ∧ Machine.get s (F.SV_STATUS_STATE h) = 9 ∧ 16000000 * Machine.get s (F.SV_RETRACT_T_FOCUS h) ≤ 390625 * (tick s - (servoOf s h).since)) (servo 9 { cmdOp := 5 } [(F.SV_CTRL_EN 0, 1), (F.SV_CMD_STATUS_BUSY 0, 1)]) (0)) ∧
    ((fun (s : State) (h : Nat) => headInst s h = true ∧ 32 * Machine.get s (F.SV_SLED_SLED_WARN h) < (getI s (F.SV_LENS h)).natAbs) (servo 6 {} [(F.SV_LENS 0, 2049), (F.SV_SLED_LENS_MAX 0, 64), (F.SV_SLED_SLED_WARN 0, 10)]) (0)) := by
  and_intros <;> first | decide +kernel | rfl

theorem witness_hostFrontEnd :
    ((fun (s : State) (fn qid tail : Nat) (q : Queue) => (s.host.queues.find? fun q => q.sub && decide (q.fn = fn) && decide (q.qid = qid)) = some q ∧ tail < q.size) (hosted { queues := [subq 0 [], subq 2 [7]] } []) (3) (2) (1) (subq 2 [7])) ∧
    ((fun (s : State) (q : Queue) (b : Nat) (l : List Nat) => hostRuns s = true ∧ s.pwr.fetchOff = false ∧ Machine.get s F.PWR_STATUS_STATE ≠ 2 ∧ Machine.get s F.FWU_STATUS_STEP ≠ 4 ∧ slotsAll s < 8192 ∧ q.bells = b :: l ∧ nextQueue s.host.last0 ((s.host.queues.filter fun q => q.sub && decide (q.qid ≠ 0) && q.bells ≠ [] && q.deleting.isNone).filter fun q => decide (q.cls = 0)) = some q) (hosted { queues := [subq 2 [7, 8], subq 4 [7]], last0 := queueKey (subq 4 []) } []) (subq 2 [7, 8]) (7) ([8])) ∧
    ((fun (s : State) (q : Queue) (n : Nat) => hostRuns s = true ∧ s.pwr.fetchOff = false ∧ Machine.get s F.PWR_STATUS_STATE ≠ 2 ∧ Machine.get s F.FWU_STATUS_STEP ≠ 4 ∧ slotsAll s < 8192 ∧ slotsAll s - slots0 s < 7680 ∧ s.host.turns = 0 ∧ ((∀ x ∈ s.host.queues, x.sub = true → x.qid ≠ 0 → x.bells ≠ [] → x.cls ≠ 0)) ∧ nextQueue s.host.lastQ ((s.host.queues.filter fun q => q.sub && decide (q.qid ≠ 0) && q.bells ≠ [] && q.deleting.isNone).filter fun q => decide (q.cls ≠ 0)) = some q ∧ n = min (burstOf s q) (min (min (7680 - (slotsAll s - slots0 s)) (8192 - slotsAll s)) q.bells.length)) (hosted { queues := [{ subq 2 [7, 8] with cls := 2 }, subq 0 [7]] } []) ({ subq 2 [7, 8] with cls := 2 }) (1)) ∧
    ((fun (s : State) (fn qid cid opc nsid d10 d11 d12 d13 : Nat) (x : Nat × Nat × Nat) => (s.host.fetching.find? fun x => decide (x.1 = fn) && decide (x.2.1 = qid)) = some x) (hosted { fetching := [(3, 2, 6)] } [(F.HST_STAMP, 2^64 - 1)]) (3) (2) (77) (1) (5) (4) (1) (7) (0) ((3, 2, 6))) ∧
    ((fun (s : State) (fn cid opc : Nat) => adminOpen s fn = true ∧ opc ∉ adminOps fn) ({ hosted {} [(F.TAB_STATUS_SELECTED, 0)] with pwr := { started := true, hold := 0 } }) (512) (2) (0x80)) ∧
    ((fun (s : State) (fn qid cid opc : Nat) (c : Cmd) => qid ≠ 0 ∧ hostRuns s = true ∧ opc ∉ ioOps ∧ (s.host.cmds.find? fun c => decide (c.fn = fn) && decide (c.qid = qid) && decide (c.cid = cid) && decide (c.opc = opc) && decide (c.phase = .arrived)) = some c) (hosted { cmds := [cmd 0x77 .arrived] } [(F.HST_FN_STATUS_STAMP 3, 1)]) (3) (2) (77) (0x77) (cmd 0x77 .arrived)) ∧
    ((fun (s : State) (stamp : Nat) (c : Cmd) => findCmd s stamp = some c ∧ c.decided = false) (hosted { cmds := [cmd 1 .dataIn] } []) (9) (cmd 1 .dataIn)) ∧
    ((fun (s : State) (link lanes bad width : Nat) => link < 4 ∧ Machine.get s (F.HST_LINK_UP link) = 1 ∧ lanes % 2 ^ fullWidth s ≠ 0 ∧ bad = mapGet (fun _ => 0) s.host.badLanes link ||| (lanes % 2 ^ fullWidth s) ∧ width = min (Machine.get s (F.HST_LINK_WIDTH link)) (widthWithout (fullWidth s) bad)) (hosted {} [(F.HST_LINK_UP 3, 1), (F.HST_LINK_WIDTH 3, 16)]) (3) (0x100) (0x100) (8)) ∧
    ((fun (s : State) (link speed : Nat) (up : Bool) => link < 4 ∧ (fnsOfLink s link ≠ [] ∨ Machine.get s (F.HST_LINK_UP link) = 1)) ({ hosted {} [] with exposed := [(Dom.hostLink, 0)] }) (0) (5) (true)) ∧
    ((fun (s : State) (fn : Nat) => fn < 512) (hosted { queues := [subq 0 [], subq 2 [3]], fetching := [(3, 2, 6)] } [(F.HST_FN_STATUS_RDY 3, 1)]) (3)) ∧
    ((fun (s : State) (fn ams b : Nat) => fn < 512 ∧ Machine.get s (F.HST_FN_STATUS_CCEN fn) ≠ 1 ∧ Machine.get s (F.HST_FN_STATUS_RDY fn) ≠ 1 ∧ inflightOf s fn = 0 ∧ 2 ≤ Machine.get s (F.HST_FN_CFG_CTX fn) ∧ b = freeCtx { s with host := { s.host with queues := s.host.queues ++ [⟨fn, 0, true, freeCtx s, 4096, 0, 0, 0, [], none, none⟩] } }) (hosted { queues := [subq 0 []] } [(F.HST_FN_CFG_CTX 511, 2)]) (511) (1) (2)) := by
  and_intros <;> first | decide +kernel | rfl

theorem witness_hostReadsAndWrites :
    ((fun (s : State) (stamp : Nat) (c : Cmd) => findCmd s stamp = some c ∧ hostRuns s = true ∧ c.opc = Op.read ∧ c.phase = .arrived ∧ rangeError s c (c.ranges.getD []) = none) (spaced { cmds := [cmd 2 .arrived] } []) (9) (cmd 2 .arrived)) ∧
    ((fun (s : State) (stamp : Nat) (c : Cmd) (e : Nat × Nat × Nat) => findCmd s stamp = some c ∧ hostRuns s = true ∧ c.opc = Op.read ∧ c.phase = .arrived ∧ rangeError s c (c.ranges.getD []) = some e) (hosted { cmds := [cmd 2 .arrived] } []) (9) (cmd 2 .arrived) ((0, 2, 1))) ∧
    ((fun (s : State) (stamp : Nat) (c : Cmd) => findCmd s stamp = some c ∧ hostRuns s = true ∧ c.opc = Op.verify ∧ c.phase = .arrived ∧ rangeError s c (c.ranges.getD []) = none) (spaced { cmds := [{ cmd 1 .arrived with stamp := 8 }, cmd 0xc .arrived] } []) (9) (cmd 0xc .arrived)) ∧
    ((fun (s : State) (stamp : Nat) (c : Cmd) (e : Nat × Nat × Nat) => findCmd s stamp = some c ∧ hostRuns s = true ∧ c.opc = Op.verify ∧ c.phase = .arrived ∧ rangeError s c (c.ranges.getD []) = some e) (hosted { cmds := [cmd 0xc .arrived] } []) (9) (cmd 0xc .arrived) ((0, 2, 1))) ∧
    ((fun (s : State) (stamp : Nat) (c : Cmd) => findCmd s stamp = some c ∧ hostRuns s = true ∧ (c.opc = Op.read ∨ c.opc = Op.verify) ∧ c.phase = .ordering ∧ blocked s c = false) (spaced { cmds := [{ cmd 0xc .ordering with ranges := some [(256, 2)] }] } []) (9) ({ cmd 0xc .ordering with ranges := some [(256, 2)] })) ∧
    ((fun (s : State) (stamp : Nat) (c : Cmd) (bs : List (Nat × Nat × Nat)) => findCmd s stamp = some c ∧ hostRuns s = true ∧ c.opc = Op.recall ∧ c.phase = .ordering ∧ blocked s c = false ∧ bs = toStage s c) (spaced { cmds := [{ cmd 0x85 .ordering with ranges := some [(256, 2)] }] } []) (9) ({ cmd 0x85 .ordering with ranges := some [(256, 2)] }) ([])) ∧
    ((fun (s : State) (stamp : Nat) (c : Cmd) => findCmd s stamp = some c ∧ c.phase = .transfer ∧ egressWaits (loseBad c s) c = false ∧ ((∀ r ∈ c.resolved, blockData (loseBad c s) c.nsid r.1 r.2 ≠ .waiting)) ∧ firstLost (loseBad c s) c.nsid c.resolved = none) (spaced { cmds := [{ cmd 2 .transfer with resolved := [(256, .unmapped)] }] } []) (9) ({ cmd 2 .transfer with resolved := [(256, .unmapped)] })) ∧
    ((fun (s : State) (stamp lba cause : Nat) (c : Cmd) => findCmd s stamp = some c ∧ c.phase = .transfer ∧ egressWaits (loseBad c s) c = false ∧ ((∀ r ∈ c.resolved, blockData (loseBad c s) c.nsid r.1 r.2 ≠ .waiting)) ∧ firstLost (loseBad c s) c.nsid c.resolved = some (lba, cause)) (spaced { cmds := [{ cmd 2 .transfer with resolved := [(255, .unmapped), (256, .unavailable 3)] }] } []) (9) (256) (3) ({ cmd 2 .transfer with resolved := [(255, .unmapped), (256, .unavailable 3)] })) ∧
    ((fun (s : State) (stamp : Nat) (c : Cmd) => findCmd s stamp = some c ∧ hostRuns s = true ∧ c.opc = Op.write ∧ c.phase = .arrived ∧ rangeError s c (c.ranges.getD []) = none ∧ writeFault s c.nsid = false) (spaced { cmds := [{ cmd 1 .arrived with ranges := some [(256, 2)] }] } []) (9) ({ cmd 1 .arrived with ranges := some [(256, 2)] })) ∧
    ((fun (s : State) (stamp : Nat) (c : Cmd) (e : Nat × Nat × Nat) => findCmd s stamp = some c ∧ hostRuns s = true ∧ c.opc = Op.write ∧ c.phase = .arrived ∧ (rangeError s c (c.ranges.getD []) = some e ∨ (rangeError s c (c.ranges.getD []) = none ∧ writeFault s c.nsid = true ∧ e = (2, 0x80, 0)))) (spaced { cmds := [cmd 1 .arrived] } [(F.ARB_AR_STATUS_PSTATE 0, 1)]) (9) (cmd 1 .arrived) ((2, 0x80, 0))) ∧
    ((fun (s : State) (stamp : Nat) (c : Cmd) (data : List Nat) => findCmd s stamp = some c ∧ c.phase = .dataIn) (spaced { cmds := [{ cmd 1 .dataIn with pages := [3] }] } []) (9) ({ cmd 1 .dataIn with pages := [3] }) ([77])) ∧
    ((fun (s : State) (stamp : Nat) (c : Cmd) => findCmd s stamp = some c ∧ admissible s c = true ∧ admitCheck s c (partsOf (writeRange c).1 (writeRange c).2) = .normal) ({ spaced { cmds := [{ cmd 1 .admission with ranges := some [(256, 256)], pages := List.range 256 }] } [(F.PLP_D_MAX, 2 ^ 32)] with lib := { spaces := [⟨5, 2, 100, true, false, [3]⟩], sets := [(0, { st := 1, members := [1], slot := 0 })] } }) (9) ({ cmd 1 .admission with ranges := some [(256, 256)], pages := List.range 256 })) ∧
    ((fun (s : State) (stamp : Nat) (c : Cmd) => findCmd s stamp = some c ∧ admissible s c = true ∧ admitCheck s c (partsOf (writeRange c).1 (writeRange c).2) = .waits) ({ spaced { cmds := [{ cmd 1 .admission with ranges := some [(256, 256)], pages := [3] }] } [] with lib := { spaces := [⟨5, 2, 100, true, false, [3]⟩], sets := [(0, { st := 1, members := [1], slot := 0 })] } }) (9) ({ cmd 1 .admission with ranges := some [(256, 256)], pages := [3] })) ∧
    ((fun (s : State) (stamp : Nat) (c : Cmd) => findCmd s stamp = some c ∧ hostRuns s = true ∧ c.opc = Op.flush ∧ c.phase = .arrived ∧ (c.nsid = 0xffffffff ∨ ((findSpace s c.nsid).any fun n => decide (c.fn ∈ n.attach)) = true)) (spaced { cmds := [cmd 0 .arrived] } []) (9) (cmd 0 .arrived)) ∧
    ((fun (s : State) (stamp : Nat) (c : Cmd) => findCmd s stamp = some c ∧ c.phase = .flushing ∧ ((∀ e ∈ s.host.cmds, e.modifies = true → e.stamp < stamp → c.nsid ≠ 0xffffffff ∧ e.nsid ≠ c.nsid))) (spaced { cmds := [cmd 0 .flushing] } []) (9) (cmd 0 .flushing)) := by
  and_intros <;> first | decide +kernel | rfl

theorem witness_hostQueuesAndDeallocation :
    ((fun (s : State) (stamp : Nat) (c : Cmd) => findCmd s stamp = some c ∧ hostRuns s = true ∧ c.opc = Op.writeZeroes ∧ c.phase = .arrived ∧ rangeError s c (c.ranges.getD []) = none) (spaced { cmds := [cmd 8 .arrived] } []) (9) (cmd 8 .arrived)) ∧
    ((fun (s : State) (stamp : Nat) (c : Cmd) (e : Nat × Nat × Nat) => findCmd s stamp = some c ∧ hostRuns s = true ∧ c.opc = Op.writeZeroes ∧ c.phase = .arrived ∧ rangeError s c (c.ranges.getD []) = some e) (hosted { cmds := [cmd 8 .arrived] } []) (9) (cmd 8 .arrived) ((0, 2, 1))) ∧
    ((fun (s : State) (stamp : Nat) (c : Cmd) (rs : List (Nat × Nat)) => findCmd s stamp = some c ∧ hostRuns s = true ∧ c.opc = Op.dsm ∧ c.phase = .arrived ∧ rangeError s { c with ranges := some rs } rs = none) (spaced { cmds := [cmd 9 .arrived] } []) (9) (cmd 9 .arrived) ([(256, 256)])) ∧
    ((fun (s : State) (stamp : Nat) (c : Cmd) (rs : List (Nat × Nat)) => findCmd s stamp = some c ∧ hostRuns s = true ∧ c.opc = Op.recall ∧ c.phase = .arrived ∧ rangeError s { c with ranges := some rs } rs = none) (spaced { cmds := [cmd 0x85 .arrived] } []) (9) (cmd 0x85 .arrived) ([(0, 1)])) ∧
    ((fun (s : State) (fn cid qid size cqid prio : Nat) => fn < 512 ∧ adminOpen s fn = true ∧ qid ≠ 0 ∧ findQueue s fn qid true = none ∧ Machine.get s (F.HST_FN_STATUS_IOQ fn) + 2 < ctxLimit s fn ∧ (findQueue s fn cqid false).isSome = true ∧ cqid ≠ 0 ∧ 2 ≤ size ∧ size ≤ 65536) (hosted { queues := [⟨3, 1, false, 0, 16, 0, 0, 0, [], none, none⟩] } [(F.TAB_STATUS_SELECTED, 0)]) (3) (8) (2) (2) (1) (1)) ∧
    ((fun (s : State) (fn cid qid size : Nat) (vector : Option Nat) => fn < 512 ∧ adminOpen s fn = true ∧ qid ≠ 0 ∧ findQueue s fn qid false = none ∧ Machine.get s (F.HST_FN_STATUS_IOQ fn) + 2 < ctxLimit s fn ∧ 2 ≤ size ∧ size ≤ 65536 ∧ ((∀ v, vector = some v → v < msixVectors s fn))) (hosted {} [(F.TAB_STATUS_SELECTED, 0)]) (3) (8) (2) (65536) (some 7)) ∧
    ((fun (s : State) (fn cid qid : Nat) (q : Queue) => fn < 512 ∧ adminOpen s fn = true ∧ findQueue s fn qid true = some q ∧ qid ≠ 0 ∧ q.deleting = none) (hosted { queues := [subq 0 [], subq 2 [3]], fetching := [(3, 2, 6)] } [(F.HST_FN_STATUS_IOQ 3, 1), (F.TAB_STATUS_SELECTED, 0)]) (3) (8) (2) (subq 2 [3])) ∧
    ((fun (s : State) (fn cid qid : Nat) => fn < 512 ∧ adminOpen s fn = true ∧ findQueue s fn qid true = none) (hosted {} [(F.TAB_STATUS_SELECTED, 0)]) (3) (8) (2)) ∧
    ((fun (s : State) (fn cid qid : Nat) (q : Queue) => fn < 512 ∧ adminOpen s fn = true ∧ findQueue s fn qid false = some q ∧ qid ≠ 0 ∧ ((∀ x ∈ s.host.queues, x.sub = true → x.fn = fn → x.cq ≠ qid))) (hosted { queues := [⟨3, 1, false, 0, 16, 0, 0, 0, [], none, none⟩] } [(F.HST_FN_STATUS_IOQ 3, 1), (F.TAB_STATUS_SELECTED, 0)]) (3) (8) (1) (⟨3, 1, false, 0, 16, 0, 0, 0, [], none, none⟩)) ∧
    ((fun (s : State) (fn cid sqid acid : Nat) (c : Cmd) => fn < 512 ∧ adminOpen s fn = true ∧ (s.host.cmds.find? fun c => decide (c.fn = fn) && decide (c.qid = sqid) && decide (c.cid = acid) && !c.decided) = some c) (hosted { cmds := [cmd 2 .arrived] } [(F.TAB_STATUS_SELECTED, 0)]) (3) (8) (2) (77) (cmd 2 .arrived)) ∧
    ((fun (s : State) (fn cid sqid acid : Nat) => fn < 512 ∧ adminOpen s fn = true ∧ ((∀ c ∈ s.host.cmds, c.fn = fn → c.qid = sqid → c.cid = acid → c.decided = true))) (hosted { cmds := [{ cmd 2 .arrived with decided := true }] } [(F.TAB_STATUS_SELECTED, 0)]) (3) (8) (2) (77)) := by
  and_intros <;> first | decide +kernel | rfl

theorem witness_bayLinkPackets :
    ((fun (s : State) (l viol rtt : Nat) (chars : List BayChar) (d : List Nat) => linkInst s l = true ∧ 1 ≤ Machine.get s (F.BL_STATUS_STATE l) ∧ Machine.get s (F.BL_STATUS_STATE l) ≤ 3 ∧ headerIn chars = some d) (bused 1 3 {} []) (1) (2) (100) (packetChars 0x80 [5, 0, 1, 2, 0x11, 0, 0, 0, 9, 0, 0, 0, 255, 255, 255, 255, 7, 0, 0, 0, 7, 0, 0, 0]) ([5, 0, 1, 2, 0x11, 0, 0, 0, 9, 0, 0, 0, 255, 255, 255, 255, 7, 0, 0, 0, 7, 0, 0, 0])) ∧
    ((fun (s : State) (l viol rtt : Nat) (chars : List BayChar) => linkInst s l = true ∧ 1 ≤ Machine.get s (F.BL_STATUS_STATE l) ∧ Machine.get s (F.BL_STATUS_STATE l) ≤ 3 ∧ headerIn chars = none) (bused 1 3 {} []) (1) (2) (100) ([.k27_7, .data 0x80, .k29_7])) ∧
    ((fun (s : State) (l viol late : Nat) (chars : List BayChar) (m : Observed) (es : List (Nat × Nat × Nat)) => l < 32 ∧ linkInst s l = true ∧ linkUp s l = true ∧ es = conversions chars) (bused 1 3 {} [(F.CMOT_BUS_CTRL_OV_OFF 0, 200), (F.MOT_STATUS_STATE 1, 3)]) (1) (3) (1) (packetChars 0x81 [3, 4, 0, 1]) (⟨48000, 5, 7, 9, 3, true, -4, 6⟩) (conversions (packetChars 0x81 [3, 4, 0, 1]))) ∧
    ((fun (s : State) (c viol late : Nat) (chars : List BayChar) (m : Observed) (es : List (Nat × Nat × Nat)) => linkInst s (32 + c) = true ∧ linkUp s (32 + c) = true ∧ es = conversions chars) (bused 35 3 {} [(F.CMOT_BUS_CTRL_OV_OFF 3, 200)]) (3) (3) (1) (packetChars 0x81 [2, 9, 0, 1, 3, 10, 1, 1]) (⟨-48000, 5, 7, 9, 3, true, -4, 6⟩) (conversions (packetChars 0x81 [2, 9, 0, 1, 3, 10, 1, 1]))) ∧
    ((fun (s : State) (l viol : Nat) (chars : List BayChar) (d : List Nat) => linkInst s l = true ∧ Machine.get s (F.BL_STATUS_STATE l) = 2 ∧ ((payloadsOf 0x85 chars).find? fun d => decide (d.length = 16)) = some d) (bused 35 2 {} []) (35) (0) (packetChars 0x85 [2, 1, 0, 0, 0, 0, 20, 0, 0, 0, 0, 0, 0, 0, 0, 0]) ([2, 1, 0, 0, 0, 0, 20, 0, 0, 0, 0, 0, 0, 0, 0, 0])) ∧
    ((fun (s : State) (l d nd : Nat) => linkInst s l = true ∧ codeGood d nd = true) (bused 1 2 { raw := 0xffff } [(F.CLK_TIME, 9)]) (1) (15) (240)) ∧
    ((fun (s : State) (l d nd : Nat) => linkInst s l = true ∧ codeGood d nd = false) (bused 1 2 {} []) (1) (15) (241)) ∧
    ((fun (s : State) (l : Nat) => linkInst s l = true) (bused 35 2 {} [(F.BL_CODE_ERR 35, 4)]) (35)) := by
  and_intros <;> first | decide +kernel | rfl

theorem witness_bayLinkStates :
    ((fun (s : State) (l : Nat) => linkInst s l = true ∧ Machine.get s (F.BL_STATUS_STATE l) = 2 ∧ (busOf s l).known = true ∧ 16 ≤ (busOf s l).upRun ∧ 32 ≤ l) (bused 35 2 { known := true, upRun := 16, repeats := 2 } []) (35)) ∧
    ((fun (s : State) (l : Nat) => linkInst s l = true ∧ Machine.get s (F.BL_STATUS_STATE l) = 2 ∧ (busOf s l).known = true ∧ 16 ≤ (busOf s l).upRun ∧ l < 32) (bused 1 2 { known := true, upRun := 16 } [(F.MOV_AX_CTRL_EN 1 2, 1), (F.MOV_AX_CTRL_EN 1 0, 1)]) (1)) ∧
    ((fun (s : State) (l : Nat) => linkInst s l = true ∧ linkUp s l = true ∧ 3 ≤ (busOf s l).downRun) (bused 1 3 { known := true, downRun := 3, stepEn := true } [(F.MOV_AX_STATUS_STATE 1 0, 2), (F.MOV_AX_STATUS_BUSY 1 0, 1)]) (1)) ∧
    ((fun (s : State) (l : Nat) => linkInst s l = true ∧ Machine.get s (F.BL_CTRL_EN l) ≠ 0 ∧ Machine.get s (F.BL_STATUS_STATE l) ≤ 2 ∧ elapsed s (busOf s l).trainAt 15625000 = true) (bused 1 2 { known := true, upRun := 3 } [(F.BL_CTRL_EN 1, 1), (F.CLK_TIME, 15625000)]) (1)) ∧
    ((fun (s : State) (l en : Nat) => linkInst s l = true ∧ en % 2 = 1) (bused 35 0 {} []) (35) (3)) ∧
    ((fun (s : State) (l en : Nat) => linkInst s l = true ∧ en % 2 = 0) (bused 1 3 { stepEn := true, pwmEn := true } [(F.BL_CTRL_EN 1, 1)]) (1) (2)) ∧
    ((fun (s : State) (l : Nat) => linkInst s l = true ∧ Machine.get s (F.BL_CTRL_EN l) ≠ 0) (bused 35 4 { pwmEn := true } [(F.BL_CTRL_EN 35, 1)]) (35)) ∧
    ((fun (s : State) (b d nd ns a : Nat) (phB : Bool) => bayInst s b = true ∧ codeGood d nd = true ∧ d % 32 = 1 ∧ d / 64 % 4 = a ∧ bitOf d 5 = (if phB then 1 else 0)) (updAx 1 2 (fun x => { x with gateB := 2, gateA := 1 }) (bused 1 3 {} [])) (1) (161) (94) (9) (2) (true)) ∧
    ((fun (s : State) (b d nd ns : Nat) => bayInst s b = true ∧ codeGood d nd = false) (bused 1 3 {} []) (1) (161) (95) (0)) ∧
    ((fun (s : State) (l d nd a : Nat) => linkInst s l = true ∧ codeGood d nd = true ∧ d % 32 = 2 ∧ a = d / 64 % 4) (bused 1 3 { pwmEn := true } [(F.MOT_STATUS_STATE 1, 3)]) (1) (194) (61) (3)) ∧
    ((fun (s : State) (l d nd : Nat) => linkInst s l = true ∧ codeGood d nd = false) (bused 35 3 {} []) (35) (2) (2)) := by
  and_intros <;> first | decide +kernel | rfl

theorem witness_writeSessions :
    ((fun (s : State) (h hd layer fret first bands n : Nat) => headInst s h = true ∧ Machine.get s (F.WRP_STATUS_STATE h) = 0 ∧ n = extentBands s h bands ∧ extentFits s h hd layer fret first n = true ∧ pulseActive s h (compTable s h (baseTable s h layer fret)) = true ∧ extentEnergy s (n * (12 + fret) * 64) = true ∧ writePermit s h = true ∧ bitOf (Machine.get s F.THM_LASER_THR) h ≠ 1) (ready) (0) (6) (3) (2) (firstDataBand 2) (1) (1)) ∧
    ((fun (s : State) (h : Nat) (mses : List (List Nat)) (means : List Nat) => headInst s h = true ∧ Machine.get s (F.WRP_STATUS_STATE h) = 1 ∧ (writeOf s h).calRead = true ∧ mses.length = 12 ∧ [] ∉ mses ∧ means = mses.map (fun l => (roundQuot (l.sum : Nat) l.length).toNat)) (writing 1 { set := 6, layer := 3, fret := 2, first := 190, bands := 3, calRead := true, calTable := List.replicate 136 1 } [(F.WRP_CAL_MSE_MAX 0, 50)]) (0) ([[90], [40, 42], [60], [70], [80], [90], [90], [90], [90], [90], [90], [90]]) ([90, 41, 60, 70, 80, 90, 90, 90, 90, 90, 90, 90])) ∧
    ((fun (s : State) (h : Nat) => headInst s h = true ∧ Machine.get s (F.WRP_STATUS_STATE h) = 2 ∧ passOver s h = true ∧ Machine.get s (F.WRP_STATUS_GATE h) ≠ 1) (writing 2 { set := 6, layer := 0, fret := 2, first := 200, bands := 2, span := 2, origin := 200, pos := some (2 ^ 70), chunks := [chunk] } [(F.SV_POS_BAND 0, 202)]) (0)) ∧
    ((fun (s : State) (h : Nat) => headInst s h = true ∧ Machine.get s (F.WRP_STATUS_STATE h) = 3 ∧ verifyOver s h ((writeOf s h).first + (writeOf s h).bands - 1) = true) (writing 3 { set := 6, layer := 0, fret := 2, first := 200, bands := 2, chunks := [chunk], passed := [chunk] } []) (0)) ∧
    ((fun (s : State) (h : Nat) => headInst s h = true ∧ Machine.get s (F.WRP_STATUS_STATE h) = 4 ∧ passOver s h = true ∧ Machine.get s (F.WRP_STATUS_GATE h) ≠ 1) (writing 4 { set := 6, layer := 0, fret := 2, origin := 190, span := 1, pos := some (2 ^ 70), chunks := [chunk] } [(F.SV_POS_BAND 0, 202), (F.WRP_STATUS_BAND 0, 190)]) (0)) ∧
    ((fun (s : State) (h : Nat) => headInst s h = true ∧ Machine.get s (F.WRP_STATUS_STATE h) = 5 ∧ verifyOver s h (writeOf s h).origin = true) (writing 5 { set := 6, layer := 0, fret := 2, first := 200, bands := 2, chunks := [chunk], passed := [chunk] } []) (0)) ∧
    ((fun (s : State) (h since : Nat) (b : Int) => headInst s h = true ∧ recording s h = true ∧ (writeOf s h).closedAt = some (b, since) ∧ Machine.get s (F.WRP_STATUS_GATE h) ≠ 1 ∧ since + 5120 * Machine.get s (F.WRP_CTRL_RESUME_REVS h) ≤ tick s) (let s := writing 2 { set := 6, closedAt := some (7, 3) } ((F.CLK_TICK, 10 ^ 6) :: (List.range 16).map fun i => (F.PAR_RB_STATUS_STATE i, 1)); updSet 6 (fun d => { d with rows := [] }) s) (0) (3) (7)) := by
  and_intros <;> first | decide +kernel | rfl

theorem witness_writeGateAndEvents :
    ((fun (s : State) (h : Nat) => headInst s h = true ∧ recording s h = true ∧ Machine.get s (F.WRP_STATUS_GATE h) = 1 ∧ (gateCause s h = true ∨ (writeOf s h).closeReq = true)) (writing 2 { chunks := [chunk], closeReq := true, origin := 200, fret := 2, pos := some 0 } [(F.WRP_STATUS_GATE 0, 1)]) (0)) ∧
    ((fun (s : State) (h since : Nat) (b p : Int) => headInst s h = true ∧ recording s h = true ∧ Machine.get s (F.WRP_STATUS_GATE h) ≠ 1 ∧ (writeOf s h).closedAt = some (b, since) ∧ (writeOf s h).pos = some p ∧ 16 ≤ (writeOf s h).clear ∧ gateCause s h = false ∧ motSt s (bayOf h) = 3) (updServo 0 (fun x => { x with steady := true }) (writing 4 { chunks := [chunk], closedAt := some (5, 3), pos := some 5, origin := 200, span := 1, fret := 2, clear := 16 } [(F.CH_STATUS_WPLL_STATE 0, 2), (F.CH_STATUS_ADDR_CONF 0, 1), (F.CH_STATUS_SPEED_OK 0, 1), (F.HL_CTRL_LASER_PERMIT 0, 1), (F.WRP_CTRL_EN 0, 1), (F.MOT_STATUS_STATE 0, 3)])) (0) (3) (5) (5)) ∧
    ((fun (s : State) (h addr cw : Nat) (c : Chunk) => headInst s h = true ∧ (Machine.get s (F.WRP_STATUS_STATE h) = 2 ∨ Machine.get s (F.WRP_STATUS_STATE h) = 4) ∧ ((writeOf s h).chunks.find? fun c => decide (c.addr = addr)) = some c ∧ cw < 9 ∧ (linkOf s h).ds.wrAt ≤ wordFrom s h c cw ∧ wordFrom s h c cw < (linkOf s h).ds.wrAt + (linkOf s h).ds.wrBits ∧ mapFind (writeOf s h).cut addr = none) (updLink 0 (fun k => { k with ds := { k.ds with wrAt := 1600, wrBits := 60 } }) (writing 2 { chunks := [chunk], origin := 200, span := 1, fret := 2 } [])) (0) (1024 * 200) (0) (chunk)) ∧
    ((fun (s : State) (h : Nat) => headInst s h = true) (writing 2 { chunks := [chunk] } []) (0)) ∧
    ((fun (s : State) (h : Nat) => headInst s h = true) (writing 2 { chunks := [chunk] } [(F.WRP_DAMAGED 0, 3)]) (0)) ∧
    ((fun (s : State) (h : Nat) (m : Msg) => frontMsg s h (fun ty => decide (ty = 0x82)) = some m ∧ m.seq = (linkOf s h).rxSeq) (linked 5 { inbox := [(0, ⟨0x82, 4, [2, 7], 0⟩)], rxSeq := 4 } []) (0) (⟨0x82, 4, [2, 7], 0⟩)) ∧
    ((fun (s : State) (h : Nat) (m : Msg) => frontMsg s h (fun ty => decide (ty = 0x82)) = some m ∧ m.seq ≠ (linkOf s h).rxSeq) (linked 5 { inbox := [(0, ⟨0x82, 3, [2, 7], 0⟩)], rxSeq := 4 } []) (0) (⟨0x82, 3, [2, 7], 0⟩)) := by
  and_intros <;> first | decide +kernel | rfl

theorem witness_loopCellSamples :
    ((fun (s : State) (n p : Nat) => n < 512 ∧ p = primaryCell s n ∧ sampleTaken s p = true) (celled 511 { due := true, dueBy := 99, at' := some 0 } [] [(F.CELL_CTRL_EN 511, 1), (F.CELL_CTRL_RATE 511, 3), (F.CELL_IN_FORCE 511 0, 10), (F.CELL_IN_FORCE 511 2, 7), (F.CELL_IN_FORCE 511 3, 2 ^ 30), (F.CELL_CTRL_MODE 511, 1)]) (511) (511)) ∧
    ((fun (s : State) (n p : Nat) => n < 512 ∧ p = primaryCell s n ∧ sampleOpen s p = true ∧ (frozen s p = true ∨ (inputsIn s p = true ∧ inputsValid s p = false))) (celled 511 { due := true, cur := 5, at' := some 0 } [] [(F.CELL_CTRL_EN 511, 1), (F.CELL_STATUS_CAPO_ACTIVE 511, 1)]) (511) (511)) ∧
    ((fun (s : State) (n : Nat) => n < 512 ∧ openSample s n = true) (celled 511 { due := true, cur := 5 } [] [(F.CELL_CTRL_EN 511, 1)]) (511)) ∧
    ((fun (s : State) (n : Nat) => pairGood s n = true ∧ cellRole s n ≠ 2 ∧ boundaryDue s n = true) (celled 511 { due := false, cur := 5 } [(510, 2, 3), (511, 111, 7), (511, 3, 4)] [(F.CELL_CTRL_EN 511, 1), (F.CELL_STATUS_SET_PEND 511, 1)]) (511)) ∧
    ((fun (s : State) (n k v : Nat) => pairGood s n = true ∧ isCoef k = true ∧ coefFull s n = []) (celled 511 {} [] []) (511) (108) (7)) ∧
    ((fun (s : State) (n k v : Nat) => pairGood s n = true ∧ isCoef k = true ∧ coefFull s n ≠ []) (celled 511 {} (List.replicate 64 (3, 2, 1)) [(F.CELL_CTRL_EN 511, 1)]) (511) (0) (2 ^ 32 + 1)) ∧
    ((fun (s : State) (n reg v : Nat) => pairGood s n = true ∧ reg < 19 ∧ tileUp s (primaryCell s n / 32) = true ∧ stateOpen s (primaryCell s n) = true) (celled 511 {} [] []) (511) (18) (2 ^ 62)) ∧
    ((fun (s : State) (n reg v : Nat) => pairGood s n = true ∧ reg < 19 ∧ tileUp s (primaryCell s n / 32) = true ∧ stateOpen s (primaryCell s n) = false) (celled 511 {} [] [(F.CELL_CTRL_EN 511, 1)]) (511) (18) (2 ^ 62)) := by
  and_intros <;> first | decide +kernel | rfl

theorem witness_loopCellControlAndTiles :
    ((fun (s : State) (n en : Nat) => cellReach s n = true ∧ pairGood s n = true ∧ Machine.get s (F.CELL_CTRL_EN (primaryCell s n)) ≠ en % 2) (paired id []) (70) (1)) ∧
    ((fun (s : State) (n en : Nat) => cellReach s n = true ∧ Machine.get s (F.CELL_CTRL_EN (primaryCell s n)) = en % 2) (celled 40 {} [] []) (40) (2)) ∧
    ((fun (s : State) (n ctrl : Nat) => cellReach s n = true ∧ pairGood s n = true ∧ Machine.get s (F.CELL_CTRL_EN (primaryCell s n)) = 0 ∧ ctrl / 32 % 8 ≤ 5 ∧ ctrl / 256 % 64 < ratePeriod (ctrl / 32 % 8)) (celled 40 {} [] []) (40) (0x4000 * 8 + 39 * 256 + 5 * 32 + 16)) ∧
    ((fun (s : State) (n ctrl : Nat) => cellReach s n = true ∧ Machine.get s (F.CELL_CTRL_EN (primaryCell s n)) = 0 ∧ (5 < ctrl / 32 % 8 ∨ ratePeriod (ctrl / 32 % 8) ≤ ctrl / 256 % 64)) (celled 40 {} [] []) (40) (256)) ∧
    ((fun (s : State) (n code : Nat) (sp : Bool) => cellReach s n = true ∧ pairGood s n = true) (celled 40 {} [] []) (40) (0x5003) (true)) ∧
    ((fun (s : State) (n : Nat) => cellReach s n = true ∧ pairGood s n = true) (celled 40 {} [] [(F.CELL_CTRL_EN 40, 1)]) (40)) ∧
    ((fun (s : State) (n : Nat) => cellReach s n = true ∧ pairGood s n = true) (celled 40 {} [] [(F.CELL_CTRL_EN 40, 1)]) (40)) ∧
    ((fun (s : State) (n : Nat) => cellReach s n = true ∧ pairGood s n = true) (paired id [(F.CELL_OUT 40, 2 ^ 31)]) (40)) ∧
    ((fun (s : State) (n : Nat) => cellReach s n = true) (celled 40 {} [] [(F.CELL_HELD 40, 2 ^ 31)]) (40)) ∧
    ((fun (s : State) (k : Nat) => k < 16) (celled 40 {} [] [(F.LE_NODE_WIN 15 7, 0x10003)]) (15)) ∧
    ((fun (s : State) (k cause cell : Nat) => tileUp s k = true ∧ 1 ≤ cause ∧ cause ≤ 4) (celled 40 {} [(40, 1, 2)] []) (1) (4) (33)) ∧
    ((fun (s : State) (k : Nat) => k < 16 ∧ tileUp s k = false ∧ k ∉ s.loop.testing) (celled 40 {} [] [(F.LE_TILE_STATUS_IN_SERVICE 15, 0)]) (15)) ∧
    ((fun (s : State) (k : Nat) => k < 16 ∧ k ∈ s.loop.testing) (let s := celled 40 {} [] [(F.CELL_CTRL_EN 480, 1), (F.CELL_KP 511, 7)]; { s with loop := { s.loop with testing := [3, 15] } }) (15)) := by
  and_intros <;> first | decide +kernel | rfl

theorem witness_axisStepsAndGates :
    ((fun (s : State) (b ax : Nat) (x : Axis) (p : Int) (v : Nat) => axInst s b ax = true ∧ 2 ≤ axSt s b ax ∧ axSt s b ax ≤ 5 ∧ x = axOf s b ax ∧ x.ticks ≠ 0 ∧ elapsed s x.stepAt 0 = true ∧ p = axPos s b ax + (if x.forward then 1 else -1) ∧ v = stepSpeed s b ax x p ∧ (¬ (x.plan = 2 ∧ ((x.forward = true ∧ softMax s b ax ≤ p) ∨ (x.forward = false ∧ p ≤ softMin s b ax))))) (moving 0 2 { v2 := 12000000, ticks := 5, forward := true, target := 60, dec := 2400 } []) (1) (0) ({ v2 := 12000000, ticks := 5, forward := true, target := 60, dec := 2400 }) (51) (stepSpeed (moving 0 2 { v2 := 12000000, ticks := 5, forward := true, target := 60, dec := 2400 } []) 1 0 { v2 := 12000000, ticks := 5, forward := true, target := 60, dec := 2400 } 51)) ∧
    ((fun (s : State) (b ax : Nat) (x : Axis) (p : Int) => axInst s b ax = true ∧ 2 ≤ axSt s b ax ∧ axSt s b ax ≤ 5 ∧ x = axOf s b ax ∧ x.ticks ≠ 0 ∧ elapsed s x.stepAt 0 = true ∧ p = axPos s b ax + (if x.forward then 1 else -1) ∧ x.plan = 2 ∧ ((x.forward = true ∧ softMax s b ax ≤ p) ∨ (x.forward = false ∧ p ≤ softMin s b ax))) (moving 0 2 { v2 := 12000000, ticks := 5, forward := true, target := 90, plan := 2, after := some 7 } [(F.MOV_AX_SOFT_MAX 1 0, 51)]) (1) (0) ({ v2 := 12000000, ticks := 5, forward := true, target := 90, plan := 2, after := some 7 }) (51)) ∧
    ((fun (s : State) (b ax : Nat) (phB : Bool) => axInst s b ax = true ∧ axSt s b ax ≠ 0 ∧ 3 ≤ gateOf (axOf s b ax) phB ∧ elapsed s (gateSince (axOf s b ax) phB) (inForce s (F.MOV_CHOP_T_OFF b) * 625 / 4) = true) (moving 0 2 { refA := -5, refB := 7, gateB := 3 } [(F.MOV_CHOP_T_OFF 1, 9), (F.CLK_TIME, 10 ^ 12)]) (1) (0) (true)) ∧
    ((fun (s : State) (b ax fast : Nat) (phB : Bool) => axInst s b ax = true ∧ gateOf (axOf s b ax) phB = 4 ∧ fast = (if (if phB then (axOf s b ax).fallB else (axOf s b ax).fallA) then inForce s (F.MOV_CHOP_FAST_FALL b) else inForce s (F.MOV_CHOP_FAST_RISE b)) ∧ elapsed s (gateSince (axOf s b ax) phB) (inForce s (F.MOV_CHOP_T_OFF b) * fast * 625 / 1024) = true) (moving 0 2 { gateB := 4 } [(F.CLK_TIME, 10 ^ 12)]) (1) (0) (inForce (moving 0 2 { gateB := 4 } [(F.CLK_TIME, 10 ^ 12)]) (F.MOV_CHOP_FAST_RISE 1)) (true)) ∧
    ((fun (s : State) (b ax : Nat) (phB : Bool) => axInst s b ax = true ∧ (gateOf (axOf s b ax) phB = 1 ∨ gateOf (axOf s b ax) phB = 2) ∧ inForce s (F.MOV_CHOP_T_ON_MAX b) ≠ 0 ∧ elapsed s (gateSince (axOf s b ax) phB) (inForce s (F.MOV_CHOP_T_ON_MAX b) * 3125 / 2) = true) (putAll [(F.MOV_CHOP_T_ON_MAX 1, 9)] (takeForce (F.MOV_CHOP_T_ON_MAX 1) (moving 0 2 { gateA := 2 } [(F.MOV_CHOP_T_ON_MAX 1, 7), (F.CLK_TIME, 99999)]))) (1) (0) (false)) ∧
    ((fun (s : State) (b ax : Nat) => axInst s b ax = true ∧ axSt s b ax ≠ 0 ∧ (axOf s b ax).v2 = 0 ∧ (axOf s b ax).ticks = 0 ∧ elapsed s (axOf s b ax).restAt (Machine.get s (F.MOV_AX_CURRENT_HOLD_DELAY b ax) * 625000) = true) (moving 0 1 {} [(F.CLK_TIME, 10 ^ 12)]) (1) (0)) ∧
    ((fun (s : State) (b ax value : Nat) (upper : Bool) (lim p q : Int) => axInst s b ax = true ∧ lim = toSigned 32 (trunc 32 value) ∧ p = (axOf s b ax).after.getD (axOf s b ax).target ∧ q = (if upper then clampInt (softMin s b ax) lim p else clampInt lim (softMax s b ax) p)) (moving 0 1 {} []) (1) (0) (4000) (true) (4000) (0) (0)) ∧
    ((fun (s : State) (b ax acc dec r : Nat) => axInst s b ax = true ∧ r = ((axOf s b ax).target - axPos s b ax).natAbs) (moving 0 1 { dec := 5 } []) (1) (0) (70000) (8) (50)) ∧
    ((fun (s : State) (b ax v : Nat) => axInst s b ax = true) (moving 0 1 { dec := 5 } []) (1) (0) (70000)) ∧
    ((fun (s : State) (b : Nat) => bayInst s b = true) (moving 0 1 {} [(F.MOV_AX_MOVES 1 2, 3), (F.MOV_AX_TRIPS 1 0, 3)]) (1)) := by
  and_intros <;> first | decide +kernel | rfl

theorem witness_axisCommands :
    ((fun (s : State) (b ax : Nat) (p : Int) => axInst s b ax = true ∧ axSt s b ax ≠ 0 ∧ axSt s b ax ≠ 4 ∧ axSt s b ax ≠ 6 ∧ p = getI s (F.MOV_AX_TARGET b ax) ∧ softMin s b ax ≤ p ∧ p ≤ softMax s b ax ∧ towardLimit s b ax p = false) (moving 0 1 {} [(F.MOV_AX_TARGET 1 0, 70), (F.MOV_AX_STATUS_HOLDING 1 0, 1)]) (1) (0) (70)) ∧
    ((fun (s : State) (b ax : Nat) (p : Int) => axInst s b ax = true ∧ p = getI s (F.MOV_AX_TARGET b ax) ∧ (axSt s b ax = 0 ∨ axSt s b ax = 4 ∨ axSt s b ax = 6 ∨ p < softMin s b ax ∨ softMax s b ax < p ∨ towardLimit s b ax p = true)) (moving 0 1 {} [(F.MOV_AX_TARGET 1 0, 9001)]) (1) (0) (9001)) ∧
    ((fun (s : State) (b ax : Nat) => axInst s b ax = true ∧ axSt s b ax ≠ 0 ∧ axSt s b ax ≠ 6) (moving 1 5 { follow := true } [(F.MOV_AX_STATUS_BUSY 1 1, 1)]) (1) (1)) ∧
    ((fun (s : State) (b ax : Nat) => axInst s b ax = true ∧ (axSt s b ax = 0 ∨ axSt s b ax = 6)) (moving 1 0 {} []) (1) (1)) ∧
    ((fun (s : State) (b ax : Nat) (on : Bool) => axInst s b ax = true ∧ on = inputActive s b (limitIn ax false) ∧ (axSt s b ax ≠ 0 ∨ (Machine.get s (F.MOV_AX_CTRL_EN b ax) ≠ 0 ∧ (busOf s b).stepEn = true))) (moving 2 6 { v2 := 12000000 } []) (1) (2) (false)) ∧
    ((fun (s : State) (b ax : Nat) => axInst s b ax = true ∧ axSt s b ax = 0 ∧ (Machine.get s (F.MOV_AX_CTRL_EN b ax) = 0 ∨ (busOf s b).stepEn = false)) (movingBus 1 0 {} { stepEn := true } []) (1) (1)) ∧
    ((fun (s : State) (b ax : Nat) => axInst s b ax = true) (moving 1 1 {} []) (1) (1)) ∧
    ((fun (s : State) (b ax : Nat) => axInst s b ax = true) (moving 1 5 { follow := true, gateA := 1, v2 := 12000000, ticks := 7 } []) (1) (1)) ∧
    ((fun (s : State) (b ax : Nat) => axInst s b ax = true) (moving 1 6 {} [(F.MOV_INPUTS_STUCK 1, 5)]) (1) (1)) ∧
    ((fun (s : State) (b ax op : Nat) => axInst s b ax = true ∧ 6 ≤ op % 8) (moving 1 6 {} []) (1) (1) (15)) ∧
    ((fun (s : State) (b ax en : Nat) => axInst s b ax = true) (movingBus 1 0 {} { stepEn := true } [(F.MOV_AX_ENC_POS 1 1, 77)]) (1) (1) (1)) := by
  and_intros <;> first | decide +kernel | rfl

theorem witness_axisInputsAndFaults :
    ((fun (s : State) (l i lv : Nat) => inputInst s l i = true ∧ elapsed s (mapGet (fun _ => 0) (busOf s l).changed i) (debounceTime s l) = true ∧ lv = bitOf (busOf s l).raw i) (movingBus 1 0 {} { raw := 65 } [(F.MOV_INPUTS_LEVELS 1, 2), (F.CLK_TIME, 99999999)]) (1) (6) (1)) ∧
    ((fun (s : State) (b i : Nat) => bayInst s b = true ∧ i < 7 ∧ Machine.get s (F.MOV_DEBOUNCE_CHATTER_LIM b) < toggleSum s b i ∧ bitOf (Machine.get s (F.MOV_INPUTS_CHATTER b)) i ≠ 1) (movingBus 1 5 {} { toggles := [(3, [4, 5])] } [(F.MOV_DEBOUNCE_CHATTER_LIM 1, 8)]) (1) (3)) ∧
    ((fun (s : State) (b i : Nat) => bayInst s b = true ∧ i < 7 ∧ bitOf (Machine.get s (F.MOV_INPUTS_CHATTER b)) i ≠ 0 ∧ elapsed s (mapGet (fun _ => 0) (busOf s b).changed i) (Machine.get s (F.MOV_DEBOUNCE_CHATTER_CLR b) * 156250) = true) (movingBus 1 5 {} { toggles := [(3, [4, 5])] } [(F.MOV_INPUTS_CHATTER 1, 12), (F.CLK_TIME, 9999999999)]) (1) (3)) ∧
    ((fun (s : State) (b i a : Nat) => bayInst s b = true ∧ i < 6 ∧ a = i / 2 ∧ inputActive s b i = true ∧ (inputActive s b (limitIn a (decide (i % 2 = 0))) = true ∨ ((axOf s b a).leftAt.any fun p => decide ((if a = 2 then axMm s b a 2 else axMm s b a 1 / 5) ≤ ((axPos s b a - p).natAbs : Int))) = true)) (movingBus 1 5 { ticks := 5, follow := true } {} [(F.MOV_INPUTS_CHATTER 1, 12)]) (1) (3) (1)) ∧
    ((fun (s : State) (b ax : Nat) => axInst s b ax = true ∧ axSt s b ax ≠ 0 ∧ ((ax < 2 ∧ 0 < (axOf s b ax).missRun ∧ Machine.get s (F.MOV_AX_STALL_PERIODS b ax) ≤ (axOf s b ax).missRun) ∨ (ax = 2 ∧ ((axOf s b ax).end2.any fun e => decide (axMm s b ax 2 ≤ (if (axOf s b ax).forward then axPos s b ax - e else e - axPos s b ax))) = true))) (movingBus 1 5 { missRun := 5, follow := true, v2 := 88 } {} [(F.MOV_AX_STALL_PERIODS 1 1, 5), (F.MOV_AX_ENC_POS 1 1, 77)]) (1) (1)) ∧
    ((fun (s : State) (b ax : Nat) => axInst s b ax = true ∧ axSt s b ax = 4 ∧ (axOf s b ax).plan = 5 ∧ axMm s b ax (travelMm ax + 2) ≤ ((axPos s b ax - (axOf s b ax).homeFrom).natAbs : Int)) (movingBus 1 4 { plan := 5, homeFrom := 40000, v2 := 88 } {} []) (1) (1)) := by
  and_intros <;> first | decide +kernel | rfl

theorem witness_spindleStates :
    ((fun (s : State) (b cause : Nat) => bayInst s b = true ∧ cause ≠ 5 ∧ lossHolds s b cause = true ∧ (spinOf s b).losing = 0) (spun 3 { resRun := 3, stopping := true, torque := 9 } [(F.MOT_WOB_SPEED 1, 55), (F.MOT_STATUS_SPEED_LOCK 1, 1), (F.MOT_VBUS 1, 48000), (F.GLB_INST_HEAD, 15), (F.SV_STATUS_STATE 2, 5)]) (1) (1)) ∧
    ((fun (s : State) (b : Nat) => bayInst s b = true ∧ lossHolds s b 5 = true) (spun 3 { torque := 9 } [(F.BL_STATUS_STATE 1, 1), (F.GLB_INST_HEAD, 15), (F.SV_STATUS_STATE 3, 5)]) (1)) ∧
    ((fun (s : State) (b rpm10 : Nat) => bayInst s b = true ∧ motSt s b = 4 ∧ 12 ≤ (spinOf s b).crossRun ∧ rpm10 = crossSpeed s b 11 ((spinOf s b).crosses.headD 0 - (spinOf s b).crosses.getLastD 0) ∧ inWindow s b rpm10 = true) (spun 4 { crosses := [7208960, 120000, 0], crossRun := 12, lastWob := 10922667 } [(F.MOT_MOTOR_P 1, 4)]) (1) (crossSpeed (spun 4 { crosses := [7208960, 120000, 0], crossRun := 12, lastWob := 10922667 } [(F.MOT_MOTOR_P 1, 4)]) 1 11 7208960)) ∧
    ((fun (s : State) (b : Nat) => bayInst s b = true ∧ motSt s b = 5 ∧ (spinOf s b).losing = 0 ∧ elapsed s (spinOf s b).stateAt (Machine.get s (F.MOT_CATCH_CONFIRM b) * 156250) = true) (spun 5 { recorded := some 9600, target := 5 } [(F.CLK_TIME, 10 ^ 12)]) (1)) ∧
    ((fun (s : State) (b : Nat) => bayInst s b = true ∧ motSt s b = 4 ∧ elapsed s (spinOf s b).stateAt (Machine.get s (F.MOT_CATCH_CATCH_MAX b) * 625000) = true) (spun 4 { recorded := some 9600, target := 5 } [(F.CLK_TIME, 10 ^ 12)]) (1)) ∧
    ((fun (s : State) (b : Nat) => bayInst s b = true ∧ motSt s b = 6 ∧ ((2 ≤ (spinOf s b).crossRun ∧ (spinOf s b).crossRpm ≤ 10 * Machine.get s (F.MOT_BRAKE_BRAKE_RPM b)) ∨ elapsed s (spinOf s b).stateAt (Machine.get s (F.MOT_CATCH_COAST_MAX b) * 156250000) = true)) (spun 6 { recorded := some 9600, target := 5 } [(F.CLK_TIME, 10 ^ 12)]) (1)) ∧
    ((fun (s : State) (b : Nat) => bayInst s b = true ∧ motSt s b = 7 ∧ spinStill s b = true) (spun 7 { recorded := some 9600, target := 5 } [(F.MOT_SPEED 1, 9), (F.CLK_TIME, 10 ^ 12)]) (1)) ∧
    ((fun (s : State) (b : Nat) => bayInst s b = true ∧ motSt s b = 1 ∧ elapsed s (spinOf s b).stateAt (Machine.get s (F.MOT_START_T_ALIGN b) * 625000) = true) (spun 1 { recorded := some 9600, target := 5, rampAcc := 4 } [(F.MOT_SPEED 1, 9), (F.CLK_TIME, 10 ^ 12)]) (1)) ∧
    ((fun (s : State) (b : Nat) => bayInst s b = true ∧ motSt s b = 2 ∧ Machine.get s (F.MOT_STATUS_OBS_LOCK b) ≠ 0 ∧ 40 ≤ (spinOf s b).handRun) (spun 2 { handRun := 40 } [(F.MOT_STATUS_OBS_LOCK 1, 1)]) (1)) ∧
    ((fun (s : State) (b : Nat) => bayInst s b = true ∧ motSt s b = 2 ∧ elapsed s (spinOf s b).stateAt 156250000 = true) (spun 2 { rampFails := 0 } [(F.MOT_STATUS_OBS_LOCK 1, 1), (F.CLK_TIME, 10 ^ 12)]) (1)) ∧
    ((fun (s : State) (b : Nat) => bayInst s b = true ∧ motSt s b = 3 ∧ 100 ≤ (spinOf s b).lockRun ∧ Machine.get s (F.MOT_STATUS_SPEED_LOCK b) ≠ 1) (spun 3 { lockRun := 100 } [(F.MOT_STATUS_OBS_LOCK 1, 1)]) (1)) ∧
    ((fun (s : State) (b : Nat) => bayInst s b = true ∧ motSt s b = 3 ∧ (spinOf s b).stopping = true ∧ (spinOf s b).ref ≤ 40000 * Machine.get s (F.MOT_BRAKE_BRAKE_RPM b)) (spun 3 { stopping := true, ref := 24000000 } [(F.MOT_STATUS_OBS_LOCK 1, 1)]) (1)) := by
  and_intros <;> first | decide +kernel | rfl

theorem witness_spindleCommandsAndMotorBus :
    ((fun (s : State) (b : Nat) => bayInst s b = true ∧ Machine.get s (F.MOT_CTRL_EN b) ≠ 0 ∧ targetGood s b = true) (spun 0 { rampFails := 1 } [(F.MOT_CMD_TARGET 1, 300)]) (1)) ∧
    ((fun (s : State) (b : Nat) => bayInst s b = true ∧ (Machine.get s (F.MOT_CTRL_EN b) = 0 ∨ targetGood s b = false)) (spun 0 { } [(F.MOT_CMD_TARGET 1, 12001)]) (1)) ∧
    ((fun (s : State) (b : Nat) => bayInst s b = true ∧ Machine.get s (F.MOT_CTRL_EN b) ≠ 0 ∧ motSt s b ≠ 8) (spun 3 { lockRun := 1 } [(F.MOT_STATUS_SPEED_LOCK 1, 1), (F.GLB_INST_HEAD, 15), (F.SV_STATUS_STATE 3, 5)]) (1)) ∧
    ((fun (s : State) (b : Nat) => bayInst s b = true ∧ Machine.get s (F.MOT_CTRL_EN b) ≠ 0 ∧ motSt s b ≠ 8) (spun 3 { lockRun := 1, recorded := some 4 } [(F.MOT_STATUS_SPEED_LOCK 1, 1), (F.GLB_INST_HEAD, 15), (F.SV_STATUS_STATE 2, 4)]) (1)) ∧
    ((fun (s : State) (b : Nat) => bayInst s b = true ∧ motSt s b = 8 ∧ spinStill s b = true) (spun 8 { lockRun := 1, recorded := some 4 } [(F.MOT_CMD_TARGET 1, 0), (F.MOT_STATUS_FAULT_CAUSE 1, 1), (F.CLK_TIME, 10 ^ 12)]) (1)) ∧
    ((fun (s : State) (b op : Nat) => bayInst s b = true ∧ 4 ≤ op % 8) (spun 8 { } []) (1) (12)) ∧
    ((fun (s : State) (b en : Nat) => bayInst s b = true) (spun 8 { } []) (1) (3)) ∧
    ((fun (s : State) (b : Nat) => bayInst s b = true) (spun 0 { } [(F.MOT_STARTS_OK 1, 4)]) (1)) ∧
    ((fun (s : State) (c : Nat) => carInst s c = true ∧ (2 ≤ (crsOf s c).lowRun ∨ 4 ≤ (crsOf s c).riseRun) ∧ isSet s (F.CMOT_STATUS_CHOP_FAULT c) = false) (turning 2 { lowRun := 2 } [(F.MOT_STATUS_STATE 1, 5)]) (1)) ∧
    ((fun (s : State) (c : Nat) => carInst s c = true ∧ Machine.get s (F.CMOT_BUS_STATUS_V c) < 50000) (turning 2 { lowRun := 2 } [(F.CMOT_STATUS_CHOP_FAULT 1, 1), (F.MOT_STATUS_REGEN_BLOCKED 1, 1)]) (1)) ∧
    ((fun (s : State) (c : Nat) => carInst s c = true ∧ Machine.get s (F.CMOT_BUS_STATUS_V c) < 54000 ∧ Machine.get s (F.CMOT_STATUS_OV_LATCHED c) ≠ 0) (turning 2 { lowRun := 2 } [(F.CMOT_STATUS_OV_LATCHED 1, 1), (F.BL_STATUS_STATE 1, 3), (F.MOV_AX_CTRL_EN 1 0, 1)]) (1)) := by
  and_intros <;> first | decide +kernel | rfl

theorem witness_carouselCommandsAndMoves :
    ((fun (s : State) (c en : Nat) => carInst s c = true) (turning 2 { lowRun := 2 } [(F.CMOT_CTRL_EN 1, 0)]) (1) (7)) ∧
    ((fun (s : State) (c : Nat) => carInst s c = true ∧ Machine.get s (F.CMOT_CTRL_EN c) ≠ 0 ∧ (crsOf s c).inverter = true ∧ (crsOf s c).offset = false ∧ elapsed s (crsOf s c).alignAt 31250000 = true) (turning 0 { inverter := true } [(F.CLK_TIME, 10 ^ 12), (F.CMOT_ENC_POLES 1, 24)]) (1)) ∧
    ((fun (s : State) (c slot : Nat) (fwd : Bool) => carInst s c = true ∧ slot = Machine.get s (F.CMOT_CMD_TARGET c) ∧ moveRefused s c slot = none ∧ fwd = goForward s c slot (Machine.get s (F.CMOT_CMD_DIR c))) (turning 2 { inverter := true } [(F.CMOT_CMD_TARGET 1, 287), (F.MOV_INPUTS_LEVELS 1, 16)]) (1) (287) (false)) ∧
    ((fun (s : State) (c r : Nat) => carInst s c = true ∧ moveRefused s c (Machine.get s (F.CMOT_CMD_TARGET c)) = some r) (turning 3 { inverter := true } [(F.CMOT_CMD_TARGET 1, 288), (F.MOV_INPUTS_LEVELS 1, 16)]) (1) (1)) ∧
    ((fun (s : State) (c : Nat) => carInst s c = true ∧ cmotSt s c ≠ 0 ∧ cmotSt s c ≠ 6) (turning 3 { inverter := true, reverse := some (1, 2, 3) } []) (1)) ∧
    ((fun (s : State) (c : Nat) => carInst s c = true ∧ (cmotSt s c = 2 ∨ isSet s (F.CMOT_STATUS_REVERSAL_PENDING c) = true)) (turning 2 { inverter := true } []) (1)) ∧
    ((fun (s : State) (c : Nat) => carInst s c = true ∧ (cmotSt s c = 0 ∨ cmotSt s c = 2)) (turning 2 { inverter := true } []) (1)) ∧
    ((fun (s : State) (c op dir : Nat) => carInst s c = true ∧ (4 ≤ op % 8 ∨ dir % 4 = 3)) (turning 2 { inverter := true } []) (1) (1) (7)) ∧
    ((fun (s : State) (c : Nat) (e d : Int) => carInst s c = true ∧ cmotSt s c = 1 ∧ (crsOf s c).edgePos = some e ∧ bitOf (busOf s (32 + c)).deb 0 ≠ 0 ∧ d = getI s (F.CMOT_HOME_OFS c) - e) (updBus 33 (fun k => { k with deb := 1 }) (turning 1 { inverter := true, edgePos := some 90 } [(F.CMOT_HOME_OFS 1, 44)])) (1) (90) (-46)) ∧
    ((fun (s : State) (c : Nat) => carInst s c = true ∧ cmotSt s c = 1 ∧ (11 * Machine.get s (F.CMOT_ENC_COUNTS c) : Nat) ≤ 10 * (carPos s c - (crsOf s c).homeFrom)) (turning 1 { inverter := true, homeFrom := -31580 } [(F.CMOT_HOME_OFS 1, 44)]) (1)) ∧
    ((fun (s : State) (c : Nat) => carInst s c = true ∧ isSet s (F.CMOT_STATUS_REVERSAL_PENDING c) = false ∧ (crsOf s c).profV = 0 ∧ (cmotSt s c = 4 ∨ (cmotSt s c = 3 ∧ (crsOf s c).profPos = (crsOf s c).target * profScale))) (turning 3 { inverter := true, slot := 287, target := 1, profPos := 28800000000000 } [(F.CMOT_HOME_OFS 1, 44)]) (1)) ∧
    ((fun (s : State) (c : Nat) => carInst s c = true ∧ 2000 * profScale.natAbs < (carPos s c * profScale - (crsOf s c).profPos).natAbs ∧ (cmotSt s c = 1 ∨ cmotSt s c = 3 ∨ cmotSt s c = 4)) (turning 3 { inverter := true, slot := 287, profPos := -2000 * 28800000000000 } []) (1)) ∧
    ((fun (s : State) (c op slot dir : Nat) => carInst s c = true ∧ (crsOf s c).reverse = some (op, slot, dir) ∧ 10 ≤ (crsOf s c).restRun ∧ (crsOf s c).profV = 0) (turning 4 { reverse := some (0, 200, 3), restRun := 10 } []) (1) (0) (200) (3)) ∧
    ((fun (s : State) (c : Nat) => carInst s c = true ∧ bitOf (busOf s (32 + c)).deb 1 ≠ 0 ∧ 1 ≤ cmotSt s c ∧ cmotSt s c ≤ 4) (updBus 33 (fun k => { k with deb := 2 }) (turning 4 { reverse := some (1, 200, 3), restRun := 10 } [])) (1)) ∧
    ((fun (s : State) (c : Nat) => carInst s c = true ∧ cmotSt s c = 5 ∧ bitOf (busOf s (32 + c)).deb 1 ≠ 1) (turning 5 { reverse := some (1, 200, 3), restRun := 10 } []) (1)) ∧
    ((fun (s : State) (c : Nat) => carInst s c = true) (turning 5 {} [(F.CMOT_BUS_PEAK 1, 4)]) (1)) := by
  and_intros <;> first | decide +kernel | rfl

theorem witness_mountsAndDismounts_2 :
    (fun (s : State) (b : Nat) (areas : List (Nat × List SlotRead)) => bayInst s b = true ∧ (mountOf s b).phase = 1 ∧ slotThere s b (mountOf s b).disc = true ∧ loaderAt s b true = true ∧ 2 * (axPos s b 0).natAbs ≤ axMm s b 0 1 ∧ 2 * (axPos s b 1).natAbs ≤ axMm s b 1 1) slotted 1 [] :=
  ⟨by decide +kernel, by decide +kernel, slotted_slotThere, by decide +kernel, by decide +kernel, by decide +kernel⟩

theorem witness_mountsAndDismounts :
    ((fun (s : State) (d b c slot : Nat) => mountable s d = true ∧ chooseBay s (leafOfDisc s d) d = some b ∧ c = carOfBay s b ∧ slot = (d % 288 + Config.baySlot b) % 288) (let s := shelved (fun l => { l with discs := blanks 8, mounts := [(0, { count := 3 })] }) [(F.CMOT_STATUS_STATE 0, 2), (F.CMOT_STATUS_HOMED 0, 1), (F.MOV_INPUTS_LEVELS 0, 16), (F.MOV_INPUTS_LEVELS 1, 16), (F.CMOT_ENC_COUNTS 0, 28800)]; { s with host := { s.host with importQ := [4] } }) (4) (1) (0) ((4 % 288 + Config.baySlot 1) % 288)) ∧
    ((fun (s : State) (b : Nat) (areas : List (Nat × List SlotRead)) => bayInst s b = true ∧ (mountOf s b).phase = 2 ∧ loaderAt s b false = true) (shelved (fun l => { l with mounts := [(0, { disc := 4, phase := 2 })] }) [(F.MOV_INPUTS_LEVELS 0, 80), (F.MOT_CTRL_EN 0, 1), (F.MOT_KE_MAX_RPM 0, 12000)]) (0) ([])) ∧
    ((fun (s : State) (b : Nat) (areas : List (Nat × List SlotRead)) => bayInst s b = true ∧ (mountOf s b).phase = 3 ∧ Machine.get s (F.MOT_STATUS_SPEED_LOCK b) ≠ 0) (shelved (fun l => { l with mounts := [(0, { disc := 4, phase := 3 })] }) [(F.MOT_STATUS_SPEED_LOCK 0, 1), (F.SV_STATUS_STATE 0, 1)]) (0) ([])) ∧
    ((fun (s : State) (b d : Nat) (areas : List (Nat × List SlotRead)) => bayInst s b = true ∧ d = (mountOf s b).disc ∧ (mountOf s b).phase = 4 ∧ ((∀ h ∈ [2 * b, 2 * b + 1], headInst s h = true → 4 ≤ Machine.get s (F.SV_STATUS_STATE h) ∧ Machine.get s (F.SV_STATUS_STATE h) ≤ 8))) (shelved (fun l => { l with discs := [(4, { state := 1, mounts := 7, failRun := 1 })], mounts := [(0, { count := 3, disc := 4, phase := 4 })] }) [(F.SV_STATUS_STATE 0, 5), (F.SV_STATUS_STATE 1, 8)]) (0) (4) ([])) ∧
    ((fun (s : State) (b : Nat) (areas : List (Nat × List SlotRead)) => bayInst s b = true ∧ (mountOf s b).phase = 5 ∧ (mountOf s b).leave = true ∧ bayWriting s b = false) (shelved (fun l => { l with mounts := [(0, { disc := 4, phase := 5, leave := true })] }) [(F.SV_STATUS_STATE 0, 5), (F.SV_STATUS_STATE 1, 8), (F.MOT_STATUS_STATE 0, 3)]) (0) ([])) ∧
    ((fun (s : State) (b : Nat) (areas : List (Nat × List SlotRead)) => bayInst s b = true ∧ (((mountOf s b).phase = 6 ∧ motSt s b = 0) ∨ ((mountOf s b).phase = 7 ∧ slotThere s b (mountOf s b).disc = true))) (shelved (fun l => { l with mounts := [(0, { disc := 4, phase := 6, leave := true })] }) []) (0) ([])) ∧
    ((fun (s : State) (b : Nat) (areas : List (Nat × List SlotRead)) => bayInst s b = true ∧ (mountOf s b).phase = 8 ∧ loaderAt s b true = true) (shelved (fun l => { l with discs := [(4, { state := 1, mounts := 7, failRun := 1 })], mounts := [(0, { count := 3, disc := 4, phase := 8 })] }) [(F.MOV_INPUTS_LEVELS 0, 32), (F.CH_STATUS_MEDIA_ID_VALID 1, 1)]) (0) ([])) ∧
    ((fun (s : State) (b d : Nat) (areas : List (Nat × List SlotRead)) => bayInst s b = true ∧ d = (mountOf s b).disc ∧ 1 ≤ (mountOf s b).phase ∧ (mountOf s b).phase ≤ 4) (shelved (fun l => { l with discs := [(4, { state := 1, mounts := 7, failRun := 0 })], mounts := [(0, { count := 3, disc := 4, phase := 3 })] }) [(F.MOT_STATUS_STATE 0, 2)]) (0) (4) ([])) ∧
    ((fun (s : State) (b : Nat) => (relieved s b = true ∨ mayLeave s b = true)) (updSpin 0 (fun x => { x with lockRun := 4 }) (shelved (fun l => { l with mounts := [(0, { count := 3, disc := 4, phase := 5, since := 150 })] }) [(F.MOT_STATUS_STATE 0, 3), (F.MOT_STATUS_SPEED_LOCK 0, 1)])) (0)) ∧
    ((fun (s : State) (b : Nat) => bayInst s b = true ∧ b ∈ fullBays s (leafOfBay s b) ∧ idleBays s (leafOfBay s b) = [] ∧ bayNeeded s (leafOfBay s b) = true ∧ lastRanked s b = true ∧ ((∀ n ∈ frontOf s (leafOfBay s b), n.prio < bayRank s b)) ∧ elapsed s (mountOf s b).since (156250000 * Machine.get s F.ARB_SCHED_MOUNT_HOLD_MAX) = true) (let s := shelved (fun l => { l with discs := blanks 8, sets := [(2, { st := 1, width := 4, domain := 1, due := true, members := [6] })], mounts := [(0, { disc := 4, phase := 5, since := 150 }), (1, { disc := 5, phase := 5, since := 150 })] }) [(F.MOT_STATUS_STATE 0, 3), (F.ARB_SCHED_MOUNT_HOLD_MAX, 0)]; { s with host := { s.host with importQ := [4, 5] } }) (0)) := by
  and_intros <;> first | decide +kernel | rfl

theorem witness_rowsSessionsAndCheckpoints :
    ((fun (s : State) (d layer : Nat) (spares : List (Nat × List SpareRead)) => d < 1152 ∧ layer < 12) (shelved (fun l => { l with discs := [(4, { remaps := [(7, 9)] })] }) []) (4) (0) ([(1, [.written (some 11), .written none, .blank, .written (some 13)])])) ∧
    ((fun (s : State) (d layer key home : Nat) (rest : List SpareRead) => d < 1152 ∧ layer < 12 ∧ addrLayer home = layer ∧ rest.head? = some .blank) (shelved (fun l => { l with discs := [(4, { remaps := [(7, 9)] })] }) []) (4) (0) (1) (11) ([.blank])) ∧
    ((fun (s : State) (stream hd cause w pads : Nat) (d : DiscSet) (f : Filling) => isSet s F.ARB_CTRL_EN = true ∧ moveOffline s = s ∧ d = getSet s hd ∧ findFilling s stream hd = some f ∧ sealable s hd cause f = true ∧ w = Machine.get s F.ARB_WSTAMP ∧ pads = padsBehind cause d.nextOrd) (shelved (fun l => { l with sets := [(2, { st := 1, width := 4, domain := 1, nextOrd := 5 })], filling := [⟨3, 1, 0, true, [⟨1, 5, 300, 8, none⟩, ⟨1, 6, 301, 7, none⟩]⟩] }) [(F.ARB_WSTAMP, 40)]) (3) (2) (1) (40) (58) ({ st := 1, width := 4, domain := 1, nextOrd := 5 }) (⟨3, 1, 0, true, [⟨1, 5, 300, 8, none⟩, ⟨1, 6, 301, 7, none⟩]⟩)) ∧
    ((fun (s : State) (hd : Nat) => isSet s F.ARB_CTRL_EN = true ∧ (getSet s hd).st ≠ 0 ∧ (getSet s hd).due = false ∧ unwritten (getSet s hd) ≠ [] ∧ (s.pwr.phase = 2 ∨ Machine.get s F.ARB_SCHED_WRITE_MIN ≤ completeGroups s hd)) (shelved (fun l => { l with sets := [(2, { st := 1, width := 4, domain := 1, nextOrd := 64, rows := [⟨3, 9, 0, 1, 2, 0, false, [], [], [], none⟩] })] }) [(F.ARB_SCHED_WRITE_MIN, 1)]) (2)) ∧
    ((fun (s : State) (hd : Nat) => (getSet s hd).session = true ∧ setWriting s hd = false ∧ (unwritten (getSet s hd) = [] ∨ bayLost s hd = true ∨ (readWaits s hd = true ∧ elapsed s (getSet s hd).since (156250000 * Machine.get s F.ARB_SCHED_WRITE_HOLD_MAX) = true))) (updWrite 1 (fun w => { w with set := 2, calDone := [(1, 2)] }) (shelved (fun l => { l with sets := [(2, { st := 1, width := 4, domain := 1, nextOrd := 50, session := true, due := true, members := [4] })], discs := [(4, { newRemaps := [(7, 9)], owed := [(1, 2)] })], mounts := [(0, { disc := 4, phase := 5 })] }) [(F.ARB_SCHED_WRITE_MIN, 7)])) (2)) ∧
    ((fun (s : State) => 65536 * Machine.get s F.ARB_CKPT_ROWS ≤ s.lib.rowsSince) (shelved (fun l => { l with rowsSince := 65536 * 16, changed := [4], closing := [(4, [2]), (1, [])] }) [(F.ARB_CKPT_ROWS, 16)])) ∧
    ((fun (s : State) (d1 d2 : Nat) => d1 ≠ d2 ∧ ckptReady s d1 d2 = true) (shelved (fun l => { l with closing := [(4, [2]), (1, [])], discs := [(4, { set := 2 }), (290, { set := 2 })], sets := [(2, { st := 1 })], mounts := [(0, { disc := 4, phase := 5 }), (1, { disc := 290, phase := 5 })] }) [(F.ARB_EPOCH, 16), (F.PAR_RB_STATUS_STATE 2, 1), (F.PAR_RB_CURSOR 2, 6)]) (4) (290)) ∧
    ((fun (s : State) => elapsed s s.lib.grantAt 1562 = true) (shelved id [(F.ARB_AR_CREDIT 1, 16), (F.CLK_TIME, 4000)])) := by
  and_intros <;> first | decide +kernel | rfl

theorem witness_setsAndArbourControls :
    ((fun (s : State) (a slot hd w : Nat) (ms : List Nat) => arbInst s a = true ∧ isDomain s a = true ∧ slot < Machine.get s (F.ARB_AR_CFG_OPEN_MAX a) ∧ pathActive s a = true ∧ openSetOf s a slot = none ∧ w = Machine.get s (F.ARB_AR_CFG_K a) + 2 ∧ w + Machine.get s (F.ARB_AR_SPARE_POOL a) ≤ blanksBelow s a ∧ chooseMembers s a = some ms ∧ hd = freeHandle s) (shelved (fun l => { l with discs := blanks 8, formCtr := 4 }) [(F.ARB_AR_SPARE_POOL 1, 2), (F.GLB_UNIT_ID_LO, 9)]) (1) (1) (0) (4) ([0, 1, 2, 3])) ∧
    ((fun (s : State) (a slot : Nat) => arbInst s a = true ∧ isDomain s a = true ∧ slot < Machine.get s (F.ARB_AR_CFG_OPEN_MAX a) ∧ pathActive s a = true ∧ openSetOf s a slot = none ∧ (blanksBelow s a < Machine.get s (F.ARB_AR_CFG_K a) + 2 + Machine.get s (F.ARB_AR_SPARE_POOL a) ∨ chooseMembers s a = none)) (shelved (fun l => { l with discs := blanks 3, formCtr := 4 }) [(F.ARB_AR_SPARE_POOL 1, 2), (F.GLB_UNIT_ID_LO, 9)]) (1) (1)) ∧
    ((fun (s : State) (hd : Nat) => isSet s F.ARB_CTRL_CONS_EN = true ∧ hd ∈ candidates s (getSet s hd).domain ∧ ((∀ x ∈ candidates s (getSet s hd).domain, x ≠ hd → consBefore s hd x = true)) ∧ (s.lib.sets.filter fun p => p.2.consol && !p.2.lost && decide (p.2.domain = (getSet s hd).domain) && (evacuating s p.1).isNone).length < Machine.get s F.ARB_CONS_CONS_MAX) (shelved (fun l => { l with sets := [(2, { st := 2, width := 4, domain := 1, nextOrd := 500 })] }) [(F.ARB_CTRL_CONS_EN, 1), (F.ARB_CONS_CONS_LIVE, 100), (F.ARB_CONS_CONS_MAX, 2)]) (2)) ∧
    ((fun (s : State) (hd : Nat) => (getSet s hd).st = 2 ∧ (getSet s hd).live = 0 ∧ (getSet s hd).reads = 0 ∧ (getSet s hd).rows = []) (let s := shelved (fun l => { l with discs := [(4, { state := 4, set := 2 })], sets := [(2, { st := 2, width := 4, domain := 1, nextOrd := 500, members := [4, 5] })] }) [(F.ARB_CONS_CONS_MAX, 2)]; putAll ((List.range 16).map fun i => (F.PAR_RB_SET i, 65535)) s) (2)) ∧
    ((fun (s : State) (a : Nat) (v : Bool) => arbInst s a = true) (shelved id [(F.ARB_AR_CTRL_OFFLINE 1, 1)]) (1) (true)) ∧
    ((fun (s : State) (a : Nat) (v : Bool) => arbInst s a = true) (shelved id [(F.ARB_AR_CTRL_DRAIN 1, 1), (F.PAR_RB_STATUS_STATE 2, 3), (F.CLK_TIME, 10 ^ 9)]) (1) (false)) := by
  and_intros <;> first | decide +kernel | rfl

theorem witness_rebuildAndParityCommands :
    ((fun (s : State) (hd r m : Nat) => reconDue s hd r m = true ∧ r ∉ (getSet s hd).lostRows ∧ rowKnown s hd r = true) (shelved (fun l => { l with sets := [(2, { st := 2, width := 4, domain := 1, nextOrd := 500, members := [4, 5, 6, 7], failed := [0, 1, 2, 3] })] }) []) (2) (5) (1)) ∧
    ((fun (s : State) (hd r m : Nat) => reconDue s hd r m = true ∧ r ∈ (getSet s hd).lostRows) (shelved (fun l => { l with sets := [(2, { st := 2, width := 4, domain := 1, nextOrd := 500, members := [4, 5, 6, 7], failed := [0, 1, 2, 3], lostRows := [5] })] }) []) (2) (5) (1)) ∧
    ((fun (s : State) (hd r m : Nat) => reconDue s hd r m = true ∧ r ∉ (getSet s hd).lostRows ∧ rowKnown s hd r = false) (shelved (fun l => { l with sets := [(2, { st := 2, width := 4, domain := 1, nextOrd := 500, members := [4, 5, 6, 7], failed := [1] })] }) []) (2) (5) (1)) ∧
    ((fun (s : State) (hd m kind : Nat) => failureHolds s hd m kind = true ∧ kind < 2) (shelved (fun l => { l with discs := (15, { headBays := [0, 1] }) :: blanks 9, sets := [(2, { st := 2, width := 4, domain := 1, nextOrd := 500, live := 60000, members := [14, 15, 16, 17] })] }) [(F.PAR_RB_CFG_RB_DOMAIN, 1)]) (2) (1) (1)) ∧
    ((fun (s : State) (hd m kind : Nat) => failureHolds s hd m kind = true ∧ 2 ≤ kind) (shelved (fun l => { l with discs := blanks 9 ++ [(15, { state := 3, losses := 4000 })], sets := [(2, { st := 2, width := 4, domain := 1, nextOrd := 500, live := 60000, members := [14, 15, 16, 17] })] }) [(F.ARB_CONS_DEGRADE_LIM, 100), (F.PAR_CTRL_DEGR_REBUILD, 0)]) (2) (1) (2)) ∧
    ((fun (s : State) (hd m : Nat) => (getSet s hd).st ≠ 0 ∧ m < (getSet s hd).width ∧ m ∉ (getSet s hd).failed) (shelved (fun l => { l with discs := blanks 9, sets := [(2, { st := 2, width := 4, domain := 1, nextOrd := 500, members := [14, 15, 16, 17] })] }) [(F.PAR_CTRL_EVACUATE_EN, 0)]) (2) (1)) ∧
    ((fun (s : State) (hd m : Nat) => ((getSet s hd).st = 0 ∨ (getSet s hd).width ≤ m ∨ m ∈ (getSet s hd).failed)) (shelved (fun l => { l with sets := [(2, { st := 2, width := 4, domain := 1, members := [14, 15, 16, 17], failed := [1] })] }) []) (2) (1)) ∧
    ((fun (s : State) (i hd next : Nat) => groupReady s i = true ∧ hd = Machine.get s (F.PAR_RB_SET i) ∧ next = Machine.get s (F.PAR_RB_CURSOR i) + (rbGroup s i).length) (shelved (fun l => { l with sets := [(2, { st := 2, width := 2, domain := 1, nextOrd := 100, members := [4, 5], failed := [1], unread := [1] })], mounts := [(0, { disc := 4, phase := 5 }), (1, { disc := 9, phase := 5 })] }) [(F.PAR_CTRL_EN, 1), (F.PAR_CTRL_EVACUATE_EN, 0), (F.PAR_RB_STATUS_STATE 15, 3), (F.PAR_RB_STATUS_DOMAIN 15, 1), (F.PAR_RB_SET 15, 2), (F.PAR_RB_STATUS_MEMBER1 15, 1), (F.PAR_RB_SPARES_1 15, 9), (F.PAR_RB_CURSOR 15, 70), (F.PAR_RB_END 15, 100)]) (15) (2) (100)) ∧
    ((fun (s : State) (i : Nat) => i < 16 ∧ tickContext i s = s ∧ rbState s i = Rb.mount ∧ rbPaused s i = false ∧ mayEvacuate s (Machine.get s (F.PAR_RB_SET i)) = false ∧ (rbGroup s i = [] ∨ groupKnown s i = false)) (shelved (fun l => { l with sets := [(2, { st := 2, width := 2, domain := 1, nextOrd := 100, members := [4, 5], failed := [1], unread := [1] })], mounts := [(0, { disc := 4, phase := 5 }), (1, { disc := 9, phase := 5 })] }) [(F.PAR_CTRL_EN, 1), (F.PAR_CTRL_EVACUATE_EN, 0), (F.PAR_RB_STATUS_STATE 15, 2), (F.PAR_RB_STATUS_DOMAIN 15, 1), (F.PAR_RB_SET 15, 2), (F.PAR_RB_STATUS_MEMBER1 15, 1), (F.PAR_RB_SPARES_1 15, 9)]) (15)) ∧
    ((fun (s : State) (i : Nat) => i < 16 ∧ tickContext i s = s ∧ rbRunning s i = true ∧ rbPaused s i = false ∧ mayEvacuate s (Machine.get s (F.PAR_RB_SET i)) = true) (shelved (fun l => { l with sets := [(2, { st := 2, width := 3, domain := 1, nextOrd := 100, members := [4, 5, 6], failed := [1, 2], unread := [1, 2] })], mounts := [(0, { disc := 4, phase := 5 }), (1, { disc := 9, phase := 5 })] }) [(F.PAR_CTRL_EN, 1), (F.PAR_CTRL_EVACUATE_EN, 1), (F.ARB_CONS_CONS_LIVE, 100), (F.PAR_RB_STATUS_STATE 15, 3), (F.PAR_RB_STATUS_DOMAIN 15, 1), (F.PAR_RB_SET 15, 2), (F.PAR_RB_STATUS_MEMBER1 15, 1), (F.PAR_RB_SPARES_1 15, 9)]) (15)) ∧
    ((fun (s : State) (i hd m x old : Nat) => phaseOver s i = true ∧ rbSecond s i = false ∧ rbCompleteAt s i false = true ∧ nobodyWaits s = true ∧ hd = Machine.get s (F.PAR_RB_SET i) ∧ m = Machine.get s (F.PAR_RB_STATUS_MEMBER1 i) ∧ x = Machine.get s (F.PAR_RB_SPARES_1 i) ∧ old = (getSet s hd).members.getD m 0 ∧ (getSet s hd).failed = [m]) (shelved (fun l => { l with sets := [(2, { st := 2, width := 4, domain := 1, members := [14, 15, 16, 17], failed := [1], unread := [1] })] }) (((List.range 15).map fun j => (F.PAR_RB_SET j, 65535)) ++ [(F.PAR_RB_SET 15, 2), (F.PAR_RB_STATUS_MEMBER1 15, 1), (F.PAR_RB_SPARES_1 15, 9), (F.PAR_CTRL_EN, 1), (F.PAR_RB_STATUS_STATE 15, 3), (F.PAR_RB_CURSOR 15, 100), (F.PAR_RB_END 15, 100)])) (15) (2) (1) (9) (15)) ∧
    ((fun (s : State) (i : Nat) => phaseOver s i = true) (shelved (fun l => { l with sets := [(2, { st := 2, width := 4, domain := 1, members := [14, 15, 16, 17], failed := [1], unread := [1] })] }) [(F.PAR_RB_SET 15, 2), (F.PAR_RB_STATUS_MEMBER1 15, 1), (F.PAR_RB_SPARES_1 15, 9), (F.PAR_CTRL_EN, 1), (F.PAR_RB_STATUS_STATE 15, 3), (F.PAR_RB_CURSOR 15, 100), (F.PAR_RB_END 15, 100)]) (15)) ∧
    ((fun (s : State) (j hd cur next step : Nat) => j < 4 ∧ isSet s F.PAR_CTRL_EN = true ∧ Machine.get s (F.PAR_RS_STATUS_STATE j) = 1 ∧ hd = Machine.get s (F.PAR_RS_SET j) ∧ cur = Machine.get s (F.PAR_RS_CURSOR j) ∧ cur < (getSet s hd).nextOrd ∧ ((∀ x ∈ rsBlocks s j, findClean s hd x.2.2 ≠ none)) ∧ next = min (64 * (cur / 64) + 64) (getSet s hd).nextOrd ∧ step = 1024 * max 1 (Machine.get s F.PAR_RS_CKPT_CFG)) (shelved (fun l => { l with sets := [(2, { st := 2, width := 4, domain := 1, nextOrd := 500 })] }) [(F.PAR_CTRL_EN, 1), (F.PAR_RS_SET 3, 2), (F.PAR_RS_STATUS_STATE 3, 1), (F.PAR_RS_CURSOR 3, 470), (F.PAR_RS_CKPT_CFG, 1)]) (3) (2) (470) (500) (1024)) ∧
    ((fun (s : State) (j hd : Nat) => reshapeEmpty s j = true ∧ hd = Machine.get s (F.PAR_RS_SET j)) (shelved (fun l => { l with discs := [(14, { set := 2, state := 3 })], sets := [(2, { st := 2, width := 4, domain := 1, members := [14, 15], nextOrd := 500 })] }) [(F.PAR_CTRL_EN, 1), (F.PAR_CTRL_RESHAPE_AUTO, 0), (F.PAR_RS_SET 3, 2), (F.PAR_RS_STATUS_STATE 3, 1)]) (3) (2)) ∧
    ((fun (s : State) (hd j : Nat) => (getSet s hd).st ≠ 0 ∧ (getSet s hd).st ≠ 1 ∧ (getSet s hd).lost = false ∧ reshaping s hd = false ∧ hd < 65536 ∧ j < 4 ∧ Machine.get s (F.PAR_RS_STATUS_STATE j) ≠ 1 ∧ ((∀ i < j, Machine.get s (F.PAR_RS_STATUS_STATE i) = 1))) (shelved (fun l => { l with sets := [(2, { st := 2, domain := 1 })] }) [(F.PAR_RS_STATUS_STATE 0, 1), (F.PAR_RS_SET 0, 3)]) (2) (1)) ∧
    ((fun (s : State) (hd : Nat) => ((getSet s hd).st = 0 ∨ (getSet s hd).st = 1 ∨ (getSet s hd).lost = true ∨ reshaping s hd = true ∨ (∀ j < 4, Machine.get s (F.PAR_RS_STATUS_STATE j) = 1))) (shelved (fun l => { l with sets := [(2, { st := 2, domain := 1 })] }) []) (3)) ∧
    ((fun (s : State) (op : Nat) => op < 8) (shelved id []) (7)) := by
  and_intros <;> first | decide +kernel | rfl

theorem witness_reconstructionRecovers :
    ((fun (ds : List Nat) => ds.length ≤ 31 ∧ ((∀ d ∈ ds, d < 256))) ([1, 255, 7])) := by
  and_intros <;> first | decide +kernel | rfl

theorem witness_bufferReadsAndWrites :
    ((fun (s : State) (req pair ba c o d errP errM : Nat) (alt lo hi : Bool) => ba < baSize s ∧ isMirrored s ba = false ∧ cleanWord s ba = none ∧ primaryOf s ba = (c, o) ∧ chServes s c = true ∧ inSummary s c (o / 128 * 128) = true ∧ lo = isValid s c (o / 128 * 128) ∧ hi = isValid s c (o / 128 * 128 + 64) ∧ (lo || hi) = true ∧ decodeWord (rawWord s c o ^^^ errP) = .clean d) (stored { words := [(wordKey 5 farOfs, encodeWord (2 ^ 600 + 77))], valid := [(lineKey 5 farOfs, 1)], summary := [(5 * 16384 + 4096, 1)] } []) (0) (0) (farBa) (5) (farOfs) (2 ^ 600 + 77) (0) (0) (false) (true) (false)) ∧
    ((fun (s : State) (req pair ba c o errP errM : Nat) (alt : Bool) => ba < baSize s ∧ isMirrored s ba = false ∧ cleanWord s ba = none ∧ primaryOf s ba = (c, o) ∧ chServes s c = true ∧ isValid s c (o / 128 * 128) = false ∧ isValid s c (o / 128 * 128 + 64) = false) (stored {} []) (0) (0) (farBa) (5) (farOfs) (4) (5) (false)) ∧
    ((fun (s : State) (req pair ba c o j d w errP errM : Nat) (alt : Bool) => ba < baSize s ∧ isMirrored s ba = false ∧ cleanWord s ba = none ∧ primaryOf s ba = (c, o) ∧ chServes s c = true ∧ inSummary s c (o / 128 * 128) = true ∧ isValid s c (o / 128 * 128) = true ∧ isValid s c (o / 128 * 128 + 64) = true ∧ decodeWord (rawWord s c o ^^^ errP) = .corrected j d w) (stored { words := [(wordKey 5 farOfs, encodeWord 77)], valid := [(lineKey 5 farOfs, 1), (lineKey 5 farOfs + 1, 1)], summary := [(5 * 16384 + 4096, 1)] } []) (0) (0) (farBa) (5) (farOfs) (0) (77) (encodeWord 77) (3) (0) (false)) ∧
    ((fun (s : State) (req pair ba c o errP errM : Nat) (alt : Bool) => ba < baSize s ∧ isMirrored s ba = false ∧ cleanWord s ba = none ∧ primaryOf s ba = (c, o) ∧ chServes s c = true ∧ inSummary s c (o / 128 * 128) = true ∧ (isValid s c (o / 128 * 128) || isValid s c (o / 128 * 128 + 64)) = true ∧ decodeWord (rawWord s c o ^^^ errP) = .uncorrectable) (stored { words := [(wordKey 5 farOfs, encodeWord 77)], valid := [(lineKey 5 farOfs, 1), (lineKey 5 farOfs + 1, 1)], summary := [(5 * 16384 + 4096, 1)] } []) (5) (2) (farBa) (5) (farOfs) (257) (0) (false)) ∧
    ((fun (s : State) (req pair ba c o c' o' d errP errM : Nat) => ba < baSize s ∧ cacheOn s (ba / 128) = false ∧ isMirrored s ba = true ∧ cleanWord s ba = none ∧ primaryOf s ba = (c, o) ∧ mirrorOf s ba = (c', o') ∧ chWhole s c = true ∧ chWhole s c' = true ∧ inSummary s c (o / 128 * 128) = true ∧ isValid s c (o / 128 * 128) = true ∧ decodeWord (rawWord s c o ^^^ errP) = .uncorrectable ∧ inSummary s c' (o' / 128 * 128) = true ∧ isValid s c' (o' / 128 * 128) = true ∧ isValid s c' (o' / 128 * 128 + 64) = true ∧ decodeWord (rawWord s c' o' ^^^ errM) = .clean d ∧ d < 2 ^ 1024) (stored { words := [(wordKey 5 0, encodeWord 77), (wordKey 13 (4 * 2 ^ 30), encodeWord 78)], valid := [(lineKey 5 0, 1), (lineKey 13 (4 * 2 ^ 30), 1), (lineKey 13 (4 * 2 ^ 30) + 1, 1)], summary := [(5 * 16384, 1), (13 * 16384 + 2048, 1)] } [(F.MAP_STATUS_STATE, 0)]) (0) (0) (4096 * 5) (5) (0) (13) (4 * 2 ^ 30) (78) (257) (0)) ∧
    ((fun (s : State) (req pair ba data c o d errP errM : Nat) (high beside : Bool) => ba < baSize s ∧ isMirrored s ba = false ∧ cleanWord s ba = none ∧ primaryOf s ba = (c, o) ∧ chServes s c = true ∧ high = decide (o % 128 / 64 = 1) ∧ beside = isValid s c (if high then o / 128 * 128 else o / 128 * 128 + 64) ∧ ((beside = true → inSummary s c (o / 128 * 128) = true ∧ decodeWord (rawWord s c o ^^^ errP) = .clean d))) (stored {} []) (0) (0) (farBa + 64) (2 ^ 511 + 5) (5) (farOfs + 64) (0) (0) (0) (true) (false)) ∧
    ((fun (s : State) (req pair ba data c o c' o' errP errM : Nat) => ba < baSize s ∧ isMirrored s ba = true ∧ cacheOn s (ba / 128) = false ∧ cleanWord s ba = none ∧ primaryOf s ba = (c, o) ∧ mirrorOf s ba = (c', o') ∧ chServes s c = true ∧ chServes s c' = true ∧ isValid s c (if o % 128 / 64 = 1 then o / 128 * 128 else o / 128 * 128 + 64) = false ∧ isValid s c' (if o' % 128 / 64 = 1 then o' / 128 * 128 else o' / 128 * 128 + 64) = false) (stored {} [(F.MAP_STATUS_STATE, 0)]) (0) (0) (4096 * 5 + 64) (99) (5) (64) (13) (4 * 2 ^ 30 + 64) (0) (0)) ∧
    ((fun (s : State) (errP errM k x upto d : Nat) => isSet s F.BUF_SCRUB_CFG_EN = true ∧ s.buf.scrub = some k ∧ 0 < k ∧ nextScrub s k = some x ∧ cleanWord s (baOf s (x / 2 ^ 32) (64 * (x % 2 ^ 32))) = none ∧ readCopy (x / 2 ^ 32) (64 * (x % 2 ^ 32)) errP s = (some d, s) ∧ upto = (nextScrub s (x + 2)).getD (2 ^ 36) ∧ upto < 2 ^ 36) (stored { valid := [(lineKey 5 farOfs, 1), (lineKey 6 farOfs, 1)], scrub := some 7 } [(F.BUF_SCRUB_CFG_EN, 1)]) (0) (0) (7) (lineKey 5 farOfs) (lineKey 6 farOfs) (0)) ∧
    ((fun (s : State) (errP errM k : Nat) => isSet s F.BUF_SCRUB_CFG_EN = true ∧ ((s.buf.scrub = some k ∨ k = 0 ∧ s.buf.scrub = none ∧ elapsed s s.buf.scrubAt (156250000 * 3600 * max 1 (Machine.get s F.BUF_SCRUB_CFG_PERIOD)) = true)) ∧ nextScrub s k = none) (stored { scrub := some 7 } [(F.BUF_SCRUB_CFG_EN, 1)]) (0) (0) (7)) ∧
    ((fun (s : State) (errP errM k x c o d : Nat) => isSet s F.BUF_SCRUB_CFG_EN = true ∧ s.buf.scrub = some k ∧ nextScrub s k = some x ∧ c = x / 2 ^ 32 ∧ o = 64 * (x % 2 ^ 32) ∧ c < 16 ∧ cleanWord s (baOf s c o) = none ∧ isMirrored s (baOf s c o) = true ∧ chWhole s ((c + 8) % 16) = true ∧ readCopy c o errP s = (none, countUncorrectable c s) ∧ readCopy ((c + 8) % 16) (partnerOfs s o) errM (countUncorrectable c s) = (some d, countUncorrectable c s)) (stored { words := [(wordKey 5 0, encodeWord 77), (wordKey 13 (4 * 2 ^ 30), encodeWord 78)], valid := [(lineKey 5 0, 1), (lineKey 13 (4 * 2 ^ 30), 1), (lineKey 13 (4 * 2 ^ 30) + 1, 1)], summary := [(5 * 16384, 1), (13 * 16384 + 2048, 1)], scrub := some 7 } [(F.BUF_SCRUB_CFG_EN, 1)]) (257) (0) (7) (lineKey 5 0) (5) (0) (78)) ∧
    ((fun (s : State) (page : Nat) => 4096 * page < baSize s ∧ pageHeld s page = false) (stored { valid := [(lineKey 5 farOfs, 1), (lineKey 5 farOfs + 64, 1)] } []) (farBa / 4096)) ∧
    ((fun (s : State) (page : Nat) => 4096 * page < baSize s ∧ pageHeld s page = true) ((let s := stored { valid := [(lineKey 5 0, 1)] } []; { s with buf := { s.buf with slices := [(0, { miss := some ⟨0, 0, 4096 * 5, none⟩ })] } })) (5)) := by
  and_intros <;> first | decide +kernel | rfl

theorem witness_bufferChannelsAndDiagnostics :
    ((fun (s : State) (ch cause : Nat) => ddrInst s ch = true ∧ Machine.get s (F.BUF_CH_STATUS_STATE ch) ≠ 1 ∧ isExposed s Dom.ddr (ch % 8) = false ∧ ((1 ≤ cause ∧ cause ≤ 3 ∨ cause = 4 ∧ Machine.get s F.BUF_UE_LIM < (mapGet (fun _ => []) s.buf.ueTimes ch).length))) ({ stored { ueTimes := [(9, [5, 4, 3])] } [(F.BUF_UE_LIM, 2)] with lib := { sets := [(2, { st := 1, rows := [⟨3, 9, 0, 1, 2, 0, false, [], [], [], some 2⟩] })] } }) (9) (4)) ∧
    ((fun (s : State) (ch : Nat) => ddrInst s ch = true ∧ Machine.get s (F.BUF_CH_STATUS_STATE ch) ≠ 1 ∧ isExposed s Dom.ddr (ch % 8) = false) ({ stored {} [] with lib := { sets := [(2, { st := 1, rows := [⟨3, 9, 0, 1, 2, 0, false, [], [], [], some 2⟩] })] } }) (9)) ∧
    ((fun (s : State) (ch : Nat) => ddrInst s ch = true ∧ Machine.get s (F.BUF_CH_STATUS_STATE ch) = 1) (stored { valid := [(lineKey 5 farOfs, 1), (lineKey 6 farOfs + 64, 1)] } [(F.BUF_CH_STATUS_STATE 5, 1)]) (5)) ∧
    ((fun (s : State) (ch : Nat) => ddrInst s ch = true ∧ Machine.get s (F.BUF_CH_STATUS_STATE ch) = 2 ∧ chWhole s ((ch + 8) % 16) = true) (stored { words := [(wordKey 13 64, 5)], valid := [(lineKey 13 64, 1), (lineKey 13 128, 1)] } [(F.BUF_CH_STATUS_STATE 5, 2)]) (5)) ∧
    ((fun (s : State) => Machine.get s F.BUF_STATUS_STATE = 1 ∧ elapsed s s.buf.clearAt (bufV s * 5 / 2048) = true) (stored { clearAt := 9 } [(F.BUF_STATUS_STATE, 1), (F.CLK_TIME, 156250000 * 3600)])) ∧
    ((fun (s : State) (c o : Nat) => diagAllowed s = true ∧ c = Machine.get s F.BUF_DIAG_ADDR_CH ∧ o = diagOfs s) (stored {} [(F.FUS_PROT, 8), (F.BUF_DIAG_ADDR_CH, 5), (F.BUF_DIAG_ADDR_OFS, 9), (F.BUF_DIAG_DATA 31, 6), (F.BUF_DIAG_CHECK 7, 8)]) (5) (9 * 128)) ∧
    ((fun (s : State) (w : Nat) => diagAllowed s = true ∧ w = diagWord s) (stored { words := [(wordKey 5 (9 * 128), 2 ^ 1200 + 2 ^ 1000)] } [(F.FUS_PROT, 8), (F.BUF_DIAG_ADDR_CH, 5), (F.BUF_DIAG_ADDR_OFS, 9)]) (2 ^ 1200 + 2 ^ 1000)) ∧
    ((fun (s : State) (w x d j verdict : Nat) (dev : Option Nat) => diagAllowed s = true ∧ w = diagWord s ∧ ((decodeWord w = .clean d ∧ x = w ∧ verdict = 0 ∧ dev = none ∨ decodeWord w = .corrected j d x ∧ dev = some j ∧ verdict = 1 ∨ decodeWord w = .uncorrectable ∧ x = w ∧ verdict = 2 ∧ dev = none))) (stored { words := [(wordKey 5 (9 * 128), 9)] } [(F.FUS_PROT, 8), (F.BUF_DIAG_ADDR_CH, 5), (F.BUF_DIAG_ADDR_OFS, 9)]) (9) (0) (0) (0) (1) (some 0)) ∧
    ((fun (s : State) (i : Instr) => i ∈ [Instr.writeRaw, .readRaw, .diagRead] ∧ diagAllowed s = false) (stored {} []) (.diagRead)) := by
  and_intros <;> first | decide +kernel | rfl

theorem witness_mapCacheBehaviour :
    ((fun (s : State) (req pair ba k errP errM : Nat) (alt : Bool) (l : CacheLine) => isMirrored s ba = true ∧ cacheOn s (ba / 128) = true ∧ cachedLine s (ba / 128) = some (k, l)) (stored (cached ⟨5, true, 2, 77⟩) []) (0) (0) (5 * 128) (wayKey (sliceOf 5) 0 3) (0) (0) (false) (⟨5, true, 2, 77⟩)) ∧
    ((fun (s : State) (req pair ba k data errP errM : Nat) (alt : Bool) (l : CacheLine) => isMirrored s ba = true ∧ cacheOn s (ba / 128) = true ∧ Machine.get s F.MAP_STATUS_STATE = 1 ∧ cachedLine s (ba / 128) = some (k, l)) (stored (cached ⟨5, false, 2, 77⟩) []) (0) (0) (5 * 128) (wayKey (sliceOf 5) 0 3) (99) (0) (0) (false) (⟨5, false, 2, 77⟩)) ∧
    ((fun (s : State) (req pair ba d w errP errM : Nat) (alt : Bool) => isMirrored s ba = true ∧ cacheOn s (ba / 128) = true ∧ cachedLine s (ba / 128) = none ∧ ((getSlice s (sliceOf (ba / 128))).side.find? fun e => decide (e.1 = ba / 128)) = some (ba / 128, d) ∧ (getSlice s (sliceOf (ba / 128))).det = [] ∧ ((List.range (mapWays s)).find? fun x => (mapFind s.buf.lines (wayKey (sliceOf (ba / 128)) (setOf s (ba / 128)) x)).isNone) = some w) (stored { slices := [(sliceOf 5, { side := [(4, 9), (5, 66)] })] } []) (0) (0) (5 * 128) (66) (0) (0) (0) (false)) ∧
    ((fun (s : State) (req pair ba errP errM : Nat) (alt : Bool) (w : Option Nat) => isMirrored s ba = true ∧ cacheOn s (ba / 128) = true ∧ Machine.get s F.MAP_STATUS_STATE = 1 ∧ cachedLine s (ba / 128) = none ∧ (getSlice s (sliceOf (ba / 128))).side = [] ∧ isSet s F.MAP_CTRL_PF_EN = false) (stored (cached ⟨5, false, 2, 77⟩) [(F.MAP_CTRL_PF_EN, 0)]) (0) (0) (6 * 128) (0) (0) (false) (some 5)) ∧
    ((fun (s : State) (a : CacheAccess) (d sl st w errP errM : Nat) (alt : Bool) => sl = sliceOf (a.ba / 128) ∧ st = setOf s (a.ba / 128) ∧ cacheOn s (a.ba / 128) = true ∧ a.write = none ∧ getSlice s sl = { getSlice s sl with miss := some a, waiting := [] } ∧ fillData a alt errP errM (putSlice sl { getSlice s sl with miss := none } s) = (some d, putSlice sl { getSlice s sl with miss := none } s) ∧ cachedLine s (a.ba / 128) = none ∧ s.host.relWait = [] ∧ ((List.range (mapWays s)).find? fun x => (mapFind s.buf.lines (wayKey sl st x)).isNone) = some w) (stored { slices := [(sliceOf 5, { miss := some ⟨0, 0, 5 * 128, none⟩ })] } []) (⟨0, 0, 5 * 128, none⟩) (0) (sliceOf 5) (0) (0) (0) (0) (false)) ∧
    ((fun (s : State) => Machine.get s F.MAP_STATUS_STATE = 0) (stored (cached ⟨5, false, 2, 77⟩) [(F.MAP_STATUS_STATE, 0)])) ∧
    ((fun (s : State) => Machine.get s F.MAP_STATUS_STATE ≠ 0) (stored (cached ⟨5, false, 2, 77⟩) [(F.MAP_STATUS_STATE, 2)])) ∧
    ((fun (s : State) => Machine.get s F.MAP_STATUS_STATE = 1) (stored { slices := [(3, { side := [(1, 2)] })] } [])) ∧
    ((fun (s : State) => Machine.get s F.MAP_STATUS_STATE = 2 ∧ (s.buf.slices.all fun p => p.2.miss.isNone) = true) (stored (cached ⟨5, true, 2, 77⟩) [(F.MAP_STATUS_STATE, 2)])) ∧
    ((fun (s : State) => isSet s F.MAP_MAINT_BUSY = false ∧ Machine.get s F.MAP_STATUS_STATE ≠ 0 ∧ fillOf s (Machine.get s F.MAP_MAINT_ADDR) = false) (stored (cached ⟨5, true, 2, 77⟩) [(F.MAP_MAINT_ADDR, 5)])) ∧
    ((fun (s : State) => isSet s F.MAP_MAINT_BUSY = false ∧ Machine.get s F.MAP_STATUS_STATE ≠ 0 ∧ fillOf s (Machine.get s F.MAP_MAINT_ADDR) = false) (stored (cached ⟨5, true, 2, 77⟩) [(F.MAP_MAINT_ADDR, 5)])) ∧
    ((fun (s : State) => isSet s F.MAP_MAINT_BUSY = false ∧ Machine.get s F.MAP_STATUS_STATE ≠ 0) (stored (cached ⟨5, true, 2, 77⟩) [(F.MAP_MAINT_ADDR, 5)])) ∧
    ((fun (s : State) (i : Instr) (op : Nat) => (i, op) ∈ [(Instr.maintClean, 0), (.maintInvalidate, 1), (.maintCleanAll, 2)] ∧ isSet s F.MAP_MAINT_BUSY = false ∧ Machine.get s F.MAP_STATUS_STATE = 0) (stored (cached ⟨5, true, 2, 77⟩) [(F.MAP_STATUS_STATE, 0)]) (.maintCleanAll) (2)) ∧
    ((fun (s : State) => isSet s F.MAP_MAINT_BUSY = false) (stored {} [])) ∧
    ((fun (s : State) => isSet s F.MAP_MAINT_BUSY = true ∧ s.buf.maint = none) (stored {} [(F.MAP_MAINT_BUSY, 1)])) ∧
    ((fun (s : State) (slice la : Nat) => slice < 32 ∧ sliceOff s slice = false) (stored {} []) (31) (5)) ∧
    ((fun (s : State) (la k d w : Nat) (l : CacheLine) => sliceOff s (sliceOf la) = false ∧ cachedLine s la = some (k, l) ∧ l.dirty = false ∧ (getSlice s (sliceOf la)).ueTimes = [] ∧ sliceOf la < 32 ∧ fillData ⟨3, 0, 128 * la, none⟩ false 0 0 (dropLine k (bump F.MAP_SRAM_UE 1 s)) = (some d, dropLine k (bump F.MAP_SRAM_UE 1 s)) ∧ ((List.range (mapWays s)).find? fun x => (mapFind (dropLine k s).buf.lines (wayKey (sliceOf la) (setOf s la) x)).isNone) = some w) (stored (cached ⟨5, false, 2, 77⟩) []) (5) (wayKey (sliceOf 5) 0 3) (0) (0) (⟨5, false, 2, 77⟩)) ∧
    ((fun (s : State) (slice la : Nat) => slice < 32 ∧ sliceOff s slice = false) (stored (cached ⟨5, true, 2, 77⟩) []) (sliceOf 5) (5)) := by
  and_intros <;> first | decide +kernel | rfl

theorem witness_oneDeviceIsCorrected :
    ((fun (data j : Nat) (err : Nat → Nat) => j < 20 ∧ ((∀ i < 8, err i < 256)) ∧ ((∃ i < 8, err i ≠ 0))) (5) (3) (fun i => i + 1)) := by
  and_intros <;> first | decide +kernel | rfl

theorem witness_powerLossReadiness :
    ((fun (s s1 : State) (code v bank : Nat) (l : List Nat) => s1 = takeCal (fun i => decide (i = 1)) s ∧ v = (if Machine.get s F.PLP_HU_CFG_RATIO = 0 then 0 else ((((16 * (code % 65536) : Nat) - inForceI s1 F.CAL_HU_OFFSET) * inForce s1 F.CAL_HU_GAIN).toNat * 2500000) / (2 ^ 34 * max 1 (Machine.get s F.PLP_HU_CFG_RATIO))) ∧ l = (v :: s.plp.samples).take 10 ∧ bank = (if s.plp.testV0.isSome then v else l.sum / l.length)) (rig [(F.PLP_HU_CFG_RATIO, 0), (F.PLP_HU_TEST_V_LOSS, 5)]) (rig [(F.PLP_HU_CFG_RATIO, 0), (F.PLP_HU_TEST_V_LOSS, 5)]) (700) (0) (0) ([0])) ∧
    ((fun (s : State) => s.pwr.powerLoss = false) (rig [(F.PLP_D_DIRTY, 5)])) ∧
    ((fun (s : State) => s.plp.testV0 = none ∧ s.pwr.powerLoss = false) ({ rig [] with plp := { bank := 7 } })) ∧
    ((fun (s : State) => s.plp.testV0 = none ∧ s.pwr.powerLoss = false ∧ ((∀ x ∈ s.plp.capAt, elapsed s x (24 * 3600 * 156250000) = true))) ({ rig [(F.CLK_TIME, 24 * 3600 * 156250000 + 4)] with plp := { bank := 7, capAt := some 4 } })) ∧
    ((fun (s : State) (v0 c : Nat) => s.plp.testV0 = some v0 ∧ elapsed s s.plp.testAt 3125000 = true ∧ (c = (if v0 ≤ s.plp.bank ∨ s.plp.bank = 0 then 0 else min 65535 (capacitance (Machine.get s F.PLP_HU_TEST_R_TEST) v0 s.plp.bank)))) ({ rig [(F.PLP_HU_CAP_C_NOM, 9), (F.CLK_TIME, 3125007)] with plp := { bank := 7, testV0 := some 7, testAt := 7 } }) (7) (0)) ∧
    ((fun (s : State) (rs : List JournalRecord) => isSet s F.PLP_STATUS_VAULT_OK = true ∧ s.pwr.powerLoss = false ∧ rs = fitting (4 * 2 ^ 20) (fullTail s) ∧ rs ≠ [] ∧ Machine.get s F.PLP_D_DIRTY + (rs.map recordSize).sum ≤ Machine.get s F.PLP_D_MAX ∧ ((s.plp.vault.ring.length < 2048 ∨ (s.plp.vault.ring.headD ⟨s.lib.ckptEpoch, []⟩).epoch < s.lib.ckptEpoch))) ({ rig [(F.PLP_STATUS_VAULT_OK, 1), (F.PLP_D_MAX, 999)] with plp := { tail := [.issued 1 2 3 []] } }) ([.issued 1 2 3 []])) ∧
    ((fun (s : State) (rs : List JournalRecord) => isSet s F.PLP_STATUS_VAULT_OK = true ∧ s.pwr.powerLoss = false ∧ rs = fitting (4 * 2 ^ 20) (fullTail s) ∧ rs ≠ [] ∧ Machine.get s F.PLP_D_MAX < Machine.get s F.PLP_D_DIRTY + (rs.map recordSize).sum) ({ rig [(F.PLP_STATUS_VAULT_OK, 1), (F.PLP_D_MAX, 99)] with plp := { tail := [.issued 1 2 3 []] } }) ([.issued 1 2 3 []])) ∧
    ((fun (s : State) (x : VaultSeen) => s.pwr.powerLoss = false ∧ x.rate < 65536) (rig [(F.PLP_R_VAULT_TAB, 20000), (F.PLP_STATUS_VAULT_OK, 0)]) (⟨0x10400, 4096, 128, 4000, true⟩)) ∧
    ((fun (s : State) (ev : VaultEvent) (n : Nat) => isSet s F.PLP_STATUS_VAULT_OK = true ∧ s.pwr.powerLoss = false ∧ ((ev = .linkLost ∨ ev = .critical ∨ ev = .writeFailed n ∧ 3 ≤ n))) (rig [(F.PLP_STATUS_VAULT_OK, 1), (F.PLP_D_DIRTY, 5)]) (.writeFailed 3) (3)) ∧
    ((fun (s : State) (n : Nat) => n < 3) (rig [(F.PLP_STATUS_VAULT_OK, 1), (F.PLP_D_DIRTY, 5)]) (2)) ∧
    ((fun (s : State) (req : Nat) => ((req < 4 ∨ req = 8))) ({ rig [] with plp := { bank := 7, lossWarn := true } }) (8)) ∧
    ((fun (s : State) (v : Nat) => v % 65536 ≠ 0) (rig []) (65537)) ∧
    ((fun (s : State) (v : Nat) => v % 65536 = 0) (rig []) (65536)) := by
  and_intros <;> first | decide +kernel | rfl

theorem witness_lossDumpAndRecovery :
    ((fun (s : State) (bank : Bool) => s.pwr.powerLoss = false ∧ s.pwr.hold = 0 ∧ s.pwr.dormant = false ∧ ((bank = true → 2 ≤ s.plp.low))) ({ turning 3 { inverter := true } [(F.GLB_INST_HEAD, 3), (F.MOT_STATUS_STATE 0, 3), (F.PLP_STATUS_VAULT_OK, 1), (F.CLK_STATUS_LINK_OK, 1), (F.CLK_STATUS_LOCKED, 1), (F.SV_STATUS_STATE 0, 5)] with pwr := { hold := 0 }, plp := { tail := [.issued 1 2 3 []], low := 2 } }) (true)) ∧
    ((fun (s : State) (units : Nat) => s.plp.dumping = true ∧ s.pwr.powerLoss = true ∧ s.pwr.resetDue ≠ 1 ∧ isSet s F.DMP_STATUS_FATAL = false) ({ rig [] with pwr := { hold := 0, powerLoss := true }, plp := { dumping := true } }) (0)) ∧
    ((fun (s : State) (units : Nat) => s.plp.dumping = false ∧ s.pwr.powerLoss = true ∧ s.pwr.hold = 0 ∧ s.pwr.resetDue ≠ 1) ({ rig [] with pwr := { hold := 0, powerLoss := true } }) (0)) ∧
    ((fun (s : State) (pin : Bool) (us : Nat) => s.pwr.hold = 1 ∧ ((pin = true ∨ s.pwr.railBad = [] ∧ 10000 ≤ us))) ({ turning 3 { inverter := true } [(F.PWR_RETAIN 15, 9)] with pwr := { hold := 1, powerLoss := true }, plp := { dumped := true } }) (false) (10000)) ∧
    ((fun (s : State) (rows : List FoundRow) => s.pwr.rdyOk = true ∧ isSet s F.PWR_STATUS_MAP_READY = false ∧ isSet s F.DMP_STATUS_FATAL = false ∧ s.pwr.powerLoss = false ∧ validDirectory s.flash = none ∧ Machine.get s F.PWR_MAP_PROGRESS_STEP = 0) ({ shelved (fun l => { l with gmap := [(1, .buffer 4)], discs := [(4, {})] }) [] with pwr := { rdyOk := true } }) ([])) ∧
    ((fun (s s0 : State) (rows : List FoundRow) (d : Option Directory) => s.pwr.rdyOk = true ∧ isSet s F.PWR_STATUS_MAP_READY = false ∧ isSet s F.DMP_STATUS_FATAL = false ∧ s.pwr.powerLoss = false ∧ validDirectory s.flash = d ∧ ((d = none → Machine.get s F.PWR_MAP_PROGRESS_STEP ≠ 0 ∧ s.host.importQ = [])) ∧ s0 = put F.PWR_STATUS_START_STEP 15 { s with lib := { s.lib with gmap := [], frags := [], fragUsed := [], unavail := [], filling := [] } }) ({ shelved (fun l => { l with gmap := [(1, .buffer 4)], discs := [(4, { state := 1 })] }) [] with pwr := { rdyOk := true }, flash := { dirA := some ⟨3, [(4, { state := 1 })], [], [⟨5, 2, 100, true, false, [3]⟩], 7, 8⟩ } }) (put F.PWR_STATUS_START_STEP 15 { shelved (fun l => { l with gmap := [], discs := [(4, { state := 1 })] }) [] with pwr := { rdyOk := true }, flash := { dirA := some ⟨3, [(4, { state := 1 })], [], [⟨5, 2, 100, true, false, [3]⟩], 7, 8⟩ } }) ([]) (some ⟨3, [(4, { state := 1 })], [], [⟨5, 2, 100, true, false, [3]⟩], 7, 8⟩)) ∧
    ((fun (s : State) (d : Directory) => s.pwr.rdyOk = true ∧ isSet s F.PWR_STATUS_MAP_READY = false ∧ isSet s F.DMP_STATUS_FATAL = false ∧ s.pwr.powerLoss = false ∧ validDirectory s.flash = some d ∧ d.sets = [] ∧ s.plp.noVault = false ∧ s.plp.vault.ring = [] ∧ s.plp.tail = [] ∧ s.plp.units = [] ∧ s.plp.maskLost = [] ∧ s.plp.state1 = false ∧ validHeader s.plp.vault = none ∧ s.par.ckpt = [] ∧ memberCkpts (applyDirectory d s) = []) ({ shelved (fun l => { l with gmap := [(1, .buffer 4)], discs := [(4, { state := 1 })] }) [] with pwr := { rdyOk := true }, flash := { dirA := some ⟨3, [(4, { state := 1 })], [], [⟨5, 2, 100, true, false, [3]⟩], 7, 8⟩ } }) (⟨3, [(4, { state := 1 })], [], [⟨5, 2, 100, true, false, [3]⟩], 7, 8⟩)) ∧
    ((fun (s : State) => isSet s F.PWR_STATUS_MAP_READY = false ∧ Machine.get s F.PWR_MAP_PROGRESS_STEP = 4 ∧ isSet s F.DMP_STATUS_FATAL = false ∧ s.pwr.powerLoss = false) ({ spaced {} [(F.PLP_STATUS_VAULT_OK, 1), (F.PLP_STATUS_RECOVERING, 1), (F.PWR_MAP_PROGRESS_STEP, 4)] with plp := { units := [⟨1, 2, 3, [4], false⟩] } })) := by
  and_intros <;> first | decide +kernel | rfl

theorem witness_thermalManagement :
    ((fun (s s0 : State) (die : List Int) (kept : Nat) => s.pwr.started = true ∧ s.pwr.hold = 0 ∧ s.pwr.powerLoss = false ∧ sampleDue s = true ∧ s0 = takeCal (fun i => decide (38 ≤ i) && decide (i < 103)) { s with thm := { s.thm with sampleAt := some (now s) } }) ({ rig [(F.THM_STATUS_WARN, 0), (F.HL_STATUS_STATE 0, 5), (F.THM_L_THR_THROTTLE, 70), (F.THM_L_THR_SHUT, 80), (F.HL_TELEM0_LASER_T 0, 64 * 81), (F.THM_J_THR_WARN, 90), (F.THM_J_THR_THROTTLE, 95), (F.THM_J_THR_SHUT, 105), (F.GLB_INST_BAY, 3), (F.GLB_INST_HEAD, 3)] with pwr := { started := true, hold := 0 } }) ({ rig [(F.THM_STATUS_WARN, 0), (F.HL_STATUS_STATE 0, 5), (F.THM_L_THR_THROTTLE, 70), (F.THM_L_THR_SHUT, 80), (F.HL_TELEM0_LASER_T 0, 64 * 81), (F.THM_J_THR_WARN, 90), (F.THM_J_THR_THROTTLE, 95), (F.THM_J_THR_SHUT, 105), (F.GLB_INST_BAY, 3), (F.GLB_INST_HEAD, 3)] with pwr := { started := true, hold := 0 }, thm := { sampleAt := some 0 } }) (List.replicate 63 400 ++ [2000]) (5)) ∧
    ((fun (s : State) (die : List Int) (kept : Nat) (v : Int) => s.pwr.started = true ∧ s.pwr.hold = 0 ∧ s.pwr.powerLoss = false ∧ sampleDue s = true ∧ noContexts s = true ∧ s.cal.fresh = [] ∧ ((∀ i < 64, die.getD i 0 - inForceI s (F.CAL_DIE i) = v)) ∧ -2048 ≤ v ∧ v + 160 < 16 * (Machine.get s F.THM_J_THR_WARN : Int) ∧ v < 16 * (Machine.get s F.THM_J_THR_THROTTLE : Int) ∧ v < 16 * (Machine.get s F.THM_J_THR_SHUT : Int) ∧ isSet s F.THM_STATUS_WARN = false ∧ isSet s F.THM_STATUS_THROTTLE = false ∧ Machine.get s F.THM_EXCLUDED = 0 ∧ isSet s F.THM_STATUS_GRID_DEGRADED = false ∧ ((∀ h ∈ headsOf s, Machine.get s (F.HL_STATUS_STATE h) ≠ 5)) ∧ ((∀ b ∈ baysOf s, linkUp s b = false)) ∧ s.thm.lWarn = [] ∧ s.thm.ntcWarn = [] ∧ s.thm.relief = [] ∧ s.thm.nearAt = none ∧ s.thm.stop = 0 ∧ s.thm.tmt = 0 ∧ tmtDemand s v = 0) ({ rig [(F.THM_STATUS_WARN, 0), (F.THM_STATUS_GRID_DEGRADED, 0), (F.THM_EXCLUDED, 0), (F.THM_J_THR_WARN, 90), (F.THM_J_THR_THROTTLE, 95), (F.THM_J_THR_SHUT, 105), (F.GLB_INST_BAY, 3), (F.GLB_INST_HEAD, 3)] with pwr := { started := true, hold := 0 } }) (List.replicate 64 400) (5) (400)) ∧
    ((fun (s : State) (die : List Int) (kept : Nat) (v : Int) => s.pwr.started = true ∧ s.pwr.hold = 0 ∧ s.pwr.powerLoss = false ∧ sampleDue s = true ∧ ((∀ i < 64, die.getD i 0 - inForceI s (F.CAL_DIE i) = v)) ∧ s.cal.fresh = [] ∧ 16 * (Machine.get s F.THM_J_THR_THROTTLE : Int) ≤ v ∧ v < 16 * (Machine.get s F.THM_J_THR_SHUT : Int) ∧ isSet s F.THM_STATUS_THROTTLE = false ∧ Machine.get s F.THM_EXCLUDED = 0 ∧ s.thm.stop = 0 ∧ s.thm.tmt = 0 ∧ tmtDemand s v = 0) ({ rig [(F.THM_J_THR_WARN, 90), (F.THM_J_THR_THROTTLE, 95), (F.THM_J_THR_SHUT, 105), (F.GLB_INST_BAY, 1), (F.GLB_INST_HEAD, 3)] with pwr := { started := true, hold := 0 } }) (List.replicate 64 1520) (5) (1520)) ∧
    ((fun (s : State) (die : List Int) (kept : Nat) (v : Int) => s.pwr.started = true ∧ s.pwr.hold = 0 ∧ s.pwr.powerLoss = false ∧ sampleDue s = true ∧ ((∀ i < 64, die.getD i 0 - inForceI s (F.CAL_DIE i) = v)) ∧ s.cal.fresh = [] ∧ v < 16 * 2048 ∧ 16 * (Machine.get s F.THM_J_THR_SHUT : Int) ≤ v ∧ Machine.get s F.THM_EXCLUDED = 0 ∧ s.thm.stop = 0 ∧ s.plp.dumping = false) ({ rig [(F.THM_J_THR_WARN, 90), (F.THM_J_THR_THROTTLE, 95), (F.THM_J_THR_SHUT, 105), (F.GLB_INST_BAY, 1), (F.GLB_INST_HEAD, 3)] with pwr := { started := true, hold := 0 } }) (List.replicate 64 1920) (5) (1920)) ∧
    ((fun (s : State) (die : List Int) (kept : Nat) => ((s.pwr.started = false ∨ s.pwr.hold ≠ 0 ∨ s.pwr.powerLoss = true ∨ sampleDue s = false))) ({ rig [] with pwr := { started := false } }) ([]) (4)) ∧
    ((fun (s : State) => isSet s F.THM_STATUS_THROTTLE = true ∧ isSet s F.THM_STATUS_GRACE = true ∧ s.thm.stop = 0 ∧ elapsed s s.thm.setAt (156250 * Machine.get s F.THM_GRACE) = true) (rig [(F.THM_STATUS_THROTTLE, 1), (F.THM_STATUS_GRACE, 1), (F.THM_GRACE, 0), (F.CLK_TIME, 9)])) ∧
    ((fun (s : State) (n : Nat) => isSet s F.THM_STATUS_THROTTLE = true ∧ isSet s F.THM_STATUS_GRACE = false ∧ s.thm.stop = 0 ∧ s.thm.own = n ∧ 0 < n ∧ n < 4 ∧ elapsed s s.thm.ownAt (15625000 * Machine.get s F.THM_ENF_STEP_T) = true) ({ rig [(F.THM_STATUS_THROTTLE, 1), (F.THM_ENF_STEP, 3), (F.CLK_TIME, 9), (F.THM_ENF_STEP_T, 0)] with thm := { own := 3 } }) (3)) ∧
    ((fun (s : State) (n : Nat) => isSet s F.THM_STATUS_THROTTLE = false ∧ s.thm.tmt = 0 ∧ s.thm.stop = 0 ∧ Machine.get s F.THM_ENF_STEP = n + 1 ∧ elapsed s s.thm.removeAt 1562500000 = true) ({ rig [(F.THM_ENF_STEP, 1), (F.CLK_TIME, 1562500000)] with thm := { own := 3 } }) (0)) ∧
    ((fun (s : State) (kept : Nat) => s.thm.stop = 1 ∧ elapsed s s.thm.stopAt (156250000 * Machine.get s F.THM_ENF_ORDERLY_MAX) = true) ({ rig [(F.THM_ENF_ORDERLY_MAX, 0)] with thm := { stop := 1 }, plp := { dumping := true } }) (0)) ∧
    ((fun (s : State) (ao : Int) (ms : Nat) => s.pwr.hold = 2 ∧ recentShutdowns s < 3 ∧ ao < 16 * 105 ∧ 10000 ≤ ms) ({ turning 3 {} [(F.PWR_RETAIN 15, 9), (F.PWR_WAKE_TIME, 55)] with pwr := { hold := 2 }, thm := { shutAt := [50] } }) (1679) (10000)) ∧
    ((fun (s : State) (ao : Int) (ms : Nat) => 3 ≤ recentShutdowns s) ({ rig [(F.PWR_WAKE_TIME, 55)] with pwr := { hold := 2 }, thm := { shutAt := [50, 40, 30] } }) (1679) (10000)) := by
  and_intros <;> first | decide +kernel | rfl

theorem witness_calibration_16 :
    (fun (s : State) (fn cid : Nat) (image : List Nat) => (fn = 0 ∨ fn = 512) ∧ adminOpen s fn = true ∧ s.cal.job = none ∧ imageOk s image = true ∧ ∀ i < 167, -32768 ≤ imageOffset image i ∧ imageOffset image i < 32768)
      (rig [(F.HST_FN_STATUS_CCEN 0, 1), (F.CLK_TIME, 9), (F.TAB_STATUS_SELECTED, 0)]) 0 7 restoreBytes :=
  ⟨by decide +kernel, by decide +kernel, by decide +kernel, restoreBytes_ok _, restoreBytes_range⟩

theorem witness_calibration :
    ((fun (s : State) (x : CalSeen) => s.cal.job = none ∧ 1225000 ≤ x.ref ∧ x.ref ≤ 1275000) (rig [(F.CLK_TIME, 9)]) (⟨1250000, [], (0, 0)⟩)) ∧
    ((fun (s : State) (x : CalSeen) => s.cal.job = none ∧ ((x.ref < 1225000 ∨ 1275000 < x.ref))) (rig [(F.CLK_TIME, 9)]) (⟨1225, [], (0, 0)⟩)) ∧
    ((fun (s : State) (x : CalSeen) (j : CalJob) => s.cal.job = some j) ({ rig [] with cal := { job := some ⟨513, 0, 4, 0, []⟩ } }) (⟨1225, [], (0, 0)⟩) (⟨513, 0, 4, 0, []⟩)) ∧
    ((fun (s : State) (x : CalSeen) => s.cal.job = none ∧ ((refFresh s = true ∨ 1225000 ≤ x.ref ∧ x.ref ≤ 1275000))) ({ rig [(F.CAL_EXP_SEL, 9), (F.CLK_TIME, 9)] with cal := { refAt := some 4 } }) (⟨1225, [], (0, 0)⟩)) ∧
    ((fun (s : State) (x : CalSeen) => s.cal.job = none ∧ Machine.get s F.CAL_AUTO ≠ 0 ∧ s.pwr.started = true ∧ elapsed s s.cal.autoAt (3600 * 156250000 * Machine.get s F.CAL_AUTO) = true ∧ 1225000 ≤ x.ref ∧ x.ref ≤ 1275000) ({ rig [(F.CAL_AUTO, 1), (F.CLK_TIME, 3600 * 156250000)] with pwr := { started := true } }) (⟨1275000, [], (0, 0)⟩)) ∧
    ((fun (s : State) (x : CalSeen) => ((Machine.get s F.CAL_AUTO = 0 ∨ elapsed s s.cal.autoAt (3600 * 156250000 * Machine.get s F.CAL_AUTO) = false))) (rig [(F.CAL_AUTO, 0)]) (⟨1275000, [], (0, 0)⟩)) ∧
    ((fun (s : State) (j : CalJob) (st n : Nat) (rest : List (Nat × Nat)) => s.cal.job = some j ∧ s.cal.plan = (st, n) :: rest ∧ st ≠ 4 ∧ s.cal.period + 1 < n) ({ rig [] with cal := { job := some ⟨513, 0, 4, 0, []⟩, plan := [(1, 200), (4, 5)], period := 7 } }) (⟨513, 0, 4, 0, []⟩) (1) (200) ([(4, 5)])) ∧
    ((fun (s : State) (j : CalJob) (n st n' : Nat) (rest : List (Nat × Nat)) => s.cal.job = some j ∧ s.cal.plan = (2, n) :: (st, n') :: rest ∧ s.cal.period + 1 = n) ({ rig [(F.CLK_TIME, 9)] with cal := { job := some ⟨513, 0, 1, 0, []⟩, plan := [(2, 320), (4, 5)], period := 319, seen := ⟨1250000, [(3, 4)], (0, 0)⟩ } }) (⟨513, 0, 1, 0, []⟩) (320) (4) (5) ([])) ∧
    ((fun (s : State) (j : CalJob) (x : CalSeen) => s.cal.job = some j ∧ s.cal.plan = [] ∧ s.cal.waiting = []) ({ rig [(F.CAL_STATUS_BUSY, 1)] with cal := { job := some ⟨513, 0, 4, 0, []⟩ } }) (⟨513, 0, 4, 0, []⟩) (⟨1225000, [], (0, 0)⟩)) ∧
    ((fun (s : State) (j k : CalJob) (x : CalSeen) => s.cal.job = some j ∧ s.cal.plan = [] ∧ s.cal.waiting = [k] ∧ k.action ≠ 2 ∧ 1225000 ≤ x.ref ∧ x.ref ≤ 1275000) ({ rig [(F.CAL_STATUS_BUSY, 1)] with cal := { job := some ⟨0, 7, 4, 0, []⟩, waiting := [⟨0, 8, 0, 0, []⟩] } }) (⟨0, 7, 4, 0, []⟩) (⟨0, 8, 0, 0, []⟩) (⟨1225000, [], (0, 0)⟩)) ∧
    ((fun (s : State) (x : CalSeen) => ((s.cal.job = none ∨ s.cal.plan ≠ []))) (rig []) (⟨1225000, [], (0, 0)⟩)) ∧
    ((fun (s : State) (item gain b : Nat) (ofs o : Int) => item < 167 ∧ o = clampInt (-(offsetBound s item : Int)) (offsetBound s item) ofs ∧ b = (if item = 0 then 37 else if item = 1 then 36 else item - 2)) (rig [(F.CAL_BOUNDS_GAIN_B, 9), (F.CAL_BOUNDS_OFS_B, 5), (F.CLK_TIME, 9)]) (37) (2 ^ 31) (35) (4000) (80)) ∧
    ((fun (s : State) (item gain : Nat) (ofs : Int) (g o : Fld) => 0 < item ∧ calFields item = [g, o] ∧ inBounds s item (gain % 2 ^ 32) ofs = true ∧ -32768 ≤ ofs ∧ ofs < 32768) ({ rig [(F.CAL_BOUNDS_GAIN_B, 9), (F.CAL_BOUNDS_OFS_B, 5), (F.CLK_TIME, 9), (F.CAL_OUT_OF_BOUNDS, 0)] with cal := { job := some ⟨513, 0, 0, 0, []⟩, plan := [(3, 9)] } }) (1) (2 ^ 32 + 2 ^ 30) (-80) (F.CAL_HU_GAIN) (F.CAL_HU_OFFSET)) ∧
    ((fun (s : State) (fn cid : Nat) (x : CalSeen) => ((fn = 0 ∨ fn = 512)) ∧ adminOpen s fn = true ∧ s.cal.job = none ∧ 1225000 ≤ x.ref ∧ x.ref ≤ 1275000) (rig [(F.HST_FN_STATUS_CCEN 0, 1), (F.CLK_TIME, 9), (F.TAB_STATUS_SELECTED, 0)]) (0) (7) (⟨1225000, [], (0, 0)⟩)) ∧
    ((fun (s : State) (fn cid bays cars : Nat) (x : CalSeen) => ((fn = 0 ∨ fn = 512)) ∧ adminOpen s fn = true ∧ s.cal.job = none ∧ ((refFresh s = true ∨ 1225000 ≤ x.ref ∧ x.ref ≤ 1275000))) ({ rig [(F.CLK_TIME, 9), (F.TAB_STATUS_SELECTED, 0)] with pwr := { started := true, hold := 0 } }) (512) (7) (255) (255) (⟨1225000, [], (0, 0)⟩)) ∧
    ((fun (s : State) (fn cid : Nat) (image : List Nat) => ((fn = 0 ∨ fn = 512)) ∧ adminOpen s fn = true ∧ s.cal.job = none ∧ imageOk s image = false) (rig [(F.HST_FN_STATUS_CCEN 0, 1), (F.TAB_STATUS_SELECTED, 0)]) (0) (7) ([])) ∧
    ((fun (s : State) (fn cid : Nat) => ((fn = 0 ∨ fn = 512)) ∧ adminOpen s fn = true) (rig [(F.HST_FN_STATUS_CCEN 0, 1), (F.TAB_STATUS_SELECTED, 0)]) (0) (7)) ∧
    ((fun (s : State) (fn cid bays cars : Nat) (x : CalSeen) (image : List Nat) (i : Instr) => 0 < fn ∧ fn < 512 ∧ adminOpen s fn = true ∧ i ∈ [Instr.calibrateFull fn cid x, .calibrateExpanders fn cid bays cars x, .calibrateRestore fn cid image, .calibrateRefused fn cid]) (rig [(F.HST_FN_STATUS_CCEN 3, 1), (F.TAB_STATUS_SELECTED, 0)]) (3) (7) (0) (0) (⟨1225000, [], (0, 0)⟩) ([]) (.calibrateFull 3 7 ⟨1225000, [], (0, 0)⟩)) := by
  and_intros <;> first | decide +kernel | rfl

theorem witness_fuseOperations :
    ((fun (s : State) => isSet s F.FUS_PROG_CTRL_BUSY = false ∧ isSet s F.FUS_STATUS_SEALED = false) (rig [(F.FUS_PROG_WORD, 9), (F.FUS_PROG_MASK, 6)])) ∧
    ((fun (s : State) => isSet s F.FUS_PROG_CTRL_BUSY = false ∧ isSet s F.FUS_STATUS_SEALED = true) (rig [(F.FUS_STATUS_SEALED, 1), (F.FUS_PROG_CTRL_BUSY, 0)])) ∧
    ((fun (s : State) => isSet s F.FUS_PROG_CTRL_BUSY = true) (rig [(F.FUS_PROG_CTRL_BUSY, 1)])) ∧
    ((fun (s : State) (i mask failed : Nat) (want good : List Nat) => s.fuse.op = some (i, mask) ∧ want = ((List.range 64).filter fun b => decide (bitOf mask b = 1) && decide (bitOf (fuseWord s i) b = 0)) ∧ good = (want.filter fun b => decide (bitOf failed b = 0)) ∧ elapsed s s.fuse.opAt (6250 * want.length) = true) ({ rig [(F.CLK_TIME, 6250)] with fuse := { op := some (127, 2 ^ 63), words := [] } }) (127) (2 ^ 63) (0) ([63]) ([63])) ∧
    ((fun (s : State) (a : List Nat) (op target : Nat) (good : Bool) => isSet s F.FUS_PROG_CTRL_BUSY = false ∧ a = authBlock s ∧ op = imgNat a 0 1 ∧ target = imgNat a 1 1 ∧ good = ((decide (op = 1) || decide (op = 2)) && decide (sigFault s a 32 (if op = 1 then 3 else 2) ctxFus = 0) && decide (imgNat a 4 16 = unitId s) && decide (imgNat a 20 8 = Machine.get s F.FUS_NONCE))) (rig []) (authBlock (rig [])) (0) (0) (false)) ∧
    ((fun (s : State) => isSet s F.FUS_PROG_CTRL_BUSY = true) (rig [(F.FUS_PROG_CTRL_BUSY, 1)])) ∧
    ((fun (s : State) => isSet s F.FUS_PROG_CTRL_BUSY = true) (rig [(F.FUS_PROG_CTRL_BUSY, 1)])) ∧
    ((fun (s : State) => isSet s F.FUS_PROG_CTRL_BUSY = false) (rig [])) := by
  and_intros <;> first | decide +kernel | rfl

theorem witness_tablatureSessions :
    ((fun (s : State) (fn cid : Nat) (data : List Nat) => recoveryOpen s fn = true ∧ mayLoad s fn 8 = true ∧ ((∀ x, s.host.tabSess = some x → x.holder = fn)) ∧ data.length ≤ 2 ^ 22) (downloader none) (0) (5) ([1, 2 ^ 33])) ∧
    ((fun (s : State) (fn cid ofs : Nat) (data : List Nat) (x : Session) => recoveryOpen s fn = true ∧ mayLoad s fn 8 = true ∧ s.host.tabSess = some x ∧ x.holder = fn ∧ ofs ≠ 0 ∧ ofs + data.length ≤ 2 ^ 22) (downloader (some ⟨0, [(0, 5)], 3⟩)) (0) (5) (2) ([1, 2 ^ 33]) (⟨0, [(0, 5)], 3⟩)) ∧
    ((fun (s : State) (fn cid ofs : Nat) (data : List Nat) => recoveryOpen s fn = true ∧ sourceOf fn = none) ({ rig [(F.HST_FN_STATUS_CCEN 9, 1), (F.TAB_STATUS_SELECTED, 0)] with pending := [] }) (9) (5) (2) ([1])) ∧
    ((fun (s : State) (fn cid ofs : Nat) (data : List Nat) => recoveryOpen s fn = true ∧ (sourceOf fn).isSome = true ∧ mayLoad s fn 8 = false) ({ downloader (some ⟨0, [(0, 5)], 3⟩) with fuse := { words := [(3, 0x100)] } }) (1) (5) (2) ([1])) ∧
    ((fun (s : State) (fn cid ofs : Nat) (data : List Nat) (x : Session) => recoveryOpen s fn = true ∧ mayLoad s fn 8 = true ∧ s.host.tabSess = some x ∧ x.holder ≠ fn) (downloader (some ⟨0, [(0, 5)], 3⟩)) (1) (5) (2) ([1]) (⟨0, [(0, 5)], 3⟩)) ∧
    ((fun (s : State) (fn cid ofs : Nat) (data : List Nat) => recoveryOpen s fn = true ∧ mayLoad s fn 8 = true ∧ ((∀ x, s.host.tabSess = some x → x.holder = fn)) ∧ 2 ^ 22 < ofs + data.length) (downloader (some ⟨0, [(0, 5)], 3⟩)) (0) (5) (4194304) ([1])) ∧
    ((fun (s : State) (fn cid ofs : Nat) (data : List Nat) => recoveryOpen s fn = true ∧ mayLoad s fn 8 = true ∧ s.host.tabSess = none ∧ ofs ≠ 0 ∧ ofs + data.length ≤ 2 ^ 22) (downloader none) (0) (5) (2) ([1])) ∧
    ((fun (s : State) (fn cid e : Nat) => recoveryOpen s fn = true ∧ mayLoad s fn 8 = true ∧ ((∀ x, s.host.tabSess = some x → x.holder = fn)) ∧ e = commitFault s) (downloader (some ⟨0, [(0, 5)], 3⟩)) (0) (5) (commitFault (downloader (some ⟨0, [(0, 5)], 3⟩)))) ∧
    ((fun (s : State) (fn cid e : Nat) (readOk : Bool) (img : List Nat) => recoveryOpen s fn = true ∧ mayLoad s fn 8 = true ∧ ((∀ x, s.host.tabSess = some x → x.holder = fn)) ∧ e = commitFault s ∧ img = (staged s.host.tabSess).take (imgNat (staged s.host.tabSess) 8 4)) (downloader (some ⟨0, [(0, 5)], 3⟩)) (0) (5) (commitFault (downloader (some ⟨0, [(0, 5)], 3⟩))) (true) ([])) ∧
    ((fun (s : State) => silent s s.host.tabSess = true) ({ downloader (some ⟨0, [(0, 5)], 3⟩) with pending := [] })) ∧
    ((fun (s : State) => silent s s.host.tabSess = false) (downloader none)) ∧
    ((fun (s : State) (x : Session) => s.host.tabSess = some x) (downloader (some ⟨0, [(0, 5)], 3⟩)) (⟨0, [(0, 5)], 3⟩)) := by
  and_intros <;> first | decide +kernel | rfl

theorem witness_firmwareDownloadAndCommit :
    ((fun (s : State) (fn cid : Nat) (data : List Nat) => fwHolds s fn = true ∧ data.length ≤ 2 ^ 23) (updating none {}) (0) (5) ([1, 2 ^ 33])) ∧
    ((fun (s : State) (fn cid ofs : Nat) (data : List Nat) => fwHolds s fn = true ∧ ofs ≠ 0 ∧ s.host.fwSess = none ∧ ofs + data.length ≤ 2 ^ 23) (updating none {}) (0) (5) (1) ([1, 2 ^ 33])) ∧
    ((fun (s : State) (fn cid ofs : Nat) (data : List Nat) (x : Session) => fwHolds s fn = true ∧ ofs ≠ 0 ∧ s.host.fwSess = some x ∧ ofs + data.length ≤ 2 ^ 23) (updating (some ⟨0, [(0, 5)], 3⟩) {}) (0) (5) (1) ([1, 2 ^ 33]) (⟨0, [(0, 5)], 3⟩)) ∧
    ((fun (s : State) (fn cid ofs : Nat) (data : List Nat) => fwHolds s fn = true ∧ 2 ^ 23 < ofs + data.length) (updating (some ⟨0, [(0, 5)], 3⟩) {}) (0) (5) (2 ^ 23) ([1, 2 ^ 33])) ∧
    ((fun (s : State) (fn cid fs i : Nat) (readOk : Bool) (p : List Nat) => fwHolds s fn = true ∧ slotLetter s fs = some i ∧ i < 2 ∧ s.flash.fw.active < 2 ∧ i ≠ s.flash.fw.active ∧ s.flash.fw.state ≠ 2 ∧ s.flash.fw.state ≠ 3 ∧ p = staged s.host.fwSess) (updating (some ⟨0, [(0, 5)], 3⟩) {}) (0) (5) (0) (1) (true) ([5, 0, 0, 0])) ∧
    ((fun (s : State) (fn cid fs i : Nat) (readOk : Bool) (p : List Nat) => fwHolds s fn = true ∧ slotLetter s fs = some i ∧ i < 2 ∧ s.flash.fw.active < 2 ∧ i ≠ s.flash.fw.active ∧ s.flash.fw.state ≠ 2 ∧ s.flash.fw.state ≠ 3 ∧ p = staged s.host.fwSess) (updating (some ⟨0, [(0, 5)], 3⟩) {}) (0) (5) (0) (1) (true) ([5, 0, 0, 0])) ∧
    ((fun (s : State) (fn cid fs i : Nat) => fwHolds s fn = true ∧ slotLetter s fs = some i ∧ i < 2 ∧ s.flash.fw.state ≠ 2 ∧ s.flash.fw.state ≠ 3 ∧ letterFault s i = none) (updating none { letterB := plainLetter, armed := 0 }) (0) (5) (3) (1)) ∧
    ((fun (s : State) (fn cid fs i : Nat) => fwHolds s fn = true ∧ slotLetter s fs = some i ∧ s.flash.fw.state = 3 ∧ i ≠ s.flash.fw.active) (updating none { state := 3, active := 1 }) (0) (5) (2) (0)) ∧
    ((fun (s : State) (fn cid fs i : Nat) (readOk : Bool) => fwHolds s fn = true ∧ slotLetter s fs = some i ∧ i ≠ s.flash.fw.active ∧ s.flash.fw.state ≠ 2 ∧ s.flash.fw.state ≠ 3 ∧ s.host.fwSess = none ∧ letterFault s i = none) (updating none { letterB := plainLetter, armed := 0 }) (0) (5) (0) (1) (true)) ∧
    ((fun (s : State) (fn cid fs i : Nat) (p : List Nat) => fwHolds s fn = true ∧ slotLetter s fs = some i ∧ i < 2 ∧ s.flash.fw.active < 2 ∧ i ≠ s.flash.fw.active ∧ s.flash.fw.state ≠ 2 ∧ s.flash.fw.state ≠ 3 ∧ s.host.fwSess.isSome = true ∧ p = staged s.host.fwSess) (updating (some ⟨0, [(0, 5)], 3⟩) {}) (0) (5) (0) (1) ([5, 0, 0, 0])) ∧
    ((fun (s : State) (fn cid fs n : Nat) (readOk : Bool) (i : Instr) => fwHolds s fn = true ∧ slotLetter s fs = some n ∧ ((s.flash.fw.state = 2 ∨ s.flash.fw.state = 3 ∧ i ≠ .firmwareCommitArmWritten fn cid fs)) ∧ i ∈ [Instr.firmwareCommitWrite fn cid fs readOk, .firmwareCommitArm fn cid fs readOk, .firmwareCommitArmWritten fn cid fs, .firmwareCommitActivate fn cid fs readOk]) (updating none { state := 3, active := 0 }) (0) (5) (0) (1) (true) (.firmwareCommitActivate 0 5 0 true)) ∧
    ((fun (s : State) (fn cid fs : Nat) (readOk : Bool) (i : Instr) => fwHolds s fn = true ∧ slotLetter s fs = none ∧ i ∈ [Instr.firmwareCommitWrite fn cid fs readOk, .firmwareCommitArm fn cid fs readOk, .firmwareCommitArmWritten fn cid fs, .firmwareCommitActivate fn cid fs readOk]) (updating none { state := 3, active := 0 }) (0) (5) (1) (true) (.firmwareCommitWrite 0 5 1 true)) ∧
    ((fun (s : State) => silent s s.host.fwSess = true) (updating (some ⟨0, [(0, 5)], 3⟩) {})) ∧
    ((fun (s : State) (x : Session) => s.host.fwSess = some x) (updating (some ⟨0, [(0, 5)], 3⟩) {}) (⟨0, [(0, 5)], 3⟩)) := by
  and_intros <;> first | decide +kernel | rfl

theorem witness_firmwareActivationAndFallback :
    ((fun (s : State) (reads : Bool) (l : List Nat) => s.flash.fw.state = 2 ∧ Machine.get s F.FWU_STATUS_STEP = 1 ∧ l = s.flash.fw.switched ++ [1] ∧ mixOk s (letter s s.flash.fw.active) (letter s (1 - s.flash.fw.active)) l = true ∧ mixOk s (letter s s.flash.fw.active) (letter s (1 - s.flash.fw.active)) (s.flash.fw.switched ++ [1, 2]) = true) (activating 1 plainLetter) (true) ([1])) ∧
    ((fun (s : State) (reads : Bool) (l : List Nat) => s.flash.fw.state = 2 ∧ Machine.get s F.FWU_STATUS_STEP = 2 ∧ l = s.flash.fw.switched ++ [2] ∧ ((∀ h ∈ headsOf s, (chanOf s h).newCode = false ∨ seesSeams s h = false)) ∧ mixOk s (letter s s.flash.fw.active) (letter s (1 - s.flash.fw.active)) l = true ∧ mixOk s (letter s s.flash.fw.active) (letter s (1 - s.flash.fw.active)) (s.flash.fw.switched ++ [2, 3]) = true) (activating 2 plainLetter) (true) ([2])) ∧
    ((fun (s : State) (reads : Bool) (h : Nat) => s.flash.fw.state = 2 ∧ Machine.get s F.FWU_STATUS_STEP = 2 ∧ h ∈ headsOf s ∧ (chanOf s h).newCode = true ∧ seesSeams s h = true) (updChan 0 (fun c => { c with newCode := true }) (putAll [(F.HL_STATUS_STATE 0, 5), (F.SV_STATUS_STATE 0, 5), (F.GLB_INST_HEAD, 1)] (activating 2 plainLetter))) (true) (0)) ∧
    ((fun (s : State) (reads : Bool) (l : List Nat) => s.flash.fw.state = 2 ∧ Machine.get s F.FWU_STATUS_STEP = 3 ∧ l = s.flash.fw.switched ++ [3] ∧ mixOk s (letter s s.flash.fw.active) (letter s (1 - s.flash.fw.active)) l = true ∧ mixOk s (letter s s.flash.fw.active) (letter s (1 - s.flash.fw.active)) (s.flash.fw.switched ++ [3, 4]) = true) (activating 3 plainLetter) (true) ([3])) ∧
    ((fun (s : State) (fn cid : Nat) (reads : Bool) => s.flash.fw.state = 2 ∧ Machine.get s F.FWU_STATUS_STEP = 4 ∧ s.flash.fw.active < 2 ∧ s.host.cmds = [] ∧ s.host.fetching = [] ∧ mixOk s (letter s s.flash.fw.active) (letter s (1 - s.flash.fw.active)) (s.flash.fw.switched ++ [4]) = true ∧ s.host.fwCmd = some (fn, cid)) (activating 4 plainLetter) (0) (5) (true)) ∧
    ((fun (s : State) (reads : Bool) => s.flash.fw.state = 2 ∧ Machine.get s F.FWU_STATUS_STEP = 4 ∧ ((s.host.cmds ≠ [] ∨ s.host.fetching ≠ []))) ((let s := activating 4 plainLetter; { s with host := { s.host with fetching := [(3, 0, 7)] } })) (true)) ∧
    ((fun (s : State) (reads : Bool) (k fn cid : Nat) => s.flash.fw.state = 2 ∧ Machine.get s F.FWU_STATUS_STEP = k ∧ 1 ≤ k ∧ k ≤ 4 ∧ ((k = 2 → ∀ h ∈ headsOf s, (chanOf s h).newCode = false ∨ seesSeams s h = false)) ∧ ((k = 4 → s.host.cmds = [] ∧ s.host.fetching = [])) ∧ ((mixOk s (letter s s.flash.fw.active) (letter s (1 - s.flash.fw.active)) (s.flash.fw.switched ++ [k]) = false ∨ k < 4 ∧ mixOk s (letter s s.flash.fw.active) (letter s (1 - s.flash.fw.active)) (s.flash.fw.switched ++ [k, k + 1]) = false)) ∧ s.host.fwCmd = some (fn, cid)) (activating 4 {}) (true) (4) (0) (5)) ∧
    ((fun (s : State) (v : Nat) => s.flash.fw.state = 3 ∧ s.mgt.probDue = true ∧ v = (letter s s.flash.fw.active).secVer) ({ updating none { state := 3 } with mgt := { probDue := true } }) (0)) ∧
    ((fun (s : State) => ((s.flash.fw.state ≠ 3 ∨ s.mgt.probDue = false))) (updating none {})) ∧
    ((fun (s : State) (back : Nat) => s.flash.fw.fellBack = true ∧ s.pwr.started = false ∧ back = (if s.flash.fw.state = 3 then 1 - s.flash.fw.active else s.flash.fw.active) ∧ back < 2) ({ updating none { state := 3, active := 1, fellBack := true } with pwr := { started := false } }) (0)) ∧
    ((fun (s : State) (fmt use dst gen : Nat) (keys : List Nat) (readOk : Bool) => s.pwr.started = true ∧ isSet s F.DMP_STATUS_FATAL = false ∧ s.pwr.powerLoss = false ∧ use = (if s.flash.fw.state = 3 then s.flash.fw.setOld else s.flash.fw.setUse) ∧ use < 2 ∧ dst = 1 - use ∧ gen = ((settingsCopy s s.flash.fw.setUse).map Settings.gen).getD 0 + 1) ({ updating none { set0 := some ⟨4, 1, 2, [], [], true⟩ } with pwr := { started := true } }) (1) (0) (1) (5) ([5]) (true)) := by
  and_intros <;> first | decide +kernel | rfl

theorem witness_fatalStateAndRelease :
    ((fun (s : State) (cause detail : Nat) => fatalOpen s = true ∧ fatalHolds s cause detail = true) (failing {} []) (7) (7000)) ∧
    ((fun (s : State) (cause detail : Nat) => ((isSet s F.DMP_STATUS_FATAL = true ∨ fatalHolds s cause detail = false))) (rig [(F.DMP_STATUS_FATAL, 1)]) (2) (5)) ∧
    ((fun (s : State) (req v : Nat) => fatalOpen s = true) (failing {} []) (3) (70000)) ∧
    ((fun (s : State) => fatalOpen s = true) (failing {} [])) ∧
    ((fun (s : State) (d : Dump) => s.mgt.sram = some d ∧ s.mgt.dumping = true ∧ s.pwr.powerLoss = false ∧ s.thm.stop ≠ 1 ∧ s.pwr.resetDue = 0) (failing { sram := some dumped, dumping := true } [(F.DMP_STATUS_FATAL, 1), (F.DMP_STATUS_DATA_DUMPED, 1)]) (dumped)) ∧
    ((fun (s : State) (d : Dump) => s.mgt.sram = some d ∧ s.mgt.dumping = true ∧ s.pwr.powerLoss = false ∧ s.thm.stop ≠ 1 ∧ s.pwr.resetDue = 3 ∧ s.plp.dumping = false) ({ failing { sram := some dumped, dumping := true } [(F.DMP_STATUS_FATAL, 1)] with pwr := { resetDue := 3 }, plp := {} }) (dumped)) ∧
    ((fun (s : State) => isSet s F.DMP_STATUS_FATAL = true ∧ dumpsOver s = true) ({ failing { flash := some dumped } [(F.DMP_STATUS_FATAL, 1), (F.DMP_RESTARTS_TOTAL, 65535)] with plp := {} })) ∧
    ((fun (s : State) => isSet s F.DMP_STATUS_FATAL = true ∧ dumpsOver s = false) ({ failing {} [(F.DMP_STATUS_FATAL, 1)] with plp := { dumping := true } })) ∧
    ((fun (s : State) => isSet s F.DMP_STATUS_FATAL = false) (failing {} [])) ∧
    ((fun (s : State) => isSet s F.DMP_STATUS_FATAL = true ∧ dumpsOver s = true ∧ Machine.get s F.DMP_HOLD ≠ 0 ∧ isSet s F.DMP_STATUS_AUTO_BLOCKED = false ∧ ((isSet s F.CLK_STATUS_LINK_OK = false ∨ elapsed s s.mgt.entered (156250000 * Machine.get s F.DMP_HOLD) = true))) ({ failing { restarts := [190, 180] } [(F.DMP_STATUS_FATAL, 1), (F.DMP_HOLD, 1), (F.PWR_WAKE_TIME, 200), (F.CLK_TIME, 156250000)] with plp := {} })) ∧
    ((fun (s : State) => ((Machine.get s F.DMP_HOLD = 0 ∨ isSet s F.DMP_STATUS_AUTO_BLOCKED = true ∨ isSet s F.CLK_STATUS_LINK_OK = true ∧ elapsed s s.mgt.entered (156250000 * Machine.get s F.DMP_HOLD) = false))) (failing {} [(F.DMP_HOLD, 0)])) := by
  and_intros <;> first | decide +kernel | rfl

theorem witness_pairsSoftwareEventsAndFunctionResets :
    ((fun (s : State) (p flag : Nat) (i : Instr) => p < 4 ∧ isSet s (F.MGT_STATUS_IN_SERVICE p) = true ∧ (i, flag) ∈ [(Instr.lockstepMismatch p, B.MGT_EVT_MISMATCH), (.stackUe p, B.MGT_EVT_STACK_UE)]) (pairing 3 []) (0) (B.MGT_EVT_MISMATCH) (.lockstepMismatch 0)) ∧
    ((fun (s : State) (p : Nat) => p < 4 ∧ isSet s (F.MGT_STATUS_FENCED p) = true) ({ pairing 2 [(F.MGT_STATUS_FENCED 3, 1)] with exposed := [(Dom.mgt, 3), (0, 3)] }) (3)) ∧
    ((fun (s : State) (p : Nat) => wdogOut s p = true) (pairing 4 [(F.MGT_WDOG_TIMEOUT 3, 1), (F.CLK_TIME, 156250)]) (3)) ∧
    ((fun (s : State) (p : Nat) => p < 4) (pairing 4 []) (3)) ∧
    ((fun (s : State) (fn : Nat) => fn < 512 ∧ isSet s (F.HST_FN_STATUS_CCEN fn) = true ∧ ((fn = 0 → isSet s F.DMP_STATUS_FATAL = false))) (hosted { queues := [subq 1 [1], { subq 2 [] with fn := 4 }], features := [(800, 4), (1025, 5)], fwSess := some ⟨3, [], 4⟩, aers := [(3, 4)] } []) (3)) ∧
    ((fun (s : State) (port : Nat) => port < 2 ∧ s.pwr.dormant = false ∧ s.pwr.hold = 0 ∧ s.pwr.powerLoss = false ∧ ((port = 0 → isSet s F.DMP_STATUS_FATAL = false))) ({ hosted { queues := [subq 1 [1]] } [(F.HST_LINK_UP 0, 1)] with pwr := { hold := 0 } }) (0)) ∧
    ((fun (s : State) (port : Nat) => port < 2 ∧ s.pwr.dormant = true) ({ rig [] with pwr := { dormant := true } }) (1)) ∧
    ((fun (s : State) (port : Nat) => port < 2 ∧ s.pwr.dormant = false ∧ s.pwr.hold = 2 ∧ 3 ≤ recentShutdowns s) ({ turning 3 {} [(F.PWR_RETAIN 15, 9), (F.PWR_WAKE_TIME, 55)] with pwr := { hold := 2 }, thm := { shutAt := [50, 49, 48] } }) (1)) := by
  and_intros <;> first | decide +kernel | rfl

theorem witness_clocksAndPowerStates :
    ((fun (s : State) => coreRuns s = true) (powered [(F.CLK_STATUS_XTAL_OK, 1)])) ∧
    ((fun (s : State) (port : Nat) => port < 2 ∧ coreRuns s = true) ({ powered [(F.HST_LINK_UP 0, 1), (F.HST_FN_STATUS_CCEN 3, 1)] with host := {} }) (0)) ∧
    ((fun (s : State) (i : Instr) (ev detail : Nat) => coreRuns s = true ∧ (i, ev, detail) ∈ [(Instr.referenceLoss 2, 2, 1), (.pllUnlock 0, 4, 2)]) (powered [(F.CLK_STATUS_LINK_OK, 1), (F.GLB_INST_HEAD, 3), (F.HL_STATUS_STATE 1, 5)]) (.referenceLoss 2) (2) (1)) ∧
    ((fun (s : State) (pll : Nat) => ((pll = 6 ∨ pll = 7)) ∧ coreRuns s = true) (powered [(F.CLK_STATUS_LOCKED, 0xff)]) (7)) ∧
    ((fun (s : State) => coreRuns s = true) (powered [])) ∧
    ((fun (s : State) => coreRuns s = true) (powered [(F.CLK_STATUS_LOCKED, 0xff), (F.GLB_INST_MISC_DDR_CH, 0xffff)])) ∧
    ((fun (s : State) (d : Nat) => d < 4 ∧ coreRuns s = true) (powered [(F.CLK_STATUS_LOCKED, 0xff), (F.GLB_INST_HEAD, 3), (F.HL_STATUS_STATE 1, 5), (F.GLB_INST_BAY, 1), (F.BL_STATUS_STATE 0, 3)]) (0)) ∧
    ((fun (s : State) (req : Nat) => coreRuns s = true ∧ ((req % 8 = 0 ∨ 4 < req % 8 ∨ pwrRuns s = false))) (powered []) (13)) ∧
    ((fun (s : State) (req : Nat) => pwrRuns s = true ∧ 0 < req ∧ req < 5 ∧ s.pwr.phase ≠ 0) ({ powered [] with pwr := { started := true, hold := 0, phase := 2 } }) (4)) ∧
    ((fun (s : State) (req : Nat) => pwrRuns s = true ∧ 0 < req ∧ req < 5 ∧ s.pwr.phase = 0 ∧ ((req = 4 → Machine.get s F.PWR_STATUS_STATE ≠ 2))) (powered [(F.GLB_INST_HEAD, 3), (F.SV_STATUS_STATE 0, 5)]) (2)) ∧
    ((fun (s : State) => pwrRuns s = true ∧ s.pwr.phase = 0 ∧ Machine.get s F.PWR_STATUS_STATE = 2) (powered [(F.PWR_STATUS_STATE, 2)])) ∧
    ((fun (s : State) => pwrRuns s = true ∧ extentRuns s = false ∧ ((s.pwr.phase = 1 ∧ s.pwr.held = false ∨ s.pwr.phase = 0 ∧ Machine.get s F.PWR_STATUS_STATE = 0 ∧ isSet s F.PWR_CTRL_AUTO_IDLE = true ∧ Machine.get s F.PWR_IDLE_POISE ≠ 0 ∧ discWork s = false ∧ elapsed s s.pwr.workAt (156250000 * Machine.get s F.PWR_IDLE_POISE) = true))) (powered [(F.PWR_CTRL_AUTO_IDLE, 1), (F.PWR_IDLE_POISE, 1), (F.CLK_TIME, 156250000)])) ∧
    ((fun (s : State) => pwrRuns s = true ∧ s.pwr.phase = 0 ∧ Machine.get s F.PWR_STATUS_STATE < 2 ∧ ((allD3 s = true ∨ isSet s F.PWR_CTRL_AUTO_IDLE = true ∧ Machine.get s F.PWR_IDLE_PARK ≠ 0 ∧ s.host.cmds = [] ∧ elapsed s s.pwr.cmdAt (156250000 * Machine.get s F.PWR_IDLE_PARK) = true))) (powered [(F.PWR_CTRL_AUTO_IDLE, 1), (F.PWR_IDLE_PARK, 1), (F.CLK_TIME, 156250000)])) ∧
    ((fun (s : State) => pwrRuns s = true ∧ s.pwr.phase = 0 ∧ Machine.get s F.PWR_STATUS_STATE = 1 ∧ discWork s = true) (powered [(F.PWR_STATUS_STATE, 1), (F.GLB_INST_HEAD, 3), (F.WRP_STATUS_STATE 0, 1)])) ∧
    ((fun (s : State) => pwrRuns s = true ∧ s.pwr.phase = 2 ∧ Machine.get s F.PLP_D_DIRTY = 0 ∧ ((∀ p ∈ s.lib.sets, p.2.session = false)) ∧ s.lib.changed = [] ∧ ((s.lib.closing = [] ∨ ∀ p ∈ s.lib.sets, p.2.st ≠ 1))) ({ powered [(F.GLB_INST_BAY, 1), (F.GLB_INST_HEAD, 3), (F.SV_STATUS_STATE 0, 5), (F.MOT_STATUS_STATE 0, 3)] with pwr := { started := true, hold := 0, phase := 2 } })) ∧
    ((fun (s : State) => pwrRuns s = true ∧ s.pwr.phase = 2 ∧ Machine.get s F.PLP_D_DIRTY = 0 ∧ ((∀ p ∈ s.lib.sets, p.2.session = false)) ∧ s.lib.changed ≠ []) ((let s := powered []; { s with pwr := { started := true, hold := 0, phase := 2 }, lib := { s.lib with changed := [3], closing := [(3, []), (5, [])] } }))) ∧
    ((fun (s : State) => pwrRuns s = true ∧ s.pwr.phase = 2 ∧ ((Machine.get s F.PLP_D_DIRTY ≠ 0 ∨ (∃ p ∈ s.lib.sets, p.2.session = true) ∨ s.lib.changed = [] ∧ s.lib.closing ≠ [] ∧ ∃ p ∈ s.lib.sets, p.2.st = 1))) ({ powered [(F.PLP_D_DIRTY, 4)] with pwr := { started := true, hold := 0, phase := 2 } })) ∧
    ((fun (s : State) => pwrRuns s = true ∧ s.pwr.phase = 3 ∧ ((∀ b ∈ baysOf s, bayAtRest s b = true))) ({ powered [(F.GLB_INST_BAY, 1), (F.GLB_INST_HEAD, 3), (F.HL_STATUS_STATE 0, 5), (F.PLP_STATUS_VAULT_OK, 1), (F.GLB_INST_MISC_CAROUSELS, 1), (F.CMOT_STATUS_STATE 0, 2)] with pwr := { started := true, hold := 0, phase := 3 } })) ∧
    ((fun (s : State) => pwrRuns s = true ∧ s.pwr.phase = 0 ∧ Machine.get s F.PWR_STATUS_STATE = 2 ∧ perstHeld s = true) ({ powered [(F.PWR_STATUS_STATE, 2), (F.CLK_TIME, 15625009)] with pwr := { started := true, hold := 0, perst := [(0, 9)] } })) ∧
    ((fun (s : State) => s.pwr.dormant = true) ({ rig [] with pwr := { dormant := true } })) ∧
    ((fun (s : State) => s.pwr.dormant = true) ({ rig [(F.PWR_WAKE_CMP, 77)] with pwr := { dormant := true } })) ∧
    ((fun (s : State) => s.pwr.dormant = false) ({ rig [(F.PWR_WAKE_CMP, 77)] with pwr := { dormant := false } })) ∧
    ((fun (s : State) (fn : Nat) => fn < 512 ∧ coreRuns s = true) ({ powered [] with pwr := { started := true, hold := 0, d3 := [4, 511] } }) (511)) ∧
    ((fun (s : State) (fn : Nat) (d3 : List Nat) => fn < 512 ∧ coreRuns s = true ∧ d3 = (if fn ∈ s.pwr.d3 then s.pwr.d3 else s.pwr.d3 ++ [fn])) (powered [(F.HST_STATUS_PF1, 0)]) (0) ([0])) := by
  and_intros <;> first | decide +kernel | rfl

theorem witness_resetsRailsAndStartUp :
    ((fun (s : State) => coreRuns s = true ∧ s.pwr.powerLoss = false ∧ s.thm.stop = 0 ∧ isSet s F.DMP_STATUS_FATAL = false) (powered [(F.PWR_RETAIN 9, 7)])) ∧
    ((fun (s : State) => ((coreRuns s = false ∨ s.pwr.powerLoss = true ∨ s.thm.stop ≠ 0 ∨ isSet s F.DMP_STATUS_FATAL = true))) (rig [])) ∧
    ((fun (s : State) => s.pwr.dormant = false ∧ s.thm.stop = 0 ∧ ((s.pwr.hold = 0 ∨ s.pwr.hold = 3)) ∧ s.pwr.powerLoss = false ∧ isSet s F.DMP_STATUS_FATAL = false) (powered [(F.PWR_RETAIN 9, 7)])) ∧
    ((fun (s : State) => s.pwr.dormant = false ∧ s.thm.stop = 0 ∧ s.pwr.hold = 1) ({ powered [] with pwr := { hold := 1, powerLoss := true } })) ∧
    ((fun (s : State) => s.pwr.dormant = false ∧ s.thm.stop = 0 ∧ s.pwr.hold = 0 ∧ ((s.pwr.powerLoss = true ∨ isSet s F.DMP_STATUS_FATAL = true ∧ dumpsOver s = false))) ({ powered [] with pwr := { hold := 0, powerLoss := true } })) ∧
    ((fun (s : State) => s.pwr.dormant = false ∧ s.thm.stop = 0 ∧ s.pwr.hold = 0 ∧ s.pwr.powerLoss = false ∧ isSet s F.DMP_STATUS_FATAL = true ∧ dumpsOver s = true) (powered [(F.DMP_STATUS_FATAL, 1)])) ∧
    ((fun (s : State) => ((s.pwr.dormant = true ∨ s.thm.stop ≠ 0 ∨ s.pwr.hold = 2))) ({ powered [] with pwr := { hold := 2 } })) ∧
    ((fun (s : State) (rail : Nat) => rail < 6 ∧ s.pwr.dormant = false) ({ powered [] with pwr := { hold := 0, railBad := [1, 5, 2] } }) (5)) ∧
    ((fun (s : State) (rail : Nat) => rail < 6 ∧ s.pwr.dormant = false) (powered []) (0)) ∧
    ((fun (s : State) => s.pwr.dormant = false ∧ s.pwr.hold = 0 ∧ s.pwr.powerLoss = false) ({ powered [(F.GLB_INST_BAY, 1), (F.MOT_STATUS_STATE 0, 3), (F.HST_INFLIGHT, 0), (F.HST_INFLIGHT_C0, 0)] with plp := { testV0 := some 4 } })) ∧
    ((fun (s : State) => ((s.pwr.dormant = true ∨ s.pwr.hold ≠ 0 ∨ s.pwr.powerLoss = true))) ({ rig [] with pwr := { hold := 1 } })) ∧
    ((fun (s : State) (port speed width : Nat) => port < 2 ∧ s.pwr.dormant = true) ({ rig [] with pwr := { dormant := true, perst := [(1, 4)] } }) (1) (5) (16)) ∧
    ((fun (s : State) (port speed width : Nat) => port < 2 ∧ coreRuns s = true ∧ s.pwr.started = true ∧ s.pwr.powerLoss = false) ({ powered [(F.HST_STATUS_PF1, 0)] with exposed := [(Dom.hostLink, 0), (0, 3)] }) (0) (5) (16)) ∧
    ((fun (s : State) (port speed width : Nat) => port < 2 ∧ s.pwr.dormant = false ∧ ((s.pwr.hold ≠ 0 ∨ s.pwr.started = false ∨ s.pwr.powerLoss = true))) ({ powered [] with pwr := { hold := 3, perst := [(1, 4)] } }) (1) (5) (16)) ∧
    ((fun (s : State) (x : StartConditions) => startReady s = true ∧ factoryOk s = true ∧ badChannels x.caps = [] ∧ refusedChannels x = []) (putAll [(F.HST_FN_STATUS_CCEN 7, 1)] State.reset) (⟨List.replicate 16 64, [], 1, 16, 6400, none, ⟨70000, [], (0x7000, 1)⟩, true, []⟩)) ∧
    ((fun (s : State) (x : StartConditions) => startReady s = true ∧ factoryOk s = true ∧ s.flash.tabA = [] ∧ s.flash.tabB = []) (putAll [(F.HST_FN_STATUS_CCEN 7, 1)] State.reset) (starting)) ∧
    ((fun (s : State) (x : StartConditions) => startReady s = true ∧ factoryOk s = false ∧ s.thm.stop = 0) ({ State.reset with fuse := { words := [(0, 5)] } }) (starting)) ∧
    ((fun (s : State) (x : StartConditions) => startReady s = true ∧ factoryOk s = true ∧ ((badChannels x.caps ≠ [] ∨ refusedChannels x ≠ []))) (State.reset) (starting)) ∧
    ((fun (s : State) (x : StartConditions) => startReady s = false) (powered []) (starting)) := by
  and_intros <;> first | decide +kernel | rfl

theorem witness_identifyPagesAndManagement :
    ((fun (s : State) (fn cid cns nsid cntid : Nat) => ((adminOpen s fn = true ∨ fn = 0 ∧ isSet s (F.HST_FN_STATUS_CCEN 0) = true ∧ s.pwr.powerLoss = false)) ∧ cns ∈ [0, 1, 2, 3, 5, 6, 0x10, 0x11, 0x12, 0x13, 0x14, 0x15]) (opened {}) (3) (9) (2) (0) (0)) ∧
    ((fun (s : State) (fn cid cns nsid cntid : Nat) => adminOpen s fn = true ∧ cns ∉ [0, 1, 2, 3, 5, 6, 0x10, 0x11, 0x12, 0x13, 0x14, 0x15]) (opened {}) (3) (9) (0x16) (0) (0)) ∧
    ((fun (s : State) (fn cid lid lpo dwords : Nat) (rae : Bool) (old page : List Nat) => adminOpen s fn = true ∧ logPage s fn lid = some old ∧ logPage (freshPage fn lid s) fn lid = some page) (opened { sent := [(3, 0x200)] }) (3) (9) (1) (0) (4) (false) (errorPage (opened { sent := [(3, 0x200)] }) 3) (errorPage (opened { sent := [(3, 0x200)] }) 3)) ∧
    ((fun (s : State) (fn cid lid lpo dwords : Nat) (rae : Bool) => adminOpen s fn = true ∧ logPage s fn lid = none) (opened {}) (3) (9) (0xc0) (0) (4) (true)) ∧
    ((fun (s : State) (cid lpo dwords : Nat) (rae : Bool) => isSet s (F.HST_FN_STATUS_CCEN 0) = true ∧ s.pwr.powerLoss = false) (putAll [(F.HST_FN_STATUS_CCEN 0, 1), (F.DMP_STATUS_FATAL, 1), (F.DMP_STATUS_IN_FLASH, 1)] { opened {} with mgt := { flash := some dumped } }) (9) (0) (8) (true)) ∧
    ((fun (s : State) (cid lpo dwords : Nat) => isSet s (F.HST_FN_STATUS_CCEN 0) = true ∧ s.pwr.powerLoss = false) (putAll [(F.HST_FN_STATUS_CCEN 0, 1), (F.DMP_STATUS_FATAL, 1), (F.DMP_STATUS_IN_FLASH, 1)] { opened {} with mgt := { flash := some dumped } }) (9) (0) (8)) ∧
    ((fun (s : State) (fn cid : Nat) => adminOpen s fn = true ∧ fn < 512) (opened {}) (3) (9)) ∧
    ((fun (s : State) (fn cid len : Nat) => adminOpen s fn = true ∧ fn < 512) (opened {}) (3) (9) (16)) ∧
    ((fun (s : State) (fn cid nsid slba range action most hi : Nat) (n : Namespace) => adminOpen s fn = true ∧ fn < 512 ∧ findSpace s nsid = some n ∧ fn ∈ n.attach ∧ ((action = 0x10 ∨ action = 0x11)) ∧ slba < 256 * n.grains ∧ hi = (if range = 0 then 256 * n.grains else min (256 * n.grains) (slba + range))) ({ opened {} with lib := { spaces := [⟨5, 2, 100, true, false, [3]⟩], unavail := [(513, 1), (514, 1), (600, 1)] } }) (3) (9) (5) (2) (0) (0x10) (9) (25600) (⟨5, 2, 100, true, false, [3]⟩)) ∧
    ((fun (s : State) (fn cid nsid slba range action most : Nat) (n : Namespace) => adminOpen s fn = true ∧ fn < 512 ∧ findSpace s nsid = some n ∧ ((fn ∉ n.attach ∨ action ≠ 0x10 ∧ action ≠ 0x11 ∨ 256 * n.grains ≤ slba))) ({ opened {} with lib := { spaces := [⟨5, 2, 100, true, false, [3]⟩] } }) (3) (9) (5) (25600) (0) (0x10) (9) (⟨5, 2, 100, true, false, [3]⟩)) ∧
    ((fun (s : State) (id kind : Nat) => s.host.sideband = none ∧ ((kind < 3 ∨ s.pwr.dormant = false ∧ s.pwr.started = true ∧ s.pwr.hold = 0 ∧ isSet s F.DMP_STATUS_FATAL = false ∧ s.pwr.phase < 2 ∧ Machine.get s F.PWR_STATUS_STATE ≠ 2))) (opened {}) (9) (0)) ∧
    ((fun (s : State) (id kind : Nat) => s.host.sideband = none ∧ 3 ≤ kind ∧ s.pwr.dormant = true) ({ opened {} with pwr := { dormant := true } }) (9) (3)) ∧
    ((fun (s : State) (id kind : Nat) => s.host.sideband = none ∧ 3 ≤ kind ∧ s.pwr.dormant = false ∧ ((s.pwr.started = false ∨ s.pwr.hold ≠ 0))) ({ opened {} with pwr := { hold := 3 } }) (9) (3)) ∧
    ((fun (s : State) (id : Nat) => s.host.sideband = none ∧ s.pwr.dormant = false ∧ s.pwr.started = true ∧ s.pwr.hold = 0 ∧ isSet s F.DMP_STATUS_FATAL = true) (putAll [(F.DMP_STATUS_FATAL, 1)] (opened {})) (9)) ∧
    ((fun (s : State) (id kind : Nat) => s.host.sideband = none ∧ s.pwr.dormant = false ∧ s.pwr.started = true ∧ s.pwr.hold = 0 ∧ isSet s F.DMP_STATUS_FATAL = true ∧ 4 ≤ kind) (putAll [(F.DMP_STATUS_FATAL, 1)] (opened {})) (9) (4)) ∧
    ((fun (s : State) (id kind x : Nat) => s.host.sideband = some x) (opened { sideband := some 4 }) (9) (3) (4)) := by
  and_intros <;> first | decide +kernel | rfl

theorem witness_featuresAndEvents :
    ((fun (s : State) (fn cid fid v : Nat) => adminOpen s fn = true ∧ fn < 512 ∧ fid ∈ [1, 4, 8, 9, 0x0b, 0xc4]) (opened { features := [(779, 6)] }) (3) (9) (0x0b) (77)) ∧
    ((fun (s : State) (fn cid v : Nat) => adminOpen s fn = true ∧ fn < 512) (opened {}) (3) (9) (33)) ∧
    ((fun (s : State) (fn cid v n : Nat) => adminOpen s fn = true ∧ fn < 512 ∧ v % 65536 ≠ 65535 ∧ v / 65536 % 65536 ≠ 65535 ∧ Machine.get s (F.HST_FN_STATUS_IOQ fn) = 0 ∧ n = min (v % 65536) (pairsLess1 s fn) + 65536 * min (v / 65536 % 65536) (pairsLess1 s fn)) (opened {}) (3) (9) (65534) (6)) ∧
    ((fun (s : State) (fn cid v : Nat) => adminOpen s fn = true ∧ fn < 512 ∧ ((v % 65536 = 65535 ∨ v / 65536 % 65536 = 65535 ∨ Machine.get s (F.HST_FN_STATUS_IOQ fn) ≠ 0))) (opened {}) (3) (9) (65535)) ∧
    ((fun (s : State) (fn cid fid v : Nat) (save : Bool) => adminOpen s fn = true ∧ fn < 512 ∧ fid ∉ [1, 2, 4, 7, 8, 9, 0x0b, 0x10, 0xc1, 0xc2, 0xc3, 0xc4]) (opened {}) (3) (9) (3) (65534) (true)) ∧
    ((fun (s : State) (fn cid fid v : Nat) => adminOpen s fn = true ∧ fn < 512 ∧ fid ∈ [1, 2, 4, 7, 8, 9, 0x0b, 0x10, 0xc1, 0xc2, 0xc3, 0xc4]) (opened {}) (3) (9) (0xc4) (65534)) ∧
    ((fun (s : State) (fn cid : Nat) (on : Bool) => adminOpen s fn = true ∧ fn < 512) (opened {}) (3) (9) (true)) ∧
    ((fun (s : State) (cid p e : Nat) => adminOpen s 0 = true ∧ p % 65536 ≠ 0) (opened {}) (9) (65537) (5)) ∧
    ((fun (s : State) (fn cid p e : Nat) => adminOpen s fn = true ∧ fn < 512 ∧ ((fn ≠ 0 ∨ p % 65536 = 0))) (opened {}) (3) (9) (65537) (5)) ∧
    ((fun (s : State) (cid ms : Nat) => adminOpen s 0 = true ∧ 500 ≤ ms ∧ ms ≤ 30000) (opened {}) (9) (500)) ∧
    ((fun (s : State) (fn cid ms : Nat) => adminOpen s fn = true ∧ fn < 512 ∧ ((fn ≠ 0 ∨ ms < 500 ∨ 30000 < ms))) (opened {}) (0) (9) (499)) ∧
    ((fun (s : State) (fn cid gib : Nat) => adminOpen s fn = true ∧ fn < 512) (opened {}) (3) (9) (500)) ∧
    ((fun (s : State) (fn cid t1 t2 v : Nat) => adminOpen s fn = true ∧ fn < 512 ∧ v = 65536 * (t1 % 65536) + t2 % 65536 ∧ tmtOk v = true) (opened {}) (3) (9) (300) (388) (65536 * 300 + 388)) ∧
    ((fun (s : State) (fn cid t1 t2 : Nat) => adminOpen s fn = true ∧ fn < 512 ∧ tmtOk (65536 * (t1 % 65536) + t2 % 65536) = false) (opened {}) (3) (9) (388) (388)) ∧
    ((fun (s : State) (fn cid fid sel : Nat) => adminOpen s fn = true ∧ fid ∈ [1, 2, 4, 7, 8, 9, 0x0b, 0x10, 0xc1, 0xc2, 0xc3, 0xc4] ∧ ((slotFn fn = 0 ∨ fid ≠ 0xc2 ∧ fid ≠ 0xc3))) (opened { features := [(779, 6)] }) (3) (9) (0x0b) (0)) ∧
    ((fun (s : State) (fn cid fid sel : Nat) => adminOpen s fn = true ∧ ((fid ∉ [1, 2, 4, 7, 8, 9, 0x0b, 0x10, 0xc1, 0xc2, 0xc3, 0xc4] ∨ slotFn fn ≠ 0 ∧ (fid = 0xc2 ∨ fid = 0xc3)))) (opened {}) (3) (9) (0xc3) (0)) ∧
    ((fun (s : State) (fn cid : Nat) => adminOpen s fn = true ∧ fn < 512 ∧ ((∀ x ∈ s.host.held, x.1 ≠ fn)) ∧ (s.host.aers.filter fun a => decide (a.1 = fn)).length < 16) (opened { aers := [(3, 4), (4, 5)], held := [(4, 0x200)] }) (3) (9)) ∧
    ((fun (s : State) (fn cid : Nat) => adminOpen s fn = true ∧ fn < 512 ∧ ((∀ x ∈ s.host.held, x.1 ≠ fn)) ∧ 16 ≤ (s.host.aers.filter fun a => decide (a.1 = fn)).length) (opened { aers := List.replicate 16 (3, 4) }) (3) (9)) ∧
    ((fun (s : State) (fn cid code : Nat) => adminOpen s fn = true ∧ fn < 512 ∧ s.host.held.find? (fun x => decide (x.1 = fn)) = some (fn, code)) (opened { held := [(3, 0x200)], features := [(779, 0xffffffff)] }) (3) (9) (0x200)) := by
  and_intros <;> first | decide +kernel | rfl

theorem witness_namespacesAndDirectives :
    ((fun (s : State) (fn cid nsze nsid : Nat) => adminOpen s fn = true ∧ fn < 2 ∧ nsze ≠ 0 ∧ ((liveSpaces s).map (·.grains)).sum + (nsze + 255) / 256 ≤ 2 ^ 32 ∧ (liveSpaces s).length < 1024) ({ opened {} with lib := { spaces := [⟨5, 2, 100, true, false, [3]⟩, ⟨1, 200, 7, true, true, []⟩] } }) (0) (9) (257) (0)) ∧
    ((fun (s : State) (fn cid nsze nsid : Nat) => adminOpen s fn = true ∧ fn < 2 ∧ ((nsze = 0 ∨ 2 ^ 32 < ((liveSpaces s).map (·.grains)).sum + (nsze + 255) / 256 ∨ 1024 ≤ (liveSpaces s).length))) ({ opened {} with lib := { spaces := [⟨5, 2, 100, true, false, [3]⟩, ⟨1, 200, 7, true, true, []⟩] } }) (0) (9) (0) (0)) ∧
    ((fun (s : State) (fn cid nsze nsid : Nat) (n : Namespace) => adminOpen s fn = true ∧ fn < 2 ∧ nsid ≠ 2 ^ 32 - 1 ∧ findSpace s nsid = some n) ({ opened {} with lib := { spaces := [⟨5, 2, 100, true, false, []⟩, ⟨1, 200, 7, true, true, []⟩] } }) (0) (9) (257) (5) (⟨5, 2, 100, true, false, []⟩)) ∧
    ((fun (s : State) (fn cid nsze nsid g : Nat) (n : Namespace) => adminOpen s fn = true ∧ fn < 2 ∧ nsid ≠ 2 ^ 32 - 1 ∧ findSpace s nsid = some n ∧ n.base ≤ g ∧ g < n.base + n.grains) ({ opened {} with lib := { spaces := [⟨5, 2, 100, true, false, [3]⟩, ⟨1, 200, 7, true, true, []⟩] } }) (0) (9) (257) (5) (101) (⟨5, 2, 100, true, false, [3]⟩)) ∧
    ((fun (s : State) (fn cid nsze : Nat) => adminOpen s fn = true ∧ fn < 2) ({ opened {} with lib := { spaces := [⟨5, 2, 100, true, false, [3]⟩, ⟨1, 200, 7, true, true, []⟩] } }) (0) (9) (257)) ∧
    ((fun (s : State) (fn cid nsze nsid : Nat) => adminOpen s fn = true ∧ fn < 2 ∧ nsid ≠ 2 ^ 32 - 1 ∧ findSpace s nsid = none) ({ opened {} with lib := { spaces := [⟨5, 2, 100, true, false, [3]⟩, ⟨1, 200, 7, true, true, []⟩] } }) (0) (9) (257) (1)) ∧
    ((fun (s : State) (fn cid nsze nsid : Nat) (create : Bool) => adminOpen s fn = true ∧ 2 ≤ fn ∧ fn < 512) (opened {}) (3) (9) (257) (0) (true)) ∧
    ((fun (s : State) (fn cid nsid : Nat) (ctrls : List Nat) (n : Namespace) => adminOpen s fn = true ∧ fn < 2 ∧ findSpace s nsid = some n ∧ ctrls ≠ [] ∧ ((∀ c ∈ ctrls, 1 ≤ c ∧ c ≤ 512 ∧ 2 ≤ Machine.get s (F.HST_FN_CFG_CTX (c - 1)) ∧ c - 1 ∉ n.attach))) (putAll [(F.HST_FN_CFG_CTX 2, 16)] ({ opened {} with lib := { spaces := [⟨5, 2, 100, true, false, []⟩, ⟨1, 200, 7, true, true, []⟩] } })) (0) (9) (5) ([4, 3, 4]) (⟨5, 2, 100, true, false, []⟩)) ∧
    ((fun (s : State) (fn cid nsid : Nat) (ctrls : List Nat) (n : Namespace) => adminOpen s fn = true ∧ fn < 2 ∧ findSpace s nsid = some n ∧ ctrls ≠ [] ∧ ((∀ c ∈ ctrls, 1 ≤ c ∧ c ≤ 512 ∧ 2 ≤ Machine.get s (F.HST_FN_CFG_CTX (c - 1)) ∧ c - 1 ∈ n.attach))) ({ opened {} with lib := { spaces := [⟨5, 2, 100, true, false, [3]⟩, ⟨1, 200, 7, true, true, []⟩] } }) (0) (9) (5) ([4]) (⟨5, 2, 100, true, false, [3]⟩)) ∧
    ((fun (s : State) (fn cid nsid : Nat) (attach : Bool) (ctrls : List Nat) => adminOpen s fn = true ∧ fn < 2 ∧ findSpace s nsid = none) (opened {}) (0) (9) (5) (true) ([4])) ∧
    ((fun (s : State) (fn cid nsid sid : Nat) (n : Namespace) => adminOpen s fn = true ∧ fn < 512 ∧ findSpace s nsid = some n ∧ fn ∈ n.attach ∧ sid ≠ 0) ({ opened {} with lib := { spaces := [⟨5, 2, 100, true, false, [3]⟩] } }) (3) (9) (5) (8) (⟨5, 2, 100, true, false, [3]⟩)) ∧
    ((fun (s : State) (fn cid nsid sid : Nat) (n : Namespace) => adminOpen s fn = true ∧ fn < 512 ∧ findSpace s nsid = some n ∧ fn ∈ n.attach ∧ sid ≠ 0) ({ opened { streams := [(3, 5, 8, 1), (3, 5, 9, 2)] } with lib := { spaces := [⟨5, 2, 100, true, false, [3]⟩] } }) (3) (9) (5) (8) (⟨5, 2, 100, true, false, [3]⟩)) ∧
    ((fun (s : State) (fn cid nsid sid : Nat) (n : Namespace) => adminOpen s fn = true ∧ fn < 512 ∧ findSpace s nsid = some n ∧ fn ∈ n.attach) ({ opened { streams := [(3, 5, 8, 1), (3, 5, 9, 2)] } with lib := { spaces := [⟨5, 2, 100, true, false, [3]⟩] } }) (3) (9) (5) (8) (⟨5, 2, 100, true, false, [3]⟩)) ∧
    ((fun (s : State) (fn cid nsid op sid : Nat) => adminOpen s fn = true ∧ fn < 512 ∧ ((findSpace s nsid = none ∨ (∃ n ∈ findSpace s nsid, fn ∉ n.attach) ∨ 3 < op ∨ sid = 0 ∧ (op = 1 ∨ op = 2)))) ({ opened {} with lib := { spaces := [⟨5, 2, 100, true, false, [3]⟩] } }) (3) (9) (5) (4) (8)) ∧
    ((fun (s : State) (fn cid nsid dtype : Nat) => adminOpen s fn = true ∧ fn < 512 ∧ dtype ≤ 1) (opened { streams := [(3, 5, 8, 1), (3, 5, 9, 2)] }) (3) (9) (5) (1)) ∧
    ((fun (s : State) (fn cid nsid dtype : Nat) => adminOpen s fn = true ∧ fn < 512 ∧ 1 < dtype) (opened {}) (3) (9) (5) (2)) ∧
    ((fun (s : State) (fn cid f n : Nat) => adminOpen s fn = true ∧ fn < 2 ∧ isVfOf fn f = true ∧ ((s.host.flexible.filter fun p => decide (p.1 ≠ f)).map Prod.snd).sum + n ≤ 160) (opened { flexible := [(5, 100)] }) (0) (9) (4) (60)) ∧
    ((fun (s : State) (fn cid act rt f n : Nat) => adminOpen s fn = true ∧ fn < 2 ∧ isVfOf fn f = true ∧ ((act = 7 ∨ act = 9))) (opened {}) (0) (9) (7) (0) (4) (60)) ∧
    ((fun (s : State) (fn cid f n : Nat) => adminOpen s fn = true ∧ fn < 2 ∧ isVfOf fn f = true ∧ 160 < ((s.host.flexible.filter fun p => decide (p.1 ≠ f)).map Prod.snd).sum + n) (opened { flexible := [(5, 100)] }) (0) (9) (4) (61)) := by
  and_intros <;> first | decide +kernel | rfl

theorem witness_inventoryCommands :
    ((fun (s : State) (fn cid c first n : Nat) (l : List Nat) => adminOpen s fn = true ∧ namedSlots s c first n = some l ∧ ((∀ d ∈ l, d ∉ s.host.importQ))) (importer {}) (0) (9) (0) (286) (2) ([286, 287])) ∧
    ((fun (s : State) (fn cid c first n : Nat) (l : List Nat) (d : Nat) => adminOpen s fn = true ∧ namedSlots s c first n = some l ∧ d ∈ l ∧ d ∈ s.host.importQ) (importer { importQ := [287] }) (0) (9) (0) (286) (2) ([286, 287]) (287)) ∧
    ((fun (s : State) (fn cid c first n : Nat) => adminOpen s fn = true ∧ ((288 ≤ first ∨ n = 0 ∨ 288 < first + n ∨ carInst s c = false))) (importer {}) (0) (9) (0) (4) (300)) ∧
    ((fun (s t0 : State) (d : Nat) (common : Option (List Nat)) => d ∈ s.host.importQ ∧ cmotSt s (d / 288) ≠ 5 ∧ s.pwr.powerLoss = false ∧ isSet s F.DMP_STATUS_FATAL = false ∧ identified d common s = some t0) ((let s := importer { importQ := [4] }; updDisc 4 (fun x => { x with failRun := 2 }) s)) (((identified 4 none (let s := importer { importQ := [4] }; updDisc 4 (fun x => { x with failRun := 2 }) s)).getD State.reset)) (4) (none)) ∧
    ((fun (s : State) (d : Nat) (common : Option (List Nat)) => ((∀ b ∈ baysOf s, (mountOf s b).phase = 0 ∨ (mountOf s b).disc ≠ d))) ((let s := importer { importQ := [4] }; updDisc 4 (fun x => { x with failRun := 2 }) s)) (4) (none)) ∧
    ((fun (s : State) (b d : Nat) (common : Option (List Nat)) => (baysOf s).find? (fun x => decide ((mountOf s x).phase ≠ 0) && decide ((mountOf s x).disc = d)) = some b) ((let s := putAll [(F.GLB_INST_BAY, 3), (F.GLB_INST_HEAD, 15), (F.CH_STATUS_MEDIA_ID_VALID 2, 1), (F.CH_MEDIA_ID 2 0, 55)] (importer { importQ := [4, 6] }); { s with lib := { s.lib with mounts := [(1, { disc := 4, phase := 5 })] } })) (1) (4) (none)) ∧
    ((fun (s : State) (b d mid : Nat) (common : Option (List Nat)) (best : Option (Nat × Descriptor)) => (baysOf s).find? (fun x => decide ((mountOf s x).phase ≠ 0) && decide ((mountOf s x).disc = d)) = some b ∧ (mountOf s b).empty = false ∧ (getDisc s d).state ≠ 6 ∧ (mountOf s b).phase = 5 ∧ bayMedia s b = some mid ∧ best = bestDescriptor (recordDescriptors (getDisc s d).records)) ((let s := putAll [(F.GLB_INST_BAY, 3), (F.GLB_INST_HEAD, 15), (F.CH_STATUS_MEDIA_ID_VALID 2, 1), (F.CH_MEDIA_ID 2 0, 55)] (importer { importQ := [4, 6] }); { s with lib := { s.lib with mounts := [(1, { disc := 4, phase := 5 })] } })) (1) (4) (55) (none) (none)) ∧
    ((fun (s : State) (d : Nat) (common : Option (List Nat)) => ((d ∉ s.host.importQ ∨ cmotSt s (d / 288) = 5 ∨ s.pwr.powerLoss = true ∨ isSet s F.DMP_STATUS_FATAL = true ∨ identified d common s = none))) (importer { importQ := [4, 6] }) (5) (none)) ∧
    ((fun (s : State) (fn cid c first n : Nat) (l : List Nat) => adminOpen s fn = true ∧ namedSlots s c first n = some l) (importer { importQ := [6] }) (0) (9) (0) (4) (3) ([4, 5, 6])) := by
  and_intros <;> first | decide +kernel | rfl

theorem witness_stepRunsTheFrontCommand :
    ((fun s : State => s.pending = []) (rig [])) := by
  and_intros <;> first | decide +kernel | rfl

theorem witness_everyStepKeepsTheInvariant_1 :
    (fun s t : State => Inv s ∧ step s = .next t) ({ State.reset with pending := [.accErrClear] }) (nextOf (step ({ State.reset with pending := [.accErrClear] }))) :=
  ⟨⟨⟨by decide +kernel, by decide +kernel, by decide +kernel⟩, ⟨by decide +kernel, by decide +kernel⟩, by decide +kernel, by decide +kernel⟩, rfl⟩

theorem witness_noStepClearsAFuse :
    ((fun (s t : State) (i b : Nat) => b < 64 ∧ step s = .next t ∧ bitOf (fuseWord s i) b = 1) ({ rig [] with pending := [.debugClose], fuse := { words := [(3, 16)] } }) (nextOf (step { rig [] with pending := [.debugClose], fuse := { words := [(3, 16)] } })) (3) (4)) := by
  and_intros <;> first | decide +kernel | rfl

theorem witness_wellFormedCommandsAreCarriedOut :
    ((fun (c : Instr) (s : State) => c.wf = true) (.registerWrite 9 268435455 .byte 5) (rig [])) ∧
    ((fun (s : State) (rq off v : Nat) (sz : AccessSize) => 2 ^ 28 ≤ off) (rig []) (4) (268435456) (5) (.word)) := by
  and_intros <;> first | decide +kernel | rfl

theorem witness_furtherAccessErrorsSetOverflow :
    ((fun (s : State) (rq off v : Nat) (sz : AccessSize) (write : Bool) => Machine.get s F.GLB_ACC_ERR_VALID = 1 ∧ reaches s rq = true ∧ off < 2 ^ 28 ∧ isFaulty s off sz write = true) (erring) (0) (0x3c) (5) (.word) (true)) ∧
    ((fun (s : State) (rq off v : Nat) (sz : AccessSize) => Machine.get s F.GLB_ACC_ERR_VALID = 1 ∧ reaches s rq = true ∧ off < 2 ^ 28 ∧ isFaulty s off sz true = true) (erring) (0) (0x3a) (5) (.dword)) ∧
    ((fun (s : State) (rq off v : Nat) (write : Bool) => Machine.get s F.GLB_ACC_ERR_VALID = 1 ∧ reaches s rq = true ∧ off < 2 ^ 28 ∧ isFaulty s off .dword write = true) (erring) (0) (0x38) (5) (true)) ∧
    ((fun (s : State) (off v : Nat) (sz : AccessSize) (write : Bool) => Machine.get s F.GLB_ACC_ERR_VALID = 1 ∧ isSet s F.FUS_STATUS_DEBUG_ACTIVE = true ∧ off < 2 ^ 28 ∧ isFaulty s off sz write = true) (erring) (0x3c) (5) (.half) (false)) ∧
    ((fun (s : State) (rq reg : Nat) => Machine.get s F.GLB_ACC_ERR_VALID = 1 ∧ reaches s rq = true ∧ reg + 4 < 2 ^ 28 ∧ isFaulty s reg .word false = true) (erring) (0) (0x58)) ∧
    ((fun (s : State) (rq reg : Nat) => Machine.get s F.GLB_ACC_ERR_VALID = 1 ∧ reaches s rq = true ∧ reg + 4 < 2 ^ 28 ∧ isFaulty s (reg + 4) .word false = true) (erring) (0) (0x58)) ∧
    ((fun (s : State) (rq reg v : Nat) => Machine.get s F.GLB_ACC_ERR_VALID = 1 ∧ reaches s rq = true ∧ reg + 4 < 2 ^ 28 ∧ isFaulty s reg .word true = true) (erring) (0) (0x58) (5)) ∧
    ((fun (s : State) (rq reg v : Nat) => Machine.get s F.GLB_ACC_ERR_VALID = 1 ∧ reaches s rq = true ∧ reg + 4 < 2 ^ 28 ∧ isFaulty s (reg + 4) .word true = true) (erring) (0) (0x58) (5)) := by
  and_intros <;> first | decide +kernel | rfl

theorem witness_thermometerStaysWithinSecVer :
    ((fun (s : State) (v : Nat) => s.flash.fw.state = 3 ∧ s.mgt.probDue = true ∧ v = (letter s s.flash.fw.active).secVer ∧ thermometer s < v ∧ v ≤ Machine.get s F.TAB_SEC_VER ∧ v ≤ 64 ∧ Machine.get s F.TAB_STATUS_SELECTED ≠ 3) ({ updating none { state := 3, letterA := { secVer := 1 } } with mgt := { probDue := true } }) (1)) ∧
    ((fun (s : State) (v : Nat) => s.flash.fw.state = 3 ∧ s.mgt.probDue = true ∧ v = (letter s s.flash.fw.active).secVer ∧ thermometer s < v ∧ ((Machine.get s F.TAB_SEC_VER < v ∨ Machine.get s F.TAB_STATUS_SELECTED = 3))) ({ updating none { state := 3, letterA := { secVer := 70 } } with mgt := { probDue := true } }) (70)) ∧
    ((fun (s t : State) (hw unit ver : Nat) => exec .probationEnd s = .next t ∧ ver = Machine.get s F.TAB_SEC_VER ∧ bindFault s hw unit ver = 0) (rig []) (nextOf (exec .probationEnd (rig []))) (hwType (rig [])) (0) (0)) := by
  and_intros <;> first | decide +kernel | rfl

theorem witness_foreignHardwareTypeIsRefused :
    ((fun (s : State) (fn cid : Nat) (readOk : Bool) => recoveryOpen s fn = true ∧ mayLoad s fn 8 = true ∧ ((∀ x, s.host.tabSess = some x → x.holder = fn)) ∧ imgNat (staged s.host.tabSess) 12 4 ≠ hwType s) (downloader (some ⟨0, [(0, 5)], 3⟩)) (0) (5) (true)) ∧
    ((fun (s : State) (fn cid fs i : Nat) (readOk : Bool) => fwHolds s fn = true ∧ slotLetter s fs = some i ∧ i ≠ s.flash.fw.active ∧ s.flash.fw.state ≠ 3 ∧ imgNat (staged s.host.fwSess) 12 4 ≠ hwType s) ({ updating (some ⟨0, [(0, 5)], 3⟩) {} with fuse := { words := [(0, 4), (3, 0xf000)] } }) (0) (5) (0) (1) (true)) ∧
    ((fun (s : State) (fn cid fs i : Nat) (readOk : Bool) (x : Session) => fwHolds s fn = true ∧ slotLetter s fs = some i ∧ i ≠ s.flash.fw.active ∧ s.flash.fw.state ≠ 2 ∧ s.flash.fw.state ≠ 3 ∧ s.host.fwSess = some x ∧ imgNat x.image 12 4 ≠ hwType s) ({ updating (some ⟨0, [(0, 5)], 3⟩) {} with fuse := { words := [(0, 4), (3, 0xf000)] } }) (0) (5) (0) (1) (true) (⟨0, [(0, 5)], 3⟩)) ∧
    ((fun (s : State) (cap : Nat) => imgNat s.flash.tabA 12 4 ≠ hwType s ∧ imgNat s.flash.tabB 12 4 ≠ hwType s) (rig []) (32)) := by
  and_intros <;> first | decide +kernel | rfl

end Sys2Proof.Tests
end

section
/-! SUPPORT. The register window (R2 to R12, R26, R27): what one access does, what the record of a fault leaves, what a word does to
a register that is one field, and what a boundary brings into force. -/

namespace Sys2Proof.Proofs

open Sys2Proof.Machine Sys2Proof.Laws

/-! ### Accesses without a fault -/

/-- An access without a fault is at least a word wide and aligned (R3). -/
theorem aligned_of_accessErr_eq_zero {s : State} {off : Nat} {sz : AccessSize} {w : Bool} (h : accessErr s off sz w = 0) :
    4 ≤ sz.bytes ∧ off % sz.bytes = 0 := by
  unfold accessErr at h
  split at h
  · cases h
  · split at h
    · cases h
    · omega

theorem accessErr_le_five (s : State) (off : Nat) (sz : AccessSize) (w : Bool) : accessErr s off sz w ≤ 5 := by
  unfold accessErr
  repeat' split
  all_goals omega

section accesses
variable {s : State} {rq off reg v : Nat}

theorem windowWrite_word (h : off % 4 = 0) : windowWrite rq off .word v s = writeOne rq off v s := by
  simp [windowWrite, AccessSize.bytes, h]

theorem windowRead_word (h : off % 4 = 0) :
    windowRead rq off .word s = { (readOne rq off s).2 with busData := (readOne rq off s).1 } := by
  simp [windowRead, readWindow, AccessSize.bytes, h]

/-- A word written to a 32-bit register (R2). -/
theorem windowWrite_narrow (he : accessErr s off .word true = 0) (hw : isWide off = false) :
    windowWrite rq off .word v s = applyWord off v s := by
  rw [windowWrite_word (aligned_of_accessErr_eq_zero he).2]
  simp [writeOne, he, hw]

/-- The low half of a 64-bit register written: it is held (R4). -/
theorem windowWrite_lowHalf (he : accessErr s reg .word true = 0) (hw : isWide reg = true) (ha : reg % 8 = 0) :
    windowWrite rq reg .word v s = { s with held := mapPut s.held (halfKey rq reg) (v % 2 ^ 32) } := by
  rw [windowWrite_word (aligned_of_accessErr_eq_zero he).2]
  simp [writeOne, he, hw, ha]

/-- The high half of a 64-bit register written: both halves are applied (R4). -/
theorem windowWrite_highHalf (he : accessErr s (reg + 4) .word true = 0) (hw : isWide (reg + 4) = true) (ha : reg % 8 = 0) :
    windowWrite rq (reg + 4) .word v s = applyWide reg ((heldOf s rq reg).getD (readWord s reg)) v
      { s with held := mapErase s.held (halfKey rq reg) } := by
  have h8 : ¬(reg + 4) % 8 = 0 := by omega
  rw [windowWrite_word (aligned_of_accessErr_eq_zero he).2]
  simp [writeOne, he, hw, h8]

/-- A 64-bit register written whole (R4). -/
theorem windowWrite_wide (he : accessErr s reg .dword true = 0) (hw : isWide reg = true) :
    windowWrite rq reg .dword v s = applyWide reg (v % 2 ^ 32) (v / 2 ^ 32 % 2 ^ 32) (dropHalves rq reg s) := by
  have ha : reg % 8 = 0 := (aligned_of_accessErr_eq_zero he).2
  simp [windowWrite, AccessSize.bytes, he, hw, ha]

/-- A 64-bit register read whole (R4). -/
theorem windowRead_wide (he : accessErr s reg .dword false = 0) (hw : isWide reg = true) :
    windowRead rq reg .dword s
      = { dropHalves rq reg s with busData := readWord s reg + 2 ^ 32 * readWord s (reg + 4) } := by
  have ha : reg % 8 = 0 := (aligned_of_accessErr_eq_zero he).2
  simp [windowRead, readWindow, AccessSize.bytes, he, hw, ha]

/-- The low half of a 64-bit register read: the high word is latched (R4). -/
theorem windowRead_lowHalf (he : accessErr s reg .word false = 0) (hw : isWide reg = true) (ha : reg % 8 = 0) :
    windowRead rq reg .word s
      = { s with busData := readWord s reg, shadows := mapPut s.shadows (halfKey rq reg) (readWord s (reg + 4)) } := by
  rw [windowRead_word (aligned_of_accessErr_eq_zero he).2]
  simp [readOne, he, hw, ha]

/-- The high half of a 64-bit register read: the latched word answers, else the register (R4). -/
theorem windowRead_highHalf (he : accessErr s (reg + 4) .word false = 0) (hw : isWide (reg + 4) = true) (ha : reg % 8 = 0) :
    windowRead rq (reg + 4) .word s = match shadowOf s rq reg with
      | none => { s with busData := readWord s (reg + 4) }
      | some v => { s with busData := v, shadows := mapErase s.shadows (halfKey rq reg) } := by
  have h8 : ¬(reg + 4) % 8 = 0 := by omega
  rw [windowRead_word (aligned_of_accessErr_eq_zero he).2]
  simp only [readOne, he, hw, h8, Nat.add_sub_cancel]
  cases shadowOf s rq reg <;> rfl

/-- An aligned 8-byte write over two 32-bit registers is two word writes (R6). -/
theorem windowWrite_twoWords (ha : off % 8 = 0) (hw : isWide off = false) :
    windowWrite rq off .dword v s
      = windowWrite rq (off + 4) .word (v / 2 ^ 32 % 2 ^ 32) (windowWrite rq off .word (v % 2 ^ 32) s) := by
  rw [windowWrite_word (by omega), windowWrite_word (by omega)]
  simp [windowWrite, AccessSize.bytes, ha, hw]

end accesses

/-! ### Faulty accesses -/

/-- A faulty write, other than an 8-byte write over two registers, reaches no register (R3, R26). -/
theorem windowWrite_fault {s : State} {rq off v : Nat} {sz : AccessSize} (he : accessErr s off sz true ≠ 0)
    (hd : sz = .dword → off % 8 ≠ 0 ∨ isWide off = true) :
    windowWrite rq off sz v s = recordError rq off (accessErr s off sz true) true s := by
  by_cases ha : sz.bytes < 4 ∨ off % sz.bytes ≠ 0
  · simp only [windowWrite, if_pos ha]
  · simp only [windowWrite, if_neg ha]
    cases sz with
    | byte => exact absurd (Or.inl (by decide)) ha
    | half => exact absurd (Or.inl (by decide)) ha
    | word => simp [AccessSize.bytes, writeOne, he]
    | dword => simp [AccessSize.bytes, (hd rfl).resolve_left (fun h => ha (Or.inr h)), he]

/-- A faulty read of the same kind answers 0. -/
theorem readWindow_fault {s : State} {rq off : Nat} {sz : AccessSize} (he : accessErr s off sz false ≠ 0)
    (hd : sz = .dword → off % 8 ≠ 0 ∨ isWide off = true) :
    readWindow rq off sz s = (0, recordError rq off (accessErr s off sz false) false s) := by
  by_cases ha : sz.bytes < 4 ∨ off % sz.bytes ≠ 0
  · simp only [readWindow, if_pos ha]
  · simp only [readWindow, if_neg ha]
    cases sz with
    | byte => exact absurd (Or.inl (by decide)) ha
    | half => exact absurd (Or.inl (by decide)) ha
    | word => simp [AccessSize.bytes, readOne, he]
    | dword => simp [AccessSize.bytes, (hd rfl).resolve_left (fun h => ha (Or.inr h)), he]

theorem recordError_busData (s : State) (rq off kind : Nat) (w : Bool) : (recordError rq off kind w s).busData = s.busData := by
  unfold recordError
  split
  · rfl
  · exact inner_field State.busData (fun _ => rfl) (by simp)

/-- A faulty access leaves the record, and a read's zero. -/
theorem faultyAccess_eq {s : State} {rq off v : Nat} {sz : AccessSize} {w : Bool} (he : accessErr s off sz w ≠ 0)
    (hd : sz = .dword → off % 8 ≠ 0 ∨ isWide off = true) :
    (if w then windowWrite rq off sz v s else windowRead rq off sz s)
      = { recordError rq off (accessErr s off sz w) w s with busData := if w then s.busData else 0 } := by
  cases w with
  | true => rw [if_pos rfl, windowWrite_fault he hd, if_pos rfl, ← recordError_busData s rq off (accessErr s off sz true) true]
  | false => rw [if_neg Bool.false_ne_true, windowRead, readWindow_fault he hd]; rfl

/-- The fields that the record of a fault fills (R26). -/
def recordFields : List Fld :=
  [F.GLB_ACC_ERR_OFFSET, F.GLB_ACC_ERR_REQ, F.GLB_ACC_ERR_KIND, F.GLB_ACC_ERR_WRITE, F.GLB_ACC_ERR_VALID, F.EVT_LOG_HEAD]

section record
variable {s : State} {rq off kind : Nat} {w : Bool}

/-- The first fault fills the record (R26). -/
theorem get_recordError_first (hv : Machine.get s F.GLB_ACC_ERR_VALID = 0) {f : Fld} (hf : f.key ≠ F.EVT_LOG_HEAD.key) :
    Machine.get (recordError rq off kind w s) f = Machine.get (putAll [(F.GLB_ACC_ERR_OFFSET, off), (F.GLB_ACC_ERR_REQ, rq),
      (F.GLB_ACC_ERR_KIND, kind), (F.GLB_ACC_ERR_WRITE, if w then 1 else 0), (F.GLB_ACC_ERR_VALID, 1)] s) f := by
  have h : isSet s F.GLB_ACC_ERR_VALID = false := by simp [isSet, hv]
  obtain ⟨_, _, _, hg⟩ := edge_cases 193 false (putAll [(F.GLB_ACC_ERR_OFFSET, off), (F.GLB_ACC_ERR_REQ, rq),
      (F.GLB_ACC_ERR_KIND, kind), (F.GLB_ACC_ERR_WRITE, if w then 1 else 0), (F.GLB_ACC_ERR_VALID, 1)] s)
  simp only [recordError, h, Bool.false_eq_true, if_false]
  exact hg f hf

theorem within_recordError_first (hv : Machine.get s F.GLB_ACC_ERR_VALID = 0) :
    Within s (recordError rq off kind w s) recordFields := by
  have h : isSet s F.GLB_ACC_ERR_VALID = false := by simp [isSet, hv]
  simp only [recordError, h, Bool.false_eq_true, if_false]
  exact ⟨by simp, only_edge (only_putAll (only_refl s _) (by simp [recordFields])) (by simp [recordFields])⟩

theorem recordError_first_fields (hv : Machine.get s F.GLB_ACC_ERR_VALID = 0) (ho : off < 2 ^ 28) (hr : rq < 10) (hk : kind ≤ 5) :
    Machine.get (recordError rq off kind w s) F.GLB_ACC_ERR_OFFSET = off ∧
    Machine.get (recordError rq off kind w s) F.GLB_ACC_ERR_REQ = rq ∧
    Machine.get (recordError rq off kind w s) F.GLB_ACC_ERR_KIND = kind ∧
    Machine.get (recordError rq off kind w s) F.GLB_ACC_ERR_WRITE = (if w then 1 else 0) ∧
    Machine.get (recordError rq off kind w s) F.GLB_ACC_ERR_VALID = 1 := by
  refine ⟨?_, ?_, ?_, ?_, ?_⟩ <;> rw [get_recordError_first hv (by decide)] <;>
    simp [putAll, get_put, trunc, Fld.key, F.GLB_ACC_ERR_OFFSET, F.GLB_ACC_ERR_REQ, F.GLB_ACC_ERR_KIND, F.GLB_ACC_ERR_WRITE,
      F.GLB_ACC_ERR_VALID]
  case refine_4 => split <;> omega
  all_goals omega

/-- A further fault sets OVERFLOW and nothing else (R27). -/
theorem recordError_further (hv : Machine.get s F.GLB_ACC_ERR_VALID = 1) :
    recordError rq off kind w s = put F.GLB_ACC_ERR_OVERFLOW 1 s := by
  simp [recordError, isSet, hv]

end record

/-! ### Words written to fields -/

theorem get_writePlace_plain {s : State} {w v : Nat} {f : Fld} {a : Access} {k : ResetKind} (hf : f ≠ F.PWR_CTRL_REQ)
    (ha : a ∈ [Access.rw, .rwb, .rwl]) :
    Machine.get (writePlace w v ⟨f, a, k⟩ s) f = trunc f.width (f.fromWord w (Machine.get s f) v) := by
  simp only [List.mem_cons, List.not_mem_nil, or_false] at ha
  rcases ha with rfl | rfl | rfl <;> simp [writePlace, hf]

theorem get_writePlace_w1c (s : State) (w v : Nat) (f : Fld) (k : ResetKind) :
    Machine.get (writePlace w v ⟨f, .w1c, k⟩ s) f
      = trunc f.width (Machine.get s f - (Machine.get s f &&& f.fromWord w 0 v)) := get_put_same ..

theorem writePlace_fixed {s : State} {w v : Nat} {f : Fld} {a : Access} {k : ResetKind} (ha : a ∈ [Access.ro, .wo, .w1s]) :
    writePlace w v ⟨f, a, k⟩ s = s := by
  simp only [List.mem_cons, List.not_mem_nil, or_false] at ha
  rcases ha with rfl | rfl | rfl <;> rfl

/-- Whatever its access, a word written to a field touches that field alone. -/
theorem within_writePlace (s : State) (w v : Nat) (p : Place) : Within s (writePlace w v p s) [p.fld] := by
  obtain ⟨f, a, k⟩ := p
  cases a
  case ro | wo | w1s => exact within_refl s _
  all_goals exact within_put (within_refl s _) (by simp)

/-- The word at an offset belongs to one field, whose write is no command of its own and starts nothing else: no head, no cell and
no enable of an event source stands there. -/
def loneField (off : Nat) (p : Place) : Bool :=
  decide (poolCanon off = off) && decide (off < 0x1000000 ∨ 0x2000000 ≤ off) && decide (enabledBy off = []) &&
    match findBlock off with
    | none => false
    | some (k, _, o) => decide (k.base ≠ 0x2010000) &&
        decide (((placesAt off).filter fun q => !ownWrite k.base (o + q.fld.off - off) q.fld.lsb) = [p])

theorem applyWord_loneField {off v : Nat} {p : Place} (h : loneField off p = true) (s : State) :
    applyWord off v s = writePlace off v p s := by
  simp only [loneField, Bool.and_eq_true, decide_eq_true_eq] at h
  obtain ⟨⟨⟨hc, hr⟩, he⟩, hb⟩ := h
  unfold applyWord
  rcases hk : findBlock off with _ | ⟨k, i, o⟩
  · simp only [hk] at hb
    cases hb
  · simp only [hk, Bool.and_eq_true, decide_eq_true_eq] at hb
    obtain ⟨hbase, hp⟩ := hb
    have hhead : ¬(0x1000000 ≤ off ∧ off < 0x2000000 ∧ headInst (writePlace off v p s) ((off - 0x1000000) / 0x40000) = true) := by
      omega
    simp only [hc, hk, hp, List.foldl_cons, List.foldl_nil, afterWrite, if_neg hhead, if_pos hbase, he]
    rfl

theorem loneField_scratch {i : Nat} (hi : i < 4) : loneField (72 + 4 * i) ⟨F.GLB_SCRATCH i, .rw, .val⟩ = true := by
  interval_cases i <;> decide +kernel

theorem loneField_plpEvt : loneField F.PLP_EVT.off ⟨F.PLP_EVT, .w1c, .val⟩ = true := by decide +kernel

theorem loneField_expSel_low : loneField F.CAL_EXP_SEL.off ⟨F.CAL_EXP_SEL, .rw, .val⟩ = true := by decide +kernel

theorem loneField_expSel_high : loneField (F.CAL_EXP_SEL.off + 4) ⟨F.CAL_EXP_SEL, .rw, .val⟩ = true := by decide +kernel

theorem part_whole (off : Nat) : Fld.part ⟨off, 0, 32⟩ off = (0, 32, 0) := by
  simp [Fld.part, Fld.key]

theorem part_lowHalf (off : Nat) : Fld.part ⟨off, 0, 64⟩ off = (0, 32, 0) := by
  simp [Fld.part, Fld.key]

theorem part_highHalf (off : Nat) : Fld.part ⟨off, 0, 64⟩ (off + 4) = (0, 32, 32) := by
  simp [Fld.part, Fld.key]
  omega

/-- A word over a field that is a whole 32-bit register. -/
theorem trunc_fromWord_whole (off old v : Nat) : trunc 32 (Fld.fromWord ⟨off, 0, 32⟩ off old v) = v % 2 ^ 32 := by
  simp only [trunc, Fld.fromWord, part_whole]
  omega

/-- The two words of a 64-bit register, written one after the other. -/
theorem trunc_fromWord_halves (off old lo hi : Nat) :
    trunc 64 (Fld.fromWord ⟨off, 0, 64⟩ (off + 4) (trunc 64 (Fld.fromWord ⟨off, 0, 64⟩ off old lo)) hi)
      = lo % 2 ^ 32 + 2 ^ 32 * (hi % 2 ^ 32) := by
  simp only [trunc, Fld.fromWord, part_lowHalf, part_highHalf]
  omega

theorem and_mod_two (x m : Nat) : (x &&& m) % 2 = if m % 2 = 1 then x % 2 else 0 := by
  have hmod : (x &&& m) % 2 = x % 2 &&& m % 2 := Nat.and_mod_two_pow (n := 1)
  rcases Nat.mod_two_eq_zero_or_one m with h | h <;> simp [hmod, h]

/-- The bits that a W1C write clears: taking away the common bits borrows nothing. -/
theorem bitOf_sub_and (x m i : Nat) : bitOf (x - (x &&& m)) i = if bitOf m i = 1 then 0 else bitOf x i := by
  induction i generalizing x m with
  | zero =>
    have hle : x &&& m ≤ x := Nat.and_le_left
    have hpar := and_mod_two x m
    simp only [bitOf, pow_zero, Nat.div_one]
    split_ifs at hpar ⊢ <;> omega
  | succ i ih =>
    have hs : ∀ n : Nat, bitOf n (i + 1) = bitOf (n / 2) i := fun n => by
      simp only [bitOf, Nat.div_div_eq_div_mul, pow_succ']
    have hd : (x - (x &&& m)) / 2 = x / 2 - (x / 2 &&& m / 2) := by
      have hle : x &&& m ≤ x := Nat.and_le_left
      have hpar := and_mod_two x m
      rw [← Nat.and_div_two]
      split_ifs at hpar <;> omega
    rw [hs, hs, hs, hd, ih]

/-! ### Boundaries -/

theorem inForce_takeForces_of_notMem {l : List Fld} {f : Fld} (h : f.key ∉ l.map Fld.key) (s : State) :
    inForce (takeForces l s) f = inForce s f := by
  induction l generalizing s with
  | nil => rfl
  | cons g l ih =>
    simp only [List.map_cons, List.mem_cons, not_or] at h
    obtain ⟨hg, hl⟩ := h
    rw [takeForces, ih hl, inForce_takeForce, if_neg hg]

theorem inForce_takeForces_of_mem {l : List Fld} {f : Fld} (hl : (l.map Fld.key).Nodup) (hf : f ∈ l) (s : State) :
    inForce (takeForces l s) f = Machine.get s f := by
  induction l generalizing s with
  | nil => cases hf
  | cons g l ih =>
    obtain ⟨hg, hl⟩ := List.nodup_cons.1 hl
    rcases List.mem_cons.1 hf with rfl | hf
    · rw [takeForces, inForce_takeForces_of_notMem hg, inForce_takeForce, if_pos rfl]
    · rw [takeForces, ih hl hf, get_takeForce]

/-- The completions of Calibrate commands leave the values in force. -/
theorem inForce_foldl_adminDone (l : List (Nat × Nat)) (s : State) (f : Fld) :
    inForce (l.foldl (fun t x => adminDone x.1 x.2 0 0 0 0 [] t) s) f = inForce s f := by
  induction l generalizing s with
  | nil => rfl
  | cons x l ih => rw [List.foldl_cons, ih]; rfl

theorem takeCal_of_none {p : Nat → Bool} {s : State} (h : ∀ x ∈ s.cal.fresh, p x = false) : takeCal p s = s := by
  have hr : (s.cal.fresh.filter fun i => !p i) = s.cal.fresh := List.filter_eq_self.2 fun x hx => by simp [h x hx]
  simp [takeCal, hr]

/-- The registers of the calibration items lie in CAL (R464). -/
theorem calFields_key_ge {i : Nat} {f : Fld} (h : f ∈ calFields i) : 8 * 0x7080000 ≤ f.key := by
  unfold calFields at h
  split_ifs at h <;> simp only [List.mem_cons, List.not_mem_nil, or_false] at h
  all_goals
    rcases h with rfl | rfl <;>
    simp only [Fld.key, F.CAL_REFADC_GAIN, F.CAL_REFADC_OFFSET, F.CAL_HU_GAIN, F.CAL_HU_OFFSET, F.CAL_EXP_GAIN,
      F.CAL_EXP_OFFSET, F.CAL_DIE, F.CAL_LASER] <;>
    omega

/-- The boundary of calibration items leaves what is in force below CAL. -/
theorem inForce_takeCal_below {f : Fld} (hf : f.key < 8 * 0x7080000) (p : Nat → Bool) (s : State) :
    inForce (takeCal p s) f = inForce s f := by
  have hforces : inForce (takeForces ((s.cal.fresh.filter p).map calFields).flatten s) f = inForce s f := by
    refine inForce_takeForces_of_notMem (fun hm => ?_) s
    obtain ⟨g, hg, hk⟩ := List.mem_map.1 hm
    obtain ⟨l, hl, hgl⟩ := List.mem_flatten.1 hg
    obtain ⟨i, _, rfl⟩ := List.mem_map.1 hl
    have := calFields_key_ge hgl
    omega
  simp only [takeCal]
  split_ifs
  · rfl
  · rw [inForce_foldl_adminDone]; exact hforces
  · exact hforces

/-- The fields that a boundary of an existing unit takes have keys of their own, all of them below CAL. -/
theorem boundaryFields_keys {s : State} {k : Boundary} {u : Nat} (h : boundaryUnit s k u = true) :
    ((boundaryFields k u).map Fld.key).Nodup ∧ ∀ f ∈ boundaryFields k u, f.key < 8 * 0x7080000 := by
  cases k
  case sensorSample | huSense | idle => exact ⟨List.nodup_nil, fun _ hf => by cases hf⟩
  case pwmPeriod =>
    simp only [boundaryUnit] at h
    split at h
    case isTrue hu =>
      simp [boundaryFields, hu, Fld.key, F.BL_DEADTIME, F.BL_OC_TRIP, F.MOT_CUR_KP, F.MOT_CUR_KI, F.MOT_SHUNT_SETTLE,
        F.MOT_SHUNT_WIN_MIN]
      omega
    case isFalse hu =>
      have := carInst_lt h
      simp [boundaryFields, hu, Fld.key, F.BL_DEADTIME, F.BL_OC_TRIP, F.CMOT_CUR_KP, F.CMOT_CUR_KI]
      omega
  case chopper =>
    have := bayInst_lt h
    simp [boundaryFields, Fld.key, F.MOV_CHOP_T_OFF, F.MOV_CHOP_FAST_RISE, F.MOV_CHOP_FAST_FALL, F.MOV_CHOP_T_BLANK,
      F.MOV_CHOP_T_ON_MAX]
    omega
  all_goals
    have := headInst_lt h
    simp [boundaryFields, Fld.key, F.CH_WPLL_CFG_BW, F.CH_WPLL_CFG_HOLD_MAX, F.CH_WPLL_CFG_AMP_MIN, F.SV_OFFSET_TRACK_OFS,
      F.SV_OFFSET_FOCUS_OFS, F.CH_ACQ_FAST_GAIN, F.CH_ACQ_TRACK_GAIN, F.CH_SYNC_SM_THR, F.CH_SYNC_RM_THR, F.CH_EQ_CFG_MU,
      F.CH_EQ_CFG_MSE_MAX, F.CH_DROP_CFG_LO, F.CH_DROP_CFG_HI, F.CH_DROP_CFG_SET_LEN, F.CH_DROP_CFG_CLR_LEN, F.CH_ERASE_CFG_EXT,
      F.CH_ERASE_CFG_ERASE_MAX, F.CH_LDPC_CFG_ITER0, F.CH_LDPC_CFG_ITER1, F.CH_LDPC_CFG_STALL, F.CH_LDPC_CFG_ALPHA,
      F.WRP_EXTENT_EXT_BANDS]
    omega

/-! ### The commands -/

section commands
variable {s : State} {rq off reg v : Nat} {sz : AccessSize} {w : Bool} {Q : State → Prop}

/-! #### Their meanings -/

theorem exec_registerWrite : exec (.registerWrite rq off sz v) s = execRegisterWrite rq off sz v s := rfl
theorem exec_accessError : exec (.accessError rq off sz w v) s = execAccessError rq off sz w v s := rfl
theorem exec_lowHalfRead : exec (.lowHalfRead rq reg) s = execLowHalfRead rq reg s := rfl
theorem exec_highHalfRead : exec (.highHalfRead rq reg) s = execHighHalfRead rq reg s := rfl
theorem exec_lowHalfWrite : exec (.lowHalfWrite rq reg v) s = execLowHalfWrite rq reg v s := rfl
theorem exec_highHalfWrite : exec (.highHalfWrite rq reg v) s = execHighHalfWrite rq reg v s := rfl
theorem exec_full64BitAccess : exec (.full64BitAccess rq reg w v) s = execFull64BitAccess rq reg w v s := rfl
theorem exec_debugPortWindowAccess : exec (.debugPortWindowAccess off sz w v) s = execDebugPortWindowAccess off sz w v s := rfl
theorem exec_rwbBoundary (k : Boundary) (u : Nat) : exec (.rwbBoundary k u) s = execRwbBoundary k u s := rfl

/-! #### Their completion -/

theorem inSpace_of_lt (h : off < 2 ^ 28) : inSpace off = true := decide_eq_true h

theorem completes_registerWrite (hr : reaches s rq = true) (ho : off < 2 ^ 28) (h : Q (windowWrite rq off sz v s)) :
    Completes (.registerWrite rq off sz v) s Q :=
  ⟨_, by simp only [exec_registerWrite, execRegisterWrite, inSpace_of_lt ho, hr, reduceCtorEq, if_false], h⟩

theorem completes_lowHalfRead (hr : reaches s rq = true) (ho : reg < 2 ^ 28) (h : Q (windowRead rq reg .word s)) :
    Completes (.lowHalfRead rq reg) s Q :=
  ⟨_, by simp only [exec_lowHalfRead, execLowHalfRead, inSpace_of_lt ho, hr, reduceCtorEq, if_false], h⟩

theorem completes_highHalfRead (hr : reaches s rq = true) (ho : reg + 4 < 2 ^ 28) (h : Q (windowRead rq (reg + 4) .word s)) :
    Completes (.highHalfRead rq reg) s Q :=
  ⟨_, by simp only [exec_highHalfRead, execHighHalfRead, inSpace_of_lt ho, hr, reduceCtorEq, if_false], h⟩

theorem completes_lowHalfWrite (hr : reaches s rq = true) (ho : reg < 2 ^ 28) (h : Q (windowWrite rq reg .word v s)) :
    Completes (.lowHalfWrite rq reg v) s Q :=
  ⟨_, by simp only [exec_lowHalfWrite, execLowHalfWrite, inSpace_of_lt ho, hr, reduceCtorEq, if_false], h⟩

theorem completes_highHalfWrite (hr : reaches s rq = true) (ho : reg + 4 < 2 ^ 28) (h : Q (windowWrite rq (reg + 4) .word v s)) :
    Completes (.highHalfWrite rq reg v) s Q :=
  ⟨_, by simp only [exec_highHalfWrite, execHighHalfWrite, inSpace_of_lt ho, hr, reduceCtorEq, if_false], h⟩

theorem completes_full64BitAccess (hr : reaches s rq = true) (ho : reg < 2 ^ 28)
    (h : Q (if w then windowWrite rq reg .dword v s else windowRead rq reg .dword s)) :
    Completes (.full64BitAccess rq reg w v) s Q :=
  ⟨_, by simp only [exec_full64BitAccess, execFull64BitAccess, inSpace_of_lt ho, hr, reduceCtorEq, if_false], h⟩

theorem completes_accessError (hr : reaches s rq = true) (ho : off < 2 ^ 28) (hf : isFaulty s off sz w = true)
    (h : Q (if w then windowWrite rq off sz v s else windowRead rq off sz s)) : Completes (.accessError rq off sz w v) s Q :=
  ⟨_, by simp only [exec_accessError, execAccessError, inSpace_of_lt ho, hr, hf, reduceCtorEq, if_false], h⟩

theorem completes_debugPort (hd : Machine.get s F.FUS_STATUS_DEBUG_ACTIVE = 1) (ho : off < 2 ^ 28)
    (h : Q (if w then windowWrite 9 off sz v s else windowRead 9 off sz s)) :
    Completes (.debugPortWindowAccess off sz w v) s Q :=
  ⟨_, by simp [exec_debugPortWindowAccess, execDebugPortWindowAccess, inSpace_of_lt ho, isSet, hd], h⟩

/-- The debug port without full access: nothing is written or recorded, and a read answers 0 (R5). -/
theorem completes_debugPort_inactive (hd : Machine.get s F.FUS_STATUS_DEBUG_ACTIVE = 0) (h : Q (turnedAway w s)) :
    Completes (.debugPortWindowAccess off sz w v) s Q :=
  ⟨_, by simp [exec_debugPortWindowAccess, execDebugPortWindowAccess, isSet, hd], h⟩

theorem completes_rwbBoundary {k : Boundary} {u : Nat} (hu : boundaryUnit s k u = true)
    (h : Q (takeCal (boundaryItem k u) (takeForces (boundaryFields k u) s))) : Completes (.rwbBoundary k u) s Q :=
  ⟨_, by simp only [exec_rwbBoundary, execRwbBoundary, hu, reduceCtorEq, if_false], h⟩

/-! ### Particular registers -/

/-- A word written to a scratch register is held there (R2). -/
theorem windowWrite_scratch {i : Nat} (hi : i < 4) (he : accessErr s (72 + 4 * i) .word true = 0) :
    Machine.get (windowWrite rq (72 + 4 * i) .word v s) (F.GLB_SCRATCH i) = v % 2 ^ 32 ∧
      Within s (windowWrite rq (72 + 4 * i) .word v s) [F.GLB_SCRATCH i] := by
  have hw : isWide (72 + 4 * i) = false := by interval_cases i <;> decide +kernel
  have hf : F.GLB_SCRATCH i = ⟨72 + 4 * i, 0, 32⟩ := by simp [F.GLB_SCRATCH, Nat.mul_comm]
  rw [windowWrite_narrow he hw, applyWord_loneField (loneField_scratch hi)]
  refine ⟨?_, within_writePlace ..⟩
  rw [get_writePlace_plain (by simp [F.GLB_SCRATCH, F.PWR_CTRL_REQ]) (by simp), hf]
  exact trunc_fromWord_whole ..

/-- A word written to an event register clears the flags it has as 1 (R2). -/
theorem windowWrite_plpEvt (he : accessErr s F.PLP_EVT.off .word true = 0) :
    (∀ i, i < 32 → bitOf (Machine.get (windowWrite rq F.PLP_EVT.off .word v s) F.PLP_EVT) i
      = if bitOf v i = 1 then 0 else bitOf (Machine.get s F.PLP_EVT) i) ∧
      Within s (windowWrite rq F.PLP_EVT.off .word v s) [F.PLP_EVT] := by
  have hw : isWide F.PLP_EVT.off = false := by decide +kernel
  rw [windowWrite_narrow he hw, applyWord_loneField loneField_plpEvt]
  refine ⟨fun i hi => ?_, within_writePlace ..⟩
  have hm : F.PLP_EVT.fromWord F.PLP_EVT.off 0 v = v % 2 ^ 32 := by
    simp [Fld.fromWord, Fld.part, Fld.key, F.PLP_EVT]
  rw [get_writePlace_w1c, bitOf_trunc F.PLP_EVT.width _ _ hi, bitOf_sub_and, hm, ← trunc, bitOf_trunc _ _ _ hi]

/-- A 64-bit register of one field takes both halves (R4). -/
theorem applyWide_expSel (lo hi : Nat) (s : State) :
    Machine.get (applyWide F.CAL_EXP_SEL.off lo hi s) F.CAL_EXP_SEL = lo % 2 ^ 32 + 2 ^ 32 * (hi % 2 ^ 32) ∧
      Within s (applyWide F.CAL_EXP_SEL.off lo hi s) [F.CAL_EXP_SEL] := by
  have ha : applyWide F.CAL_EXP_SEL.off lo hi s
      = applyWord (F.CAL_EXP_SEL.off + 4) hi (applyWord F.CAL_EXP_SEL.off lo s) := by
    simp [applyWide, F.CAL_EXP_SEL]
  rw [ha, applyWord_loneField loneField_expSel_low, applyWord_loneField loneField_expSel_high]
  refine ⟨?_, within_trans (within_writePlace s _ _ ⟨F.CAL_EXP_SEL, .rw, .val⟩) (within_writePlace ..)⟩
  rw [get_writePlace_plain (by decide) (by simp), get_writePlace_plain (by decide) (by simp)]
  exact trunc_fromWord_halves ..

end commands

/-! ### The clauses -/

section clauses
variable {s : State} {rq off reg v : Nat}

/-- The low half of a 64-bit register read (R4). -/
theorem lowHalfRead_latches (hr : reaches s rq = true) (ho : reg + 4 < 2 ^ 28) (ha : reg % 8 = 0) (hw : isWide reg = true)
    (he : accessErr s reg .word false = 0) :
    Completes (.lowHalfRead rq reg) s fun t => t.busData = readWord s reg ∧ shadowOf t rq reg = some (readWord s (reg + 4)) ∧
      t = { s with busData := t.busData, shadows := t.shadows } := by
  refine completes_lowHalfRead hr (by omega) ?_
  rw [windowRead_lowHalf he hw ha]
  exact ⟨rfl, by simp [shadowOf, mapFind_put], rfl⟩

/-- The latched high word answers and is spent (R4). -/
theorem highHalfRead_spends {l : Nat} (hr : reaches s rq = true) (ho : reg + 4 < 2 ^ 28) (ha : reg % 8 = 0)
    (hw : isWide (reg + 4) = true) (he : accessErr s (reg + 4) .word false = 0) (hl : shadowOf s rq reg = some l) :
    Completes (.highHalfRead rq reg) s fun t => t.busData = l ∧ shadowOf t rq reg = none ∧
      t = { s with busData := t.busData, shadows := t.shadows } := by
  refine completes_highHalfRead hr ho ?_
  rw [windowRead_highHalf he hw ha, hl]
  exact ⟨rfl, by simp [shadowOf, mapFind_erase_same], rfl⟩

theorem highHalfRead_unlatched (hr : reaches s rq = true) (ho : reg + 4 < 2 ^ 28) (ha : reg % 8 = 0)
    (hw : isWide (reg + 4) = true) (he : accessErr s (reg + 4) .word false = 0) (hl : shadowOf s rq reg = none) :
    Completes (.highHalfRead rq reg) s fun t => t = { s with busData := readWord s (reg + 4) } := by
  refine completes_highHalfRead hr ho ?_
  rw [windowRead_highHalf he hw ha, hl]

theorem lowHalfWrite_holds (hr : reaches s rq = true) (ho : reg + 4 < 2 ^ 28) (ha : reg % 8 = 0) (hw : isWide reg = true)
    (he : accessErr s reg .word true = 0) :
    Completes (.lowHalfWrite rq reg v) s fun t => heldOf t rq reg = some (v % 2 ^ 32) ∧ t = { s with held := t.held } := by
  refine completes_lowHalfWrite hr (by omega) ?_
  rw [windowWrite_lowHalf he hw ha]
  exact ⟨by simp [heldOf, mapFind_put], rfl⟩

/-- The high half applies both halves to a register of one field (R4). -/
theorem highHalfWrite_expSel {lo : Nat} (hr : reaches s rq = true) (he : accessErr s (F.CAL_EXP_SEL.off + 4) .word true = 0)
    (hh : heldOf s rq F.CAL_EXP_SEL.off = some lo) (hlo : lo < 2 ^ 32) :
    Completes (.highHalfWrite rq F.CAL_EXP_SEL.off v) s fun t =>
      Machine.get t F.CAL_EXP_SEL = lo + 2 ^ 32 * (v % 2 ^ 32) ∧ heldOf t rq F.CAL_EXP_SEL.off = none ∧
      inner t = { inner s with held := t.held } ∧ OnlyFields s t [F.CAL_EXP_SEL] := by
  refine completes_highHalfWrite hr (by decide) ?_
  rw [windowWrite_highHalf he (by decide +kernel) (by decide), hh, Option.getD_some]
  obtain ⟨hv, hi, hf⟩ := applyWide_expSel lo v { s with held := mapErase s.held (halfKey rq F.CAL_EXP_SEL.off) }
  have hheld := inner_field State.held (fun _ => rfl) hi
  refine ⟨by rw [hv, Nat.mod_eq_of_lt hlo], by simp [heldOf, hheld, mapFind_erase_same], by rw [hi, hheld]; rfl, hf⟩

/-- A 64-bit write leaves no half behind (R4). -/
theorem full64BitAccess_expSel (hr : reaches s rq = true) (he : accessErr s F.CAL_EXP_SEL.off .dword true = 0) :
    Completes (.full64BitAccess rq F.CAL_EXP_SEL.off true v) s fun t =>
      Machine.get t F.CAL_EXP_SEL = v % 2 ^ 64 ∧ shadowOf t rq F.CAL_EXP_SEL.off = none ∧ heldOf t rq F.CAL_EXP_SEL.off = none ∧
      inner t = { inner s with held := t.held, shadows := t.shadows } ∧ OnlyFields s t [F.CAL_EXP_SEL] := by
  refine completes_full64BitAccess hr (by decide) ?_
  rw [if_pos rfl, windowWrite_wide he (by decide +kernel)]
  obtain ⟨hv, hi, hf⟩ := applyWide_expSel (v % 2 ^ 32) (v / 2 ^ 32 % 2 ^ 32) (dropHalves rq F.CAL_EXP_SEL.off s)
  have hheld := inner_field State.held (fun _ => rfl) hi
  have hshad := inner_field State.shadows (fun _ => rfl) hi
  refine ⟨by rw [hv]; omega, ?_, ?_, by rw [hi, hheld, hshad]; rfl, hf⟩
  · rw [shadowOf, hshad]
    exact mapFind_erase_same ..
  · rw [heldOf, hheld]
    exact mapFind_erase_same ..

/-- The first fault is recorded (R3, R26). -/
theorem accessError_records {sz : AccessSize} {w : Bool} (hr : reaches s rq = true) (ho : off < 2 ^ 28) (hrq : rq < 10)
    (he : accessErr s off sz w ≠ 0) (hd : sz = .dword → off % 8 ≠ 0 ∨ isWide off = true)
    (hv : Machine.get s F.GLB_ACC_ERR_VALID = 0) :
    Completes (.accessError rq off sz w v) s fun t =>
      Machine.get t F.GLB_ACC_ERR_OFFSET = off ∧ Machine.get t F.GLB_ACC_ERR_REQ = rq ∧
      Machine.get t F.GLB_ACC_ERR_KIND = accessErr s off sz w ∧ Machine.get t F.GLB_ACC_ERR_WRITE = (if w then 1 else 0) ∧
      Machine.get t F.GLB_ACC_ERR_VALID = 1 ∧ t.busData = (if w then s.busData else 0) ∧
      inner t = { inner s with busData := t.busData } ∧ OnlyFields s t recordFields := by
  refine completes_accessError hr ho (by simp [isFaulty, he]) ?_
  rw [faultyAccess_eq he hd]
  have hk := accessErr_le_five s off sz w
  obtain ⟨hi, hf⟩ := within_recordError_first (rq := rq) (off := off) (kind := accessErr s off sz w) (w := w) hv
  obtain ⟨hoff, hreq, hkind, hwrite, hvalid⟩ := recordError_first_fields (w := w) hv ho hrq hk
  refine ⟨hoff, hreq, hkind, hwrite, hvalid, rfl, ?_, hf⟩
  calc inner { recordError rq off (accessErr s off sz w) w s with busData := if w then s.busData else 0 }
      = { inner (recordError rq off (accessErr s off sz w) w s) with busData := if w then s.busData else 0 } := rfl
    _ = { inner s with busData := if w then s.busData else 0 } := by rw [hi]

/-- A further fault sets OVERFLOW alone (R27). -/
theorem accessError_overflows {sz : AccessSize} {w : Bool} (hr : reaches s rq = true) (ho : off < 2 ^ 28)
    (he : accessErr s off sz w ≠ 0) (hd : sz = .dword → off % 8 ≠ 0 ∨ isWide off = true)
    (hv : Machine.get s F.GLB_ACC_ERR_VALID = 1) :
    Completes (.accessError rq off sz w v) s fun t =>
      t.busData = (if w then s.busData else 0) ∧ Machine.get t F.GLB_ACC_ERR_OVERFLOW = 1 ∧
      inner t = { inner s with busData := t.busData } ∧ OnlyFields s t [F.GLB_ACC_ERR_OVERFLOW] := by
  refine completes_accessError hr ho (by simp [isFaulty, he]) ?_
  rw [faultyAccess_eq he hd, recordError_further hv]
  exact ⟨rfl, get_put_same F.GLB_ACC_ERR_OVERFLOW 1 s, rfl, only_put (only_refl s _) (by simp)⟩

/-- VALID written 1 clears the record (R27). -/
theorem accErrClear_clears (s : State) : Completes .accErrClear s fun t =>
    Machine.get t F.GLB_ACC_ERR_VALID = 0 ∧ Machine.get t F.GLB_ACC_ERR_OVERFLOW = 0 ∧
    Within s t [F.GLB_ACC_ERR_VALID, F.GLB_ACC_ERR_OVERFLOW] := by
  refine ⟨_, rfl, ?_, get_put_same .., within_putAll (within_refl s _) (by simp)⟩
  rw [clearError, putAll, putAll, putAll, get_put_ne _ _ _ _ (by decide)]
  exact get_put_same ..

/-- A boundary brings the values written into force, and takes the calibration items that wait for it (R10, R464). -/
theorem rwbBoundary_takes {k : Boundary} {u : Nat} (hu : boundaryUnit s k u = true) :
    Completes (.rwbBoundary k u) s fun t =>
      (∀ f ∈ boundaryFields k u, inForce t f = Machine.get s f) ∧
      t = takeCal (boundaryItem k u) { s with force := (takeForces (boundaryFields k u) s).force } ∧
      ((∀ x ∈ s.cal.fresh, boundaryItem k u x = false) →
        (∀ g : Fld, g.key ∉ (boundaryFields k u).map Fld.key → inForce t g = inForce s g) ∧ t = { s with force := t.force }) := by
  obtain ⟨hnodup, hbelow⟩ := boundaryFields_keys hu
  obtain ⟨r, hforce⟩ := takeForces_force (boundaryFields k u) s
  refine completes_rwbBoundary hu ⟨fun f hf => ?_, by rw [hforce], fun hfresh => ?_⟩
  · rw [inForce_takeCal_below (hbelow f hf), inForce_takeForces_of_mem hnodup hf]
  · have hcal : takeCal (boundaryItem k u) (takeForces (boundaryFields k u) s) = takeForces (boundaryFields k u) s :=
      takeCal_of_none (by rwa [hforce])
    rw [hcal]
    exact ⟨fun g hg => inForce_takeForces_of_notMem hg s, by rw [hforce]⟩

end clauses

/-- Settles O1: each clause by the lemma about the access it speaks of. -/
theorem registerAccesses : Obligations.RegisterAccesses := by
  unfold Obligations.RegisterAccesses
  refine ⟨?_, ?_, ?_, ?_, ?_, ?_, ?_, ?_, ?_, ?_, ?_, ?_, ?_, ?_, ?_, ?_, ?_, ?_, ?_, ?_, ?_, ?_⟩
  · exact fun s rq off v hr ho hw he => completes_registerWrite hr ho (windowWrite_narrow he hw)
  · exact fun s rq off v hr ho hw he => completes_registerWrite hr ho (windowWrite_wide he hw)
  · exact fun s w v f k => ⟨fun hf a ha => get_writePlace_plain hf ha, get_writePlace_w1c s w v f k, fun a ha => writePlace_fixed ha⟩
  · exact fun s rq v i hr hi he => completes_registerWrite hr (by omega) (windowWrite_scratch hi he)
  · exact fun s rq v hr he => completes_registerWrite hr (by decide) (windowWrite_plpEvt he)
  · exact fun s rq reg hr ho ha hw he => lowHalfRead_latches hr ho ha hw he
  · exact fun s rq reg v hr ho ha hw he hl => highHalfRead_spends hr ho ha hw he hl
  · exact fun s rq reg hr ho ha hw he hl => highHalfRead_unlatched hr ho ha hw he hl
  · exact fun s rq reg v hr ho ha hw he => lowHalfWrite_holds hr ho ha hw he
  · exact fun s rq reg v hr ho ha hw he => completes_highHalfWrite hr ho (windowWrite_highHalf he hw ha)
  · exact fun s rq v lo hr he hh hlo => highHalfWrite_expSel hr he hh hlo
  · exact fun s rq reg v hr ho hw he => completes_full64BitAccess hr (by omega) (windowWrite_wide he hw)
  · exact fun s rq v hr he => full64BitAccess_expSel hr he
  · exact fun s rq reg v hr ho hw he => completes_full64BitAccess hr (by omega) (by
      rw [if_neg Bool.false_ne_true, windowRead_wide he hw]; exact ⟨rfl, rfl⟩)
  · exact fun s rq off v sz w hr ho hrq he hd hv => accessError_records hr ho hrq he hd hv
  · exact fun s rq off v sz w hr ho he hd hv => accessError_overflows hr ho he hd hv
  · exact fun s rq off v hr ho ha hw hf => completes_accessError hr ho hf (windowWrite_twoWords ha hw)
  · exact accErrClear_clears
  · exact fun s off v sz hd ho => ⟨completes_debugPort hd ho rfl, completes_debugPort hd ho rfl⟩
  · exact fun s i v hd hi he => completes_debugPort hd (by omega) (windowWrite_scratch hi he)
  · exact fun s off v sz hd => ⟨completes_debugPort_inactive hd rfl, completes_debugPort_inactive hd rfl⟩
  · exact fun s k u hu => rwbBoundary_takes hu

end Sys2Proof.Proofs
end

section
/-! SUPPORT. A further access error (R27): what the checks of an access rest on, and that no write of a 32-bit register reaches it. -/

namespace Sys2Proof.Proofs

open Sys2Proof.Machine Sys2Proof.Laws

/-! ### The fields behind the checks -/

/-- The fields that the checks of an access and the record of its faults rest on (R12, R26, R27, R490). -/
def guardFields : List Fld :=
  [F.GLB_ACC_ERR_OFFSET, F.GLB_ACC_ERR_REQ, F.GLB_ACC_ERR_KIND, F.GLB_ACC_ERR_WRITE, F.GLB_ACC_ERR_OVERFLOW, F.GLB_ACC_ERR_VALID,
    F.GLB_INST_HEAD, F.GLB_INST_BAY, F.GLB_INST_MISC_CAROUSELS, F.GLB_INST_MISC_DDR_CH, F.GLB_ARB_COUNT_ARBOURS,
    F.FUS_STATUS_SEALED, F.TAB_STATUS_SELECTED]

/-- These fields read alike in two states. -/
def SameGuard (s t : State) : Prop := ∀ f ∈ guardFields, Machine.get t f = Machine.get s f

theorem sameGuard_refl (s : State) : SameGuard s s := fun _ _ => rfl

theorem SameGuard.trans {s t u : State} (h : SameGuard s t) (k : SameGuard t u) : SameGuard s u :=
  fun f hf => (k f hf).trans (h f hf)

/-- They all lie below the heads' blocks, and none of them is the log's head. -/
theorem guardFields_low : ∀ f ∈ guardFields, f.key + 64 < 8 * 0x1000000 ∧ f.key ≠ F.EVT_LOG_HEAD.key := by decide

theorem sameGuard_put {s : State} {f : Fld} {v : Nat} (h : ∀ g ∈ guardFields, f.key ≠ g.key) : SameGuard s (put f v s) :=
  fun g hg => get_put_ne f g v s (Ne.symm (h g hg))

/-- A write from the heads' blocks up leaves them. -/
theorem sameGuard_put_high {s : State} {f : Fld} {v : Nat} (h : 8 * 0x1000000 ≤ f.key) : SameGuard s (put f v s) :=
  sameGuard_put fun g hg e => by have := (guardFields_low g hg).1; omega

theorem sameGuard_edge (src : Nat) (was : Bool) (s : State) : SameGuard s (edge src was s) := by
  obtain ⟨_, _, _, hg⟩ := edge_cases src was s
  exact fun f hf => hg f (guardFields_low f hf).2

theorem sameGuard_raise_high {s : State} {e : EvReg} (i : Nat) (h : 8 * 0x1000000 ≤ e.evt.key) : SameGuard s (raise e i s) :=
  fun f hf => by
    obtain ⟨hlow, hlog⟩ := guardFields_low f hf
    exact get_raise_ne e i s f hlog (by omega)

theorem sameGuard_forAll {l : List Nat} {f : Nat → State → State} {s : State} (h : ∀ i t, SameGuard t (f i t)) :
    SameGuard s (forAll l f s) :=
  forAll_induct (SameGuard s) f l s (sameGuard_refl s) fun i t _ ht => ht.trans (h i t)

/-- An access has the same fault in both states. -/
theorem SameGuard.accessErr {s t : State} (h : SameGuard s t) (off : Nat) (sz : AccessSize) (w : Bool) :
    accessErr t off sz w = accessErr s off sz w := by
  have hinst (off : Nat) : inAbsentUnit t off = inAbsentUnit s off := by
    simp only [inAbsentUnit, bayInst, carInst, h F.GLB_INST_BAY (by decide), h F.GLB_INST_MISC_CAROUSELS (by decide)]
  have hunit (k : RegBlock) (i : Nat) : unitThere t k i = unitThere s k i := by
    simp only [unitThere, headInst, bayInst, carInst, arbInst, ddrInst, h F.GLB_INST_HEAD (by decide),
      h F.GLB_INST_BAY (by decide), h F.GLB_INST_MISC_CAROUSELS (by decide), h F.GLB_INST_MISC_DDR_CH (by decide),
      h F.GLB_ARB_COUNT_ARBOURS (by decide), h F.TAB_STATUS_SELECTED (by decide)]
  have hseal : isSet t F.FUS_STATUS_SEALED = isSet s F.FUS_STATUS_SEALED := by
    simp only [isSet, h F.FUS_STATUS_SEALED (by decide)]
  simp only [Machine.accessErr, hinst, hunit, hseal]

/-! ### Words written to 32-bit registers -/

/-- The access codes by which a write changes a field (R2). -/
def writable : List Access := [.rw, .rwb, .rwl, .w1c]

theorem rowWidth_le : ∀ k ∈ regBlocks, ∀ r ∈ k.rows, r.width ≤ 64 := by decide +kernel

/-- A place of a word has a bit in it, and is no wider than a register. -/
theorem placesAt_spec {off : Nat} {p : Place} (h : p ∈ placesAt off) : p.fld.inWord off = true ∧ p.fld.width ≤ 64 := by
  unfold placesAt at h
  split at h
  · cases h
  · rename_i k _ o hk
    obtain ⟨l, hl, hp⟩ := List.mem_flatten.1 h
    obtain ⟨r, hr, rfl⟩ := List.mem_map.1 hl
    obtain ⟨hp, hin⟩ := List.mem_filter.1 hp
    obtain ⟨i, _, rfl⟩ := List.mem_map.1 hp
    obtain ⟨k', hmem, hk'⟩ := List.exists_of_findSome?_eq_some hk
    split at hk'
    · cases hk'
    · cases hk'
      exact ⟨hin, rowWidth_le k hmem r hr⟩

/-- Of the words near the guarded fields, only the 64-bit GLB.ACC_ERR holds one of them that a write changes. -/
theorem guardFields_readOnly : ∀ g ∈ guardFields, ∀ j < 3, isWide (4 * (g.key / 32 + j)) = false →
    ∀ p ∈ placesAt (4 * (g.key / 32 + j)), p.access ∈ writable → p.fld.key ≠ g.key := by decide +kernel

/-- A field that a word of a 32-bit register can change is none of the guarded ones. -/
theorem writable_place_unguarded {off : Nat} {p : Place} (ha : off % 4 = 0) (hw : isWide off = false) (hp : p ∈ placesAt off)
    (hacc : p.access ∈ writable) : ∀ g ∈ guardFields, p.fld.key ≠ g.key := fun g hg e => by
  obtain ⟨hin, hwidth⟩ := placesAt_spec hp
  simp only [Fld.inWord, Bool.and_eq_true, decide_eq_true_eq] at hin
  obtain ⟨hlo, hhi⟩ := hin
  obtain ⟨j, hj, rfl⟩ : ∃ j < 3, off = 4 * (g.key / 32 + j) := ⟨off / 4 - g.key / 32, by omega, by omega⟩
  exact guardFields_readOnly g hg j hj hw p hp hacc e

theorem sameGuard_writePlace {s : State} {w v : Nat} {p : Place} (h : p.access ∈ writable → ∀ g ∈ guardFields, p.fld.key ≠ g.key) :
    SameGuard s (writePlace w v p s) := by
  obtain ⟨f, a, k⟩ := p
  cases a
  case ro | wo | w1s => exact sameGuard_refl s
  all_goals exact sameGuard_put (h (by simp [writable]))

theorem sameGuard_permits (h : Nat) (s : State) : SameGuard s (permits h s) :=
  ((sameGuard_put_high (by simp [Fld.key, F.WRP_STATUS_WRITE_PERMIT]; omega)).trans
    (sameGuard_put_high (by simp [Fld.key, F.CH_STATUS_READ_PERMIT]; omega))).trans
    (sameGuard_put_high (by simp [Fld.key, F.SV_STATUS_ON_TRACK]; omega))

theorem sameGuard_judgeSpeed (h : Nat) (s : State) : SameGuard s (judgeSpeed h s) := by
  have hok (v : Bool) : SameGuard s (putB (F.CH_STATUS_SPEED_OK h) v s) :=
    sameGuard_put_high (by simp [Fld.key, F.CH_STATUS_SPEED_OK]; omega)
  simp only [judgeSpeed]
  split
  · exact ((hok _).trans (sameGuard_raise_high _ (by simp [evCH, Fld.key, F.CH_EVT]; omega))).trans (sameGuard_permits h _)
  · exact (hok _).trans (sameGuard_permits h _)

/-- What follows a write of a word keeps the guarded fields. -/
theorem sameGuard_afterWrite (old : State) (k : RegBlock) (off o : Nat) (s : State) : SameGuard s (afterWrite old k off o s) := by
  refine SameGuard.trans ?_ (sameGuard_forAll fun src t => sameGuard_edge src _ t)
  split_ifs
  · exact sameGuard_judgeSpeed _ s
  · exact sameGuard_permits _ s
  · exact sameGuard_refl s
  · exact sameGuard_forAll fun m t => sameGuard_put_high (by simp [Fld.key, F.CELL_DEADLINE]; omega)
  · exact sameGuard_put_high (by simp [Fld.key, F.LE_CELL_EVT]; omega)
  · exact sameGuard_refl s

theorem poolCanon_eq_or_high (off : Nat) : poolCanon off = off ∨ 0x1000000 ≤ poolCanon off := by
  simp only [poolCanon]
  split_ifs <;> omega

/-- A word written to a 32-bit register keeps the guarded fields. -/
theorem sameGuard_applyWord {off : Nat} (ha : off % 4 = 0) (hw : isWide off = false) (v : Nat) (s : State) :
    SameGuard s (applyWord off v s) := by
  have hplace : ∀ p ∈ placesAt (poolCanon off), p.access ∈ writable → ∀ g ∈ guardFields, p.fld.key ≠ g.key := by
    intro p hp hacc
    rcases poolCanon_eq_or_high off with hc | hc
    · exact writable_place_unguarded ha hw (hc ▸ hp) hacc
    · intro g hg e
      obtain ⟨hin, hwidth⟩ := placesAt_spec hp
      simp only [Fld.inWord, Bool.and_eq_true, decide_eq_true_eq] at hin
      have := (guardFields_low g hg).1
      omega
  have hfold (l : List Place) (hl : ∀ p ∈ l, p ∈ placesAt (poolCanon off)) (t : State) :
      SameGuard t (l.foldl (fun t p => writePlace (poolCanon off) v p t) t) := by
    induction l generalizing t with
    | nil => exact sameGuard_refl t
    | cons p l ih =>
      exact (sameGuard_writePlace (hplace p (hl p (List.mem_cons_self ..)))).trans
        (ih (fun q hq => hl q (List.mem_cons_of_mem _ hq)) _)
  simp only [applyWord]
  split
  · exact sameGuard_refl s
  · exact (hfold _ (fun p hp => (List.mem_filter.1 hp).1) s).trans (sameGuard_afterWrite _ _ _ _ _)

/-! ### Further errors -/

section further
variable {s t u : State} {rq off v : Nat} {sz : AccessSize} {w : Bool}

theorem keepsFirstError_put (hv : Machine.get s F.GLB_ACC_ERR_VALID = 1) : KeepsFirstError s (put F.GLB_ACC_ERR_OVERFLOW 1 s) := by
  refine ⟨get_put_same .., ?_, ?_, ?_, ?_, ?_⟩ <;> rw [get_put_ne _ _ _ _ (by decide)]
  exact hv

theorem keepsFirstError_recordError {kind : Nat} (hv : Machine.get s F.GLB_ACC_ERR_VALID = 1) :
    KeepsFirstError s (recordError rq off kind w s) := recordError_further hv ▸ keepsFirstError_put hv

theorem keepsFirstError_trans (h : KeepsFirstError s t) (k : KeepsFirstError t u) : KeepsFirstError s u := by
  obtain ⟨-, -, ho, hr, hk, hw⟩ := h
  obtain ⟨kv, kf, ko, kr, kk, kw⟩ := k
  exact ⟨kv, kf, ko.trans ho, kr.trans hr, kk.trans hk, kw.trans hw⟩

theorem SameGuard.keepsFirstError (h : SameGuard s t) (k : KeepsFirstError t u) : KeepsFirstError s u := by
  obtain ⟨kf, kv, ko, kr, kk, kw⟩ := k
  exact ⟨kf, kv, ko.trans (h _ (by decide)), kr.trans (h _ (by decide)), kk.trans (h _ (by decide)), kw.trans (h _ (by decide))⟩

/-- The kept record stays as it is while the guarded fields do. -/
theorem keepsFirstError_sameGuard (h : KeepsFirstError s t) (k : SameGuard t u) : KeepsFirstError s u := by
  have ⟨hf, hv, _⟩ := h
  exact keepsFirstError_trans h
    ⟨(k _ (by decide)).trans hf, (k _ (by decide)).trans hv, k _ (by decide), k _ (by decide), k _ (by decide), k _ (by decide)⟩

/-- What an access of the word at `off` does while VALID is 1: a faulty one keeps the first error, any other the guarded fields. -/
def WordAccess (off : Nat) (w : Bool) (f : State → State) : Prop :=
  ∀ s, Machine.get s F.GLB_ACC_ERR_VALID = 1 →
    (accessErr s off .word w ≠ 0 → KeepsFirstError s (f s)) ∧ (accessErr s off .word w = 0 → SameGuard s (f s))

theorem wordAccess_writeOne (ha : off % 4 = 0) (hw : isWide off = false) : WordAccess off true (writeOne rq off v) := by
  refine fun s hv => ⟨fun he => ?_, fun he => ?_⟩
  · simpa only [writeOne, if_pos he] using keepsFirstError_recordError hv
  · simpa [writeOne, he, hw] using sameGuard_applyWord ha hw v s

theorem wordAccess_readOne (hw : isWide off = false) : WordAccess off false fun s => (readOne rq off s).2 := by
  refine fun s hv => ⟨fun he => ?_, fun he => ?_⟩
  · simpa only [readOne, if_pos he] using keepsFirstError_recordError hv
  · simpa [readOne, he, hw] using sameGuard_refl s

/-- Of two words, one of which is faulty, the first to be accessed neither mends nor hides the other's fault. -/
theorem keepsFirstError_twoWords {a b : Nat} {f g : State → State} (hf : WordAccess a w f) (hg : WordAccess b w g)
    (hv : Machine.get s F.GLB_ACC_ERR_VALID = 1) (he : accessErr s a .word w ≠ 0 ∨ accessErr s b .word w ≠ 0) :
    KeepsFirstError s (g (f s)) := by
  obtain ⟨hfault, hclean⟩ := hf s hv
  by_cases ha : accessErr s a .word w = 0
  · have hs := hclean ha
    obtain ⟨hgfault, -⟩ := hg (f s) ((hs _ (by decide)).trans hv)
    refine hs.keepsFirstError (hgfault ?_)
    rw [hs.accessErr]
    exact he.resolve_left (not_not_intro ha)
  · have hk := hfault ha
    have ⟨_, hv', _⟩ := hk
    obtain ⟨hgfault, hgclean⟩ := hg (f s) hv'
    by_cases hb : accessErr (f s) b .word w = 0
    · exact keepsFirstError_sameGuard hk (hgclean hb)
    · exact keepsFirstError_trans hk (hgfault hb)

/-- The size of an aligned access does not bear on its fault. -/
theorem accessErr_dword_eq_word (ha : off % 8 = 0) (s : State) (w : Bool) : accessErr s off .dword w = accessErr s off .word w := by
  have h4 : off % 4 = 0 := by omega
  simp [accessErr, AccessSize.bytes, ha, h4]

/-- The second word of an aligned 8 bytes is as wide a register's as the first (R3). -/
theorem isWide_add_four (ha : off % 8 = 0) : isWide (off + 4) = isWide off := by
  have hb : (off + 4) - (off + 4) % 8 = off - off % 8 := by omega
  have hc : (off + 4 - 0x800) - (off + 4 - 0x800) % 8 = off - 0x800 - (off - 0x800) % 8 := by omega
  have hr : (0x7080900 ≤ off + 4 ∧ off + 4 < 0x7080f00) ↔ (0x7080900 ≤ off ∧ off < 0x7080f00) := by omega
  simp only [isWide, hr]
  split <;> simp only [hb, hc]

/-- An aligned 8-byte read over two 32-bit registers leaves what two word reads leave (R6). -/
theorem readWindow_twoWords_state (ha : off % 8 = 0) (hw : isWide off = false) :
    (readWindow rq off .dword s).2 = (readOne rq (off + 4) (readOne rq off s).2).2 := by
  simp [readWindow, AccessSize.bytes, ha, hw]

/-- A fault of an aligned 8-byte access over two 32-bit registers is a fault of one of its words. -/
theorem word_fault_of_isFaulty (ha : off % 8 = 0) (hf : isFaulty s off .dword w = true) :
    accessErr s off .word w ≠ 0 ∨ accessErr s (off + 4) .word w ≠ 0 := by
  simp only [isFaulty, accessErr_dword_eq_word ha, Bool.or_eq_true, Bool.and_eq_true, decide_eq_true_eq] at hf
  exact hf.imp_right fun h => h.2

/-- A faulty access of any size and direction keeps the first error (R27). -/
theorem keepsFirstError_faultyAccess (hv : Machine.get s F.GLB_ACC_ERR_VALID = 1) (hf : isFaulty s off sz w = true) :
    KeepsFirstError s (if w then windowWrite rq off sz v s else windowRead rq off sz s) := by
  by_cases hd : sz = .dword ∧ off % 8 = 0 ∧ isWide off = false
  · obtain ⟨rfl, ha, hw⟩ := hd
    have hwide : isWide (off + 4) = false := (isWide_add_four ha).trans hw
    have he := word_fault_of_isFaulty ha hf
    cases w with
    | true =>
      rw [if_pos rfl, windowWrite_twoWords ha hw, windowWrite_word (by omega), windowWrite_word (by omega)]
      exact keepsFirstError_twoWords (wordAccess_writeOne (by omega) hw) (wordAccess_writeOne (by omega) hwide) hv he
    | false =>
      have hk := keepsFirstError_twoWords (wordAccess_readOne (rq := rq) hw) (wordAccess_readOne (rq := rq) hwide) hv he
      rw [if_neg Bool.false_ne_true, windowRead]
      rwa [← readWindow_twoWords_state ha hw] at hk
  · have hone : sz = .dword → off % 8 ≠ 0 ∨ isWide off = true := by
      intro hs
      simpa [hs, or_iff_not_imp_left] using hd
    have he : accessErr s off sz w ≠ 0 := by
      intro h0
      obtain ⟨rfl, hw, -⟩ : sz = .dword ∧ isWide off = false ∧ accessErr s (off + 4) .word w ≠ 0 := by
        simpa [isFaulty, h0, and_assoc] using hf
      exact hd ⟨rfl, (aligned_of_accessErr_eq_zero h0).2, hw⟩
    rw [faultyAccess_eq he hone]
    exact keepsFirstError_recordError hv

end further

/-- Settles O58: each command's access is one of the window's, and a faulty one keeps the first error. -/
theorem furtherAccessErrorsSetOverflow : Obligations.FurtherAccessErrorsSetOverflow := by
  unfold Obligations.FurtherAccessErrorsSetOverflow
  refine ⟨?_, ?_, ?_, ?_, ?_, ?_, ?_, ?_⟩
  · exact fun s rq off v sz w hv hr ho hf => completes_accessError hr ho hf (keepsFirstError_faultyAccess hv hf)
  · exact fun s rq off v sz hv hr ho hf => completes_registerWrite hr ho (keepsFirstError_faultyAccess (w := true) hv hf)
  · exact fun s rq off v w hv hr ho hf => completes_full64BitAccess hr ho (keepsFirstError_faultyAccess hv hf)
  · exact fun s off v sz w hv hd ho hf => completes_debugPort (of_decide_eq_true hd) ho (keepsFirstError_faultyAccess hv hf)
  · exact fun s rq reg hv hr ho hf =>
      completes_lowHalfRead hr (by omega) (keepsFirstError_faultyAccess (w := false) (v := 0) hv hf)
  · exact fun s rq reg hv hr ho hf => completes_highHalfRead hr ho (keepsFirstError_faultyAccess (w := false) (v := 0) hv hf)
  · exact fun s rq reg v hv hr ho hf => completes_lowHalfWrite hr (by omega) (keepsFirstError_faultyAccess (w := true) hv hf)
  · exact fun s rq reg v hv hr ho hf => completes_highHalfWrite hr ho (keepsFirstError_faultyAccess (w := true) hv hf)

end Sys2Proof.Proofs
end

section
/-! SUPPORT. The control tree (R16, R17, R22, R522): in what order the tree carries its operations out, what an epoch switch changes,
and what the reset of a subtree brings to its reset value. -/

namespace Sys2Proof.Proofs

open Sys2Proof.Machine Sys2Proof.Laws

/-! ### The order of the operations -/

section order
variable {kept : List TreeOp} {op : TreeOp} {s : State} {a : Nat}

theorem treeRun_barrier (rest : List TreeOp) (h : op.kind = .barrier) : treeRun kept (op :: rest) s = treeRun (kept ++ [op]) rest s := by
  simp [treeRun, h]

/-- An operation that meets one that waits, waits. -/
theorem treeRun_held (rest : List TreeOp) (h : ∃ x ∈ kept, treeMeet s x.arbour op.arbour = true) :
    treeRun kept (op :: rest) s = treeRun (kept ++ [op]) rest s := by
  have : (kept.any fun x => treeMeet s x.arbour op.arbour) = true := List.any_eq_true.2 h
  simp [treeRun, this]

/-- An operation that meets none of those that wait is carried out. -/
theorem treeRun_free (rest : List TreeOp) (hk : op.kind ≠ .barrier) (h : ∀ x ∈ kept, treeMeet s x.arbour op.arbour = false) :
    treeRun kept (op :: rest) s = treeRun kept rest (treeDeliver op s) := by
  have : (kept.any fun x => treeMeet s x.arbour op.arbour) = false := by simpa using h
  simp [treeRun, hk, this]

/-- Barriers wait, in the order of their arrival. -/
theorem treeRun_barriers {l : List TreeOp} (rest : List TreeOp) (h : ∀ x ∈ l, x.kind = .barrier) :
    treeRun kept (l ++ rest) s = treeRun (kept ++ l) rest s := by
  induction l generalizing kept with
  | nil => rw [List.nil_append, List.append_nil]
  | cons x l ih =>
    obtain ⟨hx, hl⟩ := List.forall_mem_cons.1 h
    rw [List.cons_append, treeRun_barrier _ hx, ih hl, List.append_assoc, List.singleton_append]

/-- A property that a delivery and a change of the queue keep is kept by the run of the queue. -/
theorem treeRun_induct {P : State → Prop} (hd : ∀ op t, P t → P (treeDeliver op t)) (hq : ∀ l t, P t → P { t with tree := l })
    (l : List TreeOp) (h : P s) : P (treeRun kept l s) := by
  induction l generalizing kept s with
  | nil => exact hq kept s h
  | cons op l ih =>
    rw [treeRun]
    split
    · exact ih h
    · exact ih (hd op s h)

theorem treeIssue_eq (k : TreeKind) (ha : arbInst s a = true) : treeIssue k a s = treeRun [] (s.tree ++ [⟨k, a⟩]) s := if_pos ha

/-- An operation that meets none of the waiting barriers is carried out at once. -/
theorem treeIssue_free {k : TreeKind} (hk : k ≠ .barrier) (ha : arbInst s a = true)
    (h : ∀ x ∈ s.tree, x.kind = .barrier ∧ treeMeet s x.arbour a = false) :
    treeIssue k a s = { treeDeliver ⟨k, a⟩ s with tree := s.tree } := by
  rw [treeIssue_eq k ha, treeRun_barriers _ fun x hx => (h x hx).1, List.nil_append,
    treeRun_free [] hk fun x hx => (h x hx).2]
  rfl

/-- An operation that meets a waiting barrier waits behind it. -/
theorem treeIssue_held {k : TreeKind} (ha : arbInst s a = true) (hb : ∀ x ∈ s.tree, x.kind = .barrier)
    (h : ∃ x ∈ s.tree, treeMeet s x.arbour a = true) : treeIssue k a s = { s with tree := s.tree ++ [⟨k, a⟩] } := by
  rw [treeIssue_eq k ha, treeRun_barriers _ hb, List.nil_append, treeRun_held [] h]
  rfl

/-- A barrier waits even where none waits before it. -/
theorem treeIssue_barrier (ha : arbInst s a = true) (hb : ∀ x ∈ s.tree, x.kind = .barrier) :
    treeIssue .barrier a s = { s with tree := s.tree ++ [⟨.barrier, a⟩] } := by
  rw [treeIssue_eq _ ha, treeRun_barriers _ hb, List.nil_append, treeRun_barrier [] rfl]
  rfl

end order

/-! ### The epoch switch -/

/-- An event for the host changes what the host's side holds and nothing else (R410). -/
theorem notifyFn_host (code fn : Nat) (s : State) : ∃ h, notifyFn code fn s = { s with host := h } := by
  unfold notifyFn
  split
  · exact ⟨s.host, rfl⟩
  · split
    · exact ⟨_, rfl⟩
    · exact ⟨_, rfl⟩

theorem reportCut_lib_host (kind hd v : Nat) (s : State) : ∃ l h, reportCut kind hd v s = { s with lib := l, host := h } := by
  simp only [reportCut, notify, pageChanged]
  split
  · obtain ⟨_, h0⟩ := notifyFn_host 0x783 0 _
    rw [h0]
    obtain ⟨_, h1⟩ := notifyFn_host 0x783 1 _
    rw [h1]
    exact ⟨_, _, rfl⟩
  · exact ⟨_, _, rfl⟩

/-- An epoch switch opens the next epoch; beside that it changes the library and the host's side (R293). -/
theorem switchEpoch_eq (forced : Bool) (s : State) :
    ∃ l h, switchEpoch forced s = { put F.ARB_EPOCH (Machine.get s F.ARB_EPOCH + 1) s with lib := l, host := h } := by
  simp only [switchEpoch, closePages]
  split
  · obtain ⟨_, _, hr⟩ := reportCut_lib_host 4 0xffff (Machine.get s F.ARB_EPOCH + 1) _
    rw [hr]
    exact ⟨_, _, rfl⟩
  · exact ⟨_, s.host, rfl⟩

theorem get_switchEpoch_epoch (forced : Bool) (s : State) :
    Machine.get (switchEpoch forced s) F.ARB_EPOCH = trunc F.ARB_EPOCH.width (Machine.get s F.ARB_EPOCH + 1) := by
  obtain ⟨_, _, h⟩ := switchEpoch_eq forced s
  rw [h]
  exact get_put_same F.ARB_EPOCH _ s

theorem switchEpoch_treeDone (forced : Bool) (s : State) : (switchEpoch forced s).treeDone = s.treeDone := by
  obtain ⟨_, _, h⟩ := switchEpoch_eq forced s
  rw [h]
  rfl

/-! ### The reset of a head -/

/-- Nothing has changed but the decoder pools and the registers of the heads' blocks, where the pools' lie (R134). -/
def PoolsOnly (s t : State) : Prop :=
  (∃ r p, t = { s with regs := r, pools := p }) ∧ OnlyFieldsBeside 0x1000000 0x2000000 s t []

theorem PoolsOnly.trans {s t u : State} (h : PoolsOnly s t) (k : PoolsOnly t u) : PoolsOnly s u := by
  obtain ⟨⟨_, _, rfl⟩, hf⟩ := h
  obtain ⟨⟨r, p, rfl⟩, kf⟩ := k
  exact ⟨⟨r, p, rfl⟩, fun f hb hn => (kf f hb hn).trans (hf f hb hn)⟩

theorem poolsOnly_refl (s : State) : PoolsOnly s s := ⟨⟨s.regs, s.pools, rfl⟩, fun _ _ _ => rfl⟩

theorem poolsOnly_updPool (q : Nat) (f : Pool → Pool) (s : State) : PoolsOnly s (updPool q f s) :=
  ⟨⟨_, _, rfl⟩, fun _ _ _ => rfl⟩

theorem poolsOnly_put {f : Fld} (hlo : 8 * 0x1000000 ≤ f.key) (hhi : f.key < 8 * 0x2000000) (v : Nat) (s : State) :
    PoolsOnly s (put f v s) :=
  ⟨⟨_, _, rfl⟩, fun g hb _ => get_put_ne f g v s (by omega)⟩

theorem poolsOnly_partnerCtl {q : Nat} (hq : q < 16) (s : State) : PoolsOnly s (partnerCtl q s) := by
  unfold partnerCtl
  split
  · exact poolsOnly_put (by simp [Fld.key, F.CH_POOL_CTRL_PARTNER_EN]; omega) (by simp [Fld.key, F.CH_POOL_CTRL_PARTNER_EN]; omega) _ s
  · exact poolsOnly_refl s

theorem xor_one_lt {q : Nat} (hq : q < 16) : q ^^^ 1 < 16 := Nat.xor_lt_two_pow (n := 4) hq (by decide)

theorem poolsOnly_enginesReset {h : Nat} (hh : h < 64) (old fault fence : Nat) (s : State) :
    PoolsOnly s (enginesReset h old fault fence s) := by
  have hq : h / 4 < 16 := by omega
  refine PoolsOnly.trans ?_ ((poolsOnly_partnerCtl hq _).trans (poolsOnly_partnerCtl (xor_one_lt hq) _))
  refine PoolsOnly.trans ?_ (poolsOnly_put ?_ ?_ _ _)
  · refine PoolsOnly.trans (poolsOnly_put ?_ ?_ _ s) (poolsOnly_put ?_ ?_ _ _)
    all_goals
      simp only [Fld.key, F.CH_POOL_FAULT, F.CH_POOL_FENCE]
      omega
  all_goals
    simp only [Fld.key, F.CH_POOL_STATUS_ENGINES]
    omega

theorem poolsOnly_poolDepth {q : Nat} (hq : q < 16) (s : State) : PoolsOnly s (poolDepth q s) := by
  refine PoolsOnly.trans (PoolsOnly.trans (poolsOnly_updPool q _ s) (poolsOnly_put ?_ ?_ _ _)) (poolsOnly_put ?_ ?_ _ _)
  all_goals
    simp only [Fld.key, F.CH_POOL_STATUS_DEPTH, F.CH_POOL_PEAK]
    omega

/-- What the reset of head `h` changes beside the pools: the registers of the heads' blocks, and head `h`, which holds nothing
afterwards (R22, R522). -/
structure HeadReset (h : Nat) (s t : State) : Prop where
  loaded   : t.loaded = s.loaded
  buses    : t.buses = s.buses
  spindles : t.spindles = s.spindles
  heads    : t.heads = mapPut s.heads h {}
  regs     : ∀ f : Fld, 8 * 0x2000000 ≤ f.key → Machine.get t f = Machine.get s f

/-- The pools' changes before and after the head's own. -/
theorem headReset_between {h : Nat} {s t u v : State} (hs : PoolsOnly s t) (ht : HeadReset h t u) (hu : PoolsOnly u v) :
    HeadReset h s v := by
  obtain ⟨⟨_, _, rfl⟩, hf⟩ := hs
  obtain ⟨⟨_, _, rfl⟩, kf⟩ := hu
  exact ⟨ht.loaded, ht.buses, ht.spindles, ht.heads, fun f hk =>
    (kf f (Or.inr hk) (by simp)).trans ((ht.regs f hk).trans (hf f (Or.inr hk) (by simp)))⟩

theorem headReset_own {h : Nat} (hh : h < 64) (s : State) :
    HeadReset h s (updHead h (fun _ => {}) (resetWindow (0x1000000 + h * 0x40000) (0x1000000 + h * 0x40000 + 0x40000) s)) :=
  ⟨rfl, rfl, rfl, rfl, fun f hk => by rw [get_updHead, get_resetWindow, if_neg (by omega)]⟩

theorem headReset_resetHead {h : Nat} (hh : h < 64) (s : State) : HeadReset h s (resetHead h s) := by
  have hq : h / 4 < 16 := by omega
  exact headReset_between ((poolsOnly_updPool _ _ s).trans (poolsOnly_updPool _ _ _)) (headReset_own hh _)
    ((poolsOnly_enginesReset hh _ _ _ _).trans ((poolsOnly_poolDepth hq _).trans (poolsOnly_poolDepth (xor_one_lt hq) _)))

/-! ### The reset of a bay -/

/-- What the reset of bay `i` changes beside the pools, the mounts and the axes: its window and the heads' blocks, its link, its
spindle and its two heads, which hold nothing afterwards (R22, R522). -/
structure BayReset (i : Nat) (s t : State) : Prop where
  loaded   : t.loaded = s.loaded
  buses    : t.buses = mapErase s.buses i
  spindles : t.spindles = mapErase s.spindles i
  heads    : t.heads = mapPut (mapPut s.heads (2 * i) {}) (2 * i + 1) {}
  regs     : ∀ f : Fld, 8 * 0x2000000 ≤ f.key → Machine.get t f
    = if 8 * (0x3000000 + i * 0x10000) ≤ f.key ∧ f.key < 8 * (0x3000000 + i * 0x10000 + 0x10000) then deflt s f else Machine.get s f

/-- The reset of the bay's own parts, then of its heads. -/
theorem bayReset_resetBay {i : Nat} (hi : i < 32) (s : State) : BayReset i s (resetBay i s) := by
  obtain ⟨u, hu, hloaded, hbuses, hspindles, hheads, hregs⟩ : ∃ u, resetBay i s = resetHead (2 * i + 1) (resetHead (2 * i) u) ∧
      u.loaded = s.loaded ∧ u.buses = mapErase s.buses i ∧ u.spindles = mapErase s.spindles i ∧ u.heads = s.heads ∧
      ∀ f, Machine.get u f = if 8 * (0x3000000 + i * 0x10000) ≤ f.key ∧ f.key < 8 * (0x3000000 + i * 0x10000 + 0x10000)
        then deflt s f else Machine.get s f := ⟨_, rfl, rfl, rfl, rfl, rfl, get_resetWindow _ _ _⟩
  have h0 := headReset_resetHead (h := 2 * i) (by omega) u
  have h1 := headReset_resetHead (h := 2 * i + 1) (by omega) (resetHead (2 * i) u)
  rw [hu]
  exact ⟨h1.loaded.trans (h0.loaded.trans hloaded), h1.buses.trans (h0.buses.trans hbuses),
    h1.spindles.trans (h0.spindles.trans hspindles), by rw [h1.heads, h0.heads, hheads],
    fun f hf => (h1.regs f hf).trans ((h0.regs f hf).trans (hregs f))⟩

/-- Bay `b` is at reset in `t`, by what was loaded in `s` (R22, R522). -/
structure BayAtReset (s : State) (b : Nat) (t : State) : Prop where
  loaded  : t.loaded = s.loaded
  motor   : Machine.get t (F.MOT_STATUS_STATE b) = deflt s (F.MOT_STATUS_STATE b)
  spindle : spinOf t b = {}
  link    : busOf t b = {}
  head0   : getHead t (2 * b) = {}
  head1   : getHead t (2 * b + 1) = {}

theorem mapGet_erase_default {α : Type} {d : Nat → α} {m : Map α} {j : Nat} (h : mapGet d m j = d j) (k : Nat) :
    mapGet d (mapErase m k) j = d j := by
  by_cases e : j = k
  · rw [e, mapGet_erase_same]
  · rw [mapGet_erase_ne d m k j e, h]

section bay
variable {s t u : State} {a b i : Nat}

/-- The part of the state on which it rests. -/
theorem BayAtReset.congr (h : BayAtReset s b t) (hl : u.loaded = t.loaded)
    (hr : Machine.get u (F.MOT_STATUS_STATE b) = Machine.get t (F.MOT_STATUS_STATE b)) (hs : u.spindles = t.spindles)
    (hb : u.buses = t.buses) (hh : u.heads = t.heads) : BayAtReset s b u := by
  obtain ⟨tl, tm, ts, tb, t0, t1⟩ := h
  exact ⟨hl.trans tl, hr.trans tm, by rwa [spinOf, hs], by rwa [busOf, hb], by rwa [getHead, hh], by rwa [getHead, hh]⟩

/-- A field that holds its default holds it after any block's reset. -/
theorem get_resetWindow_default {f : Fld} (hl : t.loaded = s.loaded) (h : Machine.get t f = deflt s f) (lo hi : Nat) :
    Machine.get (resetWindow lo hi t) f = deflt s f := by
  rw [get_resetWindow, h, deflt, deflt, hl, ite_self]

theorem motor_key_bounds (b : Nat) : 8 * (0x3000000 + b * 0x10000) ≤ (F.MOT_STATUS_STATE b).key ∧
    (F.MOT_STATUS_STATE b).key < 8 * (0x3000000 + b * 0x10000 + 0x10000) := by
  simp only [Fld.key, F.MOT_STATUS_STATE]
  omega

/-- A bay's reset brings it to reset. -/
theorem bayAtReset_resetBay_same (hb : b < 32) (hl : t.loaded = s.loaded) : BayAtReset s b (resetBay b t) := by
  obtain ⟨tl, tb, ts, th, tr⟩ := bayReset_resetBay hb t
  have hkey := motor_key_bounds b
  refine ⟨tl.trans hl, ?_, by rw [spinOf, ts, mapGet_erase_same], by rw [busOf, tb, mapGet_erase_same], ?_, ?_⟩
  · rw [tr _ (by omega), if_pos hkey, deflt, deflt, hl]
  · rw [getHead, th, mapGet_put, if_neg (by omega), mapGet_put, if_pos rfl]
  · rw [getHead, th, mapGet_put, if_pos rfl]

/-- The reset of any bay leaves at reset a bay that is. -/
theorem BayAtReset.resetBay (h : BayAtReset s b t) (hi : i < 32) : BayAtReset s b (resetBay i t) := by
  obtain ⟨tl, tb, ts, th, tr⟩ := bayReset_resetBay hi t
  have hkey := motor_key_bounds b
  refine ⟨tl.trans h.loaded, ?_, by rw [spinOf, ts]; exact mapGet_erase_default h.spindle i,
    by rw [busOf, tb]; exact mapGet_erase_default h.link i, ?_, ?_⟩
  · rw [tr _ (by omega), h.motor, deflt, deflt, h.loaded, ite_self]
  · rw [getHead, th, mapGet_put, mapGet_put, ← getHead, h.head0, ite_self, ite_self]
  · rw [getHead, th, mapGet_put, mapGet_put, ← getHead, h.head1, ite_self, ite_self]

/-- A walk that resets bays of which `b` is one leaves bay `b` at reset. -/
theorem bayAtReset_forAll_resetBay {l : List Nat} (hl : ∀ i ∈ l, i < 32) (hb : b ∈ l) (h : t.loaded = s.loaded) :
    BayAtReset s b (forAll l resetBay t) := by
  obtain ⟨l₁, l₂, rfl⟩ := List.append_of_mem hb
  have hb32 := hl b hb
  have hbefore : (forAll l₁ resetBay t).loaded = s.loaded :=
    forAll_induct (fun u => u.loaded = s.loaded) _ l₁ t h fun i u hi hu =>
      (bayReset_resetBay (hl i (List.mem_append_left _ hi)) u).loaded.trans hu
  have hat : BayAtReset s b (resetBay b (forAll l₁ resetBay t)) := bayAtReset_resetBay_same hb32 hbefore
  have hafter : BayAtReset s b (forAll l₂ resetBay (resetBay b (forAll l₁ resetBay t))) :=
    forAll_induct (BayAtReset s b) _ l₂ _ hat fun i u hi hu =>
      hu.resetBay (hl i (List.mem_append_right _ (List.mem_cons_of_mem _ hi)))
  simpa only [forAll, List.foldl_append, List.foldl_cons] using hafter

theorem BayAtReset.resetCarousel (h : BayAtReset s b t) (c : Nat) : BayAtReset s b (resetCarousel c t) :=
  ⟨h.loaded, get_resetWindow_default h.loaded h.motor _ _, h.spindle, mapGet_erase_default h.link (32 + c), h.head0, h.head1⟩

theorem BayAtReset.treeDeliver (h : BayAtReset s b t) (op : TreeOp) : BayAtReset s b (treeDeliver op t) := by
  unfold Machine.treeDeliver
  split
  · obtain ⟨_, _, he⟩ := switchEpoch_eq true t
    rw [he]
    exact h.congr rfl (get_put_ne F.ARB_EPOCH _ _ t (by simp only [Fld.key, F.MOT_STATUS_STATE, F.ARB_EPOCH]; omega)) rfl rfl rfl
  · exact h.congr rfl rfl rfl rfl rfl

/-! ### The reset of a subtree -/

theorem treeEnds_treeDone (l : List TreeOp) (r : Bool) (s : State) :
    ∃ d, l.foldl (fun t x => treeEnd x r t) s = { s with treeDone := d } := by
  induction l generalizing s with
  | nil => exact ⟨s.treeDone, rfl⟩
  | cons x l ih => exact ih (treeEnd x r s)

theorem baysBelow_lt (h : b ∈ baysBelow s a) : b < 32 := by
  obtain ⟨l, hl, hb⟩ := List.mem_flatten.1 h
  obtain ⟨x, _, rfl⟩ := List.mem_map.1 hl
  exact List.mem_range.1 (List.mem_filter.1 hb).1

/-- A subtree's reset brings every bay below its arbour to reset (R22, R522). -/
theorem bayAtReset_subtreeReset (hb : b ∈ baysBelow s a) : BayAtReset s b (subtreeReset a s) := by
  unfold subtreeReset
  extract_lets s1 hit s2
  have h1 : BayAtReset s b s1 :=
    forAll_induct (BayAtReset s b) _ _ _ (bayAtReset_forAll_resetBay (fun i hi => baysBelow_lt hi) hb rfl)
      fun c t _ ht => ht.resetCarousel c
  have h2 : BayAtReset s b s2 := by
    obtain ⟨_, he⟩ := treeEnds_treeDone hit true s1
    simp only [s2, he]
    exact h1.congr rfl rfl rfl rfl rfl
  have h3 := treeRun_induct (kept := []) (fun op t (ht : BayAtReset s b t) => ht.treeDeliver op)
    (fun l t ht => ht.congr rfl rfl rfl rfl rfl) (s2.tree.filter fun x => decide (x ∉ hit)) h2
  have hkey : (F.MOT_STATUS_STATE b).key ≠ F.PWR_RESET_CAUSE_KIND.key := by
    have := baysBelow_lt hb
    simp only [Fld.key, F.MOT_STATUS_STATE, F.PWR_RESET_CAUSE_KIND]
    omega
  exact h3.congr rfl (get_put_ne _ _ _ _ hkey) rfl rfl rfl

theorem get_subtreeReset_cause (a : Nat) (s : State) : Machine.get (subtreeReset a s) F.PWR_RESET_CAUSE_KIND = 5 := get_put_same ..

/-- Where no unit lies below the arbour and the tree is empty, the reset leaves its kind alone. -/
theorem subtreeReset_of_empty (hb : baysBelow s a = []) (hl : leavesBelow s a = []) (ht : s.tree = []) :
    subtreeReset a s = put F.PWR_RESET_CAUSE_KIND 5 s := by
  have hs : { s with tree := [] } = s := by rw [← ht]
  simp [subtreeReset, hb, hl, forAll, ht, treeRun, hs]

theorem parkSubtree_of_empty (hb : baysBelow s a = []) (hl : leavesBelow s a = []) : parkSubtree a s = s := by
  simp [parkSubtree, hb, hl, forAll]

end bay

/-! ### The commands -/

section commands
variable {s : State} {a : Nat} {Q : State → Prop}

theorem completes_barrier (h : Q (treeIssue .barrier a s)) : Completes (.barrier a) s Q := ⟨_, rfl, h⟩
theorem completes_broadcast (h : Q (treeIssue .broadcast a s)) : Completes (.broadcast a) s Q := ⟨_, rfl, h⟩
theorem completes_snapshotEpochSwitch (h : Q (treeIssue .epoch a s)) : Completes (.snapshotEpochSwitch a) s Q := ⟨_, rfl, h⟩

theorem completes_barrierComplete (hf : (s.tree.find? fun x => treeMeet s x.arbour a) = some ⟨.barrier, a⟩)
    (h : Q (treeRun [] (s.tree.erase ⟨.barrier, a⟩) (treeEnd ⟨.barrier, a⟩ false s))) : Completes (.barrierComplete a) s Q :=
  ⟨_, by rw [show exec (.barrierComplete a) s = execBarrierComplete a s from rfl, execBarrierComplete, hf]; exact if_pos rfl, h⟩

theorem completes_subtreeReset (ha : arbInst s a = true) (h : Q (subtreeReset a s)) : Completes (.subtreeReset a) s Q :=
  ⟨_, congrArg Host.Outcome.next (if_pos ha), h⟩

theorem completes_subtreeResetMechanical (ha : arbInst s a = true) (h : Q (subtreeReset a (parkSubtree a s))) :
    Completes (.subtreeResetMechanical a) s Q :=
  ⟨_, congrArg Host.Outcome.next (if_pos ha), h⟩

/-- The only barrier that waits completes: the tree is empty (R17). -/
theorem barrierComplete_only (ht : s.tree = [⟨.barrier, a⟩]) (hm : treeMeet s a a = true) :
    Completes (.barrierComplete a) s fun t => t = { s with tree := [], treeDone := (⟨.barrier, a⟩, false) :: s.treeDone } := by
  refine completes_barrierComplete (by simp [ht, hm]) ?_
  rw [ht, List.erase_cons_head]
  rfl

/-- The epoch switch that nothing holds up opens the next epoch (R293). -/
theorem epochSwitch_free (ha : arbInst s a = true) (h : ∀ x ∈ s.tree, x.kind = .barrier ∧ treeMeet s x.arbour a = false) :
    Completes (.snapshotEpochSwitch a) s fun t =>
      t = { switchEpoch true s with tree := s.tree, treeDone := (⟨.epoch, a⟩, false) :: s.treeDone } ∧
      Machine.get t F.ARB_EPOCH = trunc F.ARB_EPOCH.width (Machine.get s F.ARB_EPOCH + 1) := by
  refine completes_snapshotEpochSwitch ?_
  rw [treeIssue_free (by decide) ha h, ← switchEpoch_treeDone true s]
  exact ⟨rfl, get_switchEpoch_epoch true s⟩

theorem subtreeResets_of_empty (ha : arbInst s a = true) (hb : baysBelow s a = []) (hl : leavesBelow s a = []) (ht : s.tree = []) :
    Completes (.subtreeReset a) s (fun t => Machine.get t F.PWR_RESET_CAUSE_KIND = 5 ∧ Within s t [F.PWR_RESET_CAUSE_KIND]) ∧
    Completes (.subtreeResetMechanical a) s fun t => Machine.get t F.PWR_RESET_CAUSE_KIND = 5 ∧ Within s t [F.PWR_RESET_CAUSE_KIND] := by
  have hw : Within s (subtreeReset a s) [F.PWR_RESET_CAUSE_KIND] := by
    rw [subtreeReset_of_empty hb hl ht]
    exact within_put (within_refl s _) (by simp)
  refine ⟨completes_subtreeReset ha ⟨get_subtreeReset_cause a s, hw⟩, completes_subtreeResetMechanical ha ?_⟩
  rw [parkSubtree_of_empty hb hl]
  exact ⟨get_subtreeReset_cause a s, hw⟩

end commands

/-- Settles O2: the order of the tree's operations, the epoch switch, and what a subtree's reset leaves. -/
theorem controlTreeOperations : Obligations.ControlTreeOperations := by
  unfold Obligations.ControlTreeOperations
  refine ⟨?_, ?_, ?_, ?_, ?_, ?_, ?_, ?_, ?_⟩
  · exact fun s a ha => completes_barrier (treeIssue_eq .barrier ha)
  · exact fun s a ha hb => completes_barrier (treeIssue_barrier ha hb)
  · exact fun s a ha hb hm =>
      ⟨completes_broadcast (treeIssue_held ha hb hm), completes_snapshotEpochSwitch (treeIssue_held ha hb hm)⟩
  · exact fun s a ha hb => ⟨completes_broadcast (treeIssue_free (by decide) ha hb), epochSwitch_free ha hb⟩
  · exact fun s a hf => completes_barrierComplete hf rfl
  · exact fun s a ht hm => barrierComplete_only ht hm
  · exact fun s a ha hb hl ht => subtreeResets_of_empty ha hb hl ht
  · exact fun s a ha => ⟨completes_subtreeReset ha ⟨get_subtreeReset_cause a s, rfl⟩,
      completes_subtreeResetMechanical ha ⟨get_subtreeReset_cause a _, rfl⟩⟩
  · intro s a b ha hb _
    obtain ⟨-, hmotor, hspindle, hlink, hhead0, hhead1⟩ := bayAtReset_subtreeReset hb
    exact completes_subtreeReset ha ⟨hmotor, hspindle, hlink, hhead0, hhead1⟩

end Sys2Proof.Proofs
end

section
/-! SUPPORT. Statements of the disc format that fail, each with the state in which it does: what a state that a command answers shows,
and the counterexamples of O7 and O17. -/

namespace Sys2Proof.Proofs

open Sys2Proof.Machine Sys2Proof.Laws

/-! ### What a command's next state shows -/

/-- A command answers a next state that passes a test. -/
def answers (c : Instr) (s : State) (p : State → Bool) : Bool := match exec c s with
  | .next t => p t
  | _ => false

/-- The one state that a command answers has what was proved of it and what the model evaluates of it. -/
theorem exists_of_completes_of_answers {c : Instr} {s : State} {Q : State → Prop} {p : State → Bool} (h : Completes c s Q)
    (ha : answers c s p = true) : ∃ t, Q t ∧ p t = true := by
  obtain ⟨t, ht, hq⟩ := h
  rw [answers, ht] at ha
  exact ⟨t, hq, ha⟩

/-! ### A mark of a beam that no head has -/

/-- A slot that the sync mark has framed 48 channel bits late, of a beam 70: heads have the beams 0 to 33 (R29), and the word of
BEAM_OFS that index 70 gives is the register RESYNC_SLIP. -/
def slot70 : OpenSlot := { beam := 70, addr := 0, limit := 0, verify := false, st := 4, sm := true, smAt := 48 }

/-- A head that adapts its beams' offsets (R108) with that slot open. -/
def slot70Open : State := updChan 0 (fun c => { c with slots := [slot70] }) (put (F.CH_CTRL_OFS_ADAPT 0) 1 State.reset)

/-- The decisions of a window of ±48 bits with RM in its middle. -/
def centredMark : List (Option Bool) := List.replicate 48 none ++ rmBits.map some ++ List.replicate 48 none

theorem centredMark_winner : markWinner (inForce slot70Open (F.CH_SYNC_RM_THR 0)) (markScan rmBits 48 centredMark) = some (0, 0) := by
  decide +kernel

/-- The first resync mark, found where it is expected, adapts the beam's offset, here over the count of slips. -/
theorem resyncMark_70_slips :
    answers (.resyncMark 0 70 1 0 0 centredMark) slot70Open fun t => decide (Machine.get t (F.CH_RESYNC_SLIP 0) = 1691) := by
  decide +kernel

/-- Refutes O7: its clause on a resync mark found leaves the beam free, and a mark of beam 70 without a slip (R113) writes
BEAM_OFS[70] (R108), which is RESYNC_SLIP. Every beam of a head has its own word. -/
theorem not_slotsAndSyncMarks : ¬ Obligations.SlotsAndSyncMarks := by
  unfold Obligations.SlotsAndSyncMarks
  rintro ⟨-, -, -, -, -, -, -, -, hmark, -⟩
  have hc := hmark slot70Open 0 70 1 0 0 0 0 centredMark slot70 rfl (.inl rfl) le_rfl (by decide) rfl centredMark_winner
  obtain ⟨t, ⟨-, -, hkept, -⟩, hslip⟩ := exists_of_completes_of_answers hc resyncMark_70_slips
  have hzero : Machine.get slot70Open (F.CH_RESYNC_SLIP 0) = 0 := by decide +kernel
  rw [hkept rfl, hzero] at hslip
  exact absurd hslip (by decide)

/-! ### A verify read still open at the end of a pass -/

/-- A chunk in band 5, and a pass over that band that has recorded it while a slot that a verify revolution opened on it still stands. -/
def verifiedChunk : Chunk := ⟨0, 0, 5120, 5120, 0, 0⟩
def verifyStillOpen : State :=
  updHead 0 (fun x =>
    { x with
      wr := { x.wr with first := 5, span := 1, bands := 1, pos := some (2 ^ 80), chunks := [verifiedChunk] }
      ch := { x.ch with slots := [{ beam := 0, addr := verifiedChunk.addr, limit := 1, verify := true }] } })
    (putAll [(F.GLB_INST_HEAD, 1), (F.WRP_STATUS_STATE 0, 2), (F.SV_STATUS_STATE 0, 5)] State.reset)

/-- The jump back to verify abandons the slot, whose chunk so fails its verify (R119, R165). -/
theorem extentBandsWritten_fails_chunk :
    answers (.extentBandsWritten 0) verifyStillOpen fun t => decide ((writeOf t 0).failed = [verifiedChunk]) := by
  decide +kernel

/-- Refutes O17: the end of the recording pass leaves the failed chunks as its clause says only while no slot of a verify is open; the
servo's jump back abandons such a slot and fails its chunk (R119, R165). -/
theorem not_writeSessions : ¬ Obligations.WriteSessions := by
  unfold Obligations.WriteSessions
  rintro ⟨-, -, hbands, -⟩
  have hc := hbands verifyStillOpen 0 (by decide +kernel) (by decide +kernel) (by decide +kernel) (by decide +kernel)
  obtain ⟨t, ⟨-, -, -, -, -, -, hfailed, -⟩, hshown⟩ := exists_of_completes_of_answers hc extentBandsWritten_fails_chunk
  have hnone : ((writeOf verifyStillOpen 0).failed ++ stillClosed verifyStillOpen 0).filter
      (fun c => decide (addrBand c.addr < (writeOf verifyStillOpen 0).first + (writeOf verifyStillOpen 0).span)) = [] := rfl
  rw [hfailed, hnone] at hshown
  exact absurd hshown (by decide)

end Sys2Proof.Proofs
end

section
/-! SUPPORT. The refutation of O28: the end of a write session where the mounts hold one bay twice. -/

namespace Sys2Proof.Proofs

open Sys2Proof.Machine Sys2Proof.Laws

/-- A session of a set whose two discs stand in the mounts under bay 0, the second with a remap batch to write. -/
def bayHeldTwice : State :=
  { State.reset with
    lib := {
      sets := [(0, { session := true, members := [0, 1] })]
      mounts := [(0, { disc := 0, phase := 5 }), (0, { disc := 1, phase := 5 })]
      discs := [(1, { newRemaps := [(0, 0)] })] } }

/-- Serving the first disc leaves bay 0 one entry, so that the second is no longer mounted when its turn comes. -/
theorem writeSessionEnd_keeps_batch :
    answers (.writeSessionEnd 0) bayHeldTwice fun t => decide ((getDisc t 1).newRemaps = [(0, 0)]) := by
  decide +kernel

/-- Refutes O28: its clause on the end of a session has every mounted member's batches written, in any state; where two entries of the
mounts stand for one bay, serving the disc of the first drops the second. -/
theorem not_rowsSessionsAndCheckpoints : ¬ Obligations.RowsSessionsAndCheckpoints := by
  unfold Obligations.RowsSessionsAndCheckpoints
  rintro ⟨-, -, -, -, -, hend, -⟩
  have hc := hend bayHeldTwice 0 rfl (by decide +kernel) (.inl rfl)
  obtain ⟨t, ⟨-, -, hwritten, -⟩, hkept⟩ := exists_of_completes_of_answers hc writeSessionEnd_keeps_batch
  obtain ⟨hnone, -⟩ := hwritten 1 (by decide) (by decide)
  rw [hnone] at hkept
  exact absurd hkept (by decide)

end Sys2Proof.Proofs
end

section
/-! SUPPORT. The library's shared operations: what telling the host, bringing the arbours' registers up to date and writing the
library directory change, and how the inventory, the sets and the mounts read after a change (R276, R284, R395). -/

namespace Sys2Proof.Proofs

open Sys2Proof.Machine Sys2Proof.Laws

/-! ### The inventory, the sets and the mounts -/

section entries
variable (s : State) (d e hd b : Nat)

theorem getDisc_updDisc (f : Disc → Disc) : getDisc (updDisc d f s) e = if e = d then f (getDisc s d) else getDisc s e :=
  mapGet_put _ _ _ _ _

theorem getSet_putSet (v : DiscSet) (j : Nat) : getSet (putSet hd v s) j = if j = hd then v else getSet s j := mapGet_put _ _ _ _ _

theorem mountOf_updMount (f : MountSt → MountSt) (j : Nat) :
    mountOf (updMount b f s) j = if j = b then f (mountOf s b) else mountOf s j := mapGet_put _ _ _ _ _

theorem getHead_updHead (h g : Nat) (f : Head → Head) : getHead (updHead h f s) g = if g = h then f (getHead s h) else getHead s g :=
  mapGet_put _ _ _ _ _

theorem onlyDiscs_updDisc (f : Disc → Disc) : OnlyDiscs [d] s (updDisc d f s) := fun e he => by
  rw [getDisc_updDisc, if_neg (by simpa using he)]

theorem onlySet_putSet (v : DiscSet) : OnlySet hd s (putSet hd v s) := fun j hj => by rw [getSet_putSet, if_neg hj]

theorem onlyMount_updMount (f : MountSt → MountSt) : OnlyMount b s (updMount b f s) := fun j hj => by rw [mountOf_updMount, if_neg hj]

end entries

theorem OnlyDiscs.trans {s t u : State} {ds : List Nat} (h : OnlyDiscs ds s t) (k : OnlyDiscs ds t u) : OnlyDiscs ds s u :=
  fun j hj => (k j hj).trans (h j hj)
theorem OnlyMount.trans {s t u : State} {b : Nat} (h : OnlyMount b s t) (k : OnlyMount b t u) : OnlyMount b s u :=
  fun j hj => (k j hj).trans (h j hj)

/-! ### Telling the host -/

/-- A state of the host's side that may have told the host of a change (R395, R404). -/
def toldBy (k h : HostSt) : HostSt :=
  { k with pageGen := h.pageGen, aers := h.aers, sent := h.sent, held := h.held, posted := h.posted, errors := h.errors }

/-- Nothing has changed but the listed fields, the event log and what the host has been told. -/
structure Told (s t : State) (fs : List Fld) : Prop where
  shape : ∃ r l h, t = { s with regs := r, log := l, host := toldBy s.host h }
  only  : OnlyFields s t fs

section told
variable {s t u : State} {fs gs : List Fld} {f : Fld} {v : Nat}

theorem Told.refl (s : State) (fs : List Fld) : Told s s fs := ⟨⟨s.regs, s.log, s.host, rfl⟩, only_refl s fs⟩

theorem Told.trans (h : Told s t fs) (k : Told t u fs) : Told s u fs := by
  obtain ⟨⟨_, _, _, rfl⟩, hf⟩ := h
  obtain ⟨⟨r, l, h, rfl⟩, kf⟩ := k
  exact ⟨⟨r, l, h, rfl⟩, only_trans hf kf⟩

theorem Told.mono (h : Told s t fs) (hs : fs ⊆ gs) : Told s t gs :=
  ⟨h.shape, only_mono h.only fun _ hf => List.mem_map_of_mem (hs hf)⟩

theorem Told.inner (h : Told s t fs) : inner t = { inner s with host := toldHost s t } := by
  obtain ⟨⟨r, l, h, rfl⟩, -⟩ := h
  rfl

theorem Told.lib (h : Told s t fs) : t.lib = s.lib := by obtain ⟨⟨_, _, _, rfl⟩, -⟩ := h; rfl
theorem Told.getDisc (h : Told s t fs) (d : Nat) : getDisc t d = getDisc s d := by simp only [Machine.getDisc, h.lib]
theorem Told.getSet (h : Told s t fs) (d : Nat) : getSet t d = getSet s d := by simp only [Machine.getSet, h.lib]
theorem Told.get (h : Told s t fs) (hf : f.key ∉ fs.map Fld.key) : Machine.get t f = Machine.get s f := h.only f hf

theorem told_putAll {l : List (Fld × Nat)} (hl : ∀ p ∈ l, p.1 ∈ fs) : Told s (putAll l s) fs := by
  obtain ⟨r, hr⟩ := putAll_regs l s
  exact ⟨⟨r, s.log, s.host, hr⟩, only_putAll (only_refl s fs) fun p hp => List.mem_map_of_mem (hl p hp)⟩

theorem told_put (hf : f ∈ fs) : Told s (put f v s) fs := told_putAll (l := [(f, v)]) (by simpa using hf)

theorem told_raise {e : EvReg} {i : Nat} (he : e.evt ∈ fs) (hl : F.EVT_LOG_HEAD ∈ fs) : Told s (raise e i s) fs := by
  obtain ⟨r, l, hr, -⟩ := raise_cases e i s
  exact ⟨⟨r, l, s.host, hr⟩, only_raise (only_refl s fs) (List.mem_map_of_mem he) (List.mem_map_of_mem hl)⟩

theorem told_forAll {l : List Nat} {f : Nat → State → State} (h : ∀ i t, i ∈ l → Told t (f i t) fs) : Told s (forAll l f s) fs :=
  forAll_induct (fun t => Told s t fs) f l s (Told.refl s fs) fun i t hi ht => ht.trans (h i t hi)

/-- An event for the host is told and nothing else. -/
theorem notifyFn_told (code fn : Nat) (s : State) : ∃ h, notifyFn code fn s = { s with host := toldBy s.host h } := by
  refine ⟨(notifyFn code fn s).host, ?_⟩
  unfold notifyFn
  split
  · rfl
  · split <;> rfl

theorem notify_told (code : Nat) (s : State) : ∃ h, notify code s = { s with host := toldBy s.host h } := by
  obtain ⟨_, h0⟩ := notifyFn_told code 0 s
  obtain ⟨h, h1⟩ := notifyFn_told code 1 (notifyFn code 0 s)
  exact ⟨h, by rw [notify, h1, h0]; rfl⟩

theorem told_notify (code : Nat) (s : State) : Told s (notify code s) fs := by
  obtain ⟨h, hn⟩ := notify_told code s
  exact ⟨⟨s.regs, s.log, h, hn⟩, hn ▸ fun _ _ => rfl⟩

theorem told_pageChanged (page : Nat) (s : State) : Told s (pageChanged page s) fs :=
  ⟨⟨s.regs, s.log, (pageChanged page s).host, rfl⟩, fun _ _ => rfl⟩

end told

/-- What bringing arbour `a` up to date writes (R276, R277). -/
def arbourRow (a : Nat) : List Fld :=
  [F.ARB_AR_STATUS_HEALTH a, F.ARB_AR_CAP_TOTAL a, F.ARB_AR_CAP_LIVE a, F.ARB_AR_STATUS_OPEN_SETS a, F.ARB_AR_STATUS_BLANK a,
    F.ARB_AR_UNAVAIL a, F.ARB_AR_STATUS_CONSOLIDATING a, F.ARB_AR_EVT a]

theorem told_refreshArbour {fs : List Fld} {a : Nat} (hrow : arbourRow a ⊆ fs) (hlog : F.EVT_LOG_HEAD ∈ fs) (s : State) :
    Told s (refreshArbour a s) fs := by
  unfold refreshArbour
  extract_lets old new s1
  have h1 : Told s s1 fs := told_putAll fun p hp => hrow (by fin_cases hp <;> simp [arbourRow])
  split
  · exact h1
  · exact ((h1.trans (told_raise (hrow (by simp [evAR, arbourRow])) hlog)).trans (told_pageChanged _ _)).trans (told_notify _ _)

theorem arbourRow_subset {s : State} {a : Nat} (ha : a ∈ arbsOf s) : arbourRow a ⊆ arbourFields s := fun _ hf =>
  List.mem_append_right _ (List.mem_flatMap.2 ⟨a, ha, hf⟩)

/-- Bringing the arbours up to date writes their rows and tells the host, no more (R276, R277). -/
theorem told_refreshArbours (s : State) : Told s (refreshArbours s) (arbourFields s) := by
  refine Told.trans (told_forAll fun a t ha => told_refreshArbour (arbourRow_subset ha) (by simp [arbourFields]) t) ?_
  exact told_put (by simp [arbourFields])

theorem refreshArbours_lib (s : State) : (refreshArbours s).lib = s.lib := (told_refreshArbours s).lib
theorem get_refreshArbours_ne {s : State} {f : Fld} (hf : f.key ∉ (arbourFields s).map Fld.key) :
    Machine.get (refreshArbours s) f = Machine.get s f := (told_refreshArbours s).get hf

/-- The arbours' fields lie from the arbours' blocks up, but for two. -/
theorem arbourFields_high {s : State} {k : Nat} (h : k ∈ (arbourFields s).map Fld.key) :
    k = F.ARB_STATUS_OPEN_SETS.key ∨ k = F.EVT_LOG_HEAD.key ∨ 8 * 0x4010000 ≤ k := by
  simp only [arbourFields, List.map_append, List.mem_append, List.map_flatMap, List.mem_flatMap, List.map_cons, List.map_nil,
    List.mem_cons, List.not_mem_nil, or_false] at h
  rcases h with (h | h) | ⟨a, -, ha⟩
  · exact Or.inl h
  · exact Or.inr (Or.inl h)
  · refine Or.inr (Or.inr ?_)
    rcases ha with h | h | h | h | h | h | h | h
    all_goals
      subst h
      simp only [Fld.key, F.ARB_AR_STATUS_HEALTH, F.ARB_AR_CAP_TOTAL, F.ARB_AR_CAP_LIVE, F.ARB_AR_STATUS_OPEN_SETS, F.ARB_AR_STATUS_BLANK,
        F.ARB_AR_UNAVAIL, F.ARB_AR_STATUS_CONSOLIDATING, F.ARB_AR_EVT]
      omega

theorem get_refreshArbours_low {s : State} {f : Fld} (hf : f.key < 8 * 0x4010000) (ho : f.key ≠ F.ARB_STATUS_OPEN_SETS.key)
    (hl : f.key ≠ F.EVT_LOG_HEAD.key) : Machine.get (refreshArbours s) f = Machine.get s f :=
  get_refreshArbours_ne fun h => by
    rcases arbourFields_high h with h | h | h
    · exact ho h
    · exact hl h
    · omega

/-- The library directory's next generation goes to the flash, and the host is told (R284). -/
theorem writeDirectory_eq (s : State) :
    ∃ a b h, writeDirectory s = { s with flash := { s.flash with dirA := a, dirB := b }, host := toldBy s.host h } := by
  simp only [writeDirectory]
  split
  all_goals
    obtain ⟨h, hn⟩ := notify_told 0x781 (pageChanged 0xc1 { s with flash := _ })
    exact ⟨_, _, h, hn⟩

theorem writeDirectory_lib (s : State) : (writeDirectory s).lib = s.lib := by
  obtain ⟨_, _, _, h⟩ := writeDirectory_eq s
  rw [h]
theorem get_writeDirectory (s : State) (f : Fld) : Machine.get (writeDirectory s) f = Machine.get s f := by
  obtain ⟨_, _, _, h⟩ := writeDirectory_eq s
  rw [h]
  rfl

end Sys2Proof.Proofs
end

section
/-! SUPPORT. The refutation of O52: an identification whose update of the arbours' registers reaches a rebuild context. -/

namespace Sys2Proof.Proofs

open Sys2Proof.Machine Sys2Proof.Laws

/-! ### The retry of the rebuild contexts -/

/-- A context that waits for its first spare takes one (R323). -/
def retryFirst (i hd : Nat) (t : State) : State :=
  if rbState t i = Rb.waitSpare ∧ Machine.get t (F.PAR_RB_SPARES_1 i) = 0x7ff then
    match pickSpare t hd (Machine.get t (F.PAR_RB_STATUS_MEMBER1 i)) with
    | some x => put (F.PAR_RB_STATUS_STATE i) Rb.mount (put (F.PAR_RB_SPARES_1 i) x (takeSpare hd (Machine.get t (F.PAR_RB_STATUS_MEMBER1 i)) x t))
    | none => t
  else t

/-- A context that runs takes a spare for a second member that has failed (R324). -/
def retrySecond (i hd : Nat) (t : State) : State :=
  if rbRunning t i ∧ rbSecond t i ∧ Machine.get t (F.PAR_RB_STATUS_MEMBER2 i) ∈ (getSet t hd).failed
      ∧ Machine.get t (F.PAR_RB_SPARES_2 i) = 0x7ff then
    match pickSpare t hd (Machine.get t (F.PAR_RB_STATUS_MEMBER2 i)) with
    | some x => putAll [(F.PAR_RB_STATUS_STATE i, if rbState t i = Rb.mount then Rb.mount else Rb.joint), (F.PAR_RB_SPARES_2 i, x),
        (F.PAR_RB_START2 i, Machine.get t (F.PAR_RB_CURSOR i))] (takeSpare hd (Machine.get t (F.PAR_RB_STATUS_MEMBER2 i)) x t)
    | none => t
  else t

theorem rbRetry_eq (s : State) : rbRetry s = forAll (List.range 16) (fun i u =>
    retrySecond i (Machine.get u (F.PAR_RB_SET i)) (retryFirst i (Machine.get u (F.PAR_RB_SET i)) u)) s := rfl

section taken
variable {t : State} {d i hd m x : Nat}

theorem getDisc_takeSpare_state (hd m x d : Nat) (t : State) :
    (getDisc (takeSpare hd m x t) d).state = if d = x then (if (getSet t hd).st = 1 then 2 else 3) else (getDisc t d).state := by
  have hd (u : State) : getDisc (writeDirectory (bump F.PAR_SPARES_TAKEN 1 u)) d = getDisc u d := by
    simp only [getDisc, writeDirectory_lib]
    rfl
  rw [takeSpare, hd, getDisc_updDisc]
  split
  · simp only [owe]
    split <;> rfl
  · rfl

/-- A disc that is no blank one does not become one by being taken as a spare. -/
theorem takeSpare_not_blank (h : (getDisc t d).state ≠ 1) : (getDisc (takeSpare hd m x t) d).state ≠ 1 := by
  rw [getDisc_takeSpare_state]
  split_ifs <;> simp_all

theorem retryFirst_not_blank (h : (getDisc t d).state ≠ 1) : (getDisc (retryFirst i hd t) d).state ≠ 1 := by
  unfold retryFirst
  split
  · split
    · exact takeSpare_not_blank h
    · exact h
  · exact h

theorem retrySecond_not_blank (h : (getDisc t d).state ≠ 1) : (getDisc (retrySecond i hd t) d).state ≠ 1 := by
  unfold retrySecond
  split
  · split
    · exact takeSpare_not_blank h
    · exact h
  · exact h

theorem retryFirst_idle (h : rbState t i = 0) : retryFirst i hd t = t := if_neg (by simp [h, Rb.waitSpare])
theorem retrySecond_idle (h : rbState t i = 0) : retrySecond i hd t = t := if_neg (by simp [rbRunning, h, Rb.mount])

/-- A context that waits takes the disc that is found for it. -/
theorem retryFirst_takes (hw : rbState t i = Rb.waitSpare) (hs : Machine.get t (F.PAR_RB_SPARES_1 i) = 0x7ff)
    (hp : ∀ m, pickSpare t hd m = some d) : (getDisc (retryFirst i hd t) d).state ≠ 1 := by
  rw [retryFirst, if_pos ⟨hw, hs⟩, hp]
  change (getDisc (takeSpare hd _ d t) d).state ≠ 1
  rw [getDisc_takeSpare_state, if_pos rfl]
  split <;> decide

/-- Where context 0 is idle and context 1 waits, the disc that is found for context 1 is no blank one afterwards. -/
theorem rbRetry_takes (h0 : rbState t 0 = 0) (hw : rbState t 1 = Rb.waitSpare) (hs : Machine.get t (F.PAR_RB_SPARES_1 1) = 0x7ff)
    (hp : ∀ hd m, pickSpare t hd m = some d) : (getDisc (rbRetry t) d).state ≠ 1 := by
  have hr : List.range 16 = 0 :: 1 :: (List.range 14).map (· + 2) := rfl
  rw [rbRetry_eq, hr, forAll, List.foldl_cons, retryFirst_idle h0, retrySecond_idle h0, List.foldl_cons]
  exact forAll_induct (fun u => (getDisc u d).state ≠ 1) _ _ _ (retrySecond_not_blank (retryFirst_takes hw hs (hp _)))
    fun i u _ hu => retrySecond_not_blank (retryFirst_not_blank hu)

end taken

/-! ### The arbour whose row lies over context 1 -/

section row
variable {s : State} {a k : Nat} {f : Fld}

/-- Whatever field lies at an arbour's UNAVAIL reads the grains that the arbour has lost. -/
theorem get_refreshArbour_unavail (s : State) (hf : f.key = (F.ARB_AR_UNAVAIL a).key) :
    Machine.get (refreshArbour a s) f = trunc 64 (unavailGrains s a) := by
  unfold refreshArbour
  extract_lets old new s1
  have h1 : Machine.get s1 f = trunc 64 (unavailGrains s a) := by
    simp only [s1, putAll]
    rw [get_put_ne _ _ _ _ (by rw [hf]; simp [Fld.key, F.ARB_AR_UNAVAIL, F.ARB_AR_STATUS_CONSOLIDATING]; omega), get_put, if_pos hf]
    rfl
  split
  · exact h1
  · rw [(told_notify (fs := []) 0x780 _).get (by simp), (told_pageChanged (fs := []) 0xc0 _).get (by simp), get_raise_ne, h1]
    · rw [hf]
      simp only [Fld.key, F.ARB_AR_UNAVAIL, F.EVT_LOG_HEAD]
      omega
    · rw [hf]
      simp only [Fld.key, F.ARB_AR_UNAVAIL, evAR, F.ARB_AR_EVT]
      omega

/-- A lost block counts for its own domain's arbour. -/
theorem unavailGrains_own (h : s.lib.unavail = [(k, a)]) : unavailGrains s a = 1 := by
  have hb : below s a a = true := by simp [below, belowFuel]
  simp [unavailGrains, h, hb]

/-- The last arbour's row stays as its own update leaves it. -/
theorem get_refreshArbours_last (ha : Machine.get s F.GLB_ARB_COUNT_ARBOURS = a + 1) (h : s.lib.unavail = [(k, a)])
    (hf : f.key = (F.ARB_AR_UNAVAIL a).key) : Machine.get (refreshArbours s) f = 1 := by
  have hlib : (forAll (List.range a) refreshArbour s).lib = s.lib :=
    forAll_induct (fun t => t.lib = s.lib) refreshArbour _ _ rfl fun b t _ ht =>
      (told_refreshArbour (fs := arbourRow b ++ [F.EVT_LOG_HEAD]) (by simp) (by simp) t).lib.trans ht
  rw [refreshArbours, get_put_ne _ _ _ _ (by rw [hf]; simp [Fld.key, F.ARB_AR_UNAVAIL, F.ARB_STATUS_OPEN_SETS]; omega), arbsOf, ha,
    List.range_succ, forAll, List.foldl_append]
  change Machine.get (refreshArbour a (forAll (List.range a) refreshArbour s)) f = 1
  rw [get_refreshArbour_unavail _ hf, unavailGrains_own (hlib ▸ h)]
  decide

end row

/-! ### The counterexample -/

/-- A disc that failed its mount twice waits for identification, and a blank one lies beside it. The arbours are counted as 32529,
the last of which has a lost block: its row's UNAVAIL is the word of RB.STATUS of context 1, which has no spare. -/
def rowOverContext : State :=
  { State.reset with
    regs := [(F.GLB_ARB_COUNT_ARBOURS.key, 32529), ((F.PAR_RB_SPARES_1 1).key, 0x7ff)]
    lib := { unavail := [(0, 32528)], discs := [(0, { failRun := 2 }), (1, { state := 1 })] }
    host := { importQ := [0] } }

/-- The identified disc is unreadable and leaves the queue. -/
def foundOver : State := updDisc 0 (fun y => { y with state := 8, importing := false }) rowOverContext
def identifiedOver : State := { foundOver with host := { foundOver.host with importQ := foundOver.host.importQ.erase 0 } }

theorem identified_rowOverContext : identified 0 none rowOverContext = some foundOver := rfl

/-- The state in which the rebuild contexts are tried again. -/
def retriedOver : State := refreshArbours (writeDirectory identifiedOver)

theorem retriedOver_lib : retriedOver.lib = identifiedOver.lib := (refreshArbours_lib _).trans (writeDirectory_lib _)

/-- No row of an arbour holds the fields of the contexts' first two words. -/
theorem get_retriedOver {f : Fld} (hk : f.key = (F.PAR_RB_STATUS_STATE 0).key ∨ f.key = (F.PAR_RB_SPARES_1 1).key) :
    Machine.get retriedOver f = Machine.get identifiedOver f := by
  rw [retriedOver, get_refreshArbours_ne, get_writeDirectory]
  intro h
  simp only [arbourFields, List.map_append, List.mem_append, List.map_flatMap, List.mem_flatMap, List.map_cons, List.map_nil,
    List.mem_cons, List.not_mem_nil, or_false] at h
  simp only [Fld.key, F.PAR_RB_STATUS_STATE, F.PAR_RB_SPARES_1, F.ARB_STATUS_OPEN_SETS, F.EVT_LOG_HEAD, F.ARB_AR_STATUS_HEALTH,
    F.ARB_AR_CAP_TOTAL, F.ARB_AR_CAP_LIVE, F.ARB_AR_STATUS_OPEN_SETS, F.ARB_AR_STATUS_BLANK, F.ARB_AR_UNAVAIL,
    F.ARB_AR_STATUS_CONSOLIDATING, F.ARB_AR_EVT] at h hk
  rcases h with h | ⟨a, -, ha⟩ <;> omega

theorem retriedOver_idle : rbState retriedOver 0 = 0 := by
  rw [rbState, get_retriedOver (.inl rfl)]
  decide +kernel

theorem retriedOver_spare : Machine.get retriedOver (F.PAR_RB_SPARES_1 1) = 0x7ff := by
  rw [get_retriedOver (.inr rfl)]
  decide +kernel

/-- Context 1 shows the lost grain as its state. -/
theorem retriedOver_waits : rbState retriedOver 1 = Rb.waitSpare := by
  have hcount : Machine.get (writeDirectory identifiedOver) F.GLB_ARB_COUNT_ARBOURS = 32528 + 1 := by
    rw [get_writeDirectory]
    decide +kernel
  exact get_refreshArbours_last hcount (by rw [writeDirectory_lib]; rfl) (by decide)

/-- A disc that is the first blank one of every leaf is the spare that is found. -/
theorem pickSpare_of_blanks {s : State} {d : Nat} (h : ∀ l, (blanksOfLeaf s l).head? = some d) (hd m : Nat) :
    pickSpare s hd m = some d := by
  simp only [pickSpare, h]

/-- Without a carousel of their own all leaves have the discs of carousel 0. -/
theorem blanksOfLeaf_of_noCars {s : State} (h : s.lib.leafCar = []) (l : Nat) :
    blanksOfLeaf s l = (List.range 288).filter fun d => decide ((getDisc s d).state = 1) := by
  simp [blanksOfLeaf, leafCar, h, mapGet]

theorem pickSpare_retriedOver (hd m : Nat) : pickSpare retriedOver hd m = some 1 := by
  have hdisc (d : Nat) : getDisc retriedOver d = getDisc identifiedOver d := by simp only [getDisc, retriedOver_lib]
  refine pickSpare_of_blanks (fun l => ?_) hd m
  rw [blanksOfLeaf_of_noCars (by rw [retriedOver_lib]; rfl)]
  simp only [hdisc]
  decide +kernel

/-- An identification that finds something tries the rebuild contexts again (R323, R413). -/
theorem exec_inventorySlotIdentify {s s0 u : State} {d : Nat} {common : Option (List Nat)}
    (hs : ¬(d ∉ s.host.importQ ∨ cmotSt s (d / 288) = 5 ∨ s.pwr.powerLoss = true ∨ isSet s F.DMP_STATUS_FATAL = true))
    (h0 : identified d common s = some s0)
    (hu : u = refreshArbours (writeDirectory { s0 with host := { s0.host with importQ := s0.host.importQ.erase d } })) :
    exec (.inventorySlotIdentify d common) s
      = .next (if (rbRetry u).host.importQ = [] then notify 0x781 (rbRetry u) else rbRetry u) := by
  change execInventorySlotIdentify d common s = _
  rw [execInventorySlotIdentify, if_neg hs, h0, hu]

/-- Refutes O52: its clause on an identification says that no other disc changes while every rebuild context is idle; with 32529 arbours
the update of the arbours' registers writes the state of a context, and that context takes the blank disc. -/
theorem not_inventoryCommands : ¬ Obligations.InventoryCommands := by
  unfold Obligations.InventoryCommands
  rintro ⟨-, -, -, hidentify, -⟩
  obtain ⟨t, ht, -, hframe⟩ := hidentify rowOverContext foundOver 0 none (by decide) (by decide +kernel) rfl (by decide +kernel)
    identified_rowOverContext
  obtain ⟨-, hdiscs, -⟩ := hframe (by decide +kernel)
  rw [exec_inventorySlotIdentify (by decide +kernel) identified_rowOverContext (u := retriedOver) rfl] at ht
  have htaken : (getDisc t 1).state ≠ 1 := by
    rw [← Host.Outcome.next.inj ht]
    have h := rbRetry_takes (d := 1) retriedOver_idle retriedOver_waits retriedOver_spare pickSpare_retriedOver
    split
    · rwa [(told_notify (fs := []) 0x781 _).getDisc]
    · exact h
  have hblank : (getDisc rowOverContext 1).state = 1 := rfl
  exact htaken (by rw [hdiscs 1 (by decide), hblank])

end Sys2Proof.Proofs
end

section
/-! SUPPORT. A head's operations: what each of them changes of the head and of the window, and nothing else (R32, R178, R184, R195). -/

namespace Sys2Proof.Proofs

open Sys2Proof.Machine Sys2Proof.Laws

/-! ### Frames of one head -/

theorem getHead_of_inner {s t : State} (k : inner t = inner s) (g : Nat) : getHead t g = getHead s g := by
  change getHead (inner t) g = getHead (inner s) g
  rw [k]

section frame
variable {h : Nat} {s t u : State} {fs gs : List Fld} {f : Fld}

/-- Nothing has changed but one head's inner state, the listed fields and the event log. -/
structure AtHead (h : Nat) (s t : State) (fs : List Fld) : Prop where
  shape  : ∃ r l hs, t = { s with regs := r, log := l, heads := hs }
  others : OnlyHead h s t
  only   : OnlyFields s t fs

theorem AtHead.within (k : AtHead h s t fs) : WithinHead h s t fs := by
  obtain ⟨⟨_, _, _, rfl⟩, ho, hf⟩ := k
  exact ⟨rfl, ho, hf⟩

theorem AtHead.refl (h : Nat) (s : State) (fs : List Fld) : AtHead h s s fs :=
  ⟨⟨s.regs, s.log, s.heads, rfl⟩, fun _ _ => rfl, only_refl s fs⟩

theorem AtHead.trans (k : AtHead h s t fs) (l : AtHead h t u fs) : AtHead h s u fs := by
  obtain ⟨⟨_, _, _, rfl⟩, ho, hf⟩ := k
  obtain ⟨⟨r, g, hs, rfl⟩, lo, lf⟩ := l
  exact ⟨⟨r, g, hs, rfl⟩, fun g hg => (lo g hg).trans (ho g hg), only_trans hf lf⟩

theorem AtHead.mono (k : AtHead h s t fs) (hs : fs ⊆ gs) : AtHead h s t gs :=
  ⟨k.shape, k.others, only_mono k.only fun _ hf => List.mem_map_of_mem (hs hf)⟩

theorem AtHead.get (k : AtHead h s t fs) (hf : f.key ∉ fs.map Fld.key) : Machine.get t f = Machine.get s f := k.only f hf

/-- What changes the window only. -/
theorem atHead_of_within (k : Within s t fs) : AtHead h s t fs :=
  ⟨⟨t.regs, t.log, s.heads, congrArg (fun u : State => { u with regs := t.regs, log := t.log }) k.1⟩,
    fun g _ => getHead_of_inner k.1 g, k.2⟩

theorem atHead_putAll {l : List (Fld × Nat)} (hl : ∀ p ∈ l, p.1 ∈ fs) : AtHead h s (putAll l s) fs :=
  atHead_of_within (within_putAll (within_refl s fs) fun p hp => List.mem_map_of_mem (hl p hp))

theorem atHead_put {v : Nat} (hf : f ∈ fs) : AtHead h s (put f v s) fs :=
  atHead_of_within (within_put (within_refl s fs) (List.mem_map_of_mem hf))

theorem atHead_raise {e : EvReg} {i : Nat} (he : e.evt ∈ fs) (hl : F.EVT_LOG_HEAD ∈ fs) : AtHead h s (raise e i s) fs :=
  atHead_of_within (within_raise (within_refl s fs) (List.mem_map_of_mem he) (List.mem_map_of_mem hl))

theorem atHead_updHead (h : Nat) (f : Head → Head) (s : State) (fs : List Fld) : AtHead h s (updHead h f s) fs :=
  ⟨⟨s.regs, s.log, _, rfl⟩, fun g hg => by rw [getHead_updHead, if_neg hg], only_refl s fs⟩

theorem AtHead.thenPut (k : AtHead h s t fs) {v : Nat} (hf : f ∈ fs) : AtHead h s (put f v t) fs := k.trans (atHead_put hf)
theorem AtHead.thenUpd (k : AtHead h s t fs) (g : Head → Head) : AtHead h s (updHead h g t) fs := k.trans (atHead_updHead h g t fs)
theorem AtHead.thenRaise (k : AtHead h s t fs) {e : EvReg} {i : Nat} (he : e.evt ∈ fs) (hl : F.EVT_LOG_HEAD ∈ fs) :
    AtHead h s (raise e i t) fs := k.trans (atHead_raise he hl)

end frame

/-! ### What the window's operations leave of a head -/

section heads
variable {h g : Nat} {s t : State}

@[simp] theorem getHead_put (f : Fld) (v g : Nat) (s : State) : getHead (put f v s) g = getHead s g := rfl
@[simp] theorem getHead_bump (f : Fld) (v g : Nat) (s : State) : getHead (bump f v s) g = getHead s g := rfl
@[simp] theorem getHead_peak (f : Fld) (v g : Nat) (s : State) : getHead (peak f v s) g = getHead s g := rfl
@[simp] theorem getHead_putAll (l : List (Fld × Nat)) (g : Nat) (s : State) : getHead (putAll l s) g = getHead s g :=
  getHead_of_inner (inner_putAll l s) g
@[simp] theorem getHead_raise (e : EvReg) (i g : Nat) (s : State) : getHead (raise e i s) g = getHead s g :=
  getHead_of_inner (inner_raise e i s) g
@[simp] theorem getHead_permits (h g : Nat) (s : State) : getHead (permits h s) g = getHead s g := rfl
@[simp] theorem getHead_updHead_same (h : Nat) (f : Head → Head) (s : State) : getHead (updHead h f s) h = f (getHead s h) := by
  rw [getHead_updHead, if_pos rfl]
@[simp] theorem getHead_updServo (h : Nat) (f : Servo → Servo) (s : State) :
    getHead (updServo h f s) h = { getHead s h with sv := f (getHead s h).sv } := getHead_updHead_same h _ s
@[simp] theorem getHead_updChan (h : Nat) (f : Chan → Chan) (s : State) :
    getHead (updChan h f s) h = { getHead s h with ch := f (getHead s h).ch } := getHead_updHead_same h _ s

@[simp] theorem getHead_svResult (h r g : Nat) (s : State) : getHead (svResult h r s) g = getHead s g := by
  unfold svResult
  split
  · exact getHead_putAll _ g s
  · rfl

/-- The end of a command answers in the command's registers and the counters of seeks (R187, R197). -/
@[simp] theorem getHead_svDone (h g : Nat) (s : State) : getHead (svDone h s) g = getHead s g := by
  simp only [svDone]
  split_ifs <;> simp

@[simp] theorem getHead_clearConfirm (h : Nat) (s : State) :
    getHead (clearConfirm h s) h = { getHead s h with ch := { (getHead s h).ch with agree := 0 } } := by
  simp [clearConfirm]

end heads

/-! ### The servo's operations -/

section servo
variable {h i st : Nat} {s : State} {f : Fld}

theorem atHead_permits (h : Nat) (s : State) : AtHead h s (permits h s) (permitFields h) := by
  refine AtHead.trans (AtHead.trans (atHead_put ?_) (atHead_put ?_)) (atHead_put ?_) <;> simp [permitFields]

theorem atHead_clearConfirm (h : Nat) (s : State) : AtHead h s (clearConfirm h s) (confirmFields h ++ permitFields h) := by
  refine AtHead.trans (AtHead.trans (atHead_updHead h _ s _) (atHead_putAll ?_))
    ((atHead_permits h _).mono (List.subset_append_right ..))
  simp [confirmFields]

theorem atHead_svResult (h r : Nat) (s : State) : AtHead h s (svResult h r s) (svCmdFields h) := by
  unfold svResult
  split
  · exact atHead_putAll (by simp [svCmdFields])
  · exact AtHead.refl h s _

/-- The entry of a servo state before its event and the judgment of the permits (R178). -/
def svMoved (h st : Nat) (s : State) : State :=
  let s1 := putB (F.SV_STATUS_DEFECT h) (decide (st = 8)) (put (F.SV_STATUS_STATE h) st
    (updServo h (fun v => { v with since := if Machine.get s (F.SV_STATUS_STATE h) = st then v.since else tick s }) s))
  if st = 5 ∧ Machine.get s (F.SV_STATUS_STATE h) ≠ 5 then
    updServo h (fun v => { v with steady := true, teRun := 0, teClear := 0, offTrack := false }) s1
  else s1

theorem svState_eq (hst : st ≠ 10) (h : Nat) (s : State) : svState h st s = permits h
    (if Machine.get s (F.SV_STATUS_STATE h) = st then svMoved h st s else raise (evSV h) B.SV_EVT_STATE_CHANGE (svMoved h st s)) := by
  have h10 : ¬(st = 10 ∧ Machine.get s (F.SV_STATUS_STATE h) ≠ 10) := fun e => hst e.1
  simp only [svState, h10, if_false]
  rfl

/-- A servo's inner state but for what the time in its state and the on-track judgment hold. -/
def svCore (v : Servo) : Servo := { v with since := 0, steady := false, teRun := 0, teClear := 0, offTrack := false }

/-- A head but for these of its servo. -/
def headCore (x : Head) : Head := { x with sv := svCore x.sv }

theorem headCore_svMoved (h st : Nat) (s : State) : headCore (getHead (svMoved h st s) h) = headCore (getHead s h) := by
  unfold svMoved
  dsimp only
  split <;> simp only [putB, getHead_put, getHead_updServo] <;> rfl

theorem headCore_svState (hst : st ≠ 10) (h : Nat) (s : State) : headCore (getHead (svState h st s) h) = headCore (getHead s h) := by
  rw [svState_eq hst, getHead_permits]
  split
  · exact headCore_svMoved h st s
  · rw [getHead_raise]
    exact headCore_svMoved h st s

theorem atHead_svMoved (h st : Nat) (s : State) : AtHead h s (svMoved h st s) (svFields h) := by
  have hupd (g : Servo → Servo) (u : State) : AtHead h u (updServo h g u) (svFields h) := atHead_updHead h _ u _
  have hput (v w : Nat) (u : State) : AtHead h u (put (F.SV_STATUS_DEFECT h) v (put (F.SV_STATUS_STATE h) w u)) (svFields h) :=
    (atHead_put (by simp [svFields])).trans (atHead_put (by simp [svFields]))
  unfold svMoved
  dsimp only
  split
  · exact ((hupd _ s).trans (hput _ _ _)).trans (hupd _ _)
  · exact (hupd _ s).trans (hput _ _ _)

theorem atHead_svState (hst : st ≠ 10) (h : Nat) (s : State) : AtHead h s (svState h st s) (svFields h) := by
  have hp (u : State) : AtHead h u (permits h u) (svFields h) := (atHead_permits h u).mono (by simp [permitFields, svFields])
  rw [svState_eq hst]
  split
  · exact (atHead_svMoved h st s).trans (hp _)
  · exact ((atHead_svMoved h st s).trans (atHead_raise (by simp [svFields, evSV]) (by simp [svFields]))).trans (hp _)

theorem get_svMoved (h st : Nat) (s : State) (f : Fld) : Machine.get (svMoved h st s) f
    = Machine.get (put (F.SV_STATUS_DEFECT h) (if st = 8 then 1 else 0) (put (F.SV_STATUS_STATE h) st s)) f := by
  unfold svMoved
  dsimp only
  split <;> simp [putB, updServo, get_put]

/-- The fields that the entry of a state writes beside STATE and DEFECT. -/
def svSideFields (h : Nat) : List Fld := permitFields h ++ [F.SV_EVT h, F.EVT_LOG_HEAD]

theorem get_svState (hst : st ≠ 10) (hf : f.key ∉ (svSideFields h).map Fld.key) :
    Machine.get (svState h st s) f
      = Machine.get (put (F.SV_STATUS_DEFECT h) (if st = 8 then 1 else 0) (put (F.SV_STATUS_STATE h) st s)) f := by
  have hp (u : State) : Machine.get (permits h u) f = Machine.get u f :=
    ((atHead_permits h u).mono (List.subset_append_left ..)).get hf
  rw [svState_eq hst, hp]
  split
  · exact get_svMoved h st s f
  · rw [(atHead_raise (h := h) (fs := svSideFields h) (by simp [svSideFields, evSV]) (by simp [svSideFields])).get hf, get_svMoved]

end servo

end Sys2Proof.Proofs
end

section
/-! SUPPORT. Holds, losses and retracts of the servo (R179, R184 to R186, R195): the clauses of O9 that speak of them. -/

namespace Sys2Proof.Proofs

open Sys2Proof.Machine Sys2Proof.Laws

/-! ### Flags -/

section raised
variable {s t : State} {e : EvReg} {i j : Nat}

theorem bitOf_or {v w : Nat} (hv : bitOf v i = 1) : bitOf (v ||| w) i = 1 := by
  have hb (x : Nat) : bitOf x i = 1 ↔ x.testBit i = true := by simp [bitOf, Nat.testBit_eq_decide_div_mod_eq]
  rw [hb] at hv ⊢
  simp [hv]

theorem raised_of_get (h : Machine.get t e.evt = Machine.get s e.evt) (hs : Raised s e i) : Raised t e i := by
  rw [Raised, h]
  exact hs

/-- An event register of a head: 32 flags, apart from the log's head. -/
structure HeadEv (e : EvReg) : Prop where
  apart : e.evt.key ≠ F.EVT_LOG_HEAD.key
  width : e.evt.width = 32

theorem headEv_sv {h : Nat} : HeadEv (evSV h) := ⟨by simp only [evSV, Fld.key, F.SV_EVT, F.EVT_LOG_HEAD]; omega, rfl⟩
theorem headEv_ch {h : Nat} : HeadEv (evCH h) := ⟨by simp only [evCH, Fld.key, F.CH_EVT, F.EVT_LOG_HEAD]; omega, rfl⟩
theorem headEv_hl {h : Nat} : HeadEv (evHL h) := ⟨by simp only [evHL, Fld.key, F.HL_EVT, F.EVT_LOG_HEAD]; omega, rfl⟩

theorem raised_raise (he : HeadEv e) (hi : i < 32) : Raised (raise e i s) e i := raise_sets e i s he.apart (he.width ▸ hi)

/-- A flag stays set when another of its register is set. -/
theorem raised_raise_of_raised (he : HeadEv e) (hi : i < 32) (hs : Raised s e i) : Raised (raise e j s) e i := by
  rw [Raised, get_raise_evt e j s he.apart, bitOf_trunc _ _ _ (he.width ▸ hi)]
  exact bitOf_or hs

end raised

/-! ### Fields apart -/

/-- The entry of a servo state leaves these fields of its head. -/
theorem svSide_apart : ∀ h < 64, ∀ f ∈ [F.SV_STATUS_STATE h, F.SV_STATUS_DEFECT h, F.SV_DEFECT_HOLDS h, F.SV_RETRACTS h, F.SV_FOCUS_LOSS h,
    F.SV_POS_CONFIRMED h, F.SV_STATUS_BAND_HOLD h], f.key ∉ (svSideFields h).map Fld.key := by decide +kernel

theorem svEvt_apart : ∀ h < 64, (evSV h).evt.key ∉ ((permitFields h) ++ svCmdFields h ++ confirmFields h ++ [F.SV_STATUS_STATE h,
    F.SV_STATUS_DEFECT h, F.SV_DEFECT_HOLDS h, F.SV_RETRACTS h, F.SV_FOCUS_LOSS h, F.SV_STATUS_BAND_HOLD h, F.EVT_LOG_HEAD]).map Fld.key := by
  decide +kernel

section servo
variable {h i st why : Nat} {s : State} {f : Fld}

theorem get_svState_self (hst : st ≠ 10) (hh : h < 64) (s : State) : Machine.get (svState h st s) (F.SV_STATUS_STATE h) = trunc 4 st := by
  rw [get_svState hst (svSide_apart h hh _ (by simp)), get_put_ne, get_put_same]
  · rfl
  · simp [Fld.key, F.SV_STATUS_STATE, F.SV_STATUS_DEFECT]

theorem get_svState_defect (hst : st ≠ 10) (hh : h < 64) (s : State) :
    Machine.get (svState h st s) (F.SV_STATUS_DEFECT h) = if st = 8 then 1 else 0 := by
  rw [get_svState hst (svSide_apart h hh _ (by simp)), get_put_same]
  split <;> rfl

theorem get_svState_ne (hst : st ≠ 10) (hf : f.key ∉ (svFields h).map Fld.key) : Machine.get (svState h st s) f = Machine.get s f :=
  (atHead_svState hst h s).get hf

/-- The entry of a state keeps the servo's flags. -/
theorem raised_svState (hst : st ≠ 10) (hh : h < 64) (hi : i < 32) (hs : Raised s (evSV h) i) : Raised (svState h st s) (evSV h) i := by
  have hevt := svEvt_apart h hh
  have hm : Raised (svMoved h st s) (evSV h) i := raised_of_get (by
    rw [get_svMoved, get_put_ne _ _ _ _ (fun e => hevt (by rw [e]; simp)), get_put_ne _ _ _ _ (fun e => hevt (by rw [e]; simp))]) hs
  have hp (u : State) (hu : Raised u (evSV h) i) : Raised (permits h u) (evSV h) i :=
    raised_of_get ((atHead_permits h u).get fun hx => hevt (by simp only [List.map_append, List.mem_append]; tauto)) hu
  rw [svState_eq hst]
  split
  · exact hp _ hm
  · exact hp _ (raised_raise_of_raised headEv_sv hi hm)

/-! ### Retract -/

/-- What a retract leaves of a head before the servo state is entered (R185, R195). -/
def retracted (why : Nat) (x : Head) : Head :=
  { x with
    sv := { x.sv with why := why, held := 7, base := x.sv.coils, hold := none, entering := false, remain := 0, mode := 0,
                      seeking := false, seekBack := decide (why = 1 ∨ why = 2), following := false }
    wr := { x.wr with closeReq := true } }

theorem retractHead_eq (hp : lensParked s h = false) : retractHead h why s = svState h 9 (put (F.SV_STATUS_BAND_HOLD h) 0
    (bump (F.SV_RETRACTS h) 1 (updHead h (retracted why) (svResult h 4 s)))) := by
  simp only [lensParked, Bool.or_eq_false_iff, decide_eq_false_iff_not] at hp
  obtain ⟨⟨⟨h0, h1⟩, h9⟩, h10⟩ := hp
  simp only [retractHead, h0, h1, h9, h10, or_self, if_false]
  rfl

theorem atHead_retractHead (h why : Nat) (s : State) : AtHead h s (retractHead h why s) (retractFields h) := by
  cases hp : lensParked s h with
  | true =>
    simp only [lensParked, Bool.or_eq_true, decide_eq_true_eq] at hp
    have : retractHead h why s = s := if_pos (by tauto)
    rw [this]
    exact AtHead.refl h s _
  | false =>
    rw [retractHead_eq hp]
    have h0 : AtHead h s (svResult h 4 s) (retractFields h) := (atHead_svResult h 4 s).mono fun f hf => by simp [retractFields, hf]
    have h1 := h0.trans (atHead_updHead h (retracted why) _ (retractFields h))
    have h2 : AtHead h s (put (F.SV_STATUS_BAND_HOLD h) 0 (bump (F.SV_RETRACTS h) 1 (updHead h (retracted why) (svResult h 4 s))))
        (retractFields h) :=
      (h1.trans (atHead_put (f := F.SV_RETRACTS h) (by simp [retractFields]))).trans (atHead_put (by simp [retractFields]))
    exact h2.trans ((atHead_svState (by decide) h _).mono fun f hf => by simp [retractFields, hf])

theorem headCore_retractHead (hp : lensParked s h = false) :
    headCore (getHead (retractHead h why s) h) = headCore (retracted why (getHead s h)) := by
  rw [retractHead_eq hp, headCore_svState (by decide), getHead_put, getHead_bump, getHead_updHead_same, getHead_svResult]

theorem get_retractHead_state (hp : lensParked s h = false) (hh : h < 64) :
    Machine.get (retractHead h why s) (F.SV_STATUS_STATE h) = 9 := by
  rw [retractHead_eq hp, get_svState_self (by decide) hh]
  rfl

/-- The retract is counted (R195). -/
theorem get_retractHead_retracts (hp : lensParked s h = false) (hh : h < 64) : Machine.get (retractHead h why s) (F.SV_RETRACTS h)
    = trunc 32 (satAdd 32 (Machine.get s (F.SV_RETRACTS h)) 1) := by
  have hcmd : (F.SV_RETRACTS h).key ∉ (svCmdFields h).map Fld.key :=
    (by decide +kernel : ∀ h < 64, (F.SV_RETRACTS h).key ∉ (svCmdFields h).map Fld.key) h hh
  have hsv : (F.SV_RETRACTS h).key ∉ (svFields h).map Fld.key :=
    (by decide +kernel : ∀ h < 64, (F.SV_RETRACTS h).key ∉ (svFields h).map Fld.key) h hh
  rw [retractHead_eq hp, get_svState_ne (by decide) hsv, get_put_ne, bump, get_put_same, get_updHead, (atHead_svResult h 4 s).get hcmd]
  · rfl
  · simp [Fld.key, F.SV_RETRACTS, F.SV_STATUS_BAND_HOLD]; omega

theorem raised_retractHead (hp : lensParked s h = false) (hh : h < 64) (hi : i < 32) (hs : Raised s (evSV h) i) :
    Raised (retractHead h why s) (evSV h) i := by
  have hevt := svEvt_apart h hh
  rw [retractHead_eq hp]
  refine raised_svState (by decide) hh hi (raised_of_get ?_ hs)
  rw [get_put_ne _ _ _ _ (fun e => hevt (by rw [e]; simp)), bump, get_put_ne _ _ _ _ (fun e => hevt (by rw [e]; simp)), get_updHead,
    (atHead_svResult h 4 s).get (fun hx => hevt (by simp only [List.map_append, List.mem_append]; tauto))]

end servo

end Sys2Proof.Proofs
end

section
/-! SUPPORT. The clauses of O9 on holds, losses of focus, off-track episodes and missing samples (R78, R179, R184 to R186). -/

namespace Sys2Proof.Proofs

open Sys2Proof.Machine Sys2Proof.Laws

section fields
variable {s : State} {f : Fld} {n : Nat}

theorem get_bump_same (f : Fld) (n : Nat) (s : State) : Machine.get (bump f n s) f = trunc f.width (satAdd f.width (Machine.get s f) n) :=
  get_put_same ..

theorem get_bump_ne {g : Fld} (hg : g.key ≠ f.key) : Machine.get (bump f n s) g = Machine.get s g := get_put_ne f g _ s hg

end fields

theorem completes_of_exec {c : Instr} {s t : State} {Q : State → Prop} (he : exec c s = .next t) (hq : Q t) : Completes c s Q := ⟨t, he, hq⟩

section holds
variable {s : State} {h : Nat}

theorem not_parked_of_state {a b : Nat} (ha : 2 ≤ a) (hb : b ≤ 8) (hlo : a ≤ Machine.get s (F.SV_STATUS_STATE h))
    (hhi : Machine.get s (F.SV_STATUS_STATE h) ≤ b) : lensParked s h = false := by
  simp only [lensParked, Bool.or_eq_false_iff, decide_eq_false_iff_not]
  omega

/-- Both beams invalid: the cells hold (R184). -/
theorem completes_defectHold (hi : headInst s h = true) (hlo : 4 ≤ Machine.get s (F.SV_STATUS_STATE h))
    (hhi : Machine.get s (F.SV_STATUS_STATE h) ≤ 6) (h0 : 0 ∈ (servoOf s h).invalid) (h1 : 1 ∈ (servoOf s h).invalid) :
    Completes (.defectHold h) s fun t =>
      Machine.get t (F.SV_STATUS_STATE h) = 8 ∧ Machine.get t (F.SV_STATUS_DEFECT h) = 1 ∧
      Machine.get t (F.SV_DEFECT_HOLDS h) = trunc 32 (satAdd 32 (Machine.get s (F.SV_DEFECT_HOLDS h)) 1) ∧
      (servoOf t h).heldFrom = Machine.get s (F.SV_STATUS_STATE h) ∧ (servoOf t h).held = 7 ∧
      WithinHead h s t (F.SV_DEFECT_HOLDS h :: svFields h) := by
  have hh := headInst_lt hi
  have hapart : (F.SV_DEFECT_HOLDS h).key ∉ (svFields h).map Fld.key :=
    (by decide +kernel : ∀ h < 64, (F.SV_DEFECT_HOLDS h).key ∉ (svFields h).map Fld.key) h hh
  refine completes_of_exec (if_neg (by simp [hi, h0, h1]; omega)) ?_
  have hcore := headCore_svState (st := 8) (by decide) h (bump (F.SV_DEFECT_HOLDS h) 1
    (updServo h (fun v => { v with heldFrom := Machine.get s (F.SV_STATUS_STATE h), holdLen := 0, held := 7 }) s))
  rw [getHead_bump, getHead_updServo] at hcore
  refine ⟨get_svState_self (by decide) hh _, get_svState_defect (by decide) hh _, ?_, congrArg (fun x : Head => x.sv.heldFrom) hcore,
    congrArg (fun x : Head => x.sv.held) hcore, AtHead.within ?_⟩
  · rw [get_svState_ne (by decide) hapart, get_bump_same]
    rfl
  · exact AtHead.trans (AtHead.thenPut (AtHead.thenUpd (AtHead.refl h s _) _) (List.mem_cons_self ..))
      ((atHead_svState (by decide) h _).mono (List.subset_cons_self ..))

/-- A hold's end returns to the state before it (R184). -/
theorem holdEnds_spec (hh : h < 64) (hf : (servoOf s h).heldFrom ≤ 7) :
    Machine.get (holdEnds h s) (F.SV_STATUS_STATE h) = (servoOf s h).heldFrom ∧ (servoOf (holdEnds h s) h).held = 0 ∧
      AtHead h s (holdEnds h s) (svFields h) := by
  have hst : (servoOf s h).heldFrom ≠ 10 := by omega
  have hcore := headCore_svState hst h (updServo h (fun v => { v with held := 0 }) s)
  rw [getHead_updServo] at hcore
  refine ⟨?_, congrArg (fun x : Head => x.sv.held) hcore, (atHead_updHead h _ s _).trans (atHead_svState hst h _)⟩
  rw [holdEnds, get_svState_self hst hh]
  exact Nat.mod_eq_of_lt (by omega)

theorem completes_defectHoldEnd (hi : headInst s h = true) (hst : Machine.get s (F.SV_STATUS_STATE h) = 8)
    (hv : 0 ∉ (servoOf s h).invalid ∨ 1 ∉ (servoOf s h).invalid) (hl : holdTooLong s h = false) (hf : (servoOf s h).heldFrom ≤ 7) :
    Completes (.defectHoldEnd h) s fun t =>
      Machine.get t (F.SV_STATUS_STATE h) = (servoOf s h).heldFrom ∧ (servoOf t h).held = 0 ∧ WithinHead h s t (svFields h) := by
  obtain ⟨hstate, hheld, hframe⟩ := holdEnds_spec (headInst_lt hi) hf
  exact completes_of_exec (if_neg (by simp only [hi, hst, hl]; tauto)) ⟨hstate, hheld, hframe.within⟩

/-! ### Losses of focus -/

/-- What the loss of focus changes of the window. -/
def lossFields (h : Nat) : List Fld := F.SV_FOCUS_LOSS h :: retractFields h

/-- Focus is lost: counted, raised, and the lens retracts (R185). -/
theorem focusLost_spec (hh : h < 64) (hp : lensParked s h = false) :
    Machine.get (focusLost h s) (F.SV_STATUS_STATE h) = 9 ∧ Raised (focusLost h s) (evSV h) B.SV_EVT_FOCUS_LOSS ∧
      Machine.get (focusLost h s) (F.SV_FOCUS_LOSS h) = trunc 32 (satAdd 32 (Machine.get s (F.SV_FOCUS_LOSS h)) 1) ∧
      Machine.get (focusLost h s) (F.SV_RETRACTS h) = trunc 32 (satAdd 32 (Machine.get s (F.SV_RETRACTS h)) 1) ∧
      headCore (getHead (focusLost h s) h) = headCore (retracted 1 (getHead s h)) ∧
      (∀ i < 32, Raised s (evSV h) i → Raised (focusLost h s) (evSV h) i) ∧ AtHead h s (focusLost h s) (lossFields h) := by
  have hapart : ∀ h < 64, (F.SV_STATUS_STATE h).key ∉ (F.SV_FOCUS_LOSS h :: evFields (evSV h)).map Fld.key ∧
      (F.SV_RETRACTS h).key ∉ (F.SV_FOCUS_LOSS h :: evFields (evSV h)).map Fld.key ∧
      (F.SV_FOCUS_LOSS h).key ∉ (retractFields h).map Fld.key ∧
      (F.SV_FOCUS_LOSS h).key ∉ (evFields (evSV h)).map Fld.key ∧ (evSV h).evt.key ≠ (F.SV_FOCUS_LOSS h).key := by decide +kernel
  obtain ⟨hstate, hretr, hloss, hloss', hevt⟩ := hapart h hh
  have hu : AtHead h s (raise (evSV h) B.SV_EVT_FOCUS_LOSS (bump (F.SV_FOCUS_LOSS h) 1 s)) (F.SV_FOCUS_LOSS h :: evFields (evSV h)) :=
    (atHead_put (List.mem_cons_self ..)).trans (atHead_raise (by simp [evFields]) (by simp [evFields]))
  have hpu : lensParked (raise (evSV h) B.SV_EVT_FOCUS_LOSS (bump (F.SV_FOCUS_LOSS h) 1 s)) h = false := by
    simpa only [lensParked, hu.get hstate] using hp
  refine ⟨get_retractHead_state hpu hh, raised_retractHead hpu hh (by decide) (raised_raise headEv_sv (by decide)), ?_, ?_, ?_,
    fun i hi hr => ?_, ?_⟩
  · rw [focusLost, (atHead_retractHead h 1 _).get hloss, (atHead_raise (h := h) (fs := evFields (evSV h)) (by simp [evFields])
      (by simp [evFields])).get hloss', get_bump_same]
    rfl
  · rw [focusLost, get_retractHead_retracts hpu hh, hu.get hretr]
  · rw [focusLost, headCore_retractHead hpu, getHead_raise, getHead_bump]
  · exact raised_retractHead hpu hh hi (raised_raise_of_raised headEv_sv hi (raised_of_get (get_bump_ne hevt) hr))
  · exact (hu.mono (by simp [lossFields, retractFields, svFields, evFields, evSV])).trans
      ((atHead_retractHead h 1 _).mono (List.subset_cons_self ..))

theorem completes_focusLost (hi : headInst s h = true) (hlo : 3 ≤ Machine.get s (F.SV_STATUS_STATE h))
    (hhi : Machine.get s (F.SV_STATUS_STATE h) ≤ 6) (hrun : 8 ≤ (servoOf s h).feRun) :
    Completes (.focusLost h) s fun t =>
      Machine.get t (F.SV_STATUS_STATE h) = 9 ∧ Raised t (evSV h) B.SV_EVT_FOCUS_LOSS ∧
      Machine.get t (F.SV_FOCUS_LOSS h) = trunc 32 (satAdd 32 (Machine.get s (F.SV_FOCUS_LOSS h)) 1) ∧
      Machine.get t (F.SV_RETRACTS h) = trunc 32 (satAdd 32 (Machine.get s (F.SV_RETRACTS h)) 1) ∧
      (servoOf t h).why = 1 ∧ (servoOf t h).seekBack = true ∧ (writeOf t h).closeReq = true ∧
      WithinHead h s t ([F.SV_FOCUS_LOSS h, F.SV_RETRACTS h, F.SV_STATUS_BAND_HOLD h] ++ svCmdFields h ++ svFields h) := by
  obtain ⟨hstate, hev, hloss, hretr, hcore, -, hframe⟩ :=
    focusLost_spec (headInst_lt hi) (not_parked_of_state (by decide) (by decide) hlo hhi)
  exact completes_of_exec (if_neg (by simp [hi]; omega)) ⟨hstate, hev, hloss, hretr, congrArg (fun x : Head => x.sv.why) hcore,
    congrArg (fun x : Head => x.sv.seekBack) hcore, congrArg (fun x : Head => x.wr.closeReq) hcore, hframe.within⟩

/-- A hold beyond DEF_MAX loses focus, unless a beam has recovered with FE within limits; then the position comes from the address (R185). -/
theorem exec_defectLong (hi : headInst s h = true) (hst : Machine.get s (F.SV_STATUS_STATE h) = 8) (hl : holdTooLong s h = true) :
    exec (.defectLong h) s = .next (if (0 ∈ (servoOf s h).invalid ∧ 1 ∈ (servoOf s h).invalid) ∨
      beyond (servoOf s h).fe (Machine.get s (F.SV_LIMITS_FOCUS_ERR_LIM h)) = true then focusLost h (raise (evSV h) B.SV_EVT_DEFECT_LONG s)
      else holdEnds h (clearConfirm h (raise (evSV h) B.SV_EVT_DEFECT_LONG s))) := by
  have hguard : ¬(headInst s h = false ∨ Machine.get s (F.SV_STATUS_STATE h) ≠ 8 ∨ holdTooLong s h = false) := by simp [hi, hst, hl]
  refine (if_neg hguard).trans ?_
  split <;> rfl

/-- What a hold that ends in the address's position changes (R185). -/
theorem holdToAddress_spec (hh : h < 64) (hf : (servoOf s h).heldFrom ≤ 7) :
    Machine.get (holdEnds h (clearConfirm h s)) (F.SV_STATUS_STATE h) = (servoOf s h).heldFrom ∧
      (servoOf (holdEnds h (clearConfirm h s)) h).held = 0 ∧ Machine.get (holdEnds h (clearConfirm h s)) (F.SV_POS_CONFIRMED h) = 0 ∧
      (∀ i < 32, Raised s (evSV h) i → Raised (holdEnds h (clearConfirm h s)) (evSV h) i) ∧
      AtHead h s (holdEnds h (clearConfirm h s)) (confirmFields h ++ svFields h) := by
  have hfrom : (servoOf (clearConfirm h s) h).heldFrom = (servoOf s h).heldFrom := by simp only [servoOf, getHead_clearConfirm]
  have hst : (servoOf (clearConfirm h s) h).heldFrom ≠ 10 := by omega
  obtain ⟨hstate, hheld, hframe⟩ := holdEnds_spec (s := clearConfirm h s) hh (hfrom ▸ hf)
  have hapart : ∀ h < 64, (F.SV_POS_CONFIRMED h).key ∉ (svFields h).map Fld.key ∧ (F.SV_POS_CONFIRMED h).key ∉ (permitFields h).map Fld.key ∧
      (evSV h).evt.key ∉ (confirmFields h ++ permitFields h).map Fld.key := by decide +kernel
  obtain ⟨hconf, hconf', hevt⟩ := hapart h hh
  refine ⟨hstate.trans hfrom, hheld, ?_, fun i hi hr => ?_, ?_⟩
  · rw [hframe.get hconf, clearConfirm, (atHead_permits h _).get hconf', putAll, putAll, putAll, putAll]
    exact get_put_same ..
  · rw [holdEnds]
    exact raised_svState hst hh hi (raised_of_get (s := s) ((atHead_clearConfirm h s).get hevt) hr)
  · exact ((atHead_clearConfirm h s).mono (by simp [confirmFields, svFields, permitFields])).trans
      (hframe.mono (List.subset_append_right ..))

theorem completes_defectLong (hi : headInst s h = true) (hst : Machine.get s (F.SV_STATUS_STATE h) = 8) (hl : holdTooLong s h = true)
    (hf : (servoOf s h).heldFrom ≤ 7) :
    Completes (.defectLong h) s fun t =>
      Raised t (evSV h) B.SV_EVT_DEFECT_LONG ∧
      ((0 ∈ (servoOf s h).invalid ∧ 1 ∈ (servoOf s h).invalid) ∨ beyond (servoOf s h).fe (Machine.get s (F.SV_LIMITS_FOCUS_ERR_LIM h)) = true →
        Machine.get t (F.SV_STATUS_STATE h) = 9 ∧ Raised t (evSV h) B.SV_EVT_FOCUS_LOSS ∧
        Machine.get t (F.SV_FOCUS_LOSS h) = trunc 32 (satAdd 32 (Machine.get s (F.SV_FOCUS_LOSS h)) 1) ∧
        Machine.get t (F.SV_RETRACTS h) = trunc 32 (satAdd 32 (Machine.get s (F.SV_RETRACTS h)) 1) ∧ (servoOf t h).why = 1) ∧
      ((0 ∉ (servoOf s h).invalid ∨ 1 ∉ (servoOf s h).invalid) → beyond (servoOf s h).fe (Machine.get s (F.SV_LIMITS_FOCUS_ERR_LIM h)) = false →
        Machine.get t (F.SV_STATUS_STATE h) = (servoOf s h).heldFrom ∧ (servoOf t h).held = 0 ∧ Machine.get t (F.SV_POS_CONFIRMED h) = 0) ∧
      WithinHead h s t ([F.SV_FOCUS_LOSS h, F.SV_RETRACTS h, F.SV_STATUS_BAND_HOLD h] ++ svCmdFields h ++ confirmFields h ++ svFields h) := by
  have hh := headInst_lt hi
  have hapart : ∀ h < 64, (F.SV_STATUS_STATE h).key ∉ (evFields (evSV h)).map Fld.key ∧
      (F.SV_FOCUS_LOSS h).key ∉ (evFields (evSV h)).map Fld.key ∧ (F.SV_RETRACTS h).key ∉ (evFields (evSV h)).map Fld.key := by decide +kernel
  obtain ⟨hkst, hkloss, hkretr⟩ := hapart h hh
  have hu : AtHead h s (raise (evSV h) B.SV_EVT_DEFECT_LONG s) (evFields (evSV h)) := atHead_raise (by simp [evFields]) (by simp [evFields])
  have hraised : Raised (raise (evSV h) B.SV_EVT_DEFECT_LONG s) (evSV h) B.SV_EVT_DEFECT_LONG := raised_raise headEv_sv (by decide)
  have hpu : lensParked (raise (evSV h) B.SV_EVT_DEFECT_LONG s) h = false :=
    not_parked_of_state (a := 8) (b := 8) (by decide) (by decide) (by rw [hu.get hkst, hst]) (by rw [hu.get hkst, hst])
  refine completes_of_exec (exec_defectLong hi hst hl) ?_
  split
  next hlost =>
    obtain ⟨hstate, hev, hloss, hretr, hcore, hkept, hframe⟩ := focusLost_spec hh hpu
    refine ⟨hkept _ (by decide) hraised, fun _ => ⟨hstate, hev, ?_, ?_, congrArg (fun x : Head => x.sv.why) hcore⟩, fun hv hb => ?_, ?_⟩
    · rw [hloss, hu.get hkloss]
    · rw [hretr, hu.get hkretr]
    · exact absurd hlost (by rw [hb]; tauto)
    · exact ((hu.mono (by simp [evFields, evSV, svFields])).trans
        (hframe.mono (by simp [lossFields, retractFields, svCmdFields, confirmFields, svFields, permitFields]))).within
  next hgood =>
    have hfrom : (servoOf (raise (evSV h) B.SV_EVT_DEFECT_LONG s) h).heldFrom = (servoOf s h).heldFrom := by
      simp only [servoOf, getHead_raise]
    obtain ⟨hstate, hheld, hconf, hkept, hframe⟩ := holdToAddress_spec (s := raise (evSV h) B.SV_EVT_DEFECT_LONG s) hh (hfrom ▸ hf)
    refine ⟨hkept _ (by decide) hraised, fun hv => absurd hv hgood, fun _ _ => ⟨hstate.trans hfrom, hheld, hconf⟩, ?_⟩
    exact ((hu.mono (by simp [evFields, evSV, svFields])).trans
      (hframe.mono (by simp [svCmdFields, confirmFields, svFields, permitFields]))).within

end holds

end Sys2Proof.Proofs
end

section
/-! SUPPORT. The clauses of O9 on off-track episodes and missing samples (R78, R179, R186). -/

namespace Sys2Proof.Proofs

open Sys2Proof.Machine Sys2Proof.Laws

section misses
variable {s : State} {h : Nat}

/-- Four samples beyond the limit are an episode (R179). -/
theorem completes_offtrackEpisode (hi : headInst s h = true) (hrun : 4 ≤ (servoOf s h).teRun) (hoff : (servoOf s h).offTrack = false) :
    Completes (.offtrackEpisode h) s fun t =>
      Machine.get t (F.SV_OFFTRACK h) = trunc 32 (satAdd 32 (Machine.get s (F.SV_OFFTRACK h)) 1) ∧ Raised t (evSV h) B.SV_EVT_OFFTRACK ∧
      servoOf t h = { servoOf s h with offTrack := true, steady := false } ∧
      WithinHead h s t (F.SV_OFFTRACK h :: permitFields h ++ evFields (evSV h)) := by
  have hh := headInst_lt hi
  have hapart : ∀ h < 64, (F.SV_OFFTRACK h).key ∉ (permitFields h).map Fld.key ∧ (F.SV_OFFTRACK h).key ∉ (evFields (evSV h)).map Fld.key ∧
      (evSV h).evt.key ∉ (permitFields h).map Fld.key := by decide +kernel
  obtain ⟨hpermit, hev, hevt⟩ := hapart h hh
  refine completes_of_exec (if_neg (by simp [hi, hoff]; omega)) ⟨?_, ?_, ?_, AtHead.within ?_⟩
  · rw [(atHead_permits h _).get hpermit, (atHead_raise (h := h) (fs := evFields (evSV h)) (by simp [evFields]) (by simp [evFields])).get hev,
      get_bump_same]
    rfl
  · exact raised_of_get ((atHead_permits h _).get hevt) (raised_raise headEv_sv (by decide))
  · simp only [servoOf, getHead_permits, getHead_raise, getHead_bump, getHead_updServo]
  · exact (AtHead.thenRaise (AtHead.thenPut (AtHead.thenUpd (AtHead.refl h s _) _) (by simp)) (by simp [evFields]) (by simp [evFields])).trans
      ((atHead_permits h _).mono (by simp [permitFields]))

theorem completes_offtrackEpisodeEnd (hi : headInst s h = true) (hclear : 64 ≤ (servoOf s h).teClear) (hoff : (servoOf s h).offTrack = true) :
    Completes (.offtrackEpisodeEnd h) s fun t =>
      servoOf t h = { servoOf s h with offTrack := false, steady := true } ∧ WithinHead h s t (permitFields h) := by
  refine completes_of_exec (if_neg (by simp [hi, hoff]; omega)) ⟨?_, AtHead.within ?_⟩
  · simp only [servoOf, getHead_permits, getHead_updServo]
  · exact (AtHead.thenUpd (AtHead.refl h s _) _).trans (atHead_permits h _)

/-- MISS_MAX missing samples retract the lens (R186). -/
theorem completes_missLimit (hi : headInst s h = true) (hlo : 2 ≤ Machine.get s (F.SV_STATUS_STATE h))
    (hhi : Machine.get s (F.SV_STATUS_STATE h) ≤ 8) (hmiss : max 1 (Machine.get s (F.SV_LIMITS_MISS_MAX h)) ≤ (servoOf s h).missRun) :
    Completes (.missLimit h) s fun t =>
      Machine.get t (F.SV_STATUS_STATE h) = 9 ∧ Raised t (evSV h) B.SV_EVT_MISS_LIMIT ∧
      Machine.get t (F.SV_RETRACTS h) = trunc 32 (satAdd 32 (Machine.get s (F.SV_RETRACTS h)) 1) ∧ (servoOf t h).why = 2 ∧
      WithinHead h s t ([F.SV_RETRACTS h, F.SV_STATUS_BAND_HOLD h] ++ svCmdFields h ++ svFields h) := by
  have hh := headInst_lt hi
  have hapart : ∀ h < 64, (F.SV_STATUS_STATE h).key ∉ (evFields (evSV h)).map Fld.key ∧
      (F.SV_RETRACTS h).key ∉ (evFields (evSV h)).map Fld.key := by decide +kernel
  obtain ⟨hkst, hkretr⟩ := hapart h hh
  have hu : AtHead h s (raise (evSV h) B.SV_EVT_MISS_LIMIT s) (evFields (evSV h)) := atHead_raise (by simp [evFields]) (by simp [evFields])
  have hpu : lensParked (raise (evSV h) B.SV_EVT_MISS_LIMIT s) h = false :=
    not_parked_of_state (a := 2) (b := 8) (by decide) (by decide) (by rwa [hu.get hkst]) (by rwa [hu.get hkst])
  refine completes_of_exec (if_neg (by simp [hi]; omega)) ⟨get_retractHead_state hpu hh,
    raised_retractHead hpu hh (by decide) (raised_raise headEv_sv (by decide)), ?_,
    congrArg (fun x : Head => x.sv.why) (headCore_retractHead hpu), AtHead.within ?_⟩
  · rw [get_retractHead_retracts hpu hh, hu.get hkretr]
  · exact (hu.mono (by simp [evFields, evSV, svFields])).trans (atHead_retractHead h 2 _)

/-- A superframe without a copy of the servo block counts as a miss (R78, R186). -/
theorem completes_servoMiss (hi : headInst s h = true) (hst : Machine.get s (F.HL_STATUS_STATE h) = 5) (hserved : (linkOf s h).served = false)
    (hnone : servoCopies (linkOf s h) = []) :
    Completes (.servoMiss h) s fun t =>
      Machine.get t (F.SV_MISS h) = trunc 32 (satAdd 32 (Machine.get s (F.SV_MISS h)) 1) ∧
      Machine.get t (F.HL_SERVO_CNT_MISS h) = trunc 16 (satAdd 16 (Machine.get s (F.HL_SERVO_CNT_MISS h)) 1) ∧
      Raised t (evHL h) B.HL_EVT_SERVO_MISS ∧ (servoOf t h).missRun = (servoOf s h).missRun + 1 ∧ (linkOf t h).served = true ∧
      WithinHead h s t ([F.SV_MISS h, F.HL_SERVO_CNT_MISS h] ++ evFields (evHL h)) := by
  have hh := headInst_lt hi
  have hapart : ∀ h < 64, (F.SV_MISS h).key ∉ (evFields (evHL h)).map Fld.key ∧ (F.HL_SERVO_CNT_MISS h).key ∉ (evFields (evHL h)).map Fld.key ∧
      (F.SV_MISS h).key ≠ (F.HL_SERVO_CNT_MISS h).key ∧ (evHL h).evt.key ≠ (F.SV_MISS h).key := by decide +kernel
  obtain ⟨hkmiss, hkcnt, hne, hevt⟩ := hapart h hh
  have hraise (i : Nat) (u : State) : AtHead h u (raise (evHL h) i u) (evFields (evHL h)) :=
    atHead_raise (by simp [evFields]) (by simp [evFields])
  refine completes_of_exec (if_neg (by simp [hi, hst, hserved, hnone])) ⟨?_, ?_, ?_, ?_, ?_, AtHead.within ?_⟩
  · rw [get_bump_same, (hraise _ _).get hkmiss, get_bump_ne hne, get_updHead]
    rfl
  · rw [get_bump_ne hne.symm, (hraise _ _).get hkcnt, get_bump_same, get_updHead]
    rfl
  · exact raised_of_get (get_bump_ne hevt) (raised_raise headEv_hl (by decide))
  · simp only [servoOf, getHead_bump, getHead_raise, getHead_updHead_same]
  · simp only [linkOf, getHead_bump, getHead_raise, getHead_updHead_same]
  · exact AtHead.thenPut (AtHead.thenRaise (AtHead.thenPut (AtHead.thenUpd (AtHead.refl h s _) _) (by simp)) (by simp [evFields])
      (by simp [evFields])) (by simp)

end misses

end Sys2Proof.Proofs
end

section
/-! SUPPORT. What the motion of an axis, the end of open slots and a seek change (R119, R187, R191, R260, R266). -/

namespace Sys2Proof.Proofs

open Sys2Proof.Machine Sys2Proof.Laws

/-! ### The motion of an axis -/

/-- Nothing has changed but one axis, the listed fields and the event log. -/
structure AtAxis (b a : Nat) (s t : State) (fs : List Fld) : Prop where
  shape  : ∃ r l x, t = { s with regs := r, log := l, axes := x }
  others : OnlyAx b a s t
  only   : OnlyFields s t fs

section axis
variable {b a : Nat} {s t u : State} {fs : List Fld} {f : Fld}

theorem AtAxis.refl (b a : Nat) (s : State) (fs : List Fld) : AtAxis b a s s fs :=
  ⟨⟨s.regs, s.log, s.axes, rfl⟩, fun _ _ _ _ => rfl, only_refl s fs⟩

theorem AtAxis.thenPut (k : AtAxis b a s t fs) {v : Nat} (hf : f ∈ fs) : AtAxis b a s (put f v t) fs := by
  obtain ⟨⟨_, l, x, rfl⟩, ho, hk⟩ := k
  exact ⟨⟨_, l, x, rfl⟩, ho, only_put hk (List.mem_map_of_mem hf)⟩

theorem AtAxis.thenRaise (k : AtAxis b a s t fs) {e : EvReg} {i : Nat} (he : e.evt ∈ fs) (hl : F.EVT_LOG_HEAD ∈ fs) :
    AtAxis b a s (raise e i t) fs := by
  obtain ⟨⟨_, _, x, rfl⟩, ho, hk⟩ := k
  obtain ⟨r, l, hr, -⟩ := raise_cases e i { s with regs := _, log := _, axes := x }
  exact ⟨⟨r, l, x, hr⟩, hr ▸ ho, only_raise hk (List.mem_map_of_mem he) (List.mem_map_of_mem hl)⟩

theorem AtAxis.thenUpd (k : AtAxis b a s t fs) (ha : a < 4) (g : Axis → Axis) : AtAxis b a s (updAx b a g t) fs := by
  obtain ⟨⟨r, l, x, rfl⟩, ho, hk⟩ := k
  refine ⟨⟨r, l, _, rfl⟩, fun j i hij hi => ?_, hk⟩
  rw [← ho j i hij hi]
  refine (mapGet_put _ _ _ _ _).trans (if_neg fun e => hij ?_)
  rw [Prod.mk.injEq]
  omega

/-- The rules of the list of an axis's fields that a motion writes. -/
theorem axRefuse_atAxis (k : AtAxis b a s t (moveFields b a)) (r : Nat) : AtAxis b a s (axRefuse b a r t) (moveFields b a) :=
  k.thenPut (by simp [moveFields, axFields])

theorem axHalt_atAxis (k : AtAxis b a s t (moveFields b a)) (ha : a < 4) : AtAxis b a s (axHalt b a t) (moveFields b a) :=
  AtAxis.thenPut (k.thenUpd ha _) (by simp [moveFields, axFields])

theorem axEnter_atAxis (k : AtAxis b a s t (moveFields b a)) (st : Nat) : AtAxis b a s (axEnter b a st t) (moveFields b a) := by
  have hput : AtAxis b a s (put (F.MOV_AX_STATUS_STATE b a) st t) (moveFields b a) := k.thenPut (by simp [moveFields, axFields])
  unfold axEnter
  dsimp only
  split
  · exact hput.thenRaise (by simp [moveFields, axFields, evMOV]) (by simp [moveFields, axFields])
  · exact hput

theorem axResult_atAxis (k : AtAxis b a s t (moveFields b a)) (r : Nat) : AtAxis b a s (axResult b a r t) (moveFields b a) :=
  (k.thenPut (by simp [moveFields, axFields])).thenPut (by simp [moveFields, axFields])

theorem moveDone_atAxis (k : AtAxis b a s t (moveFields b a)) (ha : a < 4) : AtAxis b a s (moveDone b a t) (moveFields b a) :=
  AtAxis.thenRaise (axEnter_atAxis (AtAxis.thenPut (axResult_atAxis (axHalt_atAxis k ha) 0) (by simp [moveFields])) _)
    (by simp [moveFields, axFields, evMOV]) (by simp [moveFields, axFields])

theorem axGo_atAxis (k : AtAxis b a s t (moveFields b a)) (ha : a < 4) (p : Int) : AtAxis b a s (axGo b a p t) (moveFields b a) :=
  AtAxis.thenPut (AtAxis.thenUpd (AtAxis.thenUpd k ha _) ha _) (by simp [moveFields])

theorem axBrake_atAxis (k : AtAxis b a s t (moveFields b a)) (ha : a < 4) (dec plan : Nat) :
    AtAxis b a s (axBrake b a dec plan t) (moveFields b a) := by
  unfold axBrake
  exact k.thenUpd ha _

theorem retarget_atAxis (k : AtAxis b a s t (moveFields b a)) (ha : a < 4) (p : Int) : AtAxis b a s (retarget b a p t) (moveFields b a) := by
  unfold retarget
  extract_lets x p₀ r dec dmax
  split
  · exact axGo_atAxis k ha p
  · split
    · exact k.thenUpd ha _
    · split
      · exact k.thenUpd ha _
      · exact AtAxis.thenUpd (axBrake_atAxis k ha _ _) ha _

/-- A move changes its axis and the axis's registers (R259, R260, R266). -/
theorem axMoveTo_atAxis (k : AtAxis b a s t (moveFields b a)) (ha : a < 4) (p : Int) : AtAxis b a s (axMoveTo b a p t) (moveFields b a) := by
  have hbusy (g : Axis → Axis) : AtAxis b a s (put (F.MOV_AX_STATUS_BUSY b a) 1 (updAx b a g t)) (moveFields b a) :=
    AtAxis.thenPut (k.thenUpd ha g) (by simp [moveFields, axFields])
  unfold axMoveTo
  dsimp only
  split
  · exact axRefuse_atAxis k _
  · split
    · exact axRefuse_atAxis k _
    · split
      · exact axRefuse_atAxis k _
      · split
        · exact moveDone_atAxis (hbusy _) ha
        · exact axEnter_atAxis (retarget_atAxis (hbusy _) ha _) _

end axis

/-! ### Frames of one head and its drive -/

/-- Nothing has changed but one head, decoder pools, axes, the listed fields and the event log. -/
structure AtDrive (h : Nat) (s t : State) (fs : List Fld) : Prop where
  shape  : ∃ r l hs p x, t = { s with regs := r, log := l, heads := hs, pools := p, axes := x }
  others : OnlyHead h s t
  only   : OnlyFields s t fs

section drive
variable {h : Nat} {s t u : State} {fs gs : List Fld} {f : Fld}

theorem AtHead.drive (k : AtHead h s t fs) : AtDrive h s t fs := by
  obtain ⟨⟨r, l, hs, rfl⟩, ho, hf⟩ := k
  exact ⟨⟨r, l, hs, s.pools, s.axes, rfl⟩, ho, hf⟩

theorem AtAxis.drive {b a : Nat} (k : AtAxis b a s t fs) : AtDrive h s t fs := by
  obtain ⟨⟨r, l, x, rfl⟩, -, hf⟩ := k
  exact ⟨⟨r, l, s.heads, s.pools, x, rfl⟩, fun _ _ => rfl, hf⟩

theorem AtDrive.trans (k : AtDrive h s t fs) (l : AtDrive h t u fs) : AtDrive h s u fs := by
  obtain ⟨⟨_, _, _, _, _, rfl⟩, ho, hf⟩ := k
  obtain ⟨⟨r, g, hs, p, x, rfl⟩, lo, lf⟩ := l
  exact ⟨⟨r, g, hs, p, x, rfl⟩, fun g hg => (lo g hg).trans (ho g hg), only_trans hf lf⟩

theorem AtDrive.mono (k : AtDrive h s t fs) (hs : fs ⊆ gs) : AtDrive h s t gs :=
  ⟨k.shape, k.others, only_mono k.only fun _ hf => List.mem_map_of_mem (hs hf)⟩

theorem AtDrive.get (k : AtDrive h s t fs) (hf : f.key ∉ fs.map Fld.key) : Machine.get t f = Machine.get s f := k.only f hf

theorem AtDrive.refl (h : Nat) (s : State) (fs : List Fld) : AtDrive h s s fs := (AtHead.refl h s fs).drive
theorem AtDrive.thenPut (k : AtDrive h s t fs) {v : Nat} (hf : f ∈ fs) : AtDrive h s (put f v t) fs := k.trans (atHead_put hf).drive
theorem AtDrive.thenPutAll (k : AtDrive h s t fs) {l : List (Fld × Nat)} (hl : ∀ p ∈ l, p.1 ∈ fs) : AtDrive h s (putAll l t) fs :=
  k.trans (atHead_putAll hl).drive
theorem AtDrive.thenUpd (k : AtDrive h s t fs) (g : Head → Head) : AtDrive h s (updHead h g t) fs := k.trans (atHead_updHead h g t fs).drive
theorem AtDrive.thenRaise (k : AtDrive h s t fs) {e : EvReg} {i : Nat} (he : e.evt ∈ fs) (hl : F.EVT_LOG_HEAD ∈ fs) :
    AtDrive h s (raise e i t) fs := k.trans (atHead_raise he hl).drive

theorem AtDrive.thenPool (k : AtDrive h s t fs) (q : Nat) (g : Pool → Pool) : AtDrive h s (updPool q g t) fs :=
  k.trans ⟨⟨t.regs, t.log, t.heads, _, t.axes, rfl⟩, fun _ _ => rfl, only_refl t fs⟩

end drive

/-! ### Open slots -/

/-- The registers of a head's two decoder pools that follow the jobs dropped there. -/
def poolFields (h : Nat) : List Fld :=
  [F.CH_POOL_STATUS_DEPTH (4 * (h / 4)), F.CH_POOL_PEAK (4 * (h / 4)), F.CH_POOL_STATUS_DEPTH (4 * (h / 4 ^^^ 1)), F.CH_POOL_PEAK (4 * (h / 4 ^^^ 1))]

/-- What the end of open slots writes (R119, R165). -/
def abandonFields (h : Nat) : List Fld :=
  [F.CH_ABANDON h, F.CH_LADDER_STATUS_PENDING h, F.WRP_VFY_FAIL h, F.WRP_EVT h, F.EVT_LOG_HEAD] ++ poolFields h

section slots
variable {h : Nat} {s t : State} {fs : List Fld}

theorem poolDepth_drive (k : AtDrive h s t fs) {q : Nat} (hd : F.CH_POOL_STATUS_DEPTH (4 * q) ∈ fs) (hp : F.CH_POOL_PEAK (4 * q) ∈ fs) :
    AtDrive h s (poolDepth q t) fs :=
  AtDrive.thenPut (AtDrive.thenPut (k.thenPool q _) hd) hp

theorem dropJobs_drive (k : AtDrive h s t fs) (hp : poolFields h ⊆ fs) (addr : Nat) : AtDrive h s (dropJobs h addr t) fs := by
  have hm {f : Fld} (hf : f ∈ poolFields h) : f ∈ fs := hp hf
  exact poolDepth_drive (poolDepth_drive (AtDrive.thenPool (AtDrive.thenPool k _ _) _ _) (hm (by simp [poolFields])) (hm (by simp [poolFields])))
    (hm (by simp [poolFields])) (hm (by simp [poolFields]))

theorem countPending_drive (k : AtDrive h s t fs) (hf : F.CH_LADDER_STATUS_PENDING h ∈ fs) : AtDrive h s (countPending h t) fs := k.thenPut hf

theorem verifyFail_drive (k : AtDrive h s t fs) (hc : F.WRP_VFY_FAIL h ∈ fs) (he : F.WRP_EVT h ∈ fs) (hl : F.EVT_LOG_HEAD ∈ fs) (addr : Nat) :
    AtDrive h s (verifyFail h addr t) fs := by
  unfold verifyFail
  dsimp only
  split
  · exact k
  · split
    · exact k
    · exact AtDrive.thenRaise (AtDrive.thenPut (k.thenUpd _) hc) he hl

theorem foldl_drive {α : Type} {g : State → α → State} (l : List α) (k : AtDrive h s t fs)
    (hg : ∀ u x, AtDrive h s u fs → AtDrive h s (g u x) fs) : AtDrive h s (l.foldl g t) fs := by
  induction l generalizing t with
  | nil => exact k
  | cons x l ih => exact ih (hg t x k)

/-- Abandoned slots leave the servo, the link and the other heads (R119, R165). -/
theorem abandonSlots_drive (k : AtDrive h s t fs) (hs : abandonFields h ⊆ fs) (p : OpenSlot → Bool) :
    AtDrive h s (abandonSlots h p t) fs := by
  have hm {f : Fld} (hf : f ∈ abandonFields h) : f ∈ fs := hs hf
  have hp : poolFields h ⊆ fs := fun _ hf => hs (List.mem_append_right _ hf)
  unfold abandonSlots
  extract_lets gone s1
  split
  · exact k
  · refine countPending_drive (AtDrive.thenPut (foldl_drive gone (k.thenUpd _) fun u o hu => ?_) (hm (by simp [abandonFields])))
      (hm (by simp [abandonFields]))
    split
    · exact verifyFail_drive (dropJobs_drive hu hp _) (hm (by simp [abandonFields])) (hm (by simp [abandonFields]))
        (hm (by simp [abandonFields])) _
    · exact dropJobs_drive hu hp _

end slots

/-! ### Seeks -/

/-- What a seek writes. -/
def seekFields (h : Nat) : List Fld := abandonFields h ++ confirmFields h ++ svFields h ++ moveFields (bayOf h) (h % 2)

section seek
variable {h : Nat} {s t : State} {fs : List Fld}

theorem svState_drive (k : AtDrive h s t fs) (hs : svFields h ⊆ fs) {st : Nat} (hst : st ≠ 10) : AtDrive h s (svState h st t) fs :=
  k.trans ((atHead_svState hst h t).mono hs).drive

theorem goState_drive (k : AtDrive h s t fs) (hs : svFields h ⊆ fs) {st : Nat} (hst : st ≠ 10) : AtDrive h s (goState h st t) fs := by
  unfold goState
  split
  · exact k.thenUpd _
  · exact svState_drive k hs hst

theorem startJump_drive (k : AtDrive h s t fs) (hs : svFields h ⊆ fs) (layer : Nat) : AtDrive h s (startJump h layer t) fs :=
  goState_drive (goState_drive (k.thenUpd _) hs (by decide)) hs (by decide)

theorem startRadial_drive (k : AtDrive h s t fs) (hs : svFields h ⊆ fs) (hm : moveFields (bayOf h) (h % 2) ⊆ fs) :
    AtDrive h s (startRadial h t) fs := by
  unfold startRadial
  extract_lets v d mode s1 b ax
  have h1 : AtDrive h s s1 fs := goState_drive (k.thenUpd _) hs (by decide)
  split
  · exact h1.trans (((axMoveTo_atAxis (AtAxis.refl b ax s1 _) (by omega) _).drive (h := h)).mono hm)
  · exact h1

theorem clearConfirm_drive (k : AtDrive h s t fs) (hc : confirmFields h ⊆ fs) (hp : permitFields h ⊆ fs) :
    AtDrive h s (clearConfirm h t) fs :=
  k.trans ((atHead_clearConfirm h t).mono (List.append_subset.2 ⟨hc, hp⟩)).drive

theorem permits_subset_sv (h : Nat) : permitFields h ⊆ svFields h := by simp [permitFields, svFields]

/-- What a seek writes once the address is no longer confirmed. -/
def seekTailFields (h : Nat) : List Fld := abandonFields h ++ svFields h ++ moveFields (bayOf h) (h % 2)

theorem startSeek_from (h band layer : Nat) (s : State) : AtDrive h (clearConfirm h s) (startSeek h band layer s) (seekTailFields h) := by
  have hsv : svFields h ⊆ seekTailFields h := fun f hf => by simp [seekTailFields, hf]
  have h1 := abandonSlots_drive (AtDrive.refl h (clearConfirm h s) (seekTailFields h)) (fun f hf => by simp [seekTailFields, hf]) fun _ => true
  unfold startSeek
  extract_lets s1
  have h2 : AtDrive h (clearConfirm h s) s1 (seekTailFields h) := h1.thenUpd _
  split
  · exact startJump_drive h2 hsv layer
  · exact startRadial_drive h2 hsv (List.subset_append_right ..)

/-- A seek changes its head, its sled and the decoder jobs of its open slots (R119, R187, R191). -/
theorem startSeek_drive (k : AtDrive h s t fs) (hs : seekFields h ⊆ fs) (band layer : Nat) : AtDrive h s (startSeek h band layer t) fs := by
  simp only [seekFields, List.append_subset] at hs
  obtain ⟨⟨⟨ha, hc⟩, hsv⟩, hm⟩ := hs
  have htail : seekTailFields h ⊆ fs := by simp only [seekTailFields, List.append_subset]; exact ⟨⟨ha, hsv⟩, hm⟩
  exact (clearConfirm_drive k hc fun f hf => hsv (permits_subset_sv h hf)).trans ((startSeek_from h band layer t).mono htail)

end seek

end Sys2Proof.Proofs
end

section
/-! SUPPORT. What a confirmed address, a mismatch and the arrival at a target change (R32, R178, R183, R187). -/

namespace Sys2Proof.Proofs

open Sys2Proof.Machine Sys2Proof.Laws

/-! ### The last confirmed address through the servo's operations -/

section lastConf
variable {h st : Nat} {s : State}

/-- Whether an address is the one that was confirmed last. -/
def LastConf (c : Option (Nat × Nat × Nat)) (s : State) (h : Nat) : Prop := (getHead s h).sv.lastConf = c

variable {c : Option (Nat × Nat × Nat)}

theorem lastConf_of_sv {t : State} (k : LastConf c s h) (e : (getHead t h).sv = (getHead s h).sv) : LastConf c t h := by
  rw [LastConf, e]
  exact k

theorem lastConf_svState (k : LastConf c s h) (hst : st ≠ 10) : LastConf c (svState h st s) h := by
  have hcore : (headCore (getHead (svState h st s) h)).sv.lastConf = (headCore (getHead s h)).sv.lastConf := by rw [headCore_svState hst]
  exact hcore.trans k

theorem lastConf_updServo {g : Servo → Servo} (k : LastConf c s h) (hg : (g (getHead s h).sv).lastConf = (getHead s h).sv.lastConf) :
    LastConf c (updServo h g s) h := by
  rw [LastConf, getHead_updServo]
  exact hg.trans k

theorem lastConf_svDone (k : LastConf c s h) : LastConf c (svDone h s) h := lastConf_of_sv k (by rw [getHead_svDone])
theorem lastConf_svResult (k : LastConf c s h) (r : Nat) : LastConf c (svResult h r s) h := lastConf_of_sv k (by rw [getHead_svResult])
theorem lastConf_clearConfirm (k : LastConf c s h) : LastConf c (clearConfirm h s) h := lastConf_of_sv k (by rw [getHead_clearConfirm])
theorem lastConf_raise (k : LastConf c s h) (e : EvReg) (i : Nat) : LastConf c (raise e i s) h := lastConf_of_sv k (by rw [getHead_raise])
theorem lastConf_bump (k : LastConf c s h) (f : Fld) (n : Nat) : LastConf c (bump f n s) h := k

theorem getHead_dropJobs (addr g : Nat) : getHead (dropJobs h addr s) g = getHead s g := rfl

theorem sv_updWrite (g : Write → Write) : (getHead (updWrite h g s) h).sv = (getHead s h).sv := by
  rw [updWrite, getHead_updHead_same]

theorem sv_verifyFail (addr : Nat) : (getHead (verifyFail h addr s) h).sv = (getHead s h).sv := by
  unfold verifyFail
  dsimp only
  split
  · rfl
  · split
    · rfl
    · rw [getHead_raise, getHead_bump, sv_updWrite]

theorem sv_abandonSlots (p : OpenSlot → Bool) : (getHead (abandonSlots h p s) h).sv = (getHead s h).sv := by
  have hfold (l : List OpenSlot) (t : State) : (getHead (l.foldl (fun t o =>
      if o.verify then verifyFail h o.addr (dropJobs h o.addr t) else dropJobs h o.addr t) t) h).sv = (getHead t h).sv := by
    induction l generalizing t with
    | nil => rfl
    | cons o l ih =>
      rw [List.foldl_cons, ih]
      split
      · rw [sv_verifyFail, getHead_dropJobs]
      · rw [getHead_dropJobs]
  unfold abandonSlots
  extract_lets gone s1
  split
  · rfl
  · rw [countPending, getHead_put, getHead_bump, hfold, getHead_updChan]

theorem lastConf_abandonSlots (k : LastConf c s h) (p : OpenSlot → Bool) : LastConf c (abandonSlots h p s) h :=
  lastConf_of_sv k (sv_abandonSlots p)

theorem lastConf_goState (k : LastConf c s h) (hst : st ≠ 10) : LastConf c (goState h st s) h := by
  unfold goState
  split
  · exact lastConf_updServo k rfl
  · exact lastConf_svState k hst

theorem getHead_axMoveTo {b a : Nat} (ha : a < 4) (p : Int) (s : State) (g : Nat) : getHead (axMoveTo b a p s) g = getHead s g := by
  obtain ⟨_, _, _, hs⟩ := (axMoveTo_atAxis (AtAxis.refl b a s _) ha p).shape
  rw [hs]
  rfl

theorem lastConf_startRadial (k : LastConf c s h) : LastConf c (startRadial h s) h := by
  unfold startRadial
  extract_lets v d mode s1 b ax
  have h1 : LastConf c s1 h := lastConf_goState (lastConf_updServo k rfl) (by decide)
  split
  · exact lastConf_of_sv h1 (by rw [getHead_axMoveTo (by omega)])
  · exact h1

theorem lastConf_startSeek (k : LastConf c s h) (band layer : Nat) : LastConf c (startSeek h band layer s) h := by
  have h0 := lastConf_abandonSlots (lastConf_clearConfirm k) fun _ => true
  unfold startSeek
  extract_lets s1
  have h1 : LastConf c s1 h := lastConf_updServo h0 rfl
  split
  · exact lastConf_goState (lastConf_goState (lastConf_updServo h1 rfl) (by decide)) (by decide)
  · exact lastConf_startRadial h1

theorem lastConf_onTarget (k : LastConf c s h) : LastConf c (onTarget h s) h :=
  lastConf_updServo (lastConf_svDone (lastConf_svState k (by decide))) rfl

theorem lastConf_seekFailed (k : LastConf c s h) : LastConf c (seekFailed h s) h :=
  lastConf_svState (lastConf_raise (lastConf_bump (lastConf_updServo (lastConf_svResult k 1) rfl) _ _) _ _) (by decide)

end lastConf

/-! ### Frames -/

/-- What the end of a command that has succeeded writes (R197). -/
def resultFields (h : Nat) : List Fld :=
  [F.SV_SEEKS h, F.SV_SEEK_TIME_MAX h, F.SV_SEEK_TIME_LAST h] ++ svCmdFields h ++ evFields (evSV h)
/-- What the end of a command that has reached its target writes (R187, R197). -/
def doneFields (h : Nat) : List Fld := resultFields h ++ svFields h
/-- What a seek that fails writes (R187). -/
def failFields (h : Nat) : List Fld := F.SV_SEEK_FAIL h :: (svCmdFields h ++ svFields h)
/-- What a mismatch, and the corrective seek or its failure, write (R32, R183). -/
def correctFields (h : Nat) : List Fld :=
  [F.CH_ADDR_MISMATCH h, F.CH_EVT h, F.SV_POS_BAND h, F.SV_POS_LAYER h, F.SV_POS_SIDE h, F.SV_CORRECTIVE h] ++ failFields h ++ seekFields h

section frames
variable {h : Nat} {s t : State} {fs : List Fld}

theorem atHead_svDone (h : Nat) (s : State) : AtHead h s (svDone h s) (resultFields h) := by
  unfold svDone
  extract_lets us s1
  split
  · exact AtHead.refl h s _
  · have h1 : AtHead h s s1 (resultFields h) := AtHead.thenRaise ((atHead_svResult h 0 s).mono fun f hf => by simp [resultFields, hf])
      (by simp [resultFields, evFields]) (by simp [resultFields, evFields])
    split
    · exact AtHead.thenPut (AtHead.thenPut (AtHead.thenPut h1 (by simp [resultFields])) (by simp [resultFields])) (by simp [resultFields])
    · exact h1

theorem atHead_onTarget (h : Nat) (s : State) : AtHead h s (onTarget h s) (doneFields h) := by
  have h5 : AtHead h s (svState h 5 s) (doneFields h) := (atHead_svState (by decide) h s).mono (List.subset_append_right ..)
  unfold onTarget
  exact (h5.trans ((atHead_svDone h _).mono (List.subset_append_left ..))).thenUpd _

theorem atHead_seekFailed (h : Nat) (s : State) : AtHead h s (seekFailed h s) (failFields h) := by
  refine AtHead.trans (AtHead.thenRaise (AtHead.thenPut (AtHead.thenUpd ((atHead_svResult h 1 s).mono ?_) _) ?_) ?_ ?_)
    ((atHead_svState (by decide) h _).mono ?_)
  all_goals simp [failFields, svCmdFields, svFields, permitFields, evSV]

/-- The state in which an address that differs becomes the present position (R32). -/
def relocated (h : Nat) (u : AddrUnit) (s : State) : State :=
  putAll [(F.SV_POS_BAND h, u.turn), (F.SV_POS_LAYER h, u.layer), (F.SV_POS_SIDE h, u.side)]
    (updChan h (fun c => { c with bands := [], differ := 0, expect := none }) (abandonSlots h (fun _ => true) (clearConfirm h
      (raiseCH h B.CH_EVT_ADDR_MISMATCH (bump (F.CH_ADDR_MISMATCH h) 1 s)))))

theorem relocated_drive (h : Nat) (u : AddrUnit) (s : State) : AtDrive h s (relocated h u s) (correctFields h) := by
  have hs : seekFields h ⊆ correctFields h := List.subset_append_right ..
  have ha : abandonFields h ⊆ correctFields h := fun f hf => hs (by simp [seekFields, hf])
  refine AtDrive.thenPutAll (AtDrive.thenUpd (abandonSlots_drive (clearConfirm_drive (AtDrive.thenRaise (AtDrive.thenPut
    (AtDrive.refl h s _) ?_) ?_ ?_) ?_ ?_) ha _) _) ?_
  all_goals simp [correctFields, seekFields, evCH, svFields, permitFields, confirmFields]

theorem lastConf_relocated {c : Option (Nat × Nat × Nat)} (k : LastConf c s h) (u : AddrUnit) : LastConf c (relocated h u s) h := by
  refine lastConf_of_sv (lastConf_abandonSlots (lastConf_clearConfirm (lastConf_raise (lastConf_bump k (F.CH_ADDR_MISMATCH h) 1) (evCH h)
    B.CH_EVT_ADDR_MISMATCH)) fun _ => true) ?_
  rw [relocated, getHead_putAll, getHead_updChan]
  rfl

/-- A mismatch ends in one of four states: relocated, the failed command's, or a corrective seek's (R32, R183). -/
theorem addrMismatch_cases (h : Nat) (u : AddrUnit) (s : State) : addrMismatch h u s = relocated h u s ∨
    addrMismatch h u s = seekFailed h (relocated h u s) ∨ ∃ b l, addrMismatch h u s = startSeek h b l (raise (evSV h) B.SV_EVT_ADDR_CORRECT
      (bump (F.SV_CORRECTIVE h) 1 (updServo h (fun v => { v with corr := v.corr + 1 }) (relocated h u s)))) := by
  unfold addrMismatch
  dsimp only
  split
  · exact .inl rfl
  · split
    · exact .inl rfl
    · split
      · exact .inr (.inl rfl)
      · exact .inr (.inr ⟨_, _, rfl⟩)

end frames

end Sys2Proof.Proofs
end

section
/-! SUPPORT. The confirmation of an address (R32, R107, R178, R183). -/

namespace Sys2Proof.Proofs

open Sys2Proof.Machine Sys2Proof.Laws

/-- A field that a list writes once reads what it was given. -/
theorem get_putAll_mem {l : List (Fld × Nat)} {f : Fld} {v : Nat} {s : State} (hn : (l.map fun p => p.1.key).Nodup) (hm : (f, v) ∈ l) :
    Machine.get (putAll l s) f = trunc f.width v := by
  induction l generalizing s with
  | nil => cases hm
  | cons p l ih =>
    rw [List.map_cons, List.nodup_cons] at hn
    obtain ⟨hp, hl⟩ := hn
    rw [putAll]
    rcases List.mem_cons.1 hm with rfl | hm
    · rw [get_putAll_ne l f _ fun q hq e => hp (List.mem_map.2 ⟨q, hq, e.symm⟩)]
      exact get_put_same ..
    · exact ih hl hm

/-- The address is confirmed no more (R32). -/
theorem get_clearConfirm {h : Nat} {f : Fld} (hh : h < 64) (hf : f ∈ confirmFields h) (s : State) : Machine.get (clearConfirm h s) f = 0 := by
  have hapart : ∀ h < 64, ((confirmFields h).map Fld.key).Nodup ∧ ∀ f ∈ confirmFields h, f.key ∉ (permitFields h).map Fld.key := by
    decide +kernel
  obtain ⟨hnodup, hpermit⟩ := hapart h hh
  rw [clearConfirm, (atHead_permits h _).get (hpermit f hf)]
  exact (get_putAll_mem (l := (confirmFields h).map fun f => (f, 0)) hnodup (List.mem_map_of_mem (f := fun f => (f, 0)) hf)).trans (Nat.zero_mod _)

/-! ### The confirmation's own writes -/

/-- What a confirmation writes of the address, and the registers it writes it to (R32, R107). -/
def confirmWrites (h : Nat) (u : AddrUnit) : List (Fld × Nat) :=
  [(F.CH_STATUS_ADDR_CONF h, 1), (F.CH_ADDR_BAND h, u.turn), (F.CH_ADDR_LAYER h, u.layer), (F.CH_ADDR_SIDE h, u.side),
    (F.CH_ADDR_CONFIRMED h, 1), (F.SV_POS_BAND h, u.turn), (F.SV_POS_LAYER h, u.layer), (F.SV_POS_SIDE h, u.side),
    (F.SV_POS_CONFIRMED h, 1), (F.CH_FRET_FRET h, fretOf u.turn)]
def confirmed0 (h : Nat) : List Fld :=
  [F.CH_STATUS_ADDR_CONF h, F.CH_ADDR_BAND h, F.CH_ADDR_LAYER h, F.CH_ADDR_SIDE h, F.CH_ADDR_CONFIRMED h, F.SV_POS_BAND h, F.SV_POS_LAYER h,
    F.SV_POS_SIDE h, F.SV_POS_CONFIRMED h, F.CH_FRET_FRET h]
/-- What changes in the window until the confirmation has its event. -/
def confirmedFields (h : Nat) : List Fld := confirmed0 h ++ (permitFields h ++ evFields (evCH h))

/-- The head knows its address. -/
def addressKnown (h : Nat) (u : AddrUnit) (s : State) : State :=
  let s2 := putAll (confirmWrites h u) (updHead h (fun (x : Head) =>
    { x with
      ch := { x.ch with bands := [], expect := some u, differ := 0 }
      sv := { x.sv with lastConf := some (u.turn, u.layer, u.side) } }) s)
  if (chanOf s h).askedFret = none ∧ Machine.get s (F.HL_STATUS_STATE h) = 5 then askFret h (fretOf u.turn) 0 s2 else s2

/-- The confirmation with its event and the judgment of the permits. -/
def addressConfirmed (h : Nat) (u : AddrUnit) (s : State) : State := permits h (raiseCH h B.CH_EVT_ADDR_CONFIRMED (addressKnown h u s))

section confirm
variable {h : Nat} {u : AddrUnit} {s t : State} {f : Fld}

theorem atHead_sendLead (h ty : Nat) (p : List Nat) (lead : Nat) (s : State) (fs : List Fld) : AtHead h s (sendLead h ty p lead s) fs := by
  unfold sendLead
  split
  · exact atHead_updHead h _ s fs
  · exact AtHead.refl h s fs

theorem atHead_askFret (h fret sf : Nat) (s : State) (fs : List Fld) : AtHead h s (askFret h fret sf s) fs := by
  unfold askFret
  refine AtHead.thenUpd ?_ _
  unfold sendAdc
  dsimp only
  split
  · exact (atHead_sendLead h _ _ _ s fs).thenUpd _
  · exact AtHead.refl h s fs

/-- The request for an ADC configuration goes to the link and is noted in the channel (R117). -/
theorem getHead_askFret (h fret sf : Nat) (s : State) : (getHead (askFret h fret sf s) h).sv = (getHead s h).sv ∧
    (getHead (askFret h fret sf s) h).ch = { (getHead s h).ch with askedFret := some fret } := by
  have hsend (a b c : Nat) : (getHead (sendAdc h a b c s) h).sv = (getHead s h).sv ∧ (getHead (sendAdc h a b c s) h).ch = (getHead s h).ch := by
    unfold sendAdc sendLead
    dsimp only
    split
    · simp only [updLink, getHead_updHead_same, and_self]
    · exact ⟨rfl, rfl⟩
  unfold askFret
  rw [getHead_updChan]
  exact ⟨(hsend _ _ _).1, by rw [(hsend _ _ _).2]⟩

theorem atHead_addressKnown (h : Nat) (u : AddrUnit) (s : State) : AtHead h s (addressKnown h u s) (confirmed0 h) := by
  unfold addressKnown
  extract_lets s2
  have h2 : AtHead h s s2 (confirmed0 h) :=
    (atHead_updHead h _ s _).trans (atHead_putAll (by simp [confirmWrites, confirmed0]))
  split
  · exact h2.trans (atHead_askFret h _ _ s2 _)
  · exact h2

theorem atHead_addressConfirmed (h : Nat) (u : AddrUnit) (s : State) : AtHead h s (addressConfirmed h u s) (confirmedFields h) :=
  (((atHead_addressKnown h u s).mono (List.subset_append_left ..)).thenRaise (by simp [evFields])
    (by simp [evFields])).trans ((atHead_permits h _).mono fun f hf => by simp [hf])

theorem servo_addressConfirmed (h : Nat) (u : AddrUnit) (s : State) : (getHead (addressConfirmed h u s) h).sv
    = { (getHead s h).sv with lastConf := some (u.turn, u.layer, u.side) } ∧
      (getHead (addressConfirmed h u s) h).ch.last = (getHead s h).ch.last := by
  rw [addressConfirmed, getHead_permits, raiseCH, getHead_raise, addressKnown]
  split
  · obtain ⟨hsv, hch⟩ := getHead_askFret h (fretOf u.turn) 0 (putAll (confirmWrites h u) (updHead h (fun (x : Head) =>
      { x with
        ch := { x.ch with bands := [], expect := some u, differ := 0 }
        sv := { x.sv with lastConf := some (u.turn, u.layer, u.side) } }) s))
    rw [hsv, hch, getHead_putAll, getHead_updHead_same]
    exact ⟨rfl, rfl⟩
  · rw [getHead_putAll, getHead_updHead_same]
    exact ⟨rfl, rfl⟩

/-- The registers of the confirmation are apart from each other and from the permits and the event. -/
theorem confirmed_apart : ∀ h < 64, ((confirmed0 h).map Fld.key).Nodup ∧
    ∀ f ∈ confirmed0 h, f.key ∉ (permitFields h ++ evFields (evCH h)).map Fld.key := by decide +kernel

theorem get_addressConfirmed (hh : h < 64) {v : Nat} (hm : (f, v) ∈ confirmWrites h u) :
    Machine.get (addressConfirmed h u s) f = trunc f.width v := by
  obtain ⟨hnodup, hapart⟩ := confirmed_apart h hh
  have hmem : f ∈ confirmed0 h := List.mem_map_of_mem (f := Prod.fst) hm
  have hkey := hapart f hmem
  have hlast : AtHead h (addressKnown h u s) (addressConfirmed h u s) (permitFields h ++ evFields (evCH h)) :=
    ((AtHead.refl h _ _).thenRaise (by simp [evFields]) (by simp [evFields])).trans ((atHead_permits h _).mono (List.subset_append_left ..))
  rw [hlast.get hkey, addressKnown]
  split
  · rw [(atHead_askFret h _ _ _ []).get (by simp)]
    exact get_putAll_mem hnodup hm
  · exact get_putAll_mem hnodup hm

theorem raised_addressConfirmed (hh : h < 64) : Raised (addressConfirmed h u s) (evCH h) B.CH_EVT_ADDR_CONFIRMED :=
  raised_of_get ((atHead_permits h _).get
    ((by decide +kernel : ∀ h < 64, (evCH h).evt.key ∉ (permitFields h).map Fld.key) h hh)) (raised_raise headEv_ch (by decide))

/-! ### The address and what follows a confirmation -/

/-- The address stands in the registers, and its confirmation has been reported. -/
structure Placed (h : Nat) (u : AddrUnit) (t : State) : Prop where
  event : Raised t (evCH h) B.CH_EVT_ADDR_CONFIRMED
  last  : LastConf (some (u.turn, u.layer, u.side)) t h
  band  : Machine.get t (F.SV_POS_BAND h) = trunc 14 u.turn
  addr  : Machine.get t (F.CH_ADDR_BAND h) = trunc 14 u.turn
  layer : Machine.get t (F.SV_POS_LAYER h) = trunc 4 u.layer
  side  : Machine.get t (F.SV_POS_SIDE h) = trunc 1 u.side

/-- The registers of `Placed`. -/
def placeFields (h : Nat) : List Fld := [F.CH_EVT h, F.SV_POS_BAND h, F.CH_ADDR_BAND h, F.SV_POS_LAYER h, F.SV_POS_SIDE h]

theorem placed_addressConfirmed (hh : h < 64) : Placed h u (addressConfirmed h u s) where
  event := raised_addressConfirmed hh
  last := by rw [LastConf, (servo_addressConfirmed h u s).1]
  band := get_addressConfirmed hh (by simp [confirmWrites])
  addr := get_addressConfirmed hh (by simp [confirmWrites])
  layer := get_addressConfirmed hh (by simp [confirmWrites])
  side := get_addressConfirmed hh (by simp [confirmWrites])

/-- Operations apart from these registers leave them. -/
theorem Placed.of_drive {fs : List Fld} (k : Placed h u s) (hd : AtDrive h s t fs) (hfs : ∀ f ∈ placeFields h, f.key ∉ fs.map Fld.key)
    (hl : LastConf (some (u.turn, u.layer, u.side)) t h) : Placed h u t where
  event := raised_of_get (hd.get (hfs _ (by simp [placeFields, evCH]))) k.event
  last := hl
  band := (hd.get (hfs _ (by simp [placeFields]))).trans k.band
  addr := (hd.get (hfs _ (by simp [placeFields]))).trans k.addr
  layer := (hd.get (hfs _ (by simp [placeFields]))).trans k.layer
  side := (hd.get (hfs _ (by simp [placeFields]))).trans k.side

theorem place_apart : ∀ h < 64, ∀ f ∈ placeFields h, f.key ∉ (doneFields h ++ failFields h ++ (F.SV_CORRECTIVE h :: seekFields h)).map Fld.key := by
  decide +kernel

theorem place_apart_done (hh : h < 64) : ∀ f ∈ placeFields h, f.key ∉ (doneFields h).map Fld.key := fun f hf e =>
  place_apart h hh f hf (by simp only [List.map_append, List.mem_append]; exact .inl (.inl e))
theorem place_apart_fail (hh : h < 64) : ∀ f ∈ placeFields h, f.key ∉ (failFields h).map Fld.key := fun f hf e =>
  place_apart h hh f hf (by simp only [List.map_append, List.mem_append]; exact .inl (.inr e))
theorem place_apart_seek (hh : h < 64) : ∀ f ∈ placeFields h, f.key ∉ (F.SV_CORRECTIVE h :: seekFields h).map Fld.key := fun f hf e =>
  place_apart h hh f hf (by simp only [List.map_append, List.mem_append]; exact .inr e)

theorem Placed.onTarget (k : Placed h u s) (hh : h < 64) : Placed h u (onTarget h s) :=
  k.of_drive (atHead_onTarget h s).drive (place_apart_done hh) (lastConf_onTarget k.last)

theorem Placed.relocated (k : Placed h u s) (hh : h < 64) : Placed h u (relocated h u s) := by
  have hapart : ∀ h < 64, ([F.SV_POS_BAND h, F.SV_POS_LAYER h, F.SV_POS_SIDE h].map Fld.key).Nodup ∧
      (F.CH_ADDR_BAND h).key ∉ (correctFields h).map Fld.key ∧ (evCH h).evt.key ∉ (abandonFields h ++ confirmFields h ++ permitFields h ++
        [F.SV_POS_BAND h, F.SV_POS_LAYER h, F.SV_POS_SIDE h]).map Fld.key ∧ (evCH h).evt.key ≠ (F.CH_ADDR_MISMATCH h).key := by decide +kernel
  obtain ⟨hnodup, haddr, hev, hne⟩ := hapart h hh
  have hput {f : Fld} {v : Nat} (hm : (f, v) ∈ [(F.SV_POS_BAND h, u.turn), (F.SV_POS_LAYER h, u.layer), (F.SV_POS_SIDE h, u.side)]) :
      Machine.get (Proofs.relocated h u s) f = trunc f.width v := get_putAll_mem hnodup hm
  refine ⟨?_, lastConf_relocated k.last u, hput (by simp), ((relocated_drive h u s).get haddr).trans k.addr, hput (by simp), hput (by simp)⟩
  have h1 : Raised (raiseCH h B.CH_EVT_ADDR_MISMATCH (bump (F.CH_ADDR_MISMATCH h) 1 s)) (evCH h) B.CH_EVT_ADDR_CONFIRMED :=
    raised_raise_of_raised headEv_ch (by decide) (raised_of_get (get_bump_ne hne) k.event)
  refine raised_of_get (AtDrive.get (h := h) (AtDrive.thenPutAll (AtDrive.thenUpd (abandonSlots_drive (clearConfirm_drive
    (AtDrive.refl h _ _) ?_ ?_) ?_ _) _) ?_) hev) h1
  all_goals simp [confirmFields, permitFields, abandonFields, poolFields]

theorem Placed.addrMismatch (k : Placed h u s) (hh : h < 64) : Placed h u (addrMismatch h u s) := by
  have hr := k.relocated hh
  rcases addrMismatch_cases h u s with e | e | ⟨b, l, e⟩ <;> rw [e]
  · exact hr
  · exact hr.of_drive (atHead_seekFailed h _).drive (place_apart_fail hh) (lastConf_seekFailed hr.last)
  · refine hr.of_drive (startSeek_drive (AtDrive.thenRaise (AtDrive.thenPut (AtDrive.thenUpd (AtDrive.refl h _ _) _) ?_) ?_ ?_)
      (List.subset_cons_self ..) b l) (place_apart_seek hh)
      (lastConf_startSeek (lastConf_raise (lastConf_bump (lastConf_updServo hr.last rfl) _ _) _ _) b l)
    all_goals simp [seekFields, svFields, evSV]

theorem Placed.arrive (k : Placed h u s) (hh : h < 64) : Placed h u (arrive h u s) := by
  unfold Machine.arrive
  extract_lets v there
  split_ifs
  · exact k
  · exact k.addrMismatch hh
  · exact k
  · exact k.onTarget hh

end confirm

end Sys2Proof.Proofs
end

section
/-! SUPPORT. The address-unit clauses of O9 (R31 to R33, R105, R107). -/

namespace Sys2Proof.Proofs

open Sys2Proof.Machine Sys2Proof.Laws

/-! ### The media identifier and the format that a unit carries -/

/-- What an accepted unit writes of the media identifier (R33). -/
def mediaFields (h : Nat) : List Fld :=
  (List.range 4).map (F.CH_MEDIA_ID h) ++ [F.CH_STATUS_MEDIA_ID_VALID h, F.CH_EVT h, F.EVT_LOG_HEAD]

/-- A head but for what a unit's media byte and format change. -/
def mediaCore (x : Head) : Head := { x with ch := { x.ch with mid := [], foreignRun := 0, foreign := false } }

section media
variable {h : Nat} {u : AddrUnit} {a : Bool} {s : State} {f : Fld}

theorem only_headEvent {s t : State} {fs : List Fld} (k : OnlyFields s t fs) (hl : F.EVT_LOG_HEAD ∈ fs) (h : Nat) :
    OnlyFields s (headEvent h t) fs := by
  unfold headEvent
  split
  · exact only_put (only_congr k rfl rfl) (List.mem_map_of_mem hl)
  · exact k

theorem only_foreignDisc (h : Nat) (s : State) : OnlyFields s (foreignDisc h s) [F.EVT_LOG_HEAD] := by
  unfold foreignDisc
  dsimp only
  refine only_headEvent ?_ (List.mem_singleton_self _) h
  split
  · exact fun _ _ => rfl
  · exact fun _ _ => rfl

theorem heads_headEvent (h : Nat) (s : State) : (headEvent h s).heads = s.heads := by
  unfold headEvent
  split <;> rfl

theorem getHead_foreignDisc (h : Nat) (s : State) :
    getHead (foreignDisc h s) h = { getHead s h with ch := { (getHead s h).ch with foreign := true } } := by
  have hch : getHead (updChan h (fun c => { c with foreign := true }) s) h
      = { getHead s h with ch := { (getHead s h).ch with foreign := true } } := getHead_updChan h _ s
  unfold foreignDisc
  dsimp only
  rw [getHead, heads_headEvent]
  split <;> exact hch

/-- The bytes of the media identifier read so far, and the run of units of another format revision (R33). -/
def mediaBytes (h : Nat) (u : AddrUnit) (agrees : Bool) (s : State) : List Nat :=
  if u.unit = 0 then [u.mid] else if 16 ≤ u.unit then (chanOf s h).mid
  else if agrees && decide (u.unit = (chanOf s h).mid.length) then (chanOf s h).mid ++ [u.mid] else []
def mediaRun (h : Nat) (u : AddrUnit) (agrees : Bool) (s : State) : Nat :=
  if u.fmt = 3 then 0
  else if agrees && (match (chanOf s h).last with | none => false | some p => decide (p.fmt = u.fmt)) then (chanOf s h).foreignRun + 1 else 1

/-- A unit's media byte and format are noted, and a disc of another format revision is foreign. -/
def mediaNoted (h : Nat) (u : AddrUnit) (agrees : Bool) (s : State) : State :=
  updChan h (fun c => { c with mid := mediaBytes h u agrees s, foreignRun := mediaRun h u agrees s })
    (if 2 ≤ mediaRun h u agrees s ∧ (chanOf s h).foreign = false then foreignDisc h s else s)

/-- The registers of a media identifier that is complete. -/
def mediaWrites (h : Nat) (m : List Nat) : List (Fld × Nat) :=
  (List.range 4).map fun i => (F.CH_MEDIA_ID h i, ofBytesLE ((m.drop (4 * i)).take 4))

theorem mediaUnit_eq (h : Nat) (u : AddrUnit) (agrees : Bool) (s : State) : mediaUnit h u agrees s =
    if (mediaBytes h u agrees s).length = 16 ∧ u.unit = 15 then
      if isSet s (F.CH_STATUS_MEDIA_ID_VALID h) then putAll (mediaWrites h (mediaBytes h u agrees s)) (mediaNoted h u agrees s)
      else raiseCH h B.CH_EVT_MEDIA_ID (put (F.CH_STATUS_MEDIA_ID_VALID h) 1
        (putAll (mediaWrites h (mediaBytes h u agrees s)) (mediaNoted h u agrees s)))
    else mediaNoted h u agrees s := rfl

theorem only_mediaNoted (h : Nat) (u : AddrUnit) (agrees : Bool) (s : State) : OnlyFields s (mediaNoted h u agrees s) (mediaFields h) := by
  have hf : OnlyFields s (foreignDisc h s) (mediaFields h) :=
    only_mono (only_foreignDisc h s) fun f hf => List.mem_map_of_mem (by simp_all [mediaFields])
  unfold mediaNoted
  split
  · exact only_congr hf rfl rfl
  · exact only_congr (only_refl s _) rfl rfl

theorem only_mediaUnit (h : Nat) (u : AddrUnit) (agrees : Bool) (s : State) : OnlyFields s (mediaUnit h u agrees s) (mediaFields h) := by
  have hall (m : List Nat) : OnlyFields s (putAll (mediaWrites h m) (mediaNoted h u agrees s)) (mediaFields h) :=
    only_putAll (only_mediaNoted h u agrees s) fun p hp => by
      obtain ⟨i, hi, rfl⟩ := List.mem_map.1 hp
      exact List.mem_map_of_mem (List.mem_append_left _ (List.mem_map_of_mem hi))
  rw [mediaUnit_eq]
  split
  · split
    · exact hall _
    · exact only_raise (only_put (hall _) (List.mem_map_of_mem (by simp [mediaFields]))) (List.mem_map_of_mem (by simp [mediaFields, evCH]))
        (List.mem_map_of_mem (by simp [mediaFields]))
  · exact only_mediaNoted h u agrees s

theorem mediaCore_mediaUnit (h : Nat) (u : AddrUnit) (agrees : Bool) (s : State) :
    mediaCore (getHead (mediaUnit h u agrees s) h) = mediaCore (getHead s h) := by
  have hn : mediaCore (getHead (mediaNoted h u agrees s) h) = mediaCore (getHead s h) := by
    rw [mediaNoted, getHead_updChan]
    split
    · rw [getHead_foreignDisc]
      rfl
    · rfl
  rw [mediaUnit_eq]
  split
  · split
    · rw [getHead_putAll]
      exact hn
    · rw [raiseCH, getHead_raise, getHead_put, getHead_putAll]
      exact hn
  · exact hn

/-- A unit of format revision 3 that completes no media identifier is noted in its head and nowhere else. -/
theorem atHead_mediaUnit (hf : u.fmt = 3) (hu : 16 ≤ u.unit ∨ a = false) (fs : List Fld) : AtHead h s (mediaUnit h u a s) fs := by
  have hrun : mediaRun h u a s = 0 := if_pos hf
  have hlen : ¬((mediaBytes h u a s).length = 16 ∧ u.unit = 15) := by
    rintro ⟨hl, h15⟩
    rcases hu with hu | rfl
    · omega
    · simp [mediaBytes, h15] at hl
  rw [mediaUnit_eq, if_neg hlen, mediaNoted, hrun, if_neg (by omega)]
  exact atHead_updHead h _ s fs

end media

/-! ### Accepted units -/

/-- The wobble phase error over a unit's periods stands in the registers (R105). -/
def unitTimed (h rms worst : Nat) (s : State) : State :=
  peak (F.CH_WPLL_ERR_PEAK h) (min 65535 worst) (put (F.CH_WPLL_ERR_RMS h) (min 65535 rms) s)

/-- Whether a unit agrees with the one counted before it (R32). -/
def agreesWithCount (s : State) (h : Nat) (u : AddrUnit) : Bool :=
  match (chanOf s h).last.map nextUnit with | some p => sameUnit p u | none => false

/-- A good unit is the last accepted one (R31). -/
def unitAccepted (h : Nat) (u : AddrUnit) (rms worst : Nat) (s : State) : State :=
  updChan h (fun c =>
      { c with last := some u, expect := (chanOf s h).expect.map nextUnit, phi := if c.phiOk then c.phi else unitPhase u, phiOk := true })
    (mediaUnit h u (agreesWithCount s h u) (unitTimed h rms worst s))

/-- The head in which a good unit is the last accepted one; the first of them settles φ_w (R105). -/
def acceptedHead (u : AddrUnit) (x : Head) : Head :=
  { x with ch := { x.ch with
      last := some u, expect := x.ch.expect.map nextUnit, phi := if x.ch.phiOk then x.ch.phi else unitPhase u, phiOk := true } }

/-- What an accepted unit writes. -/
def acceptFields (h : Nat) : List Fld := [F.CH_WPLL_ERR_RMS h, F.CH_WPLL_ERR_PEAK h] ++ mediaFields h

section accepted
variable {h w rms worst : Nat} {u : AddrUnit} {s : State} {f : Fld}

theorem atHead_unitTimed (h rms worst : Nat) (s : State) :
    AtHead h s (unitTimed h rms worst s) [F.CH_WPLL_ERR_RMS h, F.CH_WPLL_ERR_PEAK h] :=
  AtHead.thenPut (AtHead.thenPut (AtHead.refl h s _) (by simp)) (by simp)

theorem getHead_unitTimed (h rms worst : Nat) (s : State) (g : Nat) : getHead (unitTimed h rms worst s) g = getHead s g := rfl

theorem only_unitAccepted (h : Nat) (u : AddrUnit) (rms worst : Nat) (s : State) :
    OnlyFields s (unitAccepted h u rms worst s) (acceptFields h) := by
  have h0 := only_mono (atHead_unitTimed h rms worst s).only (gs := acceptFields h) fun f hf => List.mem_map_of_mem (List.mem_append_left _ hf)
  have h1 := only_mono (only_mediaUnit h u (agreesWithCount s h u) (unitTimed h rms worst s)) (gs := acceptFields h)
    fun f hf => List.mem_map_of_mem (List.mem_append_right _ hf)
  exact only_congr (only_trans h0 h1) rfl rfl

theorem mediaCore_unitAccepted (h : Nat) (u : AddrUnit) (rms worst : Nat) (s : State) :
    mediaCore (getHead (unitAccepted h u rms worst s) h) = mediaCore (acceptedHead u (getHead s h)) := by
  have hm := mediaCore_mediaUnit h u (agreesWithCount s h u) (unitTimed h rms worst s)
  have hn : (mediaCore (getHead (mediaUnit h u (agreesWithCount s h u) (unitTimed h rms worst s)) h)).ch.expect
      = (mediaCore (getHead s h)).ch.expect := by
    rw [hm]
    rfl
  replace hn : (getHead (mediaUnit h u (agreesWithCount s h u) (unitTimed h rms worst s)) h).ch.expect = (getHead s h).ch.expect := hn
  have hu : getHead (unitAccepted h u rms worst s) h
      = acceptedHead u (getHead (mediaUnit h u (agreesWithCount s h u) (unitTimed h rms worst s)) h) := by
    rw [unitAccepted, getHead_updChan, acceptedHead, hn]
    rfl
  have hc (x : Head) : mediaCore (acceptedHead u x) = mediaCore (acceptedHead u (mediaCore x)) := rfl
  rw [hu, hc, hm, ← hc]
  rfl

theorem sv_unitAccepted (h : Nat) (u : AddrUnit) (rms worst : Nat) (s : State) :
    (getHead (unitAccepted h u rms worst s) h).sv = (getHead s h).sv := by
  have hm : (mediaCore (getHead (unitAccepted h u rms worst s) h)).sv = (mediaCore (acceptedHead u (getHead s h))).sv := by
    rw [mediaCore_unitAccepted]
  exact hm

/-- The unit that was expected moves the position (R32). -/
def unitExpected (h : Nat) (u : AddrUnit) (s : State) : State :=
  putAll [(F.CH_ADDR_BAND h, u.turn), (F.SV_POS_BAND h, u.turn)] (updHead h (fun (x : Head) =>
    { x with ch := { x.ch with differ := 0 }, sv := { x.sv with lastConf := some (u.turn, u.layer, u.side) } }) s)

/-- An accepted unit on a confirmed address and on one that is not (R32, R107). -/
theorem exec_addressUnit (hi : headInst s h = true) (he : Machine.get s (F.CH_CTRL_EN h) ≠ 0) (hw : wpllSt s h = 2) (hg : unitGood w = true) :
    exec (.addressUnit h w rms worst) s =
      if isSet s (F.CH_STATUS_ADDR_CONF h) then
        match (chanOf s h).expect.map nextUnit with
        | none => .next (updChan h (fun c => { c with expect := some (unitFields w) }) (unitAccepted h (unitFields w) rms worst s))
        | some e =>
          if sameUnit e (unitFields w) then
            .next (if Machine.get s (F.SV_STATUS_STATE h) = 6 ∧ (servoOf s h).landed = true then
              arrive h (unitFields w) (unitExpected h (unitFields w) (unitAccepted h (unitFields w) rms worst s))
              else unitExpected h (unitFields w) (unitAccepted h (unitFields w) rms worst s))
          else if 2 ≤ (chanOf s h).differ then .next (addrMismatch h (unitFields w) (unitAccepted h (unitFields w) rms worst s))
          else .next (updChan h (fun c => { c with differ := c.differ + 1 }) (unitAccepted h (unitFields w) rms worst s))
      else if agreesWithCount s h (unitFields w) then
        .next (confirmAddr h (unitFields w) (updChan h (fun c => { c with phi := unitPhase (unitFields w) })
          (unitAccepted h (unitFields w) rms worst s)))
      else .next (unitAccepted h (unitFields w) rms worst s) := by
  have hguard : ¬(headInst s h = false ∨ Machine.get s (F.CH_CTRL_EN h) = 0 ∨ (wpllSt s h ≠ 2 ∧ wpllSt s h ≠ 3)) := by simp [hi, he, hw]
  have h3 : ¬wpllSt s h = 3 := by omega
  have hbad : ¬unitGood w = false := by simp [hg]
  exact (if_neg hguard).trans ((if_neg h3).trans (if_neg hbad))

end accepted

end Sys2Proof.Proofs
end

section
/-! SUPPORT. The clauses of O9 on address units (R31, R32, R105, R178). -/

namespace Sys2Proof.Proofs

open Sys2Proof.Machine Sys2Proof.Laws

section units
variable {h w rms worst : Nat} {u : AddrUnit} {s t : State} {f : Fld}

theorem AtHead.thenChan {fs : List Fld} (k : AtHead h s t fs) (g : Chan → Chan) : AtHead h s (updChan h g t) fs := k.thenUpd _

/-- What an accepted unit writes is apart from these registers. -/
theorem accept_apart : ∀ h < 64, ∀ f ∈ [F.SV_STATUS_STATE h, F.CH_STATUS_ADDR_CONF h, F.CH_ADDR_MISMATCH h, F.SV_CMD_STATUS_BUSY h],
    f.key ∉ (acceptFields h).map Fld.key := by decide +kernel

theorem get_unitAccepted (hh : h < 64) (hf : f ∈ [F.SV_STATUS_STATE h, F.CH_STATUS_ADDR_CONF h, F.CH_ADDR_MISMATCH h, F.SV_CMD_STATUS_BUSY h]) :
    Machine.get (unitAccepted h u rms worst s) f = Machine.get s f :=
  only_unitAccepted h u rms worst s f (accept_apart h hh f hf)

theorem chan_unitAccepted (h : Nat) (u : AddrUnit) (rms worst : Nat) (s : State) :
    (chanOf (unitAccepted h u rms worst s) h).last = some u ∧ (chanOf (unitAccepted h u rms worst s) h).phiOk = true ∧
      (chanOf (unitAccepted h u rms worst s) h).phi = (if (chanOf s h).phiOk then (chanOf s h).phi else unitPhase u) ∧
      (chanOf (unitAccepted h u rms worst s) h).differ = (chanOf s h).differ := by
  have hch : (mediaCore (getHead (unitAccepted h u rms worst s) h)).ch = (mediaCore (acceptedHead u (getHead s h))).ch := by
    rw [mediaCore_unitAccepted]
  exact ⟨(congrArg Chan.last hch :), (congrArg Chan.phiOk hch :), (congrArg Chan.phi hch :), (congrArg Chan.differ hch :)⟩

/-- An accepted unit of format revision 3 that completes no media identifier is noted in its head and in the error registers. -/
theorem atHead_unitAccepted (hf : u.fmt = 3) (hu : 16 ≤ u.unit ∨ agreesWithCount s h u = false) :
    AtHead h s (unitAccepted h u rms worst s) [F.CH_WPLL_ERR_RMS h, F.CH_WPLL_ERR_PEAK h] :=
  ((atHead_unitTimed h rms worst s).trans (atHead_mediaUnit hf hu _)).thenChan _

/-- The first unit accepted is the last one, and settles the wobble's phase (R31, R105). -/
theorem completes_firstUnit (hi : headInst s h = true) (he : Machine.get s (F.CH_CTRL_EN h) ≠ 0) (hw : wpllSt s h = 2)
    (hg : unitGood w = true) (hc : Machine.get s (F.CH_STATUS_ADDR_CONF h) ≠ 1) (hl : (chanOf s h).last = none) :
    Completes (.addressUnit h w rms worst) s fun t =>
      (chanOf t h).last = some (unitFields w) ∧ (chanOf t h).phiOk = true ∧
      ((chanOf s h).phiOk = false → (chanOf t h).phi = unitPhase (unitFields w)) ∧
      Machine.get t (F.CH_STATUS_ADDR_CONF h) = Machine.get s (F.CH_STATUS_ADDR_CONF h) ∧
      Machine.get t (F.CH_WPLL_ERR_RMS h) = min 65535 rms ∧
      ((unitFields w).fmt = 3 → WithinHead h s t [F.CH_WPLL_ERR_RMS h, F.CH_WPLL_ERR_PEAK h]) := by
  have hh := headInst_lt hi
  have ha : agreesWithCount s h (unitFields w) = false := by simp [agreesWithCount, hl]
  have hex : exec (.addressUnit h w rms worst) s = .next (unitAccepted h (unitFields w) rms worst s) := by
    rw [exec_addressUnit hi he hw hg, if_neg (by simpa [isSet] using hc), if_neg (by simp [ha])]
  obtain ⟨hlast, hok, hphi, -⟩ := chan_unitAccepted h (unitFields w) rms worst s
  have hrms : ∀ h < 64, (F.CH_WPLL_ERR_RMS h).key ∉ (mediaFields h).map Fld.key ∧ (F.CH_WPLL_ERR_RMS h).key ≠ (F.CH_WPLL_ERR_PEAK h).key := by
    decide +kernel
  obtain ⟨hmedia, hpeak⟩ := hrms h hh
  refine completes_of_exec hex ⟨hlast, hok, fun hphi0 => ?_, get_unitAccepted hh (by simp), ?_,
    fun hf => (atHead_unitAccepted hf (.inr ha)).within⟩
  · rw [hphi, hphi0]
    rfl
  · rw [unitAccepted, updChan, get_updHead, only_mediaUnit _ _ _ _ _ hmedia, unitTimed, peak, get_put_ne _ _ _ _ hpeak, get_put_same,
      trunc]
    exact Nat.mod_eq_of_lt (by simp [F.CH_WPLL_ERR_RMS])

/-- A unit with a wrong USYNC or UCRC is counted, and the count goes on (R31). -/
theorem completes_badUnit (hi : headInst s h = true) (he : Machine.get s (F.CH_CTRL_EN h) ≠ 0) (hw : wpllSt s h = 2)
    (hg : unitGood w = false) :
    Completes (.addressUnit h w rms worst) s fun t =>
      Machine.get t (F.CH_UCRC_ERR h) = trunc 32 (satAdd 32 (Machine.get s (F.CH_UCRC_ERR h)) 1) ∧
      (chanOf t h).last = (chanOf s h).last.map nextUnit ∧ (chanOf t h).expect = (chanOf s h).expect.map nextUnit ∧
      WithinHead h s t [F.CH_UCRC_ERR h, F.CH_WPLL_ERR_RMS h, F.CH_WPLL_ERR_PEAK h] := by
  have hex : exec (.addressUnit h w rms worst) s
      = .next (updChan h (fun c => { c with mid := [] }) (countUnit h (bump (F.CH_UCRC_ERR h) 1 (unitTimed h rms worst s)))) := by
    have hguard : ¬(headInst s h = false ∨ Machine.get s (F.CH_CTRL_EN h) = 0 ∨ (wpllSt s h ≠ 2 ∧ wpllSt s h ≠ 3)) := by simp [hi, he, hw]
    exact (if_neg hguard).trans ((if_neg (by omega)).trans (if_pos hg))
  have hapart : (F.CH_UCRC_ERR h).key ∉ [F.CH_WPLL_ERR_RMS h, F.CH_WPLL_ERR_PEAK h].map Fld.key := by
    simp [Fld.key, F.CH_UCRC_ERR, F.CH_WPLL_ERR_RMS, F.CH_WPLL_ERR_PEAK]
    omega
  refine completes_of_exec hex ⟨?_, ?_, ?_, AtHead.within (AtHead.thenChan (AtHead.thenChan (AtHead.thenPut
    ((atHead_unitTimed h rms worst s).mono (List.subset_cons_self ..)) (by simp)) _) _)⟩
  · rw [updChan, get_updHead, countUnit, updChan, get_updHead, get_bump_same, (atHead_unitTimed h rms worst s).get hapart]
    rfl
  · simp only [chanOf, countUnit, getHead_updChan, getHead_bump, getHead_unitTimed]
  · simp only [chanOf, countUnit, getHead_updChan, getHead_bump, getHead_unitTimed]

/-- In HOLD the count goes on (R105). -/
theorem completes_heldUnit (hi : headInst s h = true) (he : Machine.get s (F.CH_CTRL_EN h) ≠ 0) (hw : wpllSt s h = 3) :
    Completes (.addressUnit h w rms worst) s fun t =>
      (chanOf t h).last = (chanOf s h).last.map nextUnit ∧ (chanOf t h).expect = (chanOf s h).expect.map nextUnit ∧ WithinHead h s t [] := by
  have hex : exec (.addressUnit h w rms worst) s = .next (countUnit h s) := by
    have hguard : ¬(headInst s h = false ∨ Machine.get s (F.CH_CTRL_EN h) = 0 ∨ (wpllSt s h ≠ 2 ∧ wpllSt s h ≠ 3)) := by simp [hi, he, hw]
    exact (if_neg hguard).trans (if_pos hw)
  refine completes_of_exec hex ⟨?_, ?_, (atHead_updHead h _ s []).within⟩
  · simp only [chanOf, countUnit, getHead_updChan]
  · simp only [chanOf, countUnit, getHead_updChan]

/-- The expected unit on a confirmed address moves the position (R32). -/
theorem completes_expectedUnit {e : AddrUnit} (hi : headInst s h = true) (he : Machine.get s (F.CH_CTRL_EN h) ≠ 0) (hw : wpllSt s h = 2)
    (hg : unitGood w = true) (hc : Machine.get s (F.CH_STATUS_ADDR_CONF h) = 1) (hx : (chanOf s h).expect = some e)
    (hsame : sameUnit (nextUnit e) (unitFields w) = true) (hland : Machine.get s (F.SV_STATUS_STATE h) = 6 → (servoOf s h).landed = false) :
    Completes (.addressUnit h w rms worst) s fun t =>
      Machine.get t (F.CH_ADDR_BAND h) = trunc 14 (unitFields w).turn ∧ Machine.get t (F.SV_POS_BAND h) = trunc 14 (unitFields w).turn ∧
      (servoOf t h).lastConf = some ((unitFields w).turn, (unitFields w).layer, (unitFields w).side) ∧ (chanOf t h).differ = 0 ∧
      Machine.get t (F.CH_STATUS_ADDR_CONF h) = 1 := by
  have hh := headInst_lt hi
  have hapart : ∀ h < 64, ([F.CH_ADDR_BAND h, F.SV_POS_BAND h].map Fld.key).Nodup ∧
      (F.CH_STATUS_ADDR_CONF h).key ∉ [F.CH_ADDR_BAND h, F.SV_POS_BAND h].map Fld.key := by decide +kernel
  obtain ⟨hnodup, hconf⟩ := hapart h hh
  have hex : exec (.addressUnit h w rms worst) s = .next (unitExpected h (unitFields w) (unitAccepted h (unitFields w) rms worst s)) := by
    have harrive : ¬(Machine.get s (F.SV_STATUS_STATE h) = 6 ∧ (servoOf s h).landed = true) := fun ⟨h6, hl⟩ => by simp [hland h6] at hl
    rw [exec_addressUnit hi he hw hg, if_pos (by simp [isSet, hc]), hx]
    dsimp only [Option.map_some]
    rw [if_pos hsame, if_neg harrive]
  refine completes_of_exec hex ⟨?_, ?_, ?_, ?_, ?_⟩
  · exact get_putAll_mem hnodup (by simp)
  · exact get_putAll_mem hnodup (by simp)
  · rw [servoOf, unitExpected, getHead_putAll, getHead_updHead_same]
  · rw [chanOf, unitExpected, getHead_putAll, getHead_updHead_same]
  · rw [unitExpected, get_putAll_ne _ _ _ fun p hp e => hconf (by simp at hp; rcases hp with rfl | rfl <;> simp [e]), get_updHead,
      get_unitAccepted hh (by simp), hc]

/-! ### A mismatch -/

/-- What a mismatch writes once the address is no longer confirmed. -/
def mismatchTail (h : Nat) : List Fld :=
  [F.SV_POS_BAND h, F.SV_POS_LAYER h, F.SV_POS_SIDE h, F.SV_CORRECTIVE h] ++ failFields h ++ seekTailFields h

/-- A mismatch ends the confirmation, and is counted and raised (R32). -/
structure Mismatched (h n : Nat) (t : State) : Prop where
  conf  : Machine.get t (F.CH_STATUS_ADDR_CONF h) = 0
  event : Raised t (evCH h) B.CH_EVT_ADDR_MISMATCH
  count : Machine.get t (F.CH_ADDR_MISMATCH h) = n

theorem mismatch_apart : ∀ h < 64, ∀ f ∈ [F.CH_STATUS_ADDR_CONF h, F.CH_EVT h, F.CH_ADDR_MISMATCH h],
    f.key ∉ (mismatchTail h).map Fld.key := by
  decide +kernel

variable {n : Nat}

theorem Mismatched.of_drive (k : Mismatched h n s) (hh : h < 64) (hd : AtDrive h s t (mismatchTail h)) : Mismatched h n t where
  conf := (hd.get (mismatch_apart h hh _ (by simp))).trans k.conf
  event := raised_of_get (hd.get (mismatch_apart h hh _ (by simp [evCH]))) k.event
  count := (hd.get (mismatch_apart h hh _ (by simp))).trans k.count

theorem Mismatched.clearConfirm (k : Machine.get s (F.CH_ADDR_MISMATCH h) = n) (hev : Raised s (evCH h) B.CH_EVT_ADDR_MISMATCH) (hh : h < 64) :
    Mismatched h n (clearConfirm h s) := by
  have hapart : ∀ h < 64, (F.CH_ADDR_MISMATCH h).key ∉ (confirmFields h ++ permitFields h).map Fld.key ∧
      (evCH h).evt.key ∉ (confirmFields h ++ permitFields h).map Fld.key := by decide +kernel
  obtain ⟨hcount, hevt⟩ := hapart h hh
  exact ⟨get_clearConfirm hh (by simp [confirmFields]) s, raised_of_get ((atHead_clearConfirm h s).get hevt) hev,
    ((atHead_clearConfirm h s).get hcount).trans k⟩

theorem mismatched_relocated (hh : h < 64) (u : AddrUnit) (s : State) :
    Mismatched h (trunc 32 (satAdd 32 (Machine.get s (F.CH_ADDR_MISMATCH h)) 1)) (relocated h u s) := by
  have hne : ∀ h < 64, (F.CH_ADDR_MISMATCH h).key ∉ (evFields (evCH h)).map Fld.key := by decide +kernel
  refine (Mismatched.clearConfirm (s := raiseCH h B.CH_EVT_ADDR_MISMATCH (bump (F.CH_ADDR_MISMATCH h) 1 s)) ?_
    (raised_raise headEv_ch (by decide)) hh).of_drive hh (AtDrive.thenPutAll (AtDrive.thenUpd (abandonSlots_drive (AtDrive.refl h _ _) ?_ _) _) ?_)
  · rw [raiseCH, (atHead_raise (h := h) (fs := evFields (evCH h)) (by simp [evFields]) (by simp [evFields])).get (hne h hh), get_bump_same]
    rfl
  · exact fun f hf => by simp [mismatchTail, seekTailFields, hf]
  · simp [mismatchTail]

theorem mismatched_addrMismatch (hh : h < 64) (u : AddrUnit) (s : State) :
    Mismatched h (trunc 32 (satAdd 32 (Machine.get s (F.CH_ADDR_MISMATCH h)) 1)) (addrMismatch h u s) := by
  have hr := mismatched_relocated hh u s
  rcases addrMismatch_cases h u s with e | e | ⟨b, l, e⟩ <;> rw [e]
  · exact hr
  · exact hr.of_drive hh ((atHead_seekFailed h _).mono fun f hf => by simp [mismatchTail, hf]).drive
  · have hc : Mismatched h (trunc 32 (satAdd 32 (Machine.get s (F.CH_ADDR_MISMATCH h)) 1)) (raise (evSV h) B.SV_EVT_ADDR_CORRECT
        (bump (F.SV_CORRECTIVE h) 1 (updServo h (fun v => { v with corr := v.corr + 1 }) (relocated h u s)))) := by
      refine hr.of_drive hh (AtDrive.thenRaise (AtDrive.thenPut (AtDrive.thenUpd (AtDrive.refl h _ _) _) ?_) ?_ ?_)
      all_goals simp [mismatchTail, failFields, svFields, evSV]
    exact (Mismatched.clearConfirm hc.count hc.event hh).of_drive hh ((startSeek_from h b l _).mono (List.subset_append_right ..))

/-- The third unit in a row that differs ends the confirmation; the two before it are noted (R32). -/
theorem completes_otherUnit {e : AddrUnit} (hi : headInst s h = true) (he : Machine.get s (F.CH_CTRL_EN h) ≠ 0) (hw : wpllSt s h = 2)
    (hg : unitGood w = true) (hc : Machine.get s (F.CH_STATUS_ADDR_CONF h) = 1) (hx : (chanOf s h).expect = some e)
    (hsame : sameUnit (nextUnit e) (unitFields w) = false) :
    Completes (.addressUnit h w rms worst) s fun t =>
      ((chanOf s h).differ < 2 → (chanOf t h).differ = (chanOf s h).differ + 1 ∧ Machine.get t (F.CH_STATUS_ADDR_CONF h) = 1) ∧
      (2 ≤ (chanOf s h).differ → Machine.get t (F.CH_STATUS_ADDR_CONF h) = 0 ∧ Raised t (evCH h) B.CH_EVT_ADDR_MISMATCH ∧
        Machine.get t (F.CH_ADDR_MISMATCH h) = trunc 32 (satAdd 32 (Machine.get s (F.CH_ADDR_MISMATCH h)) 1)) := by
  have hh := headInst_lt hi
  have hex : exec (.addressUnit h w rms worst) s = if 2 ≤ (chanOf s h).differ
      then .next (addrMismatch h (unitFields w) (unitAccepted h (unitFields w) rms worst s))
      else .next (updChan h (fun c => { c with differ := c.differ + 1 }) (unitAccepted h (unitFields w) rms worst s)) := by
    rw [exec_addressUnit hi he hw hg, if_pos (by simp [isSet, hc]), hx]
    dsimp only [Option.map_some]
    rw [if_neg (by simp [hsame])]
  obtain ⟨-, -, -, hdiffer⟩ := chan_unitAccepted h (unitFields w) rms worst s
  by_cases h2 : 2 ≤ (chanOf s h).differ
  · obtain ⟨hconf, hev, hcount⟩ := mismatched_addrMismatch hh (unitFields w) (unitAccepted h (unitFields w) rms worst s)
    rw [get_unitAccepted hh (by simp)] at hcount
    exact completes_of_exec (hex.trans (if_pos h2)) ⟨fun hlt => by omega, fun _ => ⟨hconf, hev, hcount⟩⟩
  · refine completes_of_exec (hex.trans (if_neg h2)) ⟨fun _ => ⟨?_, ?_⟩, fun hle => by omega⟩
    · rw [chanOf, getHead_updChan]
      exact congrArg (· + 1) hdiffer
    · rw [updChan, get_updHead, get_unitAccepted hh (by simp), hc]

/-! ### A confirmation -/

theorem confirmAddr_eq (h : Nat) (u : AddrUnit) (s : State) : confirmAddr h u s =
    let there := match (servoOf s h).target with | none => true | some (b, l) => decide (u.turn = b) && decide (u.layer = l)
    if Machine.get s (F.SV_STATUS_STATE h) = 4 then
      if there then onTarget h (addressConfirmed h u s)
      else if (servoOf s h).seekBack then
        match (servoOf s h).target with
        | some (b, l) => startSeek h b l (updServo h (fun v => { v with seekBack := false }) (addressConfirmed h u s))
        | none => addressConfirmed h u s
      else addrMismatch h u (addressConfirmed h u s)
    else if Machine.get s (F.SV_STATUS_STATE h) = 6 ∧ (servoOf s h).landed = true then arrive h u (addressConfirmed h u s)
    else addressConfirmed h u s := rfl

/-- The address stands in the registers whatever the servo does next (R32, R107). -/
theorem placed_confirmAddr (hh : h < 64) (u : AddrUnit) (s : State) : Placed h u (confirmAddr h u s) := by
  have hp : Placed h u (addressConfirmed h u s) := placed_addressConfirmed hh
  rw [confirmAddr_eq]
  extract_lets there
  split
  · split
    · exact hp.onTarget hh
    · split
      · split
        · exact hp.of_drive (startSeek_drive (AtDrive.thenUpd (AtDrive.refl h _ _) _) (List.subset_cons_self ..) _ _) (place_apart_seek hh)
            (lastConf_startSeek (lastConf_updServo hp.last rfl) _ _)
        · exact hp
      · exact hp.addrMismatch hh
  · split
    · exact hp.arrive hh
    · exact hp

/-- A servo without a target that settles is on track; any other one stays where it is (R178, R183). -/
theorem confirmAddr_idle (ht : (servoOf s h).target = none) (hl : (servoOf s h).landed = false ∨ Machine.get s (F.SV_STATUS_STATE h) = 4) :
    confirmAddr h u s
      = if Machine.get s (F.SV_STATUS_STATE h) = 4 then onTarget h (addressConfirmed h u s) else addressConfirmed h u s := by
  rw [confirmAddr_eq, ht]
  dsimp only
  split
  · rfl
  · next h4 => exact if_neg fun ⟨_, hland⟩ => by simp_all

theorem get_onTarget_state (hh : h < 64) : Machine.get (onTarget h s) (F.SV_STATUS_STATE h) = 5 := by
  have hapart : ∀ h < 64, (F.SV_STATUS_STATE h).key ∉ (resultFields h).map Fld.key := by decide +kernel
  rw [onTarget, updServo, get_updHead, (atHead_svDone h _).get (hapart h hh), get_svState_self (by decide) hh]
  rfl

/-- On track, the address stays confirmed. -/
theorem get_onTarget_conf (hh : h < 64) (hf : f ∈ [F.CH_STATUS_ADDR_CONF h, F.SV_POS_CONFIRMED h]) :
    Machine.get (onTarget h s) f = Machine.get s f :=
  (atHead_onTarget h s).get ((by decide +kernel : ∀ h < 64, ∀ f ∈ [F.CH_STATUS_ADDR_CONF h, F.SV_POS_CONFIRMED h],
    f.key ∉ (doneFields h).map Fld.key) h hh f hf)

theorem last_onTarget (h : Nat) (s : State) : (chanOf (onTarget h s) h).last = (chanOf s h).last := by
  have hcore : (headCore (getHead (svState h 5 s) h)).ch.last = (headCore (getHead s h)).ch.last := by rw [headCore_svState (by decide)]
  rw [chanOf, onTarget, getHead_updServo, getHead_svDone]
  exact hcore

/-- Without a command that waits, arriving on track enters the state and nothing else (R178). -/
theorem atHead_onTarget_idle (hh : h < 64) (hb : Machine.get s (F.SV_CMD_STATUS_BUSY h) = 0) : AtHead h s (onTarget h s) (svFields h) := by
  have hapart : ∀ h < 64, (F.SV_CMD_STATUS_BUSY h).key ∉ (svFields h).map Fld.key := by decide +kernel
  have hdone : svDone h (svState h 5 s) = svState h 5 s := if_pos (by rw [get_svState_ne (by decide) (hapart h hh), hb])
  unfold onTarget
  rw [hdone]
  exact (atHead_svState (by decide) h s).thenUpd _

/-- What a confirmation writes where no command waits. -/
def confirmedUnitFields (h : Nat) : List Fld :=
  [F.CH_WPLL_ERR_RMS h, F.CH_WPLL_ERR_PEAK h, F.CH_ADDR_BAND h, F.CH_ADDR_LAYER h, F.CH_ADDR_SIDE h,
    F.SV_POS_BAND h, F.SV_POS_LAYER h, F.SV_POS_SIDE h, F.CH_FRET_FRET h] ++ confirmFields h ++ svFields h ++ evFields (evCH h)

theorem atHead_confirmAddr_idle (hh : h < 64) (ht : (servoOf s h).target = none) (hl : (servoOf s h).landed = false)
    (hb : Machine.get s (F.SV_CMD_STATUS_BUSY h) = 0) : AtHead h s (confirmAddr h u s) (confirmedUnitFields h) := by
  have hapart : ∀ h < 64, (F.SV_CMD_STATUS_BUSY h).key ∉ (confirmedFields h).map Fld.key := by decide +kernel
  have hc : AtHead h s (addressConfirmed h u s) (confirmedUnitFields h) := (atHead_addressConfirmed h u s).mono
    (by simp [confirmedFields, confirmed0, confirmedUnitFields, confirmFields, permitFields, svFields, evFields])
  rw [confirmAddr_idle ht (.inl hl)]
  split
  · refine hc.trans ((atHead_onTarget_idle hh ?_).mono fun f hf => by simp [confirmedUnitFields, hf])
    rw [(atHead_addressConfirmed h u s).get (hapart h hh), hb]
  · exact hc

theorem confirmAddr_keeps (hh : h < 64) (ht : (servoOf s h).target = none) (hl : (servoOf s h).landed = false) :
    Machine.get (confirmAddr h u s) (F.CH_STATUS_ADDR_CONF h) = 1 ∧ Machine.get (confirmAddr h u s) (F.SV_POS_CONFIRMED h) = 1 ∧
      (chanOf (confirmAddr h u s) h).last = (chanOf s h).last := by
  have hconf : Machine.get (addressConfirmed h u s) (F.CH_STATUS_ADDR_CONF h) = 1 := get_addressConfirmed (v := 1) hh (by simp [confirmWrites])
  have hpos : Machine.get (addressConfirmed h u s) (F.SV_POS_CONFIRMED h) = 1 := get_addressConfirmed (v := 1) hh (by simp [confirmWrites])
  have hlast := (servo_addressConfirmed h u s).2
  rw [confirmAddr_idle ht (.inl hl)]
  split
  · rw [get_onTarget_conf hh (by simp), get_onTarget_conf hh (by simp), last_onTarget]
    exact ⟨hconf, hpos, hlast⟩
  · exact ⟨hconf, hpos, hlast⟩

/-- A unit that agrees with the count settles the wobble's phase (R105). -/
def unitAgreed (h : Nat) (u : AddrUnit) (rms worst : Nat) (s : State) : State :=
  updChan h (fun c => { c with phi := unitPhase u }) (unitAccepted h u rms worst s)

/-- A unit that agrees with the count confirms the address (R32, R107). -/
theorem completes_agreeingUnit {p : AddrUnit} (hi : headInst s h = true) (he : Machine.get s (F.CH_CTRL_EN h) ≠ 0) (hw : wpllSt s h = 2)
    (hg : unitGood w = true) (hc : Machine.get s (F.CH_STATUS_ADDR_CONF h) ≠ 1) (hl : (chanOf s h).last = some p)
    (hsame : sameUnit (nextUnit p) (unitFields w) = true) :
    Completes (.addressUnit h w rms worst) s fun t =>
      Raised t (evCH h) B.CH_EVT_ADDR_CONFIRMED ∧ (servoOf t h).lastConf = some ((unitFields w).turn, (unitFields w).layer, (unitFields w).side) ∧
      Machine.get t (F.SV_POS_BAND h) = trunc 14 (unitFields w).turn ∧ Machine.get t (F.CH_ADDR_BAND h) = trunc 14 (unitFields w).turn ∧
      Machine.get t (F.SV_POS_LAYER h) = trunc 4 (unitFields w).layer ∧ Machine.get t (F.SV_POS_SIDE h) = trunc 1 (unitFields w).side ∧
      (Machine.get s (F.SV_STATUS_STATE h) = 4 → (servoOf s h).target = none → Machine.get t (F.SV_STATUS_STATE h) = 5) ∧
      ((servoOf s h).target = none → (servoOf s h).landed = false → Machine.get t (F.CH_STATUS_ADDR_CONF h) = 1 ∧
        Machine.get t (F.SV_POS_CONFIRMED h) = 1 ∧ (chanOf t h).last = some (unitFields w)) ∧
      ((servoOf s h).target = none → (servoOf s h).landed = false → 16 ≤ (unitFields w).unit → (unitFields w).fmt = 3 →
        Machine.get s (F.SV_CMD_STATUS_BUSY h) = 0 →
        WithinHead h s t ([F.CH_WPLL_ERR_RMS h, F.CH_WPLL_ERR_PEAK h, F.CH_ADDR_BAND h, F.CH_ADDR_LAYER h, F.CH_ADDR_SIDE h,
          F.SV_POS_BAND h, F.SV_POS_LAYER h, F.SV_POS_SIDE h, F.CH_FRET_FRET h] ++ confirmFields h ++ svFields h ++ evFields (evCH h))) := by
  have hh := headInst_lt hi
  have ha : agreesWithCount s h (unitFields w) = true := by simp [agreesWithCount, hl, hsame]
  have hex : exec (.addressUnit h w rms worst) s = .next (confirmAddr h (unitFields w) (unitAgreed h (unitFields w) rms worst s)) := by
    rw [exec_addressUnit hi he hw hg, if_neg (by simpa [isSet] using hc), if_pos ha, unitAgreed]
  have hsv : servoOf (unitAgreed h (unitFields w) rms worst s) h = servoOf s h := by
    rw [servoOf, unitAgreed, getHead_updChan]
    exact sv_unitAccepted h (unitFields w) rms worst s
  have hget {f : Fld} (hf : f ∈ [F.SV_STATUS_STATE h, F.CH_STATUS_ADDR_CONF h, F.CH_ADDR_MISMATCH h, F.SV_CMD_STATUS_BUSY h]) :
      Machine.get (unitAgreed h (unitFields w) rms worst s) f = Machine.get s f := get_unitAccepted hh hf
  have hlast : (chanOf (unitAgreed h (unitFields w) rms worst s) h).last = some (unitFields w) := by
    rw [chanOf, unitAgreed, getHead_updChan]
    exact (chan_unitAccepted h (unitFields w) rms worst s).1
  obtain ⟨hev, hconf, hband, haddr, hlayer, hside⟩ := placed_confirmAddr hh (unitFields w) (unitAgreed h (unitFields w) rms worst s)
  refine completes_of_exec hex ⟨hev, hconf, hband, haddr, hlayer, hside, fun h4 ht => ?_, fun ht hland => ?_, fun ht hland hu hf hb => ?_⟩
  · have h4a : Machine.get (unitAgreed h (unitFields w) rms worst s) (F.SV_STATUS_STATE h) = 4 := by rw [hget (by simp), h4]
    rw [confirmAddr_idle (by rw [hsv, ht]) (.inr h4a), if_pos h4a, get_onTarget_state hh]
  · obtain ⟨h1, h2, h3⟩ := confirmAddr_keeps (u := unitFields w) hh (hsv ▸ ht) (hsv ▸ hland)
    exact ⟨h1, h2, h3.trans hlast⟩
  · have h0 : AtHead h s (unitAgreed h (unitFields w) rms worst s) (confirmedUnitFields h) :=
      AtHead.thenChan ((atHead_unitAccepted hf (.inl hu)).mono (by simp [confirmedUnitFields])) _
    exact (h0.trans (atHead_confirmAddr_idle hh (hsv ▸ ht) (hsv ▸ hland) (by rw [hget (by simp), hb]))).within

end units

end Sys2Proof.Proofs
end

section
/-! SUPPORT. The servo block's clause of O9 (R65, R66, R70, R100, R174, R175). -/

namespace Sys2Proof.Proofs

open Sys2Proof.Machine Sys2Proof.Laws

/-! ### The stages of a servo block -/

/-- The copies that finish decoding later, and how many of them differ from the first (R66). -/
def differing (s : State) (h : Nat) (times bytes : List Nat) (latency : Nat) : Nat :=
  ((((servoCopies (linkOf s h)).filter fun c => decide (latency < times.getD c.1 0)).map Prod.snd).filter
    fun c => decide (sameCopy c bytes = false)).length

/-- A link that has taken a servo block. -/
def linkServed (bytes : List Nat) (k : Link) : Link :=
  { k with
    copy := bytes.take 36, copySf := sbNat bytes 0 4, nS := sbNat bytes 4 2, phase := bytes.getD 6 0, timing := true, served := true,
    samples := [], flags := sbNat bytes 22 2, status := sbNat bytes 32 4 }

/-- The telemetry and the latency of a servo block (R70). -/
def telemetry (h : Nat) (bytes : List Nat) (latency peak : Nat) : List (Fld × Nat) :=
  [(F.HL_TELEM0_LASER_T h, sbNat bytes 24 2), (F.HL_TELEM0_I_READ h, sbNat bytes 26 2), (F.HL_TELEM1_I_WRITE h, sbNat bytes 28 2),
    (F.HL_TELEM1_I_BIAS h, sbNat bytes 30 2), (F.HL_LAT_LAST h, min 65535 latency), (F.HL_LAT_PEAK h, max peak (min 65535 latency))]

/-- The block stands in the link and in its registers. -/
def blockNoted (h latency : Nat) (bytes : List Nat) (s : State) : State :=
  putAll (telemetry h bytes latency (Machine.get s (F.HL_LAT_PEAK h))) (updLink h (linkServed bytes) s)

/-- The copies that differ are counted. -/
def copiesCompared (h bad : Nat) (s : State) : State :=
  if 0 < bad then raise (evHL h) B.HL_EVT_SERVO_MISMATCH (bump (F.HL_SERVO_CNT_MISMATCH h) bad s) else s

/-- A latency beyond the limit is raised. -/
def latencyJudged (h latency limit : Nat) (s : State) : State :=
  if limit < latency then raise (evHL h) B.HL_EVT_LAT_EXCEED s else s

/-- A discontinuity of the samples starts the loops again (R100). -/
def blockTimed (h : Nat) (disc : Bool) (s : State) : State :=
  if disc then restartLoops h (abandonSlots h (fun _ => true) (raiseCH h B.CH_EVT_SAMPLE_DISC (bump (F.CH_SAMPLE_DISC h) 1 s))) else s

/-- Whether the samples of a block do not follow on those of the one before it (R100). -/
def discontinuous (s : State) (h : Nat) (bytes : List Nat) : Bool :=
  (linkOf s h).timing
    && decide (64 < (4 * ((linkOf s h).phase : Int) + 1024 * (linkOf s h).nS - 15625 * Machine.get s (F.CH_FRET_N h)
      - 4 * (bytes.getD 6 0 : Nat)).natAbs) && isSet s (F.CH_CTRL_EN h)

/-- The servo sample that a block carries (R174 to R182). -/
def blockSampled (h : Nat) (bytes : List Nat) (s : State) : State :=
  permits h (countRuns h (servoSequence h bytes (formErrors h bytes
    (beamSample h 1 (sbNat bytes 16 2) (beamSample h 0 (sbNat bytes 10 2) s)))))

/-- What a servo block does before its offsets come into force. -/
def blockTaken (h latency : Nat) (times bytes : List Nat) (s : State) : State :=
  pulseInForce h (blockTimed h (discontinuous s h bytes) (latencyJudged h latency (Machine.get s (F.HL_LAT_LIMIT h))
    (copiesCompared h (differing s h times bytes latency) (blockNoted h latency bytes s))))

/-- The radial and focus offsets of a servo. -/
def offsetFields (h : Nat) : List Fld := [F.SV_OFFSET_TRACK_OFS h, F.SV_OFFSET_FOCUS_OFS h]

theorem exec_servoBlock {s : State} {h lane : Nat} {times bytes : List Nat} (hi : headInst s h = true)
    (hst : Machine.get s (F.HL_STATUS_STATE h) = 5) (hserved : (linkOf s h).served = false)
    (hfirst : firstCopy (fun l => times.getD l 0) (servoCopies (linkOf s h)) = some (lane, bytes)) :
    exec (.servoBlock h times) s
      = .next (blockSampled h bytes (takeForces (offsetFields h) (blockTaken h (times.getD lane 0) times bytes s))) := by
  change execServoBlock h times s = _
  unfold execServoBlock
  extract_lets cs
  have hcs : firstCopy (fun l => times.getD l 0) cs = some (lane, bytes) := hfirst
  rw [hcs]
  exact if_neg (by simp [hi, hst, hserved])

section frames
variable {h latency : Nat} {times bytes : List Nat} {s t : State} {f : Fld}

/-- What a block writes of the link's registers. -/
def reportFields (h : Nat) : List Fld :=
  [F.HL_TELEM0_LASER_T h, F.HL_TELEM0_I_READ h, F.HL_TELEM1_I_WRITE h, F.HL_TELEM1_I_BIAS h, F.HL_LAT_LAST h, F.HL_LAT_PEAK h,
    F.HL_SERVO_CNT_MISMATCH h] ++ evFields (evHL h)

theorem atHead_blockNoted (h latency : Nat) (bytes : List Nat) (s : State) : AtHead h s (blockNoted h latency bytes s) (reportFields h) :=
  (atHead_updHead h _ s _).trans (atHead_putAll (by simp [telemetry, reportFields]))

theorem atHead_copiesCompared (h bad : Nat) (s : State) :
    AtHead h s (copiesCompared h bad s) (F.HL_SERVO_CNT_MISMATCH h :: evFields (evHL h)) := by
  unfold copiesCompared
  split
  · exact AtHead.thenRaise (AtHead.thenPut (AtHead.refl h s _) (by simp)) (by simp [evFields]) (by simp [evFields])
  · exact AtHead.refl h s _

theorem atHead_latencyJudged (h latency limit : Nat) (s : State) : AtHead h s (latencyJudged h latency limit s) (evFields (evHL h)) := by
  unfold latencyJudged
  split
  · exact atHead_raise (by simp [evFields]) (by simp [evFields])
  · exact AtHead.refl h s _

theorem blockTimed_drive (h : Nat) (disc : Bool) (s : State) :
    AtDrive h s (blockTimed h disc s) ([F.CH_SAMPLE_DISC h, F.CH_EVT h] ++ abandonFields h) := by
  unfold blockTimed restartLoops updChan
  split
  · refine AtDrive.thenUpd (abandonSlots_drive (AtDrive.thenRaise (AtDrive.thenPut (AtDrive.refl h s _) ?_) ?_ ?_)
      (List.subset_append_right ..) _) _
    all_goals simp [evCH, abandonFields]
  · exact AtDrive.refl h s _

theorem atHead_pulseInForce (h : Nat) (s : State) : AtHead h s (pulseInForce h s) ((List.range 34).map (F.WRP_PULSE h)) := by
  unfold pulseInForce
  split
  · exact AtHead.refl h s _
  · split
    · exact AtHead.refl h s _
    · refine (atHead_updHead h _ s _).trans (atHead_putAll fun p hp => ?_)
      obtain ⟨i, hi, rfl⟩ := List.mem_map.1 hp
      exact List.mem_map_of_mem hi

/-! ### The sample of a block -/

/-- Nothing has changed but one head's servo, the listed fields and the event log; its link has not. -/
structure AtServo (h : Nat) (s t : State) (fs : List Fld) : Prop where
  head : AtHead h s t fs
  link : linkOf t h = linkOf s h

variable {u : State} {fs gs : List Fld}

theorem AtServo.refl (h : Nat) (s : State) (fs : List Fld) : AtServo h s s fs := ⟨AtHead.refl h s fs, rfl⟩
theorem AtServo.trans (k : AtServo h s t fs) (l : AtServo h t u fs) : AtServo h s u fs := ⟨k.head.trans l.head, l.link.trans k.link⟩
theorem AtServo.mono (k : AtServo h s t fs) (hs : fs ⊆ gs) : AtServo h s t gs := ⟨k.head.mono hs, k.link⟩
theorem AtServo.thenPut (k : AtServo h s t fs) {v : Nat} (hf : f ∈ fs) : AtServo h s (put f v t) fs := ⟨k.head.thenPut hf, k.link⟩
theorem AtServo.thenServo (k : AtServo h s t fs) (g : Servo → Servo) : AtServo h s (updServo h g t) fs :=
  ⟨k.head.thenUpd _, by rw [linkOf, getHead_updServo]; exact k.link⟩
theorem atServo_permits (h : Nat) (s : State) : AtServo h s (permits h s) (permitFields h) := ⟨atHead_permits h s, rfl⟩

theorem atServo_beamSample (h j sum : Nat) (s : State) : AtServo h s (beamSample h j sum s) [F.SV_REF_REF_0 h, F.SV_REF_REF_1 h] := by
  unfold beamSample
  extract_lets v f ref inside outRun inRun inv s1
  have h1 : AtServo h s s1 [F.SV_REF_REF_0 h, F.SV_REF_REF_1 h] := AtServo.thenServo (AtServo.refl h s _) _
  split
  · exact h1
  · refine h1.thenPut ?_
    change (if j = 0 then F.SV_REF_REF_0 h else F.SV_REF_REF_1 h) ∈ _
    split <;> simp

theorem atServo_formErrors (h : Nat) (b : List Nat) (s : State) :
    AtServo h s (formErrors h b s) [F.SV_SKEW h, F.SV_ERR_FE h, F.SV_ERR_TE h] := by
  unfold formErrors
  extract_lets v ok fe sum te sat cal f num den t k feN teN errs s1
  split
  · exact AtServo.refl h s _
  · have h1 : AtServo h s s1 [F.SV_SKEW h, F.SV_ERR_FE h, F.SV_ERR_TE h] := AtServo.thenServo (AtServo.refl h s _) _
    exact AtServo.thenPut (AtServo.thenPut (h1.thenPut (by simp)) (by simp)) (by simp)

theorem atServo_countRuns (h : Nat) (s : State) (fs : List Fld) : AtServo h s (countRuns h s) fs := by
  unfold countRuns
  extract_lets v st offl closed track
  rw [ite_self]
  exact AtServo.thenServo (AtServo.refl h s fs) _

/-- What a sample of the sweep writes of a layer's calibration. -/
def layerFields (h l : Nat) : List Fld := [F.SV_LAYER_CAL_FE_PP h l, F.SV_LAYER_CAL_SUM h l]

theorem atServo_sweepSample (h : Nat) (fe : Int) (sum : Nat) (s : State) : ∃ l, AtServo h s (sweepSample h fe sum s) (layerFields h l) := by
  unfold sweepSample
  extract_lets v hit starts layer hi lo own s1
  have h1 : ∃ l, AtServo h s s1 (layerFields h l) := by
    rcases own with _ | l
    · exact ⟨0, AtServo.refl h s _⟩
    · refine ⟨l, AtServo.thenPut ?_ (by simp [layerFields])⟩
      split
      · exact (AtServo.refl h s _).thenPut (by simp [layerFields])
      · exact AtServo.refl h s _
  obtain ⟨l, h1⟩ := h1
  exact ⟨l, h1.thenServo _⟩

theorem atServo_moveSample (h : Nat) (te : Int) (s : State) : AtServo h s (moveSample h te s) [F.SV_POS_BAND h] := by
  unfold moveSample
  extract_lets v r
  split
  · exact AtServo.refl h s _
  · exact AtServo.thenPut (AtServo.thenServo (AtServo.refl h s _) _) (by simp)

theorem atServo_pullSample (h : Nat) (te : Int) (s : State) (fs : List Fld) : AtServo h s (pullSample h te s) fs := by
  unfold pullSample
  extract_lets v down any hi lo
  exact AtServo.thenServo (AtServo.refl h s fs) _

theorem atServo_jumpSample (h : Nat) (fe : Int) (s : State) (fs : List Fld) : AtServo h s (jumpSample h fe s) fs := by
  unfold jumpSample
  extract_lets v deeper n m
  exact AtServo.thenServo (AtServo.refl h s fs) _

theorem atServo_servoSequence (h : Nat) (b : List Nat) (s : State) :
    ∃ l, AtServo h s (servoSequence h b s) (F.SV_POS_BAND h :: layerFields h l) := by
  unfold servoSequence
  extract_lets v st sum fe ok part te
  split
  · obtain ⟨l, hl⟩ := atServo_sweepSample h fe sum s
    exact ⟨l, AtServo.thenServo (hl.mono (List.subset_cons_self ..)) _⟩
  · refine ⟨0, ?_⟩
    split
    · exact AtServo.refl h s _
    · refine AtServo.thenServo ?_ _
      split_ifs
      · exact atServo_pullSample h te s _
      · exact (atServo_moveSample h te s).mono (by simp)
      · exact atServo_jumpSample h fe s _
      · exact AtServo.refl h s _

/-- On track a sample moves no position (R175). -/
theorem atServo_servoSequence_onTrack {b : List Nat} (hst : Machine.get s (F.SV_STATUS_STATE h) = 5) (fs : List Fld) :
    AtServo h s (servoSequence h b s) fs := by
  unfold servoSequence
  extract_lets v st sum fe ok part te
  have h5 : st = 5 := hst
  rw [if_neg (by omega)]
  split
  · exact AtServo.refl h s _
  · rw [if_neg (by omega), if_neg (by omega), if_neg (by omega)]
    exact AtServo.thenServo (AtServo.refl h s fs) _

/-- What a sample writes on track. -/
def sampleFields (h : Nat) : List Fld :=
  [F.SV_REF_REF_0 h, F.SV_REF_REF_1 h, F.SV_SKEW h, F.SV_ERR_FE h, F.SV_ERR_TE h] ++ permitFields h

/-- The state in which a sample's errors have been formed. -/
def errorsFormed (h : Nat) (b : List Nat) (s : State) : State :=
  formErrors h b (beamSample h 1 (sbNat b 16 2) (beamSample h 0 (sbNat b 10 2) s))

theorem atServo_errorsFormed (h : Nat) (b : List Nat) (s : State) : AtServo h s (errorsFormed h b s) (sampleFields h) := by
  have hbeam (j n : Nat) (u : State) : AtServo h u (beamSample h j n u) (sampleFields h) := (atServo_beamSample h j n u).mono (by simp [sampleFields])
  exact ((hbeam 0 _ s).trans (hbeam 1 _ _)).trans ((atServo_formErrors h b _).mono (by simp [sampleFields]))

theorem atServo_blockSampled (h : Nat) (b : List Nat) (s : State) :
    ∃ l, AtServo h s (blockSampled h b s) (sampleFields h ++ (F.SV_POS_BAND h :: layerFields h l)) := by
  obtain ⟨l, hl⟩ := atServo_servoSequence h b (errorsFormed h b s)
  exact ⟨l, ((((atServo_errorsFormed h b s).mono (List.subset_append_left ..)).trans (hl.mono (List.subset_append_right ..))).trans
    (atServo_countRuns h _ _)).trans ((atServo_permits h _).mono fun f hf => by simp [sampleFields, hf])⟩

theorem atServo_blockSampled_onTrack {b : List Nat} (hh : h < 64) (hst : Machine.get s (F.SV_STATUS_STATE h) = 5) :
    AtServo h s (blockSampled h b s) (sampleFields h) := by
  have hapart : ∀ h < 64, (F.SV_STATUS_STATE h).key ∉ (sampleFields h).map Fld.key := by decide +kernel
  have hseq := atServo_servoSequence_onTrack (b := b) ((atServo_errorsFormed h b s).head.get (hapart h hh) |>.trans hst) (sampleFields h)
  exact (((atServo_errorsFormed h b s).trans hseq).trans (atServo_countRuns h _ _)).trans
    ((atServo_permits h _).mono (List.subset_append_right ..))

end frames

end Sys2Proof.Proofs
end

section
/-! SUPPORT. What a servo block leaves in its link and its servo, and the clause of O9 (R65, R66, R70). -/

namespace Sys2Proof.Proofs

open Sys2Proof.Machine Sys2Proof.Laws

section links
variable {h : Nat} {s : State}

/-- A link but for a pulse table that waits for its superframe. -/
def linkCore (k : Link) : Link := { k with commitSf := none }

theorem link_abandonSlots (p : OpenSlot → Bool) : linkOf (abandonSlots h p s) h = linkOf s h := by
  have hverify (addr : Nat) (t : State) : linkOf (verifyFail h addr t) h = linkOf t h := by
    unfold verifyFail
    dsimp only
    split
    · rfl
    · split
      · rfl
      · rw [linkOf, getHead_raise, getHead_bump, updWrite, getHead_updHead_same]
        rfl
  have hfold (l : List OpenSlot) (t : State) : linkOf (l.foldl (fun t o =>
      if o.verify then verifyFail h o.addr (dropJobs h o.addr t) else dropJobs h o.addr t) t) h = linkOf t h := by
    induction l generalizing t with
    | nil => rfl
    | cons o l ih =>
      rw [List.foldl_cons, ih]
      split
      · rw [hverify]
        rfl
      · rfl
  unfold abandonSlots
  extract_lets gone s1
  split
  · rfl
  · change linkOf (gone.foldl _ s1) h = _
    rw [hfold, linkOf, getHead_updChan]
    rfl

theorem link_blockTimed (h : Nat) (disc : Bool) (s : State) : linkOf (blockTimed h disc s) h = linkOf s h := by
  unfold blockTimed
  split
  · rw [linkOf, restartLoops, getHead_updChan]
    change linkOf (abandonSlots h _ _) h = _
    rw [link_abandonSlots, linkOf, raiseCH, getHead_raise]
    rfl
  · rfl

theorem linkCore_pulseInForce (h : Nat) (s : State) : linkCore (linkOf (pulseInForce h s) h) = linkCore (linkOf s h) := by
  unfold pulseInForce
  split
  · rfl
  · split
    · rfl
    · rw [linkOf, getHead_putAll, getHead_updHead_same]
      rfl

theorem missRun_countRuns (h : Nat) (s : State) : (servoOf (countRuns h s) h).missRun = 0 := by
  unfold countRuns
  extract_lets v st offl closed track
  rw [servoOf, getHead_updServo]

theorem missRun_blockSampled (h : Nat) (b : List Nat) (s : State) : (servoOf (blockSampled h b s) h).missRun = 0 := by
  rw [servoOf, blockSampled, getHead_permits, ← servoOf, missRun_countRuns]

end links

section block
variable {h lane latency : Nat} {times bytes : List Nat} {s t : State} {f : Fld}

/-! ### The registers of the link -/

/-- What a block leaves in the link's registers. -/
def reportKept (h : Nat) : List Fld :=
  [F.HL_TELEM0_LASER_T h, F.HL_TELEM0_I_READ h, F.HL_TELEM1_I_WRITE h, F.HL_TELEM1_I_BIAS h, F.HL_LAT_LAST h, F.HL_EVT h]

/-- What a block writes after these. -/
def laterFields (h : Nat) : List Fld :=
  [F.CH_SAMPLE_DISC h, F.CH_EVT h] ++ abandonFields h ++ (List.range 34).map (F.WRP_PULSE h)

theorem report_apart : ∀ h < 64, ∀ f ∈ reportKept h, f.key ∉ (laterFields h).map Fld.key ∧
    f.key ∉ (sampleFields h ++ [F.SV_POS_BAND h]).map Fld.key ∧ f.key < 8 * (0x1030100 + h * 0x40000) := by decide +kernel

/-- The registers of the link lie below every layer's calibration. -/
theorem report_apart_sample {l : Nat} (hh : h < 64) (hf : f ∈ reportKept h) :
    f.key ∉ (sampleFields h ++ (F.SV_POS_BAND h :: layerFields h l)).map Fld.key := by
  obtain ⟨-, hs, hlt⟩ := report_apart h hh f hf
  simp only [List.map_append, List.map_cons, List.map_nil, List.mem_append, List.mem_cons, List.not_mem_nil, or_false, not_or] at hs
  simp only [layerFields, List.map_append, List.map_cons, List.map_nil, List.mem_append, List.mem_cons, List.not_mem_nil, or_false, not_or]
  refine ⟨hs.1, hs.2, ?_, ?_⟩
  all_goals
    simp only [Fld.key, F.SV_LAYER_CAL_FE_PP, F.SV_LAYER_CAL_SUM] at hlt ⊢
    omega

/-- The state in which a block has been reported. -/
def blockReported (h latency : Nat) (times bytes : List Nat) (s : State) : State :=
  latencyJudged h latency (Machine.get s (F.HL_LAT_LIMIT h))
    (copiesCompared h (differing s h times bytes latency) (blockNoted h latency bytes s))

theorem atHead_blockReported (h latency : Nat) (times bytes : List Nat) (s : State) :
    AtHead h s (blockReported h latency times bytes s) (reportFields h) :=
  ((atHead_blockNoted h latency bytes s).trans ((atHead_copiesCompared h _ _).mono (by simp [reportFields, evFields]))).trans
    ((atHead_latencyJudged h latency _ _).mono fun f hf => by simp [reportFields, hf])

theorem blockTaken_drive (h latency : Nat) (times bytes : List Nat) (s : State) :
    AtDrive h (blockReported h latency times bytes s) (blockTaken h latency times bytes s) (laterFields h) :=
  ((blockTimed_drive h (discontinuous s h bytes) _).mono (List.subset_append_left ..)).trans
    ((atHead_pulseInForce h _).mono (List.subset_append_right ..)).drive

/-- A block to its end. -/
def blockDone (h latency : Nat) (times bytes : List Nat) (s : State) : State :=
  blockSampled h bytes (takeForces (offsetFields h) (blockTaken h latency times bytes s))

/-- The end of a block's run keeps the link's registers. -/
theorem get_block_report (hh : h < 64) (hf : f ∈ reportKept h) :
    Machine.get (blockDone h latency times bytes s) f
      = Machine.get (blockReported h latency times bytes s) f := by
  obtain ⟨l, hl⟩ := atServo_blockSampled h bytes (takeForces (offsetFields h) (blockTaken h latency times bytes s))
  rw [blockDone, hl.head.get (report_apart_sample hh hf), get_takeForces, (blockTaken_drive h latency times bytes s).get (report_apart h hh f hf).1]

theorem get_reported {v : Nat} (hh : h < 64)
    (hf : (f, v) ∈ telemetry h bytes latency (Machine.get s (F.HL_LAT_PEAK h))) :
    Machine.get (blockReported h latency times bytes s) f = trunc f.width v := by
  have hapart : ∀ h < 64, ((telemetry h [] 0 0).map fun p => p.1.key).Nodup ∧
      ∀ p ∈ telemetry h [] 0 0, p.1.key ∉ (F.HL_SERVO_CNT_MISMATCH h :: evFields (evHL h)).map Fld.key := by decide +kernel
  obtain ⟨hnodup, hout⟩ := hapart h hh
  have hmem : ∃ p ∈ telemetry h [] 0 0, p.1 = f := by
    have : f ∈ (telemetry h bytes latency (Machine.get s (F.HL_LAT_PEAK h))).map Prod.fst := List.mem_map_of_mem (f := Prod.fst) hf
    exact List.mem_map.1 this
  obtain ⟨p, hp, rfl⟩ := hmem
  rw [blockReported, (atHead_latencyJudged h latency _ _).get fun e => hout p hp (List.mem_cons_of_mem _ e),
    (atHead_copiesCompared h _ _).get (hout p hp)]
  exact get_putAll_mem hnodup hf

theorem raised_reported_latency (hlim : Machine.get s (F.HL_LAT_LIMIT h) < latency) :
    Raised (blockReported h latency times bytes s) (evHL h) B.HL_EVT_LAT_EXCEED := by
  rw [blockReported, latencyJudged, if_pos hlim]
  exact raised_raise headEv_hl (by decide)

/-- A later copy that differs is raised (R66). -/
theorem raised_reported_mismatch (hc : ∃ c ∈ servoCopies (linkOf s h), latency < times.getD c.1 0 ∧ sameCopy c.2 bytes = false) :
    Raised (blockReported h latency times bytes s) (evHL h) B.HL_EVT_SERVO_MISMATCH := by
  obtain ⟨c, hmem, hlate, hdiff⟩ := hc
  have hpos : 0 < differing s h times bytes latency := List.length_pos_of_mem (List.mem_filter.2
    ⟨List.mem_map_of_mem (List.mem_filter.2 ⟨hmem, by simpa using hlate⟩), by simpa using hdiff⟩)
  have hr : Raised (copiesCompared h (differing s h times bytes latency) (blockNoted h latency bytes s)) (evHL h) B.HL_EVT_SERVO_MISMATCH := by
    rw [copiesCompared, if_pos hpos]
    exact raised_raise headEv_hl (by decide)
  rw [blockReported, latencyJudged]
  split
  · exact raised_raise_of_raised headEv_hl (by decide) hr
  · exact hr

/-! ### The link and the offsets in force -/

theorem link_blockReported (h latency : Nat) (times bytes : List Nat) (s : State) :
    linkOf (blockReported h latency times bytes s) h = linkServed bytes (linkOf s h) := by
  have hcmp (bad : Nat) (u : State) : linkOf (copiesCompared h bad u) h = linkOf u h := by
    unfold copiesCompared
    split
    · rw [linkOf, getHead_raise, getHead_bump]
      rfl
    · rfl
  have hlat (n m : Nat) (u : State) : linkOf (latencyJudged h n m u) h = linkOf u h := by
    unfold latencyJudged
    split
    · rw [linkOf, getHead_raise]
      rfl
    · rfl
  rw [blockReported, hlat, hcmp, linkOf, blockNoted, getHead_putAll, updLink, getHead_updHead_same]
  rfl

theorem link_takeForces (l : List Fld) (s : State) : linkOf (takeForces l s) h = linkOf s h := by
  obtain ⟨r, hr⟩ := takeForces_force l s
  rw [hr]
  rfl

/-- The link has taken the block, and with it perhaps a pulse table. -/
theorem link_blockDone (h latency : Nat) (times bytes : List Nat) (s : State) :
    ∃ c, linkOf (blockDone h latency times bytes s) h = { linkServed bytes (linkOf s h) with commitSf := c } := by
  obtain ⟨l, hl⟩ := atServo_blockSampled h bytes (takeForces (offsetFields h) (blockTaken h latency times bytes s))
  have htaken : linkOf (blockDone h latency times bytes s) h = linkOf (blockTaken h latency times bytes s) h := hl.link.trans (link_takeForces _ _)
  have hcore : linkCore (linkOf (blockTaken h latency times bytes s) h) = linkCore (linkServed bytes (linkOf s h)) := by
    have hreported := link_blockReported h latency times bytes s
    rw [blockReported] at hreported
    rw [blockTaken, linkCore_pulseInForce, link_blockTimed, hreported]
  rw [htaken]
  exact ⟨_, congrArg (fun k : Link => { k with commitSf := (linkOf (blockTaken h latency times bytes s) h).commitSf }) hcore⟩

theorem inForce_atHead {fs : List Fld} (k : AtHead h s t fs) (f : Fld) : inForce t f = inForce s f := by
  obtain ⟨⟨_, _, _, rfl⟩, -, -⟩ := k
  rfl

theorem inForce_block (hh : h < 64) (hf : f ∈ offsetFields h) :
    inForce (blockDone h latency times bytes s) f = Machine.get s f := by
  have hapart : ∀ h < 64, ((offsetFields h).map Fld.key).Nodup ∧ ∀ f ∈ offsetFields h, f.key ∉ (laterFields h).map Fld.key ∧
      f.key ∉ (reportFields h).map Fld.key := by decide +kernel
  obtain ⟨hnodup, hout⟩ := hapart h hh
  obtain ⟨l, hl⟩ := atServo_blockSampled h bytes (takeForces (offsetFields h) (blockTaken h latency times bytes s))
  rw [blockDone, inForce_atHead hl.head, inForce_takeForces_of_mem hnodup hf, (blockTaken_drive h latency times bytes s).get (hout f hf).1,
    (atHead_blockReported h latency times bytes s).get (hout f hf).2]

/-- On track and without a pulse table or a run of samples that it breaks, a block is reported, sampled and nothing else. -/
theorem blockDone_quiet (ht : (linkOf s h).timing = false) (hc : (linkOf s h).commitSf = none) :
    blockDone h latency times bytes s = blockSampled h bytes (takeForces (offsetFields h) (blockReported h latency times bytes s)) := by
  have hdisc : discontinuous s h bytes = false := by simp [discontinuous, ht]
  have hcommit : (linkOf (blockReported h latency times bytes s) h).commitSf = none := by
    rw [link_blockReported]
    exact hc
  have hpulse : pulseInForce h (blockReported h latency times bytes s) = blockReported h latency times bytes s := by
    rw [pulseInForce, hcommit]
  have htaken : blockTaken h latency times bytes s = pulseInForce h (blockReported h latency times bytes s) := by
    rw [blockTaken, hdisc]
    rfl
  rw [blockDone, htaken, hpulse]

theorem quiet_block (hh : h < 64) (ht : (linkOf s h).timing = false) (hc : (linkOf s h).commitSf = none)
    (hst : Machine.get s (F.SV_STATUS_STATE h) = 5) :
    inner (blockDone h latency times bytes s) = { inner s with
      heads := (blockDone h latency times bytes s).heads, force := (blockDone h latency times bytes s).force } ∧
    OnlyHead h s (blockDone h latency times bytes s) ∧ OnlyFields s (blockDone h latency times bytes s) (reportFields h ++ sampleFields h) := by
  have hapart : ∀ h < 64, (F.SV_STATUS_STATE h).key ∉ (reportFields h).map Fld.key := by decide +kernel
  have hrep := atHead_blockReported h latency times bytes s
  have hsample : AtHead h (takeForces (offsetFields h) (blockReported h latency times bytes s)) (blockDone h latency times bytes s)
      (sampleFields h) := by
    rw [blockDone_quiet ht hc]
    exact (atServo_blockSampled_onTrack hh (by rw [get_takeForces, hrep.get (hapart h hh), hst])).head
  have hfields : OnlyFields s (blockDone h latency times bytes s) (reportFields h ++ sampleFields h) := fun f hf => by
    simp only [List.map_append, List.mem_append, not_or] at hf
    rw [hsample.get hf.2, get_takeForces, hrep.get hf.1]
  obtain ⟨r, hr⟩ := takeForces_force (offsetFields h) (blockReported h latency times bytes s)
  rw [hr] at hsample
  obtain ⟨⟨_, _, _, h1⟩, ho1, -⟩ := hrep
  obtain ⟨⟨_, _, _, h2⟩, ho2, -⟩ := hsample
  refine ⟨?_, fun g hg => (ho2 g hg).trans (ho1 g hg), hfields⟩
  rw [h2, h1]
  rfl

/-- What a quiet block writes, in the order of O9. -/
theorem block_subset (h : Nat) : reportFields h ++ sampleFields h ⊆ [F.HL_TELEM0_LASER_T h, F.HL_TELEM0_I_READ h, F.HL_TELEM1_I_WRITE h,
    F.HL_TELEM1_I_BIAS h, F.HL_LAT_LAST h, F.HL_LAT_PEAK h, F.HL_SERVO_CNT_MISMATCH h, F.SV_REF_REF_0 h, F.SV_REF_REF_1 h, F.SV_SKEW h,
    F.SV_ERR_FE h, F.SV_ERR_TE h] ++ permitFields h ++ evFields (evHL h) := by
  simp [reportFields, sampleFields, permitFields, evFields]

/-- The first copy of a servo block is taken (R65, R66, R70). -/
theorem completes_servoBlock (hi : headInst s h = true) (hst : Machine.get s (F.HL_STATUS_STATE h) = 5)
    (hserved : (linkOf s h).served = false)
    (hfirst : firstCopy (fun l => times.getD l 0) (servoCopies (linkOf s h)) = some (lane, bytes)) :
    Completes (.servoBlock h times) s fun t =>
      Machine.get t (F.HL_TELEM0_LASER_T h) = trunc 16 (sbNat bytes 24 2) ∧ Machine.get t (F.HL_TELEM0_I_READ h) = trunc 16 (sbNat bytes 26 2) ∧
      Machine.get t (F.HL_TELEM1_I_WRITE h) = trunc 16 (sbNat bytes 28 2) ∧ Machine.get t (F.HL_TELEM1_I_BIAS h) = trunc 16 (sbNat bytes 30 2) ∧
      Machine.get t (F.HL_LAT_LAST h) = min 65535 (times.getD lane 0) ∧ (linkOf t h).copy = bytes.take 36 ∧ (linkOf t h).served = true ∧
      (servoOf t h).missRun = 0 ∧ (linkOf t h).timing = true ∧
      (Machine.get s (F.HL_LAT_LIMIT h) < times.getD lane 0 → Raised t (evHL h) B.HL_EVT_LAT_EXCEED) ∧
      ((∃ c ∈ servoCopies (linkOf s h), times.getD lane 0 < times.getD c.1 0 ∧ sameCopy c.2 bytes = false) →
        Raised t (evHL h) B.HL_EVT_SERVO_MISMATCH) ∧
      inForce t (F.SV_OFFSET_TRACK_OFS h) = Machine.get s (F.SV_OFFSET_TRACK_OFS h) ∧
      inForce t (F.SV_OFFSET_FOCUS_OFS h) = Machine.get s (F.SV_OFFSET_FOCUS_OFS h) ∧
      ((linkOf s h).timing = false → (linkOf s h).commitSf = none → Machine.get s (F.SV_STATUS_STATE h) = 5 →
        inner t = { inner s with heads := t.heads, force := t.force } ∧ OnlyHead h s t ∧
        OnlyFields s t ([F.HL_TELEM0_LASER_T h, F.HL_TELEM0_I_READ h, F.HL_TELEM1_I_WRITE h, F.HL_TELEM1_I_BIAS h, F.HL_LAT_LAST h,
          F.HL_LAT_PEAK h, F.HL_SERVO_CNT_MISMATCH h, F.SV_REF_REF_0 h, F.SV_REF_REF_1 h, F.SV_SKEW h, F.SV_ERR_FE h, F.SV_ERR_TE h]
          ++ permitFields h ++ evFields (evHL h))) := by
  have hh := headInst_lt hi
  have htel {f : Fld} {v : Nat} (hk : f ∈ reportKept h)
      (hf : (f, v) ∈ telemetry h bytes (times.getD lane 0) (Machine.get s (F.HL_LAT_PEAK h))) :
      Machine.get (blockDone h (times.getD lane 0) times bytes s) f = trunc f.width v := (get_block_report hh hk).trans (get_reported hh hf)
  have hraised {i : Nat} (hr : Raised (blockReported h (times.getD lane 0) times bytes s) (evHL h) i) :
      Raised (blockDone h (times.getD lane 0) times bytes s) (evHL h) i := raised_of_get (get_block_report hh (by simp [reportKept, evHL])) hr
  obtain ⟨c, hlink⟩ := link_blockDone h (times.getD lane 0) times bytes s
  have hlat : trunc 16 (min 65535 (times.getD lane 0)) = min 65535 (times.getD lane 0) := Nat.mod_eq_of_lt (by omega)
  refine completes_of_exec (t := blockDone h (times.getD lane 0) times bytes s) (exec_servoBlock hi hst hserved hfirst)
    ⟨htel (by simp [reportKept]) (by simp [telemetry]), htel (by simp [reportKept]) (by simp [telemetry]),
      htel (by simp [reportKept]) (by simp [telemetry]), htel (by simp [reportKept]) (by simp [telemetry]),
      (htel (by simp [reportKept]) (by simp [telemetry])).trans hlat, by rw [hlink]; rfl, by rw [hlink]; rfl, missRun_blockSampled h bytes _,
      by rw [hlink]; rfl,
      fun hlim => hraised (raised_reported_latency hlim), fun hc => hraised (raised_reported_mismatch hc),
      inForce_block hh (by simp [offsetFields]), inForce_block hh (by simp [offsetFields]), fun ht hc h5 => ?_⟩
  obtain ⟨hinner, hothers, hfields⟩ := quiet_block (times := times) (bytes := bytes) (latency := times.getD lane 0) hh ht hc h5
  exact ⟨hinner, hothers, only_mono hfields fun f hf => List.mem_map_of_mem (block_subset h hf)⟩

end block

end Sys2Proof.Proofs
end

section
/-! O9: servo samples, address units, holds and limits. -/

namespace Sys2Proof.Proofs

open Sys2Proof.Machine Sys2Proof.Laws

/-- Settles O9: each clause is one of the lemmas above, which take its command through its stages. -/
theorem servoSamplesAndLimits : Obligations.ServoSamplesAndLimits :=
  ⟨fun _ _ _ _ _ hi hst hs hf => completes_servoBlock hi hst hs hf,
    fun _ _ hi hst hs hn => completes_servoMiss hi hst hs hn,
    fun _ _ _ _ _ _ hi he hw hg hc hl hu => completes_agreeingUnit hi he hw hg hc hl hu,
    fun _ _ _ _ _ hi he hw hg hc hl => completes_firstUnit hi he hw hg hc hl,
    fun _ _ _ _ _ hi he hw hg => completes_badUnit hi he hw hg,
    fun _ _ _ _ _ hi he hw => completes_heldUnit hi he hw,
    fun _ _ _ _ _ _ hi he hw hg hc hx hu hl => completes_expectedUnit hi he hw hg hc hx hu hl,
    fun _ _ _ _ _ _ hi he hw hg hc hx hu => completes_otherUnit hi he hw hg hc hx hu,
    fun _ _ hi h4 h6 h0 h1 => completes_defectHold hi h4 h6 h0 h1,
    fun _ _ hi hst hb ht hf => completes_defectHoldEnd hi hst hb ht hf,
    fun _ _ hi hst ht hf => completes_defectLong hi hst ht hf,
    fun _ _ hi h3 h6 hr => completes_focusLost hi h3 h6 hr,
    fun _ _ hi hr ho => completes_offtrackEpisode hi hr ho,
    fun _ _ hi hc ho => completes_offtrackEpisodeEnd hi hc ho,
    fun _ _ hi h2 h8 hm => completes_missLimit hi h2 h8 hm⟩

end Sys2Proof.Proofs
end

section
/-! SUPPORT. The end of a head's work on a disc: the ladder's sectors handed over, the ladder's hold on a band, and the slots dropped
(R137, R140, R148, R271). -/

namespace Sys2Proof.Proofs

open Sys2Proof.Machine Sys2Proof.Laws

/-! ### Frames of a bay whose disc leaves -/

/-- Nothing has changed but heads, decoder pools, axes, the parity engine's partial sectors, what the host has been told, the losses of the
bay's disc, the window and the event log; the listed fields have not. -/
structure AtBay (b : Nat) (keep : List Fld) (s t : State) : Prop where
  shape : ∃ r l hs p x ds q k, t = { s with
    regs := r, log := l, heads := hs, pools := p, axes := x, lib := { s.lib with discs := ds }, par := { s.par with part := q },
    host := toldBy s.host k }
  discs : ∀ j, getDisc t j = { getDisc s j with losses := (getDisc t j).losses }
  only  : OnlyDiscs [(mountOf s b).disc] s t
  keeps : ∀ f ∈ keep, Machine.get t f = Machine.get s f

section frame
variable {b h : Nat} {keep fs : List Fld} {s t u : State}

theorem AtBay.mounts (k : AtBay b keep s t) : t.lib.mounts = s.lib.mounts := by
  obtain ⟨⟨_, _, _, _, _, _, _, _, rfl⟩, -, -, -⟩ := k
  rfl

theorem AtBay.mountOf (k : AtBay b keep s t) (j : Nat) : mountOf t j = mountOf s j := by simp only [Machine.mountOf, k.mounts]

theorem AtBay.refl (b : Nat) (keep : List Fld) (s : State) : AtBay b keep s s :=
  ⟨⟨s.regs, s.log, s.heads, s.pools, s.axes, s.lib.discs, s.par.part, s.host, rfl⟩, fun _ => rfl, fun _ _ => rfl, fun _ _ => rfl⟩

theorem AtBay.trans (k : AtBay b keep s t) (l : AtBay b keep t u) : AtBay b keep s u := by
  have hm := k.mountOf b
  obtain ⟨⟨_, _, _, _, _, _, _, _, rfl⟩, kd, ko, kk⟩ := k
  obtain ⟨⟨r, g, hs, p, x, ds, q, e, rfl⟩, ld, lo, lk⟩ := l
  refine ⟨⟨r, g, hs, p, x, ds, q, e, rfl⟩, fun j => ?_, OnlyDiscs.trans ko (hm ▸ lo), fun f hf => (lk f hf).trans (kk f hf)⟩
  rw [ld j, kd j]

theorem AtBay.mono (k : AtBay b keep s t) (hs : fs ⊆ keep) : AtBay b fs s t := ⟨k.shape, k.discs, k.only, fun f hf => k.keeps f (hs hf)⟩

theorem AtDrive.atBay (k : AtDrive h s t fs) (hk : ∀ f ∈ keep, f.key ∉ fs.map Fld.key) : AtBay b keep s t := by
  have hget : ∀ f ∈ keep, Machine.get t f = Machine.get s f := fun f hf => k.get (hk f hf)
  obtain ⟨⟨r, l, hs, p, x, rfl⟩, -, -⟩ := k
  exact ⟨⟨r, l, hs, p, x, s.lib.discs, s.par.part, s.host, rfl⟩, fun _ => rfl, fun _ _ => rfl, hget⟩

theorem Told.atBay (k : Told s t fs) (hk : ∀ f ∈ keep, f.key ∉ fs.map Fld.key) : AtBay b keep s t := by
  have hget : ∀ f ∈ keep, Machine.get t f = Machine.get s f := fun f hf => k.get (hk f hf)
  obtain ⟨⟨r, l, e, rfl⟩, -⟩ := k
  exact ⟨⟨r, l, s.heads, s.pools, s.axes, s.lib.discs, s.par.part, e, rfl⟩, fun _ => rfl, fun _ _ => rfl, hget⟩

/-- The bay's disc loses a sector. -/
theorem atBay_updDisc (b : Nat) (keep : List Fld) (s : State) :
    AtBay b keep s (updDisc (mountOf s b).disc (fun x => { x with losses := x.losses + 1 }) s) := by
  refine ⟨⟨s.regs, s.log, s.heads, s.pools, s.axes, _, s.par.part, s.host, rfl⟩, fun j => ?_, onlyDiscs_updDisc s _ _, fun _ _ => rfl⟩
  rw [getDisc_updDisc]
  split
  · next e => rw [e]
  · rfl

theorem AtDrive.thenChan (k : AtDrive h s t fs) (g : Chan → Chan) : AtDrive h s (updChan h g t) fs := k.thenUpd _
theorem AtDrive.thenSector (k : AtDrive h s t fs) (addr : Nat) (g : Sector → Sector) : AtDrive h s (updSector h addr g t) fs := k.thenChan _

end frame

/-! ### The ladder's hold -/

/-- What a hold of a band writes (R140, R189). -/
def holdFields (h : Nat) : List Fld := F.SV_STATUS_BAND_HOLD h :: (resultFields h ++ seekFields h)

section hold
variable {h band layer st : Nat} {slots : List Nat} {s t : State}

theorem atHead_svBegin (h op : Nat) (s : State) : AtHead h s (svBegin h op s) (svCmdFields h) :=
  ((atHead_svResult h 3 s).thenUpd _).trans (atHead_putAll (by simp [svCmdFields]))

theorem beginMove_drive (h op band layer : Nat) (slots : List Nat) (s : State) : AtDrive h s (beginMove h op band layer slots s) (holdFields h) := by
  unfold beginMove
  extract_lets dest s1
  have h1 : AtDrive h s s1 (holdFields h) := AtDrive.thenPut (AtDrive.thenUpd (AtDrive.refl h s _) _) (by simp [holdFields])
  split
  · exact AtDrive.trans (h1.thenUpd _) ((atHead_svDone h _).mono fun f hf => by simp [holdFields, hf]).drive
  · exact startSeek_drive h1 (fun f hf => by simp [holdFields, hf]) dest layer

theorem ladderHold_drive (h band layer : Nat) (slots : List Nat) (s : State) : AtDrive h s (ladderHold h band layer slots s) (holdFields h) := by
  unfold ladderHold
  extract_lets st
  split
  · split
    · exact AtDrive.thenUpd (AtDrive.refl h s _) _
    · exact ((atHead_svBegin h 1 s).mono fun f hf => by simp [holdFields, resultFields, hf]).drive.trans (beginMove_drive ..)
  · exact AtDrive.refl h s _

/-! ### Lenses that are not parked -/

/-- What does not write the servo's state leaves a lens where it is. -/
theorem not_parked_of_get (e : Machine.get t (F.SV_STATUS_STATE h) = Machine.get s (F.SV_STATUS_STATE h)) (hp : lensParked s h = false) :
    lensParked t h = false := by
  rw [lensParked, e]
  exact hp

theorem not_parked_updServo (g : Servo → Servo) (hp : lensParked s h = false) : lensParked (updServo h g s) h = false := hp

theorem not_parked_svState (hh : h < 64) (hst : st = 6 ∨ st = 7) (s : State) : lensParked (svState h st s) h = false := by
  have h10 : st ≠ 10 := by omega
  rw [lensParked, get_svState_self h10 hh]
  rcases hst with rfl | rfl <;> rfl

theorem not_parked_goState (hh : h < 64) (hst : st = 6 ∨ st = 7) (hp : lensParked s h = false) : lensParked (goState h st s) h = false := by
  unfold goState
  split
  · exact not_parked_updServo _ hp
  · exact not_parked_svState hh hst s

theorem parked_apart : ∀ h < 64, (F.SV_STATUS_STATE h).key ∉ (abandonFields h ++ confirmFields h ++ permitFields h).map Fld.key ∧
    (∀ a < 2, (F.SV_STATUS_STATE h).key ∉ (moveFields (bayOf h) a).map Fld.key) ∧
    (F.SV_STATUS_STATE h).key ∉ (F.SV_STATUS_BAND_HOLD h :: svCmdFields h).map Fld.key ∧
    (F.SV_STATUS_STATE h).key ∉ (resultFields h).map Fld.key := by decide +kernel

theorem not_parked_startRadial (hh : h < 64) (hp : lensParked s h = false) : lensParked (startRadial h s) h = false := by
  obtain ⟨-, hmove, -, -⟩ := parked_apart h hh
  unfold startRadial
  extract_lets v d mode s1 b ax
  have h1 : lensParked s1 h = false := not_parked_goState hh (.inl rfl) (not_parked_updServo _ hp)
  have hax (p : Int) : lensParked (axMoveTo b ax p s1) h = false :=
    not_parked_of_get ((axMoveTo_atAxis (AtAxis.refl b ax s1 _) (by omega) p).only _ (hmove ax (by omega))) h1
  split
  · exact hax _
  · exact h1

theorem not_parked_startSeek (hh : h < 64) (hp : lensParked s h = false) : lensParked (startSeek h band layer s) h = false := by
  obtain ⟨hfields, -, -, -⟩ := parked_apart h hh
  have h0 : AtDrive h s (abandonSlots h (fun _ => true) (clearConfirm h s)) (abandonFields h ++ confirmFields h ++ permitFields h) :=
    abandonSlots_drive (clearConfirm_drive (AtDrive.refl h s _) (fun f hf => by simp [hf]) (fun f hf => by simp [hf])) (fun f hf => by simp [hf]) _
  unfold startSeek
  extract_lets s1
  have h1 : lensParked s1 h = false := not_parked_updServo _ (not_parked_of_get (h0.get hfields) hp)
  split
  · exact not_parked_goState hh (.inr rfl) (not_parked_goState hh (.inl rfl) (not_parked_updServo _ h1))
  · exact not_parked_startRadial hh h1

theorem not_parked_beginMove {op : Nat} (hh : h < 64) (hp : lensParked s h = false) : lensParked (beginMove h op band layer slots s) h = false := by
  obtain ⟨-, -, hhold, hdone⟩ := parked_apart h hh
  unfold beginMove
  extract_lets dest s1
  have h1 : AtHead h s s1 (F.SV_STATUS_BAND_HOLD h :: svCmdFields h) := AtHead.thenPut ((AtHead.refl h s _).thenUpd _) (by simp)
  have hp1 : lensParked s1 h = false := not_parked_of_get (h1.get hhold) hp
  split
  · exact not_parked_of_get ((atHead_svDone h _).get hdone) (not_parked_updServo _ hp1)
  · exact not_parked_startSeek hh hp1

/-- A hold of a band leaves the lens out of its park (R178, R187). -/
theorem not_parked_ladderHold (hh : h < 64) (hp : lensParked s h = false) : lensParked (ladderHold h band layer slots s) h = false := by
  obtain ⟨-, -, hhold, -⟩ := parked_apart h hh
  unfold ladderHold
  extract_lets st
  split
  · split
    · exact hp
    · exact not_parked_beginMove hh (not_parked_of_get (((atHead_svBegin h 1 s).mono (List.subset_cons_self ..)).get hhold) hp)
  · exact hp

end hold

end Sys2Proof.Proofs
end

section
/-! SUPPORT. The ladder's sectors handed over and the slots dropped when a bay's disc leaves (R137, R140, R148). -/

namespace Sys2Proof.Proofs

open Sys2Proof.Machine Sys2Proof.Laws

/-- The two heads of a bay. -/
def Sides (b h g : Nat) : Prop := (h = 2 * b ∧ g = 2 * b + 1) ∨ (h = 2 * b + 1 ∧ g = 2 * b)

theorem Sides.bay {b h g : Nat} (k : Sides b h g) : bayOf h = b := by rcases k with ⟨rfl, -⟩ | ⟨rfl, -⟩ <;> simp only [bayOf] <;> omega
theorem Sides.lt {b h g : Nat} (k : Sides b h g) (hb : b < 32) : h < 64 := by rcases k with ⟨rfl, -⟩ | ⟨rfl, -⟩ <;> omega

/-- What the departure of a disc reads of its spindle. -/
def motorFields (b : Nat) : List Fld := [F.MOT_STATUS_STATE b, F.MOT_STATUS_REGEN_BLOCKED b]
/-- The registers of a bay on which its disc's departure turns. -/
def bayFields (b : Nat) : List Fld := F.SV_STATUS_STATE (2 * b) :: F.SV_STATUS_STATE (2 * b + 1) :: motorFields b
/-- Those that the work of the bay's other head leaves. -/
def otherFields (b g : Nat) : List Fld := F.SV_STATUS_STATE g :: motorFields b

/-- What the end of a head's sectors writes but for the hold of the next band. -/
def sectorFields (h : Nat) : List Fld :=
  [F.CH_HANDOVER h, F.CH_TRUNC h, F.CH_EVT h, F.EVT_LOG_HEAD, F.CH_LADDER_STATUS_PENDING h, F.SV_OFFSET_TRACK_OFS h, F.SV_OFFSET_FOCUS_OFS h,
    F.CH_LADDER_STATUS_ACTIVE h, F.CH_LADDER_STATUS_RUNG h, F.CH_LADDER_STATUS_BAND h, F.CH_LADDER_STATUS_REVS h, F.CH_DEC_WEIGHT h,
    F.SV_STATUS_BAND_HOLD h] ++ poolFields h

section bay
variable {b h g : Nat} {s t : State}

/-- A property of both pairs of heads that is checked for each bay. -/
theorem Sides.of_both {p : Nat → Nat → Prop} (k : Sides b h g) (hp : p (2 * b) (2 * b + 1) ∧ p (2 * b + 1) (2 * b)) : p h g := by
  rcases k with ⟨rfl, rfl⟩ | ⟨rfl, rfl⟩
  · exact hp.1
  · exact hp.2

theorem sector_apart (k : Sides b h g) (hb : b < 32) : ∀ f ∈ bayFields b, f.key ∉ (sectorFields h).map Fld.key := by
  have hall : ∀ b < 32, ∀ f ∈ bayFields b, f.key ∉ (sectorFields (2 * b)).map Fld.key ∧ f.key ∉ (sectorFields (2 * b + 1)).map Fld.key := by
    decide +kernel
  exact k.of_both (p := fun h _ => ∀ f ∈ bayFields b, f.key ∉ (sectorFields h).map Fld.key)
    ⟨fun f hf => (hall b hb f hf).1, fun f hf => (hall b hb f hf).2⟩

theorem hold_apart (k : Sides b h g) (hb : b < 32) : ∀ f ∈ otherFields b g, f.key ∉ (holdFields h).map Fld.key := by
  have hall : ∀ b < 32, (∀ f ∈ otherFields b (2 * b + 1), f.key ∉ (holdFields (2 * b)).map Fld.key) ∧
      ∀ f ∈ otherFields b (2 * b), f.key ∉ (holdFields (2 * b + 1)).map Fld.key := by decide +kernel
  exact k.of_both (p := fun h g => ∀ f ∈ otherFields b g, f.key ∉ (holdFields h).map Fld.key) (hall b hb)

theorem arbour_apart (hb : b < 32) (s : State) : ∀ f ∈ bayFields b, f.key ∉ (arbourFields s).map Fld.key := by
  have hall : ∀ b < 32, ∀ f ∈ bayFields b, f.key < 8 * 0x4010000 ∧ f.key ≠ F.ARB_STATUS_OPEN_SETS.key ∧ f.key ≠ F.EVT_LOG_HEAD.key := by
    decide +kernel
  intro f hf e
  obtain ⟨hlt, hsets, hlog⟩ := hall b hb f hf
  rcases arbourFields_high e with e | e | e
  · exact hsets e
  · exact hlog e
  · omega

/-- What a map finds is what it reads. -/
theorem mapGet_of_mapFind {α : Type} {d : Nat → α} {m : Map α} {k : Nat} {v : α} (hv : mapFind m k = some v) : mapGet d m k = v := by
  induction m with
  | nil => cases hv
  | cons p m ih =>
    obtain ⟨j, w⟩ := p
    simp only [mapFind, mapGet] at hv ⊢
    split at hv
    · next e =>
      rw [if_pos e]
      exact Option.some.inj hv
    · next e =>
      rw [if_neg e]
      exact ih hv

/-- The disc of a head is the bay's disc. -/
theorem discOfHead_some {d : Nat} (hd : discOfHead s h = some d) (hb : bayOf h = b) : d = (mountOf s b).disc := by
  unfold discOfHead at hd
  rw [hb] at hd
  cases hm : mapFind s.lib.mounts b with
  | none => simp [hm] at hd
  | some m =>
    have hget : mountOf s b = m := mapGet_of_mapFind hm
    rw [hm] at hd
    simp only [Option.ite_none_right_eq_some, Option.some.injEq] at hd
    rw [hget, hd.2]

theorem handOver_atBay (k : Sides b h g) (hb : b < 32) (addr cause : Nat) (s : State) : AtBay b (bayFields b) s (handOver h addr cause s) := by
  have hdrive {t u : State} (hd : AtDrive h t u (sectorFields h)) : AtBay b (bayFields b) t u := hd.atBay (sector_apart k hb)
  unfold handOver
  split
  · exact AtBay.refl b _ s
  · extract_lets failed mask last revs s1 s2
    have h1 : AtBay b (bayFields b) s s1 :=
      hdrive (AtDrive.thenChan (AtDrive.thenSector (dropJobs_drive (AtDrive.refl h s _) (List.subset_append_right ..) addr) _ _) _)
    have h2 : AtBay b (bayFields b) s s2 := by
      cases hd : discOfHead s h with
      | none => simpa only [s2, hd] using h1
      | some d =>
        have e : d = (mountOf s1 b).disc := by rw [h1.mountOf, discOfHead_some hd k.bay]
        simp only [s2, hd, e]
        exact h1.trans (atBay_updDisc b _ s1)
    have h3 : AtBay b (bayFields b) s (refreshArbours s2) := h2.trans ((told_refreshArbours s2).atBay (arbour_apart hb s2))
    exact h3.trans (hdrive (countPending_drive (AtDrive.thenRaise (AtDrive.thenPut (AtDrive.refl h _ _) (by simp [sectorFields]))
      (by simp [sectorFields, evCH]) (by simp [sectorFields])) (by simp [sectorFields])))

theorem foldl_atBay {α : Type} {f : State → α → State} {keep : List Fld} (l : List α) (s : State)
    (hf : ∀ u x, AtBay b keep u (f u x)) : AtBay b keep s (l.foldl f s) := by
  induction l generalizing s with
  | nil => exact AtBay.refl b keep s
  | cons x l ih => exact (hf s x).trans (ih _)

/-- What the end of a head's ladder changes but for the hold of a band. -/
theorem endBand_cases (k : Sides b h g) (hb : b < 32) (s : State) : AtBay b (bayFields b) s (endBand h s) ∨
    ∃ t band layer slots, AtBay b (bayFields b) s t ∧ endBand h s = ladderHold h band layer slots t := by
  have hdrive {t u : State} (hd : AtDrive h t u (sectorFields h)) : AtBay b (bayFields b) t u := hd.atBay (sector_apart k hb)
  unfold endBand startBand
  set u := ladderOffset h 0 0 _ with hu
  have h1 : AtDrive h s u (sectorFields h) := by
    rw [hu]
    exact AtDrive.thenPut (AtDrive.thenPut (AtDrive.thenUpd (AtDrive.thenUpd (AtDrive.refl h s _) _) _) (by simp [sectorFields]))
      (by simp [sectorFields])
  split
  · left
    refine hdrive (AtDrive.thenPut (AtDrive.thenUpd (countPending_drive (AtDrive.thenPutAll ?_ (by simp [sectorFields]))
      (by simp [sectorFields])) _) (by simp [sectorFields]))
    split
    · exact h1.thenPut (by simp [sectorFields])
    · exact h1
  · next band layer _ =>
    right
    exact ⟨_, band, layer, _, hdrive (countPending_drive (AtDrive.thenPutAll (h1.thenUpd _) (by simp [sectorFields])) (by simp [sectorFields])), rfl⟩

/-- What a truncated ladder leaves of its bay (R148): its motor and the other head's lens; its own lens is not parked by it. -/
theorem truncateLadder_atBay (k : Sides b h g) (hb : b < 32) (s : State) : AtBay b (otherFields b g) s (truncateLadder h s) ∧
    (lensParked s h = false → lensParked (truncateLadder h s) h = false) := by
  have hother : otherFields b g ⊆ bayFields b := by
    rcases k with ⟨-, rfl⟩ | ⟨-, rfl⟩ <;> simp [otherFields, bayFields, motorFields]
  have hstate : F.SV_STATUS_STATE h ∈ bayFields b := by rcases k with ⟨rfl, -⟩ | ⟨rfl, -⟩ <;> simp [bayFields]
  have hlens {t u : State} (hk : AtBay b (bayFields b) t u) (hp : lensParked t h = false) : lensParked u h = false :=
    not_parked_of_get (hk.keeps _ hstate) hp
  unfold truncateLadder
  extract_lets xs
  split
  · exact ⟨AtBay.refl b _ s, id⟩
  · set u := raiseCH h B.CH_EVT_TRUNC _ with hu
    have h1 : AtBay b (bayFields b) s u := by
      rw [hu]
      refine (foldl_atBay xs s fun t x => handOver_atBay k hb x.addr 7 t).trans (AtDrive.atBay (h := h) (fs := sectorFields h)
        (AtDrive.thenRaise (AtDrive.thenPut (AtDrive.refl h _ _) ?_) ?_ ?_) (sector_apart k hb))
      all_goals simp [sectorFields, evCH]
    rcases endBand_cases k hb u with h2 | ⟨t, band, layer, slots, h2, e⟩
    · exact ⟨(h1.trans h2).mono hother, hlens (h1.trans h2)⟩
    · rw [e]
      exact ⟨((h1.trans h2).mono hother).trans ((ladderHold_drive h band layer slots t).atBay (hold_apart k hb)),
        fun hp => not_parked_ladderHold (k.lt hb) (hlens (h1.trans h2) hp)⟩

/-! ### The slots dropped -/

/-- The parity engine takes a head's incomplete sectors; the rest changes in the head and in its decoder jobs. -/
theorem dropSectors_drive (h : Nat) (s : State) :
    AtDrive h { s with par := { s.par with part := s.par.part ++ partsOfHead s h } } (dropSectors h s) (sectorFields h) := by
  unfold dropSectors
  refine countPending_drive (AtDrive.thenUpd (foldl_drive _ (AtDrive.refl h _ _) fun u x hu => ?_) _) (by simp [sectorFields])
  exact dropJobs_drive hu (List.subset_append_right ..) _

theorem dropSectors_atBay (k : Sides b h g) (hb : b < 32) (s : State) : AtBay b (bayFields b) s (dropSectors h s) := by
  have hpar : AtBay b (bayFields b) s { s with par := { s.par with part := s.par.part ++ partsOfHead s h } } :=
    ⟨⟨s.regs, s.log, s.heads, s.pools, s.axes, s.lib.discs, _, s.host, rfl⟩, fun _ => rfl, fun _ _ => rfl, fun _ _ => rfl⟩
  exact hpar.trans ((dropSectors_drive h s).atBay (sector_apart k hb))

theorem sectors_dropSectors (h : Nat) (s : State) : (chanOf (dropSectors h s) h).sectors = [] := by
  unfold dropSectors
  dsimp only
  rw [chanOf, countPending, getHead_put, getHead_updChan]

theorem getHead_dropSectors_ne (hg : g ≠ h) (s : State) : getHead (dropSectors h s) g = getHead s g :=
  ((dropSectors_drive h s).others g hg).trans rfl

end bay

end Sys2Proof.Proofs
end

section
/-! SUPPORT. The spindle stopped and the lenses retracted: a bay's disc starts to leave it (R195, R239, R271). -/

namespace Sys2Proof.Proofs

open Sys2Proof.Machine Sys2Proof.Laws

/-! ### The spindle -/

/-- Nothing has changed but spindles, bus links, the listed fields and the event log. -/
structure AtSpin (s t : State) (fs : List Fld) : Prop where
  shape : ∃ r l x y, t = { s with regs := r, log := l, spindles := x, buses := y }
  only  : OnlyFields s t fs

section spin
variable {b st op n : Nat} {s t u : State} {fs : List Fld} {f : Fld} {v : Nat}

theorem AtSpin.refl (s : State) (fs : List Fld) : AtSpin s s fs := ⟨⟨s.regs, s.log, s.spindles, s.buses, rfl⟩, only_refl s fs⟩

theorem AtSpin.trans (k : AtSpin s t fs) (l : AtSpin t u fs) : AtSpin s u fs := by
  obtain ⟨⟨_, _, _, _, rfl⟩, kf⟩ := k
  obtain ⟨⟨r, g, x, y, rfl⟩, lf⟩ := l
  exact ⟨⟨r, g, x, y, rfl⟩, only_trans kf lf⟩

theorem AtSpin.thenPutAll (k : AtSpin s t fs) {l : List (Fld × Nat)} (hl : ∀ p ∈ l, p.1 ∈ fs) : AtSpin s (putAll l t) fs := by
  obtain ⟨r, hr⟩ := putAll_regs l t
  exact k.trans ⟨⟨r, t.log, t.spindles, t.buses, hr⟩, only_putAll (only_refl t fs) fun p hp => List.mem_map_of_mem (hl p hp)⟩

theorem AtSpin.thenPut (k : AtSpin s t fs) (hf : f ∈ fs) : AtSpin s (put f v t) fs := k.thenPutAll (l := [(f, v)]) (by simpa using hf)

theorem AtSpin.thenRaise (k : AtSpin s t fs) {e : EvReg} {i : Nat} (he : e.evt ∈ fs) (hl : F.EVT_LOG_HEAD ∈ fs) : AtSpin s (raise e i t) fs := by
  obtain ⟨r, l, hr, -⟩ := raise_cases e i t
  exact k.trans ⟨⟨r, l, t.spindles, t.buses, hr⟩, only_raise (only_refl t fs) (List.mem_map_of_mem he) (List.mem_map_of_mem hl)⟩

theorem AtSpin.thenSpin (k : AtSpin s t fs) (b : Nat) (g : Spindle → Spindle) : AtSpin s (updSpin b g t) fs :=
  k.trans ⟨⟨t.regs, t.log, _, t.buses, rfl⟩, only_refl t fs⟩

theorem AtSpin.thenBus (k : AtSpin s t fs) (b : Nat) (g : BusLink → BusLink) : AtSpin s (updBus b g t) fs :=
  k.trans ⟨⟨t.regs, t.log, t.spindles, _, rfl⟩, only_refl t fs⟩

theorem AtSpin.lib (k : AtSpin s t fs) : t.lib = s.lib := by obtain ⟨⟨_, _, _, _, rfl⟩, -⟩ := k; rfl
theorem AtSpin.getHead (k : AtSpin s t fs) (h : Nat) : getHead t h = getHead s h := by obtain ⟨⟨_, _, _, _, rfl⟩, -⟩ := k; rfl

/-- A state of the spindle is entered (R231). -/
theorem motEnter_atSpin (k : AtSpin s t fs) (hs : motFields b ⊆ fs) (st : Nat) : AtSpin s (motEnter b st t) fs := by
  unfold motEnter
  extract_lets driven s1 s2
  have h1 : AtSpin s s1 fs := AtSpin.thenBus (AtSpin.thenSpin (k.thenPut (hs (by simp [motFields]))) b _) b _
  have h2 : AtSpin s s2 fs := by
    change AtSpin s (if st = 3 then s1 else put (F.MOT_STATUS_SPEED_LOCK b) 0 s1) fs
    split
    · exact h1
    · exact h1.thenPut (hs (by simp [motFields]))
  split
  · exact h2
  · exact h2.thenRaise (hs (by simp [motFields, evMOT])) (hs (by simp [motFields]))

theorem motSt_motEnter (hb : b < 32) (st : Nat) (s : State) : motSt (motEnter b st s) b = trunc 4 st := by
  have hapart : ∀ b < 32, (F.MOT_STATUS_STATE b).key ∉ [F.MOT_STATUS_SPEED_LOCK b, F.MOT_EVT b, F.EVT_LOG_HEAD].map Fld.key := by decide +kernel
  unfold motEnter
  extract_lets driven s1 s2
  have h1 : Machine.get s1 (F.MOT_STATUS_STATE b) = trunc 4 st := get_put_same (F.MOT_STATUS_STATE b) st s
  have h2 : Machine.get s2 (F.MOT_STATUS_STATE b) = trunc 4 st := by
    change Machine.get (if st = 3 then s1 else put (F.MOT_STATUS_SPEED_LOCK b) 0 s1) _ = _
    split
    · exact h1
    · rw [get_put_ne _ _ _ _ fun e => hapart b hb (by rw [e]; simp)]
      exact h1
  rw [motSt]
  split
  · exact h2
  · rw [((AtSpin.refl s2 [F.MOT_EVT b, F.EVT_LOG_HEAD]).thenRaise (by simp [evMOT]) (by simp)).only _ fun e =>
      hapart b hb (List.mem_cons_of_mem _ e)]
    exact h2

theorem coastSpindle_atSpin (k : AtSpin s t fs) (hs : motFields b ⊆ fs) : AtSpin s (coastSpindle b t) fs := by
  unfold coastSpindle
  extract_lets st
  split
  · exact k
  · exact motEnter_atSpin (k.thenSpin b _) hs 6

theorem stopSpindle_atSpin (b : Nat) (s : State) : AtSpin s (stopSpindle b s) (motFields b) := by
  have hself := AtSpin.refl s (motFields b)
  unfold stopSpindle
  extract_lets st
  split_ifs
  · exact coastSpindle_atSpin hself (List.Subset.refl _)
  · exact AtSpin.thenPut (hself.thenSpin b _) (by simp [motFields])
  · exact motEnter_atSpin hself (List.Subset.refl _) 7
  · exact coastSpindle_atSpin hself (List.Subset.refl _)
  · exact hself

/-- How the spindle stops from each of its states (R239). -/
theorem stopSpindle_stops (hb : b < 32) (s : State) :
    (motSt s b = 3 → isSet s (F.MOT_STATUS_REGEN_BLOCKED b) = false →
      (spinOf (stopSpindle b s) b).stopping = true ∧ Machine.get (stopSpindle b s) (F.MOT_STATUS_SPEED_LOCK b) = 0) ∧
    (motSt s b = 1 ∨ motSt s b = 2 → motSt (stopSpindle b s) b = 7) ∧ (motSt s b = 4 ∨ motSt s b = 5 → motSt (stopSpindle b s) b = 6) := by
  refine ⟨fun h3 hr => ?_, fun h12 => ?_, fun h45 => ?_⟩
  · have e : stopSpindle b s
        = put (F.MOT_STATUS_SPEED_LOCK b) 0 (updSpin b (fun x => { x with stopping := true, lockRun := 0 }) s) := by
      simp only [stopSpindle, h3, hr, if_true, Bool.false_eq_true, if_false]
    rw [e]
    refine ⟨?_, get_put_same ..⟩
    have hspin : spinOf (updSpin b (fun x => { x with stopping := true, lockRun := 0 }) s) b = { spinOf s b with stopping := true, lockRun := 0 } :=
      (mapGet_put _ _ _ _ _).trans (if_pos rfl)
    exact congrArg Spindle.stopping hspin
  · have e : stopSpindle b s = motEnter b 7 s := by
      rw [stopSpindle]
      rw [if_neg (by omega), if_pos h12]
    rw [e, motSt_motEnter hb]
    rfl
  · have e : stopSpindle b s = motEnter b 6 (updSpin b (fun x => { x with relink := false, recorded := none }) s) := by
      rw [stopSpindle, if_neg (by omega), if_neg (by omega), if_pos h45, coastSpindle, if_neg (by omega)]
    rw [e, motSt_motEnter hb]
    rfl

end spin

/-! ### The departure -/

section leave
variable {b h g : Nat} {s t : State}

/-- The heads of a bay without the sectors of its disc. -/
def sectorsDropped (b : Nat) (s : State) : State :=
  dropSectors (2 * b + 1) (dropSectors (2 * b) (truncateLadder (2 * b + 1) (truncateLadder (2 * b) s)))

/-- The mount of a disc that starts to leave. -/
def leavingMount (b : Nat) (s : State) (m : MountSt) : MountSt :=
  { m with
    phase := 6, leave := false,
    time := m.time + (if (mountOf s b).phase = 5 then now s - (mountOf s b).since else 0) }

theorem startDismount_eq (b : Nat) (s : State) :
    startDismount b s = updMount b (leavingMount b s) (stopSpindle b (retractBay b (sectorsDropped b s))) := rfl

theorem getDisc_updMount (f : MountSt → MountSt) (d : Nat) : getDisc (updMount b f s) d = getDisc s d := rfl

theorem sides_even (b : Nat) : Sides b (2 * b) (2 * b + 1) := .inl ⟨rfl, rfl⟩
theorem sides_odd (b : Nat) : Sides b (2 * b + 1) (2 * b) := .inr ⟨rfl, rfl⟩

/-- The sectors go and the spindle's registers stay; a lens that is not parked is not parked by it (R148). -/
theorem sectorsDropped_atBay (hb : b < 32) (s : State) : AtBay b (motorFields b) s (sectorsDropped b s) ∧
    ∀ h ∈ [2 * b, 2 * b + 1], (chanOf (sectorsDropped b s) h).sectors = [] ∧
      (lensParked s h = false → lensParked (sectorsDropped b s) h = false) := by
  obtain ⟨hk0, hp0⟩ := truncateLadder_atBay (sides_even b) hb s
  obtain ⟨hk1, hp1⟩ := truncateLadder_atBay (sides_odd b) hb (truncateLadder (2 * b) s)
  have hd := (dropSectors_atBay (sides_even b) hb (truncateLadder (2 * b + 1) (truncateLadder (2 * b) s))).trans
    (dropSectors_atBay (sides_odd b) hb _)
  have hmotor (g : Nat) : motorFields b ⊆ otherFields b g := List.subset_cons_self ..
  have hlens {h : Nat} (hh : F.SV_STATUS_STATE h ∈ bayFields b)
      (hp : lensParked (truncateLadder (2 * b + 1) (truncateLadder (2 * b) s)) h = false) : lensParked (sectorsDropped b s) h = false :=
    not_parked_of_get (hd.keeps _ hh) hp
  refine ⟨((hk0.mono (hmotor _)).trans (hk1.mono (hmotor _))).trans (hd.mono fun f hf => by simp [bayFields, hf]), fun h hh => ?_⟩
  simp only [List.mem_cons, List.not_mem_nil, or_false] at hh
  rcases hh with rfl | rfl
  · refine ⟨?_, fun hp => hlens (by simp [bayFields]) (not_parked_of_get (hk1.keeps _ (by simp [otherFields])) (hp0 hp))⟩
    rw [chanOf, sectorsDropped, getHead_dropSectors_ne (by omega), ← chanOf, sectors_dropSectors]
  · exact ⟨sectors_dropSectors _ _, fun hp => hlens (by simp [bayFields]) (hp1 (not_parked_of_get (hk0.keeps _ (by simp [otherFields])) hp))⟩

theorem sectors_retractHead (h why g : Nat) (s : State) : (chanOf (retractHead h why s) g).sectors = (chanOf s g).sectors := by
  by_cases hg : g = h
  · subst hg
    cases hp : lensParked s g with
    | true =>
      have e : retractHead g why s = s := if_pos (by simpa [lensParked, or_assoc] using hp)
      rw [e]
    | false =>
      have hc : (headCore (getHead (retractHead g why s) g)).ch.sectors = (headCore (retracted why (getHead s g))).ch.sectors := by
        rw [headCore_retractHead hp]
      exact hc
  · rw [chanOf, (atHead_retractHead h why s).others g hg]
    rfl

/-- What the retract of a bay's lenses writes is apart from its motor, and each head's from the other's state. -/
theorem retract_apart (k : Sides b h g) (hb : b < 32) : ∀ f ∈ otherFields b g, f.key ∉ (retractFields h).map Fld.key := by
  have hall : ∀ b < 32, (∀ f ∈ otherFields b (2 * b + 1), f.key ∉ (retractFields (2 * b)).map Fld.key) ∧
      ∀ f ∈ otherFields b (2 * b), f.key ∉ (retractFields (2 * b + 1)).map Fld.key := by decide +kernel
  exact k.of_both (p := fun h g => ∀ f ∈ otherFields b g, f.key ∉ (retractFields h).map Fld.key) (hall b hb)

theorem retractBay_atBay (hb : b < 32) (s : State) : AtBay b (motorFields b) s (retractBay b s) ∧
    ∀ h ∈ [2 * b, 2 * b + 1], (chanOf (retractBay b s) h).sectors = (chanOf s h).sectors ∧
      (lensParked s h = false → Machine.get (retractBay b s) (F.SV_STATUS_STATE h) = 9) := by
  have h0 : AtBay b (otherFields b (2 * b + 1)) s (retractHead (2 * b) 0 s) :=
    (atHead_retractHead (2 * b) 0 s).drive.atBay (retract_apart (sides_even b) hb)
  have h1 : AtBay b (otherFields b (2 * b)) (retractHead (2 * b) 0 s) (retractBay b s) :=
    (atHead_retractHead (2 * b + 1) 0 _).drive.atBay (retract_apart (sides_odd b) hb)
  refine ⟨(h0.mono (List.subset_cons_self ..)).trans (h1.mono (List.subset_cons_self ..)), fun h hh => ⟨?_, fun hp => ?_⟩⟩
  · rw [retractBay, sectors_retractHead, sectors_retractHead]
  · simp only [List.mem_cons, List.not_mem_nil, or_false] at hh
    rcases hh with rfl | rfl
    · rw [h1.keeps _ (by simp [otherFields]), get_retractHead_state hp (by omega)]
    · exact get_retractHead_state (not_parked_of_get (h0.keeps _ (by simp [otherFields])) hp) (by omega)

/-- The heads' work is over and their lenses retract. -/
theorem retracted_atBay (hb : b < 32) (s : State) : AtBay b (motorFields b) s (retractBay b (sectorsDropped b s)) :=
  (sectorsDropped_atBay hb s).1.trans (retractBay_atBay hb _).1

theorem mountOf_startDismount (hb : b < 32) (s : State) (j : Nat) :
    mountOf (startDismount b s) j = if j = b then leavingMount b s (mountOf s b) else mountOf s j := by
  have hm (i : Nat) : mountOf (stopSpindle b (retractBay b (sectorsDropped b s))) i = mountOf s i := by
    rw [mountOf, (stopSpindle_atSpin b _).lib, ← mountOf, (retracted_atBay hb s).mountOf]
  rw [startDismount_eq, mountOf_updMount, hm, hm]

theorem onlyMount_startDismount (hb : b < 32) (s : State) : OnlyMount b s (startDismount b s) := fun j hj => by
  rw [mountOf_startDismount hb, if_neg hj]

theorem getDisc_startDismount (b : Nat) (s : State) (d : Nat) :
    getDisc (startDismount b s) d = getDisc (retractBay b (sectorsDropped b s)) d := by
  rw [startDismount_eq, getDisc_updMount, getDisc, (stopSpindle_atSpin b _).lib, ← getDisc]

/-- With the heads' work over and the lenses retracted, the stop of the spindle begins the departure. -/
theorem discLeaves_of_retracted {f : MountSt → MountSt} (hb : b < 32) (hk : AtBay b (motorFields b) s t)
    (hf : f (mountOf s b) = leavingMount b s (mountOf s b))
    (hheads : ∀ h ∈ [2 * b, 2 * b + 1], (chanOf t h).sectors = [] ∧ (lensParked s h = false → Machine.get t (F.SV_STATUS_STATE h) = 9)) :
    DiscLeaves b s (updMount b f (stopSpindle b t)) := by
  have hspindle := stopSpindle_atSpin b t
  have hm : mountOf (updMount b f (stopSpindle b t)) b = leavingMount b s (mountOf s b) := by
    rw [mountOf_updMount, if_pos rfl, mountOf, hspindle.lib, ← mountOf, hk.mountOf, hf]
  have hst : motSt t b = motSt s b := hk.keeps _ (by simp [motorFields])
  have hregen : isSet t (F.MOT_STATUS_REGEN_BLOCKED b) = isSet s (F.MOT_STATUS_REGEN_BLOCKED b) := by
    rw [isSet, hk.keeps _ (by simp [motorFields])]
    rfl
  have hspin := stopSpindle_stops hb t
  rw [hst, hregen] at hspin
  have hstate : ∀ b < 32, ∀ h ∈ [2 * b, 2 * b + 1], (F.SV_STATUS_STATE h).key ∉ (motFields b).map Fld.key := by decide +kernel
  refine ⟨by rw [hm]; rfl, by rw [hm]; rfl, by rw [hm]; rfl, fun h hh => ?_, hspin.1, hspin.2.1, hspin.2.2⟩
  obtain ⟨hsec, hlens⟩ := hheads h hh
  exact ⟨(congrArg (fun x : Head => x.ch.sectors) (hspindle.getHead h)).trans hsec,
    fun hp => (hspindle.only _ (hstate b hb h hh)).trans (hlens hp)⟩

/-- A bay's disc starts to leave it (R148, R195, R239, R271). -/
theorem discLeaves_startDismount (hb : b < 32) (s : State) : DiscLeaves b s (startDismount b s) := by
  rw [startDismount_eq]
  refine discLeaves_of_retracted hb (retracted_atBay hb s) rfl fun h hh => ?_
  obtain ⟨hsec0, hp0⟩ := (sectorsDropped_atBay hb s).2 h hh
  obtain ⟨hsec1, hp1⟩ := (retractBay_atBay hb (sectorsDropped b s)).2 h hh
  exact ⟨hsec1.trans hsec0, fun hp => hp1 (hp0 hp)⟩

end leave

end Sys2Proof.Proofs
end

section
/-! SUPPORT. The carousel, the loader and the heads while a disc is mounted (R182, R245, R266, R271). -/

namespace Sys2Proof.Proofs

open Sys2Proof.Machine Sys2Proof.Laws

/-! ### The carousel -/

/-- Nothing has changed but one carousel, the listed fields and the event log. -/
structure AtCar (c : Nat) (s t : State) (fs : List Fld) : Prop where
  shape  : ∃ r l x, t = { s with regs := r, log := l, carousels := x }
  others : OnlyCrs c s t
  only   : OnlyFields s t fs

/-- What a carousel's turn to a slot writes (R245). -/
def turnFields (c : Nat) : List Fld :=
  [F.CMOT_CMD_TARGET c, F.CMOT_CMD_DIR c, F.CMOT_STATUS_STATE c, F.CMOT_STATUS_REVERSAL_PENDING c] ++ cmotCmdFields c ++ evFields (evCMOT c)

section car
variable {b c d slot dir op r : Nat} {s t u : State} {fs : List Fld} {f : Fld} {v : Nat}

theorem AtCar.refl (c : Nat) (s : State) (fs : List Fld) : AtCar c s s fs :=
  ⟨⟨s.regs, s.log, s.carousels, rfl⟩, fun _ _ => rfl, only_refl s fs⟩

theorem AtCar.trans (k : AtCar c s t fs) (l : AtCar c t u fs) : AtCar c s u fs := by
  obtain ⟨⟨_, _, _, rfl⟩, ko, kf⟩ := k
  obtain ⟨⟨r, g, x, rfl⟩, lo, lf⟩ := l
  exact ⟨⟨r, g, x, rfl⟩, fun j hj => (lo j hj).trans (ko j hj), only_trans kf lf⟩

theorem AtCar.thenPutAll (k : AtCar c s t fs) {l : List (Fld × Nat)} (hl : ∀ p ∈ l, p.1 ∈ fs) : AtCar c s (putAll l t) fs := by
  obtain ⟨r, hr⟩ := putAll_regs l t
  exact k.trans ⟨⟨r, t.log, t.carousels, hr⟩, hr ▸ fun _ _ => rfl,
    only_putAll (only_refl t fs) fun p hp => List.mem_map_of_mem (hl p hp)⟩

theorem AtCar.thenRaise (k : AtCar c s t fs) {e : EvReg} {i : Nat} (he : e.evt ∈ fs) (hl : F.EVT_LOG_HEAD ∈ fs) : AtCar c s (raise e i t) fs := by
  obtain ⟨r, l, hr, -⟩ := raise_cases e i t
  exact k.trans ⟨⟨r, l, t.carousels, hr⟩, hr ▸ fun _ _ => rfl,
    only_raise (only_refl t fs) (List.mem_map_of_mem he) (List.mem_map_of_mem hl)⟩

theorem crsOf_updCrs (c j : Nat) (g : Carousel → Carousel) (s : State) : crsOf (updCrs c g s) j = if j = c then g (crsOf s c) else crsOf s j :=
  mapGet_put _ _ _ _ _

theorem crsOf_putAll (l : List (Fld × Nat)) (j : Nat) (s : State) : crsOf (putAll l s) j = crsOf s j := by
  obtain ⟨r, hr⟩ := putAll_regs l s
  rw [hr]
  rfl

theorem AtCar.thenCrs (k : AtCar c s t fs) (g : Carousel → Carousel) : AtCar c s (updCrs c g t) fs :=
  k.trans ⟨⟨t.regs, t.log, _, rfl⟩, fun j hj => by rw [crsOf_updCrs, if_neg hj], only_refl t fs⟩

theorem AtCar.lib (k : AtCar c s t fs) : t.lib = s.lib := by obtain ⟨⟨_, _, _, rfl⟩, -, -⟩ := k; rfl

theorem cmotResult_atCar (k : AtCar c s t (turnFields c)) (op r : Nat) : AtCar c s (cmotResult c op r t) (turnFields c) :=
  k.thenPutAll (by simp [turnFields, cmotCmdFields])

theorem moveCar_atCar (k : AtCar c s t (turnFields c)) (slot dir : Nat) : AtCar c s (moveCar c slot dir t) (turnFields c) := by
  unfold moveCar
  extract_lets fwd
  split
  · exact AtCar.thenRaise (AtCar.thenPutAll (k.thenCrs _) (by simp [turnFields, cmotCmdFields])) (by simp [turnFields, evFields])
      (by simp [turnFields, evFields])
  · exact AtCar.thenPutAll (k.thenCrs _) (by simp [turnFields, cmotCmdFields])

/-- A slot's way to a bay turns the bay's carousel and nothing else (R245, R271). -/
theorem slotTo_atCar (b d : Nat) (s : State) : AtCar (carOfBay s b) s (slotTo b d s) (turnFields (carOfBay s b)) := by
  unfold slotTo
  extract_lets c slot
  split
  · exact cmotResult_atCar (AtCar.refl c s _) 0 _
  · exact moveCar_atCar (cmotResult_atCar (AtCar.thenPutAll (AtCar.refl c s _) (by simp [turnFields])) 0 0) slot 0

/-- The state in which a carousel's command has been accepted. -/
def turnAccepted (c slot : Nat) (s : State) : State := cmotResult c 0 0 (putAll [(F.CMOT_CMD_TARGET c, slot), (F.CMOT_CMD_DIR c, 0)] s)

theorem get_turnAccepted (hf : f ∈ [F.CMOT_ENC_COUNTS c, F.CMOT_POS c, F.CMOT_SPEED c, F.CMOT_STATUS_REVERSAL_PENDING c]) :
    Machine.get (turnAccepted c slot s) f = Machine.get s f := by
  have hk : f.key ∉ ([F.CMOT_CMD_TARGET c, F.CMOT_CMD_DIR c] ++ cmotCmdFields c).map Fld.key := by
    simp only [List.mem_cons, List.not_mem_nil, or_false] at hf
    rcases hf with rfl | rfl | rfl | rfl
    all_goals
      simp [cmotCmdFields, Fld.key, F.CMOT_ENC_COUNTS, F.CMOT_POS, F.CMOT_SPEED, F.CMOT_STATUS_REVERSAL_PENDING, F.CMOT_CMD_TARGET,
        F.CMOT_CMD_DIR, F.CMOT_CMD_OP, F.CMOT_CMD_STATUS_OP, F.CMOT_CMD_STATUS_RESULT, F.CMOT_CMD_STATUS_BUSY]
      omega
  have h1 : AtCar c s (turnAccepted c slot s) ([F.CMOT_CMD_TARGET c, F.CMOT_CMD_DIR c] ++ cmotCmdFields c) :=
    AtCar.thenPutAll (AtCar.thenPutAll (AtCar.refl c s _) (by simp)) (by simp [cmotCmdFields])
  exact h1.only f hk

/-- A carousel that may turn turns (R245). -/
theorem slotTo_turns (hc : c = carOfBay s b) (hslot : slot = (d % 288 + Config.baySlot b) % 288) (hr : moveRefused s c slot = none)
    (ho : opposes s c (goForward s c slot 0) = false) (hp : isSet s (F.CMOT_STATUS_REVERSAL_PENDING c) = false) :
    cmotSt (slotTo b d s) c = 3 ∧ (crsOf (slotTo b d s) c).slot = slot := by
  have hget {f : Fld} (hf : f ∈ [F.CMOT_ENC_COUNTS c, F.CMOT_POS c, F.CMOT_SPEED c, F.CMOT_STATUS_REVERSAL_PENDING c]) :
      Machine.get (turnAccepted c slot s) f = Machine.get s f := get_turnAccepted hf
  have hfwd : goForward (turnAccepted c slot s) c slot 0 = goForward s c slot 0 := by
    simp only [goForward, slotCounts, carPos, getI, hget (f := F.CMOT_ENC_COUNTS c) (by simp), hget (f := F.CMOT_POS c) (by simp)]
    rfl
  have hopp : opposes (turnAccepted c slot s) c (goForward s c slot 0) = false := by
    rw [← ho]
    simp only [opposes, getI, hget (f := F.CMOT_SPEED c) (by simp)]
    rfl
  have hpend : isSet (turnAccepted c slot s) (F.CMOT_STATUS_REVERSAL_PENDING c) = false := by
    rw [← hp]
    simp only [isSet, hget (f := F.CMOT_STATUS_REVERSAL_PENDING c) (by simp)]
  have e : slotTo b d s = putAll [(F.CMOT_STATUS_STATE c, 3), (F.CMOT_CMD_STATUS_BUSY c, 1)] (updCrs c (fun x =>
      { x with target := moveTarget (turnAccepted c slot s) c slot (goForward s c slot 0), slot := slot }) (turnAccepted c slot s)) := by
    have hmove : moveCar c slot 0 (turnAccepted c slot s) = putAll [(F.CMOT_STATUS_STATE c, 3), (F.CMOT_CMD_STATUS_BUSY c, 1)] (updCrs c
        (fun x => { x with target := moveTarget (turnAccepted c slot s) c slot (goForward s c slot 0), slot := slot })
        (turnAccepted c slot s)) := by
      simp only [moveCar, hfwd, hopp, hpend, Bool.or_self, Bool.false_eq_true, if_false]
    rw [slotTo, ← hc, ← hslot, hr]
    exact hmove
  have hnodup : ([F.CMOT_STATUS_STATE c, F.CMOT_CMD_STATUS_BUSY c].map Fld.key).Nodup := by
    simp [Fld.key, F.CMOT_STATUS_STATE, F.CMOT_CMD_STATUS_BUSY]
  refine ⟨?_, ?_⟩
  · rw [e, cmotSt]
    exact get_putAll_mem (v := 3) hnodup (by simp)
  · rw [e, crsOf_putAll, crsOf_updCrs, if_pos rfl]

end car

end Sys2Proof.Proofs
end

section
/-! SUPPORT. The clauses of O27 on MOUNT and the phases in which a disc is loaded and spun up (R271, R295 to R297). -/

namespace Sys2Proof.Proofs

open Sys2Proof.Machine Sys2Proof.Laws

section load
variable {b d c slot h a : Nat} {s t : State} {fs : List Fld} {areas : List (Nat × List SlotRead)}

theorem AtHead.lib (k : AtHead h s t fs) : t.lib = s.lib := by obtain ⟨⟨_, _, _, rfl⟩, -, -⟩ := k; rfl
theorem AtAxis.lib (k : AtAxis b a s t fs) : t.lib = s.lib := by obtain ⟨⟨_, _, _, rfl⟩, -, -⟩ := k; rfl

theorem mountOf_congr (e : t.lib = s.lib) (j : Nat) : mountOf t j = mountOf s j := by rw [mountOf, e]; rfl
theorem getDisc_congr (e : t.lib = s.lib) (j : Nat) : getDisc t j = getDisc s j := by rw [getDisc, e]; rfl

/-- What follows a bay's change of phase keeps the mounts. -/
theorem mountOf_then {f : MountSt → MountSt} (e : t.lib = (updMount b f s).lib) : mountOf t b = f (mountOf s b) := by
  rw [mountOf_congr e, mountOf_updMount, if_pos rfl]

theorem onlyMount_then {f : MountSt → MountSt} (e : t.lib = (updMount b f s).lib) : OnlyMount b s t := fun j hj => by
  rw [mountOf_congr e, mountOf_updMount, if_neg hj]

/-! ### MOUNT -/

/-- The mount of a disc that is on its way to a bay. -/
def arrivingMount (d band : Nat) (m : MountSt) : MountSt := { m with disc := d, phase := 1, band := band, leave := false, empty := false }

theorem exec_mount (hm : mountable s d = true) (hc : chooseBay s (leafOfDisc s d) d = some b) :
    exec (.mount d) s = .next (slotTo b d (updMount b (arrivingMount d (firstBandOf s d)) s)) := by
  simp only [mountable, Bool.and_eq_true, decide_eq_true_eq, Bool.or_eq_true] at hm
  obtain ⟨⟨⟨⟨⟨⟨⟨⟨hen, hd⟩, hleaf⟩, hcar⟩, h0⟩, hfit⟩, hfail⟩, hup⟩, hfront⟩ := hm
  have hnone : ((baysOf s).any fun b => decide ((mountOf s b).phase ≠ 0) && decide ((mountOf s b).disc = d)) = false := by
    simp only [List.any_eq_false, Bool.and_eq_true, decide_eq_true_eq, not_and]
    intro j hj hph hdisc
    have := List.all_eq_true.1 hup j hj
    simp [hph, hdisc] at this
  change execMount d s = _
  unfold execMount
  extract_lets l st up
  have hguard : ¬(isSet s F.ARB_CTRL_EN = false ∨ 1152 ≤ d ∨ isLeaf s l = false ∨ leafCar s l ≠ d / 288 ∨ st = 0 ∨ (6 ≤ st ∧ st ≤ 9)
      ∨ 2 ≤ (getDisc s d).failRun ∨ up = true ∨ isFront s d = false) := by
    have hst : ¬(6 ≤ st ∧ st ≤ 9) := by
      have : st < 6 ∨ 9 < st := hfit
      omega
    have hcar' : ¬leafCar s l ≠ d / 288 := not_not_intro hcar
    have hup' : ¬up = true := fun e => Bool.false_ne_true (hnone.symm.trans e)
    rintro (h | h | h | h | h | h | h | h | h)
    · simp [hen] at h
    · omega
    · exact Bool.false_ne_true (h.symm.trans hleaf)
    · exact hcar' h
    · exact h0 h
    · exact hst h
    · omega
    · exact hup' h
    · simp [hfront] at h
  have hchoose : chooseBay s l d = some b := hc
  rw [if_neg hguard, hchoose]
  rfl

/-- MOUNT takes the bay for the disc and turns the carousel (R271, R295 to R297). -/
theorem completes_mount (hm : mountable s d = true) (hb : chooseBay s (leafOfDisc s d) d = some b) (hc : c = carOfBay s b)
    (hslot : slot = (d % 288 + Config.baySlot b) % 288) :
    Completes (.mount d) s fun t =>
      mountOf t b = { mountOf s b with disc := d, phase := 1, band := firstBandOf s d, leave := false, empty := false } ∧
      (moveRefused s c slot = none → opposes s c (goForward s c slot 0) = false →
        isSet s (F.CMOT_STATUS_REVERSAL_PENDING c) = false → cmotSt t c = 3 ∧ (crsOf t c).slot = slot) ∧
      inner t = { inner s with lib := { s.lib with mounts := t.lib.mounts }, carousels := t.carousels } ∧ OnlyMount b s t ∧
      OnlyCrs c s t ∧
      OnlyFields s t ([F.CMOT_CMD_TARGET c, F.CMOT_CMD_DIR c, F.CMOT_STATUS_STATE c, F.CMOT_STATUS_REVERSAL_PENDING c] ++
        cmotCmdFields c ++ evFields (evCMOT c)) := by
  have hcar := slotTo_atCar b d (updMount b (arrivingMount d (firstBandOf s d)) s)
  have hbay : carOfBay (updMount b (arrivingMount d (firstBandOf s d)) s) b = c := hc.symm
  rw [hbay] at hcar
  refine completes_of_exec (exec_mount hm hb) ⟨mountOf_then hcar.lib, fun hr ho hp => slotTo_turns hbay.symm hslot hr ho hp, ?_,
    onlyMount_then hcar.lib, hcar.others, hcar.only⟩
  obtain ⟨⟨_, _, _, e⟩, -, -⟩ := hcar
  rw [e]
  rfl

/-! ### The end of a phase -/

/-- A phase that ends as it should takes its own branch (R271). -/
theorem exec_phaseEnd {p : Nat} (hi : bayInst s b = true) (hp : (mountOf s b).phase = p) (h0 : p ≠ 0) :
    exec (.mountPhaseEnd b true areas) s =
      if p = 1 then
        if slotThere s b (mountOf s b).disc = false ∨ loaderAt s b true = false
            ∨ ([0, 1].any fun a => decide (axMm s b a 1 < 2 * (axPos s b a).natAbs)) = true then .next s
        else .next (axMoveTo b 2 0 (updMount b (fun m => { m with phase := 2 }) s))
      else if p = 2 then
        if loaderAt s b false = false then .next s
        else if inputActive s b 6 = false then
          .next (if (mountOf s b).disc ∈ s.host.importQ then startDismount b (updMount b (fun m => { m with empty := true }) s)
            else mountFailed b s)
        else .next (axMoveTo b 1 (bandSteps s b 1 (mountOf s b).band) (axMoveTo b 0 (bandSteps s b 0 (mountOf s b).band)
          (setSpeed b 9600 (updMount b (fun m => { m with phase := 3 }) s))))
      else if p = 3 then
        if Machine.get s (F.MOT_STATUS_SPEED_LOCK b) = 0 then .next s
        else .next (forAll ([2 * b, 2 * b + 1].filter (headInst s)) (fun h => pullIn h 0 true) (updMount b (fun m => { m with phase := 4 }) s))
      else if p = 4 then
        if ([2 * b, 2 * b + 1].any fun h =>
            headInst s h && (decide (Machine.get s (F.SV_STATUS_STATE h) < 4) || decide (8 < Machine.get s (F.SV_STATUS_STATE h)))) then .next s
        else if (getDisc s (mountOf s b).disc).state = 6 then .next (startDismount b s)
        else .next (mounted b (scanRecords b (mountOf s b).disc areas s))
      else if p = 5 then (if (mountOf s b).leave = true ∧ bayWriting s b = false then .next (startDismount b s) else .next s)
      else if p = 6 then
        if motSt s b ≠ 0 then .next s
        else .next (slotTo b (mountOf s b).disc (axMoveTo b 1 0 (axMoveTo b 0 0 (updMount b (fun m => { m with phase := 7 }) s))))
      else if p = 7 then
        if slotThere s b (mountOf s b).disc = false then .next s
        else .next (axMoveTo b 2 (axMm s b 2 180) (updMount b (fun m => { m with phase := 8 }) s))
      else if loaderAt s b true = false then .next s
      else .next (discGone b s) := by
  subst hp
  have hguard : ¬(bayInst s b = false ∨ (mountOf s b).phase = 0) := by simp [hi, h0]
  exact (if_neg hguard).trans (if_neg (by decide))

/-- At the loader's extended end, with the slot there and the sleds home, the disc is carried in (R271). -/
theorem completes_phase1 (hi : bayInst s b = true) (hp : (mountOf s b).phase = 1) (hslot : slotThere s b (mountOf s b).disc = true)
    (hload : loaderAt s b true = true) (h0 : 2 * (axPos s b 0).natAbs ≤ axMm s b 0 1) (h1 : 2 * (axPos s b 1).natAbs ≤ axMm s b 1 1) :
    Completes (.mountPhaseEnd b true areas) s fun t =>
      mountOf t b = { mountOf s b with phase := 2 } ∧ t = axMoveTo b 2 0 (updMount b (fun m => { m with phase := 2 }) s) ∧
      OnlyMount b s t ∧ OnlyAx b 2 s t ∧ OnlyFields s t (moveFields b 2) := by
  have hax := axMoveTo_atAxis (AtAxis.refl b 2 (updMount b (fun m => { m with phase := 2 }) s) _) (by omega) 0
  have hex : exec (.mountPhaseEnd b true areas) s = .next (axMoveTo b 2 0 (updMount b (fun m => { m with phase := 2 }) s)) := by
    rw [exec_phaseEnd hi hp (by omega), if_pos rfl, if_neg]
    simp only [hslot, hload, Bool.true_eq_false, List.any_cons, List.any_nil, Bool.or_false, Bool.or_eq_true, decide_eq_true_eq, false_or, not_or]
    omega
  exact completes_of_exec hex ⟨mountOf_then hax.lib, rfl, onlyMount_then hax.lib, hax.others, hax.only⟩

/-- What SET_SPEED writes (R237). -/
def speedFields (b : Nat) : List Fld :=
  motFields b ++ [F.MOT_CMD_OP b, F.MOT_CMD_STATUS_OP b, F.MOT_CMD_STATUS_RESULT b, F.MOT_CMD_STATUS_BUSY b]

theorem setSpeed_atSpin (b v : Nat) (s : State) : AtSpin s (setSpeed b v s) (speedFields b) := by
  have hres {t : State} (k : AtSpin s t (speedFields b)) (r : Nat) : AtSpin s (motResult b 0 r t) (speedFields b) :=
    k.thenPutAll (by simp [speedFields])
  have hent {t : State} (k : AtSpin s t (speedFields b)) (st : Nat) : AtSpin s (motEnter b st t) (speedFields b) :=
    motEnter_atSpin k (List.subset_append_left ..) st
  have hself := AtSpin.refl s (speedFields b)
  unfold setSpeed
  extract_lets st
  split_ifs
  · exact hres hself _
  · exact hres hself _
  · exact hres hself _
  · exact hres hself _
  · exact hent (hres (hself.thenSpin b _) 0) 1
  · exact hres (hself.thenSpin b _) 0
  · exact hres (AtSpin.thenPut (hself.thenSpin b _) (by simp [speedFields, motFields])) 0
  · exact hres (hself.thenSpin b _) 0
  · exact hent (hres (hself.thenSpin b _) 0) 4
  · exact hres hself _

theorem lib_spinUp (b : Nat) (p q : Int) (v : Nat) (s : State) : (axMoveTo b 1 p (axMoveTo b 0 q (setSpeed b v s))).lib = s.lib :=
  ((axMoveTo_atAxis (AtAxis.refl b 1 _ _) (by omega) p).lib.trans (axMoveTo_atAxis (AtAxis.refl b 0 _ _) (by omega) q).lib).trans
    (setSpeed_atSpin b v s).lib

/-! ### The pull-in -/

/-- What a pull-in of a head writes (R182). -/
def pullFields (h : Nat) : List Fld :=
  [F.SV_CMD_CAL h, F.SV_CMD_LAYER h, F.SV_CMD_OP h] ++ svCmdFields h ++ confirmFields h ++ permitFields h ++ svFields h

theorem AtHead.thenServo (k : AtHead h s t fs) (g : Servo → Servo) : AtHead h s (updServo h g t) fs := k.thenUpd _

theorem atHead_pullIn (h layer : Nat) (cal : Bool) (s : State) : AtHead h s (pullIn h layer cal s) (pullFields h) := by
  unfold pullIn
  extract_lets s0
  have h0 : AtHead h s s0 (pullFields h) := (atHead_putAll (by simp [pullFields])).thenPut (by simp [pullFields])
  split
  · exact h0.trans (atHead_putAll (by simp [pullFields, svCmdFields]))
  · have h1 : AtHead h s (svBegin h 4 s0) (pullFields h) := h0.trans ((atHead_svBegin h 4 s0).mono fun f hf => by simp [pullFields, hf])
    have hclear (u : State) : AtHead h u (clearConfirm h u) (pullFields h) := (atHead_clearConfirm h u).mono fun f hf => by
      rcases List.mem_append.1 hf with hf | hf <;> simp [pullFields, hf]
    unfold startSweep
    exact ((((h1.thenServo _).trans (hclear _)).thenServo _).trans
      ((atHead_svState (by decide) h _).mono fun f hf => by simp [pullFields, hf]))

theorem lib_pullIns (l : List Nat) (layer : Nat) (cal : Bool) (s : State) : (forAll l (fun h => pullIn h layer cal) s).lib = s.lib :=
  forAll_induct (fun t => t.lib = s.lib) _ l s rfl fun h t _ ht => (atHead_pullIn h layer cal t).lib.trans ht

/-- At speed lock the heads pull in with calibration (R182, R271). -/
theorem completes_phase3 (hi : bayInst s b = true) (hp : (mountOf s b).phase = 3) (hlock : Machine.get s (F.MOT_STATUS_SPEED_LOCK b) ≠ 0) :
    Completes (.mountPhaseEnd b true areas) s fun t =>
      mountOf t b = { mountOf s b with phase := 4 } ∧
      t = forAll ([2 * b, 2 * b + 1].filter (headInst s)) (fun h => pullIn h 0 true) (updMount b (fun m => { m with phase := 4 }) s) := by
  refine completes_of_exec ?_ ⟨mountOf_then (lib_pullIns _ 0 true _), rfl⟩
  rw [exec_phaseEnd hi hp (by omega), if_neg (by omega), if_neg (by omega), if_pos rfl, if_neg hlock]

/-- The spindle at rest and the slot there carry the dismount on (R271). -/
theorem completes_phase67 (hi : bayInst s b = true)
    (hp : ((mountOf s b).phase = 6 ∧ motSt s b = 0) ∨ ((mountOf s b).phase = 7 ∧ slotThere s b (mountOf s b).disc = true)) :
    Completes (.mountPhaseEnd b true areas) s fun t =>
      mountOf t b = { mountOf s b with phase := (mountOf s b).phase + 1 } ∧
      ((mountOf s b).phase = 6 → t = slotTo b (mountOf s b).disc (axMoveTo b 1 0 (axMoveTo b 0 0 (updMount b (fun m => { m with phase := 7 }) s)))) ∧
      ((mountOf s b).phase = 7 → t = axMoveTo b 2 (axMm s b 2 180) (updMount b (fun m => { m with phase := 8 }) s)) ∧ OnlyMount b s t := by
  rcases hp with ⟨h6, hst⟩ | ⟨h7, hslot⟩
  · have hlib : (slotTo b (mountOf s b).disc (axMoveTo b 1 0 (axMoveTo b 0 0 (updMount b (fun m => { m with phase := 7 }) s)))).lib
        = (updMount b (fun m => { m with phase := 7 }) s).lib :=
      ((slotTo_atCar b _ _).lib.trans (axMoveTo_atAxis (AtAxis.refl b 1 _ _) (by omega) 0).lib).trans
        (axMoveTo_atAxis (AtAxis.refl b 0 _ _) (by omega) 0).lib
    refine completes_of_exec ?_ ⟨?_, fun _ => rfl, fun e => by omega, onlyMount_then hlib⟩
    · rw [exec_phaseEnd hi h6 (by omega), if_neg (by omega), if_neg (by omega), if_neg (by omega), if_neg (by omega), if_neg (by omega),
        if_pos rfl, if_neg (by simpa using hst)]
    · rw [mountOf_then hlib, h6]
  · have hlib := (axMoveTo_atAxis (AtAxis.refl b 2 (updMount b (fun m => { m with phase := 8 }) s) _) (by omega) (axMm s b 2 180)).lib
    refine completes_of_exec ?_ ⟨?_, fun e => by omega, fun _ => rfl, onlyMount_then hlib⟩
    · rw [exec_phaseEnd hi h7 (by omega), if_neg (by omega), if_neg (by omega), if_neg (by omega), if_neg (by omega), if_neg (by omega),
        if_neg (by omega), if_pos rfl, if_neg (by simp [hslot])]
    · rw [mountOf_then hlib, h7]

end load

end Sys2Proof.Proofs
end

section
/-! SUPPORT. The clauses of O27 on the mount's end, its failure and the dismount (R33, R170, R271, R297, R300, R301, R321). -/

namespace Sys2Proof.Proofs

open Sys2Proof.Machine Sys2Proof.Laws

section fail
variable {b d : Nat} {s t : State} {areas : List (Nat × List SlotRead)}

theorem bayInst_lt (hi : bayInst s b = true) : b < 32 := by
  simp only [bayInst, Bool.and_eq_true, decide_eq_true_eq] at hi
  exact hi.1

/-! ### A failed mount -/

theorem bayOut_updMount (f : MountSt → MountSt) (s : State) : (updMount b f s).lib.bayOut = s.lib.bayOut := rfl
theorem lib_pageChanged (page : Nat) (s : State) : (pageChanged page s).lib = s.lib := rfl

theorem bayOut_startDismount (hb : b < 32) (s : State) : (startDismount b s).lib.bayOut = s.lib.bayOut := by
  obtain ⟨⟨_, _, _, _, _, _, _, _, h⟩, -, -, -⟩ := retracted_atBay hb s
  rw [startDismount_eq, bayOut_updMount, (stopSpindle_atSpin b _).lib, h]

/-- The failure counted for bay and disc (R321). -/
def failCounted (b : Nat) (s : State) : State :=
  updDisc (mountOf s b).disc (fun x => { x with fails := x.fails + 1, failRun := (getDisc s (mountOf s b).disc).failRun + 1, failBay := b })
    (updMount b (fun m => { m with fails := m.fails + 1 }) s)

/-- The first failure puts the bay out of service (R321). -/
def bayTakenOut (b n : Nat) (s : State) : State :=
  if n = 1 then { s with lib := { s.lib with bayOut := if b ∈ s.lib.bayOut then s.lib.bayOut else s.lib.bayOut ++ [b] } } else s

theorem bayTakenOut_reads (b n : Nat) (s : State) : (bayTakenOut b n s).lib.mounts = s.lib.mounts ∧
    (bayTakenOut b n s).lib.discs = s.lib.discs ∧ (n = 1 → b ∈ (bayTakenOut b n s).lib.bayOut) := by
  unfold bayTakenOut
  split
  · refine ⟨rfl, rfl, fun _ => ?_⟩
    dsimp only
    split
    · assumption
    · exact List.mem_append_right _ (List.mem_singleton_self b)
  · next hf => exact ⟨rfl, rfl, fun h => absurd h hf⟩

/-- The state from which a failed mount's disc leaves. -/
def failNoted (b : Nat) (s : State) : State :=
  refreshArbours (bayTakenOut b ((getDisc s (mountOf s b).disc).failRun + 1) (failCounted b s))

theorem mountFailed_eq (b : Nat) (s : State) : mountFailed b s = pageChanged 0xc2 (startDismount b (failNoted b s)) := by
  unfold mountFailed failNoted bayTakenOut failCounted
  rfl

theorem mountOf_failNoted (b : Nat) (s : State) (j : Nat) :
    mountOf (failNoted b s) j = if j = b then { mountOf s b with fails := (mountOf s b).fails + 1 } else mountOf s j := by
  have e : (failNoted b s).lib.mounts = (updMount b (fun m => { m with fails := m.fails + 1 }) s).lib.mounts := by
    rw [failNoted, refreshArbours_lib, (bayTakenOut_reads b _ _).1]
    rfl
  rw [mountOf, e, ← mountOf, mountOf_updMount]

theorem getDisc_failNoted (b : Nat) (s : State) (j : Nat) : getDisc (failNoted b s) j = if j = (mountOf s b).disc then
    { getDisc s (mountOf s b).disc with
      fails := (getDisc s (mountOf s b).disc).fails + 1, failRun := (getDisc s (mountOf s b).disc).failRun + 1, failBay := b }
    else getDisc s j := by
  have e : (failNoted b s).lib.discs = (failCounted b s).lib.discs := by
    rw [failNoted, refreshArbours_lib, (bayTakenOut_reads b _ _).2.1]
  rw [getDisc, e, ← getDisc, failCounted, getDisc_updDisc]
  rfl

theorem bayOut_failNoted (hf : (getDisc s (mountOf s b).disc).failRun = 0) : b ∈ (failNoted b s).lib.bayOut := by
  rw [failNoted, refreshArbours_lib]
  exact (bayTakenOut_reads b _ _).2.2 (by simp [hf])

theorem mountOf_mountFailed (hb : b < 32) (s : State) (j : Nat) : mountOf (mountFailed b s) j = if j = b then
    leavingMount b (failNoted b s) { mountOf s b with fails := (mountOf s b).fails + 1 } else mountOf s j := by
  rw [mountFailed_eq, mountOf_congr (lib_pageChanged ..), mountOf_startDismount hb]
  split
  · rw [mountOf_failNoted, if_pos rfl]
  · next hj => rw [mountOf_failNoted, if_neg hj]

theorem onlyMount_mountFailed (hb : b < 32) (s : State) : OnlyMount b s (mountFailed b s) := fun j hj => by
  rw [mountOf_mountFailed hb, if_neg hj]

theorem getDisc_mountFailed (b : Nat) (s : State) (j : Nat) :
    getDisc (mountFailed b s) j = getDisc (retractBay b (sectorsDropped b (failNoted b s))) j := by
  rw [mountFailed_eq, getDisc_congr (lib_pageChanged ..), getDisc_startDismount]

/-- A failed phase fails the mount, counted for bay and disc (R321). -/
theorem completes_phaseFailed (hi : bayInst s b = true) (hd : d = (mountOf s b).disc) (h1 : 1 ≤ (mountOf s b).phase)
    (h4 : (mountOf s b).phase ≤ 4) :
    Completes (.mountPhaseEnd b false areas) s fun t =>
      (mountOf t b).fails = (mountOf s b).fails + 1 ∧ (getDisc t d).fails = (getDisc s d).fails + 1 ∧
      (getDisc t d).failRun = (getDisc s d).failRun + 1 ∧ (getDisc t d).failBay = b ∧ ((getDisc s d).failRun = 0 → b ∈ t.lib.bayOut) ∧
      (mountOf t b).phase = 6 ∧ OnlyMount b s t ∧ OnlyDiscs [d] s t := by
  have hb := bayInst_lt hi
  have hex : exec (.mountPhaseEnd b false areas) s = .next (mountFailed b s) := by
    have hguard : ¬(bayInst s b = false ∨ (mountOf s b).phase = 0) := by
      rw [hi]
      simp
      omega
    exact (if_neg hguard).trans ((if_pos rfl).trans (if_pos h4))
  have hm := mountOf_mountFailed hb s b
  rw [if_pos rfl] at hm
  have hk := retracted_atBay hb (failNoted b s)
  have hdisc : getDisc (mountFailed b s) d = { getDisc (failNoted b s) d with losses := (getDisc (mountFailed b s) d).losses } := by
    rw [getDisc_mountFailed]
    exact hk.discs d
  rw [getDisc_failNoted, if_pos hd, ← hd] at hdisc
  refine completes_of_exec hex ⟨by rw [hm]; rfl, by rw [hdisc], by rw [hdisc], by rw [hdisc], fun h0 => ?_, by rw [hm]; rfl,
    onlyMount_mountFailed hb s, fun j hj => ?_⟩
  · rw [mountFailed_eq, lib_pageChanged, bayOut_startDismount hb]
    exact bayOut_failNoted (hd ▸ h0)
  · have hne : j ≠ (mountOf s b).disc := fun e => hj (by simp [e, hd])
    have honly : getDisc (retractBay b (sectorsDropped b (failNoted b s))) j = getDisc (failNoted b s) j := hk.only j (by
      rw [mountOf_failNoted, if_pos rfl]
      simpa using hne)
    rw [getDisc_mountFailed, honly, getDisc_failNoted, if_neg hne]

/-- A loaded tray spins up; an empty one fails the mount, or is noted for the identification (R271, R413). -/
theorem completes_phase2 (hi : bayInst s b = true) (hp : (mountOf s b).phase = 2) (hload : loaderAt s b false = true) :
    Completes (.mountPhaseEnd b true areas) s fun t =>
      (inputActive s b 6 = true →
        mountOf t b = { mountOf s b with phase := 3 } ∧
        t = axMoveTo b 1 (bandSteps s b 1 (mountOf s b).band) (axMoveTo b 0 (bandSteps s b 0 (mountOf s b).band)
          (setSpeed b 9600 (updMount b (fun m => { m with phase := 3 }) s)))) ∧
      (inputActive s b 6 = false → (mountOf s b).disc ∉ s.host.importQ → t = mountFailed b s) ∧
      (inputActive s b 6 = false → (mountOf s b).disc ∈ s.host.importQ → (mountOf t b).empty = true ∧ (mountOf t b).phase = 6) ∧
      OnlyMount b s t := by
  have hb := bayInst_lt hi
  have hex := exec_phaseEnd (areas := areas) hi hp (by omega)
  rw [if_neg (by omega), if_pos rfl, if_neg (by simp [hload])] at hex
  cases hin : inputActive s b 6 with
  | true =>
    rw [hin, if_neg (by decide)] at hex
    have hlib := lib_spinUp b (bandSteps s b 1 (mountOf s b).band) (bandSteps s b 0 (mountOf s b).band) 9600
      (updMount b (fun m => { m with phase := 3 }) s)
    exact completes_of_exec hex ⟨fun _ => ⟨mountOf_then hlib, rfl⟩, by simp, by simp, onlyMount_then hlib⟩
  | false =>
    rw [hin, if_pos rfl] at hex
    by_cases hq : (mountOf s b).disc ∈ s.host.importQ
    · rw [if_pos hq] at hex
      have hm := mountOf_startDismount hb (updMount b (fun m => { m with empty := true }) s) b
      rw [if_pos rfl, mountOf_updMount, if_pos rfl] at hm
      refine completes_of_exec hex ⟨by simp, fun _ hn => absurd hq hn, fun _ _ => ⟨by rw [hm]; rfl, by rw [hm]; rfl⟩, ?_⟩
      exact OnlyMount.trans (onlyMount_updMount s b fun m => { m with empty := true }) (onlyMount_startDismount hb _)
    · rw [if_neg hq] at hex
      exact completes_of_exec hex ⟨by simp, fun _ _ => rfl, fun _ hy => absurd hy hq, onlyMount_mountFailed hb s⟩

end fail

/-! ### A mount complete -/

/-- Nothing has changed of the mounts, the time, and of the inventory but one disc, whose mounts are still to be counted. -/
structure AtDisc (d : Nat) (s t : State) : Prop where
  mounts : t.lib.mounts = s.lib.mounts
  only   : OnlyDiscs [d] s t
  count  : (getDisc t d).mounts = (getDisc s d).mounts
  time   : now t = now s

section done
variable {b d : Nat} {s t u : State} {areas : List (Nat × List SlotRead)}

theorem AtDisc.refl (d : Nat) (s : State) : AtDisc d s s := ⟨rfl, fun _ _ => rfl, rfl, rfl⟩
theorem AtDisc.trans (k : AtDisc d s t) (l : AtDisc d t u) : AtDisc d s u :=
  ⟨l.mounts.trans k.mounts, OnlyDiscs.trans k.only l.only, l.count.trans k.count, l.time.trans k.time⟩

theorem AtDisc.mountOf (k : AtDisc d s t) (j : Nat) : mountOf t j = mountOf s j := by simp only [Machine.mountOf, k.mounts]

theorem atDisc_updDisc {f : Disc → Disc} (hf : (f (getDisc s d)).mounts = (getDisc s d).mounts) : AtDisc d s (updDisc d f s) :=
  ⟨rfl, onlyDiscs_updDisc s d f, by rw [getDisc_updDisc, if_pos rfl, hf], rfl⟩

theorem atDisc_of_lib (e : t.lib = s.lib) (hn : now t = now s) : AtDisc d s t :=
  ⟨congrArg Lib.mounts e, fun j _ => getDisc_congr e j, by rw [getDisc_congr e], hn⟩

theorem now_headEvent (h : Nat) (s : State) : now (headEvent h s) = now s := only_headEvent (only_refl s [F.EVT_LOG_HEAD]) (by simp) h _ (by decide)

theorem lib_headEvent (h : Nat) (s : State) : (headEvent h s).lib = s.lib := by
  unfold headEvent
  split <;> rfl

theorem mounts_selectDescriptor (x : Disc) : (selectDescriptor x).mounts = x.mounts := by
  unfold selectDescriptor
  extract_lets ds
  split <;> rfl

/-- The scan of the record areas changes the scanned disc (R51, R52). -/
theorem atDisc_scanRecords (b d : Nat) (areas : List (Nat × List SlotRead)) (s : State) : AtDisc d s (scanRecords b d areas s) := by
  have h1 : AtDisc d s (updDisc d (scanDisc areas) s) := atDisc_updDisc rfl
  unfold scanRecords
  extract_lets s1 s2
  split
  · exact h1
  · have h2 : AtDisc d s s2 := h1.trans (atDisc_updDisc (mounts_selectDescriptor _))
    refine AtDisc.trans ?_ (atDisc_of_lib (s := if (getDisc s2 d).flags % 4 = 0 then s2 else headEvent (2 * b) s2) rfl rfl)
    split
    · exact h2
    · exact h2.trans (atDisc_of_lib (lib_headEvent _ s2) (now_headEvent _ s2))

/-- The rebuild contexts' clocks change nothing of the library (R338). -/
theorem atDisc_tickContexts (d : Nat) (s : State) : AtDisc d s (tickContexts s) := by
  have hapart : ∀ i < 16, F.CLK_TIME.key ∉ [F.PAR_RB_ELAPSED_PAUSE i, F.PAR_RB_ELAPSED_RUN i, F.PAR_RB_RATE i].map Fld.key := by decide +kernel
  refine forAll_induct (fun t => AtDisc d s t) tickContext _ s (AtDisc.refl d s) fun i t hi ht => ht.trans ?_
  have hi' := hapart i (List.mem_range.1 hi)
  simp only [List.map_cons, List.map_nil, List.mem_cons, List.not_mem_nil, or_false, not_or] at hi'
  obtain ⟨hpause, hrun, hrate⟩ := hi'
  unfold tickContext
  extract_lets at0 n s1
  split
  · exact AtDisc.refl d t
  · have h1 : AtDisc d t s1 := by
      change AtDisc d t (if rbPaused t i = true then bump (F.PAR_RB_ELAPSED_PAUSE i) n t else bump (F.PAR_RB_ELAPSED_RUN i) n t)
      split
      · exact atDisc_of_lib rfl (get_bump_ne hpause)
      · exact atDisc_of_lib rfl (get_bump_ne hrun)
    exact h1.trans (atDisc_of_lib rfl (get_put_ne _ _ _ _ hrate))

theorem describe_counts (a st : Nat) (x : Disc) : (describe a st x).mounts = x.mounts ∧ (describe a st x).failRun = x.failRun := by
  have hput (side layer kind : Nat) (body : List Nat) (y : Disc) :
      (putRecord side layer kind body y).mounts = y.mounts ∧ (putRecord side layer kind body y).failRun = y.failRun := by
    unfold putRecord
    extract_lets n
    split <;> exact ⟨rfl, rfl⟩
  unfold describe
  dsimp only
  exact ⟨(hput ..).1.trans (hput ..).1, (hput ..).2.trans (hput ..).2⟩

/-- The generations written change no count. -/
theorem writeOwed_counts (x : Disc) : (writeOwed x).mounts = x.mounts ∧ (writeOwed x).failRun = x.failRun := by
  have hfold (l : List (Nat × Nat)) (y : Disc) : (l.foldl (fun x p => describe p.1 p.2 x) y).mounts = y.mounts ∧
      (l.foldl (fun x p => describe p.1 p.2 x) y).failRun = y.failRun := by
    induction l generalizing y with
    | nil => exact ⟨rfl, rfl⟩
    | cons p l ih => exact ⟨(ih _).1.trans (describe_counts p.1 p.2 y).1, (ih _).2.trans (describe_counts p.1 p.2 y).2⟩
  exact hfold x.owed x

/-- A complete mount (R300). -/
def completeMount (at' : Nat) (m : MountSt) : MountSt := { m with phase := 5, since := at', busyAt := at', count := m.count + 1 }

/-- The mount counted for its bay and its disc, whose outstanding generations are written (R278, R300). -/
def mountCounted (b : Nat) (s : State) : State :=
  updDisc (mountOf s b).disc (fun x =>
      if (mountOf s b).disc ∈ s.host.importQ then { x with mounts := (getDisc s (mountOf s b).disc).mounts + 1, failRun := 0 }
      else writeOwed { x with mounts := (getDisc s (mountOf s b).disc).mounts + 1, failRun := 0 })
    (updMount b (completeMount (now s)) s)

theorem mountCounted_reads (b : Nat) (s : State) :
    (mountCounted b s).lib.mounts = (updMount b (completeMount (now s)) s).lib.mounts ∧
    OnlyDiscs [(mountOf s b).disc] s (mountCounted b s) ∧
    (getDisc (mountCounted b s) (mountOf s b).disc).mounts = (getDisc s (mountOf s b).disc).mounts + 1 ∧
    (getDisc (mountCounted b s) (mountOf s b).disc).failRun = 0 := by
  refine ⟨rfl, fun j hj => ?_, ?_⟩
  · rw [mountCounted, getDisc_updDisc, if_neg (by simpa using hj), getDisc_updMount]
  · rw [mountCounted, getDisc_updDisc, if_pos rfl]
    split
    · exact ⟨rfl, rfl⟩
    · exact writeOwed_counts _

theorem updSet_reads (hd : Nat) (f : DiscSet → DiscSet) (s : State) :
    (updSet hd f s).lib.mounts = s.lib.mounts ∧ (updSet hd f s).lib.discs = s.lib.discs := ⟨rfl, rfl⟩

/-- What follows the counts touches the sets and the registers (R300, R312). -/
theorem mounted_lib (b : Nat) (s : State) : (mounted b s).lib.mounts = (mountCounted b (tickContexts s)).lib.mounts ∧
    (mounted b s).lib.discs = (mountCounted b (tickContexts s)).lib.discs := by
  unfold mounted
  extract_lets u d n s1 s2 hd
  have h1 : s1 = mountCounted b u := rfl
  have h2 : s2.lib = s1.lib := forAll_induct (fun t => t.lib = s1.lib) _ _ s1 rfl fun _ _ _ ht => ht
  clear_value s2 s1
  subst h1
  rw [lib_pageChanged]
  split
  · rw [(updSet_reads ..).1, (updSet_reads ..).2, h2]
    exact ⟨rfl, rfl⟩
  · rw [h2]
    exact ⟨rfl, rfl⟩

/-- A mount complete changes its bay's mount and its disc (R300). -/
theorem mounted_reads (b : Nat) (s : State) :
    (∀ j, mountOf (mounted b s) j = if j = b then completeMount (now s) (mountOf s b) else mountOf s j) ∧
    OnlyDiscs [(mountOf s b).disc] s (mounted b s) ∧ (getDisc (mounted b s) (mountOf s b).disc).mounts = (getDisc s (mountOf s b).disc).mounts + 1 ∧
      (getDisc (mounted b s) (mountOf s b).disc).failRun = 0 := by
  have ht := atDisc_tickContexts (mountOf s b).disc s
  have htick := ht.mountOf
  obtain ⟨hmounts, honly, hcount, hrun⟩ := mountCounted_reads b (tickContexts s)
  obtain ⟨hm, hd⟩ := mounted_lib b s
  have hget (j : Nat) : getDisc (mounted b s) j = getDisc (mountCounted b (tickContexts s)) j := by rw [getDisc, hd, ← getDisc]
  rw [htick] at honly hcount hrun
  refine ⟨fun j => ?_, fun j hj => ?_, ?_, ?_⟩
  · rw [mountOf, hm, hmounts, ← mountOf, mountOf_updMount, ht.time, htick, htick]
  · rw [hget, honly j hj, ht.only j hj]
  · rw [hget, hcount, ht.count]
  · rw [hget, hrun]

/-- With both heads pulled in the record areas are scanned and the mount is counted; a foreign disc leaves again (R33, R51, R52, R300). -/
theorem completes_phase4 (hi : bayInst s b = true) (hd : d = (mountOf s b).disc) (hp : (mountOf s b).phase = 4)
    (hst : ∀ h ∈ [2 * b, 2 * b + 1], headInst s h = true →
      4 ≤ Machine.get s (F.SV_STATUS_STATE h) ∧ Machine.get s (F.SV_STATUS_STATE h) ≤ 8) :
    Completes (.mountPhaseEnd b true areas) s fun t =>
      ((getDisc s d).state ≠ 6 →
        mountOf t b = { mountOf s b with phase := 5, since := now s, busyAt := now s, count := (mountOf s b).count + 1 } ∧
        (getDisc t d).mounts = (getDisc s d).mounts + 1 ∧ (getDisc t d).failRun = 0 ∧ t = mounted b (scanRecords b d areas s) ∧ OnlyDiscs [d] s t) ∧
      ((getDisc s d).state = 6 → t = startDismount b s ∧ DiscLeaves b s t) ∧ OnlyMount b s t := by
  have hb := bayInst_lt hi
  have hheads : ¬([2 * b, 2 * b + 1].any fun h =>
      headInst s h && (decide (Machine.get s (F.SV_STATUS_STATE h) < 4) || decide (8 < Machine.get s (F.SV_STATUS_STATE h)))) = true := by
    simp only [List.any_eq_true, Bool.and_eq_true, Bool.or_eq_true, decide_eq_true_eq, not_exists, not_and]
    intro h hh hinst
    obtain ⟨hlo, hhi⟩ := hst h hh hinst
    omega
  have hex := exec_phaseEnd (areas := areas) hi hp (by omega)
  rw [if_neg (by omega), if_neg (by omega), if_neg (by omega), if_pos rfl, if_neg hheads, ← hd] at hex
  by_cases h6 : (getDisc s d).state = 6
  · rw [if_pos h6] at hex
    exact completes_of_exec hex ⟨fun hn => absurd h6 hn, fun _ => ⟨rfl, discLeaves_startDismount hb s⟩, onlyMount_startDismount hb s⟩
  · rw [if_neg h6] at hex
    have hscan := atDisc_scanRecords b d areas s
    obtain ⟨hmounts, honly, hcount, hrun⟩ := mounted_reads b (scanRecords b d areas s)
    rw [hscan.mountOf, ← hd] at honly hcount hrun
    have hm (j : Nat) : mountOf (mounted b (scanRecords b d areas s)) j = if j = b then completeMount (now s) (mountOf s b) else mountOf s j := by
      rw [hmounts, hscan.time, hscan.mountOf, hscan.mountOf]
    refine completes_of_exec hex ⟨fun _ => ⟨?_, hcount.trans (by rw [hscan.count]), hrun, rfl, OnlyDiscs.trans hscan.only honly⟩,
      fun e => absurd e h6, fun j hj => by rw [hm, if_neg hj]⟩
    rw [hm, if_pos rfl]
    rfl

/-! ### The dismount -/

/-- A dismount that waited starts when no extent is under way (R170). -/
theorem completes_phase5 (hi : bayInst s b = true) (hp : (mountOf s b).phase = 5) (hl : (mountOf s b).leave = true)
    (hw : bayWriting s b = false) :
    Completes (.mountPhaseEnd b true areas) s fun t => t = startDismount b s ∧ DiscLeaves b s t ∧ OnlyMount b s t := by
  have hb := bayInst_lt hi
  have hex := exec_phaseEnd (areas := areas) hi hp (by omega)
  rw [if_neg (by omega), if_neg (by omega), if_neg (by omega), if_neg (by omega), if_pos rfl, if_pos ⟨hl, hw⟩] at hex
  exact completes_of_exec hex ⟨rfl, discLeaves_startDismount hb s, onlyMount_startDismount hb s⟩

/-- A dismount is ordered: at once, or after the extent under way (R170). -/
theorem dismounts_orderDismount (hb : b < 32) (s : State) : Dismounts b s (orderDismount b s) := by
  refine ⟨fun hw => ?_, fun hw => ?_⟩
  · have e : orderDismount b s = startDismount b s := if_neg (by simp [hw])
    rw [e]
    exact ⟨rfl, discLeaves_startDismount hb s, onlyMount_startDismount hb s⟩
  · have e : orderDismount b s = updMount b (fun m => { m with leave := true }) s := if_pos hw
    rw [e]
    refine ⟨?_, rfl, onlyMount_updMount s b _, fun _ _ => rfl⟩
    rw [mountOf_updMount, if_pos rfl]

/-- Relief and idleness order the dismount (R297, R301). -/
theorem completes_dismount (hr : relieved s b = true ∨ mayLeave s b = true) : Completes (.dismount b) s fun t => Dismounts b s t := by
  have hex : bayInst s b = true ∧ exec (.dismount b) s = .next (orderDismount b s) := by
    change _ ∧ execDismount b s = _
    unfold execDismount
    extract_lets l at' moves
    rcases hr with hr | hr
    · simp only [relieved, Bool.and_eq_true, decide_eq_true_eq] at hr
      obtain ⟨⟨⟨⟨hi, hfull⟩, hbit⟩, hbay⟩, hlong⟩ := hr
      have hmoves : moves = true := by
        change (decide _ && _ && _) = true
        simp only [Bool.and_eq_true, decide_eq_true_eq]
        exact ⟨⟨hbit, hbay⟩, hlong⟩
      exact ⟨hi, if_pos ⟨hi, hfull, hmoves⟩⟩
    · simp only [mayLeave, Bool.and_eq_true, decide_eq_true_eq, Bool.or_eq_true, Bool.not_eq_true'] at hr
      obtain ⟨⟨hi, hidle⟩, hleave⟩ := hr
      refine ⟨hi, ?_⟩
      split
      · rfl
      · rw [if_neg (by
          rintro (h | h)
          · simp [hi] at h
          · exact h hidle), if_pos]
        rcases hleave with h | h
        · exact .inl h
        · exact .inr (by simpa only [Bool.and_eq_true] using h)
  exact completes_of_exec hex.2 (dismounts_orderDismount (bayInst_lt hex.1) s)

/-- A batch that has lasted ends for a request of higher priority (R297). -/
theorem completes_mountHoldExpiry (hi : bayInst s b = true) (hfull : b ∈ fullBays s (leafOfBay s b)) (hidle : idleBays s (leafOfBay s b) = [])
    (hneed : bayNeeded s (leafOfBay s b) = true) (hlast : lastRanked s b = true)
    (hprio : ∀ n ∈ frontOf s (leafOfBay s b), n.prio < bayRank s b)
    (hlong : elapsed s (mountOf s b).since (156250000 * Machine.get s F.ARB_SCHED_MOUNT_HOLD_MAX) = true) :
    Completes (.mountHoldExpiry b) s fun t => Dismounts b s t := by
  have hex : exec (.mountHoldExpiry b) s = .next (orderDismount b s) := by
    change execMountHoldExpiry b s = _
    unfold execMountHoldExpiry
    extract_lets l rank worst
    have hworst : worst = true := hlast
    cases hf : frontOf s l with
    | none => simp [bayNeeded, show frontOf s (leafOfBay s b) = none from hf] at hneed
    | some n =>
      have hn : ¬rank b ≤ n.prio := Nat.not_le.2 (hprio n hf)
      refine if_neg ?_
      rintro (h | h | h | h | h | h | h)
      · simp [hi] at h
      · exact h hfull
      · exact h hidle
      · exact Bool.false_ne_true (h.symm.trans hneed)
      · exact Bool.false_ne_true (h.symm.trans hworst)
      · exact hn h
      · exact Bool.false_ne_true (h.symm.trans hlong)
  exact completes_of_exec hex (dismounts_orderDismount (bayInst_lt hi) s)

end done

end Sys2Proof.Proofs
end

section
/-! O27: mounting and dismounting a disc; and its clause on the end of the dismount (R271). -/

namespace Sys2Proof.Proofs

open Sys2Proof.Machine Sys2Proof.Laws

/-! ### The disc gone -/

/-- A head that knows nothing of a disc (R271). -/
def headCleared (h : Nat) (s : State) : State :=
  clearConfirm h (put (F.CH_STATUS_MEDIA_ID_VALID h) 0 (updChan h (fun c =>
    { c with last := none, expect := none, mid := [], foreignRun := 0, foreign := false, bands := [] })
    (updWrite h (fun w => { w with calDone := [], prev := [], prevOf := none }) s)))

/-- What a head knows of a disc. -/
structure KnowsNothing (h : Nat) (t : State) : Prop where
  media   : Machine.get t (F.CH_STATUS_MEDIA_ID_VALID h) = 0
  address : Machine.get t (F.CH_STATUS_ADDR_CONF h) = 0
  pos     : Machine.get t (F.SV_POS_CONFIRMED h) = 0
  last    : (chanOf t h).last = none
  expect  : (chanOf t h).expect = none
  mid     : (chanOf t h).mid = []
  foreign : (chanOf t h).foreign = false
  bands   : (chanOf t h).bands = []
  cal     : (writeOf t h).calDone = []
  prev    : (writeOf t h).prev = []

/-- What a head that is cleared writes. -/
def goneFields (h : Nat) : List Fld := F.CH_STATUS_MEDIA_ID_VALID h :: (confirmFields h ++ permitFields h)

section gone
variable {b h g : Nat} {s t : State} {areas : List (Nat × List SlotRead)}

theorem atHead_headCleared (h : Nat) (s : State) : AtHead h s (headCleared h s) (goneFields h) := by
  have h1 (f : Write → Write) (g : Chan → Chan) :
      AtHead h s (put (F.CH_STATUS_MEDIA_ID_VALID h) 0 (updChan h g (updWrite h f s))) (goneFields h) :=
    AtHead.thenPut (AtHead.thenChan ((AtHead.refl h s _).thenUpd _) g) (by simp [goneFields])
  exact (h1 _ _).trans ((atHead_clearConfirm h _).mono (List.subset_cons_self ..))

theorem knowsNothing_headCleared (hh : h < 64) (s : State) : KnowsNothing h (headCleared h s) := by
  have hmedia : ∀ h < 64, (F.CH_STATUS_MEDIA_ID_VALID h).key ∉ (confirmFields h ++ permitFields h).map Fld.key := by decide +kernel
  have hhead : getHead (headCleared h s) h = { getHead s h with
      ch := { (getHead s h).ch with last := none, expect := none, mid := [], foreignRun := 0, foreign := false, bands := [], agree := 0 }
      wr := { (getHead s h).wr with calDone := [], prev := [], prevOf := none } } := by
    rw [headCleared, getHead_clearConfirm, getHead_put, getHead_updChan, updWrite, getHead_updHead_same]
  refine ⟨?_, get_clearConfirm hh (by simp [confirmFields]) _, get_clearConfirm hh (by simp [confirmFields]) _, ?_, ?_, ?_, ?_, ?_, ?_, ?_⟩
  · rw [headCleared, (atHead_clearConfirm h _).get (hmedia h hh)]
    exact get_put_same ..
  all_goals simp only [chanOf, writeOf, hhead]

/-- The work of one head leaves what the other knows (R271). -/
theorem KnowsNothing.of_other {fs : List Fld} (k : KnowsNothing g s) (hd : AtHead h s t fs) (hne : g ≠ h)
    (hfs : ∀ f ∈ [F.CH_STATUS_MEDIA_ID_VALID g, F.CH_STATUS_ADDR_CONF g, F.SV_POS_CONFIRMED g], f.key ∉ fs.map Fld.key) : KnowsNothing g t := by
  obtain ⟨hmedia, haddr, hpos, hlast, hexpect, hmid, hforeign, hbands, hcal, hprev⟩ := k
  have hch : chanOf t g = chanOf s g := congrArg Head.ch (hd.others g hne)
  have hwr : writeOf t g = writeOf s g := congrArg Head.wr (hd.others g hne)
  exact ⟨(hd.get (hfs _ (by simp))).trans hmedia, (hd.get (hfs _ (by simp))).trans haddr, (hd.get (hfs _ (by simp))).trans hpos,
    hch ▸ hlast, hch ▸ hexpect, hch ▸ hmid, hch ▸ hforeign, hch ▸ hbands, hwr ▸ hcal, hwr ▸ hprev⟩

theorem discGone_eq (b : Nat) (s : State) : discGone b s
    = headCleared (2 * b + 1) (headCleared (2 * b) (updMount b (fun m => { m with phase := 0, disc := 0, leave := false }) s)) := rfl

/-- Both heads know nothing of the disc that has gone (R271). -/
theorem knowsNothing_discGone (hb : b < 32) (s : State) : ∀ h ∈ [2 * b, 2 * b + 1], KnowsNothing h (discGone b s) := by
  have hapart : ∀ b < 32, ∀ f ∈ [F.CH_STATUS_MEDIA_ID_VALID (2 * b), F.CH_STATUS_ADDR_CONF (2 * b), F.SV_POS_CONFIRMED (2 * b)],
      f.key ∉ (goneFields (2 * b + 1)).map Fld.key := by decide +kernel
  intro h hh
  rw [discGone_eq]
  simp only [List.mem_cons, List.not_mem_nil, or_false] at hh
  rcases hh with rfl | rfl
  · exact (knowsNothing_headCleared (by omega) _).of_other (atHead_headCleared (2 * b + 1) _) (by omega) (hapart b hb)
  · exact knowsNothing_headCleared (by omega) _

/-- The loader out ends the dismount: the bay is free, and its heads know nothing of the disc (R271). -/
theorem completes_phase8 (hi : bayInst s b = true) (hp : (mountOf s b).phase = 8) (hload : loaderAt s b true = true) :
    Completes (.mountPhaseEnd b true areas) s fun t =>
      mountOf t b = { mountOf s b with phase := 0, disc := 0, leave := false } ∧
      (∀ h ∈ [2 * b, 2 * b + 1], Machine.get t (F.CH_STATUS_MEDIA_ID_VALID h) = 0 ∧ Machine.get t (F.CH_STATUS_ADDR_CONF h) = 0 ∧
        Machine.get t (F.SV_POS_CONFIRMED h) = 0 ∧ (chanOf t h).last = none ∧ (chanOf t h).expect = none ∧ (chanOf t h).mid = [] ∧
        (chanOf t h).foreign = false ∧ (chanOf t h).bands = [] ∧ (writeOf t h).calDone = [] ∧ (writeOf t h).prev = []) ∧
      inner t = { inner s with lib := { s.lib with mounts := t.lib.mounts }, heads := t.heads } ∧ OnlyMount b s t ∧
      (∀ g, g ≠ 2 * b → g ≠ 2 * b + 1 → getHead t g = getHead s g) ∧
      OnlyFields s t ([2 * b, 2 * b + 1].flatMap fun h => F.CH_STATUS_MEDIA_ID_VALID h :: (confirmFields h ++ permitFields h)) := by
  have hb := bayInst_lt hi
  have hex := exec_phaseEnd (areas := areas) hi hp (by omega)
  rw [if_neg (by omega), if_neg (by omega), if_neg (by omega), if_neg (by omega), if_neg (by omega), if_neg (by omega), if_neg (by omega),
    if_neg (by simp [hload])] at hex
  have k0 := atHead_headCleared (2 * b) (updMount b (fun m => { m with phase := 0, disc := 0, leave := false }) s)
  have k1 := atHead_headCleared (2 * b + 1) (headCleared (2 * b) (updMount b (fun m => { m with phase := 0, disc := 0, leave := false }) s))
  have hlib := k1.lib.trans k0.lib
  rw [← discGone_eq] at hlib k1
  refine completes_of_exec hex ⟨mountOf_then hlib, fun h hh => ?_, ?_, onlyMount_then hlib,
    fun g h0 h1 => (k1.others g h1).trans (k0.others g h0), fun f hf => ?_⟩
  · obtain ⟨hmedia, haddr, hpos, hlast, hexpect, hmid, hforeign, hbands, hcal, hprev⟩ := knowsNothing_discGone hb s h hh
    exact ⟨hmedia, haddr, hpos, hlast, hexpect, hmid, hforeign, hbands, hcal, hprev⟩
  · obtain ⟨⟨_, _, _, e0⟩, -, -⟩ := k0
    obtain ⟨⟨_, _, _, e1⟩, -, -⟩ := k1
    rw [e1, e0]
    rfl
  · simp only [List.flatMap_cons, List.flatMap_nil, List.append_nil, List.map_append, List.mem_append, not_or] at hf
    obtain ⟨hf0, hf1⟩ := hf
    exact (k1.get hf1).trans (k0.get hf0)

end gone

/-- Settles O27: each clause is one of the lemmas above; the dismount's registers follow from what each stage of it leaves of the bay. -/
theorem mountsAndDismounts : Obligations.MountsAndDismounts :=
  ⟨fun _ _ _ _ _ hm hb hc hs => completes_mount hm hb hc hs,
    fun _ _ _ hi hp hs hl h0 h1 => completes_phase1 hi hp hs hl h0 h1,
    fun _ _ _ hi hp hl => completes_phase2 hi hp hl,
    fun _ _ _ hi hp hl => completes_phase3 hi hp hl,
    fun _ _ _ _ hi hd hp hs => completes_phase4 hi hd hp hs,
    fun _ _ _ hi hp hl hw => completes_phase5 hi hp hl hw,
    fun _ _ _ hi hp => completes_phase67 hi hp,
    fun _ _ _ hi hp hl => completes_phase8 hi hp hl,
    fun _ _ _ _ hi hd h1 h4 => completes_phaseFailed hi hd h1 h4,
    fun _ _ hr => completes_dismount hr,
    fun _ _ hi hf hd hn hl hp he => completes_mountHoldExpiry hi hf hd hn hl hp he⟩

end Sys2Proof.Proofs
end

section
/-! SUPPORT. A head link: its record through the operations of its head, and what a change of its state leaves (R72, R75, R186). -/

namespace Sys2Proof.Proofs

open Sys2Proof.Machine Sys2Proof.Laws

/-! ### The record of the link -/

section record
variable {h : Nat} {s t : State} {fs : List Fld}

theorem atHead_updLink (h : Nat) (f : Link → Link) (s : State) (fs : List Fld) : AtHead h s (updLink h f s) fs := atHead_updHead h _ s fs
theorem atHead_bump {f : Fld} {n : Nat} (hf : f ∈ fs) : AtHead h s (bump f n s) fs := atHead_put hf

@[simp] theorem get_updLink (h : Nat) (f : Link → Link) (s : State) (g : Fld) : Machine.get (updLink h f s) g = Machine.get s g := rfl
@[simp] theorem get_updWrite (h : Nat) (f : Write → Write) (s : State) (g : Fld) : Machine.get (updWrite h f s) g = Machine.get s g := rfl

@[simp] theorem linkOf_put (f : Fld) (v g : Nat) (s : State) : linkOf (put f v s) g = linkOf s g := rfl
@[simp] theorem linkOf_putB (f : Fld) (v : Bool) (g : Nat) (s : State) : linkOf (putB f v s) g = linkOf s g := rfl
@[simp] theorem linkOf_bump (f : Fld) (n g : Nat) (s : State) : linkOf (bump f n s) g = linkOf s g := rfl
@[simp] theorem linkOf_permits (h g : Nat) (s : State) : linkOf (permits h s) g = linkOf s g := rfl
@[simp] theorem linkOf_lanesUp (h g : Nat) (s : State) : linkOf (lanesUp h s) g = linkOf s g := rfl
@[simp] theorem linkOf_putAll (l : List (Fld × Nat)) (g : Nat) (s : State) : linkOf (putAll l s) g = linkOf s g :=
  congrArg Head.link (getHead_putAll l g s)
@[simp] theorem linkOf_raise (e : EvReg) (i g : Nat) (s : State) : linkOf (raise e i s) g = linkOf s g :=
  congrArg Head.link (getHead_raise e i g s)
@[simp] theorem linkOf_updLink (h : Nat) (f : Link → Link) (s : State) : linkOf (updLink h f s) h = f (linkOf s h) :=
  congrArg Head.link (getHead_updHead_same h _ s)
@[simp] theorem linkOf_updWrite (h : Nat) (f : Write → Write) (s : State) : linkOf (updWrite h f s) h = linkOf s h := by
  rw [linkOf, updWrite, getHead_updHead_same]
  rfl
theorem linkOf_svState {st : Nat} (hst : st ≠ 10) (h : Nat) (s : State) : linkOf (svState h st s) h = linkOf s h := by
  have e : (headCore (getHead (svState h st s) h)).link = (headCore (getHead s h)).link := by rw [headCore_svState hst]
  exact e

/-- A change of the link's record is what it makes of the record. -/
theorem updLink_congr {f g : Link → Link} (e : f (linkOf s h) = g (linkOf s h)) : updLink h f s = updLink h g s := by
  have e' : f (getHead s h).link = g (getHead s h).link := e
  simp only [updLink, updHead, e']

theorem atHead_lanesUp (hf : F.HL_STATUS_LANES_UP h ∈ fs) : AtHead h s (lanesUp h s) fs := atHead_put hf

end record

/-! ### A lost head -/

section lost
variable {h i : Nat} {s : State}

/-- What the loss of a head writes (R186). -/
def lostFields (h : Nat) : List Fld := F.SV_STATUS_BAND_HOLD h :: (svCmdFields h ++ svFields h)

theorem atHead_headLost (h : Nat) (s : State) : AtHead h s (headLost h s) (lostFields h) := by
  unfold headLost
  split
  · exact atHead_raise (by simp [lostFields, svFields, evSV]) (by simp [lostFields, svFields])
  · have h1 : AtHead h s (svResult h 4 s) (lostFields h) := (atHead_svResult h 4 s).mono fun f hf => by simp [lostFields, hf]
    exact (AtHead.thenPut (AtHead.thenRaise (AtHead.thenUpd h1 _) (by simp [lostFields, svFields, evSV]) (by simp [lostFields, svFields]))
      (by simp [lostFields])).trans ((atHead_svState (by decide) h _).mono fun f hf => by simp [lostFields, hf])

@[simp] theorem linkOf_headLost (h : Nat) (s : State) : linkOf (headLost h s) h = linkOf s h := by
  unfold headLost
  split
  · exact linkOf_raise ..
  · rw [linkOf_svState (by decide), linkOf_put, linkOf_raise, linkOf, getHead_updHead_same, getHead_svResult]
    rfl

end lost

/-! ### The state of the link -/

section moved
variable {h i st : Nat} {s : State} {f : Fld}

/-- A link without what the last training gave it (R72, R75). -/
def linkCleared (k : Link) : Link :=
  { k with miss := [], hits := [], locked := [], lost := [], bad := [], out := [], kept := none, txSeq := 0, rxSeq := 0,
           unacked := [], resend := [], queued := [], rx := [], samples := [], ackDue := none, retx := 0, idle := 0, laneCfg := none,
           adcCfg := none, commitSf := none, identOk := false, inbox := [], timing := false, status := 0, flags := 0, ds := {} }

/-- The entry of a link state before the loss of the head, its event and the judgment of the permits (R75). -/
def linkMoved (h st : Nat) (s : State) : State :=
  let s1 := put (F.HL_STATUS_STATE h) st (updLink h (fun k => { k with stateAt := now s }) s)
  if st ≤ 1 ∨ st = 6 then
    putAll [(F.HL_STATUS_DEGRADED h, 0), (F.HL_STATUS_GROUP h, 0), (F.HL_STATUS_FAILED_LANE h, 0)]
      (lanesUp h (updLink h linkCleared (updWrite h (fun w => { w with active := [], inactive := [], coming := [] }) s1)))
  else s1

/-- A link that leaves ACTIVE loses its head (R186). -/
def linkLeft (h st : Nat) (s : State) : State :=
  if Machine.get s (F.HL_STATUS_STATE h) = 5 ∧ st ≠ 5 then headLost h (linkMoved h st s) else linkMoved h st s

theorem setLink_eq (h st : Nat) (s : State) : setLink h st s = permits h
    (if Machine.get s (F.HL_STATUS_STATE h) = st then linkLeft h st s else raise (evHL h) B.HL_EVT_STATE_CHANGE (linkLeft h st s)) := rfl

/-- What the entry of a link state writes before its event. -/
def linkMovedFields (h : Nat) : List Fld :=
  [F.HL_STATUS_STATE h, F.HL_STATUS_DEGRADED h, F.HL_STATUS_GROUP h, F.HL_STATUS_FAILED_LANE h, F.HL_STATUS_LANES_UP h]

theorem atHead_linkMoved (h st : Nat) (s : State) : AtHead h s (linkMoved h st s) (linkMovedFields h) := by
  have h1 : AtHead h s (put (F.HL_STATUS_STATE h) st (updLink h (fun k => { k with stateAt := now s }) s)) (linkMovedFields h) :=
    (atHead_updLink h _ s _).thenPut (by simp [linkMovedFields])
  unfold linkMoved
  dsimp only
  split
  · refine ((AtHead.trans (AtHead.trans (h1.thenUpd _) (atHead_updLink h linkCleared _ _)) (atHead_lanesUp ?_)).trans (atHead_putAll ?_))
    all_goals simp [linkMovedFields]
  · exact h1

/-- The link's record as the entry of a state leaves it (R72, R75). -/
def linkEntered (s : State) (h st : Nat) : Link :=
  if st ≤ 1 ∨ st = 6 then linkCleared { linkOf s h with stateAt := now s } else { linkOf s h with stateAt := now s }

theorem linkOf_linkMoved (h st : Nat) (s : State) : linkOf (linkMoved h st s) h = linkEntered s h st := by
  unfold linkMoved linkEntered
  dsimp only
  split <;> simp

theorem linkOf_linkLeft (h st : Nat) (s : State) : linkOf (linkLeft h st s) h = linkEntered s h st := by
  unfold linkLeft
  split
  · rw [linkOf_headLost, linkOf_linkMoved]
  · exact linkOf_linkMoved h st s

theorem linkOf_setLink (h st : Nat) (s : State) : linkOf (setLink h st s) h = linkEntered s h st := by
  rw [setLink_eq, linkOf_permits]
  split
  · exact linkOf_linkLeft h st s
  · rw [linkOf_raise, linkOf_linkLeft]

/-- Where the link is not ACTIVE, or stays so, only the link's fields and the permits change. -/
theorem atHead_setLink (hl : Machine.get s (F.HL_STATUS_STATE h) ≠ 5 ∨ st = 5) : AtHead h s (setLink h st s) (linkFields h) := by
  have hm : AtHead h s (linkLeft h st s) (linkFields h) := by
    rw [linkLeft, if_neg (by tauto)]
    exact (atHead_linkMoved h st s).mono (by simp [linkMovedFields, linkFields])
  have hp (u : State) : AtHead h u (permits h u) (linkFields h) := (atHead_permits h u).mono (by simp [permitFields, linkFields])
  rw [setLink_eq]
  split
  · exact hm.trans (hp _)
  · exact (hm.thenRaise (by simp [linkFields, evHL]) (by simp [linkFields])).trans (hp _)

/-- What a change of the link's state writes beside it, its map and its event. -/
def linkSideFields (h : Nat) : List Fld := F.EVT_LOG_HEAD :: (permitFields h ++ lostFields h)

theorem atHead_linkLeft (h st : Nat) (s : State) : AtHead h (linkMoved h st s) (linkLeft h st s) (linkSideFields h) := by
  unfold linkLeft
  split
  · exact (atHead_headLost h _).mono fun f hf => by simp [linkSideFields, hf]
  · exact AtHead.refl h _ _

/-- Whatever the link leaves, these fields are all that change. -/
theorem atHead_setLink_any (h st : Nat) (s : State) : AtHead h s (setLink h st s) (linkFields h ++ linkSideFields h) := by
  have hm : AtHead h s (linkLeft h st s) (linkFields h ++ linkSideFields h) :=
    ((atHead_linkMoved h st s).mono (by simp [linkMovedFields, linkFields])).trans
      ((atHead_linkLeft h st s).mono (List.subset_append_right ..))
  have hp (u : State) : AtHead h u (permits h u) (linkFields h ++ linkSideFields h) :=
    (atHead_permits h u).mono (by simp [permitFields, linkFields])
  rw [setLink_eq]
  split
  · exact hm.trans (hp _)
  · exact (hm.thenRaise (by simp [linkFields, evHL]) (by simp [linkFields])).trans (hp _)

theorem linkState_apart : ∀ h < 64, (F.HL_STATUS_STATE h).key ∉ (linkSideFields h).map Fld.key ∧
    (F.HL_STATUS_STATE h).key ∉ (permitFields h).map Fld.key ∧ (F.HL_STATUS_STATE h).key ∉ (evFields (evHL h)).map Fld.key ∧
    (evHL h).evt.key ∉ (linkSideFields h).map Fld.key ∧ (evHL h).evt.key ∉ (linkMovedFields h).map Fld.key ∧
    (evHL h).evt.key ∉ (permitFields h).map Fld.key := by decide +kernel

theorem get_linkMoved_state (h st : Nat) (s : State) : Machine.get (linkMoved h st s) (F.HL_STATUS_STATE h) = trunc 4 st := by
  have hne (v : Nat) : (F.HL_STATUS_STATE h).key ≠ ((F.HL_STATUS_DEGRADED h, v).1).key ∧ (F.HL_STATUS_STATE h).key ≠ (F.HL_STATUS_GROUP h).key ∧
      (F.HL_STATUS_STATE h).key ≠ (F.HL_STATUS_FAILED_LANE h).key ∧ (F.HL_STATUS_STATE h).key ≠ (F.HL_STATUS_LANES_UP h).key := by
    simp [Fld.key, F.HL_STATUS_STATE, F.HL_STATUS_DEGRADED, F.HL_STATUS_GROUP, F.HL_STATUS_FAILED_LANE, F.HL_STATUS_LANES_UP]
  obtain ⟨h1, h2, h3, h4⟩ := hne 0
  unfold linkMoved
  dsimp only
  split
  · rw [get_putAll_ne _ _ _ (by simpa using ⟨h1, h2, h3⟩), lanesUp, get_put_ne _ _ _ _ h4, get_updLink, get_updWrite]
    exact get_put_same ..
  · exact get_put_same ..

theorem get_setLink_state (hh : h < 64) (st : Nat) (s : State) : Machine.get (setLink h st s) (F.HL_STATUS_STATE h) = trunc 4 st := by
  obtain ⟨hside, hpermit, hev, -⟩ := linkState_apart h hh
  rw [setLink_eq, (atHead_permits h _).get hpermit]
  split
  · rw [(atHead_linkLeft h st s).get hside, get_linkMoved_state]
  · rw [(atHead_raise (h := h) (fs := evFields (evHL h)) (by simp [evFields]) (by simp [evFields])).get hev, (atHead_linkLeft h st s).get hside,
      get_linkMoved_state]

/-- The link keeps its flags. -/
theorem raised_setLink (hh : h < 64) (hi : i < 32) (hs : Raised s (evHL h) i) : Raised (setLink h st s) (evHL h) i := by
  obtain ⟨-, -, -, hside, hmoved, hpermit⟩ := linkState_apart h hh
  have hl : Raised (linkLeft h st s) (evHL h) i :=
    raised_of_get (((atHead_linkLeft h st s).get hside).trans ((atHead_linkMoved h st s).get hmoved)) hs
  rw [setLink_eq]
  refine raised_of_get ((atHead_permits h _).get hpermit) ?_
  split
  · exact hl
  · exact raised_raise_of_raised headEv_hl hi hl

/-- The entry of another state is raised (R84). -/
theorem raised_setLink_change (hh : h < 64) (hne : Machine.get s (F.HL_STATUS_STATE h) ≠ st) :
    Raised (setLink h st s) (evHL h) B.HL_EVT_STATE_CHANGE := by
  obtain ⟨-, -, -, -, -, hpermit⟩ := linkState_apart h hh
  rw [setLink_eq, if_neg hne]
  exact raised_of_get ((atHead_permits h _).get hpermit) (raised_raise headEv_hl (by decide))

/-! ### A failed training -/

/-- A training that fails starts again, and the third failure in a row ends it (R75). -/
theorem trainFail_eq (h : Nat) (s : State) : trainFail h s
    = if (linkOf s h).fails < 2 then setLink h 1 (updLink h (fun k => { k with fails := (linkOf s h).fails + 1 }) s)
      else raise (evHL h) B.HL_EVT_TRAIN_FAIL (setLink h 6 (updLink h (fun k => { k with fails := (linkOf s h).fails + 1 }) s)) := by
  rw [trainFail]
  by_cases hf : (linkOf s h).fails < 2
  · rw [if_pos hf, if_pos (by omega)]
  · rw [if_neg hf, if_neg (by omega)]

theorem trainFail_spec (hh : h < 64) (s : State) :
    Machine.get (trainFail h s) (F.HL_STATUS_STATE h) = (if (linkOf s h).fails < 2 then 1 else 6) ∧
      (linkOf (trainFail h s) h).fails = (linkOf s h).fails + 1 ∧
      ((linkOf s h).fails = 2 → Raised (trainFail h s) (evHL h) B.HL_EVT_TRAIN_FAIL) := by
  obtain ⟨-, -, hev, -⟩ := linkState_apart h hh
  rw [trainFail_eq]
  split
  next hlt => exact ⟨get_setLink_state hh 1 _, by rw [linkOf_setLink, linkEntered, linkOf_updLink]; rfl, fun e => absurd e (by omega)⟩
  next hge =>
    refine ⟨?_, ?_, fun _ => raised_raise headEv_hl (by decide)⟩
    · rw [(atHead_raise (h := h) (fs := evFields (evHL h)) (by simp [evFields]) (by simp [evFields])).get hev]
      exact get_setLink_state hh 6 _
    · rw [linkOf_raise, linkOf_setLink, linkEntered, linkOf_updLink]
      rfl

theorem atHead_trainFail (hl : Machine.get s (F.HL_STATUS_STATE h) ≠ 5) : AtHead h s (trainFail h s) (linkFields h) := by
  rw [trainFail_eq]
  split
  · exact (atHead_updLink h _ s _).trans (atHead_setLink (.inl hl))
  · exact ((atHead_updLink h _ s _).trans (atHead_setLink (.inl hl))).thenRaise (by simp [linkFields, evHL]) (by simp [linkFields])

end moved

end Sys2Proof.Proofs
end

section
/-! SUPPORT. A head link's messages: the front of the inbox, the receive queue and the mailbox (R72 to R74, R80, R81). -/

namespace Sys2Proof.Proofs

open Sys2Proof.Machine Sys2Proof.Laws

/-! ### The front of the inbox -/

section inbox
variable {h i key : Nat} {s : State} {m : Msg} {l : List (Nat × Msg)} {act : State → State}

theorem frontMsg_of_inbox (hi : headInst s h = true) (hin : (linkOf s h).inbox = (key, m) :: l) {p : Nat → Bool} (hp : p m.ty = true) :
    frontMsg s h p = some m := by
  simp [frontMsg, hin, hi, hp]

/-- The front message has left the inbox (R72). -/
def msgTaken (h : Nat) (s : State) : State := updLink h (fun k => { k with inbox := k.inbox.drop 1 }) s

/-- The front message has been accepted in sequence and is to be acknowledged (R72). -/
def msgAccepted (h : Nat) (m : Msg) (s : State) : State :=
  updLink h (fun k => { k with rxSeq := (k.rxSeq + 1) % 256, ackDue := some m.seq }) (msgTaken h s)

theorem takeMsg_accepted (hq : m.seq = (linkOf s h).rxSeq) : takeMsg h m act s = act (msgAccepted h m s) := if_pos hq

/-- One of the previous 32 numbers is only acknowledged again (R72). -/
theorem takeMsg_again (hq : m.seq ≠ (linkOf s h).rxSeq) (hr : ((linkOf s h).rxSeq + 256 - m.seq % 256) % 256 ≤ 32) :
    takeMsg h m act s = updLink h (fun k => { k with ackDue := some (((linkOf s h).rxSeq + 255) % 256) }) (msgTaken h s) :=
  (if_neg hq).trans ((if_pos hr).trans (updLink_congr (by rw [linkOf_updLink])))

theorem atHead_msgTaken (h : Nat) (s : State) (fs : List Fld) : AtHead h s (msgTaken h s) fs := atHead_updLink h _ s fs
theorem atHead_msgAccepted (h : Nat) (m : Msg) (s : State) (fs : List Fld) : AtHead h s (msgAccepted h m s) fs :=
  (atHead_msgTaken h s fs).trans (atHead_updLink h _ _ fs)

theorem linkOf_msgTaken (hin : (linkOf s h).inbox = (key, m) :: l) : linkOf (msgTaken h s) h = { linkOf s h with inbox := l } := by
  simp [msgTaken, hin]

theorem linkOf_msgAccepted (hin : (linkOf s h).inbox = (key, m) :: l) :
    linkOf (msgAccepted h m s) h = { linkOf s h with inbox := l, rxSeq := ((linkOf s h).rxSeq + 1) % 256, ackDue := some m.seq } := by
  rw [msgAccepted, linkOf_updLink, linkOf_msgTaken hin]

@[simp] theorem get_msgAccepted (h : Nat) (m : Msg) (s : State) (f : Fld) : Machine.get (msgAccepted h m s) f = Machine.get s f := rfl

end inbox

/-! ### Acknowledgement, identity, echo, unknown types -/

section messages
variable {h i key : Nat} {s : State} {m : Msg} {l : List (Nat × Msg)}

/-- The ACK's number is found: every message up to it leaves the list (R72). -/
theorem completes_ack (hi : headInst s h = true) (hin : (linkOf s h).inbox = (key, m) :: l) (hty : m.ty = 0x7f)
    (hx : ((linkOf s h).unacked.findIdx? fun x => decide (x.seq = m.payload.headD 0)) = some i) :
    Completes (.ack h) s fun t =>
      linkOf t h = { linkOf s h with
        inbox := l, unacked := (linkOf s h).unacked.drop (i + 1), retx := 0, idle := 0,
        resend := (linkOf s h).resend.filter fun x => decide (x ∈ (linkOf s h).unacked.drop (i + 1)) } ∧
      WithinHead h s t [] := by
  have he : execAck h s = .next (updLink h (fun k => { k with
      inbox := l, unacked := k.unacked.drop (i + 1), retx := 0, idle := 0,
      resend := k.resend.filter fun x => decide (x ∈ k.unacked.drop (i + 1)) }) s) := by
    rw [execAck, frontMsg_of_inbox hi hin (by simp [hty])]
    exact congrArg _ (updLink_congr (by rw [hx, hin]; rfl))
  exact completes_of_exec he ⟨linkOf_updLink .., (atHead_updLink h _ s []).within⟩

/-- The ACK's number is that of no message: it only leaves the inbox (R72). -/
theorem completes_ack_unfound (hi : headInst s h = true) (hin : (linkOf s h).inbox = (key, m) :: l) (hty : m.ty = 0x7f)
    (hx : ∀ x ∈ (linkOf s h).unacked, x.seq ≠ m.payload.headD 0) :
    Completes (.ack h) s fun t => linkOf t h = { linkOf s h with inbox := l } ∧ WithinHead h s t [] := by
  have hnone : ((linkOf s h).unacked.findIdx? fun x => decide (x.seq = m.payload.headD 0)) = none := by
    simpa [List.findIdx?_eq_none_iff] using hx
  have he : execAck h s = .next (msgTaken h s) := by
    rw [execAck, frontMsg_of_inbox hi hin (by simp [hty])]
    exact congrArg _ (updLink_congr (by rw [hnone]))
  exact completes_of_exec he ⟨linkOf_msgTaken hin, (atHead_msgTaken h s []).within⟩

/-- An identity has entered HL.IDENT with its verdict (R74). -/
def identRead (h : Nat) (p : List Nat) (s : State) : State :=
  putB (F.HL_STATUS_IDENT_VALID h) (identOkBytes p) (putAll ((List.range 4).map fun i => (F.HL_IDENT h i, identWords p i))
    (updLink h (fun k => { k with ident := p, identOk := identOkBytes p }) s))

theorem execIdent_eq (hi : headInst s h = true) (hin : (linkOf s h).inbox = (key, m) :: l) (hty : m.ty = 0x81)
    (hq : m.seq = (linkOf s h).rxSeq) (hst : Machine.get s (F.HL_STATUS_STATE h) = 4) :
    execIdent h s = .next (if identOkBytes m.payload = true then identRead h m.payload (msgAccepted h m s)
      else raise (evHL h) B.HL_EVT_TRAIN_FAIL (setLink h 6 (identRead h m.payload (msgAccepted h m s)))) := by
  have hst' : ¬(Machine.get (msgAccepted h m s) (F.HL_STATUS_STATE h) ≠ 4) := not_not.2 hst
  rw [execIdent, frontMsg_of_inbox hi hin (by simp [hty])]
  dsimp only
  rw [takeMsg_accepted hq, if_neg hst']
  rfl

theorem get_identRead_valid (h : Nat) (p : List Nat) (s : State) :
    Machine.get (identRead h p s) (F.HL_STATUS_IDENT_VALID h) = if identOkBytes p = true then 1 else 0 := by
  rw [identRead, putB, get_put_same]
  split <;> rfl

theorem atHead_identRead (h : Nat) (p : List Nat) (s : State) : AtHead h s (identRead h p s)
    [F.HL_STATUS_IDENT_VALID h, F.HL_IDENT h 0, F.HL_IDENT h 1, F.HL_IDENT h 2, F.HL_IDENT h 3] :=
  ((atHead_updLink h _ s _).trans (atHead_putAll (by simp [List.range_succ]))).thenPut (List.mem_cons_self ..)

theorem completes_ident_kept (hi : headInst s h = true) (hin : (linkOf s h).inbox = (key, m) :: l) (hty : m.ty = 0x81)
    (hq : m.seq = (linkOf s h).rxSeq) (hst : Machine.get s (F.HL_STATUS_STATE h) = 4) (hok : identOkBytes m.payload = true) :
    Completes (.ident h) s fun t =>
      Machine.get t (F.HL_STATUS_IDENT_VALID h) = 1 ∧ (linkOf t h).identOk = true ∧ (linkOf t h).ident = m.payload ∧
      (linkOf t h).inbox = l ∧ (linkOf t h).ackDue = some m.seq ∧
      WithinHead h s t [F.HL_STATUS_IDENT_VALID h, F.HL_IDENT h 0, F.HL_IDENT h 1, F.HL_IDENT h 2, F.HL_IDENT h 3] := by
  refine completes_of_exec ((execIdent_eq hi hin hty hq hst).trans (congrArg _ (if_pos hok))) ?_
  have hlink : linkOf (identRead h m.payload (msgAccepted h m s)) h
      = { linkOf s h with inbox := l, rxSeq := ((linkOf s h).rxSeq + 1) % 256, ackDue := some m.seq, ident := m.payload, identOk := true } := by
    rw [identRead, linkOf_putB, linkOf_putAll, linkOf_updLink, linkOf_msgAccepted hin, hok]
  rw [hlink, get_identRead_valid, if_pos hok]
  exact ⟨rfl, rfl, rfl, rfl, rfl, ((atHead_msgAccepted h m s _).trans (atHead_identRead h _ _)).within⟩

theorem identValid_apart : ∀ h < 64, (F.HL_STATUS_IDENT_VALID h).key ∉ (linkFields h ++ linkSideFields h).map Fld.key ∧
    (F.HL_STATUS_STATE h).key ∉ (evFields (evHL h)).map Fld.key ∧
    (F.HL_STATUS_IDENT_VALID h).key ∉ (evFields (evHL h)).map Fld.key := by decide +kernel

theorem completes_ident_broken (hi : headInst s h = true) (hin : (linkOf s h).inbox = (key, m) :: l) (hty : m.ty = 0x81)
    (hq : m.seq = (linkOf s h).rxSeq) (hst : Machine.get s (F.HL_STATUS_STATE h) = 4) (hok : identOkBytes m.payload = false) :
    Completes (.ident h) s fun t =>
      Machine.get t (F.HL_STATUS_IDENT_VALID h) = 0 ∧ Machine.get t (F.HL_STATUS_STATE h) = 6 ∧ Raised t (evHL h) B.HL_EVT_TRAIN_FAIL := by
  have hno : ¬(identOkBytes m.payload = true) := by simp [hok]
  obtain ⟨hset, hstate, hraise⟩ := identValid_apart h (headInst_lt hi)
  refine completes_of_exec ((execIdent_eq hi hin hty hq hst).trans (congrArg _ (if_neg hno))) ?_
  have hev (u : State) : AtHead h u (raise (evHL h) B.HL_EVT_TRAIN_FAIL u) (evFields (evHL h)) :=
    atHead_raise (by simp [evFields]) (by simp [evFields])
  refine ⟨?_, ?_, raised_raise headEv_hl (by decide)⟩
  · rw [(hev _).get hraise, (atHead_setLink_any h 6 _).get hset, get_identRead_valid, if_neg hno]
  · rw [(hev _).get hstate]
    exact get_setLink_state (headInst_lt hi) 6 _

theorem execPong_eq (hi : headInst s h = true) (hin : (linkOf s h).inbox = (key, m) :: l) (hty : m.ty = 0x87) :
    execPong h s = .next (takeMsg h m (updLink h fun k => { k with pong := some (ofBytesLE (m.payload.take 4)) }) s) := by
  rw [execPong, frontMsg_of_inbox hi hin (by simp [hty])]

/-- A PONG in sequence returns its token (R73). -/
theorem completes_pong (hi : headInst s h = true) (hin : (linkOf s h).inbox = (key, m) :: l) (hty : m.ty = 0x87)
    (hq : m.seq = (linkOf s h).rxSeq) :
    Completes (.pong h) s fun t =>
      linkOf t h = { linkOf s h with inbox := l, rxSeq := ((linkOf s h).rxSeq + 1) % 256, ackDue := some m.seq,
                                     pong := some (ofBytesLE (m.payload.take 4)) } ∧ WithinHead h s t [] := by
  refine completes_of_exec (execPong_eq hi hin hty) ?_
  rw [takeMsg_accepted hq, linkOf_updLink, linkOf_msgAccepted hin]
  exact ⟨rfl, ((atHead_msgAccepted h m s _).trans (atHead_updLink h _ _ _)).within⟩

theorem completes_pong_again (hi : headInst s h = true) (hin : (linkOf s h).inbox = (key, m) :: l) (hty : m.ty = 0x87)
    (hq : m.seq ≠ (linkOf s h).rxSeq) (hr : ((linkOf s h).rxSeq + 256 - m.seq % 256) % 256 ≤ 32) :
    Completes (.pong h) s fun t =>
      linkOf t h = { linkOf s h with inbox := l, ackDue := some (((linkOf s h).rxSeq + 255) % 256) } ∧ WithinHead h s t [] := by
  refine completes_of_exec (execPong_eq hi hin hty) ?_
  rw [takeMsg_again hq hr, linkOf_updLink, linkOf_msgTaken hin]
  exact ⟨rfl, ((atHead_msgTaken h s _).trans (atHead_updLink h _ _ _)).within⟩

theorem completes_unknownMessage (hi : headInst s h = true) (hin : (linkOf s h).inbox = (key, m) :: l) (hfw : fwType m.ty = false)
    (hty : m.ty ∉ [0x7f, 0x81, 0x82, 0x87]) (hq : m.seq = (linkOf s h).rxSeq) :
    Completes (.unknownMessage h) s fun t =>
      Machine.get t (F.HL_MSG_STAT_UNKNOWN h) = trunc 16 (satAdd 16 (Machine.get s (F.HL_MSG_STAT_UNKNOWN h)) 1) ∧
      linkOf t h = { linkOf s h with inbox := l, rxSeq := ((linkOf s h).rxSeq + 1) % 256, ackDue := some m.seq } ∧
      WithinHead h s t [F.HL_MSG_STAT_UNKNOWN h] := by
  have hp : (!(fwType m.ty || decide (m.ty ∈ [0x7f, 0x81, 0x82, 0x87]))) = true := by rw [hfw, decide_eq_false hty]; rfl
  have he : execUnknownMessage h s = .next (takeMsg h m (bump (F.HL_MSG_STAT_UNKNOWN h) 1) s) := by
    rw [execUnknownMessage, frontMsg_of_inbox hi hin hp]
  refine completes_of_exec he ?_
  rw [takeMsg_accepted hq, linkOf_bump, linkOf_msgAccepted hin, get_bump_same, get_msgAccepted]
  exact ⟨rfl, rfl, ((atHead_msgAccepted h m s _).trans (atHead_bump (List.mem_cons_self ..))).within⟩

end messages

/-! ### The receive queue -/

section queue
variable {h key : Nat} {s : State} {m : Msg} {ms : List Msg} {l : List (Nat × Msg)}

theorem deliver_of_empty (hq : (linkOf s h).rxq = []) : deliver h s = put (F.HL_MBOX_CTRL_RX_QUEUE h) 0 s := by
  simp only [deliver, hq]

theorem deliver_of_full (hq : (linkOf s h).rxq = m :: ms) (hf : Machine.get s (F.HL_MBOX_CTRL_RX_FULL h) = 1) :
    deliver h s = put (F.HL_MBOX_CTRL_RX_QUEUE h) (ms.length + 1) s := by
  simp only [deliver, hq, isSet, hf, decide_true, if_true, List.length_cons]

/-- The words of a delivered message (R81). -/
def mailWords (h : Nat) (m : Msg) : List (Fld × Nat) :=
  (F.HL_MBOX_RX h 0, m.ty + 256 * m.payload.length + 65536 * m.seq) ::
    (List.range 63).map fun i => (F.HL_MBOX_RX h (i + 1), ofBytesLE ((m.payload.drop (4 * i)).take 4))

/-- The oldest message has been delivered (R81). -/
def delivered (h : Nat) (m : Msg) (ms : List Msg) (s : State) : State :=
  raise (evHL h) B.HL_EVT_MBOX_RX (put (F.HL_MBOX_CTRL_RX_QUEUE h) ms.length (put (F.HL_MBOX_CTRL_RX_FULL h) 1
    (putAll (mailWords h m) (updLink h (fun k => { k with rxq := ms, fullSince := none }) s))))

theorem deliver_of_clear (hq : (linkOf s h).rxq = m :: ms) (hf : Machine.get s (F.HL_MBOX_CTRL_RX_FULL h) ≠ 1) :
    deliver h s = delivered h m ms s := by
  simp only [deliver, hq, isSet, hf, decide_false, if_false, Bool.false_eq_true]
  rfl

theorem linkOf_delivered (h : Nat) (m : Msg) (ms : List Msg) (s : State) :
    linkOf (delivered h m ms s) h = { linkOf s h with rxq := ms, fullSince := none } := by
  rw [delivered, linkOf_raise, linkOf_put, linkOf_put, linkOf_putAll, linkOf_updLink]

theorem map_mailWords (h : Nat) (m : Msg) :
    ((mailWords h m).map fun p => p.1.key) = (List.range (63 + 1)).map fun i => (F.HL_MBOX_RX h i).key := by
  rw [List.range_succ_eq_map]
  simp only [mailWords, List.map_cons, List.map_map, Function.comp_def]

theorem mailWords_fields {p : Fld × Nat} (hp : p ∈ mailWords h m) : ∃ i < 64, p.1 = F.HL_MBOX_RX h i := by
  rcases List.mem_cons.1 hp with rfl | hp
  · exact ⟨0, by decide, rfl⟩
  · obtain ⟨i, hi, rfl⟩ := List.mem_map.1 hp
    exact ⟨i + 1, by have := List.mem_range.1 hi; omega, rfl⟩

theorem atHead_delivered (h : Nat) (m : Msg) (ms : List Msg) (s : State) : AtHead h s (delivered h m ms s)
    ([F.HL_MBOX_CTRL_RX_FULL h, F.HL_MBOX_CTRL_RX_QUEUE h, F.HL_EVT h, F.EVT_LOG_HEAD] ++ (List.range 64).map (F.HL_MBOX_RX h)) := by
  have hwords : ∀ p ∈ mailWords h m, p.1 ∈ [F.HL_MBOX_CTRL_RX_FULL h, F.HL_MBOX_CTRL_RX_QUEUE h, F.HL_EVT h, F.EVT_LOG_HEAD]
      ++ (List.range 64).map (F.HL_MBOX_RX h) := by
    intro p hp
    obtain ⟨i, hi, e⟩ := mailWords_fields hp
    exact List.mem_append_right _ (e ▸ List.mem_map_of_mem (List.mem_range.2 hi))
  exact (((((atHead_updLink h _ s _).trans (atHead_putAll hwords)).thenPut (by simp)).thenPut (by simp)).thenRaise
    (by simp [evHL]) (by simp))

theorem mailFields_apart : ∀ h < 64, (F.HL_MBOX_CTRL_RX_FULL h).key ∉ (F.HL_MBOX_CTRL_RX_QUEUE h :: evFields (evHL h)).map Fld.key ∧
    (F.HL_MBOX_CTRL_RX_QUEUE h).key ∉ (evFields (evHL h)).map Fld.key ∧
    (F.HL_MBOX_RX h 0).key ∉ (F.HL_MBOX_CTRL_RX_QUEUE h :: F.HL_MBOX_CTRL_RX_FULL h :: evFields (evHL h)).map Fld.key := by decide +kernel

theorem get_delivered (hh : h < 64) (m : Msg) (ms : List Msg) (s : State) :
    Machine.get (delivered h m ms s) (F.HL_MBOX_CTRL_RX_FULL h) = 1 ∧
      Machine.get (delivered h m ms s) (F.HL_MBOX_CTRL_RX_QUEUE h) = trunc 5 ms.length ∧
      Machine.get (delivered h m ms s) (F.HL_MBOX_RX h 0) = trunc 32 (m.ty + 256 * m.payload.length + 65536 * m.seq) ∧
      Raised (delivered h m ms s) (evHL h) B.HL_EVT_MBOX_RX := by
  obtain ⟨hfull, hqueue, hword⟩ := mailFields_apart h hh
  simp only [List.map_cons, List.mem_cons, not_or] at hfull hqueue hword
  obtain ⟨hfq, hfe⟩ := hfull
  obtain ⟨hwq, hwf, hwe⟩ := hword
  have hev (u : State) {f : Fld} (hf : f.key ∉ (evFields (evHL h)).map Fld.key) :
      Machine.get (raise (evHL h) B.HL_EVT_MBOX_RX u) f = Machine.get u f :=
    (atHead_raise (h := h) (fs := evFields (evHL h)) (by simp [evFields]) (by simp [evFields])).get hf
  have hnodup : ((mailWords h m).map fun p => p.1.key).Nodup := by
    have hinj : Function.Injective fun i => (F.HL_MBOX_RX h i).key := fun i j e => by
      simp only [Fld.key, F.HL_MBOX_RX] at e
      omega
    rw [map_mailWords]
    exact List.nodup_range.map hinj
  refine ⟨?_, ?_, ?_, raised_raise headEv_hl (by decide)⟩
  · rw [delivered, hev _ hfe, get_put_ne _ _ _ _ hfq]
    exact get_put_same ..
  · rw [delivered, hev _ hqueue]
    exact get_put_same ..
  · rw [delivered, hev _ hwe, get_put_ne _ _ _ _ hwq, get_put_ne _ _ _ _ hwf]
    exact get_putAll_mem hnodup (List.mem_cons_self ..)

/-- A firmware message has been accepted and waits in the queue (R81). -/
def mailQueued (h : Nat) (m : Msg) (s : State) : State :=
  updLink h (fun (k : Link) => { k with rxq := k.rxq ++ [m], fullSince := if k.rxq.length = 15 then some (now s) else k.fullSince })
    (msgAccepted h m s)

theorem linkOf_mailQueued (hin : (linkOf s h).inbox = (key, m) :: l) :
    linkOf (mailQueued h m s) h = { linkOf s h with
      inbox := l, rxSeq := ((linkOf s h).rxSeq + 1) % 256, ackDue := some m.seq, rxq := (linkOf s h).rxq ++ [m],
      fullSince := if (linkOf s h).rxq.length = 15 then some (now s) else (linkOf s h).fullSince } := by
  rw [mailQueued, linkOf_updLink, linkOf_msgAccepted hin]

theorem atHead_mailQueued (h : Nat) (m : Msg) (s : State) (fs : List Fld) : AtHead h s (mailQueued h m s) fs :=
  (atHead_msgAccepted h m s fs).trans (atHead_updLink h _ _ fs)

theorem execFirmwareMessage_eq (hi : headInst s h = true) (hin : (linkOf s h).inbox = (key, m) :: l) (hfw : fwType m.ty = true)
    (hq : m.seq = (linkOf s h).rxSeq) (hroom : (linkOf s h).rxq.length < 16) :
    execFirmwareMessage h s = .next (deliver h (mailQueued h m s)) := by
  rw [execFirmwareMessage, frontMsg_of_inbox hi hin hfw]
  dsimp only
  rw [if_neg (by omega), takeMsg_accepted hq]
  rfl

theorem completes_firmwareMessage_delivered (hi : headInst s h = true) (hin : (linkOf s h).inbox = (key, m) :: l)
    (hfw : fwType m.ty = true) (hq : m.seq = (linkOf s h).rxSeq) (hroom : (linkOf s h).rxq.length < 16)
    (hf : Machine.get s (F.HL_MBOX_CTRL_RX_FULL h) ≠ 1) :
    Completes (.firmwareMessage h) s fun t =>
      Machine.get t (F.HL_MBOX_CTRL_RX_FULL h) = 1 ∧
      Machine.get t (F.HL_MBOX_CTRL_RX_QUEUE h) = trunc (F.HL_MBOX_CTRL_RX_QUEUE h).width (linkOf s h).rxq.length ∧
      Raised t (evHL h) B.HL_EVT_MBOX_RX ∧ (linkOf t h).rxq = ((linkOf s h).rxq ++ [m]).drop 1 ∧ (linkOf t h).inbox = l ∧
      (linkOf t h).ackDue = some m.seq ∧
      WithinHead h s t ([F.HL_MBOX_CTRL_RX_FULL h, F.HL_MBOX_CTRL_RX_QUEUE h, F.HL_EVT h, F.EVT_LOG_HEAD]
        ++ (List.range 64).map (F.HL_MBOX_RX h)) := by
  have hlink := linkOf_mailQueued hin
  obtain ⟨o, os, hos⟩ : ∃ o os, (linkOf s h).rxq ++ [m] = o :: os := List.exists_cons_of_ne_nil (by simp)
  have hlen : os.length = (linkOf s h).rxq.length := by simpa using (congrArg List.length hos).symm
  have hrxq : (linkOf (mailQueued h m s) h).rxq = o :: os := by rw [hlink, ← hos]
  obtain ⟨hfull, hqueue, -, hev⟩ := get_delivered (headInst_lt hi) o os (mailQueued h m s)
  refine completes_of_exec ((execFirmwareMessage_eq hi hin hfw hq hroom).trans (congrArg _ (deliver_of_clear hrxq hf))) ?_
  rw [linkOf_delivered, hlink, hos, hqueue, hlen]
  exact ⟨hfull, rfl, hev, rfl, rfl, rfl, ((atHead_mailQueued h m s _).trans (atHead_delivered h o os _)).within⟩

theorem completes_firmwareMessage_waits (hi : headInst s h = true) (hin : (linkOf s h).inbox = (key, m) :: l)
    (hfw : fwType m.ty = true) (hq : m.seq = (linkOf s h).rxSeq) (hroom : (linkOf s h).rxq.length < 16)
    (hf : Machine.get s (F.HL_MBOX_CTRL_RX_FULL h) = 1) :
    Completes (.firmwareMessage h) s fun t =>
      linkOf t h = { linkOf s h with
        inbox := l, rxSeq := ((linkOf s h).rxSeq + 1) % 256, ackDue := some m.seq, rxq := (linkOf s h).rxq ++ [m],
        fullSince := if (linkOf s h).rxq.length = 15 then some (now s) else (linkOf s h).fullSince } ∧
      Machine.get t (F.HL_MBOX_CTRL_RX_QUEUE h) = trunc (F.HL_MBOX_CTRL_RX_QUEUE h).width ((linkOf s h).rxq.length + 1) ∧
      WithinHead h s t [F.HL_MBOX_CTRL_RX_QUEUE h] := by
  have hlink := linkOf_mailQueued hin
  obtain ⟨o, os, hos⟩ : ∃ o os, (linkOf s h).rxq ++ [m] = o :: os := List.exists_cons_of_ne_nil (by simp)
  have hlen : os.length = (linkOf s h).rxq.length := by simpa using (congrArg List.length hos).symm
  have hrxq : (linkOf (mailQueued h m s) h).rxq = o :: os := by rw [hlink, ← hos]
  refine completes_of_exec ((execFirmwareMessage_eq hi hin hfw hq hroom).trans (congrArg _ (deliver_of_full hrxq hf))) ?_
  rw [linkOf_put, hlink, get_put_same, hlen]
  exact ⟨rfl, rfl, ((atHead_mailQueued h m s _).thenPut (List.mem_cons_self ..)).within⟩

/-- A message that finds 16 waiting is not accepted (R81). -/
theorem completes_firmwareMessage_refused (hi : headInst s h = true) (hin : (linkOf s h).inbox = (key, m) :: l)
    (hfw : fwType m.ty = true) (hq : m.seq = (linkOf s h).rxSeq) (hfull : 16 ≤ (linkOf s h).rxq.length) :
    Completes (.firmwareMessage h) s fun t => linkOf t h = { linkOf s h with inbox := l } ∧ WithinHead h s t [] := by
  have he : execFirmwareMessage h s = .next (msgTaken h s) := by
    rw [execFirmwareMessage, frontMsg_of_inbox hi hin hfw]
    exact if_pos ⟨hq, hfull⟩
  exact completes_of_exec he ⟨linkOf_msgTaken hin, (atHead_msgTaken h s _).within⟩

theorem completes_mboxRxClear_empty (hi : headInst s h = true) (hq : (linkOf s h).rxq = []) :
    Completes (.mboxRxClear h) s fun t =>
      Machine.get t (F.HL_MBOX_CTRL_RX_FULL h) = 0 ∧ Machine.get t (F.HL_MBOX_CTRL_RX_QUEUE h) = 0 ∧
      Within s t [F.HL_MBOX_CTRL_RX_FULL h, F.HL_MBOX_CTRL_RX_QUEUE h] := by
  obtain ⟨hfull, -⟩ := mailFields_apart h (headInst_lt hi)
  simp only [List.map_cons, List.mem_cons, not_or] at hfull
  refine completes_of_exec ((if_neg (by simp [hi])).trans (congrArg _ (deliver_of_empty (s := put (F.HL_MBOX_CTRL_RX_FULL h) 0 s) hq))) ⟨?_, get_put_same .., ?_⟩
  · rw [get_put_ne _ _ _ _ hfull.1]
    exact get_put_same ..
  · exact within_put (within_put (within_refl s _) (by simp)) (by simp)

theorem completes_mboxRxClear_next (hi : headInst s h = true) (hq : (linkOf s h).rxq = m :: ms) :
    Completes (.mboxRxClear h) s fun t =>
      Machine.get t (F.HL_MBOX_CTRL_RX_FULL h) = 1 ∧
      Machine.get t (F.HL_MBOX_CTRL_RX_QUEUE h) = trunc (F.HL_MBOX_CTRL_RX_QUEUE h).width ms.length ∧
      Machine.get t (F.HL_MBOX_RX h 0) = trunc 32 (m.ty + 256 * m.payload.length + 65536 * m.seq) ∧
      linkOf t h = { linkOf s h with rxq := ms, fullSince := none } ∧ Raised t (evHL h) B.HL_EVT_MBOX_RX := by
  have hclear : Machine.get (put (F.HL_MBOX_CTRL_RX_FULL h) 0 s) (F.HL_MBOX_CTRL_RX_FULL h) ≠ 1 := by
    simp [get_put_same, trunc]
  obtain ⟨hfull, hqueue, hword, hev⟩ := get_delivered (headInst_lt hi) m ms (put (F.HL_MBOX_CTRL_RX_FULL h) 0 s)
  exact completes_of_exec ((if_neg (by simp [hi])).trans (congrArg _ (deliver_of_clear (s := put (F.HL_MBOX_CTRL_RX_FULL h) 0 s) hq hclear)))
    ⟨hfull, hqueue, hword, linkOf_delivered .., hev⟩

theorem completes_mboxStall {n : Nat} (hi : headInst s h = true) (hfull : (linkOf s h).fullSince = some n) (hn : n + 1250000 ≤ now s) :
    Completes (.mboxStall h) s fun t => Raised t (evHL h) B.HL_EVT_MBOX_STALL ∧ Within s t (evFields (evHL h)) := by
  have he : execMboxStall h s = .next (raise (evHL h) B.HL_EVT_MBOX_STALL s) := by
    simp only [execMboxStall, hfull]
    exact if_pos ⟨hi, hn⟩
  exact completes_of_exec he
    ⟨raised_raise headEv_hl (by decide), within_raise (within_refl s _) (by simp [evFields]) (by simp [evFields])⟩

end queue

/-! ### Retransmission and the mailbox's messages -/

section sent
variable {h : Nat} {s : State}

theorem completes_messageRetransmit (hi : headInst s h = true) (hun : (linkOf s h).unacked ≠ []) (hidle : 8 ≤ (linkOf s h).idle)
    (hretx : (linkOf s h).retx < 4) :
    Completes (.messageRetransmit h) s fun t =>
      Machine.get t (F.HL_MSG_STAT_RETX h)
        = trunc 16 (satAdd 16 (Machine.get s (F.HL_MSG_STAT_RETX h)) (linkOf s h).unacked.length) ∧
      linkOf t h = { linkOf s h with retx := (linkOf s h).retx + 1, idle := 0, resend := (linkOf s h).unacked } ∧
      WithinHead h s t [F.HL_MSG_STAT_RETX h] := by
  refine completes_of_exec (if_neg (by simp [hi, hun]; omega)) ⟨get_bump_same .., ?_, ?_⟩
  · rw [linkOf_bump, linkOf_updLink]
  · exact ((atHead_updLink h _ s _).trans (atHead_bump (List.mem_cons_self ..))).within

theorem msgFail_apart : ∀ h < 64, (F.HL_STATUS_STATE h).key ∉ (evFields (evHL h)).map Fld.key := by decide +kernel

theorem completes_msgFail (hi : headInst s h = true) (hun : (linkOf s h).unacked ≠ []) (hidle : 8 ≤ (linkOf s h).idle)
    (hretx : 4 ≤ (linkOf s h).retx) :
    Completes (.msgFail h) s fun t =>
      Machine.get t (F.HL_STATUS_STATE h) = 1 ∧ Raised t (evHL h) B.HL_EVT_MSG_FAIL ∧ (linkOf t h).unacked = [] ∧
      (Machine.get s (F.HL_STATUS_STATE h) ≠ 5 → WithinHead h s t (linkFields h)) := by
  have hh := headInst_lt hi
  have hev : AtHead h s (raise (evHL h) B.HL_EVT_MSG_FAIL s) (evFields (evHL h)) := atHead_raise (by simp [evFields]) (by simp [evFields])
  refine completes_of_exec (if_neg (by simp [hi, hun]; omega))
    ⟨get_setLink_state hh 1 _, raised_setLink hh (by decide) (raised_raise headEv_hl (by decide)), ?_, fun hne => AtHead.within ?_⟩
  · rw [linkOf_setLink]
    rfl
  · refine (hev.mono (by simp [evFields, linkFields, evHL])).trans (atHead_setLink (.inl ?_))
    rwa [hev.get (msgFail_apart h hh)]

/-- A list made of blocks of one length, read in a block. -/
theorem getD_flatten_blocks {f : Nat → List Nat} {n : Nat} (hf : ∀ i, (f i).length = n) (k : Nat) :
    ∀ {i : Nat}, i < n * k → ((List.range k).map f).flatten.getD i 0 = (f (i / n)).getD (i % n) 0 := by
  have hlen (k : Nat) : ((List.range k).map f).flatten.length = n * k := by
    simp [List.length_flatten, Function.comp_def, hf, Nat.mul_comm]
  induction k with
  | zero => intro i hi; omega
  | succ k ih =>
    intro i hi
    rw [List.range_succ, List.map_append, List.flatten_append]
    by_cases hk : i < n * k
    · rw [List.getD_append _ _ _ _ (by rw [hlen]; exact hk)]
      exact ih hk
    · have hn : 0 < n := Nat.pos_of_ne_zero fun e => by simp [e] at hi
      have hdiv : i / n = k := Nat.div_eq_of_lt_le (by rw [Nat.mul_comm]; omega) (by rw [Nat.mul_comm]; exact hi)
      have hmod : i % n = i - n * k := by rw [Nat.mod_def, hdiv]
      rw [List.getD_append_right _ _ _ _ (by rw [hlen]; omega), hlen, hdiv, hmod]
      simp

theorem length_bytesLE (n v : Nat) : (bytesLE n v).length = n := by
  induction n generalizing v with
  | zero => rfl
  | succ n ih => simp [bytesLE, ih]

theorem getD_bytesLE {n i : Nat} (hi : i < n) (v : Nat) : (bytesLE n v).getD i 0 = v / 256 ^ i % 256 := by
  induction n generalizing v i with
  | zero => omega
  | succ n ih =>
    cases i with
    | zero => simp [bytesLE]
    | succ i =>
      rw [bytesLE, List.getD_cons_succ, ih (by omega), Nat.div_div_eq_div_mul, pow_succ, Nat.mul_comm 256]

/-- The bytes of the words in HL.MBOX_TX (R80). -/
def mailBytes (h : Nat) (s : State) : List Nat := ((List.range 63).map fun i => bytesLE 4 (Machine.get s (F.HL_MBOX_TX h (i + 1)))).flatten

theorem length_mailBytes (h : Nat) (s : State) : (mailBytes h s).length = 252 := by
  simp [mailBytes, List.length_flatten, Function.comp_def, length_bytesLE]

theorem getD_mailBytes {i : Nat} (hi : i < 252) : (mailBytes h s).getD i 0 = Machine.get s (F.HL_MBOX_TX h (i / 4 + 1)) / 256 ^ (i % 4) % 256 := by
  rw [mailBytes, getD_flatten_blocks (fun _ => length_bytesLE ..) 63 (by omega), getD_bytesLE (by omega)]

/-- A message is queued while the link carries superframes (R73). -/
theorem sendLead_framed {ty lead : Nat} {p : List Nat} (hlo : 3 ≤ Machine.get s (F.HL_STATUS_STATE h))
    (hhi : Machine.get s (F.HL_STATUS_STATE h) ≤ 5) : sendLead h ty p lead s
      = updLink h (fun k => { k with queued := k.queued ++ [{ ty := ty, payload := p, lead := lead }] }) s := if_pos ⟨hlo, hhi⟩

theorem completes_mboxSend (hi : headInst s h = true) (hty : mailType (Machine.get s (F.HL_MBOX_TX h 0) % 256) = true)
    (hlo : 3 ≤ Machine.get s (F.HL_STATUS_STATE h)) (hhi : Machine.get s (F.HL_STATUS_STATE h) ≤ 5) :
    Completes (.mboxSend h) s fun t =>
      (∃ m, (linkOf t h).queued = (linkOf s h).queued ++ [m] ∧ m.ty = Machine.get s (F.HL_MBOX_TX h 0) % 256 ∧
        m.payload.length = min 252 (Machine.get s (F.HL_MBOX_TX h 0) / 256 % 256) ∧
        ∀ i, i < m.payload.length → m.payload.getD i 0 = Machine.get s (F.HL_MBOX_TX h (i / 4 + 1)) / 256 ^ (i % 4) % 256) ∧
      WithinHead h s t [] := by
  have hlen : ((mailBytes h s).take (min 252 (Machine.get s (F.HL_MBOX_TX h 0) / 256 % 256))).length
      = min 252 (Machine.get s (F.HL_MBOX_TX h 0) / 256 % 256) := by
    rw [List.length_take, length_mailBytes]
    omega
  refine completes_of_exec ((if_neg (by simp [hi, hty])).trans (congrArg _ (sendLead_framed hlo hhi)))
    ⟨⟨_, congrArg Link.queued (linkOf_updLink ..), rfl, hlen, fun i hlt => ?_⟩, (atHead_updLink h _ s _).within⟩
  replace hlt := hlt.trans_eq hlen
  have hbyte : ((mailBytes h s).take (min 252 (Machine.get s (F.HL_MBOX_TX h 0) / 256 % 256))).getD i 0 = (mailBytes h s).getD i 0 := by
    rw [List.getD_eq_getElem?_getD, List.getElem?_take, if_pos hlt, List.getD_eq_getElem?_getD]
  exact hbyte.trans (getD_mailBytes (by omega))

end sent

end Sys2Proof.Proofs
end

section
/-! O4: the messages of a head link (R71 to R74, R80, R81). -/

namespace Sys2Proof.Proofs

open Sys2Proof.Machine Sys2Proof.Laws

/-- Settles O4: each clause by the command's own lemma over the front message, the receive queue or the change of the link's state. -/
theorem linkMessages : Obligations.LinkMessages :=
  ⟨fun _ _ _ _ _ _ hi hin hty hx => completes_ack hi hin hty hx,
    fun _ _ _ _ _ hi hin hty hx => completes_ack_unfound hi hin hty hx,
    fun _ _ _ _ _ hi hin hty hq hst hok => completes_ident_kept hi hin hty hq hst hok,
    fun _ _ _ _ _ hi hin hty hq hst hok => completes_ident_broken hi hin hty hq hst hok,
    fun _ _ _ _ _ hi hin hty hq => completes_pong hi hin hty hq,
    fun _ _ _ _ _ hi hin hty hq hr => completes_pong_again hi hin hty hq hr,
    fun _ _ _ _ _ hi hin hfw hq hroom hf => completes_firmwareMessage_delivered hi hin hfw hq hroom hf,
    fun _ _ _ _ _ hi hin hfw hq hroom hf => completes_firmwareMessage_waits hi hin hfw hq hroom hf,
    fun _ _ _ _ _ hi hin hfw hq hfull => completes_firmwareMessage_refused hi hin hfw hq hfull,
    fun _ _ _ _ _ hi hin hfw hty hq => completes_unknownMessage hi hin hfw hty hq,
    fun _ _ hi hun hidle hretx => completes_messageRetransmit hi hun hidle hretx,
    fun _ _ hi hun hidle hretx => completes_msgFail hi hun hidle hretx,
    fun _ _ hi hty hlo hhi => completes_mboxSend hi hty hlo hhi,
    fun _ _ hi hq => completes_mboxRxClear_empty hi hq,
    fun _ _ _ _ hi hq => completes_mboxRxClear_next hi hq,
    fun _ _ _ hi hfull hn => completes_mboxStall hi hfull hn⟩

end Sys2Proof.Proofs
end

section
/-! SUPPORT. What a link's sent messages and its write record keep, and a head's write gate and EVENTs (R73, R78, R118, R156 to R170). -/

namespace Sys2Proof.Proofs

open Sys2Proof.Machine Sys2Proof.Laws

/-! ### Messages sent -/

section sends
variable {h : Nat} {s : State}

/-- A link but for what waits to be sent and the configurations asked for. -/
def linkUnsent (k : Link) : Link := { k with queued := [], adcCfg := none, laneCfg := none, commitSf := none }

theorem linkUnsent_sendLead (h ty : Nat) (p : List Nat) (lead : Nat) (s : State) :
    linkUnsent (linkOf (sendLead h ty p lead s) h) = linkUnsent (linkOf s h) := by
  unfold sendLead
  split
  · rw [linkOf_updLink]
    rfl
  · rfl

/-- ADC_CFG is sent while the link carries superframes (R73). -/
theorem sendAdc_framed {n fmt lead : Nat} (hlo : 3 ≤ Machine.get s (F.HL_STATUS_STATE h)) (hhi : Machine.get s (F.HL_STATUS_STATE h) ≤ 5) :
    sendAdc h n fmt lead s = updLink h (fun k => { k with adcCfg := some (n, fmt, tick s + 1 + lead) })
      (sendLead h 2 (bytesLE 2 n ++ [fmt, 0] ++ bytesLE 4 (tick s + 1 + lead)) 24 s) := if_pos ⟨hlo, hhi⟩

theorem sendAdc_unframed {n fmt lead : Nat} (hst : ¬(3 ≤ Machine.get s (F.HL_STATUS_STATE h) ∧ Machine.get s (F.HL_STATUS_STATE h) ≤ 5)) :
    sendAdc h n fmt lead s = s := if_neg hst

theorem sendLane_framed {mode lane group : Nat} (hlo : 3 ≤ Machine.get s (F.HL_STATUS_STATE h)) (hhi : Machine.get s (F.HL_STATUS_STATE h) ≤ 5) :
    sendLane h mode lane group s = updLink h (fun k => { k with laneCfg := some (mode, lane, group, tick s + 1 + 8) })
      (sendLead h 3 ([mode, lane, group, 0] ++ bytesLE 4 (tick s + 1 + 8)) 8 s) := if_pos ⟨hlo, hhi⟩

theorem sendLane_unframed {mode lane group : Nat} (hst : ¬(3 ≤ Machine.get s (F.HL_STATUS_STATE h) ∧ Machine.get s (F.HL_STATUS_STATE h) ≤ 5)) :
    sendLane h mode lane group s = s := if_neg hst

theorem atHead_sendAdc (h n fmt lead : Nat) (s : State) (fs : List Fld) : AtHead h s (sendAdc h n fmt lead s) fs := by
  by_cases hst : 3 ≤ Machine.get s (F.HL_STATUS_STATE h) ∧ Machine.get s (F.HL_STATUS_STATE h) ≤ 5
  · rw [sendAdc_framed hst.1 hst.2]
    exact (atHead_sendLead h _ _ _ s fs).trans (atHead_updLink h _ _ fs)
  · rw [sendAdc_unframed hst]
    exact AtHead.refl h s fs

theorem atHead_sendLane (h mode lane group : Nat) (s : State) (fs : List Fld) : AtHead h s (sendLane h mode lane group s) fs := by
  by_cases hst : 3 ≤ Machine.get s (F.HL_STATUS_STATE h) ∧ Machine.get s (F.HL_STATUS_STATE h) ≤ 5
  · rw [sendLane_framed hst.1 hst.2]
    exact (atHead_sendLead h _ _ _ s fs).trans (atHead_updLink h _ _ fs)
  · rw [sendLane_unframed hst]
    exact AtHead.refl h s fs

theorem linkUnsent_sendAdc (h n fmt lead : Nat) (s : State) : linkUnsent (linkOf (sendAdc h n fmt lead s) h) = linkUnsent (linkOf s h) := by
  by_cases hst : 3 ≤ Machine.get s (F.HL_STATUS_STATE h) ∧ Machine.get s (F.HL_STATUS_STATE h) ≤ 5
  · rw [sendAdc_framed hst.1 hst.2, linkOf_updLink]
    exact linkUnsent_sendLead h _ _ _ s
  · rw [sendAdc_unframed hst]

theorem linkUnsent_sendLane (h mode lane group : Nat) (s : State) :
    linkUnsent (linkOf (sendLane h mode lane group s) h) = linkUnsent (linkOf s h) := by
  by_cases hst : 3 ≤ Machine.get s (F.HL_STATUS_STATE h) ∧ Machine.get s (F.HL_STATUS_STATE h) ≤ 5
  · rw [sendLane_framed hst.1 hst.2, linkOf_updLink]
    exact linkUnsent_sendLead h _ _ _ s
  · rw [sendLane_unframed hst]

end sends

/-! ### The write record -/

section writes
variable {h i : Nat} {s : State}

@[simp] theorem writeOf_updWrite (h : Nat) (f : Write → Write) (s : State) : writeOf (updWrite h f s) h = f (writeOf s h) :=
  congrArg Head.wr (getHead_updHead_same h _ s)
@[simp] theorem writeOf_updLink (h : Nat) (f : Link → Link) (s : State) : writeOf (updLink h f s) h = writeOf s h := by
  rw [writeOf, updLink, getHead_updHead_same]
  rfl
@[simp] theorem writeOf_put (f : Fld) (v g : Nat) (s : State) : writeOf (put f v s) g = writeOf s g := rfl
@[simp] theorem writeOf_bump (f : Fld) (n g : Nat) (s : State) : writeOf (bump f n s) g = writeOf s g := rfl
@[simp] theorem writeOf_putAll (l : List (Fld × Nat)) (g : Nat) (s : State) : writeOf (putAll l s) g = writeOf s g :=
  congrArg Head.wr (getHead_putAll l g s)
@[simp] theorem writeOf_raise (e : EvReg) (i g : Nat) (s : State) : writeOf (raise e i s) g = writeOf s g :=
  congrArg Head.wr (getHead_raise e i g s)

theorem atHead_updWrite (h : Nat) (f : Write → Write) (s : State) (fs : List Fld) : AtHead h s (updWrite h f s) fs := atHead_updHead h _ s fs

theorem writeOf_sendLead (h ty : Nat) (p : List Nat) (lead : Nat) (s : State) : writeOf (sendLead h ty p lead s) h = writeOf s h := by
  unfold sendLead
  split
  · exact writeOf_updLink ..
  · rfl

theorem writeOf_sendAdc (h n fmt lead : Nat) (s : State) : writeOf (sendAdc h n fmt lead s) h = writeOf s h := by
  by_cases hst : 3 ≤ Machine.get s (F.HL_STATUS_STATE h) ∧ Machine.get s (F.HL_STATUS_STATE h) ≤ 5
  · rw [sendAdc_framed hst.1 hst.2, writeOf_updLink, writeOf_sendLead]
  · rw [sendAdc_unframed hst]

theorem writeOf_sendLane (h mode lane group : Nat) (s : State) : writeOf (sendLane h mode lane group s) h = writeOf s h := by
  by_cases hst : 3 ≤ Machine.get s (F.HL_STATUS_STATE h) ∧ Machine.get s (F.HL_STATUS_STATE h) ≤ 5
  · rw [sendLane_framed hst.1 hst.2, writeOf_updLink, writeOf_sendLead]
  · rw [sendLane_unframed hst]

/-- The chunks that go to spares join the failed ones (R157, R168). -/
theorem writeOf_spareChunks (h : Nat) (p : Chunk → Bool) (s : State) : writeOf (spareChunks h p s) h = { writeOf s h with
    failed := (writeOf s h).failed ++ (writeOf s h).chunks.filter fun c => p c && decide (c ∉ (writeOf s h).failed) } :=
  writeOf_updWrite ..

theorem atHead_spareChunks (h : Nat) (p : Chunk → Bool) (s : State) (fs : List Fld) : AtHead h s (spareChunks h p s) fs :=
  atHead_updWrite h _ s fs

theorem headEv_wrp : HeadEv (evWRP h) := ⟨by simp only [evWRP, Fld.key, F.WRP_EVT, F.EVT_LOG_HEAD]; omega, rfl⟩

end writes

/-! ### The gate -/

section gate
variable {h : Nat} {s : State}

/-- The gate is asked to close, with its bit noted and what is verified again (R168). -/
def closureNoted (h : Nat) (s : State) : State :=
  spareChunks h (touches s h (nextBit s h) (nextBit s h + 1)) (updWrite h (fun w =>
    { w with closedAt := some (nextBit s h, tick s), closeReq := false, clear := 0, recheck := w.recheck ++ verifyAgain s h }) s)

theorem execGateClosure_eq (hi : headInst s h = true) (hr : recording s h = true) (hg : Machine.get s (F.WRP_STATUS_GATE h) = 1)
    (hc : gateCause s h = true ∨ (writeOf s h).closeReq = true) : execGateClosure h s
      = .next (raise (evWRP h) B.WRP_EVT_CLOSURE (bump (F.WRP_CLOSURES h) 1 (closeGate h (closureNoted h s)))) := by
  have hgo : ¬(headInst s h = false ∨ recording s h = false ∨ isSet s (F.WRP_STATUS_GATE h) = false ∨
      (gateCause s h = false ∧ (writeOf s h).closeReq = false)) := by
    have hclose : ¬(gateCause s h = false ∧ (writeOf s h).closeReq = false) := by
      rintro ⟨h1, h2⟩
      rw [h1, h2] at hc
      exact hc.elim Bool.false_ne_true Bool.false_ne_true
    rw [hi, hr, isSet, hg]
    tauto
  rw [execGateClosure]
  dsimp only
  rw [if_neg hgo]
  simp only [decide_eq_true_eq]
  rfl

theorem gateFields_apart : ∀ h < 64, (F.WRP_STATUS_GATE h).key ∉ (F.WRP_CLOSURES h :: evFields (evWRP h)).map Fld.key ∧
    (F.WRP_CLOSURES h).key ∉ (F.WRP_STATUS_GATE h :: evFields (evWRP h)).map Fld.key ∧
    (F.WRP_UNDERRUN h).key ∉ (evFields (evWRP h)).map Fld.key := by decide +kernel

theorem completes_gateClosure (hi : headInst s h = true) (hr : recording s h = true) (hg : Machine.get s (F.WRP_STATUS_GATE h) = 1)
    (hc : gateCause s h = true ∨ (writeOf s h).closeReq = true) :
    Completes (.gateClosure h) s fun t =>
      Machine.get t (F.WRP_STATUS_GATE h) = 0 ∧ Machine.get t (F.WRP_CLOSURES h) = trunc 32 (satAdd 32 (Machine.get s (F.WRP_CLOSURES h)) 1) ∧
      Raised t (evWRP h) B.WRP_EVT_CLOSURE ∧
      writeOf t h = { writeOf s h with
        closedAt := some (nextBit s h, tick s), closeReq := false, clear := 0, shut := true, openAt := none,
        recheck := (writeOf s h).recheck ++ verifyAgain s h,
        failed := (writeOf s h).failed ++
          (writeOf s h).chunks.filter fun c => touches s h (nextBit s h) (nextBit s h + 1) c && decide (c ∉ (writeOf s h).failed) } ∧
      WithinHead h s t ([F.WRP_STATUS_GATE h, F.WRP_CLOSURES h] ++ evFields (evWRP h)) := by
  obtain ⟨hgate, hcount, -⟩ := gateFields_apart h (headInst_lt hi)
  simp only [List.map_cons, List.mem_cons, not_or] at hgate hcount
  obtain ⟨hgc, hge⟩ := hgate
  obtain ⟨hcg, hce⟩ := hcount
  have hev (u : State) {f : Fld} (hf : f.key ∉ (evFields (evWRP h)).map Fld.key) :
      Machine.get (raise (evWRP h) B.WRP_EVT_CLOSURE u) f = Machine.get u f :=
    (atHead_raise (h := h) (fs := evFields (evWRP h)) (by simp [evFields]) (by simp [evFields])).get hf
  refine completes_of_exec (execGateClosure_eq hi hr hg hc) ⟨?_, ?_, raised_raise headEv_wrp (by decide), ?_, AtHead.within ?_⟩
  · rw [hev _ hge, get_bump_ne hgc, closeGate, get_put_same]
    rfl
  · rw [hev _ hce, get_bump_same, closeGate, get_put_ne _ _ _ _ hcg]
    rfl
  · have hopen : isSet (closureNoted h s) (F.WRP_STATUS_GATE h) = true := decide_eq_true hg
    rw [writeOf_raise, writeOf_bump, closeGate, writeOf_put, writeOf_updWrite, hopen, closureNoted, writeOf_spareChunks, writeOf_updWrite,
      Bool.or_true]
  · exact AtHead.thenRaise (AtHead.thenPut (AtHead.thenPut (AtHead.thenUpd ((atHead_updWrite h _ s _).trans (atHead_spareChunks h _ _ _)) _)
      (by simp)) (by simp)) (by simp [evFields]) (by simp [evFields])

/-- The gate does not reopen before the bit at which it closed (R168). -/
theorem le_reopenBit (s : State) (h : Nat) (b p : Int) : b ≤ reopenBit s h b p := by
  have hlen : ((slotLen : Nat) : Int) = 317440 := rfl
  rw [reopenBit, hlen]
  omega

theorem completes_gateReopen {since : Nat} {b p : Int} (hi : headInst s h = true) (hr : recording s h = true)
    (hg : Machine.get s (F.WRP_STATUS_GATE h) ≠ 1) (hb : (writeOf s h).closedAt = some (b, since)) (hp : (writeOf s h).pos = some p)
    (hclear : 16 ≤ (writeOf s h).clear) (hc : gateCause s h = false) (hm : motSt s (bayOf h) = 3) :
    Completes (.gateReopen h) s fun t =>
      writeOf t h = { writeOf s h with
        closedAt := none, pos := some (placeNow s h p), openAt := some (reopenBit s h b p),
        failed := (writeOf s h).failed ++
          (writeOf s h).chunks.filter fun c => touches s h b (reopenBit s h b p) c && decide (c ∉ (writeOf s h).failed) } ∧
      b ≤ reopenBit s h b p ∧ WithinHead h s t [] := by
  have hgate : isSet s (F.WRP_STATUS_GATE h) = false := decide_eq_false hg
  have he : execGateReopen h s = .next (updWrite h (fun w =>
      { w with closedAt := none, pos := some (placeNow s h p), openAt := some (reopenBit s h b p) })
        (spareChunks h (touches s h b (reopenBit s h b p)) s)) := by
    rw [execGateReopen]
    simp only [hb, hp]
    exact if_neg (by rw [hi, hgate, hc, hr, hm]; simp; omega)
  refine completes_of_exec he ⟨?_, le_reopenBit s h b p, ((atHead_spareChunks h _ s _).trans (atHead_updWrite h _ _ _)).within⟩
  rw [writeOf_updWrite, writeOf_spareChunks]

/-- The codeword is due and not in staging: its chunk goes to a spare and the rest of it is cut (R157). -/
theorem completes_underrun {addr cw : Nat} {c : Chunk} (hi : headInst s h = true)
    (hst : Machine.get s (F.WRP_STATUS_STATE h) = 2 ∨ Machine.get s (F.WRP_STATUS_STATE h) = 4)
    (hc : ((writeOf s h).chunks.find? fun c => decide (c.addr = addr)) = some c) (hcw : cw < 9) (hfrom : (linkOf s h).ds.wrAt ≤ wordFrom s h c cw)
    (hto : wordFrom s h c cw < (linkOf s h).ds.wrAt + (linkOf s h).ds.wrBits) (hcut : mapFind (writeOf s h).cut addr = none) :
    Completes (.underrun h addr cw) s fun t =>
      c ∈ (writeOf t h).failed ∧ mapFind (writeOf t h).cut addr = some cw ∧
      Machine.get t (F.WRP_UNDERRUN h) = trunc 32 (satAdd 32 (Machine.get s (F.WRP_UNDERRUN h)) 1) ∧
      Raised t (evWRP h) B.WRP_EVT_UNDERRUN ∧ WithinHead h s t (F.WRP_UNDERRUN h :: evFields (evWRP h)) := by
  have he : execUnderrun h addr cw s = .next (raise (evWRP h) B.WRP_EVT_UNDERRUN (bump (F.WRP_UNDERRUN h) 1
      (spareChunks h (fun c => decide (c.addr = addr)) (updWrite h (fun w => { w with cut := mapPut w.cut addr cw }) s)))) := by
    rw [execUnderrun]
    simp only [hc]
    exact if_neg (by rw [hi, hcut]; simp only [Option.isSome_none, Bool.false_eq_true, or_false, Bool.true_eq_false, false_or]; omega)
  obtain ⟨-, -, hcount⟩ := gateFields_apart h (headInst_lt hi)
  refine completes_of_exec he ⟨?_, ?_, ?_, raised_raise headEv_wrp (by decide), AtHead.within ?_⟩
  · have hmem : c ∈ (writeOf s h).chunks := List.mem_of_find?_eq_some hc
    have haddr : c.addr = addr := by simpa using List.find?_some hc
    rw [writeOf_raise, writeOf_bump, writeOf_spareChunks, writeOf_updWrite]
    by_cases hf : c ∈ (writeOf s h).failed
    · exact List.mem_append_left _ hf
    · exact List.mem_append_right _ (List.mem_filter.2 ⟨hmem, by simp [haddr, hf]⟩)
  · rw [writeOf_raise, writeOf_bump, writeOf_spareChunks, writeOf_updWrite]
    exact (mapFind_put ..).trans (if_pos rfl)
  · rw [(atHead_raise (h := h) (fs := evFields (evWRP h)) (by simp [evFields]) (by simp [evFields])).get hcount, get_bump_same]
    rfl
  · exact AtHead.thenRaise (AtHead.thenPut ((atHead_updWrite h _ s _).trans (atHead_spareChunks h _ _ _)) (List.mem_cons_self ..))
      (by simp [evFields]) (by simp [evFields])

theorem completes_calForce (hi : headInst s h = true) :
    Completes (.calForce h) s fun t => writeOf t h = { writeOf s h with force := true } ∧ WithinHead h s t [] :=
  completes_of_exec (if_neg (by simp [hi])) ⟨writeOf_updWrite .., (atHead_updWrite h _ s _).within⟩

/-- Every counter of a list that CLR_CNT clears reads 0 (R82, R172). -/
theorem get_clearAll {fs : List Fld} {f : Fld} (hn : (fs.map Fld.key).Nodup) (hf : f ∈ fs) (s : State) : Machine.get (clearAll fs s) f = 0 := by
  have hn' : ((fs.map fun f => (f, 0)).map fun p => p.1.key).Nodup := by rw [List.map_map]; exact hn
  exact (get_putAll_mem hn' (List.mem_map_of_mem (f := fun f => (f, 0)) hf)).trans (Nat.zero_mod _)

theorem within_clearAll (fs : List Fld) (s : State) : Within s (clearAll fs s) fs :=
  within_putAll (within_refl s fs) fun p hp => by
    obtain ⟨f, hf, rfl⟩ := List.mem_map.1 hp
    exact List.mem_map_of_mem hf

/-- The counters of the write path (R172). -/
def wrpCounts (h : Nat) : List Fld :=
  [F.WRP_CHUNKS h, F.WRP_VFY_FAIL h, F.WRP_UNDERRUN h, F.WRP_CLOSURES h, F.WRP_POS_FAULT h, F.WRP_SPARES h, F.WRP_SPARE_NONE h,
    F.WRP_CAL_PASS h, F.WRP_CAL_FALLBACK h, F.WRP_DAMAGED h, F.WRP_POS_ERR_PEAK h]

theorem completes_wrpClrCnt (hi : headInst s h = true) :
    Completes (.wrpClrCnt h) s fun t => (∀ f ∈ wrpCounts h, Machine.get t f = 0) ∧ Within s t (wrpCounts h) :=
  have hn : ∀ h < 64, ((wrpCounts h).map Fld.key).Nodup := by decide +kernel
  completes_of_exec (if_neg (by simp [hi])) ⟨fun _ hf => get_clearAll (hn h (headInst_lt hi)) hf s, within_clearAll (wrpCounts h) s⟩

end gate

/-! ### A head's EVENT -/

section events
variable {h : Nat} {s : State} {m : Msg}

theorem headInst_of_frontMsg {p : Nat → Bool} (hm : frontMsg s h p = some m) : headInst s h = true := by
  unfold frontMsg at hm
  split at hm
  · cases hm
  · split at hm
    next hi => exact (Bool.and_eq_true_iff.1 hi).1
    next => cases hm

/-- An EVENT's record: code, detail, count and flag (R73). -/
def eventNoted (h : Nat) (m : Msg) (s : State) : State :=
  raise (evHL h) B.HL_EVT_HEAD_EVENT (putAll [(F.HL_HEAD_EVT_CODE h, m.payload.getD 0 0), (F.HL_HEAD_EVT_DETAIL h, m.payload.getD 1 0)]
    (bump (F.HL_HEAD_EVT_COUNT h) 1 s))

/-- The bit from which a FIFO underrun loses what was recorded (R157). -/
def lostFrom (h : Nat) (m : Msg) (s : State) : Int :=
  bitNow (writeOf s h) - (((tick s + 65536 - ofBytesLE ((m.payload.drop 2).take 2)) % 65536 + 1) * (62 * (12 + (writeOf s h).fret) + 2) : Nat)

/-- A late configuration is sent again: the ADC's before the lane map's before the pulse table's (R75, R118). -/
def reissued (h : Nat) (s : State) : State :=
  match (linkOf s h).adcCfg, (linkOf s h).laneCfg, (linkOf s h).commitSf with
  | some (n, fmt, _), _, _ => raiseCH h B.CH_EVT_RATE_LATE (bump (F.CH_RATE_LATE h) 1 (sendAdc h n fmt 24 s))
  | none, some (mode, lane, group, _), _ => sendLane h mode lane group s
  | none, none, some _ =>
    updLink h (fun k => { k with commitSf := some (tick s + 9) }) (sendLead h 5 ([0, 0, 0, 0] ++ bytesLE 4 (tick s + 9)) 8 s)
  | none, none, none => s

/-- What follows an EVENT that has been recorded (R73, R78, R118, R157). -/
def eventActed (h : Nat) (m : Msg) (s : State) : State :=
  if m.payload.getD 0 0 = 1 ∨ m.payload.getD 0 0 = 2 then bump (F.HL_DS_ERR h) 1 (eventNoted h m s)
  else if m.payload.getD 0 0 = 3 then
    if recording s h = true ∧ (writeOf s h).pos ≠ none then spareChunks h (touches s h (lostFrom h m s) (nextBit s h)) (eventNoted h m s)
    else eventNoted h m s
  else if m.payload.getD 0 0 = 7 then reissued h (eventNoted h m s)
  else eventNoted h m s

theorem execEvent_eq (hm : frontMsg s h (fun ty => decide (ty = 0x82)) = some m) : execEvent h s = .next (takeMsg h m (eventActed h m) s) := by
  rw [execEvent, hm]
  rfl

/-- The fields of an EVENT's record (R73). -/
def eventFields (h : Nat) : List Fld := [F.HL_HEAD_EVT_CODE h, F.HL_HEAD_EVT_DETAIL h, F.HL_HEAD_EVT_COUNT h] ++ evFields (evHL h)

/-- What an EVENT's action writes beside its record (R78, R118). -/
def actFields (h : Nat) : List Fld := F.HL_DS_ERR h :: F.CH_RATE_LATE h :: evFields (evCH h)

theorem eventFields_apart : ∀ h < 64, (∀ f ∈ [F.HL_HEAD_EVT_CODE h, F.HL_HEAD_EVT_DETAIL h, (evHL h).evt], f.key ∉ (actFields h).map Fld.key) ∧
    (∀ f ∈ [F.HL_DS_ERR h, F.CH_RATE_LATE h], f.key ∉ (eventFields h).map Fld.key) ∧
    (∀ f ∈ [F.HL_HEAD_EVT_CODE h, F.HL_HEAD_EVT_DETAIL h], f.key ∉ (evFields (evHL h)).map Fld.key) ∧
    (F.HL_HEAD_EVT_CODE h).key ≠ (F.HL_HEAD_EVT_DETAIL h).key ∧ (F.CH_RATE_LATE h).key ∉ (evFields (evCH h)).map Fld.key := by decide +kernel

theorem atHead_eventNoted (h : Nat) (m : Msg) (s : State) : AtHead h s (eventNoted h m s) (eventFields h) :=
  AtHead.thenRaise (AtHead.trans (atHead_bump (by simp [eventFields])) (atHead_putAll (by simp [eventFields])))
    (by simp [eventFields, evFields]) (by simp [eventFields, evFields])

theorem linkOf_eventNoted (h : Nat) (m : Msg) (s : State) (g : Nat) : linkOf (eventNoted h m s) g = linkOf s g := by
  rw [eventNoted, linkOf_raise, linkOf_putAll, linkOf_bump]

theorem writeOf_eventNoted (h : Nat) (m : Msg) (s : State) (g : Nat) : writeOf (eventNoted h m s) g = writeOf s g := by
  rw [eventNoted, writeOf_raise, writeOf_putAll, writeOf_bump]

theorem get_eventNoted (hh : h < 64) (m : Msg) (s : State) :
    Machine.get (eventNoted h m s) (F.HL_HEAD_EVT_CODE h) = trunc 8 (m.payload.getD 0 0) ∧
      Machine.get (eventNoted h m s) (F.HL_HEAD_EVT_DETAIL h) = trunc 8 (m.payload.getD 1 0) := by
  obtain ⟨-, -, hev, hne, -⟩ := eventFields_apart h hh
  have hget (u : State) {f : Fld} (hf : f ∈ [F.HL_HEAD_EVT_CODE h, F.HL_HEAD_EVT_DETAIL h]) :
      Machine.get (raise (evHL h) B.HL_EVT_HEAD_EVENT u) f = Machine.get u f :=
    (atHead_raise (h := h) (fs := evFields (evHL h)) (by simp [evFields]) (by simp [evFields])).get (hev f hf)
  constructor
  · rw [eventNoted, hget _ (by simp)]
    exact (get_put_ne _ _ _ _ hne).trans (get_put_same ..)
  · rw [eventNoted, hget _ (by simp)]
    exact get_put_same ..

/-- The three ways in which a late configuration is sent again, and the case without one. -/
theorem reissued_cases (h : Nat) (s : State) :
    (∃ n fmt, (linkOf s h).adcCfg ≠ none ∧ reissued h s = raiseCH h B.CH_EVT_RATE_LATE (bump (F.CH_RATE_LATE h) 1 (sendAdc h n fmt 24 s))) ∨
    ((linkOf s h).adcCfg = none ∧ ((∃ mode lane group, reissued h s = sendLane h mode lane group s) ∨
      reissued h s = updLink h (fun k => { k with commitSf := some (tick s + 9) }) (sendLead h 5 ([0, 0, 0, 0] ++ bytesLE 4 (tick s + 9)) 8 s) ∨
      reissued h s = s)) := by
  unfold reissued
  split
  next n fmt sf ha => exact .inl ⟨n, fmt, by simp [ha], rfl⟩
  next ha _ => exact .inr ⟨ha, .inl ⟨_, _, _, rfl⟩⟩
  next ha _ _ => exact .inr ⟨ha, .inr (.inl rfl)⟩
  next ha _ _ => exact .inr ⟨ha, .inr (.inr rfl)⟩

theorem atHead_reissued (h : Nat) (s : State) : AtHead h s (reissued h s) (actFields h) := by
  rcases reissued_cases h s with ⟨n, fmt, -, e⟩ | ⟨-, ⟨mode, lane, group, e⟩ | e | e⟩ <;> rw [e]
  · exact ((atHead_sendAdc h n fmt 24 s _).thenPut (by simp [actFields])).thenRaise (by simp [actFields, evFields]) (by simp [actFields, evFields])
  · exact atHead_sendLane h mode lane group s _
  · exact (atHead_sendLead h _ _ _ s _).trans (atHead_updLink h _ _ _)
  · exact AtHead.refl h s _

theorem linkUnsent_reissued (h : Nat) (s : State) : linkUnsent (linkOf (reissued h s) h) = linkUnsent (linkOf s h) := by
  rcases reissued_cases h s with ⟨n, fmt, -, e⟩ | ⟨-, ⟨mode, lane, group, e⟩ | e | e⟩ <;> rw [e]
  · rw [raiseCH, linkOf_raise, linkOf_bump, linkUnsent_sendAdc]
  · exact linkUnsent_sendLane h mode lane group s
  · rw [linkOf_updLink]
    exact linkUnsent_sendLead h _ _ _ s

theorem writeOf_reissued (h : Nat) (s : State) : writeOf (reissued h s) h = writeOf s h := by
  rcases reissued_cases h s with ⟨n, fmt, -, e⟩ | ⟨-, ⟨mode, lane, group, e⟩ | e | e⟩ <;> rw [e]
  · rw [raiseCH, writeOf_raise, writeOf_bump, writeOf_sendAdc]
  · exact writeOf_sendLane h mode lane group s
  · rw [writeOf_updLink, writeOf_sendLead]

theorem atHead_eventActed (h : Nat) (m : Msg) (s : State) : AtHead h (eventNoted h m s) (eventActed h m s) (actFields h) := by
  unfold eventActed
  split_ifs
  · exact atHead_bump (List.mem_cons_self ..)
  · exact atHead_spareChunks h _ _ _
  · exact AtHead.refl h _ _
  · exact atHead_reissued h _
  · exact AtHead.refl h _ _

theorem linkUnsent_eventActed (h : Nat) (m : Msg) (s : State) : linkUnsent (linkOf (eventActed h m s) h) = linkUnsent (linkOf s h) := by
  unfold eventActed
  split_ifs
  · rw [linkOf_bump, linkOf_eventNoted]
  · rw [spareChunks, linkOf_updWrite, linkOf_eventNoted]
  · rw [linkOf_eventNoted]
  · rw [linkUnsent_reissued, linkOf_eventNoted]
  · rw [linkOf_eventNoted]

theorem writeOf_eventActed (hcode : m.payload.getD 0 0 ≠ 3) (s : State) : writeOf (eventActed h m s) h = writeOf s h := by
  unfold eventActed
  rw [if_neg hcode]
  split_ifs
  · rw [writeOf_bump, writeOf_eventNoted]
  · rw [writeOf_reissued, writeOf_eventNoted]
  · rw [writeOf_eventNoted]

/-- A lost downstream codeword is counted (R78). -/
theorem get_eventActed_lost (hh : h < 64) (hcode : m.payload.getD 0 0 = 1 ∨ m.payload.getD 0 0 = 2) (s : State) :
    Machine.get (eventActed h m s) (F.HL_DS_ERR h) = trunc 32 (satAdd 32 (Machine.get s (F.HL_DS_ERR h)) 1) := by
  obtain ⟨-, hcount, -⟩ := eventFields_apart h hh
  rw [eventActed, if_pos hcode, get_bump_same, (atHead_eventNoted h m s).get (hcount _ (by simp))]
  rfl

/-- A late ADC_CFG is counted and raised (R118). -/
theorem eventActed_late (hh : h < 64) (hcode : m.payload.getD 0 0 = 7) (ha : (linkOf s h).adcCfg ≠ none) :
    Raised (eventActed h m s) (evCH h) B.CH_EVT_RATE_LATE ∧
      Machine.get (eventActed h m s) (F.CH_RATE_LATE h) = trunc 32 (satAdd 32 (Machine.get s (F.CH_RATE_LATE h)) 1) := by
  obtain ⟨-, hcount, -, -, hch⟩ := eventFields_apart h hh
  rw [eventActed, if_neg (by omega), if_neg (by omega), if_pos hcode]
  rcases reissued_cases h (eventNoted h m s) with ⟨n, fmt, -, e⟩ | ⟨hn, -⟩
  · rw [e, raiseCH]
    refine ⟨raised_raise headEv_ch (by decide), ?_⟩
    rw [(atHead_raise (h := h) (fs := evFields (evCH h)) (by simp [evFields]) (by simp [evFields])).get hch, get_bump_same,
      (atHead_sendAdc h n fmt 24 _ []).get (by simp), (atHead_eventNoted h m s).get (hcount _ (by simp))]
    rfl
  · exact absurd (linkOf_eventNoted h m s h ▸ hn) ha

/-- Without a FIFO underrun and a late configuration only the record and the count of lost codewords change (R73, R78). -/
theorem eventActed_plain (h3 : m.payload.getD 0 0 ≠ 3) (h7 : m.payload.getD 0 0 ≠ 7) :
    linkOf (eventActed h m s) h = linkOf s h ∧ AtHead h s (eventActed h m s)
      ([F.HL_HEAD_EVT_CODE h, F.HL_HEAD_EVT_DETAIL h, F.HL_HEAD_EVT_COUNT h, F.HL_DS_ERR h] ++ evFields (evHL h)) := by
  have hnoted := (atHead_eventNoted h m s).mono (gs := [F.HL_HEAD_EVT_CODE h, F.HL_HEAD_EVT_DETAIL h, F.HL_HEAD_EVT_COUNT h, F.HL_DS_ERR h]
    ++ evFields (evHL h)) (by simp [eventFields, evFields])
  unfold eventActed
  rw [if_neg h3, if_neg h7]
  split_ifs
  · exact ⟨by rw [linkOf_bump, linkOf_eventNoted], hnoted.thenPut (by simp)⟩
  · exact ⟨linkOf_eventNoted .., hnoted⟩

theorem linkOf_msgAccepted_drop (h : Nat) (m : Msg) (s : State) : linkOf (msgAccepted h m s) h = { linkOf s h with
    inbox := (linkOf s h).inbox.drop 1, rxSeq := ((linkOf s h).rxSeq + 1) % 256, ackDue := some m.seq } := by
  rw [msgAccepted, linkOf_updLink, msgTaken, linkOf_updLink]

theorem completes_event (hm : frontMsg s h (fun ty => decide (ty = 0x82)) = some m) (hq : m.seq = (linkOf s h).rxSeq) :
    Completes (.event h) s fun t =>
      Machine.get t (F.HL_HEAD_EVT_CODE h) = trunc 8 (m.payload.getD 0 0) ∧ Machine.get t (F.HL_HEAD_EVT_DETAIL h) = trunc 8 (m.payload.getD 1 0) ∧
      Raised t (evHL h) B.HL_EVT_HEAD_EVENT ∧ (linkOf t h).rxSeq = ((linkOf s h).rxSeq + 1) % 256 ∧ (linkOf t h).ackDue = some m.seq ∧
      (m.payload.getD 0 0 = 1 ∨ m.payload.getD 0 0 = 2 →
        Machine.get t (F.HL_DS_ERR h) = trunc 32 (satAdd 32 (Machine.get s (F.HL_DS_ERR h)) 1)) ∧
      (m.payload.getD 0 0 = 7 → (linkOf s h).adcCfg ≠ none → Raised t (evCH h) B.CH_EVT_RATE_LATE ∧
        Machine.get t (F.CH_RATE_LATE h) = trunc 32 (satAdd 32 (Machine.get s (F.CH_RATE_LATE h)) 1)) ∧
      (m.payload.getD 0 0 ≠ 3 → writeOf t h = writeOf s h) ∧
      (m.payload.getD 0 0 ≠ 3 → m.payload.getD 0 0 ≠ 7 →
        linkOf t h = { linkOf s h with
          inbox := (linkOf s h).inbox.drop 1, rxSeq := ((linkOf s h).rxSeq + 1) % 256, ackDue := some m.seq } ∧
        WithinHead h s t ([F.HL_HEAD_EVT_CODE h, F.HL_HEAD_EVT_DETAIL h, F.HL_HEAD_EVT_COUNT h, F.HL_DS_ERR h] ++ evFields (evHL h))) := by
  have hh := headInst_lt (headInst_of_frontMsg hm)
  obtain ⟨hrecord, -⟩ := eventFields_apart h hh
  have hact := atHead_eventActed h m (msgAccepted h m s)
  have hcore := linkUnsent_eventActed h m (msgAccepted h m s)
  have hlink := linkOf_msgAccepted_drop h m s
  obtain ⟨hcode, hdetail⟩ := get_eventNoted hh m (msgAccepted h m s)
  refine completes_of_exec ((execEvent_eq hm).trans (congrArg _ (takeMsg_accepted hq)))
    ⟨?_, ?_, ?_, ?_, ?_, fun hc => get_eventActed_lost hh hc _, fun hc ha => eventActed_late hh hc ?_, fun h3 => ?_, fun h3 h7 => ?_⟩
  · rw [hact.get (hrecord _ (by simp)), hcode]
  · rw [hact.get (hrecord _ (by simp)), hdetail]
  · exact raised_of_get (hact.get (hrecord _ (by simp))) (raised_raise headEv_hl (by decide))
  · exact (congrArg Link.rxSeq hcore).trans (congrArg Link.rxSeq hlink)
  · exact (congrArg Link.ackDue hcore).trans (congrArg Link.ackDue hlink)
  · rw [hlink]
    exact ha
  · rw [writeOf_eventActed h3, msgAccepted, writeOf_updLink, msgTaken, writeOf_updLink]
  · obtain ⟨hkept, hframe⟩ := eventActed_plain (s := msgAccepted h m s) h3 h7
    exact ⟨hkept.trans hlink, ((atHead_msgAccepted h m s _).trans hframe).within⟩

/-- An EVENT out of sequence is discarded, and acknowledged again where it is one of the previous 32 (R72). -/
theorem completes_event_discarded (hm : frontMsg s h (fun ty => decide (ty = 0x82)) = some m) (hq : m.seq ≠ (linkOf s h).rxSeq) :
    Completes (.event h) s fun t =>
      linkOf t h = { linkOf s h with
        inbox := (linkOf s h).inbox.drop 1,
        ackDue := if ((linkOf s h).rxSeq + 256 - m.seq % 256) % 256 ≤ 32 then some (((linkOf s h).rxSeq + 255) % 256) else (linkOf s h).ackDue } ∧
      WithinHead h s t [] := by
  by_cases hr : ((linkOf s h).rxSeq + 256 - m.seq % 256) % 256 ≤ 32
  · refine completes_of_exec ((execEvent_eq hm).trans (congrArg _ (takeMsg_again hq hr))) ⟨?_, AtHead.within ?_⟩
    · rw [linkOf_updLink, msgTaken, linkOf_updLink, if_pos hr]
    · exact (atHead_msgTaken h s []).trans (atHead_updLink h _ _ [])
  · have he : takeMsg h m (eventActed h m) s = msgTaken h s := (if_neg hq).trans (if_neg hr)
    refine completes_of_exec ((execEvent_eq hm).trans (congrArg _ he)) ⟨?_, (atHead_msgTaken h s []).within⟩
    rw [msgTaken, linkOf_updLink, if_neg hr]

end events

end Sys2Proof.Proofs
end

section
/-! O18: the write gate and the events of a head (R73, R118, R156 to R172). -/

namespace Sys2Proof.Proofs

open Sys2Proof.Machine Sys2Proof.Laws

/-- Settles O18: each clause by the command's own lemma over the write record, the gate and the record of an EVENT. -/
theorem writeGateAndEvents : Obligations.WriteGateAndEvents :=
  ⟨fun _ _ hi hr hg hc => completes_gateClosure hi hr hg hc,
    fun _ _ _ _ _ hi hr hg hb hp hclear hc hm => completes_gateReopen hi hr hg hb hp hclear hc hm,
    fun _ _ _ _ _ hi hst hc hcw hfrom hto hcut => completes_underrun hi hst hc hcw hfrom hto hcut,
    fun _ _ hi => completes_calForce hi,
    fun _ _ hi => completes_wrpClrCnt hi,
    fun _ _ _ hm hq => completes_event hm hq,
    fun _ _ _ hm hq => completes_event_discarded hm hq⟩

end Sys2Proof.Proofs
end

section
/-! SUPPORT. A head link's controls, its training and its lanes (R62, R75 to R77, R82, R178). -/

namespace Sys2Proof.Proofs

open Sys2Proof.Machine Sys2Proof.Laws

/-! ### Recovery windows -/

section windows
variable {kind inst outcome src : Nat} {s : State} {f : Fld}

theorem closeWindow_cases (kind inst outcome : Nat) (s : State) : closeWindow kind inst outcome s = s ∨
    ∃ ws fl, closeWindow kind inst outcome s
      = put F.EVT_FW_OPEN_NOW (Machine.get s F.EVT_FW_OPEN_NOW - 1) { s with windows := ws, faultLog := fl } := by
  unfold closeWindow
  split
  · exact .inl rfl
  · exact .inr ⟨_, _, rfl⟩

theorem closeWindow_of_none (hw : s.windows = []) : closeWindow kind inst outcome s = s := by
  rw [closeWindow, hw]
  rfl

theorem get_closeWindow (hf : f.key ≠ F.EVT_FW_OPEN_NOW.key) : Machine.get (closeWindow kind inst outcome s) f = Machine.get s f := by
  rcases closeWindow_cases kind inst outcome s with e | ⟨ws, fl, e⟩ <;> rw [e]
  exact get_put_ne _ _ _ _ hf

@[simp] theorem linkOf_closeWindow (kind inst outcome : Nat) (s : State) (h : Nat) :
    linkOf (closeWindow kind inst outcome s) h = linkOf s h := by
  rcases closeWindow_cases kind inst outcome s with e | ⟨ws, fl, e⟩ <;> rw [e]
  rfl

@[simp] theorem inForce_closeWindow (kind inst outcome : Nat) (s : State) (f : Fld) :
    inForce (closeWindow kind inst outcome s) f = inForce s f := by
  rcases closeWindow_cases kind inst outcome s with e | ⟨ws, fl, e⟩ <;> rw [e]
  rfl

theorem get_openWindow (hnow : f.key ≠ F.EVT_FW_OPEN_NOW.key) (htotal : f.key ≠ F.EVT_FW_OPEN_TOTAL.key) :
    Machine.get (openWindow kind inst src s) f = Machine.get s f :=
  (get_bump_ne htotal).trans (get_bump_ne hnow)

@[simp] theorem get_unexposed (kind inst : Nat) (s : State) (f : Fld) : Machine.get (unexpose kind inst s) f = Machine.get s f := rfl
@[simp] theorem linkOf_unexposed (kind inst : Nat) (s : State) (h : Nat) : linkOf (unexpose kind inst s) h = linkOf s h := rfl
@[simp] theorem linkOf_openWindow (kind inst src : Nat) (s : State) (h : Nat) : linkOf (openWindow kind inst src s) h = linkOf s h := rfl

end windows

/-! ### Controls -/

section controls
variable {h v : Nat} {s : State} {f : Fld}

/-- Fields of a link's control word, of the time base and of the reset cause that no change of the link's state writes. -/
theorem controls_apart : ∀ h < 64,
    (∀ f ∈ [F.HL_CTRL_EN h, F.PWR_RESET_CAUSE_KIND, F.HL_SF_CNT h, F.HL_SKEW h, F.CLK_TICK, F.HL_ADC_N h, F.HL_ADC_FMT h, F.SV_CTRL_EN h,
      F.SV_STATUS_STATE h], f.key ∉ (linkFields h).map Fld.key) ∧
    (∀ f ∈ [F.HL_CTRL_EN h, F.PWR_RESET_CAUSE_KIND], f.key ∉ (linkSideFields h).map Fld.key) ∧
    (∀ f ∈ [F.HL_CTRL_EN h, F.HL_CTRL_DEGR_GROUP h, F.PWR_RESET_CAUSE_KIND, F.HL_SF_CNT h, F.HL_SKEW h, F.HL_ADC_N h, F.HL_ADC_FMT h],
      (F.HL_STATUS_STATE h).key ≠ f.key ∧ F.CLK_TICK.key ≠ f.key) ∧
    (F.HL_CTRL_LASER_PERMIT h).key ∉ (permitFields h).map Fld.key := by decide +kernel

theorem get_setLink_control (hh : h < 64) (hf : f ∈ [F.HL_CTRL_EN h, F.PWR_RESET_CAUSE_KIND]) (st : Nat) (s : State) :
    Machine.get (setLink h st s) f = Machine.get s f := by
  obtain ⟨hlink, hside, -⟩ := controls_apart h hh
  refine (atHead_setLink_any h st s).get ?_
  rw [List.map_append, List.mem_append, not_or]
  exact ⟨hlink f (by simp only [List.mem_cons, List.not_mem_nil, or_false] at hf ⊢; tauto), hside f hf⟩

/-- EN 0 turns the link off (R82). -/
theorem completes_hlEnable_off {en : Nat} (hi : headInst s h = true) (hen : en % 2 = 0) :
    Completes (.hlEnable h en) s fun t =>
      Machine.get t (F.HL_CTRL_EN h) = 0 ∧ Machine.get t (F.HL_STATUS_STATE h) = 0 ∧
      (Machine.get s (F.HL_STATUS_STATE h) ≠ 5 → WithinHead h s t (F.HL_CTRL_EN h :: linkFields h)) := by
  have hh := headInst_lt hi
  obtain ⟨-, -, hstate, -⟩ := controls_apart h hh
  refine completes_of_exec ((if_neg (by simp [hi])).trans (if_pos hen)) ⟨?_, get_setLink_state hh 0 _, fun hne => AtHead.within ?_⟩
  · rw [get_setLink_control hh (by simp), get_put_same]
    exact hen
  · refine (atHead_put (List.mem_cons_self ..)).trans ((atHead_setLink (.inl ?_)).mono (List.subset_cons_self ..))
    rwa [get_put_ne _ _ _ _ (hstate _ (by simp)).1]

/-- EN 1 only permits training (R82). -/
theorem completes_hlEnable_on {en : Nat} (hi : headInst s h = true) (hen : en % 2 = 1) :
    Completes (.hlEnable h en) s fun t => Machine.get t (F.HL_CTRL_EN h) = 1 ∧ Within s t [F.HL_CTRL_EN h] :=
  completes_of_exec ((if_neg (by simp [hi])).trans (if_neg (by omega)))
    ⟨(get_put_same ..).trans hen, within_put (within_refl s _) (List.mem_cons_self ..)⟩

/-- TRAIN starts the search for a link (R75, R82). -/
theorem completes_hlTrain (hi : headInst s h = true) (hen : Machine.get s (F.HL_CTRL_EN h) ≠ 0) :
    Completes (.hlTrain h) s fun t =>
      Machine.get t (F.HL_STATUS_STATE h) = 1 ∧ (linkOf t h).fails = 0 ∧ Machine.get t F.PWR_RESET_CAUSE_KIND = 6 ∧
      (Machine.get s (F.HL_STATUS_STATE h) ≠ 5 → WithinHead h s t (F.PWR_RESET_CAUSE_KIND :: linkFields h)) := by
  have hh := headInst_lt hi
  obtain ⟨-, -, hstate, -⟩ := controls_apart h hh
  refine completes_of_exec (if_neg (by simp [hi, hen])) ⟨get_setLink_state hh 1 _, ?_, ?_, fun hne => AtHead.within ?_⟩
  · rw [linkOf_setLink, linkEntered, linkOf_updLink]
    rfl
  · rw [get_setLink_control hh (by simp), get_updLink]
    exact get_put_same ..
  · refine (AtHead.trans (atHead_put (List.mem_cons_self ..)) (atHead_updLink h _ _ _)).trans
      ((atHead_setLink (.inl ?_)).mono (List.subset_cons_self ..))
    rwa [get_updLink, get_put_ne _ _ _ _ (hstate _ (by simp)).1]

/-- The write permit as the judgment of the permits reports it (R153). -/
theorem get_permits_write (h : Nat) (s : State) :
    Machine.get (permits h s) (F.WRP_STATUS_WRITE_PERMIT h) = if writePermit s h = true then 1 else 0 := by
  have hread : (F.WRP_STATUS_WRITE_PERMIT h).key ≠ (F.CH_STATUS_READ_PERMIT h).key := by
    simp only [Fld.key, F.WRP_STATUS_WRITE_PERMIT, F.CH_STATUS_READ_PERMIT]
    omega
  have htrack : (F.WRP_STATUS_WRITE_PERMIT h).key ≠ (F.SV_STATUS_ON_TRACK h).key := by
    simp only [Fld.key, F.WRP_STATUS_WRITE_PERMIT, F.SV_STATUS_ON_TRACK]
    omega
  rw [permits, putB, get_put_ne _ _ _ _ htrack, putB, get_put_ne _ _ _ _ hread, putB, get_put_same]
  split <;> rfl

theorem completes_laserPermit_off (hi : headInst s h = true) (hv : v % 2 = 0) :
    Completes (.laserPermit h v) s fun t =>
      Machine.get t (F.HL_CTRL_LASER_PERMIT h) = 0 ∧ (linkOf t h).laser = 0 ∧ Machine.get t (F.WRP_STATUS_WRITE_PERMIT h) = 0 ∧
      WithinHead h s t [F.HL_CTRL_LASER_PERMIT h, F.SV_STATUS_ON_TRACK h, F.CH_STATUS_READ_PERMIT h, F.WRP_STATUS_WRITE_PERMIT h] := by
  obtain ⟨-, -, -, hpermit⟩ := controls_apart h (headInst_lt hi)
  have hzero : Machine.get (put (F.HL_CTRL_LASER_PERMIT h) v s) (F.HL_CTRL_LASER_PERMIT h) = 0 := (get_put_same ..).trans hv
  refine completes_of_exec ((if_neg (by simp [hi])).trans (congrArg (fun u => Host.Outcome.next (permits h u)) (if_pos hv)))
    ⟨?_, ?_, ?_, AtHead.within ?_⟩
  · rw [(atHead_permits h _).get hpermit, get_updLink]
    exact hzero
  · rw [linkOf_permits, linkOf_updLink]
  · have hno : isSet (updLink h (fun k => { k with laser := 0, ds := { k.ds with laser := 0 } }) (put (F.HL_CTRL_LASER_PERMIT h) v s))
        (F.HL_CTRL_LASER_PERMIT h) = false := by simp [isSet, hzero]
    rw [get_permits_write, writePermit, hno]
    simp
  · exact ((atHead_put (List.mem_cons_self ..)).trans (atHead_updLink h _ _ _)).trans ((atHead_permits h _).mono (by simp [permitFields]))

theorem within_permits {fs : List Fld} (hs : permitFields h ⊆ fs) (s : State) : Within s (permits h s) fs := by
  have hm {f : Fld} (hf : f ∈ permitFields h) : f.key ∈ fs.map Fld.key := List.mem_map_of_mem (hs hf)
  exact within_put (within_put (within_put (within_refl s _) (hm (by simp [permitFields]))) (hm (by simp [permitFields])))
    (hm (by simp [permitFields]))

theorem completes_laserPermit_on (hi : headInst s h = true) (hv : v % 2 = 1) :
    Completes (.laserPermit h v) s fun t =>
      Machine.get t (F.HL_CTRL_LASER_PERMIT h) = 1 ∧
      Within s t [F.HL_CTRL_LASER_PERMIT h, F.SV_STATUS_ON_TRACK h, F.CH_STATUS_READ_PERMIT h, F.WRP_STATUS_WRITE_PERMIT h] := by
  obtain ⟨-, -, -, hpermit⟩ := controls_apart h (headInst_lt hi)
  refine completes_of_exec ((if_neg (by simp [hi])).trans (congrArg (fun u => Host.Outcome.next (permits h u)) (if_neg (by omega))))
    ⟨?_, within_trans (within_put (within_refl s _) (by simp)) (within_permits (by simp [permitFields]) _)⟩
  rw [(atHead_permits h _).get hpermit, get_put_same]
  exact hv

/-- The counters of a head link (R82). -/
def linkCounts (h : Nat) : List Fld :=
  [F.HL_DS_ERR h, F.HL_SERVO_CNT_MISS h, F.HL_SERVO_CNT_MISMATCH h, F.HL_LAT_PEAK h, F.HL_MSG_STAT_RETX h,
    F.HL_MSG_STAT_UNKNOWN h, F.HL_HEAD_EVT_COUNT h] ++ (List.range 4).map (F.HL_CORR_SYM h) ++ (List.range 4).map (F.HL_UNCORR h)

theorem completes_hlClrCnt (hi : headInst s h = true) :
    Completes (.hlClrCnt h) s fun t => (∀ f ∈ linkCounts h, Machine.get t f = 0) ∧ Within s t (linkCounts h) :=
  have hn : ∀ h < 64, ((linkCounts h).map Fld.key).Nodup := by decide +kernel
  completes_of_exec (if_neg (by simp [hi])) ⟨fun _ hf => get_clearAll (hn h (headInst_lt hi)) hf s, within_clearAll (linkCounts h) s⟩

/-- In the degraded map the written group is sent as LANE_CFG; in the normal map nothing is (R82). -/
theorem completes_degrGroup {g : Nat} (hi : headInst s h = true) :
    Completes (.degrGroup h g) s fun t =>
      Machine.get t (F.HL_CTRL_DEGR_GROUP h) = g % 4 ∧
      (Machine.get s (F.HL_STATUS_DEGRADED h) ≠ 1 → Within s t [F.HL_CTRL_DEGR_GROUP h]) ∧
      (Machine.get s (F.HL_STATUS_DEGRADED h) = 1 → Machine.get s (F.HL_STATUS_STATE h) = 5 →
        (linkOf t h).laneCfg = some (1, Machine.get s (F.HL_STATUS_FAILED_LANE h), g % 4, tick s + 9)) ∧
      WithinHead h s t [F.HL_CTRL_DEGR_GROUP h] := by
  obtain ⟨-, -, hstate, -⟩ := controls_apart h (headInst_lt hi)
  obtain ⟨hst, htick⟩ := hstate (F.HL_CTRL_DEGR_GROUP h) (by simp)
  have hput : AtHead h s (put (F.HL_CTRL_DEGR_GROUP h) g s) [F.HL_CTRL_DEGR_GROUP h] := atHead_put (List.mem_cons_self ..)
  by_cases hd : Machine.get s (F.HL_STATUS_DEGRADED h) = 1
  · have hset : isSet s (F.HL_STATUS_DEGRADED h) = true := decide_eq_true hd
    have hsend := atHead_sendLane h 1 (Machine.get s (F.HL_STATUS_FAILED_LANE h)) (g % 4) (put (F.HL_CTRL_DEGR_GROUP h) g s)
      [F.HL_CTRL_DEGR_GROUP h]
    refine completes_of_exec ((if_neg (by simp [hi])).trans (if_pos hset)) ⟨?_, fun hno => absurd hd hno, fun _ h5 => ?_, (hput.trans hsend).within⟩
    · rw [(atHead_sendLane h _ _ _ _ []).get (by simp), get_put_same]
      rfl
    · rw [sendLane_framed (by rw [get_put_ne _ _ _ _ hst, h5]; decide) (by rw [get_put_ne _ _ _ _ hst, h5]), linkOf_updLink, tick,
        get_put_ne _ _ _ _ htick]
      rfl
  · have hset : ¬(isSet s (F.HL_STATUS_DEGRADED h) = true) := by simp [isSet, hd]
    exact completes_of_exec ((if_neg (by simp [hi])).trans (if_neg hset)) ⟨get_put_same .., fun _ => within_put (within_refl s _) (List.mem_cons_self ..),
      fun h1 => absurd h1 hd, hput.within⟩

/-- The written ADC values are sent 24 superframes ahead while the link carries superframes (R80). -/
theorem completes_hlAdcWrite {rate fmt : Nat} (hi : headInst s h = true) :
    Completes (.hlAdcWrite h rate fmt) s fun t =>
      Machine.get t (F.HL_ADC_N h) = rate % 512 ∧ Machine.get t (F.HL_ADC_FMT h) = fmt % 2 ∧
      (3 ≤ Machine.get s (F.HL_STATUS_STATE h) → Machine.get s (F.HL_STATUS_STATE h) ≤ 5 →
        (linkOf t h).adcCfg = some (rate % 512, fmt % 2, tick s + 25)) ∧ WithinHead h s t [F.HL_ADC_N h, F.HL_ADC_FMT h] := by
  obtain ⟨-, -, hstate, -⟩ := controls_apart h (headInst_lt hi)
  obtain ⟨hst, htick⟩ := hstate (F.HL_ADC_N h) (by simp)
  obtain ⟨hst', htick'⟩ := hstate (F.HL_ADC_FMT h) (by simp)
  have hne : (F.HL_ADC_N h).key ≠ (F.HL_ADC_FMT h).key := by simp [Fld.key, F.HL_ADC_N, F.HL_ADC_FMT]
  have hget (f : Fld) : Machine.get (sendAdc h (rate % 512) (fmt % 2) 24 (put (F.HL_ADC_FMT h) fmt (put (F.HL_ADC_N h) rate s))) f
      = Machine.get (put (F.HL_ADC_FMT h) fmt (put (F.HL_ADC_N h) rate s)) f := (atHead_sendAdc h _ _ _ _ []).get (by simp)
  refine completes_of_exec (if_neg (by simp [hi])) ⟨?_, ?_, fun hlo hhi => ?_, AtHead.within ?_⟩
  · rw [hget, get_put_ne _ _ _ _ hne, get_put_same]
    rfl
  · rw [hget, get_put_same]
    rfl
  · have hsame : Machine.get (put (F.HL_ADC_FMT h) fmt (put (F.HL_ADC_N h) rate s)) (F.HL_STATUS_STATE h) = Machine.get s (F.HL_STATUS_STATE h) := by
      rw [get_put_ne _ _ _ _ hst', get_put_ne _ _ _ _ hst]
    rw [sendAdc_framed (by rwa [hsame]) (by rwa [hsame]), linkOf_updLink, tick, get_put_ne _ _ _ _ htick', get_put_ne _ _ _ _ htick]
    rfl
  · exact ((atHead_put (by simp)).trans (atHead_put (by simp))).trans (atHead_sendAdc h _ _ _ _ _)

end controls

/-! ### Training -/

section training
variable {h : Nat} {s : State}

/-- PRBS31 moves the search to lane search (R75). -/
theorem completes_prbsSeen {bits : List Bool} (hi : headInst s h = true) (hst : Machine.get s (F.HL_STATUS_STATE h) = 1) (hp : isPrbs31 bits = true) :
    Completes (.prbsSeen h bits) s fun t =>
      Machine.get t (F.HL_STATUS_STATE h) = 2 ∧ Raised t (evHL h) B.HL_EVT_STATE_CHANGE ∧ (linkOf t h).stateAt = now s ∧
      WithinHead h s t (linkFields h) := by
  have hh := headInst_lt hi
  refine completes_of_exec (if_neg (by simp [hi, hst, hp])) ⟨get_setLink_state hh 2 s, raised_setLink_change hh (by omega), ?_,
    (atHead_setLink (.inl (by omega))).within⟩
  rw [linkOf_setLink]
  rfl

/-- Four qualified lanes, or three once the time has passed, move the training to alignment (R75). -/
theorem completes_lanesQualified {errs q : List Nat} (hi : headInst s h = true) (hst : Machine.get s (F.HL_STATUS_STATE h) = 2)
    (hq : q = ((List.range 4).filter fun l => decide (errs.getD l 11 ≤ 10))) (hlen : q.length = 4 ∨ (q.length = 3 ∧ trainLate s h = true)) :
    Completes (.lanesQualified h errs) s fun t =>
      Machine.get t (F.HL_STATUS_STATE h) = 3 ∧ (linkOf t h).qual = q ∧ WithinHead h s t (linkFields h) := by
  have hh := headInst_lt hi
  have he : execLanesQualified h errs s = .next (setLink h 3 (updLink h (fun k => { k with qual := q }) s)) := by
    rw [execLanesQualified, ← hq]
    refine if_neg ?_
    rintro (h1 | h1 | ⟨hlt, hno⟩)
    · exact Bool.false_ne_true (h1.symm.trans hi)
    · exact h1 hst
    · rcases hlen with h4 | h3
      · omega
      · exact hno ⟨h3.2, h3.1⟩
  refine completes_of_exec he ⟨get_setLink_state hh 3 _, ?_, ((atHead_updLink h _ s _).trans (atHead_setLink (.inl ?_))).within⟩
  · rw [linkOf_setLink, linkEntered, linkOf_updLink]
    rfl
  · rw [get_updLink, hst]
    decide

theorem qual_of_unsent {k k' : Link} (e : linkUnsent k = linkUnsent k') : k.qual = k'.qual := by
  have hq := congrArg Link.qual e
  exact hq
theorem out_of_unsent {k k' : Link} (e : linkUnsent k = linkUnsent k') : k.out = k'.out := by
  have ho := congrArg Link.out e
  exact ho

/-- IDENT entered: the request and the ADC's configuration are sent (R75). -/
def identAsked (h : Nat) (s : State) : State :=
  sendAdc h (Machine.get s (F.HL_ADC_N h)) (Machine.get s (F.HL_ADC_FMT h)) 24 (sendMsg h 1 [] (setLink h 4 s))

/-- With one lane left out the lane map is sent too (R75). -/
theorem enterIdent_cases (h : Nat) (s : State) : enterIdent h s = identAsked h s ∨ ∃ l, enterIdent h s = sendLane h 1 l l (identAsked h s) := by
  unfold enterIdent
  split
  · exact .inr ⟨_, rfl⟩
  · exact .inl rfl

theorem atHead_sendMsg (h ty : Nat) (p : List Nat) (s : State) (fs : List Fld) : AtHead h s (sendMsg h ty p s) fs := atHead_sendLead h ty p 0 s fs

theorem identAsked_spec (hh : h < 64) (hst : Machine.get s (F.HL_STATUS_STATE h) ≠ 5) :
    Machine.get (identAsked h s) (F.HL_STATUS_STATE h) = 4 ∧ (linkOf (identAsked h s) h).qual = (linkOf s h).qual ∧
      (linkOf (identAsked h s) h).adcCfg = some (Machine.get s (F.HL_ADC_N h), Machine.get s (F.HL_ADC_FMT h), tick s + 25) ∧
      AtHead h s (identAsked h s) (linkFields h) := by
  obtain ⟨hlink, -⟩ := controls_apart h hh
  have hset : AtHead h s (setLink h 4 s) (linkFields h) := atHead_setLink (.inl hst)
  have hmsg := atHead_sendMsg h 1 [] (setLink h 4 s) []
  have hstate : Machine.get (sendMsg h 1 [] (setLink h 4 s)) (F.HL_STATUS_STATE h) = 4 := by
    rw [hmsg.get (by simp)]
    exact get_setLink_state hh 4 s
  have htick : tick (sendMsg h 1 [] (setLink h 4 s)) = tick s := by
    rw [tick, hmsg.get (by simp), hset.get (hlink _ (by simp)), ← tick]
  have hkept := linkUnsent_sendAdc h (Machine.get s (F.HL_ADC_N h)) (Machine.get s (F.HL_ADC_FMT h)) 24 (sendMsg h 1 [] (setLink h 4 s))
  refine ⟨?_, ?_, ?_, ?_⟩
  · rw [identAsked, (atHead_sendAdc h _ _ _ _ []).get (by simp), hstate]
  · refine (qual_of_unsent hkept).trans ((qual_of_unsent (linkUnsent_sendLead h 1 [] 0 _)).trans ?_)
    rw [linkOf_setLink]
    rfl
  · rw [identAsked, sendAdc_framed (by rw [hstate]; decide) (by rw [hstate]; decide), linkOf_updLink, htick]
  · exact (hset.trans (atHead_sendMsg h _ _ _ _)).trans (atHead_sendAdc h _ _ _ _ _)

theorem adcCfg_sendLane (h mode lane group : Nat) (s : State) : (linkOf (sendLane h mode lane group s) h).adcCfg = (linkOf s h).adcCfg := by
  by_cases hst : 3 ≤ Machine.get s (F.HL_STATUS_STATE h) ∧ Machine.get s (F.HL_STATUS_STATE h) ≤ 5
  · rw [sendLane_framed hst.1 hst.2, sendLead_framed hst.1 hst.2, linkOf_updLink, linkOf_updLink]
  · rw [sendLane_unframed hst]

theorem enterIdent_spec (hh : h < 64) (hst : Machine.get s (F.HL_STATUS_STATE h) ≠ 5) :
    Machine.get (enterIdent h s) (F.HL_STATUS_STATE h) = 4 ∧ (linkOf (enterIdent h s) h).qual = (linkOf s h).qual ∧
      (linkOf (enterIdent h s) h).adcCfg = some (Machine.get s (F.HL_ADC_N h), Machine.get s (F.HL_ADC_FMT h), tick s + 25) ∧
      AtHead h s (enterIdent h s) (linkFields h) := by
  obtain ⟨hstate, hqual, hadc, hframe⟩ := identAsked_spec hh hst
  rcases enterIdent_cases h s with e | ⟨l, e⟩ <;> rw [e]
  · exact ⟨hstate, hqual, hadc, hframe⟩
  · refine ⟨?_, ?_, ?_, hframe.trans (atHead_sendLane h _ _ _ _ _)⟩
    · rw [(atHead_sendLane h _ _ _ _ []).get (by simp), hstate]
    · exact (qual_of_unsent (linkUnsent_sendLane h 1 l l _)).trans hqual
    · rw [adcCfg_sendLane, hadc]

/-- The lanes' skews in HL.SKEW (R75). -/
def skewWord (skews : List Nat) : Nat := ofBytesLE ((List.range 4).map fun l => min 255 (skews.getD l 0))

theorem completes_alignLocked {skews q : List Nat} (hi : headInst s h = true) (hst : Machine.get s (F.HL_STATUS_STATE h) = 3)
    (hq : q = ((linkOf s h).qual.filter fun l => decide (skews.getD l 0 ≤ 170))) (hlen : 3 ≤ q.length) (hl : ∀ l ∈ q, l ∈ (linkOf s h).locked) :
    Completes (.alignLocked h skews) s fun t =>
      Machine.get t (F.HL_STATUS_STATE h) = 4 ∧ (linkOf t h).qual = q ∧
      Machine.get t (F.HL_SKEW h) = trunc 32 (skewWord skews) ∧
      (linkOf t h).adcCfg = some (Machine.get s (F.HL_ADC_N h), Machine.get s (F.HL_ADC_FMT h), tick s + 25) ∧
      WithinHead h s t (F.HL_SKEW h :: linkFields h) := by
  have hh := headInst_lt hi
  obtain ⟨hlink, -, hstate, -⟩ := controls_apart h hh
  have hall : q.all (fun l => decide (l ∈ (linkOf s h).locked)) = true := by simpa using hl
  have he : execAlignLocked h skews s
      = .next (enterIdent h (lanesUp h (updLink h (fun k => { k with qual := q }) (put (F.HL_SKEW h) (skewWord skews) s)))) := by
    rw [execAlignLocked, if_neg (by simp [hi, hst])]
    dsimp only
    rw [← hq, if_neg (by omega), if_neg (by simp [hall])]
    rfl
  have hup : AtHead h (updLink h (fun k => { k with qual := q }) (put (F.HL_SKEW h) (skewWord skews) s))
      (lanesUp h (updLink h (fun k => { k with qual := q }) (put (F.HL_SKEW h) (skewWord skews) s))) (linkFields h) :=
    atHead_lanesUp (by simp [linkFields])
  have hsame {f : Fld} (hf : f.key ∉ (linkFields h).map Fld.key) :
      Machine.get (lanesUp h (updLink h (fun k => { k with qual := q }) (put (F.HL_SKEW h) (skewWord skews) s))) f
        = Machine.get (put (F.HL_SKEW h) (skewWord skews) s) f := hup.get hf
  have hstate3 : Machine.get (lanesUp h (updLink h (fun k => { k with qual := q }) (put (F.HL_SKEW h) (skewWord skews) s))) (F.HL_STATUS_STATE h) ≠ 5 := by
    rw [lanesUp, get_put_ne _ _ _ _ (by simp [Fld.key, F.HL_STATUS_STATE, F.HL_STATUS_LANES_UP]), get_updLink,
      get_put_ne _ _ _ _ (hstate _ (by simp)).1, hst]
    decide
  have hskew : (F.HL_ADC_N h).key ≠ (F.HL_SKEW h).key ∧ (F.HL_ADC_FMT h).key ≠ (F.HL_SKEW h).key := by
    simp only [Fld.key, F.HL_ADC_N, F.HL_ADC_FMT, F.HL_SKEW]
    omega
  obtain ⟨hfour, hqual, hadc, hframe⟩ := enterIdent_spec hh hstate3
  refine completes_of_exec he ⟨hfour, ?_, ?_, ?_, AtHead.within ?_⟩
  · rw [hqual, linkOf_lanesUp, linkOf_updLink]
  · rw [hframe.get (hlink _ (by simp)), hsame (hlink _ (by simp)), get_put_same]
    rfl
  · rw [hadc, hsame (hlink _ (by simp)), hsame (hlink _ (by simp)), tick, hsame (hlink _ (by simp)), get_put_ne _ _ _ _ hskew.1,
      get_put_ne _ _ _ _ hskew.2, get_put_ne _ _ _ _ (hstate _ (by simp)).2, ← tick]
  · exact ((AtHead.thenUpd (atHead_put (List.mem_cons_self ..)) _).trans (hup.mono (List.subset_cons_self ..))).trans
      (hframe.mono (List.subset_cons_self ..))

/-- Fewer than three lanes within the skew fail the training (R75). -/
theorem completes_alignLocked_failed {skews q : List Nat} (hi : headInst s h = true) (hst : Machine.get s (F.HL_STATUS_STATE h) = 3)
    (hq : q = ((linkOf s h).qual.filter fun l => decide (skews.getD l 0 ≤ 170))) (hlen : q.length < 3) :
    Completes (.alignLocked h skews) s fun t =>
      Machine.get t (F.HL_STATUS_STATE h) = (if (linkOf s h).fails < 2 then 1 else 6) ∧ (linkOf t h).fails = (linkOf s h).fails + 1 := by
  have he : execAlignLocked h skews s = .next (trainFail h (put (F.HL_SKEW h) (skewWord skews) s)) := by
    rw [execAlignLocked, if_neg (by simp [hi, hst])]
    dsimp only
    rw [← hq, if_pos hlen]
    rfl
  obtain ⟨hstate, hfails, -⟩ := trainFail_spec (headInst_lt hi) (put (F.HL_SKEW h) (skewWord skews) s)
  exact completes_of_exec he ⟨hstate, hfails⟩

/-- A state that outlasts its time restarts the training, and the third failure ends it (R75). -/
theorem completes_trainingTimeout (hi : headInst s h = true) (hlo : 1 ≤ Machine.get s (F.HL_STATUS_STATE h))
    (hhi : Machine.get s (F.HL_STATUS_STATE h) ≤ 4) (hlate : trainLate s h = true) :
    Completes (.trainingTimeout h) s fun t =>
      Machine.get t (F.HL_STATUS_STATE h) = (if (linkOf s h).fails < 2 then 1 else 6) ∧ (linkOf t h).fails = (linkOf s h).fails + 1 ∧
      ((linkOf s h).fails = 2 → Raised t (evHL h) B.HL_EVT_TRAIN_FAIL) ∧ WithinHead h s t (linkFields h) := by
  obtain ⟨hstate, hfails, hev⟩ := trainFail_spec (headInst_lt hi) s
  exact completes_of_exec (if_neg (by simp [hi, hlate]; omega)) ⟨hstate, hfails, hev, (atHead_trainFail (by omega)).within⟩

/-! ### The link ACTIVE -/

/-- A valid identity with its configurations in force, before the head's redundancy and its servo follow (R75). -/
def linkActive (h : Nat) (s : State) : State :=
  setLink h 5 (put (F.HL_SF_CNT h) 0 (updHead h (fun (x : Head) =>
    { x with link := { x.link with fails := 0 }, ch := { x.ch with askedFret := none } }) s))

theorem atHead_linkActive (h : Nat) (s : State) : AtHead h s (linkActive h s) (F.HL_SF_CNT h :: linkFields h) :=
  ((atHead_updHead h _ s _).thenPut (List.mem_cons_self ..)).trans ((atHead_setLink (.inr rfl)).mono (List.subset_cons_self ..))

theorem fails_linkActive (h : Nat) (s : State) : (linkOf (linkActive h s) h).fails = 0 := by
  rw [linkActive, linkOf_setLink, linkEntered, linkOf_put, linkOf, getHead_updHead_same]
  rfl

/-- A full link after a requested training gives the head its redundancy back (R535). -/
def linkReturned (h : Nat) (s : State) : State :=
  if (linkOf s h).qual.length = 4 ∧ (linkOf s h).retrained = true then unexpose Dom.headPort h (linkActive h s) else linkActive h s

@[simp] theorem get_linkReturned (h : Nat) (s : State) (f : Fld) : Machine.get (linkReturned h s) f = Machine.get (linkActive h s) f := by
  unfold linkReturned
  split
  · exact get_unexposed ..
  · rfl

theorem linkOf_linkReturned (h : Nat) (s : State) : linkOf (linkReturned h s) h = linkOf (linkActive h s) h := by
  unfold linkReturned
  split
  · exact linkOf_unexposed ..
  · rfl

theorem execIdentConfigInForce_eq (hi : headInst s h = true) (hst : Machine.get s (F.HL_STATUS_STATE h) = 4)
    (hid : (linkOf s h).identOk = true) (hadc : (linkOf s h).adcCfg = none) (hlane : (linkOf s h).laneCfg = none) :
    execIdentConfigInForce h s = .next (leaveOff h (linkReturned h s)) :=
  if_neg (by simp [hi, hst, hid, hadc, hlane])

theorem leaveOff_cases (h : Nat) (s : State) : leaveOff h s = s ∨ leaveOff h s = svState h 1 s := by
  unfold leaveOff
  split
  · exact .inr rfl
  · exact .inl rfl

theorem get_leaveOff {f : Fld} (hf : f.key ∉ (svFields h).map Fld.key) : Machine.get (leaveOff h s) f = Machine.get s f := by
  rcases leaveOff_cases h s with e | e <;> rw [e]
  exact get_svState_ne (by decide) hf

theorem linkOf_leaveOff (h : Nat) (s : State) : linkOf (leaveOff h s) h = linkOf s h := by
  rcases leaveOff_cases h s with e | e <;> rw [e]
  exact linkOf_svState (by decide) h s

theorem completes_identConfigInForce (hi : headInst s h = true) (hst : Machine.get s (F.HL_STATUS_STATE h) = 4)
    (hid : (linkOf s h).identOk = true) (hadc : (linkOf s h).adcCfg = none) (hlane : (linkOf s h).laneCfg = none) :
    Completes (.identConfigInForce h) s fun t =>
      Machine.get t (F.HL_STATUS_STATE h) = 5 ∧ Machine.get t (F.HL_SF_CNT h) = 0 ∧ (linkOf t h).fails = 0 ∧
      (Machine.get s (F.SV_STATUS_STATE h) = 0 → Machine.get s (F.SV_CTRL_EN h) = 1 → Machine.get t (F.SV_STATUS_STATE h) = 1) ∧
      ((linkOf s h).retrained = false → Machine.get s (F.SV_CTRL_EN h) = 0 → WithinHead h s t (F.HL_SF_CNT h :: linkFields h)) := by
  have hh := headInst_lt hi
  have hapart : ∀ h < 64, (F.HL_STATUS_STATE h).key ∉ (svFields h).map Fld.key ∧ (F.HL_SF_CNT h).key ∉ (svFields h).map Fld.key ∧
      (F.SV_STATUS_STATE h).key ∉ (F.HL_SF_CNT h :: linkFields h).map Fld.key ∧ (F.SV_CTRL_EN h).key ∉ (F.HL_SF_CNT h :: linkFields h).map Fld.key := by
    decide +kernel
  obtain ⟨hsv, hcnt, hservo, hen⟩ := hapart h hh
  obtain ⟨hlink, -⟩ := controls_apart h hh
  have hactive := atHead_linkActive h s
  have hfive : Machine.get (linkActive h s) (F.HL_STATUS_STATE h) = 5 := get_setLink_state hh 5 _
  have hcount : Machine.get (linkActive h s) (F.HL_SF_CNT h) = 0 := by
    rw [linkActive, (atHead_setLink (.inr rfl)).get (hlink _ (by simp)), get_put_same]
    rfl
  refine completes_of_exec (execIdentConfigInForce_eq hi hst hid hadc hlane) ⟨?_, ?_, ?_, fun h0 h1 => ?_, fun hr h0 => ?_⟩
  · rw [get_leaveOff hsv, get_linkReturned, hfive]
  · rw [get_leaveOff hcnt, get_linkReturned, hcount]
  · rw [linkOf_leaveOff, linkOf_linkReturned, fails_linkActive]
  · have hgo : leaveOff h (linkReturned h s) = svState h 1 (linkReturned h s) := if_pos (by
      rw [get_linkReturned, get_linkReturned, get_linkReturned, hactive.get hservo, hactive.get hen]
      exact ⟨h0, h1, hfive⟩)
    rw [hgo]
    exact get_svState_self (by decide) hh _
  · have hsame : linkReturned h s = linkActive h s := if_neg (by simp [hr])
    have hoff : leaveOff h (linkActive h s) = linkActive h s := if_neg (by rw [hactive.get hen, h0]; simp)
    rw [hsame, hoff]
    exact hactive.within

end training

end Sys2Proof.Proofs
end

section
/-! SUPPORT. A head link's lane faults and lane maps (R62, R77, R82). -/

namespace Sys2Proof.Proofs

open Sys2Proof.Machine Sys2Proof.Laws

section lanes
variable {h lane : Nat} {s : State} {f : Fld}

/-- The link's fields apart from what a recovery window, an event of the link, the end of open slots and the permits write. -/
def laneSideFields (h : Nat) : List Fld :=
  F.EVT_FW_OPEN_NOW :: F.EVT_FW_OPEN_TOTAL :: (permitFields h ++ abandonFields h)

theorem lanes_apart : ∀ h < 64, (evHL h).evt.key ∉ (laneSideFields h).map Fld.key ∧
    (∀ f ∈ [F.HL_STATUS_STATE h, F.HL_STATUS_DEGRADED h, F.HL_STATUS_FAILED_LANE h, F.HL_STATUS_GROUP h, F.HL_CTRL_DEGR_GROUP h, F.CLK_TICK],
      f.key ∉ (laneSideFields h ++ evFields (evHL h)).map Fld.key) ∧
    ([F.HL_STATUS_DEGRADED h, F.HL_STATUS_FAILED_LANE h, F.HL_STATUS_GROUP h].map Fld.key).Nodup ∧
    (F.HL_CTRL_DEGR_GROUP h).key ∉ [F.HL_STATUS_DEGRADED h, F.HL_STATUS_FAILED_LANE h, F.HL_STATUS_GROUP h].map Fld.key := by decide +kernel

/-- A window that opens leaves every field outside the list. -/
theorem get_openWindow_side {kind inst src : Nat} (hf : f.key ∉ (laneSideFields h).map Fld.key) :
    Machine.get (openWindow kind inst src s) f = Machine.get s f := by
  simp only [laneSideFields, List.map_cons, List.mem_cons, not_or] at hf
  exact get_openWindow hf.1 hf.2.1

theorem get_closeWindow_side {kind inst outcome : Nat} (hf : f.key ∉ (laneSideFields h).map Fld.key) :
    Machine.get (closeWindow kind inst outcome s) f = Machine.get s f := by
  simp only [laneSideFields, List.map_cons, List.mem_cons, not_or] at hf
  exact get_closeWindow hf.1

theorem get_permits_side (hf : f.key ∉ (laneSideFields h).map Fld.key) : Machine.get (permits h s) f = Machine.get s f :=
  ((atHead_permits h s).mono (gs := laneSideFields h) fun f hf => by simp [laneSideFields, hf]).get hf

theorem get_abandonSlots_side (hf : f.key ∉ (laneSideFields h).map Fld.key) (p : OpenSlot → Bool) :
    Machine.get (abandonSlots h p s) f = Machine.get s f :=
  (abandonSlots_drive (AtDrive.refl h s (laneSideFields h)) (fun f hf => by simp [laneSideFields, hf]) p).get hf

/-! ### A lane fault -/

/-- The fault of a lane is declared (R77). -/
def faultDeclared (h lane : Nat) (s : State) : State :=
  raise (evHL h) B.HL_EVT_LANE_FAULT (updLink h (fun k => { k with out := lane :: k.out }) s)

theorem linkOf_faultDeclared (h lane : Nat) (s : State) :
    linkOf (faultDeclared h lane s) h = { linkOf s h with out := lane :: (linkOf s h).out } := by
  rw [faultDeclared, linkOf_raise, linkOf_updLink]

theorem lanesInUse_faultDeclared (h lane : Nat) (s : State) :
    lanesInUse (linkOf (faultDeclared h lane s) h) = (lanesInUse (linkOf s h)).filter (· ≠ lane) := by
  rw [linkOf_faultDeclared, lanesInUse, lanesInUse, List.filter_filter]
  refine List.filter_congr fun l _ => ?_
  simp [not_or]

theorem get_faultDeclared (hf : f.key ∉ (laneSideFields h ++ evFields (evHL h)).map Fld.key) :
    Machine.get (faultDeclared h lane s) f = Machine.get s f :=
  ((atHead_updLink h _ s _).thenRaise (by simp [evFields]) (by simp [evFields])).get hf

theorem raised_faultDeclared (h lane : Nat) (s : State) : Raised (faultDeclared h lane s) (evHL h) B.HL_EVT_LANE_FAULT :=
  raised_raise headEv_hl (by decide)

/-- What follows a declared fault: the link retrains, asks for the degraded map, or keeps the lane as it is (R77). -/
theorem execLaneFault_eq (hi : headInst s h = true) (hst : Machine.get s (F.HL_STATUS_STATE h) = 5) (hl : lane ∈ lanesInUse (linkOf s h))
    (hf : lane ∈ (linkOf s h).lost ∨ 8 ≤ ((linkOf s h).bad.filter fun b => decide (b.1 = lane)).length) :
    execLaneFault h lane s
      = if (lanesInUse (linkOf (faultDeclared h lane s) h)).length < 3 then
          .next (setLink h 1 (closeWindow Dom.headPort h 2 (faultDeclared h lane s)))
        else if isSet s (F.HL_CTRL_AUTO_DEGRADE h) = true then
          .next (sendLane h 1 lane lane (openWindow Dom.headPort h h (faultDeclared h lane s)))
        else
          .next (permits h (abandonSlots h (fun o => decide (o.beam / 8 = lane))
            (updLink h (fun k => { k with kept := some lane }) (faultDeclared h lane s)))) := by
  have hno : ¬(headInst s h = false ∨ Machine.get s (F.HL_STATUS_STATE h) ≠ 5 ∨ lane ∉ lanesInUse (linkOf s h) ∨
      (lane ∉ (linkOf s h).lost ∧ ((linkOf s h).bad.filter fun b => decide (b.1 = lane)).length < 8)) := by
    rintro (h1 | h1 | h1 | ⟨h1, h2⟩)
    · exact Bool.false_ne_true (h1.symm.trans hi)
    · exact h1 hst
    · exact h1 hl
    · exact hf.elim h1 fun h8 => absurd h2 (by omega)
  exact if_neg hno

theorem completes_laneFault (hi : headInst s h = true) (hst : Machine.get s (F.HL_STATUS_STATE h) = 5) (hl : lane ∈ lanesInUse (linkOf s h))
    (hf : lane ∈ (linkOf s h).lost ∨ 8 ≤ ((linkOf s h).bad.filter fun b => decide (b.1 = lane)).length) :
    Completes (.laneFault h lane) s fun t =>
      Raised t (evHL h) B.HL_EVT_LANE_FAULT ∧
      (((lanesInUse (linkOf s h)).filter (· ≠ lane)).length < 3 → Machine.get t (F.HL_STATUS_STATE h) = 1) ∧
      (3 ≤ ((lanesInUse (linkOf s h)).filter (· ≠ lane)).length → lane ∈ (linkOf t h).out ∧
        (Machine.get s (F.HL_CTRL_AUTO_DEGRADE h) = 1 → (linkOf t h).laneCfg = some (1, lane, lane, tick s + 9)) ∧
        (Machine.get s (F.HL_CTRL_AUTO_DEGRADE h) ≠ 1 → (linkOf t h).kept = some lane)) := by
  have hh := headInst_lt hi
  obtain ⟨hevt, hkept, -⟩ := lanes_apart h hh
  have hraised := raised_faultDeclared h lane s
  have hout : lane ∈ (linkOf (faultDeclared h lane s) h).out := by
    rw [linkOf_faultDeclared]
    exact List.mem_cons_self ..
  have hside {f : Fld} (hf : f.key ∉ (laneSideFields h ++ evFields (evHL h)).map Fld.key) : f.key ∉ (laneSideFields h).map Fld.key := by
    rw [List.map_append, List.mem_append, not_or] at hf
    exact hf.1
  have he := execLaneFault_eq hi hst hl hf
  rw [lanesInUse_faultDeclared] at he
  by_cases hfew : ((lanesInUse (linkOf s h)).filter (· ≠ lane)).length < 3
  · exact completes_of_exec (he.trans (if_pos hfew)) ⟨raised_setLink hh (by decide) (raised_of_get (get_closeWindow_side hevt) hraised),
      fun _ => get_setLink_state hh 1 _, fun h3 => absurd hfew (by omega)⟩
  · rw [if_neg hfew] at he
    by_cases hauto : Machine.get s (F.HL_CTRL_AUTO_DEGRADE h) = 1
    · have hfive : Machine.get (openWindow Dom.headPort h h (faultDeclared h lane s)) (F.HL_STATUS_STATE h) = 5 := by
        have hstate := hkept (F.HL_STATUS_STATE h) (by simp)
        rw [get_openWindow_side (hside hstate), get_faultDeclared hstate, hst]
      have htick : tick (openWindow Dom.headPort h h (faultDeclared h lane s)) = tick s := by
        have htime := hkept F.CLK_TICK (by simp)
        rw [tick, get_openWindow_side (hside htime), get_faultDeclared htime, ← tick]
      refine completes_of_exec (he.trans (if_pos (decide_eq_true hauto)))
        ⟨?_, fun h3 => absurd h3 hfew, fun _ => ⟨?_, fun _ => ?_, fun hno => absurd hauto hno⟩⟩
      · exact raised_of_get (((atHead_sendLane h _ _ _ _ []).get (by simp)).trans (get_openWindow_side hevt)) hraised
      · rw [out_of_unsent (linkUnsent_sendLane h 1 lane lane _)]
        exact hout
      · rw [sendLane_framed (by rw [hfive]; decide) (by rw [hfive]), linkOf_updLink, htick]
    · refine completes_of_exec (he.trans (if_neg (by simp [isSet, hauto])))
        ⟨?_, fun h3 => absurd h3 hfew, fun _ => ⟨?_, fun hyes => absurd hyes hauto, fun _ => ?_⟩⟩
      · exact raised_of_get ((get_permits_side hevt).trans (get_abandonSlots_side hevt _)) hraised
      · rw [linkOf_permits, link_abandonSlots, linkOf_updLink]
        exact hout
      · rw [linkOf_permits, link_abandonSlots, linkOf_updLink]

/-! ### A lane map in force -/

section map
variable {mode lane group sf : Nat} {h : Nat} {s : State} {f : Fld}

/-- The map of a LANE_CFG whose superframe has come (R62, R77). -/
def mapSwitched (h mode lane group : Nat) (s : State) : State :=
  putAll [(F.HL_STATUS_DEGRADED h, mode), (F.HL_STATUS_FAILED_LANE h, lane), (F.HL_STATUS_GROUP h, group)]
    (updLink h (fun k => { k with laneCfg := none, kept := none }) s)

/-- In the degraded map the open slots of its group end (R62). -/
def groupEnded (h mode group : Nat) (s : State) : State :=
  if mode = 1 then abandonSlots h (fun o => decide (o.beam / 8 = group)) s else s

theorem execLaneMapSwitch_eq (hi : headInst s h = true) (hcfg : (linkOf s h).laneCfg = some (mode, lane, group, sf)) (hsf : sf ≤ tick s) :
    execLaneMapSwitch h s = .next (permits h (closeWindow Dom.headPort h 0 (takeForce (F.HL_CTRL_DEGR_GROUP h)
      (raise (evHL h) B.HL_EVT_DEGRADE_DONE (groupEnded h mode group (mapSwitched h mode lane group s)))))) := by
  rw [execLaneMapSwitch, hcfg]
  exact if_neg (by simp [hi]; omega)

theorem get_groupEnded (hf : f.key ∉ (laneSideFields h).map Fld.key) :
    Machine.get (groupEnded h mode group s) f = Machine.get s f := by
  unfold groupEnded
  split
  · exact get_abandonSlots_side hf _
  · rfl

theorem linkOf_groupEnded (h mode group : Nat) (s : State) : linkOf (groupEnded h mode group s) h = linkOf s h := by
  unfold groupEnded
  split
  · exact link_abandonSlots _
  · rfl

/-- The event of a map in force, its boundary, its window and the permits leave the other fields. -/
theorem get_mapSwitch (hf : f.key ∉ (laneSideFields h ++ evFields (evHL h)).map Fld.key) (s : State) :
    Machine.get (permits h (closeWindow Dom.headPort h 0 (takeForce (F.HL_CTRL_DEGR_GROUP h)
      (raise (evHL h) B.HL_EVT_DEGRADE_DONE (groupEnded h mode group s))))) f = Machine.get s f := by
  have hraise : Machine.get (raise (evHL h) B.HL_EVT_DEGRADE_DONE (groupEnded h mode group s)) f = Machine.get (groupEnded h mode group s) f :=
    (atHead_raise (h := h) (by simp [evFields]) (by simp [evFields])).get hf
  have hside : f.key ∉ (laneSideFields h).map Fld.key := by
    rw [List.map_append, List.mem_append, not_or] at hf
    exact hf.1
  rw [get_permits_side hside, get_closeWindow_side hside, get_takeForce, hraise, get_groupEnded hside]

theorem get_mapSwitched (hh : h < 64) (s : State) :
    Machine.get (mapSwitched h mode lane group s) (F.HL_STATUS_DEGRADED h) = mode % 2 ∧
      Machine.get (mapSwitched h mode lane group s) (F.HL_STATUS_FAILED_LANE h) = lane % 4 ∧
      Machine.get (mapSwitched h mode lane group s) (F.HL_STATUS_GROUP h) = group % 4 := by
  obtain ⟨-, -, hnodup, -⟩ := lanes_apart h hh
  have hget {f : Fld} {v : Nat} (hm : (f, v) ∈ [(F.HL_STATUS_DEGRADED h, mode), (F.HL_STATUS_FAILED_LANE h, lane), (F.HL_STATUS_GROUP h, group)]) :
      Machine.get (mapSwitched h mode lane group s) f = trunc f.width v := get_putAll_mem hnodup hm
  exact ⟨hget (by simp), hget (by simp), hget (by simp)⟩

/-- A normal map in force without a window open changes the link's fields only (R62). -/
theorem only_mapSwitch (hw : s.windows = []) : OnlyFields s (permits h (closeWindow Dom.headPort h 0 (takeForce (F.HL_CTRL_DEGR_GROUP h)
    (raise (evHL h) B.HL_EVT_DEGRADE_DONE (groupEnded h 0 group (mapSwitched h 0 lane group s)))))) (linkFields h) := by
  have hswitch : AtHead h s (raise (evHL h) B.HL_EVT_DEGRADE_DONE (mapSwitched h 0 lane group s)) (linkFields h) :=
    ((atHead_updLink h _ s _).trans (atHead_putAll (by simp [linkFields]))).thenRaise (by simp [linkFields, evHL]) (by simp [linkFields])
  have hwindows : (raise (evHL h) B.HL_EVT_DEGRADE_DONE (mapSwitched h 0 lane group s)).windows = [] := by
    obtain ⟨r, l, hs, e⟩ := hswitch.shape
    rw [e]
    exact hw
  have hclose : closeWindow Dom.headPort h 0 (takeForce (F.HL_CTRL_DEGR_GROUP h) (raise (evHL h) B.HL_EVT_DEGRADE_DONE (mapSwitched h 0 lane group s)))
      = takeForce (F.HL_CTRL_DEGR_GROUP h) (raise (evHL h) B.HL_EVT_DEGRADE_DONE (mapSwitched h 0 lane group s)) := closeWindow_of_none hwindows
  intro f hf
  have hpermits (u : State) : Machine.get (permits h u) f = Machine.get u f :=
    ((atHead_permits h u).mono (gs := linkFields h) (by simp [permitFields, linkFields])).get hf
  rw [groupEnded, if_neg (by decide), hclose, hpermits, get_takeForce, hswitch.get hf]

/-- A lane configuration comes into force at its superframe (R62, R77, R82). -/
theorem completes_laneMapSwitch (hi : headInst s h = true) (hcfg : (linkOf s h).laneCfg = some (mode, lane, group, sf)) (hsf : sf ≤ tick s) :
    Completes (.laneMapSwitch h) s fun t =>
      Machine.get t (F.HL_STATUS_DEGRADED h) = mode % 2 ∧ Machine.get t (F.HL_STATUS_FAILED_LANE h) = lane % 4 ∧
      Machine.get t (F.HL_STATUS_GROUP h) = group % 4 ∧ Raised t (evHL h) B.HL_EVT_DEGRADE_DONE ∧ (linkOf t h).laneCfg = none ∧
      inForce t (F.HL_CTRL_DEGR_GROUP h) = Machine.get s (F.HL_CTRL_DEGR_GROUP h) ∧
      (mode = 0 → s.windows = [] → OnlyFields s t (linkFields h)) := by
  have hh := headInst_lt hi
  obtain ⟨hevt, hkept, -, hdegr⟩ := lanes_apart h hh
  obtain ⟨hmode, hlane, hgroup⟩ := get_mapSwitched (mode := mode) (lane := lane) (group := group) hh s
  refine completes_of_exec (execLaneMapSwitch_eq hi hcfg hsf) ⟨?_, ?_, ?_, ?_, ?_, ?_, fun h0 hw => by subst h0; exact only_mapSwitch hw⟩
  · rw [get_mapSwitch (hkept _ (by simp)), hmode]
  · rw [get_mapSwitch (hkept _ (by simp)), hlane]
  · rw [get_mapSwitch (hkept _ (by simp)), hgroup]
  · refine raised_of_get ((get_permits_side hevt).trans (get_closeWindow_side hevt)) ?_
    exact raised_of_get (get_takeForce ..) (raised_raise headEv_hl (by decide))
  · have hlink : linkOf (groupEnded h mode group (mapSwitched h mode lane group s)) h = { linkOf s h with laneCfg := none, kept := none } := by
      rw [linkOf_groupEnded, mapSwitched, linkOf_putAll, linkOf_updLink]
    rw [linkOf_permits, linkOf_closeWindow]
    exact congrArg Link.laneCfg ((linkOf_raise ..).trans hlink)
  · have hraise : Machine.get (raise (evHL h) B.HL_EVT_DEGRADE_DONE (groupEnded h mode group (mapSwitched h mode lane group s))) (F.HL_CTRL_DEGR_GROUP h)
        = Machine.get s (F.HL_CTRL_DEGR_GROUP h) := by
      have hfield := hkept (F.HL_CTRL_DEGR_GROUP h) (by simp)
      have hside := hfield
      rw [List.map_append, List.mem_append, not_or] at hside
      have hput : AtHead h s (mapSwitched h mode lane group s) [F.HL_STATUS_DEGRADED h, F.HL_STATUS_FAILED_LANE h, F.HL_STATUS_GROUP h] :=
        (atHead_updLink h _ s _).trans (atHead_putAll (by simp))
      rw [(atHead_raise (h := h) (fs := laneSideFields h ++ evFields (evHL h)) (by simp [evFields]) (by simp [evFields])).get hfield,
        get_groupEnded hside.1, hput.get hdegr]
    rw [inForce_atHead (atHead_permits h _), inForce_closeWindow, inForce_takeForce, if_pos rfl, hraise]

end map

end lanes

end Sys2Proof.Proofs
end

section
/-! O5: the training and the lanes of a head link (R62, R75 to R77, R82, R117, R178). -/

namespace Sys2Proof.Proofs

open Sys2Proof.Machine Sys2Proof.Laws

/-- Settles O5: each clause by the command's own lemma over the change of the link's state, the messages sent or the lane map. -/
theorem linkTrainingAndLanes : Obligations.LinkTrainingAndLanes :=
  ⟨fun _ _ _ hi hen => completes_hlEnable_off hi hen,
    fun _ _ _ hi hen => completes_hlEnable_on hi hen,
    fun _ _ hi hen => completes_hlTrain hi hen,
    fun _ _ _ hi hv => completes_laserPermit_off hi hv,
    fun _ _ _ hi hv => completes_laserPermit_on hi hv,
    fun _ _ hi => completes_hlClrCnt hi,
    fun _ _ _ hi => completes_degrGroup hi,
    fun _ _ _ _ hi => completes_hlAdcWrite hi,
    fun _ _ _ hi hst hp => completes_prbsSeen hi hst hp,
    fun _ _ _ _ hi hst hq hlen => completes_lanesQualified hi hst hq hlen,
    fun _ _ _ _ hi hst hq hlen hl => completes_alignLocked hi hst hq hlen hl,
    fun _ _ _ _ hi hst hq hlen => completes_alignLocked_failed hi hst hq hlen,
    fun _ _ hi hst hid hadc hlane => completes_identConfigInForce hi hst hid hadc hlane,
    fun _ _ hi hlo hhi hlate => completes_trainingTimeout hi hlo hhi hlate,
    fun _ _ _ hi hst hl hf => completes_laneFault hi hst hl hf,
    fun _ _ _ _ _ _ hi hcfg hsf => completes_laneMapSwitch hi hcfg hsf⟩

end Sys2Proof.Proofs
end

section
/-! SUPPORT. The frame of one bay or carousel link with its axes, spindle and carousel, and the rules of its operations (R85 to R98, R248,
R257, R269, R270). -/

namespace Sys2Proof.Proofs

open Sys2Proof.Machine Sys2Proof.Laws

/-! ### The frame -/

/-- The parts of the inner state that a link's work may change. -/
structure Parts where
  buses     : Bool := false
  axes      : Bool := false
  spindles  : Bool := false
  carousels : Bool := false
  heads     : Bool := false
  force     : Bool := false
  cal       : Bool := false

/-- A state without the parts that may change. -/
def hideParts (p : Parts) (u : State) : State :=
  { u with
    buses := if p.buses then [] else u.buses
    axes := if p.axes then [] else u.axes
    spindles := if p.spindles then [] else u.spindles
    carousels := if p.carousels then [] else u.carousels
    heads := if p.heads then [] else u.heads
    force := if p.force then [] else u.force
    cal := if p.cal then {} else u.cal }

/-- Nothing has changed but the listed fields, the event log, the given parts, and of these only what belongs to one link: its record, its
bay's axes, spindle and heads, or its carousel. -/
structure AtLink (p : Parts) (l : Nat) (s t : State) (fs : List Fld) : Prop where
  rest  : hideParts p (inner t) = hideParts p (inner s)
  bus   : OnlyBus l s t
  ax    : OnlyBayAx l s t
  spin  : OnlySpin l s t
  crs   : OnlyCrs (l - 32) s t
  heads : ∀ h < 64, h / 2 ≠ l → getHead t h = getHead s h
  only  : OnlyFields s t fs

section frame
variable {p : Parts} {l : Nat} {s t u : State} {fs gs : List Fld} {f : Fld} {v : Nat}

theorem AtLink.trans (k : AtLink p l s t fs) (m : AtLink p l t u fs) : AtLink p l s u fs :=
  ⟨m.rest.trans k.rest, fun j hj => (m.bus j hj).trans (k.bus j hj), fun j i hj hi => (m.ax j i hj hi).trans (k.ax j i hj hi),
    fun j hj => (m.spin j hj).trans (k.spin j hj), fun j hj => (m.crs j hj).trans (k.crs j hj),
    fun h hh hl => (m.heads h hh hl).trans (k.heads h hh hl), only_trans k.only m.only⟩

theorem AtLink.mono (k : AtLink p l s t fs) (hs : fs ⊆ gs) : AtLink p l s t gs :=
  ⟨k.rest, k.bus, k.ax, k.spin, k.crs, k.heads, only_mono k.only fun _ hf => List.mem_map_of_mem (hs hf)⟩

theorem AtLink.get (k : AtLink p l s t fs) (hf : f.key ∉ fs.map Fld.key) : Machine.get t f = Machine.get s f := k.only f hf

theorem busOf_of_inner (k : inner t = inner s) (j : Nat) : busOf t j = busOf s j :=
  inner_field (fun u => busOf u j) (fun _ => rfl) k
theorem axOf_of_inner (k : inner t = inner s) (j i : Nat) : axOf t j i = axOf s j i :=
  inner_field (fun u => axOf u j i) (fun _ => rfl) k
theorem spinOf_of_inner (k : inner t = inner s) (j : Nat) : spinOf t j = spinOf s j :=
  inner_field (fun u => spinOf u j) (fun _ => rfl) k
theorem crsOf_of_inner (k : inner t = inner s) (j : Nat) : crsOf t j = crsOf s j :=
  inner_field (fun u => crsOf u j) (fun _ => rfl) k

/-- What changes the window only. -/
theorem atLink_of_within (k : Within s t fs) : AtLink p l s t fs :=
  ⟨congrArg (hideParts p) k.1, fun j _ => busOf_of_inner k.1 j, fun j i _ _ => axOf_of_inner k.1 j i, fun j _ => spinOf_of_inner k.1 j,
    fun j _ => crsOf_of_inner k.1 j, fun h _ _ => getHead_of_inner k.1 h, k.2⟩

theorem atLink_put (hf : f ∈ fs) : AtLink p l s (put f v s) fs := atLink_of_within (within_put (within_refl s fs) (List.mem_map_of_mem hf))
theorem atLink_putAll {w : List (Fld × Nat)} (hw : ∀ q ∈ w, q.1 ∈ fs) : AtLink p l s (putAll w s) fs :=
  atLink_of_within (within_putAll (within_refl s fs) fun q hq => List.mem_map_of_mem (hw q hq))
theorem atLink_raise {e : EvReg} {i : Nat} (he : e.evt ∈ fs) (hl : F.EVT_LOG_HEAD ∈ fs) : AtLink p l s (raise e i s) fs :=
  atLink_of_within (within_raise (within_refl s fs) (List.mem_map_of_mem he) (List.mem_map_of_mem hl))

theorem AtLink.refl (p : Parts) (l : Nat) (s : State) (fs : List Fld) : AtLink p l s s fs := atLink_of_within (within_refl s fs)
theorem AtLink.thenPut (k : AtLink p l s t fs) (hf : f ∈ fs) : AtLink p l s (put f v t) fs := k.trans (atLink_put hf)
theorem AtLink.thenPutAll (k : AtLink p l s t fs) {w : List (Fld × Nat)} (hw : ∀ q ∈ w, q.1 ∈ fs) : AtLink p l s (putAll w t) fs :=
  k.trans (atLink_putAll hw)
theorem AtLink.thenRaise (k : AtLink p l s t fs) {e : EvReg} {i : Nat} (he : e.evt ∈ fs) (hl : F.EVT_LOG_HEAD ∈ fs) :
    AtLink p l s (raise e i t) fs := k.trans (atLink_raise he hl)

/-! ### A part changes -/

@[simp] theorem busOf_updBus (j m : Nat) (g : BusLink → BusLink) (s : State) : busOf (updBus m g s) j = if j = m then g (busOf s m) else busOf s j :=
  mapGet_put _ _ _ _ _
@[simp] theorem axOf_updAx (b a j i : Nat) (g : Axis → Axis) (s : State) :
    axOf (updAx b a g s) j i = if 4 * j + i = 4 * b + a then g (axOf s b a) else axOf s j i := mapGet_put _ _ _ _ _
@[simp] theorem spinOf_updSpin (j b : Nat) (g : Spindle → Spindle) (s : State) : spinOf (updSpin b g s) j = if j = b then g (spinOf s b) else spinOf s j :=
  mapGet_put _ _ _ _ _

theorem atLink_updBus (hp : p.buses = true) (g : BusLink → BusLink) : AtLink p l s (updBus l g s) fs :=
  ⟨by simp [hideParts, updBus, inner, hp], fun j hj => by rw [busOf_updBus, if_neg hj], fun _ _ _ _ => rfl, fun _ _ => rfl, fun _ _ => rfl,
    fun _ _ _ => rfl, only_refl s fs⟩

theorem atLink_updAx {a : Nat} (hp : p.axes = true) (ha : a < 4) (g : Axis → Axis) : AtLink p l s (updAx l a g s) fs :=
  ⟨by simp [hideParts, updAx, inner, hp], fun _ _ => rfl, fun j i hj hi => by rw [axOf_updAx, if_neg (by omega)], fun _ _ => rfl, fun _ _ => rfl,
    fun _ _ _ => rfl, only_refl s fs⟩

theorem atLink_updSpin (hp : p.spindles = true) (g : Spindle → Spindle) : AtLink p l s (updSpin l g s) fs :=
  ⟨by simp [hideParts, updSpin, inner, hp], fun _ _ => rfl, fun _ _ _ _ => rfl, fun j hj => by rw [spinOf_updSpin, if_neg hj], fun _ _ => rfl,
    fun _ _ _ => rfl, only_refl s fs⟩

theorem atLink_updCrs (hp : p.carousels = true) (g : Carousel → Carousel) : AtLink p l s (updCrs (l - 32) g s) fs :=
  ⟨by simp [hideParts, updCrs, inner, hp], fun _ _ => rfl, fun _ _ _ _ => rfl, fun _ _ => rfl, fun j hj => by rw [crsOf_updCrs, if_neg hj],
    fun _ _ _ => rfl, only_refl s fs⟩

theorem atLink_updHead {h : Nat} (hp : p.heads = true) (hl : h / 2 = l) (g : Head → Head) : AtLink p l s (updHead h g s) fs :=
  ⟨by simp [hideParts, updHead, inner, hp], fun _ _ => rfl, fun _ _ _ _ => rfl, fun _ _ => rfl, fun _ _ => rfl,
    fun j _ hj => by rw [getHead_updHead, if_neg (by rintro rfl; exact hj hl)], only_refl s fs⟩

theorem atLink_takeForces (hp : p.force = true) (w : List Fld) : AtLink p l s (takeForces w s) fs := by
  obtain ⟨r, hr⟩ := takeForces_force w s
  refine ⟨by rw [hr]; simp [hideParts, inner, hp], ?_, ?_, ?_, ?_, ?_, fun f _ => get_takeForces w s f⟩ <;> rw [hr]
  exacts [fun _ _ => rfl, fun _ _ _ _ => rfl, fun _ _ => rfl, fun _ _ => rfl, fun _ _ _ => rfl]

theorem AtLink.thenBus (k : AtLink p l s t fs) (hp : p.buses = true) (g : BusLink → BusLink) : AtLink p l s (updBus l g t) fs := k.trans (atLink_updBus hp g)
theorem AtLink.thenAx {a : Nat} (k : AtLink p l s t fs) (hp : p.axes = true) (ha : a < 4) (g : Axis → Axis) : AtLink p l s (updAx l a g t) fs :=
  k.trans (atLink_updAx hp ha g)
theorem AtLink.thenSpin (k : AtLink p l s t fs) (hp : p.spindles = true) (g : Spindle → Spindle) : AtLink p l s (updSpin l g t) fs :=
  k.trans (atLink_updSpin hp g)
theorem AtLink.thenForces (k : AtLink p l s t fs) (hp : p.force = true) (w : List Fld) : AtLink p l s (takeForces w t) fs := k.trans (atLink_takeForces hp w)

/-! ### Parts that stay -/

theorem AtLink.buses (k : AtLink p l s t fs) (hp : p.buses = false) : t.buses = s.buses := by
  have e := congrArg State.buses k.rest
  simpa [hideParts, inner, hp] using e
theorem AtLink.axes (k : AtLink p l s t fs) (hp : p.axes = false) : t.axes = s.axes := by
  have e := congrArg State.axes k.rest
  simpa [hideParts, inner, hp] using e
theorem AtLink.spindles (k : AtLink p l s t fs) (hp : p.spindles = false) : t.spindles = s.spindles := by
  have e := congrArg State.spindles k.rest
  simpa [hideParts, inner, hp] using e

theorem AtLink.busOf (k : AtLink p l s t fs) (hp : p.buses = false) (j : Nat) : busOf t j = busOf s j := by
  rw [Machine.busOf, k.buses hp, ← Machine.busOf]
theorem AtLink.axOf (k : AtLink p l s t fs) (hp : p.axes = false) (j i : Nat) : axOf t j i = axOf s j i := by
  rw [Machine.axOf, k.axes hp, ← Machine.axOf]
theorem AtLink.spinOf (k : AtLink p l s t fs) (hp : p.spindles = false) (j : Nat) : spinOf t j = spinOf s j := by
  rw [Machine.spinOf, k.spindles hp, ← Machine.spinOf]

end frame

/-! ### Steppers -/

section steppers
variable {p : Parts} {b a : Nat} {s t : State} {fs : List Fld} {phB : Bool} {g : Nat}

theorem setGate_atLink (k : AtLink p b s t fs) (hb : p.buses = true) (ha : p.axes = true) (h4 : a < 4) (phB : Bool) (g : Nat) :
    AtLink p b s (setGate b a phB g t) fs := by
  unfold setGate sendGate
  exact AtLink.thenBus (k.thenAx ha h4 _) hb _

theorem setRefs_atLink (k : AtLink p b s t fs) (ha : p.axes = true) (h4 : a < 4) : AtLink p b s (setRefs b a t) fs := by
  unfold setRefs takeRefs
  exact AtLink.thenAx (AtLink.thenAx k ha h4 _) ha h4 _

theorem startDrive_atLink (k : AtLink p b s t fs) (hb : p.buses = true) (ha : p.axes = true) (hf : p.force = true) (h4 : a < 4) :
    AtLink p b s (startDrive b a t) fs :=
  setGate_atLink (setGate_atLink ((setRefs_atLink k ha h4).thenForces hf _) hb ha h4 _ _) hb ha h4 _ _

/-- What the stepper enable writes for one axis (R269, R270). -/
def stepAxFields (b a : Nat) : List Fld :=
  [F.MOV_AX_STATUS_STATE b a, F.MOV_AX_STATUS_BUSY b a, F.MOV_AX_STATUS_RESULT b a, F.MOV_AX_STATUS_POS_VALID b a,
    F.MOV_AX_SPEED b a, F.MOV_AX_POS b a, F.MOV_AX_ENC_POS b a]

theorem stepAxFields_subset (ha : a < 3) : stepAxFields b a ⊆ stepFields b := by
  intro f hf
  refine List.mem_append_right _ (List.mem_flatMap.2 ⟨a, ?_, hf⟩)
  interval_cases a <;> simp

theorem axEnter_atLink (k : AtLink p b s t (stepFields b)) (ha : a < 3) (st : Nat) : AtLink p b s (axEnter b a st t) (stepFields b) := by
  have h1 : AtLink p b s (put (F.MOV_AX_STATUS_STATE b a) st t) (stepFields b) := k.thenPut (stepAxFields_subset ha (by simp [stepAxFields]))
  unfold axEnter
  dsimp only
  split
  · exact h1.thenRaise (by simp [stepFields, evMOV]) (by simp [stepFields])
  · exact h1

theorem resync_atLink (k : AtLink p b s t (stepFields b)) (ha : a < 3) : AtLink p b s (resync b a t) (stepFields b) := by
  unfold resync
  split_ifs
  · exact k.thenPut (stepAxFields_subset ha (by simp [stepAxFields]))
  · exact k
  · exact k.thenPut (stepAxFields_subset ha (by simp [stepAxFields]))

theorem axResult_atLink (k : AtLink p b s t (stepFields b)) (ha : a < 3) (r : Nat) : AtLink p b s (axResult b a r t) (stepFields b) :=
  (k.thenPut (stepAxFields_subset ha (by simp [stepAxFields]))).thenPut (stepAxFields_subset ha (by simp [stepAxFields]))

theorem axHalt_atLink (k : AtLink p b s t (stepFields b)) (hx : p.axes = true) (ha : a < 3) : AtLink p b s (axHalt b a t) (stepFields b) :=
  AtLink.thenPut (k.thenAx hx (by omega) _) (stepAxFields_subset ha (by simp [stepAxFields]))

theorem endFollow_atLink (k : AtLink p b s t fs) (hx : p.axes = true) (hh : p.heads = true) (ha : a < 4) : AtLink p b s (endFollow b a t) fs := by
  have h1 : AtLink p b s (updAx b a (fun x => { x with follow := false }) t) fs := k.thenAx hx ha _
  unfold endFollow
  dsimp only
  split
  next h2 => exact h1.trans (atLink_updHead hh (by rw [sledHead]; omega) _)
  next => exact h1

theorem axOff_atLink (k : AtLink p b s t (stepFields b)) (hx : p.axes = true) (hh : p.heads = true) (ha : a < 3) :
    AtLink p b s (axOff b a t) (stepFields b) :=
  axEnter_atLink (AtLink.thenAx (axHalt_atLink (endFollow_atLink k hx hh (by omega)) hx ha) hx (by omega) _) ha 0

/-- A property of the three axes of a bay that each axis's step keeps. -/
theorem forAll_axes_atLink {f : Nat → State → State} (k : AtLink p b s t (stepFields b))
    (hf : ∀ a u, a < 3 → AtLink p b s u (stepFields b) → AtLink p b s (f a u) (stepFields b)) :
    AtLink p b s (forAll [0, 1, 2] f t) (stepFields b) :=
  forAll_induct (fun u => AtLink p b s u (stepFields b)) f _ t k fun a u ha => hf a u (by simp at ha; omega)

/-- The stepper enable wakes the axes that may leave OFF (R269, R270). -/
theorem axWake_atLink (k : AtLink p b s t (stepFields b)) (hb : p.buses = true) (hx : p.axes = true) (hf : p.force = true) :
    AtLink p b s (axWake b t) (stepFields b) := by
  refine forAll_axes_atLink k fun a u ha hu => ?_
  split
  · exact axEnter_atLink (startDrive_atLink (resync_atLink hu ha) hb hx hf (by omega)) ha 1
  · exact hu

theorem stepperOn_atLink (k : AtLink p b s t (stepFields b)) (hb : p.buses = true) (hx : p.axes = true) (hf : p.force = true) :
    AtLink p b s (stepperOn b t) (stepFields b) := axWake_atLink (k.thenBus hb _) hb hx hf

theorem stepperOff_atLink (k : AtLink p b s t (stepFields b)) (hb : p.buses = true) (hx : p.axes = true) (hh : p.heads = true) :
    AtLink p b s (stepperOff b t) (stepFields b) := by
  unfold stepperOff
  split
  · exact k
  · refine AtLink.thenRaise (forAll_axes_atLink (k.thenBus hb _) fun a u ha hu => ?_) (by simp [stepFields, evMOV]) (by simp [stepFields])
    dsimp only
    split
    · exact axOff_atLink (axResult_atLink hu ha 4) hx hh ha
    · exact axOff_atLink hu hx hh ha

/-! ### The record of a link through the steppers -/

@[simp] theorem busOf_put (f : Fld) (v j : Nat) (s : State) : busOf (put f v s) j = busOf s j := rfl
@[simp] theorem busOf_updAx (b a j : Nat) (g : Axis → Axis) (s : State) : busOf (updAx b a g s) j = busOf s j := rfl
@[simp] theorem busOf_updHead (h j : Nat) (g : Head → Head) (s : State) : busOf (updHead h g s) j = busOf s j := rfl
@[simp] theorem busOf_updSpin (b j : Nat) (g : Spindle → Spindle) (s : State) : busOf (updSpin b g s) j = busOf s j := rfl
@[simp] theorem busOf_putAll (w : List (Fld × Nat)) (j : Nat) (s : State) : busOf (putAll w s) j = busOf s j := busOf_of_inner (inner_putAll w s) j
@[simp] theorem busOf_raise (e : EvReg) (i j : Nat) (s : State) : busOf (raise e i s) j = busOf s j := busOf_of_inner (inner_raise e i s) j

@[simp] theorem busOf_axEnter (b a st j : Nat) (s : State) : busOf (axEnter b a st s) j = busOf s j := by
  unfold axEnter
  dsimp only
  split
  · rw [busOf_raise, busOf_put]
  · rfl

@[simp] theorem busOf_takeForces (w : List Fld) (j : Nat) (s : State) : busOf (takeForces w s) j = busOf s j := by
  obtain ⟨r, hr⟩ := takeForces_force w s
  rw [hr]
  rfl

@[simp] theorem busOf_resync (b a j : Nat) (s : State) : busOf (resync b a s) j = busOf s j := by
  unfold resync
  split_ifs <;> rfl

/-- A gate command is added to the codes of its link (R88). -/
theorem busOf_setGate (b a : Nat) (phB : Bool) (g : Nat) (s : State) :
    busOf (setGate b a phB g s) b = { busOf s b with codes := (busOf s b).codes ++ [gateCode a phB g] } := by
  rw [setGate, sendGate, busOf_updBus, if_pos rfl, busOf_updAx]

/-- The enables of a link outlast the start of a drive interval. -/
theorem stepEn_startDrive (b a : Nat) (s : State) : (busOf (startDrive b a s) b).stepEn = (busOf s b).stepEn := by
  rw [startDrive, busOf_setGate, busOf_setGate, busOf_takeForces, setRefs, busOf_updAx, takeRefs, busOf_updAx]

theorem stepEn_stepperOn (b : Nat) (s : State) : (busOf (stepperOn b s) b).stepEn = true := by
  refine forAll_induct (fun u => (busOf u b).stepEn = true) _ _ _ (by rw [busOf_updBus, if_pos rfl]) fun a u _ hu => ?_
  split
  · rw [busOf_axEnter, stepEn_startDrive, busOf_resync, hu]
  · exact hu

theorem busOf_axOff (b a j : Nat) (s : State) : busOf (axOff b a s) j = busOf s j := by
  have h1 : busOf (endFollow b a s) j = busOf s j := by
    unfold endFollow
    dsimp only
    split
    · rw [updServo, busOf_updHead, busOf_updAx]
    · rw [busOf_updAx]
  rw [axOff, busOf_axEnter, busOf_updAx, axHalt, showSpeed, putI, busOf_put, busOf_updAx, h1]

/-- The stepper enable falls and the rest of the link's record stays (R270). -/
theorem busOf_stepperOff (b : Nat) (s : State) : busOf (stepperOff b s) b = { busOf s b with stepEn := false } := by
  unfold stepperOff
  split
  next h0 => rw [← h0]
  next =>
    rw [busOf_raise]
    refine forAll_induct (fun u => busOf u b = { busOf s b with stepEn := false }) _ _ _ (by rw [busOf_updBus, if_pos rfl]) fun a u _ hu => ?_
    dsimp only
    rw [busOf_axOff]
    split
    · rw [axResult, busOf_put, busOf_put, hu]
    · exact hu

end steppers

/-! ### The spindle's state -/

section motor
variable {p : Parts} {b st : Nat} {s t : State} {fs : List Fld}

theorem motEnter_atLink (k : AtLink p b s t fs) (hb : p.buses = true) (hx : p.spindles = true) (hs : motFields b ⊆ fs) (st : Nat) :
    AtLink p b s (motEnter b st t) fs := by
  unfold motEnter
  extract_lets driven s1 s2
  have h1 : AtLink p b s s1 fs := AtLink.thenBus (AtLink.thenSpin (k.thenPut (hs (by simp [motFields]))) hx _) hb _
  have h2 : AtLink p b s s2 fs := by
    change AtLink p b s (if st = 3 then s1 else put (F.MOT_STATUS_SPEED_LOCK b) 0 s1) fs
    split
    · exact h1
    · exact h1.thenPut (hs (by simp [motFields]))
  split
  · exact h2
  · exact h2.thenRaise (hs (by simp [motFields, evMOT])) (hs (by simp [motFields]))

@[simp] theorem spinOf_put (f : Fld) (v j : Nat) (s : State) : spinOf (put f v s) j = spinOf s j := rfl
@[simp] theorem spinOf_updBus (l j : Nat) (g : BusLink → BusLink) (s : State) : spinOf (updBus l g s) j = spinOf s j := rfl
@[simp] theorem spinOf_raise (e : EvReg) (i j : Nat) (s : State) : spinOf (raise e i s) j = spinOf s j := spinOf_of_inner (inner_raise e i s) j
@[simp] theorem spinOf_putAll (w : List (Fld × Nat)) (j : Nat) (s : State) : spinOf (putAll w s) j = spinOf s j := spinOf_of_inner (inner_putAll w s) j

/-- What the entry of a spindle's state leaves of the record: the currents, the edges and the relink note. -/
structure SpinKept (x y : Spindle) : Prop where
  d      : y.mD = x.mD
  q      : y.mQ = x.mQ
  relink : y.relink = x.relink

theorem motEnter_spec (b st : Nat) (s : State) : busOf (motEnter b st s) b = { busOf s b with pwmEn := decide (st ∈ [1, 2, 3, 5, 7]) } ∧
    SpinKept (spinOf s b) (spinOf (motEnter b st s) b) := by
  unfold motEnter
  extract_lets driven s1 s2
  have hbus : busOf s2 b = { busOf s b with pwmEn := decide (st ∈ [1, 2, 3, 5, 7]) } := by
    have h1 : busOf s1 b = { busOf s b with pwmEn := decide (st ∈ [1, 2, 3, 5, 7]) } := by
      change busOf (updBus b _ _) b = _
      rw [busOf_updBus, if_pos rfl, busOf_updSpin, busOf_put]
    change busOf (if st = 3 then s1 else put (F.MOT_STATUS_SPEED_LOCK b) 0 s1) b = _
    split
    · exact h1
    · rw [busOf_put, h1]
  have hspin : SpinKept (spinOf s b) (spinOf s2 b) := by
    have h1 : SpinKept (spinOf s b) (spinOf s1 b) := by
      change SpinKept _ (spinOf (updBus b _ _) b)
      rw [spinOf_updBus, spinOf_updSpin, if_pos rfl, spinOf_put]
      exact ⟨rfl, rfl, rfl⟩
    change SpinKept _ (spinOf (if st = 3 then s1 else put (F.MOT_STATUS_SPEED_LOCK b) 0 s1) b)
    split
    · exact h1
    · rw [spinOf_put]
      exact h1
  split
  · exact ⟨hbus, hspin⟩
  · rw [busOf_raise, spinOf_raise]
    exact ⟨hbus, hspin⟩

end motor

end Sys2Proof.Proofs
end

section
/-! SUPPORT. How a bay or carousel link comes up and goes down, and its trips (R88, R91, R94, R95, R97, R98, R237, R248, R257, R270). -/

namespace Sys2Proof.Proofs

open Sys2Proof.Machine Sys2Proof.Laws

/-! ### Fields of a link -/

section fields
variable {l b : Nat} {s : State}

theorem linkInst_lt (hi : linkInst s l = true) : l < 36 := by
  unfold linkInst at hi
  split at hi
  · omega
  · simp only [Bool.and_eq_true, decide_eq_true_eq] at hi
    exact hi.1

theorem headEv_bl : HeadEv (evBL l) := ⟨by simp only [evBL, Fld.key, F.BL_EVT, F.EVT_LOG_HEAD]; omega, rfl⟩
theorem headEv_mot : HeadEv (evMOT b) := ⟨by simp only [evMOT, Fld.key, F.MOT_EVT, F.EVT_LOG_HEAD]; omega, rfl⟩

/-- What the steppers and the spindle of a link's bay write. -/
def bayMoveFields (l : Nat) : List Fld := stepFields l ++ motFields l

theorem link_apart : ∀ l < 36,
    (∀ f ∈ [F.BL_STATUS_STATE l, F.BL_STATUS_SAFE l, F.BL_CTRL_EN l, F.PWR_RESET_CAUSE_KIND],
      f.key ∉ (bayMoveFields l ++ evFields (evBL l)).map Fld.key) ∧
    (evBL l).evt.key ∉ (F.BL_STATUS_STATE l :: F.BL_STATUS_SAFE l :: F.BL_CTRL_EN l :: F.MOT_STATUS_FAULT_CAUSE l :: bayMoveFields l).map Fld.key ∧
    ([F.BL_STATUS_STATE l, F.BL_STATUS_SAFE l].map Fld.key).Nodup ∧
    (∀ f ∈ [F.BL_STATUS_STATE l, F.BL_STATUS_SAFE l], f.key ≠ (F.BL_CTRL_EN l).key ∧ f.key ≠ F.PWR_RESET_CAUSE_KIND.key) ∧
    F.CLK_TIME.key ≠ (F.BL_CTRL_EN l).key ∧ (evMOT l).evt.key ≠ (F.MOT_STATUS_FAULT_CAUSE l).key ∧
    (∀ f ∈ [F.MOT_STATUS_STATE l, F.MOT_STATUS_FAULT_CAUSE l], f.key ∉ (evFields (evMOT l)).map Fld.key) ∧
    (F.MOT_STATUS_STATE l).key ≠ (F.MOT_STATUS_FAULT_CAUSE l).key ∧
    (F.MOT_STATUS_STATE l).key ∉ (evFields (evBL l)).map Fld.key := by decide +kernel

end fields

/-! ### A link comes up -/

section up
variable {l : Nat} {s : State}

/-- The parts of the state that a link's coming up may change: its record, and on a bay link its bay's axes, their choppers' values and the
spindle. -/
def upParts : Parts := { buses := true, axes := true, spindles := true, force := true }

/-- The link is UP (R94). -/
def linkRaised (l : Nat) (s : State) : State :=
  raise (evBL l) B.BL_EVT_LINK_UP (put (F.BL_STATUS_STATE l) 3 (updBus l (fun k => { k with repeats := 0 }) s))

/-- The stepper enable follows, unless overvoltage is latched (R270). -/
def linkWoken (l : Nat) (s : State) : State :=
  if isSet s (F.CMOT_STATUS_OV_LATCHED (carOfBay s l)) then linkRaised l s else stepperOn l (linkRaised l s)

/-- A spindle that the link left turning is caught (R237). -/
def linkCaught (l : Nat) (s : State) : State :=
  if (spinOf s l).relink = true ∧ motSt s l = 6 then motEnter l 4 (updSpin l (fun x => { x with relink := false }) (linkWoken l s)) else linkWoken l s

theorem execBayLinkUp_eq (hi : linkInst s l = true) (hst : Machine.get s (F.BL_STATUS_STATE l) = 2) (hk : (busOf s l).known = true)
    (hrun : 16 ≤ (busOf s l).upRun) : execBayLinkUp l s = if 32 ≤ l then .next (linkRaised l s) else .next (linkCaught l s) :=
  if_neg (by simp [hi, hst, hk]; omega)

theorem linkRaised_spec (hl : l < 36) (s : State) :
    Machine.get (linkRaised l s) (F.BL_STATUS_STATE l) = 3 ∧ Raised (linkRaised l s) (evBL l) B.BL_EVT_LINK_UP ∧
      busOf (linkRaised l s) l = { busOf s l with repeats := 0 } := by
  obtain ⟨hkept, -⟩ := link_apart l hl
  have hstate := hkept (F.BL_STATUS_STATE l) (by simp)
  rw [List.map_append, List.mem_append, not_or] at hstate
  refine ⟨?_, raised_raise headEv_bl (by decide), ?_⟩
  · rw [linkRaised, (atLink_raise (p := {}) (l := l) (fs := evFields (evBL l)) (by simp [evFields]) (by simp [evFields])).get hstate.2]
    exact get_put_same ..
  · rw [linkRaised, busOf_raise, busOf_put, busOf_updBus, if_pos rfl]

theorem linkRaised_atLink {p : Parts} (hp : p.buses = true) (l : Nat) (s : State) :
    AtLink p l s (linkRaised l s) (F.BL_STATUS_STATE l :: evFields (evBL l)) :=
  AtLink.thenRaise (AtLink.thenPut (atLink_updBus hp _) (List.mem_cons_self ..)) (by simp [evFields]) (by simp [evFields])

theorem linkWoken_atLink (l : Nat) (s : State) : AtLink upParts l (linkRaised l s) (linkWoken l s) (stepFields l) := by
  unfold linkWoken
  split
  · exact AtLink.refl ..
  · exact stepperOn_atLink (AtLink.refl ..) rfl rfl rfl

theorem linkCaught_atLink (l : Nat) (s : State) : AtLink upParts l (linkRaised l s) (linkCaught l s) (bayMoveFields l) := by
  have h1 := (linkWoken_atLink l s).mono (gs := bayMoveFields l) (List.subset_append_left ..)
  unfold linkCaught
  split
  · exact motEnter_atLink (h1.thenSpin rfl _) rfl rfl (List.subset_append_right ..) 4
  · exact h1

theorem completes_bayLinkUp_carousel (hi : linkInst s l = true) (hst : Machine.get s (F.BL_STATUS_STATE l) = 2) (hk : (busOf s l).known = true)
    (hrun : 16 ≤ (busOf s l).upRun) (hc : 32 ≤ l) :
    Completes (.bayLinkUp l) s fun t =>
      Machine.get t (F.BL_STATUS_STATE l) = 3 ∧ Raised t (evBL l) B.BL_EVT_LINK_UP ∧ busOf t l = { busOf s l with repeats := 0 } ∧
      inner t = { inner s with buses := t.buses } ∧ OnlyBus l s t ∧ OnlyFields s t (F.BL_STATUS_STATE l :: evFields (evBL l)) := by
  obtain ⟨hstate, hev, hbus⟩ := linkRaised_spec (linkInst_lt hi) s
  have hframe := linkRaised_atLink (p := { buses := true }) rfl l s
  exact completes_of_exec ((execBayLinkUp_eq hi hst hk hrun).trans (if_pos hc)) ⟨hstate, hev, hbus,
    congrArg (fun u : State => { u with buses := (linkRaised l s).buses }) hframe.rest, hframe.bus, hframe.only⟩

theorem completes_bayLinkUp_bay (hi : linkInst s l = true) (hst : Machine.get s (F.BL_STATUS_STATE l) = 2) (hk : (busOf s l).known = true)
    (hrun : 16 ≤ (busOf s l).upRun) (hb : l < 32) :
    Completes (.bayLinkUp l) s fun t =>
      Machine.get t (F.BL_STATUS_STATE l) = 3 ∧ Raised t (evBL l) B.BL_EVT_LINK_UP ∧
      (Machine.get s (F.CMOT_STATUS_OV_LATCHED (carOfBay s l)) ≠ 1 → (busOf t l).stepEn = true) ∧
      ((spinOf s l).relink = true → motSt s l = 6 → motSt t l = 4 ∧ (spinOf t l).relink = false ∧ (busOf t l).pwmEn = false) ∧
      (Machine.get s (F.CMOT_STATUS_OV_LATCHED (carOfBay s l)) = 1 → (spinOf s l).relink = false →
        busOf t l = { busOf s l with repeats := 0 } ∧ inner t = { inner s with buses := t.buses } ∧ OnlyBus l s t ∧
        OnlyFields s t (F.BL_STATUS_STATE l :: evFields (evBL l))) ∧
      inner t = { inner s with buses := t.buses, axes := t.axes, spindles := t.spindles, force := t.force } ∧ OnlyBus l s t ∧ OnlyBayAx l s t ∧
      OnlySpin l s t ∧
      OnlyFields s t ([F.BL_STATUS_STATE l, F.MOT_STATUS_STATE l, F.MOT_STATUS_SPEED_LOCK l] ++ evFields (evBL l) ++ evFields (evMOT l) ++ stepFields l) := by
  have hl := linkInst_lt hi
  obtain ⟨hkept, hevt, -⟩ := link_apart l hl
  obtain ⟨hstate, hev, hbus⟩ := linkRaised_spec hl s
  have hside := hkept (F.BL_STATUS_STATE l) (by simp)
  rw [List.map_append, List.mem_append, not_or] at hside
  have hmove := linkCaught_atLink l s
  simp only [List.map_cons, List.mem_cons, not_or] at hevt
  have hframe : AtLink upParts l s (linkCaught l s) ([F.BL_STATUS_STATE l, F.MOT_STATUS_STATE l, F.MOT_STATUS_SPEED_LOCK l] ++ evFields (evBL l)
      ++ evFields (evMOT l) ++ stepFields l) :=
    ((linkRaised_atLink rfl l s).mono (by simp [evFields])).trans (hmove.mono fun f hf => by simp [bayMoveFields, motFields, evFields] at hf ⊢; tauto)
  refine completes_of_exec ((execBayLinkUp_eq hi hst hk hrun).trans (if_neg (by omega))) ⟨(hmove.get hside.1).trans hstate,
    raised_of_get (hmove.get hevt.2.2.2.2) hev, fun hov => ?_, fun hr hm => ?_, fun hov hr => ?_,
    congrArg (fun u : State => { u with
      buses := (linkCaught l s).buses, axes := (linkCaught l s).axes, spindles := (linkCaught l s).spindles, force := (linkCaught l s).force }) hframe.rest,
    hframe.bus, hframe.ax, hframe.spin, hframe.only⟩
  · have hwoken : (busOf (linkWoken l s) l).stepEn = true := by
      rw [linkWoken, if_neg (by simp [isSet, hov])]
      exact stepEn_stepperOn l _
    unfold linkCaught
    split
    · rw [(motEnter_spec l 4 _).1, busOf_updSpin]
      exact hwoken
    · exact hwoken
  · obtain ⟨hpwm, hspin⟩ := motEnter_spec l 4 (updSpin l (fun x => { x with relink := false }) (linkWoken l s))
    rw [linkCaught, if_pos ⟨hr, hm⟩, hpwm, hspin.relink, spinOf_updSpin, if_pos rfl]
    exact ⟨motSt_motEnter hb 4 _, rfl, rfl⟩
  · have hsame : linkCaught l s = linkRaised l s := by
      rw [linkCaught, if_neg (by simp [hr]), linkWoken, if_pos (show isSet s _ = true from decide_eq_true hov)]
    have hlow := linkRaised_atLink (p := { buses := true }) rfl l s
    rw [hsame]
    exact ⟨hbus, congrArg (fun u : State => { u with buses := (linkRaised l s).buses }) hlow.rest, hlow.bus, hlow.only⟩

end up

/-! ### A link goes down -/

section down
variable {l st : Nat} {s : State}

/-- The parts that a link's going down may change: its record, and on a bay link its bay's axes and heads. -/
def downParts : Parts := { buses := true, axes := true, heads := true }

/-- The record of a link that has gone down (R95). -/
def droppedBus (s : State) (k : BusLink) : BusLink :=
  { k with upRun := 0, downRun := 0, known := false, pwmEn := false, sent := [], codes := [], act := [], trainAt := now s }

/-- LINK_DOWN is set for a link that was up (R97). -/
def downNoted (l : Nat) (s : State) : State := if Machine.get s (F.BL_STATUS_STATE l) = 3 then raise (evBL l) B.BL_EVT_LINK_DOWN s else s

theorem downNoted_within (l : Nat) (s : State) : Within s (downNoted l s) (evFields (evBL l)) := by
  unfold downNoted
  split
  · exact within_raise (within_refl s _) (by simp [evFields]) (by simp [evFields])
  · exact within_refl s _

/-- The link's state and its expander's safe state before the stepper enable falls (R95). -/
def linkDropped (l st : Nat) (s : State) : State :=
  putAll [(F.BL_STATUS_STATE l, st), (F.BL_STATUS_SAFE l, 1)] (updBus l (droppedBus s) (downNoted l s))

theorem linkDown_eq (l st : Nat) (s : State) : linkDown l st s = if l < 32 then stepperOff l (linkDropped l st s) else linkDropped l st s := rfl

theorem linkDown_stepFields (l st : Nat) (s : State) : AtLink downParts l (linkDropped l st s) (linkDown l st s) (stepFields l) := by
  rw [linkDown_eq]
  split
  · exact stepperOff_atLink (AtLink.refl ..) rfl rfl rfl
  · exact AtLink.refl ..

/-- What a link's going down writes. -/
def downFields (l : Nat) : List Fld := [F.BL_STATUS_STATE l, F.BL_STATUS_SAFE l] ++ evFields (evBL l) ++ stepFields l

theorem linkDown_atLink (l st : Nat) (s : State) : AtLink downParts l s (linkDown l st s) (downFields l) :=
  ((atLink_of_within (downNoted_within l s)).mono fun f hf => by simp [downFields, hf]).trans
    ((AtLink.thenPutAll (atLink_updBus rfl _) (by simp [downFields])).trans ((linkDown_stepFields l st s).mono fun f hf => by simp [downFields, hf]))

theorem busOf_linkDropped (l st : Nat) (s : State) : busOf (linkDropped l st s) l = droppedBus s (busOf s l) := by
  rw [linkDropped, busOf_putAll, busOf_updBus, if_pos rfl, busOf_of_inner (downNoted_within l s).1, droppedBus]

/-- The record of the link but for the stepper enable, which falls on a bay link (R95, R270). -/
theorem busOf_linkDown (l st : Nat) (s : State) :
    busOf (linkDown l st s) l = if l < 32 then { droppedBus s (busOf s l) with stepEn := false } else droppedBus s (busOf s l) := by
  rw [linkDown_eq]
  split
  · rw [busOf_stepperOff, busOf_linkDropped]
  · exact busOf_linkDropped l st s

theorem get_linkDown (hl : l < 36) (st : Nat) (s : State) :
    Machine.get (linkDown l st s) (F.BL_STATUS_STATE l) = trunc 3 st ∧ Machine.get (linkDown l st s) (F.BL_STATUS_SAFE l) = 1 := by
  obtain ⟨hkept, -, hnodup, -⟩ := link_apart l hl
  have hstep {f : Fld} (hf : f ∈ [F.BL_STATUS_STATE l, F.BL_STATUS_SAFE l]) : Machine.get (linkDown l st s) f = Machine.get (linkDropped l st s) f :=
    (linkDown_stepFields l st s).get fun hm => hkept f (by simp at hf ⊢; tauto) (by
      rw [List.map_append, List.mem_append, bayMoveFields, List.map_append, List.mem_append]
      exact .inl (.inl hm))
  constructor
  · rw [hstep (by simp)]
    exact get_putAll_mem hnodup (by simp)
  · rw [hstep (by simp)]
    exact get_putAll_mem hnodup (v := 1) (by simp)

theorem raised_linkDown (hl : l < 36) (hst : Machine.get s (F.BL_STATUS_STATE l) = 3) (st : Nat) :
    Raised (linkDown l st s) (evBL l) B.BL_EVT_LINK_DOWN := by
  obtain ⟨-, hevt, -⟩ := link_apart l hl
  have hnoted : Raised (downNoted l s) (evBL l) B.BL_EVT_LINK_DOWN := by
    rw [downNoted, if_pos hst]
    exact raised_raise headEv_bl (by decide)
  have hput : AtLink downParts l (downNoted l s) (linkDropped l st s) [F.BL_STATUS_STATE l, F.BL_STATUS_SAFE l] :=
    AtLink.thenPutAll (atLink_updBus rfl _) (by simp)
  simp only [List.map_cons, List.mem_cons, not_or] at hevt
  obtain ⟨h1, h2, -, -, hmove⟩ := hevt
  rw [bayMoveFields, List.map_append, List.mem_append, not_or] at hmove
  exact raised_of_get (((linkDown_stepFields l st s).get hmove.1).trans (hput.get (by simp [h1, h2]))) hnoted

/-- Three periods without a header take the link down (R95). -/
theorem completes_bayLinkDown (hi : linkInst s l = true) (hup : linkUp s l = true) (hrun : 3 ≤ (busOf s l).downRun) :
    Completes (.bayLinkDown l) s fun t =>
      Machine.get t (F.BL_STATUS_STATE l) = 0 ∧ Machine.get t (F.BL_STATUS_SAFE l) = 1 ∧ Raised t (evBL l) B.BL_EVT_LINK_DOWN ∧
      (busOf t l).known = false ∧ (busOf t l).pwmEn = false ∧ (l < 32 → (busOf t l).stepEn = false) ∧
      inner t = { inner s with buses := t.buses, axes := t.axes, heads := t.heads } ∧ OnlyBus l s t ∧ OnlyBayAx l s t ∧
      (∀ h < 64, h / 2 ≠ l → getHead t h = getHead s h) ∧ OnlyFields s t (downFields l) := by
  have hl := linkInst_lt hi
  obtain ⟨hstate, hsafe⟩ := get_linkDown hl 0 s
  have hframe := linkDown_atLink l 0 s
  refine completes_of_exec (if_neg (by simp [hi, hup]; omega)) ⟨hstate, hsafe, raised_linkDown hl (by simpa [linkUp] using hup) 0, ?_, ?_, fun hb => ?_,
    congrArg (fun u : State => { u with buses := (linkDown l 0 s).buses, axes := (linkDown l 0 s).axes, heads := (linkDown l 0 s).heads }) hframe.rest,
    hframe.bus, hframe.ax, hframe.heads, hframe.only⟩
  · rw [busOf_linkDown]
    split <;> rfl
  · rw [busOf_linkDown]
    split <;> rfl
  · rw [busOf_linkDown, if_pos hb]

/-- EN 0 takes the link down (R97). -/
theorem completes_blEnable_off {en : Nat} (hi : linkInst s l = true) (hen : en % 2 = 0) :
    Completes (.blEnable l en) s fun t =>
      Machine.get t (F.BL_CTRL_EN l) = 0 ∧ Machine.get t (F.BL_STATUS_STATE l) = 0 ∧ Machine.get t (F.BL_STATUS_SAFE l) = 1 ∧
      (busOf t l).pwmEn = false ∧ inner t = { inner s with buses := t.buses, axes := t.axes, heads := t.heads } ∧ OnlyBus l s t ∧ OnlyBayAx l s t ∧
      (∀ h < 64, h / 2 ≠ l → getHead t h = getHead s h) ∧
      OnlyFields s t ([F.BL_CTRL_EN l, F.BL_STATUS_STATE l, F.BL_STATUS_SAFE l] ++ evFields (evBL l) ++ stepFields l) := by
  have hl := linkInst_lt hi
  obtain ⟨hkept, -, -, hne, -⟩ := link_apart l hl
  obtain ⟨hstate, hsafe⟩ := get_linkDown hl 0 (put (F.BL_CTRL_EN l) en s)
  have hdown := linkDown_atLink l 0 (put (F.BL_CTRL_EN l) en s)
  have hframe : AtLink downParts l s (linkDown l 0 (put (F.BL_CTRL_EN l) en s)) (F.BL_CTRL_EN l :: downFields l) :=
    (atLink_put (List.mem_cons_self ..)).trans (hdown.mono (List.subset_cons_self ..))
  have hfield : (F.BL_CTRL_EN l).key ∉ (downFields l).map Fld.key := by
    have h1 := hkept (F.BL_CTRL_EN l) (by simp)
    have h2 := (hne (F.BL_STATUS_STATE l) (by simp)).1
    have h3 := (hne (F.BL_STATUS_SAFE l) (by simp)).1
    simp only [bayMoveFields, downFields, List.map_append, List.mem_append, List.map_cons, List.map_nil, List.mem_cons, List.not_mem_nil, not_or,
      or_false] at h1 ⊢
    exact ⟨⟨⟨h2.symm, h3.symm⟩, h1.2⟩, h1.1.1⟩
  refine completes_of_exec ((if_neg (by simp [hi])).trans (if_pos hen)) ⟨(hdown.get hfield).trans ((get_put_same ..).trans hen), hstate, hsafe, ?_,
    congrArg (fun u : State => { u with
      buses := (linkDown l 0 (put (F.BL_CTRL_EN l) en s)).buses, axes := (linkDown l 0 (put (F.BL_CTRL_EN l) en s)).axes,
      heads := (linkDown l 0 (put (F.BL_CTRL_EN l) en s)).heads }) hframe.rest,
    hframe.bus, hframe.ax, hframe.heads, hframe.only⟩
  rw [busOf_linkDown]
  split <;> rfl

/-- RETRAIN takes the link down and starts its training (R97). -/
theorem completes_blRetrain (hi : linkInst s l = true) (hen : Machine.get s (F.BL_CTRL_EN l) ≠ 0) :
    Completes (.blRetrain l) s fun t =>
      Machine.get t (F.BL_STATUS_STATE l) = 1 ∧ Machine.get t (F.BL_STATUS_SAFE l) = 1 ∧ Machine.get t F.PWR_RESET_CAUSE_KIND = 6 ∧
      (busOf t l).trainAt = now s ∧ (busOf t l).pwmEn = false ∧
      inner t = { inner s with buses := t.buses, axes := t.axes, heads := t.heads } ∧ OnlyBus l s t ∧ OnlyBayAx l s t ∧
      (∀ h < 64, h / 2 ≠ l → getHead t h = getHead s h) ∧
      OnlyFields s t ([F.PWR_RESET_CAUSE_KIND, F.BL_STATUS_STATE l, F.BL_STATUS_SAFE l] ++ evFields (evBL l) ++ stepFields l) := by
  have hl := linkInst_lt hi
  obtain ⟨hkept, -, -, hne, -⟩ := link_apart l hl
  obtain ⟨hstate, hsafe⟩ := get_linkDown hl 1 (unitReset s)
  have hdown := linkDown_atLink l 1 (unitReset s)
  have hframe : AtLink downParts l s (linkDown l 1 (unitReset s)) (F.PWR_RESET_CAUSE_KIND :: downFields l) :=
    (atLink_put (List.mem_cons_self ..)).trans (hdown.mono (List.subset_cons_self ..))
  have hfield : F.PWR_RESET_CAUSE_KIND.key ∉ (downFields l).map Fld.key := by
    have h1 := hkept F.PWR_RESET_CAUSE_KIND (by simp)
    have h2 := (hne (F.BL_STATUS_STATE l) (by simp)).2
    have h3 := (hne (F.BL_STATUS_SAFE l) (by simp)).2
    simp only [bayMoveFields, downFields, List.map_append, List.mem_append, List.map_cons, List.map_nil, List.mem_cons, List.not_mem_nil, not_or,
      or_false] at h1 ⊢
    exact ⟨⟨⟨h2.symm, h3.symm⟩, h1.2⟩, h1.1.1⟩
  have htime : now (unitReset s) = now s := get_put_ne _ _ _ _ (by decide)
  refine completes_of_exec (if_neg (by simp [hi, hen])) ⟨hstate, hsafe, (hdown.get hfield).trans (get_put_same ..), ?_, ?_,
    congrArg (fun u : State => { u with
      buses := (linkDown l 1 (unitReset s)).buses, axes := (linkDown l 1 (unitReset s)).axes, heads := (linkDown l 1 (unitReset s)).heads }) hframe.rest,
    hframe.bus, hframe.ax, hframe.heads, hframe.only⟩
  · rw [busOf_linkDown, ← htime]
    split <;> rfl
  · rw [busOf_linkDown]
    split <;> rfl

/-! ### Training -/

theorem busOf_startTraining (l : Nat) (s : State) : busOf (startTraining l s) l = { busOf s l with known := false, upRun := 0, trainAt := now s } := by
  rw [startTraining, busOf_updBus, if_pos rfl, busOf_put]

theorem startTraining_atLink {p : Parts} (hp : p.buses = true) (l : Nat) (s : State) : AtLink p l s (startTraining l s) [F.BL_STATUS_STATE l] :=
  (atLink_put (List.mem_cons_self ..)).thenBus hp _

theorem get_startTraining (l : Nat) (s : State) : Machine.get (startTraining l s) (F.BL_STATUS_STATE l) = 1 := by
  unfold startTraining
  exact get_put_same (F.BL_STATUS_STATE l) 1 s

theorem completes_bayTrainingRestart (hi : linkInst s l = true) (hen : Machine.get s (F.BL_CTRL_EN l) ≠ 0)
    (hst : Machine.get s (F.BL_STATUS_STATE l) ≤ 2) (hlate : elapsed s (busOf s l).trainAt 15625000 = true) :
    Completes (.bayTrainingRestart l) s fun t =>
      Machine.get t (F.BL_STATUS_STATE l) = 1 ∧ busOf t l = { busOf s l with known := false, upRun := 0, trainAt := now s } ∧
      inner t = { inner s with buses := t.buses } ∧ OnlyBus l s t ∧ OnlyFields s t [F.BL_STATUS_STATE l] := by
  have hframe := startTraining_atLink (p := { buses := true }) rfl l s
  exact completes_of_exec (if_neg (by simp [hi, hen, hlate]; omega)) ⟨get_startTraining l s, busOf_startTraining l s,
    congrArg (fun u : State => { u with buses := (startTraining l s).buses }) hframe.rest, hframe.bus, hframe.only⟩

/-- EN 1 starts the training of a link that is off (R94, R97). -/
theorem completes_blEnable_on {en : Nat} (hi : linkInst s l = true) (hen : en % 2 = 1) :
    Completes (.blEnable l en) s fun t =>
      Machine.get t (F.BL_CTRL_EN l) = 1 ∧
      (Machine.get s (F.BL_STATUS_STATE l) = 0 → Machine.get t (F.BL_STATUS_STATE l) = 1 ∧
        busOf t l = { busOf s l with known := false, upRun := 0, trainAt := now s }) ∧
      (Machine.get s (F.BL_STATUS_STATE l) ≠ 0 → Within s t [F.BL_CTRL_EN l]) ∧
      inner t = { inner s with buses := t.buses } ∧ OnlyBus l s t ∧ OnlyFields s t [F.BL_CTRL_EN l, F.BL_STATUS_STATE l] := by
  obtain ⟨-, -, -, hne, htime, -⟩ := link_apart l (linkInst_lt hi)
  have hstate := (hne (F.BL_STATUS_STATE l) (by simp)).1
  have hput : Within s (put (F.BL_CTRL_EN l) en s) [F.BL_CTRL_EN l] := within_put (within_refl s _) (List.mem_cons_self ..)
  have hone : Machine.get (put (F.BL_CTRL_EN l) en s) (F.BL_CTRL_EN l) = 1 := (get_put_same ..).trans hen
  by_cases h0 : Machine.get s (F.BL_STATUS_STATE l) = 0
  · have htrain := startTraining_atLink (p := { buses := true }) rfl l (put (F.BL_CTRL_EN l) en s)
    have hframe : AtLink { buses := true } l s (startTraining l (put (F.BL_CTRL_EN l) en s)) [F.BL_CTRL_EN l, F.BL_STATUS_STATE l] :=
      ((atLink_of_within hput).mono (by simp)).trans (htrain.mono (by simp))
    refine completes_of_exec ((if_neg (by simp [hi])).trans ((if_neg (by omega)).trans (if_pos h0))) ⟨?_, fun _ => ⟨get_startTraining .., ?_⟩,
      fun hno => absurd h0 hno, congrArg (fun u : State => { u with buses := (startTraining l (put (F.BL_CTRL_EN l) en s)).buses }) hframe.rest,
      hframe.bus, hframe.only⟩
    · rw [htrain.get (by simpa using hstate.symm), hone]
    · rw [busOf_startTraining, busOf_put, now, get_put_ne _ _ _ _ htime, ← now]
  · exact completes_of_exec ((if_neg (by simp [hi])).trans ((if_neg (by omega)).trans (if_neg h0))) ⟨hone, fun h => absurd h h0, fun _ => hput, rfl,
      fun _ _ => rfl, only_mono hput.2 fun f hf => by simp at hf; simp [hf]⟩

end down

/-! ### Trips and overcurrents -/

section codes
variable {l b a d nd ns : Nat} {s : State} {phB : Bool}

theorem linkInst_bay (hi : bayInst s b = true) : linkInst s b = true := by
  rw [linkInst, if_pos (bayInst_lt hi)]
  exact hi

/-- A code with a bad complement is only counted (R91, R96). -/
theorem badCode_spec (l : Nat) (s : State) :
    Machine.get (badCode l s) (F.BL_CODE_ERR l) = trunc 32 (satAdd 32 (Machine.get s (F.BL_CODE_ERR l)) 1) ∧ Within s (badCode l s) [F.BL_CODE_ERR l] :=
  ⟨get_bump_same .., within_put (within_refl s _) (List.mem_cons_self ..)⟩

theorem completes_comparatorTrip_bad (hi : bayInst s b = true) (hc : codeGood d nd = false) :
    Completes (.comparatorTrip b d nd ns) s fun t =>
      Machine.get t (F.BL_CODE_ERR b) = trunc 32 (satAdd 32 (Machine.get s (F.BL_CODE_ERR b)) 1) ∧ Within s t [F.BL_CODE_ERR b] :=
  completes_of_exec ((if_neg (by simp [hi])).trans (if_pos hc)) (badCode_spec b s)

theorem completes_overcurrent_bad (hi : linkInst s l = true) (hc : codeGood d nd = false) :
    Completes (.overcurrent l d nd) s fun t =>
      Machine.get t (F.BL_CODE_ERR l) = trunc 32 (satAdd 32 (Machine.get s (F.BL_CODE_ERR l)) 1) ∧ Within s t [F.BL_CODE_ERR l] :=
  completes_of_exec ((if_neg (by simp [hi])).trans (if_pos hc)) (badCode_spec l s)

theorem get_setGate (b a : Nat) (phB : Bool) (g : Nat) (s : State) (f : Fld) : Machine.get (setGate b a phB g s) f = Machine.get s f := rfl

/-- The record of an axis that takes a gate command at time `n` (R257). -/
def gateTaken (phB : Bool) (g n : Nat) (x : Axis) : Axis :=
  if phB then { x with gateB := g, sinceB := if g = 3 ∧ x.gateB = 4 then x.sinceB else n }
  else { x with gateA := g, sinceA := if g = 3 ∧ x.gateA = 4 then x.sinceA else n }

theorem axOf_setGate (b a : Nat) (phB : Bool) (g : Nat) (s : State) (j i : Nat) :
    axOf (setGate b a phB g s) j i = if 4 * j + i = 4 * b + a then gateTaken phB g (now s) (axOf s b a) else axOf s j i :=
  axOf_updAx b a j i (gateTaken phB g (now s)) s

/-- The gate of a phase after a command of fast decay (R257). -/
theorem axOf_setGate_fast (b a : Nat) (phB : Bool) (s : State) :
    gateOf (axOf (setGate b a phB 4 s) b a) phB = 4 ∧ gateSince (axOf (setGate b a phB 4 s) b a) phB = now s := by
  rw [axOf_setGate, if_pos rfl]
  cases phB <;> exact ⟨rfl, rfl⟩

theorem onlyAx_setGate (ha : a < 4) (phB : Bool) (g : Nat) (s : State) : OnlyAx b a s (setGate b a phB g s) := fun j i hne hi => by
  rw [axOf_setGate, if_neg fun e => hne (by rw [Prod.mk.injEq]; omega)]

/-- A trip ends the drive interval of a phase that is driven, and is counted (R257). -/
theorem tripPhase_spec (hx : axInst s b a = true) (hg : gateOf (axOf s b a) phB = 1 ∨ gateOf (axOf s b a) phB = 2) :
    gateOf (axOf (tripPhase b a phB s) b a) phB = 4 ∧ gateSince (axOf (tripPhase b a phB s) b a) phB = now s ∧
      (busOf (tripPhase b a phB s) b).codes = (busOf s b).codes ++ [gateCode a phB 4] ∧
      Machine.get (tripPhase b a phB s) (F.MOV_AX_TRIPS b a) = trunc 32 (satAdd 32 (Machine.get s (F.MOV_AX_TRIPS b a)) 1) ∧
      inner (tripPhase b a phB s) = { inner s with axes := (tripPhase b a phB s).axes, buses := (tripPhase b a phB s).buses } ∧
      OnlyAx b a s (tripPhase b a phB s) ∧ OnlyBus b s (tripPhase b a phB s) ∧ OnlyFields s (tripPhase b a phB s) [F.MOV_AX_TRIPS b a] := by
  have ha : a < 3 := by
    simp only [axInst, Bool.and_eq_true, decide_eq_true_eq] at hx
    exact hx.2
  have he : tripPhase b a phB s = setGate b a phB 4 (bump (F.MOV_AX_TRIPS b a) 1 s) := if_neg (by simp [hx]; tauto)
  have htime : now (bump (F.MOV_AX_TRIPS b a) 1 s) = now s := get_bump_ne (by
    simp only [Fld.key, F.CLK_TIME, F.MOV_AX_TRIPS]
    omega)
  have hput : AtLink { axes := true, buses := true } b s (bump (F.MOV_AX_TRIPS b a) 1 s) [F.MOV_AX_TRIPS b a] := atLink_put (List.mem_cons_self ..)
  have hframe : AtLink { axes := true, buses := true } b s (setGate b a phB 4 (bump (F.MOV_AX_TRIPS b a) 1 s)) [F.MOV_AX_TRIPS b a] :=
    setGate_atLink hput rfl rfl (by omega) phB 4
  obtain ⟨hgate, hsince⟩ := axOf_setGate_fast b a phB (bump (F.MOV_AX_TRIPS b a) 1 s)
  rw [he]
  refine ⟨hgate, hsince.trans htime, ?_, ?_,
    congrArg (fun u : State => { u with
      axes := (setGate b a phB 4 (bump (F.MOV_AX_TRIPS b a) 1 s)).axes, buses := (setGate b a phB 4 (bump (F.MOV_AX_TRIPS b a) 1 s)).buses }) hframe.rest,
    fun j i hne hi => onlyAx_setGate (by omega) phB 4 _ j i hne hi, hframe.bus, hframe.only⟩
  · rw [busOf_setGate, bump, busOf_put]
  · rw [get_setGate]
    exact get_bump_same ..

theorem completes_comparatorTrip (hi : bayInst s b = true) (hc : codeGood d nd = true) (hd : d % 32 = 1) (ha : d / 64 % 4 = a)
    (hph : bitOf d 5 = (if phB then 1 else 0)) :
    Completes (.comparatorTrip b d nd ns) s fun t =>
      (axInst s b a = true → gateOf (axOf s b a) phB = 1 ∨ gateOf (axOf s b a) phB = 2 → 250 * inForce s (F.MOV_CHOP_T_BLANK b) ≤ ns →
        gateOf (axOf t b a) phB = 4 ∧ gateSince (axOf t b a) phB = now s ∧ (busOf t b).codes = (busOf s b).codes ++ [gateCode a phB 4] ∧
        Machine.get t (F.MOV_AX_TRIPS b a) = trunc 32 (satAdd 32 (Machine.get s (F.MOV_AX_TRIPS b a)) 1) ∧
        inner t = { inner s with axes := t.axes, buses := t.buses } ∧ OnlyAx b a s t ∧ OnlyBus b s t ∧ OnlyFields s t [F.MOV_AX_TRIPS b a]) ∧
      (axInst s b a = false ∨ (gateOf (axOf s b a) phB ≠ 1 ∧ gateOf (axOf s b a) phB ≠ 2) ∨ ns < 250 * inForce s (F.MOV_CHOP_T_BLANK b) → t = s) := by
  have hphase : decide (bitOf d 5 = 1) = phB := by cases phB <;> simp [hph]
  have he : execComparatorTrip b d nd ns s
      = if d % 32 ≠ 1 ∨ ns < 250 * inForce s (F.MOV_CHOP_T_BLANK b) then .next s else .next (tripPhase b a phB s) := by
    rw [execComparatorTrip, if_neg (by simp [hi]), if_neg (by simp [hc]), ha, hphase]
  by_cases hblank : ns < 250 * inForce s (F.MOV_CHOP_T_BLANK b)
  · exact completes_of_exec (he.trans (if_pos (.inr hblank))) ⟨fun _ _ hns => absurd hns (by omega), fun _ => rfl⟩
  · refine completes_of_exec (he.trans (if_neg (by rintro (h | h); exacts [h hd, hblank h]))) ⟨fun hx hg _ => tripPhase_spec hx hg, ?_⟩
    rintro (hx | hg | hns)
    · exact if_pos (.inl hx)
    · exact if_pos (.inr hg)
    · exact absurd hns hblank

/-- The overcurrent is raised on its link (R98). -/
def overcurrentNoted (l : Nat) (s : State) : State := raise (evBL l) B.BL_EVT_OVERCURRENT s

theorem overcurrentNoted_within (l : Nat) (s : State) : Within s (overcurrentNoted l s) (evFields (evBL l)) :=
  within_raise (within_refl s _) (by simp [evFields]) (by simp [evFields])

/-- The spindle stops with cause 2 (R239, R248). -/
def spindleTripped (l : Nat) (s : State) : State :=
  raise (evMOT l) B.MOT_EVT_OVERCURRENT (put (F.MOT_STATUS_FAULT_CAUSE l) 2 (motEnter l 8 (overcurrentNoted l s)))

theorem spindleTripped_atLink (l : Nat) (s : State) : AtLink { buses := true, spindles := true } l s (spindleTripped l s)
    ([F.MOT_STATUS_STATE l, F.MOT_STATUS_SPEED_LOCK l, F.MOT_STATUS_FAULT_CAUSE l] ++ evFields (evBL l) ++ evFields (evMOT l)) :=
  AtLink.thenRaise (AtLink.thenPut (motEnter_atLink ((atLink_of_within (overcurrentNoted_within l s)).mono (by simp [evFields])) rfl rfl
    (by simp [motFields, evFields, evMOT]) 8) (by simp)) (by simp [evFields]) (by simp [evFields])

theorem spindleTripped_spec (hl : l < 32) (s : State) : motSt (spindleTripped l s) l = 8 ∧ Machine.get (spindleTripped l s) (F.MOT_STATUS_FAULT_CAUSE l) = 2 ∧
    Raised (spindleTripped l s) (evMOT l) B.MOT_EVT_OVERCURRENT ∧ (busOf (spindleTripped l s) l).pwmEn = false ∧
    Raised (spindleTripped l s) (evBL l) B.BL_EVT_OVERCURRENT := by
  obtain ⟨-, hevt, -, -, -, -, hmot, hne, -⟩ := link_apart l (by omega)
  have hev (u : State) {f : Fld} (hf : f.key ∉ (evFields (evMOT l)).map Fld.key) : Machine.get (raise (evMOT l) B.MOT_EVT_OVERCURRENT u) f = Machine.get u f :=
    (atLink_raise (p := {}) (l := l) (fs := evFields (evMOT l)) (by simp [evFields]) (by simp [evFields])).get hf
  refine ⟨?_, ?_, raised_raise headEv_mot (by decide), ?_, ?_⟩
  · rw [motSt, spindleTripped, hev _ (hmot _ (by simp)), get_put_ne _ _ _ _ hne]
    exact motSt_motEnter hl 8 _
  · rw [spindleTripped, hev _ (hmot _ (by simp)), get_put_same]
    rfl
  · rw [spindleTripped, busOf_raise, busOf_put, (motEnter_spec l 8 _).1]
    rfl
  · have hframe : AtLink { buses := true, spindles := true } l (overcurrentNoted l s) (spindleTripped l s) (F.MOT_STATUS_FAULT_CAUSE l :: motFields l) :=
      AtLink.thenRaise (AtLink.thenPut (motEnter_atLink (AtLink.refl ..) rfl rfl (List.subset_cons_self ..) 8) (List.mem_cons_self ..))
        (by simp [motFields, evMOT]) (by simp [motFields])
    refine raised_of_get (hframe.get ?_) (raised_raise headEv_bl (by decide))
    simp only [bayMoveFields, List.map_cons, List.mem_cons, List.map_append, List.mem_append, not_or] at hevt ⊢
    exact ⟨hevt.2.2.2.1, hevt.2.2.2.2.2⟩

/-- An overcurrent switches the named axis driver off, or stops the spindle (R91, R98, R248). -/
theorem completes_overcurrent (hi : linkInst s l = true) (hc : codeGood d nd = true) (hd : d % 32 = 2) (ha : a = d / 64 % 4) :
    Completes (.overcurrent l d nd) s fun t =>
      Raised t (evBL l) B.BL_EVT_OVERCURRENT ∧
      (32 ≤ l → Within s t (evFields (evBL l))) ∧
      (l < 32 → a < 3 → axOf t l a = { axOf s l a with gateA := 0, gateB := 0 } ∧
        inner t = { inner s with axes := t.axes } ∧ OnlyAx l a s t ∧ OnlyFields s t (evFields (evBL l))) ∧
      (l < 32 → a = 3 → motSt s l ≠ 0 → motSt s l ≠ 8 →
        motSt t l = 8 ∧ Machine.get t (F.MOT_STATUS_FAULT_CAUSE l) = 2 ∧ Raised t (evMOT l) B.MOT_EVT_OVERCURRENT ∧ (busOf t l).pwmEn = false ∧
        inner t = { inner s with buses := t.buses, spindles := t.spindles } ∧ OnlyBus l s t ∧ OnlySpin l s t ∧
        OnlyFields s t ([F.MOT_STATUS_STATE l, F.MOT_STATUS_SPEED_LOCK l, F.MOT_STATUS_FAULT_CAUSE l] ++ evFields (evBL l) ++ evFields (evMOT l))) := by
  have hnoted := overcurrentNoted_within l s
  have hraised : Raised (overcurrentNoted l s) (evBL l) B.BL_EVT_OVERCURRENT := raised_raise headEv_bl (by decide)
  have he : execOvercurrent l d nd s = if 32 ≤ l then .next (overcurrentNoted l s)
      else if a < 3 then .next (updAx l a (fun x => { x with gateA := 0, gateB := 0 }) (overcurrentNoted l s))
      else if motSt s l = 0 ∨ motSt s l = 8 then .next (overcurrentNoted l s) else .next (spindleTripped l s) := by
    rw [execOvercurrent, if_neg (by simp [hi]), if_neg (by simp [hc]), if_neg (by simp [hd]), ← ha]
    rfl
  by_cases hcar : 32 ≤ l
  · exact completes_of_exec (he.trans (if_pos hcar)) ⟨hraised, fun _ => hnoted, fun h => absurd h (by omega), fun h => absurd h (by omega)⟩
  · rw [if_neg hcar] at he
    by_cases hax : a < 3
    · have hframe : AtLink { axes := true } l s (updAx l a (fun x => { x with gateA := 0, gateB := 0 }) (overcurrentNoted l s)) (evFields (evBL l)) :=
        (atLink_of_within hnoted).thenAx rfl (by omega) _
      have hsame (j i : Nat) : axOf (overcurrentNoted l s) j i = axOf s j i := axOf_of_inner hnoted.1 j i
      refine completes_of_exec (he.trans (if_pos hax)) ⟨raised_of_get rfl hraised, fun h => absurd h hcar, fun _ _ => ⟨?_,
        congrArg (fun u : State => { u with axes := (updAx l a (fun x => { x with gateA := 0, gateB := 0 }) (overcurrentNoted l s)).axes }) hframe.rest,
        fun j i hne hlt => ?_, hframe.only⟩, fun _ h3 => absurd h3 (by omega)⟩
      · rw [axOf_updAx, if_pos rfl, hsame]
      · rw [axOf_updAx, if_neg (fun e => hne (by rw [Prod.mk.injEq]; omega)), hsame]
    · rw [if_neg hax] at he
      by_cases hoff : motSt s l = 0 ∨ motSt s l = 8
      · exact completes_of_exec (he.trans (if_pos hoff)) ⟨hraised, fun h => absurd h hcar, fun _ h3 => absurd h3 hax,
          fun _ _ h0 h8 => absurd hoff (by tauto)⟩
      · obtain ⟨hst, hcause, hev, hpwm, hbl⟩ := spindleTripped_spec (by omega : l < 32) s
        have hframe := spindleTripped_atLink l s
        exact completes_of_exec (he.trans (if_neg hoff)) ⟨hbl, fun h => absurd h hcar, fun _ h3 => absurd h3 hax, fun _ _ _ _ => ⟨hst, hcause, hev, hpwm,
          congrArg (fun u : State => { u with buses := (spindleTripped l s).buses, spindles := (spindleTripped l s).spindles }) hframe.rest,
          hframe.bus, hframe.spin, hframe.only⟩⟩

end codes

end Sys2Proof.Proofs
end

section
/-! O16: the states of a bay or carousel link, its trips and overcurrents (R88, R91, R94 to R98, R237 to R270). -/

namespace Sys2Proof.Proofs

open Sys2Proof.Machine Sys2Proof.Laws

/-- Settles O16: each clause by the command's own lemma over the frame of one link and the record it leaves. -/
theorem bayLinkStates : Obligations.BayLinkStates :=
  ⟨fun _ _ hi hst hk hrun hc => completes_bayLinkUp_carousel hi hst hk hrun hc,
    fun _ _ hi hst hk hrun hb => completes_bayLinkUp_bay hi hst hk hrun hb,
    fun _ _ hi hup hrun => completes_bayLinkDown hi hup hrun,
    fun _ _ hi hen hst hlate => completes_bayTrainingRestart hi hen hst hlate,
    fun _ _ _ hi hen => completes_blEnable_on hi hen,
    fun _ _ _ hi hen => completes_blEnable_off hi hen,
    fun _ _ hi hen => completes_blRetrain hi hen,
    fun _ _ _ _ _ _ _ hi hc hd ha hph => completes_comparatorTrip hi hc hd ha hph,
    fun _ _ _ _ _ hi hc => completes_comparatorTrip_bad hi hc,
    fun _ _ _ _ _ hi hc hd ha => completes_overcurrent hi hc hd ha,
    fun _ _ _ _ hi hc => completes_overcurrent_bad hi hc⟩

end Sys2Proof.Proofs
end

section
/-! SUPPORT. The header, identity and input packets of a bay or carousel link, with its counters (R87 to R91, R94, R96, R97). -/

namespace Sys2Proof.Proofs

open Sys2Proof.Machine Sys2Proof.Laws

/-! ### The fields a packet writes -/

section fields
variable {l : Nat} {s t : State} {fs : List Fld}

/-- What the bad packets and violations of a stretch write (R87, R96). -/
def badFields (l : Nat) : List Fld := [F.BL_CRC_ERR_UP l, F.BL_CODE_ERR l] ++ evFields (evBL l)

/-- What a HEADER shows of the expander (R89). -/
def shownFields (l : Nat) : List Fld := [F.BL_INPUTS_LEVELS l, F.BL_INPUTS_TOGGLES l, F.BL_STATUS_SAFE l, F.BL_STATUS_OC_LATCHED l, F.BL_RTT l]

/-- What a HEADER's encoders move (R89, R90). -/
def encFields (l : Nat) : List Fld := if l < 32 then [F.MOV_AX_ENC_POS l 0, F.MOV_AX_ENC_POS l 1] else [F.CMOT_POS (l - 32)]

/-- What a HEADER's flags and encoders write. -/
def flagFields (l : Nat) : List Fld := [F.BL_CRC_ERR_DOWN l, F.BL_LATE_REPEATS l] ++ evFields (evBL l) ++ encFields l

/-- The words of an expander's identity (R94). -/
def identFields (l : Nat) : List Fld := (List.range 4).map (F.BL_IDENT l)

theorem bad_apart : ∀ l < 36, (F.BL_CRC_ERR_UP l).key ≠ (F.BL_CODE_ERR l).key ∧
    (∀ f ∈ [F.BL_CRC_ERR_UP l, F.BL_CODE_ERR l], f.key ∉ (evFields (evBL l)).map Fld.key) := by decide +kernel

theorem shown_apart : ∀ l < 36, ((shownFields l).map Fld.key).Nodup ∧ (∀ f ∈ shownFields l, f.key ∉ (flagFields l).map Fld.key) := by decide +kernel

theorem header_apart : ∀ l < 36, (F.BL_STATUS_STATE l).key ∉ (badFields l ++ shownFields l ++ flagFields l).map Fld.key ∧
    (∀ f ∈ [F.BL_CRC_ERR_UP l, F.BL_CODE_ERR l], f.key ∉ (F.BL_STATUS_STATE l :: shownFields l ++ flagFields l).map Fld.key) ∧
    (evBL l).evt.key ∉ (F.BL_STATUS_STATE l :: F.BL_CRC_ERR_DOWN l :: F.BL_LATE_REPEATS l :: shownFields l ++ encFields l).map Fld.key := by decide +kernel

theorem ident_apart : ∀ l < 36, ((identFields l).map Fld.key).Nodup ∧
    (∀ f ∈ identFields l, f.key ∉ (F.BL_STATUS_ROLE l :: F.BL_STATUS_STATE l :: evFields (evBL l)).map Fld.key) ∧
    (F.BL_STATUS_ROLE l).key ∉ (F.BL_STATUS_STATE l :: evFields (evBL l)).map Fld.key ∧
    (F.BL_STATUS_STATE l).key ∉ (F.BL_STATUS_ROLE l :: identFields l ++ badFields l).map Fld.key ∧
    (F.BL_STATUS_STATE l).key ∉ (evFields (evBL l)).map Fld.key := by decide +kernel

theorem not_mem_append {α : Type} {x : α} {u v : List α} : x ∉ u ++ v ↔ x ∉ u ∧ x ∉ v := by rw [List.mem_append, not_or]

theorem AtLink.carousels {p : Parts} (k : AtLink p l s t fs) (hp : p.carousels = false) : t.carousels = s.carousels := by
  have e := congrArg State.carousels k.rest
  simpa [hideParts, inner, hp] using e

theorem AtLink.thenBump {p : Parts} (k : AtLink p l s t fs) {f : Fld} (hf : f ∈ fs) (n : Nat) : AtLink p l s (bump f n t) fs := k.thenPut hf

end fields

/-! ### Bad packets -/

section bad
variable {l viol : Nat} {chars : List BayChar} {s : State}

theorem noteBad_within (l viol : Nat) (chars : List BayChar) (s : State) : Within s (noteBad l viol chars s) (badFields l) := by
  have h1 : Within s (bump (F.BL_CRC_ERR_UP l) (badPackets chars) (bump (F.BL_CODE_ERR l) viol s)) (badFields l) :=
    within_put (within_put (within_refl s _) (by simp [badFields])) (by simp [badFields])
  unfold noteBad Machine.when
  dsimp only
  split
  · exact within_raise h1 (by simp [badFields, evFields]) (by simp [badFields, evFields])
  · exact h1

theorem noteBad_spec (hl : l < 36) (viol : Nat) (chars : List BayChar) (s : State) :
    Machine.get (noteBad l viol chars s) (F.BL_CRC_ERR_UP l) = trunc 16 (satAdd 16 (Machine.get s (F.BL_CRC_ERR_UP l)) (badPackets chars)) ∧
      Machine.get (noteBad l viol chars s) (F.BL_CODE_ERR l) = trunc 32 (satAdd 32 (Machine.get s (F.BL_CODE_ERR l)) viol) ∧
      (badPackets chars ≠ 0 → Raised (noteBad l viol chars s) (evBL l) B.BL_EVT_LATE) := by
  obtain ⟨hne, hev⟩ := bad_apart l hl
  have hwhen {f : Fld} (hf : f ∈ [F.BL_CRC_ERR_UP l, F.BL_CODE_ERR l]) : Machine.get (noteBad l viol chars s) f
      = Machine.get (bump (F.BL_CRC_ERR_UP l) (badPackets chars) (bump (F.BL_CODE_ERR l) viol s)) f := by
    unfold noteBad Machine.when
    dsimp only
    split
    · exact (atLink_raise (p := {}) (l := l) (fs := evFields (evBL l)) (by simp [evFields]) (by simp [evFields])).get (hev f hf)
    · rfl
  refine ⟨?_, ?_, fun hbad => ?_⟩
  · rw [hwhen (by simp), get_bump_same, get_bump_ne hne]
    rfl
  · rw [hwhen (by simp), get_bump_ne hne.symm, get_bump_same]
    rfl
  · have he : noteBad l viol chars s = raise (evBL l) B.BL_EVT_LATE (bump (F.BL_CRC_ERR_UP l) (badPackets chars) (bump (F.BL_CODE_ERR l) viol s)) :=
      if_pos (decide_eq_true hbad)
    rw [he]
    exact raised_raise headEv_bl (by decide)

end bad

/-! ### The HEADER's parts -/

section header
variable {l : Nat} {rep : Bool} {s t : State} {fs : List Fld} {p : Parts}

theorem busOf_bump (f : Fld) (n j : Nat) (s : State) : busOf (bump f n s) j = busOf s j := rfl

theorem busOf_noteRepeat (l : Nat) (rep : Bool) (s : State) :
    busOf (noteRepeat l rep s) l = { busOf s l with repeats := if rep then (busOf s l).repeats + 1 else 0 } := by
  unfold noteRepeat
  cases rep
  · simp only [Bool.false_eq_true, if_false]
    rw [busOf_updBus, if_pos rfl]
  · simp only [if_true]
    split <;> simp only [busOf_raise, busOf_bump, busOf_updBus, if_true]

theorem noteRepeat_atLink (hp : p.buses = true) (l : Nat) (rep : Bool) (s : State) :
    AtLink p l s (noteRepeat l rep s) (F.BL_LATE_REPEATS l :: evFields (evBL l)) := by
  have h1 (n : Nat) : AtLink p l s (raise (evBL l) B.BL_EVT_PWM_REPEAT (bump (F.BL_LATE_REPEATS l) 1 (updBus l (fun k => { k with repeats := n }) s)))
      (F.BL_LATE_REPEATS l :: evFields (evBL l)) :=
    AtLink.thenRaise (AtLink.thenPut (atLink_updBus hp _) (by simp)) (by simp [evFields]) (by simp [evFields])
  unfold noteRepeat
  split
  · dsimp only
    split
    · exact (h1 _).thenRaise (by simp [evFields]) (by simp [evFields])
    · exact h1 _
  · exact atLink_updBus hp _

theorem raised_noteRepeat (hl : l < 36) (rep : Bool) {i : Nat} (hi : i < 32) (hs : Raised s (evBL l) i) : Raised (noteRepeat l rep s) (evBL l) i := by
  obtain ⟨-, -, hevt⟩ := header_apart l hl
  have hne : (evBL l).evt.key ≠ (F.BL_LATE_REPEATS l).key := fun h => hevt (by simp [h])
  have h1 (n : Nat) : Raised (raise (evBL l) B.BL_EVT_PWM_REPEAT (bump (F.BL_LATE_REPEATS l) 1 (updBus l (fun k => { k with repeats := n }) s))) (evBL l) i :=
    raised_raise_of_raised headEv_bl hi (raised_of_get (get_bump_ne hne) hs)
  unfold noteRepeat
  split
  · dsimp only
    split
    · exact raised_raise_of_raised headEv_bl hi (h1 _)
    · exact h1 _
  · exact hs

/-- The encoder of a sled in microsteps (R90). -/
def sledEncoder (l a : Nat) (e : Int) (t : State) : State :=
  encoderCheck l a (if Machine.get t (F.MOV_AX_SCALE_ENC l a) = 0 then t
    else putI (F.MOV_AX_ENC_POS l a) (e * (axScale t l a : Nat) / (Machine.get t (F.MOV_AX_SCALE_ENC l a) : Nat) + (axOf t l a).encOfs) t)

theorem noteEncoders_bay (hb : l < 32) (e0 e1 : Int) (s : State) : noteEncoders l e0 e1 s = sledEncoder l 1 e1 (sledEncoder l 0 e0 s) := if_pos hb

theorem noteEncoders_carousel (hc : 32 ≤ l) (e0 e1 : Int) (s : State) :
    noteEncoders l e0 e1 s = putI (F.CMOT_POS (l - 32)) (e0 + (crsOf s (l - 32)).encOfs) s := if_neg (by omega)

theorem sledEncoder_atLink {a : Nat} (hp : p.axes = true) (ha : a < 4) (e : Int) (k : AtLink p l s t fs) (hf : F.MOV_AX_ENC_POS l a ∈ fs) :
    AtLink p l s (sledEncoder l a e t) fs := by
  unfold sledEncoder encoderCheck
  refine AtLink.thenAx ?_ hp ha _
  split
  · exact k
  · exact k.thenPut hf

theorem noteEncoders_atLink (hp : p.axes = true) (l : Nat) (e0 e1 : Int) (s : State) : AtLink p l s (noteEncoders l e0 e1 s) (encFields l) := by
  by_cases hb : l < 32
  · rw [noteEncoders_bay hb]
    exact sledEncoder_atLink hp (by omega) e1 (sledEncoder_atLink hp (by omega) e0 (AtLink.refl ..) (by simp [encFields, hb])) (by simp [encFields, hb])
  · rw [noteEncoders_carousel (by omega)]
    exact atLink_put (by simp [encFields, hb])

theorem trunc_ofSigned (w : Nat) (v : Int) : trunc w (ofSigned w v) = ofSigned w v := by
  have h1 : (0 : Int) < (2 ^ w : Nat) := by exact_mod_cast Nat.two_pow_pos w
  have h2 := Int.emod_lt_of_pos v h1
  have h3 := Int.emod_nonneg v h1.ne'
  exact Nat.mod_eq_of_lt (by unfold ofSigned; omega)

theorem get_putI_same (f : Fld) (v : Int) (s : State) : Machine.get (putI f v s) f = ofSigned f.width v :=
  (get_put_same ..).trans (trunc_ofSigned ..)

end header

/-! ### The commands -/

section commands
variable {l viol rtt : Nat} {chars : List BayChar} {d : List Nat} {s : State}

/-- A framed superframe ends the comma search (R94). -/
def headerFramed (l viol : Nat) (chars : List BayChar) (s : State) : State :=
  if Machine.get s (F.BL_STATUS_STATE l) = 1 then put (F.BL_STATUS_STATE l) 2 (noteBad l viol chars s) else noteBad l viol chars s

/-- The link's record of a HEADER, `heard` saying whether it counts in both directions (R89, R94). -/
def headerBus (d : List Nat) (heard : Bool) (k : BusLink) : BusLink :=
  { k with
    heard := heard, sf := payloadField d 0 2
    raw := payloadField d 2 2, gates := payloadField d 16 4 }

/-- The values a HEADER shows (R89). -/
def headerValues (l rtt : Nat) (d : List Nat) : List (Fld × Nat) :=
  [(F.BL_INPUTS_LEVELS l, payloadField d 2 2), (F.BL_INPUTS_TOGGLES l, payloadField d 4 4), (F.BL_STATUS_SAFE l, bitOf (payloadField d 20 2) 0),
    (F.BL_STATUS_OC_LATCHED l, bitOf (payloadField d 20 2) 1), (F.BL_RTT l, rtt)]

/-- What a HEADER says is shown (R89). -/
def headerShown (l viol rtt : Nat) (chars : List BayChar) (d : List Nat) (s : State) : State :=
  putAll (headerValues l rtt d)
    (updBus l (headerBus d (decide (bitOf (payloadField d 20 2) 2 = 0) || linkUp s l)) (headerFramed l viol chars s))

/-- Flag 2 counts a bad packet of the downstream (R94, R96). -/
def headerCounted (l viol rtt : Nat) (chars : List BayChar) (d : List Nat) (s : State) : State :=
  if bitOf (payloadField d 20 2) 2 = 1 then
    raise (evBL l) B.BL_EVT_LATE (bump (F.BL_CRC_ERR_DOWN l) 1 (headerShown l viol rtt chars d s))
  else headerShown l viol rtt chars d s

/-- The HEADER's flags and toggles are noted (R88, R89). -/
def headerNoted (l viol rtt : Nat) (chars : List BayChar) (d : List Nat) (s : State) : State :=
  noteToggles l (payloadField d 4 4) (noteRepeat l (decide (bitOf (payloadField d 20 2) 3 = 1)) (headerCounted l viol rtt chars d s))

/-- The state after a stretch with a HEADER. -/
def headerTaken (l viol rtt : Nat) (chars : List BayChar) (d : List Nat) (s : State) : State :=
  noteEncoders l (toSigned 32 (payloadField d 8 4)) (toSigned 32 (payloadField d 12 4)) (headerNoted l viol rtt chars d s)

theorem execBayHeader_some (hi : linkInst s l = true) (h1 : 1 ≤ Machine.get s (F.BL_STATUS_STATE l)) (h3 : Machine.get s (F.BL_STATUS_STATE l) ≤ 3)
    (hd : headerIn chars = some d) : execBayHeader l chars viol rtt s = .next (headerTaken l viol rtt chars d s) := by
  rw [execBayHeader, if_neg (by simp [hi]; omega)]
  dsimp only
  rw [show (payloadsOf 0x80 chars).find? (fun d => decide (d.length = 24)) = some d from hd]
  rfl

theorem execBayHeader_none (hi : linkInst s l = true) (h1 : 1 ≤ Machine.get s (F.BL_STATUS_STATE l)) (h3 : Machine.get s (F.BL_STATUS_STATE l) ≤ 3)
    (hd : headerIn chars = none) : execBayHeader l chars viol rtt s = .next (noteBad l viol chars s) := by
  rw [execBayHeader, if_neg (by simp [hi]; omega)]
  dsimp only
  rw [show (payloadsOf 0x80 chars).find? (fun d => decide (d.length = 24)) = none from hd]

/-- The parts of the state that a HEADER may change. -/
def headerParts : Parts := { buses := true, axes := true }

theorem headerFramed_atLink (l viol : Nat) (chars : List BayChar) (s : State) :
    AtLink headerParts l (noteBad l viol chars s) (headerFramed l viol chars s) [F.BL_STATUS_STATE l] := by
  unfold headerFramed
  split
  · exact atLink_put (List.mem_cons_self ..)
  · exact AtLink.refl ..

theorem headerShown_atLink (l viol rtt : Nat) (chars : List BayChar) (d : List Nat) (s : State) :
    AtLink headerParts l (headerFramed l viol chars s) (headerShown l viol rtt chars d s) (shownFields l) :=
  AtLink.thenPutAll (atLink_updBus rfl _) (by simp [headerValues, shownFields])

theorem headerCounted_atLink (l viol rtt : Nat) (chars : List BayChar) (d : List Nat) (s : State) :
    AtLink headerParts l (headerShown l viol rtt chars d s) (headerCounted l viol rtt chars d s) (F.BL_CRC_ERR_DOWN l :: evFields (evBL l)) := by
  unfold headerCounted
  split
  · exact AtLink.thenRaise (atLink_put (List.mem_cons_self ..)) (by simp [evFields]) (by simp [evFields])
  · exact AtLink.refl ..

theorem noteToggles_atLink {p : Parts} (hp : p.buses = true) (l toggles : Nat) (s : State) (fs : List Fld) : AtLink p l s (noteToggles l toggles s) fs :=
  atLink_updBus hp _

theorem headerTaken_flags (l viol rtt : Nat) (chars : List BayChar) (d : List Nat) (s : State) :
    AtLink headerParts l (headerShown l viol rtt chars d s) (headerTaken l viol rtt chars d s) (flagFields l) := by
  have h1 := headerCounted_atLink l viol rtt chars d s
  have h2 := noteRepeat_atLink (p := headerParts) rfl l (decide (bitOf (payloadField d 20 2) 3 = 1)) (headerCounted l viol rtt chars d s)
  exact (((h1.mono fun f hf => by simp [flagFields] at hf ⊢; tauto).trans (h2.mono fun f hf => by simp [flagFields] at hf ⊢; tauto)).trans
    (noteToggles_atLink rfl ..)).trans ((noteEncoders_atLink rfl ..).mono fun f hf => by simp [flagFields, hf])

theorem headerTaken_atLink (l viol rtt : Nat) (chars : List BayChar) (d : List Nat) (s : State) : AtLink headerParts l s (headerTaken l viol rtt chars d s)
    ([F.BL_STATUS_STATE l, F.BL_INPUTS_LEVELS l, F.BL_INPUTS_TOGGLES l, F.BL_STATUS_SAFE l, F.BL_STATUS_OC_LATCHED l, F.BL_RTT l, F.BL_CRC_ERR_UP l,
      F.BL_CODE_ERR l, F.BL_CRC_ERR_DOWN l, F.BL_LATE_REPEATS l] ++ evFields (evBL l) ++ encFields l) :=
  ((((atLink_of_within (noteBad_within l viol chars s)).mono fun f hf => by simp [badFields] at hf ⊢; tauto).trans
    ((headerFramed_atLink l viol chars s).mono (by simp))).trans ((headerShown_atLink l viol rtt chars d s).mono fun f hf => by
      simp [shownFields] at hf ⊢; tauto)).trans ((headerTaken_flags l viol rtt chars d s).mono fun f hf => by simp [flagFields] at hf ⊢; tauto)

theorem busOf_headerTaken (l viol rtt : Nat) (chars : List BayChar) (d : List Nat) (s : State) :
    (busOf (headerTaken l viol rtt chars d s) l).heard = (decide (bitOf (payloadField d 20 2) 2 = 0) || linkUp s l) ∧
      (busOf (headerTaken l viol rtt chars d s) l).sf = payloadField d 0 2 ∧ (busOf (headerTaken l viol rtt chars d s) l).raw = payloadField d 2 2 ∧
      (busOf (headerTaken l viol rtt chars d s) l).gates = payloadField d 16 4 ∧
      (busOf (headerTaken l viol rtt chars d s) l).repeats = (if bitOf (payloadField d 20 2) 3 = 1 then (busOf s l).repeats + 1 else 0) := by
  have hframed : busOf (headerFramed l viol chars s) l = busOf s l := by
    have hbad : busOf (noteBad l viol chars s) l = busOf s l := busOf_of_inner (noteBad_within l viol chars s).1 l
    unfold headerFramed
    split
    · rw [busOf_put, hbad]
    · exact hbad
  have hcounted : busOf (headerCounted l viol rtt chars d s) l = busOf (headerShown l viol rtt chars d s) l := by
    unfold headerCounted
    split
    · rw [busOf_raise, busOf_bump]
    · rfl
  have henc : busOf (headerTaken l viol rtt chars d s) l = busOf (headerNoted l viol rtt chars d s) l :=
    (noteEncoders_atLink (p := { axes := true }) rfl ..).busOf rfl l
  rw [henc, headerNoted, noteToggles, busOf_updBus, if_pos rfl, busOf_noteRepeat, hcounted, headerShown, busOf_putAll, busOf_updBus, if_pos rfl, hframed]
  exact ⟨rfl, rfl, rfl, rfl, by simp [headerBus]⟩

theorem get_headerTaken (hl : l < 36) (h1 : 1 ≤ Machine.get s (F.BL_STATUS_STATE l)) (h3 : Machine.get s (F.BL_STATUS_STATE l) ≤ 3)
    (viol rtt : Nat) (chars : List BayChar) (d : List Nat) :
    Machine.get (headerTaken l viol rtt chars d s) (F.BL_STATUS_STATE l) = max 2 (Machine.get s (F.BL_STATUS_STATE l)) ∧
      (∀ f ∈ [F.BL_CRC_ERR_UP l, F.BL_CODE_ERR l], Machine.get (headerTaken l viol rtt chars d s) f = Machine.get (noteBad l viol chars s) f) := by
  obtain ⟨hstate, hcount, -⟩ := header_apart l hl
  have hlast {f : Fld} (hf : f.key ∉ (shownFields l ++ flagFields l).map Fld.key) :
      Machine.get (headerTaken l viol rtt chars d s) f = Machine.get (headerFramed l viol chars s) f :=
    (((headerShown_atLink l viol rtt chars d s).mono (List.subset_append_left ..)).trans
      ((headerTaken_flags l viol rtt chars d s).mono (List.subset_append_right ..))).get hf
  rw [List.append_assoc, List.map_append, not_mem_append] at hstate
  refine ⟨?_, fun f hf => ?_⟩
  · rw [hlast hstate.2]
    unfold headerFramed
    split
    next h =>
      rw [get_put_same, h]
      rfl
    next h =>
      rw [(noteBad_within l viol chars s).2 _ hstate.1]
      omega
  · have hf' := hcount f hf
    rw [List.cons_append, List.map_cons, List.mem_cons, not_or] at hf'
    rw [hlast hf'.2]
    exact (headerFramed_atLink l viol chars s).get (by simpa using hf'.1)

theorem get_headerShown (hl : l < 36) {f : Fld} {v : Nat} (viol rtt : Nat) (chars : List BayChar) (d : List Nat) (s : State)
    (hf : (f, v) ∈ headerValues l rtt d) :
    Machine.get (headerTaken l viol rtt chars d s) f = trunc f.width v := by
  obtain ⟨hnodup, hkept⟩ := shown_apart l hl
  have hmem : f ∈ shownFields l := by
    simp only [List.mem_cons, List.not_mem_nil, Prod.mk.injEq, headerValues, shownFields] at hf ⊢
    tauto
  rw [(headerTaken_flags l viol rtt chars d s).get (hkept f hmem)]
  exact get_putAll_mem hnodup hf

theorem raised_headerTaken (hl : l < 36) (hlate : badPackets chars ≠ 0 ∨ bitOf (payloadField d 20 2) 2 = 1) (viol rtt : Nat) (s : State) :
    Raised (headerTaken l viol rtt chars d s) (evBL l) B.BL_EVT_LATE := by
  obtain ⟨-, -, hevt⟩ := header_apart l hl
  have hcounted : Raised (headerCounted l viol rtt chars d s) (evBL l) B.BL_EVT_LATE := by
    by_cases hflag : bitOf (payloadField d 20 2) 2 = 1
    · rw [headerCounted, if_pos hflag]
      exact raised_raise headEv_bl (by decide)
    · rw [headerCounted, if_neg hflag]
      have hframe := ((headerFramed_atLink l viol chars s).mono (gs := F.BL_STATUS_STATE l :: F.BL_CRC_ERR_DOWN l :: F.BL_LATE_REPEATS l :: shownFields l ++ encFields l)
        (by simp)).trans ((headerShown_atLink l viol rtt chars d s).mono fun f hf => by simp [hf])
      exact raised_of_get (hframe.get hevt) ((noteBad_spec hl viol chars s).2.2 (hlate.resolve_right hflag))
  refine raised_of_get ((noteEncoders_atLink (p := headerParts) rfl ..).get fun h => hevt ?_) (raised_noteRepeat hl _ (by decide) hcounted)
  rw [List.map_append]
  exact List.mem_append_right _ h

/-- A stretch with a HEADER (R86, R87, R89, R94). -/
theorem completes_bayHeader_some (hi : linkInst s l = true) (h1 : 1 ≤ Machine.get s (F.BL_STATUS_STATE l)) (h3 : Machine.get s (F.BL_STATUS_STATE l) ≤ 3)
    (hd : headerIn chars = some d) :
    Completes (.bayHeader l chars viol rtt) s fun t =>
      Machine.get t (F.BL_STATUS_STATE l) = max 2 (Machine.get s (F.BL_STATUS_STATE l)) ∧
      Machine.get t (F.BL_INPUTS_LEVELS l) = trunc 16 (payloadField d 2 2) ∧ Machine.get t (F.BL_INPUTS_TOGGLES l) = trunc 16 (payloadField d 4 4) ∧
      Machine.get t (F.BL_STATUS_SAFE l) = bitOf (payloadField d 20 2) 0 ∧ Machine.get t (F.BL_STATUS_OC_LATCHED l) = bitOf (payloadField d 20 2) 1 ∧
      Machine.get t (F.BL_RTT l) = trunc 16 rtt ∧
      Machine.get t (F.BL_CRC_ERR_UP l) = trunc 16 (satAdd 16 (Machine.get s (F.BL_CRC_ERR_UP l)) (badPackets chars)) ∧
      Machine.get t (F.BL_CODE_ERR l) = trunc 32 (satAdd 32 (Machine.get s (F.BL_CODE_ERR l)) viol) ∧
      (badPackets chars ≠ 0 ∨ bitOf (payloadField d 20 2) 2 = 1 → Raised t (evBL l) B.BL_EVT_LATE) ∧
      (busOf t l).heard = (decide (bitOf (payloadField d 20 2) 2 = 0) || decide (Machine.get s (F.BL_STATUS_STATE l) = 3)) ∧
      (busOf t l).sf = payloadField d 0 2 ∧ (busOf t l).raw = payloadField d 2 2 ∧ (busOf t l).gates = payloadField d 16 4 ∧
      (busOf t l).repeats = (if bitOf (payloadField d 20 2) 3 = 1 then (busOf s l).repeats + 1 else 0) ∧
      (32 ≤ l → Machine.get t (F.CMOT_POS (l - 32)) = ofSigned 32 (toSigned 32 (payloadField d 8 4) + (crsOf s (l - 32)).encOfs)) ∧
      inner t = { inner s with buses := t.buses, axes := t.axes } ∧ OnlyBus l s t ∧ OnlyBayAx l s t ∧
      OnlyFields s t ([F.BL_STATUS_STATE l, F.BL_INPUTS_LEVELS l, F.BL_INPUTS_TOGGLES l, F.BL_STATUS_SAFE l, F.BL_STATUS_OC_LATCHED l, F.BL_RTT l,
        F.BL_CRC_ERR_UP l, F.BL_CODE_ERR l, F.BL_CRC_ERR_DOWN l, F.BL_LATE_REPEATS l] ++ evFields (evBL l) ++
        (if l < 32 then [F.MOV_AX_ENC_POS l 0, F.MOV_AX_ENC_POS l 1] else [F.CMOT_POS (l - 32)])) := by
  have hl := linkInst_lt hi
  have hframe := headerTaken_atLink l viol rtt chars d s
  obtain ⟨hstate, hcount⟩ := get_headerTaken hl h1 h3 viol rtt chars d
  obtain ⟨hup, hcode, -⟩ := noteBad_spec hl viol chars s
  obtain ⟨hheard, hsf, hraw, hgates, hrep⟩ := busOf_headerTaken l viol rtt chars d s
  have hbit (v i : Nat) : trunc 1 (bitOf v i) = bitOf v i := Nat.mod_mod _ _
  refine completes_of_exec (execBayHeader_some hi h1 h3 hd) ⟨hstate, get_headerShown hl viol rtt chars d s (by simp [headerValues]),
    get_headerShown hl viol rtt chars d s (by simp [headerValues]), (get_headerShown hl viol rtt chars d s (by simp [headerValues])).trans (hbit _ 0),
    (get_headerShown hl viol rtt chars d s (by simp [headerValues])).trans (hbit _ 1), get_headerShown hl viol rtt chars d s (v := rtt) (by simp [headerValues]),
    (hcount _ (by simp)).trans hup, (hcount _ (by simp)).trans hcode, fun hlate => raised_headerTaken hl hlate viol rtt s,
    hheard, hsf, hraw, hgates, hrep, fun hc => ?_, congrArg (fun u : State => { u with
      buses := (headerTaken l viol rtt chars d s).buses, axes := (headerTaken l viol rtt chars d s).axes }) hframe.rest, hframe.bus, hframe.ax, hframe.only⟩
  have hcrs : crsOf (headerNoted l viol rtt chars d s) (l - 32) = crsOf s (l - 32) := by
    have hlast := (noteEncoders_atLink (p := headerParts) rfl l (toSigned 32 (payloadField d 8 4)) (toSigned 32 (payloadField d 12 4))
      (headerNoted l viol rtt chars d s)).carousels rfl
    rw [crsOf, ← hlast]
    exact congrArg (fun m => mapGet (fun _ => {}) m (l - 32)) (hframe.carousels rfl)
  rw [headerTaken, noteEncoders_carousel hc, get_putI_same, hcrs]
  rfl

/-- A stretch without a HEADER counts its bad packets and violations (R87, R96). -/
theorem completes_bayHeader_none (hi : linkInst s l = true) (h1 : 1 ≤ Machine.get s (F.BL_STATUS_STATE l)) (h3 : Machine.get s (F.BL_STATUS_STATE l) ≤ 3)
    (hd : headerIn chars = none) :
    Completes (.bayHeader l chars viol rtt) s fun t =>
      Machine.get t (F.BL_CRC_ERR_UP l) = trunc 16 (satAdd 16 (Machine.get s (F.BL_CRC_ERR_UP l)) (badPackets chars)) ∧
      Machine.get t (F.BL_CODE_ERR l) = trunc 32 (satAdd 32 (Machine.get s (F.BL_CODE_ERR l)) viol) ∧
      (badPackets chars ≠ 0 → Raised t (evBL l) B.BL_EVT_LATE) ∧
      Within s t ([F.BL_CRC_ERR_UP l, F.BL_CODE_ERR l] ++ evFields (evBL l)) := by
  obtain ⟨hup, hcode, hraised⟩ := noteBad_spec (linkInst_lt hi) viol chars s
  exact completes_of_exec (execBayHeader_none hi h1 h3 hd) ⟨hup, hcode, hraised, noteBad_within l viol chars s⟩

/-- The identity of an expander is shown (R94). -/
def identShown (l viol : Nat) (chars : List BayChar) (d : List Nat) (s : State) : State :=
  put (F.BL_STATUS_ROLE l) (d.getD 0 0) (putAll ((List.range 4).map fun i => (F.BL_IDENT l i, payloadField d (4 * i) 4)) (noteBad l viol chars s))

/-- An expander of the right role and turnaround is known and CONFIG goes out; another is refused (R94). -/
def identTaken (l viol : Nat) (chars : List BayChar) (d : List Nat) (s : State) : State :=
  if d.getD 0 0 ≠ (if l < 32 then 1 else 2) ∨ 20 < d.getD 6 0 then
    raise (evBL l) B.BL_EVT_REFUSED (put (F.BL_STATUS_STATE l) 4 (identShown l viol chars d s))
  else sendConfig l (updBus l (fun k => { k with known := true }) (identShown l viol chars d s))

theorem execBayIdent_some (hi : linkInst s l = true) (hst : Machine.get s (F.BL_STATUS_STATE l) = 2)
    (hd : ((payloadsOf 0x85 chars).find? fun d => decide (d.length = 16)) = some d) :
    execBayIdent l chars viol s = .next (identTaken l viol chars d s) := by
  rw [execBayIdent, if_neg (by simp [hi, hst])]
  dsimp only
  rw [hd]
  exact (apply_ite Host.Outcome.next _ _ _).symm

theorem identShown_within (l viol : Nat) (chars : List BayChar) (d : List Nat) (s : State) :
    Within s (identShown l viol chars d s) (F.BL_STATUS_ROLE l :: identFields l ++ badFields l) := by
  have hbad : Within s (noteBad l viol chars s) (F.BL_STATUS_ROLE l :: identFields l ++ badFields l) :=
    ⟨(noteBad_within l viol chars s).1, only_mono (noteBad_within l viol chars s).2 fun f hf =>
      List.mem_map_of_mem (List.mem_append_right _ hf)⟩
  refine within_put (within_putAll hbad fun q hq => List.mem_map_of_mem ?_) (List.mem_map_of_mem (by simp))
  obtain ⟨i, hi, rfl⟩ := List.mem_map.1 hq
  simp only [List.cons_append, List.mem_cons, List.mem_append]
  exact .inr (.inl (List.mem_map_of_mem hi))

theorem get_identShown (hl : l < 36) (viol : Nat) (chars : List BayChar) (d : List Nat) (s : State) :
    Machine.get (identShown l viol chars d s) (F.BL_STATUS_ROLE l) = trunc 2 (d.getD 0 0) ∧
      (∀ i < 4, Machine.get (identShown l viol chars d s) (F.BL_IDENT l i) = trunc 32 (payloadField d (4 * i) 4)) ∧
      Machine.get (identShown l viol chars d s) (F.BL_STATUS_STATE l) = Machine.get s (F.BL_STATUS_STATE l) := by
  obtain ⟨hnodup, hident, -, hstate, -⟩ := ident_apart l hl
  refine ⟨get_put_same .., fun i hi => ?_, (identShown_within l viol chars d s).2 _ hstate⟩
  have hne := hident (F.BL_IDENT l i) (List.mem_map_of_mem (List.mem_range.2 hi))
  rw [List.map_cons, List.mem_cons, not_or] at hne
  rw [identShown, get_put_ne _ _ _ _ hne.1]
  exact get_putAll_mem (by simpa only [identFields, List.map_map, Function.comp_def] using hnodup) (List.mem_map.2 ⟨i, List.mem_range.2 hi, rfl⟩)

theorem busOf_identShown (l viol : Nat) (chars : List BayChar) (d : List Nat) (s : State) (j : Nat) : busOf (identShown l viol chars d s) j = busOf s j :=
  busOf_of_inner (identShown_within l viol chars d s).1 j

theorem inForce_of_inner {t : State} (k : inner t = inner s) (f : Fld) : inForce t f = inForce s f := inner_field (fun u => inForce u f) (fun _ => rfl) k
theorem inForce_updBus (m : Nat) (g : BusLink → BusLink) (s : State) (f : Fld) : inForce (updBus m g s) f = inForce s f := rfl

theorem sendPacket_atLink {p : Parts} {t : State} {fs : List Fld} (k : AtLink p l s t fs) (hp : p.buses = true) (ty : Nat) (payload : List Nat) :
    AtLink p l s (sendPacket l ty payload t) fs := by
  unfold sendPacket
  exact k.thenBus hp _

theorem sendConfig_atLink {p : Parts} {t : State} {fs : List Fld} (k : AtLink p l s t fs) (hp : p.buses = true) : AtLink p l s (sendConfig l t) fs := by
  unfold sendConfig
  exact sendPacket_atLink k hp _ _

theorem busOf_sendConfig (l : Nat) (s : State) : busOf (sendConfig l s) l = { busOf s l with
    sent := (busOf s l).sent ++ [(5, configPayload (inForce s (F.BL_DEADTIME l)) (inForce s (F.BL_OC_TRIP l)))] } := by
  rw [sendConfig, sendPacket, busOf_updBus, if_pos rfl]

/-- What an identity writes. -/
def identAllFields (l : Nat) : List Fld :=
  [F.BL_STATUS_STATE l, F.BL_STATUS_ROLE l, F.BL_CRC_ERR_UP l, F.BL_CODE_ERR l] ++ identFields l ++ evFields (evBL l)

theorem identShown_atLink (l viol : Nat) (chars : List BayChar) (d : List Nat) (s : State) (p : Parts) :
    AtLink p l s (identShown l viol chars d s) (identAllFields l) :=
  (atLink_of_within (identShown_within l viol chars d s)).mono fun f hf => by simp [badFields, identAllFields] at hf ⊢; tauto

/-- The expander is refused (R94). -/
def identRefused (l : Nat) (u : State) : State := raise (evBL l) B.BL_EVT_REFUSED (put (F.BL_STATUS_STATE l) 4 u)

/-- The expander is known and CONFIG goes out (R94). -/
def identAccepted (l : Nat) (u : State) : State := sendConfig l (updBus l (fun k => { k with known := true }) u)

/-- The role or the turnaround of an identity is wrong (R94). -/
def identWrong (l : Nat) (d : List Nat) : Prop := d.getD 0 0 ≠ (if l < 32 then 1 else 2) ∨ 20 < d.getD 6 0

theorem identTaken_refused (hbad : identWrong l d) (viol : Nat) (chars : List BayChar) (s : State) :
    identTaken l viol chars d s = identRefused l (identShown l viol chars d s) := if_pos hbad

theorem identTaken_accepted (hgood : ¬identWrong l d) (viol : Nat) (chars : List BayChar) (s : State) :
    identTaken l viol chars d s = identAccepted l (identShown l viol chars d s) := if_neg hgood

theorem get_identAccepted (l : Nat) (u : State) (f : Fld) : Machine.get (identAccepted l u) f = Machine.get u f := rfl

theorem identRefused_within (l : Nat) (u : State) : Within u (identRefused l u) (F.BL_STATUS_STATE l :: evFields (evBL l)) :=
  within_raise (within_put (within_refl u _) (List.mem_cons_self ..)) (by simp [evFields]) (by simp [evFields])

theorem identAccepted_atLink {p : Parts} (hp : p.buses = true) (l : Nat) (u : State) (fs : List Fld) : AtLink p l u (identAccepted l u) fs :=
  sendConfig_atLink (atLink_updBus hp _) hp

theorem identTaken_atLink (l viol : Nat) (chars : List BayChar) (d : List Nat) (s : State) :
    AtLink { buses := true } l s (identTaken l viol chars d s) (identAllFields l) := by
  have hshown := identShown_atLink l viol chars d s { buses := true }
  by_cases hbad : identWrong l d
  · rw [identTaken_refused hbad]
    exact hshown.trans ((atLink_of_within (identRefused_within l _)).mono fun f hf => by simp [identAllFields] at hf ⊢; tauto)
  · rw [identTaken_accepted hbad]
    exact hshown.trans (identAccepted_atLink rfl ..)

theorem get_identTaken (hl : l < 36) {f : Fld} (hf : f ∈ F.BL_STATUS_ROLE l :: identFields l) (viol : Nat) (chars : List BayChar) (d : List Nat) (s : State) :
    Machine.get (identTaken l viol chars d s) f = Machine.get (identShown l viol chars d s) f := by
  obtain ⟨-, hident, hrole, -⟩ := ident_apart l hl
  have hkey : f.key ∉ (F.BL_STATUS_STATE l :: evFields (evBL l)).map Fld.key := by
    rcases List.mem_cons.1 hf with rfl | hmem
    · exact hrole
    · exact fun h => hident f hmem (List.mem_cons_of_mem _ h)
  by_cases hbad : identWrong l d
  · rw [identTaken_refused hbad]
    exact (identRefused_within l _).2 f hkey
  · rw [identTaken_accepted hbad, get_identAccepted]

/-- An identity is shown and answered (R94). -/
theorem completes_bayIdent (hi : linkInst s l = true) (hst : Machine.get s (F.BL_STATUS_STATE l) = 2)
    (hd : ((payloadsOf 0x85 chars).find? fun d => decide (d.length = 16)) = some d) :
    Completes (.bayIdent l chars viol) s fun t =>
      Machine.get t (F.BL_STATUS_ROLE l) = trunc 2 (d.getD 0 0) ∧ (∀ i < 4, Machine.get t (F.BL_IDENT l i) = trunc 32 (payloadField d (4 * i) 4)) ∧
      (d.getD 0 0 = (if l < 32 then 1 else 2) → d.getD 6 0 ≤ 20 →
        Machine.get t (F.BL_STATUS_STATE l) = 2 ∧ busOf t l = { busOf s l with
          known := true, sent := (busOf s l).sent ++ [(5, configPayload (inForce s (F.BL_DEADTIME l)) (inForce s (F.BL_OC_TRIP l)))] }) ∧
      (d.getD 0 0 ≠ (if l < 32 then 1 else 2) ∨ 20 < d.getD 6 0 →
        Machine.get t (F.BL_STATUS_STATE l) = 4 ∧ Raised t (evBL l) B.BL_EVT_REFUSED ∧ busOf t l = busOf s l) ∧
      inner t = { inner s with buses := t.buses } ∧ OnlyBus l s t ∧ OnlyFields s t (identAllFields l) := by
  have hl := linkInst_lt hi
  obtain ⟨-, -, -, -, hevs⟩ := ident_apart l hl
  obtain ⟨hrole, hident, hstate⟩ := get_identShown hl viol chars d s
  have hinner := (identShown_within l viol chars d s).1
  have hframe := identTaken_atLink l viol chars d s
  refine completes_of_exec (execBayIdent_some hi hst hd) ⟨(get_identTaken hl (List.mem_cons_self ..) ..).trans hrole,
    fun i h4 => (get_identTaken hl (List.mem_cons_of_mem _ (List.mem_map_of_mem (List.mem_range.2 h4))) ..).trans (hident i h4), fun hgood hturn => ?_,
    fun hbad => ?_, congrArg (fun u : State => { u with buses := (identTaken l viol chars d s).buses }) hframe.rest, hframe.bus, hframe.only⟩
  · rw [identTaken_accepted (by rintro (h | h); exacts [h hgood, by omega]), get_identAccepted]
    refine ⟨hstate.trans hst, ?_⟩
    rw [identAccepted, busOf_sendConfig, busOf_updBus, if_pos rfl, inForce_updBus, inForce_updBus, inForce_of_inner hinner, inForce_of_inner hinner,
      busOf_identShown]
  · rw [identTaken_refused hbad]
    refine ⟨?_, raised_raise headEv_bl (by decide), by rw [identRefused, busOf_raise, busOf_put, busOf_identShown]⟩
    rw [identRefused, (atLink_raise (p := {}) (l := l) (fs := evFields (evBL l)) (by simp [evFields]) (by simp [evFields])).get hevs, get_put_same]
    rfl

/-- The record of a link at a raw input change (R91, R263). -/
def edgeBus (d n : Nat) (k : BusLink) : BusLink :=
  { k with
    raw := if decide (bitOf d 4 = 1) then k.raw ||| 2 ^ (d % 16) else k.raw &&& (2 ^ 16 - 1 - 2 ^ (d % 16))
    codesIn := mapPut k.codesIn (d % 16) (mapGet (fun _ => 0) k.codesIn (d % 16) + 1)
    changed := mapPut k.changed (d % 16) n }

/-- A raw input change: on a homing carousel's link the home edge fixes a position (R244). -/
def edgeTaken (l d : Nat) (s : State) : State :=
  if 32 ≤ l ∧ d % 16 = 0 ∧ (crsOf s (l - 32)).homing = true then
    updCrs (l - 32) (fun x => { x with edgePos := if decide (bitOf d 4 = 1) then some (carPos s (l - 32)) else none }) (updBus l (edgeBus d (now s)) s)
  else updBus l (edgeBus d (now s)) s

theorem edgeTaken_atLink (l d : Nat) (s : State) : AtLink { buses := true, carousels := true } l s (edgeTaken l d s) [] := by
  have h1 : AtLink { buses := true, carousels := true } l s (updBus l (edgeBus d (now s)) s) [] := atLink_updBus rfl _
  unfold edgeTaken
  split
  · exact h1.trans (atLink_updCrs rfl _)
  · exact h1

theorem busOf_updCrs (c j : Nat) (g : Carousel → Carousel) (s : State) : busOf (updCrs c g s) j = busOf s j := rfl

theorem busOf_edgeTaken (l d : Nat) (s : State) : busOf (edgeTaken l d s) l = edgeBus d (now s) (busOf s l) := by
  unfold edgeTaken
  split
  · rw [busOf_updCrs, busOf_updBus, if_pos rfl]
  · rw [busOf_updBus, if_pos rfl]

/-- A raw input change (R91, R244, R263). -/
theorem completes_inputEdge {nd d : Nat} (hi : linkInst s l = true) (hc : codeGood d nd = true) :
    Completes (.inputEdge l d nd) s fun t =>
      (busOf t l).raw = (if bitOf d 4 = 1 then (busOf s l).raw ||| 2 ^ (d % 16) else (busOf s l).raw &&& (2 ^ 16 - 1 - 2 ^ (d % 16))) ∧
      mapGet (fun _ => 0) (busOf t l).changed (d % 16) = now s ∧
      (32 ≤ l → d % 16 = 0 → (crsOf s (l - 32)).homing = true → bitOf d 4 = 1 → (crsOf t (l - 32)).edgePos = some (carPos s (l - 32))) ∧
      inner t = { inner s with buses := t.buses, carousels := t.carousels } ∧ OnlyBus l s t ∧ OnlyFields s t [] ∧
      (l < 32 → t.carousels = s.carousels) ∧ OnlyCrs (l - 32) s t := by
  have hframe := edgeTaken_atLink l d s
  have hbus := busOf_edgeTaken l d s
  refine completes_of_exec (t := edgeTaken l d s) ?_ ⟨?_, ?_, fun hcar hd hh hb => ?_, congrArg (fun u : State => { u with
      buses := (edgeTaken l d s).buses, carousels := (edgeTaken l d s).carousels }) hframe.rest, hframe.bus, hframe.only, fun hbay => ?_, hframe.crs⟩
  · refine (if_neg (by simp [hi])).trans ((if_neg (by simp [hc])).trans ?_)
    exact (apply_ite Host.Outcome.next _ _ _).symm
  · rw [hbus]
    by_cases hb : bitOf d 4 = 1 <;> simp [edgeBus, hb]
  · rw [hbus]
    exact (mapGet_put ..).trans (if_pos rfl)
  · rw [edgeTaken, if_pos ⟨hcar, hd, hh⟩, crsOf_updCrs, if_pos rfl]
    exact if_pos (decide_eq_true hb)
  · rw [edgeTaken, if_neg (by omega)]
    rfl

theorem completes_inputEdge_bad {nd : Nat} {d : Nat} (hi : linkInst s l = true) (hc : codeGood d nd = false) :
    Completes (.inputEdge l d nd) s fun t =>
      Machine.get t (F.BL_CODE_ERR l) = trunc 32 (satAdd 32 (Machine.get s (F.BL_CODE_ERR l)) 1) ∧ Within s t [F.BL_CODE_ERR l] :=
  completes_of_exec ((if_neg (by simp [hi])).trans (if_pos hc)) (badCode_spec l s)

/-- CLR_CNT (R97). -/
theorem completes_blClrCnt (hi : linkInst s l = true) :
    Completes (.blClrCnt l) s fun t =>
      (∀ f ∈ [F.BL_CRC_ERR_UP l, F.BL_CRC_ERR_DOWN l, F.BL_CODE_ERR l, F.BL_LATE_PACKETS l, F.BL_LATE_REPEATS l], Machine.get t f = 0) ∧
      Within s t [F.BL_CRC_ERR_UP l, F.BL_CRC_ERR_DOWN l, F.BL_CODE_ERR l, F.BL_LATE_PACKETS l, F.BL_LATE_REPEATS l] := by
  have hnodup : ∀ l < 36, ([F.BL_CRC_ERR_UP l, F.BL_CRC_ERR_DOWN l, F.BL_CODE_ERR l, F.BL_LATE_PACKETS l, F.BL_LATE_REPEATS l].map Fld.key).Nodup := by
    decide +kernel
  exact completes_of_exec (if_neg (by simp [hi])) ⟨fun f hf => get_clearAll (hnodup l (linkInst_lt hi)) hf s, within_clearAll _ s⟩

end commands

end Sys2Proof.Proofs
end

section
/-! SUPPORT. What an overvoltage of a leaf leaves as it is (R243, R270): the measured values and the currents of a spindle. -/

namespace Sys2Proof.Proofs

open Sys2Proof.Machine Sys2Proof.Laws

section overvoltage
variable {b c l : Nat} {f : Fld} {s t u : State}

/-- The currents of a spindle that were measured last (R235). -/
def currentsOf (s : State) (b : Nat) : Int × Int := ((spinOf s b).mD, (spinOf s b).mQ)

/-- What an overvoltage writes for one bay: its spindle's, its axes' and its heads' fields (R195, R239, R270). -/
def bayOffFields (b : Nat) : List Fld := motFields b ++ stepFields b ++ retractFields (2 * b) ++ retractFields (2 * b + 1)

/-- What an overvoltage writes for the carousel (R243). -/
def carOffFields (c : Nat) : List Fld :=
  [F.CMOT_STATUS_OV_LATCHED c, F.CMOT_BUS_EVENTS_OV c, F.CMOT_STATUS_STATE c, F.CMOT_STATUS_REVERSAL_PENDING c, F.CMOT_CMD_STATUS_BUSY c] ++ evFields (evCMOT c)

/-- A field that no overvoltage of carousel `c` writes. -/
def OffApart (c : Nat) (f : Fld) : Prop := f.key ∉ (carOffFields c).map Fld.key ∧ ∀ b < 32, f.key ∉ (bayOffFields b).map Fld.key

/-- What an overvoltage of carousel `c` leaves: the fields apart from it, and the currents of spindle `l`. -/
structure OffKept (c l : Nat) (s t : State) : Prop where
  get      : ∀ f, OffApart c f → Machine.get t f = Machine.get s f
  currents : currentsOf t l = currentsOf s l

theorem OffKept.trans (k : OffKept c l s t) (m : OffKept c l t u) : OffKept c l s u :=
  ⟨fun f hf => (m.get f hf).trans (k.get f hf), m.currents.trans k.currents⟩

theorem OffKept.of_bay (hb : b < 32) (hs : OnlyFields s t (bayOffFields b)) (hc : currentsOf t l = currentsOf s l) :
    OffKept c l s t := ⟨fun f hf => hs f (hf.2 b hb), hc⟩

theorem currents_of_spin (h : spinOf t l = spinOf s l) : currentsOf t l = currentsOf s l := by rw [currentsOf, h, ← currentsOf]

theorem currents_updSpin {g : Spindle → Spindle} (b j : Nat) (s : State) (hd : ∀ x, (g x).mD = x.mD := by intro; rfl)
    (hq : ∀ x, (g x).mQ = x.mQ := by intro; rfl) :
    currentsOf (updSpin b g s) j = currentsOf s j := by
  rw [currentsOf, spinOf_updSpin]
  split
  next h => rw [hd, hq, h, currentsOf]
  next => rfl

theorem spinOf_retractHead (h why j : Nat) (s : State) : spinOf (retractHead h why s) j = spinOf s j :=
  inner_field (fun u => spinOf u j) (fun _ => rfl) (s := { s with heads := (retractHead h why s).heads }) (atHead_retractHead h why s).within.1

theorem offKept_retractBay (hb : b < 32) (s : State) : OffKept c l s (retractBay b s) := by
  refine .of_bay hb ?_ (currents_of_spin ((spinOf_retractHead ..).trans (spinOf_retractHead ..)))
  exact only_trans (only_mono (atHead_retractHead (2 * b) 0 s).only fun f hf => List.mem_map_of_mem (by simp [bayOffFields, hf]))
    (only_mono (atHead_retractHead (2 * b + 1) 0 _).only fun f hf => List.mem_map_of_mem (by simp [bayOffFields, hf]))

theorem currents_motEnter (b st l : Nat) (s : State) :
    currentsOf (motEnter b st s) l = currentsOf s l := by
  by_cases h : l = b
  · subst h
    obtain ⟨hd, hq, -⟩ := (motEnter_spec l st s).2
    rw [currentsOf, hd, hq, ← currentsOf]
  · exact currents_of_spin ((motEnter_atLink (p := { buses := true, spindles := true }) (AtLink.refl ..) rfl rfl (List.Subset.refl _) st).spin l h)

theorem offKept_coastSpindle (hb : b < 32) (s : State) : OffKept c l s (coastSpindle b s) := by
  refine .of_bay hb (only_mono (coastSpindle_atSpin (AtSpin.refl s (motFields b)) (List.Subset.refl _)).only fun f hf =>
    List.mem_map_of_mem (by simp [bayOffFields, hf])) ?_
  unfold coastSpindle
  dsimp only
  split
  · rfl
  · rw [currents_motEnter]
    exact currents_updSpin b l s

theorem offKept_stepperOff (hb : b < 32) (s : State) : OffKept c l s (stepperOff b s) := by
  have hframe := stepperOff_atLink (p := { buses := true, axes := true, heads := true }) (AtLink.refl _ b s (stepFields b)) rfl rfl rfl
  exact .of_bay hb (only_mono hframe.only fun f hf => List.mem_map_of_mem (by simp [bayOffFields, hf])) (currents_of_spin (hframe.spinOf rfl l))

/-- The carousel's part of an overvoltage (R243). -/
def carTripped (c : Nat) (s : State) : State :=
  carouselOff c 0 (raise (evCMOT c) B.CMOT_EVT_OV (bump (F.CMOT_BUS_EVENTS_OV c) 1 (put (F.CMOT_STATUS_OV_LATCHED c) 1 s)))

/-- A bay's part of an overvoltage (R243, R270). -/
def bayTripped (b : Nat) (t : State) : State := stepperOff b (if motSt t b = 4 then retractBay b t else coastSpindle b (retractBay b t))

theorem overvoltage_eq (c : Nat) (s : State) : overvoltage c s
    = if isSet s (F.CMOT_STATUS_OV_LATCHED c) then s else forAll (baysOfCar s c) bayTripped (carTripped c s) := rfl

theorem offKept_carTripped (c l : Nat) (s : State) : OffKept c l s (carTripped c s) := by
  have hraised : Within s (raise (evCMOT c) B.CMOT_EVT_OV (bump (F.CMOT_BUS_EVENTS_OV c) 1 (put (F.CMOT_STATUS_OV_LATCHED c) 1 s))) (carOffFields c) :=
    within_raise (within_put (within_put (within_refl s _) (by simp [carOffFields])) (by simp [carOffFields])) (by simp [carOffFields, evFields])
      (by simp [carOffFields, evFields])
  have hoff : OnlyFields (raise (evCMOT c) B.CMOT_EVT_OV (bump (F.CMOT_BUS_EVENTS_OV c) 1 (put (F.CMOT_STATUS_OV_LATCHED c) 1 s))) (carTripped c s)
      (carOffFields c) := by
    unfold carTripped carouselOff
    exact only_putAll (only_refl _ _) (by simp [carOffFields])
  refine ⟨fun f hf => only_trans hraised.2 hoff f hf.1, currents_of_spin ?_⟩
  · rw [carTripped, carouselOff, spinOf_putAll]
    exact spinOf_of_inner hraised.1 l

theorem offKept_bayTripped (hb : b < 32) (s : State) : OffKept c l s (bayTripped b s) := by
  unfold bayTripped
  refine OffKept.trans ?_ (offKept_stepperOff hb _)
  split
  · exact offKept_retractBay hb s
  · exact (offKept_retractBay hb s).trans (offKept_coastSpindle hb _)

theorem offKept_overvoltage (c l : Nat) (s : State) : OffKept c l s (overvoltage c s) := by
  rw [overvoltage_eq]
  split
  · exact ⟨fun _ _ => rfl, rfl⟩
  · exact forAll_induct (fun u => OffKept c l s u) _ _ _ (offKept_carTripped c l s) fun b u hb hu =>
      hu.trans (offKept_bayTripped (bayInst_lt (List.mem_filter.1 hb).2) u)

/-! ### Fields apart from an overvoltage -/

/-- A key of the bays' block (0x3000000 to 0x3200000) that, reduced to bay 0, is none of a bay's fields that an overvoltage writes. -/
def bayKeyApart (k : Nat) : Bool :=
  decide (8 * 0x3000000 ≤ k) && decide (k < 8 * 0x3200000) && decide (k % 0x80000 ∉ (motFields 0 ++ stepFields 0).map fun f => f.key % 0x80000)

theorem bayOff_key : ∀ b < 32, ∀ f ∈ bayOffFields b, f.key < 8 * 0x3000000 ∨
    f.key % 0x80000 ∈ (motFields 0 ++ stepFields 0).map (fun f => f.key % 0x80000) := by decide +kernel

theorem carOff_key (hf : f ∈ carOffFields c) : f.key < 8 * 0x3000000 ∨ 8 * 0x3200000 ≤ f.key := by
  simp only [carOffFields, evFields, evCMOT, List.mem_append, List.mem_cons, List.not_mem_nil, or_false] at hf
  rcases hf with (rfl | rfl | rfl | rfl | rfl) | rfl | rfl <;>
  simp only [Fld.key, F.CMOT_STATUS_OV_LATCHED, F.CMOT_BUS_EVENTS_OV, F.CMOT_STATUS_STATE, F.CMOT_STATUS_REVERSAL_PENDING, F.CMOT_CMD_STATUS_BUSY, F.CMOT_EVT,
    F.EVT_LOG_HEAD] <;> omega

theorem offApart_of_bay (hf : bayKeyApart f.key = true) (c : Nat) : OffApart c f := by
  simp only [bayKeyApart, Bool.and_eq_true, decide_eq_true_eq] at hf
  obtain ⟨⟨hlo, hhi⟩, hmod⟩ := hf
  refine ⟨fun h => ?_, fun b hb h => ?_⟩
  · obtain ⟨g, hg, hk⟩ := List.mem_map.1 h
    rcases carOff_key hg with h1 | h1 <;> omega
  · obtain ⟨g, hg, hk⟩ := List.mem_map.1 h
    rcases bayOff_key b hb g hg with h1 | h1
    · omega
    · exact hmod (hk ▸ h1)

end overvoltage

end Sys2Proof.Proofs
end

section
/-! SUPPORT. The samples of a spindle's period (R90, R230 to R237): what is shown, the currents, the observer and the control. -/

namespace Sys2Proof.Proofs

open Sys2Proof.Machine Sys2Proof.Laws

/-! ### The stretch -/

section stretch
variable {l viol late : Nat} {chars : List BayChar} {m : Observed} {es : List (Nat × Nat × Nat)} {s t : State} {fs : List Fld}

/-- What the counts of a stretch of samples write. -/
def countFields (l : Nat) : List Fld := F.BL_LATE_PACKETS l :: badFields l

/-- A stretch's bad and late packets are counted (R87, R90). -/
def sampleCounted (l viol late : Nat) (chars : List BayChar) (s : State) : State :=
  Machine.when (decide (late ≠ 0)) (raise (evBL l) B.BL_EVT_LATE) (bump (F.BL_LATE_PACKETS l) late (noteBad l viol chars s))

/-- A conversion of the calibration line is taken (R457). -/
def sampleNoted (l viol late : Nat) (chars : List BayChar) (es : List (Nat × Nat × Nat)) (s : State) : State :=
  match es.find? fun x => decide (x.2.1 = 8) with
  | none => sampleCounted l viol late chars s
  | some x => calSample l x.2.2 (sampleCounted l viol late chars s)

theorem execBaySample_eq (hi : linkInst s l = true) (hup : linkUp s l = true) (hes : es = conversions chars) : execBaySample l chars viol late m s
    = .next (if l < 32 then baySample l es m (sampleNoted l viol late chars es s) else carSample (l - 32) es m (sampleNoted l viol late chars es s)) := by
  subst hes
  exact if_neg (by simp [hi, hup])

theorem sampleCounted_within (l viol late : Nat) (chars : List BayChar) (s : State) : Within s (sampleCounted l viol late chars s) (countFields l) := by
  have h1 : Within s (bump (F.BL_LATE_PACKETS l) late (noteBad l viol chars s)) (countFields l) :=
    within_put ⟨(noteBad_within l viol chars s).1, only_mono (noteBad_within l viol chars s).2 fun f hf => List.mem_map_of_mem (List.mem_cons_of_mem _ hf)⟩
      (List.mem_map_of_mem (List.mem_cons_self ..))
  unfold sampleCounted Machine.when
  split
  · exact within_raise h1 (by simp [countFields, badFields, evFields]) (by simp [countFields, badFields, evFields])
  · exact h1

theorem sampleCount_apart : ∀ l < 36, (F.BL_LATE_PACKETS l).key ∉ (badFields l).map Fld.key ∧
    (F.BL_LATE_PACKETS l).key ∉ (evFields (evBL l)).map Fld.key ∧
    (∀ f ∈ [F.BL_CRC_ERR_UP l, F.BL_CODE_ERR l], f.key ≠ (F.BL_LATE_PACKETS l).key ∧ f.key ∉ (evFields (evBL l)).map Fld.key) := by decide +kernel

theorem get_sampleCounted (hl : l < 36) (viol late : Nat) (chars : List BayChar) (s : State) :
    Machine.get (sampleCounted l viol late chars s) (F.BL_LATE_PACKETS l) = trunc 16 (satAdd 16 (Machine.get s (F.BL_LATE_PACKETS l)) late) ∧
      Machine.get (sampleCounted l viol late chars s) (F.BL_CODE_ERR l) = trunc 32 (satAdd 32 (Machine.get s (F.BL_CODE_ERR l)) viol) ∧
      Machine.get (sampleCounted l viol late chars s) (F.BL_CRC_ERR_UP l) = trunc 16 (satAdd 16 (Machine.get s (F.BL_CRC_ERR_UP l)) (badPackets chars)) := by
  obtain ⟨hlate, hlog, hcount⟩ := sampleCount_apart l hl
  obtain ⟨hup, hcode, -⟩ := noteBad_spec hl viol chars s
  have hwhen {f : Fld} (hf : f.key ∉ (evFields (evBL l)).map Fld.key) : Machine.get (sampleCounted l viol late chars s) f
      = Machine.get (bump (F.BL_LATE_PACKETS l) late (noteBad l viol chars s)) f := by
    unfold sampleCounted Machine.when
    split
    · exact (atLink_raise (p := {}) (l := l) (fs := evFields (evBL l)) (by simp [evFields]) (by simp [evFields])).get hf
    · rfl
  refine ⟨?_, ?_, ?_⟩
  · rw [hwhen hlog, get_bump_same, (noteBad_within l viol chars s).2 _ hlate]
    rfl
  · obtain ⟨h1, h2⟩ := hcount (F.BL_CODE_ERR l) (by simp)
    rw [hwhen h2, get_bump_ne h1, hcode]
  · obtain ⟨h1, h2⟩ := hcount (F.BL_CRC_ERR_UP l) (by simp)
    rw [hwhen h2, get_bump_ne h1, hup]

theorem calSample_eq (l code : Nat) (s : State) : ∃ c, calSample l code s = { s with cal := c } := by
  unfold calSample
  split
  · exact ⟨s.cal, rfl⟩
  · dsimp only
    split
    · exact ⟨s.cal, rfl⟩
    · exact ⟨_, rfl⟩

theorem sampleNoted_eq (l viol late : Nat) (chars : List BayChar) (es : List (Nat × Nat × Nat)) (s : State) :
    ∃ c, sampleNoted l viol late chars es s = { sampleCounted l viol late chars s with cal := c } := by
  unfold sampleNoted
  split
  · exact ⟨(sampleCounted l viol late chars s).cal, rfl⟩
  · exact calSample_eq ..

/-- The state behind the window but for the calibration's sums. -/
theorem AtLink.field {α : Type} (k : AtLink { cal := true } l s t fs) (g : State → α) (hg : ∀ u, g (hideParts { cal := true } (inner u)) = g u) : g t = g s :=
  (hg t).symm.trans ((congrArg g k.rest).trans (hg s))

theorem sampleNoted_atLink {p : Parts} (hp : p.cal = true) (l viol late : Nat) (chars : List BayChar) (es : List (Nat × Nat × Nat)) (s : State) :
    AtLink p l s (sampleNoted l viol late chars es s) (countFields l) := by
  obtain ⟨c, hc⟩ := sampleNoted_eq l viol late chars es s
  have hcounted : AtLink p l s (sampleCounted l viol late chars s) (countFields l) := atLink_of_within (sampleCounted_within ..)
  rw [hc]
  exact hcounted.trans ⟨by simp [hideParts, inner, hp], fun _ _ => rfl, fun _ _ _ _ => rfl, fun _ _ => rfl, fun _ _ => rfl, fun _ _ _ => rfl, only_refl _ _⟩

theorem get_sampleNoted (l viol late : Nat) (chars : List BayChar) (es : List (Nat × Nat × Nat)) (s : State) (f : Fld) :
    Machine.get (sampleNoted l viol late chars es s) f = Machine.get (sampleCounted l viol late chars s) f := by
  obtain ⟨c, hc⟩ := sampleNoted_eq l viol late chars es s
  rw [hc]
  rfl

/-- A channel's value is what it was before the stretch was counted. -/
theorem channelIn_sampleNoted (l viol late : Nat) (chars : List BayChar) (es : List (Nat × Nat × Nat)) (s : State) :
    channelIn (sampleNoted l viol late chars es s) l es = channelIn s l es :=
  (sampleNoted_atLink rfl l viol late chars es s).field (fun u => channelIn u l es) fun _ => rfl

end stretch

/-! ### The control of a period -/

section control
variable {p : Parts} {b : Nat} {s t : State} {fs : List Fld}

theorem regulateTo_spec (k : AtLink p b s t fs) (hs : p.spindles = true) (hf : F.MOT_SHIFTED b ∈ fs) (hg : F.MOT_PREDICTED b ∈ fs) (refD refQ : Int) :
    AtLink p b s (regulateTo b refD refQ t) fs ∧ ∀ j, currentsOf (regulateTo b refD refQ t) j = currentsOf t j := by
  unfold regulateTo
  extract_lets x
  split
  extract_lets raw w s1 s2
  have h1 : AtLink p b s s1 fs ∧ ∀ j, currentsOf s1 j = currentsOf t j := ⟨k.thenSpin hs _, (currents_updSpin b · t)⟩
  have h2 : AtLink p b s s2 fs ∧ ∀ j, currentsOf s2 j = currentsOf t j := by
    unfold s2
    split
    · exact ⟨h1.1.thenBump hf 1, h1.2⟩
    · exact h1
  split
  · exact h2
  · exact ⟨h2.1.thenBump hg 1, h2.2⟩

/-- The control of a period leaves the measured currents (R229 to R234). -/
theorem controlPeriod_spec (k : AtLink p b s t fs) (hb : p.buses = true) (hs : p.spindles = true) (hf : F.MOT_SHIFTED b ∈ fs) (hg : F.MOT_PREDICTED b ∈ fs) :
    AtLink p b s (controlPeriod b t) fs ∧ ∀ j, currentsOf (controlPeriod b t) j = currentsOf t j := by
  have hsend {u : State} (h : AtLink p b s u fs ∧ ∀ j, currentsOf u j = currentsOf t j) :
      AtLink p b s (sendPeriod b u) fs ∧ ∀ j, currentsOf (sendPeriod b u) j = currentsOf t j :=
    ⟨sendPacket_atLink (sendPacket_atLink h.1 hb _ _) hb _ _, h.2⟩
  unfold controlPeriod
  extract_lets st x still
  refine hsend ?_
  split_ifs
  · exact ⟨k.thenSpin hs _, (currents_updSpin b · t)⟩
  all_goals exact regulateTo_spec k hs hf hg _ _

end control

/-! ### What a spindle's conversions show -/

section shown
variable {p : Parts} {b : Nat} {m : Observed} {es : List (Nat × Nat × Nat)} {s t : State} {fs : List Fld}

theorem noteCrossing_atLink (k : AtLink p b s t fs) (hs : p.spindles = true) (x : Nat) : AtLink p b s (noteCrossing b x t) fs := by
  unfold noteCrossing
  exact k.thenSpin hs _

theorem noteCrossings_atLink (hs : p.spindles = true) (l : List Nat) (k : AtLink p b s t fs) :
    AtLink p b s (l.foldl (fun t x => noteCrossing b x t) t) fs := by
  induction l generalizing t with
  | nil => exact k
  | cons x l ih => exact ih (noteCrossing_atLink k hs x)

theorem lineSamples_atLink (k : AtLink p b s t fs) (hs : p.spindles = true) (u v w : Int) : AtLink p b s (lineSamples b u v w t) fs := by
  unfold lineSamples
  extract_lets lines old base ts s1
  have h1 : AtLink p b s s1 fs := by
    unfold s1
    split
    · exact k
    · exact noteCrossings_atLink hs _ k
  exact h1.thenSpin hs _

/-- A value that is there is taken. -/
def taken (v : Option Int) (f : Int → State → State) (t : State) : State := match v with | none => t | some z => f z t

theorem taken_atLink {l : Nat} {v : Option Int} {f : Int → State → State} (k : AtLink p l s t fs) (hf : ∀ z, AtLink p l s (f z t) fs) :
    AtLink p l s (taken v f t) fs := by
  cases v with
  | none => exact k
  | some z => exact hf z

/-- The bus voltage of a period (R230). -/
def busTaken (b : Nat) (es : List (Nat × Nat × Nat)) (s : State) : State :=
  taken (channelIn s b es 4) (fun z => put (F.MOT_VBUS b) (clampInt 0 65535 z).toNat) s

/-- The temperatures of a period (R440). -/
def tempTaken (b : Nat) (es : List (Nat × Nat × Nat)) (s : State) : State :=
  taken (channelIn s b es 5) (putI (F.MOT_NTC0 b)) (taken (channelIn s b es 6) (putI (F.MOT_NTC1 b))
    (taken (channelIn s b es 7) (fun z => updSpin b fun x => { x with ntc2 := z }) (busTaken b es s)))

/-- The line voltages of a spindle whose inverter is off (R237). -/
def linesTaken (b : Nat) (es : List (Nat × Nat × Nat)) (s : State) : State :=
  if motSt s b ∈ [0, 4, 6, 7, 8] then
    match channelIn s b es 1, channelIn s b es 2, channelIn s b es 3 with
    | some u, some v, some w => lineSamples b u v w (tempTaken b es s)
    | _, _, _ => tempTaken b es s
  else tempTaken b es s

/-- The currents of the period are in the spindle's record (R235). -/
def currentsTaken (b : Nat) (es : List (Nat × Nat × Nat)) (m : Observed) (s : State) : State :=
  updSpin b (fun x => { x with mD := (periodCurrents s b es m).1, mQ := (periodCurrents s b es m).2, mNext := (controlAngle s b m).2 }) (linesTaken b es s)

/-- The observer has been shown and the next period's edges are sent (R229, R236). -/
def periodMeasured (b : Nat) (es : List (Nat × Nat × Nat)) (m : Observed) (s : State) : State := controlPeriod b (observe b m (currentsTaken b es m s))

theorem baySample_eq (b : Nat) (es : List (Nat × Nat × Nat)) (m : Observed) (s : State) : baySample b es m s
    = if 250 * Machine.get s (F.CMOT_BUS_CTRL_OV_OFF (carOfBay s b)) ≤ Machine.get (periodMeasured b es m s) (F.MOT_VBUS b) then
        overvoltage (carOfBay s b) (periodMeasured b es m s)
      else periodMeasured b es m s := rfl

theorem busTaken_atLink (b : Nat) (es : List (Nat × Nat × Nat)) (s : State) : AtLink p b s (busTaken b es s) [F.MOT_VBUS b] :=
  taken_atLink (AtLink.refl ..) fun _ => atLink_put (List.mem_cons_self ..)

theorem tempTaken_atLink (hs : p.spindles = true) (b : Nat) (es : List (Nat × Nat × Nat)) (s : State) :
    AtLink p b (busTaken b es s) (tempTaken b es s) [F.MOT_NTC0 b, F.MOT_NTC1 b] := by
  have h7 : AtLink p b (busTaken b es s) (taken (channelIn s b es 7) (fun z => updSpin b fun x => { x with ntc2 := z }) (busTaken b es s))
      [F.MOT_NTC0 b, F.MOT_NTC1 b] := taken_atLink (AtLink.refl ..) fun _ => atLink_updSpin hs _
  exact taken_atLink (taken_atLink h7 fun _ => h7.thenPut (by simp)) fun _ => AtLink.thenPut (taken_atLink h7 fun _ => h7.thenPut (by simp)) (by simp)

theorem linesTaken_atLink (hs : p.spindles = true) (b : Nat) (es : List (Nat × Nat × Nat)) (s : State) (fs : List Fld) :
    AtLink p b (tempTaken b es s) (linesTaken b es s) fs := by
  unfold linesTaken
  split
  · split
    · exact lineSamples_atLink (AtLink.refl ..) hs _ _ _
    · exact AtLink.refl ..
  · exact AtLink.refl ..

/-- What a spindle's conversions show (R230, R440). -/
def takenFields (b : Nat) : List Fld := [F.MOT_VBUS b, F.MOT_NTC0 b, F.MOT_NTC1 b]

theorem currentsTaken_atLink (hs : p.spindles = true) (b : Nat) (es : List (Nat × Nat × Nat)) (m : Observed) (s : State) :
    AtLink p b s (currentsTaken b es m s) (takenFields b) := by
  have h1 : AtLink p b s (tempTaken b es s) (takenFields b) :=
    ((busTaken_atLink b es s).mono (by simp [takenFields])).trans ((tempTaken_atLink hs b es s).mono (by simp [takenFields]))
  exact AtLink.thenSpin (h1.trans (linesTaken_atLink hs ..)) hs _

theorem currentsOf_currentsTaken (b : Nat) (es : List (Nat × Nat × Nat)) (m : Observed) (s : State) :
    currentsOf (currentsTaken b es m s) b = periodCurrents s b es m := by
  rw [currentsOf, currentsTaken, spinOf_updSpin, if_pos rfl]

end shown

/-! ### The observer -/

section observer
variable {p : Parts} {b : Nat} {m : Observed} {s t : State} {fs : List Fld}

/-- The currents and the residual are shown (R235, R236). -/
def residualShown (b : Nat) (m : Observed) (s : State) : State :=
  put (F.MOT_RESID_LAST b) m.resid (peak (F.MOT_RESID_PEAK b) m.resid (putI (F.MOT_IDQ_D b) (spinOf s b).mD (putI (F.MOT_IDQ_Q b) (spinOf s b).mQ s)))

/-- The observer's speed, angle and lock are shown while the spindle is driven (R236). -/
def driveShown (b : Nat) (m : Observed) (s : State) : State :=
  putI (F.MOT_ANGLE_ERR b) m.pllErr (put (F.MOT_ANGLE b) m.angle (putI (F.MOT_SPEED b) m.speed (putB (F.MOT_STATUS_OBS_LOCK b) m.locked s)))

/-- What shows the currents and the residual, and what shows the observer. -/
def residualFields (b : Nat) : List Fld := [F.MOT_RESID_LAST b, F.MOT_RESID_PEAK b, F.MOT_IDQ_D b, F.MOT_IDQ_Q b]
def driveFields (b : Nat) : List Fld := [F.MOT_ANGLE_ERR b, F.MOT_ANGLE b, F.MOT_SPEED b, F.MOT_STATUS_OBS_LOCK b]


/-- The registers that the observer shows (R236). -/
def observed (b : Nat) (m : Observed) (s : State) : State :=
  if decide (motSt s b ∈ [2, 3, 5]) = true ∨ motSt s b = 1 then driveShown b m (residualShown b m s) else residualShown b m s

theorem observe_eq (b : Nat) (m : Observed) (s : State) : ∃ g : Spindle → Spindle, observe b m s = updSpin b g (observed b m s) ∧
    (∀ x, (g x).mD = x.mD) ∧ ∀ x, (g x).mQ = x.mQ := by
  unfold observe
  extract_lets st x driven s1 s2 gap
  exact ⟨_, rfl, fun _ => rfl, fun _ => rfl⟩

theorem residualShown_within (b : Nat) (m : Observed) (s : State) : Within s (residualShown b m s) (residualFields b) :=
  within_put (within_put (within_put (within_put (within_refl s _) (by simp [residualFields])) (by simp [residualFields])) (by simp [residualFields]))
    (by simp [residualFields])

theorem driveShown_within (b : Nat) (m : Observed) (s : State) : Within s (driveShown b m s) (driveFields b) :=
  within_put (within_put (within_put (within_put (within_refl s _) (by simp [driveFields])) (by simp [driveFields])) (by simp [driveFields]))
    (by simp [driveFields])

theorem observe_apart : ∀ b < 32, ((residualFields b).map Fld.key).Nodup ∧ ((driveFields b).map Fld.key).Nodup ∧
    (∀ f ∈ residualFields b, f.key ∉ (driveFields b).map Fld.key) ∧
    (∀ f ∈ residualFields b ++ driveFields b, f.key ∉ [F.MOT_SHIFTED b, F.MOT_PREDICTED b].map Fld.key) := by decide +kernel

theorem get_residualShown (hb : b < 32) (m : Observed) (s : State) :
    Machine.get (residualShown b m s) (F.MOT_IDQ_D b) = ofSigned 16 (spinOf s b).mD ∧
      Machine.get (residualShown b m s) (F.MOT_IDQ_Q b) = ofSigned 16 (spinOf s b).mQ ∧
      Machine.get (residualShown b m s) (F.MOT_RESID_LAST b) = trunc 16 m.resid := by
  obtain ⟨hnodup, -⟩ := observe_apart b hb
  simp only [residualFields, List.map_cons, List.map_nil, List.nodup_cons, List.mem_cons, List.not_mem_nil, not_or] at hnodup
  obtain ⟨⟨-, hLD, hLQ, -⟩, ⟨hPD, hPQ, -⟩, ⟨hDQ, -⟩, -⟩ := hnodup
  refine ⟨?_, ?_, get_put_same ..⟩
  · rw [residualShown, peak, get_put_ne _ _ _ _ (Ne.symm hLD), get_put_ne _ _ _ _ (Ne.symm hPD), get_putI_same]
    rfl
  · rw [residualShown, peak, get_put_ne _ _ _ _ (Ne.symm hLQ), get_put_ne _ _ _ _ (Ne.symm hPQ), putI, get_put_ne _ _ _ _ (Ne.symm hDQ), get_putI_same]
    rfl

theorem get_driveShown (hb : b < 32) (m : Observed) (s : State) :
    Machine.get (driveShown b m s) (F.MOT_SPEED b) = ofSigned 32 m.speed ∧ Machine.get (driveShown b m s) (F.MOT_ANGLE b) = trunc 16 m.angle ∧
      Machine.get (driveShown b m s) (F.MOT_ANGLE_ERR b) = ofSigned 16 m.pllErr ∧
      Machine.get (driveShown b m s) (F.MOT_STATUS_OBS_LOCK b) = (if m.locked then 1 else 0) := by
  obtain ⟨-, hnodup, -⟩ := observe_apart b hb
  simp only [driveFields, List.map_cons, List.map_nil, List.nodup_cons, List.mem_cons, List.not_mem_nil, not_or] at hnodup
  obtain ⟨⟨hEA, hES, hEL, -⟩, ⟨hAS, hAL, -⟩, ⟨hSL, -⟩, -⟩ := hnodup
  refine ⟨?_, ?_, get_putI_same .., ?_⟩
  · rw [driveShown, putI, get_put_ne _ _ _ _ (Ne.symm hES), get_put_ne _ _ _ _ (Ne.symm hAS), get_putI_same]
    rfl
  · rw [driveShown, putI, get_put_ne _ _ _ _ (Ne.symm hEA), get_put_same]
    rfl
  · rw [driveShown, putI, get_put_ne _ _ _ _ (Ne.symm hEL), get_put_ne _ _ _ _ (Ne.symm hAL), putI, get_put_ne _ _ _ _ (Ne.symm hSL), putB, get_put_same]
    cases m.locked <;> rfl

theorem observed_within (b : Nat) (m : Observed) (s : State) : Within s (observed b m s) (residualFields b ++ driveFields b) := by
  have h1 : Within s (residualShown b m s) (residualFields b ++ driveFields b) :=
    ⟨(residualShown_within b m s).1, only_mono (residualShown_within b m s).2 fun f hf => List.mem_map_of_mem (List.mem_append_left _ hf)⟩
  unfold observed
  split
  · have h2 := driveShown_within b m (residualShown b m s)
    exact ⟨h2.1.trans h1.1, only_trans h1.2 (only_mono h2.2 fun f hf => List.mem_map_of_mem (List.mem_append_right _ hf))⟩
  · exact h1

theorem get_observed_residual (hb : b < 32) {f : Fld} (hf : f ∈ residualFields b) (m : Observed) (s : State) :
    Machine.get (observed b m s) f = Machine.get (residualShown b m s) f := by
  obtain ⟨-, -, hkept, -⟩ := observe_apart b hb
  unfold observed
  split
  · exact (driveShown_within ..).2 f (hkept f hf)
  · rfl

theorem observe_atLink (k : AtLink p b s t fs) (hs : p.spindles = true) (hf : residualFields b ++ driveFields b ⊆ fs) (m : Observed) :
    AtLink p b s (observe b m t) fs ∧ ∀ j, currentsOf (observe b m t) j = currentsOf t j := by
  obtain ⟨g, hg, hd, hq⟩ := observe_eq b m t
  rw [hg]
  refine ⟨(k.trans ((atLink_of_within (observed_within b m t)).mono hf)).thenSpin hs g, fun j => ?_⟩
  rw [currents_updSpin b j _ hd hq]
  exact currents_of_spin (spinOf_of_inner (observed_within b m t).1 j)

theorem get_observe (b : Nat) (m : Observed) (s : State) (f : Fld) : Machine.get (observe b m s) f = Machine.get (observed b m s) f := by
  obtain ⟨g, hg, -⟩ := observe_eq b m s
  rw [hg]
  rfl

end observer

/-! ### The period of a spindle -/

section period
variable {p : Parts} {b : Nat} {m : Observed} {es : List (Nat × Nat × Nat)} {s : State}

/-- What a spindle's conversions write. -/
def measuredFields (b : Nat) : List Fld := takenFields b ++ (residualFields b ++ driveFields b) ++ [F.MOT_SHIFTED b, F.MOT_PREDICTED b]

theorem periodMeasured_spec (hb : p.buses = true) (hs : p.spindles = true) (b : Nat) (es : List (Nat × Nat × Nat)) (m : Observed) (s : State) :
    AtLink p b s (periodMeasured b es m s) (measuredFields b) ∧ currentsOf (periodMeasured b es m s) b = periodCurrents s b es m := by
  have h1 : AtLink p b s (currentsTaken b es m s) (measuredFields b) := (currentsTaken_atLink hs b es m s).mono fun f hf => by simp [measuredFields, hf]
  obtain ⟨h2, hc2⟩ := observe_atLink h1 hs (fun f hf => by rw [measuredFields, List.mem_append, List.mem_append]; exact .inl (.inr hf)) m
  obtain ⟨h3, hc3⟩ := controlPeriod_spec h2 hb hs (by simp [measuredFields]) (by simp [measuredFields])
  exact ⟨h3, (hc3 b).trans ((hc2 b).trans (currentsOf_currentsTaken ..))⟩

theorem get_periodMeasured (hb : b < 32) {f : Fld} (hf : f ∈ residualFields b ++ driveFields b) :
    Machine.get (periodMeasured b es m s) f = Machine.get (observed b m (currentsTaken b es m s)) f := by
  obtain ⟨-, -, -, hkept⟩ := observe_apart b hb
  rw [← get_observe]
  exact (controlPeriod_spec (p := { buses := true, spindles := true }) (AtLink.refl _ b _ [F.MOT_SHIFTED b, F.MOT_PREDICTED b]) rfl rfl (by simp) (by simp)).1.get
    (hkept f hf)

/-- The currents and the residual of a period are shown (R235, R236). -/
theorem get_periodMeasured_residual (hb : b < 32) (es : List (Nat × Nat × Nat)) (m : Observed) (s : State) :
    Machine.get (periodMeasured b es m s) (F.MOT_IDQ_D b) = ofSigned 16 (periodCurrents s b es m).1 ∧
      Machine.get (periodMeasured b es m s) (F.MOT_IDQ_Q b) = ofSigned 16 (periodCurrents s b es m).2 ∧
      Machine.get (periodMeasured b es m s) (F.MOT_RESID_LAST b) = trunc 16 m.resid := by
  have hget {f : Fld} (hf : f ∈ residualFields b) : Machine.get (periodMeasured b es m s) f = Machine.get (residualShown b m (currentsTaken b es m s)) f :=
    (get_periodMeasured hb (List.mem_append_left _ hf)).trans (get_observed_residual hb hf ..)
  obtain ⟨hd, hq, hres⟩ := get_residualShown hb m (currentsTaken b es m s)
  have hcur := currentsOf_currentsTaken b es m s
  refine ⟨?_, ?_, (hget (by simp [residualFields])).trans hres⟩
  · rw [hget (by simp [residualFields]), hd, ← hcur, currentsOf]
  · rw [hget (by simp [residualFields]), hq, ← hcur, currentsOf]

/-- The observer's registers of a period (R236). -/
theorem get_periodMeasured_drive (hb : b < 32) (hm : motSt s b = 1 ∨ motSt s b = 2 ∨ motSt s b = 3 ∨ motSt s b = 5) (es : List (Nat × Nat × Nat)) (m : Observed) :
    Machine.get (periodMeasured b es m s) (F.MOT_SPEED b) = ofSigned 32 m.speed ∧ Machine.get (periodMeasured b es m s) (F.MOT_ANGLE b) = trunc 16 m.angle ∧
      Machine.get (periodMeasured b es m s) (F.MOT_ANGLE_ERR b) = ofSigned 16 m.pllErr ∧
      Machine.get (periodMeasured b es m s) (F.MOT_STATUS_OBS_LOCK b) = (if m.locked then 1 else 0) := by
  have hapart : ∀ b < 32, (F.MOT_STATUS_STATE b).key ∉ (takenFields b).map Fld.key := by decide +kernel
  have hst : motSt (currentsTaken b es m s) b = motSt s b := (currentsTaken_atLink (p := { spindles := true }) rfl b es m s).get (hapart b hb)
  have hshown : observed b m (currentsTaken b es m s) = driveShown b m (residualShown b m (currentsTaken b es m s)) :=
    if_pos (by rw [hst]; simp; omega)
  have hget {f : Fld} (hf : f ∈ driveFields b) : Machine.get (periodMeasured b es m s) f
      = Machine.get (driveShown b m (residualShown b m (currentsTaken b es m s))) f := by
    rw [get_periodMeasured hb (List.mem_append_right _ hf), hshown]
  obtain ⟨h1, h2, h3, h4⟩ := get_driveShown hb m (residualShown b m (currentsTaken b es m s))
  exact ⟨(hget (by simp [driveFields])).trans h1, (hget (by simp [driveFields])).trans h2, (hget (by simp [driveFields])).trans h3,
    (hget (by simp [driveFields])).trans h4⟩

/-- The bus voltage of a period (R230). -/
theorem get_periodMeasured_bus (hb : b < 32) (es : List (Nat × Nat × Nat)) (m : Observed) (s : State) :
    Machine.get (periodMeasured b es m s) (F.MOT_VBUS b) = Machine.get (busTaken b es s) (F.MOT_VBUS b) := by
  have hapart : ∀ b < 32, (F.MOT_VBUS b).key ∉ ([F.MOT_NTC0 b, F.MOT_NTC1 b] ++ (residualFields b ++ driveFields b) ++ [F.MOT_SHIFTED b, F.MOT_PREDICTED b]).map
    Fld.key := by decide +kernel
  have h1 : AtLink { buses := true, spindles := true } b (busTaken b es s) (currentsTaken b es m s)
      ([F.MOT_NTC0 b, F.MOT_NTC1 b] ++ (residualFields b ++ driveFields b) ++ [F.MOT_SHIFTED b, F.MOT_PREDICTED b]) :=
    AtLink.thenSpin (((tempTaken_atLink rfl b es s).mono (by simp)).trans (linesTaken_atLink rfl ..)) rfl _
  obtain ⟨h2, -⟩ := observe_atLink h1 rfl (fun f hf => by rw [List.mem_append, List.mem_append]; exact .inl (.inr hf)) m
  exact (controlPeriod_spec h2 rfl rfl (by simp) (by simp)).1.get (hapart b hb)

theorem trunc_bus (z : Int) : trunc 16 (clampInt 0 65535 z).toNat = (clampInt 0 65535 z).toNat :=
  Nat.mod_eq_of_lt (by simp only [clampInt]; omega)

theorem get_busTaken_some {z : Int} (hz : channelIn s b es 4 = some z) : Machine.get (busTaken b es s) (F.MOT_VBUS b) = (clampInt 0 65535 z).toNat := by
  rw [busTaken, hz]
  exact (get_put_same ..).trans (trunc_bus z)

theorem get_busTaken_none (hz : channelIn s b es 4 = none) : Machine.get (busTaken b es s) (F.MOT_VBUS b) = Machine.get s (F.MOT_VBUS b) := by
  rw [busTaken, hz]
  rfl

/-- A bus below the overvoltage threshold ends the period with its measurement (R243). -/
theorem baySample_below (hb : b < 32) (hbelow : busBelow s b es (Machine.get s (F.MOT_VBUS b)) (Machine.get s (F.CMOT_BUS_CTRL_OV_OFF (carOfBay s b))) = true)
    (m : Observed) : baySample b es m s = periodMeasured b es m s := by
  rw [baySample_eq, if_neg]
  rw [get_periodMeasured_bus hb]
  unfold busBelow at hbelow
  split at hbelow
  next z hz =>
    rw [get_busTaken_some hz]
    simpa using hbelow
  next hz =>
    rw [get_busTaken_none hz]
    simpa using hbelow

theorem offKept_baySample (b : Nat) (es : List (Nat × Nat × Nat)) (m : Observed) (s : State) :
    OffKept (carOfBay s b) b (periodMeasured b es m s) (baySample b es m s) := by
  rw [baySample_eq]
  split
  · exact offKept_overvoltage ..
  · exact ⟨fun _ _ => rfl, rfl⟩

end period

end Sys2Proof.Proofs
end

section
/-! SUPPORT. The samples of a bay's link: what the stretch leaves for its conversions, and the clause of O15 (R90, R230 to R237). -/

namespace Sys2Proof.Proofs

open Sys2Proof.Machine Sys2Proof.Laws

section bays
variable {l viol late : Nat} {chars : List BayChar} {m : Observed} {es : List (Nat × Nat × Nat)} {s t : State} {fs : List Fld}

/-! ### What the counts leave -/

theorem countFields_low : ∀ l < 32, ∀ f ∈ countFields l, f.key < 8 * 0x3200000 ∧ f.key ≠ F.GLB_ARB_COUNT_ARBOURS.key := by decide +kernel

theorem carOfBay_congr (hlib : t.lib = s.lib) (hn : Machine.get t F.GLB_ARB_COUNT_ARBOURS = Machine.get s F.GLB_ARB_COUNT_ARBOURS)
    (hk : ∀ a, Machine.get t (F.ARB_AR_CFG_KIND a) = Machine.get s (F.ARB_AR_CFG_KIND a)) (b : Nat) : carOfBay t b = carOfBay s b := by
  have hleaf (a : Nat) : isLeaf t a = isLeaf s a := by rw [isLeaf, hk, ← isLeaf]
  have hbays (a : Nat) : leafBays t a = leafBays s a := by rw [leafBays, hlib, ← leafBays]
  have harbs : arbsOf t = arbsOf s := by rw [arbsOf, hn, ← arbsOf]
  simp only [carOfBay, leafCar, leafOfBay, hleaf, hbays, harbs, hlib]

theorem carOfBay_sampleNoted (hl : l < 32) (viol late : Nat) (chars : List BayChar) (es : List (Nat × Nat × Nat)) (s : State) :
    carOfBay (sampleNoted l viol late chars es s) l = carOfBay s l := by
  have hframe := sampleNoted_atLink (p := { cal := true }) rfl l viol late chars es s
  refine carOfBay_congr (hframe.field (fun u => u.lib) fun _ => rfl) (hframe.get fun h => ?_) (fun a => hframe.get fun h => ?_) l
  · obtain ⟨f, hf, hk⟩ := List.mem_map.1 h
    exact (countFields_low l hl f hf).2 hk
  · obtain ⟨f, hf, hk⟩ := List.mem_map.1 h
    have hlow := (countFields_low l hl f hf).1
    rw [hk] at hlow
    simp only [Fld.key, F.ARB_AR_CFG_KIND] at hlow
    omega

theorem get_sampleNoted_car (hl : l < 32) (viol late : Nat) (chars : List BayChar) (es : List (Nat × Nat × Nat)) (s : State) (c : Nat) :
    Machine.get (sampleNoted l viol late chars es s) (F.CMOT_BUS_CTRL_OV_OFF c) = Machine.get s (F.CMOT_BUS_CTRL_OV_OFF c) := by
  refine (sampleNoted_atLink (p := { cal := true }) rfl l viol late chars es s).get fun h => ?_
  obtain ⟨f, hf, hk⟩ := List.mem_map.1 h
  have hlow := (countFields_low l hl f hf).1
  rw [hk] at hlow
  simp only [Fld.key, F.CMOT_BUS_CTRL_OV_OFF] at hlow
  omega

theorem count_apart : ∀ l < 32, ∀ f ∈ [F.MOT_STATUS_STATE l, F.MOT_MOTOR_P l, F.MOT_VBUS l], f.key ∉ (countFields l).map Fld.key := by decide +kernel

theorem controlAngle_congr (hm : motSt t l = motSt s l) (hp : Machine.get t (F.MOT_MOTOR_P l) = Machine.get s (F.MOT_MOTOR_P l))
    (hs : spinOf t l = spinOf s l) (m : Observed) : controlAngle t l m = controlAngle s l m := by
  have hr (half : Nat) : rampAngle t l half = rampAngle s l half := by rw [rampAngle, hs, hp, ← rampAngle]
  rw [controlAngle, hm, hr, hr, ← controlAngle]

theorem periodCurrents_sampleNoted (hl : l < 32) (viol late : Nat) (chars : List BayChar) (es : List (Nat × Nat × Nat)) (s : State) (m : Observed) :
    periodCurrents (sampleNoted l viol late chars es s) l es m = periodCurrents s l es m := by
  have hframe := sampleNoted_atLink (p := { cal := true }) rfl l viol late chars es s
  have hspin := hframe.spinOf rfl l
  have hshunt : shuntIn (sampleNoted l viol late chars es s) l es = shuntIn s l es := hframe.field (fun u => shuntIn u l es) fun _ => rfl
  have hangle := controlAngle_congr (hframe.get (count_apart l hl (F.MOT_STATUS_STATE l) (by simp))) (hframe.get (count_apart l hl (F.MOT_MOTOR_P l) (by simp)))
    hspin m
  simp only [periodCurrents, hspin, hshunt, hangle]

/-! ### The clause -/

theorem measured_apart : ∀ l < 32, (∀ f ∈ [F.BL_LATE_PACKETS l, F.BL_CODE_ERR l, F.BL_CRC_ERR_UP l], f.key ∉ (measuredFields l).map Fld.key) ∧
    ∀ f ∈ [F.BL_LATE_PACKETS l, F.BL_CODE_ERR l, F.BL_CRC_ERR_UP l] ++ measuredFields l, bayKeyApart f.key = true := by decide +kernel

/-- What a stretch of samples writes below the overvoltage threshold. -/
def bayPeriodFields (l : Nat) : List Fld :=
  [F.BL_LATE_PACKETS l, F.BL_CRC_ERR_UP l, F.BL_CODE_ERR l, F.MOT_VBUS l, F.MOT_RESID_LAST l, F.MOT_RESID_PEAK l, F.MOT_IDQ_D l, F.MOT_IDQ_Q l,
    F.MOT_ANGLE_ERR l, F.MOT_ANGLE l, F.MOT_SPEED l, F.MOT_STATUS_OBS_LOCK l, F.MOT_NTC0 l, F.MOT_NTC1 l, F.MOT_SHIFTED l, F.MOT_PREDICTED l] ++
    evFields (evBL l)

theorem countFields_subset (l : Nat) : countFields l ⊆ bayPeriodFields l := by simp [countFields, badFields, evFields, bayPeriodFields]
theorem measuredFields_subset (l : Nat) : measuredFields l ⊆ bayPeriodFields l := by
  simp [measuredFields, takenFields, residualFields, driveFields, bayPeriodFields]

/-- The parts of the state that a spindle's conversions may change. -/
def samplePart : Parts := { buses := true, spindles := true, cal := true }

theorem AtLink.inner_samplePart (k : AtLink samplePart l s t fs) : inner t = { inner s with spindles := t.spindles, buses := t.buses, cal := t.cal } :=
  congrArg (fun v : State => { v with spindles := t.spindles, buses := t.buses, cal := t.cal }) k.rest

/-- A stretch of samples of a bay's link (R90, R230 to R237). -/
theorem completes_baySample_bay (hb : l < 32) (hi : linkInst s l = true) (hup : linkUp s l = true) (hes : es = conversions chars) :
    Completes (.baySample l chars viol late m) s fun t =>
      Machine.get t (F.BL_LATE_PACKETS l) = trunc 16 (satAdd 16 (Machine.get s (F.BL_LATE_PACKETS l)) late) ∧
      Machine.get t (F.BL_CODE_ERR l) = trunc 32 (satAdd 32 (Machine.get s (F.BL_CODE_ERR l)) viol) ∧
      Machine.get t (F.BL_CRC_ERR_UP l) = trunc 16 (satAdd 16 (Machine.get s (F.BL_CRC_ERR_UP l)) (badPackets chars)) ∧
      (∀ z, channelIn s l es 4 = some z → Machine.get t (F.MOT_VBUS l) = trunc 16 (clampInt 0 65535 z).toNat) ∧
      ((spinOf t l).mD, (spinOf t l).mQ) = periodCurrents s l es m ∧
      Machine.get t (F.MOT_IDQ_D l) = ofSigned 16 (spinOf t l).mD ∧ Machine.get t (F.MOT_IDQ_Q l) = ofSigned 16 (spinOf t l).mQ ∧
      Machine.get t (F.MOT_RESID_LAST l) = trunc 16 m.resid ∧
      (motSt s l = 1 ∨ motSt s l = 2 ∨ motSt s l = 3 ∨ motSt s l = 5 →
        Machine.get t (F.MOT_SPEED l) = ofSigned 32 m.speed ∧ Machine.get t (F.MOT_ANGLE l) = trunc 16 m.angle ∧
        Machine.get t (F.MOT_ANGLE_ERR l) = ofSigned 16 m.pllErr ∧ Machine.get t (F.MOT_STATUS_OBS_LOCK l) = (if m.locked then 1 else 0)) ∧
      (busBelow s l es (Machine.get s (F.MOT_VBUS l)) (Machine.get s (F.CMOT_BUS_CTRL_OV_OFF (carOfBay s l))) = true →
        inner t = { inner s with spindles := t.spindles, buses := t.buses, cal := t.cal } ∧ OnlySpin l s t ∧ OnlyBus l s t ∧
        OnlyFields s t (bayPeriodFields l)) := by
  have hframe := sampleNoted_atLink (p := { cal := true }) rfl l viol late chars es s
  obtain ⟨hlate, hcode, hcrc⟩ := get_sampleCounted (linkInst_lt hi) viol late chars s
  simp only [← get_sampleNoted l viol late chars es s] at hlate hcode hcrc
  have hchan := channelIn_sampleNoted l viol late chars es s
  have hcur := periodCurrents_sampleNoted hb viol late chars es s m
  have hmot := hframe.get (count_apart l hb (F.MOT_STATUS_STATE l) (by simp))
  have hov := get_sampleNoted_car hb viol late chars es s (carOfBay s l)
  have hcar := carOfBay_sampleNoted hb viol late chars es s
  have hvbus := hframe.get (count_apart l hb (F.MOT_VBUS l) (by simp))
  have hnoted := sampleNoted_atLink (p := samplePart) rfl l viol late chars es s
  have hexec := execBaySample_eq (m := m) (viol := viol) (late := late) hi hup hes
  rw [if_pos hb] at hexec
  generalize sampleNoted l viol late chars es s = u at *
  obtain ⟨hapart, hkey⟩ := measured_apart l hb
  obtain ⟨hmeas, hcurrents⟩ := periodMeasured_spec (p := samplePart) rfl rfl l es m u
  obtain ⟨hoff, hcurOff⟩ := offKept_baySample l es m u
  obtain ⟨hd, hq, hres⟩ := get_periodMeasured_residual hb es m u
  have hget {f : Fld} (hf : f ∈ [F.BL_LATE_PACKETS l, F.BL_CODE_ERR l, F.BL_CRC_ERR_UP l] ++ measuredFields l) :
      Machine.get (baySample l es m u) f = Machine.get (periodMeasured l es m u) f := hoff f (offApart_of_bay (hkey f hf) _)
  have hcount {f : Fld} (hf : f ∈ [F.BL_LATE_PACKETS l, F.BL_CODE_ERR l, F.BL_CRC_ERR_UP l]) : Machine.get (baySample l es m u) f = Machine.get u f :=
    (hget (List.mem_append_left _ hf)).trans (hmeas.get (hapart f hf))
  have hmeasured {f : Fld} (hf : f ∈ measuredFields l) := hget (List.mem_append_right _ hf)
  have hpair : currentsOf (baySample l es m u) l = periodCurrents s l es m := hcurOff.trans (hcurrents.trans hcur)
  refine completes_of_exec hexec ⟨(hcount (by simp)).trans hlate, (hcount (by simp)).trans hcode, (hcount (by simp)).trans hcrc, fun z hz => ?_, hpair, ?_, ?_,
    (hmeasured (by simp [measuredFields, residualFields])).trans hres, fun hm => ?_, fun hbelow => ?_⟩
  · rw [hmeasured (by simp [measuredFields, takenFields]), get_periodMeasured_bus hb, get_busTaken_some (by rw [hchan, hz]), trunc_bus]
  · rw [hmeasured (by simp [measuredFields, residualFields]), hd, hcur, ← hpair, currentsOf]
  · rw [hmeasured (by simp [measuredFields, residualFields]), hq, hcur, ← hpair, currentsOf]
  · obtain ⟨h1, h2, h3, h4⟩ := get_periodMeasured_drive hb (by rwa [motSt, hmot, ← motSt]) es m
    exact ⟨(hmeasured (by simp [measuredFields, driveFields])).trans h1, (hmeasured (by simp [measuredFields, driveFields])).trans h2,
      (hmeasured (by simp [measuredFields, driveFields])).trans h3, (hmeasured (by simp [measuredFields, driveFields])).trans h4⟩
  · have hall : AtLink samplePart l s (periodMeasured l es m u) (bayPeriodFields l) :=
      (hnoted.mono (countFields_subset l)).trans (hmeas.mono (measuredFields_subset l))
    rw [baySample_below hb (by rw [busBelow, hchan, hvbus, hcar, hov, ← busBelow]; exact hbelow)]
    exact ⟨hall.inner_samplePart, hall.spin, hall.bus, hall.only⟩

end bays

end Sys2Proof.Proofs
end

section
/-! SUPPORT. The samples of a carousel's link (R90, R241 to R244) and the clause of O15 on them. -/

namespace Sys2Proof.Proofs

open Sys2Proof.Machine Sys2Proof.Laws

section carousels
variable {p : Parts} {c viol late : Nat} {chars : List BayChar} {m : Observed} {es : List (Nat × Nat × Nat)} {s t : State} {fs : List Fld}

/-! ### The measurement -/

/-- The bus voltage of a carousel's period: the one measured, else the one held (R241). -/
def carBus (c : Nat) (es : List (Nat × Nat × Nat)) (s : State) : Nat :=
  match channelIn s (32 + c) es 4 with | none => Machine.get s (F.CMOT_BUS_STATUS_V c) | some z => (clampInt 0 65535 z).toNat

/-- The chopper's current of a period (R241). -/
def carChopper (c : Nat) (es : List (Nat × Nat × Nat)) (s : State) : Nat :=
  match channelIn s (32 + c) es 11 with | none => 0 | some z => (clampInt 0 65535 z).toNat

/-- What a carousel's conversions show (R241, R244). -/
def carShown (c : Nat) (es : List (Nat × Nat × Nat)) (m : Observed) (s : State) : State :=
  peak (F.CMOT_BUS_PEAK c) (carBus c es s) (putAll [(F.CMOT_BUS_STATUS_V c, carBus c es s), (F.CMOT_BUS_STATUS_I c, carChopper c es s)]
    (putI (F.CMOT_IDQ_D c) (carCurrents s c es m).1 (putI (F.CMOT_IDQ_Q c) (carCurrents s c es m).2 (putI (F.CMOT_SPEED c) m.speed s))))

/-- The chopper follows and the next period's packets leave (R241). -/
def carDriven (c : Nat) (g : Carousel → Carousel) (s : State) : State := carSend c (chopperSwitch c (updCrs c g s))

theorem carSample_eq (c : Nat) (es : List (Nat × Nat × Nat)) (m : Observed) (s : State) : ∃ g, carSample c es m s
    = if 250 * Machine.get s (F.CMOT_BUS_CTRL_OV_OFF c) ≤ carBus c es s then overvoltage c (carDriven c g (carShown c es m s))
      else carDriven c g (carShown c es m s) := ⟨_, rfl⟩

/-- What a carousel's conversions write (R241, R244). -/
def carShownFields (c : Nat) : List Fld := [F.CMOT_BUS_STATUS_V c, F.CMOT_BUS_STATUS_I c, F.CMOT_BUS_PEAK c, F.CMOT_IDQ_D c, F.CMOT_IDQ_Q c, F.CMOT_SPEED c]

theorem carShown_within (c : Nat) (es : List (Nat × Nat × Nat)) (m : Observed) (s : State) : Within s (carShown c es m s) (carShownFields c) :=
  within_put (within_putAll (within_put (within_put (within_put (within_refl s _) (by simp [carShownFields])) (by simp [carShownFields]))
    (by simp [carShownFields])) (by simp [carShownFields])) (by simp [carShownFields])

theorem AtLink.thenCrs (k : AtLink p (32 + c) s t fs) (hp : p.carousels = true) (g : Carousel → Carousel) : AtLink p (32 + c) s (updCrs c g t) fs := by
  have h := k.trans (atLink_updCrs (l := 32 + c) hp g)
  rwa [Nat.add_sub_cancel_left] at h

theorem chopperSwitch_atLink (k : AtLink p (32 + c) s t fs) (hb : p.buses = true) (hf : F.CMOT_STATUS_CHOP_ON c ∈ fs) :
    AtLink p (32 + c) s (chopperSwitch c t) fs := by
  unfold chopperSwitch
  extract_lets v was on
  split
  · exact k
  · exact AtLink.thenBus (AtLink.thenPut k hf) hb _

theorem carDriven_atLink (k : AtLink p (32 + c) s t fs) (hb : p.buses = true) (hc : p.carousels = true) (hf : F.CMOT_STATUS_CHOP_ON c ∈ fs)
    (g : Carousel → Carousel) : AtLink p (32 + c) s (carDriven c g t) fs := by
  unfold carDriven carSend
  exact sendPacket_atLink (sendPacket_atLink (chopperSwitch_atLink (k.thenCrs hc g) hb hf) hb _ _) hb _ _

theorem car_apart : ∀ c < 4, ((carShownFields c).map Fld.key).Nodup ∧ (∀ f ∈ carShownFields c, f.key ≠ (F.CMOT_STATUS_CHOP_ON c).key) ∧
    (F.BL_LATE_PACKETS (32 + c)).key ∉ (F.CMOT_STATUS_CHOP_ON c :: carShownFields c).map Fld.key ∧
    (∀ f ∈ [F.CMOT_BUS_STATUS_V c, F.CMOT_POS c, F.CMOT_ENC_POLES c, F.CMOT_ENC_COUNTS c, F.CMOT_BUS_CTRL_OV_OFF c],
      f.key ∉ (countFields (32 + c)).map Fld.key) := by
  decide +kernel

theorem carOff_apart : ∀ c < 4, ∀ f ∈ F.BL_LATE_PACKETS (32 + c) :: carShownFields c, f.key ∉ (carOffFields c).map Fld.key ∧
    ∀ b < 32, f.key ∉ (bayOffFields b).map Fld.key := by decide +kernel

theorem get_carShown (hc : c < 4) (es : List (Nat × Nat × Nat)) (m : Observed) (s : State) :
    Machine.get (carShown c es m s) (F.CMOT_BUS_STATUS_V c) = trunc 16 (carBus c es s) ∧
      Machine.get (carShown c es m s) (F.CMOT_BUS_STATUS_I c) = trunc 16 (carChopper c es s) ∧
      Machine.get (carShown c es m s) (F.CMOT_IDQ_D c) = ofSigned 16 (carCurrents s c es m).1 ∧
      Machine.get (carShown c es m s) (F.CMOT_IDQ_Q c) = ofSigned 16 (carCurrents s c es m).2 ∧
      Machine.get (carShown c es m s) (F.CMOT_SPEED c) = ofSigned 32 m.speed := by
  obtain ⟨hnodup, -⟩ := car_apart c hc
  simp only [carShownFields, List.map_cons, List.map_nil, List.nodup_cons, List.mem_cons, List.not_mem_nil, not_or] at hnodup
  obtain ⟨⟨hVI, hVP, hVD, hVQ, hVS, -⟩, ⟨hIP, hID, hIQ, hIS, -⟩, ⟨hPD, hPQ, hPS, -⟩, ⟨hDQ, hDS, -⟩, ⟨hQS, -⟩, -⟩ := hnodup
  simp only [carShown, peak, putAll, putI]
  refine ⟨?_, ?_, ?_, ?_, ?_⟩
  · rw [get_put_ne _ _ _ _ hVP, get_put_ne _ _ _ _ hVI, get_put_same]
    rfl
  · rw [get_put_ne _ _ _ _ hIP, get_put_same]
    rfl
  · rw [get_put_ne _ _ _ _ (Ne.symm hPD), get_put_ne _ _ _ _ (Ne.symm hID), get_put_ne _ _ _ _ (Ne.symm hVD)]
    exact get_putI_same ..
  · rw [get_put_ne _ _ _ _ (Ne.symm hPQ), get_put_ne _ _ _ _ (Ne.symm hIQ), get_put_ne _ _ _ _ (Ne.symm hVQ), get_put_ne _ _ _ _ (Ne.symm hDQ)]
    exact get_putI_same ..
  · rw [get_put_ne _ _ _ _ (Ne.symm hPS), get_put_ne _ _ _ _ (Ne.symm hIS), get_put_ne _ _ _ _ (Ne.symm hVS), get_put_ne _ _ _ _ (Ne.symm hDS),
      get_put_ne _ _ _ _ (Ne.symm hQS)]
    exact get_putI_same ..

theorem offKept_carSample (c : Nat) (es : List (Nat × Nat × Nat)) (m : Observed) (s : State) : ∃ g,
    OffKept c 0 (carDriven c g (carShown c es m s)) (carSample c es m s) ∧
      (carBus c es s < 250 * Machine.get s (F.CMOT_BUS_CTRL_OV_OFF c) → carSample c es m s = carDriven c g (carShown c es m s)) := by
  obtain ⟨g, hg⟩ := carSample_eq c es m s
  refine ⟨g, ?_, fun h => hg.trans (if_neg (by omega))⟩
  rw [hg]
  split
  · exact offKept_overvoltage ..
  · exact ⟨fun _ _ => rfl, rfl⟩

/-- What a carousel's conversions show outlasts the chopper's command and an overvoltage. -/
theorem get_carSample (hc : c < 4) {f : Fld} (hf : f ∈ F.BL_LATE_PACKETS (32 + c) :: carShownFields c) (es : List (Nat × Nat × Nat)) (m : Observed) (s : State) :
    Machine.get (carSample c es m s) f = Machine.get (carShown c es m s) f := by
  obtain ⟨-, hchop, hlate, -⟩ := car_apart c hc
  obtain ⟨g, hoff, -⟩ := offKept_carSample c es m s
  have hne : f.key ∉ [F.CMOT_STATUS_CHOP_ON c].map Fld.key := by
    rcases List.mem_cons.1 hf with rfl | hmem
    · exact fun h => hlate (by simp at h; simp [h])
    · simpa using hchop f hmem
  exact (hoff.get f (carOff_apart c hc f hf)).trans
    ((carDriven_atLink (p := { buses := true, carousels := true }) (AtLink.refl ..) rfl rfl (List.mem_cons_self ..) g).get hne)

/-! ### The clause -/

/-- What a stretch of a carousel's samples writes below the overvoltage threshold. -/
def carPeriodFields (c : Nat) : List Fld :=
  [F.BL_LATE_PACKETS (32 + c), F.BL_CRC_ERR_UP (32 + c), F.BL_CODE_ERR (32 + c), F.CMOT_BUS_STATUS_V c, F.CMOT_BUS_STATUS_I c, F.CMOT_BUS_PEAK c,
    F.CMOT_IDQ_D c, F.CMOT_IDQ_Q c, F.CMOT_SPEED c, F.CMOT_STATUS_CHOP_ON c] ++ evFields (evBL (32 + c))

theorem countFields_subset_car (c : Nat) : countFields (32 + c) ⊆ carPeriodFields c := by simp [countFields, badFields, evFields, carPeriodFields]
theorem carShownFields_subset (c : Nat) : carShownFields c ⊆ carPeriodFields c := by simp [carShownFields, carPeriodFields]

/-- The parts of the state that a carousel's conversions may change. -/
def carPart : Parts := { buses := true, carousels := true, cal := true }

theorem AtLink.inner_carPart {l : Nat} (k : AtLink carPart l s t fs) : inner t = { inner s with carousels := t.carousels, buses := t.buses, cal := t.cal } :=
  congrArg (fun v : State => { v with carousels := t.carousels, buses := t.buses, cal := t.cal }) k.rest

theorem carCurrents_sampleNoted (hc : c < 4) (viol late : Nat) (chars : List BayChar) (es : List (Nat × Nat × Nat)) (s : State) (m : Observed) :
    carCurrents (sampleNoted (32 + c) viol late chars es s) c es m = carCurrents s c es m := by
  obtain ⟨-, -, -, hkept⟩ := car_apart c hc
  have hframe := sampleNoted_atLink (p := { cal := true }) rfl (32 + c) viol late chars es s
  have hcrs : crsOf (sampleNoted (32 + c) viol late chars es s) c = crsOf s c := hframe.field (fun u => crsOf u c) fun _ => rfl
  have hget {f : Fld} (hf : f ∈ [F.CMOT_BUS_STATUS_V c, F.CMOT_POS c, F.CMOT_ENC_POLES c, F.CMOT_ENC_COUNTS c, F.CMOT_BUS_CTRL_OV_OFF c]) :=
    hframe.get (hkept f hf)
  have hpos : carPos (sampleNoted (32 + c) viol late chars es s) c = carPos s c := by
    rw [carPos, getI, hget (by simp), ← getI, ← carPos]
  have hangle : carAngle (sampleNoted (32 + c) viol late chars es s) c = carAngle s c := by
    rw [carAngle, hcrs, hpos, hget (by simp), hget (by simp), ← carAngle]
  rw [carCurrents, channelIn_sampleNoted, hangle, ← carCurrents]

/-- A stretch of samples of a carousel's link (R90, R241 to R244). -/
theorem completes_baySample_car (hi : linkInst s (32 + c) = true) (hup : linkUp s (32 + c) = true) (hes : es = conversions chars) :
    Completes (.baySample (32 + c) chars viol late m) s fun t =>
      Machine.get t (F.BL_LATE_PACKETS (32 + c)) = trunc 16 (satAdd 16 (Machine.get s (F.BL_LATE_PACKETS (32 + c))) late) ∧
      (∀ z, channelIn s (32 + c) es 4 = some z → Machine.get t (F.CMOT_BUS_STATUS_V c) = trunc 16 (clampInt 0 65535 z).toNat) ∧
      (∀ z, channelIn s (32 + c) es 11 = some z → Machine.get t (F.CMOT_BUS_STATUS_I c) = trunc 16 (clampInt 0 65535 z).toNat) ∧
      Machine.get t (F.CMOT_IDQ_D c) = ofSigned 16 (carCurrents s c es m).1 ∧ Machine.get t (F.CMOT_IDQ_Q c) = ofSigned 16 (carCurrents s c es m).2 ∧
      Machine.get t (F.CMOT_SPEED c) = ofSigned 32 m.speed ∧
      (busBelow s (32 + c) es (Machine.get s (F.CMOT_BUS_STATUS_V c)) (Machine.get s (F.CMOT_BUS_CTRL_OV_OFF c)) = true →
        inner t = { inner s with carousels := t.carousels, buses := t.buses, cal := t.cal } ∧ OnlyCrs c s t ∧ OnlyBus (32 + c) s t ∧
        OnlyFields s t (carPeriodFields c)) := by
  have hl := linkInst_lt hi
  have hc : c < 4 := by omega
  obtain ⟨-, -, hlateApart, hkept⟩ := car_apart c hc
  have hframe := sampleNoted_atLink (p := carPart) rfl (32 + c) viol late chars es s
  have hcount := (get_sampleCounted hl viol late chars s).1
  rw [← get_sampleNoted (32 + c) viol late chars es s] at hcount
  have hchan := channelIn_sampleNoted (32 + c) viol late chars es s
  have hcur := carCurrents_sampleNoted hc viol late chars es s m
  have hv := hframe.get (hkept (F.CMOT_BUS_STATUS_V c) (by simp))
  have hov := hframe.get (hkept (F.CMOT_BUS_CTRL_OV_OFF c) (by simp))
  have hexec := execBaySample_eq (m := m) (viol := viol) (late := late) hi hup hes
  rw [if_neg (by omega), Nat.add_sub_cancel_left] at hexec
  generalize sampleNoted (32 + c) viol late chars es s = u at *
  obtain ⟨hV, hI, hD, hQ, hS⟩ := get_carShown hc es m u
  obtain ⟨g, -, hbelow⟩ := offKept_carSample c es m u
  have hget {f : Fld} (hf : f ∈ F.BL_LATE_PACKETS (32 + c) :: carShownFields c) := get_carSample hc hf es m u
  refine completes_of_exec hexec ⟨?_, fun z hz => ?_, fun z hz => ?_, ?_, ?_, ?_, fun hb => ?_⟩
  · rw [hget (by simp), (carShown_within c es m u).2 _ fun h => hlateApart (List.mem_cons_of_mem _ h), hcount]
  · rw [hget (by simp [carShownFields]), hV, carBus, hchan, hz]
  · rw [hget (by simp [carShownFields]), hI, carChopper, hchan, hz]
  · rw [hget (by simp [carShownFields]), hD, hcur]
  · rw [hget (by simp [carShownFields]), hQ, hcur]
  · rw [hget (by simp [carShownFields]), hS]
  · have hbus : carBus c es u < 250 * Machine.get u (F.CMOT_BUS_CTRL_OV_OFF c) := by
      unfold busBelow at hb
      rw [carBus, hchan, hv, hov]
      split at hb
      next z hz =>
        rw [hz]
        simpa using hb
      next hz =>
        rw [hz]
        simpa using hb
    have hall : AtLink carPart (32 + c) s (carDriven c g (carShown c es m u)) (carPeriodFields c) :=
      carDriven_atLink ((hframe.mono (countFields_subset_car c)).trans ((atLink_of_within (carShown_within c es m u)).mono (carShownFields_subset c)))
        rfl rfl (by simp [carPeriodFields]) g
    have hcrs := hall.crs
    rw [Nat.add_sub_cancel_left] at hcrs
    rw [hbelow hbus]
    exact ⟨hall.inner_carPart, hcrs, hall.bus, hall.only⟩

end carousels

end Sys2Proof.Proofs
end

section
/-! SUPPORT. What the calibration's tick leaves of the links and of the registers below CAL (R455, R458, R459). -/

namespace Sys2Proof.Proofs

open Sys2Proof.Machine Sys2Proof.Laws

section calibration
variable {s t u : State} {f : Fld} {i : Nat}

/-- The links' records and the registers below CAL, but for the event log's head, are as before. -/
structure CalKept (s t : State) : Prop where
  buses : t.buses = s.buses
  get   : ∀ f : Fld, f.key < 8 * 0x7080000 → f.key ≠ F.EVT_LOG_HEAD.key → Machine.get t f = Machine.get s f

theorem CalKept.refl (s : State) : CalKept s s := ⟨rfl, fun _ _ _ => rfl⟩
theorem CalKept.trans (k : CalKept s t) (m : CalKept t u) : CalKept s u :=
  ⟨m.buses.trans k.buses, fun f hf hl => (m.get f hf hl).trans (k.get f hf hl)⟩

theorem CalKept.thenPut (k : CalKept s t) (hf : 8 * 0x7080000 ≤ f.key) (v : Nat) : CalKept s (put f v t) :=
  k.trans ⟨rfl, fun _ hg _ => get_put_ne _ _ _ _ (by omega)⟩

theorem CalKept.thenRaise (k : CalKept s t) (i : Nat) : CalKept s (raise evCAL i t) := by
  obtain ⟨hin, hout⟩ : Within t (raise evCAL i t) (evFields evCAL) := within_raise (within_refl t _) (by simp [evFields]) (by simp [evFields])
  refine k.trans ⟨inner_field (fun u => u.buses) (fun _ => rfl) hin, fun f hf hl => hout f ?_⟩
  have hevt : 8 * 0x7080000 ≤ evCAL.evt.key := by decide
  simp only [evFields, List.map_cons, List.map_nil, List.mem_cons, List.not_mem_nil, or_false, not_or]
  exact ⟨by omega, hl⟩

theorem CalKept.thenCal (k : CalKept s t) (c : Cal) : CalKept s { t with cal := c } := k.trans ⟨rfl, fun _ _ _ => rfl⟩

theorem CalKept.thenForces (k : CalKept s t) (l : List Fld) : CalKept s (takeForces l t) := by
  obtain ⟨r, hr⟩ := takeForces_force l t
  exact k.trans ⟨by rw [hr], fun f _ _ => get_takeForces l t f⟩

theorem CalKept.thenDone (k : CalKept s t) (l : List (Nat × Nat)) : CalKept s (l.foldl (fun t x => adminDone x.1 x.2 0 0 0 0 [] t) t) := by
  induction l generalizing t with
  | nil => exact k
  | cons x l ih => exact ih (k.trans ⟨rfl, fun _ _ _ => rfl⟩)

theorem CalKept.thenForAll (k : CalKept s t) {l : List Nat} {g : Nat → State → State} (hg : ∀ i u, CalKept s u → CalKept s (g i u)) :
    CalKept s (forAll l g t) := forAll_induct (CalKept s) g l t k fun i u _ hu => hg i u hu

theorem CalKept.thenTakeCal (k : CalKept s t) (p : Nat → Bool) : CalKept s (takeCal p t) := by
  have hf := k.thenForces ((t.cal.fresh.filter p).map calFields).flatten
  unfold takeCal
  extract_lets c s1 rest
  split
  · exact k
  split
  · exact CalKept.thenDone (CalKept.thenCal hf _) _
  · exact CalKept.thenCal hf _

theorem CalKept.thenBit (k : CalKept s t) (hf : 8 * 0x7080000 ≤ f.key) (i : Nat) (v : Bool) : CalKept s (putBit f i v t) := by
  unfold putBit
  exact k.thenPut hf _

theorem CalKept.thenMark (k : CalKept s t) (i : Nat) (v : Bool) : CalKept s (markBounds i v t) := by
  unfold markBounds
  split
  · exact k
  · exact k.thenBit (by decide) _ _

theorem CalKept.thenWrite (k : CalKept s t) (i gain : Nat) (ofs : Int) : CalKept s (writeItem i gain ofs t) := by
  have hkey {f : Fld} (hf : f ∈ calFields i) : 8 * 0x7080000 ≤ f.key := calFields_key_ge hf
  unfold writeItem
  extract_lets s1 src s2
  have h1 : CalKept s s1 := by
    unfold s1
    split
    next g o hgo => exact CalKept.thenPut (k.thenPut (hkey (by simp [hgo])) _) (hkey (by simp [hgo])) _
    next o ho => exact k.thenPut (hkey (by simp [ho])) _
    next => exact k
  have h2 : CalKept s s2 := h1.thenCal _
  split
  · exact h2.thenTakeCal _
  · exact h2

theorem CalKept.thenApply (k : CalKept s t) (i gain : Nat) (ofs : Int) : CalKept s (applyItem i gain ofs t) := by
  unfold applyItem
  split
  · split
    · exact k.thenBit (by decide) _ _
    · exact k
  split
  · exact (k.thenMark i true).thenRaise _
  · exact CalKept.thenWrite (CalKept.thenMark (k.thenCal _) i false) i gain ofs

theorem CalKept.thenSkip (k : CalKept s t) (e : Nat) : CalKept s (skipExpander e t) := by
  unfold skipExpander
  split
  · exact k
  · exact CalKept.thenRaise (CalKept.thenBit (f := F.CAL_SKIPPED) (k.thenCal _) (by decide) _ _) _

theorem CalKept.thenSettle (k : CalKept s t) (d e : Nat) : CalKept s (settleExpander d e t) := by
  unfold settleExpander
  extract_lets n sum v
  split
  · exact k
  split
  · exact k.thenSkip e
  · exact k.thenApply _ _ _

theorem CalKept.thenDie (k : CalKept s t) (j : CalJob) (d : Nat) : CalKept s (dieTick j d t) := by
  unfold dieTick
  extract_lets n s1
  have h1 : CalKept s s1 := by
    unfold s1
    split
    · exact k
    split
    · exact k.thenSettle d _
    · exact k
  split
  · exact h1
  split
  · exact h1.thenSkip _
  · exact h1

theorem CalKept.thenEnd (k : CalKept s t) (st : Nat) : CalKept s (endStep st t) := by
  unfold endStep
  extract_lets x v r
  split_ifs
  · exact k.thenApply _ _ _
  · exact k.thenCal _
  · exact k.thenApply _ _ _
  · exact k

theorem CalKept.thenTick (k : CalKept s t) : CalKept s (calTick t) := by
  unfold calTick
  split
  next j st n rest hj hp =>
    extract_lets src s1 s2 s3 src' s4
    have h1 : CalKept s s1 := k.thenCal _
    have h2 : CalKept s s2 := by
      unfold s2
      split
      · refine CalKept.thenForAll ?_ fun d u hu => hu.thenDie j d
        split
        · exact h1.thenForAll fun i u hu => hu.thenApply _ _ _
        · exact h1
      · exact h1
    split
    · exact h2
    have h4 : CalKept s s4 := CalKept.thenCal (h2.thenEnd st) _
    split
    · exact h4
    · exact h4.thenPut (f := F.CAL_STATUS_STEP) (by decide) _
  next => exact k

/-- A calibration that neither runs nor waits does nothing in a period. -/
theorem calTick_idle (hj : s.cal.job = none) : calTick s = s := by
  unfold calTick
  split
  next j st n rest hj' hp => rw [hj] at hj'; cases hj'
  next => rfl

end calibration

end Sys2Proof.Proofs
end

section
/-! SUPPORT. The PWM period of one link with its bay or carousel (R86 to R88, R94, R106, R229, R237, R245, R256): what it writes, the header runs
and what it takes into force. -/

namespace Sys2Proof.Proofs

open Sys2Proof.Machine Sys2Proof.Laws

/-! ### Operations that take nothing into force -/

/-- A link's header runs (R94, R95). -/
def runs (k : BusLink) : Bool × Nat × Nat := (k.heard, k.upRun, k.downRun)

/-- The parts of the state that a period's work on one link may change beside the values in force. -/
def quietParts : Parts := { buses := true, spindles := true, axes := true, carousels := true }

/-- Work of one link's period that leaves its header runs and takes nothing into force. -/
structure Quiet (l : Nat) (s t : State) (fs : List Fld) : Prop where
  frame : AtLink quietParts l s t fs
  runs  : runs (busOf t l) = runs (busOf s l)

section quiet
variable {l b h : Nat} {s t u : State} {fs gs : List Fld} {p : Parts}

theorem Quiet.refl (l : Nat) (s : State) (fs : List Fld) : Quiet l s s fs := ⟨AtLink.refl .., rfl⟩
theorem Quiet.trans (k : Quiet l s t fs) (m : Quiet l t u fs) : Quiet l s u fs := ⟨k.frame.trans m.frame, m.runs.trans k.runs⟩
theorem Quiet.mono (k : Quiet l s t fs) (hs : fs ⊆ gs) : Quiet l s t gs := ⟨k.frame.mono hs, k.runs⟩

theorem quiet_of_within (k : Within s t fs) : Quiet l s t fs := ⟨atLink_of_within k, congrArg Proofs.runs (busOf_of_inner k.1 l)⟩

theorem Quiet.thenSend (k : Quiet l s t fs) (ty : Nat) (payload : List Nat) : Quiet l s (sendPacket l ty payload t) fs := by
  refine ⟨sendPacket_atLink k.frame rfl ty payload, ?_⟩
  rw [sendPacket, busOf_updBus, if_pos rfl]
  exact k.runs

theorem Quiet.thenSpin (k : Quiet b s t fs) (g : Spindle → Spindle) : Quiet b s (updSpin b g t) fs := ⟨k.frame.thenSpin rfl g, k.runs⟩
theorem Quiet.thenPut (k : Quiet l s t fs) {f : Fld} (hf : f ∈ fs) (v : Nat) : Quiet l s (put f v t) fs := ⟨k.frame.thenPut hf, k.runs⟩

theorem Quiet.inForce (k : Quiet l s t fs) (f : Fld) : inForce t f = inForce s f := by
  have e := congrArg (fun u => Machine.inForce u f) k.frame.rest
  exact e

/-- A head's wobble speed writes its speed, SPEED_OK, its event register and its permits (R106, R111, R122). -/
def wobbleFields (h : Nat) : List Fld := [F.CH_WOB_SPEED h, F.CH_STATUS_SPEED_OK h, F.CH_EVT h] ++ permitFields h

theorem permits_within (h : Nat) (s : State) : Within s (permits h s) (permitFields h) := by
  unfold permits
  exact within_put (within_put (within_put (within_refl s _) (by simp [permitFields])) (by simp [permitFields])) (by simp [permitFields])

theorem judgeSpeed_within (h : Nat) (s : State) : Within s (judgeSpeed h s) (F.EVT_LOG_HEAD :: wobbleFields h) := by
  have h1 : Within s (putB (F.CH_STATUS_SPEED_OK h) (speedOk s h (Machine.get s (F.CH_WOB_SPEED h))) s) (F.EVT_LOG_HEAD :: wobbleFields h) :=
    within_put (within_refl s _) (by simp [wobbleFields])
  have hpermits (u : State) : Within u (permits h u) (F.EVT_LOG_HEAD :: wobbleFields h) :=
    ⟨(permits_within h u).1, only_mono (permits_within h u).2 fun f hf => List.mem_map_of_mem (by simp [wobbleFields, hf])⟩
  unfold judgeSpeed
  extract_lets ok s1
  have h2 : Within s (if isSet s (F.CH_STATUS_SPEED_OK h) = true ∧ ok = false then raise (evCH h) B.CH_EVT_SPEED_RANGE s1 else s1)
      (F.EVT_LOG_HEAD :: wobbleFields h) := by
    split
    · exact within_raise h1 (by simp [wobbleFields, evCH]) (by simp)
    · exact h1
  exact ⟨(hpermits _).1.trans h2.1, only_trans h2.2 (hpermits _).2⟩

theorem wobbleSpeed_quiet (l h : Nat) (s : State) : Quiet l s (wobbleSpeed h s) (F.EVT_LOG_HEAD :: wobbleFields h) := by
  unfold wobbleSpeed
  split
  · exact Quiet.refl ..
  · exact ((Quiet.refl l s _).thenPut (by simp [wobbleFields]) _).trans (quiet_of_within (judgeSpeed_within h _))

theorem bayWobble_quiet (b : Nat) (s : State) : Quiet b s (bayWobble b s) [F.MOT_STATUS_WOB_VALID b, F.MOT_WOB_SPEED b] := by
  unfold bayWobble
  dsimp only
  split
  · exact ((Quiet.refl b s _).thenPut (by simp) _).thenSpin _
  · exact (((Quiet.refl b s _).thenPut (by simp) _).thenPut (by simp) _).thenSpin _

theorem motEnter_quiet (b st : Nat) (s : State) : Quiet b s (motEnter b st s) (motFields b) :=
  ⟨motEnter_atLink (AtLink.refl ..) rfl rfl (List.Subset.refl _) st, by rw [(motEnter_spec b st s).1]; rfl⟩

theorem losePeriod_quiet (b : Nat) (s : State) : Quiet b s (losePeriod b s) (motFields b) := by
  unfold losePeriod
  extract_lets x
  split
  · exact Quiet.refl ..
  split
  · exact motEnter_quiet ..
  · exact (Quiet.refl ..).thenSpin _

theorem speedPeriod_quiet (b : Nat) (s : State) : Quiet b s (speedPeriod b s) [F.MOT_STATUS_SPEED_LOCK b] := by
  unfold speedPeriod
  extract_lets x goal ref ok s1
  have h1 : Quiet b s s1 [F.MOT_STATUS_SPEED_LOCK b] := (Quiet.refl ..).thenSpin _
  split
  · exact (Quiet.refl ..).thenSpin _
  split
  · exact Quiet.refl ..
  split
  · exact h1
  · exact h1.thenPut (by simp) _

theorem controlPeriod_quiet (b : Nat) (s : State) : Quiet b s (controlPeriod b s) [F.MOT_SHIFTED b, F.MOT_PREDICTED b] := by
  have hregulate (refD refQ : Int) : Quiet b s (regulateTo b refD refQ s) [F.MOT_SHIFTED b, F.MOT_PREDICTED b] := by
    have hbus := (regulateTo_spec (p := { spindles := true }) (AtLink.refl _ b s [F.MOT_SHIFTED b, F.MOT_PREDICTED b]) rfl (by simp) (by simp) refD refQ).1.busOf rfl b
    exact ⟨(regulateTo_spec (AtLink.refl ..) rfl (by simp) (by simp) refD refQ).1, congrArg Proofs.runs hbus⟩
  have hsend {u : State} (hu : Quiet b s u [F.MOT_SHIFTED b, F.MOT_PREDICTED b]) : Quiet b s (sendPeriod b u) [F.MOT_SHIFTED b, F.MOT_PREDICTED b] :=
    (hu.thenSend _ _).thenSend _ _
  unfold controlPeriod
  extract_lets st x still
  refine hsend ?_
  split_ifs
  · exact (Quiet.refl ..).thenSpin _
  all_goals exact hregulate _ _

/-- An axis's references of the next period are taken (R256). -/
theorem stepRef_atLink {a : Nat} (k : AtLink p b s t fs) (hp : p.axes = true) (ha : a < 4) (n : Nat) : AtLink p b s (stepRef b a n t).2 fs := by
  unfold stepRef
  extract_lets x r i ra rb
  split
  · exact k
  · dsimp only
    unfold takeRefs
    exact AtLink.thenAx (k.thenAx hp ha _) hp ha _

/-- The references of a bay's three axes are taken. -/
def axesStepped (b : Nat) (s : State) : State :=
  (stepRef b 2 (pwmNow s + 1) (stepRef b 1 (pwmNow s + 1) (stepRef b 0 (pwmNow s + 1) s).2).2).2

theorem axesPeriod_eq (b : Nat) (s : State) : axesPeriod b s = axesStepped b s ∨
    ∃ payload, axesPeriod b s = sendPacket b 4 payload (axesStepped b s) := by
  unfold axesPeriod
  extract_lets r code
  split
  · exact .inl rfl
  · exact .inr ⟨_, rfl⟩

theorem axesPeriod_quiet (b : Nat) (s : State) : Quiet b s (axesPeriod b s) [] := by
  have hframe {p : Parts} (hp : p.axes = true) : AtLink p b s (axesStepped b s) [] :=
    stepRef_atLink (stepRef_atLink (stepRef_atLink (AtLink.refl ..) hp (by omega) _) hp (by omega) _) hp (by omega) _
  have hstepped : Quiet b s (axesStepped b s) [] := ⟨hframe rfl, congrArg Proofs.runs ((hframe (p := { axes := true }) rfl).busOf rfl b)⟩
  obtain h | ⟨payload, h⟩ := axesPeriod_eq b s
  · rw [h]
    exact hstepped
  · rw [h]
    exact hstepped.thenSend 4 payload

theorem carouselProfile_eq (c : Nat) (s : State) : ∃ g, carouselProfile c s = updCrs c g s := by
  unfold carouselProfile
  extract_lets
  split
  · exact ⟨_, rfl⟩
  · exact ⟨_, rfl⟩

theorem updCrs_quiet (c : Nat) (g : Carousel → Carousel) (s : State) (fs : List Fld) : Quiet (32 + c) s (updCrs c g s) fs :=
  ⟨AtLink.thenCrs (AtLink.refl ..) rfl g, rfl⟩

end quiet

end Sys2Proof.Proofs
end

section
/-! SUPPORT. The PWM period over all links, and the clause of O15 on it (R86, R94, R106, R229, R245, R455). -/

namespace Sys2Proof.Proofs

open Sys2Proof.Machine Sys2Proof.Laws

/-! ### The period of one link -/

section link
variable {l b c : Nat} {s t u : State} {fs gs ws vs : List Fld}

/-- The parts of the state that a period's work on one link may change. -/
def stepParts : Parts := { buses := true, spindles := true, axes := true, carousels := true, force := true }

/-- The header runs after the end of a period (R94, R95). -/
def ranOn (k : BusLink) : Bool × Nat × Nat := (false, if k.heard then k.upRun + 1 else 0, if k.heard then 0 else k.downRun + 1)

/-- A link's header run is closed, the values of `ws` are in force and no others have come into force. -/
structure Ticked (l : Nat) (s t : State) (fs ws : List Fld) : Prop where
  frame : AtLink stepParts l s t fs
  runs  : runs (busOf t l) = ranOn (busOf s l)
  taken : ∀ f ∈ ws, inForce t f = Machine.get s f
  kept  : ∀ f : Fld, f.key ∉ ws.map Fld.key → inForce t f = inForce s f

theorem Ticked.mono (k : Ticked l s t fs ws) (hs : fs ⊆ gs) : Ticked l s t gs ws := ⟨k.frame.mono hs, k.runs, k.taken, k.kept⟩

theorem Quiet.stepFrame (k : Quiet l s t fs) : AtLink stepParts l s t fs := by
  have hrest := congrArg (hideParts stepParts) k.frame.rest
  exact ⟨hrest, k.frame.bus, k.frame.ax, k.frame.spin, k.frame.crs, k.frame.heads, k.frame.only⟩

theorem Ticked.thenQuiet (k : Ticked l s t fs ws) (m : Quiet l t u fs) : Ticked l s u fs ws :=
  ⟨k.frame.trans m.stepFrame, m.runs.trans k.runs, fun f hf => (m.inForce f).trans (k.taken f hf), fun f hf => (m.inForce f).trans (k.kept f hf)⟩

/-- More values come into force, whose registers have not changed. -/
theorem Ticked.thenForces (k : Ticked l s t fs ws) (hn : ((ws ++ vs).map Fld.key).Nodup) (hg : ∀ f ∈ vs, Machine.get t f = Machine.get s f) :
    Ticked l s (takeForces vs t) fs (ws ++ vs) := by
  rw [List.map_append, List.nodup_append] at hn
  obtain ⟨-, hvs, hdisj⟩ := hn
  refine ⟨k.frame.thenForces rfl vs, by rw [busOf_takeForces, k.runs], fun f hf => ?_, fun f hf => ?_⟩
  · rcases List.mem_append.1 hf with h | h
    · rw [inForce_takeForces_of_notMem fun hm => hdisj _ (List.mem_map_of_mem h) _ hm rfl, k.taken f h]
    · rw [inForce_takeForces_of_mem hvs h, hg f h]
  · rw [List.map_append, not_mem_append] at hf
    rw [inForce_takeForces_of_notMem hf.2, k.kept f hf.1]

theorem runs_headerRuns (l : Nat) (g : BusLink → BusLink) (hg : ∀ k, ranOn (g k) = ranOn k) (s : State) :
    runs (busOf (headerRuns l (updBus l g s)) l) = ranOn (busOf s l) := by
  rw [headerRuns, busOf_updBus, if_pos rfl, busOf_updBus, if_pos rfl, ← hg (busOf s l)]
  cases h : (g (busOf s l)).heard <;> simp [runs, ranOn, h]

theorem linkPeriod_ticked (l : Nat) (hn : ((configFields l).map Fld.key).Nodup) (s : State) : Ticked l s (linkPeriod l s) [] (configFields l) := by
  unfold linkPeriod
  extract_lets p k s1 s2 s3
  have h1 : Ticked l s s1 [] [] := ⟨AtLink.thenBus (atLink_updBus rfl _) rfl _, runs_headerRuns l _ (by intro; rfl) s,
    fun _ hf => absurd hf (List.not_mem_nil), fun _ _ => rfl⟩
  have hsend {u : State} {ws : List Fld} (hu : Ticked l s u [] ws) (ty : Nat) (payload : List Nat) : Ticked l s (sendPacket l ty payload u) [] ws :=
    hu.thenQuiet ((Quiet.refl ..).thenSend ty payload)
  have h2 : Ticked l s s2 [] (configFields l) := (hsend h1 0 _).thenForces (ws := []) hn fun _ _ => rfl
  have h3 : Ticked l s s3 [] (configFields l) := by
    unfold s3
    split
    · exact hsend h2 6 _
    · exact h2
  split
  · exact h1.thenForces (ws := []) hn fun _ _ => rfl
  split
  · exact hsend h3 5 _
  · exact h3

/-- What the period of a bay writes. -/
def bayStepFields (b : Nat) : List Fld :=
  F.EVT_LOG_HEAD :: [F.MOT_STATUS_WOB_VALID b, F.MOT_WOB_SPEED b, F.MOT_STATUS_SPEED_LOCK b, F.MOT_STATUS_STATE b, F.MOT_EVT b, F.MOT_SHIFTED b,
    F.MOT_PREDICTED b] ++ [2 * b, 2 * b + 1].flatMap wobbleFields

/-- What a bay's or a carousel's period takes into force beside its link's values (R10, R229, R233). -/
def bayForce (b : Nat) : List Fld := [F.MOT_CUR_KP b, F.MOT_CUR_KI b, F.MOT_SHUNT_SETTLE b, F.MOT_SHUNT_WIN_MIN b]
def carForce (c : Nat) : List Fld := [F.CMOT_CUR_KP c, F.CMOT_CUR_KI c]
def linkForce (l : Nat) : List Fld := configFields l ++ if l < 32 then bayForce l else carForce (l - 32)

theorem force_apart : ∀ l < 36, ((linkForce l).map Fld.key).Nodup := by decide +kernel

/-- The period of a bay (R106, R229, R237, R256). -/
def bayStep (b : Nat) (s : State) : State := axesPeriod b (bayPeriod b s)

/-- The period of a carousel (R245). -/
def carStep (c : Nat) (s : State) : State :=
  if linkUp (carPeriod c s) (32 + c) = true ∧ (mapFind (busOf (carPeriod c s) (32 + c)).act 2).isNone = true then carSend c (carPeriod c s)
  else carPeriod c s

/-- The period of a link. -/
def linkStep (l : Nat) (s : State) : State := if l < 32 then bayStep l s else carStep (l - 32) s

theorem bayPeriod_ticked (hb : b < 32) (s : State) : Ticked b s (bayPeriod b s) (bayStepFields b) (linkForce b) := by
  have hn := force_apart b (by omega)
  have hforce : linkForce b = configFields b ++ bayForce b := by rw [linkForce, if_pos hb]
  rw [hforce] at hn ⊢
  have hsub {fs : List Fld} {t u : State} (k : Quiet b t u fs) (hs : fs ⊆ bayStepFields b) : Quiet b t u (bayStepFields b) := k.mono hs
  have hlink := linkPeriod_ticked b (by rw [List.map_append] at hn; exact hn.of_append_left) s
  unfold bayPeriod
  extract_lets s1 sent s2 s3
  have h1 : Ticked b s s1 (bayStepFields b) (configFields b ++ bayForce b) :=
    (hlink.mono (List.nil_subset _)).thenForces hn fun f _ => hlink.frame.get (by simp)
  have h2 : Ticked b s s2 (bayStepFields b) (configFields b ++ bayForce b) := by
    unfold s2
    split
    · exact h1.thenQuiet ((Quiet.refl ..).thenSpin _)
    · exact h1
  have hwob {h : Nat} (hh : h ∈ [2 * b, 2 * b + 1]) (u : State) : Quiet b u (wobbleSpeed h u) (bayStepFields b) := by
    refine hsub (wobbleSpeed_quiet b h u) fun f hf => ?_
    rcases List.mem_cons.1 hf with rfl | hm
    · exact List.mem_cons_self ..
    · exact List.mem_append_right _ (List.mem_flatMap.2 ⟨h, hh, hm⟩)
  have h3 : Ticked b s s3 (bayStepFields b) (configFields b ++ bayForce b) :=
    ((((h2.thenQuiet (hwob (by simp) _)).thenQuiet (hwob (by simp) _)).thenQuiet (hsub (bayWobble_quiet b _) (by simp [bayStepFields]))).thenQuiet
      (hsub (losePeriod_quiet b _) (by simp [motFields, bayStepFields]))).thenQuiet (hsub (speedPeriod_quiet b _) (by simp [bayStepFields]))
  split
  · exact h3.thenQuiet (hsub (controlPeriod_quiet b s3) (by simp [bayStepFields]))
  · exact h3

theorem carPeriod_ticked (hc : c < 4) (s : State) : Ticked (32 + c) s (carPeriod c s) [] (linkForce (32 + c)) := by
  have hn := force_apart (32 + c) (by omega)
  have hforce : linkForce (32 + c) = configFields (32 + c) ++ carForce c := by rw [linkForce, if_neg (by omega), Nat.add_sub_cancel_left]
  rw [hforce] at hn ⊢
  have hlink := linkPeriod_ticked (32 + c) (by rw [List.map_append] at hn; exact hn.of_append_left) s
  unfold carPeriod
  extract_lets s1
  have h1 : Ticked (32 + c) s s1 [] (configFields (32 + c) ++ carForce c) := hlink.thenForces hn fun f _ => hlink.frame.get (by simp)
  obtain ⟨g, hg⟩ := carouselProfile_eq c (updCrs c (fun x => { x with restRun := if (getI s1 (F.CMOT_SPEED c)).natAbs < 500 then x.restRun + 1 else 0 }) s1)
  rw [hg]
  exact (h1.thenQuiet (updCrs_quiet ..)).thenQuiet (updCrs_quiet ..)

/-- What the period of a link writes: a carousel's writes no field. -/
def stepFieldsOf (l : Nat) : List Fld := if l < 32 then bayStepFields l else []

theorem linkStep_ticked (hl : l < 36) (s : State) : Ticked l s (linkStep l s) (stepFieldsOf l) (linkForce l) := by
  unfold linkStep stepFieldsOf
  split
  next hb => exact (bayPeriod_ticked hb s).thenQuiet ((axesPeriod_quiet l _).mono (List.nil_subset _))
  next hb =>
    obtain ⟨c, rfl⟩ : ∃ c, l = 32 + c := ⟨l - 32, by omega⟩
    rw [Nat.add_sub_cancel_left]
    have h1 := carPeriod_ticked (by omega : c < 4) s
    unfold carStep
    split
    · exact h1.thenQuiet (((Quiet.refl ..).thenSend _ _).thenSend _ _)
    · exact h1

end link

end Sys2Proof.Proofs
end

section
/-! SUPPORT. The PWM period over all links (R86, R94, R106, R229, R245, R455). -/

namespace Sys2Proof.Proofs

open Sys2Proof.Machine Sys2Proof.Laws

/-! ### A loop that reaches an element once -/

/-- What holds of an element before its step, and after it, in a loop over elements that occur once each. -/
theorem forAll_once {l : List Nat} (hn : l.Nodup) {f : Nat → State → State} {i : Nat} (hi : i ∈ l) {pre post : State → Prop} {s : State} (h : pre s)
    (hskip : ∀ j ∈ l, j ≠ i → ∀ u, pre u → pre (f j u)) (hstep : ∀ u, pre u → post (f i u))
    (hkeep : ∀ j ∈ l, j ≠ i → ∀ u, post u → post (f j u)) :
    post (forAll l f s) := by
  induction l generalizing s with
  | nil => cases hi
  | cons a l ih =>
    obtain ⟨ha, hl⟩ := List.nodup_cons.1 hn
    by_cases hai : a = i
    · subst hai
      exact forAll_induct post f l _ (hstep s h) fun j u hj hu => hkeep j (List.mem_cons_of_mem _ hj) (fun e => ha (e ▸ hj)) u hu
    · exact ih hl ((List.mem_cons.1 hi).resolve_left (Ne.symm hai)) (hskip a (List.mem_cons_self ..) hai s h)
        (fun j hj => hskip j (List.mem_cons_of_mem _ hj)) fun j hj => hkeep j (List.mem_cons_of_mem _ hj)

/-! ### The links -/

section links
variable {l : Nat} {s u : State}

/-- The links that exist: those of the bays, then those of the carousels. -/
def linksOf (s : State) : List Nat := baysOf s ++ (carsOf s).map (32 + ·)

theorem lt_of_mem_baysOf {b : Nat} (h : b ∈ baysOf s) : b < 32 := List.mem_range.1 (List.mem_filter.1 h).1
theorem lt_of_mem_carsOf {c : Nat} (h : c ∈ carsOf s) : c < 4 := List.mem_range.1 (List.mem_filter.1 h).1

theorem lt_of_mem_linksOf (h : l ∈ linksOf s) : l < 36 := by
  rcases List.mem_append.1 h with hb | hc
  · have := lt_of_mem_baysOf hb
    omega
  · obtain ⟨c, hcar, rfl⟩ := List.mem_map.1 hc
    have := lt_of_mem_carsOf hcar
    omega

theorem mem_linksOf (hi : linkInst s l = true) : l ∈ linksOf s := by
  have hl := linkInst_lt hi
  unfold linkInst at hi
  split at hi
  next hb => exact List.mem_append_left _ (List.mem_filter.2 ⟨List.mem_range.2 hb, hi⟩)
  next hb =>
    simp only [Bool.and_eq_true] at hi
    exact List.mem_append_right _ (List.mem_map.2 ⟨l - 32, List.mem_filter.2 ⟨List.mem_range.2 (by omega), hi.2⟩, by omega⟩)

theorem nodup_linksOf (s : State) : (linksOf s).Nodup := by
  refine List.nodup_append.2 ⟨List.nodup_range.filter _, (List.nodup_range.filter _).map fun a b h => Nat.add_left_cancel h, ?_⟩
  rintro b hb _ hc rfl
  obtain ⟨c, -, hbc⟩ := List.mem_map.1 hc
  have := lt_of_mem_baysOf hb
  omega

/-- The state in which the links' periods start: the period is counted and the calibration's boundary taken (R455). -/
def periodCounted (s : State) : State := put F.CLK_PWM (Machine.get s F.CLK_PWM + 1) s
def periodStarted (s : State) : State := takeCal (fun i => decide (2 ≤ i) && decide (i < 38)) (calTick (periodCounted s))

theorem forAll_linksOf (s u : State) : forAll (linksOf s) linkStep u = forAll (carsOf s) carStep (forAll (baysOf s) bayStep u) := by
  have hbays : forAll (baysOf s) linkStep u = forAll (baysOf s) bayStep u := List.foldl_ext _ _ _ fun t b hb => if_pos (lt_of_mem_baysOf hb)
  have hcars (v : State) : forAll ((carsOf s).map (32 + ·)) linkStep v = forAll (carsOf s) carStep v := by
    rw [forAll, List.foldl_map]
    refine List.foldl_ext _ _ _ fun t c _ => ?_
    rw [linkStep, if_neg (by omega), Nat.add_sub_cancel_left]
  rw [← hbays, ← hcars, linksOf]
  exact List.foldl_append ..

theorem execPwmPeriod_eq (s : State) : execPwmPeriod s = .next (forAll (linksOf s) linkStep (periodStarted s)) := by
  rw [forAll_linksOf]
  rfl

end links

/-! ### What the period leaves of a link -/

section period
variable {l j : Nat} {f : Fld} {s u : State}

theorem links_apart : ∀ l < 36, ∀ f ∈ linkForce l, f.key < 8 * 0x7080000 ∧ f.key ≠ F.EVT_LOG_HEAD.key ∧ f.key ≠ F.CLK_PWM.key := by
  decide +kernel

/-- Where the fields of a bay's period lie within the bay's 64 KiB. -/
def stepOffsets : List Nat :=
  [F.MOT_STATUS_WOB_VALID 0, F.MOT_WOB_SPEED 0, F.MOT_STATUS_SPEED_LOCK 0, F.MOT_STATUS_STATE 0, F.MOT_EVT 0, F.MOT_SHIFTED 0, F.MOT_PREDICTED 0].map
    fun f => f.key % 0x80000

theorem stepFields_key : ∀ j < 36, ∀ f ∈ stepFieldsOf j, f.key < 8 * 0x3000000 ∨ f.key % 0x80000 ∈ stepOffsets := by decide +kernel

/-- The values of a link lie in its own 64 KiB, beside the fields of a period. -/
theorem linkForce_key : ∀ l < 36, ∀ f ∈ linkForce l, 8 * 0x3000000 ≤ f.key ∧ f.key % 0x80000 ∉ stepOffsets ∧ f.key / 0x80000 = 0x300 + l := by
  decide +kernel

theorem step_apart (hl : l < 36) (hj : j < 36) (hf : f ∈ linkForce l) : f.key ∉ (stepFieldsOf j).map Fld.key := fun h => by
  obtain ⟨hlo, hoff, -⟩ := linkForce_key l hl f hf
  obtain ⟨g, hg, hk⟩ := List.mem_map.1 h
  rw [← hk] at hlo hoff
  rcases stepFields_key j hj g hg with h1 | h1
  · omega
  · exact hoff h1

theorem forces_apart (hl : l < 36) (hj : j < 36) (hne : j ≠ l) (hf : f ∈ linkForce l) : f.key ∉ (linkForce j).map Fld.key := fun h => by
  obtain ⟨-, -, hat⟩ := linkForce_key l hl f hf
  obtain ⟨g, hg, hk⟩ := List.mem_map.1 h
  obtain ⟨-, -, hgat⟩ := linkForce_key j hj g hg
  rw [hk] at hgat
  omega

theorem clock_apart : ∀ l < 36, F.CLK_PWM.key ∉ (stepFieldsOf l).map Fld.key := by decide +kernel

theorem periodStarted_kept (s : State) : CalKept (periodCounted s) (periodStarted s) := CalKept.thenTakeCal (CalKept.refl _).thenTick _

theorem get_periodStarted (hl : l < 36) (hf : f ∈ linkForce l) (s : State) : Machine.get (periodStarted s) f = Machine.get s f := by
  obtain ⟨hlow, hlog, hclk⟩ := links_apart l hl f hf
  exact ((periodStarted_kept s).get f hlow hlog).trans (get_put_ne _ _ _ _ hclk)

theorem busOf_periodStarted (s : State) (j : Nat) : busOf (periodStarted s) j = busOf s j := by
  rw [busOf, (periodStarted_kept s).buses]
  rfl

/-- A link's record and the values about to come into force are those of the period's start. -/
def Before (s : State) (l : Nat) (u : State) : Prop := busOf u l = busOf s l ∧ ∀ f ∈ linkForce l, Machine.get u f = Machine.get s f

/-- A link's period has been worked: its header run is closed and its values are in force. -/
def After (s : State) (l : Nat) (u : State) : Prop := runs (busOf u l) = ranOn (busOf s l) ∧ ∀ f ∈ linkForce l, inForce u f = Machine.get s f

theorem Before.thenStep (k : Before s l u) (hl : l < 36) (hj : j < 36) (hne : j ≠ l) : Before s l (linkStep j u) := by
  have hstep := linkStep_ticked hj u
  exact ⟨(hstep.frame.bus l (Ne.symm hne)).trans k.1, fun f hf => (hstep.frame.get (step_apart hl hj hf)).trans (k.2 f hf)⟩

theorem Before.worked (k : Before s l u) (hl : l < 36) : After s l (linkStep l u) := by
  have hstep := linkStep_ticked hl u
  exact ⟨by rw [hstep.runs, k.1], fun f hf => (hstep.taken f hf).trans (k.2 f hf)⟩

theorem After.thenStep (k : After s l u) (hl : l < 36) (hj : j < 36) (hne : j ≠ l) : After s l (linkStep j u) := by
  have hstep := linkStep_ticked hj u
  exact ⟨by rw [hstep.frame.bus l (Ne.symm hne), k.1], fun f hf => (hstep.kept f (forces_apart hl hj hne hf)).trans (k.2 f hf)⟩

theorem after_period (hi : linkInst s l = true) : After s l (forAll (linksOf s) linkStep (periodStarted s)) := by
  have hl := linkInst_lt hi
  exact forAll_once (nodup_linksOf s) (mem_linksOf hi) (pre := Before s l) ⟨busOf_periodStarted s l, fun f hf => get_periodStarted hl hf s⟩
    (fun j hj hne u hu => hu.thenStep hl (lt_of_mem_linksOf hj) hne) (fun u hu => hu.worked hl)
    fun j hj hne u hu => hu.thenStep hl (lt_of_mem_linksOf hj) hne

theorem get_clock_period (s : State) : Machine.get (forAll (linksOf s) linkStep (periodStarted s)) F.CLK_PWM = trunc 64 (Machine.get s F.CLK_PWM + 1) := by
  refine forAll_induct (fun u => Machine.get u F.CLK_PWM = trunc 64 (Machine.get s F.CLK_PWM + 1)) _ _ _ ?_ fun j u hj hu =>
    ((linkStep_ticked (lt_of_mem_linksOf hj) u).frame.get (clock_apart j (lt_of_mem_linksOf hj))).trans hu
  exact ((periodStarted_kept s).get F.CLK_PWM (by decide) (by decide)).trans (get_put_same ..)

/-- What a period writes where no calibration is under way. -/
def pwmFields (s : State) : List Fld :=
  F.CLK_PWM :: F.EVT_LOG_HEAD :: ((baysOf s).flatMap fun b =>
    [F.MOT_STATUS_WOB_VALID b, F.MOT_WOB_SPEED b, F.MOT_STATUS_SPEED_LOCK b, F.MOT_STATUS_STATE b, F.MOT_EVT b, F.MOT_SHIFTED b, F.MOT_PREDICTED b] ++
      [2 * b, 2 * b + 1].flatMap wobbleFields)

theorem stepFieldsOf_subset (hl : l ∈ linksOf s) : stepFieldsOf l ⊆ pwmFields s := by
  unfold stepFieldsOf
  split
  next hb =>
    have hmem : l ∈ baysOf s := by
      refine (List.mem_append.1 hl).resolve_right fun h => ?_
      obtain ⟨c, -, hc⟩ := List.mem_map.1 h
      omega
    intro f hf
    rcases List.mem_cons.1 hf with rfl | h
    · simp [pwmFields]
    · exact List.mem_cons_of_mem _ (List.mem_cons_of_mem _ (List.mem_flatMap.2 ⟨l, hmem, h⟩))
  next => exact List.nil_subset _

/-- Without a calibration a period changes links, motors, carousels and what is in force (R86). -/
theorem period_frame (hfresh : s.cal.fresh = []) (hjob : s.cal.job = none) :
    hideParts stepParts (inner (forAll (linksOf s) linkStep (periodStarted s))) = hideParts stepParts (inner s) ∧
      OnlyFields s (forAll (linksOf s) linkStep (periodStarted s)) (pwmFields s) := by
  have hidle : periodStarted s = periodCounted s := by
    rw [periodStarted, calTick_idle (s := periodCounted s) hjob]
    exact takeCal_of_none fun x hx => by rw [show (periodCounted s).cal.fresh = [] from hfresh] at hx; cases hx
  rw [hidle]
  refine forAll_induct (fun u => hideParts stepParts (inner u) = hideParts stepParts (inner s) ∧ OnlyFields s u (pwmFields s)) _ _ _
    ⟨rfl, only_put (only_refl s _) (List.mem_map_of_mem (List.mem_cons_self ..))⟩ fun j u hj hu => ?_
  have hframe := (linkStep_ticked (lt_of_mem_linksOf hj) u).frame
  exact ⟨hframe.rest.trans hu.1, only_trans hu.2 (only_mono hframe.only fun f hf => List.mem_map_of_mem (stepFieldsOf_subset hj hf))⟩

theorem inner_stepParts {t : State} (k : hideParts stepParts (inner t) = hideParts stepParts (inner s)) :
    inner t = { inner s with buses := t.buses, spindles := t.spindles, axes := t.axes, carousels := t.carousels, force := t.force } :=
  congrArg (fun v : State => { v with
    buses := t.buses, spindles := t.spindles, axes := t.axes
    carousels := t.carousels, force := t.force }) k

/-- A PWM period (R86, R94, R106, R229, R245, R455). -/
theorem completes_pwmPeriod (s : State) :
    Completes .pwmPeriod s fun t =>
      Machine.get t F.CLK_PWM = trunc 64 (Machine.get s F.CLK_PWM + 1) ∧
      (∀ l < 36, linkInst s l = true →
        (busOf t l).heard = false ∧ (busOf t l).upRun = (if (busOf s l).heard then (busOf s l).upRun + 1 else 0) ∧
        (busOf t l).downRun = (if (busOf s l).heard then 0 else (busOf s l).downRun + 1) ∧
        ∀ f ∈ [F.BL_DEADTIME l, F.BL_OC_TRIP l], inForce t f = Machine.get s f) ∧
      (∀ b < 32, bayInst s b = true → ∀ f ∈ bayForce b, inForce t f = Machine.get s f) ∧
      (∀ c < 4, carInst s c = true → ∀ f ∈ carForce c, inForce t f = Machine.get s f) ∧
      (s.cal.fresh = [] → s.cal.job = none →
        inner t = { inner s with buses := t.buses, spindles := t.spindles, axes := t.axes, carousels := t.carousels, force := t.force } ∧
        OnlyFields s t (pwmFields s)) := by
  refine completes_of_exec (execPwmPeriod_eq s) ⟨get_clock_period s, fun l _ hi => ?_, fun b hb hi f hf => ?_, fun c hc hi f hf => ?_, fun hfresh hjob => ?_⟩
  · obtain ⟨hruns, hforce⟩ := after_period hi
    simp only [runs, ranOn, Prod.mk.injEq] at hruns
    exact ⟨hruns.1, hruns.2.1, hruns.2.2, fun f hf => hforce f (List.mem_append_left _ hf)⟩
  · refine (after_period (linkInst_bay hi)).2 f (List.mem_append_right _ ?_)
    rwa [if_pos hb]
  · have hlink : linkInst s (32 + c) = true := by
      rw [linkInst, if_neg (by omega), Nat.add_sub_cancel_left, hi]
      simp only [Bool.and_true, decide_eq_true_eq]
      omega
    refine (after_period hlink).2 f (List.mem_append_right _ ?_)
    rwa [if_neg (by omega), Nat.add_sub_cancel_left]
  · obtain ⟨hrest, honly⟩ := period_frame hfresh hjob
    exact ⟨inner_stepParts hrest, honly⟩

end period

end Sys2Proof.Proofs
end

section
/-! O15: the period and the packets of a bay or carousel link (R86 to R97, R106, R229 to R247, R455). -/

namespace Sys2Proof.Proofs

open Sys2Proof.Machine Sys2Proof.Laws

/-- Settles O15: each clause by the command's own lemma; the period by a loop that reaches each link once. -/
theorem bayLinkPackets : Obligations.BayLinkPackets :=
  ⟨completes_pwmPeriod, fun _ _ _ _ _ _ hi h1 h3 hd => completes_bayHeader_some hi h1 h3 hd, fun _ _ _ _ _ hi h1 h3 hd => completes_bayHeader_none hi h1 h3 hd,
    fun _ _ _ _ _ _ _ hb hi hup hes => completes_baySample_bay hb hi hup hes, fun _ _ _ _ _ _ _ hi hup hes => completes_baySample_car hi hup hes,
    fun _ _ _ _ _ hi hst hd => completes_bayIdent hi hst hd, fun _ _ _ _ hi hc => completes_inputEdge hi hc,
    fun _ _ _ _ hi hc => completes_inputEdge_bad hi hc, fun _ _ hi => completes_blClrCnt hi⟩

end Sys2Proof.Proofs
end

section
/-! SUPPORT. The wobble PLL of a channel: what the entry of a state writes, and what it leaves (R103, R105, R107, R119). -/

namespace Sys2Proof.Proofs

open Sys2Proof.Machine Sys2Proof.Laws

/-! ### The entry of a state -/

/-- The marks that HOLD and LOST leave on the open slots of a channel (R105, R119). -/
def slotsHeld (c : Chan) : Chan := { c with slots := c.slots.map fun o => { o with held := true } }
def slotsLost (c : Chan) : Chan := { c with slots := c.slots.map fun o => { o with lost := true } }

/-- A channel whose PLL starts at a frequency: its phase is not known (R105). -/
def acquiring (nco : Nat) (c : Chan) : Chan := { c with nco := nco, phiOk := false }

/-- The PLL has lost the wobble, and the address is still confirmed (R105, R107). -/
def wpllFailed (h : Nat) (s : State) : State :=
  raise (evCH h) B.CH_EVT_WPLL_LOST (bump (F.CH_WPLL_LOST h) 1 (updChan h slotsLost (put (F.CH_STATUS_WPLL_STATE h) 4 s)))

/-- What an address no longer confirmed changes, and what the entry of a state writes beside the state itself. -/
def unconfirmFields (h : Nat) : List Fld := confirmFields h ++ permitFields h
def wpllSideFields (h : Nat) : List Fld := [F.CH_WPLL_HOLD h, F.CH_WPLL_LOST h] ++ unconfirmFields h ++ evFields (evCH h)

/-- What the loss of the wobble writes. -/
def lostPllFields (h : Nat) : List Fld :=
  [F.CH_STATUS_WPLL_STATE h, F.CH_WPLL_LOST h, F.CH_STATUS_ADDR_CONF h, F.CH_ADDR_CONFIRMED h, F.SV_POS_CONFIRMED h] ++ permitFields h
    ++ evFields (evCH h)

/-- The registers of the PLL and of the channel's control word are apart from what is written beside them. -/
theorem wpll_apart : ∀ h < 64,
    (∀ f ∈ [F.CH_STATUS_WPLL_STATE h, F.CH_CTRL_EN h], f.key ∉ (wpllSideFields h).map Fld.key) ∧
    (∀ f ∈ [F.CH_STATUS_WPLL_STATE h, F.CH_CTRL_EN h, F.CH_CTRL_READ_EN h, F.CH_WPLL_HOLD h, F.CH_WPLL_LOST h, (evCH h).evt],
      f.key ∉ (unconfirmFields h).map Fld.key) ∧
    (∀ f ∈ [F.CH_WPLL_HOLD h, F.CH_WPLL_LOST h, F.CH_CTRL_EN h], f.key ≠ (F.CH_STATUS_WPLL_STATE h).key) ∧
    (F.CH_WPLL_LOST h).key ∉ (evFields (evCH h)).map Fld.key ∧ (F.CH_CTRL_EN h).key ∉ (abandonFields h).map Fld.key ∧
    (F.CH_STATUS_ADDR_CONF h).key ∉ (permitFields h).map Fld.key := by decide +kernel

section enter
variable {h st : Nat} {s : State} {f : Fld}

theorem atHead_updChan (h : Nat) (g : Chan → Chan) (s : State) (fs : List Fld) : AtHead h s (updChan h g s) fs := atHead_updHead h _ s fs

@[simp] theorem get_updChan (h : Nat) (g : Chan → Chan) (s : State) (f : Fld) : Machine.get (updChan h g s) f = Machine.get s f := rfl
@[simp] theorem chanOf_updChan (h : Nat) (g : Chan → Chan) (s : State) : chanOf (updChan h g s) h = g (chanOf s h) :=
  congrArg Head.ch (getHead_updChan h g s)
@[simp] theorem chanOf_permits (h g : Nat) (s : State) : chanOf (permits h s) g = chanOf s g := rfl

theorem get_permits_apart (hf : f.key ∉ (unconfirmFields h).map Fld.key) (s : State) : Machine.get (permits h s) f = Machine.get s f :=
  ((atHead_permits h s).mono (List.subset_append_right ..)).get hf

theorem get_clearConfirm_apart (hf : f.key ∉ (unconfirmFields h).map Fld.key) (s : State) :
    Machine.get (clearConfirm h s) f = Machine.get s f := (atHead_clearConfirm h s).get hf

/-- IDLE and ACQUIRE only show themselves. -/
theorem wpllEnter_plain (hst : st < 2) (h : Nat) (s : State) : wpllEnter h st s = permits h (put (F.CH_STATUS_WPLL_STATE h) st s) := by
  simp only [wpllEnter, show st ≠ 2 by omega, show st ≠ 3 by omega, show st ≠ 4 by omega, if_false]

theorem wpllEnter_lock (h : Nat) (s : State) :
    wpllEnter h 2 s = permits h (raise (evCH h) B.CH_EVT_WPLL_LOCK (put (F.CH_STATUS_WPLL_STATE h) 2 s)) := rfl

theorem wpllEnter_hold (h : Nat) (s : State) :
    wpllEnter h 3 s = permits h (bump (F.CH_WPLL_HOLD h) 1 (updChan h slotsHeld (put (F.CH_STATUS_WPLL_STATE h) 3 s))) := rfl

theorem wpllEnter_lost (h : Nat) (s : State) : wpllEnter h 4 s = permits h (clearConfirm h (wpllFailed h s)) := rfl

/-- Past the state's own register, an entry writes counters, the event, the confirmation and the permits. -/
theorem atHead_wpllEnter_side (h st : Nat) (s : State) :
    AtHead h (put (F.CH_STATUS_WPLL_STATE h) st s) (wpllEnter h st s) (wpllSideFields h) := by
  have hc : unconfirmFields h ⊆ wpllSideFields h := fun f hf => by simp [wpllSideFields, hf]
  refine AtHead.trans ?_ ((atHead_permits h _).mono fun f hf => hc (List.mem_append_right _ hf))
  split_ifs
  · exact atHead_raise (by simp [wpllSideFields, evFields]) (by simp [wpllSideFields, evFields])
  · exact (atHead_updChan h _ _ _).trans (atHead_bump (by simp [wpllSideFields]))
  · exact (((atHead_updChan h _ _ _).trans (atHead_bump (by simp [wpllSideFields]))).thenRaise (by simp [wpllSideFields, evFields])
      (by simp [wpllSideFields, evFields])).trans ((atHead_clearConfirm h _).mono hc)
  · exact AtHead.refl h _ _

theorem wpllSt_wpllEnter (hh : h < 64) (hst : st ≤ 4) (s : State) : wpllSt (wpllEnter h st s) h = st := by
  obtain ⟨hside, -⟩ := wpll_apart h hh
  rw [wpllSt, (atHead_wpllEnter_side h st s).get (hside _ (by simp)), get_put_same]
  exact Nat.mod_eq_of_lt (show st < 2 ^ 3 by omega)

theorem within_wpllEnter_plain (hst : st < 2) (h : Nat) (s : State) :
    Within s (wpllEnter h st s) (F.CH_STATUS_WPLL_STATE h :: permitFields h) := by
  rw [wpllEnter_plain hst]
  exact within_trans (within_put (within_refl s _) (by simp)) (within_permits (List.subset_cons_self ..) _)

/-- The entry of ACQUIRE with the frequency it starts at (R105). -/
theorem wpllAcquire_spec (hh : h < 64) (nco : Nat) (s : State) :
    wpllSt (wpllEnter h 1 (updChan h (acquiring nco) s)) h = 1 ∧
      chanOf (wpllEnter h 1 (updChan h (acquiring nco) s)) h = acquiring nco (chanOf s h) ∧
      AtHead h s (wpllEnter h 1 (updChan h (acquiring nco) s)) (F.CH_STATUS_WPLL_STATE h :: permitFields h) := by
  refine ⟨wpllSt_wpllEnter hh (by decide) _, ?_, (atHead_updChan h _ _ _).trans (atHead_of_within (within_wpllEnter_plain (by decide) h _))⟩
  rw [wpllEnter_plain (by decide), chanOf_permits, chanOf, getHead_put]
  exact chanOf_updChan ..

/-- The entry of LOCKED raises its event (R105). -/
theorem wpllLock_spec (hh : h < 64) (s : State) :
    wpllSt (wpllEnter h 2 s) h = 2 ∧ Raised (wpllEnter h 2 s) (evCH h) B.CH_EVT_WPLL_LOCK ∧
      Within s (wpllEnter h 2 s) (F.CH_STATUS_WPLL_STATE h :: permitFields h ++ evFields (evCH h)) := by
  obtain ⟨-, hclear, -⟩ := wpll_apart h hh
  refine ⟨wpllSt_wpllEnter hh (by decide) s, ?_, ?_⟩ <;> rw [wpllEnter_lock]
  · exact raised_of_get (get_permits_apart (hclear _ (by simp)) _) (raised_raise headEv_ch (by decide))
  · exact within_trans (within_raise (within_put (within_refl s _) (by simp)) (by simp [evFields]) (by simp [evFields]))
      (within_permits (fun f hf => by simp [hf]) _)

/-- The entry of HOLD is counted and marks the open slots (R105, R119). -/
theorem wpllHold_spec (hh : h < 64) (s : State) :
    Machine.get (wpllEnter h 3 s) (F.CH_WPLL_HOLD h) = trunc 32 (satAdd 32 (Machine.get s (F.CH_WPLL_HOLD h)) 1) ∧
      chanOf (wpllEnter h 3 s) h = slotsHeld (chanOf s h) ∧
      AtHead h s (wpllEnter h 3 s) (F.CH_STATUS_WPLL_STATE h :: F.CH_WPLL_HOLD h :: permitFields h) := by
  obtain ⟨-, hclear, hstate, -⟩ := wpll_apart h hh
  refine ⟨?_, ?_, ?_⟩ <;> rw [wpllEnter_hold]
  · rw [get_permits_apart (hclear _ (by simp)), get_bump_same, get_updChan, get_put_ne _ _ _ _ (hstate _ (by simp))]
    rfl
  · rw [chanOf_permits, chanOf, getHead_bump]
    exact chanOf_updChan ..
  · exact (((atHead_put (by simp)).trans (atHead_updChan h _ _ _)).trans (atHead_bump (by simp))).trans
      ((atHead_permits h _).mono fun f hf => by simp [hf])

/-- The entry of LOST is counted and raised, and marks the open slots (R105, R107, R119). -/
theorem wpllLost_spec (hh : h < 64) (s : State) :
    Machine.get (wpllEnter h 4 s) (F.CH_WPLL_LOST h) = trunc 32 (satAdd 32 (Machine.get s (F.CH_WPLL_LOST h)) 1) ∧
      Raised (wpllEnter h 4 s) (evCH h) B.CH_EVT_WPLL_LOST ∧ Machine.get (wpllEnter h 4 s) (F.CH_STATUS_ADDR_CONF h) = 0 ∧
      (chanOf (wpllEnter h 4 s) h).slots = (slotsLost (chanOf s h)).slots ∧ AtHead h s (wpllEnter h 4 s) (lostPllFields h) := by
  obtain ⟨-, hclear, hstate, hev, -, hconf⟩ := wpll_apart h hh
  have hkept {f : Fld} (hf : f.key ∉ (unconfirmFields h).map Fld.key) :
      Machine.get (wpllEnter h 4 s) f = Machine.get (wpllFailed h s) f := by
    rw [wpllEnter_lost, get_permits_apart hf, get_clearConfirm_apart hf]
  refine ⟨?_, raised_of_get (hkept (hclear _ (by simp))) (raised_raise headEv_ch (by decide)), ?_, ?_, ?_⟩
  · rw [hkept (hclear _ (by simp)), wpllFailed, (atHead_raise (h := h) (fs := evFields (evCH h)) (by simp [evFields]) (by simp [evFields])).get hev,
      get_bump_same, get_updChan, get_put_ne _ _ _ _ (hstate _ (by simp))]
    rfl
  · rw [wpllEnter_lost, (atHead_permits h _).get hconf, get_clearConfirm hh (by simp [confirmFields])]
  · rw [wpllEnter_lost, chanOf_permits, chanOf, getHead_clearConfirm, wpllFailed, getHead_raise, getHead_bump, getHead_updChan, getHead_put]
    rfl
  · rw [wpllEnter_lost, wpllFailed]
    exact ((((atHead_put (by simp [lostPllFields])).trans (atHead_updChan h _ _ _)).trans (atHead_bump (by simp [lostPllFields]))).trans
      (atHead_raise (by simp [lostPllFields, evFields]) (by simp [lostPllFields, evFields]))).trans
      (((atHead_clearConfirm h _).mono (by simp [lostPllFields, confirmFields, permitFields])).trans
        ((atHead_permits h _).mono fun f hf => by simp [lostPllFields, hf]))

end enter

end Sys2Proof.Proofs
end

section
/-! SUPPORT. The commands of the wobble PLL and of a channel's control word (R103, R105, R107, R111, R119, R121, R122). -/

namespace Sys2Proof.Proofs

open Sys2Proof.Machine Sys2Proof.Laws

section commands
variable {h : Nat} {s : State}

/-! ### The states -/

theorem completes_wpllAcquire {a0 a1 : Nat} (hi : headInst s h = true) (he : Machine.get s (F.CH_CTRL_EN h) ≠ 0)
    (hst : wpllSt s h = 0 ∨ (wpllSt s h = 4 ∧ (ampOk s h a0 = true ∨ ampOk s h a1 = true))) :
    Completes (.wpllAcquire h a0 a1) s fun t =>
      wpllSt t h = 1 ∧ chanOf t h = { chanOf s h with nco := nominalNco s h, phiOk := false } ∧
      WithinHead h s t (F.CH_STATUS_WPLL_STATE h :: permitFields h) := by
  obtain ⟨hstate, hchan, hframe⟩ := wpllAcquire_spec (headInst_lt hi) (nominalNco s h) s
  have hguard : ¬(headInst s h = false ∨ Machine.get s (F.CH_CTRL_EN h) = 0 ∨
      (wpllSt s h ≠ 0 ∧ (wpllSt s h ≠ 4 ∨ (ampOk s h a0 || ampOk s h a1) = false))) := by
    rw [Bool.or_eq_false_iff, hi]
    rcases hst with h0 | ⟨h4, ha⟩
    · simp [h0, he]
    · rcases ha with ha | ha <;> simp [h4, ha, he]
  exact completes_of_exec (if_neg hguard) ⟨hstate, hchan, hframe.within⟩

theorem completes_wpllLock {rms : Nat} (hi : headInst s h = true) (hst : wpllSt s h = 1) (hr : rms < 2048) :
    Completes (.wpllLock h rms) s fun t =>
      wpllSt t h = 2 ∧ Raised t (evCH h) B.CH_EVT_WPLL_LOCK ∧
      Within s t (F.CH_STATUS_WPLL_STATE h :: permitFields h ++ evFields (evCH h)) :=
  completes_of_exec (if_neg (by simp [hi, hst, hr])) (wpllLock_spec (headInst_lt hi) s)

theorem completes_wpllHold {a0 a1 : Nat} (hi : headInst s h = true) (hst : wpllSt s h = 2) (h0 : ampOk s h a0 = false)
    (h1 : ampOk s h a1 = false) :
    Completes (.wpllHold h a0 a1) s fun t =>
      wpllSt t h = 3 ∧ Machine.get t (F.CH_WPLL_HOLD h) = trunc 32 (satAdd 32 (Machine.get s (F.CH_WPLL_HOLD h)) 1) ∧
      chanOf t h = { chanOf s h with slots := (chanOf s h).slots.map fun o => { o with held := true } } ∧
      WithinHead h s t (F.CH_STATUS_WPLL_STATE h :: F.CH_WPLL_HOLD h :: permitFields h) := by
  have hh := headInst_lt hi
  obtain ⟨hcount, hchan, hframe⟩ := wpllHold_spec hh s
  exact completes_of_exec (if_neg (by simp [hi, hst, h0, h1])) ⟨wpllSt_wpllEnter hh (by decide) s, hcount, hchan, hframe.within⟩

/-- An amplitude's return is judged by the phase error (R105). -/
theorem exec_wpllHoldReturn {a0 a1 : Nat} (err : Nat) (hi : headInst s h = true) (hst : wpllSt s h = 3)
    (ha : ampOk s h a0 = true ∨ ampOk s h a1 = true) :
    exec (.wpllHoldReturn h a0 a1 err) s = .next (wpllEnter h (if err < 8192 then 2 else 4) s) :=
  if_neg (by rw [Bool.or_eq_false_iff, hi]; rcases ha with ha | ha <;> simp [hst, ha])

theorem completes_wpllHoldReturn_lock {a0 a1 err : Nat} (hi : headInst s h = true) (hst : wpllSt s h = 3)
    (ha : ampOk s h a0 = true ∨ ampOk s h a1 = true) (he : err < 8192) :
    Completes (.wpllHoldReturn h a0 a1 err) s fun t =>
      wpllSt t h = 2 ∧ Raised t (evCH h) B.CH_EVT_WPLL_LOCK ∧
      Within s t (F.CH_STATUS_WPLL_STATE h :: permitFields h ++ evFields (evCH h)) := by
  refine completes_of_exec (exec_wpllHoldReturn err hi hst ha) ?_
  rw [if_pos he]
  exact wpllLock_spec (headInst_lt hi) s

theorem completes_wpllHoldReturn_lost {a0 a1 err : Nat} (hi : headInst s h = true) (hst : wpllSt s h = 3)
    (ha : ampOk s h a0 = true ∨ ampOk s h a1 = true) (he : 8192 ≤ err) :
    Completes (.wpllHoldReturn h a0 a1 err) s fun t =>
      wpllSt t h = 4 ∧ Raised t (evCH h) B.CH_EVT_WPLL_LOST ∧ Machine.get t (F.CH_STATUS_ADDR_CONF h) = 0 := by
  have hh := headInst_lt hi
  obtain ⟨-, hraised, hconf, -⟩ := wpllLost_spec hh s
  refine completes_of_exec (exec_wpllHoldReturn err hi hst ha) ?_
  rw [if_neg (by omega)]
  exact ⟨wpllSt_wpllEnter hh (by decide) s, hraised, hconf⟩

theorem completes_wpllLost {periods rms : Nat} (hi : headInst s h = true)
    (hst : (wpllSt s h = 1 ∧ 8192 ≤ periods) ∨ (wpllSt s h = 2 ∧ 8192 < rms) ∨
      (wpllSt s h = 3 ∧ 16 * inForce s (F.CH_WPLL_CFG_HOLD_MAX h) ≤ periods)) :
    Completes (.wpllLost h periods rms) s fun t =>
      wpllSt t h = 4 ∧ Machine.get t (F.CH_WPLL_LOST h) = trunc 32 (satAdd 32 (Machine.get s (F.CH_WPLL_LOST h)) 1) ∧
      Raised t (evCH h) B.CH_EVT_WPLL_LOST ∧ Machine.get t (F.CH_STATUS_ADDR_CONF h) = 0 ∧
      (∀ o ∈ (chanOf t h).slots, o.lost = true) ∧ WithinHead h s t (lostPllFields h) := by
  have hh := headInst_lt hi
  obtain ⟨hcount, hraised, hconf, hslots, hframe⟩ := wpllLost_spec hh s
  have hlost : ∀ o ∈ (chanOf (wpllEnter h 4 s) h).slots, o.lost = true := by
    rw [hslots]
    exact List.forall_mem_map.2 fun _ _ => rfl
  have hdue : (decide (wpllSt s h = 1) && decide (8192 ≤ periods) || decide (wpllSt s h = 2) && decide (8192 < rms)
      || decide (wpllSt s h = 3) && decide (16 * inForce s (F.CH_WPLL_CFG_HOLD_MAX h) ≤ periods)) = true := by
    simpa only [Bool.or_eq_true, Bool.and_eq_true, decide_eq_true_eq, or_assoc] using hst
  exact completes_of_exec (if_neg (by rw [hi, hdue]; decide))
    ⟨wpllSt_wpllEnter hh (by decide) s, hcount, hraised, hconf, hlost, hframe.within⟩

/-! ### The control word -/

/-- EN 1 in IDLE acquires; any other state goes on (R105, R121). -/
theorem completes_chEnable_on {en : Nat} (hi : headInst s h = true) (hen : en % 2 = 1) :
    Completes (.chEnable h en) s fun t =>
      Machine.get t (F.CH_CTRL_EN h) = 1 ∧ wpllSt t h = (if wpllSt s h = 0 then 1 else wpllSt s h) ∧
      chanOf t h = (if wpllSt s h = 0 then { chanOf s h with nco := nominalNco s h, phiOk := false } else chanOf s h) ∧
      WithinHead h s t (F.CH_CTRL_EN h :: F.CH_STATUS_WPLL_STATE h :: permitFields h) := by
  have hh := headInst_lt hi
  obtain ⟨hside, -, hne, -⟩ := wpll_apart h hh
  have hput : AtHead h s (put (F.CH_CTRL_EN h) en s) (F.CH_CTRL_EN h :: F.CH_STATUS_WPLL_STATE h :: permitFields h) := atHead_put (by simp)
  have hset : Machine.get (put (F.CH_CTRL_EN h) en s) (F.CH_CTRL_EN h) = 1 := (get_put_same ..).trans hen
  refine completes_of_exec ((if_neg (by simp [hi])).trans (if_pos hen)) ?_
  by_cases h0 : wpllSt s h = 0
  · obtain ⟨hstate, hchan, hframe⟩ := wpllAcquire_spec hh (nominalNco s h) (put (F.CH_CTRL_EN h) en s)
    rw [if_pos h0, if_pos h0, if_pos h0]
    refine ⟨?_, hstate, hchan, (hput.trans (hframe.mono (List.subset_cons_self ..))).within⟩
    refine Eq.trans ?_ hset
    exact ((atHead_wpllEnter_side h 1 _).get (hside _ (by simp))).trans (get_put_ne _ _ _ _ (hne _ (by simp)))
  · rw [if_neg h0, if_neg h0, if_neg h0]
    exact ⟨hset, get_put_ne _ _ _ _ (hne _ (by simp)).symm, rfl, hput.within⟩

/-- EN 0 stops the PLL, drops the open slots and unconfirms the address (R121). -/
theorem completes_chEnable_off {en : Nat} (hi : headInst s h = true) (hen : en % 2 = 0) :
    Completes (.chEnable h en) s fun t =>
      Machine.get t (F.CH_CTRL_EN h) = 0 ∧ wpllSt t h = 0 ∧ Machine.get t (F.CH_STATUS_ADDR_CONF h) = 0 ∧
      ((chanOf s h).slots = [] →
        WithinHead h s t ([F.CH_CTRL_EN h, F.CH_STATUS_WPLL_STATE h, F.CH_STATUS_ADDR_CONF h, F.CH_ADDR_CONFIRMED h, F.SV_POS_CONFIRMED h]
          ++ permitFields h)) := by
  have hh := headInst_lt hi
  obtain ⟨hside, hclear, hne, -, hdrop, -⟩ := wpll_apart h hh
  refine completes_of_exec ((if_neg (by simp [hi])).trans (if_neg (by omega)))
    ⟨?_, ?_, get_clearConfirm hh (by simp [confirmFields]) _, fun hslots => AtHead.within ?_⟩
  · rw [get_clearConfirm_apart (hclear _ (by simp)), (atHead_wpllEnter_side h 0 _).get (hside _ (by simp)), get_put_ne _ _ _ _ (hne _ (by simp)),
      (abandonSlots_drive (AtDrive.refl h _ _) (List.Subset.refl _) _).get hdrop, get_put_same]
    exact hen
  · rw [wpllSt, get_clearConfirm_apart (hclear _ (by simp))]
    exact wpllSt_wpllEnter hh (by decide) _
  · have hnone : abandonSlots h (fun _ => true) (put (F.CH_CTRL_EN h) en s) = put (F.CH_CTRL_EN h) en s :=
      if_pos (congrArg (List.filter fun _ => true) hslots)
    rw [hnone]
    exact ((atHead_put (by simp)).trans ((atHead_of_within (within_wpllEnter_plain (by decide) h _)).mono (by simp [permitFields]))).trans
      ((atHead_clearConfirm h _).mono (by simp [confirmFields, permitFields]))

/-- The read permit as the judgment of the permits reports it (R111). -/
theorem get_permits_read (h : Nat) (s : State) : Machine.get (permits h s) (F.CH_STATUS_READ_PERMIT h)
    = if ((List.range 32).all fun k => beamHidden s h k || readPermitIn s h (nextFret s h k)) = true then 1 else 0 := by
  have htrack : (F.CH_STATUS_READ_PERMIT h).key ≠ (F.SV_STATUS_ON_TRACK h).key := by
    simp only [Fld.key, F.CH_STATUS_READ_PERMIT, F.SV_STATUS_ON_TRACK]
    omega
  rw [permits, putB, get_put_ne _ _ _ _ htrack, putB, get_put_same]
  split <;> rfl

/-- Whether a beam is read does not rest on the channel's control word (R62, R77). -/
theorem beamHidden_put_readEn (hh : h < 64) (v k : Nat) (s : State) : beamHidden (put (F.CH_CTRL_READ_EN h) v s) h k = beamHidden s h k := by
  have hapart : ∀ h < 64, (F.HL_STATUS_DEGRADED h).key ≠ (F.CH_CTRL_READ_EN h).key ∧
      (F.HL_STATUS_GROUP h).key ≠ (F.CH_CTRL_READ_EN h).key := by decide +kernel
  obtain ⟨hdegraded, hgroup⟩ := hapart h hh
  rw [beamHidden, isSet, get_put_ne _ _ _ _ hdegraded, get_put_ne _ _ _ _ hgroup]
  rfl

/-- READ_EN 0 takes the read permit of a head that reads a beam (R111, R121). -/
theorem completes_chReadEn {en : Nat} (hi : headInst s h = true) :
    Completes (.chReadEn h en) s fun t =>
      Machine.get t (F.CH_CTRL_READ_EN h) = en % 2 ∧
      (en % 2 = 0 → (∃ k, k < 32 ∧ beamHidden s h k = false) → Machine.get t (F.CH_STATUS_READ_PERMIT h) = 0) ∧
      Within s t (F.CH_CTRL_READ_EN h :: permitFields h) := by
  have hh := headInst_lt hi
  obtain ⟨-, hclear, -⟩ := wpll_apart h hh
  have hset : Machine.get (put (F.CH_CTRL_READ_EN h) en s) (F.CH_CTRL_READ_EN h) = en % 2 := get_put_same ..
  refine completes_of_exec (if_neg (by simp [hi])) ⟨?_, fun h0 ⟨k, hk, hread⟩ => ?_,
    within_trans (within_put (within_refl s _) (by simp)) (within_permits (List.subset_cons_self ..) _)⟩
  · rw [get_permits_apart (hclear _ (by simp)), hset]
  · have hno (fret : Nat) : readPermitIn (put (F.CH_CTRL_READ_EN h) en s) h fret = false := by
      simp only [readPermitIn, isSet, hset, h0, zero_ne_one, decide_false, Bool.false_and]
    rw [get_permits_read, if_neg]
    intro hall
    have hbeam := List.all_eq_true.1 hall k (List.mem_range.2 hk)
    rw [beamHidden_put_readEn hh, hread, hno] at hbeam
    exact absurd hbeam (by decide)

/-- The counters of a channel (R121, R122). -/
def chanCounts (h : Nat) : List Fld :=
  [F.CH_UCRC_ERR h, F.CH_ADDR_MISMATCH h, F.CH_WPLL_HOLD h, F.CH_WPLL_LOST h, F.CH_SYNC_MISS h, F.CH_SYNC_EARLY h, F.CH_RESYNC_SLIP h,
    F.CH_RESYNC_MISS h, F.CH_ABANDON h, F.CH_RATE_LATE h, F.CH_SAMPLE_DISC h, F.CH_BLANK_SLOTS h, F.CH_WPLL_ERR_PEAK h]

theorem completes_chClrCnt (hi : headInst s h = true) :
    Completes (.chClrCnt h) s fun t => (∀ f ∈ chanCounts h, Machine.get t f = 0) ∧ Within s t (chanCounts h) :=
  have hn : ∀ h < 64, ((chanCounts h).map Fld.key).Nodup := by decide +kernel
  completes_of_exec (if_neg (by simp [hi])) ⟨fun _ hf => get_clearAll (hn h (headInst_lt hi)) hf s, within_clearAll (chanCounts h) s⟩

end commands

end Sys2Proof.Proofs
end

section
/-! O6: the states of the wobble PLL and the control word of a channel (R103, R105, R107, R119, R121, R122). -/

namespace Sys2Proof.Proofs

open Sys2Proof.Machine Sys2Proof.Laws

/-- Settles O6: each clause by the command's own lemma over the state entered or the control word written. -/
theorem wobblePllStates : Obligations.WobblePllStates :=
  ⟨fun _ _ _ _ hi he hst => completes_wpllAcquire hi he hst,
    fun _ _ _ hi hst hr => completes_wpllLock hi hst hr,
    fun _ _ _ _ hi hst h0 h1 => completes_wpllHold hi hst h0 h1,
    fun _ _ _ _ _ hi hst ha he => completes_wpllHoldReturn_lock hi hst ha he,
    fun _ _ _ _ _ hi hst ha he => completes_wpllHoldReturn_lost hi hst ha he,
    fun _ _ _ _ hi hst => completes_wpllLost hi hst,
    fun _ _ _ hi hen => completes_chEnable_on hi hen,
    fun _ _ _ hi hen => completes_chEnable_off hi hen,
    fun _ _ _ hi => completes_chReadEn hi,
    fun _ _ hi => completes_chClrCnt hi⟩

end Sys2Proof.Proofs
end

section
/-! SUPPORT. The refutation of O8: the count of a retry revolution that leaves the four bits of LADDER_STATUS.REVS. -/

namespace Sys2Proof.Proofs

open Sys2Proof.Machine Sys2Proof.Laws

/-- A head at rung 2 of band 0 with one codeword pending there and 15 revolutions used. -/
def revs15 : State :=
  updChan 0 (fun c => { c with sectors := [{ addr := 0, limit := 6, cws := [{ st := 5 }] }] })
    (putAll [(F.GLB_INST_HEAD, 1), (F.CH_LADDER_STATUS_ACTIVE 0, 1), (F.CH_LADDER_STATUS_RUNG 0, 2), (F.CH_LADDER_STATUS_REVS 0, 15)]
      State.reset)

/-- The same head with a budget of 16 in its register, one more than the four bits of LADDER.BUDGET hold (R144, R149). -/
def budget16 : State := { revs15 with regs := mapPut revs15.regs (F.CH_LADDER_BUDGET 0).key 16 }

/-- The sixteenth revolution is within that budget and is taken: it counts in RETRY_REV, and the four bits of REVS go back to 0. -/
theorem retryRevolution_16_wraps :
    answers (.retryRevolution 0) budget16 fun t =>
      decide (Machine.get t (F.CH_RETRY_REV 0) = 1) && decide (Machine.get t (F.CH_LADDER_STATUS_REVS 0) = 0) := by
  decide +kernel

/-- Refutes O8: its clause on a retry revolution cuts the revolutions used to eight bits, where LADDER_STATUS.REVS has four, and
takes any state, also one whose BUDGET reads 16: after 15 revolutions the next one leaves 0 in REVS, not 16. Where BUDGET fits its
register the count stays below 16 and the two widths agree. -/
theorem not_detectionAndLadder : ¬ Obligations.DetectionAndLadder := by
  unfold Obligations.DetectionAndLadder
  rintro ⟨-, -, -, -, -, -, -, -, -, hretry, -⟩
  have hpending : ∃ x ∈ ladderSectors budget16 0, x.crcAt < Machine.get budget16 (F.CH_LADDER_STATUS_RUNG 0) ∧
      ∃ w ∈ x.cws, w.st = 5 ∧ (Machine.get budget16 (F.CH_LADDER_STATUS_RUNG 0) = 6 → w.store ≠ none) := by decide +kernel
  have hc := hretry budget16 0 (by decide +kernel) (by decide +kernel) (by decide +kernel) hpending rfl (by decide) (by decide +kernel)
    (by decide +kernel)
  obtain ⟨t, ⟨hrevs, -⟩, hshown⟩ := exists_of_completes_of_answers hc retryRevolution_16_wraps
  have h15 : Machine.get budget16 (F.CH_LADDER_STATUS_REVS 0) = 15 := by decide +kernel
  simp only [Bool.and_eq_true, decide_eq_true_eq] at hshown
  obtain ⟨-, hzero⟩ := hshown
  rw [hzero, h15] at hrevs
  exact absurd hrevs (by decide)

end Sys2Proof.Proofs
end

section
/-! SUPPORT. The refutation of O38: the arbours' REBUILD bits, written at the end of MAP_READY, reach PLP.STATUS.RECOVERING. -/

namespace Sys2Proof.Proofs

open Sys2Proof.Machine Sys2Proof.Laws

/-! ### The end of the recovery -/

/-- The rebuild has ended: the namespaces are ready and MAP_READY is shown (R524, R525). -/
def mapShownReady (s : State) : State :=
  raise evPWR B.PWR_EVT_MAP_READY (putAll [(F.PWR_STATUS_MAP_READY, 1), (F.PWR_STATUS_START_STEP, 16),
    (F.PWR_START_TIME_MAP, min 65535 (now s / 156250000))]
    { s with lib := { s.lib with spaces := s.lib.spaces.map fun n => { n with ready := true } } })

/-- The recovery has ended (R432 step 5): RECOVERING is cleared and nothing is held for the restored units. -/
def recoveryEnded (s : State) : State :=
  raise evPLP B.PLP_EVT_RECOVERED (put F.PLP_STATUS_RECOVERING 0 { s with plp := { s.plp with units := [], maskLost := [] } })

/-- MAP_READY in a recovery whose vault has gone since: no header is written, and RESHAPE_AUTO comes after the recovery's end. -/
theorem exec_mapReady_recovering {s : State} (hready : isSet s F.PWR_STATUS_MAP_READY = false)
    (hstep : Machine.get s F.PWR_MAP_PROGRESS_STEP = 4) (hfatal : isSet s F.DMP_STATUS_FATAL = false) (hloss : s.pwr.powerLoss = false)
    (hvault : isSet (mapShownReady s) F.PLP_STATUS_VAULT_OK = false) (hrec : isSet (mapShownReady s) F.PLP_STATUS_RECOVERING = true) :
    exec .mapReady s = .next (reshapeAuto (recoveryEnded (mapShownReady s))) := by
  have hheader : updateHeader 1 (mapShownReady s) = mapShownReady s := if_pos hvault
  change execMapReady s = _
  rw [execMapReady, if_neg (by simp [hready, hstep, hfatal, hloss])]
  change Host.Outcome.next (reshapeAuto (if isSet (updateHeader 1 (mapShownReady s)) F.PLP_STATUS_RECOVERING then
    recoveryEnded (updateHeader 1 (mapShownReady s)) else updateHeader 1 (mapShownReady s))) = _
  rw [hheader, if_pos hrec]

/-- RESHAPE_AUTO in a library without a set brings PAR.STATUS and the REBUILD bits up to date, no more (R333). -/
theorem reshapeAuto_of_noSets {s : State} (ha : isSet s F.PAR_CTRL_RESHAPE_AUTO = true) (hs : s.lib.sets = []) :
    reshapeAuto s = parStatus s := by
  simp [reshapeAuto, ha, hs, forAll]

/-- Whatever field lies at the last arbour's REBUILD bit reads 1 while a context is busy in that arbour's own domain. -/
theorem get_parStatus_lastRebuild {s : State} {a i : Nat} {f : Fld} (hcount : Machine.get s F.GLB_ARB_COUNT_ARBOURS = a + 1) (hi : i < 16)
    (hbusy : rbBusy s i = true) (hdom : Machine.get s (F.PAR_RB_STATUS_DOMAIN i) = a) (hf : f.key = (F.ARB_AR_STATUS_REBUILD a).key) :
    Machine.get (parStatus s) f = 1 := by
  have hbelow : below s a a = true := by simp [below, belowFuel]
  have hany : ((List.range 16).any fun j => rbBusy s j && below s a (Machine.get s (F.PAR_RB_STATUS_DOMAIN j))) = true :=
    List.any_eq_true.2 ⟨i, List.mem_range.2 hi, by rw [hbusy, hdom, hbelow]; rfl⟩
  rw [parStatus, arbsOf, hcount, List.range_succ, forAll, List.foldl_append, List.foldl_cons, List.foldl_nil, hany, putB, get_put, if_pos hf]
  rfl

/-! ### The counterexample -/

/-- A recovery whose map rebuild is at step 4, with RESHAPE_AUTO set, no set and no vault. The arbours are counted as 196353: the
REBUILD bit of the last one, arbour 196352, is the bit RECOVERING of PLP.STATUS, and rebuild context 0 runs in its domain. -/
def rebuildOverRecovering : State :=
  { State.reset with
    regs := [(F.GLB_ARB_COUNT_ARBOURS.key, 196353), (F.PAR_CTRL_RESHAPE_AUTO.key, 1), (F.PLP_STATUS_RECOVERING.key, 1),
      (F.PWR_MAP_PROGRESS_STEP.key, 4), ((F.PAR_RB_STATUS_STATE 0).key, Rb.run), ((F.PAR_RB_STATUS_DOMAIN 0).key, 196352)] }

/-- The state that its MAP_READY hands to RESHAPE_AUTO. -/
def recoveredUnderRebuild : State := recoveryEnded (mapShownReady rebuildOverRecovering)

theorem exec_mapReady_rebuildOverRecovering : exec .mapReady rebuildOverRecovering = .next (parStatus recoveredUnderRebuild) := by
  have hauto : reshapeAuto recoveredUnderRebuild = parStatus recoveredUnderRebuild :=
    reshapeAuto_of_noSets (by decide +kernel) (by decide +kernel)
  rw [← hauto]
  exact exec_mapReady_recovering (by decide +kernel) (by decide +kernel) (by decide +kernel) rfl (by decide +kernel) (by decide +kernel)

/-- RECOVERING, cleared at the end of the recovery, is set again by the last arbour's REBUILD bit. -/
theorem recovering_set_by_rebuild : isSet (parStatus recoveredUnderRebuild) F.PLP_STATUS_RECOVERING = true := by
  have hget : Machine.get (parStatus recoveredUnderRebuild) F.PLP_STATUS_RECOVERING = 1 :=
    get_parStatus_lastRebuild (a := 196352) (i := 0) (by decide +kernel) (by decide) (by decide +kernel) (by decide +kernel) (by decide)
  rw [isSet, hget]
  rfl

/-- Refutes O38: its clause on MAP_READY has RECOVERING cleared in any state; with RESHAPE_AUTO set and 196353 arbours, more than the
nine bits of ARB_COUNT hold, the REBUILD bit of the last arbour lies on RECOVERING and is written after it was cleared. -/
theorem not_lossDumpAndRecovery : ¬ Obligations.LossDumpAndRecovery := by
  unfold Obligations.LossDumpAndRecovery
  rintro ⟨-, -, -, -, -, -, -, hmapReady⟩
  obtain ⟨t, ht, -, -, -, -, -, -, hrecovered, -⟩ :=
    hmapReady rebuildOverRecovering (by decide +kernel) (by decide +kernel) (by decide +kernel) rfl
  obtain ⟨hcleared, -⟩ := hrecovered (by decide +kernel)
  rw [exec_mapReady_rebuildOverRecovering] at ht
  rw [← Host.Outcome.next.inj ht, recovering_set_by_rebuild] at hcleared
  exact absurd hcleared (by decide)

end Sys2Proof.Proofs
end

section
/-! SUPPORT. How the moves of a head begin (R107, R187, R191): the servo state they enter, what the servo holds of them, and what a move to a
near band leaves. -/

namespace Sys2Proof.Proofs

open Sys2Proof.Machine Sys2Proof.Laws

/-! ### The state of a move -/

section enter
variable {h st layer : Nat} {s : State}

/-- A servo's inner state but for what the entry of a state and a defect hold keep of it. -/
def moveCore (v : Servo) : Servo := { svCore v with heldFrom := 0 }

theorem svCore_svState (hst : st ≠ 10) (h : Nat) (s : State) : svCore (servoOf (svState h st s) h) = svCore (servoOf s h) :=
  congrArg Head.sv (headCore_svState hst h s)

theorem servoOf_updServo (h : Nat) (g : Servo → Servo) (s : State) : servoOf (updServo h g s) h = g (servoOf s h) :=
  congrArg Head.sv (getHead_updServo h g s)

/-- During a defect hold a move waits for the hold's end (R197). -/
theorem goState_of_hold (h8 : Machine.get s (F.SV_STATUS_STATE h) = 8) : goState h st s = updServo h (fun v => { v with heldFrom := st }) s := if_pos h8
theorem goState_of_free (h8 : Machine.get s (F.SV_STATUS_STATE h) ≠ 8) : goState h st s = svState h st s := if_neg h8

theorem get_goState_state (hh : h < 64) (hst : st < 8) (s : State) :
    Machine.get (goState h st s) (F.SV_STATUS_STATE h) = if Machine.get s (F.SV_STATUS_STATE h) = 8 then 8 else st := by
  split
  next h8 => rw [goState_of_hold h8]; exact h8
  next h8 =>
    rw [goState_of_free h8, get_svState_self (by omega) hh]
    exact Nat.mod_eq_of_lt (by omega)

theorem moveCore_goState (hst : st ≠ 10) (h : Nat) (s : State) : moveCore (servoOf (goState h st s) h) = moveCore (servoOf s h) := by
  by_cases h8 : Machine.get s (F.SV_STATUS_STATE h) = 8
  · rw [goState_of_hold h8, servoOf_updServo]
    rfl
  · rw [goState_of_free h8, moveCore, svCore_svState hst]
    rfl

theorem atHead_goState (hst : st ≠ 10) (h : Nat) (s : State) : AtHead h s (goState h st s) (svFields h) := by
  by_cases h8 : Machine.get s (F.SV_STATUS_STATE h) = 8
  · rw [goState_of_hold h8]
    exact AtHead.thenUpd (AtHead.refl h s _) _
  · rw [goState_of_free h8]
    exact atHead_svState hst h s

theorem heldFrom_goState (h8 : Machine.get s (F.SV_STATUS_STATE h) = 8) : (servoOf (goState h st s) h).heldFrom = st := by
  rw [goState_of_hold h8, servoOf_updServo]

/-- What a radial move records (R187). -/
def radialMove (s : State) (h : Nat) (v : Servo) : Servo :=
  let d : Int := (v.target.getD (0, 0)).1 - Machine.get s (F.SV_POS_BAND h)
  { v with remain := d, total := d, mode := moveMode s h d, landed := decide (d = 0), landAt := tick s }

/-- What a jump between layers records (R191). -/
def jumpMove (layer : Nat) (v : Servo) : Servo := { v with jumpTo := layer, cross := 0, brakeAt := none, base := v.coils }

/-- A radial move but for the sled of a coarse one. -/
def radialBegun (h : Nat) (s : State) : State := goState h 6 (updServo h (radialMove s h) s)

theorem startRadial_cases (h : Nat) (s : State) : startRadial h s = radialBegun h s ∨
    ∃ p, startRadial h s = axMoveTo (bayOf h) (h % 2) p (radialBegun h s) := by
  unfold startRadial
  dsimp only
  split
  · exact .inr ⟨_, rfl⟩
  · exact .inl rfl

/-- Within the lens's reach the sled stays (R187). -/
theorem startRadial_near (hm : moveMode s h (((servoOf s h).target.getD (0, 0)).1 - Machine.get s (F.SV_POS_BAND h)) = 1) :
    startRadial h s = radialBegun h s := by
  unfold startRadial
  dsimp only
  rw [if_neg (by rw [hm]; decide)]
  rfl

/-- The radial move enters SEEK (R178, R187). -/
theorem startRadial_spec (hh : h < 64) (s : State) :
    Machine.get (startRadial h s) (F.SV_STATUS_STATE h) = (if Machine.get s (F.SV_STATUS_STATE h) = 8 then 8 else 6) ∧
    moveCore (servoOf (startRadial h s) h) = moveCore (radialMove s h (servoOf s h)) ∧
    (Machine.get s (F.SV_STATUS_STATE h) = 8 → (servoOf (startRadial h s) h).heldFrom = 6) := by
  have hbegun : Machine.get (radialBegun h s) (F.SV_STATUS_STATE h) = (if Machine.get s (F.SV_STATUS_STATE h) = 8 then 8 else 6) ∧
      moveCore (servoOf (radialBegun h s) h) = moveCore (radialMove s h (servoOf s h)) ∧
      (Machine.get s (F.SV_STATUS_STATE h) = 8 → (servoOf (radialBegun h s) h).heldFrom = 6) := by
    refine ⟨get_goState_state hh (by decide) _, ?_, fun h8 => heldFrom_goState (s := updServo h (radialMove s h) s) h8⟩
    rw [radialBegun, moveCore_goState (by decide), servoOf_updServo]
  rcases startRadial_cases h s with e | ⟨p, e⟩
  · rw [e]
    exact hbegun
  · have hget := (axMoveTo_atAxis (AtAxis.refl (bayOf h) (h % 2) (radialBegun h s) _) (by omega) p).only _
      ((parked_apart h hh).2.1 (h % 2) (by omega))
    rw [e, hget, servoOf, getHead_axMoveTo (by omega)]
    exact hbegun

/-- The jump between layers leads over SEEK into its own state (R178, R191). -/
theorem startJump_spec (hh : h < 64) (layer : Nat) (s : State) :
    Machine.get (startJump h layer s) (F.SV_STATUS_STATE h) = (if Machine.get s (F.SV_STATUS_STATE h) = 8 then 8 else 7) ∧
    moveCore (servoOf (startJump h layer s) h) = moveCore (jumpMove layer (servoOf s h)) := by
  refine ⟨?_, ?_⟩
  · rw [startJump, get_goState_state hh (by decide), get_goState_state hh (by decide), updServo, get_updHead]
    split <;> simp_all
  · rw [startJump, moveCore_goState (by decide), moveCore_goState (by decide), servoOf_updServo]
    rfl

end enter

/-! ### Seeks -/

/-- A seek has begun (R107, R187, R191): the address is unconfirmed, the target is recorded, and the move is under way. -/
structure Sought (h band layer : Nat) (s t : State) : Prop where
  state : Machine.get t (F.SV_STATUS_STATE h) = if Machine.get s (F.SV_STATUS_STATE h) = 8 then 8
    else if layer = Machine.get s (F.SV_POS_LAYER h) then 6 else 7
  unconfirmed : Machine.get t (F.SV_POS_CONFIRMED h) = 0
  target : (servoOf t h).target = some (band, layer)
  radial : layer = Machine.get s (F.SV_POS_LAYER h) → (servoOf t h).remain = (band : Int) - Machine.get s (F.SV_POS_BAND h)
  held : Machine.get s (F.SV_STATUS_STATE h) = 8 → layer = Machine.get s (F.SV_POS_LAYER h) → (servoOf t h).heldFrom = 6
  jump : layer ≠ Machine.get s (F.SV_POS_LAYER h) → (servoOf t h).jumpTo = layer
  hold : (servoOf t h).hold = (servoOf s h).hold
  entering : (servoOf t h).entering = (servoOf s h).entering
  side : (servoOf t h).altSeam = (servoOf s h).altSeam

/-- What a seek reads and what it confirms no more, apart from what it writes before the move. -/
theorem seek_apart : ∀ h < 64, (∀ f ∈ [F.SV_STATUS_STATE h, F.SV_POS_LAYER h, F.SV_POS_BAND h],
      f.key ∉ (abandonFields h ++ confirmFields h ++ permitFields h).map Fld.key) ∧
    (F.SV_POS_CONFIRMED h).key ∉ (seekTailFields h).map Fld.key := by decide +kernel

section seek
variable {h band layer : Nat} {s : State}

/-- A seek before its move: the address unconfirmed, the open slots abandoned, the target recorded. -/
def seekNoted (h band layer : Nat) (s : State) : State :=
  updServo h (fun v => { v with
    target := some (band, layer), landed := false, mode := 0, remain := 0,
    seekAt := if v.seeking then v.seekAt else tick s, seeking := true }) (abandonSlots h (fun _ => true) (clearConfirm h s))

theorem startSeek_eq (h band layer : Nat) (s : State) : startSeek h band layer s
    = if layer ≠ Machine.get s (F.SV_POS_LAYER h) then startJump h layer (seekNoted h band layer s)
      else startRadial h (seekNoted h band layer s) := rfl

theorem get_seekNoted {f : Fld} (hh : h < 64) (hf : f ∈ [F.SV_STATUS_STATE h, F.SV_POS_LAYER h, F.SV_POS_BAND h]) :
    Machine.get (seekNoted h band layer s) f = Machine.get s f := by
  have hclear : AtDrive h s (clearConfirm h s) (abandonFields h ++ confirmFields h ++ permitFields h) :=
    clearConfirm_drive (AtDrive.refl h s _) (fun g hg => by simp [hg]) (fun g hg => by simp [hg])
  have hdrive : AtDrive h s (seekNoted h band layer s) (abandonFields h ++ confirmFields h ++ permitFields h) := by
    rw [seekNoted]
    exact AtDrive.thenUpd (abandonSlots_drive hclear (fun g hg => by simp [hg]) _) _
  exact hdrive.get ((seek_apart h hh).1 f hf)

theorem servoOf_seekNoted (h band layer : Nat) (s : State) : servoOf (seekNoted h band layer s) h = { servoOf s h with
    target := some (band, layer), landed := false, mode := 0, remain := 0,
    seekAt := if (servoOf s h).seeking then (servoOf s h).seekAt else tick s, seeking := true } := by
  have hsv : servoOf (abandonSlots h (fun _ => true) (clearConfirm h s)) h = servoOf s h := by
    rw [servoOf, sv_abandonSlots, getHead_clearConfirm, servoOf]
  rw [seekNoted, servoOf_updServo, hsv]

theorem startSeek_spec (hh : h < 64) (band layer : Nat) (s : State) : Sought h band layer s (startSeek h band layer s) := by
  have hconf : Machine.get (startSeek h band layer s) (F.SV_POS_CONFIRMED h) = 0 := by
    rw [(startSeek_from h band layer s).get (seek_apart h hh).2]
    exact get_clearConfirm hh (by simp [confirmFields]) s
  have hstate : Machine.get (seekNoted h band layer s) (F.SV_STATUS_STATE h) = Machine.get s (F.SV_STATUS_STATE h) := get_seekNoted hh (by simp)
  have hband : Machine.get (seekNoted h band layer s) (F.SV_POS_BAND h) = Machine.get s (F.SV_POS_BAND h) := get_seekNoted hh (by simp)
  have hsv := servoOf_seekNoted h band layer s
  by_cases hl : layer = Machine.get s (F.SV_POS_LAYER h)
  · have e : startSeek h band layer s = startRadial h (seekNoted h band layer s) := by rw [startSeek_eq, if_neg (by simp [hl])]
    obtain ⟨hst, hcore, hfrom⟩ := startRadial_spec hh (seekNoted h band layer s)
    rw [← e, hstate] at hst hfrom
    rw [← e, radialMove, hsv, hband] at hcore
    exact ⟨by rw [hst, if_pos hl], hconf, congrArg (·.target) hcore, fun _ => congrArg (·.remain) hcore, fun h8 _ => hfrom h8,
      fun hne => absurd hl hne, congrArg (·.hold) hcore, congrArg (·.entering) hcore, congrArg (·.altSeam) hcore⟩
  · have e : startSeek h band layer s = startJump h layer (seekNoted h band layer s) := by rw [startSeek_eq, if_pos hl]
    obtain ⟨hst, hcore⟩ := startJump_spec hh layer (seekNoted h band layer s)
    rw [← e, hstate] at hst
    rw [← e, jumpMove, hsv] at hcore
    exact ⟨by rw [hst, if_neg hl], hconf, congrArg (·.target) hcore, fun he => absurd he hl, fun _ he => absurd he hl,
      fun _ => congrArg (·.jumpTo) hcore, congrArg (·.hold) hcore, congrArg (·.entering) hcore, congrArg (·.altSeam) hcore⟩

/-! ### Near bands -/

/-- With no slot open none is abandoned (R119). -/
theorem abandonSlots_none (hs : (chanOf s h).slots = []) (p : OpenSlot → Bool) : abandonSlots h p s = s := by
  simp [abandonSlots, hs]

/-- A jump over at most 16 bands of the same layer moves the lens only (R187). -/
theorem atHead_startSeek_near (hh : h < 64) (hl : layer = Machine.get s (F.SV_POS_LAYER h)) (hs : (chanOf s h).slots = [])
    (hnear : ((band : Int) - Machine.get s (F.SV_POS_BAND h)).natAbs ≤ 16) :
    AtHead h s (startSeek h band layer s) (confirmFields h ++ svFields h) := by
  have hclear : AtHead h s (clearConfirm h s) (confirmFields h ++ svFields h) :=
    (atHead_clearConfirm h s).mono (List.append_subset.2 ⟨List.subset_append_left .., fun f hf => List.mem_append_right _ (permits_subset_sv h hf)⟩)
  have hslots : (chanOf (clearConfirm h s) h).slots = [] := by
    rw [chanOf, getHead_clearConfirm]
    exact hs
  have hnoted : AtHead h s (seekNoted h band layer s) (confirmFields h ++ svFields h) := by
    rw [seekNoted, abandonSlots_none hslots]
    exact hclear.thenUpd _
  have hmode : moveMode (seekNoted h band layer s) h ((((servoOf (seekNoted h band layer s) h).target.getD (0, 0)).1 : Int)
      - Machine.get (seekNoted h band layer s) (F.SV_POS_BAND h)) = 1 := by
    rw [servoOf_seekNoted, get_seekNoted hh (by simp)]
    exact if_pos hnear
  have e : startSeek h band layer s = radialBegun h (seekNoted h band layer s) :=
    (startSeek_eq h band layer s).trans ((if_neg (not_not_intro hl)).trans (startRadial_near hmode))
  rw [e, radialBegun]
  exact (AtHead.thenUpd hnoted _).trans ((atHead_goState (by decide) h _).mono (List.subset_append_right ..))

end seek

end Sys2Proof.Proofs
end

section
/-! SUPPORT. A move away from the ladder's bands (R143, R147, R148): no sector is left pending, so that no hold of a band follows. -/

namespace Sys2Proof.Proofs

open Sys2Proof.Machine Sys2Proof.Laws

section ladder
variable {h addr cause : Nat} {s t : State} {x : Sector} {f : Fld}

/-- A head without a sector that the ladder has yet to serve (R143). -/
def NonePending (s : State) (h : Nat) : Prop := ∀ x ∈ (chanOf s h).sectors, pendingSector x = false

/-- A register of a head that the end of its ladder leaves. -/
structure LadderLeaves (h : Nat) (f : Fld) : Prop where
  sector : f.key ∉ (sectorFields h).map Fld.key
  low    : f.key < 8 * 0x4010000
  sets   : f.key ≠ F.ARB_STATUS_OPEN_SETS.key
  log    : f.key ≠ F.EVT_LOG_HEAD.key

theorem LadderLeaves.drive (k : LadderLeaves h f) (hd : AtDrive h s t (sectorFields h)) : Machine.get t f = Machine.get s f := hd.get k.sector

theorem updChan_eq (h : Nat) (g : Chan → Chan) (s : State) : chanOf (updChan h g s) h = g (chanOf s h) := congrArg Head.ch (getHead_updChan h g s)

/-- A sector handed over is at rung 7 with its codewords; the others stay (R147). -/
theorem mem_handOver (hx : x ∈ (chanOf (handOver h addr cause s) h).sectors) (hp : pendingSector x = true) :
    x ∈ (chanOf s h).sectors ∧ x.addr ≠ addr := by
  unfold handOver at hx
  split at hx
  next hnone =>
    refine ⟨hx, fun e => ?_⟩
    have hno := List.find?_eq_none.1 hnone x hx
    simp [e] at hno
  next y hy =>
    extract_lets failed mask last revs s1 s2 at hx
    have h2 : (getHead s2 h).ch = (getHead s1 h).ch := by
      unfold s2
      split <;> rfl
    have htold : getHead (refreshArbours s2) h = getHead s2 h := by
      obtain ⟨_, _, _, e⟩ := (told_refreshArbours s2).shape
      rw [e]
      rfl
    rw [chanOf, countPending, getHead_put, raiseCH, getHead_raise, getHead_bump, htold, h2, ← chanOf] at hx
    unfold s1 at hx
    rw [updChan_eq, updSector, updChan_eq] at hx
    obtain ⟨z, hz, e⟩ := List.mem_map.1 hx
    split at e
    next hza =>
      rw [← e] at hp
      simp [pendingSector] at hp
    next hza => exact e ▸ ⟨hz, hza⟩

/-- What handing a sector over leaves of the window. -/
theorem LadderLeaves.handOver (k : LadderLeaves h f) (addr cause : Nat) (s : State) :
    Machine.get (handOver h addr cause s) f = Machine.get s f := by
  unfold Machine.handOver
  split
  · rfl
  · extract_lets failed mask last revs s1 s2
    have h1 : Machine.get s1 f = Machine.get s f :=
      k.drive (AtDrive.thenChan (AtDrive.thenSector (dropJobs_drive (AtDrive.refl h s _) (List.subset_append_right ..) addr) _ _) _)
    have h2 : Machine.get s2 f = Machine.get s1 f := by
      unfold s2
      split <;> rfl
    have h3 : Machine.get (refreshArbours s2) f = Machine.get s2 f := get_refreshArbours_low k.low k.sets k.log
    have h4 : AtDrive h (refreshArbours s2) (countPending h (raiseCH h B.CH_EVT_HANDOVER (bump (F.CH_HANDOVER h) 1 (refreshArbours s2))))
        (sectorFields h) :=
      countPending_drive (AtDrive.thenRaise (AtDrive.thenPut (AtDrive.refl h _ _) (by simp [sectorFields])) (by simp [sectorFields, evCH])
        (by simp [sectorFields])) (by simp [sectorFields])
    exact (k.drive h4).trans (h3.trans (h2.trans h1))

/-- The pending sectors are handed over one after the other. -/
def allHandedOver (h : Nat) (xs : List Sector) (s : State) : State := xs.foldl (fun t x => Machine.handOver h x.addr 7 t) s

theorem nonePending_allHandedOver (xs : List Sector) (s : State)
    (hs : ∀ x ∈ (chanOf s h).sectors, pendingSector x = true → ∃ y ∈ xs, y.addr = x.addr) : NonePending (allHandedOver h xs s) h := by
  induction xs generalizing s with
  | nil => exact fun x hx => Bool.eq_false_iff.2 fun hp => by simpa using hs x hx hp
  | cons y xs ih =>
    refine ih _ fun x hx hp => ?_
    obtain ⟨hmem, hne⟩ := mem_handOver hx hp
    obtain ⟨z, hz, e⟩ := hs x hmem hp
    rcases List.mem_cons.1 hz with rfl | hz
    · exact absurd e.symm hne
    · exact ⟨z, hz, e⟩

theorem LadderLeaves.allHandedOver (k : LadderLeaves h f) (xs : List Sector) (s : State) :
    Machine.get (allHandedOver h xs s) f = Machine.get s f := by
  induction xs generalizing s with
  | nil => rfl
  | cons y xs ih => exact (ih _).trans (k.handOver y.addr 7 s)

/-- The end of a band with nothing left pending ends the ladder (R143). -/
theorem LadderLeaves.endBand (k : LadderLeaves h f) (hn : NonePending s h) : Machine.get (endBand h s) f = Machine.get s f := by
  unfold Machine.endBand startBand
  set u := ladderOffset h 0 0 (useEqSet h 0 (updChan h (fun (c : Chan) =>
    { c with sectors := (c.sectors.filter fun x => !x.pinned || x.staged).map fun x => { x with pinned := false } }) s)) with hu
  have h1 : AtDrive h s u (sectorFields h) := by
    rw [hu]
    exact AtDrive.thenPut (AtDrive.thenPut (AtDrive.thenUpd (AtDrive.thenUpd (AtDrive.refl h s _) _) _) (by simp [sectorFields]))
      (by simp [sectorFields])
  have hsectors : (chanOf u h).sectors = ((chanOf s h).sectors.filter fun x => !x.pinned || x.staged).map fun x => { x with pinned := false } := by
    rw [hu, chanOf, ladderOffset, putI, putI, getHead_put, getHead_put, ← chanOf, useEqSet, updChan_eq]
    split <;> rw [updChan_eq]
  have hnone : lowestBand u h = none := by
    have hempty : (chanOf u h).sectors.filter pendingSector = [] := by
      refine List.filter_eq_nil_iff.2 fun x hx hp => ?_
      rw [hsectors] at hx
      obtain ⟨z, hz, rfl⟩ := List.mem_map.1 hx
      exact absurd hp (Bool.eq_false_iff.1 (hn z (List.mem_filter.1 hz).1))
    rw [lowestBand, hempty]
    rfl
  rw [hnone]
  refine k.drive (AtDrive.thenPut (AtDrive.thenUpd (countPending_drive (AtDrive.thenPutAll ?_ (by simp [sectorFields]))
    (by simp [sectorFields])) _) (by simp [sectorFields]))
  split
  · exact h1.thenPut (by simp [sectorFields])
  · exact h1

/-- A truncated ladder leaves the servo's commands and its place (R148). -/
theorem LadderLeaves.truncate (k : LadderLeaves h f) (s : State) : Machine.get (truncateLadder h s) f = Machine.get s f := by
  unfold truncateLadder
  extract_lets xs
  split
  · rfl
  · have hnone : NonePending (Proofs.allHandedOver h xs s) h :=
      nonePending_allHandedOver xs s fun x hx hp => ⟨x, List.mem_filter.2 ⟨hx, hp⟩, rfl⟩
    have hcount : AtDrive h (Proofs.allHandedOver h xs s)
        (raiseCH h B.CH_EVT_TRUNC (bump (F.CH_TRUNC h) xs.length (Proofs.allHandedOver h xs s))) (sectorFields h) :=
      AtDrive.thenRaise (AtDrive.thenPut (AtDrive.refl h _ _) (by simp [sectorFields])) (by simp [sectorFields, evCH]) (by simp [sectorFields])
    refine (k.endBand fun x hx => hnone x ?_).trans ((k.drive hcount).trans (k.allHandedOver xs s))
    rwa [chanOf, raiseCH, getHead_raise, getHead_bump, ← chanOf] at hx

/-- With nothing pending a move leaves the ladder alone. -/
theorem seekAway_of_nonePending {band layer : Nat} (hn : NonePending s h) : seekAway h band layer s = s := by
  have hempty : (chanOf s h).sectors.filter pendingSector = [] := List.filter_eq_nil_iff.2 fun x hx => by simp [hn x hx]
  unfold seekAway
  split
  · rfl
  · rw [truncateLadder]
    exact if_pos hempty

theorem LadderLeaves.seekAway (k : LadderLeaves h f) (band layer : Nat) (s : State) : Machine.get (seekAway h band layer s) f = Machine.get s f := by
  unfold Machine.seekAway
  split
  · rfl
  · exact k.truncate s

end ladder

end Sys2Proof.Proofs
end

section
/-! SUPPORT. The commands of a servo (R197 to R200): how a command begins and ends, and the clauses of O10 on the moves it starts. -/

namespace Sys2Proof.Proofs

open Sys2Proof.Machine Sys2Proof.Laws

/-! ### How a command begins and ends -/

/-- The registers of a servo's command word (R199). -/
def svWordFields (h : Nat) : List Fld := [F.SV_CMD_BAND h, F.SV_CMD_LAYER h, F.SV_CMD_OP h]

/-- The result registers that every command writes. -/
def svAnswerFields (h : Nat) : List Fld := [F.SV_CMD_STATUS_BUSY h, F.SV_CMD_STATUS_OP h, F.SV_CMD_STATUS_RESULT h]

/-- Where a head is, as a move reads it. -/
def placeReads (h : Nat) : List Fld := [F.SV_STATUS_STATE h, F.SV_POS_LAYER h, F.SV_POS_BAND h]

theorem svCommand_apart : ∀ h < 64, ((svCmdFields h).map Fld.key).Nodup ∧
    (∀ f ∈ placeReads h, f.key ∉ (svWordFields h ++ svCmdFields h).map Fld.key) ∧
    (∀ f ∈ svAnswerFields h ++ placeReads h, f.key ∉ (sectorFields h).map Fld.key ∧ f.key < 8 * 0x4010000 ∧
      f.key ≠ F.ARB_STATUS_OPEN_SETS.key ∧ f.key ≠ F.EVT_LOG_HEAD.key ∧ f.key ≠ (F.SV_STATUS_BAND_HOLD h).key) ∧
    (∀ f ∈ F.SV_STATUS_BAND_HOLD h :: svAnswerFields h, f.key ∉ (seekFields h ++ [F.SV_SEEKS h, F.SV_SEEK_TIME_MAX h, F.SV_SEEK_TIME_LAST h]
      ++ evFields (evSV h)).map Fld.key) ∧
    (F.SV_STATUS_BAND_HOLD h).key ∉ (svCmdFields h).map Fld.key ∧
    (F.SV_STATUS_STATE h).key ∉ (F.SV_STATUS_BAND_HOLD h :: resultFields h).map Fld.key ∧
    (evSV h).evt.key ∉ [F.SV_SEEKS h, F.SV_SEEK_TIME_MAX h, F.SV_SEEK_TIME_LAST h].map Fld.key := by decide +kernel

section answer
variable {h op r : Nat} {s : State} {f : Fld}

/-- The command under way has begun (R197). -/
theorem get_svBegin (hh : h < 64) (hop : op < 8) (s : State) : Machine.get (svBegin h op s) (F.SV_CMD_STATUS_BUSY h) = 1 ∧
    Machine.get (svBegin h op s) (F.SV_CMD_STATUS_OP h) = op ∧ Machine.get (svBegin h op s) (F.SV_CMD_STATUS_RESULT h) = 0 := by
  have hn : ([(F.SV_CMD_STATUS_BUSY h, 1), (F.SV_CMD_STATUS_OP h, op), (F.SV_CMD_STATUS_RESULT h, 0)].map fun p => p.1.key).Nodup :=
    ((svCommand_apart h hh).1.sublist ((List.take_sublist 3 (svCmdFields h)).map _) :)
  unfold svBegin
  exact ⟨get_putAll_mem (v := 1) hn (by simp), (get_putAll_mem (v := op) hn (by simp)).trans (Nat.mod_eq_of_lt hop),
    get_putAll_mem (v := 0) hn (by simp)⟩

theorem servoOf_svBegin (h op : Nat) (s : State) :
    servoOf (svBegin h op s) h = { servoOf s h with cmdAt := now s, corr := 0, cmdOp := op, seeking := false } := by
  rw [svBegin, servoOf, getHead_putAll, ← servoOf, servoOf_updServo, servoOf, getHead_svResult, servoOf]

/-- A command under way ends with its result (R198). -/
theorem get_svResult (hh : h < 64) (hb : Machine.get s (F.SV_CMD_STATUS_BUSY h) = 1) :
    Machine.get (svResult h r s) (F.SV_CMD_STATUS_BUSY h) = 0 ∧ Machine.get (svResult h r s) (F.SV_CMD_STATUS_RESULT h) = trunc 4 r := by
  have hn : ∀ h < 64, ([F.SV_CMD_STATUS_BUSY h, F.SV_CMD_STATUS_RESULT h, F.SV_CMD_STATUS_CORR h, F.SV_CMD_STATUS_DUR h].map Fld.key).Nodup := by
    decide +kernel
  have hn' : ([(F.SV_CMD_STATUS_BUSY h, 0), (F.SV_CMD_STATUS_RESULT h, r), (F.SV_CMD_STATUS_CORR h, min 255 (servoOf s h).corr),
      (F.SV_CMD_STATUS_DUR h, min 65535 ((now s - (servoOf s h).cmdAt) / 1250))].map fun p => p.1.key).Nodup := hn h hh
  rw [svResult, if_pos hb]
  exact ⟨get_putAll_mem (v := 0) hn' (by simp), get_putAll_mem (v := r) hn' (by simp)⟩

/-- A command that has succeeded before it is counted (R198). -/
def svSucceeded (h : Nat) (s : State) : State := raise (evSV h) B.SV_EVT_SEEK_DONE (svResult h 0 s)

theorem svDone_cases (hb : Machine.get s (F.SV_CMD_STATUS_BUSY h) = 1) :
    AtHead h (svSucceeded h s) (svDone h s) [F.SV_SEEKS h, F.SV_SEEK_TIME_MAX h, F.SV_SEEK_TIME_LAST h] ∧
    (2 < (servoOf s h).cmdOp → svDone h s = svSucceeded h s) := by
  unfold svDone
  rw [if_neg (by omega)]
  dsimp only
  split
  · exact ⟨AtHead.thenPut (AtHead.thenPut (AtHead.thenPut (AtHead.refl h _ _) (by simp)) (by simp)) (by simp), fun hop => by omega⟩
  · exact ⟨AtHead.refl h _ _, fun _ => rfl⟩

theorem atHead_svSucceeded (h : Nat) (s : State) : AtHead h s (svSucceeded h s) (svCmdFields h ++ evFields (evSV h)) :=
  AtHead.thenRaise ((atHead_svResult h 0 s).mono (List.subset_append_left ..)) (by simp [evFields]) (by simp [evFields])

/-- A command under way has succeeded (R198). -/
theorem svDone_spec (hh : h < 64) (hb : Machine.get s (F.SV_CMD_STATUS_BUSY h) = 1) :
    Machine.get (svDone h s) (F.SV_CMD_STATUS_BUSY h) = 0 ∧ Machine.get (svDone h s) (F.SV_CMD_STATUS_RESULT h) = 0 ∧
    Raised (svDone h s) (evSV h) B.SV_EVT_SEEK_DONE := by
  obtain ⟨-, -, -, hanswer, -, -, hevt⟩ := svCommand_apart h hh
  obtain ⟨hcounted, -⟩ := svDone_cases hb
  obtain ⟨hbusy, hresult⟩ := get_svResult (r := 0) hh hb
  have hget {f : Fld} (hf : f ∈ svAnswerFields h) : Machine.get (svDone h s) f = Machine.get (svResult h 0 s) f := by
    have hkey := hanswer f (List.mem_cons_of_mem _ hf)
    simp only [List.map_append, List.mem_append, not_or] at hkey
    rw [hcounted.get hkey.1.2]
    exact (atHead_raise (h := h) (fs := evFields (evSV h)) (by simp [evFields]) (by simp [evFields])).get hkey.2
  exact ⟨(hget (by simp [svAnswerFields])).trans hbusy, (hget (by simp [svAnswerFields])).trans hresult,
    raised_of_get (hcounted.get hevt) (raised_raise headEv_sv (by decide))⟩

/-- A move in which no seek is counted answers in the command's registers and its event alone. -/
theorem atHead_svDone_other (hop : 2 < (servoOf s h).cmdOp) : AtHead h s (svDone h s) (svCmdFields h ++ evFields (evSV h)) := by
  by_cases hb : Machine.get s (F.SV_CMD_STATUS_BUSY h) = 1
  · rw [(svDone_cases hb).2 hop]
    exact atHead_svSucceeded h s
  · unfold svDone
    split
    · exact AtHead.refl h s _
    · dsimp only
      rw [if_neg (by omega)]
      exact atHead_svSucceeded h s

end answer

/-! ### Moves -/

section moves
variable {h op band layer : Nat} {slots : List Nat} {s t u : State} {f : Fld}

/-- A move command that has begun. -/
def moveOpened (h op band layer : Nat) (s : State) : State := svBegin h op (writeSvCmd h op band layer s)

theorem atHead_moveOpened (h op band layer : Nat) (s : State) : AtHead h s (moveOpened h op band layer s) (svWordFields h ++ svCmdFields h) :=
  AtHead.trans (atHead_putAll (by simp [svWordFields])) ((atHead_svBegin h op _).mono (List.subset_append_right ..))

/-- A move command that is accepted waits for the write path, or its move begins (R170, R187, R197). -/
theorem moveCmd_open (ho : seekOpen s h layer = true) (op band : Nat) (slots : List Nat) : moveCmd h op band layer slots s
    = if 1 ≤ Machine.get s (F.WRP_STATUS_STATE h) ∧ Machine.get s (F.WRP_STATUS_STATE h) ≤ 5 then
        updServo h (fun v => { v with deferred := some (op, band, layer, slots) }) (moveOpened h op band layer s)
      else beginMove h op band layer slots (seekAway h (if op = 2 then band - 1 else band) layer (moveOpened h op band layer s)) := by
  simp only [seekOpen, Bool.and_eq_true, Bool.or_eq_true, decide_eq_true_eq] at ho
  obtain ⟨⟨⟨⟨-, h3⟩, h8⟩, hpull⟩, hlayer⟩ := ho
  unfold moveCmd
  extract_lets st w s0 pulling
  have hnot : pulling = false := by
    unfold pulling
    have h2 : st ≠ 2 := by omega
    rcases hpull with (h | h) | ⟨h, hop⟩
    · simp [h2, show st ≠ 3 from h]
    · simp [h2, h]
    · simp [h2, h, hop]
  rw [if_neg (by rw [hnot]; simp; omega), if_neg (by rcases hlayer with h | ⟨h, hne⟩ <;> simp [*])]
  rfl

theorem headInst_of_open (ho : seekOpen s h layer = true) : headInst s h = true := by
  simp only [seekOpen, Bool.and_eq_true] at ho
  exact ho.1.1.1.1

/-- The state in which an accepted command's move begins: the command is under way and the head is where it was. -/
structure MoveReady (h op : Nat) (s u : State) : Prop where
  busy   : Machine.get u (F.SV_CMD_STATUS_BUSY h) = 1
  op     : Machine.get u (F.SV_CMD_STATUS_OP h) = op
  result : Machine.get u (F.SV_CMD_STATUS_RESULT h) = 0
  place  : ∀ f ∈ placeReads h, Machine.get u f = Machine.get s f

theorem moveReady_seekAway (hh : h < 64) (hop : op < 8) (dest band layer : Nat) (s : State) :
    MoveReady h op s (seekAway h dest layer (moveOpened h op band layer s)) := by
  obtain ⟨-, hword, hlow, -⟩ := svCommand_apart h hh
  obtain ⟨hbusy, hop', hresult⟩ := get_svBegin hh hop (writeSvCmd h op band layer s)
  have hkeep {f : Fld} (hf : f ∈ svAnswerFields h ++ placeReads h) :
      Machine.get (seekAway h dest layer (moveOpened h op band layer s)) f = Machine.get (moveOpened h op band layer s) f := by
    obtain ⟨hsector, hlt, hsets, hlog, -⟩ := hlow f hf
    exact LadderLeaves.seekAway ⟨hsector, hlt, hsets, hlog⟩ dest layer _
  exact ⟨(hkeep (by simp [svAnswerFields])).trans hbusy, (hkeep (by simp [svAnswerFields])).trans hop',
    (hkeep (by simp [svAnswerFields])).trans hresult,
    fun f hf => (hkeep (List.mem_append_right _ hf)).trans ((atHead_moveOpened h op band layer s).get (hword f hf))⟩

/-- A move's band hold or entry, noted before the seek. -/
def moveNoted (h op band : Nat) (slots : List Nat) (u : State) : State :=
  put (F.SV_STATUS_BAND_HOLD h) (if op = 1 then 1 else 0) (updServo h (fun v =>
    { v with hold := if op = 1 then some (band, slots) else none, entering := decide (op = 2), altSeam := false, deferred := none }) u)

theorem servoOf_moveNoted (h op band : Nat) (slots : List Nat) (u : State) : servoOf (moveNoted h op band slots u) h = { servoOf u h with
    hold := if op = 1 then some (band, slots) else none, entering := decide (op = 2), altSeam := false, deferred := none } := by
  rw [moveNoted, servoOf, getHead_put, ← servoOf, servoOf_updServo]

theorem atHead_moveNoted (h op band : Nat) (slots : List Nat) (u : State) : AtHead h u (moveNoted h op band slots u) [F.SV_STATUS_BAND_HOLD h] :=
  AtHead.thenPut ((AtHead.refl h u _).thenUpd _) (by simp)

/-- Whether a HOLD_BAND finds the head on its band (R189). -/
def onBand (s : State) (h band layer : Nat) : Prop :=
  Machine.get s (F.SV_STATUS_STATE h) = 5 ∧ layer = Machine.get s (F.SV_POS_LAYER h) ∧ band = Machine.get s (F.SV_POS_BAND h)

theorem beginMove_seeks (k : MoveReady h op s u) (hne : ¬(op = 1 ∧ onBand s h band layer)) : beginMove h op band layer slots u
    = startSeek h (if op = 2 then band - 1 else band) layer (moveNoted h op band slots u) := by
  unfold beginMove
  dsimp only
  rw [if_neg]
  · rfl
  · rw [k.place _ (by simp [placeReads]), k.place _ (by simp [placeReads]), k.place _ (by simp [placeReads])]
    exact fun ⟨h1, h5, hb, hl⟩ => hne ⟨h1, h5, hl.symm, hb.symm⟩

theorem beginMove_stays (k : MoveReady h 1 s u) (hat : onBand s h band layer) : beginMove h 1 band layer slots u
    = svDone h (updServo h (fun v => { v with target := some (band, layer) }) (moveNoted h 1 band slots u)) := by
  obtain ⟨h5, hl, hb⟩ := hat
  unfold beginMove
  dsimp only
  rw [if_pos]
  · rfl
  · rw [k.place _ (by simp [placeReads]), k.place _ (by simp [placeReads]), k.place _ (by simp [placeReads])]
    exact ⟨rfl, h5, hb.symm, hl.symm⟩

/-- The move of a command that is under way has begun (R107, R187, R191, R197). -/
theorem moveBegun_of_ready (hh : h < 64) (k : MoveReady h op s u) (dest band : Nat) (slots : List Nat) (layer : Nat) :
    MoveBegun h op dest layer s (startSeek h dest layer (moveNoted h op band slots u)) ∧
    (servoOf (startSeek h dest layer (moveNoted h op band slots u)) h).hold = (if op = 1 then some (band, slots) else none) ∧
    (servoOf (startSeek h dest layer (moveNoted h op band slots u)) h).entering = decide (op = 2) ∧
    Machine.get (startSeek h dest layer (moveNoted h op band slots u)) (F.SV_STATUS_BAND_HOLD h) = (if op = 1 then 1 else 0) := by
  obtain ⟨-, -, hlow, hseek, -⟩ := svCommand_apart h hh
  have hkeep {f : Fld} (hf : f ∈ svAnswerFields h ++ placeReads h) : Machine.get (moveNoted h op band slots u) f = Machine.get u f :=
    (atHead_moveNoted h op band slots u).get (by simpa using (hlow f hf).2.2.2.2)
  have hsought {f : Fld} (hf : f ∈ F.SV_STATUS_BAND_HOLD h :: svAnswerFields h) :
      Machine.get (startSeek h dest layer (moveNoted h op band slots u)) f = Machine.get (moveNoted h op band slots u) f := by
    have hkey := hseek f hf
    simp only [List.map_append, List.mem_append, not_or] at hkey
    exact (startSeek_drive (AtDrive.refl h _ _) (List.Subset.refl _) dest layer).get hkey.1.1
  have hanswer {f : Fld} (hf : f ∈ svAnswerFields h) :
      Machine.get (startSeek h dest layer (moveNoted h op band slots u)) f = Machine.get u f :=
    (hsought (List.mem_cons_of_mem _ hf)).trans (hkeep (List.mem_append_left _ hf))
  have hplace {f : Fld} (hf : f ∈ placeReads h) : Machine.get (moveNoted h op band slots u) f = Machine.get s f :=
    (hkeep (List.mem_append_right _ hf)).trans (k.place f hf)
  have hmove := startSeek_spec hh dest layer (moveNoted h op band slots u)
  have hsv := servoOf_moveNoted h op band slots u
  have hstate : Machine.get (moveNoted h op band slots u) (F.SV_STATUS_STATE h) = Machine.get s (F.SV_STATUS_STATE h) := hplace (by simp [placeReads])
  have hlayer : Machine.get (moveNoted h op band slots u) (F.SV_POS_LAYER h) = Machine.get s (F.SV_POS_LAYER h) := hplace (by simp [placeReads])
  have hband : Machine.get (moveNoted h op band slots u) (F.SV_POS_BAND h) = Machine.get s (F.SV_POS_BAND h) := hplace (by simp [placeReads])
  obtain ⟨hst, hconf, htarget, hradial, hheld, hjump, hhold, hentering, -⟩ := hmove
  rw [hlayer] at hst hradial hheld hjump
  rw [hstate] at hst hheld
  rw [hband] at hradial
  refine ⟨⟨(hanswer (by simp [svAnswerFields])).trans k.busy, (hanswer (by simp [svAnswerFields])).trans k.op,
    (hanswer (by simp [svAnswerFields])).trans k.result, hconf, htarget, fun h8 => hst.trans (if_neg h8), hheld, hradial, hjump⟩,
    by rw [hhold, hsv], by rw [hentering, hsv], ?_⟩
  rw [hsought (List.mem_cons_self ..), moveNoted, get_put_same]
  split <;> rfl

/-- What a move to a near band writes. -/
def begunFields (h : Nat) : List Fld :=
  [F.SV_CMD_BAND h, F.SV_CMD_LAYER h, F.SV_CMD_OP h, F.SV_STATUS_BAND_HOLD h] ++ svCmdFields h ++ confirmFields h ++ svFields h

theorem atHead_moveOpened_begun (h op band layer : Nat) (s : State) : AtHead h s (moveOpened h op band layer s) (begunFields h) :=
  (atHead_moveOpened h op band layer s).mono (by simp [svWordFields, begunFields, svCmdFields])

theorem nonePending_moveOpened (hn : NonePending s h) : NonePending (moveOpened h op band layer s) h := fun x hx => by
  refine hn x ?_
  rwa [chanOf, moveOpened, svBegin, getHead_putAll, getHead_updServo, getHead_svResult, writeSvCmd, getHead_putAll] at hx

theorem slots_moveOpened (h op band layer : Nat) (s : State) : (chanOf (moveOpened h op band layer s) h).slots = (chanOf s h).slots := by
  rw [chanOf, moveOpened, svBegin, getHead_putAll, getHead_updServo, getHead_svResult, writeSvCmd, getHead_putAll]
  rfl

/-- A move command that is accepted and need not wait begins its move (R187 to R191). -/
theorem moveCmd_begins (ho : seekOpen s h layer = true) (hw : writeFree s h = true) (hop : op < 8) (hne : ¬(op = 1 ∧ onBand s h band layer))
    {dest : Nat} (hdest : dest = if op = 2 then band - 1 else band) :
    MoveBegun h op dest layer s (moveCmd h op band layer slots s) ∧
    (servoOf (moveCmd h op band layer slots s) h).hold = (if op = 1 then some (band, slots) else none) ∧
    (servoOf (moveCmd h op band layer slots s) h).entering = decide (op = 2) ∧
    Machine.get (moveCmd h op band layer slots s) (F.SV_STATUS_BAND_HOLD h) = (if op = 1 then 1 else 0) ∧
    (nearBand s h dest layer = true → NonePending s h → WithinHead h s (moveCmd h op band layer slots s) (begunFields h)) := by
  have hh := headInst_lt (headInst_of_open ho)
  have hready := moveReady_seekAway hh hop dest band layer s
  have e : moveCmd h op band layer slots s
      = startSeek h dest layer (moveNoted h op band slots (seekAway h dest layer (moveOpened h op band layer s))) := by
    simp only [writeFree, Bool.or_eq_true, decide_eq_true_eq] at hw
    rw [moveCmd_open ho, if_neg (by omega), ← hdest, beginMove_seeks hready hne, ← hdest]
  obtain ⟨hbegun, hhold, hentering, hflag⟩ := moveBegun_of_ready hh hready dest band slots layer
  rw [← e] at hbegun hhold hentering hflag
  refine ⟨hbegun, hhold, hentering, hflag, fun hnear hn => ?_⟩
  simp only [nearBand, Bool.and_eq_true, decide_eq_true_eq] at hnear
  obtain ⟨⟨⟨⟨-, hl⟩, hup⟩, hdown⟩, hslots⟩ := hnear
  have haway : seekAway h dest layer (moveOpened h op band layer s) = moveOpened h op band layer s :=
    seekAway_of_nonePending (nonePending_moveOpened hn)
  rw [haway] at e hready
  have hkept {f : Fld} (hf : f ∈ placeReads h) : Machine.get (moveNoted h op band slots (moveOpened h op band layer s)) f = Machine.get s f :=
    ((atHead_moveNoted h op band slots _).get (by simpa using ((svCommand_apart h hh).2.2.1 f (List.mem_append_right _ hf)).2.2.2.2)).trans
      (hready.place f hf)
  have hnoted : AtHead h s (moveNoted h op band slots (moveOpened h op band layer s)) (begunFields h) :=
    (atHead_moveOpened_begun h op band layer s).trans ((atHead_moveNoted h op band slots _).mono (by simp [begunFields]))
  have hnoslots : (chanOf (moveNoted h op band slots (moveOpened h op band layer s)) h).slots = [] := by
    rw [chanOf, moveNoted, getHead_put, getHead_updServo]
    exact (slots_moveOpened h op band layer s).trans hslots
  have hlayer := hkept (f := F.SV_POS_LAYER h) (by simp [placeReads])
  have hband := hkept (f := F.SV_POS_BAND h) (by simp [placeReads])
  rw [e]
  refine (hnoted.trans ((atHead_startSeek_near hh (hl.trans hlayer.symm) hnoslots ?_).mono ?_)).within
  · rw [hband]
    omega
  · intro f hf
    rcases List.mem_append.1 hf with hf | hf <;> simp [begunFields, hf]

/-- While the write path is in its states 1 to 5 the move is put off (R170). -/
theorem moveCmd_defers (ho : seekOpen s h layer = true) (h1 : 1 ≤ Machine.get s (F.WRP_STATUS_STATE h))
    (h5 : Machine.get s (F.WRP_STATUS_STATE h) ≤ 5) (hop : op < 8) :
    (servoOf (moveCmd h op band layer slots s) h).deferred = some (op, band, layer, slots) ∧
    Machine.get (moveCmd h op band layer slots s) (F.SV_CMD_STATUS_BUSY h) = 1 ∧
    Machine.get (moveCmd h op band layer slots s) (F.SV_STATUS_STATE h) = Machine.get s (F.SV_STATUS_STATE h) ∧
    WithinHead h s (moveCmd h op band layer slots s) (svWordFields h ++ svCmdFields h) := by
  have hh := headInst_lt (headInst_of_open ho)
  have hopened := atHead_moveOpened h op band layer s
  have e := moveCmd_open ho op band slots
  rw [if_pos ⟨h1, h5⟩] at e
  have hmove : AtHead h (moveOpened h op band layer s) (moveCmd h op band layer slots s) [] := by
    rw [e]
    exact AtHead.thenUpd (AtHead.refl h _ _) _
  exact ⟨by rw [e, servoOf_updServo], (hmove.get (by simp)).trans (get_svBegin hh hop _).1,
    (hmove.get (by simp)).trans (hopened.get ((svCommand_apart h hh).2.1 _ (by simp [placeReads]))),
    (hopened.trans (hmove.mono (List.nil_subset _))).within⟩

/-- HOLD_BAND on its band completes at once (R189). -/
theorem moveCmd_stays (ho : seekOpen s h layer = true) (hw : writeFree s h = true) (hn : NonePending s h) (hat : onBand s h band layer) :
    moveCmd h 1 band layer slots s = svDone h (updServo h (fun v => { v with target := some (band, layer) })
      (moveNoted h 1 band slots (moveOpened h 1 band layer s))) := by
  have haway : seekAway h band layer (moveOpened h 1 band layer s) = moveOpened h 1 band layer s :=
    seekAway_of_nonePending (nonePending_moveOpened hn)
  have hready := moveReady_seekAway (headInst_lt (headInst_of_open ho)) (op := 1) (by decide) band band layer s
  simp only [writeFree, Bool.or_eq_true, decide_eq_true_eq] at hw
  rw [moveCmd_open ho, if_neg (by omega), if_neg (by decide), beginMove_stays hready hat, haway]

end moves

/-! ### The clauses -/

section clauses
variable {h op band layer : Nat} {slots : List Nat} {s : State}

theorem completes_seek (ho : seekOpen s h layer = true) (hw : writeFree s h = true) :
    Completes (.seek h band layer) s fun t =>
      MoveBegun h 0 band layer s t ∧ (servoOf t h).hold = none ∧ (servoOf t h).entering = false ∧
      (nearBand s h band layer = true → NonePending s h → WithinHead h s t (begunFields h)) := by
  obtain ⟨hbegun, hhold, hentering, -, hframe⟩ :=
    moveCmd_begins (op := 0) (band := band) (slots := []) ho hw (by decide) (by simp) rfl
  exact completes_of_exec (if_neg (by simp [headInst_of_open ho])) ⟨hbegun, hhold, hentering, hframe⟩

theorem completes_holdBand (ho : seekOpen s h layer = true) (hw : writeFree s h = true) (hne : ¬onBand s h band layer) :
    Completes (.holdBand h band layer slots) s fun t =>
      MoveBegun h 1 band layer s t ∧ (servoOf t h).hold = some (band, slots) ∧ Machine.get t (F.SV_STATUS_BAND_HOLD h) = 1 ∧
      (nearBand s h band layer = true → NonePending s h → WithinHead h s t (begunFields h)) := by
  obtain ⟨hbegun, hhold, -, hflag, hframe⟩ := moveCmd_begins (op := 1) (band := band) (slots := slots) ho hw (by decide) (by simp [hne]) rfl
  exact completes_of_exec (if_neg (by simp [headInst_of_open ho])) ⟨hbegun, hhold, hflag, hframe⟩

theorem completes_enter (ho : seekOpen s h layer = true) (hw : writeFree s h = true) :
    Completes (.enter h band layer) s fun t =>
      MoveBegun h 2 (band - 1) layer s t ∧ (servoOf t h).hold = none ∧ (servoOf t h).entering = true ∧
      (nearBand s h (band - 1) layer = true → NonePending s h → WithinHead h s t (begunFields h)) := by
  obtain ⟨hbegun, hhold, hentering, -, hframe⟩ :=
    moveCmd_begins (op := 2) (band := band) (slots := []) ho hw (by decide) (by simp) rfl
  exact completes_of_exec (if_neg (by simp [headInst_of_open ho])) ⟨hbegun, hhold, hentering, hframe⟩

theorem completes_deferred (ho : seekOpen s h layer = true) (h1 : 1 ≤ Machine.get s (F.WRP_STATUS_STATE h))
    (h5 : Machine.get s (F.WRP_STATUS_STATE h) ≤ 5) (hop : op ≤ 2) :
    Completes (if op = 0 then .seek h band layer else if op = 1 then .holdBand h band layer slots else .enter h band layer) s fun t =>
      (servoOf t h).deferred = some (op, band, layer, if op = 1 then slots else []) ∧ Machine.get t (F.SV_CMD_STATUS_BUSY h) = 1 ∧
      Machine.get t (F.SV_STATUS_STATE h) = Machine.get s (F.SV_STATUS_STATE h) ∧
      WithinHead h s t ([F.SV_CMD_BAND h, F.SV_CMD_LAYER h, F.SV_CMD_OP h] ++ svCmdFields h) := by
  have hi : ¬headInst s h = false := by simp [headInst_of_open ho]
  have he : exec (if op = 0 then .seek h band layer else if op = 1 then .holdBand h band layer slots else .enter h band layer) s
      = .next (moveCmd h op band layer (if op = 1 then slots else []) s) := by
    obtain rfl | rfl | rfl : op = 0 ∨ op = 1 ∨ op = 2 := by omega
    all_goals exact if_neg hi
  exact completes_of_exec he (moveCmd_defers ho h1 h5 (by omega))

/-- A servo on track takes a move on its own layer. -/
theorem seekOpen_of_onTrack (hi : headInst s h = true) (h5 : Machine.get s (F.SV_STATUS_STATE h) = 5)
    (hl : layer = Machine.get s (F.SV_POS_LAYER h)) : seekOpen s h layer = true := by
  simp [seekOpen, hi, h5, hl]


end clauses

end Sys2Proof.Proofs
end

section
/-! SUPPORT. The clauses of O10 on a hold that is reached at once, on FOLLOW, PULLIN, RETRACT, a reserved OP, EN and CLR_CNT (R180, R189, R195,
R197 to R199). -/

namespace Sys2Proof.Proofs

open Sys2Proof.Machine Sys2Proof.Laws

/-! ### Registers apart -/

/-- The counters and values that CLR_CNT clears (R199). -/
def svCounterFields (h : Nat) : List Fld :=
  [F.SV_SEEKS h, F.SV_SEEK_FAIL h, F.SV_CORRECTIVE h, F.SV_LAYER_JUMPS h, F.SV_DEFECT_HOLDS h, F.SV_FOCUS_LOSS h, F.SV_OFFTRACK h,
    F.SV_MISS h, F.SV_RETRACTS h, F.SV_SHADOW h, F.SV_SEEK_TIME_LAST h, F.SV_SEEK_TIME_MAX h, F.SV_ERR_FE h, F.SV_ERR_TE h]

theorem svDone_apart : ∀ h < 64, (F.SV_CMD_STATUS_OP h).key ∉ ([F.SV_CMD_STATUS_BUSY h, F.SV_CMD_STATUS_RESULT h, F.SV_CMD_STATUS_CORR h,
      F.SV_CMD_STATUS_DUR h, F.SV_SEEKS h, F.SV_SEEK_TIME_MAX h, F.SV_SEEK_TIME_LAST h] ++ evFields (evSV h)).map Fld.key ∧
    (F.SV_STATUS_BAND_HOLD h).key ∉ (resultFields h).map Fld.key ∧ (F.SV_STATUS_STATE h).key ∉ (resultFields h).map Fld.key ∧
    (F.SV_STATUS_BAND_HOLD h).key ∉ (svCmdFields h ++ evFields (evSV h)).map Fld.key := by decide +kernel

theorem svOps_apart : ∀ h < 64,
    (∀ f ∈ F.SV_CTRL_EN h :: svAnswerFields h, f.key ∉ (svFields h).map Fld.key) ∧
    (∀ f ∈ [F.SV_STATUS_STATE h, F.SV_RETRACTS h], f.key ∉ (F.SV_CMD_OP h :: svAnswerFields h).map Fld.key) ∧
    (∀ f ∈ [F.SV_STATUS_STATE h, F.HL_STATUS_STATE h], f.key ≠ (F.SV_CTRL_EN h).key) ∧
    (F.SV_CTRL_EN h).key ∉ (retractFields h).map Fld.key ∧
    ((svCounterFields h).map Fld.key).Nodup := by decide +kernel

/-! ### A hold reached at once -/

section stayed
variable {h band layer : Nat} {slots : List Nat} {s : State}

/-- The end of a command keeps which command it was (R198). -/
theorem get_svDone_op (hh : h < 64) (hb : Machine.get s (F.SV_CMD_STATUS_BUSY h) = 1) :
    Machine.get (svDone h s) (F.SV_CMD_STATUS_OP h) = Machine.get s (F.SV_CMD_STATUS_OP h) := by
  obtain ⟨hkey, -⟩ := svDone_apart h hh
  have hresult : AtHead h s (svResult h 0 s) ([F.SV_CMD_STATUS_BUSY h, F.SV_CMD_STATUS_RESULT h, F.SV_CMD_STATUS_CORR h,
      F.SV_CMD_STATUS_DUR h, F.SV_SEEKS h, F.SV_SEEK_TIME_MAX h, F.SV_SEEK_TIME_LAST h] ++ evFields (evSV h)) := by
    rw [svResult, if_pos hb]
    exact atHead_putAll (by simp)
  exact ((hresult.thenRaise (by simp [evFields]) (by simp [evFields])).trans ((svDone_cases hb).1.mono (by simp))).get hkey

/-- The servo of a HOLD_BAND on its band takes the band as its target. -/
def aimed (band layer : Nat) (v : Servo) : Servo := { v with target := some (band, layer) }

/-- A HOLD_BAND on its band before its result (R189). -/
def moveStayed (h band layer : Nat) (slots : List Nat) (s : State) : State :=
  updServo h (aimed band layer) (moveNoted h 1 band slots (moveOpened h 1 band layer s))

theorem atHead_moveStayed (h band layer : Nat) (slots : List Nat) (s : State) :
    AtHead h s (moveStayed h band layer slots s) (F.SV_STATUS_BAND_HOLD h :: (svWordFields h ++ svCmdFields h)) := by
  have hnoted : AtHead h s (moveNoted h 1 band slots (moveOpened h 1 band layer s))
      (F.SV_STATUS_BAND_HOLD h :: (svWordFields h ++ svCmdFields h)) :=
    ((atHead_moveOpened h 1 band layer s).mono (List.subset_cons_self ..)).trans ((atHead_moveNoted h 1 band slots _).mono (by simp))
  exact hnoted.thenServo _

theorem servoOf_moveStayed (h band layer : Nat) (slots : List Nat) (s : State) :
    (servoOf (moveStayed h band layer slots s) h).hold = some (band, slots) ∧
    (servoOf (moveStayed h band layer slots s) h).target = some (band, layer) := by
  rw [moveStayed, servoOf_updServo, servoOf_moveNoted]
  exact ⟨rfl, rfl⟩

theorem get_moveStayed (hh : h < 64) (band layer : Nat) (slots : List Nat) (s : State) :
    Machine.get (moveStayed h band layer slots s) (F.SV_STATUS_STATE h) = Machine.get s (F.SV_STATUS_STATE h) ∧
    Machine.get (moveStayed h band layer slots s) (F.SV_STATUS_BAND_HOLD h) = 1 ∧
    Machine.get (moveStayed h band layer slots s) (F.SV_CMD_STATUS_BUSY h) = 1 ∧
    Machine.get (moveStayed h band layer slots s) (F.SV_CMD_STATUS_OP h) = 1 := by
  obtain ⟨-, hword, hlow, -⟩ := svCommand_apart h hh
  obtain ⟨hbusy, hop, -⟩ := get_svBegin hh (op := 1) (by decide) (writeSvCmd h 1 band layer s)
  have hnoted : AtHead h (moveOpened h 1 band layer s) (moveStayed h band layer slots s) [F.SV_STATUS_BAND_HOLD h] :=
    (atHead_moveNoted h 1 band slots _).thenServo _
  have hkeep {f : Fld} (hf : f ∈ svAnswerFields h ++ placeReads h) :
      Machine.get (moveStayed h band layer slots s) f = Machine.get (moveOpened h 1 band layer s) f :=
    hnoted.get (by simpa using (hlow f hf).2.2.2.2)
  refine ⟨(hkeep (by simp [placeReads])).trans ((atHead_moveOpened h 1 band layer s).get (hword _ (by simp [placeReads]))), ?_,
    (hkeep (by simp [svAnswerFields])).trans hbusy, (hkeep (by simp [svAnswerFields])).trans hop⟩
  rw [moveStayed, updServo, get_updHead, moveNoted, get_put_same]
  rfl

theorem exec_holdBand (hi : headInst s h = true) : exec (.holdBand h band layer slots) s = .next (moveCmd h 1 band layer slots s) :=
  if_neg (by simp [hi])

theorem completes_holdBand_there (hi : headInst s h = true) (h5 : Machine.get s (F.SV_STATUS_STATE h) = 5) (hw : writeFree s h = true)
    (hn : NonePending s h) (hl : layer = Machine.get s (F.SV_POS_LAYER h)) (hb : band = Machine.get s (F.SV_POS_BAND h)) :
    Completes (.holdBand h band layer slots) s fun t =>
      Machine.get t (F.SV_STATUS_STATE h) = 5 ∧ Machine.get t (F.SV_STATUS_BAND_HOLD h) = 1 ∧ Machine.get t (F.SV_CMD_STATUS_BUSY h) = 0 ∧
      Machine.get t (F.SV_CMD_STATUS_OP h) = 1 ∧ Machine.get t (F.SV_CMD_STATUS_RESULT h) = 0 ∧ Raised t (evSV h) B.SV_EVT_SEEK_DONE ∧
      (servoOf t h).hold = some (band, slots) ∧ (servoOf t h).target = some (band, layer) ∧
      WithinHead h s t ([F.SV_CMD_BAND h, F.SV_CMD_LAYER h, F.SV_CMD_OP h, F.SV_STATUS_BAND_HOLD h, F.SV_SEEKS h, F.SV_SEEK_TIME_LAST h,
        F.SV_SEEK_TIME_MAX h] ++ svCmdFields h ++ evFields (evSV h)) := by
  have hh := headInst_lt hi
  obtain ⟨-, hholdKey, hstateKey, -⟩ := svDone_apart h hh
  obtain ⟨hst, hflag, hbusy, hop⟩ := get_moveStayed hh band layer slots s
  obtain ⟨hhold, htarget⟩ := servoOf_moveStayed h band layer slots s
  have hdone := atHead_svDone h (moveStayed h band layer slots s)
  obtain ⟨hbusy', hresult, hev⟩ := svDone_spec hh hbusy
  have hsv : servoOf (svDone h (moveStayed h band layer slots s)) h = servoOf (moveStayed h band layer slots s) h :=
    congrArg Head.sv (getHead_svDone h h _)
  have e : exec (.holdBand h band layer slots) s = .next (svDone h (moveStayed h band layer slots s)) :=
    (exec_holdBand hi).trans (by rw [moveCmd_stays (seekOpen_of_onTrack hi h5 hl) hw hn ⟨h5, hl, hb⟩]; rfl)
  refine completes_of_exec e ⟨(hdone.get hstateKey).trans (hst.trans h5), (hdone.get hholdKey).trans hflag, hbusy',
    (get_svDone_op hh hbusy).trans hop, hresult, hev, by rw [hsv, hhold], by rw [hsv, htarget], AtHead.within ?_⟩
  refine ((atHead_moveStayed h band layer slots s).mono ?_).trans (hdone.mono ?_)
  · simp [svWordFields, svCmdFields]
  · simp [resultFields, svCmdFields, evFields]

end stayed

/-! ### FOLLOW, PULLIN and RETRACT -/

section ops
variable {h : Nat} {s : State}

/-- A servo without a band hold. -/
def released (v : Servo) : Servo := { v with hold := none }

/-- A FOLLOW before its result (R189). -/
def followOpened (h : Nat) (s : State) : State :=
  put (F.SV_STATUS_BAND_HOLD h) 0 (updServo h released (svBegin h 3 (put (F.SV_CMD_OP h) 3 s)))

theorem completes_svFollow (hi : headInst s h = true) (h2 : 2 ≤ Machine.get s (F.SV_STATUS_STATE h))
    (h8 : Machine.get s (F.SV_STATUS_STATE h) ≤ 8) :
    Completes (.svFollow h) s fun t =>
      Machine.get t (F.SV_STATUS_BAND_HOLD h) = 0 ∧ Machine.get t (F.SV_CMD_STATUS_BUSY h) = 0 ∧ Machine.get t (F.SV_CMD_STATUS_OP h) = 3 ∧
      Machine.get t (F.SV_CMD_STATUS_RESULT h) = 0 ∧ (servoOf t h).hold = none ∧ Raised t (evSV h) B.SV_EVT_SEEK_DONE ∧
      WithinHead h s t ([F.SV_CMD_OP h, F.SV_STATUS_BAND_HOLD h] ++ svCmdFields h ++ evFields (evSV h)) := by
  have hh := headInst_lt hi
  obtain ⟨-, -, hlow, -⟩ := svCommand_apart h hh
  obtain ⟨-, -, -, hholdKey⟩ := svDone_apart h hh
  obtain ⟨hbusy, hop, -⟩ := get_svBegin hh (op := 3) (by decide) (put (F.SV_CMD_OP h) 3 s)
  have hheld : AtHead h (svBegin h 3 (put (F.SV_CMD_OP h) 3 s)) (followOpened h s) [F.SV_STATUS_BAND_HOLD h] :=
    (AtHead.thenServo (AtHead.refl h _ _) _).thenPut (by simp)
  have hkeep {f : Fld} (hf : f ∈ svAnswerFields h ++ placeReads h) :
      Machine.get (followOpened h s) f = Machine.get (svBegin h 3 (put (F.SV_CMD_OP h) 3 s)) f :=
    hheld.get (by simpa using (hlow f hf).2.2.2.2)
  have hbusy1 := (hkeep (f := F.SV_CMD_STATUS_BUSY h) (by simp [svAnswerFields])).trans hbusy
  have hsv : (servoOf (followOpened h s) h).hold = none ∧ (servoOf (followOpened h s) h).cmdOp = 3 := by
    rw [followOpened, servoOf, getHead_put, ← servoOf, servoOf_updServo, servoOf_svBegin]
    exact ⟨rfl, rfl⟩
  have hdone : AtHead h (followOpened h s) (svDone h (followOpened h s)) (svCmdFields h ++ evFields (evSV h)) :=
    atHead_svDone_other (by omega)
  obtain ⟨hbusy', hresult, hev⟩ := svDone_spec hh hbusy1
  have e : exec (.svFollow h) s = .next (svDone h (followOpened h s)) := (if_neg (by simp [hi])).trans (if_neg (by omega))
  refine completes_of_exec e ⟨(hdone.get hholdKey).trans (get_put_same ..), hbusy', (get_svDone_op hh hbusy1).trans
    ((hkeep (by simp [svAnswerFields])).trans hop), hresult, ?_, hev, AtHead.within ?_⟩
  · rw [servoOf, getHead_svDone, ← servoOf, hsv.1]
  · refine ((atHead_put (by simp)).trans (((atHead_svBegin h 3 _).mono fun f hf => by simp [hf]).trans (hheld.mono (by simp)))).trans
      (hdone.mono fun f hf => ?_)
    rcases List.mem_append.1 hf with hf | hf <;> simp [hf]

/-- A PULLIN before its sweep (R180). -/
def pullOpened (h layer : Nat) (cal : Bool) (s : State) : State :=
  updServo h (fun v => { v with target := none, pullFail := 0, seekBack := false })
    (svBegin h 4 (putB (F.SV_CMD_CAL h) cal (putAll [(F.SV_CMD_LAYER h, layer), (F.SV_CMD_OP h, 4)] s)))

theorem pullIn_eq {layer : Nat} {cal : Bool} (h1 : Machine.get s (F.SV_STATUS_STATE h) = 1) (hok : pullInOk s h = true) :
    pullIn h layer cal s = startSweep h (layer % 16) cal (pullOpened h layer cal s) := by
  unfold pullIn
  extract_lets s0
  rw [if_neg (by simp [h1, hok])]
  rfl

/-- What a servo state does not touch it keeps. -/
theorem svCore_reads {v w : Servo} (k : svCore v = svCore w) : v.jumpTo = w.jumpTo ∧ v.calSweep = w.calSweep ∧ v.captures = w.captures ∧
    v.target = w.target :=
  ⟨congrArg (·.jumpTo) k, congrArg (·.calSweep) k, congrArg (·.captures) k, congrArg (·.target) k⟩

/-- A sweep starts in SWEEP, with its layer and its counts afresh (R178, R180). -/
theorem startSweep_spec (hh : h < 64) (layer : Nat) (cal : Bool) (s : State) :
    Machine.get (startSweep h layer cal s) (F.SV_STATUS_STATE h) = 2 ∧ (servoOf (startSweep h layer cal s) h).jumpTo = layer ∧
    (servoOf (startSweep h layer cal s) h).calSweep = cal ∧ (servoOf (startSweep h layer cal s) h).captures = 0 ∧
    (servoOf (startSweep h layer cal s) h).target = (servoOf s h).target := by
  have hcore : svCore (servoOf (startSweep h layer cal s) h) = svCore { servoOf s h with
      jumpTo := layer, captures := 0, calSweep := cal, openRange := false, landed := false, mode := 0, remain := 0, held := 0,
      sweepPos := 0, back := false, feN := 0, feHi := 0, feLo := 0, capHit := false, capLayer := none } := by
    rw [startSweep, svCore_svState (by decide), servoOf_updServo, servoOf, getHead_clearConfirm]
    rfl
  refine ⟨?_, svCore_reads hcore⟩
  rw [startSweep, get_svState_self (by decide) hh]
  rfl

theorem atHead_startSweep (h layer : Nat) (cal : Bool) (s : State) :
    AtHead h s (startSweep h layer cal s) (confirmFields h ++ svFields h) := by
  have hclear : AtHead h s (clearConfirm h s) (confirmFields h ++ svFields h) := (atHead_clearConfirm h s).mono
    (List.append_subset.2 ⟨List.subset_append_left .., fun f hf => List.mem_append_right _ (permits_subset_sv h hf)⟩)
  exact (hclear.thenServo _).trans ((atHead_svState (by decide) h _).mono (List.subset_append_right ..))

theorem exec_pullin {layer : Nat} {cal : Bool} (hi : headInst s h = true) : exec (.pullin h layer cal) s = .next (pullIn h layer cal s) :=
  if_neg (by simp [hi])

theorem completes_pullin {layer : Nat} {cal : Bool} (hi : headInst s h = true) (h1 : Machine.get s (F.SV_STATUS_STATE h) = 1)
    (hok : pullInOk s h = true) :
    Completes (.pullin h layer cal) s fun t =>
      Machine.get t (F.SV_STATUS_STATE h) = 2 ∧ Machine.get t (F.SV_CMD_STATUS_BUSY h) = 1 ∧ Machine.get t (F.SV_CMD_STATUS_OP h) = 4 ∧
      (servoOf t h).jumpTo = layer % 16 ∧ (servoOf t h).calSweep = cal ∧ (servoOf t h).captures = 0 ∧ (servoOf t h).target = none ∧
      WithinHead h s t ([F.SV_CMD_LAYER h, F.SV_CMD_OP h, F.SV_CMD_CAL h] ++ svCmdFields h ++ confirmFields h ++ svFields h) := by
  have hh := headInst_lt hi
  obtain ⟨-, -, -, hseek, -⟩ := svCommand_apart h hh
  obtain ⟨hbusy, hop, -⟩ := get_svBegin hh (op := 4) (by decide) (putB (F.SV_CMD_CAL h) cal (putAll [(F.SV_CMD_LAYER h, layer), (F.SV_CMD_OP h, 4)] s))
  have hsweep := atHead_startSweep h (layer % 16) cal (pullOpened h layer cal s)
  have hkeep {f : Fld} (hf : f ∈ svAnswerFields h) : Machine.get (startSweep h (layer % 16) cal (pullOpened h layer cal s)) f
      = Machine.get (svBegin h 4 (putB (F.SV_CMD_CAL h) cal (putAll [(F.SV_CMD_LAYER h, layer), (F.SV_CMD_OP h, 4)] s))) f := by
    have hkey := hseek f (List.mem_cons_of_mem _ hf)
    simp only [seekFields, List.map_append, List.mem_append, not_or] at hkey
    obtain ⟨⟨⟨⟨⟨-, hconf⟩, hsv⟩, -⟩, -⟩, -⟩ := hkey
    rw [hsweep.get (by rw [List.map_append, List.mem_append, not_or]; exact ⟨hconf, hsv⟩), pullOpened, updServo, get_updHead]
  obtain ⟨hst, hjump, hcal, hcaps, htarget⟩ := startSweep_spec hh (layer % 16) cal (pullOpened h layer cal s)
  have hopened : AtHead h s (pullOpened h layer cal s) ([F.SV_CMD_LAYER h, F.SV_CMD_OP h, F.SV_CMD_CAL h] ++ svCmdFields h) :=
    AtHead.thenServo (AtHead.trans (AtHead.thenPut (atHead_putAll (by simp)) (by simp))
      ((atHead_svBegin h 4 _).mono (List.subset_append_right ..))) _
  have e : exec (.pullin h layer cal) s = .next (startSweep h (layer % 16) cal (pullOpened h layer cal s)) :=
    (exec_pullin hi).trans (by rw [pullIn_eq h1 hok])
  refine completes_of_exec e ⟨hst, (hkeep (by simp [svAnswerFields])).trans hbusy, (hkeep (by simp [svAnswerFields])).trans hop, hjump, hcal,
    hcaps, ?_, AtHead.within ?_⟩
  · rw [htarget, pullOpened, servoOf_updServo]
  · rw [List.append_assoc]
    exact (hopened.mono (List.subset_append_left ..)).trans (hsweep.mono (List.subset_append_right ..))

/-- A servo in its states 2 to 8 has its lens out. -/
theorem lensOut_of_state (h2 : 2 ≤ Machine.get s (F.SV_STATUS_STATE h)) (h8 : Machine.get s (F.SV_STATUS_STATE h) ≤ 8) : lensParked s h = false := by
  simp only [lensParked, Bool.or_eq_false_iff, decide_eq_false_iff_not]
  omega

/-- A RETRACT's answer (R197). -/
def retractAnswered (h : Nat) (at_ : Nat) (s : State) : State :=
  putAll [(F.SV_CMD_STATUS_BUSY h, 1), (F.SV_CMD_STATUS_OP h, 5), (F.SV_CMD_STATUS_RESULT h, 0)]
    (updServo h (fun v => { v with cmdAt := at_, corr := 0, cmdOp := 5 }) s)

theorem completes_retract (hi : headInst s h = true) (h2 : 2 ≤ Machine.get s (F.SV_STATUS_STATE h))
    (h8 : Machine.get s (F.SV_STATUS_STATE h) ≤ 8) :
    Completes (.retract h) s fun t =>
      Machine.get t (F.SV_STATUS_STATE h) = 9 ∧ Machine.get t (F.SV_CMD_STATUS_BUSY h) = 1 ∧ Machine.get t (F.SV_CMD_STATUS_OP h) = 5 ∧
      Machine.get t (F.SV_RETRACTS h) = trunc 32 (satAdd 32 (Machine.get s (F.SV_RETRACTS h)) 1) ∧
      (servoOf t h).why = 0 ∧ (servoOf t h).held = 7 ∧ (servoOf t h).hold = none ∧ (writeOf t h).closeReq = true ∧
      WithinHead h s t ([F.SV_CMD_OP h, F.SV_RETRACTS h, F.SV_STATUS_BAND_HOLD h] ++ svCmdFields h ++ svFields h) := by
  have hh := headInst_lt hi
  obtain ⟨-, hword, -⟩ := svOps_apart h hh
  have hcmd {f : Fld} (hf : f ∈ [F.SV_STATUS_STATE h, F.SV_RETRACTS h]) : Machine.get (put (F.SV_CMD_OP h) 5 s) f = Machine.get s f :=
    get_put_ne _ _ _ _ fun e => hword f hf (by rw [e]; simp)
  have hst0 := hcmd (f := F.SV_STATUS_STATE h) (by simp)
  have hlens : lensParked (put (F.SV_CMD_OP h) 5 s) h = false := lensOut_of_state (by omega) (by omega)
  have hanswer (u : State) : AtHead h u (retractAnswered h (now s) u) (svAnswerFields h) :=
    (AtHead.thenUpd (AtHead.refl h u _) _).trans (atHead_putAll (by simp [svAnswerFields]))
  have hkeep {f : Fld} (hf : f ∈ [F.SV_STATUS_STATE h, F.SV_RETRACTS h]) (u : State) : Machine.get (retractAnswered h (now s) u) f = Machine.get u f :=
    (hanswer u).get fun hx => hword f hf (List.mem_cons_of_mem _ hx)
  have hn : ([(F.SV_CMD_STATUS_BUSY h, 1), (F.SV_CMD_STATUS_OP h, 5), (F.SV_CMD_STATUS_RESULT h, 0)].map fun p => p.1.key).Nodup :=
    ((svCommand_apart h hh).1.sublist ((List.take_sublist 3 (svCmdFields h)).map _) :)
  have hcore := headCore_retractHead (why := 0) hlens
  have hhead : headCore (getHead (retractAnswered h (now s) (retractHead h 0 (put (F.SV_CMD_OP h) 5 s))) h)
      = { headCore (retracted 0 (getHead s h)) with sv := { (headCore (retracted 0 (getHead s h))).sv with cmdAt := now s, corr := 0, cmdOp := 5 } } := by
    rw [retractAnswered, getHead_putAll, getHead_updServo, ← getHead_put (F.SV_CMD_OP h) 5 h s, ← hcore]
    rfl
  have e : exec (.retract h) s = .next (retractAnswered h (now s) (retractHead h 0 (put (F.SV_CMD_OP h) 5 s))) :=
    (if_neg (by simp [hi])).trans (if_neg (by omega))
  refine completes_of_exec e ⟨(hkeep (by simp) _).trans (get_retractHead_state hlens hh), get_putAll_mem (v := 1) hn (by simp),
    get_putAll_mem (v := 5) hn (by simp), ?_, congrArg (·.sv.why) hhead, congrArg (·.sv.held) hhead, congrArg (·.sv.hold) hhead,
    congrArg (·.wr.closeReq) hhead, AtHead.within ?_⟩
  · rw [hkeep (by simp), get_retractHead_retracts hlens hh, hcmd (by simp)]
  · refine (atHead_put (by simp)).trans (((atHead_retractHead h 0 _).mono ?_).trans ((hanswer _).mono ?_))
    · intro f hf
      simp [retractFields] at hf ⊢
      tauto
    · intro f hf
      simp [svAnswerFields, svCmdFields] at hf ⊢
      tauto

/-! ### A reserved OP, EN and CLR_CNT -/

theorem completes_svCmdErr {op : Nat} (hi : headInst s h = true) (h6 : 6 ≤ op) (h7 : op ≤ 7) :
    Completes (.svCmdErr h op) s fun t =>
      Machine.get t (F.SV_CMD_STATUS_OP h) = op ∧ Machine.get t (F.SV_CMD_STATUS_RESULT h) = 2 ∧ Raised t (evSV h) B.SV_EVT_CMD_ERR ∧
      Within s t ([F.SV_CMD_OP h, F.SV_CMD_STATUS_OP h, F.SV_CMD_STATUS_RESULT h] ++ evFields (evSV h)) := by
  have hh := headInst_lt hi
  have happ : ∀ h < 64, ([F.SV_CMD_STATUS_OP h, F.SV_CMD_STATUS_RESULT h].map Fld.key).Nodup ∧
      ∀ f ∈ [F.SV_CMD_STATUS_OP h, F.SV_CMD_STATUS_RESULT h], f.key ∉ (evFields (evSV h)).map Fld.key := by decide +kernel
  obtain ⟨hn, hev⟩ := happ h hh
  have hn' : ([(F.SV_CMD_STATUS_OP h, op), (F.SV_CMD_STATUS_RESULT h, 2)].map fun p => p.1.key).Nodup := hn
  have hkeep {f : Fld} (hf : f ∈ [F.SV_CMD_STATUS_OP h, F.SV_CMD_STATUS_RESULT h]) (u : State) :
      Machine.get (raise (evSV h) B.SV_EVT_CMD_ERR u) f = Machine.get u f :=
    (atHead_raise (h := h) (fs := evFields (evSV h)) (by simp [evFields]) (by simp [evFields])).get (hev f hf)
  have e : exec (.svCmdErr h op) s = .next (raise (evSV h) B.SV_EVT_CMD_ERR (svRefuse h op (put (F.SV_CMD_OP h) op s))) :=
    if_neg (by simp [hi]; omega)
  refine completes_of_exec e ⟨?_, ?_, raised_raise headEv_sv (by decide), ?_⟩
  · rw [hkeep (by simp), svRefuse, get_putAll_mem (v := op) hn' (by simp)]
    exact Nat.mod_eq_of_lt (by change op < 8; omega)
  · rw [hkeep (by simp), svRefuse, get_putAll_mem (v := 2) hn' (by simp)]
    rfl
  · refine within_raise (within_putAll (within_put (within_refl s _) (by simp)) ?_) (by simp [evFields]) (by simp [evFields])
    simp

theorem atHead_leaveOff (h : Nat) (s : State) : AtHead h s (leaveOff h s) (svFields h) := by
  unfold leaveOff
  split
  · exact atHead_svState (by decide) h s
  · exact AtHead.refl h s _

theorem completes_svEnable_on {en : Nat} (hi : headInst s h = true) (hen : en % 2 = 1) :
    Completes (.svEnable h en) s fun t =>
      Machine.get t (F.SV_CTRL_EN h) = 1 ∧
      (Machine.get s (F.SV_STATUS_STATE h) = 0 → Machine.get s (F.HL_STATUS_STATE h) = 5 → Machine.get t (F.SV_STATUS_STATE h) = 1) ∧
      (Machine.get s (F.SV_STATUS_STATE h) = 10 → Machine.get s (F.SV_CTRL_EN h) = 0 → Machine.get t (F.SV_STATUS_STATE h) = 1) ∧
      (1 ≤ Machine.get s (F.SV_STATUS_STATE h) → Machine.get s (F.SV_STATUS_STATE h) ≤ 9 → Within s t [F.SV_CTRL_EN h]) ∧
      WithinHead h s t (F.SV_CTRL_EN h :: svFields h) := by
  have hh := headInst_lt hi
  obtain ⟨hsv, -, hread, -⟩ := svOps_apart h hh
  have hen1 : Machine.get (put (F.SV_CTRL_EN h) en s) (F.SV_CTRL_EN h) = 1 := (get_put_same ..).trans hen
  have hst : Machine.get (put (F.SV_CTRL_EN h) en s) (F.SV_STATUS_STATE h) = Machine.get s (F.SV_STATUS_STATE h) :=
    get_put_ne _ _ _ _ (hread _ (by simp))
  have hhl : Machine.get (put (F.SV_CTRL_EN h) en s) (F.HL_STATUS_STATE h) = Machine.get s (F.HL_STATUS_STATE h) :=
    get_put_ne _ _ _ _ (hread _ (by simp))
  have hput : AtHead h s (put (F.SV_CTRL_EN h) en s) (F.SV_CTRL_EN h :: svFields h) := atHead_put (by simp)
  have hretracted : Machine.get (svState h 1 (put (F.SV_CTRL_EN h) en s)) (F.SV_STATUS_STATE h) = 1 := get_svState_self (by decide) hh _
  have e : exec (.svEnable h en) s = .next (if Machine.get s (F.SV_STATUS_STATE h) = 10 ∧ Machine.get s (F.SV_CTRL_EN h) = 0 then
      svState h 1 (put (F.SV_CTRL_EN h) en s) else leaveOff h (put (F.SV_CTRL_EN h) en s)) :=
    (if_neg (by simp [hi])).trans (if_pos hen)
  refine completes_of_exec e ?_
  split
  next h10 =>
    have hs := atHead_svState (st := 1) (by decide) h (put (F.SV_CTRL_EN h) en s)
    exact ⟨(hs.get (hsv _ (by simp))).trans hen1, fun _ _ => hretracted, fun _ _ => hretracted, fun _ _ => by omega,
      (hput.trans (hs.mono (List.subset_cons_self ..))).within⟩
  next h10 =>
    have hs := atHead_leaveOff h (put (F.SV_CTRL_EN h) en s)
    refine ⟨(hs.get (hsv _ (by simp))).trans hen1, fun h0 h5 => ?_, fun h1 h2 => absurd ⟨h1, h2⟩ h10, fun h1 _ => ?_,
      (hput.trans (hs.mono (List.subset_cons_self ..))).within⟩
    · rw [leaveOff, if_pos ⟨hst.trans h0, hen1, hhl.trans h5⟩]
      exact hretracted
    · rw [leaveOff, if_neg (by omega)]
      exact within_put (within_refl s _) (by simp)

theorem completes_svEnable_off {en : Nat} (hi : headInst s h = true) (hen : en % 2 = 0) :
    Completes (.svEnable h en) s fun t =>
      Machine.get t (F.SV_CTRL_EN h) = 0 ∧
      (Machine.get s (F.SV_STATUS_STATE h) = 1 → Machine.get t (F.SV_STATUS_STATE h) = 0) ∧
      (2 ≤ Machine.get s (F.SV_STATUS_STATE h) → Machine.get s (F.SV_STATUS_STATE h) ≤ 9 →
        Machine.get t (F.SV_STATUS_STATE h) = 9 ∧ (servoOf t h).offAfter = true) ∧
      WithinHead h s t ([F.SV_CTRL_EN h, F.SV_RETRACTS h, F.SV_STATUS_BAND_HOLD h] ++ svCmdFields h ++ svFields h) := by
  have hh := headInst_lt hi
  obtain ⟨hsv, -, hread, hretract, -⟩ := svOps_apart h hh
  have hen0 : Machine.get (put (F.SV_CTRL_EN h) en s) (F.SV_CTRL_EN h) = 0 := (get_put_same ..).trans hen
  have hst : Machine.get (put (F.SV_CTRL_EN h) en s) (F.SV_STATUS_STATE h) = Machine.get s (F.SV_STATUS_STATE h) :=
    get_put_ne _ _ _ _ (hread _ (by simp))
  have hput : AtHead h s (put (F.SV_CTRL_EN h) en s) ([F.SV_CTRL_EN h, F.SV_RETRACTS h, F.SV_STATUS_BAND_HOLD h] ++ svCmdFields h ++ svFields h) :=
    atHead_put (by simp)
  have e : exec (.svEnable h en) s = if Machine.get s (F.SV_STATUS_STATE h) = 1 then .next (svState h 0 (put (F.SV_CTRL_EN h) en s))
      else if Machine.get s (F.SV_STATUS_STATE h) = 0 ∨ Machine.get s (F.SV_STATUS_STATE h) = 10 then .next (put (F.SV_CTRL_EN h) en s)
      else .next (updServo h (fun v => { v with offAfter := true, seekBack := false }) (retractHead h 0 (put (F.SV_CTRL_EN h) en s))) :=
    (if_neg (by simp [hi])).trans (if_neg (by omega))
  split_ifs at e with h1 h0
  · have hs := atHead_svState (st := 0) (by decide) h (put (F.SV_CTRL_EN h) en s)
    exact completes_of_exec e ⟨(hs.get (hsv _ (by simp))).trans hen0, fun _ => get_svState_self (by decide) hh _, fun h2 _ => by omega,
      (hput.trans (hs.mono (List.subset_append_right ..))).within⟩
  · exact completes_of_exec e ⟨hen0, fun h => absurd h h1, fun h2 h9 => by omega, hput.within⟩
  · have hs := atHead_retractHead h 0 (put (F.SV_CTRL_EN h) en s)
    refine completes_of_exec e ⟨(hs.get hretract).trans hen0, fun h => absurd h h1, fun h2 h9 => ⟨?_, by rw [servoOf_updServo]⟩,
      ((hput.trans (hs.mono ?_)).thenUpd _).within⟩
    · rw [updServo, get_updHead]
      by_cases h9' : Machine.get s (F.SV_STATUS_STATE h) = 9
      · have hstay : retractHead h 0 (put (F.SV_CTRL_EN h) en s) = put (F.SV_CTRL_EN h) en s := if_pos (by omega)
        rw [hstay, hst, h9']
      · exact get_retractHead_state (lensOut_of_state (by omega) (by omega)) hh
    · intro f hf
      simp [retractFields] at hf ⊢
      tauto

theorem completes_svClrCnt (hi : headInst s h = true) :
    Completes (.svClrCnt h) s fun t =>
      (∀ f ∈ svCounterFields h, Machine.get t f = 0) ∧ servoOf t h = { servoOf s h with errs := [] } ∧ WithinHead h s t (svCounterFields h) := by
  obtain ⟨-, -, -, -, hn⟩ := svOps_apart h (headInst_lt hi)
  have e : exec (.svClrCnt h) s = .next (updServo h (fun v => { v with errs := [] }) (clearAll (svCounterFields h) s)) := if_neg (by simp [hi])
  have hclear := within_clearAll (svCounterFields h) s
  refine completes_of_exec e ⟨fun f hf => ?_, ?_, (AtHead.thenUpd (atHead_of_within hclear) _).within⟩
  · rw [updServo, get_updHead]
    exact get_clearAll hn hf s
  · rw [servoOf_updServo, servoOf, getHead_of_inner hclear.1]
    rfl

end ops

/-- Settles O10: every accepted command is one state of the servo, whose registers and inner state its operations give. -/
theorem servoCommands : Obligations.ServoCommands := by
  unfold Obligations.ServoCommands
  exact ⟨fun _ _ _ _ ho hw => completes_seek ho hw, fun _ _ _ _ _ ho hw hne => completes_holdBand ho hw hne,
    fun _ _ _ _ _ hi h5 hw hn hl hb => completes_holdBand_there hi h5 hw hn hl hb, fun _ _ _ _ ho hw => completes_enter ho hw,
    fun _ _ _ _ _ _ ho h1 h5 hop => completes_deferred ho h1 h5 hop, fun _ _ hi h2 h8 => completes_svFollow hi h2 h8,
    fun _ _ _ _ hi h1 hok => completes_pullin hi h1 hok, fun _ _ hi h2 h8 => completes_retract hi h2 h8,
    fun _ _ _ hi h6 h7 => completes_svCmdErr hi h6 h7, fun _ _ _ hi hen => completes_svEnable_on hi hen,
    fun _ _ _ hi hen => completes_svEnable_off hi hen, fun _ _ hi => completes_svClrCnt hi⟩

end Sys2Proof.Proofs
end

section
/-! SUPPORT. The clauses of O11 on landings, failed seeks, jumps and captures (R178, R180, R187, R189, R191, R193). -/

namespace Sys2Proof.Proofs

open Sys2Proof.Machine Sys2Proof.Laws

/-! ### Registers apart -/

theorem svMove_apart : ∀ h < 64,
    (∀ f ∈ [F.SV_SEEK_FAIL h, F.SV_POS_LAYER h, F.SV_LAYER_JUMPS h, F.SV_RETRACTS h, F.SV_POS_CONFIRMED h, F.SV_CTRL_EN h]
      ++ svAnswerFields h, f.key ∉ (svFields h).map Fld.key) ∧
    (∀ f ∈ svAnswerFields h, f.key ∉ (F.SV_SEEK_FAIL h :: evFields (evSV h)).map Fld.key) ∧
    (F.SV_SEEK_FAIL h).key ∉ (svCmdFields h ++ evFields (evSV h)).map Fld.key ∧
    (F.SV_LAYER_JUMPS h).key ≠ (F.SV_POS_LAYER h).key ∧
    (F.SV_RETRACTS h).key ∉ (F.SV_STATUS_BAND_HOLD h :: svCmdFields h).map Fld.key ∧
    (F.SV_RETRACTS h).key ∉ (svSideFields h).map Fld.key ∧
    (F.SV_STATUS_STATE h).key ∉ (F.SV_RETRACTS h :: F.SV_STATUS_BAND_HOLD h :: svCmdFields h).map Fld.key ∧
    (F.SV_RETRACTS h).key ∉ [F.SV_STATUS_STATE h, F.SV_STATUS_DEFECT h].map Fld.key ∧
    (∀ f ∈ [F.SV_STATUS_STATE h, F.SV_RETRACTS h], f.key ∉ (evFields (evSV h)).map Fld.key) := by decide +kernel

section landing
variable {h : Nat} {s : State}

theorem completes_seekTargetCrossing (hi : headInst s h = true) (h6 : Machine.get s (F.SV_STATUS_STATE h) = 6)
    (hl : (servoOf s h).landed = false) (hm : (servoOf s h).mode ≠ 0) (hr : (servoOf s h).remain = 0) :
    Completes (.seekTargetCrossing h) s fun t =>
      servoOf t h = { servoOf s h with landed := true, landAt := tick s } ∧ chanOf t h = { chanOf s h with bands := [] } ∧
      WithinHead h s t [] := by
  have e : exec (.seekTargetCrossing h) s = .next (updHead h (fun (x : Head) =>
      { x with ch := { x.ch with bands := [] }, sv := { x.sv with landed := true, landAt := tick s } }) s) :=
    if_neg (by simp [hi, h6, hl, hm, hr])
  refine completes_of_exec e ⟨?_, ?_, (atHead_updHead h _ s []).within⟩
  · rw [servoOf, getHead_updHead_same]
    rfl
  · rw [chanOf, getHead_updHead_same]
    rfl

/-! ### A seek that fails -/

/-- What a failed seek holds no more (R187). -/
def seekDropped (v : Servo) : Servo :=
  { v with target := none, landed := false, mode := 0, remain := 0, entering := false, seeking := false, corr := 0 }

theorem seekFailed_eq (h : Nat) (s : State) : seekFailed h s
    = svState h 4 (raise (evSV h) B.SV_EVT_SEEK_FAIL (bump (F.SV_SEEK_FAIL h) 1 (updServo h seekDropped (svResult h 1 s)))) := rfl

theorem servo_seekFailed (h : Nat) (s : State) : (servoOf (seekFailed h s) h).target = none ∧ (servoOf (seekFailed h s) h).seeking = false := by
  have hcore : svCore (servoOf (seekFailed h s) h) = svCore (seekDropped (servoOf s h)) := by
    rw [seekFailed_eq, svCore_svState (by decide), servoOf, getHead_raise, getHead_bump, ← servoOf, servoOf_updServo, servoOf, getHead_svResult, servoOf]
  have hread {v w : Servo} (k : svCore v = svCore w) : v.target = w.target ∧ v.seeking = w.seeking :=
    ⟨congrArg (·.target) k, congrArg (·.seeking) k⟩
  exact hread hcore

theorem get_seekFailed (hh : h < 64) (s : State) :
    Machine.get (seekFailed h s) (F.SV_STATUS_STATE h) = 4 ∧
    Machine.get (seekFailed h s) (F.SV_SEEK_FAIL h) = trunc 32 (satAdd 32 (Machine.get s (F.SV_SEEK_FAIL h)) 1) ∧
    ∀ f ∈ svAnswerFields h, Machine.get (seekFailed h s) f = Machine.get (svResult h 1 s) f := by
  obtain ⟨hsv, hanswer, hfail, -⟩ := svMove_apart h hh
  rw [seekFailed_eq]
  refine ⟨get_svState_self (by decide) hh _, ?_, fun f hf => ?_⟩
  · simp only [List.map_append, List.mem_append, not_or] at hfail
    rw [get_svState_ne (by decide) (hsv _ (by simp)),
      (atHead_raise (h := h) (fs := evFields (evSV h)) (by simp [evFields]) (by simp [evFields])).get hfail.2, get_bump_same, updServo, get_updHead,
      (atHead_svResult h 1 s).get hfail.1]
    rfl
  · have hcount : AtHead h (updServo h seekDropped (svResult h 1 s))
        (raise (evSV h) B.SV_EVT_SEEK_FAIL (bump (F.SV_SEEK_FAIL h) 1 (updServo h seekDropped (svResult h 1 s))))
        (F.SV_SEEK_FAIL h :: evFields (evSV h)) :=
      AtHead.thenRaise (AtHead.thenPut (AtHead.refl h _ _) (by simp)) (by simp [evFields]) (by simp [evFields])
    rw [get_svState_ne (by decide) (hsv f (List.mem_append_right _ hf)), hcount.get (hanswer f hf), updServo, get_updHead]

theorem raised_seekFailed (hh : h < 64) (s : State) : Raised (seekFailed h s) (evSV h) B.SV_EVT_SEEK_FAIL := by
  rw [seekFailed_eq]
  exact raised_svState (by decide) hh (by decide) (raised_raise headEv_sv (by decide))

theorem completes_seekFail (hi : headInst s h = true) (hk : (servoOf s h).seeking = true) (ht : (servoOf s h).seekAt + 20480 ≤ tick s)
    (hst : Machine.get s (F.SV_STATUS_STATE h) ∈ [3, 4, 6, 7]) :
    Completes (.seekFail h) s fun t =>
      Machine.get t (F.SV_STATUS_STATE h) = 4 ∧ Machine.get t (F.SV_SEEK_FAIL h) = trunc 32 (satAdd 32 (Machine.get s (F.SV_SEEK_FAIL h)) 1) ∧
      Raised t (evSV h) B.SV_EVT_SEEK_FAIL ∧ (servoOf t h).target = none ∧ (servoOf t h).seeking = false ∧
      (Machine.get s (F.SV_CMD_STATUS_BUSY h) = 1 → Machine.get t (F.SV_CMD_STATUS_BUSY h) = 0 ∧ Machine.get t (F.SV_CMD_STATUS_RESULT h) = 1) ∧
      WithinHead h s t (F.SV_SEEK_FAIL h :: svCmdFields h ++ svFields h) := by
  have hh := headInst_lt hi
  obtain ⟨hstate, hcount, hanswer⟩ := get_seekFailed hh s
  obtain ⟨htarget, hseeking⟩ := servo_seekFailed h s
  have e : exec (.seekFail h) s = .next (seekFailed h s) := if_neg (by
    simp only [List.mem_cons, List.not_mem_nil, or_false] at hst
    rw [hi, hk]
    simp
    omega)
  refine completes_of_exec e ⟨hstate, hcount, raised_seekFailed hh s, htarget, hseeking, fun hb => ?_, (atHead_seekFailed h s).within⟩
  obtain ⟨hbusy, hresult⟩ := get_svResult (r := 1) hh hb
  exact ⟨(hanswer _ (by simp [svAnswerFields])).trans hbusy, (hanswer _ (by simp [svAnswerFields])).trans hresult⟩

/-! ### Focus closes -/

/-- The measurement of TE_PP starts afresh (R182). -/
def focusClosed (at_ : Nat) (v : Servo) : Servo :=
  { v with teCount := 0, teHi := v.teN, teLo := v.teN, teLast := at_, trkHit := false, capHit := false }

theorem enterFocused_eq (h : Nat) (s : State) : enterFocused h s = svState h 3 (updServo h (focusClosed (tick s)) s) := rfl

theorem enterFocused_spec (hh : h < 64) (s : State) :
    Machine.get (enterFocused h s) (F.SV_STATUS_STATE h) = 3 ∧ (servoOf (enterFocused h s) h).teCount = 0 ∧
    (servoOf (enterFocused h s) h).trkHit = false ∧ (servoOf (enterFocused h s) h).openRange = (servoOf s h).openRange := by
  have hcore : svCore (servoOf (enterFocused h s) h) = svCore (focusClosed (tick s) (servoOf s h)) := by
    rw [enterFocused_eq, svCore_svState (by decide), servoOf_updServo]
  have hread {v w : Servo} (k : svCore v = svCore w) : v.teCount = w.teCount ∧ v.trkHit = w.trkHit ∧ v.openRange = w.openRange :=
    ⟨congrArg (·.teCount) k, congrArg (·.trkHit) k, congrArg (·.openRange) k⟩
  refine ⟨?_, hread hcore⟩
  rw [enterFocused_eq]
  exact get_svState_self (by decide) hh _

theorem atHead_enterFocused (h : Nat) (s : State) : AtHead h s (enterFocused h s) (svFields h) :=
  (AtHead.thenServo (AtHead.refl h s _) _).trans (atHead_svState (by decide) h _)

theorem completes_layerJumpFocusClose (hi : headInst s h = true) (h7 : Machine.get s (F.SV_STATUS_STATE h) = 7)
    (hc : jumpLayers s h ≤ (servoOf s h).cross) :
    Completes (.layerJumpFocusClose h) s fun t =>
      Machine.get t (F.SV_STATUS_STATE h) = 3 ∧ Machine.get t (F.SV_POS_LAYER h) = trunc 4 (servoOf s h).jumpTo ∧
      Machine.get t (F.SV_LAYER_JUMPS h) = trunc 32 (satAdd 32 (Machine.get s (F.SV_LAYER_JUMPS h)) 1) ∧ (servoOf t h).teCount = 0 ∧
      WithinHead h s t ([F.SV_POS_LAYER h, F.SV_LAYER_JUMPS h] ++ svFields h) := by
  have hh := headInst_lt hi
  obtain ⟨hsv, -, -, hne, -⟩ := svMove_apart h hh
  have hfocus := atHead_enterFocused h (bump (F.SV_LAYER_JUMPS h) 1 (put (F.SV_POS_LAYER h) (servoOf s h).jumpTo s))
  obtain ⟨hstate, hcount, -⟩ := enterFocused_spec hh (bump (F.SV_LAYER_JUMPS h) 1 (put (F.SV_POS_LAYER h) (servoOf s h).jumpTo s))
  have e : exec (.layerJumpFocusClose h) s = .next (enterFocused h (bump (F.SV_LAYER_JUMPS h) 1 (put (F.SV_POS_LAYER h) (servoOf s h).jumpTo s))) :=
    if_neg (by simp [hi, h7, hc])
  refine completes_of_exec e ⟨hstate, ?_, ?_, hcount, (AtHead.trans (AtHead.thenPut (atHead_put (by simp)) (by simp))
    (hfocus.mono (List.subset_append_right ..))).within⟩
  · rw [hfocus.get (hsv _ (by simp)), get_bump_ne hne.symm, get_put_same]
    rfl
  · rw [hfocus.get (hsv _ (by simp)), get_bump_same, get_put_ne _ _ _ _ hne]
    rfl

theorem completes_focusCapture (hi : headInst s h = true) (h2 : Machine.get s (F.SV_STATUS_STATE h) = 2) (hc : (servoOf s h).capHit = true)
    (hl : ((servoOf s h).calSweep = false ∧ (servoOf s h).captures = (servoOf s h).jumpTo + 1) ∨
      ((servoOf s h).calSweep = true ∧ 12 < (servoOf s h).captures ∧ (servoOf s h).captures + (servoOf s h).jumpTo = 24)) :
    Completes (.focusCapture h) s fun t =>
      Machine.get t (F.SV_STATUS_STATE h) = 3 ∧ Machine.get t (F.SV_POS_LAYER h) = trunc 4 (servoOf s h).jumpTo ∧
      (servoOf t h).teCount = 0 ∧ (servoOf t h).trkHit = false ∧ WithinHead h s t (F.SV_POS_LAYER h :: svFields h) := by
  have hh := headInst_lt hi
  obtain ⟨hsv, -⟩ := svMove_apart h hh
  have hfocus := atHead_enterFocused h (put (F.SV_POS_LAYER h) (servoOf s h).jumpTo s)
  obtain ⟨hstate, hcount, htrk, -⟩ := enterFocused_spec hh (put (F.SV_POS_LAYER h) (servoOf s h).jumpTo s)
  have hclose : ((servoOf s h).capHit && (if (servoOf s h).calSweep then decide (12 < (servoOf s h).captures) &&
      decide ((servoOf s h).captures + (servoOf s h).jumpTo = 24) else decide ((servoOf s h).captures = (servoOf s h).jumpTo + 1))) = true := by
    rcases hl with ⟨hcal, hn⟩ | ⟨hcal, h12, hn⟩
    · simp [hc, hcal, hn]
    · simp [hc, hcal, h12, hn]
  have e : exec (.focusCapture h) s = .next (enterFocused h (put (F.SV_POS_LAYER h) (servoOf s h).jumpTo s)) := if_neg (by
    rw [hclose]
    simp [hi, h2])
  refine completes_of_exec e ⟨hstate, ?_, hcount, htrk, (AtHead.trans (atHead_put (by simp)) (hfocus.mono (List.subset_cons_self ..))).within⟩
  rw [hfocus.get (hsv _ (by simp)), get_put_same]
  rfl

/-! ### Lens range -/

/-- Tracking opens for the lens range (R193). -/
def rangeOpened (sled : Int) (v : Servo) : Servo :=
  { v with openRange := true, landed := false, mode := 0, remain := 0, base := v.coils, sledFrom := sled }

theorem completes_lensRange (hi : headInst s h = true) (hw : 32 * Machine.get s (F.SV_SLED_SLED_WARN h) < (getI s (F.SV_LENS h)).natAbs) :
    Completes (.lensRange h) s fun t =>
      Raised t (evSV h) B.SV_EVT_LENS_RANGE ∧
      (32 * Machine.get s (F.SV_SLED_LENS_MAX h) < (getI s (F.SV_LENS h)).natAbs → 4 ≤ Machine.get s (F.SV_STATUS_STATE h) →
        Machine.get s (F.SV_STATUS_STATE h) ≤ 6 → Machine.get t (F.SV_STATUS_STATE h) = 3 ∧ (servoOf t h).openRange = true) ∧
      WithinHead h s t (svFields h) := by
  have hh := headInst_lt hi
  have hraised : Raised (raise (evSV h) B.SV_EVT_LENS_RANGE s) (evSV h) B.SV_EVT_LENS_RANGE := raised_raise headEv_sv (by decide)
  have hraise : AtHead h s (raise (evSV h) B.SV_EVT_LENS_RANGE s) (svFields h) := atHead_raise (by simp [svFields, evSV]) (by simp [svFields])
  set u := updServo h (rangeOpened (axPos s (bayOf h) (h % 2))) (raise (evSV h) B.SV_EVT_LENS_RANGE s) with hu
  have e : exec (.lensRange h) s = if 32 * Machine.get s (F.SV_SLED_LENS_MAX h) < (getI s (F.SV_LENS h)).natAbs ∧
      4 ≤ Machine.get s (F.SV_STATUS_STATE h) ∧ Machine.get s (F.SV_STATUS_STATE h) ≤ 6 then .next (enterFocused h u)
      else .next (raise (evSV h) B.SV_EVT_LENS_RANGE s) := if_neg (by rw [hi]; simp; omega)
  split_ifs at e with hopen
  · obtain ⟨hstate, -, -, hrange⟩ := enterFocused_spec hh u
    refine completes_of_exec e ⟨?_, fun _ _ _ => ⟨hstate, ?_⟩, ((hraise.thenServo _).trans (atHead_enterFocused h _)).within⟩
    · rw [enterFocused_eq]
      exact raised_svState (by decide) hh (by decide) (raised_of_get (by rw [updServo, get_updHead, hu, updServo, get_updHead]) hraised)
    · rw [hrange, hu, servoOf_updServo]
      rfl
  · exact completes_of_exec e ⟨hraised, fun h1 h2 h3 => absurd ⟨h1, h2, h3⟩ hopen, hraise.within⟩

end landing

end Sys2Proof.Proofs
end

section
/-! SUPPORT. The clauses of O11 on the seam jump, the tracking capture, the pull-in's time-out and the parked lens (R178, R180, R182, R187,
R189, R195, R196). -/

namespace Sys2Proof.Proofs

open Sys2Proof.Machine Sys2Proof.Laws

/-! ### The seam jump -/

section seam
variable {h lost band : Nat} {slots : List Nat} {s : State}

/-- The head whose jumps over a short interval take turns, with the lost slot's ladder reads asked for again (R143, R189). -/
def seamHead (s : State) (h lost : Nat) (x : Head) : Head :=
  { x with
    sv := { x.sv with altSeam := !x.sv.altSeam }
    ch := { x.ch with again := x.ch.again || x.ch.sectors.any fun y => inLadder s h y && decide (addrSlot y.addr = lost) } }

/-- The state from which a seam jump seeks (R189). -/
def seamFrom (h lost : Nat) (fits : Bool) (s : State) : State :=
  if fits then s else abandonSlots h (fun o => decide (addrSlot o.addr = lost)) (updHead h (seamHead s h lost) s)

theorem seamFrom_drive (h lost : Nat) (fits : Bool) (s : State) : AtDrive h s (seamFrom h lost fits s) (abandonFields h) := by
  unfold seamFrom
  split
  · exact AtDrive.refl h s _
  · exact abandonSlots_drive (AtDrive.thenUpd (AtDrive.refl h s _) _) (List.Subset.refl _) _

theorem get_seamFrom {f : Fld} (hh : h < 64) (hf : f ∈ [F.SV_STATUS_STATE h, F.SV_POS_LAYER h, F.SV_POS_BAND h]) (fits : Bool) :
    Machine.get (seamFrom h lost fits s) f = Machine.get s f := by
  have hkey := (seek_apart h hh).1 f hf
  simp only [List.map_append, List.mem_append, not_or] at hkey
  exact (seamFrom_drive h lost fits s).get hkey.1.1

theorem servoOf_seamFrom (fits : Bool) : (servoOf (seamFrom h lost fits s) h).hold = (servoOf s h).hold ∧
    (servoOf (seamFrom h lost fits s) h).altSeam = if fits then (servoOf s h).altSeam else !(servoOf s h).altSeam := by
  cases fits with
  | true => exact ⟨rfl, rfl⟩
  | false =>
    have hsv : servoOf (seamFrom h lost false s) h = (seamHead s h lost (getHead s h)).sv := by
      rw [seamFrom, if_neg (by decide), servoOf, sv_abandonSlots, getHead_updHead_same]
    rw [hsv]
    exact ⟨rfl, rfl⟩

/-- With no slot open only the head's own record changes. -/
theorem atHead_seamFrom (hs : (chanOf s h).slots = []) (fits : Bool) :
    AtHead h s (seamFrom h lost fits s) (confirmFields h ++ svFields h) ∧ (chanOf (seamFrom h lost fits s) h).slots = [] := by
  cases fits with
  | true => exact ⟨AtHead.refl h s _, hs⟩
  | false =>
    have hslots : (chanOf (updHead h (seamHead s h lost) s) h).slots = [] := by
      rw [chanOf, getHead_updHead_same]
      exact hs
    rw [seamFrom, if_neg (by decide), abandonSlots_none hslots]
    exact ⟨atHead_updHead h _ s _, hslots⟩

theorem completes_seamJump {free before n pos : Nat} (hi : headInst s h = true) (hhold : (servoOf s h).hold = some (band, slots))
    (h5 : Machine.get s (F.SV_STATUS_STATE h) = 5) (hn : n = 12 + fretOf band) (hfree : free = slots.min?.getD n)
    (hbefore : before = (if slots = [] then 0 else n - 1 - slots.max?.getD 0)) (hpos : pos = Machine.get s (F.SV_POS_BAND h))
    (hat : pos = (if (if seamFits s h (free + before) then decide (free < before) else (servoOf s h).altSeam) then band else band + 1)) :
    Completes (.seamJump h) s fun t =>
      Machine.get t (F.SV_STATUS_STATE h) = 6 ∧ Machine.get t (F.SV_POS_CONFIRMED h) = 0 ∧
      (servoOf t h).target = some (pos - 1, Machine.get s (F.SV_POS_LAYER h)) ∧ (servoOf t h).hold = some (band, slots) ∧
      (servoOf t h).altSeam = (if seamFits s h (free + before) then (servoOf s h).altSeam else !(servoOf s h).altSeam) ∧
      ((chanOf s h).slots = [] → WithinHead h s t (confirmFields h ++ svFields h)) := by
  have hh := headInst_lt hi
  subst hn hfree hbefore hpos
  set fits := seamFits s h (slots.min?.getD (12 + fretOf band) + (if slots = [] then 0 else 12 + fretOf band - 1 - slots.max?.getD 0)) with hfits
  set early := (if fits = true then decide (slots.min?.getD (12 + fretOf band) < (if slots = [] then 0 else 12 + fretOf band - 1
    - slots.max?.getD 0)) else (servoOf s h).altSeam) with hearly
  set u := seamFrom h (if early then slots.max?.getD 0 else slots.min?.getD (12 + fretOf band)) fits s with hu
  have e : exec (.seamJump h) s = .next (startSeek h (Machine.get s (F.SV_POS_BAND h) - 1) (Machine.get s (F.SV_POS_LAYER h)) u) := by
    change execSeamJump h s = _
    rw [execSeamJump, hhold]
    refine (if_neg ?_).trans rfl
    rintro (hg | hg | hg)
    · exact absurd (hi.symm.trans hg) (by decide)
    · exact hg h5
    · exact hg hat
  have hstate : Machine.get u (F.SV_STATUS_STATE h) = 5 := (get_seamFrom hh (by simp) fits).trans h5
  have hlayer : Machine.get u (F.SV_POS_LAYER h) = Machine.get s (F.SV_POS_LAYER h) := get_seamFrom hh (by simp) fits
  have hband : Machine.get u (F.SV_POS_BAND h) = Machine.get s (F.SV_POS_BAND h) := get_seamFrom hh (by simp) fits
  obtain ⟨hheld, halt⟩ := servoOf_seamFrom (h := h) (s := s) (lost := if early then slots.max?.getD 0 else slots.min?.getD (12 + fretOf band)) fits
  have hsought := startSeek_spec hh (Machine.get s (F.SV_POS_BAND h) - 1) (Machine.get s (F.SV_POS_LAYER h)) u
  refine completes_of_exec e ⟨?_, hsought.unconfirmed, hsought.target, hsought.hold.trans (hheld.trans hhold), hsought.side.trans halt, fun hs => ?_⟩
  · rw [hsought.state, hstate, hlayer, if_neg (by decide), if_pos rfl]
  · obtain ⟨hfrom, hslots⟩ := atHead_seamFrom (lost := if early then slots.max?.getD 0 else slots.min?.getD (12 + fretOf band)) hs fits
    exact (hfrom.trans (atHead_startSeek_near hh hlayer.symm hslots (by rw [hband]; omega))).within

end seam

/-! ### The tracking capture -/

section track
variable {h : Nat} {s : State}

/-- Tracking and tilt close (R182, R193). -/
def trackClosed (v : Servo) : Servo := { v with pullFail := 0, openRange := false, held := 0 }

/-- The state in which tracking has closed. -/
def tracked (h : Nat) (s : State) : State := svState h 4 (updServo h trackClosed s)

theorem tracked_spec (hh : h < 64) (s : State) : Machine.get (tracked h s) (F.SV_STATUS_STATE h) = 4 ∧
    (servoOf (tracked h s) h).pullFail = 0 ∧ (servoOf (tracked h s) h).openRange = false ∧ (servoOf (tracked h s) h).held = 0 := by
  have hcore : svCore (servoOf (tracked h s) h) = svCore (trackClosed (servoOf s h)) := by
    rw [tracked, svCore_svState (by decide), servoOf_updServo]
  have hread {v w : Servo} (k : svCore v = svCore w) : v.pullFail = w.pullFail ∧ v.openRange = w.openRange ∧ v.held = w.held :=
    ⟨congrArg (·.pullFail) k, congrArg (·.openRange) k, congrArg (·.held) k⟩
  exact ⟨get_svState_self (by decide) hh _, hread hcore⟩

theorem atHead_tracked (h : Nat) (s : State) : AtHead h s (tracked h s) (svFields h) :=
  (AtHead.thenServo (AtHead.refl h s _) _).trans (atHead_svState (by decide) h _)

/-- A radial move keeps the loops as they are. -/
theorem startRadial_loops (hh : h < 64) (s : State) : (servoOf (startRadial h s) h).pullFail = (servoOf s h).pullFail ∧
    (servoOf (startRadial h s) h).openRange = (servoOf s h).openRange ∧ (servoOf (startRadial h s) h).held = (servoOf s h).held := by
  have hread {v w : Servo} (k : moveCore v = moveCore (radialMove s h w)) : v.pullFail = w.pullFail ∧ v.openRange = w.openRange ∧ v.held = w.held :=
    ⟨congrArg (·.pullFail) k, congrArg (·.openRange) k, congrArg (·.held) k⟩
  exact hread (startRadial_spec hh s).2.1

/-- Whether a seek under way has a band other than the present one as its target. -/
def seekOn (v : Servo) (pos : Nat) : Bool := v.seeking && v.target.any fun p => decide (p.1 ≠ pos)

theorem exec_trackingCapture (hi : headInst s h = true) (h3 : Machine.get s (F.SV_STATUS_STATE h) = 3) (hk : (servoOf s h).trkHit = true)
    (hr : (servoOf s h).openRange = true → (getI s (F.SV_LENS h)).natAbs ≤ 32 * Machine.get s (F.SV_SLED_SLED_WARN h)) :
    exec (.trackingCapture h) s = .next (if seekOn (servoOf s h) (Machine.get s (F.SV_POS_BAND h)) = true then startRadial h (tracked h s)
      else tracked h s) := by
  have hguard : ¬(headInst s h = false ∨ Machine.get s (F.SV_STATUS_STATE h) ≠ 3 ∨ (servoOf s h).trkHit = false
      ∨ ((servoOf s h).openRange = true ∧ 32 * Machine.get s (F.SV_SLED_SLED_WARN h) < (getI s (F.SV_LENS h)).natAbs)) := by
    rw [hi, h3, hk]
    simp only [Bool.true_eq_false, ne_eq, not_true, false_or, not_and, not_lt]
    exact hr
  change execTrackingCapture h s = _
  unfold execTrackingCapture
  dsimp only
  rw [if_neg hguard]
  cases ht : (servoOf s h).target with
  | none => rw [if_neg (by simp [seekOn, ht])]; rfl
  | some p =>
    obtain ⟨b, l⟩ := p
    have hon : seekOn (servoOf s h) (Machine.get s (F.SV_POS_BAND h)) = true ↔
        (servoOf s h).seeking = true ∧ b ≠ Machine.get s (F.SV_POS_BAND h) := by simp [seekOn, ht]
    by_cases hb : seekOn (servoOf s h) (Machine.get s (F.SV_POS_BAND h)) = true
    · rw [if_pos hb]
      exact if_pos (hon.1 hb)
    · rw [if_neg hb]
      exact if_neg fun hg => hb (hon.2 hg)

theorem completes_trackingCapture (hi : headInst s h = true) (h3 : Machine.get s (F.SV_STATUS_STATE h) = 3) (hk : (servoOf s h).trkHit = true)
    (hr : (servoOf s h).openRange = true → (getI s (F.SV_LENS h)).natAbs ≤ 32 * Machine.get s (F.SV_SLED_SLED_WARN h)) :
    Completes (.trackingCapture h) s fun t =>
      (servoOf t h).pullFail = 0 ∧ (servoOf t h).openRange = false ∧ (servoOf t h).held = 0 ∧
      ((servoOf s h).seeking = false ∨ (servoOf s h).target = none → Machine.get t (F.SV_STATUS_STATE h) = 4 ∧ WithinHead h s t (svFields h)) ∧
      (∀ b, (servoOf s h).seeking = true → (servoOf s h).target = some (b, Machine.get s (F.SV_POS_LAYER h)) → b ≠ Machine.get s (F.SV_POS_BAND h) →
        Machine.get t (F.SV_STATUS_STATE h) = 6) := by
  have hh := headInst_lt hi
  have e := exec_trackingCapture hi h3 hk hr
  obtain ⟨hstate, hloops⟩ := tracked_spec hh s
  split_ifs at e with hmove
  · obtain ⟨hst, -, -⟩ := startRadial_spec hh (tracked h s)
    obtain ⟨hpull, hrange, hheld⟩ := startRadial_loops hh (tracked h s)
    obtain ⟨hpull', hrange', hheld'⟩ := hloops
    refine completes_of_exec e ⟨hpull.trans hpull', hrange.trans hrange', hheld.trans hheld', fun hno => ?_, fun _ _ _ _ => ?_⟩
    · rcases hno with hno | hno
      · simp [seekOn, hno] at hmove
      · simp [seekOn, hno] at hmove
    · rw [hst, hstate, if_neg (by decide)]
  · obtain ⟨hpull', hrange', hheld'⟩ := hloops
    exact completes_of_exec e ⟨hpull', hrange', hheld', fun _ => ⟨hstate, (atHead_tracked h s).within⟩,
      fun b hseek htarget hne => absurd (by simp [seekOn, hseek, htarget, hne]) hmove⟩

end track

/-! ### The pull-in's time-out -/

section timeout
variable {h st : Nat} {s : State} {f : Fld}

/-- The disc that a failure counts against is in the library alone (R321). -/
theorem noteHeadFailure_shape (h : Nat) (s : State) : ∃ l, noteHeadFailure h s = { s with lib := l } ∧ (discOfHead s h = none → l = s.lib) := by
  unfold noteHeadFailure
  split
  next hd => exact ⟨s.lib, rfl, fun _ => rfl⟩
  next d hd => exact ⟨_, rfl, fun hno => absurd (hd.symm.trans hno) (by simp)⟩

/-- The entry of FAILED counts against the disc (R178, R321). -/
theorem svState_failed (hst : Machine.get s (F.SV_STATUS_STATE h) ≠ 10) :
    svState h 10 s = permits h (raise (evSV h) B.SV_EVT_STATE_CHANGE (noteHeadFailure h (svMoved h 10 s))) := by
  have h5 : ¬((10 : Nat) = 5 ∧ Machine.get s (F.SV_STATUS_STATE h) ≠ 5) := by simp
  simp only [svState, svMoved, h5, hst, if_false, if_true, true_and, ne_eq, not_false_eq_true]

theorem headCore_svState_failed (hst : Machine.get s (F.SV_STATUS_STATE h) ≠ 10) :
    headCore (getHead (svState h 10 s) h) = headCore (getHead s h) := by
  obtain ⟨l, e, -⟩ := noteHeadFailure_shape h (svMoved h 10 s)
  rw [svState_failed hst, getHead_permits, getHead_raise, e]
  exact headCore_svMoved h 10 s

theorem get_svState_failed (hst : Machine.get s (F.SV_STATUS_STATE h) ≠ 10) (hf : f.key ∉ (svSideFields h).map Fld.key) :
    Machine.get (svState h 10 s) f = Machine.get (put (F.SV_STATUS_DEFECT h) 0 (put (F.SV_STATUS_STATE h) 10 s)) f := by
  obtain ⟨l, e, -⟩ := noteHeadFailure_shape h (svMoved h 10 s)
  rw [svState_failed hst, ((atHead_permits h _).mono (List.subset_append_left ..)).get hf,
    (atHead_raise (h := h) (fs := svSideFields h) (by simp [svSideFields, evSV]) (by simp [svSideFields])).get hf, e]
  exact get_svMoved h 10 s f

/-- Without a disc under the head FAILED is entered like any other state. -/
theorem atHead_svState_failed (hst : Machine.get s (F.SV_STATUS_STATE h) ≠ 10) (hd : discOfHead s h = none) :
    AtHead h s (svState h 10 s) (svFields h) := by
  have hmoved := atHead_svMoved h 10 s
  obtain ⟨l, e, hl⟩ := noteHeadFailure_shape h (svMoved h 10 s)
  obtain ⟨r, g, hs, hshape⟩ := hmoved.shape
  have hlib : (svMoved h 10 s).lib = s.lib := by rw [hshape]
  have hsame : noteHeadFailure h (svMoved h 10 s) = svMoved h 10 s := by
    rw [e, hl (by rw [discOfHead, hlib]; exact hd)]
  rw [svState_failed hst, hsame]
  exact (hmoved.thenRaise (by simp [svFields, evSV]) (by simp [svFields])).trans
    ((atHead_permits h _).mono (permits_subset_sv h))

/-- A failed pull-in (R180). -/
def pullFailed (x : Head) : Head :=
  { x with
    sv := { x.sv with pullFail := x.sv.pullFail + 1, why := 3, held := 7, base := x.sv.coils, seeking := false, hold := none }
    wr := { x.wr with closeReq := true } }

/-- A failed pull-in before the state it leads to. -/
def pullCounted (h : Nat) (s : State) : State := bump (F.SV_RETRACTS h) 1 (put (F.SV_STATUS_BAND_HOLD h) 0 (updHead h pullFailed s))

theorem atHead_pullCounted (h : Nat) (s : State) : AtHead h s (pullCounted h s) [F.SV_RETRACTS h, F.SV_STATUS_BAND_HOLD h] :=
  AtHead.thenPut (AtHead.thenPut (AtHead.thenUpd (AtHead.refl h s _) _) (by simp)) (by simp)

theorem getHead_pullCounted (h : Nat) (s : State) : getHead (pullCounted h s) h = pullFailed (getHead s h) := by
  rw [pullCounted, getHead_bump, getHead_put, getHead_updHead_same]

theorem get_pullCounted (hh : h < 64) (s : State) :
    Machine.get (pullCounted h s) (F.SV_RETRACTS h) = trunc 32 (satAdd 32 (Machine.get s (F.SV_RETRACTS h)) 1) ∧
    Machine.get (pullCounted h s) (F.SV_STATUS_STATE h) = Machine.get s (F.SV_STATUS_STATE h) := by
  obtain ⟨-, -, -, -, hretracts, -, hstate, -⟩ := svMove_apart h hh
  simp only [List.map_cons, List.mem_cons, not_or] at hretracts hstate
  obtain ⟨h1, h2, -⟩ := hstate
  refine ⟨?_, ?_⟩
  · rw [pullCounted, get_bump_same, get_put_ne _ _ _ _ hretracts.1, get_updHead]
    rfl
  · rw [pullCounted, get_bump_ne h1, get_put_ne _ _ _ _ h2, get_updHead]

/-- The failed pull-in as the servo's record keeps it. -/
theorem pullFailed_reads {t : State} (k : headCore (getHead t h) = headCore (pullFailed (getHead s h))) :
    (servoOf t h).pullFail = (servoOf s h).pullFail + 1 ∧ (servoOf t h).why = 3 := by
  have hread {x y : Head} (k : headCore x = headCore y) : x.sv.pullFail = y.sv.pullFail ∧ x.sv.why = y.sv.why :=
    ⟨congrArg (·.sv.pullFail) k, congrArg (·.sv.why) k⟩
  exact hread k

theorem completes_pullTimeout (hi : headInst s h = true)
    (hst : Machine.get s (F.SV_STATUS_STATE h) = 2 ∨ Machine.get s (F.SV_STATUS_STATE h) = 3)
    (ht : 160000000 * Machine.get s (F.SV_PULLIN_PULL_TIMEOUT h) ≤ 390625 * (tick s - (servoOf s h).since)) :
    Completes (.pullTimeout h) s fun t =>
      Machine.get t (F.SV_STATUS_STATE h) = (if (servoOf s h).pullFail = 0 then 9 else 10) ∧
      ((servoOf s h).pullFail ≠ 0 → Raised t (evSV h) B.SV_EVT_FOCUS_FAIL) ∧
      (servoOf t h).pullFail = (servoOf s h).pullFail + 1 ∧ (servoOf t h).why = 3 ∧
      Machine.get t (F.SV_RETRACTS h) = trunc 32 (satAdd 32 (Machine.get s (F.SV_RETRACTS h)) 1) ∧
      ((servoOf s h).pullFail = 0 ∨ discOfHead s h = none →
        WithinHead h s t ([F.SV_RETRACTS h, F.SV_STATUS_BAND_HOLD h] ++ svCmdFields h ++ svFields h)) := by
  have hh := headInst_lt hi
  obtain ⟨hsv, -, -, -, hretracts, hside, hstate, hmoved, hev⟩ := svMove_apart h hh
  obtain ⟨hcount, hsame⟩ := get_pullCounted hh s
  have hcounted := (atHead_pullCounted h s).mono (gs := [F.SV_RETRACTS h, F.SV_STATUS_BAND_HOLD h] ++ svCmdFields h ++ svFields h) (by simp)
  have e : exec (.pullTimeout h) s = if (servoOf s h).pullFail = 0 then .next (svState h 9 (pullCounted h s))
      else .next (raise (evSV h) B.SV_EVT_FOCUS_FAIL (svState h 10 (svResult h 4 (pullCounted h s)))) :=
    if_neg (by rw [hi]; simp; omega)
  split_ifs at e with h0
  · have hs := atHead_svState (st := 9) (by decide) h (pullCounted h s)
    obtain ⟨hpull, hwhy⟩ := pullFailed_reads (t := svState h 9 (pullCounted h s)) (s := s)
      (by rw [headCore_svState (by decide), getHead_pullCounted])
    exact completes_of_exec e ⟨by rw [if_pos h0]; exact get_svState_self (by decide) hh _, fun hne => absurd h0 hne, hpull, hwhy,
      (hs.get (hsv _ (by simp))).trans hcount, fun _ => (hcounted.trans (hs.mono (List.subset_append_right ..))).within⟩
  · set u := svResult h 4 (pullCounted h s) with hu
    have hanswer : AtHead h (pullCounted h s) u (svCmdFields h) := atHead_svResult h 4 _
    simp only [List.map_cons, List.mem_cons, not_or] at hretracts hstate
    have hstu : Machine.get u (F.SV_STATUS_STATE h) = Machine.get s (F.SV_STATUS_STATE h) := (hanswer.get hstate.2.2).trans hsame
    have h10 : Machine.get u (F.SV_STATUS_STATE h) ≠ 10 := by omega
    have hraise {f : Fld} (hf : f ∈ [F.SV_STATUS_STATE h, F.SV_RETRACTS h]) :
        Machine.get (raise (evSV h) B.SV_EVT_FOCUS_FAIL (svState h 10 u)) f = Machine.get (svState h 10 u) f :=
      (atHead_raise (h := h) (fs := evFields (evSV h)) (by simp [evFields]) (by simp [evFields])).get (hev f hf)
    obtain ⟨hpull, hwhy⟩ := pullFailed_reads (t := raise (evSV h) B.SV_EVT_FOCUS_FAIL (svState h 10 u)) (s := s)
      (by rw [getHead_raise, headCore_svState_failed h10, hu, getHead_svResult, getHead_pullCounted])
    refine completes_of_exec e ⟨?_, fun _ => raised_raise headEv_sv (by decide), hpull, hwhy, ?_, fun hno => ?_⟩
    · rw [if_neg h0, hraise (by simp), get_svState_failed h10 (svSide_apart h hh _ (by simp)),
        get_put_ne _ _ _ _ (by simp [Fld.key, F.SV_STATUS_STATE, F.SV_STATUS_DEFECT]), get_put_same]
      rfl
    · simp only [List.map_cons, List.mem_cons, not_or] at hmoved
      rw [hraise (by simp), get_svState_failed h10 hside, get_put_ne _ _ _ _ hmoved.2.1, get_put_ne _ _ _ _ hmoved.1, hanswer.get hretracts.2, hcount]
    · have hdisc : discOfHead u h = none := by
        obtain ⟨r, g, hs, hshape⟩ := ((atHead_pullCounted h s).mono (gs := [F.SV_RETRACTS h, F.SV_STATUS_BAND_HOLD h] ++ svCmdFields h) (by simp)
          |>.trans (hanswer.mono (List.subset_append_right ..))).shape
        rw [discOfHead, hshape]
        exact hno.resolve_left h0
      refine (AtHead.thenRaise ((hcounted.trans (hanswer.mono ?_)).trans ((atHead_svState_failed h10 hdisc).mono ?_)) ?_ ?_).within
      · exact fun f hf => List.mem_append_left _ (List.mem_append_right _ hf)
      · exact List.subset_append_right ..
      · simp [svFields, evSV]
      · simp [svFields]

end timeout

end Sys2Proof.Proofs
end

section
/-! SUPPORT. The parked lens (R195, R196) and the assembly of O11. -/

namespace Sys2Proof.Proofs

open Sys2Proof.Machine Sys2Proof.Laws

theorem parking_apart : ∀ h < 64,
    (F.SV_POS_CONFIRMED h).key ∉ (svFields h ++ resultFields h ++ [F.HL_CTRL_EN h] ++ (linkFields h ++ linkSideFields h)).map Fld.key ∧
    (evSV h).evt.key ∉ ([F.HL_CTRL_EN h] ++ linkMovedFields h ++ evFields (evHL h)).map Fld.key ∧
    (F.SV_CTRL_EN h).key ∉ (svFields h ++ resultFields h ++ confirmFields h).map Fld.key ∧
    (∀ f ∈ svAnswerFields h, f.key ∉ (confirmFields h ++ permitFields h).map Fld.key ∧ f.key ∉ (evFields (evSV h)).map Fld.key) := by
  decide +kernel

/-! ### What a parked lens reports -/

/-- A lens has parked (R195): RETRACTED is raised, the laser is off and the address is unconfirmed. -/
structure ParkReported (h : Nat) (s : State) : Prop where
  event       : Raised s (evSV h) B.SV_EVT_RETRACTED
  laser       : (linkOf s h).laser = 0
  unconfirmed : Machine.get s (F.SV_POS_CONFIRMED h) = 0

section reported
variable {h st r i : Nat} {s : State}

/-- What a servo's events keep they keep at the end of a command too. -/
theorem raised_svResult (hh : h < 64) (hs : Raised s (evSV h) i) : Raised (svResult h r s) (evSV h) i := by
  have hevt := svEvt_apart h hh
  simp only [List.map_append, List.mem_append, not_or] at hevt
  obtain ⟨⟨⟨-, hcmd⟩, -⟩, -⟩ := hevt
  exact raised_of_get ((atHead_svResult h r s).get hcmd) hs

theorem raised_svDone (hh : h < 64) (hi : i < 32) (hs : Raised s (evSV h) i) : Raised (svDone h s) (evSV h) i := by
  have hsucceeded : Raised (svSucceeded h s) (evSV h) i := raised_raise_of_raised headEv_sv hi (raised_svResult hh hs)
  obtain ⟨-, -, -, -, -, -, hevt⟩ := svCommand_apart h hh
  unfold svDone
  split
  · exact hs
  · dsimp only
    split
    · have hcounted (us : Nat) : AtHead h (svSucceeded h s) (bump (F.SV_SEEKS h) 1 (peak (F.SV_SEEK_TIME_MAX h) us
          (put (F.SV_SEEK_TIME_LAST h) us (svSucceeded h s)))) [F.SV_SEEKS h, F.SV_SEEK_TIME_MAX h, F.SV_SEEK_TIME_LAST h] :=
        AtHead.thenPut (AtHead.thenPut (AtHead.thenPut (AtHead.refl h _ _) (by simp)) (by simp)) (by simp)
      exact raised_of_get ((hcounted _).get hevt) hsucceeded
    · exact hsucceeded

/-- The loss of a head keeps the servo's events. -/
theorem raised_headLost (hh : h < 64) (hi : i < 32) (hs : Raised s (evSV h) i) : Raised (headLost h s) (evSV h) i := by
  have hevt := svEvt_apart h hh
  unfold headLost
  split
  · exact raised_raise_of_raised headEv_sv hi hs
  · refine raised_svState (by decide) hh hi (raised_of_get (get_put_ne _ _ _ _ fun e => hevt (by rw [e]; simp)) ?_)
    exact raised_raise_of_raised headEv_sv hi (raised_of_get (get_updHead ..) (raised_svResult hh hs))

theorem raised_clearConfirm (hh : h < 64) (hs : Raised s (evSV h) i) : Raised (clearConfirm h s) (evSV h) i := by
  have hevt := svEvt_apart h hh
  simp only [List.map_append, List.mem_append, not_or] at hevt
  obtain ⟨⟨⟨hpermit, -⟩, hconf⟩, -⟩ := hevt
  exact raised_of_get ((atHead_clearConfirm h s).get (by rw [List.map_append, List.mem_append, not_or]; exact ⟨hconf, hpermit⟩)) hs

theorem ParkReported.upd (k : ParkReported h s) (g : Servo → Servo) : ParkReported h (updServo h g s) :=
  ⟨raised_of_get (get_updHead ..) k.event, by rw [linkOf, getHead_updServo]; exact k.laser, (get_updHead ..).trans k.unconfirmed⟩

theorem ParkReported.state (k : ParkReported h s) (hst : st ≠ 10) (hh : h < 64) : ParkReported h (svState h st s) := by
  refine ⟨raised_svState hst hh (by decide) k.event, ?_, ?_⟩
  · rw [linkOf_svState hst]
    exact k.laser
  · exact ((atHead_svState hst h s).get ((svMove_apart h hh).1 _ (by simp))).trans k.unconfirmed

theorem ParkReported.result (k : ParkReported h s) (hh : h < 64) (r : Nat) : ParkReported h (svResult h r s) := by
  obtain ⟨hconf, -⟩ := parking_apart h hh
  simp only [resultFields, List.map_append, List.mem_append, not_or] at hconf
  obtain ⟨⟨⟨-, ⟨-, hcmd⟩, -⟩, -⟩, -⟩ := hconf
  refine ⟨raised_svResult hh k.event, ?_, ((atHead_svResult h r s).get hcmd).trans k.unconfirmed⟩
  rw [linkOf, getHead_svResult]
  exact k.laser

theorem ParkReported.done (k : ParkReported h s) (hh : h < 64) : ParkReported h (svDone h s) := by
  obtain ⟨hconf, -⟩ := parking_apart h hh
  simp only [List.map_append, List.mem_append, not_or] at hconf
  obtain ⟨⟨⟨-, hdone⟩, -⟩, -⟩ := hconf
  refine ⟨raised_svDone hh (by decide) k.event, ?_, ((atHead_svDone h s).get hdone).trans k.unconfirmed⟩
  rw [linkOf, getHead_svDone]
  exact k.laser

theorem ParkReported.leave (k : ParkReported h s) (hh : h < 64) : ParkReported h (leaveOff h s) := by
  rcases leaveOff_cases h s with e | e
  · rw [e]
    exact k
  · rw [e]
    exact k.state (by decide) hh

theorem ParkReported.sweep (k : ParkReported h s) (hh : h < 64) (layer : Nat) (cal : Bool) : ParkReported h (startSweep h layer cal s) := by
  have hclear : ParkReported h (clearConfirm h s) := by
    refine ⟨raised_clearConfirm hh k.event, ?_, get_clearConfirm hh (by simp [confirmFields]) s⟩
    rw [linkOf, getHead_clearConfirm]
    exact k.laser
  exact (hclear.upd _).state (by decide) hh

/-- A parked head's link is switched off (R444). -/
theorem ParkReported.linkOff (k : ParkReported h s) (hh : h < 64) : ParkReported h (setLink h 0 (put (F.HL_CTRL_EN h) 0 s)) := by
  obtain ⟨hconf, hevt, -⟩ := parking_apart h hh
  simp only [List.map_append, List.mem_append, not_or] at hconf hevt
  obtain ⟨⟨-, hctrl⟩, hlink⟩ := hconf
  obtain ⟨⟨hevtCtrl, hevtMoved⟩, hevtHl⟩ := hevt
  set u := put (F.HL_CTRL_EN h) 0 s with hu
  have hput : AtHead h s u [F.HL_CTRL_EN h] := atHead_put (by simp)
  have hraised : Raised (linkMoved h 0 u) (evSV h) B.SV_EVT_RETRACTED :=
    raised_of_get (((atHead_linkMoved h 0 u).get hevtMoved).trans (hput.get hevtCtrl)) k.event
  refine ⟨?_, ?_, ?_⟩
  · have hpermit : (evSV h).evt.key ∉ (permitFields h).map Fld.key := fun hx => svEvt_apart h hh (by
      simp only [List.map_append, List.mem_append]; exact .inl (.inl (.inl hx)))
    have hleft : Raised (linkLeft h 0 u) (evSV h) B.SV_EVT_RETRACTED := by
      unfold linkLeft
      split
      · exact raised_headLost hh (by decide) hraised
      · exact hraised
    rw [setLink_eq]
    refine raised_of_get ((atHead_permits h _).get hpermit) ?_
    split
    · exact hleft
    · exact raised_of_get ((atHead_raise (h := h) (fs := evFields (evHL h)) (by simp [evFields]) (by simp [evFields])).get hevtHl) hleft
  · rw [linkOf_setLink, linkEntered, if_pos (.inl (by decide)), linkCleared]
    exact k.laser
  · refine ((atHead_setLink_any h 0 u).get ?_).trans ((hput.get hctrl).trans k.unconfirmed)
    rw [List.map_append, List.mem_append, not_or]
    exact hlink

end reported

/-! ### The end of a retract -/

section complete
variable {h : Nat} {s : State}

/-- A parked head: the coils at their park values and the laser off (R195). -/
def parkedHead (x : Head) : Head :=
  { x with
    sv := { x.sv with coils := [Config.parkValue, 0, 0], offAfter := false }
    link := { x.link with laser := 0, ds := { x.link.ds with laser := 0 } } }

/-- The lens has parked. -/
def lensDown (h : Nat) (s : State) : State := raise (evSV h) B.SV_EVT_RETRACTED (clearConfirm h (updHead h parkedHead s))

/-- The lens has parked and a RETRACT has its answer (R197). -/
def parkAnswered (h : Nat) (s : State) : State := if (servoOf s h).cmdOp = 5 then svDone h (lensDown h s) else lensDown h s

theorem getHead_lensDown (h : Nat) (s : State) : (getHead (lensDown h s) h).sv = (parkedHead (getHead s h)).sv ∧
    linkOf (lensDown h s) h = (parkedHead (getHead s h)).link := by
  rw [linkOf, lensDown, getHead_raise, getHead_clearConfirm, getHead_updHead_same]
  exact ⟨rfl, rfl⟩

theorem atHead_lensDown (h : Nat) (s : State) : AtHead h s (lensDown h s) (confirmFields h ++ permitFields h ++ evFields (evSV h)) :=
  AtHead.thenRaise (((AtHead.thenUpd (AtHead.refl h s _) _).trans (atHead_clearConfirm h _)).mono (List.subset_append_left ..))
    (by simp [evFields]) (by simp [evFields])

theorem parkReported_lensDown (hh : h < 64) (s : State) : ParkReported h (lensDown h s) := by
  obtain ⟨-, hlink⟩ := getHead_lensDown h s
  have hconf : (F.SV_POS_CONFIRMED h).key ∉ (evFields (evSV h)).map Fld.key := fun hx => (svMove_apart h hh).1 (F.SV_POS_CONFIRMED h) (by simp)
    (List.map_subset _ (fun f hf => by simp [evFields, evSV] at hf; rcases hf with rfl | rfl <;> simp [svFields]) hx)
  refine ⟨raised_raise headEv_sv (by decide), by rw [hlink]; rfl, ?_⟩
  rw [lensDown, (atHead_raise (h := h) (fs := evFields (evSV h)) (by simp [evFields]) (by simp [evFields])).get hconf]
  exact get_clearConfirm hh (by simp [confirmFields]) _

theorem parkReported_parkAnswered (hh : h < 64) (s : State) : ParkReported h (parkAnswered h s) := by
  unfold parkAnswered
  split
  · exact (parkReported_lensDown hh s).done hh
  · exact parkReported_lensDown hh s

theorem servoOf_parkAnswered (h : Nat) (s : State) : servoOf (parkAnswered h s) h = (parkedHead (getHead s h)).sv := by
  obtain ⟨hsv, -⟩ := getHead_lensDown h s
  unfold parkAnswered
  split
  · rw [servoOf, getHead_svDone, hsv]
  · exact hsv

theorem atHead_parkAnswered (h : Nat) (s : State) : AtHead h s (parkAnswered h s) (confirmFields h ++ svCmdFields h ++ svFields h) := by
  have hdown : AtHead h s (lensDown h s) (confirmFields h ++ svCmdFields h ++ svFields h) :=
    (atHead_lensDown h s).mono (by simp [permitFields, evFields, svFields, evSV])
  unfold parkAnswered
  split
  next h5 =>
    have hop : (servoOf (lensDown h s) h).cmdOp = 5 := (congrArg (·.cmdOp) (getHead_lensDown h s).1).trans h5
    exact hdown.trans ((atHead_svDone_other (by omega)).mono (by simp [evFields, svFields, evSV]))
  next h5 => exact hdown

/-- A RETRACT under way ends with its lens parked. -/
theorem get_parkAnswered_busy (hh : h < 64) (h5 : (servoOf s h).cmdOp = 5) (hb : Machine.get s (F.SV_CMD_STATUS_BUSY h) = 1) :
    Machine.get (parkAnswered h s) (F.SV_CMD_STATUS_BUSY h) = 0 := by
  obtain ⟨-, -, -, hanswer⟩ := parking_apart h hh
  obtain ⟨hconf, hev⟩ := hanswer (F.SV_CMD_STATUS_BUSY h) (by simp [svAnswerFields])
  rw [parkAnswered, if_pos h5]
  refine (svDone_spec hh (((atHead_lensDown h s).get ?_).trans hb)).1
  rw [List.map_append, List.mem_append, not_or]
  exact ⟨hconf, hev⟩

theorem get_parkAnswered_en (hh : h < 64) (s : State) : Machine.get (parkAnswered h s) (F.SV_CTRL_EN h) = Machine.get s (F.SV_CTRL_EN h) := by
  obtain ⟨-, -, hen, -⟩ := parking_apart h hh
  simp only [resultFields, List.map_append, List.mem_append, not_or] at hen
  obtain ⟨⟨hsv, ⟨-, hcmd⟩, -⟩, hconf⟩ := hen
  refine (atHead_parkAnswered h s).get ?_
  simp only [List.map_append, List.mem_append, not_or]
  exact ⟨⟨hconf, hcmd⟩, hsv⟩

/-- A failed pull-in repeats its sweep, or ends its command (R180). -/
def sweepAgain (h : Nat) (v : Servo) (s : State) : State := if pullInOk s h then startSweep h v.jumpTo v.calSweep s else svResult h 2 s

/-- The servo pulls in by itself to seek back to its last address (R196). -/
def sweepBack (h : Nat) (v : Servo) (s : State) : State :=
  startSweep h ((v.lastConf.map fun p => p.2.1).getD 0) false
    (updServo h (fun w => { w with target := w.lastConf.map fun p => (p.1, p.2.1), pullFail := 0 }) s)

theorem exec_retractComplete (hi : headInst s h = true) (h9 : Machine.get s (F.SV_STATUS_STATE h) = 9)
    (ht : 16000000 * Machine.get s (F.SV_RETRACT_T_FOCUS h) ≤ 390625 * (tick s - (servoOf s h).since)) :
    exec (.retractComplete h) s = .next (
      if bayOf h ∈ s.thm.parked then setLink h 0 (put (F.HL_CTRL_EN h) 0 (svState h 1 (parkAnswered h s)))
      else if (servoOf s h).offAfter = true ∨ Machine.get s (F.SV_CTRL_EN h) = 0 then leaveOff h (svState h 0 (parkAnswered h s))
      else if (servoOf s h).why = 3 then sweepAgain h (servoOf s h) (svState h 1 (parkAnswered h s))
      else if (servoOf s h).seekBack = true ∧ isSet s (F.SV_CTRL_AUTO_PULLIN h) = true ∧ pullInOk (svState h 1 (parkAnswered h s)) h = true then
        sweepBack h (servoOf s h) (svState h 1 (parkAnswered h s))
      else updServo h (fun v => { v with seekBack := false }) (svState h 1 (parkAnswered h s))) := by
  have hguard : ¬(headInst s h = false ∨ Machine.get s (F.SV_STATUS_STATE h) ≠ 9
      ∨ 390625 * (tick s - (servoOf s h).since) < 16000000 * Machine.get s (F.SV_RETRACT_T_FOCUS h)) := by
    rw [hi, h9]
    simp
    omega
  change execRetractComplete h s = _
  unfold execRetractComplete
  rw [if_neg hguard]
  simp only [apply_ite Host.Outcome.next, sweepAgain, sweepBack]
  rfl

theorem completes_retractComplete (hi : headInst s h = true) (h9 : Machine.get s (F.SV_STATUS_STATE h) = 9)
    (ht : 16000000 * Machine.get s (F.SV_RETRACT_T_FOCUS h) ≤ 390625 * (tick s - (servoOf s h).since)) :
    Completes (.retractComplete h) s fun t =>
      Raised t (evSV h) B.SV_EVT_RETRACTED ∧ (linkOf t h).laser = 0 ∧ Machine.get t (F.SV_POS_CONFIRMED h) = 0 ∧
      (bayOf h ∉ s.thm.parked → (servoOf s h).offAfter = false → Machine.get s (F.SV_CTRL_EN h) ≠ 0 → (servoOf s h).why = 0 →
        (servoOf s h).seekBack = false →
        Machine.get t (F.SV_STATUS_STATE h) = 1 ∧ (servoOf t h).coils = [Config.parkValue, 0, 0] ∧
        ((servoOf s h).cmdOp = 5 → Machine.get s (F.SV_CMD_STATUS_BUSY h) = 1 → Machine.get t (F.SV_CMD_STATUS_BUSY h) = 0) ∧
        WithinHead h s t (confirmFields h ++ svCmdFields h ++ svFields h)) ∧
      (bayOf h ∉ s.thm.parked → Machine.get s (F.SV_CTRL_EN h) = 0 → Machine.get t (F.SV_STATUS_STATE h) = 0) := by
  have hh := headInst_lt hi
  obtain ⟨hsv, -⟩ := svMove_apart h hh
  have k := parkReported_parkAnswered hh s
  have k1 : ParkReported h (svState h 1 (parkAnswered h s)) := k.state (by decide) hh
  have hs1 : AtHead h (parkAnswered h s) (svState h 1 (parkAnswered h s)) (svFields h) := atHead_svState (by decide) h _
  have e := exec_retractComplete hi h9 ht
  split_ifs at e with hparked hoff hwhy hback
  · have r := k1.linkOff hh
    exact completes_of_exec e ⟨r.event, r.laser, r.unconfirmed, fun hno => absurd hparked hno, fun hno => absurd hparked hno⟩
  · have hs0 : AtHead h (parkAnswered h s) (svState h 0 (parkAnswered h s)) (svFields h) := atHead_svState (by decide) h _
    have hstate : Machine.get (svState h 0 (parkAnswered h s)) (F.SV_STATUS_STATE h) = 0 := get_svState_self (by decide) hh _
    have r := (k.state (st := 0) (by decide) hh).leave hh
    refine completes_of_exec e ⟨r.event, r.laser, r.unconfirmed, fun _ hno hen => ?_, fun _ hen => ?_⟩
    · rcases hoff with hoff | hoff
      · exact absurd (hoff.symm.trans hno) (by decide)
      · exact absurd hoff hen
    · have hen' : Machine.get (svState h 0 (parkAnswered h s)) (F.SV_CTRL_EN h) = 0 :=
        (hs0.get (hsv _ (by simp))).trans ((get_parkAnswered_en hh s).trans hen)
      rw [leaveOff, if_neg (by omega)]
      exact hstate
  · have r : ParkReported h (sweepAgain h (servoOf s h) (svState h 1 (parkAnswered h s))) := by
      unfold sweepAgain
      split
      · exact k1.sweep hh _ _
      · exact k1.result hh 2
    exact completes_of_exec e ⟨r.event, r.laser, r.unconfirmed, fun _ _ _ hw => by omega, fun _ hen => absurd (.inr hen) hoff⟩
  · have r := (k1.upd (fun w => { w with target := w.lastConf.map fun p => (p.1, p.2.1), pullFail := 0 })).sweep hh
      (((servoOf s h).lastConf.map fun p => p.2.1).getD 0) false
    exact completes_of_exec e ⟨r.event, r.laser, r.unconfirmed, fun _ _ _ _ hno => absurd (hback.1.symm.trans hno) (by decide),
      fun _ hen => absurd (.inr hen) hoff⟩
  · have r := k1.upd fun v => { v with seekBack := false }
    have hcore : svCore (servoOf (svState h 1 (parkAnswered h s)) h) = svCore (parkedHead (getHead s h)).sv := by
      rw [svCore_svState (by decide), servoOf_parkAnswered]
    have hread {v w : Servo} (k : svCore v = svCore w) : v.coils = w.coils := congrArg (·.coils) k
    refine completes_of_exec e ⟨r.event, r.laser, r.unconfirmed, fun _ _ _ _ _ => ⟨?_, ?_, fun h5 hb => ?_, ?_⟩,
      fun _ hen => absurd (.inr hen) hoff⟩
    · rw [updServo, get_updHead]
      exact get_svState_self (by decide) hh _
    · rw [servoOf_updServo]
      exact hread hcore
    · rw [updServo, get_updHead]
      exact (hs1.get (hsv _ (by simp [svAnswerFields]))).trans (get_parkAnswered_busy hh h5 hb)
    · exact (((atHead_parkAnswered h s).trans (hs1.mono (List.subset_append_right ..))).thenServo _).within

end complete

/-- Settles O11: every end of a move is one state of the servo, whose registers and inner state its operations give. -/
theorem servoMoves : Obligations.ServoMoves := by
  unfold Obligations.ServoMoves
  exact ⟨fun _ _ hi h6 hl hm hr => completes_seekTargetCrossing hi h6 hl hm hr, fun _ _ hi hk ht hst => completes_seekFail hi hk ht hst,
    fun _ _ hi h7 hc => completes_layerJumpFocusClose hi h7 hc,
    fun _ _ _ _ _ _ _ _ hi hhold h5 hn hf hb hp hat => completes_seamJump hi hhold h5 hn hf hb hp hat,
    fun _ _ hi h2 hc hl => completes_focusCapture hi h2 hc hl, fun _ _ hi hst ht => completes_pullTimeout hi hst ht,
    fun _ _ hi h3 hk hr => completes_trackingCapture hi h3 hk hr, fun _ _ hi h9 ht => completes_retractComplete hi h9 ht,
    fun _ _ hi hw => completes_lensRange hi hw⟩

end Sys2Proof.Proofs
end

section
/-! SUPPORT. The rules of a spindle's operations (R195, R239, R240, R249): what the entry of a state, a command's result, a coast, a stop and the
retract of the bay's lenses leave of the spindle, its bay link, its heads and the window. -/

namespace Sys2Proof.Proofs

open Sys2Proof.Machine Sys2Proof.Laws

/-- The parts that a spindle's own work changes. -/
abbrev motorParts : Parts := { buses := true, spindles := true }

theorem motor_apart : ∀ b < 32, (∀ f ∈ [F.MOT_STATUS_STATE b, F.MOT_STATUS_SPEED_LOCK b], f.key ∉ (evFields (evMOT b)).map Fld.key) ∧
    ((motCmdFields b ++ motFields b).map Fld.key).Nodup := by decide +kernel

/-! ### The frame -/

section frame
variable {b st op r : Nat} {s t u : State} {fs : List Fld}

theorem withinMot_of_atLink (k : AtLink motorParts b s t fs) : WithinMot b s t fs :=
  ⟨congrArg (fun u : State => { u with spindles := t.spindles, buses := t.buses }) k.rest, k.spin, k.bus, k.only⟩

theorem coastSpindle_atLink (k : AtLink motorParts b s t fs) (hs : motFields b ⊆ fs) : AtLink motorParts b s (coastSpindle b t) fs := by
  unfold coastSpindle
  extract_lets st
  split
  · exact k
  · exact motEnter_atLink (k.thenSpin rfl _) rfl rfl hs 6

theorem stopSpindle_atLink (k : AtLink motorParts b s t fs) (hs : motFields b ⊆ fs) : AtLink motorParts b s (stopSpindle b t) fs := by
  unfold stopSpindle
  extract_lets st
  split_ifs
  · exact coastSpindle_atLink k hs
  · exact AtLink.thenPut (k.thenSpin rfl _) (hs (by simp [motFields]))
  · exact motEnter_atLink k rfl rfl hs 7
  · exact coastSpindle_atLink k hs
  · exact k

/-! ### The entry of a state -/

/-- What the entry of a state leaves of a spindle's record (R239). -/
def spinEntered (s : State) (b st : Nat) (x : Spindle) : Spindle :=
  { x with stateAt := now s, lockRun := 0, handRun := 0, resRun := 0, pllRun := 0, wobRun := 0, predRun := 0, stopping := false,
           losing := 0, crossRun := 0, crosses := [], lines := [],
           rampAcc := if st = 2 then 0 else x.rampAcc
           crossRpm := if decide (motSt s b ∈ [2, 3, 5]) then (getI s (F.MOT_SPEED b)).natAbs else x.crossRpm }

/-- A state entered, before the end of the speed lock and the event. -/
def motMoved (b st : Nat) (s : State) : State :=
  updBus b (fun l => { l with pwmEn := decide (st ∈ [1, 2, 3, 5, 7]) }) (updSpin b (spinEntered s b st) (put (F.MOT_STATUS_STATE b) st s))

/-- A state entered, before the event. -/
def motUnlocked (b st : Nat) (s : State) : State := if st = 3 then motMoved b st s else put (F.MOT_STATUS_SPEED_LOCK b) 0 (motMoved b st s)

theorem motEnter_eq (b st : Nat) (s : State) : motEnter b st s
    = if motSt s b = st then motUnlocked b st s else raise (evMOT b) B.MOT_EVT_STATE_CHANGE (motUnlocked b st s) := rfl

theorem spinOf_motEnter (b st : Nat) (s : State) : spinOf (motEnter b st s) b = spinEntered s b st (spinOf s b) := by
  have hmoved : spinOf (motMoved b st s) b = spinEntered s b st (spinOf s b) := by
    rw [motMoved, spinOf_updBus, spinOf_updSpin, if_pos rfl, spinOf_put]
  have hunlocked : spinOf (motUnlocked b st s) b = spinEntered s b st (spinOf s b) := by
    unfold motUnlocked
    split
    · exact hmoved
    · rw [spinOf_put, hmoved]
  rw [motEnter_eq]
  split
  · exact hunlocked
  · rw [spinOf_raise, hunlocked]

/-- The speed is locked in RUN only (R240). -/
theorem get_motEnter_lock (hb : b < 32) (hst : st ≠ 3) (s : State) : Machine.get (motEnter b st s) (F.MOT_STATUS_SPEED_LOCK b) = 0 := by
  have hunlocked : Machine.get (motUnlocked b st s) (F.MOT_STATUS_SPEED_LOCK b) = 0 := by
    rw [motUnlocked, if_neg hst, get_put_same]
    rfl
  rw [motEnter_eq]
  split
  · exact hunlocked
  · rw [(atLink_raise (p := {}) (l := b) (fs := evFields (evMOT b)) (by simp [evFields]) (by simp [evFields])).get
      ((motor_apart b hb).1 _ (by simp)), hunlocked]

theorem raised_motEnter (hne : motSt s b ≠ st) : Raised (motEnter b st s) (evMOT b) B.MOT_EVT_STATE_CHANGE := by
  rw [motEnter_eq, if_neg hne]
  exact raised_raise headEv_mot (by decide)

/-- The entry of a state keeps the spindle's flags. -/
theorem raised_motEnter_of_raised {i : Nat} (hb : b < 32) (hi : i < 32) (hs : Raised s (evMOT b) i) : Raised (motEnter b st s) (evMOT b) i := by
  have hapart : ∀ b < 32, (evMOT b).evt.key ∉ [F.MOT_STATUS_STATE b, F.MOT_STATUS_SPEED_LOCK b].map Fld.key := by decide +kernel
  have hmoved : AtLink motorParts b s (motUnlocked b st s) [F.MOT_STATUS_STATE b, F.MOT_STATUS_SPEED_LOCK b] := by
    have h1 : AtLink motorParts b s (motMoved b st s) [F.MOT_STATUS_STATE b, F.MOT_STATUS_SPEED_LOCK b] :=
      AtLink.thenBus (AtLink.thenSpin (AtLink.thenPut (AtLink.refl ..) (by simp)) rfl _) rfl _
    unfold motUnlocked
    split
    · exact h1
    · exact h1.thenPut (by simp)
  have hunlocked : Raised (motUnlocked b st s) (evMOT b) i := raised_of_get (hmoved.get (hapart b hb)) hs
  rw [motEnter_eq]
  split
  · exact hunlocked
  · exact raised_raise_of_raised headEv_mot hi hunlocked

/-- What a spindle shows of itself: the entry of a state is judged by it. -/
structure SpinSame (b : Nat) (s u : State) : Prop where
  state : motSt u b = motSt s b
  bus   : busOf u b = busOf s b
  now   : Machine.now u = Machine.now s

theorem SpinSame.refl (b : Nat) (s : State) : SpinSame b s s := ⟨rfl, rfl, rfl⟩

/-- The entry of a state from what a spindle shows (R239, R240). -/
theorem motEnters_motEnter (hb : b < 32) (hst : st < 16) (k : SpinSame b s u) : MotEnters b st s (motEnter b st u) := by
  obtain ⟨hstate, hbus, hnow⟩ := k
  obtain ⟨hpwm, -⟩ := motEnter_spec b st u
  have hspin := spinOf_motEnter b st u
  refine ⟨(motSt_motEnter hb st u).trans (Nat.mod_eq_of_lt hst), fun h3 => get_motEnter_lock hb h3 u, ?_, ?_, ?_, fun hne => raised_motEnter (hstate ▸ hne)⟩
  · rw [hpwm, hbus]
    simp
  · rw [hspin, ← hnow]
    rfl
  · rw [hspin]
    rfl

/-- What follows the entry of a state and leaves its signs. -/
theorem motEnters_then (k : MotEnters b st s t)
    (hw : ∀ f ∈ [F.MOT_STATUS_STATE b, F.MOT_STATUS_SPEED_LOCK b, F.MOT_EVT b], Machine.get u f = Machine.get t f) (hbus : busOf u b = busOf t b)
    (hat : (spinOf u b).stateAt = (spinOf t b).stateAt) (hstop : (spinOf u b).stopping = (spinOf t b).stopping) : MotEnters b st s u := by
  obtain ⟨h1, h2, h3, h4, h5, h6⟩ := k
  refine ⟨(hw _ (by simp)).trans h1, fun h => (hw _ (by simp)).trans (h2 h), hbus.trans h3, hat.trans h4, hstop.trans h5, fun h => ?_⟩
  rw [hw _ (by simp)]
  exact h6 h

/-- A note on the spindle's record leaves the entry's signs. -/
theorem motEnters_updSpin (k : MotEnters b st s t) {g : Spindle → Spindle} (hat : (g (spinOf t b)).stateAt = (spinOf t b).stateAt)
    (hstop : (g (spinOf t b)).stopping = (spinOf t b).stopping) : MotEnters b st s (updSpin b g t) :=
  motEnters_then k (fun _ _ => rfl) rfl (by rw [spinOf_updSpin, if_pos rfl, hat]) (by rw [spinOf_updSpin, if_pos rfl, hstop])

/-- So does a write to another register. -/
theorem motEnters_put {f : Fld} {v : Nat} (k : MotEnters b st s t)
    (hf : f.key ∉ [F.MOT_STATUS_STATE b, F.MOT_STATUS_SPEED_LOCK b, F.MOT_EVT b].map Fld.key) : MotEnters b st s (put f v t) :=
  motEnters_then k (fun _ hg => get_put_ne _ _ _ _ fun e => hf (e ▸ List.mem_map_of_mem hg)) rfl rfl rfl

/-! ### A command's result -/

/-- A spindle command and its result (R249). -/
theorem motAnswers_motResult (hb : b < 32) (hop : op < 8) (hr : r < 16) (s : State) : MotAnswers b op r (motResult b op r s) := by
  have hn : ((motCmdFields b).map Fld.key).Nodup := by
    have := (motor_apart b hb).2
    rw [List.map_append] at this
    exact (List.nodup_append.1 this).1
  have hn' : ([(F.MOT_CMD_OP b, op), (F.MOT_CMD_STATUS_OP b, op), (F.MOT_CMD_STATUS_RESULT b, r), (F.MOT_CMD_STATUS_BUSY b, 0)].map
      fun p => p.1.key).Nodup := hn
  exact ⟨(get_putAll_mem (v := op) hn' (by simp)).trans (Nat.mod_eq_of_lt hop),
    (get_putAll_mem (v := r) hn' (by simp)).trans (Nat.mod_eq_of_lt hr), get_putAll_mem (v := 0) hn' (by simp)⟩

theorem motAnswers_then (k : MotAnswers b op r t)
    (hw : ∀ f ∈ motCmdFields b, Machine.get u f = Machine.get t f) : MotAnswers b op r u := by
  obtain ⟨h1, h2, h3⟩ := k
  exact ⟨(hw _ (by simp [motCmdFields])).trans h1, (hw _ (by simp [motCmdFields])).trans h2, (hw _ (by simp [motCmdFields])).trans h3⟩

theorem motCmd_apart_mot (hb : b < 32) : ∀ f ∈ motCmdFields b, f.key ∉ (motFields b).map Fld.key := fun f hf hx => by
  have := (motor_apart b hb).2
  rw [List.map_append, List.nodup_append] at this
  exact this.2.2 _ (List.mem_map_of_mem hf) _ hx rfl

theorem mot_apart_motCmd (hb : b < 32) : ∀ f ∈ motFields b, f.key ∉ (motCmdFields b).map Fld.key := fun f hf hx => by
  have := (motor_apart b hb).2
  rw [List.map_append, List.nodup_append] at this
  exact this.2.2 _ hx _ (List.mem_map_of_mem hf) rfl

theorem motResult_within (b op r : Nat) (s : State) : Within s (motResult b op r s) (motCmdFields b) :=
  within_putAll (within_refl s _) (by simp [motCmdFields])

/-- A state entered after a result leaves the result. -/
theorem motAnswers_motEnter (hb : b < 32) (k : MotAnswers b op r t) : MotAnswers b op r (motEnter b st t) :=
  motAnswers_then k fun f hf => (motEnter_atLink (p := motorParts) (AtLink.refl _ b t _) rfl rfl (List.Subset.refl _) st).get (motCmd_apart_mot hb f hf)

theorem now_of_within (k : Within s t fs) (hn : F.CLK_TIME.key ∉ fs.map Fld.key) : now t = now s := k.2 _ hn

theorem clk_apart_motCmd : ∀ b < 32, F.CLK_TIME.key ∉ (motCmdFields b).map Fld.key := by decide +kernel

theorem SpinSame.result (k : SpinSame b s u) (hb : b < 32) (op r : Nat) : SpinSame b s (motResult b op r u) := by
  have hw := motResult_within b op r u
  exact ⟨(hw.2 _ (mot_apart_motCmd hb _ (by simp [motFields]))).trans k.state, (busOf_of_inner hw.1 b).trans k.bus,
    (now_of_within hw (clk_apart_motCmd b hb)).trans k.now⟩

theorem SpinSame.upd (k : SpinSame b s u) (g : Spindle → Spindle) : SpinSame b s (updSpin b g u) := ⟨k.state, k.bus, k.now⟩

end frame

/-! ### The lenses of a bay -/

/-- Nothing has changed but a bay's spindle, its link and its heads, the listed fields and the event log. -/
structure AtBayMotor (b : Nat) (s t : State) (fs : List Fld) : Prop where
  shape : inner t = { inner s with spindles := t.spindles, buses := t.buses, heads := t.heads }
  spin  : OnlySpin b s t
  bus   : OnlyBus b s t
  heads : ∀ g, g ≠ 2 * b → g ≠ 2 * b + 1 → getHead t g = getHead s g
  only  : OnlyFields s t fs

/-- The registers of a head that tell of its retract. -/
def lensFields (h : Nat) : List Fld := [F.SV_STATUS_STATE h, F.SV_CMD_STATUS_BUSY h, F.SV_RETRACTS h]

/-- A head and its signs of a retract stay. -/
structure LensKept (h : Nat) (s t : State) : Prop where
  head : getHead t h = getHead s h
  get  : ∀ f ∈ lensFields h, Machine.get t f = Machine.get s f

section bay
variable {b h : Nat} {s t u v : State} {fs gs : List Fld} {f : Fld}

theorem AtBayMotor.trans (k : AtBayMotor b s t fs) (m : AtBayMotor b t u fs) : AtBayMotor b s u fs :=
  ⟨m.shape.trans (congrArg (fun w : State => { w with spindles := u.spindles, buses := u.buses, heads := u.heads }) k.shape),
    fun j hj => (m.spin j hj).trans (k.spin j hj), fun j hj => (m.bus j hj).trans (k.bus j hj),
    fun g h0 h1 => (m.heads g h0 h1).trans (k.heads g h0 h1), only_trans k.only m.only⟩

theorem AtBayMotor.mono (k : AtBayMotor b s t fs) (hs : fs ⊆ gs) : AtBayMotor b s t gs :=
  ⟨k.shape, k.spin, k.bus, k.heads, only_mono k.only fun _ hf => List.mem_map_of_mem (hs hf)⟩

theorem AtBayMotor.get (k : AtBayMotor b s t fs) (hf : f.key ∉ fs.map Fld.key) : Machine.get t f = Machine.get s f := k.only f hf

theorem heads_of_atLink (k : AtLink motorParts b s t fs) : t.heads = s.heads := by
  have e : (hideParts motorParts (inner t)).heads = (hideParts motorParts (inner s)).heads := congrArg State.heads k.rest
  exact e

theorem getHead_of_atLink (k : AtLink motorParts b s t fs) (g : Nat) : getHead t g = getHead s g := by
  rw [Machine.getHead, heads_of_atLink k, ← Machine.getHead]

theorem atBayMotor_of_atLink (k : AtLink motorParts b s t fs) : AtBayMotor b s t fs :=
  ⟨congrArg (fun u : State => { u with spindles := t.spindles, buses := t.buses, heads := t.heads }) k.rest,
    k.spin, k.bus, fun g _ _ => getHead_of_atLink k g, k.only⟩

theorem atBayMotor_of_atHead (hh : h = 2 * b ∨ h = 2 * b + 1) (k : AtHead h s t fs) : AtBayMotor b s t fs := by
  obtain ⟨⟨r, l, hs, rfl⟩, ho, hf⟩ := k
  exact ⟨rfl, fun _ _ => rfl, fun _ _ => rfl, fun g h0 h1 => ho g (by omega), hf⟩

theorem AtBayMotor.within (k : AtBayMotor b s t (fs ++ motFields b ++ retractFields (2 * b) ++ retractFields (2 * b + 1))) : WithinBay b s t fs :=
  ⟨k.shape, k.spin, k.bus, k.heads, k.only⟩

/-- What the retract of a bay's lenses writes (R195). -/
def bayRetractFields (b : Nat) : List Fld := retractFields (2 * b) ++ retractFields (2 * b + 1)

theorem retractBay_atBayMotor (b : Nat) (s : State) : AtBayMotor b s (retractBay b s) (bayRetractFields b) :=
  ((atBayMotor_of_atHead (.inl rfl) (atHead_retractHead (2 * b) 0 s)).mono (List.subset_append_left ..)).trans
    ((atBayMotor_of_atHead (.inr rfl) (atHead_retractHead (2 * b + 1) 0 _)).mono (List.subset_append_right ..))

theorem spinOf_retractBay (b j : Nat) (s : State) : spinOf (retractBay b s) j = spinOf s j := by
  rw [retractBay, spinOf_retractHead, spinOf_retractHead]

theorem busOf_retractBay (b j : Nat) (s : State) : busOf (retractBay b s) j = busOf s j := by
  have hhead (h : Nat) (u : State) : busOf (retractHead h 0 u) j = busOf u j := by
    obtain ⟨⟨r, l, hs, e⟩, -, -⟩ := atHead_retractHead h 0 u
    rw [e]
    rfl
  rw [retractBay, hhead, hhead]

/-- The registers of a bay's spindle that the retract of its lenses leaves. -/
def spinReads (b : Nat) : List Fld :=
  [F.MOT_STATUS_STATE b, F.MOT_STATUS_SPEED_LOCK b, F.MOT_EVT b, F.MOT_STATUS_REGEN_BLOCKED b, F.MOT_STATUS_LOSS_CAUSE b,
    F.MOT_STATUS_OBS_LOCK b, F.MOT_OBS_LOSS b, F.MOT_CTRL_EN b, F.CLK_TIME, F.CLK_PWM] ++ motCmdFields b

theorem bayRetract_apart : ∀ b < 32, (∀ f ∈ spinReads b, f.key ∉ (bayRetractFields b).map Fld.key) ∧
    (∀ f ∈ lensFields (2 * b), f.key ∉ (retractFields (2 * b + 1)).map Fld.key) ∧
    (∀ f ∈ lensFields (2 * b + 1), f.key ∉ (retractFields (2 * b)).map Fld.key) ∧
    (∀ f ∈ lensFields (2 * b) ++ lensFields (2 * b + 1), f.key ∉ ([F.MOT_STATUS_LOSS_CAUSE b, F.MOT_STATUS_OBS_LOCK b, F.MOT_OBS_LOSS b,
      F.MOT_SHIFTED b, F.MOT_PREDICTED b, F.MOT_CTRL_EN b] ++ motCmdFields b ++ motFields b).map Fld.key) ∧
    F.CLK_TIME.key ∉ ([F.MOT_STATUS_LOSS_CAUSE b, F.MOT_STATUS_OBS_LOCK b, F.MOT_OBS_LOSS b, F.MOT_CTRL_EN b] ++ motCmdFields b
      ++ motFields b).map Fld.key := by
  decide +kernel

theorem get_retractBay (hb : b < 32) (hf : f ∈ spinReads b) (s : State) : Machine.get (retractBay b s) f = Machine.get s f :=
  (retractBay_atBayMotor b s).get ((bayRetract_apart b hb).1 f hf)

theorem SpinSame.retract (k : SpinSame b s u) (hb : b < 32) : SpinSame b s (retractBay b u) :=
  ⟨(get_retractBay hb (by simp [spinReads]) u).trans k.state, (busOf_retractBay b b u).trans k.bus,
    (get_retractBay hb (by simp [spinReads]) u).trans k.now⟩

/-- The retract of a head's lens (R195). -/
theorem lensRetracts_retractHead (hh : h < 64) (s : State) : LensRetracts h s (retractHead h 0 s) := by
  refine ⟨fun hp => ?_, fun hp => ?_⟩
  · have hst : Machine.get s (F.SV_STATUS_STATE h) = 0 ∨ Machine.get s (F.SV_STATUS_STATE h) = 1 ∨ Machine.get s (F.SV_STATUS_STATE h) = 9 ∨
        Machine.get s (F.SV_STATUS_STATE h) = 10 := by
      simp only [lensParked, Bool.or_eq_true, decide_eq_true_eq] at hp
      tauto
    rw [retractHead, if_pos hst]
  · have hcore := headCore_retractHead (why := 0) hp
    have hread {x y : Head} (k : headCore x = headCore y) : x.wr.closeReq = y.wr.closeReq ∧ x.sv.held = y.sv.held ∧ x.sv.why = y.sv.why :=
      ⟨congrArg (·.wr.closeReq) k, congrArg (·.sv.held) k, congrArg (·.sv.why) k⟩
    refine ⟨get_retractHead_state hp hh, ?_, get_retractHead_retracts hp hh, hread hcore⟩
    obtain ⟨hsv, -⟩ := svMove_apart h hh
    have hbusy : ∀ h < 64, (F.SV_CMD_STATUS_BUSY h).key ∉ [F.SV_RETRACTS h, F.SV_STATUS_BAND_HOLD h].map Fld.key := by decide +kernel
    have hcounted : AtHead h (svResult h 4 s) (put (F.SV_STATUS_BAND_HOLD h) 0 (bump (F.SV_RETRACTS h) 1 (updHead h (retracted 0) (svResult h 4 s))))
        [F.SV_RETRACTS h, F.SV_STATUS_BAND_HOLD h] :=
      AtHead.thenPut (AtHead.thenPut (AtHead.thenUpd (AtHead.refl h _ _) _) (by simp)) (by simp)
    rw [retractHead_eq hp, get_svState_ne (by decide) (hsv _ (by simp [svAnswerFields])), hcounted.get (hbusy h hh)]
    by_cases hb : Machine.get s (F.SV_CMD_STATUS_BUSY h) = 1
    · rw [(get_svResult (r := 4) hh hb).1]
      decide
    · rw [svResult, if_neg hb]
      exact hb

theorem LensKept.of_atHead {g : Nat} (hg : h ≠ g) (k : AtHead g s t fs) (hf : ∀ f ∈ lensFields h, f.key ∉ fs.map Fld.key) : LensKept h s t :=
  ⟨k.others h hg, fun f h' => k.get (hf f h')⟩

theorem LensKept.of_atLink (k : AtLink motorParts b s t fs) (hf : ∀ f ∈ lensFields h, f.key ∉ fs.map Fld.key) : LensKept h s t :=
  ⟨getHead_of_atLink k h, fun f h' => k.get (hf f h')⟩

/-- A retract between operations that leave the head and its signs. -/
theorem lensRetracts_between (k : LensRetracts h u v) (k0 : LensKept h s u) (k1 : LensKept h v t) : LensRetracts h s t := by
  obtain ⟨hparked, hout⟩ := k
  have hlens : lensParked u h = lensParked s h := by rw [lensParked, k0.get _ (by simp [lensFields])]; rfl
  rw [hlens] at hparked hout
  refine ⟨fun hp => (k1.head.trans (hparked hp)).trans k0.head, fun hp => ?_⟩
  obtain ⟨hst, hbusy, hcount, hclose, hheld, hwhy⟩ := hout hp
  refine ⟨(k1.get _ (by simp [lensFields])).trans hst, ?_, ?_, ?_, ?_, ?_⟩
  · rwa [k1.get _ (by simp [lensFields])]
  · rw [k1.get _ (by simp [lensFields]), hcount, k0.get _ (by simp [lensFields])]
  · rwa [writeOf, k1.head]
  · rwa [servoOf, k1.head]
  · rwa [servoOf, k1.head]

theorem lensRetracts_after (k : LensRetracts h u v) (k0 : LensKept h s u) : LensRetracts h s v :=
  lensRetracts_between k k0 ⟨rfl, fun _ _ => rfl⟩

/-- Both lenses of a bay retract between operations of its spindle (R195). -/
theorem bayRetracts_of (hb : b < 32) (k0 : AtLink motorParts b s u fs) (k1 : AtLink motorParts b (retractBay b u) t gs)
    (hf : ∀ f ∈ lensFields (2 * b) ++ lensFields (2 * b + 1), f.key ∉ fs.map Fld.key)
    (hg : ∀ f ∈ lensFields (2 * b) ++ lensFields (2 * b + 1), f.key ∉ gs.map Fld.key) : BayRetracts b s t := by
  obtain ⟨-, heven, hodd, -⟩ := bayRetract_apart b hb
  have hfirst : LensKept (2 * b + 1) u (retractHead (2 * b) 0 u) := .of_atHead (by omega) (atHead_retractHead (2 * b) 0 u) hodd
  have hsecond : LensKept (2 * b) (retractHead (2 * b) 0 u) (retractBay b u) := .of_atHead (by omega) (atHead_retractHead (2 * b + 1) 0 _) heven
  have hbefore {h : Nat} (hh : lensFields h ⊆ lensFields (2 * b) ++ lensFields (2 * b + 1)) : LensKept h s u :=
    .of_atLink k0 fun f h' => hf f (hh h')
  have hafter {h : Nat} (hh : lensFields h ⊆ lensFields (2 * b) ++ lensFields (2 * b + 1)) : LensKept h (retractBay b u) t :=
    .of_atLink k1 fun f h' => hg f (hh h')
  have h0 : 2 * b < 64 := by omega
  have h1 : 2 * b + 1 < 64 := by omega
  refine ⟨?_, ?_⟩
  · have hself : LensRetracts (2 * b) u (retractBay b u) :=
      lensRetracts_between (lensRetracts_retractHead h0 u) ⟨rfl, fun _ _ => rfl⟩ hsecond
    exact lensRetracts_between hself (hbefore (List.subset_append_left ..)) (hafter (List.subset_append_left ..))
  · have hself : LensRetracts (2 * b + 1) u (retractBay b u) := lensRetracts_after (lensRetracts_retractHead h1 _) hfirst
    exact lensRetracts_between hself (hbefore (List.subset_append_right ..)) (hafter (List.subset_append_right ..))

end bay

end Sys2Proof.Proofs
end

section
/-! SUPPORT. The clauses of O24 (R229, R230, R236 to R240, R248): the changes of a spindle's state. -/

namespace Sys2Proof.Proofs

open Sys2Proof.Machine Sys2Proof.Laws

/-! ### Registers beside the state -/

/-- What a change of a spindle's state writes beside the state, the speed lock and the event. -/
def spinSideFields (b : Nat) : List Fld :=
  [F.MOT_STATUS_LOSS_CAUSE b, F.MOT_STATUS_OBS_LOCK b, F.MOT_OBS_LOSS b, F.MOT_RECAPTURE b, F.MOT_CATCH_FAIL b, F.MOT_STARTS_OK b,
    F.MOT_STARTS_FAIL b, F.MOT_SPEED b, F.MOT_STATUS_FAULT_CAUSE b, F.MOT_SHIFTED b, F.MOT_PREDICTED b]

theorem spinSide_apart : ∀ b < 32, ((F.CLK_TIME :: F.CLK_PWM :: (spinSideFields b ++ motFields b)).map Fld.key).Nodup ∧
    F.CLK_TIME.key ∉ (motFields b).map Fld.key := by decide +kernel

section side
variable {b st v i : Nat} {s t u : State} {f g : Fld} {fs : List Fld}

theorem side_ne_mot (hb : b < 32) (hf : f ∈ F.CLK_TIME :: F.CLK_PWM :: spinSideFields b) : f.key ∉ (motFields b).map Fld.key := fun hx => by
  have hn := (spinSide_apart b hb).1
  rw [← List.cons_append, ← List.cons_append, List.map_append, List.nodup_append] at hn
  exact hn.2.2 _ (List.mem_map_of_mem hf) _ hx rfl

theorem mot_ne_side (hb : b < 32) (hg : g ∈ motFields b) (hf : f ∈ spinSideFields b) : g.key ≠ f.key := fun e =>
  side_ne_mot hb (List.mem_cons_of_mem _ (List.mem_cons_of_mem _ hf)) (e ▸ List.mem_map_of_mem hg)

theorem clk_ne_side (hb : b < 32) (hg : g ∈ [F.CLK_TIME, F.CLK_PWM]) (hf : f ∈ spinSideFields b) : g.key ≠ f.key := fun e => by
  have hn := (spinSide_apart b hb).1
  simp only [List.map_cons, List.nodup_cons, List.mem_cons, List.map_append, List.mem_append, not_or] at hn
  obtain ⟨⟨-, ht, -⟩, ⟨hp, -⟩, -⟩ := hn
  simp only [List.mem_cons, List.not_mem_nil, or_false] at hg
  rcases hg with rfl | rfl
  · exact ht (e ▸ List.mem_map_of_mem hf)
  · exact hp (e ▸ List.mem_map_of_mem hf)

theorem get_motEnter_side (hb : b < 32) (hf : f ∈ F.CLK_TIME :: F.CLK_PWM :: spinSideFields b) (st : Nat) (s : State) :
    Machine.get (motEnter b st s) f = Machine.get s f :=
  (motEnter_atLink (p := motorParts) (AtLink.refl _ b s _) rfl rfl (List.Subset.refl _) st).get (side_ne_mot hb hf)

theorem get_raise_mot (hf : f.key ∉ (evFields (evMOT b)).map Fld.key) (i : Nat) (s : State) :
    Machine.get (raise (evMOT b) i s) f = Machine.get s f :=
  (atLink_raise (p := {}) (l := b) (fs := evFields (evMOT b)) (by simp [evFields]) (by simp [evFields])).get hf

theorem get_raise_side (hb : b < 32) (hf : f ∈ F.CLK_TIME :: F.CLK_PWM :: spinSideFields b) (i : Nat) (s : State) :
    Machine.get (raise (evMOT b) i s) f = Machine.get s f :=
  get_raise_mot (fun hx => side_ne_mot hb hf (List.map_subset _ (by simp [evFields, evMOT, motFields]) hx)) i s

theorem SpinSame.put (k : SpinSame b s u) (hb : b < 32) (hf : f ∈ spinSideFields b) (v : Nat) : SpinSame b s (put f v u) :=
  ⟨(get_put_ne _ _ _ _ (mot_ne_side hb (by simp [motFields]) hf)).trans k.state, k.bus,
    (get_put_ne _ _ _ _ (clk_ne_side hb (by simp) hf)).trans k.now⟩

theorem SpinSame.raise (k : SpinSame b s u) (hb : b < 32) (i : Nat) : SpinSame b s (raise (evMOT b) i u) :=
  ⟨(get_raise_mot ((motor_apart b hb).1 _ (by simp)) i u).trans k.state, (busOf_raise ..).trans k.bus, (get_raise_side hb (by simp) i u).trans k.now⟩

/-- A write beside the state leaves the signs of its entry. -/
theorem motEnters_put_side (k : MotEnters b st s t) (hb : b < 32) (hf : f ∈ spinSideFields b) (v : Nat) : MotEnters b st s (put f v t) :=
  motEnters_put k fun hx => by
    obtain ⟨g, hg, e⟩ := List.mem_map.1 hx
    exact mot_ne_side hb (List.take_subset 3 (motFields b) hg) hf e

/-- The entry of a state within the spindle's frame. -/
theorem motEnter_within (k : AtLink motorParts b s u fs) (hs : motFields b ⊆ fs) (st : Nat) : WithinMot b s (motEnter b st u) fs :=
  withinMot_of_atLink (motEnter_atLink k rfl rfl hs st)

end side

/-! ### The ends of the states -/

section ends
variable {b : Nat} {s : State}

theorem completes_coastEnd (hi : bayInst s b = true) (h6 : motSt s b = 6)
    (hc : (2 ≤ (spinOf s b).crossRun ∧ (spinOf s b).crossRpm ≤ 10 * Machine.get s (F.MOT_BRAKE_BRAKE_RPM b)) ∨
      elapsed s (spinOf s b).stateAt (Machine.get s (F.MOT_CATCH_COAST_MAX b) * 156250000) = true) :
    Completes (.coastEnd b) s fun t => MotEnters b 7 s t ∧ WithinMot b s t (motFields b) := by
  have hguard : ¬(bayInst s b = false ∨ motSt s b ≠ 6 ∨ ((decide (2 ≤ (spinOf s b).crossRun) &&
      decide ((spinOf s b).crossRpm ≤ 10 * Machine.get s (F.MOT_BRAKE_BRAKE_RPM b))) = false ∧
      elapsed s (spinOf s b).stateAt (Machine.get s (F.MOT_CATCH_COAST_MAX b) * 156250000) = false)) := by
    rcases hc with ⟨h1, h2⟩ | h
    · simp [hi, h6, h1, h2]
    · simp [hi, h6, h]
  exact completes_of_exec (if_neg hguard) ⟨motEnters_motEnter (bayInst_lt hi) (by decide) (.refl b s),
    motEnter_within (AtLink.refl ..) (List.Subset.refl _) 7⟩

/-- A spindle at rest has no target (R238). -/
def spinRested (x : Spindle) : Spindle := { x with recapAt := none, relink := false, target := 0, ref := 0 }

theorem completes_brakeEnd (hi : bayInst s b = true) (h7 : motSt s b = 7) (hs : spinStill s b = true) :
    Completes (.brakeEnd b) s fun t =>
      MotEnters b 0 s t ∧ Machine.get t (F.MOT_SPEED b) = 0 ∧ Raised t (evMOT b) B.MOT_EVT_STOPPED ∧ (spinOf t b).target = 0 ∧
      (spinOf t b).ref = 0 ∧ (spinOf t b).relink = false ∧ WithinMot b s t (F.MOT_SPEED b :: motFields b) := by
  have hb := bayInst_lt hi
  set u := raise (evMOT b) B.MOT_EVT_STOPPED (updSpin b spinRested s) with hu
  have e : exec (.brakeEnd b) s = .next (put (F.MOT_SPEED b) 0 (motEnter b 0 u)) := if_neg (by simp [hi, h7, hs])
  have hsame : SpinSame b s u := ((SpinSame.refl b s).upd spinRested).raise hb _
  have hspin : spinOf (put (F.MOT_SPEED b) 0 (motEnter b 0 u)) b = spinEntered u b 0 (spinRested (spinOf s b)) := by
    rw [spinOf_put, spinOf_motEnter, hu, spinOf_raise, spinOf_updSpin, if_pos rfl]
  have hraised : Raised (motEnter b 0 u) (evMOT b) B.MOT_EVT_STOPPED :=
    raised_motEnter_of_raised hb (by decide) (raised_raise headEv_mot (by decide))
  refine completes_of_exec e ⟨motEnters_put_side (motEnters_motEnter hb (by decide) hsame) hb (by simp [spinSideFields]) 0, get_put_same .., ?_,
    by rw [hspin]; rfl, by rw [hspin]; rfl, by rw [hspin]; rfl, withinMot_of_atLink ?_⟩
  · exact raised_of_get (get_put_ne _ _ _ _ (mot_ne_side hb (by simp [motFields, evMOT]) (by simp [spinSideFields]))) hraised
  · exact AtLink.thenPut (motEnter_atLink (AtLink.thenRaise (AtLink.thenSpin (AtLink.refl ..) rfl _) (by simp [motFields, evMOT]) (by simp [motFields]))
      rfl rfl (List.subset_cons_self ..) 0) (List.mem_cons_self ..)

theorem completes_alignEnd (hi : bayInst s b = true) (h1 : motSt s b = 1)
    (ht : elapsed s (spinOf s b).stateAt (Machine.get s (F.MOT_START_T_ALIGN b) * 625000) = true) :
    Completes (.alignEnd b) s fun t => MotEnters b 2 s t ∧ (spinOf t b).rampAcc = 0 ∧ WithinMot b s t (motFields b) := by
  have e : exec (.alignEnd b) s = .next (motEnter b 2 s) := if_neg (by simp [hi, h1, ht])
  refine completes_of_exec e ⟨motEnters_motEnter (bayInst_lt hi) (by decide) (.refl b s), ?_, motEnter_within (AtLink.refl ..) (List.Subset.refl _) 2⟩
  rw [spinOf_motEnter]
  rfl

/-- A hand-over forgets the failed ramps (R239). -/
def rampTaken (x : Spindle) : Spindle := { x with rampFails := 0 }

theorem completes_spindleHandover (hi : bayInst s b = true) (h2 : motSt s b = 2) (hl : Machine.get s (F.MOT_STATUS_OBS_LOCK b) ≠ 0)
    (hr : 40 ≤ (spinOf s b).handRun) :
    Completes (.spindleHandover b) s fun t =>
      MotEnters b 3 s t ∧ Machine.get t (F.MOT_STARTS_OK b) = trunc 16 (satAdd 16 (Machine.get s (F.MOT_STARTS_OK b)) 1) ∧
      (spinOf t b).rampFails = 0 ∧ WithinMot b s t (F.MOT_STARTS_OK b :: motFields b) := by
  have hb := bayInst_lt hi
  have e : exec (.spindleHandover b) s = .next (bump (F.MOT_STARTS_OK b) 1 (motEnter b 3 (updSpin b rampTaken s))) :=
    if_neg (by simp [hi, h2, hl, hr])
  refine completes_of_exec e ⟨motEnters_put_side (motEnters_motEnter hb (by decide) ((SpinSame.refl b s).upd _)) hb (by simp [spinSideFields]) _, ?_, ?_,
    withinMot_of_atLink (AtLink.thenBump (motEnter_atLink (AtLink.thenSpin (AtLink.refl ..) rfl _) rfl rfl (List.subset_cons_self ..) 3)
      (List.mem_cons_self ..) 1)⟩
  · rw [get_bump_same, get_motEnter_side hb (by simp [spinSideFields])]
    rfl
  · rw [bump, spinOf_put, spinOf_motEnter, spinOf_updSpin, if_pos rfl]
    rfl

theorem completes_speedLock (hi : bayInst s b = true) (h3 : motSt s b = 3) (hr : 100 ≤ (spinOf s b).lockRun)
    (hl : Machine.get s (F.MOT_STATUS_SPEED_LOCK b) ≠ 1) :
    Completes (.speedLock b) s fun t =>
      Machine.get t (F.MOT_STATUS_SPEED_LOCK b) = 1 ∧ Raised t (evMOT b) B.MOT_EVT_SPEED_LOCK ∧
      Within s t (F.MOT_STATUS_SPEED_LOCK b :: evFields (evMOT b)) := by
  have e : exec (.speedLock b) s = .next (raise (evMOT b) B.MOT_EVT_SPEED_LOCK (put (F.MOT_STATUS_SPEED_LOCK b) 1 s)) :=
    if_neg (by rw [hi, h3]; simp; omega)
  refine completes_of_exec e ⟨?_, raised_raise headEv_mot (by decide),
    within_raise (within_put (within_refl s _) (by simp)) (by simp [evFields]) (by simp [evFields])⟩
  rw [get_raise_mot ((motor_apart b (bayInst_lt hi)).1 _ (by simp)), get_put_same]
  rfl

theorem completes_stopDecelEnd (hi : bayInst s b = true) (h3 : motSt s b = 3) (hs : (spinOf s b).stopping = true)
    (hr : (spinOf s b).ref ≤ 40000 * Machine.get s (F.MOT_BRAKE_BRAKE_RPM b)) :
    Completes (.stopDecelEnd b) s fun t => MotEnters b 7 s t ∧ WithinMot b s t (motFields b) :=
  completes_of_exec (if_neg (by rw [hi, h3, hs]; simp; omega)) ⟨motEnters_motEnter (bayInst_lt hi) (by decide) (.refl b s),
    motEnter_within (AtLink.refl ..) (List.Subset.refl _) 7⟩

/-! ### A failed ramp -/

/-- A failed ramp is counted and raised (R239). -/
def rampCounted (b : Nat) (s : State) : State := raise (evMOT b) B.MOT_EVT_START_FAIL (bump (F.MOT_STARTS_FAIL b) 1 s)

theorem rampCounted_atLink (b : Nat) (s : State) :
    AtLink motorParts b s (rampCounted b s) ([F.MOT_STARTS_FAIL b, F.MOT_STATUS_FAULT_CAUSE b] ++ motFields b) :=
  AtLink.thenRaise (AtLink.thenBump (AtLink.refl ..) (by simp) 1) (by simp [motFields, evMOT]) (by simp [motFields])

theorem get_rampCounted (hb : b < 32) (s : State) :
    Machine.get (rampCounted b s) (F.MOT_STARTS_FAIL b) = trunc 16 (satAdd 16 (Machine.get s (F.MOT_STARTS_FAIL b)) 1) ∧
    Machine.get (rampCounted b s) (F.MOT_STATUS_FAULT_CAUSE b) = Machine.get s (F.MOT_STATUS_FAULT_CAUSE b) := by
  refine ⟨?_, ?_⟩
  · rw [rampCounted, get_raise_side hb (by simp [spinSideFields]), get_bump_same]
    rfl
  · rw [rampCounted, get_raise_side hb (by simp [spinSideFields]), get_bump_ne]
    simp only [Fld.key, F.MOT_STATUS_FAULT_CAUSE, F.MOT_STARTS_FAIL]
    omega

theorem SpinSame.rampCounted (hb : b < 32) (s : State) : SpinSame b s (rampCounted b s) :=
  ((SpinSame.refl b s).put hb (by simp [spinSideFields]) _).raise hb _

/-- The ramp is tried again from the alignment (R239). -/
def rampAgain (n : Nat) (x : Spindle) : Spindle := { x with rampFails := n, ref := 0 }

theorem completes_rampFail (hi : bayInst s b = true) (h2 : motSt s b = 2) (ht : elapsed s (spinOf s b).stateAt 156250000 = true) :
    Completes (.rampFail b) s fun t =>
      Machine.get t (F.MOT_STARTS_FAIL b) = trunc 16 (satAdd 16 (Machine.get s (F.MOT_STARTS_FAIL b)) 1) ∧
      Raised t (evMOT b) B.MOT_EVT_START_FAIL ∧
      ((spinOf s b).rampFails = 0 → MotEnters b 1 s t ∧ (spinOf t b).rampFails = 1 ∧
        Machine.get t (F.MOT_STATUS_FAULT_CAUSE b) = Machine.get s (F.MOT_STATUS_FAULT_CAUSE b)) ∧
      ((spinOf s b).rampFails ≠ 0 → MotEnters b 8 s t ∧ (spinOf t b).rampFails = 0 ∧ Machine.get t (F.MOT_STATUS_FAULT_CAUSE b) = 1) ∧
      WithinMot b s t ([F.MOT_STARTS_FAIL b, F.MOT_STATUS_FAULT_CAUSE b] ++ motFields b) := by
  have hb := bayInst_lt hi
  obtain ⟨hcount, hcause⟩ := get_rampCounted hb s
  have hsame := SpinSame.rampCounted hb s
  have hspin : spinOf (rampCounted b s) b = spinOf s b := by rw [rampCounted, spinOf_raise, bump, spinOf_put]
  have hraised (g : Spindle → Spindle) (st : Nat) : Raised (motEnter b st (updSpin b g (rampCounted b s))) (evMOT b) B.MOT_EVT_START_FAIL := by
    have hnoted : Raised (rampCounted b s) (evMOT b) B.MOT_EVT_START_FAIL := raised_raise headEv_mot (by decide)
    exact raised_motEnter_of_raised hb (by decide) hnoted
  have hentered (g : Spindle → Spindle) (st : Nat) : AtLink motorParts b s (motEnter b st (updSpin b g (rampCounted b s)))
      ([F.MOT_STARTS_FAIL b, F.MOT_STATUS_FAULT_CAUSE b] ++ motFields b) :=
    motEnter_atLink ((rampCounted_atLink b s).thenSpin rfl _) rfl rfl (List.subset_append_right ..) st
  have hside {f : Fld} (hf : f ∈ [F.MOT_STARTS_FAIL b, F.MOT_STATUS_FAULT_CAUSE b]) (g : Spindle → Spindle) (st : Nat) :
      Machine.get (motEnter b st (updSpin b g (rampCounted b s))) f = Machine.get (rampCounted b s) f :=
    get_motEnter_side hb (List.mem_cons_of_mem _ (List.mem_cons_of_mem _ (by
      simp only [List.mem_cons, List.not_mem_nil, or_false] at hf
      rcases hf with rfl | rfl <;> simp [spinSideFields]))) st _
  have e : exec (.rampFail b) s = if (spinOf s b).rampFails + 1 < 2 then
        .next (motEnter b 1 (updSpin b (rampAgain ((spinOf s b).rampFails + 1)) (rampCounted b s)))
      else .next (put (F.MOT_STATUS_FAULT_CAUSE b) 1 (motEnter b 8 (updSpin b rampTaken (rampCounted b s)))) :=
    if_neg (by simp [hi, h2, ht])
  split_ifs at e with hn
  · refine completes_of_exec e ⟨(hside (by simp) _ _).trans hcount, hraised _ _, fun h0 => ⟨motEnters_motEnter hb (by decide) (hsame.upd _), ?_,
      (hside (by simp) _ _).trans hcause⟩, fun h0 => by omega, withinMot_of_atLink (hentered _ 1)⟩
    rw [spinOf_motEnter, spinOf_updSpin, if_pos rfl, h0]
    rfl
  · have hne : (F.MOT_STARTS_FAIL b).key ≠ (F.MOT_STATUS_FAULT_CAUSE b).key := by
      simp only [Fld.key, F.MOT_STATUS_FAULT_CAUSE, F.MOT_STARTS_FAIL]
      omega
    refine completes_of_exec e ⟨?_, ?_, fun h0 => by omega, fun _ => ⟨?_, ?_, get_put_same ..⟩, withinMot_of_atLink ((hentered _ 8).thenPut (by simp))⟩
    · rw [get_put_ne _ _ _ _ hne]
      exact (hside (by simp) _ _).trans hcount
    · exact raised_of_get (get_put_ne _ _ _ _ (mot_ne_side hb (by simp [motFields, evMOT]) (by simp [spinSideFields]))) (hraised _ _)
    · exact motEnters_put_side (motEnters_motEnter hb (by decide) (hsame.upd _)) hb (by simp [spinSideFields]) 1
    · rw [spinOf_put, spinOf_motEnter, spinOf_updSpin, if_pos rfl]
      rfl

end ends

/-! ### Catching -/

section catching
variable {b rpm10 : Nat} {s : State}

/-- A spindle left to run down forgets what it was to do (R239). -/
def coasted (x : Spindle) : Spindle := { x with relink := false, recorded := none }

theorem coastSpindle_eq (h0 : motSt s b ≠ 0) (h6 : motSt s b ≠ 6) (h8 : motSt s b ≠ 8) : coastSpindle b s = motEnter b 6 (updSpin b coasted s) := by
  unfold coastSpindle
  dsimp only
  rw [if_neg (by omega)]
  rfl

theorem coastSpindle_stays (h : motSt s b = 0 ∨ motSt s b = 6 ∨ motSt s b = 8) : coastSpindle b s = s := if_pos h

theorem coastSpindle_enters {u : State} (hb : b < 32) (k : SpinSame b s u) (h0 : motSt s b ≠ 0) (h6 : motSt s b ≠ 6) (h8 : motSt s b ≠ 8) :
    MotEnters b 6 s (coastSpindle b u) ∧ spinOf (coastSpindle b u) b = spinEntered u b 6 (coasted (spinOf u b)) := by
  have hst := k.state
  rw [coastSpindle_eq (by omega) (by omega) (by omega), spinOf_motEnter, spinOf_updSpin, if_pos rfl]
  exact ⟨motEnters_motEnter hb (by decide) (k.upd _), rfl⟩

/-- A recapture keeps the time of the first (R238). -/
def recaptured (at_ : Nat) (x : Spindle) : Spindle := { x with recapAt := some (x.recapAt.getD at_) }

theorem completes_recapture (hi : bayInst s b = true) (h4 : motSt s b = 4) (hc : 12 ≤ (spinOf s b).crossRun)
    (hr : rpm10 = crossSpeed s b 11 ((spinOf s b).crosses.headD 0 - (spinOf s b).crosses.getLastD 0)) (hw : inWindow s b rpm10 = true) :
    Completes (.recapture b) s fun t =>
      (isSet s (F.CMOT_STATUS_OV_LATCHED (carOfBay s b)) = false →
        MotEnters b 5 s t ∧ Machine.get t (F.MOT_SPEED b) = trunc 32 rpm10 ∧ Machine.get t (F.MOT_STATUS_OBS_LOCK b) = 1 ∧
        (spinOf t b).recapAt = some ((spinOf s b).recapAt.getD (now s))) ∧
      (isSet s (F.CMOT_STATUS_OV_LATCHED (carOfBay s b)) = true → MotEnters b 6 s t ∧ (spinOf t b).recorded = none ∧ WithinMot b s t (motFields b)) ∧
      WithinMot b s t ([F.MOT_SPEED b, F.MOT_STATUS_OBS_LOCK b] ++ motFields b) := by
  have hb := bayInst_lt hi
  subst hr
  set rpm := crossSpeed s b 11 ((spinOf s b).crosses.headD 0 - (spinOf s b).crosses.getLastD 0) with hrpm
  set u := put (F.MOT_SPEED b) rpm (put (F.MOT_STATUS_OBS_LOCK b) 1 s) with hu
  have e : exec (.recapture b) s = if isSet s (F.CMOT_STATUS_OV_LATCHED (carOfBay s b)) then .next (coastSpindle b s)
      else .next (updSpin b (recaptured (now s)) (motEnter b 5 u)) := if_neg (by
    rintro (h | h | h | h)
    · exact absurd (hi.symm.trans h) (by decide)
    · exact h h4
    · omega
    · exact absurd (hw.symm.trans h) (by decide))
  split_ifs at e with hov
  · obtain ⟨henters, hspin⟩ := coastSpindle_enters hb (.refl b s) (by omega) (by omega) (by omega)
    have hframe := coastSpindle_atLink (AtLink.refl motorParts b s (motFields b)) (List.Subset.refl _)
    refine completes_of_exec e ⟨fun h => absurd (h.symm.trans hov) (by decide), fun _ => ⟨henters, by rw [hspin]; rfl, withinMot_of_atLink hframe⟩,
      withinMot_of_atLink (hframe.mono (List.subset_append_right ..))⟩
  · have hsame : SpinSame b s u := ((SpinSame.refl b s).put hb (by simp [spinSideFields]) _).put hb (by simp [spinSideFields]) _
    have hlock : (F.MOT_STATUS_OBS_LOCK b).key ≠ (F.MOT_SPEED b).key := by
      simp only [Fld.key, F.MOT_STATUS_OBS_LOCK, F.MOT_SPEED]
      omega
    have hside {f : Fld} (hf : f ∈ spinSideFields b) : Machine.get (updSpin b (recaptured (now s)) (motEnter b 5 u)) f = Machine.get u f :=
      get_motEnter_side hb (List.mem_cons_of_mem _ (List.mem_cons_of_mem _ hf)) 5 u
    refine completes_of_exec e ⟨fun _ => ⟨motEnters_updSpin (motEnters_motEnter hb (by decide) hsame) rfl rfl, ?_, ?_, ?_⟩, fun h => absurd h hov,
      withinMot_of_atLink (AtLink.thenSpin (motEnter_atLink (AtLink.thenPut (AtLink.thenPut (AtLink.refl ..) (by simp)) (by simp)) rfl rfl
        (List.subset_append_right ..) 5) rfl _)⟩
    · rw [hside (by simp [spinSideFields]), hu, get_put_same]
      rfl
    · rw [hside (by simp [spinSideFields]), hu, get_put_ne _ _ _ _ hlock, get_put_same]
      rfl
    · rw [spinOf_updSpin, if_pos rfl, spinOf_motEnter]
      rfl

/-- A counted event of a spindle. -/
def spinCounted (b i : Nat) (f : Fld) (s : State) : State := raise (evMOT b) i (bump f 1 s)

theorem spinCounted_atLink (b i : Nat) (f : Fld) (s : State) : AtLink motorParts b s (spinCounted b i f s) (f :: motFields b) :=
  AtLink.thenRaise (AtLink.thenBump (AtLink.refl ..) (List.mem_cons_self ..) 1) (by simp [motFields, evMOT]) (by simp [motFields])

theorem SpinSame.counted (hb : b < 32) {f : Fld} (hf : f ∈ spinSideFields b) (i : Nat) (s : State) : SpinSame b s (spinCounted b i f s) :=
  ((SpinSame.refl b s).put hb hf _).raise hb _

theorem spinOf_spinCounted (b i : Nat) (f : Fld) (s : State) (j : Nat) : spinOf (spinCounted b i f s) j = spinOf s j := by
  rw [spinCounted, spinOf_raise, bump, spinOf_put]

theorem get_spinCounted (hb : b < 32) {f : Fld} (hf : f ∈ spinSideFields b) (i : Nat) (s : State) :
    Machine.get (spinCounted b i f s) f = trunc f.width (satAdd f.width (Machine.get s f) 1) := by
  rw [spinCounted, get_raise_side hb (List.mem_cons_of_mem _ (List.mem_cons_of_mem _ hf)), get_bump_same]

theorem completes_confirmEnd (hi : bayInst s b = true) (h5 : motSt s b = 5) (hl : (spinOf s b).losing = 0)
    (ht : elapsed s (spinOf s b).stateAt (Machine.get s (F.MOT_CATCH_CONFIRM b) * 156250) = true) :
    Completes (.confirmEnd b) s fun t =>
      MotEnters b 3 s t ∧ Machine.get t (F.MOT_RECAPTURE b) = trunc 32 (satAdd 32 (Machine.get s (F.MOT_RECAPTURE b)) 1) ∧
      Raised t (evMOT b) B.MOT_EVT_RECAPTURE ∧ (spinOf t b).target = (spinOf s b).recorded.getD (spinOf s b).target ∧
      (spinOf t b).recorded = none ∧ WithinMot b s t (F.MOT_RECAPTURE b :: motFields b) := by
  have hb := bayInst_lt hi
  set u := spinCounted b B.MOT_EVT_RECAPTURE (F.MOT_RECAPTURE b) s with hu
  have e : exec (.confirmEnd b) s = .next (applyRecorded b (motEnter b 3 u)) := if_neg (by simp [hi, h5, hl, ht])
  have hside : F.MOT_RECAPTURE b ∈ spinSideFields b := by simp [spinSideFields]
  have hraised : Raised (motEnter b 3 u) (evMOT b) B.MOT_EVT_RECAPTURE :=
    raised_motEnter_of_raised hb (by decide) (raised_raise headEv_mot (by decide))
  have hspin : spinOf (applyRecorded b (motEnter b 3 u)) b
      = { spinEntered u b 3 (spinOf s b) with target := (spinOf s b).recorded.getD (spinOf s b).target, recorded := none } := by
    rw [applyRecorded, spinOf_updSpin, if_pos rfl, spinOf_motEnter, hu, spinOf_spinCounted]
    rfl
  refine completes_of_exec e ⟨motEnters_updSpin (motEnters_motEnter hb (by decide) (SpinSame.counted hb hside _ s)) rfl rfl, ?_, hraised,
    by rw [hspin], by rw [hspin], withinMot_of_atLink (AtLink.thenSpin (motEnter_atLink (spinCounted_atLink ..) rfl rfl (List.subset_cons_self ..) 3) rfl _)⟩
  exact (get_motEnter_side hb (List.mem_cons_of_mem _ (List.mem_cons_of_mem _ hside)) 3 u).trans (get_spinCounted hb hside _ s)

theorem completes_catchFail (hi : bayInst s b = true) (h4 : motSt s b = 4)
    (ht : elapsed s (spinOf s b).stateAt (Machine.get s (F.MOT_CATCH_CATCH_MAX b) * 625000) = true) :
    Completes (.catchFail b) s fun t =>
      MotEnters b 6 s t ∧ Machine.get t (F.MOT_CATCH_FAIL b) = trunc 32 (satAdd 32 (Machine.get s (F.MOT_CATCH_FAIL b)) 1) ∧
      Raised t (evMOT b) B.MOT_EVT_CATCH_FAIL ∧ (spinOf t b).recorded = none ∧ (spinOf t b).relink = false ∧
      WithinMot b s t (F.MOT_CATCH_FAIL b :: motFields b) := by
  have hb := bayInst_lt hi
  set u := spinCounted b B.MOT_EVT_CATCH_FAIL (F.MOT_CATCH_FAIL b) s with hu
  have hside : F.MOT_CATCH_FAIL b ∈ spinSideFields b := by simp [spinSideFields]
  have e : exec (.catchFail b) s = .next (coastSpindle b u) := if_neg (by simp [hi, h4, ht])
  have hsame : SpinSame b s u := SpinSame.counted hb hside _ s
  obtain ⟨henters, hspin⟩ := coastSpindle_enters hb hsame (by omega) (by omega) (by omega)
  have hst := hsame.state
  have hcoast : coastSpindle b u = motEnter b 6 (updSpin b coasted u) := coastSpindle_eq (by omega) (by omega) (by omega)
  have hraised : Raised u (evMOT b) B.MOT_EVT_CATCH_FAIL := raised_raise headEv_mot (by decide)
  refine completes_of_exec e ⟨henters, ?_, ?_, by rw [hspin]; rfl, by rw [hspin]; rfl,
    withinMot_of_atLink (coastSpindle_atLink (spinCounted_atLink ..) (List.subset_cons_self ..))⟩
  · rw [hcoast, get_motEnter_side hb (List.mem_cons_of_mem _ (List.mem_cons_of_mem _ hside))]
    exact get_spinCounted hb hside _ s
  · rw [hcoast]
    exact raised_motEnter_of_raised hb (by decide) hraised

end catching

end Sys2Proof.Proofs
end

section
/-! SUPPORT. The clauses of O24 on the loss of the observer (R195, R229, R230, R236, R237, R248), and its assembly. -/

namespace Sys2Proof.Proofs

open Sys2Proof.Machine Sys2Proof.Laws

/-! ### A loss noted -/

section noted
variable {b cause : Nat} {s t u : State} {gs : List Fld}

/-- A loss is recorded, counted and raised (R236). -/
def lossNoted (b cause : Nat) (s : State) : State :=
  raise (evMOT b) B.MOT_EVT_OBS_LOSS (bump (F.MOT_OBS_LOSS b) 1 (put (F.MOT_STATUS_OBS_LOCK b) 0 (put (F.MOT_STATUS_LOSS_CAUSE b) cause s)))

/-- The same, with the mismatch of the wobble (R236). -/
def lossTold (b cause : Nat) (s : State) : State :=
  if cause = 3 then raise (evMOT b) B.MOT_EVT_WOB_MISMATCH (lossNoted b cause s) else lossNoted b cause s

/-- What a loss writes of its spindle. -/
def obsLossFields (b : Nat) : List Fld := [F.MOT_STATUS_LOSS_CAUSE b, F.MOT_STATUS_OBS_LOCK b, F.MOT_OBS_LOSS b] ++ motFields b

theorem lossNoted_atLink (b cause : Nat) (s : State) : AtLink motorParts b s (lossNoted b cause s) (obsLossFields b) :=
  AtLink.thenRaise (AtLink.thenBump (AtLink.thenPut (AtLink.thenPut (AtLink.refl ..) (by simp [obsLossFields])) (by simp [obsLossFields])) (by simp [obsLossFields]) 1)
    (by simp [obsLossFields, motFields, evMOT]) (by simp [obsLossFields, motFields])

theorem lossTold_atLink (b cause : Nat) (s : State) : AtLink motorParts b s (lossTold b cause s) (obsLossFields b) := by
  unfold lossTold
  split
  · exact (lossNoted_atLink b cause s).thenRaise (by simp [obsLossFields, motFields, evMOT]) (by simp [obsLossFields, motFields])
  · exact lossNoted_atLink b cause s

theorem SpinSame.lossNoted (hb : b < 32) (cause : Nat) (s : State) : SpinSame b s (lossNoted b cause s) :=
  ((((SpinSame.refl b s).put hb (by simp [spinSideFields]) _).put hb (by simp [spinSideFields]) _).put hb (by simp [spinSideFields]) _).raise hb _

theorem SpinSame.lossTold (hb : b < 32) (cause : Nat) (s : State) : SpinSame b s (lossTold b cause s) := by
  unfold Proofs.lossTold
  split
  · exact (SpinSame.lossNoted hb cause s).raise hb _
  · exact SpinSame.lossNoted hb cause s

theorem raised_lossTold (b cause : Nat) (s : State) : Raised (lossTold b cause s) (evMOT b) B.MOT_EVT_OBS_LOSS ∧
    (cause = 3 → Raised (lossTold b cause s) (evMOT b) B.MOT_EVT_WOB_MISMATCH) := by
  have hnoted : Raised (lossNoted b cause s) (evMOT b) B.MOT_EVT_OBS_LOSS := raised_raise headEv_mot (by decide)
  unfold lossTold
  split
  · exact ⟨raised_raise_of_raised headEv_mot (by decide) hnoted, fun _ => raised_raise headEv_mot (by decide)⟩
  next h3 => exact ⟨hnoted, fun h => absurd h h3⟩

theorem get_lossTold (hb : b < 32) (hc : cause < 8) (s : State) :
    Machine.get (lossTold b cause s) (F.MOT_STATUS_LOSS_CAUSE b) = cause ∧ Machine.get (lossTold b cause s) (F.MOT_STATUS_OBS_LOCK b) = 0 ∧
    Machine.get (lossTold b cause s) (F.MOT_OBS_LOSS b) = trunc 32 (satAdd 32 (Machine.get s (F.MOT_OBS_LOSS b)) 1) := by
  have hne : ∀ b < 32, ([F.MOT_STATUS_LOSS_CAUSE b, F.MOT_STATUS_OBS_LOCK b, F.MOT_OBS_LOSS b].map Fld.key).Nodup := by decide +kernel
  have hn := hne b hb
  simp only [List.map_cons, List.map_nil, List.nodup_cons, List.mem_cons, List.not_mem_nil, or_false, not_or] at hn
  obtain ⟨⟨h1, h2⟩, h3, -⟩ := hn
  have hevent {f : Fld} (hf : f ∈ spinSideFields b) : Machine.get (lossTold b cause s) f = Machine.get (bump (F.MOT_OBS_LOSS b) 1
      (put (F.MOT_STATUS_OBS_LOCK b) 0 (put (F.MOT_STATUS_LOSS_CAUSE b) cause s))) f := by
    have hside := List.mem_cons_of_mem F.CLK_TIME (List.mem_cons_of_mem F.CLK_PWM hf)
    unfold lossTold
    split
    · rw [get_raise_side hb hside, lossNoted, get_raise_side hb hside]
    · rw [lossNoted, get_raise_side hb hside]
  refine ⟨?_, ?_, ?_⟩
  · rw [hevent (by simp [spinSideFields]), get_bump_ne h2, get_put_ne _ _ _ _ h1, get_put_same]
    exact Nat.mod_eq_of_lt hc
  · rw [hevent (by simp [spinSideFields]), get_bump_ne h3, get_put_same]
    rfl
  · rw [hevent (by simp [spinSideFields]), get_bump_same, get_put_ne _ _ _ _ (Ne.symm h3), get_put_ne _ _ _ _ (Ne.symm h2)]
    rfl

theorem spinOf_lossTold (b cause : Nat) (s : State) : spinOf (lossTold b cause s) b = spinOf s b := by
  unfold lossTold
  split <;> simp only [lossNoted, spinOf_raise, bump, spinOf_put]

/-! ### The lenses retract and the loss is timed -/

/-- Whether a loss falls within 1 s of the first recapture (R238). -/
def lossSoon (s : State) (b : Nat) : Bool := match (spinOf s b).recapAt with
  | some t => decide (now s ≤ 156250000 + t)
  | none => false

/-- What a spindle's record keeps of a loss (R237, R238). -/
def lossRecord (s : State) (b : Nat) (y : Spindle) : Spindle :=
  { y with
    lossAt := now s
    lastWob := Machine.get s (F.MOT_WOB_SPEED b)
    relost := if lossSoon s b then y.relost + 1 else 0
    recapAt := if lossSoon s b then y.recapAt else none }

/-- A loss before the spindle follows it. -/
def lossTaken (b cause : Nat) (s : State) : State := updSpin b (lossRecord s b) (retractBay b (lossTold b cause s))

theorem spinOf_lossTaken (b cause : Nat) (s : State) : spinOf (lossTaken b cause s) b = lossRecord s b (spinOf s b) := by
  rw [lossTaken, spinOf_updSpin, if_pos rfl, spinOf_retractBay, spinOf_lossTold]

theorem SpinSame.lossTaken (hb : b < 32) (cause : Nat) (s : State) : SpinSame b s (lossTaken b cause s) :=
  ((SpinSame.lossTold hb cause s).retract hb).upd _

theorem lossTaken_atLink (b cause : Nat) (s : State) (gs : List Fld) : AtLink motorParts b (retractBay b (lossTold b cause s)) (lossTaken b cause s) gs :=
  (AtLink.refl ..).thenSpin rfl _

/-- What the spindle's part of a loss may write. -/
def lossAfterFields (b : Nat) : List Fld := [F.MOT_SHIFTED b, F.MOT_PREDICTED b] ++ motFields b

theorem loss_apart : ∀ b < 32,
    (∀ f ∈ [F.MOT_STATUS_LOSS_CAUSE b, F.MOT_STATUS_OBS_LOCK b, F.MOT_OBS_LOSS b], f.key ∉ (lossAfterFields b).map Fld.key) ∧
    (∀ f ∈ lensFields (2 * b) ++ lensFields (2 * b + 1), f.key ∉ (obsLossFields b).map Fld.key ∧ f.key ∉ (lossAfterFields b).map Fld.key) ∧
    (∀ f ∈ [(evMOT b).evt, F.MOT_STATUS_STATE b, F.CLK_PWM], f.key ∉ [F.MOT_SHIFTED b, F.MOT_PREDICTED b].map Fld.key) ∧
    F.CLK_PWM.key ∉ (obsLossFields b).map Fld.key := by decide +kernel

/-- Whatever follows, a loss stays recorded and the lenses retract (R195, R236). -/
theorem loss_spec (hb : b < 32) (hc : cause < 8) (k : AtLink motorParts b (lossTaken b cause s) t (lossAfterFields b)) :
    Machine.get t (F.MOT_STATUS_LOSS_CAUSE b) = cause ∧ Machine.get t (F.MOT_STATUS_OBS_LOCK b) = 0 ∧
    Machine.get t (F.MOT_OBS_LOSS b) = trunc 32 (satAdd 32 (Machine.get s (F.MOT_OBS_LOSS b)) 1) ∧ BayRetracts b s t := by
  obtain ⟨happ, hlens, -, -⟩ := loss_apart b hb
  obtain ⟨h1, h2, h3⟩ := get_lossTold hb hc s
  have hkeep {f : Fld} (hf : f ∈ [F.MOT_STATUS_LOSS_CAUSE b, F.MOT_STATUS_OBS_LOCK b, F.MOT_OBS_LOSS b]) :
      Machine.get t f = Machine.get (lossTold b cause s) f :=
    (k.get (happ f hf)).trans (get_retractBay hb (by
      simp only [List.mem_cons, List.not_mem_nil, or_false] at hf
      rcases hf with rfl | rfl | rfl <;> simp [spinReads]) _)
  exact ⟨(hkeep (by simp)).trans h1, (hkeep (by simp)).trans h2, (hkeep (by simp)).trans h3,
    bayRetracts_of hb (lossTold_atLink b cause s) ((lossTaken_atLink b cause s _).trans k) (fun f hf => (hlens f hf).1) fun f hf => (hlens f hf).2⟩

theorem loss_atBayMotor (k : AtLink motorParts b (lossTaken b cause s) t gs) : AtBayMotor b s t (obsLossFields b ++ gs ++ bayRetractFields b) :=
  (((atBayMotor_of_atLink (lossTold_atLink b cause s)).mono fun f hf => by simp [hf]).trans
    ((retractBay_atBayMotor b _).mono (List.subset_append_right ..))).trans
    ((atBayMotor_of_atLink ((lossTaken_atLink b cause s gs).trans k)).mono fun f hf => by simp [hf])

theorem raised_updSpin {e : EvReg} {i : Nat} {g : Spindle → Spindle} (hs : Raised s e i) : Raised (updSpin b g s) e i := hs

theorem raised_lossTaken {i : Nat} (hb : b < 32) (hs : Raised (lossTold b cause s) (evMOT b) i) : Raised (lossTaken b cause s) (evMOT b) i :=
  raised_of_get (get_retractBay hb (by simp [spinReads, evMOT]) _) hs

end noted

/-! ### The period after a loss -/

section period
variable {b cause : Nat} {s t u : State}

/-- The control of a period leaves what the loss has noted, and asks for its I_q (R229, R237). -/
theorem spinOf_regulateTo (b : Nat) (refD refQ : Int) (u : State) :
    (spinOf (regulateTo b refD refQ u) b).iq = refQ ∧ (spinOf (regulateTo b refD refQ u) b).losing = (spinOf u b).losing ∧
    (spinOf (regulateTo b refD refQ u) b).lossAt = (spinOf u b).lossAt ∧ (spinOf (regulateTo b refD refQ u) b).lastWob = (spinOf u b).lastWob := by
  unfold regulateTo
  extract_lets x
  split
  extract_lets raw w s1 s2
  have h1 : (spinOf s1 b).iq = refQ ∧ (spinOf s1 b).losing = (spinOf u b).losing ∧ (spinOf s1 b).lossAt = (spinOf u b).lossAt ∧
      (spinOf s1 b).lastWob = (spinOf u b).lastWob := by
    unfold s1
    rw [spinOf_updSpin, if_pos rfl]
    exact ⟨rfl, rfl, rfl, rfl⟩
  have h2 : spinOf s2 b = spinOf s1 b := by
    unfold s2
    split <;> rfl
  rw [← h2] at h1
  split
  · exact h1
  · exact h1

theorem busOf_regulateTo (b j : Nat) (refD refQ : Int) (u : State) : busOf (regulateTo b refD refQ u) j = busOf u j := by
  unfold regulateTo
  extract_lets x
  split
  extract_lets raw w s1 s2
  have h2 : busOf s2 j = busOf u j := by
    unfold s2
    split <;> rfl
  split <;> exact h2

/-- The packets of the next period are added to what the link has sent (R229, R230). -/
theorem busOf_sendPeriod (b : Nat) (u : State) :
    busOf (sendPeriod b u) b = { busOf u b with sent := (busOf u b).sent ++ periodPackets b u (sendPeriod b u) } := by
  have hedges : spinOf (sendPeriod b u) b = spinOf u b := rfl
  have hentries (n : Nat) : bayEntries (sendPeriod b u) b n = bayEntries u b n := rfl
  rw [periodPackets, hedges, hentries]
  simp only [sendPeriod, sendPacket, busOf_updBus, if_true, List.append_assoc, List.cons_append, List.nil_append]

theorem controlPeriod_losing (hst : motSt u b = 2 ∨ motSt u b = 3 ∨ motSt u b = 5) (hl : (spinOf u b).losing ≠ 0) :
    controlPeriod b u = sendPeriod b (regulateTo b 0 0 u) := by
  unfold controlPeriod
  dsimp only
  rw [if_neg (by omega), if_pos hl]

/-- A loss by causes 1 to 4 is one of a spindle that is driven (R236). -/
theorem lossHolds_runs (h5 : cause ≠ 5) (hl : lossHolds s b cause = true) : cause < 5 ∧ (motSt s b = 2 ∨ motSt s b = 3 ∨ motSt s b = 5) := by
  unfold lossHolds at hl
  extract_lets x st run at hl
  have hrun (p : Bool) (hp : (run && p) = true) : motSt s b = 2 ∨ motSt s b = 3 ∨ motSt s b = 5 := of_decide_eq_true (Bool.and_eq_true_iff.1 hp).1
  split_ifs at hl with h1 h2 h3 h4
  · exact ⟨by omega, hrun _ hl⟩
  · exact ⟨by omega, hrun _ hl⟩
  · exact ⟨by omega, hrun _ (by rw [← Bool.and_assoc]; exact hl)⟩
  · exact ⟨by omega, hrun _ (by rw [← Bool.and_assoc]; exact hl)⟩

/-- The spindle stays for one period more (R237). -/
def losingBegun (again : Bool) (y : Spindle) : Spindle := { y with losing := 2, again := again }

/-- The link's repeats are forgotten (R248). -/
def repeatsGone (l : BusLink) : BusLink := { l with repeats := 0 }

/-- A lost link is noted to be caught again (R248). -/
def relinkNoted (y : Spindle) : Spindle := { y with relink := true }

theorem exec_observerLoss (hi : bayInst s b = true) (hl : lossHolds s b cause = true) (hn : (spinOf s b).losing = 0 ∨ cause = 5) :
    exec (.observerLoss b cause) s = if cause = 5 then
        (if motSt s b = 8 then .next (lossTaken b cause s)
         else if linkUp s b then .next (motEnter b 4 (updBus b repeatsGone (lossTaken b cause s)))
         else .next (updSpin b relinkNoted (motEnter b 6 (lossTaken b cause s))))
      else .next (controlPeriod b (updSpin b (losingBegun (lossSoon s b && decide (1 ≤ (spinOf s b).relost))) (lossTaken b cause s))) := by
  have hguard : ¬(bayInst s b = false ∨ lossHolds s b cause = false ∨ ((spinOf s b).losing ≠ 0 ∧ cause ≠ 5)) := by
    rw [hi, hl]
    simp
    tauto
  exact if_neg hguard

theorem completes_observerLoss_driven (hi : bayInst s b = true) (h5 : cause ≠ 5) (hl : lossHolds s b cause = true) (h0 : (spinOf s b).losing = 0) :
    Completes (.observerLoss b cause) s fun t =>
      Machine.get t (F.MOT_STATUS_LOSS_CAUSE b) = cause ∧ Machine.get t (F.MOT_STATUS_OBS_LOCK b) = 0 ∧
      Machine.get t (F.MOT_OBS_LOSS b) = trunc 32 (satAdd 32 (Machine.get s (F.MOT_OBS_LOSS b)) 1) ∧ Raised t (evMOT b) B.MOT_EVT_OBS_LOSS ∧
      (cause = 3 → Raised t (evMOT b) B.MOT_EVT_WOB_MISMATCH) ∧ BayRetracts b s t ∧ motSt t b = motSt s b ∧ (spinOf t b).losing = 2 ∧
      (spinOf t b).lossAt = now s ∧ (spinOf t b).lastWob = Machine.get s (F.MOT_WOB_SPEED b) ∧ (spinOf t b).iq = 0 ∧
      busOf t b = { busOf s b with sent := (busOf s b).sent ++ periodPackets b s t } ∧
      WithinBay b s t [F.MOT_STATUS_LOSS_CAUSE b, F.MOT_STATUS_OBS_LOCK b, F.MOT_OBS_LOSS b, F.MOT_SHIFTED b, F.MOT_PREDICTED b] := by
  have hb := bayInst_lt hi
  obtain ⟨hc, hrun⟩ := lossHolds_runs h5 hl
  obtain ⟨-, -, happ, hclk⟩ := loss_apart b hb
  set again := lossSoon s b && decide (1 ≤ (spinOf s b).relost) with hagain
  set u := updSpin b (losingBegun again) (lossTaken b cause s) with hu
  have e := (exec_observerLoss hi hl (.inl h0)).trans (if_neg h5)
  have hsame : SpinSame b s u := (SpinSame.lossTaken hb cause s).upd _
  have hspin : spinOf u b = losingBegun again (lossRecord s b (spinOf s b)) := by
    rw [hu, spinOf_updSpin, if_pos rfl, spinOf_lossTaken]
  have hperiod : controlPeriod b u = sendPeriod b (regulateTo b 0 0 u) :=
    controlPeriod_losing (by rw [hsame.state]; exact hrun) (by rw [hspin]; exact two_ne_zero)
  have hctl : AtLink motorParts b (lossTaken b cause s) (controlPeriod b u) [F.MOT_SHIFTED b, F.MOT_PREDICTED b] :=
    (controlPeriod_spec (AtLink.thenSpin (AtLink.refl ..) rfl _) rfl rfl (by simp) (by simp)).1
  have hreg : AtLink motorParts b (lossTaken b cause s) (regulateTo b 0 0 u) [F.MOT_SHIFTED b, F.MOT_PREDICTED b] :=
    (regulateTo_spec (AtLink.thenSpin (AtLink.refl ..) rfl _) rfl (by simp) (by simp) 0 0).1
  obtain ⟨hloss, hlock, hcount, hbay⟩ := loss_spec hb (by omega) (hctl.mono (by simp [lossAfterFields]))
  obtain ⟨hraised, hwob⟩ := raised_lossTold b cause s
  have hflag {i : Nat} (h : Raised (lossTold b cause s) (evMOT b) i) : Raised (controlPeriod b u) (evMOT b) i :=
    raised_of_get (hctl.get (happ _ (by simp))) (raised_lossTaken hb h)
  have hspin' : spinOf (controlPeriod b u) b = spinOf (regulateTo b 0 0 u) b := by rw [hperiod]; rfl
  obtain ⟨hiq, hlosing, hat, hwobble⟩ := spinOf_regulateTo b 0 0 u
  rw [← hspin', hspin] at hlosing hat hwobble
  rw [← hspin'] at hiq
  have hpwm : pwmNow (regulateTo b 0 0 u) = pwmNow s :=
    (hreg.get (happ _ (by simp))).trans ((get_retractBay hb (by simp [spinReads]) _).trans ((lossTold_atLink b cause s).get hclk))
  have hbus : busOf (controlPeriod b u) b = { busOf s b with sent := (busOf s b).sent ++ periodPackets b s (controlPeriod b u) } := by
    rw [hperiod, busOf_sendPeriod, busOf_regulateTo, hsame.bus, periodPackets, periodPackets, hpwm]
  refine completes_of_exec e ⟨hloss, hlock, hcount, hflag hraised, fun h => hflag (hwob h), hbay, ?_, hlosing, hat, hwobble, hiq, hbus,
    ((loss_atBayMotor hctl).mono ?_).within⟩
  · exact (hctl.get (happ _ (by simp))).trans (SpinSame.lossTaken hb cause s).state
  · intro f hf
    simp only [obsLossFields, bayRetractFields, List.mem_append, List.mem_cons, List.not_mem_nil, or_false] at hf ⊢
    rcases hf with (((hf | hf | hf) | hf) | hf | hf) | hf | hf <;> simp [hf]

/-- What every loss of the link leads to keeps of the loss (R236, R248). -/
structure LossFollowed (b : Nat) (s t : State) : Prop where
  frame : AtLink motorParts b (lossTaken b 5 s) t (motFields b)
  event : Raised t (evMOT b) B.MOT_EVT_OBS_LOSS
  at_   : (spinOf t b).lossAt = now s
  wob   : (spinOf t b).lastWob = Machine.get s (F.MOT_WOB_SPEED b)

theorem raised_loss (hb : b < 32) (s : State) : Raised (lossTaken b 5 s) (evMOT b) B.MOT_EVT_OBS_LOSS :=
  raised_lossTaken hb (raised_lossTold b 5 s).1

/-- A spindle at fault stays there. -/
theorem lossFollowed_fault (hb : b < 32) (s : State) : LossFollowed b s (lossTaken b 5 s) := by
  have hspin := spinOf_lossTaken b 5 s
  exact ⟨AtLink.refl .., raised_loss hb s, congrArg (·.lossAt) hspin, congrArg (·.lastWob) hspin⟩

/-- What a state entered after a loss keeps of it. -/
theorem spinEntered_loss (u s : State) (b st : Nat) (x : Spindle) : (spinEntered u b st (lossRecord s b x)).lossAt = now s ∧
    (spinEntered u b st (lossRecord s b x)).lastWob = Machine.get s (F.MOT_WOB_SPEED b) := ⟨rfl, rfl⟩

/-- A spindle on a link that is up is caught at once (R248). -/
theorem lossFollowed_caught (hb : b < 32) (s : State) : LossFollowed b s (motEnter b 4 (updBus b repeatsGone (lossTaken b 5 s))) := by
  have hspin : spinOf (motEnter b 4 (updBus b repeatsGone (lossTaken b 5 s))) b
      = spinEntered (updBus b repeatsGone (lossTaken b 5 s)) b 4 (lossRecord s b (spinOf s b)) := by
    rw [spinOf_motEnter, spinOf_updBus, spinOf_lossTaken]
  obtain ⟨hat, hwob⟩ := spinEntered_loss (updBus b repeatsGone (lossTaken b 5 s)) s b 4 (spinOf s b)
  exact ⟨motEnter_atLink (AtLink.thenBus (AtLink.refl ..) rfl _) rfl rfl (List.Subset.refl _) 4,
    raised_motEnter_of_raised hb (by decide) (raised_loss hb s), by rw [hspin, hat], by rw [hspin, hwob]⟩

theorem caught_spec (hb : b < 32) (s : State) : motSt (motEnter b 4 (updBus b repeatsGone (lossTaken b 5 s))) b = 4 ∧
    busOf (motEnter b 4 (updBus b repeatsGone (lossTaken b 5 s))) b = { busOf s b with pwmEn := false, repeats := 0 } ∧
    (spinOf (motEnter b 4 (updBus b repeatsGone (lossTaken b 5 s))) b).stateAt = now s := by
  have hsame := SpinSame.lossTaken hb 5 s
  refine ⟨motSt_motEnter hb 4 _, ?_, ?_⟩
  · rw [(motEnter_spec b 4 _).1, busOf_updBus, if_pos rfl, hsame.bus]
    rfl
  · rw [spinOf_motEnter]
    exact hsame.now

/-- A spindle without its link coasts, to be caught again (R248). -/
theorem lossFollowed_coasts (hb : b < 32) (s : State) : LossFollowed b s (updSpin b relinkNoted (motEnter b 6 (lossTaken b 5 s))) := by
  have hspin : spinOf (updSpin b relinkNoted (motEnter b 6 (lossTaken b 5 s))) b
      = relinkNoted (spinEntered (lossTaken b 5 s) b 6 (lossRecord s b (spinOf s b))) := by
    rw [spinOf_updSpin, if_pos rfl, spinOf_motEnter, spinOf_lossTaken]
  obtain ⟨hat, hwob⟩ := spinEntered_loss (lossTaken b 5 s) s b 6 (spinOf s b)
  exact ⟨AtLink.thenSpin (motEnter_atLink (AtLink.refl ..) rfl rfl (List.Subset.refl _) 6) rfl _,
    raised_updSpin (raised_motEnter_of_raised hb (by decide) (raised_loss hb s)), by rw [hspin]; exact hat, by rw [hspin]; exact hwob⟩

theorem coasts_spec (hb : b < 32) (s : State) : MotEnters b 6 s (updSpin b relinkNoted (motEnter b 6 (lossTaken b 5 s))) ∧
    (spinOf (updSpin b relinkNoted (motEnter b 6 (lossTaken b 5 s))) b).relink = true := by
  have henters : MotEnters b 6 s (motEnter b 6 (lossTaken b 5 s)) := motEnters_motEnter hb (by decide) (SpinSame.lossTaken hb 5 s)
  refine ⟨motEnters_updSpin henters rfl rfl, ?_⟩
  rw [spinOf_updSpin, if_pos rfl]
  rfl

theorem LossFollowed.within (k : LossFollowed b s t) : WithinBay b s t [F.MOT_STATUS_LOSS_CAUSE b, F.MOT_STATUS_OBS_LOCK b, F.MOT_OBS_LOSS b] :=
  ((loss_atBayMotor k.frame).mono (by
    intro f hf
    simp only [obsLossFields, bayRetractFields, List.mem_append] at hf ⊢
    rcases hf with ((hf | hf) | hf) | hf | hf <;> simp [hf])).within

theorem LossFollowed.signs (k : LossFollowed b s t) (hb : b < 32) :
    Machine.get t (F.MOT_STATUS_LOSS_CAUSE b) = 5 ∧ Machine.get t (F.MOT_STATUS_OBS_LOCK b) = 0 ∧
    Machine.get t (F.MOT_OBS_LOSS b) = trunc 32 (satAdd 32 (Machine.get s (F.MOT_OBS_LOSS b)) 1) ∧ BayRetracts b s t :=
  loss_spec hb (by decide) (k.frame.mono (List.subset_append_right ..))

theorem completes_observerLoss_link (hi : bayInst s b = true) (hl : lossHolds s b 5 = true) :
    Completes (.observerLoss b 5) s fun t =>
      Machine.get t (F.MOT_STATUS_LOSS_CAUSE b) = 5 ∧ Machine.get t (F.MOT_STATUS_OBS_LOCK b) = 0 ∧
      Machine.get t (F.MOT_OBS_LOSS b) = trunc 32 (satAdd 32 (Machine.get s (F.MOT_OBS_LOSS b)) 1) ∧ Raised t (evMOT b) B.MOT_EVT_OBS_LOSS ∧
      BayRetracts b s t ∧ (spinOf t b).lossAt = now s ∧ (spinOf t b).lastWob = Machine.get s (F.MOT_WOB_SPEED b) ∧
      (motSt s b ≠ 8 → linkUp s b = false → MotEnters b 6 s t ∧ (spinOf t b).relink = true) ∧
      (motSt s b ≠ 8 → linkUp s b = true → motSt t b = 4 ∧ busOf t b = { busOf s b with pwmEn := false, repeats := 0 } ∧ (spinOf t b).stateAt = now s) ∧
      (motSt s b = 8 → motSt t b = 8 ∧ busOf t b = busOf s b) ∧
      WithinBay b s t [F.MOT_STATUS_LOSS_CAUSE b, F.MOT_STATUS_OBS_LOCK b, F.MOT_OBS_LOSS b] := by
  have hb := bayInst_lt hi
  have e := (exec_observerLoss hi hl (.inr rfl)).trans (if_pos rfl)
  split_ifs at e with h8 hup
  · have k := lossFollowed_fault hb s
    obtain ⟨h1, h2, h3, h4⟩ := k.signs hb
    have hsame := SpinSame.lossTaken hb 5 s
    exact completes_of_exec e ⟨h1, h2, h3, k.event, h4, k.at_, k.wob, fun h => absurd h8 h, fun h => absurd h8 h,
      fun _ => ⟨hsame.state.trans h8, hsame.bus⟩, k.within⟩
  · have k := lossFollowed_caught hb s
    obtain ⟨h1, h2, h3, h4⟩ := k.signs hb
    exact completes_of_exec e ⟨h1, h2, h3, k.event, h4, k.at_, k.wob, fun _ h => absurd (h.symm.trans hup) (by decide),
      fun _ _ => caught_spec hb s, fun h => absurd h h8, k.within⟩
  · have k := lossFollowed_coasts hb s
    obtain ⟨h1, h2, h3, h4⟩ := k.signs hb
    exact completes_of_exec e ⟨h1, h2, h3, k.event, h4, k.at_, k.wob, fun _ _ => coasts_spec hb s, fun _ h => absurd h hup,
      fun h => absurd h h8, k.within⟩

end period

/-- Settles O24: each change of a spindle's state is the entry of that state after what the window and the record note of it. -/
theorem spindleStates : Obligations.SpindleStates := by
  unfold Obligations.SpindleStates
  exact ⟨fun _ _ _ hi h5 hl h0 => completes_observerLoss_driven hi h5 hl h0, fun _ _ hi hl => completes_observerLoss_link hi hl,
    fun _ _ _ hi h4 hc hr hw => completes_recapture hi h4 hc hr hw, fun _ _ hi h5 hl ht => completes_confirmEnd hi h5 hl ht,
    fun _ _ hi h4 ht => completes_catchFail hi h4 ht, fun _ _ hi h6 hc => completes_coastEnd hi h6 hc,
    fun _ _ hi h7 hs => completes_brakeEnd hi h7 hs, fun _ _ hi h1 ht => completes_alignEnd hi h1 ht,
    fun _ _ hi h2 hl hr => completes_spindleHandover hi h2 hl hr, fun _ _ hi h2 ht => completes_rampFail hi h2 ht,
    fun _ _ hi h3 hr hl => completes_speedLock hi h3 hr hl, fun _ _ hi h3 hs hr => completes_stopDecelEnd hi h3 hs hr⟩

end Sys2Proof.Proofs
end

section
/-! SUPPORT. The clauses of O25 on the commands of a spindle (R195, R228, R239, R240, R248 to R250). -/

namespace Sys2Proof.Proofs

open Sys2Proof.Machine Sys2Proof.Laws

theorem spinCmd_apart : ∀ b < 32,
    (∀ f ∈ [F.MOT_STATUS_STATE b, F.CLK_TIME, F.MOT_STATUS_REGEN_BLOCKED b], f.key ∉ (F.MOT_CTRL_EN b :: motCmdFields b).map Fld.key) ∧
    (F.MOT_CTRL_EN b).key ∉ (motFields b).map Fld.key ∧ (F.MOT_STATUS_STATE b).key ≠ (F.MOT_STATUS_SPEED_LOCK b).key ∧
    (F.MOT_STATUS_FAULT_CAUSE b).key ∉ (motCmdFields b).map Fld.key ∧ (F.MOT_STATUS_SPEED_LOCK b).key ∉ (motCmdFields b).map Fld.key ∧
    ([F.MOT_OBS_LOSS b, F.MOT_RECAPTURE b, F.MOT_CATCH_FAIL b, F.MOT_PREDICTED b, F.MOT_SHIFTED b, F.MOT_STARTS_OK b,
      F.MOT_STARTS_FAIL b, F.MOT_RESID_PEAK b].map Fld.key).Nodup := by decide +kernel

section commands
variable {b v : Nat} {s t u : State} {fs : List Fld}

theorem motResult_atLink (k : AtLink motorParts b s t fs) (hs : motCmdFields b ⊆ fs) (op r : Nat) : AtLink motorParts b s (motResult b op r t) fs :=
  k.thenPutAll (by simp only [List.mem_cons, List.not_mem_nil, or_false]; rintro q (rfl | rfl | rfl | rfl) <;> exact hs (by simp [motCmdFields]))

@[simp] theorem spinOf_motResult (b op r j : Nat) (s : State) : spinOf (motResult b op r s) j = spinOf s j := spinOf_putAll ..

/-! ### SET_SPEED -/

/-- A spindle that starts (R239). -/
def spinStarted (v : Nat) (x : Spindle) : Spindle := { x with target := v, ref := 0, rampFails := 0, recapAt := none }
/-- A spindle in RUN with a new target (R240). -/
def spinAimed (v : Nat) (x : Spindle) : Spindle := { x with target := v, lockRun := 0, stopping := false }
/-- A coasting spindle that is to be caught (R248). -/
def spinRecalled (v : Nat) (x : Spindle) : Spindle := { x with recorded := some v, relink := false, recapAt := none }

/-- A target in range with EN set is taken as the spindle's state allows (R239, R240, R248). -/
theorem setSpeed_open (hen : Machine.get s (F.MOT_CTRL_EN b) ≠ 0)
    (hr : ¬(Machine.get s (F.MOT_KE_MAX_RPM b) < v ∨ (v < 300 ∧ v ≠ 0))) : setSpeed b v s =
      if motSt s b = 0 then
        if v = 0 then motResult b 0 0 s
        else if linkUp s b = false ∨ isSet s (F.CMOT_STATUS_OV_LATCHED (carOfBay s b)) = true then motResult b 0 2 s
        else motEnter b 1 (motResult b 0 0 (updSpin b (spinStarted v) s))
      else if motSt s b = 1 ∨ motSt s b = 2 then motResult b 0 0 (updSpin b (fun x => { x with target := v }) s)
      else if motSt s b = 3 then motResult b 0 0 (put (F.MOT_STATUS_SPEED_LOCK b) 0 (updSpin b (spinAimed v) s))
      else if motSt s b = 4 ∨ motSt s b = 5 then motResult b 0 0 (updSpin b (fun x => { x with recorded := some v }) s)
      else if motSt s b = 6 ∧ 10 * Machine.get s (F.MOT_BRAKE_BRAKE_RPM b) < (spinOf s b).crossRpm ∧ linkUp s b = true then
        motEnter b 4 (motResult b 0 0 (updSpin b (spinRecalled v) s))
      else motResult b 0 2 s := by
  rw [setSpeed]
  exact (if_neg hen).trans (if_neg hr)

theorem setSpeed_atLink (b v : Nat) (s : State) : AtLink motorParts b s (setSpeed b v s) (motCmdFields b ++ motFields b) := by
  have hres {t : State} (k : AtLink motorParts b s t (motCmdFields b ++ motFields b)) (r : Nat) :
      AtLink motorParts b s (motResult b 0 r t) (motCmdFields b ++ motFields b) := motResult_atLink k (List.subset_append_left ..) 0 r
  have hent {t : State} (k : AtLink motorParts b s t (motCmdFields b ++ motFields b)) (st : Nat) :
      AtLink motorParts b s (motEnter b st t) (motCmdFields b ++ motFields b) := motEnter_atLink k rfl rfl (List.subset_append_right ..) st
  have hself := AtLink.refl motorParts b s (motCmdFields b ++ motFields b)
  unfold setSpeed
  extract_lets st
  split_ifs
  · exact hres hself _
  · exact hres hself _
  · exact hres hself _
  · exact hres hself _
  · exact hent (hres (hself.thenSpin rfl _) 0) 1
  · exact hres (hself.thenSpin rfl _) 0
  · exact hres (AtLink.thenPut (hself.thenSpin rfl _) (by simp [motFields])) 0
  · exact hres (hself.thenSpin rfl _) 0
  · exact hent (hres (hself.thenSpin rfl _) 0) 4
  · exact hres hself _

theorem range_of_targetGood (hg : targetGood s b = true) : ¬(Machine.get s (F.MOT_KE_MAX_RPM b) < Machine.get s (F.MOT_CMD_TARGET b) ∨
    (Machine.get s (F.MOT_CMD_TARGET b) < 300 ∧ Machine.get s (F.MOT_CMD_TARGET b) ≠ 0)) := by
  simp only [targetGood, Bool.and_eq_true, Bool.or_eq_true, decide_eq_true_eq] at hg
  omega

/-- A new target while the spindle keeps its state: the result is 0 and only the record changes. -/
theorem setSpeed_noted (hb : b < 32) {g : Spindle → Spindle} (k : setSpeed b v s = motResult b 0 0 (updSpin b g s)) :
    MotAnswers b 0 0 (setSpeed b v s) ∧ spinOf (setSpeed b v s) b = g (spinOf s b) := by
  rw [k]
  exact ⟨motAnswers_motResult hb (by decide) (by decide) _, by rw [spinOf_motResult, spinOf_updSpin, if_pos rfl]⟩

/-- A target that makes the spindle enter a state. -/
theorem setSpeed_entered (hb : b < 32) {g : Spindle → Spindle} {st : Nat} (hst : st < 16)
    (k : setSpeed b v s = motEnter b st (motResult b 0 0 (updSpin b g s))) :
    MotAnswers b 0 0 (setSpeed b v s) ∧ MotEnters b st s (setSpeed b v s) ∧
    spinOf (setSpeed b v s) b = spinEntered (motResult b 0 0 (updSpin b g s)) b st (g (spinOf s b)) := by
  rw [k]
  refine ⟨motAnswers_motEnter hb (motAnswers_motResult hb (by decide) (by decide) _),
    motEnters_motEnter hb hst (((SpinSame.refl b s).upd g).result hb 0 0), ?_⟩
  rw [spinOf_motEnter, spinOf_motResult, spinOf_updSpin, if_pos rfl]

/-- A new target in RUN ends the speed lock (R240). -/
theorem setSpeed_run (hb : b < 32) (k : setSpeed b v s = motResult b 0 0 (put (F.MOT_STATUS_SPEED_LOCK b) 0 (updSpin b (spinAimed v) s))) :
    MotAnswers b 0 0 (setSpeed b v s) ∧ Machine.get (setSpeed b v s) (F.MOT_STATUS_SPEED_LOCK b) = 0 ∧
    spinOf (setSpeed b v s) b = spinAimed v (spinOf s b) := by
  obtain ⟨-, -, -, -, hlock, -⟩ := spinCmd_apart b hb
  rw [k]
  refine ⟨motAnswers_motResult hb (by decide) (by decide) _, ?_, by rw [spinOf_motResult, spinOf_put, spinOf_updSpin, if_pos rfl]⟩
  rw [(motResult_within b 0 0 _).2 _ hlock, get_put_same]
  rfl

theorem completes_setSpeed (hi : bayInst s b = true) (hen : Machine.get s (F.MOT_CTRL_EN b) ≠ 0) (hg : targetGood s b = true) :
    Completes (.setSpeed b) s fun t =>
      (motSt s b = 0 → Machine.get s (F.MOT_CMD_TARGET b) ≠ 0 → linkUp s b = true → isSet s (F.CMOT_STATUS_OV_LATCHED (carOfBay s b)) = false →
        MotAnswers b 0 0 t ∧ MotEnters b 1 s t ∧ (spinOf t b).target = Machine.get s (F.MOT_CMD_TARGET b) ∧ (spinOf t b).ref = 0 ∧
        (spinOf t b).rampFails = 0) ∧
      (motSt s b = 1 ∨ motSt s b = 2 → MotAnswers b 0 0 t ∧ spinOf t b = { spinOf s b with target := Machine.get s (F.MOT_CMD_TARGET b) }) ∧
      (motSt s b = 3 → MotAnswers b 0 0 t ∧ Machine.get t (F.MOT_STATUS_SPEED_LOCK b) = 0 ∧
        spinOf t b = { spinOf s b with target := Machine.get s (F.MOT_CMD_TARGET b), lockRun := 0, stopping := false }) ∧
      (motSt s b = 4 ∨ motSt s b = 5 → MotAnswers b 0 0 t ∧
        spinOf t b = { spinOf s b with recorded := some (Machine.get s (F.MOT_CMD_TARGET b)) }) ∧
      (motSt s b = 6 → 10 * Machine.get s (F.MOT_BRAKE_BRAKE_RPM b) < (spinOf s b).crossRpm → linkUp s b = true →
        MotAnswers b 0 0 t ∧ MotEnters b 4 s t ∧ (spinOf t b).recorded = some (Machine.get s (F.MOT_CMD_TARGET b))) ∧
      (7 ≤ motSt s b ∨ (motSt s b = 0 ∧ Machine.get s (F.MOT_CMD_TARGET b) ≠ 0 ∧ linkUp s b = false) →
        MotAnswers b 0 2 t ∧ Within s t (motCmdFields b)) ∧
      WithinMot b s t (motCmdFields b ++ motFields b) := by
  have hb := bayInst_lt hi
  have hopen := setSpeed_open (v := Machine.get s (F.MOT_CMD_TARGET b)) hen (range_of_targetGood hg)
  refine completes_of_exec (t := setSpeed b (Machine.get s (F.MOT_CMD_TARGET b)) s) (if_neg (by simp [hi])) ⟨fun h0 hv hup hov => ?_, fun h => ?_,
    fun h => ?_, fun h => ?_, fun h hc hup => ?_, fun h => ?_, withinMot_of_atLink (setSpeed_atLink ..)⟩
  · rw [if_pos h0, if_neg hv, if_neg (by rw [hup, hov]; decide)] at hopen
    obtain ⟨ha, he, hspin⟩ := setSpeed_entered hb (by decide) hopen
    exact ⟨ha, he, by rw [hspin]; rfl, by rw [hspin]; rfl, by rw [hspin]; rfl⟩
  · rw [if_neg (by omega), if_pos h] at hopen
    exact setSpeed_noted hb hopen
  · rw [if_neg (by omega), if_neg (by omega), if_pos h] at hopen
    exact setSpeed_run hb hopen
  · rw [if_neg (by omega), if_neg (by omega), if_neg (by omega), if_pos h] at hopen
    exact setSpeed_noted hb hopen
  · rw [if_neg (by omega), if_neg (by omega), if_neg (by omega), if_neg (by omega), if_pos ⟨h, hc, hup⟩] at hopen
    obtain ⟨ha, he, hspin⟩ := setSpeed_entered hb (by decide) hopen
    exact ⟨ha, he, by rw [hspin]; rfl⟩
  · have hrefused : setSpeed b (Machine.get s (F.MOT_CMD_TARGET b)) s = motResult b 0 2 s := by
      rcases h with h | ⟨h0, hv, hup⟩
      · rw [hopen, if_neg (by omega), if_neg (by omega), if_neg (by omega), if_neg (by omega), if_neg (by omega)]
      · rw [hopen, if_pos h0, if_neg hv, if_pos (.inl hup)]
    rw [hrefused]
    exact ⟨motAnswers_motResult hb (by decide) (by decide) s, motResult_within b 0 2 s⟩

theorem completes_setSpeed_refused (hi : bayInst s b = true) (hr : Machine.get s (F.MOT_CTRL_EN b) = 0 ∨ targetGood s b = false) :
    Completes (.setSpeed b) s fun t =>
      MotAnswers b 0 (if Machine.get s (F.MOT_CTRL_EN b) = 0 then 2 else 1) t ∧ Within s t (motCmdFields b) := by
  have hb := bayInst_lt hi
  have e : setSpeed b (Machine.get s (F.MOT_CMD_TARGET b)) s = motResult b 0 (if Machine.get s (F.MOT_CTRL_EN b) = 0 then 2 else 1) s := by
    by_cases hen : Machine.get s (F.MOT_CTRL_EN b) = 0
    · rw [if_pos hen]
      exact if_pos hen
    · have hout : Machine.get s (F.MOT_KE_MAX_RPM b) < Machine.get s (F.MOT_CMD_TARGET b) ∨
          (Machine.get s (F.MOT_CMD_TARGET b) < 300 ∧ Machine.get s (F.MOT_CMD_TARGET b) ≠ 0) := by
        have hbad := hr.resolve_left hen
        simp only [targetGood, Bool.and_eq_false_iff, Bool.or_eq_false_iff, decide_eq_false_iff_not] at hbad
        omega
      rw [if_neg hen]
      exact (if_neg hen).trans (if_pos hout)
  refine completes_of_exec (t := setSpeed b (Machine.get s (F.MOT_CMD_TARGET b)) s) (if_neg (by simp [hi])) ?_
  rw [e]
  exact ⟨motAnswers_motResult hb (by decide) (by split <;> decide) s, motResult_within b 0 _ s⟩

/-! ### STOP, COAST and EN -/

/-- The lenses of a bay retract between a write to its command registers and the motor's own work. -/
theorem bayStops (hb : b < 32) (hfs : fs = motCmdFields b ∨ fs = [F.MOT_CTRL_EN b]) (k0 : AtLink motorParts b s u fs)
    (k1 : AtLink motorParts b (retractBay b u) t (motFields b)) : BayRetracts b s t ∧ WithinBay b s t fs := by
  obtain ⟨-, -, -, hlens, -⟩ := bayRetract_apart b hb
  simp only [List.map_append, List.mem_append, not_or] at hlens
  refine ⟨bayRetracts_of hb k0 k1 (fun f hf => ?_) fun f hf => (hlens f (List.mem_append.1 hf)).2, AtBayMotor.within ?_⟩
  · obtain ⟨⟨hside, hcmd⟩, -⟩ := hlens f (List.mem_append.1 hf)
    rcases hfs with rfl | rfl
    · exact hcmd
    · exact fun hx => hside (List.map_subset _ (by simp) hx)
  · refine (((atBayMotor_of_atLink k0).mono ?_).trans ((retractBay_atBayMotor b u).mono ?_)).trans ((atBayMotor_of_atLink k1).mono ?_)
    · exact fun f hf => by simp [hf]
    · intro f hf
      rcases List.mem_append.1 hf with hf | hf <;> simp [hf]
    · exact fun f hf => by simp [hf]

/-- The bay's command answered and its lenses on their way back. -/
def bayAnswered (b op : Nat) (s : State) : State := retractBay b (motResult b op 0 s)

theorem motAnswers_bayAnswered (hb : b < 32) {op : Nat} (hop : op < 8) (s : State)
    (k : AtLink motorParts b (bayAnswered b op s) t (motFields b)) : MotAnswers b op 0 t :=
  motAnswers_then (motAnswers_then (motAnswers_motResult hb hop (by decide) s) fun f hf =>
    get_retractBay hb (List.mem_append_right _ hf) _) fun f hf => k.get (motCmd_apart_mot hb f hf)

theorem SpinSame.bayAnswered (hb : b < 32) (op : Nat) (s : State) : SpinSame b s (bayAnswered b op s) := ((SpinSame.refl b s).result hb op 0).retract hb

theorem spinOf_bayAnswered (b op : Nat) (s : State) : spinOf (bayAnswered b op s) b = spinOf s b := by
  rw [bayAnswered, spinOf_retractBay, spinOf_motResult]

theorem regen_bayAnswered (hb : b < 32) (op : Nat) (s : State) :
    isSet (bayAnswered b op s) (F.MOT_STATUS_REGEN_BLOCKED b) = isSet s (F.MOT_STATUS_REGEN_BLOCKED b) := by
  obtain ⟨hkeep, -⟩ := spinCmd_apart b hb
  have hregen : Machine.get (bayAnswered b op s) (F.MOT_STATUS_REGEN_BLOCKED b) = Machine.get s (F.MOT_STATUS_REGEN_BLOCKED b) :=
    (get_retractBay hb (by simp [spinReads]) _).trans ((motResult_within b op 0 s).2 _ fun hx => hkeep _ (by simp) (List.mem_cons_of_mem _ hx))
  rw [isSet, hregen, ← isSet]

/-- What a decelerating spindle notes (R239). -/
def spinStopping (x : Spindle) : Spindle := { x with stopping := true, lockRun := 0 }

theorem stopSpindle_eq (b : Nat) (u : State) : stopSpindle b u =
    if motSt u b = 3 then
      if isSet u (F.MOT_STATUS_REGEN_BLOCKED b) then coastSpindle b u
      else put (F.MOT_STATUS_SPEED_LOCK b) 0 (updSpin b spinStopping u)
    else if motSt u b = 1 ∨ motSt u b = 2 then motEnter b 7 u
    else if motSt u b = 4 ∨ motSt u b = 5 then coastSpindle b u
    else u := rfl

/-- STOP in RUN decelerates where regeneration is allowed (R239). -/
theorem stopSpindle_decelerates (hb : b < 32) (hsame : SpinSame b s u) (h3 : motSt s b = 3) (hr : isSet u (F.MOT_STATUS_REGEN_BLOCKED b) = false) :
    motSt (stopSpindle b u) b = 3 ∧ Machine.get (stopSpindle b u) (F.MOT_STATUS_SPEED_LOCK b) = 0 ∧
    spinOf (stopSpindle b u) b = spinStopping (spinOf u b) := by
  obtain ⟨-, -, hlock, -⟩ := spinCmd_apart b hb
  have hst : motSt u b = 3 := hsame.state.trans h3
  have hstop : stopSpindle b u = put (F.MOT_STATUS_SPEED_LOCK b) 0 (updSpin b spinStopping u) := by
    rw [stopSpindle_eq, if_pos hst, hr]
    exact if_neg (by decide)
  have hstate : motSt (put (F.MOT_STATUS_SPEED_LOCK b) 0 (updSpin b spinStopping u)) b = motSt u b := get_put_ne _ _ _ _ hlock
  rw [hstop, hstate, get_put_same, spinOf_put, spinOf_updSpin, if_pos rfl]
  exact ⟨hst, rfl, rfl⟩

/-- STOP coasts in RUN where regeneration is blocked, and in CATCH and CONFIRM (R239, R248). -/
theorem stopSpindle_coasts (hb : b < 32) (hsame : SpinSame b s u)
    (h : (motSt s b = 3 ∧ isSet u (F.MOT_STATUS_REGEN_BLOCKED b) = true) ∨ motSt s b = 4 ∨ motSt s b = 5) :
    MotEnters b 6 s (stopSpindle b u) := by
  have hst := hsame.state
  have hstop : stopSpindle b u = coastSpindle b u := by
    rw [stopSpindle_eq, hst]
    rcases h with ⟨h3, hr⟩ | h
    · rw [if_pos h3, if_pos hr]
    · rw [if_neg (by omega), if_neg (by omega), if_pos h]
  rw [hstop]
  exact (coastSpindle_enters hb hsame (by omega) (by omega) (by omega)).1

/-- STOP brakes from ALIGN and RAMP (R239). -/
theorem stopSpindle_brakes (hb : b < 32) (hsame : SpinSame b s u) (h : motSt s b = 1 ∨ motSt s b = 2) : MotEnters b 7 s (stopSpindle b u) := by
  have hstop : stopSpindle b u = motEnter b 7 u := by
    rw [stopSpindle_eq, hsame.state, if_neg (by omega), if_pos h]
  rw [hstop]
  exact motEnters_motEnter hb (by decide) hsame

theorem stopSpindle_stays (hsame : SpinSame b s u) (h : motSt s b = 0 ∨ 6 ≤ motSt s b) : stopSpindle b u = u := by
  rw [stopSpindle_eq, hsame.state, if_neg (by omega), if_neg (by omega), if_neg (by omega)]

theorem exec_spindleStop (hi : bayInst s b = true) (hen : Machine.get s (F.MOT_CTRL_EN b) ≠ 0) (h8 : motSt s b ≠ 8) :
    exec (.spindleStop b) s = .next (stopSpindle b (bayAnswered b 1 s)) := (if_neg (by simp [hi])).trans (if_neg (by simp [hen, h8]))

theorem completes_spindleStop (hi : bayInst s b = true) (hen : Machine.get s (F.MOT_CTRL_EN b) ≠ 0) (h8 : motSt s b ≠ 8) :
    Completes (.spindleStop b) s fun t =>
      MotAnswers b 1 0 t ∧ BayRetracts b s t ∧
      (motSt s b = 3 → isSet s (F.MOT_STATUS_REGEN_BLOCKED b) = false →
        motSt t b = 3 ∧ Machine.get t (F.MOT_STATUS_SPEED_LOCK b) = 0 ∧ spinOf t b = { spinOf s b with stopping := true, lockRun := 0 }) ∧
      (motSt s b = 3 → isSet s (F.MOT_STATUS_REGEN_BLOCKED b) = true → MotEnters b 6 s t) ∧
      (motSt s b = 1 ∨ motSt s b = 2 → MotEnters b 7 s t) ∧ (motSt s b = 4 ∨ motSt s b = 5 → MotEnters b 6 s t) ∧
      (motSt s b = 0 ∨ 6 ≤ motSt s b → motSt t b = motSt s b ∧ spinOf t b = spinOf s b ∧ busOf t b = busOf s b) ∧
      WithinBay b s t (motCmdFields b) := by
  have hb := bayInst_lt hi
  have hsame := SpinSame.bayAnswered hb 1 s
  have hregen := regen_bayAnswered hb 1 s
  have hspin := spinOf_bayAnswered b 1 s
  have hframe : AtLink motorParts b (bayAnswered b 1 s) (stopSpindle b (bayAnswered b 1 s)) (motFields b) :=
    stopSpindle_atLink (AtLink.refl ..) (List.Subset.refl _)
  have hcmd : AtLink motorParts b s (motResult b 1 0 s) (motCmdFields b) := motResult_atLink (AtLink.refl ..) (List.Subset.refl _) 1 0
  obtain ⟨hretract, hwithin⟩ := bayStops hb (.inl rfl) hcmd hframe
  have hanswers := motAnswers_bayAnswered hb (by decide : 1 < 8) s hframe
  refine completes_of_exec (exec_spindleStop hi hen h8) ⟨hanswers, hretract, fun h3 hr => ?_, fun h3 hr => ?_,
    stopSpindle_brakes hb hsame, fun h => stopSpindle_coasts hb hsame (.inr h), fun h => ?_, hwithin⟩
  · obtain ⟨hst, hlock, hnote⟩ := stopSpindle_decelerates hb hsame h3 (hregen.trans hr)
    exact ⟨hst, hlock, by rw [hnote, hspin, spinStopping]⟩
  · exact stopSpindle_coasts hb hsame (.inl ⟨h3, hregen.trans hr⟩)
  · rw [stopSpindle_stays hsame h]
    exact ⟨hsame.state, hspin, hsame.bus⟩

theorem completes_spindleCoast (hi : bayInst s b = true) (hen : Machine.get s (F.MOT_CTRL_EN b) ≠ 0) (h8 : motSt s b ≠ 8) :
    Completes (.spindleCoast b) s fun t =>
      MotAnswers b 2 0 t ∧ BayRetracts b s t ∧ (motSt s b ≠ 0 → motSt s b ≠ 6 → MotEnters b 6 s t ∧ (spinOf t b).recorded = none) ∧
      (motSt s b = 0 ∨ motSt s b = 6 → motSt t b = motSt s b ∧ spinOf t b = spinOf s b ∧ busOf t b = busOf s b) ∧
      WithinBay b s t (motCmdFields b) := by
  have hb := bayInst_lt hi
  have hsame := SpinSame.bayAnswered hb 2 s
  have hst := hsame.state
  have hframe : AtLink motorParts b (bayAnswered b 2 s) (coastSpindle b (bayAnswered b 2 s)) (motFields b) :=
    coastSpindle_atLink (AtLink.refl ..) (List.Subset.refl _)
  obtain ⟨hretract, hwithin⟩ := bayStops hb (.inl rfl) (motResult_atLink (AtLink.refl motorParts b s _) (List.Subset.refl _) 2 0) hframe
  have e : exec (.spindleCoast b) s = .next (coastSpindle b (bayAnswered b 2 s)) := (if_neg (by simp [hi])).trans (if_neg (by simp [hen, h8]))
  refine completes_of_exec e ⟨motAnswers_bayAnswered hb (by decide) s hframe, hretract, fun h0 h6 => ?_, fun h => ?_, hwithin⟩
  · obtain ⟨henters, hspin⟩ := coastSpindle_enters hb hsame h0 h6 h8
    exact ⟨henters, by rw [hspin]; rfl⟩
  · rw [coastSpindle_stays (by omega)]
    exact ⟨hst, spinOf_bayAnswered b 2 s, hsame.bus⟩

theorem completes_motEnable {en : Nat} (hi : bayInst s b = true) :
    Completes (.motEnable b en) s fun t =>
      Machine.get t (F.MOT_CTRL_EN b) = trunc 1 en ∧ (en % 2 = 1 ∨ motSt s b = 0 → Within s t [F.MOT_CTRL_EN b]) ∧
      (en % 2 = 0 → motSt s b ≠ 0 → BayRetracts b s t ∧ (motSt s b ≠ 6 → motSt s b ≠ 8 → MotEnters b 6 s t)) ∧
      WithinBay b s t [F.MOT_CTRL_EN b] := by
  have hb := bayInst_lt hi
  obtain ⟨hkeep, hen, -⟩ := spinCmd_apart b hb
  have hput : Within s (put (F.MOT_CTRL_EN b) en s) [F.MOT_CTRL_EN b] := within_put (within_refl s _) (by simp)
  have hlink : AtLink motorParts b s (put (F.MOT_CTRL_EN b) en s) [F.MOT_CTRL_EN b] := atLink_of_within hput
  have e : exec (.motEnable b en) s = if en % 2 = 0 ∧ motSt s b ≠ 0 then .next (coastSpindle b (retractBay b (put (F.MOT_CTRL_EN b) en s)))
      else .next (put (F.MOT_CTRL_EN b) en s) := if_neg (by simp [hi])
  split_ifs at e with hoff
  · have hsame : SpinSame b s (retractBay b (put (F.MOT_CTRL_EN b) en s)) := SpinSame.retract ⟨get_put_ne _ _ _ _ fun h => hkeep (F.MOT_STATUS_STATE b) (by simp) (by rw [h]; simp),
      rfl, get_put_ne _ _ _ _ fun h => hkeep F.CLK_TIME (by simp) (by rw [h]; simp)⟩ hb
    have hframe : AtLink motorParts b (retractBay b (put (F.MOT_CTRL_EN b) en s)) (coastSpindle b (retractBay b (put (F.MOT_CTRL_EN b) en s))) (motFields b) :=
      coastSpindle_atLink (AtLink.refl ..) (List.Subset.refl _)
    obtain ⟨hretract, hwithin⟩ := bayStops hb (.inr rfl) hlink hframe
    refine completes_of_exec e ⟨?_, fun h => by omega, fun _ h0 => ⟨hretract, fun h6 h8 => (coastSpindle_enters hb hsame h0 h6 h8).1⟩, hwithin⟩
    rw [hframe.get hen, get_retractBay hb (by simp [spinReads]), get_put_same]
    rfl
  · exact completes_of_exec e ⟨get_put_same .., fun _ => hput, fun h h0 => absurd ⟨h, h0⟩ hoff,
      ((atBayMotor_of_atLink hlink).mono fun f hf => by simp at hf; simp [hf]).within⟩

/-! ### CLEAR_FAULT, a reserved OP and CLR_CNT -/

theorem completes_motClearFault (hi : bayInst s b = true) (h8 : motSt s b = 8) (hs : spinStill s b = true) :
    Completes (.motClearFault b) s fun t =>
      MotAnswers b 3 0 t ∧ MotEnters b 0 s t ∧ Machine.get t (F.MOT_STATUS_FAULT_CAUSE b) = 0 ∧
      WithinMot b s t (F.MOT_STATUS_FAULT_CAUSE b :: (motCmdFields b ++ motFields b)) := by
  have hb := bayInst_lt hi
  obtain ⟨-, -, -, hcause, -⟩ := spinCmd_apart b hb
  have hside : F.MOT_STATUS_FAULT_CAUSE b ∈ spinSideFields b := by simp [spinSideFields]
  have hsame : SpinSame b s (put (F.MOT_STATUS_FAULT_CAUSE b) 0 (motResult b 3 0 s)) := ((SpinSame.refl b s).result hb 3 0).put hb hside 0
  have e : exec (.motClearFault b) s = .next (motEnter b 0 (put (F.MOT_STATUS_FAULT_CAUSE b) 0 (motResult b 3 0 s))) :=
    (if_neg (by simp [hi])).trans (if_neg (by simp [h8, hs]))
  have hanswers : MotAnswers b 3 0 (put (F.MOT_STATUS_FAULT_CAUSE b) 0 (motResult b 3 0 s)) :=
    motAnswers_then (motAnswers_motResult hb (by decide) (by decide) s) fun f hf =>
      get_put_ne _ _ _ _ fun h => hcause (h ▸ List.mem_map_of_mem hf)
  refine completes_of_exec e ⟨motAnswers_motEnter hb hanswers, motEnters_motEnter hb (by decide) hsame, ?_,
    withinMot_of_atLink (motEnter_atLink (AtLink.thenPut (motResult_atLink (AtLink.refl ..) ?_ 3 0) (List.mem_cons_self ..)) rfl rfl ?_ 0)⟩
  · rw [get_motEnter_side hb (List.mem_cons_of_mem _ (List.mem_cons_of_mem _ hside)), get_put_same]
    rfl
  · exact fun f hf => by simp [hf]
  · exact fun f hf => by simp [hf]

theorem completes_motCmdRefused {op : Nat} (hi : bayInst s b = true) (h4 : 4 ≤ op % 8) :
    Completes (.motCmdRefused b op) s fun t => MotAnswers b (op % 8) 2 t ∧ Within s t (motCmdFields b) :=
  completes_of_exec (if_neg (by rw [hi]; simp; omega))
    ⟨motAnswers_motResult (bayInst_lt hi) (Nat.mod_lt _ (by decide)) (by decide) s, motResult_within b _ 2 s⟩

theorem completes_motClrCnt (hi : bayInst s b = true) :
    Completes (.motClrCnt b) s fun t =>
      (∀ f ∈ [F.MOT_OBS_LOSS b, F.MOT_RECAPTURE b, F.MOT_CATCH_FAIL b, F.MOT_PREDICTED b, F.MOT_SHIFTED b, F.MOT_STARTS_OK b,
        F.MOT_STARTS_FAIL b, F.MOT_RESID_PEAK b], Machine.get t f = 0) ∧
      Within s t [F.MOT_OBS_LOSS b, F.MOT_RECAPTURE b, F.MOT_CATCH_FAIL b, F.MOT_PREDICTED b, F.MOT_SHIFTED b, F.MOT_STARTS_OK b,
        F.MOT_STARTS_FAIL b, F.MOT_RESID_PEAK b] := by
  obtain ⟨-, -, -, -, -, hn⟩ := spinCmd_apart b (bayInst_lt hi)
  exact completes_of_exec (if_neg (by simp [hi])) ⟨fun f hf => get_clearAll hn hf s, within_clearAll _ s⟩

end commands

end Sys2Proof.Proofs
end

section
/-! SUPPORT. The clauses of O25 on the chopper and the motor bus (R242, R243, R270): walks over the bays of a carousel's leaf. -/

namespace Sys2Proof.Proofs

open Sys2Proof.Machine Sys2Proof.Laws

section walks
variable {p : Parts} {b c j : Nat} {s t u : State} {fs : List Fld} {f : Nat → State → State} {l : List Nat}

/-! ### A walk over bays -/

theorem nodup_baysOfCar (s : State) (c : Nat) : (baysOfCar s c).Nodup := (List.nodup_range.filter _).filter _

theorem lt_of_mem_baysOfCar (h : b ∈ baysOfCar s c) : b < 32 := bayInst_lt (List.mem_filter.1 h).2

/-- A walk whose steps each stay within the given parts and the listed fields does so too. -/
theorem forAll_parts (hk : ∀ b ∈ l, ∀ u, AtLink p b u (f b u) fs) (s : State) :
    hideParts p (inner (forAll l f s)) = hideParts p (inner s) ∧ OnlyFields s (forAll l f s) fs :=
  forAll_induct (fun u => hideParts p (inner u) = hideParts p (inner s) ∧ OnlyFields s u fs) f l s ⟨rfl, only_refl s fs⟩ fun b u hb hu =>
    ⟨(hk b hb u).rest.trans hu.1, only_trans hu.2 (hk b hb u).only⟩

/-- What no step of a walk changes. -/
theorem forAll_keeps {α : Type} (o : State → α) (hk : ∀ b ∈ l, ∀ u, o (f b u) = o u) (s : State) : o (forAll l f s) = o s :=
  forAll_induct (fun u => o u = o s) f l s rfl fun b u hb hu => (hk b hb u).trans hu

/-- What one step of a walk alone changes is as that step leaves it. -/
theorem forAll_at {α : Type} (o : State → α) (hn : l.Nodup) (hj : j ∈ l) (hk : ∀ b ∈ l, b ≠ j → ∀ u, o (f b u) = o u) {post : α → Prop}
    (hstep : ∀ u, o u = o s → post (o (f j u))) : post (o (forAll l f s)) :=
  forAll_once (pre := fun u => o u = o s) (post := fun u => post (o u)) hn hj rfl (fun b hb hne u hu => (hk b hb hne u).trans hu) hstep
    fun b hb hne u hu => (hk b hb hne u).symm ▸ hu

end walks

/-! ### The chopper's fault -/

theorem headEv_cmot {c : Nat} : HeadEv (evCMOT c) := ⟨by simp only [evCMOT, Fld.key, F.CMOT_EVT, F.EVT_LOG_HEAD]; omega, rfl⟩

/-- What the fault of a chopper writes of a bay (R242). -/
def chopFields (b : Nat) : List Fld := F.MOT_STATUS_REGEN_BLOCKED b :: motFields b

theorem chopBay_apart : ∀ b < 32, ∀ j < 32, ∀ f ∈ [F.MOT_STATUS_STATE j, F.MOT_STATUS_SPEED_LOCK j, F.MOT_STATUS_REGEN_BLOCKED j],
    b ≠ j → f.key ∉ (chopFields b).map Fld.key := by decide +kernel

theorem regen_apart : ∀ b < 32, (F.MOT_STATUS_REGEN_BLOCKED b).key ∉ (motFields b).map Fld.key ∧
    ∀ f ∈ [F.MOT_STATUS_STATE b, F.CLK_TIME], f.key ≠ (F.MOT_STATUS_REGEN_BLOCKED b).key := by decide +kernel

/-- What the fault of a chopper writes of the carousel's registers (R242). -/
def chopCarFields (c : Nat) : List Fld := [F.CMOT_STATUS_CHOP_FAULT c, F.CMOT_BUS_EVENTS_CHOP c] ++ evFields (evCMOT c)

theorem chopCar_apart : ∀ c < 4, ((chopCarFields c).map Fld.key).Nodup ∧ ∀ b < 32,
    (∀ f ∈ [F.CMOT_STATUS_CHOP_FAULT c, F.CMOT_BUS_EVENTS_CHOP c, F.CMOT_EVT c], f.key ∉ (chopFields b).map Fld.key) ∧
    (F.MOT_STATUS_STATE b).key ∉ (chopCarFields c).map Fld.key := by decide +kernel

section chop
variable {b c j : Nat} {s t u : State} {fs : List Fld}

/-- The carousel's part of a chopper's fault (R242). -/
def chopNoted (c : Nat) (s : State) : State :=
  raise (evCMOT c) B.CMOT_EVT_CHOP_FAULT (bump (F.CMOT_BUS_EVENTS_CHOP c) 1 (put (F.CMOT_STATUS_CHOP_FAULT c) 1 s))

/-- A bay's part: regeneration is blocked, and a spindle in RUN or CONFIRM coasts (R242, R248). -/
def bayChopped (b : Nat) (t : State) : State :=
  if motSt t b = 3 ∨ motSt t b = 5 then coastSpindle b (put (F.MOT_STATUS_REGEN_BLOCKED b) 1 t) else put (F.MOT_STATUS_REGEN_BLOCKED b) 1 t

theorem exec_chopperFault (hi : carInst s c = true) (hr : 2 ≤ (crsOf s c).lowRun ∨ 4 ≤ (crsOf s c).riseRun)
    (hf : isSet s (F.CMOT_STATUS_CHOP_FAULT c) = false) : exec (.chopperFault c) s = .next (forAll (baysOfCar s c) bayChopped (chopNoted c s)) := by
  refine if_neg ?_
  rw [hi, hf]
  simp only [Bool.true_eq_false, false_or, or_false, Bool.false_eq_true]
  omega

theorem chopNoted_within (c : Nat) (s : State) : Within s (chopNoted c s) (chopCarFields c) :=
  within_raise (within_put (within_put (within_refl s _) (by simp [chopCarFields])) (by simp [chopCarFields])) (by simp [chopCarFields, evFields])
    (by simp [chopCarFields, evFields])

theorem get_chopNoted (hc : c < 4) (s : State) : Machine.get (chopNoted c s) (F.CMOT_STATUS_CHOP_FAULT c) = 1 ∧
    Machine.get (chopNoted c s) (F.CMOT_BUS_EVENTS_CHOP c) = trunc 16 (satAdd 16 (Machine.get s (F.CMOT_BUS_EVENTS_CHOP c)) 1) := by
  obtain ⟨hn, -⟩ := chopCar_apart c hc
  simp only [chopCarFields, List.cons_append, List.nil_append, List.map_cons, List.nodup_cons, List.mem_cons, not_or] at hn
  obtain ⟨⟨hne, hfault⟩, hcount, -⟩ := hn
  have hraise : Within (bump (F.CMOT_BUS_EVENTS_CHOP c) 1 (put (F.CMOT_STATUS_CHOP_FAULT c) 1 s)) (chopNoted c s) (evFields (evCMOT c)) :=
    within_raise (within_refl _ _) (by simp [evFields]) (by simp [evFields])
  refine ⟨?_, ?_⟩
  · rw [hraise.2 _ hfault, get_bump_ne hne, get_put_same]
    rfl
  · rw [hraise.2 _ hcount, get_bump_same, get_put_ne _ _ _ _ (Ne.symm hne)]
    rfl

theorem bayChopped_atLink (b : Nat) (u : State) : AtLink motorParts b u (bayChopped b u) (chopFields b) := by
  have hput : AtLink motorParts b u (put (F.MOT_STATUS_REGEN_BLOCKED b) 1 u) (chopFields b) := atLink_put (List.mem_cons_self ..)
  unfold bayChopped
  split
  · exact coastSpindle_atLink hput (List.subset_cons_self ..)
  · exact hput

/-- What a chopper's fault shows of a bay: its state, its regeneration, its speed lock and the PWM enable of its link. -/
def chopView (b : Nat) (s : State) : Nat × Nat × Nat × Bool :=
  (motSt s b, Machine.get s (F.MOT_STATUS_REGEN_BLOCKED b), Machine.get s (F.MOT_STATUS_SPEED_LOCK b), (busOf s b).pwmEn)

theorem chopView_of_atLink (hb : b < 32) (hj : j < 32) (hne : b ≠ j) (k : AtLink motorParts b s t (chopFields b)) : chopView j t = chopView j s := by
  have hget := fun f hf => k.get (chopBay_apart b hb j hj f hf hne)
  have hst : motSt t j = motSt s j := hget _ (by simp)
  rw [chopView, hst, hget (F.MOT_STATUS_REGEN_BLOCKED j) (by simp), hget (F.MOT_STATUS_SPEED_LOCK j) (by simp), k.bus j (Ne.symm hne), ← chopView]

/-- A bay after its chopper's fault, from the state its spindle was in. -/
def Chopped (st : Nat) (v : Nat × Nat × Nat × Bool) : Prop :=
  v.2.1 = 1 ∧ v.1 = (if st = 3 ∨ st = 5 then 6 else st) ∧ (st = 3 ∨ st = 5 → v.2.2.2 = false ∧ v.2.2.1 = 0)

theorem chopped_bayChopped (hb : b < 32) (u : State) : Chopped (motSt u b) (chopView b (bayChopped b u)) := by
  obtain ⟨hregen, hkeep⟩ := regen_apart b hb
  have hst : motSt (put (F.MOT_STATUS_REGEN_BLOCKED b) 1 u) b = motSt u b := get_put_ne _ _ _ _ (hkeep _ (by simp))
  have hput : Machine.get (put (F.MOT_STATUS_REGEN_BLOCKED b) 1 u) (F.MOT_STATUS_REGEN_BLOCKED b) = 1 := get_put_same ..
  by_cases h : motSt u b = 3 ∨ motSt u b = 5
  · have hsame : SpinSame b u (put (F.MOT_STATUS_REGEN_BLOCKED b) 1 u) := ⟨hst, rfl, get_put_ne _ _ _ _ (hkeep _ (by simp))⟩
    obtain ⟨⟨hstate, hlock, hbus, -⟩, -⟩ := coastSpindle_enters hb hsame (by omega) (by omega) (by omega)
    have hframe : AtLink motorParts b (put (F.MOT_STATUS_REGEN_BLOCKED b) 1 u) (coastSpindle b (put (F.MOT_STATUS_REGEN_BLOCKED b) 1 u)) (motFields b) :=
      coastSpindle_atLink (AtLink.refl ..) (List.Subset.refl _)
    rw [bayChopped, if_pos h]
    refine ⟨(hframe.get hregen).trans hput, hstate.trans (if_pos h).symm, fun _ => ⟨?_, hlock (by decide)⟩⟩
    exact congrArg BusLink.pwmEn hbus
  · rw [bayChopped, if_neg h]
    exact ⟨hput, hst.trans (if_neg h).symm, fun h' => absurd h' h⟩

/-- Every bay of the leaf is chopped. -/
theorem chopped_bay (hc : c < 4) (hb : b ∈ baysOfCar s c) : Chopped (motSt s b) (chopView b (forAll (baysOfCar s c) bayChopped (chopNoted c s))) := by
  obtain ⟨-, hcar⟩ := chopCar_apart c hc
  have hb' := lt_of_mem_baysOfCar hb
  have hst : motSt (chopNoted c s) b = motSt s b := (chopNoted_within c s).2 _ (hcar b hb').2
  refine forAll_at (chopView b) (nodup_baysOfCar s c) hb
    (fun i hi hne u => chopView_of_atLink (lt_of_mem_baysOfCar hi) hb' hne (bayChopped_atLink i u)) fun u hu => ?_
  have hu' : motSt u b = motSt s b := (congrArg Prod.fst hu).trans hst
  exact hu' ▸ chopped_bayChopped hb' u

theorem completes_chopperFault (hi : carInst s c = true) (hr : 2 ≤ (crsOf s c).lowRun ∨ 4 ≤ (crsOf s c).riseRun)
    (hf : isSet s (F.CMOT_STATUS_CHOP_FAULT c) = false) :
    Completes (.chopperFault c) s fun t =>
      Machine.get t (F.CMOT_STATUS_CHOP_FAULT c) = 1 ∧ Raised t (evCMOT c) B.CMOT_EVT_CHOP_FAULT ∧
      Machine.get t (F.CMOT_BUS_EVENTS_CHOP c) = trunc 16 (satAdd 16 (Machine.get s (F.CMOT_BUS_EVENTS_CHOP c)) 1) ∧
      (∀ b ∈ baysOfCar s c, Machine.get t (F.MOT_STATUS_REGEN_BLOCKED b) = 1 ∧
        motSt t b = (if motSt s b = 3 ∨ motSt s b = 5 then 6 else motSt s b) ∧
        (motSt s b = 3 ∨ motSt s b = 5 → (busOf t b).pwmEn = false ∧ Machine.get t (F.MOT_STATUS_SPEED_LOCK b) = 0)) ∧
      inner t = { inner s with spindles := t.spindles, buses := t.buses } ∧
      OnlyFields s t ([F.CMOT_STATUS_CHOP_FAULT c, F.CMOT_BUS_EVENTS_CHOP c] ++ evFields (evCMOT c) ++
        (baysOfCar s c).map F.MOT_STATUS_REGEN_BLOCKED ++ (baysOfCar s c).flatMap motFields) := by
  have hc := carInst_lt hi
  obtain ⟨-, hcar⟩ := chopCar_apart c hc
  obtain ⟨hfault, hcount⟩ := get_chopNoted hc s
  obtain ⟨hrest, hnoted⟩ := chopNoted_within c s
  have hkeep (f : Fld) (hf : f ∈ [F.CMOT_STATUS_CHOP_FAULT c, F.CMOT_BUS_EVENTS_CHOP c, F.CMOT_EVT c]) :
      Machine.get (forAll (baysOfCar s c) bayChopped (chopNoted c s)) f = Machine.get (chopNoted c s) f :=
    forAll_keeps (Machine.get · f) (fun b hb u => (bayChopped_atLink b u).get ((hcar b (lt_of_mem_baysOfCar hb)).1 f hf)) _
  have hstep : ∀ b ∈ baysOfCar s c, ∀ u, AtLink motorParts b u (bayChopped b u)
      ((baysOfCar s c).map F.MOT_STATUS_REGEN_BLOCKED ++ (baysOfCar s c).flatMap motFields) := fun b hb u => (bayChopped_atLink b u).mono fun f hf => by
    rcases List.mem_cons.1 hf with rfl | hf
    · exact List.mem_append_left _ (List.mem_map_of_mem hb)
    · exact List.mem_append_right _ (List.mem_flatMap.2 ⟨b, hb, hf⟩)
  obtain ⟨hparts, honly⟩ := forAll_parts hstep (chopNoted c s)
  refine completes_of_exec (exec_chopperFault hi hr hf) ⟨(hkeep _ (by simp)).trans hfault, ?_, (hkeep _ (by simp)).trans hcount,
    fun b hb => chopped_bay (carInst_lt hi) hb, ?_, ?_⟩
  · exact raised_of_get (hkeep (F.CMOT_EVT c) (by simp)) (raised_raise headEv_cmot (by decide))
  · rw [hrest] at hparts
    exact congrArg (fun u : State => { u with spindles := (forAll (baysOfCar s c) bayChopped (chopNoted c s)).spindles,
                                              buses := (forAll (baysOfCar s c) bayChopped (chopNoted c s)).buses }) hparts
  · rw [List.append_assoc]
    exact only_trans (only_mono hnoted fun f hf => List.map_subset _ (List.subset_append_left ..) (List.mem_map_of_mem hf))
      (only_mono honly fun f hf => List.map_subset _ (List.subset_append_right ..) (List.mem_map_of_mem hf))

/-! ### The end of the fault -/

/-- A chopper's runs start anew (R242). -/
def chopRuns (x : Carousel) : Carousel := { x with lowRun := 0, riseRun := 0 }

/-- Regeneration is allowed on a bay again (R242). -/
def bayFreed (b : Nat) (t : State) : State := put (F.MOT_STATUS_REGEN_BLOCKED b) 0 t

/-- The carousel's part of the end of the fault. -/
def carFreed (c : Nat) (s : State) : State := updCrs c chopRuns (put (F.CMOT_STATUS_CHOP_FAULT c) 0 s)

theorem exec_chopFaultClr (hi : carInst s c = true) (hv : Machine.get s (F.CMOT_BUS_STATUS_V c) < 50000) :
    exec (.chopFaultClr c) s = .next (forAll (baysOfCar s c) bayFreed (carFreed c s)) :=
  if_neg (by rw [hi]; simp only [Bool.true_eq_false, false_or]; omega)

theorem get_bayFreed {f : Fld} (hf : f.key ∉ (chopFields b).map Fld.key) (u : State) : Machine.get (bayFreed b u) f = Machine.get u f :=
  get_put_ne _ _ _ _ fun e => hf (by rw [e]; simp [chopFields])

theorem crsOf_carFreed (c : Nat) (s : State) : crsOf (carFreed c s) c = chopRuns (crsOf s c) := by
  rw [carFreed, crsOf_updCrs, if_pos rfl]
  rfl

theorem freed_atCar (c : Nat) (s : State) : AtCar c s (forAll (baysOfCar s c) bayFreed (carFreed c s))
    (F.CMOT_STATUS_CHOP_FAULT c :: (baysOfCar s c).map F.MOT_STATUS_REGEN_BLOCKED) := by
  have hcar : AtCar c s (carFreed c s) (F.CMOT_STATUS_CHOP_FAULT c :: (baysOfCar s c).map F.MOT_STATUS_REGEN_BLOCKED) :=
    AtCar.thenCrs ((AtCar.refl ..).thenPutAll (l := [(F.CMOT_STATUS_CHOP_FAULT c, 0)]) (by simp)) chopRuns
  refine forAll_induct (fun u => AtCar c s u _) _ _ _ hcar fun b u hb hu => hu.thenPutAll (l := [(F.MOT_STATUS_REGEN_BLOCKED b, 0)]) fun q hq => ?_
  rw [List.mem_singleton.1 hq]
  exact List.mem_cons_of_mem _ (List.mem_map_of_mem hb)

theorem completes_chopFaultClr (hi : carInst s c = true) (hv : Machine.get s (F.CMOT_BUS_STATUS_V c) < 50000) :
    Completes (.chopFaultClr c) s fun t =>
      Machine.get t (F.CMOT_STATUS_CHOP_FAULT c) = 0 ∧ (∀ b ∈ baysOfCar s c, Machine.get t (F.MOT_STATUS_REGEN_BLOCKED b) = 0) ∧
      crsOf t c = { crsOf s c with lowRun := 0, riseRun := 0 } ∧
      WithinCrs c s t (F.CMOT_STATUS_CHOP_FAULT c :: (baysOfCar s c).map F.MOT_STATUS_REGEN_BLOCKED) := by
  obtain ⟨-, hcar⟩ := chopCar_apart c (carInst_lt hi)
  obtain ⟨⟨r, g, x, hshape⟩, hcrs, honly⟩ := freed_atCar c s
  have hfault : Machine.get (forAll (baysOfCar s c) bayFreed (carFreed c s)) (F.CMOT_STATUS_CHOP_FAULT c)
      = Machine.get (carFreed c s) (F.CMOT_STATUS_CHOP_FAULT c) :=
    forAll_keeps (Machine.get · (F.CMOT_STATUS_CHOP_FAULT c))
      (fun b hb u => get_bayFreed ((hcar b (lt_of_mem_baysOfCar hb)).1 _ (by simp)) u) _
  have hruns : crsOf (forAll (baysOfCar s c) bayFreed (carFreed c s)) c = crsOf (carFreed c s) c := forAll_keeps (f := bayFreed) (crsOf · c) (fun _ _ _ => rfl) _
  refine completes_of_exec (exec_chopFaultClr hi hv) ⟨hfault.trans ?_, fun b hb => ?_, hruns.trans (crsOf_carFreed c s), ?_, hcrs, honly⟩
  · exact get_put_same (F.CMOT_STATUS_CHOP_FAULT c) 0 s
  · exact forAll_at (Machine.get · (F.MOT_STATUS_REGEN_BLOCKED b)) (post := (· = 0)) (nodup_baysOfCar s c) hb
      (fun i hi hne u => get_bayFreed (chopBay_apart i (lt_of_mem_baysOfCar hi) b (lt_of_mem_baysOfCar hb) _ (by simp) hne) u)
      fun u _ => get_put_same (F.MOT_STATUS_REGEN_BLOCKED b) 0 u
  · rw [hshape]
    rfl

end chop

end Sys2Proof.Proofs
end

section
/-! SUPPORT. The clauses of O25 on the overvoltage latch (R243, R270), and O25. -/

namespace Sys2Proof.Proofs

open Sys2Proof.Machine Sys2Proof.Laws

/-! ### The stepper enable returns -/

/-- The parts that a bay's stepper enable moves. -/
abbrev stepperParts : Parts := { buses := true, axes := true, force := true }

/-- What the waking of one axis writes (R270). -/
def wakeFields (b a : Nat) : List Fld := [F.MOV_AX_STATUS_STATE b a, F.MOV_AX_POS b a, F.MOV_AX_STATUS_POS_VALID b a]

theorem wake_apart : ∀ b < 32, ∀ a ∈ [0, 1, 2], ∀ i ∈ [0, 1, 2], (F.MOV_AX_CTRL_EN b a).key ∉ (wakeFields b i).map Fld.key ∧
    (i = a ∨ (F.MOV_AX_STATUS_STATE b a).key ∉ (wakeFields b i).map Fld.key) := by decide +kernel

/-- What a stepper enable writes lies in the 64 KiB block of its bay, or, as the head of the event log, below all blocks. -/
theorem stepFields_block : ∀ b < 32, ∀ f ∈ stepFields b, f.key / 0x80000 < 0x300 ∨ f.key / 0x80000 = 0x300 + b := by decide +kernel

theorem axFields_block : ∀ b < 32, ∀ a ∈ [0, 1, 2], ∀ f ∈ [F.MOV_AX_STATUS_STATE b a, F.MOV_AX_CTRL_EN b a], f.key / 0x80000 = 0x300 + b := by
  decide +kernel

theorem ovCar_apart : ∀ c < 4, ∀ b < 32, (F.CMOT_STATUS_OV_LATCHED c).key ∉ (stepFields b).map Fld.key ∧
    ∀ a < 3, (F.MOV_AX_CTRL_EN b a).key ≠ (F.CMOT_STATUS_OV_LATCHED c).key := by decide +kernel

section stepper
variable {b c j a i : Nat} {s t u : State} {fs : List Fld}

/-- One axis leaves OFF (R257, R267, R270). -/
def axLeavesOff (b a : Nat) (t : State) : State := put (F.MOV_AX_STATUS_STATE b a) 1 (startDrive b a (resync b a t))

/-- An axis in OFF that is enabled leaves it while the stepper enable is set (R269, R270). -/
def axWoken (b a : Nat) (t : State) : State :=
  if axSt t b a = 0 ∧ Machine.get t (F.MOV_AX_CTRL_EN b a) = 1 ∧ (busOf t b).stepEn = true then axLeavesOff b a t else t

theorem axWake_eq (b : Nat) (t : State) : axWake b t = forAll [0, 1, 2] (axWoken b) t := rfl

theorem axLeavesOff_atLink (ha : a < 3) (u : State) : AtLink stepperParts b u (axLeavesOff b a u) (wakeFields b a) := by
  have hresync : AtLink stepperParts b u (resync b a u) (wakeFields b a) := by
    unfold resync
    split_ifs
    · exact atLink_put (by simp [wakeFields])
    · exact AtLink.refl ..
    · exact atLink_put (by simp [wakeFields])
  exact AtLink.thenPut (startDrive_atLink hresync rfl rfl rfl (by omega)) (List.mem_cons_self ..)

theorem stepEn_axLeavesOff (b a : Nat) (u : State) : (busOf (axLeavesOff b a u) b).stepEn = (busOf u b).stepEn := by
  rw [axLeavesOff, busOf_put, stepEn_startDrive, busOf_resync]

/-- What lets an axis leave OFF, and whether it has left (R269). -/
def wakeView (b a : Nat) (s : State) : Nat × Nat × Bool := (axSt s b a, Machine.get s (F.MOV_AX_CTRL_EN b a), (busOf s b).stepEn)

theorem axis_mem (ha : a < 3) : a ∈ [0, 1, 2] := by
  simp only [List.mem_cons, List.not_mem_nil, or_false]
  omega

theorem wakeView_axWoken_ne (hb : b < 32) (ha : a < 3) (hi : i < 3) (hne : i ≠ a) (u : State) : wakeView b a (axWoken b i u) = wakeView b a u := by
  unfold axWoken
  split
  · obtain ⟨hen, hst⟩ := wake_apart b hb a (axis_mem ha) i (axis_mem hi)
    have hframe := axLeavesOff_atLink (b := b) hi u
    have hstate : axSt (axLeavesOff b i u) b a = axSt u b a := hframe.get (hst.resolve_left hne)
    rw [wakeView, hstate, hframe.get hen, stepEn_axLeavesOff, ← wakeView]
  · rfl

/-- An enabled axis is out of OFF after its waking (R269, R270). -/
theorem axSt_axWoken (hen : Machine.get u (F.MOV_AX_CTRL_EN b a) = 1) (hstep : (busOf u b).stepEn = true) : axSt (axWoken b a u) b a ≠ 0 := by
  unfold axWoken
  split
  · have hone : axSt (axLeavesOff b a u) b a = 1 := get_put_same (F.MOV_AX_STATUS_STATE b a) 1 _
    omega
  · next h => exact fun h0 => h ⟨h0, hen, hstep⟩

theorem axSt_stepperOn (hb : b < 32) (ha : a < 3) (hen : Machine.get u (F.MOV_AX_CTRL_EN b a) = 1) : axSt (stepperOn b u) b a ≠ 0 := by
  have hup : (busOf (updBus b (fun l => { l with stepEn := true }) u) b).stepEn = true := by rw [busOf_updBus, if_pos rfl]
  refine forAll_at (wakeView b a) (post := fun v => v.1 ≠ 0) (f := axWoken b) (by decide) (axis_mem ha) (fun i hi hne u => ?_) fun v hv => ?_
  · exact wakeView_axWoken_ne hb ha (by simp at hi; omega) hne u
  · simp only [wakeView, Prod.mk.injEq] at hv
    obtain ⟨-, hven, hvup⟩ := hv
    exact axSt_axWoken (hven.trans hen) (hvup.trans hup)

/-- The stepper enable of another bay leaves an axis's state and its own enable. -/
theorem axField_apart (hb : b < 32) (hj : j < 32) (hne : b ≠ j) (ha : a < 3) {f : Fld} (hf : f ∈ [F.MOV_AX_STATUS_STATE j a, F.MOV_AX_CTRL_EN j a]) :
    f.key ∉ (stepFields b).map Fld.key := fun hx => by
  obtain ⟨g, hg, e⟩ := List.mem_map.1 hx
  have hblock := axFields_block j hj a (axis_mem ha) f hf
  rw [← e] at hblock
  rcases stepFields_block b hb g hg with h | h <;> omega

theorem stepperOn_frame (b : Nat) (u : State) : AtLink stepperParts b u (stepperOn b u) (stepFields b) :=
  stepperOn_atLink (AtLink.refl ..) rfl rfl rfl

/-! ### The latch is cleared -/

theorem exec_ovClr (hi : carInst s c = true) (hv : Machine.get s (F.CMOT_BUS_STATUS_V c) < 54000) (ho : Machine.get s (F.CMOT_STATUS_OV_LATCHED c) ≠ 0) :
    exec (.ovClr c) s = .next (forAll ((baysOfCar s c).filter (linkUp s)) stepperOn (put (F.CMOT_STATUS_OV_LATCHED c) 0 s)) :=
  if_neg (by rw [hi]; simp only [Bool.true_eq_false, false_or]; omega)

/-- The stepper enable of a bay whose link is up is set, and its enabled axes are out of OFF. -/
theorem bay_woken (hc : c < 4) (hb : b ∈ (baysOfCar s c).filter (linkUp s)) (ha : a < 3) (hen : Machine.get s (F.MOV_AX_CTRL_EN b a) = 1) :
    axSt (forAll ((baysOfCar s c).filter (linkUp s)) stepperOn (put (F.CMOT_STATUS_OV_LATCHED c) 0 s)) b a ≠ 0 := by
  have hlt {i : Nat} (hi : i ∈ (baysOfCar s c).filter (linkUp s)) : i < 32 := lt_of_mem_baysOfCar (List.mem_filter.1 hi).1
  obtain ⟨-, hlatch⟩ := ovCar_apart c hc b (hlt hb)
  refine forAll_at (fun u => (axSt u b a, Machine.get u (F.MOV_AX_CTRL_EN b a))) (post := fun v => v.1 ≠ 0) ((nodup_baysOfCar s c).filter _) hb
    (fun i hi hne u => ?_) fun u hu => axSt_stepperOn (hlt hb) ha ?_
  · have hkeep := fun f hf => (stepperOn_frame i u).get (axField_apart (hlt hi) (hlt hb) hne ha (f := f) hf)
    have hstate : axSt (stepperOn i u) b a = axSt u b a := hkeep _ (by simp)
    rw [hstate, hkeep (F.MOV_AX_CTRL_EN b a) (by simp)]
  · exact ((congrArg Prod.snd hu).trans (get_put_ne _ _ _ _ (hlatch a ha))).trans hen

theorem completes_ovClr (hi : carInst s c = true) (hv : Machine.get s (F.CMOT_BUS_STATUS_V c) < 54000)
    (ho : Machine.get s (F.CMOT_STATUS_OV_LATCHED c) ≠ 0) :
    Completes (.ovClr c) s fun t =>
      Machine.get t (F.CMOT_STATUS_OV_LATCHED c) = 0 ∧ (∀ b ∈ baysOfCar s c, linkUp s b = true → (busOf t b).stepEn = true ∧
        ∀ a < 3, Machine.get s (F.MOV_AX_CTRL_EN b a) = 1 → axSt t b a ≠ 0) ∧
      (∀ j, (j ∉ baysOfCar s c ∨ linkUp s j = false) → busOf t j = busOf s j) ∧
      (∀ j i, j ∉ baysOfCar s c → i < 4 → axOf t j i = axOf s j i) ∧
      inner t = { inner s with buses := t.buses, axes := t.axes, force := t.force } ∧
      OnlyFields s t (F.CMOT_STATUS_OV_LATCHED c :: (baysOfCar s c).flatMap stepFields) := by
  have hc := carInst_lt hi
  set l := (baysOfCar s c).filter (linkUp s) with hl
  have hbays {b : Nat} (hb : b ∈ l) : b ∈ baysOfCar s c := (List.mem_filter.1 hb).1
  have hframe : ∀ b ∈ l, ∀ u, AtLink stepperParts b u (stepperOn b u) ((baysOfCar s c).flatMap stepFields) := fun b hb u =>
    (stepperOn_frame b u).mono fun f hf => List.mem_flatMap.2 ⟨b, hbays hb, hf⟩
  obtain ⟨hparts, honly⟩ := forAll_parts hframe (put (F.CMOT_STATUS_OV_LATCHED c) 0 s)
  refine completes_of_exec (exec_ovClr hi hv ho) ⟨?_, fun b hb hup => ⟨?_, fun a ha hen => ?_⟩, fun j hj => ?_, fun j i hj hi4 => ?_, ?_, ?_⟩
  · refine (forAll_keeps (Machine.get · (F.CMOT_STATUS_OV_LATCHED c)) (fun b hb u => ?_) _).trans (get_put_same ..)
    exact (stepperOn_frame b u).get (ovCar_apart c hc b (lt_of_mem_baysOfCar (hbays hb))).1
  · exact forAll_at (busOf · b) (post := fun v => v.stepEn = true) ((nodup_baysOfCar s c).filter _) (List.mem_filter.2 ⟨hb, hup⟩)
      (fun i _ hne u => (stepperOn_frame i u).bus b (Ne.symm hne)) fun u _ => stepEn_stepperOn b u
  · exact bay_woken hc (List.mem_filter.2 ⟨hb, hup⟩) ha hen
  · have hout : j ∉ l := fun h => by
      obtain ⟨hmem, hup⟩ := List.mem_filter.1 h
      rcases hj with hj | hj
      · exact hj hmem
      · exact absurd (hup.symm.trans hj) (by decide)
    exact forAll_keeps (busOf · j) (fun b hb u => (stepperOn_frame b u).bus j fun e => hout (e ▸ hb)) _
  · exact forAll_keeps (axOf · j i) (fun b hb u => (stepperOn_frame b u).ax j i (fun e => hj (e ▸ hbays hb)) hi4) _
  · exact congrArg (fun u : State => { u with buses := (forAll l stepperOn (put (F.CMOT_STATUS_OV_LATCHED c) 0 s)).buses,
                                              axes := (forAll l stepperOn (put (F.CMOT_STATUS_OV_LATCHED c) 0 s)).axes,
                                              force := (forAll l stepperOn (put (F.CMOT_STATUS_OV_LATCHED c) 0 s)).force }) hparts
  · exact only_trans (only_put (only_refl s _) (by simp)) (only_mono honly fun f hf => List.mem_cons_of_mem _ (List.mem_map_of_mem hf))

end stepper

/-- Settles O25, clause by clause: each command's branch, then the walks over the bays of a carousel's leaf. -/
theorem spindleCommandsAndMotorBus : Obligations.SpindleCommandsAndMotorBus :=
  ⟨fun _ _ hi hen hg => completes_setSpeed hi hen hg,
    fun _ _ hi hr => completes_setSpeed_refused hi hr,
    fun _ _ hi hen h8 => completes_spindleStop hi hen h8,
    fun _ _ hi hen h8 => completes_spindleCoast hi hen h8,
    fun _ _ hi h8 hs => completes_motClearFault hi h8 hs,
    fun _ _ _ hi h4 => completes_motCmdRefused hi h4,
    fun _ _ _ hi => completes_motEnable hi,
    fun _ _ hi => completes_motClrCnt hi,
    fun _ _ hi hr hf => completes_chopperFault hi hr hf,
    fun _ _ hi hv => completes_chopFaultClr hi hv,
    fun _ _ hi hv ho => completes_ovClr hi hv ho⟩

end Sys2Proof.Proofs
end
